-- ==== Sys2Proof/Word.lean ====
section
/-! DEFINITION. The word types of the PX2 (spec/00_scope.md R1: registers are 32 bits wide; memory is bytes). -/

namespace Sys2Proof

/-- A byte of memory or of a packet. -/
abbrev Byte := BitVec 8

/-- A register word (R1). -/
abbrev Word := BitVec 32

end Sys2Proof
end

