-- ==== Sys2Proof/Syntax.lean ====
section
/-! DEFINITION. The commands that the PX2 takes: one constructor for each row of the opcode table. The operands are what reaches the
part from outside with the command: the word of a bus write and its master, a packet's bytes, a pin's level, a measured value. -/

namespace Sys2Proof

/-- Who makes a bus access (spec/15_faults.md R366, FLT_CAPk_INFO.MASTER and MIDX). -/
inductive Master where
  | engine (e : Fin 16)
  | stageArray
  | netDma (n : Fin 2)
  | pair
  | cvu (u : Fin 4)
  | debug
  | other
  | none
deriving DecidableEq, Repr

/-- The access type of an occurrence (R366, FLT_CAPk_INFO.ACCESS). -/
inductive Access where | none | read | write | fetch
deriving DecidableEq, Repr

/-- One report of a fault source to the collector (R350). -/
structure Occurrence where
  /-- fault source, 0 to 95 -/
  src : Nat
  /-- the unit that fence-and-degrade would isolate -/
  unit : Option Nat
  /-- 36-bit address -/
  addr : Nat
  master : Master
  access : Access
deriving DecidableEq, Repr

/-- What an engine's own instructions have made of its context by the instant of a command (spec/16_engines_events.md R367): the
address of its next instruction, its mode, its general registers and its CSRs. The instructions themselves are not commands. -/
structure EngView where
  pc : Word
  machine : Bool
  mie : Bool
  mtvec : Word
  mpie : Bool := false
  mpp : Bool := false
  mprv : Bool := false
  tw : Bool := false
  mcounteren : Word := 0
  mcountinhibit : Word := 0
  mepc : Word := 0
  mcause : Word := 0
  mtval : Word := 0
  mscratch : Word := 0
  x : Vector Word 32 := .replicate 32 0
  pmpcfg : Vector Byte 16 := .replicate 16 0
  pmpaddr : Vector Word 16 := .replicate 16 0
  mcycle : BitVec 64 := 0
  minstret : BitVec 64 := 0
deriving DecidableEq, Repr

/-- Where in a logical tile a span check met a failed read: at a control point, in storage order, or at a line (spec/04_warp.md R91). -/
inductive SpanSpot where
  | point (p : Fin 1089)
  | line (y : Fin 512)
deriving DecidableEq, Repr

/-- Where a span check met a failed read: the logical tile, and the place in it (spec/04_warp.md R91). -/
abbrev SpanFault : Type := Fin 12 × SpanSpot

/-- The register that a read of a time domain names (spec/13_network_time.md R306). -/
inductive TimePart where | ns | secLo | secHi
deriving DecidableEq, Repr

/-- Why a receiver loses lock (spec/08_serial_lanes.md R205): invalid sync headers among 64, or the best score of 1 ms of windows, as the
openings H and V. -/
inductive LossCause where
  | headers (n : Fin 65)
  | eye (h v : Fin 65)
deriving DecidableEq, Repr

/-- A block whose C fields commit with the frame path (spec/00_scope.md R7). -/
inductive CommitBlock where | sa | layer | ft | hlth | lsc
deriving DecidableEq, Repr

/-- What goes wrong as a frame is received (spec/13_network_time.md R297, R315): nothing, the receive FIFO overflows, or the descriptor
access meets an uncorrectable error. -/
inductive NetTrouble where | none | overflow | uncorrectable
deriving DecidableEq, Repr

/-- The access of a transmission that meets an uncorrectable error (spec/13_network_time.md R297): none, the read of its descriptor, of its frame
at an offset, or of the next descriptor. -/
inductive TxTrouble where | none | descriptor | frame (off : BitVec 16) | next
deriving DecidableEq, Repr

/-- The commands of the PX2: one constructor for each row of spec/opcode_table.json, in the table's order, with the rule that
governs it. -/
inductive Instr where
  /-- A whole-word write to a register field that has no row of its own stores the value according to its access type and update class. (R3) -/
  | registerWrite (m : Master) (addr size : Nat) (v : Word)
  /-- At T_n minus 2 line periods, each frame-path block with a pending commit captures its shadow set for boundary n. (R6) -/
  | commitGuard
  /-- While frame timing is off, an accepted commit goes live up to 50 us after its commit bit is set, once the block has loaded its tables. (R7) -/
  | immediateCommitLive (b : CommitBlock)
  /-- FT fixes the instant A_m of the next boundary, at least 10 us ahead, from pass-A readiness and the schedule. (R130) -/
  | boundaryFix
  /-- Each mapped port sends LATCH at A_m minus d_k, unless LATCH is withheld. (R130) -/
  | latchDeparture (missed : BitVec 12)
  /-- At A_m the tiles latch, the captured C-class sets go live, pass A starts frame m and pass B starts streaming its stream source. (R131) -/
  | frameBoundary (calp : List (Fin 4096))
  /-- Pass A reports done for its frame, which makes the frame a stream source for the next boundary. (R129) -/
  | passADone (kalCrc : Word)
  /-- A pass A not done by T_m + P - 10 us is abandoned, boundary m is skipped and m + 1 becomes a restart boundary. (R133) -/
  | passAAbandon
  /-- When T_m passes without boundary m, FT sets LATE and fires FT_SCHED. (R146) -/
  | nominalBoundaryPassed
  /-- Line slot k begins, and each mapped port sends LINE k of the stream. (R128) -/
  | lineSlotStart (lacking : BitVec 12)
  /-- A port line buffer crossing WMARK moves its DD fetches into or out of the urgent class. (R136) -/
  | lineBufferWatermark (p : Fin 12) (lines : Fin 5)
  /-- SOB fires at the end of the last active line slot. (R142) -/
  | startOfBlanking
  /-- Within 2 line periods after SOB, KAL checks the pass-B CRC and on failure withholds LATCH for the streamed frame. (R43) -/
  | kalPassBCheck (kalCrc : Word)
  /-- FT_LM fires at the start of the selected line slot. (R142) -/
  | lineMatch
  /-- A set of FT_CTRL.EN that meets its conditions selects the first boundary n0; a set while a clear is pending withdraws the clear. (R140) -/
  | ftEnable (m : Master) (v : Word)
  /-- A clear of FT_CTRL.EN stops the raster at the next boundary after the current stream latches. (R141) -/
  | ftDisable (m : Master) (v : Word)
  /-- Setting FT_CTRL.COMMIT requests a commit of t_base. (R145) -/
  | ftCommit (m : Master) (v : Word)
  /-- A write of SA_CTRL.EN checks the DD region and the fences before enabling; a clear while frame timing is enabled is refused. (R111) -/
  | saEnable (m : Master) (v : Word)
  /-- Setting SA_CTRL.COMMIT requests a commit of SA_BANK_SEL and the SA_DRV fields. (R38) -/
  | saCommit (m : Master) (v : Word)
  /-- SA_LOAD_CTRL.START begins loading a structure image into a scene bank, or is refused with code 0x0A. (R34) -/
  | saLoadStart (m : Master) (v : Word)
  /-- SA_LOAD_CTRL.ABORT ends a load in progress with code 0x0F. (R36) -/
  | saLoadAbort (m : Master) (v : Word)
  /-- A load ends with DONE and the bank valid, or with ERR and a code, and raises SA_LOAD. (R36) -/
  | saLoadEnd (readError : Option Nat)
  /-- SA_DIAG_CTRL.START begins a QUICK or FULL self-test of one cell. (R45) -/
  | saDiagStart (m : Master) (v : Word)
  /-- A cell self-test completes and reports PASS or its failing unit. (R45) -/
  | saDiagDone (fail : Option (Fin 8))
  /-- An uncorrectable cell data-memory error sets DED, raises FLT_SA_ECC and fails the served frame's known-answer check. (R46) -/
  | saEccDed (cell : Fin 128) (passB : Bool) (corrected : BitVec 16)
  /-- A write to SA_FENCE0-3 fences cells. (R47) -/
  | saFenceSet (m : Master) (k : Fin 4) (v : Word)
  /-- A write of LAYER_CTRL.EN enables composition; a clear while frame timing is enabled is refused. (R77) -/
  | layerEnable (m : Master) (v : Word)
  /-- Setting LAYER_CTRL.COMMIT requests a commit of every layer shadow and queues span checks. (R65) -/
  | layerCommit (m : Master) (v : Word)
  /-- Within 5 us after a flip or table change goes live, the SCANOUT agent hands on the unreferenced old slots. (R62) -/
  | scanoutAgentHandover
  /-- A bus or uncorrectable error on a pass-A fetch marks the DD frame bad and raises FLT_LAYER_FETCH. (R64) -/
  | fetchError (l : Fin 8) (addr : Nat)
  /-- A write of MASKIN_CTRL.EN starts reception; a clear while a layer uses MASKIN is refused. (R73) -/
  | maskinEnable (m : Master) (v : Word)
  /-- A CSI-2 frame-start packet opens a new mask frame and discards any open frame. (R67) -/
  | maskinFrameStart (hdr : Word)
  /-- A frame-end packet closes the mask frame as complete or discards it as bad. (R67) -/
  | maskinFrameEnd (hdr : Word)
  /-- An accepted long packet is written as the next mask line or discarded as an orphan or a CRC failure. (R67) -/
  | maskinLongPacket (hdr : Word) (data : List Byte) (crc : BitVec 16)
  /-- Line start, line end and generic short packets are ignored. (R67) -/
  | maskinShortPacket (hdr : Word)
  /-- A packet header with an uncorrectable ECC error is discarded, and an open frame is marked bad. (R67) -/
  | maskinHeaderEccError
  /-- A packet of another data type or virtual channel is discarded and counted. (R67) -/
  | maskinOtherPacket (hdr : Word)
  /-- A mask becomes complete within 2 us after its frame-end packet, replacing and dropping any untaken mask. (R69) -/
  | maskComplete
  /-- A gap longer than LINE_TMO discards the partial frame and sets TIMEOUT. (R70) -/
  | maskinLineTimeout
  /-- A write by another master to a protected region gets a bus error and is logged as a MINOR fault. (R68) -/
  | protectedRegionWrite (m : Master) (addr : Nat) (data : List Byte)
  /-- The checker starts walking the lowest queued layer once its mesh set is stable. (R92) -/
  | spanCheckStart
  /-- A span-check walk completes, passing or recording its code, tile and line. (R91) -/
  | spanCheckDone (error : Option SpanFault)
  /-- A tap read outside the line-buffer window uses the nearest row, is counted and raises FLT_LAYER_CLAMP. (R89) -/
  | warpTapClamp (l : Fin 8) (taps : Nat)
  /-- A read error on the drive tables, health map or DD buffer aborts the frame and raises FLT_SA_DRV. (R123) -/
  | driveReadError (passB : Bool) (addr : Nat)
  /-- A write of TL_CTRL.EN enables the port and starts training if it is mapped. (R153) -/
  | tlEnable (p : Fin 12) (m : Master) (v : Word)
  /-- TL_CTRL.RETRAIN drops the port to DOWN and starts training again. (R194) -/
  | tlRetrain (p : Fin 12) (m : Master) (v : Word)
  /-- During training, the PX2 sends CAPS every 100 us. (R153) -/
  | trainingCapsSend (p : Fin 12)
  /-- A tile CAPS is checked to fix the version and rate, or rejects the port; an unasked CAPS drops the port to DOWN. (R156) -/
  | capsRx (p : Fin 12) (data : List Byte)
  /-- No tile CAPS within 10 ms of lock fails training with code 0x01. (R156) -/
  | capsTimeout (p : Fin 12)
  /-- A change to 6.4 Gb/s relocks both lanes, or falls back to 3.2 Gb/s with code 0x06. (R153) -/
  | rateRelock (p : Fin 12) (eye : Option (Fin 65 × Fin 65))
  /-- Eight latency probes complete and d_k is computed. (R158) -/
  | latencyProbeSet (p : Fin 12) (rtt : List Nat)
  /-- Once per second in blanking, a READY or STREAMING port probes its latency again. (R158) -/
  | periodicProbe (p : Fin 12) (rtt : List Nat)
  /-- No CONFIG_OK within 1 ms of CONFIG fails training with code 0x08. (R156) -/
  | configOkTimeout (p : Fin 12)
  /-- TL_CTRL.CLAIM sends an EPOCH packet carrying TL_EPOCH. (R188) -/
  | tlClaim (p : Fin 12) (m : Master) (v : Word)
  /-- TL_CTRL.FENCE fences the port, which then sends no packets. (R191) -/
  | tlFence (p : Fin 12) (m : Master) (v : Word)
  /-- TL_CTRL.FB_START uploads a house-light frame with BEGIN, DATA and COMMIT, or is refused. (R184) -/
  | fbStart (p : Fin 12) (m : Master) (v : Word)
  /-- A FALLBACK ACK or NAK from the tile sets FB_DONE or FB_ERR. (R184) -/
  | fbReplyRx (p : Fin 12) (data : List Byte)
  /-- No FALLBACK answer within 600 ms sets FB_ERR. (R184) -/
  | fbTimeout (p : Fin 12)
  /-- An accepted HEALTH is passed to LSC, THM and HLTH and mirrored in the TL_HLTH registers. (R179) -/
  | healthRx (p : Fin 12) (data : List Byte)
  /-- An accepted DIAG_RET is passed to HLTH. (R177) -/
  | diagRetRx (p : Fin 12) (data : List Byte)
  /-- A stale EPOCH reply sets TL_STATUS.STALE and raises FLT_TL_STALE. (R188) -/
  | staleReplyRx (p : Fin 12) (data : List Byte)
  /-- A CAP_SEQ not acknowledged in HEALTH within CAPACK_TMO sets CAPACK_ERR and raises FLT_TL_CAPACK. (R173) -/
  | capackTimeout (p : Fin 12)
  /-- A port sends IDLE if it has sent nothing for 250 us. (R152) -/
  | idleKeepalive (p : Fin 12)
  /-- A bad upstream packet is discarded and counted, and more than 16 trailer errors in a second raise FLT_TL_RXERR. (R189) -/
  | upstreamPacketError (p : Fin 12) (blocks : List (BitVec 2 × BitVec 64))
  /-- No valid packet for RX_TMO_MS drops the port to DOWN. (R190) -/
  | tlRxTimeout (p : Fin 12)
  /-- With AUTO_RETRAIN set, a DOWN or FAILED port retrains after 100 ms. (R190) -/
  | autoRetrainTimer (p : Fin 12)
  /-- A write of LANE_CTRL.IDLE_REQ puts TX into electrical idle, or starts a fast exit when cleared. (R202) -/
  | laneIdleReq (j : Fin 15) (m : Master) (v : Word)
  /-- A TX lane leaving idle sends the training burst and then a FILL block. (R203) -/
  | idleExit (j : Fin 15) (marker : Option Word)
  /-- A receiver reaches LOCKED once the CDR, block lock and eye score hold. (R205) -/
  | laneLockAcquired (j : Fin 15) (h v : Fin 65)
  /-- A receiver loses lock on invalid sync headers or a low eye, and a tile port goes DOWN. (R205) -/
  | laneLockLoss (j : Fin 15) (cause : LossCause)
  /-- At the end of each monitoring window, the eye score updates and EYE_LOW is set or cleared. (R206) -/
  | eyeWindowEnd (j : Fin 15) (h v : Fin 65) (taps : BitVec 30)
  /-- LANE_CTRL.ADAPT reruns CTLE and DFE adaptation. (R208) -/
  | laneAdapt (j : Fin 15) (m : Master) (v : Word)
  /-- Adaptation ends with the best CTLE code kept. (R208) -/
  | adaptationDone (j : Fin 15) (scores : List Byte) (h v : Fin 65) (taps : BitVec 30)
  /-- A write of PRBS_TX or PRBS_RX enters or leaves pattern mode, or is refused while the port is enabled. (R209) -/
  | lanePrbsConfig (j : Fin 15) (m : Master) (v : Word)
  /-- LANE_CTRL.INJ_ONE inverts one bit at the next block boundary. (R210) -/
  | injOne (j : Fin 15) (m : Master) (v : Word)
  /-- LANE_CTRL.INJ_BURST inverts INJ_LEN bits at the next block boundary. (R210) -/
  | injBurst (j : Fin 15) (m : Master) (v : Word)
  /-- A lane PLL losing lock makes its lanes lose lock and raises FLT_LANE_PLL. (R212) -/
  | lanePllLoss (net : Bool)
  /-- A write of HLTH_CTRL.EN enables or disables scanning and map use from the next boundary. (R230) -/
  | hlthEnable (m : Master) (v : Word)
  /-- HLTH_CTRL.COMMIT requests a commit of HLTH_SCAN. (R236) -/
  | hlthCommit (m : Master) (v : Word)
  /-- HLTH_FORCE.GO queues a class update for one pixel, or is refused while the queue is full. (R228) -/
  | hlthForce (m : Master) (v : Word)
  /-- HLTH_CTRL.CAPTURE starts a baseline capture at the next boundary. (R222) -/
  | hlthCapture (m : Master) (v : Word)
  /-- At most once per REPORT_MS, HLTH_REPORT fires while the report FIFO is not empty. (R232) -/
  | hlthReportTimer
  /-- HLTH_RPT_POP removes the oldest report entry. (R232) -/
  | hlthRptPop (m : Master) (v : Word)
  /-- A set of LSC_CTRL.EN enters HANDOVER and averages VLED, or is refused with WERR. (R240) -/
  | lscEnable (m : Master) (v : Word)
  /-- After averaging, the LSC starts LSPWM at D_INIT, raises LSEN and enters CONTROL. (R240) -/
  | lscHandoverDone (codes : Vector (Fin 4096) 20)
  /-- A clear of EN, a protection trip, LPWR off, a reset or a demotion releases the stage. (R241) -/
  | lscRelease
  /-- Every 1 us, the voltage loop updates the integrator and the duty. (R244) -/
  | lscLoopUpdate (code : Fin 4096)
  /-- Each new phase-current sample updates that phase's balance term. (R245) -/
  | lscPhaseSample (ph : Fin 4) (code : Fin 4096)
  /-- LSC_CTRL.COMMIT requests a commit of VF, TGT, VMIN and VMAX. (R258) -/
  | lscCommit (m : Master) (v : Word)
  /-- The ISNS comparator ends a phase's on-time above OC_TH and counts it. (R254) -/
  | phaseOvercurrent (ph : Fin 4) (again : Bool)
  /-- OC_CNT consecutive over-current cycles release the stage and raise FLT_LSC_OC. (R254) -/
  | persistentOvercurrent
  /-- VLED above VOV for 1 us releases the stage and raises FLT_LSC_OV. (R254) -/
  | overVoltage
  /-- VLED short of the setpoint by UV_MARGIN for UV_US releases the stage and raises FLT_LSC_UV. (R254) -/
  | underVoltage
  /-- LSFLT_N low for 1 us releases the stage and raises FLT_LSC_EXT. (R254) -/
  | stageFault
  /-- A write of THM_CTRL.EN starts stepping the model, or stops it and sets every thermal limit to 255. (R266) -/
  | thmEnable (m : Master) (v : Word)
  /-- THM_CTRL.COMMIT requests a commit that goes live at the next model step. (R266) -/
  | thmCommit (m : Master) (v : Word)
  /-- Every 1 ms, THM steps every zone's model and publishes T_z and ZLIM. (R265) -/
  | thmModelStep (ain : Vector (Vector (Fin 4096) 16) 8)
  /-- Every 100th step, THM adjusts each zone's throttle step and the total step. (R267) -/
  | thmTick
  /-- A sensor whose deviation has exceeded DEV_TH for 2,000 ms becomes suspect. (R262) -/
  | thmSensorSuspect (ntc : Bool) (t : Fin 12) (k : Fin 8)
  /-- A tile median residual outside MODEL_DEV for 10 s sets MODEL and may pull the model up. (R263) -/
  | thmModelDeviation (t : Fin 12)
  /-- No HEALTH for 3 x HEALTH_MAX_MS makes that tile's sensors invalid. (R259) -/
  | tileSensorTimeout (p : Fin 12)
  /-- Every 100 us, THM updates TDIE and sets or clears DIE_HOT and DIE_OVR. The operands are DTS0 to DTS3 in 2^-8 °C. (R270) -/
  | dieTempSample (d0 d1 d2 d3 : Int)
  /-- The PX2 releases the stage, silences the links, asserts FAULT_N and powers off every domain but AON. (R271) -/
  | thermalShutdown
  /-- A store write still running 2 ms after T_SHUT is abandoned, and the shutdown proceeds. (R272) -/
  | shutdownDeferLimit
  /-- The AON comparator at T_CRIT forces a thermal shutdown within 10 us. (R270) -/
  | tCritComparator
  /-- After a T_SHUT shutdown with SHUT_AUTO set, the PX2 restarts once the die is below 100 C. (R271) -/
  | thermalRestart
  /-- A write of CAL_CTRL.EN enables ADC correction and runs, and starts a correction measurement. (R278) -/
  | calEnable (m : Master) (v : Word)
  /-- Every CORR_MS, CAL starts measuring the zero and CALREF of each range. (R278) -/
  | adcCorrMeasure
  /-- A range measurement completes and accepts a new gain and offset, or sets ADC_ERR. (R278) -/
  | adcCorrDone (z c : List (BitVec 18)) (calp : List (Fin 4096))
  /-- CAL_CTRL.START begins a statistical calibration run, or is refused during a run. (R280) -/
  | calStart (m : Master) (v : Word)
  /-- Every INTERVAL minutes a run starts. (R280) -/
  | calIntervalTimer
  /-- Every 100 ms, CAL forms Tm and starts a run when it has moved by more than DT. (R283) -/
  | calTempCheck
  /-- A run without a sufficient block by RUN_TMO ends with INSUFF. (R280) -/
  | calRunTimeout
  /-- After a successful run, record 0x01 is written to the store once it is free. (R282) -/
  | autoSaveWrite
  /-- CAL_EXT_CTRL.START begins the external reference procedure. (R284) -/
  | calExtStart (m : Master) (v : Word)
  /-- CAL_EXT_CTRL.STEP averages the next 16 accepted samples into one step. (R284) -/
  | calExtStep (m : Master) (v : Word)
  /-- CAL_EXT_CTRL.FINISH computes SCORR, ki and i0 from the steps. (R284) -/
  | calExtFinish (m : Master) (v : Word)
  /-- CAL_EXT_CTRL.ABORT ends the procedure and keeps every previous value. (R284) -/
  | calExtAbort (m : Master) (v : Word)
  /-- CAL_NV_CTRL.READ copies the newer valid copy of a record into the staging window. (R287) -/
  | nvRead (m : Master) (v : Word)
  /-- CAL_NV_CTRL.WRITE stores the window under an ID in the older copy, or is refused. (R286) -/
  | nvWrite (m : Master) (v : Word)
  /-- A store write completes with a read-back check, setting DONE or code 0x04. (R286) -/
  | nvWriteDone (ok : Bool)
  /-- A write of NET_CTRL.EN enables the port or puts its TX lane into idle. (R291) -/
  | netEnable (n : Fin 2) (m : Master) (v : Word)
  /-- Link status changes from auto-negotiation or PCS synchronisation. (R291) -/
  | netLinkChange (n : Fin 2) (up : Bool) (mbps : Nat) (full : Bool)
  /-- NET_CTRL.RX_KICK rescans the receive ring. (R294) -/
  | netRxKick (n : Fin 2) (m : Master) (v : Word)
  /-- NET_CTRL.TX_KICK rescans the transmit ring. (R294) -/
  | netTxKick (n : Fin 2) (m : Master) (v : Word)
  /-- A received frame is filtered, timestamped and delivered to a receive descriptor, or dropped. (R292) -/
  | netFrameRx (n : Fin 2) (frame : List Byte) (trouble : NetTrouble) (errs : List (Fin 72 × Byte))
  /-- A transmit descriptor's frame is sent, with one-step PTP rewrite and PRP duplication as requested, and written back. (R296) -/
  | netFrameTx (n : Fin 2) (trouble : TxTrouble)
  /-- NET_MDIO_CMD.GO starts a clause 22 or 45 MDIO access. (R293) -/
  | mdioAccess (m : Master) (v : Word)
  /-- An MDIO access completes and GO clears. (R293) -/
  | mdioDone (data : Nat)
  /-- A write of TIME_Dd_CTRL.EN starts or holds the domain, or is refused for the running frame-time source. (R305) -/
  | timeDomainEn (d : Fin 2) (m : Master) (v : Word)
  /-- TIME_Dd_CTRL.LOAD requests the domain be set to the ADJ time. (R308) -/
  | timeLoad (d : Fin 2) (m : Master) (v : Word)
  /-- TIME_Dd_CTRL.STEP requests the signed ADJ value be added to the domain. (R308) -/
  | timeStep (d : Fin 2) (m : Master) (v : Word)
  /-- A pending LOAD or STEP takes effect, within 100 ns or at the next FT_SOB for the frame-time source. (R308) -/
  | timeAdjustApply (d : Fin 2)
  /-- A write of TIME_CTRL.FT_SEL switches the frame-time source at once, with a slew, or pending until SOB. (R309) -/
  | ftSourceSwitch (m : Master) (v : Word)
  /-- At the next FT_SOB, a pending stepped switch changes the frame-time source. (R309) -/
  | switchPendApply
  /-- Every 20 us of the new domain, delta moves 1 ns towards 0 until SLEWING clears. (R309) -/
  | timeSlewStep
  /-- A read of TIME_Dd_NS returns N and holds the seconds registers. (R306) -/
  | timeNsRead (d : Fin 2) (part : TimePart)
  /-- A read of FT_NEXT_NS holds the seconds registers of the next boundary. (R146) -/
  | ftNextNsRead
  /-- A selected edge on TSINk is stamped into its FIFO, or dropped with CAP_OVF. (R310) -/
  | timeCaptureEdge (k : Fin 4) (rising : Bool)
  /-- A read of TIME_CAPk_INFO removes the oldest capture entry. (R310) -/
  | timeCapInfoRead (k : Fin 4)
  /-- PPS_OUT rises at each whole second plus OFS and fires TIME_PPS. (R311) -/
  | ppsEdge
  /-- A cue fires when its domain reaches the compare time, driving TSOUTk and raising TIME_CUEk. (R312) -/
  | cueFire (k : Fin 2)
  /-- SAFE_CTRL.EN enables the island until reset, latches the seal pattern and sets the caps. (R320) -/
  | safeEnable (m : Master) (v : Word)
  /-- SAFE_CTRL.ACK clears DISC and TP_ERR if every interlock has cycled, or is refused. (R335) -/
  | safeAck (m : Master) (v : Word)
  /-- A write of SAFE_CTRL.RESTRICT requests or releases the RESTRICTED state. (R322) -/
  | safeRestrict (m : Master) (v : Word)
  /-- A write of SAFE_CTRL.FB_REQ requests or releases FALLBACK. (R322) -/
  | safeFbReq (m : Master) (v : Word)
  /-- SAFE_CTRL.PROOF_REQ sets PROOF_DUE. (R337) -/
  | proofReq (m : Master) (v : Word)
  /-- SAFE_CTRL.PROOF_CLR clears PROOF_DUE. (R337) -/
  | proofClr (m : Master) (v : Word)
  /-- SAFE_CTRL.CMON_TEST feeds each clamp monitor a compare value above the cap. (R328) -/
  | cmonTest (m : Master) (v : Word)
  /-- The monitor test ends with CMON_OK or CLAMP_ERR. (R328) -/
  | cmonTestDone (ok : Bool)
  /-- An outgoing word or ZONE cap above the island's cap sets CLAMP_ERR and raises FLT_SAFE_CLAMP. (R328) -/
  | clampMonitorTrip (p : Fin 12)
  /-- Every 10 ms the island reads the seal switches and flags invalid or changed patterns. (R329) -/
  | sealRead (p n : Byte)
  /-- Every 50 us the island samples each interlock input and updates its filtered level. (R332) -/
  | interlockSample (levels masked : Fin 16)
  /-- At each test pulse, each channel is checked, and two consecutive failures set TP_ERR. (R333) -/
  | testPulseCheck (src : Fin 2) (before low after : Fin 16)
  /-- Each 1 ms tick counts channel disagreement, and reaching tDISC sets DISC. (R334) -/
  | discrepancyTick
  /-- After CAP (0, 0) has left every port, the island places every tile port in SILENT. (R325) -/
  | fallbackSilence
  /-- A copy without its twin within DUAL_WIN is rejected with code 0x04. (R340) -/
  | dualWinExpiry
  /-- WATCH_MS without an accepted message sets SYM_INHIBIT and clears every grant. (R342) -/
  | safeWatchExpiry
  /-- A write of SAFE_Lk_GBUF takes it with the staged GTBL and GHI as one grant. (R343) -/
  | safeGrantWrite (m : Master) (k : Fin 8) (v : Word)
  /-- SAFE_MBOX_POP clears MBOX_FULL. (R341) -/
  | safeMboxPop (m : Master) (v : Word)
  /-- An occurrence arriving at the collector is captured or escalated and receives its reactions. (R353) -/
  | faultOccurrence (ext : List Occurrence) (cut : List (Master × Nat × Access))
  /-- A write of FLT_ACK clears the VALID and CNT of the acknowledged class records. (R354) -/
  | fltAck (m : Master) (v : Word)
  /-- A W1C of FLT_PENDk clears a source's pending bit unless its cause is held. (R360) -/
  | fltPendClear (m : Master) (k : Fin 3) (v : Word)
  /-- FLT_CTRL.LOCK locks the source and class configuration until chip reset. (R362) -/
  | fltLock (m : Master) (v : Word)
  /-- FLT_SW.GO raises software fault source 88 + SEL. (R363) -/
  | fltSw (m : Master) (v : Word)
  /-- FLT_PIN.REL clears the AON pin latch. (R364) -/
  | fltPinRel (m : Master) (v : Word)
  /-- A W1C of FLT_FENCE_ENG releases a fenced engine from its reset vector. (R359) -/
  | fltEngineUnfence (m : Master) (v : Word)
  /-- A W1C of FLT_ZFENCEm releases a fenced zone from the next end of pass A. (R359) -/
  | fltZoneUnfence (m : Master) (k : Fin 6) (v : Word)
  /-- A W1C of FLT_FENCE_NET releases a fenced network port. (R359) -/
  | fltNetUnfence (m : Master) (v : Word)
  /-- A rising edge of an event source sets its pending bit and may wake or power up its target. (R375) -/
  | eventSourceEdge (n : Fin 128)
  /-- A write of EVC_SETPEND sets the pending bits of sources. (R375) -/
  | evcSetpend (m : Master) (k : Fin 4) (v : Word)
  /-- A W1C of EVC_PEND clears pending bits. (R375) -/
  | evcPendClear (m : Master) (k : Fin 4) (v : Word)
  /-- An engine takes its highest eligible event in 6 cycles, pushing the context and entering the vector. (R377) -/
  | eventEntry (e : Fin 16) (view : EngView) (rising : Option (Fin 128))
  /-- mret completes the most recent trap or activation and restores the context. (R379) -/
  | mret (e : Fin 16) (view : EngView)
  /-- A synchronous exception opens a trap, or halts the engine as a double trap. (R373) -/
  | syncException (e : Fin 16) (view : EngView) (cause tval : Word)
  /-- The non-maskable trap enters at EVC_ENGe_NMIVEC whatever the priorities. (R383) -/
  | nmiEntry (e : Fin 16) (view : EngView)
  /-- An engine executing wfi sleeps until an event wakes it. (R382) -/
  | wfiEnter (e : Fin 16) (view : EngView)
  /-- A write of EVC_ENGe_DROP lowers the running priority of the top activation, or is refused. (R380) -/
  | evcDrop (m : Master) (e : Fin 16) (v : Word)
  /-- A write of TARGET or FALLBACK moves a source to a new engine at the next arbitration. (R381) -/
  | evcRetarget (m : Master) (n : Fin 128) (v : Word)
  /-- A pending event undeliverable for REDIRECT_TMO is delivered to FALLBACK and raises FLT_EVC_REDIRECT. (R382) -/
  | redirectTimeout (n : Fin 128)
  /-- Setting HOLD resets the engine and discards its contexts. (R372) -/
  | engineHold (m : Master) (e : Fin 16) (v : Word)
  /-- Clearing HOLD starts the engine at EVC_ENGe_RSTVEC. (R372) -/
  | engineRelease (m : Master) (e : Fin 16) (v : Word)
  /-- A write of APER switches the DRAM aperture after the engine's issued accesses complete. (R371) -/
  | aperChange (m : Master) (e : Fin 16) (v : Word)
  /-- EVC_ENGe_WDT_CTRL.EN starts the engine watchdog. (R374) -/
  | wdtEnable (m : Master) (e : Fin 16) (v : Word)
  /-- A write to EVC_ENGe_WDT_KICK restarts both stages, or raises FLT_ENG_WDT on a wrong key. (R374) -/
  | wdtKick (m : Master) (e : Fin 16) (v : Word)
  /-- The first watchdog stage expires and raises FLT_ENG_WDT_WARN. (R374) -/
  | wdtWarnExpiry (e : Fin 16)
  /-- The second watchdog stage expires and raises FLT_ENG_WDT. (R374) -/
  | wdtTimeout (e : Fin 16)
  /-- A write to UART_DATA queues a byte for transmission, or is dropped when the FIFO is full; `sent` bytes have left since
  the last command. (R388) -/
  | uartDataWrite (m : Master) (u : Fin 2) (v : Word) (sent : Nat)
  /-- A read of UART_DATA removes a received byte. (R388) -/
  | uartDataRead (u : Fin 2)
  /-- A byte is received into the FIFO, or sets ERR. (R388) -/
  | uartRxByte (u : Fin 2) (data : Byte) (ok : Bool)
  /-- I2C_CMD.GO sends START and the address and runs the transfer. (R389) -/
  | i2cGo (m : Master) (c : Fin 3) (v : Word)
  /-- An I2C transfer ends with DONE or NACK, after its last bytes. (R389) -/
  | i2cTransferEnd (c : Fin 3) (nack : Bool) (data : List Byte) (sent : Nat)
  /-- Clock stretching beyond 10 ms sets TMO and releases the bus. (R389) -/
  | i2cStretchTimeout (c : Fin 3)
  /-- A read or write of I2C_DATA removes or queues a FIFO byte, after a transfer has received `got` or sent `sent` bytes. (R389) -/
  | i2cDataAccess (m : Master) (c : Fin 3) (w : Option Word) (got : List Byte) (sent : Nat)
  /-- A write to SPI_DATA starts one frame, or is refused while busy. (R390) -/
  | spiDataWrite (m : Master) (v : Word)
  /-- An SPI frame completes and sets DONE. (R390) -/
  | spiFrameDone (data : Word)
  /-- A selected edge on a GPIO pin sets its FLAG bit. (R390) -/
  | gpioEdge (p : Fin 16) (level : Bool)
  /-- Setting TIMk_CTRL.EN loads LOAD and starts the count. (R390) -/
  | timerEnable (m : Master) (k : Fin 4) (v : Word)
  /-- A timer reaching 0 sets FIRED and reloads if periodic. (R390) -/
  | timerExpiry (k : Fin 4)
  /-- A read of PERI_TBASE_LO holds the high word. (R390) -/
  | tbaseLoRead
  /-- A set of MEMC_CTRL.EN starts LPDDR5 training; a clear takes STATE to OFF. (R392) -/
  | memcEnable (m : Master) (v : Word)
  /-- Training ends in READY, or FAILED with FLT_MEM_TRAIN. (R392) -/
  | memcTrainingEnd (ok : Bool)
  /-- MEMC_CTRL.RETRAIN repeats full training with traffic stalled. (R392) -/
  | memcRetrain (m : Master) (v : Word)
  /-- Every 100 ms in READY, MEMC tracks the WCK2DQ oscillators. (R392) -/
  | wck2dqTracking
  /-- A DRAM read is decoded by the outer code and corrected, refused as a fold error, or reported uncorrectable. (R395) -/
  | dramRead (m : Master) (addr size : Nat) (errs : List (Fin 72 × Byte))
  /-- A write of less than a block is a read-modify-write, discarded if its read is uncorrectable; `errs` are the wrong symbols of
  the reads of its partial blocks. (R396) -/
  | dramPartialWrite (m : Master) (addr : Nat) (data : List Byte) (errs : List (List (Fin 72 × Byte)))
  /-- Scrubbing reads the next block and writes back any correction. (R397) -/
  | scrubRead (errs : List (Fin 72 × Byte)) (raced : Bool)
  /-- More than LINK_TH link-ECC corrections in a second raise FLT_MEM_LINK. (R398) -/
  | linkEccRate (corrections : Nat)
  /-- A raised refresh request from MR4 sets TEMP_HI and raises FLT_MEM_TEMP. (R398) -/
  | dramTempReport (raised : Bool)
  /-- SECDED errors on on-chip SRAM words, each an address in the word and whether it is a double-bit error, are corrected or returned as a bus
  error to the access, a write of `data` at `start`, or a read. (R401) -/
  | sramEcc (m : Master) (acc : Access) (errs : List (Nat × Bool)) (start : Nat) (data : List Byte)
  /-- A set of WIN_CTRL.EN creates the slots, all FREE, or is refused with WERR. (R402) -/
  | winEnable (m : Master) (v : Word)
  /-- WIN_CTRL.LOCK locks the WIN_ROLE registers until chip reset. (R416) -/
  | winLock (m : Master) (v : Word)
  /-- WIN_XFER.GO requests a slot hand-over, or a retire, or is refused with a code. (R405) -/
  | winXferRequest (m : Master) (v : Word)
  /-- The slot owner changes in a single cycle within 2 us of acceptance, and WIN_XFER fires. (R405) -/
  | winHandover
  /-- The SCANOUT agent hands a retired slot over once nothing references it. (R407) -/
  | winRetireHandover
  /-- A write by a master not acting for the slot's owner is blocked and raises FLT_WIN_OWNER. (R404) -/
  | slotWriteBlocked (m : Master) (addr : Nat) (data : List Byte)
  /-- WIN_DMAc_CTRL.GO starts a window DMA copy, or is refused. (R408) -/
  | winDmaGo (m : Master) (c : Fin 4) (v : Word)
  /-- A copy ends with a hand-over and DONE, or stops with ERR. (R408) -/
  | winDmaEnd (c : Fin 4) (error : Option Nat)
  /-- A channel still running TMO us after GO stops with TMO. (R408) -/
  | winDmaTimeout (c : Fin 4)
  /-- CVU_CTRL.START begins a CRC scan of a memory region. (R409) -/
  | cvuStart (m : Master) (u : Fin 4) (v : Word)
  /-- A scan ends with RESULT compared and alive-counter checks applied. (R409) -/
  | cvuScanEnd (u : Fin 4) (error : Option Nat)
  /-- PERIOD ms after a scan start, the next periodic scan starts or sets OVERRUN. (R412) -/
  | cvuPeriod (u : Fin 4)
  /-- CVU_CTRL.STOP ends periodic scanning after the current scan. (R417) -/
  | cvuStop (m : Master) (u : Fin 4) (v : Word)
  /-- PAIR_CTRL.EN starts partner-lane bring-up and HELLO exchange. (R420) -/
  | pairEnable (m : Master) (v : Word)
  /-- Every 1 ms until a HELLO is heard, the unit sends HELLO. (R423) -/
  | pairHelloSend
  /-- A received HELLO is compared, and the pair forms as PAIRED or ALONE. (R423) -/
  | pairHelloRx (data : List Byte)
  /-- When the state leaves HELLO or PAIR_START_MS passes, the unit takes the lead or understudy role. (R420) -/
  | roleDecision
  /-- Once per second, PAIR measures the partner-link delay. (R423) -/
  | pairProbe (rtt : List Nat)
  /-- A partner BEAT updates PAIR_OFFSET and may signal a faulty lead or cause a demotion. (R424) -/
  | beatRx (data : List Byte)
  /-- A partner CRC packet is compared with the own record and sets DIVERGE or advances IN_SYNC. (R429) -/
  | pairCrcRx (data : List Byte)
  /-- On the understudy, each received REG entry is written to its own register. (R425) -/
  | regMirrorRx (data : List Byte)
  /-- On the understudy, a received COMMIT captures the block's shadow set for boundary m. (R425) -/
  | commitMirrorRx (data : List Byte)
  /-- A THERM packet supplies the understudy's zone temperatures for the frame. (R426) -/
  | pairThermRx (data : List Byte)
  /-- A ZLIM packet supplies the understudy's zone limits for the frame. (R426) -/
  | pairZlimRx (data : List Byte)
  /-- An HLTH packet updates the understudy's map and retest list at its boundary. (R426) -/
  | pairHlthRx (data : List Byte)
  /-- A MASK packet is handled as a CSI-2 frame start, line or frame end on the understudy. (R426) -/
  | pairMaskRx (data : List Byte)
  /-- A STATE packet supplies KI, I0 and SCORR to the understudy's CAL. (R426) -/
  | pairStateRx (data : List Byte)
  /-- PAIR_SLOT.GO copies a slot to the partner as SLOT packets and a SLOT_END. (R427) -/
  | pairSlotGo (m : Master) (v : Word)
  /-- SLOT data is written into a PAIR-owned slot, or discarded and counted. (R427) -/
  | pairSlotRx (data : List Byte)
  /-- At SLOT_END the slot is handed to NEW if its CRC matches, or SLOT_ERR is set. (R427) -/
  | pairSlotEndRx (data : List Byte)
  /-- PAIR_CTRL.DUMP queues REG entries for every mirrored field and a COMMIT. (R427) -/
  | pairDump (m : Master) (v : Word)
  /-- A MSG packet is received into the software mailbox. (R421) -/
  | pairMsgRx (data : List Byte)
  /-- An armed understudy hearing nothing for TPAIR periods detects lead failure. (R430) -/
  | pairSilenceTimeout
  /-- PWRCTL_REQ.GO requests a domain state, refused with a code or started. (R438) -/
  | pwrRequest (m : Master) (v : Word)
  /-- After quiescing, the request reaches its commit point and becomes irrevocable. (R439) -/
  | pwrQuiesceDone
  /-- The domain reaches retention or off after its commit point. (R439) -/
  | powerDownDone
  /-- A wake step's ready signal arrives and the next step starts. (R442) -/
  | wakeStepReady (d : Fin 29)
  /-- A wake step missing its timeout is retried, or the domain is marked FAILED. (R443) -/
  | wakeStepTimeout (d : Fin 29)
  /-- A PGOODk fall isolates and fails its domains, or PGOOD0 holds the chip in reset. (R444) -/
  | pgoodFall (k : Fin 4) (transfers : Bool)
  /-- A supply outside 8 % for 1 us raises FLT_PWR_VMON, or a brown-out holds reset. (R444) -/
  | vmonExcursion (brownOut : Bool)
  /-- PWRCTL_STBY.GO quiesces every domain towards standby. (R445) -/
  | standbyRequest (m : Master) (v : Word)
  /-- After the commit point, every domain but AON goes off, the PMIC enables fall and AON runs on the LPRC. (R445) -/
  | standbyEntry
  /-- An enabled WAKE edge lasting two LPRC periods sets WAKEk_SEEN and starts a cold start. (R446) -/
  | wakePinEdge (k : Fin 2) (rising : Bool)
  /-- The MRC starts, SYS, SAFE, NET and the banks wake, and E0 starts the boot ROM. (R446) -/
  | coldStart
  /-- VAON crossing its threshold resets everything, LOCKOUT included. (R449) -/
  | powerOnReset
  /-- PORESET_N low for 1 us resets the chip and restarts every domain cold. (R449) -/
  | poresetN
  /-- SYSRESET_N low for 1 us starts a chip reset. (R449) -/
  | sysresetN
  /-- A write of 0x7E51 to CLKRST_SWRST starts a chip reset with cause SOFTWARE. (R459) -/
  | softwareReset (m : Master) (v : Word)
  /-- A chip reset drives SYSRESET_N low, records its cause and wipes the memories of ON domains. (R450) -/
  | chipReset
  /-- The reset wipe ends and engines may start. (R450) -/
  | memoryWipeDone
  /-- CLKRST_BRST or a BRST reaction resets one block, its memories and crossings; `cut` are the register accesses under way. (R450) -/
  | blockReset (m : Master) (v : Word) (cut : List (Master × Nat × Access))
  /-- CLKRST_SWDT_CTRL.EN starts the system watchdog. (R452) -/
  | swdtEnable (m : Master) (v : Word)
  /-- A write of 0xC35A restarts the system watchdog; any other value counts as expiry. (R452) -/
  | swdtKick (m : Master) (v : Word)
  /-- Half of TMO without a kick fires CLK_SWDT. (R452) -/
  | swdtHalf
  /-- TMO without a kick raises FLT_SYS_WDT. (R452) -/
  | swdtTimeout
  /-- If no chip reset follows within 1 ms, AON resets the chip with cause SYS_WDT. (R452) -/
  | swdtForcedReset
  /-- A clock counted outside 1 % in a 10 us window raises FLT_CLK_MON. (R448) -/
  | clockMonitor
  /-- Loss of system PLL lock raises FLT_CLK_PLL. (R448) -/
  | systemPllLoss
  /-- A stopped or off-frequency crystal raises FLT_CLK_XTAL. (R448) -/
  | xtalFail
  /-- An access into a closed crossing stalls, gets a bus error and sets XING_LOST. (R455) -/
  | closedCrossingAccess (m : Master) (addr : Nat) (acc : Access)
  /-- A write of CLKRST_CLKOUT switches CLKOUT glitch-free. (R459) -/
  | clkoutSelect (m : Master) (v : Word)
  /-- The ROM completes any wipe, verifies the boot directory and images, loads them and starts the engines. (R466) -/
  | bootRom (keysOk : Bool) (flash : List (Nat × List Byte))
  /-- A write of SYSCTL_SVN blows rollback fuses up to the value, or is refused. (R467) -/
  | svnWrite (m : Master) (v : Word)
  /-- SYSCTL_LC_REQ.GO verifies a token, records a wipe, blows the state fuses and resets. (R471) -/
  | lcRequest (m : Master) (v : Word) (cut : Bool)
  /-- Every 100 ms the fuses are reread, and a change raises FLT_LC_FUSE. (R468) -/
  | lcFuseRecheck (fuses : Nat)
  /-- SYSCTL_DBG.OPEN_REQ grants or refuses a debug session for the token. (R473) -/
  | debugOpenReq (m : Master) (v : Word)
  /-- SYSCTL_DBG.CLOSE ends the session, with a chip reset for scope bits 1 or 2. (R473) -/
  | debugClose (m : Master) (v : Word)
  /-- CRYPTO OP 1 hashes the input into DIGEST. (R476) -/
  | cryptoSha256 (m : Master) (v : Word)
  /-- CRYPTO OP 2 signs DIGEST with the device key. (R476) -/
  | cryptoSign (m : Master) (v : Word)
  /-- CRYPTO OP 3 verifies SIG against DIGEST with the owner or device key. (R476) -/
  | cryptoVerify (m : Master) (v : Word)
  /-- CRYPTO OP 4 fills memory with random data. (R476) -/
  | cryptoRngFill (m : Master) (v : Word)
  /-- A crypto operation completes with DONE or ERR. (R476) -/
  | cryptoOpDone
  /-- CRYPTO_SMKEY_CTRL.GO stores the staged safe-message key in its slot. (R462) -/
  | smkeyStore (m : Master) (v : Word)
  /-- A failed entropy health test stops entropy use and raises FLT_CRYPTO_RNG. (R462) -/
  | trngHealthFail
  /-- A tile lane that has not reached LOCKED within 2 ms ends training with code 0x07. (R208) -/
  | laneLockTimeout (j : Fin 15)
  /-- A PRBS checker sets PRBS_SYNC after 64 consecutive received bits without error. (R209) -/
  | prbsCheckerSync (j : Fin 15) (bits : List Bool)
  /-- A synchronised PRBS checker counts a received bit in error and fires LANE_PRBS at the first error since its count was cleared. (R209) -/
  | prbsBitError (j : Fin 15) (bits : List Bool)
  /-- A partner-lane packet with a trailer error is discarded and counted, and more than 16 in a second raise FLT_PAIR_LINK. (R434) -/
  | partnerLanePacketError (blocks : List (BitVec 2 × BitVec 64))
  /-- The paired lead sends its STATE packet with KI, I0 and SCORR every 10 ms. (R426) -/
  | pairStateSend
  /-- A valid upstream IDLE from a tile is accepted and restarts the port's receive timeout. (R190) -/
  | upstreamIdleRx (p : Fin 12) (data : List Byte)
  /-- The last queued byte leaves the UART and TXEMPTY rises, which can signal the unit's event. (R388) -/
  | uartTxEmpty (u : Fin 2) (left : Nat)
  /-- PPS_OUT falls WIDTH ms after its rising edge. (R311) -/
  | ppsFall
  /-- A cue with PIN = 1 drives TSOUTk low again WIDTH x 10 ns after firing. (R312) -/
  | cuePulseEnd (k : Fin 2)
  /-- After a withdrawn wake step's 1 ms or 10 us off time, the step is started again. (R443) -/
  | wakeStepRestart (d : Fin 29)
deriving DecidableEq, Repr

end Sys2Proof
end

