-- ==== Sys2Proof/Config.lean ====
section
/-! DEFINITION. What the spec leaves open: constants without a body. No proof can see their values, so a claim about the model
holds whatever they are. Each is named in a row of notes/assumptions. -/

namespace Sys2Proof.Config

/-- The byte that DRAM holds at an address after its `gen`-th loss of content (spec/19_power_clocks_reset.md R449: DRAM content
"is not wiped but is undefined" after a chip reset; log entry 5). -/
opaque freeDram (gen addr : Nat) : BitVec 8

/-- The `n`-th free value that the model draws (log entry 4): a value of the part's entropy source (spec/20 R462, R469, R476) or a
value the spec does not state. -/
opaque freeValue (n : Nat) : Nat

/-- Entry `i` of the tables in a cell's data memory after the `n`-th free value was drawn for its destruction (spec/02 R45; log entry 4). -/
opaque freeCell (n i : Nat) : Nat

/-- Adeiq's manufacturing key and return key: public keys that the spec names and does not state (R468; log entry 6). -/
opaque adeiqMfgKey : Nat × Nat
opaque adeiqReturnKey : Nat × Nat

/-- The part's device key: the private key that CRYPTO generated on the die (spec/20_identity_lifecycle.md R460; log entry 6). -/
opaque deviceKey : Nat

/-- The sequence number of record 0x00 of the calibration store (spec/20 R461; log entry 6). -/
opaque identitySeq : Nat

/-- What the spec does not state of a certificate: its serial number, the DER of notBefore and of the extensions that it names none of, and the
number that its signature was made with (spec/20 R461; log entry 6). -/
structure Cert where
  serial : Nat := 0
  notBefore : List (BitVec 8) := []
  exts : List (BitVec 8) := []
  nonce : Nat := 0
deriving DecidableEq, Repr, Inhabited

/-- The device and the intermediate certificate, the names and private keys of Adeiq's device CA and root, the DER of the intermediate's
notAfter, and whether a CN has capital hexadecimal digits (spec/20 R461; log entry 6). -/
opaque deviceCert : Cert
opaque intermediateCert : Cert
opaque caName : List (BitVec 8)
opaque rootName : List (BitVec 8)
opaque caKey : Nat
opaque rootKey : Nat
opaque caNotAfter : List (BitVec 8)
opaque certUpper : Bool

end Sys2Proof.Config
end

