-- ==== Sys2Proof/Machine/Bits.lean ====
section
/-! DEFINITION. Bit fields, signed values and byte order (spec/00_scope.md, Notation and R1: little-endian). -/

namespace Sys2Proof.Machine

/-- The `n` bits of `w` from bit `lo`. -/
def bits (w lo n : Nat) : Nat := (w >>> lo) % 2 ^ n

/-- The two's complement value of an `n`-bit field. -/
def signed (n w : Nat) : Int := if w % 2 ^ n < 2 ^ (n - 1) then ((w % 2 ^ n : Nat) : Int) else ((w % 2 ^ n : Nat) : Int) - 2 ^ n

/-- The `n`-bit two's complement field that holds `i`. -/
def unsigned (n : Nat) (i : Int) : Nat := (i % 2 ^ n).toNat

/-- `i` limited to `lo`..`hi`. -/
def clampI (lo hi i : Int) : Int := if i < lo then lo else if hi < i then hi else i

/-- `i` limited to 0..`hi`, as a natural number. -/
def sat0 (hi : Nat) (i : Int) : Nat := if i < 0 then 0 else min i.toNat hi

/-- A number from its bytes, least significant first. -/
def le (bs : List Byte) : Nat := bs.foldr (fun b a => b.toNat + 256 * a) 0

/-- A number from its bytes, most significant first. -/
def be (bs : List Byte) : Nat := bs.foldl (fun a b => 256 * a + b.toNat) 0

/-- The `n` low bytes of a number, least significant first. -/
def leBytes (n v : Nat) : List Byte := (List.range n).map (fun i => BitVec.ofNat 8 (v >>> (8 * i)))

/-- The `n` low bytes of a number, most significant first. -/
def beBytes (n v : Nat) : List Byte := (leBytes n v).reverse

/-- `n` bytes of a list from offset `o`. -/
def slice (bs : List Byte) (o n : Nat) : List Byte := (bs.drop o).take n

/-- The little-endian number in `n` bytes from offset `o`. -/
def leAt (bs : List Byte) (o n : Nat) : Nat := le (slice bs o n)

/-- The big-endian number in `n` bytes from offset `o`. -/
def beAt (bs : List Byte) (o n : Nat) : Nat := be (slice bs o n)

/-- The byte at offset `o`, 0 past the end. -/
def byteAt (bs : List Byte) (o : Nat) : Nat := (bs.getD o 0).toNat

/-- 1 for true. -/
def b2n (b : Bool) : Nat := if b then 1 else 0

/-- `⌈a / b⌉`. -/
def ceilDiv (a b : Nat) : Nat := (a + b - 1) / b

end Sys2Proof.Machine
end

