-- ==== Sys2Proof/Machine/P256.lean ====
section
/-! DEFINITION. ECDSA over the curve P-256 (FIPS 186), which spec/02 R33 and spec/20 R460, R468 and R476 name. -/

namespace Sys2Proof.Machine

/-- The field prime of P-256. -/
def pP : Nat := 0xffffffff00000001000000000000000000000000ffffffffffffffffffffffff
/-- The order of the base point. -/
def pN : Nat := 0xffffffff00000000ffffffffffffffffbce6faada7179e84f3b9cac2fc632551
/-- The coefficient b. -/
def pB : Nat := 0x5ac635d8aa3a93e7b3ebbd55769886bc651d06b0cc53b0f63bce3c3e27d2604b
/-- The base point. -/
def pG : Nat × Nat :=
  (0x6b17d1f2e12c4247f8bce6e563a440f277037d812deb33a0f4a13945d898c296,
   0x4fe342e2fe1a7f9b8ee7eb4a7c0f9e162bce33576b315ececbb6406837bf51f5)

/-- `a ^ e mod m`, over the 256 low bits of `e`, most significant first. -/
def powMod (a e m : Nat) : Nat :=
  (List.range 256).foldl (fun r i => let q := r * r % m; if e.testBit (255 - i) then q * a % m else q) 1

/-- The inverse modulo a prime. -/
def invMod (a m : Nat) : Nat := powMod a (m - 2) m

/-- Point addition in affine coordinates; `none` is the point at infinity. -/
def pAdd (a b : Option (Nat × Nat)) : Option (Nat × Nat) :=
  match a, b with
  | none, b => b
  | a, none => a
  | some p, some q =>
    if p.1 = q.1 ∧ (p.2 + q.2) % pP = 0 then none
    else
      let l := if p = q then (3 * p.1 * p.1 + (pP - 3)) * invMod (2 * p.2) pP % pP
               else (q.2 + pP - p.2) * invMod (q.1 + pP - p.1) pP % pP
      let x := (l * l + 2 * pP - p.1 - q.1) % pP
      some (x, (l * (p.1 + pP - x) + pP - p.2) % pP)

/-- A multiple of a point. -/
def pMul (k : Nat) (p : Nat × Nat) : Option (Nat × Nat) :=
  (List.range 256).foldl (fun r i => let d := pAdd r r; if k.testBit (255 - i) then pAdd d (some p) else d) none

/-- The point lies on the curve. -/
def onCurve (p : Nat × Nat) : Bool :=
  decide (p.1 < pP ∧ p.2 < pP) && p.2 * p.2 % pP == (p.1 * p.1 * p.1 + (pP - 3) * p.1 + pB) % pP

/-- ECDSA verification of a digest. -/
def ecdsaVerify (key : Nat × Nat) (digest : List Byte) (r s : Nat) : Bool :=
  if !onCurve key || r = 0 || s = 0 || decide (pN ≤ r) || decide (pN ≤ s) then false
  else
    let w := invMod s pN
    match pAdd (pMul (be digest * w % pN) pG) (pMul (r * w % pN) key) with
    | none => false
    | some p => p.1 % pN == r

/-- ECDSA signature of a digest with private key `d` and per-signature number `k`. -/
def ecdsaSign (d k : Nat) (digest : List Byte) : Nat × Nat :=
  let r := ((pMul k pG).getD (0, 0)).1 % pN
  (r, invMod k pN * (be digest + r * d) % pN)

/-- The public key of a private key. -/
def ecdsaPublic (d : Nat) : Nat × Nat := (pMul d pG).getD (0, 0)

/-- A signature block of spec/02 R33 over `bs` by `key`: KEY_ID first, then r and s. -/
def sigBlockOk (key : Nat × Nat) (bs blk : List Byte) : Bool :=
  let pub := (4 : Byte) :: beBytes 32 key.1 ++ beBytes 32 key.2
  (sha256 pub).take 8 == blk.take 8 && ecdsaVerify key (sha256 bs) (beAt blk 8 32) (beAt blk 40 32)

end Sys2Proof.Machine
end

