-- ==== Sys2Proof/Machine/Der.lean ====
section
/-! DEFINITION. The DER of the certificates that record 0x00 of the calibration store holds (spec/20_identity_lifecycle.md R461): X.509 v3 with
ecdsa-with-SHA256, whose encoding is that of RFC 5280 and X.690 (PRESUMED; log entry 18). -/

namespace Sys2Proof.Machine

/-- The DER length of `n` bytes. -/
def derLen (n : Nat) : List Byte :=
  if n < 0x80 then leBytes 1 n else if n < 0x100 then 0x81 :: leBytes 1 n else 0x82 :: beBytes 2 n
/-- A DER value with its tag and length. -/
def der (tag : Byte) (bs : List Byte) : List Byte := tag :: derLen bs.length ++ bs
/-- A DER INTEGER. -/
def derInt (n : Nat) : List Byte := der 0x02 (beBytes ((Nat.log2 n + 1) / 8 + 1) n)

/-- AlgorithmIdentifier of ecdsa-with-SHA256. -/
def derAlg : List Byte := der 0x30 (der 0x06 [0x2A, 0x86, 0x48, 0xCE, 0x3D, 0x04, 0x03, 0x02])
/-- SubjectPublicKeyInfo of a P-256 key. -/
def derKey (q : Nat × Nat) : List Byte :=
  der 0x30 (der 0x30 (der 0x06 [0x2A, 0x86, 0x48, 0xCE, 0x3D, 0x02, 0x01] ++ der 0x06 [0x2A, 0x86, 0x48, 0xCE, 0x3D, 0x03, 0x01, 0x07]) ++
    der 0x03 ([0x00, 0x04] ++ beBytes 32 q.1 ++ beBytes 32 q.2))
/-- A Name of one CN, a UTF8String. -/
def derName (cn : List Byte) : List Byte := der 0x30 (der 0x31 (der 0x30 (der 0x06 [0x55, 0x04, 0x03] ++ der 0x0C cn)))
/-- The critical extension of key usage digitalSignature. -/
def derUsage : List Byte := der 0x30 (der 0x06 [0x55, 0x1D, 0x0F] ++ [0x01, 0x01, 0xFF] ++ der 0x04 [0x03, 0x02, 0x07, 0x80])
/-- The text of ASCII codes. -/
def ascii (t : String) : List Byte := t.toList.map (fun c => BitVec.ofNat 8 c.toNat)

/-- An X.509 v3 certificate of `subject` with key `q`, issued by `issuer` with the private key `d`. -/
def x509 (c : Config.Cert) (issuer notAfter subject : List Byte) (q : Nat × Nat) (exts : List Byte) (d : Nat) : List Byte :=
  let tbs := der 0x30 (der 0xA0 (der 0x02 [2]) ++ derInt c.serial ++ derAlg ++ issuer ++ der 0x30 (c.notBefore ++ notAfter) ++ subject ++
    derKey q ++ der 0xA3 (der 0x30 (exts ++ c.exts)))
  let g := ecdsaSign d (c.nonce % (pN - 1) + 1) (sha256 tbs)
  der 0x30 (tbs ++ derAlg ++ der 0x03 (0x00 :: der 0x30 (derInt g.1 ++ derInt g.2)))

/-- A hexadecimal digit, in the case that the maker uses. -/
def hexDigit (n : Nat) : Byte := BitVec.ofNat 8 (if n < 10 then 0x30 + n else if Config.certUpper then 0x37 + n else 0x57 + n)

/-- The device certificate of the part with a serial number (R461): its CN, the device key, digitalSignature and notAfter 99991231235959Z. -/
def deviceCert (serial : Nat) : List Byte :=
  x509 Config.deviceCert (derName Config.caName) (der 0x18 (ascii "99991231235959Z"))
    (derName (ascii "AQPX2 " ++ (List.range 16).map (fun i => hexDigit (serial / 16 ^ (15 - i) % 16))))
    (ecdsaPublic Config.deviceKey) derUsage Config.caKey

/-- The certificate of the Adeiq device CA (R461). -/
def intermediateCert : List Byte :=
  x509 Config.intermediateCert (derName Config.rootName) Config.caNotAfter (derName Config.caName) (ecdsaPublic Config.caKey) [] Config.rootKey

end Sys2Proof.Machine
end

