-- ==== Sys2Proof/Machine/State.lean ====
section
/-! DEFINITION. The state of the PX2 as plain data: the register file, memory, and beside them what each block holds that no
register shows. -/

namespace Sys2Proof.Machine

/-- One field of one register: the system address of its register, its lowest bit, its width, its value at reset. -/
structure Fld where
  addr  : Nat
  lo    : Nat
  width : Nat
  reset : Nat
deriving DecidableEq, Repr

/-- The access types of R3. -/
inductive Acc where | rw | ro | w1c | w1s | wo
deriving DecidableEq, Repr

/-- The update classes of R4 (static), R5 (committed) and R9 (live). -/
inductive Cls where | s | c | l
deriving DecidableEq, Repr

/-- A row of a field table: `n` equal fields of `width` bits, the first at bit `lo`, each `step` bits above the one before. `row`
says that the write of the field is a command of the opcode table. -/
structure FieldDesc where
  lo    : Nat
  width : Nat
  n     : Nat
  step  : Nat
  reset : Nat
  acc   : Acc
  cls   : Cls
  row   : Bool
deriving DecidableEq, Repr

/-- A register, or registers repeated at the given strides and counts. -/
structure RegDesc where
  base   : Nat
  dims   : List (Nat × Nat)
  fields : List FieldDesc
deriving DecidableEq, Repr

/-- The kind of unit that an occurrence of a fault source names (spec/15_faults.md R350, R352). -/
inductive UnitKind where | none | engine | bank | quadrant | port | zone | netPort
deriving DecidableEq, Repr

/-- The value of every register field that differs from its reset value, by key (address × 32 + lowest bit), keys rising. -/
abbrev RegFile := List (Nat × Nat)

/-- Memory: the bytes that differ from what an unlisted address reads as, addresses rising. -/
abbrev Memory := List Host.Cell

/-- What is fixed in the part before it runs: ordering code, fuses, fitted DRAM (spec/00_scope.md, spec/20_identity_lifecycle.md). -/
structure Part where
  /-- (00 ordering codes, 14 R321) true on AQPX2-BG484-S, false on -I; DESIGN CHOICE true, log 6 -/
  safeCapable : Bool := true
  /-- (17 R391, R392) density code the fitted LPDDR5 device reports (MR8); DESIGN CHOICE 2, log 6 -/
  density : Nat := 2
  /-- (20 R468) serial number, 64 bits; DESIGN CHOICE 0, log 6 -/
  serial : Nat := 0
  /-- (20 R468) life-cycle state code as the fuses hold it; DESIGN CHOICE 0 (MANUFACTURE, no fuse blown), log 6 -/
  lcFuse : Nat := 0
  /-- (20 R468) life-cycle state code read at boot; DESIGN CHOICE 0, log 6 -/
  lcBoot : Nat := 0
  /-- (20 R468, R471) fused SHA-256 of the owner key, 32 bytes; none fused, DESIGN CHOICE, log 6 -/
  ownerHash : List Byte := []
  /-- (20 R467) blown rollback fuses, 0 to 64; DESIGN CHOICE 0, log 6 -/
  svnFuse : Nat := 0
  /-- (20 R463) level of the BOOTMODE balls; DESIGN CHOICE 0, log 6 -/
  bootmode : Nat := 0
deriving DecidableEq, Repr


/-- One CELL_MAP entry (spec/02_stage_array.md R28). -/
structure CellEntry where
  /-- (02 R28) kernel ID, 8 bits -/
  kernel : Nat := 0
  /-- (02 R28) 1 = A, 2 = B, 3 = both -/
  pass : Nat := 0
  /-- (02 R28) layer, or 0xFF -/
  layer : Nat := 0
  /-- (02 R28) cells of the gang -/
  gangSize : Nat := 0
  /-- (02 R28) position in the gang -/
  gangPos : Nat := 0
  /-- (02 R28) offset into KERNEL_CONFIG -/
  cfgOffset : Nat := 0
  /-- (02 R28) length of the parameters -/
  cfgLen : Nat := 0
  /-- (02 R28) data memory in 64-byte units -/
  dataUnits : Nat := 0
deriving DecidableEq, Repr

/-- What the configuration planes of a scene bank hold of a structure image (R26 to R32). -/
structure Image where
  /-- (02 R26) IMAGE_ID, 32 bits -/
  imageId : Nat := 0
  /-- (02 R26) cells used, 128 bits -/
  cellMask : Nat := 0
  /-- (02 R26) quadrants used, 4 bits -/
  quadMask : Nat := 0
  /-- (02 R30) mode -/
  mode : Nat := 0
  /-- (02 R30) profile code -/
  profile : Nat := 0
  /-- (02 R30) layers composed, 8 bits -/
  layerMask : Nat := 0
  /-- (02 R30) TL port of each of 12 logical tiles, 0xFF absent -/
  portMap : List Nat := []
  /-- (02 R28) 128 cell entries -/
  cells : List CellEntry := []
  /-- (02 R29) 2,048 route words of 16 bits -/
  routing : List Nat := []
  /-- (02 R31) 192 bytes -/
  zoneGrid : List Byte := []
  /-- (02 R32) 12 class patterns of 32 bits -/
  classes : List Nat := []
  /-- (02 R43) KNOWN_ANSWER, 192 bytes -/
  known : List Byte := []
  /-- (02 R27) KERNEL_CONFIG, up to 256 KiB -/
  config : List Byte := []
  /-- (02 R27, 04 R88) buffered source rows of each layer -/
  rows : List Nat := []
  /-- (02 R27) maximum source width of each layer -/
  maxWidth : List Nat := []
deriving DecidableEq, Repr

/-- A load in progress (R34), sampled at START. -/
structure Load where
  /-- (02 R34) address of the image, 36 bits -/
  addr : Nat := 0
  /-- (02 R34) target bank -/
  bank : Nat := 0
  /-- (02 R37, R49) QUAD_MASK of its header, 0 where the header cannot be read -/
  quads : Nat := 0
deriving DecidableEq, Repr

/-- The C fields that a block has captured at a commit guard and that have not gone live (spec/00_scope.md R6, spec/06 R132). -/
structure Captured where
  /-- (06 R132) boundary for which the set was captured -/
  boundary : Nat := 0
  /-- (00 R7) captured while frame timing is off: it goes live within 50 µs -/
  now : Bool := false
  /-- (00 R6) captured fields with their values -/
  set : List (Fld × Nat) := []
deriving DecidableEq, Repr

/-- A bank switch that has been accepted (R38). -/
structure Switch where
  /-- (02 R38) bank to run -/
  bank : Nat := 0
  /-- (02 R40) HOLD (else OVERLAP) -/
  hold : Bool := false
deriving DecidableEq, Repr

/-- The SA_DRV settings that a pass runs on (spec/05_drive_codes.md R121). -/
structure DrvSet where
  /-- (05 R114) POSTLUT_EN -/
  postlut : Bool := false
  /-- (05 R115) DITHER_EN -/
  dither : Bool := true
  /-- (05 R118) TAP_SEL -/
  tapSel : Nat := 0
  /-- (05 R117) WB_EN -/
  wb : Bool := false
deriving DecidableEq, Repr

/-- What the Stage Array holds beside its registers. -/
structure Sa where
  /-- (02 R34) image in the configuration planes of banks A and B; none -/
  bank : Vector (Option Image) 2 := .replicate 2 none
  /-- (02 R34) load in progress; none -/
  load : Option Load := none
  /-- (02 R41) bank that still runs pass B of the frame before a switch; none -/
  old : Option Nat := none
  /-- (00 R6) captured SA set; none -/
  cap : Option Captured := none
  /-- (02 R38) switch of the captured set; none -/
  switch : Option Switch := none
  /-- (02 R47) bank of an automatic fallback, and its boundary once a guard has fixed it; none -/
  fallback : Option (Nat × Option Nat) := none
  /-- (02 R47) stop that waits for its boundary; false -/
  stopWait : Bool := false
  /-- (02 R45) cell under self-test, FULL; none -/
  diag : Option (Nat × Bool) := none
  /-- (02 R46) the frame in composition fails its pass-A check; false -/
  kalA : Bool := false
  /-- (02 R46) the frame being streamed fails its pass-B check; false -/
  kalB : Bool := false
  /-- (05 R111) DD stride checked at the set of EN; 0 -/
  ddStride : Nat := 0
  /-- (05 R111) base of the checked DD region; 0 -/
  ddBase : Nat := 0
  /-- (05 R121) settings of pass B in this period; reset values -/
  drvB : DrvSet := {}
  /-- (05 R121) a new set went live: POSTLUT tables to load in blanking; false -/
  lutDue : Bool := false
  /-- (05 R114) POSTLUT tables of the pass-B gang, 4 × 4,097 entries; none loaded -/
  lut : Vector (List Nat) 4 := .replicate 4 []
  /-- (05 R106) THERM factors of 192 zones × 4 classes; none (16,384) -/
  factor : List Nat := []
  /-- (05 R122) drive-table slots to hand on after T_n+1; none -/
  retire : List Nat := []
  /-- (05 R122) drive-table slots to hand on now; none -/
  retireNow : List Nat := []
  /-- (05 R117) ring index of the last frame streamed with write-back; none -/
  wbIdx : Option Nat := none
deriving DecidableEq, Repr

/-- A walk of the span checker (spec/04_warp.md R91). -/
structure Walk where
  /-- (04 R91) layer -/
  layer : Fin 8 := 0
  /-- (04 R95) the live set after a bank switch (else the pending set) -/
  live : Bool := false
deriving DecidableEq, Repr

/-- What a commit guard of LAYER has fixed for one boundary (spec/03_layers_blending.md R57 to R60, spec/14_safety.md R344). -/
structure LayerPlan where
  /-- (06 R132) boundary for which it was fixed -/
  boundary : Nat := 0
  /-- (00 R7) fixed while frame timing is off: it goes live within 50 µs -/
  now : Bool := false
  /-- (00 R5) it holds the commit of the commit bit -/
  commit : Bool := false
  /-- (03 R57) layers that flip, each with its captured fields -/
  sets : List (Nat × List (Fld × Nat)) := []
  /-- (03 R60) layers that stay deferred at this boundary -/
  defer : List Nat := []
  /-- (14 R344) layers composed from this boundary as far as their grant decides -/
  granted : Vector Bool 8 := .replicate 8 true
deriving DecidableEq, Repr

/-- What the LAYER block holds beside its registers. -/
structure Layer where
  /-- (03 R57) what guards have fixed and boundaries have not yet done, oldest first; none -/
  plans : List LayerPlan := []
  /-- (03 R63) copy of each layer's table block, 5,184 bytes; none -/
  table : Vector (List Byte) 8 := .replicate 8 []
  /-- (04 R92) layers that wait for the span checker; none -/
  queued : Vector Bool 8 := .replicate 8 false
  /-- (04 R95) live sets that wait for the span checker; none -/
  recheck : Vector Bool 8 := .replicate 8 false
  /-- (04 R91) walk in progress; none -/
  walk : Option Walk := none
  /-- (04 R94) the pending set has failed its check; none -/
  failed : Vector Bool 8 := .replicate 8 false
  /-- (04 R92) a check has passed since the layer last went live; none -/
  passed : Vector Bool 8 := .replicate 8 false
  /-- (14 R344) composed as far as its grant decides, as fixed for the last boundary; true -/
  granted : Vector Bool 8 := .replicate 8 true
  /-- (03 R60) LAYER_STALE raised since CONSEC was last cleared; none -/
  staleSeen : Vector Bool 8 := .replicate 8 false
  /-- (03 R62) slots to hand on as SCANOUT's agent; none -/
  retire : List Nat := []
  /-- (04 R89) FLT_LAYER_CLAMP raised for the frame in composition; none -/
  clamped : Vector Bool 8 := .replicate 8 false
deriving DecidableEq, Repr

/-- What MASKIN holds beside its registers. -/
structure Maskin where
  /-- (03 R69) buffer that MASKIN writes; DESIGN CHOICE 0, log 13 -/
  writing : Nat := 0
  /-- (03 R67) lines of the open frame; 0 -/
  lines : Nat := 0
  /-- (03 R67) the open frame is marked bad; false -/
  bad : Bool := false
  /-- (03 R69) buffer whose frame has ended and is not yet complete; none -/
  ended : Option Nat := none
  /-- (03 R69) buffer of the newest complete mask not yet taken; none -/
  complete : Option Nat := none
  /-- (03 R69) frame time at which it became complete, in 2.5 ns ticks; 0 -/
  completeAt : Int := 0
  /-- (03 R71) SAFE_IDX in force since the last boundary; 0xFF -/
  safeIdx : Nat := 0xFF
  /-- (03 R69) a mask has been taken since EN was set; false -/
  taken : Bool := false
deriving DecidableEq, Repr

/-- A zone record (spec/05_drive_codes.md R110). -/
structure ZoneRec where
  /-- (05 R110) largest demand, 24 bits -/
  max : Nat := 0
  /-- (05 R110) zone code z, 8 bits -/
  z : Nat := 0
  /-- (05 R110) sum of demand, 48 bits -/
  sum : Nat := 0
  /-- (05 R110) code the duties are computed against, 8 bits -/
  zEff : Nat := 0
  /-- (05 R110) dead pixels, 16 bits -/
  dead : Nat := 0
deriving DecidableEq, Repr

/-- A frame between pass A and its latch (spec/06_frame_timing.md R131). -/
structure Frame where
  /-- (06 R127) FRAME_NO, 32 bits -/
  no : Nat := 0
  /-- (05 R109) DD buffer -/
  buf : Nat := 0
  /-- (06 R139) cause for which it is bad, as FT_ABORT_STATUS codes it; 0, good -/
  cause : Nat := 0
  /-- (06 R129) frame time at which pass A reported done, in 2.5 ns ticks -/
  done : Option Int := none
  /-- (05 R110) zone records of the 192 global zones -/
  zone : List ZoneRec := []
  /-- (09 R216) diagnostic targets in raster order by tile: tile, x, y -/
  targets : List (Nat × Nat × Nat) := []
  /-- (09 R215) off-scan frame -/
  off : Bool := false
  /-- (09 R217) MEAS_Z of its DIAG_REQ -/
  measZ : Nat := 0
  /-- (09 R217) PULSE of its DIAG_REQ -/
  pulse : Nat := 0
  /-- (09 R222) composed in a baseline capture -/
  capture : Bool := false
  /-- (05 R121) settings that its pass B uses -/
  drv : DrvSet := {}
deriving DecidableEq, Repr

/-- A frame that pass B streams (R128). -/
structure Stream where
  /-- (06 R131) the stream source -/
  frame : Frame := {}
  /-- (06 R128) lines sent -/
  lines : Nat := 0
  /-- (06 R131) ports that stream, as the boundary fixed them -/
  ports : List Nat := []
  /-- (05 R119, 07 R191) mapped ports that were not fenced, SILENT or DOWN at the boundary -/
  mapped : List Nat := []
  /-- (06 R137, 02 R44) aborted: LATCH is withheld -/
  aborted : Bool := false
  /-- (05 R119) drive-frame CRC of each port so far, before the final complement -/
  crc : Vector Nat 12 := .replicate 12 0xFFFFFFFF
  /-- (07 R180) echo of each port so far, before the final complement -/
  lineCrc : Vector Nat 12 := .replicate 12 0xFFFFFFFF
  /-- (06 R130) LATCH has left every mapped port -/
  latched : Bool := false
deriving DecidableEq, Repr

/-- What FT holds beside its registers. -/
structure Ft where
  /-- (06 R129) index of the next boundary; 0 -/
  m : Nat := 0
  /-- (06 R130) index of the boundary after a fixed one, where a schedule change chose it; none -/
  after : Option Nat := none
  /-- (06 R132) index of the next boundary whose commit guard has not passed; 0 -/
  guard : Nat := 0
  /-- (06 R129) A of the last boundary, in ticks of frame time; none before the first -/
  last : Option Int := none
  /-- (06 R130) A_m once fixed, in ticks; none -/
  fixed : Option Int := none
  /-- (06 R129) phase error of the fixed boundary, in ticks; 0 -/
  phase : Nat := 0
  /-- (06 R138) the next boundary is a restart boundary; false -/
  restart : Bool := false
  /-- (06 R129) frame time of the last schedule change, in ticks; none -/
  change : Option Int := none
  /-- (06 R131) frame in composition; none -/
  passA : Option Frame := none
  /-- (06 R131) frame being streamed; none -/
  stream : Option Stream := none
  /-- (06 R131) frame on show at the tiles; none -/
  shown : Option Frame := none
  /-- (07 R180) FRAME_NO that latched at the last boundary, whose HEALTH is awaited; none -/
  await : Option Nat := none
  /-- (06 R128) current line slot; none before slot 0 -/
  slot : Option Nat := none
  /-- (06 R141) a clear of EN waits for the next boundary; false -/
  clear : Bool := false
  /-- (00 R6) captured FT set; none -/
  cap : Option Captured := none
  /-- (06 R142) line of FT_LM in force since the last boundary; 0 -/
  lm : Nat := 0
  /-- (06 R142) FT_LM has fired for the current line slot; false -/
  lmFired : Bool := false
  /-- (06 R136) ports below their watermark; none -/
  urgent : Vector Bool 12 := .replicate 12 false
  /-- (06 R136) the current slot has been counted in FT_URG_CNT; false -/
  urgSlot : Bool := false
  /-- (06 R139) FLT_FT_ABORT raised since CONSEC was last cleared; false -/
  limit : Bool := false
  /-- (06 R146) FT_NEXT_SEC_LO held by a read of FT_NEXT_NS; none -/
  nextLo : Option Nat := none
  /-- (06 R146) FT_NEXT_SEC_HI held by a read of FT_NEXT_NS; none -/
  nextHi : Option Nat := none
deriving DecidableEq, Repr

/-- Where the training of a port stands (spec/07_onvik_tile_link.md R153). -/
inductive Train where | none | lock | caps | relock | relockSlow | probe | config
deriving DecidableEq, Repr

/-- One tile port, beside its registers. -/
structure TlPort where
  /-- (07 R153) training step; none -/
  train : Train := .none
  /-- (07 R154) the tile's CAPS payload, 64 bytes; none received -/
  caps : List Byte := []
  /-- (07 R184) HL_CRC of a house-light upload that waits for its answer; none -/
  fb : Option Nat := none
  /-- (07 R180) FRAME_NO and echo of the last four streamed frames, newest first; none -/
  echo : List (Nat × Nat) := []
  /-- (07 R180) FRAME_NO of the last HEALTH; none -/
  seen : Option Nat := none
  /-- (07 R180) consecutive echo misses; 0 -/
  miss : Nat := 0
  /-- (07 R189) instants of the trailer errors of the last second, in ticks of `now`; none -/
  errors : List Nat := []
  /-- (07 R161) silenced by a mismatch at an FT enable; false -/
  mismatch : Bool := false
  /-- (07 R178, 18 R431) highest epoch recorded by the tile, as the last HEALTH reported it, 24 bits; 0 -/
  epoch : Nat := 0
  /-- (12 R279) the last HEALTH reported an active cap below (0xFF, 0x3FFF); false -/
  capLow : Bool := false
  /-- (07 R173) a CAP waits for its acknowledgement; false -/
  capWait : Bool := false
  /-- (07 R190, R191) left the stream in this period: it counts as unmapped from the next boundary; false -/
  ends : Bool := false
  /-- (07 R160) CONFIG sent, CONFIG_OK awaited; false -/
  cfgOk : Bool := false
  /-- (07 R148) packets sent, oldest first: the model's record of what has left the port; none -/
  out : List (List Byte) := []
deriving DecidableEq, Repr

/-- What TL holds beside its registers. -/
structure Tl where
  /-- (07 R148) the twelve tile ports -/
  port : Vector TlPort 12 := .replicate 12 {}
deriving DecidableEq, Repr


/-- What leaves a transmit lane (spec/08_serial_lanes.md R196, R203, R209): a block, with its payload as sent; a training burst; bits of a test
pattern. -/
inductive LaneWord where
  | block (sync : BitVec 2) (bits : BitVec 64)
  | burst (bits : BitVec 128)
  | pattern (bits : List Bool)
deriving DecidableEq, Repr

/-- One serial lane pair, beside its registers (spec/08_serial_lanes.md). -/
structure LanePair where
  /-- (08 R210) lengths of injections not yet made, oldest first; none -/
  inject : List Nat := []
  /-- (08 R196, R203, R209) what has left the transmit lane, oldest first: the model's record of the line; none -/
  line : List LaneWord := []
  /-- (08 R196) scrambler: the last 58 payload bits sent; DESIGN CHOICE 0, log 43 -/
  scr : Nat := 0
  /-- (08 R209) register of the pattern generator, 31 bits; DESIGN CHOICE all ones, log 43 -/
  gen : Nat := 0x7FFFFFFF
  /-- (08 R209) register of the checker, 31 bits; DESIGN CHOICE 0, log 43 -/
  chk : Nat := 0
  /-- (08 R209) bits without error that the checker has met in a row; 0 -/
  run : Nat := 0
deriving DecidableEq, Repr

/-- What LANE holds beside its registers. -/
structure Lane where
  /-- (08 R195) the fifteen lane pairs -/
  pair : Vector LanePair 15 := .replicate 15 {}
deriving DecidableEq, Repr


/-- An entry of the retest list (spec/09_pixel_health.md R225). -/
structure Retest where
  /-- (09 R225) logical tile -/
  tile : Nat := 0
  /-- (09 R225) column -/
  x : Nat := 0
  /-- (09 R225) line -/
  y : Nat := 0
  /-- (09 R225) class under confirmation -/
  cls : Nat := 0
  /-- (09 R225) results of that class so far -/
  count : Nat := 0
  /-- (09 R232) Vf code of the last of them -/
  code : Nat := 0
  /-- (09 R232) FRAME_NO of the frame measured -/
  frame : Nat := 0
  /-- (09 R228) confirmed, waiting for the update queue -/
  done : Bool := false
deriving DecidableEq, Repr

/-- An entry of the update queue (R228) or of the report FIFO (R232). -/
structure Update where
  /-- (09 R228) logical tile -/
  tile : Nat := 0
  /-- (09 R228) column -/
  x : Nat := 0
  /-- (09 R228) line -/
  y : Nat := 0
  /-- (09 R232) previous class -/
  old : Nat := 0
  /-- (09 R228) new class -/
  new : Nat := 0
  /-- (09 R232) Vf code, 0 for a forced change -/
  code : Nat := 0
  /-- (09 R232) FRAME_NO[23:0] -/
  frame : Nat := 0
  /-- (09 R228) written through HLTH_FORCE -/
  forced : Bool := false
deriving DecidableEq, Repr

/-- What a result has changed of a pixel (R226): its entry of the retest list before, and its class in the map. -/
structure Undo where
  /-- (09 R225) logical tile -/
  tile : Nat := 0
  /-- (09 R225) column -/
  x : Nat := 0
  /-- (09 R225) line -/
  y : Nat := 0
  /-- (09 R226) entry of the retest list before the result; none -/
  entry : Option Retest := none
  /-- (09 R226) class in the map before the result -/
  cls : Nat := 0
  /-- (09 R226) class of the result -/
  new : Nat := 0
  /-- (09 R226) what the map holds for the pixel is the class that this result confirmed; false -/
  live : Bool := false
deriving DecidableEq, Repr

/-- A latched frame whose results a port is to return (R233). -/
structure Awaited where
  /-- (09 R233) port -/
  port : Nat := 0
  /-- (09 R233) FRAME_NO -/
  frame : Nat := 0
  /-- (09 R215) off-scan frame -/
  off : Bool := false
  /-- (09 R222) measured in a baseline capture -/
  capture : Bool := false
  /-- (09 R216) targets in raster order: tile, x, y -/
  targets : List (Nat × Nat × Nat) := []
  /-- (09 R233) indices of the targets whose codes have arrived -/
  got : List Nat := []
  /-- (09 R233) LAST has arrived -/
  last : Bool := false
  /-- (09 R233) every code has arrived, while an older frame of the port is still awaited -/
  done : Bool := false
  /-- (09 R233) latches since the frame latched -/
  latches : Nat := 0
  /-- (09 R226) results per zone of the tile that started or advanced a confirmation -/
  burst : List (Nat × Nat) := []
  /-- (09 R226) zones whose results of this frame are discarded -/
  flagged : List Nat := []
  /-- (09 R226) what its results have changed, newest first -/
  undo : List Undo := []
deriving DecidableEq, Repr

/-- What HLTH holds beside its registers. -/
structure Hlth where
  /-- (00 R6) captured HLTH set; none -/
  cap : Option Captured := none
  /-- (09 R225) retest list, 1,024 entries; empty -/
  retest : List Retest := []
  /-- (09 R228) update queue, 256 entries, oldest first; empty -/
  queue : List Update := []
  /-- (09 R232) report FIFO, 64 entries, oldest first; empty -/
  reports : List Update := []
  /-- (09 R233) latched frames whose results are awaited; none -/
  await : List Awaited := []
  /-- (09 R222) frames left in a capture; 0 -/
  capLeft : Nat := 0
  /-- (09 R221) addresses of baseline blocks whose last read failed; none -/
  badBlock : List Nat := []
  /-- (09 R233) consecutive missing frames of each port; 0 -/
  missRun : Vector Nat 12 := .replicate 12 0
  /-- (09 R232) HLTH_REPORT has fired within the last REPORT_MS; false -/
  rptWait : Bool := false
  /-- (09 R232) FLT_HLTH_PIXEL has been raised within the last REPORT_MS; false -/
  pixWait : Bool := false
  /-- (09 R229) zones that hold a STUCK_ON pixel in the live map; none -/
  stuck : Vector Bool 192 := .replicate 192 false
  /-- (09 R226) forced-off pixels of each zone in the live map; 0 -/
  zoneDead : Vector Nat 192 := .replicate 192 0
  /-- (09 R228) HLTH_FORCE write that waits for room in the queue; none -/
  force : Option Update := none
  /-- (09 R226) changes that take a discarded result back and wait for room in the queue, oldest first; none, DESIGN CHOICE, log 17 -/
  reverts : List Update := []
  /-- (18 R426) paired: queue entries and retest pixels as the last guard fixed them; none -/
  fixed : Option (Nat × List (Nat × Nat × Nat)) := none
  /-- (18 R426) retest pixels that the lead has told the understudy; none -/
  sent : List (Nat × Nat × Nat) := []
  /-- (18 R426) understudy: boundary, kind and change of the lead's HLTH packets, oldest first; none -/
  led : List (Nat × Nat × Update) := []
deriving DecidableEq, Repr


/-- A frame as the LSC knows it: its number and its 192 zone codes (spec/10_led_supply.md R249). -/
structure LscFrame where
  /-- (10 R249) FRAME_NO, 32 bits -/
  no : Nat := 0
  /-- (10 R249) zone code z of the 192 global zones -/
  codes : List Nat := []
deriving DecidableEq, Repr

/-- The LSC's record of one period (R247, R251). -/
structure LscPeriod where
  /-- (10 R251) FRAME_NO of the frame that latched at the boundary that ended the period -/
  ended : Option Nat := none
  /-- (10 R251) zone codes of the frame on show in the period -/
  codes : List Nat := []
  /-- (10 R247) mean VLED of the period, mV -/
  vavg : Nat := 0
deriving DecidableEq, Repr

/-- What the LSC holds beside its registers. -/
structure Lsc where
  /-- (00 R6) captured LSC set; none -/
  cap : Option Captured := none
  /-- (10 R244) integrator, duty in units of 2^-31; 0 -/
  acc : Nat := 0
  /-- (10 R244) d, U0.16; 0 -/
  duty : Nat := 0
  /-- (10 R245) balance terms; 0 -/
  bal : Vector Int 4 := .replicate 4 0
  /-- (10 R245) duty d_k of each phase, U0.16; 0 -/
  phase : Vector Nat 4 := .replicate 4 0
  /-- (10 R245) latest current sample of each phase, mA; 0 -/
  cur : Vector Nat 4 := .replicate 4 0
  /-- (10 R246) latest VLED, mV; 0 -/
  vmeas : Nat := 0
  /-- (10 R249) ramped setpoint, µV; 0 -/
  set : Nat := 0
  /-- (10 R238) LSEN and every LSPWM are driven, else at high impedance; false -/
  driven : Bool := false
  /-- (10 R238) LSEN is high; false -/
  lsen : Bool := false
  /-- (10 R254) consecutive cycles of each phase that over-current ended; 0 -/
  ocRun : Vector Nat 4 := .replicate 4 0
  /-- (10 R254) consecutive loop updates with VLED below the setpoint by more than UV_MARGIN while it was not rising; 0 -/
  uvRun : Nat := 0
  /-- (10 R249) frames whose codes have arrived and that have neither latched nor been dropped, oldest first; none -/
  pend : List LscFrame := []
  /-- (10 R249) frame on show; none -/
  shown : Option LscFrame := none
  /-- (10 R247) sum of the VLED values of the period so far; 0 -/
  vsum : Nat := 0
  /-- (10 R247) count of them; 0 -/
  vcnt : Nat := 0
  /-- (10 R247) sums of the phase currents of the period so far; 0 -/
  isum : Vector Nat 4 := .replicate 4 0
  /-- (10 R247) counts of them; 0 -/
  icnt : Vector Nat 4 := .replicate 4 0
  /-- (10 R251) the last four periods, newest first; none -/
  period : List LscPeriod := []
  /-- (12 R279) RAMP was set in the period so far; false -/
  ramped : Bool := false
deriving DecidableEq, Repr


/-- The model of one global zone (spec/11_thermal.md R265, R267). -/
structure ThmZone where
  /-- (11 R265) junction node, S16.16 °C; DESIGN CHOICE 0, log 14 -/
  tj : Int := 0
  /-- (11 R265) substrate node, S16.16 °C; DESIGN CHOICE 0, log 14 -/
  ts : Int := 0
  /-- (11 R264) record of the zone in the frame on show; zero -/
  shown : ZoneRec := {}
  /-- (11 R264) power of the frame on show, mW; 0 -/
  p : Nat := 0
  /-- (11 R269) zone code of the last zone record taken at the end of a pass A; 0 -/
  z : Nat := 0
  /-- (11 R267) throttle step; 32 -/
  kz : Nat := 32
  /-- (05 R106) a temperature has been published since reset; false -/
  published : Bool := false
  /-- (11 R267) TJ is at or above T_FORCE; false -/
  forced : Bool := false
deriving DecidableEq, Repr

/-- The sensors of one logical tile. -/
structure ThmTile where
  /-- (11 R259) valid reading of each sensor, S8.8 °C; none -/
  temp : Vector (Option Int) 8 := .replicate 8 none
  /-- (11 R262) the sensor's last reading was invalid, and reported; false -/
  bad : Vector Bool 8 := .replicate 8 false
  /-- (11 R262) steps for which the sensor's deviation has exceeded DEV_TH; 0 -/
  dev : Vector Nat 8 := .replicate 8 0
  /-- (11 R263) steps for which the median residual has lain outside MODEL_DEV; 0 -/
  model : Nat := 0
  /-- (11 R263) that median at the last step, S16.16; 0 -/
  median : Int := 0
deriving DecidableEq, Repr

/-- What THM holds beside its registers. -/
structure Thm where
  /-- (11 R265) the 192 zones -/
  zone : Vector ThmZone 192 := .replicate 192 {}
  /-- (11 R259) the twelve logical tiles -/
  tile : Vector ThmTile 12 := .replicate 12 {}
  /-- (11 R260) valid heat-sink reading of each AIN, S8.8 °C; none -/
  ntc : Vector (Option Int) 8 := .replicate 8 none
  /-- (11 R262) its last reading was invalid, and reported; false -/
  ntcBad : Vector Bool 8 := .replicate 8 false
  /-- (11 R262) steps for which its deviation has exceeded DEV_TH; 0 -/
  ntcDev : Vector Nat 8 := .replicate 8 0
  /-- (11 R267) steps since the last tick; 0 -/
  steps : Nat := 0
  /-- (11 R268) sum of P_z at the last 100 steps, newest first; none -/
  power : List Nat := []
  /-- (11 R265) the next step is the first since EN was set; true -/
  fresh : Bool := true
  /-- (11 R264) mean VLED of the period that ended when the frame on show latched, mV; 0 -/
  vavg : Nat := 0
  /-- (12 R282) ki that THM uses, U8.16 mA, sampled at a step; none (KI_DEF) -/
  ki : Option Nat := none
  /-- (11 R272) T_SHUT reached: the store starts no write; false -/
  shut : Bool := false
  /-- (11 R272) the shutdown waits for a record write; false -/
  defer : Bool := false
  /-- (11 R271) reset cause of a thermal shutdown that is to be performed; none -/
  cause : Option Nat := none
  /-- (18 R426) understudy: T_z of the 192 zones from the lead's last THERM packet, S8.8; none -/
  leadT : List Nat := []
  /-- (18 R426) understudy: ZLIM of the 192 zones from the lead's last ZLIM packet; none -/
  leadZ : List Nat := []
  /-- (00 R6) captured THM set; none -/
  cap : Option Captured := none
  /-- (18 R425) a COMMIT of the lead waits until the captured set is live; false -/
  due : Bool := false
deriving DecidableEq, Repr


/-- A request to the calibration store in progress (spec/12_calibration.md R287). -/
structure NvOp where
  /-- (12 R287) WRITE (else READ) -/
  write : Bool := false
  /-- (12 R285) record ID -/
  id : Nat := 0
  /-- (12 R287) payload to write -/
  data : List Byte := []
  /-- (12 R282) automatic save -/
  auto : Bool := false
deriving DecidableEq, Repr

/-- One step of the external procedure (R284): sums over its samples. -/
structure ExtStep where
  /-- (12 R284) sum of x, 2^-16 full pixels -/
  x : Nat := 0
  /-- (12 R284) sum of y with SCORR = 1.0, mA -/
  y : Nat := 0
  /-- (12 R284) sum of i_ref, mA -/
  i : Nat := 0
  /-- (12 R284) samples taken, 0 to 16 -/
  n : Nat := 0
deriving DecidableEq, Repr

/-- What CAL holds beside its registers. -/
structure Cal where
  /-- (12 R285) calibration store, 128 KiB; PRESUMED unlisted bytes 0, log 15 -/
  nv : Memory := []
  /-- (12 R287) staging window, 2,048 bytes; 0, DESIGN CHOICE, log 15 -/
  window : Memory := []
  /-- (12 R288) store request in progress; none -/
  op : Option NvOp := none
  /-- (12 R282) an automatic save waits for the store; false -/
  autoDue : Bool := false
  /-- (12 R278) correction measurement in progress; false -/
  corr : Bool := false
  /-- (12 R277) a measurement of the range has passed; false -/
  adcOk : Vector Bool 3 := .replicate 3 false
  /-- (12 R278) FLT_CAL_ADC raised for the range since ADC_ERR was cleared; false -/
  adcBad : Vector Bool 3 := .replicate 3 false
  /-- (12 R280) accepted samples x, y of the block, newest first; none -/
  samples : List (Nat × Nat) := []
  /-- (12 R277, R284) CALP/CALN conversions of the period up to the last ADC_CORR_DONE, corrected; none -/
  calp : List Nat := []
  /-- (12 R284) steps of the external procedure, newest first; none -/
  steps : List ExtStep := []
  /-- (12 R284) a step is collecting; false -/
  taking : Bool := false
  /-- (12 R279) a mapped tile reported a lower cap or HOUSE in the period so far; false -/
  capped : Bool := false
  /-- (12 R279) the frame on show latched at the boundary that began the period; false -/
  latched : Bool := false
  /-- (12 R279) the LSC was not in CONTROL without protection bits in the whole period so far; false -/
  released : Bool := false
  /-- (12 R288) a bank switch or a re-index took place in the period so far; false -/
  broken : Bool := false
deriving DecidableEq, Repr


/-- A LOAD or STEP that waits (spec/13_network_time.md R308), with the ADJ value sampled when it was set. -/
structure AdjCmd where
  /-- (13 R308) LOAD (else STEP) -/
  load : Bool := true
  /-- (13 R308) seconds, 48 bits, signed for STEP -/
  sec : Int := 0
  /-- (13 R308) nanoseconds, signed for STEP -/
  ns : Int := 0
deriving DecidableEq, Repr

/-- One time domain (R305). N is bits [59:28] of `t`, its 28 fraction bits are bits [27:0], and S is the whole seconds of `t`. -/
structure Domain where
  /-- (13 R305) the domain's time in 2^-28 ns, below 2^48 s; 0 -/
  t : Nat := 0
  /-- (13 R308) pending LOAD or STEP; none -/
  cmd : Option AdjCmd := none
  /-- (13 R306) S held by a read of NS until both halves have been read, 48 bits; none -/
  held : Option Nat := none
  /-- (13 R306) S[31:0] has been read since; false -/
  readLo : Bool := false
  /-- (13 R306) S[47:32] has been read since; false -/
  readHi : Bool := false
deriving DecidableEq, Repr

/-- One captured edge (R310). -/
structure CapEntry where
  /-- (13 R310) N of the domain at the edge, 32 bits -/
  n : Nat := 0
  /-- (13 R310) S[15:0] -/
  sec : Nat := 0
  /-- (13 R310) edge -/
  falling : Bool := false
  /-- (13 R310) domain stamped -/
  dom : Nat := 0
deriving DecidableEq, Repr

/-- What TIME holds beside its registers. -/
structure Time where
  /-- (13 R305) TD-A and TD-B -/
  dom : Vector Domain 2 := .replicate 2 {}
  /-- (13 R309) frame time minus the source domain's time, in 2^-28 ns; 0 -/
  delta : Int := 0
  /-- (13 R310) capture FIFOs, 8 entries each, oldest first; empty -/
  cap : Vector (List CapEntry) 4 := .replicate 4 []
  /-- (13 R312) compare time in ns of an armed cue; none -/
  cueNext : Vector (Option Nat) 2 := .replicate 2 none
  /-- (13 R312) the compare time had passed when the cue was enabled or a forward step passed it; false -/
  cueLate : Vector Bool 2 := .replicate 2 false
  /-- (13 R312) level of TSOUTk; low -/
  tsout : Vector Bool 2 := .replicate 2 false
  /-- (13 R312) a pulse is under way on TSOUTk; false -/
  pulse : Vector Bool 2 := .replicate 2 false
  /-- (13 R311) level of PPS_OUT; low -/
  pps : Bool := false
deriving DecidableEq, Repr

/-- One entry of the duplicate table (R299). -/
structure DupEntry where
  /-- (13 R299) source address, 6 bytes -/
  src : List Byte := []
  /-- (13 R299) SeqNr, 16 bits -/
  seq : Nat := 0
  /-- (13 R299) arrival port -/
  port : Nat := 0
  /-- (13 R299) arrival, in ticks of `now` -/
  seen : Nat := 0
deriving DecidableEq, Repr

/-- What NET0 and NET1 hold beside their registers. -/
structure Net where
  /-- (13 R299) duplicate table, 512 entries, oldest first; empty -/
  dup : List DupEntry := []
  /-- (13 R297) receive ring stopped by an error; running -/
  rxStopped : Vector Bool 2 := .replicate 2 false
  /-- (13 R297) transmit ring stopped by an error; running -/
  txStopped : Vector Bool 2 := .replicate 2 false
  /-- (13 R315) instant of the last NETk_RX event, in ticks of `now`; none -/
  rxEvent : Vector (Option Nat) 2 := .replicate 2 none
  /-- (13 R294) the transmit ring has been kicked and has not stopped at a descriptor whose HW bit is 0; false -/
  txRun : Vector Bool 2 := .replicate 2 false
  /-- (13 R292) instant up to which a pause frame holds transmission, in ticks of `now`; 0 -/
  pause : Vector Nat 2 := .replicate 2 0
  /-- (13 R296) frames sent, oldest first: the model's record of what has left the port; none -/
  out : Vector (List (List Byte)) 2 := .replicate 2 []
deriving DecidableEq, Repr


/-- A copy of a safe message that waits for its twin (spec/14_safety.md R340). -/
structure SafeCopy where
  /-- (14 R340) port of arrival -/
  port : Nat := 0
  /-- (14 R339) ALIVE, 16 bits -/
  alive : Nat := 0
  /-- (14 R339) the message from its first byte -/
  data : List Byte := []
  /-- (14 R340) arrival, in ticks of `now` -/
  seen : Nat := 0
deriving DecidableEq, Repr

/-- A grant in force (R343). -/
structure Grant where
  /-- (14 R343) VALID -/
  valid : Bool := false
  /-- (14 R343) buffer base, 36 bits -/
  buf : Nat := 0
  /-- (14 R343) table base, 36 bits -/
  tbl : Nat := 0
deriving DecidableEq, Repr

/-- What the safety island holds beside its registers. -/
structure Safe where
  /-- (14 R324) higher cap (Z, D) that waits for the boundary whose instant has been fixed; none -/
  raiseTo : Option (Nat × Nat) := none
  /-- (14 R325) CAP (0, 0) has been requested and has yet to leave every port; false -/
  silence : Bool := false
  /-- (14 R329) switches that read both pins equal at the last read, 8 bits; 0 -/
  sealBad : Nat := 0
  /-- (14 R332) unmasked samples in a row that read the other level, per input; 0 -/
  run : Vector Nat 4 := .replicate 4 0
  /-- (14 R333) failures in a row of each input at its own source's pulses and at the other's; 0 -/
  tpFail : Vector Nat 8 := .replicate 8 0
  /-- (14 R335) each interlock since DISC or TP_ERR was set: 1 agreed open, 2 then closed; 0 -/
  ackSeen : Vector Nat 2 := .replicate 2 0
  /-- (14 R337) the same for the proof test; 0 -/
  proofSeen : Vector Nat 2 := .replicate 2 0
  /-- (14 R340) unmatched copies, at most 4 of a port, oldest first; none -/
  held : List SafeCopy := []
  /-- (14 R340) instant of the last FLT_SAFE_MSG, in ticks of `now`; none -/
  msgFault : Option Nat := none
  /-- (14 R343) grants in force; none -/
  grant : Vector Grant 8 := .replicate 8 {}
deriving DecidableEq, Repr


/-- What the fault collector holds beside its registers. -/
structure Flt where
  /-- (15 R356) occurrences raised that have not yet arrived at the collector, oldest first; none -/
  raised : List Occurrence := []
  /-- (15 R364) 96 bits: the last occurrence of the source had PIN; 0 -/
  pinSrc : Vector Bool 96 := .replicate 96 false
deriving DecidableEq, Repr


/-- What an engine has open, most recent first (spec/16_engines_events.md R373, R377, R379, R383): an activation with its source,
running priority and the context pushed for it; a non-maskable trap with its context; a synchronous trap (context in mepc). -/
inductive Opened where
  | event (src : Fin 128) (prio : Nat) (pc : Word) (machine : Bool)
  | nmi (pc : Word) (machine : Bool)
  | trap
deriving DecidableEq, Repr

/-- One control engine (R367), beside its EVC registers. -/
structure Engine where
  /-- (16 R372) program counter, 32 bits; 0x0100_0000 for E0, DESIGN CHOICE 0 for held engines, log 8 -/
  pc : Word := 0
  /-- (16 R367) machine mode (else user mode); true -/
  machine : Bool := true
  /-- (16 R367, R376) mstatus.MIE; 0 (privileged specification 1.12) -/
  mie : Bool := false
  /-- (16 R367) mstatus.MPIE; DESIGN CHOICE 0, log 8 -/
  mpie : Bool := false
  /-- (16 R367) mstatus.MPP is machine; DESIGN CHOICE 0, log 8 -/
  mpp : Bool := false
  /-- (16 R367) mstatus.MPRV; 0 (privileged specification 1.12) -/
  mprv : Bool := false
  /-- (16 R367) mstatus.TW; DESIGN CHOICE 0, log 8 -/
  tw : Bool := false
  /-- (16 R367) mcounteren, bits CY, TM and IR; DESIGN CHOICE 0, log 8 -/
  mcounteren : Word := 0
  /-- (16 R367) mcountinhibit, bits CY and IR; DESIGN CHOICE 0, log 8 -/
  mcountinhibit : Word := 0
  /-- (16 R373) mepc, 32 bits; DESIGN CHOICE 0, log 8 -/
  mepc : Word := 0
  /-- (16 R373) mcause, 32 bits; 0 -/
  mcause : Word := 0
  /-- (16 R367) mtval, 32 bits; DESIGN CHOICE 0, log 8 -/
  mtval : Word := 0
  /-- (16 R373) mtvec, 32 bits, direct mode; DESIGN CHOICE 0, log 8 -/
  mtvec : Word := 0
  /-- (16 R367) mscratch, 32 bits; DESIGN CHOICE 0, log 8 -/
  mscratch : Word := 0
  /-- (16 R367) general registers, x0 reads 0; DESIGN CHOICE 0, log 8 -/
  x : Vector Word 32 := .replicate 32 0
  /-- (16 R367) 16 PMP configurations; 0 -/
  pmpcfg : Vector Byte 16 := .replicate 16 0
  /-- (16 R367) 16 PMP addresses; DESIGN CHOICE 0, log 8 -/
  pmpaddr : Vector Word 16 := .replicate 16 0
  /-- (16 R367) mcycle; DESIGN CHOICE 0, log 8 -/
  mcycle : BitVec 64 := 0
  /-- (16 R367) minstret; DESIGN CHOICE 0, log 8 -/
  minstret : BitVec 64 := 0
  /-- (16 R377, R383) hardware context stack and open traps, most recent first, at most 16 events; empty -/
  opened : List Opened := []
  /-- (16 R383) non-maskable traps waiting; 0 -/
  nmiPend : Nat := 0
  /-- (16 R368) access fault that ended an access of the engine, until its trap opens: access and address; none -/
  fault : Option (Access × Nat) := none
  /-- (16 R380) FLT_EVC_NEST raised and the depth not below 16 since; false -/
  nestRaised : Bool := false
  /-- (16 R374) second stage expired: the count waits for the next kick; false -/
  wdtStopped : Bool := false
  /-- (16 R374) first stage expired since the last kick; false -/
  wdtWarned : Bool := false
  /-- (16 R386) first-stage time in force since the last kick, 16 bits; 0x2710 -/
  wdtWarn : Nat := 0x2710
deriving DecidableEq, Repr

/-- What EVC holds beside its registers. -/
structure Evc where
  /-- (16 R367) the sixteen engines -/
  engine : Vector Engine 16 := (Vector.replicate 16 {}).set 0 { pc := 0x01000000 }
  /-- (16 R382) 128 bits: the pending event has been redirected to FALLBACK; 0 -/
  redirected : Vector Bool 128 := .replicate 128 false
  /-- (16 R372) E0 may still write the registers of E12 and E13; true after a chip reset -/
  romRights : Bool := true
deriving DecidableEq, Repr

/-- The first-in first-out buffers of one UART (R388) or I2C controller (R389). -/
structure Fifos where
  /-- (16 R388, R389) transmit FIFO, 16 bytes (UART) or 8 bytes (I2C), oldest first; empty -/
  tx : List Byte := []
  /-- (16 R388, R389) receive FIFO, 16 bytes (UART) or 8 bytes (I2C), oldest first; empty -/
  rx : List Byte := []
deriving DecidableEq, Repr

/-- What passes on an I2C bus (R389): a START with its address and direction, a data byte either way, a STOP. -/
inductive I2cItem where
  | start (addr : Nat) (read : Bool)
  | data (b : Byte)
  | stop
deriving DecidableEq, Repr

/-- What PERI holds beside its registers. -/
structure Peri where
  /-- (16 R388) UART FIFOs -/
  uart : Vector Fifos 2 := .replicate 2 {}
  /-- (16 R388) characters that have left each UART, as the bits on the line, oldest first; none, log 2 -/
  uartOut : Vector (List (List Bool)) 2 := .replicate 2 []
  /-- (16 R389, 03 R74) I2C FIFOs; index 2 is the MASKIN controller -/
  i2c : Vector Fifos 3 := .replicate 3 {}
  /-- (16 R389) the bus is held for a repeated START; false -/
  i2cHeld : Vector Bool 3 := .replicate 3 false
  /-- (16 R389) data bytes of the transfer in progress that have gone over the bus; 0 -/
  i2cCount : Vector Nat 3 := .replicate 3 0
  /-- (16 R389) what each I2C controller has put on its bus or taken from it, oldest first; none, log 2 -/
  i2cBus : Vector (List I2cItem) 3 := .replicate 3 []
  /-- (16 R390) frame being sent, 8, 16 or 32 bits; 0 -/
  spiTx : Nat := 0
  /-- (16 R390) frames that have left the SPI controller, each with its mode and its bits, most significant first, oldest first; none, log 2 -/
  spiOut : List (Nat × List Bool) := []
  /-- (16 R390) CS_N of the SPI controller is low; false -/
  csLow : Bool := false
  /-- (16 R390) the count that each timer started from, 32 bits; 0 -/
  timStart : Vector Nat 4 := .replicate 4 0
  /-- (16 R390) high word held by a read of PERI_TBASE_LO; none -/
  tbaseHeld : Option Nat := none
  /-- (16 R390) instant at which PERI_TBASE started from 0, in ticks of `now`; 0 -/
  tbaseStart : Nat := 0
deriving DecidableEq, Repr


/-- What one check-value unit holds beside its registers. -/
structure CvuUnit where
  /-- (17 R409) ADDR sampled at START, 36 bits; 0 -/
  addr : Nat := 0
  /-- (17 R409) LEN sampled at START; 0 -/
  len : Nat := 0
  /-- (17 R409) EXPECT sampled at START; 0 -/
  expect : Nat := 0
  /-- (17 R412) a period elapsed during the scan: the next scan starts as soon as it ends; false -/
  late : Bool := false
deriving DecidableEq, Repr

/-- What the check-value units hold beside their registers. -/
structure Cvu where
  /-- (17 R409) the four units -/
  unit : Vector CvuUnit 4 := .replicate 4 {}
deriving DecidableEq, Repr


/-- What MEMC holds beside its registers. -/
structure Memc where
  /-- (17 R397) next block that the scrub reads, counted from the start of DRAM; 0 -/
  scrub : Nat := 0
  /-- (17 R397) blocks that this scrub pass has corrected; none -/
  fixedNow : List Nat := []
  /-- (17 R397) blocks that the last scrub pass corrected; none -/
  fixedLast : List Nat := []
  /-- (17 R413) instant of the last MEMC_CE event, in ticks of `now`; none -/
  ceAt : Option Nat := none
deriving DecidableEq, Repr


/-- A window DMA transfer in progress, sampled at GO (spec/17_memory_window.md R408). -/
structure DmaRun where
  /-- (17 R408) source address, 36 bits -/
  src : Nat := 0
  /-- (17 R408) destination address, 36 bits -/
  dst : Nat := 0
  /-- (17 R408) bytes, a multiple of 64 -/
  len : Nat := 0
  /-- (17 R408) owner that the writes act for -/
  own : Nat := 0
  /-- (17 R408) owner on completion; 7 to 15 none -/
  handTo : Nat := 15
  /-- (17 R408) blocks of 64 bytes that it has written; 0 -/
  done : Nat := 0
deriving DecidableEq, Repr

/-- What WIN holds beside its registers. -/
structure Win where
  /-- (17 R405) accepted hand-over that has not taken place: slot and new owner; none -/
  xfer : Option (Nat × Nat) := none
  /-- (17 R407) accepted retires that wait: slot and new owner, oldest first; none -/
  retire : List (Nat × Nat) := []
  /-- (17 R408) the four DMA channels; none running -/
  dma : Vector (Option DmaRun) 4 := .replicate 4 none
deriving DecidableEq, Repr


/-- A drive-frame CRC record, this unit's own or the partner's (spec/18_pair.md R428, R429). -/
structure PairCrc where
  /-- (18 R428) FRAME_NO, 32 bits -/
  frame : Nat := 0
  /-- (18 R428) mask of mapped ports, 16 bits -/
  ports : Nat := 0
  /-- (18 R428) ABORTED -/
  aborted : Bool := false
  /-- (18 R428) SA_DRV_PCRC0 to 11 -/
  crc : List Nat := []
deriving DecidableEq, Repr

/-- What PAIR holds beside its registers. -/
structure Pair where
  /-- (18 R425) REG entries queued for the understudy, address and value, oldest first; empty -/
  regQueue : List (Nat × Nat) := []
  /-- (18 R421) packets sent on the partner lane, oldest first: the model's record of what has left; none -/
  out : List (List Byte) := []
  /-- (18 R421) MSG payloads received, oldest first: the software mailbox; none -/
  inbox : List (List Byte) := []
  /-- (18 R420) a valid HELLO has been received since EN was set; false -/
  heard : Bool := false
  /-- (18 R420) the role has been decided since EN was set; false -/
  decided : Bool := false
  /-- (18 R430) a valid packet has been received since the role was taken; false -/
  live : Bool := false
  /-- (18 R431, R432) the transmitters drop frame-bound packets although the unit is no paired understudy; false -/
  mute : Bool := false
  /-- (18 R429) consecutive frames that matched; 0 -/
  run : Nat := 0
  /-- (18 R429) own records of the last four frames, newest first; none -/
  own : List PairCrc := []
  /-- (18 R429) the partner's records not yet compared, at most four, newest first; none -/
  peer : List PairCrc := []
  /-- (18 R424) FRAME_NO and stamp of this unit's last four boundaries, newest first; none -/
  bounds : List (Nat × Nat) := []
  /-- (18 R424) FRAME_NO and stamp of a lead's BEAT that waits for this unit's boundary; none -/
  beat : Option (Nat × Nat) := none
  /-- (18 R423) last averaged round trip of the partner lane, in units of 1/128 ns; 0, DESIGN CHOICE, log 20 -/
  rtt : Nat := 0
  /-- (18 R434) instants of the trailer errors of the last second, in ticks of `now`; none -/
  errors : List Nat := []
  /-- (18 R426) FRAME_NO of the last THERM packet; none -/
  therm : Option Nat := none
  /-- (18 R426) FRAME_NO and limits of the last four ZLIM packets, newest first; none -/
  zlim : List (Nat × List Nat) := []
  /-- (18 R426) FRAME_NO of the frame that has its factors; none -/
  thermOf : Option Nat := none
  /-- (18 R425) blocks and boundary of COMMIT packets whose set has not been captured, oldest first; none -/
  due : List (Nat × Nat) := []
deriving DecidableEq, Repr


/-- A request to a lower state in progress (spec/19_power_clocks_reset.md R439). -/
structure PwrReq where
  /-- (19 R438) domain index -/
  domain : Nat := 0
  /-- (19 R438) state requested, 0 OFF or 1 RET -/
  target : Nat := 0
  /-- (19 R439) past the commit point -/
  committed : Bool := false
  /-- (19 R440) a wake arrived after the commit cycle and is held -/
  heldWake : Bool := false
  /-- (19 R440) the held wake is a GO that requests ON -/
  heldGo : Bool := false
deriving DecidableEq, Repr

/-- A domain on its way to ON (R442). -/
structure WakeProg where
  /-- (19 R442) domain index -/
  domain : Nat := 0
  /-- (19 R438) state requested, 1 RET or 2 ON -/
  target : Nat := 2
  /-- (19 R442) 1 regulator, 2 oscillator, 3 memory, 4 logic -/
  step : Nat := 1
  /-- (19 R443) attempts of the step that missed their timeout -/
  tries : Nat := 0
  /-- (19 R442) the domain was OFF: its memories are wiped -/
  fromOff : Bool := true
  /-- (19 R443) the step is withdrawn and waits to be started again -/
  withdrawn : Bool := false
  /-- (19 R438) a set of PWRCTL_REQ.GO started it -/
  go : Bool := false
deriving DecidableEq, Repr

/-- Where standby stands (R445). -/
inductive Standby where | none | quiesce | committed | asleep
deriving DecidableEq, Repr

/-- A reset that has been started and not yet performed (R449). -/
structure ResetReq where
  /-- (19 R459) cause code of CLKRST_CAUSE -/
  cause : Nat := 0
  /-- (19 R459) fault source for cause FAULT -/
  src : Nat := 0
deriving DecidableEq, Repr

/-- What PWRCTL and CLKRST hold beside their registers. -/
structure Pwr where
  /-- (19 R439) request to a lower state in progress; none -/
  req : Option PwrReq := none
  /-- (19 R442) domains in their wake order; none -/
  wakes : List WakeProg := []
  /-- (19 R445) standby phase; none -/
  standby : Standby := .none
  /-- (19 R440) WAKE pin whose edge came after the standby commit; none -/
  stbyWake : Option Nat := none
  /-- (19 R444) chip held in reset until PGOOD0 returns; false -/
  resetHeld : Bool := false
  /-- (19 R449) reset started, not yet performed; none -/
  reset : Option ResetReq := none
  /-- (19 R446) a cold start is under way; false -/
  cold : Bool := false
  /-- (16 R372, 19 R446, R450) a chip reset has been released and E0 has not yet started; false -/
  boot : Bool := false
  /-- (19 R448) crystal, system PLL or a clock has failed since they last started; false -/
  oscBad : Bool := false
  /-- (11 R271) off after a thermal shutdown; false -/
  shutdown : Bool := false
  /-- (19 R450) SYSRESET_N is driven low; false -/
  sysresetLow : Bool := false
  /-- (19 R452) the system watchdog has expired and no chip reset has followed; false -/
  swdtExpired : Bool := false
  /-- (19 R452) half of TMO has passed since the last kick; false -/
  swdtHalf : Bool := false
  /-- (19 R459) timeout in force since the last kick, 16 bits; 1,000 -/
  swdtTmo : Nat := 0x3E8
deriving DecidableEq, Repr


/-- The key store of the embedded NVM (spec/20_identity_lifecycle.md R460, R462, R471). -/
structure KeyStore where
  /-- (20 R462, R466) verified owner public key; none, DESIGN CHOICE, log 6 -/
  owner : Option (Nat × Nat) := none
  /-- (20 R462, 14 R339) the two safe-message keys, 32 bytes; cleared (0), DESIGN CHOICE, log 6 -/
  smKey : Vector (List Byte) 2 := .replicate 2 (List.replicate 32 0)
  /-- (20 R471) wipe-pending record, DENSITY and RATE; none -/
  wipe : Option (Nat × Nat) := none
  /-- (20 R460) the device key is present (destroyed when the part enters VOID); true, DESIGN CHOICE, log 6 -/
  device : Bool := true
deriving DecidableEq, Repr

/-- A CRYPTO operation in progress, sampled at GO (spec/20_identity_lifecycle.md R476). -/
structure CryptoOp where
  /-- (20 R476) OP -/
  op : Nat := 0
  /-- (20 R476) KEY -/
  key : Nat := 0
  /-- (20 R476) CRYPTO_ADDR, 36 bits -/
  addr : Nat := 0
  /-- (20 R476) CRYPTO_LEN -/
  len : Nat := 0
deriving DecidableEq, Repr

/-- What SYSCTL and CRYPTO hold beside their registers. -/
structure Ident where
  /-- (20 R460) key store -/
  keys : KeyStore := {}
  /-- (20 R476) operation in progress; none -/
  op : Option CryptoOp := none
  /-- (20 R462) an entropy health test has failed since the last chip reset; false -/
  trngFail : Bool := false
  /-- (20 R472) token window of the JTAG port, 256 bytes; 0, DESIGN CHOICE, log 6 -/
  token : List Byte := List.replicate 256 0
  /-- (20 R467) SVN of the directory that booted the part; none -/
  bootSvn : Option Nat := none
  /-- (20 R463) BOOTMODE as the last chip reset sampled it, 3 bits; that of the part's balls, DESIGN CHOICE 0, log 6 -/
  bootmode : Nat := 0
  /-- (20 R466, 02 R49) the kernel store: the bytes of the kernel library; empty, DESIGN CHOICE, log 6 -/
  kernels : List Byte := []
deriving DecidableEq, Repr

/-- The state of the PX2. -/
structure State where
  /-- the part's own constants -/
  part : Part
  /-- Stage Array -/
  sa : Sa
  /-- layers -/
  layer : Layer
  /-- MASKIN -/
  maskin : Maskin
  /-- frame timing -/
  ft : Ft
  /-- tile link -/
  tl : Tl
  /-- serial lanes -/
  lane : Lane
  /-- pixel health -/
  hlth : Hlth
  /-- LED supply -/
  lsc : Lsc
  /-- thermal model -/
  thm : Thm
  /-- calibration -/
  cal : Cal
  /-- TIME -/
  time : Time
  /-- NET0 and NET1 -/
  net : Net
  /-- safety island -/
  safe : Safe
  /-- fault collector -/
  flt : Flt
  /-- engines and event controller -/
  evc : Evc
  /-- service peripherals -/
  peri : Peri
  /-- check-value units -/
  cvu : Cvu
  /-- memory controller -/
  memc : Memc
  /-- stage window -/
  win : Win
  /-- PAIR -/
  pair : Pair
  /-- power, clocks and reset -/
  pwr : Pwr
  /-- identity and keys -/
  ident : Ident
  /-- every register field: the value software reads (for a C field its shadow copy, R5); nothing listed, every field at its reset value -/
  regs : RegFile
  /-- the live copy of every C field (R5); equal to the shadow at reset -/
  live : RegFile
  /-- shared SRAM, engine SRAMs and DRAM (16 R369, 17 R391); nothing listed -/
  mem : Memory
  /-- the model's own: how often DRAM has lost its content (19 R449); DESIGN CHOICE 0, log 5 -/
  dramGen : Nat
  /-- the model's own: free values drawn so far; DESIGN CHOICE 0, log 4 -/
  freeCtr : Nat
  /-- 2.5 ns ticks of the 400 MHz clock since power-on (19 R447); DESIGN CHOICE 0, log 3 -/
  now : Nat
  /-- the commands that are waiting, first in, first out; empty -/
  pending : List Instr
deriving DecidableEq, Repr

/-- Why a command stops the machine. No command of the table does: the constructor exists because the interface asks for a type.
Safe. -/
inductive Fault where
  /-- Raised by no command. Safe. -/
  | stopped
deriving DecidableEq, Repr

/-- Why a command has no meaning. -/
inductive Refusal where
  /-- Raised by the dispatcher for a command that has no meaning yet. Safe. -/
  | notModelled (mnemonic : String)
deriving DecidableEq, Repr

/-- What a command answers. -/
abbrev Res := Host.Outcome State Fault Refusal

/-- The machine right after power-on reset. -/
def State.reset : State where
  part := {}
  sa := {}
  layer := {}
  maskin := {}
  ft := {}
  tl := {}
  lane := {}
  hlth := {}
  lsc := {}
  thm := {}
  cal := {}
  time := {}
  net := {}
  safe := {}
  flt := {}
  evc := {}
  peri := {}
  cvu := {}
  memc := {}
  win := {}
  pair := {}
  pwr := {}
  ident := {}
  regs := []
  live := []
  mem := []
  dramGen := 0
  freeCtr := 0
  now := 0
  pending := []

end Sys2Proof.Machine
end

