-- ==== Sys2Proof/Machine/Regs.lean ====
section
/-! DEFINITION. The register fields of the PX2, written from the field tables of spec/02 to spec/20 by name: the 36-bit system
address of the register, the field's lowest bit, its width and its reset value. A field that repeats takes its index. -/

namespace Sys2Proof.Machine

/-- The class and added reactions of the 96 fault sources at reset (spec/15_faults.md R352), source number first. -/
def fltTable : List (Nat × Nat × Nat × Nat) :=
  [(0, 1, 0, 0), (1, 2, 16, 0), (2, 2, 16, 0), (3, 3, 0, 0), (4, 3, 8, 0), (5, 1, 0, 0), (6, 3, 8, 0), (7, 3, 8, 0), (8, 3, 8, 0), (9, 3, 8, 0), (10, 1, 0, 0), (11, 2, 2, 0), (12, 1, 0, 0), (13, 2, 2, 0), (14, 0, 0, 0), (15, 1, 0, 0)] ++
  [(16, 0, 0, 0), (17, 2, 16, 0), (18, 2, 16, 0), (19, 1, 0, 0), (20, 1, 0, 0), (21, 3, 0, 0), (22, 1, 0, 0), (23, 0, 0, 0), (24, 2, 32, 0), (25, 1, 0, 0), (26, 2, 0, 0), (27, 1, 0, 0), (28, 2, 0, 0), (29, 2, 0, 0), (30, 1, 0, 0), (31, 2, 16, 0)] ++
  [(32, 2, 0, 0), (33, 2, 32, 0), (34, 2, 0, 0), (35, 2, 0, 0), (36, 1, 0, 0), (37, 1, 0, 0), (38, 1, 0, 0), (39, 2, 16, 0), (40, 1, 0, 0), (41, 2, 0, 0), (42, 2, 0, 0), (43, 1, 0, 0), (44, 2, 0, 0), (45, 2, 0, 0), (46, 3, 32, 0), (47, 2, 16, 0)] ++
  [(48, 3, 0, 1), (49, 3, 0, 1), (50, 3, 0, 1), (51, 3, 0, 1), (52, 2, 0, 0), (53, 1, 0, 0), (54, 0, 0, 0), (55, 0, 0, 0), (56, 2, 32, 0), (57, 1, 0, 0), (58, 1, 0, 0), (59, 2, 16, 0), (60, 3, 0, 0), (61, 2, 16, 0), (62, 2, 16, 0), (63, 1, 0, 0)] ++
  [(64, 1, 0, 0), (65, 1, 0, 0), (66, 2, 0, 0), (67, 1, 0, 0), (68, 2, 16, 0), (69, 2, 0, 0), (70, 1, 0, 0), (71, 0, 0, 0), (72, 1, 0, 0), (73, 1, 0, 0), (74, 2, 0, 0), (75, 0, 0, 0), (76, 2, 16, 0), (77, 2, 0, 0), (78, 0, 0, 0), (79, 1, 0, 0)] ++
  [(80, 1, 0, 0), (81, 1, 0, 0), (82, 2, 16, 0), (83, 2, 0, 0), (84, 1, 0, 0), (85, 0, 0, 0), (86, 3, 8, 0), (87, 1, 0, 0), (88, 1, 0, 0), (89, 1, 0, 0), (90, 1, 0, 0), (91, 1, 0, 0), (92, 1, 0, 0), (93, 1, 0, 0), (94, 1, 0, 0), (95, 1, 0, 0)]

def fltRow (n : Nat) : Nat × Nat × Nat := ((fltTable.find? (fun r => r.1 == n)).map (fun r => r.2)).getD (0, 0, 0)
/-- Default class of fault source `n` (R352). -/
def fltSrcClass (n : Nat) : Nat := (fltRow n).1
/-- Reactions set in REACT at reset for fault source `n`, in the bit order of R357 (R352). -/
def fltSrcReact (n : Nat) : Nat := (fltRow n).2.1
/-- 1 for the four lockout-eligible sources (R352). -/
def fltSrcElig (n : Nat) : Nat := (fltRow n).2.2
/-- The floor of class `c` at reset (R351). -/
def fltFloor (c : Nat) : Nat := if c < 3 then 1 else 0x12
/-- EVC_ENGe_CTRL.HOLD at reset (R386): 0 for E0, else 1. -/
def engHold (e : Nat) : Nat := if e = 0 then 0 else 1
/-- WIN_ROLEe.MASK at reset (spec/17_memory_window.md R416). -/
def winRole (e : Nat) : Nat :=
  if e ≤ 2 then 0x22 else if e ≤ 6 then 0x24 else if e = 10 then 0x28 else if e = 12 ∨ e = 13 then 0x60 else 0x20

/-- The kind of unit fault source `n` names (R352, column Unit). -/
def fltUnit (n : Nat) : UnitKind :=
  if [0, 1, 10, 11, 12, 13, 14, 15, 25].contains n then .engine else
  if [23, 24].contains n then .bank else
  if [32, 33].contains n then .quadrant else
  if [40, 41, 42, 43, 44, 45, 46, 58].contains n then .port else
  if [56, 66].contains n then .zone else
  if [73, 74].contains n then .netPort else
  .none

abbrev FLT_BUS_ERR : Nat := 0
abbrev FLT_BUS_TMO : Nat := 1
abbrev FLT_PWR_WAKE : Nat := 2
abbrev FLT_PWR_PGOOD : Nat := 3
abbrev FLT_PWR_VMON : Nat := 4
abbrev FLT_PWR_XING : Nat := 5
abbrev FLT_CLK_MON : Nat := 6
abbrev FLT_CLK_PLL : Nat := 7
abbrev FLT_CLK_XTAL : Nat := 8
abbrev FLT_SYS_WDT : Nat := 9
abbrev FLT_ENG_WDT_WARN : Nat := 10
abbrev FLT_ENG_WDT : Nat := 11
abbrev FLT_ENG_EXC : Nat := 12
abbrev FLT_ENG_ECC : Nat := 13
abbrev FLT_EVC_REDIRECT : Nat := 14
abbrev FLT_EVC_NEST : Nat := 15
abbrev FLT_MEM_CE : Nat := 16
abbrev FLT_MEM_UE : Nat := 17
abbrev FLT_MEM_ADDR : Nat := 18
abbrev FLT_MEM_SCRUB : Nat := 19
abbrev FLT_MEM_LINK : Nat := 20
abbrev FLT_MEM_TRAIN : Nat := 21
abbrev FLT_MEM_TEMP : Nat := 22
abbrev FLT_SRAM_CE : Nat := 23
abbrev FLT_SRAM_UE : Nat := 24
abbrev FLT_WIN_OWNER : Nat := 25
abbrev FLT_WIN_DMA : Nat := 26
abbrev FLT_WIN_TMO : Nat := 27
abbrev FLT_CVU_MISMATCH : Nat := 28
abbrev FLT_CVU_ALIVE : Nat := 29
abbrev FLT_SA_IMAGE : Nat := 30
abbrev FLT_SA_KAL : Nat := 31
abbrev FLT_SA_ECC : Nat := 32
abbrev FLT_SA_CELL : Nat := 33
abbrev FLT_SA_DRV : Nat := 34
abbrev FLT_LAYER_FETCH : Nat := 35
abbrev FLT_LAYER_CLAMP : Nat := 36
abbrev FLT_MASKIN_SAFE : Nat := 37
abbrev FLT_FT_OVERRUN : Nat := 38
abbrev FLT_FT_ABORT : Nat := 39
abbrev FLT_TL_TRAIN : Nat := 40
abbrev FLT_TL_MISMATCH : Nat := 41
abbrev FLT_TL_LINK : Nat := 42
abbrev FLT_TL_RXERR : Nat := 43
abbrev FLT_TL_ECHO : Nat := 44
abbrev FLT_TL_STALE : Nat := 45
abbrev FLT_TL_CAPACK : Nat := 46
abbrev FLT_LANE_PLL : Nat := 47
abbrev FLT_SAFE_DISC : Nat := 48
abbrev FLT_SAFE_TP : Nat := 49
abbrev FLT_SAFE_SEAL : Nat := 50
abbrev FLT_SAFE_CLAMP : Nat := 51
abbrev FLT_SAFE_WATCH : Nat := 52
abbrev FLT_SAFE_MSG : Nat := 53
abbrev FLT_SAFE_PROOF : Nat := 54
abbrev FLT_HLTH_PIXEL : Nat := 55
abbrev FLT_HLTH_ZONE : Nat := 56
abbrev FLT_HLTH_BASE : Nat := 57
abbrev FLT_HLTH_MISS : Nat := 58
abbrev FLT_LSC_OC : Nat := 59
abbrev FLT_LSC_OV : Nat := 60
abbrev FLT_LSC_UV : Nat := 61
abbrev FLT_LSC_EXT : Nat := 62
abbrev FLT_LSC_LATE : Nat := 63
abbrev FLT_THM_SENSOR : Nat := 64
abbrev FLT_THM_MODEL : Nat := 65
abbrev FLT_THM_FORCE : Nat := 66
abbrev FLT_THM_DIE_HOT : Nat := 67
abbrev FLT_THM_DIE_OVR : Nat := 68
abbrev FLT_CAL_ADC : Nat := 69
abbrev FLT_CAL_RESID : Nat := 70
abbrev FLT_CAL_INSUFF : Nat := 71
abbrev FLT_CAL_NV : Nat := 72
abbrev FLT_NET_LINK : Nat := 73
abbrev FLT_NET_DMA : Nat := 74
abbrev FLT_TIME_STEP : Nat := 75
abbrev FLT_PAIR_DIVERGE : Nat := 76
abbrev FLT_PAIR_LOST : Nat := 77
abbrev FLT_PAIR_TAKEOVER : Nat := 78
abbrev FLT_PAIR_DEMOTE : Nat := 79
abbrev FLT_PAIR_VER : Nat := 80
abbrev FLT_PAIR_LINK : Nat := 81
abbrev FLT_CRYPTO_KEY : Nat := 82
abbrev FLT_CRYPTO_RNG : Nat := 83
abbrev FLT_DBG_AUTH : Nat := 84
abbrev FLT_DBG_ACTIVE : Nat := 85
abbrev FLT_LC_FUSE : Nat := 86
abbrev FLT_PERI_FLASH : Nat := 87
/-- The eight software sources start here (R363). -/
abbrev FLT_SW0 : Nat := 88

namespace Reg

/-- The two I2C controllers of PERI and the MASKIN controller (R387, R389): the offset of controller `c` from PERI. -/
def i2cBase (c : Nat) : Nat := if c = 0 then 0x20170200 else if c = 1 then 0x20170300 else 0x20180100

-- 02_stage_array.md
def SA_CTRL_EN : Fld := ⟨0x20080000, 0, 1, 0⟩
def SA_CTRL_COMMIT : Fld := ⟨0x20080000, 1, 1, 0⟩
def SA_CTRL_AUTO_FALLBACK : Fld := ⟨0x20080000, 2, 1, 0⟩
def SA_CTRL_KAL_EN : Fld := ⟨0x20080000, 3, 1, 1⟩
def SA_STATUS_RUN : Fld := ⟨0x20080004, 0, 1, 0⟩
def SA_STATUS_ACTIVE_BANK : Fld := ⟨0x20080004, 1, 1, 0⟩
def SA_STATUS_VALID_A : Fld := ⟨0x20080004, 2, 1, 0⟩
def SA_STATUS_VALID_B : Fld := ⟨0x20080004, 3, 1, 0⟩
def SA_STATUS_LOAD_BUSY : Fld := ⟨0x20080004, 4, 1, 0⟩
def SA_STATUS_SWITCH_PEND : Fld := ⟨0x20080004, 5, 1, 0⟩
def SA_STATUS_STOPPED : Fld := ⟨0x20080004, 6, 1, 0⟩
def SA_STATUS_WERR : Fld := ⟨0x20080004, 7, 1, 0⟩
def SA_STATUS_PROFILE : Fld := ⟨0x20080004, 8, 4, 0⟩
def SA_STATUS_MODE : Fld := ⟨0x20080004, 16, 8, 0⟩
def SA_COMMIT_ERR_CODE : Fld := ⟨0x20080008, 0, 8, 0⟩
def SA_BANK_SEL_NEXT_BANK : Fld := ⟨0x2008000C, 0, 1, 0⟩
def SA_BANK_SEL_SWITCH_MODE : Fld := ⟨0x2008000C, 1, 1, 0⟩
def SA_LOAD_ADDR_LO_ADDR : Fld := ⟨0x20080010, 6, 26, 0⟩
def SA_LOAD_ADDR_HI_ADDR_HI : Fld := ⟨0x20080014, 0, 4, 0⟩
def SA_LOAD_CTRL_START : Fld := ⟨0x20080018, 0, 1, 0⟩
def SA_LOAD_CTRL_BANK : Fld := ⟨0x20080018, 1, 1, 0⟩
def SA_LOAD_CTRL_ABORT : Fld := ⟨0x20080018, 2, 1, 0⟩
def SA_LOAD_STATUS_BUSY : Fld := ⟨0x2008001C, 0, 1, 0⟩
def SA_LOAD_STATUS_DONE : Fld := ⟨0x2008001C, 1, 1, 0⟩
def SA_LOAD_STATUS_ERR : Fld := ⟨0x2008001C, 2, 1, 0⟩
def SA_LOAD_STATUS_ERR_CODE : Fld := ⟨0x2008001C, 8, 8, 0⟩
def SA_LOAD_STATUS_ERR_SECTION : Fld := ⟨0x2008001C, 16, 16, 0⟩
def SA_IMAGE_ID_A_IMAGE_ID : Fld := ⟨0x20080020, 0, 32, 0⟩
def SA_IMAGE_ID_B_IMAGE_ID : Fld := ⟨0x20080024, 0, 32, 0⟩
def SA_KLIB_VER_VER : Fld := ⟨0x20080028, 0, 32, 0⟩
def SA_QUAD_NEED_ACTIVE : Fld := ⟨0x2008002C, 0, 4, 0⟩
def SA_QUAD_NEED_INACTIVE : Fld := ⟨0x2008002C, 4, 4, 0⟩
def SA_KAL_STATUS_A_FAIL : Fld := ⟨0x20080030, 0, 1, 0⟩
def SA_KAL_STATUS_B_FAIL : Fld := ⟨0x20080030, 1, 1, 0⟩
def SA_KAL_STATUS_LAST_SEED : Fld := ⟨0x20080030, 4, 4, 0⟩
def SA_KAL_STATUS_FAIL_CNT : Fld := ⟨0x20080030, 16, 16, 0⟩
def SA_DIAG_CTRL_CELL : Fld := ⟨0x20080040, 0, 7, 0⟩
def SA_DIAG_CTRL_START : Fld := ⟨0x20080040, 8, 1, 0⟩
def SA_DIAG_CTRL_FULL : Fld := ⟨0x20080040, 9, 1, 0⟩
def SA_DIAG_STATUS_BUSY : Fld := ⟨0x20080044, 0, 1, 0⟩
def SA_DIAG_STATUS_PASS : Fld := ⟨0x20080044, 1, 1, 0⟩
def SA_DIAG_STATUS_DONE : Fld := ⟨0x20080044, 2, 1, 0⟩
def SA_DIAG_STATUS_FAIL_UNIT : Fld := ⟨0x20080044, 8, 4, 0⟩
def SA_FENCE (i : Nat) : Fld := ⟨0x20080050 + i / 32 * 4, i % 32, 1, 0⟩
def SA_ECC_STATUS_CORR_CNT : Fld := ⟨0x20080060, 0, 16, 0⟩
def SA_ECC_STATUS_DED_CELL : Fld := ⟨0x20080060, 16, 7, 0⟩
def SA_ECC_STATUS_DED : Fld := ⟨0x20080060, 24, 1, 0⟩
-- 03_layers_blending.md
def LAYER_CTRL_EN : Fld := ⟨0x20090000, 0, 1, 0⟩
def LAYER_CTRL_COMMIT : Fld := ⟨0x20090000, 1, 1, 0⟩
def LAYER_STATUS_LIVE (i : Nat) : Fld := ⟨0x20090004, i, 1, 0⟩
def LAYER_STATUS_ARMED (i : Nat) : Fld := ⟨0x20090004, 8 + i, 1, 0⟩
def LAYER_STATUS_STALE (i : Nat) : Fld := ⟨0x20090004, 16 + i, 1, 0⟩
def LAYER_STATUS_WERR : Fld := ⟨0x20090004, 24, 1, 0⟩
def LAYER_STATUS_FETCH_ERR : Fld := ⟨0x20090004, 25, 1, 0⟩
def LAYER_COMMIT_ERR_CODE : Fld := ⟨0x20090008, 0, 8, 0⟩
def LAYER_COMMIT_ERR_LAYER : Fld := ⟨0x20090008, 8, 3, 0⟩
def LAYER_STALE_MAX_MAX : Fld := ⟨0x2009000C, 0, 8, 4⟩
def LAYER_RETIRE_TO_OWNER : Fld := ⟨0x20090010, 0, 1, 0⟩
def LAYER_L_CTRL_ENABLE (k : Nat) : Fld := ⟨0x20090100 + k * 0x40, 0, 1, 0⟩
def LAYER_L_CTRL_BLEND (k : Nat) : Fld := ⟨0x20090100 + k * 0x40, 1, 3, 0⟩
def LAYER_L_CTRL_FORMAT (k : Nat) : Fld := ⟨0x20090100 + k * 0x40, 4, 2, 0⟩
def LAYER_L_CTRL_PRELUT_EN (k : Nat) : Fld := ⟨0x20090100 + k * 0x40, 6, 1, 0⟩
def LAYER_L_CTRL_SRC (k : Nat) : Fld := ⟨0x20090100 + k * 0x40, 7, 1, 0⟩
def LAYER_L_CTRL_FLIP_GROUP (k : Nat) : Fld := ⟨0x20090100 + k * 0x40, 8, 2, 0⟩
def LAYER_L_SIZE_WIDTH (k : Nat) : Fld := ⟨0x20090104 + k * 0x40, 0, 13, 0⟩
def LAYER_L_SIZE_HEIGHT (k : Nat) : Fld := ⟨0x20090104 + k * 0x40, 16, 13, 0⟩
def LAYER_L_BUF_LO_ADDR (k : Nat) : Fld := ⟨0x20090108 + k * 0x40, 6, 26, 0⟩
def LAYER_L_BUF_HI_ADDR_HI (k : Nat) : Fld := ⟨0x2009010C + k * 0x40, 0, 4, 0⟩
def LAYER_L_STRIDE_STRIDE (k : Nat) : Fld := ⟨0x20090110 + k * 0x40, 6, 10, 0⟩
def LAYER_L_TBL_LO_ADDR (k : Nat) : Fld := ⟨0x20090114 + k * 0x40, 6, 26, 0⟩
def LAYER_L_TBL_HI_ADDR_HI (k : Nat) : Fld := ⟨0x20090118 + k * 0x40, 0, 4, 0⟩
def LAYER_L_DEFER_TOTAL (k : Nat) : Fld := ⟨0x2009011C + k * 0x40, 0, 16, 0⟩
def LAYER_L_DEFER_CONSEC (k : Nat) : Fld := ⟨0x2009011C + k * 0x40, 16, 8, 0⟩
def MASKIN_CTRL_EN : Fld := ⟨0x20180000, 0, 1, 0⟩
def MASKIN_CTRL_LANES : Fld := ⟨0x20180000, 1, 1, 0⟩
def MASKIN_CTRL_DT_SEL : Fld := ⟨0x20180000, 2, 2, 0⟩
def MASKIN_CTRL_SAFE_AT_START : Fld := ⟨0x20180000, 4, 1, 0⟩
def MASKIN_STATUS_IN_FRAME : Fld := ⟨0x20180004, 0, 1, 0⟩
def MASKIN_STATUS_MASK_VALID : Fld := ⟨0x20180004, 1, 1, 0⟩
def MASKIN_STATUS_SAFE_ACTIVE : Fld := ⟨0x20180004, 2, 1, 0⟩
def MASKIN_STATUS_WERR : Fld := ⟨0x20180004, 3, 1, 0⟩
def MASKIN_STATUS_HOLD_CNT : Fld := ⟨0x20180004, 8, 8, 0⟩
def MASKIN_STATUS_IN_USE : Fld := ⟨0x20180004, 16, 2, 0⟩
def MASKIN_SIZE_WIDTH : Fld := ⟨0x20180008, 0, 11, 1024⟩
def MASKIN_SIZE_HEIGHT : Fld := ⟨0x20180008, 16, 10, 512⟩
def MASKIN_HOLD_MASK_HOLD : Fld := ⟨0x2018000C, 0, 8, 3⟩
def MASKIN_HOLD_SAFE_IDX : Fld := ⟨0x2018000C, 8, 8, 255⟩
def MASKIN_BUF_BASE_LO_ADDR : Fld := ⟨0x20180010, 19, 13, 0⟩
def MASKIN_BUF_BASE_HI_ADDR_HI : Fld := ⟨0x20180014, 0, 4, 0⟩
def MASKIN_TIMEOUT_LINE_TMO : Fld := ⟨0x20180018, 0, 16, 100⟩
def MASKIN_CNT_FRAMES_OK : Fld := ⟨0x20180020, 0, 16, 0⟩
def MASKIN_CNT_FRAMES_BAD : Fld := ⟨0x20180020, 16, 16, 0⟩
def MASKIN_ERR_TIMEOUT : Fld := ⟨0x20180024, 0, 1, 0⟩
def MASKIN_ERR_CRC : Fld := ⟨0x20180024, 1, 1, 0⟩
def MASKIN_ERR_ECC2 : Fld := ⟨0x20180024, 2, 1, 0⟩
def MASKIN_ERR_LEN : Fld := ⟨0x20180024, 3, 1, 0⟩
def MASKIN_ERR_HEIGHT : Fld := ⟨0x20180024, 4, 1, 0⟩
def MASKIN_ERR_DT : Fld := ⟨0x20180024, 5, 1, 0⟩
def MASKIN_ERR_VC : Fld := ⟨0x20180024, 6, 1, 0⟩
def MASKIN_ERR_ORPHAN : Fld := ⟨0x20180024, 7, 1, 0⟩
def MASKIN_ERR_SKIP : Fld := ⟨0x20180024, 8, 1, 0⟩
-- 04_warp.md
def LAYER_L_MESH_LO_ADDR (k : Nat) : Fld := ⟨0x20090120 + k * 0x40, 6, 26, 0⟩
def LAYER_L_MESH_HI_ADDR_HI (k : Nat) : Fld := ⟨0x20090124 + k * 0x40, 0, 4, 0⟩
def LAYER_L_WARP_CTRL_EDGE (k : Nat) : Fld := ⟨0x20090128 + k * 0x40, 0, 1, 0⟩
def LAYER_L_WARP_CTRL_DIR (k : Nat) : Fld := ⟨0x20090128 + k * 0x40, 1, 1, 0⟩
def LAYER_L_WARP_STATUS_FILTER (k : Nat) : Fld := ⟨0x2009012C + k * 0x40, 0, 2, 0⟩
def LAYER_L_WARP_STATUS_CHECKED (k : Nat) : Fld := ⟨0x2009012C + k * 0x40, 2, 1, 0⟩
def LAYER_L_WARP_STATUS_CHK_BUSY (k : Nat) : Fld := ⟨0x2009012C + k * 0x40, 3, 1, 0⟩
def LAYER_L_WARP_STATUS_CHK_CODE (k : Nat) : Fld := ⟨0x2009012C + k * 0x40, 4, 4, 0⟩
def LAYER_L_WARP_STATUS_SPAN_ERR (k : Nat) : Fld := ⟨0x2009012C + k * 0x40, 8, 1, 0⟩
def LAYER_L_WARP_STATUS_BUF_ROWS (k : Nat) : Fld := ⟨0x2009012C + k * 0x40, 16, 11, 0⟩
def LAYER_L_SPAN_MAX_SPAN (k : Nat) : Fld := ⟨0x20090130 + k * 0x40, 0, 11, 0⟩
def LAYER_L_SPAN_FAIL_TILE (k : Nat) : Fld := ⟨0x20090130 + k * 0x40, 12, 4, 0⟩
def LAYER_L_SPAN_FAIL_LINE (k : Nat) : Fld := ⟨0x20090130 + k * 0x40, 16, 9, 0⟩
def LAYER_L_CLAMP_CNT_COUNT (k : Nat) : Fld := ⟨0x20090134 + k * 0x40, 0, 32, 0⟩
-- 05_drive_codes.md
def SA_DRV_CTRL_HEAL_EN : Fld := ⟨0x20081000, 0, 1, 1⟩
def SA_DRV_CTRL_THERM_EN : Fld := ⟨0x20081000, 1, 1, 0⟩
def SA_DRV_CTRL_POSTLUT_EN : Fld := ⟨0x20081000, 2, 1, 0⟩
def SA_DRV_CTRL_DITHER_EN : Fld := ⟨0x20081000, 3, 1, 1⟩
def SA_DRV_CTRL_TAP_SEL : Fld := ⟨0x20081000, 4, 2, 0⟩
def SA_DRV_CTRL_WB_EN : Fld := ⟨0x20081000, 6, 1, 0⟩
def SA_DRV_CTRL_ZFLOOR : Fld := ⟨0x20081000, 8, 8, 32⟩
def SA_DRV_TBL_LO_ADDR : Fld := ⟨0x20081004, 6, 26, 0⟩
def SA_DRV_TBL_HI_ADDR_HI : Fld := ⟨0x20081008, 0, 4, 0⟩
def SA_DRV_DD_LO_ADDR : Fld := ⟨0x2008100C, 20, 12, 0⟩
def SA_DRV_DD_HI_ADDR_HI : Fld := ⟨0x20081010, 0, 4, 0⟩
def SA_DRV_WB_LO_ADDR : Fld := ⟨0x20081014, 20, 12, 0⟩
def SA_DRV_WB_HI_ADDR_HI : Fld := ⟨0x20081018, 0, 4, 0⟩
def SA_DRV_WB_HI_DEPTH : Fld := ⟨0x20081018, 8, 3, 2⟩
def SA_DRV_STATUS_FETCH_ERR : Fld := ⟨0x2008101C, 0, 1, 0⟩
def SA_DRV_STATUS_WB_VALID : Fld := ⟨0x2008101C, 1, 1, 0⟩
def SA_DRV_STATUS_WB_IDX : Fld := ⟨0x2008101C, 2, 2, 0⟩
def SA_DRV_STATUS_ZCAP_CNT : Fld := ⟨0x2008101C, 8, 8, 0⟩
def SA_DRV_STATUS_FLOOR_CNT : Fld := ⟨0x2008101C, 16, 8, 0⟩
def SA_DRV_SAT_SAT_PIX : Fld := ⟨0x20081020, 0, 24, 0⟩
def SA_DRV_FRAME_FRAME_NO : Fld := ⟨0x20081024, 0, 32, 0⟩
def SA_DRV_PCRC_CRC (k : Nat) : Fld := ⟨0x20081040 + k * 0x4, 0, 32, 0⟩
def SA_DRV_ZCODE (i : Nat) : Fld := ⟨0x20081100 + i / 4 * 4, i % 4 * 8, 8, 0⟩
-- 06_frame_timing.md
def FT_CTRL_EN : Fld := ⟨0x200A0000, 0, 1, 0⟩
def FT_CTRL_COMMIT : Fld := ⟨0x200A0000, 1, 1, 0⟩
def FT_STATUS_RUN : Fld := ⟨0x200A0004, 0, 1, 0⟩
def FT_STATUS_STREAMING : Fld := ⟨0x200A0004, 1, 1, 0⟩
def FT_STATUS_LATE : Fld := ⟨0x200A0004, 2, 1, 0⟩
def FT_STATUS_WERR : Fld := ⟨0x200A0004, 3, 1, 0⟩
def FT_STATUS_URGENT : Fld := ⟨0x200A0004, 4, 1, 0⟩
def FT_STATUS_ABORT_LIM : Fld := ⟨0x200A0004, 5, 1, 0⟩
def FT_STATUS_ABANDON : Fld := ⟨0x200A0004, 6, 1, 0⟩
def FT_COMMIT_ERR_CODE : Fld := ⟨0x200A0008, 0, 8, 0⟩
def FT_BASE_NS_NS : Fld := ⟨0x200A0010, 0, 30, 0⟩
def FT_BASE_SEC_LO_SEC : Fld := ⟨0x200A0014, 0, 32, 0⟩
def FT_BASE_SEC_HI_SEC_HI : Fld := ⟨0x200A0018, 0, 16, 0⟩
def FT_LM_LINE : Fld := ⟨0x200A001C, 0, 11, 0⟩
def FT_WMARK_WMARK : Fld := ⟨0x200A0020, 0, 2, 2⟩
def FT_ABORT_CFG_LIMIT : Fld := ⟨0x200A0024, 0, 8, 8⟩
def FT_FRAME_FRAME_NO : Fld := ⟨0x200A0030, 0, 32, 0⟩
def FT_PHASE_ERR : Fld := ⟨0x200A0034, 0, 25, 0⟩
def FT_LINE_SLOT : Fld := ⟨0x200A0038, 0, 11, 0⟩
def FT_LINE_IN_BLANK : Fld := ⟨0x200A0038, 16, 1, 0⟩
def FT_NEXT_NS_NS : Fld := ⟨0x200A003C, 0, 30, 0⟩
def FT_NEXT_SEC_LO_SEC : Fld := ⟨0x200A0040, 0, 32, 0⟩
def FT_NEXT_SEC_HI_SEC_HI : Fld := ⟨0x200A0044, 0, 16, 0⟩
def FT_ABORT_STATUS_CONSEC : Fld := ⟨0x200A0048, 0, 8, 0⟩
def FT_ABORT_STATUS_LAST_CAUSE : Fld := ⟨0x200A0048, 8, 4, 0⟩
def FT_CNT0_LATE : Fld := ⟨0x200A0050, 0, 16, 0⟩
def FT_CNT0_ABANDON : Fld := ⟨0x200A0050, 16, 16, 0⟩
def FT_CNT1_UR : Fld := ⟨0x200A0054, 0, 16, 0⟩
def FT_CNT1_REINDEX : Fld := ⟨0x200A0054, 16, 16, 0⟩
def FT_URG_CNT_COUNT : Fld := ⟨0x200A0058, 0, 32, 0⟩
def FT_UR_INFO_PORT : Fld := ⟨0x200A005C, 0, 4, 0⟩
def FT_UR_INFO_LINE : Fld := ⟨0x200A005C, 16, 10, 0⟩
-- 07_onvik_tile_link.md
def TL_CTRL_EN (p : Nat) : Fld := ⟨0x200B0000 + p * 0x1000, 0, 1, 0⟩
def TL_CTRL_RETRAIN (p : Nat) : Fld := ⟨0x200B0000 + p * 0x1000, 1, 1, 0⟩
def TL_CTRL_AUTO_RETRAIN (p : Nat) : Fld := ⟨0x200B0000 + p * 0x1000, 2, 1, 1⟩
def TL_CTRL_RATE_MAX (p : Nat) : Fld := ⟨0x200B0000 + p * 0x1000, 3, 1, 1⟩
def TL_CTRL_V2_EN (p : Nat) : Fld := ⟨0x200B0000 + p * 0x1000, 4, 1, 1⟩
def TL_CTRL_RLE_EN (p : Nat) : Fld := ⟨0x200B0000 + p * 0x1000, 5, 1, 1⟩
def TL_CTRL_BULK_EN (p : Nat) : Fld := ⟨0x200B0000 + p * 0x1000, 6, 1, 1⟩
def TL_CTRL_FB_START (p : Nat) : Fld := ⟨0x200B0000 + p * 0x1000, 7, 1, 0⟩
def TL_CTRL_CLAIM (p : Nat) : Fld := ⟨0x200B0000 + p * 0x1000, 8, 1, 0⟩
def TL_CTRL_FENCE (p : Nat) : Fld := ⟨0x200B0000 + p * 0x1000, 9, 1, 0⟩
def TL_STATUS_STATE (p : Nat) : Fld := ⟨0x200B0004 + p * 0x1000, 0, 3, 0⟩
def TL_STATUS_VER (p : Nat) : Fld := ⟨0x200B0004 + p * 0x1000, 3, 2, 0⟩
def TL_STATUS_RATE (p : Nat) : Fld := ⟨0x200B0004 + p * 0x1000, 5, 1, 0⟩
def TL_STATUS_OWNED (p : Nat) : Fld := ⟨0x200B0004 + p * 0x1000, 6, 1, 0⟩
def TL_STATUS_HOUSE (p : Nat) : Fld := ⟨0x200B0004 + p * 0x1000, 7, 1, 0⟩
def TL_STATUS_HL_VALID (p : Nat) : Fld := ⟨0x200B0004 + p * 0x1000, 8, 1, 0⟩
def TL_STATUS_FENCED (p : Nat) : Fld := ⟨0x200B0004 + p * 0x1000, 9, 1, 0⟩
def TL_STATUS_STALE (p : Nat) : Fld := ⟨0x200B0004 + p * 0x1000, 10, 1, 0⟩
def TL_STATUS_WERR (p : Nat) : Fld := ⟨0x200B0004 + p * 0x1000, 11, 1, 0⟩
def TL_STATUS_ECHO_ERR (p : Nat) : Fld := ⟨0x200B0004 + p * 0x1000, 12, 1, 0⟩
def TL_STATUS_CAPACK_ERR (p : Nat) : Fld := ⟨0x200B0004 + p * 0x1000, 13, 1, 0⟩
def TL_STATUS_FB_DONE (p : Nat) : Fld := ⟨0x200B0004 + p * 0x1000, 14, 1, 0⟩
def TL_STATUS_FB_ERR (p : Nat) : Fld := ⟨0x200B0004 + p * 0x1000, 15, 1, 0⟩
def TL_TRAIN_ERR_CODE (p : Nat) : Fld := ⟨0x200B0008 + p * 0x1000, 0, 8, 0⟩
def TL_CFG_TLOSS_MS (p : Nat) : Fld := ⟨0x200B000C + p * 0x1000, 0, 8, 50⟩
def TL_CFG_HEALTH_MAX_MS (p : Nat) : Fld := ⟨0x200B000C + p * 0x1000, 8, 8, 10⟩
def TL_CFG_RX_TMO_MS (p : Nat) : Fld := ⟨0x200B000C + p * 0x1000, 16, 8, 20⟩
def TL_CFG_CAPACK_TMO (p : Nat) : Fld := ⟨0x200B000C + p * 0x1000, 24, 8, 10⟩
def TL_EPOCH_EPOCH (p : Nat) : Fld := ⟨0x200B0010 + p * 0x1000, 0, 24, 0⟩
def TL_LATDLY_DK (p : Nat) : Fld := ⟨0x200B0014 + p * 0x1000, 0, 18, 0⟩
def TL_TRIM_TRIM (p : Nat) : Fld := ⟨0x200B0018 + p * 0x1000, 0, 16, 0⟩
def TL_RTT_RT (p : Nat) : Fld := ⟨0x200B001C + p * 0x1000, 0, 24, 0⟩
def TL_TILE_GEOM_WIDTH (p : Nat) : Fld := ⟨0x200B0020 + p * 0x1000, 0, 16, 0⟩
def TL_TILE_GEOM_HEIGHT (p : Nat) : Fld := ⟨0x200B0020 + p * 0x1000, 16, 16, 0⟩
def TL_TILE_ID_VENDOR (p : Nat) : Fld := ⟨0x200B0024 + p * 0x1000, 0, 16, 0⟩
def TL_TILE_ID_PRODUCT (p : Nat) : Fld := ⟨0x200B0024 + p * 0x1000, 16, 16, 0⟩
def TL_TILE_LAT_PS (p : Nat) : Fld := ⟨0x200B0028 + p * 0x1000, 0, 32, 0⟩
def TL_TILE_TURN_PS (p : Nat) : Fld := ⟨0x200B002C + p * 0x1000, 0, 32, 0⟩
def TL_HL_CRC_CRC (p : Nat) : Fld := ⟨0x200B0030 + p * 0x1000, 0, 32, 0⟩
def TL_FB_LO_ADDR (p : Nat) : Fld := ⟨0x200B0034 + p * 0x1000, 6, 26, 0⟩
def TL_FB_HI_ADDR_HI (p : Nat) : Fld := ⟨0x200B0038 + p * 0x1000, 0, 4, 0⟩
def TL_HLTH_FRAME_FRAME_NO (p : Nat) : Fld := ⟨0x200B0040 + p * 0x1000, 0, 32, 0⟩
def TL_HLTH_STAT_STATUS (p : Nat) : Fld := ⟨0x200B0044 + p * 0x1000, 0, 8, 0⟩
def TL_HLTH_STAT_CAP_Z (p : Nat) : Fld := ⟨0x200B0044 + p * 0x1000, 8, 8, 0⟩
def TL_HLTH_STAT_CAP_SEQ (p : Nat) : Fld := ⟨0x200B0044 + p * 0x1000, 16, 16, 0⟩
def TL_HEADROOM (p : Nat) (i : Nat) : Fld := ⟨0x200B0050 + p * 0x1000 + i / 4 * 4, i % 4 * 8, 8, 0⟩
def TL_TEMP (p : Nat) (i : Nat) : Fld := ⟨0x200B0060 + p * 0x1000 + i / 2 * 4, i % 2 * 16, 16, 0⟩
def TL_CNT0_CRC_ERR (p : Nat) : Fld := ⟨0x200B0070 + p * 0x1000, 0, 16, 0⟩
def TL_CNT0_DROP (p : Nat) : Fld := ⟨0x200B0070 + p * 0x1000, 16, 16, 0⟩
def TL_CNT1_LATCH_MISS (p : Nat) : Fld := ⟨0x200B0074 + p * 0x1000, 0, 16, 0⟩
def TL_CNT1_ECHO_MISS (p : Nat) : Fld := ⟨0x200B0074 + p * 0x1000, 16, 16, 0⟩
def TL_CNT2_STALE (p : Nat) : Fld := ⟨0x200B0078 + p * 0x1000, 0, 16, 0⟩
def TL_CNT2_RETRAIN (p : Nat) : Fld := ⟨0x200B0078 + p * 0x1000, 16, 16, 0⟩
def TL_CAP_SENT_SEQ (p : Nat) : Fld := ⟨0x200B007C + p * 0x1000, 0, 16, 0⟩
def TL_CAP_ACK_SEQ (p : Nat) : Fld := ⟨0x200B007C + p * 0x1000, 16, 16, 0⟩
-- 08_serial_lanes.md
def LANE_CTRL_IDLE_REQ (j : Nat) : Fld := ⟨0x200C0000 + j * 0x100, 0, 1, 0⟩
def LANE_CTRL_PRBS_TX (j : Nat) : Fld := ⟨0x200C0000 + j * 0x100, 1, 3, 0⟩
def LANE_CTRL_PRBS_RX (j : Nat) : Fld := ⟨0x200C0000 + j * 0x100, 4, 3, 0⟩
def LANE_CTRL_LOOPBACK (j : Nat) : Fld := ⟨0x200C0000 + j * 0x100, 7, 1, 0⟩
def LANE_CTRL_ADAPT (j : Nat) : Fld := ⟨0x200C0000 + j * 0x100, 8, 1, 0⟩
def LANE_CTRL_INJ_ONE (j : Nat) : Fld := ⟨0x200C0000 + j * 0x100, 9, 1, 0⟩
def LANE_CTRL_INJ_BURST (j : Nat) : Fld := ⟨0x200C0000 + j * 0x100, 10, 1, 0⟩
def LANE_CTRL_INJ_LEN (j : Nat) : Fld := ⟨0x200C0000 + j * 0x100, 16, 7, 8⟩
def LANE_STATUS_STATE (j : Nat) : Fld := ⟨0x200C0004 + j * 0x100, 0, 3, 0⟩
def LANE_STATUS_RATE (j : Nat) : Fld := ⟨0x200C0004 + j * 0x100, 3, 1, 0⟩
def LANE_STATUS_CDR_LOCK (j : Nat) : Fld := ⟨0x200C0004 + j * 0x100, 4, 1, 0⟩
def LANE_STATUS_BLOCK_LOCK (j : Nat) : Fld := ⟨0x200C0004 + j * 0x100, 5, 1, 0⟩
def LANE_STATUS_PRBS_SYNC (j : Nat) : Fld := ⟨0x200C0004 + j * 0x100, 6, 1, 0⟩
def LANE_STATUS_WERR (j : Nat) : Fld := ⟨0x200C0004 + j * 0x100, 7, 1, 0⟩
def LANE_STATUS_LOSS (j : Nat) : Fld := ⟨0x200C0004 + j * 0x100, 8, 1, 0⟩
def LANE_STATUS_EYE_LOW (j : Nat) : Fld := ⟨0x200C0004 + j * 0x100, 9, 1, 0⟩
def LANE_STATUS_PHASE_MISS (j : Nat) : Fld := ⟨0x200C0004 + j * 0x100, 10, 1, 0⟩
def LANE_EYE_SCORE (j : Nat) : Fld := ⟨0x200C0008 + j * 0x100, 0, 8, 0⟩
def LANE_EYE_H (j : Nat) : Fld := ⟨0x200C0008 + j * 0x100, 8, 7, 0⟩
def LANE_EYE_V (j : Nat) : Fld := ⟨0x200C0008 + j * 0x100, 16, 7, 0⟩
def LANE_EYE_CTLE (j : Nat) : Fld := ⟨0x200C0008 + j * 0x100, 24, 4, 0⟩
def LANE_THRESH_EYE_OK (j : Nat) : Fld := ⟨0x200C000C + j * 0x100, 0, 8, 96⟩
def LANE_THRESH_EYE_MIN (j : Nat) : Fld := ⟨0x200C000C + j * 0x100, 8, 8, 40⟩
def LANE_THRESH_EYE_LOSS (j : Nat) : Fld := ⟨0x200C000C + j * 0x100, 16, 8, 16⟩
def LANE_TXEQ_PRE (j : Nat) : Fld := ⟨0x200C0010 + j * 0x100, 0, 4, 0⟩
def LANE_TXEQ_POST (j : Nat) : Fld := ⟨0x200C0010 + j * 0x100, 4, 5, 8⟩
def LANE_DFE_TAPS (j : Nat) : Fld := ⟨0x200C0014 + j * 0x100, 0, 30, 0⟩
def LANE_PRBS_ERR_COUNT (j : Nat) : Fld := ⟨0x200C0018 + j * 0x100, 0, 32, 0⟩
def LANE_CNT_LOSS (j : Nat) : Fld := ⟨0x200C001C + j * 0x100, 0, 16, 0⟩
def LANE_CNT_PHASE_MISS (j : Nat) : Fld := ⟨0x200C001C + j * 0x100, 16, 16, 0⟩
-- 09_pixel_health.md
def HLTH_CTRL_EN : Fld := ⟨0x200D0000, 0, 1, 0⟩
def HLTH_CTRL_COMMIT : Fld := ⟨0x200D0000, 1, 1, 0⟩
def HLTH_CTRL_CAPTURE : Fld := ⟨0x200D0000, 2, 1, 0⟩
def HLTH_CTRL_DRIFT_OFF : Fld := ⟨0x200D0000, 3, 1, 0⟩
def HLTH_CTRL_STUCK_ZLIM : Fld := ⟨0x200D0000, 4, 1, 0⟩
def HLTH_STATUS_RUN : Fld := ⟨0x200D0004, 0, 1, 0⟩
def HLTH_STATUS_CAPTURING : Fld := ⟨0x200D0004, 1, 1, 0⟩
def HLTH_STATUS_WERR : Fld := ⟨0x200D0004, 2, 1, 0⟩
def HLTH_STATUS_BASE_ERR : Fld := ⟨0x200D0004, 3, 1, 0⟩
def HLTH_STATUS_MISS : Fld := ⟨0x200D0004, 4, 1, 0⟩
def HLTH_STATUS_RPT_OVF : Fld := ⟨0x200D0004, 5, 1, 0⟩
def HLTH_STATUS_RETEST_OVF : Fld := ⟨0x200D0004, 6, 1, 0⟩
def HLTH_STATUS_QUEUE : Fld := ⟨0x200D0004, 8, 8, 0⟩
def HLTH_STATUS_RETEST : Fld := ⟨0x200D0004, 16, 11, 0⟩
def HLTH_COMMIT_ERR_CODE : Fld := ⟨0x200D0008, 0, 8, 0⟩
def HLTH_SCAN_RATE : Fld := ⟨0x200D000C, 0, 3, 2⟩
def HLTH_SCAN_OFF_EVERY : Fld := ⟨0x200D000C, 8, 8, 16⟩
def HLTH_SCAN_MEAS_Z : Fld := ⟨0x200D000C, 16, 8, 16⟩
def HLTH_SCAN_PULSE : Fld := ⟨0x200D000C, 24, 6, 4⟩
def HLTH_THRESH0_SHORT_ABS : Fld := ⟨0x200D0010, 0, 8, 30⟩
def HLTH_THRESH0_SHORT_TH : Fld := ⟨0x200D0010, 8, 8, 60⟩
def HLTH_THRESH0_OPEN_TH : Fld := ⟨0x200D0010, 16, 8, 60⟩
def HLTH_THRESH0_DRIFT_TH : Fld := ⟨0x200D0010, 24, 8, 15⟩
def HLTH_THRESH1_STUCK_TH : Fld := ⟨0x200D0014, 0, 8, 60⟩
def HLTH_THRESH1_CONFIRM : Fld := ⟨0x200D0014, 8, 3, 2⟩
def HLTH_THRESH1_ZONE_BURST : Fld := ⟨0x200D0014, 16, 8, 32⟩
def HLTH_TCOMP_TC : Fld := ⟨0x200D0018, 0, 16, 65485⟩
def HLTH_TCOMP_TREF_B : Fld := ⟨0x200D0018, 16, 16, 6400⟩
def HLTH_ZONE_CFG_ZONE_DEAD_MAX : Fld := ⟨0x200D001C, 0, 16, 64⟩
def HLTH_REPORT_CFG_REPORT_MS : Fld := ⟨0x200D0020, 0, 16, 100⟩
def HLTH_MAP_LO_ADDR : Fld := ⟨0x200D0024, 16, 16, 0⟩
def HLTH_MAP_HI_ADDR_HI : Fld := ⟨0x200D0028, 0, 4, 0⟩
def HLTH_BASE_LO_ADDR : Fld := ⟨0x200D002C, 6, 26, 0⟩
def HLTH_BASE_HI_ADDR_HI : Fld := ⟨0x200D0030, 0, 4, 0⟩
def HLTH_FORCE_X : Fld := ⟨0x200D0040, 0, 9, 0⟩
def HLTH_FORCE_Y : Fld := ⟨0x200D0040, 9, 9, 0⟩
def HLTH_FORCE_TILE : Fld := ⟨0x200D0040, 18, 4, 0⟩
def HLTH_FORCE_CLASS : Fld := ⟨0x200D0040, 22, 3, 0⟩
def HLTH_FORCE_GO : Fld := ⟨0x200D0040, 31, 1, 0⟩
def HLTH_RPT0_X : Fld := ⟨0x200D0044, 0, 9, 0⟩
def HLTH_RPT0_Y : Fld := ⟨0x200D0044, 9, 9, 0⟩
def HLTH_RPT0_TILE : Fld := ⟨0x200D0044, 18, 4, 0⟩
def HLTH_RPT0_OLD : Fld := ⟨0x200D0044, 22, 3, 0⟩
def HLTH_RPT0_NEW : Fld := ⟨0x200D0044, 25, 3, 0⟩
def HLTH_RPT0_VALID : Fld := ⟨0x200D0044, 31, 1, 0⟩
def HLTH_RPT1_CODE : Fld := ⟨0x200D0048, 0, 8, 0⟩
def HLTH_RPT1_FRAME : Fld := ⟨0x200D0048, 8, 24, 0⟩
def HLTH_RPT_POP_POP : Fld := ⟨0x200D004C, 0, 1, 0⟩
def HLTH_CNT_MISS : Fld := ⟨0x200D0050, 0, 16, 0⟩
def HLTH_CNT_NOTMEAS : Fld := ⟨0x200D0050, 16, 16, 0⟩
def HLTH_CNT_DEAD_DEAD (t : Nat) : Fld := ⟨0x200D0080 + t * 0x4, 0, 19, 0⟩
def HLTH_ZONE_FAIL (i : Nat) : Fld := ⟨0x200D00C0 + i / 32 * 4, i % 32, 1, 0⟩
-- 10_led_supply.md
def LSC_CTRL_EN : Fld := ⟨0x200E0000, 0, 1, 0⟩
def LSC_CTRL_COMMIT : Fld := ⟨0x200E0000, 1, 1, 0⟩
def LSC_STATUS_STATE : Fld := ⟨0x200E0004, 0, 2, 0⟩
def LSC_STATUS_RAMP : Fld := ⟨0x200E0004, 2, 1, 0⟩
def LSC_STATUS_VMAX_HIT : Fld := ⟨0x200E0004, 3, 1, 0⟩
def LSC_STATUS_HR_LOW : Fld := ⟨0x200E0004, 4, 1, 0⟩
def LSC_STATUS_RISE_LATE : Fld := ⟨0x200E0004, 5, 1, 0⟩
def LSC_STATUS_WERR : Fld := ⟨0x200E0004, 6, 1, 0⟩
def LSC_STATUS_OV : Fld := ⟨0x200E0004, 8, 1, 0⟩
def LSC_STATUS_OC : Fld := ⟨0x200E0004, 9, 1, 0⟩
def LSC_STATUS_UV : Fld := ⟨0x200E0004, 10, 1, 0⟩
def LSC_STATUS_EXT : Fld := ⟨0x200E0004, 11, 1, 0⟩
def LSC_STATUS_PH_OC (i : Nat) : Fld := ⟨0x200E0004, 12 + i, 1, 0⟩
def LSC_COMMIT_ERR_CODE : Fld := ⟨0x200E0008, 0, 8, 0⟩
def LSC_PHASE_NPH : Fld := ⟨0x200E000C, 0, 2, 3⟩
def LSC_PHASE_FSW : Fld := ⟨0x200E000C, 4, 11, 600⟩
def LSC_PHASE_DMIN : Fld := ⟨0x200E000C, 16, 8, 4⟩
def LSC_PHASE_DMAX : Fld := ⟨0x200E000C, 24, 8, 230⟩
def LSC_LOOP_KP : Fld := ⟨0x200E0010, 0, 16, 256⟩
def LSC_LOOP_KI : Fld := ⟨0x200E0010, 16, 16, 64⟩
def LSC_BAL_KB : Fld := ⟨0x200E0014, 0, 8, 16⟩
def LSC_BAL_D_INIT : Fld := ⟨0x200E0014, 16, 16, 16384⟩
def LSC_SENSE_VDIV : Fld := ⟨0x200E0018, 0, 16, 24576⟩
def LSC_SENSE_ISNS_GAIN : Fld := ⟨0x200E0018, 16, 16, 6400⟩
def LSC_VRANGE_VMIN : Fld := ⟨0x200E001C, 0, 10, 250⟩
def LSC_VRANGE_VMAX : Fld := ⟨0x200E001C, 16, 10, 600⟩
def LSC_HR_TGT : Fld := ⟨0x200E0020, 0, 8, 35⟩
def LSC_HR_GAIN : Fld := ⟨0x200E0020, 8, 5, 4⟩
def LSC_HR_HR_MIN : Fld := ⟨0x200E0020, 16, 8, 15⟩
def LSC_SLEW_UP : Fld := ⟨0x200E0024, 0, 16, 4000⟩
def LSC_SLEW_DN : Fld := ⟨0x200E0024, 16, 16, 500⟩
def LSC_PROT0_VOV : Fld := ⟨0x200E0028, 0, 10, 640⟩
def LSC_PROT0_UV_MARGIN : Fld := ⟨0x200E0028, 16, 8, 30⟩
def LSC_PROT0_UV_US : Fld := ⟨0x200E0028, 24, 8, 20⟩
def LSC_PROT1_OC_TH : Fld := ⟨0x200E002C, 0, 10, 900⟩
def LSC_PROT1_OC_CNT : Fld := ⟨0x200E002C, 16, 8, 8⟩
def LSC_VHOUSE_VHOUSE : Fld := ⟨0x200E0030, 0, 10, 300⟩
def LSC_VSET_SET : Fld := ⟨0x200E0040, 0, 10, 0⟩
def LSC_VSET_TARGET : Fld := ⟨0x200E0040, 16, 10, 0⟩
def LSC_NEEDY_ZONE : Fld := ⟨0x200E0044, 0, 8, 0⟩
def LSC_NEEDY_REQ : Fld := ⟨0x200E0044, 16, 10, 0⟩
def LSC_FRAME_VAVG : Fld := ⟨0x200E0048, 0, 13, 0⟩
def LSC_FRAME_IAVG : Fld := ⟨0x200E0048, 13, 19, 0⟩
def LSC_CNT_LATE : Fld := ⟨0x200E004C, 0, 16, 0⟩
def LSC_CNT_HR_LOW : Fld := ⟨0x200E004C, 16, 16, 0⟩
def LSC_OC_CNT (i : Nat) : Fld := ⟨0x200E0050, i * 8, 8, 0⟩
def LSC_VFTAB (i : Nat) : Fld := ⟨0x200E0080 + i / 2 * 4, i % 2 * 16, 10, 262 + 4 * i⟩
def LSC_OFS (i : Nat) : Fld := ⟨0x200E0100 + i / 4 * 4, i % 4 * 8, 8, 0⟩
def LSC_ZL (i : Nat) : Fld := ⟨0x200E0200 + i / 4 * 4, i % 4 * 8, 8, (4294967295 >>> (8 * (i % 4))) % 2^8⟩
-- 11_thermal.md
def THM_CTRL_EN : Fld := ⟨0x200F0000, 0, 1, 0⟩
def THM_CTRL_COMMIT : Fld := ⟨0x200F0000, 1, 1, 0⟩
def THM_CTRL_ZTHR_EN : Fld := ⟨0x200F0000, 2, 1, 1⟩
def THM_CTRL_TTHR_EN : Fld := ⟨0x200F0000, 3, 1, 0⟩
def THM_CTRL_SHUT_AUTO : Fld := ⟨0x200F0000, 4, 1, 1⟩
def THM_STATUS_RUN : Fld := ⟨0x200F0004, 0, 1, 0⟩
def THM_STATUS_WERR : Fld := ⟨0x200F0004, 1, 1, 0⟩
def THM_STATUS_DIE_HOT : Fld := ⟨0x200F0004, 2, 1, 0⟩
def THM_STATUS_DIE_OVR : Fld := ⟨0x200F0004, 3, 1, 0⟩
def THM_STATUS_SUSPECT : Fld := ⟨0x200F0004, 4, 1, 0⟩
def THM_STATUS_THR : Fld := ⟨0x200F0004, 5, 1, 0⟩
def THM_STATUS_FORCED : Fld := ⟨0x200F0004, 6, 1, 0⟩
def THM_STATUS_KTOT : Fld := ⟨0x200F0004, 8, 8, 32⟩
def THM_STATUS_TDIE : Fld := ⟨0x200F0004, 16, 16, 0⟩
def THM_COMMIT_ERR_CODE : Fld := ⟨0x200F0008, 0, 8, 0⟩
def THM_THR_T_LO : Fld := ⟨0x200F000C, 0, 8, 100⟩
def THM_THR_T_HI : Fld := ⟨0x200F000C, 8, 8, 105⟩
def THM_THR_T_FORCE : Fld := ⟨0x200F000C, 16, 8, 125⟩
def THM_PWR_KI_DEF : Fld := ⟨0x200F0010, 0, 24, 5243⟩
def THM_PWR_HEAT : Fld := ⟨0x200F0010, 24, 8, 192⟩
def THM_LIMIT_PTOT_MAX : Fld := ⟨0x200F0014, 0, 16, 0⟩
def THM_LIMIT_PHOUSE : Fld := ⟨0x200F0014, 16, 16, 1024⟩
def THM_SENS_DEV_TH : Fld := ⟨0x200F0018, 0, 8, 8⟩
def THM_SENS_MODEL_DEV : Fld := ⟨0x200F0018, 8, 8, 15⟩
def THM_SENS_THS_DEF : Fld := ⟨0x200F0018, 16, 16, 21760⟩
def THM_AIN_NTC : Fld := ⟨0x200F001C, 0, 8, 0⟩
def THM_AIN_LO : Fld := ⟨0x200F001C, 8, 12, 16⟩
def THM_AIN_HI : Fld := ⟨0x200F001C, 20, 12, 4080⟩
def THM_SUSPECT_AIN (i : Nat) : Fld := ⟨0x200F0020, i, 1, 0⟩
def THM_SUSPECT_MODEL (i : Nat) : Fld := ⟨0x200F0020, 16 + i, 1, 0⟩
def THM_TS_SUSPECT (i : Nat) : Fld := ⟨0x200F0024 + i / 32 * 4, i % 32, 1, 0⟩
def THM_NTC_TAB (i : Nat) : Fld := ⟨0x200F0040 + i / 2 * 4, i % 2 * 16, 16, 0⟩
def THM_T_G_GJS (t : Nat) : Fld := ⟨0x200F0100 + t * 0x10, 0, 16, 200⟩
def THM_T_G_GSH (t : Nat) : Fld := ⟨0x200F0100 + t * 0x10, 16, 16, 40⟩
def THM_T_A_AJ (t : Nat) : Fld := ⟨0x200F0104 + t * 0x10, 0, 16, 1678⟩
def THM_T_A_AS (t : Nat) : Fld := ⟨0x200F0104 + t * 0x10, 16, 16, 168⟩
def THM_T_N_GN (t : Nat) : Fld := ⟨0x200F0108 + t * 0x10, 0, 16, 30⟩
def THM_T_N_HS_SRC (t : Nat) : Fld := ⟨0x200F0108 + t * 0x10, 16, 8, 255⟩
def THM_T_MAP (t : Nat) (i : Nat) : Fld := ⟨0x200F010C + t * 0x10, i * 4, 4, 0⟩
def THM_ZTEMP_TJ (g : Nat) : Fld := ⟨0x200F0400 + g * 0x8, 0, 16, 0⟩
def THM_ZTEMP_TS (g : Nat) : Fld := ⟨0x200F0400 + g * 0x8, 16, 16, 0⟩
def THM_ZLIM_K (g : Nat) : Fld := ⟨0x200F0404 + g * 0x8, 0, 6, 32⟩
def THM_ZLIM_ZT (g : Nat) : Fld := ⟨0x200F0404 + g * 0x8, 8, 8, 255⟩
def THM_ZLIM_ZLIM (g : Nat) : Fld := ⟨0x200F0404 + g * 0x8, 16, 8, 255⟩
def THM_ZLIM_ZREF (g : Nat) : Fld := ⟨0x200F0404 + g * 0x8, 24, 8, 0⟩
-- 12_calibration.md
def CAL_CTRL_EN : Fld := ⟨0x20100000, 0, 1, 0⟩
def CAL_CTRL_START : Fld := ⟨0x20100000, 1, 1, 0⟩
def CAL_CTRL_AUTO_SAVE : Fld := ⟨0x20100000, 2, 1, 1⟩
def CAL_CTRL_TEMP_TRIG : Fld := ⟨0x20100000, 3, 1, 1⟩
def CAL_STATUS_RUN : Fld := ⟨0x20100004, 0, 1, 0⟩
def CAL_STATUS_KI_VALID : Fld := ⟨0x20100004, 1, 1, 0⟩
def CAL_STATUS_ADC_VALID : Fld := ⟨0x20100004, 2, 1, 0⟩
def CAL_STATUS_ADC_ERR : Fld := ⟨0x20100004, 3, 1, 0⟩
def CAL_STATUS_INSUFF : Fld := ⟨0x20100004, 4, 1, 0⟩
def CAL_STATUS_RESID_ERR : Fld := ⟨0x20100004, 5, 1, 0⟩
def CAL_STATUS_WERR : Fld := ⟨0x20100004, 6, 1, 0⟩
def CAL_STATUS_BLOCK : Fld := ⟨0x20100004, 8, 8, 0⟩
def CAL_STATUS_REJECT : Fld := ⟨0x20100004, 16, 16, 0⟩
def CAL_CFG_XSD_MIN : Fld := ⟨0x20100008, 0, 16, 1024⟩
def CAL_CFG_RES_MAX : Fld := ⟨0x20100008, 16, 16, 60⟩
def CAL_LIMITS_KI_MIN : Fld := ⟨0x2010000C, 0, 12, 131⟩
def CAL_LIMITS_KI_MAX : Fld := ⟨0x2010000C, 12, 12, 819⟩
def CAL_LIMITS_I0_MAX : Fld := ⟨0x2010000C, 24, 8, 200⟩
def CAL_TRIG_DT : Fld := ⟨0x20100010, 0, 8, 10⟩
def CAL_TRIG_RUN_TMO : Fld := ⟨0x20100010, 8, 8, 60⟩
def CAL_TRIG_INTERVAL : Fld := ⟨0x20100010, 16, 16, 0⟩
def CAL_REF_REFV : Fld := ⟨0x20100014, 0, 20, 800000⟩
def CAL_REF_CORR_MS : Fld := ⟨0x20100014, 20, 8, 100⟩
def CAL_ADC_CORR_OFS (r : Nat) : Fld := ⟨0x20100020 + r * 0x4, 0, 16, 0⟩
def CAL_ADC_CORR_GAIN (r : Nat) : Fld := ⟨0x20100020 + r * 0x4, 16, 16, 16384⟩
def CAL_KI_KI : Fld := ⟨0x20100030, 0, 24, 0⟩
def CAL_I0_I0 : Fld := ⟨0x20100034, 0, 16, 0⟩
def CAL_I0_SCORR : Fld := ⟨0x20100034, 16, 16, 16384⟩
def CAL_COUNT_COUNT : Fld := ⟨0x20100038, 0, 32, 0⟩
def CAL_LAST_TIME_NS_VALUE : Fld := ⟨0x2010003C, 0, 32, 0⟩
def CAL_LAST_TIME_SEC_VALUE : Fld := ⟨0x20100040, 0, 32, 0⟩
def CAL_LAST_TEMP_TEMP : Fld := ⟨0x20100044, 0, 16, 0⟩
def CAL_EXT_CTRL_START : Fld := ⟨0x20100050, 0, 1, 0⟩
def CAL_EXT_CTRL_STEP : Fld := ⟨0x20100050, 1, 1, 0⟩
def CAL_EXT_CTRL_FINISH : Fld := ⟨0x20100050, 2, 1, 0⟩
def CAL_EXT_CTRL_ABORT : Fld := ⟨0x20100050, 3, 1, 0⟩
def CAL_EXT_CTRL_SHUNT : Fld := ⟨0x20100050, 16, 16, 0⟩
def CAL_EXT_STATUS_BUSY : Fld := ⟨0x20100054, 0, 1, 0⟩
def CAL_EXT_STATUS_EXT_DONE : Fld := ⟨0x20100054, 1, 1, 0⟩
def CAL_EXT_STATUS_EXT_ERR : Fld := ⟨0x20100054, 2, 1, 0⟩
def CAL_EXT_STATUS_STEPS : Fld := ⟨0x20100054, 4, 4, 0⟩
def CAL_EXT_STATUS_CODE : Fld := ⟨0x20100054, 8, 4, 0⟩
def CAL_NV_CTRL_ID : Fld := ⟨0x20100080, 0, 8, 0⟩
def CAL_NV_CTRL_LEN : Fld := ⟨0x20100080, 8, 11, 0⟩
def CAL_NV_CTRL_READ : Fld := ⟨0x20100080, 24, 1, 0⟩
def CAL_NV_CTRL_WRITE : Fld := ⟨0x20100080, 25, 1, 0⟩
def CAL_NV_STATUS_NV_BUSY : Fld := ⟨0x20100084, 0, 1, 0⟩
def CAL_NV_STATUS_DONE : Fld := ⟨0x20100084, 1, 1, 0⟩
def CAL_NV_STATUS_ERR : Fld := ⟨0x20100084, 2, 1, 0⟩
def CAL_NV_STATUS_CODE : Fld := ⟨0x20100084, 8, 8, 0⟩
def CAL_NV_STATUS_LEN : Fld := ⟨0x20100084, 16, 11, 0⟩
def CAL_NV_SEQ_SEQ : Fld := ⟨0x20100088, 0, 32, 0⟩
-- 13_network_time.md
def NET_CTRL_EN (n : Nat) : Fld := ⟨0x20110000 + n * 0x10000, 0, 1, 0⟩
def NET_CTRL_MODE (n : Nat) : Fld := ⟨0x20110000 + n * 0x10000, 1, 1, 0⟩
def NET_CTRL_AN_EN (n : Nat) : Fld := ⟨0x20110000 + n * 0x10000, 2, 1, 1⟩
def NET_CTRL_PTP_EN (n : Nat) : Fld := ⟨0x20110000 + n * 0x10000, 3, 1, 1⟩
def NET_CTRL_PRP_EN (n : Nat) : Fld := ⟨0x20110000 + n * 0x10000, 4, 1, 0⟩
def NET_CTRL_PAUSE_EN (n : Nat) : Fld := ⟨0x20110000 + n * 0x10000, 5, 1, 0⟩
def NET_CTRL_PROMISC (n : Nat) : Fld := ⟨0x20110000 + n * 0x10000, 6, 1, 0⟩
def NET_CTRL_RX_KICK (n : Nat) : Fld := ⟨0x20110000 + n * 0x10000, 7, 1, 0⟩
def NET_CTRL_TX_KICK (n : Nat) : Fld := ⟨0x20110000 + n * 0x10000, 8, 1, 0⟩
def NET_STATUS_LINK (n : Nat) : Fld := ⟨0x20110004 + n * 0x10000, 0, 1, 0⟩
def NET_STATUS_SPEED (n : Nat) : Fld := ⟨0x20110004 + n * 0x10000, 1, 2, 0⟩
def NET_STATUS_AN_DONE (n : Nat) : Fld := ⟨0x20110004 + n * 0x10000, 3, 1, 0⟩
def NET_STATUS_WERR (n : Nat) : Fld := ⟨0x20110004 + n * 0x10000, 4, 1, 0⟩
def NET_STATUS_DMA_ERR (n : Nat) : Fld := ⟨0x20110004 + n * 0x10000, 5, 1, 0⟩
def NET_STATUS_NOBUF (n : Nat) : Fld := ⟨0x20110004 + n * 0x10000, 6, 1, 0⟩
def NET_STATUS_RX_OVF (n : Nat) : Fld := ⟨0x20110004 + n * 0x10000, 7, 1, 0⟩
def NET_MAC_LO_ADDR (n : Nat) : Fld := ⟨0x20110008 + n * 0x10000, 0, 32, 0⟩
def NET_MAC_HI_ADDR (n : Nat) : Fld := ⟨0x2011000C + n * 0x10000, 0, 16, 0⟩
def NET_FRAME_MAX_LEN (n : Nat) : Fld := ⟨0x20110010 + n * 0x10000, 0, 14, 1522⟩
def NET_FRAME_UNTAG_OK (n : Nat) : Fld := ⟨0x20110010 + n * 0x10000, 16, 1, 1⟩
def NET_VLAN_VID (n : Nat) (i : Nat) : Fld := ⟨0x20110020 + n * 0x10000 + i / 2 * 4, i % 2 * 16, 12, 0⟩
def NET_VLAN_EN (n : Nat) (i : Nat) : Fld := ⟨0x20110020 + n * 0x10000 + i / 2 * 4, 15 + i % 2 * 16, 1, 0⟩
def NET_MCHASH_LO (n : Nat) (i : Nat) : Fld := ⟨0x20110040 + n * 0x10000, i, 1, 0⟩
def NET_MCHASH_HI (n : Nat) (i : Nat) : Fld := ⟨0x20110044 + n * 0x10000, i, 1, 0⟩
def NET_RXRING_SIZE (n : Nat) : Fld := ⟨0x20110050 + n * 0x10000, 0, 4, 4⟩
def NET_RXRING_ADDR (n : Nat) : Fld := ⟨0x20110050 + n * 0x10000, 6, 26, 0⟩
def NET_TXRING_SIZE (n : Nat) : Fld := ⟨0x20110058 + n * 0x10000, 0, 4, 4⟩
def NET_TXRING_ADDR (n : Nat) : Fld := ⟨0x20110058 + n * 0x10000, 6, 26, 0⟩
def NET_RXCFG_RX_HOLDOFF (n : Nat) : Fld := ⟨0x20110054 + n * 0x10000, 0, 16, 10⟩
def NET_HEAD_RX_HEAD (n : Nat) : Fld := ⟨0x2011005C + n * 0x10000, 0, 10, 0⟩
def NET_HEAD_TX_HEAD (n : Nat) : Fld := ⟨0x2011005C + n * 0x10000, 16, 10, 0⟩
def NET_TS_LAT_RX_LAT (n : Nat) : Fld := ⟨0x20110080 + n * 0x10000, 0, 16, 0⟩
def NET_TS_LAT_TX_LAT (n : Nat) : Fld := ⟨0x20110080 + n * 0x10000, 16, 16, 0⟩
def NET_PRP_DUP_TMO (n : Nat) : Fld := ⟨0x20110090 + n * 0x10000, 0, 16, 400⟩
def NET_PRP_TX_SEQ (n : Nat) : Fld := ⟨0x20110090 + n * 0x10000, 16, 16, 0⟩
def NET_MDIO_CMD_REG (n : Nat) : Fld := ⟨0x201100A0 + n * 0x10000, 0, 5, 0⟩
def NET_MDIO_CMD_PHYAD (n : Nat) : Fld := ⟨0x201100A0 + n * 0x10000, 5, 5, 0⟩
def NET_MDIO_CMD_OP (n : Nat) : Fld := ⟨0x201100A0 + n * 0x10000, 10, 2, 0⟩
def NET_MDIO_CMD_CL45 (n : Nat) : Fld := ⟨0x201100A0 + n * 0x10000, 12, 1, 0⟩
def NET_MDIO_CMD_DIV (n : Nat) : Fld := ⟨0x201100A0 + n * 0x10000, 16, 8, 79⟩
def NET_MDIO_CMD_GO (n : Nat) : Fld := ⟨0x201100A0 + n * 0x10000, 31, 1, 0⟩
def NET_MDIO_DATA_DATA (n : Nat) : Fld := ⟨0x201100A4 + n * 0x10000, 0, 16, 0⟩
def NET_PHY_RST0 (n : Nat) : Fld := ⟨0x201100A8 + n * 0x10000, 0, 1, 1⟩
def NET_PHY_RST1 (n : Nat) : Fld := ⟨0x201100A8 + n * 0x10000, 1, 1, 1⟩
def NET_CNT_RX_LO (n : Nat) : Fld := ⟨0x20110100 + n * 0x10000, 0, 16, 0⟩
def NET_CNT_RX_HI (n : Nat) : Fld := ⟨0x20110100 + n * 0x10000, 16, 16, 0⟩
def NET_CNT_ERR_LO (n : Nat) : Fld := ⟨0x20110104 + n * 0x10000, 0, 16, 0⟩
def NET_CNT_ERR_HI (n : Nat) : Fld := ⟨0x20110104 + n * 0x10000, 16, 16, 0⟩
def NET_CNT_TX_LO (n : Nat) : Fld := ⟨0x20110108 + n * 0x10000, 0, 16, 0⟩
def NET_CNT_TX_HI (n : Nat) : Fld := ⟨0x20110108 + n * 0x10000, 16, 16, 0⟩
def NET_CNT_PRP_DUP (n : Nat) : Fld := ⟨0x2011010C + n * 0x10000, 0, 16, 0⟩
def NET_CNT_PRP_WRONG_LAN (n : Nat) : Fld := ⟨0x2011010C + n * 0x10000, 16, 8, 0⟩
def NET_CNT_PRP_EVICT (n : Nat) : Fld := ⟨0x2011010C + n * 0x10000, 24, 8, 0⟩
def TIME_CTRL_FT_SEL : Fld := ⟨0x20130000, 0, 1, 0⟩
def TIME_STATUS_FT_SRC : Fld := ⟨0x20130004, 0, 1, 0⟩
def TIME_STATUS_SLEWING : Fld := ⟨0x20130004, 1, 1, 0⟩
def TIME_STATUS_SWITCH_PEND : Fld := ⟨0x20130004, 2, 1, 0⟩
def TIME_STATUS_STEP_PEND_A : Fld := ⟨0x20130004, 3, 1, 0⟩
def TIME_STATUS_STEP_PEND_B : Fld := ⟨0x20130004, 4, 1, 0⟩
def TIME_STATUS_WERR : Fld := ⟨0x20130004, 5, 1, 0⟩
def TIME_STATUS_CUE_LATE (i : Nat) : Fld := ⟨0x20130004, 6 + i, 1, 0⟩
def TIME_STATUS_CAP_OVF (i : Nat) : Fld := ⟨0x20130004, 8 + i, 1, 0⟩
def TIME_FT_DELTA_DELTA : Fld := ⟨0x20130008, 0, 32, 0⟩
def TIME_PPS_EN : Fld := ⟨0x20130010, 0, 1, 0⟩
def TIME_PPS_DOMAIN : Fld := ⟨0x20130010, 1, 1, 0⟩
def TIME_PPS_WIDTH : Fld := ⟨0x20130010, 2, 10, 100⟩
def TIME_PPS_OFS : Fld := ⟨0x20130010, 16, 16, 0⟩
def TIME_CAP_EDGE (i : Nat) : Fld := ⟨0x20130020, i * 4, 2, 0⟩
def TIME_CAP_DOM (i : Nat) : Fld := ⟨0x20130020, 2 + i * 4, 1, 0⟩
def TIME_CAP_NS_N (k : Nat) : Fld := ⟨0x20130030 + k * 0x8, 0, 32, 0⟩
def TIME_CAP_INFO_SEC (k : Nat) : Fld := ⟨0x20130034 + k * 0x8, 0, 16, 0⟩
def TIME_CAP_INFO_EDGE (k : Nat) : Fld := ⟨0x20130034 + k * 0x8, 16, 1, 0⟩
def TIME_CAP_INFO_DOMAIN (k : Nat) : Fld := ⟨0x20130034 + k * 0x8, 17, 1, 0⟩
def TIME_CAP_INFO_LEVEL (k : Nat) : Fld := ⟨0x20130034 + k * 0x8, 24, 4, 0⟩
def TIME_CAP_INFO_VALID (k : Nat) : Fld := ⟨0x20130034 + k * 0x8, 31, 1, 0⟩
def TIME_D_CTRL_EN (d : Nat) : Fld := ⟨0x20130100 + d * 0x40, 0, 1, 0⟩
def TIME_D_CTRL_LOAD (d : Nat) : Fld := ⟨0x20130100 + d * 0x40, 1, 1, 0⟩
def TIME_D_CTRL_STEP (d : Nat) : Fld := ⟨0x20130100 + d * 0x40, 2, 1, 0⟩
def TIME_D_INCR_INCR (d : Nat) : Fld := ⟨0x20130104 + d * 0x40, 0, 32, 671088640⟩
def TIME_D_NS_N (d : Nat) : Fld := ⟨0x20130108 + d * 0x40, 0, 32, 0⟩
def TIME_D_SEC_LO_SEC (d : Nat) : Fld := ⟨0x2013010C + d * 0x40, 0, 32, 0⟩
def TIME_D_SEC_HI_SEC (d : Nat) : Fld := ⟨0x20130110 + d * 0x40, 0, 16, 0⟩
def TIME_D_ADJ_NS_NS (d : Nat) : Fld := ⟨0x20130114 + d * 0x40, 0, 32, 0⟩
def TIME_D_ADJ_SEC_LO_SEC (d : Nat) : Fld := ⟨0x20130118 + d * 0x40, 0, 32, 0⟩
def TIME_D_ADJ_SEC_HI_SEC (d : Nat) : Fld := ⟨0x2013011C + d * 0x40, 0, 16, 0⟩
def TIME_CUE_CTRL_EN (k : Nat) : Fld := ⟨0x20130200 + k * 0x20, 0, 1, 0⟩
def TIME_CUE_CTRL_DOMAIN (k : Nat) : Fld := ⟨0x20130200 + k * 0x20, 1, 1, 0⟩
def TIME_CUE_CTRL_PIN (k : Nat) : Fld := ⟨0x20130200 + k * 0x20, 2, 2, 0⟩
def TIME_CUE_CTRL_WIDTH (k : Nat) : Fld := ⟨0x20130200 + k * 0x20, 16, 16, 100⟩
def TIME_CUE_NS_NS (k : Nat) : Fld := ⟨0x20130204 + k * 0x20, 0, 30, 0⟩
def TIME_CUE_SEC_SEC (k : Nat) : Fld := ⟨0x20130208 + k * 0x20, 0, 32, 0⟩
def TIME_CUE_PERIOD_PERIOD (k : Nat) : Fld := ⟨0x2013020C + k * 0x20, 0, 32, 0⟩
-- 14_safety.md
def SAFE_CTRL_EN : Fld := ⟨0x20140000, 0, 1, 0⟩
def SAFE_CTRL_ACK : Fld := ⟨0x20140000, 1, 1, 0⟩
def SAFE_CTRL_RESTRICT : Fld := ⟨0x20140000, 2, 1, 0⟩
def SAFE_CTRL_FB_REQ : Fld := ⟨0x20140000, 3, 1, 0⟩
def SAFE_CTRL_PROOF_REQ : Fld := ⟨0x20140000, 4, 1, 0⟩
def SAFE_CTRL_PROOF_CLR : Fld := ⟨0x20140000, 5, 1, 0⟩
def SAFE_CTRL_CMON_TEST : Fld := ⟨0x20140000, 6, 1, 0⟩
def SAFE_STATUS_STATE : Fld := ⟨0x20140004, 0, 2, 3⟩
def SAFE_STATUS_IL0_OPEN : Fld := ⟨0x20140004, 2, 1, 0⟩
def SAFE_STATUS_IL1_OPEN : Fld := ⟨0x20140004, 3, 1, 0⟩
def SAFE_STATUS_DISC : Fld := ⟨0x20140004, 4, 1, 0⟩
def SAFE_STATUS_TP_ERR : Fld := ⟨0x20140004, 5, 1, 0⟩
def SAFE_STATUS_SEAL_ERR : Fld := ⟨0x20140004, 6, 1, 0⟩
def SAFE_STATUS_SEAL_CHG : Fld := ⟨0x20140004, 7, 1, 0⟩
def SAFE_STATUS_CLAMP_ERR : Fld := ⟨0x20140004, 8, 1, 0⟩
def SAFE_STATUS_PROOF_DUE : Fld := ⟨0x20140004, 9, 1, 1⟩
def SAFE_STATUS_SYM_INHIBIT : Fld := ⟨0x20140004, 10, 1, 0⟩
def SAFE_STATUS_LOCKOUT : Fld := ⟨0x20140004, 11, 1, 0⟩
def SAFE_STATUS_SAFE_OK : Fld := ⟨0x20140004, 12, 1, 0⟩
def SAFE_STATUS_WERR : Fld := ⟨0x20140004, 13, 1, 0⟩
def SAFE_STATUS_FUSED : Fld := ⟨0x20140004, 14, 1, 0⟩
def SAFE_STATUS_CMON_OK : Fld := ⟨0x20140004, 15, 1, 0⟩
def SAFE_SEAL_LATCHED : Fld := ⟨0x20140008, 0, 8, 0⟩
def SAFE_SEAL_LIVE : Fld := ⟨0x20140008, 8, 8, 0⟩
def SAFE_SEAL_INVALID (i : Nat) : Fld := ⟨0x20140008, 16 + i, 1, 0⟩
def SAFE_IL_LEVEL : Fld := ⟨0x2014000C, 0, 4, 0⟩
def SAFE_IL_PSEEN0 : Fld := ⟨0x2014000C, 4, 1, 0⟩
def SAFE_IL_PSEEN1 : Fld := ⟨0x2014000C, 5, 1, 0⟩
def SAFE_IL_DISC_CNT0 : Fld := ⟨0x2014000C, 8, 10, 0⟩
def SAFE_IL_DISC_CNT1 : Fld := ⟨0x2014000C, 18, 10, 0⟩
def SAFE_TP_WIDTH : Fld := ⟨0x20140010, 0, 10, 250⟩
def SAFE_TP_PERIOD : Fld := ⟨0x20140010, 16, 10, 20⟩
def SAFE_SEALCFG_TDISC_MS : Fld := ⟨0x20140014, 0, 10, 0⟩
def SAFE_SEALCFG_INTERVAL_D : Fld := ⟨0x20140014, 16, 9, 0⟩
def SAFE_SEALCFG_USE1 : Fld := ⟨0x20140014, 25, 1, 0⟩
def SAFE_SEALCFG_CLASS : Fld := ⟨0x20140014, 26, 2, 0⟩
def SAFE_CLASS_R_CAP_Z (m : Nat) : Fld := ⟨0x20140020 + m * 0x8, 0, 8, 0⟩
def SAFE_CLASS_R_CAP_D (m : Nat) : Fld := ⟨0x20140020 + m * 0x8, 16, 14, 0⟩
def SAFE_CLASS_M_CAP_Z (m : Nat) : Fld := ⟨0x20140024 + m * 0x8, 0, 8, 0⟩
def SAFE_CLASS_M_CAP_D (m : Nat) : Fld := ⟨0x20140024 + m * 0x8, 16, 14, 0⟩
def SAFE_CAP_CAP_Z : Fld := ⟨0x20140040, 0, 8, 0⟩
def SAFE_CAP_CAP_D : Fld := ⟨0x20140040, 16, 14, 0⟩
def SAFE_MSG_FILT_UDP_PORT : Fld := ⟨0x20140050, 0, 16, 47264⟩
def SAFE_MSG_FILT_ETYPE : Fld := ⟨0x20140050, 16, 16, 34997⟩
def SAFE_MSG_TIME_DUAL_WIN : Fld := ⟨0x20140054, 0, 8, 5⟩
def SAFE_MSG_TIME_AGE_MAX : Fld := ⟨0x20140054, 8, 8, 100⟩
def SAFE_MSG_TIME_WATCH_MS : Fld := ⟨0x20140054, 16, 16, 250⟩
def SAFE_MSG_DEST_DEST : Fld := ⟨0x20140058, 0, 32, 0⟩
def SAFE_MSG_STATUS_SYNC : Fld := ⟨0x2014005C, 0, 1, 0⟩
def SAFE_MSG_STATUS_MBOX_FULL : Fld := ⟨0x2014005C, 1, 1, 0⟩
def SAFE_MSG_STATUS_MBOX_OVF : Fld := ⟨0x2014005C, 2, 1, 0⟩
def SAFE_MSG_STATUS_LAST_ERR : Fld := ⟨0x2014005C, 8, 8, 0⟩
def SAFE_MSG_STATUS_ALIVE_REF : Fld := ⟨0x2014005C, 16, 16, 0⟩
def SAFE_MSG_CNT0_LO : Fld := ⟨0x20140060, 0, 16, 0⟩
def SAFE_MSG_CNT0_HI : Fld := ⟨0x20140060, 16, 16, 0⟩
def SAFE_MSG_CNT1_LO : Fld := ⟨0x20140064, 0, 16, 0⟩
def SAFE_MSG_CNT1_HI : Fld := ⟨0x20140064, 16, 16, 0⟩
def SAFE_MBOX_INFO_LEN : Fld := ⟨0x20140070, 0, 9, 0⟩
def SAFE_MBOX_INFO_ALIVE : Fld := ⟨0x20140070, 16, 16, 0⟩
def SAFE_MBOX_TS_NS_VALUE : Fld := ⟨0x20140074, 0, 32, 0⟩
def SAFE_MBOX_TS_SEC_VALUE : Fld := ⟨0x20140078, 0, 32, 0⟩
def SAFE_MBOX_POP_POP : Fld := ⟨0x2014007C, 0, 1, 0⟩
def SAFE_SYM_MASK_MASK : Fld := ⟨0x20140080, 0, 8, 0⟩
def SAFE_MBOX_DATA (w : Nat) : Fld := ⟨0x20140100 + w * 0x4, 0, 32, 0⟩
def SAFE_L_GBUF_VALID (k : Nat) : Fld := ⟨0x20140200 + k * 0x10, 0, 1, 0⟩
def SAFE_L_GBUF_ADDR (k : Nat) : Fld := ⟨0x20140200 + k * 0x10, 6, 26, 0⟩
def SAFE_L_GTBL_ADDR (k : Nat) : Fld := ⟨0x20140204 + k * 0x10, 6, 26, 0⟩
def SAFE_L_GHI_BUF_HI (k : Nat) : Fld := ⟨0x20140208 + k * 0x10, 0, 4, 0⟩
def SAFE_L_GHI_TBL_HI (k : Nat) : Fld := ⟨0x20140208 + k * 0x10, 8, 4, 0⟩
-- 15_faults.md
def FLT_CTRL_LOCK : Fld := ⟨0x20040000, 0, 1, 0⟩
def FLT_STATUS_WERR : Fld := ⟨0x20040004, 0, 1, 0⟩
def FLT_STATUS_LOCKOUT : Fld := ⟨0x20040004, 1, 1, 0⟩
def FLT_STATUS_PIN : Fld := ⟨0x20040004, 2, 1, 0⟩
def FLT_STATUS_PIN_LATCH : Fld := ⟨0x20040004, 3, 1, 0⟩
def FLT_STATUS_ESC_CNT : Fld := ⟨0x20040004, 8, 16, 0⟩
def FLT_ACK_CLASS : Fld := ⟨0x20040008, 0, 5, 0⟩
def FLT_PIN_REL : Fld := ⟨0x2004000C, 0, 1, 0⟩
def FLT_PIN_FORCE : Fld := ⟨0x2004000C, 1, 1, 0⟩
def FLT_NMI_MASK : Fld := ⟨0x20040010, 0, 16, 6144⟩
def FLT_SW_SEL : Fld := ⟨0x20040014, 0, 3, 0⟩
def FLT_SW_GO : Fld := ⟨0x20040014, 31, 1, 0⟩
def FLT_SW_ADDR_ADDR : Fld := ⟨0x20040018, 0, 32, 0⟩
def FLT_PEND (i : Nat) : Fld := ⟨0x20040020 + i / 32 * 4, i % 32, 1, 0⟩
def FLT_HOLD (i : Nat) : Fld := ⟨0x20040030 + i / 32 * 4, i % 32, 1, 0⟩
def FLT_CLASS_REACT_REACT (c : Nat) : Fld := ⟨0x20040050 + c * 0x4, 0, 6, fltFloor c⟩
def FLT_FENCE_ENG (i : Nat) : Fld := ⟨0x20040070, i, 1, 0⟩
def FLT_FENCE_BANK (i : Nat) : Fld := ⟨0x20040070, 16 + i, 1, 0⟩
def FLT_FENCE_NET (i : Nat) : Fld := ⟨0x20040074, i, 1, 0⟩
def FLT_FENCE_HIT_COUNT : Fld := ⟨0x20040078, 0, 32, 0⟩
def FLT_ZFENCE (i : Nat) : Fld := ⟨0x20040080 + i / 32 * 4, i % 32, 1, 0⟩
def FLT_CAP_INFO_SRC (k : Nat) : Fld := ⟨0x20040100 + k * 0x20, 0, 7, 0⟩
def FLT_CAP_INFO_VALID (k : Nat) : Fld := ⟨0x20040100 + k * 0x20, 7, 1, 0⟩
def FLT_CAP_INFO_UNIT (k : Nat) : Fld := ⟨0x20040100 + k * 0x20, 8, 8, 0⟩
def FLT_CAP_INFO_MASTER (k : Nat) : Fld := ⟨0x20040100 + k * 0x20, 16, 4, 0⟩
def FLT_CAP_INFO_MIDX (k : Nat) : Fld := ⟨0x20040100 + k * 0x20, 20, 4, 0⟩
def FLT_CAP_INFO_ACCESS (k : Nat) : Fld := ⟨0x20040100 + k * 0x20, 24, 2, 0⟩
def FLT_CAP_INFO_ESC (k : Nat) : Fld := ⟨0x20040100 + k * 0x20, 26, 1, 0⟩
def FLT_CAP_INFO_TS_VALID (k : Nat) : Fld := ⟨0x20040100 + k * 0x20, 27, 1, 0⟩
def FLT_CAP_ADDR_LO_ADDR (k : Nat) : Fld := ⟨0x20040104 + k * 0x20, 0, 32, 0⟩
def FLT_CAP_ADDR_HI_ADDR_HI (k : Nat) : Fld := ⟨0x20040108 + k * 0x20, 0, 4, 0⟩
def FLT_CAP_TS_NS_VALUE (k : Nat) : Fld := ⟨0x2004010C + k * 0x20, 0, 32, 0⟩
def FLT_CAP_TS_SEC_VALUE (k : Nat) : Fld := ⟨0x20040110 + k * 0x20, 0, 32, 0⟩
def FLT_CAP_CNT_CNT (k : Nat) : Fld := ⟨0x20040114 + k * 0x20, 0, 16, 0⟩
def FLT_SRC_CFG_CLASS (n : Nat) : Fld := ⟨0x20040400 + n * 0x4, 0, 3, fltSrcClass n⟩
def FLT_SRC_CFG_REACT (n : Nat) : Fld := ⟨0x20040400 + n * 0x4, 4, 6, fltSrcReact n⟩
def FLT_SRC_CFG_LOCKOUT_EL (n : Nat) : Fld := ⟨0x20040400 + n * 0x4, 12, 1, fltSrcElig n⟩
-- 16_engines_events.md
def EVC_STATUS_WERR : Fld := ⟨0x20030000, 0, 1, 0⟩
def EVC_PEND (i : Nat) : Fld := ⟨0x20030100 + i / 32 * 4, i % 32, 1, 0⟩
def EVC_SETPEND (i : Nat) : Fld := ⟨0x20030110 + i / 32 * 4, i % 32, 1, 0⟩
def EVC_ACT (i : Nat) : Fld := ⟨0x20030120 + i / 32 * 4, i % 32, 1, 0⟩
def EVC_REDIR_CNT_COUNT : Fld := ⟨0x20030130, 0, 32, 0⟩
def EVC_SRC_CFG_EN (n : Nat) : Fld := ⟨0x20031000 + n * 0x10, 0, 1, 0⟩
def EVC_SRC_CFG_WAKE_EN (n : Nat) : Fld := ⟨0x20031000 + n * 0x10, 1, 1, 0⟩
def EVC_SRC_CFG_PRIO (n : Nat) : Fld := ⟨0x20031000 + n * 0x10, 4, 4, 0⟩
def EVC_SRC_CFG_TARGET (n : Nat) : Fld := ⟨0x20031000 + n * 0x10, 8, 4, 0⟩
def EVC_SRC_CFG_FALLBACK (n : Nat) : Fld := ⟨0x20031000 + n * 0x10, 12, 4, 0⟩
def EVC_SRC_CFG_REDIRECT_TMO (n : Nat) : Fld := ⟨0x20031000 + n * 0x10, 16, 16, 0⟩
def EVC_SRC_VEC_VEC (n : Nat) : Fld := ⟨0x20031004 + n * 0x10, 1, 31, 0⟩
def EVC_ENG_CTRL_HOLD (e : Nat) : Fld := ⟨0x20030800 + e * 0x40, 0, 1, engHold e⟩
def EVC_ENG_CTRL_APER (e : Nat) : Fld := ⟨0x20030800 + e * 0x40, 1, 1, 0⟩
def EVC_ENG_CTRL_THRESH (e : Nat) : Fld := ⟨0x20030800 + e * 0x40, 4, 4, 0⟩
def EVC_ENG_RSTVEC_VEC (e : Nat) : Fld := ⟨0x20030804 + e * 0x40, 1, 31, 0⟩
def EVC_ENG_NMIVEC_VEC (e : Nat) : Fld := ⟨0x20030808 + e * 0x40, 1, 31, 0⟩
def EVC_ENG_STATE_DEPTH (e : Nat) : Fld := ⟨0x2003080C + e * 0x40, 0, 5, 0⟩
def EVC_ENG_STATE_SRC (e : Nat) : Fld := ⟨0x2003080C + e * 0x40, 8, 7, 0⟩
def EVC_ENG_STATE_RUN_PRIO (e : Nat) : Fld := ⟨0x2003080C + e * 0x40, 16, 5, 31⟩
def EVC_ENG_STATE_WFI (e : Nat) : Fld := ⟨0x2003080C + e * 0x40, 21, 1, 0⟩
def EVC_ENG_STATE_NMI (e : Nat) : Fld := ⟨0x2003080C + e * 0x40, 22, 1, 0⟩
def EVC_ENG_STATE_TRAP (e : Nat) : Fld := ⟨0x2003080C + e * 0x40, 23, 1, 0⟩
def EVC_ENG_STATE_HALT (e : Nat) : Fld := ⟨0x2003080C + e * 0x40, 24, 1, 0⟩
def EVC_ENG_DROP_PRIO (e : Nat) : Fld := ⟨0x20030810 + e * 0x40, 0, 4, 0⟩
def EVC_ENG_WDT_CTRL_EN (e : Nat) : Fld := ⟨0x20030814 + e * 0x40, 0, 1, 0⟩
def EVC_ENG_WDT_CTRL_PAUSE_WFI (e : Nat) : Fld := ⟨0x20030814 + e * 0x40, 1, 1, 0⟩
def EVC_ENG_WDT_TIME_WARN (e : Nat) : Fld := ⟨0x20030818 + e * 0x40, 0, 16, 10000⟩
def EVC_ENG_WDT_TIME_TMO (e : Nat) : Fld := ⟨0x20030818 + e * 0x40, 16, 16, 20000⟩
def EVC_ENG_WDT_KICK_KEY (e : Nat) : Fld := ⟨0x2003081C + e * 0x40, 0, 32, 0⟩
def UART_CTRL_EN (u : Nat) : Fld := ⟨0x20170000 + u * 0x100, 0, 1, 0⟩
def UART_CTRL_STOP2 (u : Nat) : Fld := ⟨0x20170000 + u * 0x100, 1, 1, 0⟩
def UART_CTRL_PARITY (u : Nat) : Fld := ⟨0x20170000 + u * 0x100, 2, 2, 0⟩
def UART_CTRL_IE (u : Nat) : Fld := ⟨0x20170000 + u * 0x100, 4, 3, 0⟩
def UART_CTRL_DIV (u : Nat) : Fld := ⟨0x20170000 + u * 0x100, 16, 16, 217⟩
def UART_STATUS_RXVALID (u : Nat) : Fld := ⟨0x20170004 + u * 0x100, 0, 1, 0⟩
def UART_STATUS_TXEMPTY (u : Nat) : Fld := ⟨0x20170004 + u * 0x100, 1, 1, 1⟩
def UART_STATUS_ERR (u : Nat) : Fld := ⟨0x20170004 + u * 0x100, 2, 1, 0⟩
def UART_STATUS_TXFULL (u : Nat) : Fld := ⟨0x20170004 + u * 0x100, 3, 1, 0⟩
def UART_DATA_DATA (u : Nat) : Fld := ⟨0x20170008 + u * 0x100, 0, 8, 0⟩
def I2C_CTRL_EN (c : Nat) : Fld := ⟨0x00000000 + i2cBase c, 0, 1, 0⟩
def I2C_CTRL_RATE (c : Nat) : Fld := ⟨0x00000000 + i2cBase c, 1, 2, 0⟩
def I2C_CTRL_IE (c : Nat) : Fld := ⟨0x00000000 + i2cBase c, 3, 3, 0⟩
def I2C_CMD_ADDR (c : Nat) : Fld := ⟨0x00000004 + i2cBase c, 0, 7, 0⟩
def I2C_CMD_READ (c : Nat) : Fld := ⟨0x00000004 + i2cBase c, 7, 1, 0⟩
def I2C_CMD_LEN (c : Nat) : Fld := ⟨0x00000004 + i2cBase c, 8, 8, 0⟩
def I2C_CMD_STOP (c : Nat) : Fld := ⟨0x00000004 + i2cBase c, 16, 1, 1⟩
def I2C_CMD_GO (c : Nat) : Fld := ⟨0x00000004 + i2cBase c, 31, 1, 0⟩
def I2C_STATUS_DONE (c : Nat) : Fld := ⟨0x00000008 + i2cBase c, 0, 1, 0⟩
def I2C_STATUS_NACK (c : Nat) : Fld := ⟨0x00000008 + i2cBase c, 1, 1, 0⟩
def I2C_STATUS_TMO (c : Nat) : Fld := ⟨0x00000008 + i2cBase c, 2, 1, 0⟩
def I2C_STATUS_BUSY (c : Nat) : Fld := ⟨0x00000008 + i2cBase c, 3, 1, 0⟩
def I2C_STATUS_RXCNT (c : Nat) : Fld := ⟨0x00000008 + i2cBase c, 8, 4, 0⟩
def I2C_STATUS_TXFREE (c : Nat) : Fld := ⟨0x00000008 + i2cBase c, 12, 4, 8⟩
def I2C_DATA_DATA (c : Nat) : Fld := ⟨0x0000000C + i2cBase c, 0, 8, 0⟩
def SPI_CTRL_EN : Fld := ⟨0x20170400, 0, 1, 0⟩
def SPI_CTRL_MODE : Fld := ⟨0x20170400, 1, 2, 0⟩
def SPI_CTRL_SIZE : Fld := ⟨0x20170400, 3, 2, 0⟩
def SPI_CTRL_CS_HOLD : Fld := ⟨0x20170400, 5, 1, 0⟩
def SPI_CTRL_IE : Fld := ⟨0x20170400, 6, 1, 0⟩
def SPI_CTRL_DIV : Fld := ⟨0x20170400, 8, 8, 7⟩
def SPI_STATUS_DONE : Fld := ⟨0x20170404, 0, 1, 0⟩
def SPI_STATUS_BUSY : Fld := ⟨0x20170404, 1, 1, 0⟩
def SPI_STATUS_WERR : Fld := ⟨0x20170404, 2, 1, 0⟩
def SPI_DATA_DATA : Fld := ⟨0x20170408, 0, 32, 0⟩
def GPIO_IO_OUT (i : Nat) : Fld := ⟨0x20170500, i, 1, 0⟩
def GPIO_IO_OE (i : Nat) : Fld := ⟨0x20170500, 16 + i, 1, 0⟩
def GPIO_IN_IN (i : Nat) : Fld := ⟨0x20170504, i, 1, 0⟩
def GPIO_IN_FLAG (i : Nat) : Fld := ⟨0x20170504, 16 + i, 1, 0⟩
def GPIO_EDGE (i : Nat) : Fld := ⟨0x20170508, i * 2, 2, 0⟩
def GPIO_IE (i : Nat) : Fld := ⟨0x2017050C, i, 1, 0⟩
def PERI_TBASE_LO_COUNT : Fld := ⟨0x20170600, 0, 32, 0⟩
def PERI_TBASE_HI_COUNT : Fld := ⟨0x20170604, 0, 32, 0⟩
def TIM_CTRL_EN (k : Nat) : Fld := ⟨0x20170610 + k * 0x8, 0, 1, 0⟩
def TIM_CTRL_PERIODIC (k : Nat) : Fld := ⟨0x20170610 + k * 0x8, 1, 1, 0⟩
def TIM_CTRL_FIRED (k : Nat) : Fld := ⟨0x20170610 + k * 0x8, 2, 1, 0⟩
def TIM_CTRL_IE (k : Nat) : Fld := ⟨0x20170610 + k * 0x8, 3, 1, 0⟩
def TIM_LOAD_LOAD (k : Nat) : Fld := ⟨0x20170614 + k * 0x8, 0, 32, 0⟩
def PERI_EVSEL0 (i : Nat) : Fld := ⟨0x20170700, i * 4, 4, 0⟩
def PERI_EVSEL1 (i : Nat) : Fld := ⟨0x20170704, i * 4, 4, 0⟩
-- 17_memory_window.md
def MEMC_CTRL_EN : Fld := ⟨0x20060000, 0, 1, 0⟩
def MEMC_CTRL_RETRAIN : Fld := ⟨0x20060000, 1, 1, 0⟩
def MEMC_CTRL_SCRUB_EN : Fld := ⟨0x20060000, 2, 1, 1⟩
def MEMC_CTRL_RATE : Fld := ⟨0x20060000, 4, 2, 0⟩
def MEMC_CTRL_DENSITY : Fld := ⟨0x20060000, 6, 2, 0⟩
def MEMC_STATUS_STATE : Fld := ⟨0x20060004, 0, 3, 0⟩
def MEMC_STATUS_WERR : Fld := ⟨0x20060004, 3, 1, 0⟩
def MEMC_STATUS_UE : Fld := ⟨0x20060004, 4, 1, 0⟩
def MEMC_STATUS_ADDR_ERR : Fld := ⟨0x20060004, 5, 1, 0⟩
def MEMC_STATUS_TEMP_HI : Fld := ⟨0x20060004, 6, 1, 0⟩
def MEMC_ERR_CNT_CE : Fld := ⟨0x20060008, 0, 16, 0⟩
def MEMC_ERR_CNT_LINK : Fld := ⟨0x20060008, 16, 16, 0⟩
def MEMC_UE_ADDR_LO_ADDR : Fld := ⟨0x2006000C, 0, 32, 0⟩
def MEMC_UE_ADDR_HI_ADDR : Fld := ⟨0x20060010, 0, 4, 0⟩
def MEMC_SCRUB_HOURS : Fld := ⟨0x20060014, 0, 8, 24⟩
def MEMC_SCRUB_LINK_TH : Fld := ⟨0x20060014, 8, 16, 100⟩
def MEMC_SRAM_CE : Fld := ⟨0x20060018, 0, 16, 0⟩
def MEMC_SRAM_UE_BANK : Fld := ⟨0x20060018, 16, 4, 0⟩
def MEMC_SRAM_UE : Fld := ⟨0x20060018, 20, 1, 0⟩
def WIN_CTRL_EN : Fld := ⟨0x20070000, 0, 1, 0⟩
def WIN_CTRL_LOCK : Fld := ⟨0x20070000, 1, 1, 0⟩
def WIN_CFG_SIZE : Fld := ⟨0x20070004, 0, 5, 18⟩
def WIN_CFG_COUNT : Fld := ⟨0x20070004, 8, 11, 1024⟩
def WIN_BASE_ADDR : Fld := ⟨0x20070008, 16, 16, 0⟩
def WIN_BASE_HI_ADDR_HI : Fld := ⟨0x2007000C, 0, 4, 0⟩
def WIN_STATUS_WERR : Fld := ⟨0x20070010, 0, 1, 0⟩
def WIN_STATUS_XFER_CODE : Fld := ⟨0x20070010, 1, 3, 0⟩
def WIN_STATUS_PEND_RETIRE : Fld := ⟨0x20070010, 4, 1, 0⟩
def WIN_STATUS_BLK_SLOT : Fld := ⟨0x20070010, 16, 10, 0⟩
def WIN_XFER_SLOT : Fld := ⟨0x20070014, 0, 10, 0⟩
def WIN_XFER_NEW : Fld := ⟨0x20070014, 16, 4, 0⟩
def WIN_XFER_GO : Fld := ⟨0x20070014, 31, 1, 0⟩
def WIN_ROLE_MASK (e : Nat) : Fld := ⟨0x20070040 + e * 0x4, 0, 16, winRole e⟩
def WIN_OWN (i : Nat) : Fld := ⟨0x20070100 + i / 8 * 4, i % 8 * 4, 4, 0⟩
def WIN_DMA_SRC_ADDR (c : Nat) : Fld := ⟨0x20070800 + c * 0x20, 6, 26, 0⟩
def WIN_DMA_DST_ADDR (c : Nat) : Fld := ⟨0x20070804 + c * 0x20, 6, 26, 0⟩
def WIN_DMA_HI_SRC_HI (c : Nat) : Fld := ⟨0x20070808 + c * 0x20, 0, 4, 0⟩
def WIN_DMA_HI_DST_HI (c : Nat) : Fld := ⟨0x20070808 + c * 0x20, 8, 4, 0⟩
def WIN_DMA_LEN_LEN (c : Nat) : Fld := ⟨0x2007080C + c * 0x20, 6, 19, 0⟩
def WIN_DMA_CTRL_GO (c : Nat) : Fld := ⟨0x20070810 + c * 0x20, 0, 1, 0⟩
def WIN_DMA_CTRL_OWN (c : Nat) : Fld := ⟨0x20070810 + c * 0x20, 4, 4, 0⟩
def WIN_DMA_CTRL_HAND_TO (c : Nat) : Fld := ⟨0x20070810 + c * 0x20, 8, 4, 15⟩
def WIN_DMA_CTRL_TMO (c : Nat) : Fld := ⟨0x20070810 + c * 0x20, 16, 16, 10000⟩
def WIN_DMA_STATUS_DONE (c : Nat) : Fld := ⟨0x20070814 + c * 0x20, 0, 1, 0⟩
def WIN_DMA_STATUS_ERR (c : Nat) : Fld := ⟨0x20070814 + c * 0x20, 1, 1, 0⟩
def WIN_DMA_STATUS_TMO (c : Nat) : Fld := ⟨0x20070814 + c * 0x20, 2, 1, 0⟩
def CVU_CTRL_START (u : Nat) : Fld := ⟨0x20050000 + u * 0x40, 0, 1, 0⟩
def CVU_CTRL_STOP (u : Nat) : Fld := ⟨0x20050000 + u * 0x40, 1, 1, 0⟩
def CVU_CTRL_ALG (u : Nat) : Fld := ⟨0x20050000 + u * 0x40, 2, 2, 0⟩
def CVU_CTRL_CMP_EN (u : Nat) : Fld := ⟨0x20050000 + u * 0x40, 4, 1, 1⟩
def CVU_CTRL_ALIVE_MODE (u : Nat) : Fld := ⟨0x20050000 + u * 0x40, 5, 2, 0⟩
def CVU_CTRL_ADDR_HI (u : Nat) : Fld := ⟨0x20050000 + u * 0x40, 8, 4, 0⟩
def CVU_CTRL_PERIOD (u : Nat) : Fld := ⟨0x20050000 + u * 0x40, 16, 16, 0⟩
def CVU_STATUS_BUSY (u : Nat) : Fld := ⟨0x20050004 + u * 0x40, 0, 1, 0⟩
def CVU_STATUS_PASS (u : Nat) : Fld := ⟨0x20050004 + u * 0x40, 1, 1, 0⟩
def CVU_STATUS_MISMATCH (u : Nat) : Fld := ⟨0x20050004 + u * 0x40, 2, 1, 0⟩
def CVU_STATUS_ALIVE_ERR (u : Nat) : Fld := ⟨0x20050004 + u * 0x40, 3, 1, 0⟩
def CVU_STATUS_ERR (u : Nat) : Fld := ⟨0x20050004 + u * 0x40, 4, 1, 0⟩
def CVU_STATUS_OVERRUN (u : Nat) : Fld := ⟨0x20050004 + u * 0x40, 5, 1, 0⟩
def CVU_STATUS_WERR (u : Nat) : Fld := ⟨0x20050004 + u * 0x40, 6, 1, 0⟩
def CVU_ADDR_VALUE (u : Nat) : Fld := ⟨0x20050008 + u * 0x40, 0, 32, 0⟩
def CVU_LEN_VALUE (u : Nat) : Fld := ⟨0x2005000C + u * 0x40, 0, 32, 0⟩
def CVU_EXPECT_VALUE (u : Nat) : Fld := ⟨0x20050010 + u * 0x40, 0, 32, 0⟩
def CVU_RESULT_VALUE (u : Nat) : Fld := ⟨0x20050014 + u * 0x40, 0, 32, 0⟩
def CVU_ALIVE_REF (u : Nat) : Fld := ⟨0x20050018 + u * 0x40, 0, 16, 0⟩
def CVU_ALIVE_W16 (u : Nat) : Fld := ⟨0x20050018 + u * 0x40, 16, 1, 0⟩
def CVU_ALIVE_OFS_OFS (u : Nat) : Fld := ⟨0x2005001C + u * 0x40, 0, 32, 0⟩
-- 18_pair.md
def PAIR_CTRL_EN : Fld := ⟨0x20150000, 0, 1, 0⟩
def PAIR_CTRL_RATE : Fld := ⟨0x20150000, 1, 1, 1⟩
def PAIR_CTRL_TAKE_UNSYNC : Fld := ⟨0x20150000, 2, 1, 1⟩
def PAIR_CTRL_RESIGN : Fld := ⟨0x20150000, 3, 1, 0⟩
def PAIR_CTRL_DUMP : Fld := ⟨0x20150000, 4, 1, 0⟩
def PAIR_STATUS_STATE : Fld := ⟨0x20150004, 0, 2, 0⟩
def PAIR_STATUS_LEAD : Fld := ⟨0x20150004, 2, 1, 0⟩
def PAIR_STATUS_ARMED : Fld := ⟨0x20150004, 3, 1, 0⟩
def PAIR_STATUS_IN_SYNC : Fld := ⟨0x20150004, 4, 1, 0⟩
def PAIR_STATUS_DIVERGE : Fld := ⟨0x20150004, 5, 1, 0⟩
def PAIR_STATUS_CLAIM_ERR : Fld := ⟨0x20150004, 6, 1, 0⟩
def PAIR_STATUS_SLOT_ERR : Fld := ⟨0x20150004, 7, 1, 0⟩
def PAIR_STATUS_WERR : Fld := ⟨0x20150004, 8, 1, 0⟩
def PAIR_STATUS_VER_CODE : Fld := ⟨0x20150004, 9, 3, 0⟩
def PAIR_CFG_TPAIR : Fld := ⟨0x20150008, 0, 4, 3⟩
def PAIR_CFG_SYNC_OK : Fld := ⟨0x20150008, 4, 8, 8⟩
def PAIR_CFG_PAIR_START_MS : Fld := ⟨0x20150008, 16, 16, 500⟩
def PAIR_MIRROR_BLOCKS : Fld := ⟨0x2015000C, 0, 7, 127⟩
def PAIR_SLOT_SLOT : Fld := ⟨0x20150010, 0, 10, 0⟩
def PAIR_SLOT_NEW : Fld := ⟨0x20150010, 12, 4, 0⟩
def PAIR_SLOT_LEN : Fld := ⟨0x20150010, 16, 15, 0⟩
def PAIR_SLOT_GO : Fld := ⟨0x20150010, 31, 1, 0⟩
def PAIR_EPOCH_PEER : Fld := ⟨0x20150014, 0, 24, 0⟩
def PAIR_OFFSET_NS : Fld := ⟨0x20150018, 0, 32, 0⟩
def PAIR_CMP_PORTS (i : Nat) : Fld := ⟨0x2015001C, i, 1, 0⟩
def PAIR_CNT_DIVERGE : Fld := ⟨0x20150020, 0, 16, 0⟩
def PAIR_CNT_SLOT_DROP : Fld := ⟨0x20150020, 16, 8, 0⟩
def PAIR_CNT_CRC_ERR : Fld := ⟨0x20150020, 24, 8, 0⟩
-- 19_power_clocks_reset.md
def PWRCTL_STATUS_BUSY : Fld := ⟨0x20010000, 0, 1, 0⟩
def PWRCTL_STATUS_WERR : Fld := ⟨0x20010000, 1, 1, 0⟩
def PWRCTL_STATUS_SLEEP_ABORT : Fld := ⟨0x20010000, 2, 1, 0⟩
def PWRCTL_STATUS_XTAL_FAIL : Fld := ⟨0x20010000, 3, 1, 0⟩
def PWRCTL_STATUS_REFUSE : Fld := ⟨0x20010000, 4, 4, 0⟩
def PWRCTL_STATUS_DOMAIN : Fld := ⟨0x20010000, 8, 5, 0⟩
def PWRCTL_STATUS_FAIL_STEP : Fld := ⟨0x20010000, 13, 3, 0⟩
def PWRCTL_REQ_DOMAIN : Fld := ⟨0x20010004, 0, 5, 0⟩
def PWRCTL_REQ_STATE : Fld := ⟨0x20010004, 5, 2, 0⟩
def PWRCTL_REQ_GO : Fld := ⟨0x20010004, 31, 1, 0⟩
def PWRCTL_STATE0 (i : Nat) : Fld := ⟨0x20010008, i * 2, 2, (2818572458 >>> (2 * i)) % 4⟩
def PWRCTL_STATE1 (i : Nat) : Fld := ⟨0x2001000C, i * 2, 2, (44739242 >>> (2 * i)) % 4⟩
def PWRCTL_WAKE_CFG_WAKE_RETRY : Fld := ⟨0x20010010, 0, 2, 1⟩
def PWRCTL_WAKE_CFG_REG_TMO : Fld := ⟨0x20010010, 8, 6, 9⟩
def PWRCTL_WAKE_CFG_OSC_TMO : Fld := ⟨0x20010010, 16, 6, 3⟩
def PWRCTL_AUTOWAKE_DOM : Fld := ⟨0x20010014, 0, 5, 0⟩
def PWRCTL_STBY_GO : Fld := ⟨0x20010018, 0, 1, 0⟩
def PWRCTL_STBY_WAKE0_EDGE : Fld := ⟨0x20010018, 1, 2, 1⟩
def PWRCTL_STBY_WAKE1_EDGE : Fld := ⟨0x20010018, 3, 2, 0⟩
def PWRCTL_STBY_WAKE0_SEEN : Fld := ⟨0x20010018, 5, 1, 0⟩
def PWRCTL_STBY_WAKE1_SEEN : Fld := ⟨0x20010018, 6, 1, 0⟩
def PWRCTL_XING (i : Nat) : Fld := ⟨0x2001001C, i, 1, 0⟩
def PWRCTL_RAIL_EN : Fld := ⟨0x20010020, 0, 4, 1⟩
def PWRCTL_RAIL_PGOOD : Fld := ⟨0x20010020, 4, 4, 0⟩
def CLKRST_CAUSE_CAUSE : Fld := ⟨0x20020000, 0, 4, 0⟩
def CLKRST_CAUSE_SRC : Fld := ⟨0x20020000, 4, 7, 0⟩
def CLKRST_CAUSE_WAKE_PIN : Fld := ⟨0x20020000, 11, 1, 0⟩
def CLKRST_SWRST_KEY : Fld := ⟨0x20020004, 0, 32, 0⟩
def CLKRST_BRST_BLOCK : Fld := ⟨0x20020008, 0, 17, 0⟩
def CLKRST_STATUS_WERR : Fld := ⟨0x2002000C, 0, 1, 0⟩
def CLKRST_STATUS_WIPE_BUSY : Fld := ⟨0x2002000C, 1, 1, 0⟩
def CLKRST_STATUS_SYSPLL_LOCK : Fld := ⟨0x2002000C, 2, 1, 0⟩
def CLKRST_STATUS_TPLL_LOCK : Fld := ⟨0x2002000C, 3, 1, 0⟩
def CLKRST_STATUS_NPLL_LOCK : Fld := ⟨0x2002000C, 4, 1, 0⟩
def CLKRST_STATUS_XTAL_OK : Fld := ⟨0x2002000C, 5, 1, 0⟩
def CLKRST_SWDT_CTRL_EN : Fld := ⟨0x20020010, 0, 1, 0⟩
def CLKRST_SWDT_CTRL_TMO : Fld := ⟨0x20020010, 16, 16, 1000⟩
def CLKRST_SWDT_KICK_KEY : Fld := ⟨0x20020014, 0, 32, 0⟩
def CLKRST_CLKOUT_SEL : Fld := ⟨0x20020018, 0, 2, 0⟩
-- 20_identity_lifecycle.md
def SYSCTL_ID_TARGET : Fld := ⟨0x20000000, 0, 16, 2562⟩
def SYSCTL_ID_STEP : Fld := ⟨0x20000000, 16, 8, 176⟩
def SYSCTL_ID_SAFE_CAP : Fld := ⟨0x20000000, 24, 1, 0⟩
def SYSCTL_SERIAL_LO_SERIAL : Fld := ⟨0x20000004, 0, 32, 0⟩
def SYSCTL_SERIAL_HI_SERIAL : Fld := ⟨0x20000008, 0, 32, 0⟩
def SYSCTL_LC_STATE : Fld := ⟨0x2000000C, 0, 3, 0⟩
def SYSCTL_LC_SVN_FUSE : Fld := ⟨0x2000000C, 8, 7, 0⟩
def SYSCTL_LC_BOOTMODE : Fld := ⟨0x2000000C, 16, 3, 0⟩
def SYSCTL_BOOT_CODE : Fld := ⟨0x20000010, 0, 4, 0⟩
def SYSCTL_BOOT_ENTRY : Fld := ⟨0x20000010, 4, 6, 0⟩
def SYSCTL_BOOT_COPY_B : Fld := ⟨0x20000010, 10, 1, 0⟩
def SYSCTL_SVN_TARGET : Fld := ⟨0x20000014, 0, 7, 0⟩
def SYSCTL_NONCE_NONCE (k : Nat) : Fld := ⟨0x20000020 + k * 0x4, 0, 32, 0⟩
def SYSCTL_LC_REQ_GO : Fld := ⟨0x20000030, 0, 1, 0⟩
def SYSCTL_LC_REQ_ADDR : Fld := ⟨0x20000030, 6, 26, 0⟩
def SYSCTL_LC_STATUS_BUSY : Fld := ⟨0x20000034, 0, 1, 0⟩
def SYSCTL_LC_STATUS_ERR : Fld := ⟨0x20000034, 1, 1, 0⟩
def SYSCTL_LC_STATUS_WERR : Fld := ⟨0x20000034, 2, 1, 0⟩
def SYSCTL_LC_STATUS_CODE : Fld := ⟨0x20000034, 8, 4, 0⟩
def SYSCTL_DBG_OPEN_REQ : Fld := ⟨0x20000040, 0, 1, 0⟩
def SYSCTL_DBG_CLOSE : Fld := ⟨0x20000040, 1, 1, 0⟩
def SYSCTL_DBG_OPEN : Fld := ⟨0x20000040, 2, 1, 0⟩
def SYSCTL_DBG_LOCKED : Fld := ⟨0x20000040, 3, 1, 0⟩
def SYSCTL_DBG_SCOPE : Fld := ⟨0x20000040, 4, 3, 0⟩
def SYSCTL_DBG_FAILS : Fld := ⟨0x20000040, 7, 3, 0⟩
def CRYPTO_CTRL_OP : Fld := ⟨0x20160000, 0, 3, 0⟩
def CRYPTO_CTRL_KEY : Fld := ⟨0x20160000, 3, 2, 0⟩
def CRYPTO_CTRL_GO : Fld := ⟨0x20160000, 31, 1, 0⟩
def CRYPTO_STATUS_BUSY : Fld := ⟨0x20160004, 0, 1, 0⟩
def CRYPTO_STATUS_DONE : Fld := ⟨0x20160004, 1, 1, 0⟩
def CRYPTO_STATUS_ERR : Fld := ⟨0x20160004, 2, 1, 0⟩
def CRYPTO_STATUS_WERR : Fld := ⟨0x20160004, 3, 1, 0⟩
def CRYPTO_ADDR_LO_VALUE : Fld := ⟨0x20160008, 0, 32, 0⟩
def CRYPTO_ADDR_HI_VALUE : Fld := ⟨0x2016000C, 0, 4, 0⟩
def CRYPTO_LEN_VALUE : Fld := ⟨0x20160010, 0, 32, 0⟩
def CRYPTO_DIGEST_WORD (k : Nat) : Fld := ⟨0x20160020 + k * 0x4, 0, 32, 0⟩
def CRYPTO_SIG_R_WORD (k : Nat) : Fld := ⟨0x20160040 + k * 0x4, 0, 32, 0⟩
def CRYPTO_SIG_S_WORD (k : Nat) : Fld := ⟨0x20160060 + k * 0x4, 0, 32, 0⟩
def CRYPTO_DEVPUB_X_WORD (k : Nat) : Fld := ⟨0x20160080 + k * 0x4, 0, 32, 0⟩
def CRYPTO_DEVPUB_Y_WORD (k : Nat) : Fld := ⟨0x201600A0 + k * 0x4, 0, 32, 0⟩
def CRYPTO_RNG_DATA : Fld := ⟨0x201600C0, 0, 32, 0⟩
def CRYPTO_SMKEY_DATA (k : Nat) : Fld := ⟨0x20160100 + k * 0x4, 0, 32, 0⟩
def CRYPTO_SMKEY_CTRL_SLOT : Fld := ⟨0x20160120, 0, 1, 0⟩
def CRYPTO_SMKEY_CTRL_GO : Fld := ⟨0x20160120, 31, 1, 0⟩

end Reg

end Sys2Proof.Machine
end

