-- ==== Sys2Proof/Machine/RegTable.lean ====
section
/-! DEFINITION. The register map as data, from the same field tables of the spec as Machine/Regs.lean: for every register its
address, its repetition, and its fields with access type (R3), update class (R4, R5, R9) and whether a command of the
opcode table is the write of that field. Reserved bits have no entry: they read 0 and store nothing (R2). -/

namespace Sys2Proof.Machine

def regTable0 : List RegDesc :=
  [⟨0x20080000, [], [⟨0, 1, 1, 0, 0, .rw, .l, true⟩, ⟨1, 1, 1, 0, 0, .w1s, .l, true⟩, ⟨2, 1, 1, 0, 0, .rw, .s, false⟩, ⟨3, 1, 1, 0, 1, .rw, .s, false⟩]⟩,
   ⟨0x20080004, [], [⟨0, 1, 1, 0, 0, .ro, .l, false⟩, ⟨1, 1, 1, 0, 0, .ro, .l, false⟩, ⟨2, 1, 1, 0, 0, .ro, .l, false⟩, ⟨3, 1, 1, 0, 0, .ro, .l, false⟩, ⟨4, 1, 1, 0, 0, .ro, .l, false⟩, ⟨5, 1, 1, 0, 0, .ro, .l, false⟩, ⟨6, 1, 1, 0, 0, .ro, .l, false⟩, ⟨7, 1, 1, 0, 0, .w1c, .l, false⟩, ⟨8, 4, 1, 0, 0, .ro, .l, false⟩, ⟨16, 8, 1, 0, 0, .ro, .l, false⟩]⟩,
   ⟨0x20080008, [], [⟨0, 8, 1, 0, 0, .ro, .l, false⟩]⟩,
   ⟨0x2008000C, [], [⟨0, 1, 1, 0, 0, .rw, .c, false⟩, ⟨1, 1, 1, 0, 0, .rw, .c, false⟩]⟩,
   ⟨0x20080010, [], [⟨6, 26, 1, 0, 0, .rw, .l, false⟩]⟩,
   ⟨0x20080014, [], [⟨0, 4, 1, 0, 0, .rw, .l, false⟩]⟩,
   ⟨0x20080018, [], [⟨0, 1, 1, 0, 0, .w1s, .l, true⟩, ⟨1, 1, 1, 0, 0, .rw, .l, false⟩, ⟨2, 1, 1, 0, 0, .w1s, .l, true⟩]⟩,
   ⟨0x2008001C, [], [⟨0, 1, 1, 0, 0, .ro, .l, false⟩, ⟨1, 1, 1, 0, 0, .w1c, .l, false⟩, ⟨2, 1, 1, 0, 0, .w1c, .l, false⟩, ⟨8, 8, 1, 0, 0, .ro, .l, false⟩, ⟨16, 16, 1, 0, 0, .ro, .l, false⟩]⟩,
   ⟨0x20080020, [], [⟨0, 32, 1, 0, 0, .ro, .l, false⟩]⟩,
   ⟨0x20080024, [], [⟨0, 32, 1, 0, 0, .ro, .l, false⟩]⟩,
   ⟨0x20080028, [], [⟨0, 32, 1, 0, 0, .ro, .l, false⟩]⟩,
   ⟨0x2008002C, [], [⟨0, 4, 1, 0, 0, .ro, .l, false⟩, ⟨4, 4, 1, 0, 0, .ro, .l, false⟩]⟩,
   ⟨0x20080030, [], [⟨0, 1, 1, 0, 0, .w1c, .l, false⟩, ⟨1, 1, 1, 0, 0, .w1c, .l, false⟩, ⟨4, 4, 1, 0, 0, .ro, .l, false⟩, ⟨16, 16, 1, 0, 0, .ro, .l, false⟩]⟩,
   ⟨0x20080040, [], [⟨0, 7, 1, 0, 0, .rw, .l, false⟩, ⟨8, 1, 1, 0, 0, .w1s, .l, true⟩, ⟨9, 1, 1, 0, 0, .rw, .l, false⟩]⟩,
   ⟨0x20080044, [], [⟨0, 1, 1, 0, 0, .ro, .l, false⟩, ⟨1, 1, 1, 0, 0, .ro, .l, false⟩, ⟨2, 1, 1, 0, 0, .w1c, .l, false⟩, ⟨8, 4, 1, 0, 0, .ro, .l, false⟩]⟩,
   ⟨0x20080050, [(0x4, 4)], [⟨0, 1, 32, 1, 0, .w1s, .l, true⟩]⟩,
   ⟨0x20080060, [], [⟨0, 16, 1, 0, 0, .ro, .l, false⟩, ⟨16, 7, 1, 0, 0, .ro, .l, false⟩, ⟨24, 1, 1, 0, 0, .w1c, .l, false⟩]⟩,
   ⟨0x20090000, [], [⟨0, 1, 1, 0, 0, .rw, .l, true⟩, ⟨1, 1, 1, 0, 0, .w1s, .l, true⟩]⟩,
   ⟨0x20090004, [], [⟨0, 1, 8, 1, 0, .ro, .l, false⟩, ⟨8, 1, 8, 1, 0, .ro, .l, false⟩, ⟨16, 1, 8, 1, 0, .w1c, .l, false⟩, ⟨24, 1, 1, 0, 0, .w1c, .l, false⟩, ⟨25, 1, 1, 0, 0, .w1c, .l, false⟩]⟩,
   ⟨0x20090008, [], [⟨0, 8, 1, 0, 0, .ro, .l, false⟩, ⟨8, 3, 1, 0, 0, .ro, .l, false⟩]⟩]

def regTable1 : List RegDesc :=
  [⟨0x2009000C, [], [⟨0, 8, 1, 0, 4, .rw, .l, false⟩]⟩,
   ⟨0x20090010, [], [⟨0, 1, 1, 0, 0, .rw, .s, false⟩]⟩,
   ⟨0x20090100, [(0x40, 8)], [⟨0, 1, 1, 0, 0, .rw, .c, false⟩, ⟨1, 3, 1, 0, 0, .rw, .c, false⟩, ⟨4, 2, 1, 0, 0, .rw, .c, false⟩, ⟨6, 1, 1, 0, 0, .rw, .c, false⟩, ⟨7, 1, 1, 0, 0, .rw, .c, false⟩, ⟨8, 2, 1, 0, 0, .rw, .c, false⟩]⟩,
   ⟨0x20090104, [(0x40, 8)], [⟨0, 13, 1, 0, 0, .rw, .c, false⟩, ⟨16, 13, 1, 0, 0, .rw, .c, false⟩]⟩,
   ⟨0x20090108, [(0x40, 8)], [⟨6, 26, 1, 0, 0, .rw, .c, false⟩]⟩,
   ⟨0x2009010C, [(0x40, 8)], [⟨0, 4, 1, 0, 0, .rw, .c, false⟩]⟩,
   ⟨0x20090110, [(0x40, 8)], [⟨6, 10, 1, 0, 0, .rw, .c, false⟩]⟩,
   ⟨0x20090114, [(0x40, 8)], [⟨6, 26, 1, 0, 0, .rw, .c, false⟩]⟩,
   ⟨0x20090118, [(0x40, 8)], [⟨0, 4, 1, 0, 0, .rw, .c, false⟩]⟩,
   ⟨0x2009011C, [(0x40, 8)], [⟨0, 16, 1, 0, 0, .ro, .l, false⟩, ⟨16, 8, 1, 0, 0, .ro, .l, false⟩]⟩,
   ⟨0x20180000, [], [⟨0, 1, 1, 0, 0, .rw, .l, true⟩, ⟨1, 1, 1, 0, 0, .rw, .s, false⟩, ⟨2, 2, 1, 0, 0, .rw, .s, false⟩, ⟨4, 1, 1, 0, 0, .rw, .s, false⟩]⟩,
   ⟨0x20180004, [], [⟨0, 1, 1, 0, 0, .ro, .l, false⟩, ⟨1, 1, 1, 0, 0, .ro, .l, false⟩, ⟨2, 1, 1, 0, 0, .ro, .l, false⟩, ⟨3, 1, 1, 0, 0, .w1c, .l, false⟩, ⟨8, 8, 1, 0, 0, .ro, .l, false⟩, ⟨16, 2, 1, 0, 0, .ro, .l, false⟩]⟩,
   ⟨0x20180008, [], [⟨0, 11, 1, 0, 1024, .rw, .s, false⟩, ⟨16, 10, 1, 0, 512, .rw, .s, false⟩]⟩,
   ⟨0x2018000C, [], [⟨0, 8, 1, 0, 3, .rw, .l, false⟩, ⟨8, 8, 1, 0, 255, .rw, .l, false⟩]⟩,
   ⟨0x20180010, [], [⟨19, 13, 1, 0, 0, .rw, .s, false⟩]⟩,
   ⟨0x20180014, [], [⟨0, 4, 1, 0, 0, .rw, .s, false⟩]⟩,
   ⟨0x20180018, [], [⟨0, 16, 1, 0, 100, .rw, .s, false⟩]⟩,
   ⟨0x20180020, [], [⟨0, 16, 1, 0, 0, .ro, .l, false⟩, ⟨16, 16, 1, 0, 0, .ro, .l, false⟩]⟩,
   ⟨0x20180024, [], [⟨0, 1, 1, 0, 0, .w1c, .l, false⟩, ⟨1, 1, 1, 0, 0, .w1c, .l, false⟩, ⟨2, 1, 1, 0, 0, .w1c, .l, false⟩, ⟨3, 1, 1, 0, 0, .w1c, .l, false⟩, ⟨4, 1, 1, 0, 0, .w1c, .l, false⟩, ⟨5, 1, 1, 0, 0, .w1c, .l, false⟩, ⟨6, 1, 1, 0, 0, .w1c, .l, false⟩, ⟨7, 1, 1, 0, 0, .w1c, .l, false⟩, ⟨8, 1, 1, 0, 0, .w1c, .l, false⟩]⟩,
   ⟨0x20090120, [(0x40, 8)], [⟨6, 26, 1, 0, 0, .rw, .c, false⟩]⟩]

def regTable2 : List RegDesc :=
  [⟨0x20090124, [(0x40, 8)], [⟨0, 4, 1, 0, 0, .rw, .c, false⟩]⟩,
   ⟨0x20090128, [(0x40, 8)], [⟨0, 1, 1, 0, 0, .rw, .c, false⟩, ⟨1, 1, 1, 0, 0, .rw, .c, false⟩]⟩,
   ⟨0x2009012C, [(0x40, 8)], [⟨0, 2, 1, 0, 0, .ro, .l, false⟩, ⟨2, 1, 1, 0, 0, .ro, .l, false⟩, ⟨3, 1, 1, 0, 0, .ro, .l, false⟩, ⟨4, 4, 1, 0, 0, .ro, .l, false⟩, ⟨8, 1, 1, 0, 0, .w1c, .l, false⟩, ⟨16, 11, 1, 0, 0, .ro, .l, false⟩]⟩,
   ⟨0x20090130, [(0x40, 8)], [⟨0, 11, 1, 0, 0, .ro, .l, false⟩, ⟨12, 4, 1, 0, 0, .ro, .l, false⟩, ⟨16, 9, 1, 0, 0, .ro, .l, false⟩]⟩,
   ⟨0x20090134, [(0x40, 8)], [⟨0, 32, 1, 0, 0, .ro, .l, false⟩]⟩,
   ⟨0x20081000, [], [⟨0, 1, 1, 0, 1, .rw, .c, false⟩, ⟨1, 1, 1, 0, 0, .rw, .c, false⟩, ⟨2, 1, 1, 0, 0, .rw, .c, false⟩, ⟨3, 1, 1, 0, 1, .rw, .c, false⟩, ⟨4, 2, 1, 0, 0, .rw, .c, false⟩, ⟨6, 1, 1, 0, 0, .rw, .c, false⟩, ⟨8, 8, 1, 0, 32, .rw, .c, false⟩]⟩,
   ⟨0x20081004, [], [⟨6, 26, 1, 0, 0, .rw, .c, false⟩]⟩,
   ⟨0x20081008, [], [⟨0, 4, 1, 0, 0, .rw, .c, false⟩]⟩,
   ⟨0x2008100C, [], [⟨20, 12, 1, 0, 0, .rw, .s, false⟩]⟩,
   ⟨0x20081010, [], [⟨0, 4, 1, 0, 0, .rw, .s, false⟩]⟩,
   ⟨0x20081014, [], [⟨20, 12, 1, 0, 0, .rw, .s, false⟩]⟩,
   ⟨0x20081018, [], [⟨0, 4, 1, 0, 0, .rw, .s, false⟩, ⟨8, 3, 1, 0, 2, .rw, .s, false⟩]⟩,
   ⟨0x2008101C, [], [⟨0, 1, 1, 0, 0, .w1c, .l, false⟩, ⟨1, 1, 1, 0, 0, .ro, .l, false⟩, ⟨2, 2, 1, 0, 0, .ro, .l, false⟩, ⟨8, 8, 1, 0, 0, .ro, .l, false⟩, ⟨16, 8, 1, 0, 0, .ro, .l, false⟩]⟩,
   ⟨0x20081020, [], [⟨0, 24, 1, 0, 0, .ro, .l, false⟩]⟩,
   ⟨0x20081024, [], [⟨0, 32, 1, 0, 0, .ro, .l, false⟩]⟩,
   ⟨0x20081040, [(0x4, 12)], [⟨0, 32, 1, 0, 0, .ro, .l, false⟩]⟩,
   ⟨0x20081100, [(0x4, 48)], [⟨0, 8, 4, 8, 0, .ro, .l, false⟩]⟩,
   ⟨0x200A0000, [], [⟨0, 1, 1, 0, 0, .rw, .l, true⟩, ⟨1, 1, 1, 0, 0, .w1s, .l, true⟩]⟩,
   ⟨0x200A0004, [], [⟨0, 1, 1, 0, 0, .ro, .l, false⟩, ⟨1, 1, 1, 0, 0, .ro, .l, false⟩, ⟨2, 1, 1, 0, 0, .ro, .l, false⟩, ⟨3, 1, 1, 0, 0, .w1c, .l, false⟩, ⟨4, 1, 1, 0, 0, .ro, .l, false⟩, ⟨5, 1, 1, 0, 0, .w1c, .l, false⟩, ⟨6, 1, 1, 0, 0, .w1c, .l, false⟩]⟩,
   ⟨0x200A0008, [], [⟨0, 8, 1, 0, 0, .ro, .l, false⟩]⟩]

def regTable3 : List RegDesc :=
  [⟨0x200A0010, [], [⟨0, 30, 1, 0, 0, .rw, .c, false⟩]⟩,
   ⟨0x200A0014, [], [⟨0, 32, 1, 0, 0, .rw, .c, false⟩]⟩,
   ⟨0x200A0018, [], [⟨0, 16, 1, 0, 0, .rw, .c, false⟩]⟩,
   ⟨0x200A001C, [], [⟨0, 11, 1, 0, 0, .rw, .l, false⟩]⟩,
   ⟨0x200A0020, [], [⟨0, 2, 1, 0, 2, .rw, .s, false⟩]⟩,
   ⟨0x200A0024, [], [⟨0, 8, 1, 0, 8, .rw, .s, false⟩]⟩,
   ⟨0x200A0030, [], [⟨0, 32, 1, 0, 0, .ro, .l, false⟩]⟩,
   ⟨0x200A0034, [], [⟨0, 25, 1, 0, 0, .ro, .l, false⟩]⟩,
   ⟨0x200A0038, [], [⟨0, 11, 1, 0, 0, .ro, .l, false⟩, ⟨16, 1, 1, 0, 0, .ro, .l, false⟩]⟩,
   ⟨0x200A003C, [], [⟨0, 30, 1, 0, 0, .ro, .l, false⟩]⟩,
   ⟨0x200A0040, [], [⟨0, 32, 1, 0, 0, .ro, .l, false⟩]⟩,
   ⟨0x200A0044, [], [⟨0, 16, 1, 0, 0, .ro, .l, false⟩]⟩,
   ⟨0x200A0048, [], [⟨0, 8, 1, 0, 0, .ro, .l, false⟩, ⟨8, 4, 1, 0, 0, .ro, .l, false⟩]⟩,
   ⟨0x200A0050, [], [⟨0, 16, 1, 0, 0, .ro, .l, false⟩, ⟨16, 16, 1, 0, 0, .ro, .l, false⟩]⟩,
   ⟨0x200A0054, [], [⟨0, 16, 1, 0, 0, .ro, .l, false⟩, ⟨16, 16, 1, 0, 0, .ro, .l, false⟩]⟩,
   ⟨0x200A0058, [], [⟨0, 32, 1, 0, 0, .ro, .l, false⟩]⟩,
   ⟨0x200A005C, [], [⟨0, 4, 1, 0, 0, .ro, .l, false⟩, ⟨16, 10, 1, 0, 0, .ro, .l, false⟩]⟩,
   ⟨0x200B0000, [(0x1000, 12)], [⟨0, 1, 1, 0, 0, .rw, .l, true⟩, ⟨1, 1, 1, 0, 0, .w1s, .l, true⟩, ⟨2, 1, 1, 0, 1, .rw, .s, false⟩, ⟨3, 1, 1, 0, 1, .rw, .s, false⟩, ⟨4, 1, 1, 0, 1, .rw, .s, false⟩, ⟨5, 1, 1, 0, 1, .rw, .s, false⟩, ⟨6, 1, 1, 0, 1, .rw, .s, false⟩, ⟨7, 1, 1, 0, 0, .w1s, .l, true⟩, ⟨8, 1, 1, 0, 0, .w1s, .l, true⟩, ⟨9, 1, 1, 0, 0, .w1s, .l, true⟩]⟩,
   ⟨0x200B0004, [(0x1000, 12)], [⟨0, 3, 1, 0, 0, .ro, .l, false⟩, ⟨3, 2, 1, 0, 0, .ro, .l, false⟩, ⟨5, 1, 1, 0, 0, .ro, .l, false⟩, ⟨6, 1, 1, 0, 0, .ro, .l, false⟩, ⟨7, 1, 1, 0, 0, .ro, .l, false⟩, ⟨8, 1, 1, 0, 0, .ro, .l, false⟩, ⟨9, 1, 1, 0, 0, .ro, .l, false⟩, ⟨10, 1, 1, 0, 0, .w1c, .l, false⟩, ⟨11, 1, 1, 0, 0, .w1c, .l, false⟩, ⟨12, 1, 1, 0, 0, .w1c, .l, false⟩, ⟨13, 1, 1, 0, 0, .w1c, .l, false⟩, ⟨14, 1, 1, 0, 0, .w1c, .l, false⟩, ⟨15, 1, 1, 0, 0, .w1c, .l, false⟩]⟩,
   ⟨0x200B0008, [(0x1000, 12)], [⟨0, 8, 1, 0, 0, .ro, .l, false⟩]⟩]

def regTable4 : List RegDesc :=
  [⟨0x200B000C, [(0x1000, 12)], [⟨0, 8, 1, 0, 50, .rw, .s, false⟩, ⟨8, 8, 1, 0, 10, .rw, .s, false⟩, ⟨16, 8, 1, 0, 20, .rw, .s, false⟩, ⟨24, 8, 1, 0, 10, .rw, .s, false⟩]⟩,
   ⟨0x200B0010, [(0x1000, 12)], [⟨0, 24, 1, 0, 0, .rw, .l, false⟩]⟩,
   ⟨0x200B0014, [(0x1000, 12)], [⟨0, 18, 1, 0, 0, .ro, .l, false⟩]⟩,
   ⟨0x200B0018, [(0x1000, 12)], [⟨0, 16, 1, 0, 0, .rw, .l, false⟩]⟩,
   ⟨0x200B001C, [(0x1000, 12)], [⟨0, 24, 1, 0, 0, .ro, .l, false⟩]⟩,
   ⟨0x200B0020, [(0x1000, 12)], [⟨0, 16, 1, 0, 0, .ro, .l, false⟩, ⟨16, 16, 1, 0, 0, .ro, .l, false⟩]⟩,
   ⟨0x200B0024, [(0x1000, 12)], [⟨0, 16, 1, 0, 0, .ro, .l, false⟩, ⟨16, 16, 1, 0, 0, .ro, .l, false⟩]⟩,
   ⟨0x200B0028, [(0x1000, 12)], [⟨0, 32, 1, 0, 0, .ro, .l, false⟩]⟩,
   ⟨0x200B002C, [(0x1000, 12)], [⟨0, 32, 1, 0, 0, .ro, .l, false⟩]⟩,
   ⟨0x200B0030, [(0x1000, 12)], [⟨0, 32, 1, 0, 0, .ro, .l, false⟩]⟩,
   ⟨0x200B0034, [(0x1000, 12)], [⟨6, 26, 1, 0, 0, .rw, .l, false⟩]⟩,
   ⟨0x200B0038, [(0x1000, 12)], [⟨0, 4, 1, 0, 0, .rw, .l, false⟩]⟩,
   ⟨0x200B0040, [(0x1000, 12)], [⟨0, 32, 1, 0, 0, .ro, .l, false⟩]⟩,
   ⟨0x200B0044, [(0x1000, 12)], [⟨0, 8, 1, 0, 0, .ro, .l, false⟩, ⟨8, 8, 1, 0, 0, .ro, .l, false⟩, ⟨16, 16, 1, 0, 0, .ro, .l, false⟩]⟩,
   ⟨0x200B0050, [(0x1000, 12), (0x4, 4)], [⟨0, 8, 4, 8, 0, .ro, .l, false⟩]⟩,
   ⟨0x200B0060, [(0x1000, 12), (0x4, 4)], [⟨0, 16, 2, 16, 0, .ro, .l, false⟩]⟩,
   ⟨0x200B0070, [(0x1000, 12)], [⟨0, 16, 1, 0, 0, .ro, .l, false⟩, ⟨16, 16, 1, 0, 0, .ro, .l, false⟩]⟩,
   ⟨0x200B0074, [(0x1000, 12)], [⟨0, 16, 1, 0, 0, .ro, .l, false⟩, ⟨16, 16, 1, 0, 0, .ro, .l, false⟩]⟩,
   ⟨0x200B0078, [(0x1000, 12)], [⟨0, 16, 1, 0, 0, .ro, .l, false⟩, ⟨16, 16, 1, 0, 0, .ro, .l, false⟩]⟩,
   ⟨0x200B007C, [(0x1000, 12)], [⟨0, 16, 1, 0, 0, .ro, .l, false⟩, ⟨16, 16, 1, 0, 0, .ro, .l, false⟩]⟩]

def regTable5 : List RegDesc :=
  [⟨0x200C0000, [(0x100, 15)], [⟨0, 1, 1, 0, 0, .rw, .l, true⟩, ⟨1, 3, 1, 0, 0, .rw, .l, true⟩, ⟨4, 3, 1, 0, 0, .rw, .l, true⟩, ⟨7, 1, 1, 0, 0, .rw, .s, false⟩, ⟨8, 1, 1, 0, 0, .w1s, .l, true⟩, ⟨9, 1, 1, 0, 0, .w1s, .l, true⟩, ⟨10, 1, 1, 0, 0, .w1s, .l, true⟩, ⟨16, 7, 1, 0, 8, .rw, .l, false⟩]⟩,
   ⟨0x200C0004, [(0x100, 15)], [⟨0, 3, 1, 0, 0, .ro, .l, false⟩, ⟨3, 1, 1, 0, 0, .ro, .l, false⟩, ⟨4, 1, 1, 0, 0, .ro, .l, false⟩, ⟨5, 1, 1, 0, 0, .ro, .l, false⟩, ⟨6, 1, 1, 0, 0, .ro, .l, false⟩, ⟨7, 1, 1, 0, 0, .w1c, .l, false⟩, ⟨8, 1, 1, 0, 0, .w1c, .l, false⟩, ⟨9, 1, 1, 0, 0, .w1c, .l, false⟩, ⟨10, 1, 1, 0, 0, .w1c, .l, false⟩]⟩,
   ⟨0x200C0008, [(0x100, 15)], [⟨0, 8, 1, 0, 0, .ro, .l, false⟩, ⟨8, 7, 1, 0, 0, .ro, .l, false⟩, ⟨16, 7, 1, 0, 0, .ro, .l, false⟩, ⟨24, 4, 1, 0, 0, .ro, .l, false⟩]⟩,
   ⟨0x200C000C, [(0x100, 15)], [⟨0, 8, 1, 0, 96, .rw, .s, false⟩, ⟨8, 8, 1, 0, 40, .rw, .s, false⟩, ⟨16, 8, 1, 0, 16, .rw, .s, false⟩]⟩,
   ⟨0x200C0010, [(0x100, 15)], [⟨0, 4, 1, 0, 0, .rw, .l, false⟩, ⟨4, 5, 1, 0, 8, .rw, .l, false⟩]⟩,
   ⟨0x200C0014, [(0x100, 15)], [⟨0, 30, 1, 0, 0, .ro, .l, false⟩]⟩,
   ⟨0x200C0018, [(0x100, 15)], [⟨0, 32, 1, 0, 0, .ro, .l, false⟩]⟩,
   ⟨0x200C001C, [(0x100, 15)], [⟨0, 16, 1, 0, 0, .ro, .l, false⟩, ⟨16, 16, 1, 0, 0, .ro, .l, false⟩]⟩,
   ⟨0x200D0000, [], [⟨0, 1, 1, 0, 0, .rw, .l, true⟩, ⟨1, 1, 1, 0, 0, .w1s, .l, true⟩, ⟨2, 1, 1, 0, 0, .w1s, .l, true⟩, ⟨3, 1, 1, 0, 0, .rw, .s, false⟩, ⟨4, 1, 1, 0, 0, .rw, .s, false⟩]⟩,
   ⟨0x200D0004, [], [⟨0, 1, 1, 0, 0, .ro, .l, false⟩, ⟨1, 1, 1, 0, 0, .ro, .l, false⟩, ⟨2, 1, 1, 0, 0, .w1c, .l, false⟩, ⟨3, 1, 1, 0, 0, .w1c, .l, false⟩, ⟨4, 1, 1, 0, 0, .w1c, .l, false⟩, ⟨5, 1, 1, 0, 0, .w1c, .l, false⟩, ⟨6, 1, 1, 0, 0, .w1c, .l, false⟩, ⟨8, 8, 1, 0, 0, .ro, .l, false⟩, ⟨16, 11, 1, 0, 0, .ro, .l, false⟩]⟩,
   ⟨0x200D0008, [], [⟨0, 8, 1, 0, 0, .ro, .l, false⟩]⟩,
   ⟨0x200D000C, [], [⟨0, 3, 1, 0, 2, .rw, .c, false⟩, ⟨8, 8, 1, 0, 16, .rw, .c, false⟩, ⟨16, 8, 1, 0, 16, .rw, .c, false⟩, ⟨24, 6, 1, 0, 4, .rw, .c, false⟩]⟩,
   ⟨0x200D0010, [], [⟨0, 8, 1, 0, 30, .rw, .l, false⟩, ⟨8, 8, 1, 0, 60, .rw, .l, false⟩, ⟨16, 8, 1, 0, 60, .rw, .l, false⟩, ⟨24, 8, 1, 0, 15, .rw, .l, false⟩]⟩,
   ⟨0x200D0014, [], [⟨0, 8, 1, 0, 60, .rw, .l, false⟩, ⟨8, 3, 1, 0, 2, .rw, .l, false⟩, ⟨16, 8, 1, 0, 32, .rw, .l, false⟩]⟩,
   ⟨0x200D0018, [], [⟨0, 16, 1, 0, 65485, .rw, .l, false⟩, ⟨16, 16, 1, 0, 6400, .rw, .l, false⟩]⟩,
   ⟨0x200D001C, [], [⟨0, 16, 1, 0, 64, .rw, .l, false⟩]⟩,
   ⟨0x200D0020, [], [⟨0, 16, 1, 0, 100, .rw, .l, false⟩]⟩,
   ⟨0x200D0024, [], [⟨16, 16, 1, 0, 0, .rw, .s, false⟩]⟩,
   ⟨0x200D0028, [], [⟨0, 4, 1, 0, 0, .rw, .s, false⟩]⟩,
   ⟨0x200D002C, [], [⟨6, 26, 1, 0, 0, .rw, .s, false⟩]⟩]

def regTable6 : List RegDesc :=
  [⟨0x200D0030, [], [⟨0, 4, 1, 0, 0, .rw, .s, false⟩]⟩,
   ⟨0x200D0040, [], [⟨0, 9, 1, 0, 0, .rw, .l, false⟩, ⟨9, 9, 1, 0, 0, .rw, .l, false⟩, ⟨18, 4, 1, 0, 0, .rw, .l, false⟩, ⟨22, 3, 1, 0, 0, .rw, .l, false⟩, ⟨31, 1, 1, 0, 0, .w1s, .l, true⟩]⟩,
   ⟨0x200D0044, [], [⟨0, 9, 1, 0, 0, .ro, .l, false⟩, ⟨9, 9, 1, 0, 0, .ro, .l, false⟩, ⟨18, 4, 1, 0, 0, .ro, .l, false⟩, ⟨22, 3, 1, 0, 0, .ro, .l, false⟩, ⟨25, 3, 1, 0, 0, .ro, .l, false⟩, ⟨31, 1, 1, 0, 0, .ro, .l, false⟩]⟩,
   ⟨0x200D0048, [], [⟨0, 8, 1, 0, 0, .ro, .l, false⟩, ⟨8, 24, 1, 0, 0, .ro, .l, false⟩]⟩,
   ⟨0x200D004C, [], [⟨0, 1, 1, 0, 0, .w1s, .l, true⟩]⟩,
   ⟨0x200D0050, [], [⟨0, 16, 1, 0, 0, .ro, .l, false⟩, ⟨16, 16, 1, 0, 0, .ro, .l, false⟩]⟩,
   ⟨0x200D0080, [(0x4, 12)], [⟨0, 19, 1, 0, 0, .ro, .l, false⟩]⟩,
   ⟨0x200D00C0, [(0x4, 6)], [⟨0, 1, 32, 1, 0, .w1c, .l, false⟩]⟩,
   ⟨0x200E0000, [], [⟨0, 1, 1, 0, 0, .rw, .l, true⟩, ⟨1, 1, 1, 0, 0, .w1s, .l, true⟩]⟩,
   ⟨0x200E0004, [], [⟨0, 2, 1, 0, 0, .ro, .l, false⟩, ⟨2, 1, 1, 0, 0, .ro, .l, false⟩, ⟨3, 1, 1, 0, 0, .w1c, .l, false⟩, ⟨4, 1, 1, 0, 0, .w1c, .l, false⟩, ⟨5, 1, 1, 0, 0, .w1c, .l, false⟩, ⟨6, 1, 1, 0, 0, .w1c, .l, false⟩, ⟨8, 1, 1, 0, 0, .w1c, .l, false⟩, ⟨9, 1, 1, 0, 0, .w1c, .l, false⟩, ⟨10, 1, 1, 0, 0, .w1c, .l, false⟩, ⟨11, 1, 1, 0, 0, .w1c, .l, false⟩, ⟨12, 1, 4, 1, 0, .w1c, .l, false⟩]⟩,
   ⟨0x200E0008, [], [⟨0, 8, 1, 0, 0, .ro, .l, false⟩]⟩,
   ⟨0x200E000C, [], [⟨0, 2, 1, 0, 3, .rw, .s, false⟩, ⟨4, 11, 1, 0, 600, .rw, .s, false⟩, ⟨16, 8, 1, 0, 4, .rw, .s, false⟩, ⟨24, 8, 1, 0, 230, .rw, .s, false⟩]⟩,
   ⟨0x200E0010, [], [⟨0, 16, 1, 0, 256, .rw, .l, false⟩, ⟨16, 16, 1, 0, 64, .rw, .l, false⟩]⟩,
   ⟨0x200E0014, [], [⟨0, 8, 1, 0, 16, .rw, .l, false⟩, ⟨16, 16, 1, 0, 16384, .rw, .s, false⟩]⟩,
   ⟨0x200E0018, [], [⟨0, 16, 1, 0, 24576, .rw, .s, false⟩, ⟨16, 16, 1, 0, 6400, .rw, .s, false⟩]⟩,
   ⟨0x200E001C, [], [⟨0, 10, 1, 0, 250, .rw, .c, false⟩, ⟨16, 10, 1, 0, 600, .rw, .c, false⟩]⟩,
   ⟨0x200E0020, [], [⟨0, 8, 1, 0, 35, .rw, .c, false⟩, ⟨8, 5, 1, 0, 4, .rw, .l, false⟩, ⟨16, 8, 1, 0, 15, .rw, .l, false⟩]⟩,
   ⟨0x200E0024, [], [⟨0, 16, 1, 0, 4000, .rw, .l, false⟩, ⟨16, 16, 1, 0, 500, .rw, .l, false⟩]⟩,
   ⟨0x200E0028, [], [⟨0, 10, 1, 0, 640, .rw, .s, false⟩, ⟨16, 8, 1, 0, 30, .rw, .s, false⟩, ⟨24, 8, 1, 0, 20, .rw, .s, false⟩]⟩,
   ⟨0x200E002C, [], [⟨0, 10, 1, 0, 900, .rw, .s, false⟩, ⟨16, 8, 1, 0, 8, .rw, .s, false⟩]⟩]

def regTable7 : List RegDesc :=
  [⟨0x200E0030, [], [⟨0, 10, 1, 0, 300, .rw, .l, false⟩]⟩,
   ⟨0x200E0040, [], [⟨0, 10, 1, 0, 0, .ro, .l, false⟩, ⟨16, 10, 1, 0, 0, .ro, .l, false⟩]⟩,
   ⟨0x200E0044, [], [⟨0, 8, 1, 0, 0, .ro, .l, false⟩, ⟨16, 10, 1, 0, 0, .ro, .l, false⟩]⟩,
   ⟨0x200E0048, [], [⟨0, 13, 1, 0, 0, .ro, .l, false⟩, ⟨13, 19, 1, 0, 0, .ro, .l, false⟩]⟩,
   ⟨0x200E004C, [], [⟨0, 16, 1, 0, 0, .ro, .l, false⟩, ⟨16, 16, 1, 0, 0, .ro, .l, false⟩]⟩,
   ⟨0x200E0050, [], [⟨0, 8, 4, 8, 0, .ro, .l, false⟩]⟩,
   ⟨0x200E0080, [(0x4, 9)], [⟨0, 10, 2, 16, 0, .rw, .c, false⟩]⟩,
   ⟨0x200E0100, [(0x4, 48)], [⟨0, 8, 4, 8, 0, .rw, .l, false⟩]⟩,
   ⟨0x200E0200, [(0x4, 48)], [⟨0, 8, 4, 8, 0, .ro, .l, false⟩]⟩,
   ⟨0x200F0000, [], [⟨0, 1, 1, 0, 0, .rw, .l, true⟩, ⟨1, 1, 1, 0, 0, .w1s, .l, true⟩, ⟨2, 1, 1, 0, 1, .rw, .c, false⟩, ⟨3, 1, 1, 0, 0, .rw, .c, false⟩, ⟨4, 1, 1, 0, 1, .rw, .l, false⟩]⟩,
   ⟨0x200F0004, [], [⟨0, 1, 1, 0, 0, .ro, .l, false⟩, ⟨1, 1, 1, 0, 0, .w1c, .l, false⟩, ⟨2, 1, 1, 0, 0, .ro, .l, false⟩, ⟨3, 1, 1, 0, 0, .w1c, .l, false⟩, ⟨4, 1, 1, 0, 0, .ro, .l, false⟩, ⟨5, 1, 1, 0, 0, .ro, .l, false⟩, ⟨6, 1, 1, 0, 0, .ro, .l, false⟩, ⟨8, 8, 1, 0, 32, .ro, .l, false⟩, ⟨16, 16, 1, 0, 0, .ro, .l, false⟩]⟩,
   ⟨0x200F0008, [], [⟨0, 8, 1, 0, 0, .ro, .l, false⟩]⟩,
   ⟨0x200F000C, [], [⟨0, 8, 1, 0, 100, .rw, .c, false⟩, ⟨8, 8, 1, 0, 105, .rw, .c, false⟩, ⟨16, 8, 1, 0, 125, .rw, .c, false⟩]⟩,
   ⟨0x200F0010, [], [⟨0, 24, 1, 0, 5243, .rw, .c, false⟩, ⟨24, 8, 1, 0, 192, .rw, .c, false⟩]⟩,
   ⟨0x200F0014, [], [⟨0, 16, 1, 0, 0, .rw, .c, false⟩, ⟨16, 16, 1, 0, 1024, .rw, .c, false⟩]⟩,
   ⟨0x200F0018, [], [⟨0, 8, 1, 0, 8, .rw, .c, false⟩, ⟨8, 8, 1, 0, 15, .rw, .c, false⟩, ⟨16, 16, 1, 0, 21760, .rw, .c, false⟩]⟩,
   ⟨0x200F001C, [], [⟨0, 8, 1, 0, 0, .rw, .s, false⟩, ⟨8, 12, 1, 0, 16, .rw, .s, false⟩, ⟨20, 12, 1, 0, 4080, .rw, .s, false⟩]⟩,
   ⟨0x200F0020, [], [⟨0, 1, 8, 1, 0, .w1c, .l, false⟩, ⟨16, 1, 12, 1, 0, .w1c, .l, false⟩]⟩,
   ⟨0x200F0024, [(0x4, 3)], [⟨0, 1, 32, 1, 0, .w1c, .l, false⟩]⟩,
   ⟨0x200F0040, [(0x4, 17)], [⟨0, 16, 2, 16, 0, .rw, .c, false⟩]⟩]

def regTable8 : List RegDesc :=
  [⟨0x200F0100, [(0x10, 12)], [⟨0, 16, 1, 0, 200, .rw, .c, false⟩, ⟨16, 16, 1, 0, 40, .rw, .c, false⟩]⟩,
   ⟨0x200F0104, [(0x10, 12)], [⟨0, 16, 1, 0, 1678, .rw, .c, false⟩, ⟨16, 16, 1, 0, 168, .rw, .c, false⟩]⟩,
   ⟨0x200F0108, [(0x10, 12)], [⟨0, 16, 1, 0, 30, .rw, .c, false⟩, ⟨16, 8, 1, 0, 255, .rw, .c, false⟩]⟩,
   ⟨0x200F010C, [(0x10, 12)], [⟨0, 4, 8, 4, 0, .rw, .c, false⟩]⟩,
   ⟨0x200F0400, [(0x8, 192)], [⟨0, 16, 1, 0, 0, .ro, .l, false⟩, ⟨16, 16, 1, 0, 0, .ro, .l, false⟩]⟩,
   ⟨0x200F0404, [(0x8, 192)], [⟨0, 6, 1, 0, 32, .ro, .l, false⟩, ⟨8, 8, 1, 0, 255, .ro, .l, false⟩, ⟨16, 8, 1, 0, 255, .ro, .l, false⟩, ⟨24, 8, 1, 0, 0, .ro, .l, false⟩]⟩,
   ⟨0x20100000, [], [⟨0, 1, 1, 0, 0, .rw, .l, true⟩, ⟨1, 1, 1, 0, 0, .w1s, .l, true⟩, ⟨2, 1, 1, 0, 1, .rw, .s, false⟩, ⟨3, 1, 1, 0, 1, .rw, .s, false⟩]⟩,
   ⟨0x20100004, [], [⟨0, 1, 1, 0, 0, .ro, .l, false⟩, ⟨1, 1, 1, 0, 0, .ro, .l, false⟩, ⟨2, 1, 1, 0, 0, .ro, .l, false⟩, ⟨3, 1, 1, 0, 0, .w1c, .l, false⟩, ⟨4, 1, 1, 0, 0, .w1c, .l, false⟩, ⟨5, 1, 1, 0, 0, .w1c, .l, false⟩, ⟨6, 1, 1, 0, 0, .w1c, .l, false⟩, ⟨8, 8, 1, 0, 0, .ro, .l, false⟩, ⟨16, 16, 1, 0, 0, .ro, .l, false⟩]⟩,
   ⟨0x20100008, [], [⟨0, 16, 1, 0, 1024, .rw, .s, false⟩, ⟨16, 16, 1, 0, 60, .rw, .s, false⟩]⟩,
   ⟨0x2010000C, [], [⟨0, 12, 1, 0, 131, .rw, .s, false⟩, ⟨12, 12, 1, 0, 819, .rw, .s, false⟩, ⟨24, 8, 1, 0, 200, .rw, .s, false⟩]⟩,
   ⟨0x20100010, [], [⟨0, 8, 1, 0, 10, .rw, .s, false⟩, ⟨8, 8, 1, 0, 60, .rw, .s, false⟩, ⟨16, 16, 1, 0, 0, .rw, .s, false⟩]⟩,
   ⟨0x20100014, [], [⟨0, 20, 1, 0, 800000, .rw, .s, false⟩, ⟨20, 8, 1, 0, 100, .rw, .s, false⟩]⟩,
   ⟨0x20100020, [(0x4, 3)], [⟨0, 16, 1, 0, 0, .ro, .l, false⟩, ⟨16, 16, 1, 0, 16384, .ro, .l, false⟩]⟩,
   ⟨0x20100030, [], [⟨0, 24, 1, 0, 0, .rw, .l, false⟩]⟩,
   ⟨0x20100034, [], [⟨0, 16, 1, 0, 0, .rw, .l, false⟩, ⟨16, 16, 1, 0, 16384, .rw, .l, false⟩]⟩,
   ⟨0x20100038, [], [⟨0, 32, 1, 0, 0, .rw, .l, false⟩]⟩,
   ⟨0x2010003C, [], [⟨0, 32, 1, 0, 0, .rw, .l, false⟩]⟩,
   ⟨0x20100040, [], [⟨0, 32, 1, 0, 0, .rw, .l, false⟩]⟩,
   ⟨0x20100044, [], [⟨0, 16, 1, 0, 0, .rw, .l, false⟩]⟩,
   ⟨0x20100050, [], [⟨0, 1, 1, 0, 0, .w1s, .l, true⟩, ⟨1, 1, 1, 0, 0, .w1s, .l, true⟩, ⟨2, 1, 1, 0, 0, .w1s, .l, true⟩, ⟨3, 1, 1, 0, 0, .w1s, .l, true⟩, ⟨16, 16, 1, 0, 0, .rw, .l, false⟩]⟩]

def regTable9 : List RegDesc :=
  [⟨0x20100054, [], [⟨0, 1, 1, 0, 0, .ro, .l, false⟩, ⟨1, 1, 1, 0, 0, .w1c, .l, false⟩, ⟨2, 1, 1, 0, 0, .w1c, .l, false⟩, ⟨4, 4, 1, 0, 0, .ro, .l, false⟩, ⟨8, 4, 1, 0, 0, .ro, .l, false⟩]⟩,
   ⟨0x20100080, [], [⟨0, 8, 1, 0, 0, .rw, .l, false⟩, ⟨8, 11, 1, 0, 0, .rw, .l, false⟩, ⟨24, 1, 1, 0, 0, .w1s, .l, true⟩, ⟨25, 1, 1, 0, 0, .w1s, .l, true⟩]⟩,
   ⟨0x20100084, [], [⟨0, 1, 1, 0, 0, .ro, .l, false⟩, ⟨1, 1, 1, 0, 0, .w1c, .l, false⟩, ⟨2, 1, 1, 0, 0, .w1c, .l, false⟩, ⟨8, 8, 1, 0, 0, .ro, .l, false⟩, ⟨16, 11, 1, 0, 0, .ro, .l, false⟩]⟩,
   ⟨0x20100088, [], [⟨0, 32, 1, 0, 0, .ro, .l, false⟩]⟩,
   ⟨0x20110000, [(0x10000, 2)], [⟨0, 1, 1, 0, 0, .rw, .l, true⟩, ⟨1, 1, 1, 0, 0, .rw, .s, false⟩, ⟨2, 1, 1, 0, 1, .rw, .s, false⟩, ⟨3, 1, 1, 0, 1, .rw, .s, false⟩, ⟨4, 1, 1, 0, 0, .rw, .s, false⟩, ⟨5, 1, 1, 0, 0, .rw, .s, false⟩, ⟨6, 1, 1, 0, 0, .rw, .s, false⟩, ⟨7, 1, 1, 0, 0, .w1s, .l, true⟩, ⟨8, 1, 1, 0, 0, .w1s, .l, true⟩]⟩,
   ⟨0x20110004, [(0x10000, 2)], [⟨0, 1, 1, 0, 0, .ro, .l, false⟩, ⟨1, 2, 1, 0, 0, .ro, .l, false⟩, ⟨3, 1, 1, 0, 0, .ro, .l, false⟩, ⟨4, 1, 1, 0, 0, .w1c, .l, false⟩, ⟨5, 1, 1, 0, 0, .w1c, .l, false⟩, ⟨6, 1, 1, 0, 0, .w1c, .l, false⟩, ⟨7, 1, 1, 0, 0, .w1c, .l, false⟩]⟩,
   ⟨0x20110008, [(0x10000, 2)], [⟨0, 32, 1, 0, 0, .rw, .s, false⟩]⟩,
   ⟨0x2011000C, [(0x10000, 2)], [⟨0, 16, 1, 0, 0, .rw, .s, false⟩]⟩,
   ⟨0x20110010, [(0x10000, 2)], [⟨0, 14, 1, 0, 1522, .rw, .s, false⟩, ⟨16, 1, 1, 0, 1, .rw, .s, false⟩]⟩,
   ⟨0x20110020, [(0x10000, 2), (0x4, 8)], [⟨0, 12, 2, 16, 0, .rw, .s, false⟩, ⟨15, 1, 2, 16, 0, .rw, .s, false⟩]⟩,
   ⟨0x20110040, [(0x10000, 2)], [⟨0, 1, 32, 1, 0, .rw, .s, false⟩]⟩,
   ⟨0x20110044, [(0x10000, 2)], [⟨0, 1, 32, 1, 0, .rw, .s, false⟩]⟩,
   ⟨0x20110050, [(0x10000, 2)], [⟨0, 4, 1, 0, 4, .rw, .s, false⟩, ⟨6, 26, 1, 0, 0, .rw, .s, false⟩]⟩,
   ⟨0x20110058, [(0x10000, 2)], [⟨0, 4, 1, 0, 4, .rw, .s, false⟩, ⟨6, 26, 1, 0, 0, .rw, .s, false⟩]⟩,
   ⟨0x20110054, [(0x10000, 2)], [⟨0, 16, 1, 0, 10, .rw, .l, false⟩]⟩,
   ⟨0x2011005C, [(0x10000, 2)], [⟨0, 10, 1, 0, 0, .ro, .l, false⟩, ⟨16, 10, 1, 0, 0, .ro, .l, false⟩]⟩,
   ⟨0x20110080, [(0x10000, 2)], [⟨0, 16, 1, 0, 0, .rw, .l, false⟩, ⟨16, 16, 1, 0, 0, .rw, .l, false⟩]⟩,
   ⟨0x20110090, [(0x10000, 2)], [⟨0, 16, 1, 0, 400, .rw, .s, false⟩, ⟨16, 16, 1, 0, 0, .ro, .l, false⟩]⟩,
   ⟨0x201100A0, [(0x10000, 2)], [⟨0, 5, 1, 0, 0, .rw, .l, false⟩, ⟨5, 5, 1, 0, 0, .rw, .l, false⟩, ⟨10, 2, 1, 0, 0, .rw, .l, false⟩, ⟨12, 1, 1, 0, 0, .rw, .l, false⟩, ⟨16, 8, 1, 0, 79, .rw, .l, false⟩, ⟨31, 1, 1, 0, 0, .w1s, .l, true⟩]⟩,
   ⟨0x201100A4, [(0x10000, 2)], [⟨0, 16, 1, 0, 0, .rw, .l, false⟩]⟩]

def regTable10 : List RegDesc :=
  [⟨0x201100A8, [(0x10000, 2)], [⟨0, 1, 1, 0, 1, .rw, .l, false⟩, ⟨1, 1, 1, 0, 1, .rw, .l, false⟩]⟩,
   ⟨0x20110100, [(0x10000, 2)], [⟨0, 16, 1, 0, 0, .ro, .l, false⟩, ⟨16, 16, 1, 0, 0, .ro, .l, false⟩]⟩,
   ⟨0x20110104, [(0x10000, 2)], [⟨0, 16, 1, 0, 0, .ro, .l, false⟩, ⟨16, 16, 1, 0, 0, .ro, .l, false⟩]⟩,
   ⟨0x20110108, [(0x10000, 2)], [⟨0, 16, 1, 0, 0, .ro, .l, false⟩, ⟨16, 16, 1, 0, 0, .ro, .l, false⟩]⟩,
   ⟨0x2011010C, [(0x10000, 2)], [⟨0, 16, 1, 0, 0, .ro, .l, false⟩, ⟨16, 8, 1, 0, 0, .ro, .l, false⟩, ⟨24, 8, 1, 0, 0, .ro, .l, false⟩]⟩,
   ⟨0x20130000, [], [⟨0, 1, 1, 0, 0, .rw, .l, true⟩]⟩,
   ⟨0x20130004, [], [⟨0, 1, 1, 0, 0, .ro, .l, false⟩, ⟨1, 1, 1, 0, 0, .ro, .l, false⟩, ⟨2, 1, 1, 0, 0, .ro, .l, false⟩, ⟨3, 1, 1, 0, 0, .ro, .l, false⟩, ⟨4, 1, 1, 0, 0, .ro, .l, false⟩, ⟨5, 1, 1, 0, 0, .w1c, .l, false⟩, ⟨6, 1, 2, 1, 0, .w1c, .l, false⟩, ⟨8, 1, 4, 1, 0, .w1c, .l, false⟩]⟩,
   ⟨0x20130008, [], [⟨0, 32, 1, 0, 0, .ro, .l, false⟩]⟩,
   ⟨0x20130010, [], [⟨0, 1, 1, 0, 0, .rw, .l, false⟩, ⟨1, 1, 1, 0, 0, .rw, .l, false⟩, ⟨2, 10, 1, 0, 100, .rw, .l, false⟩, ⟨16, 16, 1, 0, 0, .rw, .l, false⟩]⟩,
   ⟨0x20130020, [], [⟨0, 2, 4, 4, 0, .rw, .l, false⟩, ⟨2, 1, 4, 4, 0, .rw, .l, false⟩]⟩,
   ⟨0x20130030, [(0x8, 4)], [⟨0, 32, 1, 0, 0, .ro, .l, false⟩]⟩,
   ⟨0x20130034, [(0x8, 4)], [⟨0, 16, 1, 0, 0, .ro, .l, false⟩, ⟨16, 1, 1, 0, 0, .ro, .l, false⟩, ⟨17, 1, 1, 0, 0, .ro, .l, false⟩, ⟨24, 4, 1, 0, 0, .ro, .l, false⟩, ⟨31, 1, 1, 0, 0, .ro, .l, false⟩]⟩,
   ⟨0x20130100, [(0x40, 2)], [⟨0, 1, 1, 0, 0, .rw, .l, true⟩, ⟨1, 1, 1, 0, 0, .w1s, .l, true⟩, ⟨2, 1, 1, 0, 0, .w1s, .l, true⟩]⟩,
   ⟨0x20130104, [(0x40, 2)], [⟨0, 32, 1, 0, 671088640, .rw, .l, false⟩]⟩,
   ⟨0x20130108, [(0x40, 2)], [⟨0, 32, 1, 0, 0, .ro, .l, false⟩]⟩,
   ⟨0x2013010C, [(0x40, 2)], [⟨0, 32, 1, 0, 0, .ro, .l, false⟩]⟩,
   ⟨0x20130110, [(0x40, 2)], [⟨0, 16, 1, 0, 0, .ro, .l, false⟩]⟩,
   ⟨0x20130114, [(0x40, 2)], [⟨0, 32, 1, 0, 0, .rw, .l, false⟩]⟩,
   ⟨0x20130118, [(0x40, 2)], [⟨0, 32, 1, 0, 0, .rw, .l, false⟩]⟩,
   ⟨0x2013011C, [(0x40, 2)], [⟨0, 16, 1, 0, 0, .rw, .l, false⟩]⟩]

def regTable11 : List RegDesc :=
  [⟨0x20130200, [(0x20, 2)], [⟨0, 1, 1, 0, 0, .rw, .l, false⟩, ⟨1, 1, 1, 0, 0, .rw, .l, false⟩, ⟨2, 2, 1, 0, 0, .rw, .l, false⟩, ⟨16, 16, 1, 0, 100, .rw, .l, false⟩]⟩,
   ⟨0x20130204, [(0x20, 2)], [⟨0, 30, 1, 0, 0, .rw, .l, false⟩]⟩,
   ⟨0x20130208, [(0x20, 2)], [⟨0, 32, 1, 0, 0, .rw, .l, false⟩]⟩,
   ⟨0x2013020C, [(0x20, 2)], [⟨0, 32, 1, 0, 0, .rw, .l, false⟩]⟩,
   ⟨0x20140000, [], [⟨0, 1, 1, 0, 0, .w1s, .l, true⟩, ⟨1, 1, 1, 0, 0, .w1s, .l, true⟩, ⟨2, 1, 1, 0, 0, .rw, .l, true⟩, ⟨3, 1, 1, 0, 0, .rw, .l, true⟩, ⟨4, 1, 1, 0, 0, .w1s, .l, true⟩, ⟨5, 1, 1, 0, 0, .w1s, .l, true⟩, ⟨6, 1, 1, 0, 0, .w1s, .l, true⟩]⟩,
   ⟨0x20140004, [], [⟨0, 2, 1, 0, 3, .ro, .l, false⟩, ⟨2, 1, 1, 0, 0, .ro, .l, false⟩, ⟨3, 1, 1, 0, 0, .ro, .l, false⟩, ⟨4, 1, 1, 0, 0, .ro, .l, false⟩, ⟨5, 1, 1, 0, 0, .ro, .l, false⟩, ⟨6, 1, 1, 0, 0, .ro, .l, false⟩, ⟨7, 1, 1, 0, 0, .ro, .l, false⟩, ⟨8, 1, 1, 0, 0, .ro, .l, false⟩, ⟨9, 1, 1, 0, 1, .ro, .l, false⟩, ⟨10, 1, 1, 0, 0, .ro, .l, false⟩, ⟨11, 1, 1, 0, 0, .ro, .l, false⟩, ⟨12, 1, 1, 0, 0, .ro, .l, false⟩, ⟨13, 1, 1, 0, 0, .w1c, .l, false⟩, ⟨14, 1, 1, 0, 0, .ro, .l, false⟩, ⟨15, 1, 1, 0, 0, .ro, .l, false⟩]⟩,
   ⟨0x20140008, [], [⟨0, 8, 1, 0, 0, .ro, .l, false⟩, ⟨8, 8, 1, 0, 0, .ro, .l, false⟩, ⟨16, 1, 8, 1, 0, .ro, .l, false⟩]⟩,
   ⟨0x2014000C, [], [⟨0, 4, 1, 0, 0, .ro, .l, false⟩, ⟨4, 1, 1, 0, 0, .ro, .l, false⟩, ⟨5, 1, 1, 0, 0, .ro, .l, false⟩, ⟨8, 10, 1, 0, 0, .ro, .l, false⟩, ⟨18, 10, 1, 0, 0, .ro, .l, false⟩]⟩,
   ⟨0x20140010, [], [⟨0, 10, 1, 0, 250, .rw, .s, false⟩, ⟨16, 10, 1, 0, 20, .rw, .s, false⟩]⟩,
   ⟨0x20140014, [], [⟨0, 10, 1, 0, 0, .ro, .l, false⟩, ⟨16, 9, 1, 0, 0, .ro, .l, false⟩, ⟨25, 1, 1, 0, 0, .ro, .l, false⟩, ⟨26, 2, 1, 0, 0, .ro, .l, false⟩]⟩,
   ⟨0x20140020, [(0x8, 4)], [⟨0, 8, 1, 0, 0, .rw, .s, false⟩, ⟨16, 14, 1, 0, 0, .rw, .s, false⟩]⟩,
   ⟨0x20140024, [(0x8, 4)], [⟨0, 8, 1, 0, 0, .rw, .s, false⟩, ⟨16, 14, 1, 0, 0, .rw, .s, false⟩]⟩,
   ⟨0x20140040, [], [⟨0, 8, 1, 0, 0, .ro, .l, false⟩, ⟨16, 14, 1, 0, 0, .ro, .l, false⟩]⟩,
   ⟨0x20140050, [], [⟨0, 16, 1, 0, 47264, .rw, .s, false⟩, ⟨16, 16, 1, 0, 34997, .rw, .s, false⟩]⟩,
   ⟨0x20140054, [], [⟨0, 8, 1, 0, 5, .rw, .s, false⟩, ⟨8, 8, 1, 0, 100, .rw, .s, false⟩, ⟨16, 16, 1, 0, 250, .rw, .s, false⟩]⟩,
   ⟨0x20140058, [], [⟨0, 32, 1, 0, 0, .rw, .s, false⟩]⟩,
   ⟨0x2014005C, [], [⟨0, 1, 1, 0, 0, .ro, .l, false⟩, ⟨1, 1, 1, 0, 0, .ro, .l, false⟩, ⟨2, 1, 1, 0, 0, .w1c, .l, false⟩, ⟨8, 8, 1, 0, 0, .ro, .l, false⟩, ⟨16, 16, 1, 0, 0, .ro, .l, false⟩]⟩,
   ⟨0x20140060, [], [⟨0, 16, 1, 0, 0, .ro, .l, false⟩, ⟨16, 16, 1, 0, 0, .ro, .l, false⟩]⟩,
   ⟨0x20140064, [], [⟨0, 16, 1, 0, 0, .ro, .l, false⟩, ⟨16, 16, 1, 0, 0, .ro, .l, false⟩]⟩,
   ⟨0x20140070, [], [⟨0, 9, 1, 0, 0, .ro, .l, false⟩, ⟨16, 16, 1, 0, 0, .ro, .l, false⟩]⟩]

def regTable12 : List RegDesc :=
  [⟨0x20140074, [], [⟨0, 32, 1, 0, 0, .ro, .l, false⟩]⟩,
   ⟨0x20140078, [], [⟨0, 32, 1, 0, 0, .ro, .l, false⟩]⟩,
   ⟨0x2014007C, [], [⟨0, 1, 1, 0, 0, .w1s, .l, true⟩]⟩,
   ⟨0x20140080, [], [⟨0, 8, 1, 0, 0, .rw, .s, false⟩]⟩,
   ⟨0x20140100, [(0x4, 64)], [⟨0, 32, 1, 0, 0, .ro, .l, false⟩]⟩,
   ⟨0x20140200, [(0x10, 8)], [⟨0, 1, 1, 0, 0, .rw, .l, true⟩, ⟨6, 26, 1, 0, 0, .rw, .l, true⟩]⟩,
   ⟨0x20140204, [(0x10, 8)], [⟨6, 26, 1, 0, 0, .rw, .l, false⟩]⟩,
   ⟨0x20140208, [(0x10, 8)], [⟨0, 4, 1, 0, 0, .rw, .l, false⟩, ⟨8, 4, 1, 0, 0, .rw, .l, false⟩]⟩,
   ⟨0x20040000, [], [⟨0, 1, 1, 0, 0, .w1s, .l, true⟩]⟩,
   ⟨0x20040004, [], [⟨0, 1, 1, 0, 0, .w1c, .l, false⟩, ⟨1, 1, 1, 0, 0, .ro, .l, false⟩, ⟨2, 1, 1, 0, 0, .ro, .l, false⟩, ⟨3, 1, 1, 0, 0, .ro, .l, false⟩, ⟨8, 16, 1, 0, 0, .ro, .l, false⟩]⟩,
   ⟨0x20040008, [], [⟨0, 5, 1, 0, 0, .w1s, .l, true⟩]⟩,
   ⟨0x2004000C, [], [⟨0, 1, 1, 0, 0, .w1s, .l, true⟩, ⟨1, 1, 1, 0, 0, .rw, .l, false⟩]⟩,
   ⟨0x20040010, [], [⟨0, 16, 1, 0, 6144, .rw, .l, false⟩]⟩,
   ⟨0x20040014, [], [⟨0, 3, 1, 0, 0, .rw, .l, false⟩, ⟨31, 1, 1, 0, 0, .w1s, .l, true⟩]⟩,
   ⟨0x20040018, [], [⟨0, 32, 1, 0, 0, .rw, .l, false⟩]⟩,
   ⟨0x20040020, [(0x4, 3)], [⟨0, 1, 32, 1, 0, .w1c, .l, true⟩]⟩,
   ⟨0x20040030, [(0x4, 3)], [⟨0, 1, 32, 1, 0, .ro, .l, false⟩]⟩,
   ⟨0x20040050, [(0x4, 5)], [⟨0, 6, 1, 0, 0, .rw, .l, false⟩]⟩,
   ⟨0x20040070, [], [⟨0, 1, 16, 1, 0, .w1c, .l, true⟩, ⟨16, 1, 16, 1, 0, .ro, .l, false⟩]⟩,
   ⟨0x20040074, [], [⟨0, 1, 2, 1, 0, .w1c, .l, true⟩]⟩]

def regTable13 : List RegDesc :=
  [⟨0x20040078, [], [⟨0, 32, 1, 0, 0, .ro, .l, false⟩]⟩,
   ⟨0x20040080, [(0x4, 6)], [⟨0, 1, 32, 1, 0, .w1c, .l, true⟩]⟩,
   ⟨0x20040100, [(0x20, 5)], [⟨0, 7, 1, 0, 0, .ro, .l, false⟩, ⟨7, 1, 1, 0, 0, .ro, .l, false⟩, ⟨8, 8, 1, 0, 0, .ro, .l, false⟩, ⟨16, 4, 1, 0, 0, .ro, .l, false⟩, ⟨20, 4, 1, 0, 0, .ro, .l, false⟩, ⟨24, 2, 1, 0, 0, .ro, .l, false⟩, ⟨26, 1, 1, 0, 0, .ro, .l, false⟩, ⟨27, 1, 1, 0, 0, .ro, .l, false⟩]⟩,
   ⟨0x20040104, [(0x20, 5)], [⟨0, 32, 1, 0, 0, .ro, .l, false⟩]⟩,
   ⟨0x20040108, [(0x20, 5)], [⟨0, 4, 1, 0, 0, .ro, .l, false⟩]⟩,
   ⟨0x2004010C, [(0x20, 5)], [⟨0, 32, 1, 0, 0, .ro, .l, false⟩]⟩,
   ⟨0x20040110, [(0x20, 5)], [⟨0, 32, 1, 0, 0, .ro, .l, false⟩]⟩,
   ⟨0x20040114, [(0x20, 5)], [⟨0, 16, 1, 0, 0, .ro, .l, false⟩]⟩,
   ⟨0x20040400, [(0x4, 96)], [⟨0, 3, 1, 0, 0, .rw, .l, false⟩, ⟨4, 6, 1, 0, 0, .rw, .l, false⟩, ⟨12, 1, 1, 0, 0, .ro, .l, false⟩]⟩,
   ⟨0x20030000, [], [⟨0, 1, 1, 0, 0, .w1c, .l, false⟩]⟩,
   ⟨0x20030100, [(0x4, 4)], [⟨0, 1, 32, 1, 0, .w1c, .l, true⟩]⟩,
   ⟨0x20030110, [(0x4, 4)], [⟨0, 1, 32, 1, 0, .wo, .l, true⟩]⟩,
   ⟨0x20030120, [(0x4, 4)], [⟨0, 1, 32, 1, 0, .ro, .l, false⟩]⟩,
   ⟨0x20030130, [], [⟨0, 32, 1, 0, 0, .ro, .l, false⟩]⟩,
   ⟨0x20031000, [(0x10, 128)], [⟨0, 1, 1, 0, 0, .rw, .l, false⟩, ⟨1, 1, 1, 0, 0, .rw, .l, false⟩, ⟨4, 4, 1, 0, 0, .rw, .l, false⟩, ⟨8, 4, 1, 0, 0, .rw, .l, true⟩, ⟨12, 4, 1, 0, 0, .rw, .l, true⟩, ⟨16, 16, 1, 0, 0, .rw, .l, false⟩]⟩,
   ⟨0x20031004, [(0x10, 128)], [⟨1, 31, 1, 0, 0, .rw, .l, false⟩]⟩,
   ⟨0x20030800, [(0x40, 16)], [⟨0, 1, 1, 0, 0, .rw, .l, true⟩, ⟨1, 1, 1, 0, 0, .rw, .l, true⟩, ⟨4, 4, 1, 0, 0, .rw, .l, false⟩]⟩,
   ⟨0x20030804, [(0x40, 16)], [⟨1, 31, 1, 0, 0, .rw, .l, false⟩]⟩,
   ⟨0x20030808, [(0x40, 16)], [⟨1, 31, 1, 0, 0, .rw, .l, false⟩]⟩,
   ⟨0x2003080C, [(0x40, 16)], [⟨0, 5, 1, 0, 0, .ro, .l, false⟩, ⟨8, 7, 1, 0, 0, .ro, .l, false⟩, ⟨16, 5, 1, 0, 31, .ro, .l, false⟩, ⟨21, 1, 1, 0, 0, .ro, .l, false⟩, ⟨22, 1, 1, 0, 0, .ro, .l, false⟩, ⟨23, 1, 1, 0, 0, .ro, .l, false⟩, ⟨24, 1, 1, 0, 0, .ro, .l, false⟩]⟩]

def regTable14 : List RegDesc :=
  [⟨0x20030810, [(0x40, 16)], [⟨0, 4, 1, 0, 0, .wo, .l, true⟩]⟩,
   ⟨0x20030814, [(0x40, 16)], [⟨0, 1, 1, 0, 0, .w1s, .l, true⟩, ⟨1, 1, 1, 0, 0, .rw, .l, false⟩]⟩,
   ⟨0x20030818, [(0x40, 16)], [⟨0, 16, 1, 0, 10000, .rw, .l, false⟩, ⟨16, 16, 1, 0, 20000, .rw, .l, false⟩]⟩,
   ⟨0x2003081C, [(0x40, 16)], [⟨0, 32, 1, 0, 0, .wo, .l, true⟩]⟩,
   ⟨0x20170000, [(0x100, 2)], [⟨0, 1, 1, 0, 0, .rw, .l, false⟩, ⟨1, 1, 1, 0, 0, .rw, .s, false⟩, ⟨2, 2, 1, 0, 0, .rw, .s, false⟩, ⟨4, 3, 1, 0, 0, .rw, .l, false⟩, ⟨16, 16, 1, 0, 217, .rw, .s, false⟩]⟩,
   ⟨0x20170004, [(0x100, 2)], [⟨0, 1, 1, 0, 0, .ro, .l, false⟩, ⟨1, 1, 1, 0, 1, .ro, .l, false⟩, ⟨2, 1, 1, 0, 0, .w1c, .l, false⟩, ⟨3, 1, 1, 0, 0, .ro, .l, false⟩]⟩,
   ⟨0x20170008, [(0x100, 2)], [⟨0, 8, 1, 0, 0, .rw, .l, true⟩]⟩,
   ⟨0x20170200, [], [⟨0, 1, 1, 0, 0, .rw, .l, false⟩, ⟨1, 2, 1, 0, 0, .rw, .s, false⟩, ⟨3, 3, 1, 0, 0, .rw, .l, false⟩]⟩,
   ⟨0x20170300, [], [⟨0, 1, 1, 0, 0, .rw, .l, false⟩, ⟨1, 2, 1, 0, 0, .rw, .s, false⟩, ⟨3, 3, 1, 0, 0, .rw, .l, false⟩]⟩,
   ⟨0x20180100, [], [⟨0, 1, 1, 0, 0, .rw, .l, false⟩, ⟨1, 2, 1, 0, 0, .rw, .s, false⟩, ⟨3, 3, 1, 0, 0, .rw, .l, false⟩]⟩,
   ⟨0x20170204, [], [⟨0, 7, 1, 0, 0, .rw, .l, false⟩, ⟨7, 1, 1, 0, 0, .rw, .l, false⟩, ⟨8, 8, 1, 0, 0, .rw, .l, false⟩, ⟨16, 1, 1, 0, 1, .rw, .l, false⟩, ⟨31, 1, 1, 0, 0, .w1s, .l, true⟩]⟩,
   ⟨0x20170304, [], [⟨0, 7, 1, 0, 0, .rw, .l, false⟩, ⟨7, 1, 1, 0, 0, .rw, .l, false⟩, ⟨8, 8, 1, 0, 0, .rw, .l, false⟩, ⟨16, 1, 1, 0, 1, .rw, .l, false⟩, ⟨31, 1, 1, 0, 0, .w1s, .l, true⟩]⟩,
   ⟨0x20180104, [], [⟨0, 7, 1, 0, 0, .rw, .l, false⟩, ⟨7, 1, 1, 0, 0, .rw, .l, false⟩, ⟨8, 8, 1, 0, 0, .rw, .l, false⟩, ⟨16, 1, 1, 0, 1, .rw, .l, false⟩, ⟨31, 1, 1, 0, 0, .w1s, .l, true⟩]⟩,
   ⟨0x20170208, [], [⟨0, 1, 1, 0, 0, .w1c, .l, false⟩, ⟨1, 1, 1, 0, 0, .w1c, .l, false⟩, ⟨2, 1, 1, 0, 0, .w1c, .l, false⟩, ⟨3, 1, 1, 0, 0, .ro, .l, false⟩, ⟨8, 4, 1, 0, 0, .ro, .l, false⟩, ⟨12, 4, 1, 0, 8, .ro, .l, false⟩]⟩,
   ⟨0x20170308, [], [⟨0, 1, 1, 0, 0, .w1c, .l, false⟩, ⟨1, 1, 1, 0, 0, .w1c, .l, false⟩, ⟨2, 1, 1, 0, 0, .w1c, .l, false⟩, ⟨3, 1, 1, 0, 0, .ro, .l, false⟩, ⟨8, 4, 1, 0, 0, .ro, .l, false⟩, ⟨12, 4, 1, 0, 8, .ro, .l, false⟩]⟩,
   ⟨0x20180108, [], [⟨0, 1, 1, 0, 0, .w1c, .l, false⟩, ⟨1, 1, 1, 0, 0, .w1c, .l, false⟩, ⟨2, 1, 1, 0, 0, .w1c, .l, false⟩, ⟨3, 1, 1, 0, 0, .ro, .l, false⟩, ⟨8, 4, 1, 0, 0, .ro, .l, false⟩, ⟨12, 4, 1, 0, 8, .ro, .l, false⟩]⟩,
   ⟨0x2017020C, [], [⟨0, 8, 1, 0, 0, .rw, .l, true⟩]⟩,
   ⟨0x2017030C, [], [⟨0, 8, 1, 0, 0, .rw, .l, true⟩]⟩,
   ⟨0x2018010C, [], [⟨0, 8, 1, 0, 0, .rw, .l, true⟩]⟩,
   ⟨0x20170400, [], [⟨0, 1, 1, 0, 0, .rw, .l, false⟩, ⟨1, 2, 1, 0, 0, .rw, .s, false⟩, ⟨3, 2, 1, 0, 0, .rw, .s, false⟩, ⟨5, 1, 1, 0, 0, .rw, .l, false⟩, ⟨6, 1, 1, 0, 0, .rw, .l, false⟩, ⟨8, 8, 1, 0, 7, .rw, .s, false⟩]⟩]

def regTable15 : List RegDesc :=
  [⟨0x20170404, [], [⟨0, 1, 1, 0, 0, .w1c, .l, false⟩, ⟨1, 1, 1, 0, 0, .ro, .l, false⟩, ⟨2, 1, 1, 0, 0, .w1c, .l, false⟩]⟩,
   ⟨0x20170408, [], [⟨0, 32, 1, 0, 0, .rw, .l, true⟩]⟩,
   ⟨0x20170500, [], [⟨0, 1, 16, 1, 0, .rw, .l, false⟩, ⟨16, 1, 16, 1, 0, .rw, .l, false⟩]⟩,
   ⟨0x20170504, [], [⟨0, 1, 16, 1, 0, .ro, .l, false⟩, ⟨16, 1, 16, 1, 0, .w1c, .l, false⟩]⟩,
   ⟨0x20170508, [], [⟨0, 2, 16, 2, 0, .rw, .l, false⟩]⟩,
   ⟨0x2017050C, [], [⟨0, 1, 16, 1, 0, .rw, .l, false⟩]⟩,
   ⟨0x20170600, [], [⟨0, 32, 1, 0, 0, .ro, .l, false⟩]⟩,
   ⟨0x20170604, [], [⟨0, 32, 1, 0, 0, .ro, .l, false⟩]⟩,
   ⟨0x20170610, [(0x8, 4)], [⟨0, 1, 1, 0, 0, .rw, .l, true⟩, ⟨1, 1, 1, 0, 0, .rw, .l, false⟩, ⟨2, 1, 1, 0, 0, .w1c, .l, false⟩, ⟨3, 1, 1, 0, 0, .rw, .l, false⟩]⟩,
   ⟨0x20170614, [(0x8, 4)], [⟨0, 32, 1, 0, 0, .rw, .l, false⟩]⟩,
   ⟨0x20170700, [], [⟨0, 4, 8, 4, 0, .rw, .l, false⟩]⟩,
   ⟨0x20170704, [], [⟨0, 4, 3, 4, 0, .rw, .l, false⟩]⟩,
   ⟨0x20060000, [], [⟨0, 1, 1, 0, 0, .rw, .l, true⟩, ⟨1, 1, 1, 0, 0, .w1s, .l, true⟩, ⟨2, 1, 1, 0, 1, .rw, .l, false⟩, ⟨4, 2, 1, 0, 0, .rw, .s, false⟩, ⟨6, 2, 1, 0, 0, .rw, .s, false⟩]⟩,
   ⟨0x20060004, [], [⟨0, 3, 1, 0, 0, .ro, .l, false⟩, ⟨3, 1, 1, 0, 0, .w1c, .l, false⟩, ⟨4, 1, 1, 0, 0, .w1c, .l, false⟩, ⟨5, 1, 1, 0, 0, .w1c, .l, false⟩, ⟨6, 1, 1, 0, 0, .ro, .l, false⟩]⟩,
   ⟨0x20060008, [], [⟨0, 16, 1, 0, 0, .ro, .l, false⟩, ⟨16, 16, 1, 0, 0, .ro, .l, false⟩]⟩,
   ⟨0x2006000C, [], [⟨0, 32, 1, 0, 0, .ro, .l, false⟩]⟩,
   ⟨0x20060010, [], [⟨0, 4, 1, 0, 0, .ro, .l, false⟩]⟩,
   ⟨0x20060014, [], [⟨0, 8, 1, 0, 24, .rw, .l, false⟩, ⟨8, 16, 1, 0, 100, .rw, .l, false⟩]⟩,
   ⟨0x20060018, [], [⟨0, 16, 1, 0, 0, .ro, .l, false⟩, ⟨16, 4, 1, 0, 0, .ro, .l, false⟩, ⟨20, 1, 1, 0, 0, .w1c, .l, false⟩]⟩,
   ⟨0x20070000, [], [⟨0, 1, 1, 0, 0, .rw, .l, true⟩, ⟨1, 1, 1, 0, 0, .w1s, .l, true⟩]⟩]

def regTable16 : List RegDesc :=
  [⟨0x20070004, [], [⟨0, 5, 1, 0, 18, .rw, .s, false⟩, ⟨8, 11, 1, 0, 1024, .rw, .s, false⟩]⟩,
   ⟨0x20070008, [], [⟨16, 16, 1, 0, 0, .rw, .s, false⟩]⟩,
   ⟨0x2007000C, [], [⟨0, 4, 1, 0, 0, .rw, .s, false⟩]⟩,
   ⟨0x20070010, [], [⟨0, 1, 1, 0, 0, .w1c, .l, false⟩, ⟨1, 3, 1, 0, 0, .ro, .l, false⟩, ⟨4, 1, 1, 0, 0, .ro, .l, false⟩, ⟨16, 10, 1, 0, 0, .ro, .l, false⟩]⟩,
   ⟨0x20070014, [], [⟨0, 10, 1, 0, 0, .rw, .l, false⟩, ⟨16, 4, 1, 0, 0, .rw, .l, false⟩, ⟨31, 1, 1, 0, 0, .w1s, .l, true⟩]⟩,
   ⟨0x20070040, [(0x4, 16)], [⟨0, 16, 1, 0, 0, .rw, .l, false⟩]⟩,
   ⟨0x20070100, [(0x4, 128)], [⟨0, 4, 8, 4, 0, .ro, .l, false⟩]⟩,
   ⟨0x20070800, [(0x20, 4)], [⟨6, 26, 1, 0, 0, .rw, .l, false⟩]⟩,
   ⟨0x20070804, [(0x20, 4)], [⟨6, 26, 1, 0, 0, .rw, .l, false⟩]⟩,
   ⟨0x20070808, [(0x20, 4)], [⟨0, 4, 1, 0, 0, .rw, .l, false⟩, ⟨8, 4, 1, 0, 0, .rw, .l, false⟩]⟩,
   ⟨0x2007080C, [(0x20, 4)], [⟨6, 19, 1, 0, 0, .rw, .l, false⟩]⟩,
   ⟨0x20070810, [(0x20, 4)], [⟨0, 1, 1, 0, 0, .w1s, .l, true⟩, ⟨4, 4, 1, 0, 0, .rw, .l, false⟩, ⟨8, 4, 1, 0, 15, .rw, .l, false⟩, ⟨16, 16, 1, 0, 10000, .rw, .l, false⟩]⟩,
   ⟨0x20070814, [(0x20, 4)], [⟨0, 1, 1, 0, 0, .w1c, .l, false⟩, ⟨1, 1, 1, 0, 0, .w1c, .l, false⟩, ⟨2, 1, 1, 0, 0, .w1c, .l, false⟩]⟩,
   ⟨0x20050000, [(0x40, 4)], [⟨0, 1, 1, 0, 0, .w1s, .l, true⟩, ⟨1, 1, 1, 0, 0, .w1s, .l, true⟩, ⟨2, 2, 1, 0, 0, .rw, .l, false⟩, ⟨4, 1, 1, 0, 1, .rw, .l, false⟩, ⟨5, 2, 1, 0, 0, .rw, .l, false⟩, ⟨8, 4, 1, 0, 0, .rw, .l, false⟩, ⟨16, 16, 1, 0, 0, .rw, .l, false⟩]⟩,
   ⟨0x20050004, [(0x40, 4)], [⟨0, 1, 1, 0, 0, .ro, .l, false⟩, ⟨1, 1, 1, 0, 0, .ro, .l, false⟩, ⟨2, 1, 1, 0, 0, .w1c, .l, false⟩, ⟨3, 1, 1, 0, 0, .w1c, .l, false⟩, ⟨4, 1, 1, 0, 0, .w1c, .l, false⟩, ⟨5, 1, 1, 0, 0, .w1c, .l, false⟩, ⟨6, 1, 1, 0, 0, .w1c, .l, false⟩]⟩,
   ⟨0x20050008, [(0x40, 4)], [⟨0, 32, 1, 0, 0, .rw, .l, false⟩]⟩,
   ⟨0x2005000C, [(0x40, 4)], [⟨0, 32, 1, 0, 0, .rw, .l, false⟩]⟩,
   ⟨0x20050010, [(0x40, 4)], [⟨0, 32, 1, 0, 0, .rw, .l, false⟩]⟩,
   ⟨0x20050014, [(0x40, 4)], [⟨0, 32, 1, 0, 0, .ro, .l, false⟩]⟩,
   ⟨0x20050018, [(0x40, 4)], [⟨0, 16, 1, 0, 0, .rw, .l, false⟩, ⟨16, 1, 1, 0, 0, .rw, .l, false⟩]⟩]

def regTable17 : List RegDesc :=
  [⟨0x2005001C, [(0x40, 4)], [⟨0, 32, 1, 0, 0, .rw, .l, false⟩]⟩,
   ⟨0x20150000, [], [⟨0, 1, 1, 0, 0, .rw, .l, true⟩, ⟨1, 1, 1, 0, 1, .rw, .s, false⟩, ⟨2, 1, 1, 0, 1, .rw, .l, false⟩, ⟨3, 1, 1, 0, 0, .rw, .l, false⟩, ⟨4, 1, 1, 0, 0, .w1s, .l, true⟩]⟩,
   ⟨0x20150004, [], [⟨0, 2, 1, 0, 0, .ro, .l, false⟩, ⟨2, 1, 1, 0, 0, .ro, .l, false⟩, ⟨3, 1, 1, 0, 0, .ro, .l, false⟩, ⟨4, 1, 1, 0, 0, .ro, .l, false⟩, ⟨5, 1, 1, 0, 0, .w1c, .l, false⟩, ⟨6, 1, 1, 0, 0, .w1c, .l, false⟩, ⟨7, 1, 1, 0, 0, .w1c, .l, false⟩, ⟨8, 1, 1, 0, 0, .w1c, .l, false⟩, ⟨9, 3, 1, 0, 0, .ro, .l, false⟩]⟩,
   ⟨0x20150008, [], [⟨0, 4, 1, 0, 3, .rw, .s, false⟩, ⟨4, 8, 1, 0, 8, .rw, .s, false⟩, ⟨16, 16, 1, 0, 500, .rw, .s, false⟩]⟩,
   ⟨0x2015000C, [], [⟨0, 7, 1, 0, 127, .rw, .s, false⟩]⟩,
   ⟨0x20150010, [], [⟨0, 10, 1, 0, 0, .rw, .l, false⟩, ⟨12, 4, 1, 0, 0, .rw, .l, false⟩, ⟨16, 15, 1, 0, 0, .rw, .l, false⟩, ⟨31, 1, 1, 0, 0, .w1s, .l, true⟩]⟩,
   ⟨0x20150014, [], [⟨0, 24, 1, 0, 0, .ro, .l, false⟩]⟩,
   ⟨0x20150018, [], [⟨0, 32, 1, 0, 0, .ro, .l, false⟩]⟩,
   ⟨0x2015001C, [], [⟨0, 1, 12, 1, 0, .w1c, .l, false⟩]⟩,
   ⟨0x20150020, [], [⟨0, 16, 1, 0, 0, .ro, .l, false⟩, ⟨16, 8, 1, 0, 0, .ro, .l, false⟩, ⟨24, 8, 1, 0, 0, .ro, .l, false⟩]⟩,
   ⟨0x20010000, [], [⟨0, 1, 1, 0, 0, .ro, .l, false⟩, ⟨1, 1, 1, 0, 0, .w1c, .l, false⟩, ⟨2, 1, 1, 0, 0, .w1c, .l, false⟩, ⟨3, 1, 1, 0, 0, .w1c, .l, false⟩, ⟨4, 4, 1, 0, 0, .ro, .l, false⟩, ⟨8, 5, 1, 0, 0, .ro, .l, false⟩, ⟨13, 3, 1, 0, 0, .ro, .l, false⟩]⟩,
   ⟨0x20010004, [], [⟨0, 5, 1, 0, 0, .rw, .l, false⟩, ⟨5, 2, 1, 0, 0, .rw, .l, false⟩, ⟨31, 1, 1, 0, 0, .w1s, .l, true⟩]⟩,
   ⟨0x20010008, [], [⟨0, 2, 16, 2, 0, .ro, .l, false⟩]⟩,
   ⟨0x2001000C, [], [⟨0, 2, 13, 2, 0, .ro, .l, false⟩]⟩,
   ⟨0x20010010, [], [⟨0, 2, 1, 0, 1, .rw, .l, false⟩, ⟨8, 6, 1, 0, 9, .rw, .l, false⟩, ⟨16, 6, 1, 0, 3, .rw, .l, false⟩]⟩,
   ⟨0x20010014, [], [⟨0, 5, 1, 0, 0, .rw, .l, false⟩]⟩,
   ⟨0x20010018, [], [⟨0, 1, 1, 0, 0, .w1s, .l, true⟩, ⟨1, 2, 1, 0, 1, .rw, .l, false⟩, ⟨3, 2, 1, 0, 0, .rw, .l, false⟩, ⟨5, 1, 1, 0, 0, .w1c, .l, false⟩, ⟨6, 1, 1, 0, 0, .w1c, .l, false⟩]⟩,
   ⟨0x2001001C, [], [⟨0, 1, 29, 1, 0, .w1c, .l, false⟩]⟩,
   ⟨0x20010020, [], [⟨0, 4, 1, 0, 1, .ro, .l, false⟩, ⟨4, 4, 1, 0, 0, .ro, .l, false⟩]⟩,
   ⟨0x20020000, [], [⟨0, 4, 1, 0, 0, .ro, .l, false⟩, ⟨4, 7, 1, 0, 0, .ro, .l, false⟩, ⟨11, 1, 1, 0, 0, .ro, .l, false⟩]⟩]

def regTable18 : List RegDesc :=
  [⟨0x20020004, [], [⟨0, 32, 1, 0, 0, .wo, .l, true⟩]⟩,
   ⟨0x20020008, [], [⟨0, 17, 1, 0, 0, .w1s, .l, true⟩]⟩,
   ⟨0x2002000C, [], [⟨0, 1, 1, 0, 0, .w1c, .l, false⟩, ⟨1, 1, 1, 0, 0, .ro, .l, false⟩, ⟨2, 1, 1, 0, 0, .ro, .l, false⟩, ⟨3, 1, 1, 0, 0, .ro, .l, false⟩, ⟨4, 1, 1, 0, 0, .ro, .l, false⟩, ⟨5, 1, 1, 0, 0, .ro, .l, false⟩]⟩,
   ⟨0x20020010, [], [⟨0, 1, 1, 0, 0, .w1s, .l, true⟩, ⟨16, 16, 1, 0, 1000, .rw, .l, false⟩]⟩,
   ⟨0x20020014, [], [⟨0, 32, 1, 0, 0, .wo, .l, true⟩]⟩,
   ⟨0x20020018, [], [⟨0, 2, 1, 0, 0, .rw, .l, true⟩]⟩,
   ⟨0x20000000, [], [⟨0, 16, 1, 0, 2562, .ro, .l, false⟩, ⟨16, 8, 1, 0, 176, .ro, .l, false⟩, ⟨24, 1, 1, 0, 0, .ro, .l, false⟩]⟩,
   ⟨0x20000004, [], [⟨0, 32, 1, 0, 0, .ro, .l, false⟩]⟩,
   ⟨0x20000008, [], [⟨0, 32, 1, 0, 0, .ro, .l, false⟩]⟩,
   ⟨0x2000000C, [], [⟨0, 3, 1, 0, 0, .ro, .l, false⟩, ⟨8, 7, 1, 0, 0, .ro, .l, false⟩, ⟨16, 3, 1, 0, 0, .ro, .l, false⟩]⟩,
   ⟨0x20000010, [], [⟨0, 4, 1, 0, 0, .ro, .l, false⟩, ⟨4, 6, 1, 0, 0, .ro, .l, false⟩, ⟨10, 1, 1, 0, 0, .ro, .l, false⟩]⟩,
   ⟨0x20000014, [], [⟨0, 7, 1, 0, 0, .wo, .l, true⟩]⟩,
   ⟨0x20000020, [(0x4, 4)], [⟨0, 32, 1, 0, 0, .ro, .l, false⟩]⟩,
   ⟨0x20000030, [], [⟨0, 1, 1, 0, 0, .w1s, .l, true⟩, ⟨6, 26, 1, 0, 0, .rw, .l, false⟩]⟩,
   ⟨0x20000034, [], [⟨0, 1, 1, 0, 0, .ro, .l, false⟩, ⟨1, 1, 1, 0, 0, .w1c, .l, false⟩, ⟨2, 1, 1, 0, 0, .w1c, .l, false⟩, ⟨8, 4, 1, 0, 0, .ro, .l, false⟩]⟩,
   ⟨0x20000040, [], [⟨0, 1, 1, 0, 0, .w1s, .l, true⟩, ⟨1, 1, 1, 0, 0, .w1s, .l, true⟩, ⟨2, 1, 1, 0, 0, .ro, .l, false⟩, ⟨3, 1, 1, 0, 0, .ro, .l, false⟩, ⟨4, 3, 1, 0, 0, .ro, .l, false⟩, ⟨7, 3, 1, 0, 0, .ro, .l, false⟩]⟩,
   ⟨0x20160000, [], [⟨0, 3, 1, 0, 0, .rw, .l, false⟩, ⟨3, 2, 1, 0, 0, .rw, .l, false⟩, ⟨31, 1, 1, 0, 0, .w1s, .l, true⟩]⟩,
   ⟨0x20160004, [], [⟨0, 1, 1, 0, 0, .ro, .l, false⟩, ⟨1, 1, 1, 0, 0, .w1c, .l, false⟩, ⟨2, 1, 1, 0, 0, .w1c, .l, false⟩, ⟨3, 1, 1, 0, 0, .w1c, .l, false⟩]⟩,
   ⟨0x20160008, [], [⟨0, 32, 1, 0, 0, .rw, .l, false⟩]⟩,
   ⟨0x2016000C, [], [⟨0, 4, 1, 0, 0, .rw, .l, false⟩]⟩]

def regTable19 : List RegDesc :=
  [⟨0x20160010, [], [⟨0, 32, 1, 0, 0, .rw, .l, false⟩]⟩,
   ⟨0x20160020, [(0x4, 8)], [⟨0, 32, 1, 0, 0, .rw, .l, false⟩]⟩,
   ⟨0x20160040, [(0x4, 8)], [⟨0, 32, 1, 0, 0, .rw, .l, false⟩]⟩,
   ⟨0x20160060, [(0x4, 8)], [⟨0, 32, 1, 0, 0, .rw, .l, false⟩]⟩,
   ⟨0x20160080, [(0x4, 8)], [⟨0, 32, 1, 0, 0, .ro, .l, false⟩]⟩,
   ⟨0x201600A0, [(0x4, 8)], [⟨0, 32, 1, 0, 0, .ro, .l, false⟩]⟩,
   ⟨0x201600C0, [], [⟨0, 32, 1, 0, 0, .ro, .l, false⟩]⟩,
   ⟨0x20160100, [(0x4, 8)], [⟨0, 32, 1, 0, 0, .wo, .l, false⟩]⟩,
   ⟨0x20160120, [], [⟨0, 1, 1, 0, 0, .wo, .l, false⟩, ⟨31, 1, 1, 0, 0, .wo, .l, true⟩]⟩]

/-- Every register of the PX2 (spec/02 to spec/20). -/
def regTable : List RegDesc :=
  regTable0 ++ regTable1 ++ regTable2 ++ regTable3 ++ regTable4 ++ regTable5 ++ regTable6 ++ regTable7 ++ regTable8 ++ regTable9 ++ regTable10 ++ regTable11 ++ regTable12 ++ regTable13 ++ regTable14 ++ regTable15 ++ regTable16 ++ regTable17 ++ regTable18 ++ regTable19

end Sys2Proof.Machine
end

