-- ==== Sys2Proof/Machine/Ops.lean ====
section
/-! DEFINITION. The named operations over registers, memory, events, faults and register writes that every command is written with. -/

namespace Sys2Proof.Machine

/-! Registers. -/

/-- The key of a field in the register file. -/
def Fld.key (f : Fld) : Nat := f.addr * 32 + f.lo

/-- The listed value at a key. -/
def RegFile.find : RegFile → Nat → Option Nat
  | [], _ => none
  | e :: r, k => if e.1 = k then some e.2 else RegFile.find r k

/-- The register file with `k` listed as `v`. -/
def RegFile.insert : RegFile → Nat → Nat → RegFile
  | [], k, v => [(k, v)]
  | e :: r, k, v =>
    if k < e.1 then (k, v) :: e :: r else if e.1 = k then (k, v) :: r else e :: RegFile.insert r k v

/-- The register file without `k`. -/
def RegFile.erase (r : RegFile) (k : Nat) : RegFile := r.filter (fun e => e.1 != k)

/-- The value of a field. -/
def RegFile.get (r : RegFile) (f : Fld) : Nat := (r.find f.key).getD f.reset

/-- The register file with a field set to `v`, cut to the field's width. -/
def RegFile.set (r : RegFile) (f : Fld) (v : Nat) : RegFile :=
  if v % 2 ^ f.width = f.reset then r.erase f.key else r.insert f.key (v % 2 ^ f.width)

/-- The register file with every field from address `lo` up to but not `hi` at its reset value. -/
def RegFile.clear (r : RegFile) (lo hi : Nat) : RegFile := r.filter (fun e => !(lo * 32 ≤ e.1 && e.1 < hi * 32))

/-- Keys strictly rising. -/
def RegFile.wf : RegFile → Bool
  | [] => true
  | [_] => true
  | a :: b :: r => a.1 < b.1 && RegFile.wf (b :: r)

/-- The value of a field as software reads it (R3); for a C field its shadow copy (R5). -/
def State.rd (s : State) (f : Fld) : Nat := s.regs.get f
/-- The field set to a value. -/
def State.wr (s : State) (f : Fld) (v : Nat) : State := { s with regs := s.regs.set f v }
/-- The live copy of a C field (R5). -/
def State.lv (s : State) (f : Fld) : Nat := s.live.get f
/-- The live copy of a C field set to a value. -/
def State.wl (s : State) (f : Fld) (v : Nat) : State := { s with live := s.live.set f v }
/-- The field is not 0. -/
def State.on (s : State) (f : Fld) : Bool := s.rd f != 0
/-- A count one higher, saturating at the field's largest value. -/
def State.inc (s : State) (f : Fld) : State := s.wr f (min (s.rd f + 1) (2 ^ f.width - 1))
/-- A count higher by `n`, saturating at the field's largest value. -/
def State.addSat (s : State) (f : Fld) (n : Nat) : State := s.wr f (min (s.rd f + n) (2 ^ f.width - 1))
/-- A one-bit field set from a truth value. -/
def State.wrB (s : State) (f : Fld) (b : Bool) : State := s.wr f (b2n b)
/-- The C fields of a list go live: each live copy takes the value of its shadow (R5). -/
def State.goLive (s : State) (fs : List Fld) : State := fs.foldl (fun t f => t.wl f (t.rd f)) s

/-- A free value, and the count of them one higher (log entry 4). -/
def State.fresh (s : State) : Nat × State := (Config.freeValue s.freeCtr, { s with freeCtr := s.freeCtr + 1 })

/-- `f` for every index in rising order. -/
def State.forFin {n : Nat} (s : State) (f : Fin n → State → State) : State := (List.finRange n).foldl (fun s i => f i s) s

/-! Memory. -/

/-- The first byte of DRAM (R369). -/
abbrev dramBase : Nat := 0x100000000

/-- What an address that memory does not list reads as: 0 on chip and, until DRAM first loses its content, in DRAM (log entry 5); a
free byte after that (R449). -/
def memDefault (gen a : Nat) : Byte := if a < dramBase ∨ gen = 0 then 0 else Config.freeDram gen a

def Memory.find : Memory → Nat → Option Byte
  | [], _ => none
  | e :: r, a => if e.1 = a then some e.2 else Memory.find r a

def Memory.insert : Memory → Nat → Byte → Memory
  | [], a, b => [(a, b)]
  | e :: r, a, b =>
    if a < e.1 then (a, b) :: e :: r else if e.1 = a then (a, b) :: r else e :: Memory.insert r a b

def Memory.erase (m : Memory) (a : Nat) : Memory := m.filter (fun e => e.1 != a)

/-- The byte at an address. -/
def Memory.get (gen : Nat) (m : Memory) (a : Nat) : Byte := (m.find a).getD (memDefault gen a)

/-- Memory with one byte written. -/
def Memory.set (gen : Nat) (m : Memory) (a : Nat) (b : Byte) : Memory :=
  if b = memDefault gen a then m.erase a else m.insert a b

/-- Addresses strictly rising, and no entry equal to what an unlisted address reads as. -/
def Memory.wf (gen : Nat) : Memory → Bool
  | [] => true
  | [a] => a.2 != memDefault gen a.1
  | a :: b :: r => a.2 != memDefault gen a.1 && (a.1 < b.1 && Memory.wf gen (b :: r))

/-- One byte of memory. -/
def State.byte (s : State) (a : Nat) : Byte := s.mem.get s.dramGen a
/-- One byte of memory written. -/
def State.setByte (s : State) (a : Nat) (b : Byte) : State := { s with mem := s.mem.set s.dramGen a b }
/-- `n` bytes of memory. -/
def State.bytes (s : State) (a n : Nat) : List Byte := (List.range n).map (fun i => s.byte (a + i))
/-- The little-endian number in `n` bytes of memory (R1). -/
def State.num (s : State) (a n : Nat) : Nat := le (s.bytes a n)
/-- Bytes of memory written, the first at `a`. -/
def State.store (s : State) (a : Nat) : List Byte → State
  | [] => s
  | b :: bs => State.store (s.setByte a b) (a + 1) bs
/-- Memory from `lo` up to but not `hi` as unlisted. -/
def State.wipe (s : State) (lo hi : Nat) : State := { s with mem := s.mem.filter (fun e => !(lo ≤ e.1 && e.1 < hi)) }

/-- Usable bytes of the installed DRAM (spec/17_memory_window.md R391): installed × 15/16. -/
def usableDram (density : Nat) : Nat := (0x40000000 <<< (min density 2)) / 16 * 15

/-! Power states, as far as accesses and events see them. -/

/-- The state field of a power domain (spec/19_power_clocks_reset.md R458). -/
def domFld (d : Nat) : Fld := if d < 16 then Reg.PWRCTL_STATE0 d else Reg.PWRCTL_STATE1 (d % 16)

/-- 0 OFF, 1 RET, 2 ON, 3 FAILED. -/
def State.dom (s : State) (d : Nat) : Nat := s.rd (domFld d)

/-- The domain is ON. -/
def State.domOn (s : State) (d : Nat) : Bool := s.dom d == 2

/-- The domain is quiescing towards a lower state, or past the commit point (R439, R445): its blocks accept no new access, its engines have
stopped. -/
def State.quiescing (s : State) (d : Nat) : Bool :=
  s.pwr.req.any (·.domain == d) || (d != 0 && (s.pwr.standby == .quiesce || s.pwr.standby == .committed))

/-- The domain is ON and accepts accesses. -/
def State.domOpen (s : State) (d : Nat) : Bool := s.domOn d && !s.quiescing d

/-- The power domain of an engine (spec/01_at_the_pole.md R16). -/
def engDomain (e : Nat) : Nat := if e ≤ 2 then 3 else if e ≤ 6 then 4 else if e ≤ 11 then 1 else if e ≤ 13 then 2 else 5

/-- The domain is ON and its isolation is not asserted (R439): no request to a lower state is past its commit point. Past it nothing that comes
from outside reaches what is left of the domain, and nothing of it gets out. -/
def State.alive (s : State) (d : Nat) : Bool :=
  s.domOn d && !s.pwr.req.any (fun (r : PwrReq) => r.domain == d && r.committed) && (d == 0 || s.pwr.standby != .committed)

/-- The parents of a domain (R436). -/
def domParents (d : Nat) : List Nat := if d = 0 then [] else if d = 1 then [0] else if d = 11 then [1, 2] else [1]

/-- The rail group of a domain (R436): 4 stands for VAON. -/
def domRail (d : Nat) : Nat := if d = 0 then 4 else if d = 10 then 1 else if d = 11 then 2 else if d = 12 then 3 else 0

/-- Levels of PMIC_ENk (R436, R458). -/
def State.setPmic (s : State) (k : Nat) (b : Bool) : State :=
  let w := s.rd Reg.PWRCTL_RAIL_EN
  s.wr Reg.PWRCTL_RAIL_EN (if b then w ||| 2 ^ k else if w.testBit k then w - 2 ^ k else w)

/-- The first step of a domain's wake order towards state `t` (R442): PMIC_ENk of its rail group rises. A wake that runs already goes on,
towards `t`. -/
def State.startWake (s : State) (d : Nat) (t : Nat := 2) (go : Bool := false) : State :=
  let ws := if s.pwr.wakes.any (·.domain == d) then
      s.pwr.wakes.map (fun w => if w.domain == d then { w with target := t, go := w.go || go } else w)
    else s.pwr.wakes ++ [({ domain := d, target := t, fromOff := s.dom d != 1, go := go } : WakeProg)]
  let t := { s with pwr := { s.pwr with wakes := ws } }
  (if domRail d = 1 ∨ domRail d = 2 ∨ domRail d = 3 then t.setPmic (domRail d) true else t).wr Reg.PWRCTL_STATUS_BUSY 1

/-- GO clears where no request is in progress, and BUSY where no wake and no standby entry is either (R458). -/
def State.pwrIdle (s : State) : State :=
  let s := if s.pwr.req.isSome || s.pwr.wakes.any (·.go) then s else s.wr Reg.PWRCTL_REQ_GO 0
  if s.pwr.req.isNone && s.pwr.wakes.isEmpty && s.pwr.standby == .none then s.wr Reg.PWRCTL_STATUS_BUSY 0 else s

/-! Events (spec/16_engines_events.md). -/

/-- An engine of the vector. -/
def State.eng (s : State) (e : Fin 16) : Engine := s.evc.engine[e]
/-- An engine replaced. -/
def State.setEng (s : State) (e : Fin 16) (g : Engine) : State := { s with evc := { s.evc with engine := s.evc.engine.set e g } }

/-- The activations among what an engine has open: source and running priority, most recent first. -/
def activations : List Opened → List (Fin 128 × Nat)
  | [] => []
  | .event n p _ _ :: r => (n, p) :: activations r
  | _ :: r => activations r

/-- The non-maskable trap is among what is open. -/
def nmiOpen : List Opened → Bool
  | [] => false
  | .nmi _ _ :: _ => true
  | _ :: r => nmiOpen r

/-- A synchronous trap is among what is open. -/
def trapOpen : List Opened → Bool
  | [] => false
  | .trap :: _ => true
  | _ :: r => trapOpen r

/-- The running priority plus one (R376): 0 when no event is active. -/
def runPrio (os : List Opened) : Nat := match activations os with | [] => 0 | a :: _ => a.2 + 1

/-- EVC_ENGe_STATE follows what the engine has open (R386). -/
def State.showEng (s : State) (e : Fin 16) : State :=
  let os := (s.eng e).opened
  let a := activations os
  ((((s.wr (Reg.EVC_ENG_STATE_DEPTH e) a.length).wr (Reg.EVC_ENG_STATE_SRC e) (a.head?.map (·.1.val) |>.getD 0)).wr
    (Reg.EVC_ENG_STATE_RUN_PRIO e) (if a.isEmpty then 0x1F else runPrio os - 1)).wrB (Reg.EVC_ENG_STATE_NMI e) (nmiOpen os)).wrB
    (Reg.EVC_ENG_STATE_TRAP e) (trapOpen os)

/-- The engine an event of source `n` goes to: its target, or its fallback once redirected (R376, R382). -/
def State.evTarget (s : State) (n : Fin 128) : Nat :=
  if s.evc.redirected[n] then s.rd (Reg.EVC_SRC_CFG_FALLBACK n) else s.rd (Reg.EVC_SRC_CFG_TARGET n)

/-- The engine runs: not held, not fenced, not halted, its domain ON and not quiescing, no reset wipe in progress (R382, R384, R439,
R450). -/
def State.engRuns (s : State) (e : Nat) : Bool :=
  !s.on (Reg.EVC_ENG_CTRL_HOLD e) && !s.on (Reg.FLT_FENCE_ENG e) && !s.on (Reg.EVC_ENG_STATE_HALT e) && s.domOpen (engDomain e) &&
  !s.on Reg.CLKRST_STATUS_WIPE_BUSY

/-- Eligibility of R376 apart from mstatus.MIE, the wait in wfi and the limit of 16 open activations; no event preempts an open
non-maskable trap (R383). -/
def State.wanted (s : State) (e : Fin 16) (n : Fin 128) : Bool :=
  s.on (Reg.EVC_SRC_CFG_EN n) && s.on (Reg.EVC_PEND n) && s.evTarget n == e.val && !s.on (Reg.EVC_ACT n) &&
  decide (s.rd (Reg.EVC_ENG_CTRL_THRESH e) ≤ s.rd (Reg.EVC_SRC_CFG_PRIO n)) &&
  decide (runPrio (s.eng e).opened < s.rd (Reg.EVC_SRC_CFG_PRIO n) + 1) && !nmiOpen (s.eng e).opened && s.engRuns e

/-- Source `n` is eligible at engine `e` (R376). -/
def State.eligible (s : State) (e : Fin 16) (n : Fin 128) : Bool :=
  s.wanted e n && (s.eng e).mie && decide ((activations (s.eng e).opened).length < 16)

/-- Append an occurrence to those on their way to the collector (R350, R356). Sources 48 to 54 are never raised on
AQPX2-BG484-I (R352). -/
def State.raiseOcc (s : State) (o : Occurrence) : State :=
  if !s.part.safeCapable && decide (48 ≤ o.src ∧ o.src ≤ 54) then s
  else { s with flt := { s.flt with raised := s.flt.raised ++ [o] } }

/-- A fault source is raised for the register at `addr` (R350). -/
def State.raise (s : State) (src addr : Nat) (unit : Option Nat := none) : State :=
  s.raiseOcc { src := src, unit := unit, addr := addr, master := .none, access := .none }

/-- A fault source is raised for a failed access of `m` to `addr` (R350). -/
def State.raiseAcc (s : State) (src addr : Nat) (m : Master) (acc : Access) : State :=
  s.raiseOcc { src := src, unit := none, addr := addr, master := m, access := acc }

/-- A pending event that would be eligible but finds 16 activations open raises FLT_EVC_NEST once (R380). -/
def State.nestCheck (s : State) (e : Fin 16) : State :=
  if decide ((activations (s.eng e).opened).length < 16) || (s.eng e).nestRaised || !(s.eng e).mie ||
     !(List.finRange 128).any (fun n => s.wanted e n) then s
  else (s.setEng e { s.eng e with nestRaised := true }).raise FLT_EVC_NEST (0x2003080C + e * 0x40) (some e)

/-- Source `n` has WAKE_EN and would be eligible at engine `e` apart from mstatus.MIE and the wait (R382). -/
def State.wakes (s : State) (e : Fin 16) (n : Fin 128) : Bool :=
  s.wanted e n && s.on (Reg.EVC_SRC_CFG_WAKE_EN n) && decide ((activations (s.eng e).opened).length < 16)

/-- A pending event of source `n` wakes its target from wfi where WAKE_EN is set and it would be eligible apart from the wait
(R382). -/
def State.wakeFor (s : State) (n : Fin 128) : State :=
  let e : Fin 16 := Fin.ofNat 16 (s.evTarget n)
  if !s.wanted e n then s else
  (if s.on (Reg.EVC_ENG_STATE_WFI e) && s.wakes e n then s.wr (Reg.EVC_ENG_STATE_WFI e) 0 else s).nestCheck e

/-- Engine `e` looks again at the pending events that go to it, because something that kept them from being eligible has ended (R380, R382). -/
def State.lookAgain (s : State) (e : Nat) : State :=
  s.forFin fun (n : Fin 128) s => if s.on (Reg.EVC_PEND n) && s.evTarget n == e then s.wakeFor n else s

/-- The engines of the domains that `p` selects resume and look again at what is pending for them (R382, R440). -/
def State.resumed (s : State) (p : Nat → Bool) : State :=
  s.forFin fun (e : Fin 16) s => if p (engDomain e) then s.lookAgain e else s

/-- PEND[n] is set (R375); a second edge has no further effect. -/
def State.pend (s : State) (n : Fin 128) : State :=
  if s.on (Reg.EVC_PEND n) then s else
  { s.wr (Reg.EVC_PEND n) 1 with evc := { s.evc with redirected := s.evc.redirected.set n false } }.wakeFor n

/-- A down request that meets a wake before its commit cycle ends: the domain resumes, and its engines take what has become pending meanwhile
(R440). -/
def State.abortDown (s : State) : State :=
  ({ s with pwr := { s.pwr with req := none } }.pwrIdle.wr Reg.PWRCTL_STATUS_SLEEP_ABORT 1).resumed
    (fun d => s.pwr.req.any (fun (r : PwrReq) => r.domain == d))

/-- AUTOWAKE requests ON for domain `d` in RET or OFF whose parents are ON and stay so (R437, R441); a wake towards RET goes on to ON. -/
def State.autoOn (s : State) (d : Nat) : State :=
  if (s.dom d == 0 || s.dom d == 1) && (domParents d).all s.domOpen && !(s.pwr.wakes.any (fun w => w.domain == d && w.target == 2)) then
    s.startWake d
  else s

/-- An event with WAKE_EN that becomes pending for an engine is a wake source of the engine's domain while AUTOWAKE is set
(R440, R441); on the way to standby WAKE0 and WAKE1 alone are (R445). The flag says that a down request was aborted. -/
def State.autowake (s : State) (n : Fin 128) : State × Bool :=
  let d := engDomain (s.evTarget n)
  if !s.on (Reg.EVC_SRC_CFG_WAKE_EN n) || !(s.rd Reg.PWRCTL_AUTOWAKE_DOM).testBit (d - 1) then (s, false) else
  match s.pwr.req with
  | some r =>
    if r.domain ≠ d then (s.autoOn d, false)
    else if r.committed then ({ s with pwr := { s.pwr with req := some { r with heldWake := true } } }, false)
    else (s.abortDown, true)
  | none => (if s.pwr.standby == .none then s.autoOn d else s, false)

/-- The effect on power of an event that has become pending for an engine (R440, R441). An abort fires PWR_ABORT (R456). -/
def State.powerFor (s : State) (n : Fin 128) : State :=
  let r := s.autowake n
  if r.2 && !r.1.on (Reg.EVC_PEND 115) then ((r.1.pend 115).autowake 115).1 else r.1

/-- A rising edge of event source `n` (R375), with its effect on power. -/
def State.fire (s : State) (n : Nat) : State :=
  let n := Fin.ofNat 128 n
  if s.on (Reg.EVC_PEND n) then s else (s.pend n).powerFor n

/-! Bus errors and register writes. -/

/-- The engine that a master is, as a unit index (R350). -/
def masterEngine : Master → Option Nat
  | .engine e => some e.val
  | _ => none

/-- The system address of an engine's own address, 32 bits (R369, R371): its own SRAMs below 0x2_0000, DRAM through the aperture from
0x8000_0000. -/
def State.sysAddr (s : State) (e : Fin 16) (a : Nat) : Nat :=
  let a := a % 2 ^ 32
  if a < 0x20000 then 0x04000000 + e * 0x20000 + a
  else if 0x80000000 ≤ a then dramBase + s.rd (Reg.EVC_ENG_CTRL_APER e) * 0x80000000 + (a - 0x80000000)
  else a

/-- The system address of the address that a master issues: an engine's is of its own view (R369, R371). -/
def State.viewAddr (s : State) (m : Master) (a : Nat) : Nat :=
  match m with
  | .engine e => s.sysAddr e a
  | _ => a

/-- The shared SRAM bank that holds an address (R369). -/
def bankOf (a : Nat) : Nat := (a - 0x10000000) / 0x80000

/-- The address lies in a fenced shared bank (R359). -/
def State.bankFenced (s : State) (a : Nat) : Bool :=
  decide (0x10000000 ≤ a ∧ a < 0x10800000) && s.on (Reg.FLT_FENCE_BANK (bankOf a))

/-- A bus error: FLT_BUS_ERR with the address, the master and the access (R1, R350, R369). An access to a fenced bank is counted and not
raised (R359). -/
def State.busErr (s : State) (m : Master) (addr : Nat) (acc : Access) : State :=
  if s.bankFenced addr then s.inc Reg.FLT_FENCE_HIT_COUNT else
  s.raiseOcc { src := FLT_BUS_ERR, unit := masterEngine m, addr := addr, master := m, access := acc }

/-- The engine whose control registers or SRAMs hold an address (R369, R386). -/
def engineAt (addr : Nat) : Option Nat :=
  if 0x20030800 ≤ addr ∧ addr < 0x20030C00 then some ((addr - 0x20030800) / 0x40)
  else if 0x04000000 ≤ addr ∧ addr < 0x04200000 then some ((addr - 0x04000000) / 0x20000)
  else none

/-- What a debugger reaches: SYSCTL_DBG, SYSCTL_NONCE and the token window always (spec/20 R472). The scope of the open session gives the rest
(R469): bit 0 the engines but E12 and E13, bit 1 those two and SAFE, bit 2 all memories and registers, and so does a part whose debug is open
without a token (R468); SAFE only bit 1 opens (R473). -/
def State.debugReach (s : State) (addr : Nat) : Bool :=
  let scope (b : Nat) : Bool := s.on Reg.SYSCTL_DBG_OPEN && (s.rd Reg.SYSCTL_DBG_SCOPE).testBit b
  let safe := addr / 0x10000 == 0x2014
  addr == 0x20000040 || decide (0x20000020 ≤ addr ∧ addr < 0x20000030) || decide (0x20000100 ≤ addr ∧ addr < 0x20000200) ||
  (match engineAt addr with
   | some e => scope (if e = 12 ∨ e = 13 then 1 else 0)
   | none => safe && scope 1) ||
  (!safe && (scope 2 || s.part.lcBoot == 0))

/-- E12, E13 or authenticated debug (R320, R372, R416, spec/20 R462). -/
def State.safeMaster (s : State) (m : Master) (addr : Nat) : Bool :=
  match m with
  | .engine e => e == 12 || e == 13
  | .debug => s.debugReach addr
  | _ => false

/-- An offset within repeats of the given strides and counts. -/
def inDims : List (Nat × Nat) → Nat → Bool
  | [], off => off == 0
  | (st, c) :: r, off => decide (off / st < c) && inDims r (off % st)

/-- The bytes of the calibration staging window (spec/12 R287) and of the JTAG token window (spec/20 R472). -/
def inCalWindow (addr size : Nat) : Bool := decide (0x20101000 ≤ addr ∧ addr + size ≤ 0x20101800)
def inTokenWindow (addr size : Nat) : Bool := decide (0x20000100 ≤ addr ∧ addr + size ≤ 0x20000200)

/-- The register at an address. -/
def regAt (addr : Nat) : Option RegDesc := regTable.find? (fun r => decide (r.base ≤ addr) && inDims r.dims (addr - r.base))

/-- The reset value of the field at bit `lo` of the register at `addr`, where it depends on the index. -/
def resetAt (addr lo d : Nat) : Nat :=
  if 0x20040050 ≤ addr ∧ addr < 0x20040064 then fltFloor ((addr - 0x20040050) / 4)
  else if 0x20040400 ≤ addr ∧ addr < 0x20040580 then
    (if lo = 0 then fltSrcClass ((addr - 0x20040400) / 4) else if lo = 4 then fltSrcReact ((addr - 0x20040400) / 4)
     else fltSrcElig ((addr - 0x20040400) / 4))
  else if 0x20030800 ≤ addr ∧ addr < 0x20030C00 ∧ (addr - 0x20030800) % 0x40 = 0 ∧ lo = 0 then engHold ((addr - 0x20030800) / 0x40)
  else if 0x20070040 ≤ addr ∧ addr < 0x20070080 then winRole ((addr - 0x20070040) / 4)
  else if addr = 0x200E00A0 ∧ lo = 16 then 0
  else if 0x200E0200 ≤ addr ∧ addr < 0x200E02C0 then 255
  else if 0x200E0080 ≤ addr ∧ addr < 0x200E00A4 then 262 + 4 * ((addr - 0x200E0080) / 2 + lo / 16)
  else if addr = 0x20120090 ∨ addr = 0x201200A0 then 0
  else if addr = 0x20010008 ∨ addr = 0x2001000C then (domFld ((addr - 0x20010008) * 4 + lo / 2)).reset
  else d

/-- The `i`-th field that a row of a field table names, in the register at `addr`. -/
def FieldDesc.fld (d : FieldDesc) (addr i : Nat) : Fld :=
  ⟨addr, d.lo + i * d.step, d.width, resetAt addr (d.lo + i * d.step) d.reset⟩

/-- The port of a TL register, or the lane of a LANE register. -/
def portOf (addr : Nat) : Nat := min 11 (addr / 0x1000 % 16)
def laneOf (addr : Nat) : Nat := min 14 (addr / 0x100 % 256)

/-- The block counts as enabled for its S fields (R4): from the write that sets its enable bit until its status reports it
disabled. -/
def State.blockOn (s : State) (addr : Nat) : Bool :=
  match addr / 0x10000 with
  | 0x2006 => s.on Reg.MEMC_CTRL_EN
  | 0x2007 => s.on Reg.WIN_CTRL_EN
  | 0x2008 => s.on Reg.SA_CTRL_EN || s.on Reg.SA_STATUS_RUN
  | 0x2009 => s.on Reg.LAYER_CTRL_EN
  | 0x200A => s.on Reg.FT_CTRL_EN || s.on Reg.FT_STATUS_RUN
  | 0x200B => s.on (Reg.TL_CTRL_EN (portOf addr))
  | 0x200C => s.on (Reg.TL_CTRL_EN (laneOf addr)) && decide (laneOf addr < 12) ||
              (laneOf addr == 12 && s.on Reg.PAIR_CTRL_EN) || (laneOf addr == 13 && s.on (Reg.NET_CTRL_EN 0)) ||
              (laneOf addr == 14 && s.on (Reg.NET_CTRL_EN 1))
  | 0x200D => s.on Reg.HLTH_CTRL_EN || s.on Reg.HLTH_STATUS_RUN
  | 0x200E => s.rd Reg.LSC_STATUS_STATE != 0
  | 0x200F => s.on Reg.THM_CTRL_EN
  | 0x2010 => s.on Reg.CAL_CTRL_EN
  | 0x2011 => s.on (Reg.NET_CTRL_EN 0)
  | 0x2012 => s.on (Reg.NET_CTRL_EN 1)
  | 0x2014 => s.on Reg.SAFE_CTRL_EN
  | 0x2015 => s.on Reg.PAIR_CTRL_EN
  | 0x2017 =>
    if addr < 0x20170100 then s.on (Reg.UART_CTRL_EN 0) else if addr < 0x20170200 then s.on (Reg.UART_CTRL_EN 1)
    else if addr < 0x20170300 then s.on (Reg.I2C_CTRL_EN 0) else if addr < 0x20170400 then s.on (Reg.I2C_CTRL_EN 1)
    else s.on Reg.SPI_CTRL_EN
  | 0x2018 => if addr < 0x20180100 then s.on Reg.MASKIN_CTRL_EN else s.on (Reg.I2C_CTRL_EN 2)
  | _ => false

/-- The block's sticky WERR flag is set and its WERR event fires (R4). The UARTs and the I2C controllers, that of MASKIN too, have neither
flag nor event in R387, R389 and R78's tables, so that an S field of theirs that may not change keeps its value and nothing tells of it
(DESIGN CHOICE; log entry 48). -/
def State.werr (s : State) (addr : Nat) : State :=
  match addr / 0x10000 with
  | 0x2000 => s.wr Reg.SYSCTL_LC_STATUS_WERR 1
  | 0x2001 => (s.wr Reg.PWRCTL_STATUS_WERR 1).fire 113
  | 0x2002 => (s.wr Reg.CLKRST_STATUS_WERR 1).fire 118
  | 0x2003 => s.wr Reg.EVC_STATUS_WERR 1
  | 0x2004 => (s.wr Reg.FLT_STATUS_WERR 1).fire 79
  | 0x2005 => (s.wr (Reg.CVU_STATUS_WERR (addr / 0x40 % 4)) 1).fire 103
  | 0x2006 => s.wr Reg.MEMC_STATUS_WERR 1
  | 0x2007 => (s.wr Reg.WIN_STATUS_WERR 1).fire 100
  | 0x2008 => (s.wr Reg.SA_STATUS_WERR 1).fire 15
  | 0x2009 => (s.wr Reg.LAYER_STATUS_WERR 1).fire 6
  | 0x200A => (s.wr Reg.FT_STATUS_WERR 1).fire 5
  | 0x200B => (s.wr (Reg.TL_STATUS_WERR (portOf addr)) 1).fire (17 + 2 * portOf addr)
  | 0x200C => (s.wr (Reg.LANE_STATUS_WERR (laneOf addr)) 1).fire 43
  | 0x200D => (s.wr Reg.HLTH_STATUS_WERR 1).fire 94
  | 0x200E => (s.wr Reg.LSC_STATUS_WERR 1).fire 87
  | 0x200F => (s.wr Reg.THM_STATUS_WERR 1).fire 83
  | 0x2010 => (s.wr Reg.CAL_STATUS_WERR 1).fire 91
  | 0x2011 => (s.wr (Reg.NET_STATUS_WERR 0) 1).fire 54
  | 0x2012 => (s.wr (Reg.NET_STATUS_WERR 1) 1).fire 54
  | 0x2013 => (s.wr Reg.TIME_STATUS_WERR 1).fire 62
  | 0x2014 => (s.wr Reg.SAFE_STATUS_WERR 1).fire 71
  | 0x2015 => (s.wr Reg.PAIR_STATUS_WERR 1).fire 110
  | 0x2016 => s.wr Reg.CRYPTO_STATUS_WERR 1
  | 0x2017 => if 0x20170400 ≤ addr ∧ addr < 0x20170500 then s.wr Reg.SPI_STATUS_WERR 1 else s
  | 0x2018 => if addr < 0x20180100 then (s.wr Reg.MASKIN_STATUS_WERR 1).fire 9 else s
  | _ => s

/-- The power domain that holds a register block (R436). -/
def blockDomain (addr : Nat) : Nat :=
  match addr / 0x10000 with
  | 0x2001 => 0
  | 0x2006 => 10
  | 0x200B => 11
  | 0x200C => 11
  | 0x200E => 12
  | 0x2011 => 3
  | 0x2012 => 3
  | 0x2014 => 2
  | _ => 1

/-- The bit of PAIR_MIRROR that mirrors a block (spec/18_pair.md R435): 7 for a block that is not mirrored. -/
def mirrorBit (addr : Nat) : Nat :=
  match addr / 0x10000 with
  | 0x2009 => 0
  | 0x2008 => 1
  | 0x200A => 2
  | 0x200D => 3
  | 0x200E => 4
  | 0x200F => 5
  | 0x2018 => 6
  | _ => 7

/-- PAIR has formed a pair and mirrors the block at `addr` (R425, R426). -/
def State.mirrors (s : State) (addr : Nat) : Bool :=
  s.on Reg.PAIR_CTRL_EN && s.rd Reg.PAIR_STATUS_STATE == 2 && (s.rd Reg.PAIR_MIRROR_BLOCKS).testBit (mirrorBit addr)

/-- The unit has the understudy role (spec/18 R420). -/
def State.understudyRole (s : State) : Bool := s.on Reg.PAIR_CTRL_EN && s.pair.decided && !s.on Reg.PAIR_STATUS_LEAD

/-- This unit is the understudy of a formed pair. -/
def State.understudy (s : State) : Bool := s.understudyRole && s.rd Reg.PAIR_STATUS_STATE == 2

/-- Fields that ignore a write for a reason of their own: SA_CTRL.KAL_EN on AQPX2-BG484-S (R49), the PRP and MDIO fields of NET1
(R315), CLASS and REACT of the lockout-eligible sources (R352, R366), the reserved upper halves of LSC_VFTAB8 (R258) and THM_NTC_TAB16
(R275). -/
def State.fixedField (s : State) (f : Fld) : Bool :=
  (s.part.safeCapable && f.key == Reg.SA_CTRL_KAL_EN.key) ||
  (decide (0x200404C0 ≤ f.addr ∧ f.addr < 0x200404D0) && decide (f.lo < 12)) || f.key == (Reg.NET_CTRL_PRP_EN 1).key || f.addr == 0x20120090 || f.addr == 0x201200A0 || f.addr == 0x201200A4 ||
  (f.addr == 0x200E00A0 && f.lo == 16) || (f.addr == 0x200F0080 && f.lo == 16)

/-- The configuration of fault sources and classes, which FLT_CTRL.LOCK locks (R362), WIN_ROLE, which WIN_CTRL.LOCK locks (R416),
HLTH_FORCE while a write of it waits for room (R228), WIN_XFER while GO is 1 (spec/17, Hard cases), NET_MDIO_CMD while GO is 1
(R315). -/
def State.lockedReg (s : State) (addr : Nat) : Bool :=
  (s.on Reg.FLT_CTRL_LOCK && (decide (0x20040050 ≤ addr ∧ addr < 0x20040064) || decide (0x20040400 ≤ addr ∧ addr < 0x20040580))) ||
  (s.on Reg.WIN_CTRL_LOCK && decide (0x20070040 ≤ addr ∧ addr < 0x20070080)) || (addr == 0x200D0040 && s.on Reg.HLTH_FORCE_GO) ||
  (addr == 0x20070014 && s.on Reg.WIN_XFER_GO) || (addr == 0x201100A0 && s.on (Reg.NET_MDIO_CMD_GO 0))

/-- Bits of a field that read 1 whatever is written: NMI and PIN of FLT_CLASS4_REACT (R366). -/
def Fld.ones (f : Fld) : Nat := if f.addr = 0x20040060 then 0x12 else 0

/-- One field of a written word (R3 to R5, R9). The flag says that the write sets WERR. W1C fields are not mirrored (spec/18 R425). -/
def State.storeField (s : State) (m : Master) (en : Bool) (acc : Acc) (cl : Cls) (row : Bool) (f : Fld) (w : Nat) : State × Bool :=
  let v := bits w f.lo f.width
  if row || s.fixedField f then (s, false) else
  match acc with
  | .ro => (s, false)
  | .w1c => (if v = 1 ∧ m ≠ .pair then s.wr f 0 else s, false)
  | .w1s => (if v = 1 then s.wr f 1 else s, false)
  | .wo => (s.wr f v, false)
  | .rw =>
    match cl with
    | .l => (s.wr f (v ||| f.ones), false)
    | .s => if en then (s, v != s.rd f) else (s.wr f v, false)
    | .c => if s.mirrors f.addr && s.understudy && m != .pair then (s, true) else (s.wr f v, false)

/-- The fields of one row of a field table, in a written word. -/
def State.storeDesc (m : Master) (en : Bool) (addr w : Nat) (r : State × Bool) (d : FieldDesc) : State × Bool :=
  (List.range d.n).foldl (fun r i =>
    let q := r.1.storeField m en d.acc d.cls d.row (d.fld addr i) w
    (q.1, r.2 || q.2)) r

/-- A write of a whole word to the register at `addr`: every field that no command of the table writes (R3). -/
def State.storeWord (s : State) (m : Master) (addr w : Nat) : State :=
  match regAt addr with
  | none => s
  | some r =>
    let q := r.fields.foldl (State.storeDesc m (s.blockOn addr) addr w) (s, false)
    if q.2 then q.1.werr addr else q.1

/-- The register holds a field that is neither RO nor W1C (R425). -/
def mirroredReg (addr : Nat) : Bool :=
  match regAt addr with
  | none => false
  | some r => r.fields.any (fun d => d.acc != .ro && d.acc != .w1c)

/-- On a paired lead, a write to a register of a mirrored block queues a REG entry (R425). -/
def State.mirror (s : State) (addr w : Nat) : State :=
  if s.mirrors addr && s.on Reg.PAIR_STATUS_LEAD && mirroredReg addr then
    { s with pair := { s.pair with regQueue := s.pair.regQueue ++ [(addr, w)] } } else s

/-- The bit of XING_LOST of a domain is set (R455): each setting raises FLT_PWR_XING and fires PWR_XING. -/
def State.xingLost (s : State) (d : Nat) : State :=
  ((s.wr (Reg.PWRCTL_XING (d % 32)) 1).raise FLT_PWR_XING 0x2001001C).fire 116

/-- An access into a closed crossing: a bus error, and XING_LOST of the domain (R455). Its fence answers an access to a fenced bank, whatever
the bank's power state (spec/15 R359). -/
def State.closedCrossing (s : State) (m : Master) (addr d : Nat) (acc : Access) : State :=
  if s.bankFenced addr then s.busErr m addr acc else (s.busErr m addr acc).xingLost d

/-- The power domain that an access reaches (R436, R369). -/
def accessDomain (addr : Nat) : Nat :=
  if 0x10000000 ≤ addr ∧ addr < 0x10800000 then 13 + bankOf addr
  else if 0x04000000 ≤ addr ∧ addr < 0x04200000 then engDomain ((addr - 0x04000000) / 0x20000)
  else if dramBase ≤ addr then 10
  else blockDomain addr

/-- An access that nothing answers: into a closed crossing (R455), or a bus error of another cause. -/
def State.accErr (s : State) (m : Master) (addr : Nat) (acc : Access) : State :=
  if s.domOpen (accessDomain addr) then s.busErr m addr acc else s.closedCrossing m addr (accessDomain addr) acc

/-- The master may write the register (R320, R372, R416, spec/20 R462, R472). -/
def State.mayWrite (s : State) (m : Master) (addr : Nat) : Bool :=
  if m == .debug then s.debugReach addr
  else if addr / 0x10000 = 0x2014 then s.safeMaster m addr
  else if 0x20030B00 ≤ addr ∧ addr < 0x20030B80 then s.safeMaster m addr || (m == .engine 0 && s.evc.romRights)
  else if addr = 0x20070070 ∨ addr = 0x20070074 then s.safeMaster m addr
  else if 0x20160100 ≤ addr ∧ addr < 0x20160124 then s.safeMaster m addr
  else true

/-- A whole-word register write: the access checks, the fields that no command writes, the mirror entry, and then the effect `act` of
the command that the write is. -/
def State.busWrite (s : State) (m : Master) (addr : Nat) (w : Word) (act : State → State := id) : State :=
  if !s.domOpen (blockDomain addr) then s.closedCrossing m addr (blockDomain addr) .write
  else if !s.mayWrite m addr then s.busErr m addr .write
  else if s.lockedReg addr then s.werr addr
  else act ((s.storeWord m addr w.toNat).mirror addr w.toNat)

/-- The cause of a source is held: the flag that R360 names beside it is set. Every other source's cause ends with its occurrence. -/
def State.held (s : State) (src : Nat) : Bool :=
  if src = FLT_PWR_WAKE then (List.range 29).any (fun d => s.dom d == 3)
  else if src = FLT_TL_CAPACK then (List.range 12).any (fun p => s.on (Reg.TL_STATUS_CAPACK_ERR p))
  else if src = FLT_SAFE_DISC then s.on Reg.SAFE_STATUS_DISC
  else if src = FLT_SAFE_TP then s.on Reg.SAFE_STATUS_TP_ERR
  else if src = FLT_SAFE_SEAL then s.on Reg.SAFE_STATUS_SEAL_ERR
  else if src = FLT_SAFE_CLAMP then s.on Reg.SAFE_STATUS_CLAMP_ERR
  else if src = FLT_LSC_OC then s.on Reg.LSC_STATUS_OC
  else if src = FLT_LSC_OV then s.on Reg.LSC_STATUS_OV
  else if src = FLT_LSC_UV then s.on Reg.LSC_STATUS_UV
  else if src = FLT_LSC_EXT then s.on Reg.LSC_STATUS_EXT
  else if src = FLT_THM_DIE_OVR then s.on Reg.THM_STATUS_DIE_OVR
  else false

/-- A bank switch or a re-index spoils the period in which it takes place (spec/12 R288). -/
def State.calBroken (s : State) : State := { s with cal := { s.cal with broken := true } }

/-- PERI_TBASE: a 64-bit count at 100 MHz (R390), one in four ticks of the 400 MHz clock. -/
def State.tbase (s : State) : Nat := (s.now - s.peri.tbaseStart) / 4 % 2 ^ 64

/-- The bits of a word for which a test holds. -/
def wordOf (f : Nat → Bool) : Nat := (List.range 32).foldl (fun a i => a + b2n (f i) * 2 ^ i) 0

/-- What the registers of SYSCTL show of the part itself: SAFE_CAP, the serial number, the life-cycle state read at boot, the fuses and the
sampled BOOTMODE (spec/20 R463, R475). -/
def State.partWord (s : State) (addr : Nat) : Nat :=
  if addr = 0x20000000 then b2n s.part.safeCapable * 2 ^ 24
  else if addr = 0x20000004 then s.part.serial % 2 ^ 32
  else if addr = 0x20000008 then s.part.serial / 2 ^ 32 % 2 ^ 32
  else if addr = 0x2000000C then s.part.lcBoot % 8 + min 64 s.part.svnFuse * 256 + s.ident.bootmode % 8 * 65536
  else 0

/-- Every chip reset, and every token, draws the nonce anew (spec/20 R469); a failed entropy source draws none (R462, log entry 25). -/
def State.newNonce (s : State) : State :=
  if s.ident.trngFail then s
  else s.forFin fun (k : Fin 4) s => s.fresh.2.wr (Reg.SYSCTL_NONCE_NONCE k) s.fresh.1

/-- CRYPTO_RNG brings its next 32 random bits, or 0 while the entropy source has failed (spec/20 R476). -/
def State.nextRandom (s : State) : State :=
  if s.ident.trngFail then s.wr Reg.CRYPTO_RNG_DATA 0 else s.fresh.2.wr Reg.CRYPTO_RNG_DATA s.fresh.1

/-- A register's word as a read returns it, side effects apart (R2, R3): reserved, WO and self-clearing bits read 0. SAFE_STATUS.FUSED
reads 1 on AQPX2-BG484-I (spec/14 R321); FLT_HOLDk shows the causes that are present (spec/15 R360). -/
def State.readWord (s : State) (addr : Nat) : Nat :=
  s.partWord addr +
  (if addr = 0x20170600 then s.tbase % 2 ^ 32 else if addr = 0x20170604 then s.peri.tbaseHeld.getD (s.tbase / 2 ^ 32) else 0) +
  (if 0x20040030 ≤ addr ∧ addr < 0x2004003C then wordOf (fun i => s.held ((addr - 0x20040030) * 8 + i)) else 0) +
  (if addr = 0x20140004 ∧ !s.part.safeCapable then 0x4000 else 0) +
  match regAt addr with
  | none => 0
  | some r => r.fields.foldl (fun a d => (List.range d.n).foldl (fun a i =>
      if d.acc = .wo then a else a + (s.rd (d.fld addr i)) <<< (d.lo + i * d.step)) a) 0

/-! Writes to memory by a master. -/

/-- The slot of the stage window that holds an address (R402). -/
def State.slotOf (s : State) (a : Nat) : Option Nat :=
  let base := s.rd Reg.WIN_BASE_HI_ADDR_HI <<< 32 ||| s.rd Reg.WIN_BASE_ADDR <<< 16
  if s.on Reg.WIN_CTRL_EN ∧ base ≤ a ∧ (a - base) >>> s.rd Reg.WIN_CFG_SIZE < s.rd Reg.WIN_CFG_COUNT then
    some ((a - base) >>> s.rd Reg.WIN_CFG_SIZE) else none

/-- A master acts for a slot owner (R403): 1 NET, 2 RENDER, 3 PAIR, 4 SCANOUT, 5 ENGINE, 6 SAFE. -/
def State.actsFor (s : State) (m : Master) (owner : Nat) : Bool :=
  match m with
  | .engine e => (s.rd (Reg.WIN_ROLE_MASK e)).testBit owner && owner != 4 && (owner != 6 || e == 12 || e == 13)
  | .netDma _ => owner == 1
  | .pair => owner == 3
  | .stageArray => owner == 4
  | .debug => true
  | _ => false

/-- An address of a row of R369 that a read may reach, and that exists now: DRAM only below its usable range while MEMC is READY
(R393), a bank only while it is ON and not fenced. -/
def State.readable (s : State) (a : Nat) : Bool :=
  if 0x01000000 ≤ a ∧ a < 0x01010000 then true
  else if 0x04000000 ≤ a ∧ a < 0x04200000 then s.domOpen (engDomain ((a - 0x04000000) / 0x20000))
  else if 0x10000000 ≤ a ∧ a < 0x10800000 then s.domOpen (13 + bankOf a) && !s.on (Reg.FLT_FENCE_BANK (bankOf a))
  else if dramBase ≤ a then
    decide (a < dramBase + usableDram s.part.density) && s.rd Reg.MEMC_STATUS_STATE == 2 && s.domOpen 10
  else false

/-- A read by `m` has failed at `a`: an address that no read may reach gets a bus error, or meets a closed crossing or a fenced bank (R1, R359,
R393, R455); an uncorrectable error is the report of the memory itself. -/
def State.readErr (s : State) (m : Master) (a : Nat) : State := if s.readable a then s else s.accErr m a .read

end Sys2Proof.Machine
end

