-- ==== Sys2Proof/Machine/Commit.lean ====
section
/-! DEFINITION. Commits of C fields: captured sets (spec/00_scope.md R5 to R8, spec/06_frame_timing.md R132). -/

namespace Sys2Proof.Machine

/-- The shadow values of C fields, as a commit guard captures them (R6). -/
def State.snap (s : State) (fs : List Fld) : List (Fld × Nat) := fs.map (fun f => (f, s.rd f))

/-- A captured set goes live (R5). -/
def State.applySet (s : State) (xs : List (Fld × Nat)) : State := xs.foldl (fun s x => s.wl x.1 x.2) s

/-- A commit is rejected (R8): the commit bit clears, COMMIT_ERR records the code, and the block's event fires. -/
def State.rejectCommit (s : State) (commit err : Fld) (code ev : Nat) : State := ((s.wr commit 0).wr err code).fire ev

end Sys2Proof.Machine
end

