-- ==== Sys2Proof/Machine/Crc.lean ====
section
/-! DEFINITION. Cyclic checks: the CRC-32C that the spec names throughout (spec/02 R27, spec/07 R148, spec/18 R421) and the IEEE 802.3
CRC-32 of the multicast hash and the frame check sequence (spec/13 R292, R315). -/

namespace Sys2Proof.Machine

/-- One bit of a reflected CRC. -/
def crcBit (poly c : Nat) : Nat := if c % 2 = 1 then (c / 2) ^^^ poly else c / 2

/-- One byte of a reflected CRC. -/
def crcByte (poly c : Nat) (b : Byte) : Nat := (List.range 8).foldl (fun c _ => crcBit poly c) (c ^^^ b.toNat)

/-- A reflected 32-bit CRC with initial value and final complement of all ones. -/
def crcReflected (poly : Nat) (bs : List Byte) : Nat := (bs.foldl (crcByte poly) 0xFFFFFFFF) ^^^ 0xFFFFFFFF

/-- The payload CRC-16 of a CSI-2 packet (spec/03 R66; PRESUMED, log entry 41): x^16 + x^12 + x^5 + 1, least significant bit first, from
0xFFFF. -/
def csiCrc (bs : List Byte) : Nat := bs.foldl (crcByte 0x8408) 0xFFFF

/-- The bits of a CSI-2 header that each of its six parity bits covers (PRESUMED; log entry 41). -/
def csiParity : List Nat := [0xF12CB7, 0xF2555B, 0x749A6D, 0xB8E38E, 0xDF03F0, 0xEFFC00]

/-- The error correction code of the three bytes of a CSI-2 header. -/
def csiEcc (d : Nat) : Nat :=
  (List.range 6).foldl (fun a i =>
    a + 2 ^ i * (((List.range 24).filter (fun b => d.testBit b && (csiParity.getD i 0).testBit b)).length % 2)) 0

/-- A CSI-2 header, its four bytes with the first lowest, as its error correction code leaves it: virtual channel, data type and word count.
A single-bit error is corrected, and a header with another error gives none (spec/03 R66; PRESUMED, log entry 41). -/
def csiHeader (h : Word) : Option (Nat × Nat × Nat) :=
  let d := h.toNat % 0x1000000
  let e := csiEcc d ^^^ (h.toNat / 0x1000000 % 64)
  let fix : Option Nat :=
    if e = 0 then some d
    else match (List.range 24).find? (fun b => csiEcc (2 ^ b) == e) with
      | some b => some (d ^^^ 2 ^ b)
      | none => if (List.range 6).any (fun b => 2 ^ b == e) then some d else none
  fix.map (fun d => (d / 64 % 4, d % 64, d / 256))

/-- CRC-32C (Castagnoli). -/
def crc32c (bs : List Byte) : Nat := crcReflected 0x82F63B78 bs

/-- CRC-32 of IEEE 802.3. -/
def crc32 (bs : List Byte) : Nat := crcReflected 0xEDB88320 bs

end Sys2Proof.Machine
end

