-- ==== Sys2Proof/Machine/Bank.lean ====
section
/-! DEFINITION. Structure images: what a scene bank holds and the checks of a load (spec/02_stage_array.md R22 to R36, R499; spec/04 R90;
spec/06 R126). -/

namespace Sys2Proof.Machine

/-- A row of the mode table (spec/06_frame_timing.md R126): tile width and height, frame rate, line period in 800 MHz clocks, minimum
blanking in lines. -/
structure ModeInfo where
  w     : Nat
  h     : Nat
  rate  : Nat
  clk   : Nat
  blank : Nat
deriving DecidableEq, Repr

/-- The standard modes (R126). -/
def modeInfo (mode : Nat) : Option ModeInfo :=
  match mode with
  | 0x10 => some ⟨512, 256, 90, 30720, 8⟩
  | 0x11 => some ⟨512, 256, 100, 27648, 8⟩
  | 0x12 => some ⟨512, 256, 120, 23040, 8⟩
  | 0x13 => some ⟨512, 256, 180, 15360, 8⟩
  | 0x14 => some ⟨512, 256, 240, 11520, 8⟩
  | 0x20 => some ⟨512, 512, 90, 15360, 16⟩
  | 0x21 => some ⟨512, 512, 100, 13824, 16⟩
  | 0x22 => some ⟨512, 512, 120, 11520, 16⟩
  | 0x30 => some ⟨512, 128, 240, 23040, 4⟩
  | 0x31 => some ⟨512, 128, 480, 11520, 4⟩
  | 0x40 => some ⟨256, 256, 240, 11520, 8⟩
  | _ => none

/-- The line period in 2.5 ns ticks. -/
def ModeInfo.line (m : ModeInfo) : Nat := m.clk / 2

/-- The mode of an image; the loader admits only modes of the table (R126). -/
def Image.info (i : Image) : ModeInfo := (modeInfo i.mode).getD ⟨512, 512, 120, 11520, 16⟩

/-- The TL port that carries logical tile `t`, none where it is absent (R30). -/
def Image.port (i : Image) (t : Nat) : Option Nat := if i.portMap.getD t 0xFF < 12 then some (i.portMap.getD t 0xFF) else none

/-- The logical tile that port `p` carries (R30). -/
def Image.tileOf (i : Image) (p : Nat) : Option Nat := (List.range 12).find? (fun t => i.port t == some p)

/-- The logical tiles that the port map marks present, in ascending order. -/
def Image.tiles (i : Image) : List Nat := (List.range 12).filter (fun t => (i.port t).isSome)

/-- The mapped ports, in ascending order. -/
def Image.ports (i : Image) : List Nat := (List.range 12).filter (fun p => (i.tileOf p).isSome)

/-- Port `p` is mapped. -/
def Image.mapped (i : Image) (p : Nat) : Bool := (i.tileOf p).isSome

/-- The column edge (`e` 0 to 2) or row edge (`e` 3 to 5) of logical tile `t` (R31). -/
def Image.edge (i : Image) (t e : Nat) : Nat := leAt i.zoneGrid (16 * t + 2 * e) 2

/-- The zone of pixel (x, y) of logical tile `t` (R31). -/
def Image.zone (i : Image) (t x y : Nat) : Nat :=
  let band (o v : Nat) : Nat := ((List.range 3).filter (fun e => decide (i.edge t (o + e) ≤ v))).length
  4 * band 3 y + band 0 x

/-- The colour class of pixel (x, y) of logical tile `t` (R32). -/
def Image.cls (i : Image) (t x y : Nat) : Nat := bits (i.classes.getD t 0) (2 * (4 * (y % 4) + x % 4)) 2

/-- The global zone index of a pixel (R100): TL port number × 16 + zone. -/
def Image.gzone (i : Image) (t x y : Nat) : Nat := (i.port t).getD 0 * 16 + i.zone t x y

/-- Bytes between the two DD buffers (R109). -/
def ddStrideOf (m : ModeInfo) : Nat := 4096 + 12 * m.w * m.h * 4

/-- The structure-image key of the current life-cycle state (spec/20_identity_lifecycle.md R468). -/
def State.imageKey (s : State) : Option (Nat × Nat) :=
  match s.part.lcBoot with
  | 0 => some Config.adeiqMfgKey
  | 1 => s.ident.keys.owner
  | 2 => s.ident.keys.owner
  | 3 => some Config.adeiqReturnKey
  | _ => none

/-! The kernel catalogue (R24, R499). -/

/-- Pass and cost of a kernel: 1 = A, 2 = B, 3 = both (R24). -/
def kernelRow (k : Nat) : Option (Nat × Nat) :=
  match k with
  | 0x01 => some (1, 2)
  | 0x02 => some (1, 2)
  | 0x03 => some (1, 4)
  | 0x10 => some (1, 4)
  | 0x11 => some (1, 14)
  | 0x12 => some (1, 56)
  | 0x13 => some (1, 224)
  | 0x04 => some (1, 3)
  | 0x20 => some (1, 3)
  | 0x21 => some (1, 2)
  | 0x22 => some (1, 12)
  | 0x23 => some (1, 4)
  | 0x24 => some (1, 2)
  | 0x30 => some (2, 6)
  | 0x31 => some (2, 4)
  | 0x32 => some (2, 2)
  | 0x33 => some (2, 2)
  | 0x34 => some (2, 2)
  | 0x3F => some (3, 0)
  | _ => none

/-- The lane-ops per pixel of a kernel (R24). -/
def kernelCost (k : Nat) : Nat := ((kernelRow k).map (·.2)).getD 0

/-- A kernel with one instance per layer (R24). -/
def perLayer (k : Nat) : Bool := [0x01, 0x02, 0x03, 0x10, 0x11, 0x12, 0x13, 0x04].contains k

/-- One of the four WARP kernels (R24). -/
def isWarp (k : Nat) : Bool := decide (0x10 ≤ k ∧ k ≤ 0x13)

/-- The kernels that an instance of `k` can carry (R499). -/
def carriable (k : Nat) : List Nat :=
  if isWarp k then [0x01, 0x02, 0x03, 0x04] else if k = 0x20 then [0x21, 0x22, 0x23, 0x24] else if k = 0x30 then [0x31, 0x32, 0x33, 0x34] else []

/-- The cells of an instance (R499). -/
def instanceCells (cells : List CellEntry) (k l : Nat) : List CellEntry := cells.filter (fun c => c.kernel == k && c.layer == l)

/-- A used cell's entry keeps to R28. -/
def CellEntry.ok (c : CellEntry) (cfgLength : Nat) : Bool :=
  match kernelRow c.kernel with
  | none => false
  | some (pass, _) =>
    c.pass == pass && (if perLayer c.kernel then decide (c.layer < 8) else c.layer == 0xFF) &&
    decide (1 ≤ c.gangSize ∧ c.gangSize ≤ 32 ∧ c.gangPos < c.gangSize ∧ c.cfgLen ≤ 2048 ∧ c.cfgOffset + c.cfgLen ≤ cfgLength ∧ c.dataUnits ≤ 768)

/-- The used cells of a CELL_MAP. -/
def Image.used (i : Image) : List CellEntry := i.cells.filter (fun c => c.kernel != 0)

/-- The gang of every instance is whole: sizes agree and every position stands exactly once (R499). -/
def gangOk (cells : List CellEntry) (c : CellEntry) : Bool :=
  let g := instanceCells cells c.kernel c.layer
  g.all (fun d => d.gangSize == c.gangSize) && g.length == c.gangSize &&
  (List.range c.gangSize).all (fun p => g.any (fun d => d.gangPos == p))

/-- The WARP kernels that have an instance for layer `l`. -/
def Image.warps (i : Image) (l : Nat) : List Nat := [0x10, 0x11, 0x12, 0x13].filter (fun k => !(instanceCells i.cells k l).isEmpty)

/-- Layer `l` is in the layer mask (R30). -/
def Image.composes (i : Image) (l : Nat) : Bool := i.layerMask.testBit l

/-- The filter of layer `l`: 0 NEAREST, 1 BILINEAR, 2 AREA4, 3 AREA16 (spec/04_warp.md R98). -/
def Image.filter (i : Image) (l : Nat) : Nat := (i.warps l).headD 0x10 - 0x10

/-- Buffered source rows B of layer `l` (spec/04_warp.md R88). -/
def Image.bufRows (i : Image) (l : Nat) : Nat := i.rows.getD l 0

/-- CELL_MAP is valid (code 0x08): R28 and R499. Of an unused cell's entry nothing but KERNEL 0 is checked (DESIGN CHOICE; log entry 47), and
a KAL instance of more than one cell (R23) has this code (DESIGN CHOICE; log entry 49). -/
def Image.cellMapOk (i : Image) (spare : List Nat) : Bool :=
  let u := i.used
  u.all (fun c => c.ok i.config.length) && spare.all (· == 0) &&
  (List.range 128).all (fun c => i.cellMask.testBit c == ((i.cells.getD c {}).kernel != 0)) &&
  (List.range 4).all (fun q => i.quadMask.testBit q == (List.range 32).any (fun c => i.cellMask.testBit (32 * q + c))) &&
  decide (i.quadMask < 16) && u.all (gangOk u) &&
  (List.range 8).all (fun l => !i.composes l || (i.warps l).length == 1) &&
  !(instanceCells u 0x20 0xFF).isEmpty && !(instanceCells u 0x30 0xFF).isEmpty && (instanceCells u 0x3F 0xFF).length == 1

/-- Lane-ops per pixel of an instance with what it carries (R23, R499). -/
def Image.cost (i : Image) (c : CellEntry) : Nat :=
  kernelCost c.kernel + (((carriable c.kernel).filter (fun k => (instanceCells i.cells k c.layer).isEmpty)).map kernelCost).sum

/-- An instance has the cells that R23 requires. -/
def Image.capacityOk (i : Image) (c : CellEntry) : Bool :=
  let m := i.info
  let ports := i.ports.length
  if c.kernel = 0x3F then true
  else if c.pass = 1 then decide (i.cost c * (ports * m.w * m.h * m.rate) ≤ c.gangSize * 5760000000)
  else decide (i.cost c * (ports * m.w * 800000000) ≤ c.gangSize * 5760000000 * m.clk)

/-- The routing of one link (R22, R29): `d` is 0 N, 1 E, 2 S, 3 W of cell `c`. -/
def Image.linkOk (i : Image) (c d : Nat) : Bool :=
  let ws := (List.range 4).map (fun r => i.routing.getD ((4 * c + d) * 4 + r) 0)
  let v := ws.filter (fun w => w.testBit 15)
  let edge := (d == 0 && decide (c < 16)) || (d == 2 && decide (112 ≤ c))
  v.all (fun w => bits w 11 4 != 0 && !edge) && decide ((v.map (fun w => bits w 11 4)).sum ≤ 14)

/-- MODE_PORT is valid (code 0x0D, R30, R126). -/
def modePortOk (i : Image) (raw : List Byte) (hdrMode hdrProfile : Nat) : Bool :=
  (modeInfo i.mode).isSome && decide (i.profile ≤ 5) && byteAt raw 3 == 0 && (raw.drop 16).all (· == 0) &&
  i.portMap.all (fun p => decide (p < 12) || p == 0xFF) &&
  (List.range 12).all (fun p => decide ((i.portMap.filter (· == p)).length ≤ 1)) && hdrMode == i.mode && hdrProfile == i.profile

/-- The zone grid of a present tile is valid (R31). -/
def Image.gridOk (i : Image) (t : Nat) : Bool :=
  let e := i.edge t
  (List.range 6).all (fun k => e k % 8 == 0) && (slice i.zoneGrid (16 * t + 12) 4).all (· == 0) &&
  decide (0 < e 0 ∧ e 0 < e 1 ∧ e 1 < e 2 ∧ e 2 < i.info.w) && decide (0 < e 3 ∧ e 3 < e 4 ∧ e 4 < e 5 ∧ e 5 < i.info.h)

/-- The RESOURCE entry of a composed layer is valid (spec/04_warp.md R90): a row takes 4 bytes for each pixel, rounded up to a multiple of 64
bytes (DEDUCED; log entry 47). -/
def Image.resourceOk (i : Image) (l : Nat) : Bool :=
  let b := i.bufRows l
  let least := if i.filter l = 0 then 1 else if i.filter l = 1 then 2 else 3
  let rowBytes := (4 * i.maxWidth.getD l 0 + 63) / 64 * 64
  let cells := (instanceCells i.cells (0x10 + i.filter l) l).length
  decide (least ≤ b ∧ b ≤ 1024 ∧ b * rowBytes ≤ 40960 * cells)

/-- The cells of an image that run in pass A or KAL, as R38 counts them. -/
def Image.passACells (i : Image) : List Nat := (List.range 128).filter (fun c => [1, 3].contains (i.cells.getD c {}).pass && (i.cells.getD c {}).kernel != 0)
/-- The cells of an image that run in pass B or KAL. -/
def Image.passBCells (i : Image) : List Nat := (List.range 128).filter (fun c => [2, 3].contains (i.cells.getD c {}).pass && (i.cells.getD c {}).kernel != 0)

/-! The loader. -/

/-- One entry of the section table (R27). -/
structure Section where
  type   : Nat
  flags  : Nat
  offset : Nat
  length : Nat
  crc    : Nat
deriving DecidableEq, Repr

/-- The entry in 16 bytes. -/
def sectionAt (bs : List Byte) (o : Nat) : Section :=
  { type := leAt bs o 2, flags := leAt bs (o + 2) 2, offset := leAt bs (o + 4) 4, length := leAt bs (o + 8) 4, crc := leAt bs (o + 12) 4 }

/-- The section's type allows its length (R27). -/
def Section.lengthOk (x : Section) : Bool :=
  match x.type with
  | 1 => x.length == 2048
  | 2 => x.length == 4096
  | 3 => x.length == 32
  | 4 => x.length == 192
  | 5 => x.length == 64
  | 6 => x.length == 192
  | 7 => decide (x.length ≤ 262144)
  | 8 => x.length == 64
  | _ => false

/-- Two extents do not overlap. -/
def apart (a n b m : Nat) : Bool := decide (a + n ≤ b ∨ b + m ≤ a)

/-- The section table is valid (code 0x07, R27). -/
def tableOk (tab sig : Nat) (xs : List Section) : Bool :=
  tab % 64 == 0 && decide (64 ≤ tab ∧ tab + 128 ≤ sig) && xs.length == 8 &&
  xs.all (fun x => x.lengthOk && x.flags == 0 && x.offset % 64 == 0 && decide (64 ≤ x.offset ∧ x.offset + x.length ≤ sig) &&
    apart x.offset x.length tab 128) &&
  (List.range 8).all (fun i => (List.range 8).all (fun j => i == j ||
    (match xs[i]?, xs[j]? with
     | some a, some b => a.type != b.type && apart a.offset a.length b.offset b.length
     | _, _ => true)))

/-- The image that the sections hold. -/
def parseImage (hdr : List Byte) (sec : Nat → List Byte) : Image :=
  let mp := sec 3
  let cellAt (c : Nat) : CellEntry :=
    let b := slice (sec 1) (16 * c) 16
    { kernel := byteAt b 0, pass := byteAt b 1, layer := byteAt b 2, gangSize := byteAt b 3, gangPos := byteAt b 4, cfgOffset := leAt b 8 4,
      cfgLen := leAt b 12 2, dataUnits := leAt b 14 2 }
  { imageId := leAt hdr 0x18 4, cellMask := leAt hdr 0x24 16, quadMask := byteAt hdr 0x34, mode := byteAt mp 0, profile := byteAt mp 1,
    layerMask := byteAt mp 2, portMap := (List.range 12).map (fun t => byteAt mp (4 + t)), cells := (List.range 128).map cellAt,
    routing := (List.range 2048).map (fun r => leAt (sec 2) (2 * r) 2), zoneGrid := sec 4,
    classes := (List.range 12).map (fun t => leAt (sec 5) (4 * t) 4), known := sec 6, config := sec 7,
    rows := (List.range 8).map (fun l => leAt (sec 8) (8 * l) 2), maxWidth := (List.range 8).map (fun l => leAt (sec 8) (8 * l + 2) 2) }

/-- The offset of the first byte of an image that cannot be read: named by the command, or outside usable DRAM (R36). -/
def State.firstBad (s : State) (addr n : Nat) (err : Option Nat) : Nat :=
  let lim := if s.readable addr ∧ dramBase ≤ addr then dramBase + usableDram s.part.density - addr else 0
  min (min lim n) (err.getD n)

/-- The first failing section CRC or failing read in the order of the pass (R36, step 3). -/
def passError (xs : List Section) (img : Section → List Byte) (bad total : Nat) : Option (Nat × Nat) :=
  let ends := xs.filter (fun x => decide (x.offset + x.length ≤ bad) && crc32c (img x) != x.crc)
  let first := ends.foldl (fun a x => match a with
    | none => some x
    | some y => if x.offset + x.length < y.offset + y.length then some x else a) (none : Option Section)
  match first with
  | some x => some (6, x.type)
  | none => if bad < total then some (0x0E, 0) else none

/-- The checks of a load in the order of R36, steps 2 to 5: the image, or the error code and section. Reserved bytes for which R36 has no code
are not checked, and a section table that cannot be read gives 0x0E before the test of its place, 0x07; 0x07 is also the code of a TOTAL_LEN
other than SIG_OFFSET + 128 and of a SIG_OFFSET that is no multiple of 64, which R36 gives no code (DESIGN CHOICE; log entry 47). -/
def State.loadImage (s : State) (addr : Nat) (err : Option Nat) : Except (Nat × Nat) Image :=
  let hdr := s.bytes addr 64
  if s.firstBad addr 64 err < 64 then .error (0x0E, 0)
  else if leAt hdr 0 4 ≠ 0x49535952 ∨ leAt hdr 6 2 ≠ 0x40 ∨ leAt hdr 0x1C 2 ≠ 8 then .error (1, 0)
  else if leAt hdr 4 2 ≠ 0x100 then .error (2, 0)
  else if leAt hdr 0x10 2 ≠ 0x0A02 ∨ 0xB0 < byteAt hdr 0x12 then .error (3, 0)
  else if leAt hdr 0x16 2 ≠ s.rd Reg.SA_KLIB_VER_VER / 65536 ∨ s.rd Reg.SA_KLIB_VER_VER % 65536 < leAt hdr 0x14 2 then .error (4, 0)
  else
    let sig := leAt hdr 8 4
    let total := leAt hdr 0x0C 4
    let tab := leAt hdr 0x20 4
    if 8 * 1048576 < total ∨ total ≠ sig + 128 ∨ sig % 64 ≠ 0 then .error (7, 0)
    else if s.firstBad (addr + tab) 128 (err.bind (fun e => if tab ≤ e then some (e - tab) else none)) < 128 then .error (0x0E, 0)
    else
      let tb := s.bytes (addr + tab) 128
      let xs := (List.range 8).map (fun i => sectionAt tb (16 * i))
      if !tableOk tab sig xs then .error (7, 0)
      else
        let data (x : Section) : List Byte := s.bytes (addr + x.offset) x.length
        match passError xs data (s.firstBad addr total err) total with
        | some e => .error e
        | none =>
          let sec (t : Nat) : List Byte := ((xs.find? (fun x => x.type == t)).map data).getD []
          let img := parseImage hdr sec
          let spare := (List.range 128).flatMap (fun c =>
            if byteAt (sec 1) (16 * c) = 0 then [] else (slice (sec 1) (16 * c + 5) 3).map BitVec.toNat)
          if !img.cellMapOk spare then .error (8, 1)
          else if !(List.range 4).all (fun q => !img.quadMask.testBit q || s.domOn (6 + q)) then .error (0x0B, 0)
          else if !(List.range 128).all (fun c => !img.cellMask.testBit c || !s.on (Reg.SA_FENCE c)) then .error (0x0C, 0)
          else if !modePortOk img (sec 3) (byteAt hdr 0x35) (byteAt hdr 0x36) ||
              (s.on Reg.SA_CTRL_EN && decide (s.sa.ddStride < ddStrideOf img.info)) then .error (0x0D, 3)
          else if !img.tiles.all img.gridOk then .error (0x0D, 4)
          else if !(List.range 8).all (fun l => !img.composes l || img.resourceOk l) then .error (0x0D, 8)
          else if !img.used.all img.capacityOk then .error (9, 1)
          else if !(List.range 128).all (fun c => (List.range 4).all (img.linkOk c)) then .error (9, 2)
          else match s.imageKey with
            | none => .error (5, 0)
            | some k => if sigBlockOk k (s.bytes addr sig) (s.bytes (addr + sig) 128) then .ok img else .error (5, 0)

/-! Banks. -/

/-- VALID_A or VALID_B. -/
def bankValid (b : Nat) : Fld := if b = 0 then Reg.SA_STATUS_VALID_A else Reg.SA_STATUS_VALID_B
/-- SA_IMAGE_ID_A or SA_IMAGE_ID_B. -/
def bankId (b : Nat) : Fld := if b = 0 then Reg.SA_IMAGE_ID_A_IMAGE_ID else Reg.SA_IMAGE_ID_B_IMAGE_ID

/-- Some bank is valid, so that one is active (R34). -/
def State.anyBank (s : State) : Bool := s.on Reg.SA_STATUS_VALID_A || s.on Reg.SA_STATUS_VALID_B
/-- The active bank's number. -/
def State.active (s : State) : Nat := s.rd Reg.SA_STATUS_ACTIVE_BANK
/-- The image in a bank, whether or not it is valid. -/
def State.plane (s : State) (b : Nat) : Option Image := if b = 0 then s.sa.bank[0] else s.sa.bank[1]
/-- The image of a valid bank. -/
def State.bankImage (s : State) (b : Nat) : Option Image := if s.on (bankValid b) then s.plane b else none
/-- The image of the active bank. -/
def State.image (s : State) : Option Image := if s.anyBank then s.bankImage s.active else none
/-- The image whose pass B runs: that of the old bank until the boundary after a switch (R39). -/
def State.imageB (s : State) : Option Image := match s.sa.old with
  | some b => s.bankImage b
  | none => s.image
/-- The mode of the active bank. -/
def State.mode (s : State) : Option ModeInfo := s.image.map Image.info

/-- A bank maps a fenced cell. -/
def State.fencedIn (s : State) (i : Image) : Bool := (List.range 128).any (fun c => i.cellMask.testBit c && s.on (Reg.SA_FENCE c))
/-- Every quadrant of an image is ON. -/
def State.quadsOn (s : State) (i : Image) : Bool := (List.range 4).all (fun q => !i.quadMask.testBit q || s.domOn (6 + q))

/-- SA_QUAD_NEED.INACTIVE: QUAD_MASK of the load in progress, else of the inactive bank (R49). -/
def State.quadInactive (s : State) : Nat :=
  match s.sa.load with
  | some l => l.quads
  | none => ((s.bankImage (1 - s.active)).map (·.quadMask)).getD 0

/-- SA_STATUS, SA_QUAD_NEED and the layers' FILTER and BUF_ROWS follow the active bank (R49, spec/04_warp.md R98). FILTER and BUF_ROWS of a
layer that the active bank does not compose read 0 (DESIGN CHOICE; log entry 47). -/
def State.showBank (s : State) : State :=
  let i := s.image.getD {}
  let s := (((s.wr Reg.SA_STATUS_PROFILE i.profile).wr Reg.SA_STATUS_MODE i.mode).wr Reg.SA_QUAD_NEED_ACTIVE i.quadMask).wr
    Reg.SA_QUAD_NEED_INACTIVE s.quadInactive
  s.forFin fun (l : Fin 8) s =>
    (s.wr (Reg.LAYER_L_WARP_STATUS_FILTER l) (if i.composes l then i.filter l else 0)).wr (Reg.LAYER_L_WARP_STATUS_BUF_ROWS l)
      (if i.composes l then i.bufRows l else 0)

/-- A bank becomes not valid and empty. -/
def State.dropBank (s : State) (b : Nat) : State :=
  let s := (s.wr (bankValid b) 0).wr (bankId b) 0
  { s with sa := { s.sa with bank := if b = 0 then s.sa.bank.set 0 none else s.sa.bank.set 1 none } }

/-- A load ends with a failure (R36): the target bank is left invalid. -/
def State.loadFail (s : State) (code sec : Nat) : State :=
  let s := { s with sa := { s.sa with load := none } }
  let s := ((s.wr Reg.SA_LOAD_CTRL_START 0).wr Reg.SA_LOAD_STATUS_BUSY 0).wr Reg.SA_STATUS_LOAD_BUSY 0
  let s := ((s.wr Reg.SA_LOAD_STATUS_DONE 0).wr Reg.SA_LOAD_STATUS_ERR 1).wr Reg.SA_LOAD_STATUS_ERR_CODE code
  (((s.wr Reg.SA_LOAD_STATUS_ERR_SECTION sec).showBank).fire 10).raise FLT_SA_IMAGE 0x2008001C

/-- The other bank takes over as active bank: ACTIVE_BANK reads it and SA_SWITCH fires (R41). -/
def State.switchTo (s : State) (b : Nat) : State :=
  (((s.wr Reg.SA_STATUS_ACTIVE_BANK b).wr Reg.SA_STATUS_SWITCH_PEND 0).showBank).fire 11

end Sys2Proof.Machine
end

