-- ==== Sys2Proof/Machine/ThmOps.lean ====
section
/-! DEFINITION. The operations of the thermal model that other blocks use: limits, zone power, tile sensors, corrected conversions
(spec/11_thermal.md R259 to R269; spec/12_calibration.md R277). -/

namespace Sys2Proof.Machine

/-- A raw conversion of range `r`, corrected (spec/12 R277). -/
def State.adc (s : State) (r c : Nat) : Nat :=
  (clampI 0 4095 ((((c : Int) * 16 - signed 16 (s.rd (Reg.CAL_ADC_CORR_OFS r))) * (s.rd (Reg.CAL_ADC_CORR_GAIN r) : Int) + 131072) / 262144)).toNat

/-- The mean of `n` values that sum to `t`, rounded down (log entry 16); 0 of none. -/
def meanOf (t n : Nat) : Nat := if n = 0 then 0 else t / n

/-- The logical tile of a global zone in the active bank (R100). -/
def State.tileOfZone (s : State) (g : Nat) : Option Nat := match s.image with
  | some i => i.tileOf (g / 16)
  | none => none

/-- The TL port of a logical tile in the active bank. -/
def State.portOfTile (s : State) (t : Nat) : Option Nat := match s.image with
  | some i => i.port t
  | none => none

/-- A zone of the vector replaced. -/
def State.setZone (s : State) (g : Fin 192) (z : ThmZone) : State := { s with thm := { s.thm with zone := s.thm.zone.set g z } }
/-- A tile of the vector replaced. -/
def State.setTile (s : State) (t : Fin 12) (x : ThmTile) : State := { s with thm := { s.thm with tile := s.thm.tile.set t x } }

/-- THM follows the lead: on the understudy of a pair that mirrors it (spec/18 R426). -/
def State.thmFollows (s : State) : Bool := s.understudy && s.mirrors 0x200F0000

/-- The T_z that the lead has sent for a zone, on the understudy of a pair (R269, spec/18 R426). -/
def State.leadT (s : State) (g : Nat) : Option Nat := if s.thmFollows then s.thm.leadT[g]? else none
/-- The ZLIM that the lead has sent for a zone, on the understudy of a pair (R269, spec/18 R426). -/
def State.leadZ (s : State) (g : Nat) : Option Nat := if s.thmFollows then s.thm.leadZ[g]? else none
/-- The limit that selects zone `g` in frame `no`: on the understudy that of the lead's packet of the frame where it has come (spec/18 R426). -/
def State.zlimFor (s : State) (no g : Nat) : Nat :=
  match (if s.thmFollows then s.pair.zlim.find? (fun e => e.1 == no) else none) with
  | some e => e.2.getD g 0
  | none => s.rd (Reg.THM_ZLIM_ZLIM g)
/-- The THERM stage of frame `no` waits for the lead's temperatures (spec/18 R426). -/
def State.thermWaits (s : State) (no : Nat) : Bool := s.thmFollows && s.lv Reg.SA_DRV_CTRL_THERM_EN == 1 && s.pair.thermOf != some no

/-- The published limit of a zone (R269): the least of ZT, ZL and, for a zone that holds a STUCK_ON pixel with STUCK_ZLIM set, 0
(spec/09 R229). -/
def State.zlimOf (s : State) (g : Fin 192) : Nat :=
  match s.leadZ g with
  | some z => z
  | none =>
    if s.hlth.stuck[g] && s.on Reg.HLTH_CTRL_STUCK_ZLIM then 0
    else min (s.rd (Reg.THM_ZLIM_ZT g)) (s.rd (Reg.LSC_ZL g))

/-- THM publishes ZLIM (R266, R269). -/
def State.showZlim (s : State) : State := s.forFin fun (g : Fin 192) s => s.wr (Reg.THM_ZLIM_ZLIM g) (s.zlimOf g)

/-- ZFLOOR as it is live in SA_DRV_CTRL (R269). -/
def State.zfloor (s : State) : Nat := s.lv Reg.SA_DRV_CTRL_ZFLOOR

/-- Effective step, zref and thermal limit of a zone follow its k_z and k_tot (R269). The flag says that k left or returned to 32. -/
def State.limitZone (s : State) (g : Fin 192) : State × Bool :=
  let z := s.thm.zone[g]
  let old := s.rd (Reg.THM_ZLIM_K g)
  let k := min z.kz (s.rd Reg.THM_STATUS_KTOT)
  let s := s.wr (Reg.THM_ZLIM_K g) k
  let s := if k < 32 ∧ old = 32 then s.wr (Reg.THM_ZLIM_ZREF g) (max z.z s.zfloor) else s
  let zt := if k = 32 then 255 else max s.zfloor ((s.rd (Reg.THM_ZLIM_ZREF g) * k + 16) / 32)
  (s.wr (Reg.THM_ZLIM_ZT g) zt, (k == 32) != (old == 32))

/-- Every zone's limit follows, with THR and FORCED, and ZLIM is published (R266, R269, R273). -/
def State.limitZones (s : State) : State :=
  let r := (List.finRange 192).foldl (fun (r : State × Bool) g => let q := r.1.limitZone g; (q.1, r.2 || q.2)) (s, false)
  let s := r.1
  let s := s.wrB Reg.THM_STATUS_THR ((List.finRange 192).any fun (g : Fin 192) => decide (s.rd (Reg.THM_ZLIM_K g) < 32))
  let s := (s.wrB Reg.THM_STATUS_FORCED ((List.finRange 192).any fun (g : Fin 192) => s.thm.zone[g].kz == 0)).showZlim
  if r.2 then s.fire 80 else s

/-- Zone power in mW (R264). -/
def zonePower (r : ZoneRec) (ki vavg heat : Nat) : Nat :=
  if r.zEff = 0 then 0 else r.sum * r.z * ki * vavg * heat / (r.zEff * 2 ^ 40 * 256000)

/-- ki as THM uses it (R264, spec/12 R282). -/
def State.kiUsed (s : State) : Nat := s.thm.ki.getD (s.lv Reg.THM_PWR_KI_DEF)

/-- The zones' power from the records of the frame on show, with ki and HEAT as they are in force (R264, spec/12 R282). -/
def State.zonePowers (s : State) : State :=
  s.forFin fun (g : Fin 192) s =>
    s.setZone g { s.thm.zone[g] with p := zonePower (s.thm.zone[g]).shown s.kiUsed s.thm.vavg (s.lv Reg.THM_PWR_HEAT) }

/-- The zone records of a frame that latches, and the mean VLED of the period that ended, become the zones' power (R264). -/
def State.takePower (s : State) (f : Frame) : State :=
  let s := { s with thm := { s.thm with vavg := s.rd Reg.LSC_FRAME_VAVG } }
  (s.forFin fun (g : Fin 192) s => s.setZone g { s.thm.zone[g] with shown := f.zone.getD g {} }).zonePowers

/-- The zone records that pass A reports at its end (R264, R269). -/
def State.takeRecords (s : State) (zs : List ZoneRec) : State :=
  s.forFin fun (g : Fin 192) s => s.setZone g { s.thm.zone[g] with z := (zs.getD g {}).z }

/-- P_z in force: PHOUSE while the tile reports HOUSE (R264). -/
def State.zoneP (s : State) (g : Fin 192) : Nat :=
  if s.on (Reg.TL_STATUS_HOUSE (g / 16)) then s.lv Reg.THM_LIMIT_PHOUSE else s.thm.zone[g].p

/-! Sensors. -/

/-- Sensor `k` of tile `t` as a suspect bit. -/
def tsSuspect (t k : Nat) : Fld := Reg.THM_TS_SUSPECT (8 * t + k)

/-- The readings of a sensor that count: valid and not suspect (R262). -/
def State.tileReading (s : State) (t : Fin 12) (k : Fin 8) : Option Int :=
  if s.on (tsSuspect t k) then none else (s.thm.tile[t]).temp[k]
/-- An NTC reading that counts. -/
def State.ntcReading (s : State) (k : Fin 8) : Option Int := if s.on (Reg.THM_SUSPECT_AIN k) then none else s.thm.ntc[k]

/-- The tile of logical tile `t` has a sensor `k`, as its CAPS says (spec/07 R154). -/
def State.fitted (s : State) (t : Fin 12) (k : Fin 8) : Bool :=
  match s.portOfTile t with
  | none => false
  | some p => decide (k.val < byteAt (s.tl.port[Fin.ofNat 12 p]).caps 18)

/-- THM_STATUS.SUSPECT: a sensor is suspect or invalid (R275). Sensors that a tile does not fit are not counted (log entry 14). -/
def State.showSuspect (s : State) : State :=
  let ain := (List.finRange 8).any fun (k : Fin 8) => s.on (Reg.THM_SUSPECT_AIN k) || ((s.rd Reg.THM_AIN_NTC).testBit k && (s.thm.ntc[k]).isNone)
  let tile := (List.finRange 12).any fun (t : Fin 12) => (List.finRange 8).any fun (k : Fin 8) =>
    s.on (tsSuspect t k) || (s.fitted t k && ((s.thm.tile[t]).temp[k]).isNone)
  s.wrB Reg.THM_STATUS_SUSPECT (ain || tile)

/-- A sensor becomes suspect or invalid (R262, R273). -/
def State.sensorFault (s : State) (addr : Nat) : State := (s.fire 82).raise FLT_THM_SENSOR addr

/-- A reading of sensor `k` of tile `t` arrives; a fitted sensor that becomes invalid is reported once (R259, R262). -/
def State.takeTemp (s : State) (t : Fin 12) (k : Fin 8) (v : Option Int) : State :=
  let x := s.thm.tile[t]
  let bad := s.fitted t k && v.isNone
  let s' := s.setTile t { x with temp := x.temp.set k v, bad := x.bad.set k bad }
  if bad && !x.bad[k] then s'.sensorFault (0x200F0024 + t / 4 * 4) else s'

/-- The tile sensor readings of an accepted HEALTH from the port that owns the tile (R259): 0x8000 is invalid. -/
def State.thmHealth (s : State) (t : Fin 12) (data : List Byte) : State :=
  (s.forFin fun (k : Fin 8) s =>
    let w := leAt data (32 + 2 * k) 2
    s.takeTemp t k (if w = 0x8000 then none else some (signed 16 w))).showSuspect

/-- Every sensor of tile `t` becomes invalid (R259). -/
def State.thmSilent (s : State) (t : Fin 12) : State := (s.forFin fun (k : Fin 8) s => s.takeTemp t k none).showSuspect

end Sys2Proof.Machine
end

