-- ==== Sys2Proof/Machine/Blocks.lean ====
section
/-! DEFINITION. The line code of the tile and partner lanes: 64b/66b blocks, their scrambler, packets in blocks, the training burst, and the
test patterns (spec/08_serial_lanes.md R196 to R199, R203, R209). A block's payload is a 64-bit number whose bit i is the i-th bit sent, and
a sync header is written as R196 writes it: 01 is 1, 10 is 2. -/

namespace Sys2Proof.Machine

/-! Blocks (R196, R197). -/

/-- The type byte of TERMk (R197). -/
def termType (k : Nat) : Nat :=
  match k with
  | 0 => 0x87
  | 1 => 0x99
  | 2 => 0xAA
  | 3 => 0xB4
  | 4 => 0xCC
  | 5 => 0xD2
  | 6 => 0xE1
  | _ => 0xFF

/-- FILL, START and TERMk, as sync header and payload bytes (R197). -/
def fillBlock : Nat × List Byte := (2, leBytes 1 0x1E ++ List.replicate 7 0)
def startBlock (bs : List Byte) : Nat × List Byte := (2, leBytes 1 0x78 ++ bs)
def termBlock (bs : List Byte) : Nat × List Byte := (2, leBytes 1 (termType bs.length) ++ bs ++ List.replicate (7 - bs.length) 0)

/-- The data blocks and the TERM block of the rest of a packet (R198). -/
def restBlocks : Nat → List Byte → List (Nat × List Byte)
  | 0, bs => [termBlock bs]
  | n + 1, bs => if bs.length < 8 then [termBlock bs] else (1, bs.take 8) :: restBlocks n (bs.drop 8)

/-- The blocks of a packet (R198). -/
def packetBlocks (bs : List Byte) : List (Nat × List Byte) := startBlock (bs.take 7) :: restBlocks bs.length (bs.drop 7)

/-! The scrambler x^58 + x^39 + 1 (R196). Its register holds the last 58 bits sent, the newest in bit 0. -/

/-- One bit scrambled: the register after it, and the bit sent. -/
def scrambleBit (r : Nat) (d : Bool) : Nat × Bool :=
  let b := d ^^ r.testBit 38 ^^ r.testBit 57
  ((2 * r + b2n b) % 2 ^ 58, b)

/-- A payload scrambled: the register after it, and the bits sent. -/
def scramble (r w : Nat) : Nat × Nat :=
  (List.range 64).foldl (fun (a : Nat × Nat) i =>
    let q := scrambleBit a.1 (w.testBit i)
    (q.1, a.2 + b2n q.2 * 2 ^ i)) (r, 0)

/-- A payload descrambled: the register of the bits received, and the payload. -/
def descramble (r w : Nat) : Nat × Nat :=
  (List.range 64).foldl (fun (a : Nat × Nat) i =>
    let b := w.testBit i
    ((2 * a.1 + b2n b) % 2 ^ 58, a.2 + b2n (b ^^ a.1.testBit 38 ^^ a.1.testBit 57) * 2 ^ i)) (r, 0)

/-! Reception (R198, R199). -/

/-- What a run of received blocks brings: nothing, a packet's bytes, or the truncation of the open packet. -/
inductive Received where
  | nothing
  | packet (bs : List Byte)
  | truncated
deriving DecidableEq, Repr

/-- The number of packet bytes that a TERM type carries. -/
def termCount (t : Nat) : Option Nat := (List.range 8).find? (fun k => termType k == t)

/-- The receiver over descrambled blocks, with the packet that is open (R199). -/
def receive : Option (List Byte) → List (BitVec 2 × BitVec 64) → Received
  | some _, [] => .truncated
  | none, [] => .nothing
  | o, (h, w) :: r =>
    let bs := leBytes 8 w.toNat
    let t := byteAt bs 0
    match h.toNat, o with
    | 1, some p => receive (some (p ++ bs)) r
    | 2, some p => match termCount t with
      | some k => .packet (p ++ (bs.drop 1).take k)
      | none => .truncated
    | 2, none => if t = 0x78 then receive (some (bs.drop 1)) r else if t = 0x1E then receive none r else .truncated
    | _, _ => .truncated

/-! The training burst (R203). -/

/-- The marker. -/
abbrev burstMarker : Nat := 0xF0CA35D2

/-- The burst in the order it is sent, bit 0 first: 96 alternating bits from 1, then the marker from its most significant bit. -/
def burstBits : Nat :=
  (List.range 48).foldl (fun a i => a + 4 ^ i) 0 + ((List.range 32).foldl (fun a i => a + b2n (burstMarker.testBit (31 - i)) * 2 ^ i) 0) * 2 ^ 96

/-- A receiver accepts up to two bit errors in the marker (R203). -/
def markerFound (w : Nat) : Bool := decide (((List.range 32).filter (fun i => w.testBit i != burstMarker.testBit i)).length ≤ 2)

/-! Test patterns (R209). A register holds the last bits of the pattern, the newest in bit 0. -/

/-- The length and the second tap of a pattern's polynomial: PRBS7, PRBS15, PRBS23, PRBS31. -/
def prbsTaps (pat : Nat) : Nat × Nat :=
  match pat with
  | 1 => (7, 6)
  | 2 => (15, 14)
  | 3 => (23, 18)
  | _ => (31, 28)

/-- The next bit of a pattern. -/
def prbsNext (pat r : Nat) : Bool := r.testBit ((prbsTaps pat).1 - 1) ^^ r.testBit ((prbsTaps pat).2 - 1)
/-- A bit enters a pattern register. -/
def prbsShift (pat r : Nat) (b : Bool) : Nat := (2 * r + b2n b) % 2 ^ (prbsTaps pat).1

/-- `n` bits of a pattern: the register after them, and the bits, first one first. -/
def prbsRun (pat : Nat) : Nat → Nat → Nat × List Bool
  | 0, r => (r, [])
  | n + 1, r =>
    let b := prbsNext pat r
    let q := prbsRun pat n (prbsShift pat r b)
    (q.1, b :: q.2)

/-- What a checker holds: its register, the bits without error in a row, whether it is synchronised, and the bits in error counted. -/
structure Checker where
  reg : Nat
  run : Nat
  sync : Bool
  errs : Nat
deriving DecidableEq, Repr

/-- The checker takes a received bit (R209): until it is synchronised it loads the bit; 64 bits in a row without error synchronise it; from
then on it runs by itself and counts each bit in error. -/
def Checker.take (pat : Nat) (c : Checker) (b : Bool) : Checker :=
  let e := prbsNext pat c.reg
  if c.sync then { c with reg := prbsShift pat c.reg e, errs := c.errs + b2n (b != e) }
  else
    let n := if b == e then c.run + 1 else 0
    { reg := prbsShift pat c.reg b, run := n, sync := decide (64 ≤ n), errs := 0 }

end Sys2Proof.Machine
end

