-- ==== Sys2Proof/Machine/TlOps.lean ====
section
/-! DEFINITION. The operations of the serial lanes and tile ports that other blocks use: electrical idle, port states, packets sent
(spec/07_onvik_tile_link.md R148 to R164, R189 to R193; spec/08_serial_lanes.md R202 to R213). -/

namespace Sys2Proof.Machine

/-! Lanes. -/

/-- A lane of the vector replaced. -/
def State.setLane (s : State) (j : Fin 15) (x : LanePair) : State := { s with lane := { s.lane with pair := s.lane.pair.set j x } }

/-- The lane's state register changes: entering or leaving LOCKED (5) fires LANE_LOCK (R211). -/
def State.laneState (s : State) (j : Fin 15) (st : Nat) : State :=
  let old := s.rd (Reg.LANE_STATUS_STATE j)
  let t := s.wr (Reg.LANE_STATUS_STATE j) st
  if (old == 5) != (st == 5) then t.fire 40 else t

/-- The lane is in test: a pattern is selected for its generator or its checker (R209). -/
def patternOf (w : Nat) : Nat := if w ≤ 4 then w else 0
def State.laneTest (s : State) (j : Fin 15) : Bool :=
  patternOf (s.rd (Reg.LANE_CTRL_PRBS_TX j)) != 0 || patternOf (s.rd (Reg.LANE_CTRL_PRBS_RX j)) != 0

/-- The port or unit that owns a lane is enabled (R195). -/
def State.laneOwned (s : State) (j : Fin 15) : Bool :=
  if j < 12 then s.on (Reg.TL_CTRL_EN j) else if j = 12 then s.on Reg.PAIR_CTRL_EN else s.on (Reg.NET_CTRL_EN (j - 13))

/-- The active bank maps the port (R30). -/
def State.isMapped (s : State) (p : Nat) : Bool := match s.image with
  | some i => i.mapped p
  | none => false

/-- A condition of R202 holds the TX lane in electrical idle. -/
def State.laneIdle (s : State) (j : Fin 15) : Bool :=
  s.on (Reg.LANE_CTRL_IDLE_REQ j) ||
  (if j < 12 then
    !s.on (Reg.TL_CTRL_EN j) || !s.isMapped j || s.on (Reg.TL_STATUS_FENCED j) ||
    [0, 4].contains (s.rd (Reg.TL_STATUS_STATE j))
  else !s.laneOwned j)

/-- The eye score of openings `h` and `v` (R206). -/
def eyeScore (h v : Nat) : Nat := 255 * h * v / 4096

/-- LANE_EYE shows a window (R206). -/
def State.showEye (s : State) (j : Fin 15) (h v : Nat) : State :=
  ((s.wr (Reg.LANE_EYE_SCORE j) (eyeScore h v)).wr (Reg.LANE_EYE_H j) h).wr (Reg.LANE_EYE_V j) v

/-- The receiver has lost lock or must lock anew. -/
def State.laneUnlock (s : State) (j : Fin 15) : State :=
  (s.wr (Reg.LANE_STATUS_CDR_LOCK j) 0).wr (Reg.LANE_STATUS_BLOCK_LOCK j) 0

/-- LANE_STATUS.RATE of the partner lane and of the network lanes follows their owner (R195, spec/18 R421, spec/13 R290); that of a tile
lane its training. A receiver whose rate changes locks and adapts anew (R208). -/
def State.showRate (s : State) (j : Fin 15) : State :=
  if j < 12 then s
  else
    let r := if j = 12 then s.rd Reg.PAIR_CTRL_RATE else s.rd (Reg.NET_CTRL_MODE (j - 13))
    let t := s.wr (Reg.LANE_STATUS_RATE j) r
    if t.rd (Reg.LANE_STATUS_RATE j) = s.rd (Reg.LANE_STATUS_RATE j) then t
    else
      let t := t.laneUnlock j
      let st := t.rd (Reg.LANE_STATUS_STATE j)
      if st = 4 ∨ st = 5 then t.laneState j 3 else t

/-- The lane's state follows the conditions of R202: into idle, or out of it by a training burst (R203). -/
def State.showLane (s : State) (j : Fin 15) : State :=
  let s := if s.laneOwned j then s.showRate j else s
  let st := s.rd (Reg.LANE_STATUS_STATE j)
  if s.laneTest j then (if st = 6 then s else s.laneState j 6)
  else if s.laneIdle j then
    (if (st = 0 ∧ !s.laneOwned j) ∨ st = 1 then s else s.laneState j 1)
  else if st = 0 ∨ st = 1 ∨ st = 6 then s.laneState j 2
  else s

/-- A block leaves the lane (R196): its payload scrambled; on the payload of a data block the oldest injection that waits inverts its bits
(R210). -/
def State.laneBlock (s : State) (j : Fin 15) (b : Nat × List Byte) : State :=
  let x := s.lane.pair[j]
  let q := scramble x.scr (le b.2)
  let n := if b.1 = 1 then x.inject.headD 0 else 0
  s.setLane j { x with scr := q.1, line := x.line ++ [.block (BitVec.ofNat 2 b.1) (BitVec.ofNat 64 (q.2 ^^^ (2 ^ n - 1)))],
                       inject := if b.1 = 1 then x.inject.tail else x.inject }

/-- A packet leaves the lane in blocks, and fill follows it (R197, R198; log entry 43). -/
def State.lanePacket (s : State) (j : Fin 15) (bs : List Byte) : State :=
  (packetBlocks bs ++ [fillBlock]).foldl (fun s b => s.laneBlock j b) s

/-- Under LOOPBACK a lane's receiver takes only what the lane itself has sent (R209): `sent` holds its packets, `data` is one that arrives
without its trailer. -/
def State.laneReaches (s : State) (j : Fin 15) (sent : List (List Byte)) (data : List Byte) : Bool :=
  !s.on (Reg.LANE_CTRL_LOOPBACK j) || sent.any (fun b => b.take (b.length - 4) == data)

/-! Ports. -/

/-- A port of the vector. -/
def State.port (s : State) (p : Fin 12) : TlPort := s.tl.port[p]
/-- A port replaced. -/
def State.setPort (s : State) (p : Fin 12) (x : TlPort) : State := { s with tl := { s.tl with port := s.tl.port.set p x } }
/-- The lane of a tile port. -/
def tlLane (p : Fin 12) : Fin 15 := Fin.ofNat 15 p
/-- The register address of a port, which its faults carry (R193). -/
def tlAddr (p : Fin 12) : Nat := 0x200B0000 + p * 0x1000
/-- STATE of the port: 0 DOWN, 1 TRAINING, 2 READY, 3 STREAMING, 4 SILENT, 5 FAILED. -/
def State.tlState (s : State) (p : Fin 12) : Nat := s.rd (Reg.TL_STATUS_STATE p)
/-- READY or STREAMING. -/
def State.tlUp (s : State) (p : Fin 12) : Bool := s.tlState p == 2 || s.tlState p == 3
/-- The port receives: its lane is in use (R190, R191); a SILENT or FAILED port hears its tile too (log entry 31). -/
def State.tlHears (s : State) (p : Fin 12) : Bool := [1, 2, 3, 4, 5].contains (s.tlState p)
/-- The port takes part in the stream of this period. -/
def State.tlStreams (s : State) (p : Fin 12) : Bool := s.tlState p == 3 && s.isMapped p

/-- The port's STATE changes: TL_LINK fires on any change (R192), and its TX lane follows (R202). -/
def State.tlSet (s : State) (p : Fin 12) (st : Nat) : State :=
  if s.tlState p = st then s.showLane (tlLane p)
  else ((s.wr (Reg.TL_STATUS_STATE p) st).showLane (tlLane p)).fire (16 + 2 * p)

/-- The header of a packet (R149). -/
def tlHeader (type flags len epoch ftag : Nat) : List Byte :=
  leBytes 1 type ++ leBytes 1 flags ++ leBytes 2 len ++ leBytes 3 epoch ++ leBytes 1 ftag

/-- A whole packet: header, payload, CRC-32C trailer (R148). -/
def tlPacket (type flags epoch ftag : Nat) (payload : List Byte) : List Byte :=
  let b := tlHeader type flags payload.length epoch ftag ++ payload
  b ++ leBytes 4 (crc32c b)

/-- The received blocks hold a packet of the length that its header gives, and its trailer is wrong (R148, R189). -/
def badTrailer (blocks : List (BitVec 2 × BitVec 64)) : Bool :=
  match receive none blocks with
  | .packet bs => decide (12 ≤ bs.length) && leAt bs 2 2 + 12 == bs.length && crc32c (bs.take (bs.length - 4)) != leAt bs (bs.length - 4) 4
  | _ => false

/-- A packet leaves the port, unless the port sends none (R191) or its lane is held in idle or in test. -/
def State.tlSend (s : State) (p : Fin 12) (type flags ftag : Nat) (payload : List Byte) : State :=
  if s.on (Reg.TL_STATUS_FENCED p) || [0, 4].contains (s.tlState p) || s.on (Reg.LANE_CTRL_IDLE_REQ p) || s.laneTest (tlLane p) then s
  else
    let b := tlPacket type flags (s.rd (Reg.TL_EPOCH_EPOCH p)) ftag payload
    (s.setPort p { s.port p with out := (s.port p).out ++ [b] }).lanePacket (tlLane p) b

/-- IDLE, or a probe with its 16-bit ID (R157). -/
def State.tlIdle (s : State) (p : Fin 12) : State := s.tlSend p 0x3F 0 0 (List.replicate 4 0)

/-- The version in use is 2.0. -/
def State.tlV2 (s : State) (p : Fin 12) : Bool := s.rd (Reg.TL_STATUS_VER p) == 2

/-- CONFIG (R160), with its out-of-range values brought into range. -/
def State.tlConfig (s : State) (p : Fin 12) : State :=
  let v2 := s.tlV2 p
  let opts := if v2 then s.rd (Reg.TL_CTRL_RLE_EN p) + 2 * s.rd (Reg.TL_CTRL_BULK_EN p) else 0
  let mode := ((s.image).map Image.mode).getD 0
  let rate := (s.mode.map ModeInfo.rate).getD 0
  let tloss := max 5 (min 200 (s.rd (Reg.TL_CFG_TLOSS_MS p)))
  let hmax := max 1 (min 100 (s.rd (Reg.TL_CFG_HEALTH_MAX_MS p)))
  (s.tlSend p 0x02 0 0 (leBytes 1 (if v2 then 0x20 else 0x10) ++ leBytes 1 (s.rd (Reg.TL_STATUS_RATE p)) ++ leBytes 1 opts ++
    leBytes 1 p ++ leBytes 1 mode ++ [0] ++ leBytes 2 rate ++ leBytes 2 tloss ++ leBytes 2 hmax ++ List.replicate 20 0))

/-- EPOCH: a claim of TL_EPOCH (R186, R188). -/
def State.tlClaim (s : State) (p : Fin 12) : State :=
  s.tlSend p 0x40 0 0 (leBytes 3 (s.rd (Reg.TL_EPOCH_EPOCH p)) ++ List.replicate 5 0)

/-- CAP with the next CAP_SEQ (R172, R173). -/
def State.tlCap (s : State) (p : Fin 12) (z d : Nat) : State :=
  let q := (s.rd (Reg.TL_CAP_SENT_SEQ p) + 1) % 65536
  let t := (s.wr (Reg.TL_CAP_SENT_SEQ p) q).tlSend p 0x13 0 0 (leBytes 1 z ++ [0] ++ leBytes 2 d ++ leBytes 2 q ++ [0, 0])
  t.setPort p { t.port p with capWait := true }

/-- A lead, or a unit that is not paired, sends EPOCH at the end of a training (R153 step 7). -/
def State.leads (s : State) : Bool := !s.on Reg.PAIR_CTRL_EN || s.on Reg.PAIR_STATUS_LEAD

/-- The port goes DOWN, SILENT or FAILED; its share of the running stream is consumed and dropped (R190, R191). An upload that runs ends as R184
states, whatever the port's state. -/
def State.tlLeave (s : State) (p : Fin 12) (st : Nat) : State :=
  let x := s.port p
  let ends := x.ends || s.tlState p == 3 || (s.ft.stream.map (fun st => st.mapped.contains p.val)).getD false
  (s.setPort p { x with train := .none, cfgOk := false, ends := ends }).tlSet p st

/-- The port is held SILENT: by the island in FALLBACK once CAP (0, 0) has left (spec/14 R325), by a stopped Stage Array (spec/02 R47), or
by a mismatch (R161). -/
def State.tlHeld (s : State) (p : Fin 12) : Bool :=
  (s.on Reg.SAFE_CTRL_EN && s.rd Reg.SAFE_STATUS_STATE == 3 && !s.safe.silence) || (s.on Reg.SA_STATUS_STOPPED && s.isMapped p) ||
  (s.port p).mismatch

/-- Training starts (R153): the lane leaves idle and locks at 3.2 Gb/s. A port that is held stays SILENT; a fenced or unmapped port does not
train (R191, R30). -/
def State.tlTrain (s : State) (p : Fin 12) : State :=
  if s.on (Reg.TL_STATUS_FENCED p) || !s.isMapped p then s
  else if s.tlHeld p then s.tlSet p 4
  else
  let s := ((s.wr (Reg.TL_STATUS_VER p) 0).wr (Reg.TL_STATUS_RATE p) 0).wr (Reg.LANE_STATUS_RATE p) 0
  let s := (s.inc (Reg.TL_CNT2_RETRAIN p)).laneUnlock (tlLane p)
  let s := s.setPort p { s.port p with train := .lock, cfgOk := false }
  let s := s.laneState (tlLane p) 1
  s.tlSet p 1

/-- The link of a READY or STREAMING port is lost: DOWN, and FLT_TL_LINK if it was STREAMING (R190). -/
def State.tlLost (s : State) (p : Fin 12) : State :=
  let was := s.tlState p
  let s := s.tlLeave p 0
  if was = 3 then s.raise FLT_TL_LINK (tlAddr p) (some p) else s

/-- Training ends with a code: FAILED and FLT_TL_TRAIN (R156). -/
def State.tlFail (s : State) (p : Fin 12) (code : Nat) : State :=
  let s := (s.wr (Reg.TL_TRAIN_ERR_CODE p) code).fire (17 + 2 * p)
  (s.tlLeave p 5).raise FLT_TL_TRAIN (tlAddr p) (some p)

/-- The port is fenced (R191): it sends nothing until a block reset of TL or a chip reset. STATE, which has no code for a fence, reads
DOWN (log entry 19). -/
def State.tlFence (s : State) (p : Fin 12) : State := (s.wr (Reg.TL_STATUS_FENCED p) 1 |>.wr (Reg.TL_CTRL_FENCE p) 1).tlLeave p 0

/-- An enabled port that is not fenced enters SILENT (R191). -/
def State.tlSilence (s : State) (p : Fin 12) : State :=
  if s.on (Reg.TL_CTRL_EN p) && !s.on (Reg.TL_STATUS_FENCED p) then s.tlLeave p 4 else s

/-- Ports that nothing holds SILENT any longer go DOWN, from where they retrain as R190 states (spec/14 R325, spec/02 R47). -/
def State.tlRelease (s : State) : State :=
  s.forFin fun (p : Fin 12) s => if s.tlState p == 4 && !s.tlHeld p then s.tlSet p 0 else s

/-- Code 0x03 or 0x04 of R156, 0 where the tile's CAPS agree with the logical tile that the active bank maps to the port. -/
def State.tlGeometry (s : State) (p : Fin 12) : Nat :=
  match s.image with
  | none => 3
  | some i =>
    match i.tileOf p with
    | none => 3
    | some t =>
      let c := (s.port p).caps
      if leAt c 2 2 ≠ i.info.w ∨ leAt c 4 2 ≠ i.info.h then 3
      else if (List.range 6).any (fun e => leAt c (6 + 2 * e) 2 != i.edge t e) then 4 else 0

/-- CONFIG again and the checks of codes 0x03 and 0x04, at a set of FT_CTRL.EN that takes effect (R161). -/
def State.tlReconfig (s : State) : State :=
  s.forFin fun (p : Fin 12) s =>
    if !(s.isMapped p && s.tlState p == 2) then s
    else
      let s := s.tlConfig p
      let c := s.tlGeometry p
      if c = 0 then s
      else
        let s := s.setPort p { s.port p with mismatch := true }
        ((s.wr (Reg.TL_TRAIN_ERR_CODE p) c).fire (17 + 2 * p)).tlSilence p |>.raise FLT_TL_MISMATCH (tlAddr p) (some p)

end Sys2Proof.Machine
end

