-- ==== Sys2Proof/Machine/LscOps.lean ====
section
/-! DEFINITION. The operations of the LED supply controller that other blocks use: requirements, target, zone code limits, the
period record, headroom trim, commits, release (spec/10_led_supply.md R241 to R258). -/

namespace Sys2Proof.Machine

/-- The VF table at a code, in 10 mV units (R248). -/
def State.vf (s : State) (z : Nat) : Int :=
  let i := z / 16
  let a : Int := s.lv (Reg.LSC_VFTAB i)
  let b : Int := s.lv (Reg.LSC_VFTAB (i + 1))
  a + ((b - a) * (z % 16 : Nat) + 8) / 16

/-- The learned offset of a global zone (R248). -/
def State.lscOfs (s : State) (g : Nat) : Int := signed 8 (s.rd (Reg.LSC_OFS g))

/-- The LSC has power: LPWR is ON (spec/19 R436, R437). Without, it does nothing. -/
def State.lscPowered (s : State) : Bool := s.domOn 12

/-- The requirement of global zone `g` at code `z` > 0, in 10 mV units (R248). -/
def State.zoneReq (s : State) (g z : Nat) : Int := s.vf z + s.lscOfs g + s.lv Reg.LSC_HR_TGT

/-- The lit zones of mapped ports among a frame's codes, with their requirements (R248). -/
def State.litReqs (s : State) (codes : List Nat) : List (Nat × Int) :=
  (List.range 192).filterMap (fun g =>
    if s.isMapped (g / 16) && codes.getD g 0 != 0 then some (g, s.zoneReq g (codes.getD g 0)) else none)

/-- The neediest of zones, the lower number of a tie. -/
def neediest (rs : List (Nat × Int)) : Option (Nat × Int) :=
  rs.foldl (fun b r => match b with
    | none => some r
    | some q => if q.2 < r.2 then some r else b) none

/-- A frame's requirement, 0 with no zone lit (R248). -/
def State.frameReq (s : State) (codes : List Nat) : Int := ((neediest (s.litReqs codes)).map (·.2)).getD 0

/-- The largest code up to `n` whose requirement the limit carries, 0 if none (R253). -/
def State.zlFrom (s : State) (g : Nat) (lim : Int) : Nat → Nat
  | 0 => 0
  | n + 1 => if s.zoneReq g (n + 1) ≤ lim then n + 1 else s.zlFrom g lim n

/-- VMAX, or VHOUSE while released (R241, R253). -/
def State.lscMax (s : State) : Nat := if s.rd Reg.LSC_STATUS_STATE = 0 then s.rd Reg.LSC_VHOUSE_VHOUSE else s.lv Reg.LSC_VRANGE_VMAX

/-- A mapped tile reports HOUSE (R249). -/
def State.anyHouse (s : State) : Bool := (List.range 12).any (fun p => s.isMapped p && s.on (Reg.TL_STATUS_HOUSE p))

/-- RAMP: the setpoint differs from the target (R258). -/
def State.showRamp (s : State) : State :=
  let r := s.lsc.set != s.rd Reg.LSC_VSET_TARGET * 10000
  let s := (s.wr Reg.LSC_VSET_SET (s.lsc.set / 10000)).wrB Reg.LSC_STATUS_RAMP r
  if r then { s with lsc := { s.lsc with ramped := true } } else s

/-- LSC_NEEDY (R258): a requirement that the field cannot hold reads as a free value (log entry 16). -/
def State.showNeedy (s : State) : Option (Nat × Int) → State
  | none => s.wr Reg.LSC_NEEDY_REQ 0
  | some (g, r) =>
    let s := s.wr Reg.LSC_NEEDY_ZONE g
    if 0 ≤ r ∧ r < 1024 then s.wr Reg.LSC_NEEDY_REQ r.toNat
    else let f := s.fresh; f.2.wr Reg.LSC_NEEDY_REQ f.1

/-- The target is re-evaluated (R249), the zone code limits with it, and THM publishes (R253, spec/11 R269). -/
def State.lscEval (s : State) : State :=
  if !s.lscPowered then s.showZlim else
  let frames := s.lsc.pend ++ s.lsc.shown.toList
  let need := neediest (frames.flatMap (fun f => s.litReqs f.codes))
  let req := (need.map (·.2)).getD 0
  let lim := s.lscMax
  let t : Int := max (max (s.lv Reg.LSC_VRANGE_VMIN : Int) req) (if s.anyHouse then s.rd Reg.LSC_VHOUSE_VHOUSE else 0)
  let s := if (lim : Int) < req then (s.wr Reg.LSC_STATUS_VMAX_HIT 1).fire 85 else s
  let s := ((s.wr Reg.LSC_VSET_TARGET (min t lim).toNat).showNeedy need).showRamp
  (s.forFin fun (g : Fin 192) s => s.wr (Reg.LSC_ZL g) (s.zlFrom g lim 255)).showZlim

/-- The zone codes of a frame arrive at the end of its pass A (R249, spec/05 R112). -/
def State.lscCodes (s : State) (no : Nat) (codes : List Nat) : State :=
  if s.lscPowered then { s with lsc := { s.lsc with pend := s.lsc.pend ++ [({ no := no, codes := codes } : LscFrame)] } }.lscEval else s

/-- A frame leaves the frame set without having latched (R249). -/
def State.lscDrop (s : State) (no : Nat) : State :=
  if s.lsc.pend.any (·.no == no) then
    { s with lsc := { s.lsc with pend := s.lsc.pend.filter (fun f => f.no != no) } }.lscEval
  else s

/-- The first boundary after frame timing is enabled ends no period between two boundaries (R247): nothing is recorded, and what follows is a
new period. -/
def State.lscStart (s : State) : State :=
  if !s.lscPowered then s else
  { s with lsc := { s.lsc with vsum := 0, vcnt := 0, isum := .replicate 4 0, icnt := .replicate 4 0, ramped := s.on Reg.LSC_STATUS_RAMP } }.lscEval

/-- What the LSC does at a boundary: the record of the period that ends (R247, R251), the frame that latches goes on show (R249), and the
target is re-evaluated. -/
def State.lscBoundary (s : State) (latched : Option Nat) : State :=
  if !s.lscPowered then s else
  let x := s.lsc
  let vavg := meanOf x.vsum x.vcnt
  let iavg := ((List.finRange 4).map (fun (k : Fin 4) => meanOf x.isum[k] x.icnt[k])).sum
  let rec' : LscPeriod := { ended := latched, codes := (x.shown.map (·.codes)).getD [], vavg := vavg }
  let shown := match latched with
    | none => x.shown
    | some n => match x.pend.find? (fun f => f.no == n) with
      | some f => some f
      | none => x.shown
  let pend := match latched with
    | none => x.pend
    | some n => x.pend.filter (fun f => f.no != n)
  let s := { s with lsc := { x with
    shown := shown, pend := pend, period := (rec' :: x.period).take 4, vsum := 0, vcnt := 0,
    isum := .replicate 4 0, icnt := .replicate 4 0, ramped := s.on Reg.LSC_STATUS_RAMP } }
  ((s.wr Reg.LSC_FRAME_VAVG vavg).wr Reg.LSC_FRAME_IAVG iavg).lscEval

/-- When a boundary instant is fixed: VLED more than 50 mV short of what the latching frame needs (R250). -/
def State.riseLate (s : State) (codes : List Nat) : State :=
  if s.lscPowered ∧ 50 < s.frameReq codes * 10 - (s.lsc.vmeas : Int) then
    (((s.wr Reg.LSC_STATUS_RISE_LATE 1).inc Reg.LSC_CNT_LATE).fire 86).raise FLT_LSC_LATE 0x200E0004
  else s

/-- Headroom trim of zone `i` of port `p` (R251, R252). -/
def State.trimZone (s : State) (p : Fin 12) (data : List Byte) (r : LscPeriod) (i : Fin 16) : State :=
  let g := 16 * p.val + i.val
  let z := r.codes.getD g 0
  let hr := byteAt data (16 + i)
  if z = 0 ∨ 0xFE ≤ hr then s
  else
    let low := decide (hr < s.rd Reg.LSC_HR_HR_MIN)
    let gain : Int := if low then 16 else min 16 (s.rd Reg.LSC_HR_GAIN)
    let e : Int := ((r.vavg / 10 : Nat) : Int) - hr - (s.vf z + s.lscOfs g)
    let s := s.wr (Reg.LSC_OFS g) (unsigned 8 (clampI (-128) 127 (s.lscOfs g + (e * gain + 8) / 16)))
    if low then ((s.wr Reg.LSC_STATUS_HR_LOW 1).inc Reg.LSC_CNT_HR_LOW).fire 85 else s

/-- The headroom of an accepted HEALTH from the port that owns its tile (R251); the target is then re-evaluated, as after any change of
a HOUSE bit (R249). -/
def State.lscHealth (s : State) (p : Fin 12) (data : List Byte) (owner : Bool) : State :=
  if !s.lscPowered then s else
  match (if owner then s.lsc.period.find? (fun r => r.ended == some (leAt data 0 4)) else none) with
  | none => s.lscEval
  | some r => (s.forFin fun i s => s.trimZone p data r i).lscEval

/-- The LSC releases the stage (R241): LSEN falls and every LSPWM goes low, and then all of them are at high impedance (R238). EN clears, so that a new set takes control
again (R255; log entry 16). -/
def State.lscRelease (s : State) : State :=
  if s.rd Reg.LSC_STATUS_STATE = 0 then s.wr Reg.LSC_CTRL_EN 0
  else
    let s := (s.wr Reg.LSC_CTRL_EN 0).wr Reg.LSC_STATUS_STATE 0
    let s := { s with lsc := { s.lsc with duty := 0, phase := .replicate 4 0, driven := false, lsen := false, ocRun := .replicate 4 0 } }
    { s with cal := { s.cal with released := true } }.lscEval

/-! Commits. -/

/-- The C fields of the LSC (R258). -/
def lscCFields : List Fld :=
  [Reg.LSC_VRANGE_VMIN, Reg.LSC_VRANGE_VMAX, Reg.LSC_HR_TGT] ++ (List.range 17).map Reg.LSC_VFTAB

/-- The code with which an LSC commit is rejected, 0 where it is not (R258). -/
def State.lscCode (s : State) : Nat :=
  let lo := s.rd Reg.LSC_VRANGE_VMIN
  let hi := s.rd Reg.LSC_VRANGE_VMAX
  if lo < 250 ∨ 600 < hi ∨ hi < lo then 1
  else if (List.range 16).any (fun i => decide (s.rd (Reg.LSC_VFTAB (i + 1)) < s.rd (Reg.LSC_VFTAB i))) then 2 else 0

/-- The LSC's commit guard for boundary `b` (R6, R8). -/
def State.lscCapture (s : State) (b : Nat) (now : Bool) : State :=
  if !s.on Reg.LSC_CTRL_COMMIT || s.lsc.cap.isSome then s
  else if s.lscCode ≠ 0 then s.rejectCommit Reg.LSC_CTRL_COMMIT Reg.LSC_COMMIT_ERR_CODE s.lscCode 87
  else { s with lsc := { s.lsc with cap := some { boundary := b, now := now, set := s.snap lscCFields } } }

/-- A captured LSC set goes live (R5), and the target is re-evaluated (R249). -/
def State.lscLive (s : State) : State :=
  match s.lsc.cap with
  | none => s
  | some c => ({ s with lsc := { s.lsc with cap := none } }.applySet c.set |>.wr Reg.LSC_CTRL_COMMIT 0).lscEval

end Sys2Proof.Machine
end

