-- ==== Sys2Proof/Machine/MemOps.lean ====
section
/-! DEFINITION. The operations of memory that other blocks use: the outer code of DRAM, slots and their owners, protected regions, writes
by a master (spec/17_memory_window.md R394 to R407; spec/03 R68, spec/05 R111, R120, spec/09 R227). -/

namespace Sys2Proof.Machine

/-! GF(2^8) with field polynomial x^8 + x^4 + x^3 + x^2 + 1 (R394). -/

/-- Multiplication by α. -/
def rsDouble (a : Nat) : Nat := if a < 128 then 2 * a else (2 * a) ^^^ 0x11D
/-- Multiplication, from the most significant bit of `b` down. -/
def rsMul (a b : Nat) : Nat := (List.range 8).foldl (fun r i => (rsDouble r) ^^^ (if b.testBit (7 - i) then a else 0)) 0
/-- α to the power `n`. -/
def rsPow (n : Nat) : Nat := (List.range n).foldl (fun a _ => rsDouble a) 1
/-- The inverse of a non-zero element: its 254th power. -/
def rsInv (a : Nat) : Nat := (List.range 7).foldl (fun r _ => let q := rsMul r r; rsMul q a) 1 |> fun x => rsMul x x

/-! RS(72, 68) (R394). Symbols 0 to 63 of a block are its data bytes, 64 to 67 the fold symbols, 68 to 71 the check bytes; symbol `i` is the
coefficient of x^(71 − i). -/

/-- The syndrome at the root α^k of a pattern of wrong symbols. -/
def rsSyndrome (errs : List (Nat × Nat)) (k : Nat) : Nat := errs.foldl (fun a e => a ^^^ rsMul e.2 (rsPow (k * (71 - e.1) % 255))) 0

/-- The symbol whose locator is `x`. -/
def rsFind (x : Nat) : Option Nat := (List.range 72).find? (fun i => rsPow (71 - i) == x)

/-- The pattern of at most two symbols that explains the syndromes, or none (R394, R395). -/
def rsLocate (s0 s1 s2 s3 : Nat) : Option (List (Nat × Nat)) :=
  if s0 = 0 ∧ s1 = 0 ∧ s2 = 0 ∧ s3 = 0 then some []
  else
    let det := rsMul s1 s1 ^^^ rsMul s0 s2
    if det = 0 then
      if s0 = 0 then none
      else
        let x := rsMul s1 (rsInv s0)
        if rsMul s1 x ≠ s2 ∨ rsMul s2 x ≠ s3 then none
        else (rsFind x).map (fun i => [(i, s0)])
    else
      let d := rsInv det
      let l1 := rsMul (rsMul s0 s3 ^^^ rsMul s1 s2) d
      let l2 := rsMul (rsMul s1 s3 ^^^ rsMul s2 s2) d
      match (List.range 72).filter (fun i => let x := rsPow (71 - i); rsMul x x ^^^ rsMul l1 x ^^^ l2 == 0) with
      | [i, j] =>
        let xi := rsPow (71 - i)
        let xj := rsPow (71 - j)
        let ei := rsMul (s1 ^^^ rsMul s0 xj) (rsInv (xi ^^^ xj))
        some [(i, ei), (j, ei ^^^ s0)]
      | _ => none

/-- What a decoded read of a block gives (R395). -/
inductive Decoded where
  | clean
  | corrected (fix : List (Nat × Nat))
  | fold
  | uncorrectable
deriving DecidableEq, Repr

/-- The outer code's verdict on a read with the given symbols wrong (R395). -/
def rsDecode (errs : List (Fin 72 × Byte)) : Decoded :=
  let es := errs.map (fun e => (e.1.val, e.2.toNat))
  match rsLocate (rsSyndrome es 0) (rsSyndrome es 1) (rsSyndrome es 2) (rsSyndrome es 3) with
  | none => .uncorrectable
  | some [] => .clean
  | some fix => if fix.any (fun f => decide (64 ≤ f.1 ∧ f.1 < 68)) then .fold else .corrected fix

/-- The block as memory holds it, with the symbols of a read wrong and then put right as the decoder does. -/
def blockAfter (bs : List Byte) (errs : List (Fin 72 × Byte)) (fix : List (Nat × Nat)) : List Byte :=
  let flip (bs : List Byte) (i : Nat) (v : Nat) : List Byte := bs.set i (bs.getD i 0 ^^^ BitVec.ofNat 8 v)
  fix.foldl (fun b f => flip b f.1 f.2) (errs.foldl (fun b e => flip b e.1 e.2.toNat) bs)

/-- MEMC_CE, at most once per ms (R413). -/
def State.ceEvent (s : State) : State :=
  match s.memc.ceAt with
  | some t => if s.now < t + 400000 then s else { s with memc := { s.memc with ceAt := some s.now } }.fire 98
  | none => { s with memc := { s.memc with ceAt := some s.now } }.fire 98

/-- A fault of MEMC with a system address (R395). -/
def State.memFault (s : State) (src addr : Nat) (m : Master) (acc : Access) : State :=
  s.raiseOcc { src := src, unit := none, addr := addr, master := m, access := acc }

/-- UE or ADDR_ERR is set, and the first address since both were clear captured (R395, R415). -/
def State.memError (s : State) (f : Fld) (addr : Nat) : State :=
  let s := if s.on Reg.MEMC_STATUS_UE || s.on Reg.MEMC_STATUS_ADDR_ERR then s
    else (s.wr Reg.MEMC_UE_ADDR_LO_ADDR addr).wr Reg.MEMC_UE_ADDR_HI_ADDR (addr / 2 ^ 32)
  (s.wr f 1).fire 96

/-- A decoded read of the block at `a`: its report, and the corrected block written back (R395). The flag says that the block could not be
read. -/
def State.blockRead (s : State) (a : Nat) (errs : List (Fin 72 × Byte)) (m : Master) (acc : Access) : State × Bool :=
  match rsDecode errs with
  | .clean => (s, false)
  | .corrected fix => ((((s.store a (blockAfter (s.bytes a 64) errs fix)).inc Reg.MEMC_ERR_CNT_CE).ceEvent).memFault FLT_MEM_CE a m acc, false)
  | .fold => ((s.memError Reg.MEMC_STATUS_ADDR_ERR a).memFault FLT_MEM_ADDR a m acc, true)
  | .uncorrectable => ((s.memError Reg.MEMC_STATUS_UE a).memFault FLT_MEM_UE a m acc, true)

/-! Slots (R402 to R407). -/

/-- BASE of the stage window (R402). -/
def State.winBase (s : State) : Nat := s.rd Reg.WIN_BASE_HI_ADDR_HI <<< 32 ||| s.rd Reg.WIN_BASE_ADDR <<< 16
/-- Bytes of a slot (R402). -/
def State.slotSize (s : State) : Nat := 2 ^ s.rd Reg.WIN_CFG_SIZE
/-- The owner of a slot (R403). -/
def State.slotOwner (s : State) (n : Nat) : Nat := s.rd (Reg.WIN_OWN n)
/-- The slot's first address. -/
def State.slotAddr (s : State) (n : Nat) : Nat := s.winBase + n * s.slotSize

/-- The slots that hold some of the `n` bytes at `a`. -/
def State.slotsOf (s : State) (a n : Nat) : List Nat :=
  (List.range (s.rd Reg.WIN_CFG_COUNT)).filter (fun k => s.on Reg.WIN_CTRL_EN && decide (a < s.slotAddr k + s.slotSize ∧ s.slotAddr k < a + n))

/-- The extent lies wholly in shared SRAM (spec/04 R81). -/
def inSram (a n : Nat) : Bool := decide (0x10000000 ≤ a ∧ a + n ≤ 0x10800000)
/-- Every slot that holds some of the extent is owned by SCANOUT, and there is one (spec/03 R57). -/
def State.scanoutOwns (s : State) (a n : Nat) : Bool :=
  let ks := s.slotsOf a n
  !ks.isEmpty && ks.all (fun k => s.slotOwner k == 4)

/-- Some of the bytes lie in the stage window. -/
def State.inWindow (s : State) (a n : Nat) : Bool :=
  s.on Reg.WIN_CTRL_EN && decide (0 < n ∧ a < s.winBase + s.rd Reg.WIN_CFG_COUNT * s.slotSize ∧ s.winBase < a + n)

/-- A write for owner test `acts` to slot `n` is blocked (R404, R405). -/
def State.slotBlocks (s : State) (n : Nat) (acts : Nat → Bool) : Bool :=
  s.slotOwner n == 0 || !acts (s.slotOwner n) || (s.win.xfer.any (fun x => x.1 == n))

/-- A blocked write to a slot (R404, R413, R416). -/
def State.slotBlocked (s : State) (n : Nat) (m : Master) : State :=
  ((s.wr Reg.WIN_STATUS_BLK_SLOT n).fire 100).raiseOcc
    { src := FLT_WIN_OWNER, unit := masterEngine m, addr := s.slotAddr n, master := m, access := .write }

/-- The permitted hand-overs (R406), but for those of a SCANOUT slot, which its agent makes. -/
def mayHand (old new : Nat) : Bool :=
  match old with
  | 0 => [1, 2, 3, 5, 6].contains new
  | 1 => [0, 2, 4, 5].contains new
  | 2 => [0, 4, 5].contains new
  | 3 => [0, 2, 4].contains new
  | 5 => [0, 1, 2, 4, 6].contains new
  | 6 => [0, 4].contains new
  | _ => false

/-- The owner of one of the 1024 slots changes (R405). -/
def State.setOwner (s : State) (n new : Nat) : State := if n < 1024 then s.wr (Reg.WIN_OWN n) new else s

/-- A WIN_XFER request is completed or refused (R405, R413). -/
def State.xferEnds (s : State) (code : Nat) : State := (s.wr Reg.WIN_STATUS_XFER_CODE code).fire 99

/-! Protected regions. -/

/-- Who writes to memory: a master of R350, or one of the two blocks that store into a protected region of their own. -/
inductive Storer where
  | master (m : Master)
  | maskin
  | hlth
deriving DecidableEq, Repr

/-- The master that an occurrence names for a storer (R366): MASKIN and HLTH are among the others. -/
def Storer.name : Storer → Master
  | .master m => m
  | _ => .other

/-- Bytes of the write-back region (spec/05 R117): DEPTH buffers of the running geometry, for TAP_SEL `sel`. -/
def State.wbBytes (s : State) (sel : Nat) : Nat :=
  let i := (s.mode).getD ⟨512, 512, 120, 11520, 16⟩
  max 2 (min 4 (s.rd Reg.SA_DRV_WB_HI_DEPTH)) * (4096 + 12 * i.w * i.h * (if sel = 0 then 2 else 4))

/-- The bytes of the write-back region that are in use (spec/05 R117, R120): by the live settings, and by those of the frame in composition
and of the one being streamed (the extent and the time are a DESIGN CHOICE; log entry 48). -/
def State.wbGuard (s : State) : Nat :=
  let of (d : DrvSet) : Nat := if d.wb then s.wbBytes d.tapSel else 0
  max (if s.lv Reg.SA_DRV_CTRL_WB_EN = 0 then 0 else s.wbBytes (s.lv Reg.SA_DRV_CTRL_TAP_SEL))
    (max ((s.ft.passA.map (fun f => of f.drv)).getD 0) ((s.ft.stream.map (fun x => of x.frame.drv)).getD 0))

/-- A write to the address is blocked by a protected region: the mask buffers while MASKIN is enabled (spec/03 R68), the DD region and the
write-back region while the SA is (spec/05 R111, R120), the health map while HLTH is (spec/09 R227). The block that a region belongs to
writes it. -/
def State.protectedFrom (s : State) (w : Storer) (a : Nat) : Bool :=
  let within (base n : Nat) : Bool := decide (base ≤ a ∧ a < base + n)
  (s.on Reg.MASKIN_CTRL_EN && w != .maskin &&
    within (s.rd Reg.MASKIN_BUF_BASE_HI_ADDR_HI <<< 32 ||| s.rd Reg.MASKIN_BUF_BASE_LO_ADDR <<< 19) 0x180000) ||
  (s.on Reg.SA_CTRL_EN && w != .master .stageArray &&
    (within s.sa.ddBase (2 * s.sa.ddStride) ||
     within (s.rd Reg.SA_DRV_WB_HI_ADDR_HI <<< 32 ||| s.rd Reg.SA_DRV_WB_LO_ADDR <<< 20) s.wbGuard)) ||
  ((s.on Reg.HLTH_CTRL_EN || s.on Reg.HLTH_STATUS_RUN) && w != .hlth && (match s.mode with
    | some i => within (s.rd Reg.HLTH_MAP_HI_ADDR_HI <<< 32 ||| s.rd Reg.HLTH_MAP_LO_ADDR <<< 16) (12 * i.w * i.h)
    | none => false))

/-- The first address at which a read of `len` bytes at `a` fails, access by access, each within one 64-byte block. -/
def State.badAt (s : State) (a len : Nat) : Option Nat :=
  ((a :: (List.range (len / 64 + 1)).map (fun i => (a / 64 + 1 + i) * 64)).filter (fun b => decide (b < a + len))).find? (fun b => !s.readable b)

/-- Every byte can be read. -/
def State.canRead (s : State) (a len : Nat) : Bool := (s.badAt a len).isNone

/-- A byte as a read gives it: where no read may reach, a free value (DESIGN CHOICE; log entries 4 and 49). -/
def State.seen (s : State) (a : Nat) : Byte := if s.readable a then s.byte a else BitVec.ofNat 8 (Config.freeCell s.freeCtr a)

/-- A read of `len` bytes at `a` by `m` is over: the first address that it could not reach is reported (spec/15 R359), and the free values that
it gave are used up. -/
def State.readOver (s : State) (m : Master) (a len : Nat) : State :=
  match s.badAt a len with
  | none => s
  | some b => { s with freeCtr := s.freeCtr + 1 }.readErr m b

/-! Writes to DRAM. -/

/-- A write by `m` to on-chip memory at the address is accepted: a shared bank, the DSRAM of an engine, or its ISRAM while the engine is
held (R369, spec/16 R370). -/
def State.chipWritable (s : State) (m : Master) (a : Nat) : Bool :=
  if 0x10000000 ≤ a ∧ a < 0x10800000 then s.readable a
  else if 0x04000000 ≤ a ∧ a < 0x04200000 then
    let e := (a - 0x04000000) / 0x20000
    s.readable a && (decide (0x10000 ≤ (a - 0x04000000) % 0x20000) || masterEngine m == some e || s.on (Reg.EVC_ENG_CTRL_HOLD e))
  else false

/-- What became of a part of a write: it is written; or it is discarded, and the master gets a bus error, which FLT_BUS_ERR or a fault of the
part's own reports (R393, R395, R404). -/
inductive PartEnd where
  | written
  | refused
  | reported
deriving DecidableEq, Repr

/-- A part of a write within one 64-byte block (R393, R396, R404, and the protected regions). A partial block is read, changed and written. -/
def State.writePart (s : State) (w : Storer) (acts : Nat → Bool) (a : Nat) (data : List Byte) (errs : List (Fin 72 × Byte)) : State × PartEnd :=
  let m := w.name
  if s.protectedFrom w a then (s, .refused)
  else if a < dramBase then (if s.chipWritable m a then (s.store a data, .written) else (s, .refused))
  else if !s.readable a then (s, .refused)
  else
    let n := (s.slotsOf a data.length).find? (fun n => s.slotBlocks n acts)
    match n with
    | some n => (s.slotBlocked n m, .reported)
    | none =>
      if data.length = 64 then (s.store a data, .written)
      else
        let r := s.blockRead (a / 64 * 64) errs m .write
        if r.2 then (r.1, .reported) else (r.1.store a data, .written)

/-- The parts of a write, block by block: address and bytes (R396). -/
def blockParts : Nat → Nat → List Byte → List (Nat × List Byte)
  | 0, _, _ => []
  | n + 1, a, data =>
    if data.isEmpty then []
    else
      let k := 64 - a % 64
      (a, data.take k) :: blockParts n (a + k) (data.drop k)

/-- The accesses of one transfer that were discarded are reported (R396): those to a fenced bank by their count, the others by one bus error
with the first address that failed (R350, R359). -/
def State.reportBad (s : State) (m : Master) (bad : List Nat) : State :=
  let s := match bad.find? s.bankFenced with
    | some a => s.busErr m a .write
    | none => s
  match bad.find? (fun a => !s.bankFenced a) with
  | some a => s.accErr m a .write
  | none => s

/-- How a write stands after some of its parts: the addresses refused so far, the first address that was not written, and the wrong symbols of
the partial blocks still to be read. -/
structure Parts where
  bad : List Nat := []
  lost : Option Nat := none
  errs : List (List (Fin 72 × Byte)) := []

/-- A write to memory by a storer that acts for the owners of `acts` (R396), block by block. `errs` holds the wrong symbols in the reads of its
partial blocks, of which a write has at most two. Beside the state it gives the address of the first part that met a bus error. -/
def State.storeTry (s : State) (w : Storer) (acts : Nat → Bool) (a : Nat) (data : List Byte) (errs : List (List (Fin 72 × Byte))) : State × Option Nat :=
  let r := (blockParts data.length a data).foldl (fun (r : State × Parts) p =>
    let part := p.2.length != 64
    let q := r.1.writePart w acts p.1 p.2 (if part then r.2.errs.headD [] else [])
    (q.1, { bad := r.2.bad ++ (if q.2 = .refused then [p.1] else []), lost := if q.2 = .written then r.2.lost else some (r.2.lost.getD p.1)
            errs := if part then r.2.errs.tail else r.2.errs })) (s, { errs := errs })
  (r.1.reportBad w.name r.2.bad, r.2.lost)

/-- A write to memory by a storer. -/
def State.storeParts (s : State) (w : Storer) (acts : Nat → Bool) (a : Nat) (data : List Byte) (errs : List (List (Fin 72 × Byte))) : State :=
  (s.storeTry w acts a data errs).1

/-- A write to memory by a master (R396). -/
def State.dramWrite (s : State) (m : Master) (acts : Nat → Bool) (a : Nat) (data : List Byte) (errs : List (List (Fin 72 × Byte))) : State :=
  if m == .debug && !s.debugReach a then s.busErr m a .write else s.storeParts (.master m) acts a data errs

/-! Window DMA, and what becomes of its writes as a slot changes hands (R405, R408). -/

/-- The register address of channel `c`. -/
def winDmaAddr (c : Fin 4) : Nat := 0x20070810 + c.val * 0x20

/-- Channel `c` set. -/
def State.setDma (s : State) (c : Fin 4) (x : Option DmaRun) : State := { s with win := { s.win with dma := s.win.dma.set c x } }

/-- The state after the first `n` blocks of a copy, of which the first `x.done` have been made, and the index of the block that stopped it
(R408). -/
def State.dmaCopy (s : State) (x : DmaRun) (error : Option Nat) : Nat → State × Option Nat
  | 0 => (s, none)
  | n + 1 =>
    let r := s.dmaCopy x error n
    match r.2 with
    | some _ => r
    | none =>
      let t := r.1
      let src := x.src + 64 * n
      if n < x.done then (t, none)
      else if error = some n then (t, some n)
      else if t.readable src = false then (t.accErr .other src .read, some n)
      else
        let w := t.writePart (.master .other) (· == x.own) (x.dst + 64 * n) (t.bytes src 64) []
        match w.2 with
        | .written => (w.1, none)
        | .refused => (w.1.accErr .other (x.dst + 64 * n) .write, some n)
        | .reported => (w.1, some n)

/-- The channel ends with a flag, and WIN_DMA fires (R408, R413). -/
def State.dmaEnds (s : State) (c : Fin 4) (f : Fld) : State := (((s.setDma c none).wr (Reg.WIN_DMA_CTRL_GO c) 0).wr f 1).fire 101

/-- The failed access to block `n` of a copy stops the channel (R408): ERR and FLT_WIN_DMA. `read` says that it was the read. -/
def State.dmaStops (s : State) (c : Fin 4) (x : DmaRun) (n : Nat) (read : Bool) : State :=
  (s.dmaEnds c (Reg.WIN_DMA_STATUS_ERR c)).raiseOcc
    { src := FLT_WIN_DMA, unit := none, addr := if read then x.src + 64 * n else x.dst + 64 * n, master := .other,
      access := if read then .read else .write }

/-- A part of a copy has been made, and block `n` has stopped it, if any has. -/
def State.dmaStopped (s : State) (c : Fin 4) (x : DmaRun) (error : Option Nat) (n : Nat) : State :=
  s.dmaStops c x n (error == some n || !s.readable (x.src + 64 * n))

/-- The channels whose copies `sel` selects have made some of their writes, how many the spec does not say: a free value each (R408; log entry
4). One that a failed access stops has ended. -/
def State.dmaWrites (s : State) (sel : DmaRun → Bool) : State :=
  s.forFin fun (c : Fin 4) s =>
    match s.win.dma[c] with
    | none => s
    | some x =>
      if !sel x then s
      else
        let q := s.fresh
        let k := q.1 % (x.len / 64 + 1)
        let r := q.2.dmaCopy x none k
        match r.2 with
        | none => r.1.setDma c (some { x with done := max x.done k })
        | some n => r.1.dmaStopped c x none n

/-- A slot changes hands, and the window DMA writes that came before have been made (R405). -/
def State.handSlot (s : State) (n new : Nat) : State := (s.dmaWrites (fun x => (s.slotsOf x.dst x.len).contains n)).setOwner n new

/-- The SCANOUT agent hands a slot on: to the owner that a waiting retire names, else to `new` (R407). -/
def State.agentHands (s : State) (n new : Nat) : State :=
  match s.win.retire.find? (fun r => r.1 == n) with
  | none => s.handSlot n new
  | some r =>
    let rs := s.win.retire.filter (fun q => q.1 != n)
    (({ s with win := { s.win with retire := rs } }.handSlot n r.2).wrB Reg.WIN_STATUS_PEND_RETIRE (!rs.isEmpty)).xferEnds 0

end Sys2Proof.Machine
end

