-- ==== Sys2Proof/Machine/HlthOps.lean ====
section
/-! DEFINITION. The operations of pixel health that other blocks use: the map, targets, classification of results, map updates,
reports, commits (spec/09_pixel_health.md R214 to R236). -/

namespace Sys2Proof.Machine

/-! The map. -/

/-- The base of the health map (R227). -/
def State.mapBase (s : State) : Nat := s.rd Reg.HLTH_MAP_HI_ADDR_HI <<< 32 ||| s.rd Reg.HLTH_MAP_LO_ADDR <<< 16
/-- The base of the baseline table (R220). -/
def State.baseBase (s : State) : Nat := s.rd Reg.HLTH_BASE_HI_ADDR_HI <<< 32 ||| s.rd Reg.HLTH_BASE_LO_ADDR <<< 6
/-- The address of a pixel's byte in the map (R227). -/
def State.mapAddr (s : State) (i : Image) (t x y : Nat) : Nat := s.mapBase + t * (i.info.w * i.info.h) + y * i.info.w + x

/-- The class that a map byte stands for: a reserved class or a non-zero bit [7:4] is MASKED (R227). -/
def mapClass (b : Nat) : Nat := if b / 16 ≠ 0 ∨ 6 ≤ b % 8 then 5 else b % 8
/-- A class that is forced off (R227). -/
def classOff (driftOff : Bool) (c : Nat) : Bool := c == 1 || c == 2 || c == 4 || c == 5 || (c == 3 && driftOff)
/-- A map byte marks its pixel dead (R227). -/
def mapDead (driftOff : Bool) (b : Nat) : Bool := b.testBit 3 || classOff driftOff (mapClass b)
/-- DRIFT_OFF. -/
def State.driftOff (s : State) : Bool := s.on Reg.HLTH_CTRL_DRIFT_OFF
/-- The byte that HLTH writes for a class (R227). -/
def State.mapByte (s : State) (c : Nat) : Byte := BitVec.ofNat 8 (c % 8 + if classOff s.driftOff (c % 8) then 8 else 0)
/-- A pixel is dead in the live map; no pixel is while HLTH does not run (R227, R230). -/
def State.pixelDead (s : State) (i : Image) (t x y : Nat) : Bool :=
  s.on Reg.HLTH_STATUS_RUN && mapDead s.driftOff (s.byte (s.mapAddr i t x y)).toNat

/-! Status and reports. -/

/-- HLTH_STATUS and HLTH_RPT follow the lists (R236). -/
def State.showHlth (s : State) : State :=
  let s := (s.wr Reg.HLTH_STATUS_QUEUE (min 255 s.hlth.queue.length)).wr Reg.HLTH_STATUS_RETEST s.hlth.retest.length
  let s := s.wrB Reg.HLTH_FORCE_GO s.hlth.force.isSome
  match s.hlth.reports with
  | [] => s.wr Reg.HLTH_RPT0_VALID 0
  | r :: _ =>
    let s := (((s.wr Reg.HLTH_RPT0_X r.x).wr Reg.HLTH_RPT0_Y r.y).wr Reg.HLTH_RPT0_TILE r.tile).wr Reg.HLTH_RPT0_OLD r.old
    ((s.wr Reg.HLTH_RPT0_NEW r.new).wr Reg.HLTH_RPT1_CODE r.code).wr Reg.HLTH_RPT1_FRAME r.frame |>.wr Reg.HLTH_RPT0_VALID 1

/-- A change of class is reported (R232). -/
def State.hlthReport (s : State) (u : Update) : State :=
  let s := if s.hlth.reports.length < 64 then
      let t := { s with hlth := { s.hlth with reports := s.hlth.reports ++ [u] } }
      if t.hlth.rptWait then t else { t with hlth := { t.hlth with rptWait := true } }.fire 92
    else (s.wr Reg.HLTH_STATUS_RPT_OVF 1).fire 94
  if (u.new = 1 ∨ u.new = 2 ∨ u.new = 4) ∧ !s.hlth.pixWait then
    { s with hlth := { s.hlth with pixWait := true } }.raise FLT_HLTH_PIXEL 0x200D0044
  else s

/-- A zone's bit of HLTH_ZONE_FAIL is set; the fault is not raised again until it has been cleared (R226). -/
def State.zoneFail (s : State) (g : Fin 192) : State :=
  if s.on (Reg.HLTH_ZONE_FAIL g) then s
  else ((s.wr (Reg.HLTH_ZONE_FAIL g) 1).fire 93).raise FLT_HLTH_ZONE (0x200D00C0 + g / 32 * 4) (some g)

/-- Every pixel of a tile, in raster order. -/
def rasterOf (m : ModeInfo) : List (Nat × Nat) := (List.range m.h).flatMap (fun y => (List.range m.w).map (fun x => (x, y)))

/-- What follows from the live map of tile `t`: its dead count, and for each of its zones the dead pixels and whether it holds a STUCK_ON
pixel (R226, R229, R236). -/
def State.surveyTile (s : State) (i : Image) (t : Nat) : State :=
  let n := i.info.w * i.info.h
  let get : Nat → Byte := if s.canRead (s.mapAddr i t 0 0) n then s.byte else s.seen
  let px := (rasterOf i.info).map (fun q => (i.zone t q.1 q.2, (get (s.mapAddr i t q.1 q.2)).toNat))
  let dead := px.filter (fun q => mapDead s.driftOff q.2)
  let s := (s.readOver .other (s.mapAddr i t 0 0) n).wr (Reg.HLTH_CNT_DEAD_DEAD (Fin.ofNat 12 t)) dead.length
  match i.port t with
  | none => s
  | some p =>
    (List.range 16).foldl (fun (s : State) z =>
      let g := 16 * p + z
      { s with hlth := { s.hlth with stuck := s.hlth.stuck.set! g (px.any (fun q => q.1 == z && mapClass q.2 == 4)),
                                     zoneDead := s.hlth.zoneDead.set! g (dead.filter (fun q => q.1 == z)).length } }) s

/-- The zones with more forced-off pixels than ZONE_DEAD_MAX are flagged (R226). -/
def State.zonesOver (s : State) : State :=
  s.forFin fun (g : Fin 192) s => if s.rd Reg.HLTH_ZONE_CFG_ZONE_DEAD_MAX < s.hlth.zoneDead[g] then s.zoneFail g else s

/-- The live map is surveyed for some logical tiles, and THM publishes what follows (R226, R229, R236). -/
def State.survey (s : State) (ts : List Nat) : State :=
  match s.image with
  | none => s
  | some i => ((((List.range 12).filter ts.contains).foldl (fun s t => s.surveyTile i t) s).zonesOver).showZlim

/-- The whole live map is surveyed, as HLTH starts to use it or its geometry changes. -/
def State.surveyAll (s : State) : State :=
  { s with hlth := { s.hlth with stuck := .replicate 192 false, zoneDead := .replicate 192 0 } }.survey (List.range 12)

/-- RUN follows EN; the map is surveyed as HLTH starts to use it (R226, R229, R230, R236). -/
def State.hlthRun (s : State) : State :=
  let t := s.wr Reg.HLTH_STATUS_RUN (s.rd Reg.HLTH_CTRL_EN)
  if t.on Reg.HLTH_STATUS_RUN && !s.on Reg.HLTH_STATUS_RUN then t.surveyAll else t

/-! The update queue. -/

/-- A change enters the update queue if it has room (R228). -/
def State.hlthQueue (s : State) (u : Update) : State × Bool :=
  if s.hlth.queue.length < 256 then ({ s with hlth := { s.hlth with queue := s.hlth.queue ++ [u] } }, true) else (s, false)

/-- The map holds what an update has brought: an awaited result of the pixel is live where the update is what it confirmed (R226). -/
def State.markLive (s : State) (u : Update) : State :=
  { s with hlth := { s.hlth with await := s.hlth.await.map (fun (a : Awaited) => { a with undo := a.undo.map (fun v =>
      if v.tile = u.tile ∧ v.x = u.x ∧ v.y = u.y then { v with live := !u.forced && u.frame == a.frame % 2 ^ 24 && u.new == v.new } else v) }) } }

/-- One update is written to the map (R228); a forced one reports its own previous class and the frame at which it goes live (R232). An
update for a pixel that its tile does not have changes nothing (log entry 17), nor does one whose byte meets a bus error (log entry 49). -/
def State.writeUpdate (s : State) (i : Image) (frame : Nat) (u : Update) : State :=
  if u.x < i.info.w ∧ u.y < i.info.h ∧ u.tile < 12 then
    let a := s.mapAddr i u.tile u.x u.y
    let old := mapClass (s.seen a).toNat
    let s := if u.forced then s.readOver .other a 1 else s
    let r := s.storeTry .hlth (s.actsFor .other) a [s.mapByte u.new] []
    if r.2.isSome then r.1
    else if u.forced ∧ old ≠ u.new then (r.1.markLive u).hlthReport { u with old := old, code := 0, frame := frame % 2 ^ 24 }
    else r.1.markLive u
  else s

/-- Changes that take a discarded result back enter the queue as it has room (R226, R228). -/
def State.queueReverts (s : State) : State :=
  let n := 256 - s.hlth.queue.length
  { s with hlth := { s.hlth with queue := s.hlth.queue ++ s.hlth.reverts.take n, reverts := s.hlth.reverts.drop n } }

/-- Confirmed entries of the retest list that waited for the queue enter it (R228). -/
def State.queueDone (s : State) : State :=
  s.hlth.retest.foldl (fun s r =>
    if !r.done then s
    else
      let q := s.hlthQueue { tile := r.tile, x := r.x, y := r.y, new := r.cls, code := r.code, frame := r.frame % 2 ^ 24 }
      let t := q.1
      if q.2 then
        { t with hlth := { t.hlth with retest := t.hlth.retest.filter (fun q => !(q.done && q.tile == r.tile && q.x == r.x && q.y == r.y)) } }
      else t) s

/-- A write of HLTH_FORCE that waited enters the queue (R228). -/
def State.queueForce (s : State) : State :=
  match s.hlth.force with
  | none => s
  | some u =>
    let q := s.hlthQueue u
    let t := q.1
    if q.2 then { t with hlth := { t.hlth with force := none } } else t

/-- A unit takes the understudy role: what its own map changes and results still held is dropped, since the lead's alone change the map (spec/18
R426; DESIGN CHOICE, log entry 33). -/
def State.hlthFollow (s : State) : State :=
  { s with hlth := { s.hlth with queue := [], force := none, reverts := [], await := [], fixed := none } }.showHlth

/-- An entry for a pixel that the retest list does not hold; a full list takes none (R225). -/
def State.addRetest (s : State) (r : Retest) : State :=
  if s.hlth.retest.length < 1024 then { s with hlth := { s.hlth with retest := s.hlth.retest ++ [r] } }
  else (s.wr Reg.HLTH_STATUS_RETEST_OVF 1).fire 94

/-- The lead's changes for a boundary are applied on the understudy (spec/18 R426): to the map, or to the retest list. -/
def State.applyLed (s : State) (i : Image) (frame : Nat) (e : Nat × Nat × Update) : State :=
  let u := e.2.2
  match e.2.1 with
  | 0 => s.writeUpdate i frame u
  | 1 => s.addRetest { tile := u.tile, x := u.x, y := u.y, cls := u.new }
  | _ => { s with hlth := { s.hlth with retest := s.hlth.retest.filter (fun q => !(q.tile == u.tile && q.x == u.x && q.y == u.y)) } }

/-- The map updates that go live at the boundary of `frame` (R228), at most 256; in a pair those that the guard fixed, on the understudy only the
lead's (spec/18 R426). -/
def State.drainQueue (s : State) (i : Image) (frame : Nat) : State :=
  let n := if s.understudy then 0 else match s.hlth.fixed with
    | none => 256
    | some f => f.1
  let us := s.hlth.queue.take n
  let led := s.hlth.led.filter (fun e => decide (e.1 ≤ frame))
  let s := { s with hlth := { s.hlth with queue := s.hlth.queue.drop n, led := s.hlth.led.filter (fun e => !decide (e.1 ≤ frame)) } }
  let s := us.foldl (fun s u => s.writeUpdate i frame u) s
  let s := led.foldl (fun s e => s.applyLed i frame e) s
  let s := if s.understudy then s else s.queueReverts.queueDone.queueForce
  if us.isEmpty && led.isEmpty then s else s.survey (us.map (·.tile) ++ led.map (fun e => e.2.2.tile))

/-! The scan. -/

/-- R (R214). -/
def State.scanR (s : State) : Nat := 4 <<< s.lv Reg.HLTH_SCAN_RATE
/-- The frame is an off-scan frame (R215). -/
def State.offScan (s : State) (f : Nat) : Bool :=
  s.lv Reg.HLTH_SCAN_OFF_EVERY != 0 && f / s.scanR % s.lv Reg.HLTH_SCAN_OFF_EVERY == s.lv Reg.HLTH_SCAN_OFF_EVERY - 1

/-- The targets of a frame, in raster order by tile (R214, R216): regular targets, and outside an off-scan frame the retest list; never a
pixel that is forced off. -/
def State.targetsOf (s : State) (i : Image) (f : Nat) (retest : List (Nat × Nat × Nat)) : List (Nat × Nat × Nat) :=
  let r := s.scanR
  let off := s.offScan f
  i.tiles.flatMap (fun t => (rasterOf i.info).filterMap (fun q =>
    if ((q.1 + 5 * q.2) % r == f % r || (!off && retest.contains (t, q.1, q.2))) && !s.pixelDead i t q.1 q.2 then some (t, q.1, q.2) else none))

/-- The pixels of the retest list. -/
def State.retestPixels (s : State) : List (Nat × Nat × Nat) := s.hlth.retest.map (fun r => (r.tile, r.x, r.y))

/-- PAIR has formed a pair. -/
def State.paired (s : State) : Bool := s.on Reg.PAIR_CTRL_EN && s.rd Reg.PAIR_STATUS_STATE == 2

/-- A boundary ends the last frame of a capture (R222). -/
def State.captureOver (s : State) : State :=
  if s.on Reg.HLTH_STATUS_CAPTURING && decide (s.hlth.capLeft ≤ 1) then
    (({ s with hlth := { s.hlth with capLeft := 0 } }.wr Reg.HLTH_STATUS_CAPTURING 0).wr Reg.HLTH_CTRL_CAPTURE 0).fire 95
  else s

/-- A capture starts, goes on, or ends at a boundary (R222). -/
def State.captureBoundary (s : State) : State :=
  if s.on Reg.HLTH_STATUS_CAPTURING then
    if s.hlth.capLeft ≤ 1 then s.captureOver else { s with hlth := { s.hlth with capLeft := s.hlth.capLeft - 1 } }
  else if s.on Reg.HLTH_CTRL_CAPTURE then
    { s.wr Reg.HLTH_STATUS_CAPTURING 1 with hlth := { s.hlth with capLeft := s.scanR } }
  else s

/-- What HLTH does at the boundary of `frame` that stops frame timing: the queued updates go live (R228), and a capture whose last frame it
ends is over; one that has frames left goes on, and one that was asked for starts, once frame timing runs again (R222; DESIGN CHOICE, log
entry 17). -/
def State.hlthStops (s : State) (frame : Nat) : State :=
  let s := s.captureOver
  match s.image with
  | none => s
  | some i => (s.drainQueue i frame).showHlth

/-- What HLTH does at the boundary that starts the composition of `frame` (R216, R222, R228, R230), the captured set live. -/
def State.hlthBoundary (s : State) (frame : Nat) : State :=
  let was := s.on Reg.HLTH_STATUS_RUN
  let s := (s.wr Reg.HLTH_STATUS_RUN (s.rd Reg.HLTH_CTRL_EN)).captureBoundary
  match s.image with
  | none => s
  | some i =>
    let s := s.drainQueue i frame
    (if s.on Reg.HLTH_STATUS_RUN then (if was then s.zonesOver else s.surveyAll) else s).showHlth

/-- The frame that a boundary starts, with its targets (R215 to R217). -/
def State.aimFrame (s : State) (f : Frame) : Frame :=
  match s.image with
  | none => f
  | some i =>
    if !s.on Reg.HLTH_STATUS_RUN then f
    else
      let rt := match s.hlth.fixed with
        | some x => x.2
        | none => s.retestPixels
      let off := s.offScan f.no
      { f with targets := s.targetsOf i f.no rt, off := off, measZ := if off then 0 else s.lv Reg.HLTH_SCAN_MEAS_Z,
               pulse := s.lv Reg.HLTH_SCAN_PULSE, capture := s.on Reg.HLTH_STATUS_CAPTURING }

/-! Results. -/

/-- The temperature term of R223. -/
def State.hlthAdj (s : State) (g : Nat) : Int :=
  (signed 16 (s.rd Reg.HLTH_TCOMP_TC) * (signed 16 (s.rd (Reg.THM_ZTEMP_TJ g)) - signed 16 (s.rd Reg.HLTH_TCOMP_TREF_B)) + 0x8000) / 65536

/-- The address of the block that holds the baseline of a pixel, and the baseline's offset in it (R220). -/
def State.baseBlock (s : State) (i : Image) (t x y : Nat) : Nat × Nat :=
  let px := y * i.info.w + x
  (s.baseBase + t * (i.info.w * i.info.h / 4096) * 4160 + px / 4096 * 4160, px % 4096)

/-- A baseline is read with its block's CRC (R221): 0 where the block fails, which is counted and reported once. A block that cannot be read
fails (DESIGN CHOICE; log entry 49). -/
def State.readBaseline (s : State) (i : Image) (t x y : Nat) : Nat × State :=
  let b := s.baseBlock i t x y
  let ok := s.canRead b.1 4100
  let s := s.readOver .other b.1 4100
  if ok && crc32c (s.bytes b.1 4096) == s.num (b.1 + 4096) 4 then
    ((s.byte (b.1 + b.2)).toNat, { s with hlth := { s.hlth with badBlock := s.hlth.badBlock.filter (· != b.1) } })
  else
    let t := ((s.wr Reg.HLTH_STATUS_BASE_ERR 1).fire 94).inc Reg.HLTH_CNT_NOTMEAS
    if t.hlth.badBlock.contains b.1 then (0, t)
    else
      let t := { t with hlth := { t.hlth with badBlock := b.1 :: t.hlth.badBlock } }
      (0, if ok then t.raise FLT_HLTH_BASE 0x200D0004 else t.raiseAcc FLT_HLTH_BASE ((s.badAt b.1 4100).getD b.1) .other .read)

/-- A baseline is written in a capture, and its block's CRC with it (R222); the CRC of bytes that cannot be read is a free value (log entry
49). -/
def State.writeBaseline (s : State) (i : Image) (t x y : Nat) (v : Nat) : State :=
  let b := s.baseBlock i t x y
  let s := s.storeParts .hlth (s.actsFor .other) (b.1 + b.2) [BitVec.ofNat 8 v] []
  let crc := crc32c ((List.range 4096).map (fun k => s.seen (b.1 + k)))
  (s.readOver .other b.1 4096).storeParts .hlth (s.actsFor .other) (b.1 + 4096) (leBytes 4 crc) []

/-- The class that a code stands for, none where the pixel keeps its class (R224): `b` is the baseline, 0 for none, `e` the expected
code. -/
def classify (c : Nat) (off : Bool) (b : Nat) (e : Int) (shortAbs shortTh openTh driftTh stuckTh : Nat) : Option Nat :=
  if c = 0 then none
  else if off then (if stuckTh ≤ c then some 4 else none)
  else if c = 0xFF ∨ (b ≠ 0 ∧ (openTh : Int) ≤ c - e) then some 2
  else if c ≤ shortAbs ∨ (b ≠ 0 ∧ (shortTh : Int) ≤ e - c) then some 1
  else if b ≠ 0 ∧ driftTh ≤ ((c : Int) - e).natAbs then some 3
  else some 0

/-- A class is confirmed (R225, R228): queued and reported; with the queue full it stays on the retest list as confirmed. With the list full too
the change is not kept, nor reported (R232). -/
def State.confirm (s : State) (r : Retest) (old : Nat) : State :=
  let u : Update := { tile := r.tile, x := r.x, y := r.y, old := old, new := r.cls, code := r.code, frame := r.frame % 2 ^ 24 }
  let rest := s.hlth.retest.filter (fun q => !(q.tile == r.tile && q.x == r.x && q.y == r.y))
  let q := s.hlthQueue u
  let t := q.1
  if q.2 then { t with hlth := { t.hlth with retest := rest } }.hlthReport u
  else if rest.length < 1024 then { t with hlth := { t.hlth with retest := rest ++ [{ r with done := true }] } }.hlthReport u
  else (t.wr Reg.HLTH_STATUS_RETEST_OVF 1).fire 94

/-- The count of results that confirm a class (R225, R236). -/
def State.confirmN (s : State) : Nat := max 1 (min 4 (s.rd Reg.HLTH_THRESH1_CONFIRM))

/-- A result for a pixel of class `old` in the map (R225). The flag says that it starts or advances a confirmation of a class other than
OK (R226). -/
def State.takeResult (s : State) (t x y old cls code frame : Nat) : State × Bool :=
  let is (q : Retest) : Bool := q.tile == t && q.x == x && q.y == y
  let rest := s.hlth.retest.filter (fun q => !is q)
  let new : Retest := { tile := t, x := x, y := y, cls := cls, count := 1, code := code, frame := frame }
  if cls = 4 then (s.confirm new old, false)
  else if cls = old then ({ s with hlth := { s.hlth with retest := rest } }, false)
  else match s.hlth.retest.find? is with
    | some q =>
      if q.done then (s, false)
      else
        let n := if q.cls = cls then { new with count := q.count + 1 } else new
        if s.confirmN ≤ n.count then (s.confirm n old, cls != 0)
        else ({ s with hlth := { s.hlth with retest := s.hlth.retest.map (fun r => if is r then n else r) } }, cls != 0)
    | none =>
      if s.confirmN ≤ 1 then (s.confirm new old, cls != 0)
      else if s.hlth.retest.length < 1024 then ({ s with hlth := { s.hlth with retest := s.hlth.retest ++ [new] } }, cls != 0)
      else ((s.wr Reg.HLTH_STATUS_RETEST_OVF 1).fire 94, false)

/-- An awaited frame replaced. -/
def State.setAwait (s : State) (a : Awaited) : State :=
  { s with hlth := { s.hlth with await := s.hlth.await.map (fun b => if b.port = a.port ∧ b.frame = a.frame then a else b) } }

/-- A pixel lies in a zone of a tile. -/
def inZone (i : Image) (t z : Nat) (tile x y : Nat) : Bool := tile == t && i.zone t x y == z

/-- The updates that the guard has fixed for the next boundary (spec/18 R426). -/
def State.fixedUpdates (s : State) : List Update := (s.hlth.fixed.map (fun f => s.hlth.queue.take f.1)).getD []

/-- A result is undone (R226): the pixel's entry of the retest list is what it was before, and a change that it confirmed is withdrawn from
the queue and the reports. One that has gone live, or that the guard has fixed (log entry 33), is taken back by a change after it, unless
something else has changed the pixel since or waits to change it (log entry 17). -/
def State.undoResult (s : State) (frame : Nat) (u : Undo) : State :=
  let f := frame % 2 ^ 24
  let isE (r : Retest) : Bool := r.tile == u.tile && r.x == u.x && r.y == u.y
  let isU (q : Update) : Bool := !q.forced && q.frame == f && q.tile == u.tile && q.x == u.x && q.y == u.y
  let kept := s.fixedUpdates.any isU
  let s := { s with hlth := { s.hlth with
    retest := s.hlth.retest.filter (fun r => !isE r)
    queue := s.hlth.queue.filter (fun q => kept || !isU q)
    reports := s.hlth.reports.filter (fun q => !isU q) } }
  let s := match u.entry with
    | some r => s.addRetest r
    | none => s
  let waits := (s.hlth.queue ++ s.hlth.force.toList).any (fun q => !isU q && q.tile == u.tile && q.x == u.x && q.y == u.y)
  if (u.live || kept) && !waits then
    { s with hlth := { s.hlth with reverts := s.hlth.reverts ++ [({ tile := u.tile, x := u.x, y := u.y, new := u.cls, frame := f } : Update)] } }.queueReverts
  else s

/-- All results of a zone in the frame are discarded (R226). -/
def State.discardZone (s : State) (i : Image) (a : Awaited) (t z : Nat) : State :=
  (a.undo.filter (fun u => inZone i t z u.tile u.x u.y)).foldl (fun s u => s.undoResult a.frame u) s

/-- The code of one target of an awaited frame is judged (R222 to R226). -/
def State.judge (s : State) (i : Image) (port frame idx code : Nat) : State :=
  match s.hlth.await.find? (fun a => a.port == port && a.frame == frame) with
  | none => s
  | some a =>
    if a.got.contains idx then s
    else match a.targets[idx]? with
      | none => s
      | some (t, x, y) =>
        let s := s.setAwait { a with got := idx :: a.got }
        let z := i.zone t x y
        let b := (s.seen (s.mapAddr i t x y)).toNat
        let s := s.readOver .other (s.mapAddr i t x y) 1
        if a.flagged.contains z || mapDead s.driftOff b then s
        else if code = 0 then s.inc Reg.HLTH_CNT_NOTMEAS
        else
          let g := 16 * port + z
          let adj := s.hlthAdj g
          let s := if a.capture && !a.off && decide (code ≠ 0xFF) then
              s.writeBaseline i t x y (clampI 1 0xFE ((code : Int) - adj)).toNat else s
          let r := if a.capture || a.off then (0, s) else s.readBaseline i t x y
          let s := r.2
          match classify code a.off r.1 (r.1 + adj) (s.rd Reg.HLTH_THRESH0_SHORT_ABS) (s.rd Reg.HLTH_THRESH0_SHORT_TH)
            (s.rd Reg.HLTH_THRESH0_OPEN_TH) (s.rd Reg.HLTH_THRESH0_DRIFT_TH) (s.rd Reg.HLTH_THRESH1_STUCK_TH) with
          | none => s
          | some c =>
            let u : Undo := { tile := t, x := x, y := y, cls := mapClass b, new := c,
                              entry := s.hlth.retest.find? (fun r => r.tile == t && r.x == x && r.y == y) }
            let a := { a with got := idx :: a.got, undo := u :: a.undo }
            let q := s.takeResult t x y (mapClass b) c code frame
            if !q.2 then q.1.setAwait a
            else
              let n := ((a.burst.find? (fun e => e.1 == z)).map (·.2)).getD 0 + 1
              let a' := { a with burst := (z, n) :: a.burst.filter (fun e => e.1 != z) }
              if n ≤ s.rd Reg.HLTH_THRESH1_ZONE_BURST then q.1.setAwait a'
              else ((q.1.discardZone i a t z).setAwait { a' with flagged := z :: a.flagged }).zoneFail (Fin.ofNat 192 g)

/-- A frame's results have not all arrived by the second latch after it (R233). -/
def State.missAwait (s : State) (a : Awaited) : State :=
  let n := (s.hlth.missRun[a.port]?).getD 0 + 1
  let s := { s with hlth := { s.hlth with missRun := s.hlth.missRun.set! a.port n } }
  let s := (s.addSat Reg.HLTH_CNT_NOTMEAS (a.targets.length - a.got.length)).inc Reg.HLTH_CNT_MISS
  let s := (s.wr Reg.HLTH_STATUS_MISS 1).fire 94
  if n = 3 then s.raise FLT_HLTH_MISS 0x200D0050 (some a.port) else s

/-- The awaited frames are settled, each port's in the order of their latches (R233): one whose codes are complete ends a row of misses, one that
has waited two latches is missed, and the others wait on with those behind them. -/
def State.settleAwait (s : State) : State :=
  s.hlth.await.foldl (fun (s : State) a =>
    if s.hlth.await.any (fun b => b.port == a.port) || (!a.done && decide (a.latches < 2)) then
      { s with hlth := { s.hlth with await := s.hlth.await ++ [a] } }
    else if a.done then { s with hlth := { s.hlth with missRun := s.hlth.missRun.set! a.port 0 } }
    else s.missAwait a) { s with hlth := { s.hlth with await := [] } }

/-- Every code of an awaited frame has arrived, with LAST (R233): the frame is complete. -/
def State.completeAwait (s : State) (port frame : Nat) : State :=
  { s with hlth := { s.hlth with await := s.hlth.await.map (fun (a : Awaited) =>
      if a.port = port ∧ a.frame = frame ∧ a.last ∧ a.targets.length ≤ a.got.length then { a with done := true } else a) } }.settleAwait

/-- An accepted DIAG_RET (spec/07 R177): its codes are judged in turn. -/
def State.hlthResults (s : State) (port frame first : Nat) (codes : List Nat) (last : Bool) : State :=
  if s.understudy then s
  else match s.image with
  | none => s
  | some i =>
    let s := codes.zipIdx.foldl (fun (s : State) c => s.judge i port frame (first + c.2) c.1) s
    let s := if last then { s with hlth := { s.hlth with await := s.hlth.await.map (fun (a : Awaited) =>
        if a.port = port ∧ a.frame = frame then { a with last := true } else a) } } else s
    (s.completeAwait port frame).showHlth

/-- A frame latches: frames that waited two latches are missed, and the new one is awaited on every port that owns its tile (R233). On the
understudy nothing is awaited. -/
def State.hlthLatch (s : State) (f : Frame) : State :=
  let s := { s with hlth := { s.hlth with await := s.hlth.await.map (fun (a : Awaited) => { a with latches := a.latches + 1 }) } }.settleAwait
  if s.understudy then s
  else match s.image with
    | none => s
    | some i =>
      let new := i.ports.filterMap (fun p =>
        let ts := f.targets.filter (fun q => i.port q.1 == some p)
        if ts.isEmpty || !s.on (Reg.TL_STATUS_OWNED p) then none
        else some ({ port := p, frame := f.no, off := f.off, capture := f.capture, targets := ts } : Awaited))
      { s with hlth := { s.hlth with await := s.hlth.await ++ new } }

/-! Commits. -/

/-- The C fields of HLTH (R236). -/
def hlthCFields : List Fld := [Reg.HLTH_SCAN_RATE, Reg.HLTH_SCAN_OFF_EVERY, Reg.HLTH_SCAN_MEAS_Z, Reg.HLTH_SCAN_PULSE]

/-- The code with which an HLTH commit is rejected, 0 where it is not (R236). -/
def State.hlthCode (s : State) : Nat :=
  if 4 < s.rd Reg.HLTH_SCAN_RATE then 1
  else if s.rd Reg.HLTH_SCAN_PULSE < 2 ∨ 32 < s.rd Reg.HLTH_SCAN_PULSE then 2
  else if s.rd Reg.HLTH_SCAN_MEAS_Z = 0 then 3 else 0

/-- HLTH's commit guard for boundary `b` (R6, R8). -/
def State.hlthCapture (s : State) (b : Nat) (now : Bool) : State :=
  if !s.on Reg.HLTH_CTRL_COMMIT || s.hlth.cap.isSome then s
  else if s.hlthCode ≠ 0 then s.rejectCommit Reg.HLTH_CTRL_COMMIT Reg.HLTH_COMMIT_ERR_CODE s.hlthCode 94
  else { s with hlth := { s.hlth with cap := some { boundary := b, now := now, set := s.snap hlthCFields } } }

/-- A captured HLTH set goes live (R5). -/
def State.hlthLive (s : State) : State :=
  match s.hlth.cap with
  | none => s
  | some c => { s with hlth := { s.hlth with cap := none } }.applySet c.set |>.wr Reg.HLTH_CTRL_COMMIT 0

end Sys2Proof.Machine
end

