-- ==== Sys2Proof/Machine/Time.lean ====
section
/-! DEFINITION. TIME: the time domains, frame time, capture, PPS and cues (spec/13_network_time.md R305 to R312, R316). -/

namespace Sys2Proof.Machine

/-- One nanosecond in the unit that domains count in, 2^-28 ns (R305). -/
abbrev nsUnit : Nat := 2 ^ 28
/-- Nanoseconds in a second. -/
abbrev giga : Nat := 1000000000
/-- The time at which the 48-bit seconds register wraps, in 2^-28 ns (R305). -/
abbrev timeWrap : Nat := 2 ^ 48 * giga * nsUnit

/-- A time domain. -/
def State.td (s : State) (d : Fin 2) : Domain := s.time.dom[d]
/-- A time domain replaced. -/
def State.setTd (s : State) (d : Fin 2) (x : Domain) : State := { s with time := { s.time with dom := s.time.dom.set d x } }
/-- The counter N of a domain (R305). -/
def Domain.n (x : Domain) : Nat := x.t / nsUnit % 2 ^ 32
/-- The seconds register S of a domain (R305). -/
def Domain.sec (x : Domain) : Nat := x.t / nsUnit / giga
/-- The nanoseconds within the second. -/
def Domain.nsIn (x : Domain) : Nat := x.t / nsUnit % giga
/-- The domain counts (R305). -/
def State.tdOn (s : State) (d : Fin 2) : Bool := s.on (Reg.TIME_D_CTRL_EN d)

/-- The increment in force: 2.4975 to 2.5025 ns, a written value outside acts as the nearer limit (R305). -/
def incrInForce (w : Nat) : Nat := max 0x27F5C28F (min 0x280A3D70 w)

/-- A domain after one 2.5 ns tick (R305). -/
def State.tdTick (s : State) (d : Fin 2) : State :=
  if s.tdOn d then s.setTd d { s.td d with t := ((s.td d).t + incrInForce (s.rd (Reg.TIME_D_INCR_INCR d))) % timeWrap } else s

/-- The source domain of frame time (R309). -/
def State.ftSrc (s : State) : Fin 2 := Fin.ofNat 2 (s.rd Reg.TIME_STATUS_FT_SRC)
/-- Frame time F in 2^-28 ns (R309). -/
def State.frameTime (s : State) : Int := (s.td s.ftSrc).t + s.time.delta
/-- Frame time in whole 2.5 ns ticks (R127). -/
def State.ftTick (s : State) : Int := s.frameTime * 2 / (5 * nsUnit)
/-- The first 2.5 ns tick that is no earlier than frame time (R129). -/
def State.ftTickUp (s : State) : Int := (s.frameTime * 2 + (5 * nsUnit - 1)) / (5 * nsUnit)
/-- Frame time runs. -/
def State.ftRunning (s : State) : Bool := s.tdOn s.ftSrc

/-- A 64-bit network-time stamp of a time in 2^-28 ns: S[31:0] above the nanoseconds within the second (R307). -/
def stamp64 (t : Int) : Nat :=
  let ns := (t / nsUnit).toNat
  (ns / giga % 2 ^ 32) <<< 32 ||| ns % giga

/-- The Δ register, whole nanoseconds (R316). -/
def State.showDelta (s : State) : State :=
  (s.wr Reg.TIME_FT_DELTA_DELTA (unsigned 32 (s.time.delta.tdiv nsUnit))).wrB Reg.TIME_STATUS_SLEWING (s.time.delta != 0)

/-- The cue's compare time as the registers hold it, in ns (R312, R316). -/
def State.cueTime (s : State) (k : Fin 2) : Nat := s.rd (Reg.TIME_CUE_SEC_SEC k) * giga + s.rd (Reg.TIME_CUE_NS_NS k)
/-- The time that cues of domain `d` compare with: S[31:0] and the nanoseconds within the second (R312). -/
def State.cueNow (s : State) (d : Fin 2) : Nat := (s.td d).sec % 2 ^ 32 * giga + (s.td d).nsIn
/-- The cue's domain. -/
def State.cueDom (s : State) (k : Fin 2) : Fin 2 := Fin.ofNat 2 (s.rd (Reg.TIME_CUE_CTRL_DOMAIN k))
/-- The cue's repeat period (R316): values from 1 to 999 act as 1,000. -/
def State.cuePeriod (s : State) (k : Fin 2) : Nat :=
  let p := s.rd (Reg.TIME_CUE_PERIOD_PERIOD k)
  if p = 0 then 0 else max p 1000

/-- Cue `k` armed for compare time `t`, or disarmed; late where the time has passed (R312). -/
def State.armCue (s : State) (k : Fin 2) (t : Option Nat) : State :=
  { s with time := { s.time with
      cueNext := s.time.cueNext.set k t
      cueLate := s.time.cueLate.set k (match t with | none => false | some t => decide (t < s.cueNow (s.cueDom k))) } }

/-- The first compare time after `now` of a cue that has reached `t` and repeats every `p` ns (R312). -/
def nextCue (t p now : Nat) : Nat := if now < t + p then t + p else t + p * ((now - t) / p + 1)

/-- What a step of domain `d` does to its cues (R312): a forward step past a compare time makes the cue late; after a backward step
every enabled cue whose compare time lies ahead waits for it again. A firing that is due stays due. -/
def State.cuesStepped (s : State) (d : Fin 2) (back : Bool) : State :=
  s.forFin fun (k : Fin 2) s =>
    let waits := match s.time.cueNext[k] with
      | some t => s.armCue k (some t)
      | none => s
    if s.cueDom k != d || !s.on (Reg.TIME_CUE_CTRL_EN k) then s
    else if back && !(s.time.cueNext[k].any (fun t => decide (t ≤ s.cueNow d))) then
      let t := s.cueTime k
      let p := s.cuePeriod k
      if s.cueNow d < t then s.armCue k (some t)
      else if p = 0 then s
      else s.armCue k (some (nextCue t p (s.cueNow d)))
    else waits

/-- TIME_DOMAIN_EN: a clear for the running frame-time source is ignored and sets WERR (R309). -/
def execTimeDomainEn (d : Fin 2) (m : Master) (v : Word) (s : State) : Res :=
  let a := 0x20130100 + d.val * 0x40
  .next (s.busWrite m a v fun s =>
    if v.toNat.testBit 0 then s.wr (Reg.TIME_D_CTRL_EN d) 1
    else if s.tdOn d && s.ftSrc == d && s.on Reg.FT_STATUS_RUN then s.werr a
    else
      let s := s.wr (Reg.TIME_D_CTRL_EN d) 0
      if s.rd Reg.TIME_PPS_DOMAIN == d.val then { s with time := { s.time with pps := false } } else s)

/-- The value in TIME_Dd_ADJ as an absolute time, or none where it is out of range (R308). -/
def State.adjLoad (s : State) (d : Fin 2) : Option AdjCmd :=
  let ns := s.rd (Reg.TIME_D_ADJ_NS_NS d)
  if ns < giga then
    some { load := true, ns := ns,
           sec := (s.rd (Reg.TIME_D_ADJ_SEC_LO_SEC d) + s.rd (Reg.TIME_D_ADJ_SEC_HI_SEC d) * 2 ^ 32 : Nat) }
  else none

/-- The value in TIME_Dd_ADJ as a signed step, or none where it is out of range (R308). -/
def State.adjStep (s : State) (d : Fin 2) : Option AdjCmd :=
  let ns := signed 32 (s.rd (Reg.TIME_D_ADJ_NS_NS d))
  if ns.natAbs < giga then
    some { load := false, ns := ns,
           sec := signed 48 (s.rd (Reg.TIME_D_ADJ_SEC_LO_SEC d) + s.rd (Reg.TIME_D_ADJ_SEC_HI_SEC d) * 2 ^ 32) }
  else none

/-- STEP_PEND_A or STEP_PEND_B (R316). -/
def stepPend (d : Fin 2) : Fld := if d = 0 then Reg.TIME_STATUS_STEP_PEND_A else Reg.TIME_STATUS_STEP_PEND_B

/-- A LOAD or STEP is set (R308): ignored with WERR while one is pending or with its value out of range, else it waits. -/
def State.setAdj (s : State) (d : Fin 2) (a : Nat) (f : Fld) (c : Option AdjCmd) : State :=
  match (s.td d).cmd, c with
  | none, some c =>
    let s := (s.setTd d { s.td d with cmd := some c }).wr f 1
    if s.ftSrc == d && s.on Reg.FT_STATUS_RUN then s.wr (stepPend d) 1 else s
  | _, _ => s.werr a

/-- TIME_LOAD (R308). -/
def execTimeLoad (d : Fin 2) (m : Master) (v : Word) (s : State) : Res :=
  let a := 0x20130100 + d.val * 0x40
  .next (s.busWrite m a v fun s =>
    if v.toNat.testBit 1 then s.setAdj d a (Reg.TIME_D_CTRL_LOAD d) (s.adjLoad d) else s)

/-- TIME_STEP (R308). -/
def execTimeStep (d : Fin 2) (m : Master) (v : Word) (s : State) : Res :=
  let a := 0x20130100 + d.val * 0x40
  .next (s.busWrite m a v fun s =>
    if v.toNat.testBit 2 then s.setAdj d a (Reg.TIME_D_CTRL_STEP d) (s.adjStep d) else s)

/-- The domain's time after a LOAD or STEP, or none where a STEP would leave the range (R308). -/
def Domain.adjusted (x : Domain) (c : AdjCmd) : Option Nat :=
  let r : Int := if c.load then (c.sec * giga + c.ns) * nsUnit else (x.t : Int) + (c.sec * giga + c.ns) * nsUnit
  if 0 ≤ r ∧ r < timeWrap then some r.toNat else none

/-- A step of frame time while FT runs raises FLT_TIME_STEP and is a schedule change (R309, R135), which FT takes up with
`change` and the ticks by which frame time has moved from `before`. -/
def State.timeStepped (s : State) (before : Int) (change : Int → State → State) : State :=
  if s.on Reg.FT_STATUS_RUN then change (s.ftTick - before) (s.raise FLT_TIME_STEP 0x20130004) else s

/-- A pending LOAD or STEP of domain `d` takes effect (R308). -/
def State.applyAdj (s : State) (d : Fin 2) (change : Int → State → State) : State :=
  match (s.td d).cmd with
  | none => s
  | some c =>
    let before := s.ftTick
    let x := s.td d
    let s := ((s.setTd d { x with cmd := none }).wr (if c.load then Reg.TIME_D_CTRL_LOAD d else Reg.TIME_D_CTRL_STEP d) 0).wr (stepPend d) 0
    match x.adjusted c with
    | none => s.werr 0x20130100
    | some t =>
      let s := ((s.setTd d { s.td d with t := t }).cuesStepped d (decide (t < x.t))).fire 61
      if s.ftSrc == d then s.timeStepped before change else s

/-- FT_SOURCE_SWITCH: a write of FT_SEL, by the first case of R309 that applies. -/
def execFtSourceSwitch (m : Master) (v : Word) (s : State) : Res :=
  .next (s.busWrite m 0x20130000 v fun s =>
    let d := Fin.ofNat 2 (bits v.toNat 0 1)
    if d == s.ftSrc && !s.on Reg.TIME_STATUS_SWITCH_PEND then s.wr Reg.TIME_CTRL_FT_SEL d
    else if !s.tdOn d || s.on Reg.TIME_STATUS_SWITCH_PEND then s.werr 0x20130000
    else
      let diff := s.frameTime - (s.td d).t
      let t := s.wr Reg.TIME_CTRL_FT_SEL d
      if !s.on Reg.FT_STATUS_RUN then
        ({ t.wr Reg.TIME_STATUS_FT_SRC d with time := { t.time with delta := 0 } }.showDelta).fire 60
      else if diff.natAbs ≤ 1000 * nsUnit then
        ({ t.wr Reg.TIME_STATUS_FT_SRC d with time := { t.time with delta := diff } }.showDelta).fire 60
      else t.wr Reg.TIME_STATUS_SWITCH_PEND 1)

/-- The pending stepped switch takes place at SOB (R309). One to a domain whose EN has been cleared since is ignored and sets WERR, as at its
request, for frame timing never runs on a source whose EN is 0 (DEDUCED; log entry 48). -/
def State.applySwitch (s : State) (change : Int → State → State) : State :=
  let before := s.ftTick
  if s.on Reg.TIME_STATUS_SWITCH_PEND && !s.tdOn (Fin.ofNat 2 (s.rd Reg.TIME_CTRL_FT_SEL)) then
    (s.wr Reg.TIME_STATUS_SWITCH_PEND 0).werr 0x20130000
  else if s.on Reg.TIME_STATUS_SWITCH_PEND then
    let t := (s.wr Reg.TIME_STATUS_SWITCH_PEND 0).wr Reg.TIME_STATUS_FT_SRC (s.rd Reg.TIME_CTRL_FT_SEL)
    (({ t with time := { t.time with delta := 0 } }.showDelta).fire 60).timeStepped before change
  else s

/-- TIME_SLEW_STEP: Δ moves 1 ns towards 0 (R309). -/
def execTimeSlewStep (s : State) : Res :=
  .next (
    if s.time.delta = 0 then s else
    let d := s.time.delta
    let d' := if d.natAbs ≤ nsUnit then 0 else if 0 < d then d - nsUnit else d + nsUnit
    let t := { s with time := { s.time with delta := d' } }.showDelta
    if d' = 0 then t.fire 60 else t)

/-- S as its registers show it: held, or else live (R306). -/
def Domain.shownSec (x : Domain) : Nat := x.held.getD x.sec

/-- A half of S has been read: with both read the hold ends (R306). -/
def Domain.halfRead (x : Domain) (lo hi : Bool) : Domain :=
  let l := x.readLo || lo
  let h := x.readHi || hi
  if l && h then { x with held := none, readLo := false, readHi := false } else { x with readLo := l, readHi := h }

/-- TIME_NS_READ: the read of NS returns N and holds S until both halves have been read; a read of a half returns what is held, else the live
S (R306). The register shows what the read returned. -/
def execTimeNsRead (d : Fin 2) (part : TimePart) (s : State) : Res :=
  let x := s.td d
  .next (
    match part with
    | .ns =>
      let s := (s.setTd d { x with held := some x.sec, readLo := false, readHi := false }).wr (Reg.TIME_D_NS_N d) x.n
      (s.wr (Reg.TIME_D_SEC_LO_SEC d) x.sec).wr (Reg.TIME_D_SEC_HI_SEC d) (x.sec / 2 ^ 32)
    | .secLo =>
      (s.setTd d (if x.held.isSome then x.halfRead true false else x)).wr (Reg.TIME_D_SEC_LO_SEC d) x.shownSec
    | .secHi =>
      (s.setTd d (if x.held.isSome then x.halfRead false true else x)).wr (Reg.TIME_D_SEC_HI_SEC d) (x.shownSec / 2 ^ 32))

/-- TIME_CAPk registers follow the FIFO (R310, R316). -/
def State.showCap (s : State) (k : Fin 4) : State :=
  let q := s.time.cap[k]
  let h : CapEntry := q.headD {}
  (((((s.wr (Reg.TIME_CAP_NS_N k) h.n).wr (Reg.TIME_CAP_INFO_SEC k) h.sec).wrB (Reg.TIME_CAP_INFO_EDGE k) h.falling).wr
    (Reg.TIME_CAP_INFO_DOMAIN k) h.dom).wr (Reg.TIME_CAP_INFO_LEVEL k) q.length).wrB (Reg.TIME_CAP_INFO_VALID k) (!q.isEmpty)

/-- TIME_CAPTURE_EDGE: a selected edge is stamped into the FIFO of its input, or dropped with CAP_OVF (R310). -/
def execTimeCaptureEdge (k : Fin 4) (rising : Bool) (s : State) : Res :=
  .next (
    if !(s.rd (Reg.TIME_CAP_EDGE k)).testBit (if rising then 0 else 1) then s
    else if 8 ≤ (s.time.cap[k]).length then (s.wr (Reg.TIME_STATUS_CAP_OVF k) 1).fire 62
    else
      let d := Fin.ofNat 2 (s.rd (Reg.TIME_CAP_DOM k))
      let e : CapEntry := { n := (s.td d).n, sec := (s.td d).sec % 2 ^ 16, falling := !rising, dom := d }
      let t := { s with time := { s.time with cap := s.time.cap.set k (s.time.cap[k] ++ [e]) } }.showCap k
      if (s.time.cap[k]).isEmpty then t.fire 57 else t)

/-- TIME_CAP_INFO_READ: the read removes the oldest entry (R310). -/
def execTimeCapInfoRead (k : Fin 4) (s : State) : Res :=
  .next ({ s with time := { s.time with cap := s.time.cap.set k (s.time.cap[k]).tail } }.showCap k)

/-- PPS_EDGE: PPS_OUT rises and TIME_PPS fires, while PPS and the selected domain are enabled (R311). -/
def execPpsEdge (s : State) : Res :=
  .next (
    if s.on Reg.TIME_PPS_EN && s.tdOn (Fin.ofNat 2 (s.rd Reg.TIME_PPS_DOMAIN)) then
      { s with time := { s.time with pps := true } }.fire 56 else s)

/-- PPS_FALL: PPS_OUT falls (R311). -/
def execPpsFall (s : State) : Res := .next { s with time := { s.time with pps := false } }

/-- CUE_FIRE: an armed cue whose domain has reached its compare time fires (R312). -/
def execCueFire (k : Fin 2) (s : State) : Res :=
  .next (
    match s.time.cueNext[k] with
    | none => s
    | some t =>
      let now := s.cueNow (s.cueDom k)
      if now < t then s else
      let late := s.time.cueLate[k]
      let p := s.cuePeriod k
      let nxt := if p = 0 then none else some (if late then nextCue t p now else t + p)
      let pin := s.rd (Reg.TIME_CUE_CTRL_PIN k)
      let lvl := if pin = 1 then true else if pin = 2 then !s.time.tsout[k] else s.time.tsout[k]
      let u := { s with time := { s.time with cueNext := s.time.cueNext.set k nxt, cueLate := s.time.cueLate.set k false, tsout := s.time.tsout.set k lvl,
                                              pulse := s.time.pulse.set k (s.time.pulse[k] || pin == 1) } }
      let u := u.fire (58 + k)
      if late then (u.wr (Reg.TIME_STATUS_CUE_LATE k) 1).fire 62 else u)

/-- CUE_PULSE_END: a pulse on TSOUTk ends (R312). -/
def execCuePulseEnd (k : Fin 2) (s : State) : Res :=
  .next (
    if s.time.pulse[k] then { s with time := { s.time with tsout := s.time.tsout.set k false, pulse := s.time.pulse.set k false } } else s)

end Sys2Proof.Machine
end

