-- ==== Sys2Proof/Machine/PairOps.lean ====
section
/-! DEFINITION. The operations of PAIR that other blocks use: packets of the partner lane, roles, the cross-check
(spec/18_pair.md R418 to R435). -/

namespace Sys2Proof.Machine

/-- The unit's epoch: the highest TL_EPOCH of its mapped ports (R421, R424). -/
def State.pairEpoch (s : State) : Nat :=
  (List.finRange 12).foldl (fun a (p : Fin 12) => if s.isMapped p then max a (s.rd (Reg.TL_EPOCH_EPOCH p)) else a) 0

/-- A packet joins what has left on the partner lane, while PAIR is enabled and its lane neither held in idle nor in test. -/
def State.pairPut (s : State) (type flags : Nat) (payload : List Byte) : State :=
  if s.on Reg.PAIR_CTRL_EN && !s.on (Reg.LANE_CTRL_IDLE_REQ 12) && !s.laneTest 12 then
    let b := tlPacket type flags s.pairEpoch 0 payload
    { s with pair := { s.pair with out := s.pair.out ++ [b] } }.lanePacket 12 b
  else s

/-- The REG packets of a list of entries, at most 512 entries each (R421). -/
def regPackets : Nat → List (Nat × Nat) → List (List Byte)
  | 0, _ => []
  | n + 1, es =>
    if es.isEmpty then []
    else (es.take 512).flatMap (fun e => leBytes 4 e.1 ++ leBytes 4 e.2) :: regPackets n (es.drop 512)

/-- The queued REG entries leave, in write order (R425). -/
def State.pairFlush (s : State) : State :=
  let es := s.pair.regQueue
  (regPackets es.length es).foldl (fun s p => s.pairPut 0x84 0 p) { s with pair := { s.pair with regQueue := [] } }

/-- A packet is sent: BEAT, CRC and HELLO before the REG entries that are queued, any other after them (R421, R425). -/
def State.pairSend (s : State) (type : Nat) (payload : List Byte) : State :=
  if type ≤ 0x82 then (s.pairPut type 0 payload).pairFlush else s.pairFlush.pairPut type 0 payload

/-- The unit is the lead of a formed pair. -/
def State.pairLead (s : State) : Bool := s.on Reg.PAIR_CTRL_EN && s.rd Reg.PAIR_STATUS_STATE == 2 && s.on Reg.PAIR_STATUS_LEAD

/-- The transmitters drop LINE, ZONE, LATCH, DIAG_REQ and FALLBACK (R426, R431, R432). -/
def State.txMuted (s : State) : Bool := s.understudy || s.pair.mute

/-- COMMIT of a block of PAIR_MIRROR bit `b`, captured on the lead for the boundary of `frame` (R425). -/
def State.mirrorCommit (s : State) (b frame : Nat) : State :=
  if s.pairLead && (s.rd Reg.PAIR_MIRROR_BLOCKS).testBit b then
    s.pairSend 0x83 (leBytes 4 frame ++ leBytes 2 (2 ^ b) ++ [0, 0])
  else s

/-- STATE of the paired lead (R421, R426). -/
def State.pairState (s : State) : State :=
  if !s.pairLead then s
  else
    let pend := (List.range 3).flatMap (fun w => leBytes 4 (s.readWord (0x20040020 + 4 * w)))
    let valid := (List.range 5).foldl (fun a k => a + 2 ^ k * s.rd (Reg.FLT_CAP_INFO_VALID k)) 0
    s.pairSend 0x89 (leBytes 4 (s.rd Reg.CAL_KI_KI) ++ leBytes 2 (s.rd Reg.CAL_I0_I0) ++ leBytes 2 (s.rd Reg.CAL_I0_SCORR) ++ pend ++
      leBytes 1 valid ++ leBytes 1 (s.rd Reg.SAFE_STATUS_LOCKOUT) ++ List.replicate 10 0)

/-! Roles. -/

/-- PAIR_STATUS.ARMED (R430). -/
def State.showArmed (s : State) : State :=
  s.wrB Reg.PAIR_STATUS_ARMED
    (s.understudy && s.pair.decided && s.pair.live && (s.on Reg.PAIR_STATUS_IN_SYNC || s.on Reg.PAIR_CTRL_TAKE_UNSYNC))

/-- IN_SYNC (R429): PAIR_SYNC fires on a change (R433). -/
def State.setInSync (s : State) (b : Bool) : State :=
  let t := s.wrB Reg.PAIR_STATUS_IN_SYNC b
  (if s.on Reg.PAIR_STATUS_IN_SYNC != b then t.fire 107 else t).showArmed

/-- STATE of the pair: PAIR_STATE fires on a change (R433). -/
def State.setPairState (s : State) (st : Nat) : State :=
  let t := s.wr Reg.PAIR_STATUS_STATE st
  (if s.rd Reg.PAIR_STATUS_STATE != st then t.fire 105 else t).showArmed

/-- The first mapped port whose tile has sent CAPS. -/
def State.firstCaps (s : State) : Option (List Byte) :=
  ((List.finRange 12).find? (fun (p : Fin 12) => s.isMapped p && !(s.port p).caps.isEmpty)).map (fun p => (s.port p).caps)

/-- The tile port that this unit's tiles report: 0 A, 1 B (R154, R422). -/
def State.tilePort (s : State) : Nat := (s.firstCaps.map (fun c => bits (byteAt c 19) 1 1)).getD 0

/-- A mapped tile reports, in CAPS or HEALTH, an epoch above 0 for the other tile port (R420). -/
def State.otherClaimed (s : State) : Bool :=
  (List.finRange 12).any (fun (p : Fin 12) =>
    let c := (s.port p).caps
    let b := bits (byteAt c 19) 1 1
    s.isMapped p && !c.isEmpty &&
      (decide (0 < (if b = 0 then leAt c 36 3 else leAt c 32 3)) ||
       (decide (0 < (s.port p).epoch) && bits (s.rd (Reg.TL_HLTH_STAT_STATUS p)) 1 1 != b)))

/-- HELLO (R422). -/
def State.pairHello (s : State) (resync : Bool) : State :=
  let role := if !s.pair.decided then 2 else if s.on Reg.PAIR_STATUS_LEAD then 0 else 1
  let mode := (s.image.map Image.mode).getD 0
  let id := (s.image.map Image.imageId).getD 0
  s.pairSend 0x80 ([0x10] ++ leBytes 1 role ++ leBytes 1 s.tilePort ++ leBytes 1 (b2n resync) ++
    leBytes 1 (s.rd Reg.SAFE_SEAL_LATCHED) ++ leBytes 1 mode ++ [0, 0] ++ leBytes 4 (s.rd Reg.SA_KLIB_VER_VER) ++ leBytes 4 id ++
    leBytes 4 (s.readWord 0x20070004) ++ leBytes 4 (s.rd Reg.WIN_BASE_HI_ADDR_HI * 65536 + s.rd Reg.WIN_BASE_ADDR) ++
    List.replicate 8 0)

/-- Epoch E + 1 is claimed on every mapped port, unless it would reach 0xFF_FFFF (R420, R431): E is the
highest that any mapped port's last HEALTH and the partner's last BEAT report. -/
def State.pairClaim (s : State) : State :=
  let e := (List.finRange 12).foldl (fun a (p : Fin 12) => if s.isMapped p then max a (s.port p).epoch else a) (s.rd Reg.PAIR_EPOCH_PEER)
  if 0xFFFFFF ≤ e + 1 then (s.wr Reg.PAIR_STATUS_CLAIM_ERR 1).fire 110
  else s.forFin fun (p : Fin 12) s => if s.isMapped p then (s.wr (Reg.TL_EPOCH_EPOCH p) (e + 1)).tlClaim p else s

/-- The understudy takes over (R431). Its transmitters send every packet type from the next boundary. -/
def State.pairTakeover (s : State) : State :=
  let s := s.pairClaim
  let s := { s.wr Reg.PAIR_STATUS_LEAD 1 with pair := { s.pair with mute := true, live := false, therm := none, zlim := [] } }
  ((s.raise FLT_PAIR_TAKEOVER 0x20150004).fire 104).showArmed

/-- A lead demotes itself (R432): its own map changes and results end (spec/09 R233) and releases the stage (spec/10 R241). -/
def State.pairDemote (s : State) : State :=
  if !(s.on Reg.PAIR_CTRL_EN && s.on Reg.PAIR_STATUS_LEAD) then s
  else
    let s := { s.wr Reg.PAIR_STATUS_LEAD 0 with pair := { s.pair with mute := true, live := false, run := 0 } }
    let s := s.hlthFollow
    let s := (s.lscRelease.setInSync false).pairHello true
    ((s.raise FLT_PAIR_DEMOTE 0x20150004).fire 104).showArmed

/-! Beats and the cross-check. -/

/-- BEAT with the FRAME_NO and the stamp of a boundary (R424). FAULTY is set while the island is in FALLBACK, while RESIGN is 1, and in
the final one of a CRST reaction (R430). -/
def State.pairBeat (s : State) (frame stamp : Nat) (final : Bool) : State :=
  if !(s.on Reg.PAIR_CTRL_EN && s.rd Reg.PAIR_STATUS_STATE == 2) then s
  else
    let lead := s.on Reg.PAIR_STATUS_LEAD
    let faulty := lead && (final || s.on Reg.PAIR_CTRL_RESIGN || (s.on Reg.SAFE_CTRL_EN && s.rd Reg.SAFE_STATUS_STATE == 3))
    s.pairSend 0x81 (leBytes 4 frame ++ leBytes 8 stamp ++ leBytes 3 s.pairEpoch ++
      leBytes 1 (b2n faulty + 2 * s.rd Reg.PAIR_STATUS_IN_SYNC + 4 * b2n lead) ++ List.replicate 8 0)

/-- The final BEAT, with FAULTY, when a CRST reaction begins (R430). -/
def State.pairLastBeat (s : State) : State :=
  let b := s.pair.bounds.headD (0, 0)
  s.pairBeat b.1 b.2 true

/-- Nanoseconds from one stamp to another (R307). -/
def stampDiff (a b : Nat) : Int := signed 32 (a / 2 ^ 32 + (2 ^ 32 - b / 2 ^ 32)) * giga + (((a % 2 ^ 32 : Nat) : Int) - (b % 2 ^ 32 : Nat))

/-- PAIR_OFFSET once both units' boundaries of one frame are known (R424): own instant, less the lead's, less the link delay. -/
def State.showOffset (s : State) : State :=
  match s.pair.beat with
  | none => s
  | some b =>
    match s.pair.bounds.find? (fun x => x.1 == b.1) with
    | none => s
    | some x =>
      let d := stampDiff x.2 b.2 - ((s.pair.rtt + 128) / 256 : Nat)
      { s with pair := { s.pair with beat := none } }.wr Reg.PAIR_OFFSET_NS (unsigned 32 (clampI (-2 ^ 31) (2 ^ 31 - 1) d))

/-- This unit's boundary of `frame` has taken place (R424). From its next boundary a unit that is the lead sends every packet type
(R431). -/
def State.pairBoundary (s : State) (frame stamp : Nat) : State :=
  let s := if s.pair.mute && s.on Reg.PAIR_STATUS_LEAD then { s with pair := { s.pair with mute := false } } else s
  if !s.on Reg.PAIR_CTRL_EN then s
  else
    let s := { s with pair := { s.pair with bounds := ((frame, stamp) :: s.pair.bounds).take 4 } }
    (if s.understudy then s.showOffset else s).pairBeat frame stamp false

/-- Frames that matched in a row before IN_SYNC sets (R435). -/
def State.syncOk (s : State) : Nat := max 1 (s.rd Reg.PAIR_CFG_SYNC_OK)

/-- Two records of one frame are compared (R429). -/
def State.comparePair (s : State) (a b : PairCrc) : State :=
  if a.aborted || b.aborted || a.ports != b.ports then s
  else
    let diff := (List.range 12).filter (fun k => a.crc.getD k 0 != b.crc.getD k 0)
    if diff.isEmpty then
      let n := s.pair.run + 1
      let s := { s with pair := { s.pair with run := n } }
      if s.syncOk ≤ n then s.setInSync true else s
    else
      let s := (s.wr Reg.PAIR_STATUS_DIVERGE 1).forFin fun (k : Fin 12) s => if diff.contains k.val then s.wr (Reg.PAIR_CMP_PORTS k) 1 else s
      let s := { s.inc Reg.PAIR_CNT_DIVERGE with pair := { s.pair with run := 0 } }
      ((s.fire 106).setInSync false).raise FLT_PAIR_DIVERGE 0x20150004

/-- This unit's record of a frame, at FD or after an abort (R428): kept, sent, and compared with the partner's if that has come. -/
def State.pairRecord (s : State) (frame : Nat) (aborted : Bool) : State :=
  if !(s.on Reg.PAIR_CTRL_EN && s.rd Reg.PAIR_STATUS_STATE == 2) then s
  else
    let mask := (List.finRange 12).foldl (fun a (p : Fin 12) => a + (if s.isMapped p then 2 ^ p.val else 0)) 0
    let r : PairCrc := { frame := frame, ports := mask, aborted := aborted, crc := (List.range 12).map (fun k => s.rd (Reg.SA_DRV_PCRC_CRC k)) }
    let s := { s with pair := { s.pair with own := (r :: s.pair.own).take 4 } }
    let s := s.pairSend 0x82 (leBytes 4 frame ++ leBytes 2 mask ++ leBytes 1 (b2n aborted) ++ [0] ++ r.crc.flatMap (leBytes 4) ++ [0, 0, 0, 0])
    match s.pair.peer.find? (fun x => x.frame == frame) with
    | none => s
    | some x => { s with pair := { s.pair with peer := s.pair.peer.filter (fun y => y.frame != frame) } }.comparePair r x

/-- A packet of the partner: its payload where it is of the type and of one of the lengths given, with DIR 0 (R421). -/
def pairPayload (type : Nat) (lenOk : Nat → Bool) (data : List Byte) : Option (List Byte) :=
  let n := leAt data 2 2
  if byteAt data 0 = type ∧ byteAt data 1 % 2 = 0 ∧ data.length = n + 8 ∧ lenOk n then some (data.drop 8) else none

/-- A packet that reaches the unit on its partner lane: the partner's, or under LOOPBACK one of its own (spec/08 R209). -/
def State.pairIn (s : State) (type : Nat) (lenOk : Nat → Bool) (data : List Byte) : Option (List Byte) :=
  if s.laneReaches 12 s.pair.out data then pairPayload type lenOk data else none

/-- A valid packet has arrived (R430). -/
def State.pairLive (s : State) : State := { s with pair := { s.pair with live := true } }.showArmed

end Sys2Proof.Machine
end

