-- ==== Sys2Proof/Machine/CalOps.lean ====
section
/-! DEFINITION. The operations of calibration that other blocks use: samples and blocks, the store (spec/12_calibration.md R279 to
R288). -/

namespace Sys2Proof.Machine

/-- Tm: the mean of T_z over every zone of every mapped tile, S8.8 (R283); none with no tile mapped. -/
def State.tm (s : State) : Option Int :=
  let gs := (List.range 192).filter (fun g => s.isMapped (g / 16))
  if gs.isEmpty then none else some ((gs.map (fun g => signed 16 (s.rd (Reg.THM_ZTEMP_TJ g)))).sum / (gs.length : Int))

/-- What a least-squares evaluation answers (R280, R281). -/
inductive CalEval where | insufficient | failed | passed (ki : Nat) (i0 : Int)
deriving DecidableEq, Repr

/-- The block evaluation of R280 over samples (x, y). `span` says that the sufficiency test applies. A spread of 0, which XSD_MIN = 0
lets through, gives no stated ki: `free` stands for it. -/
def calEval (xs : List (Nat × Nat)) (span : Bool) (xsdMin resMax kiMin kiMax i0Max free : Nat) : CalEval :=
  let n : Int := xs.length
  let sum (f : Nat × Nat → Int) : Int := (xs.map f).sum
  let sx := sum (fun e => e.1)
  let sy := sum (fun e => e.2)
  let num := n * sum (fun e => e.1 * e.2) - sx * sy
  let den := n * sum (fun e => e.1 * e.1) - sx * sx
  if span ∧ den < (n * xsdMin * 65536) ^ 2 then .insufficient
  else
    let ki : Int := if den = 0 then free else (num * 2 ^ 32 + den / 2) / den
    let i0 := (sy * 2 ^ 32 - ki * sx + n * 2 ^ 31) / (n * 2 ^ 32)
    let r (e : Nat × Nat) : Int := e.2 - (ki * e.1 + 2 ^ 31) / 2 ^ 32 - i0
    if n * (resMax : Int) ^ 2 < sum (fun e => r e ^ 2) ∨ ki < kiMin * 16 ∨ kiMax * 16 < ki ∨ (i0Max : Int) * 4 < i0.natAbs then .failed
    else .passed ki.toNat i0

/-- The evaluation with the limits of the CAL registers; a free value is drawn for it (log entry 4). -/
def State.calEval (s : State) (xs : List (Nat × Nat)) (span : Bool) : CalEval × State :=
  let f := s.fresh
  (Machine.calEval xs span (s.rd Reg.CAL_CFG_XSD_MIN) (s.rd Reg.CAL_CFG_RES_MAX) (s.rd Reg.CAL_LIMITS_KI_MIN) (s.rd Reg.CAL_LIMITS_KI_MAX)
    (s.rd Reg.CAL_LIMITS_I0_MAX) f.1, f.2)

/-- A successful run or procedure (R282). -/
def State.calSuccess (s : State) (ki : Nat) (i0 : Int) : State :=
  let ns := (s.frameTime / nsUnit).toNat
  let s := ((s.wr Reg.CAL_KI_KI ki).wr Reg.CAL_I0_I0 (unsigned 16 i0)).wr Reg.CAL_STATUS_KI_VALID 1
  let s := ((s.inc Reg.CAL_COUNT_COUNT).wr Reg.CAL_LAST_TIME_NS_VALUE (ns % giga)).wr Reg.CAL_LAST_TIME_SEC_VALUE (ns / giga)
  let s := match s.tm with
    | none => s
    | some t => s.wr Reg.CAL_LAST_TEMP_TEMP (unsigned 16 t)
  let s := if s.on Reg.CAL_CTRL_AUTO_SAVE then { s with cal := { s.cal with autoDue := true } } else s
  s.pairState.fire 88

/-- The run ends (R280 to R282). -/
def State.calEnd (s : State) : State :=
  { ((s.wr Reg.CAL_STATUS_RUN 0).wr Reg.CAL_CTRL_START 0).wr Reg.CAL_STATUS_BLOCK 0 with cal := { s.cal with samples := [] } }

/-- The end of a block of 256 accepted samples (R280 to R282). -/
def State.calBlock (s : State) : State :=
  let r := s.calEval s.cal.samples true
  match r.1 with
  | .insufficient => { r.2.wr Reg.CAL_STATUS_BLOCK 0 with cal := { r.2.cal with samples := [] } }
  | .failed => ((r.2.calEnd.wr Reg.CAL_STATUS_RESID_ERR 1).fire 88).raise FLT_CAL_RESID 0x20100004
  | .passed ki i0 => r.2.calEnd.calSuccess ki i0

/-- CALP/CALN conversions of the period, corrected with the pair of range 1 in force (R277, R278). -/
def State.calpTaken (s : State) (calp : List (Fin 4096)) : List Nat := s.cal.calp ++ calp.map (fun c => s.adc 1 c.val)

/-- The mean of the CALP/CALN conversions of a period, each corrected with the pair that it was made under (R277, R278, R284): `calp` holds the
raw ones since the last ADC_CORR_DONE. -/
def State.calpMean (s : State) (calp : List (Fin 4096)) : Nat := meanOf (s.calpTaken calp).sum (s.calpTaken calp).length

/-- The reference current of the CALP/CALN conversions of a period in mA (R284); a free value where SHUNT is 0 (log entry 4). -/
def State.iRef (s : State) (calp : List (Fin 4096)) : Nat × State :=
  let sh := s.rd Reg.CAL_EXT_CTRL_SHUNT
  if sh = 0 then s.fresh else (s.calpMean calp * 100000000 / (4096 * sh), s)

/-- An accepted sample joins the step of the external procedure that collects (R284). -/
def State.extSample (s : State) (x iavg : Nat) (calp : List (Fin 4096)) : State :=
  match s.cal.steps with
  | e :: r =>
    if !s.cal.taking then s
    else
      let i := s.iRef calp
      let s := i.2
      let e : ExtStep := { x := e.x + x, y := e.y + iavg, i := e.i + i.1, n := e.n + 1 }
      let s := { s with cal := { s.cal with steps := e :: r, taking := decide (e.n < 16) } }
      if e.n < 16 then s else (s.wr Reg.CAL_EXT_CTRL_STEP 0).wr Reg.CAL_EXT_STATUS_STEPS (r.length + 1)
  | [] => s

/-- The commanded energy of a frame in 2^-16 full pixels (R279). -/
def State.frameEnergy (s : State) (zs : List ZoneRec) : Nat :=
  ((List.range 192).map (fun g =>
    let r := zs.getD g {}
    if s.isMapped (g / 16) && r.zEff != 0 then r.sum * r.z / r.zEff / 256 else 0)).sum

/-- The tiles' caps and HOUSE bits as last reported allow a sample (R279). -/
def State.capsFull (s : State) : Bool :=
  (List.finRange 12).all (fun p => !s.isMapped p || (!s.on (Reg.TL_STATUS_HOUSE p) && !(s.port p).capLow))

/-- LSC in CONTROL with no protection bit set (R279). -/
def State.lscSteady (s : State) : Bool :=
  s.rd Reg.LSC_STATUS_STATE == 2 && !s.on Reg.LSC_STATUS_OV && !s.on Reg.LSC_STATUS_OC && !s.on Reg.LSC_STATUS_UV && !s.on Reg.LSC_STATUS_EXT

/-- CAL's sample of the period that ends at a boundary (R279, R280, R284), once the LSC has recorded the period. `shown` is the frame
that was on show, `ramped` says that RAMP was set in the period, `calp` holds the raw CALP/CALN conversions. -/
def State.calBoundary (s : State) (shown : Option Frame) (ramped latched : Bool) (calp : List (Fin 4096)) : State :=
  let c := s.cal
  let ok := c.latched && !c.broken && !c.released && !c.capped && !ramped && s.lscSteady && s.capsFull
  let next (s : State) : State :=
    { s with cal := { s.cal with latched := latched, capped := !s.capsFull, released := !s.lscSteady, broken := false, calp := [] } }
  if !s.on Reg.CAL_CTRL_EN then next s
  else match ok, shown with
    | true, some f =>
      let x := s.frameEnergy f.zone
      let iavg := s.rd Reg.LSC_FRAME_IAVG
      let s := if s.understudy then s else s.extSample x iavg calp
      if !s.on Reg.CAL_STATUS_RUN || s.understudy then next s
      else
        let y := (iavg * s.rd Reg.CAL_I0_SCORR + 0x2000) / 16384
        let xs := (x, y) :: s.cal.samples
        let s := { s with cal := { s.cal with samples := xs } }.wr Reg.CAL_STATUS_BLOCK (xs.length / 2)
        next (if xs.length = 256 then s.calBlock else s)
    | _, _ => next (s.inc Reg.CAL_STATUS_REJECT)

/-- The first boundary after frame timing is enabled ends no period: there is no sample, and CAL watches the one that begins (R279). -/
def State.calStart (s : State) : State :=
  { s with cal := { s.cal with latched := false, capped := !s.capsFull, released := !s.lscSteady, broken := false, calp := [] } }

/-- What a HEALTH tells CAL of the tile's cap and HOUSE bit (R279). -/
def State.calHealth (s : State) (p : Fin 12) (data : List Byte) : State :=
  let low := byteAt data 12 != 0xFF || leAt data 14 2 != 0x3FFF
  let s := s.setPort p { s.port p with capLow := low }
  if s.isMapped p && (low || (byteAt data 8).testBit 0) then { s with cal := { s.cal with capped := true } } else s

/-! The store. -/

/-- The base of copy A or B of a record (R285). -/
def nvBase (id : Nat) (b : Bool) : Nat := id * 0x1000 + (if b then 0x800 else 0)
/-- Bytes of the store. -/
def State.nvBytes (s : State) (a n : Nat) : List Byte := (List.range n).map (fun i => s.cal.nv.get 0 (a + i))
/-- Bytes of the store written. -/
def nvStore (m : Memory) (a : Nat) : List Byte → Memory
  | [] => m
  | b :: bs => nvStore (m.set 0 a b) (a + 1) bs

/-- The payload of record 0x00 of the factory area (R285): the part's identity (spec/20 R461). -/
def State.identityRecord (s : State) : List Byte :=
  let c := deviceCert s.part.serial
  leBytes 8 s.part.serial ++ leBytes 2 c.length ++ leBytes 2 intermediateCert.length ++ leBytes 4 0 ++ c ++ intermediateCert

/-- A copy of a record that is valid: its sequence number and payload (R286). Record 0x00 is never written or wiped (R285). -/
def State.nvCopy (s : State) (id : Nat) (b : Bool) : Option (Nat × List Byte) :=
  if id = 0 then (if b then none else some (Config.identitySeq % 2 ^ 32, s.identityRecord)) else
  let h := s.nvBytes (nvBase id b) 16
  let len := leAt h 8 2
  if 0x1F < id ∨ leAt h 0 2 ≠ 0x4352 ∨ byteAt h 2 ≠ id ∨ 2028 < len then none
  else
    let body := s.nvBytes (nvBase id b) (16 + len)
    if crc32c body = le (s.nvBytes (nvBase id b + 16 + len) 4) then some (leAt h 4 4, body.drop 16) else none

/-- Copy B is the newer of the valid copies (R286), none with none valid. -/
def State.nvNewer (s : State) (id : Nat) : Option Bool :=
  match s.nvCopy id false, s.nvCopy id true with
  | none, none => none
  | some _, none => some false
  | none, some _ => some true
  | some a, some b => some (decide (signed 32 ((a.1 + 2 ^ 32 - b.1) % 2 ^ 32) < 0))

/-- A copy of a record (R285). -/
def nvImage (id seq : Nat) (data : List Byte) : List Byte :=
  let b := [0x52, 0x43] ++ leBytes 1 id ++ [0] ++ leBytes 4 seq ++ leBytes 2 data.length ++ List.replicate 6 0 ++ data
  b ++ leBytes 4 (crc32c b)

/-- The copy that a write goes to, and the sequence number it takes (R286). -/
def State.nvTarget (s : State) (id : Nat) : Bool × Nat :=
  match s.nvNewer id with
  | none => (false, 1)
  | some b => (!b, ((s.nvCopy id b).map (·.1)).getD 0 + 1)

/-- A store request is refused or fails with a code (R288). -/
def State.nvErr (s : State) (code : Nat) : State :=
  ((s.wr Reg.CAL_NV_STATUS_ERR 1).wr Reg.CAL_NV_STATUS_CODE code).fire 90

/-- A write begins (R286). -/
def State.nvBegin (s : State) (o : NvOp) : State :=
  { (s.wr Reg.CAL_NV_STATUS_NV_BUSY 1) with cal := { s.cal with op := some o } }

/-- The request in progress is over. -/
def State.nvIdle (s : State) : State :=
  { ((s.wr Reg.CAL_NV_STATUS_NV_BUSY 0).wr Reg.CAL_NV_CTRL_WRITE 0) with cal := { s.cal with op := none } }

/-- The copy being written is left invalid (R286, R288). -/
def State.nvSpoil (s : State) (o : NvOp) : State :=
  let t := s.nvTarget o.id
  { s with cal := { s.cal with nv := nvStore s.cal.nv (nvBase o.id t.1) [0, 0] } }

/-- The store after a loss of power or a reset: the copy that was being written is invalid (R286). -/
def State.nvCut (s : State) : Memory := match s.cal.op with
  | none => s.cal.nv
  | some o => (s.nvSpoil o).cal.nv

/-- The write in progress is abandoned (code 0x05, R288, spec/11 R272). -/
def State.nvAbandon (s : State) : State :=
  match s.cal.op with
  | none => s
  | some o => ((s.nvSpoil o).nvIdle).nvErr 5

/-- Record 0x01 (R287). -/
def State.calRecord (s : State) : List Byte :=
  leBytes 4 (s.rd Reg.CAL_KI_KI) ++ leBytes 2 (s.rd Reg.CAL_I0_I0) ++ leBytes 2 (s.rd Reg.CAL_I0_SCORR) ++ leBytes 4 (s.rd Reg.CAL_COUNT_COUNT) ++
  leBytes 4 (s.rd Reg.CAL_LAST_TIME_NS_VALUE) ++ leBytes 4 (s.rd Reg.CAL_LAST_TIME_SEC_VALUE) ++ leBytes 2 (s.rd Reg.CAL_LAST_TEMP_TEMP) ++ [0, 0]

end Sys2Proof.Machine
end

