-- ==== Sys2Proof/Machine/Cal.lean ====
section
/-! DEFINITION. The commands of calibration and the calibration store (spec/12_calibration.md R276 to R290). -/

namespace Sys2Proof.Machine

/-- CAL_ENABLE: a set starts a correction measurement at once (R278). -/
def execCalEnable (m : Master) (v : Word) (s : State) : Res :=
  .next (s.busWrite m 0x20100000 v fun s =>
    if v.toNat.testBit 0 then
      if s.on Reg.CAL_CTRL_EN then s else { s.wr Reg.CAL_CTRL_EN 1 with cal := { s.cal with corr := true } }
    else { s.wr Reg.CAL_CTRL_EN 0 with cal := { s.cal with corr := false } })

/-- ADC_CORR_MEASURE (R278). -/
def execAdcCorrMeasure (s : State) : Res :=
  .next (if s.on Reg.CAL_CTRL_EN then { s with cal := { s.cal with corr := true } } else s)

/-- Full scale of a range in µV (R276). -/
def adcFs (r : Nat) : Nat := if r = 1 then 1000000 else 1200000

/-- The pair that a measurement gives from the sums of 64 conversions, none outside its limits (R278). -/
def adcPair (refv fs z c : Nat) : Option (Nat × Nat) :=
  let z16 := (z * 16 + 32) / 64
  let c16 := (c * 16 + 32) / 64
  let d := c16 - z16
  let gain := ((refv * 65536 + fs / 2) / fs * 16384 + d / 2) / d
  if z16 < c16 ∧ 14746 ≤ gain ∧ gain ≤ 18022 ∧ z16 ≤ 512 then some (z16, gain) else none

/-- One range's measurement ends (R278, R289). -/
def State.adcRange (s : State) (r : Fin 3) (z c : Nat) : State :=
  match adcPair (s.rd Reg.CAL_REF_REFV) (adcFs r) z c with
  | some (o, g) =>
    { (s.wr (Reg.CAL_ADC_CORR_OFS r) o).wr (Reg.CAL_ADC_CORR_GAIN r) g with cal := { s.cal with adcOk := s.cal.adcOk.set r true } }
  | none =>
    let bad := if s.on Reg.CAL_STATUS_ADC_ERR then s.cal.adcBad else .replicate 3 false
    let t := (s.wr Reg.CAL_STATUS_ADC_ERR 1).fire 89
    let t := if bad[r] then t else t.raise FLT_CAL_ADC (0x20100020 + r.val * 4)
    { t with cal := { t.cal with adcBad := bad.set r true } }

/-- The three ranges, from the readings of their zero and of their reference. -/
def State.adcRanges (s : State) (z c : List (BitVec 18)) : State :=
  s.forFin fun (r : Fin 3) s => s.adcRange r (z.getD r 0).toNat (c.getD r 0).toNat

/-- Every range has passed its last measurement (R277). -/
def State.adcAllOk (s : State) : Bool := (List.finRange 3).all (fun (r : Fin 3) => s.cal.adcOk[r])

/-- ADC_CORR_DONE: the measurement of each range ends; ADC_VALID once every range has passed (R277, R278). `calp` holds the CALP/CALN conversions
that the period has brought before it, made under the old pair. -/
def execAdcCorrDone (z c : List (BitVec 18)) (calp : List (Fin 4096)) (s : State) : Res :=
  .next (
    if !s.cal.corr then s
    else
      let s := { s with cal := { s.cal with corr := false, calp := s.calpTaken calp } }
      let s := s.adcRanges z c
      if s.adcAllOk && !s.on Reg.CAL_STATUS_ADC_VALID then
        (s.wr Reg.CAL_STATUS_ADC_VALID 1).fire 89
      else s)

/-- A run starts (R280), unless one is in progress, CAL is off, or the unit is the understudy. -/
def State.calRun (s : State) : State :=
  if s.on Reg.CAL_STATUS_RUN || !s.on Reg.CAL_CTRL_EN || s.understudy then s
  else { (s.wr Reg.CAL_STATUS_RUN 1).wr Reg.CAL_STATUS_BLOCK 0 with cal := { s.cal with samples := [] } }

/-- CAL_START (R280): during a run it is ignored and sets WERR. -/
def execCalStart (m : Master) (v : Word) (s : State) : Res :=
  .next (s.busWrite m 0x20100000 v fun s =>
    if !v.toNat.testBit 1 then s
    else if s.on Reg.CAL_STATUS_RUN then s.werr 0x20100000
    else
      let s := s.calRun
      s.wr Reg.CAL_CTRL_START (s.rd Reg.CAL_STATUS_RUN))

/-- CAL_INTERVAL_TIMER (R280). -/
def execCalIntervalTimer (s : State) : Res := .next (if s.on Reg.CAL_TRIG_INTERVAL then s.calRun else s)

/-- CAL_TEMP_CHECK (R283). -/
def execCalTempCheck (s : State) : Res :=
  .next (
    match s.tm with
    | none => s
    | some t =>
      if s.on Reg.CAL_CTRL_TEMP_TRIG && s.on Reg.CAL_STATUS_KI_VALID &&
          decide (max 1 (s.rd Reg.CAL_TRIG_DT) * 256 < (t - signed 16 (s.rd Reg.CAL_LAST_TEMP_TEMP)).natAbs) then s.calRun
      else s)

/-- CAL_RUN_TIMEOUT (R280). -/
def execCalRunTimeout (s : State) : Res :=
  .next (
    if s.on Reg.CAL_STATUS_RUN then ((s.calEnd.wr Reg.CAL_STATUS_INSUFF 1).fire 88).raise FLT_CAL_INSUFF 0x20100004 else s)

/-- AUTO_SAVE_WRITE: record 0x01 is written once the store is free (R282), and refused after T_SHUT (R288). -/
def execAutoSaveWrite (s : State) : Res :=
  .next (
    if !s.cal.autoDue || s.on Reg.CAL_NV_STATUS_NV_BUSY then s
    else
      let s := { s with cal := { s.cal with autoDue := false } }
      if s.thm.shut then s.nvErr 3 else s.nvBegin { write := true, id := 1, data := s.calRecord, auto := true })

/-- CAL_EXT_START (R284): ignored with WERR during a run. -/
def execCalExtStart (m : Master) (v : Word) (s : State) : Res :=
  .next (s.busWrite m 0x20100050 v fun s =>
    if !v.toNat.testBit 0 then s
    else if s.on Reg.CAL_STATUS_RUN then s.werr 0x20100050
    else if s.on Reg.CAL_EXT_STATUS_BUSY || s.understudy then s
    else { (s.wr Reg.CAL_EXT_STATUS_BUSY 1).wr Reg.CAL_EXT_STATUS_STEPS 0 with cal := { s.cal with steps := [], taking := false } })

/-- CAL_EXT_STEP: the next 16 accepted samples form a step (R284), up to the eight that FINISH takes. -/
def execCalExtStep (m : Master) (v : Word) (s : State) : Res :=
  .next (s.busWrite m 0x20100050 v fun s =>
    if v.toNat.testBit 1 && s.on Reg.CAL_EXT_STATUS_BUSY && !s.cal.taking && decide (s.cal.steps.length < 8) then
      { s.wr Reg.CAL_EXT_CTRL_STEP 1 with cal := { s.cal with steps := {} :: s.cal.steps, taking := true } }
    else s)

/-- The procedure ends (R284, R289). -/
def State.extEnd (s : State) : State :=
  { (s.wr Reg.CAL_EXT_STATUS_BUSY 0).wr Reg.CAL_EXT_CTRL_STEP 0 with cal := { s.cal with steps := [], taking := false } }

/-- The procedure fails with a code. -/
def State.extFail (s : State) (code : Nat) : State :=
  ((s.extEnd.wr Reg.CAL_EXT_STATUS_EXT_ERR 1).wr Reg.CAL_EXT_STATUS_CODE code).fire 88

/-- The slope of the reference against the measured current through the origin, U2.14 (R284); 0 with no current. -/
def extScorr (ss : List ExtStep) : Nat :=
  let yy := (ss.map (fun e => e.y / 16 * (e.y / 16))).sum
  if yy = 0 then 0 else ((ss.map (fun e => e.i / 16 * (e.y / 16))).sum * 16384 + yy / 2) / yy

/-- CAL_EXT_FINISH (R284): its checks in the order of their codes, then SCORR, ki and i0. A fit that fails is also R281's failure. An
understudy runs no external procedure (spec/18 R426). -/
def execCalExtFinish (m : Master) (v : Word) (s : State) : Res :=
  .next (s.busWrite m 0x20100050 v fun s =>
    if !(v.toNat.testBit 2 && s.on Reg.CAL_EXT_STATUS_BUSY) || s.understudy then s
    else
      let ss := if s.cal.taking then s.cal.steps.drop 1 else s.cal.steps
      let xs := ss.map (fun e => e.x / 16)
      let hi := xs.foldl max 0
      let lo := xs.foldl min hi
      let sc := extScorr ss
      if ss.length < 4 then s.extFail 1
      else if hi - lo < 8 * s.rd Reg.CAL_CFG_XSD_MIN * 65536 then s.extFail 2
      else if sc * 10 < 131072 ∨ 20480 < sc then s.extFail 3
      else
        let r := s.calEval (ss.map (fun e => (e.x / 16, e.i / 16))) false
        match r.1 with
        | .passed ki i0 => ((r.2.extEnd.wr Reg.CAL_EXT_STATUS_EXT_DONE 1).wr Reg.CAL_I0_SCORR sc).calSuccess ki i0
        | _ => ((r.2.extFail 4).wr Reg.CAL_STATUS_RESID_ERR 1).raise FLT_CAL_RESID 0x20100004)

/-- CAL_EXT_ABORT (R284). -/
def execCalExtAbort (m : Master) (v : Word) (s : State) : Res :=
  .next (s.busWrite m 0x20100050 v fun s =>
    if v.toNat.testBit 3 && s.on Reg.CAL_EXT_STATUS_BUSY then s.extFail 5 else s)

/-- NV_READ (R287, R288): the newer valid copy goes into the staging window; ignored with WERR while the store is busy. -/
def execNvRead (m : Master) (v : Word) (s : State) : Res :=
  .next (s.busWrite m 0x20100080 v fun s =>
    if !v.toNat.testBit 24 then s
    else if s.on Reg.CAL_NV_STATUS_NV_BUSY then s.werr 0x20100080
    else
      let id := s.rd Reg.CAL_NV_CTRL_ID
      match s.nvNewer id with
      | none => s.nvErr 1
      | some b => match s.nvCopy id b with
        | none => s.nvErr 1
        | some (seq, data) =>
          let s := { s with cal := { s.cal with window := nvStore s.cal.window 0 data } }
          (((s.wr Reg.CAL_NV_STATUS_LEN data.length).wr Reg.CAL_NV_SEQ_SEQ seq).wr Reg.CAL_NV_STATUS_DONE 1).fire 90)

/-- NV_WRITE (R286, R288): refused once T_SHUT has been reached (spec/11 R272), ignored with WERR while the store is busy, refused by code,
else begun. -/
def execNvWrite (m : Master) (v : Word) (s : State) : Res :=
  .next (s.busWrite m 0x20100080 v fun s =>
    let id := s.rd Reg.CAL_NV_CTRL_ID
    let len := s.rd Reg.CAL_NV_CTRL_LEN
    if !v.toNat.testBit 25 then s
    else if s.thm.shut then s.nvErr 3
    else if s.on Reg.CAL_NV_STATUS_NV_BUSY then s.werr 0x20100080
    else if 2028 < len ∨ id = 0 ∨ 0x1F < id then s.nvErr 2
    else (s.wr Reg.CAL_NV_CTRL_WRITE 1).nvBegin
      { write := true, id := id, data := (List.range len).map (fun i => s.cal.window.get 0 i), auto := false })

/-- A deferred thermal shutdown goes on once the record write is over (spec/11 R272). -/
def State.undefer (s : State) : State :=
  if s.thm.defer then { s with thm := { s.thm with defer := false, cause := some 6 } } else s

/-- NV_WRITE_DONE: the read-back passes, or the copy is left invalid with code 0x04 (R286, R288). -/
def execNvWriteDone (ok : Bool) (s : State) : Res :=
  .next (
    match s.cal.op with
    | none => s
    | some o =>
      if ok then
        let t := s.nvTarget o.id
        let s := { s with cal := { s.cal with nv := nvStore s.cal.nv (nvBase o.id t.1) (nvImage o.id t.2 o.data) } }
        (((s.nvIdle.wr Reg.CAL_NV_STATUS_DONE 1).wr Reg.CAL_NV_SEQ_SEQ t.2).fire 90).undefer
      else (((s.nvSpoil o).nvIdle.nvErr 4).raise FLT_CAL_NV 0x20100084).undefer)

end Sys2Proof.Machine
end

