-- ==== Sys2Proof/Machine/Crypto.lean ====
section
/-! DEFINITION. The CRYPTO block (spec/20_identity_lifecycle.md R460, R462, R476). -/

namespace Sys2Proof.Machine

/-- A GO with operation `op` (R476): ignored with WERR while BUSY. -/
def State.cryptoGo (s : State) (m : Master) (v : Word) (op : Nat) : State :=
  s.busWrite m 0x20160000 v fun s =>
    if !v.toNat.testBit 31 || bits v.toNat 0 3 != op then s
    else if s.on Reg.CRYPTO_STATUS_BUSY then s.werr 0x20160000
    else
      let o : CryptoOp := { op := op, key := bits v.toNat 3 2, len := s.rd Reg.CRYPTO_LEN_VALUE
                            addr := s.rd Reg.CRYPTO_ADDR_HI_VALUE * 2 ^ 32 + s.rd Reg.CRYPTO_ADDR_LO_VALUE }
      ({ s with ident := { s.ident with op := some o } }.wr Reg.CRYPTO_STATUS_BUSY 1).wr Reg.CRYPTO_CTRL_GO 1

/-- CRYPTO_SHA256 (R476). -/
def execCryptoSha256 (m : Master) (v : Word) (s : State) : Res := .next (s.cryptoGo m v 1)
/-- CRYPTO_SIGN (R476). -/
def execCryptoSign (m : Master) (v : Word) (s : State) : Res := .next (s.cryptoGo m v 2)
/-- CRYPTO_VERIFY (R476). -/
def execCryptoVerify (m : Master) (v : Word) (s : State) : Res := .next (s.cryptoGo m v 3)
/-- CRYPTO_RNG_FILL (R476). -/
def execCryptoRngFill (m : Master) (v : Word) (s : State) : Res := .next (s.cryptoGo m v 4)

/-- Eight big-endian words from the register `f`, and into it (R476). -/
def State.rdWords (s : State) (f : Nat → Fld) : List Byte := (List.range 8).flatMap (fun k => beBytes 4 (s.rd (f k)))
def State.wrWords (s : State) (f : Nat → Fld) (bs : List Byte) : State :=
  (List.range 8).foldl (fun s k => s.wr (f k) (beAt bs (4 * k) 4)) s

/-- What an operation leaves, and whether it succeeds (R462, R476): operation 4 fills CRYPTO_RNG. -/
def State.cryptoRun (s : State) (o : CryptoOp) : State × Bool :=
  match o.op with
  | 1 =>
    if 0 < o.len ∧ !s.canRead o.addr o.len then (s.readErr .other ((s.badAt o.addr o.len).getD o.addr), false)
    else (s.wrWords Reg.CRYPTO_DIGEST_WORD (sha256 (s.bytes o.addr o.len)), true)
  | 2 =>
    if s.ident.trngFail || !s.ident.keys.device then (s, false)
    else
      let f := s.fresh
      let g := ecdsaSign Config.deviceKey (f.1 % (pN - 1) + 1) (s.rdWords Reg.CRYPTO_DIGEST_WORD)
      ((f.2.wrWords Reg.CRYPTO_SIG_R_WORD (beBytes 32 g.1)).wrWords Reg.CRYPTO_SIG_S_WORD (beBytes 32 g.2), true)
  | 3 =>
    let key := match o.key with
      | 0 => s.ident.keys.owner
      | 1 => if s.ident.keys.device then some (ecdsaPublic Config.deviceKey) else none
      | _ => none
    (s, match key with
      | none => false
      | some k => ecdsaVerify k (s.rdWords Reg.CRYPTO_DIGEST_WORD) (be (s.rdWords Reg.CRYPTO_SIG_R_WORD)) (be (s.rdWords Reg.CRYPTO_SIG_S_WORD)))
  | _ =>
    (s.nextRandom, !s.ident.trngFail)

/-- CRYPTO_OP_DONE: the operation in progress completes with DONE or ERR (R476). -/
def execCryptoOpDone (s : State) : Res :=
  .next (
    match s.ident.op with
    | none => s
    | some o =>
      let r := s.cryptoRun o
      let s : State := { r.1 with ident := { r.1.ident with op := none } }
      ((s.wr Reg.CRYPTO_STATUS_BUSY 0).wr Reg.CRYPTO_CTRL_GO 0).wr (if r.2 then Reg.CRYPTO_STATUS_DONE else Reg.CRYPTO_STATUS_ERR) 1)

/-- SMKEY_STORE: the staged key goes to its slot, and the staging words clear (R462, R476). -/
def execSmkeyStore (m : Master) (v : Word) (s : State) : Res :=
  .next (s.busWrite m 0x20160120 v fun s =>
    if !v.toNat.testBit 31 then s
    else
      let k : Fin 2 := Fin.ofNat 2 (bits v.toNat 0 1)
      let key := (List.range 8).flatMap (fun i => leBytes 4 (s.rd (Reg.CRYPTO_SMKEY_DATA i)))
      let s : State := { s with ident := { s.ident with keys := { s.ident.keys with smKey := s.ident.keys.smKey.set k key } } }
      s.forFin fun (i : Fin 8) s => s.wr (Reg.CRYPTO_SMKEY_DATA i) 0)

/-- TRNG_HEALTH_FAIL: every operation that needs entropy stops, CRYPTO_RNG reads 0 (R476), and FLT_CRYPTO_RNG is raised (R462). -/
def execTrngHealthFail (s : State) : Res :=
  .next (({ s with ident := { s.ident with trngFail := true } } : State).nextRandom.raise FLT_CRYPTO_RNG 0x201600C0)

end Sys2Proof.Machine
end

