-- ==== Sys2Proof/Machine/Cvu.lean ====
section
/-! DEFINITION. The commands of the check-value units (spec/17_memory_window.md R409 to R412, R417). -/

namespace Sys2Proof.Machine

/-- One byte of a CRC of width `w` that is fed most significant bit first. -/
def crcMsbByte (w poly c : Nat) (b : Byte) : Nat :=
  (List.range 8).foldl (fun c _ => if c.testBit (w - 1) then (2 * c % 2 ^ w) ^^^ poly else 2 * c % 2 ^ w) (c ^^^ (b.toNat <<< (w - 8)))

/-- The check value that ALG selects (R410). -/
def cvuCrc (alg : Nat) (bs : List Byte) : Nat :=
  match alg with
  | 0 => crc32c bs
  | 1 => crc32 bs
  | 2 => bs.foldl (crcMsbByte 16 0x1021) 0xFFFF
  | _ => bs.foldl (crcMsbByte 8 0x2F) 0xFF ^^^ 0xFF

/-- A unit of the vector replaced. -/
def State.setCvu (s : State) (u : Fin 4) (x : CvuUnit) : State := { s with cvu := { s.cvu with unit := s.cvu.unit.set u x } }

/-- The register address of unit `u`. -/
def cvuAddr (u : Fin 4) : Nat := 0x20050000 + u.val * 0x40

/-- CVU_START (R409): during a scan it is ignored and sets WERR; ADDR, LEN and EXPECT are sampled. -/
def execCvuStart (m : Master) (u : Fin 4) (v : Word) (s : State) : Res :=
  .next (s.busWrite m (cvuAddr u) v fun s =>
    if !v.toNat.testBit 0 then s
    else if s.on (Reg.CVU_STATUS_BUSY u) then s.werr (cvuAddr u)
    else
      let x : CvuUnit := { addr := s.rd (Reg.CVU_CTRL_ADDR_HI u) <<< 32 ||| s.rd (Reg.CVU_ADDR_VALUE u), len := s.rd (Reg.CVU_LEN_VALUE u),
                           expect := s.rd (Reg.CVU_EXPECT_VALUE u), late := false }
      ((s.setCvu u x).wr (Reg.CVU_CTRL_START u) 1).wr (Reg.CVU_STATUS_BUSY u) 1)

/-- CVU_STOP: periodic scanning ends after the current scan (R417). -/
def execCvuStop (m : Master) (u : Fin 4) (v : Word) (s : State) : Res :=
  .next (s.busWrite m (cvuAddr u) v fun s =>
    if !v.toNat.testBit 1 then s
    else if s.on (Reg.CVU_STATUS_BUSY u) then s.wr (Reg.CVU_CTRL_STOP u) 1
    else s.wr (Reg.CVU_CTRL_START u) 0)

/-- A read of unit `u` has failed (R409). -/
def State.cvuFault (s : State) (u : Fin 4) (src addr : Nat) : State :=
  s.raiseOcc { src := src, unit := none, addr := addr, master := .cvu u, access := .read }

/-- A flag of the unit is set, and CVU_ERR fires (R413). -/
def State.cvuErr (s : State) (f : Fld) : State := (s.wr f 1).fire 103

/-- The checks of a scan that has read its whole region (R409 to R411). -/
def State.cvuCheck (s : State) (u : Fin 4) (x : CvuUnit) (bs : List Byte) : State :=
  let mode := s.rd (Reg.CVU_CTRL_ALIVE_MODE u)
  let w := if s.on (Reg.CVU_ALIVE_W16 u) then 2 else 1
  let next := (s.rd (Reg.CVU_ALIVE_REF u) + 1) % 2 ^ (8 * w)
  let r := cvuCrc (s.rd (Reg.CVU_CTRL_ALG u)) (if mode = 2 then bs ++ leBytes w next else bs)
  let s := s.wr (Reg.CVU_RESULT_VALUE u) r
  let crcOk := r == x.expect || (mode != 2 && !s.on (Reg.CVU_CTRL_CMP_EN u))
  let t := if crcOk then s else s.cvuErr (Reg.CVU_STATUS_MISMATCH u)
  let t := if crcOk || !s.on (Reg.CVU_CTRL_CMP_EN u) then t else t.raise FLT_CVU_MISMATCH (cvuAddr u + 4)
  if mode = 2 then
    let t := if crcOk then t.wr (Reg.CVU_ALIVE_REF u) next else t
    if crcOk then (t.wr (Reg.CVU_STATUS_PASS u) 1).fire 102 else t.wr (Reg.CVU_STATUS_PASS u) 0
  else if mode = 1 then
    let o := s.rd (Reg.CVU_ALIVE_OFS_OFS u)
    if x.len < o + w then (t.cvuErr (Reg.CVU_STATUS_ERR u)).wr (Reg.CVU_STATUS_PASS u) 0
    else if !crcOk then t.wr (Reg.CVU_STATUS_PASS u) 0
    else
      let c := leAt bs o w
      let t := t.wr (Reg.CVU_ALIVE_REF u) c
      if c = next then (t.wr (Reg.CVU_STATUS_PASS u) 1).fire 102
      else ((t.cvuErr (Reg.CVU_STATUS_ALIVE_ERR u)).raise FLT_CVU_ALIVE (cvuAddr u + 4)).wr (Reg.CVU_STATUS_PASS u) 0
  else if crcOk then (t.wr (Reg.CVU_STATUS_PASS u) 1).fire 102 else t.wr (Reg.CVU_STATUS_PASS u) 0

/-- After a scan (R412, R417): a single scan or a stopped unit ends; a scan that overran its period is followed at once. -/
def State.cvuNext (s : State) (u : Fin 4) : State :=
  let x := s.cvu.unit[u]
  if s.rd (Reg.CVU_CTRL_PERIOD u) = 0 ∨ s.on (Reg.CVU_CTRL_STOP u) then
    (((s.setCvu u { x with late := false }).wr (Reg.CVU_CTRL_START u) 0).wr (Reg.CVU_CTRL_STOP u) 0).wr (Reg.CVU_STATUS_BUSY u) 0
  else if x.late then s.setCvu u { x with late := false }
  else s.wr (Reg.CVU_STATUS_BUSY u) 0

/-- The byte that a scan reads at any system address that a read may reach (R409), one of a register or of the calibration staging window
(spec/12 R287) among them. -/
def State.cvuByte (s : State) (a : Nat) : Option Byte :=
  if 0x20000000 ≤ a ∧ a < 0x20190000 then
    if s.domOpen (blockDomain a) && inCalWindow a 1 then some (s.cal.window.get 0 (a - 0x20101000))
    else if s.domOpen (blockDomain a) && (regAt (a / 4 * 4)).isSome then some (BitVec.ofNat 8 (s.readWord (a / 4 * 4) / 256 ^ (a % 4))) else none
  else if s.readable a then some (s.byte a) else none

/-- CVU_SCAN_END (R409 to R412); `error` is the offset of an uncorrectable read in the region. -/
def execCvuScanEnd (u : Fin 4) (error : Option Nat) (s : State) : Res :=
  .next (
    if !s.on (Reg.CVU_STATUS_BUSY u) then s
    else
      let x := s.cvu.unit[u]
      let bad := (List.range x.len).find? (fun i => (s.cvuByte (x.addr + i)).isNone || error == some i)
      let t := match bad with
        | some i => (((if (s.cvuByte (x.addr + i)).isSome then s else s.accErr (.cvu u) (x.addr + i) .read).cvuErr (Reg.CVU_STATUS_ERR u)).cvuFault u FLT_CVU_MISMATCH (x.addr + i)).wr (Reg.CVU_STATUS_PASS u) 0
        | none => s.cvuCheck u x ((List.range x.len).map fun i => (s.cvuByte (x.addr + i)).getD 0)
      t.cvuNext u)

/-- CVU_PERIOD (R412). -/
def execCvuPeriod (u : Fin 4) (s : State) : Res :=
  .next (
    if !s.on (Reg.CVU_CTRL_START u) || s.rd (Reg.CVU_CTRL_PERIOD u) = 0 then s
    else if s.on (Reg.CVU_STATUS_BUSY u) then
      (s.setCvu u { s.cvu.unit[u] with late := true }).cvuErr (Reg.CVU_STATUS_OVERRUN u)
    else s.wr (Reg.CVU_STATUS_BUSY u) 1)

end Sys2Proof.Machine
end

