-- ==== Sys2Proof/Machine/PixA.lean ====
section
/-! DEFINITION. The arithmetic of pass A: source pixels, tables, warp, blend, and the drive chain up to zone selection
(spec/03_layers_blending.md R50 to R56; spec/04_warp.md R79 to R89; spec/05_drive_codes.md R99 to R112). -/

namespace Sys2Proof.Machine

/-- The largest U8.16 lux and U0.24 demand. -/
abbrev full24 : Nat := 0xFFFFFF

/-! Layer fields. -/

/-- A C field of a layer: its live copy, or its shadow (R5). -/
def State.cf (s : State) (live : Bool) (f : Fld) : Nat := if live then s.lv f else s.rd f

/-- Base of a layer's buffer (R77). -/
def State.layerBuf (s : State) (live : Bool) (k : Nat) : Nat :=
  s.cf live (Reg.LAYER_L_BUF_HI_ADDR_HI k) <<< 32 ||| s.cf live (Reg.LAYER_L_BUF_LO_ADDR k) <<< 6
/-- Base of a layer's table block (R77). -/
def State.layerTbl (s : State) (live : Bool) (k : Nat) : Nat :=
  s.cf live (Reg.LAYER_L_TBL_HI_ADDR_HI k) <<< 32 ||| s.cf live (Reg.LAYER_L_TBL_LO_ADDR k) <<< 6
/-- Base of a layer's mesh set (R98). -/
def State.layerMesh (s : State) (live : Bool) (k : Nat) : Nat :=
  s.cf live (Reg.LAYER_L_MESH_HI_ADDR_HI k) <<< 32 ||| s.cf live (Reg.LAYER_L_MESH_LO_ADDR k) <<< 6
/-- The layer's source is MASKIN. -/
def State.fromMask (s : State) (live : Bool) (k : Nat) : Bool := s.cf live (Reg.LAYER_L_CTRL_SRC k) == 1
/-- Source width and height (R52, R96). -/
def State.layerSize (s : State) (live : Bool) (k : Nat) : Nat × Nat :=
  if s.fromMask live k then (s.rd Reg.MASKIN_SIZE_WIDTH, s.rd Reg.MASKIN_SIZE_HEIGHT)
  else (s.cf live (Reg.LAYER_L_SIZE_WIDTH k), s.cf live (Reg.LAYER_L_SIZE_HEIGHT k))
/-- Bits per pixel (R51). -/
def State.layerBits (s : State) (live : Bool) (k : Nat) : Nat := 2 ^ s.cf live (Reg.LAYER_L_CTRL_FORMAT k)
/-- Stride in bytes (R52). -/
def State.layerStride (s : State) (live : Bool) (k : Nat) : Nat := s.cf live (Reg.LAYER_L_STRIDE_STRIDE k) <<< 6
/-- Row length in bytes (R52). -/
def State.rowLength (s : State) (live : Bool) (k : Nat) : Nat := ceilDiv ((s.layerSize live k).1 * s.layerBits live k) 8
/-- Bytes of the buffer extent (R52). -/
def State.bufBytes (s : State) (live : Bool) (k : Nat) : Nat :=
  s.layerStride live k * ((s.layerSize live k).2 - 1) + s.rowLength live k

/-! Source pixels and tables. -/

/-- The index of a source pixel in a row of `b`-bit pixels (R51). -/
def pixelIndex (b x : Nat) (byte : Nat) : Nat := (byte >>> (x * b % 8)) % 2 ^ b

/-- PAL: lux and alpha of a palette entry (R54). -/
def palEntry (tbl : List Byte) (i : Nat) : Nat × Nat := (leAt tbl (4 * i) 3, byteAt tbl (4 * i + 3))

/-- PRELUT (R55). -/
def preLut (tbl : List Byte) (v : Nat) : Nat :=
  let l (j : Nat) : Int := ((leAt tbl (0x400 + 4 * j) 4 % 2 ^ 25 : Nat) : Int)
  let i := v >>> 14
  sat0 full24 (l i + ((l (i + 1) - l i) * (v % 2 ^ 14 : Nat) + 0x2000) / 2 ^ 14)

/-- The stride of a mask buffer (R68). -/
def State.maskStride (s : State) : Nat := ceilDiv (s.rd Reg.MASKIN_SIZE_WIDTH) 64 * 64
/-- The base of mask buffer `i` (R68). -/
def State.maskBase (s : State) (i : Nat) : Nat :=
  (s.rd Reg.MASKIN_BUF_BASE_HI_ADDR_HI <<< 32 ||| s.rd Reg.MASKIN_BUF_BASE_LO_ADDR <<< 19) + i * 0x80000

/-- The index that FETCH reads for source pixel (c, r) of a layer (R51, R52); under the safe mask SAFE_IDX (R71). -/
def State.fetchIndex (s : State) (k c r : Nat) : Nat :=
  if s.fromMask true k then
    if s.on Reg.MASKIN_STATUS_SAFE_ACTIVE || !s.maskin.taken then s.maskin.safeIdx
    else (s.byte (s.maskBase (s.rd Reg.MASKIN_STATUS_IN_USE) + r * s.maskStride + c)).toNat
  else
    let b := s.layerBits true k
    pixelIndex b c (s.byte (s.layerBuf true k + r * s.layerStride true k + c * b / 8)).toNat

/-- Lux and alpha of a source pixel, after PAL and PRELUT (R50). -/
def State.sourcePixel (s : State) (k : Fin 8) (c r : Nat) : Nat × Nat :=
  let tbl := s.layer.table[k]
  let p := palEntry tbl (s.fetchIndex k c r)
  (if s.lv (Reg.LAYER_L_CTRL_PRELUT_EN k) = 1 then preLut tbl p.1 else p.1, p.2)

/-! Warp. -/

/-- Sample offsets in eighths of a pixel (spec/04, Mesh interpolation): filter 0 NEAREST, 1 BILINEAR, 2 AREA4, 3 AREA16. -/
def sampleOffsets (filter : Nat) : List (Int × Int) :=
  let grid (xs : List Int) : List (Int × Int) := xs.flatMap (fun dy => xs.map (fun dx => (dx, dy)))
  match filter with
  | 2 => grid [-2, 2]
  | 3 => grid [-3, -1, 1, 3]
  | _ => [(0, 0)]

/-- (u, v) of a sample (R83), with control points `p`, cells of `sx8` eighths and `gy` grid rows. A value outside S13.8 is kept exact (DEDUCED;
log entry 47). -/
def warpPoint (p : Nat → Nat → Int × Int) (sx8 gy : Nat) (x8 y8 : Int) : Int × Int :=
  let i := (clampI 0 31 (x8 / sx8)).toNat
  let j := (clampI 0 (gy - 2 : Nat) (y8 / 128)).toNat
  let ax := x8 - i * sx8
  let ay := y8 - j * 128
  let sh := if sx8 = 128 then 14 else 13
  let mix (f : Int × Int → Int) : Int :=
    let top := f (p i j) * (sx8 - ax) + f (p (i + 1) j) * ax
    let bot := f (p i (j + 1)) * (sx8 - ax) + f (p (i + 1) (j + 1)) * ax
    (top * (128 - ay) + bot * ay + 2 ^ (sh - 1)) / 2 ^ sh
  (mix Prod.fst, mix Prod.snd)

/-- One tap of a filter: column, row, weight in 1/65,536 (R84, R85). -/
structure Tap where
  c : Int
  r : Int
  w : Nat
deriving DecidableEq, Repr

/-- The taps of a sample at (u, v) (R84, R85). -/
def sampleTaps (filter : Nat) (u v : Int) : List Tap :=
  if filter = 0 then [⟨(u + 0x80) / 256, (v + 0x80) / 256, 65536⟩]
  else
    let c := u / 256
    let r := v / 256
    let fu := (u % 256).toNat
    let fv := (v % 256).toNat
    [⟨c, r, (256 - fu) * (256 - fv)⟩, ⟨c + 1, r, fu * (256 - fv)⟩, ⟨c, r + 1, (256 - fu) * fv⟩, ⟨c + 1, r + 1, fu * fv⟩]

/-- What the warp of one layer on one tile works with. -/
structure WarpSet where
  /-- filter of the active image -/
  filter : Nat
  /-- B, the rows of the line buffer -/
  rows : Nat
  /-- EDGE -/
  edge : Nat
  /-- DIR -/
  dir : Nat
  /-- source width and height -/
  w : Nat
  h : Nat
  /-- tile width and height -/
  tw : Nat
  th : Nat
  /-- control points -/
  point : Nat → Nat → Int × Int

/-- The samples of tile pixel (x, y): one list of taps each. -/
def WarpSet.samples (g : WarpSet) (x y : Nat) : List (List Tap) :=
  (sampleOffsets g.filter).map (fun o =>
    let q := warpPoint g.point (g.tw / 4) (g.th / 16 + 1) (8 * x + o.1) (8 * y + o.2)
    sampleTaps g.filter q.1 q.2)

/-- A tap's row after the clamping of R87. -/
def WarpSet.row (g : WarpSet) (t : Tap) : Int := clampI 0 (g.h - 1 : Nat) t.r
/-- A tap's column after the clamping of R87. -/
def WarpSet.col (g : WarpSet) (t : Tap) : Int := clampI 0 (g.w - 1 : Nat) t.c

/-- lo(y) and hi(y) (R88). -/
def WarpSet.range (g : WarpSet) (y : Nat) : Int × Int :=
  let rs := (List.range g.tw).flatMap (fun x => (g.samples x y).flatMap (fun ts => ts.map g.row))
  (rs.foldl min (g.h : Int), rs.foldl max (0 : Int))

/-- The window start w(y) that follows that of the line before, from lo(y) and hi(y) (R88). -/
def WarpSet.window (g : WarpSet) (before : Option Int) (q : Int × Int) : Int :=
  if g.dir = 0 then (match before with | none => q.1 | some w => max w q.1)
  else (match before with | none => q.2 | some w => min (w + g.rows - 1) q.2) - g.rows + 1

/-- Per line, from line 0: w(y), lo(y), hi(y) (R88). -/
def WarpSet.windows (g : WarpSet) : List (Int × Int × Int) :=
  ((List.range g.th).foldl (fun (a : List (Int × Int × Int)) y =>
    let q := g.range y
    (g.window (a.head?.map (·.1)) q, q) :: a) []).reverse

/-- A line fits (R88). -/
def WarpSet.fits (g : WarpSet) (l : Int × Int × Int) : Bool := decide (l.1 ≤ l.2.1 ∧ l.2.2 ≤ l.1 + g.rows - 1)
/-- The span of a line (R88). Of rows that do not meet the window those between count too (DEDUCED; log entry 47). -/
def WarpSet.span (g : WarpSet) (l : Int × Int × Int) : Int := max l.2.2 (l.1 + g.rows - 1) - min l.2.1 l.1 + 1

/-- Lux and alpha of a tap, with the edge rule (R87) and the window of its line (R89). -/
def WarpSet.tapValue (g : WarpSet) (src : Nat → Nat → Nat × Nat) (win : Int) (t : Tap) : Nat × Nat :=
  let c := g.col t
  let r := g.row t
  let p := src c.toNat (clampI win (win + g.rows - 1) r).toNat
  (p.1, if g.edge = 1 ∧ (c ≠ t.c ∨ r ≠ t.r) then 0 else p.2)

/-- The warped lux and alpha of a tile pixel (R84 to R86). -/
def WarpSet.pixel (g : WarpSet) (src : Nat → Nat → Nat × Nat) (win : Int) (x y : Nat) : Nat × Nat :=
  let ss := (g.samples x y).map (fun ts =>
    let vs := ts.map (fun t => (t.w, g.tapValue src win t))
    (((vs.map (fun v => v.1 * v.2.1)).sum + 0x8000) / 65536, ((vs.map (fun v => v.1 * v.2.2)).sum + 0x8000) / 65536))
  let n := ss.length
  (((ss.map Prod.fst).sum + n / 2) / n, ((ss.map Prod.snd).sum + n / 2) / n)

/-- Mesh stride of a tile geometry (R80). -/
def meshStride (i : ModeInfo) : Nat := ceilDiv (33 * (i.h / 16 + 1) * 8) 64 * 64

/-- The warp of a layer on logical tile `t`, with its live fields or its shadows. -/
def State.warpSet (s : State) (live : Bool) (i : Image) (k t : Nat) : WarpSet :=
  let base := s.layerMesh live k + t * meshStride i.info
  let z := s.layerSize live k
  { filter := i.filter k, rows := i.bufRows k, edge := s.cf live (Reg.LAYER_L_WARP_CTRL_EDGE k),
    dir := s.cf live (Reg.LAYER_L_WARP_CTRL_DIR k), w := z.1, h := z.2, tw := i.info.w, th := i.info.h,
    point := fun a b =>
      (signed 21 (s.num (base + 8 * (33 * b + a)) 4), signed 21 (s.num (base + 8 * (33 * b + a) + 4) 4)) }

/-! Blend. -/

/-- BLEND of warped lux `v` with alpha `a` over destination `d` (R56). -/
def blend (mode v a d : Nat) : Nat :=
  match mode with
  | 0 => (a * v + (255 - a) * d + 127) / 255
  | 1 => min (d + (a * v + 127) / 255) full24
  | 2 => min ((d * ((a * v + (255 - a) * 0x10000 + 127) / 255) + 0x8000) / 65536) full24
  | 3 => max d ((a * v + 127) / 255)
  | 4 => min d ((a * v + (255 - a) * full24 + 127) / 255)
  | _ => d

/-- The layer is composed (R50, R73, spec/14 R344). -/
def State.composed (s : State) (i : Image) (k : Fin 8) : Bool :=
  i.composes k && s.on Reg.LAYER_CTRL_EN && s.lv (Reg.LAYER_L_CTRL_ENABLE k) == 1 && s.layer.granted[k] &&
  (if s.fromMask true k then s.maskin.taken || s.on Reg.MASKIN_CTRL_SAFE_AT_START else s.on (Reg.LAYER_STATUS_LIVE k))

/-- The road illuminance at pixel (x, y) of logical tile `t`: the composed layers, each with the window of that line (R56). -/
def State.roadLux (s : State) (ls : List (Fin 8 × WarpSet × Int)) (x y : Nat) : Nat :=
  ls.foldl (fun d l =>
    let p := l.2.1.pixel (s.sourcePixel l.1) l.2.2 x y
    blend (s.lv (Reg.LAYER_L_CTRL_BLEND l.1)) p.1 p.2 d) 0

/-! The drive chain. -/

/-- Saturation of a demand, with a flag that it clamped. -/
def demand (v : Nat) : Nat × Bool := (min v full24, decide (full24 < v))

/-- The base of the drive table set (R101). -/
def State.drvTbl (s : State) (live : Bool) : Nat := s.cf live Reg.SA_DRV_TBL_HI_ADDR_HI <<< 32 ||| s.cf live Reg.SA_DRV_TBL_LO_ADDR <<< 6

/-- Bytes of a drive table set (R101): up to the end of the last gain table. -/
def State.drvTblBytes (s : State) : Nat :=
  let i := (s.mode).getD ⟨512, 512, 120, 11520, 16⟩
  0x20000 + 12 * i.w * i.h
/-- The live drive table set is read as it stands: in shared SRAM, or in a slot that SCANOUT owns (R102). -/
def State.drvSeen (s : State) : Bool := inSram (s.drvTbl true) s.drvTblBytes || s.scanoutOwns (s.drvTbl true) s.drvTblBytes
/-- Byte `o` of the live drive table set, as it stands where `seen` says so; in another owner's slot it is not read, and what takes its place is
a free value (R102; DESIGN CHOICE, log entry 48). -/
def State.drvByte (s : State) (seen : Bool) (o : Nat) : Byte :=
  if seen then s.byte (s.drvTbl true + o) else BitVec.ofNat 8 (Config.freeCell s.freeCtr o)
/-- The little-endian number in `n` bytes of the live drive table set. -/
def State.drvNum (s : State) (seen : Bool) (o n : Nat) : Nat := le ((List.range n).map (fun k => s.drvByte seen (o + k)))
/-- The drive table set has been read: the free values that it gave are used up. -/
def State.drvOver (s : State) : State := if s.drvSeen then s else { s with freeCtr := s.freeCtr + 1 }

/-- The THROW gain at a pixel (R103), grid points read by `g`. -/
def throwGain (g : Nat → Nat → Nat) (tw th x y : Nat) : Nat :=
  let sx := tw / 32
  let t := if sx = 16 then 8 else 7
  let i := min (x / sx) 31
  let ax := x - i * sx
  let j := min (y / 16) (th / 16 - 1)
  let ay := y - 16 * j
  let top := g i j * (sx - ax) + g (i + 1) j * ax
  let bot := g i (j + 1) * (sx - ax) + g (i + 1) (j + 1) * ax
  (top * (16 - ay) + bot * ay + 2 ^ (t - 1)) / 2 ^ t

/-- THROW (R103). -/
def throwDemand (e g shift : Nat) : Nat × Bool := demand ((e * g + 2 ^ (7 + shift)) / 2 ^ (8 + shift))
/-- GAIN (R104). -/
def gainDemand (d code : Nat) : Nat × Bool := demand ((d * (128 + code) + 128) / 256)

/-- The eight healNeighbours of a pixel inside its tile, with their weights (R105). -/
def healNeighbours (tw th x y : Nat) : List (Nat × Nat × Nat) :=
  ([-1, 0, 1] : List Int).flatMap (fun dy => ([-1, 0, 1] : List Int).filterMap (fun dx =>
    let a : Int := x + dx
    let b : Int := y + dy
    if (dx = 0 ∧ dy = 0) ∨ a < 0 ∨ b < 0 ∨ (tw : Int) ≤ a ∨ (th : Int) ≤ b then none
    else some (a.toNat, b.toNat, if dx = 0 ∨ dy = 0 then 2 else 1)))

/-- HEAL of a live pixel (R105): `d` is a pixel's demand, `dead` the health map. -/
def healDemand (tw th : Nat) (d : Nat → Nat → Nat) (dead : Nat → Nat → Bool) (x y : Nat) : Nat × Bool :=
  let share (qx qy : Nat) : Nat :=
    let w := (((healNeighbours tw th qx qy).filter (fun n => !dead n.1 n.2.1)).map (fun n => n.2.2)).sum
    if w = 0 then 0 else d qx qy / w
  let add := (((healNeighbours tw th x y).filter (fun n => dead n.1 n.2.1)).map (fun n => n.2.2 * share n.1 n.2.1)).sum
  demand (d x y + min add (d x y / 2))

/-- The THERM factor of a zone temperature in S8.8 and a class's coefficients (R106). -/
def thermFactor (tz tref a b : Int) : Nat :=
  let dt := tz - tref
  (clampI 0x2000 0x7FFF (16384 + (a * dt + 0x2000) / 2 ^ 14 + (b * dt * dt + 0x8000000) / 2 ^ 28)).toNat
/-- THERM (R106). -/
def thermDemand (d f : Nat) : Nat × Bool := demand ((d * f + 0x2000) / 2 ^ 14)

/-- Zone selection of one zone (R112): z_eff and z. -/
def selectZone (mx zfloor zlim : Nat) : Nat × Nat :=
  if mx = 0 then (0, 0)
  else let e := max zfloor ((255 * mx + 0xFFFFFE) / full24); (e, min e zlim)

/-- The factors of every zone and class, class in the low bits of the index (R106); on the understudy of a pair from the lead's
temperatures (spec/18 R426). -/
def State.thermFactors (s : State) : List Nat :=
  let seen := s.drvSeen
  (List.finRange 192).flatMap (fun (g : Fin 192) => (List.range 4).map (fun c =>
    let led := s.leadT g
    if s.lv Reg.SA_DRV_CTRL_THERM_EN = 0 ∨ (led.isNone && !s.thm.zone[g].published) then 16384
    else
      let o := 0x40 + 8 * c
      thermFactor (signed 16 (led.getD (s.rd (Reg.THM_ZTEMP_TJ g)))) (signed 16 (s.drvNum seen o 2)) (signed 16 (s.drvNum seen (o + 2) 2)) (signed 16 (s.drvNum seen (o + 4) 2))))

/-- The THERM factors are worked out (R106). -/
def State.loadFactors (s : State) : State := { s.drvOver with sa := { s.sa with factor := s.thermFactors } }

/-- A pixel as STAT sees it: demand, state (00 normal, 01 dead, 10 target), clamped in some step (R107, R125). -/
structure Stat where
  d : Nat := 0
  state : Nat := 0
  sat : Bool := false
deriving DecidableEq, Repr

/-- Pass A on one logical tile: every pixel in raster order (R99, R107). In an off-scan frame a target gives its light to its neighbours
(spec/09 R215). -/
def State.passATile (s : State) (i : Image) (f : Frame) (t : Nat) : List Stat :=
  let tw := i.info.w
  let th := i.info.h
  let ks := (List.finRange 8).filter (fun k => s.composed i k)
  let sets := ks.map (fun (k : Fin 8) => let g := s.warpSet true i k t; (k, g, g.windows))
  let seen := s.drvSeen
  let grid (a b : Nat) : Nat := s.drvNum seen (0x10200 + 0x900 * t + 2 * (33 * b + a)) 2
  let shift := (s.drvByte seen t).toNat % 16
  let first (x y : Nat) : Nat × Bool :=
    let ls := sets.map (fun l => (l.1, l.2.1, (l.2.2.getD y (0, 0, 0)).1))
    let d := throwDemand (s.roadLux ls x y) (throwGain grid tw th x y) shift
    let e := gainDemand d.1 (s.drvByte seen (0x20000 + t * tw * th + y * tw + x)).toNat
    (e.1, d.2 || e.2)
  let dead := fun x y => s.pixelDead i t x y || (f.off && f.targets.contains (t, x, y))
  (rasterOf i.info).map (fun q =>
    let a := first q.1 q.2
    if s.pixelDead i t q.1 q.2 then { d := 0, state := 1, sat := a.2 }
    else if dead q.1 q.2 then { d := 0, state := 2, sat := a.2 }
    else
      let b := if s.lv Reg.SA_DRV_CTRL_HEAL_EN = 1 then healDemand tw th (fun x y => (first x y).1) dead q.1 q.2 else (a.1, false)
      let c := thermDemand b.1 (s.sa.factor.getD (4 * i.gzone t q.1 q.2 + i.cls t q.1 q.2) 16384)
      { d := c.1, state := if f.targets.contains (t, q.1, q.2) then 2 else 0, sat := a.2 || b.2 || c.2 })

/-- The zone record of global zone `g` from the pixels of its tile (R108, R112). Selection treats a fenced zone as if its MAX were 0
(spec/15 R359). -/
def State.zoneRecord (s : State) (i : Image) (no g t : Nat) (px : List Stat) : ZoneRec :=
  let zs := ((rasterOf i.info).zip px).filter (fun q => i.zone t q.1.1 q.1.2 == g % 16)
  let live := zs.filter (fun q => q.2.state != 1)
  let mx := live.foldl (fun a q => max a q.2.d) 0
  let e := selectZone (if s.on (Reg.FLT_ZFENCE g) then 0 else mx) (s.lv Reg.SA_DRV_CTRL_ZFLOOR) (s.zlimFor no g)
  { max := mx, sum := (live.map (fun q => q.2.d)).sum, dead := min 0xFFFF (zs.length - live.length), zEff := e.1, z := e.2 }

/-- A zone record as it stands in a DD buffer (R110). -/
def zoneRecBytes (r : ZoneRec) : List Byte :=
  let need := if r.max = 0 then 0 else (255 * r.max + 0xFFFFFE) / full24
  leBytes 3 r.max ++ leBytes 1 r.z ++ leBytes 6 r.sum ++ leBytes 1 r.zEff ++
  leBytes 1 ((if r.z < r.zEff then 1 else 0) + (if need < r.zEff then 2 else 0)) ++ leBytes 2 r.dead ++ [0, 0]

/-- The base of DD buffer `b` (R109). -/
def State.ddBuf (s : State) (i : Image) (b : Nat) : Nat :=
  (s.rd Reg.SA_DRV_DD_HI_ADDR_HI <<< 32 ||| s.rd Reg.SA_DRV_DD_LO_ADDR <<< 20) + b * ddStrideOf i.info

/-- A frame in composition goes bad; the first cause stays (R44, spec/03 R64, R123, spec/06 R139). -/
def Frame.spoil (f : Frame) (cause : Nat) : Frame := { f with cause := if f.cause = 0 then cause else f.cause }

/-- The Stage Array writes to memory, for the slots of SCANOUT (R111, R117). -/
def State.ddWrite (s : State) (a : Nat) (data : List Byte) : State := s.storeParts (.master .stageArray) (s.actsFor .stageArray) a data []

/-- Pass A of a frame: the DD frame and the zone records in its buffer, COMPLETE last, and the counts of SA_DRV_STATUS and SA_DRV_SAT
(R107 to R112, R125). The buffer is written when pass A is done, and not at all for a frame whose pass A is abandoned; it shows COMPLETE
for a frame that is marked bad too (DESIGN CHOICE; log entry 48). The answer is the frame with its zone records. -/
def State.compose (s : State) (i : Image) (f : Frame) : Frame × State :=
  let tiles := i.tiles.map (fun t => (t, s.passATile i f t))
  let recs := (List.range 192).map (fun g =>
    match tiles.find? (fun q => i.port q.1 == some (g / 16)) with
    | some q => s.zoneRecord i f.no g q.1 q.2
    | none => ({} : ZoneRec))
  let b := s.ddBuf i f.buf
  let t := tiles.foldl (fun u q =>
    u.ddWrite (b + 0x1000 + q.1 * i.info.w * i.info.h * 4) (q.2.flatMap (fun p => leBytes 4 (p.d + p.state * 2 ^ 24)))) s.drvOver
  let t := (t.ddWrite b (recs.flatMap zoneRecBytes)).ddWrite (b + 0xC00) (leBytes 4 f.no ++ [1, 0, 0, 0] ++ List.replicate 1016 0)
  let t := t.wr Reg.SA_DRV_STATUS_ZCAP_CNT (min 255 (recs.filter (fun r => decide (r.z < r.zEff))).length)
  let raised (r : ZoneRec) : Bool := r.max != 0 && decide ((255 * r.max + 0xFFFFFE) / full24 < r.zEff)
  let t := t.wr Reg.SA_DRV_STATUS_FLOOR_CNT (min 255 (recs.filter raised).length)
  let t := t.wr Reg.SA_DRV_SAT_SAT_PIX (min full24 (tiles.map (fun q => (q.2.filter (fun p => p.sat)).length)).sum)
  ({ f with zone := recs }, t)

end Sys2Proof.Machine
end

