-- ==== Sys2Proof/Machine/MaskinOps.lean ====
section
/-! DEFINITION. The operations of the gobo input: mask frames, buffers, the boundary (spec/03_layers_blending.md R66 to R73). -/

namespace Sys2Proof.Machine

/-- MASKIN's own state replaced. -/
def State.setMask (s : State) (x : Maskin) : State := { s with maskin := x }

/-- The CSI-2 input is in use: MASKIN is enabled, and no lead mirrors its masks to this unit (R67, spec/18 R426). -/
def State.csiOn (s : State) : Bool := s.on Reg.MASKIN_CTRL_EN && !(s.mirrors 0x20180000 && s.understudy)

/-- The lead passes what it has accepted on to the understudy (spec/18 R426). -/
def State.maskMirror (s : State) (kind : Nat) (line : List Byte) : State :=
  if s.pairLead && s.mirrors 0x20180000 then s.pairSend 0x88 (leBytes 8 kind ++ line.take 1024) else s

/-- The layers with SRC = MASKIN have no live source until a mask is taken (R61, R73). -/
def State.maskUnlive (s : State) : State :=
  s.forFin fun (k : Fin 8) s => if s.fromMask true k then s.wr (Reg.LAYER_STATUS_LIVE k) 0 else s

/-- The open frame is marked bad. -/
def State.maskBad (s : State) (f : Fld) : State := (s.wr f 1).setMask { s.maskin with bad := true }

/-- The open frame is discarded (R67, R75). -/
def State.maskDiscard (s : State) : State := ((s.wr Reg.MASKIN_STATUS_IN_FRAME 0).inc Reg.MASKIN_CNT_FRAMES_BAD).fire 9

/-- The buffer that MASKIN writes next: one that is neither in use nor complete (R69). -/
def State.maskNext (s : State) : Nat :=
  ((List.range 3).find? (fun b => !(s.maskin.taken && s.rd Reg.MASKIN_STATUS_IN_USE == b) && s.maskin.complete != some b)).getD 0

/-- A frame that has ended becomes complete, and replaces one that no boundary has taken (R69). -/
def State.maskComplete (s : State) : State :=
  match s.maskin.ended with
  | none => s
  | some b =>
    let s := if s.maskin.complete.isSome then s.wr Reg.MASKIN_ERR_SKIP 1 else s
    let s := (s.setMask { s.maskin with ended := none, complete := some b, completeAt := s.ftTick }).wr Reg.MASKIN_STATUS_MASK_VALID 1
    (s.inc Reg.MASKIN_CNT_FRAMES_OK).setMask { s.maskin with writing := s.maskNext }

/-- A frame start (R67). A frame that has ended and is not yet complete becomes so. -/
def State.maskStart (s : State) : State :=
  let s := s.maskComplete
  let s := if s.on Reg.MASKIN_STATUS_IN_FRAME then (s.wr Reg.MASKIN_ERR_ORPHAN 1).maskDiscard else s
  ((s.wr Reg.MASKIN_STATUS_IN_FRAME 1).setMask { s.maskin with lines := 0, bad := false }).maskMirror 0 []

/-- An accepted line inside an open frame: its bytes up to WIDTH are written as the next row (R67, R68, log entry 23). -/
def State.maskLine (s : State) (data : List Byte) : State :=
  let w := s.rd Reg.MASKIN_SIZE_WIDTH
  let a := s.maskBase s.maskin.writing + s.maskin.lines * s.maskStride
  let s := if data.length ≠ w then s.maskBad Reg.MASKIN_ERR_LEN else s
  let s := if s.rd Reg.MASKIN_SIZE_HEIGHT ≤ s.maskin.lines then s.maskBad Reg.MASKIN_ERR_HEIGHT
    else s.storeParts .maskin (s.actsFor .other) a (data.take w) []
  (s.setMask { s.maskin with lines := s.maskin.lines + 1 }).maskMirror 1 data

/-- A frame end (R67). -/
def State.maskEnd (s : State) : State :=
  if !s.on Reg.MASKIN_STATUS_IN_FRAME then s.wr Reg.MASKIN_ERR_ORPHAN 1
  else
    let s := if s.maskin.lines < s.rd Reg.MASKIN_SIZE_HEIGHT then s.maskBad Reg.MASKIN_ERR_HEIGHT else s
    (if s.maskin.bad then s.maskDiscard
     else (s.wr Reg.MASKIN_STATUS_IN_FRAME 0).setMask { s.maskin with ended := some s.maskin.writing }).maskMirror 2 []

/-- The data types that MASKIN accepts (R66, R78). -/
def State.maskType (s : State) (dt : Nat) : Bool :=
  match s.rd Reg.MASKIN_CTRL_DT_SEL with
  | 1 => dt == 0x2A
  | 2 => dt == 0x30
  | _ => dt == 0x2A || dt == 0x30

/-- A header with an uncorrectable error: its packet is discarded, and an open frame is marked bad (R67). -/
def State.maskEcc (s : State) : State := if s.on Reg.MASKIN_STATUS_IN_FRAME then s.maskBad Reg.MASKIN_ERR_ECC2 else s

/-- A long packet of an accepted type with payload `data` (R67). A line whose CRC mismatches is discarded and does not count as arrived
(DEDUCED; log entry 47). -/
def State.maskLong (s : State) (data : List Byte) (crc : BitVec 16) : State :=
  if !s.on Reg.MASKIN_STATUS_IN_FRAME then s.wr Reg.MASKIN_ERR_ORPHAN 1
  else if csiCrc data ≠ crc.toNat then s.maskBad Reg.MASKIN_ERR_CRC
  else s.maskLine data

/-- A packet that arrives at the CSI-2 input, by its corrected header (R66, R67): of another channel it only sets VC, of another type
DT, and of both both. -/
def State.maskPacket (s : State) (hdr : Word) (data : List Byte) (crc : BitVec 16) : State :=
  if !s.csiOn then s
  else match csiHeader hdr with
    | none => s.maskEcc
    | some (vc, dt, wc) =>
      let known := decide (dt < 4) || decide (8 ≤ dt ∧ dt ≤ 15)
      if vc ≠ 0 ∨ (known = false ∧ s.maskType dt = false) then
        let s := if vc ≠ 0 then s.wr Reg.MASKIN_ERR_VC 1 else s
        if known || s.maskType dt then s else s.wr Reg.MASKIN_ERR_DT 1
      else if dt = 0 then s.maskStart
      else if dt = 1 then s.maskEnd
      else if known then s
      else s.maskLong (data.take wc) crc

/-- The safe mask is entered (R71). -/
def State.maskSafe (s : State) : State :=
  if s.on Reg.MASKIN_STATUS_SAFE_ACTIVE then s
  else ((s.wr Reg.MASKIN_STATUS_SAFE_ACTIVE 1).fire 8).raise FLT_MASKIN_SAFE 0x20180004

/-- The safe mask is left (R72). -/
def State.maskLive (s : State) : State := if s.on Reg.MASKIN_STATUS_SAFE_ACTIVE then (s.wr Reg.MASKIN_STATUS_SAFE_ACTIVE 0).fire 8 else s

/-- A boundary that takes no mask (R71, R73). -/
def State.maskHeld (s : State) : State :=
  let s := s.inc Reg.MASKIN_STATUS_HOLD_CNT
  if s.maskin.taken then (if s.rd Reg.MASKIN_HOLD_MASK_HOLD < s.rd Reg.MASKIN_STATUS_HOLD_CNT then s.maskSafe else s)
  else if s.on Reg.MASKIN_CTRL_SAFE_AT_START then s.maskSafe else s

/-- The boundary of MASKIN (R69, R71 to R73): a mask that became complete before `limit` (in ticks of frame time) is taken, else the hold
counter rises. -/
def State.maskBoundary (s : State) (limit : Int) : State :=
  if !s.on Reg.MASKIN_CTRL_EN then s
  else
    let s := s.setMask { s.maskin with safeIdx := s.rd Reg.MASKIN_HOLD_SAFE_IDX }
    match s.maskin.complete with
    | some b =>
      if s.maskin.completeAt < limit then
        let s := (s.setMask { s.maskin with complete := none, taken := true }).wr Reg.MASKIN_STATUS_IN_USE b
        let s := (s.wr Reg.MASKIN_STATUS_HOLD_CNT 0).maskLive
        s.forFin fun (k : Fin 8) s =>
          if s.lv (Reg.LAYER_L_CTRL_ENABLE k) = 1 ∧ s.fromMask true k = true then s.wr (Reg.LAYER_STATUS_LIVE k) 1 else s
      else s.maskHeld
    | none => s.maskHeld

end Sys2Proof.Machine
end

