-- ==== Sys2Proof/Machine/PixB.lean ====
section
/-! DEFINITION. The arithmetic of pass B: SPLIT, POSTLUT, DITHER, PACK, and run-length coding of LINE (spec/05_drive_codes.md R113 to R118;
spec/07_onvik_tile_link.md R162, R163). -/

namespace Sys2Proof.Machine

/-- SPLIT (R113). -/
def splitDuty (d zEff : Nat) : Nat :=
  if zEff = 0 then 0 else min ((2 * d * 262128 + zEff * 65793) / (2 * zEff * 65793)) 262128

/-- POSTLUT with a class table (R114). -/
def postLut (l : List Nat) (c18 : Nat) : Nat :=
  let e (j : Nat) : Int := ((l.getD j 0 % 2 ^ 19 : Nat) : Int)
  let i := c18 / 64
  sat0 262128 (e i + ((e (i + 1) - e i) * (c18 % 64 : Nat) + 0x20) / 64)

/-- The threshold matrix, row by row (R115). -/
def ditherRow (r : Nat) : List Nat :=
  match r with
  | 0 => [0, 8, 2, 10]
  | 1 => [12, 4, 14, 6]
  | 2 => [3, 11, 1, 9]
  | _ => [15, 7, 13, 5]

/-- The threshold at row `y`, column `x` of the matrix repeated (R115). -/
def ditherAt (x y : Nat) : Nat := (ditherRow (y % 4)).getD (x % 4) 0

/-- Column and row at which the matrix holds the phase of a frame (R115). -/
def ditherOrigin (frame : Nat) : Nat × Nat :=
  ((List.range 16).find? (fun i => ditherAt (i % 4) (i / 4) == frame % 16)).map (fun i => (i % 4, i / 4)) |>.getD (0, 0)

/-- DITHER (R115): `on` is DITHER_EN. -/
def ditherDuty (on : Bool) (frame x y y18 : Nat) : Nat :=
  let o := ditherOrigin frame
  let t := if on then ditherAt (x + o.1) (y + o.2) else 8
  min ((y18 + t) / 16) 16383

/-- PACK (R116). -/
def packWord (state c14 : Nat) : Nat := if state = 1 then 0x4000 else state * 0x4000 + c14

/-- What pass B makes of a DD word: c18, y18 and the pixel word (R113 to R116). -/
structure PassB where
  c18 : Nat := 0
  y18 : Nat := 0
  word : Nat := 0
  state : Nat := 0
deriving DecidableEq, Repr

/-- Pass B of one pixel. -/
def passBPixel (drv : DrvSet) (lut : List Nat) (frame zEff x y dd : Nat) : PassB :=
  let c := splitDuty (dd % 2 ^ 24) zEff
  let v := if drv.postlut then postLut lut c else c
  let st := bits dd 24 2
  { c18 := c, y18 := v, word := packWord st (ditherDuty drv.dither frame x y v), state := st }

/-- The tap word that TAP_SEL selects, in its bytes (R118). -/
def tapBytes (sel : Nat) (p : PassB) : List Byte :=
  match sel with
  | 0 => leBytes 2 p.word
  | 1 => leBytes 4 (p.c18 + p.state * 2 ^ 24)
  | _ => leBytes 4 (p.y18 + p.state * 2 ^ 24)

/-- The length of the run of `w` at the head of a list. -/
def runLength (w : Nat) : List Nat → Nat
  | [] => 0
  | a :: r => if a = w then runLength w r + 1 else 0

/-- LINE data in run-length code (spec/07 R163). -/
def rleWords : Nat → List Nat → List Nat
  | 0, _ => []
  | _, [] => []
  | n + 1, w :: r =>
    let k := runLength w (w :: r)
    if 3 ≤ k then (0xC000 + (k - 2)) :: w :: rleWords n (r.drop (k - 1)) else w :: rleWords n r

end Sys2Proof.Machine
end

