-- ==== Sys2Proof/Machine/Aes.lean ====
section
/-! DEFINITION. AES-256-GCM authentication of data with an empty plaintext (spec/14_safety.md R339), by FIPS 197 and SP 800-38D, which
the spec names and does not restate (log entry 18). -/

namespace Sys2Proof.Machine

/-- Multiplication by x in the field of AES. -/
def xtime (a : Nat) : Nat := if a < 128 then 2 * a else (2 * a) % 256 ^^^ 0x1B

/-- Multiplication in the field of AES, `n` bits of `b` from the top. -/
def gmul (a b : Nat) : Nat → Nat
  | 0 => 0
  | n + 1 => xtime (gmul a (b / 2) n) ^^^ (if b % 2 = 1 then a else 0)

/-- Product of two bytes. -/
def gf (a b : Nat) : Nat := gmul a b 8

/-- The inverse of a byte, 0 of 0: its 254th power. -/
def gfInv (a : Nat) : Nat :=
  let a2 := gf a a
  let a4 := gf a2 a2
  let a8 := gf a4 a4
  let a16 := gf a8 a8
  let a32 := gf a16 a16
  let a64 := gf a32 a32
  let a128 := gf a64 a64
  gf (gf (gf a2 a4) (gf a8 a16)) (gf (gf a32 a64) a128)

/-- A byte rotated left. -/
def rol8 (a n : Nat) : Nat := (a <<< n ||| a >>> (8 - n)) % 256

/-- The substitution box. -/
def sbox (a : Nat) : Nat :=
  let b := gfInv a
  b ^^^ rol8 b 1 ^^^ rol8 b 2 ^^^ rol8 b 3 ^^^ rol8 b 4 ^^^ 0x63

/-- Two lists of bytes added. -/
def xorBytes (a b : List Nat) : List Nat := List.zipWith (· ^^^ ·) a b

/-- One word of the AES-256 key schedule from the word before it and the word eight before; `i` counts words. -/
def keyWord (prev back : List Nat) (i : Nat) : List Nat :=
  if i % 8 = 0 then
    let r := (prev.drop 1 ++ prev.take 1).map sbox
    xorBytes back (xorBytes r [2 ^ (i / 8 - 1), 0, 0, 0])
  else if i % 8 = 4 then xorBytes back (prev.map sbox)
  else xorBytes back prev

/-- `n` further words of the key schedule, newest first. -/
def expandKey (ws : List (List Nat)) (i : Nat) : Nat → List (List Nat)
  | 0 => ws
  | n + 1 => expandKey (keyWord (ws.headD []) (ws.getD 7 []) i :: ws) (i + 1) n

/-- The fifteen round keys of 16 bytes. -/
def roundKeys (key : List Nat) : List (List Nat) :=
  let w0 := ((List.range 8).map (fun i => (key.drop (4 * i)).take 4)).reverse
  let ws := (expandKey w0 8 52).reverse
  (List.range 15).map (fun r => ((ws.drop (4 * r)).take 4).flatten)

/-- Rows of the state shifted. -/
def shiftRows (b : List Nat) : List Nat := (List.range 16).map (fun i => b.getD ((i + 4 * (i % 4)) % 16) 0)

/-- Columns of the state mixed. -/
def mixColumns (b : List Nat) : List Nat :=
  (List.range 16).map (fun i =>
    let c (k : Nat) : Nat := b.getD (i / 4 * 4 + (i + k) % 4) 0
    xtime (c 0) ^^^ (xtime (c 1) ^^^ c 1) ^^^ c 2 ^^^ c 3)

/-- AES-256 of one block. -/
def aesBlock (key block : List Nat) : List Nat :=
  let ks := roundKeys key
  let s := xorBytes block (ks.headD [])
  let s := (List.range 13).foldl (fun s r => xorBytes (mixColumns (shiftRows (s.map sbox))) (ks.getD (r + 1) [])) s
  xorBytes (shiftRows (s.map sbox)) (ks.getD 14 [])

/-- A big-endian number of bytes. -/
def beNat (bs : List Nat) : Nat := bs.foldl (fun a b => 256 * a + b) 0

/-- Multiplication in the field of GHASH: `n` bits of `x` from its most significant, with `v` the running multiple of the other factor. -/
def ghMul (x v z : Nat) : Nat → Nat
  | 0 => z
  | n + 1 =>
    ghMul x (if v.testBit 0 then v >>> 1 ^^^ 0xE1000000000000000000000000000000 else v >>> 1) (if x.testBit n then z ^^^ v else z) n

/-- GHASH over whole blocks. -/
def ghash (h : Nat) (blocks : List Nat) : Nat := blocks.foldl (fun y b => ghMul (y ^^^ b) h 0 128) 0

/-- Bytes padded with zeros to whole blocks of 16, as numbers. -/
def blocksOf (bs : List Nat) : List Nat :=
  (List.range ((bs.length + 15) / 16)).map (fun i => beNat (((bs.drop (16 * i)).take 16) ++ List.replicate (16 - ((bs.drop (16 * i)).take 16).length) 0))

/-- The 16-byte tag, as a number, of additional data under a 12-byte initialisation vector, with an empty plaintext. -/
def gcmTag (key iv aad : List Byte) : Nat :=
  let k := key.map BitVec.toNat
  let h := beNat (aesBlock k (List.replicate 16 0))
  let y := ghash h (blocksOf (aad.map BitVec.toNat) ++ [8 * aad.length * 2 ^ 64])
  y ^^^ beNat (aesBlock k (iv.map BitVec.toNat ++ [0, 0, 0, 1]))

end Sys2Proof.Machine
end

