-- ==== Sys2Proof/Machine/SafeOps.lean ====
section
/-! DEFINITION. The operations of the safety island that other blocks use: its state and cap, grants, the safe-message checker
(spec/14_safety.md R320 to R344). -/

namespace Sys2Proof.Machine

/-- Interlock `k` is enabled (R330). -/
def State.ilUsed (s : State) (k : Fin 2) : Bool := k == 0 || s.on Reg.SAFE_SEALCFG_USE1
/-- The filtered level of channel A or B of an interlock (R349). -/
def State.ilA (s : State) (k : Fin 2) : Bool := (s.rd Reg.SAFE_IL_LEVEL).testBit (2 * k)
def State.ilB (s : State) (k : Fin 2) : Bool := (s.rd Reg.SAFE_IL_LEVEL).testBit (2 * k + 1)
/-- A channel of an enabled interlock indicates open (R331). -/
def State.ilOpen (s : State) (k : Fin 2) : Bool := s.ilUsed k && (!s.ilA k || s.ilB k)

/-- The island's state: the first row of R322 whose condition holds; on AQPX2-BG484-I by R321. -/
def State.islandState (s : State) : Nat :=
  if !s.on Reg.SAFE_CTRL_EN || s.on Reg.SAFE_CTRL_FB_REQ then 3
  else if !s.part.safeCapable then (if s.on Reg.SAFE_CTRL_RESTRICT then 1 else 0)
  else if s.on Reg.SAFE_STATUS_SEAL_ERR || s.on Reg.SAFE_STATUS_CLAMP_ERR || s.on Reg.FLT_STATUS_LOCKOUT then 3
  else if s.on Reg.SAFE_STATUS_IL0_OPEN || s.on Reg.SAFE_STATUS_IL1_OPEN || s.on Reg.SAFE_STATUS_DISC || s.on Reg.SAFE_STATUS_TP_ERR then 2
  else if s.on Reg.SAFE_STATUS_PROOF_DUE || s.on Reg.SAFE_CTRL_RESTRICT then 1 else 0

/-- The component-wise minimum of two caps. -/
def minCap (a b : Nat × Nat) : Nat × Nat := (min a.1 b.1, min a.2 b.2)

/-- The cap of a state (R322): MAINTENANCE is the component-wise minimum of a row's M and R values. -/
def State.capOf (s : State) (st : Nat) : Nat × Nat :=
  let m := s.rd Reg.SAFE_SEALCFG_CLASS
  let r := (s.rd (Reg.SAFE_CLASS_R_CAP_Z m), s.rd (Reg.SAFE_CLASS_R_CAP_D m))
  let k := (s.rd (Reg.SAFE_CLASS_M_CAP_Z m), s.rd (Reg.SAFE_CLASS_M_CAP_D m))
  match st with
  | 0 => (0xFF, 0x3FFF)
  | 1 => r
  | 2 => minCap k r
  | _ => (0, 0)

/-- The cap in force at the clamp. -/
def State.cap (s : State) : Nat × Nat := (s.rd Reg.SAFE_CAP_CAP_Z, s.rd Reg.SAFE_CAP_CAP_D)
/-- The clamp of every port set (R323). -/
def State.setCap (s : State) (c : Nat × Nat) : State := (s.wr Reg.SAFE_CAP_CAP_Z c.1).wr Reg.SAFE_CAP_CAP_D c.2

/-- CAP on every READY or STREAMING port (R323, spec/07 R173). -/
def State.capAll (s : State) : State :=
  s.forFin fun (p : Fin 12) s => if s.tlUp p then s.tlCap p s.cap.1 s.cap.2 else s

/-- SAFE_OK (R326). -/
def State.safeOk (s : State) : Bool :=
  s.part.safeCapable && s.on Reg.SAFE_CTRL_EN && s.rd Reg.SAFE_STATUS_STATE != 3 && !s.on Reg.SAFE_STATUS_DISC && !s.on Reg.SAFE_STATUS_TP_ERR &&
  !s.on Reg.SAFE_STATUS_SEAL_ERR && !s.on Reg.SAFE_STATUS_CLAMP_ERR && !s.on Reg.FLT_STATUS_LOCKOUT

/-- SFTP0 and SFTP1 outside their pulses (R321, R333): high, and driven low on AQPX2-BG484-I; low with the SAFE domain not ON. -/
def State.sftpHigh (s : State) : Bool := s.part.safeCapable && s.domOn 2

/-- The island enters FALLBACK after EN has been set (R325): CAP (0, 0) on every trained port, and silence once it has left them. -/
def State.enterFallback (s : State) : State := { s.capAll with safe := { s.safe with silence := true } }

/-- The island's state follows its conditions (R322 to R326): SAFE_STATE on a change, the lower cap at once with CAP on the ports, CAP (0, 0)
on entering FALLBACK, and the silenced ports released on leaving it. A higher cap that waits for its boundary falls with the state: what
its condition then allows again counts from its own end. -/
def State.showSafe (s : State) : State :=
  let old := s.rd Reg.SAFE_STATUS_STATE
  let st := s.islandState
  let s := if st = old then s else (s.wr Reg.SAFE_STATUS_STATE st).fire 64
  let s := s.wrB Reg.SAFE_STATUS_SAFE_OK s.safeOk
  let c := minCap s.cap (s.capOf st)
  let falls := s.on Reg.SAFE_CTRL_EN && st == 3 && old != 3
  let s := { s with safe := { s.safe with raiseTo := s.safe.raiseTo.map (fun r => minCap r (s.capOf st)) } }
  let s := if falls then (s.setCap c).enterFallback else if c = s.cap then s else (s.setCap c).capAll
  if st ≠ 3 ∧ old = 3 then { s with safe := { s.safe with silence := false } }.tlRelease else s

/-- A boundary instant is fixed: a higher cap that its conditions now allow waits for that boundary (R324). -/
def State.safeFix (s : State) : State :=
  let c := s.capOf (s.rd Reg.SAFE_STATUS_STATE)
  if minCap c s.cap = s.cap ∧ c ≠ s.cap then { s with safe := { s.safe with raiseTo := some c } } else s

/-- The boundary: the clamp rises to the cap that was fixed, as far as the state still allows it (R324). -/
def State.safeBoundary (s : State) : State :=
  match s.safe.raiseTo with
  | none => s
  | some c => { s with safe := { s.safe with raiseTo := none } }.setCap (minCap c (s.capOf (s.rd Reg.SAFE_STATUS_STATE)))

/-- The transmitters send LINE, ZONE, LATCH and DIAG_REQ: once EN has been set (R325). -/
def State.streamOpen (s : State) : Bool := s.on Reg.SAFE_CTRL_EN

/-- A cap's clamp of a pixel word (R327). -/
def clampWord (capD w : Nat) : Nat :=
  match w / 16384 % 4 with
  | 1 => w
  | 3 => 0x4000
  | q => q * 16384 + min (w % 16384) capD

/-! Grants. -/

/-- The grant of layer `k` is written or withdrawn. -/
def State.setGrant (s : State) (k : Fin 8) (g : Grant) : State := { s with safe := { s.safe with grant := s.safe.grant.set k g } }
/-- Layer `k` carries safety symbols (R344). -/
def State.symLayer (s : State) (k : Nat) : Bool := (s.rd Reg.SAFE_SYM_MASK_MASK).testBit k && s.part.safeCapable
/-- Layer `k` is granted for a buffer and a table base (R343). -/
def State.layerGranted (s : State) (k : Fin 8) (buf tbl : Nat) : Bool :=
  let g := s.safe.grant[k]
  g.valid && g.buf == buf && g.tbl == tbl

/-! Safe messages. -/

/-- A message is rejected with a code (R340), and counted (R349). -/
def State.msgReject (s : State) (code : Nat) : State :=
  let s := (s.wr Reg.SAFE_MSG_STATUS_LAST_ERR code).fire 66
  let s := if code = 4 then s.inc Reg.SAFE_MSG_CNT0_HI else if code = 5 then s.inc Reg.SAFE_MSG_CNT1_LO else s.inc Reg.SAFE_MSG_CNT1_HI
  if code ≠ 5 ∧ code ≠ 6 then s
  else
    let due := match s.safe.msgFault with
      | none => true
      | some t => decide (t + 400000000 ≤ s.now)
    if due then { s with safe := { s.safe with msgFault := some s.now } }.raise FLT_SAFE_MSG 0x2014005C else s

/-- The code with which a copy fails on its own, 0 where it passes (R340, codes 0x01 to 0x03). -/
def State.copyCode (s : State) (d : List Byte) : Nat :=
  let len := beAt d 10 2
  if d.length < 52 ∨ beAt d 0 2 ≠ 0x534D ∨ byteAt d 2 ≠ 0x10 ∨ 1 < byteAt d 3 ∨ 256 < len ∨ d.length < 52 + len then 1
  else if beAt d 4 4 ≠ s.rd Reg.SAFE_MSG_DEST_DEST ∧ beAt d 4 4 ≠ 0xFFFFFFFF then 2
  else if beAt d (32 + len) 4 ≠ crc32c (d.take (32 + len)) then 3 else 0

/-- The time stamp of a message in ns within 2^32 s (R307, R339). -/
def msgTime (d : List Byte) : Nat := beAt d 12 4 * giga + beAt d 16 4

/-- How old a message is by frame time at the receive timestamp of port `n`, in ns (R340, code 0x07; spec/13 R301): the difference nearest to
0 within the 2^32 s that a stamp covers. -/
def State.msgAge (s : State) (n : Nat) (d : List Byte) : Int :=
  let m : Int := 2 ^ 32 * giga
  let x := ((s.frameTime - s.rd (Reg.NET_TS_LAT_RX_LAT n) * 2 ^ 26) / nsUnit - msgTime d) % m
  if x < m / 2 then x else x - m

/-- The code with which two copies fail, the second from port `n`, 0 where they pass every check but that of ALIVE (R340, codes 0x05 to
0x07). -/
def State.pairCode (s : State) (n : Nat) (a b : List Byte) : Nat :=
  let len := beAt b 10 2
  let key := s.ident.keys.smKey[Fin.ofNat 2 (byteAt b 3)]
  let age := s.msgAge n b
  if a.take (52 + len) ≠ b.take (52 + len) then 5
  else if beAt b (36 + len) 16 ≠ gcmTag key (slice b 20 12) (b.take (36 + len)) then 6
  else if !s.ftRunning || decide ((max 10 (min 100 (s.rd Reg.SAFE_MSG_TIME_AGE_MAX)) : Nat) * 1000000 < age) || decide (age < -1000000) then 7 else 0

/-- The payload goes to the mailbox: bytes beyond it stay (R341). -/
def State.fillMbox (s : State) (d : List Byte) (len : Nat) : State :=
  (List.range 64).foldl (fun s w =>
    let n := min 4 (len - 4 * w)
    let keep := (leBytes 4 (s.rd (Reg.SAFE_MBOX_DATA w))).drop n
    s.wr (Reg.SAFE_MBOX_DATA w) (le (slice d (32 + 4 * w) n ++ keep))) s

/-- A message is accepted (R341, R342). -/
def State.msgAccept (s : State) (d : List Byte) : State :=
  let len := beAt d 10 2
  let alive := beAt d 8 2
  let s := if s.on Reg.SAFE_MSG_STATUS_MBOX_FULL then (s.wr Reg.SAFE_MSG_STATUS_MBOX_OVF 1).fire 66 else s
  let s := ((s.wr Reg.SAFE_MSG_STATUS_ALIVE_REF alive).wr Reg.SAFE_MBOX_INFO_LEN len).wr Reg.SAFE_MBOX_INFO_ALIVE alive
  let s := ((s.wr Reg.SAFE_MBOX_TS_NS_VALUE (beAt d 16 4)).wr Reg.SAFE_MBOX_TS_SEC_VALUE (beAt d 12 4)).fillMbox d len
  let s := ((s.wr Reg.SAFE_MSG_STATUS_MBOX_FULL 1).inc Reg.SAFE_MSG_CNT0_LO).fire 65
  if s.on Reg.SAFE_STATUS_SYM_INHIBIT then (s.wr Reg.SAFE_STATUS_SYM_INHIBIT 0).fire 67 else s

/-- Two copies have met, the second from port `n` (R340, R341). -/
def State.msgPair (s : State) (n : Nat) (a b : List Byte) : State :=
  let c := s.pairCode n a b
  let alive := beAt b 8 2
  if c ≠ 0 then s.msgReject c
  else if !s.on Reg.SAFE_MSG_STATUS_SYNC then (s.wr Reg.SAFE_MSG_STATUS_ALIVE_REF alive).wr Reg.SAFE_MSG_STATUS_SYNC 1
  else if alive = (s.rd Reg.SAFE_MSG_STATUS_ALIVE_REF + 1) % 65536 then s.msgAccept b
  else (s.msgReject 8).wr Reg.SAFE_MSG_STATUS_ALIVE_REF alive

/-- The dual window in ticks (R349). -/
def State.dualWin (s : State) : Nat := max 1 (min 50 (s.rd Reg.SAFE_MSG_TIME_DUAL_WIN)) * 400000

/-- A copy waits for its twin, at most four for each port (R340). -/
def State.holdCopy (s : State) (n alive : Nat) (d : List Byte) : State :=
  if 4 ≤ (s.safe.held.filter (fun x => x.port == n)).length then s.inc Reg.SAFE_MSG_CNT1_HI
  else { s with safe := { s.safe with held := s.safe.held ++ [{ port := n, alive := alive, data := d, seen := s.now }] } }

/-- A matching frame's copy reaches the checker from port `n` (R338 to R341). -/
def State.safeMessage (s : State) (n : Nat) (d : List Byte) : State :=
  if !s.part.safeCapable || !s.on Reg.SAFE_CTRL_EN then s
  else
    let c := s.copyCode d
    let alive := beAt d 8 2
    if c ≠ 0 then s.msgReject c
    else if s.safe.held.any (fun x => x.port == n && x.alive == alive) then s.inc Reg.SAFE_MSG_CNT1_HI
    else match s.safe.held.find? (fun x => x.port != n && x.alive == alive) with
      | some x =>
        let t := { s with safe := { s.safe with held := s.safe.held.filter (fun y => y != x) } }
        if s.now ≤ x.seen + s.dualWin then t.msgPair n x.data d else (t.msgReject 4).holdCopy n alive d
      | none => s.holdCopy n alive d

end Sys2Proof.Machine
end

