-- ==== Sys2Proof/Machine/LayerOps.lean ====
section
/-! DEFINITION. The operations of the layers: commits, flips, deferrals, the span checker, SCANOUT's agent
(spec/03_layers_blending.md R57 to R65; spec/04_warp.md R88 to R97; spec/14_safety.md R344). -/

namespace Sys2Proof.Machine

/-- The C fields of layer `k` (R77, R98). -/
def layerFields (k : Nat) : List Fld :=
  [Reg.LAYER_L_CTRL_ENABLE k, Reg.LAYER_L_CTRL_BLEND k, Reg.LAYER_L_CTRL_FORMAT k, Reg.LAYER_L_CTRL_PRELUT_EN k, Reg.LAYER_L_CTRL_SRC k,
   Reg.LAYER_L_CTRL_FLIP_GROUP k, Reg.LAYER_L_SIZE_WIDTH k, Reg.LAYER_L_SIZE_HEIGHT k, Reg.LAYER_L_BUF_LO_ADDR k, Reg.LAYER_L_BUF_HI_ADDR_HI k,
   Reg.LAYER_L_STRIDE_STRIDE k, Reg.LAYER_L_TBL_LO_ADDR k, Reg.LAYER_L_TBL_HI_ADDR_HI k, Reg.LAYER_L_MESH_LO_ADDR k, Reg.LAYER_L_MESH_HI_ADDR_HI k,
   Reg.LAYER_L_WARP_CTRL_EDGE k, Reg.LAYER_L_WARP_CTRL_DIR k]

/-- The fields of a layer whose change asks for a new check (R92). -/
def checkFields (k : Nat) : List Fld :=
  [Reg.LAYER_L_MESH_LO_ADDR k, Reg.LAYER_L_MESH_HI_ADDR_HI k, Reg.LAYER_L_WARP_CTRL_EDGE k, Reg.LAYER_L_WARP_CTRL_DIR k, Reg.LAYER_L_SIZE_WIDTH k,
   Reg.LAYER_L_SIZE_HEIGHT k]

/-- Bytes of a table block (R53). -/
abbrev tableBytes : Nat := 5184
/-- Bytes of a mesh set under the active image; those of 512×512 tiles where no bank is active (R80, R81, log entry 21). -/
def State.meshBytes (s : State) : Nat := 12 * meshStride ((s.mode).getD ⟨512, 512, 120, 11520, 16⟩)

/-- The extent lies inside one slot of the stage window (R52, R53, R81). -/
def State.inOneSlot (s : State) (a n : Nat) : Bool :=
  s.on Reg.WIN_CTRL_EN && (List.range (s.rd Reg.WIN_CFG_COUNT)).any (fun k => decide (s.slotAddr k ≤ a ∧ a + n ≤ s.slotAddr k + s.slotSize))

/-- The mesh set of a layer's shadows or live fields is stable (R92, R93). -/
def State.meshStable (s : State) (live : Bool) (k : Nat) : Bool :=
  inSram (s.layerMesh live k) s.meshBytes || s.scanoutOwns (s.layerMesh live k) s.meshBytes

/-! References to slots (R62). -/

/-- The slots that a layer's live fields or shadows name. -/
def State.layerSlots (s : State) (live : Bool) (k : Nat) : List Nat :=
  (if s.fromMask live k then [] else s.slotsOf (s.layerBuf live k) (max 1 (s.bufBytes live k))) ++
  s.slotsOf (s.layerTbl live k) tableBytes ++ s.slotsOf (s.layerMesh live k) s.meshBytes

/-- Layer `k` has a deferred flip armed. -/
def State.armed (s : State) (k : Nat) : Bool := s.on (Reg.LAYER_STATUS_ARMED k)

/-- A layer's live or armed field, a captured set, or a live or shadow SA_DRV_TBL still references the slot (R62). -/
def State.referenced (s : State) (n : Nat) : Bool :=
  (List.range 8).any (fun k => (s.layerSlots true k).contains n || (s.armed k && (s.layerSlots false k).contains n)) ||
  s.layer.plans.any (fun p => p.sets.any (fun x => ((s.applySet x.2).layerSlots true x.1).contains n)) ||
  (s.slotsOf (s.drvTbl true) s.drvTblBytes).contains n || (s.slotsOf (s.drvTbl false) s.drvTblBytes).contains n

/-! The span checker. -/

/-- A layer-block field replaced. -/
def State.setLayer (s : State) (x : Layer) : State := { s with layer := x }

/-- A coordinate word is in range (R82). -/
def wordInRange (w : Nat) : Bool := bits w 20 12 == 0 || bits w 20 12 == 0xFFF

/-- What a walk has found: its first failure as code, tile and line; the largest span; whether a read error has ended it, and the address that
could not be read. -/
structure Walked where
  fail : Option (Nat × Nat × Nat) := none
  bad : Option Nat := none
  span : Int := 0
  ended : Bool := false
deriving DecidableEq, Repr

/-- A failure is recorded unless one has been met before (R91). -/
def Walked.met (w : Walked) (code t line : Nat) : Walked := { w with fail := some (w.fail.getD (code, t, line)) }

/-- The walk of one tile (R91): every control point in storage order, then the lines from 0; a read error ends the walk. -/
def State.walkTile (s : State) (i : Image) (k : Nat) (live : Bool) (error : Option SpanFault) (w : Walked) (t : Nat) : Walked :=
  if w.ended then w
  else
    let g := s.warpSet live i k t
    let base := s.layerMesh live k + t * meshStride i.info
    let n := 33 * (i.info.h / 16 + 1)
    let spot := error.bind (fun e => if e.1.val = t then some e.2 else none)
    let unread (p : Nat) : Bool := !s.readable (base + 8 * p) || (match spot with | some (.point q) => q.val == p | _ => false)
    let unreadAt := (List.range n).find? unread
    let w := match (List.range (unreadAt.getD n)).find? (fun p => !wordInRange (s.num (base + 8 * p) 4) || !wordInRange (s.num (base + 8 * p + 4) 4)) with
      | some p => w.met 4 t (16 * (p / 33))
      | none => w
    if unreadAt.isSome then { w.met 5 t 0 with ended := true, bad := unreadAt.map (fun p => base + 8 * p) }
    else
      let stop : Option Nat := match spot with | some (.line y) => if y.val < i.info.h then some y.val else none | _ => none
      let ls := g.windows.take (stop.getD i.info.h)
      let w := match (List.range ls.length).find? (fun y => !g.fits (ls.getD y (0, 0, 0))) with
        | some y => w.met 3 t y
        | none => w
      let w := { w with span := ls.foldl (fun a l => max a (g.span l)) w.span }
      match stop with
      | some y => { w.met 5 t y with ended := true }
      | none => w

/-- The walk of a layer over the mapped logical tiles in ascending order (R91). -/
def State.walkLayer (s : State) (i : Image) (k : Nat) (live : Bool) (error : Option SpanFault) : Walked :=
  i.tiles.foldl (s.walkTile i k live error) {}

/-- The check of layer `k` has passed (R91, R92). CHK_CODE clears to 0 (R98; DESIGN CHOICE, log entry 47), and FAIL_TILE
and FAIL_LINE keep the last failure (DESIGN CHOICE; log entry 49). -/
def State.checkPassed (s : State) (k : Fin 8) (live : Bool) (span : Nat) : State :=
  let s := ((s.wr (Reg.LAYER_L_SPAN_MAX_SPAN k) (min span 0x7FF)).wr (Reg.LAYER_L_WARP_STATUS_CHK_CODE k) 0)
  let s := s.setLayer { s.layer with passed := s.layer.passed.set k true }
  if live then s else s.wr (Reg.LAYER_L_WARP_STATUS_CHECKED k) 1

/-- Layer `k` is disarmed (R59). -/
def State.disarm (s : State) (k : Fin 8) : State := s.wr (Reg.LAYER_STATUS_ARMED k) 0

/-- The check of layer `k` has failed (R94, R95, R97). FAIL_LINE has nine bits: line 512 of grid row 32 reads 0 (DESIGN CHOICE; log entry
47). -/
def State.checkFailed (s : State) (k : Fin 8) (live : Bool) (f : Nat × Nat × Nat) (span : Nat) : State :=
  let s := ((s.wr (Reg.LAYER_L_SPAN_MAX_SPAN k) (min span 0x7FF)).wr (Reg.LAYER_L_SPAN_FAIL_TILE k) f.2.1).wr (Reg.LAYER_L_SPAN_FAIL_LINE k) f.2.2
  let s := ((s.wr (Reg.LAYER_L_WARP_STATUS_CHK_CODE k) f.1).wr (Reg.LAYER_L_WARP_STATUS_SPAN_ERR k) 1).fire 6
  if live then s else (s.setLayer { s.layer with failed := s.layer.failed.set k true }).disarm k

/-- Layer `k` waits for the checker; a layer that the active image does not compose passes without a walk (R91, R92). -/
def State.queueCheck (s : State) (k : Fin 8) : State :=
  if (s.image.map (fun i => i.composes k)).getD false then s.setLayer { s.layer with queued := s.layer.queued.set k true }
  else s.checkPassed k false 0

/-- The pending set's warp fields and source size equal the live ones (R92). -/
def State.warpSame (s : State) (k : Nat) : Bool := (checkFields k).all (fun f => s.rd f == s.lv f)

/-- The check of the pending set has passed (R92, R93). -/
def State.checkOk (s : State) (k : Fin 8) : Bool :=
  s.on (Reg.LAYER_L_WARP_STATUS_CHECKED k) || (s.warpSame k && s.layer.passed[k])

/-- A set of COMMIT queues the layers that need a check, and gives every layer a fresh one (R92, R94). -/
def State.queueChecks (s : State) : State :=
  let s := s.setLayer { s.layer with failed := .replicate 8 false }
  s.forFin fun (k : Fin 8) s => if s.rd (Reg.LAYER_L_CTRL_ENABLE k) = 1 ∧ s.checkOk k = false then s.queueCheck k else s

/-- The walk in progress ends without a result. -/
def State.dropWalk (s : State) : State :=
  match s.layer.walk with
  | none => s
  | some w => (s.setLayer { s.layer with walk := none }).wr (Reg.LAYER_L_WARP_STATUS_CHK_BUSY w.layer) 0

/-- A shadow field of layer `k` has been written (R59, R92; spec/04, Hard cases): the layer is disarmed, its walk in progress is dropped, and
a write of its warp fields or SIZE clears CHECKED. A walk that has not begun still takes place, over the set as it then stands. -/
def State.layerWritten (s : State) (k : Fin 8) (warp : Bool) : State :=
  let s := s.disarm k
  let s := if s.layer.walk = some { layer := k, live := false } then s.dropWalk else s
  if warp then s.wr (Reg.LAYER_L_WARP_STATUS_CHECKED k) 0 else s

/-- A bank switch has taken effect (R95): every pass is void, the live meshes of the composed layers and the sets that wait are checked
against the new bank. A layer that the new bank's layer mask composes and whose live ENABLE is 1 counts as composed here, whatever
LAYER_CTRL.EN and its live source are (DESIGN CHOICE; log entry 49). -/
def State.layerSwitched (s : State) : State :=
  let s := s.dropWalk
  s.forFin fun (k : Fin 8) s =>
    let comp := (s.image.map (fun i => i.composes k)).getD false && s.lv (Reg.LAYER_L_CTRL_ENABLE k) == 1
    let s := (s.setLayer { s.layer with passed := s.layer.passed.set k false, recheck := s.layer.recheck.set k comp,
                                        queued := s.layer.queued.set k false }).wr (Reg.LAYER_L_WARP_STATUS_CHECKED k) 0
    if s.rd (Reg.LAYER_L_CTRL_ENABLE k) = 1 ∧ (s.armed k = true ∨ s.on Reg.LAYER_CTRL_COMMIT = true) then s.queueCheck k else s

/-! Commit checks and readiness. -/

/-- The lowest failing code of layer `k` at a commit guard, with the detail of code 0x08 (R65, R96). With no active bank there is no
RESOURCE entry, and code 0x02 does not test a maximum width (DESIGN CHOICE; log entry 48). -/
def State.layerCode (s : State) (k : Nat) : Option Nat :=
  let z := s.layerSize false k
  let own := !s.fromMask false k
  let low := (List.range k).any (fun j => s.rd (Reg.LAYER_L_CTRL_ENABLE j) == 1 && s.fromMask false j)
  if s.rd (Reg.LAYER_L_CTRL_ENABLE k) ≠ 1 then none
  else if 5 ≤ s.rd (Reg.LAYER_L_CTRL_BLEND k) then some 1
  else if own && (!decide (1 ≤ z.1 ∧ z.1 ≤ 4096 ∧ 1 ≤ z.2 ∧ z.2 ≤ 4096) ||
      (match s.image with | some i => decide (i.maxWidth.getD k 0 < z.1) | none => false)) then some 2
  else if own && decide (s.layerStride false k < s.rowLength false k) then some 3
  else if own && !s.inOneSlot (s.layerBuf false k) (s.bufBytes false k) then some 4
  else if !s.inOneSlot (s.layerTbl false k) tableBytes then some 5
  else if !own && low then some 6
  else if !own && !s.on Reg.MASKIN_CTRL_EN then some 7
  else if !inSram (s.layerMesh false k) s.meshBytes && !s.inOneSlot (s.layerMesh false k) s.meshBytes then some 8
  else none

/-- The lowest failing layer of a commit and its lowest failing code (R65). -/
def State.layerFault (s : State) : Option (Fin 8 × Nat) :=
  (List.finRange 8).findSome? (fun (k : Fin 8) => (s.layerCode k).map (fun c => (k, c)))

/-- Layer `k` is ready at a guard (R57, R93, R344). -/
def State.layerReady (s : State) (k : Fin 8) : Bool :=
  s.rd (Reg.LAYER_L_CTRL_ENABLE k) != 1 ||
  ((s.fromMask false k || s.scanoutOwns (s.layerBuf false k) (s.bufBytes false k)) && s.scanoutOwns (s.layerTbl false k) tableBytes &&
   s.meshStable false k && s.checkOk k && (!s.symLayer k || s.layerGranted k (s.layerBuf false k) (s.layerTbl false k)))

/-- Some field of layer `k` differs from what is live or already captured to go live (R57). -/
def State.layerChanged (s : State) (k : Nat) : Bool :=
  match (s.layer.plans.flatMap (·.sets)).reverse.find? (fun x => x.1 == k) with
  | some x => x.2.any (fun v => s.rd v.1 != v.2)
  | none => (layerFields k).any (fun f => s.rd f != s.lv f)

/-- The value of a field of layer `k` once every flip that an earlier guard has taken up is live (R132, R344). -/
def State.plannedField (s : State) (k : Nat) (f : Fld) : Nat :=
  match (s.layer.plans.flatMap (·.sets)).reverse.find? (fun x => x.1 == k) with
  | some x => ((x.2.find? (fun v => v.1 == f)).map (·.2)).getD (s.lv f)
  | none => s.lv f

/-- BUF and TBL of layer `k` that are live from the boundary of a guard: those that flip there, else those already live or held for an earlier
boundary (R344). -/
def State.boundaryBases (s : State) (flips : Bool) (k : Nat) : Nat × Nat :=
  let v (f : Fld) : Nat := if flips then s.rd f else s.plannedField k f
  (v (Reg.LAYER_L_BUF_HI_ADDR_HI k) <<< 32 ||| v (Reg.LAYER_L_BUF_LO_ADDR k) <<< 6,
   v (Reg.LAYER_L_TBL_HI_ADDR_HI k) <<< 32 ||| v (Reg.LAYER_L_TBL_LO_ADDR k) <<< 6)

/-- Whether each layer in SYM_MASK is composed from a boundary, with the layers of `flips` going live there (R344). -/
def State.layerGrants (s : State) (flips : List (Fin 8)) : Vector Bool 8 :=
  Vector.ofFn (fun k =>
    let b := s.boundaryBases (flips.contains k) k
    !s.symLayer k || (!s.on Reg.SAFE_STATUS_SYM_INHIBIT && s.layerGranted k b.1 b.2))

/-- What the guard of boundary `b` takes up (R57 to R60, R344): each armed layer, and with a commit each layer that it changes, flips where it
is ready and its flip group with it, and else is deferred. Once the guard of the boundary has passed, the grants that it fixed stand for the
layers that do not flip (R344). -/
def State.layerPlan (s : State) (b : Nat) (now commit : Bool) (armed : List (Fin 8)) : State :=
  let wanted := (List.finRange 8).filter (fun k => (armed.contains k || (commit && s.layerChanged k)) && !s.layer.failed[k])
  let bad := wanted.filter (fun k => !s.layerReady k)
  let group (k : Fin 8) : Nat := s.rd (Reg.LAYER_L_CTRL_FLIP_GROUP k)
  let defer := wanted.filter (fun k => bad.contains k || (group k != 0 && bad.any (fun j => group j == group k)))
  let flips := wanted.filter (fun k => !defer.contains k)
  let fixed := if now || decide (s.ft.guard ≤ b) then none else s.layer.plans.reverse.find? (fun q => !q.now && q.boundary == b)
  let grants := s.layerGrants flips
  let p : LayerPlan := { boundary := b, now := now, commit := commit, sets := flips.map (fun (k : Fin 8) => (k.val, s.snap (layerFields k)))
                         defer := defer.map Fin.val
                         granted := match fixed with
                           | none => grants
                           | some q => Vector.ofFn (fun (k : Fin 8) => if flips.contains k then grants[k] else q.granted[k]) }
  let s := defer.foldl (fun s k => s.wr (Reg.LAYER_STATUS_ARMED k) 1) s
  s.setLayer { s.layer with plans := s.layer.plans ++ [p] }

/-- The guard of LAYER for boundary `b` (R57 to R60, R65, R344): the commit is checked, and every requested or armed flip is taken up or
deferred. A commit that is rejected defers nothing: the armed layers are tested as at a boundary without one, so that one that is ready
flips by R59, and "nothing goes live" of the Hard cases is read of the rejected commit alone (DESIGN CHOICE; log entry 49). -/
def State.layerCapture (s : State) (b : Nat) (now : Bool) : State :=
  let commit := s.on Reg.LAYER_CTRL_COMMIT && !(s.layer.plans.any (·.commit))
  let fault := if commit then s.layerFault else none
  let armed := (List.finRange 8).filter (fun (k : Fin 8) => s.armed k && !(s.layer.plans.any (fun p => p.sets.any (fun x => x.1 == k.val))))
  match fault with
  | some (k, c) =>
    let s := (s.rejectCommit Reg.LAYER_CTRL_COMMIT Reg.LAYER_COMMIT_ERR_CODE c 6).wr Reg.LAYER_COMMIT_ERR_LAYER k
    let s := if c = 8 then s.wr (Reg.LAYER_L_WARP_STATUS_CHK_CODE k) 2 else s
    s.layerPlan b now false armed
  | none => s.layerPlan b now commit armed

/-- A flip goes live (R61 to R63): its table block is copied where it has changed, and its previous slots wait for the agent. -/
def State.layerFlip (s : State) (x : Nat × List (Fld × Nat)) : State :=
  let k : Fin 8 := Fin.ofNat 8 x.1
  let old := s.layerSlots true k
  let tbl := s.layerTbl true k
  let s := s.applySet x.2
  let shown := s.lv (Reg.LAYER_L_CTRL_ENABLE k) == 1
  let table := if shown then (if s.layerTbl true k ≠ tbl ∨ s.layer.table[k] = [] then s.bytes (s.layerTbl true k) tableBytes else s.layer.table[k])
    else if s.layerTbl true k ≠ tbl then [] else s.layer.table[k]
  let s := s.setLayer { s.layer with
    table := s.layer.table.set k table, passed := s.layer.passed.set k false, staleSeen := s.layer.staleSeen.set k false,
    retire := s.layer.retire ++ old.filter (fun n => !s.layer.retire.contains n) }
  let s := (s.wr (Reg.LAYER_L_DEFER_CONSEC k) 0).disarm k
  if !shown then s
  else s.wrB (Reg.LAYER_STATUS_LIVE k) (!s.fromMask true k || s.maskin.taken)

/-- A boundary at which layer `k` stays deferred (R60). -/
def State.layerDeferred (s : State) (k : Fin 8) : State :=
  if !s.armed k then s
  else
    let s := (s.inc (Reg.LAYER_L_DEFER_TOTAL k)).inc (Reg.LAYER_L_DEFER_CONSEC k)
    let lim := s.rd Reg.LAYER_STALE_MAX_MAX
    if lim ≠ 0 ∧ lim ≤ s.rd (Reg.LAYER_L_DEFER_CONSEC k) ∧ s.layer.staleSeen[k] = false then
      ((s.setLayer { s.layer with staleSeen := s.layer.staleSeen.set k true }).wr (Reg.LAYER_STATUS_STALE k) 1).fire 7
    else s

/-- What a guard fixed to go live is carried out (R5, R58, R59, R344). -/
def State.layerApply (s : State) (p : LayerPlan) : State :=
  let s := p.sets.foldl State.layerFlip s
  let s := s.setLayer { s.layer with granted := p.granted }
  if p.commit then s.wr Reg.LAYER_CTRL_COMMIT 0 else s

/-- The plans that `sel` selects are carried out at one boundary, oldest first; then each layer that stays deferred counts that boundary, once
(R60). -/
def State.layerLive (s : State) (sel : LayerPlan → Bool) : State :=
  let ps := s.layer.plans.filter sel
  let t := ps.foldl State.layerApply (s.setLayer { s.layer with plans := s.layer.plans.filter (fun p => !sel p) })
  t.forFin fun (k : Fin 8) t => if ps.any (fun p => !p.now && p.defer.contains k.val) then t.layerDeferred k else t

/-- While frame timing is off, the armed layers are tested again (R7). -/
def State.layerRetest (s : State) : State :=
  if !s.on Reg.FT_STATUS_RUN && (List.range 8).any s.armed then s.layerCapture 0 true else s

/-- What is captured and not live is discarded (spec/06 R141). -/
def State.layerDiscard (s : State) : State :=
  let c := s.layer.plans.any (·.commit)
  let s := s.setLayer { s.layer with plans := [] }
  if c then s.wr Reg.LAYER_CTRL_COMMIT 0 else s

/-- SCANOUT's agent hands on the slots of a list that nothing references, and keeps the others (R62, R122). -/
def State.agentHandsAll (s : State) (ns : List Nat) : State × List Nat :=
  let next := if s.on Reg.LAYER_RETIRE_TO_OWNER then 2 else 0
  ns.foldl (fun (r : State × List Nat) n =>
    if r.1.slotOwner n ≠ 4 then r
    else if r.1.referenced n then (r.1, r.2 ++ [n])
    else (r.1.agentHands n next, r.2)) (s, [])

/-- The retires that wait and whose slots nothing references are handed over (spec/17 R407). -/
def State.retireHandover (s : State) : State :=
  let t := s.win.retire.foldl (fun (t : State) r => if t.slotOwner r.1 = 4 ∧ t.referenced r.1 = false then t.agentHands r.1 r.2 else t) s
  if t.win.retire = s.win.retire then s else t.layerRetest

end Sys2Proof.Machine
end

