-- ==== Sys2Proof/Machine/SaOps.lean ====
section
/-! DEFINITION. The operations of the Stage Array that other blocks use: commits, bank switches, fences, the drive tables' slots
(spec/02_stage_array.md R38 to R47; spec/05_drive_codes.md R111, R121 to R124). -/

namespace Sys2Proof.Machine

/-- The C fields of the SA (R49, R125). -/
def saFields : List Fld :=
  [Reg.SA_BANK_SEL_NEXT_BANK, Reg.SA_BANK_SEL_SWITCH_MODE, Reg.SA_DRV_CTRL_HEAL_EN, Reg.SA_DRV_CTRL_THERM_EN, Reg.SA_DRV_CTRL_POSTLUT_EN,
   Reg.SA_DRV_CTRL_DITHER_EN, Reg.SA_DRV_CTRL_TAP_SEL, Reg.SA_DRV_CTRL_WB_EN, Reg.SA_DRV_CTRL_ZFLOOR, Reg.SA_DRV_TBL_LO_ADDR,
   Reg.SA_DRV_TBL_HI_ADDR_HI]

/-- The Stage Array's own state replaced. -/
def State.setSa (s : State) (x : Sa) : State := { s with sa := x }

/-- The extent lies wholly in usable DRAM outside the stage window (R111, R120). -/
def State.dramOutside (s : State) (a n : Nat) : Bool :=
  decide (dramBase ≤ a ∧ a + n ≤ dramBase + usableDram s.part.density) && !s.inWindow a n

/-- Mode, port map and zone grid of two images are equal (R38, R47). Grid entries of absent tiles are not used (R31). -/
def sameRaster (a b : Image) : Bool :=
  a.mode == b.mode && a.portMap == b.portMap && a.tiles.all (fun t => slice a.zoneGrid (16 * t) 16 == slice b.zoneGrid (16 * t) 16)

/-- The known-answer line runs (R42). -/
def State.kalOn (s : State) : Bool := s.part.safeCapable || s.on Reg.SA_CTRL_KAL_EN

/-! Commits. -/

/-- The bank that the shadow set switches to, none where it keeps the active bank or no bank is active (R38, R124). -/
def State.nextBank (s : State) : Option Nat :=
  if s.anyBank && s.rd Reg.SA_BANK_SEL_NEXT_BANK != s.active then some (s.rd Reg.SA_BANK_SEL_NEXT_BANK) else none

/-- The first code of R38 for a switch to bank `b`, 0 for none. -/
def State.switchCode (s : State) (b : Nat) : Nat :=
  if (s.sa.load.map Load.bank) = some b then 2
  else match s.bankImage b, s.image with
    | some n, some o =>
      if !s.quadsOn n then 3
      else if s.on Reg.FT_STATUS_RUN && s.rd Reg.SA_BANK_SEL_SWITCH_MODE == 0 && n.passACells.any (fun c => o.passBCells.contains c) then 4
      else if s.blockOn 0x200A0000 && !sameRaster n o then 5
      else if s.fencedIn n then 6 else 0
    | _, _ => 1

/-- The first code of R124 for the SA_DRV shadow set, the geometry being that of the bank active after the commit; 0 for none.
The write-back region that code 0x14 tests is DEPTH buffers of that geometry and the shadow TAP_SEL (DESIGN CHOICE; log entry 48). -/
def State.drvCode (s : State) : Nat :=
  let m := ((match s.nextBank with | some b => s.bankImage b | none => s.image).map Image.info).getD ⟨512, 512, 120, 11520, 16⟩
  let n := 0x20000 + 12 * m.w * m.h
  let a := s.drvTbl false
  let wb := s.rd Reg.SA_DRV_WB_HI_ADDR_HI <<< 32 ||| s.rd Reg.SA_DRV_WB_LO_ADDR <<< 20
  let tap := s.rd Reg.SA_DRV_CTRL_TAP_SEL
  let bytes := max 2 (min 4 (s.rd Reg.SA_DRV_WB_HI_DEPTH)) * (4096 + 12 * m.w * m.h * (if tap = 0 then 2 else 4))
  if !inSram a n && !s.inOneSlot a n then 0x11
  else if !inSram a n && !s.scanoutOwns a n then 0x12
  else if tap = 3 then 0x13
  else if s.on Reg.SA_DRV_CTRL_WB_EN && !s.dramOutside wb bytes then 0x14 else 0

/-- The code with which an SA commit is rejected, 0 where it is not (R38, R124). -/
def State.saCode (s : State) : Nat :=
  let c := match s.nextBank with
    | some b => s.switchCode b
    | none => 0
  if c ≠ 0 then c else s.drvCode

/-- Ports that the active bank does not map leave, and every tile lane's state follows (R21, R202). -/
def State.unmapPorts (s : State) : State :=
  s.forFin fun (p : Fin 12) s =>
    let s := if !s.isMapped p && s.tlState p != 0 then s.tlLeave p 0 else s
    s.showLane (tlLane p)

/-- A layer that is armed waits for no walk any more: the active bank does not compose it (spec/00_scope.md R7, spec/04 R91). -/
def State.armedUnwalked (s : State) : Bool :=
  (List.range 8).any (fun k => s.armed k && s.rd (Reg.LAYER_L_CTRL_ENABLE k) == 1 && !(s.image.map (fun i => i.composes k)).getD false)

/-- A bank switch takes effect (R39 to R41): ports that the new bank does not map leave, the layers are checked against it (spec/04 R95), and
the health map is read on its geometry (spec/09 R226, R229).
With a frame in flight the old bank's pass B runs on until the next boundary. -/
def State.saSwitch (s : State) (b : Nat) (inFlight : Bool) : State :=
  let old := s.active
  let s := s.switchTo b
  let s := s.setSa { s.sa with old := if inFlight then some old else none, switch := none, fallback := none }
  let s := s.unmapPorts.layerSwitched
  let s := if s.on Reg.HLTH_STATUS_RUN then s.surveyAll else s
  let s := s.calBroken
  if s.armedUnwalked then s.layerRetest else s

/-- The SA's commit guard for boundary `b` (R6, R8, R38, R124). With frame timing off a switch is applied at once (R7). -/
def State.saCapture (s : State) (b : Nat) (now : Bool) : State :=
  if !s.on Reg.SA_CTRL_COMMIT || s.sa.cap.isSome then s
  else if s.saCode ≠ 0 then s.rejectCommit Reg.SA_CTRL_COMMIT Reg.SA_COMMIT_ERR_CODE s.saCode 12
  else
    let next := s.nextBank
    let s := s.setSa { s.sa with cap := some { boundary := b, now := now, set := s.snap saFields } }
    match next with
    | none => s
    | some n =>
      if now then s.saSwitch n false
      else (s.setSa { s.sa with switch := some { bank := n, hold := s.on Reg.SA_BANK_SEL_SWITCH_MODE } }).wr Reg.SA_STATUS_SWITCH_PEND 1

/-- The POSTLUT tables of the live drive table set (R101, R121). -/
def State.loadLut (s : State) : State :=
  let seen := s.drvSeen
  let t (c : Nat) : List Nat := (List.range 4097).map (fun j => s.drvNum seen (0x100 + c * 0x4040 + 4 * j) 4)
  let s := s.drvOver
  s.setSa { s.sa with lutDue := false, lut := Vector.ofFn (fun (c : Fin 4) => t c) }

/-- A captured SA set goes live (R5, R121, R122). With frame timing off nothing is in flight: the tables load, and the old drive table's slot
may go on at once. -/
def State.saLive (s : State) : State :=
  match s.sa.cap with
  | none => s
  | some c =>
    let tbl := s.drvTbl true
    let old := s.slotsOf tbl 1
    let wb := s.lv Reg.SA_DRV_CTRL_WB_EN
    let s := (({ s with sa := { s.sa with cap := none } }.applySet c.set).wr Reg.SA_CTRL_COMMIT 0)
    let s := if wb = 0 ∧ s.lv Reg.SA_DRV_CTRL_WB_EN = 1 then s.wr Reg.SA_DRV_STATUS_WB_VALID 0 else s
    let left := if s.drvTbl true = tbl then [] else old
    if s.on Reg.FT_STATUS_RUN then
      s.setSa { s.sa with lutDue := true, retire := s.sa.retire ++ left }
    else (s.setSa { s.sa with retireNow := s.sa.retireNow ++ left }).loadLut

/-- What the SA has captured and is not live is discarded (spec/06 R141). -/
def State.saDiscard (s : State) : State :=
  if s.sa.cap.isSome then
    ((s.setSa { s.sa with cap := none, switch := none }).wr Reg.SA_CTRL_COMMIT 0).wr Reg.SA_STATUS_SWITCH_PEND 0
  else s

/-! The data memory of a cell (R45). -/

/-- The cell belongs to the instance that carries kernel `k` for layer `l`: one of its own, or else that of a carrier (R499). -/
def Image.carries (i : Image) (k l c : Nat) : Bool :=
  let e := i.cells.getD c {}
  e.layer == l && (e.kernel == k || ((instanceCells i.cells k l).isEmpty && (carriable e.kernel).contains k))

/-- The tables in the data memory of a cell hold `v` of their entry's number: 8,192 for each layer's tables, then 8,192 for each POSTLUT
table. The model holds one copy of a gang's tables, so that what happens to the memory of one of its cells happens to the copy (R45; DESIGN
CHOICE, log entry 49). -/
def State.cellHolds (s : State) (c : Nat) (v : Nat → Nat) : State :=
  let byte (k j : Nat) : Byte := BitVec.ofNat 8 (v (8192 * k + j))
  let s := match s.image with
    | none => s
    | some i => s.setLayer { s.layer with table := Vector.ofFn (fun (k : Fin 8) =>
        let t := s.layer.table[k]
        let pal := if i.carries 0x02 k c then (List.range (min 1024 t.length)).map (byte k) else t.take 1024
        let pre := if i.carries 0x03 k c then (List.range (t.length - 1024)).map (fun j => byte k (1024 + j)) else t.drop 1024
        pal ++ pre) }
  match s.imageB with
  | none => s
  | some i =>
    if i.carries 0x31 0xFF c then
      s.setSa { s.sa with lut := Vector.ofFn (fun (k : Fin 4) => (List.range s.sa.lut[k].length).map (fun j => v (8192 * (8 + k) + j))) }
    else s

/-- The tables in the data memory of a cell are destroyed: each entry becomes a free value (log entry 4). -/
def State.cellLost (s : State) (c : Nat) : State :=
  let n := s.freeCtr
  { s with freeCtr := n + 1 }.cellHolds c (Config.freeCell n)

/-- The data memories of the cells of quadrant `q` are wiped to zero (spec/19 R436, R442, R450). With no active bank, no cell holds a table
that anything reads. -/
def State.wipeQuad (s : State) (q : Nat) : State :=
  if s.image.isNone && s.imageB.isNone then
    (s.setLayer { s.layer with table := .replicate 8 [] }).setSa { s.sa with lut := .replicate 4 [] }
  else (List.range 32).foldl (fun s c => s.cellHolds (32 * q + c) (fun _ => 0)) s

/-! Fences (R47). -/

/-- The SA stops: EN reads 0 and every mapped port enters SILENT. -/
def State.saHalt (s : State) : State :=
  let s := ((s.setSa { s.sa with stopWait := false, fallback := none }).wr Reg.SA_CTRL_EN 0).wr Reg.SA_STATUS_RUN 0
  let s := (s.wr Reg.SA_STATUS_STOPPED 1).wrB Reg.SA_STATUS_SWITCH_PEND s.sa.switch.isSome
  s.forFin fun (p : Fin 12) s => if s.isMapped p then s.tlSilence p else s

/-- The inactive bank is one that automatic fallback may select. -/
def State.fallbackOk (s : State) : Bool :=
  match s.bankImage (1 - s.active), s.image with
  | some n, some o => s.on Reg.SA_CTRL_AUTO_FALLBACK && !s.fencedIn n && s.quadsOn n && sameRaster n o
  | _, _ => false

/-- A cell has been fenced: with the SA enabled and a cell of the active bank fenced, the SA falls back or stops, at a boundary or, with frame
timing off, at once. A fallback that waits and can no longer be made becomes a stop at the next boundary. -/
def State.saFenced (s : State) : State :=
  match s.image with
  | none => s
  | some i =>
    if !s.on Reg.SA_CTRL_EN || !s.fencedIn i || s.sa.stopWait || (s.sa.fallback.isSome && s.fallbackOk) then s
    else if s.fallbackOk then
      if s.on Reg.FT_STATUS_RUN then (s.setSa { s.sa with fallback := some (1 - s.active, none) }).wr Reg.SA_STATUS_SWITCH_PEND 1
      else s.saSwitch (1 - s.active) false
    else if s.on Reg.FT_STATUS_RUN then
      (s.setSa { s.sa with stopWait := true, fallback := none }).wrB Reg.SA_STATUS_SWITCH_PEND s.sa.switch.isSome
    else s.saHalt

/-- A fallback or a stop that waits is applied at once: RUN has cleared. -/
def State.saFencedNow (s : State) : State :=
  if s.sa.stopWait then s.saHalt
  else match s.sa.fallback with
    | none => s
    | some f => if s.fallbackOk then s.saSwitch f.1 false else s.saHalt

end Sys2Proof.Machine
end

