-- ==== Sys2Proof/Machine/Tl.lean ====
section
/-! DEFINITION. The commands of the tile link (spec/07_onvik_tile_link.md R147 to R194). A packet that arrives is given as its header
and payload. -/

namespace Sys2Proof.Machine

/-- TL_ENABLE (R153, R194): a set trains the port if it is mapped; a clear while STREAMING is ignored and sets WERR. -/
def execTlEnable (p : Fin 12) (m : Master) (v : Word) (s : State) : Res :=
  .next (s.busWrite m (tlAddr p) v fun s =>
    if v.toNat.testBit 0 then
      if s.on (Reg.TL_CTRL_EN p) then s else ((s.wr (Reg.TL_CTRL_EN p) 1).showLane (tlLane p)).tlTrain p
    else if s.tlState p = 3 then s.werr (tlAddr p)
    else if !s.on (Reg.TL_CTRL_EN p) then s
    else (s.wr (Reg.TL_CTRL_EN p) 0).tlLeave p 0)

/-- TL_RETRAIN: the port drops to DOWN and trains again (R194). -/
def execTlRetrain (p : Fin 12) (m : Master) (v : Word) (s : State) : Res :=
  .next (s.busWrite m (tlAddr p) v fun s =>
    if !v.toNat.testBit 1 || !s.on (Reg.TL_CTRL_EN p) then s
    else
      ((s.setPort p { s.port p with mismatch := false }).tlLeave p 0).tlTrain p)

/-- TRAINING_CAPS_SEND: the PX2's CAPS (R153 step 2, R154). -/
def execTrainingCapsSend (p : Fin 12) (s : State) : Res :=
  .next (
    if s.tlState p = 1 ∧ (s.port p).train = .caps then
      s.tlSend p 0x01 0 0 (leBytes 1 (if s.on (Reg.TL_CTRL_V2_EN p) then 0x20 else 0x10) ++ [3] ++ leBytes 1 p ++ List.replicate 61 0)
    else s)

/-- What a discarded upstream packet counts, whatever the port's state (R189). -/
def State.tlDrop (s : State) (p : Fin 12) : State := s.inc (Reg.TL_CNT0_DROP p)

/-- An upstream packet's payload where its type is `type`, its direction and its length right (R149, R150, R189). -/
def tlPayload (type : Nat) (lenOk : Nat → Bool) (data : List Byte) : Option (List Byte) :=
  let n := leAt data 2 2
  if byteAt data 0 = type ∧ byteAt data 1 % 2 = 1 ∧ data.length = n + 8 ∧ lenOk n then some (data.drop 8) else none

/-- A packet that arrives reaches port `p` (spec/08 R209): one from the tile, or under LOOPBACK one of its own. -/
def State.tlReaches (s : State) (p : Fin 12) (data : List Byte) : Bool := s.laneReaches (tlLane p) (s.port p).out data

/-- The registers that show the tile's CAPS (R194). -/
def State.showCaps (s : State) (p : Fin 12) (c : List Byte) : State :=
  let s := ((s.wr (Reg.TL_TILE_GEOM_WIDTH p) (leAt c 2 2)).wr (Reg.TL_TILE_GEOM_HEIGHT p) (leAt c 4 2)).wr (Reg.TL_TILE_ID_VENDOR p) (leAt c 40 2)
  let s := ((s.wr (Reg.TL_TILE_ID_PRODUCT p) (leAt c 42 2)).wr (Reg.TL_TILE_LAT_PS p) (leAt c 24 4)).wr (Reg.TL_TILE_TURN_PS p) (leAt c 28 4)
  let s := (s.wr (Reg.TL_HL_CRC_CRC p) (leAt c 20 4)).wr (Reg.TL_STATUS_HL_VALID p) (bits (byteAt c 19) 0 1)
  s.setPort p { s.port p with caps := c }

/-- The first code of R156 that a tile's CAPS meets at step 3, 0 for none. -/
def State.capsCode (s : State) (p : Fin 12) : Nat :=
  let c := (s.port p).caps
  if byteAt c 0 < 0x10 ∨ byteAt c 1 % 2 = 0 then 2
  else
    let g := s.tlGeometry p
    if g ≠ 0 then g
    else if byteAt c 18 < 2 ∨ 1200000 < leAt c 24 4 ∨ 2000000 < leAt c 28 4 then 5 else 0

/-- A tile's CAPS is checked, and the version and the rate are fixed (R153 steps 3 and 4, R155, R156). -/
def State.tlCheck (s : State) (p : Fin 12) (c : List Byte) : State :=
  let code := s.capsCode p
  if code ≠ 0 then s.tlFail p code
  else
    let own := if s.on (Reg.TL_CTRL_V2_EN p) then 0x20 else 0x10
    let s := s.wr (Reg.TL_STATUS_VER p) (if min own (byteAt c 0) < 0x20 then 1 else 2)
    if (byteAt c 1).testBit 1 && s.on (Reg.TL_CTRL_RATE_MAX p) then
      let s := (s.wr (Reg.LANE_STATUS_RATE p) 1).laneUnlock (tlLane p)
      (s.setPort p { s.port p with train := .relock }).laneState (tlLane p) 3
    else s.setPort p { s.port p with train := .probe }

/-- CAPS_RX (R153 steps 2 to 4, R155, R156). A CAPS of a wrong length ends training with code 0x01; an unasked one drops the port (R190). Any
other, such as one sent again on a relock, is shown (R194). -/
def execCapsRx (p : Fin 12) (data : List Byte) (s : State) : Res :=
  .next (
    let asked := decide (s.tlState p = 1 ∧ (s.port p).train = .caps)
    if !s.tlReaches p data then s
    else match tlPayload 0x01 (· == 64) data with
      | none => if asked ∧ byteAt data 0 = 0x01 ∧ leAt data 2 2 ≠ 64 then (s.tlDrop p).tlFail p 1 else s.tlDrop p
      | some c =>
        if asked then (s.showCaps p c).tlCheck p c
        else if s.tlUp p then (s.showCaps p c).tlLost p
        else if s.tlHears p then s.showCaps p c else s)

/-- CAPS_TIMEOUT: code 0x01 (R156). -/
def execCapsTimeout (p : Fin 12) (s : State) : Res :=
  .next (if s.tlState p = 1 ∧ (s.port p).train = .caps then s.tlFail p 1 else s)

/-- RATE_RELOCK (R153 step 4): at 6.4 Gb/s with CDR lock, block lock and the openings `eye` of the last window of its adaptation, whose score is
at least EYE_MIN (spec/08 R205, R208), or after a failure again at 3.2 Gb/s with code 0x06 recorded (R156). -/
def execRateRelock (p : Fin 12) (eye : Option (Fin 65 × Fin 65)) (s : State) : Res :=
  .next (
    if s.tlState p ≠ 1 ∨ (s.port p).train ≠ .relock then s
    else
    let s := match eye with
      | some e => s.showEye (tlLane p) e.1 e.2
      | none => s
    if eye.isSome ∧ s.rd (Reg.LANE_THRESH_EYE_MIN p) ≤ s.rd (Reg.LANE_EYE_SCORE p) then
      let s := ((s.wr (Reg.TL_STATUS_RATE p) 1).wr (Reg.LANE_STATUS_CDR_LOCK p) 1).wr (Reg.LANE_STATUS_BLOCK_LOCK p) 1
      ((s.setPort p { s.port p with train := .probe }).wr (Reg.LANE_CTRL_ADAPT p) 0).laneState (tlLane p) 5
    else
      let s := ((s.wr (Reg.TL_TRAIN_ERR_CODE p) 6).fire (17 + 2 * p)).wr (Reg.LANE_STATUS_RATE p) 0
      let s := s.laneUnlock (tlLane p)
      (s.setPort p { s.port p with train := .relockSlow }).laneState (tlLane p) 3)

/-- The average of eight round trips in UI, rounded to the nearest (R158). -/
def meanRtt (rtt : List Nat) : Nat := (rtt.foldl (· + ·) 0 + 4) / 8

/-- d_k in units of 1/128 ns, of a round trip in the same units, TURN and LAT in ps (R158). -/
def latchDelay (rt turn lat : Nat) (trim : Int) : Nat :=
  sat0 (2 ^ 18 - 1) ((125 * (rt : Int) - 16 * turn + 32 * lat + 250 * trim + 125) / 250)

/-- d_k of a port from its registers (R158). -/
def State.dkOf (s : State) (p : Fin 12) : Nat :=
  latchDelay (s.rd (Reg.TL_RTT_RT p)) (s.rd (Reg.TL_TILE_TURN_PS p)) (s.rd (Reg.TL_TILE_LAT_PS p)) (signed 16 (s.rd (Reg.TL_TRIM_TRIM p)))

/-- Eight probes leave, with IDs 0 to 7, and their average round trip is kept (R157, R158). One UI is 20/128 ns at 6.4 Gb/s and twice that at
3.2 Gb/s. -/
def State.tlProbe (s : State) (p : Fin 12) (rtt : List Nat) : State :=
  let s := (List.range 8).foldl (fun s i => s.tlSend p 0x3F 0x10 0 (leBytes 2 i ++ [0, 0])) s
  s.wr (Reg.TL_RTT_RT p) (min (2 ^ 24 - 1) (meanRtt rtt * (if s.on (Reg.TL_STATUS_RATE p) then 20 else 40)))

/-- LATENCY_PROBE_SET (R153 steps 5 and 6, R158): d_k, code 0x05 where it is above 1.6 µs, else CONFIG. -/
def execLatencyProbeSet (p : Fin 12) (rtt : List Nat) (s : State) : Res :=
  .next (
    if s.tlState p ≠ 1 ∨ (s.port p).train ≠ .probe then s
    else
      let s := s.tlProbe p rtt
      let d := s.dkOf p
      let s := s.wr (Reg.TL_LATDLY_DK p) d
      if 204800 < d then s.tlFail p 5
      else (s.setPort p { s.port p with train := .config, cfgOk := true }).tlConfig p)

/-- PERIODIC_PROBE (R158): the new round trip acts when the next boundary instant is fixed. -/
def execPeriodicProbe (p : Fin 12) (rtt : List Nat) (s : State) : Res := .next (if s.tlUp p then s.tlProbe p rtt else s)

/-- CONFIG_OK_TIMEOUT: code 0x08 (R156). -/
def execConfigOkTimeout (p : Fin 12) (s : State) : Res :=
  .next (if s.tlState p = 1 ∧ (s.port p).train = .config then s.tlFail p 8 else s)

/-- TL_CLAIM: EPOCH with TL_EPOCH (R188). -/
def execTlClaim (p : Fin 12) (m : Master) (v : Word) (s : State) : Res :=
  .next (s.busWrite m (tlAddr p) v fun s => if v.toNat.testBit 8 then s.tlClaim p else s)

/-- TL_FENCE (R191). -/
def execTlFence (p : Fin 12) (m : Master) (v : Word) (s : State) : Res :=
  .next (s.busWrite m (tlAddr p) v fun s => if v.toNat.testBit 9 then s.tlFence p else s)

/-! House-light uploads. -/

/-- One packet of an upload leaves, unless the transmitter drops FALLBACK (spec/18 R426). -/
def State.fbSend (s : State) (p : Fin 12) (payload : List Byte) : State := if s.txMuted then s else s.tlSend p 0x30 0 0 payload

/-- FB_START (R183, R184): taken only while READY and owning the tile. An image outside readable memory is a bus error, and the upload
fails. -/
def execFbStart (p : Fin 12) (m : Master) (v : Word) (s : State) : Res :=
  .next (s.busWrite m (tlAddr p) v fun s =>
    if !v.toNat.testBit 7 then s
    else if s.on (Reg.TL_CTRL_FB_START p) then s
    else if s.tlState p ≠ 2 ∨ !s.on (Reg.TL_STATUS_OWNED p) then s.werr (tlAddr p)
    else
      let a := s.rd (Reg.TL_FB_HI_ADDR_HI p) <<< 32 ||| s.rd (Reg.TL_FB_LO_ADDR p) <<< 6
      let w := s.rd (Reg.TL_TILE_GEOM_WIDTH p)
      let h := s.rd (Reg.TL_TILE_GEOM_HEIGHT p)
      match s.badAt a (64 + 2 * w * h) with
      | some b => ((s.readErr .other b).wr (Reg.TL_STATUS_FB_ERR p) 1).fire (16 + 2 * p)
      | none =>
        let z := s.bytes a 16
        let line := fun k => s.bytes (a + 64 + 2 * w * k) (2 * w)
        let crc := crc32c (z ++ (List.range h).flatMap line)
        let t := s.fbSend p ([0, 0, 0, 0] ++ z ++ leBytes 4 crc)
        let t := (List.range h).foldl (fun t k => t.fbSend p ([1, 0] ++ leBytes 2 k ++ line k)) t
        let t := t.fbSend p [2, 0, 0, 0]
        (t.setPort p { t.port p with fb := some crc }).wr (Reg.TL_CTRL_FB_START p) 1)

/-- An upload ends (R184, R192). -/
def State.fbEnd (s : State) (p : Fin 12) (ok : Bool) : State :=
  let s := s.setPort p { s.port p with fb := none }
  ((s.wr (Reg.TL_CTRL_FB_START p) 0).wr (if ok then Reg.TL_STATUS_FB_DONE p else Reg.TL_STATUS_FB_ERR p) 1).fire (16 + 2 * p)

/-- FB_REPLY_RX (R183, R184, R194): TL_HL_CRC follows an ACK, and an upload that waits is done where the ACK carries its HL_CRC. -/
def execFbReplyRx (p : Fin 12) (data : List Byte) (s : State) : Res :=
  .next (
    if !s.tlReaches p data then s
    else match tlPayload 0x30 (· == 12) data with
      | none => s.tlDrop p
      | some d =>
        let sub := byteAt d 0
        if sub ≠ 0x80 ∧ sub ≠ 0x81 then s.tlDrop p
        else if !s.tlHears p then s
        else
          let s := if sub = 0x80 then s.wr (Reg.TL_HL_CRC_CRC p) (leAt d 4 4) else s
          match (s.port p).fb with
          | none => s
          | some crc => s.fbEnd p (decide (sub = 0x80 ∧ leAt d 4 4 = crc)))

/-- FB_TIMEOUT (R184). -/
def execFbTimeout (p : Fin 12) (s : State) : Res := .next (if (s.port p).fb.isSome then s.fbEnd p false else s)

/-! Upstream packets. -/

/-- The TL_HLTH, TL_HEADROOM and TL_TEMP registers, and what TL_STATUS shows of the tile, follow an accepted HEALTH (R179, R194). -/
def State.showHealth (s : State) (p : Fin 12) (d : List Byte) : State :=
  let st := byteAt d 8
  let s := ((s.wr (Reg.TL_HLTH_FRAME_FRAME_NO p) (leAt d 0 4)).wr (Reg.TL_HLTH_STAT_STATUS p) st).wr (Reg.TL_HLTH_STAT_CAP_Z p) (byteAt d 12)
  let s := s.wr (Reg.TL_HLTH_STAT_CAP_SEQ p) (leAt d 10 2)
  let s := (List.range 16).foldl (fun s i => s.wr (Reg.TL_HEADROOM p i) (byteAt d (16 + i))) s
  let s := (List.range 8).foldl (fun s i => s.wr (Reg.TL_TEMP p i) (leAt d (32 + 2 * i) 2)) s
  let s := (s.wr (Reg.TL_STATUS_HOUSE p) (bits st 0 1)).wr (Reg.TL_STATUS_HL_VALID p) (bits st 5 1)
  let s := s.wrB (Reg.TL_STATUS_OWNED p) (bits st 1 1 == bits (byteAt (s.port p).caps 19) 1 1)
  let s := if st.testBit 2 then s.inc (Reg.TL_CNT1_LATCH_MISS p) else s
  s.setPort p { s.port p with epoch := leAt d 52 3, seen := some (leAt d 0 4) }

/-- The acknowledgement of a CAP (R172, R173). -/
def State.takeCapAck (s : State) (p : Fin 12) (seq : Nat) : State :=
  let s := s.wr (Reg.TL_CAP_ACK_SEQ p) seq
  if seq = s.rd (Reg.TL_CAP_SENT_SEQ p) then s.setPort p { s.port p with capWait := false } else s

/-- ECHO_ERR and FLT_TL_ECHO (R180, R192). -/
def State.echoError (s : State) (p : Fin 12) : State :=
  ((s.wr (Reg.TL_STATUS_ECHO_ERR p) 1).fire (17 + 2 * p)).raise FLT_TL_ECHO (tlAddr p) (some p)

/-- The echo of a HEALTH on the owning port (R180). One that comes before the boundary after the latch of its frame ends a run of misses. -/
def State.takeEcho (s : State) (p : Fin 12) (frame echo : Nat) : State :=
  if !s.on (Reg.TL_STATUS_OWNED p) then s
  else match (s.port p).echo.find? (fun e => e.1 == frame) with
    | none => s
    | some e =>
      let s := if s.ft.await = some frame then s.setPort p { s.port p with miss := 0 } else s
      if e.2 = echo then s else s.echoError p

/-- HEALTH_RX (R153 steps 6 to 8, R173, R178 to R180). -/
def execHealthRx (p : Fin 12) (data : List Byte) (s : State) : Res :=
  .next (
    let training := decide (s.tlState p = 1 ∧ (s.port p).train = .config)
    if !s.tlReaches p data then s
    else match tlPayload 0x22 (· == 64) data with
      | none => s.tlDrop p
      | some d =>
        if !s.tlHears p || (s.tlState p == 1 && !training) then s
        else
        let s := (s.showHealth p d).takeCapAck p (leAt d 10 2)
        let s := s.takeEcho p (leAt d 0 4) (leAt d 4 4)
        let owner := s.on (Reg.TL_STATUS_OWNED p)
        let s := (s.lscHealth p d owner).calHealth p d
        let s := match s.image.bind (fun i => i.tileOf p) with
          | some t => if owner then s.thmHealth (Fin.ofNat 12 t) d else s
          | none => s
        if training && (byteAt d 8).testBit 3 then
          let s := s.setPort p { s.port p with train := .none, cfgOk := false, miss := 0 }
          (if s.leads then s.tlClaim p else s).tlSet p 2
        else s.setPort p { s.port p with cfgOk := (s.port p).cfgOk && !(byteAt d 8).testBit 3 })

/-- DIAG_RET_RX (R177). At version 1.0, or with bulk returns off, a packet of more than 256 codes is not in use (R155). -/
def execDiagRetRx (p : Fin 12) (data : List Byte) (s : State) : Res :=
  .next (
    if !s.tlReaches p data then s
    else
      let most := if s.tlV2 p && s.on (Reg.TL_CTRL_BULK_EN p) then 4096 else 256
      let n := leAt data 14 2
      match tlPayload 0x21 (fun l => decide (1 ≤ n ∧ n ≤ most ∧ l = 8 + (n + 3) / 4 * 4)) data with
      | none => s.tlDrop p
      | some d =>
        let codes := (List.range n).map (fun i => byteAt d (8 + i))
        if !s.tlUp p then s else s.hlthResults p (leAt d 0 4) (leAt d 4 2) codes ((byteAt data 1).testBit 2))

/-- STALE_REPLY_RX (R187, R188): a lead demotes itself on it (spec/18 R432). -/
def execStaleReplyRx (p : Fin 12) (data : List Byte) (s : State) : Res :=
  .next (
    if !s.tlReaches p data then s
    else match tlPayload 0x40 (· == 8) data with
      | none => s.tlDrop p
      | some _ =>
        if !(byteAt data 1).testBit 3 then s.tlDrop p
        else if !s.tlHears p then s
        else
          let s := ((s.wr (Reg.TL_STATUS_STALE p) 1).inc (Reg.TL_CNT2_STALE p)).fire (17 + 2 * p)
          (s.raise FLT_TL_STALE (tlAddr p) (some p)).pairDemote)

/-- CAPACK_TIMEOUT (R173). -/
def execCapackTimeout (p : Fin 12) (s : State) : Res :=
  .next (
    if !(s.port p).capWait then s
    else
      let s := s.setPort p { s.port p with capWait := false }
      ((s.wr (Reg.TL_STATUS_CAPACK_ERR p) 1).fire (17 + 2 * p)).raise FLT_TL_CAPACK (tlAddr p) (some p))

/-- IDLE_KEEPALIVE (R152). -/
def execIdleKeepalive (p : Fin 12) (s : State) : Res := .next (if s.tlUp p then s.tlIdle p else s)

/-- The blocks bring a packet that R189 discards for another reason than its trailer: truncated, of another length than its header gives, of
an unknown type, or downstream. -/
def upstreamBad (blocks : List (BitVec 2 × BitVec 64)) : Bool :=
  match receive none blocks with
  | .nothing => false
  | .truncated => true
  | .packet bs =>
    decide (bs.length < 12) || leAt bs 2 2 + 12 != bs.length || byteAt bs 1 % 2 == 0 || !([0x01, 0x21, 0x22, 0x30, 0x3F, 0x40].contains (byteAt bs 0))

/-- UPSTREAM_PACKET_ERROR (R189; spec/08 R198, R199): the descrambled blocks of a packet that is discarded. More than 16 trailer errors of one
port within one second raise FLT_TL_RXERR; counting then starts anew. -/
def execUpstreamPacketError (p : Fin 12) (blocks : List (BitVec 2 × BitVec 64)) (s : State) : Res :=
  .next (
    if !badTrailer blocks then (if upstreamBad blocks then s.tlDrop p else s)
    else
      let es := s.now :: (s.port p).errors.filter (fun t => decide (s.now < t + 400000000))
      let s := (s.inc (Reg.TL_CNT0_CRC_ERR p)).setPort p { s.port p with errors := if 16 < es.length then [] else es }
      if 16 < es.length then s.raise FLT_TL_RXERR (tlAddr p) (some p) else s)

/-- TL_RX_TIMEOUT (R190). -/
def execTlRxTimeout (p : Fin 12) (s : State) : Res := .next (if s.tlUp p then s.tlLost p else s)

/-- AUTO_RETRAIN_TIMER (R190). -/
def execAutoRetrainTimer (p : Fin 12) (s : State) : Res :=
  .next (
    if s.on (Reg.TL_CTRL_EN p) && s.on (Reg.TL_CTRL_AUTO_RETRAIN p) && (s.tlState p == 0 || s.tlState p == 5) then s.tlTrain p else s)

/-- UPSTREAM_IDLE_RX (R150, R190): accepted; the receive timeout, a fact of TL_RX_TIMEOUT, starts anew. -/
def execUpstreamIdleRx (p : Fin 12) (data : List Byte) (s : State) : Res :=
  .next (if !s.tlReaches p data || (tlPayload 0x3F (· == 4) data).isSome then s else s.tlDrop p)

end Sys2Proof.Machine
end

