-- ==== Sys2Proof/Machine/FtOps.lean ====
section
/-! DEFINITION. The operations of frame timing: the schedule, commit guards, aborts, schedule changes (spec/06_frame_timing.md R126 to
R146). -/

namespace Sys2Proof.Machine

/-- Frame timing's own state replaced. -/
def State.setFt (s : State) (x : Ft) : State := { s with ft := x }
/-- The mode of the running schedule: that of the active bank (R126). -/
def State.info (s : State) : ModeInfo := (s.mode).getD ⟨512, 512, 120, 11520, 16⟩

/-! The schedule (R127). -/

/-- The C fields of FT (R146). -/
def ftFields : List Fld := [Reg.FT_BASE_NS_NS, Reg.FT_BASE_SEC_LO_SEC, Reg.FT_BASE_SEC_HI_SEC_HI]
/-- t_base in ns: live, or its shadow. -/
def State.ftBase (s : State) (live : Bool) : Nat :=
  (s.cf live Reg.FT_BASE_SEC_HI_SEC_HI * 2 ^ 32 + s.cf live Reg.FT_BASE_SEC_LO_SEC) * giga + s.cf live Reg.FT_BASE_NS_NS
/-- T_k in 2.5 ns ticks: the tick nearest to t_base + k × 10^9 / rate, ties to the later (R127). -/
def nominalTick (base rate k : Nat) : Nat := (4 * base * rate + 4 * giga * k + 5 * rate) / (10 * rate)
/-- T_k of the live schedule, in ticks of frame time. -/
def State.ftT (s : State) (k : Nat) : Int := (nominalTick (s.ftBase true) s.info.rate k : Nat)
/-- FRAME_NO of frame `k` (R127). -/
def frameNo (k : Nat) : Nat := k % 2 ^ 32

/-- A t_base places boundary 0 no more than 2^32 × P after the current frame time (R140, R145). -/
def State.baseNear (s : State) (base : Nat) : Bool :=
  decide (((base * s.info.rate * nsUnit : Nat) : Int) - s.frameTime * s.info.rate ≤ ((2 ^ 32 * giga * nsUnit : Nat) : Int))

/-- The smallest n ≥ 0 with T_n no earlier than 2 × L + 10 µs after the current frame time (R140). -/
def State.firstBoundary (s : State) : Nat :=
  let r := s.info.rate
  let q : Int := s.ftTickUp + (2 * s.info.line + 4000 : Nat)
  let lo : Nat := ((5 * (r : Int) * q - 2 * (s.ftBase true * r : Nat)) / (2 * giga) - 1).toNat
  ((List.range 4).find? (fun i => decide (q ≤ s.ftT (lo + i)))).map (lo + ·) |>.getD (lo + 4)

/-- The index that R135 selects for `m` on the schedule as it stands. -/
def State.reindex (s : State) (m : Nat) : Nat :=
  let r := s.info.rate
  let now : Int := s.frameTime * r - ((s.ftBase true * r * nsUnit : Nat) : Int)
  let p : Int := ((giga * nsUnit : Nat) : Int)
  if p < p * m - now ∨ p * (m + 1) ≤ now then
    if now < 0 then m % 2
    else
      let k := (now / p).toNat
      if k % 2 = m % 2 then k else if k = 0 then m % 2 else k - 1
  else m

/-! FT's own commit (R145). -/

/-- The code with which an FT commit is rejected, 0 where it is not. -/
def State.ftCode (s : State) : Nat :=
  if giga ≤ s.rd Reg.FT_BASE_NS_NS then 1
  else if s.image.isSome && s.ftRunning && !s.baseNear (s.ftBase false) then 2 else 0

/-- FT's commit guard for boundary `b` (R6, R8). -/
def State.ftCapture (s : State) (b : Nat) (now : Bool) : State :=
  if !s.on Reg.FT_CTRL_COMMIT || s.ft.cap.isSome then s
  else if s.ftCode ≠ 0 then s.rejectCommit Reg.FT_CTRL_COMMIT Reg.FT_COMMIT_ERR_CODE s.ftCode 5
  else s.setFt { s.ft with cap := some { boundary := b, now := now, set := s.snap ftFields } }

/-- A captured t_base goes live (R5). -/
def State.ftLive (s : State) : State :=
  match s.ft.cap with
  | none => s
  | some c => ((s.setFt { s.ft with cap := none }).applySet c.set).wr Reg.FT_CTRL_COMMIT 0

/-! Commit guards (R6, R132). -/

/-- The blocks whose C fields commit with the frame path, by their bit of PAIR_MIRROR (spec/18 R435): their commit bit, the sets captured and
not yet live, and the capture for boundary `b`. -/
def commitBit (bit : Nat) : Fld :=
  match bit with
  | 0 => Reg.LAYER_CTRL_COMMIT
  | 1 => Reg.SA_CTRL_COMMIT
  | 2 => Reg.FT_CTRL_COMMIT
  | 3 => Reg.HLTH_CTRL_COMMIT
  | _ => Reg.LSC_CTRL_COMMIT
def State.heldSets (s : State) (bit : Nat) : Nat :=
  match bit with
  | 0 => (s.layer.plans.filter (·.commit)).length
  | 1 => b2n s.sa.cap.isSome
  | 2 => b2n s.ft.cap.isSome
  | 3 => b2n s.hlth.cap.isSome
  | _ => b2n s.lsc.cap.isSome
def State.captureSet (s : State) (bit b : Nat) (now : Bool) : State :=
  match bit with
  | 0 => s.layerCapture b now
  | 1 => s.saCapture b now
  | 2 => s.ftCapture b now
  | 3 => s.hlthCapture b now
  | _ => s.lscCapture b now

/-- A capture that the lead's COMMIT orders, whether or not this unit's commit bit is set (spec/18 R425, R427). A COMMIT of LAYER that it sets
queues the span checks as any set does (spec/04 R92). -/
def State.captureLed (s : State) (bit b : Nat) (now : Bool) : State :=
  (if s.on (commitBit bit) then s else (if bit = 0 then s.queueChecks else s).wr (commitBit bit) 1).captureSet bit b now

/-- The understudy of a pair that mirrors the block captures only when the lead tells it to (spec/18 R425). -/
def State.ledBlock (s : State) (bit : Nat) : Bool := s.mirrors (commitBit bit).addr && s.understudy

/-- A capture for boundary `b`, which a paired lead passes on with the FRAME_NO `frame` (spec/18 R425). -/
def State.captureTold (s : State) (bit b : Nat) (now : Bool) (frame : Nat) : State :=
  let t := s.captureSet bit b now
  if s.heldSets bit < t.heldSets bit then t.mirrorCommit bit frame else t

/-- The latest boundary whose index has been chosen: the next one, or once it is fixed the one that a schedule change chose after it (R130,
R135). -/
def State.ftNext (s : State) : Nat := s.ft.after.getD s.ft.m

/-- A block's guard for boundary `b`. On the understudy of a mirrored block the commit bit waits for the lead; LAYER's armed flips are tested
as ever. -/
def State.guardBlock (s : State) (bit b : Nat) (now : Bool) (frame : Nat) : State :=
  if !s.ledBlock bit then s.captureTold bit b now frame
  else if bit = 0 then
    ((s.wr Reg.LAYER_CTRL_COMMIT 0).layerCapture b now).wr Reg.LAYER_CTRL_COMMIT (s.rd Reg.LAYER_CTRL_COMMIT)
  else s

/-- The commit bit of a frame-path block is set (R5, R7, R132): with frame timing off the set is captured at once, to go live within 50 µs;
with the guard of the boundary after the next already passed it is captured at once for that one. -/
def State.commitBlock (s : State) (bit : Nat) : State :=
  if s.on (commitBit bit) then s
  else
    let s := s.wr (commitBit bit) 1
    if s.ledBlock bit then s
    else if !s.on Reg.FT_STATUS_RUN then s.captureTold bit 0 true (s.rd Reg.FT_FRAME_FRAME_NO)
    else if s.ftNext + 2 ≤ s.ft.guard then s.captureTold bit (s.ftNext + 1) false (frameNo (s.ftNext + 1))
    else s

/-- The lead's commits that wait for an earlier set of their block to go live (spec/18 R425): those blocks that hold none now capture. -/
def State.pairDue (s : State) : State :=
  let due := s.pair.due
  due.foldl (fun s e =>
    (List.range 5).foldl (fun s bit =>
      if !e.1.testBit bit then s
      else if s.heldSets bit = 0 then s.captureLed bit (max e.2 s.ft.m) false
      else { s with pair := { s.pair with due := s.pair.due ++ [(2 ^ bit, e.2)] } }) s)
    { s with pair := { s.pair with due := [] } }

/-- An entry of an HLTH packet (spec/18 R421): kind 0 map, 1 retest add, 2 retest remove. -/
def hlthEntry (kind tile x y cls : Nat) : List Byte := leBytes 4 (tile % 16 + x % 512 * 2 ^ 4 + y % 512 * 2 ^ 13 + cls % 8 * 2 ^ 22 + kind * 2 ^ 25)

/-- In a pair, the map updates and the retest list are fixed at the guard, and the lead sends both kinds of change (spec/18 R426). -/
def State.hlthGuard (s : State) (b : Nat) : State :=
  if !s.paired then { s with hlth := { s.hlth with fixed := none } }
  else if s.understudy || s.hlth.fixed.isSome then s
  else
    let n := min 256 s.hlth.queue.length
    let px := s.retestPixels
    let maps := (s.hlth.queue.take n).flatMap (fun u => hlthEntry 0 u.tile u.x u.y u.new)
    let adds := (s.hlth.retest.filter (fun r => !s.hlth.sent.contains (r.tile, r.x, r.y))).flatMap (fun r => hlthEntry 1 r.tile r.x r.y r.cls)
    let rems := (s.hlth.sent.filter (fun q => !px.contains q)).flatMap (fun q => hlthEntry 2 q.1 q.2.1 q.2.2 0)
    let s := { s with hlth := { s.hlth with fixed := some (n, px), sent := px } }
    if s.pairLead && (s.rd Reg.PAIR_MIRROR_BLOCKS).testBit 3 then s.pairSend 0x87 (leBytes 4 (frameNo b) ++ maps ++ adds ++ rems) else s

/-- The guard of the next boundary that has had none passes (R6, R132); a waiting fallback takes that boundary (spec/02 R47). -/
def State.guardPass (s : State) : State :=
  let b := s.ft.guard
  if !s.on Reg.FT_STATUS_RUN || decide (s.ftNext + 2 ≤ b) then s
  else
    let s := match s.sa.fallback with
      | some (k, none) => s.setSa { s.sa with fallback := some (k, some b) }
      | _ => s
    let s := ([1, 0, 2, 3, 4].foldl (fun s bit => s.guardBlock bit b false (frameNo b)) s).hlthGuard b
    s.setFt { s.ft with guard := b + 1 }

/-! Schedule changes (R135). -/

/-- Every captured set goes live at the next boundary that takes place (R132, after a re-index). -/
def State.freeCaptured (s : State) : State :=
  let z (c : Option Captured) : Option Captured := c.map (fun c => { c with boundary := 0 })
  let s := s.setSa { s.sa with cap := z s.sa.cap, fallback := s.sa.fallback.map (fun f => (f.1, f.2.map (fun _ => 0))) }
  let s := s.setFt { s.ft with cap := z s.ft.cap }
  let s := s.setLayer { s.layer with plans := s.layer.plans.map (fun p => { p with boundary := 0 }) }
  { s with hlth := { s.hlth with cap := z s.hlth.cap }, lsc := { s.lsc with cap := z s.lsc.cap } }

/-- A schedule change takes effect: the index of the next boundary that is not fixed is re-evaluated (R130, R135). A guard whose nominal instant
the change has passed over is taken at once (R132). -/
def State.ftChange (s : State) : State :=
  if !s.on Reg.FT_STATUS_RUN then s
  else
    let now := s.ftTick
    let m := if s.ft.fixed.isSome then s.ft.after.getD (s.ft.m + 1) else s.ft.m
    let k := s.reindex m
    let s := s.setFt { s.ft with change := some s.ftTickUp }
    let s := if k = m then s
      else
        let s := if s.ft.fixed.isSome then s.setFt { s.ft with after := some k, guard := k } else s.setFt { s.ft with m := k, guard := k }
        (s.calBroken.freeCaptured.inc Reg.FT_CNT1_REINDEX).fire 4
    if s.ft.guard = k ∧ s.ftT k - 2 * s.info.line ≤ now then s.guardPass else s

/-- The instants that FT and MASKIN hold keep their place when frame time steps by `d` ticks (R129, R130, R135; spec/03 R69). -/
def State.shiftInstants (s : State) (d : Int) : State :=
  let f := s.ft
  let s := s.setFt { f with last := f.last.map (· + d), fixed := f.fixed.map (· + d), change := f.change.map (· + d),
                            passA := f.passA.map (fun x => { x with done := x.done.map (· + d) }) }
  s.setMask { s.maskin with completeAt := s.maskin.completeAt + d }

/-- Frame time has stepped by `d` ticks while frame timing runs: a schedule change (R135, spec/13 R309). -/
def State.ftStepped (d : Int) (s : State) : State := (s.shiftInstants d).ftChange

/-! Aborts (R137 to R139). -/

/-- An aborted frame is counted (R139). -/
def State.countAbort (s : State) (cause : Nat) : State :=
  let n := min 255 (s.rd Reg.FT_ABORT_STATUS_CONSEC + 1)
  let s := (s.wr Reg.FT_ABORT_STATUS_CONSEC n).wr Reg.FT_ABORT_STATUS_LAST_CAUSE cause
  if max 1 (s.rd Reg.FT_ABORT_CFG_LIMIT) ≤ n ∧ s.ft.limit = false then
    (((s.setFt { s.ft with limit := true }).wr Reg.FT_STATUS_ABORT_LIM 1).fire 5).raise FLT_FT_ABORT 0x200A0048
  else s

/-- A frame is aborted in pass A (R139): counted, and recorded for the partner (spec/18 R428). -/
def State.passAAborts (s : State) (no cause : Nat) : State := (s.countAbort cause).pairRecord no true

/-- Bytes of a tap word (spec/05 R117). -/
def tapSize (d : DrvSet) : Nat := if d.tapSel = 0 then 2 else 4
/-- The base of the write-back buffer that the stream fills (spec/05 R117). -/
def State.wbBuf (s : State) (d : DrvSet) : Nat :=
  let i := s.info
  (s.rd Reg.SA_DRV_WB_HI_ADDR_HI <<< 32 ||| s.rd Reg.SA_DRV_WB_LO_ADDR <<< 20) + s.sa.wbIdx.getD 0 * (4096 + 12 * i.w * i.h * tapSize d)

/-- The zone codes of a port in a frame. -/
def Frame.codes (f : Frame) (p : Nat) : List Byte := (List.range 16).map (fun z => BitVec.ofNat 8 (f.zone.getD (16 * p + z) {}).z)

/-- The drive-frame CRC of a mapped port, 0 of another (spec/05 R119, spec/07 R191). -/
def Stream.pcrc (st : Stream) (p : Nat) : Nat := if st.mapped.contains p then (st.crc[p]?.getD 0) ^^^ 0xFFFFFFFF else 0

/-- The drive-frame CRCs of a write-back header; the spec states none for a frame that ended before its last line: free values (log entry
4). -/
def State.wbCrcs (s : State) (st : Stream) : List Nat × State :=
  if s.info.h ≤ st.lines then ((List.range 12).map st.pcrc, s)
  else (List.range 12).foldl (fun (r : List Nat × State) p =>
    if st.mapped.contains p then let f := r.2.fresh; (r.1 ++ [f.1 % 2 ^ 32], f.2) else (r.1 ++ [0], r.2)) ([], s)

/-- The write-back header of the streamed frame (spec/05 R117, R120): flags 1 COMPLETE, 2 ABORTED. -/
def State.wbHeader (s : State) (st : Stream) (flags : Nat) : State :=
  if !st.frame.drv.wb then s
  else
    let r := s.wbCrcs st
    let s := r.2
    let codes := (List.range 192).map (fun g => (BitVec.ofNat 8 (st.frame.zone.getD g {}).z : Byte))
    s.ddWrite (s.wbBuf st.frame.drv)
      (leBytes 4 st.frame.no ++ leBytes 1 flags ++ leBytes 1 st.frame.drv.tapSel ++ List.replicate 10 0 ++ r.1.flatMap (leBytes 4) ++ codes ++
        List.replicate 3840 0)

/-- The streamed frame is aborted (R137, R138; spec/02 R44; spec/05 R120, R123): LATCH is withheld, and a stream that ends here makes the next
boundary a restart boundary. -/
def State.streamAbort (s : State) (cause : Nat) (restart : Bool) : State :=
  match s.ft.stream with
  | none => s
  | some st =>
    if st.aborted then s
    else
      let st := { st with aborted := true }
      let s := s.setFt { s.ft with stream := some st, restart := s.ft.restart || restart }
      let s := ((s.wr Reg.FT_STATUS_STREAMING 0).countAbort cause).wbHeader st 2
      (s.lscDrop st.frame.no).pairRecord st.frame.no true

/-! Streaming (spec/05 R113 to R119; spec/07 R162 to R164). -/

/-- Port `p` takes part in the stream and has not left it. -/
def State.portStreams (s : State) (st : Stream) (p : Fin 12) : Bool :=
  st.ports.contains p.val && !(s.port p).ends && (s.tlState p == 3 || (s.txMuted && s.tlState p == 2))

/-- Pass B of line `k` on logical tile `t`. -/
def State.passBLine (s : State) (i : Image) (f : Frame) (t k : Nat) : List PassB :=
  let b := s.ddBuf i f.buf + 0x1000 + (t * i.info.h + k) * i.info.w * 4
  (List.range i.info.w).map (fun x =>
    passBPixel f.drv s.sa.lut[Fin.ofNat 4 (i.cls t x k)] f.no (f.zone.getD (i.gzone t x k) {}).zEff x k (s.num (b + 4 * x) 4))

/-- A frame-bound packet leaves, once the transmitters are open and unless they drop it (spec/14 R325; spec/18 R426). -/
def State.streamSend (s : State) (p : Fin 12) (type flags : Nat) (f : Frame) (payload : List Byte) : State :=
  if s.streamOpen && !s.txMuted then s.tlSend p type flags (f.no % 256) payload else s

/-- LINE `k` on the port that carries tile `t`, whose words are dropped once the port has left the stream (spec/07 R190): clamped, coded
and sent, with its CRCs and its tap words (spec/05 R117 to R119; spec/07 R162, R163; spec/14 R327). A port that is fenced,
SILENT, DOWN or unmapped gets no tap words, and its part of the buffer keeps its old bytes (DESIGN CHOICE; log entry 48). -/
def State.sendLine (s : State) (i : Image) (k : Nat) (p : Fin 12) : State :=
  match s.ft.stream, i.tileOf p with
  | some st, some t =>
    let px := s.passBLine i st.frame t k
    let own := px.map PassB.word
    let ws := own.map (clampWord s.cap.2)
    let bytes (l : List Nat) : List Byte := l.flatMap (leBytes 2)
    let lc := crc32c (leBytes 2 k ++ bytes ws)
    let rle := s.tlV2 p && s.on (Reg.TL_CTRL_RLE_EN p)
    let data := if rle then bytes (rleWords ws.length ws) else bytes ws
    let s := if s.portStreams st p then s.streamSend p 0x11 (if rle then 2 else 0) st.frame (leBytes 2 k ++ [0, 0] ++ leBytes 4 lc ++ data) else s
    let upd (c : Nat) (bs : List Byte) : Nat := bs.foldl (crcByte 0x82F63B78) c
    let st := { st with crc := st.crc.set p (upd st.crc[p] (bytes own)), lineCrc := st.lineCrc.set p (upd st.lineCrc[p] (leBytes 4 lc)) }
    let s := s.setFt { s.ft with stream := some st }
    if !st.frame.drv.wb then s
    else
      let n := tapSize st.frame.drv
      s.ddWrite (s.wbBuf st.frame.drv + 0x1000 + ((p * i.info.h + k) * i.info.w) * n) (px.flatMap (tapBytes st.frame.drv.tapSel))
  | _, _ => s

/-- The mapped ports that lack words of the line that starts (R137, spec/07 R191): words of a port that has gone DOWN are dropped and cause no
underrun (spec/07 R190). -/
def State.lackingPorts (s : State) (st : Stream) (lacking : BitVec 12) : List (Fin 12) :=
  (List.finRange 12).filter (fun (p : Fin 12) => lacking.getLsbD p && st.mapped.contains p.val && !(s.port p).ends)

/-- An underrun at line `k` (R137). -/
def State.underrun (s : State) (p k : Nat) : State :=
  let s := ((s.fire 3).wr Reg.FT_UR_INFO_PORT p).wr Reg.FT_UR_INFO_LINE k
  (s.inc Reg.FT_CNT1_UR).streamAbort 1 true

/-! Boundaries (R129 to R131, R141). -/

/-- Frame time's earliest tick for the next boundary (R129). -/
def State.boundaryTick (s : State) : Int :=
  let f := s.ft
  let t := s.ftT f.m
  let t := match f.last with
    | some a => if f.restart then t else max t (a + ((s.info.h + s.info.blank) * s.info.line : Nat))
    | none => t
  let t := match f.passA with
    | some a => if a.cause = 0 then max t (a.done.getD 0 + 4000) else t
    | none => t
  match f.change with
  | some c => max t (c + 4000)
  | none => t

/-- The next boundary's instant can be fixed: pass A of its stream source has reported, or it has none, as where the frame in composition
is bad already (R130, R131). -/
def State.canFix (s : State) : Bool :=
  s.on Reg.FT_STATUS_RUN && s.ft.fixed.isNone && (match s.ft.passA with | some a => a.done.isSome || a.cause != 0 | none => true)

/-- What the HEALTH of the frame that latched at the last boundary has not told by this one (spec/07 R180): an echo miss on each port that owns
its tile and streamed the frame, and the fault at three in a row. -/
def State.echoMisses (s : State) : State :=
  match s.ft.await with
  | none => s
  | some no =>
    s.forFin fun (p : Fin 12) s =>
      if s.isMapped p && s.on (Reg.TL_STATUS_OWNED p) && (s.port p).echo.any (fun e => e.1 == no) && (s.port p).seen != some no then
        let n := (s.port p).miss + 1
        let s := (s.setPort p { s.port p with miss := n }).inc (Reg.TL_CNT1_ECHO_MISS p)
        if n = 3 then s.echoError p else s
      else s

/-- The period ends and the tiles latch (R131, R139): LSC's and CAL's records, the frame on show, its zone power, the results awaited of it.
At the first boundary after the enable there is no period to record (spec/10 R247). -/
def State.periodEnds (s : State) (calp : List (Fin 4096)) : State :=
  let latched := s.ft.stream.bind (fun st => if st.latched && !st.aborted then some st.frame else none)
  let ramped := s.lsc.ramped
  let shown := s.ft.shown
  let s := if s.ft.last.isNone then s.echoMisses.lscStart.calStart
    else (s.echoMisses.lscBoundary (latched.map (·.no))).calBoundary shown ramped latched.isSome calp
  match latched with
  | some f =>
    let s := (s.setFt { s.ft with shown := some f, await := some f.no, limit := false }).wr Reg.FT_ABORT_STATUS_CONSEC 0
    (s.takePower f).hlthLatch f
  | none =>
    let s := s.setFt { s.ft with await := none }
    match s.ft.stream with
    | some st => if st.aborted then s else s.lscDrop st.frame.no
    | none => s

/-- T_m of the next boundary in ns (R146), half a ns rounded down. While RUN is 0 there is no next boundary, and the index and the rate left over,
or a rate of 120 Hz with no active bank, still give one (DESIGN CHOICE; log entry 49). -/
def State.nextNs (s : State) : Nat := (s.ftT s.ft.m).toNat * 5 / 2

/-- FT_NEXT_SEC_LO and HI show the seconds of an instant in ns (R146). -/
def State.showNextSec (s : State) (ns : Nat) : State :=
  (s.wr Reg.FT_NEXT_SEC_LO_SEC (ns / giga)).wr Reg.FT_NEXT_SEC_HI_SEC_HI (ns / giga / 2 ^ 32)

/-- A read of FT_NEXT_SEC_LO or HI: the hold by a read of FT_NEXT_NS ends once both have been read (R146); after that they show the next
boundary. -/
def State.nextSecRead (s : State) (lo : Bool) : State :=
  if s.ft.nextLo.isNone && s.ft.nextHi.isNone then s.showNextSec s.nextNs
  else if lo then s.setFt { s.ft with nextLo := none } else s.setFt { s.ft with nextHi := none }

/-- The phase error of a boundary (R129, R143, R146). ERR is a multiple of 2.5 ns: half a ns is rounded down (DESIGN CHOICE; log entry 48). -/
def State.showPhase (s : State) : State :=
  let e := s.ft.phase
  let late := s.on Reg.FT_STATUS_LATE
  let s := s.wr Reg.FT_PHASE_ERR (min 0x1FFFFFF (e * 5 / 2))
  let s := if 0 < e then s.inc Reg.FT_CNT0_LATE else s
  if late = decide (0 < e) then s else (s.wrB Reg.FT_STATUS_LATE (decide (0 < e))).fire 4

/-- The ports leave STREAMING: idle from here (R141). -/
def State.portsIdle (s : State) : State := s.forFin fun (p : Fin 12) s => if s.tlState p = 3 then s.tlSet p 2 else s

/-- A commit bit that is set and not captured when RUN clears is applied at once (R7). Layers that are armed with no commit bit set are tested
at once too (the model's choice, DEDUCED; log entry 34). -/
def State.commitAll (s : State) : State :=
  [1, 0, 2, 3, 4].foldl (fun s bit =>
    if s.on (commitBit bit) || (bit == 0 && (List.range 8).any s.armed) then s.guardBlock bit 0 true (s.rd Reg.FT_FRAME_FRAME_NO) else s) s

/-- Frame timing's own part of a stop (R141): its period, its stream and its plan end, and a waiting LOAD or STEP takes effect (spec/13 R308). -/
def State.ftEnds (s : State) : State :=
  let s := match s.ft.passA with
    | some a => s.lscDrop a.no
    | none => s
  let c := s.ft.cap.isSome
  let s := s.setFt { s.ft with passA := none, stream := none, clear := false, cap := none, fixed := none, after := none, slot := none,
                               restart := false, change := none, last := none, urgent := .replicate 12 false, urgSlot := false }
  let s := if c then s.wr Reg.FT_CTRL_COMMIT 0 else s
  let s := (((s.wr Reg.FT_CTRL_EN 0).wr Reg.FT_STATUS_RUN 0).wr Reg.FT_STATUS_STREAMING 0).wr Reg.FT_STATUS_URGENT 0
  let s := (s.wr Reg.SA_STATUS_RUN 0).portsIdle
  let s := { s with safe := { s.safe with raiseTo := none } }
  s.forFin fun (d : Fin 2) s => if s.on (stepPend d) then s.applyAdj d State.ftStepped else s

/-- Frame timing stops at a boundary (R141; spec/02 R47): nothing further is composed or streamed, and what is captured is discarded. -/
def State.ftHalt (s : State) : State :=
  let s := s.ftEnds
  let s := if s.hlth.cap.isSome then { s with hlth := { s.hlth with cap := none } }.wr Reg.HLTH_CTRL_COMMIT 0 else s
  let s := if s.lsc.cap.isSome then { s with lsc := { s.lsc with cap := none } }.wr Reg.LSC_CTRL_COMMIT 0 else s
  let s := s.layerDiscard.saDiscard
  let s := s.setSa { s.sa with old := none, kalA := false, kalB := false, retire := [], retireNow := s.sa.retireNow ++ s.sa.retire }
  let s := if s.sa.lutDue then s.loadLut else s
  let s := s.saFencedNow
  let s := { s with hlth := { s.hlth with fixed := none } }.hlthRun
  s.commitAll.retireHandover

/-- What the SA does at boundary `m` that does not stop it (R131; spec/02 R39 to R41, R47; spec/05 R121, R122). The flag says that pass A does
not run in this period. A captured switch to a bank that maps a cell fenced since its guard is still made, and the fence then causes
neither a fallback nor a stop, since the bank was not active when the cell became fenced (DESIGN CHOICE; log entry 48). -/
def State.saBoundary (s : State) (m : Nat) : State × Bool :=
  let s := s.setSa { s.sa with old := none, retire := [], retireNow := s.sa.retireNow ++ s.sa.retire, kalA := false, kalB := false }
  let s := if s.sa.lutDue then s.loadLut else s
  let fall := s.sa.fallback
  let r : State × Bool :=
    match s.sa.cap with
    | some c =>
      if c.boundary ≤ m then
        match s.sa.switch with
        | some w => ((s.saSwitch w.bank true).saLive, w.hold)
        | none => (s.saLive, false)
      else (s, false)
    | none => (s, false)
  match r.1.sa.fallback, fall with
  | some (b, some k), some _ => if k ≤ m then (r.1.saSwitch b true, true) else r
  | _, _ => r

/-- The stop or the fallback that cannot be made any more ends frame timing at boundary `m` (spec/02 R47). -/
def State.saStops (s : State) (m : Nat) : Bool :=
  s.sa.stopWait || (match s.sa.fallback with
    | some (_, some k) => decide (k ≤ m) && !s.fallbackOk
    | _ => false)

/-- The states of the ports of the stream that starts (spec/07 R190, R191; spec/18 R426). -/
def State.portsBoundary (s : State) : State :=
  s.forFin fun (p : Fin 12) s =>
    let s := if (s.port p).ends then s.setPort p { s.port p with ends := false } else s
    if !s.isMapped p then s
    else if s.txMuted then (if s.tlState p = 3 then s.tlSet p 2 else s)
    else if s.tlState p = 2 then s.tlSet p 3 else s

/-- The ports that stream from this boundary: STREAMING, or READY where the transmitters drop the stream (spec/07 R190; spec/18 R426). -/
def State.streamPorts (s : State) : List Nat :=
  (List.range 12).filter (fun p => s.isMapped p && (s.tlState (Fin.ofNat 12 p) == 3 || (s.txMuted && s.tlState (Fin.ofNat 12 p) == 2)))

/-- The ports that count as mapped from this boundary (spec/05 R119; spec/07 R191). -/
def State.mappedPorts (s : State) : List Nat :=
  (List.range 12).filter (fun p => s.isMapped p && !s.on (Reg.TL_STATUS_FENCED p) && !([0, 4].contains (s.tlState (Fin.ofNat 12 p))))

/-- THERM of the lead for frame `no` (spec/18 R421, R426). -/
def State.sendTherm (s : State) (no : Nat) : State :=
  if s.pairLead && s.mirrors 0x200F0000 then
    s.pairSend 0x85 (leBytes 4 no ++ (List.range 192).flatMap (fun g => leBytes 2 (s.rd (Reg.THM_ZTEMP_TJ g))))
  else s

/-- The factors of frame `no` come from this unit's own temperatures, or on the understudy from the lead's packet where that has come (spec/18
R426). -/
def State.thermTaken (s : State) (no : Nat) : State :=
  { s with pair := { s.pair with thermOf := if s.thmFollows && s.pair.therm != some no then none else some no } }

/-- The settings of SA_DRV_CTRL that are live. -/
def State.drvNow (s : State) : DrvSet :=
  { postlut := s.lv Reg.SA_DRV_CTRL_POSTLUT_EN == 1, dither := s.lv Reg.SA_DRV_CTRL_DITHER_EN == 1, tapSel := s.lv Reg.SA_DRV_CTRL_TAP_SEL,
    wb := s.lv Reg.SA_DRV_CTRL_WB_EN == 1 }

/-- The stream of frame `f` starts (R128, R131; spec/05 R117 to R119; spec/07 R180). The write-back ring starts at buffer 0, goes on after its
last buffer when WB_EN is set again, and starts anew when TAP_SEL has changed (DESIGN CHOICE; log entry 48). -/
def State.startStream (s : State) (f : Frame) : State :=
  let mapped := s.mappedPorts
  let init (p : Nat) : Nat := if mapped.contains p then (f.codes p).foldl (crcByte 0x82F63B78) 0xFFFFFFFF else 0xFFFFFFFF
  let v : Vector Nat 12 := Vector.ofFn (fun (p : Fin 12) => init p)
  let depth := max 2 (min 4 (s.rd Reg.SA_DRV_WB_HI_DEPTH))
  let last := if s.sa.drvB.tapSel = f.drv.tapSel then s.sa.wbIdx else none
  let next := (last.map (fun k => (k + 1) % depth)).getD 0
  let s := s.setSa { s.sa with drvB := f.drv, wbIdx := if f.drv.wb then some next else last }
  s.setFt { s.ft with stream := some { frame := f, ports := s.streamPorts, mapped := mapped, crc := v, lineCrc := v } }

/-- A boundary meets a frame in composition that is bad and whose pass A is not done: it is aborted (R139; spec/03 R64, spec/05 R123). -/
def State.passALost (s : State) : State :=
  match s.ft.passA with
  | some f => if f.done.isNone then s.passAAborts f.no f.cause else s
  | none => s

/-- What happens at boundary `m` when frame timing goes on (R131). -/
def State.boundaryGoes (s : State) (m : Nat) (a : Int) : State :=
  let tm := s.ftT m
  let src := s.ft.passA.bind (fun f => if f.done.isSome && f.cause == 0 then some f else none)
  let s := s.passALost
  let s := s.setLayer { s.layer with clamped := .replicate 8 false }
  let r := s.saBoundary m
  let s := r.1.layerLive (fun p => decide (p.boundary ≤ m))
  let due (c : Option Captured) : Bool := (c.map (fun c => decide (c.boundary ≤ m))).getD false
  let changed := due s.ft.cap
  let s := if changed then s.ftLive else s
  let s := if due s.hlth.cap then s.hlthLive else s
  let s := if due s.lsc.cap then s.lscLive else s
  let s := s.pairBoundary (frameNo m) (stamp64 (a * 5 * nsUnit / 2))
  let s := s.portsBoundary.safeBoundary.maskBoundary (tm - (if s.paired then 4000 else 0))
  let s := s.hlthBoundary (frameNo m)
  let s := s.loadFactors.thermTaken (frameNo m) |>.sendTherm (frameNo m)
  let f := s.aimFrame { no := frameNo m, buf := m % 2, drv := s.drvNow }
  let s := s.setFt { s.ft with passA := if r.2 then none else some f, stream := none, m := s.ft.after.getD (m + 1), after := none,
                               restart := src.isNone, slot := none, lm := s.rd Reg.FT_LM_LINE, lmFired := false, urgSlot := false }
  let s := match src with
    | some g => s.startStream g
    | none => s
  let s : State := { s with hlth := { s.hlth with fixed := none } }
  let s := if s.ft.m + 1 ≤ s.ft.guard then s.hlthGuard s.ft.m else s
  let s := ((s.wr Reg.FT_FRAME_FRAME_NO (frameNo m)).wrB Reg.FT_STATUS_STREAMING src.isSome).wr Reg.FT_LINE_IN_BLANK 0
  let s := s.wr Reg.FT_LINE_SLOT 0
  let s := s.retireHandover.pairDue
  if changed then s.ftChange else s

/-- The boundary whose instant has been fixed takes place (R131): one that stops frame timing too is followed by BEAT (spec/18 R424) and raises
the cap that was fixed for it (spec/14 R324). -/
def State.boundaryNow (s : State) (calp : List (Fin 4096)) : State :=
  match s.ft.fixed with
  | none => s
  | some a =>
    let m := s.ft.m
    let s := (s.periodEnds calp).showPhase
    let s := s.setFt { s.ft with last := some a, fixed := none }
    if s.ft.clear || s.saStops m then
      ((s.passALost.pairBoundary (frameNo m) (stamp64 (a * 5 * nsUnit / 2))).safeBoundary.hlthStops (frameNo m)).ftHalt
    else s.boundaryGoes m a

end Sys2Proof.Machine
end

