-- ==== Sys2Proof/Machine/Drive.lean ====
section
/-! DEFINITION. The command of the drive chain (spec/05_drive_codes.md R123). -/

namespace Sys2Proof.Machine

/-- DRIVE_READ_ERROR: a failed read of the drive tables, a gain map or the health map in pass A, or of a DD buffer in pass B, aborts the
frame (R123). -/
def execDriveReadError (passB : Bool) (addr : Nat) (s : State) : Res :=
  .next (
    let hit (s : State) : State := ((s.readErr .stageArray addr).wr Reg.SA_DRV_STATUS_FETCH_ERR 1).raiseAcc FLT_SA_DRV addr .stageArray .read
    if passB then
      match s.ft.stream with
      | some st => if st.aborted then s else (hit s).streamAbort 5 true
      | none => s
    else match s.ft.passA with
      | some f => if f.done.isSome then s else hit (s.setFt { s.ft with passA := some (f.spoil 5) })
      | none => s)

end Sys2Proof.Machine
end

