-- ==== Sys2Proof/Machine/Evc.lean ====
section
/-! DEFINITION. The control engines and the event controller (spec/16_engines_events.md R367 to R386). -/

namespace Sys2Proof.Machine

/-- An engine continues at `pc`. The rights of E0 over the registers of E12 and E13 end at its first fetch outside the boot ROM
(R372). -/
def State.setPc (s : State) (e : Fin 16) (pc : Word) : State :=
  let s := s.setEng e { s.eng e with pc := pc }
  if e = 0 ∧ ¬(0x01000000 ≤ pc.toNat ∧ pc.toNat < 0x01010000) then { s with evc := { s.evc with romRights := false } } else s

/-- A PMP configuration byte after a write (R367; privileged specification 1.12): a locked one stays, bits 6:5 read 0, and a granularity of 64
bytes leaves no NA4. -/
def pmpCfg (old new : Byte) : Byte :=
  if old.toNat.testBit 7 then old
  else if new.toNat / 8 % 4 = 2 then (new &&& 0x87) ||| (old &&& 0x18) else new &&& 0x9F

/-- A locked PMP address stays, and so does the one below a locked TOR entry. -/
def pmpAddr (cfg : Vector Byte 16) (i : Fin 16) (old new : Word) : Word :=
  let locked (k : Nat) : Bool := (cfg.toList.getD k 0).toNat.testBit 7
  if locked i || (locked (i + 1) && (cfg.toList.getD (i + 1) 0).toNat / 8 % 4 == 1) then old else new

/-- The context that the engine's own instructions have reached (R367; log entry 8): x0 reads 0, and locked PMP entries stand. -/
def State.view (s : State) (e : Fin 16) (v : EngView) : State :=
  let g := s.eng e
  let g : Engine := { g with
    machine := v.machine, mie := v.mie, mpie := v.mpie, mpp := v.mpp, mprv := v.mprv, tw := v.tw,
    mcounteren := v.mcounteren &&& 7#32, mcountinhibit := v.mcountinhibit &&& 5#32, mepc := v.mepc &&& ~~~1#32, mcause := v.mcause, mtval := v.mtval, mtvec := v.mtvec,
    mscratch := v.mscratch, x := v.x.set 0 0, mcycle := v.mcycle, minstret := v.minstret
    pmpcfg := Vector.ofFn fun (i : Fin 16) => pmpCfg g.pmpcfg[i] v.pmpcfg[i]
    pmpaddr := Vector.ofFn fun (i : Fin 16) => pmpAddr g.pmpcfg i g.pmpaddr[i] v.pmpaddr[i] }
  ((s.setEng e g).setPc e v.pc).nestCheck e

/-- The first byte and the size of the region of a PMP entry, in granules of 64 bytes (R367); none for an entry that is off or empty. -/
def Engine.pmpRegion (g : Engine) (i : Fin 16) : Option (Nat × Nat) :=
  let a := g.pmpaddr[i].toNat / 16
  match (g.pmpcfg[i]).toNat / 8 % 4 with
  | 1 =>
    let lo := if i.val = 0 then 0 else (g.pmpaddr.toList.getD (i - 1) 0).toNat / 16
    if a ≤ lo then none else some (lo, a - lo)
  | 3 =>
    let n := ((List.range 28).find? (fun k => !a.testBit k)).getD 28
    let low := if g.pmpaddr[i].toNat.testBit 3 then n + 1 else 0
    some (a / 2 ^ low * 2 ^ low, 2 ^ low)
  | _ => none

/-- PMP allows an access of `n` bytes at an engine's address (R367; privileged specification 1.12): the lowest entry that covers a byte of it
must cover all of it and grant it, to machine mode unless it is locked; with none, machine mode alone may access. With MPRV set a load or a
store is made in the mode of MPP. An access that PMP denies
does not leave the engine: no command stands for it, and SYNC_EXCEPTION is its access fault (log entry 8). -/
def Engine.pmpAllows (g : Engine) (acc : Access) (a n : Nat) : Bool :=
  let hit (i : Fin 16) : Option (Bool × Nat) := (g.pmpRegion i).bind fun r =>
    let lo := r.1 * 64
    let hi := lo + r.2 * 64
    if a < hi ∧ lo < a + n then some (decide (lo ≤ a ∧ a + n ≤ hi), (g.pmpcfg[i]).toNat) else none
  let mach := if g.mprv && g.machine && acc != .fetch then g.mpp else g.machine
  match (List.finRange 16).findSome? hit with
  | none => mach
  | some (all, c) =>
    all && ((mach && !c.testBit 7) ||
      (match acc with
       | .read => c.testBit 0
       | .write => c.testBit 1
       | .fetch => c.testBit 2
       | .none => true))

/-- A CSR of engine `e` as its instructions read it (R367), none for a number that the model holds no value of: mip and mie read 0, time reads
PERI_TBASE, misa names RV32IMAC with user mode, and mhartid is the engine's number. menvcfg and the further counters and their events, which
an engine need not implement, read 0, and so does bit 0 of mepc (log entry 8). -/
def State.csr (s : State) (e : Fin 16) (n : Nat) : Option Word :=
  let g := s.eng e
  if n = 0x300 then
    some (BitVec.ofNat 32 (b2n g.mie * 8 + b2n g.mpie * 128 + b2n g.mpp * 0x1800 + b2n g.mprv * 2 ^ 17 + b2n g.tw * 2 ^ 21))
  else if n = 0x301 then some 0x40101105
  else if n = 0x306 then some g.mcounteren
  else if n = 0x30A ∨ n = 0x31A ∨ (0x323 ≤ n ∧ n < 0x340) ∨ (0xB03 ≤ n ∧ n < 0xB20) ∨ (0xB83 ≤ n ∧ n < 0xBA0) ∨ (0xC03 ≤ n ∧ n < 0xC20) ∨
      (0xC83 ≤ n ∧ n < 0xCA0) then some 0
  else if n = 0x310 ∨ n = 0xF11 ∨ n = 0xF12 ∨ n = 0xF13 ∨ n = 0xF15 then some 0
  else if n = 0x320 then some g.mcountinhibit
  else if n = 0xF14 then some (BitVec.ofNat 32 e)
  else if n = 0x304 ∨ n = 0x344 then some 0
  else if n = 0x305 then some (g.mtvec &&& ~~~3#32)
  else if n = 0x340 then some g.mscratch
  else if n = 0x341 then some (g.mepc &&& ~~~1#32)
  else if n = 0x342 then some g.mcause
  else if n = 0x343 then some g.mtval
  else if 0x3A0 ≤ n ∧ n < 0x3A4 then some (BitVec.ofNat 32 (le ((List.range 4).map (fun k => g.pmpcfg.toList.getD (4 * (n - 0x3A0) + k) 0))))
  else if 0x3B0 ≤ n ∧ n < 0x3C0 then
    let w := g.pmpaddr.toList.getD (n - 0x3B0) 0
    some (if (g.pmpcfg.toList.getD (n - 0x3B0) 0).toNat / 16 % 2 = 1 then w ||| 7#32 else w &&& ~~~15#32)
  else if n = 0xB00 ∨ n = 0xC00 then some (g.mcycle.setWidth 32)
  else if n = 0xB80 ∨ n = 0xC80 then some ((g.mcycle >>> 32).setWidth 32)
  else if n = 0xB02 ∨ n = 0xC02 then some (g.minstret.setWidth 32)
  else if n = 0xB82 ∨ n = 0xC82 then some ((g.minstret >>> 32).setWidth 32)
  else if n = 0xC01 then some (BitVec.ofNat 32 (s.tbase % 2 ^ 32))
  else if n = 0xC81 then some (BitVec.ofNat 32 (s.tbase / 2 ^ 32))
  else none

/-- What the engine has open is replaced, and EVC_ENGe_STATE follows. -/
def State.setOpened (s : State) (e : Fin 16) (os : List Opened) : State :=
  (s.setEng e { s.eng e with opened := os
                             nestRaised := (s.eng e).nestRaised && decide (16 ≤ (activations os).length) }).showEng e

/-- Source `n` has ceased to be active: a pending event of it may now wake its target, or find it full (R376, R380, R382). -/
def State.inactive (s : State) (n : Fin 128) : State := if s.on (Reg.EVC_PEND n) then s.wakeFor n else s

/-- EVC discards the engine's context stack and open activations: those sources cease to be active, their pending bits are kept
(R384). -/
def State.discard (s : State) (e : Fin 16) : State :=
  let acts := activations (s.eng e).opened
  let s' := acts.foldl (fun s a => s.wr (Reg.EVC_ACT a.1) 0) s
  acts.foldl (fun s a => s.inactive a.1) (s'.setOpened e ((s.eng e).opened.filter (· == .trap)))

/-- The engine in reset (R372, R449): its contexts are discarded, its watchdog stops, its registers take their reset values. -/
def State.resetEngine (s : State) (e : Fin 16) : State :=
  let s := s.discard e
  let s := (((s.wr (Reg.EVC_ENG_STATE_WFI e) 0).wr (Reg.EVC_ENG_STATE_HALT e) 0).wr (Reg.EVC_ENG_WDT_CTRL_EN e) 0).setEng e {}
  s.showEng e

/-- The engine starts in machine mode at its reset vector (R372). -/
def State.startEngine (s : State) (e : Fin 16) : State :=
  (s.setEng e { s.eng e with machine := true }).setPc e (BitVec.ofNat 32 (s.rd (Reg.EVC_ENG_RSTVEC_VEC e) * 2))

/-- Of the events eligible at engine `e`, the one of highest priority, the lower source number of a tie (R376); an engine asleep in
wfi takes only an event that wakes it (R382). -/
def State.bestEvent (s : State) (e : Fin 16) : Option (Fin 128) :=
  (List.finRange 128).foldl (fun (b : Option (Fin 128)) n =>
    if s.eligible e n && !(s.on (Reg.EVC_ENG_STATE_WFI e) && !s.on (Reg.EVC_SRC_CFG_WAKE_EN n)) then
      match b with
      | none => some n
      | some m => if s.rd (Reg.EVC_SRC_CFG_PRIO m) < s.rd (Reg.EVC_SRC_CFG_PRIO n) then some n else some m
    else b) none

/-- The commit point of an entry of source `n` (R377): its pending bit clears, it becomes active, the context is pushed, and the
engine continues in machine mode at the source's vector. -/
def State.enterEvent (s : State) (e : Fin 16) (n : Fin 128) (pc : Word) (machine : Bool) (below : List Opened) : State :=
  let s := (s.wr (Reg.EVC_PEND n) 0).wr (Reg.EVC_ACT n) 1
  let s := { s with evc := { s.evc with redirected := s.evc.redirected.set n false } }
  let s := s.setOpened e (.event n (s.rd (Reg.EVC_SRC_CFG_PRIO n)) pc machine :: below)
  ((s.wr (Reg.EVC_ENG_STATE_WFI e) 0).setEng e { s.eng e with machine := true }).setPc e
    (BitVec.ofNat 32 (s.rd (Reg.EVC_SRC_VEC_VEC n) * 2))

/-- A chapter assigns the source (R385; R143, R75, R48, R192, R211, R313, R347, R365, R273, R256, R289, R234, R413, R433, R456), or PERI_EVSEL
may select it. -/
def srcAssigned (n : Nat) : Bool := !(decide (44 ≤ n ∧ n ≤ 47) || n == 63 || n == 111 || decide (119 ≤ n ∧ n ≤ 123))

/-- EVENT_SOURCE_EDGE (R375): a source that no chapter assigns fires only through EVC_SETPEND. -/
def execEventSourceEdge (n : Fin 128) (s : State) : Res := .next (if srcAssigned n then s.fire n else s)

/-- EVC_SETPEND: the pending bits of the written ones are set (R375). -/
def execEvcSetpend (m : Master) (k : Fin 4) (v : Word) (s : State) : Res :=
  .next (s.busWrite m (0x20030110 + k * 4) v fun s =>
    s.forFin fun (i : Fin 32) s => if v.toNat.testBit i then s.fire (k * 32 + i) else s)

/-- EVC_PEND_CLEAR (R375). -/
def execEvcPendClear (m : Master) (k : Fin 4) (v : Word) (s : State) : Res :=
  .next (s.busWrite m (0x20030100 + k * 4) v fun s =>
    s.forFin fun (i : Fin 32) s => if v.toNat.testBit i then s.wr (Reg.EVC_PEND (k * 32 + i)) 0 else s)

/-- EVENT_ENTRY: the engine takes its highest eligible event; `rising` is a source whose edge comes in cycle 1 or 2 of the entry and
replaces the selected one where its priority is higher (R377, R378). -/
def execEventEntry (e : Fin 16) (view : EngView) (rising : Option (Fin 128)) (s : State) : Res :=
  .next (
    let s := s.view e view
    match s.bestEvent e with
    | none => match rising with
      | none => s
      | some r => s.fire r
    | some n =>
      match rising with
      | none => s.enterEvent e n view.pc view.machine (s.eng e).opened
      | some r =>
        let t := s.fire r
        let n' := if t.eligible e r && decide (t.rd (Reg.EVC_SRC_CFG_PRIO n) < t.rd (Reg.EVC_SRC_CFG_PRIO r)) then r else n
        t.enterEvent e n' view.pc view.machine (t.eng e).opened)

/-- The privileged specification's mret: the context in mepc and mstatus is resumed (R373). -/
def State.trapReturn (s : State) (e : Fin 16) : State :=
  let g := s.eng e
  ((s.setEng e { g with machine := g.mpp, mie := g.mpie, mpie := true, mpp := false, mprv := g.mprv && g.mpp }).setPc e g.mepc).nestCheck e

/-- MRET completes what was entered most recently (R379). When it completes an activation, an event that is eligible against the
running priority of the context returned to is entered without resuming that context. -/
def execMret (e : Fin 16) (view : EngView) (s : State) : Res :=
  .next (
    let s := s.view e view
    match (s.eng e).opened with
    | [] => s.trapReturn e
    | .trap :: r => (s.setOpened e r).trapReturn e
    | .nmi pc mach :: r =>
      if (s.eng e).nmiPend = 0 then
        ((s.setOpened e r |>.setEng e { (s.setOpened e r).eng e with machine := mach }).setPc e pc).nestCheck e
      else
        (s.setEng e { s.eng e with nmiPend := (s.eng e).nmiPend - 1, machine := true }).setPc e
          (BitVec.ofNat 32 (s.rd (Reg.EVC_ENG_NMIVEC_VEC e) * 2))
    | .event n _ pc mach :: r =>
      let s := ((s.wr (Reg.EVC_ACT n) 0).setOpened e r).inactive n
      match s.bestEvent e with
      | some k => s.enterEvent e k pc mach r
      | none => (s.setEng e { s.eng e with machine := mach }).setPc e pc)

/-- The access type of an access fault (privileged specification: 1 instruction, 5 load, 7 store). -/
def faultAccess (cause : Word) : Access := if cause = 1 then .fetch else if cause = 5 then .read else if cause = 7 then .write else .none

/-- The cause of the access fault of an access. -/
def accessCause (acc : Access) : Word := match acc with | .fetch => 1 | .write => 7 | _ => 5

/-- SYNC_EXCEPTION opens a trap, or halts the engine where one is open (R373). After an uncorrectable SRAM error it is the access fault of that
access, whatever the operands say (R368). -/
def execSyncException (e : Fin 16) (view : EngView) (cause tval : Word) (s : State) : Res :=
  .next (
    let s := s.view e view
    let cause := match (s.eng e).fault with
      | some f => accessCause f.1
      | none => cause
    let tval := match (s.eng e).fault with
      | some f => BitVec.ofNat 32 f.2
      | none => tval
    let o : Occurrence := { src := FLT_ENG_EXC, unit := some e, master := .engine e, access := faultAccess cause
                            addr := if faultAccess cause = .none then 0x2003080C + e * 0x40 else s.sysAddr e tval.toNat }
    let s := s.setEng e { s.eng e with fault := none }
    if trapOpen (s.eng e).opened then ((s.discard e).wr (Reg.EVC_ENG_STATE_HALT e) 1).raiseOcc o
    else
      let s := if view.machine && (faultAccess cause != .none || cause == 2) then s.raiseOcc o else s
      let g := s.eng e
      let s := s.setEng e { g with mepc := view.pc &&& ~~~1#32, mcause := cause, mtval := tval, mpie := view.mie, mie := false,
                                   mpp := view.machine, machine := true }
      (s.setOpened e (.trap :: g.opened)).setPc e (view.mtvec &&& ~~~3#32))

/-- NMI_ENTRY: a waiting non-maskable trap enters at NMIVEC; one that finds a trap open waits (R383). -/
def execNmiEntry (e : Fin 16) (view : EngView) (s : State) : Res :=
  .next (
    if (s.eng e).nmiPend = 0 || nmiOpen (s.eng e).opened || !s.engRuns e then s
    else
      let s := s.view e view
      let s := s.setEng e { s.eng e with nmiPend := (s.eng e).nmiPend - 1, machine := true }
      ((s.setOpened e (.nmi view.pc view.machine :: (s.eng e).opened)).wr (Reg.EVC_ENG_STATE_WFI e) 0).setPc e
        (BitVec.ofNat 32 (s.rd (Reg.EVC_ENG_NMIVEC_VEC e) * 2)))

/-- WFI_ENTER: the engine sleeps, unless an event that wakes it is already pending (R382). In user mode with mstatus.TW set, wfi is an illegal
instruction instead (R367), which SYNC_EXCEPTION brings. -/
def execWfiEnter (e : Fin 16) (view : EngView) (s : State) : Res :=
  .next (
    let s := s.view e view
    if (!view.machine && view.tw) || (List.finRange 128).any (fun n => s.wakes e n) || (s.eng e).nmiPend != 0 then s
    else s.wr (Reg.EVC_ENG_STATE_WFI e) 1)

/-- The running priority of the top activation lowered. -/
def dropTop (p : Nat) : List Opened → List Opened
  | [] => []
  | .event n _ pc m :: r => .event n p pc m :: r
  | x :: r => x :: dropTop p r

/-- EVC_DROP (R380): a lower running priority may let a pending event wake the engine, or find it full. -/
def execEvcDrop (m : Master) (e : Fin 16) (v : Word) (s : State) : Res :=
  .next (s.busWrite m (0x20030810 + e * 0x40) v fun s =>
    let p := bits v.toNat 0 4
    match activations (s.eng e).opened with
    | [] => s.werr 0x20030810
    | a :: r =>
      if a.2 < p ∨ p < (match r with | [] => 0 | b :: _ => b.2) then s.werr 0x20030810
      else (s.setOpened e (dropTop p (s.eng e).opened)).lookAgain e)

/-- EVC_RETARGET: a pending event follows its source to the new target (R381). -/
def execEvcRetarget (m : Master) (n : Fin 128) (v : Word) (s : State) : Res :=
  .next (s.busWrite m (0x20031000 + n * 0x10) v fun s =>
    let t := (s.wr (Reg.EVC_SRC_CFG_TARGET n) (bits v.toNat 8 4)).wr (Reg.EVC_SRC_CFG_FALLBACK n) (bits v.toNat 12 4)
    if t.on (Reg.EVC_PEND n) && t.evTarget n != s.evTarget n then (t.wakeFor n).powerFor n else t)

/-- The pending event cannot be delivered to its target (R382). -/
def State.undeliverable (s : State) (n : Fin 128) : Bool :=
  let e := s.rd (Reg.EVC_SRC_CFG_TARGET n)
  (s.on (Reg.EVC_ENG_STATE_WFI e) && !s.on (Reg.EVC_SRC_CFG_WAKE_EN n)) || !s.domOpen (engDomain e) ||
  s.on (Reg.EVC_ENG_CTRL_HOLD e) || s.on (Reg.FLT_FENCE_ENG e)

/-- REDIRECT_TIMEOUT: this one pending event goes to FALLBACK (R382). -/
def execRedirectTimeout (n : Fin 128) (s : State) : Res :=
  .next (
    if s.on (Reg.EVC_SRC_CFG_EN n) && s.on (Reg.EVC_PEND n) && !s.evc.redirected[n] && s.rd (Reg.EVC_SRC_CFG_REDIRECT_TMO n) != 0 && s.undeliverable n then
      let t := { s with evc := { s.evc with redirected := s.evc.redirected.set n true } }
      (((t.inc Reg.EVC_REDIR_CNT_COUNT).raise FLT_EVC_REDIRECT (0x20031000 + n * 0x10) (some (s.rd (Reg.EVC_SRC_CFG_TARGET n)))).wakeFor n).powerFor n
    else s)

/-- ENGINE_HOLD (R372). -/
def execEngineHold (m : Master) (e : Fin 16) (v : Word) (s : State) : Res :=
  .next (s.busWrite m (0x20030800 + e * 0x40) v fun s =>
    if v.toNat.testBit 0 then (s.resetEngine e).wr (Reg.EVC_ENG_CTRL_HOLD e) 1 else s)

/-- ENGINE_RELEASE: a clear of HOLD starts the engine at its reset vector (R372); a fenced engine stays in reset (R359). -/
def execEngineRelease (m : Master) (e : Fin 16) (v : Word) (s : State) : Res :=
  .next (s.busWrite m (0x20030800 + e * 0x40) v fun s =>
    if v.toNat.testBit 0 || !s.on (Reg.EVC_ENG_CTRL_HOLD e) then s
    else
      let t := s.wr (Reg.EVC_ENG_CTRL_HOLD e) 0
      if t.engRuns e then t.startEngine e else t)

/-- APER_CHANGE (R371). -/
def execAperChange (m : Master) (e : Fin 16) (v : Word) (s : State) : Res :=
  .next (s.busWrite m (0x20030800 + e * 0x40) v fun s => s.wr (Reg.EVC_ENG_CTRL_APER e) (bits v.toNat 1 1))

/-- Both watchdog stages restart (R374); WARN acts from the next kick (R386). -/
def State.kickWdt (s : State) (e : Fin 16) : State :=
  s.setEng e { s.eng e with wdtStopped := false, wdtWarned := false, wdtWarn := s.rd (Reg.EVC_ENG_WDT_TIME_WARN e) }

/-- WDT_ENABLE (R374). -/
def execWdtEnable (m : Master) (e : Fin 16) (v : Word) (s : State) : Res :=
  .next (s.busWrite m (0x20030814 + e * 0x40) v fun s =>
    if v.toNat.testBit 0 && !s.on (Reg.EVC_ENG_WDT_CTRL_EN e) then (s.wr (Reg.EVC_ENG_WDT_CTRL_EN e) 1).kickWdt e else s)

/-- FLT_ENG_WDT for an engine (R374). -/
def State.wdtFault (s : State) (e : Fin 16) : State := s.raise FLT_ENG_WDT (0x20030814 + e * 0x40) (some e)

/-- WDT_KICK: 0x4B1C kicks, any other value raises FLT_ENG_WDT at once (R374). -/
def execWdtKick (m : Master) (e : Fin 16) (v : Word) (s : State) : Res :=
  .next (s.busWrite m (0x2003081C + e * 0x40) v fun s => if v = 0x4B1C then s.kickWdt e else s.wdtFault e)

/-- The engine's watchdog counts (R374). -/
def State.wdtCounts (s : State) (e : Fin 16) : Bool :=
  s.on (Reg.EVC_ENG_WDT_CTRL_EN e) && !(s.eng e).wdtStopped && !s.on (Reg.EVC_ENG_CTRL_HOLD e) && !s.on (Reg.FLT_FENCE_ENG e) &&
  !(s.on (Reg.EVC_ENG_WDT_CTRL_PAUSE_WFI e) && s.on (Reg.EVC_ENG_STATE_WFI e))

/-- WDT_WARN_EXPIRY: the first stage expires; it does not fire where WARN ≥ TMO (R374). -/
def execWdtWarnExpiry (e : Fin 16) (s : State) : Res :=
  .next (
    if s.wdtCounts e && !(s.eng e).wdtWarned && decide ((s.eng e).wdtWarn < max 1 (s.rd (Reg.EVC_ENG_WDT_TIME_TMO e))) then
      (s.setEng e { s.eng e with wdtWarned := true }).raise FLT_ENG_WDT_WARN (0x20030814 + e * 0x40) (some e)
    else s)

/-- WDT_TIMEOUT: the second stage expires and the count stops until the next kick (R374). -/
def execWdtTimeout (e : Fin 16) (s : State) : Res :=
  .next (if s.wdtCounts e then (s.setEng e { s.eng e with wdtStopped := true }).wdtFault e else s)

end Sys2Proof.Machine
end

