-- ==== Sys2Proof/Machine/NetOps.lean ====
section
/-! DEFINITION. The operations of the network ports: frames and their checks, descriptor rings, PRP and PTP
(spec/13_network_time.md R291 to R304). -/

namespace Sys2Proof.Machine

/-! Frames. Offsets count from the destination address. -/

/-- The frame carries an 802.1Q tag. -/
def ethTagged (f : List Byte) : Bool := beAt f 12 2 == 0x8100
/-- Where the EtherType ends, after at most one tag. -/
def ethPay (f : List Byte) : Nat := if ethTagged f then 18 else 14
/-- The EtherType after at most one tag. -/
def ethType (f : List Byte) : Nat := beAt f (ethPay f - 2) 2

/-- The sum of big-endian 16-bit words, a last odd byte padded with 0. -/
def wordSum : List Byte → Nat
  | [] => 0
  | [a] => a.toNat * 256
  | a :: b :: r => a.toNat * 256 + b.toNat + wordSum r

/-- A one's-complement sum folded to 16 bits. -/
def ocFold (n : Nat) : Nat := if n = 0 then 0 else (n - 1) % 65535 + 1

/-- The internet checksum of bytes whose own checksum field holds 0. -/
def inetSum (n : Nat) : Nat := 65535 - ocFold n

/-- An IPv4 header (IHL 5 to 15) begins at the payload. -/
def ip4At (f : List Byte) : Bool :=
  ethType f == 0x0800 && byteAt f (ethPay f) / 16 == 4 && decide (5 ≤ byteAt f (ethPay f) % 16) &&
  decide (ethPay f + 4 * (byteAt f (ethPay f) % 16) ≤ f.length)
/-- Bytes of the IPv4 header. -/
def ip4Len (f : List Byte) : Nat := 4 * (byteAt f (ethPay f) % 16)
/-- The IPv4 header checksum holds (R292). -/
def ip4Ok (f : List Byte) : Bool := ip4At f && ocFold (wordSum (slice f (ethPay f) (ip4Len f))) == 65535

/-- A UDP datagram in a frame: over IPv6, and the offset of its header. -/
structure UdpAt where
  v6 : Bool
  at' : Nat
deriving DecidableEq, Repr

/-- The UDP datagram of a frame: over IPv4 unfragmented, or over IPv6 with no extension header (R292, R302). -/
def udpOf (f : List Byte) : Option UdpAt :=
  let p := ethPay f
  let u : Option UdpAt :=
    if ip4At f && byteAt f (p + 9) == 17 && beAt f (p + 6) 2 % 16384 == 0 then some ⟨false, p + ip4Len f⟩
    else if ethType f == 0x86DD && byteAt f p / 16 == 6 && byteAt f (p + 6) == 17 then some ⟨true, p + 40⟩
    else none
  match u with
  | none => none
  | some u =>
    let len := beAt f (u.at' + 4) 2
    if 8 ≤ len ∧ u.at' + len ≤ f.length then some u else none

/-- Bytes of the datagram. -/
def udpLen (f : List Byte) (u : UdpAt) : Nat := beAt f (u.at' + 4) 2
/-- The sum that a UDP checksum covers, pseudo-header and checksum field included. -/
def udpSum (f : List Byte) (u : UdpAt) : Nat :=
  let p := ethPay f
  (if u.v6 then wordSum (slice f (p + 8) 32) else wordSum (slice f (p + 12) 8)) + 17 + udpLen f u + wordSum (slice f u.at' (udpLen f u))
/-- The UDP checksum is present: over IPv4 a field of 0 says that there is none. -/
def udpHasSum (f : List Byte) (u : UdpAt) : Bool := u.v6 || beAt f (u.at' + 6) 2 != 0
/-- The UDP checksum holds. -/
def udpOk (f : List Byte) (u : UdpAt) : Bool := beAt f (u.at' + 6) 2 != 0 && ocFold (udpSum f u) == 65535

/-- Bytes of a list replaced from offset `o`. -/
def patch (f : List Byte) (o : Nat) (bs : List Byte) : List Byte := f.take o ++ bs ++ f.drop (o + bs.length)

/-- The IPv4 header checksum and the UDP checksum inserted (R292). -/
def insertSums (f : List Byte) : List Byte :=
  let f := if ip4At f then
      let z := patch f (ethPay f + 10) [0, 0]
      patch z (ethPay f + 10) (beBytes 2 (inetSum (wordSum (slice z (ethPay f) (ip4Len f)))))
    else f
  match udpOf f with
  | none => f
  | some u =>
    let z := patch f (u.at' + 6) [0, 0]
    let c := inetSum (udpSum z u)
    patch z (u.at' + 6) (beBytes 2 (if c = 0 then 0xFFFF else c))

/-- Where the PTP message of a frame begins, for a PTP frame (R302). -/
def ptpOf (f : List Byte) : Option Nat :=
  if ethType f = 0x88F7 then some (ethPay f)
  else match udpOf f with
    | none => none
    | some u => if beAt f (u.at' + 2) 2 = 319 ∨ beAt f (u.at' + 2) 2 = 320 then some (u.at' + 8) else none

/-- Past the extension headers of an IPv6 datagram (RFC 8200; log entry 30): the offset of the UDP header, from next header `nh` at offset `o`. -/
def ip6Udp (f : List Byte) : Nat → Nat → Nat → Option Nat
  | 0, _, _ => none
  | n + 1, nh, o =>
    if nh = 17 then some o
    else if nh = 0 ∨ nh = 43 ∨ nh = 60 ∨ nh = 135 then ip6Udp f n (byteAt f o) (o + 8 * (byteAt f (o + 1) + 1))
    else if nh = 51 then ip6Udp f n (byteAt f o) (o + 4 * (byteAt f (o + 1) + 2))
    else if nh = 44 ∧ beAt f (o + 2) 2 / 8 = 0 then ip6Udp f n (byteAt f o) (o + 8)
    else none

/-- The UDP header of a frame, over IPv4 or IPv6, that holds a destination port (spec/14 R338): options, extension headers, a first fragment
and any UDP length are let through. -/
def udpHead (f : List Byte) : Option Nat :=
  let p := ethPay f
  let u := if ip4At f then (if byteAt f (p + 9) = 17 ∧ beAt f (p + 6) 2 % 8192 = 0 then some (p + ip4Len f) else none)
    else if ethType f = 0x86DD ∧ byteAt f p / 16 = 6 then ip6Udp f 16 (byteAt f (p + 6)) (p + 40)
    else none
  u.filter (fun o => decide (o + 8 ≤ f.length))

/-- The safe message of a frame, from its first byte, for a frame that matches the filter (spec/14 R338); on AQPX2-BG484-I no frame does
(R321). -/
def State.safeOf (s : State) (f : List Byte) : Option (List Byte) :=
  let et := s.rd Reg.SAFE_MSG_FILT_ETYPE
  let up := s.rd Reg.SAFE_MSG_FILT_UDP_PORT
  if !s.part.safeCapable then none
  else if et ≠ 0 ∧ ethType f = et then some (f.drop (ethPay f))
  else match udpHead f with
    | none => none
    | some o => if up ≠ 0 ∧ beAt f (o + 2) 2 = up then some (f.drop (o + 8)) else none

/-! Reception (R292). -/

/-- MAX_LEN: values outside 64 to 9,216 act as the nearer limit (R315). -/
def State.maxLen (s : State) (n : Nat) : Nat := max 64 (min 9216 (s.rd (Reg.NET_FRAME_MAX_LEN n)))

/-- The frame, FCS included, is whole: not short, not long, its FCS right. -/
def State.frameWhole (s : State) (n : Nat) (f : List Byte) : Bool :=
  decide (64 ≤ f.length ∧ f.length ≤ s.maxLen n) && leAt f (f.length - 4) 4 == crc32 (f.take (f.length - 4))

/-- The VLAN filter passes the frame. -/
def State.vlanOk (s : State) (n : Nat) (f : List Byte) : Bool :=
  if ethTagged f then
    (List.range 16).any (fun i => s.on (Reg.NET_VLAN_EN n i) && s.rd (Reg.NET_VLAN_VID n i) == beAt f 14 2 % 4096)
  else s.on (Reg.NET_FRAME_UNTAG_OK n)

/-- The address filter passes the frame. -/
def State.addrPass (s : State) (n : Nat) (f : List Byte) : Bool :=
  let d := f.take 6
  let bin := crc32 d / 2 ^ 26
  s.on (Reg.NET_CTRL_PROMISC n) ||
  (leAt d 0 4 == s.rd (Reg.NET_MAC_LO_ADDR n) && leAt d 4 2 == s.rd (Reg.NET_MAC_HI_ADDR n)) ||
  be d == 0xFFFFFFFFFFFF ||
  (byteAt d 0 % 2 == 1 && s.on (if bin < 32 then Reg.NET_MCHASH_LO n bin else Reg.NET_MCHASH_HI n (bin - 32))) ||
  (s.on (Reg.NET_CTRL_PTP_EN n) && (be d == 0x011B19000000 || be d == 0x0180C200000E))

/-- An 802.3 pause frame for this port. -/
def State.isPause (s : State) (n : Nat) (f : List Byte) : Bool :=
  let d := f.take 6
  beAt f 12 4 == 0x88080001 &&
  (be d == 0x0180C2000001 || (leAt d 0 4 == s.rd (Reg.NET_MAC_LO_ADDR n) && leAt d 4 2 == s.rd (Reg.NET_MAC_HI_ADDR n)))

/-- A pause frame holds transmission for its quanta of 512 bit times (R292). -/
def State.pauseFor (s : State) (n : Fin 2) (quanta : Nat) : State :=
  let ticks := match s.rd (Reg.NET_STATUS_SPEED n) with
    | 1 => quanta * 2048
    | 2 => ceilDiv (quanta * 1024) 5
    | _ => ceilDiv (quanta * 2048) 25
  { s with net := { s.net with pause := s.net.pause.set n (s.now + ticks) } }

/-! Rings (R294 to R297). -/

/-- Entries of a ring: SIZE outside 4 to 10 acts as the nearer limit. -/
def ringSize (w : Nat) : Nat := 2 ^ max 4 (min 10 w)
/-- The descriptor at the head of the receive ring, and of the transmit ring. -/
def State.rxDesc (s : State) (n : Nat) : Nat := s.rd (Reg.NET_RXRING_ADDR n) * 64 + 32 * s.rd (Reg.NET_HEAD_RX_HEAD n)
def State.txDesc (s : State) (n : Nat) : Nat := s.rd (Reg.NET_TXRING_ADDR n) * 64 + 32 * s.rd (Reg.NET_HEAD_TX_HEAD n)
/-- The head moves to the next descriptor. -/
def State.rxNext (s : State) (n : Fin 2) : State :=
  s.wr (Reg.NET_HEAD_RX_HEAD n) ((s.rd (Reg.NET_HEAD_RX_HEAD n) + 1) % ringSize (s.rd (Reg.NET_RXRING_SIZE n)))
def State.txNext (s : State) (n : Fin 2) : State :=
  s.wr (Reg.NET_HEAD_TX_HEAD n) ((s.rd (Reg.NET_HEAD_TX_HEAD n) + 1) % ringSize (s.rd (Reg.NET_TXRING_SIZE n)))

/-- A ring stops at its head: DMA_ERR and FLT_NET_DMA (R297). -/
def State.ringStop (s : State) (n : Fin 2) (tx : Bool) (addr : Nat) (acc : Access) : State :=
  let s : State := { s with net := if tx then { s.net with txStopped := s.net.txStopped.set n true }
                                   else { s.net with rxStopped := s.net.rxStopped.set n true } }
  ((s.wr (Reg.NET_STATUS_DMA_ERR n) 1).fire 54).raiseOcc
    { src := FLT_NET_DMA, unit := some n, addr := addr, master := .netDma n, access := acc }

/-- A read of the ring has failed at `a`: the bus error, and the stop of the ring (R297). -/
def State.ringRead (s : State) (n : Fin 2) (tx : Bool) (a : Nat) : State := (s.readErr (.netDma n) a).ringStop n tx a .read

/-- The bytes lie in shared SRAM. -/
def inShared (a len : Nat) : Bool := decide (0x10000000 ≤ a ∧ a + len ≤ 0x10800000)
/-- The two domains' stamps at a frame's timestamp point moved by `lat` quarter nanoseconds: TS_A, TS_B, TS_SEC and the VALID bits (R301). -/
def State.tdStamp (s : State) (d : Fin 2) (lat : Int) : Nat := if s.tdOn d then (((s.td d).t : Int) + lat * 2 ^ 26).toNat else 0
def State.stamps (s : State) (lat : Int) : List Byte × Nat :=
  let a := s.tdStamp 0 lat
  let b := s.tdStamp 1 lat
  (leBytes 4 (a / nsUnit) ++ leBytes 4 (b / nsUnit) ++ leBytes 2 (a / nsUnit / giga) ++ leBytes 2 (b / nsUnit / giga),
   b2n (s.tdOn 0) + 2 * b2n (s.tdOn 1))

/-- RX_HOLDOFF has passed since the last NETk_RX (R315). -/
def State.rxDue (s : State) (n : Fin 2) : Bool :=
  match s.net.rxEvent[n] with
  | none => true
  | some t => decide (t + s.rd (Reg.NET_RXCFG_RX_HOLDOFF n) * 400 ≤ s.now)

/-- NETk_RX, at most once per RX_HOLDOFF (R313, R315). -/
def State.rxEvent (s : State) (n : Fin 2) : State :=
  if s.rxDue n then State.fire { s with net := { s.net with rxEvent := s.net.rxEvent.set n (some s.now) } } (48 + 3 * n) else s

/-- A frame counted in DROP (R292, R295). -/
def State.netDrop (s : State) (n : Fin 2) : State := s.inc (Reg.NET_CNT_RX_HI n)

/-- What a received frame is, once filtered: its bytes without FCS and RCT, and the RCT's sequence number where it has one. -/
structure RxFrame where
  port : Fin 2
  data : List Byte
  seq : Option Nat
  wrong : Bool
  safe : Bool
deriving DecidableEq, Repr

/-- The receive status bits that the frame itself decides (R295). -/
def RxFrame.status (x : RxFrame) : Nat :=
  let u := udpOf x.data
  let l4 := match u with
    | none => (false, false)
    | some u => (udpHasSum x.data u, udpHasSum x.data u && udpOk x.data u)
  b2n (ip4Ok x.data) + 2 * b2n l4.2 + 4 * b2n l4.1 + 8 * b2n (ethTagged x.data) + 16 * b2n x.seq.isSome + 32 * b2n x.wrong + 64 * b2n x.safe

/-- A write of received data by the port, block by block as any write is, and the first address at which a bus error or an uncorrectable error
met it. -/
def State.rxWrite (s : State) (r : Fin 2) (a : Nat) (data : List Byte) (errs : List (Fin 72 × Byte)) : State × Option Nat :=
  s.storeTry (.master (.netDma r)) (s.actsFor (.netDma r)) a data [errs]

/-- A descriptor is written back, HW last, from `fields` at its byte `o` and `flags` (R294); a write that fails stops the ring (R297), which
the flag says. -/
def State.descBack (s : State) (r : Fin 2) (tx : Bool) (d o : Nat) (fields : List Byte) (flags : Byte) : State × Bool :=
  let a := s.rxWrite r (d + o) fields []
  match a.2 with
  | some x => (a.1.ringStop r tx x .write, true)
  | none =>
    let b := a.1.rxWrite r (d + 5) [flags] []
    match b.2 with
    | some x => (b.1.ringStop r tx x .write, true)
    | none => (b.1, false)

/-- The descriptor of a handled frame written back and the head moved on (R294, R295). -/
def State.rxWriteBack (s : State) (r : Fin 2) (d : Nat) (x : RxFrame) (errBuf : Bool) : State :=
  let ts := s.stamps (-(s.rd (Reg.NET_TS_LAT_RX_LAT x.port) : Int))
  let st := x.status + 128 * ts.2 + 512 * b2n errBuf
  let q := s.descBack r false d 8
    (leBytes 2 x.data.length ++ leBytes 2 st ++ leBytes 2 (x.seq.getD 0) ++ leBytes 1 x.port.val ++ [0] ++ ts.1 ++ [0, 0, 0, 0]) 0
  if q.2 then q.1
  else
    let s := q.1.rxNext r
    (if errBuf then s else s.inc (Reg.NET_CNT_RX_LO x.port)).rxEvent r

/-- A frame is delivered to the receive ring of port `r`, or dropped (R294, R295, R297). -/
def State.deliver (s : State) (r : Fin 2) (x : RxFrame) (ue : Bool) (errs : List (Fin 72 × Byte)) : State :=
  let d := s.rxDesc r
  if s.net.rxStopped[r] then s
  else if ue || !s.readable d then s.ringRead r false d
  else if !(s.byte (d + 5)).toNat.testBit 0 then ((s.wr (Reg.NET_STATUS_NOBUF r) 1).inc (Reg.NET_CNT_ERR_LO r)).fire 54
  else
    let a := s.num d 5 % 2 ^ 36
    let n := x.data.length
    let owned := (s.slotsOf a n).all (fun k => !s.slotBlocks k (s.actsFor (.netDma r)))
    let inWin := decide (s.winBase ≤ a ∧ a + n ≤ s.winBase + s.rd Reg.WIN_CFG_COUNT * s.slotSize) && s.on Reg.WIN_CTRL_EN
    if s.num (d + 6) 2 < n then s.netDrop x.port
    else if !inShared a n && !inWin then s.rxWriteBack r d x true
    else if !owned then
      let k := ((s.slotsOf a n).find? (fun k => s.slotBlocks k (s.actsFor (.netDma r)))).getD 0
      (s.slotBlocked k (.netDma r)).rxWriteBack r d x true
    else
      let w := s.rxWrite r a x.data errs
      match w.2 with
      | some b => w.1.ringStop r false b .write
      | none => w.1.rxWriteBack r d x false

/-! PRP (R298 to R300). -/

/-- LSDUsize of a frame of `len` bytes, RCT included and FCS not. -/
def lsduSize (f : List Byte) (len : Nat) : Nat := (len - ethPay f) % 4096

/-- The LAN identifier of a port. -/
def lanId (n : Fin 2) : Nat := if n = 0 then 0xA else 0xB

/-- The frame, without its FCS, has an RCT. -/
def hasRct (f : List Byte) : Bool :=
  decide (20 ≤ f.length) && beAt f (f.length - 2) 2 == 0x88FB && beAt f (f.length - 4) 2 % 4096 == lsduSize f f.length

/-- The RCT of a frame sent on port `n`. -/
def rctOf (f : List Byte) (seq : Nat) (n : Fin 2) : List Byte :=
  beBytes 2 seq ++ beBytes 2 (lanId n * 4096 + lsduSize f (f.length + 6)) ++ [0x88, 0xFB]

/-- DUP_TMO in ticks; 0 acts as 1 (R315). -/
def State.dupTmo (s : State) : Nat := max 1 (s.rd (Reg.NET_PRP_DUP_TMO 0)) * 400000

/-- The duplicate table without what is older than DUP_TMO. -/
def State.dupLive (s : State) : List DupEntry := s.net.dup.filter (fun e => decide (s.now < e.seen + s.dupTmo))

/-- The frame's key is in the table from the other port. -/
def State.isDup (s : State) (src : List Byte) (seq : Nat) (n : Fin 2) : Bool :=
  s.dupLive.any (fun e => e.src == src && e.seq == seq && e.port != n.val)

/-- The frame's key is recorded; a new key that finds the table full evicts the oldest entry (R299). -/
def State.dupRecord (s : State) (src : List Byte) (seq : Nat) (n : Fin 2) : State :=
  let t := s.dupLive
  let rest := t.filter (fun e => !(e.src == src && e.seq == seq))
  let full := rest.length == t.length && decide (512 ≤ t.length)
  let e : DupEntry := { src := src, seq := seq, port := n, seen := s.now }
  let s : State := { s with net := { s.net with dup := (if full then rest.drop 1 else rest) ++ [e] } }
  if full then (s.inc (Reg.NET_CNT_PRP_EVICT 0)).fire 55 else s

/-! Transmission (R296 to R298, R303, R304). -/

/-- The UDP checksum repaired after bytes of the frame were rewritten (R304): over IPv4 set to 0; over IPv6 the last 2 bytes of the
payload take up the one's-complement difference. -/
def repairSum (before after : List Byte) : List Byte :=
  if ethType before = 0x88F7 then after
  else match udpOf before with
    | none => after
    | some u =>
      if !u.v6 then patch after (u.at' + 6) [0, 0]
      else
        let len := udpLen before u
        let last := u.at' + len - 2
        let dif := ocFold (wordSum (slice before u.at' len) + (65535 - ocFold (wordSum (slice after u.at' len))))
        let sw := if len % 2 = 0 then dif else dif % 256 * 256 + dif / 256
        patch after last (beBytes 2 (ocFold (beAt after last 2 + sw)))

/-- The one-step rewrite of a frame that leaves at `t` (2^-28 ns) of its domain, and whether ERR_PTP is set (R303). -/
def oneStep (f : List Byte) (one pdelay : Bool) (t ingress : Nat) : List Byte × Bool :=
  match ptpOf f with
  | none => (f, one)
  | some p =>
    let ty := byteAt f p % 16
    let corr (x : Nat) : List Byte := patch f (p + 8) (beBytes 8 ((beAt f (p + 8) 8 + x) % 2 ^ 64))
    if pdelay ∧ ty = 3 then
      let n := (t / nsUnit + 2 ^ 32 - ingress) % 2 ^ 32
      (repairSum f (corr (n * 65536 + t % nsUnit / 4096)), false)
    else if one ∧ ty = 0 ∧ p + 44 ≤ f.length then
      (repairSum f (patch (corr (t % nsUnit / 4096)) (p + 34) (beBytes 6 (t / nsUnit / giga) ++ beBytes 4 (t / nsUnit % giga))), false)
    else (f, one)

/-- A frame padded to the 60 bytes that Ethernet asks for before the FCS. -/
def padFrame (f : List Byte) : List Byte := f ++ List.replicate (60 - f.length) 0

/-- A copy of a frame leaves port `n`, with its FCS. -/
def State.netSend (s : State) (n : Fin 2) (f : List Byte) : State :=
  let s : State := { s with net := { s.net with out := s.net.out.set n (s.net.out[n] ++ [f ++ leBytes 4 (crc32 f)]) } }
  s.inc (Reg.NET_CNT_TX_LO n)

/-- The port reads the descriptor at HEAD and stops where its HW bit is 0 (R294), or where the read fails (R297), as `ue` says of an
uncorrectable error. -/
def State.txScan (s : State) (n : Fin 2) (ue : Bool) : State :=
  let d := s.txDesc n
  if ue || !s.readable d then s.ringRead n true d
  else { s with net := { s.net with txRun := s.net.txRun.set n ((s.byte (d + 5)).toNat.testBit 0) } }

/-- A transmit descriptor written back, the head moved on and the next descriptor read (R294, R296). -/
def State.txWriteBack (s : State) (n : Fin 2) (d : Nat) (ts : List Byte) (st : Nat) (ue : Bool) : State :=
  let fl := (s.byte (d + 5)).toNat
  let q := s.descBack n true d 12 ([0, 0, 0, 0] ++ ts ++ leBytes 2 st ++ [0, 0]) (BitVec.ofNat 8 (fl / 2 * 2))
  if q.2 then q.1 else ((q.1.txNext n).fire (49 + 3 * n)).txScan n ue

/-- A frame of `n`'s transmit ring leaves: departure stamps, one-step rewrite, RCT and twin, write-back. -/
def State.txGo (s : State) (n : Fin 2) (d : Nat) (f : List Byte) (ue : Bool) : State :=
  let fl := (s.byte (d + 5)).toNat
  let prp := n == 0 && s.on (Reg.NET_CTRL_PRP_EN 0) && fl.testBit 5
  let dom : Fin 2 := if fl.testBit 3 then 1 else 0
  let g := if fl.testBit 4 then insertSums f else f
  let seq := s.rd (Reg.NET_PRP_TX_SEQ 0)
  let lat (k : Fin 2) : Int := s.rd (Reg.NET_TS_LAT_TX_LAT k)
  let made (k : Fin 2) : List Byte × Bool := oneStep g (fl.testBit 1) (fl.testBit 2) (s.tdStamp dom (lat k)) (s.num (d + 8) 4)
  let whole (k : Fin 2) : List Byte :=
    let p := padFrame (made k).1
    if prp then p ++ rctOf p seq k else p
  let ts := s.stamps (lat n)
  let bad := (made n).2
  let s := s.netSend n (whole n)
  let s := if prp && s.on (Reg.NET_CTRL_EN 1) then s.netSend 1 (whole 1) else s
  let s := if prp then s.wr (Reg.NET_PRP_TX_SEQ 0) ((seq + 1) % 65536) else s
  let s := if bad then s.inc (Reg.NET_CNT_TX_HI n) else s
  s.txWriteBack n d ts.1 (1 + 2 * b2n bad + 16 * ts.2) ue

/-- A set or clear of NET_CTRL.EN, and the TX lane with it (R291). -/
def State.netEnable (s : State) (n : Fin 2) (en : Bool) : State :=
  (s.wrB (Reg.NET_CTRL_EN n) en).showLane (Fin.ofNat 15 (13 + n))

end Sys2Proof.Machine
end

