-- ==== Sys2Proof/Machine/Lane.lean ====
section
/-! DEFINITION. The commands of the serial lanes (spec/08_serial_lanes.md R195 to R213). -/

namespace Sys2Proof.Machine

/-- The register address of lane `j`. -/
def laneAddr (j : Fin 15) : Nat := 0x200C0000 + j.val * 0x100

/-- The tile port of a lane below 12 (R195). -/
def lanePort (j : Fin 15) : Option (Fin 12) := if j.val < 12 then some (Fin.ofNat 12 j) else none

/-- A receiver that has block lock loses lock (R205): LOSS, its count, and what the owning tile port makes of it (R156 code 0x07,
R190). -/
def State.laneLoss (s : State) (j : Fin 15) : State :=
  if !s.on (Reg.LANE_STATUS_BLOCK_LOCK j) then s
  else
    let s := (((s.laneUnlock j).wr (Reg.LANE_STATUS_LOSS j) 1).inc (Reg.LANE_CNT_LOSS j))
    let st := s.rd (Reg.LANE_STATUS_STATE j)
    let s := if st = 5 ∨ st = 4 then s.laneState j 3 else s
    match lanePort j with
    | none => s
    | some p => if s.tlState p = 1 then s.tlFail p 7 else if s.tlUp p then s.tlLost p else s

/-- LANE_IDLE_REQ (R202, R203). -/
def execLaneIdleReq (j : Fin 15) (m : Master) (v : Word) (s : State) : Res :=
  .next (s.busWrite m (laneAddr j) v fun s => (s.wrB (Reg.LANE_CTRL_IDLE_REQ j) (v.toNat.testBit 0)).showLane j)

/-- The receiver meets all three conditions of LOCKED, the score being that of its last window (R205). -/
def State.laneLocks (s : State) (j : Fin 15) : Bool :=
  s.on (Reg.LANE_STATUS_CDR_LOCK j) && s.on (Reg.LANE_STATUS_BLOCK_LOCK j) &&
    decide (s.rd (Reg.LANE_THRESH_EYE_MIN j) ≤ s.rd (Reg.LANE_EYE_SCORE j))

/-- IDLE_EXIT: the training burst and a FILL block leave a lane of the 64b/66b coding (R195, R203). `marker` is what the lane's own receiver
took for the marker of the burst that reached it, under LOOPBACK the lane's own: within two bit errors, a receiver that has kept its lock is
LOCKED again, or adapts first where ADAPT waits (R208); without, it starts a block-lock search (R204). A receiver that has not kept it locks
anew. -/
def execIdleExit (j : Fin 15) (marker : Option Word) (s : State) : Res :=
  .next (
    if s.rd (Reg.LANE_STATUS_STATE j) ≠ 2 then s
    else
      let net := decide (12 < j.val)
      let found := net || s.on (Reg.LANE_CTRL_LOOPBACK j) || marker.any (fun w => markerFound w.toNat)
      let s := if found then s else s.wr (Reg.LANE_STATUS_BLOCK_LOCK j) 0
      let s := s.laneState j (if !s.laneLocks j then 3 else if s.on (Reg.LANE_CTRL_ADAPT j) then 4 else 5)
      let x := s.lane.pair[j]
      if net then s else (s.setLane j { x with line := x.line ++ [.burst (BitVec.ofNat 128 burstBits)] }).laneBlock j fillBlock)

/-- LANE_LOCK_ACQUIRED: CDR lock, block lock and, adaptation done (R208), an eye score of at least EYE_MIN (R205). A tile port in training goes on
(R153). -/
def execLaneLockAcquired (j : Fin 15) (h v : Fin 65) (s : State) : Res :=
  let st := s.rd (Reg.LANE_STATUS_STATE j)
  .next (
    if (st ≠ 2 ∧ st ≠ 3 ∧ st ≠ 4) ∨ eyeScore h v < s.rd (Reg.LANE_THRESH_EYE_MIN j) then s
    else
      let s := ((s.wr (Reg.LANE_STATUS_CDR_LOCK j) 1).wr (Reg.LANE_STATUS_BLOCK_LOCK j) 1).showEye j h v
      let s := (s.wr (Reg.LANE_CTRL_ADAPT j) 0).laneState j 5
      match lanePort j with
      | none => s
      | some p =>
        if s.tlState p ≠ 1 then s
        else match (s.port p).train with
          | .lock => s.setPort p { s.port p with train := .caps }
          | .relockSlow => s.setPort p { s.port p with train := .probe }
          | _ => s)

/-- LANE_LOCK_LOSS (R205, R207): 16 or more invalid sync headers in 64, or 1 ms of windows whose best score is below EYE_LOSS. -/
def execLaneLockLoss (j : Fin 15) (cause : LossCause) (s : State) : Res :=
  .next (
    match cause with
    | .headers n => if 16 ≤ n.val then s.laneLoss j else s
    | .eye h v => if eyeScore h v < s.rd (Reg.LANE_THRESH_EYE_LOSS j) then s.laneLoss j else s)

/-- LANE_LOCK_TIMEOUT: 2 ms without LOCKED end the training of a tile lane with code 0x07 (R208); a lane that searches after a fast
exit, or adapts anew, has then lost lock (R204, R205). A relock at 6.4 Gb/s that fails is RATE_RELOCK's. -/
def execLaneLockTimeout (j : Fin 15) (s : State) : Res :=
  .next (
    let st := s.rd (Reg.LANE_STATUS_STATE j)
    let search := decide (2 ≤ st ∧ st ≤ 4)
    let lost (s : State) : State := ((s.laneUnlock j).wr (Reg.LANE_STATUS_LOSS j) 1).inc (Reg.LANE_CNT_LOSS j)
    match lanePort j with
    | none => if search && s.laneOwned j then lost s else s
    | some p =>
      if s.tlState p = 1 then
        match (s.port p).train with
        | .lock | .relockSlow => s.tlFail p 7
        | .caps | .probe | .config => if search then (lost s).tlFail p 7 else s
        | _ => s
      else if search && s.tlUp p then (lost s).tlLost p
      else s)

/-- EYE_WINDOW_END (R206 to R208): LANE_EYE updates, and the DFE's taps as they have adapted. While LOCKED, EYE_LOW is set or cleared; at a
lock or a rate change the first window shows that the CDR has locked and that adaptation runs. -/
def execEyeWindowEnd (j : Fin 15) (h v : Fin 65) (taps : BitVec 30) (s : State) : Res :=
  .next (
    let st := s.rd (Reg.LANE_STATUS_STATE j)
    if st < 3 ∨ 5 < st then s
    else
      let s := (s.showEye j h v).wr (Reg.LANE_DFE_TAPS j) taps.toNat
      if st ≠ 5 then (s.wr (Reg.LANE_STATUS_CDR_LOCK j) 1).laneState j 4
      else if eyeScore h v < s.rd (Reg.LANE_THRESH_EYE_OK j) then (s.wr (Reg.LANE_STATUS_EYE_LOW j) 1).fire 41
      else s.wr (Reg.LANE_STATUS_EYE_LOW j) 0)

/-- LANE_ADAPT (R208): adaptation runs at once on a receiver that searches or is LOCKED; on another ADAPT waits for the next lock. -/
def execLaneAdapt (j : Fin 15) (m : Master) (v : Word) (s : State) : Res :=
  .next (s.busWrite m (laneAddr j) v fun s =>
    if v.toNat.testBit 8 then
      let s := s.wr (Reg.LANE_CTRL_ADAPT j) 1
      let st := s.rd (Reg.LANE_STATUS_STATE j)
      if st = 5 ∨ st = 3 then s.laneState j 4 else s
    else s)

/-- The CTLE code with the highest score, the lower code of a tie (R208). -/
def bestCtle (scores : List Byte) : Nat :=
  (List.range 16).foldl (fun b c => if byteAt scores b < byteAt scores c then c else b) 0

/-- ADAPTATION_DONE (R208): the best CTLE code and the DFE taps are kept, the final score shown. A lane that has block lock
is LOCKED with a score of at least EYE_MIN (R205); at a lock, LANE_LOCK_ACQUIRED follows. -/
def execAdaptationDone (j : Fin 15) (scores : List Byte) (h v : Fin 65) (taps : BitVec 30) (s : State) : Res :=
  let st := s.rd (Reg.LANE_STATUS_STATE j)
  .next (
    if st ≠ 3 ∧ st ≠ 4 then s
    else
      let s := ((s.showEye j h v).wr (Reg.LANE_EYE_CTLE j) (bestCtle scores)).wr (Reg.LANE_DFE_TAPS j) taps.toNat
      let s := (s.wr (Reg.LANE_CTRL_ADAPT j) 0).wr (Reg.LANE_STATUS_CDR_LOCK j) 1
      s.laneState j (if s.laneLocks j then 5 else 4))

/-- LANE_PRBS_CONFIG: accepted while the owning port is disabled, else a non-zero pattern is ignored and sets WERR (R209). A generator starts
anew with its pattern (log entry 43). -/
def execLanePrbsConfig (j : Fin 15) (m : Master) (v : Word) (s : State) : Res :=
  .next (s.busWrite m (laneAddr j) v fun s =>
    let tx := bits v.toNat 1 3
    let rx := bits v.toNat 4 3
    if s.laneOwned j ∧ (tx ≠ 0 ∨ rx ≠ 0) then s.werr (laneAddr j)
    else
      let x := s.lane.pair[j]
      let gen := if s.rd (Reg.LANE_CTRL_PRBS_TX j) = tx then x.gen else 0x7FFFFFFF
      let s := (s.wr (Reg.LANE_CTRL_PRBS_TX j) tx).wr (Reg.LANE_CTRL_PRBS_RX j) rx
      let s := s.setLane j { x with gen := gen, chk := 0, run := 0 }
      ((s.wr (Reg.LANE_PRBS_ERR_COUNT j) 0).wr (Reg.LANE_STATUS_PRBS_SYNC j) 0).showLane j)

/-- `n` bits of its pattern leave a lane in test, the waiting injections inverting as many of them from the first (R209, R210). -/
def State.lanePattern (s : State) (j : Fin 15) (n : Nat) : State × List Bool :=
  let x := s.lane.pair[j]
  let pat := patternOf (s.rd (Reg.LANE_CTRL_PRBS_TX j))
  if pat = 0 then (s, List.replicate n false)
  else
    let q := prbsRun pat n x.gen
    let k := x.inject.sum
    let bits := (q.2.take k).map not ++ q.2.drop k
    (s.setLane j { x with gen := q.1, inject := if n < k then [k - n] else [], line := x.line ++ [.pattern bits] }, bits)

/-- The lane sends as many bits of its own pattern as it receives meanwhile, and its checker takes those that it receives (R209): those of its
own TX lane under LOOPBACK. The first bit in error since the count was cleared fires LANE_PRBS (R211). -/
def State.prbsTake (s : State) (j : Fin 15) (bits : List Bool) : State :=
  let pat := patternOf (s.rd (Reg.LANE_CTRL_PRBS_RX j))
  let q := s.lanePattern j bits.length
  let s := q.1
  if pat = 0 then s
  else
    let x := s.lane.pair[j]
    let c := (if s.on (Reg.LANE_CTRL_LOOPBACK j) then q.2 else bits).foldl (Checker.take pat)
      { reg := x.chk, run := x.run, sync := s.on (Reg.LANE_STATUS_PRBS_SYNC j), errs := 0 }
    let first := s.rd (Reg.LANE_PRBS_ERR_COUNT j) = 0 ∧ 0 < c.errs
    let s := ((s.setLane j { x with chk := c.reg, run := c.run }).wrB (Reg.LANE_STATUS_PRBS_SYNC j) c.sync).addSat (Reg.LANE_PRBS_ERR_COUNT j) c.errs
    if first then s.fire 42 else s

/-- PRBS_CHECKER_SYNC (R209): the bits that the checker receives up to its synchronisation. -/
def execPrbsCheckerSync (j : Fin 15) (bits : List Bool) (s : State) : Res := .next (s.prbsTake j bits)

/-- PRBS_BIT_ERROR (R209): received bits, of which each in error is counted once the checker is synchronised. -/
def execPrbsBitError (j : Fin 15) (bits : List Bool) (s : State) : Res := .next (s.prbsTake j bits)

/-- An inversion of `n` bits waits for the next data block or, in test, for the next bits of the pattern (R210). -/
def State.laneInject (s : State) (j : Fin 15) (n : Nat) : State :=
  let x := s.lane.pair[j]
  s.setLane j { x with inject := x.inject ++ [n] }

/-- INJ_ONE (R210). -/
def execInjOne (j : Fin 15) (m : Master) (v : Word) (s : State) : Res :=
  .next (s.busWrite m (laneAddr j) v fun s => if v.toNat.testBit 9 then s.laneInject j 1 else s)

/-- INJ_BURST (R210, R213). -/
def execInjBurst (j : Fin 15) (m : Master) (v : Word) (s : State) : Res :=
  .next (s.busWrite m (laneAddr j) v fun s =>
    if v.toNat.testBit 10 then s.laneInject j (max 1 (min 64 (s.rd (Reg.LANE_CTRL_INJ_LEN j)))) else s)

/-- LANE_PLL_LOSS: every lane on the PLL loses lock, and FLT_LANE_PLL is raised (R212). -/
def execLanePllLoss (net : Bool) (s : State) : Res :=
  .next (
    let s := s.wr (if net then Reg.CLKRST_STATUS_NPLL_LOCK else Reg.CLKRST_STATUS_TPLL_LOCK) 0
    let s := s.forFin fun (j : Fin 15) s => if (decide (13 ≤ j.val)) == net then s.laneLoss j else s
    s.raise FLT_LANE_PLL 0x200C0000)

end Sys2Proof.Machine
end

