-- ==== Sys2Proof/Machine/Pwr.lean ====
section
/-! DEFINITION. Power domains, clocks and resets (spec/19_power_clocks_reset.md R436 to R459). -/

namespace Sys2Proof.Machine

/-- A domain enters a state; a change fires PWR_STATE (R456). -/
def State.setDom (s : State) (d st : Nat) : State := if s.dom d = st then s else (s.wr (domFld d) st).fire 112

/-- The domains of a rail group are all OFF: PMIC_ENk falls (R436). -/
def State.dropRail (s : State) (d : Nat) : State :=
  let k := domRail d
  if (k = 1 ∨ k = 2 ∨ k = 3) ∧ s.dom d = 0 then s.setPmic k false else s

/-- The fields of a block's registers at their reset values, shadow and live. -/
def State.clearRegs (s : State) (lo hi : Nat) : State :=
  { s with regs := s.regs.clear lo hi, live := s.live.clear lo hi }

/-- The memory of a domain (R436, R369): the content of the banks and engine SRAMs, and the data memories of a quadrant's cells. -/
def State.wipeDomain (s : State) (d : Nat) : State :=
  if 6 ≤ d ∧ d ≤ 9 then s.wipeQuad (d - 6)
  else if 13 ≤ d then s.wipe (0x10000000 + (d - 13) * 0x80000) (0x10000000 + (d - 12) * 0x80000)
  else s.forFin fun (e : Fin 16) s =>
    if engDomain e = d then s.wipe (0x04000000 + e * 0x20000) (0x04000000 + (e + 1) * 0x20000) else s

/-- DRAM loses its content (R400, R449): what it holds is undefined. -/
def State.loseDram (s : State) : State :=
  { s with mem := s.mem.filter (fun e => decide (e.1 < dramBase)), dramGen := s.dramGen + 1 }

/-- What a block reset clears in block `i` of CLKRST_BRST (R449, R450, R459): its registers, its state and its memories. A locked WIN_ROLE
stays until a chip reset (spec/17 R416), and SA_KLIB_VER tells of the library that the boot has loaded, so that images can be loaded after a
reset of SA (spec/02 R47, R49; DEDUCED, log entry 48). -/
def State.blockClear (s : State) (i : Nat) : State :=
  match i with
  | 0 => { (s.clearRegs 0x20080000 0x20090000).wr Reg.SA_KLIB_VER_VER (s.rd Reg.SA_KLIB_VER_VER) with sa := {}, layer := { s.layer with table := .replicate 8 [] } }
  | 1 => { s.clearRegs 0x20090000 0x200A0000 with layer := {} }
  | 2 =>
    let t := { s.clearRegs 0x20180000 0x20190000 with maskin := {} }
    { t with peri := { s.peri with i2c := s.peri.i2c.set 2 {}, i2cHeld := s.peri.i2cHeld.set 2 false, i2cCount := s.peri.i2cCount.set 2 0,
                                   i2cBus := s.peri.i2cBus.set 2 [] } }
  | 3 => { s.clearRegs 0x200A0000 0x200B0000 with ft := {} }.wr Reg.SA_STATUS_RUN 0
  | 4 => { s.clearRegs 0x200B0000 0x200C0000 with tl := {} }
  | 5 => { s.clearRegs 0x200C0000 0x200D0000 with lane := {} }
  | 6 => { s.clearRegs 0x200D0000 0x200E0000 with hlth := {} }
  | 7 => { s.clearRegs 0x200E0000 0x200F0000 with lsc := {} }
  | 8 =>
    let a := s.rd Reg.THM_CTRL_SHUT_AUTO
    { (s.clearRegs 0x200F0000 0x20100000).wr Reg.THM_CTRL_SHUT_AUTO a with thm := {} }
  | 9 => { s.clearRegs 0x20100000 0x20110000 with cal := { nv := s.nvCut } }
  | 10 => { s.clearRegs 0x20110000 0x20120000 with net := { s.net with
      rxStopped := s.net.rxStopped.set 0 false, txStopped := s.net.txStopped.set 0 false, rxEvent := s.net.rxEvent.set 0 none,
      txRun := s.net.txRun.set 0 false, pause := s.net.pause.set 0 0, dup := [] } }
  | 11 => { s.clearRegs 0x20120000 0x20130000 with net := { s.net with
      rxStopped := s.net.rxStopped.set 1 false, txStopped := s.net.txStopped.set 1 false, rxEvent := s.net.rxEvent.set 1 none,
      txRun := s.net.txRun.set 1 false, pause := s.net.pause.set 1 0 } }
  | 12 => { s.clearRegs 0x20130000 0x20140000 with time := {} }
  | 13 => { s.clearRegs 0x20150000 0x20160000 with pair := {} }
  | 14 => { s.clearRegs 0x20050000 0x20060000 with cvu := {} }
  | 15 =>
    let t := { s.clearRegs 0x20070000 0x20080000 with win := {} }
    if s.on Reg.WIN_CTRL_LOCK then
      (t.forFin fun (e : Fin 16) t => t.wr (Reg.WIN_ROLE_MASK e) (s.rd (Reg.WIN_ROLE_MASK e))).wr Reg.WIN_CTRL_LOCK 1
    else t
  | 16 => { s.clearRegs 0x20170000 0x20180000 with
      peri := { tbaseStart := s.now, i2c := (Vector.replicate 3 {}).set 2 s.peri.i2c[2],
                i2cHeld := (Vector.replicate 3 false).set 2 s.peri.i2cHeld[2],
                i2cCount := (Vector.replicate 3 0).set 2 s.peri.i2cCount[2], i2cBus := (Vector.replicate 3 []).set 2 s.peri.i2cBus[2] } }
  | _ => s

/-- A reset of FT while RUN is 1 ends the frame path as a stop at a boundary does (spec/00_scope.md R7, spec/02 R47, spec/06 R141; log entry
42); so does one of TIME, which clears EN of the frame-time source (spec/13 R305, R309). -/
def State.ftDropped (s : State) : State :=
  if !s.on Reg.FT_STATUS_RUN then s
  else (match s.ft.stream with
    | some st => s.lscDrop st.frame.no
    | none => s).ftHalt

/-- A block reset of block `i` with what follows from it in other blocks: a load in progress fails (spec/02 R36), the ports that no bank maps
any more leave (spec/01 R21), LSC's target follows a HOUSE that clears (spec/10 R249), the layers' view of the bank and of MASKIN follows (spec/03 R73, spec/04 R98), and so do the lanes (spec/08
R202). -/
def State.blockReset (s : State) (i : Nat) : State :=
  match i with
  | 0 =>
    let s := if s.sa.load.isSome then s.loadFail 0x0F 0 else s
    (s.blockClear 0).showBank.unmapPorts
  | 1 => (s.blockClear 1).showBank
  | 2 => s.maskUnlive.blockClear 2
  | 3 => s.ftDropped.blockClear 3
  | 5 =>
    let s := (s.forFin fun (j : Fin 15) s => s.laneLoss j).blockClear 5
    s.forFin fun (j : Fin 15) s => s.showLane j
  | 4 =>
    let t := (s.blockClear 4).forFin fun (p : Fin 12) s => s.showLane (tlLane p)
    if s.anyHouse then t.lscEval else t
  | 6 => (s.blockClear 6).showZlim
  | 7 => (s.lscRelease.blockClear 7).showZlim
  | 12 => s.ftDropped.blockClear 12
  | 10 => (s.blockClear 10).showLane 13
  | 11 => (s.blockClear 11).showLane 14
  | 13 => (s.blockClear 13).showLane 12
  | i => s.blockClear i

/-- The engines of a domain that leaves ON lose their contexts and their state (R384, R437). -/
def State.stopEngines (s : State) (d : Nat) : State :=
  s.forFin fun (e : Fin 16) s => if engDomain e = d then s.resetEngine e else s

/-- CRYPTO loses its registers and its operation in progress. -/
def State.cryptoOff (s : State) : State :=
  { s.clearRegs 0x20160000 0x20170000 with ident := { s.ident with op := none } }

/-- What the quadrants in RET keep of the Stage Array of `s` when SYS loses its state or the chip is reset (R436, R449): the planes of the banks
that use no other quadrant, and the tables in the data memories. Neither bank is valid then. -/
def State.keepQuads (t s : State) : State :=
  let ret (q : Nat) : Bool := s.dom (6 + q) == 1
  let whole (b : Nat) : Option Image := (s.plane b).filter (fun i => (List.range 4).all (fun q => !i.quadMask.testBit q || ret q))
  if (List.range 4).any ret then
    { t with sa := { t.sa with bank := Vector.ofFn (fun (b : Fin 2) => whole b), lut := s.sa.lut }, layer := { t.layer with table := s.layer.table } }
  else t

/-- What a domain loses when it leaves ON, its retained memories apart (R437): the registers and the state of its blocks. STATE of MEMC goes
on to show the device (R392, R400, log entry 12). Of SYS the wake keeper in AON keeps what routes events: EVC_PEND, the source registers and
the engines' control and vector registers, so that events stay pending (R439) and AUTOWAKE reaches SYS (R441; DEDUCED, log entry 12). -/
def State.domainLost (s : State) (d : Nat) : State :=
  let s := s.stopEngines d
  match d with
  | 1 =>
    let t := (([0, 1, 2, 3, 6, 8, 9, 12, 13, 14, 15, 16].foldl State.blockReset s).clearRegs 0x20020004 0x20030100).cryptoOff
    let t := ((t.clearRegs 0x20030120 0x20030800).clearRegs 0x20070000 0x20090000).keepQuads s
    let t := (t.clearRegs 0x20000000 0x20001000).clearRegs 0x20040000 0x20050000
    let t : State := { t with flt := {} }
    let t : State := { t with ident := { keys := t.ident.keys, bootmode := t.ident.bootmode } }
    ((t.wr Reg.FLT_STATUS_LOCKOUT (s.rd Reg.FLT_STATUS_LOCKOUT)).wr Reg.FLT_STATUS_PIN_LATCH (s.rd Reg.FLT_STATUS_PIN_LATCH)).wr
      Reg.FLT_STATUS_PIN (max (s.rd Reg.FLT_STATUS_LOCKOUT) (s.rd Reg.FLT_STATUS_PIN_LATCH))
  | 2 => { s.clearRegs 0x20140000 0x20150000 with safe := {} }.wr Reg.SAFE_STATUS_LOCKOUT (s.rd Reg.FLT_STATUS_LOCKOUT)
  | 3 => (s.blockReset 10).blockReset 11
  | 10 =>
    { s.clearRegs 0x20060000 0x20070000 with memc := {} }.wr Reg.MEMC_STATUS_STATE (s.rd Reg.MEMC_STATUS_STATE)
  | 11 => (((s.blockReset 4).blockReset 5).wr Reg.CLKRST_STATUS_TPLL_LOCK 0).wr Reg.CLKRST_STATUS_NPLL_LOCK 0
  | 12 => s.blockReset 7
  | _ => s

/-- A quadrant that goes OFF loses the configuration planes of its cells: the banks that use it are no longer valid (R436, log entry
11). -/
def State.quadOff (s : State) (q : Nat) : State :=
  let need (b : Nat) : Bool := (s.plane b).any (fun i => i.quadMask.testBit q)
  let t := if need 0 then s.dropBank 0 else s
  let t := if need 1 then t.dropBank 1 else t
  t.showBank.unmapPorts

/-- MEMC reaches RET: the device is in self-refresh and keeps its content (R400). STATE shows a READY one as SELF_REFRESH, FAILED stays
(R392), and a training that was cut short leaves OFF (log entry 12). MEMC_STATE fires on a change (R413). -/
def State.selfRefresh (s : State) : State :=
  let st := s.rd Reg.MEMC_STATUS_STATE
  if st = 2 then (s.wr Reg.MEMC_STATUS_STATE 3).fire 97
  else if st = 1 then (s.wr Reg.MEMC_STATUS_STATE 0).fire 97
  else s

/-- DRAM without power loses its content, and MEMC its registers (R400, R437). -/
def State.dramOff (s : State) : State :=
  let t := (s.clearRegs 0x20060000 0x20070000).loseDram
  if s.rd Reg.MEMC_STATUS_STATE = 0 then t else t.fire 97

/-- A domain reaches a lower state (R439). -/
def State.domainDown (s : State) (d target : Nat) : State :=
  let s := (s.domainLost d).setDom d target
  let s := if target = 0 then s.wipeDomain d else s
  let s := if d = 10 then (if target = 1 then s.selfRefresh else s.dramOff) else s
  let s := if 6 ≤ d ∧ d ≤ 9 ∧ s.sa.load.any (fun l => l.quads.testBit (d - 6)) then s.loadFail 0x0F 0 else s
  let s := if 6 ≤ d ∧ d ≤ 9 ∧ target = 0 then s.quadOff (d - 6) else s
  s.dropRail d

/-- A domain reaches ON at the end of its wake order (R442): the engines of the domain that are not held start at their reset
vectors (log entry 12), but for E0, which the release of a chip reset starts (R372). MEMC leaves self-refresh (R400); PERI_TBASE counts from
0 (spec/16 R390). -/
def State.domainUp (s : State) (d : Nat) : State :=
  let fromRet := s.dom d == 1
  let s := s.setDom d 2
  let s := s.forFin fun (e : Fin 16) s => if engDomain e = d ∧ s.engRuns e ∧ ¬(e = 0 ∧ s.pwr.boot) then s.startEngine e else s
  let s := if d = 1 then { s with peri := { s.peri with tbaseStart := s.now, tbaseHeld := none } } else s
  if d = 10 ∧ fromRet ∧ s.rd Reg.MEMC_STATUS_STATE = 3 then (s.wr Reg.MEMC_STATUS_STATE 2).fire 97 else s

/-- The domains that a cold start brings up together (R446). -/
def coldDom (d : Nat) : Bool := d = 1 || d = 2 || d = 3 || decide (13 ≤ d)

/-- Once the wipe and the wake orders that a reset has started are done, E0 starts at the boot ROM (R372, R446, R450). -/
def State.bootE0 (s : State) : State :=
  if !s.pwr.boot || s.on Reg.CLKRST_STATUS_WIPE_BUSY || s.pwr.wakes.any (fun w => coldDom w.domain) then s
  else
    let t := { s with pwr := { s.pwr with boot := false, cold := false } }
    if t.engRuns 0 then t.setEng 0 { t.eng 0 with pc := 0x01000000, machine := true } else t

/-- The children of a domain (R436), without LINK for SAFE, which code 3 of R438 covers. -/
def domChildren (d : Nat) : List Nat :=
  (List.range 29).filter (fun c => (domParents c).contains d && !(d == 2 && c == 11))

/-- A domain is marked FAILED in its wake order (R443): its children in RET go OFF, because they may stay in RET only under a parent that is ON
or RET (R437; DEDUCED, log entry 12). -/
def State.domFails (s : State) (d : Nat) : State :=
  (domChildren d).foldl (fun s c => if s.dom c = 1 then s.domainDown c 0 else s) (s.setDom d 3)

/-- A quadrant has a cell that the active bank, a bank with a switch pending or a load in progress maps (R37). -/
def State.quadInUse (s : State) (q : Nat) : Bool :=
  ((s.on Reg.SA_STATUS_VALID_A || s.on Reg.SA_STATUS_VALID_B) && (s.rd Reg.SA_QUAD_NEED_ACTIVE).testBit q) ||
  ((s.on Reg.SA_STATUS_SWITCH_PEND || s.sa.load.isSome) && s.quadInactive.testBit q)

/-- The code with which a request is refused, 0 where it is not (R438). -/
def State.pwrCode (s : State) (d t : Nat) : Nat :=
  let ps := (domParents d).map s.dom
  let cs := (domChildren d).map s.dom
  if 29 ≤ d ∨ t = 3 then 7
  else if (t = 2 ∧ !ps.all (· == 2)) ∨ (t = 1 ∧ !ps.all (fun p => p == 1 || p == 2)) then 1
  else if (t = 1 ∧ cs.any (· == 2)) ∨ (t = 0 ∧ cs.any (fun c => c == 1 || c == 2)) then 2
  else if d = 2 ∧ t < 2 ∧ s.dom 11 ≠ 0 then 3
  else if 6 ≤ d ∧ d ≤ 9 ∧ t < 2 ∧ s.quadInUse (d - 6) then 4
  else if d = 10 ∧ t < 2 ∧ (s.on Reg.SA_CTRL_EN || s.on Reg.FT_STATUS_RUN) then 5
  else if s.dom d = 3 ∧ t ≠ 0 then 6
  else if (t = 1 ∧ (d = 0 ∨ d = 11 ∨ d = 12)) ∨ (t = 0 ∧ d = 0) then 7
  else 0

/-- A request that is not refused starts (R439, R442); one for the state that the domain is in is done at once. -/
def State.pwrGo (s : State) (d t : Nat) : State :=
  let code := s.pwrCode d t
  if code ≠ 0 then
    (((s.wr Reg.PWRCTL_STATUS_REFUSE code).wr Reg.PWRCTL_STATUS_DOMAIN d).wr Reg.PWRCTL_REQ_GO 0).fire 113
  else if s.dom d = t then s.wr Reg.PWRCTL_REQ_GO 0
  else if s.dom d < t then (s.startWake d t true).wr Reg.PWRCTL_REQ_GO 1
  else
    ({ s with pwr := { s.pwr with req := some { domain := d, target := t } } }.wr Reg.PWRCTL_STATUS_BUSY 1).wr Reg.PWRCTL_REQ_GO 1

/-- PWR_REQUEST (R438): a GO while BUSY is ignored with WERR, unless it is a wake source of the request in progress (R440). -/
def execPwrRequest (m : Master) (v : Word) (s : State) : Res :=
  .next (s.busWrite m 0x20010004 v fun s =>
    let d := bits v.toNat 0 5
    let t := bits v.toNat 5 2
    if !v.toNat.testBit 31 then s
    else if !s.on Reg.PWRCTL_STATUS_BUSY then s.pwrGo d t
    else match s.pwr.req with
      | some r =>
        if r.domain = d ∧ t = 2 then
          if r.committed then { s with pwr := { s.pwr with req := some { r with heldWake := true, heldGo := true } } }
          else
            let u := s.abortDown.fire 115
            if u.dom d = 2 then u else u.pwrGo d 2
        else s.werr 0x20010004
      | none => s.werr 0x20010004)

/-- PWR_QUIESCE_DONE: the request, or standby, reaches its commit point and becomes irrevocable (R439, R445). Isolation lets nothing of the
domain's state out any more, which the model shows as lost from here on (R437, log entry 12). -/
def execPwrQuiesceDone (s : State) : Res :=
  .next (
    match s.pwr.req with
    | some r => if r.committed then s else { s with pwr := { s.pwr with req := some { r with committed := true } } }.domainLost r.domain
    | none =>
      if s.pwr.standby = .quiesce then
        (List.range 28).foldl (fun s i => s.domainLost (28 - i)) { s with pwr := { s.pwr with standby := .committed } }
      else s)

/-- POWER_DOWN_DONE: the domain reaches retention or OFF; a wake held since the commit cycle then starts (R439, R440). -/
def execPowerDownDone (s : State) : Res :=
  .next (
    match s.pwr.req with
    | none => s
    | some r =>
      if !r.committed then s else
      let t := { s with pwr := { s.pwr with req := none } }.domainDown r.domain r.target
      (if r.heldWake then t.startWake r.domain 2 r.heldGo else t).pwrIdle)

/-- The registers that AON keeps through a chip reset (R449, R451, R458, R361, R364, R271): PWRCTL, the reset cause, LOCKOUT, the pin
latch and SHUT_AUTO. -/
def aonRegs (r : RegFile) : RegFile :=
  r.filter (fun e => (decide (0x20010000 * 32 ≤ e.1) && decide (e.1 < 0x20020004 * 32)) || e.1 == Reg.FLT_STATUS_LOCKOUT.key ||
    e.1 == Reg.FLT_STATUS_PIN_LATCH.key || e.1 == Reg.THM_CTRL_SHUT_AUTO.key)

/-- The state after a reset of everything outside AON (R449): what AON, the calibration store, the fuses and the key store hold stays,
and so does memory, which the caller wipes. -/
def State.logicReset (s : State) : State :=
  State.wr (f := Reg.SAFE_STATUS_LOCKOUT) (v := s.rd Reg.FLT_STATUS_LOCKOUT) { State.reset with
    part := { s.part with lcBoot := s.part.lcFuse }, now := s.now, freeCtr := s.freeCtr, dramGen := s.dramGen, mem := s.mem, pending := s.pending
    regs := aonRegs s.regs
    cal := { nv := s.nvCut }
    ident := { keys := s.ident.keys }
    peri := { tbaseStart := s.now }
    pwr := { standby := .none } }

/-- Every domain's power state set. -/
def State.setDoms (s : State) (f : Nat → Nat) : State := s.forFin fun (d : Fin 29) s => s.wr (domFld d) (f d)

/-- Every domain but AON OFF, all memories lost (R445, R271). PMIC_EN0 stays high outside standby (R436):
`en0` is its level. LOCKOUT and the pin latch hold FAULT_N low from AON (spec/15 R364). -/
def State.allOff (s : State) (en0 : Nat) : State :=
  let t := (s.logicReset.setDoms (fun d => if d = 0 then 2 else 0)).loseDram
  let t := { t with mem := [] }
  let t := t.wr Reg.FLT_STATUS_PIN (max (s.rd Reg.FLT_STATUS_LOCKOUT) (s.rd Reg.FLT_STATUS_PIN_LATCH))
  (t.wr Reg.PWRCTL_RAIL_EN en0).wr Reg.PWRCTL_STATUS_BUSY 0 |>.wr Reg.PWRCTL_REQ_GO 0

/-- The wake in progress of a domain. -/
def State.wakeOf (s : State) (d : Nat) : Option WakeProg := s.pwr.wakes.find? (fun w => w.domain == d)
/-- The wake in progress of a domain replaced, or dropped. -/
def State.setWake (s : State) (d : Nat) (w : Option WakeProg) : State :=
  { s with pwr := { s.pwr with wakes := s.pwr.wakes.filterMap (fun x => if x.domain == d then w else some x) } }

/-- The regulator step waits for a supply that the domain itself raises (R442): PMIC_ENk of group 1 to 3, which MEMC in RET holds already, and
PMIC_EN0 in a cold start. -/
def State.raisesRail (s : State) (w : WakeProg) : Bool :=
  (w.fromOff && decide (1 ≤ domRail w.domain ∧ domRail w.domain ≤ 3)) || (s.pwr.cold && coldDom w.domain)

/-- PMIC_ENk of the domain's group falls unless another domain holds it: one that is RET or ON, or on its way up (R443). -/
def State.releaseRail (s : State) (d : Nat) : State :=
  if domRail d < 4 && !(List.range 29).any (fun c => c != d && domRail c == domRail d &&
      (s.dom c == 1 || s.dom c == 2 || s.pwr.wakes.any (·.domain == c))) then s.setPmic (domRail d) false
  else s

/-- The parents allow a domain to be in state `t` (R437). -/
def State.parentsAllow (s : State) (d t : Nat) : Bool :=
  (domParents d).all (fun p => s.dom p == 2 || (t == 1 && s.dom p == 1))

/-- A step's ready signal has arrived (R442): PGOODk, the lane PLLs, and the crystal with the system PLL. The memory step from OFF leaves the
memories wiped to zero. -/
def State.stepDone (s : State) (w : WakeProg) : State :=
  let d := w.domain
  let s := if w.step = 1 ∧ s.raisesRail w then s.wr Reg.PWRCTL_RAIL_PGOOD (s.rd Reg.PWRCTL_RAIL_PGOOD ||| 2 ^ domRail d) else s
  let s := if w.step = 2 ∧ d = 11 then (s.wr Reg.CLKRST_STATUS_TPLL_LOCK 1).wr Reg.CLKRST_STATUS_NPLL_LOCK 1 else s
  let s := if w.step = 2 ∧ (d = 1 ∨ s.pwr.cold ∧ coldDom d) then
      { (s.wr Reg.CLKRST_STATUS_SYSPLL_LOCK 1).wr Reg.CLKRST_STATUS_XTAL_OK 1 with pwr := { s.pwr with oscBad := false } } else s
  if w.step = 3 ∧ w.fromOff then s.wipeDomain d else s

/-- The wake order of a domain is done (R442): it reaches ON, or RET where that was asked for (R438). -/
def State.wakeEnds (s : State) (w : WakeProg) : State :=
  let t := s.setWake w.domain none
  (if w.target = 2 then t.domainUp w.domain else t.setDom w.domain w.target).bootE0.pwrIdle

/-- WAKE_STEP_READY: the step's ready signal arrives and the next step starts; after the last the domain is ON (R442). The last step waits for
the parents (R437). The oscillator step of a chip reset, with SYS ON, is its only one (R448). -/
def execWakeStepReady (d : Fin 29) (s : State) : Res :=
  .next (
    match s.wakeOf d with
    | none => s
    | some w =>
      if w.withdrawn then s
      else if w.step = 2 ∧ s.domOn d then ((s.stepDone w).setWake d none).bootE0.pwrIdle
      else if w.step < 4 then (s.stepDone w).setWake d (some { w with step := w.step + 1, tries := 0 })
      else if s.parentsAllow d w.target then s.wakeEnds w
      else s)

/-- WAKE_STEP_TIMEOUT: the step is withdrawn to be started again, or after the last attempt the domain is marked FAILED (R443). Where the
crystal or the system PLL fails in a cold start, or in the restart by a chip reset (log entry 12), the PX2 returns to standby (R446). -/
def execWakeStepTimeout (d : Fin 29) (s : State) : Res :=
  .next (
    match s.wakeOf d with
    | none => s
    | some w =>
      if w.withdrawn then s
      else if w.tries < s.rd Reg.PWRCTL_WAKE_CFG_WAKE_RETRY then
        let t := s.setWake d (some { w with tries := w.tries + 1, withdrawn := true })
        if w.step = 1 ∧ s.raisesRail w then t.setPmic (domRail d) false else t
      else if w.step = 2 ∧ (s.pwr.cold ∧ coldDom d ∨ s.domOn d ∨ d = 1 ∧ s.pwr.oscBad) then
        let t := s.allOff 0
        let t := { t with pwr := { t.pwr with standby := .asleep } }
        ((t.wr Reg.PWRCTL_STATUS_XTAL_FAIL 1).wr Reg.FLT_STATUS_PIN_LATCH 1).wr Reg.FLT_STATUS_PIN 1
      else
        let t := (((s.setWake d none).wipeDomain d).domFails d).wr Reg.PWRCTL_STATUS_FAIL_STEP w.step |>.wr Reg.PWRCTL_STATUS_DOMAIN d
        let t := if d = 10 then t.dramOff else t
        let t := t.releaseRail d
        let t := if d = 11 then (t.wr Reg.CLKRST_STATUS_TPLL_LOCK 0).wr Reg.CLKRST_STATUS_NPLL_LOCK 0 else t
        ((t.fire 114).raise FLT_PWR_WAKE 0x20010000).bootE0.pwrIdle)

/-- WAKE_STEP_RESTART: after its off time a withdrawn step is started again (R443). -/
def execWakeStepRestart (d : Fin 29) (s : State) : Res :=
  .next (
    match s.wakeOf d with
    | none => s
    | some w =>
      if !w.withdrawn then s
      else
        let t := s.setWake d (some { w with withdrawn := false })
        if w.step = 1 ∧ s.raisesRail w then t.setPmic (domRail d) true else t)

/-- STANDBY_REQUEST: a set of GO quiesces every domain towards standby (R445). -/
def execStandbyRequest (m : Master) (v : Word) (s : State) : Res :=
  .next (s.busWrite m 0x20010018 v fun s =>
    if !v.toNat.testBit 0 then s
    else if s.on Reg.PWRCTL_STATUS_BUSY then s.werr 0x20010018
    else { (s.wr Reg.PWRCTL_STBY_GO 1).wr Reg.PWRCTL_STATUS_BUSY 1 with pwr := { s.pwr with standby := .quiesce } })

/-- The power states after a chip reset (R437): AON, SYS, SAFE, NET and the banks ON; another domain in RET stays there, every other is
OFF. -/
def chipDom (old d : Nat) : Nat :=
  if d = 0 ∨ d = 1 then 2 else if old = 1 then 1 else if d = 2 ∨ d = 3 ∨ 13 ≤ d then 2 else 0

/-- The memories that the wipe of a chip reset covers: those of the domains that are ON (R450). A domain that was in RET keeps
its memory. -/
def State.wipeOn (s : State) (old : Nat → Nat) : State :=
  s.forFin fun (d : Fin 29) s => if old d = 1 then s else s.wipeDomain d

/-- PMIC_ENk follow the domains (R436). -/
def State.showRails (s : State) : State :=
  s.wr Reg.PWRCTL_RAIL_EN (1 + (if s.dom 10 ≠ 0 then 2 else 0) + (if s.dom 11 ≠ 0 then 4 else 0) + (if s.dom 12 ≠ 0 then 8 else 0))

/-- A chip reset with its cause (R449 to R451): the logic outside AON is reset, the memories of every domain not in RET are wiped, DRAM
is undefined unless MEMC is in RET, and no engine starts before the wipe ends. A domain that the reset brings to ON and that is not ON under
an SYS that is ON passes its wake order (R437, R442), with the crystal and the PLL restarted in an oscillator step of SYS where one had failed
(R448). A quadrant in RET keeps its memories, MEMC in RET its self-refresh, and FAILED of MEMC ends (spec/17 R392). -/
def State.chipReset (s : State) (cause src : Nat) : State :=
  let old := s.dom
  let up (d : Nat) : Nat := chipDom (old d) d
  let stays (d : Nat) : Bool := d == 0 || (old d == 2 && old 1 == 2)
  let k := s.wipeOn old
  let t := (k.logicReset.setDoms (fun d => if up d = 2 then (if stays d then 2 else if old d = 1 then 1 else 0) else up d)).showRails.keepQuads k
  let t := if old 10 = 1 then t.wr Reg.MEMC_STATUS_STATE (if s.rd Reg.MEMC_STATUS_STATE = 3 then 3 else 0) else t.loseDram
  let t := ((t.wr Reg.CLKRST_CAUSE_CAUSE cause).wr Reg.CLKRST_CAUSE_SRC src).wr Reg.CLKRST_CAUSE_WAKE_PIN 0
  let t := (t.wr Reg.PWRCTL_STATUS_BUSY 0).wr Reg.PWRCTL_REQ_GO 0 |>.wr Reg.PWRCTL_STBY_GO 0
  let t := t.wr Reg.FLT_STATUS_PIN (max (s.rd Reg.FLT_STATUS_LOCKOUT) (s.rd Reg.FLT_STATUS_PIN_LATCH))
  let ws : List WakeProg :=
    ((List.range 29).filter (fun d => up d == 2 && !stays d)).map (fun d => { domain := d, fromOff := old d != 1 }) ++
    (if stays 1 && s.pwr.oscBad then [{ domain := 1, step := 2, fromOff := false }] else [])
  { t.newNonce.wr Reg.CLKRST_STATUS_WIPE_BUSY 1 with ident := { t.ident with bootmode := s.part.bootmode % 8 }, pwr := { t.pwr with sysresetLow := true, boot := true, cold := s.pwr.cold, wakes := ws, oscBad := s.pwr.oscBad } }

/-- AON holds the chip in reset with cause PGOOD0 until PGOOD0 returns: everything stands as at PORESET_N (R444, R449). -/
def State.holdReset (s : State) : State :=
  let w := s.rd Reg.PWRCTL_RAIL_PGOOD
  let t := ((s.clearRegs 0x20010000 0x20020000).wr Reg.THM_CTRL_SHUT_AUTO 1).allOff 1
  let t := ((t.wr Reg.CLKRST_CAUSE_CAUSE 11).wr Reg.CLKRST_CAUSE_SRC 0).wr Reg.PWRCTL_RAIL_PGOOD w
  { t with pwr := { t.pwr with resetHeld := true } }

/-- PGOOD_FALL (R444): the domains of the group that are not OFF are isolated and marked FAILED; crossing transfers that were pending
are discarded and set XING_LOST (R455). PGOOD0 falling outside standby holds the chip in reset. -/
def execPgoodFall (k : Fin 4) (transfers : Bool) (s : State) : Res :=
  .next (
    let w := s.rd Reg.PWRCTL_RAIL_PGOOD
    let s := s.wr Reg.PWRCTL_RAIL_PGOOD (if w.testBit k then w - 2 ^ k.val else w)
    if k = 0 then (if s.pwr.standby = .asleep ∨ s.pwr.shutdown then s else s.holdReset)
    else
      let d := 9 + k.val
      if s.dom d = 0 then s else
      let t := { s with pwr := { s.pwr with req := if (s.pwr.req.map PwrReq.domain) = some d then none else s.pwr.req } }
      let t := (((t.setWake d none).domainLost d).setDom d 3).wr Reg.PWRCTL_STATUS_DOMAIN d
      let t := if d = 10 then t.dramOff else t
      let t := if transfers then t.xingLost d else t
      ((t.fire 114).raise FLT_PWR_PGOOD 0x20010000).pwrIdle)

/-- VMON_EXCURSION: a supply outside 8 % raises FLT_PWR_VMON; a brown-out holds the chip in reset (R444). A chip that is off, in standby or
held in reset has no supply that the monitor watches. -/
def execVmonExcursion (brownOut : Bool) (s : State) : Res :=
  .next (if brownOut then (if s.pwr.standby = .asleep ∨ s.pwr.shutdown then s else s.holdReset) else if s.pwr.standby = .asleep ∨ s.pwr.shutdown ∨ s.pwr.resetHeld then s else s.raise FLT_PWR_VMON 0x20010000)

/-- A cold start begins (R446): PMIC_EN0 rises, and SYS, SAFE, NET and the banks begin their wake order. -/
def State.coldBegin (s : State) (cause : Nat) : State :=
  let t := (s.allOff 1).newNonce
  let t := ((t.wr Reg.CLKRST_CAUSE_CAUSE cause).wr Reg.CLKRST_CAUSE_SRC 0).wr Reg.CLKRST_CAUSE_WAKE_PIN 0
  { t with ident := { t.ident with bootmode := t.part.bootmode % 8 }, pwr := { t.pwr with cold := true, boot := true, wakes := ([1, 2, 3] ++ (List.range 16).map (· + 13)).map (fun d => ({ domain := d } : WakeProg)) } }

/-- STANDBY_ENTRY: after the commit point every domain but AON goes OFF and the PMIC enables fall (R445). A WAKE edge that came after
the commit starts the cold start at once (R440). -/
def execStandbyEntry (s : State) : Res :=
  .next (
    if s.pwr.standby ≠ .committed then s else
    let t := (s.allOff 0).wr Reg.PWRCTL_STBY_GO 0
    match s.pwr.stbyWake with
    | none => { t with pwr := { t.pwr with standby := .asleep } }
    | some k => ((t.coldBegin 8).wr Reg.CLKRST_CAUSE_WAKE_PIN k).wr (if k = 0 then Reg.PWRCTL_STBY_WAKE0_SEEN else Reg.PWRCTL_STBY_WAKE1_SEEN) 1)

/-- WAKE_PIN_EDGE: in standby an enabled edge starts a cold start (R446); on the way there it aborts the request, or is held after the
commit (R440). -/
def execWakePinEdge (k : Fin 2) (rising : Bool) (s : State) : Res :=
  .next (
    let sel := s.rd (if k = 0 then Reg.PWRCTL_STBY_WAKE0_EDGE else Reg.PWRCTL_STBY_WAKE1_EDGE)
    if !sel.testBit (if rising then 0 else 1) then s
    else match s.pwr.standby with
      | .none => s
      | .quiesce =>
        (((({ s with pwr := { s.pwr with standby := .none } }.pwrIdle).wr Reg.PWRCTL_STBY_GO 0).wr
          Reg.PWRCTL_STATUS_SLEEP_ABORT 1).resumed (fun _ => true)).fire 115
      | .committed => { s with pwr := { s.pwr with stbyWake := some k } }
      | .asleep =>
        ((s.coldBegin 8).wr Reg.CLKRST_CAUSE_WAKE_PIN k).wr
          (if k = 0 then Reg.PWRCTL_STBY_WAKE0_SEEN else Reg.PWRCTL_STBY_WAKE1_SEEN) 1)

/-- The steps that a wake order still has to pass, all of them in time (R442). A domain whose parents are not ON waits for them. -/
def State.wakeThrough (s : State) (w : WakeProg) : State :=
  let t := (List.range 4).foldl (fun t i => if w.step ≤ i + 1 then t.stepDone { w with step := i + 1 } else t) s
  if t.parentsAllow w.domain w.target then t.wakeEnds w else t

/-- COLD_START: the MRC, crystal and PLL run, and SYS, SAFE, NET and the banks pass together what is left of their wake order; then E0 starts
the boot ROM (R446). A domain that a step has marked FAILED stays so (R443). With the chip held in reset it is the return of PGOOD0: a start
as at PORESET_N begins (R444). -/
def execColdStart (s : State) : Res :=
  .next (
    if s.pwr.resetHeld then s.coldBegin 11
    else if !s.pwr.cold then s
    else ((s.pwr.wakes.filter (fun w => coldDom w.domain)).foldl State.wakeThrough (s.setPmic 0 true)).bootE0)

/-- VAON has been lost and is back: every register is reset and a cold start begins (R449). -/
def State.powerCut (s : State) : State := { s with regs := [] }.coldBegin 0

/-- POWER_ON_RESET: everything is reset, LOCKOUT and the pin latch included, and a cold start begins (R449). -/
def execPowerOnReset (s : State) : Res := .next s.powerCut

/-- PORESET_N: as a chip reset, with SHUT_AUTO, PWRCTL_WAKE_CFG and PWRCTL_STBY, and every domain restarts cold (R449). PWRCTL takes its
reset values (R458); LOCKOUT and the pin latch stay. -/
def execPoresetN (s : State) : Res :=
  .next (
    let t := s.clearRegs 0x20010000 0x20020000
    ((t.wr Reg.THM_CTRL_SHUT_AUTO 1).coldBegin 1))

/-- A chip reset is started (R449); one already started stands. A chip that is off, in standby or held in reset has no logic to reset: only
PORESET_N, a wake or the thermal restart starts it (R445, R446, spec/11 R271; log entry 42). -/
def State.requestReset (s : State) (cause : Nat) (src : Nat := 0) : State :=
  if s.pwr.reset.isSome || s.pwr.shutdown || s.pwr.resetHeld || s.pwr.standby == .asleep then s else { s with pwr := { s.pwr with reset := some { cause := cause, src := src } } }

/-- SYSRESET_N low for 1 µs starts a chip reset (R449). -/
def execSysresetN (s : State) : Res := .next (s.requestReset 2)

/-- SOFTWARE_RESET: 0x7E51 starts a chip reset with cause SOFTWARE; other values are ignored and set WERR (R459). -/
def execSoftwareReset (m : Master) (v : Word) (s : State) : Res :=
  .next (s.busWrite m 0x20020004 v fun s => if v = 0x7E51 then s.requestReset 3 else s.werr 0x20020004)

/-- CHIP_RESET: the reset that has been started is performed (R449 to R451). -/
def execChipReset (s : State) : Res :=
  .next (
    match s.pwr.reset with
    | none => s
    | some r => s.chipReset r.cause r.src)

/-- MEMORY_WIPE_DONE: the wipe ends (R450), and E0 starts at the boot ROM (R372) unless the crystal and the system PLL are still being
restarted (R448). -/
def execMemoryWipeDone (s : State) : Res :=
  .next (
    if !s.on Reg.CLKRST_STATUS_WIPE_BUSY then s else
    let t := s.wr Reg.CLKRST_STATUS_WIPE_BUSY 0
    let t := if (s.wakeOf 1).isSome then t else (t.wr Reg.CLKRST_STATUS_SYSPLL_LOCK 1).wr Reg.CLKRST_STATUS_XTAL_OK 1
    { t with pwr := { t.pwr with sysresetLow := false } }.bootE0)

/-- The register block that a bit of CLKRST_BRST resets (R459): bits 31:16 of its addresses. -/
def brstPage (i : Nat) : Nat :=
  ([0x2008, 0x2009, 0x2018, 0x200A, 0x200B, 0x200C, 0x200D, 0x200E, 0x200F, 0x2010, 0x2011, 0x2012, 0x2013, 0x2015, 0x2005, 0x2007,
    0x2017] : List Nat).getD i 0

/-- Accesses that a block reset of block `i` cuts off get a bus error (R455). -/
def State.cutOff (s : State) (i : Nat) (cut : List (Master × Nat × Access)) : State :=
  cut.foldl (fun s c => let a := s.viewAddr c.1 c.2.1; if a / 0x10000 = brstPage i then s.busErr c.1 a c.2.2 else s) s

/-- BLOCK_RESET: each written bit of CLKRST_BRST resets its block (R449, R459). `cut` lists the register accesses that are on their way into
blocks (R455). -/
def execBlockReset (m : Master) (v : Word) (cut : List (Master × Nat × Access)) (s : State) : Res :=
  .next (s.busWrite m 0x20020008 v fun s =>
    s.forFin fun (i : Fin 17) s => if v.toNat.testBit i then (s.blockReset i).cutOff i cut else s)

/-- The system watchdog restarts; TMO acts from the next kick, and 0 acts as 1 (R452, R459). -/
def State.swdtRestart (s : State) : State :=
  { s with pwr := { s.pwr with swdtHalf := false, swdtTmo := max 1 (s.rd Reg.CLKRST_SWDT_CTRL_TMO) } }

/-- An expiry of the system watchdog raises FLT_SYS_WDT (R452). -/
def State.swdtExpire (s : State) : State :=
  { s with pwr := { s.pwr with swdtExpired := true } }.raise FLT_SYS_WDT 0x20020010

/-- SWDT_ENABLE: once set, EN stays set until the next chip reset (R452). -/
def execSwdtEnable (m : Master) (v : Word) (s : State) : Res :=
  .next (s.busWrite m 0x20020010 v fun s =>
    if v.toNat.testBit 0 && !s.on Reg.CLKRST_SWDT_CTRL_EN then (s.wr Reg.CLKRST_SWDT_CTRL_EN 1).swdtRestart else s)

/-- SWDT_KICK: 0xC35A restarts the watchdog, any other value counts as an expiry (R452). -/
def execSwdtKick (m : Master) (v : Word) (s : State) : Res :=
  .next (s.busWrite m 0x20020014 v fun s => if v = 0xC35A then s.swdtRestart else s.swdtExpire)

/-- SWDT_HALF: half of TMO without a kick fires CLK_SWDT (R452). -/
def execSwdtHalf (s : State) : Res :=
  .next (if s.on Reg.CLKRST_SWDT_CTRL_EN && !s.pwr.swdtHalf then { s with pwr := { s.pwr with swdtHalf := true } }.fire 117 else s)

/-- SWDT_TIMEOUT: TMO without a kick raises FLT_SYS_WDT (R452). -/
def execSwdtTimeout (s : State) : Res := .next (if s.on Reg.CLKRST_SWDT_CTRL_EN then s.swdtExpire else s)

/-- SWDT_FORCED_RESET: no chip reset has followed an expiry for 1 ms, and AON resets the chip with cause SYS_WDT (R452). -/
def execSwdtForcedReset (s : State) : Res := .next (if s.pwr.swdtExpired then s.chipReset 4 0 else s)

/-- A clock, the PLL or the crystal has failed: the chip reset that follows restarts them (R448). -/
def State.oscFails (s : State) : State := { s with pwr := { s.pwr with oscBad := true } }

/-- CLOCK_MONITOR (R448). -/
def execClockMonitor (s : State) : Res := .next (s.oscFails.raise FLT_CLK_MON 0x2002000C)

/-- SYSTEM_PLL_LOSS (R448). -/
def execSystemPllLoss (s : State) : Res := .next ((s.oscFails.wr Reg.CLKRST_STATUS_SYSPLL_LOCK 0).raise FLT_CLK_PLL 0x2002000C)

/-- XTAL_FAIL (R448). -/
def execXtalFail (s : State) : Res := .next ((s.oscFails.wr Reg.CLKRST_STATUS_XTAL_OK 0).raise FLT_CLK_XTAL 0x2002000C)

/-- CLOSED_CROSSING_ACCESS: an access into a domain that is not ON stalls, gets a bus error and sets XING_LOST (R455). -/
def execClosedCrossingAccess (m : Master) (addr : Nat) (acc : Access) (s : State) : Res :=
  let a := s.viewAddr m addr
  .next (if s.domOpen (accessDomain a) then s else s.closedCrossing m a (accessDomain a) acc)

/-- CLKOUT_SELECT (R459). -/
def execClkoutSelect (m : Master) (v : Word) (s : State) : Res :=
  .next (s.busWrite m 0x20020018 v fun s => s.wr Reg.CLKRST_CLKOUT_SEL (bits v.toNat 0 2))

end Sys2Proof.Machine
end

