-- ==== Sys2Proof/Machine/Flt.lean ====
section
/-! DEFINITION. The fault collector (spec/15_faults.md R350 to R366). -/

namespace Sys2Proof.Machine

/-- FAULT_N is driven low (R364), as FLT_STATUS.PIN shows. -/
def State.showPin (s : State) : State :=
  s.wrB Reg.FLT_STATUS_PIN
    ((List.finRange 96).any (fun (i : Fin 96) => s.on (Reg.FLT_PEND i) && s.flt.pinSrc[i]) || s.on Reg.FLT_STATUS_LOCKOUT ||
     s.on Reg.FLT_STATUS_PIN_LATCH || s.on Reg.FLT_PIN_FORCE)

/-- MASTER and MIDX of a capture record (R366). -/
def masterCode : Master → Nat × Nat
  | .engine e => (0, e)
  | .stageArray => (1, 0)
  | .netDma n => (2, n)
  | .pair => (3, 0)
  | .cvu u => (4, u)
  | .debug => (5, 0)
  | .other => (6, 0)
  | .none => (7, 0)

/-- ACCESS of a capture record (R366). -/
def accessCode : Access → Nat
  | .none => 0
  | .read => 1
  | .write => 2
  | .fetch => 3

/-- Record `k` captures an occurrence (R353). -/
def State.fltCapture (s : State) (k : Fin 5) (o : Occurrence) (esc : Bool) : State :=
  let ts := stamp64 s.frameTime
  let s := ((s.wr (Reg.FLT_CAP_INFO_SRC k) o.src).wr (Reg.FLT_CAP_INFO_VALID k) 1).wr (Reg.FLT_CAP_INFO_UNIT k) (o.unit.getD 0)
  let s := (s.wr (Reg.FLT_CAP_INFO_MASTER k) (masterCode o.master).1).wr (Reg.FLT_CAP_INFO_MIDX k) (masterCode o.master).2
  let s := (s.wr (Reg.FLT_CAP_INFO_ACCESS k) (accessCode o.access)).wrB (Reg.FLT_CAP_INFO_ESC k) esc
  let s := (s.wrB (Reg.FLT_CAP_INFO_TS_VALID k) s.ftRunning).wr (Reg.FLT_CAP_ADDR_LO_ADDR k) o.addr
  let s := s.wr (Reg.FLT_CAP_ADDR_HI_ADDR_HI k) (o.addr / 2 ^ 32)
  (s.wr (Reg.FLT_CAP_TS_NS_VALUE k) (if s.ftRunning then ts else 0)).wr (Reg.FLT_CAP_TS_SEC_VALUE k) (if s.ftRunning then ts / 2 ^ 32 else 0)

/-- An occurrence meets record `k`: captured, or counted (R353). -/
def State.fltRecord (s : State) (k : Fin 5) (o : Occurrence) (esc : Bool) : State :=
  if s.on (Reg.FLT_CAP_INFO_VALID k) then s.inc (Reg.FLT_CAP_CNT_CNT k) else s.fltCapture k o esc

/-- An engine is held in reset by its fence; EVC discards what it has open (R359, spec/16 R384). -/
def State.fenceEngine (s : State) (e : Fin 16) : State := (s.resetEngine e).wr (Reg.FLT_FENCE_ENG e) 1

/-- FENCE_AND_DEGRADE: the unit that an occurrence names is isolated, and FLT_FENCE fires (R358, R359). E12 and E13 are never fenced. -/
def State.fence (s : State) (o : Occurrence) : State :=
  match o.unit with
  | none => s
  | some u =>
    match fltUnit o.src with
    | .none => s
    | .engine => if 16 ≤ u ∨ u = 12 ∨ u = 13 then s else (s.fenceEngine (Fin.ofNat 16 u)).fire 77
    | .bank => if 16 ≤ u then s else (s.wr (Reg.FLT_FENCE_BANK u) 1).fire 77
    | .quadrant =>
      if 4 ≤ u then s else ((s.forFin fun (i : Fin 32) s => s.wr (Reg.SA_FENCE (32 * u + i)) 1).saFenced).fire 77
    | .port => if 12 ≤ u then s else (s.tlFence (Fin.ofNat 12 u)).fire 77
    | .zone => if 192 ≤ u then s else (s.wr (Reg.FLT_ZFENCE u) 1).fire 77
    | .netPort => if 2 ≤ u then s else ((s.netEnable (Fin.ofNat 2 u) false).wr (Reg.FLT_FENCE_NET u) 1).fire 77

/-- The bit of CLKRST_BRST that resets the block that raises a source (R357, spec/19 R459), or none. -/
def brstBlock (src : Nat) (unit : Option Nat) : Option Nat :=
  if 25 ≤ src ∧ src ≤ 27 then some 15
  else if src = 28 ∨ src = 29 then some 14
  else if 30 ≤ src ∧ src ≤ 34 then some 0
  else if src = 35 ∨ src = 36 then some 1
  else if src = 37 then some 2
  else if src = 38 ∨ src = 39 then some 3
  else if 40 ≤ src ∧ src ≤ 46 then some 4
  else if src = 47 then some 5
  else if 55 ≤ src ∧ src ≤ 58 then some 6
  else if 59 ≤ src ∧ src ≤ 63 then some 7
  else if 64 ≤ src ∧ src ≤ 68 then some 8
  else if 69 ≤ src ∧ src ≤ 72 then some 9
  else if src = 73 ∨ src = 74 then unit.map (· + 10)
  else if src = 75 then some 12
  else if 76 ≤ src ∧ src ≤ 81 then some 13
  else if src = 87 then some 16
  else none

/-- The engines that receive the non-maskable trap: those set in FLT_NMI that are not fenced (R357). -/
def State.nmiEngines (s : State) : List (Fin 16) :=
  (List.finRange 16).filter (fun (e : Fin 16) => (s.rd Reg.FLT_NMI_MASK).testBit e && !s.on (Reg.FLT_FENCE_ENG e))

/-- The non-maskable trap is raised on the engines (R357); where none is left it acts as CRST (R358), which the flag says. -/
def State.raiseNmi (s : State) : State × Bool :=
  let es := s.nmiEngines
  (es.foldl (fun s e => s.setEng e { s.eng e with nmiPend := (s.eng e).nmiPend + 1 }) s, es.isEmpty)

/-- The CRST reaction: the final BEAT (spec/18 R430), the AON pin latch, and a chip reset with cause FAULT (R357, R364). -/
def State.crst (s : State) (src : Nat) : State := (s.pairLastBeat.wr Reg.FLT_STATUS_PIN_LATCH 1).requestReset 5 src

/-- The reactions of an occurrence of effective class `c`, in the order of R358. -/
def State.react (s : State) (c : Nat) (o : Occurrence) : State :=
  let w := s.rd (Reg.FLT_SRC_CFG_REACT o.src) ||| s.rd (Reg.FLT_CLASS_REACT_REACT c)
  let s := if w.testBit 5 then s.fence o else s
  let s := if w.testBit 2 then (match brstBlock o.src o.unit with | none => s | some i => s.blockReset i) else s
  let s := if c = 4 then s.fire 76 else if w.testBit 0 then s.fire (72 + c) else s
  let n := if w.testBit 1 || c == 4 then s.raiseNmi else (s, false)
  let s := n.1
  let s := { s with flt := { s.flt with pinSrc := s.flt.pinSrc.set (Fin.ofNat 96 o.src) (w.testBit 4 || c == 4) } }
  let s := if w.testBit 3 || n.2 then s.crst o.src else s
  s.showPin

/-- LOCKOUT: the latch is set and holds the island in FALLBACK (R361, spec/14 R322, R348). -/
def State.setLockout (s : State) : State := ((s.wr Reg.FLT_STATUS_LOCKOUT 1).wr Reg.SAFE_STATUS_LOCKOUT 1).showSafe

/-- The configured class of a source. -/
def State.fltClass (s : State) (src : Nat) : Nat := min 3 (s.rd (Reg.FLT_SRC_CFG_CLASS src))

/-- An occurrence of the source escalates (R355). -/
def State.escalates (s : State) (src : Nat) : Bool :=
  s.on (Reg.FLT_CAP_INFO_VALID (s.fltClass src)) && (decide (s.fltClass src < 3) || s.on (Reg.FLT_SRC_CFG_LOCKOUT_EL src))

/-- The effective class of an occurrence of the source (R351, R355). -/
def State.effClass (s : State) (src : Nat) : Nat := if s.escalates src then s.fltClass src + 1 else s.fltClass src

/-- The block that the BRST reaction of an occurrence resets, if it has one (R357). -/
def State.brstOf (s : State) (o : Occurrence) : Option Nat :=
  if (s.rd (Reg.FLT_SRC_CFG_REACT o.src) ||| s.rd (Reg.FLT_CLASS_REACT_REACT (s.effClass o.src))).testBit 2 then brstBlock o.src o.unit else none

/-- One occurrence at the collector: capture or escalation, its pending bit, its reactions (R351, R353, R355, R360). -/
def State.occurs (s : State) (o : Occurrence) : State :=
  let c : Fin 5 := Fin.ofNat 5 (s.fltClass o.src)
  let up := s.escalates o.src
  let k : Fin 5 := Fin.ofNat 5 (s.effClass o.src)
  let s := if up then (((s.inc (Reg.FLT_CAP_CNT_CNT c)).inc Reg.FLT_STATUS_ESC_CNT).fire 78).fltRecord k o true else s.fltRecord k o false
  let s := s.wr (Reg.FLT_PEND (Fin.ofNat 96 o.src)) 1
  (if k = 4 then s.setLockout else s).react k o

/-- An occurrence into a list kept in ascending source number, behind those of its own number (R356). -/
def insertOcc (o : Occurrence) : List Occurrence → List Occurrence
  | [] => [o]
  | x :: r => if o.src < x.src then o :: x :: r else x :: insertOcc o r

/-- FAULT_OCCURRENCE: the occurrences that have been raised, and those of `ext` that come from outside the model's blocks, arrive at the
collector in one cycle (R353 to R359). Sources 48 to 54 are never raised on AQPX2-BG484-I (R352). `cut` lists the register accesses that are on
their way into blocks: one into a block that the BRST reaction resets gets a bus error (spec/19 R455). -/
def execFaultOccurrence (ext : List Occurrence) (cut : List (Master × Nat × Access)) (s : State) : Res :=
  .next (
    let s := ext.foldl State.raiseOcc s
    let os := s.flt.raised.foldl (fun r o => insertOcc o r) []
    let r := os.foldl (fun (r : State × List Nat) o => (r.1.occurs o, r.2 ++ (r.1.brstOf o).toList)) ({ s with flt := { s.flt with raised := [] } }, [])
    r.2.eraseDups.foldl (fun s i => s.cutOff i cut) r.1)

/-- FLT_ACK: VALID and CNT of the acknowledged records clear (R354). -/
def execFltAck (m : Master) (v : Word) (s : State) : Res :=
  .next (s.busWrite m 0x20040008 v fun s =>
    s.forFin fun (k : Fin 5) s =>
      if v.toNat.testBit k then (s.wr (Reg.FLT_CAP_INFO_VALID k) 0).wr (Reg.FLT_CAP_CNT_CNT k) 0 else s)

/-- FLT_PEND_CLEAR: a written bit whose cause is held stays as it is, with WERR (R360). -/
def execFltPendClear (m : Master) (k : Fin 3) (v : Word) (s : State) : Res :=
  .next (s.busWrite m (0x20040020 + 4 * k) v fun s =>
    let stuck := (List.finRange 32).any (fun (i : Fin 32) => v.toNat.testBit i && s.held (32 * k + i))
    let t := s.forFin fun (i : Fin 32) t => if v.toNat.testBit i && !s.held (32 * k + i) then t.wr (Reg.FLT_PEND (32 * k + i)) 0 else t
    (if stuck then t.werr (0x20040020 + 4 * k) else t).showPin)

/-- FLT_LOCK (R362). -/
def execFltLock (m : Master) (v : Word) (s : State) : Res :=
  .next (s.busWrite m 0x20040000 v fun s => if v.toNat.testBit 0 then s.wr Reg.FLT_CTRL_LOCK 1 else s)

/-- FLT_SW: GO raises source 88 + SEL with the write's master and the address in FLT_SW_ADDR (R363). -/
def execFltSw (m : Master) (v : Word) (s : State) : Res :=
  .next (s.busWrite m 0x20040014 v fun s =>
    if v.toNat.testBit 31 then
      s.raiseOcc { src := FLT_SW0 + bits v.toNat 0 3, unit := none, addr := s.rd Reg.FLT_SW_ADDR_ADDR, master := m, access := .write }
    else s)

/-- FLT_PIN_REL: the AON pin latch clears (R364). -/
def execFltPinRel (m : Master) (v : Word) (s : State) : Res :=
  .next (s.busWrite m 0x2004000C v fun s =>
    (if v.toNat.testBit 0 then s.wr Reg.FLT_STATUS_PIN_LATCH 0 else s).showPin)

/-- FLT_ENGINE_UNFENCE: a released engine starts from its reset vector, unless it is held (R359). -/
def execFltEngineUnfence (m : Master) (v : Word) (s : State) : Res :=
  .next (s.busWrite m 0x20040070 v fun s =>
    s.forFin fun (e : Fin 16) s =>
      if v.toNat.testBit e && s.on (Reg.FLT_FENCE_ENG e) then
        let t := s.wr (Reg.FLT_FENCE_ENG e) 0
        if t.engRuns e then t.startEngine e else t
      else s)

/-- FLT_ZONE_UNFENCE: the zone is selected as any other from the next end of pass A (R359). -/
def execFltZoneUnfence (m : Master) (k : Fin 6) (v : Word) (s : State) : Res :=
  .next (s.busWrite m (0x20040080 + 4 * k) v fun s =>
    s.forFin fun (i : Fin 32) s => if v.toNat.testBit i then s.wr (Reg.FLT_ZFENCE (32 * k + i)) 0 else s)

/-- FLT_NET_UNFENCE (R359). -/
def execFltNetUnfence (m : Master) (v : Word) (s : State) : Res :=
  .next (s.busWrite m 0x20040074 v fun s =>
    s.forFin fun (n : Fin 2) s => if v.toNat.testBit n then s.wr (Reg.FLT_FENCE_NET n) 0 else s)

end Sys2Proof.Machine
end

