-- ==== Sys2Proof/Machine/Frame.lean ====
section
/-! DEFINITION. The commands of frame timing (spec/06_frame_timing.md R127 to R146; spec/00_scope.md R6, R7). -/

namespace Sys2Proof.Machine

/-- FT_ENABLE (R140, R161): a set while a clear is pending withdraws it; otherwise it takes effect where its four conditions hold. -/
def execFtEnable (m : Master) (v : Word) (s : State) : Res :=
  .next (s.busWrite m 0x200A0000 v fun s =>
    if !v.toNat.testBit 0 then s
    else if s.ft.clear then (s.setFt { s.ft with clear := false }).wr Reg.FT_CTRL_EN 1
    else if s.on Reg.FT_CTRL_EN then s
    else if !s.on Reg.SA_CTRL_EN || s.image.isNone || !s.ftRunning || !s.baseNear (s.ftBase true) then s.werr 0x200A0000
    else
      let n := s.firstBoundary
      let f := s.ft
      let s := s.setFt { m := n, guard := n, restart := true, shown := f.shown, cap := f.cap, limit := f.limit, nextLo := f.nextLo,
                         nextHi := f.nextHi }
      (((s.wr Reg.FT_CTRL_EN 1).wr Reg.FT_STATUS_RUN 1).wr Reg.SA_STATUS_RUN 1).tlReconfig)

/-- FT_DISABLE: the clear acts at the next boundary (R141). -/
def execFtDisable (m : Master) (v : Word) (s : State) : Res :=
  .next (s.busWrite m 0x200A0000 v fun s =>
    if v.toNat.testBit 0 || !s.on Reg.FT_CTRL_EN then s
    else (s.setFt { s.ft with clear := s.on Reg.FT_STATUS_RUN }).wr Reg.FT_CTRL_EN 0)

/-- FT_COMMIT (R5, R7, R132, R145). -/
def execFtCommit (m : Master) (v : Word) (s : State) : Res :=
  .next (s.busWrite m 0x200A0000 v fun s => if v.toNat.testBit 1 then s.commitBlock 2 else s)

/-- COMMIT_GUARD (R6, R132). -/
def execCommitGuard (s : State) : Res := .next s.guardPass

/-- A set captured with frame timing off. -/
def isNow (c : Option Captured) : Bool := (c.map (·.now)).getD false

/-- IMMEDIATE_COMMIT_LIVE: a set accepted with frame timing off goes live (R7). -/
def execImmediateCommitLive (b : CommitBlock) (s : State) : Res :=
  .next (
    match b with
    | .sa => if isNow s.sa.cap then s.saLive else s
    | .layer => s.layerLive (fun p => p.now)
    | .ft => if isNow s.ft.cap then s.ftLive.ftChange else s
    | .hlth => if isNow s.hlth.cap then s.hlthLive else s
    | .lsc => if isNow s.lsc.cap then s.lscLive else s)

/-- BOUNDARY_FIX (R129, R130): the instant, its phase error, the latch delays in force (spec/07 R158), the cap that may rise (spec/14 R324), and
whether VLED has risen for the latching frame (spec/10 R250). -/
def execBoundaryFix (s : State) : Res :=
  .next (
    if !s.canFix then s
    else
      let a := s.boundaryTick
      let s := s.setFt { s.ft with fixed := some a, phase := (a - s.ftT s.ft.m).toNat }
      let s := s.forFin fun (p : Fin 12) s => if s.tlUp p then s.wr (Reg.TL_LATDLY_DK p) (s.dkOf p) else s
      let s := s.safeFix
      match s.ft.stream with
      | some st => if st.aborted then s else s.riseLate (st.frame.zone.map (·.z))
      | none => s)

/-- A latch departure that was missed (spec/08 R200, R211). -/
def State.phaseMiss (s : State) (p : Fin 12) : State :=
  ((s.wr (Reg.LANE_STATUS_PHASE_MISS p) 1).inc (Reg.LANE_CNT_PHASE_MISS p)).fire 43

/-- LATCH_DEPARTURE (R130, R142): LATCH leaves every port of a stream that completed and was not aborted; then FD, the drive registers, the
write-back header (spec/05 R120) and the record for the partner (spec/18 R428). `missed` names the ports whose LATCH could not reach its
departure instant (spec/08 R200). -/
def execLatchDeparture (missed : BitVec 12) (s : State) : Res :=
  .next (
    match s.ft.stream with
    | none => s
    | some st =>
      if st.aborted || st.latched || s.ft.fixed.isNone || decide (st.lines < s.info.h) then s
      else
        let s := s.forFin fun (p : Fin 12) s =>
          if s.portStreams st p && !s.txMuted then
            (if missed.getLsbD p then s.phaseMiss p else s).streamSend p 0x12 0 st.frame (leBytes 4 st.frame.no)
          else s
        let s := (s.setFt { s.ft with stream := some { st with latched := true } }).fire 2
        let s := s.wr Reg.SA_DRV_FRAME_FRAME_NO st.frame.no
        let s := s.forFin fun (p : Fin 12) s => s.wr (Reg.SA_DRV_PCRC_CRC p) (st.pcrc p)
        let s := s.forFin fun (g : Fin 192) s => s.wr (Reg.SA_DRV_ZCODE g) (st.frame.zone.getD g {}).z
        let s := if st.frame.drv.wb then
            ((s.wbHeader st 1).wr Reg.SA_DRV_STATUS_WB_VALID 1).wr Reg.SA_DRV_STATUS_WB_IDX (s.sa.wbIdx.getD 0)
          else s
        s.pairRecord st.frame.no false)

/-- FRAME_BOUNDARY (R131). `calp` holds the raw CALP/CALN conversions of the period that ends (spec/12 R277, R284). -/
def execFrameBoundary (calp : List (Fin 4096)) (s : State) : Res :=
  .next (if s.on Reg.FT_STATUS_RUN then s.boundaryNow calp else s)

/-- The known-answer value of a frame: at offset 0 of its entry for pass A, at 4 for pass B (spec/02 R43). -/
def Image.answer (i : Image) (no o : Nat) : Nat := leAt i.known (64 + 8 * (no % 16) + o) 4

/-- A known-answer failure (spec/02 R44). -/
def State.kalFail (s : State) (f : Fld) (no : Nat) : State :=
  (((s.wr f 1).wr Reg.SA_KAL_STATUS_LAST_SEED (no % 16)).inc Reg.SA_KAL_STATUS_FAIL_CNT).fire 13 |>.raise FLT_SA_KAL 0x20080030

/-- PASS_A_DONE (R129; spec/02 R43, R44; spec/05 R107 to R112): the frame is composed and its known-answer line judged; its zone records reach
THM and LSC, and in a pair its ZLIM the understudy, whose pass
A has waited for the temperatures of the frame (spec/18 R426). Where no known-answer line runs (AQPX2-BG484-I with KAL_EN 0), an
uncorrectable data-memory error fails no frame (spec/02 R46; DEDUCED, log entry 47). -/
def execPassADone (kalCrc : Word) (s : State) : Res :=
  .next (
    match s.ft.passA, s.image with
    | some f, some i =>
      if f.done.isSome || s.thermWaits f.no then s
      else
        let r := s.compose i f
        let s := r.2
        let bad := s.sa.kalA || (s.kalOn && kalCrc.toNat != i.answer f.no 0)
        let s := s.setSa { s.sa with kalA := false }
        let s := if bad && s.kalOn then s.kalFail Reg.SA_KAL_STATUS_A_FAIL f.no else s
        let g := { (if bad && s.kalOn then r.1.spoil 2 else r.1) with done := some s.ftTickUp }
        let s := s.takeRecords g.zone
        let s := if s.pairLead && s.mirrors 0x200F0000 then
            s.pairSend 0x86 (leBytes 4 f.no ++ (List.range 192).flatMap (fun z => leBytes 1 (s.rd (Reg.THM_ZLIM_ZLIM z)))) else s
        let s := s.setFt { s.ft with passA := some g }
        if g.cause = 0 then s.lscCodes f.no (g.zone.map (·.z)) else s.passAAborts f.no g.cause
    | _, _ => s)

/-- PASS_A_ABANDON (R133). -/
def execPassAAbandon (s : State) : Res :=
  .next (
    match s.ft.passA with
    | none => s
    | some f =>
      if f.done.isSome then s
      else
        let n := s.ft.m + 1
        let s := s.setFt { s.ft with passA := none, m := n, guard := max n s.ft.guard, restart := true }
        let s := ((s.wr Reg.FT_STATUS_ABANDON 1).inc Reg.FT_CNT0_ABANDON).passAAborts f.no 6
        (s.fire 4).raise FLT_FT_OVERRUN 0x200A0004)

/-- NOMINAL_BOUNDARY_PASSED (R143, R146). -/
def execNominalBoundaryPassed (s : State) : Res :=
  .next (if s.on Reg.FT_STATUS_RUN && !s.on Reg.FT_STATUS_LATE then (s.wr Reg.FT_STATUS_LATE 1).fire 4 else s)

/-- LINE_SLOT_START (R128, R136, R137): an active slot carries a line of the stream, or meets an underrun on a port that lacks its words. In a
period of more than 2,047 slots FT_LINE.SLOT stays at 0x7FF (R146; DESIGN CHOICE, log entry 49). -/
def execLineSlotStart (lacking : BitVec 12) (s : State) : Res :=
  .next (
    if !s.on Reg.FT_STATUS_RUN || s.ft.last.isNone then s
    else
      let k := match s.ft.slot with
        | some j => j + 1
        | none => 0
      let urg := s.ft.urgent.toList.any id
      let s := s.setFt { s.ft with slot := some k, urgSlot := urg, lmFired := false }
      let s := if urg then s.inc Reg.FT_URG_CNT_COUNT else s
      let s := (s.wr Reg.FT_LINE_SLOT (min k 0x7FF)).wrB Reg.FT_LINE_IN_BLANK (decide (s.info.h ≤ k))
      match s.ft.stream, s.imageB with
      | some st, some i =>
        if st.aborted || decide (i.info.h ≤ k) then s
        else match s.lackingPorts st lacking with
          | p :: _ => s.underrun p k
          | [] =>
            let s := s.forFin fun (p : Fin 12) s => if st.mapped.contains p.val then s.sendLine i k p else s
            match s.ft.stream with
            | some st => s.setFt { s.ft with stream := some { st with lines := k + 1 } }
            | none => s
      | _, _ => s)

/-- LINE_BUFFER_WATERMARK (R136): below WMARK a port's fetches are urgent, at WMARK + 1 lines or more they are not. FT_STATUS.URGENT shows the
urgent class, which between the two levels stays as it was (R146; DEDUCED, log entry 49). -/
def execLineBufferWatermark (p : Fin 12) (lines : Fin 5) (s : State) : Res :=
  .next (
    let w := max 1 (s.rd Reg.FT_WMARK_WMARK)
    let u := if lines < w then true else if w + 1 ≤ lines then false else s.ft.urgent[p]
    let counts := u && s.ft.slot.isSome && !s.ft.urgSlot
    let s := s.setFt { s.ft with urgent := s.ft.urgent.set p u, urgSlot := s.ft.urgSlot || counts }
    let s := s.wrB Reg.FT_STATUS_URGENT (s.ft.urgent.toList.any id)
    if counts then s.inc Reg.FT_URG_CNT_COUNT else s)

/-- ZONE and, where the frame holds targets on the port's tile, DIAG_REQ of a completed stream (spec/07 R164, R174; spec/09 R217). -/
def State.sendZone (s : State) (st : Stream) (i : Image) (p : Fin 12) : State :=
  let f := st.frame
  let s := s.streamSend p 0x10 0 f (f.codes p ++ leBytes 1 s.cap.1 ++ [0] ++ leBytes 2 s.cap.2)
  if f.targets.any (fun q => i.port q.1 == some p.val) then s.streamSend p 0x20 0 f (leBytes 1 f.measZ ++ leBytes 1 f.pulse ++ [0, 0]) else s

/-- The echo of what port `p` has sent of the stream is kept, with those of the three before (spec/07 R180). A port whose transmitter drops the
frame has sent none of it (spec/14 R325, spec/18 R426). -/
def State.keepEcho (s : State) (st : Stream) (p : Fin 12) : State :=
  if !s.streamOpen || s.txMuted then s
  else s.setPort p { s.port p with echo := ((st.frame.no, st.lineCrc[p] ^^^ 0xFFFFFFFF) :: (s.port p).echo).take 4 }

/-- START_OF_BLANKING (R142): FT_SOB in every period; a stream that completed is followed by its ZONE and DIAG_REQ. -/
def execStartOfBlanking (s : State) : Res :=
  .next (
    if !s.on Reg.FT_STATUS_RUN || s.ft.last.isNone then s
    else
      let s := s.fire 0
      match s.ft.stream, s.imageB with
      | some st, some i =>
        if st.aborted || decide (st.lines < i.info.h) then s
        else s.forFin fun (p : Fin 12) s => if s.portStreams st p then (s.sendZone st i p).keepEcho st p else s
      | _, _ => s)

/-- KAL_PASS_B_CHECK (spec/02 R43, R44): a failure withholds LATCH and counts as an abort; it makes no restart boundary (R138). A frame that has
been aborted already is not judged (DESIGN CHOICE; log entry 49). -/
def execKalPassBCheck (kalCrc : Word) (s : State) : Res :=
  .next (
    match s.ft.stream, s.imageB with
    | some st, some i =>
      let bad := s.sa.kalB || kalCrc.toNat != i.answer st.frame.no 4
      let s := s.setSa { s.sa with kalB := false }
      if !s.kalOn || st.aborted || !bad then s
      else (s.kalFail Reg.SA_KAL_STATUS_B_FAIL st.frame.no).streamAbort 3 false
    | _, _ => s)

/-- LINE_MATCH: FT_LM fires as the slot selected since the last boundary starts, once (R142). -/
def execLineMatch (s : State) : Res :=
  .next (if s.on Reg.FT_STATUS_RUN && s.ft.slot == some s.ft.lm && !s.ft.lmFired then (s.setFt { s.ft with lmFired := true }).fire 1 else s)

/-- FT_NEXT_NS_READ: the registers show T_m and hold its seconds until both have been read (R146). T_m is a multiple of 2.5 ns: half a ns is
rounded down (DESIGN CHOICE; log entry 48). -/
def execFtNextNsRead (s : State) : Res :=
  .next (
    let ns := s.nextNs
    let s := s.setFt { s.ft with nextLo := some (ns / giga % 2 ^ 32), nextHi := some (ns / giga / 2 ^ 32 % 2 ^ 16) }
    (s.wr Reg.FT_NEXT_NS_NS (ns % giga)).showNextSec ns)

/-- TIME_ADJUST_APPLY: a pending LOAD or STEP takes effect (spec/13 R308); of the frame-time source it is a schedule change (R135). -/
def execTimeAdjustApply (d : Fin 2) (s : State) : Res := .next (s.applyAdj d State.ftStepped)

/-- SWITCH_PEND_APPLY: the switch of the frame-time source that waited takes place (spec/13 R309), a schedule change (R135). -/
def execSwitchPendApply (s : State) : Res := .next (s.applySwitch State.ftStepped)

end Sys2Proof.Machine
end

