-- ==== Sys2Proof/Machine/Hlth.lean ====
section
/-! DEFINITION. The commands of pixel health (spec/09_pixel_health.md R214 to R236). -/

namespace Sys2Proof.Machine

/-- HLTH_ENABLE: EN takes effect at the next boundary, or at once while frame timing is off (R230, log entry 17). -/
def execHlthEnable (m : Master) (v : Word) (s : State) : Res :=
  .next (s.busWrite m 0x200D0000 v fun s =>
    let s := s.wrB Reg.HLTH_CTRL_EN (v.toNat.testBit 0)
    if s.on Reg.FT_STATUS_RUN then s else s.hlthRun)

/-- HLTH_COMMIT (R236). -/
def execHlthCommit (m : Master) (v : Word) (s : State) : Res :=
  .next (s.busWrite m 0x200D0000 v fun s =>
    if v.toNat.testBit 1 then s.commitBlock 3 else s)

/-- HLTH_CAPTURE: the capture starts at the next boundary (R222). -/
def execHlthCapture (m : Master) (v : Word) (s : State) : Res :=
  .next (s.busWrite m 0x200D0000 v fun s => if v.toNat.testBit 2 then s.wr Reg.HLTH_CTRL_CAPTURE 1 else s)

/-- HLTH_FORCE: the change enters the queue, or waits for room with GO 1; a write while one waits is ignored and sets WERR (R228). The
map of an understudy changes only through the lead's packets (spec/18 R426): there it queues nothing (DESIGN CHOICE; log entry 33). -/
def execHlthForce (m : Master) (v : Word) (s : State) : Res :=
  .next (s.busWrite m 0x200D0040 v fun s =>
    if !v.toNat.testBit 31 || s.understudy then s
    else
      let u : Update := { tile := s.rd Reg.HLTH_FORCE_TILE, x := s.rd Reg.HLTH_FORCE_X, y := s.rd Reg.HLTH_FORCE_Y,
                          new := s.rd Reg.HLTH_FORCE_CLASS, forced := true }
      ({ s with hlth := { s.hlth with force := some u } }.queueForce).showHlth)

/-- HLTH_REPORT_TIMER: REPORT_MS have passed; HLTH_REPORT fires again while the FIFO is not empty (R232). -/
def execHlthReportTimer (s : State) : Res :=
  let t := { s with hlth := { s.hlth with rptWait := !s.hlth.reports.isEmpty, pixWait := false } }
  .next (if s.hlth.reports.isEmpty then t else t.fire 92)

/-- HLTH_RPT_POP (R232). -/
def execHlthRptPop (m : Master) (v : Word) (s : State) : Res :=
  .next (s.busWrite m 0x200D004C v fun s =>
    if v.toNat.testBit 0 then { s with hlth := { s.hlth with reports := s.hlth.reports.tail } }.showHlth else s)

end Sys2Proof.Machine
end

