-- ==== Sys2Proof/Machine/Ident.lean ====
section
/-! DEFINITION. Identity, secure boot, life-cycle and debug (spec/20_identity_lifecycle.md R460 to R475). -/

namespace Sys2Proof.Machine

/-! Boot (R463 to R467). -/

/-- `n` bytes of the boot source from offset `o`, none where they cannot be read. The source is given by the pieces that can. -/
def flashRead (flash : List (Nat × List Byte)) (o n : Nat) : Option (List Byte) :=
  (flash.find? (fun p => decide (p.1 ≤ o ∧ o + n ≤ p.1 + p.2.length))).map (fun p => slice p.2 (o - p.1) n)

/-- The signer of a boot directory is the boot key of the current state (R468). -/
def State.isBootKey (s : State) (pub : List Byte) : Bool :=
  let key := (beAt pub 1 32, beAt pub 33 32)
  byteAt pub 0 == 4 && (match s.part.lcBoot with
    | 0 => key == Config.adeiqMfgKey
    | 1 => sha256 pub == s.part.ownerHash
    | 2 => sha256 pub == s.part.ownerHash
    | 3 => key == Config.adeiqReturnKey
    | _ => false)

/-- The code with which a copy of the boot directory fails step 2 of R466, 0 where it passes (R467). -/
def State.dirCode (s : State) (dir : Option (List Byte)) : Nat :=
  match dir with
  | none => 1
  | some d =>
    let pub := slice d 0x10 65
    if leAt d 0 4 ≠ 0x44425952 ∨ leAt d 4 2 ≠ 0x0100 ∨ leAt d 12 2 ≠ 0x0A02 ∨ 0xB0 < byteAt d 14 then 1
    else if !s.isBootKey pub || !sigBlockOk (beAt pub 1 32, beAt pub 33 32) (d.take 0xF80) (d.drop 0xF80) then 2
    else if leAt d 8 4 < s.part.svnFuse then 3 else 0

/-- The entries of a directory (R465). -/
def dirEntries (d : List Byte) : List (List Byte) := (List.range (leAt d 6 2)).map (fun i => slice d (0x80 + 64 * i) 64)

/-- An entry's type, engine, flags and addresses. -/
def entType (e : List Byte) : Nat := byteAt e 0
def entEngine (e : List Byte) : Nat := byteAt e 1
def entFlag (e : List Byte) (i : Nat) : Bool := (byteAt e 2).testBit i
def entLoad (e : List Byte) : Nat := leAt e 12 4
def entLen (e : List Byte) : Nat := leAt e 8 4

/-- The entry's load range lies in an engine SRAM or in shared SRAM (R466). -/
def entPlaced (e : List Byte) : Bool :=
  let a := entLoad e
  let n := entLen e
  decide (0x10000000 ≤ a ∧ a + n ≤ 0x10800000) ||
  decide (0x04000000 ≤ a ∧ a < 0x04200000 ∧ (a - 0x04000000) % 0x20000 + n ≤ 0x20000)

/-- Step 3 of R466: the index of the first entry with a bad load range, or 0 for a bad set; none where both are good. -/
def entsFault (es : List (List Byte)) : Option Nat :=
  let one (p : List Byte → Bool) : Bool := (es.filter p).length == 1
  if es.isEmpty || decide (48 < es.length) || !one (fun e => entType e == 2) ||
     !one (fun e => entType e == 1 && entEngine e == 0 && entFlag e 2) || es.any (fun e => entType e == 1 && decide (16 ≤ entEngine e))
  then some 0
  else es.findIdx? (fun e => entType e != 0 && !entPlaced e)

/-- A failed boot (R467): its code and entry, the end of E0's rights, FAULT_N, and E0 in wfi. -/
def State.bootFails (s : State) (code entry : Nat) : State :=
  let s := (s.wr Reg.SYSCTL_BOOT_CODE code).wr Reg.SYSCTL_BOOT_ENTRY entry
  let s : State := { s with evc := { s.evc with romRights := false } }
  ((s.wr Reg.FLT_PIN_FORCE 1).showPin).wr (Reg.EVC_ENG_STATE_WFI 0) 1

/-- A failed read of the boot source (R467). -/
def State.flashError (s : State) : State := s.raise FLT_PERI_FLASH 0x20000010

/-- The entry is read (R466): the kernel library, and any other that is to be loaded or verified. -/
def entRead (e : List Byte) : Bool := entType e != 0 && (entFlag e 0 || entFlag e 1 || entType e == 2)

/-- One entry processed (R466): loaded by E0, with a bus error where the memory does not take it (spec/15 R359, spec/19 R455), but for a structure image, which is only verified; the kernel library into the kernel store; hashed. The
answer holds the code with which it ends the boot. -/
def State.bootEntry (s : State) (flash : List (Nat × List Byte)) (e : List Byte) : State × Nat :=
  if !entRead e then (s, 0)
  else match flashRead flash (leAt e 4 4) (entLen e) with
    | none => (s.flashError, 6)
    | some d =>
      let s := if !entFlag e 0 || entType e = 3 then s else s.dramWrite (.engine 0) (s.actsFor (.engine 0)) (entLoad e) d []
      let s : State := if entType e = 2 then { s with ident := { s.ident with kernels := d } }.wr Reg.SA_KLIB_VER_VER (leAt e 20 4) else s
      (s, if (entFlag e 0 || entFlag e 1) && sha256 d != slice e 32 32 then 4 else 0)

/-- Step 4 of R466: the entries in directory order until one fails, with its code and index. -/
def State.bootEntries (s : State) (flash : List (Nat × List Byte)) : Nat → List (List Byte) → State × Option (Nat × Nat)
  | _, [] => (s, none)
  | i, e :: es =>
    let r := s.bootEntry flash e
    if r.2 = 0 then r.1.bootEntries flash (i + 1) es else (r.1, some (r.2, i))

/-- A START entry's engine starts at its entry (R466, spec/16 R372). -/
def State.bootStart (s : State) (e : List Byte) : State :=
  if entType e ≠ 1 || !entFlag e 2 || entEngine e = 0 then s
  else
    let k : Fin 16 := Fin.ofNat 16 (entEngine e)
    let s := (s.wr (Reg.EVC_ENG_RSTVEC_VEC k) (leAt e 16 4 / 2)).wr (Reg.EVC_ENG_CTRL_HOLD k) 0
    if s.engRuns k then s.startEngine k else s

/-- Step 5 of R466: the boot key becomes the owner public key, the other engines start, and E0 jumps to its entry. -/
def State.bootDone (s : State) (d : List Byte) (copyB : Bool) : State :=
  let es := dirEntries d
  let keys := { s.ident.keys with owner := some (beAt d 0x11 32, beAt d 0x31 32) }
  let s : State := { s with ident := { s.ident with keys := keys, bootSvn := some (leAt d 8 4) } }
  let s := ((s.wr Reg.SYSCTL_BOOT_CODE 0).wr Reg.SYSCTL_BOOT_ENTRY 0).wrB Reg.SYSCTL_BOOT_COPY_B copyB
  let s := es.foldl State.bootStart s
  match es.find? (fun e => entType e == 1 && entEngine e == 0 && entFlag e 2) with
  | none => s
  | some e => s.setPc 0 (BitVec.ofNat 32 (leAt e 16 4))

/-- A wipe-pending record completed (R471): DRAM, the user area of the calibration store, the safe-message keys and the owner key are
gone; in VOID the device key too. -/
def State.completeWipe (s : State) : State :=
  if s.ident.keys.wipe.isNone then s
  else
    let s := s.loseDram
    let nv := s.cal.nv.filter (fun e => decide (e.1 < 0x1000))
    let keys : KeyStore := { device := s.ident.keys.device && s.part.lcBoot != 7 }
    { s with cal := { s.cal with nv := nv }, ident := { s.ident with keys := keys } }

/-- The integrity check of the key store (R462). -/
def State.checkKeys (s : State) (ok : Bool) : State :=
  if ok then s
  else
    let keys := { s.ident.keys with smKey := .replicate 2 (List.replicate 32 0) }
    ({ s with ident := { s.ident with keys := keys } } : State).raise FLT_CRYPTO_KEY 0x20160000

/-- The ROM's boot from the source `flash` (R466, R467). -/
def State.boot (s : State) (flash : List (Nat × List Byte)) : State :=
  let a := flashRead flash 0 4096
  let b := flashRead flash 0x10000 4096
  let ca := s.dirCode a
  let cb := s.dirCode b
  let s := if a.isNone then s.flashError else s
  let s := if ca ≠ 0 ∧ b.isNone then s.flashError else s
  if ca ≠ 0 ∧ cb ≠ 0 then s.bootFails (if cb = 1 then ca else cb) 0
  else
    let d := (if ca = 0 then a else b).getD []
    let es := dirEntries d
    match entsFault es with
    | some i => s.bootFails 5 i
    | none =>
      let r := s.bootEntries flash 0 es
      match r.2 with
      | some f => r.1.bootFails f.1 f.2
      | none => r.1.bootDone d (ca ≠ 0)

/-- The ROM recovers over UART0 (R463). -/
def State.recovery (s : State) : Bool := s.ident.bootmode % 8 == 2 && (s.part.lcBoot == 0 || s.part.lcBoot == 3)

/-- Everything that the ROM reads of a boot source has come: the copies of the directory that it needs, and the entries that it reads. -/
def State.sourceWhole (s : State) (flash : List (Nat × List Byte)) : Bool :=
  let a := flashRead flash 0 4096
  let b := flashRead flash 0x10000 4096
  let es := dirEntries ((if s.dirCode a = 0 then a else b).getD [])
  a.isSome && (s.dirCode a == 0 || b.isSome) && es.all (fun e => !entRead e || (flashRead flash (leAt e 4 4) (entLen e)).isSome)

/-- The public key of the device shows in CRYPTO_DEVPUB, while there is a device key (R460, R476; DESIGN CHOICE, log entry 25). -/
def State.showPub (s : State) : State :=
  let q := if s.ident.keys.device then ecdsaPublic Config.deviceKey else (0, 0)
  (s.wrWords Reg.CRYPTO_DEVPUB_X_WORD (beBytes 32 q.1)).wrWords Reg.CRYPTO_DEVPUB_Y_WORD (beBytes 32 q.2)

/-- BOOT_ROM: E0 runs the ROM from its first address (R372): a pending wipe and the key store first (R462, R471), then the boot of the sampled
BOOTMODE (R463), which ends at once in VOID and after a reset for inconsistent fuses (R467, R468). In the recovery over UART0 the ROM waits for
what has not come (DESIGN CHOICE, log entry 25). -/
def execBootRom (keysOk : Bool) (flash : List (Nat × List Byte)) (s : State) : Res :=
  .next (
    if !s.evc.romRights || (s.eng 0).pc != 0x01000000 || !s.engRuns 0 then s
    else
      let s := (s.completeWipe.checkKeys keysOk).showPub
      if s.rd Reg.CLKRST_CAUSE_CAUSE = 5 ∧ s.rd Reg.CLKRST_CAUSE_SRC = FLT_LC_FUSE then s.bootFails 8 0
      else if s.part.lcBoot = 7 then s.bootFails 7 0
      else if s.ident.bootmode % 8 = 3 ∨ (s.recovery ∧ !s.sourceWhole flash) then s
      else s.boot flash)

/-- SVN_WRITE: accepted in OWNED and DEPLOYED up to the SVN of the directory that booted the part (R467). -/
def execSvnWrite (m : Master) (v : Word) (s : State) : Res :=
  .next (s.busWrite m 0x20000014 v fun s =>
    let t := bits v.toNat 0 7
    let upTo := match s.ident.bootSvn with
      | none => 0
      | some n => min 64 n
    if (s.part.lcBoot = 1 ∨ s.part.lcBoot = 2) ∧ s.ident.bootSvn.isSome ∧ t ≤ upTo then
      { s with part := { s.part with svnFuse := max s.part.svnFuse t } }
    else s.werr 0x20000014)

/-! Tokens (R469, R470). -/

/-- The 16 bytes of SYSCTL_NONCE. -/
def State.nonce (s : State) : List Byte := (List.range 4).flatMap (fun k => leBytes 4 (s.rd (Reg.SYSCTL_NONCE_NONCE k)))

/-- The token's first 128 bytes have the form of R469. -/
def tokenForm (t : List Byte) (kind : Nat) : Bool :=
  leAt t 0 4 == 0x4B545952 && byteAt t 4 == kind && leAt t 6 2 == 0 && (slice t 64 64).all (· == 0) &&
  ((kind == 1 && byteAt t 5 == 1) || (slice t 32 32).all (· == 0))

/-- The token is signed by the key that R468 names for the current state. -/
def State.tokenSigned (s : State) (t : List Byte) : Bool :=
  match s.imageKey with
  | none => false
  | some k => sigBlockOk k (t.take 128) (t.drop 128)

/-- The permitted transitions (R470). -/
def mayBecome (old new : Nat) : Bool :=
  (old == 0 && new == 1) || (old == 1 && (new == 2 || new == 3)) || (old == 2 && new == 3) || (old == 3 && new == 1) ||
  (old != 7 && new == 7)

/-- The code with which a life-cycle token is refused, 0 where it is not (R475). -/
def State.lcCode (s : State) (t : List Byte) : Nat :=
  if !tokenForm t 1 then 1
  else if leAt t 8 8 ≠ s.part.serial then 2
  else if slice t 16 16 ≠ s.nonce then 3
  else if !s.tokenSigned t then 4
  else if !mayBecome s.part.lcBoot (byteAt t 5) then 5 else 0

/-- LC_REQUEST (R471): the token at LC_REQ is verified; a good one leaves the wipe-pending record, blows the fuses and starts a chip reset. With
`cut` the power is lost after the record and before the fuses: the part is wiped at its next start and its state does not change. -/
def execLcRequest (m : Master) (v : Word) (cut : Bool) (s : State) : Res :=
  .next (s.busWrite m 0x20000030 v fun s =>
    if !v.toNat.testBit 0 || s.on Reg.SYSCTL_LC_REQ_GO then s
    else
      let a := s.rd Reg.SYSCTL_LC_REQ_ADDR * 64
      let seen := decide (0x10000000 ≤ a ∧ a + 256 ≤ 0x10800000) && s.canRead a 256
      let t := if seen then s.bytes a 256 else []
      let s := if seen then s else s.accErr .other ((s.badAt a 256).getD a) .read
      let c := s.lcCode t
      if c ≠ 0 then ((s.wr Reg.SYSCTL_LC_STATUS_ERR 1).wr Reg.SYSCTL_LC_STATUS_CODE c).newNonce
      else
        let new := byteAt t 5
        let keys := { s.ident.keys with wipe := some (s.rd Reg.MEMC_CTRL_DENSITY, s.rd Reg.MEMC_CTRL_RATE) }
        if cut then ({ s with ident := { s.ident with keys := keys } } : State).powerCut
        else
        let part := { s.part with lcFuse := new, ownerHash := if new = 1 then slice t 32 32 else s.part.ownerHash }
        let s : State := { s with ident := { s.ident with keys := keys }, part := part }
        (((s.wr Reg.SYSCTL_LC_REQ_GO 1).wr Reg.SYSCTL_LC_STATUS_BUSY 1).newNonce).requestReset 10)

/-- LC_FUSE_RECHECK: fuses that differ from those read at boot raise FLT_LC_FUSE (R468). -/
def execLcFuseRecheck (fuses : Nat) (s : State) : Res :=
  .next (if fuses = s.part.lcBoot then s else s.raise FLT_LC_FUSE 0x2000000C)

/-! Debug (R472, R473). -/

/-- The debug token in the window is good: R468 and R469, and no scope bit 1 in DEPLOYED. -/
def State.debugToken (s : State) : Bool :=
  let t := s.ident.token
  tokenForm t 2 && leAt t 8 8 == s.part.serial && slice t 16 16 == s.nonce && s.tokenSigned t &&
  !(s.part.lcBoot == 2 && (byteAt t 5).testBit 1)

/-- A session opens with a scope, and FLT_DBG_ACTIVE is raised. -/
def State.debugOpens (s : State) (scope : Nat) : State :=
  ((s.wr Reg.SYSCTL_DBG_OPEN 1).wr Reg.SYSCTL_DBG_SCOPE scope).raise FLT_DBG_ACTIVE 0x20000040

/-- DEBUG_OPEN_REQ: in MANUFACTURE debug is open without a token; elsewhere the token in the window decides, and three refusals close debug
until the next chip reset (R468, R473). -/
def execDebugOpenReq (m : Master) (v : Word) (s : State) : Res :=
  .next (s.busWrite m 0x20000040 v fun s =>
    if !v.toNat.testBit 0 || s.on Reg.SYSCTL_DBG_LOCKED then s
    else if s.part.lcBoot = 0 then s.debugOpens 7
    else if s.debugToken then (s.debugOpens (byteAt s.ident.token 5)).newNonce
    else
      let s := ((s.inc Reg.SYSCTL_DBG_FAILS).raise FLT_DBG_AUTH 0x20000040).newNonce
      if 3 ≤ s.rd Reg.SYSCTL_DBG_FAILS then s.wr Reg.SYSCTL_DBG_LOCKED 1 else s)

/-- DEBUG_CLOSE: a session with scope bit 1 or 2 ends in a chip reset with cause DEBUG (R473). -/
def execDebugClose (m : Master) (v : Word) (s : State) : Res :=
  .next (s.busWrite m 0x20000040 v fun s =>
    if !v.toNat.testBit 1 || !s.on Reg.SYSCTL_DBG_OPEN then s
    else
      let scope := s.rd Reg.SYSCTL_DBG_SCOPE
      let s := (s.wr Reg.SYSCTL_DBG_OPEN 0).wr Reg.SYSCTL_DBG_SCOPE 0
      if scope.testBit 1 || scope.testBit 2 then s.requestReset 9 else s)

end Sys2Proof.Machine
end

