-- ==== Sys2Proof/Machine/Layer.lean ====
section
/-! DEFINITION. The commands of the layers (spec/03_layers_blending.md R57 to R65, R77). -/

namespace Sys2Proof.Machine

/-- LAYER_ENABLE: a clear while frame timing is enabled is ignored and sets WERR (R77). -/
def execLayerEnable (m : Master) (v : Word) (s : State) : Res :=
  .next (s.busWrite m 0x20090000 v fun s =>
    if v.toNat.testBit 0 then s.wr Reg.LAYER_CTRL_EN 1
    else if s.on Reg.LAYER_CTRL_EN && s.blockOn 0x200A0000 then s.werr 0x20090000
    else s.wr Reg.LAYER_CTRL_EN 0)

/-- LAYER_COMMIT (R5, R7, R65, R92): the commit is requested and the span checks queued; with frame timing off it is captured at once. -/
def execLayerCommit (m : Master) (v : Word) (s : State) : Res :=
  .next (s.busWrite m 0x20090000 v fun s =>
    if !v.toNat.testBit 1 then s
    else if s.on Reg.LAYER_CTRL_COMMIT then s
    else s.queueChecks.commitBlock 0)

/-- SCANOUT_AGENT_HANDOVER: the agent hands on the old slots that nothing references any longer (R62, spec/05 R122). -/
def execScanoutAgentHandover (s : State) : Res :=
  .next (
    let r := s.agentHandsAll s.layer.retire
    let s := r.1.setLayer { r.1.layer with retire := r.2 }
    let q := s.agentHandsAll s.sa.retireNow
    { q.1 with sa := { q.1.sa with retireNow := q.2 } }.layerRetest)

/-- FETCH_ERROR: a failed read of pass A marks the frame bad (R64, spec/04 R97); one that nothing answers is a bus error too (spec/15 R359,
spec/19 R455). -/
def execFetchError (_l : Fin 8) (addr : Nat) (s : State) : Res :=
  .next (
    match s.ft.passA with
    | none => s
    | some f =>
      if f.done.isSome then s else
      let s := { s with ft := { s.ft with passA := some (f.spoil 4) } }
      (((s.readErr .stageArray addr).wr Reg.LAYER_STATUS_FETCH_ERR 1).fire 6).raiseAcc FLT_LAYER_FETCH addr .stageArray .read)

end Sys2Proof.Machine
end

