-- ==== Sys2Proof/Machine/Lsc.lean ====
section
/-! DEFINITION. The commands of the LED supply controller (spec/10_led_supply.md R237 to R258). -/

namespace Sys2Proof.Machine

/-- VLED in mV from a raw code (R246). -/
def State.vledMv (s : State) (code : Nat) : Nat := (s.adc 0 code * 1200 * s.rd Reg.LSC_SENSE_VDIV + 8388608) / 16777216
/-- A phase current in mA from a raw code (R246). -/
def State.phaseMa (s : State) (code : Nat) : Nat := (s.adc 1 code * 1000 * s.rd Reg.LSC_SENSE_ISNS_GAIN + 524288) / 1048576
/-- DMIN and DMAX as U0.16 duties (R243). -/
def State.dmin (s : State) : Nat := s.rd Reg.LSC_PHASE_DMIN * 256
def State.dmax (s : State) : Nat := s.rd Reg.LSC_PHASE_DMAX * 256
/-- A phase is in use (R243). -/
def State.phaseOn (s : State) (k : Nat) : Bool := decide (k ≤ s.rd Reg.LSC_PHASE_NPH)
/-- A protection status bit is set (R240). -/
def State.lscProt (s : State) : Bool :=
  s.on Reg.LSC_STATUS_OV || s.on Reg.LSC_STATUS_OC || s.on Reg.LSC_STATUS_UV || s.on Reg.LSC_STATUS_EXT

/-- The duties of the phases in use follow the duty and the balance terms (R245). -/
def State.showPhases (s : State) : State :=
  let d := Vector.ofFn fun (k : Fin 4) =>
    if s.phaseOn k then (clampI s.dmin s.dmax ((s.lsc.duty : Int) + s.lsc.bal[k])).toNat else 0
  { s with lsc := { s.lsc with phase := d } }

/-- LSC_ENABLE: a set takes effect under the conditions of R240, else it is ignored with WERR; a clear releases the stage (R241). With LPWR
not ON the write also meets the closed crossing (spec/19 R455). -/
def execLscEnable (m : Master) (v : Word) (s : State) : Res :=
  let t := s.busWrite m 0x200E0000 v fun s =>
    if !v.toNat.testBit 0 then s.lscRelease
    else if s.rd Reg.LSC_STATUS_STATE ≠ 0 then s
    else if s.understudyRole || s.lscProt then s.werr 0x200E0000
    else
      let d := s.rd Reg.LSC_BAL_D_INIT
      { (s.wr Reg.LSC_CTRL_EN 1).wr Reg.LSC_STATUS_STATE 1 with
        lsc := { s.lsc with acc := d * 32768, duty := d, bal := .replicate 4 0 } }
  .next (if v.toNat.testBit 0 && !s.domOn 12 then t.werr 0x200E0000 else t)

/-- LSC_HANDOVER_DONE, with the 20 conversions of the 20 µs: their mean is the first setpoint; LSPWM starts at D_INIT, held within DMIN to
DMAX, LSEN rises, CONTROL (R240, R243). -/
def execLscHandoverDone (codes : Vector (Fin 4096) 20) (s : State) : Res :=
  .next (
    if !s.lscPowered || s.rd Reg.LSC_STATUS_STATE ≠ 1 then s
    else
      let sum := (codes.toList.map (fun c => s.vledMv c.val)).sum
      let s := s.wr Reg.LSC_STATUS_STATE 2
      { s with lsc := { s.lsc with set := sum * 50, vmeas := s.vledMv (codes[19]).val, driven := true, lsen := true } }.showPhases.showRamp)

/-- LSC_RELEASE (R241). -/
def execLscRelease (s : State) : Res := .next s.lscRelease

/-- The setpoint after 1 µs (R249): SLEW in mV/ms is µV per µs, 0 acts as 1. -/
def State.slew (s : State) : State :=
  let t := s.rd Reg.LSC_VSET_TARGET * 10000
  let x := s.lsc.set
  let up := max 1 (s.rd Reg.LSC_SLEW_UP)
  let dn := max 1 (s.rd Reg.LSC_SLEW_DN)
  let x' := if x < t then min t (x + up) else max t (x - dn)
  { s with lsc := { s.lsc with set := x' } }.showRamp

/-- One step of the voltage loop (R244). -/
def State.voltageLoop (s : State) : State :=
  let e : Int := ((s.lsc.set / 1000 : Nat) : Int) - s.lsc.vmeas
  let acc := clampI 0 0x7FFFFFFF ((s.lsc.acc : Int) + s.rd Reg.LSC_LOOP_KI * e)
  let d := clampI s.dmin s.dmax (acc / 32768 + (s.rd Reg.LSC_LOOP_KP * e) / 16)
  { s with lsc := { s.lsc with acc := acc.toNat, duty := d.toNat } }.showPhases

/-- VLED is below the setpoint by more than UV_MARGIN while the setpoint is not rising (R254). -/
def State.vledShort (s : State) : Bool :=
  decide (s.lsc.vmeas * 1000 + s.rd Reg.LSC_PROT0_UV_MARGIN * 10000 < s.lsc.set ∧ s.rd Reg.LSC_VSET_TARGET * 10000 ≤ s.lsc.set)

/-- LSC_LOOP_UPDATE: a new VLED conversion; the setpoint ramps, and in CONTROL the loop runs (R244, R246, R249). A VLED that is too low is
counted (R254). -/
def execLscLoopUpdate (code : Fin 4096) (s : State) : Res :=
  let v := s.vledMv code
  let t := { s with lsc := { s.lsc with vmeas := v, vsum := s.lsc.vsum + v, vcnt := s.lsc.vcnt + 1 } }.slew
  let t := { t with lsc := { t.lsc with uvRun := if t.vledShort then t.lsc.uvRun + 1 else 0 } }
  .next (if !s.lscPowered then s else if t.rd Reg.LSC_STATUS_STATE = 2 then t.voltageLoop else t)

/-- LSC_PHASE_SAMPLE: a new current of a phase in use; in CONTROL its balance term follows (R245, R246). -/
def execLscPhaseSample (ph : Fin 4) (code : Fin 4096) (s : State) : Res :=
  .next (
    if !s.lscPowered || !s.phaseOn ph then s
    else
      let i := s.phaseMa code
      let x := s.lsc
      let s := { s with lsc := { x with cur := x.cur.set ph i, isum := x.isum.set ph (x.isum[ph] + i), icnt := x.icnt.set ph (x.icnt[ph] + 1) } }
      if s.rd Reg.LSC_STATUS_STATE ≠ 2 then s
      else
        let n := s.rd Reg.LSC_PHASE_NPH + 1
        let tot := ((List.finRange 4).map (fun (k : Fin 4) => if s.phaseOn k then s.lsc.cur[k] else 0)).sum
        let avg : Int := ((tot / n : Nat) : Int)
        let lim : Int := ((s.lsc.duty / 8 : Nat) : Int)
        let b := clampI (-lim) lim (s.lsc.bal[ph] + (s.rd Reg.LSC_BAL_KB * (avg - i)) / 256)
        { s with lsc := { s.lsc with bal := s.lsc.bal.set ph b } }.showPhases)

/-- LSC_COMMIT (R258). -/
def execLscCommit (m : Master) (v : Word) (s : State) : Res :=
  .next (s.busWrite m 0x200E0000 v fun s =>
    if v.toNat.testBit 1 then s.commitBlock 4 else s)

/-- PHASE_OVERCURRENT: the phase's on-time ends; PH_OC and its count (R254). `again` says that the phase's cycle before ended so too. -/
def execPhaseOvercurrent (ph : Fin 4) (again : Bool) (s : State) : Res :=
  .next (
    if !s.lscPowered || s.rd Reg.LSC_STATUS_STATE = 0 then s
    else
      let t := (s.wr (Reg.LSC_STATUS_PH_OC ph) 1).inc (Reg.LSC_OC_CNT ph)
      { t with lsc := { t.lsc with ocRun := t.lsc.ocRun.set ph (if again then t.lsc.ocRun[ph] + 1 else 1) } })

/-- A release by protection (R254): the status bit, the release with LSC_PROT (R256), and the fault. A stage that is already released keeps
so, and the bit and the fault still record the condition. An LSC without power records nothing. -/
def State.lscTrip (s : State) (f : Fld) (src : Nat) : State :=
  if !s.lscPowered then s
  else if s.rd Reg.LSC_STATUS_STATE = 0 then (if s.on f then s else (s.wr f 1).raise src 0x200E0004)
  else (((s.wr f 1).lscRelease).fire 84).raise src 0x200E0004

/-- PERSISTENT_OVERCURRENT: OC_CNT consecutive cycles of a phase have ended by over-current (R254). -/
def execPersistentOvercurrent (s : State) : Res :=
  .next (if s.lsc.ocRun.toList.any (fun n => decide (max 1 (s.rd Reg.LSC_PROT1_OC_CNT) ≤ n)) then s.lscTrip Reg.LSC_STATUS_OC FLT_LSC_OC else s)
/-- OVER_VOLTAGE (R254). -/
def execOverVoltage (s : State) : Res := .next (s.lscTrip Reg.LSC_STATUS_OV FLT_LSC_OV)
/-- UNDER_VOLTAGE: VLED has been too low for UV_US (R254). -/
def execUnderVoltage (s : State) : Res :=
  .next (if max 1 (s.rd Reg.LSC_PROT0_UV_US) * 10 ≤ s.lsc.uvRun then s.lscTrip Reg.LSC_STATUS_UV FLT_LSC_UV else s)
/-- STAGE_FAULT (R254). -/
def execStageFault (s : State) : Res := .next (s.lscTrip Reg.LSC_STATUS_EXT FLT_LSC_EXT)

end Sys2Proof.Machine
end

