-- ==== Sys2Proof/Machine/Maskin.lean ====
section
/-! DEFINITION. The commands of the gobo input (spec/03_layers_blending.md R66 to R73, R78). -/

namespace Sys2Proof.Machine

/-- A layer's live set, or one captured to go live, has SRC = MASKIN (R78). A shadow or an armed set that is not captured does not count (DESIGN
CHOICE; log entry 49). -/
def State.maskUsed (s : State) : Bool :=
  (List.range 8).any (fun k => s.fromMask true k || s.layer.plans.any (fun p => p.sets.any (fun x => x.2.contains (Reg.LAYER_L_CTRL_SRC k, 1))))

/-- MASKIN_ENABLE (R73, R78): a set starts reception anew (log entry 23); a clear while a layer uses MASKIN is ignored and sets WERR. -/
def execMaskinEnable (m : Master) (v : Word) (s : State) : Res :=
  .next (s.busWrite m 0x20180000 v fun s =>
    if v.toNat.testBit 0 then
      if s.on Reg.MASKIN_CTRL_EN then s
      else
        let s := ((s.setMask { safeIdx := s.maskin.safeIdx }).wr Reg.MASKIN_CTRL_EN 1).maskLive
        let s := s.maskUnlive
        ((s.wr Reg.MASKIN_STATUS_IN_FRAME 0).wr Reg.MASKIN_STATUS_MASK_VALID 0).wr Reg.MASKIN_STATUS_HOLD_CNT 0
    else if s.on Reg.MASKIN_CTRL_EN && s.maskUsed then s.werr 0x20180000
    else s.wr Reg.MASKIN_CTRL_EN 0)

/-- MASKIN_FRAME_START (R66, R67): `hdr` is the packet as it arrives, its header with its error correction code. -/
def execMaskinFrameStart (hdr : Word) (s : State) : Res := .next (s.maskPacket hdr [] 0)

/-- MASKIN_FRAME_END (R66, R67). -/
def execMaskinFrameEnd (hdr : Word) (s : State) : Res := .next (s.maskPacket hdr [] 0)

/-- MASKIN_LONG_PACKET (R66, R67): `data` is what follows the header and `crc` is the packet's footer. -/
def execMaskinLongPacket (hdr : Word) (data : List Byte) (crc : BitVec 16) (s : State) : Res := .next (s.maskPacket hdr data crc)

/-- MASKIN_SHORT_PACKET: line starts and ends and generic short packets are ignored (R67). -/
def execMaskinShortPacket (hdr : Word) (s : State) : Res := .next (s.maskPacket hdr [] 0)

/-- MASKIN_HEADER_ECC_ERROR: a header that the code cannot correct (R67). -/
def execMaskinHeaderEccError (s : State) : Res := .next (if s.csiOn then s.maskEcc else s)

/-- MASKIN_OTHER_PACKET (R67): a packet of another type or channel; nothing uses its payload. -/
def execMaskinOtherPacket (hdr : Word) (s : State) : Res := .next (s.maskPacket hdr [] 0)

/-- MASK_COMPLETE (R69). -/
def execMaskComplete (s : State) : Res := .next s.maskComplete

/-- MASKIN_LINE_TIMEOUT: the partial frame is discarded, and nothing is accepted until the next frame start (R70). -/
def execMaskinLineTimeout (s : State) : Res :=
  .next (
    if s.on Reg.MASKIN_CTRL_EN && s.on Reg.MASKIN_STATUS_IN_FRAME then (s.wr Reg.MASKIN_ERR_TIMEOUT 1).maskDiscard else s)

/-- PROTECTED_REGION_WRITE: a write to memory by a master (R68, spec/05 R111, R120, spec/09 R227); the parts that a protected region
blocks get a bus error. -/
def execProtectedRegionWrite (m : Master) (addr : Nat) (data : List Byte) (s : State) : Res :=
  .next (s.dramWrite m (s.actsFor m) (s.viewAddr m addr) data [])

end Sys2Proof.Machine
end

