-- ==== Sys2Proof/Machine/Memc.lean ====
section
/-! DEFINITION. The commands of the memory controller and of on-chip SRAM codes (spec/17_memory_window.md R391 to R401). -/

namespace Sys2Proof.Machine

/-- STATE of MEMC: MEMC_STATE fires on a change (R413). -/
def State.setMemc (s : State) (st : Nat) : State :=
  let t := s.wr Reg.MEMC_STATUS_STATE st
  if s.rd Reg.MEMC_STATUS_STATE = st then t else t.fire 97

/-- Training has failed (R392). -/
def State.memcFail (s : State) : State := ((s.wr Reg.MEMC_CTRL_RETRAIN 0).setMemc 4).raise FLT_MEM_TRAIN 0x20060004

/-- DENSITY selects the fitted device (R391, R392): 3 acts as 2. -/
def State.densityOk (s : State) : Bool := min 2 (s.rd Reg.MEMC_CTRL_DENSITY) == min 2 s.part.density

/-- Training starts; it fails at once on a wrong density (R392). -/
def State.memcTrain (s : State) : State := let s := s.setMemc 1; if s.densityOk then s else s.memcFail

/-- MEMC_ENABLE (R392). -/
def execMemcEnable (m : Master) (v : Word) (s : State) : Res :=
  .next (s.busWrite m 0x20060000 v fun s =>
    if v.toNat.testBit 0 then
      if s.on Reg.MEMC_CTRL_EN then s else (s.wr Reg.MEMC_CTRL_EN 1).memcTrain
    else ((s.wr Reg.MEMC_CTRL_EN 0).wr Reg.MEMC_CTRL_RETRAIN 0).setMemc 0)

/-- MEMC_TRAINING_END (R392): the end of a training, or of a retraining with traffic stalled. -/
def execMemcTrainingEnd (ok : Bool) (s : State) : Res :=
  let st := s.rd Reg.MEMC_STATUS_STATE
  .next (
    if s.domOpen 10 ∧ (st = 1 ∨ (st = 2 ∧ s.on Reg.MEMC_CTRL_RETRAIN)) then
      if ok && s.densityOk then (s.wr Reg.MEMC_CTRL_RETRAIN 0).setMemc 2 else s.memcFail
    else s)

/-- MEMC_RETRAIN (R392): from READY with traffic stalled; from FAILED afresh, after RET too, which has cleared EN (log entry 12). -/
def execMemcRetrain (m : Master) (v : Word) (s : State) : Res :=
  .next (s.busWrite m 0x20060000 v fun s =>
    let st := s.rd Reg.MEMC_STATUS_STATE
    if !v.toNat.testBit 1 then s
    else if st = 2 then s.wr Reg.MEMC_CTRL_RETRAIN 1
    else if st = 4 then (s.wr Reg.MEMC_CTRL_RETRAIN 1).memcTrain
    else s)

/-- WCK2DQ_TRACKING: traffic does not stop, and nothing that software sees changes (R392). -/
def execWck2dqTracking (s : State) : Res := .next s

/-- DRAM_PARTIAL_WRITE: a write to DRAM by a master for the owners it acts for (R396, R403, R404), with the wrong symbols of the reads of its
partial blocks. -/
def execDramPartialWrite (m : Master) (addr : Nat) (data : List Byte) (errs : List (List (Fin 72 × Byte))) (s : State) : Res :=
  .next (s.dramWrite m (s.actsFor m) (s.viewAddr m addr) data errs)

/-- The scrub goes on to the next block; at the end of usable DRAM a new pass begins (R397). -/
def State.scrubNext (s : State) (fixed : Option Nat) : State :=
  let now := s.memc.fixedNow ++ fixed.toList
  if usableDram s.part.density ≤ 64 * (s.memc.scrub + 1) then
    { s with memc := { s.memc with scrub := 0, fixedNow := [], fixedLast := now } }
  else { s with memc := { s.memc with scrub := s.memc.scrub + 1, fixedNow := now } }

/-- SCRUB_READ: the next block in ascending order; `raced` says that a write to it arrived after the read, which then stands (R397). -/
def execScrubRead (errs : List (Fin 72 × Byte)) (raced : Bool) (s : State) : Res :=
  let b := s.memc.scrub
  let a := dramBase + 64 * b
  .next (
    if !s.on Reg.MEMC_CTRL_SCRUB_EN || !s.readable a then s
    else
      let t := (s.blockRead a errs .other .read).1
      match rsDecode errs with
      | .corrected _ =>
        let t := if raced then { t with mem := s.mem, dramGen := s.dramGen } else t
        let t := if s.memc.fixedLast.contains b then t.memFault FLT_MEM_SCRUB a .other .read else t
        t.scrubNext (some b)
      | _ => t.scrubNext none)

/-- LINK_ECC_RATE: the link-ECC corrections of one second (R394, R398). -/
def execLinkEccRate (corrections : Nat) (s : State) : Res :=
  .next (
    if s.rd Reg.MEMC_STATUS_STATE ≠ 2 ∨ corrections = 0 then s
    else
      let t := (s.addSat Reg.MEMC_ERR_CNT_LINK corrections).ceEvent
      if s.rd Reg.MEMC_SCRUB_LINK_TH < corrections then t.raise FLT_MEM_LINK 0x20060008 else t)

/-- DRAM_TEMP_REPORT (R398). -/
def execDramTempReport (raised : Bool) (s : State) : Res :=
  .next (
    if s.rd Reg.MEMC_STATUS_STATE ≠ 2 then s
    else if !raised then s.wr Reg.MEMC_STATUS_TEMP_HI 0
    else if s.on Reg.MEMC_STATUS_TEMP_HI then s
    else (s.wr Reg.MEMC_STATUS_TEMP_HI 1).raise FLT_MEM_TEMP 0x20060004)

/-- The words of a write to on-chip memory, all but those of `skip` (R401). -/
def State.storeWords (s : State) (a : Nat) (data : List Byte) (skip : List Nat) : State :=
  (List.range data.length).foldl (fun s i => if skip.contains ((a + i) / 8) then s else s.setByte (a + i) (data.getD i 0)) s

/-- The report of a SECDED error in the word at `addr` (R401, spec/16 R368): of a shared bank, or an uncorrectable one of an engine's SRAM. -/
def State.sramReport (s : State) (m : Master) (acc : Access) (addr : Nat) (double : Bool) : State :=
  if 0x10000000 ≤ addr ∧ addr < 0x10800000 then
    let b := bankOf addr
    let o (src : Nat) : Occurrence := { src := src, unit := some b, addr := addr, master := m, access := acc }
    if double then
      let t := if s.on Reg.MEMC_SRAM_UE then s else s.wr Reg.MEMC_SRAM_UE_BANK b
      (t.wr Reg.MEMC_SRAM_UE 1).raiseOcc (o FLT_SRAM_UE)
    else (s.inc Reg.MEMC_SRAM_CE).raiseOcc (o FLT_SRAM_CE)
  else if 0x04000000 ≤ addr ∧ addr < 0x04200000 ∧ double then
    s.raiseOcc { src := FLT_ENG_ECC, unit := some ((addr - 0x04000000) / 0x20000), addr := addr, master := m, access := acc }
  else s

/-- An uncorrectable word of SRAM ends an engine's access to `addr` of its own view with an access fault: its next synchronous exception
(spec/16 R368). -/
def State.engFaults (s : State) (m : Master) (acc : Access) (addr : Nat) : State :=
  match m with
  | .engine e => s.setEng e { s.eng e with fault := some (acc, addr) }
  | _ => s

/-- SRAM_ECC: SECDED errors that one access meets in 64-bit words of a shared bank or of an engine's SRAM, each with an address in it and
whether it is a double-bit error (R401, spec/16 R368). A single-bit error is corrected. A double-bit one gives the access a bus error, an
engine's own an access fault. The bytes of a write, from `start` on, are written but for those in the words of double-bit errors. An access that its
master may not make, or that a protected region blocks (spec/09 R227, spec/20 R473), gets a bus error and changes nothing. -/
def execSramEcc (m : Master) (acc : Access) (errs : List (Nat × Bool)) (start : Nat) (data : List Byte) (s : State) : Res :=
  let es := errs.map (fun e => (s.viewAddr m e.1, e.2))
  let a := s.viewAddr m start
  .next (
    match es.find? (fun e => !s.readable e.1) with
    | some e => s.accErr m e.1 acc
    | none =>
      let as := es.map (·.1) ++ (List.range data.length).map (a + ·)
      let may (b : Nat) : Bool := (m != .debug || s.debugReach b) && (acc != .write || (s.chipWritable m b && !s.protectedFrom (.master m) b))
      if !as.all may then s.busErr m ((as.find? (fun b => !may b)).getD a) acc
      else
        let bad := es.filter (·.2)
        let s := if acc = .write then s.storeWords a data (bad.map (·.1 / 8)) else s
        let s := match errs.find? (·.2) with
          | some e => s.engFaults m acc e.1
          | none => s
        es.foldl (fun s e => s.sramReport m acc e.1 e.2) s)

end Sys2Proof.Machine
end

