-- ==== Sys2Proof/Machine/Net.lean ====
section
/-! DEFINITION. The network ports (spec/13_network_time.md R291 to R304, R313 to R315). -/

namespace Sys2Proof.Machine

/-- The address of NET_CTRL of a port. -/
def netCtrl (n : Fin 2) : Nat := 0x20110000 + n * 0x10000

/-- NET_ENABLE: a fenced port ignores a set of EN, with WERR (R291, R359). -/
def execNetEnable (n : Fin 2) (m : Master) (v : Word) (s : State) : Res :=
  .next (s.busWrite m (netCtrl n) v fun s =>
    if v.toNat.testBit 0 then
      if s.on (Reg.FLT_FENCE_NET n) then s.werr (netCtrl n) else s.netEnable n true
    else s.netEnable n false)

/-- NET_LINK_CHANGE: `up` is PCS synchronisation or the auto-negotiation result with its speed and duplex (R291). A half-duplex or 10 Mb/s
report keeps LINK at 0. LINK falling while EN is 1 raises FLT_NET_LINK (R314). Isolation keeps the report from a domain that is not ON
(spec/19 R439). -/
def execNetLinkChange (n : Fin 2) (up : Bool) (mbps : Nat) (full : Bool) (s : State) : Res :=
  .next (
    if !s.alive 3 then s else
    let sgmii := !s.on (Reg.NET_CTRL_MODE n)
    let speed := if !up then 0 else if !sgmii then 3 else if mbps = 100 then 1 else if mbps = 1000 then 2 else 0
    let link := up && (!sgmii || (full && speed != 0))
    let old := s.on (Reg.NET_STATUS_LINK n)
    let s := (s.wrB (Reg.NET_STATUS_LINK n) link).wr (Reg.NET_STATUS_SPEED n) (if link then speed else 0)
    let s := s.wrB (Reg.NET_STATUS_AN_DONE n) (up && sgmii && s.on (Reg.NET_CTRL_AN_EN n))
    let s := if old != link then s.fire (50 + 3 * n) else s
    if old && !link && s.on (Reg.NET_CTRL_EN n) then s.raise FLT_NET_LINK (0x20110004 + n * 0x10000) (some n) else s)

/-- NET_RX_KICK: a ring stopped by an error resumes at HEAD once DMA_ERR is clear (R294, R297). -/
def execNetRxKick (n : Fin 2) (m : Master) (v : Word) (s : State) : Res :=
  .next (s.busWrite m (netCtrl n) v fun s =>
    if v.toNat.testBit 7 && !s.on (Reg.NET_STATUS_DMA_ERR n) then
      { s with net := { s.net with rxStopped := s.net.rxStopped.set n false } }
    else s)

/-- NET_TX_KICK: the port handles transmit descriptors from HEAD; a ring stopped by an error resumes once DMA_ERR is clear (R294, R297). -/
def execNetTxKick (n : Fin 2) (m : Master) (v : Word) (s : State) : Res :=
  .next (s.busWrite m (netCtrl n) v fun s =>
    if v.toNat.testBit 8 && s.on (Reg.NET_CTRL_EN n) then
      if s.net.txStopped[n] && s.on (Reg.NET_STATUS_DMA_ERR n) then s
      else { s with net := { s.net with txStopped := s.net.txStopped.set n false, txRun := s.net.txRun.set n true } }
    else s)

/-- A frame that arrives reaches port `n`: one from its partner, or with LOOPBACK set on its lane one of its own (spec/08 R209). -/
def State.netReaches (s : State) (n : Fin 2) (frame : List Byte) : Bool :=
  !s.on (Reg.LANE_CTRL_LOOPBACK (if n = 0 then 13 else 14)) || s.net.out[n].contains frame

/-- NET_FRAME_RX: the frame, FCS included, passes the MAC's checks and filters (R292), the PRP handling (R298 to R300) and the safe-message
filter (spec/14 R338), and is delivered or dropped (R294, R295). -/
def execNetFrameRx (n : Fin 2) (frame : List Byte) (trouble : NetTrouble) (errs : List (Fin 72 × Byte)) (s : State) : Res :=
  .next (
    if !s.on (Reg.NET_CTRL_EN n) || !s.on (Reg.NET_STATUS_LINK n) || !s.netReaches n frame then s
    else if trouble = .overflow then ((s.wr (Reg.NET_STATUS_RX_OVF n) 1).inc (Reg.NET_CNT_ERR_HI n)).fire 54
    else if !s.frameWhole n frame then s.netDrop n
    else
      let f := frame.take (frame.length - 4)
      if s.on (Reg.NET_CTRL_PAUSE_EN n) && s.isPause n f then s.pauseFor n (beAt f 16 2)
      else if !s.vlanOk n f || !s.addrPass n f then s
      else
        let rct := s.on (Reg.NET_CTRL_PRP_EN 0) && hasRct f
        let seq := beAt f (f.length - 6) 2
        let data := if rct then f.take (f.length - 6) else f
        let wrong := rct && beAt f (f.length - 4) 2 / 4096 != lanId n
        let s := if wrong then (s.inc (Reg.NET_CNT_PRP_WRONG_LAN 0)).fire 55 else s
        let msg := s.safeOf data
        let s := match msg with
          | none => s
          | some d => s.safeMessage n d
        let x : RxFrame := { port := n, data := data, seq := if rct then some seq else none, wrong := wrong, safe := msg.isSome }
        let own := msg.isSome || (ptpOf data).isSome
        if rct && !own && s.isDup (slice data 6 6) seq n then s.inc (Reg.NET_CNT_PRP_DUP 0)
        else
          let s := if rct then s.dupRecord (slice data 6 6) seq n else s
          s.deliver (if rct && !own then 0 else n) x (trouble == .uncorrectable) errs)

/-- A pause frame holds the other copy of a PRP frame (R292, R298): the frame waits until both copies may leave (log entry 44). -/
def State.twinPaused (s : State) (n : Fin 2) (flags : Nat) : Bool :=
  n == 0 && s.on (Reg.NET_CTRL_PRP_EN 0) && flags.testBit 5 && s.on (Reg.NET_CTRL_EN 1) && decide (s.now < s.net.pause[1])

/-- NET_FRAME_TX: the frame of the descriptor at HEAD is sent and written back (R294, R296); `trouble` names the access that meets an
uncorrectable error (R297). -/
def execNetFrameTx (n : Fin 2) (trouble : TxTrouble) (s : State) : Res :=
  .next (
    let d := s.txDesc n
    let after := trouble == .next
    if !s.on (Reg.NET_CTRL_EN n) || !s.net.txRun[n] || s.net.txStopped[n] || decide (s.now < s.net.pause[n]) then s
    else if trouble = .descriptor ∨ !s.readable d then s.ringRead n true d
    else if !(s.byte (d + 5)).toNat.testBit 0 then s.txScan n false
    else if s.twinPaused n (s.byte (d + 5)).toNat then s
    else
      let a := s.num d 5 % 2 ^ 36
      let len := s.num (d + 6) 2
      let inWin := decide (s.winBase ≤ a ∧ a + len ≤ s.winBase + s.rd Reg.WIN_CFG_COUNT * s.slotSize) && s.on Reg.WIN_CTRL_EN
      let none' : List Byte := List.replicate 12 0
      let bad := match trouble with
        | .frame k => some ((s.badAt a len).elim (a + k.toNat) (min (a + k.toNat)))
        | _ => s.badAt a len
      if len < 14 ∨ s.maxLen n - 4 < len then s.txWriteBack n d none' 4 after
      else if !inShared a len && !inWin then s.txWriteBack n d none' 8 after
      else match bad with
        | some b => s.ringRead n true b
        | none => s.txGo n d (s.bytes a len) after)

/-- MDIO_ACCESS: GO starts an access (R293). A write while GO is 1 is ignored and sets WERR (R315). -/
def execMdioAccess (m : Master) (v : Word) (s : State) : Res :=
  .next (s.busWrite m 0x201100A0 v fun s => if v.toNat.testBit 31 then s.wr (Reg.NET_MDIO_CMD_GO 0) 1 else s)

/-- MDIO_DONE: a read leaves its result in NET_MDIO_DATA, and GO clears (R293, R315). -/
def execMdioDone (data : Nat) (s : State) : Res :=
  .next (
    if !s.on (Reg.NET_MDIO_CMD_GO 0) then s
    else
      let op := s.rd (Reg.NET_MDIO_CMD_OP 0)
      let read := op == 2 || (op == 3 && s.on (Reg.NET_MDIO_CMD_CL45 0))
      (if read then s.wr (Reg.NET_MDIO_DATA_DATA 0) data else s).wr (Reg.NET_MDIO_CMD_GO 0) 0)

end Sys2Proof.Machine
end

