-- ==== Sys2Proof/Machine/Peri.lean ====
section
/-! DEFINITION. The service peripherals, the MASKIN I2C controller among them (spec/16_engines_events.md R387 to R390). -/

namespace Sys2Proof.Machine

/-- The nibble of PERI_EVSEL that serves a unit (R390): units 0 to 10. -/
def evselFld (u : Nat) : Fld := if u < 8 then Reg.PERI_EVSEL0 u else Reg.PERI_EVSEL1 (u - 8)

/-- A unit signals its routed event source (R387). -/
def State.signal (s : State) (u : Nat) : State :=
  let n := s.rd (evselFld u)
  if n.testBit 3 then s.fire (124 + n % 4) else s

/-- A flag marked IRQ goes to 1: from 0, with its enable set, its unit signals (R387). -/
def State.raiseFlag (s : State) (f : Fld) (enabled : Bool) (u : Nat) : State :=
  if s.on f then s else if enabled then (s.wr f 1).signal u else s.wr f 1

/-- UART status follows the FIFOs (R388); RXVALID and TXEMPTY rising may signal. -/
def State.showUart (s : State) (u : Fin 2) : State :=
  let f := s.peri.uart[u]
  let ie := s.rd (Reg.UART_CTRL_IE u)
  let s := if f.rx.isEmpty then s.wr (Reg.UART_STATUS_RXVALID u) 0 else s.raiseFlag (Reg.UART_STATUS_RXVALID u) (ie.testBit 0) u
  let s := if f.tx.isEmpty then s.raiseFlag (Reg.UART_STATUS_TXEMPTY u) (ie.testBit 1) u else s.wr (Reg.UART_STATUS_TXEMPTY u) 0
  s.wrB (Reg.UART_STATUS_TXFULL u) (decide (16 ≤ f.tx.length))

/-- The FIFOs of a UART replaced. -/
def State.setUart (s : State) (u : Fin 2) (f : Fifos) : State :=
  { s with peri := { s.peri with uart := s.peri.uart.set u f } }.showUart u

/-- The bits of a character on the line (R388): a start bit, 8 data bits from the least significant, even or odd parity as PARITY selects, and
one or two stop bits. -/
def uartBits (stop2 : Bool) (parity : Nat) (b : Byte) : List Bool :=
  let ds := (List.range 8).map b.getLsbD
  let odd := ds.foldl xor false
  [false] ++ ds ++ (if parity = 1 then [odd] else if parity = 2 then [!odd] else []) ++ (if stop2 then [true, true] else [true])

/-- The `n` oldest bytes of the transmit FIFO leave an enabled UART (R388). -/
def State.uartSends (s : State) (u : Fin 2) (n : Nat) : State :=
  if !s.on (Reg.UART_CTRL_EN u) then s
  else
    let f := s.peri.uart[u]
    let cs := (f.tx.take n).map (uartBits (s.on (Reg.UART_CTRL_STOP2 u)) (s.rd (Reg.UART_CTRL_PARITY u)))
    { s with peri := { s.peri with uartOut := s.peri.uartOut.set u (s.peri.uartOut[u] ++ cs) } }.setUart u { f with tx := f.tx.drop n }

/-- UART_DATA_WRITE queues a byte, or drops it when the FIFO is full (R388). `sent` counts the bytes that have left since the last command,
which leave one of the queue: the last one leaves by UART_TX_EMPTY. -/
def execUartDataWrite (m : Master) (u : Fin 2) (v : Word) (sent : Nat) (s : State) : Res :=
  .next (s.busWrite m (0x20170008 + u * 0x100) v fun s =>
    let s := s.uartSends u (min sent ((s.peri.uart[u]).tx.length - 1))
    let f := s.peri.uart[u]
    s.setUart u { f with tx := if 16 ≤ f.tx.length then f.tx else f.tx ++ [v.setWidth 8] })

/-- UART_DATA_READ removes the oldest received byte; it returns 0 if the FIFO is empty. The byte read stands in UART_DATA. -/
def execUartDataRead (u : Fin 2) (s : State) : Res :=
  let f := s.peri.uart[u]
  .next ((s.wr (Reg.UART_DATA_DATA u) (f.rx.headD 0).toNat).setUart u { f with rx := f.rx.tail })

/-- UART_RX_BYTE: a byte enters the FIFO; an overrun, parity or framing error sets ERR (R388). -/
def execUartRxByte (u : Fin 2) (data : Byte) (ok : Bool) (s : State) : Res :=
  .next (
    let f := s.peri.uart[u]
    if !s.on (Reg.UART_CTRL_EN u) then s
    else if !ok || decide (16 ≤ f.rx.length) then s.raiseFlag (Reg.UART_STATUS_ERR u) ((s.rd (Reg.UART_CTRL_IE u)).testBit 2) u
    else s.setUart u { f with rx := f.rx ++ [data] })

/-- UART_TX_EMPTY: queued bytes leave, all but the `left` newest; with none left TXEMPTY rises (R388, log entry 46). -/
def execUartTxEmpty (u : Fin 2) (left : Nat) (s : State) : Res :=
  .next (s.uartSends u ((s.peri.uart[u]).tx.length - left))

/-- The base of an I2C controller's registers (R389). -/
def i2cAddr (c : Fin 3) : Nat := Reg.i2cBase c
/-- The unit number of an I2C controller in PERI_EVSEL (R390). -/
def i2cUnit (c : Fin 3) : Nat := if c = 2 then 10 else 2 + c

/-- The FIFOs of an I2C controller replaced; RXCNT and TXFREE follow (R389). -/
def State.setI2c (s : State) (c : Fin 3) (f : Fifos) : State :=
  ({ s with peri := { s.peri with i2c := s.peri.i2c.set c f } }.wr (Reg.I2C_STATUS_RXCNT c) f.rx.length).wr
    (Reg.I2C_STATUS_TXFREE c) (8 - f.tx.length)

/-- Something passes on the bus of an I2C controller. -/
def State.i2cPut (s : State) (c : Fin 3) (xs : List I2cItem) : State :=
  { s with peri := { s.peri with i2cBus := s.peri.i2cBus.set c (s.peri.i2cBus[c] ++ xs) } }

/-- I2C_GO sends START and the address and runs the transfer (R389). -/
def execI2cGo (m : Master) (c : Fin 3) (v : Word) (s : State) : Res :=
  .next (s.busWrite m (i2cAddr c + 4) v fun s =>
    if v.toNat.testBit 31 && s.on (Reg.I2C_CTRL_EN c) && !s.on (Reg.I2C_CMD_GO c) then
      let t := s.i2cPut c [.start (s.rd (Reg.I2C_CMD_ADDR c)) (s.on (Reg.I2C_CMD_READ c))]
      { (t.wr (Reg.I2C_CMD_GO c) 1).wr (Reg.I2C_STATUS_BUSY c) 1 with
        peri := { t.peri with i2cHeld := t.peri.i2cHeld.set c true, i2cCount := t.peri.i2cCount.set c 0 } }
    else s)

/-- The transfer is over: GO and BUSY clear (R389). A STOP releases the bus, which stays held where STOP is 0, except after an error. -/
def State.i2cEnd (s : State) (c : Fin 3) (released : Bool) : State :=
  let stop := released || s.on (Reg.I2C_CMD_STOP c)
  let s := if stop then s.i2cPut c [.stop] else s
  { (s.wr (Reg.I2C_CMD_GO c) 0).wr (Reg.I2C_STATUS_BUSY c) 0 with peri := { s.peri with i2cHeld := s.peri.i2cHeld.set c (!stop) } }

/-- What a transfer in progress has moved since the last command (R389): the next bytes of a read enter the receive FIFO, those of a write leave
the transmit FIFO. No more move than LEN leaves and than the FIFO lets, because the controller stretches SCL while a FIFO blocks. -/
def State.i2cMoved (s : State) (c : Fin 3) (got : List Byte) (sent : Nat) : State :=
  if !s.on (Reg.I2C_CMD_GO c) then s
  else
    let f := s.peri.i2c[c]
    let todo := s.rd (Reg.I2C_CMD_LEN c) - s.peri.i2cCount[c]
    let bs := if s.on (Reg.I2C_CMD_READ c) then got.take (min todo (8 - f.rx.length)) else f.tx.take (min todo sent)
    let t := s.i2cPut c (bs.map .data)
    let t : State := { t with peri := { t.peri with i2cCount := t.peri.i2cCount.set c (s.peri.i2cCount[c] + bs.length) } }
    if s.on (Reg.I2C_CMD_READ c) then t.setI2c c { f with rx := f.rx ++ bs } else t.setI2c c { f with tx := f.tx.drop bs.length }

/-- I2C_TRANSFER_END: LEN bytes have moved, or the target has not acknowledged; DONE, or NACK beside it, is set (R389). `data` holds the bytes
that the target has sent since the last command, `sent` counts those that have left. A transfer that bytes or room still hold up goes on. -/
def execI2cTransferEnd (c : Fin 3) (nack : Bool) (data : List Byte) (sent : Nat) (s : State) : Res :=
  .next (
    if !s.on (Reg.I2C_CMD_GO c) then s else
    let s := s.i2cMoved c data sent
    if !nack && decide (s.peri.i2cCount[c] < s.rd (Reg.I2C_CMD_LEN c)) then s
    else
      let s := s.i2cEnd c false
      let ie := s.rd (Reg.I2C_CTRL_IE c)
      let s := if nack then s.raiseFlag (Reg.I2C_STATUS_NACK c) (ie.testBit 1) (i2cUnit c) else s
      s.raiseFlag (Reg.I2C_STATUS_DONE c) (ie.testBit 0) (i2cUnit c))

/-- I2C_STRETCH_TIMEOUT sets TMO and releases the bus (R389). -/
def execI2cStretchTimeout (c : Fin 3) (s : State) : Res :=
  .next (
    if !s.on (Reg.I2C_CMD_GO c) then s else
    (s.i2cEnd c true).raiseFlag (Reg.I2C_STATUS_TMO c) ((s.rd (Reg.I2C_CTRL_IE c)).testBit 2) (i2cUnit c))

/-- I2C_DATA_ACCESS: a write queues a byte, or drops it when the FIFO is full; a read removes one, or returns 0 (R389). `got` and `sent` are
what a transfer in progress has moved since the last command. -/
def execI2cDataAccess (m : Master) (c : Fin 3) (w : Option Word) (got : List Byte) (sent : Nat) (s : State) : Res :=
  .next (
    match w with
    | some v => s.busWrite m (i2cAddr c + 0xC) v fun s =>
        let s := s.i2cMoved c got sent
        let f := s.peri.i2c[c]
        if 8 ≤ f.tx.length then s else s.setI2c c { f with tx := f.tx ++ [v.setWidth 8] }
    | none =>
        let s := s.i2cMoved c got sent
        let f := s.peri.i2c[c]
        (s.wr (Reg.I2C_DATA_DATA c) (f.rx.headD 0).toNat).setI2c c { f with rx := f.rx.tail })

/-- The bits of a frame (R390): SIZE 3 acts as 2. -/
def spiBits (size : Nat) : Nat := if size = 0 then 8 else if size = 1 then 16 else 32

/-- SPI_DATA_WRITE starts one frame of SIZE bits, or is refused while busy (R390). -/
def execSpiDataWrite (m : Master) (v : Word) (s : State) : Res :=
  .next (s.busWrite m 0x20170408 v fun s =>
    if s.on Reg.SPI_STATUS_BUSY then s.werr 0x20170408
    else if !s.on Reg.SPI_CTRL_EN then s
    else
      { s.wr Reg.SPI_STATUS_BUSY 1 with
        peri := { s.peri with spiTx := v.toNat % 2 ^ spiBits (s.rd Reg.SPI_CTRL_SIZE), csLow := true } })

/-- SPI_FRAME_DONE: the frame has left in the selected mode, most significant bit first; the received frame stands in SPI_DATA and DONE is set
(R390); CS_N rises unless CS_HOLD keeps it low. -/
def execSpiFrameDone (data : Word) (s : State) : Res :=
  .next (
    if !s.on Reg.SPI_STATUS_BUSY then s else
    let n := spiBits (s.rd Reg.SPI_CTRL_SIZE)
    let sent := (s.rd Reg.SPI_CTRL_MODE, (List.range n).map (fun i => s.peri.spiTx.testBit (n - 1 - i)))
    let s := { s with peri := { s.peri with csLow := s.on Reg.SPI_CTRL_CS_HOLD, spiOut := s.peri.spiOut ++ [sent] } }
    ((s.wr Reg.SPI_STATUS_BUSY 0).wr Reg.SPI_DATA_DATA (data.toNat % 2 ^ n)).raiseFlag
      Reg.SPI_STATUS_DONE (s.on Reg.SPI_CTRL_IE) 4)

/-- GPIO_EDGE: the pin's synchronised level changes; a selected edge sets its FLAG bit (R390). -/
def execGpioEdge (p : Fin 16) (level : Bool) (s : State) : Res :=
  .next (
    let old := s.on (Reg.GPIO_IN_IN p)
    let t := s.wrB (Reg.GPIO_IN_IN p) level
    if old != level && (s.rd (Reg.GPIO_EDGE p)).testBit (if level then 0 else 1) then
      t.raiseFlag (Reg.GPIO_IN_FLAG p) (s.on (Reg.GPIO_IE p)) 5
    else t)

/-- TIMER_ENABLE: a set of EN loads LOAD and starts the count; 0 acts as 1 (R390). -/
def execTimerEnable (m : Master) (k : Fin 4) (v : Word) (s : State) : Res :=
  .next (s.busWrite m (0x20170610 + k * 8) v fun s =>
    let t := s.wr (Reg.TIM_CTRL_EN k) (bits v.toNat 0 1)
    if v.toNat.testBit 0 then
      { t with peri := { t.peri with timStart := t.peri.timStart.set k (max 1 (t.rd (Reg.TIM_LOAD_LOAD k))) } } else t)

/-- TIMER_EXPIRY: a running timer reaches 0, sets FIRED and reloads if periodic, else it stops (R390). -/
def execTimerExpiry (k : Fin 4) (s : State) : Res :=
  .next (
    if !s.on (Reg.TIM_CTRL_EN k) then s else
    let t := if s.on (Reg.TIM_CTRL_PERIODIC k) then
        { s with peri := { s.peri with timStart := s.peri.timStart.set k (max 1 (s.rd (Reg.TIM_LOAD_LOAD k))) } }
      else s.wr (Reg.TIM_CTRL_EN k) 0
    t.raiseFlag (Reg.TIM_CTRL_FIRED k) (s.on (Reg.TIM_CTRL_IE k)) (6 + k))

/-- TBASE_LO_READ: the read returns the low word and holds the high one (R390). -/
def execTbaseLoRead (s : State) : Res :=
  .next { s with peri := { s.peri with tbaseHeld := some (s.tbase / 2 ^ 32) } }

end Sys2Proof.Machine
end

