-- ==== Sys2Proof/Machine/RegWrite.lean ====
section
/-! DEFINITION. Writes to registers whose fields have no command of their own (spec/00_scope.md R1 to R9), and what follows from the new
value in the block that holds it. -/

namespace Sys2Proof.Machine

/-- A write to the registers of layer `k` (spec/03 R59, spec/04 Hard cases): its C fields, SIZE and the warp fields among them. -/
def State.layerReg (s : State) (addr : Nat) : State :=
  if !(decide (0x20090100 ≤ addr ∧ addr < 0x20090300)) then s
  else
    let o := (addr - 0x20090100) % 0x40
    if o < 0x1C ∨ (0x20 ≤ o ∧ o < 0x2C) then
      s.layerWritten (Fin.ofNat 8 ((addr - 0x20090100) / 0x40)) (o == 4 || decide (0x20 ≤ o))
    else s

/-- A write to a cue's registers (spec/13 R312): set EN arms it for its compare time, and so does a new compare time while it is enabled. -/
def State.cueReg (s old : State) (addr : Nat) : State :=
  if !(decide (0x20130200 ≤ addr ∧ addr < 0x20130240)) then s
  else
    let k : Fin 2 := Fin.ofNat 2 ((addr - 0x20130200) / 0x20)
    if !s.on (Reg.TIME_CUE_CTRL_EN k) then s.armCue k none
    else if !old.on (Reg.TIME_CUE_CTRL_EN k) || old.cueTime k != s.cueTime k || old.cueDom k != s.cueDom k then s.armCue k (some (s.cueTime k))
    else s

/-- A write to the registers of a source or an engine may wake the engine that its pending events go to (spec/16 R382). -/
def State.evcReg (s : State) (addr : Nat) : State :=
  if 0x20031000 ≤ addr ∧ addr < 0x20031800 then
    let n : Fin 128 := Fin.ofNat 128 ((addr - 0x20031000) / 0x10)
    if s.on (Reg.EVC_PEND n) then s.wakeFor n else s
  else if 0x20030800 ≤ addr ∧ addr < 0x20030C00 then
    s.lookAgain ((addr - 0x20030800) / 0x40)
  else s

/-- Cleared suspect bits (spec/11 R262, R263): the tile's 10 s count starts again where its MODEL bit was cleared. -/
def State.suspectReg (s old : State) (addr : Nat) : State :=
  if addr < 0x200F0020 ∨ 0x200F0030 ≤ addr then s
  else
    (s.forFin fun (t : Fin 12) s =>
      if old.on (Reg.THM_SUSPECT_MODEL t) && !s.on (Reg.THM_SUSPECT_MODEL t) then s.setTile t { s.thm.tile[t] with model := 0 } else s).showSuspect

/-- A write to the service peripherals (spec/16 R390): a clear of CS_HOLD lets CS_N rise between frames, and bit 2 of a nibble of PERI_EVSEL
is 0. -/
def State.periReg (s : State) (addr : Nat) : State :=
  if addr = 0x20170400 then { s with peri := { s.peri with csLow := s.peri.csLow && (s.on Reg.SPI_STATUS_BUSY || s.on Reg.SPI_CTRL_CS_HOLD) } }
  else if addr = 0x20170700 then s.forFin fun (u : Fin 8) s => s.wr (Reg.PERI_EVSEL0 u) (s.rd (Reg.PERI_EVSEL0 u) &&& 0xB)
  else if addr = 0x20170704 then s.forFin fun (u : Fin 3) s => s.wr (Reg.PERI_EVSEL1 u) (s.rd (Reg.PERI_EVSEL1 u) &&& 0xB)
  else s

/-- What a written register does to its block beyond the value that it holds. `old` is the state before the write. -/
def State.written (s old : State) (addr : Nat) : State :=
  match addr / 0x10000 with
  | 0x2003 => s.evcReg addr
  | 0x2004 => s.showPin
  | 0x2008 => if (addr = 0x20081004 ∨ addr = 0x20081008) ∧ !s.on Reg.FT_STATUS_RUN then s.retireHandover else s
  | 0x2009 =>
    let s := s.layerReg addr
    if s.on Reg.FT_STATUS_RUN then s else s.retireHandover
  | 0x200D => if addr = 0x200D001C ∧ s.on Reg.HLTH_STATUS_RUN then s.zonesOver else s
  | 0x200E => if 0x200E0100 ≤ addr ∧ addr < 0x200E01C0 then s.lscEval else s
  | 0x200F => s.suspectReg old addr
  | 0x2010 =>
    if addr = 0x20100030 then (s.wr Reg.CAL_STATUS_KI_VALID 1).pairState
    else if addr = 0x20100034 then s.pairState else s
  | 0x2013 =>
    let s := s.cueReg old addr
    if s.on Reg.TIME_PPS_EN && s.on (Reg.TIME_D_CTRL_EN (s.rd Reg.TIME_PPS_DOMAIN)) then s else { s with time := { s.time with pps := false } }
  | 0x2015 => s.showArmed
  | 0x2017 => s.periReg addr
  | _ => s

/-- A write of `size` bytes within the register blocks (R1): a part of a register, or an offset with no register, gets a bus error. A local
master's write to LAYER on the understudy changes no C field (spec/18 R425). -/
def State.regWrite (s : State) (m : Master) (addr size : Nat) (v : Word) : State :=
  if !s.domOpen (blockDomain addr) then s.closedCrossing m addr (blockDomain addr) .write
  else if inCalWindow addr size then
    if s.mayWrite m addr then
      { s with cal := { s.cal with window := nvStore s.cal.window (addr - 0x20101000) (leBytes size v.toNat) } }
    else s.busErr m addr .write
  else if inTokenWindow addr size && m == .debug then
    { s with ident := { s.ident with token := patch s.ident.token (addr - 0x20000100) (leBytes size v.toNat) } }
  else if size ≠ 4 ∨ addr % 4 ≠ 0 ∨ (regAt addr).isNone then s.busErr m addr .write
  else if addr / 0x10000 = 0x2009 ∧ s.mirrors addr ∧ s.understudy ∧ m ≠ .pair then s.busWrite m addr v
  else s.busWrite m addr v (fun t => t.written s addr)

/-- REGISTER_WRITE (R1 to R5, R9): every field of the word that no command of its own writes. A write outside the register blocks is a write
to memory. -/
def execRegisterWrite (m : Master) (addr size : Nat) (v : Word) (s : State) : Res :=
  .next (
    let a := s.viewAddr m addr
    if 0x20000000 ≤ a ∧ a < 0x20190000 then s.regWrite m a size v
    else s.dramWrite m (s.actsFor m) a (leBytes size v.toNat) [])

/-- A read of `size` bytes of a register by a master (spec/00 R1, spec/19 R455): a part of a register, or an offset with none, gets a bus
error. The calibration staging window and the debugger's token window hold bytes (spec/12 R287, spec/20 R472). A read of PERI_TBASE_HI ends
the hold of the read of LO (spec/16 R390), and a read of FT_NEXT_SEC_LO or HI its hold (spec/06 R146); a read of CRYPTO_RNG brings the next 32
bits (spec/20 R476). The reads that remove or capture something are commands of their own. -/
def State.registerRead (s : State) (m : Master) (a size : Nat) : State :=
  if !s.domOpen (blockDomain a) then s.closedCrossing m a (blockDomain a) .read
  else if inCalWindow a size || (inTokenWindow a size && m == .debug) then s
  else if size ≠ 4 ∨ a % 4 ≠ 0 ∨ (regAt a).isNone then s.busErr m a .read
  else if a = 0x20170604 then { s with peri := { s.peri with tbaseHeld := none } }
  else if a = 0x201600C0 then s.nextRandom
  else if a = 0x200A0040 ∨ a = 0x200A0044 then s.nextSecRead (a == 0x200A0040)
  else s

/-- DRAM_READ: a read of `size` bytes at `addr`. From DRAM it is decoded with the block that holds it, with the given symbols wrong (R393 to
R395). A read of a row of the map below DRAM, such as either SRAM of an engine by any master, returns what is there and changes nothing (spec/16
R369, R370). A debugger reads what its session reaches (spec/20 R472). -/
def execDramRead (m : Master) (addr size : Nat) (errs : List (Fin 72 × Byte)) (s : State) : Res :=
  let a := s.viewAddr m addr
  .next (
    if m == .debug && !s.debugReach a then s.busErr m a .read
    else if 0x20000000 ≤ a ∧ a < 0x20190000 then s.registerRead m a size
    else if !s.readable a then s.accErr m a .read
    else if a < dramBase then s
    else (s.blockRead (a / 64 * 64) errs m .read).1)

end Sys2Proof.Machine
end

