-- ==== Sys2Proof/Machine/Sa.lean ====
section
/-! DEFINITION. The commands of the Stage Array (spec/02_stage_array.md R34 to R49; spec/05_drive_codes.md R111). -/

namespace Sys2Proof.Machine

/-- The DD stride that a set of SA_CTRL.EN checks: of the largest tile geometry among the valid banks, 512×512 with none valid (R111). -/
def State.ddNeed (s : State) : Nat :=
  let is := (s.bankImage 0).toList ++ (s.bankImage 1).toList
  if is.isEmpty then ddStrideOf ⟨512, 512, 120, 11520, 16⟩ else is.foldl (fun a i => max a (ddStrideOf i.info)) 0

/-- SA_ENABLE (R47, R49, R111). -/
def execSaEnable (m : Master) (v : Word) (s : State) : Res :=
  .next (s.busWrite m 0x20080000 v fun s =>
    if v.toNat.testBit 0 then
      if s.on Reg.SA_CTRL_EN then s
      else
        let base := s.rd Reg.SA_DRV_DD_HI_ADDR_HI <<< 32 ||| s.rd Reg.SA_DRV_DD_LO_ADDR <<< 20
        let fenced := (s.image.map s.fencedIn).getD false
        if fenced || !s.dramOutside base (2 * s.ddNeed) then s.werr 0x20080000
        else
          let t := s.setSa { s.sa with ddBase := base, ddStride := s.ddNeed }
          ((t.wr Reg.SA_CTRL_EN 1).wr Reg.SA_STATUS_STOPPED 0).tlRelease
    else if !s.on Reg.SA_CTRL_EN then s
    else if s.blockOn 0x200A0000 then s.werr 0x20080000
    else s.wr Reg.SA_CTRL_EN 0)

/-- SA_COMMIT (R5, R7, R38, R132). -/
def execSaCommit (m : Master) (v : Word) (s : State) : Res :=
  .next (s.busWrite m 0x20080000 v fun s => if v.toNat.testBit 1 then s.commitBlock 1 else s)

/-- A load into bank `b` is refused at START: active, pending, or still running pass B (R36, code 0x0A). -/
def State.loadBarred (s : State) (b : Nat) : Bool :=
  (s.anyBank && s.active == b) || s.sa.switch.map Switch.bank == some b || s.sa.fallback.map (·.1) == some b || s.sa.old == some b

/-- SA_LOAD_START (R34, R36, R37). -/
def execSaLoadStart (m : Master) (v : Word) (s : State) : Res :=
  .next (s.busWrite m 0x20080018 v fun s =>
    if !v.toNat.testBit 0 then s
    else if s.on Reg.SA_LOAD_STATUS_BUSY then s.werr 0x20080018
    else
      let b := s.rd Reg.SA_LOAD_CTRL_BANK
      let s := (s.wr Reg.SA_LOAD_STATUS_DONE 0).wr Reg.SA_LOAD_STATUS_ERR 0
      if s.loadBarred b then s.loadFail 0x0A 0
      else
        let a := s.rd Reg.SA_LOAD_ADDR_HI_ADDR_HI <<< 32 ||| s.rd Reg.SA_LOAD_ADDR_LO_ADDR <<< 6
        let q := if s.readable (a + 0x34) ∧ dramBase ≤ a then bits (s.num (a + 0x34) 1) 0 4 else 0
        let s := (s.dropBank b).setSa { (s.dropBank b).sa with load := some { addr := a, bank := b, quads := q } }
        (((s.wr Reg.SA_LOAD_CTRL_START 1).wr Reg.SA_LOAD_STATUS_BUSY 1).wr Reg.SA_STATUS_LOAD_BUSY 1).showBank)

/-- SA_LOAD_ABORT: a load in progress ends with code 0x0F (R36). -/
def execSaLoadAbort (m : Master) (v : Word) (s : State) : Res :=
  .next (s.busWrite m 0x20080018 v fun s =>
    if v.toNat.testBit 2 && s.sa.load.isSome then s.loadFail 0x0F 0 else s)

/-- SA_LOAD_END (R34 to R36): the checks decide; a read that failed is reported by code 0x0E and FLT_SA_IMAGE alone. With no valid bank the
loaded one becomes the active bank. ERR_CODE and ERR_SECTION read 0 after a load that succeeds (R49; DESIGN CHOICE, log entry 49). -/
def execSaLoadEnd (readError : Option Nat) (s : State) : Res :=
  .next (
    match s.sa.load with
    | none => s
    | some l =>
      match s.loadImage l.addr readError with
      | .error e => s.loadFail e.1 e.2
      | .ok i =>
        let first := !s.anyBank
        let s := s.setSa { s.sa with load := none, bank := if l.bank = 0 then s.sa.bank.set 0 (some i) else s.sa.bank.set 1 (some i) }
        let s := ((s.wr (bankValid l.bank) 1).wr (bankId l.bank) i.imageId).wr Reg.SA_LOAD_CTRL_START 0
        let s := ((s.wr Reg.SA_LOAD_STATUS_BUSY 0).wr Reg.SA_STATUS_LOAD_BUSY 0).wr Reg.SA_LOAD_STATUS_DONE 1
        let s := ((s.wr Reg.SA_LOAD_STATUS_ERR 0).wr Reg.SA_LOAD_STATUS_ERR_CODE 0).wr Reg.SA_LOAD_STATUS_ERR_SECTION 0
        (if first then s.saSwitch l.bank false else s.showBank).fire 10)

/-- SA_DIAG_START (R45). The state of the cell's quadrant is not asked: a START for a cell whose quadrant is not ON runs too and destroys what
its data memory holds (DESIGN CHOICE; log entry 49). -/
def execSaDiagStart (m : Master) (v : Word) (s : State) : Res :=
  .next (s.busWrite m 0x20080040 v fun s =>
    let c := s.rd Reg.SA_DIAG_CTRL_CELL
    if !v.toNat.testBit 8 || s.sa.diag.isSome then s
    else if s.on Reg.SA_CTRL_EN && (s.image.map (fun i => i.cellMask.testBit c)).getD false then s.werr 0x20080040
    else
      let s := s.cellLost c
      ((s.setSa { s.sa with diag := some (c, s.on Reg.SA_DIAG_CTRL_FULL) }).wr Reg.SA_DIAG_CTRL_START 1).wr Reg.SA_DIAG_STATUS_BUSY 1)

/-- A unit that the self-test checks: data memory (2) and configuration store (7) only FULL (R45). -/
def diagTests (full : Bool) (u : Fin 8) : Bool := full || (u != 2 && u != 7)

/-- SA_DIAG_DONE (R45, R46). -/
def execSaDiagDone (fail : Option (Fin 8)) (s : State) : Res :=
  .next (
    match s.sa.diag with
    | none => s
    | some d =>
      let fail := fail.filter (diagTests d.2)
      let s := s.cellLost d.1
      let s := (((s.setSa { s.sa with diag := none }).wr Reg.SA_DIAG_CTRL_START 0).wr Reg.SA_DIAG_STATUS_BUSY 0).wr Reg.SA_DIAG_STATUS_DONE 1
      let s := s.wrB Reg.SA_DIAG_STATUS_PASS fail.isNone
      match fail with
      | none => s.fire 14
      | some u => ((s.wr Reg.SA_DIAG_STATUS_FAIL_UNIT u).fire 14).raise FLT_SA_CELL 0x20080044 (some (d.1 / 32)))

/-- SA_ECC_DED (R46): the frame that the access served fails its known-answer check, unless a self-test met the error. `corrected` counts
the single-bit errors corrected since the command before (R49, log entry 40). -/
def execSaEccDed (cell : Fin 128) (passB : Bool) (corrected : BitVec 16) (s : State) : Res :=
  .next (
    let s := s.addSat Reg.SA_ECC_STATUS_CORR_CNT corrected.toNat
    let s := if s.on Reg.SA_ECC_STATUS_DED then s else s.wr Reg.SA_ECC_STATUS_DED_CELL cell
    let s := ((s.wr Reg.SA_ECC_STATUS_DED 1).fire 15).raise FLT_SA_ECC 0x20080060 (some (cell / 32))
    if s.sa.diag.map (·.1) == some cell.val then s
    else if passB then (if s.ft.stream.isSome then s.setSa { s.sa with kalB := true } else s)
    else if s.ft.passA.isSome then s.setSa { s.sa with kalA := true } else s)

/-- SA_FENCE_SET (R47). -/
def execSaFenceSet (m : Master) (k : Fin 4) (v : Word) (s : State) : Res :=
  .next (s.busWrite m (0x20080050 + 4 * k) v fun s =>
    (s.forFin fun (i : Fin 32) s => if v.toNat.testBit i then s.wr (Reg.SA_FENCE (32 * k + i)) 1 else s).saFenced)

end Sys2Proof.Machine
end

