-- ==== Sys2Proof/Machine/Thm.lean ====
section
/-! DEFINITION. The commands of the thermal model and the thermal shutdown (spec/11_thermal.md R259 to R275). -/

namespace Sys2Proof.Machine

/-! Heat sinks and the cross-check. -/

/-- The NTC table at a code, S8.8 °C (R260). -/
def State.ntcTemp (s : State) (c : Nat) : Int :=
  let i := c / 128
  let a := signed 16 (s.lv (Reg.THM_NTC_TAB i))
  let b := signed 16 (s.lv (Reg.THM_NTC_TAB (i + 1)))
  a + ((b - a) * (c % 128 : Nat) + 64) / 128

/-- The published code of AINk: the mean of 16 corrected conversions, rounded down (spec/12 R276, R277; log entry 16). -/
def State.ainCode (s : State) (k : Fin 8) (raw : List (Fin 4096)) : Nat :=
  meanOf (raw.map (fun c => s.adc (if k.val < 4 then 0 else 2) c.val)).sum raw.length

/-- The published code of AINk becomes the input's reading (R259): none where the input is no NTC or its code lies outside LO to HI. One that
becomes invalid is reported once (R262). -/
def State.takeAin (s : State) (k : Fin 8) (raw : List (Fin 4096)) : State :=
  let c := s.ainCode k raw
  let on := (s.rd Reg.THM_AIN_NTC).testBit k
  let v := if on && decide (s.rd Reg.THM_AIN_LO ≤ c ∧ c ≤ s.rd Reg.THM_AIN_HI) then some (s.ntcTemp c) else none
  let t := { s with thm := { s.thm with ntc := s.thm.ntc.set k v, ntcBad := s.thm.ntcBad.set k (on && v.isNone) } }
  if on && v.isNone && !s.thm.ntcBad[k] then t.sensorFault 0x200F0020 else t

/-- The heat-sink temperature of tile `t` from its own source, none where that is invalid or suspect (R261). -/
def State.ownThs (s : State) (t : Fin 12) : Option Int :=
  let h := s.lv (Reg.THM_T_N_HS_SRC t)
  if h < 8 then s.ntcReading (Fin.ofNat 8 h)
  else if 0x10 ≤ h ∧ h < 0x18 then s.tileReading t (Fin.ofNat 8 (h - 0x10))
  else some (signed 16 (s.lv Reg.THM_SENS_THS_DEF))

/-- The highest of some temperatures. -/
def hottest (ts : List Int) : Option Int := ts.foldl (fun b t => match b with
  | none => some t
  | some u => some (if u < t then t else u)) none

/-- THS_t in S8.8 °C (R261). -/
def State.ths (s : State) (t : Fin 12) : Int :=
  match s.ownThs t with
  | some v => v
  | none =>
    let others := (List.finRange 12).filter (fun u => u != t && (s.portOfTile u).isSome)
    (hottest (others.filterMap s.ownThs)).getD (signed 16 (s.lv Reg.THM_SENS_THS_DEF))

/-- A value put into its place among rising values. -/
def insertI (x : Int) : List Int → List Int
  | [] => [x]
  | y :: r => if x ≤ y then x :: y :: r else y :: insertI x r

/-- The median: of an even count the mean of the two middle values, rounded down (R262). -/
def median (xs : List Int) : Int :=
  let ys := xs.foldl (fun a x => insertI x a) []
  let n := ys.length
  if n % 2 = 1 then ys.getD (n / 2) 0 else (ys.getD (n / 2 - 1) 0 + ys.getD (n / 2) 0) / 2

/-- The residual of sensor `k` of tile `t` on port `p`, S16.16 (R262). -/
def State.residual (s : State) (t p : Nat) (k : Fin 8) (v : Int) : Int :=
  v * 256 - (s.thm.zone[Fin.ofNat 192 (16 * p + s.lv (Reg.THM_T_MAP t k))]).ts

/-- The count of a sensor whose residual is `r` among its neighbours' residuals (R262): steps of a deviation beyond DEV_TH. -/
def devCount (old : Nat) (r : Int) (others : List Int) (th : Nat) : Nat :=
  if others.length < 2 then 0 else if th * 65536 < (r - median others).natAbs then old + 1 else 0

/-- The cross-check of a tile's sensors and of its model at one step (R262, R263). -/
def State.checkTile (s : State) (t : Fin 12) (p : Nat) : State :=
  let x := s.thm.tile[t]
  let res (k : Fin 8) : Option Int := (s.tileReading t k).map (s.residual t p k)
  let dev := Vector.ofFn fun (k : Fin 8) => match res k with
    | none => 0
    | some r => devCount x.dev[k] r ((List.finRange 8).filterMap (fun j => if j = k then none else res j)) (s.lv Reg.THM_SENS_DEV_TH)
  let all := (List.finRange 8).filterMap (fun k => (x.temp[k]).map (s.residual t p k))
  let md := if all.isEmpty then 0 else median all
  let out := !all.isEmpty && decide (s.lv Reg.THM_SENS_MODEL_DEV * 65536 < md.natAbs) && !s.on (Reg.THM_SUSPECT_MODEL t)
  s.setTile t { x with dev := dev, model := if out then x.model + 1 else 0, median := md }

/-- The cross-check of the NTC inputs at one step (R262). -/
def State.checkNtc (s : State) : State :=
  let res (k : Fin 8) : Option Int := (s.ntcReading k).map (· * 256)
  let dev := Vector.ofFn fun (k : Fin 8) => match res k with
    | none => 0
    | some r => devCount s.thm.ntcDev[k] r ((List.finRange 8).filterMap (fun j => if j = k then none else res j)) (s.lv Reg.THM_SENS_DEV_TH)
  { s with thm := { s.thm with ntcDev := dev } }

/-! The zone model. -/

/-- The neighbour zones of zone `z` of a tile (R265): bands that share an edge. -/
def neighbours (z : Nat) : List Nat :=
  (if z % 4 = 0 then [] else [z - 1]) ++ (if z % 4 = 3 then [] else [z + 1]) ++ (if z < 4 then [] else [z - 4]) ++ (if 12 ≤ z then [] else [z + 4])

/-- One step of a zone's two nodes (R265), from conductances, step factors, power in mW and the neighbours' substrates. -/
def zoneStep (tj ts ths : Int) (p gjs gsh gn aj as : Nat) (ns : List Int) : Int × Int :=
  let qjs := gjs * (tj - ts)
  let qsh := gsh * (ts - ths)
  let qn := gn * (ns.map (fun n => ts - n)).sum
  (tj + (aj * ((p : Int) * 65536 - qjs) + 8388608) / 16777216, ts + (as * (qjs - qsh - qn) + 8388608) / 16777216)

/-- A zone of a mapped tile after one step (R265), from the state at the start of the step. -/
def State.stepZone (s : State) (g : Fin 192) (t : Fin 12) : ThmZone :=
  let z := s.thm.zone[g]
  let ns := (neighbours (g % 16)).map (fun n => (s.thm.zone[Fin.ofNat 192 (g / 16 * 16 + n)]).ts)
  let r := zoneStep z.tj z.ts (s.ths t * 256) (s.zoneP g) (s.lv (Reg.THM_T_G_GJS t)) (s.lv (Reg.THM_T_G_GSH t)) (s.lv (Reg.THM_T_N_GN t))
    (s.lv (Reg.THM_T_A_AJ t)) (s.lv (Reg.THM_T_A_AS t)) ns
  { z with tj := r.1, ts := r.2 }

/-- At the first step after EN both nodes of a tile start at the highest of THS_t and its valid readings (R265). -/
def State.startZones (s : State) : State :=
  if !s.thm.fresh then s
  else
    let zs := Vector.ofFn fun (g : Fin 192) =>
      match s.tileOfZone g with
      | none => s.thm.zone[g]
      | some t =>
        let t := Fin.ofNat 12 t
        let h := (hottest (s.ths t :: (List.finRange 8).filterMap (fun (k : Fin 8) => (s.thm.tile[t]).temp[k]))).getD 0
        { s.thm.zone[g] with tj := h * 256, ts := h * 256 }
    { s with thm := { s.thm with zone := zs, fresh := false } }

/-- A node after a step (R265): what S16.16 holds. Of a result outside that format the spec states no value: a free value (DESIGN CHOICE,
log 39). -/
def State.holdNode (s : State) (x : Int) : Int × State :=
  if -2147483648 ≤ x ∧ x < 2147483648 then (x, s) else (signed 32 (s.fresh.1 % 2 ^ 32), s.fresh.2)

/-- The nodes of a zone after a step, as S16.16 holds them. -/
def State.setNodes (s : State) (g : Fin 192) (z : ThmZone) : State :=
  let a := s.holdNode z.tj
  let b := a.2.holdNode z.ts
  b.2.setZone g { z with tj := a.1, ts := b.1 }

/-- A zone whose TJ reaches T_FORCE takes k_z = 0 (R267). -/
def State.forceZone (s : State) (g : Fin 192) : State :=
  let z := s.thm.zone[g]
  let hot := decide ((s.lv Reg.THM_THR_T_FORCE : Int) * 65536 ≤ z.tj)
  let t := s.setZone g { z with forced := hot, kz := if hot then 0 else z.kz }
  if hot && !z.forced then (t.fire 80).raise FLT_THM_FORCE (0x200F0404 + g.val * 8) (some g) else t

/-- A temperature in 2^-8 °C is shown in a field of S8.8 °C (R266, R275). Of one outside that format the spec states no field
value: a free value (DESIGN CHOICE, log 39). -/
def State.wrTemp (s : State) (f : Fld) (x : Int) : State :=
  if -32768 ≤ x ∧ x < 32768 then s.wr f (unsigned 16 x) else s.fresh.2.wr f s.fresh.1

/-- T_z (R266), from a node in S16.16 °C. -/
def publishedT (x : Int) : Int := (x + 128) / 256

/-- THM publishes the temperatures of a zone (R266, R269). -/
def State.publishZone (s : State) (g : Fin 192) : State :=
  if (s.tileOfZone g).isNone then s
  else
    let z := s.thm.zone[g]
    let t := match s.leadT g with
      | some x => s.wr (Reg.THM_ZTEMP_TJ g) x
      | none => s.wrTemp (Reg.THM_ZTEMP_TJ g) (publishedT z.tj)
    (t.wrTemp (Reg.THM_ZTEMP_TS g) (publishedT z.ts)).setZone g { z with published := true }

/-! Commits. -/

/-- The C fields of THM (R275). -/
def thmCFields : List Fld :=
  [Reg.THM_CTRL_ZTHR_EN, Reg.THM_CTRL_TTHR_EN, Reg.THM_THR_T_LO, Reg.THM_THR_T_HI, Reg.THM_THR_T_FORCE, Reg.THM_PWR_KI_DEF,
   Reg.THM_PWR_HEAT, Reg.THM_LIMIT_PTOT_MAX, Reg.THM_LIMIT_PHOUSE, Reg.THM_SENS_DEV_TH, Reg.THM_SENS_MODEL_DEV, Reg.THM_SENS_THS_DEF] ++
  (List.range 33).map Reg.THM_NTC_TAB ++
  (List.range 12).flatMap (fun t => [Reg.THM_T_G_GJS t, Reg.THM_T_G_GSH t, Reg.THM_T_A_AJ t, Reg.THM_T_A_AS t, Reg.THM_T_N_GN t,
    Reg.THM_T_N_HS_SRC t] ++ (List.range 8).map (Reg.THM_T_MAP t))

/-- The code with which a THM commit is rejected, 0 where it is not (R275). -/
def State.thmCode (s : State) : Nat :=
  let lo := s.rd Reg.THM_THR_T_LO
  let hi := s.rd Reg.THM_THR_T_HI
  let f := s.rd Reg.THM_THR_T_FORCE
  if ¬(lo < hi ∧ hi < f ∧ f ≤ 150) then 1
  else if (List.range 12).any (fun t =>
    let h := s.rd (Reg.THM_T_N_HS_SRC t)
    !((decide (h < 8) && (s.rd Reg.THM_AIN_NTC).testBit h) || decide (0x10 ≤ h ∧ h < 0x18) || h == 0xFF)) then 2 else 0

/-- THM's set is checked and captured (R8, R275). -/
def State.thmCapture (s : State) : State :=
  if s.thmCode ≠ 0 then s.rejectCommit Reg.THM_CTRL_COMMIT Reg.THM_COMMIT_ERR_CODE s.thmCode 83
  else { s with thm := { s.thm with cap := some { boundary := 0, now := false, set := s.snap thmCFields } } }

/-- A captured THM set goes live (R5). -/
def State.thmLive (s : State) : State :=
  match s.thm.cap with
  | none => s
  | some c => ({ s with thm := { s.thm with cap := none } }.applySet c.set).wr Reg.THM_CTRL_COMMIT 0

/-- On the understudy of a pair that mirrors THM, its set is captured as the lead's COMMIT arrives (spec/18 R425), or once an earlier one is live
(log entry 33). -/
def State.thmLed (s : State) : State :=
  if s.thm.cap.isSome then { s with thm := { s.thm with due := true } } else (if s.on Reg.THM_CTRL_COMMIT then s else s.wr Reg.THM_CTRL_COMMIT 1).thmCapture

/-- THM's guard and boundary: the start of a step (R266). A paired lead passes its capture on, for the boundary that comes next (spec/18 R425;
DESIGN CHOICE, log entry 33). -/
def State.thmBoundary (s : State) : State :=
  let s :=
    if !s.on Reg.THM_CTRL_COMMIT || s.thm.cap.isSome || (s.mirrors 0x200F0000 && s.understudy) then s
    else
      let t := s.thmCapture
      if t.thm.cap.isSome then t.mirrorCommit 5 (frameNo t.ft.m) else t
  let s := s.thmLive
  if s.thm.due then { s with thm := { s.thm with due := false } }.thmLed else s

/-! Commands. -/

/-- THM_ENABLE: a set starts the model; a clear stops it, keeps the last T_z and sets every thermal limit to 255 (R265, R266). -/
def execThmEnable (m : Master) (v : Word) (s : State) : Res :=
  .next (s.busWrite m 0x200F0000 v fun s =>
    if v.toNat.testBit 0 then
      if s.on Reg.THM_CTRL_EN then s
      else { (s.wr Reg.THM_CTRL_EN 1).wr Reg.THM_STATUS_RUN 1 with thm := { s.thm with fresh := true } }
    else
      let s := (s.wr Reg.THM_CTRL_EN 0).wr Reg.THM_STATUS_RUN 0
      (s.forFin fun (g : Fin 192) s => s.wr (Reg.THM_ZLIM_ZT g) 255).showZlim)

/-- THM_COMMIT (R266). -/
def execThmCommit (m : Master) (v : Word) (s : State) : Res :=
  .next (s.busWrite m 0x200F0000 v fun s => if v.toNat.testBit 1 && !s.on Reg.THM_CTRL_COMMIT then s.wr Reg.THM_CTRL_COMMIT 1 else s)

/-- THM_MODEL_STEP, with the latest 16 conversions of each of AIN0 to AIN7 (R259 to R267, spec/12 R276): the commit, the readings, ki, the cross-check and every zone
of a mapped tile from the state at the start of the step; then T_FORCE, T_z and ZLIM. -/
def execThmModelStep (ain : Vector (Vector (Fin 4096) 16) 8) (s : State) : Res :=
  .next (
    if !s.on Reg.THM_CTRL_EN then s
    else
      let s := s.thmBoundary
      let s := (s.forFin fun (k : Fin 8) s => s.takeAin k (ain[k]).toList).startZones
      let s := { s with thm := { s.thm with ki := if s.on Reg.CAL_STATUS_KI_VALID then some (s.rd Reg.CAL_KI_KI) else none } }
      let s := s.zonePowers
      let s := s.forFin fun (t : Fin 12) s => match s.portOfTile t with
        | none => s
        | some p => s.checkTile t p
      let s := s.checkNtc
      let zs := Vector.ofFn fun (g : Fin 192) => match s.tileOfZone g with
        | none => s.thm.zone[g]
        | some t => s.stepZone g (Fin.ofNat 12 t)
      let pow := ((List.finRange 192).map (fun g => if (s.tileOfZone g).isSome then s.zoneP g else 0)).sum
      let s := { s with thm := { s.thm with steps := s.thm.steps + 1, power := (pow :: s.thm.power).take 100 } }
      let s := s.forFin fun (g : Fin 192) s => s.setNodes g zs[g]
      let s := s.forFin fun (g : Fin 192) s => (s.forceZone g).publishZone g
      s.limitZones.showSuspect)

/-- k_z of a zone after a tick (R267). -/
def tickZone (kz : Nat) (tj : Int) (lo hi : Nat) : Nat :=
  if (hi : Int) * 65536 < tj then kz - 1 else if tj < (lo : Int) * 65536 then min 32 (kz + 1) else kz

/-- k_tot after a tick (R268): `pow` the sums of P_z of the last steps in mW, `lim` PTOT_MAX in 100 mW. -/
def tickTotal (k : Nat) (pow : List Nat) (lim : Nat) : Nat :=
  if lim * 100 * pow.length < pow.sum then k - 1 else if pow.sum * 16 < 15 * (lim * 100) * pow.length then min 32 (k + 1) else k

/-- THM_TICK, at every 100th step (R267, R268). -/
def execThmTick (s : State) : Res :=
  .next (
    if !s.on Reg.THM_CTRL_EN || decide (s.thm.steps < 100) then s
    else
      let s := { s with thm := { s.thm with steps := 0 } }
      let s := if s.lv Reg.THM_CTRL_ZTHR_EN = 0 then s else s.forFin fun (g : Fin 192) s =>
        let z := s.thm.zone[g]
        s.setZone g { z with kz := tickZone z.kz z.tj (s.lv Reg.THM_THR_T_LO) (s.lv Reg.THM_THR_T_HI) }
      let lim := s.lv Reg.THM_LIMIT_PTOT_MAX
      let s := if s.lv Reg.THM_CTRL_TTHR_EN == 0 || lim == 0 then s
        else s.wr Reg.THM_STATUS_KTOT (tickTotal (s.rd Reg.THM_STATUS_KTOT) s.thm.power lim)
      s.limitZones)

/-- THM_SENSOR_SUSPECT: the sensor, or NTC input `k`, has deviated for more than 2,000 steps (R262). -/
def execThmSensorSuspect (ntc : Bool) (t : Fin 12) (k : Fin 8) (s : State) : Res :=
  .next (
    if ntc then
      if s.thm.ntcDev[k] ≤ 2000 then s
      else
        let s := { s with thm := { s.thm with ntcDev := s.thm.ntcDev.set k 0 } }
        ((s.wr (Reg.THM_SUSPECT_AIN k) 1).sensorFault 0x200F0020).showSuspect
    else
      let x := s.thm.tile[t]
      if x.dev[k] ≤ 2000 then s
      else
        let s := s.setTile t { x with dev := x.dev.set k 0 }
        ((s.wr (tsSuspect t k) 1).sensorFault (0x200F0024 + t / 4 * 4)).showSuspect)

/-- THM_MODEL_DEVIATION: the tile's median residual has lain outside MODEL_DEV for more than 10,000 steps; a positive one pulls the
model up (R263). -/
def execThmModelDeviation (t : Fin 12) (s : State) : Res :=
  .next (
    let x := s.thm.tile[t]
    if x.model ≤ 10000 then s
    else
      let s := s.setTile t { x with model := 0 }
      let s := ((s.wr (Reg.THM_SUSPECT_MODEL t) 1).fire 82).raise FLT_THM_MODEL 0x200F0020
      if x.median ≤ 0 then s
      else s.forFin fun (g : Fin 192) s =>
        if s.tileOfZone g = some t.val then
          s.setNodes g { s.thm.zone[g] with tj := (s.thm.zone[g]).tj + x.median, ts := (s.thm.zone[g]).ts + x.median }
        else s)

/-- TILE_SENSOR_TIMEOUT: no HEALTH for 3 × HEALTH_MAX_MS (R259). -/
def execTileSensorTimeout (p : Fin 12) (s : State) : Res :=
  .next (
    match s.image with
    | none => s
    | some i => match i.tileOf p with
      | none => s
      | some t => s.thmSilent (Fin.ofNat 12 t))

/-! The die. -/

/-- DIE_TEMP_SAMPLE, while SYS, which holds THM, is ON (spec/19 R436): TDIE is the highest of DTS0 to DTS3 (R259); DIE_HOT, DIE_OVR, and T_SHUT with its deferral (R270, R272). -/
def execDieTempSample (d0 d1 d2 d3 : Int) (s : State) : Res :=
  if !s.alive 1 then .next s else
  let t := max (max d0 d1) (max d2 d3)
  let s := s.wrTemp Reg.THM_STATUS_TDIE t
  let s := if 115 * 256 ≤ t ∧ !s.on Reg.THM_STATUS_DIE_HOT then
      ((s.wr Reg.THM_STATUS_DIE_HOT 1).fire 81).raise FLT_THM_DIE_HOT 0x200F0004
    else if t < 110 * 256 ∧ s.on Reg.THM_STATUS_DIE_HOT then (s.wr Reg.THM_STATUS_DIE_HOT 0).fire 81
    else s
  let s := if 125 * 256 ≤ t ∧ !s.on Reg.THM_STATUS_DIE_OVR then
      ((s.wr Reg.THM_STATUS_DIE_OVR 1).fire 81).raise FLT_THM_DIE_OVR 0x200F0004
    else s
  .next (
    if t < 135 * 256 ∨ s.thm.shut then s
    else if s.cal.op.isSome then { s with thm := { s.thm with shut := true, defer := true } }
    else { s with thm := { s.thm with shut := true, cause := some 6 } })

/-- A thermal shutdown with its cause (R271): the stage and the links are released, the AON pin latch asserts FAULT_N (spec/15 R364), every
domain but AON goes OFF. -/
def State.thermalOff (s : State) (cause : Nat) : State :=
  let t := (s.lscRelease.wr Reg.FLT_STATUS_PIN_LATCH 1).allOff 1
  let t := (t.wr Reg.CLKRST_CAUSE_CAUSE cause).wr Reg.CLKRST_CAUSE_SRC 0
  { t with pwr := { t.pwr with shutdown := true } }

/-- THERMAL_SHUTDOWN (R271); a shutdown that has taken place keeps its cause. -/
def execThermalShutdown (s : State) : Res :=
  .next (
    match s.thm.cause with
    | none => s
    | some c => if s.pwr.shutdown then s else s.thermalOff c)

/-- SHUTDOWN_DEFER_LIMIT: the write is abandoned, and the shutdown proceeds (R272). -/
def execShutdownDeferLimit (s : State) : Res :=
  .next (
    if !s.thm.defer then s
    else
      let t := s.nvAbandon
      { t with thm := { t.thm with defer := false, cause := some 6 } })

/-- T_CRIT_COMPARATOR: a thermal shutdown at once, whatever is in progress (R270, R272). -/
def execTCritComparator (s : State) : Res := .next (s.nvAbandon.thermalOff 7)

/-- THERMAL_RESTART: after a T_SHUT shutdown with SHUT_AUTO set the PX2 starts as after PORESET_N (R271). -/
def execThermalRestart (s : State) : Res :=
  .next (
    if s.pwr.shutdown && s.rd Reg.CLKRST_CAUSE_CAUSE == 6 && s.on Reg.THM_CTRL_SHUT_AUTO then
      (s.clearRegs 0x20010000 0x20020000 |>.wr Reg.THM_CTRL_SHUT_AUTO 1).coldBegin 6
    else s)

end Sys2Proof.Machine
end

