-- ==== Sys2Proof/Machine/Pair.lean ====
section
/-! DEFINITION. The commands of PAIR: start, roles, the partner lane's packets, mirrored state, takeover (spec/18_pair.md R420 to R435). -/

namespace Sys2Proof.Machine

/-! Start and roles. -/

/-- PAIR's own state when EN is set: nothing heard, no role (R420). What has left and what has come stay recorded. -/
def Pair.start (p : Pair) : Pair := { out := p.out, inbox := p.inbox, errors := p.errors }

/-- PAIR_ENABLE (R420, R423). -/
def execPairEnable (m : Master) (v : Word) (s : State) : Res :=
  .next (s.busWrite m 0x20150000 v fun s =>
    let was := s.on Reg.PAIR_CTRL_EN
    if v.toNat.testBit 0 then
      if was then s
      else
        let t := { (s.wr Reg.PAIR_CTRL_EN 1) with pair := s.pair.start }
        (((t.wr Reg.PAIR_STATUS_LEAD 0).wr Reg.PAIR_STATUS_VER_CODE 0).setPairState 1).showLane 12
    else if !was then s
    else
      let t := { (s.wr Reg.PAIR_CTRL_EN 0) with pair := s.pair.start }
      (((t.wr Reg.PAIR_STATUS_LEAD 0).setInSync false).setPairState 0).showLane 12)

/-- PAIR_HELLO_SEND: after lane lock, until the partner has been heard (R423). -/
def execPairHelloSend (s : State) : Res :=
  .next (
    if s.on Reg.PAIR_CTRL_EN && s.rd Reg.PAIR_STATUS_STATE == 1 && s.on (Reg.LANE_STATUS_BLOCK_LOCK 12) && !s.pair.heard then s.pairHello false
    else s)

/-- The first item of a partner's HELLO that bars a pair, as VER_CODE numbers them; 0 with none (R419, R423, R435). -/
def State.helloCode (s : State) (h : List Byte) : Nat :=
  if byteAt h 0 < 0x10 then 1
  else if byteAt h 2 = s.tilePort then 2
  else if byteAt h 4 ≠ s.rd Reg.SAFE_SEAL_LATCHED then 3
  else if leAt h 8 4 ≠ s.rd Reg.SA_KLIB_VER_VER then 4
  else if leAt h 12 4 ≠ (s.image.map Image.imageId).getD 0 then 5
  else if byteAt h 5 ≠ (s.image.map Image.mode).getD 0 then 6
  else if leAt h 16 4 ≠ s.readWord 0x20070004 ∨ leAt h 20 4 ≠ s.rd Reg.WIN_BASE_HI_ADDR_HI * 65536 + s.rd Reg.WIN_BASE_ADDR then 7
  else 0

/-- The role that R420 gives: true for the lead. -/
def State.startsLead (s : State) : Bool := !s.otherClaimed && (!s.pair.heard || s.tilePort == 0)

/-- The role is decided, once after EN: a lead claims the epoch (R420), and an understudy drives no stage (spec/10 R242). -/
def State.decideRole (s : State) : State :=
  if !s.on Reg.PAIR_CTRL_EN || s.pair.decided then s
  else
    let lead := s.startsLead
    let s := { s with pair := { s.pair with decided := true, live := false } }.wrB Reg.PAIR_STATUS_LEAD lead
    (if lead then s.pairClaim else s.lscRelease.hlthFollow).showArmed

/-- ROLE_DECISION: the state has left HELLO, or PAIR_START_MS has passed since EN (R420). -/
def execRoleDecision (s : State) : Res := .next s.decideRole

/-- PAIR_HELLO_RX: the first HELLO is answered once more; in HELLO the pair forms, or the unit is ALONE (R423), and the role is decided if it
is not yet (R420). RESYNC received fires PAIR_SYNC (R432, R433). -/
def execPairHelloRx (data : List Byte) (s : State) : Res :=
  .next (
    match s.pairIn 0x80 (· == 32) data with
    | none => s
    | some h =>
      if !s.on Reg.PAIR_CTRL_EN then s
      else
        let first := !s.pair.heard
        let s := { s with pair := { s.pair with heard := true } }.pairLive
        let s := if first then s.pairHello false else s
        let s := if (byteAt h 3).testBit 0 then s.fire 107 else s
        if s.rd Reg.PAIR_STATUS_STATE ≠ 1 then s
        else
          let code := s.helloCode h
          if code = 0 then (s.setPairState 2).decideRole
          else (((s.wr Reg.PAIR_STATUS_VER_CODE code).setPairState 3).raise FLT_PAIR_VER 0x20150004).decideRole)

/-- PAIR_PROBE: eight probes leave; the round trip is kept in units of 1/128 ns, with a turnaround of 0 (R423, R158). -/
def execPairProbe (rtt : List Nat) (s : State) : Res :=
  .next (
    if !(s.on Reg.PAIR_CTRL_EN && s.rd Reg.PAIR_STATUS_STATE == 2) then s
    else
      let s := (List.range 8).foldl (fun s i => s.pairPut 0x3F 0x10 (leBytes 2 i ++ [0, 0])) s.pairFlush
      { s with pair := { s.pair with rtt := (rtt.foldl (· + ·) 0 + 4) / 8 * (if s.on Reg.PAIR_CTRL_RATE then 20 else 40) } })

/-- BEAT_RX (R424, R430, R432). -/
def execBeatRx (data : List Byte) (s : State) : Res :=
  .next (
    match s.pairIn 0x81 (· == 24) data with
    | none => s
    | some b =>
      if !s.on Reg.PAIR_CTRL_EN then s
      else
        let f := byteAt b 15
        let s := (s.wr Reg.PAIR_EPOCH_PEER (leAt b 12 3)).pairLive
        if s.understudy then
          let s := if f.testBit 2 then { s with pair := { s.pair with beat := some (leAt b 0 4, leAt b 4 8) } }.showOffset else s
          if f.testBit 0 && s.on Reg.PAIR_STATUS_ARMED then s.pairTakeover else s
        else if s.on Reg.PAIR_STATUS_LEAD && f.testBit 2 && decide (s.pairEpoch < leAt b 12 3) then s.pairDemote
        else s)

/-- PAIR_CRC_RX: compared with this unit's record of the frame, or kept until there is one (R429). -/
def execPairCrcRx (data : List Byte) (s : State) : Res :=
  .next (
    match s.pairIn 0x82 (· == 60) data with
    | none => s
    | some c =>
      if !(s.on Reg.PAIR_CTRL_EN && s.rd Reg.PAIR_STATUS_STATE == 2) then s
      else
        let r : PairCrc := { frame := leAt c 0 4, ports := leAt c 4 2, aborted := (byteAt c 6).testBit 0,
                             crc := (List.range 12).map (fun k => leAt c (8 + 4 * k) 4) }
        let s := s.pairLive
        match s.pair.own.find? (fun x => x.frame == r.frame) with
        | some x => s.comparePair x r
        | none => { s with pair := { s.pair with peer := (r :: s.pair.peer).take 4 } })

/-! Mirrored state. -/

/-- The state that a command answers. -/
def resOr (r : Res) (s : State) : State :=
  match r with
  | .next t => t
  | _ => s

/-- The commands whose fields lie in the registers that PAIR mirrors (R425), by the register's address. -/
def mirrorRows (addr : Nat) (v : Word) : List (State → Res) :=
  if addr = 0x20080000 then [execSaEnable .pair v, execSaCommit .pair v]
  else if addr = 0x20080018 then [execSaLoadStart .pair v, execSaLoadAbort .pair v]
  else if addr = 0x20080040 then [execSaDiagStart .pair v]
  else if addr = 0x20080050 ∨ addr = 0x20080054 ∨ addr = 0x20080058 ∨ addr = 0x2008005C then
    [execSaFenceSet .pair (Fin.ofNat 4 ((addr - 0x20080050) / 4)) v]
  else if addr = 0x20090000 then [execLayerEnable .pair v, execLayerCommit .pair v]
  else if addr = 0x200A0000 then [execFtEnable .pair v, execFtDisable .pair v, execFtCommit .pair v]
  else if addr = 0x200D0000 then [execHlthEnable .pair v, execHlthCommit .pair v, execHlthCapture .pair v]
  else if addr = 0x200D0040 then [execHlthForce .pair v]
  else if addr = 0x200D004C then [execHlthRptPop .pair v]
  else if addr = 0x200E0000 then [execLscEnable .pair v, execLscCommit .pair v]
  else if addr = 0x200F0000 then [execThmEnable .pair v, execThmCommit .pair v]
  else if addr = 0x20180000 then [execMaskinEnable .pair v]
  else if addr = 0x20180104 then [execI2cGo .pair 2 v]
  else if addr = 0x2018010C then [execI2cDataAccess .pair 2 (some v) [] 0]
  else []

/-- One REG entry is written to this unit's own register (R425). -/
def State.takeEntry (s : State) (addr : Nat) (v : Word) : State :=
  if addr < 0x20000000 ∨ 0x20190000 ≤ addr then s
  else (mirrorRows addr v).foldl (fun s c => resOr (c s) s) (resOr (execRegisterWrite .pair addr 4 v s) s)

/-- A packet on the understudy that has come from the lead. -/
def State.fromLead (s : State) (p : Option (List Byte)) (act : List Byte → State → State) : State :=
  match p with
  | none => s
  | some d => if !s.on Reg.PAIR_CTRL_EN then s else if s.understudy then act d s.pairLive else s.pairLive

/-- REG_MIRROR_RX (R421, R425). -/
def execRegMirrorRx (data : List Byte) (s : State) : Res :=
  .next (s.fromLead (s.pairIn 0x84 (fun n => n % 8 == 0 && decide (8 ≤ n ∧ n ≤ 4096)) data) fun d s =>
    (List.range (d.length / 8)).foldl (fun s i => s.takeEntry (leAt d (8 * i) 4) (BitVec.ofNat 32 (leAt d (8 * i + 4) 4))) s)

/-- COMMIT_MIRROR_RX: the set is captured for the boundary of that FRAME_NO, or for the next one where that has passed; while an earlier set
of the block waits, it is captured once that is live (R425). With frame timing off it is captured at once (R7). THM's set goes live at the
start of its next step (spec/11 R266). -/
def execCommitMirrorRx (data : List Byte) (s : State) : Res :=
  .next (s.fromLead (s.pairIn 0x83 (· == 8) data) fun d s =>
    let mask := leAt d 4 2
    let k := max (s.ft.m : Int) ((s.ft.m : Int) + signed 32 (leAt d 0 4 + 2 ^ 32 - frameNo s.ft.m)) |>.toNat
    (List.range 5).foldl (fun s bit =>
      if !mask.testBit bit then s
      else if !s.on Reg.FT_STATUS_RUN then s.captureLed bit 0 true
      else if s.heldSets bit = 0 then s.captureLed bit k false
      else { s with pair := { s.pair with due := s.pair.due ++ [(2 ^ bit, k)] } }) (if mask.testBit 5 then s.thmLed else s))

/-- PAIR_THERM_RX: the temperatures of the frame, from which its factors come (R426). -/
def execPairThermRx (data : List Byte) (s : State) : Res :=
  .next (s.fromLead (s.pairIn 0x85 (· == 388) data) fun d s =>
    let no := leAt d 0 4
    let s := { s with thm := { s.thm with leadT := (List.range 192).map (fun g => leAt d (4 + 2 * g) 2) }, pair := { s.pair with therm := some no } }
    if s.ft.passA.map (·.no) == some no then
      { s.loadFactors with pair := { s.pair with thermOf := some no } }
    else s)

/-- PAIR_ZLIM_RX (R426). -/
def execPairZlimRx (data : List Byte) (s : State) : Res :=
  .next (s.fromLead (s.pairIn 0x86 (· == 196) data) fun d s =>
    let zs := (List.range 192).map (fun g => leAt d (4 + g) 1)
    { s with thm := { s.thm with leadZ := zs }, pair := { s.pair with zlim := ((leAt d 0 4, zs) :: s.pair.zlim).take 4 } }.showZlim)

/-- An entry of HLTH: its kind, and the change (R421). -/
def ledEntry (w : Nat) : Nat × Update :=
  (bits w 25 2, { tile := bits w 0 4, x := bits w 4 9, y := bits w 13 9, new := bits w 22 3 })

/-- PAIR_HLTH_RX: the changes wait for the boundary that the packet names (R426). -/
def execPairHlthRx (data : List Byte) (s : State) : Res :=
  .next (s.fromLead (s.pairIn 0x87 (fun n => n % 4 == 0 && decide (4 ≤ n)) data) fun d s =>
    let no := leAt d 0 4
    let es := (List.range (d.length / 4 - 1)).map (fun i => (no, ledEntry (leAt d (4 + 4 * i) 4)))
    { s with hlth := { s.hlth with led := s.hlth.led ++ es } })

/-- PAIR_MASK_RX: handled as the CSI-2 packets of R67 (R426). -/
def execPairMaskRx (data : List Byte) (s : State) : Res :=
  .next (s.fromLead (s.pairIn 0x88 (fun n => decide (8 ≤ n ∧ n ≤ 1032)) data) fun d s =>
    if !s.on Reg.MASKIN_CTRL_EN || !s.mirrors 0x20180000 then s
    else
      match byteAt d 0 with
      | 0 => s.maskStart
      | 1 => if s.on Reg.MASKIN_STATUS_IN_FRAME then s.maskLine (d.drop 8) else s.wr Reg.MASKIN_ERR_ORPHAN 1
      | 2 => s.maskEnd
      | _ => s)

/-- PAIR_STATE_RX: KI, I0 and SCORR of the lead (R426). -/
def execPairStateRx (data : List Byte) (s : State) : Res :=
  .next (s.fromLead (s.pairIn 0x89 (· == 32) data) fun d s =>
    let ki := leAt d 0 4
    let s := ((s.wr Reg.CAL_KI_KI ki).wr Reg.CAL_I0_I0 (leAt d 4 2)).wr Reg.CAL_I0_SCORR (leAt d 6 2)
    if ki = 0 then s else s.wr Reg.CAL_STATUS_KI_VALID 1)

/-- PAIR_STATE_SEND (R426). -/
def execPairStateSend (s : State) : Res := .next s.pairState

/-! Slots and the dump. -/

/-- PAIR_SLOT_GO: the slot's first bytes leave as SLOT packets, then SLOT_END (R427). -/
def execPairSlotGo (m : Master) (v : Word) (s : State) : Res :=
  .next (s.busWrite m 0x20150010 v fun s =>
    let n := s.rd Reg.PAIR_SLOT_SLOT
    if !v.toNat.testBit 31 || !s.pairLead || !s.on Reg.WIN_CTRL_EN || decide (s.rd Reg.WIN_CFG_COUNT ≤ n) then s
    else
      let want := s.rd Reg.PAIR_SLOT_LEN * 4096
      let len := if want = 0 then s.slotSize else min want s.slotSize
      let data := s.bytes (s.slotAddr n) len
      let s := (List.range (len / 4096)).foldl (fun s i =>
        s.pairSend 0x8B (leBytes 2 n ++ [0, 0] ++ leBytes 4 (4096 * i) ++ slice data (4096 * i) 4096)) s
      (s.pairSend 0x8A (leBytes 2 n ++ leBytes 1 (s.rd Reg.PAIR_SLOT_NEW) ++ [0] ++ leBytes 4 len ++ leBytes 4 (crc32c data))).fire 108)

/-- The slot is this unit's to fill: owned by PAIR (R427). -/
def State.pairOwned (s : State) (n : Nat) : Bool := s.on Reg.WIN_CTRL_EN && decide (n < s.rd Reg.WIN_CFG_COUNT) && s.slotOwner n == 3

/-- PAIR_SLOT_RX: data for a slot that PAIR owns is written; any other is discarded and counted (R427). -/
def execPairSlotRx (data : List Byte) (s : State) : Res :=
  .next (s.fromLead (s.pairIn 0x8B (fun n => decide (8 ≤ n ∧ n ≤ 4104)) data) fun d s =>
    let n := leAt d 0 2
    let o := leAt d 4 4
    if s.pairOwned n && decide (o + (d.length - 8) ≤ s.slotSize) then s.dramWrite .pair (s.actsFor .pair) (s.slotAddr n + o) (d.drop 8) []
    else s.inc Reg.PAIR_CNT_SLOT_DROP)

/-- PAIR_SLOT_END_RX: with a matching CRC the slot is handed to NEW, else SLOT_ERR (R427, R405, R406). -/
def execPairSlotEndRx (data : List Byte) (s : State) : Res :=
  .next (s.fromLead (s.pairIn 0x8A (· == 12) data) fun d s =>
    let n := leAt d 0 2
    let new := byteAt d 2
    let len := leAt d 4 4
    if s.pairOwned n && decide (len ≤ s.slotSize) && leAt d 8 4 == crc32c (s.bytes (s.slotAddr n) len) && mayHand 3 new then
      (s.handSlot n new).layerRetest
    else (s.wr Reg.PAIR_STATUS_SLOT_ERR 1).fire 108)

/-- The addresses of a register and its repetitions. -/
def dimAddrs : Nat → List (Nat × Nat) → List Nat
  | base, [] => [base]
  | base, d :: ds => (List.range d.2).flatMap (fun i => dimAddrs (base + i * d.1) ds)

/-- The registers of the mirrored blocks that hold a field that is not RO. -/
def State.dumpAddrs (s : State) : List Nat :=
  (regTable.filter (fun r => s.mirrors r.base && r.fields.any (fun d => d.acc != .ro))).flatMap (fun r => dimAddrs r.base r.dims)

/-- PAIR_DUMP: REG entries of every mirrored block, then a COMMIT for the next boundary (R427). -/
def execPairDump (m : Master) (v : Word) (s : State) : Res :=
  .next (s.busWrite m 0x20150000 v fun s =>
    if !v.toNat.testBit 4 || !s.pairLead then s
    else
      let es := s.dumpAddrs.map (fun a => (a, s.readWord a))
      let s := { s with pair := { s.pair with regQueue := s.pair.regQueue ++ es } }
      s.pairSend 0x83 (leBytes 4 (frameNo s.ft.m) ++ leBytes 2 (s.rd Reg.PAIR_MIRROR_BLOCKS) ++ [0, 0]))

/-! Messages, silence, errors. -/

/-- PAIR_MSG_RX (R421, R433). -/
def execPairMsgRx (data : List Byte) (s : State) : Res :=
  .next (
    match s.pairIn 0x8C (fun n => decide (4 ≤ n ∧ n ≤ 1024)) data with
    | none => s
    | some d =>
      if !s.on Reg.PAIR_CTRL_EN then s
      else ({ s with pair := { s.pair with inbox := s.pair.inbox ++ [d] } }.pairLive).fire 109)

/-- PAIR_SILENCE_TIMEOUT: an armed understudy takes over (R430, R431). -/
def execPairSilenceTimeout (s : State) : Res :=
  .next (if s.on Reg.PAIR_STATUS_ARMED then (s.raise FLT_PAIR_LOST 0x20150004).pairTakeover else s)

/-- An IDLE whose trailer is right (spec/07 R148, R150): whether it is a probe, and its payload. -/
def partnerIdle (blocks : List (BitVec 2 × BitVec 64)) : Option (Bool × List Byte) :=
  match receive none blocks with
  | .packet bs =>
    if badTrailer blocks then none
    else (pairPayload 0x3F (· == 4) (bs.take (bs.length - 4))).map (fun d => ((byteAt bs 1).testBit 4, d))
  | _ => none

/-- PARTNER_LANE_PACKET_ERROR (spec/08 R198, R199): the descrambled blocks of a packet that none of PAIR's other commands brings. A truncated one
is discarded; one whose trailer is wrong is counted, and more than 16 within one second are the LINK condition (R434). An IDLE is a valid packet,
and the partner's probe is answered by an IDLE with PROBE and the same ID (R421, R423, spec/07 R157; log entry 33). -/
def execPartnerLanePacketError (blocks : List (BitVec 2 × BitVec 64)) (s : State) : Res :=
  .next (
    if !s.on Reg.PAIR_CTRL_EN then s
    else if !badTrailer blocks then
      match partnerIdle blocks with
      | none => s
      | some d => if d.1 then s.pairLive.pairPut 0x3F 0x10 d.2 else s.pairLive
    else
      let es := s.now :: s.pair.errors.filter (fun t => decide (s.now < t + 400000000))
      let t := { s.inc Reg.PAIR_CNT_CRC_ERR with pair := { s.pair with errors := if 16 < es.length then [] else es } }
      if 16 < es.length then (t.raise FLT_PAIR_LINK 0x20150020).fire 110 else t)

end Sys2Proof.Machine
end

