-- ==== Sys2Proof/Machine/Safe.lean ====
section
/-! DEFINITION. The commands of the safety island (spec/14_safety.md R317 to R349). -/

namespace Sys2Proof.Machine

/-- tDISC in ms of a seal pattern, 0 for an invalid code (R330). -/
def tDisc (v : Nat) : Nat :=
  match v % 8 with
  | 0 => 20
  | 1 => 50
  | 2 => 100
  | 3 => 200
  | 4 => 500
  | _ => 0

/-- The proof-test interval of a seal pattern in days (R330). -/
def proofDays (v : Nat) : Nat :=
  match v / 8 % 4 with
  | 0 => 30
  | 1 => 91
  | 2 => 182
  | _ => 365

/-- ILk_OPEN follow the filtered levels; a change fires SAFE_IL (R332, R347). -/
def State.showIl (s : State) : State :=
  let t := (s.wrB Reg.SAFE_STATUS_IL0_OPEN (s.ilOpen 0)).wrB Reg.SAFE_STATUS_IL1_OPEN (s.ilOpen 1)
  if t.rd Reg.SAFE_STATUS_IL0_OPEN ≠ s.rd Reg.SAFE_STATUS_IL0_OPEN ∨ t.rd Reg.SAFE_STATUS_IL1_OPEN ≠ s.rd Reg.SAFE_STATUS_IL1_OPEN then t.fire 68
  else t

/-- PROOF_DUE is set; a proof test that starts anew has nothing seen (R337). -/
def State.proofDue (s : State) : State :=
  if s.on Reg.SAFE_STATUS_PROOF_DUE then s
  else
    let s := ((s.wr Reg.SAFE_STATUS_PROOF_DUE 1).wr Reg.SAFE_IL_PSEEN0 0).wr Reg.SAFE_IL_PSEEN1 0
    { s with safe := { s.safe with proofSeen := .replicate 2 0 } }.fire 69

/-- PROOF_DUE is cleared (R337). -/
def State.proofClear (s : State) : State :=
  if s.on Reg.SAFE_STATUS_PROOF_DUE then (s.wr Reg.SAFE_STATUS_PROOF_DUE 0).fire 69 else s

/-- SAFE_ENABLE: EN until the next chip reset; the seal pattern is latched and decoded (R320, R329, R330). What then stands against
light makes the island enter FALLBACK (R325). -/
def execSafeEnable (m : Master) (v : Word) (s : State) : Res :=
  .next (s.busWrite m 0x20140000 v fun s =>
    if !v.toNat.testBit 0 || s.on Reg.SAFE_CTRL_EN then s
    else
      let s := s.wr Reg.SAFE_CTRL_EN 1
      let s := if !s.part.safeCapable then s else
        let p := s.rd Reg.SAFE_SEAL_LIVE
        let s := ((s.wr Reg.SAFE_SEAL_LATCHED p).wr Reg.SAFE_SEALCFG_TDISC_MS (tDisc p)).wr Reg.SAFE_SEALCFG_INTERVAL_D (proofDays p)
        let s := (s.wr Reg.SAFE_SEALCFG_USE1 (bits p 5 1)).wr Reg.SAFE_SEALCFG_CLASS (bits p 6 2)
        let s := if tDisc p = 0 then (s.wr Reg.SAFE_STATUS_SEAL_ERR 1).fire 71 else s
        s.showIl
      let s := s.showSafe
      if s.rd Reg.SAFE_STATUS_STATE = 3 then s.enterFallback else s)

/-- SAFE_ACK: DISC and TP_ERR clear if every enabled interlock has agreed open and then closed since (R335); otherwise WERR. -/
def execSafeAck (m : Master) (v : Word) (s : State) : Res :=
  .next (s.busWrite m 0x20140000 v fun s =>
    if !v.toNat.testBit 1 || (!s.on Reg.SAFE_STATUS_DISC && !s.on Reg.SAFE_STATUS_TP_ERR) then s
    else if (List.finRange 2).all (fun (k : Fin 2) => !s.ilUsed k || s.safe.ackSeen[k] == 2) then
      ((s.wr Reg.SAFE_STATUS_DISC 0).wr Reg.SAFE_STATUS_TP_ERR 0).showSafe
    else s.werr 0x20140000)

/-- SAFE_RESTRICT (R322). -/
def execSafeRestrict (m : Master) (v : Word) (s : State) : Res :=
  .next (s.busWrite m 0x20140000 v fun s => (s.wrB Reg.SAFE_CTRL_RESTRICT (v.toNat.testBit 2)).showSafe)

/-- SAFE_FB_REQ (R322, R325). -/
def execSafeFbReq (m : Master) (v : Word) (s : State) : Res :=
  .next (s.busWrite m 0x20140000 v fun s => (s.wrB Reg.SAFE_CTRL_FB_REQ (v.toNat.testBit 3)).showSafe)

/-- PROOF_REQ (R337). -/
def execProofReq (m : Master) (v : Word) (s : State) : Res :=
  .next (s.busWrite m 0x20140000 v fun s => if v.toNat.testBit 4 then s.proofDue.showSafe else s)

/-- PROOF_CLR (R337). -/
def execProofClr (m : Master) (v : Word) (s : State) : Res :=
  .next (s.busWrite m 0x20140000 v fun s => if v.toNat.testBit 5 then s.proofClear.showSafe else s)

/-- CMON_TEST (R328). -/
def execCmonTest (m : Master) (v : Word) (s : State) : Res :=
  .next (s.busWrite m 0x20140000 v fun s => if v.toNat.testBit 6 then s.wr Reg.SAFE_CTRL_CMON_TEST 1 else s)

/-- CMON_TEST_DONE: every monitor has flagged the value, or CLAMP_ERR is set (R328). -/
def execCmonTestDone (ok : Bool) (s : State) : Res :=
  .next (
    if !s.on Reg.SAFE_CTRL_CMON_TEST then s
    else
      let s := (s.wr Reg.SAFE_CTRL_CMON_TEST 0).wrB Reg.SAFE_STATUS_CMON_OK ok
      let s := if ok then s else s.wr Reg.SAFE_STATUS_CLAMP_ERR 1
      (s.fire 70).showSafe)

/-- CLAMP_MONITOR_TRIP (R328). Every port's monitor reports the one fault, which names no unit (spec/15 R352). -/
def execClampMonitorTrip (_p : Fin 12) (s : State) : Res :=
  .next (if !s.alive 2 then s else (((s.wr Reg.SAFE_STATUS_CLAMP_ERR 1).fire 70).raise FLT_SAFE_CLAMP 0x20140004).showSafe)

/-- SEAL_READ: the levels of SEAL0–7 and SEALN0–7 (R329). A switch is reported as it becomes invalid, and INVALID stays set until a reset (DESIGN
CHOICE; log entry 49). Isolation keeps the pins from an island that is not ON (spec/19 R439). -/
def execSealRead (p n : Byte) (s : State) : Res :=
  .next (
    if !s.part.safeCapable || !s.alive 2 then s
    else
      let bad := (~~~(p ^^^ n)).toNat
      let two := bad &&& s.safe.sealBad
      let new := wordOf (fun k => decide (k < 8) && two.testBit k && !s.on (Reg.SAFE_SEAL_INVALID k))
      let s := { s with safe := { s.safe with sealBad := bad } }
      let s := if new = 0 then s else
        let s := (List.range 8).foldl (fun s k => if new.testBit k then s.wr (Reg.SAFE_SEAL_INVALID k) 1 else s) s
        ((s.wr Reg.SAFE_STATUS_SEAL_ERR 1).fire 71).raise FLT_SAFE_SEAL 0x20140008
      let s := if bad ≠ 0 then s else
        let s := s.wr Reg.SAFE_SEAL_LIVE p.toNat
        if s.on Reg.SAFE_CTRL_EN && p.toNat != s.rd Reg.SAFE_SEAL_LATCHED && !s.on Reg.SAFE_STATUS_SEAL_CHG then
          ((s.wr Reg.SAFE_STATUS_SEAL_CHG 1).fire 71).proofDue.raise FLT_SAFE_PROOF 0x20140008
        else s
      s.showSafe)

/-- One sample of one input (R332): 60 unmasked samples in a row of the other level change the filtered level. -/
def State.sampleInput (s : State) (i : Fin 4) (level masked : Bool) : State :=
  if masked then s
  else
    let w := s.rd Reg.SAFE_IL_LEVEL
    let set (n : Nat) (s : State) : State := { s with safe := { s.safe with run := s.safe.run.set i n } }
    if level = w.testBit i then set 0 s
    else if s.safe.run[i] + 1 < 60 then set (s.safe.run[i] + 1) s
    else set 0 (s.wr Reg.SAFE_IL_LEVEL (w ^^^ 2 ^ i.val))

/-- An interlock's way through agreed open and then agreed closed (R335, R337). -/
def cycleStep (phase : Nat) (a b : Bool) : Nat :=
  if !a && b then (if phase = 2 then 2 else 1) else if a && !b then (if phase = 1 then 2 else phase) else phase

/-- What an interlock has shown since DISC or TP_ERR was set, and for the proof test. -/
def State.cycleIl (s : State) (k : Fin 2) : State :=
  { s with safe := { s.safe with
      ackSeen := s.safe.ackSeen.set k (cycleStep s.safe.ackSeen[k] (s.ilA k) (s.ilB k))
      proofSeen := s.safe.proofSeen.set k (cycleStep s.safe.proofSeen[k] (s.ilA k) (s.ilB k)) } }

/-- PSEEN, and the end of the proof test once every enabled interlock has it (R337). -/
def State.proofStep (s : State) : State :=
  if !s.on Reg.SAFE_STATUS_PROOF_DUE || !s.on Reg.SAFE_CTRL_EN then s
  else
    let s := if s.safe.proofSeen[(0 : Fin 2)] = 2 then s.wr Reg.SAFE_IL_PSEEN0 1 else s
    let s := if s.ilUsed 1 ∧ s.safe.proofSeen[(1 : Fin 2)] = 2 then s.wr Reg.SAFE_IL_PSEEN1 1 else s
    if s.on Reg.SAFE_IL_PSEEN0 && (!s.ilUsed 1 || s.on Reg.SAFE_IL_PSEEN1) then s.proofClear else s

/-- The discrepancy count of an interlock. -/
def discCnt (k : Fin 2) : Fld := if k = 0 then Reg.SAFE_IL_DISC_CNT0 else Reg.SAFE_IL_DISC_CNT1

/-- INTERLOCK_SAMPLE: the levels of SFIN0A, SFIN0B, SFIN1A and SFIN1B, and which samples are masked (R332). Channels that agree return their
discrepancy count to 0 (R334). -/
def execInterlockSample (levels masked : Fin 16) (s : State) : Res :=
  .next (
    if !s.part.safeCapable || !s.alive 2 then s
    else
      let s := s.forFin fun (i : Fin 4) s => s.sampleInput i (levels.val.testBit i) (masked.val.testBit i)
      let s := s.forFin fun (k : Fin 2) s => s.cycleIl k
      let s := s.forFin fun (k : Fin 2) s => if s.ilUsed k && s.ilA k != s.ilB k then s.wr (discCnt k) 0 else s
      s.showIl.proofStep.showSafe)

/-- DISC or TP_ERR is set: the interlocks start their cycles anew (R335, R337). -/
def State.ilFault (s : State) (f : Fld) (src : Nat) : State :=
  let s := ((s.wr f 1).fire 68).raise src 0x2014000C
  { s with safe := { s.safe with ackSeen := .replicate 2 0, proofSeen := .replicate 2 0 } }

/-- The check of one input at one pulse of source `src` (R333). -/
def tpFails (i src : Nat) (before low after : Bool) : Bool := if i % 2 = src then before && !low else before && low && after

/-- TEST_PULSE_CHECK: what each input read before, during (at least one 0) and after a pulse of SFTP0 or SFTP1 (R333). -/
def execTestPulseCheck (src : Fin 2) (before low after : Fin 16) (s : State) : Res :=
  .next (
    if !s.part.safeCapable || !s.alive 2 then s
    else
      let s := s.forFin fun (i : Fin 4) s =>
        if !s.ilUsed (Fin.ofNat 2 (i / 2)) then s
        else
          let j : Fin 8 := Fin.ofNat 8 (2 * i + if i.val % 2 = src.val then 0 else 1)
          let n := if tpFails i src (before.val.testBit i) (low.val.testBit i) (after.val.testBit i) then s.safe.tpFail[j] + 1 else 0
          let t := { s with safe := { s.safe with tpFail := s.safe.tpFail.set j n } }
          if 2 ≤ n ∧ !s.on Reg.SAFE_STATUS_TP_ERR then t.ilFault Reg.SAFE_STATUS_TP_ERR FLT_SAFE_TP else t
      s.showSafe)

/-- DISCREPANCY_TICK (R334). -/
def execDiscrepancyTick (s : State) : Res :=
  .next (
    if !s.part.safeCapable || !s.alive 2 then s
    else
      let s := s.forFin fun (k : Fin 2) s =>
        if !s.ilUsed k then s
        else if s.ilA k != s.ilB k then s.wr (discCnt k) 0
        else
          let s := s.inc (discCnt k)
          let d := s.rd Reg.SAFE_SEALCFG_TDISC_MS
          if s.on Reg.SAFE_CTRL_EN && d != 0 && decide (d ≤ s.rd (discCnt k)) && !s.on Reg.SAFE_STATUS_DISC then
            s.ilFault Reg.SAFE_STATUS_DISC FLT_SAFE_DISC
          else s
      s.showSafe)

/-- FALLBACK_SILENCE: CAP (0, 0) has left every port, and every tile port enters SILENT (R325). -/
def execFallbackSilence (s : State) : Res :=
  .next (
    if !s.safe.silence then s
    else
      let s := { s with safe := { s.safe with silence := false } }
      s.forFin fun (p : Fin 12) s => s.tlSilence p)

/-- DUAL_WIN_EXPIRY: the oldest copy has no twin, and is rejected with code 0x04 (R340). -/
def execDualWinExpiry (s : State) : Res :=
  .next (
    match s.safe.held with
    | [] => s
    | _ :: r => { s with safe := { s.safe with held := r } }.msgReject 4)

/-- SAFE_WATCH_EXPIRY (R342). -/
def execSafeWatchExpiry (s : State) : Res :=
  .next (
    if !s.on Reg.SAFE_CTRL_EN || s.on Reg.SAFE_STATUS_SYM_INHIBIT || !s.part.safeCapable then s
    else
      let s := s.forFin fun (k : Fin 8) s => (s.wr (Reg.SAFE_L_GBUF_VALID k) 0).setGrant k { s.safe.grant[k] with valid := false }
      ((s.wr Reg.SAFE_STATUS_SYM_INHIBIT 1).fire 67).raise FLT_SAFE_WATCH 0x20140004)

/-- SAFE_GRANT_WRITE: SAFE_Lk_GBUF with the staged GTBL and GHI is one grant (R343); with VALID = 1 under SYM_INHIBIT it is ignored and
sets WERR (R342). -/
def execSafeGrantWrite (m : Master) (k : Fin 8) (v : Word) (s : State) : Res :=
  let a := 0x20140200 + k.val * 0x10
  .next (s.busWrite m a v fun s =>
    let on := v.toNat.testBit 0
    if on && s.on Reg.SAFE_STATUS_SYM_INHIBIT then s.werr a
    else
      let s := (s.wrB (Reg.SAFE_L_GBUF_VALID k) on).wr (Reg.SAFE_L_GBUF_ADDR k) (bits v.toNat 6 26)
      s.setGrant k {
        valid := on
        buf := s.rd (Reg.SAFE_L_GHI_BUF_HI k) <<< 32 ||| s.rd (Reg.SAFE_L_GBUF_ADDR k) <<< 6
        tbl := s.rd (Reg.SAFE_L_GHI_TBL_HI k) <<< 32 ||| s.rd (Reg.SAFE_L_GTBL_ADDR k) <<< 6 })

/-- SAFE_MBOX_POP (R341). -/
def execSafeMboxPop (m : Master) (v : Word) (s : State) : Res :=
  .next (s.busWrite m 0x2014007C v fun s => if v.toNat.testBit 0 then s.wr Reg.SAFE_MSG_STATUS_MBOX_FULL 0 else s)

end Sys2Proof.Machine
end

