-- ==== Sys2Proof/Machine/Warp.lean ====
section
/-! DEFINITION. The commands of the warp and its span checker (spec/04_warp.md R89 to R97). -/

namespace Sys2Proof.Machine

/-- The walk that the checker takes up next (R92, R95): the lowest-numbered layer that waits, a pending set, once its mesh set is stable,
before a live one. -/
def State.nextWalk (s : State) : Option Walk :=
  (List.finRange 8).findSome? (fun (k : Fin 8) =>
    if s.layer.queued[k] ∧ s.meshStable false k = true then some { layer := k, live := false }
    else if s.layer.recheck[k] then some { layer := k, live := true } else none)

/-- SPAN_CHECK_START (R92, R95). -/
def execSpanCheckStart (s : State) : Res :=
  .next (
    match s.layer.walk, s.nextWalk with
    | none, some w =>
      let k := w.layer
      let x := s.layer
      let y := if w.live then { x with walk := some w, recheck := x.recheck.set k false }
               else { x with walk := some w, queued := x.queued.set k false }
      (s.setLayer y).wr (Reg.LAYER_L_WARP_STATUS_CHK_BUSY k) 1
    | _, _ => s)

/-- SPAN_CHECK_DONE (R91, R94): the walk of the mesh set as memory holds it; `error` is the place at which a read
failed. A read that nothing answers is a bus error (spec/15 R359, spec/19 R455). -/
def execSpanCheckDone (error : Option SpanFault) (s : State) : Res :=
  .next (
    match s.layer.walk with
    | none => s
    | some w =>
      let k := w.layer
      let s := s.dropWalk
      let r := match s.image with
        | some i => if i.composes k then s.walkLayer i k w.live error else {}
        | none => {}
      let s := match r.bad with
        | some a => s.readErr .stageArray a
        | none => s
      let s := match r.fail with
        | some f => s.checkFailed k w.live f r.span.toNat
        | none => s.checkPassed k w.live r.span.toNat
      s.layerRetest)

/-- WARP_TAP_CLAMP: one output line of a composed layer in which `taps` taps lay outside the window (R89). -/
def execWarpTapClamp (l : Fin 8) (taps : Nat) (s : State) : Res :=
  .next (
    match s.ft.passA with
    | none => s
    | some _ =>
      if taps = 0 then s
      else
        let s := s.inc (Reg.LAYER_L_CLAMP_CNT_COUNT l)
        if s.layer.clamped[l] then s
        else (s.setLayer { s.layer with clamped := s.layer.clamped.set l true }).raise FLT_LAYER_CLAMP (0x20090134 + l * 0x40))

end Sys2Proof.Machine
end

