-- ==== Sys2Proof/Machine/Win.lean ====
section
/-! DEFINITION. The commands of the stage window (spec/17_memory_window.md R402 to R408, R416). -/

namespace Sys2Proof.Machine

/-- The window's configuration may be enabled (R402). -/
def State.winOk (s : State) : Bool :=
  let sz := s.rd Reg.WIN_CFG_SIZE
  let n := s.rd Reg.WIN_CFG_COUNT
  decide (16 ≤ sz ∧ sz ≤ 24 ∧ 1 ≤ n ∧ n ≤ 1024 ∧ s.winBase % 2 ^ sz = 0 ∧ n * 2 ^ sz ≤ 256 * 1048576 ∧ dramBase ≤ s.winBase ∧
    s.winBase + n * 2 ^ sz ≤ dramBase + usableDram s.part.density)

/-- Every slot is FREE, and nothing of a hand-over or a retire waits (R402). -/
def State.winFree (s : State) : State :=
  ({ s with regs := s.regs.clear 0x20070100 0x20070300, win := { s.win with xfer := none, retire := [] } }.wr Reg.WIN_XFER_GO 0).wr Reg.WIN_STATUS_PEND_RETIRE 0

/-- Every slot becomes FREE, once the window DMA writes that came before have been made (R402, R408). -/
def State.winClear (s : State) : State := (s.dmaWrites (fun x => !(s.slotsOf x.dst x.len).isEmpty)).winFree

/-- WIN_ENABLE (R402). -/
def execWinEnable (m : Master) (v : Word) (s : State) : Res :=
  .next (s.busWrite m 0x20070000 v fun s =>
    if !v.toNat.testBit 0 then (if s.on Reg.WIN_CTRL_EN then s.winClear.wr Reg.WIN_CTRL_EN 0 else s)
    else if s.on Reg.WIN_CTRL_EN then s
    else if s.winOk then s.winClear.wr Reg.WIN_CTRL_EN 1 else s.werr 0x20070000)

/-- WIN_LOCK (R416). -/
def execWinLock (m : Master) (v : Word) (s : State) : Res :=
  .next (s.busWrite m 0x20070000 v fun s => if v.toNat.testBit 1 then s.wr Reg.WIN_CTRL_LOCK 1 else s)

/-- WIN_XFER_REQUEST (R405 to R407, log entry 22). A request that names a SCANOUT slot with FREE or RENDER asks the agent for it. The copies of
window DMA channels into the slot have then made the writes that came before. -/
def execWinXferRequest (m : Master) (v : Word) (s : State) : Res :=
  .next (s.busWrite m 0x20070014 v fun s =>
    if !v.toNat.testBit 31 then s
    else
      let n := s.rd Reg.WIN_XFER_SLOT
      let new := s.rd Reg.WIN_XFER_NEW
      let old := s.slotOwner n
      if !s.on Reg.WIN_CTRL_EN || decide (s.rd Reg.WIN_CFG_COUNT ≤ n) then s.xferEnds 3
      else if s.win.retire.any (fun r => r.1 == n) then s.xferEnds 4
      else if !(s.actsFor m old || ((old == 0 || old == 4) && s.actsFor m new)) then
        (s.xferEnds 1).raiseOcc { src := FLT_WIN_OWNER, unit := masterEngine m, addr := 0x20070014, master := m, access := .write }
      else if old = 4 ∧ (new = 0 ∨ new = 2) then
        let t := { s with win := { s.win with retire := s.win.retire ++ [(n, new)] } }.wr Reg.WIN_STATUS_PEND_RETIRE 1
        if s.on Reg.FT_STATUS_RUN then t else t.retireHandover
      else if !mayHand old new then s.xferEnds 2
      else
        let t := s.dmaWrites (fun x => (s.slotsOf x.dst x.len).contains n)
        { t with win := { t.win with xfer := some (n, new) } }.wr Reg.WIN_XFER_GO 1)

/-- WIN_HANDOVER: the owner changes in a single cycle (R405); a flip or a check that waited for it is taken up (R7, spec/04 R92). -/
def execWinHandover (s : State) : Res :=
  .next (
    match s.win.xfer with
    | none => s
    | some x =>
      let t := { s with win := { s.win with xfer := none } }.setOwner x.1 x.2
      ((t.wr Reg.WIN_XFER_GO 0).xferEnds 0).layerRetest)

/-- WIN_RETIRE_HANDOVER (R407). -/
def execWinRetireHandover (s : State) : Res := .next s.retireHandover

/-- SLOT_WRITE_BLOCKED: a write to the window by a master (R404); the parts that the owner of their slot lets through are written. -/
def execSlotWriteBlocked (m : Master) (addr : Nat) (data : List Byte) (s : State) : Res :=
  .next (s.dramWrite m (s.actsFor m) (s.viewAddr m addr) data [])

/-! Window DMA. -/

/-- WIN_DMA_GO: the starting engine must act for OWN (R408); a GO while the channel runs has no further effect. -/
def execWinDmaGo (m : Master) (c : Fin 4) (v : Word) (s : State) : Res :=
  .next (s.busWrite m (winDmaAddr c) v fun s =>
    if !v.toNat.testBit 0 || (s.win.dma[c]).isSome then s
    else if !s.actsFor m (s.rd (Reg.WIN_DMA_CTRL_OWN c)) then s.werr (winDmaAddr c)
    else
      let x : DmaRun :=
        { src := s.rd (Reg.WIN_DMA_HI_SRC_HI c) <<< 32 ||| s.rd (Reg.WIN_DMA_SRC_ADDR c) <<< 6
          dst := s.rd (Reg.WIN_DMA_HI_DST_HI c) <<< 32 ||| s.rd (Reg.WIN_DMA_DST_ADDR c) <<< 6
          len := s.rd (Reg.WIN_DMA_LEN_LEN c) <<< 6, own := s.rd (Reg.WIN_DMA_CTRL_OWN c), handTo := s.rd (Reg.WIN_DMA_CTRL_HAND_TO c) }
      (s.setDma c (some x)).wr (Reg.WIN_DMA_CTRL_GO c) 1)

/-- The hand-over to HAND_TO of the destination slot of a channel whose last write has completed, by the rules of R405 and R406 for a master that
acts for OWN (R408). -/
def State.dmaHands (s : State) (c : Fin 4) (x : DmaRun) : State :=
  match s.slotsOf x.dst x.len with
  | [n] =>
    if 7 ≤ x.handTo ∨ s.inOneSlot x.dst x.len = false then s
    else if ¬(s.slotOwner n = x.own ∨ (s.slotOwner n = 0 ∧ x.handTo = x.own)) then (s.xferEnds 1).raise FLT_WIN_OWNER (winDmaAddr c)
    else if !mayHand (s.slotOwner n) x.handTo then s.xferEnds 2
    else ((s.handSlot n x.handTo).xferEnds 0).layerRetest
  | _ => s

/-- WIN_DMA_END (R408); `error` is the index of a block whose read failed. -/
def execWinDmaEnd (c : Fin 4) (error : Option Nat) (s : State) : Res :=
  .next (
    match s.win.dma[c] with
    | none => s
    | some x =>
      let r := s.dmaCopy x error (x.len / 64)
      match r.2 with
      | some n => r.1.dmaStopped c x error n
      | none => ((r.1.setDma c none).dmaHands c x).dmaEnds c (Reg.WIN_DMA_STATUS_DONE c))

/-- WIN_DMA_TIMEOUT: the channel stops (R408). How much it has copied by then the spec does not say: a free value (log entry 4), up to the first
access that would have failed, which it has not met. -/
def execWinDmaTimeout (c : Fin 4) (s : State) : Res :=
  .next (
    match s.win.dma[c] with
    | none => s
    | some x =>
      let q := s.fresh
      let k := q.1 % (x.len / 64 + 1)
      let t := (q.2.dmaCopy x none ((q.2.dmaCopy x none k).2.getD k)).1
      (t.dmaEnds c (Reg.WIN_DMA_STATUS_TMO c)).raise FLT_WIN_TMO (winDmaAddr c))

end Sys2Proof.Machine
end

