-- ==== Sys2Proof/Machine/Dispatch.lean ====
section
/-! DEFINITION. One arm per command of the opcode table. -/

namespace Sys2Proof.Machine

def exec (i : Instr) (s : State) : Host.Outcome State Fault Refusal :=
  match i with
  | .registerWrite m addr size v => Sys2Proof.Machine.execRegisterWrite m addr size v s
  | .commitGuard => Sys2Proof.Machine.execCommitGuard s
  | .immediateCommitLive b => Sys2Proof.Machine.execImmediateCommitLive b s
  | .boundaryFix => Sys2Proof.Machine.execBoundaryFix s
  | .latchDeparture missed => Sys2Proof.Machine.execLatchDeparture missed s
  | .frameBoundary calp => Sys2Proof.Machine.execFrameBoundary calp s
  | .passADone kalCrc => Sys2Proof.Machine.execPassADone kalCrc s
  | .passAAbandon => Sys2Proof.Machine.execPassAAbandon s
  | .nominalBoundaryPassed => Sys2Proof.Machine.execNominalBoundaryPassed s
  | .lineSlotStart lacking => Sys2Proof.Machine.execLineSlotStart lacking s
  | .lineBufferWatermark p lines => Sys2Proof.Machine.execLineBufferWatermark p lines s
  | .startOfBlanking => Sys2Proof.Machine.execStartOfBlanking s
  | .kalPassBCheck kalCrc => Sys2Proof.Machine.execKalPassBCheck kalCrc s
  | .lineMatch => Sys2Proof.Machine.execLineMatch s
  | .ftEnable m v => Sys2Proof.Machine.execFtEnable m v s
  | .ftDisable m v => Sys2Proof.Machine.execFtDisable m v s
  | .ftCommit m v => Sys2Proof.Machine.execFtCommit m v s
  | .saEnable m v => Sys2Proof.Machine.execSaEnable m v s
  | .saCommit m v => Sys2Proof.Machine.execSaCommit m v s
  | .saLoadStart m v => Sys2Proof.Machine.execSaLoadStart m v s
  | .saLoadAbort m v => Sys2Proof.Machine.execSaLoadAbort m v s
  | .saLoadEnd readError => Sys2Proof.Machine.execSaLoadEnd readError s
  | .saDiagStart m v => Sys2Proof.Machine.execSaDiagStart m v s
  | .saDiagDone fail => Sys2Proof.Machine.execSaDiagDone fail s
  | .saEccDed cell passB corrected => Sys2Proof.Machine.execSaEccDed cell passB corrected s
  | .saFenceSet m k v => Sys2Proof.Machine.execSaFenceSet m k v s
  | .layerEnable m v => Sys2Proof.Machine.execLayerEnable m v s
  | .layerCommit m v => Sys2Proof.Machine.execLayerCommit m v s
  | .scanoutAgentHandover => Sys2Proof.Machine.execScanoutAgentHandover s
  | .fetchError l addr => Sys2Proof.Machine.execFetchError l addr s
  | .maskinEnable m v => Sys2Proof.Machine.execMaskinEnable m v s
  | .maskinFrameStart hdr => Sys2Proof.Machine.execMaskinFrameStart hdr s
  | .maskinFrameEnd hdr => Sys2Proof.Machine.execMaskinFrameEnd hdr s
  | .maskinLongPacket hdr data crc => Sys2Proof.Machine.execMaskinLongPacket hdr data crc s
  | .maskinShortPacket hdr => Sys2Proof.Machine.execMaskinShortPacket hdr s
  | .maskinHeaderEccError => Sys2Proof.Machine.execMaskinHeaderEccError s
  | .maskinOtherPacket hdr => Sys2Proof.Machine.execMaskinOtherPacket hdr s
  | .maskComplete => Sys2Proof.Machine.execMaskComplete s
  | .maskinLineTimeout => Sys2Proof.Machine.execMaskinLineTimeout s
  | .protectedRegionWrite m addr data => Sys2Proof.Machine.execProtectedRegionWrite m addr data s
  | .spanCheckStart => Sys2Proof.Machine.execSpanCheckStart s
  | .spanCheckDone error => Sys2Proof.Machine.execSpanCheckDone error s
  | .warpTapClamp l taps => Sys2Proof.Machine.execWarpTapClamp l taps s
  | .driveReadError passB addr => Sys2Proof.Machine.execDriveReadError passB addr s
  | .tlEnable p m v => Sys2Proof.Machine.execTlEnable p m v s
  | .tlRetrain p m v => Sys2Proof.Machine.execTlRetrain p m v s
  | .trainingCapsSend p => Sys2Proof.Machine.execTrainingCapsSend p s
  | .capsRx p data => Sys2Proof.Machine.execCapsRx p data s
  | .capsTimeout p => Sys2Proof.Machine.execCapsTimeout p s
  | .rateRelock p eye => Sys2Proof.Machine.execRateRelock p eye s
  | .latencyProbeSet p rtt => Sys2Proof.Machine.execLatencyProbeSet p rtt s
  | .periodicProbe p rtt => Sys2Proof.Machine.execPeriodicProbe p rtt s
  | .configOkTimeout p => Sys2Proof.Machine.execConfigOkTimeout p s
  | .tlClaim p m v => Sys2Proof.Machine.execTlClaim p m v s
  | .tlFence p m v => Sys2Proof.Machine.execTlFence p m v s
  | .fbStart p m v => Sys2Proof.Machine.execFbStart p m v s
  | .fbReplyRx p data => Sys2Proof.Machine.execFbReplyRx p data s
  | .fbTimeout p => Sys2Proof.Machine.execFbTimeout p s
  | .healthRx p data => Sys2Proof.Machine.execHealthRx p data s
  | .diagRetRx p data => Sys2Proof.Machine.execDiagRetRx p data s
  | .staleReplyRx p data => Sys2Proof.Machine.execStaleReplyRx p data s
  | .capackTimeout p => Sys2Proof.Machine.execCapackTimeout p s
  | .idleKeepalive p => Sys2Proof.Machine.execIdleKeepalive p s
  | .upstreamPacketError p blocks => Sys2Proof.Machine.execUpstreamPacketError p blocks s
  | .tlRxTimeout p => Sys2Proof.Machine.execTlRxTimeout p s
  | .autoRetrainTimer p => Sys2Proof.Machine.execAutoRetrainTimer p s
  | .laneIdleReq j m v => Sys2Proof.Machine.execLaneIdleReq j m v s
  | .idleExit j marker => Sys2Proof.Machine.execIdleExit j marker s
  | .laneLockAcquired j h v => Sys2Proof.Machine.execLaneLockAcquired j h v s
  | .laneLockLoss j cause => Sys2Proof.Machine.execLaneLockLoss j cause s
  | .eyeWindowEnd j h v taps => Sys2Proof.Machine.execEyeWindowEnd j h v taps s
  | .laneAdapt j m v => Sys2Proof.Machine.execLaneAdapt j m v s
  | .adaptationDone j scores h v taps => Sys2Proof.Machine.execAdaptationDone j scores h v taps s
  | .lanePrbsConfig j m v => Sys2Proof.Machine.execLanePrbsConfig j m v s
  | .injOne j m v => Sys2Proof.Machine.execInjOne j m v s
  | .injBurst j m v => Sys2Proof.Machine.execInjBurst j m v s
  | .lanePllLoss net => Sys2Proof.Machine.execLanePllLoss net s
  | .hlthEnable m v => Sys2Proof.Machine.execHlthEnable m v s
  | .hlthCommit m v => Sys2Proof.Machine.execHlthCommit m v s
  | .hlthForce m v => Sys2Proof.Machine.execHlthForce m v s
  | .hlthCapture m v => Sys2Proof.Machine.execHlthCapture m v s
  | .hlthReportTimer => Sys2Proof.Machine.execHlthReportTimer s
  | .hlthRptPop m v => Sys2Proof.Machine.execHlthRptPop m v s
  | .lscEnable m v => Sys2Proof.Machine.execLscEnable m v s
  | .lscHandoverDone codes => Sys2Proof.Machine.execLscHandoverDone codes s
  | .lscRelease => Sys2Proof.Machine.execLscRelease s
  | .lscLoopUpdate code => Sys2Proof.Machine.execLscLoopUpdate code s
  | .lscPhaseSample ph code => Sys2Proof.Machine.execLscPhaseSample ph code s
  | .lscCommit m v => Sys2Proof.Machine.execLscCommit m v s
  | .phaseOvercurrent ph again => Sys2Proof.Machine.execPhaseOvercurrent ph again s
  | .persistentOvercurrent => Sys2Proof.Machine.execPersistentOvercurrent s
  | .overVoltage => Sys2Proof.Machine.execOverVoltage s
  | .underVoltage => Sys2Proof.Machine.execUnderVoltage s
  | .stageFault => Sys2Proof.Machine.execStageFault s
  | .thmEnable m v => Sys2Proof.Machine.execThmEnable m v s
  | .thmCommit m v => Sys2Proof.Machine.execThmCommit m v s
  | .thmModelStep ain => Sys2Proof.Machine.execThmModelStep ain s
  | .thmTick => Sys2Proof.Machine.execThmTick s
  | .thmSensorSuspect ntc t k => Sys2Proof.Machine.execThmSensorSuspect ntc t k s
  | .thmModelDeviation t => Sys2Proof.Machine.execThmModelDeviation t s
  | .tileSensorTimeout p => Sys2Proof.Machine.execTileSensorTimeout p s
  | .dieTempSample d0 d1 d2 d3 => Sys2Proof.Machine.execDieTempSample d0 d1 d2 d3 s
  | .thermalShutdown => Sys2Proof.Machine.execThermalShutdown s
  | .shutdownDeferLimit => Sys2Proof.Machine.execShutdownDeferLimit s
  | .tCritComparator => Sys2Proof.Machine.execTCritComparator s
  | .thermalRestart => Sys2Proof.Machine.execThermalRestart s
  | .calEnable m v => Sys2Proof.Machine.execCalEnable m v s
  | .adcCorrMeasure => Sys2Proof.Machine.execAdcCorrMeasure s
  | .adcCorrDone z c calp => Sys2Proof.Machine.execAdcCorrDone z c calp s
  | .calStart m v => Sys2Proof.Machine.execCalStart m v s
  | .calIntervalTimer => Sys2Proof.Machine.execCalIntervalTimer s
  | .calTempCheck => Sys2Proof.Machine.execCalTempCheck s
  | .calRunTimeout => Sys2Proof.Machine.execCalRunTimeout s
  | .autoSaveWrite => Sys2Proof.Machine.execAutoSaveWrite s
  | .calExtStart m v => Sys2Proof.Machine.execCalExtStart m v s
  | .calExtStep m v => Sys2Proof.Machine.execCalExtStep m v s
  | .calExtFinish m v => Sys2Proof.Machine.execCalExtFinish m v s
  | .calExtAbort m v => Sys2Proof.Machine.execCalExtAbort m v s
  | .nvRead m v => Sys2Proof.Machine.execNvRead m v s
  | .nvWrite m v => Sys2Proof.Machine.execNvWrite m v s
  | .nvWriteDone ok => Sys2Proof.Machine.execNvWriteDone ok s
  | .netEnable n m v => Sys2Proof.Machine.execNetEnable n m v s
  | .netLinkChange n up mbps full => Sys2Proof.Machine.execNetLinkChange n up mbps full s
  | .netRxKick n m v => Sys2Proof.Machine.execNetRxKick n m v s
  | .netTxKick n m v => Sys2Proof.Machine.execNetTxKick n m v s
  | .netFrameRx n frame trouble errs => Sys2Proof.Machine.execNetFrameRx n frame trouble errs s
  | .netFrameTx n trouble => Sys2Proof.Machine.execNetFrameTx n trouble s
  | .mdioAccess m v => Sys2Proof.Machine.execMdioAccess m v s
  | .mdioDone data => Sys2Proof.Machine.execMdioDone data s
  | .timeDomainEn d m v => Sys2Proof.Machine.execTimeDomainEn d m v s
  | .timeLoad d m v => Sys2Proof.Machine.execTimeLoad d m v s
  | .timeStep d m v => Sys2Proof.Machine.execTimeStep d m v s
  | .timeAdjustApply d => Sys2Proof.Machine.execTimeAdjustApply d s
  | .ftSourceSwitch m v => Sys2Proof.Machine.execFtSourceSwitch m v s
  | .switchPendApply => Sys2Proof.Machine.execSwitchPendApply s
  | .timeSlewStep => Sys2Proof.Machine.execTimeSlewStep s
  | .timeNsRead d part => Sys2Proof.Machine.execTimeNsRead d part s
  | .ftNextNsRead => Sys2Proof.Machine.execFtNextNsRead s
  | .timeCaptureEdge k rising => Sys2Proof.Machine.execTimeCaptureEdge k rising s
  | .timeCapInfoRead k => Sys2Proof.Machine.execTimeCapInfoRead k s
  | .ppsEdge => Sys2Proof.Machine.execPpsEdge s
  | .cueFire k => Sys2Proof.Machine.execCueFire k s
  | .safeEnable m v => Sys2Proof.Machine.execSafeEnable m v s
  | .safeAck m v => Sys2Proof.Machine.execSafeAck m v s
  | .safeRestrict m v => Sys2Proof.Machine.execSafeRestrict m v s
  | .safeFbReq m v => Sys2Proof.Machine.execSafeFbReq m v s
  | .proofReq m v => Sys2Proof.Machine.execProofReq m v s
  | .proofClr m v => Sys2Proof.Machine.execProofClr m v s
  | .cmonTest m v => Sys2Proof.Machine.execCmonTest m v s
  | .cmonTestDone ok => Sys2Proof.Machine.execCmonTestDone ok s
  | .clampMonitorTrip p => Sys2Proof.Machine.execClampMonitorTrip p s
  | .sealRead p n => Sys2Proof.Machine.execSealRead p n s
  | .interlockSample levels masked => Sys2Proof.Machine.execInterlockSample levels masked s
  | .testPulseCheck src before low after => Sys2Proof.Machine.execTestPulseCheck src before low after s
  | .discrepancyTick => Sys2Proof.Machine.execDiscrepancyTick s
  | .fallbackSilence => Sys2Proof.Machine.execFallbackSilence s
  | .dualWinExpiry => Sys2Proof.Machine.execDualWinExpiry s
  | .safeWatchExpiry => Sys2Proof.Machine.execSafeWatchExpiry s
  | .safeGrantWrite m k v => Sys2Proof.Machine.execSafeGrantWrite m k v s
  | .safeMboxPop m v => Sys2Proof.Machine.execSafeMboxPop m v s
  | .faultOccurrence ext cut => Sys2Proof.Machine.execFaultOccurrence ext cut s
  | .fltAck m v => Sys2Proof.Machine.execFltAck m v s
  | .fltPendClear m k v => Sys2Proof.Machine.execFltPendClear m k v s
  | .fltLock m v => Sys2Proof.Machine.execFltLock m v s
  | .fltSw m v => Sys2Proof.Machine.execFltSw m v s
  | .fltPinRel m v => Sys2Proof.Machine.execFltPinRel m v s
  | .fltEngineUnfence m v => Sys2Proof.Machine.execFltEngineUnfence m v s
  | .fltZoneUnfence m k v => Sys2Proof.Machine.execFltZoneUnfence m k v s
  | .fltNetUnfence m v => Sys2Proof.Machine.execFltNetUnfence m v s
  | .eventSourceEdge n => Sys2Proof.Machine.execEventSourceEdge n s
  | .evcSetpend m k v => Sys2Proof.Machine.execEvcSetpend m k v s
  | .evcPendClear m k v => Sys2Proof.Machine.execEvcPendClear m k v s
  | .eventEntry e view rising => Sys2Proof.Machine.execEventEntry e view rising s
  | .mret e view => Sys2Proof.Machine.execMret e view s
  | .syncException e view cause tval => Sys2Proof.Machine.execSyncException e view cause tval s
  | .nmiEntry e view => Sys2Proof.Machine.execNmiEntry e view s
  | .wfiEnter e view => Sys2Proof.Machine.execWfiEnter e view s
  | .evcDrop m e v => Sys2Proof.Machine.execEvcDrop m e v s
  | .evcRetarget m n v => Sys2Proof.Machine.execEvcRetarget m n v s
  | .redirectTimeout n => Sys2Proof.Machine.execRedirectTimeout n s
  | .engineHold m e v => Sys2Proof.Machine.execEngineHold m e v s
  | .engineRelease m e v => Sys2Proof.Machine.execEngineRelease m e v s
  | .aperChange m e v => Sys2Proof.Machine.execAperChange m e v s
  | .wdtEnable m e v => Sys2Proof.Machine.execWdtEnable m e v s
  | .wdtKick m e v => Sys2Proof.Machine.execWdtKick m e v s
  | .wdtWarnExpiry e => Sys2Proof.Machine.execWdtWarnExpiry e s
  | .wdtTimeout e => Sys2Proof.Machine.execWdtTimeout e s
  | .uartDataWrite m u v sent => Sys2Proof.Machine.execUartDataWrite m u v sent s
  | .uartDataRead u => Sys2Proof.Machine.execUartDataRead u s
  | .uartRxByte u data ok => Sys2Proof.Machine.execUartRxByte u data ok s
  | .i2cGo m c v => Sys2Proof.Machine.execI2cGo m c v s
  | .i2cTransferEnd c nack data sent => Sys2Proof.Machine.execI2cTransferEnd c nack data sent s
  | .i2cStretchTimeout c => Sys2Proof.Machine.execI2cStretchTimeout c s
  | .i2cDataAccess m c w got sent => Sys2Proof.Machine.execI2cDataAccess m c w got sent s
  | .spiDataWrite m v => Sys2Proof.Machine.execSpiDataWrite m v s
  | .spiFrameDone data => Sys2Proof.Machine.execSpiFrameDone data s
  | .gpioEdge p level => Sys2Proof.Machine.execGpioEdge p level s
  | .timerEnable m k v => Sys2Proof.Machine.execTimerEnable m k v s
  | .timerExpiry k => Sys2Proof.Machine.execTimerExpiry k s
  | .tbaseLoRead => Sys2Proof.Machine.execTbaseLoRead s
  | .memcEnable m v => Sys2Proof.Machine.execMemcEnable m v s
  | .memcTrainingEnd ok => Sys2Proof.Machine.execMemcTrainingEnd ok s
  | .memcRetrain m v => Sys2Proof.Machine.execMemcRetrain m v s
  | .wck2dqTracking => Sys2Proof.Machine.execWck2dqTracking s
  | .dramRead m addr size errs => Sys2Proof.Machine.execDramRead m addr size errs s
  | .dramPartialWrite m addr data errs => Sys2Proof.Machine.execDramPartialWrite m addr data errs s
  | .scrubRead errs raced => Sys2Proof.Machine.execScrubRead errs raced s
  | .linkEccRate corrections => Sys2Proof.Machine.execLinkEccRate corrections s
  | .dramTempReport raised => Sys2Proof.Machine.execDramTempReport raised s
  | .sramEcc m acc errs start data => Sys2Proof.Machine.execSramEcc m acc errs start data s
  | .winEnable m v => Sys2Proof.Machine.execWinEnable m v s
  | .winLock m v => Sys2Proof.Machine.execWinLock m v s
  | .winXferRequest m v => Sys2Proof.Machine.execWinXferRequest m v s
  | .winHandover => Sys2Proof.Machine.execWinHandover s
  | .winRetireHandover => Sys2Proof.Machine.execWinRetireHandover s
  | .slotWriteBlocked m addr data => Sys2Proof.Machine.execSlotWriteBlocked m addr data s
  | .winDmaGo m c v => Sys2Proof.Machine.execWinDmaGo m c v s
  | .winDmaEnd c error => Sys2Proof.Machine.execWinDmaEnd c error s
  | .winDmaTimeout c => Sys2Proof.Machine.execWinDmaTimeout c s
  | .cvuStart m u v => Sys2Proof.Machine.execCvuStart m u v s
  | .cvuScanEnd u error => Sys2Proof.Machine.execCvuScanEnd u error s
  | .cvuPeriod u => Sys2Proof.Machine.execCvuPeriod u s
  | .cvuStop m u v => Sys2Proof.Machine.execCvuStop m u v s
  | .pairEnable m v => Sys2Proof.Machine.execPairEnable m v s
  | .pairHelloSend => Sys2Proof.Machine.execPairHelloSend s
  | .pairHelloRx data => Sys2Proof.Machine.execPairHelloRx data s
  | .roleDecision => Sys2Proof.Machine.execRoleDecision s
  | .pairProbe rtt => Sys2Proof.Machine.execPairProbe rtt s
  | .beatRx data => Sys2Proof.Machine.execBeatRx data s
  | .pairCrcRx data => Sys2Proof.Machine.execPairCrcRx data s
  | .regMirrorRx data => Sys2Proof.Machine.execRegMirrorRx data s
  | .commitMirrorRx data => Sys2Proof.Machine.execCommitMirrorRx data s
  | .pairThermRx data => Sys2Proof.Machine.execPairThermRx data s
  | .pairZlimRx data => Sys2Proof.Machine.execPairZlimRx data s
  | .pairHlthRx data => Sys2Proof.Machine.execPairHlthRx data s
  | .pairMaskRx data => Sys2Proof.Machine.execPairMaskRx data s
  | .pairStateRx data => Sys2Proof.Machine.execPairStateRx data s
  | .pairSlotGo m v => Sys2Proof.Machine.execPairSlotGo m v s
  | .pairSlotRx data => Sys2Proof.Machine.execPairSlotRx data s
  | .pairSlotEndRx data => Sys2Proof.Machine.execPairSlotEndRx data s
  | .pairDump m v => Sys2Proof.Machine.execPairDump m v s
  | .pairMsgRx data => Sys2Proof.Machine.execPairMsgRx data s
  | .pairSilenceTimeout => Sys2Proof.Machine.execPairSilenceTimeout s
  | .pwrRequest m v => Sys2Proof.Machine.execPwrRequest m v s
  | .pwrQuiesceDone => Sys2Proof.Machine.execPwrQuiesceDone s
  | .powerDownDone => Sys2Proof.Machine.execPowerDownDone s
  | .wakeStepReady d => Sys2Proof.Machine.execWakeStepReady d s
  | .wakeStepTimeout d => Sys2Proof.Machine.execWakeStepTimeout d s
  | .pgoodFall k transfers => Sys2Proof.Machine.execPgoodFall k transfers s
  | .vmonExcursion brownOut => Sys2Proof.Machine.execVmonExcursion brownOut s
  | .standbyRequest m v => Sys2Proof.Machine.execStandbyRequest m v s
  | .standbyEntry => Sys2Proof.Machine.execStandbyEntry s
  | .wakePinEdge k rising => Sys2Proof.Machine.execWakePinEdge k rising s
  | .coldStart => Sys2Proof.Machine.execColdStart s
  | .powerOnReset => Sys2Proof.Machine.execPowerOnReset s
  | .poresetN => Sys2Proof.Machine.execPoresetN s
  | .sysresetN => Sys2Proof.Machine.execSysresetN s
  | .softwareReset m v => Sys2Proof.Machine.execSoftwareReset m v s
  | .chipReset => Sys2Proof.Machine.execChipReset s
  | .memoryWipeDone => Sys2Proof.Machine.execMemoryWipeDone s
  | .blockReset m v cut => Sys2Proof.Machine.execBlockReset m v cut s
  | .swdtEnable m v => Sys2Proof.Machine.execSwdtEnable m v s
  | .swdtKick m v => Sys2Proof.Machine.execSwdtKick m v s
  | .swdtHalf => Sys2Proof.Machine.execSwdtHalf s
  | .swdtTimeout => Sys2Proof.Machine.execSwdtTimeout s
  | .swdtForcedReset => Sys2Proof.Machine.execSwdtForcedReset s
  | .clockMonitor => Sys2Proof.Machine.execClockMonitor s
  | .systemPllLoss => Sys2Proof.Machine.execSystemPllLoss s
  | .xtalFail => Sys2Proof.Machine.execXtalFail s
  | .closedCrossingAccess m addr acc => Sys2Proof.Machine.execClosedCrossingAccess m addr acc s
  | .clkoutSelect m v => Sys2Proof.Machine.execClkoutSelect m v s
  | .bootRom keysOk flash => Sys2Proof.Machine.execBootRom keysOk flash s
  | .svnWrite m v => Sys2Proof.Machine.execSvnWrite m v s
  | .lcRequest m v cut => Sys2Proof.Machine.execLcRequest m v cut s
  | .lcFuseRecheck fuses => Sys2Proof.Machine.execLcFuseRecheck fuses s
  | .debugOpenReq m v => Sys2Proof.Machine.execDebugOpenReq m v s
  | .debugClose m v => Sys2Proof.Machine.execDebugClose m v s
  | .cryptoSha256 m v => Sys2Proof.Machine.execCryptoSha256 m v s
  | .cryptoSign m v => Sys2Proof.Machine.execCryptoSign m v s
  | .cryptoVerify m v => Sys2Proof.Machine.execCryptoVerify m v s
  | .cryptoRngFill m v => Sys2Proof.Machine.execCryptoRngFill m v s
  | .cryptoOpDone => Sys2Proof.Machine.execCryptoOpDone s
  | .smkeyStore m v => Sys2Proof.Machine.execSmkeyStore m v s
  | .trngHealthFail => Sys2Proof.Machine.execTrngHealthFail s
  | .laneLockTimeout j => Sys2Proof.Machine.execLaneLockTimeout j s
  | .prbsCheckerSync j bits => Sys2Proof.Machine.execPrbsCheckerSync j bits s
  | .prbsBitError j bits => Sys2Proof.Machine.execPrbsBitError j bits s
  | .partnerLanePacketError blocks => Sys2Proof.Machine.execPartnerLanePacketError blocks s
  | .pairStateSend => Sys2Proof.Machine.execPairStateSend s
  | .upstreamIdleRx p data => Sys2Proof.Machine.execUpstreamIdleRx p data s
  | .uartTxEmpty u left => Sys2Proof.Machine.execUartTxEmpty u left s
  | .ppsFall => Sys2Proof.Machine.execPpsFall s
  | .cuePulseEnd k => Sys2Proof.Machine.execCuePulseEnd k s
  | .wakeStepRestart d => Sys2Proof.Machine.execWakeStepRestart d s

end Sys2Proof.Machine
end

