-- ==== Sys2Proof/Machine/Tick.lean ====
section
/-! DEFINITION. What one 2.5 ns tick of the 400 MHz clock does when no command waits (spec/13_network_time.md R305; log entry 3). -/

namespace Sys2Proof.Machine

/-- The clock count and the enabled time domains advance (R305), and REG entries that PAIR has queued leave (spec/18 R421, R425); nothing else
happens in a tick. -/
def tick (s : State) : State :=
  let t := ((s.tdTick 0).tdTick 1).pairFlush
  { t with now := t.now + 1 }

end Sys2Proof.Machine
end

