-- ==== Sys2Proof/Safety.lean ====
section
/-! DEFINITION. What claims are stated with: the canonical forms that every step keeps, and how two states differ at most. -/

namespace Sys2Proof.Machine

/-- The register file, the live copies and memory are in their canonical forms: equal contents are equal data. -/
def State.wf (s : State) : Bool := s.regs.wf && s.live.wf && s.mem.wf s.dramGen

/-- Address `b` lies in the on-chip memory of domain `d`: the bank of SB`k` (13 + `k`), or the SRAM of an engine that the domain holds. -/
def memOf (d b : Nat) : Bool :=
  if 13 ≤ d then decide (0x10000000 + (d - 13) * 0x80000 ≤ b ∧ b < 0x10000000 + (d - 12) * 0x80000)
  else (List.range 16).any fun e => decide (engDomain e = d ∧ 0x04000000 + e * 0x20000 ≤ b ∧ b < 0x04000000 + (e + 1) * 0x20000)

/-- What a state is made of beside the register file, the clock and the queue. -/
inductive Zone where
  | part | sa | layer | maskin | ft | tl | lane | hlth | lsc | thm | cal | time | net | safe | flt | evc | peri | cvu | memc | win | pair
  | pwr | ident
  /-- the live copies of C fields -/
  | live
  /-- memory, and how often DRAM has lost its content -/
  | mem
  /-- the count of free values drawn -/
  | free
deriving DecidableEq, Repr

/-- Two states agree in a zone. -/
def State.sameIn (z : Zone) (s t : State) : Prop :=
  match z with
  | .part => t.part = s.part
  | .sa => t.sa = s.sa
  | .layer => t.layer = s.layer
  | .maskin => t.maskin = s.maskin
  | .ft => t.ft = s.ft
  | .tl => t.tl = s.tl
  | .lane => t.lane = s.lane
  | .hlth => t.hlth = s.hlth
  | .lsc => t.lsc = s.lsc
  | .thm => t.thm = s.thm
  | .cal => t.cal = s.cal
  | .time => t.time = s.time
  | .net => t.net = s.net
  | .safe => t.safe = s.safe
  | .flt => t.flt = s.flt
  | .evc => t.evc = s.evc
  | .peri => t.peri = s.peri
  | .cvu => t.cvu = s.cvu
  | .memc => t.memc = s.memc
  | .win => t.win = s.win
  | .pair => t.pair = s.pair
  | .pwr => t.pwr = s.pwr
  | .ident => t.ident = s.ident
  | .live => t.live = s.live
  | .mem => t.mem = s.mem ∧ t.dramGen = s.dramGen
  | .free => t.freeCtr = s.freeCtr

/-! Sets of register fields, by the key `Fld.key` of a field: 32 times its register's address plus its lowest bit. -/

/-- The keys from `first` to `last` that lie at most `wide` above a multiple of `step` from `first`. -/
structure Keys where
  first : Nat
  last : Nat
  step : Nat
  wide : Nat
deriving DecidableEq, Repr

/-- The set holds the key. -/
def Keys.has (x : Keys) (k : Nat) : Bool := decide (x.first ≤ k) && (decide (k ≤ x.last) && decide ((k - x.first) % x.step ≤ x.wide))

/-- One field. -/
def Keys.one (f : Fld) : Keys := ⟨f.key, f.key, 1, 0⟩
/-- An array of `n` fields at equal distances. -/
def Keys.arr (f : Nat → Fld) (n : Nat) : Keys :=
  ⟨(f 0).key, (f (n - 1)).key, (List.range n).foldl (fun g i => Nat.gcd g ((f i).key - (f 0).key)) 0, 0⟩
/-- `m` arrays of `n` fields each, at equal distances, with whatever lies between the fields of one array. -/
def Keys.arr2 (f : Nat → Nat → Fld) (m n : Nat) : Keys :=
  ⟨(f 0 0).key, (f (m - 1) (n - 1)).key, (f 1 0).key - (f 0 0).key, (f 0 (n - 1)).key - (f 0 0).key⟩
/-- Every field of `n` registers, `stride` apart. -/
def Keys.words (addr stride n : Nat) : Keys := ⟨addr * 32, (addr + stride * (n - 1)) * 32 + 31, stride * 32, 31⟩
/-- Every field of the registers from `lo` to `hi`. -/
def Keys.span (lo hi : Nat) : Keys := ⟨lo * 32, hi * 32 + 31, 1, 0⟩

/-- `t` differs from `s` at most in the register fields of `ks` and in the zones `zs`; clock and queue are as they were. -/
structure State.Within (ks : List Keys) (zs : List Zone) (s t : State) : Prop where
  regs : ∀ f : Fld, f.addr < 2 ^ 32 → f.lo < 32 → (∀ x ∈ ks, x.has f.key = false) → t.rd f = s.rd f
  zones : ∀ z, z ∉ zs → State.sameIn z s t
  now : t.now = s.now
  pending : t.pending = s.pending

/-- A write by master `m` reaches the register at `addr`: its domain is ON, the master may write it, and nothing locks it
(spec/19_power_clocks_reset.md R455, spec/17_memory_window.md R416, spec/00_scope.md R4). -/
abbrev State.accepts (s : State) (m : Master) (addr : Nat) : Prop :=
  s.domOpen (blockDomain addr) = true ∧ s.mayWrite m addr = true ∧ s.lockedReg addr = false

/-- What an accepted write of `v` leaves before its command's effect: the fields of the word that no command writes are stored, and the
write is mirrored (spec/00_scope.md R3 to R5, spec/18_pair.md R425). -/
def State.stored (s : State) (m : Master) (addr : Nat) (v : Word) : State := (s.storeWord m addr v.toNat).mirror addr v.toNat

/-- A counter field `n` higher, and no higher than its largest value. -/
def State.counted (s : State) (f : Fld) (n : Nat := 1) : Nat := min (s.rd f + n) (2 ^ f.width - 1)

/-- Event `n` is pending (spec/16_engines_events.md R375). -/
abbrev State.fired (s : State) (n : Nat) : Prop := s.on (Reg.EVC_PEND n) = true

/-- An occurrence of fault source `src` waits for its record (spec/15_faults.md R350). -/
def State.hasRaised (s : State) (src : Nat) : Prop := ∃ o ∈ s.flt.raised, o.src = src

/-- The command answers a next state, of which `P` holds. -/
def Answers (c : Instr) (s : State) (P : State → Prop) : Prop := ∃ t, exec c s = .next t ∧ P t

end Sys2Proof.Machine
end

