-- ==== Sys2Proof/Footprint.lean ====
section
/-! DEFINITION. What each command may change at most, the register that a written command writes, and the bit that starts it. -/

namespace Sys2Proof.Machine

/-- What an event source that fires may change: its pending bit, wfi of its target, and a wake of the target's domain (spec/16_engines_events.md
R375, R382, spec/19_power_clocks_reset.md R440, R441). -/
def eventKeys : List Keys :=
  [Keys.one Reg.PWRCTL_STATUS_BUSY, Keys.one Reg.PWRCTL_RAIL_EN, Keys.arr Reg.EVC_ENG_STATE_WFI 16,
   Keys.one Reg.PWRCTL_STATUS_SLEEP_ABORT, Keys.one Reg.PWRCTL_REQ_GO, Keys.arr Reg.EVC_PEND 128]
def eventZones : List Zone := [.pwr, .flt, .evc]

/-- The same with what a refused register write may change: the crossing bit, the count of hits on a fenced bank, and the mirrored entry of
an accepted one (spec/19_power_clocks_reset.md R455, spec/15_faults.md R359, spec/18_pair.md R425). -/
def busKeys : List Keys := eventKeys ++ [Keys.arr Reg.PWRCTL_XING 32, Keys.one Reg.FLT_FENCE_HIT_COUNT]
def busZones : List Zone := eventZones ++ [.pair]

def allZones : List Zone :=
  [.part, .sa, .layer, .maskin, .ft, .tl, .lane, .hlth, .lsc, .thm, .cal, .time, .net, .safe, .flt, .evc, .peri, .cvu, .memc, .win,
   .pair, .pwr, .ident, .live, .mem, .free]

/-- The register fields and the zones that a command may change at most. Every other field and zone is as it was, whatever the command does. -/
def footprint : Instr → List Keys × List Zone
  | .registerWrite _ _ _ _ =>
    ([Keys.span 0 0xFFFFFFFF],
     [.evc, .pwr, .flt, .cal, .ident, .pair, .win, .layer, .lsc, .free, .thm, .time, .lane, .peri, .mem, .memc])
  | .commitGuard =>
    (busKeys ++
     [Keys.one Reg.LAYER_COMMIT_ERR_LAYER, Keys.one Reg.LAYER_COMMIT_ERR_CODE, Keys.one Reg.LAYER_CTRL_COMMIT,
      Keys.arr Reg.LAYER_L_WARP_STATUS_CHK_CODE 8, Keys.arr Reg.LAYER_STATUS_ARMED 8, Keys.one Reg.SA_COMMIT_ERR_CODE,
      Keys.one Reg.SA_CTRL_COMMIT, Keys.one Reg.SA_QUAD_NEED_INACTIVE, Keys.one Reg.SA_QUAD_NEED_ACTIVE, Keys.one Reg.SA_STATUS_MODE,
      Keys.one Reg.SA_STATUS_PROFILE, Keys.arr Reg.LAYER_L_WARP_STATUS_BUF_ROWS 8, Keys.arr Reg.LAYER_L_WARP_STATUS_FILTER 8,
      Keys.one Reg.SA_STATUS_SWITCH_PEND, Keys.one Reg.SA_STATUS_ACTIVE_BANK, Keys.arr Reg.LAYER_L_WARP_STATUS_CHK_BUSY 8,
      Keys.arr Reg.LAYER_L_WARP_STATUS_CHECKED 8, Keys.arr Reg.LAYER_L_SPAN_MAX_SPAN 8, Keys.arr Reg.LANE_STATUS_RATE 15,
      Keys.arr Reg.LANE_STATUS_BLOCK_LOCK 15] ++
     [Keys.arr Reg.LANE_STATUS_CDR_LOCK 15, Keys.arr Reg.LANE_STATUS_STATE 15, Keys.arr Reg.TL_STATUS_STATE 12,
      Keys.arr Reg.THM_ZLIM_ZLIM 192, Keys.arr Reg.HLTH_ZONE_FAIL 192, Keys.arr Reg.HLTH_CNT_DEAD_DEAD 12,
      Keys.one Reg.FT_COMMIT_ERR_CODE, Keys.one Reg.FT_CTRL_COMMIT, Keys.one Reg.HLTH_COMMIT_ERR_CODE, Keys.one Reg.HLTH_CTRL_COMMIT,
      Keys.one Reg.LSC_COMMIT_ERR_CODE, Keys.one Reg.LSC_CTRL_COMMIT],
     busZones ++ [.sa, .hlth, .lane, .layer, .tl, .free, .cal, .ft, .lsc])
  | .immediateCommitLive _ =>
    (busKeys ++
     [Keys.one Reg.SA_CTRL_COMMIT, Keys.one Reg.SA_DRV_STATUS_WB_VALID, Keys.arr Reg.LAYER_STATUS_ARMED 8,
      Keys.arr Reg.LAYER_L_DEFER_CONSEC 8, Keys.arr Reg.LAYER_STATUS_LIVE 8, Keys.one Reg.LAYER_CTRL_COMMIT,
      Keys.arr Reg.LAYER_L_DEFER_TOTAL 8, Keys.arr Reg.LAYER_STATUS_STALE 8, Keys.one Reg.FT_CNT1_REINDEX,
      Keys.one Reg.LAYER_COMMIT_ERR_LAYER, Keys.one Reg.LAYER_COMMIT_ERR_CODE, Keys.arr Reg.LAYER_L_WARP_STATUS_CHK_CODE 8,
      Keys.one Reg.SA_COMMIT_ERR_CODE, Keys.one Reg.SA_QUAD_NEED_INACTIVE, Keys.one Reg.SA_QUAD_NEED_ACTIVE, Keys.one Reg.SA_STATUS_MODE,
      Keys.one Reg.SA_STATUS_PROFILE, Keys.arr Reg.LAYER_L_WARP_STATUS_BUF_ROWS 8, Keys.arr Reg.LAYER_L_WARP_STATUS_FILTER 8,
      Keys.one Reg.SA_STATUS_SWITCH_PEND] ++
     [Keys.one Reg.SA_STATUS_ACTIVE_BANK, Keys.arr Reg.LAYER_L_WARP_STATUS_CHK_BUSY 8, Keys.arr Reg.LAYER_L_WARP_STATUS_CHECKED 8,
      Keys.arr Reg.LAYER_L_SPAN_MAX_SPAN 8, Keys.arr Reg.LANE_STATUS_RATE 15, Keys.arr Reg.LANE_STATUS_BLOCK_LOCK 15,
      Keys.arr Reg.LANE_STATUS_CDR_LOCK 15, Keys.arr Reg.LANE_STATUS_STATE 15, Keys.arr Reg.TL_STATUS_STATE 12,
      Keys.arr Reg.THM_ZLIM_ZLIM 192, Keys.arr Reg.HLTH_ZONE_FAIL 192, Keys.arr Reg.HLTH_CNT_DEAD_DEAD 12,
      Keys.one Reg.FT_COMMIT_ERR_CODE, Keys.one Reg.FT_CTRL_COMMIT, Keys.one Reg.HLTH_COMMIT_ERR_CODE, Keys.one Reg.HLTH_CTRL_COMMIT,
      Keys.one Reg.LSC_COMMIT_ERR_CODE, Keys.one Reg.LSC_CTRL_COMMIT, Keys.one Reg.LSC_STATUS_VMAX_HIT, Keys.one Reg.LSC_STATUS_RAMP] ++
     [Keys.one Reg.LSC_VSET_SET, Keys.one Reg.LSC_NEEDY_REQ, Keys.one Reg.LSC_NEEDY_ZONE, Keys.one Reg.LSC_VSET_TARGET,
      Keys.arr Reg.LSC_ZL 192],
     busZones ++ [.live, .sa, .free, .layer, .ft, .hlth, .lsc, .cal, .lane, .tl])
  | .boundaryFix =>
    (eventKeys ++
     [Keys.arr Reg.TL_LATDLY_DK 12, Keys.one Reg.LSC_CNT_LATE, Keys.one Reg.LSC_STATUS_RISE_LATE],
     eventZones ++ [.ft, .safe])
  | .latchDeparture _ =>
    (busKeys ++
     [Keys.arr Reg.LANE_CNT_PHASE_MISS 15, Keys.arr Reg.LANE_STATUS_PHASE_MISS 15, Keys.one Reg.SA_DRV_FRAME_FRAME_NO,
      Keys.arr Reg.SA_DRV_PCRC_CRC 12, Keys.arr Reg.SA_DRV_ZCODE 192, Keys.one Reg.SA_DRV_STATUS_WB_IDX,
      Keys.one Reg.SA_DRV_STATUS_WB_VALID, Keys.one Reg.WIN_STATUS_BLK_SLOT, Keys.one Reg.MEMC_ERR_CNT_CE,
      Keys.one Reg.MEMC_UE_ADDR_HI_ADDR, Keys.one Reg.MEMC_UE_ADDR_LO_ADDR, Keys.one Reg.MEMC_STATUS_ADDR_ERR,
      Keys.one Reg.MEMC_STATUS_UE, Keys.one Reg.PAIR_STATUS_IN_SYNC, Keys.one Reg.PAIR_STATUS_ARMED, Keys.one Reg.PAIR_STATUS_DIVERGE,
      Keys.arr Reg.PAIR_CMP_PORTS 12, Keys.one Reg.PAIR_CNT_DIVERGE],
     busZones ++ [.lane, .tl, .ft, .free, .mem, .memc])
  | .frameBoundary _ =>
    (busKeys ++
     [Keys.arr Reg.THM_ZLIM_ZLIM 192, Keys.arr Reg.TL_CNT1_ECHO_MISS 12, Keys.arr Reg.TL_STATUS_ECHO_ERR 12,
      Keys.arr Reg.LANE_STATUS_RATE 15, Keys.arr Reg.LANE_STATUS_BLOCK_LOCK 15, Keys.arr Reg.LANE_STATUS_CDR_LOCK 15,
      Keys.arr Reg.LANE_STATUS_STATE 15, Keys.arr Reg.TL_STATUS_STATE 12, Keys.one Reg.TIME_STATUS_STEP_PEND_A,
      Keys.one Reg.TIME_STATUS_STEP_PEND_B, Keys.arr Reg.TIME_D_CTRL_LOAD 2, Keys.arr Reg.TIME_D_CTRL_STEP 2,
      Keys.one Reg.TIME_STATUS_WERR, Keys.span 0x20080000 0x2008FFFF, Keys.span 0x20090000 0x2009FFFF, Keys.arr Reg.WIN_OWN 1024,
      Keys.one Reg.WIN_STATUS_BLK_SLOT, Keys.one Reg.MEMC_ERR_CNT_CE, Keys.one Reg.MEMC_UE_ADDR_HI_ADDR, Keys.one Reg.MEMC_UE_ADDR_LO_ADDR] ++
     [Keys.one Reg.MEMC_STATUS_ADDR_ERR, Keys.one Reg.MEMC_STATUS_UE, Keys.arr Reg.WIN_DMA_STATUS_ERR 4, Keys.arr Reg.WIN_DMA_CTRL_GO 4,
      Keys.one Reg.WIN_STATUS_XFER_CODE, Keys.one Reg.WIN_STATUS_PEND_RETIRE, Keys.span 0x20100000 0x2010FFFF,
      Keys.span 0x200A0000 0x200AFFFF, Keys.span 0x200E0000 0x200EFFFF, Keys.one Reg.SAFE_CAP_CAP_D, Keys.one Reg.SAFE_CAP_CAP_Z,
      Keys.span 0x200D0000 0x200DFFFF, Keys.one Reg.PAIR_OFFSET_NS, Keys.one Reg.PAIR_STATUS_IN_SYNC, Keys.one Reg.PAIR_STATUS_ARMED,
      Keys.one Reg.PAIR_STATUS_DIVERGE, Keys.arr Reg.PAIR_CMP_PORTS 12, Keys.one Reg.PAIR_CNT_DIVERGE, Keys.one Reg.MASKIN_STATUS_IN_USE,
      Keys.one Reg.MASKIN_STATUS_SAFE_ACTIVE] ++
     [Keys.one Reg.MASKIN_STATUS_HOLD_CNT],
     busZones ++ [.cal, .lsc, .free, .tl, .lane, .ft, .hlth, .thm, .safe, .time, .sa, .layer, .maskin, .mem, .memc, .win, .live])
  | .passADone _ =>
    (busKeys ++
     [Keys.one Reg.WIN_STATUS_BLK_SLOT, Keys.one Reg.MEMC_ERR_CNT_CE, Keys.one Reg.MEMC_UE_ADDR_HI_ADDR,
      Keys.one Reg.MEMC_UE_ADDR_LO_ADDR, Keys.one Reg.MEMC_STATUS_ADDR_ERR, Keys.one Reg.MEMC_STATUS_UE,
      Keys.one Reg.SA_DRV_STATUS_ZCAP_CNT, Keys.one Reg.SA_DRV_STATUS_FLOOR_CNT, Keys.one Reg.SA_DRV_SAT_SAT_PIX,
      Keys.one Reg.SA_KAL_STATUS_FAIL_CNT, Keys.one Reg.SA_KAL_STATUS_LAST_SEED, Keys.one Reg.SA_KAL_STATUS_A_FAIL,
      Keys.arr Reg.THM_ZLIM_ZLIM 192, Keys.one Reg.LSC_STATUS_VMAX_HIT, Keys.one Reg.LSC_STATUS_RAMP, Keys.one Reg.LSC_VSET_SET,
      Keys.one Reg.LSC_NEEDY_REQ, Keys.one Reg.LSC_NEEDY_ZONE, Keys.one Reg.LSC_VSET_TARGET, Keys.arr Reg.LSC_ZL 192] ++
     [Keys.one Reg.PAIR_STATUS_IN_SYNC, Keys.one Reg.PAIR_STATUS_ARMED, Keys.one Reg.PAIR_STATUS_DIVERGE, Keys.arr Reg.PAIR_CMP_PORTS 12,
      Keys.one Reg.PAIR_CNT_DIVERGE, Keys.one Reg.FT_ABORT_STATUS_LAST_CAUSE, Keys.one Reg.FT_ABORT_STATUS_CONSEC,
      Keys.one Reg.FT_STATUS_ABORT_LIM],
     busZones ++ [.free, .mem, .memc, .sa, .thm, .lane, .ft, .lsc])
  | .passAAbandon =>
    (eventKeys ++
     [Keys.one Reg.PAIR_STATUS_IN_SYNC, Keys.one Reg.PAIR_STATUS_ARMED, Keys.one Reg.PAIR_STATUS_DIVERGE, Keys.arr Reg.PAIR_CMP_PORTS 12,
      Keys.one Reg.PAIR_CNT_DIVERGE, Keys.one Reg.FT_ABORT_STATUS_LAST_CAUSE, Keys.one Reg.FT_ABORT_STATUS_CONSEC,
      Keys.one Reg.FT_STATUS_ABORT_LIM, Keys.one Reg.FT_CNT0_ABANDON, Keys.one Reg.FT_STATUS_ABANDON],
     eventZones ++ [.ft, .pair, .lane])
  | .nominalBoundaryPassed => (eventKeys ++ [Keys.one Reg.FT_STATUS_LATE], eventZones)
  | .lineSlotStart _ =>
    (busKeys ++
     [Keys.one Reg.FT_URG_CNT_COUNT, Keys.one Reg.FT_LINE_IN_BLANK, Keys.one Reg.FT_LINE_SLOT, Keys.one Reg.FT_UR_INFO_LINE,
      Keys.one Reg.FT_UR_INFO_PORT, Keys.one Reg.WIN_STATUS_BLK_SLOT, Keys.one Reg.MEMC_ERR_CNT_CE, Keys.one Reg.MEMC_UE_ADDR_HI_ADDR,
      Keys.one Reg.MEMC_UE_ADDR_LO_ADDR, Keys.one Reg.MEMC_STATUS_ADDR_ERR, Keys.one Reg.MEMC_STATUS_UE,
      Keys.one Reg.FT_ABORT_STATUS_LAST_CAUSE, Keys.one Reg.FT_ABORT_STATUS_CONSEC, Keys.one Reg.FT_STATUS_ABORT_LIM,
      Keys.one Reg.FT_STATUS_STREAMING, Keys.one Reg.PAIR_STATUS_IN_SYNC, Keys.one Reg.PAIR_STATUS_ARMED,
      Keys.one Reg.PAIR_STATUS_DIVERGE, Keys.arr Reg.PAIR_CMP_PORTS 12, Keys.one Reg.PAIR_CNT_DIVERGE] ++
     [Keys.arr Reg.THM_ZLIM_ZLIM 192, Keys.one Reg.LSC_STATUS_VMAX_HIT, Keys.one Reg.LSC_STATUS_RAMP, Keys.one Reg.LSC_VSET_SET,
      Keys.one Reg.LSC_NEEDY_REQ, Keys.one Reg.LSC_NEEDY_ZONE, Keys.one Reg.LSC_VSET_TARGET, Keys.arr Reg.LSC_ZL 192,
      Keys.one Reg.FT_CNT1_UR],
     busZones ++ [.ft, .free, .mem, .memc, .lane, .lsc, .tl])
  | .lineBufferWatermark _ _ => ([Keys.one Reg.FT_STATUS_URGENT, Keys.one Reg.FT_URG_CNT_COUNT], [.ft])
  | .startOfBlanking => (eventKeys, eventZones ++ [.tl, .lane])
  | .kalPassBCheck _ =>
    (busKeys ++
     [Keys.one Reg.WIN_STATUS_BLK_SLOT, Keys.one Reg.MEMC_ERR_CNT_CE, Keys.one Reg.MEMC_UE_ADDR_HI_ADDR,
      Keys.one Reg.MEMC_UE_ADDR_LO_ADDR, Keys.one Reg.MEMC_STATUS_ADDR_ERR, Keys.one Reg.MEMC_STATUS_UE,
      Keys.one Reg.FT_ABORT_STATUS_LAST_CAUSE, Keys.one Reg.FT_ABORT_STATUS_CONSEC, Keys.one Reg.FT_STATUS_ABORT_LIM,
      Keys.one Reg.FT_STATUS_STREAMING, Keys.one Reg.PAIR_STATUS_IN_SYNC, Keys.one Reg.PAIR_STATUS_ARMED,
      Keys.one Reg.PAIR_STATUS_DIVERGE, Keys.arr Reg.PAIR_CMP_PORTS 12, Keys.one Reg.PAIR_CNT_DIVERGE, Keys.arr Reg.THM_ZLIM_ZLIM 192,
      Keys.one Reg.LSC_STATUS_VMAX_HIT, Keys.one Reg.LSC_STATUS_RAMP, Keys.one Reg.LSC_VSET_SET, Keys.one Reg.LSC_NEEDY_REQ] ++
     [Keys.one Reg.LSC_NEEDY_ZONE, Keys.one Reg.LSC_VSET_TARGET, Keys.arr Reg.LSC_ZL 192, Keys.one Reg.SA_KAL_STATUS_FAIL_CNT,
      Keys.one Reg.SA_KAL_STATUS_LAST_SEED, Keys.one Reg.SA_KAL_STATUS_B_FAIL],
     busZones ++ [.sa, .ft, .free, .mem, .memc, .lane, .lsc])
  | .lineMatch => (eventKeys, eventZones ++ [.ft])
  | .ftEnable _ _ =>
    (busKeys ++
     [Keys.words 0x200A0000 1 1, Keys.one Reg.FT_STATUS_WERR, Keys.arr Reg.LANE_STATUS_RATE 15, Keys.arr Reg.LANE_STATUS_BLOCK_LOCK 15,
      Keys.arr Reg.LANE_STATUS_CDR_LOCK 15, Keys.arr Reg.LANE_STATUS_STATE 15, Keys.arr Reg.TL_STATUS_STATE 12,
      Keys.arr Reg.TL_TRAIN_ERR_CODE 12, Keys.one Reg.SA_STATUS_RUN, Keys.one Reg.FT_STATUS_RUN],
     busZones ++ [.ft, .lane, .tl])
  | .ftDisable _ _ => (busKeys ++ [Keys.words 0x200A0000 1 1, Keys.one Reg.FT_STATUS_WERR], busZones ++ [.ft])
  | .ftCommit _ _ =>
    (busKeys ++
     [Keys.words 0x200A0000 1 1, Keys.one Reg.FT_STATUS_WERR, Keys.one Reg.FT_COMMIT_ERR_CODE],
     busZones ++ [.ft, .lane])
  | .saEnable _ _ =>
    (busKeys ++
     [Keys.words 0x20080000 1 1, Keys.one Reg.SA_STATUS_WERR, Keys.arr Reg.LANE_STATUS_RATE 15, Keys.arr Reg.LANE_STATUS_BLOCK_LOCK 15,
      Keys.arr Reg.LANE_STATUS_CDR_LOCK 15, Keys.arr Reg.LANE_STATUS_STATE 15, Keys.arr Reg.TL_STATUS_STATE 12,
      Keys.one Reg.SA_STATUS_STOPPED],
     busZones ++ [.sa])
  | .saCommit _ _ =>
    (busKeys ++
     [Keys.words 0x20080000 1 1, Keys.one Reg.SA_STATUS_WERR, Keys.one Reg.SA_COMMIT_ERR_CODE, Keys.one Reg.SA_QUAD_NEED_INACTIVE,
      Keys.one Reg.SA_QUAD_NEED_ACTIVE, Keys.one Reg.SA_STATUS_MODE, Keys.one Reg.SA_STATUS_PROFILE,
      Keys.arr Reg.LAYER_L_WARP_STATUS_BUF_ROWS 8, Keys.arr Reg.LAYER_L_WARP_STATUS_FILTER 8, Keys.one Reg.SA_STATUS_SWITCH_PEND,
      Keys.one Reg.SA_STATUS_ACTIVE_BANK, Keys.arr Reg.LAYER_L_WARP_STATUS_CHK_BUSY 8, Keys.arr Reg.LAYER_L_WARP_STATUS_CHECKED 8,
      Keys.arr Reg.LAYER_L_WARP_STATUS_CHK_CODE 8, Keys.arr Reg.LAYER_L_SPAN_MAX_SPAN 8, Keys.arr Reg.LANE_STATUS_RATE 15,
      Keys.arr Reg.LANE_STATUS_BLOCK_LOCK 15, Keys.arr Reg.LANE_STATUS_CDR_LOCK 15, Keys.arr Reg.LANE_STATUS_STATE 15,
      Keys.arr Reg.TL_STATUS_STATE 12] ++
     [Keys.arr Reg.THM_ZLIM_ZLIM 192, Keys.arr Reg.HLTH_ZONE_FAIL 192, Keys.arr Reg.HLTH_CNT_DEAD_DEAD 12,
      Keys.one Reg.LAYER_COMMIT_ERR_LAYER, Keys.one Reg.LAYER_COMMIT_ERR_CODE, Keys.one Reg.LAYER_CTRL_COMMIT,
      Keys.arr Reg.LAYER_STATUS_ARMED 8],
     busZones ++ [.sa, .layer, .tl, .free, .hlth, .cal, .lane])
  | .saLoadStart _ _ =>
    (busKeys ++
     [Keys.words 0x20080018 1 1, Keys.one Reg.SA_STATUS_WERR, Keys.one Reg.SA_LOAD_STATUS_ERR, Keys.one Reg.SA_LOAD_STATUS_DONE,
      Keys.one Reg.SA_STATUS_LOAD_BUSY, Keys.one Reg.SA_LOAD_STATUS_BUSY, Keys.one Reg.SA_LOAD_STATUS_ERR_CODE,
      Keys.one Reg.SA_QUAD_NEED_INACTIVE, Keys.one Reg.SA_QUAD_NEED_ACTIVE, Keys.one Reg.SA_STATUS_MODE, Keys.one Reg.SA_STATUS_PROFILE,
      Keys.arr Reg.LAYER_L_WARP_STATUS_BUF_ROWS 8, Keys.arr Reg.LAYER_L_WARP_STATUS_FILTER 8, Keys.one Reg.SA_LOAD_STATUS_ERR_SECTION,
      Keys.one Reg.SA_IMAGE_ID_A_IMAGE_ID, Keys.one Reg.SA_IMAGE_ID_B_IMAGE_ID, Keys.one Reg.SA_STATUS_VALID_A,
      Keys.one Reg.SA_STATUS_VALID_B],
     busZones ++ [.sa])
  | .saLoadAbort _ _ =>
    (busKeys ++
     [Keys.words 0x20080018 1 1, Keys.one Reg.SA_STATUS_WERR, Keys.one Reg.SA_STATUS_LOAD_BUSY, Keys.one Reg.SA_LOAD_STATUS_BUSY,
      Keys.one Reg.SA_LOAD_STATUS_ERR_CODE, Keys.one Reg.SA_LOAD_STATUS_ERR, Keys.one Reg.SA_LOAD_STATUS_DONE,
      Keys.one Reg.SA_QUAD_NEED_INACTIVE, Keys.one Reg.SA_QUAD_NEED_ACTIVE, Keys.one Reg.SA_STATUS_MODE, Keys.one Reg.SA_STATUS_PROFILE,
      Keys.arr Reg.LAYER_L_WARP_STATUS_BUF_ROWS 8, Keys.arr Reg.LAYER_L_WARP_STATUS_FILTER 8, Keys.one Reg.SA_LOAD_STATUS_ERR_SECTION],
     busZones ++ [.sa])
  | .saLoadEnd _ =>
    (eventKeys ++
     [Keys.one Reg.SA_STATUS_LOAD_BUSY, Keys.one Reg.SA_LOAD_STATUS_BUSY, Keys.one Reg.SA_LOAD_CTRL_START,
      Keys.one Reg.SA_LOAD_STATUS_ERR_CODE, Keys.one Reg.SA_LOAD_STATUS_ERR, Keys.one Reg.SA_LOAD_STATUS_DONE,
      Keys.one Reg.SA_QUAD_NEED_INACTIVE, Keys.one Reg.SA_QUAD_NEED_ACTIVE, Keys.one Reg.SA_STATUS_MODE, Keys.one Reg.SA_STATUS_PROFILE,
      Keys.arr Reg.LAYER_L_WARP_STATUS_BUF_ROWS 8, Keys.arr Reg.LAYER_L_WARP_STATUS_FILTER 8, Keys.one Reg.SA_LOAD_STATUS_ERR_SECTION,
      Keys.one Reg.SA_IMAGE_ID_A_IMAGE_ID, Keys.one Reg.SA_IMAGE_ID_B_IMAGE_ID, Keys.one Reg.SA_STATUS_VALID_A,
      Keys.one Reg.SA_STATUS_VALID_B, Keys.one Reg.SA_STATUS_SWITCH_PEND, Keys.one Reg.SA_STATUS_ACTIVE_BANK,
      Keys.arr Reg.LAYER_L_WARP_STATUS_CHK_BUSY 8] ++
     [Keys.arr Reg.LAYER_L_WARP_STATUS_CHECKED 8, Keys.arr Reg.LAYER_L_WARP_STATUS_CHK_CODE 8, Keys.arr Reg.LAYER_L_SPAN_MAX_SPAN 8,
      Keys.arr Reg.LANE_STATUS_RATE 15, Keys.arr Reg.LANE_STATUS_BLOCK_LOCK 15, Keys.arr Reg.LANE_STATUS_CDR_LOCK 15,
      Keys.arr Reg.LANE_STATUS_STATE 15, Keys.arr Reg.TL_STATUS_STATE 12, Keys.arr Reg.THM_ZLIM_ZLIM 192,
      Keys.arr Reg.HLTH_ZONE_FAIL 192, Keys.arr Reg.HLTH_CNT_DEAD_DEAD 12, Keys.one Reg.FLT_FENCE_HIT_COUNT, Keys.arr Reg.PWRCTL_XING 32,
      Keys.one Reg.LAYER_COMMIT_ERR_LAYER, Keys.one Reg.LAYER_COMMIT_ERR_CODE, Keys.one Reg.LAYER_CTRL_COMMIT,
      Keys.arr Reg.LAYER_STATUS_ARMED 8],
     eventZones ++ [.sa, .layer, .tl, .free, .hlth, .cal])
  | .saDiagStart _ _ =>
    (busKeys ++
     [Keys.words 0x20080040 1 1, Keys.one Reg.SA_STATUS_WERR, Keys.one Reg.SA_DIAG_STATUS_BUSY],
     busZones ++ [.layer, .sa, .free])
  | .saDiagDone _ =>
    (eventKeys ++
     [Keys.one Reg.SA_DIAG_STATUS_DONE, Keys.one Reg.SA_DIAG_STATUS_BUSY, Keys.one Reg.SA_DIAG_CTRL_START,
      Keys.one Reg.SA_DIAG_STATUS_PASS, Keys.one Reg.SA_DIAG_STATUS_FAIL_UNIT],
     eventZones ++ [.layer, .sa, .free])
  | .saEccDed _ _ _ =>
    (eventKeys ++
     [Keys.one Reg.SA_ECC_STATUS_CORR_CNT, Keys.one Reg.SA_ECC_STATUS_DED_CELL, Keys.one Reg.SA_ECC_STATUS_DED],
     eventZones ++ [.sa])
  | .saFenceSet _ _ _ =>
    (busKeys ++
     [Keys.one Reg.SA_STATUS_WERR, Keys.one Reg.SA_STATUS_SWITCH_PEND, Keys.one Reg.SA_QUAD_NEED_INACTIVE,
      Keys.one Reg.SA_QUAD_NEED_ACTIVE, Keys.one Reg.SA_STATUS_MODE, Keys.one Reg.SA_STATUS_PROFILE,
      Keys.arr Reg.LAYER_L_WARP_STATUS_BUF_ROWS 8, Keys.arr Reg.LAYER_L_WARP_STATUS_FILTER 8, Keys.one Reg.SA_STATUS_ACTIVE_BANK,
      Keys.arr Reg.LAYER_L_WARP_STATUS_CHK_BUSY 8, Keys.arr Reg.LAYER_L_WARP_STATUS_CHECKED 8,
      Keys.arr Reg.LAYER_L_WARP_STATUS_CHK_CODE 8, Keys.arr Reg.LAYER_L_SPAN_MAX_SPAN 8, Keys.arr Reg.LANE_STATUS_RATE 15,
      Keys.arr Reg.LANE_STATUS_BLOCK_LOCK 15, Keys.arr Reg.LANE_STATUS_CDR_LOCK 15, Keys.arr Reg.LANE_STATUS_STATE 15,
      Keys.arr Reg.TL_STATUS_STATE 12, Keys.arr Reg.THM_ZLIM_ZLIM 192, Keys.arr Reg.HLTH_ZONE_FAIL 192] ++
     [Keys.arr Reg.HLTH_CNT_DEAD_DEAD 12, Keys.one Reg.LAYER_COMMIT_ERR_LAYER, Keys.one Reg.LAYER_COMMIT_ERR_CODE,
      Keys.one Reg.LAYER_CTRL_COMMIT, Keys.arr Reg.LAYER_STATUS_ARMED 8, Keys.one Reg.SA_STATUS_RUN, Keys.one Reg.SA_CTRL_EN,
      Keys.one Reg.SA_STATUS_STOPPED, Keys.arr Reg.SA_FENCE 128],
     busZones ++ [.sa, .layer, .tl, .free, .hlth, .cal])
  | .layerEnable _ _ => (busKeys ++ [Keys.words 0x20090000 1 1, Keys.one Reg.LAYER_STATUS_WERR], busZones)
  | .layerCommit _ _ =>
    (busKeys ++
     [Keys.words 0x20090000 1 1, Keys.one Reg.LAYER_STATUS_WERR, Keys.one Reg.LAYER_COMMIT_ERR_LAYER, Keys.one Reg.LAYER_COMMIT_ERR_CODE,
      Keys.arr Reg.LAYER_L_WARP_STATUS_CHK_CODE 8, Keys.arr Reg.LAYER_STATUS_ARMED 8, Keys.arr Reg.LAYER_L_SPAN_MAX_SPAN 8,
      Keys.arr Reg.LAYER_L_WARP_STATUS_CHECKED 8],
     busZones ++ [.layer, .lane])
  | .scanoutAgentHandover =>
    (eventKeys ++
     [Keys.arr Reg.WIN_OWN 1024, Keys.one Reg.WIN_STATUS_BLK_SLOT, Keys.one Reg.MEMC_ERR_CNT_CE, Keys.one Reg.MEMC_UE_ADDR_HI_ADDR,
      Keys.one Reg.MEMC_UE_ADDR_LO_ADDR, Keys.one Reg.MEMC_STATUS_ADDR_ERR, Keys.one Reg.MEMC_STATUS_UE,
      Keys.one Reg.FLT_FENCE_HIT_COUNT, Keys.arr Reg.PWRCTL_XING 32, Keys.arr Reg.WIN_DMA_STATUS_ERR 4, Keys.arr Reg.WIN_DMA_CTRL_GO 4,
      Keys.one Reg.WIN_STATUS_XFER_CODE, Keys.one Reg.WIN_STATUS_PEND_RETIRE, Keys.one Reg.LAYER_COMMIT_ERR_LAYER,
      Keys.one Reg.LAYER_COMMIT_ERR_CODE, Keys.one Reg.LAYER_CTRL_COMMIT, Keys.arr Reg.LAYER_L_WARP_STATUS_CHK_CODE 8,
      Keys.arr Reg.LAYER_STATUS_ARMED 8],
     eventZones ++ [.free, .mem, .memc, .win, .layer, .sa])
  | .fetchError _ _ =>
    (eventKeys ++
     [Keys.one Reg.LAYER_STATUS_FETCH_ERR, Keys.one Reg.FLT_FENCE_HIT_COUNT, Keys.arr Reg.PWRCTL_XING 32],
     eventZones ++ [.ft])
  | .maskinEnable _ _ =>
    (busKeys ++
     [Keys.words 0x20180000 1 1, Keys.one Reg.MASKIN_STATUS_WERR, Keys.one Reg.MASKIN_STATUS_SAFE_ACTIVE,
      Keys.arr Reg.LAYER_STATUS_LIVE 8, Keys.one Reg.MASKIN_STATUS_HOLD_CNT, Keys.one Reg.MASKIN_STATUS_MASK_VALID,
      Keys.one Reg.MASKIN_STATUS_IN_FRAME],
     busZones ++ [.maskin])
  | .maskinFrameStart _ =>
    (busKeys ++
     [Keys.one Reg.MASKIN_ERR_ECC2, Keys.one Reg.MASKIN_ERR_VC, Keys.one Reg.MASKIN_ERR_DT, Keys.one Reg.MASKIN_ERR_SKIP,
      Keys.one Reg.MASKIN_STATUS_MASK_VALID, Keys.one Reg.MASKIN_CNT_FRAMES_OK, Keys.one Reg.MASKIN_CNT_FRAMES_BAD,
      Keys.one Reg.MASKIN_STATUS_IN_FRAME, Keys.one Reg.MASKIN_ERR_ORPHAN, Keys.one Reg.MASKIN_ERR_HEIGHT, Keys.one Reg.MASKIN_ERR_CRC,
      Keys.one Reg.MASKIN_ERR_LEN, Keys.one Reg.WIN_STATUS_BLK_SLOT, Keys.one Reg.MEMC_ERR_CNT_CE, Keys.one Reg.MEMC_UE_ADDR_HI_ADDR,
      Keys.one Reg.MEMC_UE_ADDR_LO_ADDR, Keys.one Reg.MEMC_STATUS_ADDR_ERR, Keys.one Reg.MEMC_STATUS_UE],
     busZones ++ [.maskin, .lane, .mem, .memc])
  | .maskinFrameEnd _ =>
    (busKeys ++
     [Keys.one Reg.MASKIN_ERR_ECC2, Keys.one Reg.MASKIN_ERR_VC, Keys.one Reg.MASKIN_ERR_DT, Keys.one Reg.MASKIN_ERR_SKIP,
      Keys.one Reg.MASKIN_STATUS_MASK_VALID, Keys.one Reg.MASKIN_CNT_FRAMES_OK, Keys.one Reg.MASKIN_CNT_FRAMES_BAD,
      Keys.one Reg.MASKIN_STATUS_IN_FRAME, Keys.one Reg.MASKIN_ERR_ORPHAN, Keys.one Reg.MASKIN_ERR_HEIGHT, Keys.one Reg.MASKIN_ERR_CRC,
      Keys.one Reg.MASKIN_ERR_LEN, Keys.one Reg.WIN_STATUS_BLK_SLOT, Keys.one Reg.MEMC_ERR_CNT_CE, Keys.one Reg.MEMC_UE_ADDR_HI_ADDR,
      Keys.one Reg.MEMC_UE_ADDR_LO_ADDR, Keys.one Reg.MEMC_STATUS_ADDR_ERR, Keys.one Reg.MEMC_STATUS_UE],
     busZones ++ [.maskin, .lane, .mem, .memc])
  | .maskinLongPacket _ _ _ =>
    (busKeys ++
     [Keys.one Reg.MASKIN_ERR_ECC2, Keys.one Reg.MASKIN_ERR_VC, Keys.one Reg.MASKIN_ERR_DT, Keys.one Reg.MASKIN_ERR_SKIP,
      Keys.one Reg.MASKIN_STATUS_MASK_VALID, Keys.one Reg.MASKIN_CNT_FRAMES_OK, Keys.one Reg.MASKIN_CNT_FRAMES_BAD,
      Keys.one Reg.MASKIN_STATUS_IN_FRAME, Keys.one Reg.MASKIN_ERR_ORPHAN, Keys.one Reg.MASKIN_ERR_HEIGHT, Keys.one Reg.MASKIN_ERR_CRC,
      Keys.one Reg.MASKIN_ERR_LEN, Keys.one Reg.WIN_STATUS_BLK_SLOT, Keys.one Reg.MEMC_ERR_CNT_CE, Keys.one Reg.MEMC_UE_ADDR_HI_ADDR,
      Keys.one Reg.MEMC_UE_ADDR_LO_ADDR, Keys.one Reg.MEMC_STATUS_ADDR_ERR, Keys.one Reg.MEMC_STATUS_UE],
     busZones ++ [.maskin, .lane, .mem, .memc])
  | .maskinShortPacket _ =>
    (busKeys ++
     [Keys.one Reg.MASKIN_ERR_ECC2, Keys.one Reg.MASKIN_ERR_VC, Keys.one Reg.MASKIN_ERR_DT, Keys.one Reg.MASKIN_ERR_SKIP,
      Keys.one Reg.MASKIN_STATUS_MASK_VALID, Keys.one Reg.MASKIN_CNT_FRAMES_OK, Keys.one Reg.MASKIN_CNT_FRAMES_BAD,
      Keys.one Reg.MASKIN_STATUS_IN_FRAME, Keys.one Reg.MASKIN_ERR_ORPHAN, Keys.one Reg.MASKIN_ERR_HEIGHT, Keys.one Reg.MASKIN_ERR_CRC,
      Keys.one Reg.MASKIN_ERR_LEN, Keys.one Reg.WIN_STATUS_BLK_SLOT, Keys.one Reg.MEMC_ERR_CNT_CE, Keys.one Reg.MEMC_UE_ADDR_HI_ADDR,
      Keys.one Reg.MEMC_UE_ADDR_LO_ADDR, Keys.one Reg.MEMC_STATUS_ADDR_ERR, Keys.one Reg.MEMC_STATUS_UE],
     busZones ++ [.maskin, .lane, .mem, .memc])
  | .maskinHeaderEccError => ([Keys.one Reg.MASKIN_ERR_ECC2], [.maskin])
  | .maskinOtherPacket _ =>
    (busKeys ++
     [Keys.one Reg.MASKIN_ERR_ECC2, Keys.one Reg.MASKIN_ERR_VC, Keys.one Reg.MASKIN_ERR_DT, Keys.one Reg.MASKIN_ERR_SKIP,
      Keys.one Reg.MASKIN_STATUS_MASK_VALID, Keys.one Reg.MASKIN_CNT_FRAMES_OK, Keys.one Reg.MASKIN_CNT_FRAMES_BAD,
      Keys.one Reg.MASKIN_STATUS_IN_FRAME, Keys.one Reg.MASKIN_ERR_ORPHAN, Keys.one Reg.MASKIN_ERR_HEIGHT, Keys.one Reg.MASKIN_ERR_CRC,
      Keys.one Reg.MASKIN_ERR_LEN, Keys.one Reg.WIN_STATUS_BLK_SLOT, Keys.one Reg.MEMC_ERR_CNT_CE, Keys.one Reg.MEMC_UE_ADDR_HI_ADDR,
      Keys.one Reg.MEMC_UE_ADDR_LO_ADDR, Keys.one Reg.MEMC_STATUS_ADDR_ERR, Keys.one Reg.MEMC_STATUS_UE],
     busZones ++ [.maskin, .lane, .mem, .memc])
  | .maskComplete => ([Keys.one Reg.MASKIN_ERR_SKIP, Keys.one Reg.MASKIN_STATUS_MASK_VALID, Keys.one Reg.MASKIN_CNT_FRAMES_OK], [.maskin])
  | .maskinLineTimeout =>
    (eventKeys ++
     [Keys.one Reg.MASKIN_CNT_FRAMES_BAD, Keys.one Reg.MASKIN_STATUS_IN_FRAME, Keys.one Reg.MASKIN_ERR_TIMEOUT],
     eventZones)
  | .protectedRegionWrite _ _ _ =>
    (eventKeys ++
     [Keys.one Reg.FLT_FENCE_HIT_COUNT, Keys.one Reg.WIN_STATUS_BLK_SLOT, Keys.one Reg.MEMC_ERR_CNT_CE,
      Keys.one Reg.MEMC_UE_ADDR_HI_ADDR, Keys.one Reg.MEMC_UE_ADDR_LO_ADDR, Keys.one Reg.MEMC_STATUS_ADDR_ERR,
      Keys.one Reg.MEMC_STATUS_UE, Keys.arr Reg.PWRCTL_XING 32],
     eventZones ++ [.mem, .memc])
  | .spanCheckStart => ([Keys.arr Reg.LAYER_L_WARP_STATUS_CHK_BUSY 8], [.layer])
  | .spanCheckDone _ =>
    (eventKeys ++
     [Keys.arr Reg.LAYER_L_WARP_STATUS_CHK_BUSY 8, Keys.one Reg.FLT_FENCE_HIT_COUNT, Keys.arr Reg.PWRCTL_XING 32,
      Keys.arr Reg.LAYER_L_SPAN_FAIL_LINE 8, Keys.arr Reg.LAYER_L_SPAN_FAIL_TILE 8, Keys.arr Reg.LAYER_L_SPAN_MAX_SPAN 8,
      Keys.arr Reg.LAYER_L_WARP_STATUS_SPAN_ERR 8, Keys.arr Reg.LAYER_L_WARP_STATUS_CHK_CODE 8, Keys.arr Reg.LAYER_STATUS_ARMED 8,
      Keys.arr Reg.LAYER_L_WARP_STATUS_CHECKED 8, Keys.one Reg.LAYER_COMMIT_ERR_LAYER, Keys.one Reg.LAYER_COMMIT_ERR_CODE,
      Keys.one Reg.LAYER_CTRL_COMMIT],
     eventZones ++ [.layer])
  | .warpTapClamp _ _ => ([Keys.arr Reg.LAYER_L_CLAMP_CNT_COUNT 8], [.flt, .layer])
  | .driveReadError _ _ =>
    (busKeys ++
     [Keys.one Reg.WIN_STATUS_BLK_SLOT, Keys.one Reg.MEMC_ERR_CNT_CE, Keys.one Reg.MEMC_UE_ADDR_HI_ADDR,
      Keys.one Reg.MEMC_UE_ADDR_LO_ADDR, Keys.one Reg.MEMC_STATUS_ADDR_ERR, Keys.one Reg.MEMC_STATUS_UE,
      Keys.one Reg.FT_ABORT_STATUS_LAST_CAUSE, Keys.one Reg.FT_ABORT_STATUS_CONSEC, Keys.one Reg.FT_STATUS_ABORT_LIM,
      Keys.one Reg.FT_STATUS_STREAMING, Keys.one Reg.PAIR_STATUS_IN_SYNC, Keys.one Reg.PAIR_STATUS_ARMED,
      Keys.one Reg.PAIR_STATUS_DIVERGE, Keys.arr Reg.PAIR_CMP_PORTS 12, Keys.one Reg.PAIR_CNT_DIVERGE, Keys.arr Reg.THM_ZLIM_ZLIM 192,
      Keys.one Reg.LSC_STATUS_VMAX_HIT, Keys.one Reg.LSC_STATUS_RAMP, Keys.one Reg.LSC_VSET_SET, Keys.one Reg.LSC_NEEDY_REQ] ++
     [Keys.one Reg.LSC_NEEDY_ZONE, Keys.one Reg.LSC_VSET_TARGET, Keys.arr Reg.LSC_ZL 192, Keys.one Reg.SA_DRV_STATUS_FETCH_ERR],
     busZones ++ [.ft, .free, .mem, .memc, .lane, .lsc])
  | .tlEnable _ _ _ =>
    (busKeys ++
     [Keys.words 0x200B0000 0x1000 12, Keys.arr Reg.TL_STATUS_WERR 12, Keys.arr Reg.LANE_STATUS_RATE 15,
      Keys.arr Reg.LANE_STATUS_BLOCK_LOCK 15, Keys.arr Reg.LANE_STATUS_CDR_LOCK 15, Keys.arr Reg.LANE_STATUS_STATE 15,
      Keys.arr Reg.TL_STATUS_STATE 12, Keys.arr Reg.TL_STATUS_RATE 12, Keys.arr Reg.TL_STATUS_VER 12, Keys.arr Reg.TL_CNT2_RETRAIN 12],
     busZones ++ [.tl])
  | .tlRetrain _ _ _ =>
    (busKeys ++
     [Keys.words 0x200B0000 0x1000 12, Keys.arr Reg.TL_STATUS_WERR 12, Keys.arr Reg.LANE_STATUS_RATE 15,
      Keys.arr Reg.LANE_STATUS_BLOCK_LOCK 15, Keys.arr Reg.LANE_STATUS_CDR_LOCK 15, Keys.arr Reg.LANE_STATUS_STATE 15,
      Keys.arr Reg.TL_STATUS_STATE 12, Keys.arr Reg.TL_STATUS_RATE 12, Keys.arr Reg.TL_STATUS_VER 12, Keys.arr Reg.TL_CNT2_RETRAIN 12],
     busZones ++ [.tl])
  | .trainingCapsSend _ => ([], [.lane, .tl])
  | .capsRx _ _ =>
    (eventKeys ++
     [Keys.arr Reg.TL_TRAIN_ERR_CODE 12, Keys.arr Reg.LANE_STATUS_RATE 15, Keys.arr Reg.LANE_STATUS_BLOCK_LOCK 15,
      Keys.arr Reg.LANE_STATUS_CDR_LOCK 15, Keys.arr Reg.LANE_STATUS_STATE 15, Keys.arr Reg.TL_STATUS_STATE 12,
      Keys.arr Reg.TL_CNT0_DROP 12, Keys.arr Reg.TL_STATUS_VER 12, Keys.arr Reg.TL_TILE_ID_VENDOR 12,
      Keys.arr Reg.TL_TILE_GEOM_HEIGHT 12, Keys.arr Reg.TL_TILE_GEOM_WIDTH 12, Keys.arr Reg.TL_TILE_TURN_PS 12,
      Keys.arr Reg.TL_TILE_LAT_PS 12, Keys.arr Reg.TL_TILE_ID_PRODUCT 12, Keys.arr Reg.TL_STATUS_HL_VALID 12,
      Keys.arr Reg.TL_HL_CRC_CRC 12],
     eventZones ++ [.tl])
  | .capsTimeout _ =>
    (eventKeys ++
     [Keys.arr Reg.TL_TRAIN_ERR_CODE 12, Keys.arr Reg.LANE_STATUS_RATE 15, Keys.arr Reg.LANE_STATUS_BLOCK_LOCK 15,
      Keys.arr Reg.LANE_STATUS_CDR_LOCK 15, Keys.arr Reg.LANE_STATUS_STATE 15, Keys.arr Reg.TL_STATUS_STATE 12],
     eventZones ++ [.tl])
  | .rateRelock _ _ =>
    (eventKeys ++
     [Keys.arr Reg.LANE_EYE_V 15, Keys.arr Reg.LANE_EYE_H 15, Keys.arr Reg.LANE_EYE_SCORE 15, Keys.arr Reg.LANE_STATUS_BLOCK_LOCK 15,
      Keys.arr Reg.LANE_STATUS_CDR_LOCK 15, Keys.arr Reg.TL_STATUS_RATE 12, Keys.arr Reg.LANE_STATUS_STATE 15,
      Keys.arr Reg.LANE_CTRL_ADAPT 15, Keys.arr Reg.LANE_STATUS_RATE 15, Keys.arr Reg.TL_TRAIN_ERR_CODE 12],
     eventZones ++ [.tl])
  | .latencyProbeSet _ _ =>
    (eventKeys ++
     [Keys.arr Reg.TL_RTT_RT 12, Keys.arr Reg.TL_LATDLY_DK 12, Keys.arr Reg.TL_TRAIN_ERR_CODE 12, Keys.arr Reg.LANE_STATUS_RATE 15,
      Keys.arr Reg.LANE_STATUS_BLOCK_LOCK 15, Keys.arr Reg.LANE_STATUS_CDR_LOCK 15, Keys.arr Reg.LANE_STATUS_STATE 15,
      Keys.arr Reg.TL_STATUS_STATE 12],
     eventZones ++ [.lane, .tl])
  | .periodicProbe _ _ => ([Keys.arr Reg.TL_RTT_RT 12], [.lane, .tl])
  | .configOkTimeout _ =>
    (eventKeys ++
     [Keys.arr Reg.TL_TRAIN_ERR_CODE 12, Keys.arr Reg.LANE_STATUS_RATE 15, Keys.arr Reg.LANE_STATUS_BLOCK_LOCK 15,
      Keys.arr Reg.LANE_STATUS_CDR_LOCK 15, Keys.arr Reg.LANE_STATUS_STATE 15, Keys.arr Reg.TL_STATUS_STATE 12],
     eventZones ++ [.tl])
  | .tlClaim _ _ _ => (busKeys ++ [Keys.words 0x200B0000 0x1000 12, Keys.arr Reg.TL_STATUS_WERR 12], busZones ++ [.lane, .tl])
  | .tlFence _ _ _ =>
    (busKeys ++
     [Keys.words 0x200B0000 0x1000 12, Keys.arr Reg.TL_STATUS_WERR 12, Keys.arr Reg.LANE_STATUS_RATE 15,
      Keys.arr Reg.LANE_STATUS_BLOCK_LOCK 15, Keys.arr Reg.LANE_STATUS_CDR_LOCK 15, Keys.arr Reg.LANE_STATUS_STATE 15,
      Keys.arr Reg.TL_STATUS_STATE 12, Keys.arr Reg.TL_STATUS_FENCED 12],
     busZones ++ [.tl])
  | .fbStart _ _ _ =>
    (busKeys ++
     [Keys.words 0x200B0000 0x1000 12, Keys.arr Reg.TL_STATUS_WERR 12, Keys.arr Reg.TL_STATUS_FB_ERR 12],
     busZones ++ [.lane, .tl])
  | .fbReplyRx _ _ =>
    (eventKeys ++
     [Keys.arr Reg.TL_CNT0_DROP 12, Keys.arr Reg.TL_HL_CRC_CRC 12, Keys.arr Reg.TL_STATUS_FB_DONE 12, Keys.arr Reg.TL_STATUS_FB_ERR 12,
      Keys.arr Reg.TL_CTRL_FB_START 12],
     eventZones ++ [.tl])
  | .fbTimeout _ =>
    (eventKeys ++
     [Keys.arr Reg.TL_STATUS_FB_DONE 12, Keys.arr Reg.TL_STATUS_FB_ERR 12, Keys.arr Reg.TL_CTRL_FB_START 12],
     eventZones ++ [.tl])
  | .healthRx _ _ =>
    (eventKeys ++
     [Keys.arr Reg.TL_CNT0_DROP 12, Keys.arr Reg.TL_CAP_ACK_SEQ 12, Keys.arr Reg.TL_HLTH_STAT_CAP_Z 12,
      Keys.arr Reg.TL_HLTH_STAT_STATUS 12, Keys.arr Reg.TL_HLTH_FRAME_FRAME_NO 12, Keys.arr Reg.TL_HLTH_STAT_CAP_SEQ 12,
      Keys.arr2 Reg.TL_HEADROOM 12 16, Keys.arr2 Reg.TL_TEMP 12 8, Keys.arr Reg.TL_STATUS_HL_VALID 12, Keys.arr Reg.TL_STATUS_HOUSE 12,
      Keys.arr Reg.TL_STATUS_OWNED 12, Keys.arr Reg.TL_CNT1_LATCH_MISS 12, Keys.arr Reg.TL_STATUS_ECHO_ERR 12,
      Keys.arr Reg.THM_ZLIM_ZLIM 192, Keys.one Reg.LSC_STATUS_VMAX_HIT, Keys.one Reg.LSC_STATUS_RAMP, Keys.one Reg.LSC_VSET_SET,
      Keys.one Reg.LSC_NEEDY_REQ, Keys.one Reg.LSC_NEEDY_ZONE, Keys.one Reg.LSC_VSET_TARGET] ++
     [Keys.arr Reg.LSC_ZL 192, Keys.arr Reg.LSC_OFS 192, Keys.one Reg.LSC_CNT_HR_LOW, Keys.one Reg.LSC_STATUS_HR_LOW,
      Keys.one Reg.THM_STATUS_SUSPECT, Keys.arr Reg.LANE_STATUS_RATE 15, Keys.arr Reg.LANE_STATUS_BLOCK_LOCK 15,
      Keys.arr Reg.LANE_STATUS_CDR_LOCK 15, Keys.arr Reg.LANE_STATUS_STATE 15, Keys.arr Reg.TL_STATUS_STATE 12],
     eventZones ++ [.tl, .cal, .lsc, .free, .thm, .lane])
  | .diagRetRx _ _ =>
    (eventKeys ++
     [Keys.arr Reg.TL_CNT0_DROP 12, Keys.one Reg.FLT_FENCE_HIT_COUNT, Keys.arr Reg.PWRCTL_XING 32, Keys.one Reg.HLTH_CNT_NOTMEAS,
      Keys.one Reg.WIN_STATUS_BLK_SLOT, Keys.one Reg.MEMC_ERR_CNT_CE, Keys.one Reg.MEMC_UE_ADDR_HI_ADDR,
      Keys.one Reg.MEMC_UE_ADDR_LO_ADDR, Keys.one Reg.MEMC_STATUS_ADDR_ERR, Keys.one Reg.MEMC_STATUS_UE,
      Keys.one Reg.HLTH_STATUS_BASE_ERR, Keys.one Reg.HLTH_STATUS_RPT_OVF, Keys.one Reg.HLTH_STATUS_RETEST_OVF,
      Keys.arr Reg.HLTH_ZONE_FAIL 192, Keys.one Reg.HLTH_STATUS_RETEST, Keys.one Reg.HLTH_STATUS_QUEUE, Keys.one Reg.HLTH_FORCE_GO,
      Keys.one Reg.HLTH_RPT0_VALID, Keys.one Reg.HLTH_RPT0_OLD, Keys.one Reg.HLTH_RPT0_TILE] ++
     [Keys.one Reg.HLTH_RPT0_Y, Keys.one Reg.HLTH_RPT0_X, Keys.one Reg.HLTH_RPT1_FRAME, Keys.one Reg.HLTH_RPT1_CODE,
      Keys.one Reg.HLTH_RPT0_NEW, Keys.one Reg.HLTH_CNT_MISS, Keys.one Reg.HLTH_STATUS_MISS],
     eventZones ++ [.hlth, .free, .mem, .memc])
  | .staleReplyRx _ _ =>
    (eventKeys ++
     [Keys.arr Reg.TL_CNT0_DROP 12, Keys.arr Reg.TL_CNT2_STALE 12, Keys.arr Reg.TL_STATUS_STALE 12, Keys.one Reg.PAIR_STATUS_LEAD,
      Keys.one Reg.HLTH_STATUS_RETEST, Keys.one Reg.HLTH_STATUS_QUEUE, Keys.one Reg.HLTH_FORCE_GO, Keys.one Reg.HLTH_RPT0_VALID,
      Keys.one Reg.HLTH_RPT0_OLD, Keys.one Reg.HLTH_RPT0_TILE, Keys.one Reg.HLTH_RPT0_Y, Keys.one Reg.HLTH_RPT0_X,
      Keys.one Reg.HLTH_RPT1_FRAME, Keys.one Reg.HLTH_RPT1_CODE, Keys.one Reg.HLTH_RPT0_NEW, Keys.one Reg.PAIR_STATUS_IN_SYNC,
      Keys.one Reg.PAIR_STATUS_ARMED, Keys.one Reg.LSC_CTRL_EN, Keys.one Reg.LSC_STATUS_STATE, Keys.arr Reg.THM_ZLIM_ZLIM 192] ++
     [Keys.one Reg.LSC_STATUS_VMAX_HIT, Keys.one Reg.LSC_STATUS_RAMP, Keys.one Reg.LSC_VSET_SET, Keys.one Reg.LSC_NEEDY_REQ,
      Keys.one Reg.LSC_NEEDY_ZONE, Keys.one Reg.LSC_VSET_TARGET, Keys.arr Reg.LSC_ZL 192],
     eventZones ++ [.pair, .hlth, .lane, .lsc, .free, .cal])
  | .capackTimeout _ => (eventKeys ++ [Keys.arr Reg.TL_STATUS_CAPACK_ERR 12], eventZones ++ [.tl])
  | .idleKeepalive _ => ([], [.lane, .tl])
  | .upstreamPacketError _ _ => ([Keys.arr Reg.TL_CNT0_DROP 12, Keys.arr Reg.TL_CNT0_CRC_ERR 12], [.tl, .flt])
  | .tlRxTimeout _ =>
    (eventKeys ++
     [Keys.arr Reg.LANE_STATUS_RATE 15, Keys.arr Reg.LANE_STATUS_BLOCK_LOCK 15, Keys.arr Reg.LANE_STATUS_CDR_LOCK 15,
      Keys.arr Reg.LANE_STATUS_STATE 15, Keys.arr Reg.TL_STATUS_STATE 12],
     eventZones ++ [.tl])
  | .autoRetrainTimer _ =>
    (eventKeys ++
     [Keys.arr Reg.LANE_STATUS_RATE 15, Keys.arr Reg.LANE_STATUS_BLOCK_LOCK 15, Keys.arr Reg.LANE_STATUS_CDR_LOCK 15,
      Keys.arr Reg.LANE_STATUS_STATE 15, Keys.arr Reg.TL_STATUS_STATE 12, Keys.arr Reg.TL_STATUS_RATE 12, Keys.arr Reg.TL_STATUS_VER 12,
      Keys.arr Reg.TL_CNT2_RETRAIN 12],
     eventZones ++ [.tl])
  | .laneIdleReq _ _ _ =>
    (busKeys ++
     [Keys.words 0x200C0000 0x100 15, Keys.arr Reg.LANE_STATUS_WERR 15, Keys.arr Reg.LANE_STATUS_RATE 15,
      Keys.arr Reg.LANE_STATUS_BLOCK_LOCK 15, Keys.arr Reg.LANE_STATUS_CDR_LOCK 15, Keys.arr Reg.LANE_STATUS_STATE 15],
     busZones)
  | .idleExit _ _ => (eventKeys ++ [Keys.arr Reg.LANE_STATUS_BLOCK_LOCK 15, Keys.arr Reg.LANE_STATUS_STATE 15], eventZones ++ [.lane])
  | .laneLockAcquired _ _ _ =>
    (eventKeys ++
     [Keys.arr Reg.LANE_EYE_V 15, Keys.arr Reg.LANE_EYE_H 15, Keys.arr Reg.LANE_EYE_SCORE 15, Keys.arr Reg.LANE_STATUS_BLOCK_LOCK 15,
      Keys.arr Reg.LANE_STATUS_CDR_LOCK 15, Keys.arr Reg.LANE_STATUS_STATE 15, Keys.arr Reg.LANE_CTRL_ADAPT 15],
     eventZones ++ [.tl])
  | .laneLockLoss _ _ =>
    (eventKeys ++
     [Keys.arr Reg.LANE_CNT_LOSS 15, Keys.arr Reg.LANE_STATUS_LOSS 15, Keys.arr Reg.LANE_STATUS_BLOCK_LOCK 15,
      Keys.arr Reg.LANE_STATUS_CDR_LOCK 15, Keys.arr Reg.LANE_STATUS_STATE 15, Keys.arr Reg.TL_TRAIN_ERR_CODE 12,
      Keys.arr Reg.LANE_STATUS_RATE 15, Keys.arr Reg.TL_STATUS_STATE 12],
     eventZones ++ [.tl])
  | .eyeWindowEnd _ _ _ _ =>
    (eventKeys ++
     [Keys.arr Reg.LANE_DFE_TAPS 15, Keys.arr Reg.LANE_EYE_V 15, Keys.arr Reg.LANE_EYE_H 15, Keys.arr Reg.LANE_EYE_SCORE 15,
      Keys.arr Reg.LANE_STATUS_STATE 15, Keys.arr Reg.LANE_STATUS_CDR_LOCK 15, Keys.arr Reg.LANE_STATUS_EYE_LOW 15],
     eventZones)
  | .laneAdapt _ _ _ =>
    (busKeys ++
     [Keys.words 0x200C0000 0x100 15, Keys.arr Reg.LANE_STATUS_WERR 15, Keys.arr Reg.LANE_STATUS_STATE 15],
     busZones)
  | .adaptationDone _ _ _ _ _ =>
    (eventKeys ++
     [Keys.arr Reg.LANE_DFE_TAPS 15, Keys.arr Reg.LANE_EYE_CTLE 15, Keys.arr Reg.LANE_EYE_V 15, Keys.arr Reg.LANE_EYE_H 15,
      Keys.arr Reg.LANE_EYE_SCORE 15, Keys.arr Reg.LANE_STATUS_CDR_LOCK 15, Keys.arr Reg.LANE_CTRL_ADAPT 15,
      Keys.arr Reg.LANE_STATUS_STATE 15],
     eventZones)
  | .lanePrbsConfig _ _ _ =>
    (busKeys ++
     [Keys.words 0x200C0000 0x100 15, Keys.arr Reg.LANE_STATUS_WERR 15, Keys.arr Reg.LANE_STATUS_RATE 15,
      Keys.arr Reg.LANE_STATUS_BLOCK_LOCK 15, Keys.arr Reg.LANE_STATUS_CDR_LOCK 15, Keys.arr Reg.LANE_STATUS_STATE 15,
      Keys.arr Reg.LANE_STATUS_PRBS_SYNC 15, Keys.arr Reg.LANE_PRBS_ERR_COUNT 15],
     busZones ++ [.lane])
  | .injOne _ _ _ => (busKeys ++ [Keys.words 0x200C0000 0x100 15, Keys.arr Reg.LANE_STATUS_WERR 15], busZones ++ [.lane])
  | .injBurst _ _ _ => (busKeys ++ [Keys.words 0x200C0000 0x100 15, Keys.arr Reg.LANE_STATUS_WERR 15], busZones ++ [.lane])
  | .lanePllLoss _ =>
    (eventKeys ++
     [Keys.one Reg.CLKRST_STATUS_NPLL_LOCK, Keys.one Reg.CLKRST_STATUS_TPLL_LOCK, Keys.arr Reg.LANE_CNT_LOSS 15,
      Keys.arr Reg.LANE_STATUS_LOSS 15, Keys.arr Reg.LANE_STATUS_BLOCK_LOCK 15, Keys.arr Reg.LANE_STATUS_CDR_LOCK 15,
      Keys.arr Reg.LANE_STATUS_STATE 15, Keys.arr Reg.TL_TRAIN_ERR_CODE 12, Keys.arr Reg.LANE_STATUS_RATE 15,
      Keys.arr Reg.TL_STATUS_STATE 12],
     eventZones ++ [.tl])
  | .hlthEnable _ _ =>
    (busKeys ++
     [Keys.words 0x200D0000 1 1, Keys.one Reg.HLTH_STATUS_WERR, Keys.one Reg.HLTH_STATUS_RUN, Keys.arr Reg.THM_ZLIM_ZLIM 192,
      Keys.arr Reg.HLTH_ZONE_FAIL 192, Keys.arr Reg.HLTH_CNT_DEAD_DEAD 12],
     busZones ++ [.free, .hlth])
  | .hlthCommit _ _ =>
    (busKeys ++
     [Keys.words 0x200D0000 1 1, Keys.one Reg.HLTH_STATUS_WERR, Keys.one Reg.HLTH_COMMIT_ERR_CODE],
     busZones ++ [.hlth, .lane])
  | .hlthForce _ _ =>
    (busKeys ++
     [Keys.words 0x200D0040 1 1, Keys.one Reg.HLTH_STATUS_WERR, Keys.one Reg.HLTH_STATUS_RETEST, Keys.one Reg.HLTH_STATUS_QUEUE,
      Keys.one Reg.HLTH_RPT0_VALID, Keys.one Reg.HLTH_RPT0_OLD, Keys.one Reg.HLTH_RPT0_TILE, Keys.one Reg.HLTH_RPT0_Y,
      Keys.one Reg.HLTH_RPT0_X, Keys.one Reg.HLTH_RPT1_FRAME, Keys.one Reg.HLTH_RPT1_CODE, Keys.one Reg.HLTH_RPT0_NEW],
     busZones ++ [.hlth])
  | .hlthCapture _ _ => (busKeys ++ [Keys.words 0x200D0000 1 1, Keys.one Reg.HLTH_STATUS_WERR], busZones)
  | .hlthReportTimer => (eventKeys, eventZones ++ [.hlth])
  | .hlthRptPop _ _ =>
    (busKeys ++
     [Keys.words 0x200D004C 1 1, Keys.one Reg.HLTH_STATUS_WERR, Keys.one Reg.HLTH_STATUS_RETEST, Keys.one Reg.HLTH_STATUS_QUEUE,
      Keys.one Reg.HLTH_FORCE_GO, Keys.one Reg.HLTH_RPT0_VALID, Keys.one Reg.HLTH_RPT0_OLD, Keys.one Reg.HLTH_RPT0_TILE,
      Keys.one Reg.HLTH_RPT0_Y, Keys.one Reg.HLTH_RPT0_X, Keys.one Reg.HLTH_RPT1_FRAME, Keys.one Reg.HLTH_RPT1_CODE,
      Keys.one Reg.HLTH_RPT0_NEW],
     busZones ++ [.hlth])
  | .lscEnable _ _ =>
    (busKeys ++
     [Keys.words 0x200E0000 1 1, Keys.one Reg.LSC_STATUS_WERR, Keys.one Reg.LSC_STATUS_STATE, Keys.arr Reg.THM_ZLIM_ZLIM 192,
      Keys.one Reg.LSC_STATUS_VMAX_HIT, Keys.one Reg.LSC_STATUS_RAMP, Keys.one Reg.LSC_VSET_SET, Keys.one Reg.LSC_NEEDY_REQ,
      Keys.one Reg.LSC_NEEDY_ZONE, Keys.one Reg.LSC_VSET_TARGET, Keys.arr Reg.LSC_ZL 192],
     busZones ++ [.lsc, .free, .cal])
  | .lscHandoverDone _ => ([Keys.one Reg.LSC_STATUS_STATE, Keys.one Reg.LSC_STATUS_RAMP, Keys.one Reg.LSC_VSET_SET], [.lsc])
  | .lscRelease =>
    (eventKeys ++
     [Keys.one Reg.LSC_CTRL_EN, Keys.one Reg.LSC_STATUS_STATE, Keys.arr Reg.THM_ZLIM_ZLIM 192, Keys.one Reg.LSC_STATUS_VMAX_HIT,
      Keys.one Reg.LSC_STATUS_RAMP, Keys.one Reg.LSC_VSET_SET, Keys.one Reg.LSC_NEEDY_REQ, Keys.one Reg.LSC_NEEDY_ZONE,
      Keys.one Reg.LSC_VSET_TARGET, Keys.arr Reg.LSC_ZL 192],
     eventZones ++ [.lsc, .free, .cal])
  | .lscLoopUpdate _ => ([Keys.one Reg.LSC_STATUS_RAMP, Keys.one Reg.LSC_VSET_SET], [.lsc])
  | .lscPhaseSample _ _ => ([], [.lsc])
  | .lscCommit _ _ =>
    (busKeys ++
     [Keys.words 0x200E0000 1 1, Keys.one Reg.LSC_STATUS_WERR, Keys.one Reg.LSC_COMMIT_ERR_CODE],
     busZones ++ [.lsc, .lane])
  | .phaseOvercurrent _ _ => ([Keys.arr Reg.LSC_OC_CNT 4, Keys.arr Reg.LSC_STATUS_PH_OC 4], [.lsc])
  | .persistentOvercurrent =>
    (eventKeys ++
     [Keys.one Reg.LSC_STATUS_OC, Keys.one Reg.LSC_CTRL_EN, Keys.one Reg.LSC_STATUS_STATE, Keys.arr Reg.THM_ZLIM_ZLIM 192,
      Keys.one Reg.LSC_STATUS_VMAX_HIT, Keys.one Reg.LSC_STATUS_RAMP, Keys.one Reg.LSC_VSET_SET, Keys.one Reg.LSC_NEEDY_REQ,
      Keys.one Reg.LSC_NEEDY_ZONE, Keys.one Reg.LSC_VSET_TARGET, Keys.arr Reg.LSC_ZL 192],
     eventZones ++ [.lsc, .free, .cal])
  | .overVoltage =>
    (eventKeys ++
     [Keys.one Reg.LSC_STATUS_OV, Keys.one Reg.LSC_CTRL_EN, Keys.one Reg.LSC_STATUS_STATE, Keys.arr Reg.THM_ZLIM_ZLIM 192,
      Keys.one Reg.LSC_STATUS_VMAX_HIT, Keys.one Reg.LSC_STATUS_RAMP, Keys.one Reg.LSC_VSET_SET, Keys.one Reg.LSC_NEEDY_REQ,
      Keys.one Reg.LSC_NEEDY_ZONE, Keys.one Reg.LSC_VSET_TARGET, Keys.arr Reg.LSC_ZL 192],
     eventZones ++ [.lsc, .free, .cal])
  | .underVoltage =>
    (eventKeys ++
     [Keys.one Reg.LSC_STATUS_UV, Keys.one Reg.LSC_CTRL_EN, Keys.one Reg.LSC_STATUS_STATE, Keys.arr Reg.THM_ZLIM_ZLIM 192,
      Keys.one Reg.LSC_STATUS_VMAX_HIT, Keys.one Reg.LSC_STATUS_RAMP, Keys.one Reg.LSC_VSET_SET, Keys.one Reg.LSC_NEEDY_REQ,
      Keys.one Reg.LSC_NEEDY_ZONE, Keys.one Reg.LSC_VSET_TARGET, Keys.arr Reg.LSC_ZL 192],
     eventZones ++ [.lsc, .free, .cal])
  | .stageFault =>
    (eventKeys ++
     [Keys.one Reg.LSC_STATUS_EXT, Keys.one Reg.LSC_CTRL_EN, Keys.one Reg.LSC_STATUS_STATE, Keys.arr Reg.THM_ZLIM_ZLIM 192,
      Keys.one Reg.LSC_STATUS_VMAX_HIT, Keys.one Reg.LSC_STATUS_RAMP, Keys.one Reg.LSC_VSET_SET, Keys.one Reg.LSC_NEEDY_REQ,
      Keys.one Reg.LSC_NEEDY_ZONE, Keys.one Reg.LSC_VSET_TARGET, Keys.arr Reg.LSC_ZL 192],
     eventZones ++ [.lsc, .free, .cal])
  | .thmEnable _ _ =>
    (busKeys ++
     [Keys.words 0x200F0000 1 1, Keys.one Reg.THM_STATUS_WERR, Keys.one Reg.THM_STATUS_RUN, Keys.arr Reg.THM_ZLIM_ZLIM 192,
      Keys.arr Reg.THM_ZLIM_ZT 192],
     busZones ++ [.thm])
  | .thmCommit _ _ => (busKeys ++ [Keys.words 0x200F0000 1 1, Keys.one Reg.THM_STATUS_WERR], busZones)
  | .thmModelStep _ =>
    (eventKeys ++
     [Keys.one Reg.THM_COMMIT_ERR_CODE, Keys.one Reg.THM_CTRL_COMMIT, Keys.arr Reg.THM_ZTEMP_TJ 192, Keys.arr Reg.THM_ZTEMP_TS 192,
      Keys.one Reg.THM_STATUS_SUSPECT, Keys.arr Reg.THM_ZLIM_K 192, Keys.arr Reg.THM_ZLIM_ZREF 192, Keys.arr Reg.THM_ZLIM_ZT 192,
      Keys.one Reg.THM_STATUS_THR, Keys.arr Reg.THM_ZLIM_ZLIM 192, Keys.one Reg.THM_STATUS_FORCED],
     eventZones ++ [.thm, .pair, .lane, .live, .free])
  | .thmTick =>
    (eventKeys ++
     [Keys.one Reg.THM_STATUS_KTOT, Keys.arr Reg.THM_ZLIM_K 192, Keys.arr Reg.THM_ZLIM_ZREF 192, Keys.arr Reg.THM_ZLIM_ZT 192,
      Keys.one Reg.THM_STATUS_THR, Keys.arr Reg.THM_ZLIM_ZLIM 192, Keys.one Reg.THM_STATUS_FORCED],
     eventZones ++ [.thm])
  | .thmSensorSuspect _ _ _ =>
    (eventKeys ++
     [Keys.one Reg.THM_STATUS_SUSPECT, Keys.arr Reg.THM_SUSPECT_AIN 8, Keys.arr Reg.THM_TS_SUSPECT 96],
     eventZones ++ [.thm])
  | .thmModelDeviation _ => (eventKeys ++ [Keys.arr Reg.THM_SUSPECT_MODEL 12], eventZones ++ [.thm, .free])
  | .tileSensorTimeout _ => (eventKeys ++ [Keys.one Reg.THM_STATUS_SUSPECT], eventZones ++ [.thm])
  | .dieTempSample _ _ _ _ =>
    (eventKeys ++
     [Keys.one Reg.THM_STATUS_TDIE, Keys.one Reg.THM_STATUS_DIE_HOT, Keys.one Reg.THM_STATUS_DIE_OVR],
     eventZones ++ [.free, .thm])
  | .thermalShutdown => ([Keys.span 0 0xFFFFFFFF], allZones)
  | .shutdownDeferLimit =>
    (eventKeys ++
     [Keys.one Reg.CAL_NV_STATUS_CODE, Keys.one Reg.CAL_NV_STATUS_ERR, Keys.one Reg.CAL_NV_CTRL_WRITE, Keys.one Reg.CAL_NV_STATUS_NV_BUSY],
     eventZones ++ [.cal, .thm])
  | .tCritComparator => ([Keys.span 0 0xFFFFFFFF], allZones)
  | .thermalRestart => ([Keys.span 0 0xFFFFFFFF], allZones)
  | .calEnable _ _ => (busKeys ++ [Keys.words 0x20100000 1 1, Keys.one Reg.CAL_STATUS_WERR], busZones ++ [.cal])
  | .adcCorrMeasure => ([], [.cal])
  | .adcCorrDone _ _ _ =>
    (eventKeys ++
     [Keys.arr Reg.CAL_ADC_CORR_GAIN 3, Keys.arr Reg.CAL_ADC_CORR_OFS 3, Keys.one Reg.CAL_STATUS_ADC_ERR,
      Keys.one Reg.CAL_STATUS_ADC_VALID],
     eventZones ++ [.cal])
  | .calStart _ _ =>
    (busKeys ++
     [Keys.words 0x20100000 1 1, Keys.one Reg.CAL_STATUS_WERR, Keys.one Reg.CAL_STATUS_BLOCK, Keys.one Reg.CAL_STATUS_RUN],
     busZones ++ [.cal])
  | .calIntervalTimer => ([Keys.one Reg.CAL_STATUS_BLOCK, Keys.one Reg.CAL_STATUS_RUN], [.cal])
  | .calTempCheck => ([Keys.one Reg.CAL_STATUS_BLOCK, Keys.one Reg.CAL_STATUS_RUN], [.cal])
  | .calRunTimeout =>
    (eventKeys ++
     [Keys.one Reg.CAL_STATUS_INSUFF, Keys.one Reg.CAL_STATUS_BLOCK, Keys.one Reg.CAL_CTRL_START, Keys.one Reg.CAL_STATUS_RUN],
     eventZones ++ [.cal])
  | .autoSaveWrite =>
    (eventKeys ++
     [Keys.one Reg.CAL_NV_STATUS_CODE, Keys.one Reg.CAL_NV_STATUS_ERR, Keys.one Reg.CAL_NV_STATUS_NV_BUSY],
     eventZones ++ [.cal])
  | .calExtStart _ _ =>
    (busKeys ++
     [Keys.words 0x20100050 1 1, Keys.one Reg.CAL_STATUS_WERR, Keys.one Reg.CAL_EXT_STATUS_STEPS, Keys.one Reg.CAL_EXT_STATUS_BUSY],
     busZones ++ [.cal])
  | .calExtStep _ _ => (busKeys ++ [Keys.words 0x20100050 1 1, Keys.one Reg.CAL_STATUS_WERR], busZones ++ [.cal])
  | .calExtFinish _ _ =>
    (busKeys ++
     [Keys.words 0x20100050 1 1, Keys.one Reg.CAL_STATUS_WERR, Keys.one Reg.CAL_EXT_STATUS_CODE, Keys.one Reg.CAL_EXT_STATUS_EXT_ERR,
      Keys.one Reg.CAL_EXT_STATUS_BUSY, Keys.one Reg.CAL_STATUS_KI_VALID, Keys.one Reg.CAL_I0_I0, Keys.one Reg.CAL_KI_KI,
      Keys.one Reg.CAL_LAST_TIME_SEC_VALUE, Keys.one Reg.CAL_LAST_TIME_NS_VALUE, Keys.one Reg.CAL_COUNT_COUNT,
      Keys.one Reg.CAL_LAST_TEMP_TEMP, Keys.one Reg.CAL_I0_SCORR, Keys.one Reg.CAL_EXT_STATUS_EXT_DONE, Keys.one Reg.CAL_STATUS_RESID_ERR],
     busZones ++ [.cal, .free, .lane])
  | .calExtAbort _ _ =>
    (busKeys ++
     [Keys.words 0x20100050 1 1, Keys.one Reg.CAL_STATUS_WERR, Keys.one Reg.CAL_EXT_STATUS_CODE, Keys.one Reg.CAL_EXT_STATUS_EXT_ERR,
      Keys.one Reg.CAL_EXT_STATUS_BUSY],
     busZones ++ [.cal])
  | .nvRead _ _ =>
    (busKeys ++
     [Keys.words 0x20100080 1 1, Keys.one Reg.CAL_STATUS_WERR, Keys.one Reg.CAL_NV_STATUS_CODE, Keys.one Reg.CAL_NV_STATUS_ERR,
      Keys.one Reg.CAL_NV_STATUS_DONE, Keys.one Reg.CAL_NV_SEQ_SEQ, Keys.one Reg.CAL_NV_STATUS_LEN],
     busZones ++ [.cal])
  | .nvWrite _ _ =>
    (busKeys ++
     [Keys.words 0x20100080 1 1, Keys.one Reg.CAL_STATUS_WERR, Keys.one Reg.CAL_NV_STATUS_CODE, Keys.one Reg.CAL_NV_STATUS_ERR,
      Keys.one Reg.CAL_NV_STATUS_NV_BUSY],
     busZones ++ [.cal])
  | .nvWriteDone _ =>
    (eventKeys ++
     [Keys.one Reg.CAL_NV_SEQ_SEQ, Keys.one Reg.CAL_NV_STATUS_DONE, Keys.one Reg.CAL_NV_CTRL_WRITE, Keys.one Reg.CAL_NV_STATUS_NV_BUSY,
      Keys.one Reg.CAL_NV_STATUS_CODE, Keys.one Reg.CAL_NV_STATUS_ERR],
     eventZones ++ [.cal, .thm])
  | .netEnable _ _ _ =>
    (busKeys ++
     [Keys.words 0x20110000 0x10000 2, Keys.arr Reg.NET_STATUS_WERR 2, Keys.arr Reg.LANE_STATUS_RATE 15,
      Keys.arr Reg.LANE_STATUS_BLOCK_LOCK 15, Keys.arr Reg.LANE_STATUS_CDR_LOCK 15, Keys.arr Reg.LANE_STATUS_STATE 15],
     busZones)
  | .netLinkChange _ _ _ _ =>
    (eventKeys ++
     [Keys.arr Reg.NET_STATUS_SPEED 2, Keys.arr Reg.NET_STATUS_LINK 2, Keys.arr Reg.NET_STATUS_AN_DONE 2],
     eventZones)
  | .netRxKick _ _ _ => (busKeys ++ [Keys.words 0x20110000 0x10000 2, Keys.arr Reg.NET_STATUS_WERR 2], busZones ++ [.net])
  | .netTxKick _ _ _ => (busKeys ++ [Keys.words 0x20110000 0x10000 2, Keys.arr Reg.NET_STATUS_WERR 2], busZones ++ [.net])
  | .netFrameRx _ _ _ _ =>
    (eventKeys ++
     [Keys.arr Reg.NET_CNT_ERR_HI 2, Keys.arr Reg.NET_STATUS_RX_OVF 2, Keys.arr Reg.NET_CNT_RX_HI 2,
      Keys.one (Reg.NET_CNT_PRP_WRONG_LAN 0), Keys.one Reg.SAFE_MSG_STATUS_LAST_ERR, Keys.one Reg.SAFE_MSG_CNT0_HI,
      Keys.one Reg.SAFE_MSG_CNT1_LO, Keys.one Reg.SAFE_MSG_CNT1_HI, Keys.one Reg.SAFE_MSG_STATUS_SYNC,
      Keys.one Reg.SAFE_MSG_STATUS_ALIVE_REF, Keys.one Reg.SAFE_MSG_STATUS_MBOX_OVF, Keys.one Reg.SAFE_MBOX_INFO_ALIVE,
      Keys.one Reg.SAFE_MBOX_INFO_LEN, Keys.arr Reg.SAFE_MBOX_DATA 64, Keys.one Reg.SAFE_MBOX_TS_SEC_VALUE,
      Keys.one Reg.SAFE_MBOX_TS_NS_VALUE, Keys.one Reg.SAFE_MSG_CNT0_LO, Keys.one Reg.SAFE_MSG_STATUS_MBOX_FULL,
      Keys.one Reg.SAFE_STATUS_SYM_INHIBIT, Keys.one (Reg.NET_CNT_PRP_DUP 0)] ++
     [Keys.one (Reg.NET_CNT_PRP_EVICT 0), Keys.arr Reg.NET_STATUS_DMA_ERR 2, Keys.one Reg.FLT_FENCE_HIT_COUNT,
      Keys.arr Reg.PWRCTL_XING 32, Keys.arr Reg.NET_CNT_ERR_LO 2, Keys.arr Reg.NET_STATUS_NOBUF 2, Keys.one Reg.WIN_STATUS_BLK_SLOT,
      Keys.one Reg.MEMC_ERR_CNT_CE, Keys.one Reg.MEMC_UE_ADDR_HI_ADDR, Keys.one Reg.MEMC_UE_ADDR_LO_ADDR,
      Keys.one Reg.MEMC_STATUS_ADDR_ERR, Keys.one Reg.MEMC_STATUS_UE, Keys.arr Reg.NET_HEAD_RX_HEAD 2, Keys.arr Reg.NET_CNT_RX_LO 2],
     eventZones ++ [.net, .safe, .mem, .memc])
  | .netFrameTx _ _ =>
    (eventKeys ++
     [Keys.arr Reg.NET_STATUS_DMA_ERR 2, Keys.one Reg.FLT_FENCE_HIT_COUNT, Keys.arr Reg.PWRCTL_XING 32, Keys.one Reg.WIN_STATUS_BLK_SLOT,
      Keys.one Reg.MEMC_ERR_CNT_CE, Keys.one Reg.MEMC_UE_ADDR_HI_ADDR, Keys.one Reg.MEMC_UE_ADDR_LO_ADDR,
      Keys.one Reg.MEMC_STATUS_ADDR_ERR, Keys.one Reg.MEMC_STATUS_UE, Keys.arr Reg.NET_HEAD_TX_HEAD 2, Keys.arr Reg.NET_CNT_TX_LO 2,
      Keys.one (Reg.NET_PRP_TX_SEQ 0), Keys.arr Reg.NET_CNT_TX_HI 2],
     eventZones ++ [.net, .mem, .memc])
  | .mdioAccess _ _ => (busKeys ++ [Keys.words 0x201100A0 1 1, Keys.arr Reg.NET_STATUS_WERR 2], busZones)
  | .mdioDone _ => ([Keys.one (Reg.NET_MDIO_CMD_GO 0), Keys.one (Reg.NET_MDIO_DATA_DATA 0)], [])
  | .timeDomainEn _ _ _ => (busKeys ++ [Keys.words 0x20130100 0x40 2, Keys.one Reg.TIME_STATUS_WERR], busZones ++ [.time])
  | .timeLoad _ _ _ =>
    (busKeys ++
     [Keys.words 0x20130100 0x40 2, Keys.one Reg.TIME_STATUS_WERR, Keys.one Reg.TIME_STATUS_STEP_PEND_A,
      Keys.one Reg.TIME_STATUS_STEP_PEND_B],
     busZones ++ [.time])
  | .timeStep _ _ _ =>
    (busKeys ++
     [Keys.words 0x20130100 0x40 2, Keys.one Reg.TIME_STATUS_WERR, Keys.one Reg.TIME_STATUS_STEP_PEND_A,
      Keys.one Reg.TIME_STATUS_STEP_PEND_B],
     busZones ++ [.time])
  | .timeAdjustApply _ =>
    (busKeys ++
     [Keys.one Reg.TIME_STATUS_STEP_PEND_A, Keys.one Reg.TIME_STATUS_STEP_PEND_B, Keys.arr Reg.TIME_D_CTRL_LOAD 2,
      Keys.arr Reg.TIME_D_CTRL_STEP 2, Keys.one Reg.TIME_STATUS_WERR, Keys.one Reg.FT_CNT1_REINDEX, Keys.one Reg.LAYER_COMMIT_ERR_LAYER,
      Keys.one Reg.LAYER_COMMIT_ERR_CODE, Keys.one Reg.LAYER_CTRL_COMMIT, Keys.arr Reg.LAYER_L_WARP_STATUS_CHK_CODE 8,
      Keys.arr Reg.LAYER_STATUS_ARMED 8, Keys.one Reg.SA_COMMIT_ERR_CODE, Keys.one Reg.SA_CTRL_COMMIT,
      Keys.one Reg.SA_QUAD_NEED_INACTIVE, Keys.one Reg.SA_QUAD_NEED_ACTIVE, Keys.one Reg.SA_STATUS_MODE, Keys.one Reg.SA_STATUS_PROFILE,
      Keys.arr Reg.LAYER_L_WARP_STATUS_BUF_ROWS 8, Keys.arr Reg.LAYER_L_WARP_STATUS_FILTER 8, Keys.one Reg.SA_STATUS_SWITCH_PEND] ++
     [Keys.one Reg.SA_STATUS_ACTIVE_BANK, Keys.arr Reg.LAYER_L_WARP_STATUS_CHK_BUSY 8, Keys.arr Reg.LAYER_L_WARP_STATUS_CHECKED 8,
      Keys.arr Reg.LAYER_L_SPAN_MAX_SPAN 8, Keys.arr Reg.LANE_STATUS_RATE 15, Keys.arr Reg.LANE_STATUS_BLOCK_LOCK 15,
      Keys.arr Reg.LANE_STATUS_CDR_LOCK 15, Keys.arr Reg.LANE_STATUS_STATE 15, Keys.arr Reg.TL_STATUS_STATE 12,
      Keys.arr Reg.THM_ZLIM_ZLIM 192, Keys.arr Reg.HLTH_ZONE_FAIL 192, Keys.arr Reg.HLTH_CNT_DEAD_DEAD 12,
      Keys.one Reg.FT_COMMIT_ERR_CODE, Keys.one Reg.FT_CTRL_COMMIT, Keys.one Reg.HLTH_COMMIT_ERR_CODE, Keys.one Reg.HLTH_CTRL_COMMIT,
      Keys.one Reg.LSC_COMMIT_ERR_CODE, Keys.one Reg.LSC_CTRL_COMMIT],
     busZones ++ [.time, .ft, .sa, .layer, .hlth, .lsc, .cal, .lane, .tl, .free, .maskin])
  | .ftSourceSwitch _ _ =>
    (busKeys ++
     [Keys.words 0x20130000 1 1, Keys.one Reg.TIME_STATUS_WERR, Keys.one Reg.TIME_STATUS_SLEWING, Keys.one Reg.TIME_FT_DELTA_DELTA,
      Keys.one Reg.TIME_STATUS_FT_SRC, Keys.one Reg.TIME_STATUS_SWITCH_PEND],
     busZones ++ [.time])
  | .switchPendApply =>
    (busKeys ++
     [Keys.one Reg.TIME_STATUS_WERR, Keys.one Reg.TIME_STATUS_SWITCH_PEND, Keys.one Reg.TIME_STATUS_FT_SRC, Keys.one Reg.FT_CNT1_REINDEX,
      Keys.one Reg.LAYER_COMMIT_ERR_LAYER, Keys.one Reg.LAYER_COMMIT_ERR_CODE, Keys.one Reg.LAYER_CTRL_COMMIT,
      Keys.arr Reg.LAYER_L_WARP_STATUS_CHK_CODE 8, Keys.arr Reg.LAYER_STATUS_ARMED 8, Keys.one Reg.SA_COMMIT_ERR_CODE,
      Keys.one Reg.SA_CTRL_COMMIT, Keys.one Reg.SA_QUAD_NEED_INACTIVE, Keys.one Reg.SA_QUAD_NEED_ACTIVE, Keys.one Reg.SA_STATUS_MODE,
      Keys.one Reg.SA_STATUS_PROFILE, Keys.arr Reg.LAYER_L_WARP_STATUS_BUF_ROWS 8, Keys.arr Reg.LAYER_L_WARP_STATUS_FILTER 8,
      Keys.one Reg.SA_STATUS_SWITCH_PEND, Keys.one Reg.SA_STATUS_ACTIVE_BANK, Keys.arr Reg.LAYER_L_WARP_STATUS_CHK_BUSY 8] ++
     [Keys.arr Reg.LAYER_L_WARP_STATUS_CHECKED 8, Keys.arr Reg.LAYER_L_SPAN_MAX_SPAN 8, Keys.arr Reg.LANE_STATUS_RATE 15,
      Keys.arr Reg.LANE_STATUS_BLOCK_LOCK 15, Keys.arr Reg.LANE_STATUS_CDR_LOCK 15, Keys.arr Reg.LANE_STATUS_STATE 15,
      Keys.arr Reg.TL_STATUS_STATE 12, Keys.arr Reg.THM_ZLIM_ZLIM 192, Keys.arr Reg.HLTH_ZONE_FAIL 192,
      Keys.arr Reg.HLTH_CNT_DEAD_DEAD 12, Keys.one Reg.FT_COMMIT_ERR_CODE, Keys.one Reg.FT_CTRL_COMMIT,
      Keys.one Reg.HLTH_COMMIT_ERR_CODE, Keys.one Reg.HLTH_CTRL_COMMIT, Keys.one Reg.LSC_COMMIT_ERR_CODE, Keys.one Reg.LSC_CTRL_COMMIT,
      Keys.one Reg.TIME_STATUS_SLEWING, Keys.one Reg.TIME_FT_DELTA_DELTA],
     busZones ++ [.ft, .sa, .layer, .hlth, .lsc, .cal, .lane, .tl, .free, .maskin, .time])
  | .timeSlewStep => (eventKeys ++ [Keys.one Reg.TIME_STATUS_SLEWING, Keys.one Reg.TIME_FT_DELTA_DELTA], eventZones ++ [.time])
  | .timeNsRead _ _ => ([Keys.arr Reg.TIME_D_NS_N 2, Keys.arr Reg.TIME_D_SEC_HI_SEC 2, Keys.arr Reg.TIME_D_SEC_LO_SEC 2], [.time])
  | .ftNextNsRead => ([Keys.one Reg.FT_NEXT_SEC_HI_SEC_HI, Keys.one Reg.FT_NEXT_SEC_LO_SEC, Keys.one Reg.FT_NEXT_NS_NS], [.ft])
  | .timeCaptureEdge _ _ =>
    (eventKeys ++
     [Keys.arr Reg.TIME_STATUS_CAP_OVF 4, Keys.arr Reg.TIME_CAP_INFO_VALID 4, Keys.arr Reg.TIME_CAP_INFO_LEVEL 4,
      Keys.arr Reg.TIME_CAP_INFO_DOMAIN 4, Keys.arr Reg.TIME_CAP_INFO_EDGE 4, Keys.arr Reg.TIME_CAP_INFO_SEC 4,
      Keys.arr Reg.TIME_CAP_NS_N 4],
     eventZones ++ [.time])
  | .timeCapInfoRead _ =>
    ([Keys.arr Reg.TIME_CAP_INFO_VALID 4, Keys.arr Reg.TIME_CAP_INFO_LEVEL 4, Keys.arr Reg.TIME_CAP_INFO_DOMAIN 4,
      Keys.arr Reg.TIME_CAP_INFO_EDGE 4, Keys.arr Reg.TIME_CAP_INFO_SEC 4, Keys.arr Reg.TIME_CAP_NS_N 4],
     [.time])
  | .ppsEdge => (eventKeys, eventZones ++ [.time])
  | .cueFire _ => (eventKeys ++ [Keys.arr Reg.TIME_STATUS_CUE_LATE 2], eventZones ++ [.time])
  | .safeEnable _ _ =>
    (busKeys ++
     [Keys.words 0x20140000 1 1, Keys.one Reg.SAFE_STATUS_WERR, Keys.one Reg.SAFE_SEALCFG_INTERVAL_D, Keys.one Reg.SAFE_SEALCFG_TDISC_MS,
      Keys.one Reg.SAFE_SEAL_LATCHED, Keys.one Reg.SAFE_SEALCFG_CLASS, Keys.one Reg.SAFE_SEALCFG_USE1, Keys.one Reg.SAFE_STATUS_SEAL_ERR,
      Keys.one Reg.SAFE_STATUS_IL1_OPEN, Keys.one Reg.SAFE_STATUS_IL0_OPEN, Keys.one Reg.SAFE_STATUS_STATE,
      Keys.one Reg.SAFE_STATUS_SAFE_OK, Keys.arr Reg.TL_CAP_SENT_SEQ 12, Keys.one Reg.SAFE_CAP_CAP_D, Keys.one Reg.SAFE_CAP_CAP_Z,
      Keys.arr Reg.LANE_STATUS_RATE 15, Keys.arr Reg.LANE_STATUS_BLOCK_LOCK 15, Keys.arr Reg.LANE_STATUS_CDR_LOCK 15,
      Keys.arr Reg.LANE_STATUS_STATE 15, Keys.arr Reg.TL_STATUS_STATE 12],
     busZones ++ [.safe, .lane, .tl])
  | .safeAck _ _ =>
    (busKeys ++
     [Keys.words 0x20140000 1 1, Keys.one Reg.SAFE_STATUS_WERR, Keys.one Reg.SAFE_STATUS_STATE, Keys.one Reg.SAFE_STATUS_SAFE_OK,
      Keys.arr Reg.TL_CAP_SENT_SEQ 12, Keys.one Reg.SAFE_CAP_CAP_D, Keys.one Reg.SAFE_CAP_CAP_Z, Keys.arr Reg.LANE_STATUS_RATE 15,
      Keys.arr Reg.LANE_STATUS_BLOCK_LOCK 15, Keys.arr Reg.LANE_STATUS_CDR_LOCK 15, Keys.arr Reg.LANE_STATUS_STATE 15,
      Keys.arr Reg.TL_STATUS_STATE 12, Keys.one Reg.SAFE_STATUS_TP_ERR, Keys.one Reg.SAFE_STATUS_DISC],
     busZones ++ [.safe, .lane, .tl])
  | .safeRestrict _ _ =>
    (busKeys ++
     [Keys.words 0x20140000 1 1, Keys.one Reg.SAFE_STATUS_WERR, Keys.one Reg.SAFE_STATUS_STATE, Keys.one Reg.SAFE_STATUS_SAFE_OK,
      Keys.arr Reg.TL_CAP_SENT_SEQ 12, Keys.one Reg.SAFE_CAP_CAP_D, Keys.one Reg.SAFE_CAP_CAP_Z, Keys.arr Reg.LANE_STATUS_RATE 15,
      Keys.arr Reg.LANE_STATUS_BLOCK_LOCK 15, Keys.arr Reg.LANE_STATUS_CDR_LOCK 15, Keys.arr Reg.LANE_STATUS_STATE 15,
      Keys.arr Reg.TL_STATUS_STATE 12],
     busZones ++ [.safe, .lane, .tl])
  | .safeFbReq _ _ =>
    (busKeys ++
     [Keys.words 0x20140000 1 1, Keys.one Reg.SAFE_STATUS_WERR, Keys.one Reg.SAFE_STATUS_STATE, Keys.one Reg.SAFE_STATUS_SAFE_OK,
      Keys.arr Reg.TL_CAP_SENT_SEQ 12, Keys.one Reg.SAFE_CAP_CAP_D, Keys.one Reg.SAFE_CAP_CAP_Z, Keys.arr Reg.LANE_STATUS_RATE 15,
      Keys.arr Reg.LANE_STATUS_BLOCK_LOCK 15, Keys.arr Reg.LANE_STATUS_CDR_LOCK 15, Keys.arr Reg.LANE_STATUS_STATE 15,
      Keys.arr Reg.TL_STATUS_STATE 12],
     busZones ++ [.safe, .lane, .tl])
  | .proofReq _ _ =>
    (busKeys ++
     [Keys.words 0x20140000 1 1, Keys.one Reg.SAFE_STATUS_WERR, Keys.one Reg.SAFE_STATUS_STATE, Keys.one Reg.SAFE_STATUS_SAFE_OK,
      Keys.arr Reg.TL_CAP_SENT_SEQ 12, Keys.one Reg.SAFE_CAP_CAP_D, Keys.one Reg.SAFE_CAP_CAP_Z, Keys.arr Reg.LANE_STATUS_RATE 15,
      Keys.arr Reg.LANE_STATUS_BLOCK_LOCK 15, Keys.arr Reg.LANE_STATUS_CDR_LOCK 15, Keys.arr Reg.LANE_STATUS_STATE 15,
      Keys.arr Reg.TL_STATUS_STATE 12, Keys.one Reg.SAFE_IL_PSEEN1, Keys.one Reg.SAFE_IL_PSEEN0, Keys.one Reg.SAFE_STATUS_PROOF_DUE],
     busZones ++ [.safe, .lane, .tl])
  | .proofClr _ _ =>
    (busKeys ++
     [Keys.words 0x20140000 1 1, Keys.one Reg.SAFE_STATUS_WERR, Keys.one Reg.SAFE_STATUS_STATE, Keys.one Reg.SAFE_STATUS_SAFE_OK,
      Keys.arr Reg.TL_CAP_SENT_SEQ 12, Keys.one Reg.SAFE_CAP_CAP_D, Keys.one Reg.SAFE_CAP_CAP_Z, Keys.arr Reg.LANE_STATUS_RATE 15,
      Keys.arr Reg.LANE_STATUS_BLOCK_LOCK 15, Keys.arr Reg.LANE_STATUS_CDR_LOCK 15, Keys.arr Reg.LANE_STATUS_STATE 15,
      Keys.arr Reg.TL_STATUS_STATE 12, Keys.one Reg.SAFE_STATUS_PROOF_DUE],
     busZones ++ [.safe, .lane, .tl])
  | .cmonTest _ _ => (busKeys ++ [Keys.words 0x20140000 1 1, Keys.one Reg.SAFE_STATUS_WERR], busZones)
  | .cmonTestDone _ =>
    (eventKeys ++
     [Keys.one Reg.SAFE_STATUS_CMON_OK, Keys.one Reg.SAFE_CTRL_CMON_TEST, Keys.one Reg.SAFE_STATUS_CLAMP_ERR,
      Keys.one Reg.SAFE_STATUS_STATE, Keys.one Reg.SAFE_STATUS_SAFE_OK, Keys.arr Reg.TL_CAP_SENT_SEQ 12, Keys.one Reg.SAFE_CAP_CAP_D,
      Keys.one Reg.SAFE_CAP_CAP_Z, Keys.arr Reg.LANE_STATUS_RATE 15, Keys.arr Reg.LANE_STATUS_BLOCK_LOCK 15,
      Keys.arr Reg.LANE_STATUS_CDR_LOCK 15, Keys.arr Reg.LANE_STATUS_STATE 15, Keys.arr Reg.TL_STATUS_STATE 12],
     eventZones ++ [.safe, .lane, .tl])
  | .clampMonitorTrip _ =>
    (eventKeys ++
     [Keys.one Reg.SAFE_STATUS_STATE, Keys.one Reg.SAFE_STATUS_SAFE_OK, Keys.arr Reg.TL_CAP_SENT_SEQ 12, Keys.one Reg.SAFE_CAP_CAP_D,
      Keys.one Reg.SAFE_CAP_CAP_Z, Keys.arr Reg.LANE_STATUS_RATE 15, Keys.arr Reg.LANE_STATUS_BLOCK_LOCK 15,
      Keys.arr Reg.LANE_STATUS_CDR_LOCK 15, Keys.arr Reg.LANE_STATUS_STATE 15, Keys.arr Reg.TL_STATUS_STATE 12,
      Keys.one Reg.SAFE_STATUS_CLAMP_ERR],
     eventZones ++ [.safe, .lane, .tl])
  | .sealRead _ _ =>
    (eventKeys ++
     [Keys.arr Reg.SAFE_SEAL_INVALID 8, Keys.one Reg.SAFE_STATUS_SEAL_ERR, Keys.one Reg.SAFE_SEAL_LIVE, Keys.one Reg.SAFE_IL_PSEEN1,
      Keys.one Reg.SAFE_IL_PSEEN0, Keys.one Reg.SAFE_STATUS_PROOF_DUE, Keys.one Reg.SAFE_STATUS_SEAL_CHG, Keys.one Reg.SAFE_STATUS_STATE,
      Keys.one Reg.SAFE_STATUS_SAFE_OK, Keys.arr Reg.TL_CAP_SENT_SEQ 12, Keys.one Reg.SAFE_CAP_CAP_D, Keys.one Reg.SAFE_CAP_CAP_Z,
      Keys.arr Reg.LANE_STATUS_RATE 15, Keys.arr Reg.LANE_STATUS_BLOCK_LOCK 15, Keys.arr Reg.LANE_STATUS_CDR_LOCK 15,
      Keys.arr Reg.LANE_STATUS_STATE 15, Keys.arr Reg.TL_STATUS_STATE 12],
     eventZones ++ [.safe, .lane, .tl])
  | .interlockSample _ _ =>
    (eventKeys ++
     [Keys.one Reg.SAFE_IL_LEVEL, Keys.one Reg.SAFE_IL_DISC_CNT0, Keys.one Reg.SAFE_IL_DISC_CNT1, Keys.one Reg.SAFE_STATUS_STATE,
      Keys.one Reg.SAFE_STATUS_SAFE_OK, Keys.arr Reg.TL_CAP_SENT_SEQ 12, Keys.one Reg.SAFE_CAP_CAP_D, Keys.one Reg.SAFE_CAP_CAP_Z,
      Keys.arr Reg.LANE_STATUS_RATE 15, Keys.arr Reg.LANE_STATUS_BLOCK_LOCK 15, Keys.arr Reg.LANE_STATUS_CDR_LOCK 15,
      Keys.arr Reg.LANE_STATUS_STATE 15, Keys.arr Reg.TL_STATUS_STATE 12, Keys.one Reg.SAFE_IL_PSEEN0, Keys.one Reg.SAFE_IL_PSEEN1,
      Keys.one Reg.SAFE_STATUS_PROOF_DUE, Keys.one Reg.SAFE_STATUS_IL1_OPEN, Keys.one Reg.SAFE_STATUS_IL0_OPEN],
     eventZones ++ [.safe, .lane, .tl])
  | .testPulseCheck _ _ _ _ =>
    (eventKeys ++
     [Keys.one Reg.SAFE_STATUS_TP_ERR, Keys.one Reg.SAFE_STATUS_STATE, Keys.one Reg.SAFE_STATUS_SAFE_OK, Keys.arr Reg.TL_CAP_SENT_SEQ 12,
      Keys.one Reg.SAFE_CAP_CAP_D, Keys.one Reg.SAFE_CAP_CAP_Z, Keys.arr Reg.LANE_STATUS_RATE 15, Keys.arr Reg.LANE_STATUS_BLOCK_LOCK 15,
      Keys.arr Reg.LANE_STATUS_CDR_LOCK 15, Keys.arr Reg.LANE_STATUS_STATE 15, Keys.arr Reg.TL_STATUS_STATE 12],
     eventZones ++ [.safe, .lane, .tl])
  | .discrepancyTick =>
    (eventKeys ++
     [Keys.one Reg.SAFE_IL_DISC_CNT0, Keys.one Reg.SAFE_IL_DISC_CNT1, Keys.one Reg.SAFE_STATUS_DISC, Keys.one Reg.SAFE_STATUS_STATE,
      Keys.one Reg.SAFE_STATUS_SAFE_OK, Keys.arr Reg.TL_CAP_SENT_SEQ 12, Keys.one Reg.SAFE_CAP_CAP_D, Keys.one Reg.SAFE_CAP_CAP_Z,
      Keys.arr Reg.LANE_STATUS_RATE 15, Keys.arr Reg.LANE_STATUS_BLOCK_LOCK 15, Keys.arr Reg.LANE_STATUS_CDR_LOCK 15,
      Keys.arr Reg.LANE_STATUS_STATE 15, Keys.arr Reg.TL_STATUS_STATE 12],
     eventZones ++ [.safe, .lane, .tl])
  | .fallbackSilence =>
    (eventKeys ++
     [Keys.arr Reg.LANE_STATUS_RATE 15, Keys.arr Reg.LANE_STATUS_BLOCK_LOCK 15, Keys.arr Reg.LANE_STATUS_CDR_LOCK 15,
      Keys.arr Reg.LANE_STATUS_STATE 15, Keys.arr Reg.TL_STATUS_STATE 12],
     eventZones ++ [.safe, .tl])
  | .dualWinExpiry =>
    (eventKeys ++
     [Keys.one Reg.SAFE_MSG_STATUS_LAST_ERR, Keys.one Reg.SAFE_MSG_CNT0_HI, Keys.one Reg.SAFE_MSG_CNT1_LO, Keys.one Reg.SAFE_MSG_CNT1_HI],
     eventZones ++ [.safe])
  | .safeWatchExpiry => (eventKeys ++ [Keys.arr Reg.SAFE_L_GBUF_VALID 8, Keys.one Reg.SAFE_STATUS_SYM_INHIBIT], eventZones ++ [.safe])
  | .safeGrantWrite _ _ _ => (busKeys ++ [Keys.words 0x20140200 0x10 8, Keys.one Reg.SAFE_STATUS_WERR], busZones ++ [.safe])
  | .safeMboxPop _ _ =>
    (busKeys ++
     [Keys.words 0x2014007C 1 1, Keys.one Reg.SAFE_STATUS_WERR, Keys.one Reg.SAFE_MSG_STATUS_MBOX_FULL],
     busZones)
  | .faultOccurrence _ _ =>
    (eventKeys ++
     [Keys.arr Reg.EVC_ACT 128, Keys.arr Reg.EVC_ENG_STATE_TRAP 16, Keys.arr Reg.EVC_ENG_STATE_NMI 16,
      Keys.arr Reg.EVC_ENG_STATE_RUN_PRIO 16, Keys.arr Reg.EVC_ENG_STATE_SRC 16, Keys.arr Reg.EVC_ENG_STATE_DEPTH 16,
      Keys.arr Reg.EVC_ENG_WDT_CTRL_EN 16, Keys.arr Reg.EVC_ENG_STATE_HALT 16, Keys.arr Reg.PWRCTL_XING 32, Keys.arr Reg.NET_CTRL_EN 2,
      Keys.span 0x20080000 0x2008FFFF, Keys.span 0x20090000 0x2009FFFF, Keys.span 0x20180000 0x2018FFFF, Keys.span 0x200A0000 0x200AFFFF,
      Keys.span 0x200B0000 0x200BFFFF, Keys.span 0x200C0000 0x200CFFFF, Keys.span 0x200D0000 0x200DFFFF, Keys.span 0x200E0000 0x200EFFFF,
      Keys.span 0x200F0000 0x200FFFFF, Keys.span 0x20100000 0x2010FFFF] ++
     [Keys.span 0x20110000 0x2011FFFF, Keys.span 0x20120000 0x2012FFFF, Keys.span 0x20130000 0x2013FFFF, Keys.span 0x20150000 0x2015FFFF,
      Keys.span 0x20050000 0x2005FFFF, Keys.span 0x20070000 0x2007FFFF, Keys.span 0x20170000 0x2017FFFF, Keys.one Reg.MEMC_ERR_CNT_CE,
      Keys.one Reg.MEMC_UE_ADDR_HI_ADDR, Keys.one Reg.MEMC_UE_ADDR_LO_ADDR, Keys.one Reg.MEMC_STATUS_ADDR_ERR,
      Keys.one Reg.MEMC_STATUS_UE, Keys.one Reg.SAFE_STATUS_STATE, Keys.one Reg.SAFE_STATUS_SAFE_OK, Keys.one Reg.SAFE_CAP_CAP_D,
      Keys.one Reg.SAFE_CAP_CAP_Z, Keys.one Reg.SAFE_STATUS_LOCKOUT, Keys.span 0x20040000 0x2004FFFF],
     eventZones ++ [.sa, .layer, .tl, .free, .hlth, .cal, .live, .maskin, .peri, .ft, .lane, .lsc, .thm, .net, .time, .pair, .cvu, .win, .safe, .mem, .memc])
  | .fltAck _ _ =>
    (busKeys ++
     [Keys.words 0x20040008 1 1, Keys.one Reg.FLT_STATUS_WERR, Keys.arr Reg.FLT_CAP_CNT_CNT 5, Keys.arr Reg.FLT_CAP_INFO_VALID 5],
     busZones)
  | .fltPendClear _ _ _ => (busKeys ++ [Keys.one Reg.FLT_STATUS_WERR, Keys.arr Reg.FLT_PEND 96, Keys.one Reg.FLT_STATUS_PIN], busZones)
  | .fltLock _ _ => (busKeys ++ [Keys.words 0x20040000 1 1, Keys.one Reg.FLT_STATUS_WERR], busZones)
  | .fltSw _ _ => (busKeys ++ [Keys.words 0x20040014 1 1, Keys.one Reg.FLT_STATUS_WERR], busZones)
  | .fltPinRel _ _ =>
    (busKeys ++
     [Keys.words 0x2004000C 1 1, Keys.one Reg.FLT_STATUS_WERR, Keys.one Reg.FLT_STATUS_PIN, Keys.one Reg.FLT_STATUS_PIN_LATCH],
     busZones)
  | .fltEngineUnfence _ _ =>
    (busKeys ++
     [Keys.words 0x20040070 1 1, Keys.one Reg.FLT_STATUS_WERR, Keys.arr Reg.FLT_FENCE_ENG 16],
     busZones)
  | .fltZoneUnfence _ _ _ => (busKeys ++ [Keys.one Reg.FLT_STATUS_WERR, Keys.arr Reg.FLT_ZFENCE 192], busZones)
  | .fltNetUnfence _ _ => (busKeys ++ [Keys.words 0x20040074 1 1, Keys.one Reg.FLT_STATUS_WERR, Keys.arr Reg.FLT_FENCE_NET 2], busZones)
  | .eventSourceEdge _ => (eventKeys, eventZones)
  | .evcSetpend _ _ _ => (busKeys ++ [Keys.words 0x20030110 0x4 4, Keys.one Reg.EVC_STATUS_WERR], busZones)
  | .evcPendClear _ _ _ => (busKeys ++ [Keys.one Reg.EVC_STATUS_WERR], busZones)
  | .eventEntry _ _ _ =>
    (eventKeys ++
     [Keys.arr Reg.EVC_ACT 128, Keys.arr Reg.EVC_ENG_STATE_TRAP 16, Keys.arr Reg.EVC_ENG_STATE_NMI 16,
      Keys.arr Reg.EVC_ENG_STATE_RUN_PRIO 16, Keys.arr Reg.EVC_ENG_STATE_SRC 16, Keys.arr Reg.EVC_ENG_STATE_DEPTH 16],
     eventZones)
  | .mret _ _ =>
    ([Keys.arr Reg.EVC_ENG_STATE_TRAP 16, Keys.arr Reg.EVC_ENG_STATE_NMI 16, Keys.arr Reg.EVC_ENG_STATE_RUN_PRIO 16,
      Keys.arr Reg.EVC_ENG_STATE_SRC 16, Keys.arr Reg.EVC_ENG_STATE_DEPTH 16, Keys.arr Reg.EVC_ENG_STATE_WFI 16,
      Keys.arr Reg.EVC_ACT 128, Keys.arr Reg.EVC_PEND 128],
     [.flt, .evc])
  | .syncException _ _ _ _ =>
    ([Keys.arr Reg.EVC_ENG_STATE_HALT 16, Keys.arr Reg.EVC_ACT 128, Keys.arr Reg.EVC_ENG_STATE_TRAP 16,
      Keys.arr Reg.EVC_ENG_STATE_NMI 16, Keys.arr Reg.EVC_ENG_STATE_RUN_PRIO 16, Keys.arr Reg.EVC_ENG_STATE_SRC 16,
      Keys.arr Reg.EVC_ENG_STATE_DEPTH 16, Keys.arr Reg.EVC_ENG_STATE_WFI 16],
     [.flt, .evc])
  | .nmiEntry _ _ =>
    ([Keys.arr Reg.EVC_ENG_STATE_WFI 16, Keys.arr Reg.EVC_ENG_STATE_TRAP 16, Keys.arr Reg.EVC_ENG_STATE_NMI 16,
      Keys.arr Reg.EVC_ENG_STATE_RUN_PRIO 16, Keys.arr Reg.EVC_ENG_STATE_SRC 16, Keys.arr Reg.EVC_ENG_STATE_DEPTH 16],
     [.flt, .evc])
  | .wfiEnter _ _ => ([Keys.arr Reg.EVC_ENG_STATE_WFI 16], [.flt, .evc])
  | .evcDrop _ _ _ =>
    (busKeys ++
     [Keys.words 0x20030810 0x40 16, Keys.one Reg.EVC_STATUS_WERR, Keys.arr Reg.EVC_ENG_STATE_TRAP 16, Keys.arr Reg.EVC_ENG_STATE_NMI 16,
      Keys.arr Reg.EVC_ENG_STATE_RUN_PRIO 16, Keys.arr Reg.EVC_ENG_STATE_SRC 16, Keys.arr Reg.EVC_ENG_STATE_DEPTH 16],
     busZones)
  | .evcRetarget _ _ _ => (busKeys ++ [Keys.words 0x20031000 0x10 128, Keys.one Reg.EVC_STATUS_WERR], busZones)
  | .redirectTimeout _ => (eventKeys ++ [Keys.one Reg.EVC_REDIR_CNT_COUNT], eventZones)
  | .engineHold _ _ _ =>
    (busKeys ++
     [Keys.words 0x20030800 0x40 16, Keys.one Reg.EVC_STATUS_WERR, Keys.arr Reg.EVC_ACT 128, Keys.arr Reg.EVC_ENG_STATE_TRAP 16,
      Keys.arr Reg.EVC_ENG_STATE_NMI 16, Keys.arr Reg.EVC_ENG_STATE_RUN_PRIO 16, Keys.arr Reg.EVC_ENG_STATE_SRC 16,
      Keys.arr Reg.EVC_ENG_STATE_DEPTH 16, Keys.arr Reg.EVC_ENG_WDT_CTRL_EN 16, Keys.arr Reg.EVC_ENG_STATE_HALT 16],
     busZones)
  | .engineRelease _ _ _ => (busKeys ++ [Keys.words 0x20030800 0x40 16, Keys.one Reg.EVC_STATUS_WERR], busZones)
  | .aperChange _ _ _ => (busKeys ++ [Keys.words 0x20030800 0x40 16, Keys.one Reg.EVC_STATUS_WERR], busZones)
  | .wdtEnable _ _ _ => (busKeys ++ [Keys.words 0x20030814 0x40 16, Keys.one Reg.EVC_STATUS_WERR], busZones)
  | .wdtKick _ _ _ => (busKeys ++ [Keys.words 0x2003081C 0x40 16, Keys.one Reg.EVC_STATUS_WERR], busZones)
  | .wdtWarnExpiry _ => ([], [.flt, .evc])
  | .wdtTimeout _ => ([], [.flt, .evc])
  | .uartDataWrite _ _ _ _ =>
    (busKeys ++
     [Keys.words 0x20170008 0x100 2, Keys.one Reg.SPI_STATUS_WERR, Keys.arr Reg.UART_STATUS_RXVALID 2,
      Keys.arr Reg.UART_STATUS_TXEMPTY 2, Keys.arr Reg.UART_STATUS_TXFULL 2],
     busZones ++ [.peri])
  | .uartDataRead _ =>
    (eventKeys ++
     [Keys.arr Reg.UART_STATUS_RXVALID 2, Keys.arr Reg.UART_STATUS_TXEMPTY 2, Keys.arr Reg.UART_STATUS_TXFULL 2,
      Keys.arr Reg.UART_DATA_DATA 2],
     eventZones ++ [.peri])
  | .uartRxByte _ _ _ =>
    (eventKeys ++
     [Keys.arr Reg.UART_STATUS_ERR 2, Keys.arr Reg.UART_STATUS_RXVALID 2, Keys.arr Reg.UART_STATUS_TXEMPTY 2,
      Keys.arr Reg.UART_STATUS_TXFULL 2],
     eventZones ++ [.peri])
  | .i2cGo _ _ _ =>
    (busKeys ++
     [Keys.words 0x20170204 0x100 2, Keys.words 0x20180104 1 1, Keys.one Reg.SPI_STATUS_WERR, Keys.one Reg.MASKIN_STATUS_WERR,
      Keys.arr Reg.I2C_STATUS_BUSY 2, Keys.one (Reg.I2C_STATUS_BUSY 2)],
     busZones ++ [.peri])
  | .i2cTransferEnd _ _ _ _ =>
    (eventKeys ++
     [Keys.arr Reg.I2C_STATUS_TXFREE 2, Keys.one (Reg.I2C_STATUS_TXFREE 2), Keys.arr Reg.I2C_STATUS_RXCNT 2,
      Keys.one (Reg.I2C_STATUS_RXCNT 2), Keys.arr Reg.I2C_STATUS_BUSY 2, Keys.one (Reg.I2C_STATUS_BUSY 2), Keys.arr Reg.I2C_CMD_GO 2,
      Keys.one (Reg.I2C_CMD_GO 2), Keys.arr Reg.I2C_STATUS_NACK 2, Keys.one (Reg.I2C_STATUS_NACK 2), Keys.arr Reg.I2C_STATUS_DONE 2,
      Keys.one (Reg.I2C_STATUS_DONE 2)],
     eventZones ++ [.peri])
  | .i2cStretchTimeout _ =>
    (eventKeys ++
     [Keys.arr Reg.I2C_STATUS_BUSY 2, Keys.one (Reg.I2C_STATUS_BUSY 2), Keys.arr Reg.I2C_CMD_GO 2, Keys.one (Reg.I2C_CMD_GO 2),
      Keys.arr Reg.I2C_STATUS_TMO 2, Keys.one (Reg.I2C_STATUS_TMO 2)],
     eventZones ++ [.peri])
  | .i2cDataAccess _ _ _ _ _ =>
    (busKeys ++
     [Keys.words 0x2017020C 0x100 2, Keys.words 0x2018010C 1 1, Keys.one Reg.SPI_STATUS_WERR, Keys.one Reg.MASKIN_STATUS_WERR,
      Keys.arr Reg.I2C_STATUS_TXFREE 2, Keys.one (Reg.I2C_STATUS_TXFREE 2), Keys.arr Reg.I2C_STATUS_RXCNT 2,
      Keys.one (Reg.I2C_STATUS_RXCNT 2)],
     busZones ++ [.peri])
  | .spiDataWrite _ _ =>
    (busKeys ++
     [Keys.words 0x20170408 1 1, Keys.one Reg.SPI_STATUS_WERR, Keys.one Reg.SPI_STATUS_BUSY],
     busZones ++ [.peri])
  | .spiFrameDone _ =>
    (eventKeys ++
     [Keys.one Reg.SPI_DATA_DATA, Keys.one Reg.SPI_STATUS_BUSY, Keys.one Reg.SPI_STATUS_DONE],
     eventZones ++ [.peri])
  | .gpioEdge _ _ => (eventKeys ++ [Keys.arr Reg.GPIO_IN_IN 16, Keys.arr Reg.GPIO_IN_FLAG 16], eventZones)
  | .timerEnable _ _ _ => (busKeys ++ [Keys.words 0x20170610 0x8 4, Keys.one Reg.SPI_STATUS_WERR], busZones ++ [.peri])
  | .timerExpiry _ => (eventKeys ++ [Keys.arr Reg.TIM_CTRL_EN 4, Keys.arr Reg.TIM_CTRL_FIRED 4], eventZones ++ [.peri])
  | .tbaseLoRead => ([], [.peri])
  | .memcEnable _ _ => (busKeys ++ [Keys.words 0x20060000 1 1, Keys.one Reg.MEMC_STATUS_WERR, Keys.one Reg.MEMC_STATUS_STATE], busZones)
  | .memcTrainingEnd _ => (eventKeys ++ [Keys.one Reg.MEMC_STATUS_STATE, Keys.one Reg.MEMC_CTRL_RETRAIN], eventZones)
  | .memcRetrain _ _ => (busKeys ++ [Keys.words 0x20060000 1 1, Keys.one Reg.MEMC_STATUS_WERR, Keys.one Reg.MEMC_STATUS_STATE], busZones)
  | .wck2dqTracking => ([], [])
  | .dramRead _ _ _ _ =>
    (eventKeys ++
     [Keys.one Reg.FLT_FENCE_HIT_COUNT, Keys.arr Reg.PWRCTL_XING 32, Keys.one Reg.CRYPTO_RNG_DATA, Keys.one Reg.FT_NEXT_SEC_HI_SEC_HI,
      Keys.one Reg.FT_NEXT_SEC_LO_SEC, Keys.one Reg.MEMC_ERR_CNT_CE, Keys.one Reg.MEMC_UE_ADDR_HI_ADDR,
      Keys.one Reg.MEMC_UE_ADDR_LO_ADDR, Keys.one Reg.MEMC_STATUS_ADDR_ERR, Keys.one Reg.MEMC_STATUS_UE],
     eventZones ++ [.peri, .free, .ft, .memc, .mem])
  | .dramPartialWrite _ _ _ _ =>
    (eventKeys ++
     [Keys.one Reg.FLT_FENCE_HIT_COUNT, Keys.one Reg.WIN_STATUS_BLK_SLOT, Keys.one Reg.MEMC_ERR_CNT_CE,
      Keys.one Reg.MEMC_UE_ADDR_HI_ADDR, Keys.one Reg.MEMC_UE_ADDR_LO_ADDR, Keys.one Reg.MEMC_STATUS_ADDR_ERR,
      Keys.one Reg.MEMC_STATUS_UE, Keys.arr Reg.PWRCTL_XING 32],
     eventZones ++ [.mem, .memc])
  | .scrubRead _ _ =>
    (eventKeys ++
     [Keys.one Reg.MEMC_ERR_CNT_CE, Keys.one Reg.MEMC_UE_ADDR_HI_ADDR, Keys.one Reg.MEMC_UE_ADDR_LO_ADDR,
      Keys.one Reg.MEMC_STATUS_ADDR_ERR, Keys.one Reg.MEMC_STATUS_UE],
     eventZones ++ [.memc, .mem])
  | .linkEccRate _ => (eventKeys ++ [Keys.one Reg.MEMC_ERR_CNT_LINK], eventZones ++ [.memc])
  | .dramTempReport _ => ([Keys.one Reg.MEMC_STATUS_TEMP_HI], [.flt])
  | .sramEcc _ _ _ _ _ =>
    (eventKeys ++
     [Keys.one Reg.FLT_FENCE_HIT_COUNT, Keys.arr Reg.PWRCTL_XING 32, Keys.one Reg.MEMC_SRAM_UE_BANK, Keys.one Reg.MEMC_SRAM_UE,
      Keys.one Reg.MEMC_SRAM_CE],
     eventZones ++ [.mem])
  | .winEnable _ _ =>
    (busKeys ++
     [Keys.words 0x20070000 1 1, Keys.one Reg.WIN_STATUS_WERR, Keys.span 0x20070100 0x200702FF, Keys.one Reg.WIN_XFER_GO,
      Keys.one Reg.WIN_STATUS_PEND_RETIRE, Keys.one Reg.WIN_STATUS_BLK_SLOT, Keys.one Reg.MEMC_ERR_CNT_CE,
      Keys.one Reg.MEMC_UE_ADDR_HI_ADDR, Keys.one Reg.MEMC_UE_ADDR_LO_ADDR, Keys.one Reg.MEMC_STATUS_ADDR_ERR,
      Keys.one Reg.MEMC_STATUS_UE, Keys.arr Reg.WIN_DMA_STATUS_ERR 4, Keys.arr Reg.WIN_DMA_CTRL_GO 4],
     busZones ++ [.win, .free, .mem, .memc])
  | .winLock _ _ => (busKeys ++ [Keys.words 0x20070000 1 1, Keys.one Reg.WIN_STATUS_WERR], busZones)
  | .winXferRequest _ _ =>
    (busKeys ++
     [Keys.words 0x20070014 1 1, Keys.one Reg.WIN_STATUS_WERR, Keys.one Reg.WIN_STATUS_XFER_CODE, Keys.one Reg.WIN_STATUS_PEND_RETIRE,
      Keys.arr Reg.WIN_OWN 1024, Keys.one Reg.WIN_STATUS_BLK_SLOT, Keys.one Reg.MEMC_ERR_CNT_CE, Keys.one Reg.MEMC_UE_ADDR_HI_ADDR,
      Keys.one Reg.MEMC_UE_ADDR_LO_ADDR, Keys.one Reg.MEMC_STATUS_ADDR_ERR, Keys.one Reg.MEMC_STATUS_UE,
      Keys.arr Reg.WIN_DMA_STATUS_ERR 4, Keys.arr Reg.WIN_DMA_CTRL_GO 4, Keys.one Reg.LAYER_COMMIT_ERR_LAYER,
      Keys.one Reg.LAYER_COMMIT_ERR_CODE, Keys.one Reg.LAYER_CTRL_COMMIT, Keys.arr Reg.LAYER_L_WARP_STATUS_CHK_CODE 8,
      Keys.arr Reg.LAYER_STATUS_ARMED 8],
     busZones ++ [.win, .free, .mem, .memc, .layer])
  | .winHandover =>
    (eventKeys ++
     [Keys.arr Reg.WIN_OWN 1024, Keys.one Reg.LAYER_COMMIT_ERR_LAYER, Keys.one Reg.LAYER_COMMIT_ERR_CODE, Keys.one Reg.LAYER_CTRL_COMMIT,
      Keys.arr Reg.LAYER_L_WARP_STATUS_CHK_CODE 8, Keys.arr Reg.LAYER_STATUS_ARMED 8, Keys.one Reg.WIN_STATUS_XFER_CODE,
      Keys.one Reg.WIN_XFER_GO],
     eventZones ++ [.win, .layer])
  | .winRetireHandover =>
    (eventKeys ++
     [Keys.arr Reg.WIN_OWN 1024, Keys.one Reg.WIN_STATUS_BLK_SLOT, Keys.one Reg.MEMC_ERR_CNT_CE, Keys.one Reg.MEMC_UE_ADDR_HI_ADDR,
      Keys.one Reg.MEMC_UE_ADDR_LO_ADDR, Keys.one Reg.MEMC_STATUS_ADDR_ERR, Keys.one Reg.MEMC_STATUS_UE,
      Keys.one Reg.FLT_FENCE_HIT_COUNT, Keys.arr Reg.PWRCTL_XING 32, Keys.arr Reg.WIN_DMA_STATUS_ERR 4, Keys.arr Reg.WIN_DMA_CTRL_GO 4,
      Keys.one Reg.WIN_STATUS_XFER_CODE, Keys.one Reg.WIN_STATUS_PEND_RETIRE, Keys.one Reg.LAYER_COMMIT_ERR_LAYER,
      Keys.one Reg.LAYER_COMMIT_ERR_CODE, Keys.one Reg.LAYER_CTRL_COMMIT, Keys.arr Reg.LAYER_L_WARP_STATUS_CHK_CODE 8,
      Keys.arr Reg.LAYER_STATUS_ARMED 8],
     eventZones ++ [.free, .mem, .memc, .win, .layer])
  | .slotWriteBlocked _ _ _ =>
    (eventKeys ++
     [Keys.one Reg.FLT_FENCE_HIT_COUNT, Keys.one Reg.WIN_STATUS_BLK_SLOT, Keys.one Reg.MEMC_ERR_CNT_CE,
      Keys.one Reg.MEMC_UE_ADDR_HI_ADDR, Keys.one Reg.MEMC_UE_ADDR_LO_ADDR, Keys.one Reg.MEMC_STATUS_ADDR_ERR,
      Keys.one Reg.MEMC_STATUS_UE, Keys.arr Reg.PWRCTL_XING 32],
     eventZones ++ [.mem, .memc])
  | .winDmaGo _ _ _ => (busKeys ++ [Keys.words 0x20070810 0x20 4, Keys.one Reg.WIN_STATUS_WERR], busZones ++ [.win])
  | .winDmaEnd _ _ =>
    (eventKeys ++
     [Keys.one Reg.WIN_STATUS_BLK_SLOT, Keys.one Reg.MEMC_ERR_CNT_CE, Keys.one Reg.MEMC_UE_ADDR_HI_ADDR,
      Keys.one Reg.MEMC_UE_ADDR_LO_ADDR, Keys.one Reg.MEMC_STATUS_ADDR_ERR, Keys.one Reg.MEMC_STATUS_UE,
      Keys.one Reg.FLT_FENCE_HIT_COUNT, Keys.arr Reg.PWRCTL_XING 32, Keys.arr Reg.WIN_DMA_STATUS_ERR 4, Keys.arr Reg.WIN_DMA_CTRL_GO 4,
      Keys.arr Reg.WIN_DMA_STATUS_DONE 4, Keys.one Reg.WIN_STATUS_XFER_CODE, Keys.one Reg.LAYER_COMMIT_ERR_LAYER,
      Keys.one Reg.LAYER_COMMIT_ERR_CODE, Keys.one Reg.LAYER_CTRL_COMMIT, Keys.arr Reg.LAYER_L_WARP_STATUS_CHK_CODE 8,
      Keys.arr Reg.LAYER_STATUS_ARMED 8, Keys.arr Reg.WIN_OWN 1024],
     eventZones ++ [.mem, .memc, .win, .layer, .free])
  | .winDmaTimeout _ =>
    (eventKeys ++
     [Keys.one Reg.WIN_STATUS_BLK_SLOT, Keys.one Reg.MEMC_ERR_CNT_CE, Keys.one Reg.MEMC_UE_ADDR_HI_ADDR,
      Keys.one Reg.MEMC_UE_ADDR_LO_ADDR, Keys.one Reg.MEMC_STATUS_ADDR_ERR, Keys.one Reg.MEMC_STATUS_UE,
      Keys.one Reg.FLT_FENCE_HIT_COUNT, Keys.arr Reg.PWRCTL_XING 32, Keys.arr Reg.WIN_DMA_STATUS_TMO 4, Keys.arr Reg.WIN_DMA_CTRL_GO 4],
     eventZones ++ [.free, .mem, .memc, .win])
  | .cvuStart _ _ _ =>
    (busKeys ++
     [Keys.words 0x20050000 0x40 4, Keys.arr Reg.CVU_STATUS_WERR 4, Keys.arr Reg.CVU_STATUS_BUSY 4],
     busZones ++ [.cvu])
  | .cvuScanEnd _ _ =>
    (eventKeys ++
     [Keys.arr Reg.CVU_STATUS_PASS 4, Keys.arr Reg.CVU_STATUS_ERR 4, Keys.one Reg.FLT_FENCE_HIT_COUNT, Keys.arr Reg.PWRCTL_XING 32,
      Keys.arr Reg.CVU_RESULT_VALUE 4, Keys.arr Reg.CVU_STATUS_MISMATCH 4, Keys.arr Reg.CVU_ALIVE_REF 4,
      Keys.arr Reg.CVU_STATUS_ALIVE_ERR 4, Keys.arr Reg.CVU_STATUS_BUSY 4, Keys.arr Reg.CVU_CTRL_STOP 4, Keys.arr Reg.CVU_CTRL_START 4],
     eventZones ++ [.cvu])
  | .cvuPeriod _ => (eventKeys ++ [Keys.arr Reg.CVU_STATUS_OVERRUN 4, Keys.arr Reg.CVU_STATUS_BUSY 4], eventZones ++ [.cvu])
  | .cvuStop _ _ _ => (busKeys ++ [Keys.words 0x20050000 0x40 4, Keys.arr Reg.CVU_STATUS_WERR 4], busZones)
  | .pairEnable _ _ =>
    (busKeys ++
     [Keys.words 0x20150000 1 1, Keys.one Reg.PAIR_STATUS_WERR, Keys.arr Reg.LANE_STATUS_RATE 15, Keys.arr Reg.LANE_STATUS_BLOCK_LOCK 15,
      Keys.arr Reg.LANE_STATUS_CDR_LOCK 15, Keys.arr Reg.LANE_STATUS_STATE 15, Keys.one Reg.PAIR_STATUS_STATE,
      Keys.one Reg.PAIR_STATUS_ARMED, Keys.one Reg.PAIR_STATUS_VER_CODE, Keys.one Reg.PAIR_STATUS_LEAD, Keys.one Reg.PAIR_STATUS_IN_SYNC],
     busZones)
  | .pairHelloSend => ([], [.pair, .lane])
  | .pairHelloRx _ =>
    (eventKeys ++
     [Keys.one Reg.PAIR_STATUS_ARMED, Keys.one Reg.PAIR_STATUS_LEAD, Keys.one Reg.PAIR_STATUS_CLAIM_ERR, Keys.arr Reg.TL_EPOCH_EPOCH 12,
      Keys.one Reg.HLTH_STATUS_RETEST, Keys.one Reg.HLTH_STATUS_QUEUE, Keys.one Reg.HLTH_FORCE_GO, Keys.one Reg.HLTH_RPT0_VALID,
      Keys.one Reg.HLTH_RPT0_OLD, Keys.one Reg.HLTH_RPT0_TILE, Keys.one Reg.HLTH_RPT0_Y, Keys.one Reg.HLTH_RPT0_X,
      Keys.one Reg.HLTH_RPT1_FRAME, Keys.one Reg.HLTH_RPT1_CODE, Keys.one Reg.HLTH_RPT0_NEW, Keys.one Reg.LSC_CTRL_EN,
      Keys.one Reg.LSC_STATUS_STATE, Keys.arr Reg.THM_ZLIM_ZLIM 192, Keys.one Reg.LSC_STATUS_VMAX_HIT, Keys.one Reg.LSC_STATUS_RAMP] ++
     [Keys.one Reg.LSC_VSET_SET, Keys.one Reg.LSC_NEEDY_REQ, Keys.one Reg.LSC_NEEDY_ZONE, Keys.one Reg.LSC_VSET_TARGET,
      Keys.arr Reg.LSC_ZL 192, Keys.one Reg.PAIR_STATUS_STATE, Keys.one Reg.PAIR_STATUS_VER_CODE],
     eventZones ++ [.pair, .lane, .tl, .hlth, .lsc, .free, .cal])
  | .roleDecision =>
    (eventKeys ++
     [Keys.one Reg.PAIR_STATUS_LEAD, Keys.one Reg.PAIR_STATUS_ARMED, Keys.one Reg.PAIR_STATUS_CLAIM_ERR, Keys.arr Reg.TL_EPOCH_EPOCH 12,
      Keys.one Reg.HLTH_STATUS_RETEST, Keys.one Reg.HLTH_STATUS_QUEUE, Keys.one Reg.HLTH_FORCE_GO, Keys.one Reg.HLTH_RPT0_VALID,
      Keys.one Reg.HLTH_RPT0_OLD, Keys.one Reg.HLTH_RPT0_TILE, Keys.one Reg.HLTH_RPT0_Y, Keys.one Reg.HLTH_RPT0_X,
      Keys.one Reg.HLTH_RPT1_FRAME, Keys.one Reg.HLTH_RPT1_CODE, Keys.one Reg.HLTH_RPT0_NEW, Keys.one Reg.LSC_CTRL_EN,
      Keys.one Reg.LSC_STATUS_STATE, Keys.arr Reg.THM_ZLIM_ZLIM 192, Keys.one Reg.LSC_STATUS_VMAX_HIT, Keys.one Reg.LSC_STATUS_RAMP] ++
     [Keys.one Reg.LSC_VSET_SET, Keys.one Reg.LSC_NEEDY_REQ, Keys.one Reg.LSC_NEEDY_ZONE, Keys.one Reg.LSC_VSET_TARGET,
      Keys.arr Reg.LSC_ZL 192],
     eventZones ++ [.pair, .lane, .tl, .hlth, .lsc, .free, .cal])
  | .pairProbe _ => ([], [.pair, .lane])
  | .beatRx _ =>
    (eventKeys ++
     [Keys.one Reg.PAIR_STATUS_ARMED, Keys.one Reg.PAIR_EPOCH_PEER, Keys.one Reg.PAIR_OFFSET_NS, Keys.one Reg.PAIR_STATUS_CLAIM_ERR,
      Keys.arr Reg.TL_EPOCH_EPOCH 12, Keys.one Reg.PAIR_STATUS_LEAD, Keys.one Reg.HLTH_STATUS_RETEST, Keys.one Reg.HLTH_STATUS_QUEUE,
      Keys.one Reg.HLTH_FORCE_GO, Keys.one Reg.HLTH_RPT0_VALID, Keys.one Reg.HLTH_RPT0_OLD, Keys.one Reg.HLTH_RPT0_TILE,
      Keys.one Reg.HLTH_RPT0_Y, Keys.one Reg.HLTH_RPT0_X, Keys.one Reg.HLTH_RPT1_FRAME, Keys.one Reg.HLTH_RPT1_CODE,
      Keys.one Reg.HLTH_RPT0_NEW, Keys.one Reg.PAIR_STATUS_IN_SYNC, Keys.one Reg.LSC_CTRL_EN, Keys.one Reg.LSC_STATUS_STATE] ++
     [Keys.arr Reg.THM_ZLIM_ZLIM 192, Keys.one Reg.LSC_STATUS_VMAX_HIT, Keys.one Reg.LSC_STATUS_RAMP, Keys.one Reg.LSC_VSET_SET,
      Keys.one Reg.LSC_NEEDY_REQ, Keys.one Reg.LSC_NEEDY_ZONE, Keys.one Reg.LSC_VSET_TARGET, Keys.arr Reg.LSC_ZL 192],
     eventZones ++ [.pair, .lane, .tl, .hlth, .lsc, .free, .cal])
  | .pairCrcRx _ =>
    (eventKeys ++
     [Keys.one Reg.PAIR_STATUS_ARMED, Keys.one Reg.PAIR_STATUS_IN_SYNC, Keys.one Reg.PAIR_STATUS_DIVERGE, Keys.arr Reg.PAIR_CMP_PORTS 12,
      Keys.one Reg.PAIR_CNT_DIVERGE],
     eventZones ++ [.pair])
  | .regMirrorRx _ => ([Keys.span 0 0xFFFFFFFF], allZones)
  | .commitMirrorRx _ =>
    (busKeys ++
     [Keys.one Reg.THM_COMMIT_ERR_CODE, Keys.one Reg.THM_CTRL_COMMIT, Keys.one Reg.PAIR_STATUS_ARMED,
      Keys.one Reg.LAYER_COMMIT_ERR_LAYER, Keys.one Reg.LAYER_COMMIT_ERR_CODE, Keys.one Reg.LAYER_CTRL_COMMIT,
      Keys.arr Reg.LAYER_L_WARP_STATUS_CHK_CODE 8, Keys.arr Reg.LAYER_STATUS_ARMED 8, Keys.one Reg.SA_COMMIT_ERR_CODE,
      Keys.one Reg.SA_CTRL_COMMIT, Keys.one Reg.SA_QUAD_NEED_INACTIVE, Keys.one Reg.SA_QUAD_NEED_ACTIVE, Keys.one Reg.SA_STATUS_MODE,
      Keys.one Reg.SA_STATUS_PROFILE, Keys.arr Reg.LAYER_L_WARP_STATUS_BUF_ROWS 8, Keys.arr Reg.LAYER_L_WARP_STATUS_FILTER 8,
      Keys.one Reg.SA_STATUS_SWITCH_PEND, Keys.one Reg.SA_STATUS_ACTIVE_BANK, Keys.arr Reg.LAYER_L_WARP_STATUS_CHK_BUSY 8,
      Keys.arr Reg.LAYER_L_WARP_STATUS_CHECKED 8] ++
     [Keys.arr Reg.LAYER_L_SPAN_MAX_SPAN 8, Keys.arr Reg.LANE_STATUS_RATE 15, Keys.arr Reg.LANE_STATUS_BLOCK_LOCK 15,
      Keys.arr Reg.LANE_STATUS_CDR_LOCK 15, Keys.arr Reg.LANE_STATUS_STATE 15, Keys.arr Reg.TL_STATUS_STATE 12,
      Keys.arr Reg.THM_ZLIM_ZLIM 192, Keys.arr Reg.HLTH_ZONE_FAIL 192, Keys.arr Reg.HLTH_CNT_DEAD_DEAD 12,
      Keys.one Reg.FT_COMMIT_ERR_CODE, Keys.one Reg.FT_CTRL_COMMIT, Keys.one Reg.HLTH_COMMIT_ERR_CODE, Keys.one Reg.HLTH_CTRL_COMMIT,
      Keys.one Reg.LSC_COMMIT_ERR_CODE, Keys.one Reg.LSC_CTRL_COMMIT],
     busZones ++ [.thm, .layer, .sa, .tl, .free, .hlth, .cal, .ft, .lsc])
  | .pairThermRx _ => ([Keys.one Reg.PAIR_STATUS_ARMED], [.thm, .pair, .free, .sa])
  | .pairZlimRx _ => ([Keys.arr Reg.THM_ZLIM_ZLIM 192, Keys.one Reg.PAIR_STATUS_ARMED], [.thm, .pair])
  | .pairHlthRx _ => ([Keys.one Reg.PAIR_STATUS_ARMED], [.hlth, .pair])
  | .pairMaskRx _ =>
    (busKeys ++
     [Keys.one Reg.PAIR_STATUS_ARMED, Keys.one Reg.MASKIN_ERR_SKIP, Keys.one Reg.MASKIN_STATUS_MASK_VALID,
      Keys.one Reg.MASKIN_CNT_FRAMES_OK, Keys.one Reg.MASKIN_CNT_FRAMES_BAD, Keys.one Reg.MASKIN_STATUS_IN_FRAME,
      Keys.one Reg.MASKIN_ERR_ORPHAN, Keys.one Reg.MASKIN_ERR_LEN, Keys.one Reg.MASKIN_ERR_HEIGHT, Keys.one Reg.WIN_STATUS_BLK_SLOT,
      Keys.one Reg.MEMC_ERR_CNT_CE, Keys.one Reg.MEMC_UE_ADDR_HI_ADDR, Keys.one Reg.MEMC_UE_ADDR_LO_ADDR,
      Keys.one Reg.MEMC_STATUS_ADDR_ERR, Keys.one Reg.MEMC_STATUS_UE],
     busZones ++ [.maskin, .lane, .mem, .memc])
  | .pairStateRx _ =>
    ([Keys.one Reg.CAL_I0_SCORR, Keys.one Reg.CAL_I0_I0, Keys.one Reg.CAL_KI_KI, Keys.one Reg.PAIR_STATUS_ARMED,
      Keys.one Reg.CAL_STATUS_KI_VALID],
     [.pair])
  | .pairSlotGo _ _ => (busKeys ++ [Keys.words 0x20150010 1 1, Keys.one Reg.PAIR_STATUS_WERR], busZones ++ [.lane])
  | .pairSlotRx _ =>
    (busKeys ++
     [Keys.one Reg.WIN_STATUS_BLK_SLOT, Keys.one Reg.MEMC_ERR_CNT_CE, Keys.one Reg.MEMC_UE_ADDR_HI_ADDR,
      Keys.one Reg.MEMC_UE_ADDR_LO_ADDR, Keys.one Reg.MEMC_STATUS_ADDR_ERR, Keys.one Reg.MEMC_STATUS_UE, Keys.one Reg.PAIR_STATUS_ARMED,
      Keys.one Reg.PAIR_CNT_SLOT_DROP],
     busZones ++ [.mem, .memc])
  | .pairSlotEndRx _ =>
    (busKeys ++
     [Keys.one Reg.LAYER_COMMIT_ERR_LAYER, Keys.one Reg.LAYER_COMMIT_ERR_CODE, Keys.one Reg.LAYER_CTRL_COMMIT,
      Keys.arr Reg.LAYER_L_WARP_STATUS_CHK_CODE 8, Keys.arr Reg.LAYER_STATUS_ARMED 8, Keys.arr Reg.WIN_OWN 1024,
      Keys.one Reg.WIN_STATUS_BLK_SLOT, Keys.one Reg.MEMC_ERR_CNT_CE, Keys.one Reg.MEMC_UE_ADDR_HI_ADDR,
      Keys.one Reg.MEMC_UE_ADDR_LO_ADDR, Keys.one Reg.MEMC_STATUS_ADDR_ERR, Keys.one Reg.MEMC_STATUS_UE,
      Keys.arr Reg.WIN_DMA_STATUS_ERR 4, Keys.arr Reg.WIN_DMA_CTRL_GO 4, Keys.one Reg.PAIR_STATUS_ARMED, Keys.one Reg.PAIR_STATUS_SLOT_ERR],
     busZones ++ [.layer, .free, .mem, .memc, .win])
  | .pairDump _ _ => (busKeys ++ [Keys.words 0x20150000 1 1, Keys.one Reg.PAIR_STATUS_WERR], busZones ++ [.lane])
  | .pairMsgRx _ => (eventKeys ++ [Keys.one Reg.PAIR_STATUS_ARMED], eventZones ++ [.pair])
  | .pairSilenceTimeout =>
    (eventKeys ++
     [Keys.one Reg.PAIR_STATUS_CLAIM_ERR, Keys.arr Reg.TL_EPOCH_EPOCH 12, Keys.one Reg.PAIR_STATUS_LEAD, Keys.one Reg.PAIR_STATUS_ARMED],
     eventZones ++ [.lane, .tl, .pair])
  | .pwrRequest _ _ =>
    ([Keys.words 0x20010004 1 1, Keys.one Reg.PWRCTL_STATUS_WERR, Keys.one Reg.PWRCTL_STATUS_BUSY, Keys.one Reg.PWRCTL_RAIL_EN,
      Keys.arr Reg.EVC_ENG_STATE_WFI 16, Keys.one Reg.PWRCTL_STATUS_SLEEP_ABORT, Keys.arr Reg.EVC_PEND 128,
      Keys.one Reg.FLT_FENCE_HIT_COUNT, Keys.arr Reg.PWRCTL_XING 32, Keys.one Reg.PWRCTL_STATUS_DOMAIN, Keys.one Reg.PWRCTL_STATUS_REFUSE],
     [.flt, .evc, .pwr, .pair])
  | .pwrQuiesceDone =>
    (eventKeys ++
     [Keys.arr Reg.EVC_ENG_STATE_TRAP 16, Keys.arr Reg.EVC_ENG_STATE_NMI 16, Keys.arr Reg.EVC_ENG_STATE_RUN_PRIO 16,
      Keys.arr Reg.EVC_ENG_STATE_SRC 16, Keys.arr Reg.EVC_ENG_STATE_DEPTH 16, Keys.arr Reg.EVC_ENG_WDT_CTRL_EN 16,
      Keys.arr Reg.EVC_ENG_STATE_HALT 16, Keys.span 0x20160000 0x2016FFFF, Keys.span 0x20020004 0x200300FF,
      Keys.span 0x20090000 0x2009FFFF, Keys.span 0x20180000 0x2018FFFF, Keys.span 0x200A0000 0x200AFFFF, Keys.span 0x200B0000 0x200BFFFF,
      Keys.span 0x200C0000 0x200CFFFF, Keys.span 0x200D0000 0x200DFFFF, Keys.span 0x200E0000 0x200EFFFF, Keys.span 0x200F0000 0x200FFFFF,
      Keys.span 0x20100000 0x2010FFFF, Keys.span 0x20110000 0x2011FFFF, Keys.span 0x20120000 0x2012FFFF] ++
     [Keys.span 0x20130000 0x2013FFFF, Keys.span 0x20150000 0x2015FFFF, Keys.span 0x20050000 0x2005FFFF, Keys.span 0x20170000 0x2017FFFF,
      Keys.arr Reg.PWRCTL_XING 32, Keys.span 0x20070000 0x2008FFFF, Keys.span 0x20030120 0x200307FF, Keys.span 0x20040000 0x2004FFFF,
      Keys.span 0x20000000 0x20000FFF, Keys.span 0x20140000 0x2014FFFF, Keys.span 0x20060000 0x2006FFFF],
     eventZones ++ [.live, .ident, .sa, .tl, .layer, .maskin, .peri, .ft, .lane, .hlth, .lsc, .thm, .cal, .net, .time, .pair, .cvu, .win, .free, .safe, .mem, .memc])
  | .powerDownDone =>
    (eventKeys ++
     [Keys.arr Reg.PWRCTL_STATE0 16, Keys.arr Reg.PWRCTL_STATE1 16, Keys.arr Reg.EVC_ENG_STATE_TRAP 16,
      Keys.arr Reg.EVC_ENG_STATE_NMI 16, Keys.arr Reg.EVC_ENG_STATE_RUN_PRIO 16, Keys.arr Reg.EVC_ENG_STATE_SRC 16,
      Keys.arr Reg.EVC_ENG_STATE_DEPTH 16, Keys.arr Reg.EVC_ENG_WDT_CTRL_EN 16, Keys.arr Reg.EVC_ENG_STATE_HALT 16,
      Keys.span 0x20160000 0x2016FFFF, Keys.span 0x20020004 0x200300FF, Keys.span 0x20090000 0x2009FFFF, Keys.span 0x20180000 0x2018FFFF,
      Keys.span 0x200A0000 0x200AFFFF, Keys.span 0x200B0000 0x200BFFFF, Keys.span 0x200C0000 0x200CFFFF, Keys.span 0x200D0000 0x200DFFFF,
      Keys.span 0x200E0000 0x200EFFFF, Keys.span 0x200F0000 0x200FFFFF, Keys.span 0x20100000 0x2010FFFF] ++
     [Keys.span 0x20110000 0x2011FFFF, Keys.span 0x20120000 0x2012FFFF, Keys.span 0x20130000 0x2013FFFF, Keys.span 0x20150000 0x2015FFFF,
      Keys.span 0x20050000 0x2005FFFF, Keys.span 0x20170000 0x2017FFFF, Keys.arr Reg.PWRCTL_XING 32, Keys.span 0x20070000 0x2008FFFF,
      Keys.span 0x20030120 0x200307FF, Keys.span 0x20040000 0x2004FFFF, Keys.span 0x20000000 0x20000FFF, Keys.span 0x20140000 0x2014FFFF,
      Keys.span 0x20060000 0x2006FFFF],
     eventZones ++ [.live, .ident, .sa, .tl, .layer, .maskin, .peri, .ft, .lane, .hlth, .lsc, .thm, .cal, .net, .time, .pair, .cvu, .win, .free, .safe, .mem, .memc])
  | .wakeStepReady _ =>
    (eventKeys ++
     [Keys.one Reg.PWRCTL_RAIL_PGOOD, Keys.one Reg.CLKRST_STATUS_NPLL_LOCK, Keys.one Reg.CLKRST_STATUS_TPLL_LOCK,
      Keys.one Reg.CLKRST_STATUS_XTAL_OK, Keys.one Reg.CLKRST_STATUS_SYSPLL_LOCK, Keys.arr Reg.PWRCTL_STATE0 16,
      Keys.arr Reg.PWRCTL_STATE1 16, Keys.one Reg.MEMC_STATUS_STATE],
     eventZones ++ [.sa, .layer, .mem, .peri])
  | .wakeStepTimeout _ => ([Keys.span 0 0xFFFFFFFF], allZones)
  | .pgoodFall _ _ => ([Keys.span 0 0xFFFFFFFF], allZones)
  | .vmonExcursion _ =>
    ([Keys.span 0 0xFFFFFFFF],
     [.part, .sa, .layer, .maskin, .ft, .tl, .lane, .hlth, .lsc, .thm, .cal, .time, .net, .safe, .flt, .evc, .peri, .cvu, .memc, .win, .pair, .pwr, .ident, .live, .mem])
  | .standbyRequest _ _ => (busKeys ++ [Keys.words 0x20010018 1 1, Keys.one Reg.PWRCTL_STATUS_WERR], busZones)
  | .standbyEntry => ([Keys.span 0 0xFFFFFFFF], allZones)
  | .wakePinEdge _ _ => ([Keys.span 0 0xFFFFFFFF], allZones)
  | .coldStart => ([Keys.span 0 0xFFFFFFFF], allZones)
  | .powerOnReset => ([Keys.span 0 0xFFFFFFFF], allZones)
  | .poresetN => ([Keys.span 0 0xFFFFFFFF], allZones)
  | .sysresetN => ([], [.pwr])
  | .softwareReset _ _ => (busKeys ++ [Keys.words 0x20020004 1 1, Keys.one Reg.CLKRST_STATUS_WERR], busZones)
  | .chipReset => ([Keys.span 0 0xFFFFFFFF], allZones)
  | .memoryWipeDone =>
    ([Keys.one Reg.CLKRST_STATUS_WIPE_BUSY, Keys.one Reg.CLKRST_STATUS_XTAL_OK, Keys.one Reg.CLKRST_STATUS_SYSPLL_LOCK],
     [.pwr, .evc])
  | .blockReset _ _ _ =>
    (busKeys ++
     [Keys.words 0x20020008 1 1, Keys.one Reg.CLKRST_STATUS_WERR, Keys.span 0x20080000 0x2008FFFF, Keys.span 0x20090000 0x2009FFFF,
      Keys.span 0x20180000 0x2018FFFF, Keys.span 0x200A0000 0x200AFFFF, Keys.span 0x200B0000 0x200BFFFF, Keys.span 0x200C0000 0x200CFFFF,
      Keys.span 0x200D0000 0x200DFFFF, Keys.span 0x200E0000 0x200EFFFF, Keys.span 0x200F0000 0x200FFFFF, Keys.span 0x20100000 0x2010FFFF,
      Keys.span 0x20110000 0x2011FFFF, Keys.span 0x20120000 0x2012FFFF, Keys.span 0x20130000 0x2013FFFF, Keys.span 0x20150000 0x2015FFFF,
      Keys.span 0x20050000 0x2005FFFF, Keys.span 0x20070000 0x2007FFFF, Keys.span 0x20170000 0x2017FFFF, Keys.one Reg.MEMC_ERR_CNT_CE] ++
     [Keys.one Reg.MEMC_UE_ADDR_HI_ADDR, Keys.one Reg.MEMC_UE_ADDR_LO_ADDR, Keys.one Reg.MEMC_STATUS_ADDR_ERR, Keys.one Reg.MEMC_STATUS_UE],
     busZones ++ [.sa, .tl, .live, .layer, .maskin, .peri, .ft, .lane, .hlth, .lsc, .thm, .cal, .net, .time, .cvu, .win, .free, .safe, .mem, .memc])
  | .swdtEnable _ _ => (busKeys ++ [Keys.words 0x20020010 1 1, Keys.one Reg.CLKRST_STATUS_WERR], busZones)
  | .swdtKick _ _ => (busKeys ++ [Keys.words 0x20020014 1 1, Keys.one Reg.CLKRST_STATUS_WERR], busZones)
  | .swdtHalf => (eventKeys, eventZones)
  | .swdtTimeout => ([], [.flt, .pwr])
  | .swdtForcedReset => ([Keys.span 0 0xFFFFFFFF], allZones)
  | .clockMonitor => ([], [.flt, .pwr])
  | .systemPllLoss => ([Keys.one Reg.CLKRST_STATUS_SYSPLL_LOCK], [.flt, .pwr])
  | .xtalFail => ([Keys.one Reg.CLKRST_STATUS_XTAL_OK], [.flt, .pwr])
  | .closedCrossingAccess _ _ _ => (eventKeys ++ [Keys.one Reg.FLT_FENCE_HIT_COUNT, Keys.arr Reg.PWRCTL_XING 32], eventZones)
  | .clkoutSelect _ _ => (busKeys ++ [Keys.words 0x20020018 1 1, Keys.one Reg.CLKRST_STATUS_WERR], busZones)
  | .bootRom _ _ =>
    (eventKeys ++
     [Keys.arr Reg.CRYPTO_DEVPUB_Y_WORD 8, Keys.arr Reg.CRYPTO_DEVPUB_X_WORD 8, Keys.one Reg.SYSCTL_BOOT_ENTRY,
      Keys.one Reg.SYSCTL_BOOT_CODE, Keys.one Reg.FLT_STATUS_PIN, Keys.one Reg.FLT_PIN_FORCE, Keys.one Reg.FLT_FENCE_HIT_COUNT,
      Keys.one Reg.WIN_STATUS_BLK_SLOT, Keys.one Reg.MEMC_ERR_CNT_CE, Keys.one Reg.MEMC_UE_ADDR_HI_ADDR,
      Keys.one Reg.MEMC_UE_ADDR_LO_ADDR, Keys.one Reg.MEMC_STATUS_ADDR_ERR, Keys.one Reg.MEMC_STATUS_UE, Keys.arr Reg.PWRCTL_XING 32,
      Keys.one Reg.SA_KLIB_VER_VER, Keys.one Reg.SYSCTL_BOOT_COPY_B, Keys.arr Reg.EVC_ENG_CTRL_HOLD 16, Keys.arr Reg.EVC_ENG_RSTVEC_VEC 16],
     eventZones ++ [.ident, .mem, .cal, .memc])
  | .svnWrite _ _ => (busKeys ++ [Keys.words 0x20000014 1 1, Keys.one Reg.SYSCTL_LC_STATUS_WERR], busZones ++ [.part])
  | .lcRequest _ _ _ => ([Keys.span 0 0xFFFFFFFF], allZones)
  | .lcFuseRecheck _ => ([], [.flt])
  | .debugOpenReq _ _ =>
    (busKeys ++
     [Keys.words 0x20000040 1 1, Keys.one Reg.SYSCTL_LC_STATUS_WERR, Keys.arr Reg.SYSCTL_NONCE_NONCE 4],
     busZones ++ [.free])
  | .debugClose _ _ => (busKeys ++ [Keys.words 0x20000040 1 1, Keys.one Reg.SYSCTL_LC_STATUS_WERR], busZones)
  | .cryptoSha256 _ _ =>
    (busKeys ++
     [Keys.words 0x20160000 1 1, Keys.one Reg.CRYPTO_STATUS_WERR, Keys.one Reg.CRYPTO_STATUS_BUSY],
     busZones ++ [.ident])
  | .cryptoSign _ _ =>
    (busKeys ++
     [Keys.words 0x20160000 1 1, Keys.one Reg.CRYPTO_STATUS_WERR, Keys.one Reg.CRYPTO_STATUS_BUSY],
     busZones ++ [.ident])
  | .cryptoVerify _ _ =>
    (busKeys ++
     [Keys.words 0x20160000 1 1, Keys.one Reg.CRYPTO_STATUS_WERR, Keys.one Reg.CRYPTO_STATUS_BUSY],
     busZones ++ [.ident])
  | .cryptoRngFill _ _ =>
    (busKeys ++
     [Keys.words 0x20160000 1 1, Keys.one Reg.CRYPTO_STATUS_WERR, Keys.one Reg.CRYPTO_STATUS_BUSY],
     busZones ++ [.ident])
  | .cryptoOpDone =>
    (eventKeys ++
     [Keys.one Reg.FLT_FENCE_HIT_COUNT, Keys.arr Reg.PWRCTL_XING 32, Keys.arr Reg.CRYPTO_DIGEST_WORD 8, Keys.arr Reg.CRYPTO_SIG_S_WORD 8,
      Keys.arr Reg.CRYPTO_SIG_R_WORD 8, Keys.one Reg.CRYPTO_RNG_DATA, Keys.one Reg.CRYPTO_STATUS_DONE, Keys.one Reg.CRYPTO_STATUS_ERR,
      Keys.one Reg.CRYPTO_CTRL_GO, Keys.one Reg.CRYPTO_STATUS_BUSY],
     eventZones ++ [.free, .ident])
  | .smkeyStore _ _ =>
    (busKeys ++
     [Keys.words 0x20160120 1 1, Keys.one Reg.CRYPTO_STATUS_WERR, Keys.arr Reg.CRYPTO_SMKEY_DATA 8],
     busZones ++ [.ident])
  | .trngHealthFail => ([Keys.one Reg.CRYPTO_RNG_DATA], [.flt, .free, .ident])
  | .laneLockTimeout _ =>
    (eventKeys ++
     [Keys.arr Reg.LANE_CNT_LOSS 15, Keys.arr Reg.LANE_STATUS_LOSS 15, Keys.arr Reg.LANE_STATUS_BLOCK_LOCK 15,
      Keys.arr Reg.LANE_STATUS_CDR_LOCK 15, Keys.arr Reg.TL_TRAIN_ERR_CODE 12, Keys.arr Reg.LANE_STATUS_RATE 15,
      Keys.arr Reg.LANE_STATUS_STATE 15, Keys.arr Reg.TL_STATUS_STATE 12],
     eventZones ++ [.tl])
  | .prbsCheckerSync _ _ =>
    (eventKeys ++
     [Keys.arr Reg.LANE_PRBS_ERR_COUNT 15, Keys.arr Reg.LANE_STATUS_PRBS_SYNC 15],
     eventZones ++ [.lane])
  | .prbsBitError _ _ =>
    (eventKeys ++
     [Keys.arr Reg.LANE_PRBS_ERR_COUNT 15, Keys.arr Reg.LANE_STATUS_PRBS_SYNC 15],
     eventZones ++ [.lane])
  | .partnerLanePacketError _ =>
    (eventKeys ++
     [Keys.one Reg.PAIR_STATUS_ARMED, Keys.one Reg.PAIR_CNT_CRC_ERR],
     eventZones ++ [.lane, .pair])
  | .pairStateSend => ([], [.pair, .lane])
  | .upstreamIdleRx _ _ => ([Keys.arr Reg.TL_CNT0_DROP 12], [])
  | .uartTxEmpty _ _ =>
    (eventKeys ++
     [Keys.arr Reg.UART_STATUS_RXVALID 2, Keys.arr Reg.UART_STATUS_TXEMPTY 2, Keys.arr Reg.UART_STATUS_TXFULL 2],
     eventZones ++ [.peri])
  | .ppsFall => ([], [.time])
  | .cuePulseEnd _ => ([], [.time])
  | .wakeStepRestart _ => ([Keys.one Reg.PWRCTL_RAIL_EN], [.pwr])

/-- The master, the register and the word of a command that is the write of a register. -/
def busTarget : Instr → Option (Master × Nat × Word)
  | .registerWrite _ _ _ _ => none
  | .commitGuard => none
  | .immediateCommitLive _ => none
  | .boundaryFix => none
  | .latchDeparture _ => none
  | .frameBoundary _ => none
  | .passADone _ => none
  | .passAAbandon => none
  | .nominalBoundaryPassed => none
  | .lineSlotStart _ => none
  | .lineBufferWatermark _ _ => none
  | .startOfBlanking => none
  | .kalPassBCheck _ => none
  | .lineMatch => none
  | .ftEnable m v => some (m, 0x200A0000, v)
  | .ftDisable m v => some (m, 0x200A0000, v)
  | .ftCommit m v => some (m, 0x200A0000, v)
  | .saEnable m v => some (m, 0x20080000, v)
  | .saCommit m v => some (m, 0x20080000, v)
  | .saLoadStart m v => some (m, 0x20080018, v)
  | .saLoadAbort m v => some (m, 0x20080018, v)
  | .saLoadEnd _ => none
  | .saDiagStart m v => some (m, 0x20080040, v)
  | .saDiagDone _ => none
  | .saEccDed _ _ _ => none
  | .saFenceSet m k v => some (m, 0x20080050 + 4 * k, v)
  | .layerEnable m v => some (m, 0x20090000, v)
  | .layerCommit m v => some (m, 0x20090000, v)
  | .scanoutAgentHandover => none
  | .fetchError _ _ => none
  | .maskinEnable m v => some (m, 0x20180000, v)
  | .maskinFrameStart _ => none
  | .maskinFrameEnd _ => none
  | .maskinLongPacket _ _ _ => none
  | .maskinShortPacket _ => none
  | .maskinHeaderEccError => none
  | .maskinOtherPacket _ => none
  | .maskComplete => none
  | .maskinLineTimeout => none
  | .protectedRegionWrite _ _ _ => none
  | .spanCheckStart => none
  | .spanCheckDone _ => none
  | .warpTapClamp _ _ => none
  | .driveReadError _ _ => none
  | .tlEnable p m v => some (m, tlAddr p, v)
  | .tlRetrain p m v => some (m, tlAddr p, v)
  | .trainingCapsSend _ => none
  | .capsRx _ _ => none
  | .capsTimeout _ => none
  | .rateRelock _ _ => none
  | .latencyProbeSet _ _ => none
  | .periodicProbe _ _ => none
  | .configOkTimeout _ => none
  | .tlClaim p m v => some (m, tlAddr p, v)
  | .tlFence p m v => some (m, tlAddr p, v)
  | .fbStart p m v => some (m, tlAddr p, v)
  | .fbReplyRx _ _ => none
  | .fbTimeout _ => none
  | .healthRx _ _ => none
  | .diagRetRx _ _ => none
  | .staleReplyRx _ _ => none
  | .capackTimeout _ => none
  | .idleKeepalive _ => none
  | .upstreamPacketError _ _ => none
  | .tlRxTimeout _ => none
  | .autoRetrainTimer _ => none
  | .laneIdleReq j m v => some (m, laneAddr j, v)
  | .idleExit _ _ => none
  | .laneLockAcquired _ _ _ => none
  | .laneLockLoss _ _ => none
  | .eyeWindowEnd _ _ _ _ => none
  | .laneAdapt j m v => some (m, laneAddr j, v)
  | .adaptationDone _ _ _ _ _ => none
  | .lanePrbsConfig j m v => some (m, laneAddr j, v)
  | .injOne j m v => some (m, laneAddr j, v)
  | .injBurst j m v => some (m, laneAddr j, v)
  | .lanePllLoss _ => none
  | .hlthEnable m v => some (m, 0x200D0000, v)
  | .hlthCommit m v => some (m, 0x200D0000, v)
  | .hlthForce m v => some (m, 0x200D0040, v)
  | .hlthCapture m v => some (m, 0x200D0000, v)
  | .hlthReportTimer => none
  | .hlthRptPop m v => some (m, 0x200D004C, v)
  | .lscEnable _ _ => none
  | .lscHandoverDone _ => none
  | .lscRelease => none
  | .lscLoopUpdate _ => none
  | .lscPhaseSample _ _ => none
  | .lscCommit m v => some (m, 0x200E0000, v)
  | .phaseOvercurrent _ _ => none
  | .persistentOvercurrent => none
  | .overVoltage => none
  | .underVoltage => none
  | .stageFault => none
  | .thmEnable m v => some (m, 0x200F0000, v)
  | .thmCommit m v => some (m, 0x200F0000, v)
  | .thmModelStep _ => none
  | .thmTick => none
  | .thmSensorSuspect _ _ _ => none
  | .thmModelDeviation _ => none
  | .tileSensorTimeout _ => none
  | .dieTempSample _ _ _ _ => none
  | .thermalShutdown => none
  | .shutdownDeferLimit => none
  | .tCritComparator => none
  | .thermalRestart => none
  | .calEnable m v => some (m, 0x20100000, v)
  | .adcCorrMeasure => none
  | .adcCorrDone _ _ _ => none
  | .calStart m v => some (m, 0x20100000, v)
  | .calIntervalTimer => none
  | .calTempCheck => none
  | .calRunTimeout => none
  | .autoSaveWrite => none
  | .calExtStart m v => some (m, 0x20100050, v)
  | .calExtStep m v => some (m, 0x20100050, v)
  | .calExtFinish m v => some (m, 0x20100050, v)
  | .calExtAbort m v => some (m, 0x20100050, v)
  | .nvRead m v => some (m, 0x20100080, v)
  | .nvWrite m v => some (m, 0x20100080, v)
  | .nvWriteDone _ => none
  | .netEnable n m v => some (m, netCtrl n, v)
  | .netLinkChange _ _ _ _ => none
  | .netRxKick n m v => some (m, netCtrl n, v)
  | .netTxKick n m v => some (m, netCtrl n, v)
  | .netFrameRx _ _ _ _ => none
  | .netFrameTx _ _ => none
  | .mdioAccess m v => some (m, 0x201100A0, v)
  | .mdioDone _ => none
  | .timeDomainEn d m v => some (m, 0x20130100 + d.val * 0x40, v)
  | .timeLoad d m v => some (m, 0x20130100 + d.val * 0x40, v)
  | .timeStep d m v => some (m, 0x20130100 + d.val * 0x40, v)
  | .timeAdjustApply _ => none
  | .ftSourceSwitch m v => some (m, 0x20130000, v)
  | .switchPendApply => none
  | .timeSlewStep => none
  | .timeNsRead _ _ => none
  | .ftNextNsRead => none
  | .timeCaptureEdge _ _ => none
  | .timeCapInfoRead _ => none
  | .ppsEdge => none
  | .cueFire _ => none
  | .safeEnable m v => some (m, 0x20140000, v)
  | .safeAck m v => some (m, 0x20140000, v)
  | .safeRestrict m v => some (m, 0x20140000, v)
  | .safeFbReq m v => some (m, 0x20140000, v)
  | .proofReq m v => some (m, 0x20140000, v)
  | .proofClr m v => some (m, 0x20140000, v)
  | .cmonTest m v => some (m, 0x20140000, v)
  | .cmonTestDone _ => none
  | .clampMonitorTrip _ => none
  | .sealRead _ _ => none
  | .interlockSample _ _ => none
  | .testPulseCheck _ _ _ _ => none
  | .discrepancyTick => none
  | .fallbackSilence => none
  | .dualWinExpiry => none
  | .safeWatchExpiry => none
  | .safeGrantWrite m k v => some (m, 0x20140200 + k.val * 0x10, v)
  | .safeMboxPop m v => some (m, 0x2014007C, v)
  | .faultOccurrence _ _ => none
  | .fltAck m v => some (m, 0x20040008, v)
  | .fltPendClear m k v => some (m, 0x20040020 + 4 * k, v)
  | .fltLock m v => some (m, 0x20040000, v)
  | .fltSw m v => some (m, 0x20040014, v)
  | .fltPinRel m v => some (m, 0x2004000C, v)
  | .fltEngineUnfence m v => some (m, 0x20040070, v)
  | .fltZoneUnfence m k v => some (m, 0x20040080 + 4 * k, v)
  | .fltNetUnfence m v => some (m, 0x20040074, v)
  | .eventSourceEdge _ => none
  | .evcSetpend m k v => some (m, 0x20030110 + k * 4, v)
  | .evcPendClear m k v => some (m, 0x20030100 + k * 4, v)
  | .eventEntry _ _ _ => none
  | .mret _ _ => none
  | .syncException _ _ _ _ => none
  | .nmiEntry _ _ => none
  | .wfiEnter _ _ => none
  | .evcDrop m e v => some (m, 0x20030810 + e * 0x40, v)
  | .evcRetarget m n v => some (m, 0x20031000 + n * 0x10, v)
  | .redirectTimeout _ => none
  | .engineHold m e v => some (m, 0x20030800 + e * 0x40, v)
  | .engineRelease m e v => some (m, 0x20030800 + e * 0x40, v)
  | .aperChange m e v => some (m, 0x20030800 + e * 0x40, v)
  | .wdtEnable m e v => some (m, 0x20030814 + e * 0x40, v)
  | .wdtKick m e v => some (m, 0x2003081C + e * 0x40, v)
  | .wdtWarnExpiry _ => none
  | .wdtTimeout _ => none
  | .uartDataWrite m u v _ => some (m, 0x20170008 + u * 0x100, v)
  | .uartDataRead _ => none
  | .uartRxByte _ _ _ => none
  | .i2cGo m c v => some (m, i2cAddr c + 4, v)
  | .i2cTransferEnd _ _ _ _ => none
  | .i2cStretchTimeout _ => none
  | .i2cDataAccess m c w _ _ => w.map (fun v => (m, i2cAddr c + 0xC, v))
  | .spiDataWrite m v => some (m, 0x20170408, v)
  | .spiFrameDone _ => none
  | .gpioEdge _ _ => none
  | .timerEnable m k v => some (m, 0x20170610 + k * 8, v)
  | .timerExpiry _ => none
  | .tbaseLoRead => none
  | .memcEnable m v => some (m, 0x20060000, v)
  | .memcTrainingEnd _ => none
  | .memcRetrain m v => some (m, 0x20060000, v)
  | .wck2dqTracking => none
  | .dramRead _ _ _ _ => none
  | .dramPartialWrite _ _ _ _ => none
  | .scrubRead _ _ => none
  | .linkEccRate _ => none
  | .dramTempReport _ => none
  | .sramEcc _ _ _ _ _ => none
  | .winEnable m v => some (m, 0x20070000, v)
  | .winLock m v => some (m, 0x20070000, v)
  | .winXferRequest m v => some (m, 0x20070014, v)
  | .winHandover => none
  | .winRetireHandover => none
  | .slotWriteBlocked _ _ _ => none
  | .winDmaGo m c v => some (m, winDmaAddr c, v)
  | .winDmaEnd _ _ => none
  | .winDmaTimeout _ => none
  | .cvuStart m u v => some (m, cvuAddr u, v)
  | .cvuScanEnd _ _ => none
  | .cvuPeriod _ => none
  | .cvuStop m u v => some (m, cvuAddr u, v)
  | .pairEnable m v => some (m, 0x20150000, v)
  | .pairHelloSend => none
  | .pairHelloRx _ => none
  | .roleDecision => none
  | .pairProbe _ => none
  | .beatRx _ => none
  | .pairCrcRx _ => none
  | .regMirrorRx _ => none
  | .commitMirrorRx _ => none
  | .pairThermRx _ => none
  | .pairZlimRx _ => none
  | .pairHlthRx _ => none
  | .pairMaskRx _ => none
  | .pairStateRx _ => none
  | .pairSlotGo m v => some (m, 0x20150010, v)
  | .pairSlotRx _ => none
  | .pairSlotEndRx _ => none
  | .pairDump m v => some (m, 0x20150000, v)
  | .pairMsgRx _ => none
  | .pairSilenceTimeout => none
  | .pwrRequest m v => some (m, 0x20010004, v)
  | .pwrQuiesceDone => none
  | .powerDownDone => none
  | .wakeStepReady _ => none
  | .wakeStepTimeout _ => none
  | .pgoodFall _ _ => none
  | .vmonExcursion _ => none
  | .standbyRequest m v => some (m, 0x20010018, v)
  | .standbyEntry => none
  | .wakePinEdge _ _ => none
  | .coldStart => none
  | .powerOnReset => none
  | .poresetN => none
  | .sysresetN => none
  | .softwareReset m v => some (m, 0x20020004, v)
  | .chipReset => none
  | .memoryWipeDone => none
  | .blockReset m v _ => some (m, 0x20020008, v)
  | .swdtEnable m v => some (m, 0x20020010, v)
  | .swdtKick m v => some (m, 0x20020014, v)
  | .swdtHalf => none
  | .swdtTimeout => none
  | .swdtForcedReset => none
  | .clockMonitor => none
  | .systemPllLoss => none
  | .xtalFail => none
  | .closedCrossingAccess _ _ _ => none
  | .clkoutSelect m v => some (m, 0x20020018, v)
  | .bootRom _ _ => none
  | .svnWrite m v => some (m, 0x20000014, v)
  | .lcRequest m v _ => some (m, 0x20000030, v)
  | .lcFuseRecheck _ => none
  | .debugOpenReq m v => some (m, 0x20000040, v)
  | .debugClose m v => some (m, 0x20000040, v)
  | .cryptoSha256 m v => some (m, 0x20160000, v)
  | .cryptoSign m v => some (m, 0x20160000, v)
  | .cryptoVerify m v => some (m, 0x20160000, v)
  | .cryptoRngFill m v => some (m, 0x20160000, v)
  | .cryptoOpDone => none
  | .smkeyStore m v => some (m, 0x20160120, v)
  | .trngHealthFail => none
  | .laneLockTimeout _ => none
  | .prbsCheckerSync _ _ => none
  | .prbsBitError _ _ => none
  | .partnerLanePacketError _ => none
  | .pairStateSend => none
  | .upstreamIdleRx _ _ => none
  | .uartTxEmpty _ _ => none
  | .ppsFall => none
  | .cuePulseEnd _ => none
  | .wakeStepRestart _ => none

/-- The bit that a written command acts on: written 0, the command has no effect of its own. None where it acts on either value. -/
def goBit : Instr → Option Nat
  | .registerWrite _ _ _ _ => none
  | .commitGuard => none
  | .immediateCommitLive _ => none
  | .boundaryFix => none
  | .latchDeparture _ => none
  | .frameBoundary _ => none
  | .passADone _ => none
  | .passAAbandon => none
  | .nominalBoundaryPassed => none
  | .lineSlotStart _ => none
  | .lineBufferWatermark _ _ => none
  | .startOfBlanking => none
  | .kalPassBCheck _ => none
  | .lineMatch => none
  | .ftEnable _ _ => some 0
  | .ftDisable _ _ => none
  | .ftCommit _ _ => some 1
  | .saEnable _ _ => none
  | .saCommit _ _ => some 1
  | .saLoadStart _ _ => some 0
  | .saLoadAbort _ _ => some 2
  | .saLoadEnd _ => none
  | .saDiagStart _ _ => some 8
  | .saDiagDone _ => none
  | .saEccDed _ _ _ => none
  | .saFenceSet _ _ _ => none
  | .layerEnable _ _ => none
  | .layerCommit _ _ => some 1
  | .scanoutAgentHandover => none
  | .fetchError _ _ => none
  | .maskinEnable _ _ => none
  | .maskinFrameStart _ => none
  | .maskinFrameEnd _ => none
  | .maskinLongPacket _ _ _ => none
  | .maskinShortPacket _ => none
  | .maskinHeaderEccError => none
  | .maskinOtherPacket _ => none
  | .maskComplete => none
  | .maskinLineTimeout => none
  | .protectedRegionWrite _ _ _ => none
  | .spanCheckStart => none
  | .spanCheckDone _ => none
  | .warpTapClamp _ _ => none
  | .driveReadError _ _ => none
  | .tlEnable _ _ _ => none
  | .tlRetrain _ _ _ => some 1
  | .trainingCapsSend _ => none
  | .capsRx _ _ => none
  | .capsTimeout _ => none
  | .rateRelock _ _ => none
  | .latencyProbeSet _ _ => none
  | .periodicProbe _ _ => none
  | .configOkTimeout _ => none
  | .tlClaim _ _ _ => some 8
  | .tlFence _ _ _ => some 9
  | .fbStart _ _ _ => some 7
  | .fbReplyRx _ _ => none
  | .fbTimeout _ => none
  | .healthRx _ _ => none
  | .diagRetRx _ _ => none
  | .staleReplyRx _ _ => none
  | .capackTimeout _ => none
  | .idleKeepalive _ => none
  | .upstreamPacketError _ _ => none
  | .tlRxTimeout _ => none
  | .autoRetrainTimer _ => none
  | .laneIdleReq _ _ _ => none
  | .idleExit _ _ => none
  | .laneLockAcquired _ _ _ => none
  | .laneLockLoss _ _ => none
  | .eyeWindowEnd _ _ _ _ => none
  | .laneAdapt _ _ _ => some 8
  | .adaptationDone _ _ _ _ _ => none
  | .lanePrbsConfig _ _ _ => none
  | .injOne _ _ _ => some 9
  | .injBurst _ _ _ => some 10
  | .lanePllLoss _ => none
  | .hlthEnable _ _ => none
  | .hlthCommit _ _ => some 1
  | .hlthForce _ _ => some 31
  | .hlthCapture _ _ => some 2
  | .hlthReportTimer => none
  | .hlthRptPop _ _ => some 0
  | .lscEnable _ _ => none
  | .lscHandoverDone _ => none
  | .lscRelease => none
  | .lscLoopUpdate _ => none
  | .lscPhaseSample _ _ => none
  | .lscCommit _ _ => some 1
  | .phaseOvercurrent _ _ => none
  | .persistentOvercurrent => none
  | .overVoltage => none
  | .underVoltage => none
  | .stageFault => none
  | .thmEnable _ _ => none
  | .thmCommit _ _ => some 1
  | .thmModelStep _ => none
  | .thmTick => none
  | .thmSensorSuspect _ _ _ => none
  | .thmModelDeviation _ => none
  | .tileSensorTimeout _ => none
  | .dieTempSample _ _ _ _ => none
  | .thermalShutdown => none
  | .shutdownDeferLimit => none
  | .tCritComparator => none
  | .thermalRestart => none
  | .calEnable _ _ => none
  | .adcCorrMeasure => none
  | .adcCorrDone _ _ _ => none
  | .calStart _ _ => some 1
  | .calIntervalTimer => none
  | .calTempCheck => none
  | .calRunTimeout => none
  | .autoSaveWrite => none
  | .calExtStart _ _ => some 0
  | .calExtStep _ _ => some 1
  | .calExtFinish _ _ => some 2
  | .calExtAbort _ _ => some 3
  | .nvRead _ _ => some 24
  | .nvWrite _ _ => some 25
  | .nvWriteDone _ => none
  | .netEnable _ _ _ => none
  | .netLinkChange _ _ _ _ => none
  | .netRxKick _ _ _ => some 7
  | .netTxKick _ _ _ => some 8
  | .netFrameRx _ _ _ _ => none
  | .netFrameTx _ _ => none
  | .mdioAccess _ _ => some 31
  | .mdioDone _ => none
  | .timeDomainEn _ _ _ => none
  | .timeLoad _ _ _ => some 1
  | .timeStep _ _ _ => some 2
  | .timeAdjustApply _ => none
  | .ftSourceSwitch _ _ => none
  | .switchPendApply => none
  | .timeSlewStep => none
  | .timeNsRead _ _ => none
  | .ftNextNsRead => none
  | .timeCaptureEdge _ _ => none
  | .timeCapInfoRead _ => none
  | .ppsEdge => none
  | .cueFire _ => none
  | .safeEnable _ _ => some 0
  | .safeAck _ _ => some 1
  | .safeRestrict _ _ => none
  | .safeFbReq _ _ => none
  | .proofReq _ _ => some 4
  | .proofClr _ _ => some 5
  | .cmonTest _ _ => some 6
  | .cmonTestDone _ => none
  | .clampMonitorTrip _ => none
  | .sealRead _ _ => none
  | .interlockSample _ _ => none
  | .testPulseCheck _ _ _ _ => none
  | .discrepancyTick => none
  | .fallbackSilence => none
  | .dualWinExpiry => none
  | .safeWatchExpiry => none
  | .safeGrantWrite _ _ _ => none
  | .safeMboxPop _ _ => some 0
  | .faultOccurrence _ _ => none
  | .fltAck _ _ => none
  | .fltPendClear _ _ _ => none
  | .fltLock _ _ => some 0
  | .fltSw _ _ => some 31
  | .fltPinRel _ _ => none
  | .fltEngineUnfence _ _ => none
  | .fltZoneUnfence _ _ _ => none
  | .fltNetUnfence _ _ => none
  | .eventSourceEdge _ => none
  | .evcSetpend _ _ _ => none
  | .evcPendClear _ _ _ => none
  | .eventEntry _ _ _ => none
  | .mret _ _ => none
  | .syncException _ _ _ _ => none
  | .nmiEntry _ _ => none
  | .wfiEnter _ _ => none
  | .evcDrop _ _ _ => none
  | .evcRetarget _ _ _ => none
  | .redirectTimeout _ => none
  | .engineHold _ _ _ => some 0
  | .engineRelease _ _ _ => none
  | .aperChange _ _ _ => none
  | .wdtEnable _ _ _ => some 0
  | .wdtKick _ _ _ => none
  | .wdtWarnExpiry _ => none
  | .wdtTimeout _ => none
  | .uartDataWrite _ _ _ _ => none
  | .uartDataRead _ => none
  | .uartRxByte _ _ _ => none
  | .i2cGo _ _ _ => some 31
  | .i2cTransferEnd _ _ _ _ => none
  | .i2cStretchTimeout _ => none
  | .i2cDataAccess _ _ _ _ _ => none
  | .spiDataWrite _ _ => none
  | .spiFrameDone _ => none
  | .gpioEdge _ _ => none
  | .timerEnable _ _ _ => none
  | .timerExpiry _ => none
  | .tbaseLoRead => none
  | .memcEnable _ _ => none
  | .memcTrainingEnd _ => none
  | .memcRetrain _ _ => some 1
  | .wck2dqTracking => none
  | .dramRead _ _ _ _ => none
  | .dramPartialWrite _ _ _ _ => none
  | .scrubRead _ _ => none
  | .linkEccRate _ => none
  | .dramTempReport _ => none
  | .sramEcc _ _ _ _ _ => none
  | .winEnable _ _ => none
  | .winLock _ _ => some 1
  | .winXferRequest _ _ => some 31
  | .winHandover => none
  | .winRetireHandover => none
  | .slotWriteBlocked _ _ _ => none
  | .winDmaGo _ _ _ => some 0
  | .winDmaEnd _ _ => none
  | .winDmaTimeout _ => none
  | .cvuStart _ _ _ => some 0
  | .cvuScanEnd _ _ => none
  | .cvuPeriod _ => none
  | .cvuStop _ _ _ => some 1
  | .pairEnable _ _ => none
  | .pairHelloSend => none
  | .pairHelloRx _ => none
  | .roleDecision => none
  | .pairProbe _ => none
  | .beatRx _ => none
  | .pairCrcRx _ => none
  | .regMirrorRx _ => none
  | .commitMirrorRx _ => none
  | .pairThermRx _ => none
  | .pairZlimRx _ => none
  | .pairHlthRx _ => none
  | .pairMaskRx _ => none
  | .pairStateRx _ => none
  | .pairSlotGo _ _ => some 31
  | .pairSlotRx _ => none
  | .pairSlotEndRx _ => none
  | .pairDump _ _ => some 4
  | .pairMsgRx _ => none
  | .pairSilenceTimeout => none
  | .pwrRequest _ _ => some 31
  | .pwrQuiesceDone => none
  | .powerDownDone => none
  | .wakeStepReady _ => none
  | .wakeStepTimeout _ => none
  | .pgoodFall _ _ => none
  | .vmonExcursion _ => none
  | .standbyRequest _ _ => some 0
  | .standbyEntry => none
  | .wakePinEdge _ _ => none
  | .coldStart => none
  | .powerOnReset => none
  | .poresetN => none
  | .sysresetN => none
  | .softwareReset _ _ => none
  | .chipReset => none
  | .memoryWipeDone => none
  | .blockReset _ _ _ => none
  | .swdtEnable _ _ => some 0
  | .swdtKick _ _ => none
  | .swdtHalf => none
  | .swdtTimeout => none
  | .swdtForcedReset => none
  | .clockMonitor => none
  | .systemPllLoss => none
  | .xtalFail => none
  | .closedCrossingAccess _ _ _ => none
  | .clkoutSelect _ _ => none
  | .bootRom _ _ => none
  | .svnWrite _ _ => none
  | .lcRequest _ _ _ => some 0
  | .lcFuseRecheck _ => none
  | .debugOpenReq _ _ => some 0
  | .debugClose _ _ => some 1
  | .cryptoSha256 _ _ => some 31
  | .cryptoSign _ _ => some 31
  | .cryptoVerify _ _ => some 31
  | .cryptoRngFill _ _ => some 31
  | .cryptoOpDone => none
  | .smkeyStore _ _ => some 31
  | .trngHealthFail => none
  | .laneLockTimeout _ => none
  | .prbsCheckerSync _ _ => none
  | .prbsBitError _ _ => none
  | .partnerLanePacketError _ => none
  | .pairStateSend => none
  | .upstreamIdleRx _ _ => none
  | .uartTxEmpty _ _ => none
  | .ppsFall => none
  | .cuePulseEnd _ => none
  | .wakeStepRestart _ => none

end Sys2Proof.Machine
end

