-- ==== Sys2Proof/Certificates/Slice0/Obligations.lean ====
section
/-! DEFINITION. The statements for the provers. A clause says that a command answers a next state, of which its conclusion holds. -/

open Sys2Proof Sys2Proof.Machine Sys2Proof.Machine.Reg

/-- Completion of every command of registers, commits and frame timing -/
def Obligations.CompletionFrameTiming : Prop :=
  ∀ (s u : State) (m : Master) (v : Word) (a : Int),
  (∀ (k : Fin 4), s.accepts m (TIM_LOAD_LOAD k).addr →
    Answers (.registerWrite m (TIM_LOAD_LOAD k).addr 4 v) s fun t => t.rd (TIM_LOAD_LOAD k) = v.toNat) ∧
  (s.on FT_STATUS_RUN → s.ft.guard < s.ft.m + 2 → s.on FT_CTRL_COMMIT → s.ft.cap = none → s.ftCode = 0 → ¬ s.ledBlock 2 →
    Answers .commitGuard s fun t => t.ft.guard = s.ft.guard + 1) ∧
  (∀ (c : Captured), s.lsc.cap = some c → c.now → Answers (.immediateCommitLive .lsc) s fun t => t.rd LSC_CTRL_COMMIT = 0) ∧
  (s.canFix → s.ft.stream = none → Answers .boundaryFix s fun t => t.ft.fixed = some s.boundaryTick) ∧
  (∀ (k : BitVec 12) (st : Stream), s.ft.stream = some st → ¬ st.aborted → ¬ st.latched → s.ft.fixed = some a → s.info.h ≤ st.lines →
    Answers (.latchDeparture k) s fun t => t.rd SA_DRV_FRAME_FRAME_NO = st.frame.no % 2 ^ 32 ∧ t.ft.stream = some { st with latched := true }) ∧
  (∀ (c : List (Fin 4096)), s.on FT_STATUS_RUN → s.ft.fixed = some a → ¬ s.ft.clear → ¬ s.sa.stopWait → s.sa.fallback = none →
    Answers (.frameBoundary c) s fun t => t.rd FT_FRAME_FRAME_NO = frameNo s.ft.m) ∧
  (∀ (w : Word) (f : Frame) (i : Image), s.ft.passA = some f → s.image = some i → f.done = none → ¬ s.thermWaits f.no →
    Answers (.passADone w) s fun t => (∃ g, t.ft.passA = some g ∧ g.no = f.no ∧ g.done.isSome = true)) ∧
  (∀ (f : Frame), s.ft.passA = some f → f.done = none → Answers .passAAbandon s fun t => t.ft.passA = none ∧ t.ft.m = s.ft.m + 1) ∧
  (s.on FT_STATUS_RUN → ¬ s.on FT_STATUS_LATE → Answers .nominalBoundaryPassed s fun t => t.rd FT_STATUS_LATE = 1 ∧ t.fired 4) ∧
  (∀ (k : BitVec 12) (j : Nat), s.on FT_STATUS_RUN → s.ft.last = some a → s.ft.stream = none → s.ft.slot = some j →
    Answers (.lineSlotStart k) s fun t => t.ft.slot = some (j + 1)) ∧
  (∀ (p : Fin 12) (n : Fin 5), (n : Nat) < max 1 (s.rd FT_WMARK_WMARK) →
    Answers (.lineBufferWatermark p n) s fun t => t.ft.urgent[p] ∧ t.rd FT_STATUS_URGENT = 1) ∧
  (s.on FT_STATUS_RUN → s.ft.last = some a → Answers .startOfBlanking s fun t => t.fired 0) ∧
  (∀ (c : Word) (st : Stream) (i : Image), s.ft.stream = some st → s.imageB = some i → ¬ s.sa.kalB → c.toNat = i.answer st.frame.no 4 →
    Answers (.kalPassBCheck c) s fun t => ¬ t.sa.kalB ∧ t.regs = s.regs ∧ t.ft = s.ft) ∧
  (s.on FT_STATUS_RUN → s.ft.slot = some s.ft.lm → ¬ s.ft.lmFired → Answers .lineMatch s fun t => t.fired 1 ∧ t.ft.lmFired) ∧
  (∀ (i : Image), s.accepts m 0x200A0000 → s.stored m 0x200A0000 v = u → v.toNat.testBit 0 → ¬ s.ft.clear → ¬ s.on FT_CTRL_EN → s.on SA_CTRL_EN →
    u.image = some i → u.ftRunning → u.baseNear (u.ftBase true) → Answers (.ftEnable m v) s fun t => t.rd FT_CTRL_EN = 1 ∧ t.rd FT_STATUS_RUN = 1) ∧
  (s.accepts m 0x200A0000 → ¬ v.toNat.testBit 0 → s.on FT_CTRL_EN → Answers (.ftDisable m v) s fun t => t.rd FT_CTRL_EN = 0) ∧
  (s.accepts m 0x200A0000 → v.toNat.testBit 1 → ¬ s.on FT_CTRL_COMMIT → s.on FT_STATUS_RUN → s.ft.guard < s.ft.m + 2 →
    Answers (.ftCommit m v) s fun t => t.rd FT_CTRL_COMMIT = 1)

/-- Completion of every command of the stage array, layers and their checks -/
def Obligations.CompletionStageArrayAndLayers : Prop :=
  ∀ (s u : State) (m : Master) (v : Word),
  (s.accepts m 0x20080000 → s.stored m 0x20080000 v = u → v.toNat.testBit 0 → ¬ s.on SA_CTRL_EN → u.image.map u.fencedIn = some false →
    u.dramOutside (s.rd SA_DRV_DD_HI_ADDR_HI <<< 32 ||| s.rd SA_DRV_DD_LO_ADDR <<< 20) (2 * u.ddNeed) →
  Answers (.saEnable m v) s fun t => t.rd SA_CTRL_EN = 1) ∧
  (s.accepts m 0x20080000 → v.toNat.testBit 1 → ¬ s.on SA_CTRL_COMMIT → s.on FT_STATUS_RUN → s.ft.guard < s.ft.m + 2 →
    Answers (.saCommit m v) s fun t => t.rd SA_CTRL_COMMIT = 1) ∧
  (s.accepts m 0x20080018 → s.stored m 0x20080018 v = u → v.toNat.testBit 0 → ¬ s.on SA_LOAD_STATUS_BUSY →
    ((u.wr SA_LOAD_STATUS_DONE 0).wr SA_LOAD_STATUS_ERR 0).loadBarred (u.rd SA_LOAD_CTRL_BANK) = false →
  Answers (.saLoadStart m v) s fun t => t.rd SA_LOAD_CTRL_START = 1) ∧
  (∀ (l : Load), s.accepts m 0x20080018 → v.toNat.testBit 2 → s.sa.load = some l →
    Answers (.saLoadAbort m v) s fun t => t.rd SA_LOAD_STATUS_ERR = 1) ∧
  (∀ (e : Option Nat) (l : Load), s.sa.load = some l → Answers (.saLoadEnd e) s fun t => t.sa.load = none ∧ t.rd SA_LOAD_STATUS_BUSY = 0) ∧
  (s.accepts m 0x20080040 → v.toNat.testBit 8 → ¬ s.sa.diag.isSome → ¬ s.on SA_CTRL_EN →
    Answers (.saDiagStart m v) s fun t => t.rd SA_DIAG_CTRL_START = 1) ∧
  (∀ (d : Nat × Bool), s.sa.diag = some d → Answers (.saDiagDone none) s fun t => t.rd SA_DIAG_CTRL_START = 0) ∧
  (∀ (cell : Fin 128) (b : Bool) (n : BitVec 16), Answers (.saEccDed cell b n) s fun t => t.rd SA_ECC_STATUS_DED = 1) ∧
  (∀ (k : Fin 4) (i : Fin 32), s.accepts m (0x20080050 + 4 * k) → v.toNat.testBit i →
    Answers (.saFenceSet m k v) s fun t => t.rd (SA_FENCE (32 * k + i)) = 1) ∧
  (s.accepts m 0x20090000 → v.toNat.testBit 0 → Answers (.layerEnable m v) s fun t => t.rd LAYER_CTRL_EN = 1) ∧
  (s.accepts m 0x20090000 → v.toNat.testBit 1 → ¬ s.on LAYER_CTRL_COMMIT → s.on FT_STATUS_RUN → s.ft.guard < s.ft.m + 2 →
    Answers (.layerCommit m v) s fun t => t.rd LAYER_CTRL_COMMIT = 1) ∧
  (∀ (n : Nat), s.layer.retire = [n] → s.sa.retireNow = [] → n < 1024 → s.slotOwner n = 4 → ¬ s.referenced n → s.win.retire = [] →
    s.on FT_STATUS_RUN → Answers .scanoutAgentHandover s fun t => t.slotOwner n = (if s.on LAYER_RETIRE_TO_OWNER then 2 else 0)) ∧
  (∀ (l : Fin 8) (a : Nat) (f : Frame), s.ft.passA = some f → f.done = none →
    Answers (.fetchError l a) s fun t => t.rd LAYER_STATUS_FETCH_ERR = 1 ∧ t.fired 6) ∧
  (∀ (w : Walk), s.layer.walk = none → s.nextWalk = some w → Answers .spanCheckStart s fun t => t.rd (LAYER_L_WARP_STATUS_CHK_BUSY w.layer) = 1) ∧
  (∀ (e : Option SpanFault) (w : Walk) (i : Image) (k : Fin 8), s.layer.walk = some w → w.layer = k → ¬ w.live → s.dropWalk.image = some i →
    i.composes k → (s.dropWalk.walkLayer i k false e).fail = none → s.on FT_STATUS_RUN →
  Answers (.spanCheckDone e) s fun t => t.rd (LAYER_L_WARP_STATUS_CHK_BUSY k) = 0) ∧
  (∀ (l : Fin 8) (n : Nat) (f : Frame), s.ft.passA = some f → n ≠ 0 → ¬ s.layer.clamped[l] →
    Answers (.warpTapClamp l n) s fun t => t.rd (LAYER_L_CLAMP_CNT_COUNT l) = s.counted (LAYER_L_CLAMP_CNT_COUNT l)) ∧
  (∀ (a : Nat) (f : Frame), s.ft.passA = some f → f.done = none → Answers (.driveReadError false a) s fun t => t.rd SA_DRV_STATUS_FETCH_ERR = 1)

/-- Completion of every command of the mask input and the serial lanes -/
def Obligations.CompletionMaskInputAndLanes : Prop :=
  ∀ (s u : State) (m : Master) (v : Word) (j : Fin 15),
  (s.accepts m 0x20180000 → v.toNat.testBit 0 → ¬ s.on MASKIN_CTRL_EN → Answers (.maskinEnable m v) s fun t => t.maskin.complete = none) ∧
  (∀ (h : Word) (wc : Nat), s.csiOn → csiHeader h = some (0, 0, wc) → ¬ s.on MASKIN_STATUS_IN_FRAME →
    Answers (.maskinFrameStart h) s fun t => t.rd MASKIN_STATUS_IN_FRAME = 1) ∧
  (∀ (h : Word) (wc : Nat), s.csiOn → csiHeader h = some (0, 1, wc) → s.on MASKIN_STATUS_IN_FRAME → ¬ s.maskin.bad →
    ¬ s.maskin.lines < s.rd MASKIN_SIZE_HEIGHT → Answers (.maskinFrameEnd h) s fun t => t.rd MASKIN_STATUS_IN_FRAME = 0) ∧
  (∀ (h : Word) (vc dt wc : Nat) (d : List Byte) (c : BitVec 16), s.csiOn → csiHeader h = some (vc, dt, wc) → vc = 0 → s.maskType dt →
    s.on MASKIN_STATUS_IN_FRAME → csiCrc (d.take wc) = c.toNat → Answers (.maskinLongPacket h d c) s fun t => t.maskin.lines = s.maskin.lines + 1) ∧
  (∀ (h : Word) (vc dt wc : Nat), s.csiOn → csiHeader h = some (vc, dt, wc) → ((2 ≤ dt ∧ dt ≤ 3) ∨ (8 ≤ dt ∧ dt ≤ 15)) →
    Answers (.maskinShortPacket h) s fun t => t = if vc = 0 then s else s.wr MASKIN_ERR_VC 1) ∧
  (s.csiOn → s.on MASKIN_STATUS_IN_FRAME → Answers .maskinHeaderEccError s fun t => t.rd MASKIN_ERR_ECC2 = 1 ∧ t.maskin.bad) ∧
  (∀ (h : Word) (vc dt wc : Nat), s.csiOn → csiHeader h = some (vc, dt, wc) → 16 ≤ dt → (vc ≠ 0 ∨ s.maskType dt = false) →
    Answers (.maskinOtherPacket h) s fun t => (vc ≠ 0 → t.rd MASKIN_ERR_VC = 1)) ∧
  (∀ (b : Nat), s.maskin.ended = some b → Answers .maskComplete s fun t => t.rd MASKIN_STATUS_MASK_VALID = 1) ∧
  (s.on MASKIN_CTRL_EN → s.on MASKIN_STATUS_IN_FRAME → Answers .maskinLineTimeout s fun t => t.rd MASKIN_ERR_TIMEOUT = 1) ∧
  (∀ (a x : Nat) (d : List Byte), m ≠ .debug → s.viewAddr m a = x → 0 < d.length → x % 64 + d.length ≤ 64 → s.protectedFrom (.master m) x →
    s.domOpen (accessDomain x) → Answers (.protectedRegionWrite m a d) s fun t => t = s.busErr m x .write) ∧
  (s.accepts m (laneAddr j) → Answers (.laneIdleReq j m v) s fun t => t.rd (LANE_CTRL_IDLE_REQ j) = b2n (v.toNat.testBit 0)) ∧
  (∀ (w : Word), s.rd (LANE_STATUS_STATE j) = 2 → j.val < 13 → markerFound w.toNat → s.laneLocks j → ¬ s.on (LANE_CTRL_ADAPT j) →
    Answers (.idleExit j (some w)) s fun t => t.rd (LANE_STATUS_STATE j) = 5) ∧
  (∀ (h v : Fin 65), 2 ≤ s.rd (LANE_STATUS_STATE j) → s.rd (LANE_STATUS_STATE j) ≤ 4 → s.rd (LANE_THRESH_EYE_MIN j) ≤ eyeScore h v →
    Answers (.laneLockAcquired j h v) s fun t => t.rd (LANE_STATUS_STATE j) = 5) ∧
  (∀ (n : Fin 65), s.on (LANE_STATUS_BLOCK_LOCK j) → 16 ≤ (n : Nat) →
    Answers (.laneLockLoss j (.headers n)) s fun t => t.rd (LANE_STATUS_CDR_LOCK j) = 0) ∧
  (∀ (h v : Fin 65) (taps : BitVec 30), s.rd (LANE_STATUS_STATE j) = 5 → s.rd (LANE_THRESH_EYE_OK j) ≤ eyeScore h v →
    Answers (.eyeWindowEnd j h v taps) s fun t => t.rd (LANE_STATUS_EYE_LOW j) = 0) ∧
  (s.accepts m (laneAddr j) → v.toNat.testBit 8 → (s.rd (LANE_STATUS_STATE j) = 3 ∨ s.rd (LANE_STATUS_STATE j) = 5) →
    Answers (.laneAdapt j m v) s fun t => t.rd (LANE_CTRL_ADAPT j) = 1) ∧
  (∀ (sc : List Byte) (h v : Fin 65) (taps : BitVec 30), s.rd (LANE_STATUS_STATE j) = 4 → s.on (LANE_STATUS_BLOCK_LOCK j) →
    s.rd (LANE_THRESH_EYE_MIN j) ≤ eyeScore h v → Answers (.adaptationDone j sc h v taps) s fun t => t.rd (LANE_STATUS_STATE j) = 5) ∧
  (s.accepts m (laneAddr j) → ((s.stored m (laneAddr j) v).laneOwned j = false ∨ (bits v.toNat 1 3 = 0 ∧ bits v.toNat 4 3 = 0)) →
    Answers (.lanePrbsConfig j m v) s fun t => t.rd (LANE_CTRL_PRBS_TX j) = bits v.toNat 1 3) ∧
  (s.accepts m (laneAddr j) → v.toNat.testBit 9 → Answers (.injOne j m v) s fun t => (t.lane.pair[j]).inject = (s.lane.pair[j]).inject ++ [1]) ∧
  (s.accepts m (laneAddr j) → v.toNat.testBit 10 →
    Answers (.injBurst j m v) s fun t => (t.lane.pair[j]).inject = (s.lane.pair[j]).inject ++ [max 1 (min 64 ((s.stored m (laneAddr j) v).rd
  (LANE_CTRL_INJ_LEN j)))]) ∧
  (∀ (net : Bool), Answers (.lanePllLoss net) s fun t => t.rd (if net then CLKRST_STATUS_NPLL_LOCK else CLKRST_STATUS_TPLL_LOCK) = 0) ∧
  (∀ (p : Fin 12), lanePort j = some p → s.tlState p = 1 → ((s.port p).train = .lock ∨ (s.port p).train = .relockSlow) →
    Answers (.laneLockTimeout j) s fun t => t.tlState p = 5 ∧ t.rd (TL_TRAIN_ERR_CODE p) = 7) ∧
  (∀ (bits : List Bool) (k : Checker), patternOf (s.rd (LANE_CTRL_PRBS_RX j)) ≠ 0 → patternOf (s.rd (LANE_CTRL_PRBS_TX j)) = 0 →
    ¬ s.on (LANE_CTRL_LOOPBACK j) →
  bits.foldl (Checker.take (patternOf (s.rd (LANE_CTRL_PRBS_RX j))))
    { reg := (s.lane.pair[j]).chk, run := (s.lane.pair[j]).run, sync := s.on (LANE_STATUS_PRBS_SYNC j), errs := 0 } = k →
  Answers (.prbsCheckerSync j bits) s fun t => t.on (LANE_STATUS_PRBS_SYNC j) = k.sync) ∧
  (∀ (bits : List Bool) (k : Checker), patternOf (s.rd (LANE_CTRL_PRBS_RX j)) ≠ 0 → patternOf (s.rd (LANE_CTRL_PRBS_TX j)) = 0 →
    ¬ s.on (LANE_CTRL_LOOPBACK j) →
  bits.foldl (Checker.take (patternOf (s.rd (LANE_CTRL_PRBS_RX j))))
    { reg := (s.lane.pair[j]).chk, run := (s.lane.pair[j]).run, sync := s.on (LANE_STATUS_PRBS_SYNC j), errs := 0 } = k →
  Answers (.prbsBitError j bits) s fun t => t.rd (LANE_PRBS_ERR_COUNT j) = min (s.rd (LANE_PRBS_ERR_COUNT j) + k.errs) (2 ^ 32 - 1))

/-- Completion of every command of the tile link -/
def Obligations.CompletionTileLink : Prop :=
  ∀ (s u : State) (m : Master) (v : Word) (p : Fin 12) (d c : List Byte),
  (s.accepts m (tlAddr p) → s.stored m (tlAddr p) v = u → v.toNat.testBit 0 → ¬ s.on (TL_CTRL_EN p) →
    ((u.wr (TL_CTRL_EN p) 1).showLane (tlLane p)).isMapped p → ((u.wr (TL_CTRL_EN p) 1).showLane (tlLane p)).tlHeld p = false →
  ¬ s.on (TL_STATUS_FENCED p) → Answers (.tlEnable p m v) s fun t => t.rd (TL_CTRL_EN p) = 1 ∧ t.tlState p = 1) ∧
  (s.accepts m (tlAddr p) → s.stored m (tlAddr p) v = u → v.toNat.testBit 1 → s.on (TL_CTRL_EN p) →
    ((u.setPort p { s.port p with mismatch := false }).tlLeave p 0).isMapped p →
  ((u.setPort p { s.port p with mismatch := false }).tlLeave p 0).tlHeld p = false → ¬ s.on (TL_STATUS_FENCED p) →
    Answers (.tlRetrain p m v) s fun t => t.tlState p = 1) ∧
  (s.tlState p = 1 → (s.port p).train = .caps → ¬ s.on (TL_STATUS_FENCED p) → ¬ s.on (LANE_CTRL_IDLE_REQ p) → ¬ s.laneTest (tlLane p) →
    Answers (.trainingCapsSend p) s fun t => (t.port p).out.length = (s.port p).out.length + 1) ∧
  (s.tlReaches p d → s.tlState p = 1 → (s.port p).train = .caps → tlPayload 0x01 (· == 64) d = some c → (s.showCaps p c).capsCode p = 0 →
    ¬ (byteAt c 1).testBit 1 → Answers (.capsRx p d) s fun t => (t.port p).train = .probe ∧ t.tlState p = 1) ∧
  (s.tlState p = 1 → (s.port p).train = .caps → Answers (.capsTimeout p) s fun t => t.tlState p = 5 ∧ t.rd (TL_TRAIN_ERR_CODE p) = 1) ∧
  (∀ (h v : Fin 65), s.tlState p = 1 → (s.port p).train = .relock → s.rd (LANE_THRESH_EYE_MIN p) ≤ eyeScore h v →
    Answers (.rateRelock p (some (h, v))) s fun t => (t.port p).train = .probe) ∧
  (∀ (l : List Nat), s.tlState p = 1 → (s.port p).train = .probe → (s.tlProbe p l).dkOf p ≤ 204800 →
    Answers (.latencyProbeSet p l) s fun t => (t.port p).train = .config ∧ t.tlState p = 1) ∧
  (∀ (l : List Nat), s.tlUp p →
    Answers (.periodicProbe p l) s fun t => t.rd (TL_RTT_RT p) = min (2 ^ 24 - 1) (meanRtt l * (if s.on (TL_STATUS_RATE p) then 20 else 40))) ∧
  (s.tlState p = 1 → (s.port p).train = .config → Answers (.configOkTimeout p) s fun t => t.tlState p = 5 ∧ t.rd (TL_TRAIN_ERR_CODE p) = 8) ∧
  (s.accepts m (tlAddr p) → v.toNat.testBit 8 → ¬ s.on (TL_STATUS_FENCED p) → s.tlState p = 2 → ¬ s.on (LANE_CTRL_IDLE_REQ p) →
    ¬ (s.stored m (tlAddr p) v).laneTest (tlLane p) → Answers (.tlClaim p m v) s fun t => (t.port p).out.length = (s.port p).out.length + 1) ∧
  (s.accepts m (tlAddr p) → v.toNat.testBit 9 → Answers (.tlFence p m v) s fun t => t.rd (TL_STATUS_FENCED p) = 1) ∧
  (∀ (a : Nat), s.accepts m (tlAddr p) → v.toNat.testBit 7 → ¬ s.on (TL_CTRL_FB_START p) → s.tlState p = 2 → s.on (TL_STATUS_OWNED p) →
    s.rd (TL_FB_HI_ADDR_HI p) <<< 32 ||| s.rd (TL_FB_LO_ADDR p) <<< 6 = a →
  (s.stored m (tlAddr p) v).badAt a (64 + 2 * s.rd (TL_TILE_GEOM_WIDTH p) * s.rd (TL_TILE_GEOM_HEIGHT p)) = none →
    Answers (.fbStart p m v) s fun t => t.rd (TL_CTRL_FB_START p) = 1) ∧
  (∀ (k : Nat), s.tlReaches p d → s.tlHears p → tlPayload 0x30 (· == 12) d = some c → (s.port p).fb = some k → byteAt c 0 = 0x80 → leAt c 4 4 = k →
    Answers (.fbReplyRx p d) s fun t => t.rd (TL_STATUS_FB_DONE p) = 1) ∧
  ((s.port p).fb.isSome → Answers (.fbTimeout p) s fun t => t.rd (TL_STATUS_FB_ERR p) = 1) ∧
  (s.tlReaches p d → s.tlUp p → tlPayload 0x22 (· == 64) d = some c →
    Answers (.healthRx p d) s fun t => t.rd (TL_HLTH_FRAME_FRAME_NO p) = leAt c 0 4 % 2 ^ 32) ∧
  (s.tlReaches p d → s.tlUp p →
    tlPayload 0x21 (fun l => decide (1 ≤ leAt d 14 2 ∧ leAt d 14 2 ≤ (if s.tlV2 p && s.on (TL_CTRL_BULK_EN p) then 4096 else 256) ∧
  l = 8 + (leAt d 14 2 + 3) / 4 * 4)) d = some c →
    Answers (.diagRetRx p d) s fun t => t = s.hlthResults p (leAt c 0 4) (leAt c 4 2) ((List.range (leAt d 14 2)).map (fun i => byteAt c (8 + i)))
  ((byteAt d 1).testBit 2)) ∧
  (s.tlReaches p d → s.tlUp p → tlPayload 0x40 (· == 8) d = some c → (byteAt d 1).testBit 3 → ¬ s.on PAIR_CTRL_EN →
    Answers (.staleReplyRx p d) s fun t => t.rd (TL_STATUS_STALE p) = 1) ∧
  ((s.port p).capWait → Answers (.capackTimeout p) s fun t => t.rd (TL_STATUS_CAPACK_ERR p) = 1) ∧
  (s.tlState p = 2 → ¬ s.on (TL_STATUS_FENCED p) → ¬ s.on (LANE_CTRL_IDLE_REQ p) → ¬ s.laneTest (tlLane p) →
    Answers (.idleKeepalive p) s fun t => (t.port p).out.length = (s.port p).out.length + 1) ∧
  (∀ (bl : List (BitVec 2 × BitVec 64)), badTrailer bl →
    Answers (.upstreamPacketError p bl) s fun t => t.rd (TL_CNT0_CRC_ERR p) = s.counted (TL_CNT0_CRC_ERR p)) ∧
  (s.tlState p = 2 → Answers (.tlRxTimeout p) s fun t => t.tlState p = 0) ∧
  (s.on (TL_CTRL_EN p) → s.on (TL_CTRL_AUTO_RETRAIN p) → (s.tlState p = 0 ∨ s.tlState p = 5) → ¬ s.on (TL_STATUS_FENCED p) → s.isMapped p →
    ¬ s.tlHeld p → Answers (.autoRetrainTimer p) s fun t => t.tlState p = 1 ∧ (t.port p).train = .lock) ∧
  (∀ (d : List Byte), s.tlReaches p d → (tlPayload 0x3F (· == 4) d).isSome → Answers (.upstreamIdleRx p d) s fun t => t = s)

/-- Completion of every command of pixel health and the LED supply -/
def Obligations.CompletionHealthAndSupply : Prop :=
  ∀ (s u : State) (m : Master) (v : Word) (ph : Fin 4),
  (s.accepts m 0x200D0000 → ¬ s.on FT_STATUS_RUN → v.toNat.testBit 0 → Answers (.hlthEnable m v) s fun t => t.rd HLTH_CTRL_EN = 1) ∧
  (s.accepts m 0x200D0000 → v.toNat.testBit 1 → ¬ s.on HLTH_CTRL_COMMIT → s.on FT_STATUS_RUN → s.ft.guard < s.ft.m + 2 →
    Answers (.hlthCommit m v) s fun t => t.rd HLTH_CTRL_COMMIT = 1) ∧
  (s.accepts m 0x200D0040 → v.toNat.testBit 31 → s.hlth.queue.length < 256 →
    Answers (.hlthForce m v) s fun t => t.hlth.queue.length = s.hlth.queue.length + 1) ∧
  (s.accepts m 0x200D0000 → v.toNat.testBit 2 → Answers (.hlthCapture m v) s fun t => t.rd HLTH_CTRL_CAPTURE = 1) ∧
  (s.hlth.reports ≠ [] → Answers .hlthReportTimer s fun t => t.fired 92 ∧ t.hlth.rptWait) ∧
  (∀ (x : Update) (r : List Update), s.accepts m 0x200D004C → v.toNat.testBit 0 → s.hlth.reports = x :: r →
    Answers (.hlthRptPop m v) s fun t => t.hlth.reports = r) ∧
  (s.accepts m 0x200E0000 → s.stored m 0x200E0000 v = u → v.toNat.testBit 0 → s.rd LSC_STATUS_STATE = 0 → ¬ u.understudyRole → ¬ u.lscProt →
    Answers (.lscEnable m v) s fun t => t.rd LSC_CTRL_EN = 1) ∧
  (∀ (c : Vector (Fin 4096) 20), s.lscPowered → s.rd LSC_STATUS_STATE = 1 → Answers (.lscHandoverDone c) s fun t => t.rd LSC_STATUS_STATE = 2) ∧
  (Answers .lscRelease s fun t => t.rd LSC_CTRL_EN = 0) ∧
  (∀ (c : Fin 4096), s.lscPowered → Answers (.lscLoopUpdate c) s fun t => t.lsc.vmeas = s.vledMv c) ∧
  (∀ (c : Fin 4096), s.lscPowered → s.phaseOn ph → Answers (.lscPhaseSample ph c) s fun t => t.lsc.cur[ph] = s.phaseMa c) ∧
  (s.accepts m 0x200E0000 → v.toNat.testBit 1 → ¬ s.on LSC_CTRL_COMMIT → s.on FT_STATUS_RUN → s.ft.guard < s.ft.m + 2 →
    Answers (.lscCommit m v) s fun t => t.rd LSC_CTRL_COMMIT = 1) ∧
  (∀ (again : Bool), s.lscPowered → s.rd LSC_STATUS_STATE ≠ 0 → Answers (.phaseOvercurrent ph again) s fun t => t.rd (LSC_STATUS_PH_OC ph) = 1) ∧
  (s.rd LSC_STATUS_STATE ≠ 0 → s.lscPowered → s.lsc.ocRun.toList.any (fun n => decide (max 1 (s.rd LSC_PROT1_OC_CNT) ≤ n)) →
    Answers .persistentOvercurrent s fun t => t.rd LSC_STATUS_OC = 1) ∧
  (s.rd LSC_STATUS_STATE ≠ 0 → s.lscPowered → Answers .overVoltage s fun t => t.rd LSC_STATUS_OV = 1) ∧
  (s.rd LSC_STATUS_STATE ≠ 0 → s.lscPowered → decide (max 1 (s.rd LSC_PROT0_UV_US) * 10 ≤ s.lsc.uvRun) →
    Answers .underVoltage s fun t => t.rd LSC_STATUS_UV = 1) ∧
  (s.rd LSC_STATUS_STATE ≠ 0 → s.lscPowered → Answers .stageFault s fun t => t.rd LSC_STATUS_EXT = 1)

/-- Completion of every command of the thermal model, die temperature and calibration -/
def Obligations.CompletionThermalAndCalibration : Prop :=
  ∀ (s u : State) (m : Master) (v : Word) (x : Fin 12),
  (s.accepts m 0x200F0000 → v.toNat.testBit 0 → ¬ s.on THM_CTRL_EN →
    Answers (.thmEnable m v) s fun t => t.rd THM_CTRL_EN = 1 ∧ t.rd THM_STATUS_RUN = 1) ∧
  (s.accepts m 0x200F0000 → v.toNat.testBit 1 → Answers (.thmCommit m v) s fun t => t.rd THM_CTRL_COMMIT = 1) ∧
  (∀ (a : Vector (Vector (Fin 4096) 16) 8), s.on THM_CTRL_EN → Answers (.thmModelStep a) s fun t => t.thm.steps = s.thm.steps + 1) ∧
  (s.on THM_CTRL_EN → 100 ≤ s.thm.steps → Answers .thmTick s fun t => t.thm.steps = 0) ∧
  (∀ (k : Fin 8), ¬ s.thm.ntcDev[k] ≤ 2000 → Answers (.thmSensorSuspect true x k) s fun t => t.rd (THM_SUSPECT_AIN k) = 1 ∧ t.thm.ntcDev[k] = 0) ∧
  (¬ (s.thm.tile[x]).model ≤ 10000 → Answers (.thmModelDeviation x) s fun t => t.rd (THM_SUSPECT_MODEL x) = 1 ∧ t.fired 82) ∧
  (∀ (p x : Fin 12) (k : Fin 8) (i : Image), s.image = some i → i.tileOf p = some x.val →
    Answers (.tileSensorTimeout p) s fun t => (t.thm.tile[x]).temp[k] = none) ∧
  (∀ (a b c d : Int), s.alive 1 → -32768 ≤ max (max a b) (max c d) → max (max a b) (max c d) < 32768 →
    Answers (.dieTempSample a b c d) s fun t => t.rd THM_STATUS_TDIE = unsigned 16 (max (max a b) (max c d)) % 2 ^ 16) ∧
  (∀ (k : Nat), s.thm.cause = some k → ¬ s.pwr.shutdown → Answers .thermalShutdown s fun t => t.rd CLKRST_CAUSE_CAUSE = k % 2 ^ 4) ∧
  (s.thm.defer → Answers .shutdownDeferLimit s fun t => ¬ t.thm.defer ∧ t.thm.cause = some 6) ∧
  (Answers .tCritComparator s fun t => t.rd CLKRST_CAUSE_CAUSE = 7) ∧
  (s.pwr.shutdown → s.rd CLKRST_CAUSE_CAUSE = 6 → s.on THM_CTRL_SHUT_AUTO →
    Answers .thermalRestart s fun t => t.pwr.cold ∧ t.rd CLKRST_CAUSE_CAUSE = 6) ∧
  (s.accepts m 0x20100000 → v.toNat.testBit 0 → ¬ s.on CAL_CTRL_EN → Answers (.calEnable m v) s fun t => t.rd CAL_CTRL_EN = 1 ∧ t.cal.corr) ∧
  (s.on CAL_CTRL_EN → Answers .adcCorrMeasure s fun t => t.cal.corr) ∧
  (∀ (z c : List (BitVec 18)) (l : List (Fin 4096)), s.cal.corr →
    ({ s with cal := { s.cal with corr := false, calp := s.calpTaken l } }.adcRanges z c).adcAllOk → ¬ s.on CAL_STATUS_ADC_VALID →
  Answers (.adcCorrDone z c l) s fun t => t.rd CAL_STATUS_ADC_VALID = 1 ∧ t.fired 89) ∧
  (s.accepts m 0x20100000 → v.toNat.testBit 1 → ¬ s.on CAL_STATUS_RUN → s.on CAL_CTRL_EN → ¬ (s.stored m 0x20100000 v).understudy →
    Answers (.calStart m v) s fun t => t.rd CAL_STATUS_RUN = 1) ∧
  (s.on CAL_TRIG_INTERVAL → ¬ s.on CAL_STATUS_RUN → s.on CAL_CTRL_EN → ¬ s.understudy →
    Answers .calIntervalTimer s fun t => t.rd CAL_STATUS_RUN = 1) ∧
  (∀ (x : Int), s.tm = some x → s.on CAL_CTRL_TEMP_TRIG → s.on CAL_STATUS_KI_VALID →
    max 1 (s.rd CAL_TRIG_DT) * 256 < (x - signed 16 (s.rd CAL_LAST_TEMP_TEMP)).natAbs → ¬ s.on CAL_STATUS_RUN → s.on CAL_CTRL_EN → ¬ s.understudy →
  Answers .calTempCheck s fun t => t.rd CAL_STATUS_RUN = 1) ∧
  (s.on CAL_STATUS_RUN → Answers .calRunTimeout s fun t => t.rd CAL_STATUS_RUN = 0) ∧
  (s.cal.autoDue → ¬ s.on CAL_NV_STATUS_NV_BUSY → ¬ s.thm.shut → Answers .autoSaveWrite s fun t => t.rd CAL_NV_STATUS_NV_BUSY = 1) ∧
  (s.accepts m 0x20100050 → v.toNat.testBit 0 → ¬ s.on CAL_STATUS_RUN → ¬ s.on CAL_EXT_STATUS_BUSY → ¬ (s.stored m 0x20100050 v).understudy →
    Answers (.calExtStart m v) s fun t => t.rd CAL_EXT_STATUS_BUSY = 1) ∧
  (s.accepts m 0x20100050 → v.toNat.testBit 1 → s.on CAL_EXT_STATUS_BUSY → ¬ s.cal.taking → s.cal.steps.length < 8 →
    Answers (.calExtStep m v) s fun t => t.rd CAL_EXT_CTRL_STEP = 1 ∧ t.cal.taking) ∧
  (∀ (ki : Nat) (i0 : Int), s.accepts m 0x20100050 → v.toNat.testBit 2 → s.on CAL_EXT_STATUS_BUSY → ¬ s.cal.taking → 4 ≤ s.cal.steps.length →
    8 * s.rd CAL_CFG_XSD_MIN * 65536 ≤ (s.cal.steps.map (fun e => e.x / 16)).foldl max 0 - (s.cal.steps.map (fun e => e.x / 16)).foldl min
  ((s.cal.steps.map (fun e => e.x / 16)).foldl max 0) → 131072 ≤ extScorr s.cal.steps * 10 ∧ extScorr s.cal.steps ≤ 20480 →
    ((s.stored m 0x20100050 v).calEval (s.cal.steps.map (fun e => (e.x / 16, e.i / 16))) false).1 = .passed ki i0 → ki < 2 ^ 32 →
  Answers (.calExtFinish m v) s fun t => t.rd CAL_EXT_STATUS_EXT_DONE = 1) ∧
  (s.accepts m 0x20100050 → v.toNat.testBit 3 → s.on CAL_EXT_STATUS_BUSY → Answers (.calExtAbort m v) s fun t => t.rd CAL_EXT_STATUS_EXT_ERR = 1) ∧
  (∀ (b : Bool) (q : Nat) (d : List Byte), s.accepts m 0x20100080 → s.stored m 0x20100080 v = u → v.toNat.testBit 24 → ¬ s.on CAL_NV_STATUS_NV_BUSY →
    u.nvNewer (u.rd CAL_NV_CTRL_ID) = some b → u.nvCopy (u.rd CAL_NV_CTRL_ID) b = some (q, d) →
  Answers (.nvRead m v) s fun t => t.rd CAL_NV_STATUS_DONE = 1) ∧
  (s.accepts m 0x20100080 → s.stored m 0x20100080 v = u → v.toNat.testBit 25 → ¬ s.on CAL_NV_STATUS_NV_BUSY → u.rd CAL_NV_CTRL_LEN ≤ 2028 →
    1 ≤ u.rd CAL_NV_CTRL_ID ∧ u.rd CAL_NV_CTRL_ID ≤ 0x1F → ¬ s.thm.shut → Answers (.nvWrite m v) s fun t => t.rd CAL_NV_CTRL_WRITE = 1) ∧
  (∀ (o : NvOp), s.cal.op = some o → ¬ s.thm.defer → Answers (.nvWriteDone true) s fun t => t.rd CAL_NV_STATUS_DONE = 1)

/-- Completion of every command of the network ports and time -/
def Obligations.CompletionNetworkAndTime : Prop :=
  ∀ (s u : State) (m : Master) (v : Word) (n : Fin 2) (d : Fin 2),
  (s.accepts m (netCtrl n) → v.toNat.testBit 0 → ¬ s.on (FLT_FENCE_NET n) → Answers (.netEnable n m v) s fun t => t.rd (NET_CTRL_EN n) = 1) ∧
  (∀ (k : Nat) (fd : Bool), s.alive 3 → ¬ s.on (NET_CTRL_MODE n) → fd → k = 1000 →
    Answers (.netLinkChange n true k fd) s fun t => t.rd (NET_STATUS_LINK n) = 1) ∧
  (s.accepts m (netCtrl n) → v.toNat.testBit 7 → ¬ s.on (NET_STATUS_DMA_ERR n) → Answers (.netRxKick n m v) s fun t => ¬ t.net.rxStopped[n]) ∧
  (s.accepts m (netCtrl n) → v.toNat.testBit 8 → s.on (NET_CTRL_EN n) → ¬ s.on (NET_STATUS_DMA_ERR n) →
    Answers (.netTxKick n m v) s fun t => ¬ t.net.txStopped[n] ∧ t.net.txRun[n]) ∧
  (∀ (x f : List Byte) (a : Nat), s.on (NET_CTRL_EN n) → s.on (NET_STATUS_LINK n) → s.netReaches n x → s.frameWhole n x → x.take (x.length - 4) = f →
    ¬ s.on (NET_CTRL_PAUSE_EN n) → s.vlanOk n f → s.addrPass n f → ¬ s.on (NET_CTRL_PRP_EN 0) → s.safeOf f = none → ¬ s.net.rxStopped[n] →
  s.readable (s.rxDesc n) → (s.byte (s.rxDesc n + 5)).toNat.testBit 0 → s.num (s.rxDesc n) 5 % 2 ^ 36 = a → f.length ≤ s.num (s.rxDesc n + 6) 2 →
    inShared a f.length → (s.slotsOf a f.length).all (fun k => !s.slotBlocks k (s.actsFor (.netDma n))) → (s.rxWrite n a f []).2 = none →
  Answers (.netFrameRx n x .none []) s fun t => t = (s.rxWrite n a f []).1.rxWriteBack n (s.rxDesc n)
    { port := n, data := f, seq := none, wrong := false, safe := false } false) ∧
  (∀ (a l : Nat), s.on (NET_CTRL_EN n) → s.net.txRun[n] → ¬ s.net.txStopped[n] → s.net.pause[n] ≤ s.now → s.readable (s.txDesc n) →
    (s.byte (s.txDesc n + 5)).toNat.testBit 0 → s.twinPaused n (s.byte (s.txDesc n + 5)).toNat = false → s.num (s.txDesc n) 5 % 2 ^ 36 = a →
  s.num (s.txDesc n + 6) 2 = l → 14 ≤ l → l ≤ s.maxLen n - 4 → inShared a l → s.canRead a l →
    Answers (.netFrameTx n .none) s fun t => t = s.txGo n (s.txDesc n) (s.bytes a l) false) ∧
  (s.accepts m 0x201100A0 → v.toNat.testBit 31 → Answers (.mdioAccess m v) s fun t => t.rd (NET_MDIO_CMD_GO 0) = 1) ∧
  (∀ (d : Nat), s.on (NET_MDIO_CMD_GO 0) → s.rd (NET_MDIO_CMD_OP 0) = 2 → Answers (.mdioDone d) s fun t => t.rd (NET_MDIO_CMD_GO 0) = 0) ∧
  (s.accepts m (0x20130100 + d.val * 0x40) → v.toNat.testBit 0 → Answers (.timeDomainEn d m v) s fun t => t.rd (TIME_D_CTRL_EN d) = 1) ∧
  (∀ (c : AdjCmd), s.accepts m (0x20130100 + d.val * 0x40) → v.toNat.testBit 1 → (s.td d).cmd = none →
    (s.stored m (0x20130100 + d.val * 0x40) v).adjLoad d = some c → Answers (.timeLoad d m v) s fun t => t.rd (TIME_D_CTRL_LOAD d) = 1) ∧
  (∀ (c : AdjCmd), s.accepts m (0x20130100 + d.val * 0x40) → v.toNat.testBit 2 → (s.td d).cmd = none →
    (s.stored m (0x20130100 + d.val * 0x40) v).adjStep d = some c → Answers (.timeStep d m v) s fun t => t.rd (TIME_D_CTRL_STEP d) = 1) ∧
  (∀ (c : AdjCmd) (x : Nat), (s.td d).cmd = some c → (s.td d).adjusted c = some x →
    Answers (.timeAdjustApply d) s fun t => (t.td d).cmd = none ∧ (t.td d).t = x) ∧
  (s.accepts m 0x20130000 → d = Fin.ofNat 2 (bits v.toNat 0 1) → s.on (TIME_D_CTRL_EN d) → s.rd TIME_STATUS_FT_SRC = 1 - d.val →
    ¬ s.on TIME_STATUS_SWITCH_PEND → ¬ s.on FT_STATUS_RUN → Answers (.ftSourceSwitch m v) s fun t => t.rd TIME_STATUS_FT_SRC = d) ∧
  (s.on TIME_STATUS_SWITCH_PEND → s.tdOn (Fin.ofNat 2 (s.rd TIME_CTRL_FT_SEL)) → ¬ s.on FT_STATUS_RUN →
    Answers .switchPendApply s fun t => t.rd TIME_STATUS_SWITCH_PEND = 0 ∧ t.rd TIME_STATUS_FT_SRC = s.rd TIME_CTRL_FT_SEL % 2) ∧
  (1 * nsUnit < s.time.delta → Answers .timeSlewStep s fun t => t.time.delta = s.time.delta - nsUnit) ∧
  (Answers (.timeNsRead d .ns) s fun t => t.rd (TIME_D_NS_N d) = (s.td d).n % 2 ^ (TIME_D_NS_N d).width) ∧
  (Answers .ftNextNsRead s fun t => t.rd FT_NEXT_NS_NS = ((s.ftT s.ft.m).toNat * 5 / 2) % giga) ∧
  (∀ (k : Fin 4) (b : Bool), (s.rd (TIME_CAP_EDGE k)).testBit (if b then 0 else 1) → (s.time.cap[k]).length < 8 →
    Answers (.timeCaptureEdge k b) s fun t => (t.time.cap[k]).length = (s.time.cap[k]).length + 1) ∧
  (∀ (k : Fin 4), Answers (.timeCapInfoRead k) s fun t => t.time.cap[k] = (s.time.cap[k]).tail) ∧
  (s.on TIME_PPS_EN → s.tdOn (Fin.ofNat 2 (s.rd TIME_PPS_DOMAIN)) → Answers .ppsEdge s fun t => t.time.pps ∧ t.fired 56) ∧
  (∀ (k : Fin 2) (x : Nat), s.time.cueNext[k] = some x → x ≤ s.cueNow (s.cueDom k) → ¬ s.time.cueLate[k] →
    Answers (.cueFire k) s fun t => t.fired (58 + k)) ∧
  (Answers .ppsFall s fun t => ¬ t.time.pps ∧ t.regs = s.regs) ∧
  (∀ (k : Fin 2), s.time.pulse[k] → Answers (.cuePulseEnd k) s fun t => ¬ t.time.tsout[k])

/-- Completion of every command of the safety island and the fault block -/
def Obligations.CompletionSafetyAndFaults : Prop :=
  ∀ (s u : State) (m : Master) (v : Word) (k : Fin 8),
  (s.accepts m 0x20140000 → v.toNat.testBit 0 → ¬ s.on SAFE_CTRL_EN → s.part.safeCapable →
    Answers (.safeEnable m v) s fun t => t.rd SAFE_CTRL_EN = 1) ∧
  (s.accepts m 0x20140000 → v.toNat.testBit 1 → (s.on SAFE_STATUS_DISC = true ∨ s.on SAFE_STATUS_TP_ERR) →
    (List.finRange 2).all (fun (k : Fin 2) => !(s.stored m 0x20140000 v).ilUsed k || s.safe.ackSeen[k] == 2) →
  Answers (.safeAck m v) s fun t => t.rd SAFE_STATUS_DISC = 0) ∧
  (s.accepts m 0x20140000 → Answers (.safeRestrict m v) s fun t => t.rd SAFE_CTRL_RESTRICT = b2n (v.toNat.testBit 2)) ∧
  (s.accepts m 0x20140000 → v.toNat.testBit 3 → Answers (.safeFbReq m v) s fun t => t.rd SAFE_CTRL_FB_REQ = 1) ∧
  (s.accepts m 0x20140000 → v.toNat.testBit 4 → ¬ s.on SAFE_STATUS_PROOF_DUE →
    Answers (.proofReq m v) s fun t => t.rd SAFE_STATUS_PROOF_DUE = 1 ∧ t.fired 69) ∧
  (s.accepts m 0x20140000 → v.toNat.testBit 5 → s.on SAFE_STATUS_PROOF_DUE →
    Answers (.proofClr m v) s fun t => t.rd SAFE_STATUS_PROOF_DUE = 0 ∧ t.fired 69) ∧
  (s.accepts m 0x20140000 → v.toNat.testBit 6 → Answers (.cmonTest m v) s fun t => t.rd SAFE_CTRL_CMON_TEST = 1) ∧
  (s.on SAFE_CTRL_CMON_TEST → Answers (.cmonTestDone true) s fun t => t.rd SAFE_CTRL_CMON_TEST = 0) ∧
  (∀ (p : Fin 12), s.alive 2 → Answers (.clampMonitorTrip p) s fun t => t.rd SAFE_STATUS_CLAMP_ERR = 1) ∧
  (∀ (p n : Byte), s.part.safeCapable → s.alive 2 → n = ~~~p → Answers (.sealRead p n) s fun t => t.rd SAFE_SEAL_LIVE = p.toNat) ∧
  (∀ (a b : Fin 16) (i : Fin 4), s.part.safeCapable → s.alive 2 → ¬ b.val.testBit i → a.val.testBit i = !(s.rd SAFE_IL_LEVEL).testBit i →
    s.safe.run[i] + 1 < 60 → Answers (.interlockSample a b) s fun t => t.safe.run[i] = s.safe.run[i] + 1) ∧
  (∀ (x : Fin 2) (a b c : Fin 16) (i : Fin 4), s.part.safeCapable → s.alive 2 → s.ilUsed (Fin.ofNat 2 (i.val / 2)) →
    ¬ tpFails i x (a.val.testBit i) (b.val.testBit i) (c.val.testBit i) →
  Answers (.testPulseCheck x a b c) s fun t => t.safe.tpFail[(Fin.ofNat 8 (2 * i.val + if i.val % 2 = x.val then 0 else 1) : Fin 8)] = 0) ∧
  (∀ (k : Fin 2), s.part.safeCapable → s.alive 2 → s.ilUsed k → s.ilA k = s.ilB k →
    Answers .discrepancyTick s fun t => t.rd (discCnt k) = s.counted (discCnt k)) ∧
  (s.safe.silence → Answers .fallbackSilence s fun t => ¬ t.safe.silence) ∧
  (∀ (x : SafeCopy) (l : List SafeCopy), s.safe.held = x :: l → Answers .dualWinExpiry s fun t => t.safe.held = l) ∧
  (s.on SAFE_CTRL_EN → ¬ s.on SAFE_STATUS_SYM_INHIBIT → s.part.safeCapable → Answers .safeWatchExpiry s fun t => t.rd SAFE_STATUS_SYM_INHIBIT = 1) ∧
  (s.accepts m (0x20140200 + k.val * 0x10) → v.toNat.testBit 0 → ¬ s.on SAFE_STATUS_SYM_INHIBIT →
    Answers (.safeGrantWrite m k v) s fun t => t.rd (SAFE_L_GBUF_VALID k) = 1) ∧
  (s.accepts m 0x2014007C → v.toNat.testBit 0 → Answers (.safeMboxPop m v) s fun t => t.rd SAFE_MSG_STATUS_MBOX_FULL = 0) ∧
  (∀ (c : Fin 4) (o : Occurrence) (cut : List (Master × Nat × Access)), s.flt.raised = [] → ((48 ≤ o.src ∧ o.src ≤ 54 → s.part.safeCapable = true)) →
    o.src < 96 → min 3 (s.rd (FLT_SRC_CFG_CLASS o.src)) = c.val → ¬ s.on (FLT_CAP_INFO_VALID c) →
  Answers (.faultOccurrence [o] cut) s fun t => t.rd (FLT_PEND o.src) = 1) ∧
  (∀ (k : Fin 5), s.accepts m 0x20040008 → v.toNat.testBit k → Answers (.fltAck m v) s fun t => t.rd (FLT_CAP_INFO_VALID k) = 0) ∧
  (∀ (k : Fin 3) (i : Fin 32), s.accepts m (0x20040020 + 4 * k) → v.toNat.testBit i → ¬ s.held (32 * k + i) →
    Answers (.fltPendClear m k v) s fun t => t.rd (FLT_PEND (32 * k + i)) = 0) ∧
  (s.accepts m 0x20040000 → v.toNat.testBit 0 → Answers (.fltLock m v) s fun t => t.rd FLT_CTRL_LOCK = 1) ∧
  (s.accepts m 0x20040014 → v.toNat.testBit 31 → Answers (.fltSw m v) s fun t => t.hasRaised (FLT_SW0 + bits v.toNat 0 3)) ∧
  (s.accepts m 0x2004000C → v.toNat.testBit 0 → Answers (.fltPinRel m v) s fun t => t.rd FLT_STATUS_PIN_LATCH = 0) ∧
  (∀ (e : Fin 16), s.accepts m 0x20040070 → v.toNat.testBit e → Answers (.fltEngineUnfence m v) s fun t => t.rd (FLT_FENCE_ENG e) = 0) ∧
  (∀ (k : Fin 6) (i : Fin 32), s.accepts m (0x20040080 + 4 * k) → v.toNat.testBit i →
    Answers (.fltZoneUnfence m k v) s fun t => t.rd (FLT_ZFENCE (32 * k + i)) = 0) ∧
  (∀ (n : Fin 2), s.accepts m 0x20040074 → v.toNat.testBit n → Answers (.fltNetUnfence m v) s fun t => t.rd (FLT_FENCE_NET n) = 0)

/-- Completion of every command of events and engines -/
def Obligations.CompletionEventsAndEngines : Prop :=
  ∀ (s u : State) (m : Master) (v : Word) (e : Fin 16) (w : EngView),
  (∀ (n : Fin 128), srcAssigned n → Answers (.eventSourceEdge n) s fun t => t.fired n) ∧
  (∀ (k : Fin 4) (i : Fin 32), s.accepts m (0x20030110 + k * 4) → v.toNat.testBit i → Answers (.evcSetpend m k v) s fun t => t.fired (k * 32 + i)) ∧
  (∀ (k : Fin 4) (i : Fin 32), s.accepts m (0x20030100 + k * 4) → v.toNat.testBit i →
    Answers (.evcPendClear m k v) s fun t => t.rd (EVC_PEND (k * 32 + i)) = 0) ∧
  (∀ (n : Fin 128), (s.view e w).bestEvent e = some n → Answers (.eventEntry e w none) s fun t => t.rd (EVC_PEND n) = 0 ∧ t.rd (EVC_ACT n) = 1) ∧
  (∀ (r : List Opened), (s.eng e).opened = .trap :: r → Answers (.mret e w) s fun t => (t.eng e).opened = r ∧ (t.eng e).pc = w.mepc) ∧
  (∀ (x y : Word), trapOpen (s.eng e).opened = false → (s.eng e).fault = none →
    Answers (.syncException e w x y) s fun t => (t.eng e).mepc = w.pc ∧ (t.eng e).mcause = x) ∧
  ((s.eng e).nmiPend ≠ 0 → nmiOpen (s.eng e).opened = false → s.engRuns e →
    Answers (.nmiEntry e w) s fun t => (t.eng e).nmiPend = (s.eng e).nmiPend - 1) ∧
  ((w.machine = true ∨ w.tw = false) → ¬ (List.finRange 128).any (fun n => (s.view e w).wakes e n) → (s.eng e).nmiPend = 0 →
    Answers (.wfiEnter e w) s fun t => t.rd (EVC_ENG_STATE_WFI e) = 1) ∧
  (∀ (n : Fin 128) (p : Nat) (q : Word) (b : Bool), s.accepts m (0x20030810 + e * 0x40) → (s.eng e).opened = [.event n p q b] →
    bits v.toNat 0 4 ≤ p → Answers (.evcDrop m e v) s fun t => (t.eng e).opened = [.event n (bits v.toNat 0 4) q b]) ∧
  (∀ (n : Fin 128), s.accepts m (0x20031000 + n * 0x10) → Answers (.evcRetarget m n v) s fun t => t.rd (EVC_SRC_CFG_TARGET n) = bits v.toNat 8 4) ∧
  (∀ (n : Fin 128), s.on (EVC_PEND n) → ¬ s.evc.redirected[n] → s.rd (EVC_SRC_CFG_REDIRECT_TMO n) ≠ 0 → s.undeliverable n →
    Answers (.redirectTimeout n) s fun t => t.evc.redirected[n]) ∧
  (s.accepts m (0x20030800 + e * 0x40) → v.toNat.testBit 0 → Answers (.engineHold m e v) s fun t => t.rd (EVC_ENG_CTRL_HOLD e) = 1) ∧
  (s.accepts m (0x20030800 + e * 0x40) → ¬ v.toNat.testBit 0 → s.on (EVC_ENG_CTRL_HOLD e) →
    ((s.stored m (0x20030800 + e * 0x40) v).wr (EVC_ENG_CTRL_HOLD e) 0).engRuns e →
  Answers (.engineRelease m e v) s fun t => t.rd (EVC_ENG_CTRL_HOLD e) = 0) ∧
  (s.accepts m (0x20030800 + e * 0x40) → Answers (.aperChange m e v) s fun t => t.rd (EVC_ENG_CTRL_APER e) = bits v.toNat 1 1) ∧
  (s.accepts m (0x20030814 + e * 0x40) → v.toNat.testBit 0 → ¬ s.on (EVC_ENG_WDT_CTRL_EN e) →
    Answers (.wdtEnable m e v) s fun t => t.rd (EVC_ENG_WDT_CTRL_EN e) = 1) ∧
  (s.accepts m (0x2003081C + e * 0x40) → Answers (.wdtKick m e 0x4B1C) s fun t => ¬ (t.eng e).wdtStopped) ∧
  (s.wdtCounts e → ¬ (s.eng e).wdtWarned → (s.eng e).wdtWarn < max 1 (s.rd (EVC_ENG_WDT_TIME_TMO e)) →
    Answers (.wdtWarnExpiry e) s fun t => (t.eng e).wdtWarned) ∧
  (s.wdtCounts e → Answers (.wdtTimeout e) s fun t => (t.eng e).wdtStopped ∧ t.hasRaised FLT_ENG_WDT)

/-- Completion of every command of service peripherals and check-value units -/
def Obligations.CompletionPeripheralsAndCheckUnits : Prop :=
  ∀ (s u : State) (m : Master) (v : Word) (c : Fin 3),
  (∀ (u : Fin 2), s.accepts m (0x20170008 + u * 0x100) → (s.peri.uart[u]).tx.length < 16 →
    Answers (.uartDataWrite m u v 0) s fun t => (t.peri.uart[u]).tx = (s.peri.uart[u]).tx ++ [v.setWidth 8]) ∧
  (∀ (u : Fin 2), Answers (.uartDataRead u) s fun t => t.rd (UART_DATA_DATA u) = ((s.peri.uart[u]).rx.headD 0).toNat) ∧
  (∀ (u : Fin 2) (d : Byte), s.on (UART_CTRL_EN u) → (s.peri.uart[u]).rx.length < 16 →
    Answers (.uartRxByte u d true) s fun t => (t.peri.uart[u]).rx = (s.peri.uart[u]).rx ++ [d]) ∧
  (s.accepts m (i2cAddr c + 4) → v.toNat.testBit 31 → s.on (I2C_CTRL_EN c) → ¬ s.on (I2C_CMD_GO c) →
    Answers (.i2cGo m c v) s fun t => t.rd (I2C_CMD_GO c) = 1) ∧
  (∀ (k : Bool) (d b : List Byte) (n : Nat), s.on (I2C_CMD_GO c) → ¬ s.on (I2C_CMD_READ c) →
    (s.peri.i2c[c]).tx.take (min (s.rd (I2C_CMD_LEN c) - s.peri.i2cCount[c]) n) = b →
  (k = true ∨ s.rd (I2C_CMD_LEN c) ≤ s.peri.i2cCount[c] + b.length) → Answers (.i2cTransferEnd c k d n) s fun t => t.rd (I2C_CMD_GO c) = 0) ∧
  (s.on (I2C_CMD_GO c) → Answers (.i2cStretchTimeout c) s fun t => t.rd (I2C_CMD_GO c) = 0) ∧
  (s.accepts m (i2cAddr c + 0xC) → (s.peri.i2c[c]).tx.length < 8 →
    Answers (.i2cDataAccess m c (some v) [] 0) s fun t => (t.peri.i2c[c]).tx = (s.peri.i2c[c]).tx ++ [v.setWidth 8]) ∧
  (s.accepts m 0x20170408 → ¬ s.on SPI_STATUS_BUSY → s.on SPI_CTRL_EN →
    Answers (.spiDataWrite m v) s fun t => t.rd SPI_STATUS_BUSY = 1 ∧ t.peri.spiTx = v.toNat % 2 ^ spiBits (s.rd SPI_CTRL_SIZE)) ∧
  (∀ (d : Word), s.on SPI_STATUS_BUSY → Answers (.spiFrameDone d) s fun t => t.rd SPI_STATUS_BUSY = 0) ∧
  (∀ (p : Fin 16) (l : Bool), Answers (.gpioEdge p l) s fun t => t.rd (GPIO_IN_IN p) = b2n l) ∧
  (∀ (k : Fin 4), s.accepts m (0x20170610 + k * 8) → v.toNat.testBit 0 → Answers (.timerEnable m k v) s fun t => t.rd (TIM_CTRL_EN k) = 1) ∧
  (∀ (k : Fin 4), s.on (TIM_CTRL_EN k) → ¬ s.on (TIM_CTRL_PERIODIC k) → Answers (.timerExpiry k) s fun t => t.rd (TIM_CTRL_FIRED k) = 1) ∧
  (Answers .tbaseLoRead s fun t => t = { s with peri := { s.peri with tbaseHeld := some (s.tbase / 2 ^ 32) } }) ∧
  (∀ (u : Fin 4), s.accepts m (cvuAddr u) → v.toNat.testBit 0 → ¬ s.on (CVU_STATUS_BUSY u) →
    Answers (.cvuStart m u v) s fun t => t.rd (CVU_CTRL_START u) = 1) ∧
  (∀ (u : Fin 4) (d : List Byte), s.on (CVU_STATUS_BUSY u) → s.rd (CVU_CTRL_ALIVE_MODE u) = 0 →
    (List.range (s.cvu.unit[u]).len).all (fun i => (s.cvuByte ((s.cvu.unit[u]).addr + i)).isSome) →
  (List.range (s.cvu.unit[u]).len).map (fun i => (s.cvuByte ((s.cvu.unit[u]).addr + i)).getD 0) = d →
    cvuCrc (s.rd (CVU_CTRL_ALG u)) d = (s.cvu.unit[u]).expect → Answers (.cvuScanEnd u none) s fun t => t.rd (CVU_STATUS_PASS u) = 1 ∧ t.fired 102) ∧
  (∀ (u : Fin 4), s.on (CVU_CTRL_START u) → s.rd (CVU_CTRL_PERIOD u) ≠ 0 → ¬ s.on (CVU_STATUS_BUSY u) →
    Answers (.cvuPeriod u) s fun t => t.rd (CVU_STATUS_BUSY u) = 1) ∧
  (∀ (u : Fin 4), s.accepts m (cvuAddr u) → v.toNat.testBit 1 → s.on (CVU_STATUS_BUSY u) →
    Answers (.cvuStop m u v) s fun t => t.rd (CVU_CTRL_STOP u) = 1) ∧
  (∀ (u : Fin 2) (n : Nat), s.on (UART_CTRL_EN u) →
    Answers (.uartTxEmpty u n) s fun t => (t.peri.uart[u]).tx = (s.peri.uart[u]).tx.drop ((s.peri.uart[u]).tx.length - n))

/-- Completion of every command of memory and the stage window -/
def Obligations.CompletionMemoryAndWindow : Prop :=
  ∀ (s u : State) (m : Master) (v : Word) (a x : Nat) (d : List Byte) (c : Fin 4),
  (s.accepts m 0x20060000 → v.toNat.testBit 0 → ¬ s.on MEMC_CTRL_EN → (s.stored m 0x20060000 v).densityOk →
    Answers (.memcEnable m v) s fun t => t.rd MEMC_CTRL_EN = 1) ∧
  (s.domOpen 10 → s.rd MEMC_STATUS_STATE = 1 → s.densityOk → Answers (.memcTrainingEnd true) s fun t => t.rd MEMC_STATUS_STATE = 2) ∧
  (s.accepts m 0x20060000 → v.toNat.testBit 1 → s.rd MEMC_STATUS_STATE = 2 → Answers (.memcRetrain m v) s fun t => t.rd MEMC_CTRL_RETRAIN = 1) ∧
  (Answers .wck2dqTracking s fun t => t = s) ∧
  (∀ (a x n : Nat), m ≠ .debug → s.viewAddr m a = x → s.readable x → dramBase ≤ x → Answers (.dramRead m a n []) s fun t => t = s) ∧
  (m ≠ .debug → s.viewAddr m a = x → 0 < d.length → x % 64 + d.length ≤ 64 → ¬ s.protectedFrom (.master m) x → x < dramBase → s.chipWritable m x →
    Answers (.dramPartialWrite m a d []) s fun t => t.bytes x d.length = d) ∧
  (s.on MEMC_CTRL_SCRUB_EN → s.readable (dramBase + 64 * s.memc.scrub) → 64 * (s.memc.scrub + 1) < usableDram s.part.density →
    Answers (.scrubRead [] false) s fun t => t.memc.scrub = s.memc.scrub + 1) ∧
  (∀ (c : Nat), s.rd MEMC_STATUS_STATE = 2 → c ≠ 0 → Answers (.linkEccRate c) s fun t => t.rd MEMC_ERR_CNT_LINK = s.counted MEMC_ERR_CNT_LINK c) ∧
  (s.rd MEMC_STATUS_STATE = 2 → ¬ s.on MEMC_STATUS_TEMP_HI → Answers (.dramTempReport true) s fun t => t.rd MEMC_STATUS_TEMP_HI = 1) ∧
  (∀ (a : Nat), m ≠ .debug → s.readable a → 0x10000000 ≤ a → a < 0x10800000 →
    Answers (.sramEcc m .read [(a, false)] 0 []) s fun t => t.rd MEMC_SRAM_CE = s.counted MEMC_SRAM_CE) ∧
  (s.accepts m 0x20070000 → v.toNat.testBit 0 → ¬ s.on WIN_CTRL_EN → (s.stored m 0x20070000 v).winOk →
    Answers (.winEnable m v) s fun t => t.rd WIN_CTRL_EN = 1) ∧
  (s.accepts m 0x20070000 → v.toNat.testBit 1 → Answers (.winLock m v) s fun t => t.rd WIN_CTRL_LOCK = 1) ∧
  (s.accepts m 0x20070014 → s.stored m 0x20070014 v = u → v.toNat.testBit 31 → s.on WIN_CTRL_EN → u.rd WIN_XFER_SLOT < s.rd WIN_CFG_COUNT →
    ¬ s.win.retire.any (fun r => r.1 == u.rd WIN_XFER_SLOT) →
  s.actsFor m (s.slotOwner (u.rd WIN_XFER_SLOT)) || ((s.slotOwner (u.rd WIN_XFER_SLOT) == 0 || s.slotOwner (u.rd WIN_XFER_SLOT) == 4) && s.actsFor m
    (u.rd WIN_XFER_NEW)) → (¬ (s.slotOwner (u.rd WIN_XFER_SLOT) = 4 ∧ (u.rd WIN_XFER_NEW = 0 ∨ u.rd WIN_XFER_NEW = 2))) →
  mayHand (s.slotOwner (u.rd WIN_XFER_SLOT)) (u.rd WIN_XFER_NEW) → Answers (.winXferRequest m v) s fun t => t.rd WIN_XFER_GO = 1) ∧
  (∀ (n o : Nat), s.win.xfer = some (n, o) → n < 1024 → s.on FT_STATUS_RUN →
    Answers .winHandover s fun t => t.slotOwner n = o % 2 ^ (WIN_OWN n).width) ∧
  (∀ (n o : Nat), s.win.retire = [(n, o)] → n < 1024 → s.slotOwner n = 4 → ¬ s.referenced n → s.on FT_STATUS_RUN →
    Answers .winRetireHandover s fun t => t.slotOwner n = o % 2 ^ (WIN_OWN n).width) ∧
  (∀ (n : Nat), m ≠ .debug → s.viewAddr m a = x → 0 < d.length → x % 64 + d.length ≤ 64 → ¬ s.protectedFrom (.master m) x → dramBase ≤ x →
    s.readable x → (s.slotsOf x d.length).find? (fun n => s.slotBlocks n (s.actsFor m)) = some n →
  Answers (.slotWriteBlocked m a d) s fun t => t.mem = s.mem) ∧
  (s.accepts m (winDmaAddr c) → v.toNat.testBit 0 → s.win.dma[c] = none → s.actsFor m ((s.stored m (winDmaAddr c) v).rd (WIN_DMA_CTRL_OWN c)) →
    Answers (.winDmaGo m c v) s fun t => t.rd (WIN_DMA_CTRL_GO c) = 1) ∧
  (∀ (x : Option Nat) (y : DmaRun), s.win.dma[c] = some y → (s.dmaCopy y x (y.len / 64)).2 = none →
    Answers (.winDmaEnd c x) s fun t => t.win.dma[c] = none ∧ t.rd (WIN_DMA_CTRL_GO c) = 0) ∧
  (s.win.dma[c].isSome → Answers (.winDmaTimeout c) s fun t => t.win.dma[c] = none ∧ t.rd (WIN_DMA_CTRL_GO c) = 0)

/-- Completion of every command of the partner link -/
def Obligations.CompletionPair : Prop :=
  ∀ (s u : State) (m : Master) (v : Word) (d c : List Byte),
  (s.accepts m 0x20150000 → v.toNat.testBit 0 → ¬ s.on PAIR_CTRL_EN → Answers (.pairEnable m v) s fun t => t.rd PAIR_CTRL_EN = 1) ∧
  (s.on PAIR_CTRL_EN → s.rd PAIR_STATUS_STATE = 1 → s.on (LANE_STATUS_BLOCK_LOCK 12) → ¬ s.pair.heard →
    Answers .pairHelloSend s fun t => t = s.pairHello false) ∧
  (s.pairIn 0x80 (· == 32) d = some c → s.on PAIR_CTRL_EN → s.rd PAIR_STATUS_STATE = 1 → s.helloCode c = 0 →
    Answers (.pairHelloRx d) s fun t => t.rd PAIR_STATUS_STATE = 2 ∧ t.pair.heard) ∧
  (s.on PAIR_CTRL_EN → ¬ s.pair.decided → Answers .roleDecision s fun t => t.pair.decided) ∧
  (∀ (x : List Nat), s.on PAIR_CTRL_EN → s.rd PAIR_STATUS_STATE = 2 → ¬ s.on (LANE_CTRL_IDLE_REQ 12) → ¬ s.laneTest 12 → s.pair.regQueue = [] →
    Answers (.pairProbe x) s fun t => t.pair.out.length = s.pair.out.length + 8) ∧
  (s.pairIn 0x81 (· == 24) d = some c → s.on PAIR_CTRL_EN → ¬ s.understudy →
    (s.on PAIR_STATUS_LEAD = false ∨ (byteAt c 15).testBit 2 = false ∨ leAt c 12 3 ≤ s.pairEpoch) →
  Answers (.beatRx d) s fun t => t.rd PAIR_EPOCH_PEER = leAt c 12 3 % 2 ^ PAIR_EPOCH_PEER.width) ∧
  (s.pairIn 0x82 (· == 60) d = some c → s.on PAIR_CTRL_EN → s.rd PAIR_STATUS_STATE = 2 → s.pair.own = [] →
    Answers (.pairCrcRx d) s fun t => t.pair.live) ∧
  (s.pairIn 0x84 (fun n => n % 8 == 0 && decide (8 ≤ n ∧ n ≤ 4096)) d = some c → s.on PAIR_CTRL_EN → s.understudy → c.length = 8 →
    Answers (.regMirrorRx d) s fun t => t = s.pairLive.takeEntry (leAt c 0 4) (BitVec.ofNat 32 (leAt c 4 4))) ∧
  (s.pairIn 0x83 (· == 8) d = some c → s.on PAIR_CTRL_EN → s.understudy → leAt c 4 2 = 1 → leAt c 0 4 = frameNo s.ft.m → s.on FT_STATUS_RUN →
    s.pairLive.heldSets 0 = 0 → Answers (.commitMirrorRx d) s fun t => t = s.pairLive.captureLed 0 s.ft.m false) ∧
  (s.pairIn 0x85 (· == 388) d = some c → s.on PAIR_CTRL_EN → s.understudy →
    Answers (.pairThermRx d) s fun t => t.thm.leadT = (List.range 192).map (fun g => leAt c (4 + 2 * g) 2)) ∧
  (s.pairIn 0x86 (· == 196) d = some c → s.on PAIR_CTRL_EN → s.understudy →
    Answers (.pairZlimRx d) s fun t => t.thm.leadZ = (List.range 192).map (fun g => leAt c (4 + g) 1)) ∧
  (s.pairIn 0x87 (fun n => n % 4 == 0 && decide (4 ≤ n)) d = some c → s.on PAIR_CTRL_EN → s.understudy →
    Answers (.pairHlthRx d) s fun t => t.hlth.led = s.hlth.led ++ (List.range (c.length / 4 - 1)).map (fun i => (leAt c 0 4,
  ledEntry (leAt c (4 + 4 * i) 4)))) ∧
  (s.pairIn 0x88 (fun n => decide (8 ≤ n ∧ n ≤ 1032)) d = some c → s.on PAIR_CTRL_EN → s.understudy → s.on MASKIN_CTRL_EN → s.mirrors 0x20180000 →
    byteAt c 0 = 0 → Answers (.pairMaskRx d) s fun t => t.rd MASKIN_STATUS_IN_FRAME = 1) ∧
  (s.pairIn 0x89 (· == 32) d = some c → s.on PAIR_CTRL_EN → s.understudy →
    Answers (.pairStateRx d) s fun t => t.rd CAL_KI_KI = leAt c 0 4 % 2 ^ CAL_KI_KI.width) ∧
  (s.accepts m 0x20150010 → s.stored m 0x20150010 v = u → v.toNat.testBit 31 → u.pairLead → s.on WIN_CTRL_EN →
    u.rd PAIR_SLOT_SLOT < s.rd WIN_CFG_COUNT → u.rd PAIR_SLOT_LEN = 1 → u.slotSize = 65536 → u.pair.regQueue = [] → ¬ u.on (LANE_CTRL_IDLE_REQ 12) →
  ¬ u.laneTest 12 → Answers (.pairSlotGo m v) s fun t => t.fired 108) ∧
  (s.pairIn 0x8B (fun n => decide (8 ≤ n ∧ n ≤ 4104)) d = some c → s.on PAIR_CTRL_EN → s.understudy → s.pairOwned (leAt c 0 2) →
    leAt c 4 4 + (c.length - 8) ≤ s.slotSize →
  Answers (.pairSlotRx d) s fun t => t = s.pairLive.dramWrite .pair (s.actsFor .pair) (s.slotAddr (leAt c 0 2) + leAt c 4 4) (c.drop 8) []) ∧
  (s.pairIn 0x8A (· == 12) d = some c → s.on PAIR_CTRL_EN → s.understudy → s.on FT_STATUS_RUN → leAt c 0 2 < 1024 → s.pairOwned (leAt c 0 2) →
    leAt c 4 4 ≤ s.slotSize → leAt c 8 4 = crc32c (s.bytes (s.slotAddr (leAt c 0 2)) (leAt c 4 4)) → mayHand 3 (byteAt c 2) →
  Answers (.pairSlotEndRx d) s fun t => t.slotOwner (leAt c 0 2) = byteAt c 2 % 2 ^ (WIN_OWN (leAt c 0 2)).width) ∧
  (s.accepts m 0x20150000 → s.stored m 0x20150000 v = u → v.toNat.testBit 4 → u.pairLead → u.pair.regQueue = [] → ¬ u.on (LANE_CTRL_IDLE_REQ 12) →
    ¬ u.laneTest 12 → Answers (.pairDump m v) s fun t => t.pair.out = s.pair.out ++ (regPackets (u.dumpAddrs.map (fun a => (a,
  u.readWord a))).length (u.dumpAddrs.map (fun a => (a,
    u.readWord a)))).map (tlPacket 0x84 0 s.pairEpoch 0) ++ [tlPacket 0x83 0 s.pairEpoch 0 (leBytes 4 (frameNo s.ft.m) ++ leBytes 2 (s.rd
  PAIR_MIRROR_BLOCKS) ++ [0, 0])]) ∧
  (s.pairIn 0x8C (fun n => decide (4 ≤ n ∧ n ≤ 1024)) d = some c → s.on PAIR_CTRL_EN →
    Answers (.pairMsgRx d) s fun t => t.pair.inbox = s.pair.inbox ++ [c]) ∧
  (s.on PAIR_STATUS_ARMED → Answers .pairSilenceTimeout s fun t => t.rd PAIR_STATUS_LEAD = 1) ∧
  (∀ (b : List (BitVec 2 × BitVec 64)), s.on PAIR_CTRL_EN → badTrailer b →
    Answers (.partnerLanePacketError b) s fun t => t.rd PAIR_CNT_CRC_ERR = s.counted PAIR_CNT_CRC_ERR) ∧
  (s.pairLead → s.pair.regQueue = [] → ¬ s.on (LANE_CTRL_IDLE_REQ 12) → ¬ s.laneTest 12 →
    Answers .pairStateSend s fun t => t.pair.out.length = s.pair.out.length + 1)

/-- Completion of every command of power, clocks and resets -/
def Obligations.CompletionPowerClocksResets : Prop :=
  ∀ (s u : State) (m : Master) (v : Word) (d : Fin 29) (x : WakeProg),
  (s.accepts m 0x20010004 → s.stored m 0x20010004 v = u → v.toNat.testBit 31 → ¬ s.on PWRCTL_STATUS_BUSY →
    u.pwrCode (bits v.toNat 0 5) (bits v.toNat 5 2) = 0 → bits v.toNat 5 2 < u.dom (bits v.toNat 0 5) →
  Answers (.pwrRequest m v) s fun t => t.pwr.req = some { domain := bits v.toNat 0 5, target := bits v.toNat 5 2 }) ∧
  (s.pwr.req = none → s.pwr.standby = .quiesce → Answers .pwrQuiesceDone s fun t => t.pwr.standby = .committed) ∧
  (∀ (x : PwrReq), s.pwr.req = some x → x.committed → ¬ x.heldWake → x.domain < 29 → x.target < 2 →
    Answers .powerDownDone s fun t => t.pwr.req = none ∧ t.dom x.domain = x.target) ∧
  (s.wakeOf d = some x → ¬ x.withdrawn → 4 ≤ x.step → s.parentsAllow d x.target → x.target = 2 →
    Answers (.wakeStepReady d) s fun t => t.dom d = 2 ∧ t.wakeOf d = none) ∧
  (s.wakeOf d = some x → s.pwr.wakes = [x] → x.domain = d → ¬ x.withdrawn → x.tries < s.rd PWRCTL_WAKE_CFG_WAKE_RETRY →
    Answers (.wakeStepTimeout d) s fun t => t.pwr.wakes = [{ x with tries := x.tries + 1, withdrawn := true }]) ∧
  (∀ (k : Fin 4), k ≠ 0 → s.dom (9 + k) ≠ 0 → Answers (.pgoodFall k false) s fun t => t.dom (9 + k) = 3) ∧
  (s.pwr.standby ≠ .asleep → ¬ s.pwr.shutdown → ¬ s.pwr.resetHeld → Answers (.vmonExcursion false) s fun t => t.hasRaised FLT_PWR_VMON) ∧
  (s.accepts m 0x20010018 → v.toNat.testBit 0 → ¬ s.on PWRCTL_STATUS_BUSY → Answers (.standbyRequest m v) s fun t => t.rd PWRCTL_STBY_GO = 1) ∧
  (s.pwr.standby = .committed → s.pwr.stbyWake = none → Answers .standbyEntry s fun t => t.dom d = (if d = 0 then 2 else 0)) ∧
  (∀ (k : Fin 2) (b : Bool), (s.rd (if k = 0 then PWRCTL_STBY_WAKE0_EDGE else PWRCTL_STBY_WAKE1_EDGE)).testBit (if b then 0 else 1) →
    s.pwr.standby = .asleep → Answers (.wakePinEdge k b) s fun t => t.rd CLKRST_CAUSE_CAUSE = 8) ∧
  (¬ s.pwr.resetHeld → s.pwr.cold → s.pwr.boot → s.pwr.wakes = [] → ¬ s.on CLKRST_STATUS_WIPE_BUSY → s.engRuns 0 →
    Answers .coldStart s fun t => ¬ t.pwr.cold ∧ (t.eng 0).pc = 0x01000000) ∧
  (Answers .powerOnReset s fun t => t.rd CLKRST_CAUSE_CAUSE = 0 ∧ t.pwr.cold) ∧
  (Answers .poresetN s fun t => t.rd CLKRST_CAUSE_CAUSE = 1 ∧ t.pwr.cold) ∧
  (s.pwr.reset = none → ¬ s.pwr.shutdown → ¬ s.pwr.resetHeld → s.pwr.standby ≠ .asleep →
    Answers .sysresetN s fun t => t.pwr.reset = some { cause := 2, src := 0 }) ∧
  (s.accepts m 0x20020004 → s.pwr.reset = none → ¬ s.pwr.shutdown → ¬ s.pwr.resetHeld → s.pwr.standby ≠ .asleep →
    Answers (.softwareReset m 0x7E51) s fun t => t.pwr.reset = some { cause := 3, src := 0 }) ∧
  (∀ (x : ResetReq), s.pwr.reset = some x → x.cause < 16 → x.src < 128 → Answers .chipReset s fun t => t.rd CLKRST_CAUSE_CAUSE = x.cause) ∧
  (s.on CLKRST_STATUS_WIPE_BUSY → s.pwr.boot → s.pwr.wakes = [] → (s.wr CLKRST_STATUS_WIPE_BUSY 0).engRuns 0 →
    Answers .memoryWipeDone s fun t => t.rd CLKRST_STATUS_WIPE_BUSY = 0 ∧ t.rd CLKRST_STATUS_SYSPLL_LOCK = 1 ∧ t.rd CLKRST_STATUS_XTAL_OK = 1) ∧
  (∀ (i : Fin 17), s.accepts m 0x20020008 →
    Answers (.blockReset m (BitVec.ofNat 32 (2 ^ i.val)) []) s fun t => t = (s.stored m 0x20020008 (BitVec.ofNat 32 (2 ^ i.val))).blockReset i) ∧
  (s.accepts m 0x20020010 → v.toNat.testBit 0 → ¬ s.on CLKRST_SWDT_CTRL_EN → Answers (.swdtEnable m v) s fun t => t.rd CLKRST_SWDT_CTRL_EN = 1) ∧
  (s.accepts m 0x20020014 → Answers (.swdtKick m 0xC35A) s fun t => ¬ t.pwr.swdtHalf) ∧
  (s.on CLKRST_SWDT_CTRL_EN → ¬ s.pwr.swdtHalf → Answers .swdtHalf s fun t => t.pwr.swdtHalf ∧ t.fired 117) ∧
  (s.on CLKRST_SWDT_CTRL_EN → Answers .swdtTimeout s fun t => t.pwr.swdtExpired ∧ t.hasRaised FLT_SYS_WDT) ∧
  (s.pwr.swdtExpired → Answers .swdtForcedReset s fun t => t.rd CLKRST_CAUSE_CAUSE = 4) ∧
  (Answers .clockMonitor s fun t => t.hasRaised FLT_CLK_MON) ∧
  (Answers .systemPllLoss s fun t => t.rd CLKRST_STATUS_SYSPLL_LOCK = 0) ∧
  (Answers .xtalFail s fun t => t.rd CLKRST_STATUS_XTAL_OK = 0) ∧
  (∀ (a : Nat) (x : Access), ¬ s.domOpen (accessDomain (s.viewAddr m a)) → ¬ s.bankFenced (s.viewAddr m a) →
    Answers (.closedCrossingAccess m a x) s fun t => t.rd (PWRCTL_XING (accessDomain (s.viewAddr m a) % 32)) = 1) ∧
  (s.accepts m 0x20020018 → Answers (.clkoutSelect m v) s fun t => t.rd CLKRST_CLKOUT_SEL = bits v.toNat 0 2) ∧
  (s.wakeOf d = some x → s.pwr.wakes = [x] → x.domain = d → x.withdrawn →
    Answers (.wakeStepRestart d) s fun t => t.pwr.wakes = [{ x with withdrawn := false }])

/-- Completion of every command of boot, life cycle and crypto -/
def Obligations.CompletionBootAndCrypto : Prop :=
  ∀ (s u : State) (m : Master) (v : Word),
  (∀ (f : List (Nat × List Byte)), s.evc.romRights → (s.eng 0).pc = 0x01000000 → s.engRuns 0 → s.ident.keys.wipe = none →
    s.rd CLKRST_CAUSE_CAUSE ≠ 5 → s.part.lcBoot ≠ 7 → s.ident.bootmode % 8 ≠ 3 → ¬ s.recovery →
  Answers (.bootRom true f) s fun t => t = s.showPub.boot f) ∧
  (∀ (n : Nat), s.accepts m 0x20000014 → (s.part.lcBoot = 1 ∨ s.part.lcBoot = 2) → s.ident.bootSvn = some n → bits v.toNat 0 7 ≤ min 64 n →
    Answers (.svnWrite m v) s fun t => t.part.svnFuse = max s.part.svnFuse (bits v.toNat 0 7)) ∧
  (∀ (d : List Byte), s.accepts m 0x20000030 → s.stored m 0x20000030 v = u → v.toNat.testBit 0 → ¬ s.on SYSCTL_LC_REQ_GO →
    0x10000000 ≤ u.rd SYSCTL_LC_REQ_ADDR * 64 → u.rd SYSCTL_LC_REQ_ADDR * 64 + 256 ≤ 0x10800000 → u.canRead (u.rd SYSCTL_LC_REQ_ADDR * 64) 256 →
  u.bytes (u.rd SYSCTL_LC_REQ_ADDR * 64) 256 = d → Answers (.lcRequest m v false) s fun t => (u.lcCode d = 0 →
    t.part.lcFuse = byteAt d 5) ∧ (u.lcCode d ≠ 0 → t.rd SYSCTL_LC_STATUS_ERR = 1)) ∧
  (∀ (x : Nat), x ≠ s.part.lcBoot → Answers (.lcFuseRecheck x) s fun t => t.hasRaised FLT_LC_FUSE) ∧
  (s.accepts m 0x20000040 → v.toNat.testBit 0 → ¬ s.on SYSCTL_DBG_LOCKED → s.part.lcBoot = 0 →
    Answers (.debugOpenReq m v) s fun t => t.rd SYSCTL_DBG_OPEN = 1) ∧
  (s.accepts m 0x20000040 → v.toNat.testBit 1 → s.on SYSCTL_DBG_OPEN → Answers (.debugClose m v) s fun t => t.rd SYSCTL_DBG_OPEN = 0) ∧
  (s.accepts m 0x20160000 → v.toNat.testBit 31 → bits v.toNat 0 3 = 1 → ¬ (s.stored m 0x20160000 v).on CRYPTO_STATUS_BUSY →
    Answers (.cryptoSha256 m v) s fun t => (t.ident.op.map (·.op)) = some 1) ∧
  (s.accepts m 0x20160000 → v.toNat.testBit 31 → bits v.toNat 0 3 = 2 → ¬ (s.stored m 0x20160000 v).on CRYPTO_STATUS_BUSY →
    Answers (.cryptoSign m v) s fun t => (t.ident.op.map (·.op)) = some 2) ∧
  (s.accepts m 0x20160000 → v.toNat.testBit 31 → bits v.toNat 0 3 = 3 → ¬ (s.stored m 0x20160000 v).on CRYPTO_STATUS_BUSY →
    Answers (.cryptoVerify m v) s fun t => (t.ident.op.map (·.op)) = some 3) ∧
  (s.accepts m 0x20160000 → v.toNat.testBit 31 → bits v.toNat 0 3 = 4 → ¬ (s.stored m 0x20160000 v).on CRYPTO_STATUS_BUSY →
    Answers (.cryptoRngFill m v) s fun t => (t.ident.op.map (·.op)) = some 4) ∧
  (∀ (o : CryptoOp), s.ident.op = some o → Answers .cryptoOpDone s fun t => t.ident.op = none ∧ t.rd CRYPTO_STATUS_BUSY = 0) ∧
  (∀ (i : Fin 8), s.accepts m 0x20160120 → v.toNat.testBit 31 →
    Answers (.smkeyStore m v) s fun t => t.ident.keys.smKey[(Fin.ofNat 2 (bits v.toNat 0 1) : Fin 2)] = (List.range 8).flatMap (fun i => leBytes 4
  (s.rd (CRYPTO_SMKEY_DATA i)))) ∧
  (Answers .trngHealthFail s fun t => t.ident.trngFail ∧ t.rd CRYPTO_RNG_DATA = 0)

/-- A step runs the command at the front of the queue; with none waiting it is one tick of the clock. With c at the front of the queue, step
is exec of c on the state with the rest of the queue, and exec changes neither the queue nor the clock count. With an empty queue a step
answers a state with the clock count one higher, the queue still empty, the REG entries queued for the partner gone from their queue, and
every register field, memory and every zone but those of time, PAIR and the lanes as they were, and each time domain that is enabled one
increment further (2.4975 to 2.5025 ns, from its INCR, in units of 2^-28 ns), each that is not where it was (that an idle step is a tick
is the model's choice, log entry 3). -/
def Obligations.StepRunsTheFrontCommand : Prop :=
  (∀ (c : Instr) (l : List Instr) (s : State), step { s with pending := c :: l } = exec c { s with pending := l }) ∧
  (∀ (c : Instr) (s t : State), exec c s = .next t → t.pending = s.pending ∧ t.now = s.now) ∧
  (∀ s : State, s.pending = [] → ∃ t, step s = .next t ∧ t.now = s.now + 1 ∧ t.pending = [] ∧ t.regs = s.regs ∧ t.pair.regQueue = [] ∧
    (∀ z, z ∉ [.time, .pair, .lane] → State.sameIn z s t) ∧
    ∀ d : Fin 2, (s.on (TIME_D_CTRL_EN d) = true →
      (t.td d).t = ((s.td d).t + max 0x27F5C28F (min 0x280A3D70 (s.rd (TIME_D_INCR_INCR d)))) % (2 ^ 48 * 1000000000 * 2 ^ 28)) ∧
      (s.on (TIME_D_CTRL_EN d) = false → t.td d = s.td d))

/-- After reset every field and live copy reads its reset value, memory lists nothing and no command waits. At State.reset every register
field and every live copy of a C field reads the reset value that its field has, the register file, the live copies and memory are in
canonical form, memory lists nothing, the clock count is 0 and the queue is empty. (Fields whose reset value the spec does not give hold
the value that log entry 6 names.) -/
def Obligations.ResetLeavesResetValues : Prop :=
  (∀ f : Fld, State.reset.rd f = f.reset ∧ State.reset.lv f = f.reset) ∧ State.reset.wf = true ∧ State.reset.mem = [] ∧
  State.reset.now = 0 ∧ State.reset.pending = []

/-- Every step keeps the register file, the live copies and memory in canonical form. From every state in which the register file, the live
copies of C fields and memory are in canonical form (keys strictly rising, no entry equal to what an unlisted one reads as), whatever
command stands at the front of the queue, the step answers a next state, and these are in canonical form there. The form is the model's. -/
def Obligations.StepsKeepCanonicalForms : Prop :=
  ∀ s : State, s.wf = true → ∃ t, step s = .next t ∧ t.wf = true

/-- The frame of every command: it answers a next state that differs at most in the fields and zones of its footprint. Every command, with any
operands, in any state, answers a next state. In it every register field outside the footprint of the command, every zone of state outside
it (each block's own data, the live copies, memory, the count of free values), the clock and the queue are as they were. -/
def Obligations.CommandsStayInTheirFootprint : Prop :=
  ∀ (c : Instr) (s : State), Answers c s fun t => State.Within (footprint c).1 (footprint c).2 s t

/-- A command written to a register that the write does not reach: a closed crossing, a bus error or WERR, and no effect. For every command
that is a write of one register: if the domain of its block is not ON, or is being quiesced, the write is a closed crossing and nothing
else happens; if the domain is open and the master may not write there, it is a bus error and nothing else; if the register is locked,
only the block's WERR is set. (That a domain being quiesced answers as one that is not ON is log entry 12, and that a master without the
right to a register gets a bus error also where R416 does not name that register is log entry 38 (both DEDUCED).) -/
def Obligations.WritesThatMissTheirRegister : Prop :=
  ∀ (c : Instr) (m : Master) (a : Nat) (v : Word) (s : State), busTarget c = some (m, a, v) →
    (s.domOpen (blockDomain a) = false → exec c s = .next (s.closedCrossing m a (blockDomain a) .write)) ∧
    (s.domOpen (blockDomain a) = true → s.mayWrite m a = false → exec c s = .next (s.busErr m a .write)) ∧
    (s.domOpen (blockDomain a) = true → s.mayWrite m a = true → s.lockedReg a = true → exec c s = .next (s.werr a))

/-- An accepted write with the command bit clear stores its word and starts nothing. For every command that is a write of one register with a
bit that starts it: an accepted write with that bit 0 stores the plain fields of the word and mirrors it, and has no other effect. -/
def Obligations.ClearCommandBitOnlyStores : Prop :=
  ∀ (c : Instr) (m : Master) (a : Nat) (v : Word) (b : Nat) (s : State), busTarget c = some (m, a, v) → goBit c = some b → s.accepts m a →
    v.toNat.testBit b = false → exec c s = .next (s.stored m a v)

/-- FLT_LANE_PLL, of class MAJOR, is raised when either lane PLL loses lock, as one source. LANE_PLL_LOSS of the tile-link PLL and
LANE_PLL_LOSS of the network PLL each answer a next state in which an occurrence of the one source FLT_LANE_PLL waits for its record; the
class of that source is MAJOR. -/
def Obligations.LanePllLossIsOneFault : Prop :=
  (∀ (net : Bool) (s : State), Answers (.lanePllLoss net) s fun t => t.hasRaised FLT_LANE_PLL) ∧ fltSrcClass FLT_LANE_PLL = 2

/-- FLT_ACK: bit k clears VALID and CNT of record k, and no status bit of a source. An accepted write of FLT_ACK, whatever the word: for each
class k whose bit is 1, VALID and CNT of record k become 0; for each class whose bit is 0 they stay. Every register field outside the
fault block, and every bit of FLT_PEND, is as it was. -/
def Obligations.AcknowledgeClearsRecords : Prop :=
  ∀ (m : Master) (v : Word) (s : State), s.accepts m 0x20040008 → Answers (.fltAck m v) s fun t =>
    (∀ k : Fin 5, t.rd (FLT_CAP_INFO_VALID k) = (if v.toNat.testBit k then 0 else s.rd (FLT_CAP_INFO_VALID k)) ∧
      t.rd (FLT_CAP_CNT_CNT k) = (if v.toNat.testBit k then 0 else s.rd (FLT_CAP_CNT_CNT k))) ∧
    (∀ n : Fin 96, t.rd (FLT_PEND n) = s.rd (FLT_PEND n)) ∧
    (∀ f : Fld, f.addr < 0x20040000 ∨ (0x20050000 ≤ f.addr ∧ f.addr < 2 ^ 32) → f.lo < 32 → t.rd f = s.rd f)

/-- The permitted hand-overs of a stage-window slot; any other request is refused with code 2. WIN_XFER_REQUEST, an accepted write with GO set
that names an existing slot, from a master that acts for the current owner or, for a FREE or SCANOUT slot, for the new one: with a retire
of that slot waiting (R407) it gives code 4 and nothing else of the window changes; otherwise a pair of owners of the table of R406
becomes the hand-over in progress with GO set; a SCANOUT slot asked for FREE or RENDER is not handed over by the request but given to its
agent (the hand-over in progress stays as it is, and while frame timing runs the retire joins those that wait, with PEND_RETIRE set); any
other pair leaves the owners as they are and gives code 2. (The order of these tests, and the right of the new owner of a SCANOUT slot,
are choices of the model, log entry 22.) -/
def Obligations.HandOversPermitted : Prop :=
  ∀ (m : Master) (v : Word) (s : State), s.accepts m 0x20070014 → v.toNat.testBit 31 = true → s.on WIN_CTRL_EN = true →
    ∀ n new old : Nat, n = (s.stored m 0x20070014 v).rd WIN_XFER_SLOT → new = (s.stored m 0x20070014 v).rd WIN_XFER_NEW →
    old = s.slotOwner n → n < s.rd WIN_CFG_COUNT → (s.actsFor m old || ((old == 0 || old == 4) && s.actsFor m new)) = true →
    Answers (.winXferRequest m v) s fun t =>
      if s.win.retire.any (fun r => r.1 == n) = true then t.rd WIN_STATUS_XFER_CODE = 4 ∧ t.win = s.win
      else if (old, new) ∈ [(0, 1), (0, 2), (0, 3), (0, 5), (0, 6), (1, 0), (1, 2), (1, 4), (1, 5), (2, 0), (2, 4), (2, 5), (3, 0), (3, 2), (3, 4),
        (5, 0), (5, 1), (5, 2), (5, 4), (5, 6), (6, 0), (6, 4)] then t.win.xfer = some (n, new) ∧ t.rd WIN_XFER_GO = 1
      else if old = 4 ∧ (new = 0 ∨ new = 2) then t.win.xfer = s.win.xfer ∧
        (s.on FT_STATUS_RUN = true → t.win.retire = s.win.retire ++ [(n, new)] ∧ t.rd WIN_STATUS_PEND_RETIRE = 1)
      else t.rd WIN_STATUS_XFER_CODE = 2 ∧ t.win.xfer = s.win.xfer ∧ ∀ k : Fin 1024, t.rd (WIN_OWN k) = s.rd (WIN_OWN k)

/-- Power requests: refusals, quiescing, power-down, the wake steps with their retries and failures. PWR_REQUEST with GO 1 while no request
runs: one that the rules refuse shows its code and domain and fires event 113; a request for the state the domain has ends at once; a
request for a lower state is held, with BUSY and GO 1; one for ON starts the wake, with BUSY and GO 1. While a request runs, a request for
another domain, or for its own domain that is no wake, sets WERR; a wake of its own domain aborts the request before the commit point,
with SLEEP_ABORT and event 115, and is held after it. PWR_QUIESCE_DONE marks the request committed, and the state of the domain is lost
from there on (shown for LPWR; the choice of the model, log entry 12). POWER_DOWN_DONE of a committed request ends it and puts the domain
into the state requested, and a held wake then starts; with no request it changes nothing. WAKE_STEP_READY of a domain on its way up whose
step is before the fourth goes on to the next step with no attempts; at the fourth, with its parents in states that allow it, the domain
leaves the wake list and is ON, or RET where that was asked for, and it waits while they do not. WAKE_STEP_TIMEOUT with attempts left
counts one and withdraws the step; with none left the domain is in state 3, FAIL_STEP and DOMAIN name it, event 114 fires and FLT_PWR_WAKE
is raised, but a failed oscillator step of a cold start returns to standby with XTAL_FAIL and FAULT_N low. WAKE_STEP_RESTART of a
withdrawn step starts it again. A domain that is not on its way up is left alone. -/
def Obligations.PowerRequestsAndWakes : Prop :=
  (∀ (m : Master) (v : Word) (s : State),
    s.accepts m 0x20010004 →
    v.toNat.testBit 31 = true →
    s.on PWRCTL_STATUS_BUSY = false →
    (s.stored m 0x20010004 v).pwrCode (bits v.toNat 0 5) (bits v.toNat 5 2) ≠ 0 →
    Answers (.pwrRequest m v) s fun t =>
      t.rd PWRCTL_STATUS_REFUSE = (s.stored m 0x20010004 v).pwrCode (bits v.toNat 0 5) (bits v.toNat 5 2) % 2 ^ PWRCTL_STATUS_REFUSE.width ∧
        t.rd PWRCTL_STATUS_DOMAIN = bits v.toNat 0 5 ∧ t.rd PWRCTL_REQ_GO = 0 ∧ t.fired 113) ∧
  (∀ (m : Master) (v : Word) (s : State),
    s.accepts m 0x20010004 →
    v.toNat.testBit 31 = true →
    s.on PWRCTL_STATUS_BUSY = false →
    (s.stored m 0x20010004 v).pwrCode (bits v.toNat 0 5) (bits v.toNat 5 2) = 0 →
    (s.stored m 0x20010004 v).dom (bits v.toNat 0 5) = bits v.toNat 5 2 →
    Answers (.pwrRequest m v) s fun t =>
      t.rd PWRCTL_REQ_GO = 0 ∧ t.pwr = s.pwr) ∧
  (∀ (m : Master) (v : Word) (s : State),
    s.accepts m 0x20010004 →
    v.toNat.testBit 31 = true →
    s.on PWRCTL_STATUS_BUSY = false →
    (s.stored m 0x20010004 v).pwrCode (bits v.toNat 0 5) (bits v.toNat 5 2) = 0 →
    bits v.toNat 5 2 < (s.stored m 0x20010004 v).dom (bits v.toNat 0 5) →
    Answers (.pwrRequest m v) s fun t =>
      t.pwr.req = some { domain := bits v.toNat 0 5, target := bits v.toNat 5 2 } ∧ t.rd PWRCTL_STATUS_BUSY = 1 ∧ t.rd PWRCTL_REQ_GO = 1) ∧
  (∀ (m : Master) (v : Word) (s : State),
    s.accepts m 0x20010004 →
    v.toNat.testBit 31 = true →
    s.on PWRCTL_STATUS_BUSY = false →
    (s.stored m 0x20010004 v).pwrCode (bits v.toNat 0 5) (bits v.toNat 5 2) = 0 →
    (s.stored m 0x20010004 v).dom (bits v.toNat 0 5) < bits v.toNat 5 2 →
    Answers (.pwrRequest m v) s fun t =>
      t.pwr.wakes.length = s.pwr.wakes.length + 1 ∧ t.rd PWRCTL_STATUS_BUSY = 1 ∧ t.rd PWRCTL_REQ_GO = 1) ∧
  (∀ (m : Master) (v : Word) (s : State) (x : PwrReq),
    s.accepts m 0x20010004 →
    v.toNat.testBit 31 = true →
    s.on PWRCTL_STATUS_BUSY = true →
    s.pwr.req = some x →
    x.domain ≠ bits v.toNat 0 5 →
    Answers (.pwrRequest m v) s fun t =>
      t = (s.stored m 0x20010004 v).werr 0x20010004) ∧
  (∀ (m : Master) (v : Word) (s : State) (x : PwrReq),
    s.accepts m 0x20010004 →
    v.toNat.testBit 31 = true →
    s.on PWRCTL_STATUS_BUSY = true →
    s.pwr.req = some x →
    x.domain = bits v.toNat 0 5 →
    bits v.toNat 5 2 ≠ 2 →
    Answers (.pwrRequest m v) s fun t =>
      t = (s.stored m 0x20010004 v).werr 0x20010004) ∧
  (∀ (m : Master) (v : Word) (s : State) (x : PwrReq),
    s.accepts m 0x20010004 →
    v.toNat.testBit 31 = true →
    s.on PWRCTL_STATUS_BUSY = true →
    s.pwr.req = some x →
    x.domain = bits v.toNat 0 5 →
    bits v.toNat 5 2 = 2 →
    x.committed = true →
    Answers (.pwrRequest m v) s fun t =>
      t.pwr.req = some { x with heldWake := true, heldGo := true }) ∧
  (∀ (m : Master) (v : Word) (s : State) (x : PwrReq),
    s.accepts m 0x20010004 →
    v.toNat.testBit 31 = true →
    s.on PWRCTL_STATUS_BUSY = true →
    s.pwr.req = some x →
    x.domain = bits v.toNat 0 5 →
    bits v.toNat 5 2 = 2 →
    x.committed = false →
    (s.stored m 0x20010004 v).dom x.domain = 2 →
    Answers (.pwrRequest m v) s fun t =>
      t.pwr.req = none ∧ t.rd PWRCTL_STATUS_SLEEP_ABORT = 1 ∧ t.fired 115) ∧
  (∀ (m : Master) (v : Word) (s : State),
    s.accepts m 0x20010004 →
    v.toNat.testBit 31 = true →
    s.on PWRCTL_STATUS_BUSY = true →
    s.pwr.req = none →
    Answers (.pwrRequest m v) s fun t =>
      t = (s.stored m 0x20010004 v).werr 0x20010004) ∧
  (∀ (s : State) (x : PwrReq),
    s.pwr.req = some x →
    x.committed = false →
    x.domain ≠ 12 →
    Answers (.pwrQuiesceDone) s fun t =>
      t.pwr.req = some { x with committed := true }) ∧
  (∀ (s : State) (x : PwrReq),
    s.pwr.req = some x →
    x.committed = false →
    x.domain = 12 →
    Answers (.pwrQuiesceDone) s fun t =>
      t.pwr.req = some { x with committed := true } ∧ t.lsc = {} ∧ t.rd LSC_CTRL_EN = 0) ∧
  (∀ (s : State),
    s.pwr.req = none →
    s.pwr.standby = .quiesce →
    Answers (.pwrQuiesceDone) s fun t =>
      t.pwr.standby = .committed) ∧
  (∀ (s : State) (x : PwrReq),
    s.pwr.req = some x →
    x.committed = true →
    x.heldWake = true →
    x.domain < 29 →
    x.target < 2 →
    s.pwr.wakes.any (·.domain == x.domain) = false →
    Answers (.powerDownDone) s fun t =>
      t.pwr.req = none ∧ t.dom x.domain = x.target ∧ (t.wakeOf x.domain).isSome = true ∧ t.rd PWRCTL_STATUS_BUSY = 1) ∧
  (∀ (s : State) (x : PwrReq),
    s.pwr.req = some x →
    x.committed = true →
    x.heldWake = false →
    x.domain < 29 →
    x.target < 2 →
    Answers (.powerDownDone) s fun t =>
      t.pwr.req = none ∧ t.dom x.domain = x.target) ∧
  (∀ (s : State),
    s.pwr.req = none →
    Answers (.powerDownDone) s fun t =>
      t = s) ∧
  (∀ (d : Fin 29) (s : State) (x : WakeProg),
    s.wakeOf d = some x →
    s.pwr.wakes = [x] →
    x.domain = d →
    x.withdrawn = false →
    x.step < 4 →
    ¬ (x.step = 2 ∧ s.domOn d = true) →
    Answers (.wakeStepReady d) s fun t =>
      t.pwr.wakes = [{ x with step := x.step + 1, tries := 0 }]) ∧
  (∀ (d : Fin 29) (s : State) (x : WakeProg),
    s.wakeOf d = some x →
    x.withdrawn = false →
    4 ≤ x.step →
    s.parentsAllow d x.target = true →
    x.target = 2 →
    Answers (.wakeStepReady d) s fun t =>
      t.dom d = 2 ∧ t.wakeOf d = none) ∧
  (∀ (d : Fin 29) (s : State) (x : WakeProg),
    s.wakeOf d = some x →
    x.withdrawn = false →
    4 ≤ x.step →
    s.parentsAllow d x.target = true →
    x.target = 1 →
    Answers (.wakeStepReady d) s fun t =>
      t.dom d = 1 ∧ t.wakeOf d = none) ∧
  (∀ (d : Fin 29) (s : State) (x : WakeProg),
    s.wakeOf d = some x →
    x.withdrawn = false →
    4 ≤ x.step →
    s.parentsAllow d x.target = false →
    Answers (.wakeStepReady d) s fun t =>
      t = s) ∧
  (∀ (d : Fin 29) (s : State),
    s.wakeOf d = none →
    Answers (.wakeStepReady d) s fun t =>
      t = s) ∧
  (∀ (d : Fin 29) (s : State) (x : WakeProg),
    s.wakeOf d = some x →
    s.pwr.wakes = [x] →
    x.domain = d →
    x.withdrawn = false →
    x.tries < s.rd PWRCTL_WAKE_CFG_WAKE_RETRY →
    Answers (.wakeStepTimeout d) s fun t =>
      t.pwr.wakes = [{ x with tries := x.tries + 1, withdrawn := true }]) ∧
  (∀ (d : Fin 29) (s : State) (x : WakeProg),
    s.wakeOf d = some x →
    x.withdrawn = false →
    s.rd PWRCTL_WAKE_CFG_WAKE_RETRY ≤ x.tries →
    ¬ (x.step = 2 ∧ (s.pwr.cold = true ∨ s.domOn d = true)) →
    Answers (.wakeStepTimeout d) s fun t =>
      t.dom d = 3 ∧ t.rd PWRCTL_STATUS_FAIL_STEP = x.step % 2 ^ PWRCTL_STATUS_FAIL_STEP.width ∧ t.rd PWRCTL_STATUS_DOMAIN = d ∧ t.fired 114 ∧
        t.hasRaised FLT_PWR_WAKE) ∧
  (∀ (d : Fin 29) (s : State) (x : WakeProg),
    s.wakeOf d = some x →
    x.withdrawn = false →
    s.rd PWRCTL_WAKE_CFG_WAKE_RETRY ≤ x.tries →
    x.step = 2 →
    s.pwr.cold = true →
    coldDom d = true →
    Answers (.wakeStepTimeout d) s fun t =>
      t.pwr.standby = .asleep ∧ t.rd PWRCTL_STATUS_XTAL_FAIL = 1 ∧ t.rd FLT_STATUS_PIN = 1 ∧ t.rd PWRCTL_RAIL_EN = 0) ∧
  (∀ (d : Fin 29) (s : State),
    s.wakeOf d = none →
    Answers (.wakeStepTimeout d) s fun t =>
      t = s) ∧
  (∀ (d : Fin 29) (s : State) (x : WakeProg),
    s.wakeOf d = some x →
    s.pwr.wakes = [x] →
    x.domain = d →
    x.withdrawn = true →
    Answers (.wakeStepRestart d) s fun t =>
      t.pwr.wakes = [{ x with withdrawn := false }]) ∧
  (∀ (d : Fin 29) (s : State),
    s.wakeOf d = none →
    Answers (.wakeStepRestart d) s fun t =>
      t = s)

/-- Rails, voltage, standby and its pins, and the cold starts. PGOOD_FALL of rails 1 to 3 whose domain is not OFF puts the domain into state
3, names it, fires event 114 and raises FLT_PWR_PGOOD, with transfers under way XING of the domain and FLT_PWR_XING too; of rail 0,
neither asleep nor shut down, it holds the chip in reset with cause 11. VMON_EXCURSION raises FLT_PWR_VMON, and a brown-out holds the chip
in reset; asleep or shut down it does nothing. STANDBY_REQUEST with GO 1 on an idle part begins to quiesce, with BUSY 1; on a busy one it
sets WERR (DEDUCED, log entry 12). STANDBY_ENTRY after the commit puts every domain but AON to OFF and sleeps, or begins the cold start of
a wake pin that is held. WAKE_PIN_EDGE on a selected edge aborts a standby that quiesces, is held after the commit, and from sleep begins
a cold start with cause 8; an edge that is not selected does nothing. COLD_START takes a domain that is left in its wake order to ON once
its parents are, with none left it ends the cold start and E0 starts at its boot address, and with the chip held in reset it begins the
start of PORESET_N with cause 11. POWER_ON_RESET and PORESET_N begin cold starts with causes 0 and 1. -/
def Obligations.RailsStandbyAndCold : Prop :=
  (∀ (k : Fin 4) (s : State),
    k ≠ 0 →
    s.dom (9 + k) ≠ 0 →
    Answers (.pgoodFall k false) s fun t =>
      t.dom (9 + k) = 3 ∧ t.rd PWRCTL_STATUS_DOMAIN = 9 + k ∧ t.fired 114 ∧ t.hasRaised FLT_PWR_PGOOD) ∧
  (∀ (b : Bool) (s : State),
    s.pwr.standby ≠ .asleep →
    s.pwr.shutdown = false →
    Answers (.pgoodFall 0 b) s fun t =>
      t.rd CLKRST_CAUSE_CAUSE = 11 ∧ t.pwr.resetHeld = true) ∧
  (∀ (s : State),
    s.pwr.standby ≠ .asleep →
    s.pwr.shutdown = false →
    s.pwr.resetHeld = false →
    Answers (.vmonExcursion false) s fun t =>
      t.hasRaised FLT_PWR_VMON) ∧
  (∀ (s : State),
    s.pwr.standby ≠ .asleep →
    s.pwr.shutdown = false →
    Answers (.vmonExcursion true) s fun t =>
      t.rd CLKRST_CAUSE_CAUSE = 11 ∧ t.pwr.resetHeld = true) ∧
  (∀ (b : Bool) (s : State),
    s.pwr.standby = .asleep ∨ s.pwr.shutdown = true →
    Answers (.vmonExcursion b) s fun t =>
      t = s) ∧
  (∀ (k : Fin 4) (s : State),
    k ≠ 0 →
    s.dom (9 + k) ≠ 0 →
    Answers (.pgoodFall k true) s fun t =>
      t.dom (9 + k) = 3 ∧ t.rd (PWRCTL_XING (9 + k)) = 1 ∧ t.hasRaised FLT_PWR_XING ∧ t.hasRaised FLT_PWR_PGOOD) ∧
  (∀ (k : Nat) (s : State),
    s.pwr.standby = .committed →
    s.pwr.stbyWake = some k →
    k < 2 →
    Answers (.standbyEntry) s fun t =>
      t.rd CLKRST_CAUSE_CAUSE = 8 ∧ t.rd CLKRST_CAUSE_WAKE_PIN = k ∧ t.pwr.cold = true) ∧
  (∀ (k : Fin 2) (b : Bool) (s : State),
    (s.rd (if k = 0 then PWRCTL_STBY_WAKE0_EDGE else PWRCTL_STBY_WAKE1_EDGE)).testBit (if b then 0 else 1) = true →
    s.pwr.standby = .committed →
    Answers (.wakePinEdge k b) s fun t =>
      t.pwr.stbyWake = some k.val) ∧
  (∀ (m : Master) (v : Word) (s : State),
    s.accepts m 0x20010018 →
    v.toNat.testBit 0 = true →
    s.on PWRCTL_STATUS_BUSY = false →
    Answers (.standbyRequest m v) s fun t =>
      t.rd PWRCTL_STBY_GO = 1 ∧ t.rd PWRCTL_STATUS_BUSY = 1 ∧ t.pwr.standby = .quiesce) ∧
  (∀ (m : Master) (v : Word) (s : State),
    s.accepts m 0x20010018 →
    v.toNat.testBit 0 = true →
    s.on PWRCTL_STATUS_BUSY = true →
    Answers (.standbyRequest m v) s fun t =>
      t = (s.stored m 0x20010018 v).werr 0x20010018) ∧
  (∀ (d : Fin 29) (s : State),
    s.pwr.standby = .committed →
    s.pwr.stbyWake = none →
    Answers (.standbyEntry) s fun t =>
      t.dom d = (if d = 0 then 2 else 0) ∧ t.pwr.standby = .asleep ∧ t.rd PWRCTL_STBY_GO = 0 ∧ t.rd PWRCTL_RAIL_EN = 0) ∧
  (∀ (s : State),
    s.pwr.standby = .none →
    Answers (.standbyEntry) s fun t =>
      t = s) ∧
  (∀ (k : Fin 2) (b : Bool) (s : State),
    (s.rd (if k = 0 then PWRCTL_STBY_WAKE0_EDGE else PWRCTL_STBY_WAKE1_EDGE)).testBit (if b then 0 else 1) = false →
    Answers (.wakePinEdge k b) s fun t =>
      t = s) ∧
  (∀ (k : Fin 2) (b : Bool) (s : State),
    (s.rd (if k = 0 then PWRCTL_STBY_WAKE0_EDGE else PWRCTL_STBY_WAKE1_EDGE)).testBit (if b then 0 else 1) = true →
    s.pwr.standby = .quiesce →
    Answers (.wakePinEdge k b) s fun t =>
      t.pwr.standby = .none ∧ t.rd PWRCTL_STBY_GO = 0 ∧ t.rd PWRCTL_STATUS_SLEEP_ABORT = 1 ∧ t.fired 115) ∧
  (∀ (k : Fin 2) (b : Bool) (s : State),
    (s.rd (if k = 0 then PWRCTL_STBY_WAKE0_EDGE else PWRCTL_STBY_WAKE1_EDGE)).testBit (if b then 0 else 1) = true →
    s.pwr.standby = .asleep →
    Answers (.wakePinEdge k b) s fun t =>
      t.rd CLKRST_CAUSE_CAUSE = 8 ∧ t.rd CLKRST_CAUSE_WAKE_PIN = k ∧ t.pwr.cold = true) ∧
  (∀ (x : WakeProg) (s : State),
    s.pwr.resetHeld = false →
    s.pwr.cold = true →
    s.pwr.wakes = [x] →
    coldDom x.domain = true →
    x.domain < 29 →
    x.target = 2 →
    (domParents x.domain).all (fun p => s.dom p == 2) = true →
    Answers (.coldStart) s fun t =>
      t.dom x.domain = 2 ∧ t.wakeOf x.domain = none) ∧
  (∀ (s : State),
    s.pwr.resetHeld = false →
    s.pwr.cold = true →
    s.pwr.boot = true →
    s.pwr.wakes = [] →
    s.on CLKRST_STATUS_WIPE_BUSY = false →
    s.engRuns 0 = true →
    Answers (.coldStart) s fun t =>
      t.pwr.cold = false ∧ (t.eng 0).pc = 0x01000000 ∧ (t.eng 0).machine = true) ∧
  (∀ (s : State),
    s.pwr.resetHeld = true →
    Answers (.coldStart) s fun t =>
      t.rd CLKRST_CAUSE_CAUSE = 11 ∧ t.pwr.cold = true ∧ t.pwr.resetHeld = false ∧ t.wakeOf 1 = some { domain := 1 } ∧
        t.wakeOf 28 = some { domain := 28 }) ∧
  (∀ (s : State),
    s.pwr.resetHeld = false →
    s.pwr.cold = false →
    Answers (.coldStart) s fun t =>
      t = s) ∧
  (∀ (s : State),
    Answers (.powerOnReset) s fun t =>
      t.rd CLKRST_CAUSE_CAUSE = 0 ∧ t.pwr.cold = true ∧ t.mem = []) ∧
  (∀ (s : State),
    Answers (.poresetN) s fun t =>
      t.rd CLKRST_CAUSE_CAUSE = 1 ∧ t.pwr.cold = true ∧ t.mem = [])

/-- Chip and block resets, the system watchdog, clock faults, closed crossings and CLKOUT. SYSRESET_N and SOFTWARE_RESET with 0x7E51 request a
chip reset with causes 2 and 3 where none is under way and the chip is neither held, shut down nor asleep, else they do nothing (log entry
42); another value sets WERR. CHIP_RESET performs the one requested: CAUSE and SRC name it, and WIPE_BUSY is set until MEMORY_WIPE_DONE
clears it and E0 starts at its boot address, unless the crystal and the PLL are still restarted (DEDUCED, log entry 12). BLOCK_RESET of
block i gives every field of its register page the reset value, but for SHUT_AUTO, the lane states, FILTER and BUF_ROWS of the layers, and
a locked WIN_ROLE; an access of another master that it cuts off in NET0 gets a bus error. SWDT_ENABLE with EN 1 sets EN and starts the
count; SWDT_KICK with 0xC35A starts it afresh, another value expires it with FLT_SYS_WDT; SWDT_HALF of an enabled watchdog fires event
117, a second one before a kick does nothing; SWDT_TIMEOUT expires an enabled watchdog; SWDT_FORCED_RESET after an expiry resets the chip
with cause 4. CLOCK_MONITOR, SYSTEM_PLL_LOSS and XTAL_FAIL raise their faults, the last two clear their flags. CLOSED_CROSSING_ACCESS of a
domain that is not ON sets its XING bit, fires event 116 and raises FLT_PWR_XING; into a fenced bank it is a bus error alone, and of a
domain that is ON it is no closed crossing and does nothing. CLKOUT_SELECT stores SEL. -/
def Obligations.ResetsClocksAndSystemWatchdog : Prop :=
  (∀ (s : State),
    s.pwr.reset = none →
    s.pwr.shutdown = false →
    s.pwr.resetHeld = false →
    s.pwr.standby ≠ .asleep →
    Answers (.sysresetN) s fun t =>
      t.pwr.reset = some { cause := 2, src := 0 }) ∧
  (∀ (s : State),
    s.pwr.reset.isSome = true ∨ s.pwr.shutdown = true ∨ s.pwr.resetHeld = true ∨ s.pwr.standby = .asleep →
    Answers (.sysresetN) s fun t =>
      t = s) ∧
  (∀ (m : Master) (s : State),
    s.accepts m 0x20020004 →
    s.pwr.reset = none →
    s.pwr.shutdown = false →
    s.pwr.resetHeld = false →
    s.pwr.standby ≠ .asleep →
    Answers (.softwareReset m 0x7E51) s fun t =>
      t.pwr.reset = some { cause := 3, src := 0 }) ∧
  (∀ (m : Master) (s : State),
    s.accepts m 0x20020004 →
    s.pwr.reset.isSome = true ∨ s.pwr.shutdown = true ∨ s.pwr.resetHeld = true ∨ s.pwr.standby = .asleep →
    Answers (.softwareReset m 0x7E51) s fun t =>
      t = s.stored m 0x20020004 0x7E51) ∧
  (∀ (m : Master) (v : Word) (s : State),
    s.accepts m 0x20020004 →
    v ≠ 0x7E51 →
    Answers (.softwareReset m v) s fun t =>
      t = (s.stored m 0x20020004 v).werr 0x20020004) ∧
  (∀ (s : State) (x : ResetReq),
    s.pwr.reset = some x →
    x.cause < 16 →
    x.src < 128 →
    Answers (.chipReset) s fun t =>
      t.rd CLKRST_CAUSE_CAUSE = x.cause ∧ t.rd CLKRST_CAUSE_SRC = x.src ∧ t.rd CLKRST_STATUS_WIPE_BUSY = 1 ∧ t.pwr.sysresetLow = true) ∧
  (∀ (s : State),
    s.pwr.reset = none →
    Answers (.chipReset) s fun t =>
      t = s) ∧
  (∀ (s : State),
    s.on CLKRST_STATUS_WIPE_BUSY = true →
    s.pwr.boot = true →
    s.pwr.wakes = [] →
    (s.wr CLKRST_STATUS_WIPE_BUSY 0).engRuns 0 = true →
    Answers (.memoryWipeDone) s fun t =>
      t.rd CLKRST_STATUS_WIPE_BUSY = 0 ∧ t.rd CLKRST_STATUS_SYSPLL_LOCK = 1 ∧ t.rd CLKRST_STATUS_XTAL_OK = 1 ∧ t.pwr.sysresetLow = false ∧
        (t.eng 0).pc = 0x01000000 ∧ (t.eng 0).machine = true) ∧
  (∀ (s : State),
    s.on CLKRST_STATUS_WIPE_BUSY = true →
    (s.wakeOf 1).isSome = true →
    Answers (.memoryWipeDone) s fun t =>
      t.rd CLKRST_STATUS_WIPE_BUSY = 0 ∧ t.evc.engine = s.evc.engine ∧ t.pwr = { s.pwr with sysresetLow := false }) ∧
  (∀ (s : State),
    s.on CLKRST_STATUS_WIPE_BUSY = false →
    Answers (.memoryWipeDone) s fun t =>
      t = s) ∧
  (∀ (m : Master) (i : Fin 17) (s : State),
    s.accepts m 0x20020008 →
    Answers (.blockReset m (BitVec.ofNat 32 (2 ^ i.val)) []) s fun t =>
      t = (s.stored m 0x20020008 (BitVec.ofNat 32 (2 ^ i.val))).blockReset i) ∧
  (∀ (m : Master) (i : Fin 17) (f : Fld) (s : State),
    s.accepts m 0x20020008 →
    f.addr / 0x10000 = brstPage i →
    f.lo < 32 →
    f.key ≠ THM_CTRL_SHUT_AUTO.key →
    (∀ j : Fin 15, f.key ≠ (LANE_STATUS_STATE j).key) →
    (∀ k : Fin 8, f.key ≠ (LAYER_L_WARP_STATUS_FILTER k).key ∧ f.key ≠ (LAYER_L_WARP_STATUS_BUF_ROWS k).key) →
    s.on WIN_CTRL_LOCK = false →
    Answers (.blockReset m (BitVec.ofNat 32 (2 ^ i.val)) []) s fun t =>
      t.rd f = f.reset) ∧
  (∀ (m : Master) (c : Master) (a : Nat) (s : State),
    s.accepts m 0x20020008 →
    s.viewAddr c a / 0x10000 = 0x2011 →
    Answers (.blockReset m 0x400 [(c, a, .write)]) s fun t =>
      t.hasRaised FLT_BUS_ERR) ∧
  (∀ (m : Master) (v : Word) (s : State),
    s.accepts m 0x20020010 →
    v.toNat.testBit 0 = true →
    s.on CLKRST_SWDT_CTRL_EN = false →
    Answers (.swdtEnable m v) s fun t =>
      t.rd CLKRST_SWDT_CTRL_EN = 1 ∧ t.pwr.swdtHalf = false ∧ t.pwr.swdtTmo = max 1 ((s.stored m 0x20020010 v).rd CLKRST_SWDT_CTRL_TMO)) ∧
  (∀ (m : Master) (s : State),
    s.accepts m 0x20020014 →
    Answers (.swdtKick m 0xC35A) s fun t =>
      t.pwr.swdtHalf = false ∧ t.pwr.swdtTmo = max 1 (s.rd CLKRST_SWDT_CTRL_TMO)) ∧
  (∀ (m : Master) (v : Word) (s : State),
    s.accepts m 0x20020014 →
    v ≠ 0xC35A →
    Answers (.swdtKick m v) s fun t =>
      t.pwr.swdtExpired = true ∧ t.hasRaised FLT_SYS_WDT) ∧
  (∀ (s : State),
    s.on CLKRST_SWDT_CTRL_EN = true →
    s.pwr.swdtHalf = false →
    Answers (.swdtHalf) s fun t =>
      t.pwr.swdtHalf = true ∧ t.fired 117) ∧
  (∀ (s : State),
    s.on CLKRST_SWDT_CTRL_EN = false ∨ s.pwr.swdtHalf = true →
    Answers (.swdtHalf) s fun t =>
      t = s) ∧
  (∀ (s : State),
    s.on CLKRST_SWDT_CTRL_EN = true →
    Answers (.swdtTimeout) s fun t =>
      t.pwr.swdtExpired = true ∧ t.hasRaised FLT_SYS_WDT) ∧
  (∀ (s : State),
    s.pwr.swdtExpired = true →
    Answers (.swdtForcedReset) s fun t =>
      t.rd CLKRST_CAUSE_CAUSE = 4 ∧ t.rd CLKRST_STATUS_WIPE_BUSY = 1) ∧
  (∀ (s : State),
    s.pwr.swdtExpired = false →
    Answers (.swdtForcedReset) s fun t =>
      t = s) ∧
  (∀ (s : State),
    Answers (.clockMonitor) s fun t =>
      t.hasRaised FLT_CLK_MON) ∧
  (∀ (s : State),
    Answers (.systemPllLoss) s fun t =>
      t.rd CLKRST_STATUS_SYSPLL_LOCK = 0 ∧ t.hasRaised FLT_CLK_PLL) ∧
  (∀ (s : State),
    Answers (.xtalFail) s fun t =>
      t.rd CLKRST_STATUS_XTAL_OK = 0 ∧ t.hasRaised FLT_CLK_XTAL) ∧
  (∀ (m : Master) (a : Nat) (x : Access) (s : State),
    s.domOpen (accessDomain (s.viewAddr m a)) = true →
    Answers (.closedCrossingAccess m a x) s fun t =>
      t = s) ∧
  (∀ (m : Master) (a : Nat) (x : Access) (s : State),
    s.domOpen (accessDomain (s.viewAddr m a)) = false →
    s.bankFenced (s.viewAddr m a) = true →
    Answers (.closedCrossingAccess m a x) s fun t =>
      t = s.busErr m (s.viewAddr m a) x) ∧
  (∀ (m : Master) (a : Nat) (x : Access) (s : State),
    s.domOpen (accessDomain (s.viewAddr m a)) = false →
    s.bankFenced (s.viewAddr m a) = false →
    Answers (.closedCrossingAccess m a x) s fun t =>
      t.rd (PWRCTL_XING (accessDomain (s.viewAddr m a) % 32)) = 1 ∧ t.fired 116 ∧ t.hasRaised FLT_PWR_XING) ∧
  (∀ (m : Master) (v : Word) (s : State),
    s.accepts m 0x20020018 →
    Answers (.clkoutSelect m v) s fun t =>
      t.rd CLKRST_CLKOUT_SEL = bits v.toNat 0 2)

/-- The boot ROM, the security version fuses, lifecycle requests and debug tokens. BOOT_ROM does nothing once ROM rights are gone; with valid
keys, no wipe owed, no fuse fault and a bootable lifecycle and mode it reads its two directories, and where neither can be read BOOT_CODE
is 1, FAULT_N is forced and E0 waits. SVN_WRITE in lifecycle 1 or 2 after a boot, of a value no higher than the booted SVN, raises the
fuses to it (a value the fuses already hold or pass is taken, log entry 25); in another lifecycle, with no boot, or with a higher value it
sets WERR. LC_REQUEST with GO 1 and a readable token: one that passes leaves the record of a wipe, programs the lifecycle fuses and
requests a chip reset with cause 10, and where the power is cut between the record and the fuses the fuses stand and a cold start begins;
one that fails sets ERR with its CODE. LC_FUSE_RECHECK of fuses that differ raises FLT_LC_FUSE. DEBUG_OPEN_REQ opens debug where the token
passes, and in lifecycle 0 without one, with every scope (log entry 25); where it fails it counts the failure, raises FLT_DBG_AUTH, and
the third one locks. DEBUG_CLOSE of an open session clears OPEN and SCOPE, and a session with scope bit 1 or 2 ends in a chip reset with
cause 9, on a chip that runs, where none is requested yet. -/
def Obligations.BootAndLifecycle : Prop :=
  (∀ (b : Bool) (f : List (Nat × List Byte)) (s : State),
    s.evc.romRights = false →
    Answers (.bootRom b f) s fun t =>
      t = s) ∧
  (∀ (f : List (Nat × List Byte)) (s : State),
    s.evc.romRights = true →
    (s.eng 0).pc = 0x01000000 →
    s.engRuns 0 = true →
    s.ident.keys.wipe = none →
    s.rd CLKRST_CAUSE_CAUSE ≠ 5 →
    s.part.lcBoot ≠ 7 →
    s.ident.bootmode % 8 ≠ 3 →
    s.recovery = false →
    Answers (.bootRom true f) s fun t =>
      t = s.showPub.boot f) ∧
  (∀ (s : State),
    s.evc.romRights = true →
    (s.eng 0).pc = 0x01000000 →
    s.engRuns 0 = true →
    s.ident.keys.wipe = none →
    s.rd CLKRST_CAUSE_CAUSE ≠ 5 →
    s.part.lcBoot ≠ 7 →
    s.ident.bootmode % 8 ≠ 3 →
    s.recovery = false →
    Answers (.bootRom true []) s fun t =>
      t.rd SYSCTL_BOOT_CODE = 1 ∧ t.rd FLT_PIN_FORCE = 1 ∧ t.rd (EVC_ENG_STATE_WFI 0) = 1 ∧ t.evc.romRights = false) ∧
  (∀ (m : Master) (v : Word) (s : State) (n : Nat),
    s.accepts m 0x20000014 →
    s.part.lcBoot = 1 ∨ s.part.lcBoot = 2 →
    s.ident.bootSvn = some n →
    bits v.toNat 0 7 ≤ min 64 n →
    Answers (.svnWrite m v) s fun t =>
      t.part.svnFuse = max s.part.svnFuse (bits v.toNat 0 7)) ∧
  (∀ (m : Master) (v : Word) (s : State),
    s.accepts m 0x20000014 →
    s.ident.bootSvn = none →
    Answers (.svnWrite m v) s fun t =>
      t = (s.stored m 0x20000014 v).werr 0x20000014) ∧
  (∀ (m : Master) (v : Word) (s : State),
    s.accepts m 0x20000014 →
    s.part.lcBoot ≠ 1 →
    s.part.lcBoot ≠ 2 →
    Answers (.svnWrite m v) s fun t =>
      t = (s.stored m 0x20000014 v).werr 0x20000014) ∧
  (∀ (m : Master) (v : Word) (s : State) (n : Nat),
    s.accepts m 0x20000014 →
    s.ident.bootSvn = some n →
    min 64 n < bits v.toNat 0 7 →
    Answers (.svnWrite m v) s fun t =>
      t = (s.stored m 0x20000014 v).werr 0x20000014) ∧
  (∀ (m : Master) (v : Word) (s : State),
    s.accepts m 0x20000030 →
    v.toNat.testBit 0 = true →
    s.on SYSCTL_LC_REQ_GO = false →
    0x10000000 ≤ (s.stored m 0x20000030 v).rd SYSCTL_LC_REQ_ADDR * 64 →
    (s.stored m 0x20000030 v).rd SYSCTL_LC_REQ_ADDR * 64 + 256 ≤ 0x10800000 →
    (s.stored m 0x20000030 v).canRead ((s.stored m 0x20000030 v).rd SYSCTL_LC_REQ_ADDR * 64) 256 = true →
    s.pwr.reset = none →
    s.pwr.shutdown = false →
    s.pwr.resetHeld = false →
    s.pwr.standby ≠ .asleep →
    Answers (.lcRequest m v false) s fun t =>
      ((s.stored m 0x20000030 v).lcCode ((s.stored m 0x20000030 v).bytes ((s.stored m 0x20000030 v).rd SYSCTL_LC_REQ_ADDR * 64) 256) = 0 →
        t.part.lcFuse = byteAt ((s.stored m 0x20000030 v).bytes ((s.stored m 0x20000030 v).rd SYSCTL_LC_REQ_ADDR * 64) 256) 5 ∧
      t.rd SYSCTL_LC_REQ_GO = 1 ∧ t.rd SYSCTL_LC_STATUS_BUSY = 1 ∧ t.ident.keys.wipe.isSome = true ∧ t.pwr.reset = some { cause := 10, src := 0 }) ∧
      ((s.stored m 0x20000030 v).lcCode ((s.stored m 0x20000030 v).bytes ((s.stored m 0x20000030 v).rd SYSCTL_LC_REQ_ADDR * 64) 256) ≠ 0 →
        t.rd SYSCTL_LC_STATUS_ERR = 1 ∧
      t.rd SYSCTL_LC_STATUS_CODE = (s.stored m 0x20000030 v).lcCode ((s.stored m 0x20000030 v).bytes ((s.stored m 0x20000030 v).rd SYSCTL_LC_REQ_ADDR
        * 64) 256) ∧ t.part = s.part)) ∧
  (∀ (m : Master) (v : Word) (s : State),
    s.accepts m 0x20000030 →
    v.toNat.testBit 0 = true →
    s.on SYSCTL_LC_REQ_GO = false →
    0x10000000 ≤ (s.stored m 0x20000030 v).rd SYSCTL_LC_REQ_ADDR * 64 →
    (s.stored m 0x20000030 v).rd SYSCTL_LC_REQ_ADDR * 64 + 256 ≤ 0x10800000 →
    (s.stored m 0x20000030 v).canRead ((s.stored m 0x20000030 v).rd SYSCTL_LC_REQ_ADDR * 64) 256 = true →
    Answers (.lcRequest m v true) s fun t =>
      ((s.stored m 0x20000030 v).lcCode ((s.stored m 0x20000030 v).bytes ((s.stored m 0x20000030 v).rd SYSCTL_LC_REQ_ADDR * 64) 256) = 0 →
        t.part = s.part ∧ t.ident.keys.wipe.isSome = true ∧ t.pwr.cold = true ∧ t.rd CLKRST_CAUSE_CAUSE = 0) ∧
      ((s.stored m 0x20000030 v).lcCode ((s.stored m 0x20000030 v).bytes ((s.stored m 0x20000030 v).rd SYSCTL_LC_REQ_ADDR * 64) 256) ≠ 0 →
        t.rd SYSCTL_LC_STATUS_ERR = 1 ∧
      t.rd SYSCTL_LC_STATUS_CODE = (s.stored m 0x20000030 v).lcCode ((s.stored m 0x20000030 v).bytes ((s.stored m 0x20000030 v).rd SYSCTL_LC_REQ_ADDR
        * 64) 256) ∧ t.part = s.part)) ∧
  (∀ (x : Nat) (s : State),
    x ≠ s.part.lcBoot →
    Answers (.lcFuseRecheck x) s fun t =>
      t.hasRaised FLT_LC_FUSE) ∧
  (∀ (x : Nat) (s : State),
    x = s.part.lcBoot →
    Answers (.lcFuseRecheck x) s fun t =>
      t = s) ∧
  (∀ (m : Master) (v : Word) (s : State),
    s.accepts m 0x20000040 →
    v.toNat.testBit 0 = true →
    s.on SYSCTL_DBG_LOCKED = false →
    s.part.lcBoot ≠ 0 →
    Answers (.debugOpenReq m v) s fun t =>
      ((s.stored m 0x20000040 v).debugToken = true → t.rd SYSCTL_DBG_OPEN = 1 ∧ t.hasRaised FLT_DBG_ACTIVE) ∧
      ((s.stored m 0x20000040 v).debugToken = false →
        t.rd SYSCTL_DBG_FAILS = (s.stored m 0x20000040 v).counted SYSCTL_DBG_FAILS ∧ t.hasRaised FLT_DBG_AUTH ∧
        (2 ≤ (s.stored m 0x20000040 v).rd SYSCTL_DBG_FAILS → t.rd SYSCTL_DBG_LOCKED = 1))) ∧
  (∀ (m : Master) (v : Word) (s : State),
    s.accepts m 0x20000040 →
    v.toNat.testBit 0 = true →
    s.on SYSCTL_DBG_LOCKED = false →
    s.part.lcBoot = 0 →
    Answers (.debugOpenReq m v) s fun t =>
      t.rd SYSCTL_DBG_OPEN = 1 ∧ t.rd SYSCTL_DBG_SCOPE = 7 ∧ t.hasRaised FLT_DBG_ACTIVE) ∧
  (∀ (m : Master) (v : Word) (s : State),
    s.accepts m 0x20000040 →
    v.toNat.testBit 1 = true →
    s.on SYSCTL_DBG_OPEN = true →
    Answers (.debugClose m v) s fun t =>
      t.rd SYSCTL_DBG_OPEN = 0 ∧ t.rd SYSCTL_DBG_SCOPE = 0 ∧ ((s.rd SYSCTL_DBG_SCOPE).testBit 1 = false → (s.rd SYSCTL_DBG_SCOPE).testBit 2 = false →
        t.pwr = s.pwr)) ∧
  (∀ (m : Master) (v : Word) (s : State),
    s.accepts m 0x20000040 →
    v.toNat.testBit 1 = true →
    s.on SYSCTL_DBG_OPEN = true →
    (s.rd SYSCTL_DBG_SCOPE).testBit 1 = true ∨ (s.rd SYSCTL_DBG_SCOPE).testBit 2 = true →
    s.pwr.reset = none →
    s.pwr.shutdown = false →
    s.pwr.resetHeld = false →
    s.pwr.standby ≠ .asleep →
    Answers (.debugClose m v) s fun t =>
      t.rd SYSCTL_DBG_OPEN = 0 ∧ t.rd SYSCTL_DBG_SCOPE = 0 ∧ t.pwr.reset = some { cause := 9, src := 0 })

/-- Events: pending bits, targets and redirects; engines: hold, release, view and watchdogs. EVENT_SOURCE_EDGE sets the pending bit of its
source, where a chapter assigns one. EVC_SETPEND sets the pending bit of every source whose bit is written 1. EVC_PEND_CLEAR clears the
pending bit of every source whose bit is written 1, and every pending bit whose bit is written 0 stays as it is. EVC_RETARGET stores
TARGET and FALLBACK of its source, and the pending bit stays. REDIRECT_TIMEOUT of a pending source that its target cannot take marks it
redirected, counts it in EVC_REDIR_CNT and raises FLT_EVC_REDIRECT; of a source that is not pending it changes nothing. EVC_DROP sets WERR
with no event active, and where the priority written is above the running one or below that of the activation beneath; of the one event
active a lower priority becomes the running one. ENGINE_HOLD with HOLD 1 resets the engine, clears WFI, HALT and the watchdog enable and
sets HOLD; ENGINE_RELEASE with HOLD 0 clears HOLD, and an engine that runs starts in machine mode at twice RSTVEC. APER_CHANGE stores
APER. WDT_ENABLE with EN 1 on a watchdog that is off sets EN and starts its count; EN 0 stores nothing. WDT_KICK with 0x4B1C starts the
count afresh, any other value raises FLT_ENG_WDT. WDT_WARN_EXPIRY and WDT_TIMEOUT raise their faults while the watchdog counts; while it
does not they change nothing. -/
def Obligations.EventsAndEngineControl : Prop :=
  (∀ (n : Fin 128) (s : State),
    srcAssigned n = true →
    Answers (.eventSourceEdge n) s fun t =>
      t.fired n) ∧
  (∀ (n : Fin 128) (s : State),
    srcAssigned n = false →
    Answers (.eventSourceEdge n) s fun t =>
      t = s) ∧
  (∀ (m : Master) (k : Fin 4) (v : Word) (i : Fin 32) (s : State),
    s.accepts m (0x20030110 + k * 4) →
    v.toNat.testBit i = true →
    Answers (.evcSetpend m k v) s fun t =>
      t.fired (k * 32 + i)) ∧
  (∀ (m : Master) (k : Fin 4) (v : Word) (i : Fin 32) (s : State),
    s.accepts m (0x20030100 + k * 4) →
    v.toNat.testBit i = true →
    Answers (.evcPendClear m k v) s fun t =>
      t.rd (EVC_PEND (k * 32 + i)) = 0) ∧
  (∀ (m : Master) (k : Fin 4) (v : Word) (i : Fin 32) (s : State),
    s.accepts m (0x20030100 + k * 4) →
    v.toNat.testBit i = false →
    Answers (.evcPendClear m k v) s fun t =>
      t.rd (EVC_PEND (k * 32 + i)) = s.rd (EVC_PEND (k * 32 + i))) ∧
  (∀ (m : Master) (n : Fin 128) (v : Word) (s : State),
    s.accepts m (0x20031000 + n * 0x10) →
    Answers (.evcRetarget m n v) s fun t =>
      t.rd (EVC_SRC_CFG_TARGET n) = bits v.toNat 8 4 ∧ t.rd (EVC_SRC_CFG_FALLBACK n) = bits v.toNat 12 4 ∧ t.rd (EVC_PEND n) = s.rd (EVC_PEND n)) ∧
  (∀ (n : Fin 128) (s : State),
    s.on (EVC_PEND n) = true →
    s.evc.redirected[n] = false →
    s.rd (EVC_SRC_CFG_REDIRECT_TMO n) ≠ 0 →
    s.undeliverable n = true →
    Answers (.redirectTimeout n) s fun t =>
      t.evc.redirected[n] = true ∧ t.rd EVC_REDIR_CNT_COUNT = s.counted EVC_REDIR_CNT_COUNT ∧ t.hasRaised FLT_EVC_REDIRECT) ∧
  (∀ (n : Fin 128) (s : State),
    s.on (EVC_PEND n) = false →
    Answers (.redirectTimeout n) s fun t =>
      t = s) ∧
  (∀ (m : Master) (e : Fin 16) (v : Word) (s : State),
    s.accepts m (0x20030810 + e * 0x40) →
    activations (s.eng e).opened = [] →
    Answers (.evcDrop m e v) s fun t =>
      t = (s.stored m (0x20030810 + e * 0x40) v).werr 0x20030810) ∧
  (∀ (m : Master) (e : Fin 16) (v : Word) (n : Fin 128) (p : Nat) (q : Word) (b : Bool) (s : State),
    s.accepts m (0x20030810 + e * 0x40) →
    (s.eng e).opened = [.event n p q b] →
    bits v.toNat 0 4 ≤ p →
    Answers (.evcDrop m e v) s fun t =>
      (t.eng e).opened = [.event n (bits v.toNat 0 4) q b]) ∧
  (∀ (m : Master) (e : Fin 16) (v : Word) (n k : Fin 128) (p x : Nat) (q y : Word) (b z : Bool) (r : List Opened) (s : State),
    s.accepts m (0x20030810 + e * 0x40) →
    (s.eng e).opened = .event n p q b :: .event k x y z :: r →
    bits v.toNat 0 4 < x ∨ p < bits v.toNat 0 4 →
    Answers (.evcDrop m e v) s fun t =>
      t = (s.stored m (0x20030810 + e * 0x40) v).werr 0x20030810) ∧
  (∀ (m : Master) (e : Fin 16) (v : Word) (n : Fin 128) (p : Nat) (q : Word) (b : Bool) (s : State),
    s.accepts m (0x20030810 + e * 0x40) →
    (s.eng e).opened = [.event n p q b] →
    p < bits v.toNat 0 4 →
    Answers (.evcDrop m e v) s fun t =>
      t = (s.stored m (0x20030810 + e * 0x40) v).werr 0x20030810) ∧
  (∀ (m : Master) (e : Fin 16) (v : Word) (s : State),
    s.accepts m (0x20030800 + e * 0x40) →
    v.toNat.testBit 0 = true →
    Answers (.engineHold m e v) s fun t =>
      t.rd (EVC_ENG_CTRL_HOLD e) = 1 ∧ t.rd (EVC_ENG_STATE_WFI e) = 0 ∧ t.rd (EVC_ENG_STATE_HALT e) = 0 ∧ t.rd (EVC_ENG_WDT_CTRL_EN e) = 0 ∧
        t.eng e = {}) ∧
  (∀ (m : Master) (e : Fin 16) (v : Word) (s : State),
    s.accepts m (0x20030800 + e * 0x40) →
    v.toNat.testBit 0 = false →
    s.on (EVC_ENG_CTRL_HOLD e) = true →
    ((s.stored m (0x20030800 + e * 0x40) v).wr (EVC_ENG_CTRL_HOLD e) 0).engRuns e = true →
    Answers (.engineRelease m e v) s fun t =>
      t.rd (EVC_ENG_CTRL_HOLD e) = 0 ∧ (t.eng e).machine = true ∧ (t.eng e).pc = BitVec.ofNat 32 (s.rd (EVC_ENG_RSTVEC_VEC e) * 2)) ∧
  (∀ (m : Master) (e : Fin 16) (v : Word) (s : State),
    s.accepts m (0x20030800 + e * 0x40) →
    Answers (.aperChange m e v) s fun t =>
      t.rd (EVC_ENG_CTRL_APER e) = bits v.toNat 1 1) ∧
  (∀ (m : Master) (e : Fin 16) (v : Word) (s : State),
    s.accepts m (0x20030814 + e * 0x40) →
    v.toNat.testBit 0 = true →
    s.on (EVC_ENG_WDT_CTRL_EN e) = false →
    Answers (.wdtEnable m e v) s fun t =>
      t.rd (EVC_ENG_WDT_CTRL_EN e) = 1 ∧ (t.eng e).wdtStopped = false ∧ (t.eng e).wdtWarned = false ∧
        (t.eng e).wdtWarn = s.rd (EVC_ENG_WDT_TIME_WARN e)) ∧
  (∀ (m : Master) (e : Fin 16) (v : Word) (s : State),
    s.accepts m (0x20030814 + e * 0x40) →
    v.toNat.testBit 0 = false →
    Answers (.wdtEnable m e v) s fun t =>
      t = s.stored m (0x20030814 + e * 0x40) v) ∧
  (∀ (m : Master) (e : Fin 16) (s : State),
    s.accepts m (0x2003081C + e * 0x40) →
    Answers (.wdtKick m e 0x4B1C) s fun t =>
      (t.eng e).wdtStopped = false ∧ (t.eng e).wdtWarned = false ∧ (t.eng e).wdtWarn = s.rd (EVC_ENG_WDT_TIME_WARN e)) ∧
  (∀ (m : Master) (e : Fin 16) (v : Word) (s : State),
    s.accepts m (0x2003081C + e * 0x40) →
    v ≠ 0x4B1C →
    Answers (.wdtKick m e v) s fun t =>
      t.evc.engine = s.evc.engine ∧ t.hasRaised FLT_ENG_WDT) ∧
  (∀ (e : Fin 16) (s : State),
    s.wdtCounts e = true →
    (s.eng e).wdtWarned = false →
    (s.eng e).wdtWarn < max 1 (s.rd (EVC_ENG_WDT_TIME_TMO e)) →
    Answers (.wdtWarnExpiry e) s fun t =>
      (t.eng e).wdtWarned = true ∧ t.hasRaised FLT_ENG_WDT_WARN) ∧
  (∀ (e : Fin 16) (s : State),
    s.wdtCounts e = false →
    Answers (.wdtWarnExpiry e) s fun t =>
      t = s) ∧
  (∀ (e : Fin 16) (s : State),
    s.wdtCounts e = true →
    Answers (.wdtTimeout e) s fun t =>
      (t.eng e).wdtStopped = true ∧ t.hasRaised FLT_ENG_WDT) ∧
  (∀ (e : Fin 16) (s : State),
    s.wdtCounts e = false →
    Answers (.wdtTimeout e) s fun t =>
      t = s)

/-- What entering an event, a trap and MRET save, change and restore in an engine. EVENT_ENTRY with no source rising at the same instant and a
best eligible event n on the engine: PEND of n becomes 0, ACT of n becomes 1, WFI becomes 0, the context stack gains n with its priority,
the pc and the mode, the engine is in machine mode and its pc is twice VEC of n. With no eligible event it leaves the view of the engine
as it is. MRET with an event on top and no event eligible clears ACT of it, drops it from the stack, and restores pc and mode; over an
open trap, or with nothing open, it restores mode from MPP and the pc from mepc, with MIE from MPIE and MPIE 1; over a non-maskable trap,
with none waiting, it restores the pc and the mode saved. SYNC_EXCEPTION with no trap open: mepc, mcause and mtval take pc, cause and
value, MPIE takes MIE, MIE becomes 0, MPP takes the mode, the engine is in machine mode at mtvec with its two lowest bits 0, and the trap
is on the stack; after an uncorrectable SRAM error mcause and mtval are those of the access that met it (log entry 8). With a trap open
the engine halts, and FLT_ENG_EXC is raised. NMI_ENTRY of a running engine with a non-maskable trap waiting and none open takes one from
the count, saves pc and mode, clears WFI and goes to twice NMIVEC; with none waiting it changes nothing. WFI_ENTER sets WFI unless an
event that may wake the engine or a non-maskable trap waits, or TW forbids it in user mode (log entry 8). -/
def Obligations.EngineEntriesAndTraps : Prop :=
  (∀ (e : Fin 16) (w : EngView) (n : Fin 128) (s : State),
    (s.view e w).bestEvent e = some n →
    Answers (.eventEntry e w none) s fun t =>
      t.rd (EVC_PEND n) = 0 ∧ t.rd (EVC_ACT n) = 1 ∧ t.rd (EVC_ENG_STATE_WFI e) = 0 ∧
        (t.eng e).opened = .event n (s.rd (EVC_SRC_CFG_PRIO n)) w.pc w.machine :: (s.eng e).opened ∧ (t.eng e).machine = true ∧
      (t.eng e).pc = BitVec.ofNat 32 (s.rd (EVC_SRC_VEC_VEC n) * 2)) ∧
  (∀ (e : Fin 16) (w : EngView) (s : State),
    (s.view e w).bestEvent e = none →
    Answers (.eventEntry e w none) s fun t =>
      t = s.view e w) ∧
  (∀ (e : Fin 16) (w : EngView) (n : Fin 128) (p : Nat) (q : Word) (b : Bool) (r : List Opened) (s : State),
    (s.eng e).opened = .event n p q b :: r →
    ((((s.view e w).wr (EVC_ACT n) 0).setOpened e r).inactive n).bestEvent e = none →
    Answers (.mret e w) s fun t =>
      t.rd (EVC_ACT n) = 0 ∧ (t.eng e).opened = r ∧ (t.eng e).pc = q ∧ (t.eng e).machine = b) ∧
  (∀ (e : Fin 16) (w : EngView) (s : State),
    (s.eng e).opened = [] →
    Answers (.mret e w) s fun t =>
      (t.eng e).pc = w.mepc ∧ (t.eng e).machine = w.mpp ∧ (t.eng e).mie = w.mpie ∧ (t.eng e).mpie = true) ∧
  (∀ (e : Fin 16) (w : EngView) (q : Word) (b : Bool) (r : List Opened) (s : State),
    (s.eng e).opened = .nmi q b :: r →
    (s.eng e).nmiPend = 0 →
    Answers (.mret e w) s fun t =>
      (t.eng e).opened = r ∧ (t.eng e).pc = q ∧ (t.eng e).machine = b) ∧
  (∀ (e : Fin 16) (w : EngView) (r : List Opened) (s : State),
    (s.eng e).opened = .trap :: r →
    Answers (.mret e w) s fun t =>
      (t.eng e).opened = r ∧ (t.eng e).pc = w.mepc ∧ (t.eng e).machine = w.mpp ∧ (t.eng e).mie = w.mpie ∧ (t.eng e).mpie = true) ∧
  (∀ (e : Fin 16) (w : EngView) (x y : Word) (s : State),
    trapOpen (s.eng e).opened = false →
    (s.eng e).fault = none →
    Answers (.syncException e w x y) s fun t =>
      (t.eng e).mepc = w.pc ∧ (t.eng e).mcause = x ∧ (t.eng e).mtval = y ∧ (t.eng e).mpie = w.mie ∧ (t.eng e).mie = false ∧
        (t.eng e).mpp = w.machine ∧ (t.eng e).machine = true ∧ (t.eng e).opened = .trap :: (s.eng e).opened ∧ (t.eng e).pc = w.mtvec &&& ~~~3#32) ∧
  (∀ (e : Fin 16) (w : EngView) (x y : Word) (acc : Access) (a : Nat) (s : State),
    trapOpen (s.eng e).opened = false →
    (s.eng e).fault = some (acc, a) →
    Answers (.syncException e w x y) s fun t =>
      (t.eng e).mepc = w.pc ∧ (t.eng e).mcause = accessCause acc ∧ (t.eng e).mtval = BitVec.ofNat 32 a ∧ (t.eng e).fault = none ∧
        (t.eng e).pc = w.mtvec &&& ~~~3#32) ∧
  (∀ (e : Fin 16) (w : EngView) (x y : Word) (s : State),
    trapOpen (s.eng e).opened = true →
    Answers (.syncException e w x y) s fun t =>
      t.rd (EVC_ENG_STATE_HALT e) = 1 ∧ t.hasRaised FLT_ENG_EXC) ∧
  (∀ (e : Fin 16) (w : EngView) (s : State),
    (s.eng e).nmiPend ≠ 0 →
    nmiOpen (s.eng e).opened = false →
    s.engRuns e = true →
    Answers (.nmiEntry e w) s fun t =>
      (t.eng e).nmiPend = (s.eng e).nmiPend - 1 ∧ (t.eng e).machine = true ∧ (t.eng e).opened = .nmi w.pc w.machine :: (s.eng e).opened ∧
        t.rd (EVC_ENG_STATE_WFI e) = 0 ∧ (t.eng e).pc = BitVec.ofNat 32 (s.rd (EVC_ENG_NMIVEC_VEC e) * 2)) ∧
  (∀ (e : Fin 16) (w : EngView) (s : State),
    (s.eng e).nmiPend = 0 →
    Answers (.nmiEntry e w) s fun t =>
      t = s) ∧
  (∀ (e : Fin 16) (w : EngView) (s : State),
    w.machine = true ∨ w.tw = false →
    (List.finRange 128).any (fun n => (s.view e w).wakes e n) = false →
    (s.eng e).nmiPend = 0 →
    Answers (.wfiEnter e w) s fun t =>
      t.rd (EVC_ENG_STATE_WFI e) = 1) ∧
  (∀ (e : Fin 16) (w : EngView) (s : State),
    (s.eng e).nmiPend ≠ 0 ∨ (w.machine = false ∧ w.tw = true) ∨ (List.finRange 128).any (fun n => (s.view e w).wakes e n) = true →
    Answers (.wfiEnter e w) s fun t =>
      t.rd (EVC_ENG_STATE_WFI e) = s.rd (EVC_ENG_STATE_WFI e))

/-- FLT: acknowledge, clear, lock, software fault, pin release and the three unfences. FLT_ACK frees the capture and the count of each class
whose bit is written. FLT_PEND_CLEAR clears each pending flag written whose cause is gone; one whose cause is held stays, and WERR is set
with event 79. FLT_LOCK sets LOCK. FLT_SW with GO raises the software fault that it names. FLT_PIN_REL clears PIN_LATCH.
FLT_ENGINE_UNFENCE, FLT_ZONE_UNFENCE and FLT_NET_UNFENCE clear each fence whose bit is written 1 and no other. FAULT_OCCURRENCE of one
occurrence sets its pending bit and, with the record of its class free, captures it there; with that record VALID it counts and escalates:
into the next record with ESC, event 78 and ESC_CNT, or counted there too, a class 3 source that may not lock out staying in class 3.
Where the reaction resets a block, a write on its way into that block gets a bus error (FLT_BUS_ERR). Of several occurrences the lower
source number is handled first. -/
def Obligations.FaultBlockCommands : Prop :=
  (∀ (m : Master) (v : Word) (k : Fin 5) (s : State),
    s.accepts m 0x20040008 →
    v.toNat.testBit k = true →
    Answers (.fltAck m v) s fun t =>
      t.rd (FLT_CAP_INFO_VALID k) = 0 ∧ t.rd (FLT_CAP_CNT_CNT k) = 0) ∧
  (∀ (m : Master) (v : Word) (k : Fin 5) (s : State),
    s.accepts m 0x20040008 →
    v.toNat.testBit k = false →
    Answers (.fltAck m v) s fun t =>
      t.rd (FLT_CAP_INFO_VALID k) = s.rd (FLT_CAP_INFO_VALID k) ∧ t.rd (FLT_CAP_CNT_CNT k) = s.rd (FLT_CAP_CNT_CNT k)) ∧
  (∀ (m : Master) (k : Fin 3) (v : Word) (i : Fin 32) (s : State),
    s.accepts m (0x20040020 + 4 * k) →
    v.toNat.testBit i = true →
    s.held (32 * k + i) = false →
    Answers (.fltPendClear m k v) s fun t =>
      t.rd (FLT_PEND (32 * k + i)) = 0) ∧
  (∀ (m : Master) (k : Fin 3) (v : Word) (i : Fin 32) (s : State),
    s.accepts m (0x20040020 + 4 * k) →
    v.toNat.testBit i = true →
    s.on (FLT_PEND (32 * k + i)) = true →
    s.held (32 * k + i) = true →
    Answers (.fltPendClear m k v) s fun t =>
      t.rd (FLT_PEND (32 * k + i)) = s.rd (FLT_PEND (32 * k + i)) ∧ t.rd FLT_STATUS_WERR = 1 ∧ t.fired 79) ∧
  (∀ (m : Master) (v : Word) (s : State),
    s.accepts m 0x20040000 →
    v.toNat.testBit 0 = true →
    Answers (.fltLock m v) s fun t =>
      t.rd FLT_CTRL_LOCK = 1) ∧
  (∀ (m : Master) (v : Word) (s : State),
    s.accepts m 0x20040014 →
    v.toNat.testBit 31 = true →
    Answers (.fltSw m v) s fun t =>
      t.hasRaised (FLT_SW0 + bits v.toNat 0 3)) ∧
  (∀ (m : Master) (v : Word) (s : State),
    s.accepts m 0x2004000C →
    v.toNat.testBit 0 = true →
    Answers (.fltPinRel m v) s fun t =>
      t.rd FLT_STATUS_PIN_LATCH = 0) ∧
  (∀ (m : Master) (v : Word) (e : Fin 16) (s : State),
    s.accepts m 0x20040070 →
    v.toNat.testBit e = true →
    Answers (.fltEngineUnfence m v) s fun t =>
      t.rd (FLT_FENCE_ENG e) = 0) ∧
  (∀ (m : Master) (v : Word) (e : Fin 16) (s : State),
    s.accepts m 0x20040070 →
    v.toNat.testBit e = false →
    Answers (.fltEngineUnfence m v) s fun t =>
      t.rd (FLT_FENCE_ENG e) = s.rd (FLT_FENCE_ENG e)) ∧
  (∀ (m : Master) (k : Fin 6) (v : Word) (i : Fin 32) (s : State),
    s.accepts m (0x20040080 + 4 * k) →
    v.toNat.testBit i = true →
    Answers (.fltZoneUnfence m k v) s fun t =>
      t.rd (FLT_ZFENCE (32 * k + i)) = 0) ∧
  (∀ (m : Master) (k : Fin 6) (v : Word) (i : Fin 32) (s : State),
    s.accepts m (0x20040080 + 4 * k) →
    v.toNat.testBit i = false →
    Answers (.fltZoneUnfence m k v) s fun t =>
      t.rd (FLT_ZFENCE (32 * k + i)) = s.rd (FLT_ZFENCE (32 * k + i))) ∧
  (∀ (m : Master) (v : Word) (n : Fin 2) (s : State),
    s.accepts m 0x20040074 →
    v.toNat.testBit n = true →
    Answers (.fltNetUnfence m v) s fun t =>
      t.rd (FLT_FENCE_NET n) = 0) ∧
  (∀ (m : Master) (v : Word) (n : Fin 2) (s : State),
    s.accepts m 0x20040074 →
    v.toNat.testBit n = false →
    Answers (.fltNetUnfence m v) s fun t =>
      t.rd (FLT_FENCE_NET n) = s.rd (FLT_FENCE_NET n)) ∧
  (∀ (c : Fin 4) (o : Occurrence) (cut : List (Master × Nat × Access)) (s : State),
    s.flt.raised = [] →
    (48 ≤ o.src ∧ o.src ≤ 54 → s.part.safeCapable = true) →
    o.src < 96 →
    min 3 (s.rd (FLT_SRC_CFG_CLASS o.src)) = c.val →
    s.on (FLT_CAP_INFO_VALID c) = false →
    Answers (.faultOccurrence [o] cut) s fun t =>
      t.rd (FLT_PEND o.src) = 1 ∧ t.rd (FLT_CAP_INFO_VALID c) = 1 ∧ t.rd (FLT_CAP_INFO_SRC c) = o.src ∧
        t.rd (FLT_CAP_INFO_UNIT c) = o.unit.getD 0 % 2 ^ (FLT_CAP_INFO_UNIT c).width ∧ t.rd (FLT_CAP_INFO_MASTER c) = (masterCode o.master).1 ∧
      t.rd (FLT_CAP_INFO_ACCESS c) = accessCode o.access ∧ t.rd (FLT_CAP_INFO_ESC c) = 0 ∧ t.rd (FLT_CAP_ADDR_LO_ADDR c) = o.addr % 2 ^ 32 ∧
        t.rd (FLT_CAP_INFO_TS_VALID c) = b2n s.ftRunning ∧ t.rd FLT_STATUS_ESC_CNT = s.rd FLT_STATUS_ESC_CNT) ∧
  (∀ (c : Fin 4) (o : Occurrence) (cut : List (Master × Nat × Access)) (s : State),
    s.flt.raised = [] →
    (48 ≤ o.src ∧ o.src ≤ 54 → s.part.safeCapable = true) →
    o.src < 96 →
    min 3 (s.rd (FLT_SRC_CFG_CLASS o.src)) = c.val →
    s.on (FLT_CAP_INFO_VALID c) = true →
    c.val < 3 ∨ s.on (FLT_SRC_CFG_LOCKOUT_EL o.src) = true →
    s.on (FLT_CAP_INFO_VALID (c + 1)) = false →
    Answers (.faultOccurrence [o] cut) s fun t =>
      t.rd (FLT_PEND o.src) = 1 ∧ t.rd (FLT_CAP_CNT_CNT c) = s.counted (FLT_CAP_CNT_CNT c) ∧ t.rd (FLT_CAP_INFO_SRC c) = s.rd (FLT_CAP_INFO_SRC c) ∧
        t.rd FLT_STATUS_ESC_CNT = s.counted FLT_STATUS_ESC_CNT ∧ t.fired 78 ∧ t.rd (FLT_CAP_INFO_VALID (c + 1)) = 1 ∧
      t.rd (FLT_CAP_INFO_SRC (c + 1)) = o.src ∧ t.rd (FLT_CAP_INFO_UNIT (c + 1)) = o.unit.getD 0 % 2 ^ (FLT_CAP_INFO_UNIT (c + 1)).width ∧
        t.rd (FLT_CAP_INFO_MASTER (c + 1)) = (masterCode o.master).1 ∧ t.rd (FLT_CAP_INFO_ACCESS (c + 1)) = accessCode o.access ∧
      t.rd (FLT_CAP_INFO_ESC (c + 1)) = 1 ∧ t.rd (FLT_CAP_ADDR_LO_ADDR (c + 1)) = o.addr % 2 ^ 32 ∧
        t.rd (FLT_CAP_INFO_TS_VALID (c + 1)) = b2n s.ftRunning ∧ (c.val = 3 → t.rd FLT_STATUS_LOCKOUT = 1)) ∧
  (∀ (c : Fin 4) (o : Occurrence) (cut : List (Master × Nat × Access)) (s : State),
    s.flt.raised = [] →
    (48 ≤ o.src ∧ o.src ≤ 54 → s.part.safeCapable = true) →
    o.src < 96 →
    min 3 (s.rd (FLT_SRC_CFG_CLASS o.src)) = c.val →
    s.on (FLT_CAP_INFO_VALID c) = true →
    c.val < 3 ∨ s.on (FLT_SRC_CFG_LOCKOUT_EL o.src) = true →
    s.on (FLT_CAP_INFO_VALID (c + 1)) = true →
    Answers (.faultOccurrence [o] cut) s fun t =>
      t.rd (FLT_PEND o.src) = 1 ∧ t.rd (FLT_CAP_CNT_CNT c) = s.counted (FLT_CAP_CNT_CNT c) ∧
        t.rd (FLT_CAP_CNT_CNT (c + 1)) = s.counted (FLT_CAP_CNT_CNT (c + 1)) ∧ t.rd (FLT_CAP_INFO_SRC (c + 1)) = s.rd (FLT_CAP_INFO_SRC (c + 1)) ∧
      t.fired 78) ∧
  (∀ (c : Fin 4) (o : Occurrence) (cut : List (Master × Nat × Access)) (s : State),
    s.flt.raised = [] →
    (48 ≤ o.src ∧ o.src ≤ 54 → s.part.safeCapable = true) →
    o.src < 96 →
    min 3 (s.rd (FLT_SRC_CFG_CLASS o.src)) = c.val →
    s.on (FLT_CAP_INFO_VALID c) = true →
    c.val = 3 →
    s.on (FLT_SRC_CFG_LOCKOUT_EL o.src) = false →
    Answers (.faultOccurrence [o] cut) s fun t =>
      t.rd (FLT_PEND o.src) = 1 ∧ t.rd (FLT_CAP_CNT_CNT c) = s.counted (FLT_CAP_CNT_CNT c) ∧ t.rd (FLT_CAP_INFO_SRC c) = s.rd (FLT_CAP_INFO_SRC c) ∧
        t.rd FLT_STATUS_ESC_CNT = s.rd FLT_STATUS_ESC_CNT) ∧
  (∀ (o : Occurrence) (i : Nat) (g : Master) (a : Nat) (cut : List (Master × Nat × Access)) (s : State),
    s.flt.raised = [] →
    (48 ≤ o.src ∧ o.src ≤ 54 → s.part.safeCapable = true) →
    s.brstOf o = some i →
    (g, a, .write) ∈ cut →
    s.viewAddr g a / 0x10000 = brstPage i →
    Answers (.faultOccurrence [o] cut) s fun t =>
      t.hasRaised FLT_BUS_ERR) ∧
  (∀ (a b : Occurrence) (s : State),
    s.flt.raised = [b] →
    a.src < b.src →
    (48 ≤ a.src ∧ a.src ≤ 54 → s.part.safeCapable = true) →
    Answers (.faultOccurrence [a] []) s fun t =>
      t = ({ s with flt := { s.flt with raised := [] } }.occurs a).occurs b) ∧
  (∀ (a b : Occurrence) (s : State),
    s.flt.raised = [a] →
    a.src ≤ b.src →
    (48 ≤ b.src ∧ b.src ≤ 54 → s.part.safeCapable = true) →
    Answers (.faultOccurrence [b] []) s fun t =>
      t = ({ s with flt := { s.flt with raised := [] } }.occurs a).occurs b)

/-- The safety island: its control bits, tests, grants, inputs, test pulses and time-outs. SAFE_ENABLE with EN 1 enables the island; on a
safety-capable part it latches the seal pattern read last, with the discrepancy time and interval it stands for; a write of EN 0 changes
nothing but plain fields. SAFE_ACK with DISC or TP_ERR set clears both where every interlock in use has cycled, and sets WERR with event
71 where one has not. SAFE_RESTRICT and SAFE_FB_REQ set their bit as written; with FB_REQ 1 the island is in FALLBACK, and where it enters
it enabled the caps are (0, 0) and silence waits. PROOF_REQ sets PROOF_DUE with event 69, PROOF_CLR clears it. CMON_TEST_DONE clears
CMON_TEST, shows the result in CMON_OK, sets CLAMP_ERR where it failed, and fires event 70. SAFE_MBOX_POP clears MBOX_FULL.
CLAMP_MONITOR_TRIP sets CLAMP_ERR with event 70 and FLT_SAFE_CLAMP. On a safety-capable part SEAL_READ of a pattern whose two readings
complement each other shows it as the live pattern, DISCREPANCY_TICK of an interlock in use counts a disagreement of its channels and
starts again at an agreement, TEST_PULSE_CHECK counts an input that fails, and at the second failure in a row sets TP_ERR with event 68
and FLT_SAFE_TP, and INTERLOCK_SAMPLE filters each input: a masked sample leaves it, one of its filtered level starts its count again, one
of the other level counts, and the 60th in a row changes the level; IL0_OPEN, IL1_OPEN and the state follow the levels, and the cap falls
at once where the state allows less. SAFE_WATCH_EXPIRY of an enabled island withdraws every grant, sets SYM_INHIBIT and raises
FLT_SAFE_WATCH. FALLBACK_SILENCE acts once after the caps fell: every enabled port that is not fenced becomes SILENT. DUAL_WIN_EXPIRY
rejects the oldest message that is held, with code 4. SAFE_GRANT_WRITE with VALID 1 takes buffer and table as one grant, but sets WERR
while SYM_INHIBIT is set. On a part that is not safety-capable the seal, interlock, test-pulse, discrepancy and watch commands change
nothing; an island not ON, or isolated, takes no input. -/
def Obligations.SafetyIsland : Prop :=
  (∀ (m : Master) (v : Word) (s : State),
    s.accepts m 0x20140000 →
    v.toNat.testBit 0 = true →
    s.on SAFE_CTRL_EN = false →
    s.part.safeCapable = true →
    Answers (.safeEnable m v) s fun t =>
      t.rd SAFE_CTRL_EN = 1 ∧ t.rd SAFE_SEAL_LATCHED = s.rd SAFE_SEAL_LIVE % 2 ^ SAFE_SEAL_LATCHED.width ∧
        t.rd SAFE_SEALCFG_TDISC_MS = tDisc (s.rd SAFE_SEAL_LIVE) % 2 ^ SAFE_SEALCFG_TDISC_MS.width ∧
      t.rd SAFE_SEALCFG_INTERVAL_D = proofDays (s.rd SAFE_SEAL_LIVE) % 2 ^ SAFE_SEALCFG_INTERVAL_D.width) ∧
  (∀ (m : Master) (v : Word) (s : State),
    s.accepts m 0x20140000 →
    v.toNat.testBit 0 = true →
    s.on SAFE_CTRL_EN = false →
    s.part.safeCapable = false →
    Answers (.safeEnable m v) s fun t =>
      t.rd SAFE_CTRL_EN = 1) ∧
  (∀ (m : Master) (v : Word) (s : State),
    s.accepts m 0x20140000 →
    v.toNat.testBit 0 = false →
    Answers (.safeEnable m v) s fun t =>
      t = s.stored m 0x20140000 v) ∧
  (∀ (m : Master) (v : Word) (s : State),
    s.accepts m 0x20140000 →
    v.toNat.testBit 1 = true →
    s.on SAFE_STATUS_DISC = true ∨ s.on SAFE_STATUS_TP_ERR = true →
    (List.finRange 2).all (fun (k : Fin 2) => !(s.stored m 0x20140000 v).ilUsed k || s.safe.ackSeen[k] == 2) = true →
    Answers (.safeAck m v) s fun t =>
      t.rd SAFE_STATUS_DISC = 0 ∧ t.rd SAFE_STATUS_TP_ERR = 0) ∧
  (∀ (m : Master) (v : Word) (s : State),
    s.accepts m 0x20140000 →
    v.toNat.testBit 1 = true →
    s.on SAFE_STATUS_DISC = true ∨ s.on SAFE_STATUS_TP_ERR = true →
    (List.finRange 2).all (fun (k : Fin 2) => !(s.stored m 0x20140000 v).ilUsed k || s.safe.ackSeen[k] == 2) = false →
    Answers (.safeAck m v) s fun t =>
      t.rd SAFE_STATUS_DISC = s.rd SAFE_STATUS_DISC ∧ t.rd SAFE_STATUS_TP_ERR = s.rd SAFE_STATUS_TP_ERR ∧ t.rd SAFE_STATUS_WERR = 1 ∧ t.fired 71) ∧
  (∀ (m : Master) (v : Word) (s : State),
    s.accepts m 0x20140000 →
    s.on SAFE_STATUS_DISC = false →
    s.on SAFE_STATUS_TP_ERR = false →
    Answers (.safeAck m v) s fun t =>
      t = s.stored m 0x20140000 v) ∧
  (∀ (m : Master) (v : Word) (s : State),
    s.accepts m 0x20140000 →
    Answers (.safeRestrict m v) s fun t =>
      t.rd SAFE_CTRL_RESTRICT = b2n (v.toNat.testBit 2)) ∧
  (∀ (m : Master) (v : Word) (s : State),
    s.accepts m 0x20140000 →
    v.toNat.testBit 3 = true →
    Answers (.safeFbReq m v) s fun t =>
      t.rd SAFE_CTRL_FB_REQ = 1 ∧ t.rd SAFE_STATUS_STATE = 3) ∧
  (∀ (m : Master) (v : Word) (s : State),
    s.accepts m 0x20140000 →
    v.toNat.testBit 3 = true →
    s.on SAFE_CTRL_EN = true →
    s.rd SAFE_STATUS_STATE ≠ 3 →
    Answers (.safeFbReq m v) s fun t =>
      t.safe.silence = true ∧ t.cap = (0, 0) ∧ t.fired 64) ∧
  (∀ (m : Master) (v : Word) (s : State),
    s.accepts m 0x20140000 →
    v.toNat.testBit 3 = false →
    Answers (.safeFbReq m v) s fun t =>
      t.rd SAFE_CTRL_FB_REQ = 0) ∧
  (∀ (m : Master) (v : Word) (s : State),
    s.accepts m 0x20140000 →
    v.toNat.testBit 4 = true →
    s.on SAFE_STATUS_PROOF_DUE = false →
    Answers (.proofReq m v) s fun t =>
      t.rd SAFE_STATUS_PROOF_DUE = 1 ∧ t.fired 69) ∧
  (∀ (m : Master) (v : Word) (s : State),
    s.accepts m 0x20140000 →
    v.toNat.testBit 5 = true →
    s.on SAFE_STATUS_PROOF_DUE = true →
    Answers (.proofClr m v) s fun t =>
      t.rd SAFE_STATUS_PROOF_DUE = 0 ∧ t.fired 69) ∧
  (∀ (m : Master) (v : Word) (s : State),
    s.accepts m 0x20140000 →
    v.toNat.testBit 6 = true →
    Answers (.cmonTest m v) s fun t =>
      t.rd SAFE_CTRL_CMON_TEST = 1) ∧
  (∀ (s : State),
    s.on SAFE_CTRL_CMON_TEST = true →
    Answers (.cmonTestDone true) s fun t =>
      t.rd SAFE_CTRL_CMON_TEST = 0 ∧ t.rd SAFE_STATUS_CMON_OK = 1 ∧ t.fired 70) ∧
  (∀ (s : State),
    s.on SAFE_CTRL_CMON_TEST = true →
    Answers (.cmonTestDone false) s fun t =>
      t.rd SAFE_CTRL_CMON_TEST = 0 ∧ t.rd SAFE_STATUS_CMON_OK = 0 ∧ t.rd SAFE_STATUS_CLAMP_ERR = 1 ∧ t.fired 70) ∧
  (∀ (k : Bool) (s : State),
    s.on SAFE_CTRL_CMON_TEST = false →
    Answers (.cmonTestDone k) s fun t =>
      t = s) ∧
  (∀ (m : Master) (v : Word) (s : State),
    s.accepts m 0x2014007C →
    v.toNat.testBit 0 = true →
    Answers (.safeMboxPop m v) s fun t =>
      t.rd SAFE_MSG_STATUS_MBOX_FULL = 0) ∧
  (∀ (p : Fin 12) (s : State),
    s.alive 2 = true →
    Answers (.clampMonitorTrip p) s fun t =>
      t.rd SAFE_STATUS_CLAMP_ERR = 1 ∧ t.fired 70 ∧ t.hasRaised FLT_SAFE_CLAMP) ∧
  (∀ (p : Fin 12) (s : State),
    s.alive 2 = false →
    Answers (.clampMonitorTrip p) s fun t =>
      t = s) ∧
  (∀ (p n : Byte) (s : State),
    s.alive 2 = false →
    Answers (.sealRead p n) s fun t =>
      t = s) ∧
  (∀ (a b : Fin 16) (s : State),
    s.alive 2 = false →
    Answers (.interlockSample a b) s fun t =>
      t = s) ∧
  (∀ (x : Fin 2) (a b c : Fin 16) (s : State),
    s.alive 2 = false →
    Answers (.testPulseCheck x a b c) s fun t =>
      t = s) ∧
  (∀ (s : State),
    s.alive 2 = false →
    Answers (.discrepancyTick) s fun t =>
      t = s) ∧
  (∀ (p n : Byte) (s : State),
    s.part.safeCapable = true →
    s.alive 2 = true →
    n = ~~~p →
    Answers (.sealRead p n) s fun t =>
      t.rd SAFE_SEAL_LIVE = p.toNat) ∧
  (∀ (p n : Byte) (s : State),
    s.part.safeCapable = false →
    Answers (.sealRead p n) s fun t =>
      t = s) ∧
  (∀ (a b : Fin 16) (i : Fin 4) (s : State),
    s.part.safeCapable = true →
    s.alive 2 = true →
    b.val.testBit i = false →
    a.val.testBit i = !(s.rd SAFE_IL_LEVEL).testBit i →
    s.safe.run[i] + 1 < 60 →
    Answers (.interlockSample a b) s fun t =>
      t.safe.run[i] = s.safe.run[i] + 1 ∧ (t.rd SAFE_IL_LEVEL).testBit i = (s.rd SAFE_IL_LEVEL).testBit i) ∧
  (∀ (a b : Fin 16) (i : Fin 4) (s : State),
    s.part.safeCapable = true →
    s.alive 2 = true →
    b.val.testBit i = false →
    a.val.testBit i = !(s.rd SAFE_IL_LEVEL).testBit i →
    59 ≤ s.safe.run[i] →
    Answers (.interlockSample a b) s fun t =>
      t.safe.run[i] = 0 ∧ (t.rd SAFE_IL_LEVEL).testBit i = a.val.testBit i) ∧
  (∀ (a b : Fin 16) (i : Fin 4) (s : State),
    s.part.safeCapable = true →
    s.alive 2 = true →
    b.val.testBit i = false →
    a.val.testBit i = (s.rd SAFE_IL_LEVEL).testBit i →
    Answers (.interlockSample a b) s fun t =>
      t.safe.run[i] = 0 ∧ (t.rd SAFE_IL_LEVEL).testBit i = a.val.testBit i) ∧
  (∀ (a b : Fin 16) (i : Fin 4) (s : State),
    s.part.safeCapable = true →
    s.alive 2 = true →
    b.val.testBit i = true →
    Answers (.interlockSample a b) s fun t =>
      t.safe.run[i] = s.safe.run[i] ∧ (t.rd SAFE_IL_LEVEL).testBit i = (s.rd SAFE_IL_LEVEL).testBit i) ∧
  (∀ (a b : Fin 16) (s : State),
    s.part.safeCapable = true →
    s.alive 2 = true →
    Answers (.interlockSample a b) s fun t =>
      t.rd SAFE_STATUS_IL0_OPEN = b2n (t.ilOpen 0) ∧ t.rd SAFE_STATUS_IL1_OPEN = b2n (t.ilOpen 1) ∧ t.rd SAFE_STATUS_STATE = t.islandState ∧
        t.cap = minCap s.cap (s.capOf (t.rd SAFE_STATUS_STATE))) ∧
  (∀ (a b : Fin 16) (s : State),
    s.part.safeCapable = false →
    Answers (.interlockSample a b) s fun t =>
      t = s) ∧
  (∀ (x : Fin 2) (a b c : Fin 16) (i : Fin 4) (s : State),
    s.part.safeCapable = true →
    s.alive 2 = true →
    s.ilUsed (Fin.ofNat 2 (i.val / 2)) = true →
    tpFails i x (a.val.testBit i) (b.val.testBit i) (c.val.testBit i) = false →
    Answers (.testPulseCheck x a b c) s fun t =>
      t.safe.tpFail[(Fin.ofNat 8 (2 * i.val + if i.val % 2 = x.val then 0 else 1) : Fin 8)] = 0) ∧
  (∀ (x : Fin 2) (a b c : Fin 16) (i : Fin 4) (s : State),
    s.part.safeCapable = true →
    s.alive 2 = true →
    s.ilUsed (Fin.ofNat 2 (i.val / 2)) = true →
    tpFails i x (a.val.testBit i) (b.val.testBit i) (c.val.testBit i) = true →
    Answers (.testPulseCheck x a b c) s fun t =>
      t.safe.tpFail[(Fin.ofNat 8 (2 * i.val + if i.val % 2 = x.val then 0 else 1) : Fin 8)] = s.safe.tpFail[(Fin.ofNat 8 (2 * i.val + if i.val % 2 =
        x.val then 0 else 1) : Fin 8)] + 1) ∧
  (∀ (x : Fin 2) (a b c : Fin 16) (i : Fin 4) (s : State),
    s.part.safeCapable = true →
    s.alive 2 = true →
    s.ilUsed (Fin.ofNat 2 (i.val / 2)) = true →
    tpFails i x (a.val.testBit i) (b.val.testBit i) (c.val.testBit i) = true →
    1 ≤ s.safe.tpFail[(Fin.ofNat 8 (2 * i.val + if i.val % 2 = x.val then 0 else 1) : Fin 8)] →
    s.on SAFE_STATUS_TP_ERR = false →
    Answers (.testPulseCheck x a b c) s fun t =>
      t.rd SAFE_STATUS_TP_ERR = 1 ∧ t.fired 68 ∧ t.hasRaised FLT_SAFE_TP) ∧
  (∀ (x : Fin 2) (a b c : Fin 16) (s : State),
    s.part.safeCapable = false →
    Answers (.testPulseCheck x a b c) s fun t =>
      t = s) ∧
  (∀ (k : Fin 2) (s : State),
    s.part.safeCapable = true →
    s.alive 2 = true →
    s.ilUsed k = true →
    s.ilA k ≠ s.ilB k →
    Answers (.discrepancyTick) s fun t =>
      t.rd (discCnt k) = 0) ∧
  (∀ (k : Fin 2) (s : State),
    s.part.safeCapable = true →
    s.alive 2 = true →
    s.ilUsed k = true →
    s.ilA k = s.ilB k →
    Answers (.discrepancyTick) s fun t =>
      t.rd (discCnt k) = s.counted (discCnt k)) ∧
  (∀ (s : State),
    s.part.safeCapable = false →
    Answers (.discrepancyTick) s fun t =>
      t = s) ∧
  (∀ (s : State),
    s.safe.silence = true →
    Answers (.fallbackSilence) s fun t =>
      t.safe.silence = false) ∧
  (∀ (p : Fin 12) (s : State),
    s.safe.silence = true →
    s.on (TL_CTRL_EN p) = true →
    s.on (TL_STATUS_FENCED p) = false →
    Answers (.fallbackSilence) s fun t =>
      t.tlState p = 4) ∧
  (∀ (s : State),
    s.safe.silence = false →
    Answers (.fallbackSilence) s fun t =>
      t = s) ∧
  (∀ (s : State) (x : SafeCopy) (l : List SafeCopy),
    s.safe.held = x :: l →
    Answers (.dualWinExpiry) s fun t =>
      t.safe.held = l ∧ t.rd SAFE_MSG_STATUS_LAST_ERR = 4 ∧ t.fired 66) ∧
  (∀ (s : State),
    s.safe.held = [] →
    Answers (.dualWinExpiry) s fun t =>
      t = s) ∧
  (∀ (k : Fin 8) (s : State),
    s.on SAFE_CTRL_EN = true →
    s.on SAFE_STATUS_SYM_INHIBIT = false →
    s.part.safeCapable = true →
    Answers (.safeWatchExpiry) s fun t =>
      t.rd SAFE_STATUS_SYM_INHIBIT = 1 ∧ (t.safe.grant[k]).valid = false ∧ t.rd (SAFE_L_GBUF_VALID k) = 0 ∧ t.hasRaised FLT_SAFE_WATCH) ∧
  (∀ (s : State),
    s.on SAFE_CTRL_EN = false →
    Answers (.safeWatchExpiry) s fun t =>
      t = s) ∧
  (∀ (s : State),
    s.part.safeCapable = false →
    Answers (.safeWatchExpiry) s fun t =>
      t = s) ∧
  (∀ (m : Master) (k : Fin 8) (v : Word) (s : State),
    s.accepts m (0x20140200 + k.val * 0x10) →
    v.toNat.testBit 0 = true →
    s.on SAFE_STATUS_SYM_INHIBIT = false →
    Answers (.safeGrantWrite m k v) s fun t =>
      t.rd (SAFE_L_GBUF_VALID k) = 1 ∧ t.rd (SAFE_L_GBUF_ADDR k) = bits v.toNat 6 26 ∧ (t.safe.grant[k]).valid = true) ∧
  (∀ (m : Master) (k : Fin 8) (v : Word) (s : State),
    s.accepts m (0x20140200 + k.val * 0x10) →
    v.toNat.testBit 0 = true →
    s.on SAFE_STATUS_SYM_INHIBIT = true →
    Answers (.safeGrantWrite m k v) s fun t =>
      t.rd SAFE_STATUS_WERR = 1 ∧ t.fired 71 ∧ t.safe = s.safe)

/-- The memory controller: enable, training, tracking, corrected and uncorrectable errors, scrub and SRAM. MEMC_ENABLE with EN 1 on a
controller that is off sets EN, and with the right density it is TRAINING; EN 0 makes it OFF and clears RETRAIN. MEMC_TRAINING_END of a
training that passed makes it READY and clears RETRAIN; one that failed makes it FAILED and raises FLT_MEM_TRAIN; with no training, or
while its domain does not answer, it changes nothing. MEMC_RETRAIN with bit 1 set sets RETRAIN where the controller is READY, and where it
is FAILED sets it and trains afresh, whatever EN (log entry 12); in another state it stores the plain fields alone. WCK2DQ_TRACKING
changes nothing. LINK_ECC_RATE in READY counts its corrections, and above the threshold raises FLT_MEM_LINK. DRAM_TEMP_REPORT of a raised
rate sets TEMP_HI and raises FLT_MEM_TEMP, and of a normal rate clears TEMP_HI. DRAM_READ of a readable DRAM address: with no wrong symbol
nothing changes; a verdict uncorrectable sets UE, fires event 96, raises FLT_MEM_UE and, where no error was held, captures the address of
the block; a corrected one counts and raises FLT_MEM_CE. An address that is not readable gets a bus error where its domain answers and is
a closed crossing where it does not; in the register blocks a size other than 4, an unaligned address or an offset without a register gets
a bus error, outside the store and token windows, and a domain that does not answer is a closed crossing. A read by a debugger that its
session does not reach gets a bus error (log entry 25). SCRUB_READ with the scrub on and no error goes on to the next block; with the
scrub off it changes nothing. SRAM_ECC in a shared bank counts a single error and raises FLT_SRAM_CE; a double one sets UE, holds its
first bank and raises FLT_SRAM_UE. A write with the single error is stored, one into the word of the double error is not, nor are two at
once. A write that a protected region bars, or an access that a debug session does not reach, gets a bus error alone. An engine that meets
a double error holds it for its access fault (log entry 8). -/
def Obligations.MemoryControllerAndErrors : Prop :=
  (∀ (m : Master) (v : Word) (s : State),
    s.accepts m 0x20060000 →
    v.toNat.testBit 0 = true →
    s.on MEMC_CTRL_EN = false →
    (s.stored m 0x20060000 v).densityOk = true →
    Answers (.memcEnable m v) s fun t =>
      t.rd MEMC_CTRL_EN = 1 ∧ t.rd MEMC_STATUS_STATE = 1) ∧
  (∀ (m : Master) (v : Word) (s : State),
    s.accepts m 0x20060000 →
    v.toNat.testBit 0 = true →
    s.on MEMC_CTRL_EN = true →
    Answers (.memcEnable m v) s fun t =>
      t = s.stored m 0x20060000 v) ∧
  (∀ (m : Master) (v : Word) (s : State),
    s.accepts m 0x20060000 →
    v.toNat.testBit 0 = false →
    Answers (.memcEnable m v) s fun t =>
      t.rd MEMC_CTRL_EN = 0 ∧ t.rd MEMC_CTRL_RETRAIN = 0 ∧ t.rd MEMC_STATUS_STATE = 0) ∧
  (∀ (k : Bool) (s : State),
    s.domOpen 10 = false →
    Answers (.memcTrainingEnd k) s fun t =>
      t = s) ∧
  (∀ (s : State),
    s.domOpen 10 = true →
    s.rd MEMC_STATUS_STATE = 1 →
    s.densityOk = true →
    Answers (.memcTrainingEnd true) s fun t =>
      t.rd MEMC_STATUS_STATE = 2 ∧ t.rd MEMC_CTRL_RETRAIN = 0 ∧ t.fired 97) ∧
  (∀ (s : State),
    s.domOpen 10 = true →
    s.rd MEMC_STATUS_STATE = 1 →
    Answers (.memcTrainingEnd false) s fun t =>
      t.rd MEMC_STATUS_STATE = 4 ∧ t.rd MEMC_CTRL_RETRAIN = 0 ∧ t.hasRaised FLT_MEM_TRAIN) ∧
  (∀ (k : Bool) (s : State),
    s.rd MEMC_STATUS_STATE = 0 →
    Answers (.memcTrainingEnd k) s fun t =>
      t = s) ∧
  (∀ (m : Master) (v : Word) (s : State),
    s.accepts m 0x20060000 →
    v.toNat.testBit 1 = true →
    s.rd MEMC_STATUS_STATE = 2 →
    Answers (.memcRetrain m v) s fun t =>
      t.rd MEMC_CTRL_RETRAIN = 1 ∧ t.rd MEMC_STATUS_STATE = 2) ∧
  (∀ (m : Master) (v : Word) (s : State),
    s.accepts m 0x20060000 →
    v.toNat.testBit 1 = true →
    s.rd MEMC_STATUS_STATE = 4 →
    (s.stored m 0x20060000 v).densityOk = true →
    Answers (.memcRetrain m v) s fun t =>
      t.rd MEMC_CTRL_RETRAIN = 1 ∧ t.rd MEMC_STATUS_STATE = 1) ∧
  (∀ (m : Master) (v : Word) (s : State),
    s.accepts m 0x20060000 →
    v.toNat.testBit 1 = false ∨ (s.rd MEMC_STATUS_STATE ≠ 2 ∧ s.rd MEMC_STATUS_STATE ≠ 4) →
    Answers (.memcRetrain m v) s fun t =>
      t = s.stored m 0x20060000 v) ∧
  (∀ (s : State),
    Answers (.wck2dqTracking) s fun t =>
      t = s) ∧
  (∀ (c : Nat) (s : State),
    s.rd MEMC_STATUS_STATE = 2 →
    c ≠ 0 →
    Answers (.linkEccRate c) s fun t =>
      t.rd MEMC_ERR_CNT_LINK = s.counted MEMC_ERR_CNT_LINK c ∧ (s.rd MEMC_SCRUB_LINK_TH < c → t.hasRaised FLT_MEM_LINK)) ∧
  (∀ (c : Nat) (s : State),
    s.rd MEMC_STATUS_STATE ≠ 2 ∨ c = 0 →
    Answers (.linkEccRate c) s fun t =>
      t = s) ∧
  (∀ (s : State),
    s.rd MEMC_STATUS_STATE = 2 →
    s.on MEMC_STATUS_TEMP_HI = false →
    Answers (.dramTempReport true) s fun t =>
      t.rd MEMC_STATUS_TEMP_HI = 1 ∧ t.hasRaised FLT_MEM_TEMP) ∧
  (∀ (s : State),
    s.rd MEMC_STATUS_STATE = 2 →
    Answers (.dramTempReport false) s fun t =>
      t.rd MEMC_STATUS_TEMP_HI = 0) ∧
  (∀ (m : Master) (a x n : Nat) (s : State),
    m ≠ .debug →
    s.viewAddr m a = x →
    s.readable x = true →
    dramBase ≤ x →
    Answers (.dramRead m a n []) s fun t =>
      t = s) ∧
  (∀ (m : Master) (a x n : Nat) (e : List (Fin 72 × Byte)) (s : State),
    m ≠ .debug →
    s.viewAddr m a = x →
    s.readable x = true →
    dramBase ≤ x →
    rsDecode e = .uncorrectable →
    s.on MEMC_STATUS_UE = false →
    s.on MEMC_STATUS_ADDR_ERR = false →
    Answers (.dramRead m a n e) s fun t =>
      t.rd MEMC_STATUS_UE = 1 ∧ t.fired 96 ∧ t.hasRaised FLT_MEM_UE ∧ t.rd MEMC_UE_ADDR_LO_ADDR = x / 64 * 64 % 2 ^ MEMC_UE_ADDR_LO_ADDR.width ∧
        t.mem = s.mem) ∧
  (∀ (m : Master) (a x n : Nat) (e : List (Fin 72 × Byte)) (l : List (Nat × Nat)) (s : State),
    m ≠ .debug →
    s.viewAddr m a = x →
    s.readable x = true →
    dramBase ≤ x →
    rsDecode e = .corrected l →
    Answers (.dramRead m a n e) s fun t =>
      t.rd MEMC_ERR_CNT_CE = s.counted MEMC_ERR_CNT_CE ∧ t.hasRaised FLT_MEM_CE) ∧
  (∀ (m : Master) (a x n : Nat) (e : List (Fin 72 × Byte)) (s : State),
    m ≠ .debug →
    s.viewAddr m a = x →
    x < 0x20000000 ∨ 0x20190000 ≤ x →
    s.readable x = false →
    s.domOpen (accessDomain x) = true →
    Answers (.dramRead m a n e) s fun t =>
      t = s.busErr m x .read) ∧
  (∀ (m : Master) (a x n : Nat) (e : List (Fin 72 × Byte)) (s : State),
    m ≠ .debug →
    s.viewAddr m a = x →
    x < 0x20000000 ∨ 0x20190000 ≤ x →
    s.readable x = false →
    s.domOpen (accessDomain x) = false →
    Answers (.dramRead m a n e) s fun t =>
      t = s.closedCrossing m x (accessDomain x) .read) ∧
  (∀ (m : Master) (a x n : Nat) (e : List (Fin 72 × Byte)) (s : State),
    m ≠ .debug →
    s.viewAddr m a = x →
    0x20000000 ≤ x ∧ x < 0x20190000 →
    s.domOpen (blockDomain x) = true →
    inCalWindow x n = false →
    inTokenWindow x n = false →
    n ≠ 4 ∨ x % 4 ≠ 0 ∨ (regAt x).isNone = true →
    Answers (.dramRead m a n e) s fun t =>
      t = s.busErr m x .read) ∧
  (∀ (m : Master) (a x n : Nat) (e : List (Fin 72 × Byte)) (s : State),
    m ≠ .debug →
    s.viewAddr m a = x →
    0x20000000 ≤ x ∧ x < 0x20190000 →
    s.domOpen (blockDomain x) = false →
    Answers (.dramRead m a n e) s fun t =>
      t = s.closedCrossing m x (blockDomain x) .read) ∧
  (∀ (a n : Nat) (e : List (Fin 72 × Byte)) (s : State),
    s.debugReach a = false →
    Answers (.dramRead .debug a n e) s fun t =>
      t = s.busErr .debug a .read) ∧
  (∀ (s : State),
    s.on MEMC_CTRL_SCRUB_EN = true →
    s.readable (dramBase + 64 * s.memc.scrub) = true →
    64 * (s.memc.scrub + 1) < usableDram s.part.density →
    Answers (.scrubRead [] false) s fun t =>
      t.memc.scrub = s.memc.scrub + 1 ∧ t.mem = s.mem) ∧
  (∀ (s : State),
    s.on MEMC_CTRL_SCRUB_EN = true →
    s.readable (dramBase + 64 * s.memc.scrub) = true →
    usableDram s.part.density ≤ 64 * (s.memc.scrub + 1) →
    Answers (.scrubRead [] false) s fun t =>
      t.memc.scrub = 0 ∧ t.memc.fixedLast = s.memc.fixedNow) ∧
  (∀ (x : List (Fin 72 × Byte)) (b : Bool) (s : State),
    s.on MEMC_CTRL_SCRUB_EN = false →
    Answers (.scrubRead x b) s fun t =>
      t = s) ∧
  (∀ (m : Master) (a : Nat) (s : State),
    m ≠ .debug →
    s.readable a = true →
    0x10000000 ≤ a →
    a < 0x10800000 →
    Answers (.sramEcc m .read [(a, false)] 0 []) s fun t =>
      t.rd MEMC_SRAM_CE = s.counted MEMC_SRAM_CE ∧ t.hasRaised FLT_SRAM_CE ∧ t.mem = s.mem) ∧
  (∀ (m : Master) (a : Nat) (s : State),
    m ≠ .debug →
    s.readable a = true →
    0x10000000 ≤ a →
    a < 0x10800000 →
    s.on MEMC_SRAM_UE = false →
    Answers (.sramEcc m .read [(a, true)] 0 []) s fun t =>
      t.rd MEMC_SRAM_UE = 1 ∧ t.rd MEMC_SRAM_UE_BANK = bankOf a ∧ t.hasRaised FLT_SRAM_UE ∧ t.mem = s.mem) ∧
  (∀ (m : Master) (a : Nat) (b : Byte) (s : State),
    m ≠ .debug →
    s.protectedFrom (.master m) a = false →
    s.readable a = true →
    0x10000000 ≤ a →
    a < 0x10800000 →
    s.chipWritable m a = true →
    Answers (.sramEcc m .write [(a, false)] a [b]) s fun t =>
      t.rd MEMC_SRAM_CE = s.counted MEMC_SRAM_CE ∧ t.hasRaised FLT_SRAM_CE ∧ t.byte a = b) ∧
  (∀ (m : Master) (a : Nat) (b : Byte) (s : State),
    m ≠ .debug →
    s.protectedFrom (.master m) a = false →
    s.readable a = true →
    0x10000000 ≤ a →
    a < 0x10800000 →
    s.chipWritable m a = true →
    Answers (.sramEcc m .write [(a, true)] a [b]) s fun t =>
      t.rd MEMC_SRAM_UE = 1 ∧ t.hasRaised FLT_SRAM_UE ∧ t.byte a = s.byte a) ∧
  (∀ (e : Fin 16) (a : Nat) (s : State),
    s.readable (s.viewAddr (.engine e) a) = true →
    Answers (.sramEcc (.engine e) .read [(a, true)] 0 []) s fun t =>
      (t.eng e).fault = some (.read, a)) ∧
  (∀ (m : Master) (a b : Nat) (x y : Byte) (s : State),
    m ≠ .debug →
    s.protectedFrom (.master m) a = false →
    s.protectedFrom (.master m) b = false →
    s.viewAddr m a = a →
    s.viewAddr m b = b →
    s.readable a = true →
    s.readable b = true →
    s.chipWritable m a = true →
    s.chipWritable m b = true →
    0x10000000 ≤ a →
    a + 1 = b →
    b < 0x10800000 →
    a % 8 = 7 →
    Answers (.sramEcc m .write [(a, true), (b, true)] a [x, y]) s fun t =>
      t.byte a = s.byte a ∧ t.byte b = s.byte b ∧ t.hasRaised FLT_SRAM_UE) ∧
  (∀ (m : Master) (a : Nat) (b : Byte) (u : Bool) (s : State),
    m ≠ .debug →
    s.readable a = true →
    0x10000000 ≤ a →
    a < 0x10800000 →
    s.protectedFrom (.master m) a = true →
    Answers (.sramEcc m .write [(a, u)] a [b]) s fun t =>
      t = s.busErr m a .write) ∧
  (∀ (acc : Access) (a : Nat) (b : Byte) (u : Bool) (s : State),
    s.readable a = true →
    s.debugReach a = false →
    Answers (.sramEcc .debug acc [(a, u)] a [b]) s fun t =>
      t = s.busErr .debug a acc)

/-- The stage window: enable, lock, hand-overs, retires and the DMA channels. WIN_ENABLE with EN 1 sets EN where the configuration fits, and
else sets WERR; EN 0 clears EN of an enabled window and gives every slot to owner 0 (log entry 35). WIN_LOCK with LOCK 1 sets LOCK.
WIN_XFER_REQUEST of a slot that does not exist, or with the window off, ends with code 3; of a slot whose retire waits with code 4; by a
master that acts for no one concerned with code 1 and FLT_WIN_OWNER; a SCANOUT slot asked for FREE or RENDER waits for the agent, with
PEND_RETIRE 1 while frame timing runs; of another hand-over that is not permitted it ends with code 2; a permitted one waits with GO 1
(the order of the codes and the right to a SCANOUT slot are log entry 22). WIN_HANDOVER gives the slot to its new owner, clears GO and
ends with code 0; with none waiting it changes nothing. WIN_RETIRE_HANDOVER gives a retired slot that SCANOUT owns and nothing refers to
its new owner, and with none waiting it changes nothing. WIN_DMA_GO by a master that acts for OWN samples the transfer and sets GO; by
another it sets WERR; while the channel runs it starts nothing. WIN_DMA_END of a transfer that copies every block ends the channel with
DONE, clears GO and fires event 101; at a block that fails it ends with ERR and raises FLT_WIN_DMA. WIN_DMA_TIMEOUT ends with TMO and
raises FLT_WIN_TMO. On a channel that is not running both change nothing. -/
def Obligations.StageWindowAndDma : Prop :=
  (∀ (m : Master) (v : Word) (s : State),
    s.accepts m 0x20070000 →
    v.toNat.testBit 0 = true →
    s.on WIN_CTRL_EN = false →
    (s.stored m 0x20070000 v).winOk = true →
    Answers (.winEnable m v) s fun t =>
      t.rd WIN_CTRL_EN = 1) ∧
  (∀ (m : Master) (v : Word) (s : State),
    s.accepts m 0x20070000 →
    v.toNat.testBit 0 = true →
    s.on WIN_CTRL_EN = false →
    (s.stored m 0x20070000 v).winOk = false →
    Answers (.winEnable m v) s fun t =>
      t = (s.stored m 0x20070000 v).werr 0x20070000) ∧
  (∀ (m : Master) (v : Word) (n : Fin 1024) (s : State),
    s.accepts m 0x20070000 →
    v.toNat.testBit 0 = false →
    s.on WIN_CTRL_EN = true →
    Answers (.winEnable m v) s fun t =>
      t.rd WIN_CTRL_EN = 0 ∧ t.slotOwner n = 0) ∧
  (∀ (m : Master) (v : Word) (s : State),
    s.accepts m 0x20070000 →
    v.toNat.testBit 1 = true →
    Answers (.winLock m v) s fun t =>
      t.rd WIN_CTRL_LOCK = 1) ∧
  (∀ (m : Master) (v : Word) (s : State),
    s.accepts m 0x20070014 →
    v.toNat.testBit 31 = true →
    s.on WIN_CTRL_EN = false ∨ s.rd WIN_CFG_COUNT ≤ (s.stored m 0x20070014 v).rd WIN_XFER_SLOT →
    Answers (.winXferRequest m v) s fun t =>
      t.rd WIN_STATUS_XFER_CODE = 3 ∧ t.fired 99) ∧
  (∀ (m : Master) (v : Word) (s : State),
    s.accepts m 0x20070014 →
    v.toNat.testBit 31 = true →
    s.on WIN_CTRL_EN = true →
    (s.stored m 0x20070014 v).rd WIN_XFER_SLOT < s.rd WIN_CFG_COUNT →
    s.win.retire.any (fun r => r.1 == (s.stored m 0x20070014 v).rd WIN_XFER_SLOT) = true →
    Answers (.winXferRequest m v) s fun t =>
      t.rd WIN_STATUS_XFER_CODE = 4 ∧ t.fired 99 ∧ t.win = s.win) ∧
  (∀ (m : Master) (v : Word) (s : State),
    s.accepts m 0x20070014 →
    v.toNat.testBit 31 = true →
    s.on WIN_CTRL_EN = true →
    (s.stored m 0x20070014 v).rd WIN_XFER_SLOT < s.rd WIN_CFG_COUNT →
    s.win.retire.any (fun r => r.1 == (s.stored m 0x20070014 v).rd WIN_XFER_SLOT) = false →
    (s.actsFor m (s.slotOwner ((s.stored m 0x20070014 v).rd WIN_XFER_SLOT)) || ((s.slotOwner ((s.stored m 0x20070014 v).rd WIN_XFER_SLOT) == 0 ||
      s.slotOwner ((s.stored m 0x20070014 v).rd WIN_XFER_SLOT) == 4) && s.actsFor m ((s.stored m 0x20070014 v).rd WIN_XFER_NEW))) = false →
    Answers (.winXferRequest m v) s fun t =>
      t.rd WIN_STATUS_XFER_CODE = 1 ∧ t.fired 99 ∧ t.hasRaised FLT_WIN_OWNER ∧ t.win = s.win) ∧
  (∀ (m : Master) (v : Word) (s : State),
    s.accepts m 0x20070014 →
    v.toNat.testBit 31 = true →
    s.on WIN_CTRL_EN = true →
    (s.stored m 0x20070014 v).rd WIN_XFER_SLOT < s.rd WIN_CFG_COUNT →
    s.win.retire.any (fun r => r.1 == (s.stored m 0x20070014 v).rd WIN_XFER_SLOT) = false →
    (s.actsFor m (s.slotOwner ((s.stored m 0x20070014 v).rd WIN_XFER_SLOT)) || ((s.slotOwner ((s.stored m 0x20070014 v).rd WIN_XFER_SLOT) == 0 ||
      s.slotOwner ((s.stored m 0x20070014 v).rd WIN_XFER_SLOT) == 4) && s.actsFor m ((s.stored m 0x20070014 v).rd WIN_XFER_NEW))) = true →
    s.slotOwner ((s.stored m 0x20070014 v).rd WIN_XFER_SLOT) = 4 →
    (s.stored m 0x20070014 v).rd WIN_XFER_NEW = 0 ∨ (s.stored m 0x20070014 v).rd WIN_XFER_NEW = 2 →
    s.on FT_STATUS_RUN = true →
    Answers (.winXferRequest m v) s fun t =>
      t.win.retire = s.win.retire ++ [((s.stored m 0x20070014 v).rd WIN_XFER_SLOT, (s.stored m 0x20070014 v).rd WIN_XFER_NEW)] ∧
        t.rd WIN_STATUS_PEND_RETIRE = 1 ∧ t.win.xfer = s.win.xfer) ∧
  (∀ (m : Master) (v : Word) (s : State),
    s.accepts m 0x20070014 →
    v.toNat.testBit 31 = true →
    s.on WIN_CTRL_EN = true →
    (s.stored m 0x20070014 v).rd WIN_XFER_SLOT < s.rd WIN_CFG_COUNT →
    s.win.retire.any (fun r => r.1 == (s.stored m 0x20070014 v).rd WIN_XFER_SLOT) = false →
    (s.actsFor m (s.slotOwner ((s.stored m 0x20070014 v).rd WIN_XFER_SLOT)) || ((s.slotOwner ((s.stored m 0x20070014 v).rd WIN_XFER_SLOT) == 0 ||
      s.slotOwner ((s.stored m 0x20070014 v).rd WIN_XFER_SLOT) == 4) && s.actsFor m ((s.stored m 0x20070014 v).rd WIN_XFER_NEW))) = true →
    ¬ (s.slotOwner ((s.stored m 0x20070014 v).rd WIN_XFER_SLOT) = 4 ∧
      ((s.stored m 0x20070014 v).rd WIN_XFER_NEW = 0 ∨ (s.stored m 0x20070014 v).rd WIN_XFER_NEW = 2)) →
    mayHand (s.slotOwner ((s.stored m 0x20070014 v).rd WIN_XFER_SLOT)) ((s.stored m 0x20070014 v).rd WIN_XFER_NEW) = false →
    Answers (.winXferRequest m v) s fun t =>
      t.rd WIN_STATUS_XFER_CODE = 2 ∧ t.fired 99 ∧ t.win = s.win) ∧
  (∀ (m : Master) (v : Word) (s : State),
    s.accepts m 0x20070014 →
    v.toNat.testBit 31 = true →
    s.on WIN_CTRL_EN = true →
    (s.stored m 0x20070014 v).rd WIN_XFER_SLOT < s.rd WIN_CFG_COUNT →
    s.win.retire.any (fun r => r.1 == (s.stored m 0x20070014 v).rd WIN_XFER_SLOT) = false →
    (s.actsFor m (s.slotOwner ((s.stored m 0x20070014 v).rd WIN_XFER_SLOT)) || ((s.slotOwner ((s.stored m 0x20070014 v).rd WIN_XFER_SLOT) == 0 ||
      s.slotOwner ((s.stored m 0x20070014 v).rd WIN_XFER_SLOT) == 4) && s.actsFor m ((s.stored m 0x20070014 v).rd WIN_XFER_NEW))) = true →
    ¬ (s.slotOwner ((s.stored m 0x20070014 v).rd WIN_XFER_SLOT) = 4 ∧
      ((s.stored m 0x20070014 v).rd WIN_XFER_NEW = 0 ∨ (s.stored m 0x20070014 v).rd WIN_XFER_NEW = 2)) →
    mayHand (s.slotOwner ((s.stored m 0x20070014 v).rd WIN_XFER_SLOT)) ((s.stored m 0x20070014 v).rd WIN_XFER_NEW) = true →
    Answers (.winXferRequest m v) s fun t =>
      t.rd WIN_XFER_GO = 1 ∧ t.win.xfer = some ((s.stored m 0x20070014 v).rd WIN_XFER_SLOT, (s.stored m 0x20070014 v).rd WIN_XFER_NEW)) ∧
  (∀ (n o : Nat) (s : State),
    s.win.xfer = some (n, o) →
    n < 1024 →
    s.on FT_STATUS_RUN = true →
    Answers (.winHandover) s fun t =>
      t.slotOwner n = o % 2 ^ (WIN_OWN n).width ∧ t.rd WIN_XFER_GO = 0 ∧ t.rd WIN_STATUS_XFER_CODE = 0 ∧ t.win.xfer = none ∧ t.fired 99) ∧
  (∀ (s : State),
    s.win.xfer = none →
    Answers (.winHandover) s fun t =>
      t = s) ∧
  (∀ (n o : Nat) (s : State),
    s.win.retire = [(n, o)] →
    n < 1024 →
    s.slotOwner n = 4 →
    s.referenced n = false →
    s.on FT_STATUS_RUN = true →
    Answers (.winRetireHandover) s fun t =>
      t.slotOwner n = o % 2 ^ (WIN_OWN n).width ∧ t.win.retire = [] ∧ t.rd WIN_STATUS_PEND_RETIRE = 0 ∧ t.rd WIN_STATUS_XFER_CODE = 0) ∧
  (∀ (s : State),
    s.win.retire = [] →
    Answers (.winRetireHandover) s fun t =>
      t = s) ∧
  (∀ (m : Master) (c : Fin 4) (v : Word) (s : State),
    s.accepts m (winDmaAddr c) →
    v.toNat.testBit 0 = true →
    s.win.dma[c] = none →
    s.actsFor m ((s.stored m (winDmaAddr c) v).rd (WIN_DMA_CTRL_OWN c)) = true →
    Answers (.winDmaGo m c v) s fun t =>
      t.rd (WIN_DMA_CTRL_GO c) = 1 ∧ t.win.dma[c].isSome = true) ∧
  (∀ (m : Master) (c : Fin 4) (v : Word) (s : State),
    s.accepts m (winDmaAddr c) →
    v.toNat.testBit 0 = true →
    s.win.dma[c] = none →
    s.actsFor m ((s.stored m (winDmaAddr c) v).rd (WIN_DMA_CTRL_OWN c)) = false →
    Answers (.winDmaGo m c v) s fun t =>
      t = (s.stored m (winDmaAddr c) v).werr (winDmaAddr c)) ∧
  (∀ (m : Master) (c : Fin 4) (v : Word) (s : State),
    s.accepts m (winDmaAddr c) →
    s.win.dma[c].isSome = true →
    Answers (.winDmaGo m c v) s fun t =>
      t = s.stored m (winDmaAddr c) v) ∧
  (∀ (c : Fin 4) (x : Option Nat) (y : DmaRun) (s : State),
    s.win.dma[c] = some y →
    (s.dmaCopy y x (y.len / 64)).2 = none →
    Answers (.winDmaEnd c x) s fun t =>
      t.win.dma[c] = none ∧ t.rd (WIN_DMA_CTRL_GO c) = 0 ∧ t.rd (WIN_DMA_STATUS_DONE c) = 1 ∧ t.fired 101) ∧
  (∀ (c : Fin 4) (x : Option Nat) (y : DmaRun) (n : Nat) (s : State),
    s.win.dma[c] = some y →
    (s.dmaCopy y x (y.len / 64)).2 = some n →
    Answers (.winDmaEnd c x) s fun t =>
      t.win.dma[c] = none ∧ t.rd (WIN_DMA_CTRL_GO c) = 0 ∧ t.rd (WIN_DMA_STATUS_ERR c) = 1 ∧ t.fired 101 ∧ t.hasRaised FLT_WIN_DMA) ∧
  (∀ (c : Fin 4) (x : Option Nat) (s : State),
    s.win.dma[c] = none →
    Answers (.winDmaEnd c x) s fun t =>
      t = s) ∧
  (∀ (c : Fin 4) (s : State),
    s.win.dma[c].isSome = true →
    Answers (.winDmaTimeout c) s fun t =>
      t.win.dma[c] = none ∧ t.rd (WIN_DMA_CTRL_GO c) = 0 ∧ t.rd (WIN_DMA_STATUS_TMO c) = 1 ∧ t.fired 101 ∧ t.hasRaised FLT_WIN_TMO) ∧
  (∀ (c : Fin 4) (s : State),
    s.win.dma[c] = none →
    Answers (.winDmaTimeout c) s fun t =>
      t = s)

/-- A read or a write of memory, a wake, a reset and a loss of power change no byte outside their own extent. SLOT_WRITE_BLOCKED,
PROTECTED_REGION_WRITE, DRAM_PARTIAL_WRITE with no wrong symbol, and REGISTER_WRITE at an address outside the register blocks: for every
address outside the bytes written to, from the address (that of an engine translated from its own view) for as many bytes as are written,
the byte is after the command what it was before. For every address outside the extent named (that of an engine is translated from its own
view), the byte is after the command what it was before. DRAM_READ and SCRUB_READ: the 64-byte block read, which a correction rewrites.
DRAM_PARTIAL_WRITE with wrong symbols: the 64-byte blocks that the bytes written touch. REGISTER_WRITE to an address of the register
blocks: the destinations of the window DMA channels, whose blocks are written before a retire that waited hands their slot on. SRAM_ECC:
the bytes that it writes. WAKE_STEP_READY and WAKE_STEP_TIMEOUT change no byte outside the on-chip memory of their domain, the latter for
MEMC DRAM too. POWER_DOWN_DONE: the memory of the domain, DRAM where MEMC goes OFF. CHIP_RESET and SWDT_FORCED_RESET: the memories of the
domains not in RET, and DRAM unless MEMC is in RET. PGOOD_FALL of a rail but 0: DRAM where MEMC is on it. BLOCK_RESET, FAULT_OCCURRENCE,
PWR_QUIESCE_DONE and POWER_DOWN_DONE: beside that the destinations of the window DMA channels, whose blocks are written before a retire
hands their slot on. LC_REQUEST without a power cut: nothing. STANDBY_ENTRY, THERMAL_SHUTDOWN, T_CRIT_COMPARATOR, THERMAL_RESTART, a
brown-out, PGOOD_FALL of rail 0 and a wake or cold start from no power leave no content in any memory. -/
def Obligations.MemoryWritesStayInside : Prop :=
  (∀ (m : Master) (a : Nat) (d : List Byte) (s : State),
    Answers (.slotWriteBlocked m a d) s fun t =>
      ∀ b, b < s.viewAddr m a ∨ s.viewAddr m a + d.length ≤ b → t.byte b = s.byte b) ∧
  (∀ (m : Master) (a : Nat) (d : List Byte) (s : State),
    Answers (.protectedRegionWrite m a d) s fun t =>
      ∀ b, b < s.viewAddr m a ∨ s.viewAddr m a + d.length ≤ b → t.byte b = s.byte b) ∧
  (∀ (m : Master) (a : Nat) (d : List Byte) (s : State),
    Answers (.dramPartialWrite m a d []) s fun t =>
      ∀ b, b < s.viewAddr m a ∨ s.viewAddr m a + d.length ≤ b → t.byte b = s.byte b) ∧
  (∀ (m : Master) (a n : Nat) (v : Word) (s : State),
    a < 0x20000000 ∨ 0x20190000 ≤ a →
    Answers (.registerWrite m a n v) s fun t =>
      ∀ b, b < s.viewAddr m a ∨ s.viewAddr m a + n ≤ b → t.byte b = s.byte b) ∧
  (∀ (m : Master) (addr n : Nat) (errs : List (Fin 72 × Byte)) (s : State),
    Answers (.dramRead m addr n errs) s fun t =>
      ∀ b, (b < s.viewAddr m addr / 64 * 64 ∨ s.viewAddr m addr / 64 * 64 + 64 ≤ b) → t.byte b = s.byte b) ∧
  (∀ (errs : List (Fin 72 × Byte)) (raced : Bool) (s : State),
    Answers (.scrubRead errs raced) s fun t =>
      ∀ b, (b < dramBase + 64 * s.memc.scrub ∨ dramBase + 64 * s.memc.scrub + 64 ≤ b) → t.byte b = s.byte b) ∧
  (∀ (m : Master) (a : Nat) (d : List Byte) (errs : List (List (Fin 72 × Byte))) (s : State),
    Answers (.dramPartialWrite m a d errs) s fun t =>
      ∀ b, (b < s.viewAddr m a / 64 * 64 ∨ (s.viewAddr m a + d.length + 63) / 64 * 64 ≤ b) → t.byte b = s.byte b) ∧
  (∀ (m : Master) (a n : Nat) (v : Word) (s : State),
    0x20000000 ≤ a →
    a < 0x20190000 →
    Answers (.registerWrite m a n v) s fun t =>
      ∀ b, (∀ c : Fin 4, ∀ x ∈ s.win.dma[c], b < x.dst ∨ x.dst + x.len ≤ b) → t.byte b = s.byte b) ∧
  (∀ (m : Master) (acc : Access) (e : List (Nat × Bool)) (a : Nat) (d : List Byte) (s : State),
    Answers (.sramEcc m acc e a d) s fun t =>
      ∀ b, (b < s.viewAddr m a ∨ s.viewAddr m a + d.length ≤ b) → t.byte b = s.byte b) ∧
  (∀ (d : Fin 29) (s : State),
    Answers (.wakeStepReady d) s fun t =>
      ∀ b, memOf d b = false → t.byte b = s.byte b) ∧
  (∀ (d : Fin 29) (w : WakeProg) (s : State),
    s.wakeOf d = some w →
    w.step ≠ 2 ∨ (s.pwr.cold = false ∧ s.domOn d = false ∧ s.pwr.oscBad = false) →
    Answers (.wakeStepTimeout d) s fun t =>
      ∀ b, memOf d b = false ∧ (d.val ≠ 10 ∨ b < dramBase) → t.byte b = s.byte b) ∧
  (∀ (r : PwrReq) (s : State),
    s.pwr.req = some r →
    Answers (.powerDownDone) s fun t =>
      ∀ b, memOf r.domain b = false ∧ (r.domain ≠ 10 ∨ r.target = 1 ∨ b < dramBase) ∧
        (∀ c : Fin 4, ∀ x ∈ s.win.dma[c], b < x.dst ∨ x.dst + x.len ≤ b) → t.byte b = s.byte b) ∧
  (∀ (s : State),
    Answers (.pwrQuiesceDone) s fun t =>
      ∀ b, (∀ c : Fin 4, ∀ x ∈ s.win.dma[c], b < x.dst ∨ x.dst + x.len ≤ b) → t.byte b = s.byte b) ∧
  (∀ (m : Master) (v : Word) (s : State) (cut : List (Master × Nat × Access)),
    Answers (.blockReset m v cut) s fun t =>
      ∀ b, (∀ c : Fin 4, ∀ x ∈ s.win.dma[c], b < x.dst ∨ x.dst + x.len ≤ b) → t.byte b = s.byte b) ∧
  (∀ (l : List Occurrence) (cut : List (Master × Nat × Access)) (s : State),
    Answers (.faultOccurrence l cut) s fun t =>
      ∀ b, (∀ c : Fin 4, ∀ x ∈ s.win.dma[c], b < x.dst ∨ x.dst + x.len ≤ b) → t.byte b = s.byte b) ∧
  (∀ (s : State),
    Answers (.chipReset) s fun t =>
      ∀ b, (∀ d : Fin 29, memOf d b = true → s.dom d = 1) ∧ (b < dramBase ∨ s.dom 10 = 1) → t.byte b = s.byte b) ∧
  (∀ (s : State),
    Answers (.swdtForcedReset) s fun t =>
      ∀ b, (∀ d : Fin 29, memOf d b = true → s.dom d = 1) ∧ (b < dramBase ∨ s.dom 10 = 1) → t.byte b = s.byte b) ∧
  (∀ (k : Fin 4) (x : Bool) (s : State),
    k ≠ 0 →
    Answers (.pgoodFall k x) s fun t =>
      ∀ b, (k ≠ 1 ∨ b < dramBase) → t.byte b = s.byte b) ∧
  (∀ (x : Bool) (s : State),
    s.pwr.standby ≠ .asleep →
    s.pwr.shutdown = false →
    Answers (.pgoodFall 0 x) s fun t =>
      t.mem = []) ∧
  (∀ (s : State),
    s.pwr.standby ≠ .asleep →
    s.pwr.shutdown = false →
    Answers (.vmonExcursion true) s fun t =>
      t.mem = []) ∧
  (∀ (s : State),
    Answers (.vmonExcursion false) s fun t =>
      t.mem = s.mem ∧ t.dramGen = s.dramGen) ∧
  (∀ (m : Master) (v : Word) (s : State),
    Answers (.lcRequest m v false) s fun t =>
      t.mem = s.mem ∧ t.dramGen = s.dramGen) ∧
  (∀ (s : State),
    s.pwr.standby = .committed →
    Answers (.standbyEntry) s fun t =>
      t.mem = []) ∧
  (∀ (s : State) (c : Nat),
    s.thm.cause = some c →
    s.pwr.shutdown = false →
    Answers (.thermalShutdown) s fun t =>
      t.mem = []) ∧
  (∀ (s : State),
    Answers (.tCritComparator) s fun t =>
      t.mem = []) ∧
  (∀ (s : State),
    s.pwr.shutdown = true →
    s.rd CLKRST_CAUSE_CAUSE = 6 →
    s.on THM_CTRL_SHUT_AUTO = true →
    Answers (.thermalRestart) s fun t =>
      t.mem = []) ∧
  (∀ (k : Fin 2) (x : Bool) (s : State),
    s.pwr.standby = .asleep →
    (s.rd (if k = 0 then PWRCTL_STBY_WAKE0_EDGE else PWRCTL_STBY_WAKE1_EDGE)).testBit (if x then 0 else 1) = true →
    Answers (.wakePinEdge k x) s fun t =>
      t.mem = []) ∧
  (∀ (s : State),
    s.pwr.resetHeld = true →
    Answers (.coldStart) s fun t =>
      t.mem = [])

/-- Writes to memory and to registers land, or are blocked and reported. DRAM_PARTIAL_WRITE and REGISTER_WRITE store their bytes where on-chip
memory accepts the write, or where DRAM is readable and no slot blocks it. SLOT_WRITE_BLOCKED: a write to DRAM that a slot blocks leaves
memory as it is, shows the slot in BLK_SLOT, fires event 100 and raises FLT_WIN_OWNER. PROTECTED_REGION_WRITE: a write that starts in a
protected region leaves memory as it is and reports a bus error (a closed crossing where its domain does not answer). REGISTER_WRITE
outside the register blocks is a write to memory (log entry 38). All for a master other than debug and bytes that do not cross a 64-byte
block. REGISTER_WRITE within the register blocks: in a domain that is not ON, or that quiesces (log entry 12), it is a closed crossing; a
size other than 4, an unaligned address or an offset without a register gets a bus error (outside the store window and the token window).
A word that is accepted stores a live field (the LOAD of a timer); it changes no read-only field (RUN of SA); it stores a static field
while the block is off, and while the block is enabled it leaves a static field whose value differs and sets WERR (AUTO_FALLBACK of SA). A
write of 1 clears a flag that is cleared by writing 1, a write of 0 leaves it (OVERRUN of a check-value unit). -/
def Obligations.WritesLandOrAreBlocked : Prop :=
  (∀ (m : Master) (a x : Nat) (d : List Byte) (s : State),
    m ≠ .debug →
    s.viewAddr m a = x →
    0 < d.length →
    x % 64 + d.length ≤ 64 →
    s.protectedFrom (.master m) x = false →
    x < dramBase →
    s.chipWritable m x = true →
    Answers (.dramPartialWrite m a d []) s fun t =>
      t.bytes x d.length = d) ∧
  (∀ (m : Master) (a x : Nat) (d : List Byte) (s : State),
    m ≠ .debug →
    s.viewAddr m a = x →
    0 < d.length →
    x % 64 + d.length ≤ 64 →
    s.protectedFrom (.master m) x = false →
    dramBase ≤ x →
    s.readable x = true →
    (s.slotsOf x d.length).find? (fun n => s.slotBlocks n (s.actsFor m)) = none →
    Answers (.dramPartialWrite m a d []) s fun t =>
      t.bytes x d.length = d) ∧
  (∀ (m : Master) (a x n : Nat) (v : Word) (s : State),
    a < 0x20000000 ∨ 0x20190000 ≤ a →
    m ≠ .debug →
    s.viewAddr m a = x →
    0 < n →
    x % 64 + n ≤ 64 →
    s.protectedFrom (.master m) x = false →
    x < dramBase →
    s.chipWritable m x = true →
    Answers (.registerWrite m a n v) s fun t =>
      t.bytes x n = leBytes n v.toNat) ∧
  (∀ (m : Master) (a x n : Nat) (v : Word) (s : State),
    a < 0x20000000 ∨ 0x20190000 ≤ a →
    m ≠ .debug →
    s.viewAddr m a = x →
    0 < n →
    x % 64 + n ≤ 64 →
    s.protectedFrom (.master m) x = false →
    dramBase ≤ x →
    s.readable x = true →
    (s.slotsOf x n).find? (fun k => s.slotBlocks k (s.actsFor m)) = none →
    Answers (.registerWrite m a n v) s fun t =>
      t.bytes x n = leBytes n v.toNat) ∧
  (∀ (m : Master) (a x : Nat) (d : List Byte) (n : Nat) (s : State),
    m ≠ .debug →
    s.viewAddr m a = x →
    0 < d.length →
    x % 64 + d.length ≤ 64 →
    s.protectedFrom (.master m) x = false →
    dramBase ≤ x →
    s.readable x = true →
    (s.slotsOf x d.length).find? (fun n => s.slotBlocks n (s.actsFor m)) = some n →
    Answers (.slotWriteBlocked m a d) s fun t =>
      t.mem = s.mem ∧ t.rd WIN_STATUS_BLK_SLOT = n % 2 ^ WIN_STATUS_BLK_SLOT.width ∧ t.fired 100 ∧ t.hasRaised FLT_WIN_OWNER) ∧
  (∀ (m : Master) (a x : Nat) (d : List Byte) (s : State),
    m ≠ .debug →
    s.viewAddr m a = x →
    0 < d.length →
    x % 64 + d.length ≤ 64 →
    s.protectedFrom (.master m) x = true →
    Answers (.protectedRegionWrite m a d) s fun t =>
      t = s.accErr m x .write) ∧
  (∀ (m : Master) (a n : Nat) (v : Word) (s : State),
    0x20000000 ≤ a ∧ a < 0x20190000 →
    s.domOpen (blockDomain a) = false →
    Answers (.registerWrite m a n v) s fun t =>
      t = s.closedCrossing m a (blockDomain a) .write) ∧
  (∀ (m : Master) (a n : Nat) (v : Word) (s : State),
    0x20000000 ≤ a ∧ a < 0x20190000 →
    s.domOpen (blockDomain a) = true →
    inCalWindow a n = false →
    inTokenWindow a n = false →
    n ≠ 4 ∨ a % 4 ≠ 0 ∨ (regAt a).isNone = true →
    Answers (.registerWrite m a n v) s fun t =>
      t = s.busErr m a .write) ∧
  (∀ (m : Master) (k : Fin 4) (v : Word) (s : State),
    s.accepts m (TIM_LOAD_LOAD k).addr →
    Answers (.registerWrite m (TIM_LOAD_LOAD k).addr 4 v) s fun t =>
      t.rd (TIM_LOAD_LOAD k) = v.toNat) ∧
  (∀ (m : Master) (v : Word) (s : State),
    s.accepts m 0x20080004 →
    Answers (.registerWrite m 0x20080004 4 v) s fun t =>
      t.rd SA_STATUS_RUN = s.rd SA_STATUS_RUN) ∧
  (∀ (m : Master) (v : Word) (s : State),
    s.accepts m 0x20080000 →
    s.blockOn 0x20080000 = false →
    Answers (.registerWrite m 0x20080000 4 v) s fun t =>
      t.rd SA_CTRL_AUTO_FALLBACK = bits v.toNat SA_CTRL_AUTO_FALLBACK.lo 1) ∧
  (∀ (m : Master) (v : Word) (s : State),
    s.accepts m 0x20080000 →
    s.on SA_CTRL_EN = true →
    bits v.toNat SA_CTRL_AUTO_FALLBACK.lo 1 ≠ s.rd SA_CTRL_AUTO_FALLBACK →
    Answers (.registerWrite m 0x20080000 4 v) s fun t =>
      t.rd SA_CTRL_AUTO_FALLBACK = s.rd SA_CTRL_AUTO_FALLBACK ∧ t.rd SA_STATUS_WERR = 1) ∧
  (∀ (m : Master) (u : Fin 4) (v : Word) (s : State),
    m ≠ .pair →
    s.accepts m (CVU_STATUS_OVERRUN u).addr →
    v.toNat.testBit (CVU_STATUS_OVERRUN u).lo = true →
    Answers (.registerWrite m (CVU_STATUS_OVERRUN u).addr 4 v) s fun t =>
      t.rd (CVU_STATUS_OVERRUN u) = 0) ∧
  (∀ (m : Master) (u : Fin 4) (v : Word) (s : State),
    s.accepts m (CVU_STATUS_OVERRUN u).addr →
    v.toNat.testBit (CVU_STATUS_OVERRUN u).lo = false →
    Answers (.registerWrite m (CVU_STATUS_OVERRUN u).addr 4 v) s fun t =>
      t.rd (CVU_STATUS_OVERRUN u) = s.rd (CVU_STATUS_OVERRUN u))

/-- The stores of engines, passes, health map and baselines stay inside the extents that their registers give. For every address outside the
extent named, the byte is after the command what it was before. MASKIN_LONG_PACKET and PAIR_MASK_RX: WIDTH bytes from the row that the
line count names in the buffer being written. NET_FRAME_RX: for either ring, the 32-byte descriptor at the head and the 64-byte blocks of
its buffer that the frame can touch. NET_FRAME_TX: the 32-byte descriptor at the head. PAIR_SLOT_RX: the bytes carried, at their offset in
their slot. WIN_DMA_TIMEOUT: LEN bytes from the DST of its channel. WIN_DMA_END, WIN_XFER_REQUEST, WIN_ENABLE, WIN_RETIRE_HANDOVER,
SCANOUT_AGENT_HANDOVER, PAIR_SLOT_END_RX and REG_MIRROR_RX: the LEN bytes from DST of the channels, whose blocks are written before their
slot changes hands. BOOT_ROM: what the entries of either copy of the directory load, and DRAM where a wipe waits. WIN_HANDOVER,
HLTH_FORCE, the packets of the mask input other than long ones, and CRYPTO_OP_DONE store nothing. For every address outside the extent
named, the byte is after the command what it was before. PASS_A_DONE: the DD buffer of the frame composed. LATCH_DEPARTURE,
LINE_SLOT_START, KAL_PASS_B_CHECK and DRIVE_READ_ERROR: the write-back buffer of the streamed frame. FRAME_BOUNDARY: that buffer, the
pixel-health map and the destinations of the window DMA channels. DIAG_RET_RX: the baseline blocks, with their CRCs, of the pixels whose
results are awaited. -/
def Obligations.StoresOfEnginesStayInside : Prop :=
  (∀ (hdr : Word) (data : List Byte) (crc : BitVec 16) (s : State),
    Answers (.maskinLongPacket hdr data crc) s fun t =>
      ∀ b, (b < s.maskBase s.maskin.writing + s.maskin.lines * s.maskStride ∨
        s.maskBase s.maskin.writing + s.maskin.lines * s.maskStride + s.rd MASKIN_SIZE_WIDTH ≤ b) → t.byte b = s.byte b) ∧
  (∀ (data : List Byte) (s : State),
    Answers (.pairMaskRx data) s fun t =>
      ∀ b, (b < s.maskBase s.maskin.writing + s.maskin.lines * s.maskStride ∨
        s.maskBase s.maskin.writing + s.maskin.lines * s.maskStride + s.rd MASKIN_SIZE_WIDTH ≤ b) → t.byte b = s.byte b) ∧
  (∀ (n : Fin 2) (f : List Byte) (tr : NetTrouble) (errs : List (Fin 72 × Byte)) (s : State),
    Answers (.netFrameRx n f tr errs) s fun t =>
      ∀ b, (∀ r : Fin 2, (b < s.rxDesc r ∨ s.rxDesc r + 32 ≤ b) ∧
        (b < s.num (s.rxDesc r) 5 % 2 ^ 36 / 64 * 64 ∨ (s.num (s.rxDesc r) 5 % 2 ^ 36 + f.length + 63) / 64 * 64 ≤ b)) → t.byte b = s.byte b) ∧
  (∀ (n : Fin 2) (ue : TxTrouble) (s : State),
    Answers (.netFrameTx n ue) s fun t =>
      ∀ b, (b < s.txDesc n ∨ s.txDesc n + 32 ≤ b) → t.byte b = s.byte b) ∧
  (∀ (data : List Byte) (s : State),
    Answers (.pairSlotRx data) s fun t =>
      ∀ b, (b < s.slotAddr (leAt data 8 2) + leAt data 12 4 ∨ s.slotAddr (leAt data 8 2) + leAt data 12 4 + (data.length - 16) ≤ b) →
        t.byte b = s.byte b) ∧
  (∀ (c : Fin 4) (e : Option Nat) (s : State),
    Answers (.winDmaEnd c e) s fun t =>
      ∀ b, (∀ c : Fin 4, ∀ x ∈ s.win.dma[c], b < x.dst ∨ x.dst + x.len ≤ b) → t.byte b = s.byte b) ∧
  (∀ (c : Fin 4) (x : DmaRun) (s : State),
    s.win.dma[c] = some x →
    Answers (.winDmaTimeout c) s fun t =>
      ∀ b, (b < x.dst ∨ x.dst + x.len ≤ b) → t.byte b = s.byte b) ∧
  (∀ (m : Master) (v : Word) (s : State),
    Answers (.winXferRequest m v) s fun t =>
      ∀ b, (∀ c : Fin 4, ∀ x ∈ s.win.dma[c], b < x.dst ∨ x.dst + x.len ≤ b) → t.byte b = s.byte b) ∧
  (∀ (m : Master) (v : Word) (s : State),
    Answers (.winEnable m v) s fun t =>
      ∀ b, (∀ c : Fin 4, ∀ x ∈ s.win.dma[c], b < x.dst ∨ x.dst + x.len ≤ b) → t.byte b = s.byte b) ∧
  (∀ (s : State),
    Answers (.winRetireHandover) s fun t =>
      ∀ b, (∀ c : Fin 4, ∀ x ∈ s.win.dma[c], b < x.dst ∨ x.dst + x.len ≤ b) → t.byte b = s.byte b) ∧
  (∀ (s : State),
    Answers (.scanoutAgentHandover) s fun t =>
      ∀ b, (∀ c : Fin 4, ∀ x ∈ s.win.dma[c], b < x.dst ∨ x.dst + x.len ≤ b) → t.byte b = s.byte b) ∧
  (∀ (data : List Byte) (s : State),
    Answers (.pairSlotEndRx data) s fun t =>
      ∀ b, (∀ c : Fin 4, ∀ x ∈ s.win.dma[c], b < x.dst ∨ x.dst + x.len ≤ b) → t.byte b = s.byte b) ∧
  (∀ (data : List Byte) (s : State),
    Answers (.regMirrorRx data) s fun t =>
      ∀ b, (∀ c : Fin 4, ∀ x ∈ s.win.dma[c], b < x.dst ∨ x.dst + x.len ≤ b) → t.byte b = s.byte b) ∧
  (∀ (k : Bool) (fl : List (Nat × List Byte)) (s : State),
    Answers (.bootRom k fl) s fun t =>
      ∀ b, (s.ident.keys.wipe = none ∨ b < dramBase) ∧
        ([0, 0x10000].all fun (o : Nat) => (dirEntries ((flashRead fl o 4096).getD [])).all fun e => decide (b < s.viewAddr (.engine 0) (entLoad e) ∨
      s.viewAddr (.engine 0) (entLoad e) + entLen e ≤ b)) = true → t.byte b = s.byte b) ∧
  (∀ (s : State),
    Answers (.winHandover) s fun t =>
      t.mem = s.mem ∧ t.dramGen = s.dramGen) ∧
  (∀ (m : Master) (v : Word) (s : State),
    Answers (.hlthForce m v) s fun t =>
      t.mem = s.mem ∧ t.dramGen = s.dramGen) ∧
  (∀ (hdr : Word) (s : State),
    Answers (.maskinFrameStart hdr) s fun t =>
      t.mem = s.mem ∧ t.dramGen = s.dramGen) ∧
  (∀ (hdr : Word) (s : State),
    Answers (.maskinFrameEnd hdr) s fun t =>
      t.mem = s.mem ∧ t.dramGen = s.dramGen) ∧
  (∀ (hdr : Word) (s : State),
    Answers (.maskinShortPacket hdr) s fun t =>
      t.mem = s.mem ∧ t.dramGen = s.dramGen) ∧
  (∀ (hdr : Word) (s : State),
    Answers (.maskinOtherPacket hdr) s fun t =>
      t.mem = s.mem ∧ t.dramGen = s.dramGen) ∧
  (∀ (o : CryptoOp) (s : State),
    s.ident.op = some o →
    Answers (.cryptoOpDone) s fun t =>
      t.mem = s.mem ∧ t.dramGen = s.dramGen) ∧
  (∀ (crc : Word) (i : Image) (f : Frame) (s : State),
    s.image = some i →
    s.ft.passA = some f →
    Answers (.passADone crc) s fun t =>
      ∀ b, (b < s.ddBuf i f.buf ∨ s.ddBuf i f.buf + ddStrideOf i.info ≤ b) → t.byte b = s.byte b) ∧
  (∀ (missed : BitVec 12) (st : Stream) (s : State),
    s.ft.stream = some st →
    Answers (.latchDeparture missed) s fun t =>
      ∀ b, (b < s.wbBuf st.frame.drv ∨ s.wbBuf st.frame.drv + (4096 + 12 * s.info.w * s.info.h * tapSize st.frame.drv) ≤ b) → t.byte b = s.byte b) ∧
  (∀ (lacking : BitVec 12) (st : Stream) (s : State),
    s.ft.stream = some st →
    Answers (.lineSlotStart lacking) s fun t =>
      ∀ b, (b < s.wbBuf st.frame.drv ∨ s.wbBuf st.frame.drv + (4096 + 12 * s.info.w * s.info.h * tapSize st.frame.drv) ≤ b) → t.byte b = s.byte b) ∧
  (∀ (crc : Word) (st : Stream) (s : State),
    s.ft.stream = some st →
    Answers (.kalPassBCheck crc) s fun t =>
      ∀ b, (b < s.wbBuf st.frame.drv ∨ s.wbBuf st.frame.drv + (4096 + 12 * s.info.w * s.info.h * tapSize st.frame.drv) ≤ b) → t.byte b = s.byte b) ∧
  (∀ (pb : Bool) (addr : Nat) (st : Stream) (s : State),
    s.ft.stream = some st →
    Answers (.driveReadError pb addr) s fun t =>
      ∀ b, (b < s.wbBuf st.frame.drv ∨ s.wbBuf st.frame.drv + (4096 + 12 * s.info.w * s.info.h * tapSize st.frame.drv) ≤ b) → t.byte b = s.byte b) ∧
  (∀ (calp : List (Fin 4096)) (s : State),
    Answers (.frameBoundary calp) s fun t =>
      ∀ b, ((∀ st ∈ s.ft.stream, (b < s.wbBuf st.frame.drv ∨ s.wbBuf st.frame.drv + (4096 + 12 * s.info.w * s.info.h * tapSize st.frame.drv) ≤ b)) ∧
        (∀ c : Fin 4, ∀ x ∈ s.win.dma[c], b < x.dst ∨ x.dst + x.len ≤ b) ∧ (b < s.mapBase ∨ s.mapBase + 12 * t.info.w * t.info.h ≤ b)) →
      t.byte b = s.byte b) ∧
  (∀ (p : Fin 12) (data : List Byte) (i : Image) (s : State),
    s.image = some i →
    Answers (.diagRetRx p data) s fun t =>
      ∀ b, (∀ a ∈ s.hlth.await, ∀ q ∈ a.targets, b < (s.baseBlock i q.1 q.2.1 q.2.2).1 ∨ (s.baseBlock i q.1 q.2.1 q.2.2).1 + 4160 ≤ b) →
        t.byte b = s.byte b)

/-- COMMIT bits: with frame timing enabled they wait for the guard and a boundary, with it off they take effect at once, a refused one sets
its error. SA_COMMIT, LAYER_COMMIT, FT_COMMIT, HLTH_COMMIT and LSC_COMMIT, accepted with bit 1 set, the commit bit 0, frame timing running
and the guard of the boundary after the next not yet passed: the commit bit becomes 1 and the captured set is what it was. THM_COMMIT sets
its bit at any time. A write while the bit is 1 changes nothing but the plain fields of the word. FT_COMMIT, HLTH_COMMIT, LSC_COMMIT and
LAYER_COMMIT, accepted with bit 1 set while frame timing is off, on a unit that no lead commits for, with nothing captured and a set that
passes its checks: the commit bit becomes 1, the C fields are captured, marked to go live by themselves, and no live field changes; of
LAYER, those of each changed layer that is ready and in no flip group. IMMEDIATE_COMMIT_LIVE for SA, LAYER, FT, HLTH and LSC then sets
every live field to the captured value, clears the commit bit and drops the captured set, and without such a set it changes nothing. A
commit of SA, LAYER, FT, HLTH or LSC that its checks refuse is rejected as a whole: the commit bit reads 0, COMMIT_ERR shows the code (and
LAYER_COMMIT_ERR the layer), nothing is captured, no live field changes and the event of the block fires; so is one of SA at a commit
guard. -/
def Obligations.CommitsWaitOrTakeEffect : Prop :=
  (∀ (m : Master) (v : Word) (s : State),
    s.accepts m 0x20080000 →
    v.toNat.testBit 1 = true →
    s.on SA_CTRL_COMMIT = false →
    s.on FT_STATUS_RUN = true →
    s.ft.guard < s.ft.m + 2 →
    Answers (.saCommit m v) s fun t =>
      t.rd SA_CTRL_COMMIT = 1 ∧ t.sa.cap = s.sa.cap) ∧
  (∀ (m : Master) (v : Word) (s : State),
    s.accepts m 0x20090000 →
    v.toNat.testBit 1 = true →
    s.on LAYER_CTRL_COMMIT = false →
    s.on FT_STATUS_RUN = true →
    s.ft.guard < s.ft.m + 2 →
    Answers (.layerCommit m v) s fun t =>
      t.rd LAYER_CTRL_COMMIT = 1 ∧ t.layer.plans = s.layer.plans) ∧
  (∀ (m : Master) (v : Word) (s : State),
    s.accepts m 0x200A0000 →
    v.toNat.testBit 1 = true →
    s.on FT_CTRL_COMMIT = false →
    s.on FT_STATUS_RUN = true →
    s.ft.guard < s.ft.m + 2 →
    Answers (.ftCommit m v) s fun t =>
      t.rd FT_CTRL_COMMIT = 1 ∧ t.ft.cap = s.ft.cap) ∧
  (∀ (m : Master) (v : Word) (s : State),
    s.accepts m 0x200D0000 →
    v.toNat.testBit 1 = true →
    s.on HLTH_CTRL_COMMIT = false →
    s.on FT_STATUS_RUN = true →
    s.ft.guard < s.ft.m + 2 →
    Answers (.hlthCommit m v) s fun t =>
      t.rd HLTH_CTRL_COMMIT = 1 ∧ t.hlth.cap = s.hlth.cap) ∧
  (∀ (m : Master) (v : Word) (s : State),
    s.accepts m 0x200E0000 →
    v.toNat.testBit 1 = true →
    s.on LSC_CTRL_COMMIT = false →
    s.on FT_STATUS_RUN = true →
    s.ft.guard < s.ft.m + 2 →
    Answers (.lscCommit m v) s fun t =>
      t.rd LSC_CTRL_COMMIT = 1 ∧ t.lsc.cap = s.lsc.cap) ∧
  (∀ (m : Master) (v : Word) (s : State),
    s.accepts m 0x200F0000 →
    v.toNat.testBit 1 = true →
    Answers (.thmCommit m v) s fun t =>
      t.rd THM_CTRL_COMMIT = 1) ∧
  (∀ (m : Master) (v : Word) (s : State),
    s.accepts m 0x20080000 →
    v.toNat.testBit 1 = true →
    s.on SA_CTRL_COMMIT = true →
    Answers (.saCommit m v) s fun t =>
      t = s.stored m 0x20080000 v) ∧
  (∀ (m : Master) (v : Word) (s : State),
    s.accepts m 0x20090000 →
    v.toNat.testBit 1 = true →
    s.on LAYER_CTRL_COMMIT = true →
    Answers (.layerCommit m v) s fun t =>
      t = s.stored m 0x20090000 v) ∧
  (∀ (m : Master) (v : Word) (s : State),
    s.accepts m 0x200F0000 →
    v.toNat.testBit 1 = true →
    s.on THM_CTRL_COMMIT = true →
    Answers (.thmCommit m v) s fun t =>
      t = s.stored m 0x200F0000 v) ∧
  (∀ (m : Master) (v : Word) (s : State),
    s.accepts m 0x200A0000 →
    v.toNat.testBit 1 = true →
    s.on FT_CTRL_COMMIT = true →
    Answers (.ftCommit m v) s fun t =>
      t = s.stored m 0x200A0000 v) ∧
  (∀ (m : Master) (v : Word) (s : State),
    s.accepts m 0x200D0000 →
    v.toNat.testBit 1 = true →
    s.on HLTH_CTRL_COMMIT = true →
    Answers (.hlthCommit m v) s fun t =>
      t = s.stored m 0x200D0000 v) ∧
  (∀ (m : Master) (v : Word) (s : State),
    s.accepts m 0x200E0000 →
    v.toNat.testBit 1 = true →
    s.on LSC_CTRL_COMMIT = true →
    Answers (.lscCommit m v) s fun t =>
      t = s.stored m 0x200E0000 v) ∧
  (∀ (m : Master) (v : Word) (s : State),
    s.accepts m 0x20080000 →
    v.toNat.testBit 1 = true →
    s.on SA_CTRL_COMMIT = false →
    s.on FT_STATUS_RUN = false →
    ((s.stored m 0x20080000 v).wr SA_CTRL_COMMIT 1).ledBlock 1 = false →
    s.sa.cap = none →
    ((s.stored m 0x20080000 v).wr SA_CTRL_COMMIT 1).saCode ≠ 0 →
    Answers (.saCommit m v) s fun t =>
      t.rd SA_CTRL_COMMIT = 0 ∧ t.rd SA_COMMIT_ERR_CODE = ((s.stored m 0x20080000 v).wr SA_CTRL_COMMIT 1).saCode % 2 ^ SA_COMMIT_ERR_CODE.width ∧
        t.sa.cap = none ∧ t.live = s.live ∧ t.fired 12) ∧
  (∀ (m : Master) (v : Word) (s : State) (k : Fin 8) (x : Nat),
    s.accepts m 0x20090000 →
    v.toNat.testBit 1 = true →
    s.on LAYER_CTRL_COMMIT = false →
    s.on FT_STATUS_RUN = false →
    ((s.stored m 0x20090000 v).wr LAYER_CTRL_COMMIT 1).ledBlock 0 = false →
    s.layer.plans = [] →
    ((s.stored m 0x20090000 v).wr LAYER_CTRL_COMMIT 1).layerFault = some (k, x) →
    x < 9 →
    Answers (.layerCommit m v) s fun t =>
      t.rd LAYER_CTRL_COMMIT = 0 ∧ t.rd LAYER_COMMIT_ERR_CODE = x ∧ t.rd LAYER_COMMIT_ERR_LAYER = k ∧ t.layer.plans.all (fun p => !p.commit) = true ∧
        t.live = s.live ∧ t.fired 6) ∧
  (∀ (m : Master) (v : Word) (s : State),
    s.accepts m 0x200A0000 →
    v.toNat.testBit 1 = true →
    s.on FT_CTRL_COMMIT = false →
    s.on FT_STATUS_RUN = false →
    ((s.stored m 0x200A0000 v).wr FT_CTRL_COMMIT 1).ledBlock 2 = false →
    s.ft.cap = none →
    ((s.stored m 0x200A0000 v).wr FT_CTRL_COMMIT 1).ftCode ≠ 0 →
    Answers (.ftCommit m v) s fun t =>
      t.rd FT_CTRL_COMMIT = 0 ∧ t.rd FT_COMMIT_ERR_CODE = ((s.stored m 0x200A0000 v).wr FT_CTRL_COMMIT 1).ftCode % 2 ^ FT_COMMIT_ERR_CODE.width ∧
        t.ft.cap = none ∧ t.live = s.live ∧ t.fired 5) ∧
  (∀ (m : Master) (v : Word) (s : State),
    s.accepts m 0x200D0000 →
    v.toNat.testBit 1 = true →
    s.on HLTH_CTRL_COMMIT = false →
    s.on FT_STATUS_RUN = false →
    ((s.stored m 0x200D0000 v).wr HLTH_CTRL_COMMIT 1).ledBlock 3 = false →
    s.hlth.cap = none →
    ((s.stored m 0x200D0000 v).wr HLTH_CTRL_COMMIT 1).hlthCode ≠ 0 →
    Answers (.hlthCommit m v) s fun t =>
      t.rd HLTH_CTRL_COMMIT = 0 ∧
        t.rd HLTH_COMMIT_ERR_CODE = ((s.stored m 0x200D0000 v).wr HLTH_CTRL_COMMIT 1).hlthCode % 2 ^ HLTH_COMMIT_ERR_CODE.width ∧ t.hlth.cap = none ∧
      t.live = s.live ∧ t.fired 94) ∧
  (∀ (m : Master) (v : Word) (s : State),
    s.accepts m 0x200E0000 →
    v.toNat.testBit 1 = true →
    s.on LSC_CTRL_COMMIT = false →
    s.on FT_STATUS_RUN = false →
    ((s.stored m 0x200E0000 v).wr LSC_CTRL_COMMIT 1).ledBlock 4 = false →
    s.lsc.cap = none →
    ((s.stored m 0x200E0000 v).wr LSC_CTRL_COMMIT 1).lscCode ≠ 0 →
    Answers (.lscCommit m v) s fun t =>
      t.rd LSC_CTRL_COMMIT = 0 ∧
        t.rd LSC_COMMIT_ERR_CODE = ((s.stored m 0x200E0000 v).wr LSC_CTRL_COMMIT 1).lscCode % 2 ^ LSC_COMMIT_ERR_CODE.width ∧ t.lsc.cap = none ∧
      t.live = s.live ∧ t.fired 87) ∧
  (∀ (s : State),
    s.on FT_STATUS_RUN = true →
    s.ft.guard < s.ft.m + 2 →
    s.on SA_CTRL_COMMIT = true →
    s.sa.cap = none →
    s.saCode ≠ 0 →
    s.ledBlock 1 = false →
    s.on LAYER_CTRL_COMMIT = false →
    (List.range 8).any s.armed = false →
    Answers (.commitGuard) s fun t =>
      t.rd SA_CTRL_COMMIT = 0 ∧ t.rd SA_COMMIT_ERR_CODE = s.saCode % 2 ^ SA_COMMIT_ERR_CODE.width ∧ t.sa.cap = none ∧ t.sa.switch = s.sa.switch ∧
        t.fired 12) ∧
  (∀ (m : Master) (v : Word) (s : State),
    s.accepts m 0x200A0000 →
    v.toNat.testBit 1 = true →
    s.on FT_CTRL_COMMIT = false →
    s.on FT_STATUS_RUN = false →
    ((s.stored m 0x200A0000 v).wr FT_CTRL_COMMIT 1).ledBlock 2 = false →
    s.ft.cap = none →
    ((s.stored m 0x200A0000 v).wr FT_CTRL_COMMIT 1).ftCode = 0 →
    Answers (.ftCommit m v) s fun t =>
      t.rd FT_CTRL_COMMIT = 1 ∧
        t.ft.cap = some { boundary := 0, now := true, set := ((s.stored m 0x200A0000 v).wr FT_CTRL_COMMIT 1).snap ftFields } ∧ t.live = s.live) ∧
  (∀ (m : Master) (v : Word) (s : State),
    s.accepts m 0x200D0000 →
    v.toNat.testBit 1 = true →
    s.on HLTH_CTRL_COMMIT = false →
    s.on FT_STATUS_RUN = false →
    ((s.stored m 0x200D0000 v).wr HLTH_CTRL_COMMIT 1).ledBlock 3 = false →
    s.hlth.cap = none →
    ((s.stored m 0x200D0000 v).wr HLTH_CTRL_COMMIT 1).hlthCode = 0 →
    Answers (.hlthCommit m v) s fun t =>
      t.rd HLTH_CTRL_COMMIT = 1 ∧
        t.hlth.cap = some { boundary := 0, now := true, set := ((s.stored m 0x200D0000 v).wr HLTH_CTRL_COMMIT 1).snap hlthCFields } ∧
      t.live = s.live) ∧
  (∀ (m : Master) (v : Word) (s : State),
    s.accepts m 0x200E0000 →
    v.toNat.testBit 1 = true →
    s.on LSC_CTRL_COMMIT = false →
    s.on FT_STATUS_RUN = false →
    ((s.stored m 0x200E0000 v).wr LSC_CTRL_COMMIT 1).ledBlock 4 = false →
    s.lsc.cap = none →
    ((s.stored m 0x200E0000 v).wr LSC_CTRL_COMMIT 1).lscCode = 0 →
    Answers (.lscCommit m v) s fun t =>
      t.rd LSC_CTRL_COMMIT = 1 ∧
        t.lsc.cap = some { boundary := 0, now := true, set := ((s.stored m 0x200E0000 v).wr LSC_CTRL_COMMIT 1).snap lscCFields } ∧ t.live = s.live) ∧
  (∀ (m : Master) (v : Word) (s : State),
    s.accepts m 0x20090000 →
    v.toNat.testBit 1 = true →
    s.on LAYER_CTRL_COMMIT = false →
    s.on FT_STATUS_RUN = false →
    ((s.stored m 0x20090000 v).queueChecks.wr LAYER_CTRL_COMMIT 1).ledBlock 0 = false →
    s.layer.plans = [] →
    ((s.stored m 0x20090000 v).queueChecks.wr LAYER_CTRL_COMMIT 1).layerFault = none →
    Answers (.layerCommit m v) s fun t =>
      t.rd LAYER_CTRL_COMMIT = 1 ∧ t.layer.plans.map (fun p => (p.now, p.commit)) = [(true, true)] ∧ t.live = s.live) ∧
  (∀ (m : Master) (v : Word) (k : Fin 8) (s : State),
    s.accepts m 0x20090000 →
    v.toNat.testBit 1 = true →
    s.on LAYER_CTRL_COMMIT = false →
    s.on FT_STATUS_RUN = false →
    ((s.stored m 0x20090000 v).queueChecks.wr LAYER_CTRL_COMMIT 1).ledBlock 0 = false →
    s.layer.plans = [] →
    ((s.stored m 0x20090000 v).queueChecks.wr LAYER_CTRL_COMMIT 1).layerFault = none →
    ((s.stored m 0x20090000 v).queueChecks.wr LAYER_CTRL_COMMIT 1).layerChanged k = true →
    ((s.stored m 0x20090000 v).queueChecks.wr LAYER_CTRL_COMMIT 1).layerReady k = true →
    ((s.stored m 0x20090000 v).queueChecks.wr LAYER_CTRL_COMMIT 1).rd (LAYER_L_CTRL_FLIP_GROUP k) = 0 →
    Answers (.layerCommit m v) s fun t =>
      t.layer.plans.map (fun p => p.sets.contains (k.val,
        ((s.stored m 0x20090000 v).queueChecks.wr LAYER_CTRL_COMMIT 1).snap (layerFields k))) = [true]) ∧
  (∀ (s : State) (c : Captured),
    s.hlth.cap = some c →
    c.now = true →
    Answers (.immediateCommitLive .hlth) s fun t =>
      t.rd HLTH_CTRL_COMMIT = 0 ∧ t.hlth.cap = none ∧ t.live = (s.applySet c.set).live) ∧
  (∀ (s : State) (c : Captured),
    s.lsc.cap = some c →
    c.now = true →
    Answers (.immediateCommitLive .lsc) s fun t =>
      t.rd LSC_CTRL_COMMIT = 0 ∧ t.lsc.cap = none ∧ t.live = (s.applySet c.set).live) ∧
  (∀ (s : State) (c : Captured),
    s.ft.cap = some c →
    c.now = true →
    s.on FT_STATUS_RUN = false →
    Answers (.immediateCommitLive .ft) s fun t =>
      t.rd FT_CTRL_COMMIT = 0 ∧ t.ft.cap = none ∧ t.live = (s.applySet c.set).live) ∧
  (∀ (s : State) (c : Captured),
    s.sa.cap = some c →
    c.now = true →
    Answers (.immediateCommitLive .sa) s fun t =>
      t.rd SA_CTRL_COMMIT = 0 ∧ t.sa.cap = none ∧ t.live = (s.applySet c.set).live) ∧
  (∀ (s : State) (p : LayerPlan),
    s.layer.plans = [p] →
    p.now = true →
    p.commit = true →
    Answers (.immediateCommitLive .layer) s fun t =>
      t.rd LAYER_CTRL_COMMIT = 0 ∧ t.layer.plans = [] ∧ t.layer.granted = p.granted ∧ t.live = (p.sets.foldl (fun u x => u.applySet x.2) s).live) ∧
  (∀ (s : State),
    isNow s.sa.cap = false →
    Answers (.immediateCommitLive .sa) s fun t =>
      t = s) ∧
  (∀ (s : State),
    isNow s.ft.cap = false →
    Answers (.immediateCommitLive .ft) s fun t =>
      t = s) ∧
  (∀ (s : State),
    isNow s.hlth.cap = false →
    Answers (.immediateCommitLive .hlth) s fun t =>
      t = s) ∧
  (∀ (s : State),
    isNow s.lsc.cap = false →
    Answers (.immediateCommitLive .lsc) s fun t =>
      t = s) ∧
  (∀ (s : State),
    ∀ p ∈ s.layer.plans, p.now = false →
    Answers (.immediateCommitLive .layer) s fun t =>
      t = s)

/-- The stage array: its enable, cell diagnostics, memory errors and the fence. SA_ENABLE, an accepted write of SA_CTRL. With EN 0 and bit 0
set, where no cell of the active image is fenced and the DD region (twice the bytes that a sequence needs, at the base that
SA_DRV_DD_LO/HI give; the size with no image is log entry 21) lies in DRAM outside the windows, EN becomes 1 and STOPPED 0; where one of
the two fails, EN stays 0, and WERR becomes 1 and its event 15 is pending. With EN 1 and bit 0 set nothing but the plain fields of the
word changes. With EN 1 and bit 0 clear, EN becomes 0 while frame timing is off, and stays 1 with WERR 1 while frame timing is enabled or
runs. SA_DIAG_START on a cell that no enabled image uses starts the test of the cell that SA_DIAG_CTRL names: START and BUSY become 1; on
a cell in use it sets WERR. SA_DIAG_DONE clears both, sets DONE and PASS, and with a failing unit FAIL_UNIT, and raises FLT_SA_CELL.
SA_ECC_DED sets DED, holds the first cell in DED_CELL, adds the corrected errors that its operand counts (log entry 40) to CORR_CNT, fires
event 15 and raises FLT_SA_ECC. SA_FENCE_SET sets the fence bit of each cell whose bit is written 1 and no other. -/
def Obligations.SaEnableAndCellDiagnostics : Prop :=
  (∀ (m : Master) (v : Word) (s : State),
    s.accepts m 0x20080000 →
    v.toNat.testBit 0 = true →
    s.on SA_CTRL_EN = false →
    (s.stored m 0x20080000 v).image.map (s.stored m 0x20080000 v).fencedIn = some false →
    (s.stored m 0x20080000 v).dramOutside (s.rd SA_DRV_DD_HI_ADDR_HI <<< 32 ||| s.rd SA_DRV_DD_LO_ADDR <<< 20) (2 * (s.stored m 0x20080000 v).ddNeed)
      = true →
    Answers (.saEnable m v) s fun t =>
      t.rd SA_CTRL_EN = 1 ∧ t.rd SA_STATUS_STOPPED = 0) ∧
  (∀ (m : Master) (v : Word) (s : State),
    s.accepts m 0x20080000 →
    v.toNat.testBit 0 = true →
    s.on SA_CTRL_EN = false →
    (s.stored m 0x20080000 v).image.map (s.stored m 0x20080000 v).fencedIn = some true →
    Answers (.saEnable m v) s fun t =>
      t.rd SA_CTRL_EN = 0 ∧ t.rd SA_STATUS_WERR = 1 ∧ t.fired 15) ∧
  (∀ (m : Master) (v : Word) (s : State),
    s.accepts m 0x20080000 →
    v.toNat.testBit 0 = true →
    s.on SA_CTRL_EN = false →
    (s.stored m 0x20080000 v).dramOutside (s.rd SA_DRV_DD_HI_ADDR_HI <<< 32 ||| s.rd SA_DRV_DD_LO_ADDR <<< 20) (2 * (s.stored m 0x20080000 v).ddNeed)
      = false →
    Answers (.saEnable m v) s fun t =>
      t.rd SA_CTRL_EN = 0 ∧ t.rd SA_STATUS_WERR = 1 ∧ t.fired 15) ∧
  (∀ (m : Master) (v : Word) (s : State),
    s.accepts m 0x20080000 →
    v.toNat.testBit 0 = true →
    s.on SA_CTRL_EN = true →
    Answers (.saEnable m v) s fun t =>
      t = s.stored m 0x20080000 v) ∧
  (∀ (m : Master) (v : Word) (s : State),
    s.accepts m 0x20080000 →
    v.toNat.testBit 0 = false →
    s.on SA_CTRL_EN = true →
    s.on FT_CTRL_EN = false →
    s.on FT_STATUS_RUN = false →
    Answers (.saEnable m v) s fun t =>
      t.rd SA_CTRL_EN = 0) ∧
  (∀ (m : Master) (v : Word) (s : State),
    s.accepts m 0x20080000 →
    v.toNat.testBit 0 = false →
    s.on SA_CTRL_EN = true →
    s.on FT_CTRL_EN = true ∨ s.on FT_STATUS_RUN = true →
    Answers (.saEnable m v) s fun t =>
      t.rd SA_CTRL_EN = s.rd SA_CTRL_EN ∧ t.rd SA_STATUS_WERR = 1 ∧ t.fired 15) ∧
  (∀ (m : Master) (v : Word) (s : State),
    s.accepts m 0x20080040 →
    v.toNat.testBit 8 = true →
    s.sa.diag.isSome = false →
    s.on SA_CTRL_EN = false →
    Answers (.saDiagStart m v) s fun t =>
      t.rd SA_DIAG_CTRL_START = 1 ∧ t.rd SA_DIAG_STATUS_BUSY = 1 ∧
        t.sa.diag = some ((s.stored m 0x20080040 v).rd SA_DIAG_CTRL_CELL, (s.stored m 0x20080040 v).on SA_DIAG_CTRL_FULL)) ∧
  (∀ (m : Master) (v : Word) (s : State) (i : Image),
    s.accepts m 0x20080040 →
    v.toNat.testBit 8 = true →
    s.sa.diag.isSome = false →
    s.on SA_CTRL_EN = true →
    s.image = some i →
    i.cellMask.testBit ((s.stored m 0x20080040 v).rd SA_DIAG_CTRL_CELL) = false →
    Answers (.saDiagStart m v) s fun t =>
      t.rd SA_DIAG_CTRL_START = 1 ∧ t.rd SA_DIAG_STATUS_BUSY = 1 ∧
        t.sa.diag = some ((s.stored m 0x20080040 v).rd SA_DIAG_CTRL_CELL, (s.stored m 0x20080040 v).on SA_DIAG_CTRL_FULL)) ∧
  (∀ (m : Master) (v : Word) (s : State) (i : Image),
    s.accepts m 0x20080040 →
    v.toNat.testBit 8 = true →
    s.sa.diag.isSome = false →
    s.on SA_CTRL_EN = true →
    s.image = some i →
    i.cellMask.testBit ((s.stored m 0x20080040 v).rd SA_DIAG_CTRL_CELL) = true →
    Answers (.saDiagStart m v) s fun t =>
      t.sa.diag = none ∧ t.rd SA_STATUS_WERR = 1 ∧ t.fired 15) ∧
  (∀ (s : State) (d : Nat × Bool),
    s.sa.diag = some d →
    Answers (.saDiagDone none) s fun t =>
      t.rd SA_DIAG_CTRL_START = 0 ∧ t.rd SA_DIAG_STATUS_BUSY = 0 ∧ t.rd SA_DIAG_STATUS_DONE = 1 ∧ t.rd SA_DIAG_STATUS_PASS = 1 ∧ t.sa.diag = none ∧
        t.fired 14) ∧
  (∀ (u : Fin 8) (s : State) (d : Nat × Bool),
    s.sa.diag = some d →
    Answers (.saDiagDone (some u)) s fun t =>
      t.rd SA_DIAG_CTRL_START = 0 ∧ t.rd SA_DIAG_STATUS_BUSY = 0 ∧ t.rd SA_DIAG_STATUS_DONE = 1 ∧ t.rd SA_DIAG_STATUS_PASS = 0 ∧
        t.rd SA_DIAG_STATUS_FAIL_UNIT = u ∧ t.fired 14 ∧ t.hasRaised FLT_SA_CELL) ∧
  (∀ (cell : Fin 128) (b : Bool) (n : BitVec 16) (s : State),
    Answers (.saEccDed cell b n) s fun t =>
      t.rd SA_ECC_STATUS_DED = 1 ∧ (s.on SA_ECC_STATUS_DED = false →
        t.rd SA_ECC_STATUS_DED_CELL = cell) ∧ t.rd SA_ECC_STATUS_CORR_CNT = min (s.rd SA_ECC_STATUS_CORR_CNT + n.toNat) 65535 ∧ t.fired 15 ∧
      t.hasRaised FLT_SA_ECC) ∧
  (∀ (m : Master) (k : Fin 4) (v : Word) (i : Fin 32) (s : State),
    s.accepts m (0x20080050 + 4 * k) →
    v.toNat.testBit i = true →
    Answers (.saFenceSet m k v) s fun t =>
      t.rd (SA_FENCE (32 * k + i)) = 1) ∧
  (∀ (m : Master) (k : Fin 4) (v : Word) (i : Fin 32) (s : State),
    s.accepts m (0x20080050 + 4 * k) →
    v.toNat.testBit i = false →
    Answers (.saFenceSet m k v) s fun t =>
      t.rd (SA_FENCE (32 * k + i)) = s.rd (SA_FENCE (32 * k + i)))

/-- A structure-image load: START samples address and bank and empties the bank, DONE validates it, every failure leaves it not valid.
SA_LOAD_START: an accepted write with START, no load running and a bank that is neither active nor to become active, samples the address
and the bank, sets START, BUSY and LOAD_BUSY, clears DONE and ERR and makes the bank not valid. On a barred bank the load fails at once
with ERR_CODE 0x0A, while a load runs WERR is set. SA_LOAD_ABORT ends a running load with ERR_CODE 0x0F. SA_LOAD_END: an image that passes
its checks makes the bank valid with its IMAGE_ID, DONE 1 and BUSY 0; one that fails gives ERR 1 with the code found. A failure raises
FLT_SA_IMAGE and leaves the bank, which START made not valid, not valid. -/
def Obligations.SaLoadRunsToItsEnd : Prop :=
  (∀ (m : Master) (v : Word) (s : State),
    s.accepts m 0x20080018 →
    v.toNat.testBit 0 = true →
    s.on SA_LOAD_STATUS_BUSY = false →
    (((s.stored m 0x20080018 v).wr SA_LOAD_STATUS_DONE 0).wr SA_LOAD_STATUS_ERR 0).loadBarred ((s.stored m 0x20080018 v).rd SA_LOAD_CTRL_BANK) =
      false →
    Answers (.saLoadStart m v) s fun t =>
      t.rd SA_LOAD_CTRL_START = 1 ∧ t.rd SA_LOAD_STATUS_BUSY = 1 ∧ t.rd SA_STATUS_LOAD_BUSY = 1 ∧ t.rd SA_LOAD_STATUS_DONE = 0 ∧
        t.rd SA_LOAD_STATUS_ERR = 0 ∧
      t.rd (bankValid ((s.stored m 0x20080018 v).rd SA_LOAD_CTRL_BANK)) = 0 ∧
        t.sa.load = some { addr := s.rd SA_LOAD_ADDR_HI_ADDR_HI <<< 32 ||| s.rd SA_LOAD_ADDR_LO_ADDR <<< 6, bank := (s.stored m 0x20080018 v).rd SA_LOAD_CTRL_BANK }) ∧
  (∀ (m : Master) (v : Word) (s : State),
    s.accepts m 0x20080018 →
    v.toNat.testBit 0 = true →
    s.on SA_LOAD_STATUS_BUSY = false →
    (((s.stored m 0x20080018 v).wr SA_LOAD_STATUS_DONE 0).wr SA_LOAD_STATUS_ERR 0).loadBarred ((s.stored m 0x20080018 v).rd SA_LOAD_CTRL_BANK) = true
      →
    Answers (.saLoadStart m v) s fun t =>
      t.rd SA_LOAD_STATUS_ERR = 1 ∧ t.rd SA_LOAD_STATUS_ERR_CODE = 0x0A ∧ t.rd SA_LOAD_STATUS_BUSY = 0 ∧ t.hasRaised FLT_SA_IMAGE) ∧
  (∀ (m : Master) (v : Word) (s : State),
    s.accepts m 0x20080018 →
    v.toNat.testBit 0 = true →
    s.on SA_LOAD_STATUS_BUSY = true →
    Answers (.saLoadStart m v) s fun t =>
      t.rd SA_STATUS_WERR = 1 ∧ t.fired 15 ∧ t.sa.load = s.sa.load) ∧
  (∀ (m : Master) (v : Word) (s : State) (l : Load),
    s.accepts m 0x20080018 →
    v.toNat.testBit 2 = true →
    s.sa.load = some l →
    Answers (.saLoadAbort m v) s fun t =>
      t.rd SA_LOAD_STATUS_ERR = 1 ∧ t.rd SA_LOAD_STATUS_ERR_CODE = 0x0F ∧ t.rd SA_LOAD_STATUS_BUSY = 0 ∧ t.sa.load = none ∧
        (s.rd (bankValid l.bank) = 0 → t.rd (bankValid l.bank) = 0) ∧ t.hasRaised FLT_SA_IMAGE) ∧
  (∀ (e : Option Nat) (s : State) (l : Load),
    s.sa.load = some l →
    Answers (.saLoadEnd e) s fun t =>
      t.sa.load = none ∧ t.rd SA_LOAD_STATUS_BUSY = 0 ∧
      match s.loadImage l.addr e with
      | .ok i => t.rd (bankValid l.bank) = 1 ∧ t.rd (bankId l.bank) = i.imageId % 2 ^ 32 ∧ t.rd SA_LOAD_STATUS_DONE = 1 ∧
        t.rd SA_LOAD_STATUS_ERR = 0 ∧ t.fired 10
      | .error k => t.rd SA_LOAD_STATUS_ERR_CODE = k.1 % 2 ^ 8 ∧ (s.rd (bankValid l.bank) = 0 →
        t.rd (bankValid l.bank) = 0) ∧ t.rd SA_LOAD_STATUS_ERR = 1 ∧ t.rd SA_LOAD_STATUS_DONE = 0 ∧ t.hasRaised FLT_SA_IMAGE)

/-- Layer enables and fetches, drive reads, span checks and clamped taps. LAYER_ENABLE: an accepted write with EN 1 sets LAYER_CTRL.EN; one
with EN 0 clears it while frame timing is off, and while frame timing is enabled or runs it leaves EN at 1 and sets WERR with its event 6.
FETCH_ERROR while pass A of a frame runs sets LAYER_STATUS.FETCH_ERR, makes event 6 pending, raises FLT_LAYER_FETCH and marks the frame to
be aborted with cause 4, the first cause of a frame being kept; with no pass A running it changes nothing. SCANOUT_AGENT_HANDOVER hands on
each slot that waits, is still owned by the scan-out agent and that nothing references: it has the new owner and waits no longer.
DRIVE_READ_ERROR in pass B with a frame in streaming that is not aborted sets FETCH_ERR and raises FLT_SA_DRV, and the frame is aborted;
in pass A with a frame in composition it does both, and the frame is spoiled. With no such frame it changes nothing. SPAN_CHECK_START with
no walk in progress takes the layer that the order of R92 names next: CHK_BUSY of that layer becomes 1 and the walk is held. With a walk
in progress it changes nothing. SPAN_CHECK_DONE ends the walk: CHK_BUSY becomes 0; for a layer that the active image composes, the walk of
its pending set gives CHK_CODE 0 (the choice of the model, log entry 47) and CHECKED 1, or the code of the error with SPAN_ERR 1, the
layer not armed and CHECKED as it was. WARP_TAP_CLAMP while pass A runs adds 1 to CLAMP_CNT of the layer, and raises FLT_LAYER_CLAMP at
the first clamp of the layer in the frame. -/
def Obligations.LayerFetchAndChecks : Prop :=
  (∀ (m : Master) (v : Word) (s : State),
    s.accepts m 0x20090000 →
    v.toNat.testBit 0 = true →
    Answers (.layerEnable m v) s fun t =>
      t.rd LAYER_CTRL_EN = 1) ∧
  (∀ (m : Master) (v : Word) (s : State),
    s.accepts m 0x20090000 →
    v.toNat.testBit 0 = false →
    s.on FT_CTRL_EN = false →
    s.on FT_STATUS_RUN = false →
    Answers (.layerEnable m v) s fun t =>
      t.rd LAYER_CTRL_EN = 0) ∧
  (∀ (m : Master) (v : Word) (s : State),
    s.accepts m 0x20090000 →
    v.toNat.testBit 0 = false →
    s.on LAYER_CTRL_EN = true →
    s.on FT_CTRL_EN = true ∨ s.on FT_STATUS_RUN = true →
    Answers (.layerEnable m v) s fun t =>
      t.rd LAYER_CTRL_EN = s.rd LAYER_CTRL_EN ∧ t.rd LAYER_STATUS_WERR = 1 ∧ t.fired 6) ∧
  (∀ (l : Fin 8) (a : Nat) (s : State) (f : Frame),
    s.ft.passA = some f →
    f.done = none →
    Answers (.fetchError l a) s fun t =>
      t.rd LAYER_STATUS_FETCH_ERR = 1 ∧ t.fired 6 ∧ t.hasRaised FLT_LAYER_FETCH ∧
        t.ft.passA = some { f with cause := if f.cause = 0 then 4 else f.cause }) ∧
  (∀ (l : Fin 8) (a : Nat) (s : State),
    s.ft.passA = none →
    Answers (.fetchError l a) s fun t =>
      t = s) ∧
  (∀ (s : State) (n : Nat),
    s.layer.retire = [n] →
    s.sa.retireNow = [] →
    n < 1024 →
    s.slotOwner n = 4 →
    s.referenced n = false →
    s.win.retire = [] →
    s.on FT_STATUS_RUN = true →
    Answers (.scanoutAgentHandover) s fun t =>
      t.slotOwner n = (if s.on LAYER_RETIRE_TO_OWNER then 2 else 0) ∧ t.layer.retire = []) ∧
  (∀ (a : Nat) (s : State) (st : Stream),
    s.ft.stream = some st →
    st.aborted = false →
    Answers (.driveReadError true a) s fun t =>
      t.rd SA_DRV_STATUS_FETCH_ERR = 1 ∧ t.hasRaised FLT_SA_DRV ∧ (t.ft.stream.map (·.aborted)) = some true) ∧
  (∀ (a : Nat) (s : State) (f : Frame),
    s.ft.passA = some f →
    f.done = none →
    Answers (.driveReadError false a) s fun t =>
      t.rd SA_DRV_STATUS_FETCH_ERR = 1 ∧ t.hasRaised FLT_SA_DRV ∧ t.ft.passA = some (f.spoil 5)) ∧
  (∀ (a : Nat) (s : State),
    s.ft.passA = none →
    Answers (.driveReadError false a) s fun t =>
      t = s) ∧
  (∀ (a : Nat) (s : State),
    s.ft.stream = none →
    Answers (.driveReadError true a) s fun t =>
      t = s) ∧
  (∀ (s : State) (w : Walk),
    s.layer.walk = none →
    s.nextWalk = some w →
    Answers (.spanCheckStart) s fun t =>
      t.rd (LAYER_L_WARP_STATUS_CHK_BUSY w.layer) = 1 ∧ t.layer.walk = some w) ∧
  (∀ (s : State) (w : Walk),
    s.layer.walk = some w →
    Answers (.spanCheckStart) s fun t =>
      t = s) ∧
  (∀ (e : Option SpanFault) (s : State) (w : Walk) (i : Image) (k : Fin 8),
    s.layer.walk = some w →
    w.layer = k →
    w.live = false →
    s.dropWalk.image = some i →
    i.composes k = true →
    (s.dropWalk.walkLayer i k false e).fail = none →
    s.on FT_STATUS_RUN = true →
    Answers (.spanCheckDone e) s fun t =>
      t.rd (LAYER_L_WARP_STATUS_CHK_BUSY k) = 0 ∧ t.rd (LAYER_L_WARP_STATUS_CHK_CODE k) = 0 ∧ t.rd (LAYER_L_WARP_STATUS_CHECKED k) = 1) ∧
  (∀ (e : Option SpanFault) (s : State) (w : Walk) (i : Image) (k : Fin 8) (f : Nat × Nat × Nat),
    s.layer.walk = some w →
    w.layer = k →
    w.live = false →
    s.dropWalk.image = some i →
    i.composes k = true →
    (s.dropWalk.walkLayer i k false e).fail = some f →
    f.1 < 8 →
    s.on FT_STATUS_RUN = true →
    Answers (.spanCheckDone e) s fun t =>
      t.rd (LAYER_L_WARP_STATUS_CHK_BUSY k) = 0 ∧ t.rd (LAYER_L_WARP_STATUS_CHK_CODE k) = f.1 ∧ t.rd (LAYER_L_WARP_STATUS_SPAN_ERR k) = 1 ∧
        t.rd (LAYER_STATUS_ARMED k) = 0 ∧ t.rd (LAYER_L_WARP_STATUS_CHECKED k) = s.rd (LAYER_L_WARP_STATUS_CHECKED k)) ∧
  (∀ (l : Fin 8) (n : Nat) (s : State) (f : Frame),
    s.ft.passA = some f →
    n ≠ 0 →
    s.layer.clamped[l] = false →
    Answers (.warpTapClamp l n) s fun t =>
      t.rd (LAYER_L_CLAMP_CNT_COUNT l) = s.counted (LAYER_L_CLAMP_CNT_COUNT l) ∧ t.layer.clamped[l] = true ∧ t.hasRaised FLT_LAYER_CLAMP) ∧
  (∀ (l : Fin 8) (n : Nat) (s : State) (f : Frame),
    s.ft.passA = some f →
    n ≠ 0 →
    s.layer.clamped[l] = true →
    Answers (.warpTapClamp l n) s fun t =>
      t.rd (LAYER_L_CLAMP_CNT_COUNT l) = s.counted (LAYER_L_CLAMP_CNT_COUNT l) ∧ t.flt = s.flt)

/-- The mask input: its packets, frames, errors, buffers and safe mask. MASKIN_ENABLE sets EN and starts with IN_FRAME, MASK_VALID and
HOLD_CNT 0 and neither a complete mask, nor one in use, nor an ended frame (the choice of the model, log entry 23); a clear takes effect
while no layer uses the mask, and sets WERR with event 9 otherwise. On virtual channel 0 of an enabled input a frame start sets IN_FRAME
and starts at line 0 (an open frame is discarded with ORPHAN and counted bad); a frame end in an open frame with every line and no error
closes it and leaves its buffer ended; one marked bad is discarded and counted; an end outside a frame sets ORPHAN. A frame end before
HEIGHT lines sets ERR.HEIGHT, and the frame is discarded and counted bad. On another channel both only set ERR.VC. MASK_COMPLETE makes the
ended buffer the complete one: MASK_VALID 1 and FRAMES_OK counts. The line timeout discards an open frame with ERR.TIMEOUT. At a boundary
that finds no complete mask, more than HOLD times in a row, the safe mask is entered, with event 8 and FLT_MASKIN_SAFE; one that finds a
mask takes it and leaves the safe mask. In an open frame on an enabled input, a long packet of an accepted type on virtual channel 0 with
a good checksum is the next line: the line count rises by one, and a length other than WIDTH sets ERR.LEN and marks the frame bad. A bad
checksum sets ERR.CRC and marks the frame bad, a good line outside a frame only sets ERR.ORPHAN. A packet of another type sets ERR.DT, one
of another channel ERR.VC; a line start, line end or generic short packet is ignored but for ERR.VC. Each packet is taken by its header as
the error correction code of CSI-2 leaves it (PRESUMED, log entry 41), which corrects any single bit of the header 0x37, 0xF0, 0x01, 0x3F.
An uncorrectable header error in an open frame sets ERR.ECC2 and marks the frame bad. With MASKIN disabled a frame start, a frame end and
a long packet are without effect. -/
def Obligations.MaskInputPackets : Prop :=
  (∀ (m : Master) (v : Word) (s : State),
    s.accepts m 0x20180000 →
    v.toNat.testBit 0 = true →
    s.on MASKIN_CTRL_EN = false →
    Answers (.maskinEnable m v) s fun t =>
      t.maskin.complete = none ∧ t.maskin.ended = none ∧ t.maskin.taken = false ∧ t.rd MASKIN_CTRL_EN = 1 ∧ t.rd MASKIN_STATUS_IN_FRAME = 0 ∧
        t.rd MASKIN_STATUS_MASK_VALID = 0 ∧ t.rd MASKIN_STATUS_HOLD_CNT = 0) ∧
  (∀ (m : Master) (v : Word) (s : State),
    s.accepts m 0x20180000 →
    v.toNat.testBit 0 = false →
    s.on MASKIN_CTRL_EN = true →
    (s.stored m 0x20180000 v).maskUsed = false →
    Answers (.maskinEnable m v) s fun t =>
      t.rd MASKIN_CTRL_EN = 0) ∧
  (∀ (m : Master) (v : Word) (s : State),
    s.accepts m 0x20180000 →
    v.toNat.testBit 0 = false →
    s.on MASKIN_CTRL_EN = true →
    (s.stored m 0x20180000 v).maskUsed = true →
    Answers (.maskinEnable m v) s fun t =>
      t.rd MASKIN_CTRL_EN = s.rd MASKIN_CTRL_EN ∧ t.rd MASKIN_STATUS_WERR = 1 ∧ t.fired 9) ∧
  (∀ (h : Word) (wc : Nat) (s : State),
    s.csiOn = true →
    csiHeader h = some (0, 0, wc) →
    s.on MASKIN_STATUS_IN_FRAME = false →
    Answers (.maskinFrameStart h) s fun t =>
      t.rd MASKIN_STATUS_IN_FRAME = 1 ∧ t.maskin.lines = 0 ∧ t.maskin.bad = false) ∧
  (∀ (h : Word) (wc : Nat) (s : State),
    s.csiOn = true →
    csiHeader h = some (0, 0, wc) →
    s.on MASKIN_STATUS_IN_FRAME = true →
    Answers (.maskinFrameStart h) s fun t =>
      t.rd MASKIN_STATUS_IN_FRAME = 1 ∧ t.rd MASKIN_ERR_ORPHAN = 1 ∧ t.maskin.lines = 0 ∧ t.maskin.bad = false ∧ t.fired 9 ∧ (s.maskin.ended = none →
        t.rd MASKIN_CNT_FRAMES_BAD = s.counted MASKIN_CNT_FRAMES_BAD)) ∧
  (∀ (h : Word) (vc wc : Nat) (s : State),
    s.csiOn = true →
    csiHeader h = some (vc, 0, wc) →
    vc ≠ 0 →
    Answers (.maskinFrameStart h) s fun t =>
      t.rd MASKIN_ERR_VC = 1 ∧ t.maskin = s.maskin) ∧
  (∀ (h : Word) (vc wc : Nat) (s : State),
    s.csiOn = true →
    csiHeader h = some (vc, 1, wc) →
    vc ≠ 0 →
    Answers (.maskinFrameEnd h) s fun t =>
      t.rd MASKIN_ERR_VC = 1 ∧ t.maskin = s.maskin) ∧
  (∀ (h : Word) (wc : Nat) (s : State),
    s.csiOn = true →
    csiHeader h = some (0, 1, wc) →
    s.on MASKIN_STATUS_IN_FRAME = true →
    s.maskin.bad = false →
    ¬ s.maskin.lines < s.rd MASKIN_SIZE_HEIGHT →
    Answers (.maskinFrameEnd h) s fun t =>
      t.rd MASKIN_STATUS_IN_FRAME = 0 ∧ t.maskin.ended = some s.maskin.writing) ∧
  (∀ (h : Word) (wc : Nat) (s : State),
    s.csiOn = true →
    csiHeader h = some (0, 1, wc) →
    s.on MASKIN_STATUS_IN_FRAME = true →
    s.maskin.bad = true →
    Answers (.maskinFrameEnd h) s fun t =>
      t.rd MASKIN_STATUS_IN_FRAME = 0 ∧ t.rd MASKIN_CNT_FRAMES_BAD = s.counted MASKIN_CNT_FRAMES_BAD ∧ t.maskin.ended = s.maskin.ended ∧ t.fired 9) ∧
  (∀ (h : Word) (wc : Nat) (s : State),
    s.csiOn = true →
    csiHeader h = some (0, 1, wc) →
    s.on MASKIN_STATUS_IN_FRAME = true →
    s.maskin.lines < s.rd MASKIN_SIZE_HEIGHT →
    Answers (.maskinFrameEnd h) s fun t =>
      t.rd MASKIN_ERR_HEIGHT = 1 ∧ t.rd MASKIN_STATUS_IN_FRAME = 0 ∧ t.rd MASKIN_CNT_FRAMES_BAD = s.counted MASKIN_CNT_FRAMES_BAD ∧
        t.maskin.ended = s.maskin.ended ∧ t.fired 9) ∧
  (∀ (h : Word) (wc : Nat) (s : State),
    s.csiOn = true →
    csiHeader h = some (0, 1, wc) →
    s.on MASKIN_STATUS_IN_FRAME = false →
    Answers (.maskinFrameEnd h) s fun t =>
      t.rd MASKIN_ERR_ORPHAN = 1 ∧ t.maskin = s.maskin) ∧
  (∀ (s : State) (b : Nat),
    s.maskin.ended = some b →
    Answers (.maskComplete) s fun t =>
      t.rd MASKIN_STATUS_MASK_VALID = 1 ∧ t.rd MASKIN_CNT_FRAMES_OK = s.counted MASKIN_CNT_FRAMES_OK ∧ t.maskin.complete = some b ∧
        t.maskin.ended = none) ∧
  (∀ (c : List (Fin 4096)) (a : Int) (s : State),
    s.on FT_STATUS_RUN = true →
    s.ft.fixed = some a →
    s.ft.clear = false →
    s.sa.stopWait = false →
    s.sa.fallback = none →
    s.on MASKIN_CTRL_EN = true →
    s.maskin.complete = none →
    s.maskin.taken = true →
    s.rd MASKIN_HOLD_MASK_HOLD ≤ s.rd MASKIN_STATUS_HOLD_CNT →
    s.rd MASKIN_HOLD_MASK_HOLD < 255 →
    s.on MASKIN_STATUS_SAFE_ACTIVE = false →
    Answers (.frameBoundary c) s fun t =>
      t.rd MASKIN_STATUS_SAFE_ACTIVE = 1 ∧ t.rd MASKIN_STATUS_HOLD_CNT = s.counted MASKIN_STATUS_HOLD_CNT ∧ t.fired 8 ∧ t.hasRaised FLT_MASKIN_SAFE) ∧
  (∀ (c : List (Fin 4096)) (a : Int) (b : Nat) (s : State),
    s.on FT_STATUS_RUN = true →
    s.ft.fixed = some a →
    s.ft.clear = false →
    s.sa.stopWait = false →
    s.sa.fallback = none →
    s.on MASKIN_CTRL_EN = true →
    s.maskin.complete = some b →
    b < 3 →
    s.maskin.completeAt < s.ftT s.ft.m - 4000 →
    s.on MASKIN_STATUS_SAFE_ACTIVE = true →
    Answers (.frameBoundary c) s fun t =>
      t.rd MASKIN_STATUS_SAFE_ACTIVE = 0 ∧ t.rd MASKIN_STATUS_IN_USE = b ∧ t.rd MASKIN_STATUS_HOLD_CNT = 0 ∧ t.maskin.complete = none ∧
        t.maskin.taken = true ∧ t.fired 8) ∧
  (∀ (s : State),
    s.on MASKIN_CTRL_EN = true →
    s.on MASKIN_STATUS_IN_FRAME = true →
    Answers (.maskinLineTimeout) s fun t =>
      t.rd MASKIN_ERR_TIMEOUT = 1 ∧ t.rd MASKIN_STATUS_IN_FRAME = 0 ∧ t.rd MASKIN_CNT_FRAMES_BAD = s.counted MASKIN_CNT_FRAMES_BAD ∧ t.fired 9) ∧
  (∀ (h : Word) (vc dt wc : Nat) (d : List Byte) (c : BitVec 16) (s : State),
    s.csiOn = true →
    csiHeader h = some (vc, dt, wc) →
    vc = 0 →
    s.maskType dt = true →
    s.on MASKIN_STATUS_IN_FRAME = true →
    csiCrc (d.take wc) = c.toNat →
    Answers (.maskinLongPacket h d c) s fun t =>
      t.maskin.lines = s.maskin.lines + 1 ∧ t.rd MASKIN_STATUS_IN_FRAME = s.rd MASKIN_STATUS_IN_FRAME ∧
        ((d.take wc).length ≠ s.rd MASKIN_SIZE_WIDTH → t.rd MASKIN_ERR_LEN = 1 ∧ t.maskin.bad = true) ∧ (s.rd MASKIN_SIZE_HEIGHT ≤ s.maskin.lines →
      t.rd MASKIN_ERR_HEIGHT = 1 ∧ t.maskin.bad = true)) ∧
  (∀ (h : Word) (vc dt wc : Nat) (d : List Byte) (c : BitVec 16) (s : State),
    s.csiOn = true →
    csiHeader h = some (vc, dt, wc) →
    vc = 0 →
    s.maskType dt = true →
    s.on MASKIN_STATUS_IN_FRAME = true →
    csiCrc (d.take wc) ≠ c.toNat →
    Answers (.maskinLongPacket h d c) s fun t =>
      t.rd MASKIN_ERR_CRC = 1 ∧ t.maskin.bad = true ∧ t.maskin.lines = s.maskin.lines) ∧
  (∀ (h : Word) (vc dt wc : Nat) (d : List Byte) (c : BitVec 16) (s : State),
    s.csiOn = true →
    csiHeader h = some (vc, dt, wc) →
    vc = 0 →
    s.maskType dt = true →
    s.on MASKIN_STATUS_IN_FRAME = false →
    Answers (.maskinLongPacket h d c) s fun t =>
      t.rd MASKIN_ERR_ORPHAN = 1 ∧ t.maskin = s.maskin) ∧
  (∀ (h : Word) (vc dt wc : Nat) (d : List Byte) (c : BitVec 16) (s : State),
    s.csiOn = true →
    csiHeader h = some (vc, dt, wc) →
    vc = 0 →
    16 ≤ dt →
    s.maskType dt = false →
    Answers (.maskinLongPacket h d c) s fun t =>
      t.rd MASKIN_ERR_DT = 1 ∧ t.maskin = s.maskin) ∧
  (∀ (h : Word) (vc dt wc : Nat) (d : List Byte) (c : BitVec 16) (s : State),
    s.csiOn = true →
    csiHeader h = some (vc, dt, wc) →
    vc ≠ 0 →
    Answers (.maskinLongPacket h d c) s fun t =>
      t.rd MASKIN_ERR_VC = 1 ∧ t.maskin = s.maskin) ∧
  (∀ (h : Word) (vc dt wc : Nat) (s : State),
    s.csiOn = true →
    csiHeader h = some (vc, dt, wc) →
    (2 ≤ dt ∧ dt ≤ 3) ∨ (8 ≤ dt ∧ dt ≤ 15) →
    Answers (.maskinShortPacket h) s fun t =>
      t = if vc = 0 then s else s.wr MASKIN_ERR_VC 1) ∧
  (∀ (h : Word) (dt wc : Nat) (s : State),
    s.csiOn = true →
    csiHeader h = some (0, dt, wc) →
    4 ≤ dt ∧ dt ≤ 7 →
    Answers (.maskinShortPacket h) s fun t =>
      t = s.wr MASKIN_ERR_DT 1) ∧
  (∀ (h : Word) (s : State),
    s.csiOn = true →
    csiHeader h = none →
    s.on MASKIN_STATUS_IN_FRAME = true →
    Answers (.maskinShortPacket h) s fun t =>
      t.rd MASKIN_ERR_ECC2 = 1 ∧ t.maskin.bad = true) ∧
  (∀ k : Fin 32, csiHeader ((0x3F01F037 : Word) ^^^ BitVec.ofNat 32 (2 ^ k.val)) = some (0, 0x37, 0x1F0)) ∧
  (∀ (s : State),
    s.csiOn = true →
    s.on MASKIN_STATUS_IN_FRAME = true →
    Answers (.maskinHeaderEccError) s fun t =>
      t.rd MASKIN_ERR_ECC2 = 1 ∧ t.maskin.bad = true) ∧
  (∀ (h : Word) (vc dt wc : Nat) (s : State),
    s.csiOn = true →
    csiHeader h = some (vc, dt, wc) →
    16 ≤ dt →
    vc ≠ 0 ∨ s.maskType dt = false →
    Answers (.maskinOtherPacket h) s fun t =>
      (vc ≠ 0 → t.rd MASKIN_ERR_VC = 1) ∧ (s.maskType dt = false → t.rd MASKIN_ERR_DT = 1) ∧ t.maskin = s.maskin) ∧
  (∀ (h : Word) (d : List Byte) (c : BitVec 16) (s : State),
    s.csiOn = false →
    Answers (.maskinLongPacket h d c) s fun t =>
      t = s) ∧
  (∀ (h : Word) (s : State),
    s.csiOn = false →
    Answers (.maskinFrameStart h) s fun t =>
      t = s) ∧
  (∀ (h : Word) (s : State),
    s.csiOn = false →
    Answers (.maskinFrameEnd h) s fun t =>
      t = s)

/-- FT_ENABLE starts frame timing where its conditions hold and sets WERR where one fails; FT_DISABLE takes effect at a boundary. FT_ENABLE
with EN 1 while EN is 0: with the SA enabled, an active image, a running frame time and a first boundary that is near, EN, FT_STATUS.RUN
and SA_STATUS.RUN become 1 and the first boundary is the one that R140 gives; with the SA not enabled, no image, no frame time or a base
too far, EN stays as it is, and WERR becomes 1 with event 5 pending. A write of EN 1 while a clear waits withdraws the clear. FT_DISABLE
clears EN, and while frame timing runs the clear waits for a boundary: FRAME_BOUNDARY then stops it: EN, RUN, STREAMING and SA_STATUS.RUN
are 0. -/
def Obligations.FrameTimingStartsAndStops : Prop :=
  (∀ (m : Master) (v : Word) (s : State) (i : Image),
    s.accepts m 0x200A0000 →
    v.toNat.testBit 0 = true →
    s.ft.clear = false →
    s.on FT_CTRL_EN = false →
    s.on SA_CTRL_EN = true →
    (s.stored m 0x200A0000 v).image = some i →
    (s.stored m 0x200A0000 v).ftRunning = true →
    (s.stored m 0x200A0000 v).baseNear ((s.stored m 0x200A0000 v).ftBase true) = true →
    Answers (.ftEnable m v) s fun t =>
      t.rd FT_CTRL_EN = 1 ∧ t.rd FT_STATUS_RUN = 1 ∧ t.rd SA_STATUS_RUN = 1 ∧ t.ft.m = (s.stored m 0x200A0000 v).firstBoundary ∧
        t.ft.guard = (s.stored m 0x200A0000 v).firstBoundary) ∧
  (∀ (m : Master) (v : Word) (s : State),
    s.accepts m 0x200A0000 →
    v.toNat.testBit 0 = true →
    s.ft.clear = false →
    s.on FT_CTRL_EN = false →
    (s.on SA_CTRL_EN = false ∨ (s.stored m 0x200A0000 v).image = none ∨ (s.stored m 0x200A0000 v).ftRunning = false ∨
      (s.stored m 0x200A0000 v).baseNear ((s.stored m 0x200A0000 v).ftBase true) = false) →
    Answers (.ftEnable m v) s fun t =>
      t.rd FT_CTRL_EN = 0 ∧ t.rd FT_STATUS_WERR = 1 ∧ t.fired 5 ∧ t.rd FT_STATUS_RUN = s.rd FT_STATUS_RUN) ∧
  (∀ (m : Master) (v : Word) (s : State),
    s.accepts m 0x200A0000 →
    v.toNat.testBit 0 = true →
    s.ft.clear = true →
    Answers (.ftEnable m v) s fun t =>
      t.rd FT_CTRL_EN = 1 ∧ t.ft.clear = false) ∧
  (∀ (m : Master) (v : Word) (s : State),
    s.accepts m 0x200A0000 →
    v.toNat.testBit 0 = false →
    s.on FT_CTRL_EN = true →
    Answers (.ftDisable m v) s fun t =>
      t.rd FT_CTRL_EN = 0 ∧ t.ft.clear = s.on FT_STATUS_RUN ∧ t.rd FT_STATUS_RUN = s.rd FT_STATUS_RUN) ∧
  (∀ (c : List (Fin 4096)) (a : Int) (s : State),
    s.on FT_STATUS_RUN = true →
    s.ft.fixed = some a →
    s.ft.clear = true →
    Answers (.frameBoundary c) s fun t =>
      t.rd FT_STATUS_RUN = 0 ∧ t.rd FT_CTRL_EN = 0 ∧ t.rd FT_STATUS_STREAMING = 0 ∧ t.rd SA_STATUS_RUN = 0) ∧
  (∀ (c : List (Fin 4096)) (s : State),
    (s.on FT_STATUS_RUN = false ∨ s.ft.fixed = none) →
    Answers (.frameBoundary c) s fun t =>
      t = s)

/-- Frame boundaries, line slots, departures of latches and blanking. BOUNDARY_FIX, once pass A is done, fixes the instant of the boundary.
FRAME_BOUNDARY at a fixed instant, with no stop waiting, shows in FT_FRAME the number of the boundary that passes and starts its line
slots anew. LATCH_DEPARTURE with every line of the stream sent shows the number of the frame in SA_DRV_FRAME and marks the stream latched;
each port that streams, unmuted and open, sends one packet, and one that missed its departure sets PHASE_MISS and fires event 43.
PASS_A_DONE keeps the frame with its completion; a wrong known-answer value sets A_FAIL, counts, fires event 13 and raises FLT_SA_KAL; a
frame already done, or one that waits for the temperatures of the lead, is left as it is. PASS_A_ABANDON drops the frame, goes to the next
boundary, sets ABANDON, fires event 4 and raises FLT_FT_OVERRUN. COMMIT_GUARD captures a committed FT set for the boundary whose guard
passes. NOMINAL_BOUNDARY_PASSED sets LATE once. After a first boundary LINE_SLOT_START counts the slot (from 0) and shows it in FT_LINE,
with IN_BLANK from the first blanking slot on. With a stream that still has lines, a port that lacks its line is an underrun: the lowest
such port and the slot are held, event 3 is pending, and the stream is aborted. START_OF_BLANKING fires event 0 while frame timing runs
after a first boundary, and changes nothing while it does not run. LINE_MATCH fires event 1 once for the line slot that FT_LM held at the
last boundary (that FT_LM is latched there and a slot matches once is the choice of the model, log entry 24), and changes nothing in
another slot or a second time. A line buffer below the watermark makes its port urgent, which FT_STATUS.URGENT shows, and one above it
makes it so no longer. KAL_PASS_B_CHECK, whose operand is the CRC that the fabric made (log entry 7), of a stream whose known-answer line
came out wrong records the failure, raises FLT_SA_KAL and aborts the stream. -/
def Obligations.FrameBoundariesAndLines : Prop :=
  (∀ (s : State),
    s.canFix = true →
    s.ft.stream = none →
    Answers (.boundaryFix) s fun t =>
      t.ft.fixed = some s.boundaryTick ∧ t.ft.phase = (s.boundaryTick - s.ftT s.ft.m).toNat ∧ t.ft.m = s.ft.m) ∧
  (∀ (c : List (Fin 4096)) (a : Int) (s : State),
    s.on FT_STATUS_RUN = true →
    s.ft.fixed = some a →
    s.ft.clear = false →
    s.sa.stopWait = false →
    s.sa.fallback = none →
    Answers (.frameBoundary c) s fun t =>
      t.rd FT_FRAME_FRAME_NO = frameNo s.ft.m ∧ t.rd FT_LINE_SLOT = 0 ∧ t.rd FT_LINE_IN_BLANK = 0) ∧
  (∀ (k : BitVec 12) (s : State) (st : Stream) (a : Int),
    s.ft.stream = some st →
    st.aborted = false →
    st.latched = false →
    s.ft.fixed = some a →
    s.info.h ≤ st.lines →
    Answers (.latchDeparture k) s fun t =>
      t.rd SA_DRV_FRAME_FRAME_NO = st.frame.no % 2 ^ 32 ∧ t.ft.stream = some { st with latched := true }) ∧
  (∀ (k : BitVec 12) (p : Fin 12) (s : State) (st : Stream) (a : Int),
    s.ft.stream = some st →
    st.aborted = false →
    st.latched = false →
    s.ft.fixed = some a →
    s.info.h ≤ st.lines →
    s.portStreams st p = true →
    s.txMuted = false →
    s.streamOpen = true →
    s.on (TL_STATUS_FENCED p) = false →
    s.on (LANE_CTRL_IDLE_REQ p) = false →
    s.laneTest (tlLane p) = false →
    Answers (.latchDeparture k) s fun t =>
      (t.port p).out.length = (s.port p).out.length + 1 ∧ (k.getLsbD p = true → t.rd (LANE_STATUS_PHASE_MISS p) = 1 ∧ t.fired 43)) ∧
  (∀ (w : Word) (s : State) (f : Frame) (i : Image),
    s.ft.passA = some f →
    s.image = some i →
    f.done = none →
    s.thermWaits f.no = false →
    s.kalOn = true →
    w.toNat ≠ i.answer f.no 0 →
    Answers (.passADone w) s fun t =>
      t.rd SA_KAL_STATUS_A_FAIL = 1 ∧ t.rd SA_KAL_STATUS_LAST_SEED = f.no % 16 ∧ t.rd SA_KAL_STATUS_FAIL_CNT = s.counted SA_KAL_STATUS_FAIL_CNT ∧
        t.fired 13 ∧ t.hasRaised FLT_SA_KAL) ∧
  (∀ (w : Word) (s : State) (f : Frame) (i : Image),
    s.ft.passA = some f →
    s.image = some i →
    (f.done.isSome || s.thermWaits f.no) = true →
    Answers (.passADone w) s fun t =>
      t = s) ∧
  (∀ (w : Word) (s : State) (f : Frame) (i : Image),
    s.ft.passA = some f →
    s.image = some i →
    f.done = none →
    s.thermWaits f.no = false →
    Answers (.passADone w) s fun t =>
      (∃ g, t.ft.passA = some g ∧ g.no = f.no ∧ g.done.isSome = true)) ∧
  (∀ (s : State) (f : Frame),
    s.ft.passA = some f →
    f.done = none →
    Answers (.passAAbandon) s fun t =>
      t.ft.passA = none ∧ t.ft.m = s.ft.m + 1 ∧ t.rd FT_STATUS_ABANDON = 1 ∧ t.rd FT_CNT0_ABANDON = s.counted FT_CNT0_ABANDON ∧ t.fired 4 ∧
        t.hasRaised FLT_FT_OVERRUN) ∧
  (∀ (s : State),
    s.on FT_STATUS_RUN = true →
    s.ft.guard < s.ft.m + 2 →
    s.on FT_CTRL_COMMIT = true →
    s.ft.cap = none →
    s.ftCode = 0 →
    s.ledBlock 2 = false →
    Answers (.commitGuard) s fun t =>
      t.ft.guard = s.ft.guard + 1 ∧ t.ft.cap = some { boundary := s.ft.guard, now := false, set := s.snap ftFields } ∧
        t.rd FT_CTRL_COMMIT = s.rd FT_CTRL_COMMIT) ∧
  (∀ (s : State),
    s.on FT_STATUS_RUN = true →
    s.ft.m + 2 ≤ s.ft.guard →
    Answers (.commitGuard) s fun t =>
      t = s) ∧
  (∀ (s : State),
    s.on FT_STATUS_RUN = true →
    s.on FT_STATUS_LATE = false →
    Answers (.nominalBoundaryPassed) s fun t =>
      t.rd FT_STATUS_LATE = 1 ∧ t.fired 4) ∧
  (∀ (s : State),
    s.on FT_STATUS_LATE = true →
    Answers (.nominalBoundaryPassed) s fun t =>
      t = s) ∧
  (∀ (k : BitVec 12) (s : State) (a : Int),
    s.on FT_STATUS_RUN = true →
    s.ft.last = some a →
    s.ft.stream = none →
    s.ft.slot = none →
    Answers (.lineSlotStart k) s fun t =>
      t.ft.slot = some 0 ∧ t.rd FT_LINE_SLOT = 0) ∧
  (∀ (k : BitVec 12) (j : Nat) (s : State) (a : Int),
    s.on FT_STATUS_RUN = true →
    s.ft.last = some a →
    s.ft.stream = none →
    s.ft.slot = some j →
    Answers (.lineSlotStart k) s fun t =>
      t.ft.slot = some (j + 1) ∧ t.rd FT_LINE_SLOT = min (j + 1) 0x7FF ∧ (t.on FT_LINE_IN_BLANK = true ↔ s.info.h ≤ j + 1)) ∧
  (∀ (k : BitVec 12) (j : Nat) (s : State) (a : Int) (st : Stream) (i : Image) (p : Fin 12) (l : List (Fin 12)),
    s.on FT_STATUS_RUN = true →
    s.ft.last = some a →
    s.ft.stream = some st →
    s.ft.slot = some j →
    s.imageB = some i →
    st.aborted = false →
    j + 1 < i.info.h →
    s.lackingPorts st k = p :: l →
    Answers (.lineSlotStart k) s fun t =>
      t.rd FT_UR_INFO_PORT = p ∧ t.rd FT_UR_INFO_LINE = j + 1 ∧ t.rd FT_CNT1_UR = s.counted FT_CNT1_UR ∧ t.rd FT_STATUS_STREAMING = 0 ∧ t.fired 3 ∧
        (t.ft.stream.map (·.aborted)) = some true ∧ t.ft.restart = true) ∧
  (∀ (k : BitVec 12) (s : State),
    (s.on FT_STATUS_RUN = false ∨ s.ft.last = none) →
    Answers (.lineSlotStart k) s fun t =>
      t = s) ∧
  (∀ (s : State) (a : Int),
    s.on FT_STATUS_RUN = true →
    s.ft.last = some a →
    Answers (.startOfBlanking) s fun t =>
      t.fired 0) ∧
  (∀ (s : State),
    s.on FT_STATUS_RUN = true →
    s.ft.slot = some s.ft.lm →
    s.ft.lmFired = false →
    Answers (.lineMatch) s fun t =>
      t.fired 1 ∧ t.ft.lmFired = true) ∧
  (∀ (s : State),
    s.on FT_STATUS_RUN = false →
    Answers (.startOfBlanking) s fun t =>
      t = s) ∧
  (∀ (s : State),
    (s.on FT_STATUS_RUN = false ∨ s.ft.slot ≠ some s.ft.lm ∨ s.ft.lmFired = true) →
    Answers (.lineMatch) s fun t =>
      t = s) ∧
  (∀ (p : Fin 12) (n : Fin 5) (s : State),
    (n : Nat) < max 1 (s.rd FT_WMARK_WMARK) →
    Answers (.lineBufferWatermark p n) s fun t =>
      t.ft.urgent[p] = true ∧ t.rd FT_STATUS_URGENT = 1) ∧
  (∀ (p : Fin 12) (n : Fin 5) (s : State),
    max 1 (s.rd FT_WMARK_WMARK) + 1 ≤ (n : Nat) →
    Answers (.lineBufferWatermark p n) s fun t =>
      t.ft.urgent[p] = false) ∧
  (∀ (c : Word) (s : State) (st : Stream) (i : Image),
    s.ft.stream = some st →
    s.imageB = some i →
    s.kalOn = true →
    st.aborted = false →
    st.frame.drv.wb = false →
    (s.sa.kalB || c.toNat != i.answer st.frame.no 4) = true →
    Answers (.kalPassBCheck c) s fun t =>
      t.rd SA_KAL_STATUS_B_FAIL = 1 ∧ t.rd SA_KAL_STATUS_LAST_SEED = st.frame.no % 16 ∧
        t.rd SA_KAL_STATUS_FAIL_CNT = s.counted SA_KAL_STATUS_FAIL_CNT ∧ t.hasRaised FLT_SA_KAL ∧ t.rd FT_STATUS_STREAMING = 0 ∧
      (t.ft.stream.map (·.aborted)) = some true ∧ t.sa.kalB = false)

/-- Time domains: reads, steps and rate adjustments, and the adjustments that frame timing sees. FT_NEXT_NS_READ latches the seconds of the
next boundary and shows its time. TIME_ADJUST_APPLY of a domain with a command that waits clears the command bit and its STEP_PEND flag; a
time that R306 allows is taken and fires event 61; one that R306 does not allow leaves the time and sets WERR. SWITCH_PEND_APPLY of a
source that is enabled makes it the source of frame time with Δ 0, clears SWITCH_PEND and fires event 60, and raises FLT_TIME_STEP while
frame timing runs; of one that is not enabled it only clears SWITCH_PEND and sets WERR (the choice of the model, log entry 48); with no
switch waiting it changes nothing. TIME_DOMAIN_EN with EN 1 enables the domain; with EN 0 it disables it, but not the running source of a
running frame timing, where WERR is set with event 62. TIME_LOAD and TIME_STEP with a lawful operand and no command waiting keep the
command and set their bit; an unlawful operand, or a command that still waits, sets WERR with event 62 and changes no domain.
FT_SOURCE_SWITCH to an enabled domain with frame timing off takes the domain as source at once with Δ 0 and fires event 60; with frame
timing running it does so with Δ the difference up to 1,000 ns, and beyond that it waits with SWITCH_PEND and the source as it was. A
domain not enabled, or a switch while one waits, sets WERR with event 62. TIME_SLEW_STEP takes Δ one nanosecond towards 0. TIME_NS_READ of
NS shows the nanoseconds and holds the seconds; a read of a half shows its half of what is held, which ends with the second half, or of
the live seconds with nothing held. -/
def Obligations.TimeDomainsAndAdjustments : Prop :=
  (∀ (s : State),
    Answers (.ftNextNsRead) s fun t =>
      t.rd FT_NEXT_NS_NS = ((s.ftT s.ft.m).toNat * 5 / 2) % giga ∧ t.rd FT_NEXT_SEC_LO_SEC = ((s.ftT s.ft.m).toNat * 5 / 2) / giga % 2 ^ 32 ∧
        t.ft.nextLo = some (((s.ftT s.ft.m).toNat * 5 / 2) / giga % 2 ^ 32) ∧
      t.ft.nextHi = some (((s.ftT s.ft.m).toNat * 5 / 2) / giga / 2 ^ 32 % 2 ^ 16)) ∧
  (∀ (d : Fin 2) (s : State),
    (s.td d).cmd = none →
    Answers (.timeAdjustApply d) s fun t =>
      t = s) ∧
  (∀ (d : Fin 2) (s : State) (c : AdjCmd) (x : Nat),
    (s.td d).cmd = some c →
    (s.td d).adjusted c = some x →
    Answers (.timeAdjustApply d) s fun t =>
      (t.td d).cmd = none ∧ (t.td d).t = x ∧ t.fired 61 ∧ t.rd (if c.load then (TIME_D_CTRL_LOAD d) else (TIME_D_CTRL_STEP d)) = 0 ∧
        t.rd (stepPend d) = 0) ∧
  (∀ (d : Fin 2) (s : State) (c : AdjCmd),
    (s.td d).cmd = some c →
    (s.td d).adjusted c = none →
    Answers (.timeAdjustApply d) s fun t =>
      (t.td d).cmd = none ∧ (t.td d).t = (s.td d).t ∧ t.rd (if c.load then (TIME_D_CTRL_LOAD d) else (TIME_D_CTRL_STEP d)) = 0 ∧
        t.rd (stepPend d) = 0 ∧ t.rd TIME_STATUS_WERR = 1) ∧
  (∀ (s : State),
    s.on TIME_STATUS_SWITCH_PEND = true →
    s.tdOn (Fin.ofNat 2 (s.rd TIME_CTRL_FT_SEL)) = false →
    Answers (.switchPendApply) s fun t =>
      t.rd TIME_STATUS_SWITCH_PEND = 0 ∧ t.rd TIME_STATUS_FT_SRC = s.rd TIME_STATUS_FT_SRC ∧ t.rd TIME_STATUS_WERR = 1 ∧ t.time = s.time) ∧
  (∀ (s : State),
    s.on TIME_STATUS_SWITCH_PEND = true →
    s.tdOn (Fin.ofNat 2 (s.rd TIME_CTRL_FT_SEL)) = true →
    s.on FT_STATUS_RUN = true →
    Answers (.switchPendApply) s fun t =>
      t.rd TIME_STATUS_SWITCH_PEND = 0 ∧ t.rd TIME_STATUS_FT_SRC = s.rd TIME_CTRL_FT_SEL % 2 ∧ t.time.delta = 0 ∧ t.fired 60 ∧
        t.hasRaised FLT_TIME_STEP) ∧
  (∀ (s : State),
    s.on TIME_STATUS_SWITCH_PEND = true →
    s.tdOn (Fin.ofNat 2 (s.rd TIME_CTRL_FT_SEL)) = true →
    s.on FT_STATUS_RUN = false →
    Answers (.switchPendApply) s fun t =>
      t.rd TIME_STATUS_SWITCH_PEND = 0 ∧ t.rd TIME_STATUS_FT_SRC = s.rd TIME_CTRL_FT_SEL % 2 ∧ t.time.delta = 0 ∧ t.fired 60) ∧
  (∀ (s : State),
    s.on TIME_STATUS_SWITCH_PEND = false →
    Answers (.switchPendApply) s fun t =>
      t = s) ∧
  (∀ (d : Fin 2) (m : Master) (v : Word) (s : State),
    s.accepts m (0x20130100 + d.val * 0x40) →
    v.toNat.testBit 0 = true →
    Answers (.timeDomainEn d m v) s fun t =>
      t.rd (TIME_D_CTRL_EN d) = 1) ∧
  (∀ (d : Fin 2) (m : Master) (v : Word) (s : State),
    s.accepts m (0x20130100 + d.val * 0x40) →
    v.toNat.testBit 0 = false →
    s.on FT_STATUS_RUN = false →
    Answers (.timeDomainEn d m v) s fun t =>
      t.rd (TIME_D_CTRL_EN d) = 0) ∧
  (∀ (d : Fin 2) (m : Master) (v : Word) (s : State),
    s.accepts m (0x20130100 + d.val * 0x40) →
    v.toNat.testBit 0 = false →
    s.on (TIME_D_CTRL_EN d) = true →
    (s.stored m (0x20130100 + d.val * 0x40) v).ftSrc = d →
    s.on FT_STATUS_RUN = true →
    Answers (.timeDomainEn d m v) s fun t =>
      t.rd (TIME_D_CTRL_EN d) = s.rd (TIME_D_CTRL_EN d) ∧ t.rd TIME_STATUS_WERR = 1 ∧ t.fired 62) ∧
  (∀ (d : Fin 2) (m : Master) (v : Word) (s : State) (c : AdjCmd),
    s.accepts m (0x20130100 + d.val * 0x40) →
    v.toNat.testBit 1 = true →
    (s.td d).cmd = none →
    (s.stored m (0x20130100 + d.val * 0x40) v).adjLoad d = some c →
    Answers (.timeLoad d m v) s fun t =>
      t.rd (TIME_D_CTRL_LOAD d) = 1 ∧ (t.td d).cmd = some c) ∧
  (∀ (d : Fin 2) (m : Master) (v : Word) (s : State),
    s.accepts m (0x20130100 + d.val * 0x40) →
    v.toNat.testBit 1 = true →
    (s.stored m (0x20130100 + d.val * 0x40) v).adjLoad d = none →
    Answers (.timeLoad d m v) s fun t =>
      t.rd TIME_STATUS_WERR = 1 ∧ t.fired 62 ∧ t.time = s.time) ∧
  (∀ (d : Fin 2) (m : Master) (v : Word) (s : State) (c : AdjCmd),
    s.accepts m (0x20130100 + d.val * 0x40) →
    v.toNat.testBit 2 = true →
    (s.td d).cmd = none →
    (s.stored m (0x20130100 + d.val * 0x40) v).adjStep d = some c →
    Answers (.timeStep d m v) s fun t =>
      t.rd (TIME_D_CTRL_STEP d) = 1 ∧ (t.td d).cmd = some c) ∧
  (∀ (d : Fin 2) (m : Master) (v : Word) (s : State),
    s.accepts m (0x20130100 + d.val * 0x40) →
    v.toNat.testBit 2 = true →
    (s.stored m (0x20130100 + d.val * 0x40) v).adjStep d = none →
    Answers (.timeStep d m v) s fun t =>
      t.rd TIME_STATUS_WERR = 1 ∧ t.fired 62 ∧ t.time = s.time) ∧
  (∀ (m : Master) (v : Word) (d : Fin 2) (s : State),
    s.accepts m 0x20130000 →
    d = Fin.ofNat 2 (bits v.toNat 0 1) →
    s.on (TIME_D_CTRL_EN d) = true →
    s.rd TIME_STATUS_FT_SRC = 1 - d.val →
    s.on TIME_STATUS_SWITCH_PEND = false →
    s.on FT_STATUS_RUN = false →
    Answers (.ftSourceSwitch m v) s fun t =>
      t.rd TIME_STATUS_FT_SRC = d ∧ t.rd TIME_CTRL_FT_SEL = d ∧ t.time.delta = 0 ∧ t.fired 60) ∧
  (∀ (d : Fin 2) (m : Master) (v : Word) (s : State),
    s.accepts m (0x20130100 + d.val * 0x40) →
    v.toNat.testBit 1 = true →
    (s.td d).cmd.isSome = true →
    Answers (.timeLoad d m v) s fun t =>
      t.rd TIME_STATUS_WERR = 1 ∧ t.fired 62 ∧ t.time = s.time) ∧
  (∀ (d : Fin 2) (m : Master) (v : Word) (s : State),
    s.accepts m (0x20130100 + d.val * 0x40) →
    v.toNat.testBit 2 = true →
    (s.td d).cmd.isSome = true →
    Answers (.timeStep d m v) s fun t =>
      t.rd TIME_STATUS_WERR = 1 ∧ t.fired 62 ∧ t.time = s.time) ∧
  (∀ (m : Master) (v : Word) (d : Fin 2) (s : State),
    s.accepts m 0x20130000 →
    d = Fin.ofNat 2 (bits v.toNat 0 1) →
    s.on (TIME_D_CTRL_EN d) = true →
    s.rd TIME_STATUS_FT_SRC = 1 - d.val →
    s.on TIME_STATUS_SWITCH_PEND = false →
    s.on FT_STATUS_RUN = true →
    1000 * nsUnit < (s.frameTime - (s.td d).t).natAbs →
    Answers (.ftSourceSwitch m v) s fun t =>
      t.rd TIME_STATUS_SWITCH_PEND = 1 ∧ t.rd TIME_CTRL_FT_SEL = d ∧ t.rd TIME_STATUS_FT_SRC = s.rd TIME_STATUS_FT_SRC ∧ t.time = s.time) ∧
  (∀ (m : Master) (v : Word) (d : Fin 2) (s : State),
    s.accepts m 0x20130000 →
    d = Fin.ofNat 2 (bits v.toNat 0 1) →
    s.on (TIME_D_CTRL_EN d) = true →
    s.rd TIME_STATUS_FT_SRC = 1 - d.val →
    s.on TIME_STATUS_SWITCH_PEND = false →
    s.on FT_STATUS_RUN = true →
    (s.frameTime - (s.td d).t).natAbs ≤ 1000 * nsUnit →
    Answers (.ftSourceSwitch m v) s fun t =>
      t.rd TIME_STATUS_FT_SRC = d ∧ t.rd TIME_CTRL_FT_SEL = d ∧ t.time.delta = s.frameTime - (s.td d).t ∧ t.fired 60) ∧
  (∀ (m : Master) (v : Word) (d : Fin 2) (s : State),
    s.accepts m 0x20130000 →
    d = Fin.ofNat 2 (bits v.toNat 0 1) →
    s.on TIME_STATUS_SWITCH_PEND = true →
    Answers (.ftSourceSwitch m v) s fun t =>
      t.rd TIME_STATUS_WERR = 1 ∧ t.fired 62 ∧ t.rd TIME_STATUS_FT_SRC = s.rd TIME_STATUS_FT_SRC ∧ t.time = s.time) ∧
  (∀ (m : Master) (v : Word) (d : Fin 2) (s : State),
    s.accepts m 0x20130000 →
    d = Fin.ofNat 2 (bits v.toNat 0 1) →
    s.rd TIME_STATUS_FT_SRC = 1 - d.val →
    s.on (TIME_D_CTRL_EN d) = false →
    Answers (.ftSourceSwitch m v) s fun t =>
      t.rd TIME_STATUS_WERR = 1 ∧ t.fired 62 ∧ t.rd TIME_STATUS_FT_SRC = s.rd TIME_STATUS_FT_SRC) ∧
  (∀ (s : State),
    s.time.delta = 0 →
    Answers (.timeSlewStep) s fun t =>
      t = s) ∧
  (∀ (s : State),
    1 * nsUnit < s.time.delta →
    Answers (.timeSlewStep) s fun t =>
      t.time.delta = s.time.delta - nsUnit) ∧
  (∀ (s : State),
    s.time.delta < -(1 * nsUnit : Int) →
    Answers (.timeSlewStep) s fun t =>
      t.time.delta = s.time.delta + nsUnit) ∧
  (∀ (d : Fin 2) (s : State),
    Answers (.timeNsRead d .ns) s fun t =>
      t.rd (TIME_D_NS_N d) = (s.td d).n % 2 ^ (TIME_D_NS_N d).width ∧ (t.td d).held = some (s.td d).sec) ∧
  (∀ (d : Fin 2) (s : State) (x : Nat),
    (s.td d).held = some x →
    Answers (.timeNsRead d .secLo) s fun t =>
      t.rd (TIME_D_SEC_LO_SEC d) = x % 2 ^ 32 ∧ (t.td d).held = if (s.td d).readHi then none else some x) ∧
  (∀ (d : Fin 2) (s : State) (x : Nat),
    (s.td d).held = some x →
    Answers (.timeNsRead d .secHi) s fun t =>
      t.rd (TIME_D_SEC_HI_SEC d) = x / 2 ^ 32 % 2 ^ (TIME_D_SEC_HI_SEC d).width ∧ (t.td d).held = if (s.td d).readLo then none else some x) ∧
  (∀ (d : Fin 2) (s : State),
    (s.td d).held = none →
    Answers (.timeNsRead d .secLo) s fun t =>
      t.rd (TIME_D_SEC_LO_SEC d) = (s.td d).sec % 2 ^ 32)

/-- TL ports: enable starts training, a clear outside STREAMING goes to DOWN, a clear in STREAMING sets WERR; retrain, fence and claim.
TL_ENABLE with EN 1 on a port that is off sets EN, and on a mapped port that is neither fenced nor held starts training: TRAINING, VER 0,
the lane lock awaited. With EN 0 outside STREAMING, EN is cleared and the port goes to DOWN; in STREAMING, EN stays and WERR is set.
TL_RETRAIN trains an enabled port anew. TL_FENCE sets FENCED, and STATE reads DOWN (no code of STATE stands for a fence: the model's
choice, log entry 19). TL_CLAIM sends CLAIM_EPOCH with the epoch of the port. AUTO_RETRAIN_TIMER trains an enabled port in DOWN or FAILED
that has AUTO_RETRAIN, and leaves a port without EN or AUTO_RETRAIN, or in another state, as it is. -/
def Obligations.TlPortLifecycle : Prop :=
  (∀ (p : Fin 12) (m : Master) (v : Word) (s : State),
    s.accepts m (tlAddr p) →
    v.toNat.testBit 0 = true →
    s.on (TL_CTRL_EN p) = false →
    (((s.stored m (tlAddr p) v).wr (TL_CTRL_EN p) 1).showLane (tlLane p)).isMapped p = true →
    (((s.stored m (tlAddr p) v).wr (TL_CTRL_EN p) 1).showLane (tlLane p)).tlHeld p = false →
    s.on (TL_STATUS_FENCED p) = false →
    Answers (.tlEnable p m v) s fun t =>
      t.rd (TL_CTRL_EN p) = 1 ∧ t.tlState p = 1 ∧ (t.port p).train = .lock ∧ t.rd (TL_STATUS_VER p) = 0) ∧
  (∀ (p : Fin 12) (m : Master) (v : Word) (s : State),
    s.accepts m (tlAddr p) →
    v.toNat.testBit 0 = true →
    s.on (TL_CTRL_EN p) = true →
    Answers (.tlEnable p m v) s fun t =>
      t = s.stored m (tlAddr p) v) ∧
  (∀ (p : Fin 12) (m : Master) (v : Word) (s : State),
    s.accepts m (tlAddr p) →
    v.toNat.testBit 0 = false →
    s.on (TL_CTRL_EN p) = true →
    s.tlState p ≠ 3 →
    Answers (.tlEnable p m v) s fun t =>
      t.rd (TL_CTRL_EN p) = 0 ∧ t.tlState p = 0) ∧
  (∀ (p : Fin 12) (m : Master) (v : Word) (s : State),
    s.accepts m (tlAddr p) →
    v.toNat.testBit 0 = false →
    s.tlState p = 3 →
    Answers (.tlEnable p m v) s fun t =>
      t.rd (TL_CTRL_EN p) = s.rd (TL_CTRL_EN p) ∧ t.rd (TL_STATUS_WERR p) = 1 ∧ t.fired (17 + 2 * p) ∧ t.tlState p = 3) ∧
  (∀ (p : Fin 12) (m : Master) (v : Word) (s : State),
    s.accepts m (tlAddr p) →
    v.toNat.testBit 1 = true →
    s.on (TL_CTRL_EN p) = true →
    (((s.stored m (tlAddr p) v).setPort p { s.port p with mismatch := false }).tlLeave p 0).isMapped p = true →
    (((s.stored m (tlAddr p) v).setPort p { s.port p with mismatch := false }).tlLeave p 0).tlHeld p = false →
    s.on (TL_STATUS_FENCED p) = false →
    Answers (.tlRetrain p m v) s fun t =>
      t.tlState p = 1 ∧ (t.port p).train = .lock ∧ (t.port p).mismatch = false) ∧
  (∀ (p : Fin 12) (m : Master) (v : Word) (s : State),
    s.accepts m (tlAddr p) →
    v.toNat.testBit 9 = true →
    Answers (.tlFence p m v) s fun t =>
      t.rd (TL_STATUS_FENCED p) = 1 ∧ t.rd (TL_CTRL_FENCE p) = 1 ∧ t.tlState p = 0 ∧ (t.port p).train = .none) ∧
  (∀ (p : Fin 12) (m : Master) (v : Word) (s : State),
    s.accepts m (tlAddr p) →
    v.toNat.testBit 8 = true →
    s.on (TL_STATUS_FENCED p) = false →
    s.tlState p = 2 →
    s.on (LANE_CTRL_IDLE_REQ p) = false →
    (s.stored m (tlAddr p) v).laneTest (tlLane p) = false →
    Answers (.tlClaim p m v) s fun t =>
      (t.port p).out = (s.port p).out ++ [tlPacket 0x40 0 (s.rd (TL_EPOCH_EPOCH p)) 0 (leBytes 3 (s.rd (TL_EPOCH_EPOCH p)) ++ List.replicate 5 0)]) ∧
  (∀ (p : Fin 12) (s : State),
    s.on (TL_CTRL_EN p) = true →
    s.on (TL_CTRL_AUTO_RETRAIN p) = true →
    s.tlState p = 0 ∨ s.tlState p = 5 →
    s.on (TL_STATUS_FENCED p) = false →
    s.isMapped p = true →
    s.tlHeld p = false →
    Answers (.autoRetrainTimer p) s fun t =>
      t.tlState p = 1 ∧ (t.port p).train = .lock) ∧
  (∀ (p : Fin 12) (s : State),
    s.on (TL_CTRL_EN p) = false ∨ s.on (TL_CTRL_AUTO_RETRAIN p) = false ∨ (s.tlState p ≠ 0 ∧ s.tlState p ≠ 5) →
    Answers (.autoRetrainTimer p) s fun t =>
      t = s)

/-- Tile ports: training from CAPS to READY, probes, and the upload of house light. In TRAINING with CAPS awaited, TRAINING_CAPS_SEND sends
the unit's CAPS, CAPS_RX of a good CAPS packet shows its fields and goes on to the latency probe (or, where both ends allow the higher
rate, to the relock, with the lane at that rate and unlocked), one that disagrees fails with its code, and the timeout fails with code 1.
RATE_RELOCK with a lock and an eye of at least EYE_MIN sets RATE and goes on to the probe with the lane LOCKED; without, it records code 6
and goes back to the lower rate. LATENCY_PROBE_SET sends its probes, stores the round trip and the latch delay and sends CONFIG with the
settings of the port, or fails with code 5 with a delay beyond 204,800 units of 1/128 ns (1.6 µs). CONFIG_OK_TIMEOUT fails with code 8.
None of them has an effect on a port that is not at that step, but for a CAPS: in TRAINING at a later step, SILENT or FAILED it shows its
fields (log entry 31), in READY and STREAMING it takes the port to DOWN too, with FLT_TL_LINK from STREAMING, and in DOWN it does nothing.
FB_START on a port in READY whose tile this unit owns, with the image readable, sends the upload on an unmuted port (the header with the
CRC of the image, a packet per line, the end), keeps its CRC and sets FB_START; on a port in another state or of another owner it sets
WERR; with part of the image unreadable it sets FB_ERR. while an upload runs nothing starts. FB_REPLY_RX of type 0x80 with the CRC sent
sets FB_DONE, one of type 0x80 with another CRC or of type 0x81 FB_ERR; each clears FB_START. FB_TIMEOUT of an upload in progress sets
FB_ERR and clears FB_START. -/
def Obligations.TlTrainingAndUpload : Prop :=
  (∀ (p : Fin 12) (s : State),
    s.tlState p = 1 →
    (s.port p).train = .caps →
    s.on (TL_STATUS_FENCED p) = false →
    s.on (LANE_CTRL_IDLE_REQ p) = false →
    s.laneTest (tlLane p) = false →
    Answers (.trainingCapsSend p) s fun t =>
      (t.port p).out = (s.port p).out ++ [tlPacket 0x01 0 (s.rd (TL_EPOCH_EPOCH p)) 0 (leBytes 1 (if s.on (TL_CTRL_V2_EN p) then 0x20 else 0x10) ++
        [3] ++ leBytes 1 p ++ List.replicate 61 0)]) ∧
  (∀ (p : Fin 12) (s : State),
    s.tlState p ≠ 1 ∨ (s.port p).train ≠ .caps →
    Answers (.trainingCapsSend p) s fun t =>
      t = s) ∧
  (∀ (p : Fin 12) (d c : List Byte) (s : State),
    s.tlReaches p d = true →
    s.tlState p = 1 →
    (s.port p).train = .caps →
    tlPayload 0x01 (· == 64) d = some c →
    (s.showCaps p c).capsCode p = 0 →
    (byteAt c 1).testBit 1 = false →
    Answers (.capsRx p d) s fun t =>
      (t.port p).train = .probe ∧ t.tlState p = 1 ∧ t.rd (TL_TILE_GEOM_WIDTH p) = leAt c 2 2 % 2 ^ (TL_TILE_GEOM_WIDTH p).width ∧
        t.rd (TL_STATUS_VER p) = (if min (if s.on (TL_CTRL_V2_EN p) then 0x20 else 0x10) (byteAt c 0) < 0x20 then 1 else 2)) ∧
  (∀ (p : Fin 12) (d c : List Byte) (s : State),
    s.tlState p = 1 →
    (s.port p).train = .caps →
    s.tlReaches p d = true →
    tlPayload 0x01 (· == 64) d = some c →
    (s.showCaps p c).capsCode p = 0 →
    (byteAt c 1).testBit 1 = true →
    s.on (TL_CTRL_RATE_MAX p) = true →
    Answers (.capsRx p d) s fun t =>
      (t.port p).train = .relock ∧ t.tlState p = 1 ∧ t.rd (LANE_STATUS_RATE p) = 1 ∧ t.rd (LANE_STATUS_STATE p) = 3 ∧
        t.rd (LANE_STATUS_CDR_LOCK p) = 0 ∧ t.rd (LANE_STATUS_BLOCK_LOCK p) = 0) ∧
  (∀ (p : Fin 12) (d c : List Byte) (s : State),
    s.tlReaches p d = true →
    s.tlState p = 1 →
    (s.port p).train = .caps →
    tlPayload 0x01 (· == 64) d = some c →
    (s.showCaps p c).capsCode p ≠ 0 →
    Answers (.capsRx p d) s fun t =>
      t.tlState p = 5 ∧ t.rd (TL_TRAIN_ERR_CODE p) = (s.showCaps p c).capsCode p % 2 ^ (TL_TRAIN_ERR_CODE p).width ∧ t.hasRaised FLT_TL_TRAIN) ∧
  (∀ (p : Fin 12) (s : State),
    s.tlState p = 1 →
    (s.port p).train = .caps →
    Answers (.capsTimeout p) s fun t =>
      t.tlState p = 5 ∧ t.rd (TL_TRAIN_ERR_CODE p) = 1 ∧ t.hasRaised FLT_TL_TRAIN ∧ (t.port p).train = .none) ∧
  (∀ (p : Fin 12) (s : State),
    s.tlState p ≠ 1 ∨ (s.port p).train ≠ .caps →
    Answers (.capsTimeout p) s fun t =>
      t = s) ∧
  (∀ (p : Fin 12) (e : Option (Fin 65 × Fin 65)) (s : State),
    s.tlState p ≠ 1 ∨ (s.port p).train ≠ .relock →
    Answers (.rateRelock p e) s fun t =>
      t = s) ∧
  (∀ (p : Fin 12) (l : List Nat) (s : State),
    s.tlState p ≠ 1 ∨ (s.port p).train ≠ .probe →
    Answers (.latencyProbeSet p l) s fun t =>
      t = s) ∧
  (∀ (p : Fin 12) (s : State),
    s.tlState p ≠ 1 ∨ (s.port p).train ≠ .config →
    Answers (.configOkTimeout p) s fun t =>
      t = s) ∧
  (∀ (p : Fin 12) (d c : List Byte) (s : State),
    s.tlReaches p d = true →
    tlPayload 0x01 (· == 64) d = some c →
    (s.tlState p = 1 ∧ (s.port p).train ≠ .caps) ∨ s.tlState p = 4 ∨ s.tlState p = 5 →
    Answers (.capsRx p d) s fun t =>
      t = s.showCaps p c) ∧
  (∀ (p : Fin 12) (d c : List Byte) (s : State),
    s.tlReaches p d = true →
    tlPayload 0x01 (· == 64) d = some c →
    s.tlUp p = true →
    Answers (.capsRx p d) s fun t =>
      t.tlState p = 0 ∧ t.rd (TL_TILE_GEOM_WIDTH p) = leAt c 2 2 % 2 ^ (TL_TILE_GEOM_WIDTH p).width ∧ (s.tlState p = 3 → t.hasRaised FLT_TL_LINK)) ∧
  (∀ (p : Fin 12) (d c : List Byte) (s : State),
    s.tlReaches p d = true →
    tlPayload 0x01 (· == 64) d = some c →
    s.tlState p = 0 →
    Answers (.capsRx p d) s fun t =>
      t = s) ∧
  (∀ (p : Fin 12) (h v : Fin 65) (s : State),
    s.tlState p = 1 →
    (s.port p).train = .relock →
    s.rd (LANE_THRESH_EYE_MIN p) ≤ eyeScore h v →
    Answers (.rateRelock p (some (h, v))) s fun t =>
      (t.port p).train = .probe ∧ t.rd (TL_STATUS_RATE p) = 1 ∧ t.rd (LANE_STATUS_BLOCK_LOCK p) = 1 ∧ t.rd (LANE_STATUS_CDR_LOCK p) = 1 ∧
        t.rd (LANE_STATUS_STATE p) = 5) ∧
  (∀ (p : Fin 12) (e : Option (Fin 65 × Fin 65)) (s : State),
    s.tlState p = 1 →
    (s.port p).train = .relock →
    ∀ x ∈ e, eyeScore x.1 x.2 < s.rd (LANE_THRESH_EYE_MIN p) →
    Answers (.rateRelock p e) s fun t =>
      (t.port p).train = .relockSlow ∧ t.rd (TL_TRAIN_ERR_CODE p) = 6 ∧ t.rd (LANE_STATUS_RATE p) = 0 ∧ t.rd (LANE_STATUS_BLOCK_LOCK p) = 0 ∧
        t.rd (LANE_STATUS_CDR_LOCK p) = 0 ∧ t.rd (LANE_STATUS_STATE p) = 3) ∧
  (∀ (p : Fin 12) (l : List Nat) (s : State),
    s.tlState p = 1 →
    (s.port p).train = .probe →
    204800 < (s.tlProbe p l).dkOf p →
    Answers (.latencyProbeSet p l) s fun t =>
      t.tlState p = 5 ∧ t.rd (TL_TRAIN_ERR_CODE p) = 5 ∧ t.hasRaised FLT_TL_TRAIN) ∧
  (∀ (p : Fin 12) (l : List Nat) (s : State),
    s.tlState p = 1 →
    (s.port p).train = .probe →
    (s.tlProbe p l).dkOf p ≤ 204800 →
    Answers (.latencyProbeSet p l) s fun t =>
      (t.port p).train = .config ∧ t.tlState p = 1 ∧
        t.rd (TL_RTT_RT p) = min (2 ^ 24 - 1) (meanRtt l * (if s.on (TL_STATUS_RATE p) then 20 else 40)) ∧
      t.rd (TL_LATDLY_DK p) = (s.tlProbe p l).dkOf p % 2 ^ (TL_LATDLY_DK p).width) ∧
  (∀ (p : Fin 12) (l : List Nat) (i : Image) (s : State),
    s.tlState p = 1 →
    (s.port p).train = .probe →
    (s.tlProbe p l).dkOf p ≤ 204800 →
    s.on (TL_STATUS_FENCED p) = false →
    s.on (LANE_CTRL_IDLE_REQ p) = false →
    s.laneTest (tlLane p) = false →
    s.image = some i →
    Answers (.latencyProbeSet p l) s fun t =>
      (t.port p).out = ((s.tlProbe p l).port p).out ++ [tlPacket 0x02 0 (s.rd (TL_EPOCH_EPOCH p)) 0 (leBytes 1 (if s.tlV2 p then 0x20 else 0x10) ++
        leBytes 1 (s.rd (TL_STATUS_RATE p)) ++ leBytes 1 (if s.tlV2 p then s.rd (TL_CTRL_RLE_EN p) + 2 * s.rd (TL_CTRL_BULK_EN p) else 0) ++ leBytes
      1 p ++ leBytes 1 i.mode ++ [0] ++ leBytes 2 ((s.mode.map ModeInfo.rate).getD 0) ++ leBytes 2 (max 5 (min 200 (s.rd (TL_CFG_TLOSS_MS p)))) ++
        leBytes 2 (max 1 (min 100 (s.rd (TL_CFG_HEALTH_MAX_MS p)))) ++ List.replicate 20 0)]) ∧
  (∀ (p : Fin 12) (s : State),
    s.tlState p = 1 →
    (s.port p).train = .config →
    Answers (.configOkTimeout p) s fun t =>
      t.tlState p = 5 ∧ t.rd (TL_TRAIN_ERR_CODE p) = 8 ∧ t.hasRaised FLT_TL_TRAIN) ∧
  (∀ (p : Fin 12) (l : List Nat) (s : State),
    s.tlUp p = true →
    Answers (.periodicProbe p l) s fun t =>
      t.rd (TL_RTT_RT p) = min (2 ^ 24 - 1) (meanRtt l * (if s.on (TL_STATUS_RATE p) then 20 else 40)) ∧ t.tlState p = s.tlState p) ∧
  (∀ (p : Fin 12) (m : Master) (v : Word) (s : State),
    s.accepts m (tlAddr p) →
    v.toNat.testBit 7 = true →
    s.on (TL_CTRL_FB_START p) = false →
    s.tlState p = 2 →
    s.on (TL_STATUS_OWNED p) = false →
    Answers (.fbStart p m v) s fun t =>
      t.rd (TL_STATUS_WERR p) = 1 ∧ t.tl = s.tl) ∧
  (∀ (p : Fin 12) (m : Master) (v : Word) (s : State),
    s.accepts m (tlAddr p) →
    s.on (TL_CTRL_FB_START p) = true →
    Answers (.fbStart p m v) s fun t =>
      t = s.stored m (tlAddr p) v) ∧
  (∀ (p : Fin 12) (m : Master) (v : Word) (s : State),
    s.accepts m (tlAddr p) →
    v.toNat.testBit 7 = true →
    s.on (TL_CTRL_FB_START p) = false →
    s.tlState p ≠ 2 →
    Answers (.fbStart p m v) s fun t =>
      t.rd (TL_STATUS_WERR p) = 1 ∧ t.tl = s.tl) ∧
  (∀ (p : Fin 12) (m : Master) (v : Word) (s : State),
    s.accepts m (tlAddr p) →
    v.toNat.testBit 7 = true →
    s.on (TL_CTRL_FB_START p) = false →
    s.tlState p = 2 →
    s.on (TL_STATUS_OWNED p) = true →
    ((s.stored m (tlAddr p) v).badAt (s.rd (TL_FB_HI_ADDR_HI p) <<< 32 ||| s.rd (TL_FB_LO_ADDR p) <<< 6) (64 + 2 * s.rd (TL_TILE_GEOM_WIDTH p) * s.rd
      (TL_TILE_GEOM_HEIGHT p))).isSome = true →
    Answers (.fbStart p m v) s fun t =>
      t.rd (TL_STATUS_FB_ERR p) = 1 ∧ t.fired (16 + 2 * p)) ∧
  (∀ (p : Fin 12) (m : Master) (v : Word) (s : State) (a : Nat),
    s.accepts m (tlAddr p) →
    v.toNat.testBit 7 = true →
    s.on (TL_CTRL_FB_START p) = false →
    s.tlState p = 2 →
    s.on (TL_STATUS_OWNED p) = true →
    s.rd (TL_FB_HI_ADDR_HI p) <<< 32 ||| s.rd (TL_FB_LO_ADDR p) <<< 6 = a →
    (s.stored m (tlAddr p) v).badAt a (64 + 2 * s.rd (TL_TILE_GEOM_WIDTH p) * s.rd (TL_TILE_GEOM_HEIGHT p)) = none →
    Answers (.fbStart p m v) s fun t =>
      t.rd (TL_CTRL_FB_START p) = 1 ∧ (t.port p).fb.isSome = true) ∧
  (∀ (p : Fin 12) (m : Master) (v : Word) (s : State) (a w h : Nat) (z : List Byte),
    s.accepts m (tlAddr p) →
    v.toNat.testBit 7 = true →
    s.on (TL_CTRL_FB_START p) = false →
    s.tlState p = 2 →
    s.on (TL_STATUS_OWNED p) = true →
    s.rd (TL_FB_HI_ADDR_HI p) <<< 32 ||| s.rd (TL_FB_LO_ADDR p) <<< 6 = a →
    s.rd (TL_TILE_GEOM_WIDTH p) = w →
    s.rd (TL_TILE_GEOM_HEIGHT p) = h →
    (s.stored m (tlAddr p) v).badAt a (64 + 2 * w * h) = none →
    (s.stored m (tlAddr p) v).bytes a 16 = z →
    s.on (TL_STATUS_FENCED p) = false →
    s.on (LANE_CTRL_IDLE_REQ p) = false →
    (s.stored m (tlAddr p) v).laneTest (tlLane p) = false →
    (s.stored m (tlAddr p) v).txMuted = false →
    Answers (.fbStart p m v) s fun t =>
      (t.port p).out = (s.port p).out ++ ([[0, 0, 0,
        0] ++ z ++ leBytes 4 (crc32c (z ++ (List.range h).flatMap fun k => (s.stored m (tlAddr p) v).bytes (a + 64 + 2 * w * k) (2 * w)))] ++
      (List.range h).map (fun k => [1, 0] ++ leBytes 2 k ++ (s.stored m (tlAddr p) v).bytes (a + 64 + 2 * w * k) (2 * w)) ++ [[2, 0, 0,
        0]]).map (tlPacket 0x30 0 (s.rd (TL_EPOCH_EPOCH p)) 0)) ∧
  (∀ (p : Fin 12) (d c : List Byte) (k : Nat) (s : State),
    s.tlReaches p d = true →
    s.tlHears p = true →
    tlPayload 0x30 (· == 12) d = some c →
    (s.port p).fb = some k →
    byteAt c 0 = 0x80 →
    leAt c 4 4 = k →
    Answers (.fbReplyRx p d) s fun t =>
      t.rd (TL_STATUS_FB_DONE p) = 1 ∧ t.rd (TL_CTRL_FB_START p) = 0 ∧ (t.port p).fb = none ∧ t.fired (16 + 2 * p)) ∧
  (∀ (p : Fin 12) (d c : List Byte) (k : Nat) (s : State),
    s.tlReaches p d = true →
    s.tlHears p = true →
    tlPayload 0x30 (· == 12) d = some c →
    (s.port p).fb = some k →
    byteAt c 0 = 0x81 →
    Answers (.fbReplyRx p d) s fun t =>
      t.rd (TL_STATUS_FB_ERR p) = 1 ∧ t.rd (TL_CTRL_FB_START p) = 0 ∧ (t.port p).fb = none ∧ t.fired (16 + 2 * p)) ∧
  (∀ (p : Fin 12) (d c : List Byte) (k : Nat) (s : State),
    s.tlReaches p d = true →
    s.tlHears p = true →
    tlPayload 0x30 (· == 12) d = some c →
    (s.port p).fb = some k →
    byteAt c 0 = 0x80 →
    leAt c 4 4 ≠ k →
    Answers (.fbReplyRx p d) s fun t =>
      t.rd (TL_STATUS_FB_ERR p) = 1 ∧ t.rd (TL_CTRL_FB_START p) = 0 ∧ (t.port p).fb = none ∧ t.fired (16 + 2 * p)) ∧
  (∀ (p : Fin 12) (s : State),
    (s.port p).fb.isSome = true →
    Answers (.fbTimeout p) s fun t =>
      t.rd (TL_STATUS_FB_ERR p) = 1 ∧ t.rd (TL_CTRL_FB_START p) = 0 ∧ (t.port p).fb = none) ∧
  (∀ (p : Fin 12) (s : State),
    (s.port p).fb = none →
    Answers (.fbTimeout p) s fun t =>
      t = s)

/-- Upstream packets and timeouts of a tile link that is up. HEALTH_RX of a good HEALTH packet on a port that is up shows its frame number and
status, ends the wait for the cap message it acknowledges, and in the last step of training takes the port to READY. A malformed packet is
counted in CNT0.DROP and nothing else. STALE_REPLY_RX with its flag set sets STALE, counts and raises FLT_TL_STALE. CAPACK_TIMEOUT of a
wait in progress sets CAPACK_ERR and raises FLT_TL_CAPACK. A packet whose blocks end whole with a bad trailer is counted as CRC_ERR, one
cut short or malformed as DROP. TL_RX_TIMEOUT takes a port that is up to DOWN and raises FLT_TL_LINK if it streamed. IDLE_KEEPALIVE sends
IDLE; an IDLE that arrives changes nothing; a good DIAG_RET gives its codes to pixel health, one that fails its checks is dropped. Under
LOOPBACK a packet that the port has not sent itself changes nothing. -/
def Obligations.TlUpstream : Prop :=
  (∀ (p : Fin 12) (d c : List Byte) (s : State),
    s.tlReaches p d = true →
    s.tlUp p = true →
    tlPayload 0x22 (· == 64) d = some c →
    Answers (.healthRx p d) s fun t =>
      t.rd (TL_HLTH_FRAME_FRAME_NO p) = leAt c 0 4 % 2 ^ 32 ∧ t.rd (TL_CAP_ACK_SEQ p) = leAt c 10 2 % 2 ^ 16 ∧
        t.rd (TL_HLTH_STAT_STATUS p) = byteAt c 8 % 2 ^ (TL_HLTH_STAT_STATUS p).width) ∧
  (∀ (p : Fin 12) (d c : List Byte) (s : State),
    s.tlReaches p d = true →
    s.tlState p = 1 →
    (s.port p).train = .config →
    tlPayload 0x22 (· == 64) d = some c →
    (byteAt c 8).testBit 3 = true →
    Answers (.healthRx p d) s fun t =>
      t.tlState p = 2 ∧ (t.port p).train = .none) ∧
  (∀ (p : Fin 12) (d : List Byte) (s : State),
    s.tlReaches p d = true →
    s.tlUp p = true →
    tlPayload 0x22 (· == 64) d = none →
    Answers (.healthRx p d) s fun t =>
      t.rd (TL_CNT0_DROP p) = s.counted (TL_CNT0_DROP p) ∧ t.tl = s.tl) ∧
  (∀ (p : Fin 12) (d : List Byte) (s : State),
    s.tlReaches p d = true →
    s.tlUp p = true →
    tlPayload 0x21 (fun l => decide (1 ≤ leAt d 14 2 ∧ leAt d 14 2 ≤ (if s.tlV2 p && s.on (TL_CTRL_BULK_EN p) then 4096 else 256) ∧
      l = 8 + (leAt d 14 2 + 3) / 4 * 4)) d = none →
    Answers (.diagRetRx p d) s fun t =>
      t.rd (TL_CNT0_DROP p) = s.counted (TL_CNT0_DROP p) ∧ t.hlth = s.hlth) ∧
  (∀ (p : Fin 12) (d c : List Byte) (s : State) (i : Image),
    s.tlReaches p d = true →
    s.tlUp p = true →
    tlPayload 0x21 (fun l => decide (1 ≤ leAt d 14 2 ∧ leAt d 14 2 ≤ (if s.tlV2 p && s.on (TL_CTRL_BULK_EN p) then 4096 else 256) ∧
      l = 8 + (leAt d 14 2 + 3) / 4 * 4)) d = some c →
    s.image = some i →
    Answers (.diagRetRx p d) s fun t =>
      t = s.hlthResults p (leAt c 0 4) (leAt c 4 2) ((List.range (leAt d 14 2)).map (fun i => byteAt c (8 + i))) ((byteAt d 1).testBit 2) ∧
        t.rd (TL_CNT0_DROP p) = s.rd (TL_CNT0_DROP p)) ∧
  (∀ (p : Fin 12) (d c : List Byte) (s : State),
    s.tlReaches p d = true →
    s.tlUp p = true →
    tlPayload 0x40 (· == 8) d = some c →
    (byteAt d 1).testBit 3 = true →
    s.on PAIR_CTRL_EN = false →
    Answers (.staleReplyRx p d) s fun t =>
      t.rd (TL_STATUS_STALE p) = 1 ∧ t.rd (TL_CNT2_STALE p) = s.counted (TL_CNT2_STALE p) ∧ t.fired (17 + 2 * p) ∧ t.hasRaised FLT_TL_STALE) ∧
  (∀ (p : Fin 12) (d : List Byte) (s : State),
    s.tlReaches p d = false →
    Answers (.capsRx p d) s fun t =>
      t = s) ∧
  (∀ (p : Fin 12) (d : List Byte) (s : State),
    s.tlReaches p d = false →
    Answers (.healthRx p d) s fun t =>
      t = s) ∧
  (∀ (p : Fin 12) (d : List Byte) (s : State),
    s.tlReaches p d = false →
    Answers (.diagRetRx p d) s fun t =>
      t = s) ∧
  (∀ (p : Fin 12) (d : List Byte) (s : State),
    s.tlReaches p d = false →
    Answers (.staleReplyRx p d) s fun t =>
      t = s) ∧
  (∀ (p : Fin 12) (d : List Byte) (s : State),
    s.tlReaches p d = false →
    Answers (.fbReplyRx p d) s fun t =>
      t = s) ∧
  (∀ (p : Fin 12) (d : List Byte) (s : State),
    s.tlReaches p d = false →
    Answers (.upstreamIdleRx p d) s fun t =>
      t = s) ∧
  (∀ (p : Fin 12) (d c : List Byte) (s : State),
    s.tlReaches p d = true →
    s.tlUp p = true →
    tlPayload 0x22 (· == 64) d = some c →
    leAt c 10 2 = s.rd (TL_CAP_SENT_SEQ p) →
    Answers (.healthRx p d) s fun t =>
      (t.port p).capWait = false ∧ t.rd (TL_CAP_ACK_SEQ p) = s.rd (TL_CAP_SENT_SEQ p)) ∧
  (∀ (p : Fin 12) (s : State),
    (s.port p).capWait = true →
    Answers (.capackTimeout p) s fun t =>
      t.rd (TL_STATUS_CAPACK_ERR p) = 1 ∧ (t.port p).capWait = false ∧ t.fired (17 + 2 * p) ∧ t.hasRaised FLT_TL_CAPACK) ∧
  (∀ (p : Fin 12) (s : State),
    (s.port p).capWait = false →
    Answers (.capackTimeout p) s fun t =>
      t = s) ∧
  (∀ (p : Fin 12) (bl : List (BitVec 2 × BitVec 64)) (s : State),
    badTrailer bl = true →
    Answers (.upstreamPacketError p bl) s fun t =>
      t.rd (TL_CNT0_CRC_ERR p) = s.counted (TL_CNT0_CRC_ERR p)) ∧
  (∀ (p : Fin 12) (bl : List (BitVec 2 × BitVec 64)) (s : State),
    badTrailer bl = false →
    upstreamBad bl = true →
    Answers (.upstreamPacketError p bl) s fun t =>
      t.rd (TL_CNT0_DROP p) = s.counted (TL_CNT0_DROP p)) ∧
  (∀ (p : Fin 12) (s : State),
    s.tlState p = 3 →
    Answers (.tlRxTimeout p) s fun t =>
      t.tlState p = 0 ∧ t.hasRaised FLT_TL_LINK) ∧
  (∀ (p : Fin 12) (s : State),
    s.tlState p = 2 →
    Answers (.tlRxTimeout p) s fun t =>
      t.tlState p = 0) ∧
  (∀ (p : Fin 12) (s : State),
    s.tlUp p = false →
    Answers (.tlRxTimeout p) s fun t =>
      t = s) ∧
  (∀ (p : Fin 12) (s : State),
    s.tlState p = 2 →
    s.on (TL_STATUS_FENCED p) = false →
    s.on (LANE_CTRL_IDLE_REQ p) = false →
    s.laneTest (tlLane p) = false →
    Answers (.idleKeepalive p) s fun t =>
      (t.port p).out = (s.port p).out ++ [tlPacket 0x3F 0 (s.rd (TL_EPOCH_EPOCH p)) 0 (List.replicate 4 0)]) ∧
  (∀ (p : Fin 12) (d : List Byte) (s : State),
    s.tlReaches p d = true →
    (tlPayload 0x3F (· == 4) d).isSome = true →
    Answers (.upstreamIdleRx p d) s fun t =>
      t = s) ∧
  (∀ (p : Fin 12) (d : List Byte) (s : State),
    s.tlReaches p d = true →
    (tlPayload 0x3F (· == 4) d).isSome = false →
    s.tlUp p = true →
    Answers (.upstreamIdleRx p d) s fun t =>
      t.rd (TL_CNT0_DROP p) = s.counted (TL_CNT0_DROP p))

/-- Lanes: idle, lock, loss, eye, adaptation, PRBS tests and error injection. LANE_IDLE_REQ sets IDLE_REQ to the bit written. LANE_ADAPT sets
ADAPT and takes a lane in ACQUIRE or LOCKED to ADAPT; in another state ADAPT waits (log entry 28). LANE_PRBS_CONFIG on a lane that no
enabled block owns selects both patterns, clears the error count and PRBS_SYNC, and a new pattern starts from its seed (all ones, log
entry 43); on an owned lane a pattern other than OFF is refused with WERR and event 43. INJ_ONE and INJ_BURST invert the next bit, or the
next burst (INJ_LEN bits, at least 1, at most 64): it waits for the next data block or, on a lane in test, for the next bits of its
pattern. IDLE_EXIT of a tile or partner lane in EXIT sends the training burst, and goes to LOCKED (to ADAPT where ADAPT waits) with both
locks and the eye kept and the marker found (log entry 28), and to ACQUIRE otherwise, without block lock where no marker is found; a
network lane sends no burst and needs no marker. LANE_LOCK_ACQUIRED with an eye no worse than EYE_MIN in EXIT, ACQUIRE or ADAPT gives both
locks and the state LOCKED; a worse eye changes nothing. LANE_LOCK_LOSS of a locked lane clears both locks, sets LOSS and counts.
LANE_LOCK_TIMEOUT of a port whose training awaits the lock fails training with code 7. EYE_WINDOW_END shows the eye and the taps: in
LOCKED with EYE_LOW by EYE_OK, before it with CDR_LOCK and the state ADAPT (log entry 28). ADAPTATION_DONE of an eye that reaches EYE_MIN
shows the eye and the taps in LOCKED; otherwise the lane stays in ADAPT with its best CTLE code shown. PRBS_CHECKER_SYNC and
PRBS_BIT_ERROR run the received bits through the checker of the pattern selected: its synchronisation and its errors show, and the first
error fires event 42. Under LOOPBACK the checker takes the lane's own pattern, and a lane that only sends goes on with its pattern.
LANE_PLL_LOSS clears the lock flag of its PLL and raises FLT_LANE_PLL. -/
def Obligations.Lanes : Prop :=
  (∀ (j : Fin 15) (m : Master) (v : Word) (s : State),
    s.accepts m (laneAddr j) →
    Answers (.laneIdleReq j m v) s fun t =>
      t.rd (LANE_CTRL_IDLE_REQ j) = b2n (v.toNat.testBit 0)) ∧
  (∀ (j : Fin 15) (m : Master) (v : Word) (s : State),
    s.accepts m (laneAddr j) →
    v.toNat.testBit 8 = true →
    s.rd (LANE_STATUS_STATE j) = 3 ∨ s.rd (LANE_STATUS_STATE j) = 5 →
    Answers (.laneAdapt j m v) s fun t =>
      t.rd (LANE_CTRL_ADAPT j) = 1 ∧ t.rd (LANE_STATUS_STATE j) = 4) ∧
  (∀ (j : Fin 15) (m : Master) (v : Word) (s : State),
    s.accepts m (laneAddr j) →
    v.toNat.testBit 8 = true →
    s.rd (LANE_STATUS_STATE j) ≠ 3 →
    s.rd (LANE_STATUS_STATE j) ≠ 5 →
    Answers (.laneAdapt j m v) s fun t =>
      t.rd (LANE_CTRL_ADAPT j) = 1 ∧ t.rd (LANE_STATUS_STATE j) = s.rd (LANE_STATUS_STATE j)) ∧
  (∀ (j : Fin 15) (m : Master) (v : Word) (s : State),
    s.accepts m (laneAddr j) →
    (s.stored m (laneAddr j) v).laneOwned j = false ∨ (bits v.toNat 1 3 = 0 ∧ bits v.toNat 4 3 = 0) →
    Answers (.lanePrbsConfig j m v) s fun t =>
      t.rd (LANE_CTRL_PRBS_TX j) = bits v.toNat 1 3 ∧ t.rd (LANE_CTRL_PRBS_RX j) = bits v.toNat 4 3 ∧ t.rd (LANE_PRBS_ERR_COUNT j) = 0 ∧
        t.rd (LANE_STATUS_PRBS_SYNC j) = 0) ∧
  (∀ (j : Fin 15) (m : Master) (v : Word) (s : State),
    s.accepts m (laneAddr j) →
    (s.stored m (laneAddr j) v).laneOwned j = false →
    s.rd (LANE_CTRL_PRBS_TX j) ≠ bits v.toNat 1 3 →
    Answers (.lanePrbsConfig j m v) s fun t =>
      (t.lane.pair[j]).gen = 0x7FFFFFFF) ∧
  (∀ (j : Fin 15) (m : Master) (v : Word) (s : State),
    s.accepts m (laneAddr j) →
    (s.stored m (laneAddr j) v).laneOwned j = true →
    bits v.toNat 1 3 ≠ 0 ∨ bits v.toNat 4 3 ≠ 0 →
    Answers (.lanePrbsConfig j m v) s fun t =>
      t.rd (LANE_STATUS_WERR j) = 1 ∧ t.fired 43 ∧ t.rd (LANE_CTRL_PRBS_TX j) = s.rd (LANE_CTRL_PRBS_TX j) ∧
        t.rd (LANE_CTRL_PRBS_RX j) = s.rd (LANE_CTRL_PRBS_RX j)) ∧
  (∀ (j : Fin 15) (m : Master) (v : Word) (s : State),
    s.accepts m (laneAddr j) →
    v.toNat.testBit 9 = true →
    Answers (.injOne j m v) s fun t =>
      (t.lane.pair[j]).inject = (s.lane.pair[j]).inject ++ [1]) ∧
  (∀ (j : Fin 15) (m : Master) (v : Word) (s : State),
    s.accepts m (laneAddr j) →
    v.toNat.testBit 10 = true →
    Answers (.injBurst j m v) s fun t =>
      (t.lane.pair[j]).inject = (s.lane.pair[j]).inject ++ [max 1 (min 64 ((s.stored m (laneAddr j) v).rd (LANE_CTRL_INJ_LEN j)))]) ∧
  (∀ (j : Fin 15) (w : Word) (s : State),
    s.rd (LANE_STATUS_STATE j) = 2 →
    j.val < 13 →
    markerFound w.toNat = true →
    s.laneLocks j = true →
    s.on (LANE_CTRL_ADAPT j) = false →
    Answers (.idleExit j (some w)) s fun t =>
      t.rd (LANE_STATUS_STATE j) = 5 ∧
        (t.lane.pair[j]).line.take ((s.lane.pair[j]).line.length + 1) = (s.lane.pair[j]).line ++ [.burst (BitVec.ofNat 128 burstBits)]) ∧
  (∀ (j : Fin 15) (w : Word) (s : State),
    s.rd (LANE_STATUS_STATE j) = 2 →
    j.val < 13 →
    markerFound w.toNat = true →
    s.laneLocks j = true →
    s.on (LANE_CTRL_ADAPT j) = true →
    Answers (.idleExit j (some w)) s fun t =>
      t.rd (LANE_STATUS_STATE j) = 4 ∧
        (t.lane.pair[j]).line.take ((s.lane.pair[j]).line.length + 1) = (s.lane.pair[j]).line ++ [.burst (BitVec.ofNat 128 burstBits)]) ∧
  (∀ (j : Fin 15) (k : Option Word) (s : State),
    s.rd (LANE_STATUS_STATE j) = 2 →
    j.val < 13 →
    s.laneLocks j = false →
    Answers (.idleExit j k) s fun t =>
      t.rd (LANE_STATUS_STATE j) = 3 ∧
        (t.lane.pair[j]).line.take ((s.lane.pair[j]).line.length + 1) = (s.lane.pair[j]).line ++ [.burst (BitVec.ofNat 128 burstBits)]) ∧
  (∀ (j : Fin 15) (k : Option Word) (s : State),
    s.rd (LANE_STATUS_STATE j) = 2 →
    j.val < 13 →
    s.on (LANE_CTRL_LOOPBACK j) = false →
    k.any (fun w => markerFound w.toNat) = false →
    Answers (.idleExit j k) s fun t =>
      t.rd (LANE_STATUS_STATE j) = 3 ∧ t.rd (LANE_STATUS_BLOCK_LOCK j) = 0 ∧
        (t.lane.pair[j]).line.take ((s.lane.pair[j]).line.length + 1) = (s.lane.pair[j]).line ++ [.burst (BitVec.ofNat 128 burstBits)]) ∧
  (∀ (j : Fin 15) (k : Option Word) (s : State),
    s.rd (LANE_STATUS_STATE j) = 2 →
    12 < j.val →
    Answers (.idleExit j k) s fun t =>
      t.rd (LANE_STATUS_STATE j) = (if s.laneLocks j then (if s.on (LANE_CTRL_ADAPT j) then 4 else 5) else 3) ∧ t.lane = s.lane) ∧
  (∀ (j : Fin 15) (k : Option Word) (s : State),
    s.rd (LANE_STATUS_STATE j) ≠ 2 →
    Answers (.idleExit j k) s fun t =>
      t = s) ∧
  (∀ (j : Fin 15) (h v : Fin 65) (s : State),
    2 ≤ s.rd (LANE_STATUS_STATE j) →
    s.rd (LANE_STATUS_STATE j) ≤ 4 →
    s.rd (LANE_THRESH_EYE_MIN j) ≤ eyeScore h v →
    Answers (.laneLockAcquired j h v) s fun t =>
      t.rd (LANE_STATUS_STATE j) = 5 ∧ t.rd (LANE_STATUS_CDR_LOCK j) = 1 ∧ t.rd (LANE_STATUS_BLOCK_LOCK j) = 1 ∧ t.rd (LANE_EYE_H j) = h ∧
        t.rd (LANE_EYE_V j) = v) ∧
  (∀ (j : Fin 15) (h v : Fin 65) (s : State),
    (s.rd (LANE_STATUS_STATE j) < 2 ∨ 4 < s.rd (LANE_STATUS_STATE j)) ∨ eyeScore h v < s.rd (LANE_THRESH_EYE_MIN j) →
    Answers (.laneLockAcquired j h v) s fun t =>
      t = s) ∧
  (∀ (j : Fin 15) (n : Fin 65) (s : State),
    s.on (LANE_STATUS_BLOCK_LOCK j) = true →
    16 ≤ (n : Nat) →
    Answers (.laneLockLoss j (.headers n)) s fun t =>
      t.rd (LANE_STATUS_CDR_LOCK j) = 0 ∧ t.rd (LANE_STATUS_BLOCK_LOCK j) = 0 ∧ t.rd (LANE_STATUS_LOSS j) = 1 ∧
        t.rd (LANE_CNT_LOSS j) = s.counted (LANE_CNT_LOSS j)) ∧
  (∀ (j : Fin 15) (h v : Fin 65) (s : State),
    s.on (LANE_STATUS_BLOCK_LOCK j) = true →
    eyeScore h v < s.rd (LANE_THRESH_EYE_LOSS j) →
    Answers (.laneLockLoss j (.eye h v)) s fun t =>
      t.rd (LANE_STATUS_CDR_LOCK j) = 0 ∧ t.rd (LANE_STATUS_BLOCK_LOCK j) = 0 ∧ t.rd (LANE_STATUS_LOSS j) = 1 ∧
        t.rd (LANE_CNT_LOSS j) = s.counted (LANE_CNT_LOSS j)) ∧
  (∀ (j : Fin 15) (x : LossCause) (s : State),
    s.on (LANE_STATUS_BLOCK_LOCK j) = false →
    Answers (.laneLockLoss j x) s fun t =>
      t = s) ∧
  (∀ (j : Fin 15) (p : Fin 12) (s : State),
    lanePort j = some p →
    s.tlState p = 1 →
    (s.port p).train = .lock ∨ (s.port p).train = .relockSlow →
    Answers (.laneLockTimeout j) s fun t =>
      t.tlState p = 5 ∧ t.rd (TL_TRAIN_ERR_CODE p) = 7 ∧ t.hasRaised FLT_TL_TRAIN) ∧
  (∀ (j : Fin 15) (h v : Fin 65) (taps : BitVec 30) (s : State),
    s.rd (LANE_STATUS_STATE j) = 5 →
    eyeScore h v < s.rd (LANE_THRESH_EYE_OK j) →
    Answers (.eyeWindowEnd j h v taps) s fun t =>
      t.rd (LANE_DFE_TAPS j) = taps.toNat ∧ t.rd (LANE_STATUS_EYE_LOW j) = 1 ∧ t.fired 41 ∧ t.rd (LANE_EYE_H j) = h ∧ t.rd (LANE_EYE_V j) = v) ∧
  (∀ (j : Fin 15) (h v : Fin 65) (taps : BitVec 30) (s : State),
    s.rd (LANE_STATUS_STATE j) = 3 ∨ s.rd (LANE_STATUS_STATE j) = 4 →
    Answers (.eyeWindowEnd j h v taps) s fun t =>
      t.rd (LANE_STATUS_CDR_LOCK j) = 1 ∧ t.rd (LANE_STATUS_STATE j) = 4 ∧ t.rd (LANE_EYE_H j) = h ∧ t.rd (LANE_EYE_V j) = v ∧
        t.rd (LANE_DFE_TAPS j) = taps.toNat) ∧
  (∀ (j : Fin 15) (h v : Fin 65) (taps : BitVec 30) (s : State),
    s.rd (LANE_STATUS_STATE j) = 5 →
    s.rd (LANE_THRESH_EYE_OK j) ≤ eyeScore h v →
    Answers (.eyeWindowEnd j h v taps) s fun t =>
      t.rd (LANE_STATUS_EYE_LOW j) = 0 ∧ t.rd (LANE_EYE_H j) = h ∧ t.rd (LANE_EYE_V j) = v) ∧
  (∀ (j : Fin 15) (sc : List Byte) (h v : Fin 65) (taps : BitVec 30) (s : State),
    s.rd (LANE_STATUS_STATE j) = 4 →
    s.on (LANE_STATUS_BLOCK_LOCK j) = true →
    s.rd (LANE_THRESH_EYE_MIN j) ≤ eyeScore h v →
    Answers (.adaptationDone j sc h v taps) s fun t =>
      t.rd (LANE_STATUS_STATE j) = 5 ∧ t.rd (LANE_CTRL_ADAPT j) = 0 ∧ t.rd (LANE_STATUS_CDR_LOCK j) = 1 ∧ t.rd (LANE_DFE_TAPS j) = taps.toNat ∧
        t.rd (LANE_EYE_H j) = h ∧ t.rd (LANE_EYE_V j) = v) ∧
  (∀ (j : Fin 15) (sc : List Byte) (h v : Fin 65) (taps : BitVec 30) (s : State),
    s.rd (LANE_STATUS_STATE j) = 3 ∨ s.rd (LANE_STATUS_STATE j) = 4 →
    s.on (LANE_STATUS_BLOCK_LOCK j) = false ∨ eyeScore h v < s.rd (LANE_THRESH_EYE_MIN j) →
    Answers (.adaptationDone j sc h v taps) s fun t =>
      t.rd (LANE_STATUS_STATE j) = 4 ∧ t.rd (LANE_CTRL_ADAPT j) = 0 ∧ t.rd (LANE_STATUS_CDR_LOCK j) = 1 ∧
        t.rd (LANE_EYE_CTLE j) = bestCtle sc % 2 ^ (LANE_EYE_CTLE j).width) ∧
  (∀ (j : Fin 15) (bits : List Bool) (s : State),
    patternOf (s.rd (LANE_CTRL_PRBS_RX j)) ≠ 0 →
    patternOf (s.rd (LANE_CTRL_PRBS_TX j)) = 0 →
    s.on (LANE_CTRL_LOOPBACK j) = false →
    Answers (.prbsCheckerSync j bits) s fun t =>
      t.on (LANE_STATUS_PRBS_SYNC j) = (bits.foldl (Checker.take (patternOf (s.rd (LANE_CTRL_PRBS_RX j))))
        { reg := (s.lane.pair[j]).chk, run := (s.lane.pair[j]).run, sync := s.on (LANE_STATUS_PRBS_SYNC j), errs := 0 }).sync ∧
      t.rd (LANE_PRBS_ERR_COUNT j) = min (s.rd (LANE_PRBS_ERR_COUNT j) + (bits.foldl (Checker.take (patternOf (s.rd (LANE_CTRL_PRBS_RX j))))
        { reg := (s.lane.pair[j]).chk, run := (s.lane.pair[j]).run, sync := s.on (LANE_STATUS_PRBS_SYNC j), errs := 0 }).errs) (2 ^ 32 - 1) ∧
      (s.rd (LANE_PRBS_ERR_COUNT j) = 0 →
        0 < (bits.foldl (Checker.take (patternOf (s.rd (LANE_CTRL_PRBS_RX j))))
      { reg := (s.lane.pair[j]).chk, run := (s.lane.pair[j]).run, sync := s.on (LANE_STATUS_PRBS_SYNC j), errs := 0 }).errs → t.fired 42)) ∧
  (∀ (j : Fin 15) (bits : List Bool) (s : State),
    patternOf (s.rd (LANE_CTRL_PRBS_RX j)) ≠ 0 →
    s.on (LANE_CTRL_LOOPBACK j) = true →
    Answers (.prbsCheckerSync j bits) s fun t =>
      t.on (LANE_STATUS_PRBS_SYNC j) = ((s.lanePattern j bits.length).2.foldl (Checker.take (patternOf (s.rd (LANE_CTRL_PRBS_RX j))))
        { reg := ((s.lanePattern j bits.length).1.lane.pair[j]).chk, run := ((s.lanePattern j bits.length).1.lane.pair[j]).run, sync := s.on (LANE_STATUS_PRBS_SYNC j), errs := 0 }).sync) ∧
  (∀ (j : Fin 15) (bits : List Bool) (s : State),
    patternOf (s.rd (LANE_CTRL_PRBS_TX j)) ≠ 0 →
    patternOf (s.rd (LANE_CTRL_PRBS_RX j)) = 0 →
    (s.lane.pair[j]).inject = [] →
    Answers (.prbsCheckerSync j bits) s fun t =>
      (t.lane.pair[j]).line = (s.lane.pair[j]).line ++ [.pattern (prbsRun (patternOf (s.rd (LANE_CTRL_PRBS_TX j))) bits.length
        (s.lane.pair[j]).gen).2]) ∧
  (∀ (j : Fin 15) (bits : List Bool) (s : State),
    patternOf (s.rd (LANE_CTRL_PRBS_TX j)) = 0 →
    patternOf (s.rd (LANE_CTRL_PRBS_RX j)) = 0 →
    Answers (.prbsCheckerSync j bits) s fun t =>
      t = s) ∧
  (∀ (j : Fin 15) (bits : List Bool) (s : State),
    patternOf (s.rd (LANE_CTRL_PRBS_RX j)) ≠ 0 →
    patternOf (s.rd (LANE_CTRL_PRBS_TX j)) = 0 →
    s.on (LANE_CTRL_LOOPBACK j) = false →
    Answers (.prbsBitError j bits) s fun t =>
      t.on (LANE_STATUS_PRBS_SYNC j) = (bits.foldl (Checker.take (patternOf (s.rd (LANE_CTRL_PRBS_RX j))))
        { reg := (s.lane.pair[j]).chk, run := (s.lane.pair[j]).run, sync := s.on (LANE_STATUS_PRBS_SYNC j), errs := 0 }).sync ∧
      t.rd (LANE_PRBS_ERR_COUNT j) = min (s.rd (LANE_PRBS_ERR_COUNT j) + (bits.foldl (Checker.take (patternOf (s.rd (LANE_CTRL_PRBS_RX j))))
        { reg := (s.lane.pair[j]).chk, run := (s.lane.pair[j]).run, sync := s.on (LANE_STATUS_PRBS_SYNC j), errs := 0 }).errs) (2 ^ 32 - 1) ∧
      (s.rd (LANE_PRBS_ERR_COUNT j) = 0 →
        0 < (bits.foldl (Checker.take (patternOf (s.rd (LANE_CTRL_PRBS_RX j))))
      { reg := (s.lane.pair[j]).chk, run := (s.lane.pair[j]).run, sync := s.on (LANE_STATUS_PRBS_SYNC j), errs := 0 }).errs → t.fired 42)) ∧
  (∀ (j : Fin 15) (bits : List Bool) (s : State),
    patternOf (s.rd (LANE_CTRL_PRBS_RX j)) ≠ 0 →
    s.on (LANE_CTRL_LOOPBACK j) = true →
    Answers (.prbsBitError j bits) s fun t =>
      t.on (LANE_STATUS_PRBS_SYNC j) = ((s.lanePattern j bits.length).2.foldl (Checker.take (patternOf (s.rd (LANE_CTRL_PRBS_RX j))))
        { reg := ((s.lanePattern j bits.length).1.lane.pair[j]).chk, run := ((s.lanePattern j bits.length).1.lane.pair[j]).run, sync := s.on (LANE_STATUS_PRBS_SYNC j), errs := 0 }).sync) ∧
  (∀ (j : Fin 15) (bits : List Bool) (s : State),
    patternOf (s.rd (LANE_CTRL_PRBS_TX j)) ≠ 0 →
    patternOf (s.rd (LANE_CTRL_PRBS_RX j)) = 0 →
    (s.lane.pair[j]).inject = [] →
    Answers (.prbsBitError j bits) s fun t =>
      (t.lane.pair[j]).line = (s.lane.pair[j]).line ++ [.pattern (prbsRun (patternOf (s.rd (LANE_CTRL_PRBS_TX j))) bits.length
        (s.lane.pair[j]).gen).2]) ∧
  (∀ (j : Fin 15) (bits : List Bool) (s : State),
    patternOf (s.rd (LANE_CTRL_PRBS_TX j)) = 0 →
    patternOf (s.rd (LANE_CTRL_PRBS_RX j)) = 0 →
    Answers (.prbsBitError j bits) s fun t =>
      t = s) ∧
  (∀ (net : Bool) (s : State),
    Answers (.lanePllLoss net) s fun t =>
      t.rd (if net then CLKRST_STATUS_NPLL_LOCK else CLKRST_STATUS_TPLL_LOCK) = 0 ∧ t.hasRaised FLT_LANE_PLL)

/-- Pixel health: enable, capture, forced codes and the report queue. HLTH_ENABLE sets EN to the bit written; with frame timing off
HLTH_STATUS.RUN follows at once (the choice of the model, log entry 17), and while it runs RUN is unchanged. HLTH_CAPTURE sets CAPTURE.
HLTH_FORCE queues the update that HLTH_FORCE names while fewer than 256 wait, and with a full queue it keeps the update and GO reads 1.
HLTH_REPORT_TIMER fires event 92 where reports wait. HLTH_RPT_POP with bit 0 set takes the front report off the queue. -/
def Obligations.PixelHealthCommands : Prop :=
  (∀ (m : Master) (v : Word) (s : State),
    s.accepts m 0x200D0000 →
    s.on FT_STATUS_RUN = false →
    v.toNat.testBit 0 = false →
    Answers (.hlthEnable m v) s fun t =>
      t.rd HLTH_CTRL_EN = 0 ∧ t.rd HLTH_STATUS_RUN = 0) ∧
  (∀ (m : Master) (v : Word) (s : State),
    s.accepts m 0x200D0000 →
    s.on FT_STATUS_RUN = false →
    v.toNat.testBit 0 = true →
    Answers (.hlthEnable m v) s fun t =>
      t.rd HLTH_CTRL_EN = 1 ∧ t.rd HLTH_STATUS_RUN = 1) ∧
  (∀ (m : Master) (v : Word) (s : State),
    s.accepts m 0x200D0000 →
    s.on FT_STATUS_RUN = true →
    Answers (.hlthEnable m v) s fun t =>
      t.rd HLTH_CTRL_EN = b2n (v.toNat.testBit 0) ∧ t.rd HLTH_STATUS_RUN = s.rd HLTH_STATUS_RUN) ∧
  (∀ (m : Master) (v : Word) (s : State),
    s.accepts m 0x200D0000 →
    v.toNat.testBit 2 = true →
    Answers (.hlthCapture m v) s fun t =>
      t.rd HLTH_CTRL_CAPTURE = 1) ∧
  (∀ (m : Master) (v : Word) (s : State),
    s.accepts m 0x200D0040 →
    v.toNat.testBit 31 = true →
    s.hlth.queue.length < 256 →
    Answers (.hlthForce m v) s fun t =>
      t.hlth.queue = s.hlth.queue ++
        [{ tile := (s.stored m 0x200D0040 v).rd HLTH_FORCE_TILE, x := (s.stored m 0x200D0040 v).rd HLTH_FORCE_X, y := (s.stored m 0x200D0040 v).rd HLTH_FORCE_Y, new := (s.stored m 0x200D0040 v).rd HLTH_FORCE_CLASS, forced := true }] ∧ t.hlth.force = none ∧ t.rd HLTH_FORCE_GO = 0) ∧
  (∀ (m : Master) (v : Word) (s : State),
    s.accepts m 0x200D0040 →
    v.toNat.testBit 31 = true →
    ¬ s.hlth.queue.length < 256 →
    Answers (.hlthForce m v) s fun t =>
      t.hlth.queue = s.hlth.queue ∧
        t.hlth.force = some
      { tile := (s.stored m 0x200D0040 v).rd HLTH_FORCE_TILE, x := (s.stored m 0x200D0040 v).rd HLTH_FORCE_X, y := (s.stored m 0x200D0040 v).rd HLTH_FORCE_Y, new := (s.stored m 0x200D0040 v).rd HLTH_FORCE_CLASS, forced := true } ∧ t.rd HLTH_FORCE_GO = 1) ∧
  (∀ (s : State),
    s.hlth.reports ≠ [] →
    Answers (.hlthReportTimer) s fun t =>
      t.fired 92 ∧ t.hlth.rptWait = true ∧ t.hlth.pixWait = false) ∧
  (∀ (s : State),
    s.hlth.reports = [] →
    Answers (.hlthReportTimer) s fun t =>
      t.hlth.rptWait = false ∧ t.hlth.pixWait = false ∧ t.flt = s.flt) ∧
  (∀ (m : Master) (v : Word) (s : State) (x : Update) (r : List Update),
    s.accepts m 0x200D004C →
    v.toNat.testBit 0 = true →
    s.hlth.reports = x :: r →
    Answers (.hlthRptPop m v) s fun t =>
      t.hlth.reports = r) ∧
  (∀ (m : Master) (v : Word) (s : State),
    s.accepts m 0x200D004C →
    v.toNat.testBit 0 = true →
    s.hlth.reports = [] →
    Answers (.hlthRptPop m v) s fun t =>
      t.hlth.reports = [] ∧ t.rd HLTH_RPT0_VALID = 0)

/-- LED supply: RELEASED, HANDOVER and CONTROL, the sample commands, and the four protections. LSC_ENABLE with EN 1 in RELEASED, with no
protection set and not on an understudy, goes to HANDOVER with the duty D_INIT; with a protection set or on an understudy it sets WERR.
LSC_HANDOVER_DONE goes on to CONTROL with the mean of its 20 conversions as set point and LSEN high. LSC_RELEASE and a write of EN 0 leave
EN 0 and the state RELEASED (that a release clears EN, log entry 16). LSC_LOOP_UPDATE measures the voltage of the sample and counts it.
LSC_PHASE_SAMPLE holds the current of a phase in use. PHASE_OVERCURRENT of a stage that is not released flags and counts its phase and its
run of cycles (a released stage drives no cycle, log entry 16). Each of the four protections, over-current and under-voltage after their
runs only, sets its flag, releases a stage that is not released with event 84, and raises its fault; over-voltage and under-voltage are
flagged while the stage is released too (log entry 16). An LSC without power changes nothing. -/
def Obligations.LedSupplyStates : Prop :=
  (∀ (m : Master) (v : Word) (s : State),
    s.accepts m 0x200E0000 →
    v.toNat.testBit 0 = true →
    s.rd LSC_STATUS_STATE = 0 →
    (s.stored m 0x200E0000 v).understudyRole = false →
    (s.stored m 0x200E0000 v).lscProt = false →
    Answers (.lscEnable m v) s fun t =>
      t.rd LSC_CTRL_EN = 1 ∧ t.rd LSC_STATUS_STATE = 1 ∧ t.lsc.duty = s.rd LSC_BAL_D_INIT ∧ t.lsc.acc = s.rd LSC_BAL_D_INIT * 32768) ∧
  (∀ (m : Master) (v : Word) (s : State),
    s.accepts m 0x200E0000 →
    v.toNat.testBit 0 = true →
    s.rd LSC_STATUS_STATE = 0 →
    ((s.stored m 0x200E0000 v).understudyRole || (s.stored m 0x200E0000 v).lscProt) = true →
    Answers (.lscEnable m v) s fun t =>
      t.rd LSC_STATUS_WERR = 1 ∧ t.fired 87 ∧ t.rd LSC_STATUS_STATE = 0 ∧ t.lsc = s.lsc) ∧
  (∀ (m : Master) (v : Word) (s : State),
    s.accepts m 0x200E0000 →
    v.toNat.testBit 0 = false →
    Answers (.lscEnable m v) s fun t =>
      t.rd LSC_CTRL_EN = 0 ∧ t.rd LSC_STATUS_STATE = 0) ∧
  (∀ (s : State),
    Answers (.lscRelease) s fun t =>
      t.rd LSC_CTRL_EN = 0 ∧ t.rd LSC_STATUS_STATE = 0) ∧
  (∀ (c : Vector (Fin 4096) 20) (s : State),
    s.lscPowered = true →
    s.rd LSC_STATUS_STATE = 1 →
    Answers (.lscHandoverDone c) s fun t =>
      t.rd LSC_STATUS_STATE = 2 ∧ t.lsc.vmeas = s.vledMv (c.get 19).val ∧ t.lsc.set = (c.toList.map (fun k => s.vledMv k.val)).sum * 50 ∧
        t.lsc.driven = true ∧ t.lsc.lsen = true) ∧
  (∀ (c : Vector (Fin 4096) 20) (s : State),
    s.lscPowered = false →
    Answers (.lscHandoverDone c) s fun t =>
      t = s) ∧
  (∀ (c : Vector (Fin 4096) 20) (s : State),
    s.rd LSC_STATUS_STATE ≠ 1 →
    Answers (.lscHandoverDone c) s fun t =>
      t = s) ∧
  (∀ (c : Fin 4096) (s : State),
    s.lscPowered = false →
    Answers (.lscLoopUpdate c) s fun t =>
      t = s) ∧
  (∀ (c : Fin 4096) (s : State),
    s.lscPowered = true →
    Answers (.lscLoopUpdate c) s fun t =>
      t.lsc.vmeas = s.vledMv c ∧ t.lsc.vsum = s.lsc.vsum + s.vledMv c ∧ t.lsc.vcnt = s.lsc.vcnt + 1 ∧ t.rd LSC_STATUS_STATE = s.rd LSC_STATUS_STATE) ∧
  (∀ (ph : Fin 4) (c : Fin 4096) (s : State),
    s.lscPowered = true →
    s.phaseOn ph = true →
    Answers (.lscPhaseSample ph c) s fun t =>
      t.lsc.cur[ph] = s.phaseMa c ∧ t.lsc.icnt[ph] = s.lsc.icnt[ph] + 1) ∧
  (∀ (ph : Fin 4) (c : Fin 4096) (s : State),
    s.lscPowered = false ∨ s.phaseOn ph = false →
    Answers (.lscPhaseSample ph c) s fun t =>
      t = s) ∧
  (∀ (ph : Fin 4) (again : Bool) (s : State),
    s.lscPowered = true →
    s.rd LSC_STATUS_STATE ≠ 0 →
    Answers (.phaseOvercurrent ph again) s fun t =>
      t.rd (LSC_STATUS_PH_OC ph) = 1 ∧ t.rd (LSC_OC_CNT ph) = s.counted (LSC_OC_CNT ph) ∧
        t.lsc.ocRun[ph] = (if again then s.lsc.ocRun[ph] + 1 else 1)) ∧
  (∀ (ph : Fin 4) (again : Bool) (s : State),
    s.lscPowered = false →
    Answers (.phaseOvercurrent ph again) s fun t =>
      t = s) ∧
  (∀ (ph : Fin 4) (again : Bool) (s : State),
    s.rd LSC_STATUS_STATE = 0 →
    Answers (.phaseOvercurrent ph again) s fun t =>
      t = s) ∧
  (∀ (s : State),
    s.rd LSC_STATUS_STATE ≠ 0 →
    s.lscPowered = true →
    s.lsc.ocRun.toList.any (fun n => decide (max 1 (s.rd LSC_PROT1_OC_CNT) ≤ n)) = true →
    Answers (.persistentOvercurrent) s fun t =>
      t.rd LSC_STATUS_OC = 1 ∧ t.rd LSC_STATUS_STATE = 0 ∧ t.rd LSC_CTRL_EN = 0 ∧ t.fired 84 ∧ t.hasRaised FLT_LSC_OC) ∧
  (∀ (s : State),
    s.rd LSC_STATUS_STATE = 0 →
    s.on LSC_STATUS_OC = false →
    s.lscPowered = true →
    s.lsc.ocRun.toList.any (fun n => decide (max 1 (s.rd LSC_PROT1_OC_CNT) ≤ n)) = true →
    Answers (.persistentOvercurrent) s fun t =>
      t.rd LSC_STATUS_OC = 1 ∧ t.rd LSC_STATUS_STATE = 0 ∧ t.hasRaised FLT_LSC_OC) ∧
  (∀ (s : State),
    s.rd LSC_STATUS_STATE = 0 →
    s.on LSC_STATUS_OC = true →
    s.lscPowered = true →
    s.lsc.ocRun.toList.any (fun n => decide (max 1 (s.rd LSC_PROT1_OC_CNT) ≤ n)) = true →
    Answers (.persistentOvercurrent) s fun t =>
      t = s) ∧
  (∀ (s : State),
    s.lsc.ocRun.toList.any (fun n => decide (max 1 (s.rd LSC_PROT1_OC_CNT) ≤ n)) = false →
    Answers (.persistentOvercurrent) s fun t =>
      t = s) ∧
  (∀ (s : State),
    s.lscPowered = false →
    Answers (.persistentOvercurrent) s fun t =>
      t = s) ∧
  (∀ (s : State),
    s.rd LSC_STATUS_STATE ≠ 0 →
    s.lscPowered = true →
    Answers (.overVoltage) s fun t =>
      t.rd LSC_STATUS_OV = 1 ∧ t.rd LSC_STATUS_STATE = 0 ∧ t.rd LSC_CTRL_EN = 0 ∧ t.fired 84 ∧ t.hasRaised FLT_LSC_OV) ∧
  (∀ (s : State),
    s.rd LSC_STATUS_STATE = 0 →
    s.on LSC_STATUS_OV = false →
    s.lscPowered = true →
    Answers (.overVoltage) s fun t =>
      t.rd LSC_STATUS_OV = 1 ∧ t.rd LSC_STATUS_STATE = 0 ∧ t.hasRaised FLT_LSC_OV) ∧
  (∀ (s : State),
    s.rd LSC_STATUS_STATE = 0 →
    s.on LSC_STATUS_OV = true →
    s.lscPowered = true →
    Answers (.overVoltage) s fun t =>
      t = s) ∧
  (∀ (s : State),
    s.lscPowered = false →
    Answers (.overVoltage) s fun t =>
      t = s) ∧
  (∀ (s : State),
    s.rd LSC_STATUS_STATE ≠ 0 →
    s.lscPowered = true →
    decide (max 1 (s.rd LSC_PROT0_UV_US) * 10 ≤ s.lsc.uvRun) = true →
    Answers (.underVoltage) s fun t =>
      t.rd LSC_STATUS_UV = 1 ∧ t.rd LSC_STATUS_STATE = 0 ∧ t.rd LSC_CTRL_EN = 0 ∧ t.fired 84 ∧ t.hasRaised FLT_LSC_UV) ∧
  (∀ (s : State),
    s.rd LSC_STATUS_STATE = 0 →
    s.on LSC_STATUS_UV = false →
    s.lscPowered = true →
    decide (max 1 (s.rd LSC_PROT0_UV_US) * 10 ≤ s.lsc.uvRun) = true →
    Answers (.underVoltage) s fun t =>
      t.rd LSC_STATUS_UV = 1 ∧ t.rd LSC_STATUS_STATE = 0 ∧ t.hasRaised FLT_LSC_UV) ∧
  (∀ (s : State),
    s.rd LSC_STATUS_STATE = 0 →
    s.on LSC_STATUS_UV = true →
    s.lscPowered = true →
    decide (max 1 (s.rd LSC_PROT0_UV_US) * 10 ≤ s.lsc.uvRun) = true →
    Answers (.underVoltage) s fun t =>
      t = s) ∧
  (∀ (s : State),
    decide (max 1 (s.rd LSC_PROT0_UV_US) * 10 ≤ s.lsc.uvRun) = false →
    Answers (.underVoltage) s fun t =>
      t = s) ∧
  (∀ (s : State),
    s.lscPowered = false →
    Answers (.underVoltage) s fun t =>
      t = s) ∧
  (∀ (s : State),
    s.rd LSC_STATUS_STATE ≠ 0 →
    s.lscPowered = true →
    Answers (.stageFault) s fun t =>
      t.rd LSC_STATUS_EXT = 1 ∧ t.rd LSC_STATUS_STATE = 0 ∧ t.rd LSC_CTRL_EN = 0 ∧ t.fired 84 ∧ t.hasRaised FLT_LSC_EXT) ∧
  (∀ (s : State),
    s.rd LSC_STATUS_STATE = 0 →
    s.on LSC_STATUS_EXT = false →
    s.lscPowered = true →
    Answers (.stageFault) s fun t =>
      t.rd LSC_STATUS_EXT = 1 ∧ t.rd LSC_STATUS_STATE = 0 ∧ t.hasRaised FLT_LSC_EXT) ∧
  (∀ (s : State),
    s.rd LSC_STATUS_STATE = 0 →
    s.on LSC_STATUS_EXT = true →
    s.lscPowered = true →
    Answers (.stageFault) s fun t =>
      t = s) ∧
  (∀ (s : State),
    s.lscPowered = false →
    Answers (.stageFault) s fun t =>
      t = s)

/-- The thermal model, its sensors, and what die temperature does. THM_ENABLE with EN 1 sets EN and RUN and starts the model afresh; with EN 0
it clears both and every Z_T is 255. THM_MODEL_STEP of an enabled model counts the step and keeps the power of the latest 100 steps; a
disabled one is unchanged. THM_TICK of an enabled model acts after 100 steps and starts the count again, else it changes nothing: with
ZTHR_EN each k_z goes by one step, with TTHR_EN and a limit k_tot does, and the effective step and the thermal limit of every zone follow.
THM_SENSOR_SUSPECT marks a sensor whose deviation has lasted 2,000 steps, raises FLT_THM_SENSOR and restarts its count.
THM_MODEL_DEVIATION after 10,000 steps marks the tile, fires event 82 and raises FLT_THM_MODEL. TILE_SENSOR_TIMEOUT makes every sensor of
the silent tile invalid. DIE_TEMP_SAMPLE shows the largest of the four readings. At 115 °C it sets DIE_HOT with event 81 and
FLT_THM_DIE_HOT, below 110 °C it clears DIE_HOT; at 125 °C it sets DIE_OVR with event 81 and FLT_THM_DIE_OVR; at 135 °C shutdown starts,
with cause 6, which waits while an NV write runs; a SYS that is not ON, or is isolated, takes no sample. THERMAL_SHUTDOWN ends regulation
and switches off with the cause given, unless the chip is shut down already. SHUTDOWN_DEFER_LIMIT ends the wait with cause 6,
T_CRIT_COMPARATOR switches off with cause 7. THERMAL_RESTART starts again after a shutdown of cause 6 with SHUT_AUTO set; with no
shutdown, another cause or SHUT_AUTO 0 it does nothing. -/
def Obligations.ThermalModelAndDie : Prop :=
  (∀ (m : Master) (v : Word) (s : State),
    s.accepts m 0x200F0000 →
    v.toNat.testBit 0 = true →
    s.on THM_CTRL_EN = false →
    Answers (.thmEnable m v) s fun t =>
      t.rd THM_CTRL_EN = 1 ∧ t.rd THM_STATUS_RUN = 1 ∧ t.thm.fresh = true) ∧
  (∀ (m : Master) (v : Word) (s : State),
    s.accepts m 0x200F0000 →
    v.toNat.testBit 0 = true →
    s.on THM_CTRL_EN = true →
    Answers (.thmEnable m v) s fun t =>
      t = s.stored m 0x200F0000 v) ∧
  (∀ (m : Master) (v : Word) (g : Fin 192) (s : State),
    s.accepts m 0x200F0000 →
    v.toNat.testBit 0 = false →
    Answers (.thmEnable m v) s fun t =>
      t.rd THM_CTRL_EN = 0 ∧ t.rd THM_STATUS_RUN = 0 ∧ t.rd (THM_ZLIM_ZT g) = 255) ∧
  (∀ (a : Vector (Vector (Fin 4096) 16) 8) (s : State),
    s.on THM_CTRL_EN = true →
    Answers (.thmModelStep a) s fun t =>
      t.thm.steps = s.thm.steps + 1 ∧ t.thm.power.length = min 100 (s.thm.power.length + 1) ∧ t.thm.fresh = false) ∧
  (∀ (a : Vector (Vector (Fin 4096) 16) 8) (s : State),
    s.on THM_CTRL_EN = false →
    Answers (.thmModelStep a) s fun t =>
      t = s) ∧
  (∀ (s : State),
    s.on THM_CTRL_EN = true →
    100 ≤ s.thm.steps →
    Answers (.thmTick) s fun t =>
      t.thm.steps = 0) ∧
  (∀ (g : Fin 192) (s : State),
    s.on THM_CTRL_EN = true →
    100 ≤ s.thm.steps →
    s.lv THM_CTRL_ZTHR_EN ≠ 0 →
    Answers (.thmTick) s fun t =>
      (t.thm.zone[g]).kz = tickZone (s.thm.zone[g]).kz (s.thm.zone[g]).tj (s.lv THM_THR_T_LO) (s.lv THM_THR_T_HI)) ∧
  (∀ (g : Fin 192) (s : State),
    s.on THM_CTRL_EN = true →
    100 ≤ s.thm.steps →
    s.lv THM_CTRL_ZTHR_EN = 0 →
    Answers (.thmTick) s fun t =>
      (t.thm.zone[g]).kz = (s.thm.zone[g]).kz) ∧
  (∀ (s : State),
    s.on THM_CTRL_EN = true →
    100 ≤ s.thm.steps →
    s.lv THM_CTRL_TTHR_EN ≠ 0 →
    s.lv THM_LIMIT_PTOT_MAX ≠ 0 →
    Answers (.thmTick) s fun t =>
      t.rd THM_STATUS_KTOT = tickTotal (s.rd THM_STATUS_KTOT) s.thm.power (s.lv THM_LIMIT_PTOT_MAX)) ∧
  (∀ (g : Fin 192) (s : State),
    s.on THM_CTRL_EN = true →
    100 ≤ s.thm.steps →
    Answers (.thmTick) s fun t =>
      t.rd (THM_ZLIM_K g) = (min (t.thm.zone[g]).kz (t.rd THM_STATUS_KTOT)) % 2 ^ (THM_ZLIM_K g).width ∧
        t.rd (THM_ZLIM_ZT g) = (if min (t.thm.zone[g]).kz (t.rd THM_STATUS_KTOT) = 32 then 255 else max s.zfloor ((t.rd (THM_ZLIM_ZREF g) * (min
      (t.thm.zone[g]).kz (t.rd THM_STATUS_KTOT)) + 16) / 32)) % 2 ^ (THM_ZLIM_ZT g).width) ∧
  (∀ (s : State),
    s.on THM_CTRL_EN = false ∨ s.thm.steps < 100 →
    Answers (.thmTick) s fun t =>
      t = s) ∧
  (∀ (x : Fin 12) (k : Fin 8) (s : State),
    ¬ s.thm.ntcDev[k] ≤ 2000 →
    Answers (.thmSensorSuspect true x k) s fun t =>
      t.rd (THM_SUSPECT_AIN k) = 1 ∧ t.thm.ntcDev[k] = 0 ∧ t.fired 82 ∧ t.hasRaised FLT_THM_SENSOR) ∧
  (∀ (x : Fin 12) (k : Fin 8) (s : State),
    ¬ (s.thm.tile[x]).dev[k] ≤ 2000 →
    Answers (.thmSensorSuspect false x k) s fun t =>
      t.rd (tsSuspect x k) = 1 ∧ (t.thm.tile[x]).dev[k] = 0 ∧ t.fired 82 ∧ t.hasRaised FLT_THM_SENSOR) ∧
  (∀ (x : Fin 12) (k : Fin 8) (s : State),
    s.thm.ntcDev[k] ≤ 2000 →
    Answers (.thmSensorSuspect true x k) s fun t =>
      t = s) ∧
  (∀ (x : Fin 12) (s : State),
    ¬ (s.thm.tile[x]).model ≤ 10000 →
    Answers (.thmModelDeviation x) s fun t =>
      t.rd (THM_SUSPECT_MODEL x) = 1 ∧ t.fired 82 ∧ t.hasRaised FLT_THM_MODEL) ∧
  (∀ (x : Fin 12) (s : State),
    (s.thm.tile[x]).model ≤ 10000 →
    Answers (.thmModelDeviation x) s fun t =>
      t = s) ∧
  (∀ (p x : Fin 12) (k : Fin 8) (s : State) (i : Image),
    s.image = some i →
    i.tileOf p = some x.val →
    Answers (.tileSensorTimeout p) s fun t =>
      (t.thm.tile[x]).temp[k] = none) ∧
  (∀ (p : Fin 12) (s : State),
    s.image = none →
    Answers (.tileSensorTimeout p) s fun t =>
      t = s) ∧
  (∀ (a b c d : Int) (s : State),
    s.alive 1 = true →
    -32768 ≤ max (max a b) (max c d) →
    max (max a b) (max c d) < 32768 →
    Answers (.dieTempSample a b c d) s fun t =>
      t.rd THM_STATUS_TDIE = unsigned 16 (max (max a b) (max c d)) % 2 ^ 16) ∧
  (∀ (a b c d : Int) (s : State),
    s.alive 1 = true →
    115 * 256 ≤ max (max a b) (max c d) →
    s.on THM_STATUS_DIE_HOT = false →
    Answers (.dieTempSample a b c d) s fun t =>
      t.rd THM_STATUS_DIE_HOT = 1 ∧ t.fired 81 ∧ t.hasRaised FLT_THM_DIE_HOT) ∧
  (∀ (a b c d : Int) (s : State),
    s.alive 1 = true →
    max (max a b) (max c d) < 110 * 256 →
    Answers (.dieTempSample a b c d) s fun t =>
      t.rd THM_STATUS_DIE_HOT = 0) ∧
  (∀ (a b c d : Int) (s : State),
    s.alive 1 = true →
    125 * 256 ≤ max (max a b) (max c d) →
    s.on THM_STATUS_DIE_OVR = false →
    Answers (.dieTempSample a b c d) s fun t =>
      t.rd THM_STATUS_DIE_OVR = 1 ∧ t.fired 81 ∧ t.hasRaised FLT_THM_DIE_OVR) ∧
  (∀ (a b c d : Int) (s : State),
    s.alive 1 = true →
    135 * 256 ≤ max (max a b) (max c d) →
    s.thm.shut = false →
    s.cal.op.isSome = true →
    Answers (.dieTempSample a b c d) s fun t =>
      t.thm.shut = true ∧ t.thm.defer = true ∧ t.thm.cause = s.thm.cause ∧ t.cal.op = s.cal.op) ∧
  (∀ (a b c d : Int) (s : State),
    s.alive 1 = true →
    135 * 256 ≤ max (max a b) (max c d) →
    s.thm.shut = false →
    s.cal.op = none →
    Answers (.dieTempSample a b c d) s fun t =>
      t.thm.shut = true ∧ t.thm.cause = some 6) ∧
  (∀ (s : State),
    s.pwr.shutdown = true →
    Answers (.thermalShutdown) s fun t =>
      t = s) ∧
  (∀ (a b c d : Int) (s : State),
    s.alive 1 = false →
    Answers (.dieTempSample a b c d) s fun t =>
      t = s) ∧
  (∀ (k : Nat) (s : State),
    s.thm.cause = some k →
    s.pwr.shutdown = false →
    Answers (.thermalShutdown) s fun t =>
      t.rd CLKRST_CAUSE_CAUSE = k % 2 ^ 4 ∧ t.pwr.shutdown = true ∧ t.rd FLT_STATUS_PIN = 1 ∧ t.rd LSC_STATUS_STATE = 0) ∧
  (∀ (s : State),
    s.thm.cause = none →
    Answers (.thermalShutdown) s fun t =>
      t = s) ∧
  (∀ (s : State),
    s.thm.defer = true →
    Answers (.shutdownDeferLimit) s fun t =>
      t.thm.defer = false ∧ t.thm.cause = some 6 ∧ t.cal.op = none) ∧
  (∀ (s : State),
    s.thm.defer = false →
    Answers (.shutdownDeferLimit) s fun t =>
      t = s) ∧
  (∀ (s : State),
    Answers (.tCritComparator) s fun t =>
      t.rd CLKRST_CAUSE_CAUSE = 7 ∧ t.pwr.shutdown = true ∧ t.cal.op = none ∧ t.rd FLT_STATUS_PIN = 1) ∧
  (∀ (s : State),
    s.pwr.shutdown = true →
    s.rd CLKRST_CAUSE_CAUSE = 6 →
    s.on THM_CTRL_SHUT_AUTO = true →
    Answers (.thermalRestart) s fun t =>
      t.pwr.cold = true ∧ t.rd CLKRST_CAUSE_CAUSE = 6) ∧
  (∀ (s : State),
    s.pwr.shutdown = false ∨ s.rd CLKRST_CAUSE_CAUSE ≠ 6 ∨ s.on THM_CTRL_SHUT_AUTO = false →
    Answers (.thermalRestart) s fun t =>
      t = s)

/-- Calibration: enable, ADC correction, the triggers of a run, its timeout and the automatic save. CAL_ENABLE with EN 1 on a disabled block
sets EN and asks for an ADC correction, as ADC_CORR_MEASURE does while it is enabled; with EN 0 it clears both. ADC_CORR_DONE with every
range right sets ADC_VALID once, with event 89. CAL_START, the interval timer and a temperature change beyond DT start a run on an enabled
block with none running: RUN is 1, with no samples. CAL_START during a run sets WERR. CAL_RUN_TIMEOUT ends a run with INSUFF, event 88 and
FLT_CAL_INSUFF. AUTO_SAVE_WRITE that is due with the store idle starts a write of record 1. -/
def Obligations.CalibrationRuns : Prop :=
  (∀ (m : Master) (v : Word) (s : State),
    s.accepts m 0x20100000 →
    v.toNat.testBit 0 = true →
    s.on CAL_CTRL_EN = false →
    Answers (.calEnable m v) s fun t =>
      t.rd CAL_CTRL_EN = 1 ∧ t.cal.corr = true) ∧
  (∀ (m : Master) (v : Word) (s : State),
    s.accepts m 0x20100000 →
    v.toNat.testBit 0 = false →
    Answers (.calEnable m v) s fun t =>
      t.rd CAL_CTRL_EN = 0 ∧ t.cal.corr = false) ∧
  (∀ (s : State),
    s.on CAL_CTRL_EN = true →
    Answers (.adcCorrMeasure) s fun t =>
      t.cal.corr = true) ∧
  (∀ (s : State),
    s.on CAL_CTRL_EN = false →
    Answers (.adcCorrMeasure) s fun t =>
      t = s) ∧
  (∀ (z c : List (BitVec 18)) (l : List (Fin 4096)) (s : State),
    s.cal.corr = true →
    ({ s with cal := { s.cal with corr := false, calp := s.calpTaken l } }.adcRanges z c).adcAllOk = true →
    s.on CAL_STATUS_ADC_VALID = false →
    Answers (.adcCorrDone z c l) s fun t =>
      t.rd CAL_STATUS_ADC_VALID = 1 ∧ t.fired 89) ∧
  (∀ (z c : List (BitVec 18)) (l : List (Fin 4096)) (s : State),
    s.cal.corr = false →
    Answers (.adcCorrDone z c l) s fun t =>
      t = s) ∧
  (∀ (m : Master) (v : Word) (s : State),
    s.accepts m 0x20100000 →
    v.toNat.testBit 1 = true →
    s.on CAL_STATUS_RUN = false →
    s.on CAL_CTRL_EN = true →
    (s.stored m 0x20100000 v).understudy = false →
    Answers (.calStart m v) s fun t =>
      t.rd CAL_STATUS_RUN = 1 ∧ t.rd CAL_CTRL_START = 1 ∧ t.rd CAL_STATUS_BLOCK = 0 ∧ t.cal.samples = []) ∧
  (∀ (m : Master) (v : Word) (s : State),
    s.accepts m 0x20100000 →
    v.toNat.testBit 1 = true →
    s.on CAL_STATUS_RUN = true →
    Answers (.calStart m v) s fun t =>
      t.rd CAL_STATUS_WERR = 1 ∧ t.fired 91 ∧ t.cal = s.cal) ∧
  (∀ (s : State),
    s.on CAL_TRIG_INTERVAL = true →
    s.on CAL_STATUS_RUN = false →
    s.on CAL_CTRL_EN = true →
    s.understudy = false →
    Answers (.calIntervalTimer) s fun t =>
      t.rd CAL_STATUS_RUN = 1 ∧ t.rd CAL_STATUS_BLOCK = 0 ∧ t.cal.samples = []) ∧
  (∀ (s : State),
    s.on CAL_TRIG_INTERVAL = false →
    Answers (.calIntervalTimer) s fun t =>
      t = s) ∧
  (∀ (s : State) (x : Int),
    s.tm = some x →
    s.on CAL_CTRL_TEMP_TRIG = true →
    s.on CAL_STATUS_KI_VALID = true →
    max 1 (s.rd CAL_TRIG_DT) * 256 < (x - signed 16 (s.rd CAL_LAST_TEMP_TEMP)).natAbs →
    s.on CAL_STATUS_RUN = false →
    s.on CAL_CTRL_EN = true →
    s.understudy = false →
    Answers (.calTempCheck) s fun t =>
      t.rd CAL_STATUS_RUN = 1 ∧ t.cal.samples = []) ∧
  (∀ (s : State),
    s.tm = none →
    Answers (.calTempCheck) s fun t =>
      t = s) ∧
  (∀ (s : State),
    s.on CAL_STATUS_RUN = true →
    Answers (.calRunTimeout) s fun t =>
      t.rd CAL_STATUS_RUN = 0 ∧ t.rd CAL_STATUS_INSUFF = 1 ∧ t.fired 88 ∧ t.hasRaised FLT_CAL_INSUFF ∧ t.cal.samples = []) ∧
  (∀ (s : State),
    s.on CAL_STATUS_RUN = false →
    Answers (.calRunTimeout) s fun t =>
      t = s) ∧
  (∀ (s : State),
    s.cal.autoDue = true →
    s.on CAL_NV_STATUS_NV_BUSY = false →
    s.thm.shut = false →
    Answers (.autoSaveWrite) s fun t =>
      t.rd CAL_NV_STATUS_NV_BUSY = 1 ∧ t.cal.autoDue = false ∧ (t.cal.op.map (·.id)) = some 1) ∧
  (∀ (s : State),
    s.cal.autoDue = false →
    Answers (.autoSaveWrite) s fun t =>
      t = s)

/-- External calibration and the non-volatile store. CAL_EXT_START with no run in progress sets BUSY with no steps taken; CAL_EXT_STEP begins
a step while fewer than 8 are taken (log entry 29) and none is in progress; CAL_EXT_FINISH with fewer than 4 whole steps ends with EXT_ERR
code 1; CAL_EXT_ABORT ends with code 5. NV_READ of a record that no copy holds ends with ERR code 1, NV_WRITE of an unlawful length or
record with code 2, and during a thermal shutdown with code 3, busy or not (R272 before R288, log entry 29); a lawful one sets WRITE and
NV_BUSY and keeps the data. While the store is busy NV_READ sets WERR, and so does NV_WRITE outside a shutdown. NV_WRITE_DONE lets a
shutdown that waits for it go on with cause 6. NV_WRITE_DONE ends the write with DONE and event 90, or with ERR code 4 and FLT_CAL_NV. -/
def Obligations.ExternalCalibrationAndStore : Prop :=
  (∀ (m : Master) (v : Word) (s : State),
    s.accepts m 0x20100050 →
    v.toNat.testBit 0 = true →
    s.on CAL_STATUS_RUN = false →
    s.on CAL_EXT_STATUS_BUSY = false →
    (s.stored m 0x20100050 v).understudy = false →
    Answers (.calExtStart m v) s fun t =>
      t.rd CAL_EXT_STATUS_BUSY = 1 ∧ t.rd CAL_EXT_STATUS_STEPS = 0 ∧ t.cal.steps = [] ∧ t.cal.taking = false) ∧
  (∀ (m : Master) (v : Word) (s : State),
    s.accepts m 0x20100050 →
    v.toNat.testBit 0 = true →
    s.on CAL_STATUS_RUN = true →
    Answers (.calExtStart m v) s fun t =>
      t.rd CAL_STATUS_WERR = 1 ∧ t.fired 91 ∧ t.cal = s.cal) ∧
  (∀ (m : Master) (v : Word) (s : State),
    s.accepts m 0x20100050 →
    v.toNat.testBit 1 = true →
    s.on CAL_EXT_STATUS_BUSY = true →
    s.cal.taking = false →
    s.cal.steps.length < 8 →
    Answers (.calExtStep m v) s fun t =>
      t.rd CAL_EXT_CTRL_STEP = 1 ∧ t.cal.taking = true ∧ t.cal.steps = {} :: s.cal.steps) ∧
  (∀ (m : Master) (v : Word) (s : State),
    s.accepts m 0x20100050 →
    v.toNat.testBit 2 = true →
    s.on CAL_EXT_STATUS_BUSY = true →
    (if s.cal.taking then s.cal.steps.drop 1 else s.cal.steps).length < 4 →
    Answers (.calExtFinish m v) s fun t =>
      t.rd CAL_EXT_STATUS_EXT_ERR = 1 ∧ t.rd CAL_EXT_STATUS_CODE = 1 ∧ t.rd CAL_EXT_STATUS_BUSY = 0 ∧ t.fired 88) ∧
  (∀ (m : Master) (v : Word) (s : State) (ki : Nat) (i0 : Int),
    s.accepts m 0x20100050 →
    v.toNat.testBit 2 = true →
    s.on CAL_EXT_STATUS_BUSY = true →
    s.cal.taking = false →
    4 ≤ s.cal.steps.length →
    8 * s.rd CAL_CFG_XSD_MIN * 65536 ≤ (s.cal.steps.map (fun e => e.x / 16)).foldl max 0 - (s.cal.steps.map (fun e => e.x / 16)).foldl min
      ((s.cal.steps.map (fun e => e.x / 16)).foldl max 0) →
    131072 ≤ extScorr s.cal.steps * 10 ∧ extScorr s.cal.steps ≤ 20480 →
    ((s.stored m 0x20100050 v).calEval (s.cal.steps.map (fun e => (e.x / 16, e.i / 16))) false).1 = .passed ki i0 →
    ki < 2 ^ 32 →
    Answers (.calExtFinish m v) s fun t =>
      t.rd CAL_EXT_STATUS_EXT_DONE = 1 ∧ t.rd CAL_EXT_STATUS_BUSY = 0 ∧ t.rd CAL_STATUS_KI_VALID = 1 ∧ t.rd CAL_KI_KI = ki ∧
        t.rd CAL_I0_SCORR = extScorr s.cal.steps) ∧
  (∀ (m : Master) (v : Word) (s : State),
    s.accepts m 0x20100050 →
    v.toNat.testBit 3 = true →
    s.on CAL_EXT_STATUS_BUSY = true →
    Answers (.calExtAbort m v) s fun t =>
      t.rd CAL_EXT_STATUS_EXT_ERR = 1 ∧ t.rd CAL_EXT_STATUS_CODE = 5 ∧ t.rd CAL_EXT_STATUS_BUSY = 0 ∧ t.fired 88) ∧
  (∀ (m : Master) (v : Word) (s : State),
    s.accepts m 0x20100080 →
    v.toNat.testBit 24 = true →
    s.on CAL_NV_STATUS_NV_BUSY = false →
    (s.stored m 0x20100080 v).nvNewer ((s.stored m 0x20100080 v).rd CAL_NV_CTRL_ID) = none →
    Answers (.nvRead m v) s fun t =>
      t.rd CAL_NV_STATUS_ERR = 1 ∧ t.rd CAL_NV_STATUS_CODE = 1 ∧ t.fired 90) ∧
  (∀ (m : Master) (v : Word) (s : State) (b : Bool) (q : Nat) (d : List Byte),
    s.accepts m 0x20100080 →
    v.toNat.testBit 24 = true →
    s.on CAL_NV_STATUS_NV_BUSY = false →
    (s.stored m 0x20100080 v).nvNewer ((s.stored m 0x20100080 v).rd CAL_NV_CTRL_ID) = some b →
    (s.stored m 0x20100080 v).nvCopy ((s.stored m 0x20100080 v).rd CAL_NV_CTRL_ID) b = some (q, d) →
    Answers (.nvRead m v) s fun t =>
      t.rd CAL_NV_STATUS_DONE = 1 ∧ t.rd CAL_NV_SEQ_SEQ = q % 2 ^ 32 ∧ t.cal.window = nvStore s.cal.window 0 d ∧ t.fired 90) ∧
  (∀ (m : Master) (v : Word) (s : State),
    s.accepts m 0x20100080 →
    v.toNat.testBit 24 = true →
    s.on CAL_NV_STATUS_NV_BUSY = true →
    Answers (.nvRead m v) s fun t =>
      t.rd CAL_STATUS_WERR = 1 ∧ t.fired 91 ∧ t.cal = s.cal) ∧
  (∀ (m : Master) (v : Word) (s : State),
    s.accepts m 0x20100080 →
    v.toNat.testBit 25 = true →
    s.thm.shut = false →
    s.on CAL_NV_STATUS_NV_BUSY = false →
    2028 < (s.stored m 0x20100080 v).rd CAL_NV_CTRL_LEN ∨ (s.stored m 0x20100080 v).rd CAL_NV_CTRL_ID = 0 ∨
      0x1F < (s.stored m 0x20100080 v).rd CAL_NV_CTRL_ID →
    Answers (.nvWrite m v) s fun t =>
      t.rd CAL_NV_STATUS_ERR = 1 ∧ t.rd CAL_NV_STATUS_CODE = 2 ∧ t.fired 90 ∧ t.cal.op = s.cal.op) ∧
  (∀ (m : Master) (v : Word) (s : State),
    s.accepts m 0x20100080 →
    v.toNat.testBit 25 = true →
    s.on CAL_NV_STATUS_NV_BUSY = false →
    (s.stored m 0x20100080 v).rd CAL_NV_CTRL_LEN ≤ 2028 →
    1 ≤ (s.stored m 0x20100080 v).rd CAL_NV_CTRL_ID ∧ (s.stored m 0x20100080 v).rd CAL_NV_CTRL_ID ≤ 0x1F →
    s.thm.shut = false →
    Answers (.nvWrite m v) s fun t =>
      t.rd CAL_NV_CTRL_WRITE = 1 ∧ t.rd CAL_NV_STATUS_NV_BUSY = 1 ∧ (t.cal.op.map (·.id)) = some ((s.stored m 0x20100080 v).rd CAL_NV_CTRL_ID)) ∧
  (∀ (k : Bool) (s : State) (o : NvOp),
    s.cal.op = some o →
    s.thm.defer = true →
    Answers (.nvWriteDone k) s fun t =>
      t.thm.defer = false ∧ t.thm.cause = some 6 ∧ t.cal.op = none) ∧
  (∀ (m : Master) (v : Word) (s : State),
    s.accepts m 0x20100080 →
    v.toNat.testBit 25 = true →
    s.thm.shut = true →
    Answers (.nvWrite m v) s fun t =>
      t.rd CAL_NV_STATUS_ERR = 1 ∧ t.rd CAL_NV_STATUS_CODE = 3 ∧ t.fired 90 ∧ t.cal.op = s.cal.op) ∧
  (∀ (m : Master) (v : Word) (s : State),
    s.accepts m 0x20100080 →
    v.toNat.testBit 25 = true →
    s.on CAL_NV_STATUS_NV_BUSY = true →
    s.thm.shut = false →
    Answers (.nvWrite m v) s fun t =>
      t.rd CAL_STATUS_WERR = 1 ∧ t.fired 91 ∧ t.cal = s.cal) ∧
  (∀ (s : State) (o : NvOp),
    s.cal.op = some o →
    s.thm.defer = false →
    Answers (.nvWriteDone true) s fun t =>
      t.rd CAL_NV_STATUS_DONE = 1 ∧ t.rd CAL_NV_STATUS_NV_BUSY = 0 ∧ t.rd CAL_NV_CTRL_WRITE = 0 ∧ t.cal.op = none ∧ t.fired 90) ∧
  (∀ (s : State) (o : NvOp),
    s.cal.op = some o →
    s.thm.defer = false →
    Answers (.nvWriteDone false) s fun t =>
      t.rd CAL_NV_STATUS_ERR = 1 ∧ t.rd CAL_NV_STATUS_CODE = 4 ∧ t.rd CAL_NV_STATUS_NV_BUSY = 0 ∧ t.cal.op = none ∧ t.hasRaised FLT_CAL_NV) ∧
  (∀ (k : Bool) (s : State),
    s.cal.op = none →
    Answers (.nvWriteDone k) s fun t =>
      t = s)

/-- Time captures, the pulse per second and cues. TIME_CAPTURE_EDGE of an edge that the input selects takes the time of its domain into the
queue while fewer than 8 wait, and fires event 57 on the first; with 8 waiting it sets CAP_OVF and fires event 62; an edge not selected
changes nothing. TIME_CAP_INFO_READ takes the front entry. PPS_EDGE with PPS enabled on an enabled domain drives the output high and fires
event 56; PPS_FALL drives it low. CUE_FIRE of a cue that is due fires its event and drives its pin as selected; a one-shot cue is then
disarmed. With PIN 2 the output toggles. A cue armed after its time fires late: CUE_LATE is set with event 62, and a periodic cue goes on
at the next time of its series after the present. CUE_PULSE_END drives the pin of a running pulse low, and changes nothing where none
runs. -/
def Obligations.CapturesPpsAndCues : Prop :=
  (∀ (k : Fin 4) (b : Bool) (s : State),
    (s.rd (TIME_CAP_EDGE k)).testBit (if b then 0 else 1) = true →
    8 ≤ (s.time.cap[k]).length →
    Answers (.timeCaptureEdge k b) s fun t =>
      t.rd (TIME_STATUS_CAP_OVF k) = 1 ∧ t.fired 62 ∧ t.time = s.time) ∧
  (∀ (k : Fin 4) (b : Bool) (s : State),
    (s.rd (TIME_CAP_EDGE k)).testBit (if b then 0 else 1) = true →
    (s.time.cap[k]).length < 8 →
    Answers (.timeCaptureEdge k b) s fun t =>
      t.time.cap[k] = s.time.cap[k] ++
        [{ n := (s.td (Fin.ofNat 2 (s.rd (TIME_CAP_DOM k)))).n, sec := (s.td (Fin.ofNat 2 (s.rd (TIME_CAP_DOM k)))).sec % 2 ^ 16, falling := !b, dom := Fin.ofNat 2 (s.rd (TIME_CAP_DOM k)) }] ∧ (s.time.cap[k] = [] → t.fired 57)) ∧
  (∀ (k : Fin 4) (b : Bool) (s : State),
    (s.rd (TIME_CAP_EDGE k)).testBit (if b then 0 else 1) = false →
    Answers (.timeCaptureEdge k b) s fun t =>
      t = s) ∧
  (∀ (k : Fin 4) (s : State),
    Answers (.timeCapInfoRead k) s fun t =>
      t.time.cap[k] = (s.time.cap[k]).tail) ∧
  (∀ (s : State),
    s.on TIME_PPS_EN = true →
    s.tdOn (Fin.ofNat 2 (s.rd TIME_PPS_DOMAIN)) = true →
    Answers (.ppsEdge) s fun t =>
      t.time.pps = true ∧ t.fired 56) ∧
  (∀ (s : State),
    s.on TIME_PPS_EN = false →
    Answers (.ppsEdge) s fun t =>
      t = s) ∧
  (∀ (s : State),
    Answers (.ppsFall) s fun t =>
      t.time.pps = false ∧ t.regs = s.regs) ∧
  (∀ (k : Fin 2) (s : State) (x : Nat),
    s.time.cueNext[k] = some x →
    x ≤ s.cueNow (s.cueDom k) →
    s.time.cueLate[k] = false →
    Answers (.cueFire k) s fun t =>
      t.fired (58 + k) ∧ t.time.cueNext[k] = (if s.cuePeriod k = 0 then none else some (x + s.cuePeriod k)) ∧ (s.rd (TIME_CUE_CTRL_PIN k) = 1 →
        t.time.tsout[k] = true ∧ t.time.pulse[k] = true)) ∧
  (∀ (k : Fin 2) (s : State),
    s.time.cueNext[k] = none →
    Answers (.cueFire k) s fun t =>
      t = s) ∧
  (∀ (k : Fin 2) (s : State),
    s.time.pulse[k] = true →
    Answers (.cuePulseEnd k) s fun t =>
      t.time.tsout[k] = false ∧ t.time.pulse[k] = false ∧ t.regs = s.regs) ∧
  (∀ (k : Fin 2) (s : State),
    s.time.pulse[k] = false →
    Answers (.cuePulseEnd k) s fun t =>
      t = s) ∧
  (∀ (k : Fin 2) (s : State) (x : Nat),
    s.time.cueNext[k] = some x →
    x ≤ s.cueNow (s.cueDom k) →
    s.rd (TIME_CUE_CTRL_PIN k) = 2 →
    Answers (.cueFire k) s fun t =>
      t.fired (58 + k) ∧ t.time.tsout[k] = !s.time.tsout[k] ∧ t.time.pulse = s.time.pulse) ∧
  (∀ (k : Fin 2) (s : State) (x : Nat),
    s.time.cueNext[k] = some x →
    x ≤ s.cueNow (s.cueDom k) →
    s.time.cueLate[k] = true →
    Answers (.cueFire k) s fun t =>
      t.fired (58 + k) ∧ t.rd (TIME_STATUS_CUE_LATE k) = 1 ∧ t.fired 62 ∧
        t.time.cueNext[k] = if s.cuePeriod k = 0 then none else some (nextCue x (s.cuePeriod k) (s.cueNow (s.cueDom k))))

/-- Network ports: enable, link changes, kicks, MDIO, and frames of a port that is off or a ring that cannot go on. NET_ENABLE with EN 1
enables a port that is not fenced, and on a fenced port sets WERR with event 54; with EN 0 it disables the port. NET_LINK_CHANGE shows
link and speed (none while down), fires the link event of the port on a change, and raises FLT_NET_LINK where an enabled port loses its
link. NET_RX_KICK restarts a receive ring that no DMA error stopped; NET_TX_KICK on an enabled port starts the transmit ring. NET_FRAME_RX
counts a frame that fails its checks, counts an overflow with RX_OVF and event 54, and does nothing on a port that is off or has no link,
nor, under LOOPBACK of its lane, with a frame that the port has not sent itself. A frame that passes and fits one block of a buffer in
shared SRAM is stored there, the descriptor is written back with its length and HW 0, the head moves on, the count rises and the receive
event fires once its hold-off has passed. NET_FRAME_TX with the descriptor unreadable stops the ring with DMA_ERR and FLT_NET_DMA; a plain
frame of shared SRAM leaves, padded and with its FCS, the descriptor is written back with its status and HW 0, the head moves on, the
count rises and the transmit event fires. MDIO_ACCESS sets GO, MDIO_DONE clears it and on a read shows the data. -/
def Obligations.NetPortCommands : Prop :=
  (∀ (n : Fin 2) (m : Master) (v : Word) (s : State),
    s.accepts m (netCtrl n) →
    v.toNat.testBit 0 = true →
    s.on (FLT_FENCE_NET n) = false →
    Answers (.netEnable n m v) s fun t =>
      t.rd (NET_CTRL_EN n) = 1) ∧
  (∀ (n : Fin 2) (m : Master) (v : Word) (s : State),
    s.accepts m (netCtrl n) →
    v.toNat.testBit 0 = true →
    s.on (FLT_FENCE_NET n) = true →
    Answers (.netEnable n m v) s fun t =>
      t.rd (NET_CTRL_EN n) = s.rd (NET_CTRL_EN n) ∧ t.rd (NET_STATUS_WERR n) = 1 ∧ t.fired 54) ∧
  (∀ (n : Fin 2) (m : Master) (v : Word) (s : State),
    s.accepts m (netCtrl n) →
    v.toNat.testBit 0 = false →
    Answers (.netEnable n m v) s fun t =>
      t.rd (NET_CTRL_EN n) = 0) ∧
  (∀ (n : Fin 2) (k : Nat) (fd : Bool) (s : State),
    s.alive 3 = true →
    Answers (.netLinkChange n false k fd) s fun t =>
      t.rd (NET_STATUS_LINK n) = 0 ∧ t.rd (NET_STATUS_SPEED n) = 0 ∧ (s.on (NET_STATUS_LINK n) = true → s.on (NET_CTRL_EN n) = true →
        t.hasRaised FLT_NET_LINK)) ∧
  (∀ (n : Fin 2) (k : Nat) (fd : Bool) (s : State),
    s.alive 3 = true →
    s.on (NET_CTRL_MODE n) = true →
    s.on (NET_STATUS_LINK n) = false →
    Answers (.netLinkChange n true k fd) s fun t =>
      t.rd (NET_STATUS_LINK n) = 1 ∧ t.rd (NET_STATUS_SPEED n) = 3 ∧ t.fired (50 + 3 * n)) ∧
  (∀ (n : Fin 2) (k : Nat) (fd : Bool) (s : State),
    s.alive 3 = true →
    s.on (NET_CTRL_MODE n) = false →
    fd = true →
    k = 1000 →
    Answers (.netLinkChange n true k fd) s fun t =>
      t.rd (NET_STATUS_LINK n) = 1 ∧ t.rd (NET_STATUS_SPEED n) = 2) ∧
  (∀ (n : Fin 2) (m : Master) (v : Word) (s : State),
    s.accepts m (netCtrl n) →
    v.toNat.testBit 7 = true →
    s.on (NET_STATUS_DMA_ERR n) = false →
    Answers (.netRxKick n m v) s fun t =>
      t.net.rxStopped[n] = false) ∧
  (∀ (n : Fin 2) (m : Master) (v : Word) (s : State),
    s.accepts m (netCtrl n) →
    v.toNat.testBit 8 = true →
    s.on (NET_CTRL_EN n) = true →
    s.on (NET_STATUS_DMA_ERR n) = false →
    Answers (.netTxKick n m v) s fun t =>
      t.net.txStopped[n] = false ∧ t.net.txRun[n] = true) ∧
  (∀ (n : Fin 2) (fr : List Byte) (tr : NetTrouble) (e : List (Fin 72 × Byte)) (s : State),
    s.on (NET_CTRL_EN n) = false →
    Answers (.netFrameRx n fr tr e) s fun t =>
      t = s) ∧
  (∀ (n : Fin 2) (fr : List Byte) (tr : NetTrouble) (e : List (Fin 72 × Byte)) (s : State),
    s.netReaches n fr = false →
    Answers (.netFrameRx n fr tr e) s fun t =>
      t = s) ∧
  (∀ (n : Fin 2) (fr : List Byte) (e : List (Fin 72 × Byte)) (s : State),
    s.on (NET_CTRL_EN n) = true →
    s.on (NET_STATUS_LINK n) = true →
    s.netReaches n fr = true →
    Answers (.netFrameRx n fr .overflow e) s fun t =>
      t.rd (NET_STATUS_RX_OVF n) = 1 ∧ t.rd (NET_CNT_ERR_HI n) = s.counted (NET_CNT_ERR_HI n) ∧ t.fired 54) ∧
  (∀ (n : Fin 2) (fr : List Byte) (tr : NetTrouble) (e : List (Fin 72 × Byte)) (s : State),
    s.on (NET_CTRL_EN n) = true →
    s.on (NET_STATUS_LINK n) = true →
    s.netReaches n fr = true →
    tr ≠ .overflow →
    s.frameWhole n fr = false →
    Answers (.netFrameRx n fr tr e) s fun t =>
      t.rd (NET_CNT_RX_HI n) = s.counted (NET_CNT_RX_HI n)) ∧
  (∀ (n : Fin 2) (u : TxTrouble) (s : State),
    s.net.txRun[n] = false →
    Answers (.netFrameTx n u) s fun t =>
      t = s) ∧
  (∀ (n : Fin 2) (u : TxTrouble) (s : State),
    s.on (NET_CTRL_EN n) = true →
    s.net.txRun[n] = true →
    s.net.txStopped[n] = false →
    s.net.pause[n] ≤ s.now →
    s.readable (s.txDesc n) = false →
    Answers (.netFrameTx n u) s fun t =>
      t.rd (NET_STATUS_DMA_ERR n) = 1 ∧ t.net.txStopped[n] = true ∧ t.hasRaised FLT_NET_DMA) ∧
  (∀ (n : Fin 2) (u : TxTrouble) (s : State),
    s.on (NET_CTRL_EN n) = true →
    s.net.txRun[n] = true →
    s.net.txStopped[n] = false →
    s.net.pause[n] ≤ s.now →
    s.readable (s.txDesc n) = true →
    u ≠ .descriptor →
    (s.byte (s.txDesc n + 5)).toNat.testBit 0 = false →
    Answers (.netFrameTx n u) s fun t =>
      t.net.txRun[n] = false) ∧
  (∀ (n : Fin 2) (a l : Nat) (s : State),
    s.on (NET_CTRL_EN n) = true →
    s.net.txRun[n] = true →
    s.net.txStopped[n] = false →
    s.net.pause[n] ≤ s.now →
    s.byte (s.txDesc n + 5) = 1 →
    s.num (s.txDesc n) 5 % 2 ^ 36 = a →
    s.num (s.txDesc n + 6) 2 = l →
    14 ≤ l →
    l ≤ s.maxLen n - 4 →
    inShared a l = true →
    s.canRead a l = true →
    inShared (s.txDesc n) 32 = true →
    s.chipWritable (.netDma n) (s.txDesc n) = true →
    s.protectedFrom (.master (.netDma n)) (s.txDesc n + 12) = false →
    s.protectedFrom (.master (.netDma n)) (s.txDesc n + 5) = false →
    Answers (.netFrameTx n .none) s fun t =>
      t.net.out[n] = s.net.out[n] ++ [padFrame (s.bytes a l) ++ leBytes 4 (crc32 (padFrame (s.bytes a l)))] ∧ t.byte (s.txDesc n + 5) = 0 ∧
        t.num (s.txDesc n + 28) 2 % 16 = 1 ∧ t.rd (NET_HEAD_TX_HEAD n) = (s.rd (NET_HEAD_TX_HEAD n) + 1) % ringSize (s.rd (NET_TXRING_SIZE n)) ∧
      t.rd (NET_CNT_TX_LO n) = s.counted (NET_CNT_TX_LO n) ∧ t.fired (49 + 3 * n)) ∧
  (∀ (n : Fin 2) (x f : List Byte) (a : Nat) (s : State),
    s.on (NET_CTRL_EN n) = true →
    s.on (NET_STATUS_LINK n) = true →
    s.netReaches n x = true →
    s.frameWhole n x = true →
    x.take (x.length - 4) = f →
    s.on (NET_CTRL_PAUSE_EN n) = false →
    s.vlanOk n f = true →
    s.addrPass n f = true →
    s.on (NET_CTRL_PRP_EN 0) = false →
    s.safeOf f = none →
    s.net.rxStopped[n] = false →
    (s.byte (s.rxDesc n + 5)).toNat.testBit 0 = true →
    s.num (s.rxDesc n) 5 % 2 ^ 36 = a →
    f.length ≤ s.num (s.rxDesc n + 6) 2 →
    a % 64 + f.length ≤ 64 →
    inShared a f.length = true →
    (s.slotsOf a f.length).all (fun k => !s.slotBlocks k (s.actsFor (.netDma n))) = true →
    s.chipWritable (.netDma n) a = true →
    s.protectedFrom (.master (.netDma n)) a = false →
    inShared (s.rxDesc n) 32 = true →
    s.chipWritable (.netDma n) (s.rxDesc n) = true →
    s.protectedFrom (.master (.netDma n)) (s.rxDesc n + 8) = false →
    s.protectedFrom (.master (.netDma n)) (s.rxDesc n + 5) = false →
    s.rxDesc n + 32 ≤ a ∨ a + f.length ≤ s.rxDesc n →
    Answers (.netFrameRx n x .none []) s fun t =>
      t.bytes a f.length = f ∧ t.byte (s.rxDesc n + 5) = 0 ∧ t.num (s.rxDesc n + 8) 2 = f.length ∧
        t.rd (NET_HEAD_RX_HEAD n) = (s.rd (NET_HEAD_RX_HEAD n) + 1) % ringSize (s.rd (NET_RXRING_SIZE n)) ∧
      t.rd (NET_CNT_RX_LO n) = s.counted (NET_CNT_RX_LO n) ∧ (s.rxDue n = true → t.fired (48 + 3 * n))) ∧
  (∀ (m : Master) (v : Word) (s : State),
    s.accepts m 0x201100A0 →
    v.toNat.testBit 31 = true →
    Answers (.mdioAccess m v) s fun t =>
      t.rd (NET_MDIO_CMD_GO 0) = 1) ∧
  (∀ (d : Nat) (s : State),
    s.on (NET_MDIO_CMD_GO 0) = true →
    s.rd (NET_MDIO_CMD_OP 0) = 2 →
    Answers (.mdioDone d) s fun t =>
      t.rd (NET_MDIO_CMD_GO 0) = 0 ∧ t.rd (NET_MDIO_DATA_DATA 0) = d % 2 ^ 16) ∧
  (∀ (d : Nat) (s : State),
    s.on (NET_MDIO_CMD_GO 0) = false →
    Answers (.mdioDone d) s fun t =>
      t = s)

/-- The pair: forming, roles, probes, beats, comparison of frames and time-out. PAIR_ENABLE with EN 1 on a block that is off sets EN, clears
LEAD and VER_CODE, makes the state 1 and forgets what was received; EN 0 on one that is on clears EN, LEAD and IN_SYNC and makes the state
0. (STATE 1 from EN, and LEAD cleared with EN, are choices of the model, log entry 33.) PAIR_HELLO_SEND sends a HELLO while EN is 1,
nothing has been heard, and the state is 1 with the lane locked; otherwise it changes nothing. PAIR_HELLO_RX of an enabled block: the
first one marks the partner heard and is answered by one HELLO; in state 1 a HELLO that fits makes the state 2 and decides a role that is
not decided yet (lead where no other claims it and the tile port is 0), any other the state 3 with its VER_CODE and FLT_PAIR_VER.
ROLE_DECISION takes place once, and shows LEAD as decided. PAIR_PROBE of a paired unit sends eight packets and keeps the averaged round
trip. BEAT_RX of an enabled block shows the partner's epoch and marks it alive; a lead, in whatever state of the pair (log entry 33), that
sees a beat of a lead with a higher epoch clears LEAD and raises FLT_PAIR_DEMOTE; an understudy in sync that sees FAULTY takes over.
PAIR_CRC_RX keeps a record with no own counterpart; one that differs from its counterpart, neither aborted, sets DIVERGE, clears IN_SYNC,
counts it, fires event 106 and raises FLT_PAIR_DIVERGE. PAIR_MSG_RX appends the payload to the inbox and fires event 109.
PAIR_SILENCE_TIMEOUT while ARMED raises FLT_PAIR_LOST and FLT_PAIR_TAKEOVER and sets LEAD; otherwise it changes nothing.
PARTNER_LANE_PACKET_ERROR of an enabled block counts a packet with a wrong trailer, and nothing of one cut short; an IDLE counts as heard,
and one with PROBE is answered by an IDLE with PROBE and the same ID. -/
def Obligations.PairFormingAndComparison : Prop :=
  (∀ (m : Master) (v : Word) (s : State),
    s.accepts m 0x20150000 →
    v.toNat.testBit 0 = true →
    s.on PAIR_CTRL_EN = false →
    Answers (.pairEnable m v) s fun t =>
      t.rd PAIR_CTRL_EN = 1 ∧ t.rd PAIR_STATUS_LEAD = 0 ∧ t.rd PAIR_STATUS_VER_CODE = 0 ∧ t.rd PAIR_STATUS_STATE = 1 ∧ t.pair.heard = false ∧
        t.pair.decided = false) ∧
  (∀ (m : Master) (v : Word) (s : State),
    s.accepts m 0x20150000 →
    v.toNat.testBit 0 = true →
    s.on PAIR_CTRL_EN = true →
    Answers (.pairEnable m v) s fun t =>
      t = s.stored m 0x20150000 v) ∧
  (∀ (m : Master) (v : Word) (s : State),
    s.accepts m 0x20150000 →
    v.toNat.testBit 0 = false →
    s.on PAIR_CTRL_EN = true →
    Answers (.pairEnable m v) s fun t =>
      t.rd PAIR_CTRL_EN = 0 ∧ t.rd PAIR_STATUS_LEAD = 0 ∧ t.rd PAIR_STATUS_IN_SYNC = 0 ∧ t.rd PAIR_STATUS_STATE = 0) ∧
  (∀ (s : State),
    s.on PAIR_CTRL_EN = true →
    s.rd PAIR_STATUS_STATE = 1 →
    s.on (LANE_STATUS_BLOCK_LOCK 12) = true →
    s.pair.heard = false →
    Answers (.pairHelloSend) s fun t =>
      t = s.pairHello false) ∧
  (∀ (s : State),
    s.on PAIR_CTRL_EN = false ∨ s.rd PAIR_STATUS_STATE ≠ 1 ∨ s.on (LANE_STATUS_BLOCK_LOCK 12) = false ∨ s.pair.heard = true →
    Answers (.pairHelloSend) s fun t =>
      t = s) ∧
  (∀ (d c : List Byte) (s : State),
    s.pairIn 0x80 (· == 32) d = some c →
    s.on PAIR_CTRL_EN = true →
    s.pair.heard = false →
    Answers (.pairHelloRx d) s fun t =>
      t.pair.heard = true ∧ t.pair.out = (s.pairHello false).pair.out) ∧
  (∀ (d c : List Byte) (s : State),
    s.pairIn 0x80 (· == 32) d = some c →
    s.on PAIR_CTRL_EN = true →
    s.rd PAIR_STATUS_STATE = 1 →
    s.helloCode c = 0 →
    Answers (.pairHelloRx d) s fun t =>
      t.rd PAIR_STATUS_STATE = 2 ∧ t.pair.heard = true ∧ t.pair.decided = true ∧ (s.pair.decided = false →
        t.rd PAIR_STATUS_LEAD = b2n (!s.otherClaimed && s.tilePort == 0))) ∧
  (∀ (d c : List Byte) (s : State),
    s.pairIn 0x80 (· == 32) d = some c →
    s.on PAIR_CTRL_EN = true →
    s.rd PAIR_STATUS_STATE = 1 →
    s.helloCode c ≠ 0 →
    Answers (.pairHelloRx d) s fun t =>
      t.rd PAIR_STATUS_STATE = 3 ∧ t.rd PAIR_STATUS_VER_CODE = s.helloCode c ∧ t.hasRaised FLT_PAIR_VER) ∧
  (∀ (d : List Byte) (s : State),
    s.pairIn 0x80 (· == 32) d = none →
    Answers (.pairHelloRx d) s fun t =>
      t = s) ∧
  (∀ (s : State),
    s.on PAIR_CTRL_EN = true →
    s.pair.decided = false →
    Answers (.roleDecision) s fun t =>
      t.pair.decided = true ∧ t.rd PAIR_STATUS_LEAD = b2n s.startsLead) ∧
  (∀ (s : State),
    s.pair.decided = true →
    Answers (.roleDecision) s fun t =>
      t = s) ∧
  (∀ (x : List Nat) (s : State),
    s.on PAIR_CTRL_EN = true →
    s.rd PAIR_STATUS_STATE = 2 →
    s.on (LANE_CTRL_IDLE_REQ 12) = false →
    s.laneTest 12 = false →
    s.pair.regQueue = [] →
    Answers (.pairProbe x) s fun t =>
      t.pair.out.length = s.pair.out.length + 8 ∧ t.pair.out.take s.pair.out.length = s.pair.out ∧
        t.pair.rtt = (x.foldl (· + ·) 0 + 4) / 8 * (if s.on PAIR_CTRL_RATE then 20 else 40)) ∧
  (∀ (d c : List Byte) (s : State),
    s.pairIn 0x81 (· == 24) d = some c →
    s.on PAIR_CTRL_EN = true →
    s.understudy = false →
    s.on PAIR_STATUS_LEAD = false ∨ (byteAt c 15).testBit 2 = false ∨ leAt c 12 3 ≤ s.pairEpoch →
    Answers (.beatRx d) s fun t =>
      t.rd PAIR_EPOCH_PEER = leAt c 12 3 % 2 ^ PAIR_EPOCH_PEER.width ∧ t.pair.live = true) ∧
  (∀ (d c : List Byte) (s : State),
    s.pairIn 0x81 (· == 24) d = some c →
    s.on PAIR_CTRL_EN = true →
    s.on PAIR_STATUS_LEAD = true →
    (byteAt c 15).testBit 2 = true →
    s.pairEpoch < leAt c 12 3 →
    Answers (.beatRx d) s fun t =>
      t.rd PAIR_STATUS_LEAD = 0 ∧ t.hasRaised FLT_PAIR_DEMOTE ∧ t.fired 104) ∧
  (∀ (d c : List Byte) (s : State),
    s.pairIn 0x81 (· == 24) d = some c →
    s.on PAIR_CTRL_EN = true →
    s.understudy = true →
    s.on PAIR_STATUS_IN_SYNC = true →
    (byteAt c 15).testBit 0 = true →
    Answers (.beatRx d) s fun t =>
      t.rd PAIR_STATUS_LEAD = 1 ∧ t.hasRaised FLT_PAIR_TAKEOVER ∧ t.fired 104 ∧ t.pair.mute = true) ∧
  (∀ (d c : List Byte) (s : State),
    s.pairIn 0x82 (· == 60) d = some c →
    s.on PAIR_CTRL_EN = true →
    s.rd PAIR_STATUS_STATE = 2 →
    s.pair.own = [] →
    Answers (.pairCrcRx d) s fun t =>
      t.pair.live = true ∧ (t.pair.peer.headD {}).frame = leAt c 0 4 ∧ t.pair.peer.tail = s.pair.peer.take 3) ∧
  (∀ (d c : List Byte) (x : PairCrc) (s : State),
    s.pairIn 0x82 (· == 60) d = some c →
    s.on PAIR_CTRL_EN = true →
    s.rd PAIR_STATUS_STATE = 2 →
    s.pair.own = [x] →
    x.frame = leAt c 0 4 →
    x.ports = leAt c 4 2 →
    x.aborted = false →
    (byteAt c 6).testBit 0 = false →
    x.crc.length = 12 →
    x.crc ≠ (List.range 12).map (fun k => leAt c (8 + 4 * k) 4) →
    Answers (.pairCrcRx d) s fun t =>
      t.rd PAIR_STATUS_DIVERGE = 1 ∧ t.rd PAIR_STATUS_IN_SYNC = 0 ∧ t.rd PAIR_CNT_DIVERGE = s.counted PAIR_CNT_DIVERGE ∧ t.fired 106 ∧
        t.hasRaised FLT_PAIR_DIVERGE ∧ t.pair.run = 0) ∧
  (∀ (d c : List Byte) (s : State),
    s.pairIn 0x8C (fun n => decide (4 ≤ n ∧ n ≤ 1024)) d = some c →
    s.on PAIR_CTRL_EN = true →
    Answers (.pairMsgRx d) s fun t =>
      t.pair.inbox = s.pair.inbox ++ [c] ∧ t.pair.live = true ∧ t.fired 109) ∧
  (∀ (s : State),
    s.on PAIR_STATUS_ARMED = true →
    Answers (.pairSilenceTimeout) s fun t =>
      t.rd PAIR_STATUS_LEAD = 1 ∧ t.hasRaised FLT_PAIR_LOST ∧ t.hasRaised FLT_PAIR_TAKEOVER ∧ t.fired 104) ∧
  (∀ (s : State),
    s.on PAIR_STATUS_ARMED = false →
    Answers (.pairSilenceTimeout) s fun t =>
      t = s) ∧
  (∀ (b : List (BitVec 2 × BitVec 64)) (s : State),
    s.on PAIR_CTRL_EN = true →
    badTrailer b = true →
    Answers (.partnerLanePacketError b) s fun t =>
      t.rd PAIR_CNT_CRC_ERR = s.counted PAIR_CNT_CRC_ERR) ∧
  (∀ (b : List (BitVec 2 × BitVec 64)) (s : State),
    badTrailer b = false →
    partnerIdle b = none →
    Answers (.partnerLanePacketError b) s fun t =>
      t = s) ∧
  (∀ (b : List (BitVec 2 × BitVec 64)) (c : List Byte) (s : State),
    s.on PAIR_CTRL_EN = true →
    partnerIdle b = some (false, c) →
    Answers (.partnerLanePacketError b) s fun t =>
      t = s.pairLive) ∧
  (∀ (b : List (BitVec 2 × BitVec 64)) (c : List Byte) (s : State),
    s.on PAIR_CTRL_EN = true →
    partnerIdle b = some (true, c) →
    s.on (LANE_CTRL_IDLE_REQ 12) = false →
    s.laneTest 12 = false →
    Answers (.partnerLanePacketError b) s fun t =>
      t.pair.out = s.pair.out ++ [tlPacket 0x3F 0x10 s.pairEpoch 0 c]) ∧
  (∀ (b : List (BitVec 2 × BitVec 64)) (s : State),
    s.on PAIR_CTRL_EN = false →
    Answers (.partnerLanePacketError b) s fun t =>
      t = s)

/-- The pair: mirrored registers, commits and state, slots and the dump. Each of these packets, and of the slot packets, is taken by an
enabled understudy alone: any other unit that is enabled marks the partner alive and takes nothing, and one that is not enabled, or that
receives a packet which fails its checks, changes nothing. REG_MIRROR_RX writes each entry, in order, to its register as the pair master.
COMMIT_MIRROR_RX with no block named changes no more than the liveness; with one of LAYER, SA, FT, HLTH and LSC alone it captures the set
that the lead sent at once where frame timing is off, for the boundary named where it is next and none is held; with THM alone the set
waits for the next step of the model. PAIR_THERM_RX holds the 192 temperatures and the frame number; PAIR_ZLIM_RX holds the 192 limits and
the frame number; PAIR_HLTH_RX appends its entries; PAIR_MASK_RX of a frame start, of an enabled and mirrored MASKIN, sets IN_FRAME;
PAIR_STATE_RX shows KI, I0 and SCORR, and sets KI_VALID where KI is not 0 (log entry 33). PAIR_STATE_SEND sends nothing from a unit that
is no lead. PAIR_SLOT_GO with GO 1 of a lead and a slot of the window sends the slot and fires event 108; by a unit that is no lead it
sends nothing. PAIR_SLOT_RX of an understudy that owns the slot for PAIR writes its bytes there, and of any other slot counts a drop.
PAIR_SLOT_END_RX of a slot that PAIR owns, whose length and check value fit and whose new owner PAIR may hand to, gives the slot to it;
any other (log entry 33) sets SLOT_ERR, fires event 108 and leaves the owner. PAIR_DUMP of a lead sends, in REG packets of at most 512
entries, every register with a field that is not RO of every mirrored block, in the order of the register map (log entry 33), with the
word it reads, and then a COMMIT of every mirrored block for the next boundary; by a unit that is no lead it sends nothing. -/
def Obligations.PairMirrorAndSlots : Prop :=
  (∀ (d c : List Byte) (s : State),
    s.pairIn 0x84 (fun n => n % 8 == 0 && decide (8 ≤ n ∧ n ≤ 4096)) d = some c →
    s.on PAIR_CTRL_EN = true →
    s.understudy = false →
    Answers (.regMirrorRx d) s fun t =>
      t = s.pairLive) ∧
  (∀ (d c : List Byte) (s : State),
    s.pairIn 0x83 (· == 8) d = some c →
    s.on PAIR_CTRL_EN = true →
    s.understudy = false →
    Answers (.commitMirrorRx d) s fun t =>
      t = s.pairLive) ∧
  (∀ (d c : List Byte) (s : State),
    s.pairIn 0x85 (· == 388) d = some c →
    s.on PAIR_CTRL_EN = true →
    s.understudy = false →
    Answers (.pairThermRx d) s fun t =>
      t = s.pairLive) ∧
  (∀ (d c : List Byte) (s : State),
    s.pairIn 0x86 (· == 196) d = some c →
    s.on PAIR_CTRL_EN = true →
    s.understudy = false →
    Answers (.pairZlimRx d) s fun t =>
      t = s.pairLive) ∧
  (∀ (d c : List Byte) (s : State),
    s.pairIn 0x87 (fun n => n % 4 == 0 && decide (4 ≤ n)) d = some c →
    s.on PAIR_CTRL_EN = true →
    s.understudy = false →
    Answers (.pairHlthRx d) s fun t =>
      t = s.pairLive) ∧
  (∀ (d c : List Byte) (s : State),
    s.pairIn 0x88 (fun n => decide (8 ≤ n ∧ n ≤ 1032)) d = some c →
    s.on PAIR_CTRL_EN = true →
    s.understudy = false →
    Answers (.pairMaskRx d) s fun t =>
      t = s.pairLive) ∧
  (∀ (d c : List Byte) (s : State),
    s.pairIn 0x89 (· == 32) d = some c →
    s.on PAIR_CTRL_EN = true →
    s.understudy = false →
    Answers (.pairStateRx d) s fun t =>
      t = s.pairLive) ∧
  (∀ (d c : List Byte) (s : State),
    s.pairIn 0x8B (fun n => decide (8 ≤ n ∧ n ≤ 4104)) d = some c →
    s.on PAIR_CTRL_EN = true →
    s.understudy = false →
    Answers (.pairSlotRx d) s fun t =>
      t = s.pairLive) ∧
  (∀ (d c : List Byte) (s : State),
    s.pairIn 0x8A (· == 12) d = some c →
    s.on PAIR_CTRL_EN = true →
    s.understudy = false →
    Answers (.pairSlotEndRx d) s fun t =>
      t = s.pairLive) ∧
  (∀ (d : List Byte) (s : State),
    s.pairIn 0x84 (fun n => n % 8 == 0 && decide (8 ≤ n ∧ n ≤ 4096)) d = none ∨ s.on PAIR_CTRL_EN = false →
    Answers (.regMirrorRx d) s fun t =>
      t = s) ∧
  (∀ (d : List Byte) (s : State),
    s.pairIn 0x83 (· == 8) d = none ∨ s.on PAIR_CTRL_EN = false →
    Answers (.commitMirrorRx d) s fun t =>
      t = s) ∧
  (∀ (d : List Byte) (s : State),
    s.pairIn 0x85 (· == 388) d = none ∨ s.on PAIR_CTRL_EN = false →
    Answers (.pairThermRx d) s fun t =>
      t = s) ∧
  (∀ (d : List Byte) (s : State),
    s.pairIn 0x86 (· == 196) d = none ∨ s.on PAIR_CTRL_EN = false →
    Answers (.pairZlimRx d) s fun t =>
      t = s) ∧
  (∀ (d : List Byte) (s : State),
    s.pairIn 0x87 (fun n => n % 4 == 0 && decide (4 ≤ n)) d = none ∨ s.on PAIR_CTRL_EN = false →
    Answers (.pairHlthRx d) s fun t =>
      t = s) ∧
  (∀ (d : List Byte) (s : State),
    s.pairIn 0x88 (fun n => decide (8 ≤ n ∧ n ≤ 1032)) d = none ∨ s.on PAIR_CTRL_EN = false →
    Answers (.pairMaskRx d) s fun t =>
      t = s) ∧
  (∀ (d : List Byte) (s : State),
    s.pairIn 0x89 (· == 32) d = none ∨ s.on PAIR_CTRL_EN = false →
    Answers (.pairStateRx d) s fun t =>
      t = s) ∧
  (∀ (d : List Byte) (s : State),
    s.pairIn 0x8B (fun n => decide (8 ≤ n ∧ n ≤ 4104)) d = none ∨ s.on PAIR_CTRL_EN = false →
    Answers (.pairSlotRx d) s fun t =>
      t = s) ∧
  (∀ (d : List Byte) (s : State),
    s.pairIn 0x8A (· == 12) d = none ∨ s.on PAIR_CTRL_EN = false →
    Answers (.pairSlotEndRx d) s fun t =>
      t = s) ∧
  (∀ (d c : List Byte) (s : State),
    s.pairIn 0x84 (fun n => n % 8 == 0 && decide (8 ≤ n ∧ n ≤ 4096)) d = some c →
    s.on PAIR_CTRL_EN = true →
    s.understudy = true →
    Answers (.regMirrorRx d) s fun t =>
      t = (List.range (c.length / 8)).foldl (fun u i => u.takeEntry (leAt c (8 * i) 4) (BitVec.ofNat 32 (leAt c (8 * i + 4) 4))) s.pairLive) ∧
  (∀ (d c : List Byte) (s : State),
    s.pairIn 0x84 (fun n => n % 8 == 0 && decide (8 ≤ n ∧ n ≤ 4096)) d = some c →
    s.on PAIR_CTRL_EN = true →
    s.understudy = true →
    c.length = 8 →
    Answers (.regMirrorRx d) s fun t =>
      t = s.pairLive.takeEntry (leAt c 0 4) (BitVec.ofNat 32 (leAt c 4 4))) ∧
  (∀ (d c : List Byte) (s : State),
    s.pairIn 0x83 (· == 8) d = some c →
    s.on PAIR_CTRL_EN = true →
    s.understudy = true →
    leAt c 4 2 = 0 →
    Answers (.commitMirrorRx d) s fun t =>
      t = s.pairLive) ∧
  (∀ (d c : List Byte) (i : Fin 5) (s : State),
    s.pairIn 0x83 (· == 8) d = some c →
    s.on PAIR_CTRL_EN = true →
    s.understudy = true →
    leAt c 4 2 = 2 ^ i.val →
    s.on FT_STATUS_RUN = false →
    Answers (.commitMirrorRx d) s fun t =>
      t = s.pairLive.captureLed i 0 true) ∧
  (∀ (d c : List Byte) (i : Fin 5) (s : State),
    s.pairIn 0x83 (· == 8) d = some c →
    s.on PAIR_CTRL_EN = true →
    s.understudy = true →
    leAt c 4 2 = 2 ^ i.val →
    s.on FT_STATUS_RUN = true →
    leAt c 0 4 = frameNo s.ft.m →
    s.pairLive.heldSets i = 0 →
    Answers (.commitMirrorRx d) s fun t =>
      t = s.pairLive.captureLed i s.ft.m false) ∧
  (∀ (d c : List Byte) (s : State),
    s.pairIn 0x83 (· == 8) d = some c →
    s.on PAIR_CTRL_EN = true →
    s.understudy = true →
    leAt c 4 2 = 32 →
    Answers (.commitMirrorRx d) s fun t =>
      t = s.pairLive.thmLed) ∧
  (∀ (d c : List Byte) (s : State),
    s.pairIn 0x85 (· == 388) d = some c →
    s.on PAIR_CTRL_EN = true →
    s.understudy = true →
    Answers (.pairThermRx d) s fun t =>
      t.thm.leadT = (List.range 192).map (fun g => leAt c (4 + 2 * g) 2) ∧ t.pair.therm = some (leAt c 0 4)) ∧
  (∀ (d c : List Byte) (s : State),
    s.pairIn 0x86 (· == 196) d = some c →
    s.on PAIR_CTRL_EN = true →
    s.understudy = true →
    Answers (.pairZlimRx d) s fun t =>
      t.thm.leadZ = (List.range 192).map (fun g => leAt c (4 + g) 1) ∧
        t.pair.zlim = ((leAt c 0 4, (List.range 192).map (fun g => leAt c (4 + g) 1)) :: s.pair.zlim).take 4) ∧
  (∀ (d c : List Byte) (s : State),
    s.pairIn 0x87 (fun n => n % 4 == 0 && decide (4 ≤ n)) d = some c →
    s.on PAIR_CTRL_EN = true →
    s.understudy = true →
    Answers (.pairHlthRx d) s fun t =>
      t.hlth.led = s.hlth.led ++ (List.range (c.length / 4 - 1)).map (fun i => (leAt c 0 4, ledEntry (leAt c (4 + 4 * i) 4)))) ∧
  (∀ (d c : List Byte) (s : State),
    s.pairIn 0x88 (fun n => decide (8 ≤ n ∧ n ≤ 1032)) d = some c →
    s.on PAIR_CTRL_EN = true →
    s.understudy = true →
    s.on MASKIN_CTRL_EN = true →
    s.mirrors 0x20180000 = true →
    byteAt c 0 = 0 →
    Answers (.pairMaskRx d) s fun t =>
      t.rd MASKIN_STATUS_IN_FRAME = 1) ∧
  (∀ (d c : List Byte) (s : State),
    s.pairIn 0x89 (· == 32) d = some c →
    s.on PAIR_CTRL_EN = true →
    s.understudy = true →
    Answers (.pairStateRx d) s fun t =>
      t.rd CAL_KI_KI = leAt c 0 4 % 2 ^ CAL_KI_KI.width ∧ t.rd CAL_I0_I0 = leAt c 4 2 % 2 ^ CAL_I0_I0.width ∧
        t.rd CAL_I0_SCORR = leAt c 6 2 % 2 ^ CAL_I0_SCORR.width ∧ (leAt c 0 4 ≠ 0 → t.rd CAL_STATUS_KI_VALID = 1)) ∧
  (∀ (s : State),
    s.pairLead = false →
    Answers (.pairStateSend) s fun t =>
      t = s) ∧
  (∀ (s : State),
    s.pairLead = true →
    s.pair.regQueue = [] →
    s.on (LANE_CTRL_IDLE_REQ 12) = false →
    s.laneTest 12 = false →
    Answers (.pairStateSend) s fun t =>
      t.pair.out.length = s.pair.out.length + 1) ∧
  (∀ (m : Master) (v : Word) (s : State),
    s.accepts m 0x20150010 →
    v.toNat.testBit 31 = true →
    (s.stored m 0x20150010 v).pairLead = true →
    s.on WIN_CTRL_EN = true →
    (s.stored m 0x20150010 v).rd PAIR_SLOT_SLOT < s.rd WIN_CFG_COUNT →
    (s.stored m 0x20150010 v).rd PAIR_SLOT_LEN = 1 →
    (s.stored m 0x20150010 v).slotSize = 65536 →
    (s.stored m 0x20150010 v).pair.regQueue = [] →
    (s.stored m 0x20150010 v).on (LANE_CTRL_IDLE_REQ 12) = false →
    (s.stored m 0x20150010 v).laneTest 12 = false →
    Answers (.pairSlotGo m v) s fun t =>
      t.fired 108 ∧ t.pair.out.length = s.pair.out.length + 2) ∧
  (∀ (m : Master) (v : Word) (s : State),
    s.accepts m 0x20150010 →
    (s.stored m 0x20150010 v).pairLead = false →
    Answers (.pairSlotGo m v) s fun t =>
      t = (s.stored m 0x20150010 v)) ∧
  (∀ (d c : List Byte) (s : State),
    s.pairIn 0x8B (fun n => decide (8 ≤ n ∧ n ≤ 4104)) d = some c →
    s.on PAIR_CTRL_EN = true →
    s.understudy = true →
    s.pairOwned (leAt c 0 2) = true →
    leAt c 4 4 + (c.length - 8) ≤ s.slotSize →
    Answers (.pairSlotRx d) s fun t =>
      t = s.pairLive.dramWrite .pair (s.actsFor .pair) (s.slotAddr (leAt c 0 2) + leAt c 4 4) (c.drop 8) []) ∧
  (∀ (d c : List Byte) (s : State),
    s.pairIn 0x8B (fun n => decide (8 ≤ n ∧ n ≤ 4104)) d = some c →
    s.on PAIR_CTRL_EN = true →
    s.understudy = true →
    s.pairOwned (leAt c 0 2) = false ∨ s.slotSize < leAt c 4 4 + (c.length - 8) →
    Answers (.pairSlotRx d) s fun t =>
      t.rd PAIR_CNT_SLOT_DROP = s.counted PAIR_CNT_SLOT_DROP ∧ t.mem = s.mem) ∧
  (∀ (d c : List Byte) (s : State),
    s.pairIn 0x8A (· == 12) d = some c →
    s.on PAIR_CTRL_EN = true →
    s.understudy = true →
    s.on FT_STATUS_RUN = true →
    leAt c 0 2 < 1024 →
    s.pairOwned (leAt c 0 2) = true →
    leAt c 4 4 ≤ s.slotSize →
    leAt c 8 4 = crc32c (s.bytes (s.slotAddr (leAt c 0 2)) (leAt c 4 4)) →
    mayHand 3 (byteAt c 2) = true →
    Answers (.pairSlotEndRx d) s fun t =>
      t.slotOwner (leAt c 0 2) = byteAt c 2 % 2 ^ (WIN_OWN (leAt c 0 2)).width) ∧
  (∀ (d c : List Byte) (s : State),
    s.pairIn 0x8A (· == 12) d = some c →
    s.on PAIR_CTRL_EN = true →
    s.understudy = true →
    s.pairOwned (leAt c 0 2) = false ∨ s.slotSize < leAt c 4 4 ∨ leAt c 8 4 ≠ crc32c (s.bytes (s.slotAddr (leAt c 0 2)) (leAt c 4 4)) ∨
      mayHand 3 (byteAt c 2) = false →
    Answers (.pairSlotEndRx d) s fun t =>
      t.rd PAIR_STATUS_SLOT_ERR = 1 ∧ t.fired 108 ∧ t.slotOwner (leAt c 0 2) = s.slotOwner (leAt c 0 2)) ∧
  (∀ (m : Master) (v : Word) (s : State),
    s.accepts m 0x20150000 →
    v.toNat.testBit 4 = true →
    (s.stored m 0x20150000 v).pairLead = true →
    (s.stored m 0x20150000 v).pair.regQueue = [] →
    (s.stored m 0x20150000 v).on (LANE_CTRL_IDLE_REQ 12) = false →
    (s.stored m 0x20150000 v).laneTest 12 = false →
    Answers (.pairDump m v) s fun t =>
      t.pair.out = s.pair.out ++ (regPackets ((s.stored m 0x20150000 v).dumpAddrs.map (fun a => (a,
        (s.stored m 0x20150000 v).readWord a))).length ((s.stored m 0x20150000 v).dumpAddrs.map (fun a => (a,
      (s.stored m 0x20150000 v).readWord a)))).map (tlPacket 0x84 0 s.pairEpoch 0) ++ [tlPacket 0x83 0 s.pairEpoch 0 (leBytes 4 (frameNo s.ft.m) ++
        leBytes 2 (s.rd PAIR_MIRROR_BLOCKS) ++ [0, 0])] ∧ t.pair.regQueue = []) ∧
  (∀ (m : Master) (v : Word) (s : State),
    s.accepts m 0x20150000 →
    (s.stored m 0x20150000 v).pairLead = false →
    Answers (.pairDump m v) s fun t =>
      t = s.stored m 0x20150000 v)

/-- UARTs, I2C, SPI, GPIO and timers. UART_DATA_WRITE appends the low byte to the transmit FIFO, and drops it where 16 bytes wait; the bytes
that have left since are gone from the queue. UART_DATA_READ shows the oldest received byte, 0 from an empty FIFO, and takes it off.
UART_RX_BYTE of an enabled UART appends a good byte; a bad one, or one that finds 16 bytes, is dropped and sets ERR; a UART that is off
ignores it (log entry 46). UART_TX_EMPTY of an enabled UART sends all but the bytes that it names, each as a character of the selected
format. I2C_GO with GO 1 of an enabled idle controller sets GO and BUSY; with GO 0 nothing starts. I2C_TRANSFER_END moves what LEN leaves
and the FIFO lets; with LEN bytes moved, or not acknowledged, it clears both and sets DONE, with NACK as told, else the transfer goes on;
I2C_STRETCH_TIMEOUT clears both and sets TMO. I2C_DATA_ACCESS appends a written byte up to 8 and reads like the UART. SPI_DATA_WRITE of an
enabled idle SPI holds the word and sets BUSY; while BUSY it sets WERR. SPI_FRAME_DONE clears BUSY, shows the word received cut to the
frame size and sets DONE. GPIO_EDGE shows the level of its pin, and sets the flag of the pin where the level changed and that edge is
selected. TIMER_ENABLE stores EN, and EN 1 starts the count from LOAD, at least 1. TIMER_EXPIRY of an enabled timer sets FIRED, and clears
EN unless PERIODIC is set; of a timer that is off it changes nothing. TBASE_LO_READ shows both words of one instant of the timebase. -/
def Obligations.SmallPeripherals : Prop :=
  (∀ (m : Master) (u : Fin 2) (v : Word) (s : State),
    s.accepts m (0x20170008 + u * 0x100) →
    (s.peri.uart[u]).tx.length < 16 →
    Answers (.uartDataWrite m u v 0) s fun t =>
      (t.peri.uart[u]).tx = (s.peri.uart[u]).tx ++ [v.setWidth 8]) ∧
  (∀ (m : Master) (u : Fin 2) (v : Word) (s : State),
    s.accepts m (0x20170008 + u * 0x100) →
    16 ≤ (s.peri.uart[u]).tx.length →
    Answers (.uartDataWrite m u v 0) s fun t =>
      t.peri.uart = s.peri.uart) ∧
  (∀ (m : Master) (u : Fin 2) (v : Word) (n : Nat) (s : State),
    s.accepts m (0x20170008 + u * 0x100) →
    s.on (UART_CTRL_EN u) = true →
    0 < n →
    n < (s.peri.uart[u]).tx.length →
    (s.peri.uart[u]).tx.length ≤ 16 →
    Answers (.uartDataWrite m u v n) s fun t =>
      (t.peri.uart[u]).tx = (s.peri.uart[u]).tx.drop n ++ [v.setWidth 8]) ∧
  (∀ (u : Fin 2) (s : State),
    Answers (.uartDataRead u) s fun t =>
      t.rd (UART_DATA_DATA u) = ((s.peri.uart[u]).rx.headD 0).toNat ∧ (t.peri.uart[u]).rx = (s.peri.uart[u]).rx.tail) ∧
  (∀ (u : Fin 2) (d : Byte) (s : State),
    s.on (UART_CTRL_EN u) = true →
    (s.peri.uart[u]).rx.length < 16 →
    Answers (.uartRxByte u d true) s fun t =>
      (t.peri.uart[u]).rx = (s.peri.uart[u]).rx ++ [d]) ∧
  (∀ (u : Fin 2) (d : Byte) (s : State),
    s.on (UART_CTRL_EN u) = true →
    Answers (.uartRxByte u d false) s fun t =>
      t.rd (UART_STATUS_ERR u) = 1 ∧ t.peri.uart = s.peri.uart) ∧
  (∀ (u : Fin 2) (d : Byte) (b : Bool) (s : State),
    s.on (UART_CTRL_EN u) = true →
    16 ≤ (s.peri.uart[u]).rx.length →
    Answers (.uartRxByte u d b) s fun t =>
      t.rd (UART_STATUS_ERR u) = 1 ∧ t.peri.uart = s.peri.uart) ∧
  (∀ (u : Fin 2) (d : Byte) (b : Bool) (s : State),
    s.on (UART_CTRL_EN u) = false →
    Answers (.uartRxByte u d b) s fun t =>
      t = s) ∧
  (∀ (u : Fin 2) (n : Nat) (s : State),
    s.on (UART_CTRL_EN u) = true →
    Answers (.uartTxEmpty u n) s fun t =>
      (t.peri.uart[u]).tx = (s.peri.uart[u]).tx.drop ((s.peri.uart[u]).tx.length - n) ∧
        t.peri.uartOut[u] = s.peri.uartOut[u] ++ ((s.peri.uart[u]).tx.take ((s.peri.uart[u]).tx.length - n)).map (uartBits (s.on (UART_CTRL_STOP2 u))
      (s.rd (UART_CTRL_PARITY u))) ∧ (n = 0 → t.rd (UART_STATUS_TXEMPTY u) = 1)) ∧
  (∀ (u : Fin 2) (n : Nat) (s : State),
    s.on (UART_CTRL_EN u) = false →
    Answers (.uartTxEmpty u n) s fun t =>
      t = s) ∧
  (∀ (m : Master) (c : Fin 3) (v : Word) (s : State),
    s.accepts m (i2cAddr c + 4) →
    v.toNat.testBit 31 = true →
    s.on (I2C_CTRL_EN c) = true →
    s.on (I2C_CMD_GO c) = false →
    Answers (.i2cGo m c v) s fun t =>
      t.rd (I2C_CMD_GO c) = 1 ∧ t.rd (I2C_STATUS_BUSY c) = 1 ∧ t.peri.i2cHeld[c] = true ∧
        t.peri.i2cBus[c] = s.peri.i2cBus[c] ++ [.start ((s.stored m (i2cAddr c + 4) v).rd (I2C_CMD_ADDR c)) ((s.stored m (i2cAddr c + 4) v).on
      (I2C_CMD_READ c))]) ∧
  (∀ (m : Master) (c : Fin 3) (v : Word) (s : State),
    s.accepts m (i2cAddr c + 4) →
    v.toNat.testBit 31 = false →
    Answers (.i2cGo m c v) s fun t =>
      t = s.stored m (i2cAddr c + 4) v) ∧
  (∀ (c : Fin 3) (k : Bool) (d b : List Byte) (n : Nat) (s : State),
    s.on (I2C_CMD_GO c) = true →
    s.on (I2C_CMD_READ c) = true →
    d.take (min (s.rd (I2C_CMD_LEN c) - s.peri.i2cCount[c]) (8 - (s.peri.i2c[c]).rx.length)) = b →
    k = true ∨ s.rd (I2C_CMD_LEN c) ≤ s.peri.i2cCount[c] + b.length →
    Answers (.i2cTransferEnd c k d n) s fun t =>
      t.rd (I2C_CMD_GO c) = 0 ∧ t.rd (I2C_STATUS_BUSY c) = 0 ∧ t.rd (I2C_STATUS_DONE c) = 1 ∧ (k = true →
        t.rd (I2C_STATUS_NACK c) = 1) ∧ t.peri.i2cBus[c] = s.peri.i2cBus[c] ++ b.map .data ++ (if s.on (I2C_CMD_STOP c) then [.stop] else []) ∧
      (t.peri.i2c[c]).rx = (s.peri.i2c[c]).rx ++ b) ∧
  (∀ (c : Fin 3) (k : Bool) (d b : List Byte) (n : Nat) (s : State),
    s.on (I2C_CMD_GO c) = true →
    s.on (I2C_CMD_READ c) = false →
    (s.peri.i2c[c]).tx.take (min (s.rd (I2C_CMD_LEN c) - s.peri.i2cCount[c]) n) = b →
    k = true ∨ s.rd (I2C_CMD_LEN c) ≤ s.peri.i2cCount[c] + b.length →
    Answers (.i2cTransferEnd c k d n) s fun t =>
      t.rd (I2C_CMD_GO c) = 0 ∧ t.rd (I2C_STATUS_BUSY c) = 0 ∧ t.rd (I2C_STATUS_DONE c) = 1 ∧ (k = true →
        t.rd (I2C_STATUS_NACK c) = 1) ∧ t.peri.i2cBus[c] = s.peri.i2cBus[c] ++ b.map .data ++ (if s.on (I2C_CMD_STOP c) then [.stop] else []) ∧
      (t.peri.i2c[c]).tx = (s.peri.i2c[c]).tx.drop b.length) ∧
  (∀ (c : Fin 3) (d b : List Byte) (n : Nat) (s : State),
    s.on (I2C_CMD_GO c) = true →
    s.on (I2C_CMD_READ c) = true →
    d.take (min (s.rd (I2C_CMD_LEN c) - s.peri.i2cCount[c]) (8 - (s.peri.i2c[c]).rx.length)) = b →
    s.peri.i2cCount[c] + b.length < s.rd (I2C_CMD_LEN c) →
    Answers (.i2cTransferEnd c false d n) s fun t =>
      t.rd (I2C_CMD_GO c) = 1 ∧ t.rd (I2C_STATUS_DONE c) = s.rd (I2C_STATUS_DONE c) ∧ t.peri.i2cCount[c] = s.peri.i2cCount[c] + b.length) ∧
  (∀ (c : Fin 3) (k : Bool) (d : List Byte) (n : Nat) (s : State),
    s.on (I2C_CMD_GO c) = false →
    Answers (.i2cTransferEnd c k d n) s fun t =>
      t = s) ∧
  (∀ (c : Fin 3) (s : State),
    s.on (I2C_CMD_GO c) = true →
    Answers (.i2cStretchTimeout c) s fun t =>
      t.rd (I2C_CMD_GO c) = 0 ∧ t.rd (I2C_STATUS_BUSY c) = 0 ∧ t.rd (I2C_STATUS_TMO c) = 1 ∧ t.peri.i2cHeld[c] = false ∧
        t.peri.i2cBus[c] = s.peri.i2cBus[c] ++ [.stop]) ∧
  (∀ (m : Master) (c : Fin 3) (v : Word) (s : State),
    s.accepts m (i2cAddr c + 0xC) →
    (s.peri.i2c[c]).tx.length < 8 →
    Answers (.i2cDataAccess m c (some v) [] 0) s fun t =>
      (t.peri.i2c[c]).tx = (s.peri.i2c[c]).tx ++ [v.setWidth 8]) ∧
  (∀ (m : Master) (c : Fin 3) (v : Word) (d b : List Byte) (n : Nat) (s : State),
    s.accepts m (i2cAddr c + 0xC) →
    s.on (I2C_CMD_GO c) = true →
    s.on (I2C_CMD_READ c) = false →
    (s.peri.i2c[c]).tx.take (min (s.rd (I2C_CMD_LEN c) - s.peri.i2cCount[c]) n) = b →
    (s.peri.i2c[c]).tx.length - b.length < 8 →
    Answers (.i2cDataAccess m c (some v) d n) s fun t =>
      (t.peri.i2c[c]).tx = (s.peri.i2c[c]).tx.drop b.length ++ [v.setWidth 8] ∧ t.peri.i2cBus[c] = s.peri.i2cBus[c] ++ b.map .data) ∧
  (∀ (m : Master) (c : Fin 3) (d b : List Byte) (n : Nat) (s : State),
    s.on (I2C_CMD_GO c) = true →
    s.on (I2C_CMD_READ c) = true →
    d.take (min (s.rd (I2C_CMD_LEN c) - s.peri.i2cCount[c]) (8 - (s.peri.i2c[c]).rx.length)) = b →
    Answers (.i2cDataAccess m c none d n) s fun t =>
      t.rd (I2C_DATA_DATA c) = (((s.peri.i2c[c]).rx ++ b).headD 0).toNat ∧ (t.peri.i2c[c]).rx = ((s.peri.i2c[c]).rx ++ b).tail) ∧
  (∀ (m : Master) (c : Fin 3) (s : State),
    Answers (.i2cDataAccess m c none [] 0) s fun t =>
      t.rd (I2C_DATA_DATA c) = ((s.peri.i2c[c]).rx.headD 0).toNat ∧ (t.peri.i2c[c]).rx = (s.peri.i2c[c]).rx.tail) ∧
  (∀ (m : Master) (v : Word) (s : State),
    s.accepts m 0x20170408 →
    s.on SPI_STATUS_BUSY = false →
    s.on SPI_CTRL_EN = true →
    Answers (.spiDataWrite m v) s fun t =>
      t.rd SPI_STATUS_BUSY = 1 ∧ t.peri.spiTx = v.toNat % 2 ^ spiBits (s.rd SPI_CTRL_SIZE) ∧ t.peri.csLow = true) ∧
  (∀ (m : Master) (v : Word) (s : State),
    s.accepts m 0x20170408 →
    s.on SPI_STATUS_BUSY = true →
    Answers (.spiDataWrite m v) s fun t =>
      t = (s.stored m 0x20170408 v).werr 0x20170408) ∧
  (∀ (d : Word) (s : State),
    s.on SPI_STATUS_BUSY = true →
    Answers (.spiFrameDone d) s fun t =>
      t.rd SPI_STATUS_BUSY = 0 ∧ t.rd SPI_STATUS_DONE = 1 ∧ t.rd SPI_DATA_DATA = d.toNat % 2 ^ spiBits (s.rd SPI_CTRL_SIZE) ∧
        t.peri.csLow = s.on SPI_CTRL_CS_HOLD ∧ t.peri.spiOut.length = s.peri.spiOut.length + 1) ∧
  (∀ (p : Fin 16) (l : Bool) (s : State),
    Answers (.gpioEdge p l) s fun t =>
      t.rd (GPIO_IN_IN p) = b2n l) ∧
  (∀ (p : Fin 16) (l : Bool) (s : State),
    s.on (GPIO_IN_IN p) = !l →
    (s.rd (GPIO_EDGE p)).testBit (if l then 0 else 1) = true →
    Answers (.gpioEdge p l) s fun t =>
      t.rd (GPIO_IN_FLAG p) = 1) ∧
  (∀ (p : Fin 16) (l : Bool) (s : State),
    (s.rd (GPIO_EDGE p)).testBit (if l then 0 else 1) = false →
    Answers (.gpioEdge p l) s fun t =>
      t.rd (GPIO_IN_FLAG p) = s.rd (GPIO_IN_FLAG p)) ∧
  (∀ (m : Master) (k : Fin 4) (v : Word) (s : State),
    s.accepts m (0x20170610 + k * 8) →
    v.toNat.testBit 0 = true →
    Answers (.timerEnable m k v) s fun t =>
      t.rd (TIM_CTRL_EN k) = 1 ∧ t.peri.timStart[k] = max 1 (s.rd (TIM_LOAD_LOAD k))) ∧
  (∀ (m : Master) (k : Fin 4) (v : Word) (s : State),
    s.accepts m (0x20170610 + k * 8) →
    v.toNat.testBit 0 = false →
    Answers (.timerEnable m k v) s fun t =>
      t.rd (TIM_CTRL_EN k) = 0) ∧
  (∀ (k : Fin 4) (s : State),
    s.on (TIM_CTRL_EN k) = true →
    s.on (TIM_CTRL_PERIODIC k) = true →
    Answers (.timerExpiry k) s fun t =>
      t.rd (TIM_CTRL_FIRED k) = 1 ∧ t.rd (TIM_CTRL_EN k) = s.rd (TIM_CTRL_EN k) ∧ t.peri.timStart[k] = max 1 (s.rd (TIM_LOAD_LOAD k))) ∧
  (∀ (k : Fin 4) (s : State),
    s.on (TIM_CTRL_EN k) = true →
    s.on (TIM_CTRL_PERIODIC k) = false →
    Answers (.timerExpiry k) s fun t =>
      t.rd (TIM_CTRL_FIRED k) = 1 ∧ t.rd (TIM_CTRL_EN k) = 0) ∧
  (∀ (k : Fin 4) (s : State),
    s.on (TIM_CTRL_EN k) = false →
    Answers (.timerExpiry k) s fun t =>
      t = s) ∧
  (∀ (s : State),
    Answers (.tbaseLoRead) s fun t =>
      t = { s with peri := { s.peri with tbaseHeld := some (s.tbase / 2 ^ 32) } })

/-- Check-value units: START samples, STOP, the verdict of a scan, and the period. CVU_START with START 1 on an idle unit samples address,
length and expected value and sets START and BUSY; on a busy one it sets WERR. CVU_STOP with STOP 1 clears START of an idle unit and sets
STOP of a busy one. CVU_SCAN_END of a scan that met an unreadable byte sets ERR, clears PASS and raises FLT_CVU_MISMATCH. One that has
read its region shows the check value in RESULT: equal to EXPECT, it sets PASS and fires event 102; different with CMP_EN set, it sets
MISMATCH, clears PASS, fires event 103 and raises FLT_CVU_MISMATCH. In mode CHECK a right check value also takes the counter into REF, and
one that is not the next sets ALIVE_ERR, clears PASS and raises FLT_CVU_ALIVE. In mode FOLD the check value takes in the next counter,
which REF becomes where it is equal to EXPECT, and MISMATCH is set where it is not. CVU_PERIOD of a started unit with a period starts the
next scan where the unit is idle, and sets OVERRUN where it is busy; without START or without a period it changes nothing. -/
def Obligations.CheckValueUnits : Prop :=
  (∀ (m : Master) (u : Fin 4) (v : Word) (s : State),
    s.accepts m (cvuAddr u) →
    v.toNat.testBit 0 = true →
    s.on (CVU_STATUS_BUSY u) = false →
    Answers (.cvuStart m u v) s fun t =>
      t.rd (CVU_CTRL_START u) = 1 ∧ t.rd (CVU_STATUS_BUSY u) = 1 ∧ (t.cvu.unit[u]).len = s.rd (CVU_LEN_VALUE u) ∧
        (t.cvu.unit[u]).expect = s.rd (CVU_EXPECT_VALUE u) ∧
      (t.cvu.unit[u]).addr = (s.stored m (cvuAddr u) v).rd (CVU_CTRL_ADDR_HI u) <<< 32 ||| s.rd (CVU_ADDR_VALUE u)) ∧
  (∀ (m : Master) (u : Fin 4) (v : Word) (s : State),
    s.accepts m (cvuAddr u) →
    v.toNat.testBit 0 = true →
    s.on (CVU_STATUS_BUSY u) = true →
    Answers (.cvuStart m u v) s fun t =>
      t = (s.stored m (cvuAddr u) v).werr (cvuAddr u)) ∧
  (∀ (m : Master) (u : Fin 4) (v : Word) (s : State),
    s.accepts m (cvuAddr u) →
    v.toNat.testBit 1 = true →
    s.on (CVU_STATUS_BUSY u) = false →
    Answers (.cvuStop m u v) s fun t =>
      t.rd (CVU_CTRL_START u) = 0) ∧
  (∀ (m : Master) (u : Fin 4) (v : Word) (s : State),
    s.accepts m (cvuAddr u) →
    v.toNat.testBit 1 = true →
    s.on (CVU_STATUS_BUSY u) = true →
    Answers (.cvuStop m u v) s fun t =>
      t.rd (CVU_CTRL_STOP u) = 1) ∧
  (∀ (u : Fin 4) (x : Option Nat) (n : Nat) (s : State),
    s.on (CVU_STATUS_BUSY u) = true →
    ((List.range (s.cvu.unit[u]).len).find? (fun i => (s.cvuByte ((s.cvu.unit[u]).addr + i)).isNone || x == some i)) = some n →
    Answers (.cvuScanEnd u x) s fun t =>
      t.rd (CVU_STATUS_ERR u) = 1 ∧ t.rd (CVU_STATUS_PASS u) = 0 ∧ t.hasRaised FLT_CVU_MISMATCH) ∧
  (∀ (u : Fin 4) (s : State),
    s.on (CVU_STATUS_BUSY u) = true →
    s.on (CVU_CTRL_START u) = false →
    s.on (CVU_CTRL_STOP u) = false →
    (s.cvu.unit[u]).len = 0 →
    Answers (.cvuScanEnd u none) s fun t =>
      t.rd (CVU_STATUS_BUSY u) = 0) ∧
  (∀ (u : Fin 4) (d : List Byte) (s : State),
    s.on (CVU_STATUS_BUSY u) = true →
    s.rd (CVU_CTRL_ALIVE_MODE u) = 0 →
    (List.range (s.cvu.unit[u]).len).all (fun i => (s.cvuByte ((s.cvu.unit[u]).addr + i)).isSome) = true →
    (List.range (s.cvu.unit[u]).len).map (fun i => (s.cvuByte ((s.cvu.unit[u]).addr + i)).getD 0) = d →
    cvuCrc (s.rd (CVU_CTRL_ALG u)) d = (s.cvu.unit[u]).expect →
    Answers (.cvuScanEnd u none) s fun t =>
      t.rd (CVU_STATUS_PASS u) = 1 ∧ t.rd (CVU_RESULT_VALUE u) = (s.cvu.unit[u]).expect % 2 ^ 32 ∧ t.fired 102) ∧
  (∀ (u : Fin 4) (d : List Byte) (s : State),
    s.on (CVU_STATUS_BUSY u) = true →
    s.rd (CVU_CTRL_ALIVE_MODE u) = 0 →
    (List.range (s.cvu.unit[u]).len).all (fun i => (s.cvuByte ((s.cvu.unit[u]).addr + i)).isSome) = true →
    (List.range (s.cvu.unit[u]).len).map (fun i => (s.cvuByte ((s.cvu.unit[u]).addr + i)).getD 0) = d →
    cvuCrc (s.rd (CVU_CTRL_ALG u)) d ≠ (s.cvu.unit[u]).expect →
    s.on (CVU_CTRL_CMP_EN u) = true →
    Answers (.cvuScanEnd u none) s fun t =>
      t.rd (CVU_STATUS_MISMATCH u) = 1 ∧ t.rd (CVU_STATUS_PASS u) = 0 ∧ t.rd (CVU_RESULT_VALUE u) = cvuCrc (s.rd (CVU_CTRL_ALG u)) d % 2 ^ 32 ∧
        t.fired 103 ∧ t.hasRaised FLT_CVU_MISMATCH) ∧
  (∀ (u : Fin 4) (d : List Byte) (s : State),
    s.on (CVU_STATUS_BUSY u) = true →
    s.rd (CVU_CTRL_ALIVE_MODE u) = 1 →
    (List.range (s.cvu.unit[u]).len).all (fun i => (s.cvuByte ((s.cvu.unit[u]).addr + i)).isSome) = true →
    (List.range (s.cvu.unit[u]).len).map (fun i => (s.cvuByte ((s.cvu.unit[u]).addr + i)).getD 0) = d →
    cvuCrc (s.rd (CVU_CTRL_ALG u)) d = (s.cvu.unit[u]).expect →
    s.rd (CVU_ALIVE_OFS_OFS u) + (if s.on (CVU_ALIVE_W16 u) then 2 else 1) ≤ (s.cvu.unit[u]).len →
    Answers (.cvuScanEnd u none) s fun t =>
      t.rd (CVU_ALIVE_REF u) = leAt d (s.rd (CVU_ALIVE_OFS_OFS u)) (if s.on (CVU_ALIVE_W16 u) then 2 else 1) % 2 ^ (CVU_ALIVE_REF u).width ∧
        (leAt d (s.rd (CVU_ALIVE_OFS_OFS u)) (if s.on (CVU_ALIVE_W16 u) then 2 else 1) = (s.rd (CVU_ALIVE_REF u) + 1) % 2 ^ (8 * if s.on
      (CVU_ALIVE_W16 u) then 2 else 1) →
        t.rd (CVU_STATUS_PASS u) = 1 ∧ t.fired 102) ∧
      (leAt d (s.rd (CVU_ALIVE_OFS_OFS u)) (if s.on (CVU_ALIVE_W16 u) then 2 else 1) ≠ (s.rd (CVU_ALIVE_REF u) + 1) % 2 ^ (8 * if s.on (CVU_ALIVE_W16
        u) then 2 else 1) → t.rd (CVU_STATUS_ALIVE_ERR u) = 1 ∧ t.rd (CVU_STATUS_PASS u) = 0 ∧ t.hasRaised FLT_CVU_ALIVE)) ∧
  (∀ (u : Fin 4) (d : List Byte) (s : State),
    s.on (CVU_STATUS_BUSY u) = true →
    s.rd (CVU_CTRL_ALIVE_MODE u) = 2 →
    (List.range (s.cvu.unit[u]).len).all (fun i => (s.cvuByte ((s.cvu.unit[u]).addr + i)).isSome) = true →
    (List.range (s.cvu.unit[u]).len).map (fun i => (s.cvuByte ((s.cvu.unit[u]).addr + i)).getD 0) = d →
    cvuCrc (s.rd (CVU_CTRL_ALG u)) (d ++ leBytes (if s.on (CVU_ALIVE_W16 u) then 2 else 1) ((s.rd (CVU_ALIVE_REF u) + 1) % 2 ^ (8 * if s.on
      (CVU_ALIVE_W16 u) then 2 else 1))) = (s.cvu.unit[u]).expect →
    Answers (.cvuScanEnd u none) s fun t =>
      t.rd (CVU_ALIVE_REF u) = (s.rd (CVU_ALIVE_REF u) + 1) % 2 ^ (8 * if s.on (CVU_ALIVE_W16 u) then 2 else 1) ∧ t.rd (CVU_STATUS_PASS u) = 1 ∧
        t.fired 102) ∧
  (∀ (u : Fin 4) (d : List Byte) (s : State),
    s.on (CVU_STATUS_BUSY u) = true →
    s.rd (CVU_CTRL_ALIVE_MODE u) = 2 →
    (List.range (s.cvu.unit[u]).len).all (fun i => (s.cvuByte ((s.cvu.unit[u]).addr + i)).isSome) = true →
    (List.range (s.cvu.unit[u]).len).map (fun i => (s.cvuByte ((s.cvu.unit[u]).addr + i)).getD 0) = d →
    cvuCrc (s.rd (CVU_CTRL_ALG u)) (d ++ leBytes (if s.on (CVU_ALIVE_W16 u) then 2 else 1) ((s.rd (CVU_ALIVE_REF u) + 1) % 2 ^ (8 * if s.on
      (CVU_ALIVE_W16 u) then 2 else 1))) ≠ (s.cvu.unit[u]).expect →
    Answers (.cvuScanEnd u none) s fun t =>
      t.rd (CVU_ALIVE_REF u) = s.rd (CVU_ALIVE_REF u) ∧ t.rd (CVU_STATUS_MISMATCH u) = 1 ∧ t.rd (CVU_STATUS_PASS u) = 0) ∧
  (∀ (u : Fin 4) (x : Option Nat) (s : State),
    s.on (CVU_STATUS_BUSY u) = false →
    Answers (.cvuScanEnd u x) s fun t =>
      t = s) ∧
  (∀ (u : Fin 4) (s : State),
    s.on (CVU_CTRL_START u) = true →
    s.rd (CVU_CTRL_PERIOD u) ≠ 0 →
    s.on (CVU_STATUS_BUSY u) = false →
    Answers (.cvuPeriod u) s fun t =>
      t.rd (CVU_STATUS_BUSY u) = 1) ∧
  (∀ (u : Fin 4) (s : State),
    s.on (CVU_CTRL_START u) = true →
    s.rd (CVU_CTRL_PERIOD u) ≠ 0 →
    s.on (CVU_STATUS_BUSY u) = true →
    Answers (.cvuPeriod u) s fun t =>
      t.rd (CVU_STATUS_OVERRUN u) = 1 ∧ (t.cvu.unit[u]).late = true) ∧
  (∀ (u : Fin 4) (s : State),
    s.on (CVU_CTRL_START u) = false ∨ s.rd (CVU_CTRL_PERIOD u) = 0 →
    Answers (.cvuPeriod u) s fun t =>
      t = s)

/-- The crypto engine: GO samples the operation, the end shows DONE or ERR, keys are stored and wiped from the window. CRYPTO_SHA256,
CRYPTO_SIGN, CRYPTO_VERIFY and CRYPTO_RNG_FILL: an accepted write with GO 1 and the operation of the command, on an idle engine, samples
key, length and address and sets BUSY and GO; while it is busy it sets WERR. CRYPTO_OP_DONE ends the operation: BUSY and GO become 0 and
DONE or ERR becomes 1, as the operation went; with none it changes nothing. A SHA-256 of no bytes ends with DONE and its digest. An RNG
fill ends with DONE, or with ERR and CRYPTO_RNG 0 where the entropy source has failed; it stores nothing in memory. SMKEY_STORE with GO 1
stores the key of the window in its slot, its words least significant byte first (log entry 25), and clears the window. TRNG_HEALTH_FAIL
raises FLT_CRYPTO_RNG, holds the failure, and CRYPTO_RNG reads 0. -/
def Obligations.CryptoEngine : Prop :=
  (∀ (m : Master) (v : Word) (s : State),
    s.accepts m 0x20160000 →
    v.toNat.testBit 31 = true →
    bits v.toNat 0 3 = 1 →
    (s.stored m 0x20160000 v).on CRYPTO_STATUS_BUSY = false →
    Answers (.cryptoSha256 m v) s fun t =>
      t.ident.op = some { op := 1, key := bits v.toNat 3 2, len := s.rd CRYPTO_LEN_VALUE, addr := s.rd CRYPTO_ADDR_HI_VALUE * 2 ^ 32 + s.rd CRYPTO_ADDR_LO_VALUE } ∧ t.rd CRYPTO_STATUS_BUSY = 1 ∧ t.rd CRYPTO_CTRL_GO = 1) ∧
  (∀ (m : Master) (v : Word) (s : State),
    s.accepts m 0x20160000 →
    v.toNat.testBit 31 = true →
    bits v.toNat 0 3 = 2 →
    (s.stored m 0x20160000 v).on CRYPTO_STATUS_BUSY = false →
    Answers (.cryptoSign m v) s fun t =>
      t.ident.op = some { op := 2, key := bits v.toNat 3 2, len := s.rd CRYPTO_LEN_VALUE, addr := s.rd CRYPTO_ADDR_HI_VALUE * 2 ^ 32 + s.rd CRYPTO_ADDR_LO_VALUE } ∧ t.rd CRYPTO_STATUS_BUSY = 1 ∧ t.rd CRYPTO_CTRL_GO = 1) ∧
  (∀ (m : Master) (v : Word) (s : State),
    s.accepts m 0x20160000 →
    v.toNat.testBit 31 = true →
    bits v.toNat 0 3 = 3 →
    (s.stored m 0x20160000 v).on CRYPTO_STATUS_BUSY = false →
    Answers (.cryptoVerify m v) s fun t =>
      t.ident.op = some { op := 3, key := bits v.toNat 3 2, len := s.rd CRYPTO_LEN_VALUE, addr := s.rd CRYPTO_ADDR_HI_VALUE * 2 ^ 32 + s.rd CRYPTO_ADDR_LO_VALUE } ∧ t.rd CRYPTO_STATUS_BUSY = 1 ∧ t.rd CRYPTO_CTRL_GO = 1) ∧
  (∀ (m : Master) (v : Word) (s : State),
    s.accepts m 0x20160000 →
    v.toNat.testBit 31 = true →
    bits v.toNat 0 3 = 4 →
    (s.stored m 0x20160000 v).on CRYPTO_STATUS_BUSY = false →
    Answers (.cryptoRngFill m v) s fun t =>
      t.ident.op = some { op := 4, key := bits v.toNat 3 2, len := s.rd CRYPTO_LEN_VALUE, addr := s.rd CRYPTO_ADDR_HI_VALUE * 2 ^ 32 + s.rd CRYPTO_ADDR_LO_VALUE } ∧ t.rd CRYPTO_STATUS_BUSY = 1 ∧ t.rd CRYPTO_CTRL_GO = 1) ∧
  (∀ (m : Master) (v : Word) (s : State),
    s.accepts m 0x20160000 →
    v.toNat.testBit 31 = true →
    bits v.toNat 0 3 = 1 →
    (s.stored m 0x20160000 v).on CRYPTO_STATUS_BUSY = true →
    Answers (.cryptoSha256 m v) s fun t =>
      t = (s.stored m 0x20160000 v).werr 0x20160000) ∧
  (∀ (m : Master) (v : Word) (s : State),
    s.accepts m 0x20160000 →
    v.toNat.testBit 31 = true →
    bits v.toNat 0 3 = 2 →
    (s.stored m 0x20160000 v).on CRYPTO_STATUS_BUSY = true →
    Answers (.cryptoSign m v) s fun t =>
      t = (s.stored m 0x20160000 v).werr 0x20160000) ∧
  (∀ (m : Master) (v : Word) (s : State),
    s.accepts m 0x20160000 →
    v.toNat.testBit 31 = true →
    bits v.toNat 0 3 = 3 →
    (s.stored m 0x20160000 v).on CRYPTO_STATUS_BUSY = true →
    Answers (.cryptoVerify m v) s fun t =>
      t = (s.stored m 0x20160000 v).werr 0x20160000) ∧
  (∀ (m : Master) (v : Word) (s : State),
    s.accepts m 0x20160000 →
    v.toNat.testBit 31 = true →
    bits v.toNat 0 3 = 4 →
    (s.stored m 0x20160000 v).on CRYPTO_STATUS_BUSY = true →
    Answers (.cryptoRngFill m v) s fun t =>
      t = (s.stored m 0x20160000 v).werr 0x20160000) ∧
  (∀ (s : State) (o : CryptoOp),
    s.ident.op = some o →
    Answers (.cryptoOpDone) s fun t =>
      t.ident.op = none ∧ t.rd CRYPTO_STATUS_BUSY = 0 ∧ t.rd CRYPTO_CTRL_GO = 0 ∧
        t.rd (if (s.cryptoRun o).2 then CRYPTO_STATUS_DONE else CRYPTO_STATUS_ERR) = 1) ∧
  (∀ (s : State) (o : CryptoOp) (i : Fin 8),
    s.ident.op = some o →
    o.op = 1 →
    o.len = 0 →
    Answers (.cryptoOpDone) s fun t =>
      t.rd CRYPTO_STATUS_DONE = 1 ∧ t.rd (CRYPTO_DIGEST_WORD i) = beAt (sha256 []) (4 * i) 4) ∧
  (∀ (s : State) (o : CryptoOp),
    s.ident.op = some o →
    o.op = 4 →
    s.ident.trngFail = false →
    Answers (.cryptoOpDone) s fun t =>
      t.rd CRYPTO_STATUS_DONE = 1 ∧ t.mem = s.mem) ∧
  (∀ (s : State) (o : CryptoOp),
    s.ident.op = some o →
    o.op = 4 →
    s.ident.trngFail = true →
    Answers (.cryptoOpDone) s fun t =>
      t.rd CRYPTO_STATUS_ERR = 1 ∧ t.rd CRYPTO_RNG_DATA = 0) ∧
  (∀ (s : State),
    s.ident.op = none →
    Answers (.cryptoOpDone) s fun t =>
      t = s) ∧
  (∀ (m : Master) (v : Word) (i : Fin 8) (s : State),
    s.accepts m 0x20160120 →
    v.toNat.testBit 31 = true →
    Answers (.smkeyStore m v) s fun t =>
      t.ident.keys.smKey[(Fin.ofNat 2 (bits v.toNat 0 1) : Fin 2)] = (List.range 8).flatMap (fun i => leBytes 4 (s.rd (CRYPTO_SMKEY_DATA i))) ∧
        t.rd (CRYPTO_SMKEY_DATA i) = 0) ∧
  (∀ (s : State),
    Answers (.trngHealthFail) s fun t =>
      t.ident.trngFail = true ∧ t.rd CRYPTO_RNG_DATA = 0 ∧ t.hasRaised FLT_CRYPTO_RNG)
end

