-- ==== Sys2Proof/Laws/Memory.lean ====
section
/-! SUPPORT. Memory: reading what was written, leaving the rest alone, keeping the canonical form. -/

namespace Sys2Proof.Machine

theorem Memory.find_insert (m : Memory) (a : Nat) (b : Byte) (j : Nat) : (m.insert a b).find j = if a = j then some b else m.find j := by
  induction m with
  | nil => simp [Memory.insert, Memory.find]
  | cons e r ih =>
    simp only [Memory.insert]
    split
    · simp [Memory.find]
    · split
      · rename_i h; subst h; simp only [Memory.find]; split <;> rfl
      · simp only [Memory.find, ih]
        split
        · rename_i h1 h2 h3; subst h3; rw [if_neg (fun h => h2 h.symm)]
        · rfl

theorem Memory.find_erase (m : Memory) (a j : Nat) : (m.erase a).find j = if a = j then none else m.find j := by
  induction m with
  | nil => simp [Memory.erase, Memory.find]
  | cons e r ih =>
    simp only [Memory.erase, List.filter_cons] at *
    by_cases h : e.1 = a
    · simp only [h, bne_self_eq_false, Bool.false_eq_true, ↓reduceIte, ih, Memory.find]
      split <;> rfl
    · simp only [bne_iff_ne, ne_eq, h, not_false_eq_true, ↓reduceIte, Memory.find, ih]
      split
      · rename_i h'; subst h'; rw [if_neg (fun h' => h h'.symm)]
      · rfl

/-- A byte reads what was written to it. -/
theorem Memory.get_set_self (g : Nat) (m : Memory) (a : Nat) (b : Byte) : (m.set g a b).get g a = b := by
  unfold Memory.set Memory.get
  split
  · rename_i h; rw [Memory.find_erase, if_pos rfl]; exact h.symm
  · rw [Memory.find_insert, if_pos rfl]; rfl

/-- A write leaves every other byte alone. -/
theorem Memory.get_set_ne (g : Nat) (m : Memory) {a j : Nat} (h : a ≠ j) (b : Byte) : (m.set g a b).get g j = m.get g j := by
  unfold Memory.set Memory.get
  split
  · rw [Memory.find_erase, if_neg h]
  · rw [Memory.find_insert, if_neg h]

/-- Every address of the list is above `a`. -/
def Memory.above (a : Nat) (m : Memory) : Prop := ∀ e ∈ m, a < e.1

theorem Memory.wf_cons (g : Nat) (e : Host.Cell) (m : Memory) :
    Memory.wf g (e :: m) = true ↔ e.2 ≠ memDefault g e.1 ∧ Memory.above e.1 m ∧ Memory.wf g m = true := by
  induction m generalizing e with
  | nil => simp [Memory.wf, Memory.above]
  | cons b r ih =>
    simp only [Memory.wf, Bool.and_eq_true, decide_eq_true_eq, bne_iff_ne, ne_eq]
    constructor
    · rintro ⟨hd, h, hw⟩
      refine ⟨hd, ?_, hw⟩
      intro x hx
      rcases List.mem_cons.1 hx with rfl | hx
      · exact h
      · exact Nat.lt_trans h (((ih b).1 hw).2.1 x hx)
    · rintro ⟨hd, h, hw⟩
      exact ⟨hd, h b (List.mem_cons_self ..), hw⟩

theorem Memory.wf_filter (g : Nat) (m : Memory) (p : Host.Cell → Bool) (h : m.wf g = true) : Memory.wf g (m.filter p) = true := by
  induction m with
  | nil => rfl
  | cons e r ih =>
    have hw := (Memory.wf_cons g e r).1 h
    rw [List.filter_cons]
    split
    · exact (Memory.wf_cons _ _ _).2 ⟨hw.1, fun x hx => hw.2.1 x (List.mem_filter.1 hx).1, ih hw.2.2⟩
    · exact ih hw.2.2

/-- Below DRAM, memory that survives its loss is canonical whatever DRAM now reads as. -/
theorem Memory.wf_low (g g' : Nat) (m : Memory) (h : m.wf g = true) :
    Memory.wf g' (m.filter (fun e => decide (e.1 < dramBase))) = true := by
  induction m with
  | nil => rfl
  | cons e r ih =>
    have hw := (Memory.wf_cons g e r).1 h
    rw [List.filter_cons]
    split
    · rename_i hl
      have hl := of_decide_eq_true hl
      refine (Memory.wf_cons _ _ _).2 ⟨?_, fun x hx => hw.2.1 x (List.mem_filter.1 hx).1, ih hw.2.2⟩
      have := hw.1
      simpa [memDefault, hl] using this
    · exact ih hw.2.2

theorem Memory.above_insert {j a : Nat} {b : Byte} {m : Memory} (hj : j < a) (h : Memory.above j m) : Memory.above j (m.insert a b) := by
  induction m with
  | nil => intro x hx; simp only [Memory.insert, List.mem_singleton] at hx; subst hx; exact hj
  | cons e r ih =>
    have hr : Memory.above j r := fun x hx => h x (List.mem_cons_of_mem _ hx)
    intro x hx
    simp only [Memory.insert] at hx
    split at hx
    · rcases List.mem_cons.1 hx with rfl | hx
      · exact hj
      · exact h x hx
    · split at hx
      · rcases List.mem_cons.1 hx with rfl | hx
        · exact hj
        · exact hr x hx
      · rcases List.mem_cons.1 hx with rfl | hx
        · exact h _ (List.mem_cons_self ..)
        · exact ih hr x hx

theorem Memory.wf_insert (g : Nat) (m : Memory) (a : Nat) (b : Byte) (hb : b ≠ memDefault g a) (h : m.wf g = true) :
    Memory.wf g (m.insert a b) = true := by
  induction m with
  | nil => simpa [Memory.insert, Memory.wf] using hb
  | cons e r ih =>
    have hw := (Memory.wf_cons g e r).1 h
    simp only [Memory.insert]
    split
    · rename_i hk
      refine (Memory.wf_cons _ _ _).2 ⟨hb, ?_, h⟩
      intro x hx
      rcases List.mem_cons.1 hx with rfl | hx
      · exact hk
      · exact Nat.lt_trans hk (hw.2.1 x hx)
    · split
      · rename_i hk; subst hk; exact (Memory.wf_cons _ _ _).2 ⟨hb, fun x hx => hw.2.1 x hx, hw.2.2⟩
      · rename_i h1 h2
        exact (Memory.wf_cons _ _ _).2 ⟨hw.1, Memory.above_insert (by omega) hw.2.1, ih hw.2.2⟩

/-- A write keeps the canonical form. -/
theorem Memory.wf_set (g : Nat) (m : Memory) (a : Nat) (b : Byte) (h : m.wf g = true) : (m.set g a b).wf g = true := by
  unfold Memory.set
  split
  · exact Memory.wf_filter _ _ _ h
  · rename_i hb; exact Memory.wf_insert _ _ _ _ hb h

/-- A byte reads what was written to it. -/
theorem State.byte_setByte_self (s : State) (a : Nat) (b : Byte) : (s.setByte a b).byte a = b := Memory.get_set_self ..

/-- Writing a byte leaves every other byte alone. -/
theorem State.byte_setByte_ne (s : State) {a j : Nat} (h : a ≠ j) (b : Byte) : (s.setByte a b).byte j = s.byte j := Memory.get_set_ne _ _ h b

end Sys2Proof.Machine
end

