-- ==== Sys2Proof/Laws/Regs.lean ====
section
/-! SUPPORT. The register file: reading what was written, leaving the rest alone, keeping the canonical form. -/

namespace Sys2Proof.Machine

theorem RegFile.find_insert (r : RegFile) (k v j : Nat) : (r.insert k v).find j = if k = j then some v else r.find j := by
  induction r with
  | nil => simp [RegFile.insert, RegFile.find]
  | cons e r ih =>
    simp only [RegFile.insert]
    split
    · simp [RegFile.find]
    · split
      · rename_i h; subst h; simp only [RegFile.find]; split <;> rfl
      · simp only [RegFile.find, ih]
        split
        · rename_i h1 h2 h3; subst h3; rw [if_neg (fun h => h2 h.symm)]
        · rfl

theorem RegFile.find_erase (r : RegFile) (k j : Nat) : (r.erase k).find j = if k = j then none else r.find j := by
  induction r with
  | nil => simp [RegFile.erase, RegFile.find]
  | cons e r ih =>
    simp only [RegFile.erase, List.filter_cons] at *
    by_cases h : e.1 = k
    · simp only [h, bne_self_eq_false, Bool.false_eq_true, ↓reduceIte, ih, RegFile.find]
      split <;> rfl
    · simp only [bne_iff_ne, ne_eq, h, not_false_eq_true, ↓reduceIte, RegFile.find, ih]
      split
      · rename_i h'; subst h'; rw [if_neg (fun h' => h h'.symm)]
      · rfl

/-- Reading a key after a field was written. -/
theorem RegFile.find_set (r : RegFile) (f : Fld) (v k : Nat) :
    (r.set f v).find k = if f.key = k then (if v % 2 ^ f.width = f.reset then none else some (v % 2 ^ f.width)) else r.find k := by
  unfold RegFile.set
  by_cases h : v % 2 ^ f.width = f.reset
  · simp only [h, ↓reduceIte, RegFile.find_erase]
  · simp only [h, ↓reduceIte, RegFile.find_insert]

/-- A field reads what was written to it, cut to its width. -/
theorem RegFile.get_set_self (r : RegFile) (f : Fld) (v : Nat) : (r.set f v).get f = v % 2 ^ f.width := by
  unfold RegFile.get
  rw [RegFile.find_set, if_pos rfl]
  split
  · rename_i h; simp [h]
  · rfl

/-- A write leaves every other field alone. -/
theorem RegFile.get_set_ne (r : RegFile) {f g : Fld} (h : f.key ≠ g.key) (v : Nat) : (r.set f v).get g = r.get g := by
  unfold RegFile.get
  rw [RegFile.find_set, if_neg h]

theorem RegFile.find_filter (r : RegFile) (p : Nat × Nat → Bool) (q : Nat → Bool) (hp : ∀ e, p e = q e.1) (k : Nat) (hk : q k = true) :
    RegFile.find (r.filter p) k = r.find k := by
  induction r with
  | nil => rfl
  | cons e r ih =>
    rw [List.filter_cons]
    by_cases h : p e = true
    · simp only [h, ↓reduceIte, RegFile.find, ih]
    · simp only [h, Bool.false_eq_true, ↓reduceIte, ih, RegFile.find]
      split
      · rename_i h'; exact absurd (by rw [hp, h']; exact hk) h
      · rfl

/-! Canonical form. -/

/-- Every key of the file is above `k`. -/
def RegFile.above (k : Nat) (r : RegFile) : Prop := ∀ e ∈ r, k < e.1

theorem RegFile.wf_cons (e : Nat × Nat) (r : RegFile) : RegFile.wf (e :: r) = true ↔ RegFile.above e.1 r ∧ RegFile.wf r = true := by
  induction r generalizing e with
  | nil => simp [RegFile.wf, RegFile.above]
  | cons b r ih =>
    simp only [RegFile.wf, Bool.and_eq_true, decide_eq_true_eq]
    constructor
    · rintro ⟨h, hw⟩
      refine ⟨?_, hw⟩
      intro x hx
      rcases List.mem_cons.1 hx with rfl | hx
      · exact h
      · exact Nat.lt_trans h (((ih b).1 hw).1 x hx)
    · rintro ⟨h, hw⟩
      exact ⟨h b (List.mem_cons_self ..), hw⟩

theorem RegFile.wf_filter (r : RegFile) (p : Nat × Nat → Bool) (h : r.wf = true) : RegFile.wf (r.filter p) = true := by
  induction r with
  | nil => rfl
  | cons e r ih =>
    have hw := (RegFile.wf_cons e r).1 h
    rw [List.filter_cons]
    split
    · exact (RegFile.wf_cons _ _).2 ⟨fun x hx => hw.1 x (List.mem_filter.1 hx).1, ih hw.2⟩
    · exact ih hw.2

theorem RegFile.above_insert {j k v : Nat} {r : RegFile} (hj : j < k) (h : RegFile.above j r) : RegFile.above j (r.insert k v) := by
  induction r with
  | nil => intro x hx; simp only [RegFile.insert, List.mem_singleton] at hx; subst hx; exact hj
  | cons e r ih =>
    have hr : RegFile.above j r := fun x hx => h x (List.mem_cons_of_mem _ hx)
    intro x hx
    simp only [RegFile.insert] at hx
    split at hx
    · rcases List.mem_cons.1 hx with rfl | hx
      · exact hj
      · exact h x hx
    · split at hx
      · rcases List.mem_cons.1 hx with rfl | hx
        · exact hj
        · exact hr x hx
      · rcases List.mem_cons.1 hx with rfl | hx
        · exact h _ (List.mem_cons_self ..)
        · exact ih hr x hx

theorem RegFile.wf_insert (r : RegFile) (k v : Nat) (h : r.wf = true) : RegFile.wf (r.insert k v) = true := by
  induction r with
  | nil => rfl
  | cons e r ih =>
    have hw := (RegFile.wf_cons e r).1 h
    simp only [RegFile.insert]
    split
    · rename_i hk
      refine (RegFile.wf_cons _ _).2 ⟨?_, h⟩
      intro x hx
      rcases List.mem_cons.1 hx with rfl | hx
      · exact hk
      · exact Nat.lt_trans hk (hw.1 x hx)
    · split
      · rename_i hk; subst hk; exact (RegFile.wf_cons _ _).2 ⟨fun x hx => hw.1 x hx, hw.2⟩
      · rename_i h1 h2
        exact (RegFile.wf_cons _ _).2 ⟨RegFile.above_insert (by omega) hw.1, ih hw.2⟩

/-- A write keeps the canonical form. -/
theorem RegFile.wf_set (r : RegFile) (f : Fld) (v : Nat) (h : r.wf = true) : (r.set f v).wf = true := by
  unfold RegFile.set
  split
  · exact RegFile.wf_filter _ _ h
  · exact RegFile.wf_insert _ _ _ h

/-! The state's fields. -/

/-- A field reads what was written to it, cut to its width. -/
theorem State.rd_wr_self (s : State) (f : Fld) (v : Nat) : (s.wr f v).rd f = v % 2 ^ f.width := RegFile.get_set_self ..

/-- Writing a field leaves every other field alone. -/
theorem State.rd_wr_ne (s : State) {f g : Fld} (h : f.key ≠ g.key) (v : Nat) : (s.wr f v).rd g = s.rd g := RegFile.get_set_ne _ h v

/-- A live copy reads what was written to it, cut to its width. -/
theorem State.lv_wl_self (s : State) (f : Fld) (v : Nat) : (s.wl f v).lv f = v % 2 ^ f.width := RegFile.get_set_self ..

theorem State.lv_wl_ne (s : State) {f g : Fld} (h : f.key ≠ g.key) (v : Nat) : (s.wl f v).lv g = s.lv g := RegFile.get_set_ne _ h v

/-- Fields of different registers have different keys. -/
theorem Fld.key_ne {f g : Fld} (hf : f.lo < 32) (hg : g.lo < 32) (h : f.addr ≠ g.addr) : f.key ≠ g.key := by
  unfold Fld.key; omega

end Sys2Proof.Machine
end

