-- ==== Sys2Proof/Laws/Frame.lean ====
section
/-! SUPPORT. How an operation may change the state: the relation `Fr`, and how it passes through the forms that definitions are made of. -/

namespace Sys2Proof.Machine

/-- `t` comes from `s` by changes to register fields of `bs` and to the zones `zs` only, and canonical forms are kept. -/
structure Fr (bs : List Keys) (zs : List Zone) (s t : State) : Prop where
  regs : ∀ k, k < 2 ^ 37 → (∀ x ∈ bs, x.has k = false) → t.regs.find k = s.regs.find k
  zones : ∀ z, z ∉ zs → State.sameIn z s t
  now : t.now = s.now
  pending : t.pending = s.pending
  wf : s.wf = true → t.wf = true

/-- A sufficient test that every key of `x` is one of `y`. -/
def Keys.le (x y : Keys) : Bool :=
  (y.step == 1 && (Nat.ble y.first x.first && Nat.ble x.last y.last)) || ((x.first == x.last && y.has x.first) ||
    (x.step == y.step && (Nat.ble y.first x.first && (Nat.ble x.last y.last && Nat.ble ((x.first - y.first) % y.step + x.wide) y.wide))))

theorem Keys.le_has {x y : Keys} (h : x.le y = true) {k : Nat} (hk : x.has k = true) : y.has k = true := by
  simp only [Keys.le, Keys.has, Bool.or_eq_true, Bool.and_eq_true, beq_iff_eq, Nat.ble_eq, decide_eq_true_eq] at *
  obtain ⟨k1, k2, k3⟩ := hk
  rcases h with ⟨h1, h2, h3⟩ | ⟨h1, h2⟩ | ⟨h1, h2, h3, h4⟩
  · refine ⟨by omega, by omega, ?_⟩
    rw [h1, Nat.mod_one]; exact Nat.zero_le _
  · have : k = x.first := by omega
    subst this; exact h2
  · refine ⟨by omega, by omega, ?_⟩
    have e : k - y.first = (x.first - y.first) + (k - x.first) := by omega
    rw [e, Nat.add_mod]
    refine Nat.le_trans (Nat.mod_le _ _) ?_
    rw [h1] at k3
    omega

/-- Every key of a set of `a` is in a set of `b`, by that test. -/
def subN (a b : List Keys) : Bool := a.all (fun x => b.any (fun y => x.le y))

theorem subN_not {a b : List Keys} (h : subN a b = true) {k : Nat} (hb : ∀ x ∈ b, x.has k = false) : ∀ x ∈ a, x.has k = false := by
  intro x hx
  simp only [subN, List.all_eq_true, List.any_eq_true] at h
  obtain ⟨y, hy, hle⟩ := h x hx
  cases hk : x.has k with
  | false => rfl
  | true => exact absurd (Keys.le_has hle hk) (by rw [hb y hy]; exact Bool.false_ne_true)

def subZ (a b : List Zone) : Bool := a.all (fun x => b.contains x)

theorem Keys.le_refl (x : Keys) : x.le x = true := by
  simp only [Keys.le, Bool.or_eq_true, Bool.and_eq_true, Nat.ble_eq, beq_iff_eq, Nat.sub_self, Nat.zero_mod, Nat.zero_add]
  exact Or.inr (Or.inr (by simp))
theorem subN_refl (a : List Keys) : subN a a = true :=
  List.all_eq_true.2 (fun x hx => List.any_eq_true.2 ⟨x, hx, Keys.le_refl x⟩)
theorem subN_head (x : Keys) (a : List Keys) : subN [x] (x :: a) = true :=
  List.all_eq_true.2 (fun y hy => List.any_eq_true.2 ⟨x, List.mem_cons_self .., by rw [List.mem_singleton.1 hy]; exact Keys.le_refl x⟩)
theorem subN_tail (x : Keys) (a : List Keys) : subN a (x :: a) = true :=
  List.all_eq_true.2 (fun y hy => List.any_eq_true.2 ⟨y, List.mem_cons_of_mem _ hy, Keys.le_refl y⟩)
theorem subN_append {a b c : List Keys} (h : subN (a ++ b) c = true) : subN a c = true ∧ subN b c = true := by
  simp only [subN, List.all_append, Bool.and_eq_true] at *; exact h
theorem subN_cons {x : Keys} {a c : List Keys} (h : subN (x :: a) c = true) : subN a c = true := by
  simp only [subN, List.all_cons, Bool.and_eq_true] at *; exact h.2
theorem subZ_refl (a : List Zone) : subZ a a = true := List.all_eq_true.2 (fun _ hx => List.contains_iff_mem.2 hx)
theorem subZ_nil (a : List Zone) : subZ [] a = true := rfl
theorem subZ_append {a b c : List Zone} (h : subZ (a ++ b) c = true) : subZ a c = true ∧ subZ b c = true := by
  simp only [subZ, List.all_append, Bool.and_eq_true] at *; exact h
theorem subZ_trans {a b c : List Zone} (h : subZ a b = true) (h' : subZ b c = true) : subZ a c = true := by
  simp only [subZ, List.all_eq_true, List.contains_iff_mem] at *
  exact fun x hx => h' x (h x hx)

theorem State.wf_iff (s : State) : s.wf = true ↔ s.regs.wf = true ∧ s.live.wf = true ∧ s.mem.wf s.dramGen = true := by
  simp [State.wf, and_assoc]

theorem State.sameIn_refl (z : Zone) (s : State) : State.sameIn z s s := by
  cases z <;> simp [State.sameIn]

theorem State.sameIn_trans {z : Zone} {s t u : State} (h : State.sameIn z s t) (h' : State.sameIn z t u) : State.sameIn z s u := by
  cases z <;> simp only [State.sameIn] at * <;> simp [h, h']

theorem Fr.refl {bs zs} (s : State) : Fr bs zs s s := ⟨fun _ _ _ => rfl, fun z _ => State.sameIn_refl z s, rfl, rfl, id⟩

theorem Fr.step {b z bs zs} {s t u : State} (hx : Fr b z t u) (hb : subN b bs = true) (hz : subZ z zs = true) (h : Fr bs zs s t) :
    Fr bs zs s u := by
  have hz' : ∀ x ∈ z, x ∈ zs := by simpa [subZ] using hz
  refine ⟨fun k h0 hk => ?_, fun x hx' => ?_, hx.now.trans h.now, hx.pending.trans h.pending, fun hw => hx.wf (h.wf hw)⟩
  · rw [hx.regs k h0 (subN_not hb hk), h.regs k h0 hk]
  · exact State.sameIn_trans (h.zones x hx') (hx.zones x (fun hh => hx' (hz' _ hh)))

theorem Fr.ite {bs zs} {s t u : State} {c : Prop} [Decidable c] (h1 : Fr bs zs s t) (h2 : Fr bs zs s u) :
    Fr bs zs s (if c then t else u) := by
  split
  · exact h1
  · exact h2

/-- Some set holds the key. -/
def Keys.any (xs : List Keys) (k : Nat) : Bool := List.any xs (fun x => x.has k)

/-- The set holds every field of the register at `addr`. -/
def Keys.word (x : Keys) (addr : Nat) : Prop := x.first ≤ addr * 32 ∧ addr * 32 + 31 ≤ x.last ∧ (addr * 32 - x.first) % x.step + 31 ≤ x.wide
theorem Keys.word_intro {a b c d addr : Nat} (h1 : a ≤ addr * 32) (h2 : addr * 32 + 31 ≤ b) (h3 : (addr * 32 - a) % c + 31 ≤ d) :
    Keys.word ⟨a, b, c, d⟩ addr := ⟨h1, h2, h3⟩

theorem Keys.has_intro {a b c d k : Nat} (h1 : a ≤ k) (h2 : k ≤ b) (h3 : (k - a) % c ≤ d) : Keys.has ⟨a, b, c, d⟩ k = true := by
  simp only [Keys.has, Bool.and_eq_true, decide_eq_true_eq]; exact ⟨h1, h2, h3⟩
theorem Keys.word.has {x : Keys} {addr : Nat} (h : x.word addr) {f : Fld} (ha : f.addr = addr) (hl : f.lo < 32) : x.has f.key = true := by
  obtain ⟨h1, h2, h3⟩ := h
  have e : f.key - x.first = (addr * 32 - x.first) + f.lo := by unfold Fld.key; omega
  refine Keys.has_intro (by unfold Fld.key; omega) (by unfold Fld.key; omega) ?_
  rw [e, Nat.add_mod]
  refine Nat.le_trans (Nat.mod_le _ _) ?_
  have := Nat.mod_le f.lo x.step
  omega
theorem Keys.any_one {x : Keys} {k : Nat} (h : x.has k = true) : Keys.any [x] k = true := by
  simp only [Keys.any, List.any_cons, h, Bool.true_or]
theorem Keys.any_left {x y : Keys} {k : Nat} (h : x.has k = true) : Keys.any [x, y] k = true := by
  simp only [Keys.any, List.any_cons, h, Bool.true_or]
theorem Keys.any_right {x y : Keys} {k : Nat} (h : y.has k = true) : Keys.any [x, y] k = true := by
  simp only [Keys.any, List.any_cons, h, Bool.true_or, Bool.or_true]

theorem Keys.any_append_left {xs ys : List Keys} {k : Nat} (h : Keys.any xs k = true) : Keys.any (xs ++ ys) k = true := by
  simp only [Keys.any, List.any_append, Bool.or_eq_true] at *; exact Or.inl h
theorem Keys.any_append_right {xs ys : List Keys} {k : Nat} (h : Keys.any ys k = true) : Keys.any (xs ++ ys) k = true := by
  simp only [Keys.any, List.any_append, Bool.or_eq_true] at *; exact Or.inr h

/-- The key of a choice of fields. -/
theorem Keys.any_ite {f g : Fld} {c : Prop} [Decidable c] {xs ys : List Keys} (h1 : Keys.any xs f.key = true) (h2 : Keys.any ys g.key = true) :
    Keys.any (xs ++ ys) (if c then f else g).key = true := by
  simp only [Keys.any, List.any_append, Bool.or_eq_true] at *
  split
  · exact Or.inl h1
  · exact Or.inr h2

theorem Fr.iteh {bs zs} {s t u : State} {c : Prop} [Decidable c] (h1 : c → Fr bs zs s t) (h2 : ¬ c → Fr bs zs s u) :
    Fr bs zs s (if c then t else u) := by
  split
  · exact h1 ‹_›
  · exact h2 ‹_›

theorem Fr.wr {bs zs} {s t : State} {f : Fld} {v : Nat} {xs : List Keys} (hk : Keys.any xs f.key = true) (hb : subN xs bs = true)
    (h : Fr bs zs s t) : Fr bs zs s (t.wr f v) := by
  refine ⟨fun k h0 hk' => ?_, fun z hz => State.sameIn_trans (h.zones z hz) (by cases z <;> simp [State.sameIn, State.wr]), h.now, h.pending, fun hw => ?_⟩
  · rw [← h.regs k h0 hk']
    refine (RegFile.find_set ..).trans (if_neg ?_)
    rintro rfl
    obtain ⟨x, hx, hh⟩ := List.any_eq_true.1 hk
    exact absurd hh (by rw [subN_not hb hk' x hx]; exact Bool.false_ne_true)
  · have := (State.wf_iff _).1 (h.wf hw)
    exact (State.wf_iff _).2 ⟨RegFile.wf_set _ _ _ this.1, this.2⟩

theorem Keys.all_has {k : Nat} (h : k < 2 ^ 37) : Keys.has ⟨0, 137438953471, 1, 0⟩ k = true :=
  Keys.has_intro (Nat.zero_le _) (by omega) (Nat.le_of_eq (Nat.mod_one _))

/-- With every field in the set a write needs no key. -/
theorem Fr.wrAll {bs zs} {s t : State} {f : Fld} {v : Nat} (hb : subN [⟨0, 137438953471, 1, 0⟩] bs = true)
    (h : Fr bs zs s t) : Fr bs zs s (t.wr f v) := by
  refine ⟨fun k h0 hk' => ?_, fun z hz => State.sameIn_trans (h.zones z hz) (by cases z <;> simp [State.sameIn, State.wr]), h.now, h.pending, fun hw => ?_⟩
  · exact absurd (Keys.all_has h0) (by rw [subN_not hb hk' _ (List.mem_singleton_self _)]; exact Bool.false_ne_true)
  · have := (State.wf_iff _).1 (h.wf hw)
    exact (State.wf_iff _).2 ⟨RegFile.wf_set _ _ _ this.1, this.2⟩

theorem Fr.wl {bs zs} {s t : State} {f : Fld} {v : Nat} (hz : zs.contains .live = true) (h : Fr bs zs s t) : Fr bs zs s (t.wl f v) := by
  have hz' : Zone.live ∈ zs := by simpa using hz
  refine ⟨h.regs, fun z hz => State.sameIn_trans (h.zones z hz) ?_, h.now, h.pending, fun hw => ?_⟩
  · cases z <;> first | exact absurd hz' hz | simp [State.sameIn, State.wl]
  · have := (State.wf_iff _).1 (h.wf hw)
    exact (State.wf_iff _).2 ⟨this.1, RegFile.wf_set _ _ _ this.2.1, this.2.2⟩

theorem Fr.setByte {bs zs} {s t : State} {a : Nat} {b : Byte} (hz : zs.contains .mem = true) (h : Fr bs zs s t) :
    Fr bs zs s (t.setByte a b) := by
  have hz' : Zone.mem ∈ zs := by simpa using hz
  refine ⟨h.regs, fun z hz => State.sameIn_trans (h.zones z hz) ?_, h.now, h.pending, fun hw => ?_⟩
  · cases z <;> first | exact absurd hz' hz | simp [State.sameIn, State.setByte]
  · have := (State.wf_iff _).1 (h.wf hw)
    exact (State.wf_iff _).2 ⟨this.1, this.2.1, Memory.wf_set _ _ _ _ this.2.2⟩

/-- A change of fields other than the register file, the live copies, memory, the clock and the queue. -/
theorem Fr.upd {bs zs} {s u : State} (t : State) (hr : u.regs = t.regs) (hl : u.live = t.live) (hm : u.mem = t.mem)
    (hg : u.dramGen = t.dramGen) (hn : u.now = t.now) (hp : u.pending = t.pending) (hz : ∀ z, z ∉ zs → State.sameIn z t u)
    (h : Fr bs zs s t) : Fr bs zs s u :=
  ⟨fun k h0 hk => by rw [hr]; exact h.regs k h0 hk, fun z hz' => State.sameIn_trans (h.zones z hz') (hz z hz'), hn.trans h.now, hp.trans h.pending,
    fun hw => by simpa [State.wf, hr, hl, hm, hg] using h.wf hw⟩

theorem Fr.foldl {α} {bs zs} {s : State} {f : State → α → State} {l : List α} {t : State} (h : Fr bs zs s t)
    (hf : ∀ t x, Fr bs zs s t → Fr bs zs s (f t x)) : Fr bs zs s (l.foldl f t) := by
  induction l generalizing t with
  | nil => exact h
  | cons x l ih => exact ih (hf t x h)

theorem Fr.foldl' {α} {bs zs} {s : State} {f : State → α → State} {l : List α} {t : State} (h : Fr bs zs s t)
    (hf : ∀ t, ∀ x ∈ l, Fr bs zs s t → Fr bs zs s (f t x)) : Fr bs zs s (l.foldl f t) := by
  induction l generalizing t with
  | nil => exact h
  | cons x l ih =>
    exact ih (hf t x (List.mem_cons_self ..) h) (fun t y hy => hf t y (List.mem_cons_of_mem _ hy))

theorem Fr.foldl1 {α β} {bs zs} {s : State} {f : State × β → α → State × β} {l : List α} {t : State × β} (h : Fr bs zs s t.1)
    (hf : ∀ t x, Fr bs zs s t.1 → Fr bs zs s (f t x).1) : Fr bs zs s (l.foldl f t).1 := by
  induction l generalizing t with
  | nil => exact h
  | cons x l ih => exact ih (hf t x h)

theorem Fr.foldl2 {α β} {bs zs} {s : State} {f : β × State → α → β × State} {l : List α} {t : β × State} (h : Fr bs zs s t.2)
    (hf : ∀ t x, Fr bs zs s t.2 → Fr bs zs s (f t x).2) : Fr bs zs s (l.foldl f t).2 := by
  induction l generalizing t with
  | nil => exact h
  | cons x l ih => exact ih (hf t x h)

theorem Fr.forFin {n : Nat} {bs zs} {s t : State} {f : Fin n → State → State} (h : Fr bs zs s t)
    (hf : ∀ i t, Fr bs zs s t → Fr bs zs s (f i t)) : Fr bs zs s (t.forFin f) :=
  Fr.foldl h (fun t x ht => hf x t ht)

/-- What a command answers: a next state that comes from `s` in the way of `Fr`. -/
def FrRes (bs : List Keys) (zs : List Zone) (s : State) (r : Res) : Prop := ∃ t, r = .next t ∧ Fr bs zs s t

theorem FrRes.next {bs zs} {s t : State} (h : Fr bs zs s t) : FrRes bs zs s (.next t) := ⟨t, rfl, h⟩

theorem FrRes.ite {bs zs} {s : State} {t u : Res} {c : Prop} [Decidable c] (h1 : FrRes bs zs s t) (h2 : FrRes bs zs s u) :
    FrRes bs zs s (if c then t else u) := by
  split
  · exact h1
  · exact h2

theorem FrRes.iteh {bs zs} {s : State} {t u : Res} {c : Prop} [Decidable c] (h1 : c → FrRes bs zs s t) (h2 : ¬ c → FrRes bs zs s u) :
    FrRes bs zs s (if c then t else u) := by
  split
  · exact h1 ‹_›
  · exact h2 ‹_›

/-! Forms of definitions. -/

theorem Fr.cut {bs zs} {s u : State} (x : State) (h1 : Fr bs zs s x) (h2 : Fr bs zs s x → Fr bs zs s u) : Fr bs zs s u := h2 h1
theorem Fr.cutRes {bs zs} {s : State} {r : Res} (x : State) (h1 : Fr bs zs s x) (h2 : Fr bs zs s x → FrRes bs zs s r) : FrRes bs zs s r := h2 h1

theorem FrRes.mono {b z bs zs} {s : State} {r : Res} (h : FrRes b z s r) (hb : subN b bs = true) (hz : subZ z zs = true) : FrRes bs zs s r := by
  obtain ⟨t, ht, hf⟩ := h
  exact ⟨t, ht, Fr.step hf hb hz (Fr.refl s)⟩

theorem Fr.resOr {b z bs zs} {s t : State} {r : Res} (hr : FrRes b z t r) (hb : subN b bs = true) (hz : subZ z zs = true) (h : Fr bs zs s t) :
    Fr bs zs s (match r with | .next u => u | _ => t) := by
  obtain ⟨u, rfl, hu⟩ := hr
  exact Fr.step hu hb hz h

theorem Fr.wrB {bs zs} {s t : State} {f : Fld} {v : Bool} {xs : List Keys} (hk : Keys.any xs f.key = true) (hb : subN xs bs = true)
    (h : Fr bs zs s t) : Fr bs zs s (t.wrB f v) := Fr.wr hk hb h
theorem Fr.inc {bs zs} {s t : State} {f : Fld} {xs : List Keys} (hk : Keys.any xs f.key = true) (hb : subN xs bs = true)
    (h : Fr bs zs s t) : Fr bs zs s (t.inc f) := Fr.wr hk hb h
theorem Fr.addSat {bs zs} {s t : State} {f : Fld} {n : Nat} {xs : List Keys} (hk : Keys.any xs f.key = true) (hb : subN xs bs = true)
    (h : Fr bs zs s t) : Fr bs zs s (t.addSat f n) := Fr.wr hk hb h

theorem Fr.mk1 {β} {bs zs} {s t : State} {b : β} (h : Fr bs zs s t) : Fr bs zs s (t, b).1 := h
theorem Fr.mk2 {β} {bs zs} {s t : State} {b : β} (h : Fr bs zs s t) : Fr bs zs s (b, t).2 := h
theorem Fr.ite1 {β} {bs zs} {s : State} {t u : State × β} {c : Prop} [Decidable c] (h1 : Fr bs zs s t.1) (h2 : Fr bs zs s u.1) :
    Fr bs zs s (if c then t else u).1 := by
  split
  · exact h1
  · exact h2
theorem Fr.ite2 {β} {bs zs} {s : State} {t u : β × State} {c : Prop} [Decidable c] (h1 : Fr bs zs s t.2) (h2 : Fr bs zs s u.2) :
    Fr bs zs s (if c then t else u).2 := by
  split
  · exact h1
  · exact h2
theorem Fr.iteh1 {β} {bs zs} {s : State} {t u : State × β} {c : Prop} [Decidable c] (h1 : c → Fr bs zs s t.1) (h2 : ¬ c → Fr bs zs s u.1) :
    Fr bs zs s (if c then t else u).1 := by
  split
  · exact h1 ‹_›
  · exact h2 ‹_›
theorem Fr.iteh2 {β} {bs zs} {s : State} {t u : β × State} {c : Prop} [Decidable c] (h1 : c → Fr bs zs s t.2) (h2 : ¬ c → Fr bs zs s u.2) :
    Fr bs zs s (if c then t else u).2 := by
  split
  · exact h1 ‹_›
  · exact h2 ‹_›
theorem Fr.id' {bs zs} {s t : State} (h : Fr bs zs s t) : Fr bs zs s (id t) := h

/-- A change of one zone that is neither the live copies nor memory. -/
theorem Fr.zone {bs zs} {s t u : State} (z : Zone) (hz : zs.contains z = true) (hr : u.regs = t.regs) (hl : u.live = t.live)
    (hm : u.mem = t.mem) (hg : u.dramGen = t.dramGen) (hn : u.now = t.now) (hp : u.pending = t.pending)
    (ho : ∀ y, y ≠ z → State.sameIn y t u) (h : Fr bs zs s t) : Fr bs zs s u :=
  Fr.upd t hr hl hm hg hn hp (fun y hy => ho y (fun e => hy (by subst e; simpa using hz))) h

theorem Fr.set_part {bs zs} {s t : State} {x} (hz : zs.contains .part = true) (h : Fr bs zs s t) : Fr bs zs s { t with part := x } :=
  Fr.zone (t := t) .part hz rfl rfl rfl rfl rfl rfl (fun y hy => by cases y <;> first | exact absurd rfl hy | simp [State.sameIn]) h
theorem Fr.set_sa {bs zs} {s t : State} {x} (hz : zs.contains .sa = true) (h : Fr bs zs s t) : Fr bs zs s { t with sa := x } :=
  Fr.zone (t := t) .sa hz rfl rfl rfl rfl rfl rfl (fun y hy => by cases y <;> first | exact absurd rfl hy | simp [State.sameIn]) h
theorem Fr.set_layer {bs zs} {s t : State} {x} (hz : zs.contains .layer = true) (h : Fr bs zs s t) : Fr bs zs s { t with layer := x } :=
  Fr.zone (t := t) .layer hz rfl rfl rfl rfl rfl rfl (fun y hy => by cases y <;> first | exact absurd rfl hy | simp [State.sameIn]) h
theorem Fr.set_maskin {bs zs} {s t : State} {x} (hz : zs.contains .maskin = true) (h : Fr bs zs s t) : Fr bs zs s { t with maskin := x } :=
  Fr.zone (t := t) .maskin hz rfl rfl rfl rfl rfl rfl (fun y hy => by cases y <;> first | exact absurd rfl hy | simp [State.sameIn]) h
theorem Fr.set_ft {bs zs} {s t : State} {x} (hz : zs.contains .ft = true) (h : Fr bs zs s t) : Fr bs zs s { t with ft := x } :=
  Fr.zone (t := t) .ft hz rfl rfl rfl rfl rfl rfl (fun y hy => by cases y <;> first | exact absurd rfl hy | simp [State.sameIn]) h
theorem Fr.set_tl {bs zs} {s t : State} {x} (hz : zs.contains .tl = true) (h : Fr bs zs s t) : Fr bs zs s { t with tl := x } :=
  Fr.zone (t := t) .tl hz rfl rfl rfl rfl rfl rfl (fun y hy => by cases y <;> first | exact absurd rfl hy | simp [State.sameIn]) h
theorem Fr.set_lane {bs zs} {s t : State} {x} (hz : zs.contains .lane = true) (h : Fr bs zs s t) : Fr bs zs s { t with lane := x } :=
  Fr.zone (t := t) .lane hz rfl rfl rfl rfl rfl rfl (fun y hy => by cases y <;> first | exact absurd rfl hy | simp [State.sameIn]) h
theorem Fr.set_hlth {bs zs} {s t : State} {x} (hz : zs.contains .hlth = true) (h : Fr bs zs s t) : Fr bs zs s { t with hlth := x } :=
  Fr.zone (t := t) .hlth hz rfl rfl rfl rfl rfl rfl (fun y hy => by cases y <;> first | exact absurd rfl hy | simp [State.sameIn]) h
theorem Fr.set_lsc {bs zs} {s t : State} {x} (hz : zs.contains .lsc = true) (h : Fr bs zs s t) : Fr bs zs s { t with lsc := x } :=
  Fr.zone (t := t) .lsc hz rfl rfl rfl rfl rfl rfl (fun y hy => by cases y <;> first | exact absurd rfl hy | simp [State.sameIn]) h
theorem Fr.set_thm {bs zs} {s t : State} {x} (hz : zs.contains .thm = true) (h : Fr bs zs s t) : Fr bs zs s { t with thm := x } :=
  Fr.zone (t := t) .thm hz rfl rfl rfl rfl rfl rfl (fun y hy => by cases y <;> first | exact absurd rfl hy | simp [State.sameIn]) h
theorem Fr.set_cal {bs zs} {s t : State} {x} (hz : zs.contains .cal = true) (h : Fr bs zs s t) : Fr bs zs s { t with cal := x } :=
  Fr.zone (t := t) .cal hz rfl rfl rfl rfl rfl rfl (fun y hy => by cases y <;> first | exact absurd rfl hy | simp [State.sameIn]) h
theorem Fr.set_time {bs zs} {s t : State} {x} (hz : zs.contains .time = true) (h : Fr bs zs s t) : Fr bs zs s { t with time := x } :=
  Fr.zone (t := t) .time hz rfl rfl rfl rfl rfl rfl (fun y hy => by cases y <;> first | exact absurd rfl hy | simp [State.sameIn]) h
theorem Fr.set_net {bs zs} {s t : State} {x} (hz : zs.contains .net = true) (h : Fr bs zs s t) : Fr bs zs s { t with net := x } :=
  Fr.zone (t := t) .net hz rfl rfl rfl rfl rfl rfl (fun y hy => by cases y <;> first | exact absurd rfl hy | simp [State.sameIn]) h
theorem Fr.set_safe {bs zs} {s t : State} {x} (hz : zs.contains .safe = true) (h : Fr bs zs s t) : Fr bs zs s { t with safe := x } :=
  Fr.zone (t := t) .safe hz rfl rfl rfl rfl rfl rfl (fun y hy => by cases y <;> first | exact absurd rfl hy | simp [State.sameIn]) h
theorem Fr.set_flt {bs zs} {s t : State} {x} (hz : zs.contains .flt = true) (h : Fr bs zs s t) : Fr bs zs s { t with flt := x } :=
  Fr.zone (t := t) .flt hz rfl rfl rfl rfl rfl rfl (fun y hy => by cases y <;> first | exact absurd rfl hy | simp [State.sameIn]) h
theorem Fr.set_evc {bs zs} {s t : State} {x} (hz : zs.contains .evc = true) (h : Fr bs zs s t) : Fr bs zs s { t with evc := x } :=
  Fr.zone (t := t) .evc hz rfl rfl rfl rfl rfl rfl (fun y hy => by cases y <;> first | exact absurd rfl hy | simp [State.sameIn]) h
theorem Fr.set_peri {bs zs} {s t : State} {x} (hz : zs.contains .peri = true) (h : Fr bs zs s t) : Fr bs zs s { t with peri := x } :=
  Fr.zone (t := t) .peri hz rfl rfl rfl rfl rfl rfl (fun y hy => by cases y <;> first | exact absurd rfl hy | simp [State.sameIn]) h
theorem Fr.set_cvu {bs zs} {s t : State} {x} (hz : zs.contains .cvu = true) (h : Fr bs zs s t) : Fr bs zs s { t with cvu := x } :=
  Fr.zone (t := t) .cvu hz rfl rfl rfl rfl rfl rfl (fun y hy => by cases y <;> first | exact absurd rfl hy | simp [State.sameIn]) h
theorem Fr.set_memc {bs zs} {s t : State} {x} (hz : zs.contains .memc = true) (h : Fr bs zs s t) : Fr bs zs s { t with memc := x } :=
  Fr.zone (t := t) .memc hz rfl rfl rfl rfl rfl rfl (fun y hy => by cases y <;> first | exact absurd rfl hy | simp [State.sameIn]) h
theorem Fr.set_win {bs zs} {s t : State} {x} (hz : zs.contains .win = true) (h : Fr bs zs s t) : Fr bs zs s { t with win := x } :=
  Fr.zone (t := t) .win hz rfl rfl rfl rfl rfl rfl (fun y hy => by cases y <;> first | exact absurd rfl hy | simp [State.sameIn]) h
theorem Fr.set_pair {bs zs} {s t : State} {x} (hz : zs.contains .pair = true) (h : Fr bs zs s t) : Fr bs zs s { t with pair := x } :=
  Fr.zone (t := t) .pair hz rfl rfl rfl rfl rfl rfl (fun y hy => by cases y <;> first | exact absurd rfl hy | simp [State.sameIn]) h
theorem Fr.set_pwr {bs zs} {s t : State} {x} (hz : zs.contains .pwr = true) (h : Fr bs zs s t) : Fr bs zs s { t with pwr := x } :=
  Fr.zone (t := t) .pwr hz rfl rfl rfl rfl rfl rfl (fun y hy => by cases y <;> first | exact absurd rfl hy | simp [State.sameIn]) h
theorem Fr.set_ident {bs zs} {s t : State} {x} (hz : zs.contains .ident = true) (h : Fr bs zs s t) : Fr bs zs s { t with ident := x } :=
  Fr.zone (t := t) .ident hz rfl rfl rfl rfl rfl rfl (fun y hy => by cases y <;> first | exact absurd rfl hy | simp [State.sameIn]) h
theorem Fr.set_freeCtr {bs zs} {s t : State} {x} (hz : zs.contains .free = true) (h : Fr bs zs s t) : Fr bs zs s { t with freeCtr := x } :=
  Fr.zone (t := t) .free hz rfl rfl rfl rfl rfl rfl (fun y hy => by cases y <;> first | exact absurd rfl hy | simp [State.sameIn]) h
theorem Fr.set_hlth_lsc {bs zs} {s t : State} {x y} (hz : (zs.contains .hlth && zs.contains .lsc) = true) (h : Fr bs zs s t) :
    Fr bs zs s { t with hlth := x, lsc := y } :=
  Fr.set_lsc (t := { t with hlth := x }) (x := y) (Bool.and_eq_true_iff.1 hz).2 (Fr.set_hlth (x := x) (Bool.and_eq_true_iff.1 hz).1 h)
theorem Fr.set_cal_ident {bs zs} {s t : State} {x y} (hz : (zs.contains .cal && zs.contains .ident) = true) (h : Fr bs zs s t) :
    Fr bs zs s { t with cal := x, ident := y } :=
  Fr.set_ident (t := { t with cal := x }) (x := y) (Bool.and_eq_true_iff.1 hz).2 (Fr.set_cal (x := x) (Bool.and_eq_true_iff.1 hz).1 h)
theorem Fr.set_part_ident {bs zs} {s t : State} {x y} (hz : (zs.contains .part && zs.contains .ident) = true) (h : Fr bs zs s t) :
    Fr bs zs s { t with part := x, ident := y } :=
  Fr.set_ident (t := { t with part := x }) (x := y) (Bool.and_eq_true_iff.1 hz).2 (Fr.set_part (x := x) (Bool.and_eq_true_iff.1 hz).1 h)
theorem Fr.set_thm_pair {bs zs} {s t : State} {x y} (hz : (zs.contains .thm && zs.contains .pair) = true) (h : Fr bs zs s t) :
    Fr bs zs s { t with thm := x, pair := y } :=
  Fr.set_pair (t := { t with thm := x }) (x := y) (Bool.and_eq_true_iff.1 hz).2 (Fr.set_thm (x := x) (Bool.and_eq_true_iff.1 hz).1 h)
theorem Fr.set_sa_layer {bs zs} {s t : State} {x y} (hz : (zs.contains .sa && zs.contains .layer) = true) (h : Fr bs zs s t) :
    Fr bs zs s { t with sa := x, layer := y } :=
  Fr.set_layer (t := { t with sa := x }) (x := y) (Bool.and_eq_true_iff.1 hz).2 (Fr.set_sa (x := x) (Bool.and_eq_true_iff.1 hz).1 h)
theorem Fr.set_sa_pair {bs zs} {s t : State} {x y} (hz : (zs.contains .sa && zs.contains .pair) = true) (h : Fr bs zs s t) :
    Fr bs zs s { t with sa := x, pair := y } :=
  Fr.set_pair (t := { t with sa := x }) (x := y) (Bool.and_eq_true_iff.1 hz).2 (Fr.set_sa (x := x) (Bool.and_eq_true_iff.1 hz).1 h)
theorem Fr.set_pwr_ident {bs zs} {s t : State} {x y} (hz : (zs.contains .pwr && zs.contains .ident) = true) (h : Fr bs zs s t) :
    Fr bs zs s { t with pwr := x, ident := y } :=
  Fr.set_ident (t := { t with pwr := x }) (x := y) (Bool.and_eq_true_iff.1 hz).2 (Fr.set_pwr (x := x) (Bool.and_eq_true_iff.1 hz).1 h)

theorem Fr.clearRegs {bs zs} {s t : State} {lo hi : Nat} (hb : subN [⟨lo * 32, hi * 32 - 1, 1, 0⟩] bs = true) (hz : zs.contains .live = true)
    (h : Fr bs zs s t) : Fr bs zs s (t.clearRegs lo hi) := by
  have hz' : Zone.live ∈ zs := by simpa using hz
  refine ⟨fun k h0 hk' => ?_, fun z hz => State.sameIn_trans (h.zones z hz) ?_, h.now, h.pending, fun hw => ?_⟩
  · rw [← h.regs k h0 hk']
    refine RegFile.find_filter _ _ (fun k => !(decide (lo * 32 ≤ k) && decide (k < hi * 32))) (fun e => rfl) k ?_
    have := subN_not hb hk' _ (List.mem_singleton_self _)
    simp only [Keys.has, Nat.mod_one, Nat.zero_le, decide_true, Bool.and_true, Bool.and_eq_false_iff, decide_eq_false_iff_not] at this
    simp only [Bool.not_eq_true', Bool.and_eq_false_iff, decide_eq_false_iff_not]
    omega
  · cases z <;> first | exact absurd hz' hz | simp [State.sameIn, State.clearRegs]
  · have := (State.wf_iff _).1 (h.wf hw)
    exact (State.wf_iff _).2 ⟨RegFile.wf_filter _ _ this.1, RegFile.wf_filter _ _ this.2.1, this.2.2⟩

/-- A filter of memory. -/
theorem Fr.memFilter {bs zs} {s t : State} (p : Host.Cell → Bool) (hz : zs.contains .mem = true) (h : Fr bs zs s t) :
    Fr bs zs s { t with mem := t.mem.filter p } := by
  have hz' : Zone.mem ∈ zs := by simpa using hz
  refine ⟨h.regs, fun z hz => State.sameIn_trans (h.zones z hz) ?_, h.now, h.pending, fun hw => ?_⟩
  · cases z <;> first | exact absurd hz' hz | simp [State.sameIn]
  · have := (State.wf_iff _).1 (h.wf hw)
    exact (State.wf_iff _).2 ⟨this.1, this.2.1, Memory.wf_filter _ _ _ this.2.2⟩

/-- The frame of `Fr` as statements put it. -/
theorem Fr.within {bs zs} {s t : State} (h : Fr bs zs s t) : State.Within bs zs s t :=
  ⟨fun f ha hl hb => by
      show (t.regs.find f.key).getD _ = (s.regs.find f.key).getD _
      have : f.key < 2 ^ 37 := by unfold Fld.key; omega
      rw [h.regs _ this hb],
    h.zones, h.now, h.pending⟩

end Sys2Proof.Machine
end

