-- ==== Sys2Proof/Laws/RegKeys.lean ====
section
/-! SUPPORT. The keys of every indexed field that a definition writes. -/

namespace Sys2Proof.Machine

theorem Reg.SA_FENCE_key {i : Nat} (h : i < 128) : Keys.any [⟨17196648960, 17196649375, 1, 0⟩] (Reg.SA_FENCE i).key = true := by
  refine Keys.any_one (Keys.has_intro ?_ ?_ ?_) <;> simp only [Reg.SA_FENCE, Fld.key] <;> omega

theorem Reg.LAYER_STATUS_LIVE_key {i : Nat} (h : i < 8) : Keys.any [⟨17198743680, 17198743687, 1, 0⟩] (Reg.LAYER_STATUS_LIVE i).key = true := by
  refine Keys.any_one (Keys.has_intro ?_ ?_ ?_) <;> simp only [Reg.LAYER_STATUS_LIVE, Fld.key] <;> omega

theorem Reg.LAYER_STATUS_ARMED_key {i : Nat} (h : i < 8) : Keys.any [⟨17198743688, 17198743695, 1, 0⟩] (Reg.LAYER_STATUS_ARMED i).key = true := by
  refine Keys.any_one (Keys.has_intro ?_ ?_ ?_) <;> simp only [Reg.LAYER_STATUS_ARMED, Fld.key] <;> omega

theorem Reg.LAYER_STATUS_STALE_key {i : Nat} (h : i < 8) : Keys.any [⟨17198743696, 17198743703, 1, 0⟩] (Reg.LAYER_STATUS_STALE i).key = true := by
  refine Keys.any_one (Keys.has_intro ?_ ?_ ?_) <;> simp only [Reg.LAYER_STATUS_STALE, Fld.key] <;> omega

theorem Reg.LAYER_L_DEFER_TOTAL_key {k : Nat} (h : k < 8) : Keys.any [⟨17198752640, 17198766976, 2048, 0⟩] (Reg.LAYER_L_DEFER_TOTAL k).key = true := by
  refine Keys.any_one (Keys.has_intro ?_ ?_ ?_) <;> simp only [Reg.LAYER_L_DEFER_TOTAL, Fld.key] <;> omega

theorem Reg.LAYER_L_DEFER_CONSEC_key {k : Nat} (h : k < 8) : Keys.any [⟨17198752656, 17198766992, 2048, 0⟩] (Reg.LAYER_L_DEFER_CONSEC k).key = true := by
  refine Keys.any_one (Keys.has_intro ?_ ?_ ?_) <;> simp only [Reg.LAYER_L_DEFER_CONSEC, Fld.key] <;> omega

theorem Reg.LAYER_L_WARP_STATUS_FILTER_key {k : Nat} (h : k < 8) : Keys.any [⟨17198753152, 17198767488, 2048, 0⟩] (Reg.LAYER_L_WARP_STATUS_FILTER k).key = true := by
  refine Keys.any_one (Keys.has_intro ?_ ?_ ?_) <;> simp only [Reg.LAYER_L_WARP_STATUS_FILTER, Fld.key] <;> omega

theorem Reg.LAYER_L_WARP_STATUS_CHECKED_key {k : Nat} (h : k < 8) : Keys.any [⟨17198753154, 17198767490, 2048, 0⟩] (Reg.LAYER_L_WARP_STATUS_CHECKED k).key = true := by
  refine Keys.any_one (Keys.has_intro ?_ ?_ ?_) <;> simp only [Reg.LAYER_L_WARP_STATUS_CHECKED, Fld.key] <;> omega

theorem Reg.LAYER_L_WARP_STATUS_CHK_BUSY_key {k : Nat} (h : k < 8) : Keys.any [⟨17198753155, 17198767491, 2048, 0⟩] (Reg.LAYER_L_WARP_STATUS_CHK_BUSY k).key = true := by
  refine Keys.any_one (Keys.has_intro ?_ ?_ ?_) <;> simp only [Reg.LAYER_L_WARP_STATUS_CHK_BUSY, Fld.key] <;> omega

theorem Reg.LAYER_L_WARP_STATUS_CHK_CODE_key {k : Nat} (h : k < 8) : Keys.any [⟨17198753156, 17198767492, 2048, 0⟩] (Reg.LAYER_L_WARP_STATUS_CHK_CODE k).key = true := by
  refine Keys.any_one (Keys.has_intro ?_ ?_ ?_) <;> simp only [Reg.LAYER_L_WARP_STATUS_CHK_CODE, Fld.key] <;> omega

theorem Reg.LAYER_L_WARP_STATUS_SPAN_ERR_key {k : Nat} (h : k < 8) : Keys.any [⟨17198753160, 17198767496, 2048, 0⟩] (Reg.LAYER_L_WARP_STATUS_SPAN_ERR k).key = true := by
  refine Keys.any_one (Keys.has_intro ?_ ?_ ?_) <;> simp only [Reg.LAYER_L_WARP_STATUS_SPAN_ERR, Fld.key] <;> omega

theorem Reg.LAYER_L_WARP_STATUS_BUF_ROWS_key {k : Nat} (h : k < 8) : Keys.any [⟨17198753168, 17198767504, 2048, 0⟩] (Reg.LAYER_L_WARP_STATUS_BUF_ROWS k).key = true := by
  refine Keys.any_one (Keys.has_intro ?_ ?_ ?_) <;> simp only [Reg.LAYER_L_WARP_STATUS_BUF_ROWS, Fld.key] <;> omega

theorem Reg.LAYER_L_SPAN_MAX_SPAN_key {k : Nat} (h : k < 8) : Keys.any [⟨17198753280, 17198767616, 2048, 0⟩] (Reg.LAYER_L_SPAN_MAX_SPAN k).key = true := by
  refine Keys.any_one (Keys.has_intro ?_ ?_ ?_) <;> simp only [Reg.LAYER_L_SPAN_MAX_SPAN, Fld.key] <;> omega

theorem Reg.LAYER_L_SPAN_FAIL_TILE_key {k : Nat} (h : k < 8) : Keys.any [⟨17198753292, 17198767628, 2048, 0⟩] (Reg.LAYER_L_SPAN_FAIL_TILE k).key = true := by
  refine Keys.any_one (Keys.has_intro ?_ ?_ ?_) <;> simp only [Reg.LAYER_L_SPAN_FAIL_TILE, Fld.key] <;> omega

theorem Reg.LAYER_L_SPAN_FAIL_LINE_key {k : Nat} (h : k < 8) : Keys.any [⟨17198753296, 17198767632, 2048, 0⟩] (Reg.LAYER_L_SPAN_FAIL_LINE k).key = true := by
  refine Keys.any_one (Keys.has_intro ?_ ?_ ?_) <;> simp only [Reg.LAYER_L_SPAN_FAIL_LINE, Fld.key] <;> omega

theorem Reg.LAYER_L_CLAMP_CNT_COUNT_key {k : Nat} (h : k < 8) : Keys.any [⟨17198753408, 17198767744, 2048, 0⟩] (Reg.LAYER_L_CLAMP_CNT_COUNT k).key = true := by
  refine Keys.any_one (Keys.has_intro ?_ ?_ ?_) <;> simp only [Reg.LAYER_L_CLAMP_CNT_COUNT, Fld.key] <;> omega

theorem Reg.SA_DRV_PCRC_CRC_key {k : Nat} (h : k < 12) : Keys.any [⟨17196779520, 17196780928, 128, 0⟩] (Reg.SA_DRV_PCRC_CRC k).key = true := by
  refine Keys.any_one (Keys.has_intro ?_ ?_ ?_) <;> simp only [Reg.SA_DRV_PCRC_CRC, Fld.key] <;> omega

theorem Reg.SA_DRV_ZCODE_key {i : Nat} (h : i < 192) : Keys.any [⟨17196785664, 17196791704, 8, 0⟩] (Reg.SA_DRV_ZCODE i).key = true := by
  refine Keys.any_one (Keys.has_intro ?_ ?_ ?_) <;> simp only [Reg.SA_DRV_ZCODE, Fld.key] <;> omega

theorem Reg.TL_CTRL_EN_key {p : Nat} (h : p < 12) : Keys.any [⟨17202937856, 17204379648, 131072, 0⟩] (Reg.TL_CTRL_EN p).key = true := by
  refine Keys.any_one (Keys.has_intro ?_ ?_ ?_) <;> simp only [Reg.TL_CTRL_EN, Fld.key] <;> omega

theorem Reg.TL_CTRL_FB_START_key {p : Nat} (h : p < 12) : Keys.any [⟨17202937863, 17204379655, 131072, 0⟩] (Reg.TL_CTRL_FB_START p).key = true := by
  refine Keys.any_one (Keys.has_intro ?_ ?_ ?_) <;> simp only [Reg.TL_CTRL_FB_START, Fld.key] <;> omega

theorem Reg.TL_CTRL_FENCE_key {p : Nat} (h : p < 12) : Keys.any [⟨17202937865, 17204379657, 131072, 0⟩] (Reg.TL_CTRL_FENCE p).key = true := by
  refine Keys.any_one (Keys.has_intro ?_ ?_ ?_) <;> simp only [Reg.TL_CTRL_FENCE, Fld.key] <;> omega

theorem Reg.TL_STATUS_STATE_key {p : Nat} (h : p < 12) : Keys.any [⟨17202937984, 17204379776, 131072, 0⟩] (Reg.TL_STATUS_STATE p).key = true := by
  refine Keys.any_one (Keys.has_intro ?_ ?_ ?_) <;> simp only [Reg.TL_STATUS_STATE, Fld.key] <;> omega

theorem Reg.TL_STATUS_VER_key {p : Nat} (h : p < 12) : Keys.any [⟨17202937987, 17204379779, 131072, 0⟩] (Reg.TL_STATUS_VER p).key = true := by
  refine Keys.any_one (Keys.has_intro ?_ ?_ ?_) <;> simp only [Reg.TL_STATUS_VER, Fld.key] <;> omega

theorem Reg.TL_STATUS_RATE_key {p : Nat} (h : p < 12) : Keys.any [⟨17202937989, 17204379781, 131072, 0⟩] (Reg.TL_STATUS_RATE p).key = true := by
  refine Keys.any_one (Keys.has_intro ?_ ?_ ?_) <;> simp only [Reg.TL_STATUS_RATE, Fld.key] <;> omega

theorem Reg.TL_STATUS_OWNED_key {p : Nat} (h : p < 12) : Keys.any [⟨17202937990, 17204379782, 131072, 0⟩] (Reg.TL_STATUS_OWNED p).key = true := by
  refine Keys.any_one (Keys.has_intro ?_ ?_ ?_) <;> simp only [Reg.TL_STATUS_OWNED, Fld.key] <;> omega

theorem Reg.TL_STATUS_HOUSE_key {p : Nat} (h : p < 12) : Keys.any [⟨17202937991, 17204379783, 131072, 0⟩] (Reg.TL_STATUS_HOUSE p).key = true := by
  refine Keys.any_one (Keys.has_intro ?_ ?_ ?_) <;> simp only [Reg.TL_STATUS_HOUSE, Fld.key] <;> omega

theorem Reg.TL_STATUS_HL_VALID_key {p : Nat} (h : p < 12) : Keys.any [⟨17202937992, 17204379784, 131072, 0⟩] (Reg.TL_STATUS_HL_VALID p).key = true := by
  refine Keys.any_one (Keys.has_intro ?_ ?_ ?_) <;> simp only [Reg.TL_STATUS_HL_VALID, Fld.key] <;> omega

theorem Reg.TL_STATUS_FENCED_key {p : Nat} (h : p < 12) : Keys.any [⟨17202937993, 17204379785, 131072, 0⟩] (Reg.TL_STATUS_FENCED p).key = true := by
  refine Keys.any_one (Keys.has_intro ?_ ?_ ?_) <;> simp only [Reg.TL_STATUS_FENCED, Fld.key] <;> omega

theorem Reg.TL_STATUS_STALE_key {p : Nat} (h : p < 12) : Keys.any [⟨17202937994, 17204379786, 131072, 0⟩] (Reg.TL_STATUS_STALE p).key = true := by
  refine Keys.any_one (Keys.has_intro ?_ ?_ ?_) <;> simp only [Reg.TL_STATUS_STALE, Fld.key] <;> omega

theorem Reg.TL_STATUS_WERR_key {p : Nat} (h : p < 12) : Keys.any [⟨17202937995, 17204379787, 131072, 0⟩] (Reg.TL_STATUS_WERR p).key = true := by
  refine Keys.any_one (Keys.has_intro ?_ ?_ ?_) <;> simp only [Reg.TL_STATUS_WERR, Fld.key] <;> omega

theorem Reg.TL_STATUS_ECHO_ERR_key {p : Nat} (h : p < 12) : Keys.any [⟨17202937996, 17204379788, 131072, 0⟩] (Reg.TL_STATUS_ECHO_ERR p).key = true := by
  refine Keys.any_one (Keys.has_intro ?_ ?_ ?_) <;> simp only [Reg.TL_STATUS_ECHO_ERR, Fld.key] <;> omega

theorem Reg.TL_STATUS_CAPACK_ERR_key {p : Nat} (h : p < 12) : Keys.any [⟨17202937997, 17204379789, 131072, 0⟩] (Reg.TL_STATUS_CAPACK_ERR p).key = true := by
  refine Keys.any_one (Keys.has_intro ?_ ?_ ?_) <;> simp only [Reg.TL_STATUS_CAPACK_ERR, Fld.key] <;> omega

theorem Reg.TL_STATUS_FB_DONE_key {p : Nat} (h : p < 12) : Keys.any [⟨17202937998, 17204379790, 131072, 0⟩] (Reg.TL_STATUS_FB_DONE p).key = true := by
  refine Keys.any_one (Keys.has_intro ?_ ?_ ?_) <;> simp only [Reg.TL_STATUS_FB_DONE, Fld.key] <;> omega

theorem Reg.TL_STATUS_FB_ERR_key {p : Nat} (h : p < 12) : Keys.any [⟨17202937999, 17204379791, 131072, 0⟩] (Reg.TL_STATUS_FB_ERR p).key = true := by
  refine Keys.any_one (Keys.has_intro ?_ ?_ ?_) <;> simp only [Reg.TL_STATUS_FB_ERR, Fld.key] <;> omega

theorem Reg.TL_TRAIN_ERR_CODE_key {p : Nat} (h : p < 12) : Keys.any [⟨17202938112, 17204379904, 131072, 0⟩] (Reg.TL_TRAIN_ERR_CODE p).key = true := by
  refine Keys.any_one (Keys.has_intro ?_ ?_ ?_) <;> simp only [Reg.TL_TRAIN_ERR_CODE, Fld.key] <;> omega

theorem Reg.TL_EPOCH_EPOCH_key {p : Nat} (h : p < 12) : Keys.any [⟨17202938368, 17204380160, 131072, 0⟩] (Reg.TL_EPOCH_EPOCH p).key = true := by
  refine Keys.any_one (Keys.has_intro ?_ ?_ ?_) <;> simp only [Reg.TL_EPOCH_EPOCH, Fld.key] <;> omega

theorem Reg.TL_LATDLY_DK_key {p : Nat} (h : p < 12) : Keys.any [⟨17202938496, 17204380288, 131072, 0⟩] (Reg.TL_LATDLY_DK p).key = true := by
  refine Keys.any_one (Keys.has_intro ?_ ?_ ?_) <;> simp only [Reg.TL_LATDLY_DK, Fld.key] <;> omega

theorem Reg.TL_RTT_RT_key {p : Nat} (h : p < 12) : Keys.any [⟨17202938752, 17204380544, 131072, 0⟩] (Reg.TL_RTT_RT p).key = true := by
  refine Keys.any_one (Keys.has_intro ?_ ?_ ?_) <;> simp only [Reg.TL_RTT_RT, Fld.key] <;> omega

theorem Reg.TL_TILE_GEOM_WIDTH_key {p : Nat} (h : p < 12) : Keys.any [⟨17202938880, 17204380672, 131072, 0⟩] (Reg.TL_TILE_GEOM_WIDTH p).key = true := by
  refine Keys.any_one (Keys.has_intro ?_ ?_ ?_) <;> simp only [Reg.TL_TILE_GEOM_WIDTH, Fld.key] <;> omega

theorem Reg.TL_TILE_GEOM_HEIGHT_key {p : Nat} (h : p < 12) : Keys.any [⟨17202938896, 17204380688, 131072, 0⟩] (Reg.TL_TILE_GEOM_HEIGHT p).key = true := by
  refine Keys.any_one (Keys.has_intro ?_ ?_ ?_) <;> simp only [Reg.TL_TILE_GEOM_HEIGHT, Fld.key] <;> omega

theorem Reg.TL_TILE_ID_VENDOR_key {p : Nat} (h : p < 12) : Keys.any [⟨17202939008, 17204380800, 131072, 0⟩] (Reg.TL_TILE_ID_VENDOR p).key = true := by
  refine Keys.any_one (Keys.has_intro ?_ ?_ ?_) <;> simp only [Reg.TL_TILE_ID_VENDOR, Fld.key] <;> omega

theorem Reg.TL_TILE_ID_PRODUCT_key {p : Nat} (h : p < 12) : Keys.any [⟨17202939024, 17204380816, 131072, 0⟩] (Reg.TL_TILE_ID_PRODUCT p).key = true := by
  refine Keys.any_one (Keys.has_intro ?_ ?_ ?_) <;> simp only [Reg.TL_TILE_ID_PRODUCT, Fld.key] <;> omega

theorem Reg.TL_TILE_LAT_PS_key {p : Nat} (h : p < 12) : Keys.any [⟨17202939136, 17204380928, 131072, 0⟩] (Reg.TL_TILE_LAT_PS p).key = true := by
  refine Keys.any_one (Keys.has_intro ?_ ?_ ?_) <;> simp only [Reg.TL_TILE_LAT_PS, Fld.key] <;> omega

theorem Reg.TL_TILE_TURN_PS_key {p : Nat} (h : p < 12) : Keys.any [⟨17202939264, 17204381056, 131072, 0⟩] (Reg.TL_TILE_TURN_PS p).key = true := by
  refine Keys.any_one (Keys.has_intro ?_ ?_ ?_) <;> simp only [Reg.TL_TILE_TURN_PS, Fld.key] <;> omega

theorem Reg.TL_HL_CRC_CRC_key {p : Nat} (h : p < 12) : Keys.any [⟨17202939392, 17204381184, 131072, 0⟩] (Reg.TL_HL_CRC_CRC p).key = true := by
  refine Keys.any_one (Keys.has_intro ?_ ?_ ?_) <;> simp only [Reg.TL_HL_CRC_CRC, Fld.key] <;> omega

theorem Reg.TL_HLTH_FRAME_FRAME_NO_key {p : Nat} (h : p < 12) : Keys.any [⟨17202939904, 17204381696, 131072, 0⟩] (Reg.TL_HLTH_FRAME_FRAME_NO p).key = true := by
  refine Keys.any_one (Keys.has_intro ?_ ?_ ?_) <;> simp only [Reg.TL_HLTH_FRAME_FRAME_NO, Fld.key] <;> omega

theorem Reg.TL_HLTH_STAT_STATUS_key {p : Nat} (h : p < 12) : Keys.any [⟨17202940032, 17204381824, 131072, 0⟩] (Reg.TL_HLTH_STAT_STATUS p).key = true := by
  refine Keys.any_one (Keys.has_intro ?_ ?_ ?_) <;> simp only [Reg.TL_HLTH_STAT_STATUS, Fld.key] <;> omega

theorem Reg.TL_HLTH_STAT_CAP_Z_key {p : Nat} (h : p < 12) : Keys.any [⟨17202940040, 17204381832, 131072, 0⟩] (Reg.TL_HLTH_STAT_CAP_Z p).key = true := by
  refine Keys.any_one (Keys.has_intro ?_ ?_ ?_) <;> simp only [Reg.TL_HLTH_STAT_CAP_Z, Fld.key] <;> omega

theorem Reg.TL_HLTH_STAT_CAP_SEQ_key {p : Nat} (h : p < 12) : Keys.any [⟨17202940048, 17204381840, 131072, 0⟩] (Reg.TL_HLTH_STAT_CAP_SEQ p).key = true := by
  refine Keys.any_one (Keys.has_intro ?_ ?_ ?_) <;> simp only [Reg.TL_HLTH_STAT_CAP_SEQ, Fld.key] <;> omega

theorem Reg.TL_HEADROOM_key {p i : Nat} (h : p < 12) (h2 : i < 16) : Keys.any [⟨17202940416, 17204382616, 131072, 408⟩] (Reg.TL_HEADROOM p i).key = true := by
  exact (by decide +kernel : ∀ p < 12, ∀ i < 16, Keys.any [⟨17202940416, 17204382616, 131072, 408⟩] (Reg.TL_HEADROOM p i).key = true) p h i h2

theorem Reg.TL_TEMP_key {p i : Nat} (h : p < 12) (h2 : i < 8) : Keys.any [⟨17202940928, 17204383120, 131072, 400⟩] (Reg.TL_TEMP p i).key = true := by
  exact (by decide +kernel : ∀ p < 12, ∀ i < 8, Keys.any [⟨17202940928, 17204383120, 131072, 400⟩] (Reg.TL_TEMP p i).key = true) p h i h2

theorem Reg.TL_CNT0_CRC_ERR_key {p : Nat} (h : p < 12) : Keys.any [⟨17202941440, 17204383232, 131072, 0⟩] (Reg.TL_CNT0_CRC_ERR p).key = true := by
  refine Keys.any_one (Keys.has_intro ?_ ?_ ?_) <;> simp only [Reg.TL_CNT0_CRC_ERR, Fld.key] <;> omega

theorem Reg.TL_CNT0_DROP_key {p : Nat} (h : p < 12) : Keys.any [⟨17202941456, 17204383248, 131072, 0⟩] (Reg.TL_CNT0_DROP p).key = true := by
  refine Keys.any_one (Keys.has_intro ?_ ?_ ?_) <;> simp only [Reg.TL_CNT0_DROP, Fld.key] <;> omega

theorem Reg.TL_CNT1_LATCH_MISS_key {p : Nat} (h : p < 12) : Keys.any [⟨17202941568, 17204383360, 131072, 0⟩] (Reg.TL_CNT1_LATCH_MISS p).key = true := by
  refine Keys.any_one (Keys.has_intro ?_ ?_ ?_) <;> simp only [Reg.TL_CNT1_LATCH_MISS, Fld.key] <;> omega

theorem Reg.TL_CNT1_ECHO_MISS_key {p : Nat} (h : p < 12) : Keys.any [⟨17202941584, 17204383376, 131072, 0⟩] (Reg.TL_CNT1_ECHO_MISS p).key = true := by
  refine Keys.any_one (Keys.has_intro ?_ ?_ ?_) <;> simp only [Reg.TL_CNT1_ECHO_MISS, Fld.key] <;> omega

theorem Reg.TL_CNT2_STALE_key {p : Nat} (h : p < 12) : Keys.any [⟨17202941696, 17204383488, 131072, 0⟩] (Reg.TL_CNT2_STALE p).key = true := by
  refine Keys.any_one (Keys.has_intro ?_ ?_ ?_) <;> simp only [Reg.TL_CNT2_STALE, Fld.key] <;> omega

theorem Reg.TL_CNT2_RETRAIN_key {p : Nat} (h : p < 12) : Keys.any [⟨17202941712, 17204383504, 131072, 0⟩] (Reg.TL_CNT2_RETRAIN p).key = true := by
  refine Keys.any_one (Keys.has_intro ?_ ?_ ?_) <;> simp only [Reg.TL_CNT2_RETRAIN, Fld.key] <;> omega

theorem Reg.TL_CAP_SENT_SEQ_key {p : Nat} (h : p < 12) : Keys.any [⟨17202941824, 17204383616, 131072, 0⟩] (Reg.TL_CAP_SENT_SEQ p).key = true := by
  refine Keys.any_one (Keys.has_intro ?_ ?_ ?_) <;> simp only [Reg.TL_CAP_SENT_SEQ, Fld.key] <;> omega

theorem Reg.TL_CAP_ACK_SEQ_key {p : Nat} (h : p < 12) : Keys.any [⟨17202941840, 17204383632, 131072, 0⟩] (Reg.TL_CAP_ACK_SEQ p).key = true := by
  refine Keys.any_one (Keys.has_intro ?_ ?_ ?_) <;> simp only [Reg.TL_CAP_ACK_SEQ, Fld.key] <;> omega

theorem Reg.LANE_CTRL_IDLE_REQ_key {j : Nat} (h : j < 15) : Keys.any [⟨17205035008, 17205149696, 8192, 0⟩] (Reg.LANE_CTRL_IDLE_REQ j).key = true := by
  refine Keys.any_one (Keys.has_intro ?_ ?_ ?_) <;> simp only [Reg.LANE_CTRL_IDLE_REQ, Fld.key] <;> omega

theorem Reg.LANE_CTRL_PRBS_TX_key {j : Nat} (h : j < 15) : Keys.any [⟨17205035009, 17205149697, 8192, 0⟩] (Reg.LANE_CTRL_PRBS_TX j).key = true := by
  refine Keys.any_one (Keys.has_intro ?_ ?_ ?_) <;> simp only [Reg.LANE_CTRL_PRBS_TX, Fld.key] <;> omega

theorem Reg.LANE_CTRL_PRBS_RX_key {j : Nat} (h : j < 15) : Keys.any [⟨17205035012, 17205149700, 8192, 0⟩] (Reg.LANE_CTRL_PRBS_RX j).key = true := by
  refine Keys.any_one (Keys.has_intro ?_ ?_ ?_) <;> simp only [Reg.LANE_CTRL_PRBS_RX, Fld.key] <;> omega

theorem Reg.LANE_CTRL_ADAPT_key {j : Nat} (h : j < 15) : Keys.any [⟨17205035016, 17205149704, 8192, 0⟩] (Reg.LANE_CTRL_ADAPT j).key = true := by
  refine Keys.any_one (Keys.has_intro ?_ ?_ ?_) <;> simp only [Reg.LANE_CTRL_ADAPT, Fld.key] <;> omega

theorem Reg.LANE_STATUS_STATE_key {j : Nat} (h : j < 15) : Keys.any [⟨17205035136, 17205149824, 8192, 0⟩] (Reg.LANE_STATUS_STATE j).key = true := by
  refine Keys.any_one (Keys.has_intro ?_ ?_ ?_) <;> simp only [Reg.LANE_STATUS_STATE, Fld.key] <;> omega

theorem Reg.LANE_STATUS_RATE_key {j : Nat} (h : j < 15) : Keys.any [⟨17205035139, 17205149827, 8192, 0⟩] (Reg.LANE_STATUS_RATE j).key = true := by
  refine Keys.any_one (Keys.has_intro ?_ ?_ ?_) <;> simp only [Reg.LANE_STATUS_RATE, Fld.key] <;> omega

theorem Reg.LANE_STATUS_CDR_LOCK_key {j : Nat} (h : j < 15) : Keys.any [⟨17205035140, 17205149828, 8192, 0⟩] (Reg.LANE_STATUS_CDR_LOCK j).key = true := by
  refine Keys.any_one (Keys.has_intro ?_ ?_ ?_) <;> simp only [Reg.LANE_STATUS_CDR_LOCK, Fld.key] <;> omega

theorem Reg.LANE_STATUS_BLOCK_LOCK_key {j : Nat} (h : j < 15) : Keys.any [⟨17205035141, 17205149829, 8192, 0⟩] (Reg.LANE_STATUS_BLOCK_LOCK j).key = true := by
  refine Keys.any_one (Keys.has_intro ?_ ?_ ?_) <;> simp only [Reg.LANE_STATUS_BLOCK_LOCK, Fld.key] <;> omega

theorem Reg.LANE_STATUS_PRBS_SYNC_key {j : Nat} (h : j < 15) : Keys.any [⟨17205035142, 17205149830, 8192, 0⟩] (Reg.LANE_STATUS_PRBS_SYNC j).key = true := by
  refine Keys.any_one (Keys.has_intro ?_ ?_ ?_) <;> simp only [Reg.LANE_STATUS_PRBS_SYNC, Fld.key] <;> omega

theorem Reg.LANE_STATUS_WERR_key {j : Nat} (h : j < 15) : Keys.any [⟨17205035143, 17205149831, 8192, 0⟩] (Reg.LANE_STATUS_WERR j).key = true := by
  refine Keys.any_one (Keys.has_intro ?_ ?_ ?_) <;> simp only [Reg.LANE_STATUS_WERR, Fld.key] <;> omega

theorem Reg.LANE_STATUS_LOSS_key {j : Nat} (h : j < 15) : Keys.any [⟨17205035144, 17205149832, 8192, 0⟩] (Reg.LANE_STATUS_LOSS j).key = true := by
  refine Keys.any_one (Keys.has_intro ?_ ?_ ?_) <;> simp only [Reg.LANE_STATUS_LOSS, Fld.key] <;> omega

theorem Reg.LANE_STATUS_EYE_LOW_key {j : Nat} (h : j < 15) : Keys.any [⟨17205035145, 17205149833, 8192, 0⟩] (Reg.LANE_STATUS_EYE_LOW j).key = true := by
  refine Keys.any_one (Keys.has_intro ?_ ?_ ?_) <;> simp only [Reg.LANE_STATUS_EYE_LOW, Fld.key] <;> omega

theorem Reg.LANE_STATUS_PHASE_MISS_key {j : Nat} (h : j < 15) : Keys.any [⟨17205035146, 17205149834, 8192, 0⟩] (Reg.LANE_STATUS_PHASE_MISS j).key = true := by
  refine Keys.any_one (Keys.has_intro ?_ ?_ ?_) <;> simp only [Reg.LANE_STATUS_PHASE_MISS, Fld.key] <;> omega

theorem Reg.LANE_EYE_SCORE_key {j : Nat} (h : j < 15) : Keys.any [⟨17205035264, 17205149952, 8192, 0⟩] (Reg.LANE_EYE_SCORE j).key = true := by
  refine Keys.any_one (Keys.has_intro ?_ ?_ ?_) <;> simp only [Reg.LANE_EYE_SCORE, Fld.key] <;> omega

theorem Reg.LANE_EYE_H_key {j : Nat} (h : j < 15) : Keys.any [⟨17205035272, 17205149960, 8192, 0⟩] (Reg.LANE_EYE_H j).key = true := by
  refine Keys.any_one (Keys.has_intro ?_ ?_ ?_) <;> simp only [Reg.LANE_EYE_H, Fld.key] <;> omega

theorem Reg.LANE_EYE_V_key {j : Nat} (h : j < 15) : Keys.any [⟨17205035280, 17205149968, 8192, 0⟩] (Reg.LANE_EYE_V j).key = true := by
  refine Keys.any_one (Keys.has_intro ?_ ?_ ?_) <;> simp only [Reg.LANE_EYE_V, Fld.key] <;> omega

theorem Reg.LANE_EYE_CTLE_key {j : Nat} (h : j < 15) : Keys.any [⟨17205035288, 17205149976, 8192, 0⟩] (Reg.LANE_EYE_CTLE j).key = true := by
  refine Keys.any_one (Keys.has_intro ?_ ?_ ?_) <;> simp only [Reg.LANE_EYE_CTLE, Fld.key] <;> omega

theorem Reg.LANE_DFE_TAPS_key {j : Nat} (h : j < 15) : Keys.any [⟨17205035648, 17205150336, 8192, 0⟩] (Reg.LANE_DFE_TAPS j).key = true := by
  refine Keys.any_one (Keys.has_intro ?_ ?_ ?_) <;> simp only [Reg.LANE_DFE_TAPS, Fld.key] <;> omega

theorem Reg.LANE_PRBS_ERR_COUNT_key {j : Nat} (h : j < 15) : Keys.any [⟨17205035776, 17205150464, 8192, 0⟩] (Reg.LANE_PRBS_ERR_COUNT j).key = true := by
  refine Keys.any_one (Keys.has_intro ?_ ?_ ?_) <;> simp only [Reg.LANE_PRBS_ERR_COUNT, Fld.key] <;> omega

theorem Reg.LANE_CNT_LOSS_key {j : Nat} (h : j < 15) : Keys.any [⟨17205035904, 17205150592, 8192, 0⟩] (Reg.LANE_CNT_LOSS j).key = true := by
  refine Keys.any_one (Keys.has_intro ?_ ?_ ?_) <;> simp only [Reg.LANE_CNT_LOSS, Fld.key] <;> omega

theorem Reg.LANE_CNT_PHASE_MISS_key {j : Nat} (h : j < 15) : Keys.any [⟨17205035920, 17205150608, 8192, 0⟩] (Reg.LANE_CNT_PHASE_MISS j).key = true := by
  refine Keys.any_one (Keys.has_intro ?_ ?_ ?_) <;> simp only [Reg.LANE_CNT_PHASE_MISS, Fld.key] <;> omega

theorem Reg.HLTH_CNT_DEAD_DEAD_key {t : Nat} (h : t < 12) : Keys.any [⟨17207136256, 17207137664, 128, 0⟩] (Reg.HLTH_CNT_DEAD_DEAD t).key = true := by
  refine Keys.any_one (Keys.has_intro ?_ ?_ ?_) <;> simp only [Reg.HLTH_CNT_DEAD_DEAD, Fld.key] <;> omega

theorem Reg.HLTH_ZONE_FAIL_key {i : Nat} (h : i < 192) : Keys.any [⟨17207138304, 17207138975, 1, 0⟩] (Reg.HLTH_ZONE_FAIL i).key = true := by
  refine Keys.any_one (Keys.has_intro ?_ ?_ ?_) <;> simp only [Reg.HLTH_ZONE_FAIL, Fld.key] <;> omega

theorem Reg.LSC_STATUS_PH_OC_key {i : Nat} (h : i < 4) : Keys.any [⟨17209229452, 17209229455, 1, 0⟩] (Reg.LSC_STATUS_PH_OC i).key = true := by
  refine Keys.any_one (Keys.has_intro ?_ ?_ ?_) <;> simp only [Reg.LSC_STATUS_PH_OC, Fld.key] <;> omega

theorem Reg.LSC_OC_CNT_key {i : Nat} (h : i < 4) : Keys.any [⟨17209231872, 17209231896, 8, 0⟩] (Reg.LSC_OC_CNT i).key = true := by
  refine Keys.any_one (Keys.has_intro ?_ ?_ ?_) <;> simp only [Reg.LSC_OC_CNT, Fld.key] <;> omega

theorem Reg.LSC_OFS_key {i : Nat} (h : i < 192) : Keys.any [⟨17209237504, 17209243544, 8, 0⟩] (Reg.LSC_OFS i).key = true := by
  refine Keys.any_one (Keys.has_intro ?_ ?_ ?_) <;> simp only [Reg.LSC_OFS, Fld.key] <;> omega

theorem Reg.LSC_ZL_key {i : Nat} (h : i < 192) : Keys.any [⟨17209245696, 17209251736, 8, 0⟩] (Reg.LSC_ZL i).key = true := by
  refine Keys.any_one (Keys.has_intro ?_ ?_ ?_) <;> simp only [Reg.LSC_ZL, Fld.key] <;> omega

theorem Reg.THM_SUSPECT_AIN_key {i : Nat} (h : i < 8) : Keys.any [⟨17211327488, 17211327495, 1, 0⟩] (Reg.THM_SUSPECT_AIN i).key = true := by
  refine Keys.any_one (Keys.has_intro ?_ ?_ ?_) <;> simp only [Reg.THM_SUSPECT_AIN, Fld.key] <;> omega

theorem Reg.THM_SUSPECT_MODEL_key {i : Nat} (h : i < 12) : Keys.any [⟨17211327504, 17211327515, 1, 0⟩] (Reg.THM_SUSPECT_MODEL i).key = true := by
  refine Keys.any_one (Keys.has_intro ?_ ?_ ?_) <;> simp only [Reg.THM_SUSPECT_MODEL, Fld.key] <;> omega

theorem Reg.THM_TS_SUSPECT_key {i : Nat} (h : i < 96) : Keys.any [⟨17211327616, 17211327903, 1, 0⟩] (Reg.THM_TS_SUSPECT i).key = true := by
  refine Keys.any_one (Keys.has_intro ?_ ?_ ?_) <;> simp only [Reg.THM_TS_SUSPECT, Fld.key] <;> omega

theorem Reg.THM_ZTEMP_TJ_key {g : Nat} (h : g < 192) : Keys.any [⟨17211359232, 17211408128, 256, 0⟩] (Reg.THM_ZTEMP_TJ g).key = true := by
  refine Keys.any_one (Keys.has_intro ?_ ?_ ?_) <;> simp only [Reg.THM_ZTEMP_TJ, Fld.key] <;> omega

theorem Reg.THM_ZTEMP_TS_key {g : Nat} (h : g < 192) : Keys.any [⟨17211359248, 17211408144, 256, 0⟩] (Reg.THM_ZTEMP_TS g).key = true := by
  refine Keys.any_one (Keys.has_intro ?_ ?_ ?_) <;> simp only [Reg.THM_ZTEMP_TS, Fld.key] <;> omega

theorem Reg.THM_ZLIM_K_key {g : Nat} (h : g < 192) : Keys.any [⟨17211359360, 17211408256, 256, 0⟩] (Reg.THM_ZLIM_K g).key = true := by
  refine Keys.any_one (Keys.has_intro ?_ ?_ ?_) <;> simp only [Reg.THM_ZLIM_K, Fld.key] <;> omega

theorem Reg.THM_ZLIM_ZT_key {g : Nat} (h : g < 192) : Keys.any [⟨17211359368, 17211408264, 256, 0⟩] (Reg.THM_ZLIM_ZT g).key = true := by
  refine Keys.any_one (Keys.has_intro ?_ ?_ ?_) <;> simp only [Reg.THM_ZLIM_ZT, Fld.key] <;> omega

theorem Reg.THM_ZLIM_ZLIM_key {g : Nat} (h : g < 192) : Keys.any [⟨17211359376, 17211408272, 256, 0⟩] (Reg.THM_ZLIM_ZLIM g).key = true := by
  refine Keys.any_one (Keys.has_intro ?_ ?_ ?_) <;> simp only [Reg.THM_ZLIM_ZLIM, Fld.key] <;> omega

theorem Reg.THM_ZLIM_ZREF_key {g : Nat} (h : g < 192) : Keys.any [⟨17211359384, 17211408280, 256, 0⟩] (Reg.THM_ZLIM_ZREF g).key = true := by
  refine Keys.any_one (Keys.has_intro ?_ ?_ ?_) <;> simp only [Reg.THM_ZLIM_ZREF, Fld.key] <;> omega

theorem Reg.CAL_ADC_CORR_OFS_key {r : Nat} (h : r < 3) : Keys.any [⟨17213424640, 17213424896, 128, 0⟩] (Reg.CAL_ADC_CORR_OFS r).key = true := by
  refine Keys.any_one (Keys.has_intro ?_ ?_ ?_) <;> simp only [Reg.CAL_ADC_CORR_OFS, Fld.key] <;> omega

theorem Reg.CAL_ADC_CORR_GAIN_key {r : Nat} (h : r < 3) : Keys.any [⟨17213424656, 17213424912, 128, 0⟩] (Reg.CAL_ADC_CORR_GAIN r).key = true := by
  refine Keys.any_one (Keys.has_intro ?_ ?_ ?_) <;> simp only [Reg.CAL_ADC_CORR_GAIN, Fld.key] <;> omega

theorem Reg.NET_CTRL_EN_key {n : Nat} (h : n < 2) : Keys.any [⟨17215520768, 17217617920, 2097152, 0⟩] (Reg.NET_CTRL_EN n).key = true := by
  refine Keys.any_one (Keys.has_intro ?_ ?_ ?_) <;> simp only [Reg.NET_CTRL_EN, Fld.key] <;> omega

theorem Reg.NET_STATUS_LINK_key {n : Nat} (h : n < 2) : Keys.any [⟨17215520896, 17217618048, 2097152, 0⟩] (Reg.NET_STATUS_LINK n).key = true := by
  refine Keys.any_one (Keys.has_intro ?_ ?_ ?_) <;> simp only [Reg.NET_STATUS_LINK, Fld.key] <;> omega

theorem Reg.NET_STATUS_SPEED_key {n : Nat} (h : n < 2) : Keys.any [⟨17215520897, 17217618049, 2097152, 0⟩] (Reg.NET_STATUS_SPEED n).key = true := by
  refine Keys.any_one (Keys.has_intro ?_ ?_ ?_) <;> simp only [Reg.NET_STATUS_SPEED, Fld.key] <;> omega

theorem Reg.NET_STATUS_AN_DONE_key {n : Nat} (h : n < 2) : Keys.any [⟨17215520899, 17217618051, 2097152, 0⟩] (Reg.NET_STATUS_AN_DONE n).key = true := by
  refine Keys.any_one (Keys.has_intro ?_ ?_ ?_) <;> simp only [Reg.NET_STATUS_AN_DONE, Fld.key] <;> omega

theorem Reg.NET_STATUS_DMA_ERR_key {n : Nat} (h : n < 2) : Keys.any [⟨17215520901, 17217618053, 2097152, 0⟩] (Reg.NET_STATUS_DMA_ERR n).key = true := by
  refine Keys.any_one (Keys.has_intro ?_ ?_ ?_) <;> simp only [Reg.NET_STATUS_DMA_ERR, Fld.key] <;> omega

theorem Reg.NET_STATUS_NOBUF_key {n : Nat} (h : n < 2) : Keys.any [⟨17215520902, 17217618054, 2097152, 0⟩] (Reg.NET_STATUS_NOBUF n).key = true := by
  refine Keys.any_one (Keys.has_intro ?_ ?_ ?_) <;> simp only [Reg.NET_STATUS_NOBUF, Fld.key] <;> omega

theorem Reg.NET_STATUS_RX_OVF_key {n : Nat} (h : n < 2) : Keys.any [⟨17215520903, 17217618055, 2097152, 0⟩] (Reg.NET_STATUS_RX_OVF n).key = true := by
  refine Keys.any_one (Keys.has_intro ?_ ?_ ?_) <;> simp only [Reg.NET_STATUS_RX_OVF, Fld.key] <;> omega

theorem Reg.NET_HEAD_RX_HEAD_key {n : Nat} (h : n < 2) : Keys.any [⟨17215523712, 17217620864, 2097152, 0⟩] (Reg.NET_HEAD_RX_HEAD n).key = true := by
  refine Keys.any_one (Keys.has_intro ?_ ?_ ?_) <;> simp only [Reg.NET_HEAD_RX_HEAD, Fld.key] <;> omega

theorem Reg.NET_HEAD_TX_HEAD_key {n : Nat} (h : n < 2) : Keys.any [⟨17215523728, 17217620880, 2097152, 0⟩] (Reg.NET_HEAD_TX_HEAD n).key = true := by
  refine Keys.any_one (Keys.has_intro ?_ ?_ ?_) <;> simp only [Reg.NET_HEAD_TX_HEAD, Fld.key] <;> omega

theorem Reg.NET_PRP_TX_SEQ_key {n : Nat} (h : n < 2) : Keys.any [⟨17215525392, 17217622544, 2097152, 0⟩] (Reg.NET_PRP_TX_SEQ n).key = true := by
  refine Keys.any_one (Keys.has_intro ?_ ?_ ?_) <;> simp only [Reg.NET_PRP_TX_SEQ, Fld.key] <;> omega

theorem Reg.NET_MDIO_CMD_GO_key {n : Nat} (h : n < 2) : Keys.any [⟨17215525919, 17217623071, 2097152, 0⟩] (Reg.NET_MDIO_CMD_GO n).key = true := by
  refine Keys.any_one (Keys.has_intro ?_ ?_ ?_) <;> simp only [Reg.NET_MDIO_CMD_GO, Fld.key] <;> omega

theorem Reg.NET_MDIO_DATA_DATA_key {n : Nat} (h : n < 2) : Keys.any [⟨17215526016, 17217623168, 2097152, 0⟩] (Reg.NET_MDIO_DATA_DATA n).key = true := by
  refine Keys.any_one (Keys.has_intro ?_ ?_ ?_) <;> simp only [Reg.NET_MDIO_DATA_DATA, Fld.key] <;> omega

theorem Reg.NET_CNT_RX_LO_key {n : Nat} (h : n < 2) : Keys.any [⟨17215528960, 17217626112, 2097152, 0⟩] (Reg.NET_CNT_RX_LO n).key = true := by
  refine Keys.any_one (Keys.has_intro ?_ ?_ ?_) <;> simp only [Reg.NET_CNT_RX_LO, Fld.key] <;> omega

theorem Reg.NET_CNT_RX_HI_key {n : Nat} (h : n < 2) : Keys.any [⟨17215528976, 17217626128, 2097152, 0⟩] (Reg.NET_CNT_RX_HI n).key = true := by
  refine Keys.any_one (Keys.has_intro ?_ ?_ ?_) <;> simp only [Reg.NET_CNT_RX_HI, Fld.key] <;> omega

theorem Reg.NET_CNT_ERR_LO_key {n : Nat} (h : n < 2) : Keys.any [⟨17215529088, 17217626240, 2097152, 0⟩] (Reg.NET_CNT_ERR_LO n).key = true := by
  refine Keys.any_one (Keys.has_intro ?_ ?_ ?_) <;> simp only [Reg.NET_CNT_ERR_LO, Fld.key] <;> omega

theorem Reg.NET_CNT_ERR_HI_key {n : Nat} (h : n < 2) : Keys.any [⟨17215529104, 17217626256, 2097152, 0⟩] (Reg.NET_CNT_ERR_HI n).key = true := by
  refine Keys.any_one (Keys.has_intro ?_ ?_ ?_) <;> simp only [Reg.NET_CNT_ERR_HI, Fld.key] <;> omega

theorem Reg.NET_CNT_TX_LO_key {n : Nat} (h : n < 2) : Keys.any [⟨17215529216, 17217626368, 2097152, 0⟩] (Reg.NET_CNT_TX_LO n).key = true := by
  refine Keys.any_one (Keys.has_intro ?_ ?_ ?_) <;> simp only [Reg.NET_CNT_TX_LO, Fld.key] <;> omega

theorem Reg.NET_CNT_TX_HI_key {n : Nat} (h : n < 2) : Keys.any [⟨17215529232, 17217626384, 2097152, 0⟩] (Reg.NET_CNT_TX_HI n).key = true := by
  refine Keys.any_one (Keys.has_intro ?_ ?_ ?_) <;> simp only [Reg.NET_CNT_TX_HI, Fld.key] <;> omega

theorem Reg.NET_CNT_PRP_DUP_key {n : Nat} (h : n < 2) : Keys.any [⟨17215529344, 17217626496, 2097152, 0⟩] (Reg.NET_CNT_PRP_DUP n).key = true := by
  refine Keys.any_one (Keys.has_intro ?_ ?_ ?_) <;> simp only [Reg.NET_CNT_PRP_DUP, Fld.key] <;> omega

theorem Reg.NET_CNT_PRP_WRONG_LAN_key {n : Nat} (h : n < 2) : Keys.any [⟨17215529360, 17217626512, 2097152, 0⟩] (Reg.NET_CNT_PRP_WRONG_LAN n).key = true := by
  refine Keys.any_one (Keys.has_intro ?_ ?_ ?_) <;> simp only [Reg.NET_CNT_PRP_WRONG_LAN, Fld.key] <;> omega

theorem Reg.NET_CNT_PRP_EVICT_key {n : Nat} (h : n < 2) : Keys.any [⟨17215529368, 17217626520, 2097152, 0⟩] (Reg.NET_CNT_PRP_EVICT n).key = true := by
  refine Keys.any_one (Keys.has_intro ?_ ?_ ?_) <;> simp only [Reg.NET_CNT_PRP_EVICT, Fld.key] <;> omega

theorem Reg.TIME_STATUS_CUE_LATE_key {i : Nat} (h : i < 2) : Keys.any [⟨17219715206, 17219715207, 1, 0⟩] (Reg.TIME_STATUS_CUE_LATE i).key = true := by
  refine Keys.any_one (Keys.has_intro ?_ ?_ ?_) <;> simp only [Reg.TIME_STATUS_CUE_LATE, Fld.key] <;> omega

theorem Reg.TIME_STATUS_CAP_OVF_key {i : Nat} (h : i < 4) : Keys.any [⟨17219715208, 17219715211, 1, 0⟩] (Reg.TIME_STATUS_CAP_OVF i).key = true := by
  refine Keys.any_one (Keys.has_intro ?_ ?_ ?_) <;> simp only [Reg.TIME_STATUS_CAP_OVF, Fld.key] <;> omega

theorem Reg.TIME_CAP_NS_N_key {k : Nat} (h : k < 4) : Keys.any [⟨17219716608, 17219717376, 256, 0⟩] (Reg.TIME_CAP_NS_N k).key = true := by
  refine Keys.any_one (Keys.has_intro ?_ ?_ ?_) <;> simp only [Reg.TIME_CAP_NS_N, Fld.key] <;> omega

theorem Reg.TIME_CAP_INFO_SEC_key {k : Nat} (h : k < 4) : Keys.any [⟨17219716736, 17219717504, 256, 0⟩] (Reg.TIME_CAP_INFO_SEC k).key = true := by
  refine Keys.any_one (Keys.has_intro ?_ ?_ ?_) <;> simp only [Reg.TIME_CAP_INFO_SEC, Fld.key] <;> omega

theorem Reg.TIME_CAP_INFO_EDGE_key {k : Nat} (h : k < 4) : Keys.any [⟨17219716752, 17219717520, 256, 0⟩] (Reg.TIME_CAP_INFO_EDGE k).key = true := by
  refine Keys.any_one (Keys.has_intro ?_ ?_ ?_) <;> simp only [Reg.TIME_CAP_INFO_EDGE, Fld.key] <;> omega

theorem Reg.TIME_CAP_INFO_DOMAIN_key {k : Nat} (h : k < 4) : Keys.any [⟨17219716753, 17219717521, 256, 0⟩] (Reg.TIME_CAP_INFO_DOMAIN k).key = true := by
  refine Keys.any_one (Keys.has_intro ?_ ?_ ?_) <;> simp only [Reg.TIME_CAP_INFO_DOMAIN, Fld.key] <;> omega

theorem Reg.TIME_CAP_INFO_LEVEL_key {k : Nat} (h : k < 4) : Keys.any [⟨17219716760, 17219717528, 256, 0⟩] (Reg.TIME_CAP_INFO_LEVEL k).key = true := by
  refine Keys.any_one (Keys.has_intro ?_ ?_ ?_) <;> simp only [Reg.TIME_CAP_INFO_LEVEL, Fld.key] <;> omega

theorem Reg.TIME_CAP_INFO_VALID_key {k : Nat} (h : k < 4) : Keys.any [⟨17219716767, 17219717535, 256, 0⟩] (Reg.TIME_CAP_INFO_VALID k).key = true := by
  refine Keys.any_one (Keys.has_intro ?_ ?_ ?_) <;> simp only [Reg.TIME_CAP_INFO_VALID, Fld.key] <;> omega

theorem Reg.TIME_D_CTRL_EN_key {d : Nat} (h : d < 2) : Keys.any [⟨17219723264, 17219725312, 2048, 0⟩] (Reg.TIME_D_CTRL_EN d).key = true := by
  refine Keys.any_one (Keys.has_intro ?_ ?_ ?_) <;> simp only [Reg.TIME_D_CTRL_EN, Fld.key] <;> omega

theorem Reg.TIME_D_CTRL_LOAD_key {d : Nat} (h : d < 2) : Keys.any [⟨17219723265, 17219725313, 2048, 0⟩] (Reg.TIME_D_CTRL_LOAD d).key = true := by
  refine Keys.any_one (Keys.has_intro ?_ ?_ ?_) <;> simp only [Reg.TIME_D_CTRL_LOAD, Fld.key] <;> omega

theorem Reg.TIME_D_CTRL_STEP_key {d : Nat} (h : d < 2) : Keys.any [⟨17219723266, 17219725314, 2048, 0⟩] (Reg.TIME_D_CTRL_STEP d).key = true := by
  refine Keys.any_one (Keys.has_intro ?_ ?_ ?_) <;> simp only [Reg.TIME_D_CTRL_STEP, Fld.key] <;> omega

theorem Reg.TIME_D_NS_N_key {d : Nat} (h : d < 2) : Keys.any [⟨17219723520, 17219725568, 2048, 0⟩] (Reg.TIME_D_NS_N d).key = true := by
  refine Keys.any_one (Keys.has_intro ?_ ?_ ?_) <;> simp only [Reg.TIME_D_NS_N, Fld.key] <;> omega

theorem Reg.TIME_D_SEC_LO_SEC_key {d : Nat} (h : d < 2) : Keys.any [⟨17219723648, 17219725696, 2048, 0⟩] (Reg.TIME_D_SEC_LO_SEC d).key = true := by
  refine Keys.any_one (Keys.has_intro ?_ ?_ ?_) <;> simp only [Reg.TIME_D_SEC_LO_SEC, Fld.key] <;> omega

theorem Reg.TIME_D_SEC_HI_SEC_key {d : Nat} (h : d < 2) : Keys.any [⟨17219723776, 17219725824, 2048, 0⟩] (Reg.TIME_D_SEC_HI_SEC d).key = true := by
  refine Keys.any_one (Keys.has_intro ?_ ?_ ?_) <;> simp only [Reg.TIME_D_SEC_HI_SEC, Fld.key] <;> omega

theorem Reg.SAFE_SEAL_INVALID_key {i : Nat} (h : i < 8) : Keys.any [⟨17221812496, 17221812503, 1, 0⟩] (Reg.SAFE_SEAL_INVALID i).key = true := by
  refine Keys.any_one (Keys.has_intro ?_ ?_ ?_) <;> simp only [Reg.SAFE_SEAL_INVALID, Fld.key] <;> omega

theorem Reg.SAFE_MBOX_DATA_key {w : Nat} (h : w < 64) : Keys.any [⟨17221820416, 17221828480, 128, 0⟩] (Reg.SAFE_MBOX_DATA w).key = true := by
  refine Keys.any_one (Keys.has_intro ?_ ?_ ?_) <;> simp only [Reg.SAFE_MBOX_DATA, Fld.key] <;> omega

theorem Reg.SAFE_L_GBUF_VALID_key {k : Nat} (h : k < 8) : Keys.any [⟨17221828608, 17221832192, 512, 0⟩] (Reg.SAFE_L_GBUF_VALID k).key = true := by
  refine Keys.any_one (Keys.has_intro ?_ ?_ ?_) <;> simp only [Reg.SAFE_L_GBUF_VALID, Fld.key] <;> omega

theorem Reg.SAFE_L_GBUF_ADDR_key {k : Nat} (h : k < 8) : Keys.any [⟨17221828614, 17221832198, 512, 0⟩] (Reg.SAFE_L_GBUF_ADDR k).key = true := by
  refine Keys.any_one (Keys.has_intro ?_ ?_ ?_) <;> simp only [Reg.SAFE_L_GBUF_ADDR, Fld.key] <;> omega

theorem Reg.FLT_PEND_key {i : Nat} (h : i < 96) : Keys.any [⟨17188258816, 17188259103, 1, 0⟩] (Reg.FLT_PEND i).key = true := by
  refine Keys.any_one (Keys.has_intro ?_ ?_ ?_) <;> simp only [Reg.FLT_PEND, Fld.key] <;> omega

theorem Reg.FLT_FENCE_ENG_key {i : Nat} (h : i < 16) : Keys.any [⟨17188261376, 17188261391, 1, 0⟩] (Reg.FLT_FENCE_ENG i).key = true := by
  refine Keys.any_one (Keys.has_intro ?_ ?_ ?_) <;> simp only [Reg.FLT_FENCE_ENG, Fld.key] <;> omega

theorem Reg.FLT_FENCE_BANK_key {i : Nat} (h : i < 16) : Keys.any [⟨17188261392, 17188261407, 1, 0⟩] (Reg.FLT_FENCE_BANK i).key = true := by
  refine Keys.any_one (Keys.has_intro ?_ ?_ ?_) <;> simp only [Reg.FLT_FENCE_BANK, Fld.key] <;> omega

theorem Reg.FLT_FENCE_NET_key {i : Nat} (h : i < 2) : Keys.any [⟨17188261504, 17188261505, 1, 0⟩] (Reg.FLT_FENCE_NET i).key = true := by
  refine Keys.any_one (Keys.has_intro ?_ ?_ ?_) <;> simp only [Reg.FLT_FENCE_NET, Fld.key] <;> omega

theorem Reg.FLT_ZFENCE_key {i : Nat} (h : i < 192) : Keys.any [⟨17188261888, 17188262559, 1, 0⟩] (Reg.FLT_ZFENCE i).key = true := by
  refine Keys.any_one (Keys.has_intro ?_ ?_ ?_) <;> simp only [Reg.FLT_ZFENCE, Fld.key] <;> omega

theorem Reg.FLT_CAP_INFO_SRC_key {k : Nat} (h : k < 5) : Keys.any [⟨17188265984, 17188270080, 1024, 0⟩] (Reg.FLT_CAP_INFO_SRC k).key = true := by
  refine Keys.any_one (Keys.has_intro ?_ ?_ ?_) <;> simp only [Reg.FLT_CAP_INFO_SRC, Fld.key] <;> omega

theorem Reg.FLT_CAP_INFO_VALID_key {k : Nat} (h : k < 5) : Keys.any [⟨17188265991, 17188270087, 1024, 0⟩] (Reg.FLT_CAP_INFO_VALID k).key = true := by
  refine Keys.any_one (Keys.has_intro ?_ ?_ ?_) <;> simp only [Reg.FLT_CAP_INFO_VALID, Fld.key] <;> omega

theorem Reg.FLT_CAP_INFO_UNIT_key {k : Nat} (h : k < 5) : Keys.any [⟨17188265992, 17188270088, 1024, 0⟩] (Reg.FLT_CAP_INFO_UNIT k).key = true := by
  refine Keys.any_one (Keys.has_intro ?_ ?_ ?_) <;> simp only [Reg.FLT_CAP_INFO_UNIT, Fld.key] <;> omega

theorem Reg.FLT_CAP_INFO_MASTER_key {k : Nat} (h : k < 5) : Keys.any [⟨17188266000, 17188270096, 1024, 0⟩] (Reg.FLT_CAP_INFO_MASTER k).key = true := by
  refine Keys.any_one (Keys.has_intro ?_ ?_ ?_) <;> simp only [Reg.FLT_CAP_INFO_MASTER, Fld.key] <;> omega

theorem Reg.FLT_CAP_INFO_MIDX_key {k : Nat} (h : k < 5) : Keys.any [⟨17188266004, 17188270100, 1024, 0⟩] (Reg.FLT_CAP_INFO_MIDX k).key = true := by
  refine Keys.any_one (Keys.has_intro ?_ ?_ ?_) <;> simp only [Reg.FLT_CAP_INFO_MIDX, Fld.key] <;> omega

theorem Reg.FLT_CAP_INFO_ACCESS_key {k : Nat} (h : k < 5) : Keys.any [⟨17188266008, 17188270104, 1024, 0⟩] (Reg.FLT_CAP_INFO_ACCESS k).key = true := by
  refine Keys.any_one (Keys.has_intro ?_ ?_ ?_) <;> simp only [Reg.FLT_CAP_INFO_ACCESS, Fld.key] <;> omega

theorem Reg.FLT_CAP_INFO_ESC_key {k : Nat} (h : k < 5) : Keys.any [⟨17188266010, 17188270106, 1024, 0⟩] (Reg.FLT_CAP_INFO_ESC k).key = true := by
  refine Keys.any_one (Keys.has_intro ?_ ?_ ?_) <;> simp only [Reg.FLT_CAP_INFO_ESC, Fld.key] <;> omega

theorem Reg.FLT_CAP_INFO_TS_VALID_key {k : Nat} (h : k < 5) : Keys.any [⟨17188266011, 17188270107, 1024, 0⟩] (Reg.FLT_CAP_INFO_TS_VALID k).key = true := by
  refine Keys.any_one (Keys.has_intro ?_ ?_ ?_) <;> simp only [Reg.FLT_CAP_INFO_TS_VALID, Fld.key] <;> omega

theorem Reg.FLT_CAP_ADDR_LO_ADDR_key {k : Nat} (h : k < 5) : Keys.any [⟨17188266112, 17188270208, 1024, 0⟩] (Reg.FLT_CAP_ADDR_LO_ADDR k).key = true := by
  refine Keys.any_one (Keys.has_intro ?_ ?_ ?_) <;> simp only [Reg.FLT_CAP_ADDR_LO_ADDR, Fld.key] <;> omega

theorem Reg.FLT_CAP_ADDR_HI_ADDR_HI_key {k : Nat} (h : k < 5) : Keys.any [⟨17188266240, 17188270336, 1024, 0⟩] (Reg.FLT_CAP_ADDR_HI_ADDR_HI k).key = true := by
  refine Keys.any_one (Keys.has_intro ?_ ?_ ?_) <;> simp only [Reg.FLT_CAP_ADDR_HI_ADDR_HI, Fld.key] <;> omega

theorem Reg.FLT_CAP_TS_NS_VALUE_key {k : Nat} (h : k < 5) : Keys.any [⟨17188266368, 17188270464, 1024, 0⟩] (Reg.FLT_CAP_TS_NS_VALUE k).key = true := by
  refine Keys.any_one (Keys.has_intro ?_ ?_ ?_) <;> simp only [Reg.FLT_CAP_TS_NS_VALUE, Fld.key] <;> omega

theorem Reg.FLT_CAP_TS_SEC_VALUE_key {k : Nat} (h : k < 5) : Keys.any [⟨17188266496, 17188270592, 1024, 0⟩] (Reg.FLT_CAP_TS_SEC_VALUE k).key = true := by
  refine Keys.any_one (Keys.has_intro ?_ ?_ ?_) <;> simp only [Reg.FLT_CAP_TS_SEC_VALUE, Fld.key] <;> omega

theorem Reg.FLT_CAP_CNT_CNT_key {k : Nat} (h : k < 5) : Keys.any [⟨17188266624, 17188270720, 1024, 0⟩] (Reg.FLT_CAP_CNT_CNT k).key = true := by
  refine Keys.any_one (Keys.has_intro ?_ ?_ ?_) <;> simp only [Reg.FLT_CAP_CNT_CNT, Fld.key] <;> omega

theorem Reg.EVC_PEND_key {i : Nat} (h : i < 128) : Keys.any [⟨17186168832, 17186169247, 1, 0⟩] (Reg.EVC_PEND i).key = true := by
  refine Keys.any_one (Keys.has_intro ?_ ?_ ?_) <;> simp only [Reg.EVC_PEND, Fld.key] <;> omega

theorem Reg.EVC_ACT_key {i : Nat} (h : i < 128) : Keys.any [⟨17186169856, 17186170271, 1, 0⟩] (Reg.EVC_ACT i).key = true := by
  refine Keys.any_one (Keys.has_intro ?_ ?_ ?_) <;> simp only [Reg.EVC_ACT, Fld.key] <;> omega

theorem Reg.EVC_SRC_CFG_TARGET_key {n : Nat} (h : n < 128) : Keys.any [⟨17186291720, 17186356744, 512, 0⟩] (Reg.EVC_SRC_CFG_TARGET n).key = true := by
  refine Keys.any_one (Keys.has_intro ?_ ?_ ?_) <;> simp only [Reg.EVC_SRC_CFG_TARGET, Fld.key] <;> omega

theorem Reg.EVC_SRC_CFG_FALLBACK_key {n : Nat} (h : n < 128) : Keys.any [⟨17186291724, 17186356748, 512, 0⟩] (Reg.EVC_SRC_CFG_FALLBACK n).key = true := by
  refine Keys.any_one (Keys.has_intro ?_ ?_ ?_) <;> simp only [Reg.EVC_SRC_CFG_FALLBACK, Fld.key] <;> omega

theorem Reg.EVC_ENG_CTRL_HOLD_key {e : Nat} (h : e < 16) : Keys.any [⟨17186226176, 17186256896, 2048, 0⟩] (Reg.EVC_ENG_CTRL_HOLD e).key = true := by
  refine Keys.any_one (Keys.has_intro ?_ ?_ ?_) <;> simp only [Reg.EVC_ENG_CTRL_HOLD, Fld.key] <;> omega

theorem Reg.EVC_ENG_CTRL_APER_key {e : Nat} (h : e < 16) : Keys.any [⟨17186226177, 17186256897, 2048, 0⟩] (Reg.EVC_ENG_CTRL_APER e).key = true := by
  refine Keys.any_one (Keys.has_intro ?_ ?_ ?_) <;> simp only [Reg.EVC_ENG_CTRL_APER, Fld.key] <;> omega

theorem Reg.EVC_ENG_RSTVEC_VEC_key {e : Nat} (h : e < 16) : Keys.any [⟨17186226305, 17186257025, 2048, 0⟩] (Reg.EVC_ENG_RSTVEC_VEC e).key = true := by
  refine Keys.any_one (Keys.has_intro ?_ ?_ ?_) <;> simp only [Reg.EVC_ENG_RSTVEC_VEC, Fld.key] <;> omega

theorem Reg.EVC_ENG_STATE_DEPTH_key {e : Nat} (h : e < 16) : Keys.any [⟨17186226560, 17186257280, 2048, 0⟩] (Reg.EVC_ENG_STATE_DEPTH e).key = true := by
  refine Keys.any_one (Keys.has_intro ?_ ?_ ?_) <;> simp only [Reg.EVC_ENG_STATE_DEPTH, Fld.key] <;> omega

theorem Reg.EVC_ENG_STATE_SRC_key {e : Nat} (h : e < 16) : Keys.any [⟨17186226568, 17186257288, 2048, 0⟩] (Reg.EVC_ENG_STATE_SRC e).key = true := by
  refine Keys.any_one (Keys.has_intro ?_ ?_ ?_) <;> simp only [Reg.EVC_ENG_STATE_SRC, Fld.key] <;> omega

theorem Reg.EVC_ENG_STATE_RUN_PRIO_key {e : Nat} (h : e < 16) : Keys.any [⟨17186226576, 17186257296, 2048, 0⟩] (Reg.EVC_ENG_STATE_RUN_PRIO e).key = true := by
  refine Keys.any_one (Keys.has_intro ?_ ?_ ?_) <;> simp only [Reg.EVC_ENG_STATE_RUN_PRIO, Fld.key] <;> omega

theorem Reg.EVC_ENG_STATE_WFI_key {e : Nat} (h : e < 16) : Keys.any [⟨17186226581, 17186257301, 2048, 0⟩] (Reg.EVC_ENG_STATE_WFI e).key = true := by
  refine Keys.any_one (Keys.has_intro ?_ ?_ ?_) <;> simp only [Reg.EVC_ENG_STATE_WFI, Fld.key] <;> omega

theorem Reg.EVC_ENG_STATE_NMI_key {e : Nat} (h : e < 16) : Keys.any [⟨17186226582, 17186257302, 2048, 0⟩] (Reg.EVC_ENG_STATE_NMI e).key = true := by
  refine Keys.any_one (Keys.has_intro ?_ ?_ ?_) <;> simp only [Reg.EVC_ENG_STATE_NMI, Fld.key] <;> omega

theorem Reg.EVC_ENG_STATE_TRAP_key {e : Nat} (h : e < 16) : Keys.any [⟨17186226583, 17186257303, 2048, 0⟩] (Reg.EVC_ENG_STATE_TRAP e).key = true := by
  refine Keys.any_one (Keys.has_intro ?_ ?_ ?_) <;> simp only [Reg.EVC_ENG_STATE_TRAP, Fld.key] <;> omega

theorem Reg.EVC_ENG_STATE_HALT_key {e : Nat} (h : e < 16) : Keys.any [⟨17186226584, 17186257304, 2048, 0⟩] (Reg.EVC_ENG_STATE_HALT e).key = true := by
  refine Keys.any_one (Keys.has_intro ?_ ?_ ?_) <;> simp only [Reg.EVC_ENG_STATE_HALT, Fld.key] <;> omega

theorem Reg.EVC_ENG_WDT_CTRL_EN_key {e : Nat} (h : e < 16) : Keys.any [⟨17186226816, 17186257536, 2048, 0⟩] (Reg.EVC_ENG_WDT_CTRL_EN e).key = true := by
  refine Keys.any_one (Keys.has_intro ?_ ?_ ?_) <;> simp only [Reg.EVC_ENG_WDT_CTRL_EN, Fld.key] <;> omega

theorem Reg.UART_STATUS_RXVALID_key {u : Nat} (h : u < 2) : Keys.any [⟨17228103808, 17228112000, 8192, 0⟩] (Reg.UART_STATUS_RXVALID u).key = true := by
  refine Keys.any_one (Keys.has_intro ?_ ?_ ?_) <;> simp only [Reg.UART_STATUS_RXVALID, Fld.key] <;> omega

theorem Reg.UART_STATUS_TXEMPTY_key {u : Nat} (h : u < 2) : Keys.any [⟨17228103809, 17228112001, 8192, 0⟩] (Reg.UART_STATUS_TXEMPTY u).key = true := by
  refine Keys.any_one (Keys.has_intro ?_ ?_ ?_) <;> simp only [Reg.UART_STATUS_TXEMPTY, Fld.key] <;> omega

theorem Reg.UART_STATUS_ERR_key {u : Nat} (h : u < 2) : Keys.any [⟨17228103810, 17228112002, 8192, 0⟩] (Reg.UART_STATUS_ERR u).key = true := by
  refine Keys.any_one (Keys.has_intro ?_ ?_ ?_) <;> simp only [Reg.UART_STATUS_ERR, Fld.key] <;> omega

theorem Reg.UART_STATUS_TXFULL_key {u : Nat} (h : u < 2) : Keys.any [⟨17228103811, 17228112003, 8192, 0⟩] (Reg.UART_STATUS_TXFULL u).key = true := by
  refine Keys.any_one (Keys.has_intro ?_ ?_ ?_) <;> simp only [Reg.UART_STATUS_TXFULL, Fld.key] <;> omega

theorem Reg.UART_DATA_DATA_key {u : Nat} (h : u < 2) : Keys.any [⟨17228103936, 17228112128, 8192, 0⟩] (Reg.UART_DATA_DATA u).key = true := by
  refine Keys.any_one (Keys.has_intro ?_ ?_ ?_) <;> simp only [Reg.UART_DATA_DATA, Fld.key] <;> omega

theorem Reg.I2C_CMD_GO_key {c : Nat} (h : c < 3) : Keys.any [⟨17228120223, 17228128415, 8192, 0⟩, ⟨17230209183, 17230209183, 1, 0⟩] (Reg.I2C_CMD_GO c).key = true := by
  exact (by decide +kernel : ∀ c < 3, Keys.any [⟨17228120223, 17228128415, 8192, 0⟩, ⟨17230209183, 17230209183, 1, 0⟩] (Reg.I2C_CMD_GO c).key = true) c h

theorem Reg.I2C_STATUS_DONE_key {c : Nat} (h : c < 3) : Keys.any [⟨17228120320, 17228128512, 8192, 0⟩, ⟨17230209280, 17230209280, 1, 0⟩] (Reg.I2C_STATUS_DONE c).key = true := by
  exact (by decide +kernel : ∀ c < 3, Keys.any [⟨17228120320, 17228128512, 8192, 0⟩, ⟨17230209280, 17230209280, 1, 0⟩] (Reg.I2C_STATUS_DONE c).key = true) c h

theorem Reg.I2C_STATUS_NACK_key {c : Nat} (h : c < 3) : Keys.any [⟨17228120321, 17228128513, 8192, 0⟩, ⟨17230209281, 17230209281, 1, 0⟩] (Reg.I2C_STATUS_NACK c).key = true := by
  exact (by decide +kernel : ∀ c < 3, Keys.any [⟨17228120321, 17228128513, 8192, 0⟩, ⟨17230209281, 17230209281, 1, 0⟩] (Reg.I2C_STATUS_NACK c).key = true) c h

theorem Reg.I2C_STATUS_TMO_key {c : Nat} (h : c < 3) : Keys.any [⟨17228120322, 17228128514, 8192, 0⟩, ⟨17230209282, 17230209282, 1, 0⟩] (Reg.I2C_STATUS_TMO c).key = true := by
  exact (by decide +kernel : ∀ c < 3, Keys.any [⟨17228120322, 17228128514, 8192, 0⟩, ⟨17230209282, 17230209282, 1, 0⟩] (Reg.I2C_STATUS_TMO c).key = true) c h

theorem Reg.I2C_STATUS_BUSY_key {c : Nat} (h : c < 3) : Keys.any [⟨17228120323, 17228128515, 8192, 0⟩, ⟨17230209283, 17230209283, 1, 0⟩] (Reg.I2C_STATUS_BUSY c).key = true := by
  exact (by decide +kernel : ∀ c < 3, Keys.any [⟨17228120323, 17228128515, 8192, 0⟩, ⟨17230209283, 17230209283, 1, 0⟩] (Reg.I2C_STATUS_BUSY c).key = true) c h

theorem Reg.I2C_STATUS_RXCNT_key {c : Nat} (h : c < 3) : Keys.any [⟨17228120328, 17228128520, 8192, 0⟩, ⟨17230209288, 17230209288, 1, 0⟩] (Reg.I2C_STATUS_RXCNT c).key = true := by
  exact (by decide +kernel : ∀ c < 3, Keys.any [⟨17228120328, 17228128520, 8192, 0⟩, ⟨17230209288, 17230209288, 1, 0⟩] (Reg.I2C_STATUS_RXCNT c).key = true) c h

theorem Reg.I2C_STATUS_TXFREE_key {c : Nat} (h : c < 3) : Keys.any [⟨17228120332, 17228128524, 8192, 0⟩, ⟨17230209292, 17230209292, 1, 0⟩] (Reg.I2C_STATUS_TXFREE c).key = true := by
  exact (by decide +kernel : ∀ c < 3, Keys.any [⟨17228120332, 17228128524, 8192, 0⟩, ⟨17230209292, 17230209292, 1, 0⟩] (Reg.I2C_STATUS_TXFREE c).key = true) c h

theorem Reg.I2C_DATA_DATA_key {c : Nat} (h : c < 3) : Keys.any [⟨17228120448, 17228128640, 8192, 0⟩, ⟨17230209408, 17230209408, 1, 0⟩] (Reg.I2C_DATA_DATA c).key = true := by
  exact (by decide +kernel : ∀ c < 3, Keys.any [⟨17228120448, 17228128640, 8192, 0⟩, ⟨17230209408, 17230209408, 1, 0⟩] (Reg.I2C_DATA_DATA c).key = true) c h

theorem Reg.GPIO_IN_IN_key {i : Nat} (h : i < 16) : Keys.any [⟨17228144768, 17228144783, 1, 0⟩] (Reg.GPIO_IN_IN i).key = true := by
  refine Keys.any_one (Keys.has_intro ?_ ?_ ?_) <;> simp only [Reg.GPIO_IN_IN, Fld.key] <;> omega

theorem Reg.GPIO_IN_FLAG_key {i : Nat} (h : i < 16) : Keys.any [⟨17228144784, 17228144799, 1, 0⟩] (Reg.GPIO_IN_FLAG i).key = true := by
  refine Keys.any_one (Keys.has_intro ?_ ?_ ?_) <;> simp only [Reg.GPIO_IN_FLAG, Fld.key] <;> omega

theorem Reg.TIM_CTRL_EN_key {k : Nat} (h : k < 4) : Keys.any [⟨17228153344, 17228154112, 256, 0⟩] (Reg.TIM_CTRL_EN k).key = true := by
  refine Keys.any_one (Keys.has_intro ?_ ?_ ?_) <;> simp only [Reg.TIM_CTRL_EN, Fld.key] <;> omega

theorem Reg.TIM_CTRL_FIRED_key {k : Nat} (h : k < 4) : Keys.any [⟨17228153346, 17228154114, 256, 0⟩] (Reg.TIM_CTRL_FIRED k).key = true := by
  refine Keys.any_one (Keys.has_intro ?_ ?_ ?_) <;> simp only [Reg.TIM_CTRL_FIRED, Fld.key] <;> omega

theorem Reg.PERI_EVSEL0_key {i : Nat} (h : i < 8) : Keys.any [⟨17228161024, 17228161052, 4, 0⟩] (Reg.PERI_EVSEL0 i).key = true := by
  refine Keys.any_one (Keys.has_intro ?_ ?_ ?_) <;> simp only [Reg.PERI_EVSEL0, Fld.key] <;> omega

theorem Reg.PERI_EVSEL1_key {i : Nat} (h : i < 3) : Keys.any [⟨17228161152, 17228161160, 4, 0⟩] (Reg.PERI_EVSEL1 i).key = true := by
  refine Keys.any_one (Keys.has_intro ?_ ?_ ?_) <;> simp only [Reg.PERI_EVSEL1, Fld.key] <;> omega

theorem Reg.WIN_ROLE_MASK_key {e : Nat} (h : e < 16) : Keys.any [⟨17194551296, 17194553216, 128, 0⟩] (Reg.WIN_ROLE_MASK e).key = true := by
  refine Keys.any_one (Keys.has_intro ?_ ?_ ?_) <;> simp only [Reg.WIN_ROLE_MASK, Fld.key] <;> omega

theorem Reg.WIN_OWN_key {i : Nat} (h : i < 1024) : Keys.any [⟨17194557440, 17194573724, 4, 0⟩] (Reg.WIN_OWN i).key = true := by
  refine Keys.any_one (Keys.has_intro ?_ ?_ ?_) <;> simp only [Reg.WIN_OWN, Fld.key] <;> omega

theorem Reg.WIN_DMA_CTRL_GO_key {c : Nat} (h : c < 4) : Keys.any [⟨17194615296, 17194618368, 1024, 0⟩] (Reg.WIN_DMA_CTRL_GO c).key = true := by
  refine Keys.any_one (Keys.has_intro ?_ ?_ ?_) <;> simp only [Reg.WIN_DMA_CTRL_GO, Fld.key] <;> omega

theorem Reg.WIN_DMA_STATUS_DONE_key {c : Nat} (h : c < 4) : Keys.any [⟨17194615424, 17194618496, 1024, 0⟩] (Reg.WIN_DMA_STATUS_DONE c).key = true := by
  refine Keys.any_one (Keys.has_intro ?_ ?_ ?_) <;> simp only [Reg.WIN_DMA_STATUS_DONE, Fld.key] <;> omega

theorem Reg.WIN_DMA_STATUS_ERR_key {c : Nat} (h : c < 4) : Keys.any [⟨17194615425, 17194618497, 1024, 0⟩] (Reg.WIN_DMA_STATUS_ERR c).key = true := by
  refine Keys.any_one (Keys.has_intro ?_ ?_ ?_) <;> simp only [Reg.WIN_DMA_STATUS_ERR, Fld.key] <;> omega

theorem Reg.WIN_DMA_STATUS_TMO_key {c : Nat} (h : c < 4) : Keys.any [⟨17194615426, 17194618498, 1024, 0⟩] (Reg.WIN_DMA_STATUS_TMO c).key = true := by
  refine Keys.any_one (Keys.has_intro ?_ ?_ ?_) <;> simp only [Reg.WIN_DMA_STATUS_TMO, Fld.key] <;> omega

theorem Reg.CVU_CTRL_START_key {u : Nat} (h : u < 4) : Keys.any [⟨17190354944, 17190361088, 2048, 0⟩] (Reg.CVU_CTRL_START u).key = true := by
  refine Keys.any_one (Keys.has_intro ?_ ?_ ?_) <;> simp only [Reg.CVU_CTRL_START, Fld.key] <;> omega

theorem Reg.CVU_CTRL_STOP_key {u : Nat} (h : u < 4) : Keys.any [⟨17190354945, 17190361089, 2048, 0⟩] (Reg.CVU_CTRL_STOP u).key = true := by
  refine Keys.any_one (Keys.has_intro ?_ ?_ ?_) <;> simp only [Reg.CVU_CTRL_STOP, Fld.key] <;> omega

theorem Reg.CVU_STATUS_BUSY_key {u : Nat} (h : u < 4) : Keys.any [⟨17190355072, 17190361216, 2048, 0⟩] (Reg.CVU_STATUS_BUSY u).key = true := by
  refine Keys.any_one (Keys.has_intro ?_ ?_ ?_) <;> simp only [Reg.CVU_STATUS_BUSY, Fld.key] <;> omega

theorem Reg.CVU_STATUS_PASS_key {u : Nat} (h : u < 4) : Keys.any [⟨17190355073, 17190361217, 2048, 0⟩] (Reg.CVU_STATUS_PASS u).key = true := by
  refine Keys.any_one (Keys.has_intro ?_ ?_ ?_) <;> simp only [Reg.CVU_STATUS_PASS, Fld.key] <;> omega

theorem Reg.CVU_STATUS_MISMATCH_key {u : Nat} (h : u < 4) : Keys.any [⟨17190355074, 17190361218, 2048, 0⟩] (Reg.CVU_STATUS_MISMATCH u).key = true := by
  refine Keys.any_one (Keys.has_intro ?_ ?_ ?_) <;> simp only [Reg.CVU_STATUS_MISMATCH, Fld.key] <;> omega

theorem Reg.CVU_STATUS_ALIVE_ERR_key {u : Nat} (h : u < 4) : Keys.any [⟨17190355075, 17190361219, 2048, 0⟩] (Reg.CVU_STATUS_ALIVE_ERR u).key = true := by
  refine Keys.any_one (Keys.has_intro ?_ ?_ ?_) <;> simp only [Reg.CVU_STATUS_ALIVE_ERR, Fld.key] <;> omega

theorem Reg.CVU_STATUS_ERR_key {u : Nat} (h : u < 4) : Keys.any [⟨17190355076, 17190361220, 2048, 0⟩] (Reg.CVU_STATUS_ERR u).key = true := by
  refine Keys.any_one (Keys.has_intro ?_ ?_ ?_) <;> simp only [Reg.CVU_STATUS_ERR, Fld.key] <;> omega

theorem Reg.CVU_STATUS_OVERRUN_key {u : Nat} (h : u < 4) : Keys.any [⟨17190355077, 17190361221, 2048, 0⟩] (Reg.CVU_STATUS_OVERRUN u).key = true := by
  refine Keys.any_one (Keys.has_intro ?_ ?_ ?_) <;> simp only [Reg.CVU_STATUS_OVERRUN, Fld.key] <;> omega

theorem Reg.CVU_STATUS_WERR_key {u : Nat} (h : u < 4) : Keys.any [⟨17190355078, 17190361222, 2048, 0⟩] (Reg.CVU_STATUS_WERR u).key = true := by
  refine Keys.any_one (Keys.has_intro ?_ ?_ ?_) <;> simp only [Reg.CVU_STATUS_WERR, Fld.key] <;> omega

theorem Reg.CVU_RESULT_VALUE_key {u : Nat} (h : u < 4) : Keys.any [⟨17190355584, 17190361728, 2048, 0⟩] (Reg.CVU_RESULT_VALUE u).key = true := by
  refine Keys.any_one (Keys.has_intro ?_ ?_ ?_) <;> simp only [Reg.CVU_RESULT_VALUE, Fld.key] <;> omega

theorem Reg.CVU_ALIVE_REF_key {u : Nat} (h : u < 4) : Keys.any [⟨17190355712, 17190361856, 2048, 0⟩] (Reg.CVU_ALIVE_REF u).key = true := by
  refine Keys.any_one (Keys.has_intro ?_ ?_ ?_) <;> simp only [Reg.CVU_ALIVE_REF, Fld.key] <;> omega

theorem Reg.PAIR_CMP_PORTS_key {i : Nat} (h : i < 12) : Keys.any [⟨17223910272, 17223910283, 1, 0⟩] (Reg.PAIR_CMP_PORTS i).key = true := by
  refine Keys.any_one (Keys.has_intro ?_ ?_ ?_) <;> simp only [Reg.PAIR_CMP_PORTS, Fld.key] <;> omega

theorem Reg.PWRCTL_STATE0_key {i : Nat} (h : i < 16) : Keys.any [⟨17181966592, 17181966622, 2, 0⟩] (Reg.PWRCTL_STATE0 i).key = true := by
  refine Keys.any_one (Keys.has_intro ?_ ?_ ?_) <;> simp only [Reg.PWRCTL_STATE0, Fld.key] <;> omega

theorem Reg.PWRCTL_STATE1_key {i : Nat} (h : i < 16) : Keys.any [⟨17181966720, 17181966750, 2, 0⟩] (Reg.PWRCTL_STATE1 i).key = true := by
  refine Keys.any_one (Keys.has_intro ?_ ?_ ?_) <;> simp only [Reg.PWRCTL_STATE1, Fld.key] <;> omega

theorem Reg.PWRCTL_XING_key {i : Nat} (h : i < 32) : Keys.any [⟨17181967232, 17181967263, 1, 0⟩] (Reg.PWRCTL_XING i).key = true := by
  refine Keys.any_one (Keys.has_intro ?_ ?_ ?_) <;> simp only [Reg.PWRCTL_XING, Fld.key] <;> omega

theorem Reg.SYSCTL_NONCE_NONCE_key {k : Nat} (h : k < 4) : Keys.any [⟨17179870208, 17179870592, 128, 0⟩] (Reg.SYSCTL_NONCE_NONCE k).key = true := by
  refine Keys.any_one (Keys.has_intro ?_ ?_ ?_) <;> simp only [Reg.SYSCTL_NONCE_NONCE, Fld.key] <;> omega

theorem Reg.CRYPTO_DIGEST_WORD_key {k : Nat} (h : k < 8) : Keys.any [⟨17226007552, 17226008448, 128, 0⟩] (Reg.CRYPTO_DIGEST_WORD k).key = true := by
  refine Keys.any_one (Keys.has_intro ?_ ?_ ?_) <;> simp only [Reg.CRYPTO_DIGEST_WORD, Fld.key] <;> omega

theorem Reg.CRYPTO_SIG_R_WORD_key {k : Nat} (h : k < 8) : Keys.any [⟨17226008576, 17226009472, 128, 0⟩] (Reg.CRYPTO_SIG_R_WORD k).key = true := by
  refine Keys.any_one (Keys.has_intro ?_ ?_ ?_) <;> simp only [Reg.CRYPTO_SIG_R_WORD, Fld.key] <;> omega

theorem Reg.CRYPTO_SIG_S_WORD_key {k : Nat} (h : k < 8) : Keys.any [⟨17226009600, 17226010496, 128, 0⟩] (Reg.CRYPTO_SIG_S_WORD k).key = true := by
  refine Keys.any_one (Keys.has_intro ?_ ?_ ?_) <;> simp only [Reg.CRYPTO_SIG_S_WORD, Fld.key] <;> omega

theorem Reg.CRYPTO_DEVPUB_X_WORD_key {k : Nat} (h : k < 8) : Keys.any [⟨17226010624, 17226011520, 128, 0⟩] (Reg.CRYPTO_DEVPUB_X_WORD k).key = true := by
  refine Keys.any_one (Keys.has_intro ?_ ?_ ?_) <;> simp only [Reg.CRYPTO_DEVPUB_X_WORD, Fld.key] <;> omega

theorem Reg.CRYPTO_DEVPUB_Y_WORD_key {k : Nat} (h : k < 8) : Keys.any [⟨17226011648, 17226012544, 128, 0⟩] (Reg.CRYPTO_DEVPUB_Y_WORD k).key = true := by
  refine Keys.any_one (Keys.has_intro ?_ ?_ ?_) <;> simp only [Reg.CRYPTO_DEVPUB_Y_WORD, Fld.key] <;> omega

theorem Reg.CRYPTO_SMKEY_DATA_key {k : Nat} (h : k < 8) : Keys.any [⟨17226014720, 17226015616, 128, 0⟩] (Reg.CRYPTO_SMKEY_DATA k).key = true := by
  refine Keys.any_one (Keys.has_intro ?_ ?_ ?_) <;> simp only [Reg.CRYPTO_SMKEY_DATA, Fld.key] <;> omega

end Sys2Proof.Machine
end

