-- ==== Sys2Proof/Laws/OpsFrame.lean ====
section
/-! SUPPORT. What each operation and command of Machine/Ops.lean changes at most: register blocks and zones of the state. -/

namespace Sys2Proof.Machine

theorem State.goLive_fr {s fs} : Fr [] [.live] s (State.goLive s fs) := by
  unfold State.goLive
  exact Fr.foldl (Fr.refl _) (fun t x ht => Fr.wl rfl ht)

theorem State.fresh_fr {s} : Fr [] [.free] s (State.fresh s).2 := by
  unfold State.fresh
  refine Fr.mk2 ?_
  refine Fr.set_freeCtr rfl ?_
  first | assumption | exact Fr.refl _

theorem State.store_fr {s a bs} : Fr [] [.mem] s (State.store s a bs) := by
  induction bs generalizing s a with
  | nil => exact Fr.refl s
  | cons b bs ih => exact Fr.step ih rfl rfl (Fr.setByte rfl (Fr.refl s))

theorem State.wipe_fr {s lo hi} : Fr [] [.mem] s (State.wipe s lo hi) := Fr.memFilter _ rfl (Fr.refl s)

theorem State.setPmic_fr {s} {a1} {a2} : Fr [⟨17181967360, 17181967360, 1, 0⟩] [] s (State.setPmic s a1 a2) := by
  unfold State.setPmic
  extract_lets -merge -underBinder +onlyGivenNames x0
  try clear_value (e0 : x0 = _)
  refine Fr.wr (xs := [⟨17181967360, 17181967360, 1, 0⟩]) rfl rfl ?_
  first | assumption | exact Fr.refl _

theorem State.startWake_fr {s} {a1} {a2} {a3} : Fr [⟨17181966336, 17181966336, 1, 0⟩, ⟨17181967360, 17181967360, 1, 0⟩] [.pwr] s (State.startWake s a1 a2 a3) := by
  unfold State.startWake
  extract_lets -merge -underBinder +onlyGivenNames x0
  try clear_value x0
  extract_lets -merge -underBinder +onlyGivenNames x1
  extract_lets -merge -underBinder +onlyGivenNames x2
  refine Fr.cut x2 ?_ (fun h2 => ?_)
  · unfold x2
    refine Fr.set_pwr rfl ?_
    first | assumption | exact Fr.refl _
  try clear_value x2
  refine Fr.wr (xs := [⟨17181966336, 17181966336, 1, 0⟩]) rfl rfl ?_
  refine Fr.iteh (fun _ => ?_) (fun _ => ?_)
  · refine Fr.step State.setPmic_fr rfl rfl ?_
    first | assumption | exact Fr.refl _
  · first | assumption | exact Fr.refl _

theorem State.pwrIdle_fr {s} : Fr [⟨17181966495, 17181966495, 1, 0⟩, ⟨17181966336, 17181966336, 1, 0⟩] [] s (State.pwrIdle s) := by
  unfold State.pwrIdle
  extract_lets -merge -underBinder +onlyGivenNames x0
  refine Fr.cut x0 ?_ (fun h0 => ?_)
  · unfold x0
    refine Fr.iteh (fun _ => ?_) (fun _ => ?_)
    · first | assumption | exact Fr.refl _
    · refine Fr.wr (xs := [⟨17181966495, 17181966495, 1, 0⟩]) rfl rfl ?_
      first | assumption | exact Fr.refl _
  try clear_value x0
  refine Fr.iteh (fun _ => ?_) (fun _ => ?_)
  · refine Fr.wr (xs := [⟨17181966336, 17181966336, 1, 0⟩]) rfl rfl ?_
    first | assumption | exact Fr.refl _
  · first | assumption | exact Fr.refl _

theorem State.setEng_fr {s} {a1} {a2} : Fr [] [.evc] s (State.setEng s a1 a2) := by
  unfold State.setEng
  refine Fr.set_evc rfl ?_
  first | assumption | exact Fr.refl _

theorem State.showEng_fr {s} {a1} : Fr [⟨17186226583, 17186257303, 2048, 0⟩, ⟨17186226582, 17186257302, 2048, 0⟩, ⟨17186226576, 17186257296, 2048, 0⟩, ⟨17186226568, 17186257288, 2048, 0⟩, ⟨17186226560, 17186257280, 2048, 0⟩] [] s (State.showEng s a1) := by
  unfold State.showEng
  extract_lets -merge -underBinder +onlyGivenNames x0
  try clear_value x0
  extract_lets -merge -underBinder +onlyGivenNames x1
  try clear_value x1
  refine Fr.wrB (xs := [⟨17186226583, 17186257303, 2048, 0⟩]) (Reg.EVC_ENG_STATE_TRAP_key (by first | omega | (simp only [List.mem_range] at *; omega))) rfl ?_
  refine Fr.wrB (xs := [⟨17186226582, 17186257302, 2048, 0⟩]) (Reg.EVC_ENG_STATE_NMI_key (by first | omega | (simp only [List.mem_range] at *; omega))) rfl ?_
  refine Fr.wr (xs := [⟨17186226576, 17186257296, 2048, 0⟩]) (Reg.EVC_ENG_STATE_RUN_PRIO_key (by first | omega | (simp only [List.mem_range] at *; omega))) rfl ?_
  refine Fr.wr (xs := [⟨17186226568, 17186257288, 2048, 0⟩]) (Reg.EVC_ENG_STATE_SRC_key (by first | omega | (simp only [List.mem_range] at *; omega))) rfl ?_
  refine Fr.wr (xs := [⟨17186226560, 17186257280, 2048, 0⟩]) (Reg.EVC_ENG_STATE_DEPTH_key (by first | omega | (simp only [List.mem_range] at *; omega))) rfl ?_
  first | assumption | exact Fr.refl _

theorem State.raiseOcc_fr {s} {a1} : Fr [] [.flt] s (State.raiseOcc s a1) := by
  unfold State.raiseOcc
  refine Fr.iteh (fun _ => ?_) (fun _ => ?_)
  · first | assumption | exact Fr.refl _
  · refine Fr.set_flt rfl ?_
    first | assumption | exact Fr.refl _

theorem State.raise_fr {s} {a1} {a2} {a3} : Fr [] [.flt] s (State.raise s a1 a2 a3) := by
  unfold State.raise
  refine Fr.step State.raiseOcc_fr rfl rfl ?_
  first | assumption | exact Fr.refl _

theorem State.raiseAcc_fr {s} {a1} {a2} {a3} {a4} : Fr [] [.flt] s (State.raiseAcc s a1 a2 a3 a4) := by
  unfold State.raiseAcc
  refine Fr.step State.raiseOcc_fr rfl rfl ?_
  first | assumption | exact Fr.refl _

theorem State.nestCheck_fr {s} {a1} : Fr [] [.flt, .evc] s (State.nestCheck s a1) := by
  unfold State.nestCheck
  refine Fr.iteh (fun _ => ?_) (fun _ => ?_)
  · first | assumption | exact Fr.refl _
  · refine Fr.step State.raise_fr rfl rfl ?_
    refine Fr.step State.setEng_fr rfl rfl ?_
    first | assumption | exact Fr.refl _

theorem State.wakeFor_fr {s} {a1} : Fr [⟨17186226581, 17186257301, 2048, 0⟩] [.flt, .evc] s (State.wakeFor s a1) := by
  unfold State.wakeFor
  extract_lets -merge -underBinder +onlyGivenNames x0
  try clear_value (e0 : x0 = _)
  refine Fr.iteh (fun _ => ?_) (fun _ => ?_)
  · first | assumption | exact Fr.refl _
  · refine Fr.step State.nestCheck_fr rfl rfl ?_
    refine Fr.iteh (fun _ => ?_) (fun _ => ?_)
    · refine Fr.wr (xs := [⟨17186226581, 17186257301, 2048, 0⟩]) (Reg.EVC_ENG_STATE_WFI_key (by first | omega | (simp only [List.mem_range] at *; omega))) rfl ?_
      first | assumption | exact Fr.refl _
    · first | assumption | exact Fr.refl _

theorem State.lookAgain_fr {s} {a1} : Fr [⟨17186226581, 17186257301, 2048, 0⟩] [.flt, .evc] s (State.lookAgain s a1) := by
  unfold State.lookAgain
  refine Fr.forFin ?_ (fun i t ht => ?_)
  · first | assumption | exact Fr.refl _
  · refine Fr.iteh (fun _ => ?_) (fun _ => ?_)
    · refine Fr.step State.wakeFor_fr rfl rfl ?_
      first | assumption | exact Fr.refl _
    · first | assumption | exact Fr.refl _

theorem State.resumed_fr {s} {a1} : Fr [⟨17186226581, 17186257301, 2048, 0⟩] [.flt, .evc] s (State.resumed s a1) := by
  unfold State.resumed
  refine Fr.forFin ?_ (fun i t ht => ?_)
  · first | assumption | exact Fr.refl _
  · refine Fr.iteh (fun _ => ?_) (fun _ => ?_)
    · refine Fr.step State.lookAgain_fr rfl rfl ?_
      first | assumption | exact Fr.refl _
    · first | assumption | exact Fr.refl _

theorem State.pend_fr {s} {a1} : Fr [⟨17186226581, 17186257301, 2048, 0⟩, ⟨17186168832, 17186169247, 1, 0⟩] [.flt, .evc] s (State.pend s a1) := by
  unfold State.pend
  refine Fr.iteh (fun _ => ?_) (fun _ => ?_)
  · first | assumption | exact Fr.refl _
  · refine Fr.step State.wakeFor_fr rfl rfl ?_
    extract_lets -merge -underBinder +onlyGivenNames x0
    refine Fr.cut x0 ?_ (fun h0 => ?_)
    · unfold x0
      refine Fr.wr (xs := [⟨17186168832, 17186169247, 1, 0⟩]) (Reg.EVC_PEND_key (by first | omega | (simp only [List.mem_range] at *; omega))) rfl ?_
      first | assumption | exact Fr.refl _
    try clear_value x0
    refine Fr.set_evc rfl ?_
    first | assumption | exact Fr.refl _

theorem State.abortDown_fr {s} : Fr [⟨17186226581, 17186257301, 2048, 0⟩, ⟨17181966338, 17181966338, 1, 0⟩, ⟨17181966495, 17181966495, 1, 0⟩, ⟨17181966336, 17181966336, 1, 0⟩] [.flt, .evc, .pwr] s (State.abortDown s) := by
  unfold State.abortDown
  refine Fr.step State.resumed_fr rfl rfl ?_
  refine Fr.wr (xs := [⟨17181966338, 17181966338, 1, 0⟩]) rfl rfl ?_
  refine Fr.step State.pwrIdle_fr rfl rfl ?_
  refine Fr.set_pwr rfl ?_
  first | assumption | exact Fr.refl _

theorem State.autoOn_fr {s} {a1} : Fr [⟨17181966336, 17181966336, 1, 0⟩, ⟨17181967360, 17181967360, 1, 0⟩] [.pwr] s (State.autoOn s a1) := by
  unfold State.autoOn
  refine Fr.iteh (fun _ => ?_) (fun _ => ?_)
  · refine Fr.step State.startWake_fr rfl rfl ?_
    first | assumption | exact Fr.refl _
  · first | assumption | exact Fr.refl _

theorem State.autowake_fr {s} {a1} : Fr [⟨17181966336, 17181966336, 1, 0⟩, ⟨17181967360, 17181967360, 1, 0⟩, ⟨17186226581, 17186257301, 2048, 0⟩, ⟨17181966338, 17181966338, 1, 0⟩, ⟨17181966495, 17181966495, 1, 0⟩] [.pwr, .flt, .evc] s (State.autowake s a1).1 := by
  unfold State.autowake
  extract_lets -merge -underBinder +onlyGivenNames x0
  try clear_value (e0 : x0 = _)
  refine Fr.iteh1 (fun _ => ?_) (fun _ => ?_)
  · refine Fr.mk1 ?_
    first | assumption | exact Fr.refl _
  · split
    · refine Fr.iteh1 (fun _ => ?_) (fun _ => ?_)
      · refine Fr.mk1 ?_
        refine Fr.step State.autoOn_fr rfl rfl ?_
        first | assumption | exact Fr.refl _
      · refine Fr.iteh1 (fun _ => ?_) (fun _ => ?_)
        · refine Fr.mk1 ?_
          refine Fr.set_pwr rfl ?_
          first | assumption | exact Fr.refl _
        · refine Fr.mk1 ?_
          refine Fr.step State.abortDown_fr rfl rfl ?_
          first | assumption | exact Fr.refl _
    · refine Fr.mk1 ?_
      refine Fr.iteh (fun _ => ?_) (fun _ => ?_)
      · refine Fr.step State.autoOn_fr rfl rfl ?_
        first | assumption | exact Fr.refl _
      · first | assumption | exact Fr.refl _

theorem State.powerFor_fr {s} {a1} : Fr [⟨17181966336, 17181966336, 1, 0⟩, ⟨17181967360, 17181967360, 1, 0⟩, ⟨17186226581, 17186257301, 2048, 0⟩, ⟨17181966338, 17181966338, 1, 0⟩, ⟨17181966495, 17181966495, 1, 0⟩, ⟨17186168832, 17186169247, 1, 0⟩] [.pwr, .flt, .evc] s (State.powerFor s a1) := by
  unfold State.powerFor
  extract_lets -merge -underBinder +onlyGivenNames x0
  refine Fr.cut x0.1 ?_ (fun h0 => ?_)
  · unfold x0
    refine Fr.step State.autowake_fr rfl rfl ?_
    first | assumption | exact Fr.refl _
  try clear_value x0
  refine Fr.iteh (fun _ => ?_) (fun _ => ?_)
  · refine Fr.step State.autowake_fr rfl rfl ?_
    refine Fr.step State.pend_fr rfl rfl ?_
    first | assumption | exact Fr.refl _
  · first | assumption | exact Fr.refl _

theorem State.fire_fr {s} {a1} : Fr [⟨17181966336, 17181966336, 1, 0⟩, ⟨17181967360, 17181967360, 1, 0⟩, ⟨17186226581, 17186257301, 2048, 0⟩, ⟨17181966338, 17181966338, 1, 0⟩, ⟨17181966495, 17181966495, 1, 0⟩, ⟨17186168832, 17186169247, 1, 0⟩] [.pwr, .flt, .evc] s (State.fire s a1) := by
  unfold State.fire
  extract_lets -merge -underBinder +onlyGivenNames x0
  try clear_value (e0 : x0 = _)
  refine Fr.iteh (fun _ => ?_) (fun _ => ?_)
  · first | assumption | exact Fr.refl _
  · refine Fr.step State.powerFor_fr rfl rfl ?_
    refine Fr.step State.pend_fr rfl rfl ?_
    first | assumption | exact Fr.refl _

theorem State.busErr_fr {s} {a1} {a2} {a3} : Fr [⟨17188261632, 17188261632, 1, 0⟩] [.flt] s (State.busErr s a1 a2 a3) := by
  unfold State.busErr
  refine Fr.iteh (fun _ => ?_) (fun _ => ?_)
  · refine Fr.inc (xs := [⟨17188261632, 17188261632, 1, 0⟩]) rfl rfl ?_
    first | assumption | exact Fr.refl _
  · refine Fr.step State.raiseOcc_fr rfl rfl ?_
    first | assumption | exact Fr.refl _

theorem State.werr_0x2000 {s addr} (h : addr / 65536 = 0x2000) : Fr [⟨17179870850, 17179870850, 1, 0⟩] [] s (State.werr s addr) := by
  unfold State.werr
  rw [h]
  show Fr _ _ s (s.wr Reg.SYSCTL_LC_STATUS_WERR 1)
  exact Fr.wr (xs := [⟨17179870850, 17179870850, 1, 0⟩]) rfl rfl (Fr.refl s)

theorem State.werr_0x2001 {s addr} (h : addr / 65536 = 0x2001) : Fr [⟨17181966337, 17181966337, 1, 0⟩, ⟨17181966336, 17181966336, 1, 0⟩, ⟨17181967360, 17181967360, 1, 0⟩, ⟨17186226581, 17186257301, 2048, 0⟩, ⟨17181966338, 17181966338, 1, 0⟩, ⟨17181966495, 17181966495, 1, 0⟩, ⟨17186168832, 17186169247, 1, 0⟩] [.pwr, .flt, .evc] s (State.werr s addr) := by
  unfold State.werr
  rw [h]
  show Fr _ _ s ((s.wr Reg.PWRCTL_STATUS_WERR 1).fire 113)
  exact Fr.step State.fire_fr rfl rfl (Fr.wr (xs := [⟨17181966337, 17181966337, 1, 0⟩]) rfl rfl (Fr.refl s))

theorem State.werr_0x2002 {s addr} (h : addr / 65536 = 0x2002) : Fr [⟨17184063872, 17184063872, 1, 0⟩, ⟨17181966336, 17181966336, 1, 0⟩, ⟨17181967360, 17181967360, 1, 0⟩, ⟨17186226581, 17186257301, 2048, 0⟩, ⟨17181966338, 17181966338, 1, 0⟩, ⟨17181966495, 17181966495, 1, 0⟩, ⟨17186168832, 17186169247, 1, 0⟩] [.pwr, .flt, .evc] s (State.werr s addr) := by
  unfold State.werr
  rw [h]
  show Fr _ _ s ((s.wr Reg.CLKRST_STATUS_WERR 1).fire 118)
  exact Fr.step State.fire_fr rfl rfl (Fr.wr (xs := [⟨17184063872, 17184063872, 1, 0⟩]) rfl rfl (Fr.refl s))

theorem State.werr_0x2003 {s addr} (h : addr / 65536 = 0x2003) : Fr [⟨17186160640, 17186160640, 1, 0⟩] [] s (State.werr s addr) := by
  unfold State.werr
  rw [h]
  show Fr _ _ s (s.wr Reg.EVC_STATUS_WERR 1)
  exact Fr.wr (xs := [⟨17186160640, 17186160640, 1, 0⟩]) rfl rfl (Fr.refl s)

theorem State.werr_0x2004 {s addr} (h : addr / 65536 = 0x2004) : Fr [⟨17188257920, 17188257920, 1, 0⟩, ⟨17181966336, 17181966336, 1, 0⟩, ⟨17181967360, 17181967360, 1, 0⟩, ⟨17186226581, 17186257301, 2048, 0⟩, ⟨17181966338, 17181966338, 1, 0⟩, ⟨17181966495, 17181966495, 1, 0⟩, ⟨17186168832, 17186169247, 1, 0⟩] [.pwr, .flt, .evc] s (State.werr s addr) := by
  unfold State.werr
  rw [h]
  show Fr _ _ s ((s.wr Reg.FLT_STATUS_WERR 1).fire 79)
  exact Fr.step State.fire_fr rfl rfl (Fr.wr (xs := [⟨17188257920, 17188257920, 1, 0⟩]) rfl rfl (Fr.refl s))

theorem State.werr_0x2005 {s addr} (h : addr / 65536 = 0x2005) : Fr [⟨17190355078, 17190361222, 2048, 0⟩, ⟨17181966336, 17181966336, 1, 0⟩, ⟨17181967360, 17181967360, 1, 0⟩, ⟨17186226581, 17186257301, 2048, 0⟩, ⟨17181966338, 17181966338, 1, 0⟩, ⟨17181966495, 17181966495, 1, 0⟩, ⟨17186168832, 17186169247, 1, 0⟩] [.pwr, .flt, .evc] s (State.werr s addr) := by
  unfold State.werr
  rw [h]
  show Fr _ _ s ((s.wr (Reg.CVU_STATUS_WERR (addr / 0x40 % 4)) 1).fire 103)
  exact Fr.step State.fire_fr rfl rfl (Fr.wr (xs := [⟨17190355078, 17190361222, 2048, 0⟩]) (Reg.CVU_STATUS_WERR_key (by omega)) rfl (Fr.refl s))

theorem State.werr_0x2006 {s addr} (h : addr / 65536 = 0x2006) : Fr [⟨17192452227, 17192452227, 1, 0⟩] [] s (State.werr s addr) := by
  unfold State.werr
  rw [h]
  show Fr _ _ s (s.wr Reg.MEMC_STATUS_WERR 1)
  exact Fr.wr (xs := [⟨17192452227, 17192452227, 1, 0⟩]) rfl rfl (Fr.refl s)

theorem State.werr_0x2007 {s addr} (h : addr / 65536 = 0x2007) : Fr [⟨17194549760, 17194549760, 1, 0⟩, ⟨17181966336, 17181966336, 1, 0⟩, ⟨17181967360, 17181967360, 1, 0⟩, ⟨17186226581, 17186257301, 2048, 0⟩, ⟨17181966338, 17181966338, 1, 0⟩, ⟨17181966495, 17181966495, 1, 0⟩, ⟨17186168832, 17186169247, 1, 0⟩] [.pwr, .flt, .evc] s (State.werr s addr) := by
  unfold State.werr
  rw [h]
  show Fr _ _ s ((s.wr Reg.WIN_STATUS_WERR 1).fire 100)
  exact Fr.step State.fire_fr rfl rfl (Fr.wr (xs := [⟨17194549760, 17194549760, 1, 0⟩]) rfl rfl (Fr.refl s))

theorem State.werr_0x2008 {s addr} (h : addr / 65536 = 0x2008) : Fr [⟨17196646535, 17196646535, 1, 0⟩, ⟨17181966336, 17181966336, 1, 0⟩, ⟨17181967360, 17181967360, 1, 0⟩, ⟨17186226581, 17186257301, 2048, 0⟩, ⟨17181966338, 17181966338, 1, 0⟩, ⟨17181966495, 17181966495, 1, 0⟩, ⟨17186168832, 17186169247, 1, 0⟩] [.pwr, .flt, .evc] s (State.werr s addr) := by
  unfold State.werr
  rw [h]
  show Fr _ _ s ((s.wr Reg.SA_STATUS_WERR 1).fire 15)
  exact Fr.step State.fire_fr rfl rfl (Fr.wr (xs := [⟨17196646535, 17196646535, 1, 0⟩]) rfl rfl (Fr.refl s))

theorem State.werr_0x2009 {s addr} (h : addr / 65536 = 0x2009) : Fr [⟨17198743704, 17198743704, 1, 0⟩, ⟨17181966336, 17181966336, 1, 0⟩, ⟨17181967360, 17181967360, 1, 0⟩, ⟨17186226581, 17186257301, 2048, 0⟩, ⟨17181966338, 17181966338, 1, 0⟩, ⟨17181966495, 17181966495, 1, 0⟩, ⟨17186168832, 17186169247, 1, 0⟩] [.pwr, .flt, .evc] s (State.werr s addr) := by
  unfold State.werr
  rw [h]
  show Fr _ _ s ((s.wr Reg.LAYER_STATUS_WERR 1).fire 6)
  exact Fr.step State.fire_fr rfl rfl (Fr.wr (xs := [⟨17198743704, 17198743704, 1, 0⟩]) rfl rfl (Fr.refl s))

theorem State.werr_0x200A {s addr} (h : addr / 65536 = 0x200A) : Fr [⟨17200840835, 17200840835, 1, 0⟩, ⟨17181966336, 17181966336, 1, 0⟩, ⟨17181967360, 17181967360, 1, 0⟩, ⟨17186226581, 17186257301, 2048, 0⟩, ⟨17181966338, 17181966338, 1, 0⟩, ⟨17181966495, 17181966495, 1, 0⟩, ⟨17186168832, 17186169247, 1, 0⟩] [.pwr, .flt, .evc] s (State.werr s addr) := by
  unfold State.werr
  rw [h]
  show Fr _ _ s ((s.wr Reg.FT_STATUS_WERR 1).fire 5)
  exact Fr.step State.fire_fr rfl rfl (Fr.wr (xs := [⟨17200840835, 17200840835, 1, 0⟩]) rfl rfl (Fr.refl s))

theorem State.werr_0x200B {s addr} (h : addr / 65536 = 0x200B) : Fr [⟨17202937995, 17204379787, 131072, 0⟩, ⟨17181966336, 17181966336, 1, 0⟩, ⟨17181967360, 17181967360, 1, 0⟩, ⟨17186226581, 17186257301, 2048, 0⟩, ⟨17181966338, 17181966338, 1, 0⟩, ⟨17181966495, 17181966495, 1, 0⟩, ⟨17186168832, 17186169247, 1, 0⟩] [.pwr, .flt, .evc] s (State.werr s addr) := by
  unfold State.werr
  rw [h]
  show Fr _ _ s ((s.wr (Reg.TL_STATUS_WERR (portOf addr)) 1).fire (17 + 2 * portOf addr))
  exact Fr.step State.fire_fr rfl rfl (Fr.wr (xs := [⟨17202937995, 17204379787, 131072, 0⟩]) (Reg.TL_STATUS_WERR_key (by unfold portOf; omega)) rfl (Fr.refl s))

theorem State.werr_0x200C {s addr} (h : addr / 65536 = 0x200C) : Fr [⟨17205035143, 17205149831, 8192, 0⟩, ⟨17181966336, 17181966336, 1, 0⟩, ⟨17181967360, 17181967360, 1, 0⟩, ⟨17186226581, 17186257301, 2048, 0⟩, ⟨17181966338, 17181966338, 1, 0⟩, ⟨17181966495, 17181966495, 1, 0⟩, ⟨17186168832, 17186169247, 1, 0⟩] [.pwr, .flt, .evc] s (State.werr s addr) := by
  unfold State.werr
  rw [h]
  show Fr _ _ s ((s.wr (Reg.LANE_STATUS_WERR (laneOf addr)) 1).fire 43)
  exact Fr.step State.fire_fr rfl rfl (Fr.wr (xs := [⟨17205035143, 17205149831, 8192, 0⟩]) (Reg.LANE_STATUS_WERR_key (by unfold laneOf; omega)) rfl (Fr.refl s))

theorem State.werr_0x200D {s addr} (h : addr / 65536 = 0x200D) : Fr [⟨17207132290, 17207132290, 1, 0⟩, ⟨17181966336, 17181966336, 1, 0⟩, ⟨17181967360, 17181967360, 1, 0⟩, ⟨17186226581, 17186257301, 2048, 0⟩, ⟨17181966338, 17181966338, 1, 0⟩, ⟨17181966495, 17181966495, 1, 0⟩, ⟨17186168832, 17186169247, 1, 0⟩] [.pwr, .flt, .evc] s (State.werr s addr) := by
  unfold State.werr
  rw [h]
  show Fr _ _ s ((s.wr Reg.HLTH_STATUS_WERR 1).fire 94)
  exact Fr.step State.fire_fr rfl rfl (Fr.wr (xs := [⟨17207132290, 17207132290, 1, 0⟩]) rfl rfl (Fr.refl s))

theorem State.werr_0x200E {s addr} (h : addr / 65536 = 0x200E) : Fr [⟨17209229446, 17209229446, 1, 0⟩, ⟨17181966336, 17181966336, 1, 0⟩, ⟨17181967360, 17181967360, 1, 0⟩, ⟨17186226581, 17186257301, 2048, 0⟩, ⟨17181966338, 17181966338, 1, 0⟩, ⟨17181966495, 17181966495, 1, 0⟩, ⟨17186168832, 17186169247, 1, 0⟩] [.pwr, .flt, .evc] s (State.werr s addr) := by
  unfold State.werr
  rw [h]
  show Fr _ _ s ((s.wr Reg.LSC_STATUS_WERR 1).fire 87)
  exact Fr.step State.fire_fr rfl rfl (Fr.wr (xs := [⟨17209229446, 17209229446, 1, 0⟩]) rfl rfl (Fr.refl s))

theorem State.werr_0x200F {s addr} (h : addr / 65536 = 0x200F) : Fr [⟨17211326593, 17211326593, 1, 0⟩, ⟨17181966336, 17181966336, 1, 0⟩, ⟨17181967360, 17181967360, 1, 0⟩, ⟨17186226581, 17186257301, 2048, 0⟩, ⟨17181966338, 17181966338, 1, 0⟩, ⟨17181966495, 17181966495, 1, 0⟩, ⟨17186168832, 17186169247, 1, 0⟩] [.pwr, .flt, .evc] s (State.werr s addr) := by
  unfold State.werr
  rw [h]
  show Fr _ _ s ((s.wr Reg.THM_STATUS_WERR 1).fire 83)
  exact Fr.step State.fire_fr rfl rfl (Fr.wr (xs := [⟨17211326593, 17211326593, 1, 0⟩]) rfl rfl (Fr.refl s))

theorem State.werr_0x2010 {s addr} (h : addr / 65536 = 0x2010) : Fr [⟨17213423750, 17213423750, 1, 0⟩, ⟨17181966336, 17181966336, 1, 0⟩, ⟨17181967360, 17181967360, 1, 0⟩, ⟨17186226581, 17186257301, 2048, 0⟩, ⟨17181966338, 17181966338, 1, 0⟩, ⟨17181966495, 17181966495, 1, 0⟩, ⟨17186168832, 17186169247, 1, 0⟩] [.pwr, .flt, .evc] s (State.werr s addr) := by
  unfold State.werr
  rw [h]
  show Fr _ _ s ((s.wr Reg.CAL_STATUS_WERR 1).fire 91)
  exact Fr.step State.fire_fr rfl rfl (Fr.wr (xs := [⟨17213423750, 17213423750, 1, 0⟩]) rfl rfl (Fr.refl s))

theorem State.werr_0x2011 {s addr} (h : addr / 65536 = 0x2011) : Fr [⟨17215520900, 17217618052, 2097152, 0⟩, ⟨17181966336, 17181966336, 1, 0⟩, ⟨17181967360, 17181967360, 1, 0⟩, ⟨17186226581, 17186257301, 2048, 0⟩, ⟨17181966338, 17181966338, 1, 0⟩, ⟨17181966495, 17181966495, 1, 0⟩, ⟨17186168832, 17186169247, 1, 0⟩] [.pwr, .flt, .evc] s (State.werr s addr) := by
  unfold State.werr
  rw [h]
  show Fr _ _ s ((s.wr (Reg.NET_STATUS_WERR 0) 1).fire 54)
  exact Fr.step State.fire_fr rfl rfl (Fr.wr (xs := [⟨17215520900, 17217618052, 2097152, 0⟩]) rfl rfl (Fr.refl s))

theorem State.werr_0x2012 {s addr} (h : addr / 65536 = 0x2012) : Fr [⟨17215520900, 17217618052, 2097152, 0⟩, ⟨17181966336, 17181966336, 1, 0⟩, ⟨17181967360, 17181967360, 1, 0⟩, ⟨17186226581, 17186257301, 2048, 0⟩, ⟨17181966338, 17181966338, 1, 0⟩, ⟨17181966495, 17181966495, 1, 0⟩, ⟨17186168832, 17186169247, 1, 0⟩] [.pwr, .flt, .evc] s (State.werr s addr) := by
  unfold State.werr
  rw [h]
  show Fr _ _ s ((s.wr (Reg.NET_STATUS_WERR 1) 1).fire 54)
  exact Fr.step State.fire_fr rfl rfl (Fr.wr (xs := [⟨17215520900, 17217618052, 2097152, 0⟩]) rfl rfl (Fr.refl s))

theorem State.werr_0x2013 {s addr} (h : addr / 65536 = 0x2013) : Fr [⟨17219715205, 17219715205, 1, 0⟩, ⟨17181966336, 17181966336, 1, 0⟩, ⟨17181967360, 17181967360, 1, 0⟩, ⟨17186226581, 17186257301, 2048, 0⟩, ⟨17181966338, 17181966338, 1, 0⟩, ⟨17181966495, 17181966495, 1, 0⟩, ⟨17186168832, 17186169247, 1, 0⟩] [.pwr, .flt, .evc] s (State.werr s addr) := by
  unfold State.werr
  rw [h]
  show Fr _ _ s ((s.wr Reg.TIME_STATUS_WERR 1).fire 62)
  exact Fr.step State.fire_fr rfl rfl (Fr.wr (xs := [⟨17219715205, 17219715205, 1, 0⟩]) rfl rfl (Fr.refl s))

theorem State.werr_0x2014 {s addr} (h : addr / 65536 = 0x2014) : Fr [⟨17221812365, 17221812365, 1, 0⟩, ⟨17181966336, 17181966336, 1, 0⟩, ⟨17181967360, 17181967360, 1, 0⟩, ⟨17186226581, 17186257301, 2048, 0⟩, ⟨17181966338, 17181966338, 1, 0⟩, ⟨17181966495, 17181966495, 1, 0⟩, ⟨17186168832, 17186169247, 1, 0⟩] [.pwr, .flt, .evc] s (State.werr s addr) := by
  unfold State.werr
  rw [h]
  show Fr _ _ s ((s.wr Reg.SAFE_STATUS_WERR 1).fire 71)
  exact Fr.step State.fire_fr rfl rfl (Fr.wr (xs := [⟨17221812365, 17221812365, 1, 0⟩]) rfl rfl (Fr.refl s))

theorem State.werr_0x2015 {s addr} (h : addr / 65536 = 0x2015) : Fr [⟨17223909512, 17223909512, 1, 0⟩, ⟨17181966336, 17181966336, 1, 0⟩, ⟨17181967360, 17181967360, 1, 0⟩, ⟨17186226581, 17186257301, 2048, 0⟩, ⟨17181966338, 17181966338, 1, 0⟩, ⟨17181966495, 17181966495, 1, 0⟩, ⟨17186168832, 17186169247, 1, 0⟩] [.pwr, .flt, .evc] s (State.werr s addr) := by
  unfold State.werr
  rw [h]
  show Fr _ _ s ((s.wr Reg.PAIR_STATUS_WERR 1).fire 110)
  exact Fr.step State.fire_fr rfl rfl (Fr.wr (xs := [⟨17223909512, 17223909512, 1, 0⟩]) rfl rfl (Fr.refl s))

theorem State.werr_0x2016 {s addr} (h : addr / 65536 = 0x2016) : Fr [⟨17226006659, 17226006659, 1, 0⟩] [] s (State.werr s addr) := by
  unfold State.werr
  rw [h]
  show Fr _ _ s (s.wr Reg.CRYPTO_STATUS_WERR 1)
  exact Fr.wr (xs := [⟨17226006659, 17226006659, 1, 0⟩]) rfl rfl (Fr.refl s)

theorem State.werr_0x2017 {s addr} (h : addr / 65536 = 0x2017) : Fr [⟨17228136578, 17228136578, 1, 0⟩] [] s (State.werr s addr) := by
  unfold State.werr
  rw [h]
  show Fr _ _ s (if 0x20170400 ≤ addr ∧ addr < 0x20170500 then s.wr Reg.SPI_STATUS_WERR 1 else s)
  exact Fr.ite (Fr.wr (xs := [⟨17228136578, 17228136578, 1, 0⟩]) rfl rfl (Fr.refl s)) (Fr.refl s)

theorem State.werr_0x2018 {s addr} (h : addr / 65536 = 0x2018) : Fr [⟨17230200963, 17230200963, 1, 0⟩, ⟨17181966336, 17181966336, 1, 0⟩, ⟨17181967360, 17181967360, 1, 0⟩, ⟨17186226581, 17186257301, 2048, 0⟩, ⟨17181966338, 17181966338, 1, 0⟩, ⟨17181966495, 17181966495, 1, 0⟩, ⟨17186168832, 17186169247, 1, 0⟩] [.pwr, .flt, .evc] s (State.werr s addr) := by
  unfold State.werr
  rw [h]
  show Fr _ _ s (if addr < 0x20180100 then (s.wr Reg.MASKIN_STATUS_WERR 1).fire 9 else s)
  exact Fr.ite (Fr.step State.fire_fr rfl rfl (Fr.wr (xs := [⟨17230200963, 17230200963, 1, 0⟩]) rfl rfl (Fr.refl s))) (Fr.refl s)

theorem State.werr_net {s addr} (h : addr / 65536 = 0x2011 ∨ addr / 65536 = 0x2012) : Fr [⟨17215520900, 17217618052, 2097152, 0⟩, ⟨17181966336, 17181966336, 1, 0⟩, ⟨17181967360, 17181967360, 1, 0⟩, ⟨17186226581, 17186257301, 2048, 0⟩, ⟨17181966338, 17181966338, 1, 0⟩, ⟨17181966495, 17181966495, 1, 0⟩, ⟨17186168832, 17186169247, 1, 0⟩] [.pwr, .flt, .evc] s (State.werr s addr) := by
  rcases h with h | h
  · exact Fr.step (State.werr_0x2011 h) rfl rfl (Fr.refl s)
  · exact Fr.step (State.werr_0x2012 h) rfl rfl (Fr.refl s)

theorem State.werr_i2c {s addr} (h : addr / 65536 = 0x2017 ∨ addr / 65536 = 0x2018) : Fr [⟨17228136578, 17228136578, 1, 0⟩, ⟨17230200963, 17230200963, 1, 0⟩, ⟨17181966336, 17181966336, 1, 0⟩, ⟨17181967360, 17181967360, 1, 0⟩, ⟨17186226581, 17186257301, 2048, 0⟩, ⟨17181966338, 17181966338, 1, 0⟩, ⟨17181966495, 17181966495, 1, 0⟩, ⟨17186168832, 17186169247, 1, 0⟩] [.pwr, .flt, .evc] s (State.werr s addr) := by
  rcases h with h | h
  · exact Fr.step (State.werr_0x2017 h) rfl rfl (Fr.refl s)
  · exact Fr.step (State.werr_0x2018 h) rfl rfl (Fr.refl s)

theorem State.werr_fr {s addr} : Fr [⟨0, 137438953471, 1, 0⟩] [.pwr, .flt, .evc] s (State.werr s addr) := by
  unfold State.werr
  have hw : ∀ f v, Fr [⟨0, 137438953471, 1, 0⟩] [.pwr, .flt, .evc] s (s.wr f v) := fun f v => Fr.wrAll rfl (Fr.refl s)
  have hf : ∀ f v n, Fr [⟨0, 137438953471, 1, 0⟩] [.pwr, .flt, .evc] s ((s.wr f v).fire n) := fun f v n => Fr.step State.fire_fr rfl rfl (hw f v)
  split
  · exact hw _ _
  · exact hf _ _ _
  · exact hf _ _ _
  · exact hw _ _
  · exact hf _ _ _
  · exact hf _ _ _
  · exact hw _ _
  · exact hf _ _ _
  · exact hf _ _ _
  · exact hf _ _ _
  · exact hf _ _ _
  · exact hf _ _ _
  · exact hf _ _ _
  · exact hf _ _ _
  · exact hf _ _ _
  · exact hf _ _ _
  · exact hf _ _ _
  · exact hf _ _ _
  · exact hf _ _ _
  · exact hf _ _ _
  · exact hf _ _ _
  · exact hf _ _ _
  · exact hw _ _
  · exact Fr.ite (hw _ _) (Fr.refl s)
  · exact Fr.ite (hf _ _ _) (Fr.refl s)
  · exact Fr.refl s
/-- Every WERR flag, and what an event changes. -/
def werrKeys : List Keys := [⟨17181966336, 17181966336, 1, 0⟩, ⟨17181967360, 17181967360, 1, 0⟩, ⟨17186226581, 17186257301, 2048, 0⟩, ⟨17181966338, 17181966338, 1, 0⟩, ⟨17181966495, 17181966495, 1, 0⟩, ⟨17186168832, 17186169247, 1, 0⟩, ⟨17179870850, 17179870850, 1, 0⟩, ⟨17181966337, 17181966337, 1, 0⟩, ⟨17184063872, 17184063872, 1, 0⟩, ⟨17186160640, 17186160640, 1, 0⟩, ⟨17188257920, 17188257920, 1, 0⟩, ⟨17190355078, 17190361222, 2048, 0⟩, ⟨17192452227, 17192452227, 1, 0⟩, ⟨17194549760, 17194549760, 1, 0⟩, ⟨17196646535, 17196646535, 1, 0⟩, ⟨17198743704, 17198743704, 1, 0⟩, ⟨17200840835, 17200840835, 1, 0⟩, ⟨17202937995, 17204379787, 131072, 0⟩, ⟨17205035143, 17205149831, 8192, 0⟩, ⟨17207132290, 17207132290, 1, 0⟩, ⟨17209229446, 17209229446, 1, 0⟩, ⟨17211326593, 17211326593, 1, 0⟩, ⟨17213423750, 17213423750, 1, 0⟩, ⟨17215520900, 17217618052, 2097152, 0⟩, ⟨17219715205, 17219715205, 1, 0⟩, ⟨17221812365, 17221812365, 1, 0⟩, ⟨17223909512, 17223909512, 1, 0⟩, ⟨17226006659, 17226006659, 1, 0⟩, ⟨17228136578, 17228136578, 1, 0⟩, ⟨17230200963, 17230200963, 1, 0⟩]

theorem State.werr_within {s addr} : Fr werrKeys [.pwr, .flt, .evc] s (State.werr s addr) := by
  refine dite (addr / 65536 = 0x2000) (fun h => Fr.step (State.werr_0x2000 h) rfl rfl (Fr.refl s)) (fun _ => ?_)
  refine dite (addr / 65536 = 0x2001) (fun h => Fr.step (State.werr_0x2001 h) rfl rfl (Fr.refl s)) (fun _ => ?_)
  refine dite (addr / 65536 = 0x2002) (fun h => Fr.step (State.werr_0x2002 h) rfl rfl (Fr.refl s)) (fun _ => ?_)
  refine dite (addr / 65536 = 0x2003) (fun h => Fr.step (State.werr_0x2003 h) rfl rfl (Fr.refl s)) (fun _ => ?_)
  refine dite (addr / 65536 = 0x2004) (fun h => Fr.step (State.werr_0x2004 h) rfl rfl (Fr.refl s)) (fun _ => ?_)
  refine dite (addr / 65536 = 0x2005) (fun h => Fr.step (State.werr_0x2005 h) rfl rfl (Fr.refl s)) (fun _ => ?_)
  refine dite (addr / 65536 = 0x2006) (fun h => Fr.step (State.werr_0x2006 h) rfl rfl (Fr.refl s)) (fun _ => ?_)
  refine dite (addr / 65536 = 0x2007) (fun h => Fr.step (State.werr_0x2007 h) rfl rfl (Fr.refl s)) (fun _ => ?_)
  refine dite (addr / 65536 = 0x2008) (fun h => Fr.step (State.werr_0x2008 h) rfl rfl (Fr.refl s)) (fun _ => ?_)
  refine dite (addr / 65536 = 0x2009) (fun h => Fr.step (State.werr_0x2009 h) rfl rfl (Fr.refl s)) (fun _ => ?_)
  refine dite (addr / 65536 = 0x200A) (fun h => Fr.step (State.werr_0x200A h) rfl rfl (Fr.refl s)) (fun _ => ?_)
  refine dite (addr / 65536 = 0x200B) (fun h => Fr.step (State.werr_0x200B h) rfl rfl (Fr.refl s)) (fun _ => ?_)
  refine dite (addr / 65536 = 0x200C) (fun h => Fr.step (State.werr_0x200C h) rfl rfl (Fr.refl s)) (fun _ => ?_)
  refine dite (addr / 65536 = 0x200D) (fun h => Fr.step (State.werr_0x200D h) rfl rfl (Fr.refl s)) (fun _ => ?_)
  refine dite (addr / 65536 = 0x200E) (fun h => Fr.step (State.werr_0x200E h) rfl rfl (Fr.refl s)) (fun _ => ?_)
  refine dite (addr / 65536 = 0x200F) (fun h => Fr.step (State.werr_0x200F h) rfl rfl (Fr.refl s)) (fun _ => ?_)
  refine dite (addr / 65536 = 0x2010) (fun h => Fr.step (State.werr_0x2010 h) rfl rfl (Fr.refl s)) (fun _ => ?_)
  refine dite (addr / 65536 = 0x2011) (fun h => Fr.step (State.werr_0x2011 h) rfl rfl (Fr.refl s)) (fun _ => ?_)
  refine dite (addr / 65536 = 0x2012) (fun h => Fr.step (State.werr_0x2012 h) rfl rfl (Fr.refl s)) (fun _ => ?_)
  refine dite (addr / 65536 = 0x2013) (fun h => Fr.step (State.werr_0x2013 h) rfl rfl (Fr.refl s)) (fun _ => ?_)
  refine dite (addr / 65536 = 0x2014) (fun h => Fr.step (State.werr_0x2014 h) rfl rfl (Fr.refl s)) (fun _ => ?_)
  refine dite (addr / 65536 = 0x2015) (fun h => Fr.step (State.werr_0x2015 h) rfl rfl (Fr.refl s)) (fun _ => ?_)
  refine dite (addr / 65536 = 0x2016) (fun h => Fr.step (State.werr_0x2016 h) rfl rfl (Fr.refl s)) (fun _ => ?_)
  refine dite (addr / 65536 = 0x2017) (fun h => Fr.step (State.werr_0x2017 h) rfl rfl (Fr.refl s)) (fun _ => ?_)
  refine dite (addr / 65536 = 0x2018) (fun h => Fr.step (State.werr_0x2018 h) rfl rfl (Fr.refl s)) (fun _ => ?_)
  unfold State.werr
  split <;> first | contradiction | exact Fr.refl s

theorem State.storeField_fr {s m en acc cl row f w} {x : Keys} (hk : Keys.any [x] f.key = true) : Fr [x] [] s (State.storeField s m en acc cl row f w).1 := by
  have hb : subN [x] [x] = true := subN_refl _
  unfold State.storeField
  extract_lets v
  split
  · exact Fr.refl _
  · split
    · exact Fr.refl _
    · split
      · exact Fr.wr hk hb (Fr.refl _)
      · exact Fr.refl _
    · split
      · exact Fr.wr hk hb (Fr.refl _)
      · exact Fr.refl _
    · exact Fr.wr hk hb (Fr.refl _)
    · split
      · exact Fr.wr hk hb (Fr.refl _)
      · split
        · exact Fr.refl _
        · exact Fr.wr hk hb (Fr.refl _)
      · split
        · exact Fr.refl _
        · exact Fr.wr hk hb (Fr.refl _)

/-- Every field of a row lies within its register. -/
def FieldDesc.fits (d : FieldDesc) : Bool := d.n == 0 || decide (d.lo + (d.n - 1) * d.step < 32)

theorem regTable_fits : regTable.all (fun r => r.fields.all FieldDesc.fits) = true := by decide +kernel

theorem FieldDesc.fits_lt {d : FieldDesc} (h : d.fits = true) {i : Nat} (hi : i < d.n) : d.lo + i * d.step < 32 := by
  simp only [FieldDesc.fits, Bool.or_eq_true, beq_iff_eq, decide_eq_true_eq] at h
  rcases h with h | h
  · omega
  · have : i * d.step ≤ (d.n - 1) * d.step := Nat.mul_le_mul_right _ (by omega)
    omega

theorem State.storeDesc_fr {s m en addr w d} {x : Keys} {r : State × Bool} (hd : FieldDesc.fits d = true) (hx : x.word addr)
    (h : Fr [x] [] s r.1) : Fr [x] [] s (State.storeDesc m en addr w r d).1 := by
  unfold State.storeDesc
  have key : ∀ (l : List Nat), (∀ i ∈ l, i < d.n) → ∀ r : State × Bool, Fr [x] [] s r.1 → Fr [x] [] s (l.foldl (fun r i =>
      let q := r.1.storeField m en d.acc d.cls d.row (d.fld addr i) w
      (q.1, r.2 || q.2)) r).1 := by
    intro l
    induction l with
    | nil => intro _ r h; exact h
    | cons i l ih =>
      intro hl r h
      refine ih (fun j hj => hl j (List.mem_cons_of_mem _ hj)) _ ?_
      refine Fr.step (State.storeField_fr (Keys.any_one (hx.has ?_ (FieldDesc.fits_lt hd (hl i (List.mem_cons_self ..)))))) (subN_refl _) rfl h
      rfl
  exact key _ (fun i hi => List.mem_range.1 hi) r h

theorem domFld_key {d : Nat} : Keys.any [⟨17181966592, 17181966622, 2, 0⟩, ⟨17181966720, 17181966750, 2, 0⟩] (domFld d).key = true := by
  unfold domFld
  exact dite (d < 16) (fun h => by rw [if_pos h]; exact Keys.any_append_left (Reg.PWRCTL_STATE0_key (by omega)))
    (fun h => by rw [if_neg h]; exact Keys.any_append_right (xs := [⟨17181966592, 17181966622, 2, 0⟩]) (Reg.PWRCTL_STATE1_key (by omega)))

theorem State.storeWord_fr {s m addr w} {x : Keys} {wb : List Keys} {wz : List Zone} (hx : x.word addr) (hw : ∀ u : State, Fr wb wz u (u.werr addr)) :
    Fr (x :: wb) wz s (State.storeWord s m addr w) := by
  unfold State.storeWord
  split
  · exact Fr.refl _
  · rename_i r hr
    have hm : r ∈ regTable := List.mem_of_find?_eq_some hr
    have hf := List.all_eq_true.1 regTable_fits r hm
    have key : ∀ (l : List FieldDesc), (∀ d ∈ l, d.fits = true) → ∀ q : State × Bool, Fr [x] [] s q.1 →
        Fr [x] [] s (l.foldl (State.storeDesc m (s.blockOn addr) addr w) q).1 := by
      intro l
      induction l with
      | nil => intro _ q h; exact h
      | cons d l ih =>
        intro hl q h
        exact ih (fun e he => hl e (List.mem_cons_of_mem _ he)) _ (State.storeDesc_fr (hl d (List.mem_cons_self ..)) hx h)
    have h := key r.fields (List.all_eq_true.1 hf) (s, false) (Fr.refl s)
    have hb : subN [x] (x :: wb) = true := subN_head _ _
    extract_lets q
    split
    · exact Fr.step (hw _) (subN_tail _ _) (subZ_refl _) (Fr.step h hb (subZ_nil _) (Fr.refl s))
    · exact Fr.step h hb (subZ_nil _) (Fr.refl s)

theorem State.mirror_fr {s} {a1} {a2} : Fr [] [.pair] s (State.mirror s a1 a2) := by
  unfold State.mirror
  refine Fr.iteh (fun _ => ?_) (fun _ => ?_)
  · refine Fr.set_pair rfl ?_
    first | assumption | exact Fr.refl _
  · first | assumption | exact Fr.refl _

theorem State.xingLost_fr {s} {a1} : Fr [⟨17181966336, 17181966336, 1, 0⟩, ⟨17181967360, 17181967360, 1, 0⟩, ⟨17186226581, 17186257301, 2048, 0⟩, ⟨17181966338, 17181966338, 1, 0⟩, ⟨17181966495, 17181966495, 1, 0⟩, ⟨17186168832, 17186169247, 1, 0⟩, ⟨17181967232, 17181967263, 1, 0⟩] [.pwr, .flt, .evc] s (State.xingLost s a1) := by
  unfold State.xingLost
  refine Fr.step State.fire_fr rfl rfl ?_
  refine Fr.step State.raise_fr rfl rfl ?_
  refine Fr.wr (xs := [⟨17181967232, 17181967263, 1, 0⟩]) (Reg.PWRCTL_XING_key (by first | omega | (simp only [List.mem_range] at *; omega))) rfl ?_
  first | assumption | exact Fr.refl _

theorem State.closedCrossing_fr {s} {a1} {a2} {a3} {a4} : Fr [⟨17188261632, 17188261632, 1, 0⟩, ⟨17181966336, 17181966336, 1, 0⟩, ⟨17181967360, 17181967360, 1, 0⟩, ⟨17186226581, 17186257301, 2048, 0⟩, ⟨17181966338, 17181966338, 1, 0⟩, ⟨17181966495, 17181966495, 1, 0⟩, ⟨17186168832, 17186169247, 1, 0⟩, ⟨17181967232, 17181967263, 1, 0⟩] [.flt, .pwr, .evc] s (State.closedCrossing s a1 a2 a3 a4) := by
  unfold State.closedCrossing
  refine Fr.iteh (fun _ => ?_) (fun _ => ?_)
  · refine Fr.step State.busErr_fr rfl rfl ?_
    first | assumption | exact Fr.refl _
  · refine Fr.step State.xingLost_fr rfl rfl ?_
    refine Fr.step State.busErr_fr rfl rfl ?_
    first | assumption | exact Fr.refl _

theorem State.accErr_fr {s} {a1} {a2} {a3} : Fr [⟨17188261632, 17188261632, 1, 0⟩, ⟨17181966336, 17181966336, 1, 0⟩, ⟨17181967360, 17181967360, 1, 0⟩, ⟨17186226581, 17186257301, 2048, 0⟩, ⟨17181966338, 17181966338, 1, 0⟩, ⟨17181966495, 17181966495, 1, 0⟩, ⟨17186168832, 17186169247, 1, 0⟩, ⟨17181967232, 17181967263, 1, 0⟩] [.flt, .pwr, .evc] s (State.accErr s a1 a2 a3) := by
  unfold State.accErr
  refine Fr.iteh (fun _ => ?_) (fun _ => ?_)
  · refine Fr.step State.busErr_fr rfl rfl ?_
    first | assumption | exact Fr.refl _
  · refine Fr.step State.closedCrossing_fr rfl rfl ?_
    first | assumption | exact Fr.refl _

theorem busWrite_fr {bs zs} {s t : State} {m addr w act} {x : Keys} {wb : List Keys} {wz : List Zone} (hx : x.word addr)
    (hw : ∀ u : State, Fr wb wz u (u.werr addr)) (hb : subN (x :: wb ++ [⟨17188261632, 17188261632, 1, 0⟩, ⟨17181966336, 17181966336, 1, 0⟩, ⟨17181967360, 17181967360, 1, 0⟩, ⟨17186226581, 17186257301, 2048, 0⟩, ⟨17181966338, 17181966338, 1, 0⟩, ⟨17181966495, 17181966495, 1, 0⟩, ⟨17186168832, 17186169247, 1, 0⟩, ⟨17181967232, 17181967263, 1, 0⟩]) bs = true)
    (hz : subZ ([.flt, .evc, .pwr, .pair] ++ wz) zs = true) (h : Fr bs zs s t) (hact : ∀ u, Fr bs zs s u → Fr bs zs s (act u)) :
    Fr bs zs s (State.busWrite t m addr w act) := by
  have hb1 : subN (x :: wb) bs = true := (subN_append hb).1
  have hb2 := (subN_append hb).2
  have hz1 := (subZ_append hz).1
  have hz2 := (subZ_append hz).2
  have hw' : ∀ u : State, Fr bs zs s u → Fr bs zs s (u.werr addr) := fun u hu => Fr.step (hw u) (subN_cons hb1) hz2 hu
  have zsub : ∀ l : List Zone, subZ l [.flt, .evc, .pwr, .pair] = true → subZ l zs = true := fun l hl => subZ_trans hl hz1
  unfold State.busWrite
  refine Fr.ite ?_ (Fr.ite ?_ (Fr.ite ?_ ?_))
  · exact Fr.step State.closedCrossing_fr hb2 (zsub _ rfl) h
  · exact Fr.step (Fr.step State.busErr_fr rfl rfl (Fr.refl t) : Fr [⟨17188261632, 17188261632, 1, 0⟩, ⟨17181966336, 17181966336, 1, 0⟩, ⟨17181967360, 17181967360, 1, 0⟩, ⟨17186226581, 17186257301, 2048, 0⟩, ⟨17181966338, 17181966338, 1, 0⟩, ⟨17181966495, 17181966495, 1, 0⟩, ⟨17186168832, 17186169247, 1, 0⟩, ⟨17181967232, 17181967263, 1, 0⟩] [.flt, .evc, .pwr, .pair] t _) hb2 hz1 h
  · exact hw' _ h
  · exact hact _ (Fr.step State.mirror_fr rfl (zsub _ rfl) (Fr.step (State.storeWord_fr hx hw) hb1 hz2 h))

theorem busWrite_fr2 {bs zs} {s t : State} {m addr w act} {x y : Keys} {wb : List Keys} {wz : List Zone} (hx : x.word addr ∨ y.word addr)
    (hw : ∀ u : State, Fr wb wz u (u.werr addr)) (hb : subN (x :: wb ++ [⟨17188261632, 17188261632, 1, 0⟩, ⟨17181966336, 17181966336, 1, 0⟩, ⟨17181967360, 17181967360, 1, 0⟩, ⟨17186226581, 17186257301, 2048, 0⟩, ⟨17181966338, 17181966338, 1, 0⟩, ⟨17181966495, 17181966495, 1, 0⟩, ⟨17186168832, 17186169247, 1, 0⟩, ⟨17181967232, 17181967263, 1, 0⟩]) bs = true) (hy : subN [y] bs = true)
    (hz : subZ ([.flt, .evc, .pwr, .pair] ++ wz) zs = true) (h : Fr bs zs s t) (hact : ∀ u, Fr bs zs s u → Fr bs zs s (act u)) :
    Fr bs zs s (State.busWrite t m addr w act) := by
  rcases hx with hx | hx
  · exact busWrite_fr hx hw hb hz h hact
  · refine busWrite_fr hx hw ?_ hz h hact
    simp only [subN, List.cons_append, List.all_cons, Bool.and_eq_true, List.all_nil] at hb hy ⊢
    exact ⟨hy.1, hb.2⟩

theorem busWrite_frAll {zs} {s t : State} {m addr w act} (ha : addr < 2 ^ 32)
    (hz : subZ [.flt, .evc, .pwr, .pair] zs = true) (h : Fr [⟨0, 137438953471, 1, 0⟩] zs s t) (hact : ∀ u, Fr [⟨0, 137438953471, 1, 0⟩] zs s u → Fr [⟨0, 137438953471, 1, 0⟩] zs s (act u)) :
    Fr [⟨0, 137438953471, 1, 0⟩] zs s (State.busWrite t m addr w act) := by
  refine busWrite_fr (x := ⟨addr * 32, addr * 32 + 31, 32, 31⟩) (Keys.word_intro (by omega) (by omega) (by omega)) (fun u => State.werr_fr) ?_ ?_ h hact
  · have : Keys.le ⟨addr * 32, addr * 32 + 31, 32, 31⟩ ⟨0, 137438953471, 1, 0⟩ = true := by
      simp only [Keys.le, Bool.or_eq_true, Bool.and_eq_true, Nat.ble_eq]
      exact Or.inl ⟨rfl, by omega, by omega⟩
    simp only [subN, List.cons_append, List.all_cons, Bool.and_eq_true]
    exact ⟨by simp only [List.any_cons, this, Bool.true_or], rfl, rfl⟩
  · simp only [List.cons_append, List.nil_append]
    exact subZ_trans (b := [.flt, .evc, .pwr, .pair]) rfl hz

theorem State.calBroken_fr {s} : Fr [] [.cal] s (State.calBroken s) := by
  unfold State.calBroken
  refine Fr.set_cal rfl ?_
  first | assumption | exact Fr.refl _

theorem State.newNonce_fr {s} : Fr [⟨17179870208, 17179870592, 128, 0⟩] [.free] s (State.newNonce s) := by
  unfold State.newNonce
  refine Fr.iteh (fun _ => ?_) (fun _ => ?_)
  · first | assumption | exact Fr.refl _
  · refine Fr.forFin ?_ (fun i t ht => ?_)
    · first | assumption | exact Fr.refl _
    · refine Fr.wr (xs := [⟨17179870208, 17179870592, 128, 0⟩]) (Reg.SYSCTL_NONCE_NONCE_key (by first | omega | (simp only [List.mem_range] at *; omega))) rfl ?_
      refine Fr.step State.fresh_fr rfl rfl ?_
      first | assumption | exact Fr.refl _

theorem State.nextRandom_fr {s} : Fr [⟨17226012672, 17226012672, 1, 0⟩] [.free] s (State.nextRandom s) := by
  unfold State.nextRandom
  refine Fr.iteh (fun _ => ?_) (fun _ => ?_)
  · refine Fr.wr (xs := [⟨17226012672, 17226012672, 1, 0⟩]) rfl rfl ?_
    first | assumption | exact Fr.refl _
  · refine Fr.wr (xs := [⟨17226012672, 17226012672, 1, 0⟩]) rfl rfl ?_
    refine Fr.step State.fresh_fr rfl rfl ?_
    first | assumption | exact Fr.refl _

theorem State.readErr_fr {s} {a1} {a2} : Fr [⟨17188261632, 17188261632, 1, 0⟩, ⟨17181966336, 17181966336, 1, 0⟩, ⟨17181967360, 17181967360, 1, 0⟩, ⟨17186226581, 17186257301, 2048, 0⟩, ⟨17181966338, 17181966338, 1, 0⟩, ⟨17181966495, 17181966495, 1, 0⟩, ⟨17186168832, 17186169247, 1, 0⟩, ⟨17181967232, 17181967263, 1, 0⟩] [.flt, .pwr, .evc] s (State.readErr s a1 a2) := by
  unfold State.readErr
  refine Fr.iteh (fun _ => ?_) (fun _ => ?_)
  · first | assumption | exact Fr.refl _
  · refine Fr.step State.accErr_fr rfl rfl ?_
    first | assumption | exact Fr.refl _

end Sys2Proof.Machine
end

