-- ==== Sys2Proof/Laws/State.lean ====
section
/-! SUPPORT. One lemma for each field of the state and each update: what a write of a register field, of a live copy, of a byte, or a new
value of one block leaves as it was. No later proof unfolds a record update. -/

namespace Sys2Proof.Machine

/-! A register field, a live copy, a byte. -/

@[simp] theorem State.wr_part (s : State) (f : Fld) (v : Nat) : (s.wr f v).part = s.part := rfl
@[simp] theorem State.wr_sa (s : State) (f : Fld) (v : Nat) : (s.wr f v).sa = s.sa := rfl
@[simp] theorem State.wr_layer (s : State) (f : Fld) (v : Nat) : (s.wr f v).layer = s.layer := rfl
@[simp] theorem State.wr_maskin (s : State) (f : Fld) (v : Nat) : (s.wr f v).maskin = s.maskin := rfl
@[simp] theorem State.wr_ft (s : State) (f : Fld) (v : Nat) : (s.wr f v).ft = s.ft := rfl
@[simp] theorem State.wr_tl (s : State) (f : Fld) (v : Nat) : (s.wr f v).tl = s.tl := rfl
@[simp] theorem State.wr_lane (s : State) (f : Fld) (v : Nat) : (s.wr f v).lane = s.lane := rfl
@[simp] theorem State.wr_hlth (s : State) (f : Fld) (v : Nat) : (s.wr f v).hlth = s.hlth := rfl
@[simp] theorem State.wr_lsc (s : State) (f : Fld) (v : Nat) : (s.wr f v).lsc = s.lsc := rfl
@[simp] theorem State.wr_thm (s : State) (f : Fld) (v : Nat) : (s.wr f v).thm = s.thm := rfl
@[simp] theorem State.wr_cal (s : State) (f : Fld) (v : Nat) : (s.wr f v).cal = s.cal := rfl
@[simp] theorem State.wr_time (s : State) (f : Fld) (v : Nat) : (s.wr f v).time = s.time := rfl
@[simp] theorem State.wr_net (s : State) (f : Fld) (v : Nat) : (s.wr f v).net = s.net := rfl
@[simp] theorem State.wr_safe (s : State) (f : Fld) (v : Nat) : (s.wr f v).safe = s.safe := rfl
@[simp] theorem State.wr_flt (s : State) (f : Fld) (v : Nat) : (s.wr f v).flt = s.flt := rfl
@[simp] theorem State.wr_evc (s : State) (f : Fld) (v : Nat) : (s.wr f v).evc = s.evc := rfl
@[simp] theorem State.wr_peri (s : State) (f : Fld) (v : Nat) : (s.wr f v).peri = s.peri := rfl
@[simp] theorem State.wr_cvu (s : State) (f : Fld) (v : Nat) : (s.wr f v).cvu = s.cvu := rfl
@[simp] theorem State.wr_memc (s : State) (f : Fld) (v : Nat) : (s.wr f v).memc = s.memc := rfl
@[simp] theorem State.wr_win (s : State) (f : Fld) (v : Nat) : (s.wr f v).win = s.win := rfl
@[simp] theorem State.wr_pair (s : State) (f : Fld) (v : Nat) : (s.wr f v).pair = s.pair := rfl
@[simp] theorem State.wr_pwr (s : State) (f : Fld) (v : Nat) : (s.wr f v).pwr = s.pwr := rfl
@[simp] theorem State.wr_ident (s : State) (f : Fld) (v : Nat) : (s.wr f v).ident = s.ident := rfl
@[simp] theorem State.wr_live (s : State) (f : Fld) (v : Nat) : (s.wr f v).live = s.live := rfl
@[simp] theorem State.wr_mem (s : State) (f : Fld) (v : Nat) : (s.wr f v).mem = s.mem := rfl
@[simp] theorem State.wr_dramGen (s : State) (f : Fld) (v : Nat) : (s.wr f v).dramGen = s.dramGen := rfl
@[simp] theorem State.wr_freeCtr (s : State) (f : Fld) (v : Nat) : (s.wr f v).freeCtr = s.freeCtr := rfl
@[simp] theorem State.wr_now (s : State) (f : Fld) (v : Nat) : (s.wr f v).now = s.now := rfl
@[simp] theorem State.wr_pending (s : State) (f : Fld) (v : Nat) : (s.wr f v).pending = s.pending := rfl
@[simp] theorem State.wr_lv (s : State) (f : Fld) (v : Nat) (g : Fld) : (s.wr f v).lv g = s.lv g := rfl
@[simp] theorem State.wr_byte (s : State) (f : Fld) (v : Nat) (j : Nat) : (s.wr f v).byte j = s.byte j := rfl

@[simp] theorem State.wrB_part (s : State) (f : Fld) (v : Bool) : (s.wrB f v).part = s.part := rfl
@[simp] theorem State.wrB_sa (s : State) (f : Fld) (v : Bool) : (s.wrB f v).sa = s.sa := rfl
@[simp] theorem State.wrB_layer (s : State) (f : Fld) (v : Bool) : (s.wrB f v).layer = s.layer := rfl
@[simp] theorem State.wrB_maskin (s : State) (f : Fld) (v : Bool) : (s.wrB f v).maskin = s.maskin := rfl
@[simp] theorem State.wrB_ft (s : State) (f : Fld) (v : Bool) : (s.wrB f v).ft = s.ft := rfl
@[simp] theorem State.wrB_tl (s : State) (f : Fld) (v : Bool) : (s.wrB f v).tl = s.tl := rfl
@[simp] theorem State.wrB_lane (s : State) (f : Fld) (v : Bool) : (s.wrB f v).lane = s.lane := rfl
@[simp] theorem State.wrB_hlth (s : State) (f : Fld) (v : Bool) : (s.wrB f v).hlth = s.hlth := rfl
@[simp] theorem State.wrB_lsc (s : State) (f : Fld) (v : Bool) : (s.wrB f v).lsc = s.lsc := rfl
@[simp] theorem State.wrB_thm (s : State) (f : Fld) (v : Bool) : (s.wrB f v).thm = s.thm := rfl
@[simp] theorem State.wrB_cal (s : State) (f : Fld) (v : Bool) : (s.wrB f v).cal = s.cal := rfl
@[simp] theorem State.wrB_time (s : State) (f : Fld) (v : Bool) : (s.wrB f v).time = s.time := rfl
@[simp] theorem State.wrB_net (s : State) (f : Fld) (v : Bool) : (s.wrB f v).net = s.net := rfl
@[simp] theorem State.wrB_safe (s : State) (f : Fld) (v : Bool) : (s.wrB f v).safe = s.safe := rfl
@[simp] theorem State.wrB_flt (s : State) (f : Fld) (v : Bool) : (s.wrB f v).flt = s.flt := rfl
@[simp] theorem State.wrB_evc (s : State) (f : Fld) (v : Bool) : (s.wrB f v).evc = s.evc := rfl
@[simp] theorem State.wrB_peri (s : State) (f : Fld) (v : Bool) : (s.wrB f v).peri = s.peri := rfl
@[simp] theorem State.wrB_cvu (s : State) (f : Fld) (v : Bool) : (s.wrB f v).cvu = s.cvu := rfl
@[simp] theorem State.wrB_memc (s : State) (f : Fld) (v : Bool) : (s.wrB f v).memc = s.memc := rfl
@[simp] theorem State.wrB_win (s : State) (f : Fld) (v : Bool) : (s.wrB f v).win = s.win := rfl
@[simp] theorem State.wrB_pair (s : State) (f : Fld) (v : Bool) : (s.wrB f v).pair = s.pair := rfl
@[simp] theorem State.wrB_pwr (s : State) (f : Fld) (v : Bool) : (s.wrB f v).pwr = s.pwr := rfl
@[simp] theorem State.wrB_ident (s : State) (f : Fld) (v : Bool) : (s.wrB f v).ident = s.ident := rfl
@[simp] theorem State.wrB_live (s : State) (f : Fld) (v : Bool) : (s.wrB f v).live = s.live := rfl
@[simp] theorem State.wrB_mem (s : State) (f : Fld) (v : Bool) : (s.wrB f v).mem = s.mem := rfl
@[simp] theorem State.wrB_dramGen (s : State) (f : Fld) (v : Bool) : (s.wrB f v).dramGen = s.dramGen := rfl
@[simp] theorem State.wrB_freeCtr (s : State) (f : Fld) (v : Bool) : (s.wrB f v).freeCtr = s.freeCtr := rfl
@[simp] theorem State.wrB_now (s : State) (f : Fld) (v : Bool) : (s.wrB f v).now = s.now := rfl
@[simp] theorem State.wrB_pending (s : State) (f : Fld) (v : Bool) : (s.wrB f v).pending = s.pending := rfl
@[simp] theorem State.wrB_lv (s : State) (f : Fld) (v : Bool) (g : Fld) : (s.wrB f v).lv g = s.lv g := rfl
@[simp] theorem State.wrB_byte (s : State) (f : Fld) (v : Bool) (j : Nat) : (s.wrB f v).byte j = s.byte j := rfl

@[simp] theorem State.inc_part (s : State) (f : Fld) : (s.inc f).part = s.part := rfl
@[simp] theorem State.inc_sa (s : State) (f : Fld) : (s.inc f).sa = s.sa := rfl
@[simp] theorem State.inc_layer (s : State) (f : Fld) : (s.inc f).layer = s.layer := rfl
@[simp] theorem State.inc_maskin (s : State) (f : Fld) : (s.inc f).maskin = s.maskin := rfl
@[simp] theorem State.inc_ft (s : State) (f : Fld) : (s.inc f).ft = s.ft := rfl
@[simp] theorem State.inc_tl (s : State) (f : Fld) : (s.inc f).tl = s.tl := rfl
@[simp] theorem State.inc_lane (s : State) (f : Fld) : (s.inc f).lane = s.lane := rfl
@[simp] theorem State.inc_hlth (s : State) (f : Fld) : (s.inc f).hlth = s.hlth := rfl
@[simp] theorem State.inc_lsc (s : State) (f : Fld) : (s.inc f).lsc = s.lsc := rfl
@[simp] theorem State.inc_thm (s : State) (f : Fld) : (s.inc f).thm = s.thm := rfl
@[simp] theorem State.inc_cal (s : State) (f : Fld) : (s.inc f).cal = s.cal := rfl
@[simp] theorem State.inc_time (s : State) (f : Fld) : (s.inc f).time = s.time := rfl
@[simp] theorem State.inc_net (s : State) (f : Fld) : (s.inc f).net = s.net := rfl
@[simp] theorem State.inc_safe (s : State) (f : Fld) : (s.inc f).safe = s.safe := rfl
@[simp] theorem State.inc_flt (s : State) (f : Fld) : (s.inc f).flt = s.flt := rfl
@[simp] theorem State.inc_evc (s : State) (f : Fld) : (s.inc f).evc = s.evc := rfl
@[simp] theorem State.inc_peri (s : State) (f : Fld) : (s.inc f).peri = s.peri := rfl
@[simp] theorem State.inc_cvu (s : State) (f : Fld) : (s.inc f).cvu = s.cvu := rfl
@[simp] theorem State.inc_memc (s : State) (f : Fld) : (s.inc f).memc = s.memc := rfl
@[simp] theorem State.inc_win (s : State) (f : Fld) : (s.inc f).win = s.win := rfl
@[simp] theorem State.inc_pair (s : State) (f : Fld) : (s.inc f).pair = s.pair := rfl
@[simp] theorem State.inc_pwr (s : State) (f : Fld) : (s.inc f).pwr = s.pwr := rfl
@[simp] theorem State.inc_ident (s : State) (f : Fld) : (s.inc f).ident = s.ident := rfl
@[simp] theorem State.inc_live (s : State) (f : Fld) : (s.inc f).live = s.live := rfl
@[simp] theorem State.inc_mem (s : State) (f : Fld) : (s.inc f).mem = s.mem := rfl
@[simp] theorem State.inc_dramGen (s : State) (f : Fld) : (s.inc f).dramGen = s.dramGen := rfl
@[simp] theorem State.inc_freeCtr (s : State) (f : Fld) : (s.inc f).freeCtr = s.freeCtr := rfl
@[simp] theorem State.inc_now (s : State) (f : Fld) : (s.inc f).now = s.now := rfl
@[simp] theorem State.inc_pending (s : State) (f : Fld) : (s.inc f).pending = s.pending := rfl
@[simp] theorem State.inc_lv (s : State) (f : Fld) (g : Fld) : (s.inc f).lv g = s.lv g := rfl
@[simp] theorem State.inc_byte (s : State) (f : Fld) (j : Nat) : (s.inc f).byte j = s.byte j := rfl

@[simp] theorem State.addSat_part (s : State) (f : Fld) (n : Nat) : (s.addSat f n).part = s.part := rfl
@[simp] theorem State.addSat_sa (s : State) (f : Fld) (n : Nat) : (s.addSat f n).sa = s.sa := rfl
@[simp] theorem State.addSat_layer (s : State) (f : Fld) (n : Nat) : (s.addSat f n).layer = s.layer := rfl
@[simp] theorem State.addSat_maskin (s : State) (f : Fld) (n : Nat) : (s.addSat f n).maskin = s.maskin := rfl
@[simp] theorem State.addSat_ft (s : State) (f : Fld) (n : Nat) : (s.addSat f n).ft = s.ft := rfl
@[simp] theorem State.addSat_tl (s : State) (f : Fld) (n : Nat) : (s.addSat f n).tl = s.tl := rfl
@[simp] theorem State.addSat_lane (s : State) (f : Fld) (n : Nat) : (s.addSat f n).lane = s.lane := rfl
@[simp] theorem State.addSat_hlth (s : State) (f : Fld) (n : Nat) : (s.addSat f n).hlth = s.hlth := rfl
@[simp] theorem State.addSat_lsc (s : State) (f : Fld) (n : Nat) : (s.addSat f n).lsc = s.lsc := rfl
@[simp] theorem State.addSat_thm (s : State) (f : Fld) (n : Nat) : (s.addSat f n).thm = s.thm := rfl
@[simp] theorem State.addSat_cal (s : State) (f : Fld) (n : Nat) : (s.addSat f n).cal = s.cal := rfl
@[simp] theorem State.addSat_time (s : State) (f : Fld) (n : Nat) : (s.addSat f n).time = s.time := rfl
@[simp] theorem State.addSat_net (s : State) (f : Fld) (n : Nat) : (s.addSat f n).net = s.net := rfl
@[simp] theorem State.addSat_safe (s : State) (f : Fld) (n : Nat) : (s.addSat f n).safe = s.safe := rfl
@[simp] theorem State.addSat_flt (s : State) (f : Fld) (n : Nat) : (s.addSat f n).flt = s.flt := rfl
@[simp] theorem State.addSat_evc (s : State) (f : Fld) (n : Nat) : (s.addSat f n).evc = s.evc := rfl
@[simp] theorem State.addSat_peri (s : State) (f : Fld) (n : Nat) : (s.addSat f n).peri = s.peri := rfl
@[simp] theorem State.addSat_cvu (s : State) (f : Fld) (n : Nat) : (s.addSat f n).cvu = s.cvu := rfl
@[simp] theorem State.addSat_memc (s : State) (f : Fld) (n : Nat) : (s.addSat f n).memc = s.memc := rfl
@[simp] theorem State.addSat_win (s : State) (f : Fld) (n : Nat) : (s.addSat f n).win = s.win := rfl
@[simp] theorem State.addSat_pair (s : State) (f : Fld) (n : Nat) : (s.addSat f n).pair = s.pair := rfl
@[simp] theorem State.addSat_pwr (s : State) (f : Fld) (n : Nat) : (s.addSat f n).pwr = s.pwr := rfl
@[simp] theorem State.addSat_ident (s : State) (f : Fld) (n : Nat) : (s.addSat f n).ident = s.ident := rfl
@[simp] theorem State.addSat_live (s : State) (f : Fld) (n : Nat) : (s.addSat f n).live = s.live := rfl
@[simp] theorem State.addSat_mem (s : State) (f : Fld) (n : Nat) : (s.addSat f n).mem = s.mem := rfl
@[simp] theorem State.addSat_dramGen (s : State) (f : Fld) (n : Nat) : (s.addSat f n).dramGen = s.dramGen := rfl
@[simp] theorem State.addSat_freeCtr (s : State) (f : Fld) (n : Nat) : (s.addSat f n).freeCtr = s.freeCtr := rfl
@[simp] theorem State.addSat_now (s : State) (f : Fld) (n : Nat) : (s.addSat f n).now = s.now := rfl
@[simp] theorem State.addSat_pending (s : State) (f : Fld) (n : Nat) : (s.addSat f n).pending = s.pending := rfl
@[simp] theorem State.addSat_lv (s : State) (f : Fld) (n : Nat) (g : Fld) : (s.addSat f n).lv g = s.lv g := rfl
@[simp] theorem State.addSat_byte (s : State) (f : Fld) (n : Nat) (j : Nat) : (s.addSat f n).byte j = s.byte j := rfl

@[simp] theorem State.wl_part (s : State) (f : Fld) (v : Nat) : (s.wl f v).part = s.part := rfl
@[simp] theorem State.wl_sa (s : State) (f : Fld) (v : Nat) : (s.wl f v).sa = s.sa := rfl
@[simp] theorem State.wl_layer (s : State) (f : Fld) (v : Nat) : (s.wl f v).layer = s.layer := rfl
@[simp] theorem State.wl_maskin (s : State) (f : Fld) (v : Nat) : (s.wl f v).maskin = s.maskin := rfl
@[simp] theorem State.wl_ft (s : State) (f : Fld) (v : Nat) : (s.wl f v).ft = s.ft := rfl
@[simp] theorem State.wl_tl (s : State) (f : Fld) (v : Nat) : (s.wl f v).tl = s.tl := rfl
@[simp] theorem State.wl_lane (s : State) (f : Fld) (v : Nat) : (s.wl f v).lane = s.lane := rfl
@[simp] theorem State.wl_hlth (s : State) (f : Fld) (v : Nat) : (s.wl f v).hlth = s.hlth := rfl
@[simp] theorem State.wl_lsc (s : State) (f : Fld) (v : Nat) : (s.wl f v).lsc = s.lsc := rfl
@[simp] theorem State.wl_thm (s : State) (f : Fld) (v : Nat) : (s.wl f v).thm = s.thm := rfl
@[simp] theorem State.wl_cal (s : State) (f : Fld) (v : Nat) : (s.wl f v).cal = s.cal := rfl
@[simp] theorem State.wl_time (s : State) (f : Fld) (v : Nat) : (s.wl f v).time = s.time := rfl
@[simp] theorem State.wl_net (s : State) (f : Fld) (v : Nat) : (s.wl f v).net = s.net := rfl
@[simp] theorem State.wl_safe (s : State) (f : Fld) (v : Nat) : (s.wl f v).safe = s.safe := rfl
@[simp] theorem State.wl_flt (s : State) (f : Fld) (v : Nat) : (s.wl f v).flt = s.flt := rfl
@[simp] theorem State.wl_evc (s : State) (f : Fld) (v : Nat) : (s.wl f v).evc = s.evc := rfl
@[simp] theorem State.wl_peri (s : State) (f : Fld) (v : Nat) : (s.wl f v).peri = s.peri := rfl
@[simp] theorem State.wl_cvu (s : State) (f : Fld) (v : Nat) : (s.wl f v).cvu = s.cvu := rfl
@[simp] theorem State.wl_memc (s : State) (f : Fld) (v : Nat) : (s.wl f v).memc = s.memc := rfl
@[simp] theorem State.wl_win (s : State) (f : Fld) (v : Nat) : (s.wl f v).win = s.win := rfl
@[simp] theorem State.wl_pair (s : State) (f : Fld) (v : Nat) : (s.wl f v).pair = s.pair := rfl
@[simp] theorem State.wl_pwr (s : State) (f : Fld) (v : Nat) : (s.wl f v).pwr = s.pwr := rfl
@[simp] theorem State.wl_ident (s : State) (f : Fld) (v : Nat) : (s.wl f v).ident = s.ident := rfl
@[simp] theorem State.wl_regs (s : State) (f : Fld) (v : Nat) : (s.wl f v).regs = s.regs := rfl
@[simp] theorem State.wl_mem (s : State) (f : Fld) (v : Nat) : (s.wl f v).mem = s.mem := rfl
@[simp] theorem State.wl_dramGen (s : State) (f : Fld) (v : Nat) : (s.wl f v).dramGen = s.dramGen := rfl
@[simp] theorem State.wl_freeCtr (s : State) (f : Fld) (v : Nat) : (s.wl f v).freeCtr = s.freeCtr := rfl
@[simp] theorem State.wl_now (s : State) (f : Fld) (v : Nat) : (s.wl f v).now = s.now := rfl
@[simp] theorem State.wl_pending (s : State) (f : Fld) (v : Nat) : (s.wl f v).pending = s.pending := rfl
@[simp] theorem State.wl_rd (s : State) (f : Fld) (v : Nat) (g : Fld) : (s.wl f v).rd g = s.rd g := rfl
@[simp] theorem State.wl_on (s : State) (f : Fld) (v : Nat) (g : Fld) : (s.wl f v).on g = s.on g := rfl
@[simp] theorem State.wl_byte (s : State) (f : Fld) (v : Nat) (j : Nat) : (s.wl f v).byte j = s.byte j := rfl

@[simp] theorem State.setByte_part (s : State) (a : Nat) (b : Byte) : (s.setByte a b).part = s.part := rfl
@[simp] theorem State.setByte_sa (s : State) (a : Nat) (b : Byte) : (s.setByte a b).sa = s.sa := rfl
@[simp] theorem State.setByte_layer (s : State) (a : Nat) (b : Byte) : (s.setByte a b).layer = s.layer := rfl
@[simp] theorem State.setByte_maskin (s : State) (a : Nat) (b : Byte) : (s.setByte a b).maskin = s.maskin := rfl
@[simp] theorem State.setByte_ft (s : State) (a : Nat) (b : Byte) : (s.setByte a b).ft = s.ft := rfl
@[simp] theorem State.setByte_tl (s : State) (a : Nat) (b : Byte) : (s.setByte a b).tl = s.tl := rfl
@[simp] theorem State.setByte_lane (s : State) (a : Nat) (b : Byte) : (s.setByte a b).lane = s.lane := rfl
@[simp] theorem State.setByte_hlth (s : State) (a : Nat) (b : Byte) : (s.setByte a b).hlth = s.hlth := rfl
@[simp] theorem State.setByte_lsc (s : State) (a : Nat) (b : Byte) : (s.setByte a b).lsc = s.lsc := rfl
@[simp] theorem State.setByte_thm (s : State) (a : Nat) (b : Byte) : (s.setByte a b).thm = s.thm := rfl
@[simp] theorem State.setByte_cal (s : State) (a : Nat) (b : Byte) : (s.setByte a b).cal = s.cal := rfl
@[simp] theorem State.setByte_time (s : State) (a : Nat) (b : Byte) : (s.setByte a b).time = s.time := rfl
@[simp] theorem State.setByte_net (s : State) (a : Nat) (b : Byte) : (s.setByte a b).net = s.net := rfl
@[simp] theorem State.setByte_safe (s : State) (a : Nat) (b : Byte) : (s.setByte a b).safe = s.safe := rfl
@[simp] theorem State.setByte_flt (s : State) (a : Nat) (b : Byte) : (s.setByte a b).flt = s.flt := rfl
@[simp] theorem State.setByte_evc (s : State) (a : Nat) (b : Byte) : (s.setByte a b).evc = s.evc := rfl
@[simp] theorem State.setByte_peri (s : State) (a : Nat) (b : Byte) : (s.setByte a b).peri = s.peri := rfl
@[simp] theorem State.setByte_cvu (s : State) (a : Nat) (b : Byte) : (s.setByte a b).cvu = s.cvu := rfl
@[simp] theorem State.setByte_memc (s : State) (a : Nat) (b : Byte) : (s.setByte a b).memc = s.memc := rfl
@[simp] theorem State.setByte_win (s : State) (a : Nat) (b : Byte) : (s.setByte a b).win = s.win := rfl
@[simp] theorem State.setByte_pair (s : State) (a : Nat) (b : Byte) : (s.setByte a b).pair = s.pair := rfl
@[simp] theorem State.setByte_pwr (s : State) (a : Nat) (b : Byte) : (s.setByte a b).pwr = s.pwr := rfl
@[simp] theorem State.setByte_ident (s : State) (a : Nat) (b : Byte) : (s.setByte a b).ident = s.ident := rfl
@[simp] theorem State.setByte_regs (s : State) (a : Nat) (b : Byte) : (s.setByte a b).regs = s.regs := rfl
@[simp] theorem State.setByte_live (s : State) (a : Nat) (b : Byte) : (s.setByte a b).live = s.live := rfl
@[simp] theorem State.setByte_dramGen (s : State) (a : Nat) (b : Byte) : (s.setByte a b).dramGen = s.dramGen := rfl
@[simp] theorem State.setByte_freeCtr (s : State) (a : Nat) (b : Byte) : (s.setByte a b).freeCtr = s.freeCtr := rfl
@[simp] theorem State.setByte_now (s : State) (a : Nat) (b : Byte) : (s.setByte a b).now = s.now := rfl
@[simp] theorem State.setByte_pending (s : State) (a : Nat) (b : Byte) : (s.setByte a b).pending = s.pending := rfl
@[simp] theorem State.setByte_rd (s : State) (a : Nat) (b : Byte) (g : Fld) : (s.setByte a b).rd g = s.rd g := rfl
@[simp] theorem State.setByte_on (s : State) (a : Nat) (b : Byte) (g : Fld) : (s.setByte a b).on g = s.on g := rfl
@[simp] theorem State.setByte_lv (s : State) (a : Nat) (b : Byte) (g : Fld) : (s.setByte a b).lv g = s.lv g := rfl

/-! A new value of one block. -/

@[simp] theorem State.rd_with_part (s : State) (x : Part) (g : Fld) : State.rd { s with part := x } g = s.rd g := rfl
@[simp] theorem State.on_with_part (s : State) (x : Part) (g : Fld) : State.on { s with part := x } g = s.on g := rfl
@[simp] theorem State.lv_with_part (s : State) (x : Part) (g : Fld) : State.lv { s with part := x } g = s.lv g := rfl
@[simp] theorem State.byte_with_part (s : State) (x : Part) (g : Nat) : State.byte { s with part := x } g = s.byte g := rfl
@[simp] theorem State.rd_with_sa (s : State) (x : Sa) (g : Fld) : State.rd { s with sa := x } g = s.rd g := rfl
@[simp] theorem State.on_with_sa (s : State) (x : Sa) (g : Fld) : State.on { s with sa := x } g = s.on g := rfl
@[simp] theorem State.lv_with_sa (s : State) (x : Sa) (g : Fld) : State.lv { s with sa := x } g = s.lv g := rfl
@[simp] theorem State.byte_with_sa (s : State) (x : Sa) (g : Nat) : State.byte { s with sa := x } g = s.byte g := rfl
@[simp] theorem State.rd_with_layer (s : State) (x : Layer) (g : Fld) : State.rd { s with layer := x } g = s.rd g := rfl
@[simp] theorem State.on_with_layer (s : State) (x : Layer) (g : Fld) : State.on { s with layer := x } g = s.on g := rfl
@[simp] theorem State.lv_with_layer (s : State) (x : Layer) (g : Fld) : State.lv { s with layer := x } g = s.lv g := rfl
@[simp] theorem State.byte_with_layer (s : State) (x : Layer) (g : Nat) : State.byte { s with layer := x } g = s.byte g := rfl
@[simp] theorem State.rd_with_maskin (s : State) (x : Maskin) (g : Fld) : State.rd { s with maskin := x } g = s.rd g := rfl
@[simp] theorem State.on_with_maskin (s : State) (x : Maskin) (g : Fld) : State.on { s with maskin := x } g = s.on g := rfl
@[simp] theorem State.lv_with_maskin (s : State) (x : Maskin) (g : Fld) : State.lv { s with maskin := x } g = s.lv g := rfl
@[simp] theorem State.byte_with_maskin (s : State) (x : Maskin) (g : Nat) : State.byte { s with maskin := x } g = s.byte g := rfl
@[simp] theorem State.rd_with_ft (s : State) (x : Ft) (g : Fld) : State.rd { s with ft := x } g = s.rd g := rfl
@[simp] theorem State.on_with_ft (s : State) (x : Ft) (g : Fld) : State.on { s with ft := x } g = s.on g := rfl
@[simp] theorem State.lv_with_ft (s : State) (x : Ft) (g : Fld) : State.lv { s with ft := x } g = s.lv g := rfl
@[simp] theorem State.byte_with_ft (s : State) (x : Ft) (g : Nat) : State.byte { s with ft := x } g = s.byte g := rfl
@[simp] theorem State.rd_with_tl (s : State) (x : Tl) (g : Fld) : State.rd { s with tl := x } g = s.rd g := rfl
@[simp] theorem State.on_with_tl (s : State) (x : Tl) (g : Fld) : State.on { s with tl := x } g = s.on g := rfl
@[simp] theorem State.lv_with_tl (s : State) (x : Tl) (g : Fld) : State.lv { s with tl := x } g = s.lv g := rfl
@[simp] theorem State.byte_with_tl (s : State) (x : Tl) (g : Nat) : State.byte { s with tl := x } g = s.byte g := rfl
@[simp] theorem State.rd_with_lane (s : State) (x : Lane) (g : Fld) : State.rd { s with lane := x } g = s.rd g := rfl
@[simp] theorem State.on_with_lane (s : State) (x : Lane) (g : Fld) : State.on { s with lane := x } g = s.on g := rfl
@[simp] theorem State.lv_with_lane (s : State) (x : Lane) (g : Fld) : State.lv { s with lane := x } g = s.lv g := rfl
@[simp] theorem State.byte_with_lane (s : State) (x : Lane) (g : Nat) : State.byte { s with lane := x } g = s.byte g := rfl
@[simp] theorem State.rd_with_hlth (s : State) (x : Hlth) (g : Fld) : State.rd { s with hlth := x } g = s.rd g := rfl
@[simp] theorem State.on_with_hlth (s : State) (x : Hlth) (g : Fld) : State.on { s with hlth := x } g = s.on g := rfl
@[simp] theorem State.lv_with_hlth (s : State) (x : Hlth) (g : Fld) : State.lv { s with hlth := x } g = s.lv g := rfl
@[simp] theorem State.byte_with_hlth (s : State) (x : Hlth) (g : Nat) : State.byte { s with hlth := x } g = s.byte g := rfl
@[simp] theorem State.rd_with_lsc (s : State) (x : Lsc) (g : Fld) : State.rd { s with lsc := x } g = s.rd g := rfl
@[simp] theorem State.on_with_lsc (s : State) (x : Lsc) (g : Fld) : State.on { s with lsc := x } g = s.on g := rfl
@[simp] theorem State.lv_with_lsc (s : State) (x : Lsc) (g : Fld) : State.lv { s with lsc := x } g = s.lv g := rfl
@[simp] theorem State.byte_with_lsc (s : State) (x : Lsc) (g : Nat) : State.byte { s with lsc := x } g = s.byte g := rfl
@[simp] theorem State.rd_with_thm (s : State) (x : Thm) (g : Fld) : State.rd { s with thm := x } g = s.rd g := rfl
@[simp] theorem State.on_with_thm (s : State) (x : Thm) (g : Fld) : State.on { s with thm := x } g = s.on g := rfl
@[simp] theorem State.lv_with_thm (s : State) (x : Thm) (g : Fld) : State.lv { s with thm := x } g = s.lv g := rfl
@[simp] theorem State.byte_with_thm (s : State) (x : Thm) (g : Nat) : State.byte { s with thm := x } g = s.byte g := rfl
@[simp] theorem State.rd_with_cal (s : State) (x : Cal) (g : Fld) : State.rd { s with cal := x } g = s.rd g := rfl
@[simp] theorem State.on_with_cal (s : State) (x : Cal) (g : Fld) : State.on { s with cal := x } g = s.on g := rfl
@[simp] theorem State.lv_with_cal (s : State) (x : Cal) (g : Fld) : State.lv { s with cal := x } g = s.lv g := rfl
@[simp] theorem State.byte_with_cal (s : State) (x : Cal) (g : Nat) : State.byte { s with cal := x } g = s.byte g := rfl
@[simp] theorem State.rd_with_time (s : State) (x : Time) (g : Fld) : State.rd { s with time := x } g = s.rd g := rfl
@[simp] theorem State.on_with_time (s : State) (x : Time) (g : Fld) : State.on { s with time := x } g = s.on g := rfl
@[simp] theorem State.lv_with_time (s : State) (x : Time) (g : Fld) : State.lv { s with time := x } g = s.lv g := rfl
@[simp] theorem State.byte_with_time (s : State) (x : Time) (g : Nat) : State.byte { s with time := x } g = s.byte g := rfl
@[simp] theorem State.rd_with_net (s : State) (x : Net) (g : Fld) : State.rd { s with net := x } g = s.rd g := rfl
@[simp] theorem State.on_with_net (s : State) (x : Net) (g : Fld) : State.on { s with net := x } g = s.on g := rfl
@[simp] theorem State.lv_with_net (s : State) (x : Net) (g : Fld) : State.lv { s with net := x } g = s.lv g := rfl
@[simp] theorem State.byte_with_net (s : State) (x : Net) (g : Nat) : State.byte { s with net := x } g = s.byte g := rfl
@[simp] theorem State.rd_with_safe (s : State) (x : Safe) (g : Fld) : State.rd { s with safe := x } g = s.rd g := rfl
@[simp] theorem State.on_with_safe (s : State) (x : Safe) (g : Fld) : State.on { s with safe := x } g = s.on g := rfl
@[simp] theorem State.lv_with_safe (s : State) (x : Safe) (g : Fld) : State.lv { s with safe := x } g = s.lv g := rfl
@[simp] theorem State.byte_with_safe (s : State) (x : Safe) (g : Nat) : State.byte { s with safe := x } g = s.byte g := rfl
@[simp] theorem State.rd_with_flt (s : State) (x : Flt) (g : Fld) : State.rd { s with flt := x } g = s.rd g := rfl
@[simp] theorem State.on_with_flt (s : State) (x : Flt) (g : Fld) : State.on { s with flt := x } g = s.on g := rfl
@[simp] theorem State.lv_with_flt (s : State) (x : Flt) (g : Fld) : State.lv { s with flt := x } g = s.lv g := rfl
@[simp] theorem State.byte_with_flt (s : State) (x : Flt) (g : Nat) : State.byte { s with flt := x } g = s.byte g := rfl
@[simp] theorem State.rd_with_evc (s : State) (x : Evc) (g : Fld) : State.rd { s with evc := x } g = s.rd g := rfl
@[simp] theorem State.on_with_evc (s : State) (x : Evc) (g : Fld) : State.on { s with evc := x } g = s.on g := rfl
@[simp] theorem State.lv_with_evc (s : State) (x : Evc) (g : Fld) : State.lv { s with evc := x } g = s.lv g := rfl
@[simp] theorem State.byte_with_evc (s : State) (x : Evc) (g : Nat) : State.byte { s with evc := x } g = s.byte g := rfl
@[simp] theorem State.rd_with_peri (s : State) (x : Peri) (g : Fld) : State.rd { s with peri := x } g = s.rd g := rfl
@[simp] theorem State.on_with_peri (s : State) (x : Peri) (g : Fld) : State.on { s with peri := x } g = s.on g := rfl
@[simp] theorem State.lv_with_peri (s : State) (x : Peri) (g : Fld) : State.lv { s with peri := x } g = s.lv g := rfl
@[simp] theorem State.byte_with_peri (s : State) (x : Peri) (g : Nat) : State.byte { s with peri := x } g = s.byte g := rfl
@[simp] theorem State.rd_with_cvu (s : State) (x : Cvu) (g : Fld) : State.rd { s with cvu := x } g = s.rd g := rfl
@[simp] theorem State.on_with_cvu (s : State) (x : Cvu) (g : Fld) : State.on { s with cvu := x } g = s.on g := rfl
@[simp] theorem State.lv_with_cvu (s : State) (x : Cvu) (g : Fld) : State.lv { s with cvu := x } g = s.lv g := rfl
@[simp] theorem State.byte_with_cvu (s : State) (x : Cvu) (g : Nat) : State.byte { s with cvu := x } g = s.byte g := rfl
@[simp] theorem State.rd_with_memc (s : State) (x : Memc) (g : Fld) : State.rd { s with memc := x } g = s.rd g := rfl
@[simp] theorem State.on_with_memc (s : State) (x : Memc) (g : Fld) : State.on { s with memc := x } g = s.on g := rfl
@[simp] theorem State.lv_with_memc (s : State) (x : Memc) (g : Fld) : State.lv { s with memc := x } g = s.lv g := rfl
@[simp] theorem State.byte_with_memc (s : State) (x : Memc) (g : Nat) : State.byte { s with memc := x } g = s.byte g := rfl
@[simp] theorem State.rd_with_win (s : State) (x : Win) (g : Fld) : State.rd { s with win := x } g = s.rd g := rfl
@[simp] theorem State.on_with_win (s : State) (x : Win) (g : Fld) : State.on { s with win := x } g = s.on g := rfl
@[simp] theorem State.lv_with_win (s : State) (x : Win) (g : Fld) : State.lv { s with win := x } g = s.lv g := rfl
@[simp] theorem State.byte_with_win (s : State) (x : Win) (g : Nat) : State.byte { s with win := x } g = s.byte g := rfl
@[simp] theorem State.rd_with_pair (s : State) (x : Pair) (g : Fld) : State.rd { s with pair := x } g = s.rd g := rfl
@[simp] theorem State.on_with_pair (s : State) (x : Pair) (g : Fld) : State.on { s with pair := x } g = s.on g := rfl
@[simp] theorem State.lv_with_pair (s : State) (x : Pair) (g : Fld) : State.lv { s with pair := x } g = s.lv g := rfl
@[simp] theorem State.byte_with_pair (s : State) (x : Pair) (g : Nat) : State.byte { s with pair := x } g = s.byte g := rfl
@[simp] theorem State.rd_with_pwr (s : State) (x : Pwr) (g : Fld) : State.rd { s with pwr := x } g = s.rd g := rfl
@[simp] theorem State.on_with_pwr (s : State) (x : Pwr) (g : Fld) : State.on { s with pwr := x } g = s.on g := rfl
@[simp] theorem State.lv_with_pwr (s : State) (x : Pwr) (g : Fld) : State.lv { s with pwr := x } g = s.lv g := rfl
@[simp] theorem State.byte_with_pwr (s : State) (x : Pwr) (g : Nat) : State.byte { s with pwr := x } g = s.byte g := rfl
@[simp] theorem State.rd_with_ident (s : State) (x : Ident) (g : Fld) : State.rd { s with ident := x } g = s.rd g := rfl
@[simp] theorem State.on_with_ident (s : State) (x : Ident) (g : Fld) : State.on { s with ident := x } g = s.on g := rfl
@[simp] theorem State.lv_with_ident (s : State) (x : Ident) (g : Fld) : State.lv { s with ident := x } g = s.lv g := rfl
@[simp] theorem State.byte_with_ident (s : State) (x : Ident) (g : Nat) : State.byte { s with ident := x } g = s.byte g := rfl
@[simp] theorem State.rd_with_freeCtr (s : State) (x : Nat) (g : Fld) : State.rd { s with freeCtr := x } g = s.rd g := rfl
@[simp] theorem State.on_with_freeCtr (s : State) (x : Nat) (g : Fld) : State.on { s with freeCtr := x } g = s.on g := rfl
@[simp] theorem State.lv_with_freeCtr (s : State) (x : Nat) (g : Fld) : State.lv { s with freeCtr := x } g = s.lv g := rfl
@[simp] theorem State.byte_with_freeCtr (s : State) (x : Nat) (g : Nat) : State.byte { s with freeCtr := x } g = s.byte g := rfl
@[simp] theorem State.rd_with_now (s : State) (x : Nat) (g : Fld) : State.rd { s with now := x } g = s.rd g := rfl
@[simp] theorem State.on_with_now (s : State) (x : Nat) (g : Fld) : State.on { s with now := x } g = s.on g := rfl
@[simp] theorem State.lv_with_now (s : State) (x : Nat) (g : Fld) : State.lv { s with now := x } g = s.lv g := rfl
@[simp] theorem State.byte_with_now (s : State) (x : Nat) (g : Nat) : State.byte { s with now := x } g = s.byte g := rfl

/-! The blocks' own setters. -/

@[simp] theorem State.setSa_part (s : State) (x : Sa) : (s.setSa x).part = s.part := rfl
@[simp] theorem State.setSa_layer (s : State) (x : Sa) : (s.setSa x).layer = s.layer := rfl
@[simp] theorem State.setSa_maskin (s : State) (x : Sa) : (s.setSa x).maskin = s.maskin := rfl
@[simp] theorem State.setSa_ft (s : State) (x : Sa) : (s.setSa x).ft = s.ft := rfl
@[simp] theorem State.setSa_tl (s : State) (x : Sa) : (s.setSa x).tl = s.tl := rfl
@[simp] theorem State.setSa_lane (s : State) (x : Sa) : (s.setSa x).lane = s.lane := rfl
@[simp] theorem State.setSa_hlth (s : State) (x : Sa) : (s.setSa x).hlth = s.hlth := rfl
@[simp] theorem State.setSa_lsc (s : State) (x : Sa) : (s.setSa x).lsc = s.lsc := rfl
@[simp] theorem State.setSa_thm (s : State) (x : Sa) : (s.setSa x).thm = s.thm := rfl
@[simp] theorem State.setSa_cal (s : State) (x : Sa) : (s.setSa x).cal = s.cal := rfl
@[simp] theorem State.setSa_time (s : State) (x : Sa) : (s.setSa x).time = s.time := rfl
@[simp] theorem State.setSa_net (s : State) (x : Sa) : (s.setSa x).net = s.net := rfl
@[simp] theorem State.setSa_safe (s : State) (x : Sa) : (s.setSa x).safe = s.safe := rfl
@[simp] theorem State.setSa_flt (s : State) (x : Sa) : (s.setSa x).flt = s.flt := rfl
@[simp] theorem State.setSa_evc (s : State) (x : Sa) : (s.setSa x).evc = s.evc := rfl
@[simp] theorem State.setSa_peri (s : State) (x : Sa) : (s.setSa x).peri = s.peri := rfl
@[simp] theorem State.setSa_cvu (s : State) (x : Sa) : (s.setSa x).cvu = s.cvu := rfl
@[simp] theorem State.setSa_memc (s : State) (x : Sa) : (s.setSa x).memc = s.memc := rfl
@[simp] theorem State.setSa_win (s : State) (x : Sa) : (s.setSa x).win = s.win := rfl
@[simp] theorem State.setSa_pair (s : State) (x : Sa) : (s.setSa x).pair = s.pair := rfl
@[simp] theorem State.setSa_pwr (s : State) (x : Sa) : (s.setSa x).pwr = s.pwr := rfl
@[simp] theorem State.setSa_ident (s : State) (x : Sa) : (s.setSa x).ident = s.ident := rfl
@[simp] theorem State.setSa_regs (s : State) (x : Sa) : (s.setSa x).regs = s.regs := rfl
@[simp] theorem State.setSa_live (s : State) (x : Sa) : (s.setSa x).live = s.live := rfl
@[simp] theorem State.setSa_mem (s : State) (x : Sa) : (s.setSa x).mem = s.mem := rfl
@[simp] theorem State.setSa_dramGen (s : State) (x : Sa) : (s.setSa x).dramGen = s.dramGen := rfl
@[simp] theorem State.setSa_freeCtr (s : State) (x : Sa) : (s.setSa x).freeCtr = s.freeCtr := rfl
@[simp] theorem State.setSa_now (s : State) (x : Sa) : (s.setSa x).now = s.now := rfl
@[simp] theorem State.setSa_pending (s : State) (x : Sa) : (s.setSa x).pending = s.pending := rfl
@[simp] theorem State.setSa_rd (s : State) (x : Sa) (g : Fld) : (s.setSa x).rd g = s.rd g := rfl
@[simp] theorem State.setSa_on (s : State) (x : Sa) (g : Fld) : (s.setSa x).on g = s.on g := rfl
@[simp] theorem State.setSa_lv (s : State) (x : Sa) (g : Fld) : (s.setSa x).lv g = s.lv g := rfl
@[simp] theorem State.setSa_byte (s : State) (x : Sa) (g : Nat) : (s.setSa x).byte g = s.byte g := rfl

@[simp] theorem State.setLayer_part (s : State) (x : Layer) : (s.setLayer x).part = s.part := rfl
@[simp] theorem State.setLayer_sa (s : State) (x : Layer) : (s.setLayer x).sa = s.sa := rfl
@[simp] theorem State.setLayer_maskin (s : State) (x : Layer) : (s.setLayer x).maskin = s.maskin := rfl
@[simp] theorem State.setLayer_ft (s : State) (x : Layer) : (s.setLayer x).ft = s.ft := rfl
@[simp] theorem State.setLayer_tl (s : State) (x : Layer) : (s.setLayer x).tl = s.tl := rfl
@[simp] theorem State.setLayer_lane (s : State) (x : Layer) : (s.setLayer x).lane = s.lane := rfl
@[simp] theorem State.setLayer_hlth (s : State) (x : Layer) : (s.setLayer x).hlth = s.hlth := rfl
@[simp] theorem State.setLayer_lsc (s : State) (x : Layer) : (s.setLayer x).lsc = s.lsc := rfl
@[simp] theorem State.setLayer_thm (s : State) (x : Layer) : (s.setLayer x).thm = s.thm := rfl
@[simp] theorem State.setLayer_cal (s : State) (x : Layer) : (s.setLayer x).cal = s.cal := rfl
@[simp] theorem State.setLayer_time (s : State) (x : Layer) : (s.setLayer x).time = s.time := rfl
@[simp] theorem State.setLayer_net (s : State) (x : Layer) : (s.setLayer x).net = s.net := rfl
@[simp] theorem State.setLayer_safe (s : State) (x : Layer) : (s.setLayer x).safe = s.safe := rfl
@[simp] theorem State.setLayer_flt (s : State) (x : Layer) : (s.setLayer x).flt = s.flt := rfl
@[simp] theorem State.setLayer_evc (s : State) (x : Layer) : (s.setLayer x).evc = s.evc := rfl
@[simp] theorem State.setLayer_peri (s : State) (x : Layer) : (s.setLayer x).peri = s.peri := rfl
@[simp] theorem State.setLayer_cvu (s : State) (x : Layer) : (s.setLayer x).cvu = s.cvu := rfl
@[simp] theorem State.setLayer_memc (s : State) (x : Layer) : (s.setLayer x).memc = s.memc := rfl
@[simp] theorem State.setLayer_win (s : State) (x : Layer) : (s.setLayer x).win = s.win := rfl
@[simp] theorem State.setLayer_pair (s : State) (x : Layer) : (s.setLayer x).pair = s.pair := rfl
@[simp] theorem State.setLayer_pwr (s : State) (x : Layer) : (s.setLayer x).pwr = s.pwr := rfl
@[simp] theorem State.setLayer_ident (s : State) (x : Layer) : (s.setLayer x).ident = s.ident := rfl
@[simp] theorem State.setLayer_regs (s : State) (x : Layer) : (s.setLayer x).regs = s.regs := rfl
@[simp] theorem State.setLayer_live (s : State) (x : Layer) : (s.setLayer x).live = s.live := rfl
@[simp] theorem State.setLayer_mem (s : State) (x : Layer) : (s.setLayer x).mem = s.mem := rfl
@[simp] theorem State.setLayer_dramGen (s : State) (x : Layer) : (s.setLayer x).dramGen = s.dramGen := rfl
@[simp] theorem State.setLayer_freeCtr (s : State) (x : Layer) : (s.setLayer x).freeCtr = s.freeCtr := rfl
@[simp] theorem State.setLayer_now (s : State) (x : Layer) : (s.setLayer x).now = s.now := rfl
@[simp] theorem State.setLayer_pending (s : State) (x : Layer) : (s.setLayer x).pending = s.pending := rfl
@[simp] theorem State.setLayer_rd (s : State) (x : Layer) (g : Fld) : (s.setLayer x).rd g = s.rd g := rfl
@[simp] theorem State.setLayer_on (s : State) (x : Layer) (g : Fld) : (s.setLayer x).on g = s.on g := rfl
@[simp] theorem State.setLayer_lv (s : State) (x : Layer) (g : Fld) : (s.setLayer x).lv g = s.lv g := rfl
@[simp] theorem State.setLayer_byte (s : State) (x : Layer) (g : Nat) : (s.setLayer x).byte g = s.byte g := rfl

@[simp] theorem State.setFt_part (s : State) (x : Ft) : (s.setFt x).part = s.part := rfl
@[simp] theorem State.setFt_sa (s : State) (x : Ft) : (s.setFt x).sa = s.sa := rfl
@[simp] theorem State.setFt_layer (s : State) (x : Ft) : (s.setFt x).layer = s.layer := rfl
@[simp] theorem State.setFt_maskin (s : State) (x : Ft) : (s.setFt x).maskin = s.maskin := rfl
@[simp] theorem State.setFt_tl (s : State) (x : Ft) : (s.setFt x).tl = s.tl := rfl
@[simp] theorem State.setFt_lane (s : State) (x : Ft) : (s.setFt x).lane = s.lane := rfl
@[simp] theorem State.setFt_hlth (s : State) (x : Ft) : (s.setFt x).hlth = s.hlth := rfl
@[simp] theorem State.setFt_lsc (s : State) (x : Ft) : (s.setFt x).lsc = s.lsc := rfl
@[simp] theorem State.setFt_thm (s : State) (x : Ft) : (s.setFt x).thm = s.thm := rfl
@[simp] theorem State.setFt_cal (s : State) (x : Ft) : (s.setFt x).cal = s.cal := rfl
@[simp] theorem State.setFt_time (s : State) (x : Ft) : (s.setFt x).time = s.time := rfl
@[simp] theorem State.setFt_net (s : State) (x : Ft) : (s.setFt x).net = s.net := rfl
@[simp] theorem State.setFt_safe (s : State) (x : Ft) : (s.setFt x).safe = s.safe := rfl
@[simp] theorem State.setFt_flt (s : State) (x : Ft) : (s.setFt x).flt = s.flt := rfl
@[simp] theorem State.setFt_evc (s : State) (x : Ft) : (s.setFt x).evc = s.evc := rfl
@[simp] theorem State.setFt_peri (s : State) (x : Ft) : (s.setFt x).peri = s.peri := rfl
@[simp] theorem State.setFt_cvu (s : State) (x : Ft) : (s.setFt x).cvu = s.cvu := rfl
@[simp] theorem State.setFt_memc (s : State) (x : Ft) : (s.setFt x).memc = s.memc := rfl
@[simp] theorem State.setFt_win (s : State) (x : Ft) : (s.setFt x).win = s.win := rfl
@[simp] theorem State.setFt_pair (s : State) (x : Ft) : (s.setFt x).pair = s.pair := rfl
@[simp] theorem State.setFt_pwr (s : State) (x : Ft) : (s.setFt x).pwr = s.pwr := rfl
@[simp] theorem State.setFt_ident (s : State) (x : Ft) : (s.setFt x).ident = s.ident := rfl
@[simp] theorem State.setFt_regs (s : State) (x : Ft) : (s.setFt x).regs = s.regs := rfl
@[simp] theorem State.setFt_live (s : State) (x : Ft) : (s.setFt x).live = s.live := rfl
@[simp] theorem State.setFt_mem (s : State) (x : Ft) : (s.setFt x).mem = s.mem := rfl
@[simp] theorem State.setFt_dramGen (s : State) (x : Ft) : (s.setFt x).dramGen = s.dramGen := rfl
@[simp] theorem State.setFt_freeCtr (s : State) (x : Ft) : (s.setFt x).freeCtr = s.freeCtr := rfl
@[simp] theorem State.setFt_now (s : State) (x : Ft) : (s.setFt x).now = s.now := rfl
@[simp] theorem State.setFt_pending (s : State) (x : Ft) : (s.setFt x).pending = s.pending := rfl
@[simp] theorem State.setFt_rd (s : State) (x : Ft) (g : Fld) : (s.setFt x).rd g = s.rd g := rfl
@[simp] theorem State.setFt_on (s : State) (x : Ft) (g : Fld) : (s.setFt x).on g = s.on g := rfl
@[simp] theorem State.setFt_lv (s : State) (x : Ft) (g : Fld) : (s.setFt x).lv g = s.lv g := rfl
@[simp] theorem State.setFt_byte (s : State) (x : Ft) (g : Nat) : (s.setFt x).byte g = s.byte g := rfl

@[simp] theorem State.setMask_part (s : State) (x : Maskin) : (s.setMask x).part = s.part := rfl
@[simp] theorem State.setMask_sa (s : State) (x : Maskin) : (s.setMask x).sa = s.sa := rfl
@[simp] theorem State.setMask_layer (s : State) (x : Maskin) : (s.setMask x).layer = s.layer := rfl
@[simp] theorem State.setMask_ft (s : State) (x : Maskin) : (s.setMask x).ft = s.ft := rfl
@[simp] theorem State.setMask_tl (s : State) (x : Maskin) : (s.setMask x).tl = s.tl := rfl
@[simp] theorem State.setMask_lane (s : State) (x : Maskin) : (s.setMask x).lane = s.lane := rfl
@[simp] theorem State.setMask_hlth (s : State) (x : Maskin) : (s.setMask x).hlth = s.hlth := rfl
@[simp] theorem State.setMask_lsc (s : State) (x : Maskin) : (s.setMask x).lsc = s.lsc := rfl
@[simp] theorem State.setMask_thm (s : State) (x : Maskin) : (s.setMask x).thm = s.thm := rfl
@[simp] theorem State.setMask_cal (s : State) (x : Maskin) : (s.setMask x).cal = s.cal := rfl
@[simp] theorem State.setMask_time (s : State) (x : Maskin) : (s.setMask x).time = s.time := rfl
@[simp] theorem State.setMask_net (s : State) (x : Maskin) : (s.setMask x).net = s.net := rfl
@[simp] theorem State.setMask_safe (s : State) (x : Maskin) : (s.setMask x).safe = s.safe := rfl
@[simp] theorem State.setMask_flt (s : State) (x : Maskin) : (s.setMask x).flt = s.flt := rfl
@[simp] theorem State.setMask_evc (s : State) (x : Maskin) : (s.setMask x).evc = s.evc := rfl
@[simp] theorem State.setMask_peri (s : State) (x : Maskin) : (s.setMask x).peri = s.peri := rfl
@[simp] theorem State.setMask_cvu (s : State) (x : Maskin) : (s.setMask x).cvu = s.cvu := rfl
@[simp] theorem State.setMask_memc (s : State) (x : Maskin) : (s.setMask x).memc = s.memc := rfl
@[simp] theorem State.setMask_win (s : State) (x : Maskin) : (s.setMask x).win = s.win := rfl
@[simp] theorem State.setMask_pair (s : State) (x : Maskin) : (s.setMask x).pair = s.pair := rfl
@[simp] theorem State.setMask_pwr (s : State) (x : Maskin) : (s.setMask x).pwr = s.pwr := rfl
@[simp] theorem State.setMask_ident (s : State) (x : Maskin) : (s.setMask x).ident = s.ident := rfl
@[simp] theorem State.setMask_regs (s : State) (x : Maskin) : (s.setMask x).regs = s.regs := rfl
@[simp] theorem State.setMask_live (s : State) (x : Maskin) : (s.setMask x).live = s.live := rfl
@[simp] theorem State.setMask_mem (s : State) (x : Maskin) : (s.setMask x).mem = s.mem := rfl
@[simp] theorem State.setMask_dramGen (s : State) (x : Maskin) : (s.setMask x).dramGen = s.dramGen := rfl
@[simp] theorem State.setMask_freeCtr (s : State) (x : Maskin) : (s.setMask x).freeCtr = s.freeCtr := rfl
@[simp] theorem State.setMask_now (s : State) (x : Maskin) : (s.setMask x).now = s.now := rfl
@[simp] theorem State.setMask_pending (s : State) (x : Maskin) : (s.setMask x).pending = s.pending := rfl
@[simp] theorem State.setMask_rd (s : State) (x : Maskin) (g : Fld) : (s.setMask x).rd g = s.rd g := rfl
@[simp] theorem State.setMask_on (s : State) (x : Maskin) (g : Fld) : (s.setMask x).on g = s.on g := rfl
@[simp] theorem State.setMask_lv (s : State) (x : Maskin) (g : Fld) : (s.setMask x).lv g = s.lv g := rfl
@[simp] theorem State.setMask_byte (s : State) (x : Maskin) (g : Nat) : (s.setMask x).byte g = s.byte g := rfl

@[simp] theorem State.setPort_part (s : State) (p : Fin 12) (x : TlPort) : (s.setPort p x).part = s.part := rfl
@[simp] theorem State.setPort_sa (s : State) (p : Fin 12) (x : TlPort) : (s.setPort p x).sa = s.sa := rfl
@[simp] theorem State.setPort_layer (s : State) (p : Fin 12) (x : TlPort) : (s.setPort p x).layer = s.layer := rfl
@[simp] theorem State.setPort_maskin (s : State) (p : Fin 12) (x : TlPort) : (s.setPort p x).maskin = s.maskin := rfl
@[simp] theorem State.setPort_ft (s : State) (p : Fin 12) (x : TlPort) : (s.setPort p x).ft = s.ft := rfl
@[simp] theorem State.setPort_lane (s : State) (p : Fin 12) (x : TlPort) : (s.setPort p x).lane = s.lane := rfl
@[simp] theorem State.setPort_hlth (s : State) (p : Fin 12) (x : TlPort) : (s.setPort p x).hlth = s.hlth := rfl
@[simp] theorem State.setPort_lsc (s : State) (p : Fin 12) (x : TlPort) : (s.setPort p x).lsc = s.lsc := rfl
@[simp] theorem State.setPort_thm (s : State) (p : Fin 12) (x : TlPort) : (s.setPort p x).thm = s.thm := rfl
@[simp] theorem State.setPort_cal (s : State) (p : Fin 12) (x : TlPort) : (s.setPort p x).cal = s.cal := rfl
@[simp] theorem State.setPort_time (s : State) (p : Fin 12) (x : TlPort) : (s.setPort p x).time = s.time := rfl
@[simp] theorem State.setPort_net (s : State) (p : Fin 12) (x : TlPort) : (s.setPort p x).net = s.net := rfl
@[simp] theorem State.setPort_safe (s : State) (p : Fin 12) (x : TlPort) : (s.setPort p x).safe = s.safe := rfl
@[simp] theorem State.setPort_flt (s : State) (p : Fin 12) (x : TlPort) : (s.setPort p x).flt = s.flt := rfl
@[simp] theorem State.setPort_evc (s : State) (p : Fin 12) (x : TlPort) : (s.setPort p x).evc = s.evc := rfl
@[simp] theorem State.setPort_peri (s : State) (p : Fin 12) (x : TlPort) : (s.setPort p x).peri = s.peri := rfl
@[simp] theorem State.setPort_cvu (s : State) (p : Fin 12) (x : TlPort) : (s.setPort p x).cvu = s.cvu := rfl
@[simp] theorem State.setPort_memc (s : State) (p : Fin 12) (x : TlPort) : (s.setPort p x).memc = s.memc := rfl
@[simp] theorem State.setPort_win (s : State) (p : Fin 12) (x : TlPort) : (s.setPort p x).win = s.win := rfl
@[simp] theorem State.setPort_pair (s : State) (p : Fin 12) (x : TlPort) : (s.setPort p x).pair = s.pair := rfl
@[simp] theorem State.setPort_pwr (s : State) (p : Fin 12) (x : TlPort) : (s.setPort p x).pwr = s.pwr := rfl
@[simp] theorem State.setPort_ident (s : State) (p : Fin 12) (x : TlPort) : (s.setPort p x).ident = s.ident := rfl
@[simp] theorem State.setPort_regs (s : State) (p : Fin 12) (x : TlPort) : (s.setPort p x).regs = s.regs := rfl
@[simp] theorem State.setPort_live (s : State) (p : Fin 12) (x : TlPort) : (s.setPort p x).live = s.live := rfl
@[simp] theorem State.setPort_mem (s : State) (p : Fin 12) (x : TlPort) : (s.setPort p x).mem = s.mem := rfl
@[simp] theorem State.setPort_dramGen (s : State) (p : Fin 12) (x : TlPort) : (s.setPort p x).dramGen = s.dramGen := rfl
@[simp] theorem State.setPort_freeCtr (s : State) (p : Fin 12) (x : TlPort) : (s.setPort p x).freeCtr = s.freeCtr := rfl
@[simp] theorem State.setPort_now (s : State) (p : Fin 12) (x : TlPort) : (s.setPort p x).now = s.now := rfl
@[simp] theorem State.setPort_pending (s : State) (p : Fin 12) (x : TlPort) : (s.setPort p x).pending = s.pending := rfl
@[simp] theorem State.setPort_rd (s : State) (p : Fin 12) (x : TlPort) (g : Fld) : (s.setPort p x).rd g = s.rd g := rfl
@[simp] theorem State.setPort_on (s : State) (p : Fin 12) (x : TlPort) (g : Fld) : (s.setPort p x).on g = s.on g := rfl
@[simp] theorem State.setPort_lv (s : State) (p : Fin 12) (x : TlPort) (g : Fld) : (s.setPort p x).lv g = s.lv g := rfl
@[simp] theorem State.setPort_byte (s : State) (p : Fin 12) (x : TlPort) (g : Nat) : (s.setPort p x).byte g = s.byte g := rfl

@[simp] theorem State.setLane_part (s : State) (j : Fin 15) (x : LanePair) : (s.setLane j x).part = s.part := rfl
@[simp] theorem State.setLane_sa (s : State) (j : Fin 15) (x : LanePair) : (s.setLane j x).sa = s.sa := rfl
@[simp] theorem State.setLane_layer (s : State) (j : Fin 15) (x : LanePair) : (s.setLane j x).layer = s.layer := rfl
@[simp] theorem State.setLane_maskin (s : State) (j : Fin 15) (x : LanePair) : (s.setLane j x).maskin = s.maskin := rfl
@[simp] theorem State.setLane_ft (s : State) (j : Fin 15) (x : LanePair) : (s.setLane j x).ft = s.ft := rfl
@[simp] theorem State.setLane_tl (s : State) (j : Fin 15) (x : LanePair) : (s.setLane j x).tl = s.tl := rfl
@[simp] theorem State.setLane_hlth (s : State) (j : Fin 15) (x : LanePair) : (s.setLane j x).hlth = s.hlth := rfl
@[simp] theorem State.setLane_lsc (s : State) (j : Fin 15) (x : LanePair) : (s.setLane j x).lsc = s.lsc := rfl
@[simp] theorem State.setLane_thm (s : State) (j : Fin 15) (x : LanePair) : (s.setLane j x).thm = s.thm := rfl
@[simp] theorem State.setLane_cal (s : State) (j : Fin 15) (x : LanePair) : (s.setLane j x).cal = s.cal := rfl
@[simp] theorem State.setLane_time (s : State) (j : Fin 15) (x : LanePair) : (s.setLane j x).time = s.time := rfl
@[simp] theorem State.setLane_net (s : State) (j : Fin 15) (x : LanePair) : (s.setLane j x).net = s.net := rfl
@[simp] theorem State.setLane_safe (s : State) (j : Fin 15) (x : LanePair) : (s.setLane j x).safe = s.safe := rfl
@[simp] theorem State.setLane_flt (s : State) (j : Fin 15) (x : LanePair) : (s.setLane j x).flt = s.flt := rfl
@[simp] theorem State.setLane_evc (s : State) (j : Fin 15) (x : LanePair) : (s.setLane j x).evc = s.evc := rfl
@[simp] theorem State.setLane_peri (s : State) (j : Fin 15) (x : LanePair) : (s.setLane j x).peri = s.peri := rfl
@[simp] theorem State.setLane_cvu (s : State) (j : Fin 15) (x : LanePair) : (s.setLane j x).cvu = s.cvu := rfl
@[simp] theorem State.setLane_memc (s : State) (j : Fin 15) (x : LanePair) : (s.setLane j x).memc = s.memc := rfl
@[simp] theorem State.setLane_win (s : State) (j : Fin 15) (x : LanePair) : (s.setLane j x).win = s.win := rfl
@[simp] theorem State.setLane_pair (s : State) (j : Fin 15) (x : LanePair) : (s.setLane j x).pair = s.pair := rfl
@[simp] theorem State.setLane_pwr (s : State) (j : Fin 15) (x : LanePair) : (s.setLane j x).pwr = s.pwr := rfl
@[simp] theorem State.setLane_ident (s : State) (j : Fin 15) (x : LanePair) : (s.setLane j x).ident = s.ident := rfl
@[simp] theorem State.setLane_regs (s : State) (j : Fin 15) (x : LanePair) : (s.setLane j x).regs = s.regs := rfl
@[simp] theorem State.setLane_live (s : State) (j : Fin 15) (x : LanePair) : (s.setLane j x).live = s.live := rfl
@[simp] theorem State.setLane_mem (s : State) (j : Fin 15) (x : LanePair) : (s.setLane j x).mem = s.mem := rfl
@[simp] theorem State.setLane_dramGen (s : State) (j : Fin 15) (x : LanePair) : (s.setLane j x).dramGen = s.dramGen := rfl
@[simp] theorem State.setLane_freeCtr (s : State) (j : Fin 15) (x : LanePair) : (s.setLane j x).freeCtr = s.freeCtr := rfl
@[simp] theorem State.setLane_now (s : State) (j : Fin 15) (x : LanePair) : (s.setLane j x).now = s.now := rfl
@[simp] theorem State.setLane_pending (s : State) (j : Fin 15) (x : LanePair) : (s.setLane j x).pending = s.pending := rfl
@[simp] theorem State.setLane_rd (s : State) (j : Fin 15) (x : LanePair) (g : Fld) : (s.setLane j x).rd g = s.rd g := rfl
@[simp] theorem State.setLane_on (s : State) (j : Fin 15) (x : LanePair) (g : Fld) : (s.setLane j x).on g = s.on g := rfl
@[simp] theorem State.setLane_lv (s : State) (j : Fin 15) (x : LanePair) (g : Fld) : (s.setLane j x).lv g = s.lv g := rfl
@[simp] theorem State.setLane_byte (s : State) (j : Fin 15) (x : LanePair) (g : Nat) : (s.setLane j x).byte g = s.byte g := rfl

@[simp] theorem State.setZone_part (s : State) (k : Fin 192) (x : ThmZone) : (s.setZone k x).part = s.part := rfl
@[simp] theorem State.setZone_sa (s : State) (k : Fin 192) (x : ThmZone) : (s.setZone k x).sa = s.sa := rfl
@[simp] theorem State.setZone_layer (s : State) (k : Fin 192) (x : ThmZone) : (s.setZone k x).layer = s.layer := rfl
@[simp] theorem State.setZone_maskin (s : State) (k : Fin 192) (x : ThmZone) : (s.setZone k x).maskin = s.maskin := rfl
@[simp] theorem State.setZone_ft (s : State) (k : Fin 192) (x : ThmZone) : (s.setZone k x).ft = s.ft := rfl
@[simp] theorem State.setZone_tl (s : State) (k : Fin 192) (x : ThmZone) : (s.setZone k x).tl = s.tl := rfl
@[simp] theorem State.setZone_lane (s : State) (k : Fin 192) (x : ThmZone) : (s.setZone k x).lane = s.lane := rfl
@[simp] theorem State.setZone_hlth (s : State) (k : Fin 192) (x : ThmZone) : (s.setZone k x).hlth = s.hlth := rfl
@[simp] theorem State.setZone_lsc (s : State) (k : Fin 192) (x : ThmZone) : (s.setZone k x).lsc = s.lsc := rfl
@[simp] theorem State.setZone_cal (s : State) (k : Fin 192) (x : ThmZone) : (s.setZone k x).cal = s.cal := rfl
@[simp] theorem State.setZone_time (s : State) (k : Fin 192) (x : ThmZone) : (s.setZone k x).time = s.time := rfl
@[simp] theorem State.setZone_net (s : State) (k : Fin 192) (x : ThmZone) : (s.setZone k x).net = s.net := rfl
@[simp] theorem State.setZone_safe (s : State) (k : Fin 192) (x : ThmZone) : (s.setZone k x).safe = s.safe := rfl
@[simp] theorem State.setZone_flt (s : State) (k : Fin 192) (x : ThmZone) : (s.setZone k x).flt = s.flt := rfl
@[simp] theorem State.setZone_evc (s : State) (k : Fin 192) (x : ThmZone) : (s.setZone k x).evc = s.evc := rfl
@[simp] theorem State.setZone_peri (s : State) (k : Fin 192) (x : ThmZone) : (s.setZone k x).peri = s.peri := rfl
@[simp] theorem State.setZone_cvu (s : State) (k : Fin 192) (x : ThmZone) : (s.setZone k x).cvu = s.cvu := rfl
@[simp] theorem State.setZone_memc (s : State) (k : Fin 192) (x : ThmZone) : (s.setZone k x).memc = s.memc := rfl
@[simp] theorem State.setZone_win (s : State) (k : Fin 192) (x : ThmZone) : (s.setZone k x).win = s.win := rfl
@[simp] theorem State.setZone_pair (s : State) (k : Fin 192) (x : ThmZone) : (s.setZone k x).pair = s.pair := rfl
@[simp] theorem State.setZone_pwr (s : State) (k : Fin 192) (x : ThmZone) : (s.setZone k x).pwr = s.pwr := rfl
@[simp] theorem State.setZone_ident (s : State) (k : Fin 192) (x : ThmZone) : (s.setZone k x).ident = s.ident := rfl
@[simp] theorem State.setZone_regs (s : State) (k : Fin 192) (x : ThmZone) : (s.setZone k x).regs = s.regs := rfl
@[simp] theorem State.setZone_live (s : State) (k : Fin 192) (x : ThmZone) : (s.setZone k x).live = s.live := rfl
@[simp] theorem State.setZone_mem (s : State) (k : Fin 192) (x : ThmZone) : (s.setZone k x).mem = s.mem := rfl
@[simp] theorem State.setZone_dramGen (s : State) (k : Fin 192) (x : ThmZone) : (s.setZone k x).dramGen = s.dramGen := rfl
@[simp] theorem State.setZone_freeCtr (s : State) (k : Fin 192) (x : ThmZone) : (s.setZone k x).freeCtr = s.freeCtr := rfl
@[simp] theorem State.setZone_now (s : State) (k : Fin 192) (x : ThmZone) : (s.setZone k x).now = s.now := rfl
@[simp] theorem State.setZone_pending (s : State) (k : Fin 192) (x : ThmZone) : (s.setZone k x).pending = s.pending := rfl
@[simp] theorem State.setZone_rd (s : State) (k : Fin 192) (x : ThmZone) (g : Fld) : (s.setZone k x).rd g = s.rd g := rfl
@[simp] theorem State.setZone_on (s : State) (k : Fin 192) (x : ThmZone) (g : Fld) : (s.setZone k x).on g = s.on g := rfl
@[simp] theorem State.setZone_lv (s : State) (k : Fin 192) (x : ThmZone) (g : Fld) : (s.setZone k x).lv g = s.lv g := rfl
@[simp] theorem State.setZone_byte (s : State) (k : Fin 192) (x : ThmZone) (g : Nat) : (s.setZone k x).byte g = s.byte g := rfl

@[simp] theorem State.setTile_part (s : State) (k : Fin 12) (x : ThmTile) : (s.setTile k x).part = s.part := rfl
@[simp] theorem State.setTile_sa (s : State) (k : Fin 12) (x : ThmTile) : (s.setTile k x).sa = s.sa := rfl
@[simp] theorem State.setTile_layer (s : State) (k : Fin 12) (x : ThmTile) : (s.setTile k x).layer = s.layer := rfl
@[simp] theorem State.setTile_maskin (s : State) (k : Fin 12) (x : ThmTile) : (s.setTile k x).maskin = s.maskin := rfl
@[simp] theorem State.setTile_ft (s : State) (k : Fin 12) (x : ThmTile) : (s.setTile k x).ft = s.ft := rfl
@[simp] theorem State.setTile_tl (s : State) (k : Fin 12) (x : ThmTile) : (s.setTile k x).tl = s.tl := rfl
@[simp] theorem State.setTile_lane (s : State) (k : Fin 12) (x : ThmTile) : (s.setTile k x).lane = s.lane := rfl
@[simp] theorem State.setTile_hlth (s : State) (k : Fin 12) (x : ThmTile) : (s.setTile k x).hlth = s.hlth := rfl
@[simp] theorem State.setTile_lsc (s : State) (k : Fin 12) (x : ThmTile) : (s.setTile k x).lsc = s.lsc := rfl
@[simp] theorem State.setTile_cal (s : State) (k : Fin 12) (x : ThmTile) : (s.setTile k x).cal = s.cal := rfl
@[simp] theorem State.setTile_time (s : State) (k : Fin 12) (x : ThmTile) : (s.setTile k x).time = s.time := rfl
@[simp] theorem State.setTile_net (s : State) (k : Fin 12) (x : ThmTile) : (s.setTile k x).net = s.net := rfl
@[simp] theorem State.setTile_safe (s : State) (k : Fin 12) (x : ThmTile) : (s.setTile k x).safe = s.safe := rfl
@[simp] theorem State.setTile_flt (s : State) (k : Fin 12) (x : ThmTile) : (s.setTile k x).flt = s.flt := rfl
@[simp] theorem State.setTile_evc (s : State) (k : Fin 12) (x : ThmTile) : (s.setTile k x).evc = s.evc := rfl
@[simp] theorem State.setTile_peri (s : State) (k : Fin 12) (x : ThmTile) : (s.setTile k x).peri = s.peri := rfl
@[simp] theorem State.setTile_cvu (s : State) (k : Fin 12) (x : ThmTile) : (s.setTile k x).cvu = s.cvu := rfl
@[simp] theorem State.setTile_memc (s : State) (k : Fin 12) (x : ThmTile) : (s.setTile k x).memc = s.memc := rfl
@[simp] theorem State.setTile_win (s : State) (k : Fin 12) (x : ThmTile) : (s.setTile k x).win = s.win := rfl
@[simp] theorem State.setTile_pair (s : State) (k : Fin 12) (x : ThmTile) : (s.setTile k x).pair = s.pair := rfl
@[simp] theorem State.setTile_pwr (s : State) (k : Fin 12) (x : ThmTile) : (s.setTile k x).pwr = s.pwr := rfl
@[simp] theorem State.setTile_ident (s : State) (k : Fin 12) (x : ThmTile) : (s.setTile k x).ident = s.ident := rfl
@[simp] theorem State.setTile_regs (s : State) (k : Fin 12) (x : ThmTile) : (s.setTile k x).regs = s.regs := rfl
@[simp] theorem State.setTile_live (s : State) (k : Fin 12) (x : ThmTile) : (s.setTile k x).live = s.live := rfl
@[simp] theorem State.setTile_mem (s : State) (k : Fin 12) (x : ThmTile) : (s.setTile k x).mem = s.mem := rfl
@[simp] theorem State.setTile_dramGen (s : State) (k : Fin 12) (x : ThmTile) : (s.setTile k x).dramGen = s.dramGen := rfl
@[simp] theorem State.setTile_freeCtr (s : State) (k : Fin 12) (x : ThmTile) : (s.setTile k x).freeCtr = s.freeCtr := rfl
@[simp] theorem State.setTile_now (s : State) (k : Fin 12) (x : ThmTile) : (s.setTile k x).now = s.now := rfl
@[simp] theorem State.setTile_pending (s : State) (k : Fin 12) (x : ThmTile) : (s.setTile k x).pending = s.pending := rfl
@[simp] theorem State.setTile_rd (s : State) (k : Fin 12) (x : ThmTile) (g : Fld) : (s.setTile k x).rd g = s.rd g := rfl
@[simp] theorem State.setTile_on (s : State) (k : Fin 12) (x : ThmTile) (g : Fld) : (s.setTile k x).on g = s.on g := rfl
@[simp] theorem State.setTile_lv (s : State) (k : Fin 12) (x : ThmTile) (g : Fld) : (s.setTile k x).lv g = s.lv g := rfl
@[simp] theorem State.setTile_byte (s : State) (k : Fin 12) (x : ThmTile) (g : Nat) : (s.setTile k x).byte g = s.byte g := rfl

@[simp] theorem State.setTd_part (s : State) (k : Fin 2) (x : Domain) : (s.setTd k x).part = s.part := rfl
@[simp] theorem State.setTd_sa (s : State) (k : Fin 2) (x : Domain) : (s.setTd k x).sa = s.sa := rfl
@[simp] theorem State.setTd_layer (s : State) (k : Fin 2) (x : Domain) : (s.setTd k x).layer = s.layer := rfl
@[simp] theorem State.setTd_maskin (s : State) (k : Fin 2) (x : Domain) : (s.setTd k x).maskin = s.maskin := rfl
@[simp] theorem State.setTd_ft (s : State) (k : Fin 2) (x : Domain) : (s.setTd k x).ft = s.ft := rfl
@[simp] theorem State.setTd_tl (s : State) (k : Fin 2) (x : Domain) : (s.setTd k x).tl = s.tl := rfl
@[simp] theorem State.setTd_lane (s : State) (k : Fin 2) (x : Domain) : (s.setTd k x).lane = s.lane := rfl
@[simp] theorem State.setTd_hlth (s : State) (k : Fin 2) (x : Domain) : (s.setTd k x).hlth = s.hlth := rfl
@[simp] theorem State.setTd_lsc (s : State) (k : Fin 2) (x : Domain) : (s.setTd k x).lsc = s.lsc := rfl
@[simp] theorem State.setTd_thm (s : State) (k : Fin 2) (x : Domain) : (s.setTd k x).thm = s.thm := rfl
@[simp] theorem State.setTd_cal (s : State) (k : Fin 2) (x : Domain) : (s.setTd k x).cal = s.cal := rfl
@[simp] theorem State.setTd_net (s : State) (k : Fin 2) (x : Domain) : (s.setTd k x).net = s.net := rfl
@[simp] theorem State.setTd_safe (s : State) (k : Fin 2) (x : Domain) : (s.setTd k x).safe = s.safe := rfl
@[simp] theorem State.setTd_flt (s : State) (k : Fin 2) (x : Domain) : (s.setTd k x).flt = s.flt := rfl
@[simp] theorem State.setTd_evc (s : State) (k : Fin 2) (x : Domain) : (s.setTd k x).evc = s.evc := rfl
@[simp] theorem State.setTd_peri (s : State) (k : Fin 2) (x : Domain) : (s.setTd k x).peri = s.peri := rfl
@[simp] theorem State.setTd_cvu (s : State) (k : Fin 2) (x : Domain) : (s.setTd k x).cvu = s.cvu := rfl
@[simp] theorem State.setTd_memc (s : State) (k : Fin 2) (x : Domain) : (s.setTd k x).memc = s.memc := rfl
@[simp] theorem State.setTd_win (s : State) (k : Fin 2) (x : Domain) : (s.setTd k x).win = s.win := rfl
@[simp] theorem State.setTd_pair (s : State) (k : Fin 2) (x : Domain) : (s.setTd k x).pair = s.pair := rfl
@[simp] theorem State.setTd_pwr (s : State) (k : Fin 2) (x : Domain) : (s.setTd k x).pwr = s.pwr := rfl
@[simp] theorem State.setTd_ident (s : State) (k : Fin 2) (x : Domain) : (s.setTd k x).ident = s.ident := rfl
@[simp] theorem State.setTd_regs (s : State) (k : Fin 2) (x : Domain) : (s.setTd k x).regs = s.regs := rfl
@[simp] theorem State.setTd_live (s : State) (k : Fin 2) (x : Domain) : (s.setTd k x).live = s.live := rfl
@[simp] theorem State.setTd_mem (s : State) (k : Fin 2) (x : Domain) : (s.setTd k x).mem = s.mem := rfl
@[simp] theorem State.setTd_dramGen (s : State) (k : Fin 2) (x : Domain) : (s.setTd k x).dramGen = s.dramGen := rfl
@[simp] theorem State.setTd_freeCtr (s : State) (k : Fin 2) (x : Domain) : (s.setTd k x).freeCtr = s.freeCtr := rfl
@[simp] theorem State.setTd_now (s : State) (k : Fin 2) (x : Domain) : (s.setTd k x).now = s.now := rfl
@[simp] theorem State.setTd_pending (s : State) (k : Fin 2) (x : Domain) : (s.setTd k x).pending = s.pending := rfl
@[simp] theorem State.setTd_rd (s : State) (k : Fin 2) (x : Domain) (g : Fld) : (s.setTd k x).rd g = s.rd g := rfl
@[simp] theorem State.setTd_on (s : State) (k : Fin 2) (x : Domain) (g : Fld) : (s.setTd k x).on g = s.on g := rfl
@[simp] theorem State.setTd_lv (s : State) (k : Fin 2) (x : Domain) (g : Fld) : (s.setTd k x).lv g = s.lv g := rfl
@[simp] theorem State.setTd_byte (s : State) (k : Fin 2) (x : Domain) (g : Nat) : (s.setTd k x).byte g = s.byte g := rfl

@[simp] theorem State.setEng_part (s : State) (k : Fin 16) (x : Engine) : (s.setEng k x).part = s.part := rfl
@[simp] theorem State.setEng_sa (s : State) (k : Fin 16) (x : Engine) : (s.setEng k x).sa = s.sa := rfl
@[simp] theorem State.setEng_layer (s : State) (k : Fin 16) (x : Engine) : (s.setEng k x).layer = s.layer := rfl
@[simp] theorem State.setEng_maskin (s : State) (k : Fin 16) (x : Engine) : (s.setEng k x).maskin = s.maskin := rfl
@[simp] theorem State.setEng_ft (s : State) (k : Fin 16) (x : Engine) : (s.setEng k x).ft = s.ft := rfl
@[simp] theorem State.setEng_tl (s : State) (k : Fin 16) (x : Engine) : (s.setEng k x).tl = s.tl := rfl
@[simp] theorem State.setEng_lane (s : State) (k : Fin 16) (x : Engine) : (s.setEng k x).lane = s.lane := rfl
@[simp] theorem State.setEng_hlth (s : State) (k : Fin 16) (x : Engine) : (s.setEng k x).hlth = s.hlth := rfl
@[simp] theorem State.setEng_lsc (s : State) (k : Fin 16) (x : Engine) : (s.setEng k x).lsc = s.lsc := rfl
@[simp] theorem State.setEng_thm (s : State) (k : Fin 16) (x : Engine) : (s.setEng k x).thm = s.thm := rfl
@[simp] theorem State.setEng_cal (s : State) (k : Fin 16) (x : Engine) : (s.setEng k x).cal = s.cal := rfl
@[simp] theorem State.setEng_time (s : State) (k : Fin 16) (x : Engine) : (s.setEng k x).time = s.time := rfl
@[simp] theorem State.setEng_net (s : State) (k : Fin 16) (x : Engine) : (s.setEng k x).net = s.net := rfl
@[simp] theorem State.setEng_safe (s : State) (k : Fin 16) (x : Engine) : (s.setEng k x).safe = s.safe := rfl
@[simp] theorem State.setEng_flt (s : State) (k : Fin 16) (x : Engine) : (s.setEng k x).flt = s.flt := rfl
@[simp] theorem State.setEng_peri (s : State) (k : Fin 16) (x : Engine) : (s.setEng k x).peri = s.peri := rfl
@[simp] theorem State.setEng_cvu (s : State) (k : Fin 16) (x : Engine) : (s.setEng k x).cvu = s.cvu := rfl
@[simp] theorem State.setEng_memc (s : State) (k : Fin 16) (x : Engine) : (s.setEng k x).memc = s.memc := rfl
@[simp] theorem State.setEng_win (s : State) (k : Fin 16) (x : Engine) : (s.setEng k x).win = s.win := rfl
@[simp] theorem State.setEng_pair (s : State) (k : Fin 16) (x : Engine) : (s.setEng k x).pair = s.pair := rfl
@[simp] theorem State.setEng_pwr (s : State) (k : Fin 16) (x : Engine) : (s.setEng k x).pwr = s.pwr := rfl
@[simp] theorem State.setEng_ident (s : State) (k : Fin 16) (x : Engine) : (s.setEng k x).ident = s.ident := rfl
@[simp] theorem State.setEng_regs (s : State) (k : Fin 16) (x : Engine) : (s.setEng k x).regs = s.regs := rfl
@[simp] theorem State.setEng_live (s : State) (k : Fin 16) (x : Engine) : (s.setEng k x).live = s.live := rfl
@[simp] theorem State.setEng_mem (s : State) (k : Fin 16) (x : Engine) : (s.setEng k x).mem = s.mem := rfl
@[simp] theorem State.setEng_dramGen (s : State) (k : Fin 16) (x : Engine) : (s.setEng k x).dramGen = s.dramGen := rfl
@[simp] theorem State.setEng_freeCtr (s : State) (k : Fin 16) (x : Engine) : (s.setEng k x).freeCtr = s.freeCtr := rfl
@[simp] theorem State.setEng_now (s : State) (k : Fin 16) (x : Engine) : (s.setEng k x).now = s.now := rfl
@[simp] theorem State.setEng_pending (s : State) (k : Fin 16) (x : Engine) : (s.setEng k x).pending = s.pending := rfl
@[simp] theorem State.setEng_rd (s : State) (k : Fin 16) (x : Engine) (g : Fld) : (s.setEng k x).rd g = s.rd g := rfl
@[simp] theorem State.setEng_on (s : State) (k : Fin 16) (x : Engine) (g : Fld) : (s.setEng k x).on g = s.on g := rfl
@[simp] theorem State.setEng_lv (s : State) (k : Fin 16) (x : Engine) (g : Fld) : (s.setEng k x).lv g = s.lv g := rfl
@[simp] theorem State.setEng_byte (s : State) (k : Fin 16) (x : Engine) (g : Nat) : (s.setEng k x).byte g = s.byte g := rfl

@[simp] theorem State.setCvu_part (s : State) (k : Fin 4) (x : CvuUnit) : (s.setCvu k x).part = s.part := rfl
@[simp] theorem State.setCvu_sa (s : State) (k : Fin 4) (x : CvuUnit) : (s.setCvu k x).sa = s.sa := rfl
@[simp] theorem State.setCvu_layer (s : State) (k : Fin 4) (x : CvuUnit) : (s.setCvu k x).layer = s.layer := rfl
@[simp] theorem State.setCvu_maskin (s : State) (k : Fin 4) (x : CvuUnit) : (s.setCvu k x).maskin = s.maskin := rfl
@[simp] theorem State.setCvu_ft (s : State) (k : Fin 4) (x : CvuUnit) : (s.setCvu k x).ft = s.ft := rfl
@[simp] theorem State.setCvu_tl (s : State) (k : Fin 4) (x : CvuUnit) : (s.setCvu k x).tl = s.tl := rfl
@[simp] theorem State.setCvu_lane (s : State) (k : Fin 4) (x : CvuUnit) : (s.setCvu k x).lane = s.lane := rfl
@[simp] theorem State.setCvu_hlth (s : State) (k : Fin 4) (x : CvuUnit) : (s.setCvu k x).hlth = s.hlth := rfl
@[simp] theorem State.setCvu_lsc (s : State) (k : Fin 4) (x : CvuUnit) : (s.setCvu k x).lsc = s.lsc := rfl
@[simp] theorem State.setCvu_thm (s : State) (k : Fin 4) (x : CvuUnit) : (s.setCvu k x).thm = s.thm := rfl
@[simp] theorem State.setCvu_cal (s : State) (k : Fin 4) (x : CvuUnit) : (s.setCvu k x).cal = s.cal := rfl
@[simp] theorem State.setCvu_time (s : State) (k : Fin 4) (x : CvuUnit) : (s.setCvu k x).time = s.time := rfl
@[simp] theorem State.setCvu_net (s : State) (k : Fin 4) (x : CvuUnit) : (s.setCvu k x).net = s.net := rfl
@[simp] theorem State.setCvu_safe (s : State) (k : Fin 4) (x : CvuUnit) : (s.setCvu k x).safe = s.safe := rfl
@[simp] theorem State.setCvu_flt (s : State) (k : Fin 4) (x : CvuUnit) : (s.setCvu k x).flt = s.flt := rfl
@[simp] theorem State.setCvu_evc (s : State) (k : Fin 4) (x : CvuUnit) : (s.setCvu k x).evc = s.evc := rfl
@[simp] theorem State.setCvu_peri (s : State) (k : Fin 4) (x : CvuUnit) : (s.setCvu k x).peri = s.peri := rfl
@[simp] theorem State.setCvu_memc (s : State) (k : Fin 4) (x : CvuUnit) : (s.setCvu k x).memc = s.memc := rfl
@[simp] theorem State.setCvu_win (s : State) (k : Fin 4) (x : CvuUnit) : (s.setCvu k x).win = s.win := rfl
@[simp] theorem State.setCvu_pair (s : State) (k : Fin 4) (x : CvuUnit) : (s.setCvu k x).pair = s.pair := rfl
@[simp] theorem State.setCvu_pwr (s : State) (k : Fin 4) (x : CvuUnit) : (s.setCvu k x).pwr = s.pwr := rfl
@[simp] theorem State.setCvu_ident (s : State) (k : Fin 4) (x : CvuUnit) : (s.setCvu k x).ident = s.ident := rfl
@[simp] theorem State.setCvu_regs (s : State) (k : Fin 4) (x : CvuUnit) : (s.setCvu k x).regs = s.regs := rfl
@[simp] theorem State.setCvu_live (s : State) (k : Fin 4) (x : CvuUnit) : (s.setCvu k x).live = s.live := rfl
@[simp] theorem State.setCvu_mem (s : State) (k : Fin 4) (x : CvuUnit) : (s.setCvu k x).mem = s.mem := rfl
@[simp] theorem State.setCvu_dramGen (s : State) (k : Fin 4) (x : CvuUnit) : (s.setCvu k x).dramGen = s.dramGen := rfl
@[simp] theorem State.setCvu_freeCtr (s : State) (k : Fin 4) (x : CvuUnit) : (s.setCvu k x).freeCtr = s.freeCtr := rfl
@[simp] theorem State.setCvu_now (s : State) (k : Fin 4) (x : CvuUnit) : (s.setCvu k x).now = s.now := rfl
@[simp] theorem State.setCvu_pending (s : State) (k : Fin 4) (x : CvuUnit) : (s.setCvu k x).pending = s.pending := rfl
@[simp] theorem State.setCvu_rd (s : State) (k : Fin 4) (x : CvuUnit) (g : Fld) : (s.setCvu k x).rd g = s.rd g := rfl
@[simp] theorem State.setCvu_on (s : State) (k : Fin 4) (x : CvuUnit) (g : Fld) : (s.setCvu k x).on g = s.on g := rfl
@[simp] theorem State.setCvu_lv (s : State) (k : Fin 4) (x : CvuUnit) (g : Fld) : (s.setCvu k x).lv g = s.lv g := rfl
@[simp] theorem State.setCvu_byte (s : State) (k : Fin 4) (x : CvuUnit) (g : Nat) : (s.setCvu k x).byte g = s.byte g := rfl

@[simp] theorem State.setGrant_part (s : State) (k : Fin 8) (x : Grant) : (s.setGrant k x).part = s.part := rfl
@[simp] theorem State.setGrant_sa (s : State) (k : Fin 8) (x : Grant) : (s.setGrant k x).sa = s.sa := rfl
@[simp] theorem State.setGrant_layer (s : State) (k : Fin 8) (x : Grant) : (s.setGrant k x).layer = s.layer := rfl
@[simp] theorem State.setGrant_maskin (s : State) (k : Fin 8) (x : Grant) : (s.setGrant k x).maskin = s.maskin := rfl
@[simp] theorem State.setGrant_ft (s : State) (k : Fin 8) (x : Grant) : (s.setGrant k x).ft = s.ft := rfl
@[simp] theorem State.setGrant_tl (s : State) (k : Fin 8) (x : Grant) : (s.setGrant k x).tl = s.tl := rfl
@[simp] theorem State.setGrant_lane (s : State) (k : Fin 8) (x : Grant) : (s.setGrant k x).lane = s.lane := rfl
@[simp] theorem State.setGrant_hlth (s : State) (k : Fin 8) (x : Grant) : (s.setGrant k x).hlth = s.hlth := rfl
@[simp] theorem State.setGrant_lsc (s : State) (k : Fin 8) (x : Grant) : (s.setGrant k x).lsc = s.lsc := rfl
@[simp] theorem State.setGrant_thm (s : State) (k : Fin 8) (x : Grant) : (s.setGrant k x).thm = s.thm := rfl
@[simp] theorem State.setGrant_cal (s : State) (k : Fin 8) (x : Grant) : (s.setGrant k x).cal = s.cal := rfl
@[simp] theorem State.setGrant_time (s : State) (k : Fin 8) (x : Grant) : (s.setGrant k x).time = s.time := rfl
@[simp] theorem State.setGrant_net (s : State) (k : Fin 8) (x : Grant) : (s.setGrant k x).net = s.net := rfl
@[simp] theorem State.setGrant_flt (s : State) (k : Fin 8) (x : Grant) : (s.setGrant k x).flt = s.flt := rfl
@[simp] theorem State.setGrant_evc (s : State) (k : Fin 8) (x : Grant) : (s.setGrant k x).evc = s.evc := rfl
@[simp] theorem State.setGrant_peri (s : State) (k : Fin 8) (x : Grant) : (s.setGrant k x).peri = s.peri := rfl
@[simp] theorem State.setGrant_cvu (s : State) (k : Fin 8) (x : Grant) : (s.setGrant k x).cvu = s.cvu := rfl
@[simp] theorem State.setGrant_memc (s : State) (k : Fin 8) (x : Grant) : (s.setGrant k x).memc = s.memc := rfl
@[simp] theorem State.setGrant_win (s : State) (k : Fin 8) (x : Grant) : (s.setGrant k x).win = s.win := rfl
@[simp] theorem State.setGrant_pair (s : State) (k : Fin 8) (x : Grant) : (s.setGrant k x).pair = s.pair := rfl
@[simp] theorem State.setGrant_pwr (s : State) (k : Fin 8) (x : Grant) : (s.setGrant k x).pwr = s.pwr := rfl
@[simp] theorem State.setGrant_ident (s : State) (k : Fin 8) (x : Grant) : (s.setGrant k x).ident = s.ident := rfl
@[simp] theorem State.setGrant_regs (s : State) (k : Fin 8) (x : Grant) : (s.setGrant k x).regs = s.regs := rfl
@[simp] theorem State.setGrant_live (s : State) (k : Fin 8) (x : Grant) : (s.setGrant k x).live = s.live := rfl
@[simp] theorem State.setGrant_mem (s : State) (k : Fin 8) (x : Grant) : (s.setGrant k x).mem = s.mem := rfl
@[simp] theorem State.setGrant_dramGen (s : State) (k : Fin 8) (x : Grant) : (s.setGrant k x).dramGen = s.dramGen := rfl
@[simp] theorem State.setGrant_freeCtr (s : State) (k : Fin 8) (x : Grant) : (s.setGrant k x).freeCtr = s.freeCtr := rfl
@[simp] theorem State.setGrant_now (s : State) (k : Fin 8) (x : Grant) : (s.setGrant k x).now = s.now := rfl
@[simp] theorem State.setGrant_pending (s : State) (k : Fin 8) (x : Grant) : (s.setGrant k x).pending = s.pending := rfl
@[simp] theorem State.setGrant_rd (s : State) (k : Fin 8) (x : Grant) (g : Fld) : (s.setGrant k x).rd g = s.rd g := rfl
@[simp] theorem State.setGrant_on (s : State) (k : Fin 8) (x : Grant) (g : Fld) : (s.setGrant k x).on g = s.on g := rfl
@[simp] theorem State.setGrant_lv (s : State) (k : Fin 8) (x : Grant) (g : Fld) : (s.setGrant k x).lv g = s.lv g := rfl
@[simp] theorem State.setGrant_byte (s : State) (k : Fin 8) (x : Grant) (g : Nat) : (s.setGrant k x).byte g = s.byte g := rfl

@[simp] theorem State.setDma_part (s : State) (k : Fin 4) (x : Option DmaRun) : (s.setDma k x).part = s.part := rfl
@[simp] theorem State.setDma_sa (s : State) (k : Fin 4) (x : Option DmaRun) : (s.setDma k x).sa = s.sa := rfl
@[simp] theorem State.setDma_layer (s : State) (k : Fin 4) (x : Option DmaRun) : (s.setDma k x).layer = s.layer := rfl
@[simp] theorem State.setDma_maskin (s : State) (k : Fin 4) (x : Option DmaRun) : (s.setDma k x).maskin = s.maskin := rfl
@[simp] theorem State.setDma_ft (s : State) (k : Fin 4) (x : Option DmaRun) : (s.setDma k x).ft = s.ft := rfl
@[simp] theorem State.setDma_tl (s : State) (k : Fin 4) (x : Option DmaRun) : (s.setDma k x).tl = s.tl := rfl
@[simp] theorem State.setDma_lane (s : State) (k : Fin 4) (x : Option DmaRun) : (s.setDma k x).lane = s.lane := rfl
@[simp] theorem State.setDma_hlth (s : State) (k : Fin 4) (x : Option DmaRun) : (s.setDma k x).hlth = s.hlth := rfl
@[simp] theorem State.setDma_lsc (s : State) (k : Fin 4) (x : Option DmaRun) : (s.setDma k x).lsc = s.lsc := rfl
@[simp] theorem State.setDma_thm (s : State) (k : Fin 4) (x : Option DmaRun) : (s.setDma k x).thm = s.thm := rfl
@[simp] theorem State.setDma_cal (s : State) (k : Fin 4) (x : Option DmaRun) : (s.setDma k x).cal = s.cal := rfl
@[simp] theorem State.setDma_time (s : State) (k : Fin 4) (x : Option DmaRun) : (s.setDma k x).time = s.time := rfl
@[simp] theorem State.setDma_net (s : State) (k : Fin 4) (x : Option DmaRun) : (s.setDma k x).net = s.net := rfl
@[simp] theorem State.setDma_safe (s : State) (k : Fin 4) (x : Option DmaRun) : (s.setDma k x).safe = s.safe := rfl
@[simp] theorem State.setDma_flt (s : State) (k : Fin 4) (x : Option DmaRun) : (s.setDma k x).flt = s.flt := rfl
@[simp] theorem State.setDma_evc (s : State) (k : Fin 4) (x : Option DmaRun) : (s.setDma k x).evc = s.evc := rfl
@[simp] theorem State.setDma_peri (s : State) (k : Fin 4) (x : Option DmaRun) : (s.setDma k x).peri = s.peri := rfl
@[simp] theorem State.setDma_cvu (s : State) (k : Fin 4) (x : Option DmaRun) : (s.setDma k x).cvu = s.cvu := rfl
@[simp] theorem State.setDma_memc (s : State) (k : Fin 4) (x : Option DmaRun) : (s.setDma k x).memc = s.memc := rfl
@[simp] theorem State.setDma_pair (s : State) (k : Fin 4) (x : Option DmaRun) : (s.setDma k x).pair = s.pair := rfl
@[simp] theorem State.setDma_pwr (s : State) (k : Fin 4) (x : Option DmaRun) : (s.setDma k x).pwr = s.pwr := rfl
@[simp] theorem State.setDma_ident (s : State) (k : Fin 4) (x : Option DmaRun) : (s.setDma k x).ident = s.ident := rfl
@[simp] theorem State.setDma_regs (s : State) (k : Fin 4) (x : Option DmaRun) : (s.setDma k x).regs = s.regs := rfl
@[simp] theorem State.setDma_live (s : State) (k : Fin 4) (x : Option DmaRun) : (s.setDma k x).live = s.live := rfl
@[simp] theorem State.setDma_mem (s : State) (k : Fin 4) (x : Option DmaRun) : (s.setDma k x).mem = s.mem := rfl
@[simp] theorem State.setDma_dramGen (s : State) (k : Fin 4) (x : Option DmaRun) : (s.setDma k x).dramGen = s.dramGen := rfl
@[simp] theorem State.setDma_freeCtr (s : State) (k : Fin 4) (x : Option DmaRun) : (s.setDma k x).freeCtr = s.freeCtr := rfl
@[simp] theorem State.setDma_now (s : State) (k : Fin 4) (x : Option DmaRun) : (s.setDma k x).now = s.now := rfl
@[simp] theorem State.setDma_pending (s : State) (k : Fin 4) (x : Option DmaRun) : (s.setDma k x).pending = s.pending := rfl
@[simp] theorem State.setDma_rd (s : State) (k : Fin 4) (x : Option DmaRun) (g : Fld) : (s.setDma k x).rd g = s.rd g := rfl
@[simp] theorem State.setDma_on (s : State) (k : Fin 4) (x : Option DmaRun) (g : Fld) : (s.setDma k x).on g = s.on g := rfl
@[simp] theorem State.setDma_lv (s : State) (k : Fin 4) (x : Option DmaRun) (g : Fld) : (s.setDma k x).lv g = s.lv g := rfl
@[simp] theorem State.setDma_byte (s : State) (k : Fin 4) (x : Option DmaRun) (g : Nat) : (s.setDma k x).byte g = s.byte g := rfl

end Sys2Proof.Machine
end

