-- ==== Sys2Proof/Laws/Access.lean ====
section
/-! SUPPORT. Register writes: what an accepted write stores, and what it leaves alone. -/

namespace Sys2Proof.Machine

/-- A field outside the frame reads as before. -/
theorem Fr.rd {ks zs} {s t : State} (h : Fr ks zs s t) {f : Fld} (hf : Keys.any ks f.key = false) (hk : f.key < 2 ^ 37) : t.rd f = s.rd f := by
  show (t.regs.find f.key).getD _ = (s.regs.find f.key).getD _
  rw [h.regs _ hk (fun x hx => by
    cases hh : x.has f.key with
    | false => rfl
    | true => exact absurd hf (by rw [show Keys.any ks f.key = true from List.any_eq_true.2 ⟨x, hx, hh⟩]; exact Bool.noConfusion))]

/-- Memory outside the frame's zones reads as before. -/
theorem Fr.byte {ks zs} {s t : State} (h : Fr ks zs s t) (hz : zs.contains .mem = false) (a : Nat) : t.byte a = s.byte a := by
  have := h.zones .mem (by simpa using hz)
  unfold State.byte; rw [this.1, this.2]

/-- A write that reaches its register stores the word's plain fields, is mirrored, and then has its command's effect. -/
theorem State.busWrite_accepts {s : State} {m addr w act} (h : s.accepts m addr) :
    s.busWrite m addr w act = act (s.stored m addr w) := by
  obtain ⟨h1, h2, h3⟩ := h
  simp only [State.busWrite, State.stored, h1, h2, h3, Bool.not_true, Bool.false_eq_true, ↓reduceIte]

/-- No write to the register at `addr` stores into the field with key `k`: it lies elsewhere, or is a field of a command. -/
def rowField (addr k : Nat) : Bool :=
  match regAt addr with
  | none => true
  | some r => r.fields.all (fun d => d.row || (List.range d.n).all (fun i => (d.fld addr i).key != k))

theorem State.storeField_row {s : State} {m en acc cl row f w} {g : Fld} (h : row = true ∨ f.key ≠ g.key) :
    (State.storeField s m en acc cl row f w).1.rd g = s.rd g := by
  have hw : ∀ v, f.key ≠ g.key → (s.wr f v).rd g = s.rd g := fun v hk => State.rd_wr_ne s hk v
  unfold State.storeField
  extract_lets v
  rcases h with rfl | h
  · rw [if_pos (by simp)]
  · split
    · rfl
    · split
      · rfl
      · split
        · exact hw _ h
        · rfl
      · split
        · exact hw _ h
        · rfl
      · exact hw _ h
      · split
        · exact hw _ h
        · split
          · rfl
          · exact hw _ h
        · split
          · rfl
          · exact hw _ h

/-- A write of a word leaves every field alone that it does not store to, but for WERR flags and what the WERR event does. -/
theorem State.storeWord_row {s : State} {m addr w} {g : Fld} (h : rowField addr g.key = true) (hw : Keys.any werrKeys g.key = false)
    (hk : g.key < 2 ^ 37) : (State.storeWord s m addr w).rd g = s.rd g := by
  unfold State.storeWord
  unfold rowField at h
  split
  · rfl
  · rename_i r hr
    rw [hr] at h
    have desc : ∀ d, (d.row || (List.range d.n).all (fun i => (d.fld addr i).key != g.key)) = true → ∀ q : State × Bool, q.1.rd g = s.rd g →
        (State.storeDesc m (s.blockOn addr) addr w q d).1.rd g = s.rd g := by
      intro d hd q hq
      unfold State.storeDesc
      have key : ∀ (l : List Nat), (∀ i ∈ l, i ∈ List.range d.n) → ∀ q : State × Bool, q.1.rd g = s.rd g → (l.foldl (fun r i =>
          let q := r.1.storeField m (s.blockOn addr) d.acc d.cls d.row (d.fld addr i) w
          (q.1, r.2 || q.2)) q).1.rd g = s.rd g := by
        intro l
        induction l with
        | nil => intro _ q h; exact h
        | cons i l ih =>
          intro hl q h
          refine ih (fun j hj => hl j (List.mem_cons_of_mem _ hj)) _ ?_
          refine (State.storeField_row ?_).trans h
          simp only [Bool.or_eq_true, List.all_eq_true] at hd
          refine hd.imp id (fun hh => ?_)
          simpa using hh i (hl i (List.mem_cons_self ..))
      exact key _ (fun _ h => h) q hq
    have key : ∀ (l : List FieldDesc), (∀ d ∈ l, (d.row || (List.range d.n).all (fun i => (d.fld addr i).key != g.key)) = true) →
        ∀ q : State × Bool, q.1.rd g = s.rd g → (l.foldl (State.storeDesc m (s.blockOn addr) addr w) q).1.rd g = s.rd g := by
      intro l
      induction l with
      | nil => intro _ q h; exact h
      | cons d l ih =>
        intro hl q h
        exact ih (fun e he => hl e (List.mem_cons_of_mem _ he)) _ (desc d (hl d (List.mem_cons_self ..)) q h)
    have := key r.fields (List.all_eq_true.1 h) (s, false) rfl
    extract_lets q
    split
    · exact (Fr.rd State.werr_within hw hk).trans this
    · exact this

/-- What an accepted write has stored before its command's effect: fields that the word does not store to are as before. -/
theorem State.stored_rd {s : State} {m addr v} {g : Fld} (h : rowField addr g.key = true) (hw : Keys.any werrKeys g.key = false)
    (hk : g.key < 2 ^ 37) : (s.stored m addr v).rd g = s.rd g := by
  have : (s.stored m addr v).rd g = (State.storeWord s m addr v.toNat).rd g := by
    unfold State.stored State.mirror
    split <;> rfl
  rw [this, State.storeWord_row h hw hk]

/-- What an accepted write has stored before its command's effect: the zones other than those of events and of the pair are as before. -/
theorem State.stored_fr {s : State} {m addr v} (ha : addr < 2 ^ 32) :
    Fr [⟨0, 137438953471, 1, 0⟩] [.pwr, .flt, .evc, .pair] s (s.stored m addr v) := by
  unfold State.stored
  refine Fr.step State.mirror_fr rfl rfl (Fr.step (State.storeWord_fr (x := ⟨addr * 32, addr * 32 + 31, 32, 31⟩)
    (Keys.word_intro (by omega) (by omega) (by omega)) (fun u => State.werr_within)) ?_ rfl (Fr.refl s))
  have : Keys.le ⟨addr * 32, addr * 32 + 31, 32, 31⟩ ⟨0, 137438953471, 1, 0⟩ = true := by
    simp only [Keys.le, Bool.or_eq_true, Bool.and_eq_true, Nat.ble_eq]
    exact Or.inl ⟨rfl, by omega, by omega⟩
  simp only [subN, List.all_cons, Bool.and_eq_true]
  exact ⟨by simp only [List.any_cons, this, Bool.true_or], rfl⟩

end Sys2Proof.Machine
end

