-- ==== Sys2Proof/Laws/BankFrame.lean ====
section
/-! SUPPORT. What each operation and command of Machine/Bank.lean changes at most: register blocks and zones of the state. -/

namespace Sys2Proof.Machine

theorem State.showBank_fr {s} : Fr [⟨17196647812, 17196647812, 1, 0⟩, ⟨17196647808, 17196647808, 1, 0⟩, ⟨17196646544, 17196646544, 1, 0⟩, ⟨17196646536, 17196646536, 1, 0⟩, ⟨17198753168, 17198767504, 2048, 0⟩, ⟨17198753152, 17198767488, 2048, 0⟩] [] s (State.showBank s) := by
  unfold State.showBank
  extract_lets -merge -underBinder +onlyGivenNames x0
  extract_lets -merge -underBinder +onlyGivenNames x1
  refine Fr.cut x1 ?_ (fun h1 => ?_)
  · unfold x1
    refine Fr.wr (xs := [⟨17196647812, 17196647812, 1, 0⟩]) rfl rfl ?_
    refine Fr.wr (xs := [⟨17196647808, 17196647808, 1, 0⟩]) rfl rfl ?_
    refine Fr.wr (xs := [⟨17196646544, 17196646544, 1, 0⟩]) rfl rfl ?_
    refine Fr.wr (xs := [⟨17196646536, 17196646536, 1, 0⟩]) rfl rfl ?_
    first | assumption | exact Fr.refl _
  try clear_value x1
  refine Fr.forFin ?_ (fun i t ht => ?_)
  · first | assumption | exact Fr.refl _
  · refine Fr.wr (xs := [⟨17198753168, 17198767504, 2048, 0⟩]) (Reg.LAYER_L_WARP_STATUS_BUF_ROWS_key (by first | omega | (simp only [List.mem_range] at *; omega))) rfl ?_
    refine Fr.wr (xs := [⟨17198753152, 17198767488, 2048, 0⟩]) (Reg.LAYER_L_WARP_STATUS_FILTER_key (by first | omega | (simp only [List.mem_range] at *; omega))) rfl ?_
    first | assumption | exact Fr.refl _

theorem State.dropBank_fr {s} {a1} : Fr [⟨17196647424, 17196647424, 1, 0⟩, ⟨17196647552, 17196647552, 1, 0⟩, ⟨17196646530, 17196646530, 1, 0⟩, ⟨17196646531, 17196646531, 1, 0⟩] [.sa] s (State.dropBank s a1) := by
  unfold State.dropBank
  extract_lets -merge -underBinder +onlyGivenNames x0
  refine Fr.cut x0 ?_ (fun h0 => ?_)
  · unfold x0
    refine Fr.wr (xs := [⟨17196647424, 17196647424, 1, 0⟩, ⟨17196647552, 17196647552, 1, 0⟩]) (by unfold bankId; exact (Keys.any_ite (xs := [⟨17196647424, 17196647424, 1, 0⟩]) (ys := [⟨17196647552, 17196647552, 1, 0⟩]) rfl rfl)) rfl ?_
    refine Fr.wr (xs := [⟨17196646530, 17196646530, 1, 0⟩, ⟨17196646531, 17196646531, 1, 0⟩]) (by unfold bankValid; exact (Keys.any_ite (xs := [⟨17196646530, 17196646530, 1, 0⟩]) (ys := [⟨17196646531, 17196646531, 1, 0⟩]) rfl rfl)) rfl ?_
    first | assumption | exact Fr.refl _
  try clear_value x0
  refine Fr.set_sa rfl ?_
  first | assumption | exact Fr.refl _

theorem State.loadFail_fr {s} {a1} {a2} : Fr [⟨17196646532, 17196646532, 1, 0⟩, ⟨17196647296, 17196647296, 1, 0⟩, ⟨17196647168, 17196647168, 1, 0⟩, ⟨17196647304, 17196647304, 1, 0⟩, ⟨17196647298, 17196647298, 1, 0⟩, ⟨17196647297, 17196647297, 1, 0⟩, ⟨17181966336, 17181966336, 1, 0⟩, ⟨17181967360, 17181967360, 1, 0⟩, ⟨17186226581, 17186257301, 2048, 0⟩, ⟨17181966338, 17181966338, 1, 0⟩, ⟨17181966495, 17181966495, 1, 0⟩, ⟨17186168832, 17186169247, 1, 0⟩, ⟨17196647812, 17196647812, 1, 0⟩, ⟨17196647808, 17196647808, 1, 0⟩, ⟨17196646544, 17196646544, 1, 0⟩, ⟨17196646536, 17196646536, 1, 0⟩, ⟨17198753168, 17198767504, 2048, 0⟩, ⟨17198753152, 17198767488, 2048, 0⟩, ⟨17196647312, 17196647312, 1, 0⟩] [.sa, .flt, .pwr, .evc] s (State.loadFail s a1 a2) := by
  unfold State.loadFail
  extract_lets -merge -underBinder +onlyGivenNames x0
  extract_lets -merge -underBinder +onlyGivenNames x1
  refine Fr.cut x1 ?_ (fun h1 => ?_)
  · unfold x1
    refine Fr.set_sa rfl ?_
    first | assumption | exact Fr.refl _
  try clear_value x1
  extract_lets -merge -underBinder +onlyGivenNames x2
  refine Fr.cut x2 ?_ (fun h2 => ?_)
  · unfold x2
    refine Fr.wr (xs := [⟨17196646532, 17196646532, 1, 0⟩]) rfl rfl ?_
    refine Fr.wr (xs := [⟨17196647296, 17196647296, 1, 0⟩]) rfl rfl ?_
    refine Fr.wr (xs := [⟨17196647168, 17196647168, 1, 0⟩]) rfl rfl ?_
    first | assumption | exact Fr.refl _
  try clear_value x2
  extract_lets -merge -underBinder +onlyGivenNames x3
  refine Fr.cut x3 ?_ (fun h3 => ?_)
  · unfold x3
    refine Fr.wr (xs := [⟨17196647304, 17196647304, 1, 0⟩]) rfl rfl ?_
    refine Fr.wr (xs := [⟨17196647298, 17196647298, 1, 0⟩]) rfl rfl ?_
    refine Fr.wr (xs := [⟨17196647297, 17196647297, 1, 0⟩]) rfl rfl ?_
    first | assumption | exact Fr.refl _
  try clear_value x3
  refine Fr.step State.raise_fr rfl rfl ?_
  refine Fr.step State.fire_fr rfl rfl ?_
  refine Fr.step State.showBank_fr rfl rfl ?_
  refine Fr.wr (xs := [⟨17196647312, 17196647312, 1, 0⟩]) rfl rfl ?_
  first | assumption | exact Fr.refl _

theorem State.switchTo_fr {s} {a1} : Fr [⟨17181966336, 17181966336, 1, 0⟩, ⟨17181967360, 17181967360, 1, 0⟩, ⟨17186226581, 17186257301, 2048, 0⟩, ⟨17181966338, 17181966338, 1, 0⟩, ⟨17181966495, 17181966495, 1, 0⟩, ⟨17186168832, 17186169247, 1, 0⟩, ⟨17196647812, 17196647812, 1, 0⟩, ⟨17196647808, 17196647808, 1, 0⟩, ⟨17196646544, 17196646544, 1, 0⟩, ⟨17196646536, 17196646536, 1, 0⟩, ⟨17198753168, 17198767504, 2048, 0⟩, ⟨17198753152, 17198767488, 2048, 0⟩, ⟨17196646533, 17196646533, 1, 0⟩, ⟨17196646529, 17196646529, 1, 0⟩] [.pwr, .flt, .evc] s (State.switchTo s a1) := by
  unfold State.switchTo
  refine Fr.step State.fire_fr rfl rfl ?_
  refine Fr.step State.showBank_fr rfl rfl ?_
  refine Fr.wr (xs := [⟨17196646533, 17196646533, 1, 0⟩]) rfl rfl ?_
  refine Fr.wr (xs := [⟨17196646529, 17196646529, 1, 0⟩]) rfl rfl ?_
  first | assumption | exact Fr.refl _

end Sys2Proof.Machine
end

