-- ==== Sys2Proof/Laws/CommitFrame.lean ====
section
/-! SUPPORT. What each operation and command of Machine/Commit.lean changes at most: register blocks and zones of the state. -/

namespace Sys2Proof.Machine

theorem State.applySet_fr {s xs} : Fr [] [.live] s (State.applySet s xs) := by
  unfold State.applySet
  exact Fr.foldl (Fr.refl _) (fun t x ht => Fr.wl rfl ht)

end Sys2Proof.Machine
end

