-- ==== Sys2Proof/Laws/ThmOpsFrame.lean ====
section
/-! SUPPORT. What each operation and command of Machine/ThmOps.lean changes at most: register blocks and zones of the state. -/

namespace Sys2Proof.Machine

theorem State.setZone_fr {s} {a1} {a2} : Fr [] [.thm] s (State.setZone s a1 a2) := by
  unfold State.setZone
  refine Fr.set_thm rfl ?_
  first | assumption | exact Fr.refl _

theorem State.setTile_fr {s} {a1} {a2} : Fr [] [.thm] s (State.setTile s a1 a2) := by
  unfold State.setTile
  refine Fr.set_thm rfl ?_
  first | assumption | exact Fr.refl _

theorem State.showZlim_fr {s} : Fr [⟨17211359376, 17211408272, 256, 0⟩] [] s (State.showZlim s) := by
  unfold State.showZlim
  refine Fr.forFin ?_ (fun i t ht => ?_)
  · first | assumption | exact Fr.refl _
  · refine Fr.wr (xs := [⟨17211359376, 17211408272, 256, 0⟩]) (Reg.THM_ZLIM_ZLIM_key (by first | omega | (simp only [List.mem_range] at *; omega))) rfl ?_
    first | assumption | exact Fr.refl _

theorem State.limitZone_fr {s} {a1} : Fr [⟨17211359360, 17211408256, 256, 0⟩, ⟨17211359384, 17211408280, 256, 0⟩, ⟨17211359368, 17211408264, 256, 0⟩] [] s (State.limitZone s a1).1 := by
  unfold State.limitZone
  extract_lets -merge -underBinder +onlyGivenNames x0
  extract_lets -merge -underBinder +onlyGivenNames x1
  try clear_value (e1 : x1 = _)
  extract_lets -merge -underBinder +onlyGivenNames x2
  try clear_value (e2 : x2 = _)
  extract_lets -merge -underBinder +onlyGivenNames x3
  refine Fr.cut x3 ?_ (fun h3 => ?_)
  · unfold x3
    refine Fr.wr (xs := [⟨17211359360, 17211408256, 256, 0⟩]) (Reg.THM_ZLIM_K_key (by first | omega | (simp only [List.mem_range] at *; omega))) rfl ?_
    first | assumption | exact Fr.refl _
  try clear_value x3
  extract_lets -merge -underBinder +onlyGivenNames x4
  refine Fr.cut x4 ?_ (fun h4 => ?_)
  · unfold x4
    refine Fr.iteh (fun _ => ?_) (fun _ => ?_)
    · refine Fr.wr (xs := [⟨17211359384, 17211408280, 256, 0⟩]) (Reg.THM_ZLIM_ZREF_key (by first | omega | (simp only [List.mem_range] at *; omega))) rfl ?_
      first | assumption | exact Fr.refl _
    · first | assumption | exact Fr.refl _
  try clear_value x4
  extract_lets -merge -underBinder +onlyGivenNames x5
  try clear_value (e5 : x5 = _)
  refine Fr.mk1 ?_
  refine Fr.wr (xs := [⟨17211359368, 17211408264, 256, 0⟩]) (Reg.THM_ZLIM_ZT_key (by first | omega | (simp only [List.mem_range] at *; omega))) rfl ?_
  first | assumption | exact Fr.refl _

theorem State.limitZones_fr {s} : Fr [⟨17211359360, 17211408256, 256, 0⟩, ⟨17211359384, 17211408280, 256, 0⟩, ⟨17211359368, 17211408264, 256, 0⟩, ⟨17211326597, 17211326597, 1, 0⟩, ⟨17211359376, 17211408272, 256, 0⟩, ⟨17211326598, 17211326598, 1, 0⟩, ⟨17181966336, 17181966336, 1, 0⟩, ⟨17181967360, 17181967360, 1, 0⟩, ⟨17186226581, 17186257301, 2048, 0⟩, ⟨17181966338, 17181966338, 1, 0⟩, ⟨17181966495, 17181966495, 1, 0⟩, ⟨17186168832, 17186169247, 1, 0⟩] [.pwr, .flt, .evc] s (State.limitZones s) := by
  unfold State.limitZones
  extract_lets -merge -underBinder +onlyGivenNames x0
  refine Fr.cut x0.1 ?_ (fun h0 => ?_)
  · unfold x0
    refine Fr.foldl1 ?_ (fun t x ht => ?_)
    · refine Fr.mk1 ?_
      first | assumption | exact Fr.refl _
    · extract_lets -merge -underBinder +onlyGivenNames x1
      refine Fr.cut x1.1 ?_ (fun h1 => ?_)
      · unfold x1
        refine Fr.step State.limitZone_fr rfl rfl ?_
        first | assumption | exact Fr.refl _
      try clear_value x1
      refine Fr.mk1 ?_
      first | assumption | exact Fr.refl _
  try clear_value x0
  extract_lets -merge -underBinder +onlyGivenNames x2
  refine Fr.cut x2 ?_ (fun h2 => ?_)
  · unfold x2
    first | assumption | exact Fr.refl _
  try clear_value x2
  extract_lets -merge -underBinder +onlyGivenNames x3
  refine Fr.cut x3 ?_ (fun h3 => ?_)
  · unfold x3
    refine Fr.wrB (xs := [⟨17211326597, 17211326597, 1, 0⟩]) rfl rfl ?_
    first | assumption | exact Fr.refl _
  try clear_value x3
  extract_lets -merge -underBinder +onlyGivenNames x4
  refine Fr.cut x4 ?_ (fun h4 => ?_)
  · unfold x4
    refine Fr.step State.showZlim_fr rfl rfl ?_
    refine Fr.wrB (xs := [⟨17211326598, 17211326598, 1, 0⟩]) rfl rfl ?_
    first | assumption | exact Fr.refl _
  try clear_value x4
  refine Fr.iteh (fun _ => ?_) (fun _ => ?_)
  · refine Fr.step State.fire_fr rfl rfl ?_
    first | assumption | exact Fr.refl _
  · first | assumption | exact Fr.refl _

theorem State.zonePowers_fr {s} : Fr [] [.thm] s (State.zonePowers s) := by
  unfold State.zonePowers
  refine Fr.forFin ?_ (fun i t ht => ?_)
  · first | assumption | exact Fr.refl _
  · refine Fr.step State.setZone_fr rfl rfl ?_
    first | assumption | exact Fr.refl _

theorem State.takePower_fr {s} {a1} : Fr [] [.thm] s (State.takePower s a1) := by
  unfold State.takePower
  extract_lets -merge -underBinder +onlyGivenNames x0
  extract_lets -merge -underBinder +onlyGivenNames x1
  refine Fr.cut x1 ?_ (fun h1 => ?_)
  · unfold x1
    refine Fr.set_thm rfl ?_
    first | assumption | exact Fr.refl _
  try clear_value x1
  refine Fr.step State.zonePowers_fr rfl rfl ?_
  refine Fr.forFin ?_ (fun i t ht => ?_)
  · first | assumption | exact Fr.refl _
  · refine Fr.step State.setZone_fr rfl rfl ?_
    first | assumption | exact Fr.refl _

theorem State.takeRecords_fr {s} {a1} : Fr [] [.thm] s (State.takeRecords s a1) := by
  unfold State.takeRecords
  refine Fr.forFin ?_ (fun i t ht => ?_)
  · first | assumption | exact Fr.refl _
  · refine Fr.step State.setZone_fr rfl rfl ?_
    first | assumption | exact Fr.refl _

theorem State.showSuspect_fr {s} : Fr [⟨17211326596, 17211326596, 1, 0⟩] [] s (State.showSuspect s) := by
  unfold State.showSuspect
  extract_lets -merge -underBinder +onlyGivenNames x0
  try clear_value x0
  extract_lets -merge -underBinder +onlyGivenNames x1
  try clear_value x1
  refine Fr.wrB (xs := [⟨17211326596, 17211326596, 1, 0⟩]) rfl rfl ?_
  first | assumption | exact Fr.refl _

theorem State.sensorFault_fr {s} {a1} : Fr [⟨17181966336, 17181966336, 1, 0⟩, ⟨17181967360, 17181967360, 1, 0⟩, ⟨17186226581, 17186257301, 2048, 0⟩, ⟨17181966338, 17181966338, 1, 0⟩, ⟨17181966495, 17181966495, 1, 0⟩, ⟨17186168832, 17186169247, 1, 0⟩] [.flt, .pwr, .evc] s (State.sensorFault s a1) := by
  unfold State.sensorFault
  refine Fr.step State.raise_fr rfl rfl ?_
  refine Fr.step State.fire_fr rfl rfl ?_
  first | assumption | exact Fr.refl _

theorem State.takeTemp_fr {s} {a1} {a2} {a3} : Fr [⟨17181966336, 17181966336, 1, 0⟩, ⟨17181967360, 17181967360, 1, 0⟩, ⟨17186226581, 17186257301, 2048, 0⟩, ⟨17181966338, 17181966338, 1, 0⟩, ⟨17181966495, 17181966495, 1, 0⟩, ⟨17186168832, 17186169247, 1, 0⟩] [.thm, .flt, .pwr, .evc] s (State.takeTemp s a1 a2 a3) := by
  unfold State.takeTemp
  extract_lets -merge -underBinder +onlyGivenNames x0
  extract_lets -merge -underBinder +onlyGivenNames x1
  try clear_value x1
  extract_lets -merge -underBinder +onlyGivenNames x2
  refine Fr.cut x2 ?_ (fun h2 => ?_)
  · unfold x2
    refine Fr.step State.setTile_fr rfl rfl ?_
    first | assumption | exact Fr.refl _
  try clear_value x2
  refine Fr.iteh (fun _ => ?_) (fun _ => ?_)
  · refine Fr.step State.sensorFault_fr rfl rfl ?_
    first | assumption | exact Fr.refl _
  · first | assumption | exact Fr.refl _

theorem State.thmHealth_fr {s} {a1} {a2} : Fr [⟨17211326596, 17211326596, 1, 0⟩, ⟨17181966336, 17181966336, 1, 0⟩, ⟨17181967360, 17181967360, 1, 0⟩, ⟨17186226581, 17186257301, 2048, 0⟩, ⟨17181966338, 17181966338, 1, 0⟩, ⟨17181966495, 17181966495, 1, 0⟩, ⟨17186168832, 17186169247, 1, 0⟩] [.thm, .flt, .pwr, .evc] s (State.thmHealth s a1 a2) := by
  unfold State.thmHealth
  refine Fr.step State.showSuspect_fr rfl rfl ?_
  refine Fr.forFin ?_ (fun i t ht => ?_)
  · first | assumption | exact Fr.refl _
  · extract_lets -merge -underBinder +onlyGivenNames x0
    try clear_value (e0 : x0 = _)
    refine Fr.step State.takeTemp_fr rfl rfl ?_
    first | assumption | exact Fr.refl _

theorem State.thmSilent_fr {s} {a1} : Fr [⟨17211326596, 17211326596, 1, 0⟩, ⟨17181966336, 17181966336, 1, 0⟩, ⟨17181967360, 17181967360, 1, 0⟩, ⟨17186226581, 17186257301, 2048, 0⟩, ⟨17181966338, 17181966338, 1, 0⟩, ⟨17181966495, 17181966495, 1, 0⟩, ⟨17186168832, 17186169247, 1, 0⟩] [.thm, .flt, .pwr, .evc] s (State.thmSilent s a1) := by
  unfold State.thmSilent
  refine Fr.step State.showSuspect_fr rfl rfl ?_
  refine Fr.forFin ?_ (fun i t ht => ?_)
  · first | assumption | exact Fr.refl _
  · refine Fr.step State.takeTemp_fr rfl rfl ?_
    first | assumption | exact Fr.refl _

end Sys2Proof.Machine
end

