-- ==== Sys2Proof/Laws/TlOpsFrame.lean ====
section
/-! SUPPORT. What each operation and command of Machine/TlOps.lean changes at most: register blocks and zones of the state. -/

namespace Sys2Proof.Machine

theorem State.setLane_fr {s} {a1} {a2} : Fr [] [.lane] s (State.setLane s a1 a2) := by
  unfold State.setLane
  refine Fr.set_lane rfl ?_
  first | assumption | exact Fr.refl _

theorem State.laneState_fr {s} {a1} {a2} : Fr [⟨17205035136, 17205149824, 8192, 0⟩, ⟨17181966336, 17181966336, 1, 0⟩, ⟨17181967360, 17181967360, 1, 0⟩, ⟨17186226581, 17186257301, 2048, 0⟩, ⟨17181966338, 17181966338, 1, 0⟩, ⟨17181966495, 17181966495, 1, 0⟩, ⟨17186168832, 17186169247, 1, 0⟩] [.pwr, .flt, .evc] s (State.laneState s a1 a2) := by
  unfold State.laneState
  extract_lets -merge -underBinder +onlyGivenNames x0
  try clear_value (e0 : x0 = _)
  extract_lets -merge -underBinder +onlyGivenNames x1
  refine Fr.cut x1 ?_ (fun h1 => ?_)
  · unfold x1
    refine Fr.wr (xs := [⟨17205035136, 17205149824, 8192, 0⟩]) (Reg.LANE_STATUS_STATE_key (by first | omega | (simp only [List.mem_range] at *; omega))) rfl ?_
    first | assumption | exact Fr.refl _
  try clear_value x1
  refine Fr.iteh (fun _ => ?_) (fun _ => ?_)
  · refine Fr.step State.fire_fr rfl rfl ?_
    first | assumption | exact Fr.refl _
  · first | assumption | exact Fr.refl _

theorem State.showEye_fr {s} {a1} {a2} {a3} : Fr [⟨17205035280, 17205149968, 8192, 0⟩, ⟨17205035272, 17205149960, 8192, 0⟩, ⟨17205035264, 17205149952, 8192, 0⟩] [] s (State.showEye s a1 a2 a3) := by
  unfold State.showEye
  refine Fr.wr (xs := [⟨17205035280, 17205149968, 8192, 0⟩]) (Reg.LANE_EYE_V_key (by first | omega | (simp only [List.mem_range] at *; omega))) rfl ?_
  refine Fr.wr (xs := [⟨17205035272, 17205149960, 8192, 0⟩]) (Reg.LANE_EYE_H_key (by first | omega | (simp only [List.mem_range] at *; omega))) rfl ?_
  refine Fr.wr (xs := [⟨17205035264, 17205149952, 8192, 0⟩]) (Reg.LANE_EYE_SCORE_key (by first | omega | (simp only [List.mem_range] at *; omega))) rfl ?_
  first | assumption | exact Fr.refl _

theorem State.laneUnlock_fr {s} {a1} : Fr [⟨17205035141, 17205149829, 8192, 0⟩, ⟨17205035140, 17205149828, 8192, 0⟩] [] s (State.laneUnlock s a1) := by
  unfold State.laneUnlock
  refine Fr.wr (xs := [⟨17205035141, 17205149829, 8192, 0⟩]) (Reg.LANE_STATUS_BLOCK_LOCK_key (by first | omega | (simp only [List.mem_range] at *; omega))) rfl ?_
  refine Fr.wr (xs := [⟨17205035140, 17205149828, 8192, 0⟩]) (Reg.LANE_STATUS_CDR_LOCK_key (by first | omega | (simp only [List.mem_range] at *; omega))) rfl ?_
  first | assumption | exact Fr.refl _

theorem State.showRate_fr {s} {a1} : Fr [⟨17205035139, 17205149827, 8192, 0⟩, ⟨17205035141, 17205149829, 8192, 0⟩, ⟨17205035140, 17205149828, 8192, 0⟩, ⟨17205035136, 17205149824, 8192, 0⟩, ⟨17181966336, 17181966336, 1, 0⟩, ⟨17181967360, 17181967360, 1, 0⟩, ⟨17186226581, 17186257301, 2048, 0⟩, ⟨17181966338, 17181966338, 1, 0⟩, ⟨17181966495, 17181966495, 1, 0⟩, ⟨17186168832, 17186169247, 1, 0⟩] [.pwr, .flt, .evc] s (State.showRate s a1) := by
  unfold State.showRate
  refine Fr.iteh (fun _ => ?_) (fun _ => ?_)
  · first | assumption | exact Fr.refl _
  · extract_lets -merge -underBinder +onlyGivenNames x0
    try clear_value (e0 : x0 = _)
    extract_lets -merge -underBinder +onlyGivenNames x1
    refine Fr.cut x1 ?_ (fun h1 => ?_)
    · unfold x1
      refine Fr.wr (xs := [⟨17205035139, 17205149827, 8192, 0⟩]) (Reg.LANE_STATUS_RATE_key (by first | omega | (simp only [List.mem_range] at *; omega))) rfl ?_
      first | assumption | exact Fr.refl _
    try clear_value x1
    refine Fr.iteh (fun _ => ?_) (fun _ => ?_)
    · first | assumption | exact Fr.refl _
    · extract_lets -merge -underBinder +onlyGivenNames x2
      refine Fr.cut x2 ?_ (fun h2 => ?_)
      · unfold x2
        refine Fr.step State.laneUnlock_fr rfl rfl ?_
        first | assumption | exact Fr.refl _
      try clear_value x2
      extract_lets -merge -underBinder +onlyGivenNames x3
      try clear_value (e3 : x3 = _)
      refine Fr.iteh (fun _ => ?_) (fun _ => ?_)
      · refine Fr.step State.laneState_fr rfl rfl ?_
        first | assumption | exact Fr.refl _
      · first | assumption | exact Fr.refl _

theorem State.showLane_fr {s} {a1} : Fr [⟨17205035139, 17205149827, 8192, 0⟩, ⟨17205035141, 17205149829, 8192, 0⟩, ⟨17205035140, 17205149828, 8192, 0⟩, ⟨17205035136, 17205149824, 8192, 0⟩, ⟨17181966336, 17181966336, 1, 0⟩, ⟨17181967360, 17181967360, 1, 0⟩, ⟨17186226581, 17186257301, 2048, 0⟩, ⟨17181966338, 17181966338, 1, 0⟩, ⟨17181966495, 17181966495, 1, 0⟩, ⟨17186168832, 17186169247, 1, 0⟩] [.pwr, .flt, .evc] s (State.showLane s a1) := by
  unfold State.showLane
  extract_lets -merge -underBinder +onlyGivenNames x0
  refine Fr.cut x0 ?_ (fun h0 => ?_)
  · unfold x0
    refine Fr.iteh (fun _ => ?_) (fun _ => ?_)
    · refine Fr.step State.showRate_fr rfl rfl ?_
      first | assumption | exact Fr.refl _
    · first | assumption | exact Fr.refl _
  try clear_value x0
  extract_lets -merge -underBinder +onlyGivenNames x1
  try clear_value (e1 : x1 = _)
  refine Fr.iteh (fun _ => ?_) (fun _ => ?_)
  · refine Fr.iteh (fun _ => ?_) (fun _ => ?_)
    · first | assumption | exact Fr.refl _
    · refine Fr.step State.laneState_fr rfl rfl ?_
      first | assumption | exact Fr.refl _
  · refine Fr.iteh (fun _ => ?_) (fun _ => ?_)
    · refine Fr.iteh (fun _ => ?_) (fun _ => ?_)
      · first | assumption | exact Fr.refl _
      · refine Fr.step State.laneState_fr rfl rfl ?_
        first | assumption | exact Fr.refl _
    · refine Fr.iteh (fun _ => ?_) (fun _ => ?_)
      · refine Fr.step State.laneState_fr rfl rfl ?_
        first | assumption | exact Fr.refl _
      · first | assumption | exact Fr.refl _

theorem State.laneBlock_fr {s} {a1} {a2} : Fr [] [.lane] s (State.laneBlock s a1 a2) := by
  unfold State.laneBlock
  extract_lets -merge -underBinder +onlyGivenNames x0
  extract_lets -merge -underBinder +onlyGivenNames x1
  try clear_value x1
  extract_lets -merge -underBinder +onlyGivenNames x2
  try clear_value (e2 : x2 = _)
  refine Fr.step State.setLane_fr rfl rfl ?_
  first | assumption | exact Fr.refl _

theorem State.lanePacket_fr {s} {a1} {a2} : Fr [] [.lane] s (State.lanePacket s a1 a2) := by
  unfold State.lanePacket
  refine Fr.foldl' ?_ (fun t x hx ht => ?_)
  · first | assumption | exact Fr.refl _
  · refine Fr.step State.laneBlock_fr rfl rfl ?_
    first | assumption | exact Fr.refl _

theorem State.setPort_fr {s} {a1} {a2} : Fr [] [.tl] s (State.setPort s a1 a2) := by
  unfold State.setPort
  refine Fr.set_tl rfl ?_
  first | assumption | exact Fr.refl _

theorem State.tlSet_fr {s} {a1} {a2} : Fr [⟨17205035139, 17205149827, 8192, 0⟩, ⟨17205035141, 17205149829, 8192, 0⟩, ⟨17205035140, 17205149828, 8192, 0⟩, ⟨17205035136, 17205149824, 8192, 0⟩, ⟨17181966336, 17181966336, 1, 0⟩, ⟨17181967360, 17181967360, 1, 0⟩, ⟨17186226581, 17186257301, 2048, 0⟩, ⟨17181966338, 17181966338, 1, 0⟩, ⟨17181966495, 17181966495, 1, 0⟩, ⟨17186168832, 17186169247, 1, 0⟩, ⟨17202937984, 17204379776, 131072, 0⟩] [.pwr, .flt, .evc] s (State.tlSet s a1 a2) := by
  unfold State.tlSet
  refine Fr.iteh (fun _ => ?_) (fun _ => ?_)
  · refine Fr.step State.showLane_fr rfl rfl ?_
    first | assumption | exact Fr.refl _
  · refine Fr.step State.fire_fr rfl rfl ?_
    refine Fr.step State.showLane_fr rfl rfl ?_
    refine Fr.wr (xs := [⟨17202937984, 17204379776, 131072, 0⟩]) (Reg.TL_STATUS_STATE_key (by first | omega | (simp only [List.mem_range] at *; omega))) rfl ?_
    first | assumption | exact Fr.refl _

theorem State.tlSend_fr {s} {a1} {a2} {a3} {a4} {a5} : Fr [] [.lane, .tl] s (State.tlSend s a1 a2 a3 a4 a5) := by
  unfold State.tlSend
  refine Fr.iteh (fun _ => ?_) (fun _ => ?_)
  · first | assumption | exact Fr.refl _
  · extract_lets -merge -underBinder +onlyGivenNames x0
    try clear_value x0
    refine Fr.step State.lanePacket_fr rfl rfl ?_
    refine Fr.step State.setPort_fr rfl rfl ?_
    first | assumption | exact Fr.refl _

theorem State.tlIdle_fr {s} {a1} : Fr [] [.lane, .tl] s (State.tlIdle s a1) := by
  unfold State.tlIdle
  refine Fr.step State.tlSend_fr rfl rfl ?_
  first | assumption | exact Fr.refl _

theorem State.tlConfig_fr {s} {a1} : Fr [] [.lane, .tl] s (State.tlConfig s a1) := by
  unfold State.tlConfig
  extract_lets -merge -underBinder +onlyGivenNames x0
  try clear_value x0
  extract_lets -merge -underBinder +onlyGivenNames x1
  try clear_value (e1 : x1 = _)
  extract_lets -merge -underBinder +onlyGivenNames x2
  try clear_value (e2 : x2 = _)
  extract_lets -merge -underBinder +onlyGivenNames x3
  try clear_value (e3 : x3 = _)
  extract_lets -merge -underBinder +onlyGivenNames x4
  try clear_value (e4 : x4 = _)
  extract_lets -merge -underBinder +onlyGivenNames x5
  try clear_value (e5 : x5 = _)
  refine Fr.step State.tlSend_fr rfl rfl ?_
  first | assumption | exact Fr.refl _

theorem State.tlClaim_fr {s} {a1} : Fr [] [.lane, .tl] s (State.tlClaim s a1) := by
  unfold State.tlClaim
  refine Fr.step State.tlSend_fr rfl rfl ?_
  first | assumption | exact Fr.refl _

theorem State.tlCap_fr {s} {a1} {a2} {a3} : Fr [⟨17202941824, 17204383616, 131072, 0⟩] [.lane, .tl] s (State.tlCap s a1 a2 a3) := by
  unfold State.tlCap
  extract_lets -merge -underBinder +onlyGivenNames x0
  try clear_value (e0 : x0 = _)
  extract_lets -merge -underBinder +onlyGivenNames x1
  refine Fr.cut x1 ?_ (fun h1 => ?_)
  · unfold x1
    refine Fr.step State.tlSend_fr rfl rfl ?_
    refine Fr.wr (xs := [⟨17202941824, 17204383616, 131072, 0⟩]) (Reg.TL_CAP_SENT_SEQ_key (by first | omega | (simp only [List.mem_range] at *; omega))) rfl ?_
    first | assumption | exact Fr.refl _
  try clear_value x1
  refine Fr.step State.setPort_fr rfl rfl ?_
  first | assumption | exact Fr.refl _

theorem State.tlLeave_fr {s} {a1} {a2} : Fr [⟨17205035139, 17205149827, 8192, 0⟩, ⟨17205035141, 17205149829, 8192, 0⟩, ⟨17205035140, 17205149828, 8192, 0⟩, ⟨17205035136, 17205149824, 8192, 0⟩, ⟨17181966336, 17181966336, 1, 0⟩, ⟨17181967360, 17181967360, 1, 0⟩, ⟨17186226581, 17186257301, 2048, 0⟩, ⟨17181966338, 17181966338, 1, 0⟩, ⟨17181966495, 17181966495, 1, 0⟩, ⟨17186168832, 17186169247, 1, 0⟩, ⟨17202937984, 17204379776, 131072, 0⟩] [.pwr, .flt, .evc, .tl] s (State.tlLeave s a1 a2) := by
  unfold State.tlLeave
  extract_lets -merge -underBinder +onlyGivenNames x0
  extract_lets -merge -underBinder +onlyGivenNames x1
  try clear_value x1
  refine Fr.step State.tlSet_fr rfl rfl ?_
  refine Fr.step State.setPort_fr rfl rfl ?_
  first | assumption | exact Fr.refl _

theorem State.tlTrain_fr {s} {a1} : Fr [⟨17205035139, 17205149827, 8192, 0⟩, ⟨17205035141, 17205149829, 8192, 0⟩, ⟨17205035140, 17205149828, 8192, 0⟩, ⟨17205035136, 17205149824, 8192, 0⟩, ⟨17181966336, 17181966336, 1, 0⟩, ⟨17181967360, 17181967360, 1, 0⟩, ⟨17186226581, 17186257301, 2048, 0⟩, ⟨17181966338, 17181966338, 1, 0⟩, ⟨17181966495, 17181966495, 1, 0⟩, ⟨17186168832, 17186169247, 1, 0⟩, ⟨17202937984, 17204379776, 131072, 0⟩, ⟨17202937989, 17204379781, 131072, 0⟩, ⟨17202937987, 17204379779, 131072, 0⟩, ⟨17202941712, 17204383504, 131072, 0⟩] [.pwr, .flt, .evc, .tl] s (State.tlTrain s a1) := by
  unfold State.tlTrain
  refine Fr.iteh (fun _ => ?_) (fun _ => ?_)
  · first | assumption | exact Fr.refl _
  · refine Fr.iteh (fun _ => ?_) (fun _ => ?_)
    · refine Fr.step State.tlSet_fr rfl rfl ?_
      first | assumption | exact Fr.refl _
    · extract_lets -merge -underBinder +onlyGivenNames x0
      refine Fr.cut x0 ?_ (fun h0 => ?_)
      · unfold x0
        refine Fr.wr (xs := [⟨17205035139, 17205149827, 8192, 0⟩]) (Reg.LANE_STATUS_RATE_key (by first | omega | (simp only [List.mem_range] at *; omega))) rfl ?_
        refine Fr.wr (xs := [⟨17202937989, 17204379781, 131072, 0⟩]) (Reg.TL_STATUS_RATE_key (by first | omega | (simp only [List.mem_range] at *; omega))) rfl ?_
        refine Fr.wr (xs := [⟨17202937987, 17204379779, 131072, 0⟩]) (Reg.TL_STATUS_VER_key (by first | omega | (simp only [List.mem_range] at *; omega))) rfl ?_
        first | assumption | exact Fr.refl _
      try clear_value x0
      extract_lets -merge -underBinder +onlyGivenNames x1
      refine Fr.cut x1 ?_ (fun h1 => ?_)
      · unfold x1
        refine Fr.step State.laneUnlock_fr rfl rfl ?_
        refine Fr.inc (xs := [⟨17202941712, 17204383504, 131072, 0⟩]) (Reg.TL_CNT2_RETRAIN_key (by first | omega | (simp only [List.mem_range] at *; omega))) rfl ?_
        first | assumption | exact Fr.refl _
      try clear_value x1
      extract_lets -merge -underBinder +onlyGivenNames x2
      extract_lets -merge -underBinder +onlyGivenNames x3
      refine Fr.cut x3 ?_ (fun h3 => ?_)
      · unfold x3
        refine Fr.step State.setPort_fr rfl rfl ?_
        first | assumption | exact Fr.refl _
      try clear_value x3
      extract_lets -merge -underBinder +onlyGivenNames x4
      refine Fr.cut x4 ?_ (fun h4 => ?_)
      · unfold x4
        refine Fr.step State.laneState_fr rfl rfl ?_
        first | assumption | exact Fr.refl _
      try clear_value x4
      refine Fr.step State.tlSet_fr rfl rfl ?_
      first | assumption | exact Fr.refl _

theorem State.tlLost_fr {s} {a1} : Fr [⟨17205035139, 17205149827, 8192, 0⟩, ⟨17205035141, 17205149829, 8192, 0⟩, ⟨17205035140, 17205149828, 8192, 0⟩, ⟨17205035136, 17205149824, 8192, 0⟩, ⟨17181966336, 17181966336, 1, 0⟩, ⟨17181967360, 17181967360, 1, 0⟩, ⟨17186226581, 17186257301, 2048, 0⟩, ⟨17181966338, 17181966338, 1, 0⟩, ⟨17181966495, 17181966495, 1, 0⟩, ⟨17186168832, 17186169247, 1, 0⟩, ⟨17202937984, 17204379776, 131072, 0⟩] [.pwr, .flt, .evc, .tl] s (State.tlLost s a1) := by
  unfold State.tlLost
  extract_lets -merge -underBinder +onlyGivenNames x0
  try clear_value (e0 : x0 = _)
  extract_lets -merge -underBinder +onlyGivenNames x1
  refine Fr.cut x1 ?_ (fun h1 => ?_)
  · unfold x1
    refine Fr.step State.tlLeave_fr rfl rfl ?_
    first | assumption | exact Fr.refl _
  try clear_value x1
  refine Fr.iteh (fun _ => ?_) (fun _ => ?_)
  · refine Fr.step State.raise_fr rfl rfl ?_
    first | assumption | exact Fr.refl _
  · first | assumption | exact Fr.refl _

theorem State.tlFail_fr {s} {a1} {a2} : Fr [⟨17181966336, 17181966336, 1, 0⟩, ⟨17181967360, 17181967360, 1, 0⟩, ⟨17186226581, 17186257301, 2048, 0⟩, ⟨17181966338, 17181966338, 1, 0⟩, ⟨17181966495, 17181966495, 1, 0⟩, ⟨17186168832, 17186169247, 1, 0⟩, ⟨17202938112, 17204379904, 131072, 0⟩, ⟨17205035139, 17205149827, 8192, 0⟩, ⟨17205035141, 17205149829, 8192, 0⟩, ⟨17205035140, 17205149828, 8192, 0⟩, ⟨17205035136, 17205149824, 8192, 0⟩, ⟨17202937984, 17204379776, 131072, 0⟩] [.pwr, .flt, .evc, .tl] s (State.tlFail s a1 a2) := by
  unfold State.tlFail
  extract_lets -merge -underBinder +onlyGivenNames x0
  refine Fr.cut x0 ?_ (fun h0 => ?_)
  · unfold x0
    refine Fr.step State.fire_fr rfl rfl ?_
    refine Fr.wr (xs := [⟨17202938112, 17204379904, 131072, 0⟩]) (Reg.TL_TRAIN_ERR_CODE_key (by first | omega | (simp only [List.mem_range] at *; omega))) rfl ?_
    first | assumption | exact Fr.refl _
  try clear_value x0
  refine Fr.step State.raise_fr rfl rfl ?_
  refine Fr.step State.tlLeave_fr rfl rfl ?_
  first | assumption | exact Fr.refl _

theorem State.tlFence_fr {s} {a1} : Fr [⟨17205035139, 17205149827, 8192, 0⟩, ⟨17205035141, 17205149829, 8192, 0⟩, ⟨17205035140, 17205149828, 8192, 0⟩, ⟨17205035136, 17205149824, 8192, 0⟩, ⟨17181966336, 17181966336, 1, 0⟩, ⟨17181967360, 17181967360, 1, 0⟩, ⟨17186226581, 17186257301, 2048, 0⟩, ⟨17181966338, 17181966338, 1, 0⟩, ⟨17181966495, 17181966495, 1, 0⟩, ⟨17186168832, 17186169247, 1, 0⟩, ⟨17202937984, 17204379776, 131072, 0⟩, ⟨17202937865, 17204379657, 131072, 0⟩, ⟨17202937993, 17204379785, 131072, 0⟩] [.pwr, .flt, .evc, .tl] s (State.tlFence s a1) := by
  unfold State.tlFence
  refine Fr.step State.tlLeave_fr rfl rfl ?_
  refine Fr.wr (xs := [⟨17202937865, 17204379657, 131072, 0⟩]) (Reg.TL_CTRL_FENCE_key (by first | omega | (simp only [List.mem_range] at *; omega))) rfl ?_
  refine Fr.wr (xs := [⟨17202937993, 17204379785, 131072, 0⟩]) (Reg.TL_STATUS_FENCED_key (by first | omega | (simp only [List.mem_range] at *; omega))) rfl ?_
  first | assumption | exact Fr.refl _

theorem State.tlSilence_fr {s} {a1} : Fr [⟨17205035139, 17205149827, 8192, 0⟩, ⟨17205035141, 17205149829, 8192, 0⟩, ⟨17205035140, 17205149828, 8192, 0⟩, ⟨17205035136, 17205149824, 8192, 0⟩, ⟨17181966336, 17181966336, 1, 0⟩, ⟨17181967360, 17181967360, 1, 0⟩, ⟨17186226581, 17186257301, 2048, 0⟩, ⟨17181966338, 17181966338, 1, 0⟩, ⟨17181966495, 17181966495, 1, 0⟩, ⟨17186168832, 17186169247, 1, 0⟩, ⟨17202937984, 17204379776, 131072, 0⟩] [.pwr, .flt, .evc, .tl] s (State.tlSilence s a1) := by
  unfold State.tlSilence
  refine Fr.iteh (fun _ => ?_) (fun _ => ?_)
  · refine Fr.step State.tlLeave_fr rfl rfl ?_
    first | assumption | exact Fr.refl _
  · first | assumption | exact Fr.refl _

theorem State.tlRelease_fr {s} : Fr [⟨17205035139, 17205149827, 8192, 0⟩, ⟨17205035141, 17205149829, 8192, 0⟩, ⟨17205035140, 17205149828, 8192, 0⟩, ⟨17205035136, 17205149824, 8192, 0⟩, ⟨17181966336, 17181966336, 1, 0⟩, ⟨17181967360, 17181967360, 1, 0⟩, ⟨17186226581, 17186257301, 2048, 0⟩, ⟨17181966338, 17181966338, 1, 0⟩, ⟨17181966495, 17181966495, 1, 0⟩, ⟨17186168832, 17186169247, 1, 0⟩, ⟨17202937984, 17204379776, 131072, 0⟩] [.pwr, .flt, .evc] s (State.tlRelease s) := by
  unfold State.tlRelease
  refine Fr.forFin ?_ (fun i t ht => ?_)
  · first | assumption | exact Fr.refl _
  · refine Fr.iteh (fun _ => ?_) (fun _ => ?_)
    · refine Fr.step State.tlSet_fr rfl rfl ?_
      first | assumption | exact Fr.refl _
    · first | assumption | exact Fr.refl _

theorem State.tlReconfig_fr {s} : Fr [⟨17205035139, 17205149827, 8192, 0⟩, ⟨17205035141, 17205149829, 8192, 0⟩, ⟨17205035140, 17205149828, 8192, 0⟩, ⟨17205035136, 17205149824, 8192, 0⟩, ⟨17181966336, 17181966336, 1, 0⟩, ⟨17181967360, 17181967360, 1, 0⟩, ⟨17186226581, 17186257301, 2048, 0⟩, ⟨17181966338, 17181966338, 1, 0⟩, ⟨17181966495, 17181966495, 1, 0⟩, ⟨17186168832, 17186169247, 1, 0⟩, ⟨17202937984, 17204379776, 131072, 0⟩, ⟨17202938112, 17204379904, 131072, 0⟩] [.lane, .tl, .flt, .pwr, .evc] s (State.tlReconfig s) := by
  unfold State.tlReconfig
  refine Fr.forFin ?_ (fun i t ht => ?_)
  · first | assumption | exact Fr.refl _
  · refine Fr.iteh (fun _ => ?_) (fun _ => ?_)
    · first | assumption | exact Fr.refl _
    · extract_lets -merge -underBinder +onlyGivenNames x0
      refine Fr.cut x0 ?_ (fun h0 => ?_)
      · unfold x0
        refine Fr.step State.tlConfig_fr rfl rfl ?_
        first | assumption | exact Fr.refl _
      try clear_value x0
      extract_lets -merge -underBinder +onlyGivenNames x1
      try clear_value (e1 : x1 = _)
      refine Fr.iteh (fun _ => ?_) (fun _ => ?_)
      · first | assumption | exact Fr.refl _
      · extract_lets -merge -underBinder +onlyGivenNames x2
        extract_lets -merge -underBinder +onlyGivenNames x3
        refine Fr.cut x3 ?_ (fun h3 => ?_)
        · unfold x3
          refine Fr.step State.setPort_fr rfl rfl ?_
          first | assumption | exact Fr.refl _
        try clear_value x3
        refine Fr.step State.raise_fr rfl rfl ?_
        refine Fr.step State.tlSilence_fr rfl rfl ?_
        refine Fr.step State.fire_fr rfl rfl ?_
        refine Fr.wr (xs := [⟨17202938112, 17204379904, 131072, 0⟩]) (Reg.TL_TRAIN_ERR_CODE_key (by first | omega | (simp only [List.mem_range] at *; omega))) rfl ?_
        first | assumption | exact Fr.refl _

end Sys2Proof.Machine
end

