-- ==== Sys2Proof/Laws/LscOpsFrame.lean ====
section
/-! SUPPORT. What each operation and command of Machine/LscOps.lean changes at most: register blocks and zones of the state. -/

namespace Sys2Proof.Machine

theorem State.showRamp_fr {s} : Fr [⟨17209229442, 17209229442, 1, 0⟩, ⟨17209231360, 17209231360, 1, 0⟩] [.lsc] s (State.showRamp s) := by
  unfold State.showRamp
  extract_lets -merge -underBinder +onlyGivenNames x0
  try clear_value x0
  extract_lets -merge -underBinder +onlyGivenNames x1
  refine Fr.cut x1 ?_ (fun h1 => ?_)
  · unfold x1
    refine Fr.wrB (xs := [⟨17209229442, 17209229442, 1, 0⟩]) rfl rfl ?_
    refine Fr.wr (xs := [⟨17209231360, 17209231360, 1, 0⟩]) rfl rfl ?_
    first | assumption | exact Fr.refl _
  try clear_value x1
  refine Fr.iteh (fun _ => ?_) (fun _ => ?_)
  · refine Fr.set_lsc rfl ?_
    first | assumption | exact Fr.refl _
  · first | assumption | exact Fr.refl _

theorem State.showNeedy_fr {s} {a1} : Fr [⟨17209231504, 17209231504, 1, 0⟩, ⟨17209231488, 17209231488, 1, 0⟩] [.free] s (State.showNeedy s a1) := by
  unfold State.showNeedy
  split
  · refine Fr.wr (xs := [⟨17209231504, 17209231504, 1, 0⟩]) rfl rfl ?_
    first | assumption | exact Fr.refl _
  · extract_lets -merge -underBinder +onlyGivenNames x0
    refine Fr.cut x0 ?_ (fun h0 => ?_)
    · unfold x0
      refine Fr.wr (xs := [⟨17209231488, 17209231488, 1, 0⟩]) rfl rfl ?_
      first | assumption | exact Fr.refl _
    try clear_value x0
    refine Fr.iteh (fun _ => ?_) (fun _ => ?_)
    · refine Fr.wr (xs := [⟨17209231504, 17209231504, 1, 0⟩]) rfl rfl ?_
      first | assumption | exact Fr.refl _
    · extract_lets -merge -underBinder +onlyGivenNames x1
      refine Fr.cut x1.2 ?_ (fun h1 => ?_)
      · unfold x1
        refine Fr.step State.fresh_fr rfl rfl ?_
        first | assumption | exact Fr.refl _
      try clear_value x1
      refine Fr.wr (xs := [⟨17209231504, 17209231504, 1, 0⟩]) rfl rfl ?_
      first | assumption | exact Fr.refl _

theorem State.lscEval_fr {s} : Fr [⟨17211359376, 17211408272, 256, 0⟩, ⟨17181966336, 17181966336, 1, 0⟩, ⟨17181967360, 17181967360, 1, 0⟩, ⟨17186226581, 17186257301, 2048, 0⟩, ⟨17181966338, 17181966338, 1, 0⟩, ⟨17181966495, 17181966495, 1, 0⟩, ⟨17186168832, 17186169247, 1, 0⟩, ⟨17209229443, 17209229443, 1, 0⟩, ⟨17209229442, 17209229442, 1, 0⟩, ⟨17209231360, 17209231360, 1, 0⟩, ⟨17209231504, 17209231504, 1, 0⟩, ⟨17209231488, 17209231488, 1, 0⟩, ⟨17209231376, 17209231376, 1, 0⟩, ⟨17209245696, 17209251736, 8, 0⟩] [.pwr, .flt, .evc, .lsc, .free] s (State.lscEval s) := by
  unfold State.lscEval
  refine Fr.iteh (fun _ => ?_) (fun _ => ?_)
  · refine Fr.step State.showZlim_fr rfl rfl ?_
    first | assumption | exact Fr.refl _
  · extract_lets -merge -underBinder +onlyGivenNames x0
    try clear_value x0
    extract_lets -merge -underBinder +onlyGivenNames x1
    try clear_value x1
    extract_lets -merge -underBinder +onlyGivenNames x2
    try clear_value x2
    extract_lets -merge -underBinder +onlyGivenNames x3
    try clear_value (e3 : x3 = _)
    extract_lets -merge -underBinder +onlyGivenNames x4
    try clear_value x4
    extract_lets -merge -underBinder +onlyGivenNames x5
    refine Fr.cut x5 ?_ (fun h5 => ?_)
    · unfold x5
      refine Fr.iteh (fun _ => ?_) (fun _ => ?_)
      · refine Fr.step State.fire_fr rfl rfl ?_
        refine Fr.wr (xs := [⟨17209229443, 17209229443, 1, 0⟩]) rfl rfl ?_
        first | assumption | exact Fr.refl _
      · first | assumption | exact Fr.refl _
    try clear_value x5
    extract_lets -merge -underBinder +onlyGivenNames x6
    refine Fr.cut x6 ?_ (fun h6 => ?_)
    · unfold x6
      refine Fr.step State.showRamp_fr rfl rfl ?_
      refine Fr.step State.showNeedy_fr rfl rfl ?_
      refine Fr.wr (xs := [⟨17209231376, 17209231376, 1, 0⟩]) rfl rfl ?_
      first | assumption | exact Fr.refl _
    try clear_value x6
    refine Fr.step State.showZlim_fr rfl rfl ?_
    refine Fr.forFin ?_ (fun i t ht => ?_)
    · first | assumption | exact Fr.refl _
    · refine Fr.wr (xs := [⟨17209245696, 17209251736, 8, 0⟩]) (Reg.LSC_ZL_key (by first | omega | (simp only [List.mem_range] at *; omega))) rfl ?_
      first | assumption | exact Fr.refl _

theorem State.lscCodes_fr {s} {a1} {a2} : Fr [⟨17211359376, 17211408272, 256, 0⟩, ⟨17181966336, 17181966336, 1, 0⟩, ⟨17181967360, 17181967360, 1, 0⟩, ⟨17186226581, 17186257301, 2048, 0⟩, ⟨17181966338, 17181966338, 1, 0⟩, ⟨17181966495, 17181966495, 1, 0⟩, ⟨17186168832, 17186169247, 1, 0⟩, ⟨17209229443, 17209229443, 1, 0⟩, ⟨17209229442, 17209229442, 1, 0⟩, ⟨17209231360, 17209231360, 1, 0⟩, ⟨17209231504, 17209231504, 1, 0⟩, ⟨17209231488, 17209231488, 1, 0⟩, ⟨17209231376, 17209231376, 1, 0⟩, ⟨17209245696, 17209251736, 8, 0⟩] [.pwr, .flt, .evc, .lsc, .free] s (State.lscCodes s a1 a2) := by
  unfold State.lscCodes
  refine Fr.iteh (fun _ => ?_) (fun _ => ?_)
  · refine Fr.step State.lscEval_fr rfl rfl ?_
    refine Fr.set_lsc rfl ?_
    first | assumption | exact Fr.refl _
  · first | assumption | exact Fr.refl _

theorem State.lscDrop_fr {s} {a1} : Fr [⟨17211359376, 17211408272, 256, 0⟩, ⟨17181966336, 17181966336, 1, 0⟩, ⟨17181967360, 17181967360, 1, 0⟩, ⟨17186226581, 17186257301, 2048, 0⟩, ⟨17181966338, 17181966338, 1, 0⟩, ⟨17181966495, 17181966495, 1, 0⟩, ⟨17186168832, 17186169247, 1, 0⟩, ⟨17209229443, 17209229443, 1, 0⟩, ⟨17209229442, 17209229442, 1, 0⟩, ⟨17209231360, 17209231360, 1, 0⟩, ⟨17209231504, 17209231504, 1, 0⟩, ⟨17209231488, 17209231488, 1, 0⟩, ⟨17209231376, 17209231376, 1, 0⟩, ⟨17209245696, 17209251736, 8, 0⟩] [.pwr, .flt, .evc, .lsc, .free] s (State.lscDrop s a1) := by
  unfold State.lscDrop
  refine Fr.iteh (fun _ => ?_) (fun _ => ?_)
  · refine Fr.step State.lscEval_fr rfl rfl ?_
    refine Fr.set_lsc rfl ?_
    first | assumption | exact Fr.refl _
  · first | assumption | exact Fr.refl _

theorem State.lscStart_fr {s} : Fr [⟨17211359376, 17211408272, 256, 0⟩, ⟨17181966336, 17181966336, 1, 0⟩, ⟨17181967360, 17181967360, 1, 0⟩, ⟨17186226581, 17186257301, 2048, 0⟩, ⟨17181966338, 17181966338, 1, 0⟩, ⟨17181966495, 17181966495, 1, 0⟩, ⟨17186168832, 17186169247, 1, 0⟩, ⟨17209229443, 17209229443, 1, 0⟩, ⟨17209229442, 17209229442, 1, 0⟩, ⟨17209231360, 17209231360, 1, 0⟩, ⟨17209231504, 17209231504, 1, 0⟩, ⟨17209231488, 17209231488, 1, 0⟩, ⟨17209231376, 17209231376, 1, 0⟩, ⟨17209245696, 17209251736, 8, 0⟩] [.pwr, .flt, .evc, .lsc, .free] s (State.lscStart s) := by
  unfold State.lscStart
  refine Fr.iteh (fun _ => ?_) (fun _ => ?_)
  · first | assumption | exact Fr.refl _
  · refine Fr.step State.lscEval_fr rfl rfl ?_
    refine Fr.set_lsc rfl ?_
    first | assumption | exact Fr.refl _

theorem State.lscBoundary_fr {s} {a1} : Fr [⟨17211359376, 17211408272, 256, 0⟩, ⟨17181966336, 17181966336, 1, 0⟩, ⟨17181967360, 17181967360, 1, 0⟩, ⟨17186226581, 17186257301, 2048, 0⟩, ⟨17181966338, 17181966338, 1, 0⟩, ⟨17181966495, 17181966495, 1, 0⟩, ⟨17186168832, 17186169247, 1, 0⟩, ⟨17209229443, 17209229443, 1, 0⟩, ⟨17209229442, 17209229442, 1, 0⟩, ⟨17209231360, 17209231360, 1, 0⟩, ⟨17209231504, 17209231504, 1, 0⟩, ⟨17209231488, 17209231488, 1, 0⟩, ⟨17209231376, 17209231376, 1, 0⟩, ⟨17209245696, 17209251736, 8, 0⟩, ⟨17209231629, 17209231629, 1, 0⟩, ⟨17209231616, 17209231616, 1, 0⟩] [.lsc, .pwr, .flt, .evc, .free] s (State.lscBoundary s a1) := by
  unfold State.lscBoundary
  refine Fr.iteh (fun _ => ?_) (fun _ => ?_)
  · first | assumption | exact Fr.refl _
  · extract_lets -merge -underBinder +onlyGivenNames x0
    extract_lets -merge -underBinder +onlyGivenNames x1
    try clear_value (e1 : x1 = _)
    extract_lets -merge -underBinder +onlyGivenNames x2
    try clear_value (e2 : x2 = _)
    extract_lets -merge -underBinder +onlyGivenNames x3
    extract_lets -merge -underBinder +onlyGivenNames x4
    try clear_value x4
    extract_lets -merge -underBinder +onlyGivenNames x5
    try clear_value x5
    extract_lets -merge -underBinder +onlyGivenNames x6
    refine Fr.cut x6 ?_ (fun h6 => ?_)
    · unfold x6
      refine Fr.set_lsc rfl ?_
      first | assumption | exact Fr.refl _
    try clear_value x6
    refine Fr.step State.lscEval_fr rfl rfl ?_
    refine Fr.wr (xs := [⟨17209231629, 17209231629, 1, 0⟩]) rfl rfl ?_
    refine Fr.wr (xs := [⟨17209231616, 17209231616, 1, 0⟩]) rfl rfl ?_
    first | assumption | exact Fr.refl _

theorem State.riseLate_fr {s} {a1} : Fr [⟨17181966336, 17181966336, 1, 0⟩, ⟨17181967360, 17181967360, 1, 0⟩, ⟨17186226581, 17186257301, 2048, 0⟩, ⟨17181966338, 17181966338, 1, 0⟩, ⟨17181966495, 17181966495, 1, 0⟩, ⟨17186168832, 17186169247, 1, 0⟩, ⟨17209231744, 17209231744, 1, 0⟩, ⟨17209229445, 17209229445, 1, 0⟩] [.flt, .pwr, .evc] s (State.riseLate s a1) := by
  unfold State.riseLate
  refine Fr.iteh (fun _ => ?_) (fun _ => ?_)
  · refine Fr.step State.raise_fr rfl rfl ?_
    refine Fr.step State.fire_fr rfl rfl ?_
    refine Fr.inc (xs := [⟨17209231744, 17209231744, 1, 0⟩]) rfl rfl ?_
    refine Fr.wr (xs := [⟨17209229445, 17209229445, 1, 0⟩]) rfl rfl ?_
    first | assumption | exact Fr.refl _
  · first | assumption | exact Fr.refl _

theorem State.trimZone_fr {s} {a1} {a2} {a3} {a4} : Fr [⟨17209237504, 17209243544, 8, 0⟩, ⟨17181966336, 17181966336, 1, 0⟩, ⟨17181967360, 17181967360, 1, 0⟩, ⟨17186226581, 17186257301, 2048, 0⟩, ⟨17181966338, 17181966338, 1, 0⟩, ⟨17181966495, 17181966495, 1, 0⟩, ⟨17186168832, 17186169247, 1, 0⟩, ⟨17209231760, 17209231760, 1, 0⟩, ⟨17209229444, 17209229444, 1, 0⟩] [.pwr, .flt, .evc] s (State.trimZone s a1 a2 a3 a4) := by
  unfold State.trimZone
  extract_lets -merge -underBinder +onlyGivenNames x0
  try clear_value (e0 : x0 = _)
  extract_lets -merge -underBinder +onlyGivenNames x1
  try clear_value (e1 : x1 = _)
  extract_lets -merge -underBinder +onlyGivenNames x2
  try clear_value (e2 : x2 = _)
  refine Fr.iteh (fun _ => ?_) (fun _ => ?_)
  · first | assumption | exact Fr.refl _
  · extract_lets -merge -underBinder +onlyGivenNames x3
    try clear_value x3
    extract_lets -merge -underBinder +onlyGivenNames x4
    try clear_value x4
    extract_lets -merge -underBinder +onlyGivenNames x5
    try clear_value x5
    extract_lets -merge -underBinder +onlyGivenNames x6
    refine Fr.cut x6 ?_ (fun h6 => ?_)
    · unfold x6
      refine Fr.wr (xs := [⟨17209237504, 17209243544, 8, 0⟩]) (Reg.LSC_OFS_key (by first | omega | (simp only [List.mem_range] at *; omega))) rfl ?_
      first | assumption | exact Fr.refl _
    try clear_value x6
    refine Fr.iteh (fun _ => ?_) (fun _ => ?_)
    · refine Fr.step State.fire_fr rfl rfl ?_
      refine Fr.inc (xs := [⟨17209231760, 17209231760, 1, 0⟩]) rfl rfl ?_
      refine Fr.wr (xs := [⟨17209229444, 17209229444, 1, 0⟩]) rfl rfl ?_
      first | assumption | exact Fr.refl _
    · first | assumption | exact Fr.refl _

theorem State.lscHealth_fr {s} {a1} {a2} {a3} : Fr [⟨17211359376, 17211408272, 256, 0⟩, ⟨17181966336, 17181966336, 1, 0⟩, ⟨17181967360, 17181967360, 1, 0⟩, ⟨17186226581, 17186257301, 2048, 0⟩, ⟨17181966338, 17181966338, 1, 0⟩, ⟨17181966495, 17181966495, 1, 0⟩, ⟨17186168832, 17186169247, 1, 0⟩, ⟨17209229443, 17209229443, 1, 0⟩, ⟨17209229442, 17209229442, 1, 0⟩, ⟨17209231360, 17209231360, 1, 0⟩, ⟨17209231504, 17209231504, 1, 0⟩, ⟨17209231488, 17209231488, 1, 0⟩, ⟨17209231376, 17209231376, 1, 0⟩, ⟨17209245696, 17209251736, 8, 0⟩, ⟨17209237504, 17209243544, 8, 0⟩, ⟨17209231760, 17209231760, 1, 0⟩, ⟨17209229444, 17209229444, 1, 0⟩] [.pwr, .flt, .evc, .lsc, .free] s (State.lscHealth s a1 a2 a3) := by
  unfold State.lscHealth
  refine Fr.iteh (fun _ => ?_) (fun _ => ?_)
  · first | assumption | exact Fr.refl _
  · split
    · refine Fr.step State.lscEval_fr rfl rfl ?_
      first | assumption | exact Fr.refl _
    · refine Fr.step State.lscEval_fr rfl rfl ?_
      refine Fr.forFin ?_ (fun i t ht => ?_)
      · first | assumption | exact Fr.refl _
      · refine Fr.step State.trimZone_fr rfl rfl ?_
        first | assumption | exact Fr.refl _

theorem State.lscRelease_fr {s} : Fr [⟨17209229312, 17209229312, 1, 0⟩, ⟨17209229440, 17209229440, 1, 0⟩, ⟨17211359376, 17211408272, 256, 0⟩, ⟨17181966336, 17181966336, 1, 0⟩, ⟨17181967360, 17181967360, 1, 0⟩, ⟨17186226581, 17186257301, 2048, 0⟩, ⟨17181966338, 17181966338, 1, 0⟩, ⟨17181966495, 17181966495, 1, 0⟩, ⟨17186168832, 17186169247, 1, 0⟩, ⟨17209229443, 17209229443, 1, 0⟩, ⟨17209229442, 17209229442, 1, 0⟩, ⟨17209231360, 17209231360, 1, 0⟩, ⟨17209231504, 17209231504, 1, 0⟩, ⟨17209231488, 17209231488, 1, 0⟩, ⟨17209231376, 17209231376, 1, 0⟩, ⟨17209245696, 17209251736, 8, 0⟩] [.lsc, .pwr, .flt, .evc, .free, .cal] s (State.lscRelease s) := by
  unfold State.lscRelease
  refine Fr.iteh (fun _ => ?_) (fun _ => ?_)
  · refine Fr.wr (xs := [⟨17209229312, 17209229312, 1, 0⟩]) rfl rfl ?_
    first | assumption | exact Fr.refl _
  · extract_lets -merge -underBinder +onlyGivenNames x0
    refine Fr.cut x0 ?_ (fun h0 => ?_)
    · unfold x0
      refine Fr.wr (xs := [⟨17209229440, 17209229440, 1, 0⟩]) rfl rfl ?_
      refine Fr.wr (xs := [⟨17209229312, 17209229312, 1, 0⟩]) rfl rfl ?_
      first | assumption | exact Fr.refl _
    try clear_value x0
    extract_lets -merge -underBinder +onlyGivenNames x1
    extract_lets -merge -underBinder +onlyGivenNames x2
    refine Fr.cut x2 ?_ (fun h2 => ?_)
    · unfold x2
      refine Fr.set_lsc rfl ?_
      first | assumption | exact Fr.refl _
    try clear_value x2
    refine Fr.step State.lscEval_fr rfl rfl ?_
    refine Fr.set_cal rfl ?_
    first | assumption | exact Fr.refl _

theorem State.lscCapture_fr {s} {a1} {a2} : Fr [⟨17181966336, 17181966336, 1, 0⟩, ⟨17181967360, 17181967360, 1, 0⟩, ⟨17186226581, 17186257301, 2048, 0⟩, ⟨17181966338, 17181966338, 1, 0⟩, ⟨17181966495, 17181966495, 1, 0⟩, ⟨17186168832, 17186169247, 1, 0⟩, ⟨17209229568, 17209229568, 1, 0⟩, ⟨17209229313, 17209229313, 1, 0⟩] [.pwr, .flt, .evc, .lsc] s (State.lscCapture s a1 a2) := by
  unfold State.lscCapture
  refine Fr.iteh (fun _ => ?_) (fun _ => ?_)
  · first | assumption | exact Fr.refl _
  · refine Fr.iteh (fun _ => ?_) (fun _ => ?_)
    · unfold State.rejectCommit
      try dsimp -zeta only
      refine Fr.step State.fire_fr rfl rfl ?_
      refine Fr.wr (xs := [⟨17209229568, 17209229568, 1, 0⟩]) rfl rfl ?_
      refine Fr.wr (xs := [⟨17209229313, 17209229313, 1, 0⟩]) rfl rfl ?_
      first | assumption | exact Fr.refl _
    · refine Fr.set_lsc rfl ?_
      first | assumption | exact Fr.refl _

theorem State.lscLive_fr {s} : Fr [⟨17211359376, 17211408272, 256, 0⟩, ⟨17181966336, 17181966336, 1, 0⟩, ⟨17181967360, 17181967360, 1, 0⟩, ⟨17186226581, 17186257301, 2048, 0⟩, ⟨17181966338, 17181966338, 1, 0⟩, ⟨17181966495, 17181966495, 1, 0⟩, ⟨17186168832, 17186169247, 1, 0⟩, ⟨17209229443, 17209229443, 1, 0⟩, ⟨17209229442, 17209229442, 1, 0⟩, ⟨17209231360, 17209231360, 1, 0⟩, ⟨17209231504, 17209231504, 1, 0⟩, ⟨17209231488, 17209231488, 1, 0⟩, ⟨17209231376, 17209231376, 1, 0⟩, ⟨17209245696, 17209251736, 8, 0⟩, ⟨17209229313, 17209229313, 1, 0⟩] [.pwr, .flt, .evc, .lsc, .free, .live] s (State.lscLive s) := by
  unfold State.lscLive
  split
  · first | assumption | exact Fr.refl _
  · refine Fr.step State.lscEval_fr rfl rfl ?_
    refine Fr.wr (xs := [⟨17209229313, 17209229313, 1, 0⟩]) rfl rfl ?_
    refine Fr.step State.applySet_fr rfl rfl ?_
    refine Fr.set_lsc rfl ?_
    first | assumption | exact Fr.refl _

end Sys2Proof.Machine
end

