-- ==== Sys2Proof/Laws/MemOpsFrame.lean ====
section
/-! SUPPORT. What each operation and command of Machine/MemOps.lean changes at most: register blocks and zones of the state. -/

namespace Sys2Proof.Machine

theorem State.ceEvent_fr {s} : Fr [⟨17181966336, 17181966336, 1, 0⟩, ⟨17181967360, 17181967360, 1, 0⟩, ⟨17186226581, 17186257301, 2048, 0⟩, ⟨17181966338, 17181966338, 1, 0⟩, ⟨17181966495, 17181966495, 1, 0⟩, ⟨17186168832, 17186169247, 1, 0⟩] [.pwr, .flt, .evc, .memc] s (State.ceEvent s) := by
  unfold State.ceEvent
  split
  · refine Fr.iteh (fun _ => ?_) (fun _ => ?_)
    · first | assumption | exact Fr.refl _
    · refine Fr.step State.fire_fr rfl rfl ?_
      refine Fr.set_memc rfl ?_
      first | assumption | exact Fr.refl _
  · refine Fr.step State.fire_fr rfl rfl ?_
    refine Fr.set_memc rfl ?_
    first | assumption | exact Fr.refl _

theorem State.memFault_fr {s} {a1} {a2} {a3} {a4} : Fr [] [.flt] s (State.memFault s a1 a2 a3 a4) := by
  unfold State.memFault
  refine Fr.step State.raiseOcc_fr rfl rfl ?_
  first | assumption | exact Fr.refl _

theorem State.blockRead_fr {s} {a1} {a2} {a3} {a4} : Fr [⟨17181966336, 17181966336, 1, 0⟩, ⟨17181967360, 17181967360, 1, 0⟩, ⟨17186226581, 17186257301, 2048, 0⟩, ⟨17181966338, 17181966338, 1, 0⟩, ⟨17181966495, 17181966495, 1, 0⟩, ⟨17186168832, 17186169247, 1, 0⟩, ⟨17192452352, 17192452352, 1, 0⟩, ⟨17192452608, 17192452608, 1, 0⟩, ⟨17192452480, 17192452480, 1, 0⟩, ⟨17192452229, 17192452229, 1, 0⟩, ⟨17192452228, 17192452228, 1, 0⟩] [.flt, .pwr, .evc, .memc, .mem] s (State.blockRead s a1 a2 a3 a4).1 := by
  unfold State.blockRead
  split
  · refine Fr.mk1 ?_
    first | assumption | exact Fr.refl _
  · refine Fr.mk1 ?_
    refine Fr.step State.memFault_fr rfl rfl ?_
    refine Fr.step State.ceEvent_fr rfl rfl ?_
    refine Fr.inc (xs := [⟨17192452352, 17192452352, 1, 0⟩]) rfl rfl ?_
    refine Fr.step State.store_fr rfl rfl ?_
    first | assumption | exact Fr.refl _
  · refine Fr.mk1 ?_
    refine Fr.step State.memFault_fr rfl rfl ?_
    unfold State.memError
    try dsimp -zeta only
    extract_lets -merge -underBinder +onlyGivenNames x0
    refine Fr.cut x0 ?_ (fun h0 => ?_)
    · unfold x0
      refine Fr.iteh (fun _ => ?_) (fun _ => ?_)
      · first | assumption | exact Fr.refl _
      · refine Fr.wr (xs := [⟨17192452608, 17192452608, 1, 0⟩]) rfl rfl ?_
        refine Fr.wr (xs := [⟨17192452480, 17192452480, 1, 0⟩]) rfl rfl ?_
        first | assumption | exact Fr.refl _
    try clear_value x0
    refine Fr.step State.fire_fr rfl rfl ?_
    refine Fr.wr (xs := [⟨17192452229, 17192452229, 1, 0⟩]) rfl rfl ?_
    first | assumption | exact Fr.refl _
  · refine Fr.mk1 ?_
    refine Fr.step State.memFault_fr rfl rfl ?_
    unfold State.memError
    try dsimp -zeta only
    extract_lets -merge -underBinder +onlyGivenNames x1
    refine Fr.cut x1 ?_ (fun h1 => ?_)
    · unfold x1
      refine Fr.iteh (fun _ => ?_) (fun _ => ?_)
      · first | assumption | exact Fr.refl _
      · refine Fr.wr (xs := [⟨17192452608, 17192452608, 1, 0⟩]) rfl rfl ?_
        refine Fr.wr (xs := [⟨17192452480, 17192452480, 1, 0⟩]) rfl rfl ?_
        first | assumption | exact Fr.refl _
    try clear_value x1
    refine Fr.step State.fire_fr rfl rfl ?_
    refine Fr.wr (xs := [⟨17192452228, 17192452228, 1, 0⟩]) rfl rfl ?_
    first | assumption | exact Fr.refl _

theorem State.slotBlocked_fr {s} {a1} {a2} : Fr [⟨17181966336, 17181966336, 1, 0⟩, ⟨17181967360, 17181967360, 1, 0⟩, ⟨17186226581, 17186257301, 2048, 0⟩, ⟨17181966338, 17181966338, 1, 0⟩, ⟨17181966495, 17181966495, 1, 0⟩, ⟨17186168832, 17186169247, 1, 0⟩, ⟨17194549776, 17194549776, 1, 0⟩] [.flt, .pwr, .evc] s (State.slotBlocked s a1 a2) := by
  unfold State.slotBlocked
  refine Fr.step State.raiseOcc_fr rfl rfl ?_
  refine Fr.step State.fire_fr rfl rfl ?_
  refine Fr.wr (xs := [⟨17194549776, 17194549776, 1, 0⟩]) rfl rfl ?_
  first | assumption | exact Fr.refl _

theorem State.setOwner_fr {s} {a1} {a2} : Fr [⟨17194557440, 17194573724, 4, 0⟩] [] s (State.setOwner s a1 a2) := by
  unfold State.setOwner
  refine Fr.iteh (fun _ => ?_) (fun _ => ?_)
  · refine Fr.wr (xs := [⟨17194557440, 17194573724, 4, 0⟩]) (Reg.WIN_OWN_key (by first | omega | (simp only [List.mem_range] at *; omega))) rfl ?_
    first | assumption | exact Fr.refl _
  · first | assumption | exact Fr.refl _

theorem State.xferEnds_fr {s} {a1} : Fr [⟨17181966336, 17181966336, 1, 0⟩, ⟨17181967360, 17181967360, 1, 0⟩, ⟨17186226581, 17186257301, 2048, 0⟩, ⟨17181966338, 17181966338, 1, 0⟩, ⟨17181966495, 17181966495, 1, 0⟩, ⟨17186168832, 17186169247, 1, 0⟩, ⟨17194549761, 17194549761, 1, 0⟩] [.pwr, .flt, .evc] s (State.xferEnds s a1) := by
  unfold State.xferEnds
  refine Fr.step State.fire_fr rfl rfl ?_
  refine Fr.wr (xs := [⟨17194549761, 17194549761, 1, 0⟩]) rfl rfl ?_
  first | assumption | exact Fr.refl _

theorem State.readOver_fr {s} {a1} {a2} {a3} : Fr [⟨17188261632, 17188261632, 1, 0⟩, ⟨17181966336, 17181966336, 1, 0⟩, ⟨17181967360, 17181967360, 1, 0⟩, ⟨17186226581, 17186257301, 2048, 0⟩, ⟨17181966338, 17181966338, 1, 0⟩, ⟨17181966495, 17181966495, 1, 0⟩, ⟨17186168832, 17186169247, 1, 0⟩, ⟨17181967232, 17181967263, 1, 0⟩] [.flt, .pwr, .evc, .free] s (State.readOver s a1 a2 a3) := by
  unfold State.readOver
  split
  · first | assumption | exact Fr.refl _
  · refine Fr.step State.readErr_fr rfl rfl ?_
    refine Fr.set_freeCtr rfl ?_
    first | assumption | exact Fr.refl _

theorem State.writePart_fr {s} {a1} {a2} {a3} {a4} {a5} : Fr [⟨17181966336, 17181966336, 1, 0⟩, ⟨17181967360, 17181967360, 1, 0⟩, ⟨17186226581, 17186257301, 2048, 0⟩, ⟨17181966338, 17181966338, 1, 0⟩, ⟨17181966495, 17181966495, 1, 0⟩, ⟨17186168832, 17186169247, 1, 0⟩, ⟨17194549776, 17194549776, 1, 0⟩, ⟨17192452352, 17192452352, 1, 0⟩, ⟨17192452608, 17192452608, 1, 0⟩, ⟨17192452480, 17192452480, 1, 0⟩, ⟨17192452229, 17192452229, 1, 0⟩, ⟨17192452228, 17192452228, 1, 0⟩] [.mem, .flt, .pwr, .evc, .memc] s (State.writePart s a1 a2 a3 a4 a5).1 := by
  unfold State.writePart
  extract_lets -merge -underBinder +onlyGivenNames x0
  refine Fr.iteh1 (fun _ => ?_) (fun _ => ?_)
  · refine Fr.mk1 ?_
    first | assumption | exact Fr.refl _
  · refine Fr.iteh1 (fun _ => ?_) (fun _ => ?_)
    · refine Fr.iteh1 (fun _ => ?_) (fun _ => ?_)
      · refine Fr.mk1 ?_
        refine Fr.step State.store_fr rfl rfl ?_
        first | assumption | exact Fr.refl _
      · refine Fr.mk1 ?_
        first | assumption | exact Fr.refl _
    · refine Fr.iteh1 (fun _ => ?_) (fun _ => ?_)
      · refine Fr.mk1 ?_
        first | assumption | exact Fr.refl _
      · extract_lets -merge -underBinder +onlyGivenNames x1
        try clear_value x1
        split
        · refine Fr.mk1 ?_
          refine Fr.step State.slotBlocked_fr rfl rfl ?_
          first | assumption | exact Fr.refl _
        · refine Fr.iteh1 (fun _ => ?_) (fun _ => ?_)
          · refine Fr.mk1 ?_
            refine Fr.step State.store_fr rfl rfl ?_
            first | assumption | exact Fr.refl _
          · extract_lets -merge -underBinder +onlyGivenNames x2
            refine Fr.cut x2.1 ?_ (fun h2 => ?_)
            · unfold x2
              refine Fr.step State.blockRead_fr rfl rfl ?_
              first | assumption | exact Fr.refl _
            try clear_value x2
            refine Fr.iteh1 (fun _ => ?_) (fun _ => ?_)
            · refine Fr.mk1 ?_
              first | assumption | exact Fr.refl _
            · refine Fr.mk1 ?_
              refine Fr.step State.store_fr rfl rfl ?_
              first | assumption | exact Fr.refl _

theorem State.reportBad_fr {s} {a1} {a2} : Fr [⟨17188261632, 17188261632, 1, 0⟩, ⟨17181966336, 17181966336, 1, 0⟩, ⟨17181967360, 17181967360, 1, 0⟩, ⟨17186226581, 17186257301, 2048, 0⟩, ⟨17181966338, 17181966338, 1, 0⟩, ⟨17181966495, 17181966495, 1, 0⟩, ⟨17186168832, 17186169247, 1, 0⟩, ⟨17181967232, 17181967263, 1, 0⟩] [.flt, .pwr, .evc] s (State.reportBad s a1 a2) := by
  unfold State.reportBad
  extract_lets -merge -underBinder +onlyGivenNames x0
  refine Fr.cut x0 ?_ (fun h0 => ?_)
  · unfold x0
    split
    · refine Fr.step State.busErr_fr rfl rfl ?_
      first | assumption | exact Fr.refl _
    · first | assumption | exact Fr.refl _
  try clear_value x0
  split
  · refine Fr.step State.accErr_fr rfl rfl ?_
    first | assumption | exact Fr.refl _
  · first | assumption | exact Fr.refl _

theorem State.storeTry_fr {s} {a1} {a2} {a3} {a4} {a5} : Fr [⟨17181966336, 17181966336, 1, 0⟩, ⟨17181967360, 17181967360, 1, 0⟩, ⟨17186226581, 17186257301, 2048, 0⟩, ⟨17181966338, 17181966338, 1, 0⟩, ⟨17181966495, 17181966495, 1, 0⟩, ⟨17186168832, 17186169247, 1, 0⟩, ⟨17194549776, 17194549776, 1, 0⟩, ⟨17192452352, 17192452352, 1, 0⟩, ⟨17192452608, 17192452608, 1, 0⟩, ⟨17192452480, 17192452480, 1, 0⟩, ⟨17192452229, 17192452229, 1, 0⟩, ⟨17192452228, 17192452228, 1, 0⟩, ⟨17188261632, 17188261632, 1, 0⟩, ⟨17181967232, 17181967263, 1, 0⟩] [.mem, .flt, .pwr, .evc, .memc] s (State.storeTry s a1 a2 a3 a4 a5).1 := by
  unfold State.storeTry
  extract_lets -merge -underBinder +onlyGivenNames x0
  refine Fr.cut x0.1 ?_ (fun h0 => ?_)
  · unfold x0
    refine Fr.foldl1 ?_ (fun t x ht => ?_)
    · refine Fr.mk1 ?_
      first | assumption | exact Fr.refl _
    · extract_lets -merge -underBinder +onlyGivenNames x1
      try clear_value x1
      extract_lets -merge -underBinder +onlyGivenNames x2
      refine Fr.cut x2.1 ?_ (fun h2 => ?_)
      · unfold x2
        refine Fr.step State.writePart_fr rfl rfl ?_
        first | assumption | exact Fr.refl _
      try clear_value x2
      refine Fr.mk1 ?_
      first | assumption | exact Fr.refl _
  try clear_value x0
  refine Fr.mk1 ?_
  refine Fr.step State.reportBad_fr rfl rfl ?_
  first | assumption | exact Fr.refl _

theorem State.storeParts_fr {s} {a1} {a2} {a3} {a4} {a5} : Fr [⟨17181966336, 17181966336, 1, 0⟩, ⟨17181967360, 17181967360, 1, 0⟩, ⟨17186226581, 17186257301, 2048, 0⟩, ⟨17181966338, 17181966338, 1, 0⟩, ⟨17181966495, 17181966495, 1, 0⟩, ⟨17186168832, 17186169247, 1, 0⟩, ⟨17194549776, 17194549776, 1, 0⟩, ⟨17192452352, 17192452352, 1, 0⟩, ⟨17192452608, 17192452608, 1, 0⟩, ⟨17192452480, 17192452480, 1, 0⟩, ⟨17192452229, 17192452229, 1, 0⟩, ⟨17192452228, 17192452228, 1, 0⟩, ⟨17188261632, 17188261632, 1, 0⟩, ⟨17181967232, 17181967263, 1, 0⟩] [.mem, .flt, .pwr, .evc, .memc] s (State.storeParts s a1 a2 a3 a4 a5) := by
  unfold State.storeParts
  refine Fr.step State.storeTry_fr rfl rfl ?_
  first | assumption | exact Fr.refl _

theorem State.dramWrite_fr {s} {a1} {a2} {a3} {a4} {a5} : Fr [⟨17188261632, 17188261632, 1, 0⟩, ⟨17181966336, 17181966336, 1, 0⟩, ⟨17181967360, 17181967360, 1, 0⟩, ⟨17186226581, 17186257301, 2048, 0⟩, ⟨17181966338, 17181966338, 1, 0⟩, ⟨17181966495, 17181966495, 1, 0⟩, ⟨17186168832, 17186169247, 1, 0⟩, ⟨17194549776, 17194549776, 1, 0⟩, ⟨17192452352, 17192452352, 1, 0⟩, ⟨17192452608, 17192452608, 1, 0⟩, ⟨17192452480, 17192452480, 1, 0⟩, ⟨17192452229, 17192452229, 1, 0⟩, ⟨17192452228, 17192452228, 1, 0⟩, ⟨17181967232, 17181967263, 1, 0⟩] [.flt, .mem, .pwr, .evc, .memc] s (State.dramWrite s a1 a2 a3 a4 a5) := by
  unfold State.dramWrite
  refine Fr.iteh (fun _ => ?_) (fun _ => ?_)
  · refine Fr.step State.busErr_fr rfl rfl ?_
    first | assumption | exact Fr.refl _
  · refine Fr.step State.storeParts_fr rfl rfl ?_
    first | assumption | exact Fr.refl _

theorem State.setDma_fr {s} {a1} {a2} : Fr [] [.win] s (State.setDma s a1 a2) := by
  unfold State.setDma
  refine Fr.set_win rfl ?_
  first | assumption | exact Fr.refl _

theorem State.dmaCopy_fr {s x error n} : Fr [⟨17181966336, 17181966336, 1, 0⟩, ⟨17181967360, 17181967360, 1, 0⟩, ⟨17186226581, 17186257301, 2048, 0⟩, ⟨17181966338, 17181966338, 1, 0⟩, ⟨17181966495, 17181966495, 1, 0⟩, ⟨17186168832, 17186169247, 1, 0⟩, ⟨17194549776, 17194549776, 1, 0⟩, ⟨17192452352, 17192452352, 1, 0⟩, ⟨17192452608, 17192452608, 1, 0⟩, ⟨17192452480, 17192452480, 1, 0⟩, ⟨17192452229, 17192452229, 1, 0⟩, ⟨17192452228, 17192452228, 1, 0⟩, ⟨17188261632, 17188261632, 1, 0⟩, ⟨17181967232, 17181967263, 1, 0⟩] [.mem, .flt, .pwr, .evc, .memc] s (State.dmaCopy s x error n).1 := by
  induction n with
  | zero => exact Fr.refl s
  | succ n ih =>
    unfold State.dmaCopy
    extract_lets +onlyGivenNames r
    split
    · exact ih
    · extract_lets +onlyGivenNames t src w
      have hw : Fr [⟨17181966336, 17181966336, 1, 0⟩, ⟨17181967360, 17181967360, 1, 0⟩, ⟨17186226581, 17186257301, 2048, 0⟩, ⟨17181966338, 17181966338, 1, 0⟩, ⟨17181966495, 17181966495, 1, 0⟩, ⟨17186168832, 17186169247, 1, 0⟩, ⟨17194549776, 17194549776, 1, 0⟩, ⟨17192452352, 17192452352, 1, 0⟩, ⟨17192452608, 17192452608, 1, 0⟩, ⟨17192452480, 17192452480, 1, 0⟩, ⟨17192452229, 17192452229, 1, 0⟩, ⟨17192452228, 17192452228, 1, 0⟩, ⟨17188261632, 17188261632, 1, 0⟩, ⟨17181967232, 17181967263, 1, 0⟩] [.mem, .flt, .pwr, .evc, .memc] s w.1 := Fr.step State.writePart_fr rfl rfl ih
      refine Fr.ite1 ih (Fr.ite1 ih (Fr.ite1 (Fr.step State.accErr_fr rfl rfl ih) ?_))
      split
      · exact hw
      · exact Fr.step State.accErr_fr rfl rfl hw
      · exact hw

theorem State.dmaStops_fr {s} {a1} {a2} {a3} {a4} : Fr [⟨17181966336, 17181966336, 1, 0⟩, ⟨17181967360, 17181967360, 1, 0⟩, ⟨17186226581, 17186257301, 2048, 0⟩, ⟨17181966338, 17181966338, 1, 0⟩, ⟨17181966495, 17181966495, 1, 0⟩, ⟨17186168832, 17186169247, 1, 0⟩, ⟨17194615425, 17194618497, 1024, 0⟩, ⟨17194615296, 17194618368, 1024, 0⟩] [.flt, .pwr, .evc, .win] s (State.dmaStops s a1 a2 a3 a4) := by
  unfold State.dmaStops
  refine Fr.step State.raiseOcc_fr rfl rfl ?_
  unfold State.dmaEnds
  try dsimp -zeta only
  refine Fr.step State.fire_fr rfl rfl ?_
  refine Fr.wr (xs := [⟨17194615425, 17194618497, 1024, 0⟩]) (Reg.WIN_DMA_STATUS_ERR_key (by first | omega | (simp only [List.mem_range] at *; omega))) rfl ?_
  refine Fr.wr (xs := [⟨17194615296, 17194618368, 1024, 0⟩]) (Reg.WIN_DMA_CTRL_GO_key (by first | omega | (simp only [List.mem_range] at *; omega))) rfl ?_
  refine Fr.step State.setDma_fr rfl rfl ?_
  first | assumption | exact Fr.refl _

theorem State.dmaStopped_fr {s} {a1} {a2} {a3} {a4} : Fr [⟨17181966336, 17181966336, 1, 0⟩, ⟨17181967360, 17181967360, 1, 0⟩, ⟨17186226581, 17186257301, 2048, 0⟩, ⟨17181966338, 17181966338, 1, 0⟩, ⟨17181966495, 17181966495, 1, 0⟩, ⟨17186168832, 17186169247, 1, 0⟩, ⟨17194615425, 17194618497, 1024, 0⟩, ⟨17194615296, 17194618368, 1024, 0⟩] [.flt, .pwr, .evc, .win] s (State.dmaStopped s a1 a2 a3 a4) := by
  unfold State.dmaStopped
  refine Fr.step State.dmaStops_fr rfl rfl ?_
  first | assumption | exact Fr.refl _

theorem State.dmaWrites_fr {s} {a1} : Fr [⟨17181966336, 17181966336, 1, 0⟩, ⟨17181967360, 17181967360, 1, 0⟩, ⟨17186226581, 17186257301, 2048, 0⟩, ⟨17181966338, 17181966338, 1, 0⟩, ⟨17181966495, 17181966495, 1, 0⟩, ⟨17186168832, 17186169247, 1, 0⟩, ⟨17194549776, 17194549776, 1, 0⟩, ⟨17192452352, 17192452352, 1, 0⟩, ⟨17192452608, 17192452608, 1, 0⟩, ⟨17192452480, 17192452480, 1, 0⟩, ⟨17192452229, 17192452229, 1, 0⟩, ⟨17192452228, 17192452228, 1, 0⟩, ⟨17188261632, 17188261632, 1, 0⟩, ⟨17181967232, 17181967263, 1, 0⟩, ⟨17194615425, 17194618497, 1024, 0⟩, ⟨17194615296, 17194618368, 1024, 0⟩] [.free, .mem, .flt, .pwr, .evc, .memc, .win] s (State.dmaWrites s a1) := by
  unfold State.dmaWrites
  refine Fr.forFin ?_ (fun i t ht => ?_)
  · first | assumption | exact Fr.refl _
  · split
    · first | assumption | exact Fr.refl _
    · refine Fr.iteh (fun _ => ?_) (fun _ => ?_)
      · first | assumption | exact Fr.refl _
      · extract_lets -merge -underBinder +onlyGivenNames x0
        refine Fr.cut x0.2 ?_ (fun h0 => ?_)
        · unfold x0
          refine Fr.step State.fresh_fr rfl rfl ?_
          first | assumption | exact Fr.refl _
        try clear_value x0
        extract_lets -merge -underBinder +onlyGivenNames x1
        try clear_value (e1 : x1 = _)
        extract_lets -merge -underBinder +onlyGivenNames x2
        refine Fr.cut x2.1 ?_ (fun h2 => ?_)
        · unfold x2
          refine Fr.step State.dmaCopy_fr rfl rfl ?_
          first | assumption | exact Fr.refl _
        try clear_value x2
        split
        · refine Fr.step State.setDma_fr rfl rfl ?_
          first | assumption | exact Fr.refl _
        · refine Fr.step State.dmaStopped_fr rfl rfl ?_
          first | assumption | exact Fr.refl _

theorem State.handSlot_fr {s} {a1} {a2} : Fr [⟨17194557440, 17194573724, 4, 0⟩, ⟨17181966336, 17181966336, 1, 0⟩, ⟨17181967360, 17181967360, 1, 0⟩, ⟨17186226581, 17186257301, 2048, 0⟩, ⟨17181966338, 17181966338, 1, 0⟩, ⟨17181966495, 17181966495, 1, 0⟩, ⟨17186168832, 17186169247, 1, 0⟩, ⟨17194549776, 17194549776, 1, 0⟩, ⟨17192452352, 17192452352, 1, 0⟩, ⟨17192452608, 17192452608, 1, 0⟩, ⟨17192452480, 17192452480, 1, 0⟩, ⟨17192452229, 17192452229, 1, 0⟩, ⟨17192452228, 17192452228, 1, 0⟩, ⟨17188261632, 17188261632, 1, 0⟩, ⟨17181967232, 17181967263, 1, 0⟩, ⟨17194615425, 17194618497, 1024, 0⟩, ⟨17194615296, 17194618368, 1024, 0⟩] [.free, .mem, .flt, .pwr, .evc, .memc, .win] s (State.handSlot s a1 a2) := by
  unfold State.handSlot
  refine Fr.step State.setOwner_fr rfl rfl ?_
  refine Fr.step State.dmaWrites_fr rfl rfl ?_
  first | assumption | exact Fr.refl _

theorem State.agentHands_fr {s} {a1} {a2} : Fr [⟨17194557440, 17194573724, 4, 0⟩, ⟨17181966336, 17181966336, 1, 0⟩, ⟨17181967360, 17181967360, 1, 0⟩, ⟨17186226581, 17186257301, 2048, 0⟩, ⟨17181966338, 17181966338, 1, 0⟩, ⟨17181966495, 17181966495, 1, 0⟩, ⟨17186168832, 17186169247, 1, 0⟩, ⟨17194549776, 17194549776, 1, 0⟩, ⟨17192452352, 17192452352, 1, 0⟩, ⟨17192452608, 17192452608, 1, 0⟩, ⟨17192452480, 17192452480, 1, 0⟩, ⟨17192452229, 17192452229, 1, 0⟩, ⟨17192452228, 17192452228, 1, 0⟩, ⟨17188261632, 17188261632, 1, 0⟩, ⟨17181967232, 17181967263, 1, 0⟩, ⟨17194615425, 17194618497, 1024, 0⟩, ⟨17194615296, 17194618368, 1024, 0⟩, ⟨17194549761, 17194549761, 1, 0⟩, ⟨17194549764, 17194549764, 1, 0⟩] [.free, .mem, .flt, .pwr, .evc, .memc, .win] s (State.agentHands s a1 a2) := by
  unfold State.agentHands
  split
  · refine Fr.step State.handSlot_fr rfl rfl ?_
    first | assumption | exact Fr.refl _
  · extract_lets -merge -underBinder +onlyGivenNames x0
    try clear_value x0
    refine Fr.step State.xferEnds_fr rfl rfl ?_
    refine Fr.wrB (xs := [⟨17194549764, 17194549764, 1, 0⟩]) rfl rfl ?_
    refine Fr.step State.handSlot_fr rfl rfl ?_
    refine Fr.set_win rfl ?_
    first | assumption | exact Fr.refl _

end Sys2Proof.Machine
end

