-- ==== Sys2Proof/Laws/HlthOpsFrame.lean ====
section
/-! SUPPORT. What each operation and command of Machine/HlthOps.lean changes at most: register blocks and zones of the state. -/

namespace Sys2Proof.Machine

theorem State.showHlth_fr {s} : Fr [⟨17207132304, 17207132304, 1, 0⟩, ⟨17207132296, 17207132296, 1, 0⟩, ⟨17207134239, 17207134239, 1, 0⟩, ⟨17207134367, 17207134367, 1, 0⟩, ⟨17207134358, 17207134358, 1, 0⟩, ⟨17207134354, 17207134354, 1, 0⟩, ⟨17207134345, 17207134345, 1, 0⟩, ⟨17207134336, 17207134336, 1, 0⟩, ⟨17207134472, 17207134472, 1, 0⟩, ⟨17207134464, 17207134464, 1, 0⟩, ⟨17207134361, 17207134361, 1, 0⟩] [] s (State.showHlth s) := by
  unfold State.showHlth
  extract_lets -merge -underBinder +onlyGivenNames x0
  refine Fr.cut x0 ?_ (fun h0 => ?_)
  · unfold x0
    refine Fr.wr (xs := [⟨17207132304, 17207132304, 1, 0⟩]) rfl rfl ?_
    refine Fr.wr (xs := [⟨17207132296, 17207132296, 1, 0⟩]) rfl rfl ?_
    first | assumption | exact Fr.refl _
  try clear_value x0
  extract_lets -merge -underBinder +onlyGivenNames x1
  refine Fr.cut x1 ?_ (fun h1 => ?_)
  · unfold x1
    refine Fr.wrB (xs := [⟨17207134239, 17207134239, 1, 0⟩]) rfl rfl ?_
    first | assumption | exact Fr.refl _
  try clear_value x1
  split
  · refine Fr.wr (xs := [⟨17207134367, 17207134367, 1, 0⟩]) rfl rfl ?_
    first | assumption | exact Fr.refl _
  · extract_lets -merge -underBinder +onlyGivenNames x2
    refine Fr.cut x2 ?_ (fun h2 => ?_)
    · unfold x2
      refine Fr.wr (xs := [⟨17207134358, 17207134358, 1, 0⟩]) rfl rfl ?_
      refine Fr.wr (xs := [⟨17207134354, 17207134354, 1, 0⟩]) rfl rfl ?_
      refine Fr.wr (xs := [⟨17207134345, 17207134345, 1, 0⟩]) rfl rfl ?_
      refine Fr.wr (xs := [⟨17207134336, 17207134336, 1, 0⟩]) rfl rfl ?_
      first | assumption | exact Fr.refl _
    try clear_value x2
    refine Fr.wr (xs := [⟨17207134367, 17207134367, 1, 0⟩]) rfl rfl ?_
    refine Fr.wr (xs := [⟨17207134472, 17207134472, 1, 0⟩]) rfl rfl ?_
    refine Fr.wr (xs := [⟨17207134464, 17207134464, 1, 0⟩]) rfl rfl ?_
    refine Fr.wr (xs := [⟨17207134361, 17207134361, 1, 0⟩]) rfl rfl ?_
    first | assumption | exact Fr.refl _

theorem State.hlthReport_fr {s} {a1} : Fr [⟨17181966336, 17181966336, 1, 0⟩, ⟨17181967360, 17181967360, 1, 0⟩, ⟨17186226581, 17186257301, 2048, 0⟩, ⟨17181966338, 17181966338, 1, 0⟩, ⟨17181966495, 17181966495, 1, 0⟩, ⟨17186168832, 17186169247, 1, 0⟩, ⟨17207132293, 17207132293, 1, 0⟩] [.hlth, .pwr, .flt, .evc] s (State.hlthReport s a1) := by
  unfold State.hlthReport
  extract_lets -merge -underBinder +onlyGivenNames x0
  extract_lets -merge -underBinder +onlyGivenNames x1
  refine Fr.cut x1 ?_ (fun h1 => ?_)
  · unfold x1
    refine Fr.set_hlth rfl ?_
    first | assumption | exact Fr.refl _
  try clear_value x1
  extract_lets -merge -underBinder +onlyGivenNames x2
  extract_lets -merge -underBinder +onlyGivenNames x3
  refine Fr.cut x3 ?_ (fun h3 => ?_)
  · unfold x3
    refine Fr.iteh (fun _ => ?_) (fun _ => ?_)
    · refine Fr.iteh (fun _ => ?_) (fun _ => ?_)
      · first | assumption | exact Fr.refl _
      · refine Fr.step State.fire_fr rfl rfl ?_
        refine Fr.set_hlth rfl ?_
        first | assumption | exact Fr.refl _
    · refine Fr.step State.fire_fr rfl rfl ?_
      refine Fr.wr (xs := [⟨17207132293, 17207132293, 1, 0⟩]) rfl rfl ?_
      first | assumption | exact Fr.refl _
  try clear_value x3
  refine Fr.iteh (fun _ => ?_) (fun _ => ?_)
  · refine Fr.step State.raise_fr rfl rfl ?_
    refine Fr.set_hlth rfl ?_
    first | assumption | exact Fr.refl _
  · first | assumption | exact Fr.refl _

theorem State.zoneFail_fr {s} {a1} : Fr [⟨17181966336, 17181966336, 1, 0⟩, ⟨17181967360, 17181967360, 1, 0⟩, ⟨17186226581, 17186257301, 2048, 0⟩, ⟨17181966338, 17181966338, 1, 0⟩, ⟨17181966495, 17181966495, 1, 0⟩, ⟨17186168832, 17186169247, 1, 0⟩, ⟨17207138304, 17207138975, 1, 0⟩] [.flt, .pwr, .evc] s (State.zoneFail s a1) := by
  unfold State.zoneFail
  refine Fr.iteh (fun _ => ?_) (fun _ => ?_)
  · first | assumption | exact Fr.refl _
  · refine Fr.step State.raise_fr rfl rfl ?_
    refine Fr.step State.fire_fr rfl rfl ?_
    refine Fr.wr (xs := [⟨17207138304, 17207138975, 1, 0⟩]) (Reg.HLTH_ZONE_FAIL_key (by first | omega | (simp only [List.mem_range] at *; omega))) rfl ?_
    first | assumption | exact Fr.refl _

theorem State.surveyTile_fr {s} {a1} {a2} : Fr [⟨17207136256, 17207137664, 128, 0⟩, ⟨17188261632, 17188261632, 1, 0⟩, ⟨17181966336, 17181966336, 1, 0⟩, ⟨17181967360, 17181967360, 1, 0⟩, ⟨17186226581, 17186257301, 2048, 0⟩, ⟨17181966338, 17181966338, 1, 0⟩, ⟨17181966495, 17181966495, 1, 0⟩, ⟨17186168832, 17186169247, 1, 0⟩, ⟨17181967232, 17181967263, 1, 0⟩] [.flt, .pwr, .evc, .free, .hlth] s (State.surveyTile s a1 a2) := by
  unfold State.surveyTile
  extract_lets -merge -underBinder +onlyGivenNames x0
  try clear_value (e0 : x0 = _)
  extract_lets -merge -underBinder +onlyGivenNames x1
  try clear_value x1
  extract_lets -merge -underBinder +onlyGivenNames x2
  try clear_value x2
  extract_lets -merge -underBinder +onlyGivenNames x3
  try clear_value x3
  extract_lets -merge -underBinder +onlyGivenNames x4
  refine Fr.cut x4 ?_ (fun h4 => ?_)
  · unfold x4
    refine Fr.wr (xs := [⟨17207136256, 17207137664, 128, 0⟩]) (Reg.HLTH_CNT_DEAD_DEAD_key (by first | omega | (simp only [List.mem_range] at *; omega))) rfl ?_
    refine Fr.step State.readOver_fr rfl rfl ?_
    first | assumption | exact Fr.refl _
  try clear_value x4
  split
  · first | assumption | exact Fr.refl _
  · refine Fr.foldl' ?_ (fun t x hx ht => ?_)
    · first | assumption | exact Fr.refl _
    · extract_lets -merge -underBinder +onlyGivenNames x5
      try clear_value (e5 : x5 = _)
      refine Fr.set_hlth rfl ?_
      first | assumption | exact Fr.refl _

theorem State.zonesOver_fr {s} : Fr [⟨17181966336, 17181966336, 1, 0⟩, ⟨17181967360, 17181967360, 1, 0⟩, ⟨17186226581, 17186257301, 2048, 0⟩, ⟨17181966338, 17181966338, 1, 0⟩, ⟨17181966495, 17181966495, 1, 0⟩, ⟨17186168832, 17186169247, 1, 0⟩, ⟨17207138304, 17207138975, 1, 0⟩] [.flt, .pwr, .evc] s (State.zonesOver s) := by
  unfold State.zonesOver
  refine Fr.forFin ?_ (fun i t ht => ?_)
  · first | assumption | exact Fr.refl _
  · refine Fr.iteh (fun _ => ?_) (fun _ => ?_)
    · refine Fr.step State.zoneFail_fr rfl rfl ?_
      first | assumption | exact Fr.refl _
    · first | assumption | exact Fr.refl _

theorem State.survey_fr {s} {a1} : Fr [⟨17211359376, 17211408272, 256, 0⟩, ⟨17181966336, 17181966336, 1, 0⟩, ⟨17181967360, 17181967360, 1, 0⟩, ⟨17186226581, 17186257301, 2048, 0⟩, ⟨17181966338, 17181966338, 1, 0⟩, ⟨17181966495, 17181966495, 1, 0⟩, ⟨17186168832, 17186169247, 1, 0⟩, ⟨17207138304, 17207138975, 1, 0⟩, ⟨17207136256, 17207137664, 128, 0⟩, ⟨17188261632, 17188261632, 1, 0⟩, ⟨17181967232, 17181967263, 1, 0⟩] [.flt, .pwr, .evc, .free, .hlth] s (State.survey s a1) := by
  unfold State.survey
  split
  · first | assumption | exact Fr.refl _
  · refine Fr.step State.showZlim_fr rfl rfl ?_
    refine Fr.step State.zonesOver_fr rfl rfl ?_
    refine Fr.foldl' ?_ (fun t x hx ht => ?_)
    · first | assumption | exact Fr.refl _
    · refine Fr.step State.surveyTile_fr rfl rfl ?_
      first | assumption | exact Fr.refl _

theorem State.surveyAll_fr {s} : Fr [⟨17211359376, 17211408272, 256, 0⟩, ⟨17181966336, 17181966336, 1, 0⟩, ⟨17181967360, 17181967360, 1, 0⟩, ⟨17186226581, 17186257301, 2048, 0⟩, ⟨17181966338, 17181966338, 1, 0⟩, ⟨17181966495, 17181966495, 1, 0⟩, ⟨17186168832, 17186169247, 1, 0⟩, ⟨17207138304, 17207138975, 1, 0⟩, ⟨17207136256, 17207137664, 128, 0⟩, ⟨17188261632, 17188261632, 1, 0⟩, ⟨17181967232, 17181967263, 1, 0⟩] [.flt, .pwr, .evc, .free, .hlth] s (State.surveyAll s) := by
  unfold State.surveyAll
  refine Fr.step State.survey_fr rfl rfl ?_
  refine Fr.set_hlth rfl ?_
  first | assumption | exact Fr.refl _

theorem State.hlthRun_fr {s} : Fr [⟨17207132288, 17207132288, 1, 0⟩, ⟨17211359376, 17211408272, 256, 0⟩, ⟨17181966336, 17181966336, 1, 0⟩, ⟨17181967360, 17181967360, 1, 0⟩, ⟨17186226581, 17186257301, 2048, 0⟩, ⟨17181966338, 17181966338, 1, 0⟩, ⟨17181966495, 17181966495, 1, 0⟩, ⟨17186168832, 17186169247, 1, 0⟩, ⟨17207138304, 17207138975, 1, 0⟩, ⟨17207136256, 17207137664, 128, 0⟩, ⟨17188261632, 17188261632, 1, 0⟩, ⟨17181967232, 17181967263, 1, 0⟩] [.flt, .pwr, .evc, .free, .hlth] s (State.hlthRun s) := by
  unfold State.hlthRun
  extract_lets -merge -underBinder +onlyGivenNames x0
  refine Fr.cut x0 ?_ (fun h0 => ?_)
  · unfold x0
    refine Fr.wr (xs := [⟨17207132288, 17207132288, 1, 0⟩]) rfl rfl ?_
    first | assumption | exact Fr.refl _
  try clear_value x0
  refine Fr.iteh (fun _ => ?_) (fun _ => ?_)
  · refine Fr.step State.surveyAll_fr rfl rfl ?_
    first | assumption | exact Fr.refl _
  · first | assumption | exact Fr.refl _

theorem State.hlthQueue_fr {s} {a1} : Fr [] [.hlth] s (State.hlthQueue s a1).1 := by
  unfold State.hlthQueue
  refine Fr.iteh1 (fun _ => ?_) (fun _ => ?_)
  · refine Fr.mk1 ?_
    refine Fr.set_hlth rfl ?_
    first | assumption | exact Fr.refl _
  · refine Fr.mk1 ?_
    first | assumption | exact Fr.refl _

theorem State.markLive_fr {s} {a1} : Fr [] [.hlth] s (State.markLive s a1) := by
  unfold State.markLive
  refine Fr.set_hlth rfl ?_
  first | assumption | exact Fr.refl _

theorem State.writeUpdate_fr {s} {a1} {a2} {a3} : Fr [⟨17188261632, 17188261632, 1, 0⟩, ⟨17181966336, 17181966336, 1, 0⟩, ⟨17181967360, 17181967360, 1, 0⟩, ⟨17186226581, 17186257301, 2048, 0⟩, ⟨17181966338, 17181966338, 1, 0⟩, ⟨17181966495, 17181966495, 1, 0⟩, ⟨17186168832, 17186169247, 1, 0⟩, ⟨17181967232, 17181967263, 1, 0⟩, ⟨17194549776, 17194549776, 1, 0⟩, ⟨17192452352, 17192452352, 1, 0⟩, ⟨17192452608, 17192452608, 1, 0⟩, ⟨17192452480, 17192452480, 1, 0⟩, ⟨17192452229, 17192452229, 1, 0⟩, ⟨17192452228, 17192452228, 1, 0⟩, ⟨17207132293, 17207132293, 1, 0⟩] [.flt, .pwr, .evc, .free, .mem, .memc, .hlth] s (State.writeUpdate s a1 a2 a3) := by
  unfold State.writeUpdate
  refine Fr.iteh (fun _ => ?_) (fun _ => ?_)
  · extract_lets -merge -underBinder +onlyGivenNames x0
    try clear_value (e0 : x0 = _)
    extract_lets -merge -underBinder +onlyGivenNames x1
    try clear_value (e1 : x1 = _)
    extract_lets -merge -underBinder +onlyGivenNames x2
    refine Fr.cut x2 ?_ (fun h2 => ?_)
    · unfold x2
      refine Fr.iteh (fun _ => ?_) (fun _ => ?_)
      · refine Fr.step State.readOver_fr rfl rfl ?_
        first | assumption | exact Fr.refl _
      · first | assumption | exact Fr.refl _
    try clear_value x2
    extract_lets -merge -underBinder +onlyGivenNames x3
    refine Fr.cut x3.1 ?_ (fun h3 => ?_)
    · unfold x3
      refine Fr.step State.storeTry_fr rfl rfl ?_
      first | assumption | exact Fr.refl _
    try clear_value x3
    refine Fr.iteh (fun _ => ?_) (fun _ => ?_)
    · first | assumption | exact Fr.refl _
    · refine Fr.iteh (fun _ => ?_) (fun _ => ?_)
      · refine Fr.step State.hlthReport_fr rfl rfl ?_
        refine Fr.step State.markLive_fr rfl rfl ?_
        first | assumption | exact Fr.refl _
      · refine Fr.step State.markLive_fr rfl rfl ?_
        first | assumption | exact Fr.refl _
  · first | assumption | exact Fr.refl _

theorem State.queueReverts_fr {s} : Fr [] [.hlth] s (State.queueReverts s) := by
  unfold State.queueReverts
  extract_lets -merge -underBinder +onlyGivenNames x0
  try clear_value (e0 : x0 = _)
  refine Fr.set_hlth rfl ?_
  first | assumption | exact Fr.refl _

theorem State.queueDone_fr {s} : Fr [] [.hlth] s (State.queueDone s) := by
  unfold State.queueDone
  refine Fr.foldl' ?_ (fun t x hx ht => ?_)
  · first | assumption | exact Fr.refl _
  · refine Fr.iteh (fun _ => ?_) (fun _ => ?_)
    · first | assumption | exact Fr.refl _
    · extract_lets -merge -underBinder +onlyGivenNames x0
      refine Fr.cut x0.1 ?_ (fun h0 => ?_)
      · unfold x0
        refine Fr.step State.hlthQueue_fr rfl rfl ?_
        first | assumption | exact Fr.refl _
      try clear_value x0
      extract_lets -merge -underBinder +onlyGivenNames x1
      refine Fr.cut x1 ?_ (fun h1 => ?_)
      · unfold x1
        first | assumption | exact Fr.refl _
      try clear_value x1
      refine Fr.iteh (fun _ => ?_) (fun _ => ?_)
      · refine Fr.set_hlth rfl ?_
        first | assumption | exact Fr.refl _
      · first | assumption | exact Fr.refl _

theorem State.queueForce_fr {s} : Fr [] [.hlth] s (State.queueForce s) := by
  unfold State.queueForce
  split
  · first | assumption | exact Fr.refl _
  · extract_lets -merge -underBinder +onlyGivenNames x0
    refine Fr.cut x0.1 ?_ (fun h0 => ?_)
    · unfold x0
      refine Fr.step State.hlthQueue_fr rfl rfl ?_
      first | assumption | exact Fr.refl _
    try clear_value x0
    extract_lets -merge -underBinder +onlyGivenNames x1
    refine Fr.cut x1 ?_ (fun h1 => ?_)
    · unfold x1
      first | assumption | exact Fr.refl _
    try clear_value x1
    refine Fr.iteh (fun _ => ?_) (fun _ => ?_)
    · refine Fr.set_hlth rfl ?_
      first | assumption | exact Fr.refl _
    · first | assumption | exact Fr.refl _

theorem State.hlthFollow_fr {s} : Fr [⟨17207132304, 17207132304, 1, 0⟩, ⟨17207132296, 17207132296, 1, 0⟩, ⟨17207134239, 17207134239, 1, 0⟩, ⟨17207134367, 17207134367, 1, 0⟩, ⟨17207134358, 17207134358, 1, 0⟩, ⟨17207134354, 17207134354, 1, 0⟩, ⟨17207134345, 17207134345, 1, 0⟩, ⟨17207134336, 17207134336, 1, 0⟩, ⟨17207134472, 17207134472, 1, 0⟩, ⟨17207134464, 17207134464, 1, 0⟩, ⟨17207134361, 17207134361, 1, 0⟩] [.hlth] s (State.hlthFollow s) := by
  unfold State.hlthFollow
  refine Fr.step State.showHlth_fr rfl rfl ?_
  refine Fr.set_hlth rfl ?_
  first | assumption | exact Fr.refl _

theorem State.addRetest_fr {s} {a1} : Fr [⟨17181966336, 17181966336, 1, 0⟩, ⟨17181967360, 17181967360, 1, 0⟩, ⟨17186226581, 17186257301, 2048, 0⟩, ⟨17181966338, 17181966338, 1, 0⟩, ⟨17181966495, 17181966495, 1, 0⟩, ⟨17186168832, 17186169247, 1, 0⟩, ⟨17207132294, 17207132294, 1, 0⟩] [.hlth, .pwr, .flt, .evc] s (State.addRetest s a1) := by
  unfold State.addRetest
  refine Fr.iteh (fun _ => ?_) (fun _ => ?_)
  · refine Fr.set_hlth rfl ?_
    first | assumption | exact Fr.refl _
  · refine Fr.step State.fire_fr rfl rfl ?_
    refine Fr.wr (xs := [⟨17207132294, 17207132294, 1, 0⟩]) rfl rfl ?_
    first | assumption | exact Fr.refl _

theorem State.applyLed_fr {s} {a1} {a2} {a3} : Fr [⟨17188261632, 17188261632, 1, 0⟩, ⟨17181966336, 17181966336, 1, 0⟩, ⟨17181967360, 17181967360, 1, 0⟩, ⟨17186226581, 17186257301, 2048, 0⟩, ⟨17181966338, 17181966338, 1, 0⟩, ⟨17181966495, 17181966495, 1, 0⟩, ⟨17186168832, 17186169247, 1, 0⟩, ⟨17181967232, 17181967263, 1, 0⟩, ⟨17194549776, 17194549776, 1, 0⟩, ⟨17192452352, 17192452352, 1, 0⟩, ⟨17192452608, 17192452608, 1, 0⟩, ⟨17192452480, 17192452480, 1, 0⟩, ⟨17192452229, 17192452229, 1, 0⟩, ⟨17192452228, 17192452228, 1, 0⟩, ⟨17207132293, 17207132293, 1, 0⟩, ⟨17207132294, 17207132294, 1, 0⟩] [.flt, .pwr, .evc, .free, .mem, .memc, .hlth] s (State.applyLed s a1 a2 a3) := by
  unfold State.applyLed
  extract_lets -merge -underBinder +onlyGivenNames x0
  split
  · refine Fr.step State.writeUpdate_fr rfl rfl ?_
    first | assumption | exact Fr.refl _
  · refine Fr.step State.addRetest_fr rfl rfl ?_
    first | assumption | exact Fr.refl _
  · refine Fr.set_hlth rfl ?_
    first | assumption | exact Fr.refl _

theorem State.drainQueue_fr {s} {a1} {a2} : Fr [⟨17188261632, 17188261632, 1, 0⟩, ⟨17181966336, 17181966336, 1, 0⟩, ⟨17181967360, 17181967360, 1, 0⟩, ⟨17186226581, 17186257301, 2048, 0⟩, ⟨17181966338, 17181966338, 1, 0⟩, ⟨17181966495, 17181966495, 1, 0⟩, ⟨17186168832, 17186169247, 1, 0⟩, ⟨17181967232, 17181967263, 1, 0⟩, ⟨17194549776, 17194549776, 1, 0⟩, ⟨17192452352, 17192452352, 1, 0⟩, ⟨17192452608, 17192452608, 1, 0⟩, ⟨17192452480, 17192452480, 1, 0⟩, ⟨17192452229, 17192452229, 1, 0⟩, ⟨17192452228, 17192452228, 1, 0⟩, ⟨17207132293, 17207132293, 1, 0⟩, ⟨17207132294, 17207132294, 1, 0⟩, ⟨17211359376, 17211408272, 256, 0⟩, ⟨17207138304, 17207138975, 1, 0⟩, ⟨17207136256, 17207137664, 128, 0⟩] [.hlth, .flt, .pwr, .evc, .free, .mem, .memc] s (State.drainQueue s a1 a2) := by
  unfold State.drainQueue
  extract_lets -merge -underBinder +onlyGivenNames x0
  try clear_value (e0 : x0 = _)
  extract_lets -merge -underBinder +onlyGivenNames x1
  try clear_value x1
  extract_lets -merge -underBinder +onlyGivenNames x2
  try clear_value x2
  extract_lets -merge -underBinder +onlyGivenNames x3
  extract_lets -merge -underBinder +onlyGivenNames x4
  refine Fr.cut x4 ?_ (fun h4 => ?_)
  · unfold x4
    refine Fr.set_hlth rfl ?_
    first | assumption | exact Fr.refl _
  try clear_value x4
  extract_lets -merge -underBinder +onlyGivenNames x5
  refine Fr.cut x5 ?_ (fun h5 => ?_)
  · unfold x5
    refine Fr.foldl' ?_ (fun t x hx ht => ?_)
    · first | assumption | exact Fr.refl _
    · refine Fr.step State.writeUpdate_fr rfl rfl ?_
      first | assumption | exact Fr.refl _
  try clear_value x5
  extract_lets -merge -underBinder +onlyGivenNames x6
  refine Fr.cut x6 ?_ (fun h6 => ?_)
  · unfold x6
    refine Fr.foldl' ?_ (fun t x hx ht => ?_)
    · first | assumption | exact Fr.refl _
    · refine Fr.step State.applyLed_fr rfl rfl ?_
      first | assumption | exact Fr.refl _
  try clear_value x6
  extract_lets -merge -underBinder +onlyGivenNames x7
  refine Fr.cut x7 ?_ (fun h7 => ?_)
  · unfold x7
    refine Fr.iteh (fun _ => ?_) (fun _ => ?_)
    · first | assumption | exact Fr.refl _
    · refine Fr.step State.queueForce_fr rfl rfl ?_
      refine Fr.step State.queueDone_fr rfl rfl ?_
      refine Fr.step State.queueReverts_fr rfl rfl ?_
      first | assumption | exact Fr.refl _
  try clear_value x7
  refine Fr.iteh (fun _ => ?_) (fun _ => ?_)
  · first | assumption | exact Fr.refl _
  · refine Fr.step State.survey_fr rfl rfl ?_
    first | assumption | exact Fr.refl _

theorem State.captureOver_fr {s} : Fr [⟨17181966336, 17181966336, 1, 0⟩, ⟨17181967360, 17181967360, 1, 0⟩, ⟨17186226581, 17186257301, 2048, 0⟩, ⟨17181966338, 17181966338, 1, 0⟩, ⟨17181966495, 17181966495, 1, 0⟩, ⟨17186168832, 17186169247, 1, 0⟩, ⟨17207132162, 17207132162, 1, 0⟩, ⟨17207132289, 17207132289, 1, 0⟩] [.pwr, .flt, .evc, .hlth] s (State.captureOver s) := by
  unfold State.captureOver
  refine Fr.iteh (fun _ => ?_) (fun _ => ?_)
  · refine Fr.step State.fire_fr rfl rfl ?_
    refine Fr.wr (xs := [⟨17207132162, 17207132162, 1, 0⟩]) rfl rfl ?_
    refine Fr.wr (xs := [⟨17207132289, 17207132289, 1, 0⟩]) rfl rfl ?_
    refine Fr.set_hlth rfl ?_
    first | assumption | exact Fr.refl _
  · first | assumption | exact Fr.refl _

theorem State.captureBoundary_fr {s} : Fr [⟨17181966336, 17181966336, 1, 0⟩, ⟨17181967360, 17181967360, 1, 0⟩, ⟨17186226581, 17186257301, 2048, 0⟩, ⟨17181966338, 17181966338, 1, 0⟩, ⟨17181966495, 17181966495, 1, 0⟩, ⟨17186168832, 17186169247, 1, 0⟩, ⟨17207132162, 17207132162, 1, 0⟩, ⟨17207132289, 17207132289, 1, 0⟩] [.pwr, .flt, .evc, .hlth] s (State.captureBoundary s) := by
  unfold State.captureBoundary
  refine Fr.iteh (fun _ => ?_) (fun _ => ?_)
  · refine Fr.iteh (fun _ => ?_) (fun _ => ?_)
    · refine Fr.step State.captureOver_fr rfl rfl ?_
      first | assumption | exact Fr.refl _
    · refine Fr.set_hlth rfl ?_
      first | assumption | exact Fr.refl _
  · refine Fr.iteh (fun _ => ?_) (fun _ => ?_)
    · extract_lets -merge -underBinder +onlyGivenNames x0
      refine Fr.cut x0 ?_ (fun h0 => ?_)
      · unfold x0
        refine Fr.wr (xs := [⟨17207132289, 17207132289, 1, 0⟩]) rfl rfl ?_
        first | assumption | exact Fr.refl _
      try clear_value x0
      refine Fr.set_hlth rfl ?_
      first | assumption | exact Fr.refl _
    · first | assumption | exact Fr.refl _

theorem State.hlthStops_fr {s} {a1} : Fr ([⟨17181966336, 17181966336, 1, 0⟩, ⟨17181967360, 17181967360, 1, 0⟩, ⟨17186226581, 17186257301, 2048, 0⟩, ⟨17181966338, 17181966338, 1, 0⟩, ⟨17181966495, 17181966495, 1, 0⟩, ⟨17186168832, 17186169247, 1, 0⟩, ⟨17207132162, 17207132162, 1, 0⟩, ⟨17207132289, 17207132289, 1, 0⟩, ⟨17207132304, 17207132304, 1, 0⟩, ⟨17207132296, 17207132296, 1, 0⟩, ⟨17207134239, 17207134239, 1, 0⟩, ⟨17207134367, 17207134367, 1, 0⟩, ⟨17207134358, 17207134358, 1, 0⟩, ⟨17207134354, 17207134354, 1, 0⟩, ⟨17207134345, 17207134345, 1, 0⟩, ⟨17207134336, 17207134336, 1, 0⟩, ⟨17207134472, 17207134472, 1, 0⟩, ⟨17207134464, 17207134464, 1, 0⟩, ⟨17207134361, 17207134361, 1, 0⟩, ⟨17188261632, 17188261632, 1, 0⟩, ⟨17181967232, 17181967263, 1, 0⟩, ⟨17194549776, 17194549776, 1, 0⟩, ⟨17192452352, 17192452352, 1, 0⟩, ⟨17192452608, 17192452608, 1, 0⟩, ⟨17192452480, 17192452480, 1, 0⟩, ⟨17192452229, 17192452229, 1, 0⟩, ⟨17192452228, 17192452228, 1, 0⟩, ⟨17207132293, 17207132293, 1, 0⟩, ⟨17207132294, 17207132294, 1, 0⟩, ⟨17211359376, 17211408272, 256, 0⟩] ++ [⟨17207138304, 17207138975, 1, 0⟩, ⟨17207136256, 17207137664, 128, 0⟩]) [.pwr, .flt, .evc, .hlth, .free, .mem, .memc] s (State.hlthStops s a1) := by
  unfold State.hlthStops
  extract_lets -merge -underBinder +onlyGivenNames x0
  refine Fr.cut x0 ?_ (fun h0 => ?_)
  · unfold x0
    refine Fr.step State.captureOver_fr rfl rfl ?_
    first | assumption | exact Fr.refl _
  try clear_value x0
  split
  · first | assumption | exact Fr.refl _
  · refine Fr.step State.showHlth_fr rfl rfl ?_
    refine Fr.step State.drainQueue_fr rfl rfl ?_
    first | assumption | exact Fr.refl _

theorem State.hlthBoundary_fr {s} {a1} : Fr ([⟨17181966336, 17181966336, 1, 0⟩, ⟨17181967360, 17181967360, 1, 0⟩, ⟨17186226581, 17186257301, 2048, 0⟩, ⟨17181966338, 17181966338, 1, 0⟩, ⟨17181966495, 17181966495, 1, 0⟩, ⟨17186168832, 17186169247, 1, 0⟩, ⟨17207132162, 17207132162, 1, 0⟩, ⟨17207132289, 17207132289, 1, 0⟩, ⟨17207132288, 17207132288, 1, 0⟩, ⟨17188261632, 17188261632, 1, 0⟩, ⟨17181967232, 17181967263, 1, 0⟩, ⟨17194549776, 17194549776, 1, 0⟩, ⟨17192452352, 17192452352, 1, 0⟩, ⟨17192452608, 17192452608, 1, 0⟩, ⟨17192452480, 17192452480, 1, 0⟩, ⟨17192452229, 17192452229, 1, 0⟩, ⟨17192452228, 17192452228, 1, 0⟩, ⟨17207132293, 17207132293, 1, 0⟩, ⟨17207132294, 17207132294, 1, 0⟩, ⟨17211359376, 17211408272, 256, 0⟩, ⟨17207138304, 17207138975, 1, 0⟩, ⟨17207136256, 17207137664, 128, 0⟩, ⟨17207132304, 17207132304, 1, 0⟩, ⟨17207132296, 17207132296, 1, 0⟩, ⟨17207134239, 17207134239, 1, 0⟩, ⟨17207134367, 17207134367, 1, 0⟩, ⟨17207134358, 17207134358, 1, 0⟩, ⟨17207134354, 17207134354, 1, 0⟩, ⟨17207134345, 17207134345, 1, 0⟩, ⟨17207134336, 17207134336, 1, 0⟩] ++ [⟨17207134472, 17207134472, 1, 0⟩, ⟨17207134464, 17207134464, 1, 0⟩, ⟨17207134361, 17207134361, 1, 0⟩]) [.pwr, .flt, .evc, .hlth, .free, .mem, .memc] s (State.hlthBoundary s a1) := by
  unfold State.hlthBoundary
  extract_lets -merge -underBinder +onlyGivenNames x0
  try clear_value x0
  extract_lets -merge -underBinder +onlyGivenNames x1
  refine Fr.cut x1 ?_ (fun h1 => ?_)
  · unfold x1
    refine Fr.step State.captureBoundary_fr rfl rfl ?_
    refine Fr.wr (xs := [⟨17207132288, 17207132288, 1, 0⟩]) rfl rfl ?_
    first | assumption | exact Fr.refl _
  try clear_value x1
  split
  · first | assumption | exact Fr.refl _
  · extract_lets -merge -underBinder +onlyGivenNames x2
    refine Fr.cut x2 ?_ (fun h2 => ?_)
    · unfold x2
      refine Fr.step State.drainQueue_fr rfl rfl ?_
      first | assumption | exact Fr.refl _
    try clear_value x2
    refine Fr.step State.showHlth_fr rfl rfl ?_
    refine Fr.iteh (fun _ => ?_) (fun _ => ?_)
    · refine Fr.iteh (fun _ => ?_) (fun _ => ?_)
      · refine Fr.step State.zonesOver_fr rfl rfl ?_
        first | assumption | exact Fr.refl _
      · refine Fr.step State.surveyAll_fr rfl rfl ?_
        first | assumption | exact Fr.refl _
    · first | assumption | exact Fr.refl _

theorem State.readBaseline_fr {s} {a1} {a2} {a3} {a4} : Fr [⟨17188261632, 17188261632, 1, 0⟩, ⟨17181966336, 17181966336, 1, 0⟩, ⟨17181967360, 17181967360, 1, 0⟩, ⟨17186226581, 17186257301, 2048, 0⟩, ⟨17181966338, 17181966338, 1, 0⟩, ⟨17181966495, 17181966495, 1, 0⟩, ⟨17186168832, 17186169247, 1, 0⟩, ⟨17181967232, 17181967263, 1, 0⟩, ⟨17207134736, 17207134736, 1, 0⟩, ⟨17207132291, 17207132291, 1, 0⟩] [.flt, .pwr, .evc, .free, .hlth] s (State.readBaseline s a1 a2 a3 a4).2 := by
  unfold State.readBaseline
  extract_lets -merge -underBinder +onlyGivenNames x0
  try clear_value x0
  extract_lets -merge -underBinder +onlyGivenNames x1
  try clear_value x1
  extract_lets -merge -underBinder +onlyGivenNames x2
  refine Fr.cut x2 ?_ (fun h2 => ?_)
  · unfold x2
    refine Fr.step State.readOver_fr rfl rfl ?_
    first | assumption | exact Fr.refl _
  try clear_value x2
  refine Fr.iteh2 (fun _ => ?_) (fun _ => ?_)
  · refine Fr.mk2 ?_
    refine Fr.set_hlth rfl ?_
    first | assumption | exact Fr.refl _
  · extract_lets -merge -underBinder +onlyGivenNames x3
    refine Fr.cut x3 ?_ (fun h3 => ?_)
    · unfold x3
      refine Fr.inc (xs := [⟨17207134736, 17207134736, 1, 0⟩]) rfl rfl ?_
      refine Fr.step State.fire_fr rfl rfl ?_
      refine Fr.wr (xs := [⟨17207132291, 17207132291, 1, 0⟩]) rfl rfl ?_
      first | assumption | exact Fr.refl _
    try clear_value x3
    refine Fr.iteh2 (fun _ => ?_) (fun _ => ?_)
    · refine Fr.mk2 ?_
      first | assumption | exact Fr.refl _
    · extract_lets -merge -underBinder +onlyGivenNames x4
      extract_lets -merge -underBinder +onlyGivenNames x5
      refine Fr.cut x5 ?_ (fun h5 => ?_)
      · unfold x5
        refine Fr.set_hlth rfl ?_
        first | assumption | exact Fr.refl _
      try clear_value x5
      refine Fr.mk2 ?_
      refine Fr.iteh (fun _ => ?_) (fun _ => ?_)
      · refine Fr.step State.raise_fr rfl rfl ?_
        first | assumption | exact Fr.refl _
      · refine Fr.step State.raiseAcc_fr rfl rfl ?_
        first | assumption | exact Fr.refl _

theorem State.writeBaseline_fr {s} {a1} {a2} {a3} {a4} {a5} : Fr [⟨17181966336, 17181966336, 1, 0⟩, ⟨17181967360, 17181967360, 1, 0⟩, ⟨17186226581, 17186257301, 2048, 0⟩, ⟨17181966338, 17181966338, 1, 0⟩, ⟨17181966495, 17181966495, 1, 0⟩, ⟨17186168832, 17186169247, 1, 0⟩, ⟨17194549776, 17194549776, 1, 0⟩, ⟨17192452352, 17192452352, 1, 0⟩, ⟨17192452608, 17192452608, 1, 0⟩, ⟨17192452480, 17192452480, 1, 0⟩, ⟨17192452229, 17192452229, 1, 0⟩, ⟨17192452228, 17192452228, 1, 0⟩, ⟨17188261632, 17188261632, 1, 0⟩, ⟨17181967232, 17181967263, 1, 0⟩] [.mem, .flt, .pwr, .evc, .memc, .free] s (State.writeBaseline s a1 a2 a3 a4 a5) := by
  unfold State.writeBaseline
  extract_lets -merge -underBinder +onlyGivenNames x0
  try clear_value x0
  extract_lets -merge -underBinder +onlyGivenNames x1
  refine Fr.cut x1 ?_ (fun h1 => ?_)
  · unfold x1
    refine Fr.step State.storeParts_fr rfl rfl ?_
    first | assumption | exact Fr.refl _
  try clear_value x1
  extract_lets -merge -underBinder +onlyGivenNames x2
  try clear_value (e2 : x2 = _)
  refine Fr.step State.storeParts_fr rfl rfl ?_
  refine Fr.step State.readOver_fr rfl rfl ?_
  first | assumption | exact Fr.refl _

theorem State.confirm_fr {s} {a1} {a2} : Fr [⟨17181966336, 17181966336, 1, 0⟩, ⟨17181967360, 17181967360, 1, 0⟩, ⟨17186226581, 17186257301, 2048, 0⟩, ⟨17181966338, 17181966338, 1, 0⟩, ⟨17181966495, 17181966495, 1, 0⟩, ⟨17186168832, 17186169247, 1, 0⟩, ⟨17207132293, 17207132293, 1, 0⟩, ⟨17207132294, 17207132294, 1, 0⟩] [.hlth, .pwr, .flt, .evc] s (State.confirm s a1 a2) := by
  unfold State.confirm
  extract_lets -merge -underBinder +onlyGivenNames x0
  extract_lets -merge -underBinder +onlyGivenNames x1
  try clear_value x1
  extract_lets -merge -underBinder +onlyGivenNames x2
  refine Fr.cut x2.1 ?_ (fun h2 => ?_)
  · unfold x2
    refine Fr.step State.hlthQueue_fr rfl rfl ?_
    first | assumption | exact Fr.refl _
  try clear_value x2
  extract_lets -merge -underBinder +onlyGivenNames x3
  refine Fr.cut x3 ?_ (fun h3 => ?_)
  · unfold x3
    first | assumption | exact Fr.refl _
  try clear_value x3
  refine Fr.iteh (fun _ => ?_) (fun _ => ?_)
  · refine Fr.step State.hlthReport_fr rfl rfl ?_
    refine Fr.set_hlth rfl ?_
    first | assumption | exact Fr.refl _
  · refine Fr.iteh (fun _ => ?_) (fun _ => ?_)
    · refine Fr.step State.hlthReport_fr rfl rfl ?_
      refine Fr.set_hlth rfl ?_
      first | assumption | exact Fr.refl _
    · refine Fr.step State.fire_fr rfl rfl ?_
      refine Fr.wr (xs := [⟨17207132294, 17207132294, 1, 0⟩]) rfl rfl ?_
      first | assumption | exact Fr.refl _

theorem State.takeResult_fr {s} {a1} {a2} {a3} {a4} {a5} {a6} {a7} : Fr [⟨17181966336, 17181966336, 1, 0⟩, ⟨17181967360, 17181967360, 1, 0⟩, ⟨17186226581, 17186257301, 2048, 0⟩, ⟨17181966338, 17181966338, 1, 0⟩, ⟨17181966495, 17181966495, 1, 0⟩, ⟨17186168832, 17186169247, 1, 0⟩, ⟨17207132293, 17207132293, 1, 0⟩, ⟨17207132294, 17207132294, 1, 0⟩] [.hlth, .pwr, .flt, .evc] s (State.takeResult s a1 a2 a3 a4 a5 a6 a7).1 := by
  unfold State.takeResult
  extract_lets -merge -underBinder +onlyGivenNames x0
  try clear_value x0
  extract_lets -merge -underBinder +onlyGivenNames x1
  try clear_value x1
  extract_lets -merge -underBinder +onlyGivenNames x2
  refine Fr.iteh1 (fun _ => ?_) (fun _ => ?_)
  · refine Fr.mk1 ?_
    refine Fr.step State.confirm_fr rfl rfl ?_
    first | assumption | exact Fr.refl _
  · refine Fr.iteh1 (fun _ => ?_) (fun _ => ?_)
    · refine Fr.mk1 ?_
      refine Fr.set_hlth rfl ?_
      first | assumption | exact Fr.refl _
    · split
      · refine Fr.iteh1 (fun _ => ?_) (fun _ => ?_)
        · refine Fr.mk1 ?_
          first | assumption | exact Fr.refl _
        · extract_lets -merge -underBinder +onlyGivenNames x3
          refine Fr.iteh1 (fun _ => ?_) (fun _ => ?_)
          · refine Fr.mk1 ?_
            refine Fr.step State.confirm_fr rfl rfl ?_
            first | assumption | exact Fr.refl _
          · refine Fr.mk1 ?_
            refine Fr.set_hlth rfl ?_
            first | assumption | exact Fr.refl _
      · refine Fr.iteh1 (fun _ => ?_) (fun _ => ?_)
        · refine Fr.mk1 ?_
          refine Fr.step State.confirm_fr rfl rfl ?_
          first | assumption | exact Fr.refl _
        · refine Fr.iteh1 (fun _ => ?_) (fun _ => ?_)
          · refine Fr.mk1 ?_
            refine Fr.set_hlth rfl ?_
            first | assumption | exact Fr.refl _
          · refine Fr.mk1 ?_
            refine Fr.step State.fire_fr rfl rfl ?_
            refine Fr.wr (xs := [⟨17207132294, 17207132294, 1, 0⟩]) rfl rfl ?_
            first | assumption | exact Fr.refl _

theorem State.setAwait_fr {s} {a1} : Fr [] [.hlth] s (State.setAwait s a1) := by
  unfold State.setAwait
  refine Fr.set_hlth rfl ?_
  first | assumption | exact Fr.refl _

theorem State.undoResult_fr {s} {a1} {a2} : Fr [⟨17181966336, 17181966336, 1, 0⟩, ⟨17181967360, 17181967360, 1, 0⟩, ⟨17186226581, 17186257301, 2048, 0⟩, ⟨17181966338, 17181966338, 1, 0⟩, ⟨17181966495, 17181966495, 1, 0⟩, ⟨17186168832, 17186169247, 1, 0⟩, ⟨17207132294, 17207132294, 1, 0⟩] [.hlth, .pwr, .flt, .evc] s (State.undoResult s a1 a2) := by
  unfold State.undoResult
  extract_lets -merge -underBinder +onlyGivenNames x0
  try clear_value (e0 : x0 = _)
  extract_lets -merge -underBinder +onlyGivenNames x1
  try clear_value x1
  extract_lets -merge -underBinder +onlyGivenNames x2
  try clear_value x2
  extract_lets -merge -underBinder +onlyGivenNames x3
  try clear_value x3
  extract_lets -merge -underBinder +onlyGivenNames x4
  extract_lets -merge -underBinder +onlyGivenNames x5
  refine Fr.cut x5 ?_ (fun h5 => ?_)
  · unfold x5
    refine Fr.set_hlth rfl ?_
    first | assumption | exact Fr.refl _
  try clear_value x5
  extract_lets -merge -underBinder +onlyGivenNames x6
  refine Fr.cut x6 ?_ (fun h6 => ?_)
  · unfold x6
    split
    · refine Fr.step State.addRetest_fr rfl rfl ?_
      first | assumption | exact Fr.refl _
    · first | assumption | exact Fr.refl _
  try clear_value x6
  extract_lets -merge -underBinder +onlyGivenNames x7
  try clear_value x7
  refine Fr.iteh (fun _ => ?_) (fun _ => ?_)
  · refine Fr.step State.queueReverts_fr rfl rfl ?_
    refine Fr.set_hlth rfl ?_
    first | assumption | exact Fr.refl _
  · first | assumption | exact Fr.refl _

theorem State.discardZone_fr {s} {a1} {a2} {a3} {a4} : Fr [⟨17181966336, 17181966336, 1, 0⟩, ⟨17181967360, 17181967360, 1, 0⟩, ⟨17186226581, 17186257301, 2048, 0⟩, ⟨17181966338, 17181966338, 1, 0⟩, ⟨17181966495, 17181966495, 1, 0⟩, ⟨17186168832, 17186169247, 1, 0⟩, ⟨17207132294, 17207132294, 1, 0⟩] [.hlth, .pwr, .flt, .evc] s (State.discardZone s a1 a2 a3 a4) := by
  unfold State.discardZone
  refine Fr.foldl' ?_ (fun t x hx ht => ?_)
  · first | assumption | exact Fr.refl _
  · refine Fr.step State.undoResult_fr rfl rfl ?_
    first | assumption | exact Fr.refl _

theorem State.judge_fr {s} {a1} {a2} {a3} {a4} {a5} : Fr [⟨17188261632, 17188261632, 1, 0⟩, ⟨17181966336, 17181966336, 1, 0⟩, ⟨17181967360, 17181967360, 1, 0⟩, ⟨17186226581, 17186257301, 2048, 0⟩, ⟨17181966338, 17181966338, 1, 0⟩, ⟨17181966495, 17181966495, 1, 0⟩, ⟨17186168832, 17186169247, 1, 0⟩, ⟨17181967232, 17181967263, 1, 0⟩, ⟨17207134736, 17207134736, 1, 0⟩, ⟨17194549776, 17194549776, 1, 0⟩, ⟨17192452352, 17192452352, 1, 0⟩, ⟨17192452608, 17192452608, 1, 0⟩, ⟨17192452480, 17192452480, 1, 0⟩, ⟨17192452229, 17192452229, 1, 0⟩, ⟨17192452228, 17192452228, 1, 0⟩, ⟨17207132291, 17207132291, 1, 0⟩, ⟨17207132293, 17207132293, 1, 0⟩, ⟨17207132294, 17207132294, 1, 0⟩, ⟨17207138304, 17207138975, 1, 0⟩] [.hlth, .flt, .pwr, .evc, .free, .mem, .memc] s (State.judge s a1 a2 a3 a4 a5) := by
  unfold State.judge
  split
  · first | assumption | exact Fr.refl _
  · refine Fr.iteh (fun _ => ?_) (fun _ => ?_)
    · first | assumption | exact Fr.refl _
    · split
      · first | assumption | exact Fr.refl _
      · extract_lets -merge -underBinder +onlyGivenNames x0
        refine Fr.cut x0 ?_ (fun h0 => ?_)
        · unfold x0
          refine Fr.step State.setAwait_fr rfl rfl ?_
          first | assumption | exact Fr.refl _
        try clear_value x0
        extract_lets -merge -underBinder +onlyGivenNames x1
        try clear_value (e1 : x1 = _)
        extract_lets -merge -underBinder +onlyGivenNames x2
        try clear_value (e2 : x2 = _)
        extract_lets -merge -underBinder +onlyGivenNames x3
        refine Fr.cut x3 ?_ (fun h3 => ?_)
        · unfold x3
          refine Fr.step State.readOver_fr rfl rfl ?_
          first | assumption | exact Fr.refl _
        try clear_value x3
        refine Fr.iteh (fun _ => ?_) (fun _ => ?_)
        · first | assumption | exact Fr.refl _
        · refine Fr.iteh (fun _ => ?_) (fun _ => ?_)
          · refine Fr.inc (xs := [⟨17207134736, 17207134736, 1, 0⟩]) rfl rfl ?_
            first | assumption | exact Fr.refl _
          · extract_lets -merge -underBinder +onlyGivenNames x4
            try clear_value (e4 : x4 = _)
            extract_lets -merge -underBinder +onlyGivenNames x5
            try clear_value x5
            extract_lets -merge -underBinder +onlyGivenNames x6
            refine Fr.cut x6 ?_ (fun h6 => ?_)
            · unfold x6
              refine Fr.iteh (fun _ => ?_) (fun _ => ?_)
              · refine Fr.step State.writeBaseline_fr rfl rfl ?_
                first | assumption | exact Fr.refl _
              · first | assumption | exact Fr.refl _
            try clear_value x6
            extract_lets -merge -underBinder +onlyGivenNames x7
            refine Fr.cut x7.2 ?_ (fun h7 => ?_)
            · unfold x7
              refine Fr.iteh2 (fun _ => ?_) (fun _ => ?_)
              · refine Fr.mk2 ?_
                first | assumption | exact Fr.refl _
              · refine Fr.step State.readBaseline_fr rfl rfl ?_
                first | assumption | exact Fr.refl _
            try clear_value x7
            extract_lets -merge -underBinder +onlyGivenNames x8
            refine Fr.cut x8 ?_ (fun h8 => ?_)
            · unfold x8
              first | assumption | exact Fr.refl _
            try clear_value x8
            split
            · first | assumption | exact Fr.refl _
            · extract_lets -merge -underBinder +onlyGivenNames x9
              extract_lets -merge -underBinder +onlyGivenNames x10
              extract_lets -merge -underBinder +onlyGivenNames x11
              refine Fr.cut x11.1 ?_ (fun h11 => ?_)
              · unfold x11
                refine Fr.step State.takeResult_fr rfl rfl ?_
                first | assumption | exact Fr.refl _
              try clear_value x11
              refine Fr.iteh (fun _ => ?_) (fun _ => ?_)
              · refine Fr.step State.setAwait_fr rfl rfl ?_
                first | assumption | exact Fr.refl _
              · extract_lets -merge -underBinder +onlyGivenNames x12
                try clear_value (e12 : x12 = _)
                extract_lets -merge -underBinder +onlyGivenNames x13
                refine Fr.iteh (fun _ => ?_) (fun _ => ?_)
                · refine Fr.step State.setAwait_fr rfl rfl ?_
                  first | assumption | exact Fr.refl _
                · refine Fr.step State.zoneFail_fr rfl rfl ?_
                  refine Fr.step State.setAwait_fr rfl rfl ?_
                  refine Fr.step State.discardZone_fr rfl rfl ?_
                  first | assumption | exact Fr.refl _

theorem State.missAwait_fr {s} {a1} : Fr [⟨17207134720, 17207134720, 1, 0⟩, ⟨17207134736, 17207134736, 1, 0⟩, ⟨17181966336, 17181966336, 1, 0⟩, ⟨17181967360, 17181967360, 1, 0⟩, ⟨17186226581, 17186257301, 2048, 0⟩, ⟨17181966338, 17181966338, 1, 0⟩, ⟨17181966495, 17181966495, 1, 0⟩, ⟨17186168832, 17186169247, 1, 0⟩, ⟨17207132292, 17207132292, 1, 0⟩] [.hlth, .pwr, .flt, .evc] s (State.missAwait s a1) := by
  unfold State.missAwait
  extract_lets -merge -underBinder +onlyGivenNames x0
  try clear_value (e0 : x0 = _)
  extract_lets -merge -underBinder +onlyGivenNames x1
  extract_lets -merge -underBinder +onlyGivenNames x2
  refine Fr.cut x2 ?_ (fun h2 => ?_)
  · unfold x2
    refine Fr.set_hlth rfl ?_
    first | assumption | exact Fr.refl _
  try clear_value x2
  extract_lets -merge -underBinder +onlyGivenNames x3
  refine Fr.cut x3 ?_ (fun h3 => ?_)
  · unfold x3
    refine Fr.inc (xs := [⟨17207134720, 17207134720, 1, 0⟩]) rfl rfl ?_
    refine Fr.addSat (xs := [⟨17207134736, 17207134736, 1, 0⟩]) rfl rfl ?_
    first | assumption | exact Fr.refl _
  try clear_value x3
  extract_lets -merge -underBinder +onlyGivenNames x4
  refine Fr.cut x4 ?_ (fun h4 => ?_)
  · unfold x4
    refine Fr.step State.fire_fr rfl rfl ?_
    refine Fr.wr (xs := [⟨17207132292, 17207132292, 1, 0⟩]) rfl rfl ?_
    first | assumption | exact Fr.refl _
  try clear_value x4
  refine Fr.iteh (fun _ => ?_) (fun _ => ?_)
  · refine Fr.step State.raise_fr rfl rfl ?_
    first | assumption | exact Fr.refl _
  · first | assumption | exact Fr.refl _

theorem State.settleAwait_fr {s} : Fr [⟨17207134720, 17207134720, 1, 0⟩, ⟨17207134736, 17207134736, 1, 0⟩, ⟨17181966336, 17181966336, 1, 0⟩, ⟨17181967360, 17181967360, 1, 0⟩, ⟨17186226581, 17186257301, 2048, 0⟩, ⟨17181966338, 17181966338, 1, 0⟩, ⟨17181966495, 17181966495, 1, 0⟩, ⟨17186168832, 17186169247, 1, 0⟩, ⟨17207132292, 17207132292, 1, 0⟩] [.hlth, .pwr, .flt, .evc] s (State.settleAwait s) := by
  unfold State.settleAwait
  refine Fr.foldl' ?_ (fun t x hx ht => ?_)
  · refine Fr.set_hlth rfl ?_
    first | assumption | exact Fr.refl _
  · refine Fr.iteh (fun _ => ?_) (fun _ => ?_)
    · refine Fr.set_hlth rfl ?_
      first | assumption | exact Fr.refl _
    · refine Fr.iteh (fun _ => ?_) (fun _ => ?_)
      · refine Fr.set_hlth rfl ?_
        first | assumption | exact Fr.refl _
      · refine Fr.step State.missAwait_fr rfl rfl ?_
        first | assumption | exact Fr.refl _

theorem State.completeAwait_fr {s} {a1} {a2} : Fr [⟨17207134720, 17207134720, 1, 0⟩, ⟨17207134736, 17207134736, 1, 0⟩, ⟨17181966336, 17181966336, 1, 0⟩, ⟨17181967360, 17181967360, 1, 0⟩, ⟨17186226581, 17186257301, 2048, 0⟩, ⟨17181966338, 17181966338, 1, 0⟩, ⟨17181966495, 17181966495, 1, 0⟩, ⟨17186168832, 17186169247, 1, 0⟩, ⟨17207132292, 17207132292, 1, 0⟩] [.hlth, .pwr, .flt, .evc] s (State.completeAwait s a1 a2) := by
  unfold State.completeAwait
  refine Fr.step State.settleAwait_fr rfl rfl ?_
  refine Fr.set_hlth rfl ?_
  first | assumption | exact Fr.refl _

theorem State.hlthResults_fr {s} {a1} {a2} {a3} {a4} {a5} : Fr ([⟨17188261632, 17188261632, 1, 0⟩, ⟨17181966336, 17181966336, 1, 0⟩, ⟨17181967360, 17181967360, 1, 0⟩, ⟨17186226581, 17186257301, 2048, 0⟩, ⟨17181966338, 17181966338, 1, 0⟩, ⟨17181966495, 17181966495, 1, 0⟩, ⟨17186168832, 17186169247, 1, 0⟩, ⟨17181967232, 17181967263, 1, 0⟩, ⟨17207134736, 17207134736, 1, 0⟩, ⟨17194549776, 17194549776, 1, 0⟩, ⟨17192452352, 17192452352, 1, 0⟩, ⟨17192452608, 17192452608, 1, 0⟩, ⟨17192452480, 17192452480, 1, 0⟩, ⟨17192452229, 17192452229, 1, 0⟩, ⟨17192452228, 17192452228, 1, 0⟩, ⟨17207132291, 17207132291, 1, 0⟩, ⟨17207132293, 17207132293, 1, 0⟩, ⟨17207132294, 17207132294, 1, 0⟩, ⟨17207138304, 17207138975, 1, 0⟩, ⟨17207132304, 17207132304, 1, 0⟩, ⟨17207132296, 17207132296, 1, 0⟩, ⟨17207134239, 17207134239, 1, 0⟩, ⟨17207134367, 17207134367, 1, 0⟩, ⟨17207134358, 17207134358, 1, 0⟩, ⟨17207134354, 17207134354, 1, 0⟩, ⟨17207134345, 17207134345, 1, 0⟩, ⟨17207134336, 17207134336, 1, 0⟩, ⟨17207134472, 17207134472, 1, 0⟩, ⟨17207134464, 17207134464, 1, 0⟩, ⟨17207134361, 17207134361, 1, 0⟩] ++ [⟨17207134720, 17207134720, 1, 0⟩, ⟨17207132292, 17207132292, 1, 0⟩]) [.hlth, .flt, .pwr, .evc, .free, .mem, .memc] s (State.hlthResults s a1 a2 a3 a4 a5) := by
  unfold State.hlthResults
  refine Fr.iteh (fun _ => ?_) (fun _ => ?_)
  · first | assumption | exact Fr.refl _
  · split
    · first | assumption | exact Fr.refl _
    · extract_lets -merge -underBinder +onlyGivenNames x0
      refine Fr.cut x0 ?_ (fun h0 => ?_)
      · unfold x0
        refine Fr.foldl' ?_ (fun t x hx ht => ?_)
        · first | assumption | exact Fr.refl _
        · refine Fr.step State.judge_fr rfl rfl ?_
          first | assumption | exact Fr.refl _
      try clear_value x0
      extract_lets -merge -underBinder +onlyGivenNames x1
      extract_lets -merge -underBinder +onlyGivenNames x2
      refine Fr.cut x2 ?_ (fun h2 => ?_)
      · unfold x2
        refine Fr.iteh (fun _ => ?_) (fun _ => ?_)
        · refine Fr.set_hlth rfl ?_
          first | assumption | exact Fr.refl _
        · first | assumption | exact Fr.refl _
      try clear_value x2
      refine Fr.step State.showHlth_fr rfl rfl ?_
      refine Fr.step State.completeAwait_fr rfl rfl ?_
      first | assumption | exact Fr.refl _

theorem State.hlthLatch_fr {s} {a1} : Fr [⟨17207134720, 17207134720, 1, 0⟩, ⟨17207134736, 17207134736, 1, 0⟩, ⟨17181966336, 17181966336, 1, 0⟩, ⟨17181967360, 17181967360, 1, 0⟩, ⟨17186226581, 17186257301, 2048, 0⟩, ⟨17181966338, 17181966338, 1, 0⟩, ⟨17181966495, 17181966495, 1, 0⟩, ⟨17186168832, 17186169247, 1, 0⟩, ⟨17207132292, 17207132292, 1, 0⟩] [.hlth, .pwr, .flt, .evc] s (State.hlthLatch s a1) := by
  unfold State.hlthLatch
  extract_lets -merge -underBinder +onlyGivenNames x0
  extract_lets -merge -underBinder +onlyGivenNames x1
  refine Fr.cut x1 ?_ (fun h1 => ?_)
  · unfold x1
    refine Fr.step State.settleAwait_fr rfl rfl ?_
    refine Fr.set_hlth rfl ?_
    first | assumption | exact Fr.refl _
  try clear_value x1
  refine Fr.iteh (fun _ => ?_) (fun _ => ?_)
  · first | assumption | exact Fr.refl _
  · split
    · first | assumption | exact Fr.refl _
    · extract_lets -merge -underBinder +onlyGivenNames x2
      try clear_value x2
      refine Fr.set_hlth rfl ?_
      first | assumption | exact Fr.refl _

theorem State.hlthCapture_fr {s} {a1} {a2} : Fr [⟨17181966336, 17181966336, 1, 0⟩, ⟨17181967360, 17181967360, 1, 0⟩, ⟨17186226581, 17186257301, 2048, 0⟩, ⟨17181966338, 17181966338, 1, 0⟩, ⟨17181966495, 17181966495, 1, 0⟩, ⟨17186168832, 17186169247, 1, 0⟩, ⟨17207132416, 17207132416, 1, 0⟩, ⟨17207132161, 17207132161, 1, 0⟩] [.pwr, .flt, .evc, .hlth] s (State.hlthCapture s a1 a2) := by
  unfold State.hlthCapture
  refine Fr.iteh (fun _ => ?_) (fun _ => ?_)
  · first | assumption | exact Fr.refl _
  · refine Fr.iteh (fun _ => ?_) (fun _ => ?_)
    · unfold State.rejectCommit
      try dsimp -zeta only
      refine Fr.step State.fire_fr rfl rfl ?_
      refine Fr.wr (xs := [⟨17207132416, 17207132416, 1, 0⟩]) rfl rfl ?_
      refine Fr.wr (xs := [⟨17207132161, 17207132161, 1, 0⟩]) rfl rfl ?_
      first | assumption | exact Fr.refl _
    · refine Fr.set_hlth rfl ?_
      first | assumption | exact Fr.refl _

theorem State.hlthLive_fr {s} : Fr [⟨17207132161, 17207132161, 1, 0⟩] [.live, .hlth] s (State.hlthLive s) := by
  unfold State.hlthLive
  split
  · first | assumption | exact Fr.refl _
  · refine Fr.wr (xs := [⟨17207132161, 17207132161, 1, 0⟩]) rfl rfl ?_
    refine Fr.step State.applySet_fr rfl rfl ?_
    refine Fr.set_hlth rfl ?_
    first | assumption | exact Fr.refl _

end Sys2Proof.Machine
end

