-- ==== Sys2Proof/Laws/TimeFrame.lean ====
section
/-! SUPPORT. What each operation and command of Machine/Time.lean changes at most: register blocks and zones of the state. -/

namespace Sys2Proof.Machine

theorem State.setTd_fr {s} {a1} {a2} : Fr [] [.time] s (State.setTd s a1 a2) := by
  unfold State.setTd
  refine Fr.set_time rfl ?_
  first | assumption | exact Fr.refl _

theorem State.tdTick_fr {s} {a1} : Fr [] [.time] s (State.tdTick s a1) := by
  unfold State.tdTick
  refine Fr.iteh (fun _ => ?_) (fun _ => ?_)
  · refine Fr.step State.setTd_fr rfl rfl ?_
    first | assumption | exact Fr.refl _
  · first | assumption | exact Fr.refl _

theorem State.showDelta_fr {s} : Fr [⟨17219715201, 17219715201, 1, 0⟩, ⟨17219715328, 17219715328, 1, 0⟩] [] s (State.showDelta s) := by
  unfold State.showDelta
  refine Fr.wrB (xs := [⟨17219715201, 17219715201, 1, 0⟩]) rfl rfl ?_
  refine Fr.wr (xs := [⟨17219715328, 17219715328, 1, 0⟩]) rfl rfl ?_
  first | assumption | exact Fr.refl _

theorem State.armCue_fr {s} {a1} {a2} : Fr [] [.time] s (State.armCue s a1 a2) := by
  unfold State.armCue
  refine Fr.set_time rfl ?_
  first | assumption | exact Fr.refl _

theorem State.cuesStepped_fr {s} {a1} {a2} : Fr [] [.time] s (State.cuesStepped s a1 a2) := by
  unfold State.cuesStepped
  refine Fr.forFin ?_ (fun i t ht => ?_)
  · first | assumption | exact Fr.refl _
  · extract_lets -merge -underBinder +onlyGivenNames x0
    refine Fr.cut x0 ?_ (fun h0 => ?_)
    · unfold x0
      split
      · refine Fr.step State.armCue_fr rfl rfl ?_
        first | assumption | exact Fr.refl _
      · first | assumption | exact Fr.refl _
    try clear_value x0
    refine Fr.iteh (fun _ => ?_) (fun _ => ?_)
    · first | assumption | exact Fr.refl _
    · refine Fr.iteh (fun _ => ?_) (fun _ => ?_)
      · extract_lets -merge -underBinder +onlyGivenNames x1
        try clear_value (e1 : x1 = _)
        extract_lets -merge -underBinder +onlyGivenNames x2
        try clear_value (e2 : x2 = _)
        refine Fr.iteh (fun _ => ?_) (fun _ => ?_)
        · refine Fr.step State.armCue_fr rfl rfl ?_
          first | assumption | exact Fr.refl _
        · refine Fr.iteh (fun _ => ?_) (fun _ => ?_)
          · first | assumption | exact Fr.refl _
          · refine Fr.step State.armCue_fr rfl rfl ?_
            first | assumption | exact Fr.refl _
      · first | assumption | exact Fr.refl _

theorem execTimeDomainEn_fr {a0} {a1} {a2} {s} : FrRes [⟨17219723264, 17219725343, 2048, 31⟩, ⟨17219715205, 17219715205, 1, 0⟩, ⟨17181966336, 17181966336, 1, 0⟩, ⟨17181967360, 17181967360, 1, 0⟩, ⟨17186226581, 17186257301, 2048, 0⟩, ⟨17181966338, 17181966338, 1, 0⟩, ⟨17181966495, 17181966495, 1, 0⟩, ⟨17186168832, 17186169247, 1, 0⟩, ⟨17188261632, 17188261632, 1, 0⟩, ⟨17181967232, 17181967263, 1, 0⟩] [.flt, .evc, .pwr, .pair, .time] s (execTimeDomainEn a0 a1 a2 s) := by
  unfold execTimeDomainEn
  extract_lets -merge -underBinder +onlyGivenNames x0
  refine FrRes.next ?_
  refine busWrite_fr (x := ⟨17219723264, 17219725343, 2048, 31⟩) (Keys.word_intro (by first | omega | (omega)) (by first | omega | (omega)) (by first | omega | (omega))) (fun u => State.werr_0x2013 (by omega)) rfl rfl ?_ (fun t ht => ?_)
  · first | assumption | exact Fr.refl _
  · refine Fr.iteh (fun _ => ?_) (fun _ => ?_)
    · refine Fr.wr (xs := [⟨17219723264, 17219725312, 2048, 0⟩]) (Reg.TIME_D_CTRL_EN_key (by first | omega | (simp only [List.mem_range] at *; omega))) rfl ?_
      first | assumption | exact Fr.refl _
    · refine Fr.iteh (fun _ => ?_) (fun _ => ?_)
      · refine Fr.step (State.werr_0x2013 (by omega)) rfl rfl ?_
        first | assumption | exact Fr.refl _
      · extract_lets -merge -underBinder +onlyGivenNames x1
        refine Fr.cut x1 ?_ (fun h1 => ?_)
        · unfold x1
          refine Fr.wr (xs := [⟨17219723264, 17219725312, 2048, 0⟩]) (Reg.TIME_D_CTRL_EN_key (by first | omega | (simp only [List.mem_range] at *; omega))) rfl ?_
          first | assumption | exact Fr.refl _
        try clear_value x1
        refine Fr.iteh (fun _ => ?_) (fun _ => ?_)
        · refine Fr.set_time rfl ?_
          first | assumption | exact Fr.refl _
        · first | assumption | exact Fr.refl _

theorem execTimeLoad_fr {a0} {a1} {a2} {s} : FrRes [⟨17219723264, 17219725343, 2048, 31⟩, ⟨17219715205, 17219715205, 1, 0⟩, ⟨17181966336, 17181966336, 1, 0⟩, ⟨17181967360, 17181967360, 1, 0⟩, ⟨17186226581, 17186257301, 2048, 0⟩, ⟨17181966338, 17181966338, 1, 0⟩, ⟨17181966495, 17181966495, 1, 0⟩, ⟨17186168832, 17186169247, 1, 0⟩, ⟨17188261632, 17188261632, 1, 0⟩, ⟨17181967232, 17181967263, 1, 0⟩, ⟨17219715203, 17219715203, 1, 0⟩, ⟨17219715204, 17219715204, 1, 0⟩] [.flt, .evc, .pwr, .pair, .time] s (execTimeLoad a0 a1 a2 s) := by
  unfold execTimeLoad
  extract_lets -merge -underBinder +onlyGivenNames x0
  refine FrRes.next ?_
  refine busWrite_fr (x := ⟨17219723264, 17219725343, 2048, 31⟩) (Keys.word_intro (by first | omega | (omega)) (by first | omega | (omega)) (by first | omega | (omega))) (fun u => State.werr_0x2013 (by omega)) rfl rfl ?_ (fun t ht => ?_)
  · first | assumption | exact Fr.refl _
  · refine Fr.iteh (fun _ => ?_) (fun _ => ?_)
    · unfold State.setAdj
      try dsimp -zeta only
      split
      · extract_lets -merge -underBinder +onlyGivenNames x1
        extract_lets -merge -underBinder +onlyGivenNames x2
        refine Fr.cut x2 ?_ (fun h2 => ?_)
        · unfold x2
          refine Fr.wr (xs := [⟨17219723265, 17219725313, 2048, 0⟩]) (Reg.TIME_D_CTRL_LOAD_key (by first | omega | (simp only [List.mem_range] at *; omega))) rfl ?_
          refine Fr.step State.setTd_fr rfl rfl ?_
          first | assumption | exact Fr.refl _
        try clear_value x2
        refine Fr.iteh (fun _ => ?_) (fun _ => ?_)
        · refine Fr.wr (xs := [⟨17219715203, 17219715203, 1, 0⟩, ⟨17219715204, 17219715204, 1, 0⟩]) (by unfold stepPend; exact (Keys.any_ite (xs := [⟨17219715203, 17219715203, 1, 0⟩]) (ys := [⟨17219715204, 17219715204, 1, 0⟩]) rfl rfl)) rfl ?_
          first | assumption | exact Fr.refl _
        · first | assumption | exact Fr.refl _
      · refine Fr.step (State.werr_0x2013 (by omega)) rfl rfl ?_
        first | assumption | exact Fr.refl _
    · first | assumption | exact Fr.refl _

theorem execTimeStep_fr {a0} {a1} {a2} {s} : FrRes [⟨17219723264, 17219725343, 2048, 31⟩, ⟨17219715205, 17219715205, 1, 0⟩, ⟨17181966336, 17181966336, 1, 0⟩, ⟨17181967360, 17181967360, 1, 0⟩, ⟨17186226581, 17186257301, 2048, 0⟩, ⟨17181966338, 17181966338, 1, 0⟩, ⟨17181966495, 17181966495, 1, 0⟩, ⟨17186168832, 17186169247, 1, 0⟩, ⟨17188261632, 17188261632, 1, 0⟩, ⟨17181967232, 17181967263, 1, 0⟩, ⟨17219715203, 17219715203, 1, 0⟩, ⟨17219715204, 17219715204, 1, 0⟩] [.flt, .evc, .pwr, .pair, .time] s (execTimeStep a0 a1 a2 s) := by
  unfold execTimeStep
  extract_lets -merge -underBinder +onlyGivenNames x0
  refine FrRes.next ?_
  refine busWrite_fr (x := ⟨17219723264, 17219725343, 2048, 31⟩) (Keys.word_intro (by first | omega | (omega)) (by first | omega | (omega)) (by first | omega | (omega))) (fun u => State.werr_0x2013 (by omega)) rfl rfl ?_ (fun t ht => ?_)
  · first | assumption | exact Fr.refl _
  · refine Fr.iteh (fun _ => ?_) (fun _ => ?_)
    · unfold State.setAdj
      try dsimp -zeta only
      split
      · extract_lets -merge -underBinder +onlyGivenNames x1
        extract_lets -merge -underBinder +onlyGivenNames x2
        refine Fr.cut x2 ?_ (fun h2 => ?_)
        · unfold x2
          refine Fr.wr (xs := [⟨17219723266, 17219725314, 2048, 0⟩]) (Reg.TIME_D_CTRL_STEP_key (by first | omega | (simp only [List.mem_range] at *; omega))) rfl ?_
          refine Fr.step State.setTd_fr rfl rfl ?_
          first | assumption | exact Fr.refl _
        try clear_value x2
        refine Fr.iteh (fun _ => ?_) (fun _ => ?_)
        · refine Fr.wr (xs := [⟨17219715203, 17219715203, 1, 0⟩, ⟨17219715204, 17219715204, 1, 0⟩]) (by unfold stepPend; exact (Keys.any_ite (xs := [⟨17219715203, 17219715203, 1, 0⟩]) (ys := [⟨17219715204, 17219715204, 1, 0⟩]) rfl rfl)) rfl ?_
          first | assumption | exact Fr.refl _
        · first | assumption | exact Fr.refl _
      · refine Fr.step (State.werr_0x2013 (by omega)) rfl rfl ?_
        first | assumption | exact Fr.refl _
    · first | assumption | exact Fr.refl _

theorem execFtSourceSwitch_fr {a0} {a1} {s} : FrRes [⟨17219715072, 17219715103, 32, 31⟩, ⟨17219715205, 17219715205, 1, 0⟩, ⟨17181966336, 17181966336, 1, 0⟩, ⟨17181967360, 17181967360, 1, 0⟩, ⟨17186226581, 17186257301, 2048, 0⟩, ⟨17181966338, 17181966338, 1, 0⟩, ⟨17181966495, 17181966495, 1, 0⟩, ⟨17186168832, 17186169247, 1, 0⟩, ⟨17188261632, 17188261632, 1, 0⟩, ⟨17181967232, 17181967263, 1, 0⟩, ⟨17219715201, 17219715201, 1, 0⟩, ⟨17219715328, 17219715328, 1, 0⟩, ⟨17219715200, 17219715200, 1, 0⟩, ⟨17219715202, 17219715202, 1, 0⟩] [.flt, .evc, .pwr, .pair, .time] s (execFtSourceSwitch a0 a1 s) := by
  unfold execFtSourceSwitch
  refine FrRes.next ?_
  refine busWrite_fr (x := ⟨17219715072, 17219715103, 32, 31⟩) (Keys.word_intro (by first | omega | (omega)) (by first | omega | (omega)) (by first | omega | (omega))) (fun u => State.werr_0x2013 (by omega)) rfl rfl ?_ (fun t ht => ?_)
  · first | assumption | exact Fr.refl _
  · extract_lets -merge -underBinder +onlyGivenNames x0
    try clear_value (e0 : x0 = _)
    refine Fr.iteh (fun _ => ?_) (fun _ => ?_)
    · refine Fr.wr (xs := [⟨17219715072, 17219715072, 1, 0⟩]) rfl rfl ?_
      first | assumption | exact Fr.refl _
    · refine Fr.iteh (fun _ => ?_) (fun _ => ?_)
      · refine Fr.step (State.werr_0x2013 (by omega)) rfl rfl ?_
        first | assumption | exact Fr.refl _
      · extract_lets -merge -underBinder +onlyGivenNames x1
        try clear_value x1
        extract_lets -merge -underBinder +onlyGivenNames x2
        refine Fr.cut x2 ?_ (fun h2 => ?_)
        · unfold x2
          refine Fr.wr (xs := [⟨17219715072, 17219715072, 1, 0⟩]) rfl rfl ?_
          first | assumption | exact Fr.refl _
        try clear_value x2
        refine Fr.iteh (fun _ => ?_) (fun _ => ?_)
        · refine Fr.step State.fire_fr rfl rfl ?_
          refine Fr.step State.showDelta_fr rfl rfl ?_
          extract_lets -merge -underBinder +onlyGivenNames x3
          refine Fr.cut x3 ?_ (fun h3 => ?_)
          · unfold x3
            refine Fr.wr (xs := [⟨17219715200, 17219715200, 1, 0⟩]) rfl rfl ?_
            first | assumption | exact Fr.refl _
          try clear_value x3
          refine Fr.set_time rfl ?_
          first | assumption | exact Fr.refl _
        · refine Fr.iteh (fun _ => ?_) (fun _ => ?_)
          · refine Fr.step State.fire_fr rfl rfl ?_
            refine Fr.step State.showDelta_fr rfl rfl ?_
            extract_lets -merge -underBinder +onlyGivenNames x4
            refine Fr.cut x4 ?_ (fun h4 => ?_)
            · unfold x4
              refine Fr.wr (xs := [⟨17219715200, 17219715200, 1, 0⟩]) rfl rfl ?_
              first | assumption | exact Fr.refl _
            try clear_value x4
            refine Fr.set_time rfl ?_
            first | assumption | exact Fr.refl _
          · refine Fr.wr (xs := [⟨17219715202, 17219715202, 1, 0⟩]) rfl rfl ?_
            first | assumption | exact Fr.refl _

theorem execTimeSlewStep_fr {s} : FrRes [⟨17219715201, 17219715201, 1, 0⟩, ⟨17219715328, 17219715328, 1, 0⟩, ⟨17181966336, 17181966336, 1, 0⟩, ⟨17181967360, 17181967360, 1, 0⟩, ⟨17186226581, 17186257301, 2048, 0⟩, ⟨17181966338, 17181966338, 1, 0⟩, ⟨17181966495, 17181966495, 1, 0⟩, ⟨17186168832, 17186169247, 1, 0⟩] [.time, .pwr, .flt, .evc] s (execTimeSlewStep s) := by
  unfold execTimeSlewStep
  refine FrRes.next ?_
  refine Fr.iteh (fun _ => ?_) (fun _ => ?_)
  · first | assumption | exact Fr.refl _
  · extract_lets -merge -underBinder +onlyGivenNames x0
    try clear_value x0
    extract_lets -merge -underBinder +onlyGivenNames x1
    try clear_value x1
    extract_lets -merge -underBinder +onlyGivenNames x2
    extract_lets -merge -underBinder +onlyGivenNames x3
    refine Fr.cut x3 ?_ (fun h3 => ?_)
    · unfold x3
      refine Fr.step State.showDelta_fr rfl rfl ?_
      refine Fr.set_time rfl ?_
      first | assumption | exact Fr.refl _
    try clear_value x3
    refine Fr.iteh (fun _ => ?_) (fun _ => ?_)
    · refine Fr.step State.fire_fr rfl rfl ?_
      first | assumption | exact Fr.refl _
    · first | assumption | exact Fr.refl _

theorem execTimeNsRead_fr {a0} {a1} {s} : FrRes [⟨17219723520, 17219725568, 2048, 0⟩, ⟨17219723776, 17219725824, 2048, 0⟩, ⟨17219723648, 17219725696, 2048, 0⟩] [.time] s (execTimeNsRead a0 a1 s) := by
  unfold execTimeNsRead
  extract_lets -merge -underBinder +onlyGivenNames x0
  refine FrRes.next ?_
  split
  · extract_lets -merge -underBinder +onlyGivenNames x1
    refine Fr.cut x1 ?_ (fun h1 => ?_)
    · unfold x1
      refine Fr.wr (xs := [⟨17219723520, 17219725568, 2048, 0⟩]) (Reg.TIME_D_NS_N_key (by first | omega | (simp only [List.mem_range] at *; omega))) rfl ?_
      refine Fr.step State.setTd_fr rfl rfl ?_
      first | assumption | exact Fr.refl _
    try clear_value x1
    refine Fr.wr (xs := [⟨17219723776, 17219725824, 2048, 0⟩]) (Reg.TIME_D_SEC_HI_SEC_key (by first | omega | (simp only [List.mem_range] at *; omega))) rfl ?_
    refine Fr.wr (xs := [⟨17219723648, 17219725696, 2048, 0⟩]) (Reg.TIME_D_SEC_LO_SEC_key (by first | omega | (simp only [List.mem_range] at *; omega))) rfl ?_
    first | assumption | exact Fr.refl _
  · refine Fr.wr (xs := [⟨17219723648, 17219725696, 2048, 0⟩]) (Reg.TIME_D_SEC_LO_SEC_key (by first | omega | (simp only [List.mem_range] at *; omega))) rfl ?_
    refine Fr.step State.setTd_fr rfl rfl ?_
    first | assumption | exact Fr.refl _
  · refine Fr.wr (xs := [⟨17219723776, 17219725824, 2048, 0⟩]) (Reg.TIME_D_SEC_HI_SEC_key (by first | omega | (simp only [List.mem_range] at *; omega))) rfl ?_
    refine Fr.step State.setTd_fr rfl rfl ?_
    first | assumption | exact Fr.refl _

theorem State.showCap_fr {s} {a1} : Fr [⟨17219716767, 17219717535, 256, 0⟩, ⟨17219716760, 17219717528, 256, 0⟩, ⟨17219716753, 17219717521, 256, 0⟩, ⟨17219716752, 17219717520, 256, 0⟩, ⟨17219716736, 17219717504, 256, 0⟩, ⟨17219716608, 17219717376, 256, 0⟩] [] s (State.showCap s a1) := by
  unfold State.showCap
  extract_lets -merge -underBinder +onlyGivenNames x0
  try clear_value x0
  extract_lets -merge -underBinder +onlyGivenNames x1
  refine Fr.wrB (xs := [⟨17219716767, 17219717535, 256, 0⟩]) (Reg.TIME_CAP_INFO_VALID_key (by first | omega | (simp only [List.mem_range] at *; omega))) rfl ?_
  refine Fr.wr (xs := [⟨17219716760, 17219717528, 256, 0⟩]) (Reg.TIME_CAP_INFO_LEVEL_key (by first | omega | (simp only [List.mem_range] at *; omega))) rfl ?_
  refine Fr.wr (xs := [⟨17219716753, 17219717521, 256, 0⟩]) (Reg.TIME_CAP_INFO_DOMAIN_key (by first | omega | (simp only [List.mem_range] at *; omega))) rfl ?_
  refine Fr.wrB (xs := [⟨17219716752, 17219717520, 256, 0⟩]) (Reg.TIME_CAP_INFO_EDGE_key (by first | omega | (simp only [List.mem_range] at *; omega))) rfl ?_
  refine Fr.wr (xs := [⟨17219716736, 17219717504, 256, 0⟩]) (Reg.TIME_CAP_INFO_SEC_key (by first | omega | (simp only [List.mem_range] at *; omega))) rfl ?_
  refine Fr.wr (xs := [⟨17219716608, 17219717376, 256, 0⟩]) (Reg.TIME_CAP_NS_N_key (by first | omega | (simp only [List.mem_range] at *; omega))) rfl ?_
  first | assumption | exact Fr.refl _

theorem execTimeCaptureEdge_fr {a0} {a1} {s} : FrRes [⟨17181966336, 17181966336, 1, 0⟩, ⟨17181967360, 17181967360, 1, 0⟩, ⟨17186226581, 17186257301, 2048, 0⟩, ⟨17181966338, 17181966338, 1, 0⟩, ⟨17181966495, 17181966495, 1, 0⟩, ⟨17186168832, 17186169247, 1, 0⟩, ⟨17219715208, 17219715211, 1, 0⟩, ⟨17219716767, 17219717535, 256, 0⟩, ⟨17219716760, 17219717528, 256, 0⟩, ⟨17219716753, 17219717521, 256, 0⟩, ⟨17219716752, 17219717520, 256, 0⟩, ⟨17219716736, 17219717504, 256, 0⟩, ⟨17219716608, 17219717376, 256, 0⟩] [.pwr, .flt, .evc, .time] s (execTimeCaptureEdge a0 a1 s) := by
  unfold execTimeCaptureEdge
  refine FrRes.next ?_
  refine Fr.iteh (fun _ => ?_) (fun _ => ?_)
  · first | assumption | exact Fr.refl _
  · refine Fr.iteh (fun _ => ?_) (fun _ => ?_)
    · refine Fr.step State.fire_fr rfl rfl ?_
      refine Fr.wr (xs := [⟨17219715208, 17219715211, 1, 0⟩]) (Reg.TIME_STATUS_CAP_OVF_key (by first | omega | (simp only [List.mem_range] at *; omega))) rfl ?_
      first | assumption | exact Fr.refl _
    · extract_lets -merge -underBinder +onlyGivenNames x0
      try clear_value (e0 : x0 = _)
      extract_lets -merge -underBinder +onlyGivenNames x1
      extract_lets -merge -underBinder +onlyGivenNames x2
      extract_lets -merge -underBinder +onlyGivenNames x3
      refine Fr.cut x3 ?_ (fun h3 => ?_)
      · unfold x3
        refine Fr.step State.showCap_fr rfl rfl ?_
        refine Fr.set_time rfl ?_
        first | assumption | exact Fr.refl _
      try clear_value x3
      refine Fr.iteh (fun _ => ?_) (fun _ => ?_)
      · refine Fr.step State.fire_fr rfl rfl ?_
        first | assumption | exact Fr.refl _
      · first | assumption | exact Fr.refl _

theorem execTimeCapInfoRead_fr {a0} {s} : FrRes [⟨17219716767, 17219717535, 256, 0⟩, ⟨17219716760, 17219717528, 256, 0⟩, ⟨17219716753, 17219717521, 256, 0⟩, ⟨17219716752, 17219717520, 256, 0⟩, ⟨17219716736, 17219717504, 256, 0⟩, ⟨17219716608, 17219717376, 256, 0⟩] [.time] s (execTimeCapInfoRead a0 s) := by
  unfold execTimeCapInfoRead
  refine FrRes.next ?_
  refine Fr.step State.showCap_fr rfl rfl ?_
  refine Fr.set_time rfl ?_
  first | assumption | exact Fr.refl _

theorem execPpsEdge_fr {s} : FrRes [⟨17181966336, 17181966336, 1, 0⟩, ⟨17181967360, 17181967360, 1, 0⟩, ⟨17186226581, 17186257301, 2048, 0⟩, ⟨17181966338, 17181966338, 1, 0⟩, ⟨17181966495, 17181966495, 1, 0⟩, ⟨17186168832, 17186169247, 1, 0⟩] [.pwr, .flt, .evc, .time] s (execPpsEdge s) := by
  unfold execPpsEdge
  refine FrRes.next ?_
  refine Fr.iteh (fun _ => ?_) (fun _ => ?_)
  · refine Fr.step State.fire_fr rfl rfl ?_
    refine Fr.set_time rfl ?_
    first | assumption | exact Fr.refl _
  · first | assumption | exact Fr.refl _

theorem execPpsFall_fr {s} : FrRes [] [.time] s (execPpsFall s) := by
  unfold execPpsFall
  refine FrRes.next ?_
  refine Fr.set_time rfl ?_
  first | assumption | exact Fr.refl _

theorem execCueFire_fr {a0} {s} : FrRes [⟨17181966336, 17181966336, 1, 0⟩, ⟨17181967360, 17181967360, 1, 0⟩, ⟨17186226581, 17186257301, 2048, 0⟩, ⟨17181966338, 17181966338, 1, 0⟩, ⟨17181966495, 17181966495, 1, 0⟩, ⟨17186168832, 17186169247, 1, 0⟩, ⟨17219715206, 17219715207, 1, 0⟩] [.time, .pwr, .flt, .evc] s (execCueFire a0 s) := by
  unfold execCueFire
  refine FrRes.next ?_
  split
  · first | assumption | exact Fr.refl _
  · extract_lets -merge -underBinder +onlyGivenNames x0
    try clear_value (e0 : x0 = _)
    refine Fr.iteh (fun _ => ?_) (fun _ => ?_)
    · first | assumption | exact Fr.refl _
    · extract_lets -merge -underBinder +onlyGivenNames x1
      try clear_value x1
      extract_lets -merge -underBinder +onlyGivenNames x2
      try clear_value (e2 : x2 = _)
      extract_lets -merge -underBinder +onlyGivenNames x3
      try clear_value x3
      extract_lets -merge -underBinder +onlyGivenNames x4
      try clear_value (e4 : x4 = _)
      extract_lets -merge -underBinder +onlyGivenNames x5
      try clear_value x5
      extract_lets -merge -underBinder +onlyGivenNames x6
      extract_lets -merge -underBinder +onlyGivenNames x7
      refine Fr.cut x7 ?_ (fun h7 => ?_)
      · unfold x7
        refine Fr.set_time rfl ?_
        first | assumption | exact Fr.refl _
      try clear_value x7
      extract_lets -merge -underBinder +onlyGivenNames x8
      refine Fr.cut x8 ?_ (fun h8 => ?_)
      · unfold x8
        refine Fr.step State.fire_fr rfl rfl ?_
        first | assumption | exact Fr.refl _
      try clear_value x8
      refine Fr.iteh (fun _ => ?_) (fun _ => ?_)
      · refine Fr.step State.fire_fr rfl rfl ?_
        refine Fr.wr (xs := [⟨17219715206, 17219715207, 1, 0⟩]) (Reg.TIME_STATUS_CUE_LATE_key (by first | omega | (simp only [List.mem_range] at *; omega))) rfl ?_
        first | assumption | exact Fr.refl _
      · first | assumption | exact Fr.refl _

theorem execCuePulseEnd_fr {a0} {s} : FrRes [] [.time] s (execCuePulseEnd a0 s) := by
  unfold execCuePulseEnd
  refine FrRes.next ?_
  refine Fr.iteh (fun _ => ?_) (fun _ => ?_)
  · refine Fr.set_time rfl ?_
    first | assumption | exact Fr.refl _
  · first | assumption | exact Fr.refl _

end Sys2Proof.Machine
end

