-- ==== Sys2Proof/Laws/PairOpsFrame.lean ====
section
/-! SUPPORT. What each operation and command of Machine/PairOps.lean changes at most: register blocks and zones of the state. -/

namespace Sys2Proof.Machine

theorem State.pairPut_fr {s} {a1} {a2} {a3} : Fr [] [.lane, .pair] s (State.pairPut s a1 a2 a3) := by
  unfold State.pairPut
  refine Fr.iteh (fun _ => ?_) (fun _ => ?_)
  · extract_lets -merge -underBinder +onlyGivenNames x0
    try clear_value x0
    refine Fr.step State.lanePacket_fr rfl rfl ?_
    refine Fr.set_pair rfl ?_
    first | assumption | exact Fr.refl _
  · first | assumption | exact Fr.refl _

theorem State.pairFlush_fr {s} : Fr [] [.pair, .lane] s (State.pairFlush s) := by
  unfold State.pairFlush
  extract_lets -merge -underBinder +onlyGivenNames x0
  try clear_value x0
  refine Fr.foldl' ?_ (fun t x hx ht => ?_)
  · refine Fr.set_pair rfl ?_
    first | assumption | exact Fr.refl _
  · refine Fr.step State.pairPut_fr rfl rfl ?_
    first | assumption | exact Fr.refl _

theorem State.pairSend_fr {s} {a1} {a2} : Fr [] [.pair, .lane] s (State.pairSend s a1 a2) := by
  unfold State.pairSend
  refine Fr.iteh (fun _ => ?_) (fun _ => ?_)
  · refine Fr.step State.pairFlush_fr rfl rfl ?_
    refine Fr.step State.pairPut_fr rfl rfl ?_
    first | assumption | exact Fr.refl _
  · refine Fr.step State.pairPut_fr rfl rfl ?_
    refine Fr.step State.pairFlush_fr rfl rfl ?_
    first | assumption | exact Fr.refl _

theorem State.mirrorCommit_fr {s} {a1} {a2} : Fr [] [.pair, .lane] s (State.mirrorCommit s a1 a2) := by
  unfold State.mirrorCommit
  refine Fr.iteh (fun _ => ?_) (fun _ => ?_)
  · refine Fr.step State.pairSend_fr rfl rfl ?_
    first | assumption | exact Fr.refl _
  · first | assumption | exact Fr.refl _

theorem State.pairState_fr {s} : Fr [] [.pair, .lane] s (State.pairState s) := by
  unfold State.pairState
  refine Fr.iteh (fun _ => ?_) (fun _ => ?_)
  · first | assumption | exact Fr.refl _
  · extract_lets -merge -underBinder +onlyGivenNames x0
    try clear_value x0
    extract_lets -merge -underBinder +onlyGivenNames x1
    try clear_value (e1 : x1 = _)
    refine Fr.step State.pairSend_fr rfl rfl ?_
    first | assumption | exact Fr.refl _

theorem State.showArmed_fr {s} : Fr [⟨17223909507, 17223909507, 1, 0⟩] [] s (State.showArmed s) := by
  unfold State.showArmed
  refine Fr.wrB (xs := [⟨17223909507, 17223909507, 1, 0⟩]) rfl rfl ?_
  first | assumption | exact Fr.refl _

theorem State.setInSync_fr {s} {a1} : Fr [⟨17223909508, 17223909508, 1, 0⟩, ⟨17223909507, 17223909507, 1, 0⟩, ⟨17181966336, 17181966336, 1, 0⟩, ⟨17181967360, 17181967360, 1, 0⟩, ⟨17186226581, 17186257301, 2048, 0⟩, ⟨17181966338, 17181966338, 1, 0⟩, ⟨17181966495, 17181966495, 1, 0⟩, ⟨17186168832, 17186169247, 1, 0⟩] [.pwr, .flt, .evc] s (State.setInSync s a1) := by
  unfold State.setInSync
  extract_lets -merge -underBinder +onlyGivenNames x0
  refine Fr.cut x0 ?_ (fun h0 => ?_)
  · unfold x0
    refine Fr.wrB (xs := [⟨17223909508, 17223909508, 1, 0⟩]) rfl rfl ?_
    first | assumption | exact Fr.refl _
  try clear_value x0
  refine Fr.step State.showArmed_fr rfl rfl ?_
  refine Fr.iteh (fun _ => ?_) (fun _ => ?_)
  · refine Fr.step State.fire_fr rfl rfl ?_
    first | assumption | exact Fr.refl _
  · first | assumption | exact Fr.refl _

theorem State.setPairState_fr {s} {a1} : Fr [⟨17223909504, 17223909504, 1, 0⟩, ⟨17223909507, 17223909507, 1, 0⟩, ⟨17181966336, 17181966336, 1, 0⟩, ⟨17181967360, 17181967360, 1, 0⟩, ⟨17186226581, 17186257301, 2048, 0⟩, ⟨17181966338, 17181966338, 1, 0⟩, ⟨17181966495, 17181966495, 1, 0⟩, ⟨17186168832, 17186169247, 1, 0⟩] [.pwr, .flt, .evc] s (State.setPairState s a1) := by
  unfold State.setPairState
  extract_lets -merge -underBinder +onlyGivenNames x0
  refine Fr.cut x0 ?_ (fun h0 => ?_)
  · unfold x0
    refine Fr.wr (xs := [⟨17223909504, 17223909504, 1, 0⟩]) rfl rfl ?_
    first | assumption | exact Fr.refl _
  try clear_value x0
  refine Fr.step State.showArmed_fr rfl rfl ?_
  refine Fr.iteh (fun _ => ?_) (fun _ => ?_)
  · refine Fr.step State.fire_fr rfl rfl ?_
    first | assumption | exact Fr.refl _
  · first | assumption | exact Fr.refl _

theorem State.pairHello_fr {s} {a1} : Fr [] [.pair, .lane] s (State.pairHello s a1) := by
  unfold State.pairHello
  extract_lets -merge -underBinder +onlyGivenNames x0
  try clear_value (e0 : x0 = _)
  extract_lets -merge -underBinder +onlyGivenNames x1
  try clear_value (e1 : x1 = _)
  extract_lets -merge -underBinder +onlyGivenNames x2
  try clear_value (e2 : x2 = _)
  refine Fr.step State.pairSend_fr rfl rfl ?_
  first | assumption | exact Fr.refl _

theorem State.pairClaim_fr {s} : Fr [⟨17181966336, 17181966336, 1, 0⟩, ⟨17181967360, 17181967360, 1, 0⟩, ⟨17186226581, 17186257301, 2048, 0⟩, ⟨17181966338, 17181966338, 1, 0⟩, ⟨17181966495, 17181966495, 1, 0⟩, ⟨17186168832, 17186169247, 1, 0⟩, ⟨17223909510, 17223909510, 1, 0⟩, ⟨17202938368, 17204380160, 131072, 0⟩] [.pwr, .flt, .evc, .lane, .tl] s (State.pairClaim s) := by
  unfold State.pairClaim
  extract_lets -merge -underBinder +onlyGivenNames x0
  try clear_value (e0 : x0 = _)
  refine Fr.iteh (fun _ => ?_) (fun _ => ?_)
  · refine Fr.step State.fire_fr rfl rfl ?_
    refine Fr.wr (xs := [⟨17223909510, 17223909510, 1, 0⟩]) rfl rfl ?_
    first | assumption | exact Fr.refl _
  · refine Fr.forFin ?_ (fun i t ht => ?_)
    · first | assumption | exact Fr.refl _
    · refine Fr.iteh (fun _ => ?_) (fun _ => ?_)
      · refine Fr.step State.tlClaim_fr rfl rfl ?_
        refine Fr.wr (xs := [⟨17202938368, 17204380160, 131072, 0⟩]) (Reg.TL_EPOCH_EPOCH_key (by first | omega | (simp only [List.mem_range] at *; omega))) rfl ?_
        first | assumption | exact Fr.refl _
      · first | assumption | exact Fr.refl _

theorem State.pairTakeover_fr {s} : Fr [⟨17181966336, 17181966336, 1, 0⟩, ⟨17181967360, 17181967360, 1, 0⟩, ⟨17186226581, 17186257301, 2048, 0⟩, ⟨17181966338, 17181966338, 1, 0⟩, ⟨17181966495, 17181966495, 1, 0⟩, ⟨17186168832, 17186169247, 1, 0⟩, ⟨17223909510, 17223909510, 1, 0⟩, ⟨17202938368, 17204380160, 131072, 0⟩, ⟨17223909506, 17223909506, 1, 0⟩, ⟨17223909507, 17223909507, 1, 0⟩] [.pwr, .flt, .evc, .lane, .tl, .pair] s (State.pairTakeover s) := by
  unfold State.pairTakeover
  extract_lets -merge -underBinder +onlyGivenNames x0
  refine Fr.cut x0 ?_ (fun h0 => ?_)
  · unfold x0
    refine Fr.step State.pairClaim_fr rfl rfl ?_
    first | assumption | exact Fr.refl _
  try clear_value x0
  extract_lets -merge -underBinder +onlyGivenNames x1
  refine Fr.cut x1 ?_ (fun h1 => ?_)
  · unfold x1
    refine Fr.wr (xs := [⟨17223909506, 17223909506, 1, 0⟩]) rfl rfl ?_
    first | assumption | exact Fr.refl _
  try clear_value x1
  extract_lets -merge -underBinder +onlyGivenNames x2
  extract_lets -merge -underBinder +onlyGivenNames x3
  refine Fr.cut x3 ?_ (fun h3 => ?_)
  · unfold x3
    refine Fr.set_pair rfl ?_
    first | assumption | exact Fr.refl _
  try clear_value x3
  refine Fr.step State.showArmed_fr rfl rfl ?_
  refine Fr.step State.fire_fr rfl rfl ?_
  refine Fr.step State.raise_fr rfl rfl ?_
  first | assumption | exact Fr.refl _

theorem State.pairDemote_fr {s} : Fr [⟨17223909506, 17223909506, 1, 0⟩, ⟨17207132304, 17207132304, 1, 0⟩, ⟨17207132296, 17207132296, 1, 0⟩, ⟨17207134239, 17207134239, 1, 0⟩, ⟨17207134367, 17207134367, 1, 0⟩, ⟨17207134358, 17207134358, 1, 0⟩, ⟨17207134354, 17207134354, 1, 0⟩, ⟨17207134345, 17207134345, 1, 0⟩, ⟨17207134336, 17207134336, 1, 0⟩, ⟨17207134472, 17207134472, 1, 0⟩, ⟨17207134464, 17207134464, 1, 0⟩, ⟨17207134361, 17207134361, 1, 0⟩, ⟨17223909508, 17223909508, 1, 0⟩, ⟨17223909507, 17223909507, 1, 0⟩, ⟨17181966336, 17181966336, 1, 0⟩, ⟨17181967360, 17181967360, 1, 0⟩, ⟨17186226581, 17186257301, 2048, 0⟩, ⟨17181966338, 17181966338, 1, 0⟩, ⟨17181966495, 17181966495, 1, 0⟩, ⟨17186168832, 17186169247, 1, 0⟩, ⟨17209229312, 17209229312, 1, 0⟩, ⟨17209229440, 17209229440, 1, 0⟩, ⟨17211359376, 17211408272, 256, 0⟩, ⟨17209229443, 17209229443, 1, 0⟩, ⟨17209229442, 17209229442, 1, 0⟩, ⟨17209231360, 17209231360, 1, 0⟩, ⟨17209231504, 17209231504, 1, 0⟩, ⟨17209231488, 17209231488, 1, 0⟩, ⟨17209231376, 17209231376, 1, 0⟩, ⟨17209245696, 17209251736, 8, 0⟩] [.pair, .hlth, .lane, .pwr, .flt, .evc, .lsc, .free, .cal] s (State.pairDemote s) := by
  unfold State.pairDemote
  refine Fr.iteh (fun _ => ?_) (fun _ => ?_)
  · first | assumption | exact Fr.refl _
  · extract_lets -merge -underBinder +onlyGivenNames x0
    refine Fr.cut x0 ?_ (fun h0 => ?_)
    · unfold x0
      refine Fr.wr (xs := [⟨17223909506, 17223909506, 1, 0⟩]) rfl rfl ?_
      first | assumption | exact Fr.refl _
    try clear_value x0
    extract_lets -merge -underBinder +onlyGivenNames x1
    extract_lets -merge -underBinder +onlyGivenNames x2
    refine Fr.cut x2 ?_ (fun h2 => ?_)
    · unfold x2
      refine Fr.set_pair rfl ?_
      first | assumption | exact Fr.refl _
    try clear_value x2
    extract_lets -merge -underBinder +onlyGivenNames x3
    refine Fr.cut x3 ?_ (fun h3 => ?_)
    · unfold x3
      refine Fr.step State.hlthFollow_fr rfl rfl ?_
      first | assumption | exact Fr.refl _
    try clear_value x3
    extract_lets -merge -underBinder +onlyGivenNames x4
    refine Fr.cut x4 ?_ (fun h4 => ?_)
    · unfold x4
      refine Fr.step State.pairHello_fr rfl rfl ?_
      refine Fr.step State.setInSync_fr rfl rfl ?_
      refine Fr.step State.lscRelease_fr rfl rfl ?_
      first | assumption | exact Fr.refl _
    try clear_value x4
    refine Fr.step State.showArmed_fr rfl rfl ?_
    refine Fr.step State.fire_fr rfl rfl ?_
    refine Fr.step State.raise_fr rfl rfl ?_
    first | assumption | exact Fr.refl _

theorem State.pairBeat_fr {s} {a1} {a2} {a3} : Fr [] [.pair, .lane] s (State.pairBeat s a1 a2 a3) := by
  unfold State.pairBeat
  refine Fr.iteh (fun _ => ?_) (fun _ => ?_)
  · first | assumption | exact Fr.refl _
  · extract_lets -merge -underBinder +onlyGivenNames x0
    try clear_value x0
    extract_lets -merge -underBinder +onlyGivenNames x1
    try clear_value x1
    refine Fr.step State.pairSend_fr rfl rfl ?_
    first | assumption | exact Fr.refl _

theorem State.pairLastBeat_fr {s} : Fr [] [.pair, .lane] s (State.pairLastBeat s) := by
  unfold State.pairLastBeat
  extract_lets -merge -underBinder +onlyGivenNames x0
  try clear_value x0
  refine Fr.step State.pairBeat_fr rfl rfl ?_
  first | assumption | exact Fr.refl _

theorem State.showOffset_fr {s} : Fr [⟨17223910144, 17223910144, 1, 0⟩] [.pair] s (State.showOffset s) := by
  unfold State.showOffset
  split
  · first | assumption | exact Fr.refl _
  · split
    · first | assumption | exact Fr.refl _
    · extract_lets -merge -underBinder +onlyGivenNames x0
      try clear_value x0
      refine Fr.wr (xs := [⟨17223910144, 17223910144, 1, 0⟩]) rfl rfl ?_
      refine Fr.set_pair rfl ?_
      first | assumption | exact Fr.refl _

theorem State.pairBoundary_fr {s} {a1} {a2} : Fr [⟨17223910144, 17223910144, 1, 0⟩] [.pair, .lane] s (State.pairBoundary s a1 a2) := by
  unfold State.pairBoundary
  extract_lets -merge -underBinder +onlyGivenNames x0
  extract_lets -merge -underBinder +onlyGivenNames x1
  refine Fr.cut x1 ?_ (fun h1 => ?_)
  · unfold x1
    refine Fr.iteh (fun _ => ?_) (fun _ => ?_)
    · refine Fr.set_pair rfl ?_
      first | assumption | exact Fr.refl _
    · first | assumption | exact Fr.refl _
  try clear_value x1
  refine Fr.iteh (fun _ => ?_) (fun _ => ?_)
  · first | assumption | exact Fr.refl _
  · extract_lets -merge -underBinder +onlyGivenNames x2
    extract_lets -merge -underBinder +onlyGivenNames x3
    refine Fr.cut x3 ?_ (fun h3 => ?_)
    · unfold x3
      refine Fr.set_pair rfl ?_
      first | assumption | exact Fr.refl _
    try clear_value x3
    refine Fr.step State.pairBeat_fr rfl rfl ?_
    refine Fr.iteh (fun _ => ?_) (fun _ => ?_)
    · refine Fr.step State.showOffset_fr rfl rfl ?_
      first | assumption | exact Fr.refl _
    · first | assumption | exact Fr.refl _

theorem State.comparePair_fr {s} {a1} {a2} : Fr [⟨17223909508, 17223909508, 1, 0⟩, ⟨17223909507, 17223909507, 1, 0⟩, ⟨17181966336, 17181966336, 1, 0⟩, ⟨17181967360, 17181967360, 1, 0⟩, ⟨17186226581, 17186257301, 2048, 0⟩, ⟨17181966338, 17181966338, 1, 0⟩, ⟨17181966495, 17181966495, 1, 0⟩, ⟨17186168832, 17186169247, 1, 0⟩, ⟨17223909509, 17223909509, 1, 0⟩, ⟨17223910272, 17223910283, 1, 0⟩, ⟨17223910400, 17223910400, 1, 0⟩] [.pair, .pwr, .flt, .evc] s (State.comparePair s a1 a2) := by
  unfold State.comparePair
  refine Fr.iteh (fun _ => ?_) (fun _ => ?_)
  · first | assumption | exact Fr.refl _
  · extract_lets -merge -underBinder +onlyGivenNames x0
    try clear_value x0
    refine Fr.iteh (fun _ => ?_) (fun _ => ?_)
    · extract_lets -merge -underBinder +onlyGivenNames x1
      try clear_value (e1 : x1 = _)
      extract_lets -merge -underBinder +onlyGivenNames x2
      extract_lets -merge -underBinder +onlyGivenNames x3
      refine Fr.cut x3 ?_ (fun h3 => ?_)
      · unfold x3
        refine Fr.set_pair rfl ?_
        first | assumption | exact Fr.refl _
      try clear_value x3
      refine Fr.iteh (fun _ => ?_) (fun _ => ?_)
      · refine Fr.step State.setInSync_fr rfl rfl ?_
        first | assumption | exact Fr.refl _
      · first | assumption | exact Fr.refl _
    · extract_lets -merge -underBinder +onlyGivenNames x4
      refine Fr.cut x4 ?_ (fun h4 => ?_)
      · unfold x4
        refine Fr.forFin ?_ (fun i t ht => ?_)
        · refine Fr.wr (xs := [⟨17223909509, 17223909509, 1, 0⟩]) rfl rfl ?_
          first | assumption | exact Fr.refl _
        · refine Fr.iteh (fun _ => ?_) (fun _ => ?_)
          · refine Fr.wr (xs := [⟨17223910272, 17223910283, 1, 0⟩]) (Reg.PAIR_CMP_PORTS_key (by first | omega | (simp only [List.mem_range] at *; omega))) rfl ?_
            first | assumption | exact Fr.refl _
          · first | assumption | exact Fr.refl _
      try clear_value x4
      extract_lets -merge -underBinder +onlyGivenNames x5
      refine Fr.cut x5 ?_ (fun h5 => ?_)
      · unfold x5
        refine Fr.inc (xs := [⟨17223910400, 17223910400, 1, 0⟩]) rfl rfl ?_
        first | assumption | exact Fr.refl _
      try clear_value x5
      extract_lets -merge -underBinder +onlyGivenNames x6
      extract_lets -merge -underBinder +onlyGivenNames x7
      refine Fr.cut x7 ?_ (fun h7 => ?_)
      · unfold x7
        refine Fr.set_pair rfl ?_
        first | assumption | exact Fr.refl _
      try clear_value x7
      refine Fr.step State.raise_fr rfl rfl ?_
      refine Fr.step State.setInSync_fr rfl rfl ?_
      refine Fr.step State.fire_fr rfl rfl ?_
      first | assumption | exact Fr.refl _

theorem State.pairRecord_fr {s} {a1} {a2} : Fr [⟨17223909508, 17223909508, 1, 0⟩, ⟨17223909507, 17223909507, 1, 0⟩, ⟨17181966336, 17181966336, 1, 0⟩, ⟨17181967360, 17181967360, 1, 0⟩, ⟨17186226581, 17186257301, 2048, 0⟩, ⟨17181966338, 17181966338, 1, 0⟩, ⟨17181966495, 17181966495, 1, 0⟩, ⟨17186168832, 17186169247, 1, 0⟩, ⟨17223909509, 17223909509, 1, 0⟩, ⟨17223910272, 17223910283, 1, 0⟩, ⟨17223910400, 17223910400, 1, 0⟩] [.pair, .lane, .pwr, .flt, .evc] s (State.pairRecord s a1 a2) := by
  unfold State.pairRecord
  refine Fr.iteh (fun _ => ?_) (fun _ => ?_)
  · first | assumption | exact Fr.refl _
  · extract_lets -merge -underBinder +onlyGivenNames x0
    try clear_value (e0 : x0 = _)
    extract_lets -merge -underBinder +onlyGivenNames x1
    extract_lets -merge -underBinder +onlyGivenNames x2
    extract_lets -merge -underBinder +onlyGivenNames x3
    refine Fr.cut x3 ?_ (fun h3 => ?_)
    · unfold x3
      refine Fr.set_pair rfl ?_
      first | assumption | exact Fr.refl _
    try clear_value x3
    extract_lets -merge -underBinder +onlyGivenNames x4
    refine Fr.cut x4 ?_ (fun h4 => ?_)
    · unfold x4
      refine Fr.step State.pairSend_fr rfl rfl ?_
      first | assumption | exact Fr.refl _
    try clear_value x4
    split
    · first | assumption | exact Fr.refl _
    · refine Fr.step State.comparePair_fr rfl rfl ?_
      refine Fr.set_pair rfl ?_
      first | assumption | exact Fr.refl _

theorem State.pairLive_fr {s} : Fr [⟨17223909507, 17223909507, 1, 0⟩] [.pair] s (State.pairLive s) := by
  unfold State.pairLive
  refine Fr.step State.showArmed_fr rfl rfl ?_
  refine Fr.set_pair rfl ?_
  first | assumption | exact Fr.refl _

end Sys2Proof.Machine
end

