-- ==== Sys2Proof/Laws/CalOpsFrame.lean ====
section
/-! SUPPORT. What each operation and command of Machine/CalOps.lean changes at most: register blocks and zones of the state. -/

namespace Sys2Proof.Machine

theorem State.calEval_fr {s} {a1} {a2} : Fr [] [.free] s (State.calEval s a1 a2).2 := by
  unfold State.calEval
  extract_lets -merge -underBinder +onlyGivenNames x0
  refine Fr.cut x0.2 ?_ (fun h0 => ?_)
  · unfold x0
    refine Fr.step State.fresh_fr rfl rfl ?_
    first | assumption | exact Fr.refl _
  try clear_value x0
  refine Fr.mk2 ?_
  first | assumption | exact Fr.refl _

theorem State.calSuccess_fr {s} {a1} {a2} : Fr [⟨17213423745, 17213423745, 1, 0⟩, ⟨17213425280, 17213425280, 1, 0⟩, ⟨17213425152, 17213425152, 1, 0⟩, ⟨17213425664, 17213425664, 1, 0⟩, ⟨17213425536, 17213425536, 1, 0⟩, ⟨17213425408, 17213425408, 1, 0⟩, ⟨17213425792, 17213425792, 1, 0⟩, ⟨17181966336, 17181966336, 1, 0⟩, ⟨17181967360, 17181967360, 1, 0⟩, ⟨17186226581, 17186257301, 2048, 0⟩, ⟨17181966338, 17181966338, 1, 0⟩, ⟨17181966495, 17181966495, 1, 0⟩, ⟨17186168832, 17186169247, 1, 0⟩] [.cal, .pwr, .flt, .evc, .pair, .lane] s (State.calSuccess s a1 a2) := by
  unfold State.calSuccess
  extract_lets -merge -underBinder +onlyGivenNames x0
  try clear_value (e0 : x0 = _)
  extract_lets -merge -underBinder +onlyGivenNames x1
  refine Fr.cut x1 ?_ (fun h1 => ?_)
  · unfold x1
    refine Fr.wr (xs := [⟨17213423745, 17213423745, 1, 0⟩]) rfl rfl ?_
    refine Fr.wr (xs := [⟨17213425280, 17213425280, 1, 0⟩]) rfl rfl ?_
    refine Fr.wr (xs := [⟨17213425152, 17213425152, 1, 0⟩]) rfl rfl ?_
    first | assumption | exact Fr.refl _
  try clear_value x1
  extract_lets -merge -underBinder +onlyGivenNames x2
  refine Fr.cut x2 ?_ (fun h2 => ?_)
  · unfold x2
    refine Fr.wr (xs := [⟨17213425664, 17213425664, 1, 0⟩]) rfl rfl ?_
    refine Fr.wr (xs := [⟨17213425536, 17213425536, 1, 0⟩]) rfl rfl ?_
    refine Fr.inc (xs := [⟨17213425408, 17213425408, 1, 0⟩]) rfl rfl ?_
    first | assumption | exact Fr.refl _
  try clear_value x2
  extract_lets -merge -underBinder +onlyGivenNames x3
  refine Fr.cut x3 ?_ (fun h3 => ?_)
  · unfold x3
    split
    · first | assumption | exact Fr.refl _
    · refine Fr.wr (xs := [⟨17213425792, 17213425792, 1, 0⟩]) rfl rfl ?_
      first | assumption | exact Fr.refl _
  try clear_value x3
  extract_lets -merge -underBinder +onlyGivenNames x4
  extract_lets -merge -underBinder +onlyGivenNames x5
  refine Fr.cut x5 ?_ (fun h5 => ?_)
  · unfold x5
    refine Fr.iteh (fun _ => ?_) (fun _ => ?_)
    · refine Fr.set_cal rfl ?_
      first | assumption | exact Fr.refl _
    · first | assumption | exact Fr.refl _
  try clear_value x5
  refine Fr.step State.fire_fr rfl rfl ?_
  refine Fr.step State.pairState_fr rfl rfl ?_
  first | assumption | exact Fr.refl _

theorem State.calEnd_fr {s} : Fr [⟨17213423752, 17213423752, 1, 0⟩, ⟨17213423617, 17213423617, 1, 0⟩, ⟨17213423744, 17213423744, 1, 0⟩] [.cal] s (State.calEnd s) := by
  unfold State.calEnd
  extract_lets -merge -underBinder +onlyGivenNames x0
  refine Fr.cut x0 ?_ (fun h0 => ?_)
  · unfold x0
    refine Fr.wr (xs := [⟨17213423752, 17213423752, 1, 0⟩]) rfl rfl ?_
    refine Fr.wr (xs := [⟨17213423617, 17213423617, 1, 0⟩]) rfl rfl ?_
    refine Fr.wr (xs := [⟨17213423744, 17213423744, 1, 0⟩]) rfl rfl ?_
    first | assumption | exact Fr.refl _
  try clear_value x0
  refine Fr.set_cal rfl ?_
  first | assumption | exact Fr.refl _

theorem State.calBlock_fr {s} : Fr [⟨17213423752, 17213423752, 1, 0⟩, ⟨17181966336, 17181966336, 1, 0⟩, ⟨17181967360, 17181967360, 1, 0⟩, ⟨17186226581, 17186257301, 2048, 0⟩, ⟨17181966338, 17181966338, 1, 0⟩, ⟨17181966495, 17181966495, 1, 0⟩, ⟨17186168832, 17186169247, 1, 0⟩, ⟨17213423749, 17213423749, 1, 0⟩, ⟨17213423617, 17213423617, 1, 0⟩, ⟨17213423744, 17213423744, 1, 0⟩, ⟨17213423745, 17213423745, 1, 0⟩, ⟨17213425280, 17213425280, 1, 0⟩, ⟨17213425152, 17213425152, 1, 0⟩, ⟨17213425664, 17213425664, 1, 0⟩, ⟨17213425536, 17213425536, 1, 0⟩, ⟨17213425408, 17213425408, 1, 0⟩, ⟨17213425792, 17213425792, 1, 0⟩] [.free, .cal, .flt, .pwr, .evc, .pair, .lane] s (State.calBlock s) := by
  unfold State.calBlock
  extract_lets -merge -underBinder +onlyGivenNames x0
  refine Fr.cut x0.2 ?_ (fun h0 => ?_)
  · unfold x0
    refine Fr.step State.calEval_fr rfl rfl ?_
    first | assumption | exact Fr.refl _
  try clear_value x0
  split
  · extract_lets -merge -underBinder +onlyGivenNames x1
    refine Fr.cut x1 ?_ (fun h1 => ?_)
    · unfold x1
      refine Fr.wr (xs := [⟨17213423752, 17213423752, 1, 0⟩]) rfl rfl ?_
      first | assumption | exact Fr.refl _
    try clear_value x1
    refine Fr.set_cal rfl ?_
    first | assumption | exact Fr.refl _
  · refine Fr.step State.raise_fr rfl rfl ?_
    refine Fr.step State.fire_fr rfl rfl ?_
    refine Fr.wr (xs := [⟨17213423749, 17213423749, 1, 0⟩]) rfl rfl ?_
    refine Fr.step State.calEnd_fr rfl rfl ?_
    first | assumption | exact Fr.refl _
  · refine Fr.step State.calSuccess_fr rfl rfl ?_
    refine Fr.step State.calEnd_fr rfl rfl ?_
    first | assumption | exact Fr.refl _

theorem State.iRef_fr {s} {a1} : Fr [] [.free] s (State.iRef s a1).2 := by
  unfold State.iRef
  extract_lets -merge -underBinder +onlyGivenNames x0
  try clear_value (e0 : x0 = _)
  refine Fr.iteh2 (fun _ => ?_) (fun _ => ?_)
  · refine Fr.step State.fresh_fr rfl rfl ?_
    first | assumption | exact Fr.refl _
  · refine Fr.mk2 ?_
    first | assumption | exact Fr.refl _

theorem State.extSample_fr {s} {a1} {a2} {a3} : Fr [⟨17213426308, 17213426308, 1, 0⟩, ⟨17213426177, 17213426177, 1, 0⟩] [.free, .cal] s (State.extSample s a1 a2 a3) := by
  unfold State.extSample
  split
  · refine Fr.iteh (fun _ => ?_) (fun _ => ?_)
    · first | assumption | exact Fr.refl _
    · extract_lets -merge -underBinder +onlyGivenNames x0
      refine Fr.cut x0.2 ?_ (fun h0 => ?_)
      · unfold x0
        refine Fr.step State.iRef_fr rfl rfl ?_
        first | assumption | exact Fr.refl _
      try clear_value x0
      extract_lets -merge -underBinder +onlyGivenNames x1
      refine Fr.cut x1 ?_ (fun h1 => ?_)
      · unfold x1
        first | assumption | exact Fr.refl _
      try clear_value x1
      extract_lets -merge -underBinder +onlyGivenNames x2
      extract_lets -merge -underBinder +onlyGivenNames x3
      extract_lets -merge -underBinder +onlyGivenNames x4
      refine Fr.cut x4 ?_ (fun h4 => ?_)
      · unfold x4
        refine Fr.set_cal rfl ?_
        first | assumption | exact Fr.refl _
      try clear_value x4
      refine Fr.iteh (fun _ => ?_) (fun _ => ?_)
      · first | assumption | exact Fr.refl _
      · refine Fr.wr (xs := [⟨17213426308, 17213426308, 1, 0⟩]) rfl rfl ?_
        refine Fr.wr (xs := [⟨17213426177, 17213426177, 1, 0⟩]) rfl rfl ?_
        first | assumption | exact Fr.refl _
  · first | assumption | exact Fr.refl _

theorem State.calBoundary_fr {s} {a1} {a2} {a3} {a4} : Fr [⟨17213426308, 17213426308, 1, 0⟩, ⟨17213426177, 17213426177, 1, 0⟩, ⟨17213423752, 17213423752, 1, 0⟩, ⟨17181966336, 17181966336, 1, 0⟩, ⟨17181967360, 17181967360, 1, 0⟩, ⟨17186226581, 17186257301, 2048, 0⟩, ⟨17181966338, 17181966338, 1, 0⟩, ⟨17181966495, 17181966495, 1, 0⟩, ⟨17186168832, 17186169247, 1, 0⟩, ⟨17213423749, 17213423749, 1, 0⟩, ⟨17213423617, 17213423617, 1, 0⟩, ⟨17213423744, 17213423744, 1, 0⟩, ⟨17213423745, 17213423745, 1, 0⟩, ⟨17213425280, 17213425280, 1, 0⟩, ⟨17213425152, 17213425152, 1, 0⟩, ⟨17213425664, 17213425664, 1, 0⟩, ⟨17213425536, 17213425536, 1, 0⟩, ⟨17213425408, 17213425408, 1, 0⟩, ⟨17213425792, 17213425792, 1, 0⟩, ⟨17213423760, 17213423760, 1, 0⟩] [.cal, .free, .flt, .pwr, .evc, .pair, .lane] s (State.calBoundary s a1 a2 a3 a4) := by
  unfold State.calBoundary
  extract_lets -merge -underBinder +onlyGivenNames x0
  extract_lets -merge -underBinder +onlyGivenNames x1
  try clear_value x1
  extract_lets -merge -underBinder +onlyGivenNames x2
  refine Fr.iteh (fun _ => ?_) (fun _ => ?_)
  · unfold x2
    refine Fr.set_cal rfl ?_
    first | assumption | exact Fr.refl _
  · split
    · extract_lets -merge -underBinder +onlyGivenNames x3
      try clear_value (e3 : x3 = _)
      extract_lets -merge -underBinder +onlyGivenNames x4
      try clear_value (e4 : x4 = _)
      extract_lets -merge -underBinder +onlyGivenNames x5
      refine Fr.cut x5 ?_ (fun h5 => ?_)
      · unfold x5
        refine Fr.iteh (fun _ => ?_) (fun _ => ?_)
        · first | assumption | exact Fr.refl _
        · refine Fr.step State.extSample_fr rfl rfl ?_
          first | assumption | exact Fr.refl _
      try clear_value x5
      refine Fr.iteh (fun _ => ?_) (fun _ => ?_)
      · unfold x2
        refine Fr.set_cal rfl ?_
        first | assumption | exact Fr.refl _
      · extract_lets -merge -underBinder +onlyGivenNames x6
        try clear_value (e6 : x6 = _)
        extract_lets -merge -underBinder +onlyGivenNames x7
        try clear_value x7
        extract_lets -merge -underBinder +onlyGivenNames x8
        extract_lets -merge -underBinder +onlyGivenNames x9
        refine Fr.cut x9 ?_ (fun h9 => ?_)
        · unfold x9
          refine Fr.wr (xs := [⟨17213423752, 17213423752, 1, 0⟩]) rfl rfl ?_
          refine Fr.set_cal rfl ?_
          first | assumption | exact Fr.refl _
        try clear_value x9
        unfold x2
        refine Fr.set_cal rfl ?_
        refine Fr.iteh (fun _ => ?_) (fun _ => ?_)
        · refine Fr.step State.calBlock_fr rfl rfl ?_
          first | assumption | exact Fr.refl _
        · first | assumption | exact Fr.refl _
    · unfold x2
      refine Fr.set_cal rfl ?_
      refine Fr.inc (xs := [⟨17213423760, 17213423760, 1, 0⟩]) rfl rfl ?_
      first | assumption | exact Fr.refl _

theorem State.calStart_fr {s} : Fr [] [.cal] s (State.calStart s) := by
  unfold State.calStart
  refine Fr.set_cal rfl ?_
  first | assumption | exact Fr.refl _

theorem State.calHealth_fr {s} {a1} {a2} : Fr [] [.tl, .cal] s (State.calHealth s a1 a2) := by
  unfold State.calHealth
  extract_lets -merge -underBinder +onlyGivenNames x0
  try clear_value x0
  extract_lets -merge -underBinder +onlyGivenNames x1
  extract_lets -merge -underBinder +onlyGivenNames x2
  refine Fr.cut x2 ?_ (fun h2 => ?_)
  · unfold x2
    refine Fr.step State.setPort_fr rfl rfl ?_
    first | assumption | exact Fr.refl _
  try clear_value x2
  refine Fr.iteh (fun _ => ?_) (fun _ => ?_)
  · refine Fr.set_cal rfl ?_
    first | assumption | exact Fr.refl _
  · first | assumption | exact Fr.refl _

theorem State.nvErr_fr {s} {a1} : Fr [⟨17181966336, 17181966336, 1, 0⟩, ⟨17181967360, 17181967360, 1, 0⟩, ⟨17186226581, 17186257301, 2048, 0⟩, ⟨17181966338, 17181966338, 1, 0⟩, ⟨17181966495, 17181966495, 1, 0⟩, ⟨17186168832, 17186169247, 1, 0⟩, ⟨17213427848, 17213427848, 1, 0⟩, ⟨17213427842, 17213427842, 1, 0⟩] [.pwr, .flt, .evc] s (State.nvErr s a1) := by
  unfold State.nvErr
  refine Fr.step State.fire_fr rfl rfl ?_
  refine Fr.wr (xs := [⟨17213427848, 17213427848, 1, 0⟩]) rfl rfl ?_
  refine Fr.wr (xs := [⟨17213427842, 17213427842, 1, 0⟩]) rfl rfl ?_
  first | assumption | exact Fr.refl _

theorem State.nvBegin_fr {s} {a1} : Fr [⟨17213427840, 17213427840, 1, 0⟩] [.cal] s (State.nvBegin s a1) := by
  unfold State.nvBegin
  extract_lets -merge -underBinder +onlyGivenNames x0
  refine Fr.cut x0 ?_ (fun h0 => ?_)
  · unfold x0
    refine Fr.wr (xs := [⟨17213427840, 17213427840, 1, 0⟩]) rfl rfl ?_
    first | assumption | exact Fr.refl _
  try clear_value x0
  refine Fr.set_cal rfl ?_
  first | assumption | exact Fr.refl _

theorem State.nvIdle_fr {s} : Fr [⟨17213427737, 17213427737, 1, 0⟩, ⟨17213427840, 17213427840, 1, 0⟩] [.cal] s (State.nvIdle s) := by
  unfold State.nvIdle
  extract_lets -merge -underBinder +onlyGivenNames x0
  refine Fr.cut x0 ?_ (fun h0 => ?_)
  · unfold x0
    refine Fr.wr (xs := [⟨17213427737, 17213427737, 1, 0⟩]) rfl rfl ?_
    refine Fr.wr (xs := [⟨17213427840, 17213427840, 1, 0⟩]) rfl rfl ?_
    first | assumption | exact Fr.refl _
  try clear_value x0
  refine Fr.set_cal rfl ?_
  first | assumption | exact Fr.refl _

theorem State.nvSpoil_fr {s} {a1} : Fr [] [.cal] s (State.nvSpoil s a1) := by
  unfold State.nvSpoil
  extract_lets -merge -underBinder +onlyGivenNames x0
  try clear_value x0
  refine Fr.set_cal rfl ?_
  first | assumption | exact Fr.refl _

theorem State.nvAbandon_fr {s} : Fr [⟨17181966336, 17181966336, 1, 0⟩, ⟨17181967360, 17181967360, 1, 0⟩, ⟨17186226581, 17186257301, 2048, 0⟩, ⟨17181966338, 17181966338, 1, 0⟩, ⟨17181966495, 17181966495, 1, 0⟩, ⟨17186168832, 17186169247, 1, 0⟩, ⟨17213427848, 17213427848, 1, 0⟩, ⟨17213427842, 17213427842, 1, 0⟩, ⟨17213427737, 17213427737, 1, 0⟩, ⟨17213427840, 17213427840, 1, 0⟩] [.pwr, .flt, .evc, .cal] s (State.nvAbandon s) := by
  unfold State.nvAbandon
  split
  · first | assumption | exact Fr.refl _
  · refine Fr.step State.nvErr_fr rfl rfl ?_
    refine Fr.step State.nvIdle_fr rfl rfl ?_
    refine Fr.step State.nvSpoil_fr rfl rfl ?_
    first | assumption | exact Fr.refl _

end Sys2Proof.Machine
end

