-- ==== Sys2Proof/Laws/CalFrame.lean ====
section
/-! SUPPORT. What each operation and command of Machine/Cal.lean changes at most: register blocks and zones of the state. -/

namespace Sys2Proof.Machine

theorem execCalEnable_fr {a0} {a1} {s} : FrRes [⟨17213423616, 17213423647, 32, 31⟩, ⟨17213423750, 17213423750, 1, 0⟩, ⟨17181966336, 17181966336, 1, 0⟩, ⟨17181967360, 17181967360, 1, 0⟩, ⟨17186226581, 17186257301, 2048, 0⟩, ⟨17181966338, 17181966338, 1, 0⟩, ⟨17181966495, 17181966495, 1, 0⟩, ⟨17186168832, 17186169247, 1, 0⟩, ⟨17188261632, 17188261632, 1, 0⟩, ⟨17181967232, 17181967263, 1, 0⟩] [.flt, .evc, .pwr, .pair, .cal] s (execCalEnable a0 a1 s) := by
  unfold execCalEnable
  refine FrRes.next ?_
  refine busWrite_fr (x := ⟨17213423616, 17213423647, 32, 31⟩) (Keys.word_intro (by first | omega | (omega)) (by first | omega | (omega)) (by first | omega | (omega))) (fun u => State.werr_0x2010 (by omega)) rfl rfl ?_ (fun t ht => ?_)
  · first | assumption | exact Fr.refl _
  · refine Fr.iteh (fun _ => ?_) (fun _ => ?_)
    · refine Fr.iteh (fun _ => ?_) (fun _ => ?_)
      · first | assumption | exact Fr.refl _
      · extract_lets -merge -underBinder +onlyGivenNames x0
        refine Fr.cut x0 ?_ (fun h0 => ?_)
        · unfold x0
          refine Fr.wr (xs := [⟨17213423616, 17213423616, 1, 0⟩]) rfl rfl ?_
          first | assumption | exact Fr.refl _
        try clear_value x0
        refine Fr.set_cal rfl ?_
        first | assumption | exact Fr.refl _
    · extract_lets -merge -underBinder +onlyGivenNames x1
      refine Fr.cut x1 ?_ (fun h1 => ?_)
      · unfold x1
        refine Fr.wr (xs := [⟨17213423616, 17213423616, 1, 0⟩]) rfl rfl ?_
        first | assumption | exact Fr.refl _
      try clear_value x1
      refine Fr.set_cal rfl ?_
      first | assumption | exact Fr.refl _

theorem execAdcCorrMeasure_fr {s} : FrRes [] [.cal] s (execAdcCorrMeasure s) := by
  unfold execAdcCorrMeasure
  refine FrRes.next ?_
  refine Fr.iteh (fun _ => ?_) (fun _ => ?_)
  · refine Fr.set_cal rfl ?_
    first | assumption | exact Fr.refl _
  · first | assumption | exact Fr.refl _

theorem State.adcRange_fr {s} {a1} {a2} {a3} : Fr [⟨17213424656, 17213424912, 128, 0⟩, ⟨17213424640, 17213424896, 128, 0⟩, ⟨17181966336, 17181966336, 1, 0⟩, ⟨17181967360, 17181967360, 1, 0⟩, ⟨17186226581, 17186257301, 2048, 0⟩, ⟨17181966338, 17181966338, 1, 0⟩, ⟨17181966495, 17181966495, 1, 0⟩, ⟨17186168832, 17186169247, 1, 0⟩, ⟨17213423747, 17213423747, 1, 0⟩] [.cal, .pwr, .flt, .evc] s (State.adcRange s a1 a2 a3) := by
  unfold State.adcRange
  split
  · extract_lets -merge -underBinder +onlyGivenNames x0
    refine Fr.cut x0 ?_ (fun h0 => ?_)
    · unfold x0
      refine Fr.wr (xs := [⟨17213424656, 17213424912, 128, 0⟩]) (Reg.CAL_ADC_CORR_GAIN_key (by first | omega | (simp only [List.mem_range] at *; omega))) rfl ?_
      refine Fr.wr (xs := [⟨17213424640, 17213424896, 128, 0⟩]) (Reg.CAL_ADC_CORR_OFS_key (by first | omega | (simp only [List.mem_range] at *; omega))) rfl ?_
      first | assumption | exact Fr.refl _
    try clear_value x0
    refine Fr.set_cal rfl ?_
    first | assumption | exact Fr.refl _
  · extract_lets -merge -underBinder +onlyGivenNames x1
    try clear_value x1
    extract_lets -merge -underBinder +onlyGivenNames x2
    refine Fr.cut x2 ?_ (fun h2 => ?_)
    · unfold x2
      refine Fr.step State.fire_fr rfl rfl ?_
      refine Fr.wr (xs := [⟨17213423747, 17213423747, 1, 0⟩]) rfl rfl ?_
      first | assumption | exact Fr.refl _
    try clear_value x2
    extract_lets -merge -underBinder +onlyGivenNames x3
    refine Fr.cut x3 ?_ (fun h3 => ?_)
    · unfold x3
      refine Fr.iteh (fun _ => ?_) (fun _ => ?_)
      · first | assumption | exact Fr.refl _
      · refine Fr.step State.raise_fr rfl rfl ?_
        first | assumption | exact Fr.refl _
    try clear_value x3
    refine Fr.set_cal rfl ?_
    first | assumption | exact Fr.refl _

theorem State.adcRanges_fr {s} {a1} {a2} : Fr [⟨17213424656, 17213424912, 128, 0⟩, ⟨17213424640, 17213424896, 128, 0⟩, ⟨17181966336, 17181966336, 1, 0⟩, ⟨17181967360, 17181967360, 1, 0⟩, ⟨17186226581, 17186257301, 2048, 0⟩, ⟨17181966338, 17181966338, 1, 0⟩, ⟨17181966495, 17181966495, 1, 0⟩, ⟨17186168832, 17186169247, 1, 0⟩, ⟨17213423747, 17213423747, 1, 0⟩] [.cal, .pwr, .flt, .evc] s (State.adcRanges s a1 a2) := by
  unfold State.adcRanges
  refine Fr.forFin ?_ (fun i t ht => ?_)
  · first | assumption | exact Fr.refl _
  · refine Fr.step State.adcRange_fr rfl rfl ?_
    first | assumption | exact Fr.refl _

theorem execAdcCorrDone_fr {a0} {a1} {a2} {s} : FrRes [⟨17213424656, 17213424912, 128, 0⟩, ⟨17213424640, 17213424896, 128, 0⟩, ⟨17181966336, 17181966336, 1, 0⟩, ⟨17181967360, 17181967360, 1, 0⟩, ⟨17186226581, 17186257301, 2048, 0⟩, ⟨17181966338, 17181966338, 1, 0⟩, ⟨17181966495, 17181966495, 1, 0⟩, ⟨17186168832, 17186169247, 1, 0⟩, ⟨17213423747, 17213423747, 1, 0⟩, ⟨17213423746, 17213423746, 1, 0⟩] [.cal, .pwr, .flt, .evc] s (execAdcCorrDone a0 a1 a2 s) := by
  unfold execAdcCorrDone
  refine FrRes.next ?_
  refine Fr.iteh (fun _ => ?_) (fun _ => ?_)
  · first | assumption | exact Fr.refl _
  · extract_lets -merge -underBinder +onlyGivenNames x0
    extract_lets -merge -underBinder +onlyGivenNames x1
    refine Fr.cut x1 ?_ (fun h1 => ?_)
    · unfold x1
      refine Fr.set_cal rfl ?_
      first | assumption | exact Fr.refl _
    try clear_value x1
    extract_lets -merge -underBinder +onlyGivenNames x2
    refine Fr.cut x2 ?_ (fun h2 => ?_)
    · unfold x2
      refine Fr.step State.adcRanges_fr rfl rfl ?_
      first | assumption | exact Fr.refl _
    try clear_value x2
    refine Fr.iteh (fun _ => ?_) (fun _ => ?_)
    · refine Fr.step State.fire_fr rfl rfl ?_
      refine Fr.wr (xs := [⟨17213423746, 17213423746, 1, 0⟩]) rfl rfl ?_
      first | assumption | exact Fr.refl _
    · first | assumption | exact Fr.refl _

theorem State.calRun_fr {s} : Fr [⟨17213423752, 17213423752, 1, 0⟩, ⟨17213423744, 17213423744, 1, 0⟩] [.cal] s (State.calRun s) := by
  unfold State.calRun
  refine Fr.iteh (fun _ => ?_) (fun _ => ?_)
  · first | assumption | exact Fr.refl _
  · extract_lets -merge -underBinder +onlyGivenNames x0
    refine Fr.cut x0 ?_ (fun h0 => ?_)
    · unfold x0
      refine Fr.wr (xs := [⟨17213423752, 17213423752, 1, 0⟩]) rfl rfl ?_
      refine Fr.wr (xs := [⟨17213423744, 17213423744, 1, 0⟩]) rfl rfl ?_
      first | assumption | exact Fr.refl _
    try clear_value x0
    refine Fr.set_cal rfl ?_
    first | assumption | exact Fr.refl _

theorem execCalStart_fr {a0} {a1} {s} : FrRes [⟨17213423616, 17213423647, 32, 31⟩, ⟨17213423750, 17213423750, 1, 0⟩, ⟨17181966336, 17181966336, 1, 0⟩, ⟨17181967360, 17181967360, 1, 0⟩, ⟨17186226581, 17186257301, 2048, 0⟩, ⟨17181966338, 17181966338, 1, 0⟩, ⟨17181966495, 17181966495, 1, 0⟩, ⟨17186168832, 17186169247, 1, 0⟩, ⟨17188261632, 17188261632, 1, 0⟩, ⟨17181967232, 17181967263, 1, 0⟩, ⟨17213423752, 17213423752, 1, 0⟩, ⟨17213423744, 17213423744, 1, 0⟩] [.flt, .evc, .pwr, .pair, .cal] s (execCalStart a0 a1 s) := by
  unfold execCalStart
  refine FrRes.next ?_
  refine busWrite_fr (x := ⟨17213423616, 17213423647, 32, 31⟩) (Keys.word_intro (by first | omega | (omega)) (by first | omega | (omega)) (by first | omega | (omega))) (fun u => State.werr_0x2010 (by omega)) rfl rfl ?_ (fun t ht => ?_)
  · first | assumption | exact Fr.refl _
  · refine Fr.iteh (fun _ => ?_) (fun _ => ?_)
    · first | assumption | exact Fr.refl _
    · refine Fr.iteh (fun _ => ?_) (fun _ => ?_)
      · refine Fr.step (State.werr_0x2010 (by omega)) rfl rfl ?_
        first | assumption | exact Fr.refl _
      · extract_lets -merge -underBinder +onlyGivenNames x0
        refine Fr.cut x0 ?_ (fun h0 => ?_)
        · unfold x0
          refine Fr.step State.calRun_fr rfl rfl ?_
          first | assumption | exact Fr.refl _
        try clear_value x0
        refine Fr.wr (xs := [⟨17213423617, 17213423617, 1, 0⟩]) rfl rfl ?_
        first | assumption | exact Fr.refl _

theorem execCalIntervalTimer_fr {s} : FrRes [⟨17213423752, 17213423752, 1, 0⟩, ⟨17213423744, 17213423744, 1, 0⟩] [.cal] s (execCalIntervalTimer s) := by
  unfold execCalIntervalTimer
  refine FrRes.next ?_
  refine Fr.iteh (fun _ => ?_) (fun _ => ?_)
  · refine Fr.step State.calRun_fr rfl rfl ?_
    first | assumption | exact Fr.refl _
  · first | assumption | exact Fr.refl _

theorem execCalTempCheck_fr {s} : FrRes [⟨17213423752, 17213423752, 1, 0⟩, ⟨17213423744, 17213423744, 1, 0⟩] [.cal] s (execCalTempCheck s) := by
  unfold execCalTempCheck
  refine FrRes.next ?_
  split
  · first | assumption | exact Fr.refl _
  · refine Fr.iteh (fun _ => ?_) (fun _ => ?_)
    · refine Fr.step State.calRun_fr rfl rfl ?_
      first | assumption | exact Fr.refl _
    · first | assumption | exact Fr.refl _

theorem execCalRunTimeout_fr {s} : FrRes [⟨17181966336, 17181966336, 1, 0⟩, ⟨17181967360, 17181967360, 1, 0⟩, ⟨17186226581, 17186257301, 2048, 0⟩, ⟨17181966338, 17181966338, 1, 0⟩, ⟨17181966495, 17181966495, 1, 0⟩, ⟨17186168832, 17186169247, 1, 0⟩, ⟨17213423748, 17213423748, 1, 0⟩, ⟨17213423752, 17213423752, 1, 0⟩, ⟨17213423617, 17213423617, 1, 0⟩, ⟨17213423744, 17213423744, 1, 0⟩] [.flt, .pwr, .evc, .cal] s (execCalRunTimeout s) := by
  unfold execCalRunTimeout
  refine FrRes.next ?_
  refine Fr.iteh (fun _ => ?_) (fun _ => ?_)
  · refine Fr.step State.raise_fr rfl rfl ?_
    refine Fr.step State.fire_fr rfl rfl ?_
    refine Fr.wr (xs := [⟨17213423748, 17213423748, 1, 0⟩]) rfl rfl ?_
    refine Fr.step State.calEnd_fr rfl rfl ?_
    first | assumption | exact Fr.refl _
  · first | assumption | exact Fr.refl _

theorem execAutoSaveWrite_fr {s} : FrRes [⟨17181966336, 17181966336, 1, 0⟩, ⟨17181967360, 17181967360, 1, 0⟩, ⟨17186226581, 17186257301, 2048, 0⟩, ⟨17181966338, 17181966338, 1, 0⟩, ⟨17181966495, 17181966495, 1, 0⟩, ⟨17186168832, 17186169247, 1, 0⟩, ⟨17213427848, 17213427848, 1, 0⟩, ⟨17213427842, 17213427842, 1, 0⟩, ⟨17213427840, 17213427840, 1, 0⟩] [.cal, .pwr, .flt, .evc] s (execAutoSaveWrite s) := by
  unfold execAutoSaveWrite
  refine FrRes.next ?_
  refine Fr.iteh (fun _ => ?_) (fun _ => ?_)
  · first | assumption | exact Fr.refl _
  · extract_lets -merge -underBinder +onlyGivenNames x0
    extract_lets -merge -underBinder +onlyGivenNames x1
    refine Fr.cut x1 ?_ (fun h1 => ?_)
    · unfold x1
      refine Fr.set_cal rfl ?_
      first | assumption | exact Fr.refl _
    try clear_value x1
    refine Fr.iteh (fun _ => ?_) (fun _ => ?_)
    · refine Fr.step State.nvErr_fr rfl rfl ?_
      first | assumption | exact Fr.refl _
    · refine Fr.step State.nvBegin_fr rfl rfl ?_
      first | assumption | exact Fr.refl _

theorem execCalExtStart_fr {a0} {a1} {s} : FrRes [⟨17213426176, 17213426207, 32, 31⟩, ⟨17213423750, 17213423750, 1, 0⟩, ⟨17181966336, 17181966336, 1, 0⟩, ⟨17181967360, 17181967360, 1, 0⟩, ⟨17186226581, 17186257301, 2048, 0⟩, ⟨17181966338, 17181966338, 1, 0⟩, ⟨17181966495, 17181966495, 1, 0⟩, ⟨17186168832, 17186169247, 1, 0⟩, ⟨17188261632, 17188261632, 1, 0⟩, ⟨17181967232, 17181967263, 1, 0⟩, ⟨17213426308, 17213426308, 1, 0⟩, ⟨17213426304, 17213426304, 1, 0⟩] [.flt, .evc, .pwr, .pair, .cal] s (execCalExtStart a0 a1 s) := by
  unfold execCalExtStart
  refine FrRes.next ?_
  refine busWrite_fr (x := ⟨17213426176, 17213426207, 32, 31⟩) (Keys.word_intro (by first | omega | (omega)) (by first | omega | (omega)) (by first | omega | (omega))) (fun u => State.werr_0x2010 (by omega)) rfl rfl ?_ (fun t ht => ?_)
  · first | assumption | exact Fr.refl _
  · refine Fr.iteh (fun _ => ?_) (fun _ => ?_)
    · first | assumption | exact Fr.refl _
    · refine Fr.iteh (fun _ => ?_) (fun _ => ?_)
      · refine Fr.step (State.werr_0x2010 (by omega)) rfl rfl ?_
        first | assumption | exact Fr.refl _
      · refine Fr.iteh (fun _ => ?_) (fun _ => ?_)
        · first | assumption | exact Fr.refl _
        · extract_lets -merge -underBinder +onlyGivenNames x0
          refine Fr.cut x0 ?_ (fun h0 => ?_)
          · unfold x0
            refine Fr.wr (xs := [⟨17213426308, 17213426308, 1, 0⟩]) rfl rfl ?_
            refine Fr.wr (xs := [⟨17213426304, 17213426304, 1, 0⟩]) rfl rfl ?_
            first | assumption | exact Fr.refl _
          try clear_value x0
          refine Fr.set_cal rfl ?_
          first | assumption | exact Fr.refl _

theorem execCalExtStep_fr {a0} {a1} {s} : FrRes [⟨17213426176, 17213426207, 32, 31⟩, ⟨17213423750, 17213423750, 1, 0⟩, ⟨17181966336, 17181966336, 1, 0⟩, ⟨17181967360, 17181967360, 1, 0⟩, ⟨17186226581, 17186257301, 2048, 0⟩, ⟨17181966338, 17181966338, 1, 0⟩, ⟨17181966495, 17181966495, 1, 0⟩, ⟨17186168832, 17186169247, 1, 0⟩, ⟨17188261632, 17188261632, 1, 0⟩, ⟨17181967232, 17181967263, 1, 0⟩] [.flt, .evc, .pwr, .pair, .cal] s (execCalExtStep a0 a1 s) := by
  unfold execCalExtStep
  refine FrRes.next ?_
  refine busWrite_fr (x := ⟨17213426176, 17213426207, 32, 31⟩) (Keys.word_intro (by first | omega | (omega)) (by first | omega | (omega)) (by first | omega | (omega))) (fun u => State.werr_0x2010 (by omega)) rfl rfl ?_ (fun t ht => ?_)
  · first | assumption | exact Fr.refl _
  · refine Fr.iteh (fun _ => ?_) (fun _ => ?_)
    · extract_lets -merge -underBinder +onlyGivenNames x0
      refine Fr.cut x0 ?_ (fun h0 => ?_)
      · unfold x0
        refine Fr.wr (xs := [⟨17213426177, 17213426177, 1, 0⟩]) rfl rfl ?_
        first | assumption | exact Fr.refl _
      try clear_value x0
      refine Fr.set_cal rfl ?_
      first | assumption | exact Fr.refl _
    · first | assumption | exact Fr.refl _

theorem State.extEnd_fr {s} : Fr [⟨17213426177, 17213426177, 1, 0⟩, ⟨17213426304, 17213426304, 1, 0⟩] [.cal] s (State.extEnd s) := by
  unfold State.extEnd
  extract_lets -merge -underBinder +onlyGivenNames x0
  refine Fr.cut x0 ?_ (fun h0 => ?_)
  · unfold x0
    refine Fr.wr (xs := [⟨17213426177, 17213426177, 1, 0⟩]) rfl rfl ?_
    refine Fr.wr (xs := [⟨17213426304, 17213426304, 1, 0⟩]) rfl rfl ?_
    first | assumption | exact Fr.refl _
  try clear_value x0
  refine Fr.set_cal rfl ?_
  first | assumption | exact Fr.refl _

theorem State.extFail_fr {s} {a1} : Fr [⟨17181966336, 17181966336, 1, 0⟩, ⟨17181967360, 17181967360, 1, 0⟩, ⟨17186226581, 17186257301, 2048, 0⟩, ⟨17181966338, 17181966338, 1, 0⟩, ⟨17181966495, 17181966495, 1, 0⟩, ⟨17186168832, 17186169247, 1, 0⟩, ⟨17213426312, 17213426312, 1, 0⟩, ⟨17213426306, 17213426306, 1, 0⟩, ⟨17213426177, 17213426177, 1, 0⟩, ⟨17213426304, 17213426304, 1, 0⟩] [.pwr, .flt, .evc, .cal] s (State.extFail s a1) := by
  unfold State.extFail
  refine Fr.step State.fire_fr rfl rfl ?_
  refine Fr.wr (xs := [⟨17213426312, 17213426312, 1, 0⟩]) rfl rfl ?_
  refine Fr.wr (xs := [⟨17213426306, 17213426306, 1, 0⟩]) rfl rfl ?_
  refine Fr.step State.extEnd_fr rfl rfl ?_
  first | assumption | exact Fr.refl _

theorem execCalExtFinish_fr {a0} {a1} {s} : FrRes [⟨17213426176, 17213426207, 32, 31⟩, ⟨17213423750, 17213423750, 1, 0⟩, ⟨17181966336, 17181966336, 1, 0⟩, ⟨17181967360, 17181967360, 1, 0⟩, ⟨17186226581, 17186257301, 2048, 0⟩, ⟨17181966338, 17181966338, 1, 0⟩, ⟨17181966495, 17181966495, 1, 0⟩, ⟨17186168832, 17186169247, 1, 0⟩, ⟨17188261632, 17188261632, 1, 0⟩, ⟨17181967232, 17181967263, 1, 0⟩, ⟨17213426312, 17213426312, 1, 0⟩, ⟨17213426306, 17213426306, 1, 0⟩, ⟨17213426304, 17213426304, 1, 0⟩, ⟨17213423745, 17213423745, 1, 0⟩, ⟨17213425280, 17213425280, 1, 0⟩, ⟨17213425152, 17213425152, 1, 0⟩, ⟨17213425664, 17213425664, 1, 0⟩, ⟨17213425536, 17213425536, 1, 0⟩, ⟨17213425408, 17213425408, 1, 0⟩, ⟨17213425792, 17213425792, 1, 0⟩, ⟨17213425296, 17213425296, 1, 0⟩, ⟨17213426305, 17213426305, 1, 0⟩, ⟨17213423749, 17213423749, 1, 0⟩] [.flt, .evc, .pwr, .pair, .cal, .free, .lane] s (execCalExtFinish a0 a1 s) := by
  unfold execCalExtFinish
  refine FrRes.next ?_
  refine busWrite_fr (x := ⟨17213426176, 17213426207, 32, 31⟩) (Keys.word_intro (by first | omega | (omega)) (by first | omega | (omega)) (by first | omega | (omega))) (fun u => State.werr_0x2010 (by omega)) rfl rfl ?_ (fun t ht => ?_)
  · first | assumption | exact Fr.refl _
  · refine Fr.iteh (fun _ => ?_) (fun _ => ?_)
    · first | assumption | exact Fr.refl _
    · extract_lets -merge -underBinder +onlyGivenNames x0
      try clear_value x0
      extract_lets -merge -underBinder +onlyGivenNames x1
      try clear_value x1
      extract_lets -merge -underBinder +onlyGivenNames x2
      try clear_value (e2 : x2 = _)
      extract_lets -merge -underBinder +onlyGivenNames x3
      try clear_value (e3 : x3 = _)
      extract_lets -merge -underBinder +onlyGivenNames x4
      try clear_value (e4 : x4 = _)
      refine Fr.iteh (fun _ => ?_) (fun _ => ?_)
      · refine Fr.step State.extFail_fr rfl rfl ?_
        first | assumption | exact Fr.refl _
      · refine Fr.iteh (fun _ => ?_) (fun _ => ?_)
        · refine Fr.step State.extFail_fr rfl rfl ?_
          first | assumption | exact Fr.refl _
        · refine Fr.iteh (fun _ => ?_) (fun _ => ?_)
          · refine Fr.step State.extFail_fr rfl rfl ?_
            first | assumption | exact Fr.refl _
          · extract_lets -merge -underBinder +onlyGivenNames x5
            refine Fr.cut x5.2 ?_ (fun h5 => ?_)
            · unfold x5
              refine Fr.step State.calEval_fr rfl rfl ?_
              first | assumption | exact Fr.refl _
            try clear_value x5
            split
            · refine Fr.step State.calSuccess_fr rfl rfl ?_
              refine Fr.wr (xs := [⟨17213425296, 17213425296, 1, 0⟩]) rfl rfl ?_
              refine Fr.wr (xs := [⟨17213426305, 17213426305, 1, 0⟩]) rfl rfl ?_
              refine Fr.step State.extEnd_fr rfl rfl ?_
              first | assumption | exact Fr.refl _
            · refine Fr.step State.raise_fr rfl rfl ?_
              refine Fr.wr (xs := [⟨17213423749, 17213423749, 1, 0⟩]) rfl rfl ?_
              refine Fr.step State.extFail_fr rfl rfl ?_
              first | assumption | exact Fr.refl _

theorem execCalExtAbort_fr {a0} {a1} {s} : FrRes [⟨17213426176, 17213426207, 32, 31⟩, ⟨17213423750, 17213423750, 1, 0⟩, ⟨17181966336, 17181966336, 1, 0⟩, ⟨17181967360, 17181967360, 1, 0⟩, ⟨17186226581, 17186257301, 2048, 0⟩, ⟨17181966338, 17181966338, 1, 0⟩, ⟨17181966495, 17181966495, 1, 0⟩, ⟨17186168832, 17186169247, 1, 0⟩, ⟨17188261632, 17188261632, 1, 0⟩, ⟨17181967232, 17181967263, 1, 0⟩, ⟨17213426312, 17213426312, 1, 0⟩, ⟨17213426306, 17213426306, 1, 0⟩, ⟨17213426304, 17213426304, 1, 0⟩] [.flt, .evc, .pwr, .pair, .cal] s (execCalExtAbort a0 a1 s) := by
  unfold execCalExtAbort
  refine FrRes.next ?_
  refine busWrite_fr (x := ⟨17213426176, 17213426207, 32, 31⟩) (Keys.word_intro (by first | omega | (omega)) (by first | omega | (omega)) (by first | omega | (omega))) (fun u => State.werr_0x2010 (by omega)) rfl rfl ?_ (fun t ht => ?_)
  · first | assumption | exact Fr.refl _
  · refine Fr.iteh (fun _ => ?_) (fun _ => ?_)
    · refine Fr.step State.extFail_fr rfl rfl ?_
      first | assumption | exact Fr.refl _
    · first | assumption | exact Fr.refl _

theorem execNvRead_fr {a0} {a1} {s} : FrRes [⟨17213427712, 17213427743, 32, 31⟩, ⟨17213423750, 17213423750, 1, 0⟩, ⟨17181966336, 17181966336, 1, 0⟩, ⟨17181967360, 17181967360, 1, 0⟩, ⟨17186226581, 17186257301, 2048, 0⟩, ⟨17181966338, 17181966338, 1, 0⟩, ⟨17181966495, 17181966495, 1, 0⟩, ⟨17186168832, 17186169247, 1, 0⟩, ⟨17188261632, 17188261632, 1, 0⟩, ⟨17181967232, 17181967263, 1, 0⟩, ⟨17213427848, 17213427848, 1, 0⟩, ⟨17213427842, 17213427842, 1, 0⟩, ⟨17213427841, 17213427841, 1, 0⟩, ⟨17213427968, 17213427968, 1, 0⟩, ⟨17213427856, 17213427856, 1, 0⟩] [.flt, .evc, .pwr, .pair, .cal] s (execNvRead a0 a1 s) := by
  unfold execNvRead
  refine FrRes.next ?_
  refine busWrite_fr (x := ⟨17213427712, 17213427743, 32, 31⟩) (Keys.word_intro (by first | omega | (omega)) (by first | omega | (omega)) (by first | omega | (omega))) (fun u => State.werr_0x2010 (by omega)) rfl rfl ?_ (fun t ht => ?_)
  · first | assumption | exact Fr.refl _
  · refine Fr.iteh (fun _ => ?_) (fun _ => ?_)
    · first | assumption | exact Fr.refl _
    · refine Fr.iteh (fun _ => ?_) (fun _ => ?_)
      · refine Fr.step (State.werr_0x2010 (by omega)) rfl rfl ?_
        first | assumption | exact Fr.refl _
      · extract_lets -merge -underBinder +onlyGivenNames x0
        try clear_value (e0 : x0 = _)
        split
        · refine Fr.step State.nvErr_fr rfl rfl ?_
          first | assumption | exact Fr.refl _
        · split
          · refine Fr.step State.nvErr_fr rfl rfl ?_
            first | assumption | exact Fr.refl _
          · extract_lets -merge -underBinder +onlyGivenNames x1
            extract_lets -merge -underBinder +onlyGivenNames x2
            refine Fr.cut x2 ?_ (fun h2 => ?_)
            · unfold x2
              refine Fr.set_cal rfl ?_
              first | assumption | exact Fr.refl _
            try clear_value x2
            refine Fr.step State.fire_fr rfl rfl ?_
            refine Fr.wr (xs := [⟨17213427841, 17213427841, 1, 0⟩]) rfl rfl ?_
            refine Fr.wr (xs := [⟨17213427968, 17213427968, 1, 0⟩]) rfl rfl ?_
            refine Fr.wr (xs := [⟨17213427856, 17213427856, 1, 0⟩]) rfl rfl ?_
            first | assumption | exact Fr.refl _

theorem execNvWrite_fr {a0} {a1} {s} : FrRes [⟨17213427712, 17213427743, 32, 31⟩, ⟨17213423750, 17213423750, 1, 0⟩, ⟨17181966336, 17181966336, 1, 0⟩, ⟨17181967360, 17181967360, 1, 0⟩, ⟨17186226581, 17186257301, 2048, 0⟩, ⟨17181966338, 17181966338, 1, 0⟩, ⟨17181966495, 17181966495, 1, 0⟩, ⟨17186168832, 17186169247, 1, 0⟩, ⟨17188261632, 17188261632, 1, 0⟩, ⟨17181967232, 17181967263, 1, 0⟩, ⟨17213427848, 17213427848, 1, 0⟩, ⟨17213427842, 17213427842, 1, 0⟩, ⟨17213427840, 17213427840, 1, 0⟩] [.flt, .evc, .pwr, .pair, .cal] s (execNvWrite a0 a1 s) := by
  unfold execNvWrite
  refine FrRes.next ?_
  refine busWrite_fr (x := ⟨17213427712, 17213427743, 32, 31⟩) (Keys.word_intro (by first | omega | (omega)) (by first | omega | (omega)) (by first | omega | (omega))) (fun u => State.werr_0x2010 (by omega)) rfl rfl ?_ (fun t ht => ?_)
  · first | assumption | exact Fr.refl _
  · extract_lets -merge -underBinder +onlyGivenNames x0
    try clear_value (e0 : x0 = _)
    extract_lets -merge -underBinder +onlyGivenNames x1
    try clear_value (e1 : x1 = _)
    refine Fr.iteh (fun _ => ?_) (fun _ => ?_)
    · first | assumption | exact Fr.refl _
    · refine Fr.iteh (fun _ => ?_) (fun _ => ?_)
      · refine Fr.step State.nvErr_fr rfl rfl ?_
        first | assumption | exact Fr.refl _
      · refine Fr.iteh (fun _ => ?_) (fun _ => ?_)
        · refine Fr.step (State.werr_0x2010 (by omega)) rfl rfl ?_
          first | assumption | exact Fr.refl _
        · refine Fr.iteh (fun _ => ?_) (fun _ => ?_)
          · refine Fr.step State.nvErr_fr rfl rfl ?_
            first | assumption | exact Fr.refl _
          · refine Fr.step State.nvBegin_fr rfl rfl ?_
            refine Fr.wr (xs := [⟨17213427737, 17213427737, 1, 0⟩]) rfl rfl ?_
            first | assumption | exact Fr.refl _

theorem State.undefer_fr {s} : Fr [] [.thm] s (State.undefer s) := by
  unfold State.undefer
  refine Fr.iteh (fun _ => ?_) (fun _ => ?_)
  · refine Fr.set_thm rfl ?_
    first | assumption | exact Fr.refl _
  · first | assumption | exact Fr.refl _

theorem execNvWriteDone_fr {a0} {s} : FrRes [⟨17181966336, 17181966336, 1, 0⟩, ⟨17181967360, 17181967360, 1, 0⟩, ⟨17186226581, 17186257301, 2048, 0⟩, ⟨17181966338, 17181966338, 1, 0⟩, ⟨17181966495, 17181966495, 1, 0⟩, ⟨17186168832, 17186169247, 1, 0⟩, ⟨17213427968, 17213427968, 1, 0⟩, ⟨17213427841, 17213427841, 1, 0⟩, ⟨17213427737, 17213427737, 1, 0⟩, ⟨17213427840, 17213427840, 1, 0⟩, ⟨17213427848, 17213427848, 1, 0⟩, ⟨17213427842, 17213427842, 1, 0⟩] [.cal, .thm, .pwr, .flt, .evc] s (execNvWriteDone a0 s) := by
  unfold execNvWriteDone
  refine FrRes.next ?_
  split
  · first | assumption | exact Fr.refl _
  · refine Fr.iteh (fun _ => ?_) (fun _ => ?_)
    · extract_lets -merge -underBinder +onlyGivenNames x0
      try clear_value x0
      extract_lets -merge -underBinder +onlyGivenNames x1
      extract_lets -merge -underBinder +onlyGivenNames x2
      refine Fr.cut x2 ?_ (fun h2 => ?_)
      · unfold x2
        refine Fr.set_cal rfl ?_
        first | assumption | exact Fr.refl _
      try clear_value x2
      refine Fr.step State.undefer_fr rfl rfl ?_
      refine Fr.step State.fire_fr rfl rfl ?_
      refine Fr.wr (xs := [⟨17213427968, 17213427968, 1, 0⟩]) rfl rfl ?_
      refine Fr.wr (xs := [⟨17213427841, 17213427841, 1, 0⟩]) rfl rfl ?_
      refine Fr.step State.nvIdle_fr rfl rfl ?_
      first | assumption | exact Fr.refl _
    · refine Fr.step State.undefer_fr rfl rfl ?_
      refine Fr.step State.raise_fr rfl rfl ?_
      refine Fr.step State.nvErr_fr rfl rfl ?_
      refine Fr.step State.nvIdle_fr rfl rfl ?_
      refine Fr.step State.nvSpoil_fr rfl rfl ?_
      first | assumption | exact Fr.refl _

end Sys2Proof.Machine
end

