-- ==== Sys2Proof/Laws/CryptoFrame.lean ====
section
/-! SUPPORT. What each operation and command of Machine/Crypto.lean changes at most: register blocks and zones of the state. -/

namespace Sys2Proof.Machine

theorem State.cryptoGo_fr {s} {a1} {a2} {a3} : Fr [⟨17226006528, 17226006559, 32, 31⟩, ⟨17226006659, 17226006659, 1, 0⟩, ⟨17188261632, 17188261632, 1, 0⟩, ⟨17181966336, 17181966336, 1, 0⟩, ⟨17181967360, 17181967360, 1, 0⟩, ⟨17186226581, 17186257301, 2048, 0⟩, ⟨17181966338, 17181966338, 1, 0⟩, ⟨17181966495, 17181966495, 1, 0⟩, ⟨17186168832, 17186169247, 1, 0⟩, ⟨17181967232, 17181967263, 1, 0⟩, ⟨17226006656, 17226006656, 1, 0⟩] [.flt, .evc, .pwr, .pair, .ident] s (State.cryptoGo s a1 a2 a3) := by
  unfold State.cryptoGo
  refine busWrite_fr (x := ⟨17226006528, 17226006559, 32, 31⟩) (Keys.word_intro (by first | omega | (omega)) (by first | omega | (omega)) (by first | omega | (omega))) (fun u => State.werr_0x2016 (by omega)) rfl rfl ?_ (fun t ht => ?_)
  · first | assumption | exact Fr.refl _
  · refine Fr.iteh (fun _ => ?_) (fun _ => ?_)
    · first | assumption | exact Fr.refl _
    · refine Fr.iteh (fun _ => ?_) (fun _ => ?_)
      · refine Fr.step (State.werr_0x2016 (by omega)) rfl rfl ?_
        first | assumption | exact Fr.refl _
      · extract_lets -merge -underBinder +onlyGivenNames x0
        refine Fr.wr (xs := [⟨17226006559, 17226006559, 1, 0⟩]) rfl rfl ?_
        refine Fr.wr (xs := [⟨17226006656, 17226006656, 1, 0⟩]) rfl rfl ?_
        refine Fr.set_ident rfl ?_
        first | assumption | exact Fr.refl _

theorem execCryptoSha256_fr {a0} {a1} {s} : FrRes [⟨17226006528, 17226006559, 32, 31⟩, ⟨17226006659, 17226006659, 1, 0⟩, ⟨17188261632, 17188261632, 1, 0⟩, ⟨17181966336, 17181966336, 1, 0⟩, ⟨17181967360, 17181967360, 1, 0⟩, ⟨17186226581, 17186257301, 2048, 0⟩, ⟨17181966338, 17181966338, 1, 0⟩, ⟨17181966495, 17181966495, 1, 0⟩, ⟨17186168832, 17186169247, 1, 0⟩, ⟨17181967232, 17181967263, 1, 0⟩, ⟨17226006656, 17226006656, 1, 0⟩] [.flt, .evc, .pwr, .pair, .ident] s (execCryptoSha256 a0 a1 s) := by
  unfold execCryptoSha256
  refine FrRes.next ?_
  refine Fr.step State.cryptoGo_fr rfl rfl ?_
  first | assumption | exact Fr.refl _

theorem execCryptoSign_fr {a0} {a1} {s} : FrRes [⟨17226006528, 17226006559, 32, 31⟩, ⟨17226006659, 17226006659, 1, 0⟩, ⟨17188261632, 17188261632, 1, 0⟩, ⟨17181966336, 17181966336, 1, 0⟩, ⟨17181967360, 17181967360, 1, 0⟩, ⟨17186226581, 17186257301, 2048, 0⟩, ⟨17181966338, 17181966338, 1, 0⟩, ⟨17181966495, 17181966495, 1, 0⟩, ⟨17186168832, 17186169247, 1, 0⟩, ⟨17181967232, 17181967263, 1, 0⟩, ⟨17226006656, 17226006656, 1, 0⟩] [.flt, .evc, .pwr, .pair, .ident] s (execCryptoSign a0 a1 s) := by
  unfold execCryptoSign
  refine FrRes.next ?_
  refine Fr.step State.cryptoGo_fr rfl rfl ?_
  first | assumption | exact Fr.refl _

theorem execCryptoVerify_fr {a0} {a1} {s} : FrRes [⟨17226006528, 17226006559, 32, 31⟩, ⟨17226006659, 17226006659, 1, 0⟩, ⟨17188261632, 17188261632, 1, 0⟩, ⟨17181966336, 17181966336, 1, 0⟩, ⟨17181967360, 17181967360, 1, 0⟩, ⟨17186226581, 17186257301, 2048, 0⟩, ⟨17181966338, 17181966338, 1, 0⟩, ⟨17181966495, 17181966495, 1, 0⟩, ⟨17186168832, 17186169247, 1, 0⟩, ⟨17181967232, 17181967263, 1, 0⟩, ⟨17226006656, 17226006656, 1, 0⟩] [.flt, .evc, .pwr, .pair, .ident] s (execCryptoVerify a0 a1 s) := by
  unfold execCryptoVerify
  refine FrRes.next ?_
  refine Fr.step State.cryptoGo_fr rfl rfl ?_
  first | assumption | exact Fr.refl _

theorem execCryptoRngFill_fr {a0} {a1} {s} : FrRes [⟨17226006528, 17226006559, 32, 31⟩, ⟨17226006659, 17226006659, 1, 0⟩, ⟨17188261632, 17188261632, 1, 0⟩, ⟨17181966336, 17181966336, 1, 0⟩, ⟨17181967360, 17181967360, 1, 0⟩, ⟨17186226581, 17186257301, 2048, 0⟩, ⟨17181966338, 17181966338, 1, 0⟩, ⟨17181966495, 17181966495, 1, 0⟩, ⟨17186168832, 17186169247, 1, 0⟩, ⟨17181967232, 17181967263, 1, 0⟩, ⟨17226006656, 17226006656, 1, 0⟩] [.flt, .evc, .pwr, .pair, .ident] s (execCryptoRngFill a0 a1 s) := by
  unfold execCryptoRngFill
  refine FrRes.next ?_
  refine Fr.step State.cryptoGo_fr rfl rfl ?_
  first | assumption | exact Fr.refl _

theorem Fr.wrWords {bs zs} {s t : State} {f : Nat → Fld} {ws : List Byte} {xs : List Keys} (hk : ∀ k < 8, Keys.any xs (f k).key = true)
    (hb : subN xs bs = true) (h : Fr bs zs s t) : Fr bs zs s (t.wrWords f ws) :=
  Fr.foldl' h (fun _ k hx hu => Fr.wr (hk k (List.mem_range.1 hx)) hb hu)

theorem State.cryptoRun_fr {s} {a1} : Fr [⟨17188261632, 17188261632, 1, 0⟩, ⟨17181966336, 17181966336, 1, 0⟩, ⟨17181967360, 17181967360, 1, 0⟩, ⟨17186226581, 17186257301, 2048, 0⟩, ⟨17181966338, 17181966338, 1, 0⟩, ⟨17181966495, 17181966495, 1, 0⟩, ⟨17186168832, 17186169247, 1, 0⟩, ⟨17181967232, 17181967263, 1, 0⟩, ⟨17226007552, 17226008448, 128, 0⟩, ⟨17226009600, 17226010496, 128, 0⟩, ⟨17226008576, 17226009472, 128, 0⟩, ⟨17226012672, 17226012672, 1, 0⟩] [.flt, .pwr, .evc, .free] s (State.cryptoRun s a1).1 := by
  unfold State.cryptoRun
  split
  · refine Fr.iteh1 (fun _ => ?_) (fun _ => ?_)
    · refine Fr.mk1 ?_
      refine Fr.step State.readErr_fr rfl rfl ?_
      first | assumption | exact Fr.refl _
    · refine Fr.mk1 ?_
      refine Fr.wrWords (xs := [⟨17226007552, 17226008448, 128, 0⟩]) (fun k hk => (Reg.CRYPTO_DIGEST_WORD_key (by first | omega | (simp only [List.mem_range] at *; omega)))) rfl ?_
      first | assumption | exact Fr.refl _
  · refine Fr.iteh1 (fun _ => ?_) (fun _ => ?_)
    · refine Fr.mk1 ?_
      first | assumption | exact Fr.refl _
    · extract_lets -merge -underBinder +onlyGivenNames x0
      refine Fr.cut x0.2 ?_ (fun h0 => ?_)
      · unfold x0
        refine Fr.step State.fresh_fr rfl rfl ?_
        first | assumption | exact Fr.refl _
      try clear_value x0
      extract_lets -merge -underBinder +onlyGivenNames x1
      try clear_value x1
      refine Fr.mk1 ?_
      refine Fr.wrWords (xs := [⟨17226009600, 17226010496, 128, 0⟩]) (fun k hk => (Reg.CRYPTO_SIG_S_WORD_key (by first | omega | (simp only [List.mem_range] at *; omega)))) rfl ?_
      refine Fr.wrWords (xs := [⟨17226008576, 17226009472, 128, 0⟩]) (fun k hk => (Reg.CRYPTO_SIG_R_WORD_key (by first | omega | (simp only [List.mem_range] at *; omega)))) rfl ?_
      first | assumption | exact Fr.refl _
  · extract_lets -merge -underBinder +onlyGivenNames x2
    try clear_value x2
    refine Fr.mk1 ?_
    first | assumption | exact Fr.refl _
  · refine Fr.mk1 ?_
    refine Fr.step State.nextRandom_fr rfl rfl ?_
    first | assumption | exact Fr.refl _

theorem execCryptoOpDone_fr {s} : FrRes [⟨17188261632, 17188261632, 1, 0⟩, ⟨17181966336, 17181966336, 1, 0⟩, ⟨17181967360, 17181967360, 1, 0⟩, ⟨17186226581, 17186257301, 2048, 0⟩, ⟨17181966338, 17181966338, 1, 0⟩, ⟨17181966495, 17181966495, 1, 0⟩, ⟨17186168832, 17186169247, 1, 0⟩, ⟨17181967232, 17181967263, 1, 0⟩, ⟨17226007552, 17226008448, 128, 0⟩, ⟨17226009600, 17226010496, 128, 0⟩, ⟨17226008576, 17226009472, 128, 0⟩, ⟨17226012672, 17226012672, 1, 0⟩, ⟨17226006657, 17226006657, 1, 0⟩, ⟨17226006658, 17226006658, 1, 0⟩, ⟨17226006559, 17226006559, 1, 0⟩, ⟨17226006656, 17226006656, 1, 0⟩] [.flt, .pwr, .evc, .free, .ident] s (execCryptoOpDone s) := by
  unfold execCryptoOpDone
  refine FrRes.next ?_
  split
  · first | assumption | exact Fr.refl _
  · extract_lets -merge -underBinder +onlyGivenNames x0
    refine Fr.cut x0.1 ?_ (fun h0 => ?_)
    · unfold x0
      refine Fr.step State.cryptoRun_fr rfl rfl ?_
      first | assumption | exact Fr.refl _
    try clear_value x0
    extract_lets -merge -underBinder +onlyGivenNames x1
    refine Fr.cut x1 ?_ (fun h1 => ?_)
    · unfold x1
      first | assumption | exact Fr.refl _
    try clear_value x1
    extract_lets -merge -underBinder +onlyGivenNames x2
    extract_lets -merge -underBinder +onlyGivenNames x3
    refine Fr.cut x3 ?_ (fun h3 => ?_)
    · unfold x3
      refine Fr.set_ident rfl ?_
      first | assumption | exact Fr.refl _
    try clear_value x3
    refine Fr.wr (xs := [⟨17226006657, 17226006657, 1, 0⟩, ⟨17226006658, 17226006658, 1, 0⟩]) (Keys.any_ite (xs := [⟨17226006657, 17226006657, 1, 0⟩]) (ys := [⟨17226006658, 17226006658, 1, 0⟩]) rfl rfl) rfl ?_
    refine Fr.wr (xs := [⟨17226006559, 17226006559, 1, 0⟩]) rfl rfl ?_
    refine Fr.wr (xs := [⟨17226006656, 17226006656, 1, 0⟩]) rfl rfl ?_
    first | assumption | exact Fr.refl _

theorem execSmkeyStore_fr {a0} {a1} {s} : FrRes [⟨17226015744, 17226015775, 32, 31⟩, ⟨17226006659, 17226006659, 1, 0⟩, ⟨17188261632, 17188261632, 1, 0⟩, ⟨17181966336, 17181966336, 1, 0⟩, ⟨17181967360, 17181967360, 1, 0⟩, ⟨17186226581, 17186257301, 2048, 0⟩, ⟨17181966338, 17181966338, 1, 0⟩, ⟨17181966495, 17181966495, 1, 0⟩, ⟨17186168832, 17186169247, 1, 0⟩, ⟨17181967232, 17181967263, 1, 0⟩, ⟨17226014720, 17226015616, 128, 0⟩] [.flt, .evc, .pwr, .pair, .ident] s (execSmkeyStore a0 a1 s) := by
  unfold execSmkeyStore
  refine FrRes.next ?_
  refine busWrite_fr (x := ⟨17226015744, 17226015775, 32, 31⟩) (Keys.word_intro (by first | omega | (omega)) (by first | omega | (omega)) (by first | omega | (omega))) (fun u => State.werr_0x2016 (by omega)) rfl rfl ?_ (fun t ht => ?_)
  · first | assumption | exact Fr.refl _
  · refine Fr.iteh (fun _ => ?_) (fun _ => ?_)
    · first | assumption | exact Fr.refl _
    · extract_lets -merge -underBinder +onlyGivenNames x0
      try clear_value (e0 : x0 = _)
      extract_lets -merge -underBinder +onlyGivenNames x1
      try clear_value x1
      extract_lets -merge -underBinder +onlyGivenNames x2
      extract_lets -merge -underBinder +onlyGivenNames x3
      extract_lets -merge -underBinder +onlyGivenNames x4
      refine Fr.cut x4 ?_ (fun h4 => ?_)
      · unfold x4
        refine Fr.set_ident rfl ?_
        first | assumption | exact Fr.refl _
      try clear_value x4
      refine Fr.forFin ?_ (fun i t ht => ?_)
      · first | assumption | exact Fr.refl _
      · refine Fr.wr (xs := [⟨17226014720, 17226015616, 128, 0⟩]) (Reg.CRYPTO_SMKEY_DATA_key (by first | omega | (simp only [List.mem_range] at *; omega))) rfl ?_
        first | assumption | exact Fr.refl _

theorem execTrngHealthFail_fr {s} : FrRes [⟨17226012672, 17226012672, 1, 0⟩] [.flt, .free, .ident] s (execTrngHealthFail s) := by
  unfold execTrngHealthFail
  refine FrRes.next ?_
  refine Fr.step State.raise_fr rfl rfl ?_
  refine Fr.step State.nextRandom_fr rfl rfl ?_
  refine Fr.set_ident rfl ?_
  first | assumption | exact Fr.refl _

end Sys2Proof.Machine
end

