-- ==== Sys2Proof/Laws/CvuFrame.lean ====
section
/-! SUPPORT. What each operation and command of Machine/Cvu.lean changes at most: register blocks and zones of the state. -/

namespace Sys2Proof.Machine

theorem State.setCvu_fr {s} {a1} {a2} : Fr [] [.cvu] s (State.setCvu s a1 a2) := by
  unfold State.setCvu
  refine Fr.set_cvu rfl ?_
  first | assumption | exact Fr.refl _

theorem execCvuStart_fr {a0} {a1} {a2} {s} : FrRes [⟨17190354944, 17190361119, 2048, 31⟩, ⟨17190355078, 17190361222, 2048, 0⟩, ⟨17181966336, 17181966336, 1, 0⟩, ⟨17181967360, 17181967360, 1, 0⟩, ⟨17186226581, 17186257301, 2048, 0⟩, ⟨17181966338, 17181966338, 1, 0⟩, ⟨17181966495, 17181966495, 1, 0⟩, ⟨17186168832, 17186169247, 1, 0⟩, ⟨17188261632, 17188261632, 1, 0⟩, ⟨17181967232, 17181967263, 1, 0⟩, ⟨17190355072, 17190361216, 2048, 0⟩] [.flt, .evc, .pwr, .pair, .cvu] s (execCvuStart a0 a1 a2 s) := by
  unfold execCvuStart
  refine FrRes.next ?_
  refine busWrite_fr (x := ⟨17190354944, 17190361119, 2048, 31⟩) (Keys.word_intro (by first | omega | (unfold cvuAddr; omega)) (by first | omega | (unfold cvuAddr; omega)) (by first | omega | (unfold cvuAddr; omega))) (fun u => State.werr_0x2005 (by unfold cvuAddr; omega)) rfl rfl ?_ (fun t ht => ?_)
  · first | assumption | exact Fr.refl _
  · refine Fr.iteh (fun _ => ?_) (fun _ => ?_)
    · first | assumption | exact Fr.refl _
    · refine Fr.iteh (fun _ => ?_) (fun _ => ?_)
      · refine Fr.step (State.werr_0x2005 (by unfold cvuAddr; omega)) rfl rfl ?_
        first | assumption | exact Fr.refl _
      · extract_lets -merge -underBinder +onlyGivenNames x0
        refine Fr.wr (xs := [⟨17190355072, 17190361216, 2048, 0⟩]) (Reg.CVU_STATUS_BUSY_key (by first | omega | (simp only [List.mem_range] at *; omega))) rfl ?_
        refine Fr.wr (xs := [⟨17190354944, 17190361088, 2048, 0⟩]) (Reg.CVU_CTRL_START_key (by first | omega | (simp only [List.mem_range] at *; omega))) rfl ?_
        refine Fr.step State.setCvu_fr rfl rfl ?_
        first | assumption | exact Fr.refl _

theorem execCvuStop_fr {a0} {a1} {a2} {s} : FrRes [⟨17190354944, 17190361119, 2048, 31⟩, ⟨17190355078, 17190361222, 2048, 0⟩, ⟨17181966336, 17181966336, 1, 0⟩, ⟨17181967360, 17181967360, 1, 0⟩, ⟨17186226581, 17186257301, 2048, 0⟩, ⟨17181966338, 17181966338, 1, 0⟩, ⟨17181966495, 17181966495, 1, 0⟩, ⟨17186168832, 17186169247, 1, 0⟩, ⟨17188261632, 17188261632, 1, 0⟩, ⟨17181967232, 17181967263, 1, 0⟩] [.flt, .evc, .pwr, .pair] s (execCvuStop a0 a1 a2 s) := by
  unfold execCvuStop
  refine FrRes.next ?_
  refine busWrite_fr (x := ⟨17190354944, 17190361119, 2048, 31⟩) (Keys.word_intro (by first | omega | (unfold cvuAddr; omega)) (by first | omega | (unfold cvuAddr; omega)) (by first | omega | (unfold cvuAddr; omega))) (fun u => State.werr_0x2005 (by unfold cvuAddr; omega)) rfl rfl ?_ (fun t ht => ?_)
  · first | assumption | exact Fr.refl _
  · refine Fr.iteh (fun _ => ?_) (fun _ => ?_)
    · first | assumption | exact Fr.refl _
    · refine Fr.iteh (fun _ => ?_) (fun _ => ?_)
      · refine Fr.wr (xs := [⟨17190354945, 17190361089, 2048, 0⟩]) (Reg.CVU_CTRL_STOP_key (by first | omega | (simp only [List.mem_range] at *; omega))) rfl ?_
        first | assumption | exact Fr.refl _
      · refine Fr.wr (xs := [⟨17190354944, 17190361088, 2048, 0⟩]) (Reg.CVU_CTRL_START_key (by first | omega | (simp only [List.mem_range] at *; omega))) rfl ?_
        first | assumption | exact Fr.refl _

theorem State.cvuFault_fr {s} {a1} {a2} {a3} : Fr [] [.flt] s (State.cvuFault s a1 a2 a3) := by
  unfold State.cvuFault
  refine Fr.step State.raiseOcc_fr rfl rfl ?_
  first | assumption | exact Fr.refl _

theorem State.cvuCheck_fr {s} {a1} {a2} {a3} : Fr [⟨17190355584, 17190361728, 2048, 0⟩, ⟨17181966336, 17181966336, 1, 0⟩, ⟨17181967360, 17181967360, 1, 0⟩, ⟨17186226581, 17186257301, 2048, 0⟩, ⟨17181966338, 17181966338, 1, 0⟩, ⟨17181966495, 17181966495, 1, 0⟩, ⟨17186168832, 17186169247, 1, 0⟩, ⟨17190355074, 17190361218, 2048, 0⟩, ⟨17190355712, 17190361856, 2048, 0⟩, ⟨17190355073, 17190361217, 2048, 0⟩, ⟨17190355076, 17190361220, 2048, 0⟩, ⟨17190355075, 17190361219, 2048, 0⟩] [.pwr, .flt, .evc] s (State.cvuCheck s a1 a2 a3) := by
  unfold State.cvuCheck
  extract_lets -merge -underBinder +onlyGivenNames x0
  try clear_value (e0 : x0 = _)
  extract_lets -merge -underBinder +onlyGivenNames x1
  try clear_value (e1 : x1 = _)
  extract_lets -merge -underBinder +onlyGivenNames x2
  try clear_value (e2 : x2 = _)
  extract_lets -merge -underBinder +onlyGivenNames x3
  try clear_value (e3 : x3 = _)
  extract_lets -merge -underBinder +onlyGivenNames x4
  refine Fr.cut x4 ?_ (fun h4 => ?_)
  · unfold x4
    refine Fr.wr (xs := [⟨17190355584, 17190361728, 2048, 0⟩]) (Reg.CVU_RESULT_VALUE_key (by first | omega | (simp only [List.mem_range] at *; omega))) rfl ?_
    first | assumption | exact Fr.refl _
  try clear_value x4
  extract_lets -merge -underBinder +onlyGivenNames x5
  try clear_value x5
  extract_lets -merge -underBinder +onlyGivenNames x6
  refine Fr.cut x6 ?_ (fun h6 => ?_)
  · unfold x6
    refine Fr.iteh (fun _ => ?_) (fun _ => ?_)
    · first | assumption | exact Fr.refl _
    · unfold State.cvuErr
      try dsimp -zeta only
      refine Fr.step State.fire_fr rfl rfl ?_
      refine Fr.wr (xs := [⟨17190355074, 17190361218, 2048, 0⟩]) (Reg.CVU_STATUS_MISMATCH_key (by first | omega | (simp only [List.mem_range] at *; omega))) rfl ?_
      first | assumption | exact Fr.refl _
  try clear_value x6
  extract_lets -merge -underBinder +onlyGivenNames x7
  refine Fr.cut x7 ?_ (fun h7 => ?_)
  · unfold x7
    refine Fr.iteh (fun _ => ?_) (fun _ => ?_)
    · first | assumption | exact Fr.refl _
    · refine Fr.step State.raise_fr rfl rfl ?_
      first | assumption | exact Fr.refl _
  try clear_value x7
  refine Fr.iteh (fun _ => ?_) (fun _ => ?_)
  · extract_lets -merge -underBinder +onlyGivenNames x8
    refine Fr.cut x8 ?_ (fun h8 => ?_)
    · unfold x8
      refine Fr.iteh (fun _ => ?_) (fun _ => ?_)
      · refine Fr.wr (xs := [⟨17190355712, 17190361856, 2048, 0⟩]) (Reg.CVU_ALIVE_REF_key (by first | omega | (simp only [List.mem_range] at *; omega))) rfl ?_
        first | assumption | exact Fr.refl _
      · first | assumption | exact Fr.refl _
    try clear_value x8
    refine Fr.iteh (fun _ => ?_) (fun _ => ?_)
    · refine Fr.step State.fire_fr rfl rfl ?_
      refine Fr.wr (xs := [⟨17190355073, 17190361217, 2048, 0⟩]) (Reg.CVU_STATUS_PASS_key (by first | omega | (simp only [List.mem_range] at *; omega))) rfl ?_
      first | assumption | exact Fr.refl _
    · refine Fr.wr (xs := [⟨17190355073, 17190361217, 2048, 0⟩]) (Reg.CVU_STATUS_PASS_key (by first | omega | (simp only [List.mem_range] at *; omega))) rfl ?_
      first | assumption | exact Fr.refl _
  · refine Fr.iteh (fun _ => ?_) (fun _ => ?_)
    · extract_lets -merge -underBinder +onlyGivenNames x9
      try clear_value (e9 : x9 = _)
      refine Fr.iteh (fun _ => ?_) (fun _ => ?_)
      · refine Fr.wr (xs := [⟨17190355073, 17190361217, 2048, 0⟩]) (Reg.CVU_STATUS_PASS_key (by first | omega | (simp only [List.mem_range] at *; omega))) rfl ?_
        unfold State.cvuErr
        try dsimp -zeta only
        refine Fr.step State.fire_fr rfl rfl ?_
        refine Fr.wr (xs := [⟨17190355076, 17190361220, 2048, 0⟩]) (Reg.CVU_STATUS_ERR_key (by first | omega | (simp only [List.mem_range] at *; omega))) rfl ?_
        first | assumption | exact Fr.refl _
      · refine Fr.iteh (fun _ => ?_) (fun _ => ?_)
        · refine Fr.wr (xs := [⟨17190355073, 17190361217, 2048, 0⟩]) (Reg.CVU_STATUS_PASS_key (by first | omega | (simp only [List.mem_range] at *; omega))) rfl ?_
          first | assumption | exact Fr.refl _
        · extract_lets -merge -underBinder +onlyGivenNames x10
          try clear_value (e10 : x10 = _)
          extract_lets -merge -underBinder +onlyGivenNames x11
          refine Fr.cut x11 ?_ (fun h11 => ?_)
          · unfold x11
            refine Fr.wr (xs := [⟨17190355712, 17190361856, 2048, 0⟩]) (Reg.CVU_ALIVE_REF_key (by first | omega | (simp only [List.mem_range] at *; omega))) rfl ?_
            first | assumption | exact Fr.refl _
          try clear_value x11
          refine Fr.iteh (fun _ => ?_) (fun _ => ?_)
          · refine Fr.step State.fire_fr rfl rfl ?_
            refine Fr.wr (xs := [⟨17190355073, 17190361217, 2048, 0⟩]) (Reg.CVU_STATUS_PASS_key (by first | omega | (simp only [List.mem_range] at *; omega))) rfl ?_
            first | assumption | exact Fr.refl _
          · refine Fr.wr (xs := [⟨17190355073, 17190361217, 2048, 0⟩]) (Reg.CVU_STATUS_PASS_key (by first | omega | (simp only [List.mem_range] at *; omega))) rfl ?_
            refine Fr.step State.raise_fr rfl rfl ?_
            unfold State.cvuErr
            try dsimp -zeta only
            refine Fr.step State.fire_fr rfl rfl ?_
            refine Fr.wr (xs := [⟨17190355075, 17190361219, 2048, 0⟩]) (Reg.CVU_STATUS_ALIVE_ERR_key (by first | omega | (simp only [List.mem_range] at *; omega))) rfl ?_
            first | assumption | exact Fr.refl _
    · refine Fr.iteh (fun _ => ?_) (fun _ => ?_)
      · refine Fr.step State.fire_fr rfl rfl ?_
        refine Fr.wr (xs := [⟨17190355073, 17190361217, 2048, 0⟩]) (Reg.CVU_STATUS_PASS_key (by first | omega | (simp only [List.mem_range] at *; omega))) rfl ?_
        first | assumption | exact Fr.refl _
      · refine Fr.wr (xs := [⟨17190355073, 17190361217, 2048, 0⟩]) (Reg.CVU_STATUS_PASS_key (by first | omega | (simp only [List.mem_range] at *; omega))) rfl ?_
        first | assumption | exact Fr.refl _

theorem State.cvuNext_fr {s} {a1} : Fr [⟨17190355072, 17190361216, 2048, 0⟩, ⟨17190354945, 17190361089, 2048, 0⟩, ⟨17190354944, 17190361088, 2048, 0⟩] [.cvu] s (State.cvuNext s a1) := by
  unfold State.cvuNext
  extract_lets -merge -underBinder +onlyGivenNames x0
  refine Fr.iteh (fun _ => ?_) (fun _ => ?_)
  · refine Fr.wr (xs := [⟨17190355072, 17190361216, 2048, 0⟩]) (Reg.CVU_STATUS_BUSY_key (by first | omega | (simp only [List.mem_range] at *; omega))) rfl ?_
    refine Fr.wr (xs := [⟨17190354945, 17190361089, 2048, 0⟩]) (Reg.CVU_CTRL_STOP_key (by first | omega | (simp only [List.mem_range] at *; omega))) rfl ?_
    refine Fr.wr (xs := [⟨17190354944, 17190361088, 2048, 0⟩]) (Reg.CVU_CTRL_START_key (by first | omega | (simp only [List.mem_range] at *; omega))) rfl ?_
    refine Fr.step State.setCvu_fr rfl rfl ?_
    first | assumption | exact Fr.refl _
  · refine Fr.iteh (fun _ => ?_) (fun _ => ?_)
    · refine Fr.step State.setCvu_fr rfl rfl ?_
      first | assumption | exact Fr.refl _
    · refine Fr.wr (xs := [⟨17190355072, 17190361216, 2048, 0⟩]) (Reg.CVU_STATUS_BUSY_key (by first | omega | (simp only [List.mem_range] at *; omega))) rfl ?_
      first | assumption | exact Fr.refl _

theorem execCvuScanEnd_fr {a0} {a1} {s} : FrRes [⟨17190355073, 17190361217, 2048, 0⟩, ⟨17181966336, 17181966336, 1, 0⟩, ⟨17181967360, 17181967360, 1, 0⟩, ⟨17186226581, 17186257301, 2048, 0⟩, ⟨17181966338, 17181966338, 1, 0⟩, ⟨17181966495, 17181966495, 1, 0⟩, ⟨17186168832, 17186169247, 1, 0⟩, ⟨17190355076, 17190361220, 2048, 0⟩, ⟨17188261632, 17188261632, 1, 0⟩, ⟨17181967232, 17181967263, 1, 0⟩, ⟨17190355584, 17190361728, 2048, 0⟩, ⟨17190355074, 17190361218, 2048, 0⟩, ⟨17190355712, 17190361856, 2048, 0⟩, ⟨17190355075, 17190361219, 2048, 0⟩, ⟨17190355072, 17190361216, 2048, 0⟩, ⟨17190354945, 17190361089, 2048, 0⟩, ⟨17190354944, 17190361088, 2048, 0⟩] [.flt, .pwr, .evc, .cvu] s (execCvuScanEnd a0 a1 s) := by
  unfold execCvuScanEnd
  refine FrRes.next ?_
  refine Fr.iteh (fun _ => ?_) (fun _ => ?_)
  · first | assumption | exact Fr.refl _
  · extract_lets -merge -underBinder +onlyGivenNames x0
    extract_lets -merge -underBinder +onlyGivenNames x1
    try clear_value x1
    extract_lets -merge -underBinder +onlyGivenNames x2
    refine Fr.cut x2 ?_ (fun h2 => ?_)
    · unfold x2
      split
      · refine Fr.wr (xs := [⟨17190355073, 17190361217, 2048, 0⟩]) (Reg.CVU_STATUS_PASS_key (by first | omega | (simp only [List.mem_range] at *; omega))) rfl ?_
        refine Fr.step State.cvuFault_fr rfl rfl ?_
        unfold State.cvuErr
        try dsimp -zeta only
        refine Fr.step State.fire_fr rfl rfl ?_
        refine Fr.wr (xs := [⟨17190355076, 17190361220, 2048, 0⟩]) (Reg.CVU_STATUS_ERR_key (by first | omega | (simp only [List.mem_range] at *; omega))) rfl ?_
        refine Fr.iteh (fun _ => ?_) (fun _ => ?_)
        · first | assumption | exact Fr.refl _
        · refine Fr.step State.accErr_fr rfl rfl ?_
          first | assumption | exact Fr.refl _
      · refine Fr.step State.cvuCheck_fr rfl rfl ?_
        first | assumption | exact Fr.refl _
    try clear_value x2
    refine Fr.step State.cvuNext_fr rfl rfl ?_
    first | assumption | exact Fr.refl _

theorem execCvuPeriod_fr {a0} {s} : FrRes [⟨17181966336, 17181966336, 1, 0⟩, ⟨17181967360, 17181967360, 1, 0⟩, ⟨17186226581, 17186257301, 2048, 0⟩, ⟨17181966338, 17181966338, 1, 0⟩, ⟨17181966495, 17181966495, 1, 0⟩, ⟨17186168832, 17186169247, 1, 0⟩, ⟨17190355077, 17190361221, 2048, 0⟩, ⟨17190355072, 17190361216, 2048, 0⟩] [.pwr, .flt, .evc, .cvu] s (execCvuPeriod a0 s) := by
  unfold execCvuPeriod
  refine FrRes.next ?_
  refine Fr.iteh (fun _ => ?_) (fun _ => ?_)
  · first | assumption | exact Fr.refl _
  · refine Fr.iteh (fun _ => ?_) (fun _ => ?_)
    · unfold State.cvuErr
      try dsimp -zeta only
      refine Fr.step State.fire_fr rfl rfl ?_
      refine Fr.wr (xs := [⟨17190355077, 17190361221, 2048, 0⟩]) (Reg.CVU_STATUS_OVERRUN_key (by first | omega | (simp only [List.mem_range] at *; omega))) rfl ?_
      refine Fr.step State.setCvu_fr rfl rfl ?_
      first | assumption | exact Fr.refl _
    · refine Fr.wr (xs := [⟨17190355072, 17190361216, 2048, 0⟩]) (Reg.CVU_STATUS_BUSY_key (by first | omega | (simp only [List.mem_range] at *; omega))) rfl ?_
      first | assumption | exact Fr.refl _

end Sys2Proof.Machine
end

