-- ==== Sys2Proof/Laws/PixAFrame.lean ====
section
/-! SUPPORT. What each operation and command of Machine/PixA.lean changes at most: register blocks and zones of the state. -/

namespace Sys2Proof.Machine

theorem State.drvOver_fr {s} : Fr [] [.free] s (State.drvOver s) := by
  unfold State.drvOver
  refine Fr.iteh (fun _ => ?_) (fun _ => ?_)
  · first | assumption | exact Fr.refl _
  · refine Fr.set_freeCtr rfl ?_
    first | assumption | exact Fr.refl _

theorem State.loadFactors_fr {s} : Fr [] [.free, .sa] s (State.loadFactors s) := by
  unfold State.loadFactors
  extract_lets -merge -underBinder +onlyGivenNames x0
  refine Fr.cut x0 ?_ (fun h0 => ?_)
  · unfold x0
    refine Fr.step State.drvOver_fr rfl rfl ?_
    first | assumption | exact Fr.refl _
  try clear_value x0
  refine Fr.set_sa rfl ?_
  first | assumption | exact Fr.refl _

theorem State.ddWrite_fr {s} {a1} {a2} : Fr [⟨17181966336, 17181966336, 1, 0⟩, ⟨17181967360, 17181967360, 1, 0⟩, ⟨17186226581, 17186257301, 2048, 0⟩, ⟨17181966338, 17181966338, 1, 0⟩, ⟨17181966495, 17181966495, 1, 0⟩, ⟨17186168832, 17186169247, 1, 0⟩, ⟨17194549776, 17194549776, 1, 0⟩, ⟨17192452352, 17192452352, 1, 0⟩, ⟨17192452608, 17192452608, 1, 0⟩, ⟨17192452480, 17192452480, 1, 0⟩, ⟨17192452229, 17192452229, 1, 0⟩, ⟨17192452228, 17192452228, 1, 0⟩, ⟨17188261632, 17188261632, 1, 0⟩, ⟨17181967232, 17181967263, 1, 0⟩] [.mem, .flt, .pwr, .evc, .memc] s (State.ddWrite s a1 a2) := by
  unfold State.ddWrite
  refine Fr.step State.storeParts_fr rfl rfl ?_
  first | assumption | exact Fr.refl _

theorem State.compose_fr {s} {a1} {a2} : Fr [⟨17181966336, 17181966336, 1, 0⟩, ⟨17181967360, 17181967360, 1, 0⟩, ⟨17186226581, 17186257301, 2048, 0⟩, ⟨17181966338, 17181966338, 1, 0⟩, ⟨17181966495, 17181966495, 1, 0⟩, ⟨17186168832, 17186169247, 1, 0⟩, ⟨17194549776, 17194549776, 1, 0⟩, ⟨17192452352, 17192452352, 1, 0⟩, ⟨17192452608, 17192452608, 1, 0⟩, ⟨17192452480, 17192452480, 1, 0⟩, ⟨17192452229, 17192452229, 1, 0⟩, ⟨17192452228, 17192452228, 1, 0⟩, ⟨17188261632, 17188261632, 1, 0⟩, ⟨17181967232, 17181967263, 1, 0⟩, ⟨17196778376, 17196778376, 1, 0⟩, ⟨17196778384, 17196778384, 1, 0⟩, ⟨17196778496, 17196778496, 1, 0⟩] [.free, .mem, .flt, .pwr, .evc, .memc] s (State.compose s a1 a2).2 := by
  unfold State.compose
  extract_lets -merge -underBinder +onlyGivenNames x0
  try clear_value x0
  extract_lets -merge -underBinder +onlyGivenNames x1
  try clear_value x1
  extract_lets -merge -underBinder +onlyGivenNames x2
  try clear_value (e2 : x2 = _)
  extract_lets -merge -underBinder +onlyGivenNames x3
  refine Fr.cut x3 ?_ (fun h3 => ?_)
  · unfold x3
    refine Fr.foldl' ?_ (fun t x hx ht => ?_)
    · refine Fr.step State.drvOver_fr rfl rfl ?_
      first | assumption | exact Fr.refl _
    · refine Fr.step State.ddWrite_fr rfl rfl ?_
      first | assumption | exact Fr.refl _
  try clear_value x3
  extract_lets -merge -underBinder +onlyGivenNames x4
  refine Fr.cut x4 ?_ (fun h4 => ?_)
  · unfold x4
    refine Fr.step State.ddWrite_fr rfl rfl ?_
    refine Fr.step State.ddWrite_fr rfl rfl ?_
    first | assumption | exact Fr.refl _
  try clear_value x4
  extract_lets -merge -underBinder +onlyGivenNames x5
  refine Fr.cut x5 ?_ (fun h5 => ?_)
  · unfold x5
    refine Fr.wr (xs := [⟨17196778376, 17196778376, 1, 0⟩]) rfl rfl ?_
    first | assumption | exact Fr.refl _
  try clear_value x5
  extract_lets -merge -underBinder +onlyGivenNames x6
  try clear_value x6
  extract_lets -merge -underBinder +onlyGivenNames x7
  refine Fr.cut x7 ?_ (fun h7 => ?_)
  · unfold x7
    refine Fr.wr (xs := [⟨17196778384, 17196778384, 1, 0⟩]) rfl rfl ?_
    first | assumption | exact Fr.refl _
  try clear_value x7
  extract_lets -merge -underBinder +onlyGivenNames x8
  refine Fr.cut x8 ?_ (fun h8 => ?_)
  · unfold x8
    refine Fr.wr (xs := [⟨17196778496, 17196778496, 1, 0⟩]) rfl rfl ?_
    first | assumption | exact Fr.refl _
  try clear_value x8
  refine Fr.mk2 ?_
  first | assumption | exact Fr.refl _

end Sys2Proof.Machine
end

