-- ==== Sys2Proof/Laws/MaskinOpsFrame.lean ====
section
/-! SUPPORT. What each operation and command of Machine/MaskinOps.lean changes at most: register blocks and zones of the state. -/

namespace Sys2Proof.Machine

theorem State.setMask_fr {s} {a1} : Fr [] [.maskin] s (State.setMask s a1) := by
  unfold State.setMask
  refine Fr.set_maskin rfl ?_
  first | assumption | exact Fr.refl _

theorem State.maskMirror_fr {s} {a1} {a2} : Fr [] [.pair, .lane] s (State.maskMirror s a1 a2) := by
  unfold State.maskMirror
  refine Fr.iteh (fun _ => ?_) (fun _ => ?_)
  · refine Fr.step State.pairSend_fr rfl rfl ?_
    first | assumption | exact Fr.refl _
  · first | assumption | exact Fr.refl _

theorem State.maskUnlive_fr {s} : Fr [⟨17198743680, 17198743687, 1, 0⟩] [] s (State.maskUnlive s) := by
  unfold State.maskUnlive
  refine Fr.forFin ?_ (fun i t ht => ?_)
  · first | assumption | exact Fr.refl _
  · refine Fr.iteh (fun _ => ?_) (fun _ => ?_)
    · refine Fr.wr (xs := [⟨17198743680, 17198743687, 1, 0⟩]) (Reg.LAYER_STATUS_LIVE_key (by first | omega | (simp only [List.mem_range] at *; omega))) rfl ?_
      first | assumption | exact Fr.refl _
    · first | assumption | exact Fr.refl _

theorem State.maskDiscard_fr {s} : Fr [⟨17181966336, 17181966336, 1, 0⟩, ⟨17181967360, 17181967360, 1, 0⟩, ⟨17186226581, 17186257301, 2048, 0⟩, ⟨17181966338, 17181966338, 1, 0⟩, ⟨17181966495, 17181966495, 1, 0⟩, ⟨17186168832, 17186169247, 1, 0⟩, ⟨17230201872, 17230201872, 1, 0⟩, ⟨17230200960, 17230200960, 1, 0⟩] [.pwr, .flt, .evc] s (State.maskDiscard s) := by
  unfold State.maskDiscard
  refine Fr.step State.fire_fr rfl rfl ?_
  refine Fr.inc (xs := [⟨17230201872, 17230201872, 1, 0⟩]) rfl rfl ?_
  refine Fr.wr (xs := [⟨17230200960, 17230200960, 1, 0⟩]) rfl rfl ?_
  first | assumption | exact Fr.refl _

theorem State.maskComplete_fr {s} : Fr [⟨17230201992, 17230201992, 1, 0⟩, ⟨17230200961, 17230200961, 1, 0⟩, ⟨17230201856, 17230201856, 1, 0⟩] [.maskin] s (State.maskComplete s) := by
  unfold State.maskComplete
  split
  · first | assumption | exact Fr.refl _
  · extract_lets -merge -underBinder +onlyGivenNames x0
    refine Fr.cut x0 ?_ (fun h0 => ?_)
    · unfold x0
      refine Fr.iteh (fun _ => ?_) (fun _ => ?_)
      · refine Fr.wr (xs := [⟨17230201992, 17230201992, 1, 0⟩]) rfl rfl ?_
        first | assumption | exact Fr.refl _
      · first | assumption | exact Fr.refl _
    try clear_value x0
    extract_lets -merge -underBinder +onlyGivenNames x1
    extract_lets -merge -underBinder +onlyGivenNames x2
    refine Fr.cut x2 ?_ (fun h2 => ?_)
    · unfold x2
      refine Fr.wr (xs := [⟨17230200961, 17230200961, 1, 0⟩]) rfl rfl ?_
      refine Fr.step State.setMask_fr rfl rfl ?_
      first | assumption | exact Fr.refl _
    try clear_value x2
    refine Fr.step State.setMask_fr rfl rfl ?_
    refine Fr.inc (xs := [⟨17230201856, 17230201856, 1, 0⟩]) rfl rfl ?_
    first | assumption | exact Fr.refl _

theorem State.maskStart_fr {s} : Fr [⟨17230201992, 17230201992, 1, 0⟩, ⟨17230200961, 17230200961, 1, 0⟩, ⟨17230201856, 17230201856, 1, 0⟩, ⟨17181966336, 17181966336, 1, 0⟩, ⟨17181967360, 17181967360, 1, 0⟩, ⟨17186226581, 17186257301, 2048, 0⟩, ⟨17181966338, 17181966338, 1, 0⟩, ⟨17181966495, 17181966495, 1, 0⟩, ⟨17186168832, 17186169247, 1, 0⟩, ⟨17230201872, 17230201872, 1, 0⟩, ⟨17230200960, 17230200960, 1, 0⟩, ⟨17230201991, 17230201991, 1, 0⟩] [.maskin, .pwr, .flt, .evc, .pair, .lane] s (State.maskStart s) := by
  unfold State.maskStart
  extract_lets -merge -underBinder +onlyGivenNames x0
  refine Fr.cut x0 ?_ (fun h0 => ?_)
  · unfold x0
    refine Fr.step State.maskComplete_fr rfl rfl ?_
    first | assumption | exact Fr.refl _
  try clear_value x0
  extract_lets -merge -underBinder +onlyGivenNames x1
  refine Fr.cut x1 ?_ (fun h1 => ?_)
  · unfold x1
    refine Fr.iteh (fun _ => ?_) (fun _ => ?_)
    · refine Fr.step State.maskDiscard_fr rfl rfl ?_
      refine Fr.wr (xs := [⟨17230201991, 17230201991, 1, 0⟩]) rfl rfl ?_
      first | assumption | exact Fr.refl _
    · first | assumption | exact Fr.refl _
  try clear_value x1
  refine Fr.step State.maskMirror_fr rfl rfl ?_
  refine Fr.step State.setMask_fr rfl rfl ?_
  refine Fr.wr (xs := [⟨17230200960, 17230200960, 1, 0⟩]) rfl rfl ?_
  first | assumption | exact Fr.refl _

theorem State.maskLine_fr {s} {a1} : Fr [⟨17230201987, 17230201987, 1, 0⟩, ⟨17230201988, 17230201988, 1, 0⟩, ⟨17181966336, 17181966336, 1, 0⟩, ⟨17181967360, 17181967360, 1, 0⟩, ⟨17186226581, 17186257301, 2048, 0⟩, ⟨17181966338, 17181966338, 1, 0⟩, ⟨17181966495, 17181966495, 1, 0⟩, ⟨17186168832, 17186169247, 1, 0⟩, ⟨17194549776, 17194549776, 1, 0⟩, ⟨17192452352, 17192452352, 1, 0⟩, ⟨17192452608, 17192452608, 1, 0⟩, ⟨17192452480, 17192452480, 1, 0⟩, ⟨17192452229, 17192452229, 1, 0⟩, ⟨17192452228, 17192452228, 1, 0⟩, ⟨17188261632, 17188261632, 1, 0⟩, ⟨17181967232, 17181967263, 1, 0⟩] [.maskin, .mem, .flt, .pwr, .evc, .memc, .pair, .lane] s (State.maskLine s a1) := by
  unfold State.maskLine
  extract_lets -merge -underBinder +onlyGivenNames x0
  try clear_value (e0 : x0 = _)
  extract_lets -merge -underBinder +onlyGivenNames x1
  try clear_value (e1 : x1 = _)
  extract_lets -merge -underBinder +onlyGivenNames x2
  refine Fr.cut x2 ?_ (fun h2 => ?_)
  · unfold x2
    refine Fr.iteh (fun _ => ?_) (fun _ => ?_)
    · unfold State.maskBad
      try dsimp -zeta only
      refine Fr.step State.setMask_fr rfl rfl ?_
      refine Fr.wr (xs := [⟨17230201987, 17230201987, 1, 0⟩]) rfl rfl ?_
      first | assumption | exact Fr.refl _
    · first | assumption | exact Fr.refl _
  try clear_value x2
  extract_lets -merge -underBinder +onlyGivenNames x3
  refine Fr.cut x3 ?_ (fun h3 => ?_)
  · unfold x3
    refine Fr.iteh (fun _ => ?_) (fun _ => ?_)
    · unfold State.maskBad
      try dsimp -zeta only
      refine Fr.step State.setMask_fr rfl rfl ?_
      refine Fr.wr (xs := [⟨17230201988, 17230201988, 1, 0⟩]) rfl rfl ?_
      first | assumption | exact Fr.refl _
    · refine Fr.step State.storeParts_fr rfl rfl ?_
      first | assumption | exact Fr.refl _
  try clear_value x3
  refine Fr.step State.maskMirror_fr rfl rfl ?_
  refine Fr.step State.setMask_fr rfl rfl ?_
  first | assumption | exact Fr.refl _

theorem State.maskEnd_fr {s} : Fr [⟨17230201991, 17230201991, 1, 0⟩, ⟨17230201988, 17230201988, 1, 0⟩, ⟨17181966336, 17181966336, 1, 0⟩, ⟨17181967360, 17181967360, 1, 0⟩, ⟨17186226581, 17186257301, 2048, 0⟩, ⟨17181966338, 17181966338, 1, 0⟩, ⟨17181966495, 17181966495, 1, 0⟩, ⟨17186168832, 17186169247, 1, 0⟩, ⟨17230201872, 17230201872, 1, 0⟩, ⟨17230200960, 17230200960, 1, 0⟩] [.maskin, .pair, .lane, .pwr, .flt, .evc] s (State.maskEnd s) := by
  unfold State.maskEnd
  refine Fr.iteh (fun _ => ?_) (fun _ => ?_)
  · refine Fr.wr (xs := [⟨17230201991, 17230201991, 1, 0⟩]) rfl rfl ?_
    first | assumption | exact Fr.refl _
  · extract_lets -merge -underBinder +onlyGivenNames x0
    refine Fr.cut x0 ?_ (fun h0 => ?_)
    · unfold x0
      refine Fr.iteh (fun _ => ?_) (fun _ => ?_)
      · unfold State.maskBad
        try dsimp -zeta only
        refine Fr.step State.setMask_fr rfl rfl ?_
        refine Fr.wr (xs := [⟨17230201988, 17230201988, 1, 0⟩]) rfl rfl ?_
        first | assumption | exact Fr.refl _
      · first | assumption | exact Fr.refl _
    try clear_value x0
    refine Fr.step State.maskMirror_fr rfl rfl ?_
    refine Fr.iteh (fun _ => ?_) (fun _ => ?_)
    · refine Fr.step State.maskDiscard_fr rfl rfl ?_
      first | assumption | exact Fr.refl _
    · refine Fr.step State.setMask_fr rfl rfl ?_
      refine Fr.wr (xs := [⟨17230200960, 17230200960, 1, 0⟩]) rfl rfl ?_
      first | assumption | exact Fr.refl _

theorem State.maskEcc_fr {s} : Fr [⟨17230201986, 17230201986, 1, 0⟩] [.maskin] s (State.maskEcc s) := by
  unfold State.maskEcc
  refine Fr.iteh (fun _ => ?_) (fun _ => ?_)
  · unfold State.maskBad
    try dsimp -zeta only
    refine Fr.step State.setMask_fr rfl rfl ?_
    refine Fr.wr (xs := [⟨17230201986, 17230201986, 1, 0⟩]) rfl rfl ?_
    first | assumption | exact Fr.refl _
  · first | assumption | exact Fr.refl _

theorem State.maskLong_fr {s} {a1} {a2} : Fr [⟨17230201991, 17230201991, 1, 0⟩, ⟨17230201985, 17230201985, 1, 0⟩, ⟨17230201987, 17230201987, 1, 0⟩, ⟨17230201988, 17230201988, 1, 0⟩, ⟨17181966336, 17181966336, 1, 0⟩, ⟨17181967360, 17181967360, 1, 0⟩, ⟨17186226581, 17186257301, 2048, 0⟩, ⟨17181966338, 17181966338, 1, 0⟩, ⟨17181966495, 17181966495, 1, 0⟩, ⟨17186168832, 17186169247, 1, 0⟩, ⟨17194549776, 17194549776, 1, 0⟩, ⟨17192452352, 17192452352, 1, 0⟩, ⟨17192452608, 17192452608, 1, 0⟩, ⟨17192452480, 17192452480, 1, 0⟩, ⟨17192452229, 17192452229, 1, 0⟩, ⟨17192452228, 17192452228, 1, 0⟩, ⟨17188261632, 17188261632, 1, 0⟩, ⟨17181967232, 17181967263, 1, 0⟩] [.maskin, .mem, .flt, .pwr, .evc, .memc, .pair, .lane] s (State.maskLong s a1 a2) := by
  unfold State.maskLong
  refine Fr.iteh (fun _ => ?_) (fun _ => ?_)
  · refine Fr.wr (xs := [⟨17230201991, 17230201991, 1, 0⟩]) rfl rfl ?_
    first | assumption | exact Fr.refl _
  · refine Fr.iteh (fun _ => ?_) (fun _ => ?_)
    · unfold State.maskBad
      try dsimp -zeta only
      refine Fr.step State.setMask_fr rfl rfl ?_
      refine Fr.wr (xs := [⟨17230201985, 17230201985, 1, 0⟩]) rfl rfl ?_
      first | assumption | exact Fr.refl _
    · refine Fr.step State.maskLine_fr rfl rfl ?_
      first | assumption | exact Fr.refl _

theorem State.maskPacket_fr {s} {a1} {a2} {a3} : Fr [⟨17230201986, 17230201986, 1, 0⟩, ⟨17230201990, 17230201990, 1, 0⟩, ⟨17230201989, 17230201989, 1, 0⟩, ⟨17230201992, 17230201992, 1, 0⟩, ⟨17230200961, 17230200961, 1, 0⟩, ⟨17230201856, 17230201856, 1, 0⟩, ⟨17181966336, 17181966336, 1, 0⟩, ⟨17181967360, 17181967360, 1, 0⟩, ⟨17186226581, 17186257301, 2048, 0⟩, ⟨17181966338, 17181966338, 1, 0⟩, ⟨17181966495, 17181966495, 1, 0⟩, ⟨17186168832, 17186169247, 1, 0⟩, ⟨17230201872, 17230201872, 1, 0⟩, ⟨17230200960, 17230200960, 1, 0⟩, ⟨17230201991, 17230201991, 1, 0⟩, ⟨17230201988, 17230201988, 1, 0⟩, ⟨17230201985, 17230201985, 1, 0⟩, ⟨17230201987, 17230201987, 1, 0⟩, ⟨17194549776, 17194549776, 1, 0⟩, ⟨17192452352, 17192452352, 1, 0⟩, ⟨17192452608, 17192452608, 1, 0⟩, ⟨17192452480, 17192452480, 1, 0⟩, ⟨17192452229, 17192452229, 1, 0⟩, ⟨17192452228, 17192452228, 1, 0⟩, ⟨17188261632, 17188261632, 1, 0⟩, ⟨17181967232, 17181967263, 1, 0⟩] [.maskin, .pwr, .flt, .evc, .pair, .lane, .mem, .memc] s (State.maskPacket s a1 a2 a3) := by
  unfold State.maskPacket
  refine Fr.iteh (fun _ => ?_) (fun _ => ?_)
  · first | assumption | exact Fr.refl _
  · split
    · refine Fr.step State.maskEcc_fr rfl rfl ?_
      first | assumption | exact Fr.refl _
    · extract_lets -merge -underBinder +onlyGivenNames x0
      try clear_value x0
      refine Fr.iteh (fun _ => ?_) (fun _ => ?_)
      · extract_lets -merge -underBinder +onlyGivenNames x1
        refine Fr.cut x1 ?_ (fun h1 => ?_)
        · unfold x1
          refine Fr.iteh (fun _ => ?_) (fun _ => ?_)
          · refine Fr.wr (xs := [⟨17230201990, 17230201990, 1, 0⟩]) rfl rfl ?_
            first | assumption | exact Fr.refl _
          · first | assumption | exact Fr.refl _
        try clear_value x1
        refine Fr.iteh (fun _ => ?_) (fun _ => ?_)
        · first | assumption | exact Fr.refl _
        · refine Fr.wr (xs := [⟨17230201989, 17230201989, 1, 0⟩]) rfl rfl ?_
          first | assumption | exact Fr.refl _
      · refine Fr.iteh (fun _ => ?_) (fun _ => ?_)
        · refine Fr.step State.maskStart_fr rfl rfl ?_
          first | assumption | exact Fr.refl _
        · refine Fr.iteh (fun _ => ?_) (fun _ => ?_)
          · refine Fr.step State.maskEnd_fr rfl rfl ?_
            first | assumption | exact Fr.refl _
          · refine Fr.iteh (fun _ => ?_) (fun _ => ?_)
            · first | assumption | exact Fr.refl _
            · refine Fr.step State.maskLong_fr rfl rfl ?_
              first | assumption | exact Fr.refl _

theorem State.maskSafe_fr {s} : Fr [⟨17181966336, 17181966336, 1, 0⟩, ⟨17181967360, 17181967360, 1, 0⟩, ⟨17186226581, 17186257301, 2048, 0⟩, ⟨17181966338, 17181966338, 1, 0⟩, ⟨17181966495, 17181966495, 1, 0⟩, ⟨17186168832, 17186169247, 1, 0⟩, ⟨17230200962, 17230200962, 1, 0⟩] [.flt, .pwr, .evc] s (State.maskSafe s) := by
  unfold State.maskSafe
  refine Fr.iteh (fun _ => ?_) (fun _ => ?_)
  · first | assumption | exact Fr.refl _
  · refine Fr.step State.raise_fr rfl rfl ?_
    refine Fr.step State.fire_fr rfl rfl ?_
    refine Fr.wr (xs := [⟨17230200962, 17230200962, 1, 0⟩]) rfl rfl ?_
    first | assumption | exact Fr.refl _

theorem State.maskLive_fr {s} : Fr [⟨17181966336, 17181966336, 1, 0⟩, ⟨17181967360, 17181967360, 1, 0⟩, ⟨17186226581, 17186257301, 2048, 0⟩, ⟨17181966338, 17181966338, 1, 0⟩, ⟨17181966495, 17181966495, 1, 0⟩, ⟨17186168832, 17186169247, 1, 0⟩, ⟨17230200962, 17230200962, 1, 0⟩] [.pwr, .flt, .evc] s (State.maskLive s) := by
  unfold State.maskLive
  refine Fr.iteh (fun _ => ?_) (fun _ => ?_)
  · refine Fr.step State.fire_fr rfl rfl ?_
    refine Fr.wr (xs := [⟨17230200962, 17230200962, 1, 0⟩]) rfl rfl ?_
    first | assumption | exact Fr.refl _
  · first | assumption | exact Fr.refl _

theorem State.maskHeld_fr {s} : Fr [⟨17230200968, 17230200968, 1, 0⟩, ⟨17181966336, 17181966336, 1, 0⟩, ⟨17181967360, 17181967360, 1, 0⟩, ⟨17186226581, 17186257301, 2048, 0⟩, ⟨17181966338, 17181966338, 1, 0⟩, ⟨17181966495, 17181966495, 1, 0⟩, ⟨17186168832, 17186169247, 1, 0⟩, ⟨17230200962, 17230200962, 1, 0⟩] [.flt, .pwr, .evc] s (State.maskHeld s) := by
  unfold State.maskHeld
  extract_lets -merge -underBinder +onlyGivenNames x0
  refine Fr.cut x0 ?_ (fun h0 => ?_)
  · unfold x0
    refine Fr.inc (xs := [⟨17230200968, 17230200968, 1, 0⟩]) rfl rfl ?_
    first | assumption | exact Fr.refl _
  try clear_value x0
  refine Fr.iteh (fun _ => ?_) (fun _ => ?_)
  · refine Fr.iteh (fun _ => ?_) (fun _ => ?_)
    · refine Fr.step State.maskSafe_fr rfl rfl ?_
      first | assumption | exact Fr.refl _
    · first | assumption | exact Fr.refl _
  · refine Fr.iteh (fun _ => ?_) (fun _ => ?_)
    · refine Fr.step State.maskSafe_fr rfl rfl ?_
      first | assumption | exact Fr.refl _
    · first | assumption | exact Fr.refl _

theorem State.maskBoundary_fr {s} {a1} : Fr [⟨17230200976, 17230200976, 1, 0⟩, ⟨17181966336, 17181966336, 1, 0⟩, ⟨17181967360, 17181967360, 1, 0⟩, ⟨17186226581, 17186257301, 2048, 0⟩, ⟨17181966338, 17181966338, 1, 0⟩, ⟨17181966495, 17181966495, 1, 0⟩, ⟨17186168832, 17186169247, 1, 0⟩, ⟨17230200962, 17230200962, 1, 0⟩, ⟨17230200968, 17230200968, 1, 0⟩, ⟨17198743680, 17198743687, 1, 0⟩] [.maskin, .pwr, .flt, .evc] s (State.maskBoundary s a1) := by
  unfold State.maskBoundary
  refine Fr.iteh (fun _ => ?_) (fun _ => ?_)
  · first | assumption | exact Fr.refl _
  · extract_lets -merge -underBinder +onlyGivenNames x0
    extract_lets -merge -underBinder +onlyGivenNames x1
    refine Fr.cut x1 ?_ (fun h1 => ?_)
    · unfold x1
      refine Fr.step State.setMask_fr rfl rfl ?_
      first | assumption | exact Fr.refl _
    try clear_value x1
    split
    · refine Fr.iteh (fun _ => ?_) (fun _ => ?_)
      · extract_lets -merge -underBinder +onlyGivenNames x2
        extract_lets -merge -underBinder +onlyGivenNames x3
        refine Fr.cut x3 ?_ (fun h3 => ?_)
        · unfold x3
          refine Fr.wr (xs := [⟨17230200976, 17230200976, 1, 0⟩]) rfl rfl ?_
          refine Fr.step State.setMask_fr rfl rfl ?_
          first | assumption | exact Fr.refl _
        try clear_value x3
        extract_lets -merge -underBinder +onlyGivenNames x4
        refine Fr.cut x4 ?_ (fun h4 => ?_)
        · unfold x4
          refine Fr.step State.maskLive_fr rfl rfl ?_
          refine Fr.wr (xs := [⟨17230200968, 17230200968, 1, 0⟩]) rfl rfl ?_
          first | assumption | exact Fr.refl _
        try clear_value x4
        refine Fr.forFin ?_ (fun i t ht => ?_)
        · first | assumption | exact Fr.refl _
        · refine Fr.iteh (fun _ => ?_) (fun _ => ?_)
          · refine Fr.wr (xs := [⟨17198743680, 17198743687, 1, 0⟩]) (Reg.LAYER_STATUS_LIVE_key (by first | omega | (simp only [List.mem_range] at *; omega))) rfl ?_
            first | assumption | exact Fr.refl _
          · first | assumption | exact Fr.refl _
      · refine Fr.step State.maskHeld_fr rfl rfl ?_
        first | assumption | exact Fr.refl _
    · refine Fr.step State.maskHeld_fr rfl rfl ?_
      first | assumption | exact Fr.refl _

end Sys2Proof.Machine
end

