-- ==== Sys2Proof/Laws/SafeOpsFrame.lean ====
section
/-! SUPPORT. What each operation and command of Machine/SafeOps.lean changes at most: register blocks and zones of the state. -/

namespace Sys2Proof.Machine

theorem State.setCap_fr {s} {a1} : Fr [⟨17221814288, 17221814288, 1, 0⟩, ⟨17221814272, 17221814272, 1, 0⟩] [] s (State.setCap s a1) := by
  unfold State.setCap
  refine Fr.wr (xs := [⟨17221814288, 17221814288, 1, 0⟩]) rfl rfl ?_
  refine Fr.wr (xs := [⟨17221814272, 17221814272, 1, 0⟩]) rfl rfl ?_
  first | assumption | exact Fr.refl _

theorem State.capAll_fr {s} : Fr [⟨17202941824, 17204383616, 131072, 0⟩] [.lane, .tl] s (State.capAll s) := by
  unfold State.capAll
  refine Fr.forFin ?_ (fun i t ht => ?_)
  · first | assumption | exact Fr.refl _
  · refine Fr.iteh (fun _ => ?_) (fun _ => ?_)
    · refine Fr.step State.tlCap_fr rfl rfl ?_
      first | assumption | exact Fr.refl _
    · first | assumption | exact Fr.refl _

theorem State.enterFallback_fr {s} : Fr [⟨17202941824, 17204383616, 131072, 0⟩] [.lane, .tl, .safe] s (State.enterFallback s) := by
  unfold State.enterFallback
  extract_lets -merge -underBinder +onlyGivenNames x0
  refine Fr.cut x0 ?_ (fun h0 => ?_)
  · unfold x0
    refine Fr.step State.capAll_fr rfl rfl ?_
    first | assumption | exact Fr.refl _
  try clear_value x0
  refine Fr.set_safe rfl ?_
  first | assumption | exact Fr.refl _

theorem State.showSafe_fr {s} : Fr [⟨17181966336, 17181966336, 1, 0⟩, ⟨17181967360, 17181967360, 1, 0⟩, ⟨17186226581, 17186257301, 2048, 0⟩, ⟨17181966338, 17181966338, 1, 0⟩, ⟨17181966495, 17181966495, 1, 0⟩, ⟨17186168832, 17186169247, 1, 0⟩, ⟨17221812352, 17221812352, 1, 0⟩, ⟨17221812364, 17221812364, 1, 0⟩, ⟨17202941824, 17204383616, 131072, 0⟩, ⟨17221814288, 17221814288, 1, 0⟩, ⟨17221814272, 17221814272, 1, 0⟩, ⟨17205035139, 17205149827, 8192, 0⟩, ⟨17205035141, 17205149829, 8192, 0⟩, ⟨17205035140, 17205149828, 8192, 0⟩, ⟨17205035136, 17205149824, 8192, 0⟩, ⟨17202937984, 17204379776, 131072, 0⟩] [.pwr, .flt, .evc, .safe, .lane, .tl] s (State.showSafe s) := by
  unfold State.showSafe
  extract_lets -merge -underBinder +onlyGivenNames x0
  try clear_value (e0 : x0 = _)
  extract_lets -merge -underBinder +onlyGivenNames x1
  try clear_value (e1 : x1 = _)
  extract_lets -merge -underBinder +onlyGivenNames x2
  refine Fr.cut x2 ?_ (fun h2 => ?_)
  · unfold x2
    refine Fr.iteh (fun _ => ?_) (fun _ => ?_)
    · first | assumption | exact Fr.refl _
    · refine Fr.step State.fire_fr rfl rfl ?_
      refine Fr.wr (xs := [⟨17221812352, 17221812352, 1, 0⟩]) rfl rfl ?_
      first | assumption | exact Fr.refl _
  try clear_value x2
  extract_lets -merge -underBinder +onlyGivenNames x3
  refine Fr.cut x3 ?_ (fun h3 => ?_)
  · unfold x3
    refine Fr.wrB (xs := [⟨17221812364, 17221812364, 1, 0⟩]) rfl rfl ?_
    first | assumption | exact Fr.refl _
  try clear_value x3
  extract_lets -merge -underBinder +onlyGivenNames x4
  try clear_value x4
  extract_lets -merge -underBinder +onlyGivenNames x5
  try clear_value x5
  extract_lets -merge -underBinder +onlyGivenNames x6
  extract_lets -merge -underBinder +onlyGivenNames x7
  refine Fr.cut x7 ?_ (fun h7 => ?_)
  · unfold x7
    refine Fr.set_safe rfl ?_
    first | assumption | exact Fr.refl _
  try clear_value x7
  extract_lets -merge -underBinder +onlyGivenNames x8
  refine Fr.cut x8 ?_ (fun h8 => ?_)
  · unfold x8
    refine Fr.iteh (fun _ => ?_) (fun _ => ?_)
    · refine Fr.step State.enterFallback_fr rfl rfl ?_
      refine Fr.step State.setCap_fr rfl rfl ?_
      first | assumption | exact Fr.refl _
    · refine Fr.iteh (fun _ => ?_) (fun _ => ?_)
      · first | assumption | exact Fr.refl _
      · refine Fr.step State.capAll_fr rfl rfl ?_
        refine Fr.step State.setCap_fr rfl rfl ?_
        first | assumption | exact Fr.refl _
  try clear_value x8
  refine Fr.iteh (fun _ => ?_) (fun _ => ?_)
  · refine Fr.step State.tlRelease_fr rfl rfl ?_
    refine Fr.set_safe rfl ?_
    first | assumption | exact Fr.refl _
  · first | assumption | exact Fr.refl _

theorem State.safeFix_fr {s} : Fr [] [.safe] s (State.safeFix s) := by
  unfold State.safeFix
  extract_lets -merge -underBinder +onlyGivenNames x0
  try clear_value x0
  refine Fr.iteh (fun _ => ?_) (fun _ => ?_)
  · refine Fr.set_safe rfl ?_
    first | assumption | exact Fr.refl _
  · first | assumption | exact Fr.refl _

theorem State.safeBoundary_fr {s} : Fr [⟨17221814288, 17221814288, 1, 0⟩, ⟨17221814272, 17221814272, 1, 0⟩] [.safe] s (State.safeBoundary s) := by
  unfold State.safeBoundary
  split
  · first | assumption | exact Fr.refl _
  · refine Fr.step State.setCap_fr rfl rfl ?_
    refine Fr.set_safe rfl ?_
    first | assumption | exact Fr.refl _

theorem State.setGrant_fr {s} {a1} {a2} : Fr [] [.safe] s (State.setGrant s a1 a2) := by
  unfold State.setGrant
  refine Fr.set_safe rfl ?_
  first | assumption | exact Fr.refl _

theorem State.msgReject_fr {s} {a1} : Fr [⟨17181966336, 17181966336, 1, 0⟩, ⟨17181967360, 17181967360, 1, 0⟩, ⟨17186226581, 17186257301, 2048, 0⟩, ⟨17181966338, 17181966338, 1, 0⟩, ⟨17181966495, 17181966495, 1, 0⟩, ⟨17186168832, 17186169247, 1, 0⟩, ⟨17221815176, 17221815176, 1, 0⟩, ⟨17221815312, 17221815312, 1, 0⟩, ⟨17221815424, 17221815424, 1, 0⟩, ⟨17221815440, 17221815440, 1, 0⟩] [.pwr, .flt, .evc, .safe] s (State.msgReject s a1) := by
  unfold State.msgReject
  extract_lets -merge -underBinder +onlyGivenNames x0
  refine Fr.cut x0 ?_ (fun h0 => ?_)
  · unfold x0
    refine Fr.step State.fire_fr rfl rfl ?_
    refine Fr.wr (xs := [⟨17221815176, 17221815176, 1, 0⟩]) rfl rfl ?_
    first | assumption | exact Fr.refl _
  try clear_value x0
  extract_lets -merge -underBinder +onlyGivenNames x1
  refine Fr.cut x1 ?_ (fun h1 => ?_)
  · unfold x1
    refine Fr.iteh (fun _ => ?_) (fun _ => ?_)
    · refine Fr.inc (xs := [⟨17221815312, 17221815312, 1, 0⟩]) rfl rfl ?_
      first | assumption | exact Fr.refl _
    · refine Fr.iteh (fun _ => ?_) (fun _ => ?_)
      · refine Fr.inc (xs := [⟨17221815424, 17221815424, 1, 0⟩]) rfl rfl ?_
        first | assumption | exact Fr.refl _
      · refine Fr.inc (xs := [⟨17221815440, 17221815440, 1, 0⟩]) rfl rfl ?_
        first | assumption | exact Fr.refl _
  try clear_value x1
  refine Fr.iteh (fun _ => ?_) (fun _ => ?_)
  · first | assumption | exact Fr.refl _
  · extract_lets -merge -underBinder +onlyGivenNames x2
    try clear_value x2
    refine Fr.iteh (fun _ => ?_) (fun _ => ?_)
    · refine Fr.step State.raise_fr rfl rfl ?_
      refine Fr.set_safe rfl ?_
      first | assumption | exact Fr.refl _
    · first | assumption | exact Fr.refl _

theorem State.fillMbox_fr {s} {a1} {a2} : Fr [⟨17221820416, 17221828480, 128, 0⟩] [] s (State.fillMbox s a1 a2) := by
  unfold State.fillMbox
  refine Fr.foldl' ?_ (fun t x hx ht => ?_)
  · first | assumption | exact Fr.refl _
  · extract_lets -merge -underBinder +onlyGivenNames x0
    try clear_value (e0 : x0 = _)
    extract_lets -merge -underBinder +onlyGivenNames x1
    try clear_value x1
    refine Fr.wr (xs := [⟨17221820416, 17221828480, 128, 0⟩]) (Reg.SAFE_MBOX_DATA_key (by first | omega | (simp only [List.mem_range] at *; omega))) rfl ?_
    first | assumption | exact Fr.refl _

theorem State.msgAccept_fr {s} {a1} : Fr [⟨17181966336, 17181966336, 1, 0⟩, ⟨17181967360, 17181967360, 1, 0⟩, ⟨17186226581, 17186257301, 2048, 0⟩, ⟨17181966338, 17181966338, 1, 0⟩, ⟨17181966495, 17181966495, 1, 0⟩, ⟨17186168832, 17186169247, 1, 0⟩, ⟨17221815170, 17221815170, 1, 0⟩, ⟨17221815824, 17221815824, 1, 0⟩, ⟨17221815808, 17221815808, 1, 0⟩, ⟨17221815184, 17221815184, 1, 0⟩, ⟨17221820416, 17221828480, 128, 0⟩, ⟨17221816064, 17221816064, 1, 0⟩, ⟨17221815936, 17221815936, 1, 0⟩, ⟨17221815296, 17221815296, 1, 0⟩, ⟨17221815169, 17221815169, 1, 0⟩, ⟨17221812362, 17221812362, 1, 0⟩] [.pwr, .flt, .evc] s (State.msgAccept s a1) := by
  unfold State.msgAccept
  extract_lets -merge -underBinder +onlyGivenNames x0
  try clear_value (e0 : x0 = _)
  extract_lets -merge -underBinder +onlyGivenNames x1
  try clear_value (e1 : x1 = _)
  extract_lets -merge -underBinder +onlyGivenNames x2
  refine Fr.cut x2 ?_ (fun h2 => ?_)
  · unfold x2
    refine Fr.iteh (fun _ => ?_) (fun _ => ?_)
    · refine Fr.step State.fire_fr rfl rfl ?_
      refine Fr.wr (xs := [⟨17221815170, 17221815170, 1, 0⟩]) rfl rfl ?_
      first | assumption | exact Fr.refl _
    · first | assumption | exact Fr.refl _
  try clear_value x2
  extract_lets -merge -underBinder +onlyGivenNames x3
  refine Fr.cut x3 ?_ (fun h3 => ?_)
  · unfold x3
    refine Fr.wr (xs := [⟨17221815824, 17221815824, 1, 0⟩]) rfl rfl ?_
    refine Fr.wr (xs := [⟨17221815808, 17221815808, 1, 0⟩]) rfl rfl ?_
    refine Fr.wr (xs := [⟨17221815184, 17221815184, 1, 0⟩]) rfl rfl ?_
    first | assumption | exact Fr.refl _
  try clear_value x3
  extract_lets -merge -underBinder +onlyGivenNames x4
  refine Fr.cut x4 ?_ (fun h4 => ?_)
  · unfold x4
    refine Fr.step State.fillMbox_fr rfl rfl ?_
    refine Fr.wr (xs := [⟨17221816064, 17221816064, 1, 0⟩]) rfl rfl ?_
    refine Fr.wr (xs := [⟨17221815936, 17221815936, 1, 0⟩]) rfl rfl ?_
    first | assumption | exact Fr.refl _
  try clear_value x4
  extract_lets -merge -underBinder +onlyGivenNames x5
  refine Fr.cut x5 ?_ (fun h5 => ?_)
  · unfold x5
    refine Fr.step State.fire_fr rfl rfl ?_
    refine Fr.inc (xs := [⟨17221815296, 17221815296, 1, 0⟩]) rfl rfl ?_
    refine Fr.wr (xs := [⟨17221815169, 17221815169, 1, 0⟩]) rfl rfl ?_
    first | assumption | exact Fr.refl _
  try clear_value x5
  refine Fr.iteh (fun _ => ?_) (fun _ => ?_)
  · refine Fr.step State.fire_fr rfl rfl ?_
    refine Fr.wr (xs := [⟨17221812362, 17221812362, 1, 0⟩]) rfl rfl ?_
    first | assumption | exact Fr.refl _
  · first | assumption | exact Fr.refl _

theorem State.msgPair_fr {s} {a1} {a2} {a3} : Fr [⟨17181966336, 17181966336, 1, 0⟩, ⟨17181967360, 17181967360, 1, 0⟩, ⟨17186226581, 17186257301, 2048, 0⟩, ⟨17181966338, 17181966338, 1, 0⟩, ⟨17181966495, 17181966495, 1, 0⟩, ⟨17186168832, 17186169247, 1, 0⟩, ⟨17221815176, 17221815176, 1, 0⟩, ⟨17221815312, 17221815312, 1, 0⟩, ⟨17221815424, 17221815424, 1, 0⟩, ⟨17221815440, 17221815440, 1, 0⟩, ⟨17221815168, 17221815168, 1, 0⟩, ⟨17221815184, 17221815184, 1, 0⟩, ⟨17221815170, 17221815170, 1, 0⟩, ⟨17221815824, 17221815824, 1, 0⟩, ⟨17221815808, 17221815808, 1, 0⟩, ⟨17221820416, 17221828480, 128, 0⟩, ⟨17221816064, 17221816064, 1, 0⟩, ⟨17221815936, 17221815936, 1, 0⟩, ⟨17221815296, 17221815296, 1, 0⟩, ⟨17221815169, 17221815169, 1, 0⟩, ⟨17221812362, 17221812362, 1, 0⟩] [.pwr, .flt, .evc, .safe] s (State.msgPair s a1 a2 a3) := by
  unfold State.msgPair
  extract_lets -merge -underBinder +onlyGivenNames x0
  try clear_value (e0 : x0 = _)
  extract_lets -merge -underBinder +onlyGivenNames x1
  try clear_value (e1 : x1 = _)
  refine Fr.iteh (fun _ => ?_) (fun _ => ?_)
  · refine Fr.step State.msgReject_fr rfl rfl ?_
    first | assumption | exact Fr.refl _
  · refine Fr.iteh (fun _ => ?_) (fun _ => ?_)
    · refine Fr.wr (xs := [⟨17221815168, 17221815168, 1, 0⟩]) rfl rfl ?_
      refine Fr.wr (xs := [⟨17221815184, 17221815184, 1, 0⟩]) rfl rfl ?_
      first | assumption | exact Fr.refl _
    · refine Fr.iteh (fun _ => ?_) (fun _ => ?_)
      · refine Fr.step State.msgAccept_fr rfl rfl ?_
        first | assumption | exact Fr.refl _
      · refine Fr.wr (xs := [⟨17221815184, 17221815184, 1, 0⟩]) rfl rfl ?_
        refine Fr.step State.msgReject_fr rfl rfl ?_
        first | assumption | exact Fr.refl _

theorem State.holdCopy_fr {s} {a1} {a2} {a3} : Fr [⟨17221815440, 17221815440, 1, 0⟩] [.safe] s (State.holdCopy s a1 a2 a3) := by
  unfold State.holdCopy
  refine Fr.iteh (fun _ => ?_) (fun _ => ?_)
  · refine Fr.inc (xs := [⟨17221815440, 17221815440, 1, 0⟩]) rfl rfl ?_
    first | assumption | exact Fr.refl _
  · refine Fr.set_safe rfl ?_
    first | assumption | exact Fr.refl _

theorem State.safeMessage_fr {s} {a1} {a2} : Fr [⟨17181966336, 17181966336, 1, 0⟩, ⟨17181967360, 17181967360, 1, 0⟩, ⟨17186226581, 17186257301, 2048, 0⟩, ⟨17181966338, 17181966338, 1, 0⟩, ⟨17181966495, 17181966495, 1, 0⟩, ⟨17186168832, 17186169247, 1, 0⟩, ⟨17221815176, 17221815176, 1, 0⟩, ⟨17221815312, 17221815312, 1, 0⟩, ⟨17221815424, 17221815424, 1, 0⟩, ⟨17221815440, 17221815440, 1, 0⟩, ⟨17221815168, 17221815168, 1, 0⟩, ⟨17221815184, 17221815184, 1, 0⟩, ⟨17221815170, 17221815170, 1, 0⟩, ⟨17221815824, 17221815824, 1, 0⟩, ⟨17221815808, 17221815808, 1, 0⟩, ⟨17221820416, 17221828480, 128, 0⟩, ⟨17221816064, 17221816064, 1, 0⟩, ⟨17221815936, 17221815936, 1, 0⟩, ⟨17221815296, 17221815296, 1, 0⟩, ⟨17221815169, 17221815169, 1, 0⟩, ⟨17221812362, 17221812362, 1, 0⟩] [.pwr, .flt, .evc, .safe] s (State.safeMessage s a1 a2) := by
  unfold State.safeMessage
  refine Fr.iteh (fun _ => ?_) (fun _ => ?_)
  · first | assumption | exact Fr.refl _
  · extract_lets -merge -underBinder +onlyGivenNames x0
    try clear_value (e0 : x0 = _)
    extract_lets -merge -underBinder +onlyGivenNames x1
    try clear_value (e1 : x1 = _)
    refine Fr.iteh (fun _ => ?_) (fun _ => ?_)
    · refine Fr.step State.msgReject_fr rfl rfl ?_
      first | assumption | exact Fr.refl _
    · refine Fr.iteh (fun _ => ?_) (fun _ => ?_)
      · refine Fr.inc (xs := [⟨17221815440, 17221815440, 1, 0⟩]) rfl rfl ?_
        first | assumption | exact Fr.refl _
      · split
        · extract_lets -merge -underBinder +onlyGivenNames x2
          extract_lets -merge -underBinder +onlyGivenNames x3
          refine Fr.cut x3 ?_ (fun h3 => ?_)
          · unfold x3
            refine Fr.set_safe rfl ?_
            first | assumption | exact Fr.refl _
          try clear_value x3
          refine Fr.iteh (fun _ => ?_) (fun _ => ?_)
          · refine Fr.step State.msgPair_fr rfl rfl ?_
            first | assumption | exact Fr.refl _
          · refine Fr.step State.holdCopy_fr rfl rfl ?_
            refine Fr.step State.msgReject_fr rfl rfl ?_
            first | assumption | exact Fr.refl _
        · refine Fr.step State.holdCopy_fr rfl rfl ?_
          first | assumption | exact Fr.refl _

end Sys2Proof.Machine
end

