-- ==== Sys2Proof/Laws/LayerOpsFrame.lean ====
section
/-! SUPPORT. What each operation and command of Machine/LayerOps.lean changes at most: register blocks and zones of the state. -/

namespace Sys2Proof.Machine

theorem State.setLayer_fr {s} {a1} : Fr [] [.layer] s (State.setLayer s a1) := by
  unfold State.setLayer
  refine Fr.set_layer rfl ?_
  first | assumption | exact Fr.refl _

theorem State.checkPassed_fr {s} {a1} {a2} {a3} : Fr [⟨17198753156, 17198767492, 2048, 0⟩, ⟨17198753280, 17198767616, 2048, 0⟩, ⟨17198753154, 17198767490, 2048, 0⟩] [.layer] s (State.checkPassed s a1 a2 a3) := by
  unfold State.checkPassed
  extract_lets -merge -underBinder +onlyGivenNames x0
  refine Fr.cut x0 ?_ (fun h0 => ?_)
  · unfold x0
    refine Fr.wr (xs := [⟨17198753156, 17198767492, 2048, 0⟩]) (Reg.LAYER_L_WARP_STATUS_CHK_CODE_key (by first | omega | (simp only [List.mem_range] at *; omega))) rfl ?_
    refine Fr.wr (xs := [⟨17198753280, 17198767616, 2048, 0⟩]) (Reg.LAYER_L_SPAN_MAX_SPAN_key (by first | omega | (simp only [List.mem_range] at *; omega))) rfl ?_
    first | assumption | exact Fr.refl _
  try clear_value x0
  extract_lets -merge -underBinder +onlyGivenNames x1
  extract_lets -merge -underBinder +onlyGivenNames x2
  refine Fr.cut x2 ?_ (fun h2 => ?_)
  · unfold x2
    refine Fr.step State.setLayer_fr rfl rfl ?_
    first | assumption | exact Fr.refl _
  try clear_value x2
  refine Fr.iteh (fun _ => ?_) (fun _ => ?_)
  · first | assumption | exact Fr.refl _
  · refine Fr.wr (xs := [⟨17198753154, 17198767490, 2048, 0⟩]) (Reg.LAYER_L_WARP_STATUS_CHECKED_key (by first | omega | (simp only [List.mem_range] at *; omega))) rfl ?_
    first | assumption | exact Fr.refl _

theorem State.disarm_fr {s} {a1} : Fr [⟨17198743688, 17198743695, 1, 0⟩] [] s (State.disarm s a1) := by
  unfold State.disarm
  refine Fr.wr (xs := [⟨17198743688, 17198743695, 1, 0⟩]) (Reg.LAYER_STATUS_ARMED_key (by first | omega | (simp only [List.mem_range] at *; omega))) rfl ?_
  first | assumption | exact Fr.refl _

theorem State.checkFailed_fr {s} {a1} {a2} {a3} {a4} : Fr [⟨17198753296, 17198767632, 2048, 0⟩, ⟨17198753292, 17198767628, 2048, 0⟩, ⟨17198753280, 17198767616, 2048, 0⟩, ⟨17181966336, 17181966336, 1, 0⟩, ⟨17181967360, 17181967360, 1, 0⟩, ⟨17186226581, 17186257301, 2048, 0⟩, ⟨17181966338, 17181966338, 1, 0⟩, ⟨17181966495, 17181966495, 1, 0⟩, ⟨17186168832, 17186169247, 1, 0⟩, ⟨17198753160, 17198767496, 2048, 0⟩, ⟨17198753156, 17198767492, 2048, 0⟩, ⟨17198743688, 17198743695, 1, 0⟩] [.pwr, .flt, .evc, .layer] s (State.checkFailed s a1 a2 a3 a4) := by
  unfold State.checkFailed
  extract_lets -merge -underBinder +onlyGivenNames x0
  refine Fr.cut x0 ?_ (fun h0 => ?_)
  · unfold x0
    refine Fr.wr (xs := [⟨17198753296, 17198767632, 2048, 0⟩]) (Reg.LAYER_L_SPAN_FAIL_LINE_key (by first | omega | (simp only [List.mem_range] at *; omega))) rfl ?_
    refine Fr.wr (xs := [⟨17198753292, 17198767628, 2048, 0⟩]) (Reg.LAYER_L_SPAN_FAIL_TILE_key (by first | omega | (simp only [List.mem_range] at *; omega))) rfl ?_
    refine Fr.wr (xs := [⟨17198753280, 17198767616, 2048, 0⟩]) (Reg.LAYER_L_SPAN_MAX_SPAN_key (by first | omega | (simp only [List.mem_range] at *; omega))) rfl ?_
    first | assumption | exact Fr.refl _
  try clear_value x0
  extract_lets -merge -underBinder +onlyGivenNames x1
  refine Fr.cut x1 ?_ (fun h1 => ?_)
  · unfold x1
    refine Fr.step State.fire_fr rfl rfl ?_
    refine Fr.wr (xs := [⟨17198753160, 17198767496, 2048, 0⟩]) (Reg.LAYER_L_WARP_STATUS_SPAN_ERR_key (by first | omega | (simp only [List.mem_range] at *; omega))) rfl ?_
    refine Fr.wr (xs := [⟨17198753156, 17198767492, 2048, 0⟩]) (Reg.LAYER_L_WARP_STATUS_CHK_CODE_key (by first | omega | (simp only [List.mem_range] at *; omega))) rfl ?_
    first | assumption | exact Fr.refl _
  try clear_value x1
  refine Fr.iteh (fun _ => ?_) (fun _ => ?_)
  · first | assumption | exact Fr.refl _
  · refine Fr.step State.disarm_fr rfl rfl ?_
    refine Fr.step State.setLayer_fr rfl rfl ?_
    first | assumption | exact Fr.refl _

theorem State.queueCheck_fr {s} {a1} : Fr [⟨17198753156, 17198767492, 2048, 0⟩, ⟨17198753280, 17198767616, 2048, 0⟩, ⟨17198753154, 17198767490, 2048, 0⟩] [.layer] s (State.queueCheck s a1) := by
  unfold State.queueCheck
  refine Fr.iteh (fun _ => ?_) (fun _ => ?_)
  · refine Fr.step State.setLayer_fr rfl rfl ?_
    first | assumption | exact Fr.refl _
  · refine Fr.step State.checkPassed_fr rfl rfl ?_
    first | assumption | exact Fr.refl _

theorem State.queueChecks_fr {s} : Fr [⟨17198753156, 17198767492, 2048, 0⟩, ⟨17198753280, 17198767616, 2048, 0⟩, ⟨17198753154, 17198767490, 2048, 0⟩] [.layer] s (State.queueChecks s) := by
  unfold State.queueChecks
  extract_lets -merge -underBinder +onlyGivenNames x0
  extract_lets -merge -underBinder +onlyGivenNames x1
  refine Fr.cut x1 ?_ (fun h1 => ?_)
  · unfold x1
    refine Fr.step State.setLayer_fr rfl rfl ?_
    first | assumption | exact Fr.refl _
  try clear_value x1
  refine Fr.forFin ?_ (fun i t ht => ?_)
  · first | assumption | exact Fr.refl _
  · refine Fr.iteh (fun _ => ?_) (fun _ => ?_)
    · refine Fr.step State.queueCheck_fr rfl rfl ?_
      first | assumption | exact Fr.refl _
    · first | assumption | exact Fr.refl _

theorem State.dropWalk_fr {s} : Fr [⟨17198753155, 17198767491, 2048, 0⟩] [.layer] s (State.dropWalk s) := by
  unfold State.dropWalk
  split
  · first | assumption | exact Fr.refl _
  · refine Fr.wr (xs := [⟨17198753155, 17198767491, 2048, 0⟩]) (Reg.LAYER_L_WARP_STATUS_CHK_BUSY_key (by first | omega | (simp only [List.mem_range] at *; omega))) rfl ?_
    refine Fr.step State.setLayer_fr rfl rfl ?_
    first | assumption | exact Fr.refl _

theorem State.layerWritten_fr {s} {a1} {a2} : Fr [⟨17198743688, 17198743695, 1, 0⟩, ⟨17198753155, 17198767491, 2048, 0⟩, ⟨17198753154, 17198767490, 2048, 0⟩] [.layer] s (State.layerWritten s a1 a2) := by
  unfold State.layerWritten
  extract_lets -merge -underBinder +onlyGivenNames x0
  refine Fr.cut x0 ?_ (fun h0 => ?_)
  · unfold x0
    refine Fr.step State.disarm_fr rfl rfl ?_
    first | assumption | exact Fr.refl _
  try clear_value x0
  extract_lets -merge -underBinder +onlyGivenNames x1
  refine Fr.cut x1 ?_ (fun h1 => ?_)
  · unfold x1
    refine Fr.iteh (fun _ => ?_) (fun _ => ?_)
    · refine Fr.step State.dropWalk_fr rfl rfl ?_
      first | assumption | exact Fr.refl _
    · first | assumption | exact Fr.refl _
  try clear_value x1
  refine Fr.iteh (fun _ => ?_) (fun _ => ?_)
  · refine Fr.wr (xs := [⟨17198753154, 17198767490, 2048, 0⟩]) (Reg.LAYER_L_WARP_STATUS_CHECKED_key (by first | omega | (simp only [List.mem_range] at *; omega))) rfl ?_
    first | assumption | exact Fr.refl _
  · first | assumption | exact Fr.refl _

theorem State.layerSwitched_fr {s} : Fr [⟨17198753155, 17198767491, 2048, 0⟩, ⟨17198753154, 17198767490, 2048, 0⟩, ⟨17198753156, 17198767492, 2048, 0⟩, ⟨17198753280, 17198767616, 2048, 0⟩] [.layer] s (State.layerSwitched s) := by
  unfold State.layerSwitched
  extract_lets -merge -underBinder +onlyGivenNames x0
  refine Fr.cut x0 ?_ (fun h0 => ?_)
  · unfold x0
    refine Fr.step State.dropWalk_fr rfl rfl ?_
    first | assumption | exact Fr.refl _
  try clear_value x0
  refine Fr.forFin ?_ (fun i t ht => ?_)
  · first | assumption | exact Fr.refl _
  · extract_lets -merge -underBinder +onlyGivenNames x1
    try clear_value x1
    extract_lets -merge -underBinder +onlyGivenNames x2
    extract_lets -merge -underBinder +onlyGivenNames x3
    refine Fr.cut x3 ?_ (fun h3 => ?_)
    · unfold x3
      refine Fr.wr (xs := [⟨17198753154, 17198767490, 2048, 0⟩]) (Reg.LAYER_L_WARP_STATUS_CHECKED_key (by first | omega | (simp only [List.mem_range] at *; omega))) rfl ?_
      refine Fr.step State.setLayer_fr rfl rfl ?_
      first | assumption | exact Fr.refl _
    try clear_value x3
    refine Fr.iteh (fun _ => ?_) (fun _ => ?_)
    · refine Fr.step State.queueCheck_fr rfl rfl ?_
      first | assumption | exact Fr.refl _
    · first | assumption | exact Fr.refl _

theorem State.layerPlan_fr {s} {a1} {a2} {a3} {a4} : Fr [⟨17198743688, 17198743695, 1, 0⟩] [.layer] s (State.layerPlan s a1 a2 a3 a4) := by
  unfold State.layerPlan
  extract_lets -merge -underBinder +onlyGivenNames x0
  try clear_value x0
  extract_lets -merge -underBinder +onlyGivenNames x1
  try clear_value x1
  extract_lets -merge -underBinder +onlyGivenNames x2
  try clear_value x2
  extract_lets -merge -underBinder +onlyGivenNames x3
  try clear_value x3
  extract_lets -merge -underBinder +onlyGivenNames x4
  try clear_value x4
  extract_lets -merge -underBinder +onlyGivenNames x5
  try clear_value x5
  extract_lets -merge -underBinder +onlyGivenNames x6
  try clear_value x6
  extract_lets -merge -underBinder +onlyGivenNames x7
  extract_lets -merge -underBinder +onlyGivenNames x8
  refine Fr.cut x8 ?_ (fun h8 => ?_)
  · unfold x8
    refine Fr.foldl' ?_ (fun t x hx ht => ?_)
    · first | assumption | exact Fr.refl _
    · refine Fr.wr (xs := [⟨17198743688, 17198743695, 1, 0⟩]) (Reg.LAYER_STATUS_ARMED_key (by first | omega | (simp only [List.mem_range] at *; omega))) rfl ?_
      first | assumption | exact Fr.refl _
  try clear_value x8
  refine Fr.step State.setLayer_fr rfl rfl ?_
  first | assumption | exact Fr.refl _

theorem State.layerCapture_fr {s} {a1} {a2} : Fr [⟨17198743816, 17198743816, 1, 0⟩, ⟨17181966336, 17181966336, 1, 0⟩, ⟨17181967360, 17181967360, 1, 0⟩, ⟨17186226581, 17186257301, 2048, 0⟩, ⟨17181966338, 17181966338, 1, 0⟩, ⟨17181966495, 17181966495, 1, 0⟩, ⟨17186168832, 17186169247, 1, 0⟩, ⟨17198743808, 17198743808, 1, 0⟩, ⟨17198743553, 17198743553, 1, 0⟩, ⟨17198753156, 17198767492, 2048, 0⟩, ⟨17198743688, 17198743695, 1, 0⟩] [.pwr, .flt, .evc, .layer] s (State.layerCapture s a1 a2) := by
  unfold State.layerCapture
  extract_lets -merge -underBinder +onlyGivenNames x0
  try clear_value x0
  extract_lets -merge -underBinder +onlyGivenNames x1
  try clear_value x1
  extract_lets -merge -underBinder +onlyGivenNames x2
  try clear_value x2
  split
  · extract_lets -merge -underBinder +onlyGivenNames x3
    refine Fr.cut x3 ?_ (fun h3 => ?_)
    · unfold x3
      refine Fr.wr (xs := [⟨17198743816, 17198743816, 1, 0⟩]) rfl rfl ?_
      unfold State.rejectCommit
      try dsimp -zeta only
      refine Fr.step State.fire_fr rfl rfl ?_
      refine Fr.wr (xs := [⟨17198743808, 17198743808, 1, 0⟩]) rfl rfl ?_
      refine Fr.wr (xs := [⟨17198743553, 17198743553, 1, 0⟩]) rfl rfl ?_
      first | assumption | exact Fr.refl _
    try clear_value x3
    extract_lets -merge -underBinder +onlyGivenNames x4
    refine Fr.cut x4 ?_ (fun h4 => ?_)
    · unfold x4
      refine Fr.iteh (fun _ => ?_) (fun _ => ?_)
      · refine Fr.wr (xs := [⟨17198753156, 17198767492, 2048, 0⟩]) (Reg.LAYER_L_WARP_STATUS_CHK_CODE_key (by first | omega | (simp only [List.mem_range] at *; omega))) rfl ?_
        first | assumption | exact Fr.refl _
      · first | assumption | exact Fr.refl _
    try clear_value x4
    refine Fr.step State.layerPlan_fr rfl rfl ?_
    first | assumption | exact Fr.refl _
  · refine Fr.step State.layerPlan_fr rfl rfl ?_
    first | assumption | exact Fr.refl _

theorem State.layerFlip_fr {s} {a1} : Fr [⟨17198743688, 17198743695, 1, 0⟩, ⟨17198752656, 17198766992, 2048, 0⟩, ⟨17198743680, 17198743687, 1, 0⟩] [.live, .layer] s (State.layerFlip s a1) := by
  unfold State.layerFlip
  extract_lets -merge -underBinder +onlyGivenNames x0
  try clear_value (e0 : x0 = _)
  extract_lets -merge -underBinder +onlyGivenNames x1
  try clear_value x1
  extract_lets -merge -underBinder +onlyGivenNames x2
  try clear_value (e2 : x2 = _)
  extract_lets -merge -underBinder +onlyGivenNames x3
  refine Fr.cut x3 ?_ (fun h3 => ?_)
  · unfold x3
    refine Fr.step State.applySet_fr rfl rfl ?_
    first | assumption | exact Fr.refl _
  try clear_value x3
  extract_lets -merge -underBinder +onlyGivenNames x4
  try clear_value x4
  extract_lets -merge -underBinder +onlyGivenNames x5
  try clear_value x5
  extract_lets -merge -underBinder +onlyGivenNames x6
  extract_lets -merge -underBinder +onlyGivenNames x7
  refine Fr.cut x7 ?_ (fun h7 => ?_)
  · unfold x7
    refine Fr.step State.setLayer_fr rfl rfl ?_
    first | assumption | exact Fr.refl _
  try clear_value x7
  extract_lets -merge -underBinder +onlyGivenNames x8
  refine Fr.cut x8 ?_ (fun h8 => ?_)
  · unfold x8
    refine Fr.step State.disarm_fr rfl rfl ?_
    refine Fr.wr (xs := [⟨17198752656, 17198766992, 2048, 0⟩]) (Reg.LAYER_L_DEFER_CONSEC_key (by first | omega | (simp only [List.mem_range] at *; omega))) rfl ?_
    first | assumption | exact Fr.refl _
  try clear_value x8
  refine Fr.iteh (fun _ => ?_) (fun _ => ?_)
  · first | assumption | exact Fr.refl _
  · refine Fr.wrB (xs := [⟨17198743680, 17198743687, 1, 0⟩]) (Reg.LAYER_STATUS_LIVE_key (by first | omega | (simp only [List.mem_range] at *; omega))) rfl ?_
    first | assumption | exact Fr.refl _

theorem State.layerDeferred_fr {s} {a1} : Fr [⟨17198752656, 17198766992, 2048, 0⟩, ⟨17198752640, 17198766976, 2048, 0⟩, ⟨17181966336, 17181966336, 1, 0⟩, ⟨17181967360, 17181967360, 1, 0⟩, ⟨17186226581, 17186257301, 2048, 0⟩, ⟨17181966338, 17181966338, 1, 0⟩, ⟨17181966495, 17181966495, 1, 0⟩, ⟨17186168832, 17186169247, 1, 0⟩, ⟨17198743696, 17198743703, 1, 0⟩] [.pwr, .flt, .evc, .layer] s (State.layerDeferred s a1) := by
  unfold State.layerDeferred
  refine Fr.iteh (fun _ => ?_) (fun _ => ?_)
  · first | assumption | exact Fr.refl _
  · extract_lets -merge -underBinder +onlyGivenNames x0
    refine Fr.cut x0 ?_ (fun h0 => ?_)
    · unfold x0
      refine Fr.inc (xs := [⟨17198752656, 17198766992, 2048, 0⟩]) (Reg.LAYER_L_DEFER_CONSEC_key (by first | omega | (simp only [List.mem_range] at *; omega))) rfl ?_
      refine Fr.inc (xs := [⟨17198752640, 17198766976, 2048, 0⟩]) (Reg.LAYER_L_DEFER_TOTAL_key (by first | omega | (simp only [List.mem_range] at *; omega))) rfl ?_
      first | assumption | exact Fr.refl _
    try clear_value x0
    extract_lets -merge -underBinder +onlyGivenNames x1
    try clear_value (e1 : x1 = _)
    refine Fr.iteh (fun _ => ?_) (fun _ => ?_)
    · refine Fr.step State.fire_fr rfl rfl ?_
      refine Fr.wr (xs := [⟨17198743696, 17198743703, 1, 0⟩]) (Reg.LAYER_STATUS_STALE_key (by first | omega | (simp only [List.mem_range] at *; omega))) rfl ?_
      refine Fr.step State.setLayer_fr rfl rfl ?_
      first | assumption | exact Fr.refl _
    · first | assumption | exact Fr.refl _

theorem State.layerApply_fr {s} {a1} : Fr [⟨17198743688, 17198743695, 1, 0⟩, ⟨17198752656, 17198766992, 2048, 0⟩, ⟨17198743680, 17198743687, 1, 0⟩, ⟨17198743553, 17198743553, 1, 0⟩] [.live, .layer] s (State.layerApply s a1) := by
  unfold State.layerApply
  extract_lets -merge -underBinder +onlyGivenNames x0
  refine Fr.cut x0 ?_ (fun h0 => ?_)
  · unfold x0
    refine Fr.foldl' ?_ (fun t x hx ht => ?_)
    · first | assumption | exact Fr.refl _
    · refine Fr.step State.layerFlip_fr rfl rfl ?_
      first | assumption | exact Fr.refl _
  try clear_value x0
  extract_lets -merge -underBinder +onlyGivenNames x1
  extract_lets -merge -underBinder +onlyGivenNames x2
  refine Fr.cut x2 ?_ (fun h2 => ?_)
  · unfold x2
    refine Fr.step State.setLayer_fr rfl rfl ?_
    first | assumption | exact Fr.refl _
  try clear_value x2
  refine Fr.iteh (fun _ => ?_) (fun _ => ?_)
  · refine Fr.wr (xs := [⟨17198743553, 17198743553, 1, 0⟩]) rfl rfl ?_
    first | assumption | exact Fr.refl _
  · first | assumption | exact Fr.refl _

theorem State.layerLive_fr {s} {a1} : Fr [⟨17198743688, 17198743695, 1, 0⟩, ⟨17198752656, 17198766992, 2048, 0⟩, ⟨17198743680, 17198743687, 1, 0⟩, ⟨17198743553, 17198743553, 1, 0⟩, ⟨17198752640, 17198766976, 2048, 0⟩, ⟨17181966336, 17181966336, 1, 0⟩, ⟨17181967360, 17181967360, 1, 0⟩, ⟨17186226581, 17186257301, 2048, 0⟩, ⟨17181966338, 17181966338, 1, 0⟩, ⟨17181966495, 17181966495, 1, 0⟩, ⟨17186168832, 17186169247, 1, 0⟩, ⟨17198743696, 17198743703, 1, 0⟩] [.layer, .live, .pwr, .flt, .evc] s (State.layerLive s a1) := by
  unfold State.layerLive
  extract_lets -merge -underBinder +onlyGivenNames x0
  try clear_value x0
  extract_lets -merge -underBinder +onlyGivenNames x1
  extract_lets -merge -underBinder +onlyGivenNames x2
  refine Fr.cut x2 ?_ (fun h2 => ?_)
  · unfold x2
    refine Fr.foldl' ?_ (fun t x hx ht => ?_)
    · refine Fr.step State.setLayer_fr rfl rfl ?_
      first | assumption | exact Fr.refl _
    · refine Fr.step State.layerApply_fr rfl rfl ?_
      first | assumption | exact Fr.refl _
  try clear_value x2
  refine Fr.forFin ?_ (fun i t ht => ?_)
  · first | assumption | exact Fr.refl _
  · refine Fr.iteh (fun _ => ?_) (fun _ => ?_)
    · refine Fr.step State.layerDeferred_fr rfl rfl ?_
      first | assumption | exact Fr.refl _
    · first | assumption | exact Fr.refl _

theorem State.layerRetest_fr {s} : Fr [⟨17198743816, 17198743816, 1, 0⟩, ⟨17181966336, 17181966336, 1, 0⟩, ⟨17181967360, 17181967360, 1, 0⟩, ⟨17186226581, 17186257301, 2048, 0⟩, ⟨17181966338, 17181966338, 1, 0⟩, ⟨17181966495, 17181966495, 1, 0⟩, ⟨17186168832, 17186169247, 1, 0⟩, ⟨17198743808, 17198743808, 1, 0⟩, ⟨17198743553, 17198743553, 1, 0⟩, ⟨17198753156, 17198767492, 2048, 0⟩, ⟨17198743688, 17198743695, 1, 0⟩] [.pwr, .flt, .evc, .layer] s (State.layerRetest s) := by
  unfold State.layerRetest
  refine Fr.iteh (fun _ => ?_) (fun _ => ?_)
  · refine Fr.step State.layerCapture_fr rfl rfl ?_
    first | assumption | exact Fr.refl _
  · first | assumption | exact Fr.refl _

theorem State.layerDiscard_fr {s} : Fr [⟨17198743553, 17198743553, 1, 0⟩] [.layer] s (State.layerDiscard s) := by
  unfold State.layerDiscard
  extract_lets -merge -underBinder +onlyGivenNames x0
  try clear_value x0
  extract_lets -merge -underBinder +onlyGivenNames x1
  extract_lets -merge -underBinder +onlyGivenNames x2
  refine Fr.cut x2 ?_ (fun h2 => ?_)
  · unfold x2
    refine Fr.step State.setLayer_fr rfl rfl ?_
    first | assumption | exact Fr.refl _
  try clear_value x2
  refine Fr.iteh (fun _ => ?_) (fun _ => ?_)
  · refine Fr.wr (xs := [⟨17198743553, 17198743553, 1, 0⟩]) rfl rfl ?_
    first | assumption | exact Fr.refl _
  · first | assumption | exact Fr.refl _

theorem State.agentHandsAll_fr {s} {a1} : Fr [⟨17194557440, 17194573724, 4, 0⟩, ⟨17181966336, 17181966336, 1, 0⟩, ⟨17181967360, 17181967360, 1, 0⟩, ⟨17186226581, 17186257301, 2048, 0⟩, ⟨17181966338, 17181966338, 1, 0⟩, ⟨17181966495, 17181966495, 1, 0⟩, ⟨17186168832, 17186169247, 1, 0⟩, ⟨17194549776, 17194549776, 1, 0⟩, ⟨17192452352, 17192452352, 1, 0⟩, ⟨17192452608, 17192452608, 1, 0⟩, ⟨17192452480, 17192452480, 1, 0⟩, ⟨17192452229, 17192452229, 1, 0⟩, ⟨17192452228, 17192452228, 1, 0⟩, ⟨17188261632, 17188261632, 1, 0⟩, ⟨17181967232, 17181967263, 1, 0⟩, ⟨17194615425, 17194618497, 1024, 0⟩, ⟨17194615296, 17194618368, 1024, 0⟩, ⟨17194549761, 17194549761, 1, 0⟩, ⟨17194549764, 17194549764, 1, 0⟩] [.free, .mem, .flt, .pwr, .evc, .memc, .win] s (State.agentHandsAll s a1).1 := by
  unfold State.agentHandsAll
  extract_lets -merge -underBinder +onlyGivenNames x0
  try clear_value (e0 : x0 = _)
  refine Fr.foldl1 ?_ (fun t x ht => ?_)
  · refine Fr.mk1 ?_
    first | assumption | exact Fr.refl _
  · refine Fr.iteh1 (fun _ => ?_) (fun _ => ?_)
    · first | assumption | exact Fr.refl _
    · refine Fr.iteh1 (fun _ => ?_) (fun _ => ?_)
      · refine Fr.mk1 ?_
        first | assumption | exact Fr.refl _
      · refine Fr.mk1 ?_
        refine Fr.step State.agentHands_fr rfl rfl ?_
        first | assumption | exact Fr.refl _

theorem State.retireHandover_fr {s} : Fr [⟨17194557440, 17194573724, 4, 0⟩, ⟨17181966336, 17181966336, 1, 0⟩, ⟨17181967360, 17181967360, 1, 0⟩, ⟨17186226581, 17186257301, 2048, 0⟩, ⟨17181966338, 17181966338, 1, 0⟩, ⟨17181966495, 17181966495, 1, 0⟩, ⟨17186168832, 17186169247, 1, 0⟩, ⟨17194549776, 17194549776, 1, 0⟩, ⟨17192452352, 17192452352, 1, 0⟩, ⟨17192452608, 17192452608, 1, 0⟩, ⟨17192452480, 17192452480, 1, 0⟩, ⟨17192452229, 17192452229, 1, 0⟩, ⟨17192452228, 17192452228, 1, 0⟩, ⟨17188261632, 17188261632, 1, 0⟩, ⟨17181967232, 17181967263, 1, 0⟩, ⟨17194615425, 17194618497, 1024, 0⟩, ⟨17194615296, 17194618368, 1024, 0⟩, ⟨17194549761, 17194549761, 1, 0⟩, ⟨17194549764, 17194549764, 1, 0⟩, ⟨17198743816, 17198743816, 1, 0⟩, ⟨17198743808, 17198743808, 1, 0⟩, ⟨17198743553, 17198743553, 1, 0⟩, ⟨17198753156, 17198767492, 2048, 0⟩, ⟨17198743688, 17198743695, 1, 0⟩] [.free, .mem, .flt, .pwr, .evc, .memc, .win, .layer] s (State.retireHandover s) := by
  unfold State.retireHandover
  extract_lets -merge -underBinder +onlyGivenNames x0
  refine Fr.cut x0 ?_ (fun h0 => ?_)
  · unfold x0
    refine Fr.foldl' ?_ (fun t x hx ht => ?_)
    · first | assumption | exact Fr.refl _
    · refine Fr.iteh (fun _ => ?_) (fun _ => ?_)
      · refine Fr.step State.agentHands_fr rfl rfl ?_
        first | assumption | exact Fr.refl _
      · first | assumption | exact Fr.refl _
  try clear_value x0
  refine Fr.iteh (fun _ => ?_) (fun _ => ?_)
  · first | assumption | exact Fr.refl _
  · refine Fr.step State.layerRetest_fr rfl rfl ?_
    first | assumption | exact Fr.refl _

end Sys2Proof.Machine
end

