-- ==== Sys2Proof/Laws/SaOpsFrame.lean ====
section
/-! SUPPORT. What each operation and command of Machine/SaOps.lean changes at most: register blocks and zones of the state. -/

namespace Sys2Proof.Machine

theorem State.setSa_fr {s} {a1} : Fr [] [.sa] s (State.setSa s a1) := by
  unfold State.setSa
  refine Fr.set_sa rfl ?_
  first | assumption | exact Fr.refl _

theorem State.unmapPorts_fr {s} : Fr [⟨17205035139, 17205149827, 8192, 0⟩, ⟨17205035141, 17205149829, 8192, 0⟩, ⟨17205035140, 17205149828, 8192, 0⟩, ⟨17205035136, 17205149824, 8192, 0⟩, ⟨17181966336, 17181966336, 1, 0⟩, ⟨17181967360, 17181967360, 1, 0⟩, ⟨17186226581, 17186257301, 2048, 0⟩, ⟨17181966338, 17181966338, 1, 0⟩, ⟨17181966495, 17181966495, 1, 0⟩, ⟨17186168832, 17186169247, 1, 0⟩, ⟨17202937984, 17204379776, 131072, 0⟩] [.pwr, .flt, .evc, .tl] s (State.unmapPorts s) := by
  unfold State.unmapPorts
  refine Fr.forFin ?_ (fun i t ht => ?_)
  · first | assumption | exact Fr.refl _
  · extract_lets -merge -underBinder +onlyGivenNames x0
    refine Fr.cut x0 ?_ (fun h0 => ?_)
    · unfold x0
      refine Fr.iteh (fun _ => ?_) (fun _ => ?_)
      · refine Fr.step State.tlLeave_fr rfl rfl ?_
        first | assumption | exact Fr.refl _
      · first | assumption | exact Fr.refl _
    try clear_value x0
    refine Fr.step State.showLane_fr rfl rfl ?_
    first | assumption | exact Fr.refl _

theorem State.saSwitch_fr {s} {a1} {a2} : Fr ([⟨17181966336, 17181966336, 1, 0⟩, ⟨17181967360, 17181967360, 1, 0⟩, ⟨17186226581, 17186257301, 2048, 0⟩, ⟨17181966338, 17181966338, 1, 0⟩, ⟨17181966495, 17181966495, 1, 0⟩, ⟨17186168832, 17186169247, 1, 0⟩, ⟨17196647812, 17196647812, 1, 0⟩, ⟨17196647808, 17196647808, 1, 0⟩, ⟨17196646544, 17196646544, 1, 0⟩, ⟨17196646536, 17196646536, 1, 0⟩, ⟨17198753168, 17198767504, 2048, 0⟩, ⟨17198753152, 17198767488, 2048, 0⟩, ⟨17196646533, 17196646533, 1, 0⟩, ⟨17196646529, 17196646529, 1, 0⟩, ⟨17198753155, 17198767491, 2048, 0⟩, ⟨17198753154, 17198767490, 2048, 0⟩, ⟨17198753156, 17198767492, 2048, 0⟩, ⟨17198753280, 17198767616, 2048, 0⟩, ⟨17205035139, 17205149827, 8192, 0⟩, ⟨17205035141, 17205149829, 8192, 0⟩, ⟨17205035140, 17205149828, 8192, 0⟩, ⟨17205035136, 17205149824, 8192, 0⟩, ⟨17202937984, 17204379776, 131072, 0⟩, ⟨17211359376, 17211408272, 256, 0⟩, ⟨17207138304, 17207138975, 1, 0⟩, ⟨17207136256, 17207137664, 128, 0⟩, ⟨17188261632, 17188261632, 1, 0⟩, ⟨17181967232, 17181967263, 1, 0⟩, ⟨17198743816, 17198743816, 1, 0⟩, ⟨17198743808, 17198743808, 1, 0⟩] ++ [⟨17198743553, 17198743553, 1, 0⟩, ⟨17198743688, 17198743695, 1, 0⟩]) [.pwr, .flt, .evc, .sa, .layer, .tl, .free, .hlth, .cal] s (State.saSwitch s a1 a2) := by
  unfold State.saSwitch
  extract_lets -merge -underBinder +onlyGivenNames x0
  try clear_value (e0 : x0 = _)
  extract_lets -merge -underBinder +onlyGivenNames x1
  refine Fr.cut x1 ?_ (fun h1 => ?_)
  · unfold x1
    refine Fr.step State.switchTo_fr rfl rfl ?_
    first | assumption | exact Fr.refl _
  try clear_value x1
  extract_lets -merge -underBinder +onlyGivenNames x2
  extract_lets -merge -underBinder +onlyGivenNames x3
  refine Fr.cut x3 ?_ (fun h3 => ?_)
  · unfold x3
    refine Fr.step State.setSa_fr rfl rfl ?_
    first | assumption | exact Fr.refl _
  try clear_value x3
  extract_lets -merge -underBinder +onlyGivenNames x4
  refine Fr.cut x4 ?_ (fun h4 => ?_)
  · unfold x4
    refine Fr.step State.layerSwitched_fr rfl rfl ?_
    refine Fr.step State.unmapPorts_fr rfl rfl ?_
    first | assumption | exact Fr.refl _
  try clear_value x4
  extract_lets -merge -underBinder +onlyGivenNames x5
  refine Fr.cut x5 ?_ (fun h5 => ?_)
  · unfold x5
    refine Fr.iteh (fun _ => ?_) (fun _ => ?_)
    · refine Fr.step State.surveyAll_fr rfl rfl ?_
      first | assumption | exact Fr.refl _
    · first | assumption | exact Fr.refl _
  try clear_value x5
  extract_lets -merge -underBinder +onlyGivenNames x6
  refine Fr.cut x6 ?_ (fun h6 => ?_)
  · unfold x6
    refine Fr.step State.calBroken_fr rfl rfl ?_
    first | assumption | exact Fr.refl _
  try clear_value x6
  refine Fr.iteh (fun _ => ?_) (fun _ => ?_)
  · refine Fr.step State.layerRetest_fr rfl rfl ?_
    first | assumption | exact Fr.refl _
  · first | assumption | exact Fr.refl _

theorem State.saCapture_fr {s} {a1} {a2} : Fr ([⟨17181966336, 17181966336, 1, 0⟩, ⟨17181967360, 17181967360, 1, 0⟩, ⟨17186226581, 17186257301, 2048, 0⟩, ⟨17181966338, 17181966338, 1, 0⟩, ⟨17181966495, 17181966495, 1, 0⟩, ⟨17186168832, 17186169247, 1, 0⟩, ⟨17196646656, 17196646656, 1, 0⟩, ⟨17196646401, 17196646401, 1, 0⟩, ⟨17196647812, 17196647812, 1, 0⟩, ⟨17196647808, 17196647808, 1, 0⟩, ⟨17196646544, 17196646544, 1, 0⟩, ⟨17196646536, 17196646536, 1, 0⟩, ⟨17198753168, 17198767504, 2048, 0⟩, ⟨17198753152, 17198767488, 2048, 0⟩, ⟨17196646533, 17196646533, 1, 0⟩, ⟨17196646529, 17196646529, 1, 0⟩, ⟨17198753155, 17198767491, 2048, 0⟩, ⟨17198753154, 17198767490, 2048, 0⟩, ⟨17198753156, 17198767492, 2048, 0⟩, ⟨17198753280, 17198767616, 2048, 0⟩, ⟨17205035139, 17205149827, 8192, 0⟩, ⟨17205035141, 17205149829, 8192, 0⟩, ⟨17205035140, 17205149828, 8192, 0⟩, ⟨17205035136, 17205149824, 8192, 0⟩, ⟨17202937984, 17204379776, 131072, 0⟩, ⟨17211359376, 17211408272, 256, 0⟩, ⟨17207138304, 17207138975, 1, 0⟩, ⟨17207136256, 17207137664, 128, 0⟩, ⟨17188261632, 17188261632, 1, 0⟩, ⟨17181967232, 17181967263, 1, 0⟩] ++ [⟨17198743816, 17198743816, 1, 0⟩, ⟨17198743808, 17198743808, 1, 0⟩, ⟨17198743553, 17198743553, 1, 0⟩, ⟨17198743688, 17198743695, 1, 0⟩]) [.pwr, .flt, .evc, .sa, .layer, .tl, .free, .hlth, .cal] s (State.saCapture s a1 a2) := by
  unfold State.saCapture
  refine Fr.iteh (fun _ => ?_) (fun _ => ?_)
  · first | assumption | exact Fr.refl _
  · refine Fr.iteh (fun _ => ?_) (fun _ => ?_)
    · unfold State.rejectCommit
      try dsimp -zeta only
      refine Fr.step State.fire_fr rfl rfl ?_
      refine Fr.wr (xs := [⟨17196646656, 17196646656, 1, 0⟩]) rfl rfl ?_
      refine Fr.wr (xs := [⟨17196646401, 17196646401, 1, 0⟩]) rfl rfl ?_
      first | assumption | exact Fr.refl _
    · extract_lets -merge -underBinder +onlyGivenNames x0
      try clear_value x0
      extract_lets -merge -underBinder +onlyGivenNames x1
      extract_lets -merge -underBinder +onlyGivenNames x2
      refine Fr.cut x2 ?_ (fun h2 => ?_)
      · unfold x2
        refine Fr.step State.setSa_fr rfl rfl ?_
        first | assumption | exact Fr.refl _
      try clear_value x2
      split
      · first | assumption | exact Fr.refl _
      · refine Fr.iteh (fun _ => ?_) (fun _ => ?_)
        · refine Fr.step State.saSwitch_fr rfl rfl ?_
          first | assumption | exact Fr.refl _
        · refine Fr.wr (xs := [⟨17196646533, 17196646533, 1, 0⟩]) rfl rfl ?_
          refine Fr.step State.setSa_fr rfl rfl ?_
          first | assumption | exact Fr.refl _

theorem State.loadLut_fr {s} : Fr [] [.free, .sa] s (State.loadLut s) := by
  unfold State.loadLut
  extract_lets -merge -underBinder +onlyGivenNames x0
  try clear_value x0
  extract_lets -merge -underBinder +onlyGivenNames x1
  try clear_value x1
  extract_lets -merge -underBinder +onlyGivenNames x2
  refine Fr.cut x2 ?_ (fun h2 => ?_)
  · unfold x2
    refine Fr.step State.drvOver_fr rfl rfl ?_
    first | assumption | exact Fr.refl _
  try clear_value x2
  refine Fr.step State.setSa_fr rfl rfl ?_
  first | assumption | exact Fr.refl _

theorem State.saLive_fr {s} : Fr [⟨17196646401, 17196646401, 1, 0⟩, ⟨17196778369, 17196778369, 1, 0⟩] [.live, .sa, .free] s (State.saLive s) := by
  unfold State.saLive
  split
  · first | assumption | exact Fr.refl _
  · extract_lets -merge -underBinder +onlyGivenNames x0
    try clear_value (e0 : x0 = _)
    extract_lets -merge -underBinder +onlyGivenNames x1
    try clear_value x1
    extract_lets -merge -underBinder +onlyGivenNames x2
    try clear_value (e2 : x2 = _)
    extract_lets -merge -underBinder +onlyGivenNames x3
    extract_lets -merge -underBinder +onlyGivenNames x4
    refine Fr.cut x4 ?_ (fun h4 => ?_)
    · unfold x4
      refine Fr.wr (xs := [⟨17196646401, 17196646401, 1, 0⟩]) rfl rfl ?_
      refine Fr.step State.applySet_fr rfl rfl ?_
      refine Fr.set_sa rfl ?_
      first | assumption | exact Fr.refl _
    try clear_value x4
    extract_lets -merge -underBinder +onlyGivenNames x5
    refine Fr.cut x5 ?_ (fun h5 => ?_)
    · unfold x5
      refine Fr.iteh (fun _ => ?_) (fun _ => ?_)
      · refine Fr.wr (xs := [⟨17196778369, 17196778369, 1, 0⟩]) rfl rfl ?_
        first | assumption | exact Fr.refl _
      · first | assumption | exact Fr.refl _
    try clear_value x5
    extract_lets -merge -underBinder +onlyGivenNames x6
    try clear_value x6
    refine Fr.iteh (fun _ => ?_) (fun _ => ?_)
    · refine Fr.step State.setSa_fr rfl rfl ?_
      first | assumption | exact Fr.refl _
    · refine Fr.step State.loadLut_fr rfl rfl ?_
      refine Fr.step State.setSa_fr rfl rfl ?_
      first | assumption | exact Fr.refl _

theorem State.saDiscard_fr {s} : Fr [⟨17196646533, 17196646533, 1, 0⟩, ⟨17196646401, 17196646401, 1, 0⟩] [.sa] s (State.saDiscard s) := by
  unfold State.saDiscard
  refine Fr.iteh (fun _ => ?_) (fun _ => ?_)
  · refine Fr.wr (xs := [⟨17196646533, 17196646533, 1, 0⟩]) rfl rfl ?_
    refine Fr.wr (xs := [⟨17196646401, 17196646401, 1, 0⟩]) rfl rfl ?_
    refine Fr.step State.setSa_fr rfl rfl ?_
    first | assumption | exact Fr.refl _
  · first | assumption | exact Fr.refl _

theorem State.cellHolds_fr {s} {a1} {a2} : Fr [] [.layer, .sa] s (State.cellHolds s a1 a2) := by
  unfold State.cellHolds
  extract_lets -merge -underBinder +onlyGivenNames x0
  try clear_value x0
  extract_lets -merge -underBinder +onlyGivenNames x1
  refine Fr.cut x1 ?_ (fun h1 => ?_)
  · unfold x1
    split
    · first | assumption | exact Fr.refl _
    · refine Fr.step State.setLayer_fr rfl rfl ?_
      first | assumption | exact Fr.refl _
  try clear_value x1
  split
  · first | assumption | exact Fr.refl _
  · refine Fr.iteh (fun _ => ?_) (fun _ => ?_)
    · refine Fr.step State.setSa_fr rfl rfl ?_
      first | assumption | exact Fr.refl _
    · first | assumption | exact Fr.refl _

theorem State.cellLost_fr {s} {a1} : Fr [] [.layer, .sa, .free] s (State.cellLost s a1) := by
  unfold State.cellLost
  extract_lets -merge -underBinder +onlyGivenNames x0
  try clear_value (e0 : x0 = _)
  refine Fr.step State.cellHolds_fr rfl rfl ?_
  refine Fr.set_freeCtr rfl ?_
  first | assumption | exact Fr.refl _

theorem State.wipeQuad_fr {s} {a1} : Fr [] [.sa, .layer] s (State.wipeQuad s a1) := by
  unfold State.wipeQuad
  refine Fr.iteh (fun _ => ?_) (fun _ => ?_)
  · refine Fr.step State.setSa_fr rfl rfl ?_
    refine Fr.step State.setLayer_fr rfl rfl ?_
    first | assumption | exact Fr.refl _
  · refine Fr.foldl' ?_ (fun t x hx ht => ?_)
    · first | assumption | exact Fr.refl _
    · refine Fr.step State.cellHolds_fr rfl rfl ?_
      first | assumption | exact Fr.refl _

theorem State.saHalt_fr {s} : Fr [⟨17196646528, 17196646528, 1, 0⟩, ⟨17196646400, 17196646400, 1, 0⟩, ⟨17196646533, 17196646533, 1, 0⟩, ⟨17196646534, 17196646534, 1, 0⟩, ⟨17205035139, 17205149827, 8192, 0⟩, ⟨17205035141, 17205149829, 8192, 0⟩, ⟨17205035140, 17205149828, 8192, 0⟩, ⟨17205035136, 17205149824, 8192, 0⟩, ⟨17181966336, 17181966336, 1, 0⟩, ⟨17181967360, 17181967360, 1, 0⟩, ⟨17186226581, 17186257301, 2048, 0⟩, ⟨17181966338, 17181966338, 1, 0⟩, ⟨17181966495, 17181966495, 1, 0⟩, ⟨17186168832, 17186169247, 1, 0⟩, ⟨17202937984, 17204379776, 131072, 0⟩] [.sa, .pwr, .flt, .evc, .tl] s (State.saHalt s) := by
  unfold State.saHalt
  extract_lets -merge -underBinder +onlyGivenNames x0
  extract_lets -merge -underBinder +onlyGivenNames x1
  refine Fr.cut x1 ?_ (fun h1 => ?_)
  · unfold x1
    refine Fr.wr (xs := [⟨17196646528, 17196646528, 1, 0⟩]) rfl rfl ?_
    refine Fr.wr (xs := [⟨17196646400, 17196646400, 1, 0⟩]) rfl rfl ?_
    refine Fr.step State.setSa_fr rfl rfl ?_
    first | assumption | exact Fr.refl _
  try clear_value x1
  extract_lets -merge -underBinder +onlyGivenNames x2
  refine Fr.cut x2 ?_ (fun h2 => ?_)
  · unfold x2
    refine Fr.wrB (xs := [⟨17196646533, 17196646533, 1, 0⟩]) rfl rfl ?_
    refine Fr.wr (xs := [⟨17196646534, 17196646534, 1, 0⟩]) rfl rfl ?_
    first | assumption | exact Fr.refl _
  try clear_value x2
  refine Fr.forFin ?_ (fun i t ht => ?_)
  · first | assumption | exact Fr.refl _
  · refine Fr.iteh (fun _ => ?_) (fun _ => ?_)
    · refine Fr.step State.tlSilence_fr rfl rfl ?_
      first | assumption | exact Fr.refl _
    · first | assumption | exact Fr.refl _

theorem State.saFenced_fr {s} : Fr ([⟨17196646533, 17196646533, 1, 0⟩, ⟨17181966336, 17181966336, 1, 0⟩, ⟨17181967360, 17181967360, 1, 0⟩, ⟨17186226581, 17186257301, 2048, 0⟩, ⟨17181966338, 17181966338, 1, 0⟩, ⟨17181966495, 17181966495, 1, 0⟩, ⟨17186168832, 17186169247, 1, 0⟩, ⟨17196647812, 17196647812, 1, 0⟩, ⟨17196647808, 17196647808, 1, 0⟩, ⟨17196646544, 17196646544, 1, 0⟩, ⟨17196646536, 17196646536, 1, 0⟩, ⟨17198753168, 17198767504, 2048, 0⟩, ⟨17198753152, 17198767488, 2048, 0⟩, ⟨17196646529, 17196646529, 1, 0⟩, ⟨17198753155, 17198767491, 2048, 0⟩, ⟨17198753154, 17198767490, 2048, 0⟩, ⟨17198753156, 17198767492, 2048, 0⟩, ⟨17198753280, 17198767616, 2048, 0⟩, ⟨17205035139, 17205149827, 8192, 0⟩, ⟨17205035141, 17205149829, 8192, 0⟩, ⟨17205035140, 17205149828, 8192, 0⟩, ⟨17205035136, 17205149824, 8192, 0⟩, ⟨17202937984, 17204379776, 131072, 0⟩, ⟨17211359376, 17211408272, 256, 0⟩, ⟨17207138304, 17207138975, 1, 0⟩, ⟨17207136256, 17207137664, 128, 0⟩, ⟨17188261632, 17188261632, 1, 0⟩, ⟨17181967232, 17181967263, 1, 0⟩, ⟨17198743816, 17198743816, 1, 0⟩, ⟨17198743808, 17198743808, 1, 0⟩] ++ [⟨17198743553, 17198743553, 1, 0⟩, ⟨17198743688, 17198743695, 1, 0⟩, ⟨17196646528, 17196646528, 1, 0⟩, ⟨17196646400, 17196646400, 1, 0⟩, ⟨17196646534, 17196646534, 1, 0⟩]) [.sa, .pwr, .flt, .evc, .layer, .tl, .free, .hlth, .cal] s (State.saFenced s) := by
  unfold State.saFenced
  split
  · first | assumption | exact Fr.refl _
  · refine Fr.iteh (fun _ => ?_) (fun _ => ?_)
    · first | assumption | exact Fr.refl _
    · refine Fr.iteh (fun _ => ?_) (fun _ => ?_)
      · refine Fr.iteh (fun _ => ?_) (fun _ => ?_)
        · refine Fr.wr (xs := [⟨17196646533, 17196646533, 1, 0⟩]) rfl rfl ?_
          refine Fr.step State.setSa_fr rfl rfl ?_
          first | assumption | exact Fr.refl _
        · refine Fr.step State.saSwitch_fr rfl rfl ?_
          first | assumption | exact Fr.refl _
      · refine Fr.iteh (fun _ => ?_) (fun _ => ?_)
        · refine Fr.wrB (xs := [⟨17196646533, 17196646533, 1, 0⟩]) rfl rfl ?_
          refine Fr.step State.setSa_fr rfl rfl ?_
          first | assumption | exact Fr.refl _
        · refine Fr.step State.saHalt_fr rfl rfl ?_
          first | assumption | exact Fr.refl _

theorem State.saFencedNow_fr {s} : Fr ([⟨17196646528, 17196646528, 1, 0⟩, ⟨17196646400, 17196646400, 1, 0⟩, ⟨17196646533, 17196646533, 1, 0⟩, ⟨17196646534, 17196646534, 1, 0⟩, ⟨17205035139, 17205149827, 8192, 0⟩, ⟨17205035141, 17205149829, 8192, 0⟩, ⟨17205035140, 17205149828, 8192, 0⟩, ⟨17205035136, 17205149824, 8192, 0⟩, ⟨17181966336, 17181966336, 1, 0⟩, ⟨17181967360, 17181967360, 1, 0⟩, ⟨17186226581, 17186257301, 2048, 0⟩, ⟨17181966338, 17181966338, 1, 0⟩, ⟨17181966495, 17181966495, 1, 0⟩, ⟨17186168832, 17186169247, 1, 0⟩, ⟨17202937984, 17204379776, 131072, 0⟩, ⟨17196647812, 17196647812, 1, 0⟩, ⟨17196647808, 17196647808, 1, 0⟩, ⟨17196646544, 17196646544, 1, 0⟩, ⟨17196646536, 17196646536, 1, 0⟩, ⟨17198753168, 17198767504, 2048, 0⟩, ⟨17198753152, 17198767488, 2048, 0⟩, ⟨17196646529, 17196646529, 1, 0⟩, ⟨17198753155, 17198767491, 2048, 0⟩, ⟨17198753154, 17198767490, 2048, 0⟩, ⟨17198753156, 17198767492, 2048, 0⟩, ⟨17198753280, 17198767616, 2048, 0⟩, ⟨17211359376, 17211408272, 256, 0⟩, ⟨17207138304, 17207138975, 1, 0⟩, ⟨17207136256, 17207137664, 128, 0⟩, ⟨17188261632, 17188261632, 1, 0⟩] ++ [⟨17181967232, 17181967263, 1, 0⟩, ⟨17198743816, 17198743816, 1, 0⟩, ⟨17198743808, 17198743808, 1, 0⟩, ⟨17198743553, 17198743553, 1, 0⟩, ⟨17198743688, 17198743695, 1, 0⟩]) [.sa, .pwr, .flt, .evc, .tl, .layer, .free, .hlth, .cal] s (State.saFencedNow s) := by
  unfold State.saFencedNow
  refine Fr.iteh (fun _ => ?_) (fun _ => ?_)
  · refine Fr.step State.saHalt_fr rfl rfl ?_
    first | assumption | exact Fr.refl _
  · split
    · first | assumption | exact Fr.refl _
    · refine Fr.iteh (fun _ => ?_) (fun _ => ?_)
      · refine Fr.step State.saSwitch_fr rfl rfl ?_
        first | assumption | exact Fr.refl _
      · refine Fr.step State.saHalt_fr rfl rfl ?_
        first | assumption | exact Fr.refl _

end Sys2Proof.Machine
end

