-- ==== Sys2Proof/Laws/TlFrame.lean ====
section
/-! SUPPORT. What each operation and command of Machine/Tl.lean changes at most: register blocks and zones of the state. -/

namespace Sys2Proof.Machine

theorem execTlEnable_fr {a0} {a1} {a2} {s} : FrRes [⟨17202937856, 17204379679, 131072, 31⟩, ⟨17202937995, 17204379787, 131072, 0⟩, ⟨17181966336, 17181966336, 1, 0⟩, ⟨17181967360, 17181967360, 1, 0⟩, ⟨17186226581, 17186257301, 2048, 0⟩, ⟨17181966338, 17181966338, 1, 0⟩, ⟨17181966495, 17181966495, 1, 0⟩, ⟨17186168832, 17186169247, 1, 0⟩, ⟨17188261632, 17188261632, 1, 0⟩, ⟨17181967232, 17181967263, 1, 0⟩, ⟨17205035139, 17205149827, 8192, 0⟩, ⟨17205035141, 17205149829, 8192, 0⟩, ⟨17205035140, 17205149828, 8192, 0⟩, ⟨17205035136, 17205149824, 8192, 0⟩, ⟨17202937984, 17204379776, 131072, 0⟩, ⟨17202937989, 17204379781, 131072, 0⟩, ⟨17202937987, 17204379779, 131072, 0⟩, ⟨17202941712, 17204383504, 131072, 0⟩] [.flt, .evc, .pwr, .pair, .tl] s (execTlEnable a0 a1 a2 s) := by
  unfold execTlEnable
  refine FrRes.next ?_
  refine busWrite_fr (x := ⟨17202937856, 17204379679, 131072, 31⟩) (Keys.word_intro (by first | omega | (unfold tlAddr; omega)) (by first | omega | (unfold tlAddr; omega)) (by first | omega | (unfold tlAddr; omega))) (fun u => State.werr_0x200B (by unfold tlAddr; omega)) rfl rfl ?_ (fun t ht => ?_)
  · first | assumption | exact Fr.refl _
  · refine Fr.iteh (fun _ => ?_) (fun _ => ?_)
    · refine Fr.iteh (fun _ => ?_) (fun _ => ?_)
      · first | assumption | exact Fr.refl _
      · refine Fr.step State.tlTrain_fr rfl rfl ?_
        refine Fr.step State.showLane_fr rfl rfl ?_
        refine Fr.wr (xs := [⟨17202937856, 17204379648, 131072, 0⟩]) (Reg.TL_CTRL_EN_key (by first | omega | (simp only [List.mem_range] at *; omega))) rfl ?_
        first | assumption | exact Fr.refl _
    · refine Fr.iteh (fun _ => ?_) (fun _ => ?_)
      · refine Fr.step (State.werr_0x200B (by unfold tlAddr; omega)) rfl rfl ?_
        first | assumption | exact Fr.refl _
      · refine Fr.iteh (fun _ => ?_) (fun _ => ?_)
        · first | assumption | exact Fr.refl _
        · refine Fr.step State.tlLeave_fr rfl rfl ?_
          refine Fr.wr (xs := [⟨17202937856, 17204379648, 131072, 0⟩]) (Reg.TL_CTRL_EN_key (by first | omega | (simp only [List.mem_range] at *; omega))) rfl ?_
          first | assumption | exact Fr.refl _

theorem execTlRetrain_fr {a0} {a1} {a2} {s} : FrRes [⟨17202937856, 17204379679, 131072, 31⟩, ⟨17202937995, 17204379787, 131072, 0⟩, ⟨17181966336, 17181966336, 1, 0⟩, ⟨17181967360, 17181967360, 1, 0⟩, ⟨17186226581, 17186257301, 2048, 0⟩, ⟨17181966338, 17181966338, 1, 0⟩, ⟨17181966495, 17181966495, 1, 0⟩, ⟨17186168832, 17186169247, 1, 0⟩, ⟨17188261632, 17188261632, 1, 0⟩, ⟨17181967232, 17181967263, 1, 0⟩, ⟨17205035139, 17205149827, 8192, 0⟩, ⟨17205035141, 17205149829, 8192, 0⟩, ⟨17205035140, 17205149828, 8192, 0⟩, ⟨17205035136, 17205149824, 8192, 0⟩, ⟨17202937984, 17204379776, 131072, 0⟩, ⟨17202937989, 17204379781, 131072, 0⟩, ⟨17202937987, 17204379779, 131072, 0⟩, ⟨17202941712, 17204383504, 131072, 0⟩] [.flt, .evc, .pwr, .pair, .tl] s (execTlRetrain a0 a1 a2 s) := by
  unfold execTlRetrain
  refine FrRes.next ?_
  refine busWrite_fr (x := ⟨17202937856, 17204379679, 131072, 31⟩) (Keys.word_intro (by first | omega | (unfold tlAddr; omega)) (by first | omega | (unfold tlAddr; omega)) (by first | omega | (unfold tlAddr; omega))) (fun u => State.werr_0x200B (by unfold tlAddr; omega)) rfl rfl ?_ (fun t ht => ?_)
  · first | assumption | exact Fr.refl _
  · refine Fr.iteh (fun _ => ?_) (fun _ => ?_)
    · first | assumption | exact Fr.refl _
    · refine Fr.step State.tlTrain_fr rfl rfl ?_
      refine Fr.step State.tlLeave_fr rfl rfl ?_
      refine Fr.step State.setPort_fr rfl rfl ?_
      first | assumption | exact Fr.refl _

theorem execTrainingCapsSend_fr {a0} {s} : FrRes [] [.lane, .tl] s (execTrainingCapsSend a0 s) := by
  unfold execTrainingCapsSend
  refine FrRes.next ?_
  refine Fr.iteh (fun _ => ?_) (fun _ => ?_)
  · refine Fr.step State.tlSend_fr rfl rfl ?_
    first | assumption | exact Fr.refl _
  · first | assumption | exact Fr.refl _

theorem State.tlDrop_fr {s} {a1} : Fr [⟨17202941456, 17204383248, 131072, 0⟩] [] s (State.tlDrop s a1) := by
  unfold State.tlDrop
  refine Fr.inc (xs := [⟨17202941456, 17204383248, 131072, 0⟩]) (Reg.TL_CNT0_DROP_key (by first | omega | (simp only [List.mem_range] at *; omega))) rfl ?_
  first | assumption | exact Fr.refl _

theorem State.showCaps_fr {s} {a1} {a2} : Fr [⟨17202939008, 17204380800, 131072, 0⟩, ⟨17202938896, 17204380688, 131072, 0⟩, ⟨17202938880, 17204380672, 131072, 0⟩, ⟨17202939264, 17204381056, 131072, 0⟩, ⟨17202939136, 17204380928, 131072, 0⟩, ⟨17202939024, 17204380816, 131072, 0⟩, ⟨17202937992, 17204379784, 131072, 0⟩, ⟨17202939392, 17204381184, 131072, 0⟩] [.tl] s (State.showCaps s a1 a2) := by
  unfold State.showCaps
  extract_lets -merge -underBinder +onlyGivenNames x0
  refine Fr.cut x0 ?_ (fun h0 => ?_)
  · unfold x0
    refine Fr.wr (xs := [⟨17202939008, 17204380800, 131072, 0⟩]) (Reg.TL_TILE_ID_VENDOR_key (by first | omega | (simp only [List.mem_range] at *; omega))) rfl ?_
    refine Fr.wr (xs := [⟨17202938896, 17204380688, 131072, 0⟩]) (Reg.TL_TILE_GEOM_HEIGHT_key (by first | omega | (simp only [List.mem_range] at *; omega))) rfl ?_
    refine Fr.wr (xs := [⟨17202938880, 17204380672, 131072, 0⟩]) (Reg.TL_TILE_GEOM_WIDTH_key (by first | omega | (simp only [List.mem_range] at *; omega))) rfl ?_
    first | assumption | exact Fr.refl _
  try clear_value x0
  extract_lets -merge -underBinder +onlyGivenNames x1
  refine Fr.cut x1 ?_ (fun h1 => ?_)
  · unfold x1
    refine Fr.wr (xs := [⟨17202939264, 17204381056, 131072, 0⟩]) (Reg.TL_TILE_TURN_PS_key (by first | omega | (simp only [List.mem_range] at *; omega))) rfl ?_
    refine Fr.wr (xs := [⟨17202939136, 17204380928, 131072, 0⟩]) (Reg.TL_TILE_LAT_PS_key (by first | omega | (simp only [List.mem_range] at *; omega))) rfl ?_
    refine Fr.wr (xs := [⟨17202939024, 17204380816, 131072, 0⟩]) (Reg.TL_TILE_ID_PRODUCT_key (by first | omega | (simp only [List.mem_range] at *; omega))) rfl ?_
    first | assumption | exact Fr.refl _
  try clear_value x1
  extract_lets -merge -underBinder +onlyGivenNames x2
  refine Fr.cut x2 ?_ (fun h2 => ?_)
  · unfold x2
    refine Fr.wr (xs := [⟨17202937992, 17204379784, 131072, 0⟩]) (Reg.TL_STATUS_HL_VALID_key (by first | omega | (simp only [List.mem_range] at *; omega))) rfl ?_
    refine Fr.wr (xs := [⟨17202939392, 17204381184, 131072, 0⟩]) (Reg.TL_HL_CRC_CRC_key (by first | omega | (simp only [List.mem_range] at *; omega))) rfl ?_
    first | assumption | exact Fr.refl _
  try clear_value x2
  refine Fr.step State.setPort_fr rfl rfl ?_
  first | assumption | exact Fr.refl _

theorem State.tlCheck_fr {s} {a1} {a2} : Fr [⟨17181966336, 17181966336, 1, 0⟩, ⟨17181967360, 17181967360, 1, 0⟩, ⟨17186226581, 17186257301, 2048, 0⟩, ⟨17181966338, 17181966338, 1, 0⟩, ⟨17181966495, 17181966495, 1, 0⟩, ⟨17186168832, 17186169247, 1, 0⟩, ⟨17202938112, 17204379904, 131072, 0⟩, ⟨17205035139, 17205149827, 8192, 0⟩, ⟨17205035141, 17205149829, 8192, 0⟩, ⟨17205035140, 17205149828, 8192, 0⟩, ⟨17205035136, 17205149824, 8192, 0⟩, ⟨17202937984, 17204379776, 131072, 0⟩, ⟨17202937987, 17204379779, 131072, 0⟩] [.pwr, .flt, .evc, .tl] s (State.tlCheck s a1 a2) := by
  unfold State.tlCheck
  extract_lets -merge -underBinder +onlyGivenNames x0
  try clear_value (e0 : x0 = _)
  refine Fr.iteh (fun _ => ?_) (fun _ => ?_)
  · refine Fr.step State.tlFail_fr rfl rfl ?_
    first | assumption | exact Fr.refl _
  · extract_lets -merge -underBinder +onlyGivenNames x1
    try clear_value (e1 : x1 = _)
    extract_lets -merge -underBinder +onlyGivenNames x2
    refine Fr.cut x2 ?_ (fun h2 => ?_)
    · unfold x2
      refine Fr.wr (xs := [⟨17202937987, 17204379779, 131072, 0⟩]) (Reg.TL_STATUS_VER_key (by first | omega | (simp only [List.mem_range] at *; omega))) rfl ?_
      first | assumption | exact Fr.refl _
    try clear_value x2
    refine Fr.iteh (fun _ => ?_) (fun _ => ?_)
    · extract_lets -merge -underBinder +onlyGivenNames x3
      refine Fr.cut x3 ?_ (fun h3 => ?_)
      · unfold x3
        refine Fr.step State.laneUnlock_fr rfl rfl ?_
        refine Fr.wr (xs := [⟨17205035139, 17205149827, 8192, 0⟩]) (Reg.LANE_STATUS_RATE_key (by first | omega | (simp only [List.mem_range] at *; omega))) rfl ?_
        first | assumption | exact Fr.refl _
      try clear_value x3
      refine Fr.step State.laneState_fr rfl rfl ?_
      refine Fr.step State.setPort_fr rfl rfl ?_
      first | assumption | exact Fr.refl _
    · refine Fr.step State.setPort_fr rfl rfl ?_
      first | assumption | exact Fr.refl _

theorem execCapsRx_fr {a0} {a1} {s} : FrRes [⟨17181966336, 17181966336, 1, 0⟩, ⟨17181967360, 17181967360, 1, 0⟩, ⟨17186226581, 17186257301, 2048, 0⟩, ⟨17181966338, 17181966338, 1, 0⟩, ⟨17181966495, 17181966495, 1, 0⟩, ⟨17186168832, 17186169247, 1, 0⟩, ⟨17202938112, 17204379904, 131072, 0⟩, ⟨17205035139, 17205149827, 8192, 0⟩, ⟨17205035141, 17205149829, 8192, 0⟩, ⟨17205035140, 17205149828, 8192, 0⟩, ⟨17205035136, 17205149824, 8192, 0⟩, ⟨17202937984, 17204379776, 131072, 0⟩, ⟨17202941456, 17204383248, 131072, 0⟩, ⟨17202937987, 17204379779, 131072, 0⟩, ⟨17202939008, 17204380800, 131072, 0⟩, ⟨17202938896, 17204380688, 131072, 0⟩, ⟨17202938880, 17204380672, 131072, 0⟩, ⟨17202939264, 17204381056, 131072, 0⟩, ⟨17202939136, 17204380928, 131072, 0⟩, ⟨17202939024, 17204380816, 131072, 0⟩, ⟨17202937992, 17204379784, 131072, 0⟩, ⟨17202939392, 17204381184, 131072, 0⟩] [.pwr, .flt, .evc, .tl] s (execCapsRx a0 a1 s) := by
  unfold execCapsRx
  refine FrRes.next ?_
  extract_lets -merge -underBinder +onlyGivenNames x0
  try clear_value x0
  refine Fr.iteh (fun _ => ?_) (fun _ => ?_)
  · first | assumption | exact Fr.refl _
  · split
    · refine Fr.iteh (fun _ => ?_) (fun _ => ?_)
      · refine Fr.step State.tlFail_fr rfl rfl ?_
        refine Fr.step State.tlDrop_fr rfl rfl ?_
        first | assumption | exact Fr.refl _
      · refine Fr.step State.tlDrop_fr rfl rfl ?_
        first | assumption | exact Fr.refl _
    · refine Fr.iteh (fun _ => ?_) (fun _ => ?_)
      · refine Fr.step State.tlCheck_fr rfl rfl ?_
        refine Fr.step State.showCaps_fr rfl rfl ?_
        first | assumption | exact Fr.refl _
      · refine Fr.iteh (fun _ => ?_) (fun _ => ?_)
        · refine Fr.step State.tlLost_fr rfl rfl ?_
          refine Fr.step State.showCaps_fr rfl rfl ?_
          first | assumption | exact Fr.refl _
        · refine Fr.iteh (fun _ => ?_) (fun _ => ?_)
          · refine Fr.step State.showCaps_fr rfl rfl ?_
            first | assumption | exact Fr.refl _
          · first | assumption | exact Fr.refl _

theorem execCapsTimeout_fr {a0} {s} : FrRes [⟨17181966336, 17181966336, 1, 0⟩, ⟨17181967360, 17181967360, 1, 0⟩, ⟨17186226581, 17186257301, 2048, 0⟩, ⟨17181966338, 17181966338, 1, 0⟩, ⟨17181966495, 17181966495, 1, 0⟩, ⟨17186168832, 17186169247, 1, 0⟩, ⟨17202938112, 17204379904, 131072, 0⟩, ⟨17205035139, 17205149827, 8192, 0⟩, ⟨17205035141, 17205149829, 8192, 0⟩, ⟨17205035140, 17205149828, 8192, 0⟩, ⟨17205035136, 17205149824, 8192, 0⟩, ⟨17202937984, 17204379776, 131072, 0⟩] [.pwr, .flt, .evc, .tl] s (execCapsTimeout a0 s) := by
  unfold execCapsTimeout
  refine FrRes.next ?_
  refine Fr.iteh (fun _ => ?_) (fun _ => ?_)
  · refine Fr.step State.tlFail_fr rfl rfl ?_
    first | assumption | exact Fr.refl _
  · first | assumption | exact Fr.refl _

theorem execRateRelock_fr {a0} {a1} {s} : FrRes [⟨17205035280, 17205149968, 8192, 0⟩, ⟨17205035272, 17205149960, 8192, 0⟩, ⟨17205035264, 17205149952, 8192, 0⟩, ⟨17205035141, 17205149829, 8192, 0⟩, ⟨17205035140, 17205149828, 8192, 0⟩, ⟨17202937989, 17204379781, 131072, 0⟩, ⟨17205035136, 17205149824, 8192, 0⟩, ⟨17181966336, 17181966336, 1, 0⟩, ⟨17181967360, 17181967360, 1, 0⟩, ⟨17186226581, 17186257301, 2048, 0⟩, ⟨17181966338, 17181966338, 1, 0⟩, ⟨17181966495, 17181966495, 1, 0⟩, ⟨17186168832, 17186169247, 1, 0⟩, ⟨17205035016, 17205149704, 8192, 0⟩, ⟨17205035139, 17205149827, 8192, 0⟩, ⟨17202938112, 17204379904, 131072, 0⟩] [.pwr, .flt, .evc, .tl] s (execRateRelock a0 a1 s) := by
  unfold execRateRelock
  refine FrRes.next ?_
  refine Fr.iteh (fun _ => ?_) (fun _ => ?_)
  · first | assumption | exact Fr.refl _
  · extract_lets -merge -underBinder +onlyGivenNames x0
    refine Fr.cut x0 ?_ (fun h0 => ?_)
    · unfold x0
      split
      · refine Fr.step State.showEye_fr rfl rfl ?_
        first | assumption | exact Fr.refl _
      · first | assumption | exact Fr.refl _
    try clear_value x0
    refine Fr.iteh (fun _ => ?_) (fun _ => ?_)
    · extract_lets -merge -underBinder +onlyGivenNames x1
      refine Fr.cut x1 ?_ (fun h1 => ?_)
      · unfold x1
        refine Fr.wr (xs := [⟨17205035141, 17205149829, 8192, 0⟩]) (Reg.LANE_STATUS_BLOCK_LOCK_key (by first | omega | (simp only [List.mem_range] at *; omega))) rfl ?_
        refine Fr.wr (xs := [⟨17205035140, 17205149828, 8192, 0⟩]) (Reg.LANE_STATUS_CDR_LOCK_key (by first | omega | (simp only [List.mem_range] at *; omega))) rfl ?_
        refine Fr.wr (xs := [⟨17202937989, 17204379781, 131072, 0⟩]) (Reg.TL_STATUS_RATE_key (by first | omega | (simp only [List.mem_range] at *; omega))) rfl ?_
        first | assumption | exact Fr.refl _
      try clear_value x1
      refine Fr.step State.laneState_fr rfl rfl ?_
      refine Fr.wr (xs := [⟨17205035016, 17205149704, 8192, 0⟩]) (Reg.LANE_CTRL_ADAPT_key (by first | omega | (simp only [List.mem_range] at *; omega))) rfl ?_
      refine Fr.step State.setPort_fr rfl rfl ?_
      first | assumption | exact Fr.refl _
    · extract_lets -merge -underBinder +onlyGivenNames x2
      refine Fr.cut x2 ?_ (fun h2 => ?_)
      · unfold x2
        refine Fr.wr (xs := [⟨17205035139, 17205149827, 8192, 0⟩]) (Reg.LANE_STATUS_RATE_key (by first | omega | (simp only [List.mem_range] at *; omega))) rfl ?_
        refine Fr.step State.fire_fr rfl rfl ?_
        refine Fr.wr (xs := [⟨17202938112, 17204379904, 131072, 0⟩]) (Reg.TL_TRAIN_ERR_CODE_key (by first | omega | (simp only [List.mem_range] at *; omega))) rfl ?_
        first | assumption | exact Fr.refl _
      try clear_value x2
      extract_lets -merge -underBinder +onlyGivenNames x3
      refine Fr.cut x3 ?_ (fun h3 => ?_)
      · unfold x3
        refine Fr.step State.laneUnlock_fr rfl rfl ?_
        first | assumption | exact Fr.refl _
      try clear_value x3
      refine Fr.step State.laneState_fr rfl rfl ?_
      refine Fr.step State.setPort_fr rfl rfl ?_
      first | assumption | exact Fr.refl _

theorem State.tlProbe_fr {s} {a1} {a2} : Fr [⟨17202938752, 17204380544, 131072, 0⟩] [.lane, .tl] s (State.tlProbe s a1 a2) := by
  unfold State.tlProbe
  extract_lets -merge -underBinder +onlyGivenNames x0
  refine Fr.cut x0 ?_ (fun h0 => ?_)
  · unfold x0
    refine Fr.foldl' ?_ (fun t x hx ht => ?_)
    · first | assumption | exact Fr.refl _
    · refine Fr.step State.tlSend_fr rfl rfl ?_
      first | assumption | exact Fr.refl _
  try clear_value x0
  refine Fr.wr (xs := [⟨17202938752, 17204380544, 131072, 0⟩]) (Reg.TL_RTT_RT_key (by first | omega | (simp only [List.mem_range] at *; omega))) rfl ?_
  first | assumption | exact Fr.refl _

theorem execLatencyProbeSet_fr {a0} {a1} {s} : FrRes [⟨17202938752, 17204380544, 131072, 0⟩, ⟨17202938496, 17204380288, 131072, 0⟩, ⟨17181966336, 17181966336, 1, 0⟩, ⟨17181967360, 17181967360, 1, 0⟩, ⟨17186226581, 17186257301, 2048, 0⟩, ⟨17181966338, 17181966338, 1, 0⟩, ⟨17181966495, 17181966495, 1, 0⟩, ⟨17186168832, 17186169247, 1, 0⟩, ⟨17202938112, 17204379904, 131072, 0⟩, ⟨17205035139, 17205149827, 8192, 0⟩, ⟨17205035141, 17205149829, 8192, 0⟩, ⟨17205035140, 17205149828, 8192, 0⟩, ⟨17205035136, 17205149824, 8192, 0⟩, ⟨17202937984, 17204379776, 131072, 0⟩] [.lane, .tl, .pwr, .flt, .evc] s (execLatencyProbeSet a0 a1 s) := by
  unfold execLatencyProbeSet
  refine FrRes.next ?_
  refine Fr.iteh (fun _ => ?_) (fun _ => ?_)
  · first | assumption | exact Fr.refl _
  · extract_lets -merge -underBinder +onlyGivenNames x0
    refine Fr.cut x0 ?_ (fun h0 => ?_)
    · unfold x0
      refine Fr.step State.tlProbe_fr rfl rfl ?_
      first | assumption | exact Fr.refl _
    try clear_value x0
    extract_lets -merge -underBinder +onlyGivenNames x1
    try clear_value (e1 : x1 = _)
    extract_lets -merge -underBinder +onlyGivenNames x2
    refine Fr.cut x2 ?_ (fun h2 => ?_)
    · unfold x2
      refine Fr.wr (xs := [⟨17202938496, 17204380288, 131072, 0⟩]) (Reg.TL_LATDLY_DK_key (by first | omega | (simp only [List.mem_range] at *; omega))) rfl ?_
      first | assumption | exact Fr.refl _
    try clear_value x2
    refine Fr.iteh (fun _ => ?_) (fun _ => ?_)
    · refine Fr.step State.tlFail_fr rfl rfl ?_
      first | assumption | exact Fr.refl _
    · refine Fr.step State.tlConfig_fr rfl rfl ?_
      refine Fr.step State.setPort_fr rfl rfl ?_
      first | assumption | exact Fr.refl _

theorem execPeriodicProbe_fr {a0} {a1} {s} : FrRes [⟨17202938752, 17204380544, 131072, 0⟩] [.lane, .tl] s (execPeriodicProbe a0 a1 s) := by
  unfold execPeriodicProbe
  refine FrRes.next ?_
  refine Fr.iteh (fun _ => ?_) (fun _ => ?_)
  · refine Fr.step State.tlProbe_fr rfl rfl ?_
    first | assumption | exact Fr.refl _
  · first | assumption | exact Fr.refl _

theorem execConfigOkTimeout_fr {a0} {s} : FrRes [⟨17181966336, 17181966336, 1, 0⟩, ⟨17181967360, 17181967360, 1, 0⟩, ⟨17186226581, 17186257301, 2048, 0⟩, ⟨17181966338, 17181966338, 1, 0⟩, ⟨17181966495, 17181966495, 1, 0⟩, ⟨17186168832, 17186169247, 1, 0⟩, ⟨17202938112, 17204379904, 131072, 0⟩, ⟨17205035139, 17205149827, 8192, 0⟩, ⟨17205035141, 17205149829, 8192, 0⟩, ⟨17205035140, 17205149828, 8192, 0⟩, ⟨17205035136, 17205149824, 8192, 0⟩, ⟨17202937984, 17204379776, 131072, 0⟩] [.pwr, .flt, .evc, .tl] s (execConfigOkTimeout a0 s) := by
  unfold execConfigOkTimeout
  refine FrRes.next ?_
  refine Fr.iteh (fun _ => ?_) (fun _ => ?_)
  · refine Fr.step State.tlFail_fr rfl rfl ?_
    first | assumption | exact Fr.refl _
  · first | assumption | exact Fr.refl _

theorem execTlClaim_fr {a0} {a1} {a2} {s} : FrRes [⟨17202937856, 17204379679, 131072, 31⟩, ⟨17202937995, 17204379787, 131072, 0⟩, ⟨17181966336, 17181966336, 1, 0⟩, ⟨17181967360, 17181967360, 1, 0⟩, ⟨17186226581, 17186257301, 2048, 0⟩, ⟨17181966338, 17181966338, 1, 0⟩, ⟨17181966495, 17181966495, 1, 0⟩, ⟨17186168832, 17186169247, 1, 0⟩, ⟨17188261632, 17188261632, 1, 0⟩, ⟨17181967232, 17181967263, 1, 0⟩] [.flt, .evc, .pwr, .pair, .lane, .tl] s (execTlClaim a0 a1 a2 s) := by
  unfold execTlClaim
  refine FrRes.next ?_
  refine busWrite_fr (x := ⟨17202937856, 17204379679, 131072, 31⟩) (Keys.word_intro (by first | omega | (unfold tlAddr; omega)) (by first | omega | (unfold tlAddr; omega)) (by first | omega | (unfold tlAddr; omega))) (fun u => State.werr_0x200B (by unfold tlAddr; omega)) rfl rfl ?_ (fun t ht => ?_)
  · first | assumption | exact Fr.refl _
  · refine Fr.iteh (fun _ => ?_) (fun _ => ?_)
    · refine Fr.step State.tlClaim_fr rfl rfl ?_
      first | assumption | exact Fr.refl _
    · first | assumption | exact Fr.refl _

theorem execTlFence_fr {a0} {a1} {a2} {s} : FrRes [⟨17202937856, 17204379679, 131072, 31⟩, ⟨17202937995, 17204379787, 131072, 0⟩, ⟨17181966336, 17181966336, 1, 0⟩, ⟨17181967360, 17181967360, 1, 0⟩, ⟨17186226581, 17186257301, 2048, 0⟩, ⟨17181966338, 17181966338, 1, 0⟩, ⟨17181966495, 17181966495, 1, 0⟩, ⟨17186168832, 17186169247, 1, 0⟩, ⟨17188261632, 17188261632, 1, 0⟩, ⟨17181967232, 17181967263, 1, 0⟩, ⟨17205035139, 17205149827, 8192, 0⟩, ⟨17205035141, 17205149829, 8192, 0⟩, ⟨17205035140, 17205149828, 8192, 0⟩, ⟨17205035136, 17205149824, 8192, 0⟩, ⟨17202937984, 17204379776, 131072, 0⟩, ⟨17202937993, 17204379785, 131072, 0⟩] [.flt, .evc, .pwr, .pair, .tl] s (execTlFence a0 a1 a2 s) := by
  unfold execTlFence
  refine FrRes.next ?_
  refine busWrite_fr (x := ⟨17202937856, 17204379679, 131072, 31⟩) (Keys.word_intro (by first | omega | (unfold tlAddr; omega)) (by first | omega | (unfold tlAddr; omega)) (by first | omega | (unfold tlAddr; omega))) (fun u => State.werr_0x200B (by unfold tlAddr; omega)) rfl rfl ?_ (fun t ht => ?_)
  · first | assumption | exact Fr.refl _
  · refine Fr.iteh (fun _ => ?_) (fun _ => ?_)
    · refine Fr.step State.tlFence_fr rfl rfl ?_
      first | assumption | exact Fr.refl _
    · first | assumption | exact Fr.refl _

theorem State.fbSend_fr {s} {a1} {a2} : Fr [] [.lane, .tl] s (State.fbSend s a1 a2) := by
  unfold State.fbSend
  refine Fr.iteh (fun _ => ?_) (fun _ => ?_)
  · first | assumption | exact Fr.refl _
  · refine Fr.step State.tlSend_fr rfl rfl ?_
    first | assumption | exact Fr.refl _

theorem execFbStart_fr {a0} {a1} {a2} {s} : FrRes [⟨17202937856, 17204379679, 131072, 31⟩, ⟨17202937995, 17204379787, 131072, 0⟩, ⟨17181966336, 17181966336, 1, 0⟩, ⟨17181967360, 17181967360, 1, 0⟩, ⟨17186226581, 17186257301, 2048, 0⟩, ⟨17181966338, 17181966338, 1, 0⟩, ⟨17181966495, 17181966495, 1, 0⟩, ⟨17186168832, 17186169247, 1, 0⟩, ⟨17188261632, 17188261632, 1, 0⟩, ⟨17181967232, 17181967263, 1, 0⟩, ⟨17202937999, 17204379791, 131072, 0⟩] [.flt, .evc, .pwr, .pair, .lane, .tl] s (execFbStart a0 a1 a2 s) := by
  unfold execFbStart
  refine FrRes.next ?_
  refine busWrite_fr (x := ⟨17202937856, 17204379679, 131072, 31⟩) (Keys.word_intro (by first | omega | (unfold tlAddr; omega)) (by first | omega | (unfold tlAddr; omega)) (by first | omega | (unfold tlAddr; omega))) (fun u => State.werr_0x200B (by unfold tlAddr; omega)) rfl rfl ?_ (fun t ht => ?_)
  · first | assumption | exact Fr.refl _
  · refine Fr.iteh (fun _ => ?_) (fun _ => ?_)
    · first | assumption | exact Fr.refl _
    · refine Fr.iteh (fun _ => ?_) (fun _ => ?_)
      · first | assumption | exact Fr.refl _
      · refine Fr.iteh (fun _ => ?_) (fun _ => ?_)
        · refine Fr.step (State.werr_0x200B (by unfold tlAddr; omega)) rfl rfl ?_
          first | assumption | exact Fr.refl _
        · extract_lets -merge -underBinder +onlyGivenNames x0
          try clear_value (e0 : x0 = _)
          extract_lets -merge -underBinder +onlyGivenNames x1
          try clear_value (e1 : x1 = _)
          extract_lets -merge -underBinder +onlyGivenNames x2
          try clear_value (e2 : x2 = _)
          split
          · refine Fr.step State.fire_fr rfl rfl ?_
            refine Fr.wr (xs := [⟨17202937999, 17204379791, 131072, 0⟩]) (Reg.TL_STATUS_FB_ERR_key (by first | omega | (simp only [List.mem_range] at *; omega))) rfl ?_
            refine Fr.step State.readErr_fr rfl rfl ?_
            first | assumption | exact Fr.refl _
          · extract_lets -merge -underBinder +onlyGivenNames x3
            try clear_value x3
            extract_lets -merge -underBinder +onlyGivenNames x4
            try clear_value x4
            extract_lets -merge -underBinder +onlyGivenNames x5
            try clear_value (e5 : x5 = _)
            extract_lets -merge -underBinder +onlyGivenNames x6
            refine Fr.cut x6 ?_ (fun h6 => ?_)
            · unfold x6
              refine Fr.step State.fbSend_fr rfl rfl ?_
              first | assumption | exact Fr.refl _
            try clear_value x6
            extract_lets -merge -underBinder +onlyGivenNames x7
            refine Fr.cut x7 ?_ (fun h7 => ?_)
            · unfold x7
              refine Fr.foldl' ?_ (fun t x hx ht => ?_)
              · first | assumption | exact Fr.refl _
              · refine Fr.step State.fbSend_fr rfl rfl ?_
                first | assumption | exact Fr.refl _
            try clear_value x7
            extract_lets -merge -underBinder +onlyGivenNames x8
            refine Fr.cut x8 ?_ (fun h8 => ?_)
            · unfold x8
              refine Fr.step State.fbSend_fr rfl rfl ?_
              first | assumption | exact Fr.refl _
            try clear_value x8
            refine Fr.wr (xs := [⟨17202937863, 17204379655, 131072, 0⟩]) (Reg.TL_CTRL_FB_START_key (by first | omega | (simp only [List.mem_range] at *; omega))) rfl ?_
            refine Fr.step State.setPort_fr rfl rfl ?_
            first | assumption | exact Fr.refl _

theorem State.fbEnd_fr {s} {a1} {a2} : Fr [⟨17181966336, 17181966336, 1, 0⟩, ⟨17181967360, 17181967360, 1, 0⟩, ⟨17186226581, 17186257301, 2048, 0⟩, ⟨17181966338, 17181966338, 1, 0⟩, ⟨17181966495, 17181966495, 1, 0⟩, ⟨17186168832, 17186169247, 1, 0⟩, ⟨17202937998, 17204379790, 131072, 0⟩, ⟨17202937999, 17204379791, 131072, 0⟩, ⟨17202937863, 17204379655, 131072, 0⟩] [.tl, .pwr, .flt, .evc] s (State.fbEnd s a1 a2) := by
  unfold State.fbEnd
  extract_lets -merge -underBinder +onlyGivenNames x0
  extract_lets -merge -underBinder +onlyGivenNames x1
  refine Fr.cut x1 ?_ (fun h1 => ?_)
  · unfold x1
    refine Fr.step State.setPort_fr rfl rfl ?_
    first | assumption | exact Fr.refl _
  try clear_value x1
  refine Fr.step State.fire_fr rfl rfl ?_
  refine Fr.wr (xs := [⟨17202937998, 17204379790, 131072, 0⟩, ⟨17202937999, 17204379791, 131072, 0⟩]) (Keys.any_ite (xs := [⟨17202937998, 17204379790, 131072, 0⟩]) (ys := [⟨17202937999, 17204379791, 131072, 0⟩]) (Reg.TL_STATUS_FB_DONE_key (by first | omega | (simp only [List.mem_range] at *; omega))) (Reg.TL_STATUS_FB_ERR_key (by first | omega | (simp only [List.mem_range] at *; omega)))) rfl ?_
  refine Fr.wr (xs := [⟨17202937863, 17204379655, 131072, 0⟩]) (Reg.TL_CTRL_FB_START_key (by first | omega | (simp only [List.mem_range] at *; omega))) rfl ?_
  first | assumption | exact Fr.refl _

theorem execFbReplyRx_fr {a0} {a1} {s} : FrRes [⟨17202941456, 17204383248, 131072, 0⟩, ⟨17202939392, 17204381184, 131072, 0⟩, ⟨17181966336, 17181966336, 1, 0⟩, ⟨17181967360, 17181967360, 1, 0⟩, ⟨17186226581, 17186257301, 2048, 0⟩, ⟨17181966338, 17181966338, 1, 0⟩, ⟨17181966495, 17181966495, 1, 0⟩, ⟨17186168832, 17186169247, 1, 0⟩, ⟨17202937998, 17204379790, 131072, 0⟩, ⟨17202937999, 17204379791, 131072, 0⟩, ⟨17202937863, 17204379655, 131072, 0⟩] [.tl, .pwr, .flt, .evc] s (execFbReplyRx a0 a1 s) := by
  unfold execFbReplyRx
  refine FrRes.next ?_
  refine Fr.iteh (fun _ => ?_) (fun _ => ?_)
  · first | assumption | exact Fr.refl _
  · split
    · refine Fr.step State.tlDrop_fr rfl rfl ?_
      first | assumption | exact Fr.refl _
    · extract_lets -merge -underBinder +onlyGivenNames x0
      try clear_value (e0 : x0 = _)
      refine Fr.iteh (fun _ => ?_) (fun _ => ?_)
      · refine Fr.step State.tlDrop_fr rfl rfl ?_
        first | assumption | exact Fr.refl _
      · refine Fr.iteh (fun _ => ?_) (fun _ => ?_)
        · first | assumption | exact Fr.refl _
        · extract_lets -merge -underBinder +onlyGivenNames x1
          refine Fr.cut x1 ?_ (fun h1 => ?_)
          · unfold x1
            refine Fr.iteh (fun _ => ?_) (fun _ => ?_)
            · refine Fr.wr (xs := [⟨17202939392, 17204381184, 131072, 0⟩]) (Reg.TL_HL_CRC_CRC_key (by first | omega | (simp only [List.mem_range] at *; omega))) rfl ?_
              first | assumption | exact Fr.refl _
            · first | assumption | exact Fr.refl _
          try clear_value x1
          split
          · first | assumption | exact Fr.refl _
          · refine Fr.step State.fbEnd_fr rfl rfl ?_
            first | assumption | exact Fr.refl _

theorem execFbTimeout_fr {a0} {s} : FrRes [⟨17181966336, 17181966336, 1, 0⟩, ⟨17181967360, 17181967360, 1, 0⟩, ⟨17186226581, 17186257301, 2048, 0⟩, ⟨17181966338, 17181966338, 1, 0⟩, ⟨17181966495, 17181966495, 1, 0⟩, ⟨17186168832, 17186169247, 1, 0⟩, ⟨17202937998, 17204379790, 131072, 0⟩, ⟨17202937999, 17204379791, 131072, 0⟩, ⟨17202937863, 17204379655, 131072, 0⟩] [.tl, .pwr, .flt, .evc] s (execFbTimeout a0 s) := by
  unfold execFbTimeout
  refine FrRes.next ?_
  refine Fr.iteh (fun _ => ?_) (fun _ => ?_)
  · refine Fr.step State.fbEnd_fr rfl rfl ?_
    first | assumption | exact Fr.refl _
  · first | assumption | exact Fr.refl _

theorem State.showHealth_fr {s} {a1} {a2} : Fr [⟨17202940040, 17204381832, 131072, 0⟩, ⟨17202940032, 17204381824, 131072, 0⟩, ⟨17202939904, 17204381696, 131072, 0⟩, ⟨17202940048, 17204381840, 131072, 0⟩, ⟨17202940416, 17204382616, 131072, 408⟩, ⟨17202940928, 17204383120, 131072, 400⟩, ⟨17202937992, 17204379784, 131072, 0⟩, ⟨17202937991, 17204379783, 131072, 0⟩, ⟨17202937990, 17204379782, 131072, 0⟩, ⟨17202941568, 17204383360, 131072, 0⟩] [.tl] s (State.showHealth s a1 a2) := by
  unfold State.showHealth
  extract_lets -merge -underBinder +onlyGivenNames x0
  try clear_value (e0 : x0 = _)
  extract_lets -merge -underBinder +onlyGivenNames x1
  refine Fr.cut x1 ?_ (fun h1 => ?_)
  · unfold x1
    refine Fr.wr (xs := [⟨17202940040, 17204381832, 131072, 0⟩]) (Reg.TL_HLTH_STAT_CAP_Z_key (by first | omega | (simp only [List.mem_range] at *; omega))) rfl ?_
    refine Fr.wr (xs := [⟨17202940032, 17204381824, 131072, 0⟩]) (Reg.TL_HLTH_STAT_STATUS_key (by first | omega | (simp only [List.mem_range] at *; omega))) rfl ?_
    refine Fr.wr (xs := [⟨17202939904, 17204381696, 131072, 0⟩]) (Reg.TL_HLTH_FRAME_FRAME_NO_key (by first | omega | (simp only [List.mem_range] at *; omega))) rfl ?_
    first | assumption | exact Fr.refl _
  try clear_value x1
  extract_lets -merge -underBinder +onlyGivenNames x2
  refine Fr.cut x2 ?_ (fun h2 => ?_)
  · unfold x2
    refine Fr.wr (xs := [⟨17202940048, 17204381840, 131072, 0⟩]) (Reg.TL_HLTH_STAT_CAP_SEQ_key (by first | omega | (simp only [List.mem_range] at *; omega))) rfl ?_
    first | assumption | exact Fr.refl _
  try clear_value x2
  extract_lets -merge -underBinder +onlyGivenNames x3
  refine Fr.cut x3 ?_ (fun h3 => ?_)
  · unfold x3
    refine Fr.foldl' ?_ (fun t x hx ht => ?_)
    · first | assumption | exact Fr.refl _
    · refine Fr.wr (xs := [⟨17202940416, 17204382616, 131072, 408⟩]) (Reg.TL_HEADROOM_key (by first | omega | (simp only [List.mem_range] at *; omega)) (by first | omega | (simp only [List.mem_range] at *; omega))) rfl ?_
      first | assumption | exact Fr.refl _
  try clear_value x3
  extract_lets -merge -underBinder +onlyGivenNames x4
  refine Fr.cut x4 ?_ (fun h4 => ?_)
  · unfold x4
    refine Fr.foldl' ?_ (fun t x hx ht => ?_)
    · first | assumption | exact Fr.refl _
    · refine Fr.wr (xs := [⟨17202940928, 17204383120, 131072, 400⟩]) (Reg.TL_TEMP_key (by first | omega | (simp only [List.mem_range] at *; omega)) (by first | omega | (simp only [List.mem_range] at *; omega))) rfl ?_
      first | assumption | exact Fr.refl _
  try clear_value x4
  extract_lets -merge -underBinder +onlyGivenNames x5
  refine Fr.cut x5 ?_ (fun h5 => ?_)
  · unfold x5
    refine Fr.wr (xs := [⟨17202937992, 17204379784, 131072, 0⟩]) (Reg.TL_STATUS_HL_VALID_key (by first | omega | (simp only [List.mem_range] at *; omega))) rfl ?_
    refine Fr.wr (xs := [⟨17202937991, 17204379783, 131072, 0⟩]) (Reg.TL_STATUS_HOUSE_key (by first | omega | (simp only [List.mem_range] at *; omega))) rfl ?_
    first | assumption | exact Fr.refl _
  try clear_value x5
  extract_lets -merge -underBinder +onlyGivenNames x6
  refine Fr.cut x6 ?_ (fun h6 => ?_)
  · unfold x6
    refine Fr.wrB (xs := [⟨17202937990, 17204379782, 131072, 0⟩]) (Reg.TL_STATUS_OWNED_key (by first | omega | (simp only [List.mem_range] at *; omega))) rfl ?_
    first | assumption | exact Fr.refl _
  try clear_value x6
  extract_lets -merge -underBinder +onlyGivenNames x7
  refine Fr.cut x7 ?_ (fun h7 => ?_)
  · unfold x7
    refine Fr.iteh (fun _ => ?_) (fun _ => ?_)
    · refine Fr.inc (xs := [⟨17202941568, 17204383360, 131072, 0⟩]) (Reg.TL_CNT1_LATCH_MISS_key (by first | omega | (simp only [List.mem_range] at *; omega))) rfl ?_
      first | assumption | exact Fr.refl _
    · first | assumption | exact Fr.refl _
  try clear_value x7
  refine Fr.step State.setPort_fr rfl rfl ?_
  first | assumption | exact Fr.refl _

theorem State.takeCapAck_fr {s} {a1} {a2} : Fr [⟨17202941840, 17204383632, 131072, 0⟩] [.tl] s (State.takeCapAck s a1 a2) := by
  unfold State.takeCapAck
  extract_lets -merge -underBinder +onlyGivenNames x0
  refine Fr.cut x0 ?_ (fun h0 => ?_)
  · unfold x0
    refine Fr.wr (xs := [⟨17202941840, 17204383632, 131072, 0⟩]) (Reg.TL_CAP_ACK_SEQ_key (by first | omega | (simp only [List.mem_range] at *; omega))) rfl ?_
    first | assumption | exact Fr.refl _
  try clear_value x0
  refine Fr.iteh (fun _ => ?_) (fun _ => ?_)
  · refine Fr.step State.setPort_fr rfl rfl ?_
    first | assumption | exact Fr.refl _
  · first | assumption | exact Fr.refl _

theorem State.echoError_fr {s} {a1} : Fr [⟨17181966336, 17181966336, 1, 0⟩, ⟨17181967360, 17181967360, 1, 0⟩, ⟨17186226581, 17186257301, 2048, 0⟩, ⟨17181966338, 17181966338, 1, 0⟩, ⟨17181966495, 17181966495, 1, 0⟩, ⟨17186168832, 17186169247, 1, 0⟩, ⟨17202937996, 17204379788, 131072, 0⟩] [.flt, .pwr, .evc] s (State.echoError s a1) := by
  unfold State.echoError
  refine Fr.step State.raise_fr rfl rfl ?_
  refine Fr.step State.fire_fr rfl rfl ?_
  refine Fr.wr (xs := [⟨17202937996, 17204379788, 131072, 0⟩]) (Reg.TL_STATUS_ECHO_ERR_key (by first | omega | (simp only [List.mem_range] at *; omega))) rfl ?_
  first | assumption | exact Fr.refl _

theorem State.takeEcho_fr {s} {a1} {a2} {a3} : Fr [⟨17181966336, 17181966336, 1, 0⟩, ⟨17181967360, 17181967360, 1, 0⟩, ⟨17186226581, 17186257301, 2048, 0⟩, ⟨17181966338, 17181966338, 1, 0⟩, ⟨17181966495, 17181966495, 1, 0⟩, ⟨17186168832, 17186169247, 1, 0⟩, ⟨17202937996, 17204379788, 131072, 0⟩] [.tl, .flt, .pwr, .evc] s (State.takeEcho s a1 a2 a3) := by
  unfold State.takeEcho
  refine Fr.iteh (fun _ => ?_) (fun _ => ?_)
  · first | assumption | exact Fr.refl _
  · split
    · first | assumption | exact Fr.refl _
    · extract_lets -merge -underBinder +onlyGivenNames x0
      extract_lets -merge -underBinder +onlyGivenNames x1
      refine Fr.cut x1 ?_ (fun h1 => ?_)
      · unfold x1
        refine Fr.iteh (fun _ => ?_) (fun _ => ?_)
        · refine Fr.step State.setPort_fr rfl rfl ?_
          first | assumption | exact Fr.refl _
        · first | assumption | exact Fr.refl _
      try clear_value x1
      refine Fr.iteh (fun _ => ?_) (fun _ => ?_)
      · first | assumption | exact Fr.refl _
      · refine Fr.step State.echoError_fr rfl rfl ?_
        first | assumption | exact Fr.refl _

theorem execHealthRx_fr {a0} {a1} {s} : FrRes ([⟨17202941456, 17204383248, 131072, 0⟩, ⟨17202941840, 17204383632, 131072, 0⟩, ⟨17202940040, 17204381832, 131072, 0⟩, ⟨17202940032, 17204381824, 131072, 0⟩, ⟨17202939904, 17204381696, 131072, 0⟩, ⟨17202940048, 17204381840, 131072, 0⟩, ⟨17202940416, 17204382616, 131072, 408⟩, ⟨17202940928, 17204383120, 131072, 400⟩, ⟨17202937992, 17204379784, 131072, 0⟩, ⟨17202937991, 17204379783, 131072, 0⟩, ⟨17202937990, 17204379782, 131072, 0⟩, ⟨17202941568, 17204383360, 131072, 0⟩, ⟨17181966336, 17181966336, 1, 0⟩, ⟨17181967360, 17181967360, 1, 0⟩, ⟨17186226581, 17186257301, 2048, 0⟩, ⟨17181966338, 17181966338, 1, 0⟩, ⟨17181966495, 17181966495, 1, 0⟩, ⟨17186168832, 17186169247, 1, 0⟩, ⟨17202937996, 17204379788, 131072, 0⟩, ⟨17211359376, 17211408272, 256, 0⟩, ⟨17209229443, 17209229443, 1, 0⟩, ⟨17209229442, 17209229442, 1, 0⟩, ⟨17209231360, 17209231360, 1, 0⟩, ⟨17209231504, 17209231504, 1, 0⟩, ⟨17209231488, 17209231488, 1, 0⟩, ⟨17209231376, 17209231376, 1, 0⟩, ⟨17209245696, 17209251736, 8, 0⟩, ⟨17209237504, 17209243544, 8, 0⟩, ⟨17209231760, 17209231760, 1, 0⟩, ⟨17209229444, 17209229444, 1, 0⟩] ++ [⟨17211326596, 17211326596, 1, 0⟩, ⟨17205035139, 17205149827, 8192, 0⟩, ⟨17205035141, 17205149829, 8192, 0⟩, ⟨17205035140, 17205149828, 8192, 0⟩, ⟨17205035136, 17205149824, 8192, 0⟩, ⟨17202937984, 17204379776, 131072, 0⟩]) [.tl, .flt, .pwr, .evc, .cal, .lsc, .free, .thm, .lane] s (execHealthRx a0 a1 s) := by
  unfold execHealthRx
  refine FrRes.next ?_
  extract_lets -merge -underBinder +onlyGivenNames x0
  try clear_value x0
  refine Fr.iteh (fun _ => ?_) (fun _ => ?_)
  · first | assumption | exact Fr.refl _
  · split
    · refine Fr.step State.tlDrop_fr rfl rfl ?_
      first | assumption | exact Fr.refl _
    · refine Fr.iteh (fun _ => ?_) (fun _ => ?_)
      · first | assumption | exact Fr.refl _
      · extract_lets -merge -underBinder +onlyGivenNames x1
        refine Fr.cut x1 ?_ (fun h1 => ?_)
        · unfold x1
          refine Fr.step State.takeCapAck_fr rfl rfl ?_
          refine Fr.step State.showHealth_fr rfl rfl ?_
          first | assumption | exact Fr.refl _
        try clear_value x1
        extract_lets -merge -underBinder +onlyGivenNames x2
        refine Fr.cut x2 ?_ (fun h2 => ?_)
        · unfold x2
          refine Fr.step State.takeEcho_fr rfl rfl ?_
          first | assumption | exact Fr.refl _
        try clear_value x2
        extract_lets -merge -underBinder +onlyGivenNames x3
        try clear_value x3
        extract_lets -merge -underBinder +onlyGivenNames x4
        refine Fr.cut x4 ?_ (fun h4 => ?_)
        · unfold x4
          refine Fr.step State.calHealth_fr rfl rfl ?_
          refine Fr.step State.lscHealth_fr rfl rfl ?_
          first | assumption | exact Fr.refl _
        try clear_value x4
        extract_lets -merge -underBinder +onlyGivenNames x5
        refine Fr.cut x5 ?_ (fun h5 => ?_)
        · unfold x5
          split
          · refine Fr.iteh (fun _ => ?_) (fun _ => ?_)
            · refine Fr.step State.thmHealth_fr rfl rfl ?_
              first | assumption | exact Fr.refl _
            · first | assumption | exact Fr.refl _
          · first | assumption | exact Fr.refl _
        try clear_value x5
        refine Fr.iteh (fun _ => ?_) (fun _ => ?_)
        · extract_lets -merge -underBinder +onlyGivenNames x6
          extract_lets -merge -underBinder +onlyGivenNames x7
          refine Fr.cut x7 ?_ (fun h7 => ?_)
          · unfold x7
            refine Fr.step State.setPort_fr rfl rfl ?_
            first | assumption | exact Fr.refl _
          try clear_value x7
          refine Fr.step State.tlSet_fr rfl rfl ?_
          refine Fr.iteh (fun _ => ?_) (fun _ => ?_)
          · refine Fr.step State.tlClaim_fr rfl rfl ?_
            first | assumption | exact Fr.refl _
          · first | assumption | exact Fr.refl _
        · refine Fr.step State.setPort_fr rfl rfl ?_
          first | assumption | exact Fr.refl _

theorem execDiagRetRx_fr {a0} {a1} {s} : FrRes ([⟨17202941456, 17204383248, 131072, 0⟩, ⟨17188261632, 17188261632, 1, 0⟩, ⟨17181966336, 17181966336, 1, 0⟩, ⟨17181967360, 17181967360, 1, 0⟩, ⟨17186226581, 17186257301, 2048, 0⟩, ⟨17181966338, 17181966338, 1, 0⟩, ⟨17181966495, 17181966495, 1, 0⟩, ⟨17186168832, 17186169247, 1, 0⟩, ⟨17181967232, 17181967263, 1, 0⟩, ⟨17207134736, 17207134736, 1, 0⟩, ⟨17194549776, 17194549776, 1, 0⟩, ⟨17192452352, 17192452352, 1, 0⟩, ⟨17192452608, 17192452608, 1, 0⟩, ⟨17192452480, 17192452480, 1, 0⟩, ⟨17192452229, 17192452229, 1, 0⟩, ⟨17192452228, 17192452228, 1, 0⟩, ⟨17207132291, 17207132291, 1, 0⟩, ⟨17207132293, 17207132293, 1, 0⟩, ⟨17207132294, 17207132294, 1, 0⟩, ⟨17207138304, 17207138975, 1, 0⟩, ⟨17207132304, 17207132304, 1, 0⟩, ⟨17207132296, 17207132296, 1, 0⟩, ⟨17207134239, 17207134239, 1, 0⟩, ⟨17207134367, 17207134367, 1, 0⟩, ⟨17207134358, 17207134358, 1, 0⟩, ⟨17207134354, 17207134354, 1, 0⟩, ⟨17207134345, 17207134345, 1, 0⟩, ⟨17207134336, 17207134336, 1, 0⟩, ⟨17207134472, 17207134472, 1, 0⟩, ⟨17207134464, 17207134464, 1, 0⟩] ++ [⟨17207134361, 17207134361, 1, 0⟩, ⟨17207134720, 17207134720, 1, 0⟩, ⟨17207132292, 17207132292, 1, 0⟩]) [.hlth, .flt, .pwr, .evc, .free, .mem, .memc] s (execDiagRetRx a0 a1 s) := by
  unfold execDiagRetRx
  refine FrRes.next ?_
  refine Fr.iteh (fun _ => ?_) (fun _ => ?_)
  · first | assumption | exact Fr.refl _
  · extract_lets -merge -underBinder +onlyGivenNames x0
    try clear_value (e0 : x0 = _)
    extract_lets -merge -underBinder +onlyGivenNames x1
    try clear_value (e1 : x1 = _)
    split
    · refine Fr.step State.tlDrop_fr rfl rfl ?_
      first | assumption | exact Fr.refl _
    · extract_lets -merge -underBinder +onlyGivenNames x2
      try clear_value x2
      refine Fr.iteh (fun _ => ?_) (fun _ => ?_)
      · first | assumption | exact Fr.refl _
      · refine Fr.step State.hlthResults_fr rfl rfl ?_
        first | assumption | exact Fr.refl _

theorem execStaleReplyRx_fr {a0} {a1} {s} : FrRes ([⟨17202941456, 17204383248, 131072, 0⟩, ⟨17181966336, 17181966336, 1, 0⟩, ⟨17181967360, 17181967360, 1, 0⟩, ⟨17186226581, 17186257301, 2048, 0⟩, ⟨17181966338, 17181966338, 1, 0⟩, ⟨17181966495, 17181966495, 1, 0⟩, ⟨17186168832, 17186169247, 1, 0⟩, ⟨17202941696, 17204383488, 131072, 0⟩, ⟨17202937994, 17204379786, 131072, 0⟩, ⟨17223909506, 17223909506, 1, 0⟩, ⟨17207132304, 17207132304, 1, 0⟩, ⟨17207132296, 17207132296, 1, 0⟩, ⟨17207134239, 17207134239, 1, 0⟩, ⟨17207134367, 17207134367, 1, 0⟩, ⟨17207134358, 17207134358, 1, 0⟩, ⟨17207134354, 17207134354, 1, 0⟩, ⟨17207134345, 17207134345, 1, 0⟩, ⟨17207134336, 17207134336, 1, 0⟩, ⟨17207134472, 17207134472, 1, 0⟩, ⟨17207134464, 17207134464, 1, 0⟩, ⟨17207134361, 17207134361, 1, 0⟩, ⟨17223909508, 17223909508, 1, 0⟩, ⟨17223909507, 17223909507, 1, 0⟩, ⟨17209229312, 17209229312, 1, 0⟩, ⟨17209229440, 17209229440, 1, 0⟩, ⟨17211359376, 17211408272, 256, 0⟩, ⟨17209229443, 17209229443, 1, 0⟩, ⟨17209229442, 17209229442, 1, 0⟩, ⟨17209231360, 17209231360, 1, 0⟩, ⟨17209231504, 17209231504, 1, 0⟩] ++ [⟨17209231488, 17209231488, 1, 0⟩, ⟨17209231376, 17209231376, 1, 0⟩, ⟨17209245696, 17209251736, 8, 0⟩]) [.pwr, .flt, .evc, .pair, .hlth, .lane, .lsc, .free, .cal] s (execStaleReplyRx a0 a1 s) := by
  unfold execStaleReplyRx
  refine FrRes.next ?_
  refine Fr.iteh (fun _ => ?_) (fun _ => ?_)
  · first | assumption | exact Fr.refl _
  · split
    · refine Fr.step State.tlDrop_fr rfl rfl ?_
      first | assumption | exact Fr.refl _
    · refine Fr.iteh (fun _ => ?_) (fun _ => ?_)
      · refine Fr.step State.tlDrop_fr rfl rfl ?_
        first | assumption | exact Fr.refl _
      · refine Fr.iteh (fun _ => ?_) (fun _ => ?_)
        · first | assumption | exact Fr.refl _
        · extract_lets -merge -underBinder +onlyGivenNames x0
          refine Fr.cut x0 ?_ (fun h0 => ?_)
          · unfold x0
            refine Fr.step State.fire_fr rfl rfl ?_
            refine Fr.inc (xs := [⟨17202941696, 17204383488, 131072, 0⟩]) (Reg.TL_CNT2_STALE_key (by first | omega | (simp only [List.mem_range] at *; omega))) rfl ?_
            refine Fr.wr (xs := [⟨17202937994, 17204379786, 131072, 0⟩]) (Reg.TL_STATUS_STALE_key (by first | omega | (simp only [List.mem_range] at *; omega))) rfl ?_
            first | assumption | exact Fr.refl _
          try clear_value x0
          refine Fr.step State.pairDemote_fr rfl rfl ?_
          refine Fr.step State.raise_fr rfl rfl ?_
          first | assumption | exact Fr.refl _

theorem execCapackTimeout_fr {a0} {s} : FrRes [⟨17181966336, 17181966336, 1, 0⟩, ⟨17181967360, 17181967360, 1, 0⟩, ⟨17186226581, 17186257301, 2048, 0⟩, ⟨17181966338, 17181966338, 1, 0⟩, ⟨17181966495, 17181966495, 1, 0⟩, ⟨17186168832, 17186169247, 1, 0⟩, ⟨17202937997, 17204379789, 131072, 0⟩] [.tl, .flt, .pwr, .evc] s (execCapackTimeout a0 s) := by
  unfold execCapackTimeout
  refine FrRes.next ?_
  refine Fr.iteh (fun _ => ?_) (fun _ => ?_)
  · first | assumption | exact Fr.refl _
  · extract_lets -merge -underBinder +onlyGivenNames x0
    extract_lets -merge -underBinder +onlyGivenNames x1
    refine Fr.cut x1 ?_ (fun h1 => ?_)
    · unfold x1
      refine Fr.step State.setPort_fr rfl rfl ?_
      first | assumption | exact Fr.refl _
    try clear_value x1
    refine Fr.step State.raise_fr rfl rfl ?_
    refine Fr.step State.fire_fr rfl rfl ?_
    refine Fr.wr (xs := [⟨17202937997, 17204379789, 131072, 0⟩]) (Reg.TL_STATUS_CAPACK_ERR_key (by first | omega | (simp only [List.mem_range] at *; omega))) rfl ?_
    first | assumption | exact Fr.refl _

theorem execIdleKeepalive_fr {a0} {s} : FrRes [] [.lane, .tl] s (execIdleKeepalive a0 s) := by
  unfold execIdleKeepalive
  refine FrRes.next ?_
  refine Fr.iteh (fun _ => ?_) (fun _ => ?_)
  · refine Fr.step State.tlIdle_fr rfl rfl ?_
    first | assumption | exact Fr.refl _
  · first | assumption | exact Fr.refl _

theorem execUpstreamPacketError_fr {a0} {a1} {s} : FrRes [⟨17202941456, 17204383248, 131072, 0⟩, ⟨17202941440, 17204383232, 131072, 0⟩] [.tl, .flt] s (execUpstreamPacketError a0 a1 s) := by
  unfold execUpstreamPacketError
  refine FrRes.next ?_
  refine Fr.iteh (fun _ => ?_) (fun _ => ?_)
  · refine Fr.iteh (fun _ => ?_) (fun _ => ?_)
    · refine Fr.step State.tlDrop_fr rfl rfl ?_
      first | assumption | exact Fr.refl _
    · first | assumption | exact Fr.refl _
  · extract_lets -merge -underBinder +onlyGivenNames x0
    try clear_value x0
    extract_lets -merge -underBinder +onlyGivenNames x1
    extract_lets -merge -underBinder +onlyGivenNames x2
    refine Fr.cut x2 ?_ (fun h2 => ?_)
    · unfold x2
      refine Fr.step State.setPort_fr rfl rfl ?_
      refine Fr.inc (xs := [⟨17202941440, 17204383232, 131072, 0⟩]) (Reg.TL_CNT0_CRC_ERR_key (by first | omega | (simp only [List.mem_range] at *; omega))) rfl ?_
      first | assumption | exact Fr.refl _
    try clear_value x2
    refine Fr.iteh (fun _ => ?_) (fun _ => ?_)
    · refine Fr.step State.raise_fr rfl rfl ?_
      first | assumption | exact Fr.refl _
    · first | assumption | exact Fr.refl _

theorem execTlRxTimeout_fr {a0} {s} : FrRes [⟨17205035139, 17205149827, 8192, 0⟩, ⟨17205035141, 17205149829, 8192, 0⟩, ⟨17205035140, 17205149828, 8192, 0⟩, ⟨17205035136, 17205149824, 8192, 0⟩, ⟨17181966336, 17181966336, 1, 0⟩, ⟨17181967360, 17181967360, 1, 0⟩, ⟨17186226581, 17186257301, 2048, 0⟩, ⟨17181966338, 17181966338, 1, 0⟩, ⟨17181966495, 17181966495, 1, 0⟩, ⟨17186168832, 17186169247, 1, 0⟩, ⟨17202937984, 17204379776, 131072, 0⟩] [.pwr, .flt, .evc, .tl] s (execTlRxTimeout a0 s) := by
  unfold execTlRxTimeout
  refine FrRes.next ?_
  refine Fr.iteh (fun _ => ?_) (fun _ => ?_)
  · refine Fr.step State.tlLost_fr rfl rfl ?_
    first | assumption | exact Fr.refl _
  · first | assumption | exact Fr.refl _

theorem execAutoRetrainTimer_fr {a0} {s} : FrRes [⟨17205035139, 17205149827, 8192, 0⟩, ⟨17205035141, 17205149829, 8192, 0⟩, ⟨17205035140, 17205149828, 8192, 0⟩, ⟨17205035136, 17205149824, 8192, 0⟩, ⟨17181966336, 17181966336, 1, 0⟩, ⟨17181967360, 17181967360, 1, 0⟩, ⟨17186226581, 17186257301, 2048, 0⟩, ⟨17181966338, 17181966338, 1, 0⟩, ⟨17181966495, 17181966495, 1, 0⟩, ⟨17186168832, 17186169247, 1, 0⟩, ⟨17202937984, 17204379776, 131072, 0⟩, ⟨17202937989, 17204379781, 131072, 0⟩, ⟨17202937987, 17204379779, 131072, 0⟩, ⟨17202941712, 17204383504, 131072, 0⟩] [.pwr, .flt, .evc, .tl] s (execAutoRetrainTimer a0 s) := by
  unfold execAutoRetrainTimer
  refine FrRes.next ?_
  refine Fr.iteh (fun _ => ?_) (fun _ => ?_)
  · refine Fr.step State.tlTrain_fr rfl rfl ?_
    first | assumption | exact Fr.refl _
  · first | assumption | exact Fr.refl _

theorem execUpstreamIdleRx_fr {a0} {a1} {s} : FrRes [⟨17202941456, 17204383248, 131072, 0⟩] [] s (execUpstreamIdleRx a0 a1 s) := by
  unfold execUpstreamIdleRx
  refine FrRes.next ?_
  refine Fr.iteh (fun _ => ?_) (fun _ => ?_)
  · first | assumption | exact Fr.refl _
  · refine Fr.step State.tlDrop_fr rfl rfl ?_
    first | assumption | exact Fr.refl _

end Sys2Proof.Machine
end

