-- ==== Sys2Proof/Laws/FtOpsFrame.lean ====
section
/-! SUPPORT. What each operation and command of Machine/FtOps.lean changes at most: register blocks and zones of the state. -/

namespace Sys2Proof.Machine

theorem State.setFt_fr {s} {a1} : Fr [] [.ft] s (State.setFt s a1) := by
  unfold State.setFt
  refine Fr.set_ft rfl ?_
  first | assumption | exact Fr.refl _

theorem State.ftCapture_fr {s} {a1} {a2} : Fr [⟨17181966336, 17181966336, 1, 0⟩, ⟨17181967360, 17181967360, 1, 0⟩, ⟨17186226581, 17186257301, 2048, 0⟩, ⟨17181966338, 17181966338, 1, 0⟩, ⟨17181966495, 17181966495, 1, 0⟩, ⟨17186168832, 17186169247, 1, 0⟩, ⟨17200840960, 17200840960, 1, 0⟩, ⟨17200840705, 17200840705, 1, 0⟩] [.pwr, .flt, .evc, .ft] s (State.ftCapture s a1 a2) := by
  unfold State.ftCapture
  refine Fr.iteh (fun _ => ?_) (fun _ => ?_)
  · first | assumption | exact Fr.refl _
  · refine Fr.iteh (fun _ => ?_) (fun _ => ?_)
    · unfold State.rejectCommit
      try dsimp -zeta only
      refine Fr.step State.fire_fr rfl rfl ?_
      refine Fr.wr (xs := [⟨17200840960, 17200840960, 1, 0⟩]) rfl rfl ?_
      refine Fr.wr (xs := [⟨17200840705, 17200840705, 1, 0⟩]) rfl rfl ?_
      first | assumption | exact Fr.refl _
    · refine Fr.step State.setFt_fr rfl rfl ?_
      first | assumption | exact Fr.refl _

theorem State.ftLive_fr {s} : Fr [⟨17200840705, 17200840705, 1, 0⟩] [.live, .ft] s (State.ftLive s) := by
  unfold State.ftLive
  split
  · first | assumption | exact Fr.refl _
  · refine Fr.wr (xs := [⟨17200840705, 17200840705, 1, 0⟩]) rfl rfl ?_
    refine Fr.step State.applySet_fr rfl rfl ?_
    refine Fr.step State.setFt_fr rfl rfl ?_
    first | assumption | exact Fr.refl _

theorem State.captureSet_fr {s} {a1} {a2} {a3} : Fr ([⟨17198743816, 17198743816, 1, 0⟩, ⟨17181966336, 17181966336, 1, 0⟩, ⟨17181967360, 17181967360, 1, 0⟩, ⟨17186226581, 17186257301, 2048, 0⟩, ⟨17181966338, 17181966338, 1, 0⟩, ⟨17181966495, 17181966495, 1, 0⟩, ⟨17186168832, 17186169247, 1, 0⟩, ⟨17198743808, 17198743808, 1, 0⟩, ⟨17198743553, 17198743553, 1, 0⟩, ⟨17198753156, 17198767492, 2048, 0⟩, ⟨17198743688, 17198743695, 1, 0⟩, ⟨17196646656, 17196646656, 1, 0⟩, ⟨17196646401, 17196646401, 1, 0⟩, ⟨17196647812, 17196647812, 1, 0⟩, ⟨17196647808, 17196647808, 1, 0⟩, ⟨17196646544, 17196646544, 1, 0⟩, ⟨17196646536, 17196646536, 1, 0⟩, ⟨17198753168, 17198767504, 2048, 0⟩, ⟨17198753152, 17198767488, 2048, 0⟩, ⟨17196646533, 17196646533, 1, 0⟩, ⟨17196646529, 17196646529, 1, 0⟩, ⟨17198753155, 17198767491, 2048, 0⟩, ⟨17198753154, 17198767490, 2048, 0⟩, ⟨17198753280, 17198767616, 2048, 0⟩, ⟨17205035139, 17205149827, 8192, 0⟩, ⟨17205035141, 17205149829, 8192, 0⟩, ⟨17205035140, 17205149828, 8192, 0⟩, ⟨17205035136, 17205149824, 8192, 0⟩, ⟨17202937984, 17204379776, 131072, 0⟩, ⟨17211359376, 17211408272, 256, 0⟩] ++ [⟨17207138304, 17207138975, 1, 0⟩, ⟨17207136256, 17207137664, 128, 0⟩, ⟨17188261632, 17188261632, 1, 0⟩, ⟨17181967232, 17181967263, 1, 0⟩, ⟨17200840960, 17200840960, 1, 0⟩, ⟨17200840705, 17200840705, 1, 0⟩, ⟨17207132416, 17207132416, 1, 0⟩, ⟨17207132161, 17207132161, 1, 0⟩, ⟨17209229568, 17209229568, 1, 0⟩, ⟨17209229313, 17209229313, 1, 0⟩]) [.pwr, .flt, .evc, .layer, .sa, .tl, .free, .hlth, .cal, .ft, .lsc] s (State.captureSet s a1 a2 a3) := by
  unfold State.captureSet
  split
  · refine Fr.step State.layerCapture_fr rfl rfl ?_
    first | assumption | exact Fr.refl _
  · refine Fr.step State.saCapture_fr rfl rfl ?_
    first | assumption | exact Fr.refl _
  · refine Fr.step State.ftCapture_fr rfl rfl ?_
    first | assumption | exact Fr.refl _
  · refine Fr.step State.hlthCapture_fr rfl rfl ?_
    first | assumption | exact Fr.refl _
  · refine Fr.step State.lscCapture_fr rfl rfl ?_
    first | assumption | exact Fr.refl _

theorem State.captureLed_fr {s bit b now} : Fr ([⟨17198743816, 17198743816, 1, 0⟩, ⟨17181966336, 17181966336, 1, 0⟩, ⟨17181967360, 17181967360, 1, 0⟩, ⟨17186226581, 17186257301, 2048, 0⟩, ⟨17181966338, 17181966338, 1, 0⟩, ⟨17181966495, 17181966495, 1, 0⟩, ⟨17186168832, 17186169247, 1, 0⟩, ⟨17198743808, 17198743808, 1, 0⟩, ⟨17198743553, 17198743553, 1, 0⟩, ⟨17198753156, 17198767492, 2048, 0⟩, ⟨17198743688, 17198743695, 1, 0⟩, ⟨17196646656, 17196646656, 1, 0⟩, ⟨17196646401, 17196646401, 1, 0⟩, ⟨17196647812, 17196647812, 1, 0⟩, ⟨17196647808, 17196647808, 1, 0⟩, ⟨17196646544, 17196646544, 1, 0⟩, ⟨17196646536, 17196646536, 1, 0⟩, ⟨17198753168, 17198767504, 2048, 0⟩, ⟨17198753152, 17198767488, 2048, 0⟩, ⟨17196646533, 17196646533, 1, 0⟩, ⟨17196646529, 17196646529, 1, 0⟩, ⟨17198753155, 17198767491, 2048, 0⟩, ⟨17198753154, 17198767490, 2048, 0⟩, ⟨17198753280, 17198767616, 2048, 0⟩, ⟨17205035139, 17205149827, 8192, 0⟩, ⟨17205035141, 17205149829, 8192, 0⟩, ⟨17205035140, 17205149828, 8192, 0⟩, ⟨17205035136, 17205149824, 8192, 0⟩, ⟨17202937984, 17204379776, 131072, 0⟩, ⟨17211359376, 17211408272, 256, 0⟩] ++ [⟨17207138304, 17207138975, 1, 0⟩, ⟨17207136256, 17207137664, 128, 0⟩, ⟨17188261632, 17188261632, 1, 0⟩, ⟨17181967232, 17181967263, 1, 0⟩, ⟨17200840960, 17200840960, 1, 0⟩, ⟨17200840705, 17200840705, 1, 0⟩, ⟨17207132416, 17207132416, 1, 0⟩, ⟨17207132161, 17207132161, 1, 0⟩, ⟨17209229568, 17209229568, 1, 0⟩, ⟨17209229313, 17209229313, 1, 0⟩]) [.pwr, .flt, .evc, .layer, .sa, .tl, .free, .hlth, .cal, .ft, .lsc] s (State.captureLed s bit b now) := by
  unfold State.captureLed
  refine Fr.step State.captureSet_fr rfl rfl (Fr.ite (Fr.refl _) (Fr.wr (xs := [⟨17198743553, 17198743553, 1, 0⟩, ⟨17196646401, 17196646401, 1, 0⟩, ⟨17200840705, 17200840705, 1, 0⟩, ⟨17207132161, 17207132161, 1, 0⟩, ⟨17209229313, 17209229313, 1, 0⟩]) ?_ rfl (Fr.ite (Fr.step State.queueChecks_fr rfl rfl (Fr.refl _)) (Fr.refl _))))
  unfold commitBit
  split <;> rfl

theorem State.captureTold_fr {s} {a1} {a2} {a3} {a4} : Fr ([⟨17198743816, 17198743816, 1, 0⟩, ⟨17181966336, 17181966336, 1, 0⟩, ⟨17181967360, 17181967360, 1, 0⟩, ⟨17186226581, 17186257301, 2048, 0⟩, ⟨17181966338, 17181966338, 1, 0⟩, ⟨17181966495, 17181966495, 1, 0⟩, ⟨17186168832, 17186169247, 1, 0⟩, ⟨17198743808, 17198743808, 1, 0⟩, ⟨17198743553, 17198743553, 1, 0⟩, ⟨17198753156, 17198767492, 2048, 0⟩, ⟨17198743688, 17198743695, 1, 0⟩, ⟨17196646656, 17196646656, 1, 0⟩, ⟨17196646401, 17196646401, 1, 0⟩, ⟨17196647812, 17196647812, 1, 0⟩, ⟨17196647808, 17196647808, 1, 0⟩, ⟨17196646544, 17196646544, 1, 0⟩, ⟨17196646536, 17196646536, 1, 0⟩, ⟨17198753168, 17198767504, 2048, 0⟩, ⟨17198753152, 17198767488, 2048, 0⟩, ⟨17196646533, 17196646533, 1, 0⟩, ⟨17196646529, 17196646529, 1, 0⟩, ⟨17198753155, 17198767491, 2048, 0⟩, ⟨17198753154, 17198767490, 2048, 0⟩, ⟨17198753280, 17198767616, 2048, 0⟩, ⟨17205035139, 17205149827, 8192, 0⟩, ⟨17205035141, 17205149829, 8192, 0⟩, ⟨17205035140, 17205149828, 8192, 0⟩, ⟨17205035136, 17205149824, 8192, 0⟩, ⟨17202937984, 17204379776, 131072, 0⟩, ⟨17211359376, 17211408272, 256, 0⟩] ++ [⟨17207138304, 17207138975, 1, 0⟩, ⟨17207136256, 17207137664, 128, 0⟩, ⟨17188261632, 17188261632, 1, 0⟩, ⟨17181967232, 17181967263, 1, 0⟩, ⟨17200840960, 17200840960, 1, 0⟩, ⟨17200840705, 17200840705, 1, 0⟩, ⟨17207132416, 17207132416, 1, 0⟩, ⟨17207132161, 17207132161, 1, 0⟩, ⟨17209229568, 17209229568, 1, 0⟩, ⟨17209229313, 17209229313, 1, 0⟩]) [.pwr, .flt, .evc, .layer, .sa, .tl, .free, .hlth, .cal, .ft, .lsc, .pair, .lane] s (State.captureTold s a1 a2 a3 a4) := by
  unfold State.captureTold
  extract_lets -merge -underBinder +onlyGivenNames x0
  refine Fr.cut x0 ?_ (fun h0 => ?_)
  · unfold x0
    refine Fr.step State.captureSet_fr rfl rfl ?_
    first | assumption | exact Fr.refl _
  try clear_value x0
  refine Fr.iteh (fun _ => ?_) (fun _ => ?_)
  · refine Fr.step State.mirrorCommit_fr rfl rfl ?_
    first | assumption | exact Fr.refl _
  · first | assumption | exact Fr.refl _

theorem State.guardBlock_fr {s} {a1} {a2} {a3} {a4} : Fr ([⟨17198743816, 17198743816, 1, 0⟩, ⟨17181966336, 17181966336, 1, 0⟩, ⟨17181967360, 17181967360, 1, 0⟩, ⟨17186226581, 17186257301, 2048, 0⟩, ⟨17181966338, 17181966338, 1, 0⟩, ⟨17181966495, 17181966495, 1, 0⟩, ⟨17186168832, 17186169247, 1, 0⟩, ⟨17198743808, 17198743808, 1, 0⟩, ⟨17198743553, 17198743553, 1, 0⟩, ⟨17198753156, 17198767492, 2048, 0⟩, ⟨17198743688, 17198743695, 1, 0⟩, ⟨17196646656, 17196646656, 1, 0⟩, ⟨17196646401, 17196646401, 1, 0⟩, ⟨17196647812, 17196647812, 1, 0⟩, ⟨17196647808, 17196647808, 1, 0⟩, ⟨17196646544, 17196646544, 1, 0⟩, ⟨17196646536, 17196646536, 1, 0⟩, ⟨17198753168, 17198767504, 2048, 0⟩, ⟨17198753152, 17198767488, 2048, 0⟩, ⟨17196646533, 17196646533, 1, 0⟩, ⟨17196646529, 17196646529, 1, 0⟩, ⟨17198753155, 17198767491, 2048, 0⟩, ⟨17198753154, 17198767490, 2048, 0⟩, ⟨17198753280, 17198767616, 2048, 0⟩, ⟨17205035139, 17205149827, 8192, 0⟩, ⟨17205035141, 17205149829, 8192, 0⟩, ⟨17205035140, 17205149828, 8192, 0⟩, ⟨17205035136, 17205149824, 8192, 0⟩, ⟨17202937984, 17204379776, 131072, 0⟩, ⟨17211359376, 17211408272, 256, 0⟩] ++ [⟨17207138304, 17207138975, 1, 0⟩, ⟨17207136256, 17207137664, 128, 0⟩, ⟨17188261632, 17188261632, 1, 0⟩, ⟨17181967232, 17181967263, 1, 0⟩, ⟨17200840960, 17200840960, 1, 0⟩, ⟨17200840705, 17200840705, 1, 0⟩, ⟨17207132416, 17207132416, 1, 0⟩, ⟨17207132161, 17207132161, 1, 0⟩, ⟨17209229568, 17209229568, 1, 0⟩, ⟨17209229313, 17209229313, 1, 0⟩]) [.pwr, .flt, .evc, .layer, .sa, .tl, .free, .hlth, .cal, .ft, .lsc, .pair, .lane] s (State.guardBlock s a1 a2 a3 a4) := by
  unfold State.guardBlock
  refine Fr.iteh (fun _ => ?_) (fun _ => ?_)
  · refine Fr.step State.captureTold_fr rfl rfl ?_
    first | assumption | exact Fr.refl _
  · refine Fr.iteh (fun _ => ?_) (fun _ => ?_)
    · refine Fr.wr (xs := [⟨17198743553, 17198743553, 1, 0⟩]) rfl rfl ?_
      refine Fr.step State.layerCapture_fr rfl rfl ?_
      refine Fr.wr (xs := [⟨17198743553, 17198743553, 1, 0⟩]) rfl rfl ?_
      first | assumption | exact Fr.refl _
    · first | assumption | exact Fr.refl _

theorem State.captureTold_fr0 {s b now frame} : Fr [⟨17198743816, 17198743816, 1, 0⟩, ⟨17181966336, 17181966336, 1, 0⟩, ⟨17181967360, 17181967360, 1, 0⟩, ⟨17186226581, 17186257301, 2048, 0⟩, ⟨17181966338, 17181966338, 1, 0⟩, ⟨17181966495, 17181966495, 1, 0⟩, ⟨17186168832, 17186169247, 1, 0⟩, ⟨17198743808, 17198743808, 1, 0⟩, ⟨17198743553, 17198743553, 1, 0⟩, ⟨17198753156, 17198767492, 2048, 0⟩, ⟨17198743688, 17198743695, 1, 0⟩] [.pwr, .flt, .evc, .layer, .pair, .lane] s (State.captureTold s 0 b now frame) := by
  unfold State.captureTold
  extract_lets +onlyGivenNames x0
  refine Fr.cut x0 ?_ (fun h0 => ?_)
  · exact Fr.step State.layerCapture_fr rfl rfl (Fr.refl _)
  clear_value x0
  exact Fr.ite (Fr.step State.mirrorCommit_fr rfl rfl h0) h0

theorem State.commitBlock_fr0 {s} : Fr [⟨17198743816, 17198743816, 1, 0⟩, ⟨17181966336, 17181966336, 1, 0⟩, ⟨17181967360, 17181967360, 1, 0⟩, ⟨17186226581, 17186257301, 2048, 0⟩, ⟨17181966338, 17181966338, 1, 0⟩, ⟨17181966495, 17181966495, 1, 0⟩, ⟨17186168832, 17186169247, 1, 0⟩, ⟨17198743808, 17198743808, 1, 0⟩, ⟨17198743553, 17198743553, 1, 0⟩, ⟨17198753156, 17198767492, 2048, 0⟩, ⟨17198743688, 17198743695, 1, 0⟩] [.pwr, .flt, .evc, .layer, .pair, .lane] s (State.commitBlock s 0) := by
  unfold State.commitBlock
  have h0 : Fr [⟨17198743816, 17198743816, 1, 0⟩, ⟨17181966336, 17181966336, 1, 0⟩, ⟨17181967360, 17181967360, 1, 0⟩, ⟨17186226581, 17186257301, 2048, 0⟩, ⟨17181966338, 17181966338, 1, 0⟩, ⟨17181966495, 17181966495, 1, 0⟩, ⟨17186168832, 17186169247, 1, 0⟩, ⟨17198743808, 17198743808, 1, 0⟩, ⟨17198743553, 17198743553, 1, 0⟩, ⟨17198753156, 17198767492, 2048, 0⟩, ⟨17198743688, 17198743695, 1, 0⟩] [.pwr, .flt, .evc, .layer, .pair, .lane] s (s.wr (commitBit 0) 1) := Fr.wr (xs := [⟨17198743553, 17198743553, 1, 0⟩]) rfl rfl (Fr.refl _)
  exact Fr.ite (Fr.refl _) (Fr.ite h0 (Fr.ite (Fr.step State.captureTold_fr0 rfl rfl h0) (Fr.ite (Fr.step State.captureTold_fr0 rfl rfl h0) h0)))

theorem State.captureTold_fr1 {s b now frame} : Fr ([⟨17181966336, 17181966336, 1, 0⟩, ⟨17181967360, 17181967360, 1, 0⟩, ⟨17186226581, 17186257301, 2048, 0⟩, ⟨17181966338, 17181966338, 1, 0⟩, ⟨17181966495, 17181966495, 1, 0⟩, ⟨17186168832, 17186169247, 1, 0⟩, ⟨17196646656, 17196646656, 1, 0⟩, ⟨17196646401, 17196646401, 1, 0⟩, ⟨17196647812, 17196647812, 1, 0⟩, ⟨17196647808, 17196647808, 1, 0⟩, ⟨17196646544, 17196646544, 1, 0⟩, ⟨17196646536, 17196646536, 1, 0⟩, ⟨17198753168, 17198767504, 2048, 0⟩, ⟨17198753152, 17198767488, 2048, 0⟩, ⟨17196646533, 17196646533, 1, 0⟩, ⟨17196646529, 17196646529, 1, 0⟩, ⟨17198753155, 17198767491, 2048, 0⟩, ⟨17198753154, 17198767490, 2048, 0⟩, ⟨17198753156, 17198767492, 2048, 0⟩, ⟨17198753280, 17198767616, 2048, 0⟩, ⟨17205035139, 17205149827, 8192, 0⟩, ⟨17205035141, 17205149829, 8192, 0⟩, ⟨17205035140, 17205149828, 8192, 0⟩, ⟨17205035136, 17205149824, 8192, 0⟩, ⟨17202937984, 17204379776, 131072, 0⟩, ⟨17211359376, 17211408272, 256, 0⟩, ⟨17207138304, 17207138975, 1, 0⟩, ⟨17207136256, 17207137664, 128, 0⟩, ⟨17188261632, 17188261632, 1, 0⟩, ⟨17181967232, 17181967263, 1, 0⟩] ++ [⟨17198743816, 17198743816, 1, 0⟩, ⟨17198743808, 17198743808, 1, 0⟩, ⟨17198743553, 17198743553, 1, 0⟩, ⟨17198743688, 17198743695, 1, 0⟩]) [.pwr, .flt, .evc, .sa, .layer, .tl, .free, .hlth, .cal, .pair, .lane] s (State.captureTold s 1 b now frame) := by
  unfold State.captureTold
  extract_lets +onlyGivenNames x0
  refine Fr.cut x0 ?_ (fun h0 => ?_)
  · exact Fr.step State.saCapture_fr rfl rfl (Fr.refl _)
  clear_value x0
  exact Fr.ite (Fr.step State.mirrorCommit_fr rfl rfl h0) h0

theorem State.commitBlock_fr1 {s} : Fr ([⟨17181966336, 17181966336, 1, 0⟩, ⟨17181967360, 17181967360, 1, 0⟩, ⟨17186226581, 17186257301, 2048, 0⟩, ⟨17181966338, 17181966338, 1, 0⟩, ⟨17181966495, 17181966495, 1, 0⟩, ⟨17186168832, 17186169247, 1, 0⟩, ⟨17196646656, 17196646656, 1, 0⟩, ⟨17196646401, 17196646401, 1, 0⟩, ⟨17196647812, 17196647812, 1, 0⟩, ⟨17196647808, 17196647808, 1, 0⟩, ⟨17196646544, 17196646544, 1, 0⟩, ⟨17196646536, 17196646536, 1, 0⟩, ⟨17198753168, 17198767504, 2048, 0⟩, ⟨17198753152, 17198767488, 2048, 0⟩, ⟨17196646533, 17196646533, 1, 0⟩, ⟨17196646529, 17196646529, 1, 0⟩, ⟨17198753155, 17198767491, 2048, 0⟩, ⟨17198753154, 17198767490, 2048, 0⟩, ⟨17198753156, 17198767492, 2048, 0⟩, ⟨17198753280, 17198767616, 2048, 0⟩, ⟨17205035139, 17205149827, 8192, 0⟩, ⟨17205035141, 17205149829, 8192, 0⟩, ⟨17205035140, 17205149828, 8192, 0⟩, ⟨17205035136, 17205149824, 8192, 0⟩, ⟨17202937984, 17204379776, 131072, 0⟩, ⟨17211359376, 17211408272, 256, 0⟩, ⟨17207138304, 17207138975, 1, 0⟩, ⟨17207136256, 17207137664, 128, 0⟩, ⟨17188261632, 17188261632, 1, 0⟩, ⟨17181967232, 17181967263, 1, 0⟩] ++ [⟨17198743816, 17198743816, 1, 0⟩, ⟨17198743808, 17198743808, 1, 0⟩, ⟨17198743553, 17198743553, 1, 0⟩, ⟨17198743688, 17198743695, 1, 0⟩]) [.pwr, .flt, .evc, .sa, .layer, .tl, .free, .hlth, .cal, .pair, .lane] s (State.commitBlock s 1) := by
  unfold State.commitBlock
  have h0 : Fr ([⟨17181966336, 17181966336, 1, 0⟩, ⟨17181967360, 17181967360, 1, 0⟩, ⟨17186226581, 17186257301, 2048, 0⟩, ⟨17181966338, 17181966338, 1, 0⟩, ⟨17181966495, 17181966495, 1, 0⟩, ⟨17186168832, 17186169247, 1, 0⟩, ⟨17196646656, 17196646656, 1, 0⟩, ⟨17196646401, 17196646401, 1, 0⟩, ⟨17196647812, 17196647812, 1, 0⟩, ⟨17196647808, 17196647808, 1, 0⟩, ⟨17196646544, 17196646544, 1, 0⟩, ⟨17196646536, 17196646536, 1, 0⟩, ⟨17198753168, 17198767504, 2048, 0⟩, ⟨17198753152, 17198767488, 2048, 0⟩, ⟨17196646533, 17196646533, 1, 0⟩, ⟨17196646529, 17196646529, 1, 0⟩, ⟨17198753155, 17198767491, 2048, 0⟩, ⟨17198753154, 17198767490, 2048, 0⟩, ⟨17198753156, 17198767492, 2048, 0⟩, ⟨17198753280, 17198767616, 2048, 0⟩, ⟨17205035139, 17205149827, 8192, 0⟩, ⟨17205035141, 17205149829, 8192, 0⟩, ⟨17205035140, 17205149828, 8192, 0⟩, ⟨17205035136, 17205149824, 8192, 0⟩, ⟨17202937984, 17204379776, 131072, 0⟩, ⟨17211359376, 17211408272, 256, 0⟩, ⟨17207138304, 17207138975, 1, 0⟩, ⟨17207136256, 17207137664, 128, 0⟩, ⟨17188261632, 17188261632, 1, 0⟩, ⟨17181967232, 17181967263, 1, 0⟩] ++ [⟨17198743816, 17198743816, 1, 0⟩, ⟨17198743808, 17198743808, 1, 0⟩, ⟨17198743553, 17198743553, 1, 0⟩, ⟨17198743688, 17198743695, 1, 0⟩]) [.pwr, .flt, .evc, .sa, .layer, .tl, .free, .hlth, .cal, .pair, .lane] s (s.wr (commitBit 1) 1) := Fr.wr (xs := [⟨17196646401, 17196646401, 1, 0⟩]) rfl rfl (Fr.refl _)
  exact Fr.ite (Fr.refl _) (Fr.ite h0 (Fr.ite (Fr.step State.captureTold_fr1 rfl rfl h0) (Fr.ite (Fr.step State.captureTold_fr1 rfl rfl h0) h0)))

theorem State.captureTold_fr2 {s b now frame} : Fr [⟨17181966336, 17181966336, 1, 0⟩, ⟨17181967360, 17181967360, 1, 0⟩, ⟨17186226581, 17186257301, 2048, 0⟩, ⟨17181966338, 17181966338, 1, 0⟩, ⟨17181966495, 17181966495, 1, 0⟩, ⟨17186168832, 17186169247, 1, 0⟩, ⟨17200840960, 17200840960, 1, 0⟩, ⟨17200840705, 17200840705, 1, 0⟩] [.pwr, .flt, .evc, .ft, .pair, .lane] s (State.captureTold s 2 b now frame) := by
  unfold State.captureTold
  extract_lets +onlyGivenNames x0
  refine Fr.cut x0 ?_ (fun h0 => ?_)
  · exact Fr.step State.ftCapture_fr rfl rfl (Fr.refl _)
  clear_value x0
  exact Fr.ite (Fr.step State.mirrorCommit_fr rfl rfl h0) h0

theorem State.commitBlock_fr2 {s} : Fr [⟨17181966336, 17181966336, 1, 0⟩, ⟨17181967360, 17181967360, 1, 0⟩, ⟨17186226581, 17186257301, 2048, 0⟩, ⟨17181966338, 17181966338, 1, 0⟩, ⟨17181966495, 17181966495, 1, 0⟩, ⟨17186168832, 17186169247, 1, 0⟩, ⟨17200840960, 17200840960, 1, 0⟩, ⟨17200840705, 17200840705, 1, 0⟩] [.pwr, .flt, .evc, .ft, .pair, .lane] s (State.commitBlock s 2) := by
  unfold State.commitBlock
  have h0 : Fr [⟨17181966336, 17181966336, 1, 0⟩, ⟨17181967360, 17181967360, 1, 0⟩, ⟨17186226581, 17186257301, 2048, 0⟩, ⟨17181966338, 17181966338, 1, 0⟩, ⟨17181966495, 17181966495, 1, 0⟩, ⟨17186168832, 17186169247, 1, 0⟩, ⟨17200840960, 17200840960, 1, 0⟩, ⟨17200840705, 17200840705, 1, 0⟩] [.pwr, .flt, .evc, .ft, .pair, .lane] s (s.wr (commitBit 2) 1) := Fr.wr (xs := [⟨17200840705, 17200840705, 1, 0⟩]) rfl rfl (Fr.refl _)
  exact Fr.ite (Fr.refl _) (Fr.ite h0 (Fr.ite (Fr.step State.captureTold_fr2 rfl rfl h0) (Fr.ite (Fr.step State.captureTold_fr2 rfl rfl h0) h0)))

theorem State.captureTold_fr3 {s b now frame} : Fr [⟨17181966336, 17181966336, 1, 0⟩, ⟨17181967360, 17181967360, 1, 0⟩, ⟨17186226581, 17186257301, 2048, 0⟩, ⟨17181966338, 17181966338, 1, 0⟩, ⟨17181966495, 17181966495, 1, 0⟩, ⟨17186168832, 17186169247, 1, 0⟩, ⟨17207132416, 17207132416, 1, 0⟩, ⟨17207132161, 17207132161, 1, 0⟩] [.pwr, .flt, .evc, .hlth, .pair, .lane] s (State.captureTold s 3 b now frame) := by
  unfold State.captureTold
  extract_lets +onlyGivenNames x0
  refine Fr.cut x0 ?_ (fun h0 => ?_)
  · exact Fr.step State.hlthCapture_fr rfl rfl (Fr.refl _)
  clear_value x0
  exact Fr.ite (Fr.step State.mirrorCommit_fr rfl rfl h0) h0

theorem State.commitBlock_fr3 {s} : Fr [⟨17181966336, 17181966336, 1, 0⟩, ⟨17181967360, 17181967360, 1, 0⟩, ⟨17186226581, 17186257301, 2048, 0⟩, ⟨17181966338, 17181966338, 1, 0⟩, ⟨17181966495, 17181966495, 1, 0⟩, ⟨17186168832, 17186169247, 1, 0⟩, ⟨17207132416, 17207132416, 1, 0⟩, ⟨17207132161, 17207132161, 1, 0⟩] [.pwr, .flt, .evc, .hlth, .pair, .lane] s (State.commitBlock s 3) := by
  unfold State.commitBlock
  have h0 : Fr [⟨17181966336, 17181966336, 1, 0⟩, ⟨17181967360, 17181967360, 1, 0⟩, ⟨17186226581, 17186257301, 2048, 0⟩, ⟨17181966338, 17181966338, 1, 0⟩, ⟨17181966495, 17181966495, 1, 0⟩, ⟨17186168832, 17186169247, 1, 0⟩, ⟨17207132416, 17207132416, 1, 0⟩, ⟨17207132161, 17207132161, 1, 0⟩] [.pwr, .flt, .evc, .hlth, .pair, .lane] s (s.wr (commitBit 3) 1) := Fr.wr (xs := [⟨17207132161, 17207132161, 1, 0⟩]) rfl rfl (Fr.refl _)
  exact Fr.ite (Fr.refl _) (Fr.ite h0 (Fr.ite (Fr.step State.captureTold_fr3 rfl rfl h0) (Fr.ite (Fr.step State.captureTold_fr3 rfl rfl h0) h0)))

theorem State.captureTold_fr4 {s b now frame} : Fr [⟨17181966336, 17181966336, 1, 0⟩, ⟨17181967360, 17181967360, 1, 0⟩, ⟨17186226581, 17186257301, 2048, 0⟩, ⟨17181966338, 17181966338, 1, 0⟩, ⟨17181966495, 17181966495, 1, 0⟩, ⟨17186168832, 17186169247, 1, 0⟩, ⟨17209229568, 17209229568, 1, 0⟩, ⟨17209229313, 17209229313, 1, 0⟩] [.pwr, .flt, .evc, .lsc, .pair, .lane] s (State.captureTold s 4 b now frame) := by
  unfold State.captureTold
  extract_lets +onlyGivenNames x0
  refine Fr.cut x0 ?_ (fun h0 => ?_)
  · exact Fr.step State.lscCapture_fr rfl rfl (Fr.refl _)
  clear_value x0
  exact Fr.ite (Fr.step State.mirrorCommit_fr rfl rfl h0) h0

theorem State.commitBlock_fr4 {s} : Fr [⟨17181966336, 17181966336, 1, 0⟩, ⟨17181967360, 17181967360, 1, 0⟩, ⟨17186226581, 17186257301, 2048, 0⟩, ⟨17181966338, 17181966338, 1, 0⟩, ⟨17181966495, 17181966495, 1, 0⟩, ⟨17186168832, 17186169247, 1, 0⟩, ⟨17209229568, 17209229568, 1, 0⟩, ⟨17209229313, 17209229313, 1, 0⟩] [.pwr, .flt, .evc, .lsc, .pair, .lane] s (State.commitBlock s 4) := by
  unfold State.commitBlock
  have h0 : Fr [⟨17181966336, 17181966336, 1, 0⟩, ⟨17181967360, 17181967360, 1, 0⟩, ⟨17186226581, 17186257301, 2048, 0⟩, ⟨17181966338, 17181966338, 1, 0⟩, ⟨17181966495, 17181966495, 1, 0⟩, ⟨17186168832, 17186169247, 1, 0⟩, ⟨17209229568, 17209229568, 1, 0⟩, ⟨17209229313, 17209229313, 1, 0⟩] [.pwr, .flt, .evc, .lsc, .pair, .lane] s (s.wr (commitBit 4) 1) := Fr.wr (xs := [⟨17209229313, 17209229313, 1, 0⟩]) rfl rfl (Fr.refl _)
  exact Fr.ite (Fr.refl _) (Fr.ite h0 (Fr.ite (Fr.step State.captureTold_fr4 rfl rfl h0) (Fr.ite (Fr.step State.captureTold_fr4 rfl rfl h0) h0)))

theorem State.pairDue_fr {s} : Fr ([⟨17198743816, 17198743816, 1, 0⟩, ⟨17181966336, 17181966336, 1, 0⟩, ⟨17181967360, 17181967360, 1, 0⟩, ⟨17186226581, 17186257301, 2048, 0⟩, ⟨17181966338, 17181966338, 1, 0⟩, ⟨17181966495, 17181966495, 1, 0⟩, ⟨17186168832, 17186169247, 1, 0⟩, ⟨17198743808, 17198743808, 1, 0⟩, ⟨17198743553, 17198743553, 1, 0⟩, ⟨17198753156, 17198767492, 2048, 0⟩, ⟨17198743688, 17198743695, 1, 0⟩, ⟨17196646656, 17196646656, 1, 0⟩, ⟨17196646401, 17196646401, 1, 0⟩, ⟨17196647812, 17196647812, 1, 0⟩, ⟨17196647808, 17196647808, 1, 0⟩, ⟨17196646544, 17196646544, 1, 0⟩, ⟨17196646536, 17196646536, 1, 0⟩, ⟨17198753168, 17198767504, 2048, 0⟩, ⟨17198753152, 17198767488, 2048, 0⟩, ⟨17196646533, 17196646533, 1, 0⟩, ⟨17196646529, 17196646529, 1, 0⟩, ⟨17198753155, 17198767491, 2048, 0⟩, ⟨17198753154, 17198767490, 2048, 0⟩, ⟨17198753280, 17198767616, 2048, 0⟩, ⟨17205035139, 17205149827, 8192, 0⟩, ⟨17205035141, 17205149829, 8192, 0⟩, ⟨17205035140, 17205149828, 8192, 0⟩, ⟨17205035136, 17205149824, 8192, 0⟩, ⟨17202937984, 17204379776, 131072, 0⟩, ⟨17211359376, 17211408272, 256, 0⟩] ++ [⟨17207138304, 17207138975, 1, 0⟩, ⟨17207136256, 17207137664, 128, 0⟩, ⟨17188261632, 17188261632, 1, 0⟩, ⟨17181967232, 17181967263, 1, 0⟩, ⟨17200840960, 17200840960, 1, 0⟩, ⟨17200840705, 17200840705, 1, 0⟩, ⟨17207132416, 17207132416, 1, 0⟩, ⟨17207132161, 17207132161, 1, 0⟩, ⟨17209229568, 17209229568, 1, 0⟩, ⟨17209229313, 17209229313, 1, 0⟩]) [.pair, .pwr, .flt, .evc, .layer, .sa, .tl, .free, .hlth, .cal, .ft, .lsc] s (State.pairDue s) := by
  unfold State.pairDue
  extract_lets -merge -underBinder +onlyGivenNames x0
  try clear_value x0
  refine Fr.foldl' ?_ (fun t x hx ht => ?_)
  · refine Fr.set_pair rfl ?_
    first | assumption | exact Fr.refl _
  · refine Fr.foldl' ?_ (fun t x hx ht => ?_)
    · first | assumption | exact Fr.refl _
    · refine Fr.iteh (fun _ => ?_) (fun _ => ?_)
      · first | assumption | exact Fr.refl _
      · refine Fr.iteh (fun _ => ?_) (fun _ => ?_)
        · refine Fr.step State.captureLed_fr rfl rfl ?_
          first | assumption | exact Fr.refl _
        · refine Fr.set_pair rfl ?_
          first | assumption | exact Fr.refl _

theorem State.hlthGuard_fr {s} {a1} : Fr [] [.hlth, .pair, .lane] s (State.hlthGuard s a1) := by
  unfold State.hlthGuard
  refine Fr.iteh (fun _ => ?_) (fun _ => ?_)
  · refine Fr.set_hlth rfl ?_
    first | assumption | exact Fr.refl _
  · refine Fr.iteh (fun _ => ?_) (fun _ => ?_)
    · first | assumption | exact Fr.refl _
    · extract_lets -merge -underBinder +onlyGivenNames x0
      try clear_value (e0 : x0 = _)
      extract_lets -merge -underBinder +onlyGivenNames x1
      try clear_value x1
      extract_lets -merge -underBinder +onlyGivenNames x2
      try clear_value x2
      extract_lets -merge -underBinder +onlyGivenNames x3
      try clear_value x3
      extract_lets -merge -underBinder +onlyGivenNames x4
      try clear_value x4
      extract_lets -merge -underBinder +onlyGivenNames x5
      extract_lets -merge -underBinder +onlyGivenNames x6
      refine Fr.cut x6 ?_ (fun h6 => ?_)
      · unfold x6
        refine Fr.set_hlth rfl ?_
        first | assumption | exact Fr.refl _
      try clear_value x6
      refine Fr.iteh (fun _ => ?_) (fun _ => ?_)
      · refine Fr.step State.pairSend_fr rfl rfl ?_
        first | assumption | exact Fr.refl _
      · first | assumption | exact Fr.refl _

theorem State.guardPass_fr {s} : Fr ([⟨17198743816, 17198743816, 1, 0⟩, ⟨17181966336, 17181966336, 1, 0⟩, ⟨17181967360, 17181967360, 1, 0⟩, ⟨17186226581, 17186257301, 2048, 0⟩, ⟨17181966338, 17181966338, 1, 0⟩, ⟨17181966495, 17181966495, 1, 0⟩, ⟨17186168832, 17186169247, 1, 0⟩, ⟨17198743808, 17198743808, 1, 0⟩, ⟨17198743553, 17198743553, 1, 0⟩, ⟨17198753156, 17198767492, 2048, 0⟩, ⟨17198743688, 17198743695, 1, 0⟩, ⟨17196646656, 17196646656, 1, 0⟩, ⟨17196646401, 17196646401, 1, 0⟩, ⟨17196647812, 17196647812, 1, 0⟩, ⟨17196647808, 17196647808, 1, 0⟩, ⟨17196646544, 17196646544, 1, 0⟩, ⟨17196646536, 17196646536, 1, 0⟩, ⟨17198753168, 17198767504, 2048, 0⟩, ⟨17198753152, 17198767488, 2048, 0⟩, ⟨17196646533, 17196646533, 1, 0⟩, ⟨17196646529, 17196646529, 1, 0⟩, ⟨17198753155, 17198767491, 2048, 0⟩, ⟨17198753154, 17198767490, 2048, 0⟩, ⟨17198753280, 17198767616, 2048, 0⟩, ⟨17205035139, 17205149827, 8192, 0⟩, ⟨17205035141, 17205149829, 8192, 0⟩, ⟨17205035140, 17205149828, 8192, 0⟩, ⟨17205035136, 17205149824, 8192, 0⟩, ⟨17202937984, 17204379776, 131072, 0⟩, ⟨17211359376, 17211408272, 256, 0⟩] ++ [⟨17207138304, 17207138975, 1, 0⟩, ⟨17207136256, 17207137664, 128, 0⟩, ⟨17188261632, 17188261632, 1, 0⟩, ⟨17181967232, 17181967263, 1, 0⟩, ⟨17200840960, 17200840960, 1, 0⟩, ⟨17200840705, 17200840705, 1, 0⟩, ⟨17207132416, 17207132416, 1, 0⟩, ⟨17207132161, 17207132161, 1, 0⟩, ⟨17209229568, 17209229568, 1, 0⟩, ⟨17209229313, 17209229313, 1, 0⟩]) [.sa, .hlth, .pair, .lane, .pwr, .flt, .evc, .layer, .tl, .free, .cal, .ft, .lsc] s (State.guardPass s) := by
  unfold State.guardPass
  extract_lets -merge -underBinder +onlyGivenNames x0
  try clear_value (e0 : x0 = _)
  refine Fr.iteh (fun _ => ?_) (fun _ => ?_)
  · first | assumption | exact Fr.refl _
  · extract_lets -merge -underBinder +onlyGivenNames x1
    refine Fr.cut x1 ?_ (fun h1 => ?_)
    · unfold x1
      split
      · refine Fr.step State.setSa_fr rfl rfl ?_
        first | assumption | exact Fr.refl _
      · first | assumption | exact Fr.refl _
    try clear_value x1
    extract_lets -merge -underBinder +onlyGivenNames x2
    refine Fr.cut x2 ?_ (fun h2 => ?_)
    · unfold x2
      refine Fr.step State.hlthGuard_fr rfl rfl ?_
      refine Fr.foldl' ?_ (fun t x hx ht => ?_)
      · first | assumption | exact Fr.refl _
      · refine Fr.step State.guardBlock_fr rfl rfl ?_
        first | assumption | exact Fr.refl _
    try clear_value x2
    refine Fr.step State.setFt_fr rfl rfl ?_
    first | assumption | exact Fr.refl _

theorem State.freeCaptured_fr {s} : Fr [] [.sa, .ft, .layer, .hlth, .lsc] s (State.freeCaptured s) := by
  unfold State.freeCaptured
  extract_lets -merge -underBinder +onlyGivenNames x0
  try clear_value x0
  extract_lets -merge -underBinder +onlyGivenNames x1
  extract_lets -merge -underBinder +onlyGivenNames x2
  refine Fr.cut x2 ?_ (fun h2 => ?_)
  · unfold x2
    refine Fr.step State.setSa_fr rfl rfl ?_
    first | assumption | exact Fr.refl _
  try clear_value x2
  extract_lets -merge -underBinder +onlyGivenNames x3
  extract_lets -merge -underBinder +onlyGivenNames x4
  refine Fr.cut x4 ?_ (fun h4 => ?_)
  · unfold x4
    refine Fr.step State.setFt_fr rfl rfl ?_
    first | assumption | exact Fr.refl _
  try clear_value x4
  extract_lets -merge -underBinder +onlyGivenNames x5
  extract_lets -merge -underBinder +onlyGivenNames x6
  refine Fr.cut x6 ?_ (fun h6 => ?_)
  · unfold x6
    refine Fr.step State.setLayer_fr rfl rfl ?_
    first | assumption | exact Fr.refl _
  try clear_value x6
  refine Fr.set_hlth_lsc rfl ?_
  first | assumption | exact Fr.refl _

theorem State.ftChange_fr {s} : Fr ([⟨17181966336, 17181966336, 1, 0⟩, ⟨17181967360, 17181967360, 1, 0⟩, ⟨17186226581, 17186257301, 2048, 0⟩, ⟨17181966338, 17181966338, 1, 0⟩, ⟨17181966495, 17181966495, 1, 0⟩, ⟨17186168832, 17186169247, 1, 0⟩, ⟨17200843408, 17200843408, 1, 0⟩, ⟨17198743816, 17198743816, 1, 0⟩, ⟨17198743808, 17198743808, 1, 0⟩, ⟨17198743553, 17198743553, 1, 0⟩, ⟨17198753156, 17198767492, 2048, 0⟩, ⟨17198743688, 17198743695, 1, 0⟩, ⟨17196646656, 17196646656, 1, 0⟩, ⟨17196646401, 17196646401, 1, 0⟩, ⟨17196647812, 17196647812, 1, 0⟩, ⟨17196647808, 17196647808, 1, 0⟩, ⟨17196646544, 17196646544, 1, 0⟩, ⟨17196646536, 17196646536, 1, 0⟩, ⟨17198753168, 17198767504, 2048, 0⟩, ⟨17198753152, 17198767488, 2048, 0⟩, ⟨17196646533, 17196646533, 1, 0⟩, ⟨17196646529, 17196646529, 1, 0⟩, ⟨17198753155, 17198767491, 2048, 0⟩, ⟨17198753154, 17198767490, 2048, 0⟩, ⟨17198753280, 17198767616, 2048, 0⟩, ⟨17205035139, 17205149827, 8192, 0⟩, ⟨17205035141, 17205149829, 8192, 0⟩, ⟨17205035140, 17205149828, 8192, 0⟩, ⟨17205035136, 17205149824, 8192, 0⟩, ⟨17202937984, 17204379776, 131072, 0⟩] ++ [⟨17211359376, 17211408272, 256, 0⟩, ⟨17207138304, 17207138975, 1, 0⟩, ⟨17207136256, 17207137664, 128, 0⟩, ⟨17188261632, 17188261632, 1, 0⟩, ⟨17181967232, 17181967263, 1, 0⟩, ⟨17200840960, 17200840960, 1, 0⟩, ⟨17200840705, 17200840705, 1, 0⟩, ⟨17207132416, 17207132416, 1, 0⟩, ⟨17207132161, 17207132161, 1, 0⟩, ⟨17209229568, 17209229568, 1, 0⟩, ⟨17209229313, 17209229313, 1, 0⟩]) [.ft, .pwr, .flt, .evc, .sa, .layer, .hlth, .lsc, .cal, .pair, .lane, .tl, .free] s (State.ftChange s) := by
  unfold State.ftChange
  refine Fr.iteh (fun _ => ?_) (fun _ => ?_)
  · first | assumption | exact Fr.refl _
  · extract_lets -merge -underBinder +onlyGivenNames x0
    try clear_value x0
    extract_lets -merge -underBinder +onlyGivenNames x1
    try clear_value (e1 : x1 = _)
    extract_lets -merge -underBinder +onlyGivenNames x2
    try clear_value (e2 : x2 = _)
    extract_lets -merge -underBinder +onlyGivenNames x3
    extract_lets -merge -underBinder +onlyGivenNames x4
    refine Fr.cut x4 ?_ (fun h4 => ?_)
    · unfold x4
      refine Fr.step State.setFt_fr rfl rfl ?_
      first | assumption | exact Fr.refl _
    try clear_value x4
    extract_lets -merge -underBinder +onlyGivenNames x5
    extract_lets -merge -underBinder +onlyGivenNames x6
    extract_lets -merge -underBinder +onlyGivenNames x7
    refine Fr.cut x7 ?_ (fun h7 => ?_)
    · unfold x7
      refine Fr.iteh (fun _ => ?_) (fun _ => ?_)
      · refine Fr.step State.setFt_fr rfl rfl ?_
        first | assumption | exact Fr.refl _
      · refine Fr.step State.setFt_fr rfl rfl ?_
        first | assumption | exact Fr.refl _
    try clear_value x7
    extract_lets -merge -underBinder +onlyGivenNames x8
    refine Fr.cut x8 ?_ (fun h8 => ?_)
    · unfold x8
      refine Fr.iteh (fun _ => ?_) (fun _ => ?_)
      · first | assumption | exact Fr.refl _
      · refine Fr.step State.fire_fr rfl rfl ?_
        refine Fr.inc (xs := [⟨17200843408, 17200843408, 1, 0⟩]) rfl rfl ?_
        refine Fr.step State.freeCaptured_fr rfl rfl ?_
        refine Fr.step State.calBroken_fr rfl rfl ?_
        first | assumption | exact Fr.refl _
    try clear_value x8
    refine Fr.iteh (fun _ => ?_) (fun _ => ?_)
    · refine Fr.step State.guardPass_fr rfl rfl ?_
      first | assumption | exact Fr.refl _
    · first | assumption | exact Fr.refl _

theorem State.shiftInstants_fr {s} {a1} : Fr [] [.ft, .maskin] s (State.shiftInstants s a1) := by
  unfold State.shiftInstants
  extract_lets -merge -underBinder +onlyGivenNames x0
  extract_lets -merge -underBinder +onlyGivenNames x1
  refine Fr.cut x1 ?_ (fun h1 => ?_)
  · unfold x1
    refine Fr.step State.setFt_fr rfl rfl ?_
    first | assumption | exact Fr.refl _
  try clear_value x1
  refine Fr.step State.setMask_fr rfl rfl ?_
  first | assumption | exact Fr.refl _

theorem State.ftStepped_fr {a0} {s} : Fr ([⟨17181966336, 17181966336, 1, 0⟩, ⟨17181967360, 17181967360, 1, 0⟩, ⟨17186226581, 17186257301, 2048, 0⟩, ⟨17181966338, 17181966338, 1, 0⟩, ⟨17181966495, 17181966495, 1, 0⟩, ⟨17186168832, 17186169247, 1, 0⟩, ⟨17200843408, 17200843408, 1, 0⟩, ⟨17198743816, 17198743816, 1, 0⟩, ⟨17198743808, 17198743808, 1, 0⟩, ⟨17198743553, 17198743553, 1, 0⟩, ⟨17198753156, 17198767492, 2048, 0⟩, ⟨17198743688, 17198743695, 1, 0⟩, ⟨17196646656, 17196646656, 1, 0⟩, ⟨17196646401, 17196646401, 1, 0⟩, ⟨17196647812, 17196647812, 1, 0⟩, ⟨17196647808, 17196647808, 1, 0⟩, ⟨17196646544, 17196646544, 1, 0⟩, ⟨17196646536, 17196646536, 1, 0⟩, ⟨17198753168, 17198767504, 2048, 0⟩, ⟨17198753152, 17198767488, 2048, 0⟩, ⟨17196646533, 17196646533, 1, 0⟩, ⟨17196646529, 17196646529, 1, 0⟩, ⟨17198753155, 17198767491, 2048, 0⟩, ⟨17198753154, 17198767490, 2048, 0⟩, ⟨17198753280, 17198767616, 2048, 0⟩, ⟨17205035139, 17205149827, 8192, 0⟩, ⟨17205035141, 17205149829, 8192, 0⟩, ⟨17205035140, 17205149828, 8192, 0⟩, ⟨17205035136, 17205149824, 8192, 0⟩, ⟨17202937984, 17204379776, 131072, 0⟩] ++ [⟨17211359376, 17211408272, 256, 0⟩, ⟨17207138304, 17207138975, 1, 0⟩, ⟨17207136256, 17207137664, 128, 0⟩, ⟨17188261632, 17188261632, 1, 0⟩, ⟨17181967232, 17181967263, 1, 0⟩, ⟨17200840960, 17200840960, 1, 0⟩, ⟨17200840705, 17200840705, 1, 0⟩, ⟨17207132416, 17207132416, 1, 0⟩, ⟨17207132161, 17207132161, 1, 0⟩, ⟨17209229568, 17209229568, 1, 0⟩, ⟨17209229313, 17209229313, 1, 0⟩]) [.ft, .pwr, .flt, .evc, .sa, .layer, .hlth, .lsc, .cal, .pair, .lane, .tl, .free, .maskin] s (State.ftStepped a0 s) := by
  unfold State.ftStepped
  refine Fr.step State.ftChange_fr rfl rfl ?_
  refine Fr.step State.shiftInstants_fr rfl rfl ?_
  first | assumption | exact Fr.refl _

theorem State.countAbort_fr {s} {a1} : Fr [⟨17200843016, 17200843016, 1, 0⟩, ⟨17200843008, 17200843008, 1, 0⟩, ⟨17181966336, 17181966336, 1, 0⟩, ⟨17181967360, 17181967360, 1, 0⟩, ⟨17186226581, 17186257301, 2048, 0⟩, ⟨17181966338, 17181966338, 1, 0⟩, ⟨17181966495, 17181966495, 1, 0⟩, ⟨17186168832, 17186169247, 1, 0⟩, ⟨17200840837, 17200840837, 1, 0⟩] [.flt, .pwr, .evc, .ft] s (State.countAbort s a1) := by
  unfold State.countAbort
  extract_lets -merge -underBinder +onlyGivenNames x0
  try clear_value (e0 : x0 = _)
  extract_lets -merge -underBinder +onlyGivenNames x1
  refine Fr.cut x1 ?_ (fun h1 => ?_)
  · unfold x1
    refine Fr.wr (xs := [⟨17200843016, 17200843016, 1, 0⟩]) rfl rfl ?_
    refine Fr.wr (xs := [⟨17200843008, 17200843008, 1, 0⟩]) rfl rfl ?_
    first | assumption | exact Fr.refl _
  try clear_value x1
  refine Fr.iteh (fun _ => ?_) (fun _ => ?_)
  · refine Fr.step State.raise_fr rfl rfl ?_
    refine Fr.step State.fire_fr rfl rfl ?_
    refine Fr.wr (xs := [⟨17200840837, 17200840837, 1, 0⟩]) rfl rfl ?_
    refine Fr.step State.setFt_fr rfl rfl ?_
    first | assumption | exact Fr.refl _
  · first | assumption | exact Fr.refl _

theorem State.passAAborts_fr {s} {a1} {a2} : Fr [⟨17223909508, 17223909508, 1, 0⟩, ⟨17223909507, 17223909507, 1, 0⟩, ⟨17181966336, 17181966336, 1, 0⟩, ⟨17181967360, 17181967360, 1, 0⟩, ⟨17186226581, 17186257301, 2048, 0⟩, ⟨17181966338, 17181966338, 1, 0⟩, ⟨17181966495, 17181966495, 1, 0⟩, ⟨17186168832, 17186169247, 1, 0⟩, ⟨17223909509, 17223909509, 1, 0⟩, ⟨17223910272, 17223910283, 1, 0⟩, ⟨17223910400, 17223910400, 1, 0⟩, ⟨17200843016, 17200843016, 1, 0⟩, ⟨17200843008, 17200843008, 1, 0⟩, ⟨17200840837, 17200840837, 1, 0⟩] [.pair, .lane, .pwr, .flt, .evc, .ft] s (State.passAAborts s a1 a2) := by
  unfold State.passAAborts
  refine Fr.step State.pairRecord_fr rfl rfl ?_
  refine Fr.step State.countAbort_fr rfl rfl ?_
  first | assumption | exact Fr.refl _

theorem State.wbCrcs_fr {s} {a1} : Fr [] [.free] s (State.wbCrcs s a1).2 := by
  unfold State.wbCrcs
  refine Fr.iteh2 (fun _ => ?_) (fun _ => ?_)
  · refine Fr.mk2 ?_
    first | assumption | exact Fr.refl _
  · refine Fr.foldl2 ?_ (fun t x ht => ?_)
    · refine Fr.mk2 ?_
      first | assumption | exact Fr.refl _
    · refine Fr.iteh2 (fun _ => ?_) (fun _ => ?_)
      · extract_lets -merge -underBinder +onlyGivenNames x0
        refine Fr.cut x0.2 ?_ (fun h0 => ?_)
        · unfold x0
          refine Fr.step State.fresh_fr rfl rfl ?_
          first | assumption | exact Fr.refl _
        try clear_value x0
        refine Fr.mk2 ?_
        first | assumption | exact Fr.refl _
      · refine Fr.mk2 ?_
        first | assumption | exact Fr.refl _

theorem State.wbHeader_fr {s} {a1} {a2} : Fr [⟨17181966336, 17181966336, 1, 0⟩, ⟨17181967360, 17181967360, 1, 0⟩, ⟨17186226581, 17186257301, 2048, 0⟩, ⟨17181966338, 17181966338, 1, 0⟩, ⟨17181966495, 17181966495, 1, 0⟩, ⟨17186168832, 17186169247, 1, 0⟩, ⟨17194549776, 17194549776, 1, 0⟩, ⟨17192452352, 17192452352, 1, 0⟩, ⟨17192452608, 17192452608, 1, 0⟩, ⟨17192452480, 17192452480, 1, 0⟩, ⟨17192452229, 17192452229, 1, 0⟩, ⟨17192452228, 17192452228, 1, 0⟩, ⟨17188261632, 17188261632, 1, 0⟩, ⟨17181967232, 17181967263, 1, 0⟩] [.free, .mem, .flt, .pwr, .evc, .memc] s (State.wbHeader s a1 a2) := by
  unfold State.wbHeader
  refine Fr.iteh (fun _ => ?_) (fun _ => ?_)
  · first | assumption | exact Fr.refl _
  · extract_lets -merge -underBinder +onlyGivenNames x0
    refine Fr.cut x0.2 ?_ (fun h0 => ?_)
    · unfold x0
      refine Fr.step State.wbCrcs_fr rfl rfl ?_
      first | assumption | exact Fr.refl _
    try clear_value x0
    extract_lets -merge -underBinder +onlyGivenNames x1
    refine Fr.cut x1 ?_ (fun h1 => ?_)
    · unfold x1
      first | assumption | exact Fr.refl _
    try clear_value x1
    extract_lets -merge -underBinder +onlyGivenNames x2
    try clear_value x2
    refine Fr.step State.ddWrite_fr rfl rfl ?_
    first | assumption | exact Fr.refl _

theorem State.streamAbort_fr {s} {a1} {a2} : Fr ([⟨17181966336, 17181966336, 1, 0⟩, ⟨17181967360, 17181967360, 1, 0⟩, ⟨17186226581, 17186257301, 2048, 0⟩, ⟨17181966338, 17181966338, 1, 0⟩, ⟨17181966495, 17181966495, 1, 0⟩, ⟨17186168832, 17186169247, 1, 0⟩, ⟨17194549776, 17194549776, 1, 0⟩, ⟨17192452352, 17192452352, 1, 0⟩, ⟨17192452608, 17192452608, 1, 0⟩, ⟨17192452480, 17192452480, 1, 0⟩, ⟨17192452229, 17192452229, 1, 0⟩, ⟨17192452228, 17192452228, 1, 0⟩, ⟨17188261632, 17188261632, 1, 0⟩, ⟨17181967232, 17181967263, 1, 0⟩, ⟨17200843016, 17200843016, 1, 0⟩, ⟨17200843008, 17200843008, 1, 0⟩, ⟨17200840837, 17200840837, 1, 0⟩, ⟨17200840833, 17200840833, 1, 0⟩, ⟨17223909508, 17223909508, 1, 0⟩, ⟨17223909507, 17223909507, 1, 0⟩, ⟨17223909509, 17223909509, 1, 0⟩, ⟨17223910272, 17223910283, 1, 0⟩, ⟨17223910400, 17223910400, 1, 0⟩, ⟨17211359376, 17211408272, 256, 0⟩, ⟨17209229443, 17209229443, 1, 0⟩, ⟨17209229442, 17209229442, 1, 0⟩, ⟨17209231360, 17209231360, 1, 0⟩, ⟨17209231504, 17209231504, 1, 0⟩, ⟨17209231488, 17209231488, 1, 0⟩, ⟨17209231376, 17209231376, 1, 0⟩] ++ [⟨17209245696, 17209251736, 8, 0⟩]) [.ft, .free, .mem, .flt, .pwr, .evc, .memc, .pair, .lane, .lsc] s (State.streamAbort s a1 a2) := by
  unfold State.streamAbort
  split
  · first | assumption | exact Fr.refl _
  · refine Fr.iteh (fun _ => ?_) (fun _ => ?_)
    · first | assumption | exact Fr.refl _
    · extract_lets -merge -underBinder +onlyGivenNames x0
      extract_lets -merge -underBinder +onlyGivenNames x1
      extract_lets -merge -underBinder +onlyGivenNames x2
      refine Fr.cut x2 ?_ (fun h2 => ?_)
      · unfold x2
        refine Fr.step State.setFt_fr rfl rfl ?_
        first | assumption | exact Fr.refl _
      try clear_value x2
      extract_lets -merge -underBinder +onlyGivenNames x3
      refine Fr.cut x3 ?_ (fun h3 => ?_)
      · unfold x3
        refine Fr.step State.wbHeader_fr rfl rfl ?_
        refine Fr.step State.countAbort_fr rfl rfl ?_
        refine Fr.wr (xs := [⟨17200840833, 17200840833, 1, 0⟩]) rfl rfl ?_
        first | assumption | exact Fr.refl _
      try clear_value x3
      refine Fr.step State.pairRecord_fr rfl rfl ?_
      refine Fr.step State.lscDrop_fr rfl rfl ?_
      first | assumption | exact Fr.refl _

theorem State.streamSend_fr {s} {a1} {a2} {a3} {a4} {a5} : Fr [] [.lane, .tl] s (State.streamSend s a1 a2 a3 a4 a5) := by
  unfold State.streamSend
  refine Fr.iteh (fun _ => ?_) (fun _ => ?_)
  · refine Fr.step State.tlSend_fr rfl rfl ?_
    first | assumption | exact Fr.refl _
  · first | assumption | exact Fr.refl _

theorem State.sendLine_fr {s} {a1} {a2} {a3} : Fr [⟨17181966336, 17181966336, 1, 0⟩, ⟨17181967360, 17181967360, 1, 0⟩, ⟨17186226581, 17186257301, 2048, 0⟩, ⟨17181966338, 17181966338, 1, 0⟩, ⟨17181966495, 17181966495, 1, 0⟩, ⟨17186168832, 17186169247, 1, 0⟩, ⟨17194549776, 17194549776, 1, 0⟩, ⟨17192452352, 17192452352, 1, 0⟩, ⟨17192452608, 17192452608, 1, 0⟩, ⟨17192452480, 17192452480, 1, 0⟩, ⟨17192452229, 17192452229, 1, 0⟩, ⟨17192452228, 17192452228, 1, 0⟩, ⟨17188261632, 17188261632, 1, 0⟩, ⟨17181967232, 17181967263, 1, 0⟩] [.lane, .tl, .ft, .mem, .flt, .pwr, .evc, .memc] s (State.sendLine s a1 a2 a3) := by
  unfold State.sendLine
  split
  · extract_lets -merge -underBinder +onlyGivenNames x0
    try clear_value x0
    extract_lets -merge -underBinder +onlyGivenNames x1
    try clear_value x1
    extract_lets -merge -underBinder +onlyGivenNames x2
    try clear_value x2
    extract_lets -merge -underBinder +onlyGivenNames x3
    try clear_value x3
    extract_lets -merge -underBinder +onlyGivenNames x4
    try clear_value (e4 : x4 = _)
    extract_lets -merge -underBinder +onlyGivenNames x5
    try clear_value x5
    extract_lets -merge -underBinder +onlyGivenNames x6
    try clear_value x6
    extract_lets -merge -underBinder +onlyGivenNames x7
    refine Fr.cut x7 ?_ (fun h7 => ?_)
    · unfold x7
      refine Fr.iteh (fun _ => ?_) (fun _ => ?_)
      · refine Fr.step State.streamSend_fr rfl rfl ?_
        first | assumption | exact Fr.refl _
      · first | assumption | exact Fr.refl _
    try clear_value x7
    extract_lets -merge -underBinder +onlyGivenNames x8
    try clear_value x8
    extract_lets -merge -underBinder +onlyGivenNames x9
    extract_lets -merge -underBinder +onlyGivenNames x10
    extract_lets -merge -underBinder +onlyGivenNames x11
    refine Fr.cut x11 ?_ (fun h11 => ?_)
    · unfold x11
      refine Fr.step State.setFt_fr rfl rfl ?_
      first | assumption | exact Fr.refl _
    try clear_value x11
    refine Fr.iteh (fun _ => ?_) (fun _ => ?_)
    · first | assumption | exact Fr.refl _
    · extract_lets -merge -underBinder +onlyGivenNames x12
      try clear_value (e12 : x12 = _)
      refine Fr.step State.ddWrite_fr rfl rfl ?_
      first | assumption | exact Fr.refl _
  · first | assumption | exact Fr.refl _

theorem State.underrun_fr {s} {a1} {a2} : Fr ([⟨17200843664, 17200843664, 1, 0⟩, ⟨17200843648, 17200843648, 1, 0⟩, ⟨17181966336, 17181966336, 1, 0⟩, ⟨17181967360, 17181967360, 1, 0⟩, ⟨17186226581, 17186257301, 2048, 0⟩, ⟨17181966338, 17181966338, 1, 0⟩, ⟨17181966495, 17181966495, 1, 0⟩, ⟨17186168832, 17186169247, 1, 0⟩, ⟨17194549776, 17194549776, 1, 0⟩, ⟨17192452352, 17192452352, 1, 0⟩, ⟨17192452608, 17192452608, 1, 0⟩, ⟨17192452480, 17192452480, 1, 0⟩, ⟨17192452229, 17192452229, 1, 0⟩, ⟨17192452228, 17192452228, 1, 0⟩, ⟨17188261632, 17188261632, 1, 0⟩, ⟨17181967232, 17181967263, 1, 0⟩, ⟨17200843016, 17200843016, 1, 0⟩, ⟨17200843008, 17200843008, 1, 0⟩, ⟨17200840837, 17200840837, 1, 0⟩, ⟨17200840833, 17200840833, 1, 0⟩, ⟨17223909508, 17223909508, 1, 0⟩, ⟨17223909507, 17223909507, 1, 0⟩, ⟨17223909509, 17223909509, 1, 0⟩, ⟨17223910272, 17223910283, 1, 0⟩, ⟨17223910400, 17223910400, 1, 0⟩, ⟨17211359376, 17211408272, 256, 0⟩, ⟨17209229443, 17209229443, 1, 0⟩, ⟨17209229442, 17209229442, 1, 0⟩, ⟨17209231360, 17209231360, 1, 0⟩, ⟨17209231504, 17209231504, 1, 0⟩] ++ [⟨17209231488, 17209231488, 1, 0⟩, ⟨17209231376, 17209231376, 1, 0⟩, ⟨17209245696, 17209251736, 8, 0⟩, ⟨17200843392, 17200843392, 1, 0⟩]) [.pwr, .flt, .evc, .ft, .free, .mem, .memc, .pair, .lane, .lsc] s (State.underrun s a1 a2) := by
  unfold State.underrun
  extract_lets -merge -underBinder +onlyGivenNames x0
  refine Fr.cut x0 ?_ (fun h0 => ?_)
  · unfold x0
    refine Fr.wr (xs := [⟨17200843664, 17200843664, 1, 0⟩]) rfl rfl ?_
    refine Fr.wr (xs := [⟨17200843648, 17200843648, 1, 0⟩]) rfl rfl ?_
    refine Fr.step State.fire_fr rfl rfl ?_
    first | assumption | exact Fr.refl _
  try clear_value x0
  refine Fr.step State.streamAbort_fr rfl rfl ?_
  refine Fr.inc (xs := [⟨17200843392, 17200843392, 1, 0⟩]) rfl rfl ?_
  first | assumption | exact Fr.refl _

theorem State.echoMisses_fr {s} : Fr [⟨17202941584, 17204383376, 131072, 0⟩, ⟨17181966336, 17181966336, 1, 0⟩, ⟨17181967360, 17181967360, 1, 0⟩, ⟨17186226581, 17186257301, 2048, 0⟩, ⟨17181966338, 17181966338, 1, 0⟩, ⟨17181966495, 17181966495, 1, 0⟩, ⟨17186168832, 17186169247, 1, 0⟩, ⟨17202937996, 17204379788, 131072, 0⟩] [.tl, .flt, .pwr, .evc] s (State.echoMisses s) := by
  unfold State.echoMisses
  split
  · first | assumption | exact Fr.refl _
  · refine Fr.forFin ?_ (fun i t ht => ?_)
    · first | assumption | exact Fr.refl _
    · refine Fr.iteh (fun _ => ?_) (fun _ => ?_)
      · extract_lets -merge -underBinder +onlyGivenNames x0
        try clear_value (e0 : x0 = _)
        extract_lets -merge -underBinder +onlyGivenNames x1
        extract_lets -merge -underBinder +onlyGivenNames x2
        refine Fr.cut x2 ?_ (fun h2 => ?_)
        · unfold x2
          refine Fr.inc (xs := [⟨17202941584, 17204383376, 131072, 0⟩]) (Reg.TL_CNT1_ECHO_MISS_key (by first | omega | (simp only [List.mem_range] at *; omega))) rfl ?_
          refine Fr.step State.setPort_fr rfl rfl ?_
          first | assumption | exact Fr.refl _
        try clear_value x2
        refine Fr.iteh (fun _ => ?_) (fun _ => ?_)
        · refine Fr.step State.echoError_fr rfl rfl ?_
          first | assumption | exact Fr.refl _
        · first | assumption | exact Fr.refl _
      · first | assumption | exact Fr.refl _

theorem State.periodEnds_fr {s} {a1} : Fr ([⟨17211359376, 17211408272, 256, 0⟩, ⟨17181966336, 17181966336, 1, 0⟩, ⟨17181967360, 17181967360, 1, 0⟩, ⟨17186226581, 17186257301, 2048, 0⟩, ⟨17181966338, 17181966338, 1, 0⟩, ⟨17181966495, 17181966495, 1, 0⟩, ⟨17186168832, 17186169247, 1, 0⟩, ⟨17209229443, 17209229443, 1, 0⟩, ⟨17209229442, 17209229442, 1, 0⟩, ⟨17209231360, 17209231360, 1, 0⟩, ⟨17209231504, 17209231504, 1, 0⟩, ⟨17209231488, 17209231488, 1, 0⟩, ⟨17209231376, 17209231376, 1, 0⟩, ⟨17209245696, 17209251736, 8, 0⟩, ⟨17202941584, 17204383376, 131072, 0⟩, ⟨17202937996, 17204379788, 131072, 0⟩, ⟨17213426308, 17213426308, 1, 0⟩, ⟨17213426177, 17213426177, 1, 0⟩, ⟨17213423752, 17213423752, 1, 0⟩, ⟨17213423749, 17213423749, 1, 0⟩, ⟨17213423617, 17213423617, 1, 0⟩, ⟨17213423744, 17213423744, 1, 0⟩, ⟨17213423745, 17213423745, 1, 0⟩, ⟨17213425280, 17213425280, 1, 0⟩, ⟨17213425152, 17213425152, 1, 0⟩, ⟨17213425664, 17213425664, 1, 0⟩, ⟨17213425536, 17213425536, 1, 0⟩, ⟨17213425408, 17213425408, 1, 0⟩, ⟨17213425792, 17213425792, 1, 0⟩, ⟨17213423760, 17213423760, 1, 0⟩] ++ [⟨17209231629, 17209231629, 1, 0⟩, ⟨17209231616, 17209231616, 1, 0⟩, ⟨17200843008, 17200843008, 1, 0⟩, ⟨17207134720, 17207134720, 1, 0⟩, ⟨17207134736, 17207134736, 1, 0⟩, ⟨17207132292, 17207132292, 1, 0⟩]) [.cal, .pwr, .flt, .evc, .lsc, .free, .tl, .pair, .lane, .ft, .hlth, .thm] s (State.periodEnds s a1) := by
  unfold State.periodEnds
  extract_lets -merge -underBinder +onlyGivenNames x0
  try clear_value x0
  extract_lets -merge -underBinder +onlyGivenNames x1
  try clear_value x1
  extract_lets -merge -underBinder +onlyGivenNames x2
  try clear_value x2
  extract_lets -merge -underBinder +onlyGivenNames x3
  refine Fr.cut x3 ?_ (fun h3 => ?_)
  · unfold x3
    refine Fr.iteh (fun _ => ?_) (fun _ => ?_)
    · refine Fr.step State.calStart_fr rfl rfl ?_
      refine Fr.step State.lscStart_fr rfl rfl ?_
      refine Fr.step State.echoMisses_fr rfl rfl ?_
      first | assumption | exact Fr.refl _
    · refine Fr.step State.calBoundary_fr rfl rfl ?_
      refine Fr.step State.lscBoundary_fr rfl rfl ?_
      refine Fr.step State.echoMisses_fr rfl rfl ?_
      first | assumption | exact Fr.refl _
  try clear_value x3
  split
  · extract_lets -merge -underBinder +onlyGivenNames x4
    extract_lets -merge -underBinder +onlyGivenNames x5
    refine Fr.cut x5 ?_ (fun h5 => ?_)
    · unfold x5
      refine Fr.wr (xs := [⟨17200843008, 17200843008, 1, 0⟩]) rfl rfl ?_
      refine Fr.step State.setFt_fr rfl rfl ?_
      first | assumption | exact Fr.refl _
    try clear_value x5
    refine Fr.step State.hlthLatch_fr rfl rfl ?_
    refine Fr.step State.takePower_fr rfl rfl ?_
    first | assumption | exact Fr.refl _
  · extract_lets -merge -underBinder +onlyGivenNames x6
    extract_lets -merge -underBinder +onlyGivenNames x7
    refine Fr.cut x7 ?_ (fun h7 => ?_)
    · unfold x7
      refine Fr.step State.setFt_fr rfl rfl ?_
      first | assumption | exact Fr.refl _
    try clear_value x7
    split
    · refine Fr.iteh (fun _ => ?_) (fun _ => ?_)
      · first | assumption | exact Fr.refl _
      · refine Fr.step State.lscDrop_fr rfl rfl ?_
        first | assumption | exact Fr.refl _
    · first | assumption | exact Fr.refl _

theorem State.showNextSec_fr {s} {a1} : Fr [⟨17200842880, 17200842880, 1, 0⟩, ⟨17200842752, 17200842752, 1, 0⟩] [] s (State.showNextSec s a1) := by
  unfold State.showNextSec
  refine Fr.wr (xs := [⟨17200842880, 17200842880, 1, 0⟩]) rfl rfl ?_
  refine Fr.wr (xs := [⟨17200842752, 17200842752, 1, 0⟩]) rfl rfl ?_
  first | assumption | exact Fr.refl _

theorem State.nextSecRead_fr {s} {a1} : Fr [⟨17200842880, 17200842880, 1, 0⟩, ⟨17200842752, 17200842752, 1, 0⟩] [.ft] s (State.nextSecRead s a1) := by
  unfold State.nextSecRead
  refine Fr.iteh (fun _ => ?_) (fun _ => ?_)
  · refine Fr.step State.showNextSec_fr rfl rfl ?_
    first | assumption | exact Fr.refl _
  · refine Fr.iteh (fun _ => ?_) (fun _ => ?_)
    · refine Fr.step State.setFt_fr rfl rfl ?_
      first | assumption | exact Fr.refl _
    · refine Fr.step State.setFt_fr rfl rfl ?_
      first | assumption | exact Fr.refl _

theorem State.showPhase_fr {s} : Fr [⟨17200842368, 17200842368, 1, 0⟩, ⟨17200843264, 17200843264, 1, 0⟩, ⟨17181966336, 17181966336, 1, 0⟩, ⟨17181967360, 17181967360, 1, 0⟩, ⟨17186226581, 17186257301, 2048, 0⟩, ⟨17181966338, 17181966338, 1, 0⟩, ⟨17181966495, 17181966495, 1, 0⟩, ⟨17186168832, 17186169247, 1, 0⟩, ⟨17200840834, 17200840834, 1, 0⟩] [.pwr, .flt, .evc] s (State.showPhase s) := by
  unfold State.showPhase
  extract_lets -merge -underBinder +onlyGivenNames x0
  try clear_value (e0 : x0 = _)
  extract_lets -merge -underBinder +onlyGivenNames x1
  try clear_value x1
  extract_lets -merge -underBinder +onlyGivenNames x2
  refine Fr.cut x2 ?_ (fun h2 => ?_)
  · unfold x2
    refine Fr.wr (xs := [⟨17200842368, 17200842368, 1, 0⟩]) rfl rfl ?_
    first | assumption | exact Fr.refl _
  try clear_value x2
  extract_lets -merge -underBinder +onlyGivenNames x3
  refine Fr.cut x3 ?_ (fun h3 => ?_)
  · unfold x3
    refine Fr.iteh (fun _ => ?_) (fun _ => ?_)
    · refine Fr.inc (xs := [⟨17200843264, 17200843264, 1, 0⟩]) rfl rfl ?_
      first | assumption | exact Fr.refl _
    · first | assumption | exact Fr.refl _
  try clear_value x3
  refine Fr.iteh (fun _ => ?_) (fun _ => ?_)
  · first | assumption | exact Fr.refl _
  · refine Fr.step State.fire_fr rfl rfl ?_
    refine Fr.wrB (xs := [⟨17200840834, 17200840834, 1, 0⟩]) rfl rfl ?_
    first | assumption | exact Fr.refl _

theorem State.portsIdle_fr {s} : Fr [⟨17205035139, 17205149827, 8192, 0⟩, ⟨17205035141, 17205149829, 8192, 0⟩, ⟨17205035140, 17205149828, 8192, 0⟩, ⟨17205035136, 17205149824, 8192, 0⟩, ⟨17181966336, 17181966336, 1, 0⟩, ⟨17181967360, 17181967360, 1, 0⟩, ⟨17186226581, 17186257301, 2048, 0⟩, ⟨17181966338, 17181966338, 1, 0⟩, ⟨17181966495, 17181966495, 1, 0⟩, ⟨17186168832, 17186169247, 1, 0⟩, ⟨17202937984, 17204379776, 131072, 0⟩] [.pwr, .flt, .evc] s (State.portsIdle s) := by
  unfold State.portsIdle
  refine Fr.forFin ?_ (fun i t ht => ?_)
  · first | assumption | exact Fr.refl _
  · refine Fr.iteh (fun _ => ?_) (fun _ => ?_)
    · refine Fr.step State.tlSet_fr rfl rfl ?_
      first | assumption | exact Fr.refl _
    · first | assumption | exact Fr.refl _

theorem State.commitAll_fr {s} : Fr ([⟨17198743816, 17198743816, 1, 0⟩, ⟨17181966336, 17181966336, 1, 0⟩, ⟨17181967360, 17181967360, 1, 0⟩, ⟨17186226581, 17186257301, 2048, 0⟩, ⟨17181966338, 17181966338, 1, 0⟩, ⟨17181966495, 17181966495, 1, 0⟩, ⟨17186168832, 17186169247, 1, 0⟩, ⟨17198743808, 17198743808, 1, 0⟩, ⟨17198743553, 17198743553, 1, 0⟩, ⟨17198753156, 17198767492, 2048, 0⟩, ⟨17198743688, 17198743695, 1, 0⟩, ⟨17196646656, 17196646656, 1, 0⟩, ⟨17196646401, 17196646401, 1, 0⟩, ⟨17196647812, 17196647812, 1, 0⟩, ⟨17196647808, 17196647808, 1, 0⟩, ⟨17196646544, 17196646544, 1, 0⟩, ⟨17196646536, 17196646536, 1, 0⟩, ⟨17198753168, 17198767504, 2048, 0⟩, ⟨17198753152, 17198767488, 2048, 0⟩, ⟨17196646533, 17196646533, 1, 0⟩, ⟨17196646529, 17196646529, 1, 0⟩, ⟨17198753155, 17198767491, 2048, 0⟩, ⟨17198753154, 17198767490, 2048, 0⟩, ⟨17198753280, 17198767616, 2048, 0⟩, ⟨17205035139, 17205149827, 8192, 0⟩, ⟨17205035141, 17205149829, 8192, 0⟩, ⟨17205035140, 17205149828, 8192, 0⟩, ⟨17205035136, 17205149824, 8192, 0⟩, ⟨17202937984, 17204379776, 131072, 0⟩, ⟨17211359376, 17211408272, 256, 0⟩] ++ [⟨17207138304, 17207138975, 1, 0⟩, ⟨17207136256, 17207137664, 128, 0⟩, ⟨17188261632, 17188261632, 1, 0⟩, ⟨17181967232, 17181967263, 1, 0⟩, ⟨17200840960, 17200840960, 1, 0⟩, ⟨17200840705, 17200840705, 1, 0⟩, ⟨17207132416, 17207132416, 1, 0⟩, ⟨17207132161, 17207132161, 1, 0⟩, ⟨17209229568, 17209229568, 1, 0⟩, ⟨17209229313, 17209229313, 1, 0⟩]) [.pwr, .flt, .evc, .layer, .sa, .tl, .free, .hlth, .cal, .ft, .lsc, .pair, .lane] s (State.commitAll s) := by
  unfold State.commitAll
  refine Fr.foldl' ?_ (fun t x hx ht => ?_)
  · first | assumption | exact Fr.refl _
  · refine Fr.iteh (fun _ => ?_) (fun _ => ?_)
    · refine Fr.step State.guardBlock_fr rfl rfl ?_
      first | assumption | exact Fr.refl _
    · first | assumption | exact Fr.refl _

theorem State.ftEnds_fr {s} : Fr ([⟨17211359376, 17211408272, 256, 0⟩, ⟨17181966336, 17181966336, 1, 0⟩, ⟨17181967360, 17181967360, 1, 0⟩, ⟨17186226581, 17186257301, 2048, 0⟩, ⟨17181966338, 17181966338, 1, 0⟩, ⟨17181966495, 17181966495, 1, 0⟩, ⟨17186168832, 17186169247, 1, 0⟩, ⟨17209229443, 17209229443, 1, 0⟩, ⟨17209229442, 17209229442, 1, 0⟩, ⟨17209231360, 17209231360, 1, 0⟩, ⟨17209231504, 17209231504, 1, 0⟩, ⟨17209231488, 17209231488, 1, 0⟩, ⟨17209231376, 17209231376, 1, 0⟩, ⟨17209245696, 17209251736, 8, 0⟩, ⟨17200840705, 17200840705, 1, 0⟩, ⟨17200840836, 17200840836, 1, 0⟩, ⟨17200840833, 17200840833, 1, 0⟩, ⟨17200840832, 17200840832, 1, 0⟩, ⟨17200840704, 17200840704, 1, 0⟩, ⟨17205035139, 17205149827, 8192, 0⟩, ⟨17205035141, 17205149829, 8192, 0⟩, ⟨17205035140, 17205149828, 8192, 0⟩, ⟨17205035136, 17205149824, 8192, 0⟩, ⟨17202937984, 17204379776, 131072, 0⟩, ⟨17196646528, 17196646528, 1, 0⟩, ⟨17219715203, 17219715203, 1, 0⟩, ⟨17219715204, 17219715204, 1, 0⟩, ⟨17219723265, 17219725313, 2048, 0⟩, ⟨17219723266, 17219725314, 2048, 0⟩, ⟨17219715205, 17219715205, 1, 0⟩] ++ [⟨17200843408, 17200843408, 1, 0⟩, ⟨17198743816, 17198743816, 1, 0⟩, ⟨17198743808, 17198743808, 1, 0⟩, ⟨17198743553, 17198743553, 1, 0⟩, ⟨17198753156, 17198767492, 2048, 0⟩, ⟨17198743688, 17198743695, 1, 0⟩, ⟨17196646656, 17196646656, 1, 0⟩, ⟨17196646401, 17196646401, 1, 0⟩, ⟨17196647812, 17196647812, 1, 0⟩, ⟨17196647808, 17196647808, 1, 0⟩, ⟨17196646544, 17196646544, 1, 0⟩, ⟨17196646536, 17196646536, 1, 0⟩, ⟨17198753168, 17198767504, 2048, 0⟩, ⟨17198753152, 17198767488, 2048, 0⟩, ⟨17196646533, 17196646533, 1, 0⟩, ⟨17196646529, 17196646529, 1, 0⟩, ⟨17198753155, 17198767491, 2048, 0⟩, ⟨17198753154, 17198767490, 2048, 0⟩, ⟨17198753280, 17198767616, 2048, 0⟩, ⟨17207138304, 17207138975, 1, 0⟩, ⟨17207136256, 17207137664, 128, 0⟩, ⟨17188261632, 17188261632, 1, 0⟩, ⟨17181967232, 17181967263, 1, 0⟩, ⟨17200840960, 17200840960, 1, 0⟩, ⟨17207132416, 17207132416, 1, 0⟩, ⟨17207132161, 17207132161, 1, 0⟩, ⟨17209229568, 17209229568, 1, 0⟩, ⟨17209229313, 17209229313, 1, 0⟩]) [.pwr, .flt, .evc, .lsc, .free, .ft, .safe, .time, .sa, .layer, .hlth, .cal, .pair, .lane, .tl, .maskin] s (State.ftEnds s) := by
  unfold State.ftEnds
  extract_lets -merge -underBinder +onlyGivenNames x0
  refine Fr.cut x0 ?_ (fun h0 => ?_)
  · unfold x0
    split
    · refine Fr.step State.lscDrop_fr rfl rfl ?_
      first | assumption | exact Fr.refl _
    · first | assumption | exact Fr.refl _
  try clear_value x0
  extract_lets -merge -underBinder +onlyGivenNames x1
  try clear_value x1
  extract_lets -merge -underBinder +onlyGivenNames x2
  extract_lets -merge -underBinder +onlyGivenNames x3
  refine Fr.cut x3 ?_ (fun h3 => ?_)
  · unfold x3
    refine Fr.step State.setFt_fr rfl rfl ?_
    first | assumption | exact Fr.refl _
  try clear_value x3
  extract_lets -merge -underBinder +onlyGivenNames x4
  refine Fr.cut x4 ?_ (fun h4 => ?_)
  · unfold x4
    refine Fr.iteh (fun _ => ?_) (fun _ => ?_)
    · refine Fr.wr (xs := [⟨17200840705, 17200840705, 1, 0⟩]) rfl rfl ?_
      first | assumption | exact Fr.refl _
    · first | assumption | exact Fr.refl _
  try clear_value x4
  extract_lets -merge -underBinder +onlyGivenNames x5
  refine Fr.cut x5 ?_ (fun h5 => ?_)
  · unfold x5
    refine Fr.wr (xs := [⟨17200840836, 17200840836, 1, 0⟩]) rfl rfl ?_
    refine Fr.wr (xs := [⟨17200840833, 17200840833, 1, 0⟩]) rfl rfl ?_
    refine Fr.wr (xs := [⟨17200840832, 17200840832, 1, 0⟩]) rfl rfl ?_
    refine Fr.wr (xs := [⟨17200840704, 17200840704, 1, 0⟩]) rfl rfl ?_
    first | assumption | exact Fr.refl _
  try clear_value x5
  extract_lets -merge -underBinder +onlyGivenNames x6
  refine Fr.cut x6 ?_ (fun h6 => ?_)
  · unfold x6
    refine Fr.step State.portsIdle_fr rfl rfl ?_
    refine Fr.wr (xs := [⟨17196646528, 17196646528, 1, 0⟩]) rfl rfl ?_
    first | assumption | exact Fr.refl _
  try clear_value x6
  extract_lets -merge -underBinder +onlyGivenNames x7
  extract_lets -merge -underBinder +onlyGivenNames x8
  refine Fr.cut x8 ?_ (fun h8 => ?_)
  · unfold x8
    refine Fr.set_safe rfl ?_
    first | assumption | exact Fr.refl _
  try clear_value x8
  refine Fr.forFin ?_ (fun i t ht => ?_)
  · first | assumption | exact Fr.refl _
  · refine Fr.iteh (fun _ => ?_) (fun _ => ?_)
    · unfold State.applyAdj
      try dsimp -zeta only
      split
      · first | assumption | exact Fr.refl _
      · extract_lets -merge -underBinder +onlyGivenNames x9
        try clear_value x9
        extract_lets -merge -underBinder +onlyGivenNames x10
        extract_lets -merge -underBinder +onlyGivenNames x11
        refine Fr.cut x11 ?_ (fun h11 => ?_)
        · unfold x11
          refine Fr.wr (xs := [⟨17219715203, 17219715203, 1, 0⟩, ⟨17219715204, 17219715204, 1, 0⟩]) (by unfold stepPend; exact (Keys.any_ite (xs := [⟨17219715203, 17219715203, 1, 0⟩]) (ys := [⟨17219715204, 17219715204, 1, 0⟩]) rfl rfl)) rfl ?_
          refine Fr.wr (xs := [⟨17219723265, 17219725313, 2048, 0⟩, ⟨17219723266, 17219725314, 2048, 0⟩]) (Keys.any_ite (xs := [⟨17219723265, 17219725313, 2048, 0⟩]) (ys := [⟨17219723266, 17219725314, 2048, 0⟩]) (Reg.TIME_D_CTRL_LOAD_key (by first | omega | (simp only [List.mem_range] at *; omega))) (Reg.TIME_D_CTRL_STEP_key (by first | omega | (simp only [List.mem_range] at *; omega)))) rfl ?_
          refine Fr.step State.setTd_fr rfl rfl ?_
          first | assumption | exact Fr.refl _
        try clear_value x11
        split
        · refine Fr.step (State.werr_0x2013 (by omega)) rfl rfl ?_
          first | assumption | exact Fr.refl _
        · extract_lets -merge -underBinder +onlyGivenNames x12
          extract_lets -merge -underBinder +onlyGivenNames x13
          refine Fr.cut x13 ?_ (fun h13 => ?_)
          · unfold x13
            refine Fr.step State.fire_fr rfl rfl ?_
            refine Fr.step State.cuesStepped_fr rfl rfl ?_
            refine Fr.step State.setTd_fr rfl rfl ?_
            first | assumption | exact Fr.refl _
          try clear_value x13
          refine Fr.iteh (fun _ => ?_) (fun _ => ?_)
          · unfold State.timeStepped
            try dsimp -zeta only
            refine Fr.iteh (fun _ => ?_) (fun _ => ?_)
            · refine Fr.step State.ftStepped_fr rfl rfl ?_
              refine Fr.step State.raise_fr rfl rfl ?_
              first | assumption | exact Fr.refl _
            · first | assumption | exact Fr.refl _
          · first | assumption | exact Fr.refl _
    · first | assumption | exact Fr.refl _

theorem State.ftHalt_fr {s} : Fr ([⟨17211359376, 17211408272, 256, 0⟩, ⟨17181966336, 17181966336, 1, 0⟩, ⟨17181967360, 17181967360, 1, 0⟩, ⟨17186226581, 17186257301, 2048, 0⟩, ⟨17181966338, 17181966338, 1, 0⟩, ⟨17181966495, 17181966495, 1, 0⟩, ⟨17186168832, 17186169247, 1, 0⟩, ⟨17209229443, 17209229443, 1, 0⟩, ⟨17209229442, 17209229442, 1, 0⟩, ⟨17209231360, 17209231360, 1, 0⟩, ⟨17209231504, 17209231504, 1, 0⟩, ⟨17209231488, 17209231488, 1, 0⟩, ⟨17209231376, 17209231376, 1, 0⟩, ⟨17209245696, 17209251736, 8, 0⟩, ⟨17200840705, 17200840705, 1, 0⟩, ⟨17200840836, 17200840836, 1, 0⟩, ⟨17200840833, 17200840833, 1, 0⟩, ⟨17200840832, 17200840832, 1, 0⟩, ⟨17200840704, 17200840704, 1, 0⟩, ⟨17205035139, 17205149827, 8192, 0⟩, ⟨17205035141, 17205149829, 8192, 0⟩, ⟨17205035140, 17205149828, 8192, 0⟩, ⟨17205035136, 17205149824, 8192, 0⟩, ⟨17202937984, 17204379776, 131072, 0⟩, ⟨17219715203, 17219715203, 1, 0⟩, ⟨17219715204, 17219715204, 1, 0⟩, ⟨17219723265, 17219725313, 2048, 0⟩, ⟨17219723266, 17219725314, 2048, 0⟩, ⟨17219715205, 17219715205, 1, 0⟩, ⟨17200843408, 17200843408, 1, 0⟩] ++ [⟨17207138304, 17207138975, 1, 0⟩, ⟨17207136256, 17207137664, 128, 0⟩, ⟨17188261632, 17188261632, 1, 0⟩, ⟨17181967232, 17181967263, 1, 0⟩, ⟨17200840960, 17200840960, 1, 0⟩, ⟨17207132416, 17207132416, 1, 0⟩, ⟨17207132161, 17207132161, 1, 0⟩, ⟨17209229568, 17209229568, 1, 0⟩, ⟨17209229313, 17209229313, 1, 0⟩, ⟨17207132288, 17207132288, 1, 0⟩, ⟨17196646400, 17198743551, 1, 0⟩, ⟨17198743552, 17200840703, 1, 0⟩, ⟨17194557440, 17194573724, 4, 0⟩, ⟨17194549776, 17194549776, 1, 0⟩, ⟨17192452352, 17192452352, 1, 0⟩, ⟨17192452608, 17192452608, 1, 0⟩, ⟨17192452480, 17192452480, 1, 0⟩, ⟨17192452229, 17192452229, 1, 0⟩, ⟨17192452228, 17192452228, 1, 0⟩, ⟨17194615425, 17194618497, 1024, 0⟩, ⟨17194615296, 17194618368, 1024, 0⟩, ⟨17194549761, 17194549761, 1, 0⟩, ⟨17194549764, 17194549764, 1, 0⟩]) [.pwr, .flt, .evc, .lsc, .free, .ft, .safe, .time, .sa, .layer, .hlth, .cal, .pair, .lane, .tl, .maskin, .mem, .memc, .win] s (State.ftHalt s) := by
  unfold State.ftHalt
  extract_lets -merge -underBinder +onlyGivenNames x0
  refine Fr.cut x0 ?_ (fun h0 => ?_)
  · unfold x0
    refine Fr.step State.ftEnds_fr rfl rfl ?_
    first | assumption | exact Fr.refl _
  try clear_value x0
  extract_lets -merge -underBinder +onlyGivenNames x1
  extract_lets -merge -underBinder +onlyGivenNames x2
  refine Fr.cut x2 ?_ (fun h2 => ?_)
  · unfold x2
    refine Fr.iteh (fun _ => ?_) (fun _ => ?_)
    · refine Fr.wr (xs := [⟨17207132161, 17207132161, 1, 0⟩]) rfl rfl ?_
      refine Fr.set_hlth rfl ?_
      first | assumption | exact Fr.refl _
    · first | assumption | exact Fr.refl _
  try clear_value x2
  extract_lets -merge -underBinder +onlyGivenNames x3
  extract_lets -merge -underBinder +onlyGivenNames x4
  refine Fr.cut x4 ?_ (fun h4 => ?_)
  · unfold x4
    refine Fr.iteh (fun _ => ?_) (fun _ => ?_)
    · refine Fr.wr (xs := [⟨17209229313, 17209229313, 1, 0⟩]) rfl rfl ?_
      refine Fr.set_lsc rfl ?_
      first | assumption | exact Fr.refl _
    · first | assumption | exact Fr.refl _
  try clear_value x4
  extract_lets -merge -underBinder +onlyGivenNames x5
  refine Fr.cut x5 ?_ (fun h5 => ?_)
  · unfold x5
    refine Fr.step State.saDiscard_fr rfl rfl ?_
    refine Fr.step State.layerDiscard_fr rfl rfl ?_
    first | assumption | exact Fr.refl _
  try clear_value x5
  extract_lets -merge -underBinder +onlyGivenNames x6
  extract_lets -merge -underBinder +onlyGivenNames x7
  refine Fr.cut x7 ?_ (fun h7 => ?_)
  · unfold x7
    refine Fr.step State.setSa_fr rfl rfl ?_
    first | assumption | exact Fr.refl _
  try clear_value x7
  extract_lets -merge -underBinder +onlyGivenNames x8
  refine Fr.cut x8 ?_ (fun h8 => ?_)
  · unfold x8
    refine Fr.iteh (fun _ => ?_) (fun _ => ?_)
    · refine Fr.step State.loadLut_fr rfl rfl ?_
      first | assumption | exact Fr.refl _
    · first | assumption | exact Fr.refl _
  try clear_value x8
  extract_lets -merge -underBinder +onlyGivenNames x9
  refine Fr.cut x9 ?_ (fun h9 => ?_)
  · unfold x9
    refine Fr.step State.saFencedNow_fr rfl rfl ?_
    first | assumption | exact Fr.refl _
  try clear_value x9
  extract_lets -merge -underBinder +onlyGivenNames x10
  extract_lets -merge -underBinder +onlyGivenNames x11
  refine Fr.cut x11 ?_ (fun h11 => ?_)
  · unfold x11
    refine Fr.step State.hlthRun_fr rfl rfl ?_
    refine Fr.set_hlth rfl ?_
    first | assumption | exact Fr.refl _
  try clear_value x11
  refine Fr.step State.retireHandover_fr rfl rfl ?_
  refine Fr.step State.commitAll_fr rfl rfl ?_
  first | assumption | exact Fr.refl _

theorem State.saBoundary_fr {s} {a1} : Fr ([⟨17196646401, 17196646401, 1, 0⟩, ⟨17196778369, 17196778369, 1, 0⟩, ⟨17181966336, 17181966336, 1, 0⟩, ⟨17181967360, 17181967360, 1, 0⟩, ⟨17186226581, 17186257301, 2048, 0⟩, ⟨17181966338, 17181966338, 1, 0⟩, ⟨17181966495, 17181966495, 1, 0⟩, ⟨17186168832, 17186169247, 1, 0⟩, ⟨17196647812, 17196647812, 1, 0⟩, ⟨17196647808, 17196647808, 1, 0⟩, ⟨17196646544, 17196646544, 1, 0⟩, ⟨17196646536, 17196646536, 1, 0⟩, ⟨17198753168, 17198767504, 2048, 0⟩, ⟨17198753152, 17198767488, 2048, 0⟩, ⟨17196646533, 17196646533, 1, 0⟩, ⟨17196646529, 17196646529, 1, 0⟩, ⟨17198753155, 17198767491, 2048, 0⟩, ⟨17198753154, 17198767490, 2048, 0⟩, ⟨17198753156, 17198767492, 2048, 0⟩, ⟨17198753280, 17198767616, 2048, 0⟩, ⟨17205035139, 17205149827, 8192, 0⟩, ⟨17205035141, 17205149829, 8192, 0⟩, ⟨17205035140, 17205149828, 8192, 0⟩, ⟨17205035136, 17205149824, 8192, 0⟩, ⟨17202937984, 17204379776, 131072, 0⟩, ⟨17211359376, 17211408272, 256, 0⟩, ⟨17207138304, 17207138975, 1, 0⟩, ⟨17207136256, 17207137664, 128, 0⟩, ⟨17188261632, 17188261632, 1, 0⟩, ⟨17181967232, 17181967263, 1, 0⟩] ++ [⟨17198743816, 17198743816, 1, 0⟩, ⟨17198743808, 17198743808, 1, 0⟩, ⟨17198743553, 17198743553, 1, 0⟩, ⟨17198743688, 17198743695, 1, 0⟩]) [.sa, .free, .live, .pwr, .flt, .evc, .layer, .tl, .hlth, .cal] s (State.saBoundary s a1).1 := by
  unfold State.saBoundary
  extract_lets -merge -underBinder +onlyGivenNames x0
  extract_lets -merge -underBinder +onlyGivenNames x1
  refine Fr.cut x1 ?_ (fun h1 => ?_)
  · unfold x1
    refine Fr.step State.setSa_fr rfl rfl ?_
    first | assumption | exact Fr.refl _
  try clear_value x1
  extract_lets -merge -underBinder +onlyGivenNames x2
  refine Fr.cut x2 ?_ (fun h2 => ?_)
  · unfold x2
    refine Fr.iteh (fun _ => ?_) (fun _ => ?_)
    · refine Fr.step State.loadLut_fr rfl rfl ?_
      first | assumption | exact Fr.refl _
    · first | assumption | exact Fr.refl _
  try clear_value x2
  extract_lets -merge -underBinder +onlyGivenNames x3
  try clear_value x3
  extract_lets -merge -underBinder +onlyGivenNames x4
  refine Fr.cut x4.1 ?_ (fun h4 => ?_)
  · unfold x4
    split
    · refine Fr.iteh1 (fun _ => ?_) (fun _ => ?_)
      · split
        · refine Fr.mk1 ?_
          refine Fr.step State.saLive_fr rfl rfl ?_
          refine Fr.step State.saSwitch_fr rfl rfl ?_
          first | assumption | exact Fr.refl _
        · refine Fr.mk1 ?_
          refine Fr.step State.saLive_fr rfl rfl ?_
          first | assumption | exact Fr.refl _
      · refine Fr.mk1 ?_
        first | assumption | exact Fr.refl _
    · refine Fr.mk1 ?_
      first | assumption | exact Fr.refl _
  try clear_value x4
  split
  · refine Fr.iteh1 (fun _ => ?_) (fun _ => ?_)
    · refine Fr.mk1 ?_
      refine Fr.step State.saSwitch_fr rfl rfl ?_
      first | assumption | exact Fr.refl _
    · first | assumption | exact Fr.refl _
  · first | assumption | exact Fr.refl _

theorem State.portsBoundary_fr {s} : Fr [⟨17205035139, 17205149827, 8192, 0⟩, ⟨17205035141, 17205149829, 8192, 0⟩, ⟨17205035140, 17205149828, 8192, 0⟩, ⟨17205035136, 17205149824, 8192, 0⟩, ⟨17181966336, 17181966336, 1, 0⟩, ⟨17181967360, 17181967360, 1, 0⟩, ⟨17186226581, 17186257301, 2048, 0⟩, ⟨17181966338, 17181966338, 1, 0⟩, ⟨17181966495, 17181966495, 1, 0⟩, ⟨17186168832, 17186169247, 1, 0⟩, ⟨17202937984, 17204379776, 131072, 0⟩] [.tl, .pwr, .flt, .evc] s (State.portsBoundary s) := by
  unfold State.portsBoundary
  refine Fr.forFin ?_ (fun i t ht => ?_)
  · first | assumption | exact Fr.refl _
  · extract_lets -merge -underBinder +onlyGivenNames x0
    extract_lets -merge -underBinder +onlyGivenNames x1
    refine Fr.cut x1 ?_ (fun h1 => ?_)
    · unfold x1
      refine Fr.iteh (fun _ => ?_) (fun _ => ?_)
      · refine Fr.step State.setPort_fr rfl rfl ?_
        first | assumption | exact Fr.refl _
      · first | assumption | exact Fr.refl _
    try clear_value x1
    refine Fr.iteh (fun _ => ?_) (fun _ => ?_)
    · first | assumption | exact Fr.refl _
    · refine Fr.iteh (fun _ => ?_) (fun _ => ?_)
      · refine Fr.iteh (fun _ => ?_) (fun _ => ?_)
        · refine Fr.step State.tlSet_fr rfl rfl ?_
          first | assumption | exact Fr.refl _
        · first | assumption | exact Fr.refl _
      · refine Fr.iteh (fun _ => ?_) (fun _ => ?_)
        · refine Fr.step State.tlSet_fr rfl rfl ?_
          first | assumption | exact Fr.refl _
        · first | assumption | exact Fr.refl _

theorem State.sendTherm_fr {s} {a1} : Fr [] [.pair, .lane] s (State.sendTherm s a1) := by
  unfold State.sendTherm
  refine Fr.iteh (fun _ => ?_) (fun _ => ?_)
  · refine Fr.step State.pairSend_fr rfl rfl ?_
    first | assumption | exact Fr.refl _
  · first | assumption | exact Fr.refl _

theorem State.thermTaken_fr {s} {a1} : Fr [] [.pair] s (State.thermTaken s a1) := by
  unfold State.thermTaken
  refine Fr.set_pair rfl ?_
  first | assumption | exact Fr.refl _

theorem State.startStream_fr {s} {a1} : Fr [] [.sa, .ft] s (State.startStream s a1) := by
  unfold State.startStream
  extract_lets -merge -underBinder +onlyGivenNames x0
  try clear_value x0
  extract_lets -merge -underBinder +onlyGivenNames x1
  try clear_value x1
  extract_lets -merge -underBinder +onlyGivenNames x2
  try clear_value x2
  extract_lets -merge -underBinder +onlyGivenNames x3
  try clear_value (e3 : x3 = _)
  extract_lets -merge -underBinder +onlyGivenNames x4
  try clear_value x4
  extract_lets -merge -underBinder +onlyGivenNames x5
  try clear_value (e5 : x5 = _)
  extract_lets -merge -underBinder +onlyGivenNames x6
  extract_lets -merge -underBinder +onlyGivenNames x7
  refine Fr.cut x7 ?_ (fun h7 => ?_)
  · unfold x7
    refine Fr.step State.setSa_fr rfl rfl ?_
    first | assumption | exact Fr.refl _
  try clear_value x7
  refine Fr.step State.setFt_fr rfl rfl ?_
  first | assumption | exact Fr.refl _

theorem State.passALost_fr {s} : Fr [⟨17223909508, 17223909508, 1, 0⟩, ⟨17223909507, 17223909507, 1, 0⟩, ⟨17181966336, 17181966336, 1, 0⟩, ⟨17181967360, 17181967360, 1, 0⟩, ⟨17186226581, 17186257301, 2048, 0⟩, ⟨17181966338, 17181966338, 1, 0⟩, ⟨17181966495, 17181966495, 1, 0⟩, ⟨17186168832, 17186169247, 1, 0⟩, ⟨17223909509, 17223909509, 1, 0⟩, ⟨17223910272, 17223910283, 1, 0⟩, ⟨17223910400, 17223910400, 1, 0⟩, ⟨17200843016, 17200843016, 1, 0⟩, ⟨17200843008, 17200843008, 1, 0⟩, ⟨17200840837, 17200840837, 1, 0⟩] [.pair, .lane, .pwr, .flt, .evc, .ft] s (State.passALost s) := by
  unfold State.passALost
  split
  · refine Fr.iteh (fun _ => ?_) (fun _ => ?_)
    · refine Fr.step State.passAAborts_fr rfl rfl ?_
      first | assumption | exact Fr.refl _
    · first | assumption | exact Fr.refl _
  · first | assumption | exact Fr.refl _

theorem State.boundaryGoes_fr {s} {a1} {a2} : Fr ([⟨17223909508, 17223909508, 1, 0⟩, ⟨17223909507, 17223909507, 1, 0⟩, ⟨17181966336, 17181966336, 1, 0⟩, ⟨17181967360, 17181967360, 1, 0⟩, ⟨17186226581, 17186257301, 2048, 0⟩, ⟨17181966338, 17181966338, 1, 0⟩, ⟨17181966495, 17181966495, 1, 0⟩, ⟨17186168832, 17186169247, 1, 0⟩, ⟨17223909509, 17223909509, 1, 0⟩, ⟨17223910272, 17223910283, 1, 0⟩, ⟨17223910400, 17223910400, 1, 0⟩, ⟨17205035139, 17205149827, 8192, 0⟩, ⟨17205035141, 17205149829, 8192, 0⟩, ⟨17205035140, 17205149828, 8192, 0⟩, ⟨17205035136, 17205149824, 8192, 0⟩, ⟨17202937984, 17204379776, 131072, 0⟩, ⟨17211359376, 17211408272, 256, 0⟩, ⟨17188261632, 17188261632, 1, 0⟩, ⟨17181967232, 17181967263, 1, 0⟩, ⟨17223910144, 17223910144, 1, 0⟩, ⟨17230200976, 17230200976, 1, 0⟩, ⟨17230200962, 17230200962, 1, 0⟩, ⟨17230200968, 17230200968, 1, 0⟩, ⟨17221814288, 17221814288, 1, 0⟩, ⟨17221814272, 17221814272, 1, 0⟩, ⟨17198743552, 17200840703, 1, 0⟩, ⟨17194549776, 17194549776, 1, 0⟩, ⟨17192452352, 17192452352, 1, 0⟩, ⟨17192452608, 17192452608, 1, 0⟩, ⟨17192452480, 17192452480, 1, 0⟩] ++ [⟨17192452229, 17192452229, 1, 0⟩, ⟨17192452228, 17192452228, 1, 0⟩, ⟨17207132160, 17209229311, 1, 0⟩, ⟨17194557440, 17194573724, 4, 0⟩, ⟨17194615425, 17194618497, 1024, 0⟩, ⟨17194615296, 17194618368, 1024, 0⟩, ⟨17194549761, 17194549761, 1, 0⟩, ⟨17194549764, 17194549764, 1, 0⟩, ⟨17200840704, 17202937855, 1, 0⟩, ⟨17196646400, 17198743551, 1, 0⟩, ⟨17209229312, 17211326463, 1, 0⟩]) [.pair, .lane, .pwr, .flt, .evc, .ft, .layer, .sa, .free, .live, .tl, .hlth, .cal, .lsc, .maskin, .safe, .mem, .memc, .win] s (State.boundaryGoes s a1 a2) := by
  unfold State.boundaryGoes
  extract_lets -merge -underBinder +onlyGivenNames x0
  try clear_value x0
  extract_lets -merge -underBinder +onlyGivenNames x1
  try clear_value x1
  extract_lets -merge -underBinder +onlyGivenNames x2
  refine Fr.cut x2 ?_ (fun h2 => ?_)
  · unfold x2
    refine Fr.step State.passALost_fr rfl rfl ?_
    first | assumption | exact Fr.refl _
  try clear_value x2
  extract_lets -merge -underBinder +onlyGivenNames x3
  extract_lets -merge -underBinder +onlyGivenNames x4
  refine Fr.cut x4 ?_ (fun h4 => ?_)
  · unfold x4
    refine Fr.step State.setLayer_fr rfl rfl ?_
    first | assumption | exact Fr.refl _
  try clear_value x4
  extract_lets -merge -underBinder +onlyGivenNames x5
  refine Fr.cut x5.1 ?_ (fun h5 => ?_)
  · unfold x5
    refine Fr.step State.saBoundary_fr rfl rfl ?_
    first | assumption | exact Fr.refl _
  try clear_value x5
  extract_lets -merge -underBinder +onlyGivenNames x6
  refine Fr.cut x6 ?_ (fun h6 => ?_)
  · unfold x6
    refine Fr.step State.layerLive_fr rfl rfl ?_
    first | assumption | exact Fr.refl _
  try clear_value x6
  extract_lets -merge -underBinder +onlyGivenNames x7
  try clear_value x7
  extract_lets -merge -underBinder +onlyGivenNames x8
  try clear_value x8
  extract_lets -merge -underBinder +onlyGivenNames x9
  refine Fr.cut x9 ?_ (fun h9 => ?_)
  · unfold x9
    refine Fr.iteh (fun _ => ?_) (fun _ => ?_)
    · refine Fr.step State.ftLive_fr rfl rfl ?_
      first | assumption | exact Fr.refl _
    · first | assumption | exact Fr.refl _
  try clear_value x9
  extract_lets -merge -underBinder +onlyGivenNames x10
  refine Fr.cut x10 ?_ (fun h10 => ?_)
  · unfold x10
    refine Fr.iteh (fun _ => ?_) (fun _ => ?_)
    · refine Fr.step State.hlthLive_fr rfl rfl ?_
      first | assumption | exact Fr.refl _
    · first | assumption | exact Fr.refl _
  try clear_value x10
  extract_lets -merge -underBinder +onlyGivenNames x11
  refine Fr.cut x11 ?_ (fun h11 => ?_)
  · unfold x11
    refine Fr.iteh (fun _ => ?_) (fun _ => ?_)
    · refine Fr.step State.lscLive_fr rfl rfl ?_
      first | assumption | exact Fr.refl _
    · first | assumption | exact Fr.refl _
  try clear_value x11
  extract_lets -merge -underBinder +onlyGivenNames x12
  refine Fr.cut x12 ?_ (fun h12 => ?_)
  · unfold x12
    refine Fr.step State.pairBoundary_fr rfl rfl ?_
    first | assumption | exact Fr.refl _
  try clear_value x12
  extract_lets -merge -underBinder +onlyGivenNames x13
  refine Fr.cut x13 ?_ (fun h13 => ?_)
  · unfold x13
    refine Fr.step State.maskBoundary_fr rfl rfl ?_
    refine Fr.step State.safeBoundary_fr rfl rfl ?_
    refine Fr.step State.portsBoundary_fr rfl rfl ?_
    first | assumption | exact Fr.refl _
  try clear_value x13
  extract_lets -merge -underBinder +onlyGivenNames x14
  refine Fr.cut x14 ?_ (fun h14 => ?_)
  · unfold x14
    refine Fr.step State.hlthBoundary_fr rfl rfl ?_
    first | assumption | exact Fr.refl _
  try clear_value x14
  extract_lets -merge -underBinder +onlyGivenNames x15
  refine Fr.cut x15 ?_ (fun h15 => ?_)
  · unfold x15
    refine Fr.step State.sendTherm_fr rfl rfl ?_
    refine Fr.step State.thermTaken_fr rfl rfl ?_
    refine Fr.step State.loadFactors_fr rfl rfl ?_
    first | assumption | exact Fr.refl _
  try clear_value x15
  extract_lets -merge -underBinder +onlyGivenNames x16
  extract_lets -merge -underBinder +onlyGivenNames x17
  extract_lets -merge -underBinder +onlyGivenNames x18
  refine Fr.cut x18 ?_ (fun h18 => ?_)
  · unfold x18
    refine Fr.step State.setFt_fr rfl rfl ?_
    first | assumption | exact Fr.refl _
  try clear_value x18
  extract_lets -merge -underBinder +onlyGivenNames x19
  refine Fr.cut x19 ?_ (fun h19 => ?_)
  · unfold x19
    split
    · refine Fr.step State.startStream_fr rfl rfl ?_
      first | assumption | exact Fr.refl _
    · first | assumption | exact Fr.refl _
  try clear_value x19
  extract_lets -merge -underBinder +onlyGivenNames x20
  extract_lets -merge -underBinder +onlyGivenNames x21
  refine Fr.cut x21 ?_ (fun h21 => ?_)
  · unfold x21
    refine Fr.set_hlth rfl ?_
    first | assumption | exact Fr.refl _
  try clear_value x21
  extract_lets -merge -underBinder +onlyGivenNames x22
  refine Fr.cut x22 ?_ (fun h22 => ?_)
  · unfold x22
    refine Fr.iteh (fun _ => ?_) (fun _ => ?_)
    · refine Fr.step State.hlthGuard_fr rfl rfl ?_
      first | assumption | exact Fr.refl _
    · first | assumption | exact Fr.refl _
  try clear_value x22
  extract_lets -merge -underBinder +onlyGivenNames x23
  refine Fr.cut x23 ?_ (fun h23 => ?_)
  · unfold x23
    refine Fr.wr (xs := [⟨17200842512, 17200842512, 1, 0⟩]) rfl rfl ?_
    refine Fr.wrB (xs := [⟨17200840833, 17200840833, 1, 0⟩]) rfl rfl ?_
    refine Fr.wr (xs := [⟨17200842240, 17200842240, 1, 0⟩]) rfl rfl ?_
    first | assumption | exact Fr.refl _
  try clear_value x23
  extract_lets -merge -underBinder +onlyGivenNames x24
  refine Fr.cut x24 ?_ (fun h24 => ?_)
  · unfold x24
    refine Fr.wr (xs := [⟨17200842496, 17200842496, 1, 0⟩]) rfl rfl ?_
    first | assumption | exact Fr.refl _
  try clear_value x24
  extract_lets -merge -underBinder +onlyGivenNames x25
  refine Fr.cut x25 ?_ (fun h25 => ?_)
  · unfold x25
    refine Fr.step State.pairDue_fr rfl rfl ?_
    refine Fr.step State.retireHandover_fr rfl rfl ?_
    first | assumption | exact Fr.refl _
  try clear_value x25
  refine Fr.iteh (fun _ => ?_) (fun _ => ?_)
  · refine Fr.step State.ftChange_fr rfl rfl ?_
    first | assumption | exact Fr.refl _
  · first | assumption | exact Fr.refl _

theorem State.boundaryNow_fr {s} {a1} : Fr ([⟨17181966336, 17181966336, 1, 0⟩, ⟨17181967360, 17181967360, 1, 0⟩, ⟨17186226581, 17186257301, 2048, 0⟩, ⟨17181966338, 17181966338, 1, 0⟩, ⟨17181966495, 17181966495, 1, 0⟩, ⟨17186168832, 17186169247, 1, 0⟩, ⟨17211359376, 17211408272, 256, 0⟩, ⟨17202941584, 17204383376, 131072, 0⟩, ⟨17202937996, 17204379788, 131072, 0⟩, ⟨17205035139, 17205149827, 8192, 0⟩, ⟨17205035141, 17205149829, 8192, 0⟩, ⟨17205035140, 17205149828, 8192, 0⟩, ⟨17205035136, 17205149824, 8192, 0⟩, ⟨17202937984, 17204379776, 131072, 0⟩, ⟨17219715203, 17219715203, 1, 0⟩, ⟨17219715204, 17219715204, 1, 0⟩, ⟨17219723265, 17219725313, 2048, 0⟩, ⟨17219723266, 17219725314, 2048, 0⟩, ⟨17219715205, 17219715205, 1, 0⟩, ⟨17188261632, 17188261632, 1, 0⟩, ⟨17181967232, 17181967263, 1, 0⟩, ⟨17196646400, 17198743551, 1, 0⟩, ⟨17198743552, 17200840703, 1, 0⟩, ⟨17194557440, 17194573724, 4, 0⟩, ⟨17194549776, 17194549776, 1, 0⟩, ⟨17192452352, 17192452352, 1, 0⟩, ⟨17192452608, 17192452608, 1, 0⟩, ⟨17192452480, 17192452480, 1, 0⟩, ⟨17192452229, 17192452229, 1, 0⟩, ⟨17192452228, 17192452228, 1, 0⟩] ++ [⟨17194615425, 17194618497, 1024, 0⟩, ⟨17194615296, 17194618368, 1024, 0⟩, ⟨17194549761, 17194549761, 1, 0⟩, ⟨17194549764, 17194549764, 1, 0⟩, ⟨17213423616, 17215520767, 1, 0⟩, ⟨17200840704, 17202937855, 1, 0⟩, ⟨17209229312, 17211326463, 1, 0⟩, ⟨17221814288, 17221814288, 1, 0⟩, ⟨17221814272, 17221814272, 1, 0⟩, ⟨17207132160, 17209229311, 1, 0⟩, ⟨17223910144, 17223910144, 1, 0⟩, ⟨17223909508, 17223909508, 1, 0⟩, ⟨17223909507, 17223909507, 1, 0⟩, ⟨17223909509, 17223909509, 1, 0⟩, ⟨17223910272, 17223910283, 1, 0⟩, ⟨17223910400, 17223910400, 1, 0⟩, ⟨17230200976, 17230200976, 1, 0⟩, ⟨17230200962, 17230200962, 1, 0⟩, ⟨17230200968, 17230200968, 1, 0⟩]) [.pwr, .flt, .evc, .cal, .lsc, .free, .tl, .pair, .lane, .ft, .hlth, .thm, .safe, .time, .sa, .layer, .maskin, .mem, .memc, .win, .live] s (State.boundaryNow s a1) := by
  unfold State.boundaryNow
  split
  · first | assumption | exact Fr.refl _
  · extract_lets -merge -underBinder +onlyGivenNames x0
    try clear_value (e0 : x0 = _)
    extract_lets -merge -underBinder +onlyGivenNames x1
    refine Fr.cut x1 ?_ (fun h1 => ?_)
    · unfold x1
      refine Fr.step State.showPhase_fr rfl rfl ?_
      refine Fr.step State.periodEnds_fr rfl rfl ?_
      first | assumption | exact Fr.refl _
    try clear_value x1
    extract_lets -merge -underBinder +onlyGivenNames x2
    extract_lets -merge -underBinder +onlyGivenNames x3
    refine Fr.cut x3 ?_ (fun h3 => ?_)
    · unfold x3
      refine Fr.step State.setFt_fr rfl rfl ?_
      first | assumption | exact Fr.refl _
    try clear_value x3
    refine Fr.iteh (fun _ => ?_) (fun _ => ?_)
    · refine Fr.step State.ftHalt_fr rfl rfl ?_
      refine Fr.step State.hlthStops_fr rfl rfl ?_
      refine Fr.step State.safeBoundary_fr rfl rfl ?_
      refine Fr.step State.pairBoundary_fr rfl rfl ?_
      refine Fr.step State.passALost_fr rfl rfl ?_
      first | assumption | exact Fr.refl _
    · refine Fr.step State.boundaryGoes_fr rfl rfl ?_
      first | assumption | exact Fr.refl _

end Sys2Proof.Machine
end

