-- ==== Sys2Proof/Laws/DriveFrame.lean ====
section
/-! SUPPORT. What each operation and command of Machine/Drive.lean changes at most: register blocks and zones of the state. -/

namespace Sys2Proof.Machine

theorem execDriveReadError_fr {a0} {a1} {s} : FrRes ([⟨17181966336, 17181966336, 1, 0⟩, ⟨17181967360, 17181967360, 1, 0⟩, ⟨17186226581, 17186257301, 2048, 0⟩, ⟨17181966338, 17181966338, 1, 0⟩, ⟨17181966495, 17181966495, 1, 0⟩, ⟨17186168832, 17186169247, 1, 0⟩, ⟨17194549776, 17194549776, 1, 0⟩, ⟨17192452352, 17192452352, 1, 0⟩, ⟨17192452608, 17192452608, 1, 0⟩, ⟨17192452480, 17192452480, 1, 0⟩, ⟨17192452229, 17192452229, 1, 0⟩, ⟨17192452228, 17192452228, 1, 0⟩, ⟨17188261632, 17188261632, 1, 0⟩, ⟨17181967232, 17181967263, 1, 0⟩, ⟨17200843016, 17200843016, 1, 0⟩, ⟨17200843008, 17200843008, 1, 0⟩, ⟨17200840837, 17200840837, 1, 0⟩, ⟨17200840833, 17200840833, 1, 0⟩, ⟨17223909508, 17223909508, 1, 0⟩, ⟨17223909507, 17223909507, 1, 0⟩, ⟨17223909509, 17223909509, 1, 0⟩, ⟨17223910272, 17223910283, 1, 0⟩, ⟨17223910400, 17223910400, 1, 0⟩, ⟨17211359376, 17211408272, 256, 0⟩, ⟨17209229443, 17209229443, 1, 0⟩, ⟨17209229442, 17209229442, 1, 0⟩, ⟨17209231360, 17209231360, 1, 0⟩, ⟨17209231504, 17209231504, 1, 0⟩, ⟨17209231488, 17209231488, 1, 0⟩, ⟨17209231376, 17209231376, 1, 0⟩] ++ [⟨17209245696, 17209251736, 8, 0⟩, ⟨17196778368, 17196778368, 1, 0⟩]) [.ft, .free, .mem, .flt, .pwr, .evc, .memc, .pair, .lane, .lsc] s (execDriveReadError a0 a1 s) := by
  unfold execDriveReadError
  refine FrRes.next ?_
  extract_lets -merge -underBinder +onlyGivenNames x0
  refine Fr.iteh (fun _ => ?_) (fun _ => ?_)
  · split
    · refine Fr.iteh (fun _ => ?_) (fun _ => ?_)
      · first | assumption | exact Fr.refl _
      · refine Fr.step State.streamAbort_fr rfl rfl ?_
        unfold x0
        refine Fr.step State.raiseAcc_fr rfl rfl ?_
        refine Fr.wr (xs := [⟨17196778368, 17196778368, 1, 0⟩]) rfl rfl ?_
        refine Fr.step State.readErr_fr rfl rfl ?_
        first | assumption | exact Fr.refl _
    · first | assumption | exact Fr.refl _
  · split
    · refine Fr.iteh (fun _ => ?_) (fun _ => ?_)
      · first | assumption | exact Fr.refl _
      · unfold x0
        refine Fr.step State.raiseAcc_fr rfl rfl ?_
        refine Fr.wr (xs := [⟨17196778368, 17196778368, 1, 0⟩]) rfl rfl ?_
        refine Fr.step State.readErr_fr rfl rfl ?_
        refine Fr.step State.setFt_fr rfl rfl ?_
        first | assumption | exact Fr.refl _
    · first | assumption | exact Fr.refl _

end Sys2Proof.Machine
end

