-- ==== Sys2Proof/Laws/EvcFrame.lean ====
section
/-! SUPPORT. What each operation and command of Machine/Evc.lean changes at most: register blocks and zones of the state. -/

namespace Sys2Proof.Machine

theorem State.setPc_fr {s} {a1} {a2} : Fr [] [.evc] s (State.setPc s a1 a2) := by
  unfold State.setPc
  extract_lets -merge -underBinder +onlyGivenNames x0
  extract_lets -merge -underBinder +onlyGivenNames x1
  refine Fr.cut x1 ?_ (fun h1 => ?_)
  · unfold x1
    refine Fr.step State.setEng_fr rfl rfl ?_
    first | assumption | exact Fr.refl _
  try clear_value x1
  refine Fr.iteh (fun _ => ?_) (fun _ => ?_)
  · refine Fr.set_evc rfl ?_
    first | assumption | exact Fr.refl _
  · first | assumption | exact Fr.refl _

theorem State.view_fr {s} {a1} {a2} : Fr [] [.flt, .evc] s (State.view s a1 a2) := by
  unfold State.view
  extract_lets -merge -underBinder +onlyGivenNames x0
  extract_lets -merge -underBinder +onlyGivenNames x1
  refine Fr.step State.nestCheck_fr rfl rfl ?_
  refine Fr.step State.setPc_fr rfl rfl ?_
  refine Fr.step State.setEng_fr rfl rfl ?_
  first | assumption | exact Fr.refl _

theorem State.setOpened_fr {s} {a1} {a2} : Fr [⟨17186226583, 17186257303, 2048, 0⟩, ⟨17186226582, 17186257302, 2048, 0⟩, ⟨17186226576, 17186257296, 2048, 0⟩, ⟨17186226568, 17186257288, 2048, 0⟩, ⟨17186226560, 17186257280, 2048, 0⟩] [.evc] s (State.setOpened s a1 a2) := by
  unfold State.setOpened
  refine Fr.step State.showEng_fr rfl rfl ?_
  refine Fr.step State.setEng_fr rfl rfl ?_
  first | assumption | exact Fr.refl _

theorem State.inactive_fr {s} {a1} : Fr [⟨17186226581, 17186257301, 2048, 0⟩] [.flt, .evc] s (State.inactive s a1) := by
  unfold State.inactive
  refine Fr.iteh (fun _ => ?_) (fun _ => ?_)
  · refine Fr.step State.wakeFor_fr rfl rfl ?_
    first | assumption | exact Fr.refl _
  · first | assumption | exact Fr.refl _

theorem State.discard_fr {s} {a1} : Fr [⟨17186169856, 17186170271, 1, 0⟩, ⟨17186226583, 17186257303, 2048, 0⟩, ⟨17186226582, 17186257302, 2048, 0⟩, ⟨17186226576, 17186257296, 2048, 0⟩, ⟨17186226568, 17186257288, 2048, 0⟩, ⟨17186226560, 17186257280, 2048, 0⟩, ⟨17186226581, 17186257301, 2048, 0⟩] [.evc, .flt] s (State.discard s a1) := by
  unfold State.discard
  extract_lets -merge -underBinder +onlyGivenNames x0
  try clear_value x0
  extract_lets -merge -underBinder +onlyGivenNames x1
  refine Fr.cut x1 ?_ (fun h1 => ?_)
  · unfold x1
    refine Fr.foldl' ?_ (fun t x hx ht => ?_)
    · first | assumption | exact Fr.refl _
    · refine Fr.wr (xs := [⟨17186169856, 17186170271, 1, 0⟩]) (Reg.EVC_ACT_key (by first | omega | (simp only [List.mem_range] at *; omega))) rfl ?_
      first | assumption | exact Fr.refl _
  try clear_value x1
  refine Fr.foldl' ?_ (fun t x hx ht => ?_)
  · refine Fr.step State.setOpened_fr rfl rfl ?_
    first | assumption | exact Fr.refl _
  · refine Fr.step State.inactive_fr rfl rfl ?_
    first | assumption | exact Fr.refl _

theorem State.resetEngine_fr {s} {a1} : Fr [⟨17186169856, 17186170271, 1, 0⟩, ⟨17186226583, 17186257303, 2048, 0⟩, ⟨17186226582, 17186257302, 2048, 0⟩, ⟨17186226576, 17186257296, 2048, 0⟩, ⟨17186226568, 17186257288, 2048, 0⟩, ⟨17186226560, 17186257280, 2048, 0⟩, ⟨17186226581, 17186257301, 2048, 0⟩, ⟨17186226816, 17186257536, 2048, 0⟩, ⟨17186226584, 17186257304, 2048, 0⟩] [.evc, .flt] s (State.resetEngine s a1) := by
  unfold State.resetEngine
  extract_lets -merge -underBinder +onlyGivenNames x0
  refine Fr.cut x0 ?_ (fun h0 => ?_)
  · unfold x0
    refine Fr.step State.discard_fr rfl rfl ?_
    first | assumption | exact Fr.refl _
  try clear_value x0
  extract_lets -merge -underBinder +onlyGivenNames x1
  refine Fr.cut x1 ?_ (fun h1 => ?_)
  · unfold x1
    refine Fr.step State.setEng_fr rfl rfl ?_
    refine Fr.wr (xs := [⟨17186226816, 17186257536, 2048, 0⟩]) (Reg.EVC_ENG_WDT_CTRL_EN_key (by first | omega | (simp only [List.mem_range] at *; omega))) rfl ?_
    refine Fr.wr (xs := [⟨17186226584, 17186257304, 2048, 0⟩]) (Reg.EVC_ENG_STATE_HALT_key (by first | omega | (simp only [List.mem_range] at *; omega))) rfl ?_
    refine Fr.wr (xs := [⟨17186226581, 17186257301, 2048, 0⟩]) (Reg.EVC_ENG_STATE_WFI_key (by first | omega | (simp only [List.mem_range] at *; omega))) rfl ?_
    first | assumption | exact Fr.refl _
  try clear_value x1
  refine Fr.step State.showEng_fr rfl rfl ?_
  first | assumption | exact Fr.refl _

theorem State.startEngine_fr {s} {a1} : Fr [] [.evc] s (State.startEngine s a1) := by
  unfold State.startEngine
  refine Fr.step State.setPc_fr rfl rfl ?_
  refine Fr.step State.setEng_fr rfl rfl ?_
  first | assumption | exact Fr.refl _

theorem State.enterEvent_fr {s} {a1} {a2} {a3} {a4} {a5} : Fr [⟨17186169856, 17186170271, 1, 0⟩, ⟨17186168832, 17186169247, 1, 0⟩, ⟨17186226583, 17186257303, 2048, 0⟩, ⟨17186226582, 17186257302, 2048, 0⟩, ⟨17186226576, 17186257296, 2048, 0⟩, ⟨17186226568, 17186257288, 2048, 0⟩, ⟨17186226560, 17186257280, 2048, 0⟩, ⟨17186226581, 17186257301, 2048, 0⟩] [.evc] s (State.enterEvent s a1 a2 a3 a4 a5) := by
  unfold State.enterEvent
  extract_lets -merge -underBinder +onlyGivenNames x0
  refine Fr.cut x0 ?_ (fun h0 => ?_)
  · unfold x0
    refine Fr.wr (xs := [⟨17186169856, 17186170271, 1, 0⟩]) (Reg.EVC_ACT_key (by first | omega | (simp only [List.mem_range] at *; omega))) rfl ?_
    refine Fr.wr (xs := [⟨17186168832, 17186169247, 1, 0⟩]) (Reg.EVC_PEND_key (by first | omega | (simp only [List.mem_range] at *; omega))) rfl ?_
    first | assumption | exact Fr.refl _
  try clear_value x0
  extract_lets -merge -underBinder +onlyGivenNames x1
  extract_lets -merge -underBinder +onlyGivenNames x2
  refine Fr.cut x2 ?_ (fun h2 => ?_)
  · unfold x2
    refine Fr.set_evc rfl ?_
    first | assumption | exact Fr.refl _
  try clear_value x2
  extract_lets -merge -underBinder +onlyGivenNames x3
  refine Fr.cut x3 ?_ (fun h3 => ?_)
  · unfold x3
    refine Fr.step State.setOpened_fr rfl rfl ?_
    first | assumption | exact Fr.refl _
  try clear_value x3
  refine Fr.step State.setPc_fr rfl rfl ?_
  refine Fr.step State.setEng_fr rfl rfl ?_
  refine Fr.wr (xs := [⟨17186226581, 17186257301, 2048, 0⟩]) (Reg.EVC_ENG_STATE_WFI_key (by first | omega | (simp only [List.mem_range] at *; omega))) rfl ?_
  first | assumption | exact Fr.refl _

theorem execEventSourceEdge_fr {a0} {s} : FrRes [⟨17181966336, 17181966336, 1, 0⟩, ⟨17181967360, 17181967360, 1, 0⟩, ⟨17186226581, 17186257301, 2048, 0⟩, ⟨17181966338, 17181966338, 1, 0⟩, ⟨17181966495, 17181966495, 1, 0⟩, ⟨17186168832, 17186169247, 1, 0⟩] [.pwr, .flt, .evc] s (execEventSourceEdge a0 s) := by
  unfold execEventSourceEdge
  refine FrRes.next ?_
  refine Fr.iteh (fun _ => ?_) (fun _ => ?_)
  · refine Fr.step State.fire_fr rfl rfl ?_
    first | assumption | exact Fr.refl _
  · first | assumption | exact Fr.refl _

theorem execEvcSetpend_fr {a0} {a1} {a2} {s} : FrRes [⟨17186169344, 17186169759, 128, 31⟩, ⟨17186160640, 17186160640, 1, 0⟩, ⟨17188261632, 17188261632, 1, 0⟩, ⟨17181966336, 17181966336, 1, 0⟩, ⟨17181967360, 17181967360, 1, 0⟩, ⟨17186226581, 17186257301, 2048, 0⟩, ⟨17181966338, 17181966338, 1, 0⟩, ⟨17181966495, 17181966495, 1, 0⟩, ⟨17186168832, 17186169247, 1, 0⟩, ⟨17181967232, 17181967263, 1, 0⟩] [.flt, .evc, .pwr, .pair] s (execEvcSetpend a0 a1 a2 s) := by
  unfold execEvcSetpend
  refine FrRes.next ?_
  refine busWrite_fr (x := ⟨17186169344, 17186169759, 128, 31⟩) (Keys.word_intro (by first | omega | (omega)) (by first | omega | (omega)) (by first | omega | (omega))) (fun u => State.werr_0x2003 (by omega)) rfl rfl ?_ (fun t ht => ?_)
  · first | assumption | exact Fr.refl _
  · refine Fr.forFin ?_ (fun i t ht => ?_)
    · first | assumption | exact Fr.refl _
    · refine Fr.iteh (fun _ => ?_) (fun _ => ?_)
      · refine Fr.step State.fire_fr rfl rfl ?_
        first | assumption | exact Fr.refl _
      · first | assumption | exact Fr.refl _

theorem execEvcPendClear_fr {a0} {a1} {a2} {s} : FrRes [⟨17186160640, 17186160640, 1, 0⟩, ⟨17188261632, 17188261632, 1, 0⟩, ⟨17181966336, 17181966336, 1, 0⟩, ⟨17181967360, 17181967360, 1, 0⟩, ⟨17186226581, 17186257301, 2048, 0⟩, ⟨17181966338, 17181966338, 1, 0⟩, ⟨17181966495, 17181966495, 1, 0⟩, ⟨17186168832, 17186169247, 1, 0⟩, ⟨17181967232, 17181967263, 1, 0⟩] [.flt, .evc, .pwr, .pair] s (execEvcPendClear a0 a1 a2 s) := by
  unfold execEvcPendClear
  refine FrRes.next ?_
  refine busWrite_fr (x := ⟨17186168832, 17186169247, 128, 31⟩) (Keys.word_intro (by first | omega | (omega)) (by first | omega | (omega)) (by first | omega | (omega))) (fun u => State.werr_0x2003 (by omega)) rfl rfl ?_ (fun t ht => ?_)
  · first | assumption | exact Fr.refl _
  · refine Fr.forFin ?_ (fun i t ht => ?_)
    · first | assumption | exact Fr.refl _
    · refine Fr.iteh (fun _ => ?_) (fun _ => ?_)
      · refine Fr.wr (xs := [⟨17186168832, 17186169247, 1, 0⟩]) (Reg.EVC_PEND_key (by first | omega | (simp only [List.mem_range] at *; omega))) rfl ?_
        first | assumption | exact Fr.refl _
      · first | assumption | exact Fr.refl _

theorem execEventEntry_fr {a0} {a1} {a2} {s} : FrRes [⟨17181966336, 17181966336, 1, 0⟩, ⟨17181967360, 17181967360, 1, 0⟩, ⟨17186226581, 17186257301, 2048, 0⟩, ⟨17181966338, 17181966338, 1, 0⟩, ⟨17181966495, 17181966495, 1, 0⟩, ⟨17186168832, 17186169247, 1, 0⟩, ⟨17186169856, 17186170271, 1, 0⟩, ⟨17186226583, 17186257303, 2048, 0⟩, ⟨17186226582, 17186257302, 2048, 0⟩, ⟨17186226576, 17186257296, 2048, 0⟩, ⟨17186226568, 17186257288, 2048, 0⟩, ⟨17186226560, 17186257280, 2048, 0⟩] [.flt, .evc, .pwr] s (execEventEntry a0 a1 a2 s) := by
  unfold execEventEntry
  refine FrRes.next ?_
  extract_lets -merge -underBinder +onlyGivenNames x0
  refine Fr.cut x0 ?_ (fun h0 => ?_)
  · unfold x0
    refine Fr.step State.view_fr rfl rfl ?_
    first | assumption | exact Fr.refl _
  try clear_value x0
  split
  · split
    · first | assumption | exact Fr.refl _
    · refine Fr.step State.fire_fr rfl rfl ?_
      first | assumption | exact Fr.refl _
  · split
    · refine Fr.step State.enterEvent_fr rfl rfl ?_
      first | assumption | exact Fr.refl _
    · extract_lets -merge -underBinder +onlyGivenNames x1
      refine Fr.cut x1 ?_ (fun h1 => ?_)
      · unfold x1
        refine Fr.step State.fire_fr rfl rfl ?_
        first | assumption | exact Fr.refl _
      try clear_value x1
      extract_lets -merge -underBinder +onlyGivenNames x2
      try clear_value (e2 : x2 = _)
      refine Fr.step State.enterEvent_fr rfl rfl ?_
      first | assumption | exact Fr.refl _

theorem State.trapReturn_fr {s} {a1} : Fr [] [.flt, .evc] s (State.trapReturn s a1) := by
  unfold State.trapReturn
  extract_lets -merge -underBinder +onlyGivenNames x0
  refine Fr.step State.nestCheck_fr rfl rfl ?_
  refine Fr.step State.setPc_fr rfl rfl ?_
  refine Fr.step State.setEng_fr rfl rfl ?_
  first | assumption | exact Fr.refl _

theorem execMret_fr {a0} {a1} {s} : FrRes [⟨17186226583, 17186257303, 2048, 0⟩, ⟨17186226582, 17186257302, 2048, 0⟩, ⟨17186226576, 17186257296, 2048, 0⟩, ⟨17186226568, 17186257288, 2048, 0⟩, ⟨17186226560, 17186257280, 2048, 0⟩, ⟨17186226581, 17186257301, 2048, 0⟩, ⟨17186169856, 17186170271, 1, 0⟩, ⟨17186168832, 17186169247, 1, 0⟩] [.flt, .evc] s (execMret a0 a1 s) := by
  unfold execMret
  refine FrRes.next ?_
  extract_lets -merge -underBinder +onlyGivenNames x0
  refine Fr.cut x0 ?_ (fun h0 => ?_)
  · unfold x0
    refine Fr.step State.view_fr rfl rfl ?_
    first | assumption | exact Fr.refl _
  try clear_value x0
  split
  · refine Fr.step State.trapReturn_fr rfl rfl ?_
    first | assumption | exact Fr.refl _
  · refine Fr.step State.trapReturn_fr rfl rfl ?_
    refine Fr.step State.setOpened_fr rfl rfl ?_
    first | assumption | exact Fr.refl _
  · refine Fr.iteh (fun _ => ?_) (fun _ => ?_)
    · refine Fr.step State.nestCheck_fr rfl rfl ?_
      refine Fr.step State.setPc_fr rfl rfl ?_
      refine Fr.step State.setEng_fr rfl rfl ?_
      refine Fr.step State.setOpened_fr rfl rfl ?_
      first | assumption | exact Fr.refl _
    · refine Fr.step State.setPc_fr rfl rfl ?_
      refine Fr.step State.setEng_fr rfl rfl ?_
      first | assumption | exact Fr.refl _
  · extract_lets -merge -underBinder +onlyGivenNames x1
    refine Fr.cut x1 ?_ (fun h1 => ?_)
    · unfold x1
      refine Fr.step State.inactive_fr rfl rfl ?_
      refine Fr.step State.setOpened_fr rfl rfl ?_
      refine Fr.wr (xs := [⟨17186169856, 17186170271, 1, 0⟩]) (Reg.EVC_ACT_key (by first | omega | (simp only [List.mem_range] at *; omega))) rfl ?_
      first | assumption | exact Fr.refl _
    try clear_value x1
    split
    · refine Fr.step State.enterEvent_fr rfl rfl ?_
      first | assumption | exact Fr.refl _
    · refine Fr.step State.setPc_fr rfl rfl ?_
      refine Fr.step State.setEng_fr rfl rfl ?_
      first | assumption | exact Fr.refl _

theorem execSyncException_fr {a0} {a1} {a2} {a3} {s} : FrRes [⟨17186226584, 17186257304, 2048, 0⟩, ⟨17186169856, 17186170271, 1, 0⟩, ⟨17186226583, 17186257303, 2048, 0⟩, ⟨17186226582, 17186257302, 2048, 0⟩, ⟨17186226576, 17186257296, 2048, 0⟩, ⟨17186226568, 17186257288, 2048, 0⟩, ⟨17186226560, 17186257280, 2048, 0⟩, ⟨17186226581, 17186257301, 2048, 0⟩] [.flt, .evc] s (execSyncException a0 a1 a2 a3 s) := by
  unfold execSyncException
  refine FrRes.next ?_
  extract_lets -merge -underBinder +onlyGivenNames x0
  refine Fr.cut x0 ?_ (fun h0 => ?_)
  · unfold x0
    refine Fr.step State.view_fr rfl rfl ?_
    first | assumption | exact Fr.refl _
  try clear_value x0
  extract_lets -merge -underBinder +onlyGivenNames x1
  try clear_value x1
  extract_lets -merge -underBinder +onlyGivenNames x2
  try clear_value x2
  extract_lets -merge -underBinder +onlyGivenNames x3
  extract_lets -merge -underBinder +onlyGivenNames x4
  extract_lets -merge -underBinder +onlyGivenNames x5
  refine Fr.cut x5 ?_ (fun h5 => ?_)
  · unfold x5
    refine Fr.step State.setEng_fr rfl rfl ?_
    first | assumption | exact Fr.refl _
  try clear_value x5
  refine Fr.iteh (fun _ => ?_) (fun _ => ?_)
  · refine Fr.step State.raiseOcc_fr rfl rfl ?_
    refine Fr.wr (xs := [⟨17186226584, 17186257304, 2048, 0⟩]) (Reg.EVC_ENG_STATE_HALT_key (by first | omega | (simp only [List.mem_range] at *; omega))) rfl ?_
    refine Fr.step State.discard_fr rfl rfl ?_
    first | assumption | exact Fr.refl _
  · extract_lets -merge -underBinder +onlyGivenNames x6
    refine Fr.cut x6 ?_ (fun h6 => ?_)
    · unfold x6
      refine Fr.iteh (fun _ => ?_) (fun _ => ?_)
      · refine Fr.step State.raiseOcc_fr rfl rfl ?_
        first | assumption | exact Fr.refl _
      · first | assumption | exact Fr.refl _
    try clear_value x6
    extract_lets -merge -underBinder +onlyGivenNames x7
    extract_lets -merge -underBinder +onlyGivenNames x8
    refine Fr.cut x8 ?_ (fun h8 => ?_)
    · unfold x8
      refine Fr.step State.setEng_fr rfl rfl ?_
      first | assumption | exact Fr.refl _
    try clear_value x8
    refine Fr.step State.setPc_fr rfl rfl ?_
    refine Fr.step State.setOpened_fr rfl rfl ?_
    first | assumption | exact Fr.refl _

theorem execNmiEntry_fr {a0} {a1} {s} : FrRes [⟨17186226581, 17186257301, 2048, 0⟩, ⟨17186226583, 17186257303, 2048, 0⟩, ⟨17186226582, 17186257302, 2048, 0⟩, ⟨17186226576, 17186257296, 2048, 0⟩, ⟨17186226568, 17186257288, 2048, 0⟩, ⟨17186226560, 17186257280, 2048, 0⟩] [.flt, .evc] s (execNmiEntry a0 a1 s) := by
  unfold execNmiEntry
  refine FrRes.next ?_
  refine Fr.iteh (fun _ => ?_) (fun _ => ?_)
  · first | assumption | exact Fr.refl _
  · extract_lets -merge -underBinder +onlyGivenNames x0
    refine Fr.cut x0 ?_ (fun h0 => ?_)
    · unfold x0
      refine Fr.step State.view_fr rfl rfl ?_
      first | assumption | exact Fr.refl _
    try clear_value x0
    extract_lets -merge -underBinder +onlyGivenNames x1
    extract_lets -merge -underBinder +onlyGivenNames x2
    refine Fr.cut x2 ?_ (fun h2 => ?_)
    · unfold x2
      refine Fr.step State.setEng_fr rfl rfl ?_
      first | assumption | exact Fr.refl _
    try clear_value x2
    refine Fr.step State.setPc_fr rfl rfl ?_
    refine Fr.wr (xs := [⟨17186226581, 17186257301, 2048, 0⟩]) (Reg.EVC_ENG_STATE_WFI_key (by first | omega | (simp only [List.mem_range] at *; omega))) rfl ?_
    refine Fr.step State.setOpened_fr rfl rfl ?_
    first | assumption | exact Fr.refl _

theorem execWfiEnter_fr {a0} {a1} {s} : FrRes [⟨17186226581, 17186257301, 2048, 0⟩] [.flt, .evc] s (execWfiEnter a0 a1 s) := by
  unfold execWfiEnter
  refine FrRes.next ?_
  extract_lets -merge -underBinder +onlyGivenNames x0
  refine Fr.cut x0 ?_ (fun h0 => ?_)
  · unfold x0
    refine Fr.step State.view_fr rfl rfl ?_
    first | assumption | exact Fr.refl _
  try clear_value x0
  refine Fr.iteh (fun _ => ?_) (fun _ => ?_)
  · first | assumption | exact Fr.refl _
  · refine Fr.wr (xs := [⟨17186226581, 17186257301, 2048, 0⟩]) (Reg.EVC_ENG_STATE_WFI_key (by first | omega | (simp only [List.mem_range] at *; omega))) rfl ?_
    first | assumption | exact Fr.refl _

theorem execEvcDrop_fr {a0} {a1} {a2} {s} : FrRes [⟨17186226688, 17186257439, 2048, 31⟩, ⟨17186160640, 17186160640, 1, 0⟩, ⟨17188261632, 17188261632, 1, 0⟩, ⟨17181966336, 17181966336, 1, 0⟩, ⟨17181967360, 17181967360, 1, 0⟩, ⟨17186226581, 17186257301, 2048, 0⟩, ⟨17181966338, 17181966338, 1, 0⟩, ⟨17181966495, 17181966495, 1, 0⟩, ⟨17186168832, 17186169247, 1, 0⟩, ⟨17181967232, 17181967263, 1, 0⟩, ⟨17186226583, 17186257303, 2048, 0⟩, ⟨17186226582, 17186257302, 2048, 0⟩, ⟨17186226576, 17186257296, 2048, 0⟩, ⟨17186226568, 17186257288, 2048, 0⟩, ⟨17186226560, 17186257280, 2048, 0⟩] [.flt, .evc, .pwr, .pair] s (execEvcDrop a0 a1 a2 s) := by
  unfold execEvcDrop
  refine FrRes.next ?_
  refine busWrite_fr (x := ⟨17186226688, 17186257439, 2048, 31⟩) (Keys.word_intro (by first | omega | (omega)) (by first | omega | (omega)) (by first | omega | (omega))) (fun u => State.werr_0x2003 (by omega)) rfl rfl ?_ (fun t ht => ?_)
  · first | assumption | exact Fr.refl _
  · extract_lets -merge -underBinder +onlyGivenNames x0
    try clear_value (e0 : x0 = _)
    split
    · refine Fr.step (State.werr_0x2003 (by omega)) rfl rfl ?_
      first | assumption | exact Fr.refl _
    · refine Fr.iteh (fun _ => ?_) (fun _ => ?_)
      · refine Fr.step (State.werr_0x2003 (by omega)) rfl rfl ?_
        first | assumption | exact Fr.refl _
      · refine Fr.step State.lookAgain_fr rfl rfl ?_
        refine Fr.step State.setOpened_fr rfl rfl ?_
        first | assumption | exact Fr.refl _

theorem execEvcRetarget_fr {a0} {a1} {a2} {s} : FrRes [⟨17186291712, 17186356767, 512, 31⟩, ⟨17186160640, 17186160640, 1, 0⟩, ⟨17188261632, 17188261632, 1, 0⟩, ⟨17181966336, 17181966336, 1, 0⟩, ⟨17181967360, 17181967360, 1, 0⟩, ⟨17186226581, 17186257301, 2048, 0⟩, ⟨17181966338, 17181966338, 1, 0⟩, ⟨17181966495, 17181966495, 1, 0⟩, ⟨17186168832, 17186169247, 1, 0⟩, ⟨17181967232, 17181967263, 1, 0⟩] [.flt, .evc, .pwr, .pair] s (execEvcRetarget a0 a1 a2 s) := by
  unfold execEvcRetarget
  refine FrRes.next ?_
  refine busWrite_fr (x := ⟨17186291712, 17186356767, 512, 31⟩) (Keys.word_intro (by first | omega | (omega)) (by first | omega | (omega)) (by first | omega | (omega))) (fun u => State.werr_0x2003 (by omega)) rfl rfl ?_ (fun t ht => ?_)
  · first | assumption | exact Fr.refl _
  · extract_lets -merge -underBinder +onlyGivenNames x0
    refine Fr.cut x0 ?_ (fun h0 => ?_)
    · unfold x0
      refine Fr.wr (xs := [⟨17186291724, 17186356748, 512, 0⟩]) (Reg.EVC_SRC_CFG_FALLBACK_key (by first | omega | (simp only [List.mem_range] at *; omega))) rfl ?_
      refine Fr.wr (xs := [⟨17186291720, 17186356744, 512, 0⟩]) (Reg.EVC_SRC_CFG_TARGET_key (by first | omega | (simp only [List.mem_range] at *; omega))) rfl ?_
      first | assumption | exact Fr.refl _
    try clear_value x0
    refine Fr.iteh (fun _ => ?_) (fun _ => ?_)
    · refine Fr.step State.powerFor_fr rfl rfl ?_
      refine Fr.step State.wakeFor_fr rfl rfl ?_
      first | assumption | exact Fr.refl _
    · first | assumption | exact Fr.refl _

theorem execRedirectTimeout_fr {a0} {s} : FrRes [⟨17181966336, 17181966336, 1, 0⟩, ⟨17181967360, 17181967360, 1, 0⟩, ⟨17186226581, 17186257301, 2048, 0⟩, ⟨17181966338, 17181966338, 1, 0⟩, ⟨17181966495, 17181966495, 1, 0⟩, ⟨17186168832, 17186169247, 1, 0⟩, ⟨17186170368, 17186170368, 1, 0⟩] [.evc, .pwr, .flt] s (execRedirectTimeout a0 s) := by
  unfold execRedirectTimeout
  refine FrRes.next ?_
  refine Fr.iteh (fun _ => ?_) (fun _ => ?_)
  · extract_lets -merge -underBinder +onlyGivenNames x0
    extract_lets -merge -underBinder +onlyGivenNames x1
    refine Fr.cut x1 ?_ (fun h1 => ?_)
    · unfold x1
      refine Fr.set_evc rfl ?_
      first | assumption | exact Fr.refl _
    try clear_value x1
    refine Fr.step State.powerFor_fr rfl rfl ?_
    refine Fr.step State.wakeFor_fr rfl rfl ?_
    refine Fr.step State.raise_fr rfl rfl ?_
    refine Fr.inc (xs := [⟨17186170368, 17186170368, 1, 0⟩]) rfl rfl ?_
    first | assumption | exact Fr.refl _
  · first | assumption | exact Fr.refl _

theorem execEngineHold_fr {a0} {a1} {a2} {s} : FrRes [⟨17186226176, 17186256927, 2048, 31⟩, ⟨17186160640, 17186160640, 1, 0⟩, ⟨17188261632, 17188261632, 1, 0⟩, ⟨17181966336, 17181966336, 1, 0⟩, ⟨17181967360, 17181967360, 1, 0⟩, ⟨17186226581, 17186257301, 2048, 0⟩, ⟨17181966338, 17181966338, 1, 0⟩, ⟨17181966495, 17181966495, 1, 0⟩, ⟨17186168832, 17186169247, 1, 0⟩, ⟨17181967232, 17181967263, 1, 0⟩, ⟨17186169856, 17186170271, 1, 0⟩, ⟨17186226583, 17186257303, 2048, 0⟩, ⟨17186226582, 17186257302, 2048, 0⟩, ⟨17186226576, 17186257296, 2048, 0⟩, ⟨17186226568, 17186257288, 2048, 0⟩, ⟨17186226560, 17186257280, 2048, 0⟩, ⟨17186226816, 17186257536, 2048, 0⟩, ⟨17186226584, 17186257304, 2048, 0⟩] [.flt, .evc, .pwr, .pair] s (execEngineHold a0 a1 a2 s) := by
  unfold execEngineHold
  refine FrRes.next ?_
  refine busWrite_fr (x := ⟨17186226176, 17186256927, 2048, 31⟩) (Keys.word_intro (by first | omega | (omega)) (by first | omega | (omega)) (by first | omega | (omega))) (fun u => State.werr_0x2003 (by omega)) rfl rfl ?_ (fun t ht => ?_)
  · first | assumption | exact Fr.refl _
  · refine Fr.iteh (fun _ => ?_) (fun _ => ?_)
    · refine Fr.wr (xs := [⟨17186226176, 17186256896, 2048, 0⟩]) (Reg.EVC_ENG_CTRL_HOLD_key (by first | omega | (simp only [List.mem_range] at *; omega))) rfl ?_
      refine Fr.step State.resetEngine_fr rfl rfl ?_
      first | assumption | exact Fr.refl _
    · first | assumption | exact Fr.refl _

theorem execEngineRelease_fr {a0} {a1} {a2} {s} : FrRes [⟨17186226176, 17186256927, 2048, 31⟩, ⟨17186160640, 17186160640, 1, 0⟩, ⟨17188261632, 17188261632, 1, 0⟩, ⟨17181966336, 17181966336, 1, 0⟩, ⟨17181967360, 17181967360, 1, 0⟩, ⟨17186226581, 17186257301, 2048, 0⟩, ⟨17181966338, 17181966338, 1, 0⟩, ⟨17181966495, 17181966495, 1, 0⟩, ⟨17186168832, 17186169247, 1, 0⟩, ⟨17181967232, 17181967263, 1, 0⟩] [.flt, .evc, .pwr, .pair] s (execEngineRelease a0 a1 a2 s) := by
  unfold execEngineRelease
  refine FrRes.next ?_
  refine busWrite_fr (x := ⟨17186226176, 17186256927, 2048, 31⟩) (Keys.word_intro (by first | omega | (omega)) (by first | omega | (omega)) (by first | omega | (omega))) (fun u => State.werr_0x2003 (by omega)) rfl rfl ?_ (fun t ht => ?_)
  · first | assumption | exact Fr.refl _
  · refine Fr.iteh (fun _ => ?_) (fun _ => ?_)
    · first | assumption | exact Fr.refl _
    · extract_lets -merge -underBinder +onlyGivenNames x0
      refine Fr.cut x0 ?_ (fun h0 => ?_)
      · unfold x0
        refine Fr.wr (xs := [⟨17186226176, 17186256896, 2048, 0⟩]) (Reg.EVC_ENG_CTRL_HOLD_key (by first | omega | (simp only [List.mem_range] at *; omega))) rfl ?_
        first | assumption | exact Fr.refl _
      try clear_value x0
      refine Fr.iteh (fun _ => ?_) (fun _ => ?_)
      · refine Fr.step State.startEngine_fr rfl rfl ?_
        first | assumption | exact Fr.refl _
      · first | assumption | exact Fr.refl _

theorem execAperChange_fr {a0} {a1} {a2} {s} : FrRes [⟨17186226176, 17186256927, 2048, 31⟩, ⟨17186160640, 17186160640, 1, 0⟩, ⟨17188261632, 17188261632, 1, 0⟩, ⟨17181966336, 17181966336, 1, 0⟩, ⟨17181967360, 17181967360, 1, 0⟩, ⟨17186226581, 17186257301, 2048, 0⟩, ⟨17181966338, 17181966338, 1, 0⟩, ⟨17181966495, 17181966495, 1, 0⟩, ⟨17186168832, 17186169247, 1, 0⟩, ⟨17181967232, 17181967263, 1, 0⟩] [.flt, .evc, .pwr, .pair] s (execAperChange a0 a1 a2 s) := by
  unfold execAperChange
  refine FrRes.next ?_
  refine busWrite_fr (x := ⟨17186226176, 17186256927, 2048, 31⟩) (Keys.word_intro (by first | omega | (omega)) (by first | omega | (omega)) (by first | omega | (omega))) (fun u => State.werr_0x2003 (by omega)) rfl rfl ?_ (fun t ht => ?_)
  · first | assumption | exact Fr.refl _
  · refine Fr.wr (xs := [⟨17186226177, 17186256897, 2048, 0⟩]) (Reg.EVC_ENG_CTRL_APER_key (by first | omega | (simp only [List.mem_range] at *; omega))) rfl ?_
    first | assumption | exact Fr.refl _

theorem State.kickWdt_fr {s} {a1} : Fr [] [.evc] s (State.kickWdt s a1) := by
  unfold State.kickWdt
  refine Fr.step State.setEng_fr rfl rfl ?_
  first | assumption | exact Fr.refl _

theorem execWdtEnable_fr {a0} {a1} {a2} {s} : FrRes [⟨17186226816, 17186257567, 2048, 31⟩, ⟨17186160640, 17186160640, 1, 0⟩, ⟨17188261632, 17188261632, 1, 0⟩, ⟨17181966336, 17181966336, 1, 0⟩, ⟨17181967360, 17181967360, 1, 0⟩, ⟨17186226581, 17186257301, 2048, 0⟩, ⟨17181966338, 17181966338, 1, 0⟩, ⟨17181966495, 17181966495, 1, 0⟩, ⟨17186168832, 17186169247, 1, 0⟩, ⟨17181967232, 17181967263, 1, 0⟩] [.flt, .evc, .pwr, .pair] s (execWdtEnable a0 a1 a2 s) := by
  unfold execWdtEnable
  refine FrRes.next ?_
  refine busWrite_fr (x := ⟨17186226816, 17186257567, 2048, 31⟩) (Keys.word_intro (by first | omega | (omega)) (by first | omega | (omega)) (by first | omega | (omega))) (fun u => State.werr_0x2003 (by omega)) rfl rfl ?_ (fun t ht => ?_)
  · first | assumption | exact Fr.refl _
  · refine Fr.iteh (fun _ => ?_) (fun _ => ?_)
    · refine Fr.step State.kickWdt_fr rfl rfl ?_
      refine Fr.wr (xs := [⟨17186226816, 17186257536, 2048, 0⟩]) (Reg.EVC_ENG_WDT_CTRL_EN_key (by first | omega | (simp only [List.mem_range] at *; omega))) rfl ?_
      first | assumption | exact Fr.refl _
    · first | assumption | exact Fr.refl _

theorem State.wdtFault_fr {s} {a1} : Fr [] [.flt] s (State.wdtFault s a1) := by
  unfold State.wdtFault
  refine Fr.step State.raise_fr rfl rfl ?_
  first | assumption | exact Fr.refl _

theorem execWdtKick_fr {a0} {a1} {a2} {s} : FrRes [⟨17186227072, 17186257823, 2048, 31⟩, ⟨17186160640, 17186160640, 1, 0⟩, ⟨17188261632, 17188261632, 1, 0⟩, ⟨17181966336, 17181966336, 1, 0⟩, ⟨17181967360, 17181967360, 1, 0⟩, ⟨17186226581, 17186257301, 2048, 0⟩, ⟨17181966338, 17181966338, 1, 0⟩, ⟨17181966495, 17181966495, 1, 0⟩, ⟨17186168832, 17186169247, 1, 0⟩, ⟨17181967232, 17181967263, 1, 0⟩] [.flt, .evc, .pwr, .pair] s (execWdtKick a0 a1 a2 s) := by
  unfold execWdtKick
  refine FrRes.next ?_
  refine busWrite_fr (x := ⟨17186227072, 17186257823, 2048, 31⟩) (Keys.word_intro (by first | omega | (omega)) (by first | omega | (omega)) (by first | omega | (omega))) (fun u => State.werr_0x2003 (by omega)) rfl rfl ?_ (fun t ht => ?_)
  · first | assumption | exact Fr.refl _
  · refine Fr.iteh (fun _ => ?_) (fun _ => ?_)
    · refine Fr.step State.kickWdt_fr rfl rfl ?_
      first | assumption | exact Fr.refl _
    · refine Fr.step State.wdtFault_fr rfl rfl ?_
      first | assumption | exact Fr.refl _

theorem execWdtWarnExpiry_fr {a0} {s} : FrRes [] [.flt, .evc] s (execWdtWarnExpiry a0 s) := by
  unfold execWdtWarnExpiry
  refine FrRes.next ?_
  refine Fr.iteh (fun _ => ?_) (fun _ => ?_)
  · refine Fr.step State.raise_fr rfl rfl ?_
    refine Fr.step State.setEng_fr rfl rfl ?_
    first | assumption | exact Fr.refl _
  · first | assumption | exact Fr.refl _

theorem execWdtTimeout_fr {a0} {s} : FrRes [] [.flt, .evc] s (execWdtTimeout a0 s) := by
  unfold execWdtTimeout
  refine FrRes.next ?_
  refine Fr.iteh (fun _ => ?_) (fun _ => ?_)
  · refine Fr.step State.wdtFault_fr rfl rfl ?_
    refine Fr.step State.setEng_fr rfl rfl ?_
    first | assumption | exact Fr.refl _
  · first | assumption | exact Fr.refl _

end Sys2Proof.Machine
end

