-- ==== Sys2Proof/Laws/NetOpsFrame.lean ====
section
/-! SUPPORT. What each operation and command of Machine/NetOps.lean changes at most: register blocks and zones of the state. -/

namespace Sys2Proof.Machine

theorem State.pauseFor_fr {s} {a1} {a2} : Fr [] [.net] s (State.pauseFor s a1 a2) := by
  unfold State.pauseFor
  extract_lets -merge -underBinder +onlyGivenNames x0
  try clear_value (e0 : x0 = _)
  refine Fr.set_net rfl ?_
  first | assumption | exact Fr.refl _

theorem State.rxNext_fr {s} {a1} : Fr [⟨17215523712, 17217620864, 2097152, 0⟩] [] s (State.rxNext s a1) := by
  unfold State.rxNext
  refine Fr.wr (xs := [⟨17215523712, 17217620864, 2097152, 0⟩]) (Reg.NET_HEAD_RX_HEAD_key (by first | omega | (simp only [List.mem_range] at *; omega))) rfl ?_
  first | assumption | exact Fr.refl _

theorem State.txNext_fr {s} {a1} : Fr [⟨17215523728, 17217620880, 2097152, 0⟩] [] s (State.txNext s a1) := by
  unfold State.txNext
  refine Fr.wr (xs := [⟨17215523728, 17217620880, 2097152, 0⟩]) (Reg.NET_HEAD_TX_HEAD_key (by first | omega | (simp only [List.mem_range] at *; omega))) rfl ?_
  first | assumption | exact Fr.refl _

theorem State.ringStop_fr {s} {a1} {a2} {a3} {a4} : Fr [⟨17181966336, 17181966336, 1, 0⟩, ⟨17181967360, 17181967360, 1, 0⟩, ⟨17186226581, 17186257301, 2048, 0⟩, ⟨17181966338, 17181966338, 1, 0⟩, ⟨17181966495, 17181966495, 1, 0⟩, ⟨17186168832, 17186169247, 1, 0⟩, ⟨17215520901, 17217618053, 2097152, 0⟩] [.net, .flt, .pwr, .evc] s (State.ringStop s a1 a2 a3 a4) := by
  unfold State.ringStop
  extract_lets -merge -underBinder +onlyGivenNames x0
  extract_lets -merge -underBinder +onlyGivenNames x1
  extract_lets -merge -underBinder +onlyGivenNames x2
  refine Fr.cut x2 ?_ (fun h2 => ?_)
  · unfold x2
    refine Fr.set_net rfl ?_
    first | assumption | exact Fr.refl _
  try clear_value x2
  refine Fr.step State.raiseOcc_fr rfl rfl ?_
  refine Fr.step State.fire_fr rfl rfl ?_
  refine Fr.wr (xs := [⟨17215520901, 17217618053, 2097152, 0⟩]) (Reg.NET_STATUS_DMA_ERR_key (by first | omega | (simp only [List.mem_range] at *; omega))) rfl ?_
  first | assumption | exact Fr.refl _

theorem State.ringRead_fr {s} {a1} {a2} {a3} : Fr [⟨17181966336, 17181966336, 1, 0⟩, ⟨17181967360, 17181967360, 1, 0⟩, ⟨17186226581, 17186257301, 2048, 0⟩, ⟨17181966338, 17181966338, 1, 0⟩, ⟨17181966495, 17181966495, 1, 0⟩, ⟨17186168832, 17186169247, 1, 0⟩, ⟨17215520901, 17217618053, 2097152, 0⟩, ⟨17188261632, 17188261632, 1, 0⟩, ⟨17181967232, 17181967263, 1, 0⟩] [.net, .flt, .pwr, .evc] s (State.ringRead s a1 a2 a3) := by
  unfold State.ringRead
  refine Fr.step State.ringStop_fr rfl rfl ?_
  refine Fr.step State.readErr_fr rfl rfl ?_
  first | assumption | exact Fr.refl _

theorem State.rxEvent_fr {s} {a1} : Fr [⟨17181966336, 17181966336, 1, 0⟩, ⟨17181967360, 17181967360, 1, 0⟩, ⟨17186226581, 17186257301, 2048, 0⟩, ⟨17181966338, 17181966338, 1, 0⟩, ⟨17181966495, 17181966495, 1, 0⟩, ⟨17186168832, 17186169247, 1, 0⟩] [.pwr, .flt, .evc, .net] s (State.rxEvent s a1) := by
  unfold State.rxEvent
  refine Fr.iteh (fun _ => ?_) (fun _ => ?_)
  · refine Fr.step State.fire_fr rfl rfl ?_
    refine Fr.set_net rfl ?_
    first | assumption | exact Fr.refl _
  · first | assumption | exact Fr.refl _

theorem State.netDrop_fr {s} {a1} : Fr [⟨17215528976, 17217626128, 2097152, 0⟩] [] s (State.netDrop s a1) := by
  unfold State.netDrop
  refine Fr.inc (xs := [⟨17215528976, 17217626128, 2097152, 0⟩]) (Reg.NET_CNT_RX_HI_key (by first | omega | (simp only [List.mem_range] at *; omega))) rfl ?_
  first | assumption | exact Fr.refl _

theorem State.rxWrite_fr {s} {a1} {a2} {a3} {a4} : Fr [⟨17181966336, 17181966336, 1, 0⟩, ⟨17181967360, 17181967360, 1, 0⟩, ⟨17186226581, 17186257301, 2048, 0⟩, ⟨17181966338, 17181966338, 1, 0⟩, ⟨17181966495, 17181966495, 1, 0⟩, ⟨17186168832, 17186169247, 1, 0⟩, ⟨17194549776, 17194549776, 1, 0⟩, ⟨17192452352, 17192452352, 1, 0⟩, ⟨17192452608, 17192452608, 1, 0⟩, ⟨17192452480, 17192452480, 1, 0⟩, ⟨17192452229, 17192452229, 1, 0⟩, ⟨17192452228, 17192452228, 1, 0⟩, ⟨17188261632, 17188261632, 1, 0⟩, ⟨17181967232, 17181967263, 1, 0⟩] [.mem, .flt, .pwr, .evc, .memc] s (State.rxWrite s a1 a2 a3 a4).1 := by
  unfold State.rxWrite
  refine Fr.step State.storeTry_fr rfl rfl ?_
  first | assumption | exact Fr.refl _

theorem State.descBack_fr {s} {a1} {a2} {a3} {a4} {a5} {a6} : Fr [⟨17181966336, 17181966336, 1, 0⟩, ⟨17181967360, 17181967360, 1, 0⟩, ⟨17186226581, 17186257301, 2048, 0⟩, ⟨17181966338, 17181966338, 1, 0⟩, ⟨17181966495, 17181966495, 1, 0⟩, ⟨17186168832, 17186169247, 1, 0⟩, ⟨17194549776, 17194549776, 1, 0⟩, ⟨17192452352, 17192452352, 1, 0⟩, ⟨17192452608, 17192452608, 1, 0⟩, ⟨17192452480, 17192452480, 1, 0⟩, ⟨17192452229, 17192452229, 1, 0⟩, ⟨17192452228, 17192452228, 1, 0⟩, ⟨17188261632, 17188261632, 1, 0⟩, ⟨17181967232, 17181967263, 1, 0⟩, ⟨17215520901, 17217618053, 2097152, 0⟩] [.mem, .flt, .pwr, .evc, .memc, .net] s (State.descBack s a1 a2 a3 a4 a5 a6).1 := by
  unfold State.descBack
  extract_lets -merge -underBinder +onlyGivenNames x0
  refine Fr.cut x0.1 ?_ (fun h0 => ?_)
  · unfold x0
    refine Fr.step State.rxWrite_fr rfl rfl ?_
    first | assumption | exact Fr.refl _
  try clear_value x0
  split
  · refine Fr.mk1 ?_
    refine Fr.step State.ringStop_fr rfl rfl ?_
    first | assumption | exact Fr.refl _
  · extract_lets -merge -underBinder +onlyGivenNames x1
    refine Fr.cut x1.1 ?_ (fun h1 => ?_)
    · unfold x1
      refine Fr.step State.rxWrite_fr rfl rfl ?_
      first | assumption | exact Fr.refl _
    try clear_value x1
    split
    · refine Fr.mk1 ?_
      refine Fr.step State.ringStop_fr rfl rfl ?_
      first | assumption | exact Fr.refl _
    · refine Fr.mk1 ?_
      first | assumption | exact Fr.refl _

theorem State.rxWriteBack_fr {s} {a1} {a2} {a3} {a4} : Fr [⟨17181966336, 17181966336, 1, 0⟩, ⟨17181967360, 17181967360, 1, 0⟩, ⟨17186226581, 17186257301, 2048, 0⟩, ⟨17181966338, 17181966338, 1, 0⟩, ⟨17181966495, 17181966495, 1, 0⟩, ⟨17186168832, 17186169247, 1, 0⟩, ⟨17194549776, 17194549776, 1, 0⟩, ⟨17192452352, 17192452352, 1, 0⟩, ⟨17192452608, 17192452608, 1, 0⟩, ⟨17192452480, 17192452480, 1, 0⟩, ⟨17192452229, 17192452229, 1, 0⟩, ⟨17192452228, 17192452228, 1, 0⟩, ⟨17188261632, 17188261632, 1, 0⟩, ⟨17181967232, 17181967263, 1, 0⟩, ⟨17215520901, 17217618053, 2097152, 0⟩, ⟨17215523712, 17217620864, 2097152, 0⟩, ⟨17215528960, 17217626112, 2097152, 0⟩] [.mem, .flt, .pwr, .evc, .memc, .net] s (State.rxWriteBack s a1 a2 a3 a4) := by
  unfold State.rxWriteBack
  extract_lets -merge -underBinder +onlyGivenNames x0
  try clear_value x0
  extract_lets -merge -underBinder +onlyGivenNames x1
  try clear_value (e1 : x1 = _)
  extract_lets -merge -underBinder +onlyGivenNames x2
  refine Fr.cut x2.1 ?_ (fun h2 => ?_)
  · unfold x2
    refine Fr.step State.descBack_fr rfl rfl ?_
    first | assumption | exact Fr.refl _
  try clear_value x2
  refine Fr.iteh (fun _ => ?_) (fun _ => ?_)
  · first | assumption | exact Fr.refl _
  · extract_lets -merge -underBinder +onlyGivenNames x3
    refine Fr.cut x3 ?_ (fun h3 => ?_)
    · unfold x3
      refine Fr.step State.rxNext_fr rfl rfl ?_
      first | assumption | exact Fr.refl _
    try clear_value x3
    refine Fr.step State.rxEvent_fr rfl rfl ?_
    refine Fr.iteh (fun _ => ?_) (fun _ => ?_)
    · first | assumption | exact Fr.refl _
    · refine Fr.inc (xs := [⟨17215528960, 17217626112, 2097152, 0⟩]) (Reg.NET_CNT_RX_LO_key (by first | omega | (simp only [List.mem_range] at *; omega))) rfl ?_
      first | assumption | exact Fr.refl _

theorem State.deliver_fr {s} {a1} {a2} {a3} {a4} : Fr [⟨17181966336, 17181966336, 1, 0⟩, ⟨17181967360, 17181967360, 1, 0⟩, ⟨17186226581, 17186257301, 2048, 0⟩, ⟨17181966338, 17181966338, 1, 0⟩, ⟨17181966495, 17181966495, 1, 0⟩, ⟨17186168832, 17186169247, 1, 0⟩, ⟨17215520901, 17217618053, 2097152, 0⟩, ⟨17188261632, 17188261632, 1, 0⟩, ⟨17181967232, 17181967263, 1, 0⟩, ⟨17215529088, 17217626240, 2097152, 0⟩, ⟨17215520902, 17217618054, 2097152, 0⟩, ⟨17215528976, 17217626128, 2097152, 0⟩, ⟨17194549776, 17194549776, 1, 0⟩, ⟨17192452352, 17192452352, 1, 0⟩, ⟨17192452608, 17192452608, 1, 0⟩, ⟨17192452480, 17192452480, 1, 0⟩, ⟨17192452229, 17192452229, 1, 0⟩, ⟨17192452228, 17192452228, 1, 0⟩, ⟨17215523712, 17217620864, 2097152, 0⟩, ⟨17215528960, 17217626112, 2097152, 0⟩] [.net, .flt, .pwr, .evc, .mem, .memc] s (State.deliver s a1 a2 a3 a4) := by
  unfold State.deliver
  extract_lets -merge -underBinder +onlyGivenNames x0
  try clear_value (e0 : x0 = _)
  refine Fr.iteh (fun _ => ?_) (fun _ => ?_)
  · first | assumption | exact Fr.refl _
  · refine Fr.iteh (fun _ => ?_) (fun _ => ?_)
    · refine Fr.step State.ringRead_fr rfl rfl ?_
      first | assumption | exact Fr.refl _
    · refine Fr.iteh (fun _ => ?_) (fun _ => ?_)
      · refine Fr.step State.fire_fr rfl rfl ?_
        refine Fr.inc (xs := [⟨17215529088, 17217626240, 2097152, 0⟩]) (Reg.NET_CNT_ERR_LO_key (by first | omega | (simp only [List.mem_range] at *; omega))) rfl ?_
        refine Fr.wr (xs := [⟨17215520902, 17217618054, 2097152, 0⟩]) (Reg.NET_STATUS_NOBUF_key (by first | omega | (simp only [List.mem_range] at *; omega))) rfl ?_
        first | assumption | exact Fr.refl _
      · extract_lets -merge -underBinder +onlyGivenNames x1
        try clear_value (e1 : x1 = _)
        extract_lets -merge -underBinder +onlyGivenNames x2
        try clear_value (e2 : x2 = _)
        extract_lets -merge -underBinder +onlyGivenNames x3
        try clear_value x3
        extract_lets -merge -underBinder +onlyGivenNames x4
        try clear_value x4
        refine Fr.iteh (fun _ => ?_) (fun _ => ?_)
        · refine Fr.step State.netDrop_fr rfl rfl ?_
          first | assumption | exact Fr.refl _
        · refine Fr.iteh (fun _ => ?_) (fun _ => ?_)
          · refine Fr.step State.rxWriteBack_fr rfl rfl ?_
            first | assumption | exact Fr.refl _
          · refine Fr.iteh (fun _ => ?_) (fun _ => ?_)
            · extract_lets -merge -underBinder +onlyGivenNames x5
              try clear_value (e5 : x5 = _)
              refine Fr.step State.rxWriteBack_fr rfl rfl ?_
              refine Fr.step State.slotBlocked_fr rfl rfl ?_
              first | assumption | exact Fr.refl _
            · extract_lets -merge -underBinder +onlyGivenNames x6
              refine Fr.cut x6.1 ?_ (fun h6 => ?_)
              · unfold x6
                refine Fr.step State.rxWrite_fr rfl rfl ?_
                first | assumption | exact Fr.refl _
              try clear_value x6
              split
              · refine Fr.step State.ringStop_fr rfl rfl ?_
                first | assumption | exact Fr.refl _
              · refine Fr.step State.rxWriteBack_fr rfl rfl ?_
                first | assumption | exact Fr.refl _

theorem State.dupRecord_fr {s} {a1} {a2} {a3} : Fr [⟨17181966336, 17181966336, 1, 0⟩, ⟨17181967360, 17181967360, 1, 0⟩, ⟨17186226581, 17186257301, 2048, 0⟩, ⟨17181966338, 17181966338, 1, 0⟩, ⟨17181966495, 17181966495, 1, 0⟩, ⟨17186168832, 17186169247, 1, 0⟩, ⟨17215529368, 17215529368, 1, 0⟩] [.net, .pwr, .flt, .evc] s (State.dupRecord s a1 a2 a3) := by
  unfold State.dupRecord
  extract_lets -merge -underBinder +onlyGivenNames x0
  try clear_value x0
  extract_lets -merge -underBinder +onlyGivenNames x1
  try clear_value x1
  extract_lets -merge -underBinder +onlyGivenNames x2
  try clear_value x2
  extract_lets -merge -underBinder +onlyGivenNames x3
  extract_lets -merge -underBinder +onlyGivenNames x4
  extract_lets -merge -underBinder +onlyGivenNames x5
  refine Fr.cut x5 ?_ (fun h5 => ?_)
  · unfold x5
    refine Fr.set_net rfl ?_
    first | assumption | exact Fr.refl _
  try clear_value x5
  refine Fr.iteh (fun _ => ?_) (fun _ => ?_)
  · refine Fr.step State.fire_fr rfl rfl ?_
    refine Fr.inc (xs := [⟨17215529368, 17215529368, 1, 0⟩]) rfl rfl ?_
    first | assumption | exact Fr.refl _
  · first | assumption | exact Fr.refl _

theorem State.netSend_fr {s} {a1} {a2} : Fr [⟨17215529216, 17217626368, 2097152, 0⟩] [.net] s (State.netSend s a1 a2) := by
  unfold State.netSend
  extract_lets -merge -underBinder +onlyGivenNames x0
  extract_lets -merge -underBinder +onlyGivenNames x1
  refine Fr.cut x1 ?_ (fun h1 => ?_)
  · unfold x1
    refine Fr.set_net rfl ?_
    first | assumption | exact Fr.refl _
  try clear_value x1
  refine Fr.inc (xs := [⟨17215529216, 17217626368, 2097152, 0⟩]) (Reg.NET_CNT_TX_LO_key (by first | omega | (simp only [List.mem_range] at *; omega))) rfl ?_
  first | assumption | exact Fr.refl _

theorem State.txScan_fr {s} {a1} {a2} : Fr [⟨17181966336, 17181966336, 1, 0⟩, ⟨17181967360, 17181967360, 1, 0⟩, ⟨17186226581, 17186257301, 2048, 0⟩, ⟨17181966338, 17181966338, 1, 0⟩, ⟨17181966495, 17181966495, 1, 0⟩, ⟨17186168832, 17186169247, 1, 0⟩, ⟨17215520901, 17217618053, 2097152, 0⟩, ⟨17188261632, 17188261632, 1, 0⟩, ⟨17181967232, 17181967263, 1, 0⟩] [.net, .flt, .pwr, .evc] s (State.txScan s a1 a2) := by
  unfold State.txScan
  extract_lets -merge -underBinder +onlyGivenNames x0
  try clear_value (e0 : x0 = _)
  refine Fr.iteh (fun _ => ?_) (fun _ => ?_)
  · refine Fr.step State.ringRead_fr rfl rfl ?_
    first | assumption | exact Fr.refl _
  · refine Fr.set_net rfl ?_
    first | assumption | exact Fr.refl _

theorem State.txWriteBack_fr {s} {a1} {a2} {a3} {a4} {a5} : Fr [⟨17181966336, 17181966336, 1, 0⟩, ⟨17181967360, 17181967360, 1, 0⟩, ⟨17186226581, 17186257301, 2048, 0⟩, ⟨17181966338, 17181966338, 1, 0⟩, ⟨17181966495, 17181966495, 1, 0⟩, ⟨17186168832, 17186169247, 1, 0⟩, ⟨17194549776, 17194549776, 1, 0⟩, ⟨17192452352, 17192452352, 1, 0⟩, ⟨17192452608, 17192452608, 1, 0⟩, ⟨17192452480, 17192452480, 1, 0⟩, ⟨17192452229, 17192452229, 1, 0⟩, ⟨17192452228, 17192452228, 1, 0⟩, ⟨17188261632, 17188261632, 1, 0⟩, ⟨17181967232, 17181967263, 1, 0⟩, ⟨17215520901, 17217618053, 2097152, 0⟩, ⟨17215523728, 17217620880, 2097152, 0⟩] [.mem, .flt, .pwr, .evc, .memc, .net] s (State.txWriteBack s a1 a2 a3 a4 a5) := by
  unfold State.txWriteBack
  extract_lets -merge -underBinder +onlyGivenNames x0
  try clear_value (e0 : x0 = _)
  extract_lets -merge -underBinder +onlyGivenNames x1
  refine Fr.cut x1.1 ?_ (fun h1 => ?_)
  · unfold x1
    refine Fr.step State.descBack_fr rfl rfl ?_
    first | assumption | exact Fr.refl _
  try clear_value x1
  refine Fr.iteh (fun _ => ?_) (fun _ => ?_)
  · first | assumption | exact Fr.refl _
  · refine Fr.step State.txScan_fr rfl rfl ?_
    refine Fr.step State.fire_fr rfl rfl ?_
    refine Fr.step State.txNext_fr rfl rfl ?_
    first | assumption | exact Fr.refl _

theorem State.txGo_fr {s} {a1} {a2} {a3} {a4} : Fr [⟨17215529216, 17217626368, 2097152, 0⟩, ⟨17215525392, 17215525392, 1, 0⟩, ⟨17215529232, 17217626384, 2097152, 0⟩, ⟨17181966336, 17181966336, 1, 0⟩, ⟨17181967360, 17181967360, 1, 0⟩, ⟨17186226581, 17186257301, 2048, 0⟩, ⟨17181966338, 17181966338, 1, 0⟩, ⟨17181966495, 17181966495, 1, 0⟩, ⟨17186168832, 17186169247, 1, 0⟩, ⟨17194549776, 17194549776, 1, 0⟩, ⟨17192452352, 17192452352, 1, 0⟩, ⟨17192452608, 17192452608, 1, 0⟩, ⟨17192452480, 17192452480, 1, 0⟩, ⟨17192452229, 17192452229, 1, 0⟩, ⟨17192452228, 17192452228, 1, 0⟩, ⟨17188261632, 17188261632, 1, 0⟩, ⟨17181967232, 17181967263, 1, 0⟩, ⟨17215520901, 17217618053, 2097152, 0⟩, ⟨17215523728, 17217620880, 2097152, 0⟩] [.net, .mem, .flt, .pwr, .evc, .memc] s (State.txGo s a1 a2 a3 a4) := by
  unfold State.txGo
  extract_lets -merge -underBinder +onlyGivenNames x0
  try clear_value (e0 : x0 = _)
  extract_lets -merge -underBinder +onlyGivenNames x1
  try clear_value x1
  extract_lets -merge -underBinder +onlyGivenNames x2
  try clear_value (e2 : x2 = _)
  extract_lets -merge -underBinder +onlyGivenNames x3
  try clear_value x3
  extract_lets -merge -underBinder +onlyGivenNames x4
  try clear_value (e4 : x4 = _)
  extract_lets -merge -underBinder +onlyGivenNames x5
  try clear_value x5
  extract_lets -merge -underBinder +onlyGivenNames x6
  try clear_value x6
  extract_lets -merge -underBinder +onlyGivenNames x7
  try clear_value x7
  extract_lets -merge -underBinder +onlyGivenNames x8
  try clear_value x8
  extract_lets -merge -underBinder +onlyGivenNames x9
  try clear_value x9
  extract_lets -merge -underBinder +onlyGivenNames x10
  refine Fr.cut x10 ?_ (fun h10 => ?_)
  · unfold x10
    refine Fr.step State.netSend_fr rfl rfl ?_
    first | assumption | exact Fr.refl _
  try clear_value x10
  extract_lets -merge -underBinder +onlyGivenNames x11
  refine Fr.cut x11 ?_ (fun h11 => ?_)
  · unfold x11
    refine Fr.iteh (fun _ => ?_) (fun _ => ?_)
    · refine Fr.step State.netSend_fr rfl rfl ?_
      first | assumption | exact Fr.refl _
    · first | assumption | exact Fr.refl _
  try clear_value x11
  extract_lets -merge -underBinder +onlyGivenNames x12
  refine Fr.cut x12 ?_ (fun h12 => ?_)
  · unfold x12
    refine Fr.iteh (fun _ => ?_) (fun _ => ?_)
    · refine Fr.wr (xs := [⟨17215525392, 17215525392, 1, 0⟩]) rfl rfl ?_
      first | assumption | exact Fr.refl _
    · first | assumption | exact Fr.refl _
  try clear_value x12
  extract_lets -merge -underBinder +onlyGivenNames x13
  refine Fr.cut x13 ?_ (fun h13 => ?_)
  · unfold x13
    refine Fr.iteh (fun _ => ?_) (fun _ => ?_)
    · refine Fr.inc (xs := [⟨17215529232, 17217626384, 2097152, 0⟩]) (Reg.NET_CNT_TX_HI_key (by first | omega | (simp only [List.mem_range] at *; omega))) rfl ?_
      first | assumption | exact Fr.refl _
    · first | assumption | exact Fr.refl _
  try clear_value x13
  refine Fr.step State.txWriteBack_fr rfl rfl ?_
  first | assumption | exact Fr.refl _

theorem State.netEnable_fr {s} {a1} {a2} : Fr [⟨17205035139, 17205149827, 8192, 0⟩, ⟨17205035141, 17205149829, 8192, 0⟩, ⟨17205035140, 17205149828, 8192, 0⟩, ⟨17205035136, 17205149824, 8192, 0⟩, ⟨17181966336, 17181966336, 1, 0⟩, ⟨17181967360, 17181967360, 1, 0⟩, ⟨17186226581, 17186257301, 2048, 0⟩, ⟨17181966338, 17181966338, 1, 0⟩, ⟨17181966495, 17181966495, 1, 0⟩, ⟨17186168832, 17186169247, 1, 0⟩, ⟨17215520768, 17217617920, 2097152, 0⟩] [.pwr, .flt, .evc] s (State.netEnable s a1 a2) := by
  unfold State.netEnable
  refine Fr.step State.showLane_fr rfl rfl ?_
  refine Fr.wrB (xs := [⟨17215520768, 17217617920, 2097152, 0⟩]) (Reg.NET_CTRL_EN_key (by first | omega | (simp only [List.mem_range] at *; omega))) rfl ?_
  first | assumption | exact Fr.refl _

end Sys2Proof.Machine
end

