-- ==== Sys2Proof/Laws/LaneFrame.lean ====
section
/-! SUPPORT. What each operation and command of Machine/Lane.lean changes at most: register blocks and zones of the state. -/

namespace Sys2Proof.Machine

theorem State.laneLoss_fr {s} {a1} : Fr [⟨17205035904, 17205150592, 8192, 0⟩, ⟨17205035144, 17205149832, 8192, 0⟩, ⟨17205035141, 17205149829, 8192, 0⟩, ⟨17205035140, 17205149828, 8192, 0⟩, ⟨17205035136, 17205149824, 8192, 0⟩, ⟨17181966336, 17181966336, 1, 0⟩, ⟨17181967360, 17181967360, 1, 0⟩, ⟨17186226581, 17186257301, 2048, 0⟩, ⟨17181966338, 17181966338, 1, 0⟩, ⟨17181966495, 17181966495, 1, 0⟩, ⟨17186168832, 17186169247, 1, 0⟩, ⟨17202938112, 17204379904, 131072, 0⟩, ⟨17205035139, 17205149827, 8192, 0⟩, ⟨17202937984, 17204379776, 131072, 0⟩] [.pwr, .flt, .evc, .tl] s (State.laneLoss s a1) := by
  unfold State.laneLoss
  refine Fr.iteh (fun _ => ?_) (fun _ => ?_)
  · first | assumption | exact Fr.refl _
  · extract_lets -merge -underBinder +onlyGivenNames x0
    refine Fr.cut x0 ?_ (fun h0 => ?_)
    · unfold x0
      refine Fr.inc (xs := [⟨17205035904, 17205150592, 8192, 0⟩]) (Reg.LANE_CNT_LOSS_key (by first | omega | (simp only [List.mem_range] at *; omega))) rfl ?_
      refine Fr.wr (xs := [⟨17205035144, 17205149832, 8192, 0⟩]) (Reg.LANE_STATUS_LOSS_key (by first | omega | (simp only [List.mem_range] at *; omega))) rfl ?_
      refine Fr.step State.laneUnlock_fr rfl rfl ?_
      first | assumption | exact Fr.refl _
    try clear_value x0
    extract_lets -merge -underBinder +onlyGivenNames x1
    try clear_value (e1 : x1 = _)
    extract_lets -merge -underBinder +onlyGivenNames x2
    refine Fr.cut x2 ?_ (fun h2 => ?_)
    · unfold x2
      refine Fr.iteh (fun _ => ?_) (fun _ => ?_)
      · refine Fr.step State.laneState_fr rfl rfl ?_
        first | assumption | exact Fr.refl _
      · first | assumption | exact Fr.refl _
    try clear_value x2
    split
    · first | assumption | exact Fr.refl _
    · refine Fr.iteh (fun _ => ?_) (fun _ => ?_)
      · refine Fr.step State.tlFail_fr rfl rfl ?_
        first | assumption | exact Fr.refl _
      · refine Fr.iteh (fun _ => ?_) (fun _ => ?_)
        · refine Fr.step State.tlLost_fr rfl rfl ?_
          first | assumption | exact Fr.refl _
        · first | assumption | exact Fr.refl _

theorem execLaneIdleReq_fr {a0} {a1} {a2} {s} : FrRes [⟨17205035008, 17205149727, 8192, 31⟩, ⟨17205035143, 17205149831, 8192, 0⟩, ⟨17181966336, 17181966336, 1, 0⟩, ⟨17181967360, 17181967360, 1, 0⟩, ⟨17186226581, 17186257301, 2048, 0⟩, ⟨17181966338, 17181966338, 1, 0⟩, ⟨17181966495, 17181966495, 1, 0⟩, ⟨17186168832, 17186169247, 1, 0⟩, ⟨17188261632, 17188261632, 1, 0⟩, ⟨17181967232, 17181967263, 1, 0⟩, ⟨17205035139, 17205149827, 8192, 0⟩, ⟨17205035141, 17205149829, 8192, 0⟩, ⟨17205035140, 17205149828, 8192, 0⟩, ⟨17205035136, 17205149824, 8192, 0⟩] [.flt, .evc, .pwr, .pair] s (execLaneIdleReq a0 a1 a2 s) := by
  unfold execLaneIdleReq
  refine FrRes.next ?_
  refine busWrite_fr (x := ⟨17205035008, 17205149727, 8192, 31⟩) (Keys.word_intro (by first | omega | (unfold laneAddr; omega)) (by first | omega | (unfold laneAddr; omega)) (by first | omega | (unfold laneAddr; omega))) (fun u => State.werr_0x200C (by unfold laneAddr; omega)) rfl rfl ?_ (fun t ht => ?_)
  · first | assumption | exact Fr.refl _
  · refine Fr.step State.showLane_fr rfl rfl ?_
    refine Fr.wrB (xs := [⟨17205035008, 17205149696, 8192, 0⟩]) (Reg.LANE_CTRL_IDLE_REQ_key (by first | omega | (simp only [List.mem_range] at *; omega))) rfl ?_
    first | assumption | exact Fr.refl _

theorem execIdleExit_fr {a0} {a1} {s} : FrRes [⟨17205035141, 17205149829, 8192, 0⟩, ⟨17205035136, 17205149824, 8192, 0⟩, ⟨17181966336, 17181966336, 1, 0⟩, ⟨17181967360, 17181967360, 1, 0⟩, ⟨17186226581, 17186257301, 2048, 0⟩, ⟨17181966338, 17181966338, 1, 0⟩, ⟨17181966495, 17181966495, 1, 0⟩, ⟨17186168832, 17186169247, 1, 0⟩] [.pwr, .flt, .evc, .lane] s (execIdleExit a0 a1 s) := by
  unfold execIdleExit
  refine FrRes.next ?_
  refine Fr.iteh (fun _ => ?_) (fun _ => ?_)
  · first | assumption | exact Fr.refl _
  · extract_lets -merge -underBinder +onlyGivenNames x0
    try clear_value x0
    extract_lets -merge -underBinder +onlyGivenNames x1
    try clear_value x1
    extract_lets -merge -underBinder +onlyGivenNames x2
    refine Fr.cut x2 ?_ (fun h2 => ?_)
    · unfold x2
      refine Fr.iteh (fun _ => ?_) (fun _ => ?_)
      · first | assumption | exact Fr.refl _
      · refine Fr.wr (xs := [⟨17205035141, 17205149829, 8192, 0⟩]) (Reg.LANE_STATUS_BLOCK_LOCK_key (by first | omega | (simp only [List.mem_range] at *; omega))) rfl ?_
        first | assumption | exact Fr.refl _
    try clear_value x2
    extract_lets -merge -underBinder +onlyGivenNames x3
    refine Fr.cut x3 ?_ (fun h3 => ?_)
    · unfold x3
      refine Fr.step State.laneState_fr rfl rfl ?_
      first | assumption | exact Fr.refl _
    try clear_value x3
    extract_lets -merge -underBinder +onlyGivenNames x4
    refine Fr.iteh (fun _ => ?_) (fun _ => ?_)
    · first | assumption | exact Fr.refl _
    · refine Fr.step State.laneBlock_fr rfl rfl ?_
      refine Fr.step State.setLane_fr rfl rfl ?_
      first | assumption | exact Fr.refl _

theorem execLaneLockAcquired_fr {a0} {a1} {a2} {s} : FrRes [⟨17205035280, 17205149968, 8192, 0⟩, ⟨17205035272, 17205149960, 8192, 0⟩, ⟨17205035264, 17205149952, 8192, 0⟩, ⟨17205035141, 17205149829, 8192, 0⟩, ⟨17205035140, 17205149828, 8192, 0⟩, ⟨17205035136, 17205149824, 8192, 0⟩, ⟨17181966336, 17181966336, 1, 0⟩, ⟨17181967360, 17181967360, 1, 0⟩, ⟨17186226581, 17186257301, 2048, 0⟩, ⟨17181966338, 17181966338, 1, 0⟩, ⟨17181966495, 17181966495, 1, 0⟩, ⟨17186168832, 17186169247, 1, 0⟩, ⟨17205035016, 17205149704, 8192, 0⟩] [.pwr, .flt, .evc, .tl] s (execLaneLockAcquired a0 a1 a2 s) := by
  unfold execLaneLockAcquired
  extract_lets -merge -underBinder +onlyGivenNames x0
  refine FrRes.next ?_
  refine Fr.iteh (fun _ => ?_) (fun _ => ?_)
  · first | assumption | exact Fr.refl _
  · extract_lets -merge -underBinder +onlyGivenNames x1
    refine Fr.cut x1 ?_ (fun h1 => ?_)
    · unfold x1
      refine Fr.step State.showEye_fr rfl rfl ?_
      refine Fr.wr (xs := [⟨17205035141, 17205149829, 8192, 0⟩]) (Reg.LANE_STATUS_BLOCK_LOCK_key (by first | omega | (simp only [List.mem_range] at *; omega))) rfl ?_
      refine Fr.wr (xs := [⟨17205035140, 17205149828, 8192, 0⟩]) (Reg.LANE_STATUS_CDR_LOCK_key (by first | omega | (simp only [List.mem_range] at *; omega))) rfl ?_
      first | assumption | exact Fr.refl _
    try clear_value x1
    extract_lets -merge -underBinder +onlyGivenNames x2
    refine Fr.cut x2 ?_ (fun h2 => ?_)
    · unfold x2
      refine Fr.step State.laneState_fr rfl rfl ?_
      refine Fr.wr (xs := [⟨17205035016, 17205149704, 8192, 0⟩]) (Reg.LANE_CTRL_ADAPT_key (by first | omega | (simp only [List.mem_range] at *; omega))) rfl ?_
      first | assumption | exact Fr.refl _
    try clear_value x2
    split
    · first | assumption | exact Fr.refl _
    · refine Fr.iteh (fun _ => ?_) (fun _ => ?_)
      · first | assumption | exact Fr.refl _
      · split
        · refine Fr.step State.setPort_fr rfl rfl ?_
          first | assumption | exact Fr.refl _
        · refine Fr.step State.setPort_fr rfl rfl ?_
          first | assumption | exact Fr.refl _
        · first | assumption | exact Fr.refl _

theorem execLaneLockLoss_fr {a0} {a1} {s} : FrRes [⟨17205035904, 17205150592, 8192, 0⟩, ⟨17205035144, 17205149832, 8192, 0⟩, ⟨17205035141, 17205149829, 8192, 0⟩, ⟨17205035140, 17205149828, 8192, 0⟩, ⟨17205035136, 17205149824, 8192, 0⟩, ⟨17181966336, 17181966336, 1, 0⟩, ⟨17181967360, 17181967360, 1, 0⟩, ⟨17186226581, 17186257301, 2048, 0⟩, ⟨17181966338, 17181966338, 1, 0⟩, ⟨17181966495, 17181966495, 1, 0⟩, ⟨17186168832, 17186169247, 1, 0⟩, ⟨17202938112, 17204379904, 131072, 0⟩, ⟨17205035139, 17205149827, 8192, 0⟩, ⟨17202937984, 17204379776, 131072, 0⟩] [.pwr, .flt, .evc, .tl] s (execLaneLockLoss a0 a1 s) := by
  unfold execLaneLockLoss
  refine FrRes.next ?_
  split
  · refine Fr.iteh (fun _ => ?_) (fun _ => ?_)
    · refine Fr.step State.laneLoss_fr rfl rfl ?_
      first | assumption | exact Fr.refl _
    · first | assumption | exact Fr.refl _
  · refine Fr.iteh (fun _ => ?_) (fun _ => ?_)
    · refine Fr.step State.laneLoss_fr rfl rfl ?_
      first | assumption | exact Fr.refl _
    · first | assumption | exact Fr.refl _

theorem execLaneLockTimeout_fr {a0} {s} : FrRes [⟨17205035904, 17205150592, 8192, 0⟩, ⟨17205035144, 17205149832, 8192, 0⟩, ⟨17205035141, 17205149829, 8192, 0⟩, ⟨17205035140, 17205149828, 8192, 0⟩, ⟨17181966336, 17181966336, 1, 0⟩, ⟨17181967360, 17181967360, 1, 0⟩, ⟨17186226581, 17186257301, 2048, 0⟩, ⟨17181966338, 17181966338, 1, 0⟩, ⟨17181966495, 17181966495, 1, 0⟩, ⟨17186168832, 17186169247, 1, 0⟩, ⟨17202938112, 17204379904, 131072, 0⟩, ⟨17205035139, 17205149827, 8192, 0⟩, ⟨17205035136, 17205149824, 8192, 0⟩, ⟨17202937984, 17204379776, 131072, 0⟩] [.pwr, .flt, .evc, .tl] s (execLaneLockTimeout a0 s) := by
  unfold execLaneLockTimeout
  refine FrRes.next ?_
  extract_lets -merge -underBinder +onlyGivenNames x0
  try clear_value (e0 : x0 = _)
  extract_lets -merge -underBinder +onlyGivenNames x1
  try clear_value x1
  extract_lets -merge -underBinder +onlyGivenNames x2
  split
  · refine Fr.iteh (fun _ => ?_) (fun _ => ?_)
    · unfold x2
      refine Fr.inc (xs := [⟨17205035904, 17205150592, 8192, 0⟩]) (Reg.LANE_CNT_LOSS_key (by first | omega | (simp only [List.mem_range] at *; omega))) rfl ?_
      refine Fr.wr (xs := [⟨17205035144, 17205149832, 8192, 0⟩]) (Reg.LANE_STATUS_LOSS_key (by first | omega | (simp only [List.mem_range] at *; omega))) rfl ?_
      refine Fr.step State.laneUnlock_fr rfl rfl ?_
      first | assumption | exact Fr.refl _
    · first | assumption | exact Fr.refl _
  · refine Fr.iteh (fun _ => ?_) (fun _ => ?_)
    · split
      · refine Fr.step State.tlFail_fr rfl rfl ?_
        first | assumption | exact Fr.refl _
      · refine Fr.step State.tlFail_fr rfl rfl ?_
        first | assumption | exact Fr.refl _
      · refine Fr.iteh (fun _ => ?_) (fun _ => ?_)
        · refine Fr.step State.tlFail_fr rfl rfl ?_
          unfold x2
          refine Fr.inc (xs := [⟨17205035904, 17205150592, 8192, 0⟩]) (Reg.LANE_CNT_LOSS_key (by first | omega | (simp only [List.mem_range] at *; omega))) rfl ?_
          refine Fr.wr (xs := [⟨17205035144, 17205149832, 8192, 0⟩]) (Reg.LANE_STATUS_LOSS_key (by first | omega | (simp only [List.mem_range] at *; omega))) rfl ?_
          refine Fr.step State.laneUnlock_fr rfl rfl ?_
          first | assumption | exact Fr.refl _
        · first | assumption | exact Fr.refl _
      · refine Fr.iteh (fun _ => ?_) (fun _ => ?_)
        · refine Fr.step State.tlFail_fr rfl rfl ?_
          unfold x2
          refine Fr.inc (xs := [⟨17205035904, 17205150592, 8192, 0⟩]) (Reg.LANE_CNT_LOSS_key (by first | omega | (simp only [List.mem_range] at *; omega))) rfl ?_
          refine Fr.wr (xs := [⟨17205035144, 17205149832, 8192, 0⟩]) (Reg.LANE_STATUS_LOSS_key (by first | omega | (simp only [List.mem_range] at *; omega))) rfl ?_
          refine Fr.step State.laneUnlock_fr rfl rfl ?_
          first | assumption | exact Fr.refl _
        · first | assumption | exact Fr.refl _
      · refine Fr.iteh (fun _ => ?_) (fun _ => ?_)
        · refine Fr.step State.tlFail_fr rfl rfl ?_
          unfold x2
          refine Fr.inc (xs := [⟨17205035904, 17205150592, 8192, 0⟩]) (Reg.LANE_CNT_LOSS_key (by first | omega | (simp only [List.mem_range] at *; omega))) rfl ?_
          refine Fr.wr (xs := [⟨17205035144, 17205149832, 8192, 0⟩]) (Reg.LANE_STATUS_LOSS_key (by first | omega | (simp only [List.mem_range] at *; omega))) rfl ?_
          refine Fr.step State.laneUnlock_fr rfl rfl ?_
          first | assumption | exact Fr.refl _
        · first | assumption | exact Fr.refl _
      · first | assumption | exact Fr.refl _
    · refine Fr.iteh (fun _ => ?_) (fun _ => ?_)
      · refine Fr.step State.tlLost_fr rfl rfl ?_
        unfold x2
        refine Fr.inc (xs := [⟨17205035904, 17205150592, 8192, 0⟩]) (Reg.LANE_CNT_LOSS_key (by first | omega | (simp only [List.mem_range] at *; omega))) rfl ?_
        refine Fr.wr (xs := [⟨17205035144, 17205149832, 8192, 0⟩]) (Reg.LANE_STATUS_LOSS_key (by first | omega | (simp only [List.mem_range] at *; omega))) rfl ?_
        refine Fr.step State.laneUnlock_fr rfl rfl ?_
        first | assumption | exact Fr.refl _
      · first | assumption | exact Fr.refl _

theorem execEyeWindowEnd_fr {a0} {a1} {a2} {a3} {s} : FrRes [⟨17205035648, 17205150336, 8192, 0⟩, ⟨17205035280, 17205149968, 8192, 0⟩, ⟨17205035272, 17205149960, 8192, 0⟩, ⟨17205035264, 17205149952, 8192, 0⟩, ⟨17205035136, 17205149824, 8192, 0⟩, ⟨17181966336, 17181966336, 1, 0⟩, ⟨17181967360, 17181967360, 1, 0⟩, ⟨17186226581, 17186257301, 2048, 0⟩, ⟨17181966338, 17181966338, 1, 0⟩, ⟨17181966495, 17181966495, 1, 0⟩, ⟨17186168832, 17186169247, 1, 0⟩, ⟨17205035140, 17205149828, 8192, 0⟩, ⟨17205035145, 17205149833, 8192, 0⟩] [.pwr, .flt, .evc] s (execEyeWindowEnd a0 a1 a2 a3 s) := by
  unfold execEyeWindowEnd
  refine FrRes.next ?_
  extract_lets -merge -underBinder +onlyGivenNames x0
  try clear_value (e0 : x0 = _)
  refine Fr.iteh (fun _ => ?_) (fun _ => ?_)
  · first | assumption | exact Fr.refl _
  · extract_lets -merge -underBinder +onlyGivenNames x1
    refine Fr.cut x1 ?_ (fun h1 => ?_)
    · unfold x1
      refine Fr.wr (xs := [⟨17205035648, 17205150336, 8192, 0⟩]) (Reg.LANE_DFE_TAPS_key (by first | omega | (simp only [List.mem_range] at *; omega))) rfl ?_
      refine Fr.step State.showEye_fr rfl rfl ?_
      first | assumption | exact Fr.refl _
    try clear_value x1
    refine Fr.iteh (fun _ => ?_) (fun _ => ?_)
    · refine Fr.step State.laneState_fr rfl rfl ?_
      refine Fr.wr (xs := [⟨17205035140, 17205149828, 8192, 0⟩]) (Reg.LANE_STATUS_CDR_LOCK_key (by first | omega | (simp only [List.mem_range] at *; omega))) rfl ?_
      first | assumption | exact Fr.refl _
    · refine Fr.iteh (fun _ => ?_) (fun _ => ?_)
      · refine Fr.step State.fire_fr rfl rfl ?_
        refine Fr.wr (xs := [⟨17205035145, 17205149833, 8192, 0⟩]) (Reg.LANE_STATUS_EYE_LOW_key (by first | omega | (simp only [List.mem_range] at *; omega))) rfl ?_
        first | assumption | exact Fr.refl _
      · refine Fr.wr (xs := [⟨17205035145, 17205149833, 8192, 0⟩]) (Reg.LANE_STATUS_EYE_LOW_key (by first | omega | (simp only [List.mem_range] at *; omega))) rfl ?_
        first | assumption | exact Fr.refl _

theorem execLaneAdapt_fr {a0} {a1} {a2} {s} : FrRes [⟨17205035008, 17205149727, 8192, 31⟩, ⟨17205035143, 17205149831, 8192, 0⟩, ⟨17181966336, 17181966336, 1, 0⟩, ⟨17181967360, 17181967360, 1, 0⟩, ⟨17186226581, 17186257301, 2048, 0⟩, ⟨17181966338, 17181966338, 1, 0⟩, ⟨17181966495, 17181966495, 1, 0⟩, ⟨17186168832, 17186169247, 1, 0⟩, ⟨17188261632, 17188261632, 1, 0⟩, ⟨17181967232, 17181967263, 1, 0⟩, ⟨17205035136, 17205149824, 8192, 0⟩] [.flt, .evc, .pwr, .pair] s (execLaneAdapt a0 a1 a2 s) := by
  unfold execLaneAdapt
  refine FrRes.next ?_
  refine busWrite_fr (x := ⟨17205035008, 17205149727, 8192, 31⟩) (Keys.word_intro (by first | omega | (unfold laneAddr; omega)) (by first | omega | (unfold laneAddr; omega)) (by first | omega | (unfold laneAddr; omega))) (fun u => State.werr_0x200C (by unfold laneAddr; omega)) rfl rfl ?_ (fun t ht => ?_)
  · first | assumption | exact Fr.refl _
  · refine Fr.iteh (fun _ => ?_) (fun _ => ?_)
    · extract_lets -merge -underBinder +onlyGivenNames x0
      refine Fr.cut x0 ?_ (fun h0 => ?_)
      · unfold x0
        refine Fr.wr (xs := [⟨17205035016, 17205149704, 8192, 0⟩]) (Reg.LANE_CTRL_ADAPT_key (by first | omega | (simp only [List.mem_range] at *; omega))) rfl ?_
        first | assumption | exact Fr.refl _
      try clear_value x0
      extract_lets -merge -underBinder +onlyGivenNames x1
      try clear_value (e1 : x1 = _)
      refine Fr.iteh (fun _ => ?_) (fun _ => ?_)
      · refine Fr.step State.laneState_fr rfl rfl ?_
        first | assumption | exact Fr.refl _
      · first | assumption | exact Fr.refl _
    · first | assumption | exact Fr.refl _

theorem execAdaptationDone_fr {a0} {a1} {a2} {a3} {a4} {s} : FrRes [⟨17205035648, 17205150336, 8192, 0⟩, ⟨17205035288, 17205149976, 8192, 0⟩, ⟨17205035280, 17205149968, 8192, 0⟩, ⟨17205035272, 17205149960, 8192, 0⟩, ⟨17205035264, 17205149952, 8192, 0⟩, ⟨17205035140, 17205149828, 8192, 0⟩, ⟨17205035016, 17205149704, 8192, 0⟩, ⟨17205035136, 17205149824, 8192, 0⟩, ⟨17181966336, 17181966336, 1, 0⟩, ⟨17181967360, 17181967360, 1, 0⟩, ⟨17186226581, 17186257301, 2048, 0⟩, ⟨17181966338, 17181966338, 1, 0⟩, ⟨17181966495, 17181966495, 1, 0⟩, ⟨17186168832, 17186169247, 1, 0⟩] [.pwr, .flt, .evc] s (execAdaptationDone a0 a1 a2 a3 a4 s) := by
  unfold execAdaptationDone
  extract_lets -merge -underBinder +onlyGivenNames x0
  refine FrRes.next ?_
  refine Fr.iteh (fun _ => ?_) (fun _ => ?_)
  · first | assumption | exact Fr.refl _
  · extract_lets -merge -underBinder +onlyGivenNames x1
    refine Fr.cut x1 ?_ (fun h1 => ?_)
    · unfold x1
      refine Fr.wr (xs := [⟨17205035648, 17205150336, 8192, 0⟩]) (Reg.LANE_DFE_TAPS_key (by first | omega | (simp only [List.mem_range] at *; omega))) rfl ?_
      refine Fr.wr (xs := [⟨17205035288, 17205149976, 8192, 0⟩]) (Reg.LANE_EYE_CTLE_key (by first | omega | (simp only [List.mem_range] at *; omega))) rfl ?_
      refine Fr.step State.showEye_fr rfl rfl ?_
      first | assumption | exact Fr.refl _
    try clear_value x1
    extract_lets -merge -underBinder +onlyGivenNames x2
    refine Fr.cut x2 ?_ (fun h2 => ?_)
    · unfold x2
      refine Fr.wr (xs := [⟨17205035140, 17205149828, 8192, 0⟩]) (Reg.LANE_STATUS_CDR_LOCK_key (by first | omega | (simp only [List.mem_range] at *; omega))) rfl ?_
      refine Fr.wr (xs := [⟨17205035016, 17205149704, 8192, 0⟩]) (Reg.LANE_CTRL_ADAPT_key (by first | omega | (simp only [List.mem_range] at *; omega))) rfl ?_
      first | assumption | exact Fr.refl _
    try clear_value x2
    refine Fr.step State.laneState_fr rfl rfl ?_
    first | assumption | exact Fr.refl _

theorem execLanePrbsConfig_fr {a0} {a1} {a2} {s} : FrRes [⟨17205035008, 17205149727, 8192, 31⟩, ⟨17205035143, 17205149831, 8192, 0⟩, ⟨17181966336, 17181966336, 1, 0⟩, ⟨17181967360, 17181967360, 1, 0⟩, ⟨17186226581, 17186257301, 2048, 0⟩, ⟨17181966338, 17181966338, 1, 0⟩, ⟨17181966495, 17181966495, 1, 0⟩, ⟨17186168832, 17186169247, 1, 0⟩, ⟨17188261632, 17188261632, 1, 0⟩, ⟨17181967232, 17181967263, 1, 0⟩, ⟨17205035139, 17205149827, 8192, 0⟩, ⟨17205035141, 17205149829, 8192, 0⟩, ⟨17205035140, 17205149828, 8192, 0⟩, ⟨17205035136, 17205149824, 8192, 0⟩, ⟨17205035142, 17205149830, 8192, 0⟩, ⟨17205035776, 17205150464, 8192, 0⟩] [.flt, .evc, .pwr, .pair, .lane] s (execLanePrbsConfig a0 a1 a2 s) := by
  unfold execLanePrbsConfig
  refine FrRes.next ?_
  refine busWrite_fr (x := ⟨17205035008, 17205149727, 8192, 31⟩) (Keys.word_intro (by first | omega | (unfold laneAddr; omega)) (by first | omega | (unfold laneAddr; omega)) (by first | omega | (unfold laneAddr; omega))) (fun u => State.werr_0x200C (by unfold laneAddr; omega)) rfl rfl ?_ (fun t ht => ?_)
  · first | assumption | exact Fr.refl _
  · extract_lets -merge -underBinder +onlyGivenNames x0
    try clear_value (e0 : x0 = _)
    extract_lets -merge -underBinder +onlyGivenNames x1
    try clear_value (e1 : x1 = _)
    refine Fr.iteh (fun _ => ?_) (fun _ => ?_)
    · refine Fr.step (State.werr_0x200C (by unfold laneAddr; omega)) rfl rfl ?_
      first | assumption | exact Fr.refl _
    · extract_lets -merge -underBinder +onlyGivenNames x2
      extract_lets -merge -underBinder +onlyGivenNames x3
      try clear_value (e3 : x3 = _)
      extract_lets -merge -underBinder +onlyGivenNames x4
      refine Fr.cut x4 ?_ (fun h4 => ?_)
      · unfold x4
        refine Fr.wr (xs := [⟨17205035012, 17205149700, 8192, 0⟩]) (Reg.LANE_CTRL_PRBS_RX_key (by first | omega | (simp only [List.mem_range] at *; omega))) rfl ?_
        refine Fr.wr (xs := [⟨17205035009, 17205149697, 8192, 0⟩]) (Reg.LANE_CTRL_PRBS_TX_key (by first | omega | (simp only [List.mem_range] at *; omega))) rfl ?_
        first | assumption | exact Fr.refl _
      try clear_value x4
      extract_lets -merge -underBinder +onlyGivenNames x5
      refine Fr.cut x5 ?_ (fun h5 => ?_)
      · unfold x5
        refine Fr.step State.setLane_fr rfl rfl ?_
        first | assumption | exact Fr.refl _
      try clear_value x5
      refine Fr.step State.showLane_fr rfl rfl ?_
      refine Fr.wr (xs := [⟨17205035142, 17205149830, 8192, 0⟩]) (Reg.LANE_STATUS_PRBS_SYNC_key (by first | omega | (simp only [List.mem_range] at *; omega))) rfl ?_
      refine Fr.wr (xs := [⟨17205035776, 17205150464, 8192, 0⟩]) (Reg.LANE_PRBS_ERR_COUNT_key (by first | omega | (simp only [List.mem_range] at *; omega))) rfl ?_
      first | assumption | exact Fr.refl _

theorem State.lanePattern_fr {s} {a1} {a2} : Fr [] [.lane] s (State.lanePattern s a1 a2).1 := by
  unfold State.lanePattern
  extract_lets -merge -underBinder +onlyGivenNames x0
  extract_lets -merge -underBinder +onlyGivenNames x1
  try clear_value (e1 : x1 = _)
  refine Fr.iteh1 (fun _ => ?_) (fun _ => ?_)
  · refine Fr.mk1 ?_
    first | assumption | exact Fr.refl _
  · extract_lets -merge -underBinder +onlyGivenNames x2
    try clear_value x2
    extract_lets -merge -underBinder +onlyGivenNames x3
    try clear_value (e3 : x3 = _)
    extract_lets -merge -underBinder +onlyGivenNames x4
    try clear_value x4
    refine Fr.mk1 ?_
    refine Fr.step State.setLane_fr rfl rfl ?_
    first | assumption | exact Fr.refl _

theorem State.prbsTake_fr {s} {a1} {a2} : Fr [⟨17205035776, 17205150464, 8192, 0⟩, ⟨17205035142, 17205149830, 8192, 0⟩, ⟨17181966336, 17181966336, 1, 0⟩, ⟨17181967360, 17181967360, 1, 0⟩, ⟨17186226581, 17186257301, 2048, 0⟩, ⟨17181966338, 17181966338, 1, 0⟩, ⟨17181966495, 17181966495, 1, 0⟩, ⟨17186168832, 17186169247, 1, 0⟩] [.lane, .pwr, .flt, .evc] s (State.prbsTake s a1 a2) := by
  unfold State.prbsTake
  extract_lets -merge -underBinder +onlyGivenNames x0
  try clear_value (e0 : x0 = _)
  extract_lets -merge -underBinder +onlyGivenNames x1
  refine Fr.cut x1.1 ?_ (fun h1 => ?_)
  · unfold x1
    refine Fr.step State.lanePattern_fr rfl rfl ?_
    first | assumption | exact Fr.refl _
  try clear_value x1
  extract_lets -merge -underBinder +onlyGivenNames x2
  refine Fr.cut x2 ?_ (fun h2 => ?_)
  · unfold x2
    first | assumption | exact Fr.refl _
  try clear_value x2
  refine Fr.iteh (fun _ => ?_) (fun _ => ?_)
  · first | assumption | exact Fr.refl _
  · extract_lets -merge -underBinder +onlyGivenNames x3
    extract_lets -merge -underBinder +onlyGivenNames x4
    extract_lets -merge -underBinder +onlyGivenNames x5
    try clear_value x5
    extract_lets -merge -underBinder +onlyGivenNames x6
    refine Fr.cut x6 ?_ (fun h6 => ?_)
    · unfold x6
      refine Fr.addSat (xs := [⟨17205035776, 17205150464, 8192, 0⟩]) (Reg.LANE_PRBS_ERR_COUNT_key (by first | omega | (simp only [List.mem_range] at *; omega))) rfl ?_
      refine Fr.wrB (xs := [⟨17205035142, 17205149830, 8192, 0⟩]) (Reg.LANE_STATUS_PRBS_SYNC_key (by first | omega | (simp only [List.mem_range] at *; omega))) rfl ?_
      refine Fr.step State.setLane_fr rfl rfl ?_
      first | assumption | exact Fr.refl _
    try clear_value x6
    refine Fr.iteh (fun _ => ?_) (fun _ => ?_)
    · refine Fr.step State.fire_fr rfl rfl ?_
      first | assumption | exact Fr.refl _
    · first | assumption | exact Fr.refl _

theorem execPrbsCheckerSync_fr {a0} {a1} {s} : FrRes [⟨17205035776, 17205150464, 8192, 0⟩, ⟨17205035142, 17205149830, 8192, 0⟩, ⟨17181966336, 17181966336, 1, 0⟩, ⟨17181967360, 17181967360, 1, 0⟩, ⟨17186226581, 17186257301, 2048, 0⟩, ⟨17181966338, 17181966338, 1, 0⟩, ⟨17181966495, 17181966495, 1, 0⟩, ⟨17186168832, 17186169247, 1, 0⟩] [.lane, .pwr, .flt, .evc] s (execPrbsCheckerSync a0 a1 s) := by
  unfold execPrbsCheckerSync
  refine FrRes.next ?_
  refine Fr.step State.prbsTake_fr rfl rfl ?_
  first | assumption | exact Fr.refl _

theorem execPrbsBitError_fr {a0} {a1} {s} : FrRes [⟨17205035776, 17205150464, 8192, 0⟩, ⟨17205035142, 17205149830, 8192, 0⟩, ⟨17181966336, 17181966336, 1, 0⟩, ⟨17181967360, 17181967360, 1, 0⟩, ⟨17186226581, 17186257301, 2048, 0⟩, ⟨17181966338, 17181966338, 1, 0⟩, ⟨17181966495, 17181966495, 1, 0⟩, ⟨17186168832, 17186169247, 1, 0⟩] [.lane, .pwr, .flt, .evc] s (execPrbsBitError a0 a1 s) := by
  unfold execPrbsBitError
  refine FrRes.next ?_
  refine Fr.step State.prbsTake_fr rfl rfl ?_
  first | assumption | exact Fr.refl _

theorem State.laneInject_fr {s} {a1} {a2} : Fr [] [.lane] s (State.laneInject s a1 a2) := by
  unfold State.laneInject
  extract_lets -merge -underBinder +onlyGivenNames x0
  refine Fr.step State.setLane_fr rfl rfl ?_
  first | assumption | exact Fr.refl _

theorem execInjOne_fr {a0} {a1} {a2} {s} : FrRes [⟨17205035008, 17205149727, 8192, 31⟩, ⟨17205035143, 17205149831, 8192, 0⟩, ⟨17181966336, 17181966336, 1, 0⟩, ⟨17181967360, 17181967360, 1, 0⟩, ⟨17186226581, 17186257301, 2048, 0⟩, ⟨17181966338, 17181966338, 1, 0⟩, ⟨17181966495, 17181966495, 1, 0⟩, ⟨17186168832, 17186169247, 1, 0⟩, ⟨17188261632, 17188261632, 1, 0⟩, ⟨17181967232, 17181967263, 1, 0⟩] [.flt, .evc, .pwr, .pair, .lane] s (execInjOne a0 a1 a2 s) := by
  unfold execInjOne
  refine FrRes.next ?_
  refine busWrite_fr (x := ⟨17205035008, 17205149727, 8192, 31⟩) (Keys.word_intro (by first | omega | (unfold laneAddr; omega)) (by first | omega | (unfold laneAddr; omega)) (by first | omega | (unfold laneAddr; omega))) (fun u => State.werr_0x200C (by unfold laneAddr; omega)) rfl rfl ?_ (fun t ht => ?_)
  · first | assumption | exact Fr.refl _
  · refine Fr.iteh (fun _ => ?_) (fun _ => ?_)
    · refine Fr.step State.laneInject_fr rfl rfl ?_
      first | assumption | exact Fr.refl _
    · first | assumption | exact Fr.refl _

theorem execInjBurst_fr {a0} {a1} {a2} {s} : FrRes [⟨17205035008, 17205149727, 8192, 31⟩, ⟨17205035143, 17205149831, 8192, 0⟩, ⟨17181966336, 17181966336, 1, 0⟩, ⟨17181967360, 17181967360, 1, 0⟩, ⟨17186226581, 17186257301, 2048, 0⟩, ⟨17181966338, 17181966338, 1, 0⟩, ⟨17181966495, 17181966495, 1, 0⟩, ⟨17186168832, 17186169247, 1, 0⟩, ⟨17188261632, 17188261632, 1, 0⟩, ⟨17181967232, 17181967263, 1, 0⟩] [.flt, .evc, .pwr, .pair, .lane] s (execInjBurst a0 a1 a2 s) := by
  unfold execInjBurst
  refine FrRes.next ?_
  refine busWrite_fr (x := ⟨17205035008, 17205149727, 8192, 31⟩) (Keys.word_intro (by first | omega | (unfold laneAddr; omega)) (by first | omega | (unfold laneAddr; omega)) (by first | omega | (unfold laneAddr; omega))) (fun u => State.werr_0x200C (by unfold laneAddr; omega)) rfl rfl ?_ (fun t ht => ?_)
  · first | assumption | exact Fr.refl _
  · refine Fr.iteh (fun _ => ?_) (fun _ => ?_)
    · refine Fr.step State.laneInject_fr rfl rfl ?_
      first | assumption | exact Fr.refl _
    · first | assumption | exact Fr.refl _

theorem execLanePllLoss_fr {a0} {s} : FrRes [⟨17184063876, 17184063876, 1, 0⟩, ⟨17184063875, 17184063875, 1, 0⟩, ⟨17205035904, 17205150592, 8192, 0⟩, ⟨17205035144, 17205149832, 8192, 0⟩, ⟨17205035141, 17205149829, 8192, 0⟩, ⟨17205035140, 17205149828, 8192, 0⟩, ⟨17205035136, 17205149824, 8192, 0⟩, ⟨17181966336, 17181966336, 1, 0⟩, ⟨17181967360, 17181967360, 1, 0⟩, ⟨17186226581, 17186257301, 2048, 0⟩, ⟨17181966338, 17181966338, 1, 0⟩, ⟨17181966495, 17181966495, 1, 0⟩, ⟨17186168832, 17186169247, 1, 0⟩, ⟨17202938112, 17204379904, 131072, 0⟩, ⟨17205035139, 17205149827, 8192, 0⟩, ⟨17202937984, 17204379776, 131072, 0⟩] [.pwr, .flt, .evc, .tl] s (execLanePllLoss a0 s) := by
  unfold execLanePllLoss
  refine FrRes.next ?_
  extract_lets -merge -underBinder +onlyGivenNames x0
  refine Fr.cut x0 ?_ (fun h0 => ?_)
  · unfold x0
    refine Fr.wr (xs := [⟨17184063876, 17184063876, 1, 0⟩, ⟨17184063875, 17184063875, 1, 0⟩]) (Keys.any_ite (xs := [⟨17184063876, 17184063876, 1, 0⟩]) (ys := [⟨17184063875, 17184063875, 1, 0⟩]) rfl rfl) rfl ?_
    first | assumption | exact Fr.refl _
  try clear_value x0
  extract_lets -merge -underBinder +onlyGivenNames x1
  refine Fr.cut x1 ?_ (fun h1 => ?_)
  · unfold x1
    refine Fr.forFin ?_ (fun i t ht => ?_)
    · first | assumption | exact Fr.refl _
    · refine Fr.iteh (fun _ => ?_) (fun _ => ?_)
      · refine Fr.step State.laneLoss_fr rfl rfl ?_
        first | assumption | exact Fr.refl _
      · first | assumption | exact Fr.refl _
  try clear_value x1
  refine Fr.step State.raise_fr rfl rfl ?_
  first | assumption | exact Fr.refl _

end Sys2Proof.Machine
end

