-- ==== Sys2Proof/Laws/PwrFrame.lean ====
section
/-! SUPPORT. What each operation and command of Machine/Pwr.lean changes at most: register blocks and zones of the state. -/

namespace Sys2Proof.Machine

theorem State.setDom_fr {s} {a1} {a2} : Fr [⟨17181966336, 17181966336, 1, 0⟩, ⟨17181967360, 17181967360, 1, 0⟩, ⟨17186226581, 17186257301, 2048, 0⟩, ⟨17181966338, 17181966338, 1, 0⟩, ⟨17181966495, 17181966495, 1, 0⟩, ⟨17186168832, 17186169247, 1, 0⟩, ⟨17181966592, 17181966622, 2, 0⟩, ⟨17181966720, 17181966750, 2, 0⟩] [.pwr, .flt, .evc] s (State.setDom s a1 a2) := by
  unfold State.setDom
  refine Fr.iteh (fun _ => ?_) (fun _ => ?_)
  · first | assumption | exact Fr.refl _
  · refine Fr.step State.fire_fr rfl rfl ?_
    refine Fr.wr (xs := [⟨17181966592, 17181966622, 2, 0⟩, ⟨17181966720, 17181966750, 2, 0⟩]) domFld_key rfl ?_
    first | assumption | exact Fr.refl _

theorem State.dropRail_fr {s} {a1} : Fr [⟨17181967360, 17181967360, 1, 0⟩] [] s (State.dropRail s a1) := by
  unfold State.dropRail
  extract_lets -merge -underBinder +onlyGivenNames x0
  try clear_value (e0 : x0 = _)
  refine Fr.iteh (fun _ => ?_) (fun _ => ?_)
  · refine Fr.step State.setPmic_fr rfl rfl ?_
    first | assumption | exact Fr.refl _
  · first | assumption | exact Fr.refl _

theorem State.wipeDomain_fr {s} {a1} : Fr [] [.sa, .layer, .mem] s (State.wipeDomain s a1) := by
  unfold State.wipeDomain
  refine Fr.iteh (fun _ => ?_) (fun _ => ?_)
  · refine Fr.step State.wipeQuad_fr rfl rfl ?_
    first | assumption | exact Fr.refl _
  · refine Fr.iteh (fun _ => ?_) (fun _ => ?_)
    · refine Fr.step State.wipe_fr rfl rfl ?_
      first | assumption | exact Fr.refl _
    · refine Fr.forFin ?_ (fun i t ht => ?_)
      · first | assumption | exact Fr.refl _
      · refine Fr.iteh (fun _ => ?_) (fun _ => ?_)
        · refine Fr.step State.wipe_fr rfl rfl ?_
          first | assumption | exact Fr.refl _
        · first | assumption | exact Fr.refl _

theorem State.loseDram_fr {s} : Fr [] [.mem] s (State.loseDram s) := by
  refine ⟨fun _ _ _ => rfl, fun z hz => ?_, rfl, rfl, fun hw => ?_⟩
  · cases z <;> first | exact absurd (List.mem_singleton_self _) hz | simp [State.sameIn, State.loseDram]
  · have := (State.wf_iff _).1 hw
    refine (State.wf_iff _).2 ⟨this.1, this.2.1, ?_⟩
    exact Memory.wf_low _ _ _ this.2.2

theorem State.blockClear_fr {s} {a1} : Fr [⟨17196646400, 17198743551, 1, 0⟩, ⟨17198743552, 17200840703, 1, 0⟩, ⟨17230200832, 17232297983, 1, 0⟩, ⟨17200840704, 17202937855, 1, 0⟩, ⟨17202937856, 17205035007, 1, 0⟩, ⟨17205035008, 17207132159, 1, 0⟩, ⟨17207132160, 17209229311, 1, 0⟩, ⟨17209229312, 17211326463, 1, 0⟩, ⟨17211326464, 17213423615, 1, 0⟩, ⟨17213423616, 17215520767, 1, 0⟩, ⟨17215520768, 17217617919, 1, 0⟩, ⟨17217617920, 17219715071, 1, 0⟩, ⟨17219715072, 17221812223, 1, 0⟩, ⟨17223909376, 17226006527, 1, 0⟩, ⟨17190354944, 17192452095, 1, 0⟩, ⟨17194549248, 17196646399, 1, 0⟩, ⟨17228103680, 17230200831, 1, 0⟩] [.live, .sa, .layer, .maskin, .peri, .ft, .tl, .lane, .hlth, .lsc, .thm, .cal, .net, .time, .pair, .cvu, .win] s (State.blockClear s a1) := by
  unfold State.blockClear
  split
  · extract_lets -merge -underBinder +onlyGivenNames x0
    refine Fr.cut x0 ?_ (fun h0 => ?_)
    · unfold x0
      refine Fr.wr (xs := [⟨17196647680, 17196647680, 1, 0⟩]) rfl rfl ?_
      refine Fr.clearRegs rfl rfl ?_
      first | assumption | exact Fr.refl _
    try clear_value x0
    refine Fr.set_sa_layer rfl ?_
    first | assumption | exact Fr.refl _
  · extract_lets -merge -underBinder +onlyGivenNames x1
    refine Fr.cut x1 ?_ (fun h1 => ?_)
    · unfold x1
      refine Fr.clearRegs rfl rfl ?_
      first | assumption | exact Fr.refl _
    try clear_value x1
    refine Fr.set_layer rfl ?_
    first | assumption | exact Fr.refl _
  · extract_lets -merge -underBinder +onlyGivenNames x2
    refine Fr.cut x2 ?_ (fun h2 => ?_)
    · unfold x2
      refine Fr.clearRegs rfl rfl ?_
      first | assumption | exact Fr.refl _
    try clear_value x2
    extract_lets -merge -underBinder +onlyGivenNames x3
    refine Fr.cut x3 ?_ (fun h3 => ?_)
    · unfold x3
      refine Fr.set_maskin rfl ?_
      first | assumption | exact Fr.refl _
    try clear_value x3
    refine Fr.set_peri rfl ?_
    first | assumption | exact Fr.refl _
  · refine Fr.wr (xs := [⟨17196646528, 17196646528, 1, 0⟩]) rfl rfl ?_
    extract_lets -merge -underBinder +onlyGivenNames x4
    refine Fr.cut x4 ?_ (fun h4 => ?_)
    · unfold x4
      refine Fr.clearRegs rfl rfl ?_
      first | assumption | exact Fr.refl _
    try clear_value x4
    refine Fr.set_ft rfl ?_
    first | assumption | exact Fr.refl _
  · extract_lets -merge -underBinder +onlyGivenNames x5
    refine Fr.cut x5 ?_ (fun h5 => ?_)
    · unfold x5
      refine Fr.clearRegs rfl rfl ?_
      first | assumption | exact Fr.refl _
    try clear_value x5
    refine Fr.set_tl rfl ?_
    first | assumption | exact Fr.refl _
  · extract_lets -merge -underBinder +onlyGivenNames x6
    refine Fr.cut x6 ?_ (fun h6 => ?_)
    · unfold x6
      refine Fr.clearRegs rfl rfl ?_
      first | assumption | exact Fr.refl _
    try clear_value x6
    refine Fr.set_lane rfl ?_
    first | assumption | exact Fr.refl _
  · extract_lets -merge -underBinder +onlyGivenNames x7
    refine Fr.cut x7 ?_ (fun h7 => ?_)
    · unfold x7
      refine Fr.clearRegs rfl rfl ?_
      first | assumption | exact Fr.refl _
    try clear_value x7
    refine Fr.set_hlth rfl ?_
    first | assumption | exact Fr.refl _
  · extract_lets -merge -underBinder +onlyGivenNames x8
    refine Fr.cut x8 ?_ (fun h8 => ?_)
    · unfold x8
      refine Fr.clearRegs rfl rfl ?_
      first | assumption | exact Fr.refl _
    try clear_value x8
    refine Fr.set_lsc rfl ?_
    first | assumption | exact Fr.refl _
  · extract_lets -merge -underBinder +onlyGivenNames x9
    try clear_value (e9 : x9 = _)
    extract_lets -merge -underBinder +onlyGivenNames x10
    refine Fr.cut x10 ?_ (fun h10 => ?_)
    · unfold x10
      refine Fr.wr (xs := [⟨17211326468, 17211326468, 1, 0⟩]) rfl rfl ?_
      refine Fr.clearRegs rfl rfl ?_
      first | assumption | exact Fr.refl _
    try clear_value x10
    refine Fr.set_thm rfl ?_
    first | assumption | exact Fr.refl _
  · extract_lets -merge -underBinder +onlyGivenNames x11
    refine Fr.cut x11 ?_ (fun h11 => ?_)
    · unfold x11
      refine Fr.clearRegs rfl rfl ?_
      first | assumption | exact Fr.refl _
    try clear_value x11
    refine Fr.set_cal rfl ?_
    first | assumption | exact Fr.refl _
  · extract_lets -merge -underBinder +onlyGivenNames x12
    refine Fr.cut x12 ?_ (fun h12 => ?_)
    · unfold x12
      refine Fr.clearRegs rfl rfl ?_
      first | assumption | exact Fr.refl _
    try clear_value x12
    refine Fr.set_net rfl ?_
    first | assumption | exact Fr.refl _
  · extract_lets -merge -underBinder +onlyGivenNames x13
    refine Fr.cut x13 ?_ (fun h13 => ?_)
    · unfold x13
      refine Fr.clearRegs rfl rfl ?_
      first | assumption | exact Fr.refl _
    try clear_value x13
    refine Fr.set_net rfl ?_
    first | assumption | exact Fr.refl _
  · extract_lets -merge -underBinder +onlyGivenNames x14
    refine Fr.cut x14 ?_ (fun h14 => ?_)
    · unfold x14
      refine Fr.clearRegs rfl rfl ?_
      first | assumption | exact Fr.refl _
    try clear_value x14
    refine Fr.set_time rfl ?_
    first | assumption | exact Fr.refl _
  · extract_lets -merge -underBinder +onlyGivenNames x15
    refine Fr.cut x15 ?_ (fun h15 => ?_)
    · unfold x15
      refine Fr.clearRegs rfl rfl ?_
      first | assumption | exact Fr.refl _
    try clear_value x15
    refine Fr.set_pair rfl ?_
    first | assumption | exact Fr.refl _
  · extract_lets -merge -underBinder +onlyGivenNames x16
    refine Fr.cut x16 ?_ (fun h16 => ?_)
    · unfold x16
      refine Fr.clearRegs rfl rfl ?_
      first | assumption | exact Fr.refl _
    try clear_value x16
    refine Fr.set_cvu rfl ?_
    first | assumption | exact Fr.refl _
  · extract_lets -merge -underBinder +onlyGivenNames x17
    refine Fr.cut x17 ?_ (fun h17 => ?_)
    · unfold x17
      refine Fr.clearRegs rfl rfl ?_
      first | assumption | exact Fr.refl _
    try clear_value x17
    extract_lets -merge -underBinder +onlyGivenNames x18
    refine Fr.cut x18 ?_ (fun h18 => ?_)
    · unfold x18
      refine Fr.set_win rfl ?_
      first | assumption | exact Fr.refl _
    try clear_value x18
    refine Fr.iteh (fun _ => ?_) (fun _ => ?_)
    · refine Fr.wr (xs := [⟨17194549249, 17194549249, 1, 0⟩]) rfl rfl ?_
      refine Fr.forFin ?_ (fun i t ht => ?_)
      · first | assumption | exact Fr.refl _
      · refine Fr.wr (xs := [⟨17194551296, 17194553216, 128, 0⟩]) (Reg.WIN_ROLE_MASK_key (by first | omega | (simp only [List.mem_range] at *; omega))) rfl ?_
        first | assumption | exact Fr.refl _
    · first | assumption | exact Fr.refl _
  · extract_lets -merge -underBinder +onlyGivenNames x19
    refine Fr.cut x19 ?_ (fun h19 => ?_)
    · unfold x19
      refine Fr.clearRegs rfl rfl ?_
      first | assumption | exact Fr.refl _
    try clear_value x19
    refine Fr.set_peri rfl ?_
    first | assumption | exact Fr.refl _
  · first | assumption | exact Fr.refl _

theorem State.ftDropped_fr {s} : Fr ([⟨17211359376, 17211408272, 256, 0⟩, ⟨17181966336, 17181966336, 1, 0⟩, ⟨17181967360, 17181967360, 1, 0⟩, ⟨17186226581, 17186257301, 2048, 0⟩, ⟨17181966338, 17181966338, 1, 0⟩, ⟨17181966495, 17181966495, 1, 0⟩, ⟨17186168832, 17186169247, 1, 0⟩, ⟨17209229443, 17209229443, 1, 0⟩, ⟨17209229442, 17209229442, 1, 0⟩, ⟨17209231360, 17209231360, 1, 0⟩, ⟨17209231504, 17209231504, 1, 0⟩, ⟨17209231488, 17209231488, 1, 0⟩, ⟨17209231376, 17209231376, 1, 0⟩, ⟨17209245696, 17209251736, 8, 0⟩, ⟨17200840705, 17200840705, 1, 0⟩, ⟨17200840836, 17200840836, 1, 0⟩, ⟨17200840833, 17200840833, 1, 0⟩, ⟨17200840832, 17200840832, 1, 0⟩, ⟨17200840704, 17200840704, 1, 0⟩, ⟨17205035139, 17205149827, 8192, 0⟩, ⟨17205035141, 17205149829, 8192, 0⟩, ⟨17205035140, 17205149828, 8192, 0⟩, ⟨17205035136, 17205149824, 8192, 0⟩, ⟨17202937984, 17204379776, 131072, 0⟩, ⟨17219715203, 17219715203, 1, 0⟩, ⟨17219715204, 17219715204, 1, 0⟩, ⟨17219723265, 17219725313, 2048, 0⟩, ⟨17219723266, 17219725314, 2048, 0⟩, ⟨17219715205, 17219715205, 1, 0⟩, ⟨17200843408, 17200843408, 1, 0⟩] ++ [⟨17207138304, 17207138975, 1, 0⟩, ⟨17207136256, 17207137664, 128, 0⟩, ⟨17188261632, 17188261632, 1, 0⟩, ⟨17181967232, 17181967263, 1, 0⟩, ⟨17200840960, 17200840960, 1, 0⟩, ⟨17207132416, 17207132416, 1, 0⟩, ⟨17207132161, 17207132161, 1, 0⟩, ⟨17209229568, 17209229568, 1, 0⟩, ⟨17209229313, 17209229313, 1, 0⟩, ⟨17207132288, 17207132288, 1, 0⟩, ⟨17196646400, 17198743551, 1, 0⟩, ⟨17198743552, 17200840703, 1, 0⟩, ⟨17194557440, 17194573724, 4, 0⟩, ⟨17194549776, 17194549776, 1, 0⟩, ⟨17192452352, 17192452352, 1, 0⟩, ⟨17192452608, 17192452608, 1, 0⟩, ⟨17192452480, 17192452480, 1, 0⟩, ⟨17192452229, 17192452229, 1, 0⟩, ⟨17192452228, 17192452228, 1, 0⟩, ⟨17194615425, 17194618497, 1024, 0⟩, ⟨17194615296, 17194618368, 1024, 0⟩, ⟨17194549761, 17194549761, 1, 0⟩, ⟨17194549764, 17194549764, 1, 0⟩]) [.pwr, .flt, .evc, .lsc, .free, .ft, .safe, .time, .sa, .layer, .hlth, .cal, .pair, .lane, .tl, .maskin, .mem, .memc, .win] s (State.ftDropped s) := by
  unfold State.ftDropped
  refine Fr.iteh (fun _ => ?_) (fun _ => ?_)
  · first | assumption | exact Fr.refl _
  · refine Fr.step State.ftHalt_fr rfl rfl ?_
    split
    · refine Fr.step State.lscDrop_fr rfl rfl ?_
      first | assumption | exact Fr.refl _
    · first | assumption | exact Fr.refl _

theorem State.blockReset_fr {s} {a1} : Fr [⟨17181966336, 17181966336, 1, 0⟩, ⟨17181967360, 17181967360, 1, 0⟩, ⟨17186226581, 17186257301, 2048, 0⟩, ⟨17181966338, 17181966338, 1, 0⟩, ⟨17181966495, 17181966495, 1, 0⟩, ⟨17186168832, 17186169247, 1, 0⟩, ⟨17196646400, 17198743551, 1, 0⟩, ⟨17198743552, 17200840703, 1, 0⟩, ⟨17230200832, 17232297983, 1, 0⟩, ⟨17200840704, 17202937855, 1, 0⟩, ⟨17202937856, 17205035007, 1, 0⟩, ⟨17205035008, 17207132159, 1, 0⟩, ⟨17207132160, 17209229311, 1, 0⟩, ⟨17209229312, 17211326463, 1, 0⟩, ⟨17211326464, 17213423615, 1, 0⟩, ⟨17213423616, 17215520767, 1, 0⟩, ⟨17215520768, 17217617919, 1, 0⟩, ⟨17217617920, 17219715071, 1, 0⟩, ⟨17219715072, 17221812223, 1, 0⟩, ⟨17223909376, 17226006527, 1, 0⟩, ⟨17190354944, 17192452095, 1, 0⟩, ⟨17194549248, 17196646399, 1, 0⟩, ⟨17228103680, 17230200831, 1, 0⟩, ⟨17188261632, 17188261632, 1, 0⟩, ⟨17181967232, 17181967263, 1, 0⟩, ⟨17192452352, 17192452352, 1, 0⟩, ⟨17192452608, 17192452608, 1, 0⟩, ⟨17192452480, 17192452480, 1, 0⟩, ⟨17192452229, 17192452229, 1, 0⟩, ⟨17192452228, 17192452228, 1, 0⟩] [.sa, .flt, .pwr, .evc, .tl, .live, .layer, .maskin, .peri, .ft, .lane, .hlth, .lsc, .thm, .cal, .net, .time, .pair, .cvu, .win, .free, .safe, .mem, .memc] s (State.blockReset s a1) := by
  unfold State.blockReset
  split
  · extract_lets -merge -underBinder +onlyGivenNames x0
    refine Fr.cut x0 ?_ (fun h0 => ?_)
    · unfold x0
      refine Fr.iteh (fun _ => ?_) (fun _ => ?_)
      · refine Fr.step State.loadFail_fr rfl rfl ?_
        first | assumption | exact Fr.refl _
      · first | assumption | exact Fr.refl _
    try clear_value x0
    refine Fr.step State.unmapPorts_fr rfl rfl ?_
    refine Fr.step State.showBank_fr rfl rfl ?_
    refine Fr.step State.blockClear_fr rfl rfl ?_
    first | assumption | exact Fr.refl _
  · refine Fr.step State.showBank_fr rfl rfl ?_
    refine Fr.step State.blockClear_fr rfl rfl ?_
    first | assumption | exact Fr.refl _
  · refine Fr.step State.blockClear_fr rfl rfl ?_
    refine Fr.step State.maskUnlive_fr rfl rfl ?_
    first | assumption | exact Fr.refl _
  · refine Fr.step State.blockClear_fr rfl rfl ?_
    refine Fr.step State.ftDropped_fr rfl rfl ?_
    first | assumption | exact Fr.refl _
  · extract_lets -merge -underBinder +onlyGivenNames x1
    refine Fr.cut x1 ?_ (fun h1 => ?_)
    · unfold x1
      refine Fr.step State.blockClear_fr rfl rfl ?_
      refine Fr.forFin ?_ (fun i t ht => ?_)
      · first | assumption | exact Fr.refl _
      · refine Fr.step State.laneLoss_fr rfl rfl ?_
        first | assumption | exact Fr.refl _
    try clear_value x1
    refine Fr.forFin ?_ (fun i t ht => ?_)
    · first | assumption | exact Fr.refl _
    · refine Fr.step State.showLane_fr rfl rfl ?_
      first | assumption | exact Fr.refl _
  · extract_lets -merge -underBinder +onlyGivenNames x2
    refine Fr.cut x2 ?_ (fun h2 => ?_)
    · unfold x2
      refine Fr.forFin ?_ (fun i t ht => ?_)
      · refine Fr.step State.blockClear_fr rfl rfl ?_
        first | assumption | exact Fr.refl _
      · refine Fr.step State.showLane_fr rfl rfl ?_
        first | assumption | exact Fr.refl _
    try clear_value x2
    refine Fr.iteh (fun _ => ?_) (fun _ => ?_)
    · refine Fr.step State.lscEval_fr rfl rfl ?_
      first | assumption | exact Fr.refl _
    · first | assumption | exact Fr.refl _
  · refine Fr.step State.showZlim_fr rfl rfl ?_
    refine Fr.step State.blockClear_fr rfl rfl ?_
    first | assumption | exact Fr.refl _
  · refine Fr.step State.showZlim_fr rfl rfl ?_
    refine Fr.step State.blockClear_fr rfl rfl ?_
    refine Fr.step State.lscRelease_fr rfl rfl ?_
    first | assumption | exact Fr.refl _
  · refine Fr.step State.blockClear_fr rfl rfl ?_
    refine Fr.step State.ftDropped_fr rfl rfl ?_
    first | assumption | exact Fr.refl _
  · refine Fr.step State.showLane_fr rfl rfl ?_
    refine Fr.step State.blockClear_fr rfl rfl ?_
    first | assumption | exact Fr.refl _
  · refine Fr.step State.showLane_fr rfl rfl ?_
    refine Fr.step State.blockClear_fr rfl rfl ?_
    first | assumption | exact Fr.refl _
  · refine Fr.step State.showLane_fr rfl rfl ?_
    refine Fr.step State.blockClear_fr rfl rfl ?_
    first | assumption | exact Fr.refl _
  · refine Fr.step State.blockClear_fr rfl rfl ?_
    first | assumption | exact Fr.refl _

theorem State.stopEngines_fr {s} {a1} : Fr [⟨17186169856, 17186170271, 1, 0⟩, ⟨17186226583, 17186257303, 2048, 0⟩, ⟨17186226582, 17186257302, 2048, 0⟩, ⟨17186226576, 17186257296, 2048, 0⟩, ⟨17186226568, 17186257288, 2048, 0⟩, ⟨17186226560, 17186257280, 2048, 0⟩, ⟨17186226581, 17186257301, 2048, 0⟩, ⟨17186226816, 17186257536, 2048, 0⟩, ⟨17186226584, 17186257304, 2048, 0⟩] [.evc, .flt] s (State.stopEngines s a1) := by
  unfold State.stopEngines
  refine Fr.forFin ?_ (fun i t ht => ?_)
  · first | assumption | exact Fr.refl _
  · refine Fr.iteh (fun _ => ?_) (fun _ => ?_)
    · refine Fr.step State.resetEngine_fr rfl rfl ?_
      first | assumption | exact Fr.refl _
    · first | assumption | exact Fr.refl _

theorem State.cryptoOff_fr {s} : Fr [⟨17226006528, 17228103679, 1, 0⟩] [.live, .ident] s (State.cryptoOff s) := by
  unfold State.cryptoOff
  extract_lets -merge -underBinder +onlyGivenNames x0
  refine Fr.cut x0 ?_ (fun h0 => ?_)
  · unfold x0
    refine Fr.clearRegs rfl rfl ?_
    first | assumption | exact Fr.refl _
  try clear_value x0
  refine Fr.set_ident rfl ?_
  first | assumption | exact Fr.refl _

theorem State.keepQuads_fr {s} {a1} : Fr [] [.sa, .layer] s (State.keepQuads s a1) := by
  unfold State.keepQuads
  extract_lets -merge -underBinder +onlyGivenNames x0
  try clear_value x0
  extract_lets -merge -underBinder +onlyGivenNames x1
  try clear_value x1
  refine Fr.iteh (fun _ => ?_) (fun _ => ?_)
  · refine Fr.set_sa_layer rfl ?_
    first | assumption | exact Fr.refl _
  · first | assumption | exact Fr.refl _

theorem State.domainLost_fr {s} {a1} : Fr ([⟨17186226583, 17186257303, 2048, 0⟩, ⟨17186226582, 17186257302, 2048, 0⟩, ⟨17186226576, 17186257296, 2048, 0⟩, ⟨17186226568, 17186257288, 2048, 0⟩, ⟨17186226560, 17186257280, 2048, 0⟩, ⟨17186226581, 17186257301, 2048, 0⟩, ⟨17186226816, 17186257536, 2048, 0⟩, ⟨17186226584, 17186257304, 2048, 0⟩, ⟨17226006528, 17228103679, 1, 0⟩, ⟨17184063616, 17186168831, 1, 0⟩, ⟨17181966336, 17181966336, 1, 0⟩, ⟨17181967360, 17181967360, 1, 0⟩, ⟨17181966338, 17181966338, 1, 0⟩, ⟨17181966495, 17181966495, 1, 0⟩, ⟨17186168832, 17186169247, 1, 0⟩, ⟨17198743552, 17200840703, 1, 0⟩, ⟨17230200832, 17232297983, 1, 0⟩, ⟨17200840704, 17202937855, 1, 0⟩, ⟨17202937856, 17205035007, 1, 0⟩, ⟨17205035008, 17207132159, 1, 0⟩, ⟨17207132160, 17209229311, 1, 0⟩, ⟨17209229312, 17211326463, 1, 0⟩, ⟨17211326464, 17213423615, 1, 0⟩, ⟨17213423616, 17215520767, 1, 0⟩, ⟨17215520768, 17217617919, 1, 0⟩, ⟨17217617920, 17219715071, 1, 0⟩, ⟨17219715072, 17221812223, 1, 0⟩, ⟨17223909376, 17226006527, 1, 0⟩, ⟨17190354944, 17192452095, 1, 0⟩, ⟨17228103680, 17230200831, 1, 0⟩] ++ [⟨17181967232, 17181967263, 1, 0⟩, ⟨17194549248, 17198743551, 1, 0⟩, ⟨17186169856, 17186226175, 1, 0⟩, ⟨17188257792, 17190354943, 1, 0⟩, ⟨17179869184, 17180000255, 1, 0⟩, ⟨17221812224, 17223909375, 1, 0⟩, ⟨17192452096, 17194549247, 1, 0⟩]) [.evc, .flt, .live, .ident, .sa, .pwr, .tl, .layer, .maskin, .peri, .ft, .lane, .hlth, .lsc, .thm, .cal, .net, .time, .pair, .cvu, .win, .free, .safe, .mem, .memc] s (State.domainLost s a1) := by
  unfold State.domainLost
  extract_lets -merge -underBinder +onlyGivenNames x0
  refine Fr.cut x0 ?_ (fun h0 => ?_)
  · unfold x0
    refine Fr.step State.stopEngines_fr rfl rfl ?_
    first | assumption | exact Fr.refl _
  try clear_value x0
  split
  · extract_lets -merge -underBinder +onlyGivenNames x1
    refine Fr.cut x1 ?_ (fun h1 => ?_)
    · unfold x1
      refine Fr.step State.cryptoOff_fr rfl rfl ?_
      refine Fr.clearRegs rfl rfl ?_
      refine Fr.foldl' ?_ (fun t x hx ht => ?_)
      · first | assumption | exact Fr.refl _
      · refine Fr.step State.blockReset_fr rfl rfl ?_
        first | assumption | exact Fr.refl _
    try clear_value x1
    extract_lets -merge -underBinder +onlyGivenNames x2
    refine Fr.cut x2 ?_ (fun h2 => ?_)
    · unfold x2
      refine Fr.step State.keepQuads_fr rfl rfl ?_
      refine Fr.clearRegs rfl rfl ?_
      refine Fr.clearRegs rfl rfl ?_
      first | assumption | exact Fr.refl _
    try clear_value x2
    extract_lets -merge -underBinder +onlyGivenNames x3
    refine Fr.cut x3 ?_ (fun h3 => ?_)
    · unfold x3
      refine Fr.clearRegs rfl rfl ?_
      refine Fr.clearRegs rfl rfl ?_
      first | assumption | exact Fr.refl _
    try clear_value x3
    extract_lets -merge -underBinder +onlyGivenNames x4
    refine Fr.cut x4 ?_ (fun h4 => ?_)
    · unfold x4
      refine Fr.set_flt rfl ?_
      first | assumption | exact Fr.refl _
    try clear_value x4
    extract_lets -merge -underBinder +onlyGivenNames x5
    refine Fr.cut x5 ?_ (fun h5 => ?_)
    · unfold x5
      refine Fr.set_ident rfl ?_
      first | assumption | exact Fr.refl _
    try clear_value x5
    refine Fr.wr (xs := [⟨17188257922, 17188257922, 1, 0⟩]) rfl rfl ?_
    refine Fr.wr (xs := [⟨17188257923, 17188257923, 1, 0⟩]) rfl rfl ?_
    refine Fr.wr (xs := [⟨17188257921, 17188257921, 1, 0⟩]) rfl rfl ?_
    first | assumption | exact Fr.refl _
  · refine Fr.wr (xs := [⟨17221812363, 17221812363, 1, 0⟩]) rfl rfl ?_
    extract_lets -merge -underBinder +onlyGivenNames x6
    refine Fr.cut x6 ?_ (fun h6 => ?_)
    · unfold x6
      refine Fr.clearRegs rfl rfl ?_
      first | assumption | exact Fr.refl _
    try clear_value x6
    refine Fr.set_safe rfl ?_
    first | assumption | exact Fr.refl _
  · refine Fr.step State.blockReset_fr rfl rfl ?_
    refine Fr.step State.blockReset_fr rfl rfl ?_
    first | assumption | exact Fr.refl _
  · refine Fr.wr (xs := [⟨17192452224, 17192452224, 1, 0⟩]) rfl rfl ?_
    extract_lets -merge -underBinder +onlyGivenNames x7
    refine Fr.cut x7 ?_ (fun h7 => ?_)
    · unfold x7
      refine Fr.clearRegs rfl rfl ?_
      first | assumption | exact Fr.refl _
    try clear_value x7
    refine Fr.set_memc rfl ?_
    first | assumption | exact Fr.refl _
  · refine Fr.wr (xs := [⟨17184063876, 17184063876, 1, 0⟩]) rfl rfl ?_
    refine Fr.wr (xs := [⟨17184063875, 17184063875, 1, 0⟩]) rfl rfl ?_
    refine Fr.step State.blockReset_fr rfl rfl ?_
    refine Fr.step State.blockReset_fr rfl rfl ?_
    first | assumption | exact Fr.refl _
  · refine Fr.step State.blockReset_fr rfl rfl ?_
    first | assumption | exact Fr.refl _
  · first | assumption | exact Fr.refl _

theorem State.quadOff_fr {s} {a1} : Fr [⟨17196647424, 17196647424, 1, 0⟩, ⟨17196647552, 17196647552, 1, 0⟩, ⟨17196646530, 17196646530, 1, 0⟩, ⟨17196646531, 17196646531, 1, 0⟩, ⟨17205035139, 17205149827, 8192, 0⟩, ⟨17205035141, 17205149829, 8192, 0⟩, ⟨17205035140, 17205149828, 8192, 0⟩, ⟨17205035136, 17205149824, 8192, 0⟩, ⟨17181966336, 17181966336, 1, 0⟩, ⟨17181967360, 17181967360, 1, 0⟩, ⟨17186226581, 17186257301, 2048, 0⟩, ⟨17181966338, 17181966338, 1, 0⟩, ⟨17181966495, 17181966495, 1, 0⟩, ⟨17186168832, 17186169247, 1, 0⟩, ⟨17202937984, 17204379776, 131072, 0⟩, ⟨17196647812, 17196647812, 1, 0⟩, ⟨17196647808, 17196647808, 1, 0⟩, ⟨17196646544, 17196646544, 1, 0⟩, ⟨17196646536, 17196646536, 1, 0⟩, ⟨17198753168, 17198767504, 2048, 0⟩, ⟨17198753152, 17198767488, 2048, 0⟩] [.sa, .pwr, .flt, .evc, .tl] s (State.quadOff s a1) := by
  unfold State.quadOff
  extract_lets -merge -underBinder +onlyGivenNames x0
  try clear_value x0
  extract_lets -merge -underBinder +onlyGivenNames x1
  refine Fr.cut x1 ?_ (fun h1 => ?_)
  · unfold x1
    refine Fr.iteh (fun _ => ?_) (fun _ => ?_)
    · refine Fr.step State.dropBank_fr rfl rfl ?_
      first | assumption | exact Fr.refl _
    · first | assumption | exact Fr.refl _
  try clear_value x1
  extract_lets -merge -underBinder +onlyGivenNames x2
  refine Fr.cut x2 ?_ (fun h2 => ?_)
  · unfold x2
    refine Fr.iteh (fun _ => ?_) (fun _ => ?_)
    · refine Fr.step State.dropBank_fr rfl rfl ?_
      first | assumption | exact Fr.refl _
    · first | assumption | exact Fr.refl _
  try clear_value x2
  refine Fr.step State.unmapPorts_fr rfl rfl ?_
  refine Fr.step State.showBank_fr rfl rfl ?_
  first | assumption | exact Fr.refl _

theorem State.selfRefresh_fr {s} : Fr [⟨17181966336, 17181966336, 1, 0⟩, ⟨17181967360, 17181967360, 1, 0⟩, ⟨17186226581, 17186257301, 2048, 0⟩, ⟨17181966338, 17181966338, 1, 0⟩, ⟨17181966495, 17181966495, 1, 0⟩, ⟨17186168832, 17186169247, 1, 0⟩, ⟨17192452224, 17192452224, 1, 0⟩] [.pwr, .flt, .evc] s (State.selfRefresh s) := by
  unfold State.selfRefresh
  extract_lets -merge -underBinder +onlyGivenNames x0
  try clear_value (e0 : x0 = _)
  refine Fr.iteh (fun _ => ?_) (fun _ => ?_)
  · refine Fr.step State.fire_fr rfl rfl ?_
    refine Fr.wr (xs := [⟨17192452224, 17192452224, 1, 0⟩]) rfl rfl ?_
    first | assumption | exact Fr.refl _
  · refine Fr.iteh (fun _ => ?_) (fun _ => ?_)
    · refine Fr.step State.fire_fr rfl rfl ?_
      refine Fr.wr (xs := [⟨17192452224, 17192452224, 1, 0⟩]) rfl rfl ?_
      first | assumption | exact Fr.refl _
    · first | assumption | exact Fr.refl _

theorem State.dramOff_fr {s} : Fr [⟨17192452096, 17194549247, 1, 0⟩, ⟨17181966336, 17181966336, 1, 0⟩, ⟨17181967360, 17181967360, 1, 0⟩, ⟨17186226581, 17186257301, 2048, 0⟩, ⟨17181966338, 17181966338, 1, 0⟩, ⟨17181966495, 17181966495, 1, 0⟩, ⟨17186168832, 17186169247, 1, 0⟩] [.mem, .live, .pwr, .flt, .evc] s (State.dramOff s) := by
  unfold State.dramOff
  extract_lets -merge -underBinder +onlyGivenNames x0
  refine Fr.cut x0 ?_ (fun h0 => ?_)
  · unfold x0
    refine Fr.step State.loseDram_fr rfl rfl ?_
    refine Fr.clearRegs rfl rfl ?_
    first | assumption | exact Fr.refl _
  try clear_value x0
  refine Fr.iteh (fun _ => ?_) (fun _ => ?_)
  · first | assumption | exact Fr.refl _
  · refine Fr.step State.fire_fr rfl rfl ?_
    first | assumption | exact Fr.refl _

theorem State.domainDown_fr {s} {a1} {a2} : Fr ([⟨17181966336, 17181966336, 1, 0⟩, ⟨17181967360, 17181967360, 1, 0⟩, ⟨17186226581, 17186257301, 2048, 0⟩, ⟨17181966338, 17181966338, 1, 0⟩, ⟨17181966495, 17181966495, 1, 0⟩, ⟨17186168832, 17186169247, 1, 0⟩, ⟨17181966592, 17181966622, 2, 0⟩, ⟨17181966720, 17181966750, 2, 0⟩, ⟨17186226583, 17186257303, 2048, 0⟩, ⟨17186226582, 17186257302, 2048, 0⟩, ⟨17186226576, 17186257296, 2048, 0⟩, ⟨17186226568, 17186257288, 2048, 0⟩, ⟨17186226560, 17186257280, 2048, 0⟩, ⟨17186226816, 17186257536, 2048, 0⟩, ⟨17186226584, 17186257304, 2048, 0⟩, ⟨17226006528, 17228103679, 1, 0⟩, ⟨17184063616, 17186168831, 1, 0⟩, ⟨17198743552, 17200840703, 1, 0⟩, ⟨17230200832, 17232297983, 1, 0⟩, ⟨17200840704, 17202937855, 1, 0⟩, ⟨17202937856, 17205035007, 1, 0⟩, ⟨17205035008, 17207132159, 1, 0⟩, ⟨17207132160, 17209229311, 1, 0⟩, ⟨17209229312, 17211326463, 1, 0⟩, ⟨17211326464, 17213423615, 1, 0⟩, ⟨17213423616, 17215520767, 1, 0⟩, ⟨17215520768, 17217617919, 1, 0⟩, ⟨17217617920, 17219715071, 1, 0⟩, ⟨17219715072, 17221812223, 1, 0⟩, ⟨17223909376, 17226006527, 1, 0⟩] ++ [⟨17190354944, 17192452095, 1, 0⟩, ⟨17228103680, 17230200831, 1, 0⟩, ⟨17181967232, 17181967263, 1, 0⟩, ⟨17194549248, 17198743551, 1, 0⟩, ⟨17186169856, 17186226175, 1, 0⟩, ⟨17188257792, 17190354943, 1, 0⟩, ⟨17179869184, 17180000255, 1, 0⟩, ⟨17221812224, 17223909375, 1, 0⟩, ⟨17192452096, 17194549247, 1, 0⟩]) [.pwr, .flt, .evc, .live, .ident, .sa, .tl, .layer, .maskin, .peri, .ft, .lane, .hlth, .lsc, .thm, .cal, .net, .time, .pair, .cvu, .win, .free, .safe, .mem, .memc] s (State.domainDown s a1 a2) := by
  unfold State.domainDown
  extract_lets -merge -underBinder +onlyGivenNames x0
  refine Fr.cut x0 ?_ (fun h0 => ?_)
  · unfold x0
    refine Fr.step State.setDom_fr rfl rfl ?_
    refine Fr.step State.domainLost_fr rfl rfl ?_
    first | assumption | exact Fr.refl _
  try clear_value x0
  extract_lets -merge -underBinder +onlyGivenNames x1
  refine Fr.cut x1 ?_ (fun h1 => ?_)
  · unfold x1
    refine Fr.iteh (fun _ => ?_) (fun _ => ?_)
    · refine Fr.step State.wipeDomain_fr rfl rfl ?_
      first | assumption | exact Fr.refl _
    · first | assumption | exact Fr.refl _
  try clear_value x1
  extract_lets -merge -underBinder +onlyGivenNames x2
  refine Fr.cut x2 ?_ (fun h2 => ?_)
  · unfold x2
    refine Fr.iteh (fun _ => ?_) (fun _ => ?_)
    · refine Fr.iteh (fun _ => ?_) (fun _ => ?_)
      · refine Fr.step State.selfRefresh_fr rfl rfl ?_
        first | assumption | exact Fr.refl _
      · refine Fr.step State.dramOff_fr rfl rfl ?_
        first | assumption | exact Fr.refl _
    · first | assumption | exact Fr.refl _
  try clear_value x2
  extract_lets -merge -underBinder +onlyGivenNames x3
  refine Fr.cut x3 ?_ (fun h3 => ?_)
  · unfold x3
    refine Fr.iteh (fun _ => ?_) (fun _ => ?_)
    · refine Fr.step State.loadFail_fr rfl rfl ?_
      first | assumption | exact Fr.refl _
    · first | assumption | exact Fr.refl _
  try clear_value x3
  extract_lets -merge -underBinder +onlyGivenNames x4
  refine Fr.cut x4 ?_ (fun h4 => ?_)
  · unfold x4
    refine Fr.iteh (fun _ => ?_) (fun _ => ?_)
    · refine Fr.step State.quadOff_fr rfl rfl ?_
      first | assumption | exact Fr.refl _
    · first | assumption | exact Fr.refl _
  try clear_value x4
  refine Fr.step State.dropRail_fr rfl rfl ?_
  first | assumption | exact Fr.refl _

theorem State.domainUp_fr {s} {a1} : Fr [⟨17181966336, 17181966336, 1, 0⟩, ⟨17181967360, 17181967360, 1, 0⟩, ⟨17186226581, 17186257301, 2048, 0⟩, ⟨17181966338, 17181966338, 1, 0⟩, ⟨17181966495, 17181966495, 1, 0⟩, ⟨17186168832, 17186169247, 1, 0⟩, ⟨17181966592, 17181966622, 2, 0⟩, ⟨17181966720, 17181966750, 2, 0⟩, ⟨17192452224, 17192452224, 1, 0⟩] [.pwr, .flt, .evc, .peri] s (State.domainUp s a1) := by
  unfold State.domainUp
  extract_lets -merge -underBinder +onlyGivenNames x0
  try clear_value x0
  extract_lets -merge -underBinder +onlyGivenNames x1
  refine Fr.cut x1 ?_ (fun h1 => ?_)
  · unfold x1
    refine Fr.step State.setDom_fr rfl rfl ?_
    first | assumption | exact Fr.refl _
  try clear_value x1
  extract_lets -merge -underBinder +onlyGivenNames x2
  refine Fr.cut x2 ?_ (fun h2 => ?_)
  · unfold x2
    refine Fr.forFin ?_ (fun i t ht => ?_)
    · first | assumption | exact Fr.refl _
    · refine Fr.iteh (fun _ => ?_) (fun _ => ?_)
      · refine Fr.step State.startEngine_fr rfl rfl ?_
        first | assumption | exact Fr.refl _
      · first | assumption | exact Fr.refl _
  try clear_value x2
  extract_lets -merge -underBinder +onlyGivenNames x3
  extract_lets -merge -underBinder +onlyGivenNames x4
  refine Fr.cut x4 ?_ (fun h4 => ?_)
  · unfold x4
    refine Fr.iteh (fun _ => ?_) (fun _ => ?_)
    · refine Fr.set_peri rfl ?_
      first | assumption | exact Fr.refl _
    · first | assumption | exact Fr.refl _
  try clear_value x4
  refine Fr.iteh (fun _ => ?_) (fun _ => ?_)
  · refine Fr.step State.fire_fr rfl rfl ?_
    refine Fr.wr (xs := [⟨17192452224, 17192452224, 1, 0⟩]) rfl rfl ?_
    first | assumption | exact Fr.refl _
  · first | assumption | exact Fr.refl _

theorem State.bootE0_fr {s} : Fr [] [.pwr, .evc] s (State.bootE0 s) := by
  unfold State.bootE0
  refine Fr.iteh (fun _ => ?_) (fun _ => ?_)
  · first | assumption | exact Fr.refl _
  · extract_lets -merge -underBinder +onlyGivenNames x0
    extract_lets -merge -underBinder +onlyGivenNames x1
    refine Fr.cut x1 ?_ (fun h1 => ?_)
    · unfold x1
      refine Fr.set_pwr rfl ?_
      first | assumption | exact Fr.refl _
    try clear_value x1
    refine Fr.iteh (fun _ => ?_) (fun _ => ?_)
    · refine Fr.step State.setEng_fr rfl rfl ?_
      first | assumption | exact Fr.refl _
    · first | assumption | exact Fr.refl _

theorem State.domFails_fr {s} {a1} : Fr ([⟨17181966336, 17181966336, 1, 0⟩, ⟨17181967360, 17181967360, 1, 0⟩, ⟨17186226581, 17186257301, 2048, 0⟩, ⟨17181966338, 17181966338, 1, 0⟩, ⟨17181966495, 17181966495, 1, 0⟩, ⟨17186168832, 17186169247, 1, 0⟩, ⟨17181966592, 17181966622, 2, 0⟩, ⟨17181966720, 17181966750, 2, 0⟩, ⟨17186226583, 17186257303, 2048, 0⟩, ⟨17186226582, 17186257302, 2048, 0⟩, ⟨17186226576, 17186257296, 2048, 0⟩, ⟨17186226568, 17186257288, 2048, 0⟩, ⟨17186226560, 17186257280, 2048, 0⟩, ⟨17186226816, 17186257536, 2048, 0⟩, ⟨17186226584, 17186257304, 2048, 0⟩, ⟨17226006528, 17228103679, 1, 0⟩, ⟨17184063616, 17186168831, 1, 0⟩, ⟨17198743552, 17200840703, 1, 0⟩, ⟨17230200832, 17232297983, 1, 0⟩, ⟨17200840704, 17202937855, 1, 0⟩, ⟨17202937856, 17205035007, 1, 0⟩, ⟨17205035008, 17207132159, 1, 0⟩, ⟨17207132160, 17209229311, 1, 0⟩, ⟨17209229312, 17211326463, 1, 0⟩, ⟨17211326464, 17213423615, 1, 0⟩, ⟨17213423616, 17215520767, 1, 0⟩, ⟨17215520768, 17217617919, 1, 0⟩, ⟨17217617920, 17219715071, 1, 0⟩, ⟨17219715072, 17221812223, 1, 0⟩, ⟨17223909376, 17226006527, 1, 0⟩] ++ [⟨17190354944, 17192452095, 1, 0⟩, ⟨17228103680, 17230200831, 1, 0⟩, ⟨17181967232, 17181967263, 1, 0⟩, ⟨17194549248, 17198743551, 1, 0⟩, ⟨17186169856, 17186226175, 1, 0⟩, ⟨17188257792, 17190354943, 1, 0⟩, ⟨17179869184, 17180000255, 1, 0⟩, ⟨17221812224, 17223909375, 1, 0⟩, ⟨17192452096, 17194549247, 1, 0⟩]) [.pwr, .flt, .evc, .live, .ident, .sa, .tl, .layer, .maskin, .peri, .ft, .lane, .hlth, .lsc, .thm, .cal, .net, .time, .pair, .cvu, .win, .free, .safe, .mem, .memc] s (State.domFails s a1) := by
  unfold State.domFails
  refine Fr.foldl' ?_ (fun t x hx ht => ?_)
  · refine Fr.step State.setDom_fr rfl rfl ?_
    first | assumption | exact Fr.refl _
  · refine Fr.iteh (fun _ => ?_) (fun _ => ?_)
    · refine Fr.step State.domainDown_fr rfl rfl ?_
      first | assumption | exact Fr.refl _
    · first | assumption | exact Fr.refl _

theorem State.pwrGo_fr {s} {a1} {a2} : Fr [⟨17181966336, 17181966336, 1, 0⟩, ⟨17181967360, 17181967360, 1, 0⟩, ⟨17186226581, 17186257301, 2048, 0⟩, ⟨17181966338, 17181966338, 1, 0⟩, ⟨17181966495, 17181966495, 1, 0⟩, ⟨17186168832, 17186169247, 1, 0⟩, ⟨17181966344, 17181966344, 1, 0⟩, ⟨17181966340, 17181966340, 1, 0⟩] [.pwr, .flt, .evc] s (State.pwrGo s a1 a2) := by
  unfold State.pwrGo
  extract_lets -merge -underBinder +onlyGivenNames x0
  try clear_value (e0 : x0 = _)
  refine Fr.iteh (fun _ => ?_) (fun _ => ?_)
  · refine Fr.step State.fire_fr rfl rfl ?_
    refine Fr.wr (xs := [⟨17181966495, 17181966495, 1, 0⟩]) rfl rfl ?_
    refine Fr.wr (xs := [⟨17181966344, 17181966344, 1, 0⟩]) rfl rfl ?_
    refine Fr.wr (xs := [⟨17181966340, 17181966340, 1, 0⟩]) rfl rfl ?_
    first | assumption | exact Fr.refl _
  · refine Fr.iteh (fun _ => ?_) (fun _ => ?_)
    · refine Fr.wr (xs := [⟨17181966495, 17181966495, 1, 0⟩]) rfl rfl ?_
      first | assumption | exact Fr.refl _
    · refine Fr.iteh (fun _ => ?_) (fun _ => ?_)
      · refine Fr.wr (xs := [⟨17181966495, 17181966495, 1, 0⟩]) rfl rfl ?_
        refine Fr.step State.startWake_fr rfl rfl ?_
        first | assumption | exact Fr.refl _
      · refine Fr.wr (xs := [⟨17181966495, 17181966495, 1, 0⟩]) rfl rfl ?_
        refine Fr.wr (xs := [⟨17181966336, 17181966336, 1, 0⟩]) rfl rfl ?_
        refine Fr.set_pwr rfl ?_
        first | assumption | exact Fr.refl _

theorem execPwrRequest_fr {a0} {a1} {s} : FrRes [⟨17181966464, 17181966495, 32, 31⟩, ⟨17181966337, 17181966337, 1, 0⟩, ⟨17181966336, 17181966336, 1, 0⟩, ⟨17181967360, 17181967360, 1, 0⟩, ⟨17186226581, 17186257301, 2048, 0⟩, ⟨17181966338, 17181966338, 1, 0⟩, ⟨17186168832, 17186169247, 1, 0⟩, ⟨17188261632, 17188261632, 1, 0⟩, ⟨17181967232, 17181967263, 1, 0⟩, ⟨17181966344, 17181966344, 1, 0⟩, ⟨17181966340, 17181966340, 1, 0⟩] [.flt, .evc, .pwr, .pair] s (execPwrRequest a0 a1 s) := by
  unfold execPwrRequest
  refine FrRes.next ?_
  refine busWrite_fr (x := ⟨17181966464, 17181966495, 32, 31⟩) (Keys.word_intro (by first | omega | (omega)) (by first | omega | (omega)) (by first | omega | (omega))) (fun u => State.werr_0x2001 (by omega)) rfl rfl ?_ (fun t ht => ?_)
  · first | assumption | exact Fr.refl _
  · extract_lets -merge -underBinder +onlyGivenNames x0
    try clear_value (e0 : x0 = _)
    extract_lets -merge -underBinder +onlyGivenNames x1
    try clear_value (e1 : x1 = _)
    refine Fr.iteh (fun _ => ?_) (fun _ => ?_)
    · first | assumption | exact Fr.refl _
    · refine Fr.iteh (fun _ => ?_) (fun _ => ?_)
      · refine Fr.step State.pwrGo_fr rfl rfl ?_
        first | assumption | exact Fr.refl _
      · split
        · refine Fr.iteh (fun _ => ?_) (fun _ => ?_)
          · refine Fr.iteh (fun _ => ?_) (fun _ => ?_)
            · refine Fr.set_pwr rfl ?_
              first | assumption | exact Fr.refl _
            · extract_lets -merge -underBinder +onlyGivenNames x2
              refine Fr.cut x2 ?_ (fun h2 => ?_)
              · unfold x2
                refine Fr.step State.fire_fr rfl rfl ?_
                refine Fr.step State.abortDown_fr rfl rfl ?_
                first | assumption | exact Fr.refl _
              try clear_value x2
              refine Fr.iteh (fun _ => ?_) (fun _ => ?_)
              · first | assumption | exact Fr.refl _
              · refine Fr.step State.pwrGo_fr rfl rfl ?_
                first | assumption | exact Fr.refl _
          · refine Fr.step (State.werr_0x2001 (by omega)) rfl rfl ?_
            first | assumption | exact Fr.refl _
        · refine Fr.step (State.werr_0x2001 (by omega)) rfl rfl ?_
          first | assumption | exact Fr.refl _

theorem execPwrQuiesceDone_fr {s} : FrRes ([⟨17186226583, 17186257303, 2048, 0⟩, ⟨17186226582, 17186257302, 2048, 0⟩, ⟨17186226576, 17186257296, 2048, 0⟩, ⟨17186226568, 17186257288, 2048, 0⟩, ⟨17186226560, 17186257280, 2048, 0⟩, ⟨17186226581, 17186257301, 2048, 0⟩, ⟨17186226816, 17186257536, 2048, 0⟩, ⟨17186226584, 17186257304, 2048, 0⟩, ⟨17226006528, 17228103679, 1, 0⟩, ⟨17184063616, 17186168831, 1, 0⟩, ⟨17181966336, 17181966336, 1, 0⟩, ⟨17181967360, 17181967360, 1, 0⟩, ⟨17181966338, 17181966338, 1, 0⟩, ⟨17181966495, 17181966495, 1, 0⟩, ⟨17186168832, 17186169247, 1, 0⟩, ⟨17198743552, 17200840703, 1, 0⟩, ⟨17230200832, 17232297983, 1, 0⟩, ⟨17200840704, 17202937855, 1, 0⟩, ⟨17202937856, 17205035007, 1, 0⟩, ⟨17205035008, 17207132159, 1, 0⟩, ⟨17207132160, 17209229311, 1, 0⟩, ⟨17209229312, 17211326463, 1, 0⟩, ⟨17211326464, 17213423615, 1, 0⟩, ⟨17213423616, 17215520767, 1, 0⟩, ⟨17215520768, 17217617919, 1, 0⟩, ⟨17217617920, 17219715071, 1, 0⟩, ⟨17219715072, 17221812223, 1, 0⟩, ⟨17223909376, 17226006527, 1, 0⟩, ⟨17190354944, 17192452095, 1, 0⟩, ⟨17228103680, 17230200831, 1, 0⟩] ++ [⟨17181967232, 17181967263, 1, 0⟩, ⟨17194549248, 17198743551, 1, 0⟩, ⟨17186169856, 17186226175, 1, 0⟩, ⟨17188257792, 17190354943, 1, 0⟩, ⟨17179869184, 17180000255, 1, 0⟩, ⟨17221812224, 17223909375, 1, 0⟩, ⟨17192452096, 17194549247, 1, 0⟩]) [.evc, .flt, .live, .ident, .sa, .pwr, .tl, .layer, .maskin, .peri, .ft, .lane, .hlth, .lsc, .thm, .cal, .net, .time, .pair, .cvu, .win, .free, .safe, .mem, .memc] s (execPwrQuiesceDone s) := by
  unfold execPwrQuiesceDone
  refine FrRes.next ?_
  split
  · refine Fr.iteh (fun _ => ?_) (fun _ => ?_)
    · first | assumption | exact Fr.refl _
    · refine Fr.step State.domainLost_fr rfl rfl ?_
      refine Fr.set_pwr rfl ?_
      first | assumption | exact Fr.refl _
  · refine Fr.iteh (fun _ => ?_) (fun _ => ?_)
    · refine Fr.foldl' ?_ (fun t x hx ht => ?_)
      · refine Fr.set_pwr rfl ?_
        first | assumption | exact Fr.refl _
      · refine Fr.step State.domainLost_fr rfl rfl ?_
        first | assumption | exact Fr.refl _
    · first | assumption | exact Fr.refl _

theorem execPowerDownDone_fr {s} : FrRes ([⟨17181966336, 17181966336, 1, 0⟩, ⟨17181967360, 17181967360, 1, 0⟩, ⟨17186226581, 17186257301, 2048, 0⟩, ⟨17181966338, 17181966338, 1, 0⟩, ⟨17181966495, 17181966495, 1, 0⟩, ⟨17186168832, 17186169247, 1, 0⟩, ⟨17181966592, 17181966622, 2, 0⟩, ⟨17181966720, 17181966750, 2, 0⟩, ⟨17186226583, 17186257303, 2048, 0⟩, ⟨17186226582, 17186257302, 2048, 0⟩, ⟨17186226576, 17186257296, 2048, 0⟩, ⟨17186226568, 17186257288, 2048, 0⟩, ⟨17186226560, 17186257280, 2048, 0⟩, ⟨17186226816, 17186257536, 2048, 0⟩, ⟨17186226584, 17186257304, 2048, 0⟩, ⟨17226006528, 17228103679, 1, 0⟩, ⟨17184063616, 17186168831, 1, 0⟩, ⟨17198743552, 17200840703, 1, 0⟩, ⟨17230200832, 17232297983, 1, 0⟩, ⟨17200840704, 17202937855, 1, 0⟩, ⟨17202937856, 17205035007, 1, 0⟩, ⟨17205035008, 17207132159, 1, 0⟩, ⟨17207132160, 17209229311, 1, 0⟩, ⟨17209229312, 17211326463, 1, 0⟩, ⟨17211326464, 17213423615, 1, 0⟩, ⟨17213423616, 17215520767, 1, 0⟩, ⟨17215520768, 17217617919, 1, 0⟩, ⟨17217617920, 17219715071, 1, 0⟩, ⟨17219715072, 17221812223, 1, 0⟩, ⟨17223909376, 17226006527, 1, 0⟩] ++ [⟨17190354944, 17192452095, 1, 0⟩, ⟨17228103680, 17230200831, 1, 0⟩, ⟨17181967232, 17181967263, 1, 0⟩, ⟨17194549248, 17198743551, 1, 0⟩, ⟨17186169856, 17186226175, 1, 0⟩, ⟨17188257792, 17190354943, 1, 0⟩, ⟨17179869184, 17180000255, 1, 0⟩, ⟨17221812224, 17223909375, 1, 0⟩, ⟨17192452096, 17194549247, 1, 0⟩]) [.pwr, .flt, .evc, .live, .ident, .sa, .tl, .layer, .maskin, .peri, .ft, .lane, .hlth, .lsc, .thm, .cal, .net, .time, .pair, .cvu, .win, .free, .safe, .mem, .memc] s (execPowerDownDone s) := by
  unfold execPowerDownDone
  refine FrRes.next ?_
  split
  · first | assumption | exact Fr.refl _
  · refine Fr.iteh (fun _ => ?_) (fun _ => ?_)
    · first | assumption | exact Fr.refl _
    · extract_lets -merge -underBinder +onlyGivenNames x0
      extract_lets -merge -underBinder +onlyGivenNames x1
      refine Fr.cut x1 ?_ (fun h1 => ?_)
      · unfold x1
        refine Fr.step State.domainDown_fr rfl rfl ?_
        refine Fr.set_pwr rfl ?_
        first | assumption | exact Fr.refl _
      try clear_value x1
      refine Fr.step State.pwrIdle_fr rfl rfl ?_
      refine Fr.iteh (fun _ => ?_) (fun _ => ?_)
      · refine Fr.step State.startWake_fr rfl rfl ?_
        first | assumption | exact Fr.refl _
      · first | assumption | exact Fr.refl _

theorem State.logicReset_fr {s} : Fr [⟨0, 137438953471, 1, 0⟩] [.part, .sa, .layer, .maskin, .ft, .tl, .lane, .hlth, .lsc, .thm, .cal, .time, .net, .safe, .flt, .evc, .peri, .cvu, .memc, .win, .pair, .pwr, .ident, .live] s (State.logicReset s) := by
  unfold State.logicReset
  refine Fr.wrAll rfl ⟨fun k h0 hk => ?_, fun z hz => ?_, rfl, rfl, fun hw => ?_⟩
  · exact absurd (Keys.all_has h0) (by rw [hk _ (List.mem_singleton_self _)]; exact Bool.false_ne_true)
  · cases z <;> first | exact absurd (by decide) hz | simp [State.sameIn]
  · have := (State.wf_iff _).1 hw
    exact (State.wf_iff _).2 ⟨RegFile.wf_filter _ _ this.1, rfl, this.2.2⟩

theorem State.setDoms_fr {s} {a1} : Fr [⟨17181966592, 17181966622, 2, 0⟩, ⟨17181966720, 17181966750, 2, 0⟩] [] s (State.setDoms s a1) := by
  unfold State.setDoms
  refine Fr.forFin ?_ (fun i t ht => ?_)
  · first | assumption | exact Fr.refl _
  · refine Fr.wr (xs := [⟨17181966592, 17181966622, 2, 0⟩, ⟨17181966720, 17181966750, 2, 0⟩]) domFld_key rfl ?_
    first | assumption | exact Fr.refl _

theorem State.allOff_fr {s en0} : Fr [⟨0, 137438953471, 1, 0⟩] [.part, .sa, .layer, .maskin, .ft, .tl, .lane, .hlth, .lsc, .thm, .cal, .time, .net, .safe, .flt, .evc, .peri, .cvu, .memc, .win, .pair, .pwr, .ident, .live, .mem] s (State.allOff s en0) := by
  unfold State.allOff
  extract_lets +onlyGivenNames x0
  refine Fr.cut x0 ?_ (fun h0 => ?_)
  · unfold x0
    exact Fr.step State.loseDram_fr rfl rfl (Fr.step State.setDoms_fr rfl rfl (Fr.step State.logicReset_fr rfl rfl (Fr.refl s)))
  clear_value x0
  extract_lets +onlyGivenNames x1
  refine Fr.cut x1 ?_ (fun h1 => ?_)
  · refine ⟨h0.regs, fun z hz => State.sameIn_trans (h0.zones z hz) ?_, h0.now, h0.pending, fun hw => ?_⟩
    · cases z <;> first | exact absurd (by decide) hz | simp [State.sameIn, x1]
    · have := (State.wf_iff _).1 (h0.wf hw)
      exact (State.wf_iff _).2 ⟨this.1, this.2.1, rfl⟩
  clear_value x1
  exact Fr.wrAll rfl (Fr.wrAll rfl (Fr.wrAll rfl (Fr.wrAll rfl h1)))

theorem State.setWake_fr {s} {a1} {a2} : Fr [] [.pwr] s (State.setWake s a1 a2) := by
  unfold State.setWake
  refine Fr.set_pwr rfl ?_
  first | assumption | exact Fr.refl _

theorem State.releaseRail_fr {s} {a1} : Fr [⟨17181967360, 17181967360, 1, 0⟩] [] s (State.releaseRail s a1) := by
  unfold State.releaseRail
  refine Fr.iteh (fun _ => ?_) (fun _ => ?_)
  · refine Fr.step State.setPmic_fr rfl rfl ?_
    first | assumption | exact Fr.refl _
  · first | assumption | exact Fr.refl _

theorem State.stepDone_fr {s} {a1} : Fr [⟨17181967364, 17181967364, 1, 0⟩, ⟨17184063876, 17184063876, 1, 0⟩, ⟨17184063875, 17184063875, 1, 0⟩, ⟨17184063877, 17184063877, 1, 0⟩, ⟨17184063874, 17184063874, 1, 0⟩] [.pwr, .sa, .layer, .mem] s (State.stepDone s a1) := by
  unfold State.stepDone
  extract_lets -merge -underBinder +onlyGivenNames x0
  try clear_value (e0 : x0 = _)
  extract_lets -merge -underBinder +onlyGivenNames x1
  refine Fr.cut x1 ?_ (fun h1 => ?_)
  · unfold x1
    refine Fr.iteh (fun _ => ?_) (fun _ => ?_)
    · refine Fr.wr (xs := [⟨17181967364, 17181967364, 1, 0⟩]) rfl rfl ?_
      first | assumption | exact Fr.refl _
    · first | assumption | exact Fr.refl _
  try clear_value x1
  extract_lets -merge -underBinder +onlyGivenNames x2
  refine Fr.cut x2 ?_ (fun h2 => ?_)
  · unfold x2
    refine Fr.iteh (fun _ => ?_) (fun _ => ?_)
    · refine Fr.wr (xs := [⟨17184063876, 17184063876, 1, 0⟩]) rfl rfl ?_
      refine Fr.wr (xs := [⟨17184063875, 17184063875, 1, 0⟩]) rfl rfl ?_
      first | assumption | exact Fr.refl _
    · first | assumption | exact Fr.refl _
  try clear_value x2
  extract_lets -merge -underBinder +onlyGivenNames x3
  refine Fr.cut x3 ?_ (fun h3 => ?_)
  · unfold x3
    refine Fr.wr (xs := [⟨17184063877, 17184063877, 1, 0⟩]) rfl rfl ?_
    refine Fr.wr (xs := [⟨17184063874, 17184063874, 1, 0⟩]) rfl rfl ?_
    first | assumption | exact Fr.refl _
  try clear_value x3
  extract_lets -merge -underBinder +onlyGivenNames x4
  extract_lets -merge -underBinder +onlyGivenNames x5
  refine Fr.cut x5 ?_ (fun h5 => ?_)
  · unfold x5
    refine Fr.iteh (fun _ => ?_) (fun _ => ?_)
    · refine Fr.set_pwr rfl ?_
      first | assumption | exact Fr.refl _
    · first | assumption | exact Fr.refl _
  try clear_value x5
  refine Fr.iteh (fun _ => ?_) (fun _ => ?_)
  · refine Fr.step State.wipeDomain_fr rfl rfl ?_
    first | assumption | exact Fr.refl _
  · first | assumption | exact Fr.refl _

theorem State.wakeEnds_fr {s} {a1} : Fr [⟨17181966495, 17181966495, 1, 0⟩, ⟨17181966336, 17181966336, 1, 0⟩, ⟨17181967360, 17181967360, 1, 0⟩, ⟨17186226581, 17186257301, 2048, 0⟩, ⟨17181966338, 17181966338, 1, 0⟩, ⟨17186168832, 17186169247, 1, 0⟩, ⟨17181966592, 17181966622, 2, 0⟩, ⟨17181966720, 17181966750, 2, 0⟩, ⟨17192452224, 17192452224, 1, 0⟩] [.pwr, .evc, .flt, .peri] s (State.wakeEnds s a1) := by
  unfold State.wakeEnds
  extract_lets -merge -underBinder +onlyGivenNames x0
  refine Fr.cut x0 ?_ (fun h0 => ?_)
  · unfold x0
    refine Fr.step State.setWake_fr rfl rfl ?_
    first | assumption | exact Fr.refl _
  try clear_value x0
  refine Fr.step State.pwrIdle_fr rfl rfl ?_
  refine Fr.step State.bootE0_fr rfl rfl ?_
  refine Fr.iteh (fun _ => ?_) (fun _ => ?_)
  · refine Fr.step State.domainUp_fr rfl rfl ?_
    first | assumption | exact Fr.refl _
  · refine Fr.step State.setDom_fr rfl rfl ?_
    first | assumption | exact Fr.refl _

theorem execWakeStepReady_fr {a0} {s} : FrRes [⟨17181966495, 17181966495, 1, 0⟩, ⟨17181966336, 17181966336, 1, 0⟩, ⟨17181967364, 17181967364, 1, 0⟩, ⟨17184063876, 17184063876, 1, 0⟩, ⟨17184063875, 17184063875, 1, 0⟩, ⟨17184063877, 17184063877, 1, 0⟩, ⟨17184063874, 17184063874, 1, 0⟩, ⟨17181967360, 17181967360, 1, 0⟩, ⟨17186226581, 17186257301, 2048, 0⟩, ⟨17181966338, 17181966338, 1, 0⟩, ⟨17186168832, 17186169247, 1, 0⟩, ⟨17181966592, 17181966622, 2, 0⟩, ⟨17181966720, 17181966750, 2, 0⟩, ⟨17192452224, 17192452224, 1, 0⟩] [.pwr, .evc, .sa, .layer, .mem, .flt, .peri] s (execWakeStepReady a0 s) := by
  unfold execWakeStepReady
  refine FrRes.next ?_
  split
  · first | assumption | exact Fr.refl _
  · refine Fr.iteh (fun _ => ?_) (fun _ => ?_)
    · first | assumption | exact Fr.refl _
    · refine Fr.iteh (fun _ => ?_) (fun _ => ?_)
      · refine Fr.step State.pwrIdle_fr rfl rfl ?_
        refine Fr.step State.bootE0_fr rfl rfl ?_
        refine Fr.step State.setWake_fr rfl rfl ?_
        refine Fr.step State.stepDone_fr rfl rfl ?_
        first | assumption | exact Fr.refl _
      · refine Fr.iteh (fun _ => ?_) (fun _ => ?_)
        · refine Fr.step State.setWake_fr rfl rfl ?_
          refine Fr.step State.stepDone_fr rfl rfl ?_
          first | assumption | exact Fr.refl _
        · refine Fr.iteh (fun _ => ?_) (fun _ => ?_)
          · refine Fr.step State.wakeEnds_fr rfl rfl ?_
            first | assumption | exact Fr.refl _
          · first | assumption | exact Fr.refl _

theorem execWakeStepTimeout_fr {a0} {s} : FrRes [⟨0, 137438953471, 1, 0⟩] [.pwr, .part, .sa, .layer, .maskin, .ft, .tl, .lane, .hlth, .lsc, .thm, .cal, .time, .net, .safe, .flt, .evc, .peri, .cvu, .memc, .win, .pair, .ident, .live, .mem, .free] s (execWakeStepTimeout a0 s) := by
  unfold execWakeStepTimeout
  refine FrRes.next ?_
  split
  · first | assumption | exact Fr.refl _
  · refine Fr.iteh (fun _ => ?_) (fun _ => ?_)
    · first | assumption | exact Fr.refl _
    · refine Fr.iteh (fun _ => ?_) (fun _ => ?_)
      · extract_lets -merge -underBinder +onlyGivenNames x0
        refine Fr.cut x0 ?_ (fun h0 => ?_)
        · unfold x0
          refine Fr.step State.setWake_fr rfl rfl ?_
          first | assumption | exact Fr.refl _
        try clear_value x0
        refine Fr.iteh (fun _ => ?_) (fun _ => ?_)
        · refine Fr.step State.setPmic_fr rfl rfl ?_
          first | assumption | exact Fr.refl _
        · first | assumption | exact Fr.refl _
      · refine Fr.iteh (fun _ => ?_) (fun _ => ?_)
        · extract_lets -merge -underBinder +onlyGivenNames x1
          refine Fr.cut x1 ?_ (fun h1 => ?_)
          · unfold x1
            refine Fr.step State.allOff_fr rfl rfl ?_
            first | assumption | exact Fr.refl _
          try clear_value x1
          extract_lets -merge -underBinder +onlyGivenNames x2
          extract_lets -merge -underBinder +onlyGivenNames x3
          refine Fr.cut x3 ?_ (fun h3 => ?_)
          · unfold x3
            refine Fr.set_pwr rfl ?_
            first | assumption | exact Fr.refl _
          try clear_value x3
          refine Fr.wr (xs := [⟨17188257922, 17188257922, 1, 0⟩]) rfl rfl ?_
          refine Fr.wr (xs := [⟨17188257923, 17188257923, 1, 0⟩]) rfl rfl ?_
          refine Fr.wr (xs := [⟨17181966339, 17181966339, 1, 0⟩]) rfl rfl ?_
          first | assumption | exact Fr.refl _
        · extract_lets -merge -underBinder +onlyGivenNames x4
          refine Fr.cut x4 ?_ (fun h4 => ?_)
          · unfold x4
            refine Fr.wr (xs := [⟨17181966344, 17181966344, 1, 0⟩]) rfl rfl ?_
            refine Fr.wr (xs := [⟨17181966349, 17181966349, 1, 0⟩]) rfl rfl ?_
            refine Fr.step State.domFails_fr rfl rfl ?_
            refine Fr.step State.wipeDomain_fr rfl rfl ?_
            refine Fr.step State.setWake_fr rfl rfl ?_
            first | assumption | exact Fr.refl _
          try clear_value x4
          extract_lets -merge -underBinder +onlyGivenNames x5
          refine Fr.cut x5 ?_ (fun h5 => ?_)
          · unfold x5
            refine Fr.iteh (fun _ => ?_) (fun _ => ?_)
            · refine Fr.step State.dramOff_fr rfl rfl ?_
              first | assumption | exact Fr.refl _
            · first | assumption | exact Fr.refl _
          try clear_value x5
          extract_lets -merge -underBinder +onlyGivenNames x6
          refine Fr.cut x6 ?_ (fun h6 => ?_)
          · unfold x6
            refine Fr.step State.releaseRail_fr rfl rfl ?_
            first | assumption | exact Fr.refl _
          try clear_value x6
          extract_lets -merge -underBinder +onlyGivenNames x7
          refine Fr.cut x7 ?_ (fun h7 => ?_)
          · unfold x7
            refine Fr.iteh (fun _ => ?_) (fun _ => ?_)
            · refine Fr.wr (xs := [⟨17184063876, 17184063876, 1, 0⟩]) rfl rfl ?_
              refine Fr.wr (xs := [⟨17184063875, 17184063875, 1, 0⟩]) rfl rfl ?_
              first | assumption | exact Fr.refl _
            · first | assumption | exact Fr.refl _
          try clear_value x7
          refine Fr.step State.pwrIdle_fr rfl rfl ?_
          refine Fr.step State.bootE0_fr rfl rfl ?_
          refine Fr.step State.raise_fr rfl rfl ?_
          refine Fr.step State.fire_fr rfl rfl ?_
          first | assumption | exact Fr.refl _

theorem execWakeStepRestart_fr {a0} {s} : FrRes [⟨17181967360, 17181967360, 1, 0⟩] [.pwr] s (execWakeStepRestart a0 s) := by
  unfold execWakeStepRestart
  refine FrRes.next ?_
  split
  · first | assumption | exact Fr.refl _
  · refine Fr.iteh (fun _ => ?_) (fun _ => ?_)
    · first | assumption | exact Fr.refl _
    · extract_lets -merge -underBinder +onlyGivenNames x0
      refine Fr.cut x0 ?_ (fun h0 => ?_)
      · unfold x0
        refine Fr.step State.setWake_fr rfl rfl ?_
        first | assumption | exact Fr.refl _
      try clear_value x0
      refine Fr.iteh (fun _ => ?_) (fun _ => ?_)
      · refine Fr.step State.setPmic_fr rfl rfl ?_
        first | assumption | exact Fr.refl _
      · first | assumption | exact Fr.refl _

theorem execStandbyRequest_fr {a0} {a1} {s} : FrRes [⟨17181967104, 17181967135, 32, 31⟩, ⟨17181966337, 17181966337, 1, 0⟩, ⟨17181966336, 17181966336, 1, 0⟩, ⟨17181967360, 17181967360, 1, 0⟩, ⟨17186226581, 17186257301, 2048, 0⟩, ⟨17181966338, 17181966338, 1, 0⟩, ⟨17181966495, 17181966495, 1, 0⟩, ⟨17186168832, 17186169247, 1, 0⟩, ⟨17188261632, 17188261632, 1, 0⟩, ⟨17181967232, 17181967263, 1, 0⟩] [.flt, .evc, .pwr, .pair] s (execStandbyRequest a0 a1 s) := by
  unfold execStandbyRequest
  refine FrRes.next ?_
  refine busWrite_fr (x := ⟨17181967104, 17181967135, 32, 31⟩) (Keys.word_intro (by first | omega | (omega)) (by first | omega | (omega)) (by first | omega | (omega))) (fun u => State.werr_0x2001 (by omega)) rfl rfl ?_ (fun t ht => ?_)
  · first | assumption | exact Fr.refl _
  · refine Fr.iteh (fun _ => ?_) (fun _ => ?_)
    · first | assumption | exact Fr.refl _
    · refine Fr.iteh (fun _ => ?_) (fun _ => ?_)
      · refine Fr.step (State.werr_0x2001 (by omega)) rfl rfl ?_
        first | assumption | exact Fr.refl _
      · extract_lets -merge -underBinder +onlyGivenNames x0
        refine Fr.cut x0 ?_ (fun h0 => ?_)
        · unfold x0
          refine Fr.wr (xs := [⟨17181966336, 17181966336, 1, 0⟩]) rfl rfl ?_
          refine Fr.wr (xs := [⟨17181967104, 17181967104, 1, 0⟩]) rfl rfl ?_
          first | assumption | exact Fr.refl _
        try clear_value x0
        refine Fr.set_pwr rfl ?_
        first | assumption | exact Fr.refl _

theorem State.wipeOn_fr {s} {a1} : Fr [] [.sa, .layer, .mem] s (State.wipeOn s a1) := by
  unfold State.wipeOn
  refine Fr.forFin ?_ (fun i t ht => ?_)
  · first | assumption | exact Fr.refl _
  · refine Fr.iteh (fun _ => ?_) (fun _ => ?_)
    · first | assumption | exact Fr.refl _
    · refine Fr.step State.wipeDomain_fr rfl rfl ?_
      first | assumption | exact Fr.refl _

theorem State.showRails_fr {s} : Fr [⟨17181967360, 17181967360, 1, 0⟩] [] s (State.showRails s) := by
  unfold State.showRails
  refine Fr.wr (xs := [⟨17181967360, 17181967360, 1, 0⟩]) rfl rfl ?_
  first | assumption | exact Fr.refl _

theorem State.chipReset_fr {s} {a1} {a2} : Fr [⟨0, 137438953471, 1, 0⟩] [.sa, .layer, .mem, .part, .maskin, .ft, .tl, .lane, .hlth, .lsc, .thm, .cal, .time, .net, .safe, .flt, .evc, .peri, .cvu, .memc, .win, .pair, .pwr, .ident, .live, .free] s (State.chipReset s a1 a2) := by
  unfold State.chipReset
  extract_lets -merge -underBinder +onlyGivenNames x0
  try clear_value x0
  extract_lets -merge -underBinder +onlyGivenNames x1
  try clear_value x1
  extract_lets -merge -underBinder +onlyGivenNames x2
  try clear_value x2
  extract_lets -merge -underBinder +onlyGivenNames x3
  refine Fr.cut x3 ?_ (fun h3 => ?_)
  · unfold x3
    refine Fr.step State.wipeOn_fr rfl rfl ?_
    first | assumption | exact Fr.refl _
  try clear_value x3
  extract_lets -merge -underBinder +onlyGivenNames x4
  refine Fr.cut x4 ?_ (fun h4 => ?_)
  · unfold x4
    refine Fr.step State.keepQuads_fr rfl rfl ?_
    refine Fr.step State.showRails_fr rfl rfl ?_
    refine Fr.step State.setDoms_fr rfl rfl ?_
    refine Fr.step State.logicReset_fr rfl rfl ?_
    first | assumption | exact Fr.refl _
  try clear_value x4
  extract_lets -merge -underBinder +onlyGivenNames x5
  refine Fr.cut x5 ?_ (fun h5 => ?_)
  · unfold x5
    refine Fr.iteh (fun _ => ?_) (fun _ => ?_)
    · refine Fr.wr (xs := [⟨17192452224, 17192452224, 1, 0⟩]) rfl rfl ?_
      first | assumption | exact Fr.refl _
    · refine Fr.step State.loseDram_fr rfl rfl ?_
      first | assumption | exact Fr.refl _
  try clear_value x5
  extract_lets -merge -underBinder +onlyGivenNames x6
  refine Fr.cut x6 ?_ (fun h6 => ?_)
  · unfold x6
    refine Fr.wr (xs := [⟨17184063499, 17184063499, 1, 0⟩]) rfl rfl ?_
    refine Fr.wr (xs := [⟨17184063492, 17184063492, 1, 0⟩]) rfl rfl ?_
    refine Fr.wr (xs := [⟨17184063488, 17184063488, 1, 0⟩]) rfl rfl ?_
    first | assumption | exact Fr.refl _
  try clear_value x6
  extract_lets -merge -underBinder +onlyGivenNames x7
  refine Fr.cut x7 ?_ (fun h7 => ?_)
  · unfold x7
    refine Fr.wr (xs := [⟨17181967104, 17181967104, 1, 0⟩]) rfl rfl ?_
    refine Fr.wr (xs := [⟨17181966495, 17181966495, 1, 0⟩]) rfl rfl ?_
    refine Fr.wr (xs := [⟨17181966336, 17181966336, 1, 0⟩]) rfl rfl ?_
    first | assumption | exact Fr.refl _
  try clear_value x7
  extract_lets -merge -underBinder +onlyGivenNames x8
  refine Fr.cut x8 ?_ (fun h8 => ?_)
  · unfold x8
    refine Fr.wr (xs := [⟨17188257922, 17188257922, 1, 0⟩]) rfl rfl ?_
    first | assumption | exact Fr.refl _
  try clear_value x8
  extract_lets -merge -underBinder +onlyGivenNames x9
  try clear_value x9
  extract_lets -merge -underBinder +onlyGivenNames x10
  refine Fr.cut x10 ?_ (fun h10 => ?_)
  · unfold x10
    refine Fr.wr (xs := [⟨17184063873, 17184063873, 1, 0⟩]) rfl rfl ?_
    refine Fr.step State.newNonce_fr rfl rfl ?_
    first | assumption | exact Fr.refl _
  try clear_value x10
  refine Fr.set_pwr_ident rfl ?_
  first | assumption | exact Fr.refl _

theorem State.holdReset_fr {s} : Fr [⟨0, 137438953471, 1, 0⟩] [.part, .sa, .layer, .maskin, .ft, .tl, .lane, .hlth, .lsc, .thm, .cal, .time, .net, .safe, .flt, .evc, .peri, .cvu, .memc, .win, .pair, .pwr, .ident, .live, .mem] s (State.holdReset s) := by
  unfold State.holdReset
  extract_lets -merge -underBinder +onlyGivenNames x0
  try clear_value (e0 : x0 = _)
  extract_lets -merge -underBinder +onlyGivenNames x1
  refine Fr.cut x1 ?_ (fun h1 => ?_)
  · unfold x1
    refine Fr.step State.allOff_fr rfl rfl ?_
    refine Fr.wr (xs := [⟨17211326468, 17211326468, 1, 0⟩]) rfl rfl ?_
    refine Fr.clearRegs rfl rfl ?_
    first | assumption | exact Fr.refl _
  try clear_value x1
  extract_lets -merge -underBinder +onlyGivenNames x2
  refine Fr.cut x2 ?_ (fun h2 => ?_)
  · unfold x2
    refine Fr.wr (xs := [⟨17181967364, 17181967364, 1, 0⟩]) rfl rfl ?_
    refine Fr.wr (xs := [⟨17184063492, 17184063492, 1, 0⟩]) rfl rfl ?_
    refine Fr.wr (xs := [⟨17184063488, 17184063488, 1, 0⟩]) rfl rfl ?_
    first | assumption | exact Fr.refl _
  try clear_value x2
  refine Fr.set_pwr rfl ?_
  first | assumption | exact Fr.refl _

theorem execPgoodFall_fr {a0} {a1} {s} : FrRes [⟨0, 137438953471, 1, 0⟩] [.part, .sa, .layer, .maskin, .ft, .tl, .lane, .hlth, .lsc, .thm, .cal, .time, .net, .safe, .flt, .evc, .peri, .cvu, .memc, .win, .pair, .pwr, .ident, .live, .mem, .free] s (execPgoodFall a0 a1 s) := by
  unfold execPgoodFall
  refine FrRes.next ?_
  extract_lets -merge -underBinder +onlyGivenNames x0
  try clear_value (e0 : x0 = _)
  extract_lets -merge -underBinder +onlyGivenNames x1
  refine Fr.cut x1 ?_ (fun h1 => ?_)
  · unfold x1
    refine Fr.wr (xs := [⟨17181967364, 17181967364, 1, 0⟩]) rfl rfl ?_
    first | assumption | exact Fr.refl _
  try clear_value x1
  refine Fr.iteh (fun _ => ?_) (fun _ => ?_)
  · refine Fr.iteh (fun _ => ?_) (fun _ => ?_)
    · first | assumption | exact Fr.refl _
    · refine Fr.step State.holdReset_fr rfl rfl ?_
      first | assumption | exact Fr.refl _
  · extract_lets -merge -underBinder +onlyGivenNames x2
    try clear_value (e2 : x2 = _)
    refine Fr.iteh (fun _ => ?_) (fun _ => ?_)
    · first | assumption | exact Fr.refl _
    · extract_lets -merge -underBinder +onlyGivenNames x3
      extract_lets -merge -underBinder +onlyGivenNames x4
      refine Fr.cut x4 ?_ (fun h4 => ?_)
      · unfold x4
        refine Fr.set_pwr rfl ?_
        first | assumption | exact Fr.refl _
      try clear_value x4
      extract_lets -merge -underBinder +onlyGivenNames x5
      refine Fr.cut x5 ?_ (fun h5 => ?_)
      · unfold x5
        refine Fr.wr (xs := [⟨17181966344, 17181966344, 1, 0⟩]) rfl rfl ?_
        refine Fr.step State.setDom_fr rfl rfl ?_
        refine Fr.step State.domainLost_fr rfl rfl ?_
        refine Fr.step State.setWake_fr rfl rfl ?_
        first | assumption | exact Fr.refl _
      try clear_value x5
      extract_lets -merge -underBinder +onlyGivenNames x6
      refine Fr.cut x6 ?_ (fun h6 => ?_)
      · unfold x6
        refine Fr.iteh (fun _ => ?_) (fun _ => ?_)
        · refine Fr.step State.dramOff_fr rfl rfl ?_
          first | assumption | exact Fr.refl _
        · first | assumption | exact Fr.refl _
      try clear_value x6
      extract_lets -merge -underBinder +onlyGivenNames x7
      refine Fr.cut x7 ?_ (fun h7 => ?_)
      · unfold x7
        refine Fr.iteh (fun _ => ?_) (fun _ => ?_)
        · refine Fr.step State.xingLost_fr rfl rfl ?_
          first | assumption | exact Fr.refl _
        · first | assumption | exact Fr.refl _
      try clear_value x7
      refine Fr.step State.pwrIdle_fr rfl rfl ?_
      refine Fr.step State.raise_fr rfl rfl ?_
      refine Fr.step State.fire_fr rfl rfl ?_
      first | assumption | exact Fr.refl _

theorem execVmonExcursion_fr {a0} {s} : FrRes [⟨0, 137438953471, 1, 0⟩] [.part, .sa, .layer, .maskin, .ft, .tl, .lane, .hlth, .lsc, .thm, .cal, .time, .net, .safe, .flt, .evc, .peri, .cvu, .memc, .win, .pair, .pwr, .ident, .live, .mem] s (execVmonExcursion a0 s) := by
  unfold execVmonExcursion
  refine FrRes.next ?_
  refine Fr.iteh (fun _ => ?_) (fun _ => ?_)
  · refine Fr.iteh (fun _ => ?_) (fun _ => ?_)
    · first | assumption | exact Fr.refl _
    · refine Fr.step State.holdReset_fr rfl rfl ?_
      first | assumption | exact Fr.refl _
  · refine Fr.iteh (fun _ => ?_) (fun _ => ?_)
    · first | assumption | exact Fr.refl _
    · refine Fr.step State.raise_fr rfl rfl ?_
      first | assumption | exact Fr.refl _

theorem State.coldBegin_fr {s} {a1} : Fr [⟨0, 137438953471, 1, 0⟩] [.free, .part, .sa, .layer, .maskin, .ft, .tl, .lane, .hlth, .lsc, .thm, .cal, .time, .net, .safe, .flt, .evc, .peri, .cvu, .memc, .win, .pair, .pwr, .ident, .live, .mem] s (State.coldBegin s a1) := by
  unfold State.coldBegin
  extract_lets -merge -underBinder +onlyGivenNames x0
  refine Fr.cut x0 ?_ (fun h0 => ?_)
  · unfold x0
    refine Fr.step State.newNonce_fr rfl rfl ?_
    refine Fr.step State.allOff_fr rfl rfl ?_
    first | assumption | exact Fr.refl _
  try clear_value x0
  extract_lets -merge -underBinder +onlyGivenNames x1
  refine Fr.cut x1 ?_ (fun h1 => ?_)
  · unfold x1
    refine Fr.wr (xs := [⟨17184063499, 17184063499, 1, 0⟩]) rfl rfl ?_
    refine Fr.wr (xs := [⟨17184063492, 17184063492, 1, 0⟩]) rfl rfl ?_
    refine Fr.wr (xs := [⟨17184063488, 17184063488, 1, 0⟩]) rfl rfl ?_
    first | assumption | exact Fr.refl _
  try clear_value x1
  refine Fr.set_pwr_ident rfl ?_
  first | assumption | exact Fr.refl _

theorem execStandbyEntry_fr {s} : FrRes [⟨0, 137438953471, 1, 0⟩] [.part, .sa, .layer, .maskin, .ft, .tl, .lane, .hlth, .lsc, .thm, .cal, .time, .net, .safe, .flt, .evc, .peri, .cvu, .memc, .win, .pair, .pwr, .ident, .live, .mem, .free] s (execStandbyEntry s) := by
  unfold execStandbyEntry
  refine FrRes.next ?_
  refine Fr.iteh (fun _ => ?_) (fun _ => ?_)
  · first | assumption | exact Fr.refl _
  · extract_lets -merge -underBinder +onlyGivenNames x0
    refine Fr.cut x0 ?_ (fun h0 => ?_)
    · unfold x0
      refine Fr.wr (xs := [⟨17181967104, 17181967104, 1, 0⟩]) rfl rfl ?_
      refine Fr.step State.allOff_fr rfl rfl ?_
      first | assumption | exact Fr.refl _
    try clear_value x0
    split
    · refine Fr.set_pwr rfl ?_
      first | assumption | exact Fr.refl _
    · refine Fr.wr (xs := [⟨17181967109, 17181967109, 1, 0⟩, ⟨17181967110, 17181967110, 1, 0⟩]) (Keys.any_ite (xs := [⟨17181967109, 17181967109, 1, 0⟩]) (ys := [⟨17181967110, 17181967110, 1, 0⟩]) rfl rfl) rfl ?_
      refine Fr.wr (xs := [⟨17184063499, 17184063499, 1, 0⟩]) rfl rfl ?_
      refine Fr.step State.coldBegin_fr rfl rfl ?_
      first | assumption | exact Fr.refl _

theorem execWakePinEdge_fr {a0} {a1} {s} : FrRes [⟨0, 137438953471, 1, 0⟩] [.pwr, .flt, .evc, .free, .part, .sa, .layer, .maskin, .ft, .tl, .lane, .hlth, .lsc, .thm, .cal, .time, .net, .safe, .peri, .cvu, .memc, .win, .pair, .ident, .live, .mem] s (execWakePinEdge a0 a1 s) := by
  unfold execWakePinEdge
  refine FrRes.next ?_
  extract_lets -merge -underBinder +onlyGivenNames x0
  try clear_value (e0 : x0 = _)
  refine Fr.iteh (fun _ => ?_) (fun _ => ?_)
  · first | assumption | exact Fr.refl _
  · split
    · first | assumption | exact Fr.refl _
    · refine Fr.step State.fire_fr rfl rfl ?_
      refine Fr.step State.resumed_fr rfl rfl ?_
      refine Fr.wr (xs := [⟨17181966338, 17181966338, 1, 0⟩]) rfl rfl ?_
      refine Fr.wr (xs := [⟨17181967104, 17181967104, 1, 0⟩]) rfl rfl ?_
      refine Fr.step State.pwrIdle_fr rfl rfl ?_
      refine Fr.set_pwr rfl ?_
      first | assumption | exact Fr.refl _
    · refine Fr.set_pwr rfl ?_
      first | assumption | exact Fr.refl _
    · refine Fr.wr (xs := [⟨17181967109, 17181967109, 1, 0⟩, ⟨17181967110, 17181967110, 1, 0⟩]) (Keys.any_ite (xs := [⟨17181967109, 17181967109, 1, 0⟩]) (ys := [⟨17181967110, 17181967110, 1, 0⟩]) rfl rfl) rfl ?_
      refine Fr.wr (xs := [⟨17184063499, 17184063499, 1, 0⟩]) rfl rfl ?_
      refine Fr.step State.coldBegin_fr rfl rfl ?_
      first | assumption | exact Fr.refl _

theorem State.wakeThrough_fr {s} {a1} : Fr [⟨17181967364, 17181967364, 1, 0⟩, ⟨17184063876, 17184063876, 1, 0⟩, ⟨17184063875, 17184063875, 1, 0⟩, ⟨17184063877, 17184063877, 1, 0⟩, ⟨17184063874, 17184063874, 1, 0⟩, ⟨17181966495, 17181966495, 1, 0⟩, ⟨17181966336, 17181966336, 1, 0⟩, ⟨17181967360, 17181967360, 1, 0⟩, ⟨17186226581, 17186257301, 2048, 0⟩, ⟨17181966338, 17181966338, 1, 0⟩, ⟨17186168832, 17186169247, 1, 0⟩, ⟨17181966592, 17181966622, 2, 0⟩, ⟨17181966720, 17181966750, 2, 0⟩, ⟨17192452224, 17192452224, 1, 0⟩] [.pwr, .sa, .layer, .mem, .evc, .flt, .peri] s (State.wakeThrough s a1) := by
  unfold State.wakeThrough
  extract_lets -merge -underBinder +onlyGivenNames x0
  refine Fr.cut x0 ?_ (fun h0 => ?_)
  · unfold x0
    refine Fr.foldl' ?_ (fun t x hx ht => ?_)
    · first | assumption | exact Fr.refl _
    · refine Fr.iteh (fun _ => ?_) (fun _ => ?_)
      · refine Fr.step State.stepDone_fr rfl rfl ?_
        first | assumption | exact Fr.refl _
      · first | assumption | exact Fr.refl _
  try clear_value x0
  refine Fr.iteh (fun _ => ?_) (fun _ => ?_)
  · refine Fr.step State.wakeEnds_fr rfl rfl ?_
    first | assumption | exact Fr.refl _
  · first | assumption | exact Fr.refl _

theorem execColdStart_fr {s} : FrRes [⟨0, 137438953471, 1, 0⟩] [.free, .part, .sa, .layer, .maskin, .ft, .tl, .lane, .hlth, .lsc, .thm, .cal, .time, .net, .safe, .flt, .evc, .peri, .cvu, .memc, .win, .pair, .pwr, .ident, .live, .mem] s (execColdStart s) := by
  unfold execColdStart
  refine FrRes.next ?_
  refine Fr.iteh (fun _ => ?_) (fun _ => ?_)
  · refine Fr.step State.coldBegin_fr rfl rfl ?_
    first | assumption | exact Fr.refl _
  · refine Fr.iteh (fun _ => ?_) (fun _ => ?_)
    · first | assumption | exact Fr.refl _
    · refine Fr.step State.bootE0_fr rfl rfl ?_
      refine Fr.foldl' ?_ (fun t x hx ht => ?_)
      · refine Fr.step State.setPmic_fr rfl rfl ?_
        first | assumption | exact Fr.refl _
      · refine Fr.step State.wakeThrough_fr rfl rfl ?_
        first | assumption | exact Fr.refl _

theorem State.powerCut_fr {s} : Fr [⟨0, 137438953471, 1, 0⟩] [.part, .sa, .layer, .maskin, .ft, .tl, .lane, .hlth, .lsc, .thm, .cal, .time, .net, .safe, .flt, .evc, .peri, .cvu, .memc, .win, .pair, .pwr, .ident, .live, .mem, .free] s (State.powerCut s) := by
  unfold State.powerCut
  refine Fr.step State.coldBegin_fr rfl rfl ⟨fun k h0 hk => ?_, fun z hz => ?_, rfl, rfl, fun hw => ?_⟩
  · exact absurd (Keys.all_has h0) (by rw [hk _ (List.mem_singleton_self _)]; exact Bool.false_ne_true)
  · cases z <;> first | exact absurd (by decide) hz | simp [State.sameIn]
  · have := (State.wf_iff _).1 hw
    exact (State.wf_iff _).2 ⟨rfl, this.2⟩

theorem execPowerOnReset_fr {s} : FrRes [⟨0, 137438953471, 1, 0⟩] [.part, .sa, .layer, .maskin, .ft, .tl, .lane, .hlth, .lsc, .thm, .cal, .time, .net, .safe, .flt, .evc, .peri, .cvu, .memc, .win, .pair, .pwr, .ident, .live, .mem, .free] s (execPowerOnReset s) := by
  unfold execPowerOnReset
  refine FrRes.next ?_
  refine Fr.step State.powerCut_fr rfl rfl ?_
  first | assumption | exact Fr.refl _

theorem execPoresetN_fr {s} : FrRes [⟨0, 137438953471, 1, 0⟩] [.live, .free, .part, .sa, .layer, .maskin, .ft, .tl, .lane, .hlth, .lsc, .thm, .cal, .time, .net, .safe, .flt, .evc, .peri, .cvu, .memc, .win, .pair, .pwr, .ident, .mem] s (execPoresetN s) := by
  unfold execPoresetN
  refine FrRes.next ?_
  extract_lets -merge -underBinder +onlyGivenNames x0
  refine Fr.cut x0 ?_ (fun h0 => ?_)
  · unfold x0
    refine Fr.clearRegs rfl rfl ?_
    first | assumption | exact Fr.refl _
  try clear_value x0
  refine Fr.step State.coldBegin_fr rfl rfl ?_
  refine Fr.wr (xs := [⟨17211326468, 17211326468, 1, 0⟩]) rfl rfl ?_
  first | assumption | exact Fr.refl _

theorem State.requestReset_fr {s} {a1} {a2} : Fr [] [.pwr] s (State.requestReset s a1 a2) := by
  unfold State.requestReset
  refine Fr.iteh (fun _ => ?_) (fun _ => ?_)
  · first | assumption | exact Fr.refl _
  · refine Fr.set_pwr rfl ?_
    first | assumption | exact Fr.refl _

theorem execSysresetN_fr {s} : FrRes [] [.pwr] s (execSysresetN s) := by
  unfold execSysresetN
  refine FrRes.next ?_
  refine Fr.step State.requestReset_fr rfl rfl ?_
  first | assumption | exact Fr.refl _

theorem execSoftwareReset_fr {a0} {a1} {s} : FrRes [⟨17184063616, 17184063647, 32, 31⟩, ⟨17184063872, 17184063872, 1, 0⟩, ⟨17181966336, 17181966336, 1, 0⟩, ⟨17181967360, 17181967360, 1, 0⟩, ⟨17186226581, 17186257301, 2048, 0⟩, ⟨17181966338, 17181966338, 1, 0⟩, ⟨17181966495, 17181966495, 1, 0⟩, ⟨17186168832, 17186169247, 1, 0⟩, ⟨17188261632, 17188261632, 1, 0⟩, ⟨17181967232, 17181967263, 1, 0⟩] [.flt, .evc, .pwr, .pair] s (execSoftwareReset a0 a1 s) := by
  unfold execSoftwareReset
  refine FrRes.next ?_
  refine busWrite_fr (x := ⟨17184063616, 17184063647, 32, 31⟩) (Keys.word_intro (by first | omega | (omega)) (by first | omega | (omega)) (by first | omega | (omega))) (fun u => State.werr_0x2002 (by omega)) rfl rfl ?_ (fun t ht => ?_)
  · first | assumption | exact Fr.refl _
  · refine Fr.iteh (fun _ => ?_) (fun _ => ?_)
    · refine Fr.step State.requestReset_fr rfl rfl ?_
      first | assumption | exact Fr.refl _
    · refine Fr.step (State.werr_0x2002 (by omega)) rfl rfl ?_
      first | assumption | exact Fr.refl _

theorem execChipReset_fr {s} : FrRes [⟨0, 137438953471, 1, 0⟩] [.sa, .layer, .mem, .part, .maskin, .ft, .tl, .lane, .hlth, .lsc, .thm, .cal, .time, .net, .safe, .flt, .evc, .peri, .cvu, .memc, .win, .pair, .pwr, .ident, .live, .free] s (execChipReset s) := by
  unfold execChipReset
  refine FrRes.next ?_
  split
  · first | assumption | exact Fr.refl _
  · refine Fr.step State.chipReset_fr rfl rfl ?_
    first | assumption | exact Fr.refl _

theorem execMemoryWipeDone_fr {s} : FrRes [⟨17184063873, 17184063873, 1, 0⟩, ⟨17184063877, 17184063877, 1, 0⟩, ⟨17184063874, 17184063874, 1, 0⟩] [.pwr, .evc] s (execMemoryWipeDone s) := by
  unfold execMemoryWipeDone
  refine FrRes.next ?_
  refine Fr.iteh (fun _ => ?_) (fun _ => ?_)
  · first | assumption | exact Fr.refl _
  · extract_lets -merge -underBinder +onlyGivenNames x0
    refine Fr.cut x0 ?_ (fun h0 => ?_)
    · unfold x0
      refine Fr.wr (xs := [⟨17184063873, 17184063873, 1, 0⟩]) rfl rfl ?_
      first | assumption | exact Fr.refl _
    try clear_value x0
    extract_lets -merge -underBinder +onlyGivenNames x1
    refine Fr.cut x1 ?_ (fun h1 => ?_)
    · unfold x1
      refine Fr.iteh (fun _ => ?_) (fun _ => ?_)
      · first | assumption | exact Fr.refl _
      · refine Fr.wr (xs := [⟨17184063877, 17184063877, 1, 0⟩]) rfl rfl ?_
        refine Fr.wr (xs := [⟨17184063874, 17184063874, 1, 0⟩]) rfl rfl ?_
        first | assumption | exact Fr.refl _
    try clear_value x1
    refine Fr.step State.bootE0_fr rfl rfl ?_
    refine Fr.set_pwr rfl ?_
    first | assumption | exact Fr.refl _

theorem State.cutOff_fr {s} {a1} {a2} : Fr [⟨17188261632, 17188261632, 1, 0⟩] [.flt] s (State.cutOff s a1 a2) := by
  unfold State.cutOff
  refine Fr.foldl' ?_ (fun t x hx ht => ?_)
  · first | assumption | exact Fr.refl _
  · extract_lets -merge -underBinder +onlyGivenNames x0
    try clear_value (e0 : x0 = _)
    refine Fr.iteh (fun _ => ?_) (fun _ => ?_)
    · refine Fr.step State.busErr_fr rfl rfl ?_
      first | assumption | exact Fr.refl _
    · first | assumption | exact Fr.refl _

theorem execBlockReset_fr {a0} {a1} {a2} {s} : FrRes ([⟨17184063744, 17184063775, 32, 31⟩, ⟨17184063872, 17184063872, 1, 0⟩, ⟨17181966336, 17181966336, 1, 0⟩, ⟨17181967360, 17181967360, 1, 0⟩, ⟨17186226581, 17186257301, 2048, 0⟩, ⟨17181966338, 17181966338, 1, 0⟩, ⟨17181966495, 17181966495, 1, 0⟩, ⟨17186168832, 17186169247, 1, 0⟩, ⟨17188261632, 17188261632, 1, 0⟩, ⟨17181967232, 17181967263, 1, 0⟩, ⟨17196646400, 17198743551, 1, 0⟩, ⟨17198743552, 17200840703, 1, 0⟩, ⟨17230200832, 17232297983, 1, 0⟩, ⟨17200840704, 17202937855, 1, 0⟩, ⟨17202937856, 17205035007, 1, 0⟩, ⟨17205035008, 17207132159, 1, 0⟩, ⟨17207132160, 17209229311, 1, 0⟩, ⟨17209229312, 17211326463, 1, 0⟩, ⟨17211326464, 17213423615, 1, 0⟩, ⟨17213423616, 17215520767, 1, 0⟩, ⟨17215520768, 17217617919, 1, 0⟩, ⟨17217617920, 17219715071, 1, 0⟩, ⟨17219715072, 17221812223, 1, 0⟩, ⟨17223909376, 17226006527, 1, 0⟩, ⟨17190354944, 17192452095, 1, 0⟩, ⟨17194549248, 17196646399, 1, 0⟩, ⟨17228103680, 17230200831, 1, 0⟩, ⟨17192452352, 17192452352, 1, 0⟩, ⟨17192452608, 17192452608, 1, 0⟩, ⟨17192452480, 17192452480, 1, 0⟩] ++ [⟨17192452229, 17192452229, 1, 0⟩, ⟨17192452228, 17192452228, 1, 0⟩]) [.flt, .evc, .pwr, .pair, .sa, .tl, .live, .layer, .maskin, .peri, .ft, .lane, .hlth, .lsc, .thm, .cal, .net, .time, .cvu, .win, .free, .safe, .mem, .memc] s (execBlockReset a0 a1 a2 s) := by
  unfold execBlockReset
  refine FrRes.next ?_
  refine busWrite_fr (x := ⟨17184063744, 17184063775, 32, 31⟩) (Keys.word_intro (by first | omega | (omega)) (by first | omega | (omega)) (by first | omega | (omega))) (fun u => State.werr_0x2002 (by omega)) rfl rfl ?_ (fun t ht => ?_)
  · first | assumption | exact Fr.refl _
  · refine Fr.forFin ?_ (fun i t ht => ?_)
    · first | assumption | exact Fr.refl _
    · refine Fr.iteh (fun _ => ?_) (fun _ => ?_)
      · refine Fr.step State.cutOff_fr rfl rfl ?_
        refine Fr.step State.blockReset_fr rfl rfl ?_
        first | assumption | exact Fr.refl _
      · first | assumption | exact Fr.refl _

theorem State.swdtRestart_fr {s} : Fr [] [.pwr] s (State.swdtRestart s) := by
  unfold State.swdtRestart
  refine Fr.set_pwr rfl ?_
  first | assumption | exact Fr.refl _

theorem State.swdtExpire_fr {s} : Fr [] [.flt, .pwr] s (State.swdtExpire s) := by
  unfold State.swdtExpire
  refine Fr.step State.raise_fr rfl rfl ?_
  refine Fr.set_pwr rfl ?_
  first | assumption | exact Fr.refl _

theorem execSwdtEnable_fr {a0} {a1} {s} : FrRes [⟨17184064000, 17184064031, 32, 31⟩, ⟨17184063872, 17184063872, 1, 0⟩, ⟨17181966336, 17181966336, 1, 0⟩, ⟨17181967360, 17181967360, 1, 0⟩, ⟨17186226581, 17186257301, 2048, 0⟩, ⟨17181966338, 17181966338, 1, 0⟩, ⟨17181966495, 17181966495, 1, 0⟩, ⟨17186168832, 17186169247, 1, 0⟩, ⟨17188261632, 17188261632, 1, 0⟩, ⟨17181967232, 17181967263, 1, 0⟩] [.flt, .evc, .pwr, .pair] s (execSwdtEnable a0 a1 s) := by
  unfold execSwdtEnable
  refine FrRes.next ?_
  refine busWrite_fr (x := ⟨17184064000, 17184064031, 32, 31⟩) (Keys.word_intro (by first | omega | (omega)) (by first | omega | (omega)) (by first | omega | (omega))) (fun u => State.werr_0x2002 (by omega)) rfl rfl ?_ (fun t ht => ?_)
  · first | assumption | exact Fr.refl _
  · refine Fr.iteh (fun _ => ?_) (fun _ => ?_)
    · refine Fr.step State.swdtRestart_fr rfl rfl ?_
      refine Fr.wr (xs := [⟨17184064000, 17184064000, 1, 0⟩]) rfl rfl ?_
      first | assumption | exact Fr.refl _
    · first | assumption | exact Fr.refl _

theorem execSwdtKick_fr {a0} {a1} {s} : FrRes [⟨17184064128, 17184064159, 32, 31⟩, ⟨17184063872, 17184063872, 1, 0⟩, ⟨17181966336, 17181966336, 1, 0⟩, ⟨17181967360, 17181967360, 1, 0⟩, ⟨17186226581, 17186257301, 2048, 0⟩, ⟨17181966338, 17181966338, 1, 0⟩, ⟨17181966495, 17181966495, 1, 0⟩, ⟨17186168832, 17186169247, 1, 0⟩, ⟨17188261632, 17188261632, 1, 0⟩, ⟨17181967232, 17181967263, 1, 0⟩] [.flt, .evc, .pwr, .pair] s (execSwdtKick a0 a1 s) := by
  unfold execSwdtKick
  refine FrRes.next ?_
  refine busWrite_fr (x := ⟨17184064128, 17184064159, 32, 31⟩) (Keys.word_intro (by first | omega | (omega)) (by first | omega | (omega)) (by first | omega | (omega))) (fun u => State.werr_0x2002 (by omega)) rfl rfl ?_ (fun t ht => ?_)
  · first | assumption | exact Fr.refl _
  · refine Fr.iteh (fun _ => ?_) (fun _ => ?_)
    · refine Fr.step State.swdtRestart_fr rfl rfl ?_
      first | assumption | exact Fr.refl _
    · refine Fr.step State.swdtExpire_fr rfl rfl ?_
      first | assumption | exact Fr.refl _

theorem execSwdtHalf_fr {s} : FrRes [⟨17181966336, 17181966336, 1, 0⟩, ⟨17181967360, 17181967360, 1, 0⟩, ⟨17186226581, 17186257301, 2048, 0⟩, ⟨17181966338, 17181966338, 1, 0⟩, ⟨17181966495, 17181966495, 1, 0⟩, ⟨17186168832, 17186169247, 1, 0⟩] [.pwr, .flt, .evc] s (execSwdtHalf s) := by
  unfold execSwdtHalf
  refine FrRes.next ?_
  refine Fr.iteh (fun _ => ?_) (fun _ => ?_)
  · refine Fr.step State.fire_fr rfl rfl ?_
    refine Fr.set_pwr rfl ?_
    first | assumption | exact Fr.refl _
  · first | assumption | exact Fr.refl _

theorem execSwdtTimeout_fr {s} : FrRes [] [.flt, .pwr] s (execSwdtTimeout s) := by
  unfold execSwdtTimeout
  refine FrRes.next ?_
  refine Fr.iteh (fun _ => ?_) (fun _ => ?_)
  · refine Fr.step State.swdtExpire_fr rfl rfl ?_
    first | assumption | exact Fr.refl _
  · first | assumption | exact Fr.refl _

theorem execSwdtForcedReset_fr {s} : FrRes [⟨0, 137438953471, 1, 0⟩] [.sa, .layer, .mem, .part, .maskin, .ft, .tl, .lane, .hlth, .lsc, .thm, .cal, .time, .net, .safe, .flt, .evc, .peri, .cvu, .memc, .win, .pair, .pwr, .ident, .live, .free] s (execSwdtForcedReset s) := by
  unfold execSwdtForcedReset
  refine FrRes.next ?_
  refine Fr.iteh (fun _ => ?_) (fun _ => ?_)
  · refine Fr.step State.chipReset_fr rfl rfl ?_
    first | assumption | exact Fr.refl _
  · first | assumption | exact Fr.refl _

theorem State.oscFails_fr {s} : Fr [] [.pwr] s (State.oscFails s) := by
  unfold State.oscFails
  refine Fr.set_pwr rfl ?_
  first | assumption | exact Fr.refl _

theorem execClockMonitor_fr {s} : FrRes [] [.flt, .pwr] s (execClockMonitor s) := by
  unfold execClockMonitor
  refine FrRes.next ?_
  refine Fr.step State.raise_fr rfl rfl ?_
  refine Fr.step State.oscFails_fr rfl rfl ?_
  first | assumption | exact Fr.refl _

theorem execSystemPllLoss_fr {s} : FrRes [⟨17184063874, 17184063874, 1, 0⟩] [.flt, .pwr] s (execSystemPllLoss s) := by
  unfold execSystemPllLoss
  refine FrRes.next ?_
  refine Fr.step State.raise_fr rfl rfl ?_
  refine Fr.wr (xs := [⟨17184063874, 17184063874, 1, 0⟩]) rfl rfl ?_
  refine Fr.step State.oscFails_fr rfl rfl ?_
  first | assumption | exact Fr.refl _

theorem execXtalFail_fr {s} : FrRes [⟨17184063877, 17184063877, 1, 0⟩] [.flt, .pwr] s (execXtalFail s) := by
  unfold execXtalFail
  refine FrRes.next ?_
  refine Fr.step State.raise_fr rfl rfl ?_
  refine Fr.wr (xs := [⟨17184063877, 17184063877, 1, 0⟩]) rfl rfl ?_
  refine Fr.step State.oscFails_fr rfl rfl ?_
  first | assumption | exact Fr.refl _

theorem execClosedCrossingAccess_fr {a0} {a1} {a2} {s} : FrRes [⟨17188261632, 17188261632, 1, 0⟩, ⟨17181966336, 17181966336, 1, 0⟩, ⟨17181967360, 17181967360, 1, 0⟩, ⟨17186226581, 17186257301, 2048, 0⟩, ⟨17181966338, 17181966338, 1, 0⟩, ⟨17181966495, 17181966495, 1, 0⟩, ⟨17186168832, 17186169247, 1, 0⟩, ⟨17181967232, 17181967263, 1, 0⟩] [.flt, .pwr, .evc] s (execClosedCrossingAccess a0 a1 a2 s) := by
  unfold execClosedCrossingAccess
  extract_lets -merge -underBinder +onlyGivenNames x0
  refine FrRes.next ?_
  refine Fr.iteh (fun _ => ?_) (fun _ => ?_)
  · first | assumption | exact Fr.refl _
  · refine Fr.step State.closedCrossing_fr rfl rfl ?_
    first | assumption | exact Fr.refl _

theorem execClkoutSelect_fr {a0} {a1} {s} : FrRes [⟨17184064256, 17184064287, 32, 31⟩, ⟨17184063872, 17184063872, 1, 0⟩, ⟨17181966336, 17181966336, 1, 0⟩, ⟨17181967360, 17181967360, 1, 0⟩, ⟨17186226581, 17186257301, 2048, 0⟩, ⟨17181966338, 17181966338, 1, 0⟩, ⟨17181966495, 17181966495, 1, 0⟩, ⟨17186168832, 17186169247, 1, 0⟩, ⟨17188261632, 17188261632, 1, 0⟩, ⟨17181967232, 17181967263, 1, 0⟩] [.flt, .evc, .pwr, .pair] s (execClkoutSelect a0 a1 s) := by
  unfold execClkoutSelect
  refine FrRes.next ?_
  refine busWrite_fr (x := ⟨17184064256, 17184064287, 32, 31⟩) (Keys.word_intro (by first | omega | (omega)) (by first | omega | (omega)) (by first | omega | (omega))) (fun u => State.werr_0x2002 (by omega)) rfl rfl ?_ (fun t ht => ?_)
  · first | assumption | exact Fr.refl _
  · refine Fr.wr (xs := [⟨17184064256, 17184064256, 1, 0⟩]) rfl rfl ?_
    first | assumption | exact Fr.refl _

end Sys2Proof.Machine
end

