-- ==== Sys2Proof/Laws/FltFrame.lean ====
section
/-! SUPPORT. What each operation and command of Machine/Flt.lean changes at most: register blocks and zones of the state. -/

namespace Sys2Proof.Machine

theorem State.showPin_fr {s} : Fr [⟨17188257922, 17188257922, 1, 0⟩] [] s (State.showPin s) := by
  unfold State.showPin
  refine Fr.wrB (xs := [⟨17188257922, 17188257922, 1, 0⟩]) rfl rfl ?_
  first | assumption | exact Fr.refl _

theorem State.fltCapture_fr {s} {a1} {a2} {a3} : Fr [⟨17188265992, 17188270088, 1024, 0⟩, ⟨17188265991, 17188270087, 1024, 0⟩, ⟨17188265984, 17188270080, 1024, 0⟩, ⟨17188266004, 17188270100, 1024, 0⟩, ⟨17188266000, 17188270096, 1024, 0⟩, ⟨17188266010, 17188270106, 1024, 0⟩, ⟨17188266008, 17188270104, 1024, 0⟩, ⟨17188266112, 17188270208, 1024, 0⟩, ⟨17188266011, 17188270107, 1024, 0⟩, ⟨17188266240, 17188270336, 1024, 0⟩, ⟨17188266496, 17188270592, 1024, 0⟩, ⟨17188266368, 17188270464, 1024, 0⟩] [] s (State.fltCapture s a1 a2 a3) := by
  unfold State.fltCapture
  extract_lets -merge -underBinder +onlyGivenNames x0
  try clear_value (e0 : x0 = _)
  extract_lets -merge -underBinder +onlyGivenNames x1
  refine Fr.cut x1 ?_ (fun h1 => ?_)
  · unfold x1
    refine Fr.wr (xs := [⟨17188265992, 17188270088, 1024, 0⟩]) (Reg.FLT_CAP_INFO_UNIT_key (by first | omega | (simp only [List.mem_range] at *; omega))) rfl ?_
    refine Fr.wr (xs := [⟨17188265991, 17188270087, 1024, 0⟩]) (Reg.FLT_CAP_INFO_VALID_key (by first | omega | (simp only [List.mem_range] at *; omega))) rfl ?_
    refine Fr.wr (xs := [⟨17188265984, 17188270080, 1024, 0⟩]) (Reg.FLT_CAP_INFO_SRC_key (by first | omega | (simp only [List.mem_range] at *; omega))) rfl ?_
    first | assumption | exact Fr.refl _
  try clear_value x1
  extract_lets -merge -underBinder +onlyGivenNames x2
  refine Fr.cut x2 ?_ (fun h2 => ?_)
  · unfold x2
    refine Fr.wr (xs := [⟨17188266004, 17188270100, 1024, 0⟩]) (Reg.FLT_CAP_INFO_MIDX_key (by first | omega | (simp only [List.mem_range] at *; omega))) rfl ?_
    refine Fr.wr (xs := [⟨17188266000, 17188270096, 1024, 0⟩]) (Reg.FLT_CAP_INFO_MASTER_key (by first | omega | (simp only [List.mem_range] at *; omega))) rfl ?_
    first | assumption | exact Fr.refl _
  try clear_value x2
  extract_lets -merge -underBinder +onlyGivenNames x3
  refine Fr.cut x3 ?_ (fun h3 => ?_)
  · unfold x3
    refine Fr.wrB (xs := [⟨17188266010, 17188270106, 1024, 0⟩]) (Reg.FLT_CAP_INFO_ESC_key (by first | omega | (simp only [List.mem_range] at *; omega))) rfl ?_
    refine Fr.wr (xs := [⟨17188266008, 17188270104, 1024, 0⟩]) (Reg.FLT_CAP_INFO_ACCESS_key (by first | omega | (simp only [List.mem_range] at *; omega))) rfl ?_
    first | assumption | exact Fr.refl _
  try clear_value x3
  extract_lets -merge -underBinder +onlyGivenNames x4
  refine Fr.cut x4 ?_ (fun h4 => ?_)
  · unfold x4
    refine Fr.wr (xs := [⟨17188266112, 17188270208, 1024, 0⟩]) (Reg.FLT_CAP_ADDR_LO_ADDR_key (by first | omega | (simp only [List.mem_range] at *; omega))) rfl ?_
    refine Fr.wrB (xs := [⟨17188266011, 17188270107, 1024, 0⟩]) (Reg.FLT_CAP_INFO_TS_VALID_key (by first | omega | (simp only [List.mem_range] at *; omega))) rfl ?_
    first | assumption | exact Fr.refl _
  try clear_value x4
  extract_lets -merge -underBinder +onlyGivenNames x5
  refine Fr.cut x5 ?_ (fun h5 => ?_)
  · unfold x5
    refine Fr.wr (xs := [⟨17188266240, 17188270336, 1024, 0⟩]) (Reg.FLT_CAP_ADDR_HI_ADDR_HI_key (by first | omega | (simp only [List.mem_range] at *; omega))) rfl ?_
    first | assumption | exact Fr.refl _
  try clear_value x5
  refine Fr.wr (xs := [⟨17188266496, 17188270592, 1024, 0⟩]) (Reg.FLT_CAP_TS_SEC_VALUE_key (by first | omega | (simp only [List.mem_range] at *; omega))) rfl ?_
  refine Fr.wr (xs := [⟨17188266368, 17188270464, 1024, 0⟩]) (Reg.FLT_CAP_TS_NS_VALUE_key (by first | omega | (simp only [List.mem_range] at *; omega))) rfl ?_
  first | assumption | exact Fr.refl _

theorem State.fltRecord_fr {s} {a1} {a2} {a3} : Fr [⟨17188266624, 17188270720, 1024, 0⟩, ⟨17188265992, 17188270088, 1024, 0⟩, ⟨17188265991, 17188270087, 1024, 0⟩, ⟨17188265984, 17188270080, 1024, 0⟩, ⟨17188266004, 17188270100, 1024, 0⟩, ⟨17188266000, 17188270096, 1024, 0⟩, ⟨17188266010, 17188270106, 1024, 0⟩, ⟨17188266008, 17188270104, 1024, 0⟩, ⟨17188266112, 17188270208, 1024, 0⟩, ⟨17188266011, 17188270107, 1024, 0⟩, ⟨17188266240, 17188270336, 1024, 0⟩, ⟨17188266496, 17188270592, 1024, 0⟩, ⟨17188266368, 17188270464, 1024, 0⟩] [] s (State.fltRecord s a1 a2 a3) := by
  unfold State.fltRecord
  refine Fr.iteh (fun _ => ?_) (fun _ => ?_)
  · refine Fr.inc (xs := [⟨17188266624, 17188270720, 1024, 0⟩]) (Reg.FLT_CAP_CNT_CNT_key (by first | omega | (simp only [List.mem_range] at *; omega))) rfl ?_
    first | assumption | exact Fr.refl _
  · refine Fr.step State.fltCapture_fr rfl rfl ?_
    first | assumption | exact Fr.refl _

theorem State.fenceEngine_fr {s} {a1} : Fr [⟨17188261376, 17188261391, 1, 0⟩, ⟨17186169856, 17186170271, 1, 0⟩, ⟨17186226583, 17186257303, 2048, 0⟩, ⟨17186226582, 17186257302, 2048, 0⟩, ⟨17186226576, 17186257296, 2048, 0⟩, ⟨17186226568, 17186257288, 2048, 0⟩, ⟨17186226560, 17186257280, 2048, 0⟩, ⟨17186226581, 17186257301, 2048, 0⟩, ⟨17186226816, 17186257536, 2048, 0⟩, ⟨17186226584, 17186257304, 2048, 0⟩] [.evc, .flt] s (State.fenceEngine s a1) := by
  unfold State.fenceEngine
  refine Fr.wr (xs := [⟨17188261376, 17188261391, 1, 0⟩]) (Reg.FLT_FENCE_ENG_key (by first | omega | (simp only [List.mem_range] at *; omega))) rfl ?_
  refine Fr.step State.resetEngine_fr rfl rfl ?_
  first | assumption | exact Fr.refl _

theorem State.fence_fr {s} {a1} : Fr ([⟨17181966336, 17181966336, 1, 0⟩, ⟨17181967360, 17181967360, 1, 0⟩, ⟨17186226581, 17186257301, 2048, 0⟩, ⟨17181966338, 17181966338, 1, 0⟩, ⟨17181966495, 17181966495, 1, 0⟩, ⟨17186168832, 17186169247, 1, 0⟩, ⟨17188261376, 17188261391, 1, 0⟩, ⟨17186169856, 17186170271, 1, 0⟩, ⟨17186226583, 17186257303, 2048, 0⟩, ⟨17186226582, 17186257302, 2048, 0⟩, ⟨17186226576, 17186257296, 2048, 0⟩, ⟨17186226568, 17186257288, 2048, 0⟩, ⟨17186226560, 17186257280, 2048, 0⟩, ⟨17186226816, 17186257536, 2048, 0⟩, ⟨17186226584, 17186257304, 2048, 0⟩, ⟨17188261392, 17188261407, 1, 0⟩, ⟨17196646533, 17196646533, 1, 0⟩, ⟨17196647812, 17196647812, 1, 0⟩, ⟨17196647808, 17196647808, 1, 0⟩, ⟨17196646544, 17196646544, 1, 0⟩, ⟨17196646536, 17196646536, 1, 0⟩, ⟨17198753168, 17198767504, 2048, 0⟩, ⟨17198753152, 17198767488, 2048, 0⟩, ⟨17196646529, 17196646529, 1, 0⟩, ⟨17198753155, 17198767491, 2048, 0⟩, ⟨17198753154, 17198767490, 2048, 0⟩, ⟨17198753156, 17198767492, 2048, 0⟩, ⟨17198753280, 17198767616, 2048, 0⟩, ⟨17205035139, 17205149827, 8192, 0⟩, ⟨17205035141, 17205149829, 8192, 0⟩] ++ [⟨17205035140, 17205149828, 8192, 0⟩, ⟨17205035136, 17205149824, 8192, 0⟩, ⟨17202937984, 17204379776, 131072, 0⟩, ⟨17211359376, 17211408272, 256, 0⟩, ⟨17207138304, 17207138975, 1, 0⟩, ⟨17207136256, 17207137664, 128, 0⟩, ⟨17188261632, 17188261632, 1, 0⟩, ⟨17181967232, 17181967263, 1, 0⟩, ⟨17198743816, 17198743816, 1, 0⟩, ⟨17198743808, 17198743808, 1, 0⟩, ⟨17198743553, 17198743553, 1, 0⟩, ⟨17198743688, 17198743695, 1, 0⟩, ⟨17196646528, 17196646528, 1, 0⟩, ⟨17196646400, 17196646400, 1, 0⟩, ⟨17196646534, 17196646534, 1, 0⟩, ⟨17196648960, 17196649375, 1, 0⟩, ⟨17202937865, 17204379657, 131072, 0⟩, ⟨17202937993, 17204379785, 131072, 0⟩, ⟨17188261888, 17188262559, 1, 0⟩, ⟨17188261504, 17188261505, 1, 0⟩, ⟨17215520768, 17217617920, 2097152, 0⟩]) [.pwr, .flt, .evc, .sa, .layer, .tl, .free, .hlth, .cal] s (State.fence s a1) := by
  unfold State.fence
  split
  · first | assumption | exact Fr.refl _
  · split
    · first | assumption | exact Fr.refl _
    · refine Fr.iteh (fun _ => ?_) (fun _ => ?_)
      · first | assumption | exact Fr.refl _
      · refine Fr.step State.fire_fr rfl rfl ?_
        refine Fr.step State.fenceEngine_fr rfl rfl ?_
        first | assumption | exact Fr.refl _
    · refine Fr.iteh (fun _ => ?_) (fun _ => ?_)
      · first | assumption | exact Fr.refl _
      · refine Fr.step State.fire_fr rfl rfl ?_
        refine Fr.wr (xs := [⟨17188261392, 17188261407, 1, 0⟩]) (Reg.FLT_FENCE_BANK_key (by first | omega | (simp only [List.mem_range] at *; omega))) rfl ?_
        first | assumption | exact Fr.refl _
    · refine Fr.iteh (fun _ => ?_) (fun _ => ?_)
      · first | assumption | exact Fr.refl _
      · refine Fr.step State.fire_fr rfl rfl ?_
        refine Fr.step State.saFenced_fr rfl rfl ?_
        refine Fr.forFin ?_ (fun i t ht => ?_)
        · first | assumption | exact Fr.refl _
        · refine Fr.wr (xs := [⟨17196648960, 17196649375, 1, 0⟩]) (Reg.SA_FENCE_key (by first | omega | (simp only [List.mem_range] at *; omega))) rfl ?_
          first | assumption | exact Fr.refl _
    · refine Fr.iteh (fun _ => ?_) (fun _ => ?_)
      · first | assumption | exact Fr.refl _
      · refine Fr.step State.fire_fr rfl rfl ?_
        refine Fr.step State.tlFence_fr rfl rfl ?_
        first | assumption | exact Fr.refl _
    · refine Fr.iteh (fun _ => ?_) (fun _ => ?_)
      · first | assumption | exact Fr.refl _
      · refine Fr.step State.fire_fr rfl rfl ?_
        refine Fr.wr (xs := [⟨17188261888, 17188262559, 1, 0⟩]) (Reg.FLT_ZFENCE_key (by first | omega | (simp only [List.mem_range] at *; omega))) rfl ?_
        first | assumption | exact Fr.refl _
    · refine Fr.iteh (fun _ => ?_) (fun _ => ?_)
      · first | assumption | exact Fr.refl _
      · refine Fr.step State.fire_fr rfl rfl ?_
        refine Fr.wr (xs := [⟨17188261504, 17188261505, 1, 0⟩]) (Reg.FLT_FENCE_NET_key (by first | omega | (simp only [List.mem_range] at *; omega))) rfl ?_
        refine Fr.step State.netEnable_fr rfl rfl ?_
        first | assumption | exact Fr.refl _

theorem State.raiseNmi_fr {s} : Fr [] [.evc] s (State.raiseNmi s).1 := by
  unfold State.raiseNmi
  extract_lets -merge -underBinder +onlyGivenNames x0
  try clear_value x0
  refine Fr.mk1 ?_
  refine Fr.foldl' ?_ (fun t x hx ht => ?_)
  · first | assumption | exact Fr.refl _
  · refine Fr.step State.setEng_fr rfl rfl ?_
    first | assumption | exact Fr.refl _

theorem State.crst_fr {s} {a1} : Fr [⟨17188257923, 17188257923, 1, 0⟩] [.pwr, .pair, .lane] s (State.crst s a1) := by
  unfold State.crst
  refine Fr.step State.requestReset_fr rfl rfl ?_
  refine Fr.wr (xs := [⟨17188257923, 17188257923, 1, 0⟩]) rfl rfl ?_
  refine Fr.step State.pairLastBeat_fr rfl rfl ?_
  first | assumption | exact Fr.refl _

theorem State.react_fr {s} {a1} {a2} : Fr ([⟨17181966336, 17181966336, 1, 0⟩, ⟨17181967360, 17181967360, 1, 0⟩, ⟨17186226581, 17186257301, 2048, 0⟩, ⟨17181966338, 17181966338, 1, 0⟩, ⟨17181966495, 17181966495, 1, 0⟩, ⟨17186168832, 17186169247, 1, 0⟩, ⟨17188261376, 17188261391, 1, 0⟩, ⟨17186169856, 17186170271, 1, 0⟩, ⟨17186226583, 17186257303, 2048, 0⟩, ⟨17186226582, 17186257302, 2048, 0⟩, ⟨17186226576, 17186257296, 2048, 0⟩, ⟨17186226568, 17186257288, 2048, 0⟩, ⟨17186226560, 17186257280, 2048, 0⟩, ⟨17186226816, 17186257536, 2048, 0⟩, ⟨17186226584, 17186257304, 2048, 0⟩, ⟨17188261392, 17188261407, 1, 0⟩, ⟨17188261632, 17188261632, 1, 0⟩, ⟨17181967232, 17181967263, 1, 0⟩, ⟨17188261888, 17188262559, 1, 0⟩, ⟨17188261504, 17188261505, 1, 0⟩, ⟨17215520768, 17217617920, 2097152, 0⟩, ⟨17196646400, 17198743551, 1, 0⟩, ⟨17198743552, 17200840703, 1, 0⟩, ⟨17230200832, 17232297983, 1, 0⟩, ⟨17200840704, 17202937855, 1, 0⟩, ⟨17202937856, 17205035007, 1, 0⟩, ⟨17205035008, 17207132159, 1, 0⟩, ⟨17207132160, 17209229311, 1, 0⟩, ⟨17209229312, 17211326463, 1, 0⟩, ⟨17211326464, 17213423615, 1, 0⟩] ++ [⟨17213423616, 17215520767, 1, 0⟩, ⟨17215520768, 17217617919, 1, 0⟩, ⟨17217617920, 17219715071, 1, 0⟩, ⟨17219715072, 17221812223, 1, 0⟩, ⟨17223909376, 17226006527, 1, 0⟩, ⟨17190354944, 17192452095, 1, 0⟩, ⟨17194549248, 17196646399, 1, 0⟩, ⟨17228103680, 17230200831, 1, 0⟩, ⟨17192452352, 17192452352, 1, 0⟩, ⟨17192452608, 17192452608, 1, 0⟩, ⟨17192452480, 17192452480, 1, 0⟩, ⟨17192452229, 17192452229, 1, 0⟩, ⟨17192452228, 17192452228, 1, 0⟩, ⟨17188257923, 17188257923, 1, 0⟩, ⟨17188257922, 17188257922, 1, 0⟩]) [.pwr, .flt, .evc, .sa, .layer, .tl, .free, .hlth, .cal, .live, .maskin, .peri, .ft, .lane, .lsc, .thm, .net, .time, .pair, .cvu, .win, .safe, .mem, .memc] s (State.react s a1 a2) := by
  unfold State.react
  extract_lets -merge -underBinder +onlyGivenNames x0
  try clear_value (e0 : x0 = _)
  extract_lets -merge -underBinder +onlyGivenNames x1
  refine Fr.cut x1 ?_ (fun h1 => ?_)
  · unfold x1
    refine Fr.iteh (fun _ => ?_) (fun _ => ?_)
    · refine Fr.step State.fence_fr rfl rfl ?_
      first | assumption | exact Fr.refl _
    · first | assumption | exact Fr.refl _
  try clear_value x1
  extract_lets -merge -underBinder +onlyGivenNames x2
  refine Fr.cut x2 ?_ (fun h2 => ?_)
  · unfold x2
    refine Fr.iteh (fun _ => ?_) (fun _ => ?_)
    · split
      · first | assumption | exact Fr.refl _
      · refine Fr.step State.blockReset_fr rfl rfl ?_
        first | assumption | exact Fr.refl _
    · first | assumption | exact Fr.refl _
  try clear_value x2
  extract_lets -merge -underBinder +onlyGivenNames x3
  refine Fr.cut x3 ?_ (fun h3 => ?_)
  · unfold x3
    refine Fr.iteh (fun _ => ?_) (fun _ => ?_)
    · refine Fr.step State.fire_fr rfl rfl ?_
      first | assumption | exact Fr.refl _
    · refine Fr.iteh (fun _ => ?_) (fun _ => ?_)
      · refine Fr.step State.fire_fr rfl rfl ?_
        first | assumption | exact Fr.refl _
      · first | assumption | exact Fr.refl _
  try clear_value x3
  extract_lets -merge -underBinder +onlyGivenNames x4
  refine Fr.cut x4.1 ?_ (fun h4 => ?_)
  · unfold x4
    refine Fr.iteh1 (fun _ => ?_) (fun _ => ?_)
    · refine Fr.step State.raiseNmi_fr rfl rfl ?_
      first | assumption | exact Fr.refl _
    · refine Fr.mk1 ?_
      first | assumption | exact Fr.refl _
  try clear_value x4
  extract_lets -merge -underBinder +onlyGivenNames x5
  refine Fr.cut x5 ?_ (fun h5 => ?_)
  · unfold x5
    first | assumption | exact Fr.refl _
  try clear_value x5
  extract_lets -merge -underBinder +onlyGivenNames x6
  extract_lets -merge -underBinder +onlyGivenNames x7
  refine Fr.cut x7 ?_ (fun h7 => ?_)
  · unfold x7
    refine Fr.set_flt rfl ?_
    first | assumption | exact Fr.refl _
  try clear_value x7
  extract_lets -merge -underBinder +onlyGivenNames x8
  refine Fr.cut x8 ?_ (fun h8 => ?_)
  · unfold x8
    refine Fr.iteh (fun _ => ?_) (fun _ => ?_)
    · refine Fr.step State.crst_fr rfl rfl ?_
      first | assumption | exact Fr.refl _
    · first | assumption | exact Fr.refl _
  try clear_value x8
  refine Fr.step State.showPin_fr rfl rfl ?_
  first | assumption | exact Fr.refl _

theorem State.setLockout_fr {s} : Fr [⟨17181966336, 17181966336, 1, 0⟩, ⟨17181967360, 17181967360, 1, 0⟩, ⟨17186226581, 17186257301, 2048, 0⟩, ⟨17181966338, 17181966338, 1, 0⟩, ⟨17181966495, 17181966495, 1, 0⟩, ⟨17186168832, 17186169247, 1, 0⟩, ⟨17221812352, 17221812352, 1, 0⟩, ⟨17221812364, 17221812364, 1, 0⟩, ⟨17202941824, 17204383616, 131072, 0⟩, ⟨17221814288, 17221814288, 1, 0⟩, ⟨17221814272, 17221814272, 1, 0⟩, ⟨17205035139, 17205149827, 8192, 0⟩, ⟨17205035141, 17205149829, 8192, 0⟩, ⟨17205035140, 17205149828, 8192, 0⟩, ⟨17205035136, 17205149824, 8192, 0⟩, ⟨17202937984, 17204379776, 131072, 0⟩, ⟨17221812363, 17221812363, 1, 0⟩, ⟨17188257921, 17188257921, 1, 0⟩] [.pwr, .flt, .evc, .safe, .lane, .tl] s (State.setLockout s) := by
  unfold State.setLockout
  refine Fr.step State.showSafe_fr rfl rfl ?_
  refine Fr.wr (xs := [⟨17221812363, 17221812363, 1, 0⟩]) rfl rfl ?_
  refine Fr.wr (xs := [⟨17188257921, 17188257921, 1, 0⟩]) rfl rfl ?_
  first | assumption | exact Fr.refl _

theorem State.occurs_fr {s} {a1} : Fr ([⟨17181966336, 17181966336, 1, 0⟩, ⟨17181967360, 17181967360, 1, 0⟩, ⟨17186226581, 17186257301, 2048, 0⟩, ⟨17181966338, 17181966338, 1, 0⟩, ⟨17181966495, 17181966495, 1, 0⟩, ⟨17186168832, 17186169247, 1, 0⟩, ⟨17186169856, 17186170271, 1, 0⟩, ⟨17186226583, 17186257303, 2048, 0⟩, ⟨17186226582, 17186257302, 2048, 0⟩, ⟨17186226576, 17186257296, 2048, 0⟩, ⟨17186226568, 17186257288, 2048, 0⟩, ⟨17186226560, 17186257280, 2048, 0⟩, ⟨17186226816, 17186257536, 2048, 0⟩, ⟨17186226584, 17186257304, 2048, 0⟩, ⟨17181967232, 17181967263, 1, 0⟩, ⟨17215520768, 17217617920, 2097152, 0⟩, ⟨17196646400, 17198743551, 1, 0⟩, ⟨17198743552, 17200840703, 1, 0⟩, ⟨17230200832, 17232297983, 1, 0⟩, ⟨17200840704, 17202937855, 1, 0⟩, ⟨17202937856, 17205035007, 1, 0⟩, ⟨17205035008, 17207132159, 1, 0⟩, ⟨17207132160, 17209229311, 1, 0⟩, ⟨17209229312, 17211326463, 1, 0⟩, ⟨17211326464, 17213423615, 1, 0⟩, ⟨17213423616, 17215520767, 1, 0⟩, ⟨17215520768, 17217617919, 1, 0⟩, ⟨17217617920, 17219715071, 1, 0⟩, ⟨17219715072, 17221812223, 1, 0⟩, ⟨17223909376, 17226006527, 1, 0⟩] ++ [⟨17190354944, 17192452095, 1, 0⟩, ⟨17194549248, 17196646399, 1, 0⟩, ⟨17228103680, 17230200831, 1, 0⟩, ⟨17192452352, 17192452352, 1, 0⟩, ⟨17192452608, 17192452608, 1, 0⟩, ⟨17192452480, 17192452480, 1, 0⟩, ⟨17192452229, 17192452229, 1, 0⟩, ⟨17192452228, 17192452228, 1, 0⟩, ⟨17221812352, 17221812352, 1, 0⟩, ⟨17221812364, 17221812364, 1, 0⟩, ⟨17221814288, 17221814288, 1, 0⟩, ⟨17221814272, 17221814272, 1, 0⟩, ⟨17221812363, 17221812363, 1, 0⟩, ⟨17188257792, 17190354943, 1, 0⟩]) [.pwr, .flt, .evc, .sa, .layer, .tl, .free, .hlth, .cal, .live, .maskin, .peri, .ft, .lane, .lsc, .thm, .net, .time, .pair, .cvu, .win, .safe, .mem, .memc] s (State.occurs s a1) := by
  unfold State.occurs
  extract_lets -merge -underBinder +onlyGivenNames x0
  try clear_value (e0 : x0 = _)
  extract_lets -merge -underBinder +onlyGivenNames x1
  try clear_value x1
  extract_lets -merge -underBinder +onlyGivenNames x2
  try clear_value (e2 : x2 = _)
  extract_lets -merge -underBinder +onlyGivenNames x3
  refine Fr.cut x3 ?_ (fun h3 => ?_)
  · unfold x3
    refine Fr.iteh (fun _ => ?_) (fun _ => ?_)
    · refine Fr.step State.fltRecord_fr rfl rfl ?_
      refine Fr.step State.fire_fr rfl rfl ?_
      refine Fr.inc (xs := [⟨17188257928, 17188257928, 1, 0⟩]) rfl rfl ?_
      refine Fr.inc (xs := [⟨17188266624, 17188270720, 1024, 0⟩]) (Reg.FLT_CAP_CNT_CNT_key (by first | omega | (simp only [List.mem_range] at *; omega))) rfl ?_
      first | assumption | exact Fr.refl _
    · refine Fr.step State.fltRecord_fr rfl rfl ?_
      first | assumption | exact Fr.refl _
  try clear_value x3
  extract_lets -merge -underBinder +onlyGivenNames x4
  refine Fr.cut x4 ?_ (fun h4 => ?_)
  · unfold x4
    refine Fr.wr (xs := [⟨17188258816, 17188259103, 1, 0⟩]) (Reg.FLT_PEND_key (by first | omega | (simp only [List.mem_range] at *; omega))) rfl ?_
    first | assumption | exact Fr.refl _
  try clear_value x4
  refine Fr.step State.react_fr rfl rfl ?_
  refine Fr.iteh (fun _ => ?_) (fun _ => ?_)
  · refine Fr.step State.setLockout_fr rfl rfl ?_
    first | assumption | exact Fr.refl _
  · first | assumption | exact Fr.refl _

theorem execFaultOccurrence_fr {a0} {a1} {s} : FrRes ([⟨17181966336, 17181966336, 1, 0⟩, ⟨17181967360, 17181967360, 1, 0⟩, ⟨17186226581, 17186257301, 2048, 0⟩, ⟨17181966338, 17181966338, 1, 0⟩, ⟨17181966495, 17181966495, 1, 0⟩, ⟨17186168832, 17186169247, 1, 0⟩, ⟨17186169856, 17186170271, 1, 0⟩, ⟨17186226583, 17186257303, 2048, 0⟩, ⟨17186226582, 17186257302, 2048, 0⟩, ⟨17186226576, 17186257296, 2048, 0⟩, ⟨17186226568, 17186257288, 2048, 0⟩, ⟨17186226560, 17186257280, 2048, 0⟩, ⟨17186226816, 17186257536, 2048, 0⟩, ⟨17186226584, 17186257304, 2048, 0⟩, ⟨17181967232, 17181967263, 1, 0⟩, ⟨17215520768, 17217617920, 2097152, 0⟩, ⟨17196646400, 17198743551, 1, 0⟩, ⟨17198743552, 17200840703, 1, 0⟩, ⟨17230200832, 17232297983, 1, 0⟩, ⟨17200840704, 17202937855, 1, 0⟩, ⟨17202937856, 17205035007, 1, 0⟩, ⟨17205035008, 17207132159, 1, 0⟩, ⟨17207132160, 17209229311, 1, 0⟩, ⟨17209229312, 17211326463, 1, 0⟩, ⟨17211326464, 17213423615, 1, 0⟩, ⟨17213423616, 17215520767, 1, 0⟩, ⟨17215520768, 17217617919, 1, 0⟩, ⟨17217617920, 17219715071, 1, 0⟩, ⟨17219715072, 17221812223, 1, 0⟩, ⟨17223909376, 17226006527, 1, 0⟩] ++ [⟨17190354944, 17192452095, 1, 0⟩, ⟨17194549248, 17196646399, 1, 0⟩, ⟨17228103680, 17230200831, 1, 0⟩, ⟨17192452352, 17192452352, 1, 0⟩, ⟨17192452608, 17192452608, 1, 0⟩, ⟨17192452480, 17192452480, 1, 0⟩, ⟨17192452229, 17192452229, 1, 0⟩, ⟨17192452228, 17192452228, 1, 0⟩, ⟨17221812352, 17221812352, 1, 0⟩, ⟨17221812364, 17221812364, 1, 0⟩, ⟨17221814288, 17221814288, 1, 0⟩, ⟨17221814272, 17221814272, 1, 0⟩, ⟨17221812363, 17221812363, 1, 0⟩, ⟨17188257792, 17190354943, 1, 0⟩]) [.flt, .pwr, .evc, .sa, .layer, .tl, .free, .hlth, .cal, .live, .maskin, .peri, .ft, .lane, .lsc, .thm, .net, .time, .pair, .cvu, .win, .safe, .mem, .memc] s (execFaultOccurrence a0 a1 s) := by
  unfold execFaultOccurrence
  refine FrRes.next ?_
  extract_lets -merge -underBinder +onlyGivenNames x0
  refine Fr.cut x0 ?_ (fun h0 => ?_)
  · unfold x0
    refine Fr.foldl' ?_ (fun t x hx ht => ?_)
    · first | assumption | exact Fr.refl _
    · refine Fr.step State.raiseOcc_fr rfl rfl ?_
      first | assumption | exact Fr.refl _
  try clear_value x0
  extract_lets -merge -underBinder +onlyGivenNames x1
  try clear_value x1
  extract_lets -merge -underBinder +onlyGivenNames x2
  extract_lets -merge -underBinder +onlyGivenNames x3
  refine Fr.cut x3.1 ?_ (fun h3 => ?_)
  · unfold x3
    refine Fr.foldl1 ?_ (fun t x ht => ?_)
    · refine Fr.mk1 ?_
      refine Fr.set_flt rfl ?_
      first | assumption | exact Fr.refl _
    · refine Fr.mk1 ?_
      refine Fr.step State.occurs_fr rfl rfl ?_
      first | assumption | exact Fr.refl _
  try clear_value x3
  refine Fr.foldl' ?_ (fun t x hx ht => ?_)
  · first | assumption | exact Fr.refl _
  · refine Fr.step State.cutOff_fr rfl rfl ?_
    first | assumption | exact Fr.refl _

theorem execFltAck_fr {a0} {a1} {s} : FrRes [⟨17188258048, 17188258079, 32, 31⟩, ⟨17188257920, 17188257920, 1, 0⟩, ⟨17181966336, 17181966336, 1, 0⟩, ⟨17181967360, 17181967360, 1, 0⟩, ⟨17186226581, 17186257301, 2048, 0⟩, ⟨17181966338, 17181966338, 1, 0⟩, ⟨17181966495, 17181966495, 1, 0⟩, ⟨17186168832, 17186169247, 1, 0⟩, ⟨17188261632, 17188261632, 1, 0⟩, ⟨17181967232, 17181967263, 1, 0⟩, ⟨17188266624, 17188270720, 1024, 0⟩, ⟨17188265991, 17188270087, 1024, 0⟩] [.flt, .evc, .pwr, .pair] s (execFltAck a0 a1 s) := by
  unfold execFltAck
  refine FrRes.next ?_
  refine busWrite_fr (x := ⟨17188258048, 17188258079, 32, 31⟩) (Keys.word_intro (by first | omega | (omega)) (by first | omega | (omega)) (by first | omega | (omega))) (fun u => State.werr_0x2004 (by omega)) rfl rfl ?_ (fun t ht => ?_)
  · first | assumption | exact Fr.refl _
  · refine Fr.forFin ?_ (fun i t ht => ?_)
    · first | assumption | exact Fr.refl _
    · refine Fr.iteh (fun _ => ?_) (fun _ => ?_)
      · refine Fr.wr (xs := [⟨17188266624, 17188270720, 1024, 0⟩]) (Reg.FLT_CAP_CNT_CNT_key (by first | omega | (simp only [List.mem_range] at *; omega))) rfl ?_
        refine Fr.wr (xs := [⟨17188265991, 17188270087, 1024, 0⟩]) (Reg.FLT_CAP_INFO_VALID_key (by first | omega | (simp only [List.mem_range] at *; omega))) rfl ?_
        first | assumption | exact Fr.refl _
      · first | assumption | exact Fr.refl _

theorem execFltPendClear_fr {a0} {a1} {a2} {s} : FrRes [⟨17188257920, 17188257920, 1, 0⟩, ⟨17181966336, 17181966336, 1, 0⟩, ⟨17181967360, 17181967360, 1, 0⟩, ⟨17186226581, 17186257301, 2048, 0⟩, ⟨17181966338, 17181966338, 1, 0⟩, ⟨17181966495, 17181966495, 1, 0⟩, ⟨17186168832, 17186169247, 1, 0⟩, ⟨17188261632, 17188261632, 1, 0⟩, ⟨17181967232, 17181967263, 1, 0⟩, ⟨17188258816, 17188259103, 1, 0⟩, ⟨17188257922, 17188257922, 1, 0⟩] [.flt, .evc, .pwr, .pair] s (execFltPendClear a0 a1 a2 s) := by
  unfold execFltPendClear
  refine FrRes.next ?_
  refine busWrite_fr (x := ⟨17188258816, 17188259103, 128, 31⟩) (Keys.word_intro (by first | omega | (omega)) (by first | omega | (omega)) (by first | omega | (omega))) (fun u => State.werr_0x2004 (by omega)) rfl rfl ?_ (fun t ht => ?_)
  · first | assumption | exact Fr.refl _
  · extract_lets -merge -underBinder +onlyGivenNames x0
    try clear_value x0
    extract_lets -merge -underBinder +onlyGivenNames x1
    refine Fr.cut x1 ?_ (fun h1 => ?_)
    · unfold x1
      refine Fr.forFin ?_ (fun i t ht => ?_)
      · first | assumption | exact Fr.refl _
      · refine Fr.iteh (fun _ => ?_) (fun _ => ?_)
        · refine Fr.wr (xs := [⟨17188258816, 17188259103, 1, 0⟩]) (Reg.FLT_PEND_key (by first | omega | (simp only [List.mem_range] at *; omega))) rfl ?_
          first | assumption | exact Fr.refl _
        · first | assumption | exact Fr.refl _
    try clear_value x1
    refine Fr.step State.showPin_fr rfl rfl ?_
    refine Fr.iteh (fun _ => ?_) (fun _ => ?_)
    · refine Fr.step (State.werr_0x2004 (by omega)) rfl rfl ?_
      first | assumption | exact Fr.refl _
    · first | assumption | exact Fr.refl _

theorem execFltLock_fr {a0} {a1} {s} : FrRes [⟨17188257792, 17188257823, 32, 31⟩, ⟨17188257920, 17188257920, 1, 0⟩, ⟨17181966336, 17181966336, 1, 0⟩, ⟨17181967360, 17181967360, 1, 0⟩, ⟨17186226581, 17186257301, 2048, 0⟩, ⟨17181966338, 17181966338, 1, 0⟩, ⟨17181966495, 17181966495, 1, 0⟩, ⟨17186168832, 17186169247, 1, 0⟩, ⟨17188261632, 17188261632, 1, 0⟩, ⟨17181967232, 17181967263, 1, 0⟩] [.flt, .evc, .pwr, .pair] s (execFltLock a0 a1 s) := by
  unfold execFltLock
  refine FrRes.next ?_
  refine busWrite_fr (x := ⟨17188257792, 17188257823, 32, 31⟩) (Keys.word_intro (by first | omega | (omega)) (by first | omega | (omega)) (by first | omega | (omega))) (fun u => State.werr_0x2004 (by omega)) rfl rfl ?_ (fun t ht => ?_)
  · first | assumption | exact Fr.refl _
  · refine Fr.iteh (fun _ => ?_) (fun _ => ?_)
    · refine Fr.wr (xs := [⟨17188257792, 17188257792, 1, 0⟩]) rfl rfl ?_
      first | assumption | exact Fr.refl _
    · first | assumption | exact Fr.refl _

theorem execFltSw_fr {a0} {a1} {s} : FrRes [⟨17188258432, 17188258463, 32, 31⟩, ⟨17188257920, 17188257920, 1, 0⟩, ⟨17181966336, 17181966336, 1, 0⟩, ⟨17181967360, 17181967360, 1, 0⟩, ⟨17186226581, 17186257301, 2048, 0⟩, ⟨17181966338, 17181966338, 1, 0⟩, ⟨17181966495, 17181966495, 1, 0⟩, ⟨17186168832, 17186169247, 1, 0⟩, ⟨17188261632, 17188261632, 1, 0⟩, ⟨17181967232, 17181967263, 1, 0⟩] [.flt, .evc, .pwr, .pair] s (execFltSw a0 a1 s) := by
  unfold execFltSw
  refine FrRes.next ?_
  refine busWrite_fr (x := ⟨17188258432, 17188258463, 32, 31⟩) (Keys.word_intro (by first | omega | (omega)) (by first | omega | (omega)) (by first | omega | (omega))) (fun u => State.werr_0x2004 (by omega)) rfl rfl ?_ (fun t ht => ?_)
  · first | assumption | exact Fr.refl _
  · refine Fr.iteh (fun _ => ?_) (fun _ => ?_)
    · refine Fr.step State.raiseOcc_fr rfl rfl ?_
      first | assumption | exact Fr.refl _
    · first | assumption | exact Fr.refl _

theorem execFltPinRel_fr {a0} {a1} {s} : FrRes [⟨17188258176, 17188258207, 32, 31⟩, ⟨17188257920, 17188257920, 1, 0⟩, ⟨17181966336, 17181966336, 1, 0⟩, ⟨17181967360, 17181967360, 1, 0⟩, ⟨17186226581, 17186257301, 2048, 0⟩, ⟨17181966338, 17181966338, 1, 0⟩, ⟨17181966495, 17181966495, 1, 0⟩, ⟨17186168832, 17186169247, 1, 0⟩, ⟨17188261632, 17188261632, 1, 0⟩, ⟨17181967232, 17181967263, 1, 0⟩, ⟨17188257922, 17188257922, 1, 0⟩, ⟨17188257923, 17188257923, 1, 0⟩] [.flt, .evc, .pwr, .pair] s (execFltPinRel a0 a1 s) := by
  unfold execFltPinRel
  refine FrRes.next ?_
  refine busWrite_fr (x := ⟨17188258176, 17188258207, 32, 31⟩) (Keys.word_intro (by first | omega | (omega)) (by first | omega | (omega)) (by first | omega | (omega))) (fun u => State.werr_0x2004 (by omega)) rfl rfl ?_ (fun t ht => ?_)
  · first | assumption | exact Fr.refl _
  · refine Fr.step State.showPin_fr rfl rfl ?_
    refine Fr.iteh (fun _ => ?_) (fun _ => ?_)
    · refine Fr.wr (xs := [⟨17188257923, 17188257923, 1, 0⟩]) rfl rfl ?_
      first | assumption | exact Fr.refl _
    · first | assumption | exact Fr.refl _

theorem execFltEngineUnfence_fr {a0} {a1} {s} : FrRes [⟨17188261376, 17188261407, 32, 31⟩, ⟨17188257920, 17188257920, 1, 0⟩, ⟨17181966336, 17181966336, 1, 0⟩, ⟨17181967360, 17181967360, 1, 0⟩, ⟨17186226581, 17186257301, 2048, 0⟩, ⟨17181966338, 17181966338, 1, 0⟩, ⟨17181966495, 17181966495, 1, 0⟩, ⟨17186168832, 17186169247, 1, 0⟩, ⟨17188261632, 17188261632, 1, 0⟩, ⟨17181967232, 17181967263, 1, 0⟩, ⟨17188261376, 17188261391, 1, 0⟩] [.flt, .evc, .pwr, .pair] s (execFltEngineUnfence a0 a1 s) := by
  unfold execFltEngineUnfence
  refine FrRes.next ?_
  refine busWrite_fr (x := ⟨17188261376, 17188261407, 32, 31⟩) (Keys.word_intro (by first | omega | (omega)) (by first | omega | (omega)) (by first | omega | (omega))) (fun u => State.werr_0x2004 (by omega)) rfl rfl ?_ (fun t ht => ?_)
  · first | assumption | exact Fr.refl _
  · refine Fr.forFin ?_ (fun i t ht => ?_)
    · first | assumption | exact Fr.refl _
    · refine Fr.iteh (fun _ => ?_) (fun _ => ?_)
      · extract_lets -merge -underBinder +onlyGivenNames x0
        refine Fr.cut x0 ?_ (fun h0 => ?_)
        · unfold x0
          refine Fr.wr (xs := [⟨17188261376, 17188261391, 1, 0⟩]) (Reg.FLT_FENCE_ENG_key (by first | omega | (simp only [List.mem_range] at *; omega))) rfl ?_
          first | assumption | exact Fr.refl _
        try clear_value x0
        refine Fr.iteh (fun _ => ?_) (fun _ => ?_)
        · refine Fr.step State.startEngine_fr rfl rfl ?_
          first | assumption | exact Fr.refl _
        · first | assumption | exact Fr.refl _
      · first | assumption | exact Fr.refl _

theorem execFltZoneUnfence_fr {a0} {a1} {a2} {s} : FrRes [⟨17188257920, 17188257920, 1, 0⟩, ⟨17181966336, 17181966336, 1, 0⟩, ⟨17181967360, 17181967360, 1, 0⟩, ⟨17186226581, 17186257301, 2048, 0⟩, ⟨17181966338, 17181966338, 1, 0⟩, ⟨17181966495, 17181966495, 1, 0⟩, ⟨17186168832, 17186169247, 1, 0⟩, ⟨17188261632, 17188261632, 1, 0⟩, ⟨17181967232, 17181967263, 1, 0⟩, ⟨17188261888, 17188262559, 1, 0⟩] [.flt, .evc, .pwr, .pair] s (execFltZoneUnfence a0 a1 a2 s) := by
  unfold execFltZoneUnfence
  refine FrRes.next ?_
  refine busWrite_fr (x := ⟨17188261888, 17188262559, 128, 31⟩) (Keys.word_intro (by first | omega | (omega)) (by first | omega | (omega)) (by first | omega | (omega))) (fun u => State.werr_0x2004 (by omega)) rfl rfl ?_ (fun t ht => ?_)
  · first | assumption | exact Fr.refl _
  · refine Fr.forFin ?_ (fun i t ht => ?_)
    · first | assumption | exact Fr.refl _
    · refine Fr.iteh (fun _ => ?_) (fun _ => ?_)
      · refine Fr.wr (xs := [⟨17188261888, 17188262559, 1, 0⟩]) (Reg.FLT_ZFENCE_key (by first | omega | (simp only [List.mem_range] at *; omega))) rfl ?_
        first | assumption | exact Fr.refl _
      · first | assumption | exact Fr.refl _

theorem execFltNetUnfence_fr {a0} {a1} {s} : FrRes [⟨17188261504, 17188261535, 32, 31⟩, ⟨17188257920, 17188257920, 1, 0⟩, ⟨17181966336, 17181966336, 1, 0⟩, ⟨17181967360, 17181967360, 1, 0⟩, ⟨17186226581, 17186257301, 2048, 0⟩, ⟨17181966338, 17181966338, 1, 0⟩, ⟨17181966495, 17181966495, 1, 0⟩, ⟨17186168832, 17186169247, 1, 0⟩, ⟨17188261632, 17188261632, 1, 0⟩, ⟨17181967232, 17181967263, 1, 0⟩, ⟨17188261504, 17188261505, 1, 0⟩] [.flt, .evc, .pwr, .pair] s (execFltNetUnfence a0 a1 s) := by
  unfold execFltNetUnfence
  refine FrRes.next ?_
  refine busWrite_fr (x := ⟨17188261504, 17188261535, 32, 31⟩) (Keys.word_intro (by first | omega | (omega)) (by first | omega | (omega)) (by first | omega | (omega))) (fun u => State.werr_0x2004 (by omega)) rfl rfl ?_ (fun t ht => ?_)
  · first | assumption | exact Fr.refl _
  · refine Fr.forFin ?_ (fun i t ht => ?_)
    · first | assumption | exact Fr.refl _
    · refine Fr.iteh (fun _ => ?_) (fun _ => ?_)
      · refine Fr.wr (xs := [⟨17188261504, 17188261505, 1, 0⟩]) (Reg.FLT_FENCE_NET_key (by first | omega | (simp only [List.mem_range] at *; omega))) rfl ?_
        first | assumption | exact Fr.refl _
      · first | assumption | exact Fr.refl _

end Sys2Proof.Machine
end

