-- ==== Sys2Proof/Laws/FrameFrame.lean ====
section
/-! SUPPORT. What each operation and command of Machine/Frame.lean changes at most: register blocks and zones of the state. -/

namespace Sys2Proof.Machine

theorem execFtEnable_fr {a0} {a1} {s} : FrRes [⟨17200840704, 17200840735, 32, 31⟩, ⟨17200840835, 17200840835, 1, 0⟩, ⟨17181966336, 17181966336, 1, 0⟩, ⟨17181967360, 17181967360, 1, 0⟩, ⟨17186226581, 17186257301, 2048, 0⟩, ⟨17181966338, 17181966338, 1, 0⟩, ⟨17181966495, 17181966495, 1, 0⟩, ⟨17186168832, 17186169247, 1, 0⟩, ⟨17188261632, 17188261632, 1, 0⟩, ⟨17181967232, 17181967263, 1, 0⟩, ⟨17205035139, 17205149827, 8192, 0⟩, ⟨17205035141, 17205149829, 8192, 0⟩, ⟨17205035140, 17205149828, 8192, 0⟩, ⟨17205035136, 17205149824, 8192, 0⟩, ⟨17202937984, 17204379776, 131072, 0⟩, ⟨17202938112, 17204379904, 131072, 0⟩, ⟨17196646528, 17196646528, 1, 0⟩, ⟨17200840832, 17200840832, 1, 0⟩] [.flt, .evc, .pwr, .pair, .ft, .lane, .tl] s (execFtEnable a0 a1 s) := by
  unfold execFtEnable
  refine FrRes.next ?_
  refine busWrite_fr (x := ⟨17200840704, 17200840735, 32, 31⟩) (Keys.word_intro (by first | omega | (omega)) (by first | omega | (omega)) (by first | omega | (omega))) (fun u => State.werr_0x200A (by omega)) rfl rfl ?_ (fun t ht => ?_)
  · first | assumption | exact Fr.refl _
  · refine Fr.iteh (fun _ => ?_) (fun _ => ?_)
    · first | assumption | exact Fr.refl _
    · refine Fr.iteh (fun _ => ?_) (fun _ => ?_)
      · refine Fr.wr (xs := [⟨17200840704, 17200840704, 1, 0⟩]) rfl rfl ?_
        refine Fr.step State.setFt_fr rfl rfl ?_
        first | assumption | exact Fr.refl _
      · refine Fr.iteh (fun _ => ?_) (fun _ => ?_)
        · first | assumption | exact Fr.refl _
        · refine Fr.iteh (fun _ => ?_) (fun _ => ?_)
          · refine Fr.step (State.werr_0x200A (by omega)) rfl rfl ?_
            first | assumption | exact Fr.refl _
          · extract_lets -merge -underBinder +onlyGivenNames x0
            try clear_value (e0 : x0 = _)
            extract_lets -merge -underBinder +onlyGivenNames x1
            extract_lets -merge -underBinder +onlyGivenNames x2
            refine Fr.cut x2 ?_ (fun h2 => ?_)
            · unfold x2
              refine Fr.step State.setFt_fr rfl rfl ?_
              first | assumption | exact Fr.refl _
            try clear_value x2
            refine Fr.step State.tlReconfig_fr rfl rfl ?_
            refine Fr.wr (xs := [⟨17196646528, 17196646528, 1, 0⟩]) rfl rfl ?_
            refine Fr.wr (xs := [⟨17200840832, 17200840832, 1, 0⟩]) rfl rfl ?_
            refine Fr.wr (xs := [⟨17200840704, 17200840704, 1, 0⟩]) rfl rfl ?_
            first | assumption | exact Fr.refl _

theorem execFtDisable_fr {a0} {a1} {s} : FrRes [⟨17200840704, 17200840735, 32, 31⟩, ⟨17200840835, 17200840835, 1, 0⟩, ⟨17181966336, 17181966336, 1, 0⟩, ⟨17181967360, 17181967360, 1, 0⟩, ⟨17186226581, 17186257301, 2048, 0⟩, ⟨17181966338, 17181966338, 1, 0⟩, ⟨17181966495, 17181966495, 1, 0⟩, ⟨17186168832, 17186169247, 1, 0⟩, ⟨17188261632, 17188261632, 1, 0⟩, ⟨17181967232, 17181967263, 1, 0⟩] [.flt, .evc, .pwr, .pair, .ft] s (execFtDisable a0 a1 s) := by
  unfold execFtDisable
  refine FrRes.next ?_
  refine busWrite_fr (x := ⟨17200840704, 17200840735, 32, 31⟩) (Keys.word_intro (by first | omega | (omega)) (by first | omega | (omega)) (by first | omega | (omega))) (fun u => State.werr_0x200A (by omega)) rfl rfl ?_ (fun t ht => ?_)
  · first | assumption | exact Fr.refl _
  · refine Fr.iteh (fun _ => ?_) (fun _ => ?_)
    · first | assumption | exact Fr.refl _
    · refine Fr.wr (xs := [⟨17200840704, 17200840704, 1, 0⟩]) rfl rfl ?_
      refine Fr.step State.setFt_fr rfl rfl ?_
      first | assumption | exact Fr.refl _

theorem execFtCommit_fr {a0} {a1} {s} : FrRes [⟨17200840704, 17200840735, 32, 31⟩, ⟨17200840835, 17200840835, 1, 0⟩, ⟨17181966336, 17181966336, 1, 0⟩, ⟨17181967360, 17181967360, 1, 0⟩, ⟨17186226581, 17186257301, 2048, 0⟩, ⟨17181966338, 17181966338, 1, 0⟩, ⟨17181966495, 17181966495, 1, 0⟩, ⟨17186168832, 17186169247, 1, 0⟩, ⟨17188261632, 17188261632, 1, 0⟩, ⟨17181967232, 17181967263, 1, 0⟩, ⟨17200840960, 17200840960, 1, 0⟩] [.flt, .evc, .pwr, .pair, .ft, .lane] s (execFtCommit a0 a1 s) := by
  unfold execFtCommit
  refine FrRes.next ?_
  refine busWrite_fr (x := ⟨17200840704, 17200840735, 32, 31⟩) (Keys.word_intro (by first | omega | (omega)) (by first | omega | (omega)) (by first | omega | (omega))) (fun u => State.werr_0x200A (by omega)) rfl rfl ?_ (fun t ht => ?_)
  · first | assumption | exact Fr.refl _
  · refine Fr.iteh (fun _ => ?_) (fun _ => ?_)
    · refine Fr.step State.commitBlock_fr2 rfl rfl ?_
      first | assumption | exact Fr.refl _
    · first | assumption | exact Fr.refl _

theorem execCommitGuard_fr {s} : FrRes ([⟨17198743816, 17198743816, 1, 0⟩, ⟨17181966336, 17181966336, 1, 0⟩, ⟨17181967360, 17181967360, 1, 0⟩, ⟨17186226581, 17186257301, 2048, 0⟩, ⟨17181966338, 17181966338, 1, 0⟩, ⟨17181966495, 17181966495, 1, 0⟩, ⟨17186168832, 17186169247, 1, 0⟩, ⟨17198743808, 17198743808, 1, 0⟩, ⟨17198743553, 17198743553, 1, 0⟩, ⟨17198753156, 17198767492, 2048, 0⟩, ⟨17198743688, 17198743695, 1, 0⟩, ⟨17196646656, 17196646656, 1, 0⟩, ⟨17196646401, 17196646401, 1, 0⟩, ⟨17196647812, 17196647812, 1, 0⟩, ⟨17196647808, 17196647808, 1, 0⟩, ⟨17196646544, 17196646544, 1, 0⟩, ⟨17196646536, 17196646536, 1, 0⟩, ⟨17198753168, 17198767504, 2048, 0⟩, ⟨17198753152, 17198767488, 2048, 0⟩, ⟨17196646533, 17196646533, 1, 0⟩, ⟨17196646529, 17196646529, 1, 0⟩, ⟨17198753155, 17198767491, 2048, 0⟩, ⟨17198753154, 17198767490, 2048, 0⟩, ⟨17198753280, 17198767616, 2048, 0⟩, ⟨17205035139, 17205149827, 8192, 0⟩, ⟨17205035141, 17205149829, 8192, 0⟩, ⟨17205035140, 17205149828, 8192, 0⟩, ⟨17205035136, 17205149824, 8192, 0⟩, ⟨17202937984, 17204379776, 131072, 0⟩, ⟨17211359376, 17211408272, 256, 0⟩] ++ [⟨17207138304, 17207138975, 1, 0⟩, ⟨17207136256, 17207137664, 128, 0⟩, ⟨17188261632, 17188261632, 1, 0⟩, ⟨17181967232, 17181967263, 1, 0⟩, ⟨17200840960, 17200840960, 1, 0⟩, ⟨17200840705, 17200840705, 1, 0⟩, ⟨17207132416, 17207132416, 1, 0⟩, ⟨17207132161, 17207132161, 1, 0⟩, ⟨17209229568, 17209229568, 1, 0⟩, ⟨17209229313, 17209229313, 1, 0⟩]) [.sa, .hlth, .pair, .lane, .pwr, .flt, .evc, .layer, .tl, .free, .cal, .ft, .lsc] s (execCommitGuard s) := by
  unfold execCommitGuard
  refine FrRes.next ?_
  refine Fr.step State.guardPass_fr rfl rfl ?_
  first | assumption | exact Fr.refl _

theorem execImmediateCommitLive_fr {a0} {s} : FrRes ([⟨17196646401, 17196646401, 1, 0⟩, ⟨17196778369, 17196778369, 1, 0⟩, ⟨17198743688, 17198743695, 1, 0⟩, ⟨17198752656, 17198766992, 2048, 0⟩, ⟨17198743680, 17198743687, 1, 0⟩, ⟨17198743553, 17198743553, 1, 0⟩, ⟨17198752640, 17198766976, 2048, 0⟩, ⟨17181966336, 17181966336, 1, 0⟩, ⟨17181967360, 17181967360, 1, 0⟩, ⟨17186226581, 17186257301, 2048, 0⟩, ⟨17181966338, 17181966338, 1, 0⟩, ⟨17181966495, 17181966495, 1, 0⟩, ⟨17186168832, 17186169247, 1, 0⟩, ⟨17198743696, 17198743703, 1, 0⟩, ⟨17200843408, 17200843408, 1, 0⟩, ⟨17198743816, 17198743816, 1, 0⟩, ⟨17198743808, 17198743808, 1, 0⟩, ⟨17198753156, 17198767492, 2048, 0⟩, ⟨17196646656, 17196646656, 1, 0⟩, ⟨17196647812, 17196647812, 1, 0⟩, ⟨17196647808, 17196647808, 1, 0⟩, ⟨17196646544, 17196646544, 1, 0⟩, ⟨17196646536, 17196646536, 1, 0⟩, ⟨17198753168, 17198767504, 2048, 0⟩, ⟨17198753152, 17198767488, 2048, 0⟩, ⟨17196646533, 17196646533, 1, 0⟩, ⟨17196646529, 17196646529, 1, 0⟩, ⟨17198753155, 17198767491, 2048, 0⟩, ⟨17198753154, 17198767490, 2048, 0⟩, ⟨17198753280, 17198767616, 2048, 0⟩] ++ [⟨17205035139, 17205149827, 8192, 0⟩, ⟨17205035141, 17205149829, 8192, 0⟩, ⟨17205035140, 17205149828, 8192, 0⟩, ⟨17205035136, 17205149824, 8192, 0⟩, ⟨17202937984, 17204379776, 131072, 0⟩, ⟨17211359376, 17211408272, 256, 0⟩, ⟨17207138304, 17207138975, 1, 0⟩, ⟨17207136256, 17207137664, 128, 0⟩, ⟨17188261632, 17188261632, 1, 0⟩, ⟨17181967232, 17181967263, 1, 0⟩, ⟨17200840960, 17200840960, 1, 0⟩, ⟨17200840705, 17200840705, 1, 0⟩, ⟨17207132416, 17207132416, 1, 0⟩, ⟨17207132161, 17207132161, 1, 0⟩, ⟨17209229568, 17209229568, 1, 0⟩, ⟨17209229313, 17209229313, 1, 0⟩, ⟨17209229443, 17209229443, 1, 0⟩, ⟨17209229442, 17209229442, 1, 0⟩, ⟨17209231360, 17209231360, 1, 0⟩, ⟨17209231504, 17209231504, 1, 0⟩, ⟨17209231488, 17209231488, 1, 0⟩, ⟨17209231376, 17209231376, 1, 0⟩, ⟨17209245696, 17209251736, 8, 0⟩]) [.live, .sa, .free, .layer, .pwr, .flt, .evc, .ft, .hlth, .lsc, .cal, .pair, .lane, .tl] s (execImmediateCommitLive a0 s) := by
  unfold execImmediateCommitLive
  refine FrRes.next ?_
  split
  · refine Fr.iteh (fun _ => ?_) (fun _ => ?_)
    · refine Fr.step State.saLive_fr rfl rfl ?_
      first | assumption | exact Fr.refl _
    · first | assumption | exact Fr.refl _
  · refine Fr.step State.layerLive_fr rfl rfl ?_
    first | assumption | exact Fr.refl _
  · refine Fr.iteh (fun _ => ?_) (fun _ => ?_)
    · refine Fr.step State.ftChange_fr rfl rfl ?_
      refine Fr.step State.ftLive_fr rfl rfl ?_
      first | assumption | exact Fr.refl _
    · first | assumption | exact Fr.refl _
  · refine Fr.iteh (fun _ => ?_) (fun _ => ?_)
    · refine Fr.step State.hlthLive_fr rfl rfl ?_
      first | assumption | exact Fr.refl _
    · first | assumption | exact Fr.refl _
  · refine Fr.iteh (fun _ => ?_) (fun _ => ?_)
    · refine Fr.step State.lscLive_fr rfl rfl ?_
      first | assumption | exact Fr.refl _
    · first | assumption | exact Fr.refl _

theorem execBoundaryFix_fr {s} : FrRes [⟨17202938496, 17204380288, 131072, 0⟩, ⟨17181966336, 17181966336, 1, 0⟩, ⟨17181967360, 17181967360, 1, 0⟩, ⟨17186226581, 17186257301, 2048, 0⟩, ⟨17181966338, 17181966338, 1, 0⟩, ⟨17181966495, 17181966495, 1, 0⟩, ⟨17186168832, 17186169247, 1, 0⟩, ⟨17209231744, 17209231744, 1, 0⟩, ⟨17209229445, 17209229445, 1, 0⟩] [.ft, .safe, .flt, .pwr, .evc] s (execBoundaryFix s) := by
  unfold execBoundaryFix
  refine FrRes.next ?_
  refine Fr.iteh (fun _ => ?_) (fun _ => ?_)
  · first | assumption | exact Fr.refl _
  · extract_lets -merge -underBinder +onlyGivenNames x0
    try clear_value x0
    extract_lets -merge -underBinder +onlyGivenNames x1
    extract_lets -merge -underBinder +onlyGivenNames x2
    refine Fr.cut x2 ?_ (fun h2 => ?_)
    · unfold x2
      refine Fr.step State.setFt_fr rfl rfl ?_
      first | assumption | exact Fr.refl _
    try clear_value x2
    extract_lets -merge -underBinder +onlyGivenNames x3
    refine Fr.cut x3 ?_ (fun h3 => ?_)
    · unfold x3
      refine Fr.forFin ?_ (fun i t ht => ?_)
      · first | assumption | exact Fr.refl _
      · refine Fr.iteh (fun _ => ?_) (fun _ => ?_)
        · refine Fr.wr (xs := [⟨17202938496, 17204380288, 131072, 0⟩]) (Reg.TL_LATDLY_DK_key (by first | omega | (simp only [List.mem_range] at *; omega))) rfl ?_
          first | assumption | exact Fr.refl _
        · first | assumption | exact Fr.refl _
    try clear_value x3
    extract_lets -merge -underBinder +onlyGivenNames x4
    refine Fr.cut x4 ?_ (fun h4 => ?_)
    · unfold x4
      refine Fr.step State.safeFix_fr rfl rfl ?_
      first | assumption | exact Fr.refl _
    try clear_value x4
    split
    · refine Fr.iteh (fun _ => ?_) (fun _ => ?_)
      · first | assumption | exact Fr.refl _
      · refine Fr.step State.riseLate_fr rfl rfl ?_
        first | assumption | exact Fr.refl _
    · first | assumption | exact Fr.refl _

theorem State.phaseMiss_fr {s} {a1} : Fr [⟨17181966336, 17181966336, 1, 0⟩, ⟨17181967360, 17181967360, 1, 0⟩, ⟨17186226581, 17186257301, 2048, 0⟩, ⟨17181966338, 17181966338, 1, 0⟩, ⟨17181966495, 17181966495, 1, 0⟩, ⟨17186168832, 17186169247, 1, 0⟩, ⟨17205035920, 17205150608, 8192, 0⟩, ⟨17205035146, 17205149834, 8192, 0⟩] [.pwr, .flt, .evc] s (State.phaseMiss s a1) := by
  unfold State.phaseMiss
  refine Fr.step State.fire_fr rfl rfl ?_
  refine Fr.inc (xs := [⟨17205035920, 17205150608, 8192, 0⟩]) (Reg.LANE_CNT_PHASE_MISS_key (by first | omega | (simp only [List.mem_range] at *; omega))) rfl ?_
  refine Fr.wr (xs := [⟨17205035146, 17205149834, 8192, 0⟩]) (Reg.LANE_STATUS_PHASE_MISS_key (by first | omega | (simp only [List.mem_range] at *; omega))) rfl ?_
  first | assumption | exact Fr.refl _

theorem execLatchDeparture_fr {a0} {s} : FrRes [⟨17181966336, 17181966336, 1, 0⟩, ⟨17181967360, 17181967360, 1, 0⟩, ⟨17186226581, 17186257301, 2048, 0⟩, ⟨17181966338, 17181966338, 1, 0⟩, ⟨17181966495, 17181966495, 1, 0⟩, ⟨17186168832, 17186169247, 1, 0⟩, ⟨17205035920, 17205150608, 8192, 0⟩, ⟨17205035146, 17205149834, 8192, 0⟩, ⟨17196778624, 17196778624, 1, 0⟩, ⟨17196779520, 17196780928, 128, 0⟩, ⟨17196785664, 17196791704, 8, 0⟩, ⟨17196778370, 17196778370, 1, 0⟩, ⟨17196778369, 17196778369, 1, 0⟩, ⟨17194549776, 17194549776, 1, 0⟩, ⟨17192452352, 17192452352, 1, 0⟩, ⟨17192452608, 17192452608, 1, 0⟩, ⟨17192452480, 17192452480, 1, 0⟩, ⟨17192452229, 17192452229, 1, 0⟩, ⟨17192452228, 17192452228, 1, 0⟩, ⟨17188261632, 17188261632, 1, 0⟩, ⟨17181967232, 17181967263, 1, 0⟩, ⟨17223909508, 17223909508, 1, 0⟩, ⟨17223909507, 17223909507, 1, 0⟩, ⟨17223909509, 17223909509, 1, 0⟩, ⟨17223910272, 17223910283, 1, 0⟩, ⟨17223910400, 17223910400, 1, 0⟩] [.lane, .tl, .pwr, .flt, .evc, .ft, .free, .mem, .memc, .pair] s (execLatchDeparture a0 s) := by
  unfold execLatchDeparture
  refine FrRes.next ?_
  split
  · first | assumption | exact Fr.refl _
  · refine Fr.iteh (fun _ => ?_) (fun _ => ?_)
    · first | assumption | exact Fr.refl _
    · extract_lets -merge -underBinder +onlyGivenNames x0
      refine Fr.cut x0 ?_ (fun h0 => ?_)
      · unfold x0
        refine Fr.forFin ?_ (fun i t ht => ?_)
        · first | assumption | exact Fr.refl _
        · refine Fr.iteh (fun _ => ?_) (fun _ => ?_)
          · refine Fr.step State.streamSend_fr rfl rfl ?_
            refine Fr.iteh (fun _ => ?_) (fun _ => ?_)
            · refine Fr.step State.phaseMiss_fr rfl rfl ?_
              first | assumption | exact Fr.refl _
            · first | assumption | exact Fr.refl _
          · first | assumption | exact Fr.refl _
      try clear_value x0
      extract_lets -merge -underBinder +onlyGivenNames x1
      extract_lets -merge -underBinder +onlyGivenNames x2
      refine Fr.cut x2 ?_ (fun h2 => ?_)
      · unfold x2
        refine Fr.step State.fire_fr rfl rfl ?_
        refine Fr.step State.setFt_fr rfl rfl ?_
        first | assumption | exact Fr.refl _
      try clear_value x2
      extract_lets -merge -underBinder +onlyGivenNames x3
      refine Fr.cut x3 ?_ (fun h3 => ?_)
      · unfold x3
        refine Fr.wr (xs := [⟨17196778624, 17196778624, 1, 0⟩]) rfl rfl ?_
        first | assumption | exact Fr.refl _
      try clear_value x3
      extract_lets -merge -underBinder +onlyGivenNames x4
      refine Fr.cut x4 ?_ (fun h4 => ?_)
      · unfold x4
        refine Fr.forFin ?_ (fun i t ht => ?_)
        · first | assumption | exact Fr.refl _
        · refine Fr.wr (xs := [⟨17196779520, 17196780928, 128, 0⟩]) (Reg.SA_DRV_PCRC_CRC_key (by first | omega | (simp only [List.mem_range] at *; omega))) rfl ?_
          first | assumption | exact Fr.refl _
      try clear_value x4
      extract_lets -merge -underBinder +onlyGivenNames x5
      refine Fr.cut x5 ?_ (fun h5 => ?_)
      · unfold x5
        refine Fr.forFin ?_ (fun i t ht => ?_)
        · first | assumption | exact Fr.refl _
        · refine Fr.wr (xs := [⟨17196785664, 17196791704, 8, 0⟩]) (Reg.SA_DRV_ZCODE_key (by first | omega | (simp only [List.mem_range] at *; omega))) rfl ?_
          first | assumption | exact Fr.refl _
      try clear_value x5
      extract_lets -merge -underBinder +onlyGivenNames x6
      refine Fr.cut x6 ?_ (fun h6 => ?_)
      · unfold x6
        refine Fr.iteh (fun _ => ?_) (fun _ => ?_)
        · refine Fr.wr (xs := [⟨17196778370, 17196778370, 1, 0⟩]) rfl rfl ?_
          refine Fr.wr (xs := [⟨17196778369, 17196778369, 1, 0⟩]) rfl rfl ?_
          refine Fr.step State.wbHeader_fr rfl rfl ?_
          first | assumption | exact Fr.refl _
        · first | assumption | exact Fr.refl _
      try clear_value x6
      refine Fr.step State.pairRecord_fr rfl rfl ?_
      first | assumption | exact Fr.refl _

theorem execFrameBoundary_fr {a0} {s} : FrRes ([⟨17181966336, 17181966336, 1, 0⟩, ⟨17181967360, 17181967360, 1, 0⟩, ⟨17186226581, 17186257301, 2048, 0⟩, ⟨17181966338, 17181966338, 1, 0⟩, ⟨17181966495, 17181966495, 1, 0⟩, ⟨17186168832, 17186169247, 1, 0⟩, ⟨17211359376, 17211408272, 256, 0⟩, ⟨17202941584, 17204383376, 131072, 0⟩, ⟨17202937996, 17204379788, 131072, 0⟩, ⟨17205035139, 17205149827, 8192, 0⟩, ⟨17205035141, 17205149829, 8192, 0⟩, ⟨17205035140, 17205149828, 8192, 0⟩, ⟨17205035136, 17205149824, 8192, 0⟩, ⟨17202937984, 17204379776, 131072, 0⟩, ⟨17219715203, 17219715203, 1, 0⟩, ⟨17219715204, 17219715204, 1, 0⟩, ⟨17219723265, 17219725313, 2048, 0⟩, ⟨17219723266, 17219725314, 2048, 0⟩, ⟨17219715205, 17219715205, 1, 0⟩, ⟨17188261632, 17188261632, 1, 0⟩, ⟨17181967232, 17181967263, 1, 0⟩, ⟨17196646400, 17198743551, 1, 0⟩, ⟨17198743552, 17200840703, 1, 0⟩, ⟨17194557440, 17194573724, 4, 0⟩, ⟨17194549776, 17194549776, 1, 0⟩, ⟨17192452352, 17192452352, 1, 0⟩, ⟨17192452608, 17192452608, 1, 0⟩, ⟨17192452480, 17192452480, 1, 0⟩, ⟨17192452229, 17192452229, 1, 0⟩, ⟨17192452228, 17192452228, 1, 0⟩] ++ [⟨17194615425, 17194618497, 1024, 0⟩, ⟨17194615296, 17194618368, 1024, 0⟩, ⟨17194549761, 17194549761, 1, 0⟩, ⟨17194549764, 17194549764, 1, 0⟩, ⟨17213423616, 17215520767, 1, 0⟩, ⟨17200840704, 17202937855, 1, 0⟩, ⟨17209229312, 17211326463, 1, 0⟩, ⟨17221814288, 17221814288, 1, 0⟩, ⟨17221814272, 17221814272, 1, 0⟩, ⟨17207132160, 17209229311, 1, 0⟩, ⟨17223910144, 17223910144, 1, 0⟩, ⟨17223909508, 17223909508, 1, 0⟩, ⟨17223909507, 17223909507, 1, 0⟩, ⟨17223909509, 17223909509, 1, 0⟩, ⟨17223910272, 17223910283, 1, 0⟩, ⟨17223910400, 17223910400, 1, 0⟩, ⟨17230200976, 17230200976, 1, 0⟩, ⟨17230200962, 17230200962, 1, 0⟩, ⟨17230200968, 17230200968, 1, 0⟩]) [.pwr, .flt, .evc, .cal, .lsc, .free, .tl, .pair, .lane, .ft, .hlth, .thm, .safe, .time, .sa, .layer, .maskin, .mem, .memc, .win, .live] s (execFrameBoundary a0 s) := by
  unfold execFrameBoundary
  refine FrRes.next ?_
  refine Fr.iteh (fun _ => ?_) (fun _ => ?_)
  · refine Fr.step State.boundaryNow_fr rfl rfl ?_
    first | assumption | exact Fr.refl _
  · first | assumption | exact Fr.refl _

theorem execPassADone_fr {a0} {s} : FrRes ([⟨17181966336, 17181966336, 1, 0⟩, ⟨17181967360, 17181967360, 1, 0⟩, ⟨17186226581, 17186257301, 2048, 0⟩, ⟨17181966338, 17181966338, 1, 0⟩, ⟨17181966495, 17181966495, 1, 0⟩, ⟨17186168832, 17186169247, 1, 0⟩, ⟨17194549776, 17194549776, 1, 0⟩, ⟨17192452352, 17192452352, 1, 0⟩, ⟨17192452608, 17192452608, 1, 0⟩, ⟨17192452480, 17192452480, 1, 0⟩, ⟨17192452229, 17192452229, 1, 0⟩, ⟨17192452228, 17192452228, 1, 0⟩, ⟨17188261632, 17188261632, 1, 0⟩, ⟨17181967232, 17181967263, 1, 0⟩, ⟨17196778376, 17196778376, 1, 0⟩, ⟨17196778384, 17196778384, 1, 0⟩, ⟨17196778496, 17196778496, 1, 0⟩, ⟨17196647952, 17196647952, 1, 0⟩, ⟨17196647940, 17196647940, 1, 0⟩, ⟨17196647936, 17196647936, 1, 0⟩, ⟨17211359376, 17211408272, 256, 0⟩, ⟨17209229443, 17209229443, 1, 0⟩, ⟨17209229442, 17209229442, 1, 0⟩, ⟨17209231360, 17209231360, 1, 0⟩, ⟨17209231504, 17209231504, 1, 0⟩, ⟨17209231488, 17209231488, 1, 0⟩, ⟨17209231376, 17209231376, 1, 0⟩, ⟨17209245696, 17209251736, 8, 0⟩, ⟨17223909508, 17223909508, 1, 0⟩, ⟨17223909507, 17223909507, 1, 0⟩] ++ [⟨17223909509, 17223909509, 1, 0⟩, ⟨17223910272, 17223910283, 1, 0⟩, ⟨17223910400, 17223910400, 1, 0⟩, ⟨17200843016, 17200843016, 1, 0⟩, ⟨17200843008, 17200843008, 1, 0⟩, ⟨17200840837, 17200840837, 1, 0⟩]) [.free, .mem, .flt, .pwr, .evc, .memc, .sa, .thm, .pair, .lane, .ft, .lsc] s (execPassADone a0 s) := by
  unfold execPassADone
  refine FrRes.next ?_
  split
  · refine Fr.iteh (fun _ => ?_) (fun _ => ?_)
    · first | assumption | exact Fr.refl _
    · extract_lets -merge -underBinder +onlyGivenNames x0
      refine Fr.cut x0.2 ?_ (fun h0 => ?_)
      · unfold x0
        refine Fr.step State.compose_fr rfl rfl ?_
        first | assumption | exact Fr.refl _
      try clear_value x0
      extract_lets -merge -underBinder +onlyGivenNames x1
      refine Fr.cut x1 ?_ (fun h1 => ?_)
      · unfold x1
        first | assumption | exact Fr.refl _
      try clear_value x1
      extract_lets -merge -underBinder +onlyGivenNames x2
      try clear_value x2
      extract_lets -merge -underBinder +onlyGivenNames x3
      extract_lets -merge -underBinder +onlyGivenNames x4
      refine Fr.cut x4 ?_ (fun h4 => ?_)
      · unfold x4
        refine Fr.step State.setSa_fr rfl rfl ?_
        first | assumption | exact Fr.refl _
      try clear_value x4
      extract_lets -merge -underBinder +onlyGivenNames x5
      refine Fr.cut x5 ?_ (fun h5 => ?_)
      · unfold x5
        refine Fr.iteh (fun _ => ?_) (fun _ => ?_)
        · unfold State.kalFail
          try dsimp -zeta only
          refine Fr.step State.raise_fr rfl rfl ?_
          refine Fr.step State.fire_fr rfl rfl ?_
          refine Fr.inc (xs := [⟨17196647952, 17196647952, 1, 0⟩]) rfl rfl ?_
          refine Fr.wr (xs := [⟨17196647940, 17196647940, 1, 0⟩]) rfl rfl ?_
          refine Fr.wr (xs := [⟨17196647936, 17196647936, 1, 0⟩]) rfl rfl ?_
          first | assumption | exact Fr.refl _
        · first | assumption | exact Fr.refl _
      try clear_value x5
      extract_lets -merge -underBinder +onlyGivenNames x6
      extract_lets -merge -underBinder +onlyGivenNames x7
      extract_lets -merge -underBinder +onlyGivenNames x8
      refine Fr.cut x8 ?_ (fun h8 => ?_)
      · unfold x8
        refine Fr.step State.takeRecords_fr rfl rfl ?_
        first | assumption | exact Fr.refl _
      try clear_value x8
      extract_lets -merge -underBinder +onlyGivenNames x9
      refine Fr.cut x9 ?_ (fun h9 => ?_)
      · unfold x9
        refine Fr.iteh (fun _ => ?_) (fun _ => ?_)
        · refine Fr.step State.pairSend_fr rfl rfl ?_
          first | assumption | exact Fr.refl _
        · first | assumption | exact Fr.refl _
      try clear_value x9
      extract_lets -merge -underBinder +onlyGivenNames x10
      extract_lets -merge -underBinder +onlyGivenNames x11
      refine Fr.cut x11 ?_ (fun h11 => ?_)
      · unfold x11
        refine Fr.step State.setFt_fr rfl rfl ?_
        first | assumption | exact Fr.refl _
      try clear_value x11
      refine Fr.iteh (fun _ => ?_) (fun _ => ?_)
      · refine Fr.step State.lscCodes_fr rfl rfl ?_
        first | assumption | exact Fr.refl _
      · refine Fr.step State.passAAborts_fr rfl rfl ?_
        first | assumption | exact Fr.refl _
  · first | assumption | exact Fr.refl _

theorem execPassAAbandon_fr {s} : FrRes [⟨17223909508, 17223909508, 1, 0⟩, ⟨17223909507, 17223909507, 1, 0⟩, ⟨17181966336, 17181966336, 1, 0⟩, ⟨17181967360, 17181967360, 1, 0⟩, ⟨17186226581, 17186257301, 2048, 0⟩, ⟨17181966338, 17181966338, 1, 0⟩, ⟨17181966495, 17181966495, 1, 0⟩, ⟨17186168832, 17186169247, 1, 0⟩, ⟨17223909509, 17223909509, 1, 0⟩, ⟨17223910272, 17223910283, 1, 0⟩, ⟨17223910400, 17223910400, 1, 0⟩, ⟨17200843016, 17200843016, 1, 0⟩, ⟨17200843008, 17200843008, 1, 0⟩, ⟨17200840837, 17200840837, 1, 0⟩, ⟨17200843280, 17200843280, 1, 0⟩, ⟨17200840838, 17200840838, 1, 0⟩] [.ft, .pair, .lane, .pwr, .flt, .evc] s (execPassAAbandon s) := by
  unfold execPassAAbandon
  refine FrRes.next ?_
  split
  · first | assumption | exact Fr.refl _
  · refine Fr.iteh (fun _ => ?_) (fun _ => ?_)
    · first | assumption | exact Fr.refl _
    · extract_lets -merge -underBinder +onlyGivenNames x0
      try clear_value (e0 : x0 = _)
      extract_lets -merge -underBinder +onlyGivenNames x1
      extract_lets -merge -underBinder +onlyGivenNames x2
      refine Fr.cut x2 ?_ (fun h2 => ?_)
      · unfold x2
        refine Fr.step State.setFt_fr rfl rfl ?_
        first | assumption | exact Fr.refl _
      try clear_value x2
      extract_lets -merge -underBinder +onlyGivenNames x3
      refine Fr.cut x3 ?_ (fun h3 => ?_)
      · unfold x3
        refine Fr.step State.passAAborts_fr rfl rfl ?_
        refine Fr.inc (xs := [⟨17200843280, 17200843280, 1, 0⟩]) rfl rfl ?_
        refine Fr.wr (xs := [⟨17200840838, 17200840838, 1, 0⟩]) rfl rfl ?_
        first | assumption | exact Fr.refl _
      try clear_value x3
      refine Fr.step State.raise_fr rfl rfl ?_
      refine Fr.step State.fire_fr rfl rfl ?_
      first | assumption | exact Fr.refl _

theorem execNominalBoundaryPassed_fr {s} : FrRes [⟨17181966336, 17181966336, 1, 0⟩, ⟨17181967360, 17181967360, 1, 0⟩, ⟨17186226581, 17186257301, 2048, 0⟩, ⟨17181966338, 17181966338, 1, 0⟩, ⟨17181966495, 17181966495, 1, 0⟩, ⟨17186168832, 17186169247, 1, 0⟩, ⟨17200840834, 17200840834, 1, 0⟩] [.pwr, .flt, .evc] s (execNominalBoundaryPassed s) := by
  unfold execNominalBoundaryPassed
  refine FrRes.next ?_
  refine Fr.iteh (fun _ => ?_) (fun _ => ?_)
  · refine Fr.step State.fire_fr rfl rfl ?_
    refine Fr.wr (xs := [⟨17200840834, 17200840834, 1, 0⟩]) rfl rfl ?_
    first | assumption | exact Fr.refl _
  · first | assumption | exact Fr.refl _

theorem execLineSlotStart_fr {a0} {s} : FrRes ([⟨17200843520, 17200843520, 1, 0⟩, ⟨17200842512, 17200842512, 1, 0⟩, ⟨17200842496, 17200842496, 1, 0⟩, ⟨17200843664, 17200843664, 1, 0⟩, ⟨17200843648, 17200843648, 1, 0⟩, ⟨17181966336, 17181966336, 1, 0⟩, ⟨17181967360, 17181967360, 1, 0⟩, ⟨17186226581, 17186257301, 2048, 0⟩, ⟨17181966338, 17181966338, 1, 0⟩, ⟨17181966495, 17181966495, 1, 0⟩, ⟨17186168832, 17186169247, 1, 0⟩, ⟨17194549776, 17194549776, 1, 0⟩, ⟨17192452352, 17192452352, 1, 0⟩, ⟨17192452608, 17192452608, 1, 0⟩, ⟨17192452480, 17192452480, 1, 0⟩, ⟨17192452229, 17192452229, 1, 0⟩, ⟨17192452228, 17192452228, 1, 0⟩, ⟨17188261632, 17188261632, 1, 0⟩, ⟨17181967232, 17181967263, 1, 0⟩, ⟨17200843016, 17200843016, 1, 0⟩, ⟨17200843008, 17200843008, 1, 0⟩, ⟨17200840837, 17200840837, 1, 0⟩, ⟨17200840833, 17200840833, 1, 0⟩, ⟨17223909508, 17223909508, 1, 0⟩, ⟨17223909507, 17223909507, 1, 0⟩, ⟨17223909509, 17223909509, 1, 0⟩, ⟨17223910272, 17223910283, 1, 0⟩, ⟨17223910400, 17223910400, 1, 0⟩, ⟨17211359376, 17211408272, 256, 0⟩, ⟨17209229443, 17209229443, 1, 0⟩] ++ [⟨17209229442, 17209229442, 1, 0⟩, ⟨17209231360, 17209231360, 1, 0⟩, ⟨17209231504, 17209231504, 1, 0⟩, ⟨17209231488, 17209231488, 1, 0⟩, ⟨17209231376, 17209231376, 1, 0⟩, ⟨17209245696, 17209251736, 8, 0⟩, ⟨17200843392, 17200843392, 1, 0⟩]) [.ft, .pwr, .flt, .evc, .free, .mem, .memc, .pair, .lane, .lsc, .tl] s (execLineSlotStart a0 s) := by
  unfold execLineSlotStart
  refine FrRes.next ?_
  refine Fr.iteh (fun _ => ?_) (fun _ => ?_)
  · first | assumption | exact Fr.refl _
  · extract_lets -merge -underBinder +onlyGivenNames x0
    try clear_value (e0 : x0 = _)
    extract_lets -merge -underBinder +onlyGivenNames x1
    try clear_value x1
    extract_lets -merge -underBinder +onlyGivenNames x2
    extract_lets -merge -underBinder +onlyGivenNames x3
    refine Fr.cut x3 ?_ (fun h3 => ?_)
    · unfold x3
      refine Fr.step State.setFt_fr rfl rfl ?_
      first | assumption | exact Fr.refl _
    try clear_value x3
    extract_lets -merge -underBinder +onlyGivenNames x4
    refine Fr.cut x4 ?_ (fun h4 => ?_)
    · unfold x4
      refine Fr.iteh (fun _ => ?_) (fun _ => ?_)
      · refine Fr.inc (xs := [⟨17200843520, 17200843520, 1, 0⟩]) rfl rfl ?_
        first | assumption | exact Fr.refl _
      · first | assumption | exact Fr.refl _
    try clear_value x4
    extract_lets -merge -underBinder +onlyGivenNames x5
    refine Fr.cut x5 ?_ (fun h5 => ?_)
    · unfold x5
      refine Fr.wrB (xs := [⟨17200842512, 17200842512, 1, 0⟩]) rfl rfl ?_
      refine Fr.wr (xs := [⟨17200842496, 17200842496, 1, 0⟩]) rfl rfl ?_
      first | assumption | exact Fr.refl _
    try clear_value x5
    split
    · refine Fr.iteh (fun _ => ?_) (fun _ => ?_)
      · first | assumption | exact Fr.refl _
      · split
        · refine Fr.step State.underrun_fr rfl rfl ?_
          first | assumption | exact Fr.refl _
        · extract_lets -merge -underBinder +onlyGivenNames x6
          refine Fr.cut x6 ?_ (fun h6 => ?_)
          · unfold x6
            refine Fr.forFin ?_ (fun i t ht => ?_)
            · first | assumption | exact Fr.refl _
            · refine Fr.iteh (fun _ => ?_) (fun _ => ?_)
              · refine Fr.step State.sendLine_fr rfl rfl ?_
                first | assumption | exact Fr.refl _
              · first | assumption | exact Fr.refl _
          try clear_value x6
          split
          · refine Fr.step State.setFt_fr rfl rfl ?_
            first | assumption | exact Fr.refl _
          · first | assumption | exact Fr.refl _
    · first | assumption | exact Fr.refl _

theorem execLineBufferWatermark_fr {a0} {a1} {s} : FrRes [⟨17200840836, 17200840836, 1, 0⟩, ⟨17200843520, 17200843520, 1, 0⟩] [.ft] s (execLineBufferWatermark a0 a1 s) := by
  unfold execLineBufferWatermark
  refine FrRes.next ?_
  extract_lets -merge -underBinder +onlyGivenNames x0
  try clear_value (e0 : x0 = _)
  extract_lets -merge -underBinder +onlyGivenNames x1
  try clear_value x1
  extract_lets -merge -underBinder +onlyGivenNames x2
  try clear_value x2
  extract_lets -merge -underBinder +onlyGivenNames x3
  extract_lets -merge -underBinder +onlyGivenNames x4
  refine Fr.cut x4 ?_ (fun h4 => ?_)
  · unfold x4
    refine Fr.step State.setFt_fr rfl rfl ?_
    first | assumption | exact Fr.refl _
  try clear_value x4
  extract_lets -merge -underBinder +onlyGivenNames x5
  refine Fr.cut x5 ?_ (fun h5 => ?_)
  · unfold x5
    refine Fr.wrB (xs := [⟨17200840836, 17200840836, 1, 0⟩]) rfl rfl ?_
    first | assumption | exact Fr.refl _
  try clear_value x5
  refine Fr.iteh (fun _ => ?_) (fun _ => ?_)
  · refine Fr.inc (xs := [⟨17200843520, 17200843520, 1, 0⟩]) rfl rfl ?_
    first | assumption | exact Fr.refl _
  · first | assumption | exact Fr.refl _

theorem State.sendZone_fr {s} {a1} {a2} {a3} : Fr [] [.lane, .tl] s (State.sendZone s a1 a2 a3) := by
  unfold State.sendZone
  extract_lets -merge -underBinder +onlyGivenNames x0
  extract_lets -merge -underBinder +onlyGivenNames x1
  refine Fr.cut x1 ?_ (fun h1 => ?_)
  · unfold x1
    refine Fr.step State.streamSend_fr rfl rfl ?_
    first | assumption | exact Fr.refl _
  try clear_value x1
  refine Fr.iteh (fun _ => ?_) (fun _ => ?_)
  · refine Fr.step State.streamSend_fr rfl rfl ?_
    first | assumption | exact Fr.refl _
  · first | assumption | exact Fr.refl _

theorem State.keepEcho_fr {s} {a1} {a2} : Fr [] [.tl] s (State.keepEcho s a1 a2) := by
  unfold State.keepEcho
  refine Fr.iteh (fun _ => ?_) (fun _ => ?_)
  · first | assumption | exact Fr.refl _
  · refine Fr.step State.setPort_fr rfl rfl ?_
    first | assumption | exact Fr.refl _

theorem execStartOfBlanking_fr {s} : FrRes [⟨17181966336, 17181966336, 1, 0⟩, ⟨17181967360, 17181967360, 1, 0⟩, ⟨17186226581, 17186257301, 2048, 0⟩, ⟨17181966338, 17181966338, 1, 0⟩, ⟨17181966495, 17181966495, 1, 0⟩, ⟨17186168832, 17186169247, 1, 0⟩] [.pwr, .flt, .evc, .tl, .lane] s (execStartOfBlanking s) := by
  unfold execStartOfBlanking
  refine FrRes.next ?_
  refine Fr.iteh (fun _ => ?_) (fun _ => ?_)
  · first | assumption | exact Fr.refl _
  · extract_lets -merge -underBinder +onlyGivenNames x0
    refine Fr.cut x0 ?_ (fun h0 => ?_)
    · unfold x0
      refine Fr.step State.fire_fr rfl rfl ?_
      first | assumption | exact Fr.refl _
    try clear_value x0
    split
    · refine Fr.iteh (fun _ => ?_) (fun _ => ?_)
      · first | assumption | exact Fr.refl _
      · refine Fr.forFin ?_ (fun i t ht => ?_)
        · first | assumption | exact Fr.refl _
        · refine Fr.iteh (fun _ => ?_) (fun _ => ?_)
          · refine Fr.step State.keepEcho_fr rfl rfl ?_
            refine Fr.step State.sendZone_fr rfl rfl ?_
            first | assumption | exact Fr.refl _
          · first | assumption | exact Fr.refl _
    · first | assumption | exact Fr.refl _

theorem execKalPassBCheck_fr {a0} {s} : FrRes ([⟨17181966336, 17181966336, 1, 0⟩, ⟨17181967360, 17181967360, 1, 0⟩, ⟨17186226581, 17186257301, 2048, 0⟩, ⟨17181966338, 17181966338, 1, 0⟩, ⟨17181966495, 17181966495, 1, 0⟩, ⟨17186168832, 17186169247, 1, 0⟩, ⟨17194549776, 17194549776, 1, 0⟩, ⟨17192452352, 17192452352, 1, 0⟩, ⟨17192452608, 17192452608, 1, 0⟩, ⟨17192452480, 17192452480, 1, 0⟩, ⟨17192452229, 17192452229, 1, 0⟩, ⟨17192452228, 17192452228, 1, 0⟩, ⟨17188261632, 17188261632, 1, 0⟩, ⟨17181967232, 17181967263, 1, 0⟩, ⟨17200843016, 17200843016, 1, 0⟩, ⟨17200843008, 17200843008, 1, 0⟩, ⟨17200840837, 17200840837, 1, 0⟩, ⟨17200840833, 17200840833, 1, 0⟩, ⟨17223909508, 17223909508, 1, 0⟩, ⟨17223909507, 17223909507, 1, 0⟩, ⟨17223909509, 17223909509, 1, 0⟩, ⟨17223910272, 17223910283, 1, 0⟩, ⟨17223910400, 17223910400, 1, 0⟩, ⟨17211359376, 17211408272, 256, 0⟩, ⟨17209229443, 17209229443, 1, 0⟩, ⟨17209229442, 17209229442, 1, 0⟩, ⟨17209231360, 17209231360, 1, 0⟩, ⟨17209231504, 17209231504, 1, 0⟩, ⟨17209231488, 17209231488, 1, 0⟩, ⟨17209231376, 17209231376, 1, 0⟩] ++ [⟨17209245696, 17209251736, 8, 0⟩, ⟨17196647952, 17196647952, 1, 0⟩, ⟨17196647940, 17196647940, 1, 0⟩, ⟨17196647937, 17196647937, 1, 0⟩]) [.sa, .ft, .free, .mem, .flt, .pwr, .evc, .memc, .pair, .lane, .lsc] s (execKalPassBCheck a0 s) := by
  unfold execKalPassBCheck
  refine FrRes.next ?_
  split
  · extract_lets -merge -underBinder +onlyGivenNames x0
    try clear_value x0
    extract_lets -merge -underBinder +onlyGivenNames x1
    extract_lets -merge -underBinder +onlyGivenNames x2
    refine Fr.cut x2 ?_ (fun h2 => ?_)
    · unfold x2
      refine Fr.step State.setSa_fr rfl rfl ?_
      first | assumption | exact Fr.refl _
    try clear_value x2
    refine Fr.iteh (fun _ => ?_) (fun _ => ?_)
    · first | assumption | exact Fr.refl _
    · refine Fr.step State.streamAbort_fr rfl rfl ?_
      unfold State.kalFail
      try dsimp -zeta only
      refine Fr.step State.raise_fr rfl rfl ?_
      refine Fr.step State.fire_fr rfl rfl ?_
      refine Fr.inc (xs := [⟨17196647952, 17196647952, 1, 0⟩]) rfl rfl ?_
      refine Fr.wr (xs := [⟨17196647940, 17196647940, 1, 0⟩]) rfl rfl ?_
      refine Fr.wr (xs := [⟨17196647937, 17196647937, 1, 0⟩]) rfl rfl ?_
      first | assumption | exact Fr.refl _
  · first | assumption | exact Fr.refl _

theorem execLineMatch_fr {s} : FrRes [⟨17181966336, 17181966336, 1, 0⟩, ⟨17181967360, 17181967360, 1, 0⟩, ⟨17186226581, 17186257301, 2048, 0⟩, ⟨17181966338, 17181966338, 1, 0⟩, ⟨17181966495, 17181966495, 1, 0⟩, ⟨17186168832, 17186169247, 1, 0⟩] [.pwr, .flt, .evc, .ft] s (execLineMatch s) := by
  unfold execLineMatch
  refine FrRes.next ?_
  refine Fr.iteh (fun _ => ?_) (fun _ => ?_)
  · refine Fr.step State.fire_fr rfl rfl ?_
    refine Fr.step State.setFt_fr rfl rfl ?_
    first | assumption | exact Fr.refl _
  · first | assumption | exact Fr.refl _

theorem execFtNextNsRead_fr {s} : FrRes [⟨17200842880, 17200842880, 1, 0⟩, ⟨17200842752, 17200842752, 1, 0⟩, ⟨17200842624, 17200842624, 1, 0⟩] [.ft] s (execFtNextNsRead s) := by
  unfold execFtNextNsRead
  refine FrRes.next ?_
  extract_lets -merge -underBinder +onlyGivenNames x0
  try clear_value (e0 : x0 = _)
  extract_lets -merge -underBinder +onlyGivenNames x1
  extract_lets -merge -underBinder +onlyGivenNames x2
  refine Fr.cut x2 ?_ (fun h2 => ?_)
  · unfold x2
    refine Fr.step State.setFt_fr rfl rfl ?_
    first | assumption | exact Fr.refl _
  try clear_value x2
  refine Fr.step State.showNextSec_fr rfl rfl ?_
  refine Fr.wr (xs := [⟨17200842624, 17200842624, 1, 0⟩]) rfl rfl ?_
  first | assumption | exact Fr.refl _

theorem execTimeAdjustApply_fr {a0} {s} : FrRes ([⟨17219715203, 17219715203, 1, 0⟩, ⟨17219715204, 17219715204, 1, 0⟩, ⟨17219723265, 17219725313, 2048, 0⟩, ⟨17219723266, 17219725314, 2048, 0⟩, ⟨17219715205, 17219715205, 1, 0⟩, ⟨17181966336, 17181966336, 1, 0⟩, ⟨17181967360, 17181967360, 1, 0⟩, ⟨17186226581, 17186257301, 2048, 0⟩, ⟨17181966338, 17181966338, 1, 0⟩, ⟨17181966495, 17181966495, 1, 0⟩, ⟨17186168832, 17186169247, 1, 0⟩, ⟨17200843408, 17200843408, 1, 0⟩, ⟨17198743816, 17198743816, 1, 0⟩, ⟨17198743808, 17198743808, 1, 0⟩, ⟨17198743553, 17198743553, 1, 0⟩, ⟨17198753156, 17198767492, 2048, 0⟩, ⟨17198743688, 17198743695, 1, 0⟩, ⟨17196646656, 17196646656, 1, 0⟩, ⟨17196646401, 17196646401, 1, 0⟩, ⟨17196647812, 17196647812, 1, 0⟩, ⟨17196647808, 17196647808, 1, 0⟩, ⟨17196646544, 17196646544, 1, 0⟩, ⟨17196646536, 17196646536, 1, 0⟩, ⟨17198753168, 17198767504, 2048, 0⟩, ⟨17198753152, 17198767488, 2048, 0⟩, ⟨17196646533, 17196646533, 1, 0⟩, ⟨17196646529, 17196646529, 1, 0⟩, ⟨17198753155, 17198767491, 2048, 0⟩, ⟨17198753154, 17198767490, 2048, 0⟩, ⟨17198753280, 17198767616, 2048, 0⟩] ++ [⟨17205035139, 17205149827, 8192, 0⟩, ⟨17205035141, 17205149829, 8192, 0⟩, ⟨17205035140, 17205149828, 8192, 0⟩, ⟨17205035136, 17205149824, 8192, 0⟩, ⟨17202937984, 17204379776, 131072, 0⟩, ⟨17211359376, 17211408272, 256, 0⟩, ⟨17207138304, 17207138975, 1, 0⟩, ⟨17207136256, 17207137664, 128, 0⟩, ⟨17188261632, 17188261632, 1, 0⟩, ⟨17181967232, 17181967263, 1, 0⟩, ⟨17200840960, 17200840960, 1, 0⟩, ⟨17200840705, 17200840705, 1, 0⟩, ⟨17207132416, 17207132416, 1, 0⟩, ⟨17207132161, 17207132161, 1, 0⟩, ⟨17209229568, 17209229568, 1, 0⟩, ⟨17209229313, 17209229313, 1, 0⟩]) [.time, .pwr, .flt, .evc, .ft, .sa, .layer, .hlth, .lsc, .cal, .pair, .lane, .tl, .free, .maskin] s (execTimeAdjustApply a0 s) := by
  unfold execTimeAdjustApply
  refine FrRes.next ?_
  unfold State.applyAdj
  try dsimp -zeta only
  split
  · first | assumption | exact Fr.refl _
  · extract_lets -merge -underBinder +onlyGivenNames x0
    try clear_value x0
    extract_lets -merge -underBinder +onlyGivenNames x1
    extract_lets -merge -underBinder +onlyGivenNames x2
    refine Fr.cut x2 ?_ (fun h2 => ?_)
    · unfold x2
      refine Fr.wr (xs := [⟨17219715203, 17219715203, 1, 0⟩, ⟨17219715204, 17219715204, 1, 0⟩]) (by unfold stepPend; exact (Keys.any_ite (xs := [⟨17219715203, 17219715203, 1, 0⟩]) (ys := [⟨17219715204, 17219715204, 1, 0⟩]) rfl rfl)) rfl ?_
      refine Fr.wr (xs := [⟨17219723265, 17219725313, 2048, 0⟩, ⟨17219723266, 17219725314, 2048, 0⟩]) (Keys.any_ite (xs := [⟨17219723265, 17219725313, 2048, 0⟩]) (ys := [⟨17219723266, 17219725314, 2048, 0⟩]) (Reg.TIME_D_CTRL_LOAD_key (by first | omega | (simp only [List.mem_range] at *; omega))) (Reg.TIME_D_CTRL_STEP_key (by first | omega | (simp only [List.mem_range] at *; omega)))) rfl ?_
      refine Fr.step State.setTd_fr rfl rfl ?_
      first | assumption | exact Fr.refl _
    try clear_value x2
    split
    · refine Fr.step (State.werr_0x2013 (by omega)) rfl rfl ?_
      first | assumption | exact Fr.refl _
    · extract_lets -merge -underBinder +onlyGivenNames x3
      extract_lets -merge -underBinder +onlyGivenNames x4
      refine Fr.cut x4 ?_ (fun h4 => ?_)
      · unfold x4
        refine Fr.step State.fire_fr rfl rfl ?_
        refine Fr.step State.cuesStepped_fr rfl rfl ?_
        refine Fr.step State.setTd_fr rfl rfl ?_
        first | assumption | exact Fr.refl _
      try clear_value x4
      refine Fr.iteh (fun _ => ?_) (fun _ => ?_)
      · unfold State.timeStepped
        try dsimp -zeta only
        refine Fr.iteh (fun _ => ?_) (fun _ => ?_)
        · refine Fr.step State.ftStepped_fr rfl rfl ?_
          refine Fr.step State.raise_fr rfl rfl ?_
          first | assumption | exact Fr.refl _
        · first | assumption | exact Fr.refl _
      · first | assumption | exact Fr.refl _

theorem execSwitchPendApply_fr {s} : FrRes ([⟨17219715205, 17219715205, 1, 0⟩, ⟨17181966336, 17181966336, 1, 0⟩, ⟨17181967360, 17181967360, 1, 0⟩, ⟨17186226581, 17186257301, 2048, 0⟩, ⟨17181966338, 17181966338, 1, 0⟩, ⟨17181966495, 17181966495, 1, 0⟩, ⟨17186168832, 17186169247, 1, 0⟩, ⟨17219715202, 17219715202, 1, 0⟩, ⟨17219715200, 17219715200, 1, 0⟩, ⟨17200843408, 17200843408, 1, 0⟩, ⟨17198743816, 17198743816, 1, 0⟩, ⟨17198743808, 17198743808, 1, 0⟩, ⟨17198743553, 17198743553, 1, 0⟩, ⟨17198753156, 17198767492, 2048, 0⟩, ⟨17198743688, 17198743695, 1, 0⟩, ⟨17196646656, 17196646656, 1, 0⟩, ⟨17196646401, 17196646401, 1, 0⟩, ⟨17196647812, 17196647812, 1, 0⟩, ⟨17196647808, 17196647808, 1, 0⟩, ⟨17196646544, 17196646544, 1, 0⟩, ⟨17196646536, 17196646536, 1, 0⟩, ⟨17198753168, 17198767504, 2048, 0⟩, ⟨17198753152, 17198767488, 2048, 0⟩, ⟨17196646533, 17196646533, 1, 0⟩, ⟨17196646529, 17196646529, 1, 0⟩, ⟨17198753155, 17198767491, 2048, 0⟩, ⟨17198753154, 17198767490, 2048, 0⟩, ⟨17198753280, 17198767616, 2048, 0⟩, ⟨17205035139, 17205149827, 8192, 0⟩, ⟨17205035141, 17205149829, 8192, 0⟩] ++ [⟨17205035140, 17205149828, 8192, 0⟩, ⟨17205035136, 17205149824, 8192, 0⟩, ⟨17202937984, 17204379776, 131072, 0⟩, ⟨17211359376, 17211408272, 256, 0⟩, ⟨17207138304, 17207138975, 1, 0⟩, ⟨17207136256, 17207137664, 128, 0⟩, ⟨17188261632, 17188261632, 1, 0⟩, ⟨17181967232, 17181967263, 1, 0⟩, ⟨17200840960, 17200840960, 1, 0⟩, ⟨17200840705, 17200840705, 1, 0⟩, ⟨17207132416, 17207132416, 1, 0⟩, ⟨17207132161, 17207132161, 1, 0⟩, ⟨17209229568, 17209229568, 1, 0⟩, ⟨17209229313, 17209229313, 1, 0⟩, ⟨17219715201, 17219715201, 1, 0⟩, ⟨17219715328, 17219715328, 1, 0⟩]) [.pwr, .flt, .evc, .ft, .sa, .layer, .hlth, .lsc, .cal, .pair, .lane, .tl, .free, .maskin, .time] s (execSwitchPendApply s) := by
  unfold execSwitchPendApply
  refine FrRes.next ?_
  unfold State.applySwitch
  try dsimp -zeta only
  extract_lets -merge -underBinder +onlyGivenNames x0
  try clear_value x0
  refine Fr.iteh (fun _ => ?_) (fun _ => ?_)
  · refine Fr.step (State.werr_0x2013 (by omega)) rfl rfl ?_
    refine Fr.wr (xs := [⟨17219715202, 17219715202, 1, 0⟩]) rfl rfl ?_
    first | assumption | exact Fr.refl _
  · refine Fr.iteh (fun _ => ?_) (fun _ => ?_)
    · extract_lets -merge -underBinder +onlyGivenNames x1
      refine Fr.cut x1 ?_ (fun h1 => ?_)
      · unfold x1
        refine Fr.wr (xs := [⟨17219715200, 17219715200, 1, 0⟩]) rfl rfl ?_
        refine Fr.wr (xs := [⟨17219715202, 17219715202, 1, 0⟩]) rfl rfl ?_
        first | assumption | exact Fr.refl _
      try clear_value x1
      unfold State.timeStepped
      try dsimp -zeta only
      refine Fr.iteh (fun _ => ?_) (fun _ => ?_)
      · refine Fr.step State.ftStepped_fr rfl rfl ?_
        refine Fr.step State.raise_fr rfl rfl ?_
        refine Fr.step State.fire_fr rfl rfl ?_
        refine Fr.step State.showDelta_fr rfl rfl ?_
        refine Fr.set_time rfl ?_
        first | assumption | exact Fr.refl _
      · refine Fr.step State.fire_fr rfl rfl ?_
        refine Fr.step State.showDelta_fr rfl rfl ?_
        refine Fr.set_time rfl ?_
        first | assumption | exact Fr.refl _
    · first | assumption | exact Fr.refl _

end Sys2Proof.Machine
end

