-- ==== Sys2Proof/Laws/HlthFrame.lean ====
section
/-! SUPPORT. What each operation and command of Machine/Hlth.lean changes at most: register blocks and zones of the state. -/

namespace Sys2Proof.Machine

theorem execHlthEnable_fr {a0} {a1} {s} : FrRes [⟨17207132160, 17207132191, 32, 31⟩, ⟨17207132290, 17207132290, 1, 0⟩, ⟨17181966336, 17181966336, 1, 0⟩, ⟨17181967360, 17181967360, 1, 0⟩, ⟨17186226581, 17186257301, 2048, 0⟩, ⟨17181966338, 17181966338, 1, 0⟩, ⟨17181966495, 17181966495, 1, 0⟩, ⟨17186168832, 17186169247, 1, 0⟩, ⟨17188261632, 17188261632, 1, 0⟩, ⟨17181967232, 17181967263, 1, 0⟩, ⟨17207132288, 17207132288, 1, 0⟩, ⟨17211359376, 17211408272, 256, 0⟩, ⟨17207138304, 17207138975, 1, 0⟩, ⟨17207136256, 17207137664, 128, 0⟩] [.flt, .evc, .pwr, .pair, .free, .hlth] s (execHlthEnable a0 a1 s) := by
  unfold execHlthEnable
  refine FrRes.next ?_
  refine busWrite_fr (x := ⟨17207132160, 17207132191, 32, 31⟩) (Keys.word_intro (by first | omega | (omega)) (by first | omega | (omega)) (by first | omega | (omega))) (fun u => State.werr_0x200D (by omega)) rfl rfl ?_ (fun t ht => ?_)
  · first | assumption | exact Fr.refl _
  · extract_lets -merge -underBinder +onlyGivenNames x0
    refine Fr.cut x0 ?_ (fun h0 => ?_)
    · unfold x0
      refine Fr.wrB (xs := [⟨17207132160, 17207132160, 1, 0⟩]) rfl rfl ?_
      first | assumption | exact Fr.refl _
    try clear_value x0
    refine Fr.iteh (fun _ => ?_) (fun _ => ?_)
    · first | assumption | exact Fr.refl _
    · refine Fr.step State.hlthRun_fr rfl rfl ?_
      first | assumption | exact Fr.refl _

theorem execHlthCommit_fr {a0} {a1} {s} : FrRes [⟨17207132160, 17207132191, 32, 31⟩, ⟨17207132290, 17207132290, 1, 0⟩, ⟨17181966336, 17181966336, 1, 0⟩, ⟨17181967360, 17181967360, 1, 0⟩, ⟨17186226581, 17186257301, 2048, 0⟩, ⟨17181966338, 17181966338, 1, 0⟩, ⟨17181966495, 17181966495, 1, 0⟩, ⟨17186168832, 17186169247, 1, 0⟩, ⟨17188261632, 17188261632, 1, 0⟩, ⟨17181967232, 17181967263, 1, 0⟩, ⟨17207132416, 17207132416, 1, 0⟩] [.flt, .evc, .pwr, .pair, .hlth, .lane] s (execHlthCommit a0 a1 s) := by
  unfold execHlthCommit
  refine FrRes.next ?_
  refine busWrite_fr (x := ⟨17207132160, 17207132191, 32, 31⟩) (Keys.word_intro (by first | omega | (omega)) (by first | omega | (omega)) (by first | omega | (omega))) (fun u => State.werr_0x200D (by omega)) rfl rfl ?_ (fun t ht => ?_)
  · first | assumption | exact Fr.refl _
  · refine Fr.iteh (fun _ => ?_) (fun _ => ?_)
    · refine Fr.step State.commitBlock_fr3 rfl rfl ?_
      first | assumption | exact Fr.refl _
    · first | assumption | exact Fr.refl _

theorem execHlthCapture_fr {a0} {a1} {s} : FrRes [⟨17207132160, 17207132191, 32, 31⟩, ⟨17207132290, 17207132290, 1, 0⟩, ⟨17181966336, 17181966336, 1, 0⟩, ⟨17181967360, 17181967360, 1, 0⟩, ⟨17186226581, 17186257301, 2048, 0⟩, ⟨17181966338, 17181966338, 1, 0⟩, ⟨17181966495, 17181966495, 1, 0⟩, ⟨17186168832, 17186169247, 1, 0⟩, ⟨17188261632, 17188261632, 1, 0⟩, ⟨17181967232, 17181967263, 1, 0⟩] [.flt, .evc, .pwr, .pair] s (execHlthCapture a0 a1 s) := by
  unfold execHlthCapture
  refine FrRes.next ?_
  refine busWrite_fr (x := ⟨17207132160, 17207132191, 32, 31⟩) (Keys.word_intro (by first | omega | (omega)) (by first | omega | (omega)) (by first | omega | (omega))) (fun u => State.werr_0x200D (by omega)) rfl rfl ?_ (fun t ht => ?_)
  · first | assumption | exact Fr.refl _
  · refine Fr.iteh (fun _ => ?_) (fun _ => ?_)
    · refine Fr.wr (xs := [⟨17207132162, 17207132162, 1, 0⟩]) rfl rfl ?_
      first | assumption | exact Fr.refl _
    · first | assumption | exact Fr.refl _

theorem execHlthForce_fr {a0} {a1} {s} : FrRes [⟨17207134208, 17207134239, 32, 31⟩, ⟨17207132290, 17207132290, 1, 0⟩, ⟨17181966336, 17181966336, 1, 0⟩, ⟨17181967360, 17181967360, 1, 0⟩, ⟨17186226581, 17186257301, 2048, 0⟩, ⟨17181966338, 17181966338, 1, 0⟩, ⟨17181966495, 17181966495, 1, 0⟩, ⟨17186168832, 17186169247, 1, 0⟩, ⟨17188261632, 17188261632, 1, 0⟩, ⟨17181967232, 17181967263, 1, 0⟩, ⟨17207132304, 17207132304, 1, 0⟩, ⟨17207132296, 17207132296, 1, 0⟩, ⟨17207134367, 17207134367, 1, 0⟩, ⟨17207134358, 17207134358, 1, 0⟩, ⟨17207134354, 17207134354, 1, 0⟩, ⟨17207134345, 17207134345, 1, 0⟩, ⟨17207134336, 17207134336, 1, 0⟩, ⟨17207134472, 17207134472, 1, 0⟩, ⟨17207134464, 17207134464, 1, 0⟩, ⟨17207134361, 17207134361, 1, 0⟩] [.flt, .evc, .pwr, .pair, .hlth] s (execHlthForce a0 a1 s) := by
  unfold execHlthForce
  refine FrRes.next ?_
  refine busWrite_fr (x := ⟨17207134208, 17207134239, 32, 31⟩) (Keys.word_intro (by first | omega | (omega)) (by first | omega | (omega)) (by first | omega | (omega))) (fun u => State.werr_0x200D (by omega)) rfl rfl ?_ (fun t ht => ?_)
  · first | assumption | exact Fr.refl _
  · refine Fr.iteh (fun _ => ?_) (fun _ => ?_)
    · first | assumption | exact Fr.refl _
    · extract_lets -merge -underBinder +onlyGivenNames x0
      refine Fr.step State.showHlth_fr rfl rfl ?_
      refine Fr.step State.queueForce_fr rfl rfl ?_
      refine Fr.set_hlth rfl ?_
      first | assumption | exact Fr.refl _

theorem execHlthReportTimer_fr {s} : FrRes [⟨17181966336, 17181966336, 1, 0⟩, ⟨17181967360, 17181967360, 1, 0⟩, ⟨17186226581, 17186257301, 2048, 0⟩, ⟨17181966338, 17181966338, 1, 0⟩, ⟨17181966495, 17181966495, 1, 0⟩, ⟨17186168832, 17186169247, 1, 0⟩] [.hlth, .pwr, .flt, .evc] s (execHlthReportTimer s) := by
  unfold execHlthReportTimer
  extract_lets -merge -underBinder +onlyGivenNames x0
  extract_lets -merge -underBinder +onlyGivenNames x1
  refine Fr.cutRes x1 ?_ (fun h1 => ?_)
  · unfold x1
    refine Fr.set_hlth rfl ?_
    first | assumption | exact Fr.refl _
  try clear_value x1
  refine FrRes.next ?_
  refine Fr.iteh (fun _ => ?_) (fun _ => ?_)
  · first | assumption | exact Fr.refl _
  · refine Fr.step State.fire_fr rfl rfl ?_
    first | assumption | exact Fr.refl _

theorem execHlthRptPop_fr {a0} {a1} {s} : FrRes [⟨17207134592, 17207134623, 32, 31⟩, ⟨17207132290, 17207132290, 1, 0⟩, ⟨17181966336, 17181966336, 1, 0⟩, ⟨17181967360, 17181967360, 1, 0⟩, ⟨17186226581, 17186257301, 2048, 0⟩, ⟨17181966338, 17181966338, 1, 0⟩, ⟨17181966495, 17181966495, 1, 0⟩, ⟨17186168832, 17186169247, 1, 0⟩, ⟨17188261632, 17188261632, 1, 0⟩, ⟨17181967232, 17181967263, 1, 0⟩, ⟨17207132304, 17207132304, 1, 0⟩, ⟨17207132296, 17207132296, 1, 0⟩, ⟨17207134239, 17207134239, 1, 0⟩, ⟨17207134367, 17207134367, 1, 0⟩, ⟨17207134358, 17207134358, 1, 0⟩, ⟨17207134354, 17207134354, 1, 0⟩, ⟨17207134345, 17207134345, 1, 0⟩, ⟨17207134336, 17207134336, 1, 0⟩, ⟨17207134472, 17207134472, 1, 0⟩, ⟨17207134464, 17207134464, 1, 0⟩, ⟨17207134361, 17207134361, 1, 0⟩] [.flt, .evc, .pwr, .pair, .hlth] s (execHlthRptPop a0 a1 s) := by
  unfold execHlthRptPop
  refine FrRes.next ?_
  refine busWrite_fr (x := ⟨17207134592, 17207134623, 32, 31⟩) (Keys.word_intro (by first | omega | (omega)) (by first | omega | (omega)) (by first | omega | (omega))) (fun u => State.werr_0x200D (by omega)) rfl rfl ?_ (fun t ht => ?_)
  · first | assumption | exact Fr.refl _
  · refine Fr.iteh (fun _ => ?_) (fun _ => ?_)
    · refine Fr.step State.showHlth_fr rfl rfl ?_
      refine Fr.set_hlth rfl ?_
      first | assumption | exact Fr.refl _
    · first | assumption | exact Fr.refl _

end Sys2Proof.Machine
end

