-- ==== Sys2Proof/Laws/IdentFrame.lean ====
section
/-! SUPPORT. What each operation and command of Machine/Ident.lean changes at most: register blocks and zones of the state. -/

namespace Sys2Proof.Machine

theorem State.bootFails_fr {s} {a1} {a2} : Fr [⟨17179869700, 17179869700, 1, 0⟩, ⟨17179869696, 17179869696, 1, 0⟩, ⟨17186226581, 17186226581, 1, 0⟩, ⟨17188257922, 17188257922, 1, 0⟩, ⟨17188258177, 17188258177, 1, 0⟩] [.evc] s (State.bootFails s a1 a2) := by
  unfold State.bootFails
  extract_lets -merge -underBinder +onlyGivenNames x0
  refine Fr.cut x0 ?_ (fun h0 => ?_)
  · unfold x0
    refine Fr.wr (xs := [⟨17179869700, 17179869700, 1, 0⟩]) rfl rfl ?_
    refine Fr.wr (xs := [⟨17179869696, 17179869696, 1, 0⟩]) rfl rfl ?_
    first | assumption | exact Fr.refl _
  try clear_value x0
  extract_lets -merge -underBinder +onlyGivenNames x1
  extract_lets -merge -underBinder +onlyGivenNames x2
  refine Fr.cut x2 ?_ (fun h2 => ?_)
  · unfold x2
    refine Fr.set_evc rfl ?_
    first | assumption | exact Fr.refl _
  try clear_value x2
  refine Fr.wr (xs := [⟨17186226581, 17186226581, 1, 0⟩]) rfl rfl ?_
  refine Fr.step State.showPin_fr rfl rfl ?_
  refine Fr.wr (xs := [⟨17188258177, 17188258177, 1, 0⟩]) rfl rfl ?_
  first | assumption | exact Fr.refl _

theorem State.flashError_fr {s} : Fr [] [.flt] s (State.flashError s) := by
  unfold State.flashError
  refine Fr.step State.raise_fr rfl rfl ?_
  first | assumption | exact Fr.refl _

theorem State.bootEntry_fr {s} {a1} {a2} : Fr [⟨17188261632, 17188261632, 1, 0⟩, ⟨17181966336, 17181966336, 1, 0⟩, ⟨17181967360, 17181967360, 1, 0⟩, ⟨17186226581, 17186257301, 2048, 0⟩, ⟨17181966338, 17181966338, 1, 0⟩, ⟨17181966495, 17181966495, 1, 0⟩, ⟨17186168832, 17186169247, 1, 0⟩, ⟨17194549776, 17194549776, 1, 0⟩, ⟨17192452352, 17192452352, 1, 0⟩, ⟨17192452608, 17192452608, 1, 0⟩, ⟨17192452480, 17192452480, 1, 0⟩, ⟨17192452229, 17192452229, 1, 0⟩, ⟨17192452228, 17192452228, 1, 0⟩, ⟨17181967232, 17181967263, 1, 0⟩, ⟨17196647680, 17196647680, 1, 0⟩] [.flt, .mem, .pwr, .evc, .memc, .ident] s (State.bootEntry s a1 a2).1 := by
  unfold State.bootEntry
  refine Fr.iteh1 (fun _ => ?_) (fun _ => ?_)
  · refine Fr.mk1 ?_
    first | assumption | exact Fr.refl _
  · split
    · refine Fr.mk1 ?_
      refine Fr.step State.flashError_fr rfl rfl ?_
      first | assumption | exact Fr.refl _
    · extract_lets -merge -underBinder +onlyGivenNames x0
      refine Fr.cut x0 ?_ (fun h0 => ?_)
      · unfold x0
        refine Fr.iteh (fun _ => ?_) (fun _ => ?_)
        · first | assumption | exact Fr.refl _
        · refine Fr.step State.dramWrite_fr rfl rfl ?_
          first | assumption | exact Fr.refl _
      try clear_value x0
      extract_lets -merge -underBinder +onlyGivenNames x1
      extract_lets -merge -underBinder +onlyGivenNames x2
      refine Fr.cut x2 ?_ (fun h2 => ?_)
      · unfold x2
        refine Fr.iteh (fun _ => ?_) (fun _ => ?_)
        · refine Fr.wr (xs := [⟨17196647680, 17196647680, 1, 0⟩]) rfl rfl ?_
          refine Fr.set_ident rfl ?_
          first | assumption | exact Fr.refl _
        · first | assumption | exact Fr.refl _
      try clear_value x2
      refine Fr.mk1 ?_
      first | assumption | exact Fr.refl _

theorem State.bootEntries_fr {s flash i es} : Fr [⟨17188261632, 17188261632, 1, 0⟩, ⟨17181966336, 17181966336, 1, 0⟩, ⟨17181967360, 17181967360, 1, 0⟩, ⟨17186226581, 17186257301, 2048, 0⟩, ⟨17181966338, 17181966338, 1, 0⟩, ⟨17181966495, 17181966495, 1, 0⟩, ⟨17186168832, 17186169247, 1, 0⟩, ⟨17194549776, 17194549776, 1, 0⟩, ⟨17192452352, 17192452352, 1, 0⟩, ⟨17192452608, 17192452608, 1, 0⟩, ⟨17192452480, 17192452480, 1, 0⟩, ⟨17192452229, 17192452229, 1, 0⟩, ⟨17192452228, 17192452228, 1, 0⟩, ⟨17181967232, 17181967263, 1, 0⟩, ⟨17196647680, 17196647680, 1, 0⟩] [.flt, .mem, .pwr, .evc, .memc, .ident] s (State.bootEntries s flash i es).1 := by
  induction es generalizing s i with
  | nil => exact Fr.refl s
  | cons e es ih =>
    unfold State.bootEntries
    extract_lets r
    exact Fr.ite1 (Fr.step ih rfl rfl (Fr.step State.bootEntry_fr rfl rfl (Fr.refl s))) (Fr.step State.bootEntry_fr rfl rfl (Fr.refl s))

theorem State.bootStart_fr {s} {a1} : Fr [⟨17186226176, 17186256896, 2048, 0⟩, ⟨17186226305, 17186257025, 2048, 0⟩] [.evc] s (State.bootStart s a1) := by
  unfold State.bootStart
  refine Fr.iteh (fun _ => ?_) (fun _ => ?_)
  · first | assumption | exact Fr.refl _
  · extract_lets -merge -underBinder +onlyGivenNames x0
    try clear_value (e0 : x0 = _)
    extract_lets -merge -underBinder +onlyGivenNames x1
    refine Fr.cut x1 ?_ (fun h1 => ?_)
    · unfold x1
      refine Fr.wr (xs := [⟨17186226176, 17186256896, 2048, 0⟩]) (Reg.EVC_ENG_CTRL_HOLD_key (by first | omega | (simp only [List.mem_range] at *; omega))) rfl ?_
      refine Fr.wr (xs := [⟨17186226305, 17186257025, 2048, 0⟩]) (Reg.EVC_ENG_RSTVEC_VEC_key (by first | omega | (simp only [List.mem_range] at *; omega))) rfl ?_
      first | assumption | exact Fr.refl _
    try clear_value x1
    refine Fr.iteh (fun _ => ?_) (fun _ => ?_)
    · refine Fr.step State.startEngine_fr rfl rfl ?_
      first | assumption | exact Fr.refl _
    · first | assumption | exact Fr.refl _

theorem State.bootDone_fr {s} {a1} {a2} : Fr [⟨17179869706, 17179869706, 1, 0⟩, ⟨17179869700, 17179869700, 1, 0⟩, ⟨17179869696, 17179869696, 1, 0⟩, ⟨17186226176, 17186256896, 2048, 0⟩, ⟨17186226305, 17186257025, 2048, 0⟩] [.ident, .evc] s (State.bootDone s a1 a2) := by
  unfold State.bootDone
  extract_lets -merge -underBinder +onlyGivenNames x0
  try clear_value x0
  extract_lets -merge -underBinder +onlyGivenNames x1
  extract_lets -merge -underBinder +onlyGivenNames x2
  extract_lets -merge -underBinder +onlyGivenNames x3
  extract_lets -merge -underBinder +onlyGivenNames x4
  refine Fr.cut x4 ?_ (fun h4 => ?_)
  · unfold x4
    refine Fr.set_ident rfl ?_
    first | assumption | exact Fr.refl _
  try clear_value x4
  extract_lets -merge -underBinder +onlyGivenNames x5
  refine Fr.cut x5 ?_ (fun h5 => ?_)
  · unfold x5
    refine Fr.wrB (xs := [⟨17179869706, 17179869706, 1, 0⟩]) rfl rfl ?_
    refine Fr.wr (xs := [⟨17179869700, 17179869700, 1, 0⟩]) rfl rfl ?_
    refine Fr.wr (xs := [⟨17179869696, 17179869696, 1, 0⟩]) rfl rfl ?_
    first | assumption | exact Fr.refl _
  try clear_value x5
  extract_lets -merge -underBinder +onlyGivenNames x6
  refine Fr.cut x6 ?_ (fun h6 => ?_)
  · unfold x6
    refine Fr.foldl' ?_ (fun t x hx ht => ?_)
    · first | assumption | exact Fr.refl _
    · refine Fr.step State.bootStart_fr rfl rfl ?_
      first | assumption | exact Fr.refl _
  try clear_value x6
  split
  · first | assumption | exact Fr.refl _
  · refine Fr.step State.setPc_fr rfl rfl ?_
    first | assumption | exact Fr.refl _

theorem State.completeWipe_fr {s} : Fr [] [.mem, .cal, .ident] s (State.completeWipe s) := by
  unfold State.completeWipe
  refine Fr.iteh (fun _ => ?_) (fun _ => ?_)
  · first | assumption | exact Fr.refl _
  · extract_lets -merge -underBinder +onlyGivenNames x0
    refine Fr.cut x0 ?_ (fun h0 => ?_)
    · unfold x0
      refine Fr.step State.loseDram_fr rfl rfl ?_
      first | assumption | exact Fr.refl _
    try clear_value x0
    extract_lets -merge -underBinder +onlyGivenNames x1
    try clear_value x1
    extract_lets -merge -underBinder +onlyGivenNames x2
    refine Fr.set_cal_ident rfl ?_
    first | assumption | exact Fr.refl _

theorem State.checkKeys_fr {s} {a1} : Fr [] [.flt, .ident] s (State.checkKeys s a1) := by
  unfold State.checkKeys
  refine Fr.iteh (fun _ => ?_) (fun _ => ?_)
  · first | assumption | exact Fr.refl _
  · extract_lets -merge -underBinder +onlyGivenNames x0
    extract_lets -merge -underBinder +onlyGivenNames x1
    refine Fr.step State.raise_fr rfl rfl ?_
    refine Fr.set_ident rfl ?_
    first | assumption | exact Fr.refl _

theorem State.boot_fr {s} {a1} : Fr [⟨17179869700, 17179869700, 1, 0⟩, ⟨17179869696, 17179869696, 1, 0⟩, ⟨17188257922, 17188257922, 1, 0⟩, ⟨17188258177, 17188258177, 1, 0⟩, ⟨17188261632, 17188261632, 1, 0⟩, ⟨17181966336, 17181966336, 1, 0⟩, ⟨17181967360, 17181967360, 1, 0⟩, ⟨17186226581, 17186257301, 2048, 0⟩, ⟨17181966338, 17181966338, 1, 0⟩, ⟨17181966495, 17181966495, 1, 0⟩, ⟨17186168832, 17186169247, 1, 0⟩, ⟨17194549776, 17194549776, 1, 0⟩, ⟨17192452352, 17192452352, 1, 0⟩, ⟨17192452608, 17192452608, 1, 0⟩, ⟨17192452480, 17192452480, 1, 0⟩, ⟨17192452229, 17192452229, 1, 0⟩, ⟨17192452228, 17192452228, 1, 0⟩, ⟨17181967232, 17181967263, 1, 0⟩, ⟨17196647680, 17196647680, 1, 0⟩, ⟨17179869706, 17179869706, 1, 0⟩, ⟨17186226176, 17186256896, 2048, 0⟩, ⟨17186226305, 17186257025, 2048, 0⟩] [.flt, .evc, .mem, .pwr, .memc, .ident] s (State.boot s a1) := by
  unfold State.boot
  extract_lets -merge -underBinder +onlyGivenNames x0
  try clear_value x0
  extract_lets -merge -underBinder +onlyGivenNames x1
  try clear_value x1
  extract_lets -merge -underBinder +onlyGivenNames x2
  try clear_value (e2 : x2 = _)
  extract_lets -merge -underBinder +onlyGivenNames x3
  try clear_value (e3 : x3 = _)
  extract_lets -merge -underBinder +onlyGivenNames x4
  refine Fr.cut x4 ?_ (fun h4 => ?_)
  · unfold x4
    refine Fr.iteh (fun _ => ?_) (fun _ => ?_)
    · refine Fr.step State.flashError_fr rfl rfl ?_
      first | assumption | exact Fr.refl _
    · first | assumption | exact Fr.refl _
  try clear_value x4
  extract_lets -merge -underBinder +onlyGivenNames x5
  refine Fr.cut x5 ?_ (fun h5 => ?_)
  · unfold x5
    refine Fr.iteh (fun _ => ?_) (fun _ => ?_)
    · refine Fr.step State.flashError_fr rfl rfl ?_
      first | assumption | exact Fr.refl _
    · first | assumption | exact Fr.refl _
  try clear_value x5
  refine Fr.iteh (fun _ => ?_) (fun _ => ?_)
  · refine Fr.step State.bootFails_fr rfl rfl ?_
    first | assumption | exact Fr.refl _
  · extract_lets -merge -underBinder +onlyGivenNames x6
    try clear_value x6
    extract_lets -merge -underBinder +onlyGivenNames x7
    try clear_value x7
    split
    · refine Fr.step State.bootFails_fr rfl rfl ?_
      first | assumption | exact Fr.refl _
    · extract_lets -merge -underBinder +onlyGivenNames x8
      refine Fr.cut x8.1 ?_ (fun h8 => ?_)
      · unfold x8
        refine Fr.step State.bootEntries_fr rfl rfl ?_
        first | assumption | exact Fr.refl _
      try clear_value x8
      split
      · refine Fr.step State.bootFails_fr rfl rfl ?_
        first | assumption | exact Fr.refl _
      · refine Fr.step State.bootDone_fr rfl rfl ?_
        first | assumption | exact Fr.refl _

theorem State.showPub_fr {s} : Fr [⟨17226011648, 17226012544, 128, 0⟩, ⟨17226010624, 17226011520, 128, 0⟩] [] s (State.showPub s) := by
  unfold State.showPub
  extract_lets -merge -underBinder +onlyGivenNames x0
  try clear_value x0
  refine Fr.wrWords (xs := [⟨17226011648, 17226012544, 128, 0⟩]) (fun k hk => (Reg.CRYPTO_DEVPUB_Y_WORD_key (by first | omega | (simp only [List.mem_range] at *; omega)))) rfl ?_
  refine Fr.wrWords (xs := [⟨17226010624, 17226011520, 128, 0⟩]) (fun k hk => (Reg.CRYPTO_DEVPUB_X_WORD_key (by first | omega | (simp only [List.mem_range] at *; omega)))) rfl ?_
  first | assumption | exact Fr.refl _

theorem execBootRom_fr {a0} {a1} {s} : FrRes [⟨17226011648, 17226012544, 128, 0⟩, ⟨17226010624, 17226011520, 128, 0⟩, ⟨17179869700, 17179869700, 1, 0⟩, ⟨17179869696, 17179869696, 1, 0⟩, ⟨17188257922, 17188257922, 1, 0⟩, ⟨17188258177, 17188258177, 1, 0⟩, ⟨17188261632, 17188261632, 1, 0⟩, ⟨17181966336, 17181966336, 1, 0⟩, ⟨17181967360, 17181967360, 1, 0⟩, ⟨17186226581, 17186257301, 2048, 0⟩, ⟨17181966338, 17181966338, 1, 0⟩, ⟨17181966495, 17181966495, 1, 0⟩, ⟨17186168832, 17186169247, 1, 0⟩, ⟨17194549776, 17194549776, 1, 0⟩, ⟨17192452352, 17192452352, 1, 0⟩, ⟨17192452608, 17192452608, 1, 0⟩, ⟨17192452480, 17192452480, 1, 0⟩, ⟨17192452229, 17192452229, 1, 0⟩, ⟨17192452228, 17192452228, 1, 0⟩, ⟨17181967232, 17181967263, 1, 0⟩, ⟨17196647680, 17196647680, 1, 0⟩, ⟨17179869706, 17179869706, 1, 0⟩, ⟨17186226176, 17186256896, 2048, 0⟩, ⟨17186226305, 17186257025, 2048, 0⟩] [.flt, .ident, .mem, .cal, .evc, .pwr, .memc] s (execBootRom a0 a1 s) := by
  unfold execBootRom
  refine FrRes.next ?_
  refine Fr.iteh (fun _ => ?_) (fun _ => ?_)
  · first | assumption | exact Fr.refl _
  · extract_lets -merge -underBinder +onlyGivenNames x0
    refine Fr.cut x0 ?_ (fun h0 => ?_)
    · unfold x0
      refine Fr.step State.showPub_fr rfl rfl ?_
      refine Fr.step State.checkKeys_fr rfl rfl ?_
      refine Fr.step State.completeWipe_fr rfl rfl ?_
      first | assumption | exact Fr.refl _
    try clear_value x0
    refine Fr.iteh (fun _ => ?_) (fun _ => ?_)
    · refine Fr.step State.bootFails_fr rfl rfl ?_
      first | assumption | exact Fr.refl _
    · refine Fr.iteh (fun _ => ?_) (fun _ => ?_)
      · refine Fr.step State.bootFails_fr rfl rfl ?_
        first | assumption | exact Fr.refl _
      · refine Fr.iteh (fun _ => ?_) (fun _ => ?_)
        · first | assumption | exact Fr.refl _
        · refine Fr.step State.boot_fr rfl rfl ?_
          first | assumption | exact Fr.refl _

theorem execSvnWrite_fr {a0} {a1} {s} : FrRes [⟨17179869824, 17179869855, 32, 31⟩, ⟨17179870850, 17179870850, 1, 0⟩, ⟨17188261632, 17188261632, 1, 0⟩, ⟨17181966336, 17181966336, 1, 0⟩, ⟨17181967360, 17181967360, 1, 0⟩, ⟨17186226581, 17186257301, 2048, 0⟩, ⟨17181966338, 17181966338, 1, 0⟩, ⟨17181966495, 17181966495, 1, 0⟩, ⟨17186168832, 17186169247, 1, 0⟩, ⟨17181967232, 17181967263, 1, 0⟩] [.flt, .evc, .pwr, .pair, .part] s (execSvnWrite a0 a1 s) := by
  unfold execSvnWrite
  refine FrRes.next ?_
  refine busWrite_fr (x := ⟨17179869824, 17179869855, 32, 31⟩) (Keys.word_intro (by first | omega | (omega)) (by first | omega | (omega)) (by first | omega | (omega))) (fun u => State.werr_0x2000 (by omega)) rfl rfl ?_ (fun t ht => ?_)
  · first | assumption | exact Fr.refl _
  · extract_lets -merge -underBinder +onlyGivenNames x0
    try clear_value (e0 : x0 = _)
    extract_lets -merge -underBinder +onlyGivenNames x1
    try clear_value (e1 : x1 = _)
    refine Fr.iteh (fun _ => ?_) (fun _ => ?_)
    · refine Fr.set_part rfl ?_
      first | assumption | exact Fr.refl _
    · refine Fr.step (State.werr_0x2000 (by omega)) rfl rfl ?_
      first | assumption | exact Fr.refl _

theorem execLcRequest_fr {a0} {a1} {a2} {s} : FrRes [⟨0, 137438953471, 1, 0⟩] [.flt, .evc, .pwr, .pair, .free, .part, .sa, .layer, .maskin, .ft, .tl, .lane, .hlth, .lsc, .thm, .cal, .time, .net, .safe, .peri, .cvu, .memc, .win, .ident, .live, .mem] s (execLcRequest a0 a1 a2 s) := by
  unfold execLcRequest
  refine FrRes.next ?_
  refine busWrite_fr (x := ⟨17179870720, 17179870751, 32, 31⟩) (Keys.word_intro (by first | omega | (omega)) (by first | omega | (omega)) (by first | omega | (omega))) (fun u => State.werr_0x2000 (by omega)) rfl rfl ?_ (fun t ht => ?_)
  · first | assumption | exact Fr.refl _
  · refine Fr.iteh (fun _ => ?_) (fun _ => ?_)
    · first | assumption | exact Fr.refl _
    · extract_lets -merge -underBinder +onlyGivenNames x0
      try clear_value (e0 : x0 = _)
      extract_lets -merge -underBinder +onlyGivenNames x1
      try clear_value x1
      extract_lets -merge -underBinder +onlyGivenNames x2
      try clear_value x2
      extract_lets -merge -underBinder +onlyGivenNames x3
      refine Fr.cut x3 ?_ (fun h3 => ?_)
      · unfold x3
        refine Fr.iteh (fun _ => ?_) (fun _ => ?_)
        · first | assumption | exact Fr.refl _
        · refine Fr.step State.accErr_fr rfl rfl ?_
          first | assumption | exact Fr.refl _
      try clear_value x3
      extract_lets -merge -underBinder +onlyGivenNames x4
      try clear_value (e4 : x4 = _)
      refine Fr.iteh (fun _ => ?_) (fun _ => ?_)
      · refine Fr.step State.newNonce_fr rfl rfl ?_
        refine Fr.wr (xs := [⟨17179870856, 17179870856, 1, 0⟩]) rfl rfl ?_
        refine Fr.wr (xs := [⟨17179870849, 17179870849, 1, 0⟩]) rfl rfl ?_
        first | assumption | exact Fr.refl _
      · extract_lets -merge -underBinder +onlyGivenNames x5
        try clear_value (e5 : x5 = _)
        extract_lets -merge -underBinder +onlyGivenNames x6
        extract_lets -merge -underBinder +onlyGivenNames x7
        refine Fr.iteh (fun _ => ?_) (fun _ => ?_)
        · refine Fr.step State.powerCut_fr rfl rfl ?_
          refine Fr.set_ident rfl ?_
          first | assumption | exact Fr.refl _
        · extract_lets -merge -underBinder +onlyGivenNames x8
          extract_lets -merge -underBinder +onlyGivenNames x9
          extract_lets -merge -underBinder +onlyGivenNames x10
          extract_lets -merge -underBinder +onlyGivenNames x11
          refine Fr.cut x11 ?_ (fun h11 => ?_)
          · unfold x11
            refine Fr.set_part_ident rfl ?_
            first | assumption | exact Fr.refl _
          try clear_value x11
          refine Fr.step State.requestReset_fr rfl rfl ?_
          refine Fr.step State.newNonce_fr rfl rfl ?_
          refine Fr.wr (xs := [⟨17179870848, 17179870848, 1, 0⟩]) rfl rfl ?_
          refine Fr.wr (xs := [⟨17179870720, 17179870720, 1, 0⟩]) rfl rfl ?_
          first | assumption | exact Fr.refl _

theorem execLcFuseRecheck_fr {a0} {s} : FrRes [] [.flt] s (execLcFuseRecheck a0 s) := by
  unfold execLcFuseRecheck
  refine FrRes.next ?_
  refine Fr.iteh (fun _ => ?_) (fun _ => ?_)
  · first | assumption | exact Fr.refl _
  · refine Fr.step State.raise_fr rfl rfl ?_
    first | assumption | exact Fr.refl _

theorem State.debugOpens_fr {s} {a1} : Fr [⟨17179871236, 17179871236, 1, 0⟩, ⟨17179871234, 17179871234, 1, 0⟩] [.flt] s (State.debugOpens s a1) := by
  unfold State.debugOpens
  refine Fr.step State.raise_fr rfl rfl ?_
  refine Fr.wr (xs := [⟨17179871236, 17179871236, 1, 0⟩]) rfl rfl ?_
  refine Fr.wr (xs := [⟨17179871234, 17179871234, 1, 0⟩]) rfl rfl ?_
  first | assumption | exact Fr.refl _

theorem execDebugOpenReq_fr {a0} {a1} {s} : FrRes [⟨17179871232, 17179871263, 32, 31⟩, ⟨17179870850, 17179870850, 1, 0⟩, ⟨17188261632, 17188261632, 1, 0⟩, ⟨17181966336, 17181966336, 1, 0⟩, ⟨17181967360, 17181967360, 1, 0⟩, ⟨17186226581, 17186257301, 2048, 0⟩, ⟨17181966338, 17181966338, 1, 0⟩, ⟨17181966495, 17181966495, 1, 0⟩, ⟨17186168832, 17186169247, 1, 0⟩, ⟨17181967232, 17181967263, 1, 0⟩, ⟨17179870208, 17179870592, 128, 0⟩] [.flt, .evc, .pwr, .pair, .free] s (execDebugOpenReq a0 a1 s) := by
  unfold execDebugOpenReq
  refine FrRes.next ?_
  refine busWrite_fr (x := ⟨17179871232, 17179871263, 32, 31⟩) (Keys.word_intro (by first | omega | (omega)) (by first | omega | (omega)) (by first | omega | (omega))) (fun u => State.werr_0x2000 (by omega)) rfl rfl ?_ (fun t ht => ?_)
  · first | assumption | exact Fr.refl _
  · refine Fr.iteh (fun _ => ?_) (fun _ => ?_)
    · first | assumption | exact Fr.refl _
    · refine Fr.iteh (fun _ => ?_) (fun _ => ?_)
      · refine Fr.step State.debugOpens_fr rfl rfl ?_
        first | assumption | exact Fr.refl _
      · refine Fr.iteh (fun _ => ?_) (fun _ => ?_)
        · refine Fr.step State.newNonce_fr rfl rfl ?_
          refine Fr.step State.debugOpens_fr rfl rfl ?_
          first | assumption | exact Fr.refl _
        · extract_lets -merge -underBinder +onlyGivenNames x0
          refine Fr.cut x0 ?_ (fun h0 => ?_)
          · unfold x0
            refine Fr.step State.newNonce_fr rfl rfl ?_
            refine Fr.step State.raise_fr rfl rfl ?_
            refine Fr.inc (xs := [⟨17179871239, 17179871239, 1, 0⟩]) rfl rfl ?_
            first | assumption | exact Fr.refl _
          try clear_value x0
          refine Fr.iteh (fun _ => ?_) (fun _ => ?_)
          · refine Fr.wr (xs := [⟨17179871235, 17179871235, 1, 0⟩]) rfl rfl ?_
            first | assumption | exact Fr.refl _
          · first | assumption | exact Fr.refl _

theorem execDebugClose_fr {a0} {a1} {s} : FrRes [⟨17179871232, 17179871263, 32, 31⟩, ⟨17179870850, 17179870850, 1, 0⟩, ⟨17188261632, 17188261632, 1, 0⟩, ⟨17181966336, 17181966336, 1, 0⟩, ⟨17181967360, 17181967360, 1, 0⟩, ⟨17186226581, 17186257301, 2048, 0⟩, ⟨17181966338, 17181966338, 1, 0⟩, ⟨17181966495, 17181966495, 1, 0⟩, ⟨17186168832, 17186169247, 1, 0⟩, ⟨17181967232, 17181967263, 1, 0⟩] [.flt, .evc, .pwr, .pair] s (execDebugClose a0 a1 s) := by
  unfold execDebugClose
  refine FrRes.next ?_
  refine busWrite_fr (x := ⟨17179871232, 17179871263, 32, 31⟩) (Keys.word_intro (by first | omega | (omega)) (by first | omega | (omega)) (by first | omega | (omega))) (fun u => State.werr_0x2000 (by omega)) rfl rfl ?_ (fun t ht => ?_)
  · first | assumption | exact Fr.refl _
  · refine Fr.iteh (fun _ => ?_) (fun _ => ?_)
    · first | assumption | exact Fr.refl _
    · extract_lets -merge -underBinder +onlyGivenNames x0
      try clear_value (e0 : x0 = _)
      extract_lets -merge -underBinder +onlyGivenNames x1
      refine Fr.cut x1 ?_ (fun h1 => ?_)
      · unfold x1
        refine Fr.wr (xs := [⟨17179871236, 17179871236, 1, 0⟩]) rfl rfl ?_
        refine Fr.wr (xs := [⟨17179871234, 17179871234, 1, 0⟩]) rfl rfl ?_
        first | assumption | exact Fr.refl _
      try clear_value x1
      refine Fr.iteh (fun _ => ?_) (fun _ => ?_)
      · refine Fr.step State.requestReset_fr rfl rfl ?_
        first | assumption | exact Fr.refl _
      · first | assumption | exact Fr.refl _

end Sys2Proof.Machine
end

