-- ==== Sys2Proof/Laws/LayerFrame.lean ====
section
/-! SUPPORT. What each operation and command of Machine/Layer.lean changes at most: register blocks and zones of the state. -/

namespace Sys2Proof.Machine

theorem execLayerEnable_fr {a0} {a1} {s} : FrRes [⟨17198743552, 17198743583, 32, 31⟩, ⟨17198743704, 17198743704, 1, 0⟩, ⟨17181966336, 17181966336, 1, 0⟩, ⟨17181967360, 17181967360, 1, 0⟩, ⟨17186226581, 17186257301, 2048, 0⟩, ⟨17181966338, 17181966338, 1, 0⟩, ⟨17181966495, 17181966495, 1, 0⟩, ⟨17186168832, 17186169247, 1, 0⟩, ⟨17188261632, 17188261632, 1, 0⟩, ⟨17181967232, 17181967263, 1, 0⟩] [.flt, .evc, .pwr, .pair] s (execLayerEnable a0 a1 s) := by
  unfold execLayerEnable
  refine FrRes.next ?_
  refine busWrite_fr (x := ⟨17198743552, 17198743583, 32, 31⟩) (Keys.word_intro (by first | omega | (omega)) (by first | omega | (omega)) (by first | omega | (omega))) (fun u => State.werr_0x2009 (by omega)) rfl rfl ?_ (fun t ht => ?_)
  · first | assumption | exact Fr.refl _
  · refine Fr.iteh (fun _ => ?_) (fun _ => ?_)
    · refine Fr.wr (xs := [⟨17198743552, 17198743552, 1, 0⟩]) rfl rfl ?_
      first | assumption | exact Fr.refl _
    · refine Fr.iteh (fun _ => ?_) (fun _ => ?_)
      · refine Fr.step (State.werr_0x2009 (by omega)) rfl rfl ?_
        first | assumption | exact Fr.refl _
      · refine Fr.wr (xs := [⟨17198743552, 17198743552, 1, 0⟩]) rfl rfl ?_
        first | assumption | exact Fr.refl _

theorem execLayerCommit_fr {a0} {a1} {s} : FrRes [⟨17198743552, 17198743583, 32, 31⟩, ⟨17198743704, 17198743704, 1, 0⟩, ⟨17181966336, 17181966336, 1, 0⟩, ⟨17181967360, 17181967360, 1, 0⟩, ⟨17186226581, 17186257301, 2048, 0⟩, ⟨17181966338, 17181966338, 1, 0⟩, ⟨17181966495, 17181966495, 1, 0⟩, ⟨17186168832, 17186169247, 1, 0⟩, ⟨17188261632, 17188261632, 1, 0⟩, ⟨17181967232, 17181967263, 1, 0⟩, ⟨17198743816, 17198743816, 1, 0⟩, ⟨17198743808, 17198743808, 1, 0⟩, ⟨17198753156, 17198767492, 2048, 0⟩, ⟨17198743688, 17198743695, 1, 0⟩, ⟨17198753280, 17198767616, 2048, 0⟩, ⟨17198753154, 17198767490, 2048, 0⟩] [.flt, .evc, .pwr, .pair, .layer, .lane] s (execLayerCommit a0 a1 s) := by
  unfold execLayerCommit
  refine FrRes.next ?_
  refine busWrite_fr (x := ⟨17198743552, 17198743583, 32, 31⟩) (Keys.word_intro (by first | omega | (omega)) (by first | omega | (omega)) (by first | omega | (omega))) (fun u => State.werr_0x2009 (by omega)) rfl rfl ?_ (fun t ht => ?_)
  · first | assumption | exact Fr.refl _
  · refine Fr.iteh (fun _ => ?_) (fun _ => ?_)
    · first | assumption | exact Fr.refl _
    · refine Fr.iteh (fun _ => ?_) (fun _ => ?_)
      · first | assumption | exact Fr.refl _
      · refine Fr.step State.commitBlock_fr0 rfl rfl ?_
        refine Fr.step State.queueChecks_fr rfl rfl ?_
        first | assumption | exact Fr.refl _

theorem execScanoutAgentHandover_fr {s} : FrRes [⟨17194557440, 17194573724, 4, 0⟩, ⟨17181966336, 17181966336, 1, 0⟩, ⟨17181967360, 17181967360, 1, 0⟩, ⟨17186226581, 17186257301, 2048, 0⟩, ⟨17181966338, 17181966338, 1, 0⟩, ⟨17181966495, 17181966495, 1, 0⟩, ⟨17186168832, 17186169247, 1, 0⟩, ⟨17194549776, 17194549776, 1, 0⟩, ⟨17192452352, 17192452352, 1, 0⟩, ⟨17192452608, 17192452608, 1, 0⟩, ⟨17192452480, 17192452480, 1, 0⟩, ⟨17192452229, 17192452229, 1, 0⟩, ⟨17192452228, 17192452228, 1, 0⟩, ⟨17188261632, 17188261632, 1, 0⟩, ⟨17181967232, 17181967263, 1, 0⟩, ⟨17194615425, 17194618497, 1024, 0⟩, ⟨17194615296, 17194618368, 1024, 0⟩, ⟨17194549761, 17194549761, 1, 0⟩, ⟨17194549764, 17194549764, 1, 0⟩, ⟨17198743816, 17198743816, 1, 0⟩, ⟨17198743808, 17198743808, 1, 0⟩, ⟨17198743553, 17198743553, 1, 0⟩, ⟨17198753156, 17198767492, 2048, 0⟩, ⟨17198743688, 17198743695, 1, 0⟩] [.free, .mem, .flt, .pwr, .evc, .memc, .win, .layer, .sa] s (execScanoutAgentHandover s) := by
  unfold execScanoutAgentHandover
  refine FrRes.next ?_
  extract_lets -merge -underBinder +onlyGivenNames x0
  refine Fr.cut x0.1 ?_ (fun h0 => ?_)
  · unfold x0
    refine Fr.step State.agentHandsAll_fr rfl rfl ?_
    first | assumption | exact Fr.refl _
  try clear_value x0
  extract_lets -merge -underBinder +onlyGivenNames x1
  extract_lets -merge -underBinder +onlyGivenNames x2
  refine Fr.cut x2 ?_ (fun h2 => ?_)
  · unfold x2
    refine Fr.step State.setLayer_fr rfl rfl ?_
    first | assumption | exact Fr.refl _
  try clear_value x2
  extract_lets -merge -underBinder +onlyGivenNames x3
  refine Fr.cut x3.1 ?_ (fun h3 => ?_)
  · unfold x3
    refine Fr.step State.agentHandsAll_fr rfl rfl ?_
    first | assumption | exact Fr.refl _
  try clear_value x3
  refine Fr.step State.layerRetest_fr rfl rfl ?_
  extract_lets -merge -underBinder +onlyGivenNames x4
  refine Fr.cut x4 ?_ (fun h4 => ?_)
  · unfold x4
    first | assumption | exact Fr.refl _
  try clear_value x4
  refine Fr.set_sa rfl ?_
  first | assumption | exact Fr.refl _

theorem execFetchError_fr {a0} {a1} {s} : FrRes [⟨17181966336, 17181966336, 1, 0⟩, ⟨17181967360, 17181967360, 1, 0⟩, ⟨17186226581, 17186257301, 2048, 0⟩, ⟨17181966338, 17181966338, 1, 0⟩, ⟨17181966495, 17181966495, 1, 0⟩, ⟨17186168832, 17186169247, 1, 0⟩, ⟨17198743705, 17198743705, 1, 0⟩, ⟨17188261632, 17188261632, 1, 0⟩, ⟨17181967232, 17181967263, 1, 0⟩] [.ft, .flt, .pwr, .evc] s (execFetchError a0 a1 s) := by
  unfold execFetchError
  refine FrRes.next ?_
  split
  · first | assumption | exact Fr.refl _
  · refine Fr.iteh (fun _ => ?_) (fun _ => ?_)
    · first | assumption | exact Fr.refl _
    · extract_lets -merge -underBinder +onlyGivenNames x0
      extract_lets -merge -underBinder +onlyGivenNames x1
      refine Fr.cut x1 ?_ (fun h1 => ?_)
      · unfold x1
        refine Fr.set_ft rfl ?_
        first | assumption | exact Fr.refl _
      try clear_value x1
      refine Fr.step State.raiseAcc_fr rfl rfl ?_
      refine Fr.step State.fire_fr rfl rfl ?_
      refine Fr.wr (xs := [⟨17198743705, 17198743705, 1, 0⟩]) rfl rfl ?_
      refine Fr.step State.readErr_fr rfl rfl ?_
      first | assumption | exact Fr.refl _

end Sys2Proof.Machine
end

