-- ==== Sys2Proof/Laws/LscFrame.lean ====
section
/-! SUPPORT. What each operation and command of Machine/Lsc.lean changes at most: register blocks and zones of the state. -/

namespace Sys2Proof.Machine

theorem State.showPhases_fr {s} : Fr [] [.lsc] s (State.showPhases s) := by
  unfold State.showPhases
  extract_lets -merge -underBinder +onlyGivenNames x0
  try clear_value x0
  refine Fr.set_lsc rfl ?_
  first | assumption | exact Fr.refl _

theorem execLscEnable_fr {a0} {a1} {s} : FrRes [⟨17209229312, 17209229343, 32, 31⟩, ⟨17209229446, 17209229446, 1, 0⟩, ⟨17181966336, 17181966336, 1, 0⟩, ⟨17181967360, 17181967360, 1, 0⟩, ⟨17186226581, 17186257301, 2048, 0⟩, ⟨17181966338, 17181966338, 1, 0⟩, ⟨17181966495, 17181966495, 1, 0⟩, ⟨17186168832, 17186169247, 1, 0⟩, ⟨17188261632, 17188261632, 1, 0⟩, ⟨17181967232, 17181967263, 1, 0⟩, ⟨17209229440, 17209229440, 1, 0⟩, ⟨17211359376, 17211408272, 256, 0⟩, ⟨17209229443, 17209229443, 1, 0⟩, ⟨17209229442, 17209229442, 1, 0⟩, ⟨17209231360, 17209231360, 1, 0⟩, ⟨17209231504, 17209231504, 1, 0⟩, ⟨17209231488, 17209231488, 1, 0⟩, ⟨17209231376, 17209231376, 1, 0⟩, ⟨17209245696, 17209251736, 8, 0⟩] [.flt, .evc, .pwr, .pair, .lsc, .free, .cal] s (execLscEnable a0 a1 s) := by
  unfold execLscEnable
  extract_lets -merge -underBinder +onlyGivenNames x0
  refine Fr.cutRes x0 ?_ (fun h0 => ?_)
  · unfold x0
    refine busWrite_fr (x := ⟨17209229312, 17209229343, 32, 31⟩) (Keys.word_intro (by first | omega | (omega)) (by first | omega | (omega)) (by first | omega | (omega))) (fun u => State.werr_0x200E (by omega)) rfl rfl ?_ (fun t ht => ?_)
    · first | assumption | exact Fr.refl _
    · refine Fr.iteh (fun _ => ?_) (fun _ => ?_)
      · refine Fr.step State.lscRelease_fr rfl rfl ?_
        first | assumption | exact Fr.refl _
      · refine Fr.iteh (fun _ => ?_) (fun _ => ?_)
        · first | assumption | exact Fr.refl _
        · refine Fr.iteh (fun _ => ?_) (fun _ => ?_)
          · refine Fr.step (State.werr_0x200E (by omega)) rfl rfl ?_
            first | assumption | exact Fr.refl _
          · extract_lets -merge -underBinder +onlyGivenNames x1
            try clear_value (e1 : x1 = _)
            extract_lets -merge -underBinder +onlyGivenNames x2
            refine Fr.cut x2 ?_ (fun h2 => ?_)
            · unfold x2
              refine Fr.wr (xs := [⟨17209229440, 17209229440, 1, 0⟩]) rfl rfl ?_
              refine Fr.wr (xs := [⟨17209229312, 17209229312, 1, 0⟩]) rfl rfl ?_
              first | assumption | exact Fr.refl _
            try clear_value x2
            refine Fr.set_lsc rfl ?_
            first | assumption | exact Fr.refl _
  try clear_value x0
  refine FrRes.next ?_
  refine Fr.iteh (fun _ => ?_) (fun _ => ?_)
  · refine Fr.step (State.werr_0x200E (by omega)) rfl rfl ?_
    first | assumption | exact Fr.refl _
  · first | assumption | exact Fr.refl _

theorem execLscHandoverDone_fr {a0} {s} : FrRes [⟨17209229440, 17209229440, 1, 0⟩, ⟨17209229442, 17209229442, 1, 0⟩, ⟨17209231360, 17209231360, 1, 0⟩] [.lsc] s (execLscHandoverDone a0 s) := by
  unfold execLscHandoverDone
  refine FrRes.next ?_
  refine Fr.iteh (fun _ => ?_) (fun _ => ?_)
  · first | assumption | exact Fr.refl _
  · extract_lets -merge -underBinder +onlyGivenNames x0
    try clear_value (e0 : x0 = _)
    extract_lets -merge -underBinder +onlyGivenNames x1
    refine Fr.cut x1 ?_ (fun h1 => ?_)
    · unfold x1
      refine Fr.wr (xs := [⟨17209229440, 17209229440, 1, 0⟩]) rfl rfl ?_
      first | assumption | exact Fr.refl _
    try clear_value x1
    refine Fr.step State.showRamp_fr rfl rfl ?_
    refine Fr.step State.showPhases_fr rfl rfl ?_
    refine Fr.set_lsc rfl ?_
    first | assumption | exact Fr.refl _

theorem execLscRelease_fr {s} : FrRes [⟨17209229312, 17209229312, 1, 0⟩, ⟨17209229440, 17209229440, 1, 0⟩, ⟨17211359376, 17211408272, 256, 0⟩, ⟨17181966336, 17181966336, 1, 0⟩, ⟨17181967360, 17181967360, 1, 0⟩, ⟨17186226581, 17186257301, 2048, 0⟩, ⟨17181966338, 17181966338, 1, 0⟩, ⟨17181966495, 17181966495, 1, 0⟩, ⟨17186168832, 17186169247, 1, 0⟩, ⟨17209229443, 17209229443, 1, 0⟩, ⟨17209229442, 17209229442, 1, 0⟩, ⟨17209231360, 17209231360, 1, 0⟩, ⟨17209231504, 17209231504, 1, 0⟩, ⟨17209231488, 17209231488, 1, 0⟩, ⟨17209231376, 17209231376, 1, 0⟩, ⟨17209245696, 17209251736, 8, 0⟩] [.lsc, .pwr, .flt, .evc, .free, .cal] s (execLscRelease s) := by
  unfold execLscRelease
  refine FrRes.next ?_
  refine Fr.step State.lscRelease_fr rfl rfl ?_
  first | assumption | exact Fr.refl _

theorem State.slew_fr {s} : Fr [⟨17209229442, 17209229442, 1, 0⟩, ⟨17209231360, 17209231360, 1, 0⟩] [.lsc] s (State.slew s) := by
  unfold State.slew
  extract_lets -merge -underBinder +onlyGivenNames x0
  try clear_value (e0 : x0 = _)
  extract_lets -merge -underBinder +onlyGivenNames x1
  try clear_value (e1 : x1 = _)
  extract_lets -merge -underBinder +onlyGivenNames x2
  try clear_value (e2 : x2 = _)
  extract_lets -merge -underBinder +onlyGivenNames x3
  try clear_value (e3 : x3 = _)
  extract_lets -merge -underBinder +onlyGivenNames x4
  try clear_value (e4 : x4 = _)
  refine Fr.step State.showRamp_fr rfl rfl ?_
  refine Fr.set_lsc rfl ?_
  first | assumption | exact Fr.refl _

theorem State.voltageLoop_fr {s} : Fr [] [.lsc] s (State.voltageLoop s) := by
  unfold State.voltageLoop
  extract_lets -merge -underBinder +onlyGivenNames x0
  try clear_value x0
  extract_lets -merge -underBinder +onlyGivenNames x1
  try clear_value x1
  extract_lets -merge -underBinder +onlyGivenNames x2
  try clear_value x2
  refine Fr.step State.showPhases_fr rfl rfl ?_
  refine Fr.set_lsc rfl ?_
  first | assumption | exact Fr.refl _

theorem execLscLoopUpdate_fr {a0} {s} : FrRes [⟨17209229442, 17209229442, 1, 0⟩, ⟨17209231360, 17209231360, 1, 0⟩] [.lsc] s (execLscLoopUpdate a0 s) := by
  unfold execLscLoopUpdate
  extract_lets -merge -underBinder +onlyGivenNames x0
  extract_lets -merge -underBinder +onlyGivenNames x1
  extract_lets -merge -underBinder +onlyGivenNames x2
  refine Fr.cutRes x2 ?_ (fun h2 => ?_)
  · unfold x2
    refine Fr.step State.slew_fr rfl rfl ?_
    refine Fr.set_lsc rfl ?_
    first | assumption | exact Fr.refl _
  try clear_value x2
  extract_lets -merge -underBinder +onlyGivenNames x3
  extract_lets -merge -underBinder +onlyGivenNames x4
  refine Fr.cutRes x4 ?_ (fun h4 => ?_)
  · unfold x4
    refine Fr.set_lsc rfl ?_
    first | assumption | exact Fr.refl _
  try clear_value x4
  refine FrRes.next ?_
  refine Fr.iteh (fun _ => ?_) (fun _ => ?_)
  · first | assumption | exact Fr.refl _
  · refine Fr.iteh (fun _ => ?_) (fun _ => ?_)
    · refine Fr.step State.voltageLoop_fr rfl rfl ?_
      first | assumption | exact Fr.refl _
    · first | assumption | exact Fr.refl _

theorem execLscPhaseSample_fr {a0} {a1} {s} : FrRes [] [.lsc] s (execLscPhaseSample a0 a1 s) := by
  unfold execLscPhaseSample
  refine FrRes.next ?_
  refine Fr.iteh (fun _ => ?_) (fun _ => ?_)
  · first | assumption | exact Fr.refl _
  · extract_lets -merge -underBinder +onlyGivenNames x0
    try clear_value (e0 : x0 = _)
    extract_lets -merge -underBinder +onlyGivenNames x1
    extract_lets -merge -underBinder +onlyGivenNames x2
    refine Fr.cut x2 ?_ (fun h2 => ?_)
    · unfold x2
      refine Fr.set_lsc rfl ?_
      first | assumption | exact Fr.refl _
    try clear_value x2
    refine Fr.iteh (fun _ => ?_) (fun _ => ?_)
    · first | assumption | exact Fr.refl _
    · extract_lets -merge -underBinder +onlyGivenNames x3
      try clear_value (e3 : x3 = _)
      extract_lets -merge -underBinder +onlyGivenNames x4
      try clear_value (e4 : x4 = _)
      extract_lets -merge -underBinder +onlyGivenNames x5
      try clear_value x5
      extract_lets -merge -underBinder +onlyGivenNames x6
      try clear_value x6
      extract_lets -merge -underBinder +onlyGivenNames x7
      try clear_value x7
      refine Fr.step State.showPhases_fr rfl rfl ?_
      refine Fr.set_lsc rfl ?_
      first | assumption | exact Fr.refl _

theorem execLscCommit_fr {a0} {a1} {s} : FrRes [⟨17209229312, 17209229343, 32, 31⟩, ⟨17209229446, 17209229446, 1, 0⟩, ⟨17181966336, 17181966336, 1, 0⟩, ⟨17181967360, 17181967360, 1, 0⟩, ⟨17186226581, 17186257301, 2048, 0⟩, ⟨17181966338, 17181966338, 1, 0⟩, ⟨17181966495, 17181966495, 1, 0⟩, ⟨17186168832, 17186169247, 1, 0⟩, ⟨17188261632, 17188261632, 1, 0⟩, ⟨17181967232, 17181967263, 1, 0⟩, ⟨17209229568, 17209229568, 1, 0⟩] [.flt, .evc, .pwr, .pair, .lsc, .lane] s (execLscCommit a0 a1 s) := by
  unfold execLscCommit
  refine FrRes.next ?_
  refine busWrite_fr (x := ⟨17209229312, 17209229343, 32, 31⟩) (Keys.word_intro (by first | omega | (omega)) (by first | omega | (omega)) (by first | omega | (omega))) (fun u => State.werr_0x200E (by omega)) rfl rfl ?_ (fun t ht => ?_)
  · first | assumption | exact Fr.refl _
  · refine Fr.iteh (fun _ => ?_) (fun _ => ?_)
    · refine Fr.step State.commitBlock_fr4 rfl rfl ?_
      first | assumption | exact Fr.refl _
    · first | assumption | exact Fr.refl _

theorem execPhaseOvercurrent_fr {a0} {a1} {s} : FrRes [⟨17209231872, 17209231896, 8, 0⟩, ⟨17209229452, 17209229455, 1, 0⟩] [.lsc] s (execPhaseOvercurrent a0 a1 s) := by
  unfold execPhaseOvercurrent
  refine FrRes.next ?_
  refine Fr.iteh (fun _ => ?_) (fun _ => ?_)
  · first | assumption | exact Fr.refl _
  · extract_lets -merge -underBinder +onlyGivenNames x0
    refine Fr.cut x0 ?_ (fun h0 => ?_)
    · unfold x0
      refine Fr.inc (xs := [⟨17209231872, 17209231896, 8, 0⟩]) (Reg.LSC_OC_CNT_key (by first | omega | (simp only [List.mem_range] at *; omega))) rfl ?_
      refine Fr.wr (xs := [⟨17209229452, 17209229455, 1, 0⟩]) (Reg.LSC_STATUS_PH_OC_key (by first | omega | (simp only [List.mem_range] at *; omega))) rfl ?_
      first | assumption | exact Fr.refl _
    try clear_value x0
    refine Fr.set_lsc rfl ?_
    first | assumption | exact Fr.refl _

theorem execPersistentOvercurrent_fr {s} : FrRes [⟨17209229449, 17209229449, 1, 0⟩, ⟨17181966336, 17181966336, 1, 0⟩, ⟨17181967360, 17181967360, 1, 0⟩, ⟨17186226581, 17186257301, 2048, 0⟩, ⟨17181966338, 17181966338, 1, 0⟩, ⟨17181966495, 17181966495, 1, 0⟩, ⟨17186168832, 17186169247, 1, 0⟩, ⟨17209229312, 17209229312, 1, 0⟩, ⟨17209229440, 17209229440, 1, 0⟩, ⟨17211359376, 17211408272, 256, 0⟩, ⟨17209229443, 17209229443, 1, 0⟩, ⟨17209229442, 17209229442, 1, 0⟩, ⟨17209231360, 17209231360, 1, 0⟩, ⟨17209231504, 17209231504, 1, 0⟩, ⟨17209231488, 17209231488, 1, 0⟩, ⟨17209231376, 17209231376, 1, 0⟩, ⟨17209245696, 17209251736, 8, 0⟩] [.flt, .pwr, .evc, .lsc, .free, .cal] s (execPersistentOvercurrent s) := by
  unfold execPersistentOvercurrent
  refine FrRes.next ?_
  refine Fr.iteh (fun _ => ?_) (fun _ => ?_)
  · unfold State.lscTrip
    try dsimp -zeta only
    refine Fr.iteh (fun _ => ?_) (fun _ => ?_)
    · first | assumption | exact Fr.refl _
    · refine Fr.iteh (fun _ => ?_) (fun _ => ?_)
      · refine Fr.iteh (fun _ => ?_) (fun _ => ?_)
        · first | assumption | exact Fr.refl _
        · refine Fr.step State.raise_fr rfl rfl ?_
          refine Fr.wr (xs := [⟨17209229449, 17209229449, 1, 0⟩]) rfl rfl ?_
          first | assumption | exact Fr.refl _
      · refine Fr.step State.raise_fr rfl rfl ?_
        refine Fr.step State.fire_fr rfl rfl ?_
        refine Fr.step State.lscRelease_fr rfl rfl ?_
        refine Fr.wr (xs := [⟨17209229449, 17209229449, 1, 0⟩]) rfl rfl ?_
        first | assumption | exact Fr.refl _
  · first | assumption | exact Fr.refl _

theorem execOverVoltage_fr {s} : FrRes [⟨17209229448, 17209229448, 1, 0⟩, ⟨17181966336, 17181966336, 1, 0⟩, ⟨17181967360, 17181967360, 1, 0⟩, ⟨17186226581, 17186257301, 2048, 0⟩, ⟨17181966338, 17181966338, 1, 0⟩, ⟨17181966495, 17181966495, 1, 0⟩, ⟨17186168832, 17186169247, 1, 0⟩, ⟨17209229312, 17209229312, 1, 0⟩, ⟨17209229440, 17209229440, 1, 0⟩, ⟨17211359376, 17211408272, 256, 0⟩, ⟨17209229443, 17209229443, 1, 0⟩, ⟨17209229442, 17209229442, 1, 0⟩, ⟨17209231360, 17209231360, 1, 0⟩, ⟨17209231504, 17209231504, 1, 0⟩, ⟨17209231488, 17209231488, 1, 0⟩, ⟨17209231376, 17209231376, 1, 0⟩, ⟨17209245696, 17209251736, 8, 0⟩] [.flt, .pwr, .evc, .lsc, .free, .cal] s (execOverVoltage s) := by
  unfold execOverVoltage
  refine FrRes.next ?_
  unfold State.lscTrip
  try dsimp -zeta only
  refine Fr.iteh (fun _ => ?_) (fun _ => ?_)
  · first | assumption | exact Fr.refl _
  · refine Fr.iteh (fun _ => ?_) (fun _ => ?_)
    · refine Fr.iteh (fun _ => ?_) (fun _ => ?_)
      · first | assumption | exact Fr.refl _
      · refine Fr.step State.raise_fr rfl rfl ?_
        refine Fr.wr (xs := [⟨17209229448, 17209229448, 1, 0⟩]) rfl rfl ?_
        first | assumption | exact Fr.refl _
    · refine Fr.step State.raise_fr rfl rfl ?_
      refine Fr.step State.fire_fr rfl rfl ?_
      refine Fr.step State.lscRelease_fr rfl rfl ?_
      refine Fr.wr (xs := [⟨17209229448, 17209229448, 1, 0⟩]) rfl rfl ?_
      first | assumption | exact Fr.refl _

theorem execUnderVoltage_fr {s} : FrRes [⟨17209229450, 17209229450, 1, 0⟩, ⟨17181966336, 17181966336, 1, 0⟩, ⟨17181967360, 17181967360, 1, 0⟩, ⟨17186226581, 17186257301, 2048, 0⟩, ⟨17181966338, 17181966338, 1, 0⟩, ⟨17181966495, 17181966495, 1, 0⟩, ⟨17186168832, 17186169247, 1, 0⟩, ⟨17209229312, 17209229312, 1, 0⟩, ⟨17209229440, 17209229440, 1, 0⟩, ⟨17211359376, 17211408272, 256, 0⟩, ⟨17209229443, 17209229443, 1, 0⟩, ⟨17209229442, 17209229442, 1, 0⟩, ⟨17209231360, 17209231360, 1, 0⟩, ⟨17209231504, 17209231504, 1, 0⟩, ⟨17209231488, 17209231488, 1, 0⟩, ⟨17209231376, 17209231376, 1, 0⟩, ⟨17209245696, 17209251736, 8, 0⟩] [.flt, .pwr, .evc, .lsc, .free, .cal] s (execUnderVoltage s) := by
  unfold execUnderVoltage
  refine FrRes.next ?_
  refine Fr.iteh (fun _ => ?_) (fun _ => ?_)
  · unfold State.lscTrip
    try dsimp -zeta only
    refine Fr.iteh (fun _ => ?_) (fun _ => ?_)
    · first | assumption | exact Fr.refl _
    · refine Fr.iteh (fun _ => ?_) (fun _ => ?_)
      · refine Fr.iteh (fun _ => ?_) (fun _ => ?_)
        · first | assumption | exact Fr.refl _
        · refine Fr.step State.raise_fr rfl rfl ?_
          refine Fr.wr (xs := [⟨17209229450, 17209229450, 1, 0⟩]) rfl rfl ?_
          first | assumption | exact Fr.refl _
      · refine Fr.step State.raise_fr rfl rfl ?_
        refine Fr.step State.fire_fr rfl rfl ?_
        refine Fr.step State.lscRelease_fr rfl rfl ?_
        refine Fr.wr (xs := [⟨17209229450, 17209229450, 1, 0⟩]) rfl rfl ?_
        first | assumption | exact Fr.refl _
  · first | assumption | exact Fr.refl _

theorem execStageFault_fr {s} : FrRes [⟨17209229451, 17209229451, 1, 0⟩, ⟨17181966336, 17181966336, 1, 0⟩, ⟨17181967360, 17181967360, 1, 0⟩, ⟨17186226581, 17186257301, 2048, 0⟩, ⟨17181966338, 17181966338, 1, 0⟩, ⟨17181966495, 17181966495, 1, 0⟩, ⟨17186168832, 17186169247, 1, 0⟩, ⟨17209229312, 17209229312, 1, 0⟩, ⟨17209229440, 17209229440, 1, 0⟩, ⟨17211359376, 17211408272, 256, 0⟩, ⟨17209229443, 17209229443, 1, 0⟩, ⟨17209229442, 17209229442, 1, 0⟩, ⟨17209231360, 17209231360, 1, 0⟩, ⟨17209231504, 17209231504, 1, 0⟩, ⟨17209231488, 17209231488, 1, 0⟩, ⟨17209231376, 17209231376, 1, 0⟩, ⟨17209245696, 17209251736, 8, 0⟩] [.flt, .pwr, .evc, .lsc, .free, .cal] s (execStageFault s) := by
  unfold execStageFault
  refine FrRes.next ?_
  unfold State.lscTrip
  try dsimp -zeta only
  refine Fr.iteh (fun _ => ?_) (fun _ => ?_)
  · first | assumption | exact Fr.refl _
  · refine Fr.iteh (fun _ => ?_) (fun _ => ?_)
    · refine Fr.iteh (fun _ => ?_) (fun _ => ?_)
      · first | assumption | exact Fr.refl _
      · refine Fr.step State.raise_fr rfl rfl ?_
        refine Fr.wr (xs := [⟨17209229451, 17209229451, 1, 0⟩]) rfl rfl ?_
        first | assumption | exact Fr.refl _
    · refine Fr.step State.raise_fr rfl rfl ?_
      refine Fr.step State.fire_fr rfl rfl ?_
      refine Fr.step State.lscRelease_fr rfl rfl ?_
      refine Fr.wr (xs := [⟨17209229451, 17209229451, 1, 0⟩]) rfl rfl ?_
      first | assumption | exact Fr.refl _

end Sys2Proof.Machine
end

