-- ==== Sys2Proof/Laws/MaskinFrame.lean ====
section
/-! SUPPORT. What each operation and command of Machine/Maskin.lean changes at most: register blocks and zones of the state. -/

namespace Sys2Proof.Machine

theorem execMaskinEnable_fr {a0} {a1} {s} : FrRes [⟨17230200832, 17230200863, 32, 31⟩, ⟨17230200963, 17230200963, 1, 0⟩, ⟨17181966336, 17181966336, 1, 0⟩, ⟨17181967360, 17181967360, 1, 0⟩, ⟨17186226581, 17186257301, 2048, 0⟩, ⟨17181966338, 17181966338, 1, 0⟩, ⟨17181966495, 17181966495, 1, 0⟩, ⟨17186168832, 17186169247, 1, 0⟩, ⟨17188261632, 17188261632, 1, 0⟩, ⟨17181967232, 17181967263, 1, 0⟩, ⟨17230200962, 17230200962, 1, 0⟩, ⟨17198743680, 17198743687, 1, 0⟩, ⟨17230200968, 17230200968, 1, 0⟩, ⟨17230200961, 17230200961, 1, 0⟩, ⟨17230200960, 17230200960, 1, 0⟩] [.flt, .evc, .pwr, .pair, .maskin] s (execMaskinEnable a0 a1 s) := by
  unfold execMaskinEnable
  refine FrRes.next ?_
  refine busWrite_fr (x := ⟨17230200832, 17230200863, 32, 31⟩) (Keys.word_intro (by first | omega | (omega)) (by first | omega | (omega)) (by first | omega | (omega))) (fun u => State.werr_0x2018 (by omega)) rfl rfl ?_ (fun t ht => ?_)
  · first | assumption | exact Fr.refl _
  · refine Fr.iteh (fun _ => ?_) (fun _ => ?_)
    · refine Fr.iteh (fun _ => ?_) (fun _ => ?_)
      · first | assumption | exact Fr.refl _
      · extract_lets -merge -underBinder +onlyGivenNames x0
        refine Fr.cut x0 ?_ (fun h0 => ?_)
        · unfold x0
          refine Fr.step State.maskLive_fr rfl rfl ?_
          refine Fr.wr (xs := [⟨17230200832, 17230200832, 1, 0⟩]) rfl rfl ?_
          refine Fr.step State.setMask_fr rfl rfl ?_
          first | assumption | exact Fr.refl _
        try clear_value x0
        extract_lets -merge -underBinder +onlyGivenNames x1
        refine Fr.cut x1 ?_ (fun h1 => ?_)
        · unfold x1
          refine Fr.step State.maskUnlive_fr rfl rfl ?_
          first | assumption | exact Fr.refl _
        try clear_value x1
        refine Fr.wr (xs := [⟨17230200968, 17230200968, 1, 0⟩]) rfl rfl ?_
        refine Fr.wr (xs := [⟨17230200961, 17230200961, 1, 0⟩]) rfl rfl ?_
        refine Fr.wr (xs := [⟨17230200960, 17230200960, 1, 0⟩]) rfl rfl ?_
        first | assumption | exact Fr.refl _
    · refine Fr.iteh (fun _ => ?_) (fun _ => ?_)
      · refine Fr.step (State.werr_0x2018 (by omega)) rfl rfl ?_
        first | assumption | exact Fr.refl _
      · refine Fr.wr (xs := [⟨17230200832, 17230200832, 1, 0⟩]) rfl rfl ?_
        first | assumption | exact Fr.refl _

theorem execMaskinFrameStart_fr {a0} {s} : FrRes [⟨17230201986, 17230201986, 1, 0⟩, ⟨17230201990, 17230201990, 1, 0⟩, ⟨17230201989, 17230201989, 1, 0⟩, ⟨17230201992, 17230201992, 1, 0⟩, ⟨17230200961, 17230200961, 1, 0⟩, ⟨17230201856, 17230201856, 1, 0⟩, ⟨17181966336, 17181966336, 1, 0⟩, ⟨17181967360, 17181967360, 1, 0⟩, ⟨17186226581, 17186257301, 2048, 0⟩, ⟨17181966338, 17181966338, 1, 0⟩, ⟨17181966495, 17181966495, 1, 0⟩, ⟨17186168832, 17186169247, 1, 0⟩, ⟨17230201872, 17230201872, 1, 0⟩, ⟨17230200960, 17230200960, 1, 0⟩, ⟨17230201991, 17230201991, 1, 0⟩, ⟨17230201988, 17230201988, 1, 0⟩, ⟨17230201985, 17230201985, 1, 0⟩, ⟨17230201987, 17230201987, 1, 0⟩, ⟨17194549776, 17194549776, 1, 0⟩, ⟨17192452352, 17192452352, 1, 0⟩, ⟨17192452608, 17192452608, 1, 0⟩, ⟨17192452480, 17192452480, 1, 0⟩, ⟨17192452229, 17192452229, 1, 0⟩, ⟨17192452228, 17192452228, 1, 0⟩, ⟨17188261632, 17188261632, 1, 0⟩, ⟨17181967232, 17181967263, 1, 0⟩] [.maskin, .pwr, .flt, .evc, .pair, .lane, .mem, .memc] s (execMaskinFrameStart a0 s) := by
  unfold execMaskinFrameStart
  refine FrRes.next ?_
  refine Fr.step State.maskPacket_fr rfl rfl ?_
  first | assumption | exact Fr.refl _

theorem execMaskinFrameEnd_fr {a0} {s} : FrRes [⟨17230201986, 17230201986, 1, 0⟩, ⟨17230201990, 17230201990, 1, 0⟩, ⟨17230201989, 17230201989, 1, 0⟩, ⟨17230201992, 17230201992, 1, 0⟩, ⟨17230200961, 17230200961, 1, 0⟩, ⟨17230201856, 17230201856, 1, 0⟩, ⟨17181966336, 17181966336, 1, 0⟩, ⟨17181967360, 17181967360, 1, 0⟩, ⟨17186226581, 17186257301, 2048, 0⟩, ⟨17181966338, 17181966338, 1, 0⟩, ⟨17181966495, 17181966495, 1, 0⟩, ⟨17186168832, 17186169247, 1, 0⟩, ⟨17230201872, 17230201872, 1, 0⟩, ⟨17230200960, 17230200960, 1, 0⟩, ⟨17230201991, 17230201991, 1, 0⟩, ⟨17230201988, 17230201988, 1, 0⟩, ⟨17230201985, 17230201985, 1, 0⟩, ⟨17230201987, 17230201987, 1, 0⟩, ⟨17194549776, 17194549776, 1, 0⟩, ⟨17192452352, 17192452352, 1, 0⟩, ⟨17192452608, 17192452608, 1, 0⟩, ⟨17192452480, 17192452480, 1, 0⟩, ⟨17192452229, 17192452229, 1, 0⟩, ⟨17192452228, 17192452228, 1, 0⟩, ⟨17188261632, 17188261632, 1, 0⟩, ⟨17181967232, 17181967263, 1, 0⟩] [.maskin, .pwr, .flt, .evc, .pair, .lane, .mem, .memc] s (execMaskinFrameEnd a0 s) := by
  unfold execMaskinFrameEnd
  refine FrRes.next ?_
  refine Fr.step State.maskPacket_fr rfl rfl ?_
  first | assumption | exact Fr.refl _

theorem execMaskinLongPacket_fr {a0} {a1} {a2} {s} : FrRes [⟨17230201986, 17230201986, 1, 0⟩, ⟨17230201990, 17230201990, 1, 0⟩, ⟨17230201989, 17230201989, 1, 0⟩, ⟨17230201992, 17230201992, 1, 0⟩, ⟨17230200961, 17230200961, 1, 0⟩, ⟨17230201856, 17230201856, 1, 0⟩, ⟨17181966336, 17181966336, 1, 0⟩, ⟨17181967360, 17181967360, 1, 0⟩, ⟨17186226581, 17186257301, 2048, 0⟩, ⟨17181966338, 17181966338, 1, 0⟩, ⟨17181966495, 17181966495, 1, 0⟩, ⟨17186168832, 17186169247, 1, 0⟩, ⟨17230201872, 17230201872, 1, 0⟩, ⟨17230200960, 17230200960, 1, 0⟩, ⟨17230201991, 17230201991, 1, 0⟩, ⟨17230201988, 17230201988, 1, 0⟩, ⟨17230201985, 17230201985, 1, 0⟩, ⟨17230201987, 17230201987, 1, 0⟩, ⟨17194549776, 17194549776, 1, 0⟩, ⟨17192452352, 17192452352, 1, 0⟩, ⟨17192452608, 17192452608, 1, 0⟩, ⟨17192452480, 17192452480, 1, 0⟩, ⟨17192452229, 17192452229, 1, 0⟩, ⟨17192452228, 17192452228, 1, 0⟩, ⟨17188261632, 17188261632, 1, 0⟩, ⟨17181967232, 17181967263, 1, 0⟩] [.maskin, .pwr, .flt, .evc, .pair, .lane, .mem, .memc] s (execMaskinLongPacket a0 a1 a2 s) := by
  unfold execMaskinLongPacket
  refine FrRes.next ?_
  refine Fr.step State.maskPacket_fr rfl rfl ?_
  first | assumption | exact Fr.refl _

theorem execMaskinShortPacket_fr {a0} {s} : FrRes [⟨17230201986, 17230201986, 1, 0⟩, ⟨17230201990, 17230201990, 1, 0⟩, ⟨17230201989, 17230201989, 1, 0⟩, ⟨17230201992, 17230201992, 1, 0⟩, ⟨17230200961, 17230200961, 1, 0⟩, ⟨17230201856, 17230201856, 1, 0⟩, ⟨17181966336, 17181966336, 1, 0⟩, ⟨17181967360, 17181967360, 1, 0⟩, ⟨17186226581, 17186257301, 2048, 0⟩, ⟨17181966338, 17181966338, 1, 0⟩, ⟨17181966495, 17181966495, 1, 0⟩, ⟨17186168832, 17186169247, 1, 0⟩, ⟨17230201872, 17230201872, 1, 0⟩, ⟨17230200960, 17230200960, 1, 0⟩, ⟨17230201991, 17230201991, 1, 0⟩, ⟨17230201988, 17230201988, 1, 0⟩, ⟨17230201985, 17230201985, 1, 0⟩, ⟨17230201987, 17230201987, 1, 0⟩, ⟨17194549776, 17194549776, 1, 0⟩, ⟨17192452352, 17192452352, 1, 0⟩, ⟨17192452608, 17192452608, 1, 0⟩, ⟨17192452480, 17192452480, 1, 0⟩, ⟨17192452229, 17192452229, 1, 0⟩, ⟨17192452228, 17192452228, 1, 0⟩, ⟨17188261632, 17188261632, 1, 0⟩, ⟨17181967232, 17181967263, 1, 0⟩] [.maskin, .pwr, .flt, .evc, .pair, .lane, .mem, .memc] s (execMaskinShortPacket a0 s) := by
  unfold execMaskinShortPacket
  refine FrRes.next ?_
  refine Fr.step State.maskPacket_fr rfl rfl ?_
  first | assumption | exact Fr.refl _

theorem execMaskinHeaderEccError_fr {s} : FrRes [⟨17230201986, 17230201986, 1, 0⟩] [.maskin] s (execMaskinHeaderEccError s) := by
  unfold execMaskinHeaderEccError
  refine FrRes.next ?_
  refine Fr.iteh (fun _ => ?_) (fun _ => ?_)
  · refine Fr.step State.maskEcc_fr rfl rfl ?_
    first | assumption | exact Fr.refl _
  · first | assumption | exact Fr.refl _

theorem execMaskinOtherPacket_fr {a0} {s} : FrRes [⟨17230201986, 17230201986, 1, 0⟩, ⟨17230201990, 17230201990, 1, 0⟩, ⟨17230201989, 17230201989, 1, 0⟩, ⟨17230201992, 17230201992, 1, 0⟩, ⟨17230200961, 17230200961, 1, 0⟩, ⟨17230201856, 17230201856, 1, 0⟩, ⟨17181966336, 17181966336, 1, 0⟩, ⟨17181967360, 17181967360, 1, 0⟩, ⟨17186226581, 17186257301, 2048, 0⟩, ⟨17181966338, 17181966338, 1, 0⟩, ⟨17181966495, 17181966495, 1, 0⟩, ⟨17186168832, 17186169247, 1, 0⟩, ⟨17230201872, 17230201872, 1, 0⟩, ⟨17230200960, 17230200960, 1, 0⟩, ⟨17230201991, 17230201991, 1, 0⟩, ⟨17230201988, 17230201988, 1, 0⟩, ⟨17230201985, 17230201985, 1, 0⟩, ⟨17230201987, 17230201987, 1, 0⟩, ⟨17194549776, 17194549776, 1, 0⟩, ⟨17192452352, 17192452352, 1, 0⟩, ⟨17192452608, 17192452608, 1, 0⟩, ⟨17192452480, 17192452480, 1, 0⟩, ⟨17192452229, 17192452229, 1, 0⟩, ⟨17192452228, 17192452228, 1, 0⟩, ⟨17188261632, 17188261632, 1, 0⟩, ⟨17181967232, 17181967263, 1, 0⟩] [.maskin, .pwr, .flt, .evc, .pair, .lane, .mem, .memc] s (execMaskinOtherPacket a0 s) := by
  unfold execMaskinOtherPacket
  refine FrRes.next ?_
  refine Fr.step State.maskPacket_fr rfl rfl ?_
  first | assumption | exact Fr.refl _

theorem execMaskComplete_fr {s} : FrRes [⟨17230201992, 17230201992, 1, 0⟩, ⟨17230200961, 17230200961, 1, 0⟩, ⟨17230201856, 17230201856, 1, 0⟩] [.maskin] s (execMaskComplete s) := by
  unfold execMaskComplete
  refine FrRes.next ?_
  refine Fr.step State.maskComplete_fr rfl rfl ?_
  first | assumption | exact Fr.refl _

theorem execMaskinLineTimeout_fr {s} : FrRes [⟨17181966336, 17181966336, 1, 0⟩, ⟨17181967360, 17181967360, 1, 0⟩, ⟨17186226581, 17186257301, 2048, 0⟩, ⟨17181966338, 17181966338, 1, 0⟩, ⟨17181966495, 17181966495, 1, 0⟩, ⟨17186168832, 17186169247, 1, 0⟩, ⟨17230201872, 17230201872, 1, 0⟩, ⟨17230200960, 17230200960, 1, 0⟩, ⟨17230201984, 17230201984, 1, 0⟩] [.pwr, .flt, .evc] s (execMaskinLineTimeout s) := by
  unfold execMaskinLineTimeout
  refine FrRes.next ?_
  refine Fr.iteh (fun _ => ?_) (fun _ => ?_)
  · refine Fr.step State.maskDiscard_fr rfl rfl ?_
    refine Fr.wr (xs := [⟨17230201984, 17230201984, 1, 0⟩]) rfl rfl ?_
    first | assumption | exact Fr.refl _
  · first | assumption | exact Fr.refl _

theorem execProtectedRegionWrite_fr {a0} {a1} {a2} {s} : FrRes [⟨17188261632, 17188261632, 1, 0⟩, ⟨17181966336, 17181966336, 1, 0⟩, ⟨17181967360, 17181967360, 1, 0⟩, ⟨17186226581, 17186257301, 2048, 0⟩, ⟨17181966338, 17181966338, 1, 0⟩, ⟨17181966495, 17181966495, 1, 0⟩, ⟨17186168832, 17186169247, 1, 0⟩, ⟨17194549776, 17194549776, 1, 0⟩, ⟨17192452352, 17192452352, 1, 0⟩, ⟨17192452608, 17192452608, 1, 0⟩, ⟨17192452480, 17192452480, 1, 0⟩, ⟨17192452229, 17192452229, 1, 0⟩, ⟨17192452228, 17192452228, 1, 0⟩, ⟨17181967232, 17181967263, 1, 0⟩] [.flt, .mem, .pwr, .evc, .memc] s (execProtectedRegionWrite a0 a1 a2 s) := by
  unfold execProtectedRegionWrite
  refine FrRes.next ?_
  refine Fr.step State.dramWrite_fr rfl rfl ?_
  first | assumption | exact Fr.refl _

end Sys2Proof.Machine
end

