-- ==== Sys2Proof/Laws/MemcFrame.lean ====
section
/-! SUPPORT. What each operation and command of Machine/Memc.lean changes at most: register blocks and zones of the state. -/

namespace Sys2Proof.Machine

theorem State.setMemc_fr {s} {a1} : Fr [⟨17192452224, 17192452224, 1, 0⟩, ⟨17181966336, 17181966336, 1, 0⟩, ⟨17181967360, 17181967360, 1, 0⟩, ⟨17186226581, 17186257301, 2048, 0⟩, ⟨17181966338, 17181966338, 1, 0⟩, ⟨17181966495, 17181966495, 1, 0⟩, ⟨17186168832, 17186169247, 1, 0⟩] [.pwr, .flt, .evc] s (State.setMemc s a1) := by
  unfold State.setMemc
  extract_lets -merge -underBinder +onlyGivenNames x0
  refine Fr.cut x0 ?_ (fun h0 => ?_)
  · unfold x0
    refine Fr.wr (xs := [⟨17192452224, 17192452224, 1, 0⟩]) rfl rfl ?_
    first | assumption | exact Fr.refl _
  try clear_value x0
  refine Fr.iteh (fun _ => ?_) (fun _ => ?_)
  · first | assumption | exact Fr.refl _
  · refine Fr.step State.fire_fr rfl rfl ?_
    first | assumption | exact Fr.refl _

theorem State.memcFail_fr {s} : Fr [⟨17192452224, 17192452224, 1, 0⟩, ⟨17181966336, 17181966336, 1, 0⟩, ⟨17181967360, 17181967360, 1, 0⟩, ⟨17186226581, 17186257301, 2048, 0⟩, ⟨17181966338, 17181966338, 1, 0⟩, ⟨17181966495, 17181966495, 1, 0⟩, ⟨17186168832, 17186169247, 1, 0⟩, ⟨17192452097, 17192452097, 1, 0⟩] [.flt, .pwr, .evc] s (State.memcFail s) := by
  unfold State.memcFail
  refine Fr.step State.raise_fr rfl rfl ?_
  refine Fr.step State.setMemc_fr rfl rfl ?_
  refine Fr.wr (xs := [⟨17192452097, 17192452097, 1, 0⟩]) rfl rfl ?_
  first | assumption | exact Fr.refl _

theorem State.memcTrain_fr {s} : Fr [⟨17192452224, 17192452224, 1, 0⟩, ⟨17181966336, 17181966336, 1, 0⟩, ⟨17181967360, 17181967360, 1, 0⟩, ⟨17186226581, 17186257301, 2048, 0⟩, ⟨17181966338, 17181966338, 1, 0⟩, ⟨17181966495, 17181966495, 1, 0⟩, ⟨17186168832, 17186169247, 1, 0⟩, ⟨17192452097, 17192452097, 1, 0⟩] [.pwr, .flt, .evc] s (State.memcTrain s) := by
  unfold State.memcTrain
  extract_lets -merge -underBinder +onlyGivenNames x0
  refine Fr.cut x0 ?_ (fun h0 => ?_)
  · unfold x0
    refine Fr.step State.setMemc_fr rfl rfl ?_
    first | assumption | exact Fr.refl _
  try clear_value x0
  refine Fr.iteh (fun _ => ?_) (fun _ => ?_)
  · first | assumption | exact Fr.refl _
  · refine Fr.step State.memcFail_fr rfl rfl ?_
    first | assumption | exact Fr.refl _

theorem execMemcEnable_fr {a0} {a1} {s} : FrRes [⟨17192452096, 17192452127, 32, 31⟩, ⟨17192452227, 17192452227, 1, 0⟩, ⟨17188261632, 17188261632, 1, 0⟩, ⟨17181966336, 17181966336, 1, 0⟩, ⟨17181967360, 17181967360, 1, 0⟩, ⟨17186226581, 17186257301, 2048, 0⟩, ⟨17181966338, 17181966338, 1, 0⟩, ⟨17181966495, 17181966495, 1, 0⟩, ⟨17186168832, 17186169247, 1, 0⟩, ⟨17181967232, 17181967263, 1, 0⟩, ⟨17192452224, 17192452224, 1, 0⟩] [.flt, .evc, .pwr, .pair] s (execMemcEnable a0 a1 s) := by
  unfold execMemcEnable
  refine FrRes.next ?_
  refine busWrite_fr (x := ⟨17192452096, 17192452127, 32, 31⟩) (Keys.word_intro (by first | omega | (omega)) (by first | omega | (omega)) (by first | omega | (omega))) (fun u => State.werr_0x2006 (by omega)) rfl rfl ?_ (fun t ht => ?_)
  · first | assumption | exact Fr.refl _
  · refine Fr.iteh (fun _ => ?_) (fun _ => ?_)
    · refine Fr.iteh (fun _ => ?_) (fun _ => ?_)
      · first | assumption | exact Fr.refl _
      · refine Fr.step State.memcTrain_fr rfl rfl ?_
        refine Fr.wr (xs := [⟨17192452096, 17192452096, 1, 0⟩]) rfl rfl ?_
        first | assumption | exact Fr.refl _
    · refine Fr.step State.setMemc_fr rfl rfl ?_
      refine Fr.wr (xs := [⟨17192452097, 17192452097, 1, 0⟩]) rfl rfl ?_
      refine Fr.wr (xs := [⟨17192452096, 17192452096, 1, 0⟩]) rfl rfl ?_
      first | assumption | exact Fr.refl _

theorem execMemcTrainingEnd_fr {a0} {s} : FrRes [⟨17192452224, 17192452224, 1, 0⟩, ⟨17181966336, 17181966336, 1, 0⟩, ⟨17181967360, 17181967360, 1, 0⟩, ⟨17186226581, 17186257301, 2048, 0⟩, ⟨17181966338, 17181966338, 1, 0⟩, ⟨17181966495, 17181966495, 1, 0⟩, ⟨17186168832, 17186169247, 1, 0⟩, ⟨17192452097, 17192452097, 1, 0⟩] [.pwr, .flt, .evc] s (execMemcTrainingEnd a0 s) := by
  unfold execMemcTrainingEnd
  extract_lets -merge -underBinder +onlyGivenNames x0
  refine FrRes.next ?_
  refine Fr.iteh (fun _ => ?_) (fun _ => ?_)
  · refine Fr.iteh (fun _ => ?_) (fun _ => ?_)
    · refine Fr.step State.setMemc_fr rfl rfl ?_
      refine Fr.wr (xs := [⟨17192452097, 17192452097, 1, 0⟩]) rfl rfl ?_
      first | assumption | exact Fr.refl _
    · refine Fr.step State.memcFail_fr rfl rfl ?_
      first | assumption | exact Fr.refl _
  · first | assumption | exact Fr.refl _

theorem execMemcRetrain_fr {a0} {a1} {s} : FrRes [⟨17192452096, 17192452127, 32, 31⟩, ⟨17192452227, 17192452227, 1, 0⟩, ⟨17188261632, 17188261632, 1, 0⟩, ⟨17181966336, 17181966336, 1, 0⟩, ⟨17181967360, 17181967360, 1, 0⟩, ⟨17186226581, 17186257301, 2048, 0⟩, ⟨17181966338, 17181966338, 1, 0⟩, ⟨17181966495, 17181966495, 1, 0⟩, ⟨17186168832, 17186169247, 1, 0⟩, ⟨17181967232, 17181967263, 1, 0⟩, ⟨17192452224, 17192452224, 1, 0⟩] [.flt, .evc, .pwr, .pair] s (execMemcRetrain a0 a1 s) := by
  unfold execMemcRetrain
  refine FrRes.next ?_
  refine busWrite_fr (x := ⟨17192452096, 17192452127, 32, 31⟩) (Keys.word_intro (by first | omega | (omega)) (by first | omega | (omega)) (by first | omega | (omega))) (fun u => State.werr_0x2006 (by omega)) rfl rfl ?_ (fun t ht => ?_)
  · first | assumption | exact Fr.refl _
  · extract_lets -merge -underBinder +onlyGivenNames x0
    try clear_value (e0 : x0 = _)
    refine Fr.iteh (fun _ => ?_) (fun _ => ?_)
    · first | assumption | exact Fr.refl _
    · refine Fr.iteh (fun _ => ?_) (fun _ => ?_)
      · refine Fr.wr (xs := [⟨17192452097, 17192452097, 1, 0⟩]) rfl rfl ?_
        first | assumption | exact Fr.refl _
      · refine Fr.iteh (fun _ => ?_) (fun _ => ?_)
        · refine Fr.step State.memcTrain_fr rfl rfl ?_
          refine Fr.wr (xs := [⟨17192452097, 17192452097, 1, 0⟩]) rfl rfl ?_
          first | assumption | exact Fr.refl _
        · first | assumption | exact Fr.refl _

theorem execWck2dqTracking_fr {s} : FrRes [] [] s (execWck2dqTracking s) := by
  unfold execWck2dqTracking
  refine FrRes.next ?_
  first | assumption | exact Fr.refl _

theorem execDramPartialWrite_fr {a0} {a1} {a2} {a3} {s} : FrRes [⟨17188261632, 17188261632, 1, 0⟩, ⟨17181966336, 17181966336, 1, 0⟩, ⟨17181967360, 17181967360, 1, 0⟩, ⟨17186226581, 17186257301, 2048, 0⟩, ⟨17181966338, 17181966338, 1, 0⟩, ⟨17181966495, 17181966495, 1, 0⟩, ⟨17186168832, 17186169247, 1, 0⟩, ⟨17194549776, 17194549776, 1, 0⟩, ⟨17192452352, 17192452352, 1, 0⟩, ⟨17192452608, 17192452608, 1, 0⟩, ⟨17192452480, 17192452480, 1, 0⟩, ⟨17192452229, 17192452229, 1, 0⟩, ⟨17192452228, 17192452228, 1, 0⟩, ⟨17181967232, 17181967263, 1, 0⟩] [.flt, .mem, .pwr, .evc, .memc] s (execDramPartialWrite a0 a1 a2 a3 s) := by
  unfold execDramPartialWrite
  refine FrRes.next ?_
  refine Fr.step State.dramWrite_fr rfl rfl ?_
  first | assumption | exact Fr.refl _

theorem State.scrubNext_fr {s} {a1} : Fr [] [.memc] s (State.scrubNext s a1) := by
  unfold State.scrubNext
  extract_lets -merge -underBinder +onlyGivenNames x0
  try clear_value x0
  refine Fr.iteh (fun _ => ?_) (fun _ => ?_)
  · refine Fr.set_memc rfl ?_
    first | assumption | exact Fr.refl _
  · refine Fr.set_memc rfl ?_
    first | assumption | exact Fr.refl _

theorem Fr.withMem {bs zs} {s t : State} (hz : zs.contains .mem = true) (h : Fr bs zs s t) : Fr bs zs s { t with mem := s.mem, dramGen := s.dramGen } := by
  have hz' : Zone.mem ∈ zs := by simpa using hz
  refine ⟨h.regs, fun z hz => ?_, h.now, h.pending, fun hw => ?_⟩
  · have := h.zones z hz
    cases z <;> first | exact absurd hz' hz | exact this
  · have h1 := (State.wf_iff _).1 (h.wf hw)
    have h2 := (State.wf_iff _).1 hw
    exact (State.wf_iff _).2 ⟨h1.1, h1.2.1, h2.2.2⟩

theorem execScrubRead_fr {errs raced s} : FrRes [⟨17181966336, 17181966336, 1, 0⟩, ⟨17181967360, 17181967360, 1, 0⟩, ⟨17186226581, 17186257301, 2048, 0⟩, ⟨17181966338, 17181966338, 1, 0⟩, ⟨17181966495, 17181966495, 1, 0⟩, ⟨17186168832, 17186169247, 1, 0⟩, ⟨17192452352, 17192452352, 1, 0⟩, ⟨17192452608, 17192452608, 1, 0⟩, ⟨17192452480, 17192452480, 1, 0⟩, ⟨17192452229, 17192452229, 1, 0⟩, ⟨17192452228, 17192452228, 1, 0⟩] [.flt, .pwr, .evc, .memc, .mem] s (execScrubRead errs raced s) := by
  unfold execScrubRead
  extract_lets +onlyGivenNames b a
  refine FrRes.next (Fr.ite (Fr.refl s) ?_)
  extract_lets -merge +onlyGivenNames t
  have ht : Fr [⟨17181966336, 17181966336, 1, 0⟩, ⟨17181967360, 17181967360, 1, 0⟩, ⟨17186226581, 17186257301, 2048, 0⟩, ⟨17181966338, 17181966338, 1, 0⟩, ⟨17181966495, 17181966495, 1, 0⟩, ⟨17186168832, 17186169247, 1, 0⟩, ⟨17192452352, 17192452352, 1, 0⟩, ⟨17192452608, 17192452608, 1, 0⟩, ⟨17192452480, 17192452480, 1, 0⟩, ⟨17192452229, 17192452229, 1, 0⟩, ⟨17192452228, 17192452228, 1, 0⟩] [.flt, .pwr, .evc, .memc, .mem] s t := Fr.step State.blockRead_fr rfl rfl (Fr.refl s)
  clear_value t
  split
  · extract_lets u w
    have hu : Fr [⟨17181966336, 17181966336, 1, 0⟩, ⟨17181967360, 17181967360, 1, 0⟩, ⟨17186226581, 17186257301, 2048, 0⟩, ⟨17181966338, 17181966338, 1, 0⟩, ⟨17181966495, 17181966495, 1, 0⟩, ⟨17186168832, 17186169247, 1, 0⟩, ⟨17192452352, 17192452352, 1, 0⟩, ⟨17192452608, 17192452608, 1, 0⟩, ⟨17192452480, 17192452480, 1, 0⟩, ⟨17192452229, 17192452229, 1, 0⟩, ⟨17192452228, 17192452228, 1, 0⟩] [.flt, .pwr, .evc, .memc, .mem] s u := Fr.ite (Fr.withMem rfl ht) ht
    have hw : Fr [⟨17181966336, 17181966336, 1, 0⟩, ⟨17181967360, 17181967360, 1, 0⟩, ⟨17186226581, 17186257301, 2048, 0⟩, ⟨17181966338, 17181966338, 1, 0⟩, ⟨17181966495, 17181966495, 1, 0⟩, ⟨17186168832, 17186169247, 1, 0⟩, ⟨17192452352, 17192452352, 1, 0⟩, ⟨17192452608, 17192452608, 1, 0⟩, ⟨17192452480, 17192452480, 1, 0⟩, ⟨17192452229, 17192452229, 1, 0⟩, ⟨17192452228, 17192452228, 1, 0⟩] [.flt, .pwr, .evc, .memc, .mem] s w := Fr.ite (Fr.step State.memFault_fr rfl rfl hu) hu
    exact Fr.step State.scrubNext_fr rfl rfl hw
  · exact Fr.step State.scrubNext_fr rfl rfl ht

theorem execLinkEccRate_fr {a0} {s} : FrRes [⟨17181966336, 17181966336, 1, 0⟩, ⟨17181967360, 17181967360, 1, 0⟩, ⟨17186226581, 17186257301, 2048, 0⟩, ⟨17181966338, 17181966338, 1, 0⟩, ⟨17181966495, 17181966495, 1, 0⟩, ⟨17186168832, 17186169247, 1, 0⟩, ⟨17192452368, 17192452368, 1, 0⟩] [.pwr, .flt, .evc, .memc] s (execLinkEccRate a0 s) := by
  unfold execLinkEccRate
  refine FrRes.next ?_
  refine Fr.iteh (fun _ => ?_) (fun _ => ?_)
  · first | assumption | exact Fr.refl _
  · extract_lets -merge -underBinder +onlyGivenNames x0
    refine Fr.cut x0 ?_ (fun h0 => ?_)
    · unfold x0
      refine Fr.step State.ceEvent_fr rfl rfl ?_
      refine Fr.addSat (xs := [⟨17192452368, 17192452368, 1, 0⟩]) rfl rfl ?_
      first | assumption | exact Fr.refl _
    try clear_value x0
    refine Fr.iteh (fun _ => ?_) (fun _ => ?_)
    · refine Fr.step State.raise_fr rfl rfl ?_
      first | assumption | exact Fr.refl _
    · first | assumption | exact Fr.refl _

theorem execDramTempReport_fr {a0} {s} : FrRes [⟨17192452230, 17192452230, 1, 0⟩] [.flt] s (execDramTempReport a0 s) := by
  unfold execDramTempReport
  refine FrRes.next ?_
  refine Fr.iteh (fun _ => ?_) (fun _ => ?_)
  · first | assumption | exact Fr.refl _
  · refine Fr.iteh (fun _ => ?_) (fun _ => ?_)
    · refine Fr.wr (xs := [⟨17192452230, 17192452230, 1, 0⟩]) rfl rfl ?_
      first | assumption | exact Fr.refl _
    · refine Fr.iteh (fun _ => ?_) (fun _ => ?_)
      · first | assumption | exact Fr.refl _
      · refine Fr.step State.raise_fr rfl rfl ?_
        refine Fr.wr (xs := [⟨17192452230, 17192452230, 1, 0⟩]) rfl rfl ?_
        first | assumption | exact Fr.refl _

theorem State.storeWords_fr {s} {a1} {a2} {a3} : Fr [] [.mem] s (State.storeWords s a1 a2 a3) := by
  unfold State.storeWords
  refine Fr.foldl' ?_ (fun t x hx ht => ?_)
  · first | assumption | exact Fr.refl _
  · refine Fr.iteh (fun _ => ?_) (fun _ => ?_)
    · first | assumption | exact Fr.refl _
    · refine Fr.setByte rfl ?_
      first | assumption | exact Fr.refl _

theorem State.sramReport_fr {s} {a1} {a2} {a3} {a4} : Fr [⟨17192452880, 17192452880, 1, 0⟩, ⟨17192452884, 17192452884, 1, 0⟩, ⟨17192452864, 17192452864, 1, 0⟩] [.flt] s (State.sramReport s a1 a2 a3 a4) := by
  unfold State.sramReport
  refine Fr.iteh (fun _ => ?_) (fun _ => ?_)
  · extract_lets -merge -underBinder +onlyGivenNames x0
    try clear_value (e0 : x0 = _)
    extract_lets -merge -underBinder +onlyGivenNames x1
    try clear_value x1
    refine Fr.iteh (fun _ => ?_) (fun _ => ?_)
    · extract_lets -merge -underBinder +onlyGivenNames x2
      refine Fr.cut x2 ?_ (fun h2 => ?_)
      · unfold x2
        refine Fr.iteh (fun _ => ?_) (fun _ => ?_)
        · first | assumption | exact Fr.refl _
        · refine Fr.wr (xs := [⟨17192452880, 17192452880, 1, 0⟩]) rfl rfl ?_
          first | assumption | exact Fr.refl _
      try clear_value x2
      refine Fr.step State.raiseOcc_fr rfl rfl ?_
      refine Fr.wr (xs := [⟨17192452884, 17192452884, 1, 0⟩]) rfl rfl ?_
      first | assumption | exact Fr.refl _
    · refine Fr.step State.raiseOcc_fr rfl rfl ?_
      refine Fr.inc (xs := [⟨17192452864, 17192452864, 1, 0⟩]) rfl rfl ?_
      first | assumption | exact Fr.refl _
  · refine Fr.iteh (fun _ => ?_) (fun _ => ?_)
    · refine Fr.step State.raiseOcc_fr rfl rfl ?_
      first | assumption | exact Fr.refl _
    · first | assumption | exact Fr.refl _

theorem State.engFaults_fr {s} {a1} {a2} {a3} : Fr [] [.evc] s (State.engFaults s a1 a2 a3) := by
  unfold State.engFaults
  split
  · refine Fr.step State.setEng_fr rfl rfl ?_
    first | assumption | exact Fr.refl _
  · first | assumption | exact Fr.refl _

theorem execSramEcc_fr {a0} {a1} {a2} {a3} {a4} {s} : FrRes [⟨17188261632, 17188261632, 1, 0⟩, ⟨17181966336, 17181966336, 1, 0⟩, ⟨17181967360, 17181967360, 1, 0⟩, ⟨17186226581, 17186257301, 2048, 0⟩, ⟨17181966338, 17181966338, 1, 0⟩, ⟨17181966495, 17181966495, 1, 0⟩, ⟨17186168832, 17186169247, 1, 0⟩, ⟨17181967232, 17181967263, 1, 0⟩, ⟨17192452880, 17192452880, 1, 0⟩, ⟨17192452884, 17192452884, 1, 0⟩, ⟨17192452864, 17192452864, 1, 0⟩] [.flt, .pwr, .evc, .mem] s (execSramEcc a0 a1 a2 a3 a4 s) := by
  unfold execSramEcc
  extract_lets -merge -underBinder +onlyGivenNames x0
  extract_lets -merge -underBinder +onlyGivenNames x1
  refine FrRes.next ?_
  split
  · refine Fr.step State.accErr_fr rfl rfl ?_
    first | assumption | exact Fr.refl _
  · extract_lets -merge -underBinder +onlyGivenNames x2
    try clear_value x2
    extract_lets -merge -underBinder +onlyGivenNames x3
    try clear_value x3
    refine Fr.iteh (fun _ => ?_) (fun _ => ?_)
    · refine Fr.step State.busErr_fr rfl rfl ?_
      first | assumption | exact Fr.refl _
    · extract_lets -merge -underBinder +onlyGivenNames x4
      try clear_value x4
      extract_lets -merge -underBinder +onlyGivenNames x5
      refine Fr.cut x5 ?_ (fun h5 => ?_)
      · unfold x5
        refine Fr.iteh (fun _ => ?_) (fun _ => ?_)
        · refine Fr.step State.storeWords_fr rfl rfl ?_
          first | assumption | exact Fr.refl _
        · first | assumption | exact Fr.refl _
      try clear_value x5
      extract_lets -merge -underBinder +onlyGivenNames x6
      refine Fr.cut x6 ?_ (fun h6 => ?_)
      · unfold x6
        split
        · refine Fr.step State.engFaults_fr rfl rfl ?_
          first | assumption | exact Fr.refl _
        · first | assumption | exact Fr.refl _
      try clear_value x6
      refine Fr.foldl' ?_ (fun t x hx ht => ?_)
      · first | assumption | exact Fr.refl _
      · refine Fr.step State.sramReport_fr rfl rfl ?_
        first | assumption | exact Fr.refl _

end Sys2Proof.Machine
end

