-- ==== Sys2Proof/Laws/NetFrame.lean ====
section
/-! SUPPORT. What each operation and command of Machine/Net.lean changes at most: register blocks and zones of the state. -/

namespace Sys2Proof.Machine

theorem execNetEnable_fr {a0} {a1} {a2} {s} : FrRes [⟨17215520768, 17217617951, 2097152, 31⟩, ⟨17215520900, 17217618052, 2097152, 0⟩, ⟨17181966336, 17181966336, 1, 0⟩, ⟨17181967360, 17181967360, 1, 0⟩, ⟨17186226581, 17186257301, 2048, 0⟩, ⟨17181966338, 17181966338, 1, 0⟩, ⟨17181966495, 17181966495, 1, 0⟩, ⟨17186168832, 17186169247, 1, 0⟩, ⟨17188261632, 17188261632, 1, 0⟩, ⟨17181967232, 17181967263, 1, 0⟩, ⟨17205035139, 17205149827, 8192, 0⟩, ⟨17205035141, 17205149829, 8192, 0⟩, ⟨17205035140, 17205149828, 8192, 0⟩, ⟨17205035136, 17205149824, 8192, 0⟩] [.flt, .evc, .pwr, .pair] s (execNetEnable a0 a1 a2 s) := by
  unfold execNetEnable
  refine FrRes.next ?_
  refine busWrite_fr (x := ⟨17215520768, 17217617951, 2097152, 31⟩) (Keys.word_intro (by first | omega | (unfold netCtrl; omega)) (by first | omega | (unfold netCtrl; omega)) (by first | omega | (unfold netCtrl; omega))) (fun u => State.werr_net (by unfold netCtrl; omega)) rfl rfl ?_ (fun t ht => ?_)
  · first | assumption | exact Fr.refl _
  · refine Fr.iteh (fun _ => ?_) (fun _ => ?_)
    · refine Fr.iteh (fun _ => ?_) (fun _ => ?_)
      · refine Fr.step (State.werr_net (by unfold netCtrl; omega)) rfl rfl ?_
        first | assumption | exact Fr.refl _
      · refine Fr.step State.netEnable_fr rfl rfl ?_
        first | assumption | exact Fr.refl _
    · refine Fr.step State.netEnable_fr rfl rfl ?_
      first | assumption | exact Fr.refl _

theorem execNetLinkChange_fr {a0} {a1} {a2} {a3} {s} : FrRes [⟨17215520897, 17217618049, 2097152, 0⟩, ⟨17215520896, 17217618048, 2097152, 0⟩, ⟨17215520899, 17217618051, 2097152, 0⟩, ⟨17181966336, 17181966336, 1, 0⟩, ⟨17181967360, 17181967360, 1, 0⟩, ⟨17186226581, 17186257301, 2048, 0⟩, ⟨17181966338, 17181966338, 1, 0⟩, ⟨17181966495, 17181966495, 1, 0⟩, ⟨17186168832, 17186169247, 1, 0⟩] [.pwr, .flt, .evc] s (execNetLinkChange a0 a1 a2 a3 s) := by
  unfold execNetLinkChange
  refine FrRes.next ?_
  refine Fr.iteh (fun _ => ?_) (fun _ => ?_)
  · first | assumption | exact Fr.refl _
  · extract_lets -merge -underBinder +onlyGivenNames x0
    try clear_value x0
    extract_lets -merge -underBinder +onlyGivenNames x1
    try clear_value (e1 : x1 = _)
    extract_lets -merge -underBinder +onlyGivenNames x2
    try clear_value x2
    extract_lets -merge -underBinder +onlyGivenNames x3
    try clear_value x3
    extract_lets -merge -underBinder +onlyGivenNames x4
    refine Fr.cut x4 ?_ (fun h4 => ?_)
    · unfold x4
      refine Fr.wr (xs := [⟨17215520897, 17217618049, 2097152, 0⟩]) (Reg.NET_STATUS_SPEED_key (by first | omega | (simp only [List.mem_range] at *; omega))) rfl ?_
      refine Fr.wrB (xs := [⟨17215520896, 17217618048, 2097152, 0⟩]) (Reg.NET_STATUS_LINK_key (by first | omega | (simp only [List.mem_range] at *; omega))) rfl ?_
      first | assumption | exact Fr.refl _
    try clear_value x4
    extract_lets -merge -underBinder +onlyGivenNames x5
    refine Fr.cut x5 ?_ (fun h5 => ?_)
    · unfold x5
      refine Fr.wrB (xs := [⟨17215520899, 17217618051, 2097152, 0⟩]) (Reg.NET_STATUS_AN_DONE_key (by first | omega | (simp only [List.mem_range] at *; omega))) rfl ?_
      first | assumption | exact Fr.refl _
    try clear_value x5
    extract_lets -merge -underBinder +onlyGivenNames x6
    refine Fr.cut x6 ?_ (fun h6 => ?_)
    · unfold x6
      refine Fr.iteh (fun _ => ?_) (fun _ => ?_)
      · refine Fr.step State.fire_fr rfl rfl ?_
        first | assumption | exact Fr.refl _
      · first | assumption | exact Fr.refl _
    try clear_value x6
    refine Fr.iteh (fun _ => ?_) (fun _ => ?_)
    · refine Fr.step State.raise_fr rfl rfl ?_
      first | assumption | exact Fr.refl _
    · first | assumption | exact Fr.refl _

theorem execNetRxKick_fr {a0} {a1} {a2} {s} : FrRes [⟨17215520768, 17217617951, 2097152, 31⟩, ⟨17215520900, 17217618052, 2097152, 0⟩, ⟨17181966336, 17181966336, 1, 0⟩, ⟨17181967360, 17181967360, 1, 0⟩, ⟨17186226581, 17186257301, 2048, 0⟩, ⟨17181966338, 17181966338, 1, 0⟩, ⟨17181966495, 17181966495, 1, 0⟩, ⟨17186168832, 17186169247, 1, 0⟩, ⟨17188261632, 17188261632, 1, 0⟩, ⟨17181967232, 17181967263, 1, 0⟩] [.flt, .evc, .pwr, .pair, .net] s (execNetRxKick a0 a1 a2 s) := by
  unfold execNetRxKick
  refine FrRes.next ?_
  refine busWrite_fr (x := ⟨17215520768, 17217617951, 2097152, 31⟩) (Keys.word_intro (by first | omega | (unfold netCtrl; omega)) (by first | omega | (unfold netCtrl; omega)) (by first | omega | (unfold netCtrl; omega))) (fun u => State.werr_net (by unfold netCtrl; omega)) rfl rfl ?_ (fun t ht => ?_)
  · first | assumption | exact Fr.refl _
  · refine Fr.iteh (fun _ => ?_) (fun _ => ?_)
    · refine Fr.set_net rfl ?_
      first | assumption | exact Fr.refl _
    · first | assumption | exact Fr.refl _

theorem execNetTxKick_fr {a0} {a1} {a2} {s} : FrRes [⟨17215520768, 17217617951, 2097152, 31⟩, ⟨17215520900, 17217618052, 2097152, 0⟩, ⟨17181966336, 17181966336, 1, 0⟩, ⟨17181967360, 17181967360, 1, 0⟩, ⟨17186226581, 17186257301, 2048, 0⟩, ⟨17181966338, 17181966338, 1, 0⟩, ⟨17181966495, 17181966495, 1, 0⟩, ⟨17186168832, 17186169247, 1, 0⟩, ⟨17188261632, 17188261632, 1, 0⟩, ⟨17181967232, 17181967263, 1, 0⟩] [.flt, .evc, .pwr, .pair, .net] s (execNetTxKick a0 a1 a2 s) := by
  unfold execNetTxKick
  refine FrRes.next ?_
  refine busWrite_fr (x := ⟨17215520768, 17217617951, 2097152, 31⟩) (Keys.word_intro (by first | omega | (unfold netCtrl; omega)) (by first | omega | (unfold netCtrl; omega)) (by first | omega | (unfold netCtrl; omega))) (fun u => State.werr_net (by unfold netCtrl; omega)) rfl rfl ?_ (fun t ht => ?_)
  · first | assumption | exact Fr.refl _
  · refine Fr.iteh (fun _ => ?_) (fun _ => ?_)
    · refine Fr.iteh (fun _ => ?_) (fun _ => ?_)
      · first | assumption | exact Fr.refl _
      · refine Fr.set_net rfl ?_
        first | assumption | exact Fr.refl _
    · first | assumption | exact Fr.refl _

theorem execNetFrameRx_fr {a0} {a1} {a2} {a3} {s} : FrRes ([⟨17181966336, 17181966336, 1, 0⟩, ⟨17181967360, 17181967360, 1, 0⟩, ⟨17186226581, 17186257301, 2048, 0⟩, ⟨17181966338, 17181966338, 1, 0⟩, ⟨17181966495, 17181966495, 1, 0⟩, ⟨17186168832, 17186169247, 1, 0⟩, ⟨17215529104, 17217626256, 2097152, 0⟩, ⟨17215520903, 17217618055, 2097152, 0⟩, ⟨17215528976, 17217626128, 2097152, 0⟩, ⟨17215529360, 17215529360, 1, 0⟩, ⟨17221815176, 17221815176, 1, 0⟩, ⟨17221815312, 17221815312, 1, 0⟩, ⟨17221815424, 17221815424, 1, 0⟩, ⟨17221815440, 17221815440, 1, 0⟩, ⟨17221815168, 17221815168, 1, 0⟩, ⟨17221815184, 17221815184, 1, 0⟩, ⟨17221815170, 17221815170, 1, 0⟩, ⟨17221815824, 17221815824, 1, 0⟩, ⟨17221815808, 17221815808, 1, 0⟩, ⟨17221820416, 17221828480, 128, 0⟩, ⟨17221816064, 17221816064, 1, 0⟩, ⟨17221815936, 17221815936, 1, 0⟩, ⟨17221815296, 17221815296, 1, 0⟩, ⟨17221815169, 17221815169, 1, 0⟩, ⟨17221812362, 17221812362, 1, 0⟩, ⟨17215529344, 17215529344, 1, 0⟩, ⟨17215529368, 17215529368, 1, 0⟩, ⟨17215520901, 17217618053, 2097152, 0⟩, ⟨17188261632, 17188261632, 1, 0⟩, ⟨17181967232, 17181967263, 1, 0⟩] ++ [⟨17215529088, 17217626240, 2097152, 0⟩, ⟨17215520902, 17217618054, 2097152, 0⟩, ⟨17194549776, 17194549776, 1, 0⟩, ⟨17192452352, 17192452352, 1, 0⟩, ⟨17192452608, 17192452608, 1, 0⟩, ⟨17192452480, 17192452480, 1, 0⟩, ⟨17192452229, 17192452229, 1, 0⟩, ⟨17192452228, 17192452228, 1, 0⟩, ⟨17215523712, 17217620864, 2097152, 0⟩, ⟨17215528960, 17217626112, 2097152, 0⟩]) [.pwr, .flt, .evc, .net, .safe, .mem, .memc] s (execNetFrameRx a0 a1 a2 a3 s) := by
  unfold execNetFrameRx
  refine FrRes.next ?_
  refine Fr.iteh (fun _ => ?_) (fun _ => ?_)
  · first | assumption | exact Fr.refl _
  · refine Fr.iteh (fun _ => ?_) (fun _ => ?_)
    · refine Fr.step State.fire_fr rfl rfl ?_
      refine Fr.inc (xs := [⟨17215529104, 17217626256, 2097152, 0⟩]) (Reg.NET_CNT_ERR_HI_key (by first | omega | (simp only [List.mem_range] at *; omega))) rfl ?_
      refine Fr.wr (xs := [⟨17215520903, 17217618055, 2097152, 0⟩]) (Reg.NET_STATUS_RX_OVF_key (by first | omega | (simp only [List.mem_range] at *; omega))) rfl ?_
      first | assumption | exact Fr.refl _
    · refine Fr.iteh (fun _ => ?_) (fun _ => ?_)
      · refine Fr.step State.netDrop_fr rfl rfl ?_
        first | assumption | exact Fr.refl _
      · extract_lets -merge -underBinder +onlyGivenNames x0
        try clear_value x0
        refine Fr.iteh (fun _ => ?_) (fun _ => ?_)
        · refine Fr.step State.pauseFor_fr rfl rfl ?_
          first | assumption | exact Fr.refl _
        · refine Fr.iteh (fun _ => ?_) (fun _ => ?_)
          · first | assumption | exact Fr.refl _
          · extract_lets -merge -underBinder +onlyGivenNames x1
            try clear_value x1
            extract_lets -merge -underBinder +onlyGivenNames x2
            try clear_value (e2 : x2 = _)
            extract_lets -merge -underBinder +onlyGivenNames x3
            try clear_value x3
            extract_lets -merge -underBinder +onlyGivenNames x4
            try clear_value x4
            extract_lets -merge -underBinder +onlyGivenNames x5
            refine Fr.cut x5 ?_ (fun h5 => ?_)
            · unfold x5
              refine Fr.iteh (fun _ => ?_) (fun _ => ?_)
              · refine Fr.step State.fire_fr rfl rfl ?_
                refine Fr.inc (xs := [⟨17215529360, 17215529360, 1, 0⟩]) rfl rfl ?_
                first | assumption | exact Fr.refl _
              · first | assumption | exact Fr.refl _
            try clear_value x5
            extract_lets -merge -underBinder +onlyGivenNames x6
            try clear_value x6
            extract_lets -merge -underBinder +onlyGivenNames x7
            refine Fr.cut x7 ?_ (fun h7 => ?_)
            · unfold x7
              split
              · first | assumption | exact Fr.refl _
              · refine Fr.step State.safeMessage_fr rfl rfl ?_
                first | assumption | exact Fr.refl _
            try clear_value x7
            extract_lets -merge -underBinder +onlyGivenNames x8
            extract_lets -merge -underBinder +onlyGivenNames x9
            try clear_value x9
            refine Fr.iteh (fun _ => ?_) (fun _ => ?_)
            · refine Fr.inc (xs := [⟨17215529344, 17215529344, 1, 0⟩]) rfl rfl ?_
              first | assumption | exact Fr.refl _
            · extract_lets -merge -underBinder +onlyGivenNames x10
              refine Fr.cut x10 ?_ (fun h10 => ?_)
              · unfold x10
                refine Fr.iteh (fun _ => ?_) (fun _ => ?_)
                · refine Fr.step State.dupRecord_fr rfl rfl ?_
                  first | assumption | exact Fr.refl _
                · first | assumption | exact Fr.refl _
              try clear_value x10
              refine Fr.step State.deliver_fr rfl rfl ?_
              first | assumption | exact Fr.refl _

theorem execNetFrameTx_fr {a0} {a1} {s} : FrRes [⟨17181966336, 17181966336, 1, 0⟩, ⟨17181967360, 17181967360, 1, 0⟩, ⟨17186226581, 17186257301, 2048, 0⟩, ⟨17181966338, 17181966338, 1, 0⟩, ⟨17181966495, 17181966495, 1, 0⟩, ⟨17186168832, 17186169247, 1, 0⟩, ⟨17215520901, 17217618053, 2097152, 0⟩, ⟨17188261632, 17188261632, 1, 0⟩, ⟨17181967232, 17181967263, 1, 0⟩, ⟨17194549776, 17194549776, 1, 0⟩, ⟨17192452352, 17192452352, 1, 0⟩, ⟨17192452608, 17192452608, 1, 0⟩, ⟨17192452480, 17192452480, 1, 0⟩, ⟨17192452229, 17192452229, 1, 0⟩, ⟨17192452228, 17192452228, 1, 0⟩, ⟨17215523728, 17217620880, 2097152, 0⟩, ⟨17215529216, 17217626368, 2097152, 0⟩, ⟨17215525392, 17215525392, 1, 0⟩, ⟨17215529232, 17217626384, 2097152, 0⟩] [.net, .flt, .pwr, .evc, .mem, .memc] s (execNetFrameTx a0 a1 s) := by
  unfold execNetFrameTx
  refine FrRes.next ?_
  extract_lets -merge -underBinder +onlyGivenNames x0
  try clear_value (e0 : x0 = _)
  extract_lets -merge -underBinder +onlyGivenNames x1
  try clear_value x1
  refine Fr.iteh (fun _ => ?_) (fun _ => ?_)
  · first | assumption | exact Fr.refl _
  · refine Fr.iteh (fun _ => ?_) (fun _ => ?_)
    · refine Fr.step State.ringRead_fr rfl rfl ?_
      first | assumption | exact Fr.refl _
    · refine Fr.iteh (fun _ => ?_) (fun _ => ?_)
      · refine Fr.step State.txScan_fr rfl rfl ?_
        first | assumption | exact Fr.refl _
      · refine Fr.iteh (fun _ => ?_) (fun _ => ?_)
        · first | assumption | exact Fr.refl _
        · extract_lets -merge -underBinder +onlyGivenNames x2
          try clear_value (e2 : x2 = _)
          extract_lets -merge -underBinder +onlyGivenNames x3
          try clear_value (e3 : x3 = _)
          extract_lets -merge -underBinder +onlyGivenNames x4
          try clear_value x4
          extract_lets -merge -underBinder +onlyGivenNames x5
          try clear_value x5
          extract_lets -merge -underBinder +onlyGivenNames x6
          try clear_value x6
          refine Fr.iteh (fun _ => ?_) (fun _ => ?_)
          · refine Fr.step State.txWriteBack_fr rfl rfl ?_
            first | assumption | exact Fr.refl _
          · refine Fr.iteh (fun _ => ?_) (fun _ => ?_)
            · refine Fr.step State.txWriteBack_fr rfl rfl ?_
              first | assumption | exact Fr.refl _
            · split
              · refine Fr.step State.ringRead_fr rfl rfl ?_
                first | assumption | exact Fr.refl _
              · refine Fr.step State.txGo_fr rfl rfl ?_
                first | assumption | exact Fr.refl _

theorem execMdioAccess_fr {a0} {a1} {s} : FrRes [⟨17215525888, 17215525919, 32, 31⟩, ⟨17215520900, 17217618052, 2097152, 0⟩, ⟨17181966336, 17181966336, 1, 0⟩, ⟨17181967360, 17181967360, 1, 0⟩, ⟨17186226581, 17186257301, 2048, 0⟩, ⟨17181966338, 17181966338, 1, 0⟩, ⟨17181966495, 17181966495, 1, 0⟩, ⟨17186168832, 17186169247, 1, 0⟩, ⟨17188261632, 17188261632, 1, 0⟩, ⟨17181967232, 17181967263, 1, 0⟩] [.flt, .evc, .pwr, .pair] s (execMdioAccess a0 a1 s) := by
  unfold execMdioAccess
  refine FrRes.next ?_
  refine busWrite_fr (x := ⟨17215525888, 17215525919, 32, 31⟩) (Keys.word_intro (by first | omega | (omega)) (by first | omega | (omega)) (by first | omega | (omega))) (fun u => State.werr_0x2011 (by omega)) rfl rfl ?_ (fun t ht => ?_)
  · first | assumption | exact Fr.refl _
  · refine Fr.iteh (fun _ => ?_) (fun _ => ?_)
    · refine Fr.wr (xs := [⟨17215525919, 17215525919, 1, 0⟩]) rfl rfl ?_
      first | assumption | exact Fr.refl _
    · first | assumption | exact Fr.refl _

theorem execMdioDone_fr {a0} {s} : FrRes [⟨17215525919, 17215525919, 1, 0⟩, ⟨17215526016, 17215526016, 1, 0⟩] [] s (execMdioDone a0 s) := by
  unfold execMdioDone
  refine FrRes.next ?_
  refine Fr.iteh (fun _ => ?_) (fun _ => ?_)
  · first | assumption | exact Fr.refl _
  · extract_lets -merge -underBinder +onlyGivenNames x0
    try clear_value (e0 : x0 = _)
    extract_lets -merge -underBinder +onlyGivenNames x1
    try clear_value x1
    refine Fr.wr (xs := [⟨17215525919, 17215525919, 1, 0⟩]) rfl rfl ?_
    refine Fr.iteh (fun _ => ?_) (fun _ => ?_)
    · refine Fr.wr (xs := [⟨17215526016, 17215526016, 1, 0⟩]) rfl rfl ?_
      first | assumption | exact Fr.refl _
    · first | assumption | exact Fr.refl _

end Sys2Proof.Machine
end

