-- ==== Sys2Proof/Laws/PeriFrame.lean ====
section
/-! SUPPORT. What each operation and command of Machine/Peri.lean changes at most: register blocks and zones of the state. -/

namespace Sys2Proof.Machine

theorem State.signal_fr {s} {a1} : Fr [⟨17181966336, 17181966336, 1, 0⟩, ⟨17181967360, 17181967360, 1, 0⟩, ⟨17186226581, 17186257301, 2048, 0⟩, ⟨17181966338, 17181966338, 1, 0⟩, ⟨17181966495, 17181966495, 1, 0⟩, ⟨17186168832, 17186169247, 1, 0⟩] [.pwr, .flt, .evc] s (State.signal s a1) := by
  unfold State.signal
  extract_lets -merge -underBinder +onlyGivenNames x0
  try clear_value (e0 : x0 = _)
  refine Fr.iteh (fun _ => ?_) (fun _ => ?_)
  · refine Fr.step State.fire_fr rfl rfl ?_
    first | assumption | exact Fr.refl _
  · first | assumption | exact Fr.refl _

theorem State.showUart_fr {s} {a1} : Fr [⟨17228103808, 17228112000, 8192, 0⟩, ⟨17181966336, 17181966336, 1, 0⟩, ⟨17181967360, 17181967360, 1, 0⟩, ⟨17186226581, 17186257301, 2048, 0⟩, ⟨17181966338, 17181966338, 1, 0⟩, ⟨17181966495, 17181966495, 1, 0⟩, ⟨17186168832, 17186169247, 1, 0⟩, ⟨17228103809, 17228112001, 8192, 0⟩, ⟨17228103811, 17228112003, 8192, 0⟩] [.pwr, .flt, .evc] s (State.showUart s a1) := by
  unfold State.showUart
  extract_lets -merge -underBinder +onlyGivenNames x0
  extract_lets -merge -underBinder +onlyGivenNames x1
  try clear_value (e1 : x1 = _)
  extract_lets -merge -underBinder +onlyGivenNames x2
  refine Fr.cut x2 ?_ (fun h2 => ?_)
  · unfold x2
    refine Fr.iteh (fun _ => ?_) (fun _ => ?_)
    · refine Fr.wr (xs := [⟨17228103808, 17228112000, 8192, 0⟩]) (Reg.UART_STATUS_RXVALID_key (by first | omega | (simp only [List.mem_range] at *; omega))) rfl ?_
      first | assumption | exact Fr.refl _
    · unfold State.raiseFlag
      try dsimp -zeta only
      refine Fr.iteh (fun _ => ?_) (fun _ => ?_)
      · first | assumption | exact Fr.refl _
      · refine Fr.iteh (fun _ => ?_) (fun _ => ?_)
        · refine Fr.step State.signal_fr rfl rfl ?_
          refine Fr.wr (xs := [⟨17228103808, 17228112000, 8192, 0⟩]) (Reg.UART_STATUS_RXVALID_key (by first | omega | (simp only [List.mem_range] at *; omega))) rfl ?_
          first | assumption | exact Fr.refl _
        · refine Fr.wr (xs := [⟨17228103808, 17228112000, 8192, 0⟩]) (Reg.UART_STATUS_RXVALID_key (by first | omega | (simp only [List.mem_range] at *; omega))) rfl ?_
          first | assumption | exact Fr.refl _
  try clear_value x2
  extract_lets -merge -underBinder +onlyGivenNames x3
  refine Fr.cut x3 ?_ (fun h3 => ?_)
  · unfold x3
    refine Fr.iteh (fun _ => ?_) (fun _ => ?_)
    · unfold State.raiseFlag
      try dsimp -zeta only
      refine Fr.iteh (fun _ => ?_) (fun _ => ?_)
      · first | assumption | exact Fr.refl _
      · refine Fr.iteh (fun _ => ?_) (fun _ => ?_)
        · refine Fr.step State.signal_fr rfl rfl ?_
          refine Fr.wr (xs := [⟨17228103809, 17228112001, 8192, 0⟩]) (Reg.UART_STATUS_TXEMPTY_key (by first | omega | (simp only [List.mem_range] at *; omega))) rfl ?_
          first | assumption | exact Fr.refl _
        · refine Fr.wr (xs := [⟨17228103809, 17228112001, 8192, 0⟩]) (Reg.UART_STATUS_TXEMPTY_key (by first | omega | (simp only [List.mem_range] at *; omega))) rfl ?_
          first | assumption | exact Fr.refl _
    · refine Fr.wr (xs := [⟨17228103809, 17228112001, 8192, 0⟩]) (Reg.UART_STATUS_TXEMPTY_key (by first | omega | (simp only [List.mem_range] at *; omega))) rfl ?_
      first | assumption | exact Fr.refl _
  try clear_value x3
  refine Fr.wrB (xs := [⟨17228103811, 17228112003, 8192, 0⟩]) (Reg.UART_STATUS_TXFULL_key (by first | omega | (simp only [List.mem_range] at *; omega))) rfl ?_
  first | assumption | exact Fr.refl _

theorem State.setUart_fr {s} {a1} {a2} : Fr [⟨17228103808, 17228112000, 8192, 0⟩, ⟨17181966336, 17181966336, 1, 0⟩, ⟨17181967360, 17181967360, 1, 0⟩, ⟨17186226581, 17186257301, 2048, 0⟩, ⟨17181966338, 17181966338, 1, 0⟩, ⟨17181966495, 17181966495, 1, 0⟩, ⟨17186168832, 17186169247, 1, 0⟩, ⟨17228103809, 17228112001, 8192, 0⟩, ⟨17228103811, 17228112003, 8192, 0⟩] [.pwr, .flt, .evc, .peri] s (State.setUart s a1 a2) := by
  unfold State.setUart
  refine Fr.step State.showUart_fr rfl rfl ?_
  refine Fr.set_peri rfl ?_
  first | assumption | exact Fr.refl _

theorem State.uartSends_fr {s} {a1} {a2} : Fr [⟨17228103808, 17228112000, 8192, 0⟩, ⟨17181966336, 17181966336, 1, 0⟩, ⟨17181967360, 17181967360, 1, 0⟩, ⟨17186226581, 17186257301, 2048, 0⟩, ⟨17181966338, 17181966338, 1, 0⟩, ⟨17181966495, 17181966495, 1, 0⟩, ⟨17186168832, 17186169247, 1, 0⟩, ⟨17228103809, 17228112001, 8192, 0⟩, ⟨17228103811, 17228112003, 8192, 0⟩] [.pwr, .flt, .evc, .peri] s (State.uartSends s a1 a2) := by
  unfold State.uartSends
  refine Fr.iteh (fun _ => ?_) (fun _ => ?_)
  · first | assumption | exact Fr.refl _
  · extract_lets -merge -underBinder +onlyGivenNames x0
    extract_lets -merge -underBinder +onlyGivenNames x1
    try clear_value x1
    refine Fr.step State.setUart_fr rfl rfl ?_
    refine Fr.set_peri rfl ?_
    first | assumption | exact Fr.refl _

theorem execUartDataWrite_fr {a0} {a1} {a2} {a3} {s} : FrRes [⟨17228103936, 17228112159, 8192, 31⟩, ⟨17228136578, 17228136578, 1, 0⟩, ⟨17188261632, 17188261632, 1, 0⟩, ⟨17181966336, 17181966336, 1, 0⟩, ⟨17181967360, 17181967360, 1, 0⟩, ⟨17186226581, 17186257301, 2048, 0⟩, ⟨17181966338, 17181966338, 1, 0⟩, ⟨17181966495, 17181966495, 1, 0⟩, ⟨17186168832, 17186169247, 1, 0⟩, ⟨17181967232, 17181967263, 1, 0⟩, ⟨17228103808, 17228112000, 8192, 0⟩, ⟨17228103809, 17228112001, 8192, 0⟩, ⟨17228103811, 17228112003, 8192, 0⟩] [.flt, .evc, .pwr, .pair, .peri] s (execUartDataWrite a0 a1 a2 a3 s) := by
  unfold execUartDataWrite
  refine FrRes.next ?_
  refine busWrite_fr (x := ⟨17228103936, 17228112159, 8192, 31⟩) (Keys.word_intro (by first | omega | (omega)) (by first | omega | (omega)) (by first | omega | (omega))) (fun u => State.werr_0x2017 (by omega)) rfl rfl ?_ (fun t ht => ?_)
  · first | assumption | exact Fr.refl _
  · extract_lets -merge -underBinder +onlyGivenNames x0
    refine Fr.cut x0 ?_ (fun h0 => ?_)
    · unfold x0
      refine Fr.step State.uartSends_fr rfl rfl ?_
      first | assumption | exact Fr.refl _
    try clear_value x0
    extract_lets -merge -underBinder +onlyGivenNames x1
    refine Fr.step State.setUart_fr rfl rfl ?_
    first | assumption | exact Fr.refl _

theorem execUartDataRead_fr {a0} {s} : FrRes [⟨17228103808, 17228112000, 8192, 0⟩, ⟨17181966336, 17181966336, 1, 0⟩, ⟨17181967360, 17181967360, 1, 0⟩, ⟨17186226581, 17186257301, 2048, 0⟩, ⟨17181966338, 17181966338, 1, 0⟩, ⟨17181966495, 17181966495, 1, 0⟩, ⟨17186168832, 17186169247, 1, 0⟩, ⟨17228103809, 17228112001, 8192, 0⟩, ⟨17228103811, 17228112003, 8192, 0⟩, ⟨17228103936, 17228112128, 8192, 0⟩] [.pwr, .flt, .evc, .peri] s (execUartDataRead a0 s) := by
  unfold execUartDataRead
  extract_lets -merge -underBinder +onlyGivenNames x0
  refine FrRes.next ?_
  refine Fr.step State.setUart_fr rfl rfl ?_
  refine Fr.wr (xs := [⟨17228103936, 17228112128, 8192, 0⟩]) (Reg.UART_DATA_DATA_key (by first | omega | (simp only [List.mem_range] at *; omega))) rfl ?_
  first | assumption | exact Fr.refl _

theorem execUartRxByte_fr {a0} {a1} {a2} {s} : FrRes [⟨17181966336, 17181966336, 1, 0⟩, ⟨17181967360, 17181967360, 1, 0⟩, ⟨17186226581, 17186257301, 2048, 0⟩, ⟨17181966338, 17181966338, 1, 0⟩, ⟨17181966495, 17181966495, 1, 0⟩, ⟨17186168832, 17186169247, 1, 0⟩, ⟨17228103810, 17228112002, 8192, 0⟩, ⟨17228103808, 17228112000, 8192, 0⟩, ⟨17228103809, 17228112001, 8192, 0⟩, ⟨17228103811, 17228112003, 8192, 0⟩] [.pwr, .flt, .evc, .peri] s (execUartRxByte a0 a1 a2 s) := by
  unfold execUartRxByte
  refine FrRes.next ?_
  extract_lets -merge -underBinder +onlyGivenNames x0
  refine Fr.iteh (fun _ => ?_) (fun _ => ?_)
  · first | assumption | exact Fr.refl _
  · refine Fr.iteh (fun _ => ?_) (fun _ => ?_)
    · unfold State.raiseFlag
      try dsimp -zeta only
      refine Fr.iteh (fun _ => ?_) (fun _ => ?_)
      · first | assumption | exact Fr.refl _
      · refine Fr.iteh (fun _ => ?_) (fun _ => ?_)
        · refine Fr.step State.signal_fr rfl rfl ?_
          refine Fr.wr (xs := [⟨17228103810, 17228112002, 8192, 0⟩]) (Reg.UART_STATUS_ERR_key (by first | omega | (simp only [List.mem_range] at *; omega))) rfl ?_
          first | assumption | exact Fr.refl _
        · refine Fr.wr (xs := [⟨17228103810, 17228112002, 8192, 0⟩]) (Reg.UART_STATUS_ERR_key (by first | omega | (simp only [List.mem_range] at *; omega))) rfl ?_
          first | assumption | exact Fr.refl _
    · refine Fr.step State.setUart_fr rfl rfl ?_
      first | assumption | exact Fr.refl _

theorem execUartTxEmpty_fr {a0} {a1} {s} : FrRes [⟨17228103808, 17228112000, 8192, 0⟩, ⟨17181966336, 17181966336, 1, 0⟩, ⟨17181967360, 17181967360, 1, 0⟩, ⟨17186226581, 17186257301, 2048, 0⟩, ⟨17181966338, 17181966338, 1, 0⟩, ⟨17181966495, 17181966495, 1, 0⟩, ⟨17186168832, 17186169247, 1, 0⟩, ⟨17228103809, 17228112001, 8192, 0⟩, ⟨17228103811, 17228112003, 8192, 0⟩] [.pwr, .flt, .evc, .peri] s (execUartTxEmpty a0 a1 s) := by
  unfold execUartTxEmpty
  refine FrRes.next ?_
  refine Fr.step State.uartSends_fr rfl rfl ?_
  first | assumption | exact Fr.refl _

theorem State.setI2c_fr {s} {a1} {a2} : Fr [⟨17228120332, 17228128524, 8192, 0⟩, ⟨17230209292, 17230209292, 1, 0⟩, ⟨17228120328, 17228128520, 8192, 0⟩, ⟨17230209288, 17230209288, 1, 0⟩] [.peri] s (State.setI2c s a1 a2) := by
  unfold State.setI2c
  refine Fr.wr (xs := [⟨17228120332, 17228128524, 8192, 0⟩, ⟨17230209292, 17230209292, 1, 0⟩]) (Reg.I2C_STATUS_TXFREE_key (by first | omega | (simp only [List.mem_range] at *; omega))) rfl ?_
  refine Fr.wr (xs := [⟨17228120328, 17228128520, 8192, 0⟩, ⟨17230209288, 17230209288, 1, 0⟩]) (Reg.I2C_STATUS_RXCNT_key (by first | omega | (simp only [List.mem_range] at *; omega))) rfl ?_
  refine Fr.set_peri rfl ?_
  first | assumption | exact Fr.refl _

theorem State.i2cPut_fr {s} {a1} {a2} : Fr [] [.peri] s (State.i2cPut s a1 a2) := by
  unfold State.i2cPut
  refine Fr.set_peri rfl ?_
  first | assumption | exact Fr.refl _

theorem execI2cGo_fr {a0} {a1} {a2} {s} : FrRes [⟨17228120192, 17228128415, 8192, 31⟩, ⟨17230209152, 17230209183, 32, 31⟩, ⟨17228136578, 17228136578, 1, 0⟩, ⟨17230200963, 17230200963, 1, 0⟩, ⟨17181966336, 17181966336, 1, 0⟩, ⟨17181967360, 17181967360, 1, 0⟩, ⟨17186226581, 17186257301, 2048, 0⟩, ⟨17181966338, 17181966338, 1, 0⟩, ⟨17181966495, 17181966495, 1, 0⟩, ⟨17186168832, 17186169247, 1, 0⟩, ⟨17188261632, 17188261632, 1, 0⟩, ⟨17181967232, 17181967263, 1, 0⟩, ⟨17228120323, 17228128515, 8192, 0⟩, ⟨17230209283, 17230209283, 1, 0⟩] [.flt, .evc, .pwr, .pair, .peri] s (execI2cGo a0 a1 a2 s) := by
  unfold execI2cGo
  refine FrRes.next ?_
  refine busWrite_fr2 (x := ⟨17228120192, 17228128415, 8192, 31⟩) (y := ⟨17230209152, 17230209183, 32, 31⟩) (by unfold i2cAddr Reg.i2cBase; split <;> (try split) <;> first | exact Or.inl (Keys.word_intro (by omega) (by omega) (by omega)) | exact Or.inr (Keys.word_intro (by omega) (by omega) (by omega))) (fun u => State.werr_i2c (by unfold i2cAddr Reg.i2cBase; split <;> (try split) <;> omega)) rfl rfl rfl ?_ (fun t ht => ?_)
  · first | assumption | exact Fr.refl _
  · refine Fr.iteh (fun _ => ?_) (fun _ => ?_)
    · extract_lets -merge -underBinder +onlyGivenNames x0
      refine Fr.cut x0 ?_ (fun h0 => ?_)
      · unfold x0
        refine Fr.step State.i2cPut_fr rfl rfl ?_
        first | assumption | exact Fr.refl _
      try clear_value x0
      extract_lets -merge -underBinder +onlyGivenNames x1
      refine Fr.cut x1 ?_ (fun h1 => ?_)
      · unfold x1
        refine Fr.wr (xs := [⟨17228120323, 17228128515, 8192, 0⟩, ⟨17230209283, 17230209283, 1, 0⟩]) (Reg.I2C_STATUS_BUSY_key (by first | omega | (simp only [List.mem_range] at *; omega))) rfl ?_
        refine Fr.wr (xs := [⟨17228120223, 17228128415, 8192, 0⟩, ⟨17230209183, 17230209183, 1, 0⟩]) (Reg.I2C_CMD_GO_key (by first | omega | (simp only [List.mem_range] at *; omega))) rfl ?_
        first | assumption | exact Fr.refl _
      try clear_value x1
      refine Fr.set_peri rfl ?_
      first | assumption | exact Fr.refl _
    · first | assumption | exact Fr.refl _

theorem State.i2cEnd_fr {s} {a1} {a2} : Fr [⟨17228120323, 17228128515, 8192, 0⟩, ⟨17230209283, 17230209283, 1, 0⟩, ⟨17228120223, 17228128415, 8192, 0⟩, ⟨17230209183, 17230209183, 1, 0⟩] [.peri] s (State.i2cEnd s a1 a2) := by
  unfold State.i2cEnd
  extract_lets -merge -underBinder +onlyGivenNames x0
  try clear_value x0
  extract_lets -merge -underBinder +onlyGivenNames x1
  refine Fr.cut x1 ?_ (fun h1 => ?_)
  · unfold x1
    refine Fr.iteh (fun _ => ?_) (fun _ => ?_)
    · refine Fr.step State.i2cPut_fr rfl rfl ?_
      first | assumption | exact Fr.refl _
    · first | assumption | exact Fr.refl _
  try clear_value x1
  extract_lets -merge -underBinder +onlyGivenNames x2
  refine Fr.cut x2 ?_ (fun h2 => ?_)
  · unfold x2
    refine Fr.wr (xs := [⟨17228120323, 17228128515, 8192, 0⟩, ⟨17230209283, 17230209283, 1, 0⟩]) (Reg.I2C_STATUS_BUSY_key (by first | omega | (simp only [List.mem_range] at *; omega))) rfl ?_
    refine Fr.wr (xs := [⟨17228120223, 17228128415, 8192, 0⟩, ⟨17230209183, 17230209183, 1, 0⟩]) (Reg.I2C_CMD_GO_key (by first | omega | (simp only [List.mem_range] at *; omega))) rfl ?_
    first | assumption | exact Fr.refl _
  try clear_value x2
  refine Fr.set_peri rfl ?_
  first | assumption | exact Fr.refl _

theorem State.i2cMoved_fr {s} {a1} {a2} {a3} : Fr [⟨17228120332, 17228128524, 8192, 0⟩, ⟨17230209292, 17230209292, 1, 0⟩, ⟨17228120328, 17228128520, 8192, 0⟩, ⟨17230209288, 17230209288, 1, 0⟩] [.peri] s (State.i2cMoved s a1 a2 a3) := by
  unfold State.i2cMoved
  refine Fr.iteh (fun _ => ?_) (fun _ => ?_)
  · first | assumption | exact Fr.refl _
  · extract_lets -merge -underBinder +onlyGivenNames x0
    extract_lets -merge -underBinder +onlyGivenNames x1
    try clear_value (e1 : x1 = _)
    extract_lets -merge -underBinder +onlyGivenNames x2
    try clear_value x2
    extract_lets -merge -underBinder +onlyGivenNames x3
    refine Fr.cut x3 ?_ (fun h3 => ?_)
    · unfold x3
      refine Fr.step State.i2cPut_fr rfl rfl ?_
      first | assumption | exact Fr.refl _
    try clear_value x3
    extract_lets -merge -underBinder +onlyGivenNames x4
    extract_lets -merge -underBinder +onlyGivenNames x5
    refine Fr.cut x5 ?_ (fun h5 => ?_)
    · unfold x5
      refine Fr.set_peri rfl ?_
      first | assumption | exact Fr.refl _
    try clear_value x5
    refine Fr.iteh (fun _ => ?_) (fun _ => ?_)
    · refine Fr.step State.setI2c_fr rfl rfl ?_
      first | assumption | exact Fr.refl _
    · refine Fr.step State.setI2c_fr rfl rfl ?_
      first | assumption | exact Fr.refl _

theorem execI2cTransferEnd_fr {a0} {a1} {a2} {a3} {s} : FrRes [⟨17228120332, 17228128524, 8192, 0⟩, ⟨17230209292, 17230209292, 1, 0⟩, ⟨17228120328, 17228128520, 8192, 0⟩, ⟨17230209288, 17230209288, 1, 0⟩, ⟨17228120323, 17228128515, 8192, 0⟩, ⟨17230209283, 17230209283, 1, 0⟩, ⟨17228120223, 17228128415, 8192, 0⟩, ⟨17230209183, 17230209183, 1, 0⟩, ⟨17181966336, 17181966336, 1, 0⟩, ⟨17181967360, 17181967360, 1, 0⟩, ⟨17186226581, 17186257301, 2048, 0⟩, ⟨17181966338, 17181966338, 1, 0⟩, ⟨17181966495, 17181966495, 1, 0⟩, ⟨17186168832, 17186169247, 1, 0⟩, ⟨17228120321, 17228128513, 8192, 0⟩, ⟨17230209281, 17230209281, 1, 0⟩, ⟨17228120320, 17228128512, 8192, 0⟩, ⟨17230209280, 17230209280, 1, 0⟩] [.peri, .pwr, .flt, .evc] s (execI2cTransferEnd a0 a1 a2 a3 s) := by
  unfold execI2cTransferEnd
  refine FrRes.next ?_
  refine Fr.iteh (fun _ => ?_) (fun _ => ?_)
  · first | assumption | exact Fr.refl _
  · extract_lets -merge -underBinder +onlyGivenNames x0
    refine Fr.cut x0 ?_ (fun h0 => ?_)
    · unfold x0
      refine Fr.step State.i2cMoved_fr rfl rfl ?_
      first | assumption | exact Fr.refl _
    try clear_value x0
    refine Fr.iteh (fun _ => ?_) (fun _ => ?_)
    · first | assumption | exact Fr.refl _
    · extract_lets -merge -underBinder +onlyGivenNames x1
      refine Fr.cut x1 ?_ (fun h1 => ?_)
      · unfold x1
        refine Fr.step State.i2cEnd_fr rfl rfl ?_
        first | assumption | exact Fr.refl _
      try clear_value x1
      extract_lets -merge -underBinder +onlyGivenNames x2
      try clear_value (e2 : x2 = _)
      extract_lets -merge -underBinder +onlyGivenNames x3
      refine Fr.cut x3 ?_ (fun h3 => ?_)
      · unfold x3
        refine Fr.iteh (fun _ => ?_) (fun _ => ?_)
        · unfold State.raiseFlag
          try dsimp -zeta only
          refine Fr.iteh (fun _ => ?_) (fun _ => ?_)
          · first | assumption | exact Fr.refl _
          · refine Fr.iteh (fun _ => ?_) (fun _ => ?_)
            · refine Fr.step State.signal_fr rfl rfl ?_
              refine Fr.wr (xs := [⟨17228120321, 17228128513, 8192, 0⟩, ⟨17230209281, 17230209281, 1, 0⟩]) (Reg.I2C_STATUS_NACK_key (by first | omega | (simp only [List.mem_range] at *; omega))) rfl ?_
              first | assumption | exact Fr.refl _
            · refine Fr.wr (xs := [⟨17228120321, 17228128513, 8192, 0⟩, ⟨17230209281, 17230209281, 1, 0⟩]) (Reg.I2C_STATUS_NACK_key (by first | omega | (simp only [List.mem_range] at *; omega))) rfl ?_
              first | assumption | exact Fr.refl _
        · first | assumption | exact Fr.refl _
      try clear_value x3
      unfold State.raiseFlag
      try dsimp -zeta only
      refine Fr.iteh (fun _ => ?_) (fun _ => ?_)
      · first | assumption | exact Fr.refl _
      · refine Fr.iteh (fun _ => ?_) (fun _ => ?_)
        · refine Fr.step State.signal_fr rfl rfl ?_
          refine Fr.wr (xs := [⟨17228120320, 17228128512, 8192, 0⟩, ⟨17230209280, 17230209280, 1, 0⟩]) (Reg.I2C_STATUS_DONE_key (by first | omega | (simp only [List.mem_range] at *; omega))) rfl ?_
          first | assumption | exact Fr.refl _
        · refine Fr.wr (xs := [⟨17228120320, 17228128512, 8192, 0⟩, ⟨17230209280, 17230209280, 1, 0⟩]) (Reg.I2C_STATUS_DONE_key (by first | omega | (simp only [List.mem_range] at *; omega))) rfl ?_
          first | assumption | exact Fr.refl _

theorem execI2cStretchTimeout_fr {a0} {s} : FrRes [⟨17228120323, 17228128515, 8192, 0⟩, ⟨17230209283, 17230209283, 1, 0⟩, ⟨17228120223, 17228128415, 8192, 0⟩, ⟨17230209183, 17230209183, 1, 0⟩, ⟨17181966336, 17181966336, 1, 0⟩, ⟨17181967360, 17181967360, 1, 0⟩, ⟨17186226581, 17186257301, 2048, 0⟩, ⟨17181966338, 17181966338, 1, 0⟩, ⟨17181966495, 17181966495, 1, 0⟩, ⟨17186168832, 17186169247, 1, 0⟩, ⟨17228120322, 17228128514, 8192, 0⟩, ⟨17230209282, 17230209282, 1, 0⟩] [.peri, .pwr, .flt, .evc] s (execI2cStretchTimeout a0 s) := by
  unfold execI2cStretchTimeout
  refine FrRes.next ?_
  refine Fr.iteh (fun _ => ?_) (fun _ => ?_)
  · first | assumption | exact Fr.refl _
  · unfold State.raiseFlag
    try dsimp -zeta only
    refine Fr.iteh (fun _ => ?_) (fun _ => ?_)
    · refine Fr.step State.i2cEnd_fr rfl rfl ?_
      first | assumption | exact Fr.refl _
    · refine Fr.iteh (fun _ => ?_) (fun _ => ?_)
      · refine Fr.step State.signal_fr rfl rfl ?_
        refine Fr.wr (xs := [⟨17228120322, 17228128514, 8192, 0⟩, ⟨17230209282, 17230209282, 1, 0⟩]) (Reg.I2C_STATUS_TMO_key (by first | omega | (simp only [List.mem_range] at *; omega))) rfl ?_
        refine Fr.step State.i2cEnd_fr rfl rfl ?_
        first | assumption | exact Fr.refl _
      · refine Fr.wr (xs := [⟨17228120322, 17228128514, 8192, 0⟩, ⟨17230209282, 17230209282, 1, 0⟩]) (Reg.I2C_STATUS_TMO_key (by first | omega | (simp only [List.mem_range] at *; omega))) rfl ?_
        refine Fr.step State.i2cEnd_fr rfl rfl ?_
        first | assumption | exact Fr.refl _

theorem execI2cDataAccess_fr {a0} {a1} {a2} {a3} {a4} {s} : FrRes [⟨17228120448, 17228128671, 8192, 31⟩, ⟨17230209408, 17230209439, 32, 31⟩, ⟨17228136578, 17228136578, 1, 0⟩, ⟨17230200963, 17230200963, 1, 0⟩, ⟨17181966336, 17181966336, 1, 0⟩, ⟨17181967360, 17181967360, 1, 0⟩, ⟨17186226581, 17186257301, 2048, 0⟩, ⟨17181966338, 17181966338, 1, 0⟩, ⟨17181966495, 17181966495, 1, 0⟩, ⟨17186168832, 17186169247, 1, 0⟩, ⟨17188261632, 17188261632, 1, 0⟩, ⟨17181967232, 17181967263, 1, 0⟩, ⟨17228120332, 17228128524, 8192, 0⟩, ⟨17230209292, 17230209292, 1, 0⟩, ⟨17228120328, 17228128520, 8192, 0⟩, ⟨17230209288, 17230209288, 1, 0⟩] [.flt, .evc, .pwr, .pair, .peri] s (execI2cDataAccess a0 a1 a2 a3 a4 s) := by
  unfold execI2cDataAccess
  refine FrRes.next ?_
  split
  · refine busWrite_fr2 (x := ⟨17228120448, 17228128671, 8192, 31⟩) (y := ⟨17230209408, 17230209439, 32, 31⟩) (by unfold i2cAddr Reg.i2cBase; split <;> (try split) <;> first | exact Or.inl (Keys.word_intro (by omega) (by omega) (by omega)) | exact Or.inr (Keys.word_intro (by omega) (by omega) (by omega))) (fun u => State.werr_i2c (by unfold i2cAddr Reg.i2cBase; split <;> (try split) <;> omega)) rfl rfl rfl ?_ (fun t ht => ?_)
    · first | assumption | exact Fr.refl _
    · extract_lets -merge -underBinder +onlyGivenNames x0
      refine Fr.cut x0 ?_ (fun h0 => ?_)
      · unfold x0
        refine Fr.step State.i2cMoved_fr rfl rfl ?_
        first | assumption | exact Fr.refl _
      try clear_value x0
      extract_lets -merge -underBinder +onlyGivenNames x1
      refine Fr.iteh (fun _ => ?_) (fun _ => ?_)
      · first | assumption | exact Fr.refl _
      · refine Fr.step State.setI2c_fr rfl rfl ?_
        first | assumption | exact Fr.refl _
  · extract_lets -merge -underBinder +onlyGivenNames x2
    refine Fr.cut x2 ?_ (fun h2 => ?_)
    · unfold x2
      refine Fr.step State.i2cMoved_fr rfl rfl ?_
      first | assumption | exact Fr.refl _
    try clear_value x2
    extract_lets -merge -underBinder +onlyGivenNames x3
    refine Fr.step State.setI2c_fr rfl rfl ?_
    refine Fr.wr (xs := [⟨17228120448, 17228128640, 8192, 0⟩, ⟨17230209408, 17230209408, 1, 0⟩]) (Reg.I2C_DATA_DATA_key (by first | omega | (simp only [List.mem_range] at *; omega))) rfl ?_
    first | assumption | exact Fr.refl _

theorem execSpiDataWrite_fr {a0} {a1} {s} : FrRes [⟨17228136704, 17228136735, 32, 31⟩, ⟨17228136578, 17228136578, 1, 0⟩, ⟨17188261632, 17188261632, 1, 0⟩, ⟨17181966336, 17181966336, 1, 0⟩, ⟨17181967360, 17181967360, 1, 0⟩, ⟨17186226581, 17186257301, 2048, 0⟩, ⟨17181966338, 17181966338, 1, 0⟩, ⟨17181966495, 17181966495, 1, 0⟩, ⟨17186168832, 17186169247, 1, 0⟩, ⟨17181967232, 17181967263, 1, 0⟩, ⟨17228136577, 17228136577, 1, 0⟩] [.flt, .evc, .pwr, .pair, .peri] s (execSpiDataWrite a0 a1 s) := by
  unfold execSpiDataWrite
  refine FrRes.next ?_
  refine busWrite_fr (x := ⟨17228136704, 17228136735, 32, 31⟩) (Keys.word_intro (by first | omega | (omega)) (by first | omega | (omega)) (by first | omega | (omega))) (fun u => State.werr_0x2017 (by omega)) rfl rfl ?_ (fun t ht => ?_)
  · first | assumption | exact Fr.refl _
  · refine Fr.iteh (fun _ => ?_) (fun _ => ?_)
    · refine Fr.step (State.werr_0x2017 (by omega)) rfl rfl ?_
      first | assumption | exact Fr.refl _
    · refine Fr.iteh (fun _ => ?_) (fun _ => ?_)
      · first | assumption | exact Fr.refl _
      · extract_lets -merge -underBinder +onlyGivenNames x0
        refine Fr.cut x0 ?_ (fun h0 => ?_)
        · unfold x0
          refine Fr.wr (xs := [⟨17228136577, 17228136577, 1, 0⟩]) rfl rfl ?_
          first | assumption | exact Fr.refl _
        try clear_value x0
        refine Fr.set_peri rfl ?_
        first | assumption | exact Fr.refl _

theorem execSpiFrameDone_fr {a0} {s} : FrRes [⟨17228136704, 17228136704, 1, 0⟩, ⟨17228136577, 17228136577, 1, 0⟩, ⟨17181966336, 17181966336, 1, 0⟩, ⟨17181967360, 17181967360, 1, 0⟩, ⟨17186226581, 17186257301, 2048, 0⟩, ⟨17181966338, 17181966338, 1, 0⟩, ⟨17181966495, 17181966495, 1, 0⟩, ⟨17186168832, 17186169247, 1, 0⟩, ⟨17228136576, 17228136576, 1, 0⟩] [.peri, .pwr, .flt, .evc] s (execSpiFrameDone a0 s) := by
  unfold execSpiFrameDone
  refine FrRes.next ?_
  refine Fr.iteh (fun _ => ?_) (fun _ => ?_)
  · first | assumption | exact Fr.refl _
  · extract_lets -merge -underBinder +onlyGivenNames x0
    try clear_value (e0 : x0 = _)
    extract_lets -merge -underBinder +onlyGivenNames x1
    try clear_value x1
    extract_lets -merge -underBinder +onlyGivenNames x2
    extract_lets -merge -underBinder +onlyGivenNames x3
    refine Fr.cut x3 ?_ (fun h3 => ?_)
    · unfold x3
      refine Fr.set_peri rfl ?_
      first | assumption | exact Fr.refl _
    try clear_value x3
    unfold State.raiseFlag
    try dsimp -zeta only
    refine Fr.iteh (fun _ => ?_) (fun _ => ?_)
    · refine Fr.wr (xs := [⟨17228136704, 17228136704, 1, 0⟩]) rfl rfl ?_
      refine Fr.wr (xs := [⟨17228136577, 17228136577, 1, 0⟩]) rfl rfl ?_
      first | assumption | exact Fr.refl _
    · refine Fr.iteh (fun _ => ?_) (fun _ => ?_)
      · refine Fr.step State.signal_fr rfl rfl ?_
        refine Fr.wr (xs := [⟨17228136576, 17228136576, 1, 0⟩]) rfl rfl ?_
        refine Fr.wr (xs := [⟨17228136704, 17228136704, 1, 0⟩]) rfl rfl ?_
        refine Fr.wr (xs := [⟨17228136577, 17228136577, 1, 0⟩]) rfl rfl ?_
        first | assumption | exact Fr.refl _
      · refine Fr.wr (xs := [⟨17228136576, 17228136576, 1, 0⟩]) rfl rfl ?_
        refine Fr.wr (xs := [⟨17228136704, 17228136704, 1, 0⟩]) rfl rfl ?_
        refine Fr.wr (xs := [⟨17228136577, 17228136577, 1, 0⟩]) rfl rfl ?_
        first | assumption | exact Fr.refl _

theorem execGpioEdge_fr {a0} {a1} {s} : FrRes [⟨17228144768, 17228144783, 1, 0⟩, ⟨17181966336, 17181966336, 1, 0⟩, ⟨17181967360, 17181967360, 1, 0⟩, ⟨17186226581, 17186257301, 2048, 0⟩, ⟨17181966338, 17181966338, 1, 0⟩, ⟨17181966495, 17181966495, 1, 0⟩, ⟨17186168832, 17186169247, 1, 0⟩, ⟨17228144784, 17228144799, 1, 0⟩] [.pwr, .flt, .evc] s (execGpioEdge a0 a1 s) := by
  unfold execGpioEdge
  refine FrRes.next ?_
  extract_lets -merge -underBinder +onlyGivenNames x0
  try clear_value x0
  extract_lets -merge -underBinder +onlyGivenNames x1
  refine Fr.cut x1 ?_ (fun h1 => ?_)
  · unfold x1
    refine Fr.wrB (xs := [⟨17228144768, 17228144783, 1, 0⟩]) (Reg.GPIO_IN_IN_key (by first | omega | (simp only [List.mem_range] at *; omega))) rfl ?_
    first | assumption | exact Fr.refl _
  try clear_value x1
  refine Fr.iteh (fun _ => ?_) (fun _ => ?_)
  · unfold State.raiseFlag
    try dsimp -zeta only
    refine Fr.iteh (fun _ => ?_) (fun _ => ?_)
    · first | assumption | exact Fr.refl _
    · refine Fr.iteh (fun _ => ?_) (fun _ => ?_)
      · refine Fr.step State.signal_fr rfl rfl ?_
        refine Fr.wr (xs := [⟨17228144784, 17228144799, 1, 0⟩]) (Reg.GPIO_IN_FLAG_key (by first | omega | (simp only [List.mem_range] at *; omega))) rfl ?_
        first | assumption | exact Fr.refl _
      · refine Fr.wr (xs := [⟨17228144784, 17228144799, 1, 0⟩]) (Reg.GPIO_IN_FLAG_key (by first | omega | (simp only [List.mem_range] at *; omega))) rfl ?_
        first | assumption | exact Fr.refl _
  · first | assumption | exact Fr.refl _

theorem execTimerEnable_fr {a0} {a1} {a2} {s} : FrRes [⟨17228153344, 17228154143, 256, 31⟩, ⟨17228136578, 17228136578, 1, 0⟩, ⟨17188261632, 17188261632, 1, 0⟩, ⟨17181966336, 17181966336, 1, 0⟩, ⟨17181967360, 17181967360, 1, 0⟩, ⟨17186226581, 17186257301, 2048, 0⟩, ⟨17181966338, 17181966338, 1, 0⟩, ⟨17181966495, 17181966495, 1, 0⟩, ⟨17186168832, 17186169247, 1, 0⟩, ⟨17181967232, 17181967263, 1, 0⟩] [.flt, .evc, .pwr, .pair, .peri] s (execTimerEnable a0 a1 a2 s) := by
  unfold execTimerEnable
  refine FrRes.next ?_
  refine busWrite_fr (x := ⟨17228153344, 17228154143, 256, 31⟩) (Keys.word_intro (by first | omega | (omega)) (by first | omega | (omega)) (by first | omega | (omega))) (fun u => State.werr_0x2017 (by omega)) rfl rfl ?_ (fun t ht => ?_)
  · first | assumption | exact Fr.refl _
  · extract_lets -merge -underBinder +onlyGivenNames x0
    refine Fr.cut x0 ?_ (fun h0 => ?_)
    · unfold x0
      refine Fr.wr (xs := [⟨17228153344, 17228154112, 256, 0⟩]) (Reg.TIM_CTRL_EN_key (by first | omega | (simp only [List.mem_range] at *; omega))) rfl ?_
      first | assumption | exact Fr.refl _
    try clear_value x0
    refine Fr.iteh (fun _ => ?_) (fun _ => ?_)
    · refine Fr.set_peri rfl ?_
      first | assumption | exact Fr.refl _
    · first | assumption | exact Fr.refl _

theorem execTimerExpiry_fr {a0} {s} : FrRes [⟨17228153344, 17228154112, 256, 0⟩, ⟨17181966336, 17181966336, 1, 0⟩, ⟨17181967360, 17181967360, 1, 0⟩, ⟨17186226581, 17186257301, 2048, 0⟩, ⟨17181966338, 17181966338, 1, 0⟩, ⟨17181966495, 17181966495, 1, 0⟩, ⟨17186168832, 17186169247, 1, 0⟩, ⟨17228153346, 17228154114, 256, 0⟩] [.peri, .pwr, .flt, .evc] s (execTimerExpiry a0 s) := by
  unfold execTimerExpiry
  refine FrRes.next ?_
  refine Fr.iteh (fun _ => ?_) (fun _ => ?_)
  · first | assumption | exact Fr.refl _
  · extract_lets -merge -underBinder +onlyGivenNames x0
    extract_lets -merge -underBinder +onlyGivenNames x1
    refine Fr.cut x1 ?_ (fun h1 => ?_)
    · unfold x1
      refine Fr.iteh (fun _ => ?_) (fun _ => ?_)
      · refine Fr.set_peri rfl ?_
        first | assumption | exact Fr.refl _
      · refine Fr.wr (xs := [⟨17228153344, 17228154112, 256, 0⟩]) (Reg.TIM_CTRL_EN_key (by first | omega | (simp only [List.mem_range] at *; omega))) rfl ?_
        first | assumption | exact Fr.refl _
    try clear_value x1
    unfold State.raiseFlag
    try dsimp -zeta only
    refine Fr.iteh (fun _ => ?_) (fun _ => ?_)
    · first | assumption | exact Fr.refl _
    · refine Fr.iteh (fun _ => ?_) (fun _ => ?_)
      · refine Fr.step State.signal_fr rfl rfl ?_
        refine Fr.wr (xs := [⟨17228153346, 17228154114, 256, 0⟩]) (Reg.TIM_CTRL_FIRED_key (by first | omega | (simp only [List.mem_range] at *; omega))) rfl ?_
        first | assumption | exact Fr.refl _
      · refine Fr.wr (xs := [⟨17228153346, 17228154114, 256, 0⟩]) (Reg.TIM_CTRL_FIRED_key (by first | omega | (simp only [List.mem_range] at *; omega))) rfl ?_
        first | assumption | exact Fr.refl _

theorem execTbaseLoRead_fr {s} : FrRes [] [.peri] s (execTbaseLoRead s) := by
  unfold execTbaseLoRead
  refine FrRes.next ?_
  refine Fr.set_peri rfl ?_
  first | assumption | exact Fr.refl _

end Sys2Proof.Machine
end

