-- ==== Sys2Proof/Laws/RegWriteFrame.lean ====
section
/-! SUPPORT. What each operation and command of Machine/RegWrite.lean changes at most: register blocks and zones of the state. -/

namespace Sys2Proof.Machine

theorem State.layerReg_fr {s} {a1} : Fr [⟨17198743688, 17198743695, 1, 0⟩, ⟨17198753155, 17198767491, 2048, 0⟩, ⟨17198753154, 17198767490, 2048, 0⟩] [.layer] s (State.layerReg s a1) := by
  unfold State.layerReg
  refine Fr.iteh (fun _ => ?_) (fun _ => ?_)
  · first | assumption | exact Fr.refl _
  · extract_lets -merge -underBinder +onlyGivenNames x0
    try clear_value (e0 : x0 = _)
    refine Fr.iteh (fun _ => ?_) (fun _ => ?_)
    · refine Fr.step State.layerWritten_fr rfl rfl ?_
      first | assumption | exact Fr.refl _
    · first | assumption | exact Fr.refl _

theorem State.cueReg_fr {s} {a1} {a2} : Fr [] [.time] s (State.cueReg s a1 a2) := by
  unfold State.cueReg
  refine Fr.iteh (fun _ => ?_) (fun _ => ?_)
  · first | assumption | exact Fr.refl _
  · extract_lets -merge -underBinder +onlyGivenNames x0
    try clear_value (e0 : x0 = _)
    refine Fr.iteh (fun _ => ?_) (fun _ => ?_)
    · refine Fr.step State.armCue_fr rfl rfl ?_
      first | assumption | exact Fr.refl _
    · refine Fr.iteh (fun _ => ?_) (fun _ => ?_)
      · refine Fr.step State.armCue_fr rfl rfl ?_
        first | assumption | exact Fr.refl _
      · first | assumption | exact Fr.refl _

theorem State.evcReg_fr {s} {a1} : Fr [⟨17186226581, 17186257301, 2048, 0⟩] [.flt, .evc] s (State.evcReg s a1) := by
  unfold State.evcReg
  refine Fr.iteh (fun _ => ?_) (fun _ => ?_)
  · extract_lets -merge -underBinder +onlyGivenNames x0
    try clear_value (e0 : x0 = _)
    refine Fr.iteh (fun _ => ?_) (fun _ => ?_)
    · refine Fr.step State.wakeFor_fr rfl rfl ?_
      first | assumption | exact Fr.refl _
    · first | assumption | exact Fr.refl _
  · refine Fr.iteh (fun _ => ?_) (fun _ => ?_)
    · refine Fr.step State.lookAgain_fr rfl rfl ?_
      first | assumption | exact Fr.refl _
    · first | assumption | exact Fr.refl _

theorem State.suspectReg_fr {s} {a1} {a2} : Fr [⟨17211326596, 17211326596, 1, 0⟩] [.thm] s (State.suspectReg s a1 a2) := by
  unfold State.suspectReg
  refine Fr.iteh (fun _ => ?_) (fun _ => ?_)
  · first | assumption | exact Fr.refl _
  · refine Fr.step State.showSuspect_fr rfl rfl ?_
    refine Fr.forFin ?_ (fun i t ht => ?_)
    · first | assumption | exact Fr.refl _
    · refine Fr.iteh (fun _ => ?_) (fun _ => ?_)
      · refine Fr.step State.setTile_fr rfl rfl ?_
        first | assumption | exact Fr.refl _
      · first | assumption | exact Fr.refl _

theorem State.periReg_fr {s} {a1} : Fr [⟨17228161024, 17228161052, 4, 0⟩, ⟨17228161152, 17228161160, 4, 0⟩] [.peri] s (State.periReg s a1) := by
  unfold State.periReg
  refine Fr.iteh (fun _ => ?_) (fun _ => ?_)
  · refine Fr.set_peri rfl ?_
    first | assumption | exact Fr.refl _
  · refine Fr.iteh (fun _ => ?_) (fun _ => ?_)
    · refine Fr.forFin ?_ (fun i t ht => ?_)
      · first | assumption | exact Fr.refl _
      · refine Fr.wr (xs := [⟨17228161024, 17228161052, 4, 0⟩]) (Reg.PERI_EVSEL0_key (by first | omega | (simp only [List.mem_range] at *; omega))) rfl ?_
        first | assumption | exact Fr.refl _
    · refine Fr.iteh (fun _ => ?_) (fun _ => ?_)
      · refine Fr.forFin ?_ (fun i t ht => ?_)
        · first | assumption | exact Fr.refl _
        · refine Fr.wr (xs := [⟨17228161152, 17228161160, 4, 0⟩]) (Reg.PERI_EVSEL1_key (by first | omega | (simp only [List.mem_range] at *; omega))) rfl ?_
          first | assumption | exact Fr.refl _
      · first | assumption | exact Fr.refl _

theorem State.written_fr {s} {a1} {a2} : Fr ([⟨17186226581, 17186257301, 2048, 0⟩, ⟨17188257922, 17188257922, 1, 0⟩, ⟨17194557440, 17194573724, 4, 0⟩, ⟨17181966336, 17181966336, 1, 0⟩, ⟨17181967360, 17181967360, 1, 0⟩, ⟨17181966338, 17181966338, 1, 0⟩, ⟨17181966495, 17181966495, 1, 0⟩, ⟨17186168832, 17186169247, 1, 0⟩, ⟨17194549776, 17194549776, 1, 0⟩, ⟨17192452352, 17192452352, 1, 0⟩, ⟨17192452608, 17192452608, 1, 0⟩, ⟨17192452480, 17192452480, 1, 0⟩, ⟨17192452229, 17192452229, 1, 0⟩, ⟨17192452228, 17192452228, 1, 0⟩, ⟨17188261632, 17188261632, 1, 0⟩, ⟨17181967232, 17181967263, 1, 0⟩, ⟨17194615425, 17194618497, 1024, 0⟩, ⟨17194615296, 17194618368, 1024, 0⟩, ⟨17194549761, 17194549761, 1, 0⟩, ⟨17194549764, 17194549764, 1, 0⟩, ⟨17198743816, 17198743816, 1, 0⟩, ⟨17198743808, 17198743808, 1, 0⟩, ⟨17198743553, 17198743553, 1, 0⟩, ⟨17198753156, 17198767492, 2048, 0⟩, ⟨17198743688, 17198743695, 1, 0⟩, ⟨17198753155, 17198767491, 2048, 0⟩, ⟨17198753154, 17198767490, 2048, 0⟩, ⟨17207138304, 17207138975, 1, 0⟩, ⟨17211359376, 17211408272, 256, 0⟩, ⟨17209229443, 17209229443, 1, 0⟩] ++ [⟨17209229442, 17209229442, 1, 0⟩, ⟨17209231360, 17209231360, 1, 0⟩, ⟨17209231504, 17209231504, 1, 0⟩, ⟨17209231488, 17209231488, 1, 0⟩, ⟨17209231376, 17209231376, 1, 0⟩, ⟨17209245696, 17209251736, 8, 0⟩, ⟨17211326596, 17211326596, 1, 0⟩, ⟨17213423745, 17213423745, 1, 0⟩, ⟨17223909507, 17223909507, 1, 0⟩, ⟨17228161024, 17228161052, 4, 0⟩, ⟨17228161152, 17228161160, 4, 0⟩]) [.flt, .evc, .free, .mem, .pwr, .memc, .win, .layer, .lsc, .thm, .pair, .lane, .time, .peri] s (State.written s a1 a2) := by
  unfold State.written
  split
  · refine Fr.step State.evcReg_fr rfl rfl ?_
    first | assumption | exact Fr.refl _
  · refine Fr.step State.showPin_fr rfl rfl ?_
    first | assumption | exact Fr.refl _
  · refine Fr.iteh (fun _ => ?_) (fun _ => ?_)
    · refine Fr.step State.retireHandover_fr rfl rfl ?_
      first | assumption | exact Fr.refl _
    · first | assumption | exact Fr.refl _
  · extract_lets -merge -underBinder +onlyGivenNames x0
    refine Fr.cut x0 ?_ (fun h0 => ?_)
    · unfold x0
      refine Fr.step State.layerReg_fr rfl rfl ?_
      first | assumption | exact Fr.refl _
    try clear_value x0
    refine Fr.iteh (fun _ => ?_) (fun _ => ?_)
    · first | assumption | exact Fr.refl _
    · refine Fr.step State.retireHandover_fr rfl rfl ?_
      first | assumption | exact Fr.refl _
  · refine Fr.iteh (fun _ => ?_) (fun _ => ?_)
    · refine Fr.step State.zonesOver_fr rfl rfl ?_
      first | assumption | exact Fr.refl _
    · first | assumption | exact Fr.refl _
  · refine Fr.iteh (fun _ => ?_) (fun _ => ?_)
    · refine Fr.step State.lscEval_fr rfl rfl ?_
      first | assumption | exact Fr.refl _
    · first | assumption | exact Fr.refl _
  · refine Fr.step State.suspectReg_fr rfl rfl ?_
    first | assumption | exact Fr.refl _
  · refine Fr.iteh (fun _ => ?_) (fun _ => ?_)
    · refine Fr.step State.pairState_fr rfl rfl ?_
      refine Fr.wr (xs := [⟨17213423745, 17213423745, 1, 0⟩]) rfl rfl ?_
      first | assumption | exact Fr.refl _
    · refine Fr.iteh (fun _ => ?_) (fun _ => ?_)
      · refine Fr.step State.pairState_fr rfl rfl ?_
        first | assumption | exact Fr.refl _
      · first | assumption | exact Fr.refl _
  · extract_lets -merge -underBinder +onlyGivenNames x1
    refine Fr.cut x1 ?_ (fun h1 => ?_)
    · unfold x1
      refine Fr.step State.cueReg_fr rfl rfl ?_
      first | assumption | exact Fr.refl _
    try clear_value x1
    refine Fr.iteh (fun _ => ?_) (fun _ => ?_)
    · first | assumption | exact Fr.refl _
    · refine Fr.set_time rfl ?_
      first | assumption | exact Fr.refl _
  · refine Fr.step State.showArmed_fr rfl rfl ?_
    first | assumption | exact Fr.refl _
  · refine Fr.step State.periReg_fr rfl rfl ?_
    first | assumption | exact Fr.refl _
  · first | assumption | exact Fr.refl _

theorem State.regWrite_fr {s m addr size v} (ha : addr < 2 ^ 32) : Fr [⟨0, 137438953471, 1, 0⟩] [.evc, .pwr, .flt, .cal, .ident, .pair, .win, .layer, .lsc, .free, .thm, .time, .lane, .peri, .mem, .memc] s (State.regWrite s m addr size v) := by
  unfold State.regWrite
  refine Fr.ite (Fr.step State.closedCrossing_fr rfl rfl (Fr.refl s)) (Fr.ite (Fr.ite (Fr.set_cal rfl (Fr.refl s))
    (Fr.step State.busErr_fr rfl rfl (Fr.refl s))) (Fr.ite (Fr.set_ident rfl (Fr.refl s)) (Fr.ite (Fr.step State.busErr_fr rfl rfl (Fr.refl s))
    (Fr.ite (busWrite_frAll ha rfl (Fr.refl s) (fun u hu => hu)) (busWrite_frAll ha rfl (Fr.refl s) (fun u hu => Fr.step State.written_fr rfl rfl hu))))))

theorem execRegisterWrite_fr {a0} {a1} {a2} {a3} {s} : FrRes [⟨0, 137438953471, 1, 0⟩] [.evc, .pwr, .flt, .cal, .ident, .pair, .win, .layer, .lsc, .free, .thm, .time, .lane, .peri, .mem, .memc] s (execRegisterWrite a0 a1 a2 a3 s) := by
  unfold execRegisterWrite
  refine FrRes.next ?_
  extract_lets -merge -underBinder +onlyGivenNames x0
  try clear_value (e0 : x0 = _)
  refine Fr.iteh (fun _ => ?_) (fun _ => ?_)
  · refine Fr.step (State.regWrite_fr (by omega)) rfl rfl ?_
    first | assumption | exact Fr.refl _
  · refine Fr.step State.dramWrite_fr rfl rfl ?_
    first | assumption | exact Fr.refl _

theorem State.registerRead_fr {s} {a1} {a2} {a3} : Fr [⟨17188261632, 17188261632, 1, 0⟩, ⟨17181966336, 17181966336, 1, 0⟩, ⟨17181967360, 17181967360, 1, 0⟩, ⟨17186226581, 17186257301, 2048, 0⟩, ⟨17181966338, 17181966338, 1, 0⟩, ⟨17181966495, 17181966495, 1, 0⟩, ⟨17186168832, 17186169247, 1, 0⟩, ⟨17181967232, 17181967263, 1, 0⟩, ⟨17226012672, 17226012672, 1, 0⟩, ⟨17200842880, 17200842880, 1, 0⟩, ⟨17200842752, 17200842752, 1, 0⟩] [.flt, .pwr, .evc, .peri, .free, .ft] s (State.registerRead s a1 a2 a3) := by
  unfold State.registerRead
  refine Fr.iteh (fun _ => ?_) (fun _ => ?_)
  · refine Fr.step State.closedCrossing_fr rfl rfl ?_
    first | assumption | exact Fr.refl _
  · refine Fr.iteh (fun _ => ?_) (fun _ => ?_)
    · first | assumption | exact Fr.refl _
    · refine Fr.iteh (fun _ => ?_) (fun _ => ?_)
      · refine Fr.step State.busErr_fr rfl rfl ?_
        first | assumption | exact Fr.refl _
      · refine Fr.iteh (fun _ => ?_) (fun _ => ?_)
        · refine Fr.set_peri rfl ?_
          first | assumption | exact Fr.refl _
        · refine Fr.iteh (fun _ => ?_) (fun _ => ?_)
          · refine Fr.step State.nextRandom_fr rfl rfl ?_
            first | assumption | exact Fr.refl _
          · refine Fr.iteh (fun _ => ?_) (fun _ => ?_)
            · refine Fr.step State.nextSecRead_fr rfl rfl ?_
              first | assumption | exact Fr.refl _
            · first | assumption | exact Fr.refl _

theorem execDramRead_fr {a0} {a1} {a2} {a3} {s} : FrRes [⟨17188261632, 17188261632, 1, 0⟩, ⟨17181966336, 17181966336, 1, 0⟩, ⟨17181967360, 17181967360, 1, 0⟩, ⟨17186226581, 17186257301, 2048, 0⟩, ⟨17181966338, 17181966338, 1, 0⟩, ⟨17181966495, 17181966495, 1, 0⟩, ⟨17186168832, 17186169247, 1, 0⟩, ⟨17181967232, 17181967263, 1, 0⟩, ⟨17226012672, 17226012672, 1, 0⟩, ⟨17200842880, 17200842880, 1, 0⟩, ⟨17200842752, 17200842752, 1, 0⟩, ⟨17192452352, 17192452352, 1, 0⟩, ⟨17192452608, 17192452608, 1, 0⟩, ⟨17192452480, 17192452480, 1, 0⟩, ⟨17192452229, 17192452229, 1, 0⟩, ⟨17192452228, 17192452228, 1, 0⟩] [.flt, .pwr, .evc, .peri, .free, .ft, .memc, .mem] s (execDramRead a0 a1 a2 a3 s) := by
  unfold execDramRead
  extract_lets -merge -underBinder +onlyGivenNames x0
  refine FrRes.next ?_
  refine Fr.iteh (fun _ => ?_) (fun _ => ?_)
  · refine Fr.step State.busErr_fr rfl rfl ?_
    first | assumption | exact Fr.refl _
  · refine Fr.iteh (fun _ => ?_) (fun _ => ?_)
    · refine Fr.step State.registerRead_fr rfl rfl ?_
      first | assumption | exact Fr.refl _
    · refine Fr.iteh (fun _ => ?_) (fun _ => ?_)
      · refine Fr.step State.accErr_fr rfl rfl ?_
        first | assumption | exact Fr.refl _
      · refine Fr.iteh (fun _ => ?_) (fun _ => ?_)
        · first | assumption | exact Fr.refl _
        · refine Fr.step State.blockRead_fr rfl rfl ?_
          first | assumption | exact Fr.refl _

end Sys2Proof.Machine
end

