-- ==== Sys2Proof/Laws/SaFrame.lean ====
section
/-! SUPPORT. What each operation and command of Machine/Sa.lean changes at most: register blocks and zones of the state. -/

namespace Sys2Proof.Machine

theorem execSaEnable_fr {a0} {a1} {s} : FrRes [⟨17196646400, 17196646431, 32, 31⟩, ⟨17196646535, 17196646535, 1, 0⟩, ⟨17181966336, 17181966336, 1, 0⟩, ⟨17181967360, 17181967360, 1, 0⟩, ⟨17186226581, 17186257301, 2048, 0⟩, ⟨17181966338, 17181966338, 1, 0⟩, ⟨17181966495, 17181966495, 1, 0⟩, ⟨17186168832, 17186169247, 1, 0⟩, ⟨17188261632, 17188261632, 1, 0⟩, ⟨17181967232, 17181967263, 1, 0⟩, ⟨17205035139, 17205149827, 8192, 0⟩, ⟨17205035141, 17205149829, 8192, 0⟩, ⟨17205035140, 17205149828, 8192, 0⟩, ⟨17205035136, 17205149824, 8192, 0⟩, ⟨17202937984, 17204379776, 131072, 0⟩, ⟨17196646534, 17196646534, 1, 0⟩] [.flt, .evc, .pwr, .pair, .sa] s (execSaEnable a0 a1 s) := by
  unfold execSaEnable
  refine FrRes.next ?_
  refine busWrite_fr (x := ⟨17196646400, 17196646431, 32, 31⟩) (Keys.word_intro (by first | omega | (omega)) (by first | omega | (omega)) (by first | omega | (omega))) (fun u => State.werr_0x2008 (by omega)) rfl rfl ?_ (fun t ht => ?_)
  · first | assumption | exact Fr.refl _
  · refine Fr.iteh (fun _ => ?_) (fun _ => ?_)
    · refine Fr.iteh (fun _ => ?_) (fun _ => ?_)
      · first | assumption | exact Fr.refl _
      · extract_lets -merge -underBinder +onlyGivenNames x0
        try clear_value (e0 : x0 = _)
        extract_lets -merge -underBinder +onlyGivenNames x1
        try clear_value x1
        refine Fr.iteh (fun _ => ?_) (fun _ => ?_)
        · refine Fr.step (State.werr_0x2008 (by omega)) rfl rfl ?_
          first | assumption | exact Fr.refl _
        · extract_lets -merge -underBinder +onlyGivenNames x2
          extract_lets -merge -underBinder +onlyGivenNames x3
          refine Fr.cut x3 ?_ (fun h3 => ?_)
          · unfold x3
            refine Fr.step State.setSa_fr rfl rfl ?_
            first | assumption | exact Fr.refl _
          try clear_value x3
          refine Fr.step State.tlRelease_fr rfl rfl ?_
          refine Fr.wr (xs := [⟨17196646534, 17196646534, 1, 0⟩]) rfl rfl ?_
          refine Fr.wr (xs := [⟨17196646400, 17196646400, 1, 0⟩]) rfl rfl ?_
          first | assumption | exact Fr.refl _
    · refine Fr.iteh (fun _ => ?_) (fun _ => ?_)
      · first | assumption | exact Fr.refl _
      · refine Fr.iteh (fun _ => ?_) (fun _ => ?_)
        · refine Fr.step (State.werr_0x2008 (by omega)) rfl rfl ?_
          first | assumption | exact Fr.refl _
        · refine Fr.wr (xs := [⟨17196646400, 17196646400, 1, 0⟩]) rfl rfl ?_
          first | assumption | exact Fr.refl _

theorem execSaCommit_fr {a0} {a1} {s} : FrRes ([⟨17196646400, 17196646431, 32, 31⟩, ⟨17196646535, 17196646535, 1, 0⟩, ⟨17181966336, 17181966336, 1, 0⟩, ⟨17181967360, 17181967360, 1, 0⟩, ⟨17186226581, 17186257301, 2048, 0⟩, ⟨17181966338, 17181966338, 1, 0⟩, ⟨17181966495, 17181966495, 1, 0⟩, ⟨17186168832, 17186169247, 1, 0⟩, ⟨17188261632, 17188261632, 1, 0⟩, ⟨17181967232, 17181967263, 1, 0⟩, ⟨17196646656, 17196646656, 1, 0⟩, ⟨17196647812, 17196647812, 1, 0⟩, ⟨17196647808, 17196647808, 1, 0⟩, ⟨17196646544, 17196646544, 1, 0⟩, ⟨17196646536, 17196646536, 1, 0⟩, ⟨17198753168, 17198767504, 2048, 0⟩, ⟨17198753152, 17198767488, 2048, 0⟩, ⟨17196646533, 17196646533, 1, 0⟩, ⟨17196646529, 17196646529, 1, 0⟩, ⟨17198753155, 17198767491, 2048, 0⟩, ⟨17198753154, 17198767490, 2048, 0⟩, ⟨17198753156, 17198767492, 2048, 0⟩, ⟨17198753280, 17198767616, 2048, 0⟩, ⟨17205035139, 17205149827, 8192, 0⟩, ⟨17205035141, 17205149829, 8192, 0⟩, ⟨17205035140, 17205149828, 8192, 0⟩, ⟨17205035136, 17205149824, 8192, 0⟩, ⟨17202937984, 17204379776, 131072, 0⟩, ⟨17211359376, 17211408272, 256, 0⟩, ⟨17207138304, 17207138975, 1, 0⟩] ++ [⟨17207136256, 17207137664, 128, 0⟩, ⟨17198743816, 17198743816, 1, 0⟩, ⟨17198743808, 17198743808, 1, 0⟩, ⟨17198743553, 17198743553, 1, 0⟩, ⟨17198743688, 17198743695, 1, 0⟩]) [.flt, .evc, .pwr, .pair, .sa, .layer, .tl, .free, .hlth, .cal, .lane] s (execSaCommit a0 a1 s) := by
  unfold execSaCommit
  refine FrRes.next ?_
  refine busWrite_fr (x := ⟨17196646400, 17196646431, 32, 31⟩) (Keys.word_intro (by first | omega | (omega)) (by first | omega | (omega)) (by first | omega | (omega))) (fun u => State.werr_0x2008 (by omega)) rfl rfl ?_ (fun t ht => ?_)
  · first | assumption | exact Fr.refl _
  · refine Fr.iteh (fun _ => ?_) (fun _ => ?_)
    · refine Fr.step State.commitBlock_fr1 rfl rfl ?_
      first | assumption | exact Fr.refl _
    · first | assumption | exact Fr.refl _

theorem execSaLoadStart_fr {a0} {a1} {s} : FrRes [⟨17196647168, 17196647199, 32, 31⟩, ⟨17196646535, 17196646535, 1, 0⟩, ⟨17181966336, 17181966336, 1, 0⟩, ⟨17181967360, 17181967360, 1, 0⟩, ⟨17186226581, 17186257301, 2048, 0⟩, ⟨17181966338, 17181966338, 1, 0⟩, ⟨17181966495, 17181966495, 1, 0⟩, ⟨17186168832, 17186169247, 1, 0⟩, ⟨17188261632, 17188261632, 1, 0⟩, ⟨17181967232, 17181967263, 1, 0⟩, ⟨17196647298, 17196647298, 1, 0⟩, ⟨17196647297, 17196647297, 1, 0⟩, ⟨17196646532, 17196646532, 1, 0⟩, ⟨17196647296, 17196647296, 1, 0⟩, ⟨17196647304, 17196647304, 1, 0⟩, ⟨17196647812, 17196647812, 1, 0⟩, ⟨17196647808, 17196647808, 1, 0⟩, ⟨17196646544, 17196646544, 1, 0⟩, ⟨17196646536, 17196646536, 1, 0⟩, ⟨17198753168, 17198767504, 2048, 0⟩, ⟨17198753152, 17198767488, 2048, 0⟩, ⟨17196647312, 17196647312, 1, 0⟩, ⟨17196647424, 17196647424, 1, 0⟩, ⟨17196647552, 17196647552, 1, 0⟩, ⟨17196646530, 17196646530, 1, 0⟩, ⟨17196646531, 17196646531, 1, 0⟩] [.flt, .evc, .pwr, .pair, .sa] s (execSaLoadStart a0 a1 s) := by
  unfold execSaLoadStart
  refine FrRes.next ?_
  refine busWrite_fr (x := ⟨17196647168, 17196647199, 32, 31⟩) (Keys.word_intro (by first | omega | (omega)) (by first | omega | (omega)) (by first | omega | (omega))) (fun u => State.werr_0x2008 (by omega)) rfl rfl ?_ (fun t ht => ?_)
  · first | assumption | exact Fr.refl _
  · refine Fr.iteh (fun _ => ?_) (fun _ => ?_)
    · first | assumption | exact Fr.refl _
    · refine Fr.iteh (fun _ => ?_) (fun _ => ?_)
      · refine Fr.step (State.werr_0x2008 (by omega)) rfl rfl ?_
        first | assumption | exact Fr.refl _
      · extract_lets -merge -underBinder +onlyGivenNames x0
        try clear_value (e0 : x0 = _)
        extract_lets -merge -underBinder +onlyGivenNames x1
        refine Fr.cut x1 ?_ (fun h1 => ?_)
        · unfold x1
          refine Fr.wr (xs := [⟨17196647298, 17196647298, 1, 0⟩]) rfl rfl ?_
          refine Fr.wr (xs := [⟨17196647297, 17196647297, 1, 0⟩]) rfl rfl ?_
          first | assumption | exact Fr.refl _
        try clear_value x1
        refine Fr.iteh (fun _ => ?_) (fun _ => ?_)
        · refine Fr.step State.loadFail_fr rfl rfl ?_
          first | assumption | exact Fr.refl _
        · extract_lets -merge -underBinder +onlyGivenNames x2
          try clear_value (e2 : x2 = _)
          extract_lets -merge -underBinder +onlyGivenNames x3
          try clear_value (e3 : x3 = _)
          extract_lets -merge -underBinder +onlyGivenNames x4
          extract_lets -merge -underBinder +onlyGivenNames x5
          refine Fr.cut x5 ?_ (fun h5 => ?_)
          · unfold x5
            refine Fr.step State.setSa_fr rfl rfl ?_
            refine Fr.step State.dropBank_fr rfl rfl ?_
            first | assumption | exact Fr.refl _
          try clear_value x5
          refine Fr.step State.showBank_fr rfl rfl ?_
          refine Fr.wr (xs := [⟨17196646532, 17196646532, 1, 0⟩]) rfl rfl ?_
          refine Fr.wr (xs := [⟨17196647296, 17196647296, 1, 0⟩]) rfl rfl ?_
          refine Fr.wr (xs := [⟨17196647168, 17196647168, 1, 0⟩]) rfl rfl ?_
          first | assumption | exact Fr.refl _

theorem execSaLoadAbort_fr {a0} {a1} {s} : FrRes [⟨17196647168, 17196647199, 32, 31⟩, ⟨17196646535, 17196646535, 1, 0⟩, ⟨17181966336, 17181966336, 1, 0⟩, ⟨17181967360, 17181967360, 1, 0⟩, ⟨17186226581, 17186257301, 2048, 0⟩, ⟨17181966338, 17181966338, 1, 0⟩, ⟨17181966495, 17181966495, 1, 0⟩, ⟨17186168832, 17186169247, 1, 0⟩, ⟨17188261632, 17188261632, 1, 0⟩, ⟨17181967232, 17181967263, 1, 0⟩, ⟨17196646532, 17196646532, 1, 0⟩, ⟨17196647296, 17196647296, 1, 0⟩, ⟨17196647304, 17196647304, 1, 0⟩, ⟨17196647298, 17196647298, 1, 0⟩, ⟨17196647297, 17196647297, 1, 0⟩, ⟨17196647812, 17196647812, 1, 0⟩, ⟨17196647808, 17196647808, 1, 0⟩, ⟨17196646544, 17196646544, 1, 0⟩, ⟨17196646536, 17196646536, 1, 0⟩, ⟨17198753168, 17198767504, 2048, 0⟩, ⟨17198753152, 17198767488, 2048, 0⟩, ⟨17196647312, 17196647312, 1, 0⟩] [.flt, .evc, .pwr, .pair, .sa] s (execSaLoadAbort a0 a1 s) := by
  unfold execSaLoadAbort
  refine FrRes.next ?_
  refine busWrite_fr (x := ⟨17196647168, 17196647199, 32, 31⟩) (Keys.word_intro (by first | omega | (omega)) (by first | omega | (omega)) (by first | omega | (omega))) (fun u => State.werr_0x2008 (by omega)) rfl rfl ?_ (fun t ht => ?_)
  · first | assumption | exact Fr.refl _
  · refine Fr.iteh (fun _ => ?_) (fun _ => ?_)
    · refine Fr.step State.loadFail_fr rfl rfl ?_
      first | assumption | exact Fr.refl _
    · first | assumption | exact Fr.refl _

theorem execSaLoadEnd_fr {a0} {s} : FrRes ([⟨17196646532, 17196646532, 1, 0⟩, ⟨17196647296, 17196647296, 1, 0⟩, ⟨17196647168, 17196647168, 1, 0⟩, ⟨17196647304, 17196647304, 1, 0⟩, ⟨17196647298, 17196647298, 1, 0⟩, ⟨17196647297, 17196647297, 1, 0⟩, ⟨17181966336, 17181966336, 1, 0⟩, ⟨17181967360, 17181967360, 1, 0⟩, ⟨17186226581, 17186257301, 2048, 0⟩, ⟨17181966338, 17181966338, 1, 0⟩, ⟨17181966495, 17181966495, 1, 0⟩, ⟨17186168832, 17186169247, 1, 0⟩, ⟨17196647812, 17196647812, 1, 0⟩, ⟨17196647808, 17196647808, 1, 0⟩, ⟨17196646544, 17196646544, 1, 0⟩, ⟨17196646536, 17196646536, 1, 0⟩, ⟨17198753168, 17198767504, 2048, 0⟩, ⟨17198753152, 17198767488, 2048, 0⟩, ⟨17196647312, 17196647312, 1, 0⟩, ⟨17196647424, 17196647424, 1, 0⟩, ⟨17196647552, 17196647552, 1, 0⟩, ⟨17196646530, 17196646530, 1, 0⟩, ⟨17196646531, 17196646531, 1, 0⟩, ⟨17196646533, 17196646533, 1, 0⟩, ⟨17196646529, 17196646529, 1, 0⟩, ⟨17198753155, 17198767491, 2048, 0⟩, ⟨17198753154, 17198767490, 2048, 0⟩, ⟨17198753156, 17198767492, 2048, 0⟩, ⟨17198753280, 17198767616, 2048, 0⟩, ⟨17205035139, 17205149827, 8192, 0⟩] ++ [⟨17205035141, 17205149829, 8192, 0⟩, ⟨17205035140, 17205149828, 8192, 0⟩, ⟨17205035136, 17205149824, 8192, 0⟩, ⟨17202937984, 17204379776, 131072, 0⟩, ⟨17211359376, 17211408272, 256, 0⟩, ⟨17207138304, 17207138975, 1, 0⟩, ⟨17207136256, 17207137664, 128, 0⟩, ⟨17188261632, 17188261632, 1, 0⟩, ⟨17181967232, 17181967263, 1, 0⟩, ⟨17198743816, 17198743816, 1, 0⟩, ⟨17198743808, 17198743808, 1, 0⟩, ⟨17198743553, 17198743553, 1, 0⟩, ⟨17198743688, 17198743695, 1, 0⟩]) [.sa, .flt, .pwr, .evc, .layer, .tl, .free, .hlth, .cal] s (execSaLoadEnd a0 s) := by
  unfold execSaLoadEnd
  refine FrRes.next ?_
  split
  · first | assumption | exact Fr.refl _
  · split
    · refine Fr.step State.loadFail_fr rfl rfl ?_
      first | assumption | exact Fr.refl _
    · extract_lets -merge -underBinder +onlyGivenNames x0
      try clear_value x0
      extract_lets -merge -underBinder +onlyGivenNames x1
      extract_lets -merge -underBinder +onlyGivenNames x2
      refine Fr.cut x2 ?_ (fun h2 => ?_)
      · unfold x2
        refine Fr.step State.setSa_fr rfl rfl ?_
        first | assumption | exact Fr.refl _
      try clear_value x2
      extract_lets -merge -underBinder +onlyGivenNames x3
      refine Fr.cut x3 ?_ (fun h3 => ?_)
      · unfold x3
        refine Fr.wr (xs := [⟨17196647168, 17196647168, 1, 0⟩]) rfl rfl ?_
        refine Fr.wr (xs := [⟨17196647424, 17196647424, 1, 0⟩, ⟨17196647552, 17196647552, 1, 0⟩]) (by unfold bankId; exact (Keys.any_ite (xs := [⟨17196647424, 17196647424, 1, 0⟩]) (ys := [⟨17196647552, 17196647552, 1, 0⟩]) rfl rfl)) rfl ?_
        refine Fr.wr (xs := [⟨17196646530, 17196646530, 1, 0⟩, ⟨17196646531, 17196646531, 1, 0⟩]) (by unfold bankValid; exact (Keys.any_ite (xs := [⟨17196646530, 17196646530, 1, 0⟩]) (ys := [⟨17196646531, 17196646531, 1, 0⟩]) rfl rfl)) rfl ?_
        first | assumption | exact Fr.refl _
      try clear_value x3
      extract_lets -merge -underBinder +onlyGivenNames x4
      refine Fr.cut x4 ?_ (fun h4 => ?_)
      · unfold x4
        refine Fr.wr (xs := [⟨17196647297, 17196647297, 1, 0⟩]) rfl rfl ?_
        refine Fr.wr (xs := [⟨17196646532, 17196646532, 1, 0⟩]) rfl rfl ?_
        refine Fr.wr (xs := [⟨17196647296, 17196647296, 1, 0⟩]) rfl rfl ?_
        first | assumption | exact Fr.refl _
      try clear_value x4
      extract_lets -merge -underBinder +onlyGivenNames x5
      refine Fr.cut x5 ?_ (fun h5 => ?_)
      · unfold x5
        refine Fr.wr (xs := [⟨17196647312, 17196647312, 1, 0⟩]) rfl rfl ?_
        refine Fr.wr (xs := [⟨17196647304, 17196647304, 1, 0⟩]) rfl rfl ?_
        refine Fr.wr (xs := [⟨17196647298, 17196647298, 1, 0⟩]) rfl rfl ?_
        first | assumption | exact Fr.refl _
      try clear_value x5
      refine Fr.step State.fire_fr rfl rfl ?_
      refine Fr.iteh (fun _ => ?_) (fun _ => ?_)
      · refine Fr.step State.saSwitch_fr rfl rfl ?_
        first | assumption | exact Fr.refl _
      · refine Fr.step State.showBank_fr rfl rfl ?_
        first | assumption | exact Fr.refl _

theorem execSaDiagStart_fr {a0} {a1} {s} : FrRes [⟨17196648448, 17196648479, 32, 31⟩, ⟨17196646535, 17196646535, 1, 0⟩, ⟨17181966336, 17181966336, 1, 0⟩, ⟨17181967360, 17181967360, 1, 0⟩, ⟨17186226581, 17186257301, 2048, 0⟩, ⟨17181966338, 17181966338, 1, 0⟩, ⟨17181966495, 17181966495, 1, 0⟩, ⟨17186168832, 17186169247, 1, 0⟩, ⟨17188261632, 17188261632, 1, 0⟩, ⟨17181967232, 17181967263, 1, 0⟩, ⟨17196648576, 17196648576, 1, 0⟩] [.flt, .evc, .pwr, .pair, .layer, .sa, .free] s (execSaDiagStart a0 a1 s) := by
  unfold execSaDiagStart
  refine FrRes.next ?_
  refine busWrite_fr (x := ⟨17196648448, 17196648479, 32, 31⟩) (Keys.word_intro (by first | omega | (omega)) (by first | omega | (omega)) (by first | omega | (omega))) (fun u => State.werr_0x2008 (by omega)) rfl rfl ?_ (fun t ht => ?_)
  · first | assumption | exact Fr.refl _
  · extract_lets -merge -underBinder +onlyGivenNames x0
    try clear_value (e0 : x0 = _)
    refine Fr.iteh (fun _ => ?_) (fun _ => ?_)
    · first | assumption | exact Fr.refl _
    · refine Fr.iteh (fun _ => ?_) (fun _ => ?_)
      · refine Fr.step (State.werr_0x2008 (by omega)) rfl rfl ?_
        first | assumption | exact Fr.refl _
      · extract_lets -merge -underBinder +onlyGivenNames x1
        refine Fr.cut x1 ?_ (fun h1 => ?_)
        · unfold x1
          refine Fr.step State.cellLost_fr rfl rfl ?_
          first | assumption | exact Fr.refl _
        try clear_value x1
        refine Fr.wr (xs := [⟨17196648576, 17196648576, 1, 0⟩]) rfl rfl ?_
        refine Fr.wr (xs := [⟨17196648456, 17196648456, 1, 0⟩]) rfl rfl ?_
        refine Fr.step State.setSa_fr rfl rfl ?_
        first | assumption | exact Fr.refl _

theorem execSaDiagDone_fr {a0} {s} : FrRes [⟨17196648578, 17196648578, 1, 0⟩, ⟨17196648576, 17196648576, 1, 0⟩, ⟨17196648456, 17196648456, 1, 0⟩, ⟨17196648577, 17196648577, 1, 0⟩, ⟨17181966336, 17181966336, 1, 0⟩, ⟨17181967360, 17181967360, 1, 0⟩, ⟨17186226581, 17186257301, 2048, 0⟩, ⟨17181966338, 17181966338, 1, 0⟩, ⟨17181966495, 17181966495, 1, 0⟩, ⟨17186168832, 17186169247, 1, 0⟩, ⟨17196648584, 17196648584, 1, 0⟩] [.layer, .sa, .free, .pwr, .flt, .evc] s (execSaDiagDone a0 s) := by
  unfold execSaDiagDone
  refine FrRes.next ?_
  split
  · first | assumption | exact Fr.refl _
  · extract_lets -merge -underBinder +onlyGivenNames x0
    try clear_value x0
    extract_lets -merge -underBinder +onlyGivenNames x1
    refine Fr.cut x1 ?_ (fun h1 => ?_)
    · unfold x1
      refine Fr.step State.cellLost_fr rfl rfl ?_
      first | assumption | exact Fr.refl _
    try clear_value x1
    extract_lets -merge -underBinder +onlyGivenNames x2
    extract_lets -merge -underBinder +onlyGivenNames x3
    refine Fr.cut x3 ?_ (fun h3 => ?_)
    · unfold x3
      refine Fr.wr (xs := [⟨17196648578, 17196648578, 1, 0⟩]) rfl rfl ?_
      refine Fr.wr (xs := [⟨17196648576, 17196648576, 1, 0⟩]) rfl rfl ?_
      refine Fr.wr (xs := [⟨17196648456, 17196648456, 1, 0⟩]) rfl rfl ?_
      refine Fr.step State.setSa_fr rfl rfl ?_
      first | assumption | exact Fr.refl _
    try clear_value x3
    extract_lets -merge -underBinder +onlyGivenNames x4
    refine Fr.cut x4 ?_ (fun h4 => ?_)
    · unfold x4
      refine Fr.wrB (xs := [⟨17196648577, 17196648577, 1, 0⟩]) rfl rfl ?_
      first | assumption | exact Fr.refl _
    try clear_value x4
    split
    · refine Fr.step State.fire_fr rfl rfl ?_
      first | assumption | exact Fr.refl _
    · refine Fr.step State.raise_fr rfl rfl ?_
      refine Fr.step State.fire_fr rfl rfl ?_
      refine Fr.wr (xs := [⟨17196648584, 17196648584, 1, 0⟩]) rfl rfl ?_
      first | assumption | exact Fr.refl _

theorem execSaEccDed_fr {a0} {a1} {a2} {s} : FrRes [⟨17196649472, 17196649472, 1, 0⟩, ⟨17196649488, 17196649488, 1, 0⟩, ⟨17181966336, 17181966336, 1, 0⟩, ⟨17181967360, 17181967360, 1, 0⟩, ⟨17186226581, 17186257301, 2048, 0⟩, ⟨17181966338, 17181966338, 1, 0⟩, ⟨17181966495, 17181966495, 1, 0⟩, ⟨17186168832, 17186169247, 1, 0⟩, ⟨17196649496, 17196649496, 1, 0⟩] [.flt, .pwr, .evc, .sa] s (execSaEccDed a0 a1 a2 s) := by
  unfold execSaEccDed
  refine FrRes.next ?_
  extract_lets -merge -underBinder +onlyGivenNames x0
  refine Fr.cut x0 ?_ (fun h0 => ?_)
  · unfold x0
    refine Fr.addSat (xs := [⟨17196649472, 17196649472, 1, 0⟩]) rfl rfl ?_
    first | assumption | exact Fr.refl _
  try clear_value x0
  extract_lets -merge -underBinder +onlyGivenNames x1
  refine Fr.cut x1 ?_ (fun h1 => ?_)
  · unfold x1
    refine Fr.iteh (fun _ => ?_) (fun _ => ?_)
    · first | assumption | exact Fr.refl _
    · refine Fr.wr (xs := [⟨17196649488, 17196649488, 1, 0⟩]) rfl rfl ?_
      first | assumption | exact Fr.refl _
  try clear_value x1
  extract_lets -merge -underBinder +onlyGivenNames x2
  refine Fr.cut x2 ?_ (fun h2 => ?_)
  · unfold x2
    refine Fr.step State.raise_fr rfl rfl ?_
    refine Fr.step State.fire_fr rfl rfl ?_
    refine Fr.wr (xs := [⟨17196649496, 17196649496, 1, 0⟩]) rfl rfl ?_
    first | assumption | exact Fr.refl _
  try clear_value x2
  refine Fr.iteh (fun _ => ?_) (fun _ => ?_)
  · first | assumption | exact Fr.refl _
  · refine Fr.iteh (fun _ => ?_) (fun _ => ?_)
    · refine Fr.iteh (fun _ => ?_) (fun _ => ?_)
      · refine Fr.step State.setSa_fr rfl rfl ?_
        first | assumption | exact Fr.refl _
      · first | assumption | exact Fr.refl _
    · refine Fr.iteh (fun _ => ?_) (fun _ => ?_)
      · refine Fr.step State.setSa_fr rfl rfl ?_
        first | assumption | exact Fr.refl _
      · first | assumption | exact Fr.refl _

theorem execSaFenceSet_fr {a0} {a1} {a2} {s} : FrRes ([⟨17196646535, 17196646535, 1, 0⟩, ⟨17181966336, 17181966336, 1, 0⟩, ⟨17181967360, 17181967360, 1, 0⟩, ⟨17186226581, 17186257301, 2048, 0⟩, ⟨17181966338, 17181966338, 1, 0⟩, ⟨17181966495, 17181966495, 1, 0⟩, ⟨17186168832, 17186169247, 1, 0⟩, ⟨17188261632, 17188261632, 1, 0⟩, ⟨17181967232, 17181967263, 1, 0⟩, ⟨17196646533, 17196646533, 1, 0⟩, ⟨17196647812, 17196647812, 1, 0⟩, ⟨17196647808, 17196647808, 1, 0⟩, ⟨17196646544, 17196646544, 1, 0⟩, ⟨17196646536, 17196646536, 1, 0⟩, ⟨17198753168, 17198767504, 2048, 0⟩, ⟨17198753152, 17198767488, 2048, 0⟩, ⟨17196646529, 17196646529, 1, 0⟩, ⟨17198753155, 17198767491, 2048, 0⟩, ⟨17198753154, 17198767490, 2048, 0⟩, ⟨17198753156, 17198767492, 2048, 0⟩, ⟨17198753280, 17198767616, 2048, 0⟩, ⟨17205035139, 17205149827, 8192, 0⟩, ⟨17205035141, 17205149829, 8192, 0⟩, ⟨17205035140, 17205149828, 8192, 0⟩, ⟨17205035136, 17205149824, 8192, 0⟩, ⟨17202937984, 17204379776, 131072, 0⟩, ⟨17211359376, 17211408272, 256, 0⟩, ⟨17207138304, 17207138975, 1, 0⟩, ⟨17207136256, 17207137664, 128, 0⟩, ⟨17198743816, 17198743816, 1, 0⟩] ++ [⟨17198743808, 17198743808, 1, 0⟩, ⟨17198743553, 17198743553, 1, 0⟩, ⟨17198743688, 17198743695, 1, 0⟩, ⟨17196646528, 17196646528, 1, 0⟩, ⟨17196646400, 17196646400, 1, 0⟩, ⟨17196646534, 17196646534, 1, 0⟩, ⟨17196648960, 17196649375, 1, 0⟩]) [.flt, .evc, .pwr, .pair, .sa, .layer, .tl, .free, .hlth, .cal] s (execSaFenceSet a0 a1 a2 s) := by
  unfold execSaFenceSet
  refine FrRes.next ?_
  refine busWrite_fr (x := ⟨17196648960, 17196649375, 128, 31⟩) (Keys.word_intro (by first | omega | (omega)) (by first | omega | (omega)) (by first | omega | (omega))) (fun u => State.werr_0x2008 (by omega)) rfl rfl ?_ (fun t ht => ?_)
  · first | assumption | exact Fr.refl _
  · refine Fr.step State.saFenced_fr rfl rfl ?_
    refine Fr.forFin ?_ (fun i t ht => ?_)
    · first | assumption | exact Fr.refl _
    · refine Fr.iteh (fun _ => ?_) (fun _ => ?_)
      · refine Fr.wr (xs := [⟨17196648960, 17196649375, 1, 0⟩]) (Reg.SA_FENCE_key (by first | omega | (simp only [List.mem_range] at *; omega))) rfl ?_
        first | assumption | exact Fr.refl _
      · first | assumption | exact Fr.refl _

end Sys2Proof.Machine
end

