-- ==== Sys2Proof/Laws/ThmFrame.lean ====
section
/-! SUPPORT. What each operation and command of Machine/Thm.lean changes at most: register blocks and zones of the state. -/

namespace Sys2Proof.Machine

theorem State.takeAin_fr {s} {a1} {a2} : Fr [⟨17181966336, 17181966336, 1, 0⟩, ⟨17181967360, 17181967360, 1, 0⟩, ⟨17186226581, 17186257301, 2048, 0⟩, ⟨17181966338, 17181966338, 1, 0⟩, ⟨17181966495, 17181966495, 1, 0⟩, ⟨17186168832, 17186169247, 1, 0⟩] [.thm, .flt, .pwr, .evc] s (State.takeAin s a1 a2) := by
  unfold State.takeAin
  extract_lets -merge -underBinder +onlyGivenNames x0
  try clear_value (e0 : x0 = _)
  extract_lets -merge -underBinder +onlyGivenNames x1
  try clear_value x1
  extract_lets -merge -underBinder +onlyGivenNames x2
  try clear_value x2
  extract_lets -merge -underBinder +onlyGivenNames x3
  extract_lets -merge -underBinder +onlyGivenNames x4
  refine Fr.cut x4 ?_ (fun h4 => ?_)
  · unfold x4
    refine Fr.set_thm rfl ?_
    first | assumption | exact Fr.refl _
  try clear_value x4
  refine Fr.iteh (fun _ => ?_) (fun _ => ?_)
  · refine Fr.step State.sensorFault_fr rfl rfl ?_
    first | assumption | exact Fr.refl _
  · first | assumption | exact Fr.refl _

theorem State.checkTile_fr {s} {a1} {a2} : Fr [] [.thm] s (State.checkTile s a1 a2) := by
  unfold State.checkTile
  extract_lets -merge -underBinder +onlyGivenNames x0
  extract_lets -merge -underBinder +onlyGivenNames x1
  try clear_value x1
  extract_lets -merge -underBinder +onlyGivenNames x2
  try clear_value x2
  extract_lets -merge -underBinder +onlyGivenNames x3
  try clear_value x3
  extract_lets -merge -underBinder +onlyGivenNames x4
  try clear_value x4
  extract_lets -merge -underBinder +onlyGivenNames x5
  try clear_value x5
  refine Fr.step State.setTile_fr rfl rfl ?_
  first | assumption | exact Fr.refl _

theorem State.checkNtc_fr {s} : Fr [] [.thm] s (State.checkNtc s) := by
  unfold State.checkNtc
  extract_lets -merge -underBinder +onlyGivenNames x0
  try clear_value x0
  extract_lets -merge -underBinder +onlyGivenNames x1
  try clear_value x1
  refine Fr.set_thm rfl ?_
  first | assumption | exact Fr.refl _

theorem State.startZones_fr {s} : Fr [] [.thm] s (State.startZones s) := by
  unfold State.startZones
  refine Fr.iteh (fun _ => ?_) (fun _ => ?_)
  · first | assumption | exact Fr.refl _
  · extract_lets -merge -underBinder +onlyGivenNames x0
    try clear_value x0
    refine Fr.set_thm rfl ?_
    first | assumption | exact Fr.refl _

theorem State.holdNode_fr {s} {a1} : Fr [] [.free] s (State.holdNode s a1).2 := by
  unfold State.holdNode
  refine Fr.iteh2 (fun _ => ?_) (fun _ => ?_)
  · refine Fr.mk2 ?_
    first | assumption | exact Fr.refl _
  · refine Fr.mk2 ?_
    refine Fr.step State.fresh_fr rfl rfl ?_
    first | assumption | exact Fr.refl _

theorem State.setNodes_fr {s} {a1} {a2} : Fr [] [.free, .thm] s (State.setNodes s a1 a2) := by
  unfold State.setNodes
  extract_lets -merge -underBinder +onlyGivenNames x0
  refine Fr.cut x0.2 ?_ (fun h0 => ?_)
  · unfold x0
    refine Fr.step State.holdNode_fr rfl rfl ?_
    first | assumption | exact Fr.refl _
  try clear_value x0
  extract_lets -merge -underBinder +onlyGivenNames x1
  refine Fr.cut x1.2 ?_ (fun h1 => ?_)
  · unfold x1
    refine Fr.step State.holdNode_fr rfl rfl ?_
    first | assumption | exact Fr.refl _
  try clear_value x1
  refine Fr.step State.setZone_fr rfl rfl ?_
  first | assumption | exact Fr.refl _

theorem State.forceZone_fr {s} {a1} : Fr [⟨17181966336, 17181966336, 1, 0⟩, ⟨17181967360, 17181967360, 1, 0⟩, ⟨17186226581, 17186257301, 2048, 0⟩, ⟨17181966338, 17181966338, 1, 0⟩, ⟨17181966495, 17181966495, 1, 0⟩, ⟨17186168832, 17186169247, 1, 0⟩] [.thm, .flt, .pwr, .evc] s (State.forceZone s a1) := by
  unfold State.forceZone
  extract_lets -merge -underBinder +onlyGivenNames x0
  extract_lets -merge -underBinder +onlyGivenNames x1
  try clear_value x1
  extract_lets -merge -underBinder +onlyGivenNames x2
  refine Fr.cut x2 ?_ (fun h2 => ?_)
  · unfold x2
    refine Fr.step State.setZone_fr rfl rfl ?_
    first | assumption | exact Fr.refl _
  try clear_value x2
  refine Fr.iteh (fun _ => ?_) (fun _ => ?_)
  · refine Fr.step State.raise_fr rfl rfl ?_
    refine Fr.step State.fire_fr rfl rfl ?_
    first | assumption | exact Fr.refl _
  · first | assumption | exact Fr.refl _

theorem State.publishZone_fr {s} {a1} : Fr [⟨17211359232, 17211408128, 256, 0⟩, ⟨17211359248, 17211408144, 256, 0⟩] [.free, .thm] s (State.publishZone s a1) := by
  unfold State.publishZone
  refine Fr.iteh (fun _ => ?_) (fun _ => ?_)
  · first | assumption | exact Fr.refl _
  · extract_lets -merge -underBinder +onlyGivenNames x0
    extract_lets -merge -underBinder +onlyGivenNames x1
    refine Fr.cut x1 ?_ (fun h1 => ?_)
    · unfold x1
      split
      · refine Fr.wr (xs := [⟨17211359232, 17211408128, 256, 0⟩]) (Reg.THM_ZTEMP_TJ_key (by first | omega | (simp only [List.mem_range] at *; omega))) rfl ?_
        first | assumption | exact Fr.refl _
      · unfold State.wrTemp
        try dsimp -zeta only
        refine Fr.iteh (fun _ => ?_) (fun _ => ?_)
        · refine Fr.wr (xs := [⟨17211359232, 17211408128, 256, 0⟩]) (Reg.THM_ZTEMP_TJ_key (by first | omega | (simp only [List.mem_range] at *; omega))) rfl ?_
          first | assumption | exact Fr.refl _
        · refine Fr.wr (xs := [⟨17211359232, 17211408128, 256, 0⟩]) (Reg.THM_ZTEMP_TJ_key (by first | omega | (simp only [List.mem_range] at *; omega))) rfl ?_
          refine Fr.step State.fresh_fr rfl rfl ?_
          first | assumption | exact Fr.refl _
    try clear_value x1
    refine Fr.step State.setZone_fr rfl rfl ?_
    unfold State.wrTemp
    try dsimp -zeta only
    refine Fr.iteh (fun _ => ?_) (fun _ => ?_)
    · refine Fr.wr (xs := [⟨17211359248, 17211408144, 256, 0⟩]) (Reg.THM_ZTEMP_TS_key (by first | omega | (simp only [List.mem_range] at *; omega))) rfl ?_
      first | assumption | exact Fr.refl _
    · refine Fr.wr (xs := [⟨17211359248, 17211408144, 256, 0⟩]) (Reg.THM_ZTEMP_TS_key (by first | omega | (simp only [List.mem_range] at *; omega))) rfl ?_
      refine Fr.step State.fresh_fr rfl rfl ?_
      first | assumption | exact Fr.refl _

theorem State.thmCapture_fr {s} : Fr [⟨17181966336, 17181966336, 1, 0⟩, ⟨17181967360, 17181967360, 1, 0⟩, ⟨17186226581, 17186257301, 2048, 0⟩, ⟨17181966338, 17181966338, 1, 0⟩, ⟨17181966495, 17181966495, 1, 0⟩, ⟨17186168832, 17186169247, 1, 0⟩, ⟨17211326720, 17211326720, 1, 0⟩, ⟨17211326465, 17211326465, 1, 0⟩] [.pwr, .flt, .evc, .thm] s (State.thmCapture s) := by
  unfold State.thmCapture
  refine Fr.iteh (fun _ => ?_) (fun _ => ?_)
  · unfold State.rejectCommit
    try dsimp -zeta only
    refine Fr.step State.fire_fr rfl rfl ?_
    refine Fr.wr (xs := [⟨17211326720, 17211326720, 1, 0⟩]) rfl rfl ?_
    refine Fr.wr (xs := [⟨17211326465, 17211326465, 1, 0⟩]) rfl rfl ?_
    first | assumption | exact Fr.refl _
  · refine Fr.set_thm rfl ?_
    first | assumption | exact Fr.refl _

theorem State.thmLive_fr {s} : Fr [⟨17211326465, 17211326465, 1, 0⟩] [.live, .thm] s (State.thmLive s) := by
  unfold State.thmLive
  split
  · first | assumption | exact Fr.refl _
  · refine Fr.wr (xs := [⟨17211326465, 17211326465, 1, 0⟩]) rfl rfl ?_
    refine Fr.step State.applySet_fr rfl rfl ?_
    refine Fr.set_thm rfl ?_
    first | assumption | exact Fr.refl _

theorem State.thmLed_fr {s} : Fr [⟨17181966336, 17181966336, 1, 0⟩, ⟨17181967360, 17181967360, 1, 0⟩, ⟨17186226581, 17186257301, 2048, 0⟩, ⟨17181966338, 17181966338, 1, 0⟩, ⟨17181966495, 17181966495, 1, 0⟩, ⟨17186168832, 17186169247, 1, 0⟩, ⟨17211326720, 17211326720, 1, 0⟩, ⟨17211326465, 17211326465, 1, 0⟩] [.thm, .pwr, .flt, .evc] s (State.thmLed s) := by
  unfold State.thmLed
  refine Fr.iteh (fun _ => ?_) (fun _ => ?_)
  · refine Fr.set_thm rfl ?_
    first | assumption | exact Fr.refl _
  · refine Fr.step State.thmCapture_fr rfl rfl ?_
    refine Fr.iteh (fun _ => ?_) (fun _ => ?_)
    · first | assumption | exact Fr.refl _
    · refine Fr.wr (xs := [⟨17211326465, 17211326465, 1, 0⟩]) rfl rfl ?_
      first | assumption | exact Fr.refl _

theorem State.thmBoundary_fr {s} : Fr [⟨17181966336, 17181966336, 1, 0⟩, ⟨17181967360, 17181967360, 1, 0⟩, ⟨17186226581, 17186257301, 2048, 0⟩, ⟨17181966338, 17181966338, 1, 0⟩, ⟨17181966495, 17181966495, 1, 0⟩, ⟨17186168832, 17186169247, 1, 0⟩, ⟨17211326720, 17211326720, 1, 0⟩, ⟨17211326465, 17211326465, 1, 0⟩] [.pwr, .flt, .evc, .thm, .pair, .lane, .live] s (State.thmBoundary s) := by
  unfold State.thmBoundary
  extract_lets -merge -underBinder +onlyGivenNames x0
  refine Fr.cut x0 ?_ (fun h0 => ?_)
  · unfold x0
    refine Fr.step State.thmCapture_fr rfl rfl ?_
    first | assumption | exact Fr.refl _
  try clear_value x0
  extract_lets -merge -underBinder +onlyGivenNames x1
  refine Fr.cut x1 ?_ (fun h1 => ?_)
  · unfold x1
    refine Fr.iteh (fun _ => ?_) (fun _ => ?_)
    · first | assumption | exact Fr.refl _
    · refine Fr.iteh (fun _ => ?_) (fun _ => ?_)
      · refine Fr.step State.mirrorCommit_fr rfl rfl ?_
        first | assumption | exact Fr.refl _
      · first | assumption | exact Fr.refl _
  try clear_value x1
  extract_lets -merge -underBinder +onlyGivenNames x2
  refine Fr.cut x2 ?_ (fun h2 => ?_)
  · unfold x2
    refine Fr.step State.thmLive_fr rfl rfl ?_
    first | assumption | exact Fr.refl _
  try clear_value x2
  refine Fr.iteh (fun _ => ?_) (fun _ => ?_)
  · refine Fr.step State.thmLed_fr rfl rfl ?_
    refine Fr.set_thm rfl ?_
    first | assumption | exact Fr.refl _
  · first | assumption | exact Fr.refl _

theorem execThmEnable_fr {a0} {a1} {s} : FrRes [⟨17211326464, 17211326495, 32, 31⟩, ⟨17211326593, 17211326593, 1, 0⟩, ⟨17181966336, 17181966336, 1, 0⟩, ⟨17181967360, 17181967360, 1, 0⟩, ⟨17186226581, 17186257301, 2048, 0⟩, ⟨17181966338, 17181966338, 1, 0⟩, ⟨17181966495, 17181966495, 1, 0⟩, ⟨17186168832, 17186169247, 1, 0⟩, ⟨17188261632, 17188261632, 1, 0⟩, ⟨17181967232, 17181967263, 1, 0⟩, ⟨17211326592, 17211326592, 1, 0⟩, ⟨17211359376, 17211408272, 256, 0⟩, ⟨17211359368, 17211408264, 256, 0⟩] [.flt, .evc, .pwr, .pair, .thm] s (execThmEnable a0 a1 s) := by
  unfold execThmEnable
  refine FrRes.next ?_
  refine busWrite_fr (x := ⟨17211326464, 17211326495, 32, 31⟩) (Keys.word_intro (by first | omega | (omega)) (by first | omega | (omega)) (by first | omega | (omega))) (fun u => State.werr_0x200F (by omega)) rfl rfl ?_ (fun t ht => ?_)
  · first | assumption | exact Fr.refl _
  · refine Fr.iteh (fun _ => ?_) (fun _ => ?_)
    · refine Fr.iteh (fun _ => ?_) (fun _ => ?_)
      · first | assumption | exact Fr.refl _
      · extract_lets -merge -underBinder +onlyGivenNames x0
        refine Fr.cut x0 ?_ (fun h0 => ?_)
        · unfold x0
          refine Fr.wr (xs := [⟨17211326592, 17211326592, 1, 0⟩]) rfl rfl ?_
          refine Fr.wr (xs := [⟨17211326464, 17211326464, 1, 0⟩]) rfl rfl ?_
          first | assumption | exact Fr.refl _
        try clear_value x0
        refine Fr.set_thm rfl ?_
        first | assumption | exact Fr.refl _
    · extract_lets -merge -underBinder +onlyGivenNames x1
      refine Fr.cut x1 ?_ (fun h1 => ?_)
      · unfold x1
        refine Fr.wr (xs := [⟨17211326592, 17211326592, 1, 0⟩]) rfl rfl ?_
        refine Fr.wr (xs := [⟨17211326464, 17211326464, 1, 0⟩]) rfl rfl ?_
        first | assumption | exact Fr.refl _
      try clear_value x1
      refine Fr.step State.showZlim_fr rfl rfl ?_
      refine Fr.forFin ?_ (fun i t ht => ?_)
      · first | assumption | exact Fr.refl _
      · refine Fr.wr (xs := [⟨17211359368, 17211408264, 256, 0⟩]) (Reg.THM_ZLIM_ZT_key (by first | omega | (simp only [List.mem_range] at *; omega))) rfl ?_
        first | assumption | exact Fr.refl _

theorem execThmCommit_fr {a0} {a1} {s} : FrRes [⟨17211326464, 17211326495, 32, 31⟩, ⟨17211326593, 17211326593, 1, 0⟩, ⟨17181966336, 17181966336, 1, 0⟩, ⟨17181967360, 17181967360, 1, 0⟩, ⟨17186226581, 17186257301, 2048, 0⟩, ⟨17181966338, 17181966338, 1, 0⟩, ⟨17181966495, 17181966495, 1, 0⟩, ⟨17186168832, 17186169247, 1, 0⟩, ⟨17188261632, 17188261632, 1, 0⟩, ⟨17181967232, 17181967263, 1, 0⟩] [.flt, .evc, .pwr, .pair] s (execThmCommit a0 a1 s) := by
  unfold execThmCommit
  refine FrRes.next ?_
  refine busWrite_fr (x := ⟨17211326464, 17211326495, 32, 31⟩) (Keys.word_intro (by first | omega | (omega)) (by first | omega | (omega)) (by first | omega | (omega))) (fun u => State.werr_0x200F (by omega)) rfl rfl ?_ (fun t ht => ?_)
  · first | assumption | exact Fr.refl _
  · refine Fr.iteh (fun _ => ?_) (fun _ => ?_)
    · refine Fr.wr (xs := [⟨17211326465, 17211326465, 1, 0⟩]) rfl rfl ?_
      first | assumption | exact Fr.refl _
    · first | assumption | exact Fr.refl _

theorem execThmModelStep_fr {a0} {s} : FrRes [⟨17181966336, 17181966336, 1, 0⟩, ⟨17181967360, 17181967360, 1, 0⟩, ⟨17186226581, 17186257301, 2048, 0⟩, ⟨17181966338, 17181966338, 1, 0⟩, ⟨17181966495, 17181966495, 1, 0⟩, ⟨17186168832, 17186169247, 1, 0⟩, ⟨17211326720, 17211326720, 1, 0⟩, ⟨17211326465, 17211326465, 1, 0⟩, ⟨17211359232, 17211408128, 256, 0⟩, ⟨17211359248, 17211408144, 256, 0⟩, ⟨17211326596, 17211326596, 1, 0⟩, ⟨17211359360, 17211408256, 256, 0⟩, ⟨17211359384, 17211408280, 256, 0⟩, ⟨17211359368, 17211408264, 256, 0⟩, ⟨17211326597, 17211326597, 1, 0⟩, ⟨17211359376, 17211408272, 256, 0⟩, ⟨17211326598, 17211326598, 1, 0⟩] [.pwr, .flt, .evc, .thm, .pair, .lane, .live, .free] s (execThmModelStep a0 s) := by
  unfold execThmModelStep
  refine FrRes.next ?_
  refine Fr.iteh (fun _ => ?_) (fun _ => ?_)
  · first | assumption | exact Fr.refl _
  · extract_lets -merge -underBinder +onlyGivenNames x0
    refine Fr.cut x0 ?_ (fun h0 => ?_)
    · unfold x0
      refine Fr.step State.thmBoundary_fr rfl rfl ?_
      first | assumption | exact Fr.refl _
    try clear_value x0
    extract_lets -merge -underBinder +onlyGivenNames x1
    refine Fr.cut x1 ?_ (fun h1 => ?_)
    · unfold x1
      refine Fr.step State.startZones_fr rfl rfl ?_
      refine Fr.forFin ?_ (fun i t ht => ?_)
      · first | assumption | exact Fr.refl _
      · refine Fr.step State.takeAin_fr rfl rfl ?_
        first | assumption | exact Fr.refl _
    try clear_value x1
    extract_lets -merge -underBinder +onlyGivenNames x2
    extract_lets -merge -underBinder +onlyGivenNames x3
    refine Fr.cut x3 ?_ (fun h3 => ?_)
    · unfold x3
      refine Fr.set_thm rfl ?_
      first | assumption | exact Fr.refl _
    try clear_value x3
    extract_lets -merge -underBinder +onlyGivenNames x4
    refine Fr.cut x4 ?_ (fun h4 => ?_)
    · unfold x4
      refine Fr.step State.zonePowers_fr rfl rfl ?_
      first | assumption | exact Fr.refl _
    try clear_value x4
    extract_lets -merge -underBinder +onlyGivenNames x5
    refine Fr.cut x5 ?_ (fun h5 => ?_)
    · unfold x5
      refine Fr.forFin ?_ (fun i t ht => ?_)
      · first | assumption | exact Fr.refl _
      · split
        · first | assumption | exact Fr.refl _
        · refine Fr.step State.checkTile_fr rfl rfl ?_
          first | assumption | exact Fr.refl _
    try clear_value x5
    extract_lets -merge -underBinder +onlyGivenNames x6
    refine Fr.cut x6 ?_ (fun h6 => ?_)
    · unfold x6
      refine Fr.step State.checkNtc_fr rfl rfl ?_
      first | assumption | exact Fr.refl _
    try clear_value x6
    extract_lets -merge -underBinder +onlyGivenNames x7
    try clear_value x7
    extract_lets -merge -underBinder +onlyGivenNames x8
    try clear_value (e8 : x8 = _)
    extract_lets -merge -underBinder +onlyGivenNames x9
    extract_lets -merge -underBinder +onlyGivenNames x10
    refine Fr.cut x10 ?_ (fun h10 => ?_)
    · unfold x10
      refine Fr.set_thm rfl ?_
      first | assumption | exact Fr.refl _
    try clear_value x10
    extract_lets -merge -underBinder +onlyGivenNames x11
    refine Fr.cut x11 ?_ (fun h11 => ?_)
    · unfold x11
      refine Fr.forFin ?_ (fun i t ht => ?_)
      · first | assumption | exact Fr.refl _
      · refine Fr.step State.setNodes_fr rfl rfl ?_
        first | assumption | exact Fr.refl _
    try clear_value x11
    extract_lets -merge -underBinder +onlyGivenNames x12
    refine Fr.cut x12 ?_ (fun h12 => ?_)
    · unfold x12
      refine Fr.forFin ?_ (fun i t ht => ?_)
      · first | assumption | exact Fr.refl _
      · refine Fr.step State.publishZone_fr rfl rfl ?_
        refine Fr.step State.forceZone_fr rfl rfl ?_
        first | assumption | exact Fr.refl _
    try clear_value x12
    refine Fr.step State.showSuspect_fr rfl rfl ?_
    refine Fr.step State.limitZones_fr rfl rfl ?_
    first | assumption | exact Fr.refl _

theorem execThmTick_fr {s} : FrRes [⟨17211326600, 17211326600, 1, 0⟩, ⟨17211359360, 17211408256, 256, 0⟩, ⟨17211359384, 17211408280, 256, 0⟩, ⟨17211359368, 17211408264, 256, 0⟩, ⟨17211326597, 17211326597, 1, 0⟩, ⟨17211359376, 17211408272, 256, 0⟩, ⟨17211326598, 17211326598, 1, 0⟩, ⟨17181966336, 17181966336, 1, 0⟩, ⟨17181967360, 17181967360, 1, 0⟩, ⟨17186226581, 17186257301, 2048, 0⟩, ⟨17181966338, 17181966338, 1, 0⟩, ⟨17181966495, 17181966495, 1, 0⟩, ⟨17186168832, 17186169247, 1, 0⟩] [.thm, .pwr, .flt, .evc] s (execThmTick s) := by
  unfold execThmTick
  refine FrRes.next ?_
  refine Fr.iteh (fun _ => ?_) (fun _ => ?_)
  · first | assumption | exact Fr.refl _
  · extract_lets -merge -underBinder +onlyGivenNames x0
    extract_lets -merge -underBinder +onlyGivenNames x1
    refine Fr.cut x1 ?_ (fun h1 => ?_)
    · unfold x1
      refine Fr.set_thm rfl ?_
      first | assumption | exact Fr.refl _
    try clear_value x1
    extract_lets -merge -underBinder +onlyGivenNames x2
    refine Fr.cut x2 ?_ (fun h2 => ?_)
    · unfold x2
      refine Fr.iteh (fun _ => ?_) (fun _ => ?_)
      · first | assumption | exact Fr.refl _
      · refine Fr.forFin ?_ (fun i t ht => ?_)
        · first | assumption | exact Fr.refl _
        · extract_lets -merge -underBinder +onlyGivenNames x3
          refine Fr.step State.setZone_fr rfl rfl ?_
          first | assumption | exact Fr.refl _
    try clear_value x2
    extract_lets -merge -underBinder +onlyGivenNames x4
    try clear_value (e4 : x4 = _)
    extract_lets -merge -underBinder +onlyGivenNames x5
    refine Fr.cut x5 ?_ (fun h5 => ?_)
    · unfold x5
      refine Fr.iteh (fun _ => ?_) (fun _ => ?_)
      · first | assumption | exact Fr.refl _
      · refine Fr.wr (xs := [⟨17211326600, 17211326600, 1, 0⟩]) rfl rfl ?_
        first | assumption | exact Fr.refl _
    try clear_value x5
    refine Fr.step State.limitZones_fr rfl rfl ?_
    first | assumption | exact Fr.refl _

theorem execThmSensorSuspect_fr {a0} {a1} {a2} {s} : FrRes [⟨17211326596, 17211326596, 1, 0⟩, ⟨17181966336, 17181966336, 1, 0⟩, ⟨17181967360, 17181967360, 1, 0⟩, ⟨17186226581, 17186257301, 2048, 0⟩, ⟨17181966338, 17181966338, 1, 0⟩, ⟨17181966495, 17181966495, 1, 0⟩, ⟨17186168832, 17186169247, 1, 0⟩, ⟨17211327488, 17211327495, 1, 0⟩, ⟨17211327616, 17211327903, 1, 0⟩] [.thm, .flt, .pwr, .evc] s (execThmSensorSuspect a0 a1 a2 s) := by
  unfold execThmSensorSuspect
  refine FrRes.next ?_
  refine Fr.iteh (fun _ => ?_) (fun _ => ?_)
  · refine Fr.iteh (fun _ => ?_) (fun _ => ?_)
    · first | assumption | exact Fr.refl _
    · extract_lets -merge -underBinder +onlyGivenNames x0
      extract_lets -merge -underBinder +onlyGivenNames x1
      refine Fr.cut x1 ?_ (fun h1 => ?_)
      · unfold x1
        refine Fr.set_thm rfl ?_
        first | assumption | exact Fr.refl _
      try clear_value x1
      refine Fr.step State.showSuspect_fr rfl rfl ?_
      refine Fr.step State.sensorFault_fr rfl rfl ?_
      refine Fr.wr (xs := [⟨17211327488, 17211327495, 1, 0⟩]) (Reg.THM_SUSPECT_AIN_key (by first | omega | (simp only [List.mem_range] at *; omega))) rfl ?_
      first | assumption | exact Fr.refl _
  · extract_lets -merge -underBinder +onlyGivenNames x2
    refine Fr.iteh (fun _ => ?_) (fun _ => ?_)
    · first | assumption | exact Fr.refl _
    · extract_lets -merge -underBinder +onlyGivenNames x3
      refine Fr.cut x3 ?_ (fun h3 => ?_)
      · unfold x3
        refine Fr.step State.setTile_fr rfl rfl ?_
        first | assumption | exact Fr.refl _
      try clear_value x3
      refine Fr.step State.showSuspect_fr rfl rfl ?_
      refine Fr.step State.sensorFault_fr rfl rfl ?_
      refine Fr.wr (xs := [⟨17211327616, 17211327903, 1, 0⟩]) (by unfold tsSuspect; exact (Reg.THM_TS_SUSPECT_key (by first | omega | (simp only [List.mem_range] at *; omega)))) rfl ?_
      first | assumption | exact Fr.refl _

theorem execThmModelDeviation_fr {a0} {s} : FrRes [⟨17181966336, 17181966336, 1, 0⟩, ⟨17181967360, 17181967360, 1, 0⟩, ⟨17186226581, 17186257301, 2048, 0⟩, ⟨17181966338, 17181966338, 1, 0⟩, ⟨17181966495, 17181966495, 1, 0⟩, ⟨17186168832, 17186169247, 1, 0⟩, ⟨17211327504, 17211327515, 1, 0⟩] [.thm, .flt, .pwr, .evc, .free] s (execThmModelDeviation a0 s) := by
  unfold execThmModelDeviation
  refine FrRes.next ?_
  extract_lets -merge -underBinder +onlyGivenNames x0
  refine Fr.iteh (fun _ => ?_) (fun _ => ?_)
  · first | assumption | exact Fr.refl _
  · extract_lets -merge -underBinder +onlyGivenNames x1
    refine Fr.cut x1 ?_ (fun h1 => ?_)
    · unfold x1
      refine Fr.step State.setTile_fr rfl rfl ?_
      first | assumption | exact Fr.refl _
    try clear_value x1
    extract_lets -merge -underBinder +onlyGivenNames x2
    refine Fr.cut x2 ?_ (fun h2 => ?_)
    · unfold x2
      refine Fr.step State.raise_fr rfl rfl ?_
      refine Fr.step State.fire_fr rfl rfl ?_
      refine Fr.wr (xs := [⟨17211327504, 17211327515, 1, 0⟩]) (Reg.THM_SUSPECT_MODEL_key (by first | omega | (simp only [List.mem_range] at *; omega))) rfl ?_
      first | assumption | exact Fr.refl _
    try clear_value x2
    refine Fr.iteh (fun _ => ?_) (fun _ => ?_)
    · first | assumption | exact Fr.refl _
    · refine Fr.forFin ?_ (fun i t ht => ?_)
      · first | assumption | exact Fr.refl _
      · refine Fr.iteh (fun _ => ?_) (fun _ => ?_)
        · refine Fr.step State.setNodes_fr rfl rfl ?_
          first | assumption | exact Fr.refl _
        · first | assumption | exact Fr.refl _

theorem execTileSensorTimeout_fr {a0} {s} : FrRes [⟨17211326596, 17211326596, 1, 0⟩, ⟨17181966336, 17181966336, 1, 0⟩, ⟨17181967360, 17181967360, 1, 0⟩, ⟨17186226581, 17186257301, 2048, 0⟩, ⟨17181966338, 17181966338, 1, 0⟩, ⟨17181966495, 17181966495, 1, 0⟩, ⟨17186168832, 17186169247, 1, 0⟩] [.thm, .flt, .pwr, .evc] s (execTileSensorTimeout a0 s) := by
  unfold execTileSensorTimeout
  refine FrRes.next ?_
  split
  · first | assumption | exact Fr.refl _
  · split
    · first | assumption | exact Fr.refl _
    · refine Fr.step State.thmSilent_fr rfl rfl ?_
      first | assumption | exact Fr.refl _

theorem execDieTempSample_fr {a0} {a1} {a2} {a3} {s} : FrRes [⟨17211326608, 17211326608, 1, 0⟩, ⟨17181966336, 17181966336, 1, 0⟩, ⟨17181967360, 17181967360, 1, 0⟩, ⟨17186226581, 17186257301, 2048, 0⟩, ⟨17181966338, 17181966338, 1, 0⟩, ⟨17181966495, 17181966495, 1, 0⟩, ⟨17186168832, 17186169247, 1, 0⟩, ⟨17211326594, 17211326594, 1, 0⟩, ⟨17211326595, 17211326595, 1, 0⟩] [.free, .flt, .pwr, .evc, .thm] s (execDieTempSample a0 a1 a2 a3 s) := by
  unfold execDieTempSample
  refine FrRes.iteh (fun _ => ?_) (fun _ => ?_)
  · refine FrRes.next ?_
    first | assumption | exact Fr.refl _
  · extract_lets -merge -underBinder +onlyGivenNames x0
    extract_lets -merge -underBinder +onlyGivenNames x1
    refine Fr.cutRes x1 ?_ (fun h1 => ?_)
    · unfold x1
      unfold State.wrTemp
      try dsimp -zeta only
      refine Fr.iteh (fun _ => ?_) (fun _ => ?_)
      · refine Fr.wr (xs := [⟨17211326608, 17211326608, 1, 0⟩]) rfl rfl ?_
        first | assumption | exact Fr.refl _
      · refine Fr.wr (xs := [⟨17211326608, 17211326608, 1, 0⟩]) rfl rfl ?_
        refine Fr.step State.fresh_fr rfl rfl ?_
        first | assumption | exact Fr.refl _
    try clear_value x1
    extract_lets -merge -underBinder +onlyGivenNames x2
    refine Fr.cutRes x2 ?_ (fun h2 => ?_)
    · unfold x2
      refine Fr.iteh (fun _ => ?_) (fun _ => ?_)
      · refine Fr.step State.raise_fr rfl rfl ?_
        refine Fr.step State.fire_fr rfl rfl ?_
        refine Fr.wr (xs := [⟨17211326594, 17211326594, 1, 0⟩]) rfl rfl ?_
        first | assumption | exact Fr.refl _
      · refine Fr.iteh (fun _ => ?_) (fun _ => ?_)
        · refine Fr.step State.fire_fr rfl rfl ?_
          refine Fr.wr (xs := [⟨17211326594, 17211326594, 1, 0⟩]) rfl rfl ?_
          first | assumption | exact Fr.refl _
        · first | assumption | exact Fr.refl _
    try clear_value x2
    extract_lets -merge -underBinder +onlyGivenNames x3
    refine Fr.cutRes x3 ?_ (fun h3 => ?_)
    · unfold x3
      refine Fr.iteh (fun _ => ?_) (fun _ => ?_)
      · refine Fr.step State.raise_fr rfl rfl ?_
        refine Fr.step State.fire_fr rfl rfl ?_
        refine Fr.wr (xs := [⟨17211326595, 17211326595, 1, 0⟩]) rfl rfl ?_
        first | assumption | exact Fr.refl _
      · first | assumption | exact Fr.refl _
    try clear_value x3
    refine FrRes.next ?_
    refine Fr.iteh (fun _ => ?_) (fun _ => ?_)
    · first | assumption | exact Fr.refl _
    · refine Fr.iteh (fun _ => ?_) (fun _ => ?_)
      · refine Fr.set_thm rfl ?_
        first | assumption | exact Fr.refl _
      · refine Fr.set_thm rfl ?_
        first | assumption | exact Fr.refl _

theorem State.thermalOff_fr {s} {a1} : Fr [⟨0, 137438953471, 1, 0⟩] [.part, .sa, .layer, .maskin, .ft, .tl, .lane, .hlth, .lsc, .thm, .cal, .time, .net, .safe, .flt, .evc, .peri, .cvu, .memc, .win, .pair, .pwr, .ident, .live, .mem, .free] s (State.thermalOff s a1) := by
  unfold State.thermalOff
  extract_lets -merge -underBinder +onlyGivenNames x0
  refine Fr.cut x0 ?_ (fun h0 => ?_)
  · unfold x0
    refine Fr.step State.allOff_fr rfl rfl ?_
    refine Fr.wr (xs := [⟨17188257923, 17188257923, 1, 0⟩]) rfl rfl ?_
    refine Fr.step State.lscRelease_fr rfl rfl ?_
    first | assumption | exact Fr.refl _
  try clear_value x0
  extract_lets -merge -underBinder +onlyGivenNames x1
  refine Fr.cut x1 ?_ (fun h1 => ?_)
  · unfold x1
    refine Fr.wr (xs := [⟨17184063492, 17184063492, 1, 0⟩]) rfl rfl ?_
    refine Fr.wr (xs := [⟨17184063488, 17184063488, 1, 0⟩]) rfl rfl ?_
    first | assumption | exact Fr.refl _
  try clear_value x1
  refine Fr.set_pwr rfl ?_
  first | assumption | exact Fr.refl _

theorem execThermalShutdown_fr {s} : FrRes [⟨0, 137438953471, 1, 0⟩] [.part, .sa, .layer, .maskin, .ft, .tl, .lane, .hlth, .lsc, .thm, .cal, .time, .net, .safe, .flt, .evc, .peri, .cvu, .memc, .win, .pair, .pwr, .ident, .live, .mem, .free] s (execThermalShutdown s) := by
  unfold execThermalShutdown
  refine FrRes.next ?_
  split
  · first | assumption | exact Fr.refl _
  · refine Fr.iteh (fun _ => ?_) (fun _ => ?_)
    · first | assumption | exact Fr.refl _
    · refine Fr.step State.thermalOff_fr rfl rfl ?_
      first | assumption | exact Fr.refl _

theorem execShutdownDeferLimit_fr {s} : FrRes [⟨17181966336, 17181966336, 1, 0⟩, ⟨17181967360, 17181967360, 1, 0⟩, ⟨17186226581, 17186257301, 2048, 0⟩, ⟨17181966338, 17181966338, 1, 0⟩, ⟨17181966495, 17181966495, 1, 0⟩, ⟨17186168832, 17186169247, 1, 0⟩, ⟨17213427848, 17213427848, 1, 0⟩, ⟨17213427842, 17213427842, 1, 0⟩, ⟨17213427737, 17213427737, 1, 0⟩, ⟨17213427840, 17213427840, 1, 0⟩] [.pwr, .flt, .evc, .cal, .thm] s (execShutdownDeferLimit s) := by
  unfold execShutdownDeferLimit
  refine FrRes.next ?_
  refine Fr.iteh (fun _ => ?_) (fun _ => ?_)
  · first | assumption | exact Fr.refl _
  · extract_lets -merge -underBinder +onlyGivenNames x0
    refine Fr.cut x0 ?_ (fun h0 => ?_)
    · unfold x0
      refine Fr.step State.nvAbandon_fr rfl rfl ?_
      first | assumption | exact Fr.refl _
    try clear_value x0
    refine Fr.set_thm rfl ?_
    first | assumption | exact Fr.refl _

theorem execTCritComparator_fr {s} : FrRes [⟨0, 137438953471, 1, 0⟩] [.part, .sa, .layer, .maskin, .ft, .tl, .lane, .hlth, .lsc, .thm, .cal, .time, .net, .safe, .flt, .evc, .peri, .cvu, .memc, .win, .pair, .pwr, .ident, .live, .mem, .free] s (execTCritComparator s) := by
  unfold execTCritComparator
  refine FrRes.next ?_
  refine Fr.step State.thermalOff_fr rfl rfl ?_
  refine Fr.step State.nvAbandon_fr rfl rfl ?_
  first | assumption | exact Fr.refl _

theorem execThermalRestart_fr {s} : FrRes [⟨0, 137438953471, 1, 0⟩] [.free, .part, .sa, .layer, .maskin, .ft, .tl, .lane, .hlth, .lsc, .thm, .cal, .time, .net, .safe, .flt, .evc, .peri, .cvu, .memc, .win, .pair, .pwr, .ident, .live, .mem] s (execThermalRestart s) := by
  unfold execThermalRestart
  refine FrRes.next ?_
  refine Fr.iteh (fun _ => ?_) (fun _ => ?_)
  · refine Fr.step State.coldBegin_fr rfl rfl ?_
    refine Fr.wr (xs := [⟨17211326468, 17211326468, 1, 0⟩]) rfl rfl ?_
    refine Fr.clearRegs rfl rfl ?_
    first | assumption | exact Fr.refl _
  · first | assumption | exact Fr.refl _

end Sys2Proof.Machine
end

