-- ==== Sys2Proof/Laws/PairFrame.lean ====
section
/-! SUPPORT. What each operation and command of Machine/Pair.lean changes at most: register blocks and zones of the state. -/

namespace Sys2Proof.Machine

theorem execPairEnable_fr {a0} {a1} {s} : FrRes [⟨17223909376, 17223909407, 32, 31⟩, ⟨17223909512, 17223909512, 1, 0⟩, ⟨17181966336, 17181966336, 1, 0⟩, ⟨17181967360, 17181967360, 1, 0⟩, ⟨17186226581, 17186257301, 2048, 0⟩, ⟨17181966338, 17181966338, 1, 0⟩, ⟨17181966495, 17181966495, 1, 0⟩, ⟨17186168832, 17186169247, 1, 0⟩, ⟨17188261632, 17188261632, 1, 0⟩, ⟨17181967232, 17181967263, 1, 0⟩, ⟨17205035139, 17205149827, 8192, 0⟩, ⟨17205035141, 17205149829, 8192, 0⟩, ⟨17205035140, 17205149828, 8192, 0⟩, ⟨17205035136, 17205149824, 8192, 0⟩, ⟨17223909504, 17223909504, 1, 0⟩, ⟨17223909507, 17223909507, 1, 0⟩, ⟨17223909513, 17223909513, 1, 0⟩, ⟨17223909506, 17223909506, 1, 0⟩, ⟨17223909508, 17223909508, 1, 0⟩] [.flt, .evc, .pwr, .pair] s (execPairEnable a0 a1 s) := by
  unfold execPairEnable
  refine FrRes.next ?_
  refine busWrite_fr (x := ⟨17223909376, 17223909407, 32, 31⟩) (Keys.word_intro (by first | omega | (omega)) (by first | omega | (omega)) (by first | omega | (omega))) (fun u => State.werr_0x2015 (by omega)) rfl rfl ?_ (fun t ht => ?_)
  · first | assumption | exact Fr.refl _
  · extract_lets -merge -underBinder +onlyGivenNames x0
    try clear_value x0
    refine Fr.iteh (fun _ => ?_) (fun _ => ?_)
    · refine Fr.iteh (fun _ => ?_) (fun _ => ?_)
      · first | assumption | exact Fr.refl _
      · extract_lets -merge -underBinder +onlyGivenNames x1
        refine Fr.cut x1 ?_ (fun h1 => ?_)
        · unfold x1
          refine Fr.wr (xs := [⟨17223909376, 17223909376, 1, 0⟩]) rfl rfl ?_
          first | assumption | exact Fr.refl _
        try clear_value x1
        extract_lets -merge -underBinder +onlyGivenNames x2
        refine Fr.cut x2 ?_ (fun h2 => ?_)
        · unfold x2
          refine Fr.set_pair rfl ?_
          first | assumption | exact Fr.refl _
        try clear_value x2
        refine Fr.step State.showLane_fr rfl rfl ?_
        refine Fr.step State.setPairState_fr rfl rfl ?_
        refine Fr.wr (xs := [⟨17223909513, 17223909513, 1, 0⟩]) rfl rfl ?_
        refine Fr.wr (xs := [⟨17223909506, 17223909506, 1, 0⟩]) rfl rfl ?_
        first | assumption | exact Fr.refl _
    · refine Fr.iteh (fun _ => ?_) (fun _ => ?_)
      · first | assumption | exact Fr.refl _
      · extract_lets -merge -underBinder +onlyGivenNames x3
        refine Fr.cut x3 ?_ (fun h3 => ?_)
        · unfold x3
          refine Fr.wr (xs := [⟨17223909376, 17223909376, 1, 0⟩]) rfl rfl ?_
          first | assumption | exact Fr.refl _
        try clear_value x3
        extract_lets -merge -underBinder +onlyGivenNames x4
        refine Fr.cut x4 ?_ (fun h4 => ?_)
        · unfold x4
          refine Fr.set_pair rfl ?_
          first | assumption | exact Fr.refl _
        try clear_value x4
        refine Fr.step State.showLane_fr rfl rfl ?_
        refine Fr.step State.setPairState_fr rfl rfl ?_
        refine Fr.step State.setInSync_fr rfl rfl ?_
        refine Fr.wr (xs := [⟨17223909506, 17223909506, 1, 0⟩]) rfl rfl ?_
        first | assumption | exact Fr.refl _

theorem execPairHelloSend_fr {s} : FrRes [] [.pair, .lane] s (execPairHelloSend s) := by
  unfold execPairHelloSend
  refine FrRes.next ?_
  refine Fr.iteh (fun _ => ?_) (fun _ => ?_)
  · refine Fr.step State.pairHello_fr rfl rfl ?_
    first | assumption | exact Fr.refl _
  · first | assumption | exact Fr.refl _

theorem State.decideRole_fr {s} : Fr ([⟨17223909506, 17223909506, 1, 0⟩, ⟨17223909507, 17223909507, 1, 0⟩, ⟨17181966336, 17181966336, 1, 0⟩, ⟨17181967360, 17181967360, 1, 0⟩, ⟨17186226581, 17186257301, 2048, 0⟩, ⟨17181966338, 17181966338, 1, 0⟩, ⟨17181966495, 17181966495, 1, 0⟩, ⟨17186168832, 17186169247, 1, 0⟩, ⟨17223909510, 17223909510, 1, 0⟩, ⟨17202938368, 17204380160, 131072, 0⟩, ⟨17207132304, 17207132304, 1, 0⟩, ⟨17207132296, 17207132296, 1, 0⟩, ⟨17207134239, 17207134239, 1, 0⟩, ⟨17207134367, 17207134367, 1, 0⟩, ⟨17207134358, 17207134358, 1, 0⟩, ⟨17207134354, 17207134354, 1, 0⟩, ⟨17207134345, 17207134345, 1, 0⟩, ⟨17207134336, 17207134336, 1, 0⟩, ⟨17207134472, 17207134472, 1, 0⟩, ⟨17207134464, 17207134464, 1, 0⟩, ⟨17207134361, 17207134361, 1, 0⟩, ⟨17209229312, 17209229312, 1, 0⟩, ⟨17209229440, 17209229440, 1, 0⟩, ⟨17211359376, 17211408272, 256, 0⟩, ⟨17209229443, 17209229443, 1, 0⟩, ⟨17209229442, 17209229442, 1, 0⟩, ⟨17209231360, 17209231360, 1, 0⟩, ⟨17209231504, 17209231504, 1, 0⟩, ⟨17209231488, 17209231488, 1, 0⟩, ⟨17209231376, 17209231376, 1, 0⟩] ++ [⟨17209245696, 17209251736, 8, 0⟩]) [.pair, .pwr, .flt, .evc, .lane, .tl, .hlth, .lsc, .free, .cal] s (State.decideRole s) := by
  unfold State.decideRole
  refine Fr.iteh (fun _ => ?_) (fun _ => ?_)
  · first | assumption | exact Fr.refl _
  · extract_lets -merge -underBinder +onlyGivenNames x0
    try clear_value x0
    extract_lets -merge -underBinder +onlyGivenNames x1
    extract_lets -merge -underBinder +onlyGivenNames x2
    refine Fr.cut x2 ?_ (fun h2 => ?_)
    · unfold x2
      refine Fr.wrB (xs := [⟨17223909506, 17223909506, 1, 0⟩]) rfl rfl ?_
      refine Fr.set_pair rfl ?_
      first | assumption | exact Fr.refl _
    try clear_value x2
    refine Fr.step State.showArmed_fr rfl rfl ?_
    refine Fr.iteh (fun _ => ?_) (fun _ => ?_)
    · refine Fr.step State.pairClaim_fr rfl rfl ?_
      first | assumption | exact Fr.refl _
    · refine Fr.step State.hlthFollow_fr rfl rfl ?_
      refine Fr.step State.lscRelease_fr rfl rfl ?_
      first | assumption | exact Fr.refl _

theorem execRoleDecision_fr {s} : FrRes ([⟨17223909506, 17223909506, 1, 0⟩, ⟨17223909507, 17223909507, 1, 0⟩, ⟨17181966336, 17181966336, 1, 0⟩, ⟨17181967360, 17181967360, 1, 0⟩, ⟨17186226581, 17186257301, 2048, 0⟩, ⟨17181966338, 17181966338, 1, 0⟩, ⟨17181966495, 17181966495, 1, 0⟩, ⟨17186168832, 17186169247, 1, 0⟩, ⟨17223909510, 17223909510, 1, 0⟩, ⟨17202938368, 17204380160, 131072, 0⟩, ⟨17207132304, 17207132304, 1, 0⟩, ⟨17207132296, 17207132296, 1, 0⟩, ⟨17207134239, 17207134239, 1, 0⟩, ⟨17207134367, 17207134367, 1, 0⟩, ⟨17207134358, 17207134358, 1, 0⟩, ⟨17207134354, 17207134354, 1, 0⟩, ⟨17207134345, 17207134345, 1, 0⟩, ⟨17207134336, 17207134336, 1, 0⟩, ⟨17207134472, 17207134472, 1, 0⟩, ⟨17207134464, 17207134464, 1, 0⟩, ⟨17207134361, 17207134361, 1, 0⟩, ⟨17209229312, 17209229312, 1, 0⟩, ⟨17209229440, 17209229440, 1, 0⟩, ⟨17211359376, 17211408272, 256, 0⟩, ⟨17209229443, 17209229443, 1, 0⟩, ⟨17209229442, 17209229442, 1, 0⟩, ⟨17209231360, 17209231360, 1, 0⟩, ⟨17209231504, 17209231504, 1, 0⟩, ⟨17209231488, 17209231488, 1, 0⟩, ⟨17209231376, 17209231376, 1, 0⟩] ++ [⟨17209245696, 17209251736, 8, 0⟩]) [.pair, .pwr, .flt, .evc, .lane, .tl, .hlth, .lsc, .free, .cal] s (execRoleDecision s) := by
  unfold execRoleDecision
  refine FrRes.next ?_
  refine Fr.step State.decideRole_fr rfl rfl ?_
  first | assumption | exact Fr.refl _

theorem execPairHelloRx_fr {a0} {s} : FrRes ([⟨17223909507, 17223909507, 1, 0⟩, ⟨17181966336, 17181966336, 1, 0⟩, ⟨17181967360, 17181967360, 1, 0⟩, ⟨17186226581, 17186257301, 2048, 0⟩, ⟨17181966338, 17181966338, 1, 0⟩, ⟨17181966495, 17181966495, 1, 0⟩, ⟨17186168832, 17186169247, 1, 0⟩, ⟨17223909506, 17223909506, 1, 0⟩, ⟨17223909510, 17223909510, 1, 0⟩, ⟨17202938368, 17204380160, 131072, 0⟩, ⟨17207132304, 17207132304, 1, 0⟩, ⟨17207132296, 17207132296, 1, 0⟩, ⟨17207134239, 17207134239, 1, 0⟩, ⟨17207134367, 17207134367, 1, 0⟩, ⟨17207134358, 17207134358, 1, 0⟩, ⟨17207134354, 17207134354, 1, 0⟩, ⟨17207134345, 17207134345, 1, 0⟩, ⟨17207134336, 17207134336, 1, 0⟩, ⟨17207134472, 17207134472, 1, 0⟩, ⟨17207134464, 17207134464, 1, 0⟩, ⟨17207134361, 17207134361, 1, 0⟩, ⟨17209229312, 17209229312, 1, 0⟩, ⟨17209229440, 17209229440, 1, 0⟩, ⟨17211359376, 17211408272, 256, 0⟩, ⟨17209229443, 17209229443, 1, 0⟩, ⟨17209229442, 17209229442, 1, 0⟩, ⟨17209231360, 17209231360, 1, 0⟩, ⟨17209231504, 17209231504, 1, 0⟩, ⟨17209231488, 17209231488, 1, 0⟩, ⟨17209231376, 17209231376, 1, 0⟩] ++ [⟨17209245696, 17209251736, 8, 0⟩, ⟨17223909504, 17223909504, 1, 0⟩, ⟨17223909513, 17223909513, 1, 0⟩]) [.pair, .lane, .pwr, .flt, .evc, .tl, .hlth, .lsc, .free, .cal] s (execPairHelloRx a0 s) := by
  unfold execPairHelloRx
  refine FrRes.next ?_
  split
  · first | assumption | exact Fr.refl _
  · refine Fr.iteh (fun _ => ?_) (fun _ => ?_)
    · first | assumption | exact Fr.refl _
    · extract_lets -merge -underBinder +onlyGivenNames x0
      try clear_value x0
      extract_lets -merge -underBinder +onlyGivenNames x1
      extract_lets -merge -underBinder +onlyGivenNames x2
      refine Fr.cut x2 ?_ (fun h2 => ?_)
      · unfold x2
        refine Fr.step State.pairLive_fr rfl rfl ?_
        refine Fr.set_pair rfl ?_
        first | assumption | exact Fr.refl _
      try clear_value x2
      extract_lets -merge -underBinder +onlyGivenNames x3
      refine Fr.cut x3 ?_ (fun h3 => ?_)
      · unfold x3
        refine Fr.iteh (fun _ => ?_) (fun _ => ?_)
        · refine Fr.step State.pairHello_fr rfl rfl ?_
          first | assumption | exact Fr.refl _
        · first | assumption | exact Fr.refl _
      try clear_value x3
      extract_lets -merge -underBinder +onlyGivenNames x4
      refine Fr.cut x4 ?_ (fun h4 => ?_)
      · unfold x4
        refine Fr.iteh (fun _ => ?_) (fun _ => ?_)
        · refine Fr.step State.fire_fr rfl rfl ?_
          first | assumption | exact Fr.refl _
        · first | assumption | exact Fr.refl _
      try clear_value x4
      refine Fr.iteh (fun _ => ?_) (fun _ => ?_)
      · first | assumption | exact Fr.refl _
      · extract_lets -merge -underBinder +onlyGivenNames x5
        try clear_value (e5 : x5 = _)
        refine Fr.iteh (fun _ => ?_) (fun _ => ?_)
        · refine Fr.step State.decideRole_fr rfl rfl ?_
          refine Fr.step State.setPairState_fr rfl rfl ?_
          first | assumption | exact Fr.refl _
        · refine Fr.step State.decideRole_fr rfl rfl ?_
          refine Fr.step State.raise_fr rfl rfl ?_
          refine Fr.step State.setPairState_fr rfl rfl ?_
          refine Fr.wr (xs := [⟨17223909513, 17223909513, 1, 0⟩]) rfl rfl ?_
          first | assumption | exact Fr.refl _

theorem execPairProbe_fr {a0} {s} : FrRes [] [.pair, .lane] s (execPairProbe a0 s) := by
  unfold execPairProbe
  refine FrRes.next ?_
  refine Fr.iteh (fun _ => ?_) (fun _ => ?_)
  · first | assumption | exact Fr.refl _
  · extract_lets -merge -underBinder +onlyGivenNames x0
    refine Fr.cut x0 ?_ (fun h0 => ?_)
    · unfold x0
      refine Fr.foldl' ?_ (fun t x hx ht => ?_)
      · refine Fr.step State.pairFlush_fr rfl rfl ?_
        first | assumption | exact Fr.refl _
      · refine Fr.step State.pairPut_fr rfl rfl ?_
        first | assumption | exact Fr.refl _
    try clear_value x0
    refine Fr.set_pair rfl ?_
    first | assumption | exact Fr.refl _

theorem execBeatRx_fr {a0} {s} : FrRes ([⟨17223909507, 17223909507, 1, 0⟩, ⟨17223910016, 17223910016, 1, 0⟩, ⟨17223910144, 17223910144, 1, 0⟩, ⟨17181966336, 17181966336, 1, 0⟩, ⟨17181967360, 17181967360, 1, 0⟩, ⟨17186226581, 17186257301, 2048, 0⟩, ⟨17181966338, 17181966338, 1, 0⟩, ⟨17181966495, 17181966495, 1, 0⟩, ⟨17186168832, 17186169247, 1, 0⟩, ⟨17223909510, 17223909510, 1, 0⟩, ⟨17202938368, 17204380160, 131072, 0⟩, ⟨17223909506, 17223909506, 1, 0⟩, ⟨17207132304, 17207132304, 1, 0⟩, ⟨17207132296, 17207132296, 1, 0⟩, ⟨17207134239, 17207134239, 1, 0⟩, ⟨17207134367, 17207134367, 1, 0⟩, ⟨17207134358, 17207134358, 1, 0⟩, ⟨17207134354, 17207134354, 1, 0⟩, ⟨17207134345, 17207134345, 1, 0⟩, ⟨17207134336, 17207134336, 1, 0⟩, ⟨17207134472, 17207134472, 1, 0⟩, ⟨17207134464, 17207134464, 1, 0⟩, ⟨17207134361, 17207134361, 1, 0⟩, ⟨17223909508, 17223909508, 1, 0⟩, ⟨17209229312, 17209229312, 1, 0⟩, ⟨17209229440, 17209229440, 1, 0⟩, ⟨17211359376, 17211408272, 256, 0⟩, ⟨17209229443, 17209229443, 1, 0⟩, ⟨17209229442, 17209229442, 1, 0⟩, ⟨17209231360, 17209231360, 1, 0⟩] ++ [⟨17209231504, 17209231504, 1, 0⟩, ⟨17209231488, 17209231488, 1, 0⟩, ⟨17209231376, 17209231376, 1, 0⟩, ⟨17209245696, 17209251736, 8, 0⟩]) [.pair, .pwr, .flt, .evc, .lane, .tl, .hlth, .lsc, .free, .cal] s (execBeatRx a0 s) := by
  unfold execBeatRx
  refine FrRes.next ?_
  split
  · first | assumption | exact Fr.refl _
  · refine Fr.iteh (fun _ => ?_) (fun _ => ?_)
    · first | assumption | exact Fr.refl _
    · extract_lets -merge -underBinder +onlyGivenNames x0
      try clear_value (e0 : x0 = _)
      extract_lets -merge -underBinder +onlyGivenNames x1
      refine Fr.cut x1 ?_ (fun h1 => ?_)
      · unfold x1
        refine Fr.step State.pairLive_fr rfl rfl ?_
        refine Fr.wr (xs := [⟨17223910016, 17223910016, 1, 0⟩]) rfl rfl ?_
        first | assumption | exact Fr.refl _
      try clear_value x1
      refine Fr.iteh (fun _ => ?_) (fun _ => ?_)
      · extract_lets -merge -underBinder +onlyGivenNames x2
        extract_lets -merge -underBinder +onlyGivenNames x3
        refine Fr.cut x3 ?_ (fun h3 => ?_)
        · unfold x3
          refine Fr.iteh (fun _ => ?_) (fun _ => ?_)
          · refine Fr.step State.showOffset_fr rfl rfl ?_
            refine Fr.set_pair rfl ?_
            first | assumption | exact Fr.refl _
          · first | assumption | exact Fr.refl _
        try clear_value x3
        refine Fr.iteh (fun _ => ?_) (fun _ => ?_)
        · refine Fr.step State.pairTakeover_fr rfl rfl ?_
          first | assumption | exact Fr.refl _
        · first | assumption | exact Fr.refl _
      · refine Fr.iteh (fun _ => ?_) (fun _ => ?_)
        · refine Fr.step State.pairDemote_fr rfl rfl ?_
          first | assumption | exact Fr.refl _
        · first | assumption | exact Fr.refl _

theorem execPairCrcRx_fr {a0} {s} : FrRes [⟨17223909507, 17223909507, 1, 0⟩, ⟨17223909508, 17223909508, 1, 0⟩, ⟨17181966336, 17181966336, 1, 0⟩, ⟨17181967360, 17181967360, 1, 0⟩, ⟨17186226581, 17186257301, 2048, 0⟩, ⟨17181966338, 17181966338, 1, 0⟩, ⟨17181966495, 17181966495, 1, 0⟩, ⟨17186168832, 17186169247, 1, 0⟩, ⟨17223909509, 17223909509, 1, 0⟩, ⟨17223910272, 17223910283, 1, 0⟩, ⟨17223910400, 17223910400, 1, 0⟩] [.pair, .pwr, .flt, .evc] s (execPairCrcRx a0 s) := by
  unfold execPairCrcRx
  refine FrRes.next ?_
  split
  · first | assumption | exact Fr.refl _
  · refine Fr.iteh (fun _ => ?_) (fun _ => ?_)
    · first | assumption | exact Fr.refl _
    · extract_lets -merge -underBinder +onlyGivenNames x0
      extract_lets -merge -underBinder +onlyGivenNames x1
      refine Fr.cut x1 ?_ (fun h1 => ?_)
      · unfold x1
        refine Fr.step State.pairLive_fr rfl rfl ?_
        first | assumption | exact Fr.refl _
      try clear_value x1
      split
      · refine Fr.step State.comparePair_fr rfl rfl ?_
        first | assumption | exact Fr.refl _
      · refine Fr.set_pair rfl ?_
        first | assumption | exact Fr.refl _

/-- Every command of a list stays within the frame of any command. -/
def AllFr (l : List (State → Res)) : Prop :=
  ∀ c ∈ l, ∀ s, FrRes [⟨0, 137438953471, 1, 0⟩] [.part, .sa, .layer, .maskin, .ft, .tl, .lane, .hlth, .lsc, .thm, .cal, .time, .net, .safe, .flt, .evc, .peri, .cvu, .memc, .win, .pair, .pwr, .ident, .live, .mem, .free] s (c s)
theorem AllFr.nil : AllFr [] := fun _ hc => absurd hc List.not_mem_nil
theorem AllFr.cons {b z} {f : State → Res} {l : List (State → Res)} (hf : ∀ s, FrRes b z s (f s))
    (hb : subN b [⟨0, 137438953471, 1, 0⟩] = true) (hz : subZ z [.part, .sa, .layer, .maskin, .ft, .tl, .lane, .hlth, .lsc, .thm, .cal, .time, .net, .safe, .flt, .evc, .peri, .cvu, .memc, .win, .pair, .pwr, .ident, .live, .mem, .free] = true) (hl : AllFr l) : AllFr (f :: l) := by
  intro c hc s
  rcases List.mem_cons.1 hc with rfl | hc
  · exact FrRes.mono (hf s) hb hz
  · exact hl c hc s
theorem AllFr.ite {p : Prop} [Decidable p] {l r : List (State → Res)} (hl : AllFr l) (hr : AllFr r) : AllFr (if p then l else r) := by
  split
  · exact hl
  · exact hr

theorem mirrorRows_fr {addr : Nat} {v : Word} : AllFr (mirrorRows addr v) := by
  unfold mirrorRows
  refine AllFr.ite (AllFr.cons (fun _ => execSaEnable_fr) rfl rfl (AllFr.cons (fun _ => execSaCommit_fr) rfl rfl (AllFr.nil))) ?_
  refine AllFr.ite (AllFr.cons (fun _ => execSaLoadStart_fr) rfl rfl (AllFr.cons (fun _ => execSaLoadAbort_fr) rfl rfl (AllFr.nil))) ?_
  refine AllFr.ite (AllFr.cons (fun _ => execSaDiagStart_fr) rfl rfl (AllFr.nil)) ?_
  refine AllFr.ite (AllFr.cons (fun _ => execSaFenceSet_fr) rfl rfl (AllFr.nil)) ?_
  refine AllFr.ite (AllFr.cons (fun _ => execLayerEnable_fr) rfl rfl (AllFr.cons (fun _ => execLayerCommit_fr) rfl rfl (AllFr.nil))) ?_
  refine AllFr.ite (AllFr.cons (fun _ => execFtEnable_fr) rfl rfl (AllFr.cons (fun _ => execFtDisable_fr) rfl rfl (AllFr.cons (fun _ => execFtCommit_fr) rfl rfl (AllFr.nil)))) ?_
  refine AllFr.ite (AllFr.cons (fun _ => execHlthEnable_fr) rfl rfl (AllFr.cons (fun _ => execHlthCommit_fr) rfl rfl (AllFr.cons (fun _ => execHlthCapture_fr) rfl rfl (AllFr.nil)))) ?_
  refine AllFr.ite (AllFr.cons (fun _ => execHlthForce_fr) rfl rfl (AllFr.nil)) ?_
  refine AllFr.ite (AllFr.cons (fun _ => execHlthRptPop_fr) rfl rfl (AllFr.nil)) ?_
  refine AllFr.ite (AllFr.cons (fun _ => execLscEnable_fr) rfl rfl (AllFr.cons (fun _ => execLscCommit_fr) rfl rfl (AllFr.nil))) ?_
  refine AllFr.ite (AllFr.cons (fun _ => execThmEnable_fr) rfl rfl (AllFr.cons (fun _ => execThmCommit_fr) rfl rfl (AllFr.nil))) ?_
  refine AllFr.ite (AllFr.cons (fun _ => execMaskinEnable_fr) rfl rfl (AllFr.nil)) ?_
  refine AllFr.ite (AllFr.cons (fun _ => execI2cGo_fr) rfl rfl (AllFr.nil)) ?_
  refine AllFr.ite (AllFr.cons (fun _ => execI2cDataAccess_fr) rfl rfl (AllFr.nil)) ?_
  exact AllFr.nil

theorem resOr_fr {b z bs zs} {s t : State} {r : Res} (hr : FrRes b z t r) (hb : subN b bs = true) (hz : subZ z zs = true) (h : Fr bs zs s t) :
    Fr bs zs s (resOr r t) := by
  obtain ⟨u, rfl, hu⟩ := hr
  exact Fr.step hu hb hz h

theorem State.takeEntry_fr {s addr v} : Fr [⟨0, 137438953471, 1, 0⟩] [.part, .sa, .layer, .maskin, .ft, .tl, .lane, .hlth, .lsc, .thm, .cal, .time, .net, .safe, .flt, .evc, .peri, .cvu, .memc, .win, .pair, .pwr, .ident, .live, .mem, .free] s (State.takeEntry s addr v) := by
  unfold State.takeEntry
  refine Fr.ite (Fr.refl s) (Fr.foldl' ?_ (fun t c hc ht => ?_))
  · exact resOr_fr (execRegisterWrite_fr) rfl rfl (Fr.refl s)
  · exact resOr_fr (mirrorRows_fr c hc t) rfl rfl ht

theorem execRegMirrorRx_fr {a0} {s} : FrRes [⟨0, 137438953471, 1, 0⟩] [.pair, .part, .sa, .layer, .maskin, .ft, .tl, .lane, .hlth, .lsc, .thm, .cal, .time, .net, .safe, .flt, .evc, .peri, .cvu, .memc, .win, .pwr, .ident, .live, .mem, .free] s (execRegMirrorRx a0 s) := by
  unfold execRegMirrorRx
  refine FrRes.next ?_
  unfold State.fromLead
  try dsimp -zeta only
  split
  · first | assumption | exact Fr.refl _
  · refine Fr.iteh (fun _ => ?_) (fun _ => ?_)
    · first | assumption | exact Fr.refl _
    · refine Fr.iteh (fun _ => ?_) (fun _ => ?_)
      · refine Fr.foldl' ?_ (fun t x hx ht => ?_)
        · refine Fr.step State.pairLive_fr rfl rfl ?_
          first | assumption | exact Fr.refl _
        · refine Fr.step State.takeEntry_fr rfl rfl ?_
          first | assumption | exact Fr.refl _
      · refine Fr.step State.pairLive_fr rfl rfl ?_
        first | assumption | exact Fr.refl _

theorem execCommitMirrorRx_fr {a0} {s} : FrRes ([⟨17181966336, 17181966336, 1, 0⟩, ⟨17181967360, 17181967360, 1, 0⟩, ⟨17186226581, 17186257301, 2048, 0⟩, ⟨17181966338, 17181966338, 1, 0⟩, ⟨17181966495, 17181966495, 1, 0⟩, ⟨17186168832, 17186169247, 1, 0⟩, ⟨17211326720, 17211326720, 1, 0⟩, ⟨17211326465, 17211326465, 1, 0⟩, ⟨17223909507, 17223909507, 1, 0⟩, ⟨17198743816, 17198743816, 1, 0⟩, ⟨17198743808, 17198743808, 1, 0⟩, ⟨17198743553, 17198743553, 1, 0⟩, ⟨17198753156, 17198767492, 2048, 0⟩, ⟨17198743688, 17198743695, 1, 0⟩, ⟨17196646656, 17196646656, 1, 0⟩, ⟨17196646401, 17196646401, 1, 0⟩, ⟨17196647812, 17196647812, 1, 0⟩, ⟨17196647808, 17196647808, 1, 0⟩, ⟨17196646544, 17196646544, 1, 0⟩, ⟨17196646536, 17196646536, 1, 0⟩, ⟨17198753168, 17198767504, 2048, 0⟩, ⟨17198753152, 17198767488, 2048, 0⟩, ⟨17196646533, 17196646533, 1, 0⟩, ⟨17196646529, 17196646529, 1, 0⟩, ⟨17198753155, 17198767491, 2048, 0⟩, ⟨17198753154, 17198767490, 2048, 0⟩, ⟨17198753280, 17198767616, 2048, 0⟩, ⟨17205035139, 17205149827, 8192, 0⟩, ⟨17205035141, 17205149829, 8192, 0⟩, ⟨17205035140, 17205149828, 8192, 0⟩] ++ [⟨17205035136, 17205149824, 8192, 0⟩, ⟨17202937984, 17204379776, 131072, 0⟩, ⟨17211359376, 17211408272, 256, 0⟩, ⟨17207138304, 17207138975, 1, 0⟩, ⟨17207136256, 17207137664, 128, 0⟩, ⟨17188261632, 17188261632, 1, 0⟩, ⟨17181967232, 17181967263, 1, 0⟩, ⟨17200840960, 17200840960, 1, 0⟩, ⟨17200840705, 17200840705, 1, 0⟩, ⟨17207132416, 17207132416, 1, 0⟩, ⟨17207132161, 17207132161, 1, 0⟩, ⟨17209229568, 17209229568, 1, 0⟩, ⟨17209229313, 17209229313, 1, 0⟩]) [.thm, .pwr, .flt, .evc, .pair, .layer, .sa, .tl, .free, .hlth, .cal, .ft, .lsc] s (execCommitMirrorRx a0 s) := by
  unfold execCommitMirrorRx
  refine FrRes.next ?_
  unfold State.fromLead
  try dsimp -zeta only
  split
  · first | assumption | exact Fr.refl _
  · refine Fr.iteh (fun _ => ?_) (fun _ => ?_)
    · first | assumption | exact Fr.refl _
    · refine Fr.iteh (fun _ => ?_) (fun _ => ?_)
      · extract_lets -merge -underBinder +onlyGivenNames x0
        try clear_value (e0 : x0 = _)
        extract_lets -merge -underBinder +onlyGivenNames x1
        try clear_value (e1 : x1 = _)
        refine Fr.foldl' ?_ (fun t x hx ht => ?_)
        · refine Fr.iteh (fun _ => ?_) (fun _ => ?_)
          · refine Fr.step State.thmLed_fr rfl rfl ?_
            refine Fr.step State.pairLive_fr rfl rfl ?_
            first | assumption | exact Fr.refl _
          · refine Fr.step State.pairLive_fr rfl rfl ?_
            first | assumption | exact Fr.refl _
        · refine Fr.iteh (fun _ => ?_) (fun _ => ?_)
          · first | assumption | exact Fr.refl _
          · refine Fr.iteh (fun _ => ?_) (fun _ => ?_)
            · refine Fr.step State.captureLed_fr rfl rfl ?_
              first | assumption | exact Fr.refl _
            · refine Fr.iteh (fun _ => ?_) (fun _ => ?_)
              · refine Fr.step State.captureLed_fr rfl rfl ?_
                first | assumption | exact Fr.refl _
              · refine Fr.set_pair rfl ?_
                first | assumption | exact Fr.refl _
      · refine Fr.step State.pairLive_fr rfl rfl ?_
        first | assumption | exact Fr.refl _

theorem execPairThermRx_fr {a0} {s} : FrRes [⟨17223909507, 17223909507, 1, 0⟩] [.thm, .pair, .free, .sa] s (execPairThermRx a0 s) := by
  unfold execPairThermRx
  refine FrRes.next ?_
  unfold State.fromLead
  try dsimp -zeta only
  split
  · first | assumption | exact Fr.refl _
  · refine Fr.iteh (fun _ => ?_) (fun _ => ?_)
    · first | assumption | exact Fr.refl _
    · refine Fr.iteh (fun _ => ?_) (fun _ => ?_)
      · extract_lets -merge -underBinder +onlyGivenNames x0
        try clear_value (e0 : x0 = _)
        extract_lets -merge -underBinder +onlyGivenNames x1
        extract_lets -merge -underBinder +onlyGivenNames x2
        extract_lets -merge -underBinder +onlyGivenNames x3
        refine Fr.cut x3 ?_ (fun h3 => ?_)
        · unfold x3
          refine Fr.set_thm_pair rfl ?_
          refine Fr.step State.pairLive_fr rfl rfl ?_
          first | assumption | exact Fr.refl _
        try clear_value x3
        refine Fr.iteh (fun _ => ?_) (fun _ => ?_)
        · extract_lets -merge -underBinder +onlyGivenNames x4
          refine Fr.cut x4 ?_ (fun h4 => ?_)
          · unfold x4
            refine Fr.step State.loadFactors_fr rfl rfl ?_
            first | assumption | exact Fr.refl _
          try clear_value x4
          refine Fr.set_pair rfl ?_
          first | assumption | exact Fr.refl _
        · first | assumption | exact Fr.refl _
      · refine Fr.step State.pairLive_fr rfl rfl ?_
        first | assumption | exact Fr.refl _

theorem execPairZlimRx_fr {a0} {s} : FrRes [⟨17211359376, 17211408272, 256, 0⟩, ⟨17223909507, 17223909507, 1, 0⟩] [.thm, .pair] s (execPairZlimRx a0 s) := by
  unfold execPairZlimRx
  refine FrRes.next ?_
  unfold State.fromLead
  try dsimp -zeta only
  split
  · first | assumption | exact Fr.refl _
  · refine Fr.iteh (fun _ => ?_) (fun _ => ?_)
    · first | assumption | exact Fr.refl _
    · refine Fr.iteh (fun _ => ?_) (fun _ => ?_)
      · extract_lets -merge -underBinder +onlyGivenNames x0
        try clear_value x0
        refine Fr.step State.showZlim_fr rfl rfl ?_
        refine Fr.set_thm_pair rfl ?_
        refine Fr.step State.pairLive_fr rfl rfl ?_
        first | assumption | exact Fr.refl _
      · refine Fr.step State.pairLive_fr rfl rfl ?_
        first | assumption | exact Fr.refl _

theorem execPairHlthRx_fr {a0} {s} : FrRes [⟨17223909507, 17223909507, 1, 0⟩] [.hlth, .pair] s (execPairHlthRx a0 s) := by
  unfold execPairHlthRx
  refine FrRes.next ?_
  unfold State.fromLead
  try dsimp -zeta only
  split
  · first | assumption | exact Fr.refl _
  · refine Fr.iteh (fun _ => ?_) (fun _ => ?_)
    · first | assumption | exact Fr.refl _
    · refine Fr.iteh (fun _ => ?_) (fun _ => ?_)
      · extract_lets -merge -underBinder +onlyGivenNames x0
        try clear_value (e0 : x0 = _)
        extract_lets -merge -underBinder +onlyGivenNames x1
        try clear_value x1
        refine Fr.set_hlth rfl ?_
        refine Fr.step State.pairLive_fr rfl rfl ?_
        first | assumption | exact Fr.refl _
      · refine Fr.step State.pairLive_fr rfl rfl ?_
        first | assumption | exact Fr.refl _

theorem execPairMaskRx_fr {a0} {s} : FrRes [⟨17223909507, 17223909507, 1, 0⟩, ⟨17230201992, 17230201992, 1, 0⟩, ⟨17230200961, 17230200961, 1, 0⟩, ⟨17230201856, 17230201856, 1, 0⟩, ⟨17181966336, 17181966336, 1, 0⟩, ⟨17181967360, 17181967360, 1, 0⟩, ⟨17186226581, 17186257301, 2048, 0⟩, ⟨17181966338, 17181966338, 1, 0⟩, ⟨17181966495, 17181966495, 1, 0⟩, ⟨17186168832, 17186169247, 1, 0⟩, ⟨17230201872, 17230201872, 1, 0⟩, ⟨17230200960, 17230200960, 1, 0⟩, ⟨17230201991, 17230201991, 1, 0⟩, ⟨17230201987, 17230201987, 1, 0⟩, ⟨17230201988, 17230201988, 1, 0⟩, ⟨17194549776, 17194549776, 1, 0⟩, ⟨17192452352, 17192452352, 1, 0⟩, ⟨17192452608, 17192452608, 1, 0⟩, ⟨17192452480, 17192452480, 1, 0⟩, ⟨17192452229, 17192452229, 1, 0⟩, ⟨17192452228, 17192452228, 1, 0⟩, ⟨17188261632, 17188261632, 1, 0⟩, ⟨17181967232, 17181967263, 1, 0⟩] [.pair, .maskin, .pwr, .flt, .evc, .lane, .mem, .memc] s (execPairMaskRx a0 s) := by
  unfold execPairMaskRx
  refine FrRes.next ?_
  unfold State.fromLead
  try dsimp -zeta only
  split
  · first | assumption | exact Fr.refl _
  · refine Fr.iteh (fun _ => ?_) (fun _ => ?_)
    · first | assumption | exact Fr.refl _
    · refine Fr.iteh (fun _ => ?_) (fun _ => ?_)
      · refine Fr.iteh (fun _ => ?_) (fun _ => ?_)
        · refine Fr.step State.pairLive_fr rfl rfl ?_
          first | assumption | exact Fr.refl _
        · split
          · refine Fr.step State.maskStart_fr rfl rfl ?_
            refine Fr.step State.pairLive_fr rfl rfl ?_
            first | assumption | exact Fr.refl _
          · refine Fr.iteh (fun _ => ?_) (fun _ => ?_)
            · refine Fr.step State.maskLine_fr rfl rfl ?_
              refine Fr.step State.pairLive_fr rfl rfl ?_
              first | assumption | exact Fr.refl _
            · refine Fr.wr (xs := [⟨17230201991, 17230201991, 1, 0⟩]) rfl rfl ?_
              refine Fr.step State.pairLive_fr rfl rfl ?_
              first | assumption | exact Fr.refl _
          · refine Fr.step State.maskEnd_fr rfl rfl ?_
            refine Fr.step State.pairLive_fr rfl rfl ?_
            first | assumption | exact Fr.refl _
          · refine Fr.step State.pairLive_fr rfl rfl ?_
            first | assumption | exact Fr.refl _
      · refine Fr.step State.pairLive_fr rfl rfl ?_
        first | assumption | exact Fr.refl _

theorem execPairStateRx_fr {a0} {s} : FrRes [⟨17213425296, 17213425296, 1, 0⟩, ⟨17213425280, 17213425280, 1, 0⟩, ⟨17213425152, 17213425152, 1, 0⟩, ⟨17223909507, 17223909507, 1, 0⟩, ⟨17213423745, 17213423745, 1, 0⟩] [.pair] s (execPairStateRx a0 s) := by
  unfold execPairStateRx
  refine FrRes.next ?_
  unfold State.fromLead
  try dsimp -zeta only
  split
  · first | assumption | exact Fr.refl _
  · refine Fr.iteh (fun _ => ?_) (fun _ => ?_)
    · first | assumption | exact Fr.refl _
    · refine Fr.iteh (fun _ => ?_) (fun _ => ?_)
      · extract_lets -merge -underBinder +onlyGivenNames x0
        try clear_value (e0 : x0 = _)
        extract_lets -merge -underBinder +onlyGivenNames x1
        refine Fr.cut x1 ?_ (fun h1 => ?_)
        · unfold x1
          refine Fr.wr (xs := [⟨17213425296, 17213425296, 1, 0⟩]) rfl rfl ?_
          refine Fr.wr (xs := [⟨17213425280, 17213425280, 1, 0⟩]) rfl rfl ?_
          refine Fr.wr (xs := [⟨17213425152, 17213425152, 1, 0⟩]) rfl rfl ?_
          refine Fr.step State.pairLive_fr rfl rfl ?_
          first | assumption | exact Fr.refl _
        try clear_value x1
        refine Fr.iteh (fun _ => ?_) (fun _ => ?_)
        · first | assumption | exact Fr.refl _
        · refine Fr.wr (xs := [⟨17213423745, 17213423745, 1, 0⟩]) rfl rfl ?_
          first | assumption | exact Fr.refl _
      · refine Fr.step State.pairLive_fr rfl rfl ?_
        first | assumption | exact Fr.refl _

theorem execPairStateSend_fr {s} : FrRes [] [.pair, .lane] s (execPairStateSend s) := by
  unfold execPairStateSend
  refine FrRes.next ?_
  refine Fr.step State.pairState_fr rfl rfl ?_
  first | assumption | exact Fr.refl _

theorem execPairSlotGo_fr {a0} {a1} {s} : FrRes [⟨17223909888, 17223909919, 32, 31⟩, ⟨17223909512, 17223909512, 1, 0⟩, ⟨17181966336, 17181966336, 1, 0⟩, ⟨17181967360, 17181967360, 1, 0⟩, ⟨17186226581, 17186257301, 2048, 0⟩, ⟨17181966338, 17181966338, 1, 0⟩, ⟨17181966495, 17181966495, 1, 0⟩, ⟨17186168832, 17186169247, 1, 0⟩, ⟨17188261632, 17188261632, 1, 0⟩, ⟨17181967232, 17181967263, 1, 0⟩] [.flt, .evc, .pwr, .pair, .lane] s (execPairSlotGo a0 a1 s) := by
  unfold execPairSlotGo
  refine FrRes.next ?_
  refine busWrite_fr (x := ⟨17223909888, 17223909919, 32, 31⟩) (Keys.word_intro (by first | omega | (omega)) (by first | omega | (omega)) (by first | omega | (omega))) (fun u => State.werr_0x2015 (by omega)) rfl rfl ?_ (fun t ht => ?_)
  · first | assumption | exact Fr.refl _
  · extract_lets -merge -underBinder +onlyGivenNames x0
    try clear_value (e0 : x0 = _)
    refine Fr.iteh (fun _ => ?_) (fun _ => ?_)
    · first | assumption | exact Fr.refl _
    · extract_lets -merge -underBinder +onlyGivenNames x1
      try clear_value (e1 : x1 = _)
      extract_lets -merge -underBinder +onlyGivenNames x2
      try clear_value (e2 : x2 = _)
      extract_lets -merge -underBinder +onlyGivenNames x3
      try clear_value x3
      extract_lets -merge -underBinder +onlyGivenNames x4
      refine Fr.cut x4 ?_ (fun h4 => ?_)
      · unfold x4
        refine Fr.foldl' ?_ (fun t x hx ht => ?_)
        · first | assumption | exact Fr.refl _
        · refine Fr.step State.pairSend_fr rfl rfl ?_
          first | assumption | exact Fr.refl _
      try clear_value x4
      refine Fr.step State.fire_fr rfl rfl ?_
      refine Fr.step State.pairSend_fr rfl rfl ?_
      first | assumption | exact Fr.refl _

theorem execPairSlotRx_fr {a0} {s} : FrRes [⟨17188261632, 17188261632, 1, 0⟩, ⟨17181966336, 17181966336, 1, 0⟩, ⟨17181967360, 17181967360, 1, 0⟩, ⟨17186226581, 17186257301, 2048, 0⟩, ⟨17181966338, 17181966338, 1, 0⟩, ⟨17181966495, 17181966495, 1, 0⟩, ⟨17186168832, 17186169247, 1, 0⟩, ⟨17194549776, 17194549776, 1, 0⟩, ⟨17192452352, 17192452352, 1, 0⟩, ⟨17192452608, 17192452608, 1, 0⟩, ⟨17192452480, 17192452480, 1, 0⟩, ⟨17192452229, 17192452229, 1, 0⟩, ⟨17192452228, 17192452228, 1, 0⟩, ⟨17181967232, 17181967263, 1, 0⟩, ⟨17223909507, 17223909507, 1, 0⟩, ⟨17223910416, 17223910416, 1, 0⟩] [.flt, .mem, .pwr, .evc, .memc, .pair] s (execPairSlotRx a0 s) := by
  unfold execPairSlotRx
  refine FrRes.next ?_
  unfold State.fromLead
  try dsimp -zeta only
  split
  · first | assumption | exact Fr.refl _
  · refine Fr.iteh (fun _ => ?_) (fun _ => ?_)
    · first | assumption | exact Fr.refl _
    · refine Fr.iteh (fun _ => ?_) (fun _ => ?_)
      · extract_lets -merge -underBinder +onlyGivenNames x0
        try clear_value (e0 : x0 = _)
        extract_lets -merge -underBinder +onlyGivenNames x1
        try clear_value (e1 : x1 = _)
        refine Fr.iteh (fun _ => ?_) (fun _ => ?_)
        · refine Fr.step State.dramWrite_fr rfl rfl ?_
          refine Fr.step State.pairLive_fr rfl rfl ?_
          first | assumption | exact Fr.refl _
        · refine Fr.inc (xs := [⟨17223910416, 17223910416, 1, 0⟩]) rfl rfl ?_
          refine Fr.step State.pairLive_fr rfl rfl ?_
          first | assumption | exact Fr.refl _
      · refine Fr.step State.pairLive_fr rfl rfl ?_
        first | assumption | exact Fr.refl _

theorem execPairSlotEndRx_fr {a0} {s} : FrRes [⟨17198743816, 17198743816, 1, 0⟩, ⟨17181966336, 17181966336, 1, 0⟩, ⟨17181967360, 17181967360, 1, 0⟩, ⟨17186226581, 17186257301, 2048, 0⟩, ⟨17181966338, 17181966338, 1, 0⟩, ⟨17181966495, 17181966495, 1, 0⟩, ⟨17186168832, 17186169247, 1, 0⟩, ⟨17198743808, 17198743808, 1, 0⟩, ⟨17198743553, 17198743553, 1, 0⟩, ⟨17198753156, 17198767492, 2048, 0⟩, ⟨17198743688, 17198743695, 1, 0⟩, ⟨17194557440, 17194573724, 4, 0⟩, ⟨17194549776, 17194549776, 1, 0⟩, ⟨17192452352, 17192452352, 1, 0⟩, ⟨17192452608, 17192452608, 1, 0⟩, ⟨17192452480, 17192452480, 1, 0⟩, ⟨17192452229, 17192452229, 1, 0⟩, ⟨17192452228, 17192452228, 1, 0⟩, ⟨17188261632, 17188261632, 1, 0⟩, ⟨17181967232, 17181967263, 1, 0⟩, ⟨17194615425, 17194618497, 1024, 0⟩, ⟨17194615296, 17194618368, 1024, 0⟩, ⟨17223909507, 17223909507, 1, 0⟩, ⟨17223909511, 17223909511, 1, 0⟩] [.pwr, .flt, .evc, .layer, .free, .mem, .memc, .win, .pair] s (execPairSlotEndRx a0 s) := by
  unfold execPairSlotEndRx
  refine FrRes.next ?_
  unfold State.fromLead
  try dsimp -zeta only
  split
  · first | assumption | exact Fr.refl _
  · refine Fr.iteh (fun _ => ?_) (fun _ => ?_)
    · first | assumption | exact Fr.refl _
    · refine Fr.iteh (fun _ => ?_) (fun _ => ?_)
      · extract_lets -merge -underBinder +onlyGivenNames x0
        try clear_value (e0 : x0 = _)
        extract_lets -merge -underBinder +onlyGivenNames x1
        try clear_value (e1 : x1 = _)
        extract_lets -merge -underBinder +onlyGivenNames x2
        try clear_value (e2 : x2 = _)
        refine Fr.iteh (fun _ => ?_) (fun _ => ?_)
        · refine Fr.step State.layerRetest_fr rfl rfl ?_
          refine Fr.step State.handSlot_fr rfl rfl ?_
          refine Fr.step State.pairLive_fr rfl rfl ?_
          first | assumption | exact Fr.refl _
        · refine Fr.step State.fire_fr rfl rfl ?_
          refine Fr.wr (xs := [⟨17223909511, 17223909511, 1, 0⟩]) rfl rfl ?_
          refine Fr.step State.pairLive_fr rfl rfl ?_
          first | assumption | exact Fr.refl _
      · refine Fr.step State.pairLive_fr rfl rfl ?_
        first | assumption | exact Fr.refl _

theorem execPairDump_fr {a0} {a1} {s} : FrRes [⟨17223909376, 17223909407, 32, 31⟩, ⟨17223909512, 17223909512, 1, 0⟩, ⟨17181966336, 17181966336, 1, 0⟩, ⟨17181967360, 17181967360, 1, 0⟩, ⟨17186226581, 17186257301, 2048, 0⟩, ⟨17181966338, 17181966338, 1, 0⟩, ⟨17181966495, 17181966495, 1, 0⟩, ⟨17186168832, 17186169247, 1, 0⟩, ⟨17188261632, 17188261632, 1, 0⟩, ⟨17181967232, 17181967263, 1, 0⟩] [.flt, .evc, .pwr, .pair, .lane] s (execPairDump a0 a1 s) := by
  unfold execPairDump
  refine FrRes.next ?_
  refine busWrite_fr (x := ⟨17223909376, 17223909407, 32, 31⟩) (Keys.word_intro (by first | omega | (omega)) (by first | omega | (omega)) (by first | omega | (omega))) (fun u => State.werr_0x2015 (by omega)) rfl rfl ?_ (fun t ht => ?_)
  · first | assumption | exact Fr.refl _
  · refine Fr.iteh (fun _ => ?_) (fun _ => ?_)
    · first | assumption | exact Fr.refl _
    · extract_lets -merge -underBinder +onlyGivenNames x0
      try clear_value x0
      extract_lets -merge -underBinder +onlyGivenNames x1
      extract_lets -merge -underBinder +onlyGivenNames x2
      refine Fr.cut x2 ?_ (fun h2 => ?_)
      · unfold x2
        refine Fr.set_pair rfl ?_
        first | assumption | exact Fr.refl _
      try clear_value x2
      refine Fr.step State.pairSend_fr rfl rfl ?_
      first | assumption | exact Fr.refl _

theorem execPairMsgRx_fr {a0} {s} : FrRes [⟨17181966336, 17181966336, 1, 0⟩, ⟨17181967360, 17181967360, 1, 0⟩, ⟨17186226581, 17186257301, 2048, 0⟩, ⟨17181966338, 17181966338, 1, 0⟩, ⟨17181966495, 17181966495, 1, 0⟩, ⟨17186168832, 17186169247, 1, 0⟩, ⟨17223909507, 17223909507, 1, 0⟩] [.pwr, .flt, .evc, .pair] s (execPairMsgRx a0 s) := by
  unfold execPairMsgRx
  refine FrRes.next ?_
  split
  · first | assumption | exact Fr.refl _
  · refine Fr.iteh (fun _ => ?_) (fun _ => ?_)
    · first | assumption | exact Fr.refl _
    · refine Fr.step State.fire_fr rfl rfl ?_
      refine Fr.step State.pairLive_fr rfl rfl ?_
      refine Fr.set_pair rfl ?_
      first | assumption | exact Fr.refl _

theorem execPairSilenceTimeout_fr {s} : FrRes [⟨17181966336, 17181966336, 1, 0⟩, ⟨17181967360, 17181967360, 1, 0⟩, ⟨17186226581, 17186257301, 2048, 0⟩, ⟨17181966338, 17181966338, 1, 0⟩, ⟨17181966495, 17181966495, 1, 0⟩, ⟨17186168832, 17186169247, 1, 0⟩, ⟨17223909510, 17223909510, 1, 0⟩, ⟨17202938368, 17204380160, 131072, 0⟩, ⟨17223909506, 17223909506, 1, 0⟩, ⟨17223909507, 17223909507, 1, 0⟩] [.pwr, .flt, .evc, .lane, .tl, .pair] s (execPairSilenceTimeout s) := by
  unfold execPairSilenceTimeout
  refine FrRes.next ?_
  refine Fr.iteh (fun _ => ?_) (fun _ => ?_)
  · refine Fr.step State.pairTakeover_fr rfl rfl ?_
    refine Fr.step State.raise_fr rfl rfl ?_
    first | assumption | exact Fr.refl _
  · first | assumption | exact Fr.refl _

theorem execPartnerLanePacketError_fr {a0} {s} : FrRes [⟨17223909507, 17223909507, 1, 0⟩, ⟨17223910424, 17223910424, 1, 0⟩, ⟨17181966336, 17181966336, 1, 0⟩, ⟨17181967360, 17181967360, 1, 0⟩, ⟨17186226581, 17186257301, 2048, 0⟩, ⟨17181966338, 17181966338, 1, 0⟩, ⟨17181966495, 17181966495, 1, 0⟩, ⟨17186168832, 17186169247, 1, 0⟩] [.lane, .pair, .pwr, .flt, .evc] s (execPartnerLanePacketError a0 s) := by
  unfold execPartnerLanePacketError
  refine FrRes.next ?_
  refine Fr.iteh (fun _ => ?_) (fun _ => ?_)
  · first | assumption | exact Fr.refl _
  · refine Fr.iteh (fun _ => ?_) (fun _ => ?_)
    · split
      · first | assumption | exact Fr.refl _
      · refine Fr.iteh (fun _ => ?_) (fun _ => ?_)
        · refine Fr.step State.pairPut_fr rfl rfl ?_
          refine Fr.step State.pairLive_fr rfl rfl ?_
          first | assumption | exact Fr.refl _
        · refine Fr.step State.pairLive_fr rfl rfl ?_
          first | assumption | exact Fr.refl _
    · extract_lets -merge -underBinder +onlyGivenNames x0
      try clear_value x0
      extract_lets -merge -underBinder +onlyGivenNames x1
      refine Fr.cut x1 ?_ (fun h1 => ?_)
      · unfold x1
        refine Fr.inc (xs := [⟨17223910424, 17223910424, 1, 0⟩]) rfl rfl ?_
        first | assumption | exact Fr.refl _
      try clear_value x1
      extract_lets -merge -underBinder +onlyGivenNames x2
      extract_lets -merge -underBinder +onlyGivenNames x3
      refine Fr.cut x3 ?_ (fun h3 => ?_)
      · unfold x3
        refine Fr.set_pair rfl ?_
        first | assumption | exact Fr.refl _
      try clear_value x3
      refine Fr.iteh (fun _ => ?_) (fun _ => ?_)
      · refine Fr.step State.fire_fr rfl rfl ?_
        refine Fr.step State.raise_fr rfl rfl ?_
        first | assumption | exact Fr.refl _
      · first | assumption | exact Fr.refl _

end Sys2Proof.Machine
end

