-- ==== Sys2Proof/Laws/SafeFrame.lean ====
section
/-! SUPPORT. What each operation and command of Machine/Safe.lean changes at most: register blocks and zones of the state. -/

namespace Sys2Proof.Machine

theorem State.showIl_fr {s} : Fr [⟨17221812355, 17221812355, 1, 0⟩, ⟨17221812354, 17221812354, 1, 0⟩, ⟨17181966336, 17181966336, 1, 0⟩, ⟨17181967360, 17181967360, 1, 0⟩, ⟨17186226581, 17186257301, 2048, 0⟩, ⟨17181966338, 17181966338, 1, 0⟩, ⟨17181966495, 17181966495, 1, 0⟩, ⟨17186168832, 17186169247, 1, 0⟩] [.pwr, .flt, .evc] s (State.showIl s) := by
  unfold State.showIl
  extract_lets -merge -underBinder +onlyGivenNames x0
  refine Fr.cut x0 ?_ (fun h0 => ?_)
  · unfold x0
    refine Fr.wrB (xs := [⟨17221812355, 17221812355, 1, 0⟩]) rfl rfl ?_
    refine Fr.wrB (xs := [⟨17221812354, 17221812354, 1, 0⟩]) rfl rfl ?_
    first | assumption | exact Fr.refl _
  try clear_value x0
  refine Fr.iteh (fun _ => ?_) (fun _ => ?_)
  · refine Fr.step State.fire_fr rfl rfl ?_
    first | assumption | exact Fr.refl _
  · first | assumption | exact Fr.refl _

theorem State.proofDue_fr {s} : Fr [⟨17221812613, 17221812613, 1, 0⟩, ⟨17221812612, 17221812612, 1, 0⟩, ⟨17221812361, 17221812361, 1, 0⟩, ⟨17181966336, 17181966336, 1, 0⟩, ⟨17181967360, 17181967360, 1, 0⟩, ⟨17186226581, 17186257301, 2048, 0⟩, ⟨17181966338, 17181966338, 1, 0⟩, ⟨17181966495, 17181966495, 1, 0⟩, ⟨17186168832, 17186169247, 1, 0⟩] [.pwr, .flt, .evc, .safe] s (State.proofDue s) := by
  unfold State.proofDue
  refine Fr.iteh (fun _ => ?_) (fun _ => ?_)
  · first | assumption | exact Fr.refl _
  · extract_lets -merge -underBinder +onlyGivenNames x0
    refine Fr.cut x0 ?_ (fun h0 => ?_)
    · unfold x0
      refine Fr.wr (xs := [⟨17221812613, 17221812613, 1, 0⟩]) rfl rfl ?_
      refine Fr.wr (xs := [⟨17221812612, 17221812612, 1, 0⟩]) rfl rfl ?_
      refine Fr.wr (xs := [⟨17221812361, 17221812361, 1, 0⟩]) rfl rfl ?_
      first | assumption | exact Fr.refl _
    try clear_value x0
    refine Fr.step State.fire_fr rfl rfl ?_
    refine Fr.set_safe rfl ?_
    first | assumption | exact Fr.refl _

theorem State.proofClear_fr {s} : Fr [⟨17181966336, 17181966336, 1, 0⟩, ⟨17181967360, 17181967360, 1, 0⟩, ⟨17186226581, 17186257301, 2048, 0⟩, ⟨17181966338, 17181966338, 1, 0⟩, ⟨17181966495, 17181966495, 1, 0⟩, ⟨17186168832, 17186169247, 1, 0⟩, ⟨17221812361, 17221812361, 1, 0⟩] [.pwr, .flt, .evc] s (State.proofClear s) := by
  unfold State.proofClear
  refine Fr.iteh (fun _ => ?_) (fun _ => ?_)
  · refine Fr.step State.fire_fr rfl rfl ?_
    refine Fr.wr (xs := [⟨17221812361, 17221812361, 1, 0⟩]) rfl rfl ?_
    first | assumption | exact Fr.refl _
  · first | assumption | exact Fr.refl _

theorem execSafeEnable_fr {a0} {a1} {s} : FrRes [⟨17221812224, 17221812255, 32, 31⟩, ⟨17221812365, 17221812365, 1, 0⟩, ⟨17181966336, 17181966336, 1, 0⟩, ⟨17181967360, 17181967360, 1, 0⟩, ⟨17186226581, 17186257301, 2048, 0⟩, ⟨17181966338, 17181966338, 1, 0⟩, ⟨17181966495, 17181966495, 1, 0⟩, ⟨17186168832, 17186169247, 1, 0⟩, ⟨17188261632, 17188261632, 1, 0⟩, ⟨17181967232, 17181967263, 1, 0⟩, ⟨17221812880, 17221812880, 1, 0⟩, ⟨17221812864, 17221812864, 1, 0⟩, ⟨17221812480, 17221812480, 1, 0⟩, ⟨17221812890, 17221812890, 1, 0⟩, ⟨17221812889, 17221812889, 1, 0⟩, ⟨17221812358, 17221812358, 1, 0⟩, ⟨17221812355, 17221812355, 1, 0⟩, ⟨17221812354, 17221812354, 1, 0⟩, ⟨17221812352, 17221812352, 1, 0⟩, ⟨17221812364, 17221812364, 1, 0⟩, ⟨17202941824, 17204383616, 131072, 0⟩, ⟨17221814288, 17221814288, 1, 0⟩, ⟨17221814272, 17221814272, 1, 0⟩, ⟨17205035139, 17205149827, 8192, 0⟩, ⟨17205035141, 17205149829, 8192, 0⟩, ⟨17205035140, 17205149828, 8192, 0⟩, ⟨17205035136, 17205149824, 8192, 0⟩, ⟨17202937984, 17204379776, 131072, 0⟩] [.flt, .evc, .pwr, .pair, .safe, .lane, .tl] s (execSafeEnable a0 a1 s) := by
  unfold execSafeEnable
  refine FrRes.next ?_
  refine busWrite_fr (x := ⟨17221812224, 17221812255, 32, 31⟩) (Keys.word_intro (by first | omega | (omega)) (by first | omega | (omega)) (by first | omega | (omega))) (fun u => State.werr_0x2014 (by omega)) rfl rfl ?_ (fun t ht => ?_)
  · first | assumption | exact Fr.refl _
  · refine Fr.iteh (fun _ => ?_) (fun _ => ?_)
    · first | assumption | exact Fr.refl _
    · extract_lets -merge -underBinder +onlyGivenNames x0
      refine Fr.cut x0 ?_ (fun h0 => ?_)
      · unfold x0
        refine Fr.wr (xs := [⟨17221812224, 17221812224, 1, 0⟩]) rfl rfl ?_
        first | assumption | exact Fr.refl _
      try clear_value x0
      extract_lets -merge -underBinder +onlyGivenNames x1
      try clear_value (e1 : x1 = _)
      extract_lets -merge -underBinder +onlyGivenNames x2
      refine Fr.cut x2 ?_ (fun h2 => ?_)
      · unfold x2
        refine Fr.wr (xs := [⟨17221812880, 17221812880, 1, 0⟩]) rfl rfl ?_
        refine Fr.wr (xs := [⟨17221812864, 17221812864, 1, 0⟩]) rfl rfl ?_
        refine Fr.wr (xs := [⟨17221812480, 17221812480, 1, 0⟩]) rfl rfl ?_
        first | assumption | exact Fr.refl _
      try clear_value x2
      extract_lets -merge -underBinder +onlyGivenNames x3
      refine Fr.cut x3 ?_ (fun h3 => ?_)
      · unfold x3
        refine Fr.wr (xs := [⟨17221812890, 17221812890, 1, 0⟩]) rfl rfl ?_
        refine Fr.wr (xs := [⟨17221812889, 17221812889, 1, 0⟩]) rfl rfl ?_
        first | assumption | exact Fr.refl _
      try clear_value x3
      extract_lets -merge -underBinder +onlyGivenNames x4
      refine Fr.cut x4 ?_ (fun h4 => ?_)
      · unfold x4
        refine Fr.iteh (fun _ => ?_) (fun _ => ?_)
        · refine Fr.step State.fire_fr rfl rfl ?_
          refine Fr.wr (xs := [⟨17221812358, 17221812358, 1, 0⟩]) rfl rfl ?_
          first | assumption | exact Fr.refl _
        · first | assumption | exact Fr.refl _
      try clear_value x4
      extract_lets -merge -underBinder +onlyGivenNames x5
      refine Fr.cut x5 ?_ (fun h5 => ?_)
      · unfold x5
        refine Fr.iteh (fun _ => ?_) (fun _ => ?_)
        · first | assumption | exact Fr.refl _
        · refine Fr.step State.showIl_fr rfl rfl ?_
          first | assumption | exact Fr.refl _
      try clear_value x5
      extract_lets -merge -underBinder +onlyGivenNames x6
      refine Fr.cut x6 ?_ (fun h6 => ?_)
      · unfold x6
        refine Fr.step State.showSafe_fr rfl rfl ?_
        first | assumption | exact Fr.refl _
      try clear_value x6
      refine Fr.iteh (fun _ => ?_) (fun _ => ?_)
      · refine Fr.step State.enterFallback_fr rfl rfl ?_
        first | assumption | exact Fr.refl _
      · first | assumption | exact Fr.refl _

theorem execSafeAck_fr {a0} {a1} {s} : FrRes [⟨17221812224, 17221812255, 32, 31⟩, ⟨17221812365, 17221812365, 1, 0⟩, ⟨17181966336, 17181966336, 1, 0⟩, ⟨17181967360, 17181967360, 1, 0⟩, ⟨17186226581, 17186257301, 2048, 0⟩, ⟨17181966338, 17181966338, 1, 0⟩, ⟨17181966495, 17181966495, 1, 0⟩, ⟨17186168832, 17186169247, 1, 0⟩, ⟨17188261632, 17188261632, 1, 0⟩, ⟨17181967232, 17181967263, 1, 0⟩, ⟨17221812352, 17221812352, 1, 0⟩, ⟨17221812364, 17221812364, 1, 0⟩, ⟨17202941824, 17204383616, 131072, 0⟩, ⟨17221814288, 17221814288, 1, 0⟩, ⟨17221814272, 17221814272, 1, 0⟩, ⟨17205035139, 17205149827, 8192, 0⟩, ⟨17205035141, 17205149829, 8192, 0⟩, ⟨17205035140, 17205149828, 8192, 0⟩, ⟨17205035136, 17205149824, 8192, 0⟩, ⟨17202937984, 17204379776, 131072, 0⟩, ⟨17221812357, 17221812357, 1, 0⟩, ⟨17221812356, 17221812356, 1, 0⟩] [.flt, .evc, .pwr, .pair, .safe, .lane, .tl] s (execSafeAck a0 a1 s) := by
  unfold execSafeAck
  refine FrRes.next ?_
  refine busWrite_fr (x := ⟨17221812224, 17221812255, 32, 31⟩) (Keys.word_intro (by first | omega | (omega)) (by first | omega | (omega)) (by first | omega | (omega))) (fun u => State.werr_0x2014 (by omega)) rfl rfl ?_ (fun t ht => ?_)
  · first | assumption | exact Fr.refl _
  · refine Fr.iteh (fun _ => ?_) (fun _ => ?_)
    · first | assumption | exact Fr.refl _
    · refine Fr.iteh (fun _ => ?_) (fun _ => ?_)
      · refine Fr.step State.showSafe_fr rfl rfl ?_
        refine Fr.wr (xs := [⟨17221812357, 17221812357, 1, 0⟩]) rfl rfl ?_
        refine Fr.wr (xs := [⟨17221812356, 17221812356, 1, 0⟩]) rfl rfl ?_
        first | assumption | exact Fr.refl _
      · refine Fr.step (State.werr_0x2014 (by omega)) rfl rfl ?_
        first | assumption | exact Fr.refl _

theorem execSafeRestrict_fr {a0} {a1} {s} : FrRes [⟨17221812224, 17221812255, 32, 31⟩, ⟨17221812365, 17221812365, 1, 0⟩, ⟨17181966336, 17181966336, 1, 0⟩, ⟨17181967360, 17181967360, 1, 0⟩, ⟨17186226581, 17186257301, 2048, 0⟩, ⟨17181966338, 17181966338, 1, 0⟩, ⟨17181966495, 17181966495, 1, 0⟩, ⟨17186168832, 17186169247, 1, 0⟩, ⟨17188261632, 17188261632, 1, 0⟩, ⟨17181967232, 17181967263, 1, 0⟩, ⟨17221812352, 17221812352, 1, 0⟩, ⟨17221812364, 17221812364, 1, 0⟩, ⟨17202941824, 17204383616, 131072, 0⟩, ⟨17221814288, 17221814288, 1, 0⟩, ⟨17221814272, 17221814272, 1, 0⟩, ⟨17205035139, 17205149827, 8192, 0⟩, ⟨17205035141, 17205149829, 8192, 0⟩, ⟨17205035140, 17205149828, 8192, 0⟩, ⟨17205035136, 17205149824, 8192, 0⟩, ⟨17202937984, 17204379776, 131072, 0⟩] [.flt, .evc, .pwr, .pair, .safe, .lane, .tl] s (execSafeRestrict a0 a1 s) := by
  unfold execSafeRestrict
  refine FrRes.next ?_
  refine busWrite_fr (x := ⟨17221812224, 17221812255, 32, 31⟩) (Keys.word_intro (by first | omega | (omega)) (by first | omega | (omega)) (by first | omega | (omega))) (fun u => State.werr_0x2014 (by omega)) rfl rfl ?_ (fun t ht => ?_)
  · first | assumption | exact Fr.refl _
  · refine Fr.step State.showSafe_fr rfl rfl ?_
    refine Fr.wrB (xs := [⟨17221812226, 17221812226, 1, 0⟩]) rfl rfl ?_
    first | assumption | exact Fr.refl _

theorem execSafeFbReq_fr {a0} {a1} {s} : FrRes [⟨17221812224, 17221812255, 32, 31⟩, ⟨17221812365, 17221812365, 1, 0⟩, ⟨17181966336, 17181966336, 1, 0⟩, ⟨17181967360, 17181967360, 1, 0⟩, ⟨17186226581, 17186257301, 2048, 0⟩, ⟨17181966338, 17181966338, 1, 0⟩, ⟨17181966495, 17181966495, 1, 0⟩, ⟨17186168832, 17186169247, 1, 0⟩, ⟨17188261632, 17188261632, 1, 0⟩, ⟨17181967232, 17181967263, 1, 0⟩, ⟨17221812352, 17221812352, 1, 0⟩, ⟨17221812364, 17221812364, 1, 0⟩, ⟨17202941824, 17204383616, 131072, 0⟩, ⟨17221814288, 17221814288, 1, 0⟩, ⟨17221814272, 17221814272, 1, 0⟩, ⟨17205035139, 17205149827, 8192, 0⟩, ⟨17205035141, 17205149829, 8192, 0⟩, ⟨17205035140, 17205149828, 8192, 0⟩, ⟨17205035136, 17205149824, 8192, 0⟩, ⟨17202937984, 17204379776, 131072, 0⟩] [.flt, .evc, .pwr, .pair, .safe, .lane, .tl] s (execSafeFbReq a0 a1 s) := by
  unfold execSafeFbReq
  refine FrRes.next ?_
  refine busWrite_fr (x := ⟨17221812224, 17221812255, 32, 31⟩) (Keys.word_intro (by first | omega | (omega)) (by first | omega | (omega)) (by first | omega | (omega))) (fun u => State.werr_0x2014 (by omega)) rfl rfl ?_ (fun t ht => ?_)
  · first | assumption | exact Fr.refl _
  · refine Fr.step State.showSafe_fr rfl rfl ?_
    refine Fr.wrB (xs := [⟨17221812227, 17221812227, 1, 0⟩]) rfl rfl ?_
    first | assumption | exact Fr.refl _

theorem execProofReq_fr {a0} {a1} {s} : FrRes [⟨17221812224, 17221812255, 32, 31⟩, ⟨17221812365, 17221812365, 1, 0⟩, ⟨17181966336, 17181966336, 1, 0⟩, ⟨17181967360, 17181967360, 1, 0⟩, ⟨17186226581, 17186257301, 2048, 0⟩, ⟨17181966338, 17181966338, 1, 0⟩, ⟨17181966495, 17181966495, 1, 0⟩, ⟨17186168832, 17186169247, 1, 0⟩, ⟨17188261632, 17188261632, 1, 0⟩, ⟨17181967232, 17181967263, 1, 0⟩, ⟨17221812352, 17221812352, 1, 0⟩, ⟨17221812364, 17221812364, 1, 0⟩, ⟨17202941824, 17204383616, 131072, 0⟩, ⟨17221814288, 17221814288, 1, 0⟩, ⟨17221814272, 17221814272, 1, 0⟩, ⟨17205035139, 17205149827, 8192, 0⟩, ⟨17205035141, 17205149829, 8192, 0⟩, ⟨17205035140, 17205149828, 8192, 0⟩, ⟨17205035136, 17205149824, 8192, 0⟩, ⟨17202937984, 17204379776, 131072, 0⟩, ⟨17221812613, 17221812613, 1, 0⟩, ⟨17221812612, 17221812612, 1, 0⟩, ⟨17221812361, 17221812361, 1, 0⟩] [.flt, .evc, .pwr, .pair, .safe, .lane, .tl] s (execProofReq a0 a1 s) := by
  unfold execProofReq
  refine FrRes.next ?_
  refine busWrite_fr (x := ⟨17221812224, 17221812255, 32, 31⟩) (Keys.word_intro (by first | omega | (omega)) (by first | omega | (omega)) (by first | omega | (omega))) (fun u => State.werr_0x2014 (by omega)) rfl rfl ?_ (fun t ht => ?_)
  · first | assumption | exact Fr.refl _
  · refine Fr.iteh (fun _ => ?_) (fun _ => ?_)
    · refine Fr.step State.showSafe_fr rfl rfl ?_
      refine Fr.step State.proofDue_fr rfl rfl ?_
      first | assumption | exact Fr.refl _
    · first | assumption | exact Fr.refl _

theorem execProofClr_fr {a0} {a1} {s} : FrRes [⟨17221812224, 17221812255, 32, 31⟩, ⟨17221812365, 17221812365, 1, 0⟩, ⟨17181966336, 17181966336, 1, 0⟩, ⟨17181967360, 17181967360, 1, 0⟩, ⟨17186226581, 17186257301, 2048, 0⟩, ⟨17181966338, 17181966338, 1, 0⟩, ⟨17181966495, 17181966495, 1, 0⟩, ⟨17186168832, 17186169247, 1, 0⟩, ⟨17188261632, 17188261632, 1, 0⟩, ⟨17181967232, 17181967263, 1, 0⟩, ⟨17221812352, 17221812352, 1, 0⟩, ⟨17221812364, 17221812364, 1, 0⟩, ⟨17202941824, 17204383616, 131072, 0⟩, ⟨17221814288, 17221814288, 1, 0⟩, ⟨17221814272, 17221814272, 1, 0⟩, ⟨17205035139, 17205149827, 8192, 0⟩, ⟨17205035141, 17205149829, 8192, 0⟩, ⟨17205035140, 17205149828, 8192, 0⟩, ⟨17205035136, 17205149824, 8192, 0⟩, ⟨17202937984, 17204379776, 131072, 0⟩, ⟨17221812361, 17221812361, 1, 0⟩] [.flt, .evc, .pwr, .pair, .safe, .lane, .tl] s (execProofClr a0 a1 s) := by
  unfold execProofClr
  refine FrRes.next ?_
  refine busWrite_fr (x := ⟨17221812224, 17221812255, 32, 31⟩) (Keys.word_intro (by first | omega | (omega)) (by first | omega | (omega)) (by first | omega | (omega))) (fun u => State.werr_0x2014 (by omega)) rfl rfl ?_ (fun t ht => ?_)
  · first | assumption | exact Fr.refl _
  · refine Fr.iteh (fun _ => ?_) (fun _ => ?_)
    · refine Fr.step State.showSafe_fr rfl rfl ?_
      refine Fr.step State.proofClear_fr rfl rfl ?_
      first | assumption | exact Fr.refl _
    · first | assumption | exact Fr.refl _

theorem execCmonTest_fr {a0} {a1} {s} : FrRes [⟨17221812224, 17221812255, 32, 31⟩, ⟨17221812365, 17221812365, 1, 0⟩, ⟨17181966336, 17181966336, 1, 0⟩, ⟨17181967360, 17181967360, 1, 0⟩, ⟨17186226581, 17186257301, 2048, 0⟩, ⟨17181966338, 17181966338, 1, 0⟩, ⟨17181966495, 17181966495, 1, 0⟩, ⟨17186168832, 17186169247, 1, 0⟩, ⟨17188261632, 17188261632, 1, 0⟩, ⟨17181967232, 17181967263, 1, 0⟩] [.flt, .evc, .pwr, .pair] s (execCmonTest a0 a1 s) := by
  unfold execCmonTest
  refine FrRes.next ?_
  refine busWrite_fr (x := ⟨17221812224, 17221812255, 32, 31⟩) (Keys.word_intro (by first | omega | (omega)) (by first | omega | (omega)) (by first | omega | (omega))) (fun u => State.werr_0x2014 (by omega)) rfl rfl ?_ (fun t ht => ?_)
  · first | assumption | exact Fr.refl _
  · refine Fr.iteh (fun _ => ?_) (fun _ => ?_)
    · refine Fr.wr (xs := [⟨17221812230, 17221812230, 1, 0⟩]) rfl rfl ?_
      first | assumption | exact Fr.refl _
    · first | assumption | exact Fr.refl _

theorem execCmonTestDone_fr {a0} {s} : FrRes [⟨17221812367, 17221812367, 1, 0⟩, ⟨17221812230, 17221812230, 1, 0⟩, ⟨17221812360, 17221812360, 1, 0⟩, ⟨17181966336, 17181966336, 1, 0⟩, ⟨17181967360, 17181967360, 1, 0⟩, ⟨17186226581, 17186257301, 2048, 0⟩, ⟨17181966338, 17181966338, 1, 0⟩, ⟨17181966495, 17181966495, 1, 0⟩, ⟨17186168832, 17186169247, 1, 0⟩, ⟨17221812352, 17221812352, 1, 0⟩, ⟨17221812364, 17221812364, 1, 0⟩, ⟨17202941824, 17204383616, 131072, 0⟩, ⟨17221814288, 17221814288, 1, 0⟩, ⟨17221814272, 17221814272, 1, 0⟩, ⟨17205035139, 17205149827, 8192, 0⟩, ⟨17205035141, 17205149829, 8192, 0⟩, ⟨17205035140, 17205149828, 8192, 0⟩, ⟨17205035136, 17205149824, 8192, 0⟩, ⟨17202937984, 17204379776, 131072, 0⟩] [.pwr, .flt, .evc, .safe, .lane, .tl] s (execCmonTestDone a0 s) := by
  unfold execCmonTestDone
  refine FrRes.next ?_
  refine Fr.iteh (fun _ => ?_) (fun _ => ?_)
  · first | assumption | exact Fr.refl _
  · extract_lets -merge -underBinder +onlyGivenNames x0
    refine Fr.cut x0 ?_ (fun h0 => ?_)
    · unfold x0
      refine Fr.wrB (xs := [⟨17221812367, 17221812367, 1, 0⟩]) rfl rfl ?_
      refine Fr.wr (xs := [⟨17221812230, 17221812230, 1, 0⟩]) rfl rfl ?_
      first | assumption | exact Fr.refl _
    try clear_value x0
    extract_lets -merge -underBinder +onlyGivenNames x1
    refine Fr.cut x1 ?_ (fun h1 => ?_)
    · unfold x1
      refine Fr.iteh (fun _ => ?_) (fun _ => ?_)
      · first | assumption | exact Fr.refl _
      · refine Fr.wr (xs := [⟨17221812360, 17221812360, 1, 0⟩]) rfl rfl ?_
        first | assumption | exact Fr.refl _
    try clear_value x1
    refine Fr.step State.showSafe_fr rfl rfl ?_
    refine Fr.step State.fire_fr rfl rfl ?_
    first | assumption | exact Fr.refl _

theorem execClampMonitorTrip_fr {a0} {s} : FrRes [⟨17181966336, 17181966336, 1, 0⟩, ⟨17181967360, 17181967360, 1, 0⟩, ⟨17186226581, 17186257301, 2048, 0⟩, ⟨17181966338, 17181966338, 1, 0⟩, ⟨17181966495, 17181966495, 1, 0⟩, ⟨17186168832, 17186169247, 1, 0⟩, ⟨17221812352, 17221812352, 1, 0⟩, ⟨17221812364, 17221812364, 1, 0⟩, ⟨17202941824, 17204383616, 131072, 0⟩, ⟨17221814288, 17221814288, 1, 0⟩, ⟨17221814272, 17221814272, 1, 0⟩, ⟨17205035139, 17205149827, 8192, 0⟩, ⟨17205035141, 17205149829, 8192, 0⟩, ⟨17205035140, 17205149828, 8192, 0⟩, ⟨17205035136, 17205149824, 8192, 0⟩, ⟨17202937984, 17204379776, 131072, 0⟩, ⟨17221812360, 17221812360, 1, 0⟩] [.pwr, .flt, .evc, .safe, .lane, .tl] s (execClampMonitorTrip a0 s) := by
  unfold execClampMonitorTrip
  refine FrRes.next ?_
  refine Fr.iteh (fun _ => ?_) (fun _ => ?_)
  · first | assumption | exact Fr.refl _
  · refine Fr.step State.showSafe_fr rfl rfl ?_
    refine Fr.step State.raise_fr rfl rfl ?_
    refine Fr.step State.fire_fr rfl rfl ?_
    refine Fr.wr (xs := [⟨17221812360, 17221812360, 1, 0⟩]) rfl rfl ?_
    first | assumption | exact Fr.refl _

theorem execSealRead_fr {a0} {a1} {s} : FrRes [⟨17221812496, 17221812503, 1, 0⟩, ⟨17181966336, 17181966336, 1, 0⟩, ⟨17181967360, 17181967360, 1, 0⟩, ⟨17186226581, 17186257301, 2048, 0⟩, ⟨17181966338, 17181966338, 1, 0⟩, ⟨17181966495, 17181966495, 1, 0⟩, ⟨17186168832, 17186169247, 1, 0⟩, ⟨17221812358, 17221812358, 1, 0⟩, ⟨17221812488, 17221812488, 1, 0⟩, ⟨17221812613, 17221812613, 1, 0⟩, ⟨17221812612, 17221812612, 1, 0⟩, ⟨17221812361, 17221812361, 1, 0⟩, ⟨17221812359, 17221812359, 1, 0⟩, ⟨17221812352, 17221812352, 1, 0⟩, ⟨17221812364, 17221812364, 1, 0⟩, ⟨17202941824, 17204383616, 131072, 0⟩, ⟨17221814288, 17221814288, 1, 0⟩, ⟨17221814272, 17221814272, 1, 0⟩, ⟨17205035139, 17205149827, 8192, 0⟩, ⟨17205035141, 17205149829, 8192, 0⟩, ⟨17205035140, 17205149828, 8192, 0⟩, ⟨17205035136, 17205149824, 8192, 0⟩, ⟨17202937984, 17204379776, 131072, 0⟩] [.safe, .flt, .pwr, .evc, .lane, .tl] s (execSealRead a0 a1 s) := by
  unfold execSealRead
  refine FrRes.next ?_
  refine Fr.iteh (fun _ => ?_) (fun _ => ?_)
  · first | assumption | exact Fr.refl _
  · extract_lets -merge -underBinder +onlyGivenNames x0
    try clear_value (e0 : x0 = _)
    extract_lets -merge -underBinder +onlyGivenNames x1
    try clear_value (e1 : x1 = _)
    extract_lets -merge -underBinder +onlyGivenNames x2
    try clear_value (e2 : x2 = _)
    extract_lets -merge -underBinder +onlyGivenNames x3
    extract_lets -merge -underBinder +onlyGivenNames x4
    refine Fr.cut x4 ?_ (fun h4 => ?_)
    · unfold x4
      refine Fr.set_safe rfl ?_
      first | assumption | exact Fr.refl _
    try clear_value x4
    extract_lets -merge -underBinder +onlyGivenNames x5
    refine Fr.cut x5 ?_ (fun h5 => ?_)
    · unfold x5
      refine Fr.foldl' ?_ (fun t x hx ht => ?_)
      · first | assumption | exact Fr.refl _
      · refine Fr.iteh (fun _ => ?_) (fun _ => ?_)
        · refine Fr.wr (xs := [⟨17221812496, 17221812503, 1, 0⟩]) (Reg.SAFE_SEAL_INVALID_key (by first | omega | (simp only [List.mem_range] at *; omega))) rfl ?_
          first | assumption | exact Fr.refl _
        · first | assumption | exact Fr.refl _
    try clear_value x5
    extract_lets -merge -underBinder +onlyGivenNames x6
    refine Fr.cut x6 ?_ (fun h6 => ?_)
    · unfold x6
      refine Fr.iteh (fun _ => ?_) (fun _ => ?_)
      · first | assumption | exact Fr.refl _
      · refine Fr.step State.raise_fr rfl rfl ?_
        refine Fr.step State.fire_fr rfl rfl ?_
        refine Fr.wr (xs := [⟨17221812358, 17221812358, 1, 0⟩]) rfl rfl ?_
        first | assumption | exact Fr.refl _
    try clear_value x6
    extract_lets -merge -underBinder +onlyGivenNames x7
    refine Fr.cut x7 ?_ (fun h7 => ?_)
    · unfold x7
      refine Fr.wr (xs := [⟨17221812488, 17221812488, 1, 0⟩]) rfl rfl ?_
      first | assumption | exact Fr.refl _
    try clear_value x7
    extract_lets -merge -underBinder +onlyGivenNames x8
    refine Fr.cut x8 ?_ (fun h8 => ?_)
    · unfold x8
      refine Fr.iteh (fun _ => ?_) (fun _ => ?_)
      · first | assumption | exact Fr.refl _
      · refine Fr.iteh (fun _ => ?_) (fun _ => ?_)
        · refine Fr.step State.raise_fr rfl rfl ?_
          refine Fr.step State.proofDue_fr rfl rfl ?_
          refine Fr.step State.fire_fr rfl rfl ?_
          refine Fr.wr (xs := [⟨17221812359, 17221812359, 1, 0⟩]) rfl rfl ?_
          first | assumption | exact Fr.refl _
        · first | assumption | exact Fr.refl _
    try clear_value x8
    refine Fr.step State.showSafe_fr rfl rfl ?_
    first | assumption | exact Fr.refl _

theorem State.sampleInput_fr {s} {a1} {a2} {a3} : Fr [⟨17221812608, 17221812608, 1, 0⟩] [.safe] s (State.sampleInput s a1 a2 a3) := by
  unfold State.sampleInput
  refine Fr.iteh (fun _ => ?_) (fun _ => ?_)
  · first | assumption | exact Fr.refl _
  · extract_lets -merge -underBinder +onlyGivenNames x0
    try clear_value (e0 : x0 = _)
    extract_lets -merge -underBinder +onlyGivenNames x1
    refine Fr.iteh (fun _ => ?_) (fun _ => ?_)
    · unfold x1
      refine Fr.set_safe rfl ?_
      first | assumption | exact Fr.refl _
    · refine Fr.iteh (fun _ => ?_) (fun _ => ?_)
      · unfold x1
        refine Fr.set_safe rfl ?_
        first | assumption | exact Fr.refl _
      · unfold x1
        refine Fr.set_safe rfl ?_
        refine Fr.wr (xs := [⟨17221812608, 17221812608, 1, 0⟩]) rfl rfl ?_
        first | assumption | exact Fr.refl _

theorem State.cycleIl_fr {s} {a1} : Fr [] [.safe] s (State.cycleIl s a1) := by
  unfold State.cycleIl
  refine Fr.set_safe rfl ?_
  first | assumption | exact Fr.refl _

theorem State.proofStep_fr {s} : Fr [⟨17221812612, 17221812612, 1, 0⟩, ⟨17221812613, 17221812613, 1, 0⟩, ⟨17181966336, 17181966336, 1, 0⟩, ⟨17181967360, 17181967360, 1, 0⟩, ⟨17186226581, 17186257301, 2048, 0⟩, ⟨17181966338, 17181966338, 1, 0⟩, ⟨17181966495, 17181966495, 1, 0⟩, ⟨17186168832, 17186169247, 1, 0⟩, ⟨17221812361, 17221812361, 1, 0⟩] [.pwr, .flt, .evc] s (State.proofStep s) := by
  unfold State.proofStep
  refine Fr.iteh (fun _ => ?_) (fun _ => ?_)
  · first | assumption | exact Fr.refl _
  · extract_lets -merge -underBinder +onlyGivenNames x0
    refine Fr.cut x0 ?_ (fun h0 => ?_)
    · unfold x0
      refine Fr.iteh (fun _ => ?_) (fun _ => ?_)
      · refine Fr.wr (xs := [⟨17221812612, 17221812612, 1, 0⟩]) rfl rfl ?_
        first | assumption | exact Fr.refl _
      · first | assumption | exact Fr.refl _
    try clear_value x0
    extract_lets -merge -underBinder +onlyGivenNames x1
    refine Fr.cut x1 ?_ (fun h1 => ?_)
    · unfold x1
      refine Fr.iteh (fun _ => ?_) (fun _ => ?_)
      · refine Fr.wr (xs := [⟨17221812613, 17221812613, 1, 0⟩]) rfl rfl ?_
        first | assumption | exact Fr.refl _
      · first | assumption | exact Fr.refl _
    try clear_value x1
    refine Fr.iteh (fun _ => ?_) (fun _ => ?_)
    · refine Fr.step State.proofClear_fr rfl rfl ?_
      first | assumption | exact Fr.refl _
    · first | assumption | exact Fr.refl _

theorem execInterlockSample_fr {a0} {a1} {s} : FrRes [⟨17221812608, 17221812608, 1, 0⟩, ⟨17221812616, 17221812616, 1, 0⟩, ⟨17221812626, 17221812626, 1, 0⟩, ⟨17181966336, 17181966336, 1, 0⟩, ⟨17181967360, 17181967360, 1, 0⟩, ⟨17186226581, 17186257301, 2048, 0⟩, ⟨17181966338, 17181966338, 1, 0⟩, ⟨17181966495, 17181966495, 1, 0⟩, ⟨17186168832, 17186169247, 1, 0⟩, ⟨17221812352, 17221812352, 1, 0⟩, ⟨17221812364, 17221812364, 1, 0⟩, ⟨17202941824, 17204383616, 131072, 0⟩, ⟨17221814288, 17221814288, 1, 0⟩, ⟨17221814272, 17221814272, 1, 0⟩, ⟨17205035139, 17205149827, 8192, 0⟩, ⟨17205035141, 17205149829, 8192, 0⟩, ⟨17205035140, 17205149828, 8192, 0⟩, ⟨17205035136, 17205149824, 8192, 0⟩, ⟨17202937984, 17204379776, 131072, 0⟩, ⟨17221812612, 17221812612, 1, 0⟩, ⟨17221812613, 17221812613, 1, 0⟩, ⟨17221812361, 17221812361, 1, 0⟩, ⟨17221812355, 17221812355, 1, 0⟩, ⟨17221812354, 17221812354, 1, 0⟩] [.safe, .pwr, .flt, .evc, .lane, .tl] s (execInterlockSample a0 a1 s) := by
  unfold execInterlockSample
  refine FrRes.next ?_
  refine Fr.iteh (fun _ => ?_) (fun _ => ?_)
  · first | assumption | exact Fr.refl _
  · extract_lets -merge -underBinder +onlyGivenNames x0
    refine Fr.cut x0 ?_ (fun h0 => ?_)
    · unfold x0
      refine Fr.forFin ?_ (fun i t ht => ?_)
      · first | assumption | exact Fr.refl _
      · refine Fr.step State.sampleInput_fr rfl rfl ?_
        first | assumption | exact Fr.refl _
    try clear_value x0
    extract_lets -merge -underBinder +onlyGivenNames x1
    refine Fr.cut x1 ?_ (fun h1 => ?_)
    · unfold x1
      refine Fr.forFin ?_ (fun i t ht => ?_)
      · first | assumption | exact Fr.refl _
      · refine Fr.step State.cycleIl_fr rfl rfl ?_
        first | assumption | exact Fr.refl _
    try clear_value x1
    extract_lets -merge -underBinder +onlyGivenNames x2
    refine Fr.cut x2 ?_ (fun h2 => ?_)
    · unfold x2
      refine Fr.forFin ?_ (fun i t ht => ?_)
      · first | assumption | exact Fr.refl _
      · refine Fr.iteh (fun _ => ?_) (fun _ => ?_)
        · refine Fr.wr (xs := [⟨17221812616, 17221812616, 1, 0⟩, ⟨17221812626, 17221812626, 1, 0⟩]) (by unfold discCnt; exact (Keys.any_ite (xs := [⟨17221812616, 17221812616, 1, 0⟩]) (ys := [⟨17221812626, 17221812626, 1, 0⟩]) rfl rfl)) rfl ?_
          first | assumption | exact Fr.refl _
        · first | assumption | exact Fr.refl _
    try clear_value x2
    refine Fr.step State.showSafe_fr rfl rfl ?_
    refine Fr.step State.proofStep_fr rfl rfl ?_
    refine Fr.step State.showIl_fr rfl rfl ?_
    first | assumption | exact Fr.refl _

theorem execTestPulseCheck_fr {a0} {a1} {a2} {a3} {s} : FrRes [⟨17181966336, 17181966336, 1, 0⟩, ⟨17181967360, 17181967360, 1, 0⟩, ⟨17186226581, 17186257301, 2048, 0⟩, ⟨17181966338, 17181966338, 1, 0⟩, ⟨17181966495, 17181966495, 1, 0⟩, ⟨17186168832, 17186169247, 1, 0⟩, ⟨17221812357, 17221812357, 1, 0⟩, ⟨17221812352, 17221812352, 1, 0⟩, ⟨17221812364, 17221812364, 1, 0⟩, ⟨17202941824, 17204383616, 131072, 0⟩, ⟨17221814288, 17221814288, 1, 0⟩, ⟨17221814272, 17221814272, 1, 0⟩, ⟨17205035139, 17205149827, 8192, 0⟩, ⟨17205035141, 17205149829, 8192, 0⟩, ⟨17205035140, 17205149828, 8192, 0⟩, ⟨17205035136, 17205149824, 8192, 0⟩, ⟨17202937984, 17204379776, 131072, 0⟩] [.safe, .flt, .pwr, .evc, .lane, .tl] s (execTestPulseCheck a0 a1 a2 a3 s) := by
  unfold execTestPulseCheck
  refine FrRes.next ?_
  refine Fr.iteh (fun _ => ?_) (fun _ => ?_)
  · first | assumption | exact Fr.refl _
  · extract_lets -merge -underBinder +onlyGivenNames x0
    refine Fr.cut x0 ?_ (fun h0 => ?_)
    · unfold x0
      refine Fr.forFin ?_ (fun i t ht => ?_)
      · first | assumption | exact Fr.refl _
      · refine Fr.iteh (fun _ => ?_) (fun _ => ?_)
        · first | assumption | exact Fr.refl _
        · extract_lets -merge -underBinder +onlyGivenNames x1
          try clear_value (e1 : x1 = _)
          extract_lets -merge -underBinder +onlyGivenNames x2
          try clear_value (e2 : x2 = _)
          extract_lets -merge -underBinder +onlyGivenNames x3
          extract_lets -merge -underBinder +onlyGivenNames x4
          refine Fr.cut x4 ?_ (fun h4 => ?_)
          · unfold x4
            refine Fr.set_safe rfl ?_
            first | assumption | exact Fr.refl _
          try clear_value x4
          refine Fr.iteh (fun _ => ?_) (fun _ => ?_)
          · unfold State.ilFault
            try dsimp -zeta only
            extract_lets -merge -underBinder +onlyGivenNames x5
            refine Fr.cut x5 ?_ (fun h5 => ?_)
            · unfold x5
              refine Fr.step State.raise_fr rfl rfl ?_
              refine Fr.step State.fire_fr rfl rfl ?_
              refine Fr.wr (xs := [⟨17221812357, 17221812357, 1, 0⟩]) rfl rfl ?_
              first | assumption | exact Fr.refl _
            try clear_value x5
            refine Fr.set_safe rfl ?_
            first | assumption | exact Fr.refl _
          · first | assumption | exact Fr.refl _
    try clear_value x0
    refine Fr.step State.showSafe_fr rfl rfl ?_
    first | assumption | exact Fr.refl _

theorem execDiscrepancyTick_fr {s} : FrRes [⟨17221812616, 17221812616, 1, 0⟩, ⟨17221812626, 17221812626, 1, 0⟩, ⟨17181966336, 17181966336, 1, 0⟩, ⟨17181967360, 17181967360, 1, 0⟩, ⟨17186226581, 17186257301, 2048, 0⟩, ⟨17181966338, 17181966338, 1, 0⟩, ⟨17181966495, 17181966495, 1, 0⟩, ⟨17186168832, 17186169247, 1, 0⟩, ⟨17221812356, 17221812356, 1, 0⟩, ⟨17221812352, 17221812352, 1, 0⟩, ⟨17221812364, 17221812364, 1, 0⟩, ⟨17202941824, 17204383616, 131072, 0⟩, ⟨17221814288, 17221814288, 1, 0⟩, ⟨17221814272, 17221814272, 1, 0⟩, ⟨17205035139, 17205149827, 8192, 0⟩, ⟨17205035141, 17205149829, 8192, 0⟩, ⟨17205035140, 17205149828, 8192, 0⟩, ⟨17205035136, 17205149824, 8192, 0⟩, ⟨17202937984, 17204379776, 131072, 0⟩] [.flt, .pwr, .evc, .safe, .lane, .tl] s (execDiscrepancyTick s) := by
  unfold execDiscrepancyTick
  refine FrRes.next ?_
  refine Fr.iteh (fun _ => ?_) (fun _ => ?_)
  · first | assumption | exact Fr.refl _
  · extract_lets -merge -underBinder +onlyGivenNames x0
    refine Fr.cut x0 ?_ (fun h0 => ?_)
    · unfold x0
      refine Fr.forFin ?_ (fun i t ht => ?_)
      · first | assumption | exact Fr.refl _
      · refine Fr.iteh (fun _ => ?_) (fun _ => ?_)
        · first | assumption | exact Fr.refl _
        · refine Fr.iteh (fun _ => ?_) (fun _ => ?_)
          · refine Fr.wr (xs := [⟨17221812616, 17221812616, 1, 0⟩, ⟨17221812626, 17221812626, 1, 0⟩]) (by unfold discCnt; exact (Keys.any_ite (xs := [⟨17221812616, 17221812616, 1, 0⟩]) (ys := [⟨17221812626, 17221812626, 1, 0⟩]) rfl rfl)) rfl ?_
            first | assumption | exact Fr.refl _
          · extract_lets -merge -underBinder +onlyGivenNames x1
            refine Fr.cut x1 ?_ (fun h1 => ?_)
            · unfold x1
              refine Fr.inc (xs := [⟨17221812616, 17221812616, 1, 0⟩, ⟨17221812626, 17221812626, 1, 0⟩]) (by unfold discCnt; exact (Keys.any_ite (xs := [⟨17221812616, 17221812616, 1, 0⟩]) (ys := [⟨17221812626, 17221812626, 1, 0⟩]) rfl rfl)) rfl ?_
              first | assumption | exact Fr.refl _
            try clear_value x1
            extract_lets -merge -underBinder +onlyGivenNames x2
            try clear_value (e2 : x2 = _)
            refine Fr.iteh (fun _ => ?_) (fun _ => ?_)
            · unfold State.ilFault
              try dsimp -zeta only
              extract_lets -merge -underBinder +onlyGivenNames x3
              refine Fr.cut x3 ?_ (fun h3 => ?_)
              · unfold x3
                refine Fr.step State.raise_fr rfl rfl ?_
                refine Fr.step State.fire_fr rfl rfl ?_
                refine Fr.wr (xs := [⟨17221812356, 17221812356, 1, 0⟩]) rfl rfl ?_
                first | assumption | exact Fr.refl _
              try clear_value x3
              refine Fr.set_safe rfl ?_
              first | assumption | exact Fr.refl _
            · first | assumption | exact Fr.refl _
    try clear_value x0
    refine Fr.step State.showSafe_fr rfl rfl ?_
    first | assumption | exact Fr.refl _

theorem execFallbackSilence_fr {s} : FrRes [⟨17205035139, 17205149827, 8192, 0⟩, ⟨17205035141, 17205149829, 8192, 0⟩, ⟨17205035140, 17205149828, 8192, 0⟩, ⟨17205035136, 17205149824, 8192, 0⟩, ⟨17181966336, 17181966336, 1, 0⟩, ⟨17181967360, 17181967360, 1, 0⟩, ⟨17186226581, 17186257301, 2048, 0⟩, ⟨17181966338, 17181966338, 1, 0⟩, ⟨17181966495, 17181966495, 1, 0⟩, ⟨17186168832, 17186169247, 1, 0⟩, ⟨17202937984, 17204379776, 131072, 0⟩] [.safe, .pwr, .flt, .evc, .tl] s (execFallbackSilence s) := by
  unfold execFallbackSilence
  refine FrRes.next ?_
  refine Fr.iteh (fun _ => ?_) (fun _ => ?_)
  · first | assumption | exact Fr.refl _
  · extract_lets -merge -underBinder +onlyGivenNames x0
    extract_lets -merge -underBinder +onlyGivenNames x1
    refine Fr.cut x1 ?_ (fun h1 => ?_)
    · unfold x1
      refine Fr.set_safe rfl ?_
      first | assumption | exact Fr.refl _
    try clear_value x1
    refine Fr.forFin ?_ (fun i t ht => ?_)
    · first | assumption | exact Fr.refl _
    · refine Fr.step State.tlSilence_fr rfl rfl ?_
      first | assumption | exact Fr.refl _

theorem execDualWinExpiry_fr {s} : FrRes [⟨17181966336, 17181966336, 1, 0⟩, ⟨17181967360, 17181967360, 1, 0⟩, ⟨17186226581, 17186257301, 2048, 0⟩, ⟨17181966338, 17181966338, 1, 0⟩, ⟨17181966495, 17181966495, 1, 0⟩, ⟨17186168832, 17186169247, 1, 0⟩, ⟨17221815176, 17221815176, 1, 0⟩, ⟨17221815312, 17221815312, 1, 0⟩, ⟨17221815424, 17221815424, 1, 0⟩, ⟨17221815440, 17221815440, 1, 0⟩] [.pwr, .flt, .evc, .safe] s (execDualWinExpiry s) := by
  unfold execDualWinExpiry
  refine FrRes.next ?_
  split
  · first | assumption | exact Fr.refl _
  · refine Fr.step State.msgReject_fr rfl rfl ?_
    refine Fr.set_safe rfl ?_
    first | assumption | exact Fr.refl _

theorem execSafeWatchExpiry_fr {s} : FrRes [⟨17221828608, 17221832192, 512, 0⟩, ⟨17181966336, 17181966336, 1, 0⟩, ⟨17181967360, 17181967360, 1, 0⟩, ⟨17186226581, 17186257301, 2048, 0⟩, ⟨17181966338, 17181966338, 1, 0⟩, ⟨17181966495, 17181966495, 1, 0⟩, ⟨17186168832, 17186169247, 1, 0⟩, ⟨17221812362, 17221812362, 1, 0⟩] [.safe, .flt, .pwr, .evc] s (execSafeWatchExpiry s) := by
  unfold execSafeWatchExpiry
  refine FrRes.next ?_
  refine Fr.iteh (fun _ => ?_) (fun _ => ?_)
  · first | assumption | exact Fr.refl _
  · extract_lets -merge -underBinder +onlyGivenNames x0
    refine Fr.cut x0 ?_ (fun h0 => ?_)
    · unfold x0
      refine Fr.forFin ?_ (fun i t ht => ?_)
      · first | assumption | exact Fr.refl _
      · refine Fr.step State.setGrant_fr rfl rfl ?_
        refine Fr.wr (xs := [⟨17221828608, 17221832192, 512, 0⟩]) (Reg.SAFE_L_GBUF_VALID_key (by first | omega | (simp only [List.mem_range] at *; omega))) rfl ?_
        first | assumption | exact Fr.refl _
    try clear_value x0
    refine Fr.step State.raise_fr rfl rfl ?_
    refine Fr.step State.fire_fr rfl rfl ?_
    refine Fr.wr (xs := [⟨17221812362, 17221812362, 1, 0⟩]) rfl rfl ?_
    first | assumption | exact Fr.refl _

theorem execSafeGrantWrite_fr {a0} {a1} {a2} {s} : FrRes [⟨17221828608, 17221832223, 512, 31⟩, ⟨17221812365, 17221812365, 1, 0⟩, ⟨17181966336, 17181966336, 1, 0⟩, ⟨17181967360, 17181967360, 1, 0⟩, ⟨17186226581, 17186257301, 2048, 0⟩, ⟨17181966338, 17181966338, 1, 0⟩, ⟨17181966495, 17181966495, 1, 0⟩, ⟨17186168832, 17186169247, 1, 0⟩, ⟨17188261632, 17188261632, 1, 0⟩, ⟨17181967232, 17181967263, 1, 0⟩] [.flt, .evc, .pwr, .pair, .safe] s (execSafeGrantWrite a0 a1 a2 s) := by
  unfold execSafeGrantWrite
  extract_lets -merge -underBinder +onlyGivenNames x0
  refine FrRes.next ?_
  refine busWrite_fr (x := ⟨17221828608, 17221832223, 512, 31⟩) (Keys.word_intro (by first | omega | (omega)) (by first | omega | (omega)) (by first | omega | (omega))) (fun u => State.werr_0x2014 (by omega)) rfl rfl ?_ (fun t ht => ?_)
  · first | assumption | exact Fr.refl _
  · extract_lets -merge -underBinder +onlyGivenNames x1
    try clear_value x1
    refine Fr.iteh (fun _ => ?_) (fun _ => ?_)
    · refine Fr.step (State.werr_0x2014 (by omega)) rfl rfl ?_
      first | assumption | exact Fr.refl _
    · extract_lets -merge -underBinder +onlyGivenNames x2
      refine Fr.cut x2 ?_ (fun h2 => ?_)
      · unfold x2
        refine Fr.wr (xs := [⟨17221828614, 17221832198, 512, 0⟩]) (Reg.SAFE_L_GBUF_ADDR_key (by first | omega | (simp only [List.mem_range] at *; omega))) rfl ?_
        refine Fr.wrB (xs := [⟨17221828608, 17221832192, 512, 0⟩]) (Reg.SAFE_L_GBUF_VALID_key (by first | omega | (simp only [List.mem_range] at *; omega))) rfl ?_
        first | assumption | exact Fr.refl _
      try clear_value x2
      refine Fr.step State.setGrant_fr rfl rfl ?_
      first | assumption | exact Fr.refl _

theorem execSafeMboxPop_fr {a0} {a1} {s} : FrRes [⟨17221816192, 17221816223, 32, 31⟩, ⟨17221812365, 17221812365, 1, 0⟩, ⟨17181966336, 17181966336, 1, 0⟩, ⟨17181967360, 17181967360, 1, 0⟩, ⟨17186226581, 17186257301, 2048, 0⟩, ⟨17181966338, 17181966338, 1, 0⟩, ⟨17181966495, 17181966495, 1, 0⟩, ⟨17186168832, 17186169247, 1, 0⟩, ⟨17188261632, 17188261632, 1, 0⟩, ⟨17181967232, 17181967263, 1, 0⟩, ⟨17221815169, 17221815169, 1, 0⟩] [.flt, .evc, .pwr, .pair] s (execSafeMboxPop a0 a1 s) := by
  unfold execSafeMboxPop
  refine FrRes.next ?_
  refine busWrite_fr (x := ⟨17221816192, 17221816223, 32, 31⟩) (Keys.word_intro (by first | omega | (omega)) (by first | omega | (omega)) (by first | omega | (omega))) (fun u => State.werr_0x2014 (by omega)) rfl rfl ?_ (fun t ht => ?_)
  · first | assumption | exact Fr.refl _
  · refine Fr.iteh (fun _ => ?_) (fun _ => ?_)
    · refine Fr.wr (xs := [⟨17221815169, 17221815169, 1, 0⟩]) rfl rfl ?_
      first | assumption | exact Fr.refl _
    · first | assumption | exact Fr.refl _

end Sys2Proof.Machine
end

