-- ==== Sys2Proof/Laws/WarpFrame.lean ====
section
/-! SUPPORT. What each operation and command of Machine/Warp.lean changes at most: register blocks and zones of the state. -/

namespace Sys2Proof.Machine

theorem execSpanCheckStart_fr {s} : FrRes [⟨17198753155, 17198767491, 2048, 0⟩] [.layer] s (execSpanCheckStart s) := by
  unfold execSpanCheckStart
  refine FrRes.next ?_
  split
  · extract_lets -merge -underBinder +onlyGivenNames x0
    try clear_value (e0 : x0 = _)
    extract_lets -merge -underBinder +onlyGivenNames x1
    extract_lets -merge -underBinder +onlyGivenNames x2
    refine Fr.wr (xs := [⟨17198753155, 17198767491, 2048, 0⟩]) (Reg.LAYER_L_WARP_STATUS_CHK_BUSY_key (by first | omega | (simp only [List.mem_range] at *; omega))) rfl ?_
    refine Fr.step State.setLayer_fr rfl rfl ?_
    first | assumption | exact Fr.refl _
  · first | assumption | exact Fr.refl _

theorem execSpanCheckDone_fr {a0} {s} : FrRes [⟨17198753155, 17198767491, 2048, 0⟩, ⟨17188261632, 17188261632, 1, 0⟩, ⟨17181966336, 17181966336, 1, 0⟩, ⟨17181967360, 17181967360, 1, 0⟩, ⟨17186226581, 17186257301, 2048, 0⟩, ⟨17181966338, 17181966338, 1, 0⟩, ⟨17181966495, 17181966495, 1, 0⟩, ⟨17186168832, 17186169247, 1, 0⟩, ⟨17181967232, 17181967263, 1, 0⟩, ⟨17198753296, 17198767632, 2048, 0⟩, ⟨17198753292, 17198767628, 2048, 0⟩, ⟨17198753280, 17198767616, 2048, 0⟩, ⟨17198753160, 17198767496, 2048, 0⟩, ⟨17198753156, 17198767492, 2048, 0⟩, ⟨17198743688, 17198743695, 1, 0⟩, ⟨17198753154, 17198767490, 2048, 0⟩, ⟨17198743816, 17198743816, 1, 0⟩, ⟨17198743808, 17198743808, 1, 0⟩, ⟨17198743553, 17198743553, 1, 0⟩] [.layer, .flt, .pwr, .evc] s (execSpanCheckDone a0 s) := by
  unfold execSpanCheckDone
  refine FrRes.next ?_
  split
  · first | assumption | exact Fr.refl _
  · extract_lets -merge -underBinder +onlyGivenNames x0
    try clear_value (e0 : x0 = _)
    extract_lets -merge -underBinder +onlyGivenNames x1
    refine Fr.cut x1 ?_ (fun h1 => ?_)
    · unfold x1
      refine Fr.step State.dropWalk_fr rfl rfl ?_
      first | assumption | exact Fr.refl _
    try clear_value x1
    extract_lets -merge -underBinder +onlyGivenNames x2
    extract_lets -merge -underBinder +onlyGivenNames x3
    refine Fr.cut x3 ?_ (fun h3 => ?_)
    · unfold x3
      split
      · refine Fr.step State.readErr_fr rfl rfl ?_
        first | assumption | exact Fr.refl _
      · first | assumption | exact Fr.refl _
    try clear_value x3
    extract_lets -merge -underBinder +onlyGivenNames x4
    refine Fr.cut x4 ?_ (fun h4 => ?_)
    · unfold x4
      split
      · refine Fr.step State.checkFailed_fr rfl rfl ?_
        first | assumption | exact Fr.refl _
      · refine Fr.step State.checkPassed_fr rfl rfl ?_
        first | assumption | exact Fr.refl _
    try clear_value x4
    refine Fr.step State.layerRetest_fr rfl rfl ?_
    first | assumption | exact Fr.refl _

theorem execWarpTapClamp_fr {a0} {a1} {s} : FrRes [⟨17198753408, 17198767744, 2048, 0⟩] [.flt, .layer] s (execWarpTapClamp a0 a1 s) := by
  unfold execWarpTapClamp
  refine FrRes.next ?_
  split
  · first | assumption | exact Fr.refl _
  · refine Fr.iteh (fun _ => ?_) (fun _ => ?_)
    · first | assumption | exact Fr.refl _
    · extract_lets -merge -underBinder +onlyGivenNames x0
      refine Fr.cut x0 ?_ (fun h0 => ?_)
      · unfold x0
        refine Fr.inc (xs := [⟨17198753408, 17198767744, 2048, 0⟩]) (Reg.LAYER_L_CLAMP_CNT_COUNT_key (by first | omega | (simp only [List.mem_range] at *; omega))) rfl ?_
        first | assumption | exact Fr.refl _
      try clear_value x0
      refine Fr.iteh (fun _ => ?_) (fun _ => ?_)
      · first | assumption | exact Fr.refl _
      · refine Fr.step State.raise_fr rfl rfl ?_
        refine Fr.step State.setLayer_fr rfl rfl ?_
        first | assumption | exact Fr.refl _

end Sys2Proof.Machine
end

