-- ==== Sys2Proof/Laws/WinFrame.lean ====
section
/-! SUPPORT. What each operation and command of Machine/Win.lean changes at most: register blocks and zones of the state. -/

namespace Sys2Proof.Machine

theorem State.winFree_fr {s} : Fr [⟨17194557440, 17194573823, 1, 0⟩, ⟨17194549919, 17194549919, 1, 0⟩, ⟨17194549764, 17194549764, 1, 0⟩] [.win] s (State.winFree s) := by
  unfold State.winFree
  refine Fr.wr (xs := [⟨17194549764, 17194549764, 1, 0⟩]) rfl rfl (Fr.wr (xs := [⟨17194549919, 17194549919, 1, 0⟩]) rfl rfl (Fr.set_win rfl ?_ (t := { s with regs := s.regs.clear 0x20070100 0x20070300 })))
  refine ⟨fun k h0 hk => ?_, fun z _ => by cases z <;> simp [State.sameIn], rfl, rfl, fun hw => ?_⟩
  · refine RegFile.find_filter _ _ (fun k => !(decide (0x20070100 * 32 ≤ k) && decide (k < 0x20070300 * 32))) (fun e => rfl) k ?_
    have := hk _ (List.mem_cons_self ..)
    simp only [Keys.has, Nat.mod_one, Nat.zero_le, decide_true, Bool.and_true, Bool.and_eq_false_iff, decide_eq_false_iff_not] at this
    simp only [Bool.not_eq_true', Bool.and_eq_false_iff, decide_eq_false_iff_not]
    omega
  · have := (State.wf_iff _).1 hw
    exact (State.wf_iff _).2 ⟨RegFile.wf_filter _ _ this.1, this.2⟩

theorem State.winClear_fr {s} : Fr [⟨17194557440, 17194573823, 1, 0⟩, ⟨17194549919, 17194549919, 1, 0⟩, ⟨17194549764, 17194549764, 1, 0⟩, ⟨17181966336, 17181966336, 1, 0⟩, ⟨17181967360, 17181967360, 1, 0⟩, ⟨17186226581, 17186257301, 2048, 0⟩, ⟨17181966338, 17181966338, 1, 0⟩, ⟨17181966495, 17181966495, 1, 0⟩, ⟨17186168832, 17186169247, 1, 0⟩, ⟨17194549776, 17194549776, 1, 0⟩, ⟨17192452352, 17192452352, 1, 0⟩, ⟨17192452608, 17192452608, 1, 0⟩, ⟨17192452480, 17192452480, 1, 0⟩, ⟨17192452229, 17192452229, 1, 0⟩, ⟨17192452228, 17192452228, 1, 0⟩, ⟨17188261632, 17188261632, 1, 0⟩, ⟨17181967232, 17181967263, 1, 0⟩, ⟨17194615425, 17194618497, 1024, 0⟩, ⟨17194615296, 17194618368, 1024, 0⟩] [.win, .free, .mem, .flt, .pwr, .evc, .memc] s (State.winClear s) := by
  unfold State.winClear
  refine Fr.step State.winFree_fr rfl rfl ?_
  refine Fr.step State.dmaWrites_fr rfl rfl ?_
  first | assumption | exact Fr.refl _

theorem execWinEnable_fr {a0} {a1} {s} : FrRes [⟨17194549248, 17194549279, 32, 31⟩, ⟨17194549760, 17194549760, 1, 0⟩, ⟨17181966336, 17181966336, 1, 0⟩, ⟨17181967360, 17181967360, 1, 0⟩, ⟨17186226581, 17186257301, 2048, 0⟩, ⟨17181966338, 17181966338, 1, 0⟩, ⟨17181966495, 17181966495, 1, 0⟩, ⟨17186168832, 17186169247, 1, 0⟩, ⟨17188261632, 17188261632, 1, 0⟩, ⟨17181967232, 17181967263, 1, 0⟩, ⟨17194557440, 17194573823, 1, 0⟩, ⟨17194549919, 17194549919, 1, 0⟩, ⟨17194549764, 17194549764, 1, 0⟩, ⟨17194549776, 17194549776, 1, 0⟩, ⟨17192452352, 17192452352, 1, 0⟩, ⟨17192452608, 17192452608, 1, 0⟩, ⟨17192452480, 17192452480, 1, 0⟩, ⟨17192452229, 17192452229, 1, 0⟩, ⟨17192452228, 17192452228, 1, 0⟩, ⟨17194615425, 17194618497, 1024, 0⟩, ⟨17194615296, 17194618368, 1024, 0⟩] [.flt, .evc, .pwr, .pair, .win, .free, .mem, .memc] s (execWinEnable a0 a1 s) := by
  unfold execWinEnable
  refine FrRes.next ?_
  refine busWrite_fr (x := ⟨17194549248, 17194549279, 32, 31⟩) (Keys.word_intro (by first | omega | (omega)) (by first | omega | (omega)) (by first | omega | (omega))) (fun u => State.werr_0x2007 (by omega)) rfl rfl ?_ (fun t ht => ?_)
  · first | assumption | exact Fr.refl _
  · refine Fr.iteh (fun _ => ?_) (fun _ => ?_)
    · refine Fr.iteh (fun _ => ?_) (fun _ => ?_)
      · refine Fr.wr (xs := [⟨17194549248, 17194549248, 1, 0⟩]) rfl rfl ?_
        refine Fr.step State.winClear_fr rfl rfl ?_
        first | assumption | exact Fr.refl _
      · first | assumption | exact Fr.refl _
    · refine Fr.iteh (fun _ => ?_) (fun _ => ?_)
      · first | assumption | exact Fr.refl _
      · refine Fr.iteh (fun _ => ?_) (fun _ => ?_)
        · refine Fr.wr (xs := [⟨17194549248, 17194549248, 1, 0⟩]) rfl rfl ?_
          refine Fr.step State.winClear_fr rfl rfl ?_
          first | assumption | exact Fr.refl _
        · refine Fr.step (State.werr_0x2007 (by omega)) rfl rfl ?_
          first | assumption | exact Fr.refl _

theorem execWinLock_fr {a0} {a1} {s} : FrRes [⟨17194549248, 17194549279, 32, 31⟩, ⟨17194549760, 17194549760, 1, 0⟩, ⟨17181966336, 17181966336, 1, 0⟩, ⟨17181967360, 17181967360, 1, 0⟩, ⟨17186226581, 17186257301, 2048, 0⟩, ⟨17181966338, 17181966338, 1, 0⟩, ⟨17181966495, 17181966495, 1, 0⟩, ⟨17186168832, 17186169247, 1, 0⟩, ⟨17188261632, 17188261632, 1, 0⟩, ⟨17181967232, 17181967263, 1, 0⟩] [.flt, .evc, .pwr, .pair] s (execWinLock a0 a1 s) := by
  unfold execWinLock
  refine FrRes.next ?_
  refine busWrite_fr (x := ⟨17194549248, 17194549279, 32, 31⟩) (Keys.word_intro (by first | omega | (omega)) (by first | omega | (omega)) (by first | omega | (omega))) (fun u => State.werr_0x2007 (by omega)) rfl rfl ?_ (fun t ht => ?_)
  · first | assumption | exact Fr.refl _
  · refine Fr.iteh (fun _ => ?_) (fun _ => ?_)
    · refine Fr.wr (xs := [⟨17194549249, 17194549249, 1, 0⟩]) rfl rfl ?_
      first | assumption | exact Fr.refl _
    · first | assumption | exact Fr.refl _

theorem execWinXferRequest_fr {a0} {a1} {s} : FrRes [⟨17194549888, 17194549919, 32, 31⟩, ⟨17194549760, 17194549760, 1, 0⟩, ⟨17181966336, 17181966336, 1, 0⟩, ⟨17181967360, 17181967360, 1, 0⟩, ⟨17186226581, 17186257301, 2048, 0⟩, ⟨17181966338, 17181966338, 1, 0⟩, ⟨17181966495, 17181966495, 1, 0⟩, ⟨17186168832, 17186169247, 1, 0⟩, ⟨17188261632, 17188261632, 1, 0⟩, ⟨17181967232, 17181967263, 1, 0⟩, ⟨17194549761, 17194549761, 1, 0⟩, ⟨17194549764, 17194549764, 1, 0⟩, ⟨17194557440, 17194573724, 4, 0⟩, ⟨17194549776, 17194549776, 1, 0⟩, ⟨17192452352, 17192452352, 1, 0⟩, ⟨17192452608, 17192452608, 1, 0⟩, ⟨17192452480, 17192452480, 1, 0⟩, ⟨17192452229, 17192452229, 1, 0⟩, ⟨17192452228, 17192452228, 1, 0⟩, ⟨17194615425, 17194618497, 1024, 0⟩, ⟨17194615296, 17194618368, 1024, 0⟩, ⟨17198743816, 17198743816, 1, 0⟩, ⟨17198743808, 17198743808, 1, 0⟩, ⟨17198743553, 17198743553, 1, 0⟩, ⟨17198753156, 17198767492, 2048, 0⟩, ⟨17198743688, 17198743695, 1, 0⟩] [.flt, .evc, .pwr, .pair, .win, .free, .mem, .memc, .layer] s (execWinXferRequest a0 a1 s) := by
  unfold execWinXferRequest
  refine FrRes.next ?_
  refine busWrite_fr (x := ⟨17194549888, 17194549919, 32, 31⟩) (Keys.word_intro (by first | omega | (omega)) (by first | omega | (omega)) (by first | omega | (omega))) (fun u => State.werr_0x2007 (by omega)) rfl rfl ?_ (fun t ht => ?_)
  · first | assumption | exact Fr.refl _
  · refine Fr.iteh (fun _ => ?_) (fun _ => ?_)
    · first | assumption | exact Fr.refl _
    · extract_lets -merge -underBinder +onlyGivenNames x0
      try clear_value (e0 : x0 = _)
      extract_lets -merge -underBinder +onlyGivenNames x1
      try clear_value (e1 : x1 = _)
      extract_lets -merge -underBinder +onlyGivenNames x2
      try clear_value (e2 : x2 = _)
      refine Fr.iteh (fun _ => ?_) (fun _ => ?_)
      · refine Fr.step State.xferEnds_fr rfl rfl ?_
        first | assumption | exact Fr.refl _
      · refine Fr.iteh (fun _ => ?_) (fun _ => ?_)
        · refine Fr.step State.xferEnds_fr rfl rfl ?_
          first | assumption | exact Fr.refl _
        · refine Fr.iteh (fun _ => ?_) (fun _ => ?_)
          · refine Fr.step State.raiseOcc_fr rfl rfl ?_
            refine Fr.step State.xferEnds_fr rfl rfl ?_
            first | assumption | exact Fr.refl _
          · refine Fr.iteh (fun _ => ?_) (fun _ => ?_)
            · extract_lets -merge -underBinder +onlyGivenNames x3
              extract_lets -merge -underBinder +onlyGivenNames x4
              refine Fr.cut x4 ?_ (fun h4 => ?_)
              · unfold x4
                refine Fr.wr (xs := [⟨17194549764, 17194549764, 1, 0⟩]) rfl rfl ?_
                refine Fr.set_win rfl ?_
                first | assumption | exact Fr.refl _
              try clear_value x4
              refine Fr.iteh (fun _ => ?_) (fun _ => ?_)
              · first | assumption | exact Fr.refl _
              · refine Fr.step State.retireHandover_fr rfl rfl ?_
                first | assumption | exact Fr.refl _
            · refine Fr.iteh (fun _ => ?_) (fun _ => ?_)
              · refine Fr.step State.xferEnds_fr rfl rfl ?_
                first | assumption | exact Fr.refl _
              · extract_lets -merge -underBinder +onlyGivenNames x5
                refine Fr.cut x5 ?_ (fun h5 => ?_)
                · unfold x5
                  refine Fr.step State.dmaWrites_fr rfl rfl ?_
                  first | assumption | exact Fr.refl _
                try clear_value x5
                refine Fr.wr (xs := [⟨17194549919, 17194549919, 1, 0⟩]) rfl rfl ?_
                refine Fr.set_win rfl ?_
                first | assumption | exact Fr.refl _

theorem execWinHandover_fr {s} : FrRes [⟨17194557440, 17194573724, 4, 0⟩, ⟨17198743816, 17198743816, 1, 0⟩, ⟨17181966336, 17181966336, 1, 0⟩, ⟨17181967360, 17181967360, 1, 0⟩, ⟨17186226581, 17186257301, 2048, 0⟩, ⟨17181966338, 17181966338, 1, 0⟩, ⟨17181966495, 17181966495, 1, 0⟩, ⟨17186168832, 17186169247, 1, 0⟩, ⟨17198743808, 17198743808, 1, 0⟩, ⟨17198743553, 17198743553, 1, 0⟩, ⟨17198753156, 17198767492, 2048, 0⟩, ⟨17198743688, 17198743695, 1, 0⟩, ⟨17194549761, 17194549761, 1, 0⟩, ⟨17194549919, 17194549919, 1, 0⟩] [.win, .pwr, .flt, .evc, .layer] s (execWinHandover s) := by
  unfold execWinHandover
  refine FrRes.next ?_
  split
  · first | assumption | exact Fr.refl _
  · extract_lets -merge -underBinder +onlyGivenNames x0
    extract_lets -merge -underBinder +onlyGivenNames x1
    refine Fr.cut x1 ?_ (fun h1 => ?_)
    · unfold x1
      refine Fr.step State.setOwner_fr rfl rfl ?_
      refine Fr.set_win rfl ?_
      first | assumption | exact Fr.refl _
    try clear_value x1
    refine Fr.step State.layerRetest_fr rfl rfl ?_
    refine Fr.step State.xferEnds_fr rfl rfl ?_
    refine Fr.wr (xs := [⟨17194549919, 17194549919, 1, 0⟩]) rfl rfl ?_
    first | assumption | exact Fr.refl _

theorem execWinRetireHandover_fr {s} : FrRes [⟨17194557440, 17194573724, 4, 0⟩, ⟨17181966336, 17181966336, 1, 0⟩, ⟨17181967360, 17181967360, 1, 0⟩, ⟨17186226581, 17186257301, 2048, 0⟩, ⟨17181966338, 17181966338, 1, 0⟩, ⟨17181966495, 17181966495, 1, 0⟩, ⟨17186168832, 17186169247, 1, 0⟩, ⟨17194549776, 17194549776, 1, 0⟩, ⟨17192452352, 17192452352, 1, 0⟩, ⟨17192452608, 17192452608, 1, 0⟩, ⟨17192452480, 17192452480, 1, 0⟩, ⟨17192452229, 17192452229, 1, 0⟩, ⟨17192452228, 17192452228, 1, 0⟩, ⟨17188261632, 17188261632, 1, 0⟩, ⟨17181967232, 17181967263, 1, 0⟩, ⟨17194615425, 17194618497, 1024, 0⟩, ⟨17194615296, 17194618368, 1024, 0⟩, ⟨17194549761, 17194549761, 1, 0⟩, ⟨17194549764, 17194549764, 1, 0⟩, ⟨17198743816, 17198743816, 1, 0⟩, ⟨17198743808, 17198743808, 1, 0⟩, ⟨17198743553, 17198743553, 1, 0⟩, ⟨17198753156, 17198767492, 2048, 0⟩, ⟨17198743688, 17198743695, 1, 0⟩] [.free, .mem, .flt, .pwr, .evc, .memc, .win, .layer] s (execWinRetireHandover s) := by
  unfold execWinRetireHandover
  refine FrRes.next ?_
  refine Fr.step State.retireHandover_fr rfl rfl ?_
  first | assumption | exact Fr.refl _

theorem execSlotWriteBlocked_fr {a0} {a1} {a2} {s} : FrRes [⟨17188261632, 17188261632, 1, 0⟩, ⟨17181966336, 17181966336, 1, 0⟩, ⟨17181967360, 17181967360, 1, 0⟩, ⟨17186226581, 17186257301, 2048, 0⟩, ⟨17181966338, 17181966338, 1, 0⟩, ⟨17181966495, 17181966495, 1, 0⟩, ⟨17186168832, 17186169247, 1, 0⟩, ⟨17194549776, 17194549776, 1, 0⟩, ⟨17192452352, 17192452352, 1, 0⟩, ⟨17192452608, 17192452608, 1, 0⟩, ⟨17192452480, 17192452480, 1, 0⟩, ⟨17192452229, 17192452229, 1, 0⟩, ⟨17192452228, 17192452228, 1, 0⟩, ⟨17181967232, 17181967263, 1, 0⟩] [.flt, .mem, .pwr, .evc, .memc] s (execSlotWriteBlocked a0 a1 a2 s) := by
  unfold execSlotWriteBlocked
  refine FrRes.next ?_
  refine Fr.step State.dramWrite_fr rfl rfl ?_
  first | assumption | exact Fr.refl _

theorem execWinDmaGo_fr {a0} {a1} {a2} {s} : FrRes [⟨17194615296, 17194618399, 1024, 31⟩, ⟨17194549760, 17194549760, 1, 0⟩, ⟨17181966336, 17181966336, 1, 0⟩, ⟨17181967360, 17181967360, 1, 0⟩, ⟨17186226581, 17186257301, 2048, 0⟩, ⟨17181966338, 17181966338, 1, 0⟩, ⟨17181966495, 17181966495, 1, 0⟩, ⟨17186168832, 17186169247, 1, 0⟩, ⟨17188261632, 17188261632, 1, 0⟩, ⟨17181967232, 17181967263, 1, 0⟩] [.flt, .evc, .pwr, .pair, .win] s (execWinDmaGo a0 a1 a2 s) := by
  unfold execWinDmaGo
  refine FrRes.next ?_
  refine busWrite_fr (x := ⟨17194615296, 17194618399, 1024, 31⟩) (Keys.word_intro (by first | omega | (unfold winDmaAddr; omega)) (by first | omega | (unfold winDmaAddr; omega)) (by first | omega | (unfold winDmaAddr; omega))) (fun u => State.werr_0x2007 (by unfold winDmaAddr; omega)) rfl rfl ?_ (fun t ht => ?_)
  · first | assumption | exact Fr.refl _
  · refine Fr.iteh (fun _ => ?_) (fun _ => ?_)
    · first | assumption | exact Fr.refl _
    · refine Fr.iteh (fun _ => ?_) (fun _ => ?_)
      · refine Fr.step (State.werr_0x2007 (by unfold winDmaAddr; omega)) rfl rfl ?_
        first | assumption | exact Fr.refl _
      · extract_lets -merge -underBinder +onlyGivenNames x0
        refine Fr.wr (xs := [⟨17194615296, 17194618368, 1024, 0⟩]) (Reg.WIN_DMA_CTRL_GO_key (by first | omega | (simp only [List.mem_range] at *; omega))) rfl ?_
        refine Fr.step State.setDma_fr rfl rfl ?_
        first | assumption | exact Fr.refl _

theorem State.dmaHands_fr {s} {a1} {a2} : Fr [⟨17181966336, 17181966336, 1, 0⟩, ⟨17181967360, 17181967360, 1, 0⟩, ⟨17186226581, 17186257301, 2048, 0⟩, ⟨17181966338, 17181966338, 1, 0⟩, ⟨17181966495, 17181966495, 1, 0⟩, ⟨17186168832, 17186169247, 1, 0⟩, ⟨17194549761, 17194549761, 1, 0⟩, ⟨17198743816, 17198743816, 1, 0⟩, ⟨17198743808, 17198743808, 1, 0⟩, ⟨17198743553, 17198743553, 1, 0⟩, ⟨17198753156, 17198767492, 2048, 0⟩, ⟨17198743688, 17198743695, 1, 0⟩, ⟨17194557440, 17194573724, 4, 0⟩, ⟨17194549776, 17194549776, 1, 0⟩, ⟨17192452352, 17192452352, 1, 0⟩, ⟨17192452608, 17192452608, 1, 0⟩, ⟨17192452480, 17192452480, 1, 0⟩, ⟨17192452229, 17192452229, 1, 0⟩, ⟨17192452228, 17192452228, 1, 0⟩, ⟨17188261632, 17188261632, 1, 0⟩, ⟨17181967232, 17181967263, 1, 0⟩, ⟨17194615425, 17194618497, 1024, 0⟩, ⟨17194615296, 17194618368, 1024, 0⟩] [.flt, .pwr, .evc, .layer, .free, .mem, .memc, .win] s (State.dmaHands s a1 a2) := by
  unfold State.dmaHands
  split
  · refine Fr.iteh (fun _ => ?_) (fun _ => ?_)
    · first | assumption | exact Fr.refl _
    · refine Fr.iteh (fun _ => ?_) (fun _ => ?_)
      · refine Fr.step State.raise_fr rfl rfl ?_
        refine Fr.step State.xferEnds_fr rfl rfl ?_
        first | assumption | exact Fr.refl _
      · refine Fr.iteh (fun _ => ?_) (fun _ => ?_)
        · refine Fr.step State.xferEnds_fr rfl rfl ?_
          first | assumption | exact Fr.refl _
        · refine Fr.step State.layerRetest_fr rfl rfl ?_
          refine Fr.step State.xferEnds_fr rfl rfl ?_
          refine Fr.step State.handSlot_fr rfl rfl ?_
          first | assumption | exact Fr.refl _
  · first | assumption | exact Fr.refl _

theorem execWinDmaEnd_fr {a0} {a1} {s} : FrRes [⟨17181966336, 17181966336, 1, 0⟩, ⟨17181967360, 17181967360, 1, 0⟩, ⟨17186226581, 17186257301, 2048, 0⟩, ⟨17181966338, 17181966338, 1, 0⟩, ⟨17181966495, 17181966495, 1, 0⟩, ⟨17186168832, 17186169247, 1, 0⟩, ⟨17194549776, 17194549776, 1, 0⟩, ⟨17192452352, 17192452352, 1, 0⟩, ⟨17192452608, 17192452608, 1, 0⟩, ⟨17192452480, 17192452480, 1, 0⟩, ⟨17192452229, 17192452229, 1, 0⟩, ⟨17192452228, 17192452228, 1, 0⟩, ⟨17188261632, 17188261632, 1, 0⟩, ⟨17181967232, 17181967263, 1, 0⟩, ⟨17194615425, 17194618497, 1024, 0⟩, ⟨17194615296, 17194618368, 1024, 0⟩, ⟨17194615424, 17194618496, 1024, 0⟩, ⟨17194549761, 17194549761, 1, 0⟩, ⟨17198743816, 17198743816, 1, 0⟩, ⟨17198743808, 17198743808, 1, 0⟩, ⟨17198743553, 17198743553, 1, 0⟩, ⟨17198753156, 17198767492, 2048, 0⟩, ⟨17198743688, 17198743695, 1, 0⟩, ⟨17194557440, 17194573724, 4, 0⟩] [.mem, .flt, .pwr, .evc, .memc, .win, .layer, .free] s (execWinDmaEnd a0 a1 s) := by
  unfold execWinDmaEnd
  refine FrRes.next ?_
  split
  · first | assumption | exact Fr.refl _
  · extract_lets -merge -underBinder +onlyGivenNames x0
    refine Fr.cut x0.1 ?_ (fun h0 => ?_)
    · unfold x0
      refine Fr.step State.dmaCopy_fr rfl rfl ?_
      first | assumption | exact Fr.refl _
    try clear_value x0
    split
    · refine Fr.step State.dmaStopped_fr rfl rfl ?_
      first | assumption | exact Fr.refl _
    · unfold State.dmaEnds
      try dsimp -zeta only
      refine Fr.step State.fire_fr rfl rfl ?_
      refine Fr.wr (xs := [⟨17194615424, 17194618496, 1024, 0⟩]) (Reg.WIN_DMA_STATUS_DONE_key (by first | omega | (simp only [List.mem_range] at *; omega))) rfl ?_
      refine Fr.wr (xs := [⟨17194615296, 17194618368, 1024, 0⟩]) (Reg.WIN_DMA_CTRL_GO_key (by first | omega | (simp only [List.mem_range] at *; omega))) rfl ?_
      refine Fr.step State.setDma_fr rfl rfl ?_
      refine Fr.step State.dmaHands_fr rfl rfl ?_
      refine Fr.step State.setDma_fr rfl rfl ?_
      first | assumption | exact Fr.refl _

theorem execWinDmaTimeout_fr {a0} {s} : FrRes [⟨17181966336, 17181966336, 1, 0⟩, ⟨17181967360, 17181967360, 1, 0⟩, ⟨17186226581, 17186257301, 2048, 0⟩, ⟨17181966338, 17181966338, 1, 0⟩, ⟨17181966495, 17181966495, 1, 0⟩, ⟨17186168832, 17186169247, 1, 0⟩, ⟨17194549776, 17194549776, 1, 0⟩, ⟨17192452352, 17192452352, 1, 0⟩, ⟨17192452608, 17192452608, 1, 0⟩, ⟨17192452480, 17192452480, 1, 0⟩, ⟨17192452229, 17192452229, 1, 0⟩, ⟨17192452228, 17192452228, 1, 0⟩, ⟨17188261632, 17188261632, 1, 0⟩, ⟨17181967232, 17181967263, 1, 0⟩, ⟨17194615426, 17194618498, 1024, 0⟩, ⟨17194615296, 17194618368, 1024, 0⟩] [.free, .mem, .flt, .pwr, .evc, .memc, .win] s (execWinDmaTimeout a0 s) := by
  unfold execWinDmaTimeout
  refine FrRes.next ?_
  split
  · first | assumption | exact Fr.refl _
  · extract_lets -merge -underBinder +onlyGivenNames x0
    refine Fr.cut x0.2 ?_ (fun h0 => ?_)
    · unfold x0
      refine Fr.step State.fresh_fr rfl rfl ?_
      first | assumption | exact Fr.refl _
    try clear_value x0
    extract_lets -merge -underBinder +onlyGivenNames x1
    try clear_value (e1 : x1 = _)
    extract_lets -merge -underBinder +onlyGivenNames x2
    refine Fr.cut x2 ?_ (fun h2 => ?_)
    · unfold x2
      refine Fr.step State.dmaCopy_fr rfl rfl ?_
      first | assumption | exact Fr.refl _
    try clear_value x2
    refine Fr.step State.raise_fr rfl rfl ?_
    unfold State.dmaEnds
    try dsimp -zeta only
    refine Fr.step State.fire_fr rfl rfl ?_
    refine Fr.wr (xs := [⟨17194615426, 17194618498, 1024, 0⟩]) (Reg.WIN_DMA_STATUS_TMO_key (by first | omega | (simp only [List.mem_range] at *; omega))) rfl ?_
    refine Fr.wr (xs := [⟨17194615296, 17194618368, 1024, 0⟩]) (Reg.WIN_DMA_CTRL_GO_key (by first | omega | (simp only [List.mem_range] at *; omega))) rfl ?_
    refine Fr.step State.setDma_fr rfl rfl ?_
    first | assumption | exact Fr.refl _

end Sys2Proof.Machine
end

