-- ==== Sys2Proof/WellFormed.lean ====
section
/-! DEFINITION. What a command must satisfy to be one that the part can receive (spec/00_scope.md, Address map: system addresses
have 36 bits; spec/07 R149, spec/18 R421: packet payload lengths). -/

namespace Sys2Proof

/-- A 36-bit system address. -/
def addrOk (a : Nat) : Bool := decide (a < 2 ^ 36)

/-- Bytes of a write that stay within the address space. -/
def spanOk (a n : Nat) : Bool := decide (0 < n ∧ a + n ≤ 2 ^ 36)

/-- An occurrence names one of the 96 sources and a 36-bit address (R350, R352). -/
def Occurrence.ok (o : Occurrence) : Bool := decide (o.src < 96) && addrOk o.addr

/-- The command is well formed. -/
def Instr.wf : Instr → Bool
  | .registerWrite _ addr size _ => addrOk addr && (size == 1 || size == 2 || size == 4)
  | .protectedRegionWrite _ addr data => spanOk addr data.length
  | .slotWriteBlocked _ addr data => spanOk addr data.length
  | .dramPartialWrite _ addr data _ => spanOk addr data.length
  | .dramRead _ addr size _ => spanOk addr size
  | .sramEcc _ _ errs start data => errs.all (fun e => addrOk e.1) && (data.isEmpty || spanOk start data.length)
  | .blockReset _ _ cut => cut.all (fun c => addrOk c.2.1)
  | .fetchError _ addr => addrOk addr
  | .driveReadError _ addr => addrOk addr
  | .closedCrossingAccess _ addr _ => addrOk addr
  | .faultOccurrence ext cut => ext.all Occurrence.ok && cut.all (fun c => addrOk c.2.1)
  | .maskinLongPacket _ data _ => decide (data.length < 65536)
  | _ => true

end Sys2Proof
end

