-- ==== Sys2Proof/Tests/Slice0.lean ====
section
/-! SUPPORT. Small tests: ill-formed terms are refused, known answers, single commands, and states that meet the hypotheses of each
statement. -/

set_option linter.all false
set_option Elab.async false
set_option maxRecDepth 4000

namespace Sys2Proof.Tests

open Sys2Proof.Machine

/-- Every domain is ON and the fields named hold the values named; all else is as after reset. -/
def tst (l : List (Fld × Nat)) : State :=
  l.foldl (fun s p => s.wr p.1 p.2) (State.reset.setDoms (fun _ => 2))
/-- A small structure image. -/
def tImage : Image := { mode := 0x22, portMap := List.range 12, layerMask := 255, cellMask := 1, quadMask := 1, known := .replicate 192 0 }
/-- With the image given in both banks. -/
def withImageOf (i : Image) (l : List (Fld × Nat)) : State :=
  let s := tst ((Reg.SA_STATUS_VALID_A, 1) :: l)
  { s with sa := { s.sa with bank := .replicate 2 (some i) } }
/-- With the small image. -/
def withImage (l : List (Fld × Nat)) : State := withImageOf tImage l
/-- The state that a command leaves. -/
def after (r : Res) : State := match r with | .next t => t | _ => State.reset

/-! Ill-formed commands are refused. -/

theorem test_wf_register_write_size : (Instr.registerWrite (.engine 0) 0 3 0).wf = false := by decide
theorem test_wf_register_write_address : (Instr.registerWrite (.engine 0) 0x1000000000 4 0).wf = false := by decide
theorem test_wf_protected_region_write : (Instr.protectedRegionWrite (.engine 0) 0 []).wf = false := by decide
theorem test_wf_slot_write_blocked : (Instr.slotWriteBlocked (.engine 0) 0xFFFFFFFFF [1, 2]).wf = false := by decide
theorem test_wf_dram_partial_write : (Instr.dramPartialWrite (.engine 0) 0xFFFFFFFFF [1, 2] []).wf = false := by decide
theorem test_wf_dram_read : (Instr.dramRead (.engine 0) 0x1000000000 4 []).wf = false := by decide
theorem test_wf_sram_ecc : (Instr.sramEcc .other .read [(0x1000000000, false)] 0 []).wf = false := by decide
theorem test_wf_fetch_error : (Instr.fetchError 0 0x1000000000).wf = false := by decide
theorem test_wf_drive_read_error : (Instr.driveReadError true 0x1000000000).wf = false := by decide
theorem test_wf_closed_crossing_access : (Instr.closedCrossingAccess (.engine 0) 0x1000000000 .read).wf = false := by decide
theorem test_wf_fault_occurrence : (Instr.faultOccurrence [{ src := 96, unit := none, addr := 0, master := .engine 0, access := .write }] []).wf = false := by
  decide
theorem test_wf_maskin_long_packet (d : List Byte) (h : 65536 ≤ d.length) : (Instr.maskinLongPacket 0 d 0).wf = false := by
  simp [Instr.wf]; omega
theorem test_wf_accepts : (Instr.registerWrite (.engine 0) 0x20080000 4 1).wf = true := by decide

/-! Known answers: the check values of spec/17_memory_window.md and the worked examples of spec/03, spec/05. -/

theorem test_crc32c_check_value : crc32c [0x31, 0x32, 0x33, 0x34, 0x35, 0x36, 0x37, 0x38, 0x39] = 0xE3069283 := by decide +kernel
theorem test_crc32_check_value : crc32 [0x31, 0x32, 0x33, 0x34, 0x35, 0x36, 0x37, 0x38, 0x39] = 0xCBF43926 := by decide +kernel
theorem test_blend_over : blend 0 0x50000 255 0 = 0x50000 ∧ blend 0 0xC8000 128 327680 = 574404 := by decide +kernel
theorem test_blend_multiply : blend 2 0x4000 255 574404 = 143601 := by decide +kernel
theorem test_blend_add_saturates : blend 1 0x200000 255 0xF00000 = 0xFFFFFF := by decide +kernel
theorem test_blend_max : blend 3 0x50000 102 0x30000 = 0x30000 := by decide +kernel
theorem test_throw : throwDemand 819200 39490 4 = (7898000, false) := by decide +kernel
theorem test_gain : gainDemand 7898000 0x8C = (8268219, false) := by decide +kernel
theorem test_therm_factor : thermFactor 13440 6400 3146 671 = 17860 := by decide +kernel
theorem test_therm : thermDemand 9618219 17860 = (10484704, false) := by decide +kernel
theorem test_zone_selection : selectZone 13000000 32 255 = (198, 198) := by decide +kernel

/-- The worked example of spec/08_serial_lanes.md R198: a LATCH of 16 bytes takes one START block, one data block and one TERM1 block. -/
theorem test_latch_blocks :
    (packetBlocks ((List.range 16).map (BitVec.ofNat 8))).map (fun b => (b.1, byteAt b.2 0)) = [(2, 0x78), (1, 7), (2, 0x99)] := by decide
/-- A receiver brings the packet of its blocks, and truncates one that a FILL block interrupts (R198, R199). -/
theorem test_receive :
    receive none ((packetBlocks ((List.range 16).map (BitVec.ofNat 8))).map (fun b => (BitVec.ofNat 2 b.1, BitVec.ofNat 64 (le b.2)))) =
      .packet ((List.range 16).map (BitVec.ofNat 8)) ∧
    receive none [(2, 0x78), (2, 0x1E)] = .truncated := by decide +kernel
/-- The receiver's descrambler undoes the scrambler, and no scrambled fill is sent plain (R196). -/
theorem test_scrambler : (descramble 5 (scramble 5 0x1E).2).2 = 0x1E ∧ (scramble 5 0x1E).2 ≠ 0x1E := by decide +kernel
/-- Two bit errors in the marker are accepted, three are not (R203). -/
theorem test_marker : markerFound 0xF0CA35D1 = true ∧ markerFound 0xF0CA35D5 = false := by decide +kernel

/-- The header 0x37, 0xF0, 0x01 of the CSI-2 specification carries the ECC byte 0x3F; one bit in error is corrected, two are not (R66). -/
theorem test_csi_header :
    csiHeader 0x3F01F037 = some (0, 0x37, 0x1F0) ∧ csiHeader 0x3F01F027 = some (0, 0x37, 0x1F0) ∧ csiHeader 0x3F01F020 = none := by decide +kernel

/-! Single commands. -/

/-- A write to a register of a domain that is OFF is a closed crossing, and the store does not happen (R455). -/
theorem test_closed_crossing :
    (after (exec (.saEnable (.engine 0) 1) ((tst []).setDoms (fun _ => 0)))).on (Reg.PWRCTL_XING (blockDomain 0x20080000)) = true := by decide +kernel
/-- A hand-over from FREE to NET is accepted, one from FREE to SCANOUT is refused with code 2 (R406). -/
theorem test_hand_over_free :
    (after (exec (.winXferRequest .debug 0x80010003) (tst [(Reg.WIN_CTRL_EN, 1), (Reg.WIN_CFG_COUNT, 8)]))).win.xfer = some (3, 1) ∧
    (after (exec (.winXferRequest .debug 0x80040003) (tst [(Reg.WIN_CTRL_EN, 1), (Reg.WIN_CFG_COUNT, 8)]))).rd Reg.WIN_STATUS_XFER_CODE = 2 := by
  decide +kernel
/-- FLT_SW raises source 88 + SEL (R363). -/
theorem test_flt_sw : ((after (exec (.fltSw (.engine 0) 0x80000005) (tst []))).flt.raised.map (·.src)).contains 93 = true := by decide +kernel

/-! States that meet the hypotheses of each statement, clause by clause. -/

theorem test_meets_CompletionFrameTiming :
    (∃ (m : Master) (k : Fin 4) (v : Word) (s : State), (s.accepts m (Reg.TIM_LOAD_LOAD k).addr)) ∧
    (∃ (s : State), (s.on Reg.FT_STATUS_RUN = true) ∧ (s.ft.guard < s.ft.m + 2) ∧ (s.on Reg.FT_CTRL_COMMIT = true) ∧ (s.ft.cap = none) ∧ (s.ftCode = 0) ∧ (s.ledBlock 2 = false)) ∧
    (∃ (s : State) (c : Captured), (s.lsc.cap = some c) ∧ (c.now = true)) ∧
    (∃ (s : State), (s.canFix = true) ∧ (s.ft.stream = none)) ∧
    (∃ (k : BitVec 12) (st : Stream) (a : Int) (s : State), (s.ft.stream = some st) ∧ (st.aborted = false) ∧ (st.latched = false) ∧ (s.ft.fixed = some a) ∧ (s.info.h ≤ st.lines)) ∧
    (∃ (c : List (Fin 4096)) (a : Int) (s : State), (s.on Reg.FT_STATUS_RUN = true) ∧ (s.ft.fixed = some a) ∧ (s.ft.clear = false) ∧ (s.sa.stopWait = false) ∧ (s.sa.fallback = none)) ∧
    (∃ (w : Word) (s : State) (f : Frame) (i : Image), (s.ft.passA = some f) ∧ (s.image = some i) ∧ (f.done = none) ∧ (s.thermWaits f.no = false)) ∧
    (∃ (s : State) (f : Frame), (s.ft.passA = some f) ∧ (f.done = none)) ∧
    (∃ (s : State), (s.on Reg.FT_STATUS_RUN = true) ∧ (s.on Reg.FT_STATUS_LATE = false)) ∧
    (∃ (k : BitVec 12) (j : Nat) (s : State) (a : Int), (s.on Reg.FT_STATUS_RUN = true) ∧ (s.ft.last = some a) ∧ (s.ft.stream = none) ∧ (s.ft.slot = some j)) ∧
    (∃ (p : Fin 12) (n : Fin 5) (s : State), ((n : Nat) < max 1 (s.rd Reg.FT_WMARK_WMARK))) ∧
    (∃ (s : State) (a : Int), (s.on Reg.FT_STATUS_RUN = true) ∧ (s.ft.last = some a)) ∧
    (∃ (c : Word) (st : Stream) (i : Image) (s : State), (s.ft.stream = some st) ∧ (s.imageB = some i) ∧ (s.sa.kalB = false) ∧ (c.toNat = i.answer st.frame.no 4)) ∧
    (∃ (s : State), (s.on Reg.FT_STATUS_RUN = true) ∧ (s.ft.slot = some s.ft.lm) ∧ (s.ft.lmFired = false)) ∧
    (∃ (m : Master) (v : Word) (s : State) (i : Image), (s.accepts m 0x200A0000) ∧ (v.toNat.testBit 0 = true) ∧ (s.ft.clear = false) ∧ (s.on Reg.FT_CTRL_EN = false) ∧ (s.on Reg.SA_CTRL_EN = true) ∧ ((s.stored m 0x200A0000 v).image = some i) ∧ ((s.stored m 0x200A0000 v).ftRunning = true) ∧ ((s.stored m 0x200A0000 v).baseNear ((s.stored m 0x200A0000 v).ftBase true) = true)) ∧
    (∃ (m : Master) (v : Word) (s : State), (s.accepts m 0x200A0000) ∧ (v.toNat.testBit 0 = false) ∧ (s.on Reg.FT_CTRL_EN = true)) ∧
    (∃ (m : Master) (v : Word) (s : State), (s.accepts m 0x200A0000) ∧ (v.toNat.testBit 1 = true) ∧ (s.on Reg.FT_CTRL_COMMIT = false) ∧ (s.on Reg.FT_STATUS_RUN = true) ∧ (s.ft.guard < s.ft.m + 2)) :=
  ⟨⟨.engine 0, 2, 77, tst [], by decide +kernel⟩,
   ⟨tst [(Reg.FT_STATUS_RUN, 1), (Reg.FT_CTRL_COMMIT, 1)], by decide +kernel⟩,
   ⟨{ tst [] with lsc := { cap := some { now := true } } }, { now := true }, by decide +kernel⟩,
   ⟨tst [(Reg.FT_STATUS_RUN, 1)], by decide +kernel⟩,
   ⟨0, { lines := 600 }, 0, { tst [] with ft := { stream := some { lines := 600 }, fixed := some 0 } }, by decide +kernel⟩,
   ⟨[0, 9], 5, { tst [(Reg.FT_STATUS_RUN, 1)] with ft := { fixed := some 5 } }, by decide +kernel⟩,
   ⟨7, { withImageOf { mode := 0x22, quadMask := 1 } [] with ft := { passA := some {} } }, {}, { mode := 0x22, quadMask := 1 }, by decide +kernel⟩,
   ⟨{ tst [(Reg.FT_STATUS_RUN, 1)] with ft := { passA := some {} } }, {}, by decide +kernel⟩,
   ⟨tst [(Reg.FT_STATUS_RUN, 1)], by decide +kernel⟩,
   ⟨0, 4, { tst [(Reg.FT_STATUS_RUN, 1)] with ft := { last := some 5, slot := some 4 } }, 5, by decide +kernel⟩,
   ⟨3, 0, tst [(Reg.FT_STATUS_RUN, 1)], by decide +kernel⟩,
   ⟨{ tst [(Reg.FT_STATUS_RUN, 1)] with ft := { last := some 5 } }, 5, by decide +kernel⟩,
   ⟨0, {}, tImage, { withImage [] with ft := { stream := some {} }, sa := { bank := .replicate 2 (some tImage) } }, by decide +kernel⟩,
   ⟨{ tst [(Reg.FT_STATUS_RUN, 1)] with ft := { slot := some 0 } }, by decide +kernel⟩,
   ⟨.engine 0, 1, withImage [(Reg.SA_CTRL_EN, 1), (Reg.TIME_D_CTRL_EN 0, 1)], tImage, by decide +kernel⟩,
   ⟨.engine 0, 0, tst [(Reg.FT_STATUS_RUN, 1), (Reg.FT_CTRL_EN, 1)], by decide +kernel⟩,
   ⟨.engine 0, 2, tst [(Reg.FT_STATUS_RUN, 1)], by decide +kernel⟩⟩

theorem test_meets_CompletionStageArrayAndLayers :
    (∃ (m : Master) (v : Word) (s : State), (s.accepts m 0x20080000) ∧ (v.toNat.testBit 0 = true) ∧ (s.on Reg.SA_CTRL_EN = false) ∧ ((s.stored m 0x20080000 v).image.map (s.stored m 0x20080000 v).fencedIn = some false) ∧ ((s.stored m 0x20080000 v).dramOutside (s.rd Reg.SA_DRV_DD_HI_ADDR_HI <<< 32 ||| s.rd Reg.SA_DRV_DD_LO_ADDR <<< 20) (2 * (s.stored m 0x20080000 v).ddNeed) = true)) ∧
    (∃ (m : Master) (v : Word) (s : State), (s.accepts m 0x20080000) ∧ (v.toNat.testBit 1 = true) ∧ (s.on Reg.SA_CTRL_COMMIT = false) ∧ (s.on Reg.FT_STATUS_RUN = true) ∧ (s.ft.guard < s.ft.m + 2)) ∧
    (∃ (m : Master) (v : Word) (s : State), (s.accepts m 0x20080018) ∧ (v.toNat.testBit 0 = true) ∧ (s.on Reg.SA_LOAD_STATUS_BUSY = false) ∧ ((((s.stored m 0x20080018 v).wr Reg.SA_LOAD_STATUS_DONE 0).wr Reg.SA_LOAD_STATUS_ERR 0).loadBarred ((s.stored m 0x20080018 v).rd Reg.SA_LOAD_CTRL_BANK) = false)) ∧
    (∃ (m : Master) (v : Word) (s : State) (l : Load), (s.accepts m 0x20080018) ∧ (v.toNat.testBit 2 = true) ∧ (s.sa.load = some l)) ∧
    (∃ (e : Option Nat) (s : State) (l : Load), (s.sa.load = some l)) ∧
    (∃ (m : Master) (v : Word) (s : State), (s.accepts m 0x20080040) ∧ (v.toNat.testBit 8 = true) ∧ (s.sa.diag.isSome = false) ∧ (s.on Reg.SA_CTRL_EN = false)) ∧
    (∃ (s : State) (d : Nat × Bool), (s.sa.diag = some d)) ∧
    (∃ (m : Master) (k : Fin 4) (v : Word) (i : Fin 32) (s : State), (s.accepts m (0x20080050 + 4 * k)) ∧ (v.toNat.testBit i = true)) ∧
    (∃ (m : Master) (v : Word) (s : State), (s.accepts m 0x20090000) ∧ (v.toNat.testBit 0 = true)) ∧
    (∃ (m : Master) (v : Word) (s : State), (s.accepts m 0x20090000) ∧ (v.toNat.testBit 1 = true) ∧ (s.on Reg.LAYER_CTRL_COMMIT = false) ∧ (s.on Reg.FT_STATUS_RUN = true) ∧ (s.ft.guard < s.ft.m + 2)) ∧
    (∃ (s : State) (n : Nat), (s.layer.retire = [n]) ∧ (s.sa.retireNow = []) ∧ (n < 1024) ∧ (s.slotOwner n = 4) ∧ (s.referenced n = false) ∧ (s.win.retire = []) ∧ (s.on Reg.FT_STATUS_RUN = true)) ∧
    (∃ (l : Fin 8) (a : Nat) (s : State) (f : Frame), (s.ft.passA = some f) ∧ (f.done = none)) ∧
    (∃ (s : State) (w : Walk), (s.layer.walk = none) ∧ (s.nextWalk = some w)) ∧
    (∃ (e : Option SpanFault) (s : State) (w : Walk) (i : Image) (k : Fin 8), (s.layer.walk = some w) ∧ (w.layer = k) ∧ (w.live = false) ∧ (s.dropWalk.image = some i) ∧ (i.composes k = true) ∧ ((s.dropWalk.walkLayer i k false e).fail = none) ∧ (s.on Reg.FT_STATUS_RUN = true)) ∧
    (∃ (l : Fin 8) (n : Nat) (s : State) (f : Frame), (s.ft.passA = some f) ∧ (n ≠ 0) ∧ (s.layer.clamped[l] = false)) ∧
    (∃ (a : Nat) (s : State) (f : Frame), (s.ft.passA = some f) ∧ (f.done = none)) :=
  ⟨⟨.engine 0, 1, withImage [(Reg.SA_DRV_DD_HI_ADDR_HI, 1)], by decide +kernel⟩,
   ⟨.engine 0, 2, tst [(Reg.FT_STATUS_RUN, 1)], by decide +kernel⟩,
   ⟨.engine 0, 1, tst [], by decide +kernel⟩,
   ⟨.engine 0, 4, { tst [] with sa := { load := some {} } }, {}, by decide +kernel⟩,
   ⟨none, { tst [] with sa := { load := some {} } }, {}, by decide +kernel⟩,
   ⟨.engine 0, 0x100, tst [], by decide +kernel⟩,
   ⟨{ tst [] with sa := { diag := some (3, true) } }, (3, true), by decide +kernel⟩,
   ⟨.engine 0, 3, 0x80000000, 31, tst [], by decide +kernel⟩,
   ⟨.engine 0, 1, tst [], by decide +kernel⟩,
   ⟨.engine 0, 2, tst [(Reg.FT_STATUS_RUN, 1)], by decide +kernel⟩,
   ⟨{ tst [((Reg.WIN_OWN 5), 4), (Reg.FT_STATUS_RUN, 1)] with layer := { retire := [5] } }, 5, by decide +kernel⟩,
   ⟨3, 0x100000000, { tst [] with ft := { passA := some {} } }, {}, by decide +kernel⟩,
   ⟨{ tst [((Reg.LAYER_L_MESH_LO_ADDR 0), 4194304)] with layer := { queued := .replicate 8 true } }, { layer := 0 }, by decide +kernel⟩,
   ⟨none, { withImageOf { tImage with portMap := [] } [(Reg.FT_STATUS_RUN, 1)] with layer := { walk := some { layer := 2 } } }, { layer := 2 }, { tImage with portMap := [] }, 2, by decide +kernel⟩,
   ⟨1, 4, { tst [] with ft := { passA := some {} } }, {}, by decide +kernel⟩,
   ⟨0, { tst [] with ft := { passA := some {} } }, {}, by decide +kernel⟩⟩

theorem test_meets_CompletionMaskInputAndLanes :
    (∃ (m : Master) (v : Word) (s : State), (s.accepts m 0x20180000) ∧ (v.toNat.testBit 0 = true) ∧ (s.on Reg.MASKIN_CTRL_EN = false)) ∧
    (∃ (h : Word) (wc : Nat) (s : State), (s.csiOn = true) ∧ (csiHeader h = some (0, 0, wc)) ∧ (s.on Reg.MASKIN_STATUS_IN_FRAME = false)) ∧
    (∃ (h : Word) (wc : Nat) (s : State), (s.csiOn = true) ∧ (csiHeader h = some (0, 1, wc)) ∧ (s.on Reg.MASKIN_STATUS_IN_FRAME = true) ∧ (s.maskin.bad = false) ∧ (¬ s.maskin.lines < s.rd Reg.MASKIN_SIZE_HEIGHT)) ∧
    (∃ (h : Word) (vc dt wc : Nat) (d : List Byte) (c : BitVec 16) (s : State), (s.csiOn = true) ∧ (csiHeader h = some (vc, dt, wc)) ∧ (vc = 0) ∧ (s.maskType dt = true) ∧ (s.on Reg.MASKIN_STATUS_IN_FRAME = true) ∧ (csiCrc (d.take wc) = c.toNat)) ∧
    (∃ (h : Word) (vc dt wc : Nat) (s : State), (s.csiOn = true) ∧ (csiHeader h = some (vc, dt, wc)) ∧ ((2 ≤ dt ∧ dt ≤ 3) ∨ (8 ≤ dt ∧ dt ≤ 15))) ∧
    (∃ (s : State), (s.csiOn = true) ∧ (s.on Reg.MASKIN_STATUS_IN_FRAME = true)) ∧
    (∃ (h : Word) (vc dt wc : Nat) (s : State), (s.csiOn = true) ∧ (csiHeader h = some (vc, dt, wc)) ∧ (16 ≤ dt) ∧ (vc ≠ 0 ∨ s.maskType dt = false)) ∧
    (∃ (s : State) (b : Nat), (s.maskin.ended = some b)) ∧
    (∃ (s : State), (s.on Reg.MASKIN_CTRL_EN = true) ∧ (s.on Reg.MASKIN_STATUS_IN_FRAME = true)) ∧
    (∃ (m : Master) (a x : Nat) (d : List Byte) (s : State), (m ≠ .debug) ∧ (s.viewAddr m a = x) ∧ (0 < d.length) ∧ (x % 64 + d.length ≤ 64) ∧ (s.protectedFrom (.master m) x = true) ∧ (s.domOpen (accessDomain x) = true)) ∧
    (∃ (j : Fin 15) (m : Master) (v : Word) (s : State), (s.accepts m (laneAddr j))) ∧
    (∃ (j : Fin 15) (w : Word) (s : State), (s.rd (Reg.LANE_STATUS_STATE j) = 2) ∧ (j.val < 13) ∧ (markerFound w.toNat = true) ∧ (s.laneLocks j = true) ∧ (s.on (Reg.LANE_CTRL_ADAPT j) = false)) ∧
    (∃ (j : Fin 15) (h v : Fin 65) (s : State), (2 ≤ s.rd (Reg.LANE_STATUS_STATE j)) ∧ (s.rd (Reg.LANE_STATUS_STATE j) ≤ 4) ∧ (s.rd (Reg.LANE_THRESH_EYE_MIN j) ≤ eyeScore h v)) ∧
    (∃ (j : Fin 15) (n : Fin 65) (s : State), (s.on (Reg.LANE_STATUS_BLOCK_LOCK j) = true) ∧ (16 ≤ (n : Nat))) ∧
    (∃ (j : Fin 15) (h v : Fin 65) (taps : BitVec 30) (s : State), (s.rd (Reg.LANE_STATUS_STATE j) = 5) ∧ (s.rd (Reg.LANE_THRESH_EYE_OK j) ≤ eyeScore h v)) ∧
    (∃ (j : Fin 15) (m : Master) (v : Word) (s : State), (s.accepts m (laneAddr j)) ∧ (v.toNat.testBit 8 = true) ∧ (s.rd (Reg.LANE_STATUS_STATE j) = 3 ∨ s.rd (Reg.LANE_STATUS_STATE j) = 5)) ∧
    (∃ (j : Fin 15) (sc : List Byte) (h v : Fin 65) (taps : BitVec 30) (s : State), (s.rd (Reg.LANE_STATUS_STATE j) = 4) ∧ (s.on (Reg.LANE_STATUS_BLOCK_LOCK j) = true) ∧ (s.rd (Reg.LANE_THRESH_EYE_MIN j) ≤ eyeScore h v)) ∧
    (∃ (j : Fin 15) (m : Master) (v : Word) (s : State), (s.accepts m (laneAddr j)) ∧ ((s.stored m (laneAddr j) v).laneOwned j = false ∨ (bits v.toNat 1 3 = 0 ∧ bits v.toNat 4 3 = 0))) ∧
    (∃ (j : Fin 15) (m : Master) (v : Word) (s : State), (s.accepts m (laneAddr j)) ∧ (v.toNat.testBit 9 = true)) ∧
    (∃ (j : Fin 15) (m : Master) (v : Word) (s : State), (s.accepts m (laneAddr j)) ∧ (v.toNat.testBit 10 = true)) ∧
    (∃ (j : Fin 15) (p : Fin 12) (s : State), (lanePort j = some p) ∧ (s.tlState p = 1) ∧ ((s.port p).train = .lock ∨ (s.port p).train = .relockSlow)) ∧
    (∃ (j : Fin 15) (bits : List Bool) (k : Checker) (s : State), (patternOf (s.rd (Reg.LANE_CTRL_PRBS_RX j)) ≠ 0) ∧ (patternOf (s.rd (Reg.LANE_CTRL_PRBS_TX j)) = 0) ∧ (s.on (Reg.LANE_CTRL_LOOPBACK j) = false) ∧ (bits.foldl (Checker.take (patternOf (s.rd (Reg.LANE_CTRL_PRBS_RX j)))) { reg := (s.lane.pair[j]).chk, run := (s.lane.pair[j]).run, sync := s.on (Reg.LANE_STATUS_PRBS_SYNC j), errs := 0 } = k)) :=
  ⟨⟨.engine 0, 1, tst [], by decide +kernel⟩,
   ⟨0x25000700, 7, tst [(Reg.MASKIN_CTRL_EN, 1)], by decide +kernel⟩,
   ⟨0x22000701, 7, { tst [(Reg.MASKIN_CTRL_EN, 1), (Reg.MASKIN_STATUS_IN_FRAME, 1)] with maskin := { lines := 4095 } }, by decide +kernel⟩,
   ⟨0x3300042a, 0, 0x2A, 4, [], 0xFFFF, tst [(Reg.MASKIN_CTRL_EN, 1), (Reg.MASKIN_STATUS_IN_FRAME, 1)], by decide +kernel⟩,
   ⟨0x38000742, 1, 0x2, 7, tst [(Reg.MASKIN_CTRL_EN, 1)], by decide +kernel⟩,
   ⟨tst [(Reg.MASKIN_CTRL_EN, 1), (Reg.MASKIN_STATUS_IN_FRAME, 1)], by decide +kernel⟩,
   ⟨0x2b000752, 1, 0x12, 7, tst [(Reg.MASKIN_CTRL_EN, 1)], by decide +kernel⟩,
   ⟨{ tst [(Reg.MASKIN_CTRL_EN, 1)] with maskin := { ended := some 1 } }, 1, by decide +kernel⟩,
   ⟨tst [(Reg.MASKIN_CTRL_EN, 1), (Reg.MASKIN_STATUS_IN_FRAME, 1)], by decide +kernel⟩,
   ⟨.engine 0, 0x80000010, 0x100000010, [1, 2, 3], tst [(Reg.MASKIN_CTRL_EN, 1), (Reg.MASKIN_BUF_BASE_HI_ADDR_HI, 1)], by decide +kernel⟩,
   ⟨5, .engine 0, 1, tst [], by decide +kernel⟩,
   ⟨5, BitVec.ofNat 32 burstMarker, tst [((Reg.LANE_STATUS_STATE 5), 2), ((Reg.LANE_STATUS_CDR_LOCK 5), 1), ((Reg.LANE_STATUS_BLOCK_LOCK 5), 1), ((Reg.LANE_EYE_SCORE 5), 255)], by decide +kernel⟩,
   ⟨5, 40, 40, tst [((Reg.LANE_STATUS_STATE 5), 3)], by decide +kernel⟩,
   ⟨5, 16, tst [((Reg.LANE_STATUS_BLOCK_LOCK 5), 1)], by decide +kernel⟩,
   ⟨5, 64, 64, 7, tst [((Reg.LANE_STATUS_STATE 5), 5)], by decide +kernel⟩,
   ⟨5, .engine 0, 0x100, tst [((Reg.LANE_STATUS_STATE 5), 5)], by decide +kernel⟩,
   ⟨5, [], 40, 40, 7, tst [((Reg.LANE_STATUS_STATE 5), 4), ((Reg.LANE_STATUS_BLOCK_LOCK 5), 1)], by decide +kernel⟩,
   ⟨5, .engine 0, 2, tst [], by decide +kernel⟩,
   ⟨5, .engine 0, 0x200, tst [((Reg.LANE_STATUS_STATE 5), 5)], by decide +kernel⟩,
   ⟨5, .engine 0, 0x400, tst [((Reg.LANE_STATUS_STATE 5), 5)], by decide +kernel⟩,
   ⟨5, 5, { tst [((Reg.TL_STATUS_STATE 5), 1)] with tl := { port := .replicate 12 { train := .lock } } }, by decide +kernel⟩,
   ⟨5, [], { reg := 0, run := 0, sync := false, errs := 0 }, tst [((Reg.LANE_CTRL_PRBS_RX 5), 1)], by decide +kernel⟩⟩

theorem test_meets_CompletionTileLink :
    (∃ (p : Fin 12) (m : Master) (v : Word) (s : State), (s.accepts m (tlAddr p)) ∧ (v.toNat.testBit 0 = true) ∧ (s.on (Reg.TL_CTRL_EN p) = false) ∧ ((((s.stored m (tlAddr p) v).wr (Reg.TL_CTRL_EN p) 1).showLane (tlLane p)).isMapped p = true) ∧ ((((s.stored m (tlAddr p) v).wr (Reg.TL_CTRL_EN p) 1).showLane (tlLane p)).tlHeld p = false) ∧ (s.on (Reg.TL_STATUS_FENCED p) = false)) ∧
    (∃ (p : Fin 12) (m : Master) (v : Word) (s : State), (s.accepts m (tlAddr p)) ∧ (v.toNat.testBit 1 = true) ∧ (s.on (Reg.TL_CTRL_EN p) = true) ∧ ((((s.stored m (tlAddr p) v).setPort p { s.port p with mismatch := false }).tlLeave p 0).isMapped p = true) ∧ ((((s.stored m (tlAddr p) v).setPort p { s.port p with mismatch := false }).tlLeave p 0).tlHeld p = false) ∧ (s.on (Reg.TL_STATUS_FENCED p) = false)) ∧
    (∃ (p : Fin 12) (s : State), (s.tlState p = 1) ∧ ((s.port p).train = .caps) ∧ (s.on (Reg.TL_STATUS_FENCED p) = false) ∧ (s.on (Reg.LANE_CTRL_IDLE_REQ p) = false) ∧ (s.laneTest (tlLane p) = false)) ∧
    (∃ (p : Fin 12) (d c : List Byte) (s : State), (s.tlReaches p d = true) ∧ (s.tlState p = 1) ∧ ((s.port p).train = .caps) ∧ (tlPayload 0x01 (· == 64) d = some c) ∧ ((s.showCaps p c).capsCode p = 0) ∧ ((byteAt c 1).testBit 1 = false)) ∧
    (∃ (p : Fin 12) (s : State), (s.tlState p = 1) ∧ ((s.port p).train = .caps)) ∧
    (∃ (p : Fin 12) (h v : Fin 65) (s : State), (s.tlState p = 1) ∧ ((s.port p).train = .relock) ∧ (s.rd (Reg.LANE_THRESH_EYE_MIN p) ≤ eyeScore h v)) ∧
    (∃ (p : Fin 12) (l : List Nat) (s : State), (s.tlState p = 1) ∧ ((s.port p).train = .probe) ∧ ((s.tlProbe p l).dkOf p ≤ 204800)) ∧
    (∃ (p : Fin 12) (l : List Nat) (s : State), (s.tlUp p = true)) ∧
    (∃ (p : Fin 12) (s : State), (s.tlState p = 1) ∧ ((s.port p).train = .config)) ∧
    (∃ (p : Fin 12) (m : Master) (v : Word) (s : State), (s.accepts m (tlAddr p)) ∧ (v.toNat.testBit 8 = true) ∧ (s.on (Reg.TL_STATUS_FENCED p) = false) ∧ (s.tlState p = 2) ∧ (s.on (Reg.LANE_CTRL_IDLE_REQ p) = false) ∧ ((s.stored m (tlAddr p) v).laneTest (tlLane p) = false)) ∧
    (∃ (p : Fin 12) (m : Master) (v : Word) (s : State), (s.accepts m (tlAddr p)) ∧ (v.toNat.testBit 9 = true)) ∧
    (∃ (p : Fin 12) (m : Master) (v : Word) (s : State) (a : Nat), (s.accepts m (tlAddr p)) ∧ (v.toNat.testBit 7 = true) ∧ (s.on (Reg.TL_CTRL_FB_START p) = false) ∧ (s.tlState p = 2) ∧ (s.on (Reg.TL_STATUS_OWNED p) = true) ∧ (s.rd (Reg.TL_FB_HI_ADDR_HI p) <<< 32 ||| s.rd (Reg.TL_FB_LO_ADDR p) <<< 6 = a) ∧ ((s.stored m (tlAddr p) v).badAt a (64 + 2 * s.rd (Reg.TL_TILE_GEOM_WIDTH p) * s.rd (Reg.TL_TILE_GEOM_HEIGHT p)) = none)) ∧
    (∃ (p : Fin 12) (d c : List Byte) (k : Nat) (s : State), (s.tlReaches p d = true) ∧ (s.tlHears p = true) ∧ (tlPayload 0x30 (· == 12) d = some c) ∧ ((s.port p).fb = some k) ∧ (byteAt c 0 = 0x80) ∧ (leAt c 4 4 = k)) ∧
    (∃ (p : Fin 12) (s : State), ((s.port p).fb.isSome = true)) ∧
    (∃ (p : Fin 12) (d c : List Byte) (s : State), (s.tlReaches p d = true) ∧ (s.tlUp p = true) ∧ (tlPayload 0x22 (· == 64) d = some c)) ∧
    (∃ (p : Fin 12) (d c : List Byte) (s : State), (s.tlReaches p d = true) ∧ (s.tlUp p = true) ∧ (tlPayload 0x21 (fun l => decide (1 ≤ leAt d 14 2 ∧ leAt d 14 2 ≤ (if s.tlV2 p && s.on (Reg.TL_CTRL_BULK_EN p) then 4096 else 256) ∧ l = 8 + (leAt d 14 2 + 3) / 4 * 4)) d = some c)) ∧
    (∃ (p : Fin 12) (d c : List Byte) (s : State), (s.tlReaches p d = true) ∧ (s.tlUp p = true) ∧ (tlPayload 0x40 (· == 8) d = some c) ∧ ((byteAt d 1).testBit 3 = true) ∧ (s.on Reg.PAIR_CTRL_EN = false)) ∧
    (∃ (p : Fin 12) (s : State), ((s.port p).capWait = true)) ∧
    (∃ (p : Fin 12) (s : State), (s.tlState p = 2) ∧ (s.on (Reg.TL_STATUS_FENCED p) = false) ∧ (s.on (Reg.LANE_CTRL_IDLE_REQ p) = false) ∧ (s.laneTest (tlLane p) = false)) ∧
    (∃ (p : Fin 12) (bl : List (BitVec 2 × BitVec 64)) (s : State), (badTrailer bl = true)) ∧
    (∃ (p : Fin 12) (s : State), (s.tlState p = 2)) ∧
    (∃ (p : Fin 12) (s : State), (s.on (Reg.TL_CTRL_EN p) = true) ∧ (s.on (Reg.TL_CTRL_AUTO_RETRAIN p) = true) ∧ (s.tlState p = 0 ∨ s.tlState p = 5) ∧ (s.on (Reg.TL_STATUS_FENCED p) = false) ∧ (s.isMapped p = true) ∧ (s.tlHeld p = false)) ∧
    (∃ (p : Fin 12) (d : List Byte) (s : State), (s.tlReaches p d = true) ∧ ((tlPayload 0x3F (· == 4) d).isSome = true)) :=
  ⟨⟨3, .engine 0, 1, withImage [], by decide +kernel⟩,
   ⟨3, .engine 0, 2, withImage [(Reg.TL_CTRL_EN 3, 1)], by decide +kernel⟩,
   ⟨3, { tst [((Reg.TL_STATUS_STATE 3), 1)] with tl := { port := .replicate 12 { train := .caps } } }, by decide +kernel⟩,
   ⟨3, [1, 1, 64, 0, 0, 0, 0, 0] ++ ([0x10, 1, 0, 2, 0, 2] ++ .replicate 12 0 ++ [2] ++ .replicate 45 0), [0x10, 1, 0, 2, 0, 2] ++ .replicate 12 0 ++ [2] ++ .replicate 45 0, { withImage [(Reg.TL_STATUS_STATE 3, 1)] with tl := { port := .replicate 12 { train := .caps } } }, by decide +kernel⟩,
   ⟨3, { tst [((Reg.TL_STATUS_STATE 3), 1)] with tl := { port := .replicate 12 { train := .caps } } }, by decide +kernel⟩,
   ⟨3, 60, 60, { tst [((Reg.TL_STATUS_STATE 3), 1)] with tl := { port := .replicate 12 { train := .relock } } }, by decide +kernel⟩,
   ⟨3, [], { tst [((Reg.TL_STATUS_STATE 3), 1)] with tl := { port := .replicate 12 { train := .probe } } }, by decide +kernel⟩,
   ⟨3, [], tst [((Reg.TL_STATUS_STATE 3), 2)], by decide +kernel⟩,
   ⟨3, { tst [((Reg.TL_STATUS_STATE 3), 1)] with tl := { port := .replicate 12 { train := .config } } }, by decide +kernel⟩,
   ⟨3, .engine 0, 0x100, tst [((Reg.TL_STATUS_STATE 3), 2)], by decide +kernel⟩,
   ⟨3, .engine 0, 0x200, tst [((Reg.TL_STATUS_STATE 3), 2)], by decide +kernel⟩,
   ⟨3, .engine 0, 0x80, tst [((Reg.TL_STATUS_STATE 3), 2), ((Reg.TL_STATUS_OWNED 3), 1), ((Reg.TL_FB_LO_ADDR 3), 4194304)], 0x10000000, by decide +kernel⟩,
   ⟨3, [0x30, 1, 12, 0, 0, 0, 0, 0, 0x80, 0, 0, 0, 0, 0, 0, 0, 0, 0, 0, 0], [0x80, 0, 0, 0, 0, 0, 0, 0, 0, 0, 0, 0], 0, { tst [((Reg.TL_STATUS_STATE 3), 2)] with tl := { port := .replicate 12 { fb := some 0 } } }, by decide +kernel⟩,
   ⟨3, { tst [((Reg.TL_STATUS_STATE 3), 2)] with tl := { port := .replicate 12 { fb := some 0 } } }, by decide +kernel⟩,
   ⟨3, [0x22, 1, 64, 0, 0, 0, 0, 0] ++ .replicate 64 7, .replicate 64 7, tst [((Reg.TL_STATUS_STATE 3), 2)], by decide +kernel⟩,
   ⟨3, [0x21, 1, 12, 0, 0, 0, 0, 0, 0, 0, 0, 0, 0, 0, 1, 0, 0, 0, 0, 0], [0, 0, 0, 0, 0, 0, 1, 0, 0, 0, 0, 0], tst [(Reg.TL_STATUS_STATE 3, 2)], by decide +kernel⟩,
   ⟨3, [0x40, 9, 8, 0, 0, 0, 0, 0] ++ List.replicate 8 0, List.replicate 8 0, tst [((Reg.TL_STATUS_STATE 3), 2)], by decide +kernel⟩,
   ⟨3, { tst [((Reg.TL_STATUS_STATE 3), 2)] with tl := { port := .replicate 12 { capWait := true } } }, by decide +kernel⟩,
   ⟨3, tst [((Reg.TL_STATUS_STATE 3), 2)], by decide +kernel⟩,
   ⟨3, [(2, 0x78), (2, BitVec.ofNat 64 (termType 5))], tst [], by decide +kernel⟩,
   ⟨3, tst [((Reg.TL_STATUS_STATE 3), 2)], by decide +kernel⟩,
   ⟨3, withImage [(Reg.TL_CTRL_EN 3, 1), (Reg.TL_CTRL_AUTO_RETRAIN 3, 1)], by decide +kernel⟩,
   ⟨3, [0x3F, 1, 4, 0, 0, 0, 0, 0, 0, 0, 0, 0], tst [((Reg.TL_STATUS_STATE 3), 2)], by decide +kernel⟩⟩

theorem test_meets_CompletionHealthAndSupply :
    (∃ (m : Master) (v : Word) (s : State), (s.accepts m 0x200D0000) ∧ (s.on Reg.FT_STATUS_RUN = false) ∧ (v.toNat.testBit 0 = true)) ∧
    (∃ (m : Master) (v : Word) (s : State), (s.accepts m 0x200D0000) ∧ (v.toNat.testBit 1 = true) ∧ (s.on Reg.HLTH_CTRL_COMMIT = false) ∧ (s.on Reg.FT_STATUS_RUN = true) ∧ (s.ft.guard < s.ft.m + 2)) ∧
    (∃ (m : Master) (v : Word) (s : State), (s.accepts m 0x200D0040) ∧ (v.toNat.testBit 31 = true) ∧ (s.hlth.queue.length < 256)) ∧
    (∃ (m : Master) (v : Word) (s : State), (s.accepts m 0x200D0000) ∧ (v.toNat.testBit 2 = true)) ∧
    (∃ (s : State), (s.hlth.reports ≠ [])) ∧
    (∃ (m : Master) (v : Word) (s : State) (x : Update) (r : List Update), (s.accepts m 0x200D004C) ∧ (v.toNat.testBit 0 = true) ∧ (s.hlth.reports = x :: r)) ∧
    (∃ (m : Master) (v : Word) (s : State), (s.accepts m 0x200E0000) ∧ (v.toNat.testBit 0 = true) ∧ (s.rd Reg.LSC_STATUS_STATE = 0) ∧ ((s.stored m 0x200E0000 v).understudyRole = false) ∧ ((s.stored m 0x200E0000 v).lscProt = false)) ∧
    (∃ (c : Vector (Fin 4096) 20) (s : State), (s.lscPowered = true) ∧ (s.rd Reg.LSC_STATUS_STATE = 1)) ∧
    (∃ (c : Fin 4096) (s : State), (s.lscPowered = true)) ∧
    (∃ (ph : Fin 4) (c : Fin 4096) (s : State), (s.lscPowered = true) ∧ (s.phaseOn ph = true)) ∧
    (∃ (m : Master) (v : Word) (s : State), (s.accepts m 0x200E0000) ∧ (v.toNat.testBit 1 = true) ∧ (s.on Reg.LSC_CTRL_COMMIT = false) ∧ (s.on Reg.FT_STATUS_RUN = true) ∧ (s.ft.guard < s.ft.m + 2)) ∧
    (∃ (ph : Fin 4) (again : Bool) (s : State), (s.lscPowered = true) ∧ (s.rd Reg.LSC_STATUS_STATE ≠ 0)) ∧
    (∃ (s : State), (s.rd Reg.LSC_STATUS_STATE ≠ 0) ∧ (s.lscPowered = true) ∧ (s.lsc.ocRun.toList.any (fun n => decide (max 1 (s.rd Reg.LSC_PROT1_OC_CNT) ≤ n)) = true)) ∧
    (∃ (s : State), (s.rd Reg.LSC_STATUS_STATE ≠ 0) ∧ (s.lscPowered = true)) ∧
    (∃ (s : State), (s.rd Reg.LSC_STATUS_STATE ≠ 0) ∧ (s.lscPowered = true) ∧ (decide (max 1 (s.rd Reg.LSC_PROT0_UV_US) * 10 ≤ s.lsc.uvRun) = true)) :=
  ⟨⟨.engine 0, 1, tst [], by decide +kernel⟩,
   ⟨.engine 0, 2, tst [(Reg.FT_STATUS_RUN, 1)], by decide +kernel⟩,
   ⟨.engine 0, 0x80000000, tst [], by decide +kernel⟩,
   ⟨.engine 0, 4, tst [], by decide +kernel⟩,
   ⟨{ tst [] with hlth := { reports := [{}] } }, by decide +kernel⟩,
   ⟨.engine 0, 1, { tst [] with hlth := { reports := [{}] } }, {}, [], by decide +kernel⟩,
   ⟨.engine 0, 1, tst [], by decide +kernel⟩,
   ⟨.replicate 20 2000, tst [(Reg.LSC_STATUS_STATE, 1)], by decide +kernel⟩,
   ⟨5, tst [], by decide +kernel⟩,
   ⟨0, 100, tst [], by decide +kernel⟩,
   ⟨.engine 0, 2, tst [(Reg.FT_STATUS_RUN, 1)], by decide +kernel⟩,
   ⟨1, true, tst [(Reg.LSC_STATUS_STATE, 2)], by decide +kernel⟩,
   ⟨{ tst [(Reg.LSC_STATUS_STATE, 2)] with lsc := { ocRun := .replicate 4 99 } }, by decide +kernel⟩,
   ⟨tst [(Reg.LSC_STATUS_STATE, 2)], by decide +kernel⟩,
   ⟨{ tst [(Reg.LSC_STATUS_STATE, 2)] with lsc := { uvRun := 9999999 } }, by decide +kernel⟩⟩

theorem test_meets_CompletionThermalAndCalibration :
    (∃ (m : Master) (v : Word) (s : State), (s.accepts m 0x200F0000) ∧ (v.toNat.testBit 0 = true) ∧ (s.on Reg.THM_CTRL_EN = false)) ∧
    (∃ (m : Master) (v : Word) (s : State), (s.accepts m 0x200F0000) ∧ (v.toNat.testBit 1 = true)) ∧
    (∃ (a : Vector (Vector (Fin 4096) 16) 8) (s : State), (s.on Reg.THM_CTRL_EN = true)) ∧
    (∃ (s : State), (s.on Reg.THM_CTRL_EN = true) ∧ (100 ≤ s.thm.steps)) ∧
    (∃ (x : Fin 12) (k : Fin 8) (s : State), (¬ s.thm.ntcDev[k] ≤ 2000)) ∧
    (∃ (x : Fin 12) (s : State), (¬ (s.thm.tile[x]).model ≤ 10000)) ∧
    (∃ (p x : Fin 12) (k : Fin 8) (s : State) (i : Image), (s.image = some i) ∧ (i.tileOf p = some x.val)) ∧
    (∃ (a b c d : Int) (s : State), (s.alive 1 = true) ∧ (-32768 ≤ max (max a b) (max c d)) ∧ (max (max a b) (max c d) < 32768)) ∧
    (∃ (k : Nat) (s : State), (s.thm.cause = some k) ∧ (s.pwr.shutdown = false)) ∧
    (∃ (s : State), (s.thm.defer = true)) ∧
    (∃ (s : State), (s.pwr.shutdown = true) ∧ (s.rd Reg.CLKRST_CAUSE_CAUSE = 6) ∧ (s.on Reg.THM_CTRL_SHUT_AUTO = true)) ∧
    (∃ (m : Master) (v : Word) (s : State), (s.accepts m 0x20100000) ∧ (v.toNat.testBit 0 = true) ∧ (s.on Reg.CAL_CTRL_EN = false)) ∧
    (∃ (s : State), (s.on Reg.CAL_CTRL_EN = true)) ∧
    (∃ (z c : List (BitVec 18)) (l : List (Fin 4096)) (s : State), (s.cal.corr = true) ∧ (({ s with cal := { s.cal with corr := false, calp := s.calpTaken l } }.adcRanges z c).adcAllOk = true) ∧ (s.on Reg.CAL_STATUS_ADC_VALID = false)) ∧
    (∃ (m : Master) (v : Word) (s : State), (s.accepts m 0x20100000) ∧ (v.toNat.testBit 1 = true) ∧ (s.on Reg.CAL_STATUS_RUN = false) ∧ (s.on Reg.CAL_CTRL_EN = true) ∧ ((s.stored m 0x20100000 v).understudy = false)) ∧
    (∃ (s : State), (s.on Reg.CAL_TRIG_INTERVAL = true) ∧ (s.on Reg.CAL_STATUS_RUN = false) ∧ (s.on Reg.CAL_CTRL_EN = true) ∧ (s.understudy = false)) ∧
    (∃ (s : State) (x : Int), (s.tm = some x) ∧ (s.on Reg.CAL_CTRL_TEMP_TRIG = true) ∧ (s.on Reg.CAL_STATUS_KI_VALID = true) ∧ (max 1 (s.rd Reg.CAL_TRIG_DT) * 256 < (x - signed 16 (s.rd Reg.CAL_LAST_TEMP_TEMP)).natAbs) ∧ (s.on Reg.CAL_STATUS_RUN = false) ∧ (s.on Reg.CAL_CTRL_EN = true) ∧ (s.understudy = false)) ∧
    (∃ (s : State), (s.on Reg.CAL_STATUS_RUN = true)) ∧
    (∃ (s : State), (s.cal.autoDue = true) ∧ (s.on Reg.CAL_NV_STATUS_NV_BUSY = false) ∧ (s.thm.shut = false)) ∧
    (∃ (m : Master) (v : Word) (s : State), (s.accepts m 0x20100050) ∧ (v.toNat.testBit 0 = true) ∧ (s.on Reg.CAL_STATUS_RUN = false) ∧ (s.on Reg.CAL_EXT_STATUS_BUSY = false) ∧ ((s.stored m 0x20100050 v).understudy = false)) ∧
    (∃ (m : Master) (v : Word) (s : State), (s.accepts m 0x20100050) ∧ (v.toNat.testBit 1 = true) ∧ (s.on Reg.CAL_EXT_STATUS_BUSY = true) ∧ (s.cal.taking = false) ∧ (s.cal.steps.length < 8)) ∧
    (∃ (m : Master) (v : Word) (s : State) (ki : Nat) (i0 : Int), (s.accepts m 0x20100050) ∧ (v.toNat.testBit 2 = true) ∧ (s.on Reg.CAL_EXT_STATUS_BUSY = true) ∧ (s.cal.taking = false) ∧ (4 ≤ s.cal.steps.length) ∧ (8 * s.rd Reg.CAL_CFG_XSD_MIN * 65536 ≤ (s.cal.steps.map (fun e => e.x / 16)).foldl max 0 - (s.cal.steps.map (fun e => e.x / 16)).foldl min ((s.cal.steps.map (fun e => e.x / 16)).foldl max 0)) ∧ (131072 ≤ extScorr s.cal.steps * 10 ∧ extScorr s.cal.steps ≤ 20480) ∧ (((s.stored m 0x20100050 v).calEval (s.cal.steps.map (fun e => (e.x / 16, e.i / 16))) false).1 = .passed ki i0) ∧ (ki < 2 ^ 32)) ∧
    (∃ (m : Master) (v : Word) (s : State), (s.accepts m 0x20100050) ∧ (v.toNat.testBit 3 = true) ∧ (s.on Reg.CAL_EXT_STATUS_BUSY = true)) ∧
    (∃ (m : Master) (v : Word) (s : State) (b : Bool) (q : Nat) (d : List Byte), (s.accepts m 0x20100080) ∧ (v.toNat.testBit 24 = true) ∧ (s.on Reg.CAL_NV_STATUS_NV_BUSY = false) ∧ ((s.stored m 0x20100080 v).nvNewer ((s.stored m 0x20100080 v).rd Reg.CAL_NV_CTRL_ID) = some b) ∧ ((s.stored m 0x20100080 v).nvCopy ((s.stored m 0x20100080 v).rd Reg.CAL_NV_CTRL_ID) b = some (q, d))) ∧
    (∃ (m : Master) (v : Word) (s : State), (s.accepts m 0x20100080) ∧ (v.toNat.testBit 25 = true) ∧ (s.on Reg.CAL_NV_STATUS_NV_BUSY = false) ∧ ((s.stored m 0x20100080 v).rd Reg.CAL_NV_CTRL_LEN ≤ 2028) ∧ (1 ≤ (s.stored m 0x20100080 v).rd Reg.CAL_NV_CTRL_ID ∧ (s.stored m 0x20100080 v).rd Reg.CAL_NV_CTRL_ID ≤ 0x1F) ∧ (s.thm.shut = false)) ∧
    (∃ (s : State) (o : NvOp), (s.cal.op = some o) ∧ (s.thm.defer = false)) :=
  ⟨⟨.engine 0, 1, tst [], by decide +kernel⟩,
   ⟨.engine 0, 2, tst [], by decide +kernel⟩,
   ⟨.replicate 8 (.replicate 16 0), tst [(Reg.THM_CTRL_EN, 1)], by decide +kernel⟩,
   ⟨{ tst [(Reg.THM_CTRL_EN, 1)] with thm := { steps := 100 } }, by decide +kernel⟩,
   ⟨0, 2, { tst [] with thm := { ntcDev := .replicate 8 2001 } }, by decide +kernel⟩,
   ⟨5, { tst [] with thm := { tile := .replicate 12 { model := 10001 } } }, by decide +kernel⟩,
   ⟨3, 3, 1, withImage [], tImage, by decide +kernel⟩,
   ⟨0x1900, -5, 0x1A00, 0, tst [], by decide +kernel⟩,
   ⟨6, { tst [] with thm := { cause := some 6 } }, by decide +kernel⟩,
   ⟨{ tst [] with thm := { defer := true } }, by decide +kernel⟩,
   ⟨{ tst [(Reg.CLKRST_CAUSE_CAUSE, 6), (Reg.THM_CTRL_SHUT_AUTO, 1)] with pwr := { shutdown := true } }, by decide +kernel⟩,
   ⟨.engine 0, 1, tst [], by decide +kernel⟩,
   ⟨tst [(Reg.CAL_CTRL_EN, 1)], by decide +kernel⟩,
   ⟨[], [174760, 209712, 174760], [], { tst [] with cal := { corr := true } }, by decide +kernel⟩,
   ⟨.engine 0, 2, tst [(Reg.CAL_CTRL_EN, 1)], by decide +kernel⟩,
   ⟨tst [(Reg.CAL_TRIG_INTERVAL, 5), (Reg.CAL_CTRL_EN, 1)], by decide +kernel⟩,
   ⟨withImage [(Reg.CAL_CTRL_TEMP_TRIG, 1), (Reg.CAL_STATUS_KI_VALID, 1), (Reg.CAL_CTRL_EN, 1), (Reg.CAL_LAST_TEMP_TEMP, 0x4000)], 0, by decide +kernel⟩,
   ⟨tst [(Reg.CAL_STATUS_RUN, 1)], by decide +kernel⟩,
   ⟨{ tst [] with cal := { autoDue := true } }, by decide +kernel⟩,
   ⟨.engine 0, 1, tst [], by decide +kernel⟩,
   ⟨.engine 0, 2, tst [(Reg.CAL_EXT_STATUS_BUSY, 1)], by decide +kernel⟩,
   ⟨.engine 0, 4, { tst [(Reg.CAL_EXT_STATUS_BUSY, 1)] with cal := { steps := [{}, { x := 2 ^ 32, y := 4096, i := 4096 }, { x := 2 ^ 33, y := 8192, i := 8192 }, { x := 3 * 2 ^ 32, y := 12288, i := 12288 }] } }, 4096, 0, by decide +kernel⟩,
   ⟨.engine 0, 8, tst [(Reg.CAL_EXT_STATUS_BUSY, 1)], by decide +kernel⟩,
   ⟨.engine 0, 0x1000001, { tst [] with cal := { nv := nvStore [] (nvBase 1 false) (nvImage 1 9 []) } }, false, 9, [], by decide +kernel⟩,
   ⟨.engine 0, 0x2000003, tst [], by decide +kernel⟩,
   ⟨{ tst [] with cal := { op := some { write := true, id := 1, data := [], auto := false } } }, { write := true, id := 1, data := [], auto := false }, by decide +kernel⟩⟩

theorem test_meets_CompletionNetworkAndTime :
    (∃ (n : Fin 2) (m : Master) (v : Word) (s : State), (s.accepts m (netCtrl n)) ∧ (v.toNat.testBit 0 = true) ∧ (s.on (Reg.FLT_FENCE_NET n) = false)) ∧
    (∃ (n : Fin 2) (k : Nat) (fd : Bool) (s : State), (s.alive 3 = true) ∧ (s.on (Reg.NET_CTRL_MODE n) = false) ∧ (fd = true) ∧ (k = 1000)) ∧
    (∃ (n : Fin 2) (m : Master) (v : Word) (s : State), (s.accepts m (netCtrl n)) ∧ (v.toNat.testBit 7 = true) ∧ (s.on (Reg.NET_STATUS_DMA_ERR n) = false)) ∧
    (∃ (n : Fin 2) (m : Master) (v : Word) (s : State), (s.accepts m (netCtrl n)) ∧ (v.toNat.testBit 8 = true) ∧ (s.on (Reg.NET_CTRL_EN n) = true) ∧ (s.on (Reg.NET_STATUS_DMA_ERR n) = false)) ∧
    (∃ (n : Fin 2) (x f : List Byte) (a : Nat) (s : State), (s.on (Reg.NET_CTRL_EN n) = true) ∧ (s.on (Reg.NET_STATUS_LINK n) = true) ∧ (s.netReaches n x = true) ∧ (s.frameWhole n x = true) ∧ (x.take (x.length - 4) = f) ∧ (s.on (Reg.NET_CTRL_PAUSE_EN n) = false) ∧ (s.vlanOk n f = true) ∧ (s.addrPass n f = true) ∧ (s.on (Reg.NET_CTRL_PRP_EN 0) = false) ∧ (s.safeOf f = none) ∧ (s.net.rxStopped[n] = false) ∧ (s.readable (s.rxDesc n) = true) ∧ ((s.byte (s.rxDesc n + 5)).toNat.testBit 0 = true) ∧ (s.num (s.rxDesc n) 5 % 2 ^ 36 = a) ∧ (f.length ≤ s.num (s.rxDesc n + 6) 2) ∧ (inShared a f.length = true) ∧ ((s.slotsOf a f.length).all (fun k => !s.slotBlocks k (s.actsFor (.netDma n))) = true) ∧ ((s.rxWrite n a f []).2 = none)) ∧
    (∃ (n : Fin 2) (a l : Nat) (s : State), (s.on (Reg.NET_CTRL_EN n) = true) ∧ (s.net.txRun[n] = true) ∧ (s.net.txStopped[n] = false) ∧ (s.net.pause[n] ≤ s.now) ∧ (s.readable (s.txDesc n) = true) ∧ ((s.byte (s.txDesc n + 5)).toNat.testBit 0 = true) ∧ (s.twinPaused n (s.byte (s.txDesc n + 5)).toNat = false) ∧ (s.num (s.txDesc n) 5 % 2 ^ 36 = a) ∧ (s.num (s.txDesc n + 6) 2 = l) ∧ (14 ≤ l) ∧ (l ≤ s.maxLen n - 4) ∧ (inShared a l = true) ∧ (s.canRead a l = true)) ∧
    (∃ (m : Master) (v : Word) (s : State), (s.accepts m 0x201100A0) ∧ (v.toNat.testBit 31 = true)) ∧
    (∃ (d : Nat) (s : State), (s.on (Reg.NET_MDIO_CMD_GO 0) = true) ∧ (s.rd (Reg.NET_MDIO_CMD_OP 0) = 2)) ∧
    (∃ (d : Fin 2) (m : Master) (v : Word) (s : State), (s.accepts m (0x20130100 + d.val * 0x40)) ∧ (v.toNat.testBit 0 = true)) ∧
    (∃ (d : Fin 2) (m : Master) (v : Word) (s : State) (c : AdjCmd), (s.accepts m (0x20130100 + d.val * 0x40)) ∧ (v.toNat.testBit 1 = true) ∧ ((s.td d).cmd = none) ∧ ((s.stored m (0x20130100 + d.val * 0x40) v).adjLoad d = some c)) ∧
    (∃ (d : Fin 2) (m : Master) (v : Word) (s : State) (c : AdjCmd), (s.accepts m (0x20130100 + d.val * 0x40)) ∧ (v.toNat.testBit 2 = true) ∧ ((s.td d).cmd = none) ∧ ((s.stored m (0x20130100 + d.val * 0x40) v).adjStep d = some c)) ∧
    (∃ (d : Fin 2) (s : State) (c : AdjCmd) (x : Nat), ((s.td d).cmd = some c) ∧ ((s.td d).adjusted c = some x)) ∧
    (∃ (m : Master) (v : Word) (d : Fin 2) (s : State), (s.accepts m 0x20130000) ∧ (d = Fin.ofNat 2 (bits v.toNat 0 1)) ∧ (s.on (Reg.TIME_D_CTRL_EN d) = true) ∧ (s.rd Reg.TIME_STATUS_FT_SRC = 1 - d.val) ∧ (s.on Reg.TIME_STATUS_SWITCH_PEND = false) ∧ (s.on Reg.FT_STATUS_RUN = false)) ∧
    (∃ (s : State), (s.on Reg.TIME_STATUS_SWITCH_PEND = true) ∧ (s.tdOn (Fin.ofNat 2 (s.rd Reg.TIME_CTRL_FT_SEL)) = true) ∧ (s.on Reg.FT_STATUS_RUN = false)) ∧
    (∃ (s : State), (1 * nsUnit < s.time.delta)) ∧
    (∃ (k : Fin 4) (b : Bool) (s : State), ((s.rd (Reg.TIME_CAP_EDGE k)).testBit (if b then 0 else 1) = true) ∧ ((s.time.cap[k]).length < 8)) ∧
    (∃ (s : State), (s.on Reg.TIME_PPS_EN = true) ∧ (s.tdOn (Fin.ofNat 2 (s.rd Reg.TIME_PPS_DOMAIN)) = true)) ∧
    (∃ (k : Fin 2) (s : State) (x : Nat), (s.time.cueNext[k] = some x) ∧ (x ≤ s.cueNow (s.cueDom k)) ∧ (s.time.cueLate[k] = false)) ∧
    (∃ (k : Fin 2) (s : State), (s.time.pulse[k] = true)) :=
  ⟨⟨1, .engine 0, 1, tst [], by decide +kernel⟩,
   ⟨1, 1000, true, tst [], by decide +kernel⟩,
   ⟨1, .engine 0, 0x80, tst [], by decide +kernel⟩,
   ⟨1, .engine 0, 0x100, tst [((Reg.NET_CTRL_EN 1), 1)], by decide +kernel⟩,
   ⟨0, (List.replicate 6 255 ++ List.replicate 54 1) ++ leBytes 4 (crc32 (List.replicate 6 255 ++ List.replicate 54 1)), (List.replicate 6 255 ++ List.replicate 54 1), 0x10001000, (tst [(Reg.NET_CTRL_EN 0, 1), (Reg.NET_STATUS_LINK 0, 1), (Reg.NET_FRAME_UNTAG_OK 0, 1), (Reg.NET_RXRING_ADDR 0, 0x400000)]).store 0x10000000 [0, 0x10, 0, 0x10, 0, 1, 0, 1], by decide +kernel⟩,
   ⟨0, 0x10001000, 64, { (tst [(Reg.NET_CTRL_EN 0, 1), (Reg.NET_STATUS_LINK 0, 1), (Reg.NET_TXRING_ADDR 0, 0x400000)]).store 0x10000000 [0, 0x10, 0, 0x10, 0, 1, 64, 0] with net := { txRun := .replicate 2 true } }, by decide +kernel⟩,
   ⟨.engine 0, 0x80000000, tst [], by decide +kernel⟩,
   ⟨0x1234, tst [((Reg.NET_MDIO_CMD_GO 0), 1), ((Reg.NET_MDIO_CMD_OP 0), 2)], by decide +kernel⟩,
   ⟨1, .engine 0, 1, tst [], by decide +kernel⟩,
   ⟨1, .engine 0, 2, tst [], { load := true, ns := 0, sec := 0 }, by decide +kernel⟩,
   ⟨1, .engine 0, 4, tst [], { load := false, ns := 0, sec := 0 }, by decide +kernel⟩,
   ⟨1, { tst [] with time := { dom := .replicate 2 { cmd := some { load := true, sec := 3, ns := 5 } } } }, { load := true, sec := 3, ns := 5 }, (3 * giga + 5) * nsUnit, by decide +kernel⟩,
   ⟨.engine 0, 1, 1, tst [((Reg.TIME_D_CTRL_EN 1), 1)], by decide +kernel⟩,
   ⟨tst [(Reg.TIME_STATUS_SWITCH_PEND, 1), (Reg.TIME_CTRL_FT_SEL, 1), ((Reg.TIME_D_CTRL_EN 1), 1)], by decide +kernel⟩,
   ⟨{ tst [] with time := { delta := 1000 * nsUnit } }, by decide +kernel⟩,
   ⟨2, true, tst [((Reg.TIME_CAP_EDGE 2), 1)], by decide +kernel⟩,
   ⟨tst [(Reg.TIME_PPS_EN, 1), ((Reg.TIME_D_CTRL_EN 0), 1)], by decide +kernel⟩,
   ⟨1, { tst [((Reg.TIME_CUE_CTRL_PIN 1), 1)] with time := { cueNext := .replicate 2 (some 0) } }, 0, by decide +kernel⟩,
   ⟨1, { tst [] with time := { pulse := .replicate 2 true, tsout := .replicate 2 true } }, by decide +kernel⟩⟩

theorem test_meets_CompletionSafetyAndFaults :
    (∃ (m : Master) (v : Word) (s : State), (s.accepts m 0x20140000) ∧ (v.toNat.testBit 0 = true) ∧ (s.on Reg.SAFE_CTRL_EN = false) ∧ (s.part.safeCapable = true)) ∧
    (∃ (m : Master) (v : Word) (s : State), (s.accepts m 0x20140000) ∧ (v.toNat.testBit 1 = true) ∧ (s.on Reg.SAFE_STATUS_DISC = true ∨ s.on Reg.SAFE_STATUS_TP_ERR = true) ∧ ((List.finRange 2).all (fun (k : Fin 2) => !(s.stored m 0x20140000 v).ilUsed k || s.safe.ackSeen[k] == 2) = true)) ∧
    (∃ (m : Master) (v : Word) (s : State), (s.accepts m 0x20140000)) ∧
    (∃ (m : Master) (v : Word) (s : State), (s.accepts m 0x20140000) ∧ (v.toNat.testBit 3 = true)) ∧
    (∃ (m : Master) (v : Word) (s : State), (s.accepts m 0x20140000) ∧ (v.toNat.testBit 4 = true) ∧ (s.on Reg.SAFE_STATUS_PROOF_DUE = false)) ∧
    (∃ (m : Master) (v : Word) (s : State), (s.accepts m 0x20140000) ∧ (v.toNat.testBit 5 = true) ∧ (s.on Reg.SAFE_STATUS_PROOF_DUE = true)) ∧
    (∃ (m : Master) (v : Word) (s : State), (s.accepts m 0x20140000) ∧ (v.toNat.testBit 6 = true)) ∧
    (∃ (s : State), (s.on Reg.SAFE_CTRL_CMON_TEST = true)) ∧
    (∃ (p : Fin 12) (s : State), (s.alive 2 = true)) ∧
    (∃ (p n : Byte) (s : State), (s.part.safeCapable = true) ∧ (s.alive 2 = true) ∧ (n = ~~~p)) ∧
    (∃ (a b : Fin 16) (i : Fin 4) (s : State), (s.part.safeCapable = true) ∧ (s.alive 2 = true) ∧ (b.val.testBit i = false) ∧ (a.val.testBit i = !(s.rd Reg.SAFE_IL_LEVEL).testBit i) ∧ (s.safe.run[i] + 1 < 60)) ∧
    (∃ (x : Fin 2) (a b c : Fin 16) (i : Fin 4) (s : State), (s.part.safeCapable = true) ∧ (s.alive 2 = true) ∧ (s.ilUsed (Fin.ofNat 2 (i.val / 2)) = true) ∧ (tpFails i x (a.val.testBit i) (b.val.testBit i) (c.val.testBit i) = false)) ∧
    (∃ (k : Fin 2) (s : State), (s.part.safeCapable = true) ∧ (s.alive 2 = true) ∧ (s.ilUsed k = true) ∧ (s.ilA k = s.ilB k)) ∧
    (∃ (s : State), (s.safe.silence = true)) ∧
    (∃ (s : State) (x : SafeCopy) (l : List SafeCopy), (s.safe.held = x :: l)) ∧
    (∃ (k : Fin 8) (s : State), (s.on Reg.SAFE_CTRL_EN = true) ∧ (s.on Reg.SAFE_STATUS_SYM_INHIBIT = false) ∧ (s.part.safeCapable = true)) ∧
    (∃ (m : Master) (k : Fin 8) (v : Word) (s : State), (s.accepts m (0x20140200 + k.val * 0x10)) ∧ (v.toNat.testBit 0 = true) ∧ (s.on Reg.SAFE_STATUS_SYM_INHIBIT = false)) ∧
    (∃ (m : Master) (v : Word) (s : State), (s.accepts m 0x2014007C) ∧ (v.toNat.testBit 0 = true)) ∧
    (∃ (c : Fin 4) (o : Occurrence) (cut : List (Master × Nat × Access)) (s : State), (s.flt.raised = []) ∧ ((48 ≤ o.src ∧ o.src ≤ 54 → s.part.safeCapable = true)) ∧ (o.src < 96) ∧ (min 3 (s.rd (Reg.FLT_SRC_CFG_CLASS o.src)) = c.val) ∧ (s.on (Reg.FLT_CAP_INFO_VALID c) = false)) ∧
    (∃ (m : Master) (v : Word) (k : Fin 5) (s : State), (s.accepts m 0x20040008) ∧ (v.toNat.testBit k = true)) ∧
    (∃ (m : Master) (k : Fin 3) (v : Word) (i : Fin 32) (s : State), (s.accepts m (0x20040020 + 4 * k)) ∧ (v.toNat.testBit i = true) ∧ (s.held (32 * k + i) = false)) ∧
    (∃ (m : Master) (v : Word) (s : State), (s.accepts m 0x20040000) ∧ (v.toNat.testBit 0 = true)) ∧
    (∃ (m : Master) (v : Word) (s : State), (s.accepts m 0x20040014) ∧ (v.toNat.testBit 31 = true)) ∧
    (∃ (m : Master) (v : Word) (s : State), (s.accepts m 0x2004000C) ∧ (v.toNat.testBit 0 = true)) ∧
    (∃ (m : Master) (v : Word) (e : Fin 16) (s : State), (s.accepts m 0x20040070) ∧ (v.toNat.testBit e = true)) ∧
    (∃ (m : Master) (k : Fin 6) (v : Word) (i : Fin 32) (s : State), (s.accepts m (0x20040080 + 4 * k)) ∧ (v.toNat.testBit i = true)) ∧
    (∃ (m : Master) (v : Word) (n : Fin 2) (s : State), (s.accepts m 0x20040074) ∧ (v.toNat.testBit n = true)) :=
  ⟨⟨.engine 12, 1, tst [], by decide +kernel⟩,
   ⟨.engine 12, 2, { tst [(Reg.SAFE_STATUS_DISC, 1)] with safe := { ackSeen := .replicate 2 2 } }, by decide +kernel⟩,
   ⟨.engine 12, 4, tst [], by decide +kernel⟩,
   ⟨.engine 12, 8, tst [], by decide +kernel⟩,
   ⟨.engine 12, 0x10, tst [(Reg.SAFE_STATUS_PROOF_DUE, 0)], by decide +kernel⟩,
   ⟨.engine 12, 0x20, tst [(Reg.SAFE_STATUS_PROOF_DUE, 1)], by decide +kernel⟩,
   ⟨.engine 12, 0x40, tst [], by decide +kernel⟩,
   ⟨tst [(Reg.SAFE_CTRL_CMON_TEST, 1)], by decide +kernel⟩,
   ⟨3, tst [], by decide +kernel⟩,
   ⟨0x15, 0xEA, tst [], by decide +kernel⟩,
   ⟨15, 0, 2, tst [], by decide +kernel⟩,
   ⟨1, 0, 0, 0, 0, tst [], by decide +kernel⟩,
   ⟨0, tst [(Reg.SAFE_IL_LEVEL, 3)], by decide +kernel⟩,
   ⟨{ tst [] with safe := { silence := true } }, by decide +kernel⟩,
   ⟨{ tst [] with safe := { held := [{ port := 3 }] } }, { port := 3 }, [], by decide +kernel⟩,
   ⟨3, tst [(Reg.SAFE_CTRL_EN, 1)], by decide +kernel⟩,
   ⟨.engine 12, 3, 0x41, tst [], by decide +kernel⟩,
   ⟨.engine 12, 1, tst [], by decide +kernel⟩,
   ⟨0, { src := 30, unit := none, addr := 0x20040014, master := .engine 0, access := .write }, [(.engine 0, 0x20080000, .write)], tst [((Reg.FLT_SRC_CFG_CLASS 30), 0), ((Reg.FLT_SRC_CFG_REACT 30), 4)], by decide +kernel⟩,
   ⟨.engine 0, 4, 2, tst [((Reg.FLT_CAP_INFO_VALID 2), 1)], by decide +kernel⟩,
   ⟨.engine 0, 1, 0x10, 4, tst [((Reg.FLT_PEND 36), 1)], by decide +kernel⟩,
   ⟨.engine 0, 1, tst [], by decide +kernel⟩,
   ⟨.engine 0, 0x80000003, tst [], by decide +kernel⟩,
   ⟨.engine 0, 1, tst [(Reg.FLT_STATUS_PIN_LATCH, 1)], by decide +kernel⟩,
   ⟨.engine 0, 8, 3, tst [((Reg.FLT_FENCE_ENG 3), 1)], by decide +kernel⟩,
   ⟨.engine 0, 5, 8, 3, tst [((Reg.FLT_ZFENCE 163), 1)], by decide +kernel⟩,
   ⟨.engine 0, 2, 1, tst [((Reg.FLT_FENCE_NET 1), 1)], by decide +kernel⟩⟩

theorem test_meets_CompletionEventsAndEngines :
    (∃ (n : Fin 128) (s : State), (srcAssigned n = true)) ∧
    (∃ (m : Master) (k : Fin 4) (v : Word) (i : Fin 32) (s : State), (s.accepts m (0x20030110 + k * 4)) ∧ (v.toNat.testBit i = true)) ∧
    (∃ (m : Master) (k : Fin 4) (v : Word) (i : Fin 32) (s : State), (s.accepts m (0x20030100 + k * 4)) ∧ (v.toNat.testBit i = true)) ∧
    (∃ (e : Fin 16) (w : EngView) (n : Fin 128) (s : State), ((s.view e w).bestEvent e = some n)) ∧
    (∃ (e : Fin 16) (w : EngView) (r : List Opened) (s : State), ((s.eng e).opened = .trap :: r)) ∧
    (∃ (e : Fin 16) (w : EngView) (x y : Word) (s : State), (trapOpen (s.eng e).opened = false) ∧ ((s.eng e).fault = none)) ∧
    (∃ (e : Fin 16) (w : EngView) (s : State), ((s.eng e).nmiPend ≠ 0) ∧ (nmiOpen (s.eng e).opened = false) ∧ (s.engRuns e = true)) ∧
    (∃ (e : Fin 16) (w : EngView) (s : State), (w.machine = true ∨ w.tw = false) ∧ ((List.finRange 128).any (fun n => (s.view e w).wakes e n) = false) ∧ ((s.eng e).nmiPend = 0)) ∧
    (∃ (m : Master) (e : Fin 16) (v : Word) (n : Fin 128) (p : Nat) (q : Word) (b : Bool) (s : State), (s.accepts m (0x20030810 + e * 0x40)) ∧ ((s.eng e).opened = [.event n p q b]) ∧ (bits v.toNat 0 4 ≤ p)) ∧
    (∃ (m : Master) (n : Fin 128) (v : Word) (s : State), (s.accepts m (0x20031000 + n * 0x10))) ∧
    (∃ (n : Fin 128) (s : State), (s.on (Reg.EVC_PEND n) = true) ∧ (s.evc.redirected[n] = false) ∧ (s.rd (Reg.EVC_SRC_CFG_REDIRECT_TMO n) ≠ 0) ∧ (s.undeliverable n = true)) ∧
    (∃ (m : Master) (e : Fin 16) (v : Word) (s : State), (s.accepts m (0x20030800 + e * 0x40)) ∧ (v.toNat.testBit 0 = true)) ∧
    (∃ (m : Master) (e : Fin 16) (v : Word) (s : State), (s.accepts m (0x20030800 + e * 0x40)) ∧ (v.toNat.testBit 0 = false) ∧ (s.on (Reg.EVC_ENG_CTRL_HOLD e) = true) ∧ (((s.stored m (0x20030800 + e * 0x40) v).wr (Reg.EVC_ENG_CTRL_HOLD e) 0).engRuns e = true)) ∧
    (∃ (m : Master) (e : Fin 16) (v : Word) (s : State), (s.accepts m (0x20030800 + e * 0x40))) ∧
    (∃ (m : Master) (e : Fin 16) (v : Word) (s : State), (s.accepts m (0x20030814 + e * 0x40)) ∧ (v.toNat.testBit 0 = true) ∧ (s.on (Reg.EVC_ENG_WDT_CTRL_EN e) = false)) ∧
    (∃ (m : Master) (e : Fin 16) (s : State), (s.accepts m (0x2003081C + e * 0x40))) ∧
    (∃ (e : Fin 16) (s : State), (s.wdtCounts e = true) ∧ ((s.eng e).wdtWarned = false) ∧ ((s.eng e).wdtWarn < max 1 (s.rd (Reg.EVC_ENG_WDT_TIME_TMO e)))) ∧
    (∃ (e : Fin 16) (s : State), (s.wdtCounts e = true)) :=
  ⟨⟨9, tst [], by decide +kernel⟩,
   ⟨.engine 0, 2, 0x80, 7, tst [], by decide +kernel⟩,
   ⟨.engine 0, 2, 0x80, 7, tst [((Reg.EVC_PEND 71), 1)], by decide +kernel⟩,
   ⟨3, { pc := 0x1000, machine := true, mie := true, mtvec := 0x2003 }, 9, tst [((Reg.EVC_ENG_CTRL_HOLD 3), 0), ((Reg.EVC_PEND 9), 1), ((Reg.EVC_SRC_CFG_EN 9), 1), ((Reg.EVC_SRC_CFG_TARGET 9), 3), ((Reg.EVC_SRC_CFG_PRIO 9), 4), ((Reg.EVC_SRC_VEC_VEC 9), 2048)], by decide +kernel⟩,
   ⟨3, { pc := 0x1000, machine := true, mie := true, mtvec := 0x2003, mepc := 0x40 }, [], (tst [((Reg.EVC_ENG_CTRL_HOLD 3), 0)]).setEng 3 { opened := [.trap] }, by decide +kernel⟩,
   ⟨3, { pc := 0x1000, machine := true, mie := true, mtvec := 0x2003 }, 2, 7, tst [], by decide +kernel⟩,
   ⟨3, { pc := 0x1000, machine := true, mie := true, mtvec := 0x2003 }, (tst [((Reg.EVC_ENG_CTRL_HOLD 3), 0)]).setEng 3 { nmiPend := 2 }, by decide +kernel⟩,
   ⟨3, { pc := 0x1000, machine := true, mie := true, mtvec := 0x2003 }, tst [], by decide +kernel⟩,
   ⟨.engine 3, 3, 2, 9, 4, 0x100, false, (tst [((Reg.EVC_ENG_CTRL_HOLD 3), 0)]).setEng 3 { opened := [.event 9 4 0x100 false] }, by decide +kernel⟩,
   ⟨.engine 0, 9, 0x4300, tst [((Reg.EVC_PEND 9), 1), ((Reg.EVC_SRC_CFG_EN 9), 1), ((Reg.EVC_SRC_CFG_TARGET 9), 3), ((Reg.EVC_SRC_CFG_PRIO 9), 4), ((Reg.EVC_SRC_VEC_VEC 9), 2048)], by decide +kernel⟩,
   ⟨9, tst [((Reg.EVC_PEND 9), 1), ((Reg.EVC_SRC_CFG_EN 9), 1), ((Reg.EVC_SRC_CFG_TARGET 9), 3), ((Reg.EVC_SRC_CFG_PRIO 9), 4), ((Reg.EVC_SRC_VEC_VEC 9), 2048), ((Reg.EVC_SRC_CFG_REDIRECT_TMO 9), 5)], by decide +kernel⟩,
   ⟨.engine 0, 3, 1, tst [((Reg.EVC_ENG_CTRL_HOLD 3), 0), ((Reg.EVC_ENG_WDT_CTRL_EN 3), 1)], by decide +kernel⟩,
   ⟨.engine 0, 3, 0, tst [((Reg.EVC_ENG_RSTVEC_VEC 3), 4096)], by decide +kernel⟩,
   ⟨.engine 0, 3, 2, tst [], by decide +kernel⟩,
   ⟨.engine 3, 3, 1, tst [], by decide +kernel⟩,
   ⟨.engine 3, 3, tst [], by decide +kernel⟩,
   ⟨3, (tst [((Reg.EVC_ENG_CTRL_HOLD 3), 0), ((Reg.EVC_ENG_WDT_CTRL_EN 3), 1), ((Reg.EVC_ENG_WDT_TIME_TMO 3), 20)]).setEng 3 { wdtWarn := 10 }, by decide +kernel⟩,
   ⟨3, tst [((Reg.EVC_ENG_CTRL_HOLD 3), 0), ((Reg.EVC_ENG_WDT_CTRL_EN 3), 1)], by decide +kernel⟩⟩

theorem test_meets_CompletionPeripheralsAndCheckUnits :
    (∃ (m : Master) (u : Fin 2) (v : Word) (s : State), (s.accepts m (0x20170008 + u * 0x100)) ∧ ((s.peri.uart[u]).tx.length < 16)) ∧
    (∃ (u : Fin 2) (d : Byte) (s : State), (s.on (Reg.UART_CTRL_EN u) = true) ∧ ((s.peri.uart[u]).rx.length < 16)) ∧
    (∃ (m : Master) (c : Fin 3) (v : Word) (s : State), (s.accepts m (i2cAddr c + 4)) ∧ (v.toNat.testBit 31 = true) ∧ (s.on (Reg.I2C_CTRL_EN c) = true) ∧ (s.on (Reg.I2C_CMD_GO c) = false)) ∧
    (∃ (c : Fin 3) (k : Bool) (d b : List Byte) (n : Nat) (s : State), (s.on (Reg.I2C_CMD_GO c) = true) ∧ (s.on (Reg.I2C_CMD_READ c) = false) ∧ ((s.peri.i2c[c]).tx.take (min (s.rd (Reg.I2C_CMD_LEN c) - s.peri.i2cCount[c]) n) = b) ∧ (k = true ∨ s.rd (Reg.I2C_CMD_LEN c) ≤ s.peri.i2cCount[c] + b.length)) ∧
    (∃ (c : Fin 3) (s : State), (s.on (Reg.I2C_CMD_GO c) = true)) ∧
    (∃ (m : Master) (c : Fin 3) (v : Word) (s : State), (s.accepts m (i2cAddr c + 0xC)) ∧ ((s.peri.i2c[c]).tx.length < 8)) ∧
    (∃ (m : Master) (v : Word) (s : State), (s.accepts m 0x20170408) ∧ (s.on Reg.SPI_STATUS_BUSY = false) ∧ (s.on Reg.SPI_CTRL_EN = true)) ∧
    (∃ (d : Word) (s : State), (s.on Reg.SPI_STATUS_BUSY = true)) ∧
    (∃ (m : Master) (k : Fin 4) (v : Word) (s : State), (s.accepts m (0x20170610 + k * 8)) ∧ (v.toNat.testBit 0 = true)) ∧
    (∃ (k : Fin 4) (s : State), (s.on (Reg.TIM_CTRL_EN k) = true) ∧ (s.on (Reg.TIM_CTRL_PERIODIC k) = false)) ∧
    (∃ (m : Master) (u : Fin 4) (v : Word) (s : State), (s.accepts m (cvuAddr u)) ∧ (v.toNat.testBit 0 = true) ∧ (s.on (Reg.CVU_STATUS_BUSY u) = false)) ∧
    (∃ (u : Fin 4) (d : List Byte) (s : State), (s.on (Reg.CVU_STATUS_BUSY u) = true) ∧ (s.rd (Reg.CVU_CTRL_ALIVE_MODE u) = 0) ∧ ((List.range (s.cvu.unit[u]).len).all (fun i => (s.cvuByte ((s.cvu.unit[u]).addr + i)).isSome) = true) ∧ ((List.range (s.cvu.unit[u]).len).map (fun i => (s.cvuByte ((s.cvu.unit[u]).addr + i)).getD 0) = d) ∧ (cvuCrc (s.rd (Reg.CVU_CTRL_ALG u)) d = (s.cvu.unit[u]).expect)) ∧
    (∃ (u : Fin 4) (s : State), (s.on (Reg.CVU_CTRL_START u) = true) ∧ (s.rd (Reg.CVU_CTRL_PERIOD u) ≠ 0) ∧ (s.on (Reg.CVU_STATUS_BUSY u) = false)) ∧
    (∃ (m : Master) (u : Fin 4) (v : Word) (s : State), (s.accepts m (cvuAddr u)) ∧ (v.toNat.testBit 1 = true) ∧ (s.on (Reg.CVU_STATUS_BUSY u) = true)) ∧
    (∃ (u : Fin 2) (n : Nat) (s : State), (s.on (Reg.UART_CTRL_EN u) = true)) :=
  ⟨⟨.engine 0, 1, 0x141, tst [], by decide +kernel⟩,
   ⟨1, 5, tst [((Reg.UART_CTRL_EN 1), 1)], by decide +kernel⟩,
   ⟨.engine 0, 1, 0x80000000, tst [((Reg.I2C_CTRL_EN 1), 1)], by decide +kernel⟩,
   ⟨1, false, [], [7], 1, { tst [((Reg.I2C_CMD_GO 1), 1), ((Reg.I2C_CMD_LEN 1), 1)] with peri := { i2c := .replicate 3 { tx := [7] } } }, by decide +kernel⟩,
   ⟨1, tst [((Reg.I2C_CMD_GO 1), 1)], by decide +kernel⟩,
   ⟨.engine 0, 1, 0x141, tst [], by decide +kernel⟩,
   ⟨.engine 0, 9, tst [(Reg.SPI_CTRL_EN, 1)], by decide +kernel⟩,
   ⟨9, tst [(Reg.SPI_STATUS_BUSY, 1)], by decide +kernel⟩,
   ⟨.engine 0, 2, 1, tst [((Reg.TIM_LOAD_LOAD 2), 50)], by decide +kernel⟩,
   ⟨2, tst [((Reg.TIM_CTRL_EN 2), 1)], by decide +kernel⟩,
   ⟨.engine 0, 2, 1, tst [], by decide +kernel⟩,
   ⟨2, [], { tst [(Reg.CVU_STATUS_BUSY 2, 1)] with cvu := { unit := .replicate 4 { expect := cvuCrc 0 [] } } }, by decide +kernel⟩,
   ⟨2, tst [((Reg.CVU_CTRL_START 2), 1), ((Reg.CVU_CTRL_PERIOD 2), 5)], by decide +kernel⟩,
   ⟨.engine 0, 2, 2, tst [((Reg.CVU_STATUS_BUSY 2), 1)], by decide +kernel⟩,
   ⟨1, 0, { tst [((Reg.UART_CTRL_EN 1), 1)] with peri := { uart := .replicate 2 { tx := [7] } } }, by decide +kernel⟩⟩

theorem test_meets_CompletionMemoryAndWindow :
    (∃ (m : Master) (v : Word) (s : State), (s.accepts m 0x20060000) ∧ (v.toNat.testBit 0 = true) ∧ (s.on Reg.MEMC_CTRL_EN = false) ∧ ((s.stored m 0x20060000 v).densityOk = true)) ∧
    (∃ (s : State), (s.domOpen 10 = true) ∧ (s.rd Reg.MEMC_STATUS_STATE = 1) ∧ (s.densityOk = true)) ∧
    (∃ (m : Master) (v : Word) (s : State), (s.accepts m 0x20060000) ∧ (v.toNat.testBit 1 = true) ∧ (s.rd Reg.MEMC_STATUS_STATE = 2)) ∧
    (∃ (m : Master) (a x n : Nat) (s : State), (m ≠ .debug) ∧ (s.viewAddr m a = x) ∧ (s.readable x = true) ∧ (dramBase ≤ x)) ∧
    (∃ (m : Master) (a x : Nat) (d : List Byte) (s : State), (m ≠ .debug) ∧ (s.viewAddr m a = x) ∧ (0 < d.length) ∧ (x % 64 + d.length ≤ 64) ∧ (s.protectedFrom (.master m) x = false) ∧ (x < dramBase) ∧ (s.chipWritable m x = true)) ∧
    (∃ (s : State), (s.on Reg.MEMC_CTRL_SCRUB_EN = true) ∧ (s.readable (dramBase + 64 * s.memc.scrub) = true) ∧ (64 * (s.memc.scrub + 1) < usableDram s.part.density)) ∧
    (∃ (c : Nat) (s : State), (s.rd Reg.MEMC_STATUS_STATE = 2) ∧ (c ≠ 0)) ∧
    (∃ (s : State), (s.rd Reg.MEMC_STATUS_STATE = 2) ∧ (s.on Reg.MEMC_STATUS_TEMP_HI = false)) ∧
    (∃ (m : Master) (a : Nat) (s : State), (m ≠ .debug) ∧ (s.readable a = true) ∧ (0x10000000 ≤ a) ∧ (a < 0x10800000)) ∧
    (∃ (m : Master) (v : Word) (s : State), (s.accepts m 0x20070000) ∧ (v.toNat.testBit 0 = true) ∧ (s.on Reg.WIN_CTRL_EN = false) ∧ ((s.stored m 0x20070000 v).winOk = true)) ∧
    (∃ (m : Master) (v : Word) (s : State), (s.accepts m 0x20070000) ∧ (v.toNat.testBit 1 = true)) ∧
    (∃ (m : Master) (v : Word) (s : State), (s.accepts m 0x20070014) ∧ (v.toNat.testBit 31 = true) ∧ (s.on Reg.WIN_CTRL_EN = true) ∧ ((s.stored m 0x20070014 v).rd Reg.WIN_XFER_SLOT < s.rd Reg.WIN_CFG_COUNT) ∧ (s.win.retire.any (fun r => r.1 == (s.stored m 0x20070014 v).rd Reg.WIN_XFER_SLOT) = false) ∧ ((s.actsFor m (s.slotOwner ((s.stored m 0x20070014 v).rd Reg.WIN_XFER_SLOT)) || ((s.slotOwner ((s.stored m 0x20070014 v).rd Reg.WIN_XFER_SLOT) == 0 || s.slotOwner ((s.stored m 0x20070014 v).rd Reg.WIN_XFER_SLOT) == 4) && s.actsFor m ((s.stored m 0x20070014 v).rd Reg.WIN_XFER_NEW))) = true) ∧ (¬ (s.slotOwner ((s.stored m 0x20070014 v).rd Reg.WIN_XFER_SLOT) = 4 ∧ ((s.stored m 0x20070014 v).rd Reg.WIN_XFER_NEW = 0 ∨ (s.stored m 0x20070014 v).rd Reg.WIN_XFER_NEW = 2))) ∧ (mayHand (s.slotOwner ((s.stored m 0x20070014 v).rd Reg.WIN_XFER_SLOT)) ((s.stored m 0x20070014 v).rd Reg.WIN_XFER_NEW) = true)) ∧
    (∃ (n o : Nat) (s : State), (s.win.xfer = some (n, o)) ∧ (n < 1024) ∧ (s.on Reg.FT_STATUS_RUN = true)) ∧
    (∃ (n o : Nat) (s : State), (s.win.retire = [(n, o)]) ∧ (n < 1024) ∧ (s.slotOwner n = 4) ∧ (s.referenced n = false) ∧ (s.on Reg.FT_STATUS_RUN = true)) ∧
    (∃ (m : Master) (a x : Nat) (d : List Byte) (n : Nat) (s : State), (m ≠ .debug) ∧ (s.viewAddr m a = x) ∧ (0 < d.length) ∧ (x % 64 + d.length ≤ 64) ∧ (s.protectedFrom (.master m) x = false) ∧ (dramBase ≤ x) ∧ (s.readable x = true) ∧ ((s.slotsOf x d.length).find? (fun n => s.slotBlocks n (s.actsFor m)) = some n)) ∧
    (∃ (m : Master) (c : Fin 4) (v : Word) (s : State), (s.accepts m (winDmaAddr c)) ∧ (v.toNat.testBit 0 = true) ∧ (s.win.dma[c] = none) ∧ (s.actsFor m ((s.stored m (winDmaAddr c) v).rd (Reg.WIN_DMA_CTRL_OWN c)) = true)) ∧
    (∃ (c : Fin 4) (x : Option Nat) (y : DmaRun) (s : State), (s.win.dma[c] = some y) ∧ ((s.dmaCopy y x (y.len / 64)).2 = none)) ∧
    (∃ (c : Fin 4) (s : State), (s.win.dma[c].isSome = true)) :=
  ⟨⟨.engine 0, 1, { tst [] with part := { density := 0 } }, by decide +kernel⟩,
   ⟨{ tst [(Reg.MEMC_STATUS_STATE, 1)] with part := { density := 0 } }, by decide +kernel⟩,
   ⟨.engine 0, 2, tst [(Reg.MEMC_STATUS_STATE, 2)], by decide +kernel⟩,
   ⟨.engine 0, 0x80000040, 0x100000040, 4, tst [(Reg.MEMC_STATUS_STATE, 2)], by decide +kernel⟩,
   ⟨.engine 0, 0x10000010, 0x10000010, [1, 2, 3], tst [], by decide +kernel⟩,
   ⟨tst [(Reg.MEMC_STATUS_STATE, 2), (Reg.MEMC_CTRL_SCRUB_EN, 1)], by decide +kernel⟩,
   ⟨70, tst [(Reg.MEMC_STATUS_STATE, 2)], by decide +kernel⟩,
   ⟨tst [(Reg.MEMC_STATUS_STATE, 2)], by decide +kernel⟩,
   ⟨.engine 0, 0x10000040, tst [], by decide +kernel⟩,
   ⟨.engine 0, 1, tst [(Reg.WIN_CFG_SIZE, 16), (Reg.WIN_CFG_COUNT, 4), (Reg.WIN_BASE_HI_ADDR_HI, 1)], by decide +kernel⟩,
   ⟨.engine 0, 2, tst [], by decide +kernel⟩,
   ⟨.engine 0, 0x80000000, tst [(Reg.WIN_CTRL_EN, 1), (Reg.WIN_CFG_COUNT, 4), ((Reg.WIN_OWN 0), 1), ((Reg.WIN_ROLE_MASK 0), 255)], by decide +kernel⟩,
   ⟨3, 2, { tst [(Reg.FT_STATUS_RUN, 1), (Reg.WIN_XFER_GO, 1)] with win := { xfer := some (3, 2) } }, by decide +kernel⟩,
   ⟨3, 2, { tst [(Reg.FT_STATUS_RUN, 1), (Reg.WIN_STATUS_PEND_RETIRE, 1), ((Reg.WIN_OWN 3), 4)] with win := { retire := [(3, 2)] } }, by decide +kernel⟩,
   ⟨.engine 0, 0x80000010, 0x100000010, [1, 2, 3], 0, tst [(Reg.MEMC_STATUS_STATE, 2), (Reg.WIN_CTRL_EN, 1), (Reg.WIN_CFG_COUNT, 4), (Reg.WIN_BASE_HI_ADDR_HI, 1)], by decide +kernel⟩,
   ⟨.debug, 2, 1, tst [], by decide +kernel⟩,
   ⟨2, none, { src := 0x10000000, dst := 0x10001000, len := 128 }, { tst [] with win := { dma := .replicate 4 (some { src := 0x10000000, dst := 0x10001000, len := 128 }) } }, by decide +kernel⟩,
   ⟨2, { tst [] with win := { dma := .replicate 4 (some {}) } }, by decide +kernel⟩⟩

theorem test_meets_CompletionPair :
    (∃ (m : Master) (v : Word) (s : State), (s.accepts m 0x20150000) ∧ (v.toNat.testBit 0 = true) ∧ (s.on Reg.PAIR_CTRL_EN = false)) ∧
    (∃ (s : State), (s.on Reg.PAIR_CTRL_EN = true) ∧ (s.rd Reg.PAIR_STATUS_STATE = 1) ∧ (s.on (Reg.LANE_STATUS_BLOCK_LOCK 12) = true) ∧ (s.pair.heard = false)) ∧
    (∃ (d c : List Byte) (s : State), (s.pairIn 0x80 (· == 32) d = some c) ∧ (s.on Reg.PAIR_CTRL_EN = true) ∧ (s.rd Reg.PAIR_STATUS_STATE = 1) ∧ (s.helloCode c = 0)) ∧
    (∃ (s : State), (s.on Reg.PAIR_CTRL_EN = true) ∧ (s.pair.decided = false)) ∧
    (∃ (x : List Nat) (s : State), (s.on Reg.PAIR_CTRL_EN = true) ∧ (s.rd Reg.PAIR_STATUS_STATE = 2) ∧ (s.on (Reg.LANE_CTRL_IDLE_REQ 12) = false) ∧ (s.laneTest 12 = false) ∧ (s.pair.regQueue = [])) ∧
    (∃ (d c : List Byte) (s : State), (s.pairIn 0x81 (· == 24) d = some c) ∧ (s.on Reg.PAIR_CTRL_EN = true) ∧ (s.understudy = false) ∧ (s.on Reg.PAIR_STATUS_LEAD = false ∨ (byteAt c 15).testBit 2 = false ∨ leAt c 12 3 ≤ s.pairEpoch)) ∧
    (∃ (d c : List Byte) (s : State), (s.pairIn 0x82 (· == 60) d = some c) ∧ (s.on Reg.PAIR_CTRL_EN = true) ∧ (s.rd Reg.PAIR_STATUS_STATE = 2) ∧ (s.pair.own = [])) ∧
    (∃ (d c : List Byte) (s : State), (s.pairIn 0x84 (fun n => n % 8 == 0 && decide (8 ≤ n ∧ n ≤ 4096)) d = some c) ∧ (s.on Reg.PAIR_CTRL_EN = true) ∧ (s.understudy = true) ∧ (c.length = 8)) ∧
    (∃ (d c : List Byte) (s : State), (s.pairIn 0x83 (· == 8) d = some c) ∧ (s.on Reg.PAIR_CTRL_EN = true) ∧ (s.understudy = true) ∧ (leAt c 4 2 = 1) ∧ (leAt c 0 4 = frameNo s.ft.m) ∧ (s.on Reg.FT_STATUS_RUN = true) ∧ (s.pairLive.heldSets 0 = 0)) ∧
    (∃ (d c : List Byte) (s : State), (s.pairIn 0x85 (· == 388) d = some c) ∧ (s.on Reg.PAIR_CTRL_EN = true) ∧ (s.understudy = true)) ∧
    (∃ (d c : List Byte) (s : State), (s.pairIn 0x86 (· == 196) d = some c) ∧ (s.on Reg.PAIR_CTRL_EN = true) ∧ (s.understudy = true)) ∧
    (∃ (d c : List Byte) (s : State), (s.pairIn 0x87 (fun n => n % 4 == 0 && decide (4 ≤ n)) d = some c) ∧ (s.on Reg.PAIR_CTRL_EN = true) ∧ (s.understudy = true)) ∧
    (∃ (d c : List Byte) (s : State), (s.pairIn 0x88 (fun n => decide (8 ≤ n ∧ n ≤ 1032)) d = some c) ∧ (s.on Reg.PAIR_CTRL_EN = true) ∧ (s.understudy = true) ∧ (s.on Reg.MASKIN_CTRL_EN = true) ∧ (s.mirrors 0x20180000 = true) ∧ (byteAt c 0 = 0)) ∧
    (∃ (d c : List Byte) (s : State), (s.pairIn 0x89 (· == 32) d = some c) ∧ (s.on Reg.PAIR_CTRL_EN = true) ∧ (s.understudy = true)) ∧
    (∃ (m : Master) (v : Word) (s : State), (s.accepts m 0x20150010) ∧ (v.toNat.testBit 31 = true) ∧ ((s.stored m 0x20150010 v).pairLead = true) ∧ (s.on Reg.WIN_CTRL_EN = true) ∧ ((s.stored m 0x20150010 v).rd Reg.PAIR_SLOT_SLOT < s.rd Reg.WIN_CFG_COUNT) ∧ ((s.stored m 0x20150010 v).rd Reg.PAIR_SLOT_LEN = 1) ∧ ((s.stored m 0x20150010 v).slotSize = 65536) ∧ ((s.stored m 0x20150010 v).pair.regQueue = []) ∧ ((s.stored m 0x20150010 v).on (Reg.LANE_CTRL_IDLE_REQ 12) = false) ∧ ((s.stored m 0x20150010 v).laneTest 12 = false)) ∧
    (∃ (d c : List Byte) (s : State), (s.pairIn 0x8B (fun n => decide (8 ≤ n ∧ n ≤ 4104)) d = some c) ∧ (s.on Reg.PAIR_CTRL_EN = true) ∧ (s.understudy = true) ∧ (s.pairOwned (leAt c 0 2) = true) ∧ (leAt c 4 4 + (c.length - 8) ≤ s.slotSize)) ∧
    (∃ (d c : List Byte) (s : State), (s.pairIn 0x8A (· == 12) d = some c) ∧ (s.on Reg.PAIR_CTRL_EN = true) ∧ (s.understudy = true) ∧ (s.on Reg.FT_STATUS_RUN = true) ∧ (leAt c 0 2 < 1024) ∧ (s.pairOwned (leAt c 0 2) = true) ∧ (leAt c 4 4 ≤ s.slotSize) ∧ (leAt c 8 4 = crc32c (s.bytes (s.slotAddr (leAt c 0 2)) (leAt c 4 4))) ∧ (mayHand 3 (byteAt c 2) = true)) ∧
    (∃ (m : Master) (v : Word) (s : State), (s.accepts m 0x20150000) ∧ (v.toNat.testBit 4 = true) ∧ ((s.stored m 0x20150000 v).pairLead = true) ∧ ((s.stored m 0x20150000 v).pair.regQueue = []) ∧ ((s.stored m 0x20150000 v).on (Reg.LANE_CTRL_IDLE_REQ 12) = false) ∧ ((s.stored m 0x20150000 v).laneTest 12 = false)) ∧
    (∃ (d c : List Byte) (s : State), (s.pairIn 0x8C (fun n => decide (4 ≤ n ∧ n ≤ 1024)) d = some c) ∧ (s.on Reg.PAIR_CTRL_EN = true)) ∧
    (∃ (s : State), (s.on Reg.PAIR_STATUS_ARMED = true)) ∧
    (∃ (b : List (BitVec 2 × BitVec 64)) (s : State), (s.on Reg.PAIR_CTRL_EN = true) ∧ (badTrailer b = true)) ∧
    (∃ (s : State), (s.pairLead = true) ∧ (s.pair.regQueue = []) ∧ (s.on (Reg.LANE_CTRL_IDLE_REQ 12) = false) ∧ (s.laneTest 12 = false)) :=
  ⟨⟨.engine 0, 1, { tst [(Reg.PAIR_STATUS_LEAD, 1)] with pair := { heard := true } }, by decide +kernel⟩,
   ⟨tst [(Reg.PAIR_CTRL_EN, 1), (Reg.PAIR_STATUS_STATE, 1), ((Reg.LANE_STATUS_BLOCK_LOCK 12), 1)], by decide +kernel⟩,
   ⟨[0x80, 0, 32, 0, 0, 0, 0, 0] ++ ([0x10, 0, 1] ++ .replicate 29 0), [0x10, 0, 1] ++ .replicate 29 0, { tst [(Reg.PAIR_CTRL_EN, 1), (Reg.PAIR_STATUS_STATE, 1), (Reg.SA_KLIB_VER_VER, 0), (Reg.SAFE_SEAL_LATCHED, 0), (Reg.WIN_CFG_SIZE, 0), (Reg.WIN_CFG_COUNT, 0), (Reg.WIN_BASE_HI_ADDR_HI, 0), (Reg.WIN_BASE_ADDR, 0)] with pair := { heard := true } }, by decide +kernel⟩,
   ⟨tst [(Reg.PAIR_CTRL_EN, 1)], by decide +kernel⟩,
   ⟨[5], tst [(Reg.PAIR_CTRL_EN, 1), (Reg.PAIR_STATUS_STATE, 2)], by decide +kernel⟩,
   ⟨[0x81, 0, 24, 0, 0, 0, 0, 0] ++ (.replicate 24 5), .replicate 24 5, tst [(Reg.PAIR_CTRL_EN, 1)], by decide +kernel⟩,
   ⟨[0x82, 0, 60, 0, 0, 0, 0, 0] ++ (.replicate 60 5), .replicate 60 5, tst [(Reg.PAIR_CTRL_EN, 1), (Reg.PAIR_STATUS_STATE, 2)], by decide +kernel⟩,
   ⟨[0x84, 0, 8, 0, 0, 0, 0, 0] ++ ([0, 0, 0, 0x20, 1, 0, 0, 0]), [0, 0, 0, 0x20, 1, 0, 0, 0], { tst [(Reg.PAIR_CTRL_EN, 1), (Reg.PAIR_STATUS_STATE, 2)] with pair := { decided := true } }, by decide +kernel⟩,
   ⟨[0x83, 0, 8, 0, 0, 0, 0, 0] ++ (leBytes 4 (frameNo 0) ++ [1, 0, 0, 0]), leBytes 4 (frameNo 0) ++ [1, 0, 0, 0], { tst [(Reg.PAIR_CTRL_EN, 1), (Reg.PAIR_STATUS_STATE, 2), (Reg.FT_STATUS_RUN, 1)] with pair := { decided := true } }, by decide +kernel⟩,
   ⟨[0x85, 0, 132, 1, 0, 0, 0, 0] ++ (.replicate 388 5), .replicate 388 5, { tst [(Reg.PAIR_CTRL_EN, 1), (Reg.PAIR_STATUS_STATE, 2)] with pair := { decided := true } }, by decide +kernel⟩,
   ⟨[0x86, 0, 196, 0, 0, 0, 0, 0] ++ (.replicate 196 5), .replicate 196 5, { tst [(Reg.PAIR_CTRL_EN, 1), (Reg.PAIR_STATUS_STATE, 2)] with pair := { decided := true } }, by decide +kernel⟩,
   ⟨[0x87, 0, 12, 0, 0, 0, 0, 0] ++ (.replicate 12 5), .replicate 12 5, { tst [(Reg.PAIR_CTRL_EN, 1), (Reg.PAIR_STATUS_STATE, 2)] with pair := { decided := true } }, by decide +kernel⟩,
   ⟨[0x88, 0, 8, 0, 0, 0, 0, 0] ++ (.replicate 8 0), .replicate 8 0, { tst [(Reg.PAIR_CTRL_EN, 1), (Reg.PAIR_STATUS_STATE, 2), (Reg.MASKIN_CTRL_EN, 1), (Reg.PAIR_MIRROR_BLOCKS, 65535)] with pair := { decided := true } }, by decide +kernel⟩,
   ⟨[0x89, 0, 32, 0, 0, 0, 0, 0] ++ (.replicate 32 5), .replicate 32 5, { tst [(Reg.PAIR_CTRL_EN, 1), (Reg.PAIR_STATUS_STATE, 2)] with pair := { decided := true } }, by decide +kernel⟩,
   ⟨.engine 0, 0x80010000, tst [(Reg.PAIR_CTRL_EN, 1), (Reg.PAIR_STATUS_STATE, 2), (Reg.PAIR_STATUS_LEAD, 1), (Reg.WIN_CTRL_EN, 1), (Reg.WIN_CFG_COUNT, 4), (Reg.WIN_CFG_SIZE, 16)], by decide +kernel⟩,
   ⟨[0x8B, 0, 12, 0, 0, 0, 0, 0] ++ ([1, 0, 0, 0, 0, 0, 0, 0, 9, 9, 9, 9]), [1, 0, 0, 0, 0, 0, 0, 0, 9, 9, 9, 9], { tst [(Reg.PAIR_CTRL_EN, 1), (Reg.PAIR_STATUS_STATE, 2), (Reg.WIN_CTRL_EN, 1), (Reg.WIN_CFG_COUNT, 4), (Reg.WIN_CFG_SIZE, 16), ((Reg.WIN_OWN 1), 3)] with pair := { decided := true } }, by decide +kernel⟩,
   ⟨[0x8A, 0, 12, 0, 0, 0, 0, 0] ++ ([1, 0, 2, 0, 0, 0, 0, 0, 0, 0, 0, 0]), [1, 0, 2, 0, 0, 0, 0, 0, 0, 0, 0, 0], { tst [(Reg.PAIR_CTRL_EN, 1), (Reg.PAIR_STATUS_STATE, 2), (Reg.FT_STATUS_RUN, 1), (Reg.WIN_CTRL_EN, 1), (Reg.WIN_CFG_COUNT, 4), (Reg.WIN_CFG_SIZE, 16), ((Reg.WIN_OWN 1), 3)] with pair := { decided := true } }, by decide +kernel⟩,
   ⟨.engine 0, 0x10, tst [(Reg.PAIR_CTRL_EN, 1), (Reg.PAIR_STATUS_STATE, 2), (Reg.PAIR_STATUS_LEAD, 1)], by decide +kernel⟩,
   ⟨[0x8C, 0, 4, 0, 0, 0, 0, 0] ++ ([1, 2, 3, 4]), [1, 2, 3, 4], tst [(Reg.PAIR_CTRL_EN, 1)], by decide +kernel⟩,
   ⟨tst [(Reg.PAIR_CTRL_EN, 1), (Reg.PAIR_STATUS_STATE, 2), (Reg.PAIR_STATUS_ARMED, 1)], by decide +kernel⟩,
   ⟨[(2, 0x78), (2, BitVec.ofNat 64 (termType 5))], tst [(Reg.PAIR_CTRL_EN, 1)], by decide +kernel⟩,
   ⟨tst [(Reg.PAIR_CTRL_EN, 1), (Reg.PAIR_STATUS_STATE, 2), (Reg.PAIR_STATUS_LEAD, 1)], by decide +kernel⟩⟩

theorem test_meets_CompletionPowerClocksResets :
    (∃ (m : Master) (v : Word) (s : State), (s.accepts m 0x20010004) ∧ (v.toNat.testBit 31 = true) ∧ (s.on Reg.PWRCTL_STATUS_BUSY = false) ∧ ((s.stored m 0x20010004 v).pwrCode (bits v.toNat 0 5) (bits v.toNat 5 2) = 0) ∧ (bits v.toNat 5 2 < (s.stored m 0x20010004 v).dom (bits v.toNat 0 5))) ∧
    (∃ (s : State), (s.pwr.req = none) ∧ (s.pwr.standby = .quiesce)) ∧
    (∃ (s : State) (x : PwrReq), (s.pwr.req = some x) ∧ (x.committed = true) ∧ (x.heldWake = false) ∧ (x.domain < 29) ∧ (x.target < 2)) ∧
    (∃ (d : Fin 29) (s : State) (x : WakeProg), (s.wakeOf d = some x) ∧ (x.withdrawn = false) ∧ (4 ≤ x.step) ∧ (s.parentsAllow d x.target = true) ∧ (x.target = 2)) ∧
    (∃ (d : Fin 29) (s : State) (x : WakeProg), (s.wakeOf d = some x) ∧ (s.pwr.wakes = [x]) ∧ (x.domain = d) ∧ (x.withdrawn = false) ∧ (x.tries < s.rd Reg.PWRCTL_WAKE_CFG_WAKE_RETRY)) ∧
    (∃ (k : Fin 4) (s : State), (k ≠ 0) ∧ (s.dom (9 + k) ≠ 0)) ∧
    (∃ (s : State), (s.pwr.standby ≠ .asleep) ∧ (s.pwr.shutdown = false) ∧ (s.pwr.resetHeld = false)) ∧
    (∃ (m : Master) (v : Word) (s : State), (s.accepts m 0x20010018) ∧ (v.toNat.testBit 0 = true) ∧ (s.on Reg.PWRCTL_STATUS_BUSY = false)) ∧
    (∃ (d : Fin 29) (s : State), (s.pwr.standby = .committed) ∧ (s.pwr.stbyWake = none)) ∧
    (∃ (k : Fin 2) (b : Bool) (s : State), ((s.rd (if k = 0 then Reg.PWRCTL_STBY_WAKE0_EDGE else Reg.PWRCTL_STBY_WAKE1_EDGE)).testBit (if b then 0 else 1) = true) ∧ (s.pwr.standby = .asleep)) ∧
    (∃ (s : State), (s.pwr.resetHeld = false) ∧ (s.pwr.cold = true) ∧ (s.pwr.boot = true) ∧ (s.pwr.wakes = []) ∧ (s.on Reg.CLKRST_STATUS_WIPE_BUSY = false) ∧ (s.engRuns 0 = true)) ∧
    (∃ (s : State), (s.pwr.reset = none) ∧ (s.pwr.shutdown = false) ∧ (s.pwr.resetHeld = false) ∧ (s.pwr.standby ≠ .asleep)) ∧
    (∃ (m : Master) (s : State), (s.accepts m 0x20020004) ∧ (s.pwr.reset = none) ∧ (s.pwr.shutdown = false) ∧ (s.pwr.resetHeld = false) ∧ (s.pwr.standby ≠ .asleep)) ∧
    (∃ (s : State) (x : ResetReq), (s.pwr.reset = some x) ∧ (x.cause < 16) ∧ (x.src < 128)) ∧
    (∃ (s : State), (s.on Reg.CLKRST_STATUS_WIPE_BUSY = true) ∧ (s.pwr.boot = true) ∧ (s.pwr.wakes = []) ∧ ((s.wr Reg.CLKRST_STATUS_WIPE_BUSY 0).engRuns 0 = true)) ∧
    (∃ (m : Master) (i : Fin 17) (s : State), (s.accepts m 0x20020008)) ∧
    (∃ (m : Master) (v : Word) (s : State), (s.accepts m 0x20020010) ∧ (v.toNat.testBit 0 = true) ∧ (s.on Reg.CLKRST_SWDT_CTRL_EN = false)) ∧
    (∃ (m : Master) (s : State), (s.accepts m 0x20020014)) ∧
    (∃ (s : State), (s.on Reg.CLKRST_SWDT_CTRL_EN = true) ∧ (s.pwr.swdtHalf = false)) ∧
    (∃ (s : State), (s.on Reg.CLKRST_SWDT_CTRL_EN = true)) ∧
    (∃ (s : State), (s.pwr.swdtExpired = true)) ∧
    (∃ (m : Master) (a : Nat) (x : Access) (s : State), (s.domOpen (accessDomain (s.viewAddr m a)) = false) ∧ (s.bankFenced (s.viewAddr m a) = false)) ∧
    (∃ (m : Master) (v : Word) (s : State), (s.accepts m 0x20020018)) ∧
    (∃ (d : Fin 29) (s : State) (x : WakeProg), (s.wakeOf d = some x) ∧ (s.pwr.wakes = [x]) ∧ (x.domain = d) ∧ (x.withdrawn = true)) :=
  ⟨⟨.engine 0, 0x8000000D, tst [], by decide +kernel⟩,
   ⟨{ tst [(Reg.PWRCTL_STATUS_BUSY, 1)] with pwr := { standby := .quiesce } }, by decide +kernel⟩,
   ⟨{ tst [(Reg.PWRCTL_STATUS_BUSY, 1)] with pwr := { req := some { domain := 8, target := 1, committed := true } } }, { domain := 8, target := 1, committed := true }, by decide +kernel⟩,
   ⟨8, { tst [(Reg.PWRCTL_STATUS_BUSY, 1)] with pwr := { wakes := [{ domain := 8, step := 4 }] } }, { domain := 8, step := 4 }, by decide +kernel⟩,
   ⟨8, { tst [(Reg.PWRCTL_STATUS_BUSY, 1), (Reg.PWRCTL_WAKE_CFG_WAKE_RETRY, 3)] with pwr := { wakes := [{ domain := 8, step := 2 }] } }, { domain := 8, step := 2 }, by decide +kernel⟩,
   ⟨2, tst [], by decide +kernel⟩,
   ⟨tst [], by decide +kernel⟩,
   ⟨.engine 0, 1, tst [], by decide +kernel⟩,
   ⟨8, { tst [(Reg.PWRCTL_STATUS_BUSY, 1)] with pwr := { standby := .committed } }, by decide +kernel⟩,
   ⟨1, true, { tst [(Reg.PWRCTL_STBY_WAKE1_EDGE, 1)] with pwr := { standby := .asleep } }, by decide +kernel⟩,
   ⟨{ tst [] with pwr := { cold := true, boot := true } }, by decide +kernel⟩,
   ⟨tst [], by decide +kernel⟩,
   ⟨.engine 0, tst [], by decide +kernel⟩,
   ⟨{ tst [] with pwr := { reset := some { cause := 3 } } }, { cause := 3 }, by decide +kernel⟩,
   ⟨{ tst [(Reg.CLKRST_STATUS_WIPE_BUSY, 1)] with pwr := { boot := true } }, by decide +kernel⟩,
   ⟨.engine 0, 14, tst [((Reg.CVU_CTRL_START 1), 1)], by decide +kernel⟩,
   ⟨.engine 0, 1, tst [], by decide +kernel⟩,
   ⟨.engine 0, tst [], by decide +kernel⟩,
   ⟨tst [(Reg.CLKRST_SWDT_CTRL_EN, 1)], by decide +kernel⟩,
   ⟨tst [(Reg.CLKRST_SWDT_CTRL_EN, 1)], by decide +kernel⟩,
   ⟨{ tst [] with pwr := { swdtExpired := true } }, by decide +kernel⟩,
   ⟨.engine 0, 0x20080000, .write, (tst []).setDoms (fun _ => 0), by decide +kernel⟩,
   ⟨.engine 0, 2, tst [], by decide +kernel⟩,
   ⟨8, { tst [(Reg.PWRCTL_STATUS_BUSY, 1)] with pwr := { wakes := [{ domain := 8, step := 2, withdrawn := true }] } }, { domain := 8, step := 2, withdrawn := true }, by decide +kernel⟩⟩

theorem test_meets_CompletionBootAndCrypto :
    (∃ (f : List (Nat × List Byte)) (s : State), (s.evc.romRights = true) ∧ ((s.eng 0).pc = 0x01000000) ∧ (s.engRuns 0 = true) ∧ (s.ident.keys.wipe = none) ∧ (s.rd Reg.CLKRST_CAUSE_CAUSE ≠ 5) ∧ (s.part.lcBoot ≠ 7) ∧ (s.ident.bootmode % 8 ≠ 3) ∧ (s.recovery = false)) ∧
    (∃ (m : Master) (v : Word) (s : State) (n : Nat), (s.accepts m 0x20000014) ∧ (s.part.lcBoot = 1 ∨ s.part.lcBoot = 2) ∧ (s.ident.bootSvn = some n) ∧ (bits v.toNat 0 7 ≤ min 64 n)) ∧
    (∃ (m : Master) (v : Word) (s : State) (d : List Byte), (s.accepts m 0x20000030) ∧ (v.toNat.testBit 0 = true) ∧ (s.on Reg.SYSCTL_LC_REQ_GO = false) ∧ (0x10000000 ≤ (s.stored m 0x20000030 v).rd Reg.SYSCTL_LC_REQ_ADDR * 64) ∧ ((s.stored m 0x20000030 v).rd Reg.SYSCTL_LC_REQ_ADDR * 64 + 256 ≤ 0x10800000) ∧ ((s.stored m 0x20000030 v).canRead ((s.stored m 0x20000030 v).rd Reg.SYSCTL_LC_REQ_ADDR * 64) 256 = true) ∧ ((s.stored m 0x20000030 v).bytes ((s.stored m 0x20000030 v).rd Reg.SYSCTL_LC_REQ_ADDR * 64) 256 = d)) ∧
    (∃ (x : Nat) (s : State), (x ≠ s.part.lcBoot)) ∧
    (∃ (m : Master) (v : Word) (s : State), (s.accepts m 0x20000040) ∧ (v.toNat.testBit 0 = true) ∧ (s.on Reg.SYSCTL_DBG_LOCKED = false) ∧ (s.part.lcBoot = 0)) ∧
    (∃ (m : Master) (v : Word) (s : State), (s.accepts m 0x20000040) ∧ (v.toNat.testBit 1 = true) ∧ (s.on Reg.SYSCTL_DBG_OPEN = true)) ∧
    (∃ (m : Master) (v : Word) (s : State), (s.accepts m 0x20160000) ∧ (v.toNat.testBit 31 = true) ∧ (bits v.toNat 0 3 = 1) ∧ ((s.stored m 0x20160000 v).on Reg.CRYPTO_STATUS_BUSY = false)) ∧
    (∃ (m : Master) (v : Word) (s : State), (s.accepts m 0x20160000) ∧ (v.toNat.testBit 31 = true) ∧ (bits v.toNat 0 3 = 2) ∧ ((s.stored m 0x20160000 v).on Reg.CRYPTO_STATUS_BUSY = false)) ∧
    (∃ (m : Master) (v : Word) (s : State), (s.accepts m 0x20160000) ∧ (v.toNat.testBit 31 = true) ∧ (bits v.toNat 0 3 = 3) ∧ ((s.stored m 0x20160000 v).on Reg.CRYPTO_STATUS_BUSY = false)) ∧
    (∃ (m : Master) (v : Word) (s : State), (s.accepts m 0x20160000) ∧ (v.toNat.testBit 31 = true) ∧ (bits v.toNat 0 3 = 4) ∧ ((s.stored m 0x20160000 v).on Reg.CRYPTO_STATUS_BUSY = false)) ∧
    (∃ (s : State) (o : CryptoOp), (s.ident.op = some o)) ∧
    (∃ (m : Master) (v : Word) (i : Fin 8) (s : State), (s.accepts m 0x20160120) ∧ (v.toNat.testBit 31 = true)) :=
  ⟨⟨[], tst [], by decide +kernel⟩,
   ⟨.engine 0, 5, { tst [] with part := { lcBoot := 1 }, ident := { bootSvn := some 9 } }, 9, by decide +kernel⟩,
   ⟨.engine 0, 0x10000001, tst [], List.replicate 256 0, by decide +kernel⟩,
   ⟨7, tst [], by decide +kernel⟩,
   ⟨.debug, 1, { tst [] with part := { lcBoot := 0 } }, by decide +kernel⟩,
   ⟨.debug, 2, { tst [(Reg.SYSCTL_DBG_OPEN, 1), (Reg.SYSCTL_DBG_SCOPE, 1)] with part := { lcBoot := 0 } }, by decide +kernel⟩,
   ⟨.engine 0, 0x80000001, tst [], by decide +kernel⟩,
   ⟨.engine 0, 0x80000002, tst [], by decide +kernel⟩,
   ⟨.engine 0, 0x80000003, tst [], by decide +kernel⟩,
   ⟨.engine 0, 0x80000004, tst [], by decide +kernel⟩,
   ⟨{ tst [(Reg.CRYPTO_STATUS_BUSY, 1)] with ident := { op := some { op := 1, addr := 0x10000000 } } }, { op := 1, addr := 0x10000000 }, by decide +kernel⟩,
   ⟨.engine 12, 0x80000001, 3, tst [((Reg.CRYPTO_SMKEY_DATA 3), 7)], by decide +kernel⟩⟩

theorem test_meets_StepRunsTheFrontCommand :
    (∃ (c : Instr) (s t : State), exec c s = .next t) ∧
    (∃ s : State, s.pending = []) ∧
    (∃ (d : Fin 2) (s : State), s.pending = [] ∧ s.on (Reg.TIME_D_CTRL_EN d) = true) :=
  ⟨⟨.wck2dqTracking, State.reset, State.reset, rfl⟩,
   ⟨State.reset, by decide +kernel⟩,
   ⟨1, tst [((Reg.TIME_D_CTRL_EN 1), 1)], by decide +kernel⟩⟩

theorem test_meets_StepsKeepCanonicalForms :
    ∃ s : State, s.wf = true :=
  ⟨State.reset, by decide +kernel⟩

theorem test_meets_WritesThatMissTheirRegister :
    (∃ (c : Instr) (m : Master) (a : Nat) (v : Word) (s : State), busTarget c = some (m, a, v) ∧ s.domOpen (blockDomain a) = false) ∧
    (∃ (c : Instr) (m : Master) (a : Nat) (v : Word) (s : State), busTarget c = some (m, a, v) ∧ s.domOpen (blockDomain a) = true ∧ s.mayWrite m a = false) ∧
    (∃ (c : Instr) (m : Master) (a : Nat) (v : Word) (s : State), busTarget c = some (m, a, v) ∧ s.domOpen (blockDomain a) = true ∧ s.mayWrite m a = true ∧ s.lockedReg a = true) :=
  ⟨⟨.saEnable (.engine 0) 1, .engine 0, 0x20080000, 1, (tst []).setDoms (fun _ => 0), by decide +kernel⟩,
   ⟨.safeEnable .other 1, .other, 0x20140000, 1, tst [], by decide +kernel⟩,
   ⟨.winXferRequest (.engine 0) 1, .engine 0, 0x20070014, 1, tst [(Reg.WIN_XFER_GO, 1)], by decide +kernel⟩⟩

theorem test_meets_ClearCommandBitOnlyStores :
    ∃ (c : Instr) (m : Master) (a : Nat) (v : Word) (b : Nat) (s : State), busTarget c = some (m, a, v) ∧ goBit c = some b ∧ s.accepts m a ∧ v.toNat.testBit b = false :=
  ⟨.saLoadStart (.engine 0) 4, .engine 0, 0x20080018, 4, 0, tst [], by decide +kernel⟩

theorem test_meets_AcknowledgeClearsRecords :
    ∃ (m : Master) (s : State), s.accepts m 0x20040008 :=
  ⟨.engine 0, tst [], by decide +kernel⟩

theorem test_meets_HandOversPermitted :
    ∃ (m : Master) (v : Word) (s : State) (n new old : Nat), s.accepts m 0x20070014 ∧ v.toNat.testBit 31 = true ∧ s.on Reg.WIN_CTRL_EN = true ∧ n = (s.stored m 0x20070014 v).rd Reg.WIN_XFER_SLOT ∧ new = (s.stored m 0x20070014 v).rd Reg.WIN_XFER_NEW ∧ old = s.slotOwner n ∧ n < s.rd Reg.WIN_CFG_COUNT ∧ (s.actsFor m old || ((old == 0 || old == 4) && s.actsFor m new)) = true :=
  ⟨.debug, 0x80010003, tst [(Reg.WIN_CTRL_EN, 1), (Reg.WIN_CFG_COUNT, 8)], 3, 1, 0, by decide +kernel⟩

theorem test_meets_PowerRequestsAndWakes :
    (∃ (m : Master) (v : Word) (s : State), (s.accepts m 0x20010004) ∧ (v.toNat.testBit 31 = true) ∧ (s.on Reg.PWRCTL_STATUS_BUSY = false) ∧ ((s.stored m 0x20010004 v).pwrCode (bits v.toNat 0 5) (bits v.toNat 5 2) ≠ 0)) ∧
    (∃ (m : Master) (v : Word) (s : State), (s.accepts m 0x20010004) ∧ (v.toNat.testBit 31 = true) ∧ (s.on Reg.PWRCTL_STATUS_BUSY = false) ∧ ((s.stored m 0x20010004 v).pwrCode (bits v.toNat 0 5) (bits v.toNat 5 2) = 0) ∧ ((s.stored m 0x20010004 v).dom (bits v.toNat 0 5) = bits v.toNat 5 2)) ∧
    (∃ (m : Master) (v : Word) (s : State), (s.accepts m 0x20010004) ∧ (v.toNat.testBit 31 = true) ∧ (s.on Reg.PWRCTL_STATUS_BUSY = false) ∧ ((s.stored m 0x20010004 v).pwrCode (bits v.toNat 0 5) (bits v.toNat 5 2) = 0) ∧ (bits v.toNat 5 2 < (s.stored m 0x20010004 v).dom (bits v.toNat 0 5))) ∧
    (∃ (m : Master) (v : Word) (s : State), (s.accepts m 0x20010004) ∧ (v.toNat.testBit 31 = true) ∧ (s.on Reg.PWRCTL_STATUS_BUSY = false) ∧ ((s.stored m 0x20010004 v).pwrCode (bits v.toNat 0 5) (bits v.toNat 5 2) = 0) ∧ ((s.stored m 0x20010004 v).dom (bits v.toNat 0 5) < bits v.toNat 5 2)) ∧
    (∃ (m : Master) (v : Word) (s : State) (x : PwrReq), (s.accepts m 0x20010004) ∧ (v.toNat.testBit 31 = true) ∧ (s.on Reg.PWRCTL_STATUS_BUSY = true) ∧ (s.pwr.req = some x) ∧ (x.domain ≠ bits v.toNat 0 5)) ∧
    (∃ (m : Master) (v : Word) (s : State) (x : PwrReq), (s.accepts m 0x20010004) ∧ (v.toNat.testBit 31 = true) ∧ (s.on Reg.PWRCTL_STATUS_BUSY = true) ∧ (s.pwr.req = some x) ∧ (x.domain = bits v.toNat 0 5) ∧ (bits v.toNat 5 2 ≠ 2)) ∧
    (∃ (m : Master) (v : Word) (s : State) (x : PwrReq), (s.accepts m 0x20010004) ∧ (v.toNat.testBit 31 = true) ∧ (s.on Reg.PWRCTL_STATUS_BUSY = true) ∧ (s.pwr.req = some x) ∧ (x.domain = bits v.toNat 0 5) ∧ (bits v.toNat 5 2 = 2) ∧ (x.committed = true)) ∧
    (∃ (m : Master) (v : Word) (s : State) (x : PwrReq), (s.accepts m 0x20010004) ∧ (v.toNat.testBit 31 = true) ∧ (s.on Reg.PWRCTL_STATUS_BUSY = true) ∧ (s.pwr.req = some x) ∧ (x.domain = bits v.toNat 0 5) ∧ (bits v.toNat 5 2 = 2) ∧ (x.committed = false) ∧ ((s.stored m 0x20010004 v).dom x.domain = 2)) ∧
    (∃ (m : Master) (v : Word) (s : State), (s.accepts m 0x20010004) ∧ (v.toNat.testBit 31 = true) ∧ (s.on Reg.PWRCTL_STATUS_BUSY = true) ∧ (s.pwr.req = none)) ∧
    (∃ (s : State) (x : PwrReq), (s.pwr.req = some x) ∧ (x.committed = false) ∧ (x.domain ≠ 12)) ∧
    (∃ (s : State) (x : PwrReq), (s.pwr.req = some x) ∧ (x.committed = false) ∧ (x.domain = 12)) ∧
    (∃ (s : State), (s.pwr.req = none) ∧ (s.pwr.standby = .quiesce)) ∧
    (∃ (s : State) (x : PwrReq), (s.pwr.req = some x) ∧ (x.committed = true) ∧ (x.heldWake = true) ∧ (x.domain < 29) ∧ (x.target < 2) ∧ (s.pwr.wakes.any (·.domain == x.domain) = false)) ∧
    (∃ (s : State) (x : PwrReq), (s.pwr.req = some x) ∧ (x.committed = true) ∧ (x.heldWake = false) ∧ (x.domain < 29) ∧ (x.target < 2)) ∧
    (∃ (s : State), (s.pwr.req = none)) ∧
    (∃ (d : Fin 29) (s : State) (x : WakeProg), (s.wakeOf d = some x) ∧ (s.pwr.wakes = [x]) ∧ (x.domain = d) ∧ (x.withdrawn = false) ∧ (x.step < 4) ∧ (¬ (x.step = 2 ∧ s.domOn d = true))) ∧
    (∃ (d : Fin 29) (s : State) (x : WakeProg), (s.wakeOf d = some x) ∧ (x.withdrawn = false) ∧ (4 ≤ x.step) ∧ (s.parentsAllow d x.target = true) ∧ (x.target = 2)) ∧
    (∃ (d : Fin 29) (s : State) (x : WakeProg), (s.wakeOf d = some x) ∧ (x.withdrawn = false) ∧ (4 ≤ x.step) ∧ (s.parentsAllow d x.target = true) ∧ (x.target = 1)) ∧
    (∃ (d : Fin 29) (s : State) (x : WakeProg), (s.wakeOf d = some x) ∧ (x.withdrawn = false) ∧ (4 ≤ x.step) ∧ (s.parentsAllow d x.target = false)) ∧
    (∃ (d : Fin 29) (s : State), (s.wakeOf d = none)) ∧
    (∃ (d : Fin 29) (s : State) (x : WakeProg), (s.wakeOf d = some x) ∧ (s.pwr.wakes = [x]) ∧ (x.domain = d) ∧ (x.withdrawn = false) ∧ (x.tries < s.rd Reg.PWRCTL_WAKE_CFG_WAKE_RETRY)) ∧
    (∃ (d : Fin 29) (s : State) (x : WakeProg), (s.wakeOf d = some x) ∧ (x.withdrawn = false) ∧ (s.rd Reg.PWRCTL_WAKE_CFG_WAKE_RETRY ≤ x.tries) ∧ (¬ (x.step = 2 ∧ (s.pwr.cold = true ∨ s.domOn d = true)))) ∧
    (∃ (d : Fin 29) (s : State) (x : WakeProg), (s.wakeOf d = some x) ∧ (x.withdrawn = false) ∧ (s.rd Reg.PWRCTL_WAKE_CFG_WAKE_RETRY ≤ x.tries) ∧ (x.step = 2) ∧ (s.pwr.cold = true) ∧ (coldDom d = true)) ∧
    (∃ (d : Fin 29) (s : State) (x : WakeProg), (s.wakeOf d = some x) ∧ (s.pwr.wakes = [x]) ∧ (x.domain = d) ∧ (x.withdrawn = true)) :=
  ⟨⟨.engine 0, 0x80000000, tst [], by decide +kernel⟩,
   ⟨.engine 0, 0x8000004A, tst [], by decide +kernel⟩,
   ⟨.engine 0, 0x8000000D, tst [], by decide +kernel⟩,
   ⟨.engine 0, 0x8000004D, tst [((Reg.PWRCTL_STATE0 13), 0)], by decide +kernel⟩,
   ⟨.engine 0, 0x80000049, { tst [(Reg.PWRCTL_STATUS_BUSY, 1)] with pwr := { req := some { domain := 8 } } }, { domain := 8 }, by decide +kernel⟩,
   ⟨.engine 0, 0x80000028, { tst [(Reg.PWRCTL_STATUS_BUSY, 1)] with pwr := { req := some { domain := 8 } } }, { domain := 8 }, by decide +kernel⟩,
   ⟨.engine 0, 0x80000048, { tst [(Reg.PWRCTL_STATUS_BUSY, 1)] with pwr := { req := some { domain := 8, committed := true } } }, { domain := 8, committed := true }, by decide +kernel⟩,
   ⟨.engine 0, 0x80000048, { tst [(Reg.PWRCTL_STATUS_BUSY, 1)] with pwr := { req := some { domain := 8 } } }, { domain := 8 }, by decide +kernel⟩,
   ⟨.engine 0, 0x80000048, tst [(Reg.PWRCTL_STATUS_BUSY, 1)], by decide +kernel⟩,
   ⟨{ tst [(Reg.PWRCTL_STATUS_BUSY, 1)] with pwr := { req := some { domain := 8 } } }, { domain := 8 }, by decide +kernel⟩,
   ⟨{ tst [(Reg.PWRCTL_STATUS_BUSY, 1)] with pwr := { req := some { domain := 12 } } }, { domain := 12 }, by decide +kernel⟩,
   ⟨{ tst [(Reg.PWRCTL_STATUS_BUSY, 1)] with pwr := { standby := .quiesce } }, by decide +kernel⟩,
   ⟨{ tst [(Reg.PWRCTL_STATUS_BUSY, 1)] with pwr := { req := some { domain := 8, target := 1, committed := true, heldWake := true } } }, { domain := 8, target := 1, committed := true, heldWake := true }, by decide +kernel⟩,
   ⟨{ tst [(Reg.PWRCTL_STATUS_BUSY, 1)] with pwr := { req := some { domain := 8, target := 1, committed := true } } }, { domain := 8, target := 1, committed := true }, by decide +kernel⟩,
   ⟨tst [], by decide +kernel⟩,
   ⟨8, { tst [(Reg.PWRCTL_STATUS_BUSY, 1)] with pwr := { wakes := [{ domain := 8, step := 3 }] } }, { domain := 8, step := 3 }, by decide +kernel⟩,
   ⟨8, { tst [(Reg.PWRCTL_STATUS_BUSY, 1)] with pwr := { wakes := [{ domain := 8, step := 4 }] } }, { domain := 8, step := 4 }, by decide +kernel⟩,
   ⟨8, { tst [(Reg.PWRCTL_STATUS_BUSY, 1)] with pwr := { wakes := [{ domain := 8, step := 4, target := 1 }] } }, { domain := 8, step := 4, target := 1 }, by decide +kernel⟩,
   ⟨8, { tst [(Reg.PWRCTL_STATUS_BUSY, 1), ((Reg.PWRCTL_STATE0 1), 1)] with pwr := { wakes := [{ domain := 8, step := 4 }] } }, { domain := 8, step := 4 }, by decide +kernel⟩,
   ⟨8, tst [], by decide +kernel⟩,
   ⟨8, { tst [(Reg.PWRCTL_STATUS_BUSY, 1), (Reg.PWRCTL_WAKE_CFG_WAKE_RETRY, 3)] with pwr := { wakes := [{ domain := 8, step := 2 }] } }, { domain := 8, step := 2 }, by decide +kernel⟩,
   ⟨8, { tst [(Reg.PWRCTL_STATUS_BUSY, 1), (Reg.PWRCTL_WAKE_CFG_WAKE_RETRY, 3)] with pwr := { wakes := [{ domain := 8, step := 3, tries := 3 }] } }, { domain := 8, step := 3, tries := 3 }, by decide +kernel⟩,
   ⟨1, { tst [(Reg.PWRCTL_STATUS_BUSY, 1), (Reg.PWRCTL_WAKE_CFG_WAKE_RETRY, 3)] with pwr := { wakes := [{ domain := 1, step := 2, tries := 3 }], cold := true } }, { domain := 1, step := 2, tries := 3 }, by decide +kernel⟩,
   ⟨8, { tst [(Reg.PWRCTL_STATUS_BUSY, 1)] with pwr := { wakes := [{ domain := 8, step := 2, withdrawn := true }] } }, { domain := 8, step := 2, withdrawn := true }, by decide +kernel⟩⟩

theorem test_meets_RailsStandbyAndCold :
    (∃ (k : Fin 4) (s : State), (k ≠ 0) ∧ (s.dom (9 + k) ≠ 0)) ∧
    (∃ (b : Bool) (s : State), (s.pwr.standby ≠ .asleep) ∧ (s.pwr.shutdown = false)) ∧
    (∃ (s : State), (s.pwr.standby ≠ .asleep) ∧ (s.pwr.shutdown = false) ∧ (s.pwr.resetHeld = false)) ∧
    (∃ (s : State), (s.pwr.standby ≠ .asleep) ∧ (s.pwr.shutdown = false)) ∧
    (∃ (b : Bool) (s : State), (s.pwr.standby = .asleep ∨ s.pwr.shutdown = true)) ∧
    (∃ (k : Nat) (s : State), (s.pwr.standby = .committed) ∧ (s.pwr.stbyWake = some k) ∧ (k < 2)) ∧
    (∃ (k : Fin 2) (b : Bool) (s : State), ((s.rd (if k = 0 then Reg.PWRCTL_STBY_WAKE0_EDGE else Reg.PWRCTL_STBY_WAKE1_EDGE)).testBit (if b then 0 else 1) = true) ∧ (s.pwr.standby = .committed)) ∧
    (∃ (m : Master) (v : Word) (s : State), (s.accepts m 0x20010018) ∧ (v.toNat.testBit 0 = true) ∧ (s.on Reg.PWRCTL_STATUS_BUSY = false)) ∧
    (∃ (m : Master) (v : Word) (s : State), (s.accepts m 0x20010018) ∧ (v.toNat.testBit 0 = true) ∧ (s.on Reg.PWRCTL_STATUS_BUSY = true)) ∧
    (∃ (d : Fin 29) (s : State), (s.pwr.standby = .committed) ∧ (s.pwr.stbyWake = none)) ∧
    (∃ (s : State), (s.pwr.standby = .none)) ∧
    (∃ (k : Fin 2) (b : Bool) (s : State), ((s.rd (if k = 0 then Reg.PWRCTL_STBY_WAKE0_EDGE else Reg.PWRCTL_STBY_WAKE1_EDGE)).testBit (if b then 0 else 1) = false)) ∧
    (∃ (k : Fin 2) (b : Bool) (s : State), ((s.rd (if k = 0 then Reg.PWRCTL_STBY_WAKE0_EDGE else Reg.PWRCTL_STBY_WAKE1_EDGE)).testBit (if b then 0 else 1) = true) ∧ (s.pwr.standby = .quiesce)) ∧
    (∃ (k : Fin 2) (b : Bool) (s : State), ((s.rd (if k = 0 then Reg.PWRCTL_STBY_WAKE0_EDGE else Reg.PWRCTL_STBY_WAKE1_EDGE)).testBit (if b then 0 else 1) = true) ∧ (s.pwr.standby = .asleep)) ∧
    (∃ (x : WakeProg) (s : State), (s.pwr.resetHeld = false) ∧ (s.pwr.cold = true) ∧ (s.pwr.wakes = [x]) ∧ (coldDom x.domain = true) ∧ (x.domain < 29) ∧ (x.target = 2) ∧ ((domParents x.domain).all (fun p => s.dom p == 2) = true)) ∧
    (∃ (s : State), (s.pwr.resetHeld = false) ∧ (s.pwr.cold = true) ∧ (s.pwr.boot = true) ∧ (s.pwr.wakes = []) ∧ (s.on Reg.CLKRST_STATUS_WIPE_BUSY = false) ∧ (s.engRuns 0 = true)) ∧
    (∃ (s : State), (s.pwr.resetHeld = true)) ∧
    (∃ (s : State), (s.pwr.resetHeld = false) ∧ (s.pwr.cold = false)) :=
  ⟨⟨2, tst [], by decide +kernel⟩,
   ⟨true, tst [], by decide +kernel⟩,
   ⟨tst [], by decide +kernel⟩,
   ⟨tst [], by decide +kernel⟩,
   ⟨true, { tst [] with pwr := { standby := .asleep } }, by decide +kernel⟩,
   ⟨1, { tst [(Reg.PWRCTL_STATUS_BUSY, 1)] with pwr := { standby := .committed, stbyWake := some 1 } }, by decide +kernel⟩,
   ⟨1, true, { tst [(Reg.PWRCTL_STATUS_BUSY, 1), (Reg.PWRCTL_STBY_WAKE1_EDGE, 1)] with pwr := { standby := .committed } }, by decide +kernel⟩,
   ⟨.engine 0, 1, tst [], by decide +kernel⟩,
   ⟨.engine 0, 1, tst [(Reg.PWRCTL_STATUS_BUSY, 1)], by decide +kernel⟩,
   ⟨8, { tst [(Reg.PWRCTL_STATUS_BUSY, 1)] with pwr := { standby := .committed } }, by decide +kernel⟩,
   ⟨tst [], by decide +kernel⟩,
   ⟨1, true, tst [(Reg.PWRCTL_STBY_WAKE1_EDGE, 2)], by decide +kernel⟩,
   ⟨1, true, { tst [(Reg.PWRCTL_STATUS_BUSY, 1), (Reg.PWRCTL_STBY_WAKE1_EDGE, 1)] with pwr := { standby := .quiesce } }, by decide +kernel⟩,
   ⟨1, true, { tst [(Reg.PWRCTL_STBY_WAKE1_EDGE, 1)] with pwr := { standby := .asleep } }, by decide +kernel⟩,
   ⟨{ domain := 2, step := 3 }, { tst [((Reg.PWRCTL_STATE0 2), 0)] with pwr := { cold := true, wakes := [{ domain := 2, step := 3 }] } }, by decide +kernel⟩,
   ⟨{ tst [] with pwr := { cold := true, boot := true } }, by decide +kernel⟩,
   ⟨{ tst [] with pwr := { resetHeld := true } }, by decide +kernel⟩,
   ⟨tst [], by decide +kernel⟩⟩

theorem test_meets_ResetsClocksAndSystemWatchdog :
    (∃ (s : State), (s.pwr.reset = none) ∧ (s.pwr.shutdown = false) ∧ (s.pwr.resetHeld = false) ∧ (s.pwr.standby ≠ .asleep)) ∧
    (∃ (s : State), (s.pwr.reset.isSome = true ∨ s.pwr.shutdown = true ∨ s.pwr.resetHeld = true ∨ s.pwr.standby = .asleep)) ∧
    (∃ (m : Master) (s : State), (s.accepts m 0x20020004) ∧ (s.pwr.reset = none) ∧ (s.pwr.shutdown = false) ∧ (s.pwr.resetHeld = false) ∧ (s.pwr.standby ≠ .asleep)) ∧
    (∃ (m : Master) (s : State), (s.accepts m 0x20020004) ∧ (s.pwr.reset.isSome = true ∨ s.pwr.shutdown = true ∨ s.pwr.resetHeld = true ∨ s.pwr.standby = .asleep)) ∧
    (∃ (m : Master) (v : Word) (s : State), (s.accepts m 0x20020004) ∧ (v ≠ 0x7E51)) ∧
    (∃ (s : State) (x : ResetReq), (s.pwr.reset = some x) ∧ (x.cause < 16) ∧ (x.src < 128)) ∧
    (∃ (s : State), (s.pwr.reset = none)) ∧
    (∃ (s : State), (s.on Reg.CLKRST_STATUS_WIPE_BUSY = true) ∧ (s.pwr.boot = true) ∧ (s.pwr.wakes = []) ∧ ((s.wr Reg.CLKRST_STATUS_WIPE_BUSY 0).engRuns 0 = true)) ∧
    (∃ (s : State), (s.on Reg.CLKRST_STATUS_WIPE_BUSY = true) ∧ ((s.wakeOf 1).isSome = true)) ∧
    (∃ (s : State), (s.on Reg.CLKRST_STATUS_WIPE_BUSY = false)) ∧
    (∃ (m : Master) (i : Fin 17) (s : State), (s.accepts m 0x20020008)) ∧
    (∃ (m : Master) (i : Fin 17) (f : Fld) (s : State), (s.accepts m 0x20020008) ∧ (f.addr / 0x10000 = brstPage i) ∧ (f.lo < 32) ∧ (f.key ≠ Reg.THM_CTRL_SHUT_AUTO.key) ∧ ((∀ j : Fin 15, f.key ≠ (Reg.LANE_STATUS_STATE j).key)) ∧ ((∀ k : Fin 8, f.key ≠ (Reg.LAYER_L_WARP_STATUS_FILTER k).key ∧ f.key ≠ (Reg.LAYER_L_WARP_STATUS_BUF_ROWS k).key)) ∧ (s.on Reg.WIN_CTRL_LOCK = false)) ∧
    (∃ (m : Master) (c : Master) (a : Nat) (s : State), (s.accepts m 0x20020008) ∧ (s.viewAddr c a / 0x10000 = 0x2011)) ∧
    (∃ (m : Master) (v : Word) (s : State), (s.accepts m 0x20020010) ∧ (v.toNat.testBit 0 = true) ∧ (s.on Reg.CLKRST_SWDT_CTRL_EN = false)) ∧
    (∃ (m : Master) (s : State), (s.accepts m 0x20020014)) ∧
    (∃ (m : Master) (v : Word) (s : State), (s.accepts m 0x20020014) ∧ (v ≠ 0xC35A)) ∧
    (∃ (s : State), (s.on Reg.CLKRST_SWDT_CTRL_EN = true) ∧ (s.pwr.swdtHalf = false)) ∧
    (∃ (s : State), (s.on Reg.CLKRST_SWDT_CTRL_EN = false ∨ s.pwr.swdtHalf = true)) ∧
    (∃ (s : State), (s.on Reg.CLKRST_SWDT_CTRL_EN = true)) ∧
    (∃ (s : State), (s.pwr.swdtExpired = true)) ∧
    (∃ (s : State), (s.pwr.swdtExpired = false)) ∧
    (∃ (m : Master) (a : Nat) (x : Access) (s : State), (s.domOpen (accessDomain (s.viewAddr m a)) = true)) ∧
    (∃ (m : Master) (a : Nat) (x : Access) (s : State), (s.domOpen (accessDomain (s.viewAddr m a)) = false) ∧ (s.bankFenced (s.viewAddr m a) = true)) ∧
    (∃ (m : Master) (a : Nat) (x : Access) (s : State), (s.domOpen (accessDomain (s.viewAddr m a)) = false) ∧ (s.bankFenced (s.viewAddr m a) = false)) ∧
    (∃ (m : Master) (v : Word) (s : State), (s.accepts m 0x20020018)) :=
  ⟨⟨tst [], by decide +kernel⟩,
   ⟨{ tst [] with pwr := { reset := some {} } }, by decide +kernel⟩,
   ⟨.engine 0, tst [], by decide +kernel⟩,
   ⟨.engine 0, { tst [] with pwr := { reset := some {} } }, by decide +kernel⟩,
   ⟨.engine 0, 7, tst [], by decide +kernel⟩,
   ⟨{ tst [] with pwr := { reset := some { cause := 3 } } }, { cause := 3 }, by decide +kernel⟩,
   ⟨tst [], by decide +kernel⟩,
   ⟨{ tst [(Reg.CLKRST_STATUS_WIPE_BUSY, 1)] with pwr := { boot := true } }, by decide +kernel⟩,
   ⟨{ tst [(Reg.CLKRST_STATUS_WIPE_BUSY, 1)] with pwr := { boot := true, wakes := [{ domain := 1 }] } }, by decide +kernel⟩,
   ⟨tst [], by decide +kernel⟩,
   ⟨.engine 0, 14, tst [((Reg.CVU_CTRL_START 1), 1)], by decide +kernel⟩,
   ⟨.engine 0, 14, Reg.CVU_CTRL_START 1, tst [((Reg.CVU_CTRL_START 1), 1)], by decide +kernel⟩,
   ⟨.engine 0, .netDma 0, 0x20110000, tst [], by decide +kernel⟩,
   ⟨.engine 0, 1, tst [], by decide +kernel⟩,
   ⟨.engine 0, tst [], by decide +kernel⟩,
   ⟨.engine 0, 7, tst [], by decide +kernel⟩,
   ⟨tst [(Reg.CLKRST_SWDT_CTRL_EN, 1)], by decide +kernel⟩,
   ⟨{ tst [(Reg.CLKRST_SWDT_CTRL_EN, 1)] with pwr := { swdtHalf := true } }, by decide +kernel⟩,
   ⟨tst [(Reg.CLKRST_SWDT_CTRL_EN, 1)], by decide +kernel⟩,
   ⟨{ tst [] with pwr := { swdtExpired := true } }, by decide +kernel⟩,
   ⟨tst [], by decide +kernel⟩,
   ⟨.engine 0, 0x20080000, .write, tst [], by decide +kernel⟩,
   ⟨.engine 0, 0x10000000, .write, (tst [((Reg.FLT_FENCE_BANK 0), 1)]).setDoms (fun _ => 0), by decide +kernel⟩,
   ⟨.engine 0, 0x20080000, .write, (tst []).setDoms (fun _ => 0), by decide +kernel⟩,
   ⟨.engine 0, 2, tst [], by decide +kernel⟩⟩

theorem test_meets_BootAndLifecycle :
    (∃ (b : Bool) (f : List (Nat × List Byte)) (s : State), (s.evc.romRights = false)) ∧
    (∃ (f : List (Nat × List Byte)) (s : State), (s.evc.romRights = true) ∧ ((s.eng 0).pc = 0x01000000) ∧ (s.engRuns 0 = true) ∧ (s.ident.keys.wipe = none) ∧ (s.rd Reg.CLKRST_CAUSE_CAUSE ≠ 5) ∧ (s.part.lcBoot ≠ 7) ∧ (s.ident.bootmode % 8 ≠ 3) ∧ (s.recovery = false)) ∧
    (∃ (s : State), (s.evc.romRights = true) ∧ ((s.eng 0).pc = 0x01000000) ∧ (s.engRuns 0 = true) ∧ (s.ident.keys.wipe = none) ∧ (s.rd Reg.CLKRST_CAUSE_CAUSE ≠ 5) ∧ (s.part.lcBoot ≠ 7) ∧ (s.ident.bootmode % 8 ≠ 3) ∧ (s.recovery = false)) ∧
    (∃ (m : Master) (v : Word) (s : State) (n : Nat), (s.accepts m 0x20000014) ∧ (s.part.lcBoot = 1 ∨ s.part.lcBoot = 2) ∧ (s.ident.bootSvn = some n) ∧ (bits v.toNat 0 7 ≤ min 64 n)) ∧
    (∃ (m : Master) (v : Word) (s : State), (s.accepts m 0x20000014) ∧ (s.ident.bootSvn = none)) ∧
    (∃ (m : Master) (v : Word) (s : State), (s.accepts m 0x20000014) ∧ (s.part.lcBoot ≠ 1) ∧ (s.part.lcBoot ≠ 2)) ∧
    (∃ (m : Master) (v : Word) (s : State) (n : Nat), (s.accepts m 0x20000014) ∧ (s.ident.bootSvn = some n) ∧ (min 64 n < bits v.toNat 0 7)) ∧
    (∃ (m : Master) (v : Word) (s : State), (s.accepts m 0x20000030) ∧ (v.toNat.testBit 0 = true) ∧ (s.on Reg.SYSCTL_LC_REQ_GO = false) ∧ (0x10000000 ≤ (s.stored m 0x20000030 v).rd Reg.SYSCTL_LC_REQ_ADDR * 64) ∧ ((s.stored m 0x20000030 v).rd Reg.SYSCTL_LC_REQ_ADDR * 64 + 256 ≤ 0x10800000) ∧ ((s.stored m 0x20000030 v).canRead ((s.stored m 0x20000030 v).rd Reg.SYSCTL_LC_REQ_ADDR * 64) 256 = true) ∧ (s.pwr.reset = none) ∧ (s.pwr.shutdown = false) ∧ (s.pwr.resetHeld = false) ∧ (s.pwr.standby ≠ .asleep)) ∧
    (∃ (m : Master) (v : Word) (s : State), (s.accepts m 0x20000030) ∧ (v.toNat.testBit 0 = true) ∧ (s.on Reg.SYSCTL_LC_REQ_GO = false) ∧ (0x10000000 ≤ (s.stored m 0x20000030 v).rd Reg.SYSCTL_LC_REQ_ADDR * 64) ∧ ((s.stored m 0x20000030 v).rd Reg.SYSCTL_LC_REQ_ADDR * 64 + 256 ≤ 0x10800000) ∧ ((s.stored m 0x20000030 v).canRead ((s.stored m 0x20000030 v).rd Reg.SYSCTL_LC_REQ_ADDR * 64) 256 = true)) ∧
    (∃ (x : Nat) (s : State), (x ≠ s.part.lcBoot)) ∧
    (∃ (x : Nat) (s : State), (x = s.part.lcBoot)) ∧
    (∃ (m : Master) (v : Word) (s : State), (s.accepts m 0x20000040) ∧ (v.toNat.testBit 0 = true) ∧ (s.on Reg.SYSCTL_DBG_LOCKED = false) ∧ (s.part.lcBoot ≠ 0)) ∧
    (∃ (m : Master) (v : Word) (s : State), (s.accepts m 0x20000040) ∧ (v.toNat.testBit 0 = true) ∧ (s.on Reg.SYSCTL_DBG_LOCKED = false) ∧ (s.part.lcBoot = 0)) ∧
    (∃ (m : Master) (v : Word) (s : State), (s.accepts m 0x20000040) ∧ (v.toNat.testBit 1 = true) ∧ (s.on Reg.SYSCTL_DBG_OPEN = true)) ∧
    (∃ (m : Master) (v : Word) (s : State), (s.accepts m 0x20000040) ∧ (v.toNat.testBit 1 = true) ∧ (s.on Reg.SYSCTL_DBG_OPEN = true) ∧ ((s.rd Reg.SYSCTL_DBG_SCOPE).testBit 1 = true ∨ (s.rd Reg.SYSCTL_DBG_SCOPE).testBit 2 = true) ∧ (s.pwr.reset = none) ∧ (s.pwr.shutdown = false) ∧ (s.pwr.resetHeld = false) ∧ (s.pwr.standby ≠ .asleep)) :=
  ⟨⟨true, [], { tst [] with evc := { romRights := false } }, by decide +kernel⟩,
   ⟨[], tst [], by decide +kernel⟩,
   ⟨tst [], by decide +kernel⟩,
   ⟨.engine 0, 5, { tst [] with part := { lcBoot := 1 }, ident := { bootSvn := some 9 } }, 9, by decide +kernel⟩,
   ⟨.engine 0, 5, { tst [] with part := { lcBoot := 1 } }, by decide +kernel⟩,
   ⟨.engine 0, 5, { tst [] with part := { lcBoot := 3 }, ident := { bootSvn := some 9 } }, by decide +kernel⟩,
   ⟨.engine 0, 10, { tst [] with part := { lcBoot := 1 }, ident := { bootSvn := some 9 } }, 9, by decide +kernel⟩,
   ⟨.engine 0, 0x10000001, tst [], by decide +kernel⟩,
   ⟨.engine 0, 0x10000001, tst [], by decide +kernel⟩,
   ⟨7, tst [], by decide +kernel⟩,
   ⟨({} : Part).lcBoot, tst [], by decide +kernel⟩,
   ⟨.debug, 1, { tst [] with part := { lcBoot := 1 } }, by decide +kernel⟩,
   ⟨.debug, 1, { tst [] with part := { lcBoot := 0 } }, by decide +kernel⟩,
   ⟨.debug, 2, { tst [(Reg.SYSCTL_DBG_OPEN, 1), (Reg.SYSCTL_DBG_SCOPE, 1)] with part := { lcBoot := 0 } }, by decide +kernel⟩,
   ⟨.debug, 2, { tst [(Reg.SYSCTL_DBG_OPEN, 1), (Reg.SYSCTL_DBG_SCOPE, 2)] with part := { lcBoot := 0 } }, by decide +kernel⟩⟩

theorem test_meets_EventsAndEngineControl :
    (∃ (n : Fin 128) (s : State), (srcAssigned n = true)) ∧
    (∃ (n : Fin 128) (s : State), (srcAssigned n = false)) ∧
    (∃ (m : Master) (k : Fin 4) (v : Word) (i : Fin 32) (s : State), (s.accepts m (0x20030110 + k * 4)) ∧ (v.toNat.testBit i = true)) ∧
    (∃ (m : Master) (k : Fin 4) (v : Word) (i : Fin 32) (s : State), (s.accepts m (0x20030100 + k * 4)) ∧ (v.toNat.testBit i = true)) ∧
    (∃ (m : Master) (k : Fin 4) (v : Word) (i : Fin 32) (s : State), (s.accepts m (0x20030100 + k * 4)) ∧ (v.toNat.testBit i = false)) ∧
    (∃ (m : Master) (n : Fin 128) (v : Word) (s : State), (s.accepts m (0x20031000 + n * 0x10))) ∧
    (∃ (n : Fin 128) (s : State), (s.on (Reg.EVC_PEND n) = true) ∧ (s.evc.redirected[n] = false) ∧ (s.rd (Reg.EVC_SRC_CFG_REDIRECT_TMO n) ≠ 0) ∧ (s.undeliverable n = true)) ∧
    (∃ (n : Fin 128) (s : State), (s.on (Reg.EVC_PEND n) = false)) ∧
    (∃ (m : Master) (e : Fin 16) (v : Word) (s : State), (s.accepts m (0x20030810 + e * 0x40)) ∧ (activations (s.eng e).opened = [])) ∧
    (∃ (m : Master) (e : Fin 16) (v : Word) (n : Fin 128) (p : Nat) (q : Word) (b : Bool) (s : State), (s.accepts m (0x20030810 + e * 0x40)) ∧ ((s.eng e).opened = [.event n p q b]) ∧ (bits v.toNat 0 4 ≤ p)) ∧
    (∃ (m : Master) (e : Fin 16) (v : Word) (n k : Fin 128) (p x : Nat) (q y : Word) (b z : Bool) (r : List Opened) (s : State), (s.accepts m (0x20030810 + e * 0x40)) ∧ ((s.eng e).opened = .event n p q b :: .event k x y z :: r) ∧ (bits v.toNat 0 4 < x ∨ p < bits v.toNat 0 4)) ∧
    (∃ (m : Master) (e : Fin 16) (v : Word) (n : Fin 128) (p : Nat) (q : Word) (b : Bool) (s : State), (s.accepts m (0x20030810 + e * 0x40)) ∧ ((s.eng e).opened = [.event n p q b]) ∧ (p < bits v.toNat 0 4)) ∧
    (∃ (m : Master) (e : Fin 16) (v : Word) (s : State), (s.accepts m (0x20030800 + e * 0x40)) ∧ (v.toNat.testBit 0 = true)) ∧
    (∃ (m : Master) (e : Fin 16) (v : Word) (s : State), (s.accepts m (0x20030800 + e * 0x40)) ∧ (v.toNat.testBit 0 = false) ∧ (s.on (Reg.EVC_ENG_CTRL_HOLD e) = true) ∧ (((s.stored m (0x20030800 + e * 0x40) v).wr (Reg.EVC_ENG_CTRL_HOLD e) 0).engRuns e = true)) ∧
    (∃ (m : Master) (e : Fin 16) (v : Word) (s : State), (s.accepts m (0x20030800 + e * 0x40))) ∧
    (∃ (m : Master) (e : Fin 16) (v : Word) (s : State), (s.accepts m (0x20030814 + e * 0x40)) ∧ (v.toNat.testBit 0 = true) ∧ (s.on (Reg.EVC_ENG_WDT_CTRL_EN e) = false)) ∧
    (∃ (m : Master) (e : Fin 16) (v : Word) (s : State), (s.accepts m (0x20030814 + e * 0x40)) ∧ (v.toNat.testBit 0 = false)) ∧
    (∃ (m : Master) (e : Fin 16) (s : State), (s.accepts m (0x2003081C + e * 0x40))) ∧
    (∃ (m : Master) (e : Fin 16) (v : Word) (s : State), (s.accepts m (0x2003081C + e * 0x40)) ∧ (v ≠ 0x4B1C)) ∧
    (∃ (e : Fin 16) (s : State), (s.wdtCounts e = true) ∧ ((s.eng e).wdtWarned = false) ∧ ((s.eng e).wdtWarn < max 1 (s.rd (Reg.EVC_ENG_WDT_TIME_TMO e)))) ∧
    (∃ (e : Fin 16) (s : State), (s.wdtCounts e = false)) ∧
    (∃ (e : Fin 16) (s : State), (s.wdtCounts e = true)) :=
  ⟨⟨9, tst [], by decide +kernel⟩,
   ⟨121, tst [], by decide +kernel⟩,
   ⟨.engine 0, 2, 0x80, 7, tst [], by decide +kernel⟩,
   ⟨.engine 0, 2, 0x80, 7, tst [((Reg.EVC_PEND 71), 1)], by decide +kernel⟩,
   ⟨.engine 0, 2, 0x40, 7, tst [((Reg.EVC_PEND 71), 1)], by decide +kernel⟩,
   ⟨.engine 0, 9, 0x4300, tst [((Reg.EVC_PEND 9), 1), ((Reg.EVC_SRC_CFG_EN 9), 1), ((Reg.EVC_SRC_CFG_TARGET 9), 3), ((Reg.EVC_SRC_CFG_PRIO 9), 4), ((Reg.EVC_SRC_VEC_VEC 9), 2048)], by decide +kernel⟩,
   ⟨9, tst [((Reg.EVC_PEND 9), 1), ((Reg.EVC_SRC_CFG_EN 9), 1), ((Reg.EVC_SRC_CFG_TARGET 9), 3), ((Reg.EVC_SRC_CFG_PRIO 9), 4), ((Reg.EVC_SRC_VEC_VEC 9), 2048), ((Reg.EVC_SRC_CFG_REDIRECT_TMO 9), 5)], by decide +kernel⟩,
   ⟨9, tst [], by decide +kernel⟩,
   ⟨.engine 3, 3, 2, tst [], by decide +kernel⟩,
   ⟨.engine 3, 3, 2, 9, 4, 0x100, false, (tst [((Reg.EVC_ENG_CTRL_HOLD 3), 0)]).setEng 3 { opened := [.event 9 4 0x100 false] }, by decide +kernel⟩,
   ⟨.engine 3, 3, 1, 9, 8, 4, 2, 0x100, 0x200, false, true, [], (tst [((Reg.EVC_ENG_CTRL_HOLD 3), 0)]).setEng 3 { opened := [.event 9 4 0x100 false, .event 8 2 0x200 true] }, by decide +kernel⟩,
   ⟨.engine 3, 3, 5, 9, 4, 0x100, false, (tst [((Reg.EVC_ENG_CTRL_HOLD 3), 0)]).setEng 3 { opened := [.event 9 4 0x100 false] }, by decide +kernel⟩,
   ⟨.engine 0, 3, 1, tst [((Reg.EVC_ENG_CTRL_HOLD 3), 0), ((Reg.EVC_ENG_WDT_CTRL_EN 3), 1)], by decide +kernel⟩,
   ⟨.engine 0, 3, 0, tst [((Reg.EVC_ENG_RSTVEC_VEC 3), 4096)], by decide +kernel⟩,
   ⟨.engine 0, 3, 2, tst [], by decide +kernel⟩,
   ⟨.engine 3, 3, 1, tst [], by decide +kernel⟩,
   ⟨.engine 3, 3, 0, tst [], by decide +kernel⟩,
   ⟨.engine 3, 3, tst [], by decide +kernel⟩,
   ⟨.engine 3, 3, 7, tst [], by decide +kernel⟩,
   ⟨3, (tst [((Reg.EVC_ENG_CTRL_HOLD 3), 0), ((Reg.EVC_ENG_WDT_CTRL_EN 3), 1), ((Reg.EVC_ENG_WDT_TIME_TMO 3), 20)]).setEng 3 { wdtWarn := 10 }, by decide +kernel⟩,
   ⟨3, tst [], by decide +kernel⟩,
   ⟨3, tst [((Reg.EVC_ENG_CTRL_HOLD 3), 0), ((Reg.EVC_ENG_WDT_CTRL_EN 3), 1)], by decide +kernel⟩⟩

theorem test_meets_EngineEntriesAndTraps :
    (∃ (e : Fin 16) (w : EngView) (n : Fin 128) (s : State), ((s.view e w).bestEvent e = some n)) ∧
    (∃ (e : Fin 16) (w : EngView) (s : State), ((s.view e w).bestEvent e = none)) ∧
    (∃ (e : Fin 16) (w : EngView) (n : Fin 128) (p : Nat) (q : Word) (b : Bool) (r : List Opened) (s : State), ((s.eng e).opened = .event n p q b :: r) ∧ (((((s.view e w).wr (Reg.EVC_ACT n) 0).setOpened e r).inactive n).bestEvent e = none)) ∧
    (∃ (e : Fin 16) (w : EngView) (s : State), ((s.eng e).opened = [])) ∧
    (∃ (e : Fin 16) (w : EngView) (q : Word) (b : Bool) (r : List Opened) (s : State), ((s.eng e).opened = .nmi q b :: r) ∧ ((s.eng e).nmiPend = 0)) ∧
    (∃ (e : Fin 16) (w : EngView) (r : List Opened) (s : State), ((s.eng e).opened = .trap :: r)) ∧
    (∃ (e : Fin 16) (w : EngView) (x y : Word) (s : State), (trapOpen (s.eng e).opened = false) ∧ ((s.eng e).fault = none)) ∧
    (∃ (e : Fin 16) (w : EngView) (x y : Word) (acc : Access) (a : Nat) (s : State), (trapOpen (s.eng e).opened = false) ∧ ((s.eng e).fault = some (acc, a))) ∧
    (∃ (e : Fin 16) (w : EngView) (x y : Word) (s : State), (trapOpen (s.eng e).opened = true)) ∧
    (∃ (e : Fin 16) (w : EngView) (s : State), ((s.eng e).nmiPend ≠ 0) ∧ (nmiOpen (s.eng e).opened = false) ∧ (s.engRuns e = true)) ∧
    (∃ (e : Fin 16) (w : EngView) (s : State), ((s.eng e).nmiPend = 0)) ∧
    (∃ (e : Fin 16) (w : EngView) (s : State), (w.machine = true ∨ w.tw = false) ∧ ((List.finRange 128).any (fun n => (s.view e w).wakes e n) = false) ∧ ((s.eng e).nmiPend = 0)) ∧
    (∃ (e : Fin 16) (w : EngView) (s : State), ((s.eng e).nmiPend ≠ 0 ∨ (w.machine = false ∧ w.tw = true) ∨ (List.finRange 128).any (fun n => (s.view e w).wakes e n) = true)) :=
  ⟨⟨3, { pc := 0x1000, machine := true, mie := true, mtvec := 0x2003 }, 9, tst [((Reg.EVC_ENG_CTRL_HOLD 3), 0), ((Reg.EVC_PEND 9), 1), ((Reg.EVC_SRC_CFG_EN 9), 1), ((Reg.EVC_SRC_CFG_TARGET 9), 3), ((Reg.EVC_SRC_CFG_PRIO 9), 4), ((Reg.EVC_SRC_VEC_VEC 9), 2048)], by decide +kernel⟩,
   ⟨3, { pc := 0x1000, machine := true, mie := true, mtvec := 0x2003 }, tst [], by decide +kernel⟩,
   ⟨3, { pc := 0x1000, machine := true, mie := true, mtvec := 0x2003 }, 9, 4, 0x100, false, [], (tst [((Reg.EVC_ENG_CTRL_HOLD 3), 0), ((Reg.EVC_ACT 9), 1)]).setEng 3 { opened := [.event 9 4 0x100 false] }, by decide +kernel⟩,
   ⟨3, { pc := 0x1000, machine := true, mie := true, mtvec := 0x2003 }, tst [], by decide +kernel⟩,
   ⟨3, { pc := 0x1000, machine := true, mie := true, mtvec := 0x2003 }, 0x100, false, [], (tst [((Reg.EVC_ENG_CTRL_HOLD 3), 0)]).setEng 3 { opened := [.nmi 0x100 false] }, by decide +kernel⟩,
   ⟨3, { pc := 0x1000, machine := true, mie := true, mtvec := 0x2003, mepc := 0x40 }, [], (tst [((Reg.EVC_ENG_CTRL_HOLD 3), 0)]).setEng 3 { opened := [.trap] }, by decide +kernel⟩,
   ⟨3, { pc := 0x1000, machine := true, mie := true, mtvec := 0x2003 }, 2, 7, tst [], by decide +kernel⟩,
   ⟨3, { pc := 0x1000, machine := true, mie := true, mtvec := 0x2003 }, 2, 7, .write, 0x80, (tst [((Reg.EVC_ENG_CTRL_HOLD 3), 0)]).setEng 3 { fault := some (.write, 0x80) }, by decide +kernel⟩,
   ⟨3, { pc := 0x1000, machine := true, mie := true, mtvec := 0x2003 }, 2, 7, (tst [((Reg.EVC_ENG_CTRL_HOLD 3), 0)]).setEng 3 { opened := [.trap] }, by decide +kernel⟩,
   ⟨3, { pc := 0x1000, machine := true, mie := true, mtvec := 0x2003 }, (tst [((Reg.EVC_ENG_CTRL_HOLD 3), 0)]).setEng 3 { nmiPend := 2 }, by decide +kernel⟩,
   ⟨3, { pc := 0x1000, machine := true, mie := true, mtvec := 0x2003 }, tst [], by decide +kernel⟩,
   ⟨3, { pc := 0x1000, machine := true, mie := true, mtvec := 0x2003 }, tst [], by decide +kernel⟩,
   ⟨3, { pc := 0x1000, machine := true, mie := true, mtvec := 0x2003 }, (tst [((Reg.EVC_ENG_CTRL_HOLD 3), 0)]).setEng 3 { nmiPend := 1 }, by decide +kernel⟩⟩

theorem test_meets_FaultBlockCommands :
    (∃ (m : Master) (v : Word) (k : Fin 5) (s : State), (s.accepts m 0x20040008) ∧ (v.toNat.testBit k = true)) ∧
    (∃ (m : Master) (v : Word) (k : Fin 5) (s : State), (s.accepts m 0x20040008) ∧ (v.toNat.testBit k = false)) ∧
    (∃ (m : Master) (k : Fin 3) (v : Word) (i : Fin 32) (s : State), (s.accepts m (0x20040020 + 4 * k)) ∧ (v.toNat.testBit i = true) ∧ (s.held (32 * k + i) = false)) ∧
    (∃ (m : Master) (k : Fin 3) (v : Word) (i : Fin 32) (s : State), (s.accepts m (0x20040020 + 4 * k)) ∧ (v.toNat.testBit i = true) ∧ (s.on (Reg.FLT_PEND (32 * k + i)) = true) ∧ (s.held (32 * k + i) = true)) ∧
    (∃ (m : Master) (v : Word) (s : State), (s.accepts m 0x20040000) ∧ (v.toNat.testBit 0 = true)) ∧
    (∃ (m : Master) (v : Word) (s : State), (s.accepts m 0x20040014) ∧ (v.toNat.testBit 31 = true)) ∧
    (∃ (m : Master) (v : Word) (s : State), (s.accepts m 0x2004000C) ∧ (v.toNat.testBit 0 = true)) ∧
    (∃ (m : Master) (v : Word) (e : Fin 16) (s : State), (s.accepts m 0x20040070) ∧ (v.toNat.testBit e = true)) ∧
    (∃ (m : Master) (v : Word) (e : Fin 16) (s : State), (s.accepts m 0x20040070) ∧ (v.toNat.testBit e = false)) ∧
    (∃ (m : Master) (k : Fin 6) (v : Word) (i : Fin 32) (s : State), (s.accepts m (0x20040080 + 4 * k)) ∧ (v.toNat.testBit i = true)) ∧
    (∃ (m : Master) (k : Fin 6) (v : Word) (i : Fin 32) (s : State), (s.accepts m (0x20040080 + 4 * k)) ∧ (v.toNat.testBit i = false)) ∧
    (∃ (m : Master) (v : Word) (n : Fin 2) (s : State), (s.accepts m 0x20040074) ∧ (v.toNat.testBit n = true)) ∧
    (∃ (m : Master) (v : Word) (n : Fin 2) (s : State), (s.accepts m 0x20040074) ∧ (v.toNat.testBit n = false)) ∧
    (∃ (c : Fin 4) (o : Occurrence) (cut : List (Master × Nat × Access)) (s : State), (s.flt.raised = []) ∧ ((48 ≤ o.src ∧ o.src ≤ 54 → s.part.safeCapable = true)) ∧ (o.src < 96) ∧ (min 3 (s.rd (Reg.FLT_SRC_CFG_CLASS o.src)) = c.val) ∧ (s.on (Reg.FLT_CAP_INFO_VALID c) = false)) ∧
    (∃ (c : Fin 4) (o : Occurrence) (cut : List (Master × Nat × Access)) (s : State), (s.flt.raised = []) ∧ ((48 ≤ o.src ∧ o.src ≤ 54 → s.part.safeCapable = true)) ∧ (o.src < 96) ∧ (min 3 (s.rd (Reg.FLT_SRC_CFG_CLASS o.src)) = c.val) ∧ (s.on (Reg.FLT_CAP_INFO_VALID c) = true) ∧ (c.val < 3 ∨ s.on (Reg.FLT_SRC_CFG_LOCKOUT_EL o.src) = true) ∧ (s.on (Reg.FLT_CAP_INFO_VALID (c + 1)) = false)) ∧
    (∃ (c : Fin 4) (o : Occurrence) (cut : List (Master × Nat × Access)) (s : State), (s.flt.raised = []) ∧ ((48 ≤ o.src ∧ o.src ≤ 54 → s.part.safeCapable = true)) ∧ (o.src < 96) ∧ (min 3 (s.rd (Reg.FLT_SRC_CFG_CLASS o.src)) = c.val) ∧ (s.on (Reg.FLT_CAP_INFO_VALID c) = true) ∧ (c.val < 3 ∨ s.on (Reg.FLT_SRC_CFG_LOCKOUT_EL o.src) = true) ∧ (s.on (Reg.FLT_CAP_INFO_VALID (c + 1)) = true)) ∧
    (∃ (c : Fin 4) (o : Occurrence) (cut : List (Master × Nat × Access)) (s : State), (s.flt.raised = []) ∧ ((48 ≤ o.src ∧ o.src ≤ 54 → s.part.safeCapable = true)) ∧ (o.src < 96) ∧ (min 3 (s.rd (Reg.FLT_SRC_CFG_CLASS o.src)) = c.val) ∧ (s.on (Reg.FLT_CAP_INFO_VALID c) = true) ∧ (c.val = 3) ∧ (s.on (Reg.FLT_SRC_CFG_LOCKOUT_EL o.src) = false)) ∧
    (∃ (o : Occurrence) (i : Nat) (g : Master) (a : Nat) (cut : List (Master × Nat × Access)) (s : State), (s.flt.raised = []) ∧ ((48 ≤ o.src ∧ o.src ≤ 54 → s.part.safeCapable = true)) ∧ (s.brstOf o = some i) ∧ ((g, a, .write) ∈ cut) ∧ (s.viewAddr g a / 0x10000 = brstPage i)) ∧
    (∃ (a b : Occurrence) (s : State), (s.flt.raised = [b]) ∧ (a.src < b.src) ∧ ((48 ≤ a.src ∧ a.src ≤ 54 → s.part.safeCapable = true))) ∧
    (∃ (a b : Occurrence) (s : State), (s.flt.raised = [a]) ∧ (a.src ≤ b.src) ∧ ((48 ≤ b.src ∧ b.src ≤ 54 → s.part.safeCapable = true))) :=
  ⟨⟨.engine 0, 4, 2, tst [((Reg.FLT_CAP_INFO_VALID 2), 1)], by decide +kernel⟩,
   ⟨.engine 0, 4, 1, tst [((Reg.FLT_CAP_INFO_VALID 2), 1)], by decide +kernel⟩,
   ⟨.engine 0, 1, 0x10, 4, tst [((Reg.FLT_PEND 36), 1)], by decide +kernel⟩,
   ⟨.engine 0, 1, 0x10000, 16, tst [((Reg.FLT_PEND 48), 1), (Reg.SAFE_STATUS_DISC, 1)], by decide +kernel⟩,
   ⟨.engine 0, 1, tst [], by decide +kernel⟩,
   ⟨.engine 0, 0x80000003, tst [], by decide +kernel⟩,
   ⟨.engine 0, 1, tst [(Reg.FLT_STATUS_PIN_LATCH, 1)], by decide +kernel⟩,
   ⟨.engine 0, 8, 3, tst [((Reg.FLT_FENCE_ENG 3), 1)], by decide +kernel⟩,
   ⟨.engine 0, 8, 2, tst [((Reg.FLT_FENCE_ENG 2), 1)], by decide +kernel⟩,
   ⟨.engine 0, 5, 8, 3, tst [((Reg.FLT_ZFENCE 163), 1)], by decide +kernel⟩,
   ⟨.engine 0, 5, 8, 2, tst [((Reg.FLT_ZFENCE 162), 1)], by decide +kernel⟩,
   ⟨.engine 0, 2, 1, tst [((Reg.FLT_FENCE_NET 1), 1)], by decide +kernel⟩,
   ⟨.engine 0, 2, 0, tst [((Reg.FLT_FENCE_NET 0), 1)], by decide +kernel⟩,
   ⟨0, { src := 30, unit := none, addr := 0x20040014, master := .engine 0, access := .write }, [(.engine 0, 0x20080000, .write)], tst [((Reg.FLT_SRC_CFG_CLASS 30), 0), ((Reg.FLT_SRC_CFG_REACT 30), 4)], by decide +kernel⟩,
   ⟨0, { src := FLT_SW0, unit := none, addr := 0x20040014, master := .engine 0, access := .write }, [(.engine 0, 0x20080000, .write)], tst [((Reg.FLT_SRC_CFG_CLASS FLT_SW0), 0), ((Reg.FLT_CAP_INFO_VALID 0), 1)], by decide +kernel⟩,
   ⟨0, { src := FLT_SW0, unit := none, addr := 0x20040014, master := .engine 0, access := .write }, [(.engine 0, 0x20080000, .write)], tst [((Reg.FLT_SRC_CFG_CLASS FLT_SW0), 0), ((Reg.FLT_CAP_INFO_VALID 0), 1), ((Reg.FLT_CAP_INFO_VALID 1), 1)], by decide +kernel⟩,
   ⟨3, { src := FLT_SW0, unit := none, addr := 0x20040014, master := .engine 0, access := .write }, [(.engine 0, 0x20080000, .write)], tst [((Reg.FLT_SRC_CFG_CLASS FLT_SW0), 3), ((Reg.FLT_CAP_INFO_VALID 3), 1)], by decide +kernel⟩,
   ⟨{ src := 30, unit := none, addr := 0x20040014, master := .engine 0, access := .write }, 0, .engine 0, 0x20080040, [(.engine 0, 0x20080040, .write)], tst [((Reg.FLT_SRC_CFG_REACT 30), 4)], by decide +kernel⟩,
   ⟨{ src := 3, unit := none, addr := 0x20040014, master := .engine 0, access := .write }, { src := FLT_SW0, unit := none, addr := 0x20040014, master := .engine 0, access := .write }, { tst [] with flt := { raised := [{ src := FLT_SW0, unit := none, addr := 0x20040014, master := .engine 0, access := .write }] } }, by decide +kernel⟩,
   ⟨{ src := 3, unit := none, addr := 0x20040014, master := .engine 0, access := .write }, { src := FLT_SW0, unit := none, addr := 0x20040014, master := .engine 0, access := .write }, { tst [] with flt := { raised := [{ src := 3, unit := none, addr := 0x20040014, master := .engine 0, access := .write }] } }, by decide +kernel⟩⟩

theorem test_meets_SafetyIsland :
    (∃ (m : Master) (v : Word) (s : State), (s.accepts m 0x20140000) ∧ (v.toNat.testBit 0 = true) ∧ (s.on Reg.SAFE_CTRL_EN = false) ∧ (s.part.safeCapable = true)) ∧
    (∃ (m : Master) (v : Word) (s : State), (s.accepts m 0x20140000) ∧ (v.toNat.testBit 0 = true) ∧ (s.on Reg.SAFE_CTRL_EN = false) ∧ (s.part.safeCapable = false)) ∧
    (∃ (m : Master) (v : Word) (s : State), (s.accepts m 0x20140000) ∧ (v.toNat.testBit 0 = false)) ∧
    (∃ (m : Master) (v : Word) (s : State), (s.accepts m 0x20140000) ∧ (v.toNat.testBit 1 = true) ∧ (s.on Reg.SAFE_STATUS_DISC = true ∨ s.on Reg.SAFE_STATUS_TP_ERR = true) ∧ ((List.finRange 2).all (fun (k : Fin 2) => !(s.stored m 0x20140000 v).ilUsed k || s.safe.ackSeen[k] == 2) = true)) ∧
    (∃ (m : Master) (v : Word) (s : State), (s.accepts m 0x20140000) ∧ (v.toNat.testBit 1 = true) ∧ (s.on Reg.SAFE_STATUS_DISC = true ∨ s.on Reg.SAFE_STATUS_TP_ERR = true) ∧ ((List.finRange 2).all (fun (k : Fin 2) => !(s.stored m 0x20140000 v).ilUsed k || s.safe.ackSeen[k] == 2) = false)) ∧
    (∃ (m : Master) (v : Word) (s : State), (s.accepts m 0x20140000) ∧ (s.on Reg.SAFE_STATUS_DISC = false) ∧ (s.on Reg.SAFE_STATUS_TP_ERR = false)) ∧
    (∃ (m : Master) (v : Word) (s : State), (s.accepts m 0x20140000)) ∧
    (∃ (m : Master) (v : Word) (s : State), (s.accepts m 0x20140000) ∧ (v.toNat.testBit 3 = true)) ∧
    (∃ (m : Master) (v : Word) (s : State), (s.accepts m 0x20140000) ∧ (v.toNat.testBit 3 = true) ∧ (s.on Reg.SAFE_CTRL_EN = true) ∧ (s.rd Reg.SAFE_STATUS_STATE ≠ 3)) ∧
    (∃ (m : Master) (v : Word) (s : State), (s.accepts m 0x20140000) ∧ (v.toNat.testBit 3 = false)) ∧
    (∃ (m : Master) (v : Word) (s : State), (s.accepts m 0x20140000) ∧ (v.toNat.testBit 4 = true) ∧ (s.on Reg.SAFE_STATUS_PROOF_DUE = false)) ∧
    (∃ (m : Master) (v : Word) (s : State), (s.accepts m 0x20140000) ∧ (v.toNat.testBit 5 = true) ∧ (s.on Reg.SAFE_STATUS_PROOF_DUE = true)) ∧
    (∃ (m : Master) (v : Word) (s : State), (s.accepts m 0x20140000) ∧ (v.toNat.testBit 6 = true)) ∧
    (∃ (s : State), (s.on Reg.SAFE_CTRL_CMON_TEST = true)) ∧
    (∃ (k : Bool) (s : State), (s.on Reg.SAFE_CTRL_CMON_TEST = false)) ∧
    (∃ (m : Master) (v : Word) (s : State), (s.accepts m 0x2014007C) ∧ (v.toNat.testBit 0 = true)) ∧
    (∃ (p : Fin 12) (s : State), (s.alive 2 = true)) ∧
    (∃ (p : Fin 12) (s : State), (s.alive 2 = false)) ∧
    (∃ (p n : Byte) (s : State), (s.alive 2 = false)) ∧
    (∃ (a b : Fin 16) (s : State), (s.alive 2 = false)) ∧
    (∃ (x : Fin 2) (a b c : Fin 16) (s : State), (s.alive 2 = false)) ∧
    (∃ (s : State), (s.alive 2 = false)) ∧
    (∃ (p n : Byte) (s : State), (s.part.safeCapable = true) ∧ (s.alive 2 = true) ∧ (n = ~~~p)) ∧
    (∃ (p n : Byte) (s : State), (s.part.safeCapable = false)) ∧
    (∃ (a b : Fin 16) (i : Fin 4) (s : State), (s.part.safeCapable = true) ∧ (s.alive 2 = true) ∧ (b.val.testBit i = false) ∧ (a.val.testBit i = !(s.rd Reg.SAFE_IL_LEVEL).testBit i) ∧ (s.safe.run[i] + 1 < 60)) ∧
    (∃ (a b : Fin 16) (i : Fin 4) (s : State), (s.part.safeCapable = true) ∧ (s.alive 2 = true) ∧ (b.val.testBit i = false) ∧ (a.val.testBit i = !(s.rd Reg.SAFE_IL_LEVEL).testBit i) ∧ (59 ≤ s.safe.run[i])) ∧
    (∃ (a b : Fin 16) (i : Fin 4) (s : State), (s.part.safeCapable = true) ∧ (s.alive 2 = true) ∧ (b.val.testBit i = false) ∧ (a.val.testBit i = (s.rd Reg.SAFE_IL_LEVEL).testBit i)) ∧
    (∃ (a b : Fin 16) (i : Fin 4) (s : State), (s.part.safeCapable = true) ∧ (s.alive 2 = true) ∧ (b.val.testBit i = true)) ∧
    (∃ (a b : Fin 16) (s : State), (s.part.safeCapable = true) ∧ (s.alive 2 = true)) ∧
    (∃ (a b : Fin 16) (s : State), (s.part.safeCapable = false)) ∧
    (∃ (x : Fin 2) (a b c : Fin 16) (i : Fin 4) (s : State), (s.part.safeCapable = true) ∧ (s.alive 2 = true) ∧ (s.ilUsed (Fin.ofNat 2 (i.val / 2)) = true) ∧ (tpFails i x (a.val.testBit i) (b.val.testBit i) (c.val.testBit i) = false)) ∧
    (∃ (x : Fin 2) (a b c : Fin 16) (i : Fin 4) (s : State), (s.part.safeCapable = true) ∧ (s.alive 2 = true) ∧ (s.ilUsed (Fin.ofNat 2 (i.val / 2)) = true) ∧ (tpFails i x (a.val.testBit i) (b.val.testBit i) (c.val.testBit i) = true)) ∧
    (∃ (x : Fin 2) (a b c : Fin 16) (i : Fin 4) (s : State), (s.part.safeCapable = true) ∧ (s.alive 2 = true) ∧ (s.ilUsed (Fin.ofNat 2 (i.val / 2)) = true) ∧ (tpFails i x (a.val.testBit i) (b.val.testBit i) (c.val.testBit i) = true) ∧ (1 ≤ s.safe.tpFail[(Fin.ofNat 8 (2 * i.val + if i.val % 2 = x.val then 0 else 1) : Fin 8)]) ∧ (s.on Reg.SAFE_STATUS_TP_ERR = false)) ∧
    (∃ (x : Fin 2) (a b c : Fin 16) (s : State), (s.part.safeCapable = false)) ∧
    (∃ (k : Fin 2) (s : State), (s.part.safeCapable = true) ∧ (s.alive 2 = true) ∧ (s.ilUsed k = true) ∧ (s.ilA k ≠ s.ilB k)) ∧
    (∃ (k : Fin 2) (s : State), (s.part.safeCapable = true) ∧ (s.alive 2 = true) ∧ (s.ilUsed k = true) ∧ (s.ilA k = s.ilB k)) ∧
    (∃ (s : State), (s.part.safeCapable = false)) ∧
    (∃ (s : State), (s.safe.silence = true)) ∧
    (∃ (p : Fin 12) (s : State), (s.safe.silence = true) ∧ (s.on (Reg.TL_CTRL_EN p) = true) ∧ (s.on (Reg.TL_STATUS_FENCED p) = false)) ∧
    (∃ (s : State), (s.safe.silence = false)) ∧
    (∃ (s : State) (x : SafeCopy) (l : List SafeCopy), (s.safe.held = x :: l)) ∧
    (∃ (s : State), (s.safe.held = [])) ∧
    (∃ (k : Fin 8) (s : State), (s.on Reg.SAFE_CTRL_EN = true) ∧ (s.on Reg.SAFE_STATUS_SYM_INHIBIT = false) ∧ (s.part.safeCapable = true)) ∧
    (∃ (s : State), (s.on Reg.SAFE_CTRL_EN = false)) ∧
    (∃ (m : Master) (k : Fin 8) (v : Word) (s : State), (s.accepts m (0x20140200 + k.val * 0x10)) ∧ (v.toNat.testBit 0 = true) ∧ (s.on Reg.SAFE_STATUS_SYM_INHIBIT = false)) ∧
    (∃ (m : Master) (k : Fin 8) (v : Word) (s : State), (s.accepts m (0x20140200 + k.val * 0x10)) ∧ (v.toNat.testBit 0 = true) ∧ (s.on Reg.SAFE_STATUS_SYM_INHIBIT = true)) :=
  ⟨⟨.engine 12, 1, tst [], by decide +kernel⟩,
   ⟨.engine 12, 1, { tst [] with part := { safeCapable := false } }, by decide +kernel⟩,
   ⟨.engine 12, 0, tst [], by decide +kernel⟩,
   ⟨.engine 12, 2, { tst [(Reg.SAFE_STATUS_DISC, 1)] with safe := { ackSeen := .replicate 2 2 } }, by decide +kernel⟩,
   ⟨.engine 12, 2, tst [(Reg.SAFE_STATUS_DISC, 1)], by decide +kernel⟩,
   ⟨.engine 12, 2, tst [], by decide +kernel⟩,
   ⟨.engine 12, 4, tst [], by decide +kernel⟩,
   ⟨.engine 12, 8, tst [], by decide +kernel⟩,
   ⟨.engine 12, 8, tst [(Reg.SAFE_CTRL_EN, 1), (Reg.SAFE_STATUS_STATE, 1)], by decide +kernel⟩,
   ⟨.engine 12, 0, tst [(Reg.SAFE_CTRL_FB_REQ, 1)], by decide +kernel⟩,
   ⟨.engine 12, 0x10, tst [(Reg.SAFE_STATUS_PROOF_DUE, 0)], by decide +kernel⟩,
   ⟨.engine 12, 0x20, tst [(Reg.SAFE_STATUS_PROOF_DUE, 1)], by decide +kernel⟩,
   ⟨.engine 12, 0x40, tst [], by decide +kernel⟩,
   ⟨tst [(Reg.SAFE_CTRL_CMON_TEST, 1)], by decide +kernel⟩,
   ⟨true, tst [], by decide +kernel⟩,
   ⟨.engine 12, 1, tst [], by decide +kernel⟩,
   ⟨3, tst [], by decide +kernel⟩,
   ⟨3, (tst []).setDoms (fun _ => 0), by decide +kernel⟩,
   ⟨1, 2, (tst []).setDoms (fun _ => 0), by decide +kernel⟩,
   ⟨1, 1, (tst []).setDoms (fun _ => 0), by decide +kernel⟩,
   ⟨1, 1, 1, 1, (tst []).setDoms (fun _ => 0), by decide +kernel⟩,
   ⟨(tst []).setDoms (fun _ => 0), by decide +kernel⟩,
   ⟨0x15, 0xEA, tst [], by decide +kernel⟩,
   ⟨1, 1, { tst [] with part := { safeCapable := false } }, by decide +kernel⟩,
   ⟨4, 0, 2, tst [], by decide +kernel⟩,
   ⟨4, 0, 2, { tst [] with safe := { run := .replicate 4 59 } }, by decide +kernel⟩,
   ⟨0, 0, 2, { tst [] with safe := { run := .replicate 4 59 } }, by decide +kernel⟩,
   ⟨4, 4, 2, tst [], by decide +kernel⟩,
   ⟨4, 0, tst [], by decide +kernel⟩,
   ⟨1, 1, { tst [] with part := { safeCapable := false } }, by decide +kernel⟩,
   ⟨1, 0, 0, 0, 0, tst [], by decide +kernel⟩,
   ⟨0, 1, 0, 0, 0, tst [], by decide +kernel⟩,
   ⟨0, 1, 0, 0, 0, { tst [] with safe := { tpFail := .replicate 8 1 } }, by decide +kernel⟩,
   ⟨1, 1, 1, 1, { tst [] with part := { safeCapable := false } }, by decide +kernel⟩,
   ⟨0, tst [(Reg.SAFE_IL_LEVEL, 1)], by decide +kernel⟩,
   ⟨0, tst [(Reg.SAFE_IL_LEVEL, 3)], by decide +kernel⟩,
   ⟨{ tst [] with part := { safeCapable := false } }, by decide +kernel⟩,
   ⟨{ tst [] with safe := { silence := true } }, by decide +kernel⟩,
   ⟨3, { tst [((Reg.TL_CTRL_EN 3), 1)] with safe := { silence := true } }, by decide +kernel⟩,
   ⟨tst [], by decide +kernel⟩,
   ⟨{ tst [] with safe := { held := [{ port := 3 }] } }, { port := 3 }, [], by decide +kernel⟩,
   ⟨tst [], by decide +kernel⟩,
   ⟨3, tst [(Reg.SAFE_CTRL_EN, 1)], by decide +kernel⟩,
   ⟨tst [], by decide +kernel⟩,
   ⟨.engine 12, 3, 0x41, tst [], by decide +kernel⟩,
   ⟨.engine 12, 3, 0x41, tst [(Reg.SAFE_STATUS_SYM_INHIBIT, 1)], by decide +kernel⟩⟩

theorem test_meets_MemoryControllerAndErrors :
    (∃ (m : Master) (v : Word) (s : State), (s.accepts m 0x20060000) ∧ (v.toNat.testBit 0 = true) ∧ (s.on Reg.MEMC_CTRL_EN = false) ∧ ((s.stored m 0x20060000 v).densityOk = true)) ∧
    (∃ (m : Master) (v : Word) (s : State), (s.accepts m 0x20060000) ∧ (v.toNat.testBit 0 = true) ∧ (s.on Reg.MEMC_CTRL_EN = true)) ∧
    (∃ (m : Master) (v : Word) (s : State), (s.accepts m 0x20060000) ∧ (v.toNat.testBit 0 = false)) ∧
    (∃ (k : Bool) (s : State), (s.domOpen 10 = false)) ∧
    (∃ (s : State), (s.domOpen 10 = true) ∧ (s.rd Reg.MEMC_STATUS_STATE = 1) ∧ (s.densityOk = true)) ∧
    (∃ (s : State), (s.domOpen 10 = true) ∧ (s.rd Reg.MEMC_STATUS_STATE = 1)) ∧
    (∃ (k : Bool) (s : State), (s.rd Reg.MEMC_STATUS_STATE = 0)) ∧
    (∃ (m : Master) (v : Word) (s : State), (s.accepts m 0x20060000) ∧ (v.toNat.testBit 1 = true) ∧ (s.rd Reg.MEMC_STATUS_STATE = 2)) ∧
    (∃ (m : Master) (v : Word) (s : State), (s.accepts m 0x20060000) ∧ (v.toNat.testBit 1 = true) ∧ (s.rd Reg.MEMC_STATUS_STATE = 4) ∧ ((s.stored m 0x20060000 v).densityOk = true)) ∧
    (∃ (m : Master) (v : Word) (s : State), (s.accepts m 0x20060000) ∧ (v.toNat.testBit 1 = false ∨ (s.rd Reg.MEMC_STATUS_STATE ≠ 2 ∧ s.rd Reg.MEMC_STATUS_STATE ≠ 4))) ∧
    (∃ (c : Nat) (s : State), (s.rd Reg.MEMC_STATUS_STATE = 2) ∧ (c ≠ 0)) ∧
    (∃ (c : Nat) (s : State), (s.rd Reg.MEMC_STATUS_STATE ≠ 2 ∨ c = 0)) ∧
    (∃ (s : State), (s.rd Reg.MEMC_STATUS_STATE = 2) ∧ (s.on Reg.MEMC_STATUS_TEMP_HI = false)) ∧
    (∃ (s : State), (s.rd Reg.MEMC_STATUS_STATE = 2)) ∧
    (∃ (m : Master) (a x n : Nat) (s : State), (m ≠ .debug) ∧ (s.viewAddr m a = x) ∧ (s.readable x = true) ∧ (dramBase ≤ x)) ∧
    (∃ (m : Master) (a x n : Nat) (e : List (Fin 72 × Byte)) (s : State), (m ≠ .debug) ∧ (s.viewAddr m a = x) ∧ (s.readable x = true) ∧ (dramBase ≤ x) ∧ (rsDecode e = .uncorrectable) ∧ (s.on Reg.MEMC_STATUS_UE = false) ∧ (s.on Reg.MEMC_STATUS_ADDR_ERR = false)) ∧
    (∃ (m : Master) (a x n : Nat) (e : List (Fin 72 × Byte)) (l : List (Nat × Nat)) (s : State), (m ≠ .debug) ∧ (s.viewAddr m a = x) ∧ (s.readable x = true) ∧ (dramBase ≤ x) ∧ (rsDecode e = .corrected l)) ∧
    (∃ (m : Master) (a x n : Nat) (e : List (Fin 72 × Byte)) (s : State), (m ≠ .debug) ∧ (s.viewAddr m a = x) ∧ (x < 0x20000000 ∨ 0x20190000 ≤ x) ∧ (s.readable x = false) ∧ (s.domOpen (accessDomain x) = true)) ∧
    (∃ (m : Master) (a x n : Nat) (e : List (Fin 72 × Byte)) (s : State), (m ≠ .debug) ∧ (s.viewAddr m a = x) ∧ (x < 0x20000000 ∨ 0x20190000 ≤ x) ∧ (s.readable x = false) ∧ (s.domOpen (accessDomain x) = false)) ∧
    (∃ (m : Master) (a x n : Nat) (e : List (Fin 72 × Byte)) (s : State), (m ≠ .debug) ∧ (s.viewAddr m a = x) ∧ (0x20000000 ≤ x ∧ x < 0x20190000) ∧ (s.domOpen (blockDomain x) = true) ∧ (inCalWindow x n = false) ∧ (inTokenWindow x n = false) ∧ (n ≠ 4 ∨ x % 4 ≠ 0 ∨ (regAt x).isNone = true)) ∧
    (∃ (m : Master) (a x n : Nat) (e : List (Fin 72 × Byte)) (s : State), (m ≠ .debug) ∧ (s.viewAddr m a = x) ∧ (0x20000000 ≤ x ∧ x < 0x20190000) ∧ (s.domOpen (blockDomain x) = false)) ∧
    (∃ (a n : Nat) (e : List (Fin 72 × Byte)) (s : State), (s.debugReach a = false)) ∧
    (∃ (s : State), (s.on Reg.MEMC_CTRL_SCRUB_EN = true) ∧ (s.readable (dramBase + 64 * s.memc.scrub) = true) ∧ (64 * (s.memc.scrub + 1) < usableDram s.part.density)) ∧
    (∃ (s : State), (s.on Reg.MEMC_CTRL_SCRUB_EN = true) ∧ (s.readable (dramBase + 64 * s.memc.scrub) = true) ∧ (usableDram s.part.density ≤ 64 * (s.memc.scrub + 1))) ∧
    (∃ (x : List (Fin 72 × Byte)) (b : Bool) (s : State), (s.on Reg.MEMC_CTRL_SCRUB_EN = false)) ∧
    (∃ (m : Master) (a : Nat) (s : State), (m ≠ .debug) ∧ (s.readable a = true) ∧ (0x10000000 ≤ a) ∧ (a < 0x10800000)) ∧
    (∃ (m : Master) (a : Nat) (s : State), (m ≠ .debug) ∧ (s.readable a = true) ∧ (0x10000000 ≤ a) ∧ (a < 0x10800000) ∧ (s.on Reg.MEMC_SRAM_UE = false)) ∧
    (∃ (m : Master) (a : Nat) (b : Byte) (s : State), (m ≠ .debug) ∧ (s.protectedFrom (.master m) a = false) ∧ (s.readable a = true) ∧ (0x10000000 ≤ a) ∧ (a < 0x10800000) ∧ (s.chipWritable m a = true)) ∧
    (∃ (e : Fin 16) (a : Nat) (s : State), (s.readable (s.viewAddr (.engine e) a) = true)) ∧
    (∃ (m : Master) (a b : Nat) (x y : Byte) (s : State), (m ≠ .debug) ∧ (s.protectedFrom (.master m) a = false) ∧ (s.protectedFrom (.master m) b = false) ∧ (s.viewAddr m a = a) ∧ (s.viewAddr m b = b) ∧ (s.readable a = true) ∧ (s.readable b = true) ∧ (s.chipWritable m a = true) ∧ (s.chipWritable m b = true) ∧ (0x10000000 ≤ a) ∧ (a + 1 = b) ∧ (b < 0x10800000) ∧ (a % 8 = 7)) ∧
    (∃ (m : Master) (a : Nat) (b : Byte) (u : Bool) (s : State), (m ≠ .debug) ∧ (s.readable a = true) ∧ (0x10000000 ≤ a) ∧ (a < 0x10800000) ∧ (s.protectedFrom (.master m) a = true)) ∧
    (∃ (acc : Access) (a : Nat) (b : Byte) (u : Bool) (s : State), (s.readable a = true) ∧ (s.debugReach a = false)) :=
  ⟨⟨.engine 0, 1, { tst [] with part := { density := 0 } }, by decide +kernel⟩,
   ⟨.engine 0, 1, tst [(Reg.MEMC_CTRL_EN, 1)], by decide +kernel⟩,
   ⟨.engine 0, 0, tst [(Reg.MEMC_CTRL_EN, 1), (Reg.MEMC_STATUS_STATE, 2)], by decide +kernel⟩,
   ⟨true, (tst [(Reg.MEMC_STATUS_STATE, 1)]).setDoms (fun _ => 0), by decide +kernel⟩,
   ⟨{ tst [(Reg.MEMC_STATUS_STATE, 1)] with part := { density := 0 } }, by decide +kernel⟩,
   ⟨tst [(Reg.MEMC_STATUS_STATE, 1)], by decide +kernel⟩,
   ⟨true, tst [], by decide +kernel⟩,
   ⟨.engine 0, 2, tst [(Reg.MEMC_STATUS_STATE, 2)], by decide +kernel⟩,
   ⟨.engine 0, 2, { tst [(Reg.MEMC_STATUS_STATE, 4)] with part := { density := 0 } }, by decide +kernel⟩,
   ⟨.engine 0, 2, tst [], by decide +kernel⟩,
   ⟨70, tst [(Reg.MEMC_STATUS_STATE, 2)], by decide +kernel⟩,
   ⟨0, tst [], by decide +kernel⟩,
   ⟨tst [(Reg.MEMC_STATUS_STATE, 2)], by decide +kernel⟩,
   ⟨tst [(Reg.MEMC_STATUS_STATE, 2), (Reg.MEMC_STATUS_TEMP_HI, 1)], by decide +kernel⟩,
   ⟨.engine 0, 0x80000040, 0x100000040, 4, tst [(Reg.MEMC_STATUS_STATE, 2)], by decide +kernel⟩,
   ⟨.engine 0, 0x80000040, 0x100000040, 4, [(0, 1), (1, 1), (2, 1)], tst [(Reg.MEMC_STATUS_STATE, 2)], by decide +kernel⟩,
   ⟨.engine 0, 0x80000040, 0x100000040, 4, [(0, 1)], [(0, 1)], tst [(Reg.MEMC_STATUS_STATE, 2)], by decide +kernel⟩,
   ⟨.engine 0, 0x80000040, 0x100000040, 4, [], tst [], by decide +kernel⟩,
   ⟨.engine 0, 0x80000040, 0x100000040, 4, [], (tst []).setDoms (fun _ => 0), by decide +kernel⟩,
   ⟨.engine 0, 0x2008FFF0, 0x2008FFF0, 4, [], tst [], by decide +kernel⟩,
   ⟨.engine 0, 0x20080000, 0x20080000, 4, [], (tst []).setDoms (fun _ => 0), by decide +kernel⟩,
   ⟨0x10000000, 4, [], { tst [] with part := { lcBoot := 2 } }, by decide +kernel⟩,
   ⟨tst [(Reg.MEMC_STATUS_STATE, 2), (Reg.MEMC_CTRL_SCRUB_EN, 1)], by decide +kernel⟩,
   ⟨{ tst [(Reg.MEMC_STATUS_STATE, 2), (Reg.MEMC_CTRL_SCRUB_EN, 1)] with memc := { scrub := usableDram ({} : Part).density / 64 - 1 } }, by decide +kernel⟩,
   ⟨[], true, tst [(Reg.MEMC_CTRL_SCRUB_EN, 0)], by decide +kernel⟩,
   ⟨.engine 0, 0x10000040, tst [], by decide +kernel⟩,
   ⟨.engine 0, 0x10080040, tst [], by decide +kernel⟩,
   ⟨.engine 0, 0x10000040, 7, tst [], by decide +kernel⟩,
   ⟨3, 0x10000040, tst [], by decide +kernel⟩,
   ⟨.engine 0, 0x10000047, 0x10000048, 7, 8, tst [], by decide +kernel⟩,
   ⟨.engine 0, 0x10000040, 7, false, tst [(Reg.MASKIN_CTRL_EN, 1), (Reg.MASKIN_BUF_BASE_LO_ADDR, 512)], by decide +kernel⟩,
   ⟨.write, 0x10000040, 7, true, { tst [] with part := { lcBoot := 2 } }, by decide +kernel⟩⟩

theorem test_meets_StageWindowAndDma :
    (∃ (m : Master) (v : Word) (s : State), (s.accepts m 0x20070000) ∧ (v.toNat.testBit 0 = true) ∧ (s.on Reg.WIN_CTRL_EN = false) ∧ ((s.stored m 0x20070000 v).winOk = true)) ∧
    (∃ (m : Master) (v : Word) (s : State), (s.accepts m 0x20070000) ∧ (v.toNat.testBit 0 = true) ∧ (s.on Reg.WIN_CTRL_EN = false) ∧ ((s.stored m 0x20070000 v).winOk = false)) ∧
    (∃ (m : Master) (v : Word) (n : Fin 1024) (s : State), (s.accepts m 0x20070000) ∧ (v.toNat.testBit 0 = false) ∧ (s.on Reg.WIN_CTRL_EN = true)) ∧
    (∃ (m : Master) (v : Word) (s : State), (s.accepts m 0x20070000) ∧ (v.toNat.testBit 1 = true)) ∧
    (∃ (m : Master) (v : Word) (s : State), (s.accepts m 0x20070014) ∧ (v.toNat.testBit 31 = true) ∧ (s.on Reg.WIN_CTRL_EN = false ∨ s.rd Reg.WIN_CFG_COUNT ≤ (s.stored m 0x20070014 v).rd Reg.WIN_XFER_SLOT)) ∧
    (∃ (m : Master) (v : Word) (s : State), (s.accepts m 0x20070014) ∧ (v.toNat.testBit 31 = true) ∧ (s.on Reg.WIN_CTRL_EN = true) ∧ ((s.stored m 0x20070014 v).rd Reg.WIN_XFER_SLOT < s.rd Reg.WIN_CFG_COUNT) ∧ (s.win.retire.any (fun r => r.1 == (s.stored m 0x20070014 v).rd Reg.WIN_XFER_SLOT) = true)) ∧
    (∃ (m : Master) (v : Word) (s : State), (s.accepts m 0x20070014) ∧ (v.toNat.testBit 31 = true) ∧ (s.on Reg.WIN_CTRL_EN = true) ∧ ((s.stored m 0x20070014 v).rd Reg.WIN_XFER_SLOT < s.rd Reg.WIN_CFG_COUNT) ∧ (s.win.retire.any (fun r => r.1 == (s.stored m 0x20070014 v).rd Reg.WIN_XFER_SLOT) = false) ∧ ((s.actsFor m (s.slotOwner ((s.stored m 0x20070014 v).rd Reg.WIN_XFER_SLOT)) || ((s.slotOwner ((s.stored m 0x20070014 v).rd Reg.WIN_XFER_SLOT) == 0 || s.slotOwner ((s.stored m 0x20070014 v).rd Reg.WIN_XFER_SLOT) == 4) && s.actsFor m ((s.stored m 0x20070014 v).rd Reg.WIN_XFER_NEW))) = false)) ∧
    (∃ (m : Master) (v : Word) (s : State), (s.accepts m 0x20070014) ∧ (v.toNat.testBit 31 = true) ∧ (s.on Reg.WIN_CTRL_EN = true) ∧ ((s.stored m 0x20070014 v).rd Reg.WIN_XFER_SLOT < s.rd Reg.WIN_CFG_COUNT) ∧ (s.win.retire.any (fun r => r.1 == (s.stored m 0x20070014 v).rd Reg.WIN_XFER_SLOT) = false) ∧ ((s.actsFor m (s.slotOwner ((s.stored m 0x20070014 v).rd Reg.WIN_XFER_SLOT)) || ((s.slotOwner ((s.stored m 0x20070014 v).rd Reg.WIN_XFER_SLOT) == 0 || s.slotOwner ((s.stored m 0x20070014 v).rd Reg.WIN_XFER_SLOT) == 4) && s.actsFor m ((s.stored m 0x20070014 v).rd Reg.WIN_XFER_NEW))) = true) ∧ (s.slotOwner ((s.stored m 0x20070014 v).rd Reg.WIN_XFER_SLOT) = 4) ∧ ((s.stored m 0x20070014 v).rd Reg.WIN_XFER_NEW = 0 ∨ (s.stored m 0x20070014 v).rd Reg.WIN_XFER_NEW = 2) ∧ (s.on Reg.FT_STATUS_RUN = true)) ∧
    (∃ (m : Master) (v : Word) (s : State), (s.accepts m 0x20070014) ∧ (v.toNat.testBit 31 = true) ∧ (s.on Reg.WIN_CTRL_EN = true) ∧ ((s.stored m 0x20070014 v).rd Reg.WIN_XFER_SLOT < s.rd Reg.WIN_CFG_COUNT) ∧ (s.win.retire.any (fun r => r.1 == (s.stored m 0x20070014 v).rd Reg.WIN_XFER_SLOT) = false) ∧ ((s.actsFor m (s.slotOwner ((s.stored m 0x20070014 v).rd Reg.WIN_XFER_SLOT)) || ((s.slotOwner ((s.stored m 0x20070014 v).rd Reg.WIN_XFER_SLOT) == 0 || s.slotOwner ((s.stored m 0x20070014 v).rd Reg.WIN_XFER_SLOT) == 4) && s.actsFor m ((s.stored m 0x20070014 v).rd Reg.WIN_XFER_NEW))) = true) ∧ (¬ (s.slotOwner ((s.stored m 0x20070014 v).rd Reg.WIN_XFER_SLOT) = 4 ∧ ((s.stored m 0x20070014 v).rd Reg.WIN_XFER_NEW = 0 ∨ (s.stored m 0x20070014 v).rd Reg.WIN_XFER_NEW = 2))) ∧ (mayHand (s.slotOwner ((s.stored m 0x20070014 v).rd Reg.WIN_XFER_SLOT)) ((s.stored m 0x20070014 v).rd Reg.WIN_XFER_NEW) = false)) ∧
    (∃ (m : Master) (v : Word) (s : State), (s.accepts m 0x20070014) ∧ (v.toNat.testBit 31 = true) ∧ (s.on Reg.WIN_CTRL_EN = true) ∧ ((s.stored m 0x20070014 v).rd Reg.WIN_XFER_SLOT < s.rd Reg.WIN_CFG_COUNT) ∧ (s.win.retire.any (fun r => r.1 == (s.stored m 0x20070014 v).rd Reg.WIN_XFER_SLOT) = false) ∧ ((s.actsFor m (s.slotOwner ((s.stored m 0x20070014 v).rd Reg.WIN_XFER_SLOT)) || ((s.slotOwner ((s.stored m 0x20070014 v).rd Reg.WIN_XFER_SLOT) == 0 || s.slotOwner ((s.stored m 0x20070014 v).rd Reg.WIN_XFER_SLOT) == 4) && s.actsFor m ((s.stored m 0x20070014 v).rd Reg.WIN_XFER_NEW))) = true) ∧ (¬ (s.slotOwner ((s.stored m 0x20070014 v).rd Reg.WIN_XFER_SLOT) = 4 ∧ ((s.stored m 0x20070014 v).rd Reg.WIN_XFER_NEW = 0 ∨ (s.stored m 0x20070014 v).rd Reg.WIN_XFER_NEW = 2))) ∧ (mayHand (s.slotOwner ((s.stored m 0x20070014 v).rd Reg.WIN_XFER_SLOT)) ((s.stored m 0x20070014 v).rd Reg.WIN_XFER_NEW) = true)) ∧
    (∃ (n o : Nat) (s : State), (s.win.xfer = some (n, o)) ∧ (n < 1024) ∧ (s.on Reg.FT_STATUS_RUN = true)) ∧
    (∃ (s : State), (s.win.xfer = none)) ∧
    (∃ (n o : Nat) (s : State), (s.win.retire = [(n, o)]) ∧ (n < 1024) ∧ (s.slotOwner n = 4) ∧ (s.referenced n = false) ∧ (s.on Reg.FT_STATUS_RUN = true)) ∧
    (∃ (s : State), (s.win.retire = [])) ∧
    (∃ (m : Master) (c : Fin 4) (v : Word) (s : State), (s.accepts m (winDmaAddr c)) ∧ (v.toNat.testBit 0 = true) ∧ (s.win.dma[c] = none) ∧ (s.actsFor m ((s.stored m (winDmaAddr c) v).rd (Reg.WIN_DMA_CTRL_OWN c)) = true)) ∧
    (∃ (m : Master) (c : Fin 4) (v : Word) (s : State), (s.accepts m (winDmaAddr c)) ∧ (v.toNat.testBit 0 = true) ∧ (s.win.dma[c] = none) ∧ (s.actsFor m ((s.stored m (winDmaAddr c) v).rd (Reg.WIN_DMA_CTRL_OWN c)) = false)) ∧
    (∃ (m : Master) (c : Fin 4) (v : Word) (s : State), (s.accepts m (winDmaAddr c)) ∧ (s.win.dma[c].isSome = true)) ∧
    (∃ (c : Fin 4) (x : Option Nat) (y : DmaRun) (s : State), (s.win.dma[c] = some y) ∧ ((s.dmaCopy y x (y.len / 64)).2 = none)) ∧
    (∃ (c : Fin 4) (x : Option Nat) (y : DmaRun) (n : Nat) (s : State), (s.win.dma[c] = some y) ∧ ((s.dmaCopy y x (y.len / 64)).2 = some n)) ∧
    (∃ (c : Fin 4) (x : Option Nat) (s : State), (s.win.dma[c] = none)) ∧
    (∃ (c : Fin 4) (s : State), (s.win.dma[c].isSome = true)) ∧
    (∃ (c : Fin 4) (s : State), (s.win.dma[c] = none)) :=
  ⟨⟨.engine 0, 1, tst [(Reg.WIN_CFG_SIZE, 16), (Reg.WIN_CFG_COUNT, 4), (Reg.WIN_BASE_HI_ADDR_HI, 1)], by decide +kernel⟩,
   ⟨.engine 0, 1, tst [], by decide +kernel⟩,
   ⟨.engine 0, 0, 5, tst [(Reg.WIN_CTRL_EN, 1), ((Reg.WIN_OWN 5), 4)], by decide +kernel⟩,
   ⟨.engine 0, 2, tst [], by decide +kernel⟩,
   ⟨.engine 0, 0x80000000, tst [], by decide +kernel⟩,
   ⟨.engine 0, 0x80000000, { tst [(Reg.WIN_CTRL_EN, 1), (Reg.WIN_CFG_COUNT, 4)] with win := { retire := [(0, 2)] } }, by decide +kernel⟩,
   ⟨.engine 0, 0x80000000, tst [(Reg.WIN_CTRL_EN, 1), (Reg.WIN_CFG_COUNT, 4), ((Reg.WIN_OWN 0), 3)], by decide +kernel⟩,
   ⟨.engine 0, 0x80000000, tst [(Reg.WIN_CTRL_EN, 1), (Reg.WIN_CFG_COUNT, 4), (Reg.FT_STATUS_RUN, 1), ((Reg.WIN_OWN 0), 4), ((Reg.WIN_ROLE_MASK 0), 255)], by decide +kernel⟩,
   ⟨.engine 0, 0x80030000, tst [(Reg.WIN_CTRL_EN, 1), (Reg.WIN_CFG_COUNT, 4), ((Reg.WIN_OWN 0), 1), ((Reg.WIN_ROLE_MASK 0), 255)], by decide +kernel⟩,
   ⟨.engine 0, 0x80000000, tst [(Reg.WIN_CTRL_EN, 1), (Reg.WIN_CFG_COUNT, 4), ((Reg.WIN_OWN 0), 1), ((Reg.WIN_ROLE_MASK 0), 255)], by decide +kernel⟩,
   ⟨3, 2, { tst [(Reg.FT_STATUS_RUN, 1), (Reg.WIN_XFER_GO, 1)] with win := { xfer := some (3, 2) } }, by decide +kernel⟩,
   ⟨tst [], by decide +kernel⟩,
   ⟨3, 2, { tst [(Reg.FT_STATUS_RUN, 1), (Reg.WIN_STATUS_PEND_RETIRE, 1), ((Reg.WIN_OWN 3), 4)] with win := { retire := [(3, 2)] } }, by decide +kernel⟩,
   ⟨tst [], by decide +kernel⟩,
   ⟨.debug, 2, 1, tst [], by decide +kernel⟩,
   ⟨.engine 0, 2, 1, tst [], by decide +kernel⟩,
   ⟨.engine 0, 2, 1, { tst [] with win := { dma := .replicate 4 (some {}) } }, by decide +kernel⟩,
   ⟨2, none, { src := 0x10000000, dst := 0x10001000, len := 128 }, { tst [] with win := { dma := .replicate 4 (some { src := 0x10000000, dst := 0x10001000, len := 128 }) } }, by decide +kernel⟩,
   ⟨2, some 1, { src := 0x10000000, dst := 0x10001000, len := 128 }, 1, { tst [] with win := { dma := .replicate 4 (some { src := 0x10000000, dst := 0x10001000, len := 128 }) } }, by decide +kernel⟩,
   ⟨2, none, tst [], by decide +kernel⟩,
   ⟨2, { tst [] with win := { dma := .replicate 4 (some {}) } }, by decide +kernel⟩,
   ⟨2, tst [], by decide +kernel⟩⟩

theorem test_meets_MemoryWritesStayInside :
    (∃ (m : Master) (a n : Nat) (v : Word) (s : State), (a < 0x20000000 ∨ 0x20190000 ≤ a)) ∧
    (∃ (m : Master) (a n : Nat) (v : Word) (s : State), (0x20000000 ≤ a) ∧ (a < 0x20190000)) ∧
    (∃ (d : Fin 29) (w : WakeProg) (s : State), (s.wakeOf d = some w) ∧ (w.step ≠ 2 ∨ (s.pwr.cold = false ∧ s.domOn d = false ∧ s.pwr.oscBad = false))) ∧
    (∃ (r : PwrReq) (s : State), (s.pwr.req = some r)) ∧
    (∃ (k : Fin 4) (x : Bool) (s : State), (k ≠ 0)) ∧
    (∃ (x : Bool) (s : State), (s.pwr.standby ≠ .asleep) ∧ (s.pwr.shutdown = false)) ∧
    (∃ (s : State), (s.pwr.standby ≠ .asleep) ∧ (s.pwr.shutdown = false)) ∧
    (∃ (s : State), (s.pwr.standby = .committed)) ∧
    (∃ (s : State) (c : Nat), (s.thm.cause = some c) ∧ (s.pwr.shutdown = false)) ∧
    (∃ (s : State), (s.pwr.shutdown = true) ∧ (s.rd Reg.CLKRST_CAUSE_CAUSE = 6) ∧ (s.on Reg.THM_CTRL_SHUT_AUTO = true)) ∧
    (∃ (k : Fin 2) (x : Bool) (s : State), (s.pwr.standby = .asleep) ∧ ((s.rd (if k = 0 then Reg.PWRCTL_STBY_WAKE0_EDGE else Reg.PWRCTL_STBY_WAKE1_EDGE)).testBit (if x then 0 else 1) = true)) ∧
    (∃ (s : State), (s.pwr.resetHeld = true)) :=
  ⟨⟨.engine 0, 0x10000000, 4, 7, tst [], by decide +kernel⟩,
   ⟨.engine 0, 0x20090100, 4, 5, { tst [(Reg.MEMC_STATUS_STATE, 2), (Reg.WIN_CTRL_EN, 1), (Reg.WIN_CFG_COUNT, 4), (Reg.WIN_CFG_SIZE, 16), (Reg.WIN_BASE_HI_ADDR_HI, 1), ((Reg.WIN_ROLE_MASK 0), 255), ((Reg.WIN_OWN 3), 4)] with win := { dma := #v[none, some { src := 0x10000000, dst := 0x100030000, len := 192, own := 4 }, none, none], retire := [(3, 2)] } }, by decide +kernel⟩,
   ⟨14, { domain := 14, step := 3 }, { tst [(Reg.PWRCTL_WAKE_CFG_WAKE_RETRY, 0)] with pwr := { wakes := [{ domain := 14, step := 3 }] } }, by decide +kernel⟩,
   ⟨{ domain := 14, target := 0, committed := true }, { tst [] with pwr := { req := some { domain := 14, target := 0, committed := true } } }, by decide +kernel⟩,
   ⟨1, true, tst [], by decide +kernel⟩,
   ⟨true, tst [], by decide +kernel⟩,
   ⟨tst [], by decide +kernel⟩,
   ⟨{ tst [] with pwr := { standby := .committed } }, by decide +kernel⟩,
   ⟨{ tst [] with thm := { cause := some 6 } }, 6, by decide +kernel⟩,
   ⟨{ tst [(Reg.CLKRST_CAUSE_CAUSE, 6), (Reg.THM_CTRL_SHUT_AUTO, 1)] with pwr := { shutdown := true } }, by decide +kernel⟩,
   ⟨0, true, { tst [(Reg.PWRCTL_STBY_WAKE0_EDGE, 1)] with pwr := { standby := .asleep } }, by decide +kernel⟩,
   ⟨{ tst [] with pwr := { resetHeld := true } }, by decide +kernel⟩⟩

theorem test_meets_WritesLandOrAreBlocked :
    (∃ (m : Master) (a x : Nat) (d : List Byte) (s : State), (m ≠ .debug) ∧ (s.viewAddr m a = x) ∧ (0 < d.length) ∧ (x % 64 + d.length ≤ 64) ∧ (s.protectedFrom (.master m) x = false) ∧ (x < dramBase) ∧ (s.chipWritable m x = true)) ∧
    (∃ (m : Master) (a x : Nat) (d : List Byte) (s : State), (m ≠ .debug) ∧ (s.viewAddr m a = x) ∧ (0 < d.length) ∧ (x % 64 + d.length ≤ 64) ∧ (s.protectedFrom (.master m) x = false) ∧ (dramBase ≤ x) ∧ (s.readable x = true) ∧ ((s.slotsOf x d.length).find? (fun n => s.slotBlocks n (s.actsFor m)) = none)) ∧
    (∃ (m : Master) (a x n : Nat) (v : Word) (s : State), (a < 0x20000000 ∨ 0x20190000 ≤ a) ∧ (m ≠ .debug) ∧ (s.viewAddr m a = x) ∧ (0 < n) ∧ (x % 64 + n ≤ 64) ∧ (s.protectedFrom (.master m) x = false) ∧ (x < dramBase) ∧ (s.chipWritable m x = true)) ∧
    (∃ (m : Master) (a x n : Nat) (v : Word) (s : State), (a < 0x20000000 ∨ 0x20190000 ≤ a) ∧ (m ≠ .debug) ∧ (s.viewAddr m a = x) ∧ (0 < n) ∧ (x % 64 + n ≤ 64) ∧ (s.protectedFrom (.master m) x = false) ∧ (dramBase ≤ x) ∧ (s.readable x = true) ∧ ((s.slotsOf x n).find? (fun k => s.slotBlocks k (s.actsFor m)) = none)) ∧
    (∃ (m : Master) (a x : Nat) (d : List Byte) (n : Nat) (s : State), (m ≠ .debug) ∧ (s.viewAddr m a = x) ∧ (0 < d.length) ∧ (x % 64 + d.length ≤ 64) ∧ (s.protectedFrom (.master m) x = false) ∧ (dramBase ≤ x) ∧ (s.readable x = true) ∧ ((s.slotsOf x d.length).find? (fun n => s.slotBlocks n (s.actsFor m)) = some n)) ∧
    (∃ (m : Master) (a x : Nat) (d : List Byte) (s : State), (m ≠ .debug) ∧ (s.viewAddr m a = x) ∧ (0 < d.length) ∧ (x % 64 + d.length ≤ 64) ∧ (s.protectedFrom (.master m) x = true)) ∧
    (∃ (m : Master) (a n : Nat) (v : Word) (s : State), (0x20000000 ≤ a ∧ a < 0x20190000) ∧ (s.domOpen (blockDomain a) = false)) ∧
    (∃ (m : Master) (a n : Nat) (v : Word) (s : State), (0x20000000 ≤ a ∧ a < 0x20190000) ∧ (s.domOpen (blockDomain a) = true) ∧ (inCalWindow a n = false) ∧ (inTokenWindow a n = false) ∧ (n ≠ 4 ∨ a % 4 ≠ 0 ∨ (regAt a).isNone = true)) ∧
    (∃ (m : Master) (k : Fin 4) (v : Word) (s : State), (s.accepts m (Reg.TIM_LOAD_LOAD k).addr)) ∧
    (∃ (m : Master) (v : Word) (s : State), (s.accepts m 0x20080004)) ∧
    (∃ (m : Master) (v : Word) (s : State), (s.accepts m 0x20080000) ∧ (s.blockOn 0x20080000 = false)) ∧
    (∃ (m : Master) (v : Word) (s : State), (s.accepts m 0x20080000) ∧ (s.on Reg.SA_CTRL_EN = true) ∧ (bits v.toNat Reg.SA_CTRL_AUTO_FALLBACK.lo 1 ≠ s.rd Reg.SA_CTRL_AUTO_FALLBACK)) ∧
    (∃ (m : Master) (u : Fin 4) (v : Word) (s : State), (m ≠ .pair) ∧ (s.accepts m (Reg.CVU_STATUS_OVERRUN u).addr) ∧ (v.toNat.testBit (Reg.CVU_STATUS_OVERRUN u).lo = true)) ∧
    (∃ (m : Master) (u : Fin 4) (v : Word) (s : State), (s.accepts m (Reg.CVU_STATUS_OVERRUN u).addr) ∧ (v.toNat.testBit (Reg.CVU_STATUS_OVERRUN u).lo = false)) :=
  ⟨⟨.engine 0, 0x10000010, 0x10000010, [1, 2, 3], tst [], by decide +kernel⟩,
   ⟨.engine 0, 0x80000010, 0x100000010, [1, 2, 3], tst [(Reg.MEMC_STATUS_STATE, 2)], by decide +kernel⟩,
   ⟨.engine 0, 0x10000010, 0x10000010, 4, 0x12345678, tst [], by decide +kernel⟩,
   ⟨.engine 0, 0x80000010, 0x100000010, 4, 0x12345678, tst [(Reg.MEMC_STATUS_STATE, 2)], by decide +kernel⟩,
   ⟨.engine 0, 0x80000010, 0x100000010, [1, 2, 3], 0, tst [(Reg.MEMC_STATUS_STATE, 2), (Reg.WIN_CTRL_EN, 1), (Reg.WIN_CFG_COUNT, 4), (Reg.WIN_BASE_HI_ADDR_HI, 1)], by decide +kernel⟩,
   ⟨.engine 0, 0x80000010, 0x100000010, [1, 2, 3], tst [(Reg.MASKIN_CTRL_EN, 1), (Reg.MASKIN_BUF_BASE_HI_ADDR_HI, 1)], by decide +kernel⟩,
   ⟨.engine 0, 0x20080000, 4, 1, (tst []).setDoms (fun _ => 0), by decide +kernel⟩,
   ⟨.engine 0, 0x20080002, 4, 1, tst [], by decide +kernel⟩,
   ⟨.engine 0, 2, 77, tst [], by decide +kernel⟩,
   ⟨.engine 0, 7, tst [(Reg.SA_STATUS_RUN, 1)], by decide +kernel⟩,
   ⟨.engine 0, 0, tst [(Reg.SA_CTRL_AUTO_FALLBACK, 1)], by decide +kernel⟩,
   ⟨.engine 0, 0, tst [(Reg.SA_CTRL_EN, 1), (Reg.SA_CTRL_AUTO_FALLBACK, 1)], by decide +kernel⟩,
   ⟨.engine 0, 2, 0xFFFFFFFF, tst [((Reg.CVU_STATUS_OVERRUN 2), 1)], by decide +kernel⟩,
   ⟨.engine 0, 2, 0, tst [((Reg.CVU_STATUS_OVERRUN 2), 1)], by decide +kernel⟩⟩

theorem test_meets_StoresOfEnginesStayInside :
    (∃ (c : Fin 4) (x : DmaRun) (s : State), (s.win.dma[c] = some x)) ∧
    (∃ (o : CryptoOp) (s : State), (s.ident.op = some o)) ∧
    (∃ (crc : Word) (i : Image) (f : Frame) (s : State), (s.image = some i) ∧ (s.ft.passA = some f)) ∧
    (∃ (missed : BitVec 12) (st : Stream) (s : State), (s.ft.stream = some st)) ∧
    (∃ (lacking : BitVec 12) (st : Stream) (s : State), (s.ft.stream = some st)) ∧
    (∃ (crc : Word) (st : Stream) (s : State), (s.ft.stream = some st)) ∧
    (∃ (pb : Bool) (addr : Nat) (st : Stream) (s : State), (s.ft.stream = some st)) ∧
    (∃ (p : Fin 12) (data : List Byte) (i : Image) (s : State), (s.image = some i)) :=
  ⟨⟨1, { src := 0x10000000, dst := 0x100030000, len := 192, own := 4 }, { tst [(Reg.MEMC_STATUS_STATE, 2), (Reg.WIN_CTRL_EN, 1), (Reg.WIN_CFG_COUNT, 4), (Reg.WIN_CFG_SIZE, 16), (Reg.WIN_BASE_HI_ADDR_HI, 1), ((Reg.WIN_ROLE_MASK 0), 255), ((Reg.WIN_OWN 3), 4)] with win := { dma := #v[none, some { src := 0x10000000, dst := 0x100030000, len := 192, own := 4 }, none, none] } }, by decide +kernel⟩,
   ⟨{ op := 1, addr := 0x10000100, len := 70 }, { tst [] with ident := { op := some { op := 1, addr := 0x10000100, len := 70 } } }, by decide +kernel⟩,
   ⟨0, tImage, {}, { withImage [] with ft := { passA := some {} } }, by decide +kernel⟩,
   ⟨0, { frame := { drv := { wb := true } } }, { withImage [(Reg.MEMC_STATUS_STATE, 2), (Reg.FT_STATUS_RUN, 1), (Reg.SA_DRV_WB_HI_ADDR_HI, 1)] with ft := { stream := some { frame := { drv := { wb := true } } }, slot := some 3 } }, by decide +kernel⟩,
   ⟨1, { frame := { drv := { wb := true } } }, { withImage [(Reg.MEMC_STATUS_STATE, 2), (Reg.FT_STATUS_RUN, 1), (Reg.SA_DRV_WB_HI_ADDR_HI, 1)] with ft := { stream := some { frame := { drv := { wb := true } } }, slot := some 3 } }, by decide +kernel⟩,
   ⟨1, { frame := { drv := { wb := true } } }, { withImage [(Reg.MEMC_STATUS_STATE, 2), (Reg.FT_STATUS_RUN, 1), (Reg.SA_DRV_WB_HI_ADDR_HI, 1)] with ft := { stream := some { frame := { drv := { wb := true } } }, slot := some 3 } }, by decide +kernel⟩,
   ⟨true, 0, { frame := { drv := { wb := true } } }, { withImage [(Reg.MEMC_STATUS_STATE, 2), (Reg.FT_STATUS_RUN, 1), (Reg.SA_DRV_WB_HI_ADDR_HI, 1)] with ft := { stream := some { frame := { drv := { wb := true } } }, slot := some 3 } }, by decide +kernel⟩,
   ⟨0, [], tImage, withImage [], by decide +kernel⟩⟩

theorem test_meets_CommitsWaitOrTakeEffect :
    (∃ (m : Master) (v : Word) (s : State), (s.accepts m 0x20080000) ∧ (v.toNat.testBit 1 = true) ∧ (s.on Reg.SA_CTRL_COMMIT = false) ∧ (s.on Reg.FT_STATUS_RUN = true) ∧ (s.ft.guard < s.ft.m + 2)) ∧
    (∃ (m : Master) (v : Word) (s : State), (s.accepts m 0x20090000) ∧ (v.toNat.testBit 1 = true) ∧ (s.on Reg.LAYER_CTRL_COMMIT = false) ∧ (s.on Reg.FT_STATUS_RUN = true) ∧ (s.ft.guard < s.ft.m + 2)) ∧
    (∃ (m : Master) (v : Word) (s : State), (s.accepts m 0x200A0000) ∧ (v.toNat.testBit 1 = true) ∧ (s.on Reg.FT_CTRL_COMMIT = false) ∧ (s.on Reg.FT_STATUS_RUN = true) ∧ (s.ft.guard < s.ft.m + 2)) ∧
    (∃ (m : Master) (v : Word) (s : State), (s.accepts m 0x200D0000) ∧ (v.toNat.testBit 1 = true) ∧ (s.on Reg.HLTH_CTRL_COMMIT = false) ∧ (s.on Reg.FT_STATUS_RUN = true) ∧ (s.ft.guard < s.ft.m + 2)) ∧
    (∃ (m : Master) (v : Word) (s : State), (s.accepts m 0x200E0000) ∧ (v.toNat.testBit 1 = true) ∧ (s.on Reg.LSC_CTRL_COMMIT = false) ∧ (s.on Reg.FT_STATUS_RUN = true) ∧ (s.ft.guard < s.ft.m + 2)) ∧
    (∃ (m : Master) (v : Word) (s : State), (s.accepts m 0x200F0000) ∧ (v.toNat.testBit 1 = true)) ∧
    (∃ (m : Master) (v : Word) (s : State), (s.accepts m 0x20080000) ∧ (v.toNat.testBit 1 = true) ∧ (s.on Reg.SA_CTRL_COMMIT = true)) ∧
    (∃ (m : Master) (v : Word) (s : State), (s.accepts m 0x20090000) ∧ (v.toNat.testBit 1 = true) ∧ (s.on Reg.LAYER_CTRL_COMMIT = true)) ∧
    (∃ (m : Master) (v : Word) (s : State), (s.accepts m 0x200F0000) ∧ (v.toNat.testBit 1 = true) ∧ (s.on Reg.THM_CTRL_COMMIT = true)) ∧
    (∃ (m : Master) (v : Word) (s : State), (s.accepts m 0x200A0000) ∧ (v.toNat.testBit 1 = true) ∧ (s.on Reg.FT_CTRL_COMMIT = true)) ∧
    (∃ (m : Master) (v : Word) (s : State), (s.accepts m 0x200D0000) ∧ (v.toNat.testBit 1 = true) ∧ (s.on Reg.HLTH_CTRL_COMMIT = true)) ∧
    (∃ (m : Master) (v : Word) (s : State), (s.accepts m 0x200E0000) ∧ (v.toNat.testBit 1 = true) ∧ (s.on Reg.LSC_CTRL_COMMIT = true)) ∧
    (∃ (m : Master) (v : Word) (s : State), (s.accepts m 0x20080000) ∧ (v.toNat.testBit 1 = true) ∧ (s.on Reg.SA_CTRL_COMMIT = false) ∧ (s.on Reg.FT_STATUS_RUN = false) ∧ (((s.stored m 0x20080000 v).wr Reg.SA_CTRL_COMMIT 1).ledBlock 1 = false) ∧ (s.sa.cap = none) ∧ (((s.stored m 0x20080000 v).wr Reg.SA_CTRL_COMMIT 1).saCode ≠ 0)) ∧
    (∃ (m : Master) (v : Word) (s : State) (k : Fin 8) (x : Nat), (s.accepts m 0x20090000) ∧ (v.toNat.testBit 1 = true) ∧ (s.on Reg.LAYER_CTRL_COMMIT = false) ∧ (s.on Reg.FT_STATUS_RUN = false) ∧ (((s.stored m 0x20090000 v).wr Reg.LAYER_CTRL_COMMIT 1).ledBlock 0 = false) ∧ (s.layer.plans = []) ∧ (((s.stored m 0x20090000 v).wr Reg.LAYER_CTRL_COMMIT 1).layerFault = some (k, x)) ∧ (x < 9)) ∧
    (∃ (m : Master) (v : Word) (s : State), (s.accepts m 0x200A0000) ∧ (v.toNat.testBit 1 = true) ∧ (s.on Reg.FT_CTRL_COMMIT = false) ∧ (s.on Reg.FT_STATUS_RUN = false) ∧ (((s.stored m 0x200A0000 v).wr Reg.FT_CTRL_COMMIT 1).ledBlock 2 = false) ∧ (s.ft.cap = none) ∧ (((s.stored m 0x200A0000 v).wr Reg.FT_CTRL_COMMIT 1).ftCode ≠ 0)) ∧
    (∃ (m : Master) (v : Word) (s : State), (s.accepts m 0x200D0000) ∧ (v.toNat.testBit 1 = true) ∧ (s.on Reg.HLTH_CTRL_COMMIT = false) ∧ (s.on Reg.FT_STATUS_RUN = false) ∧ (((s.stored m 0x200D0000 v).wr Reg.HLTH_CTRL_COMMIT 1).ledBlock 3 = false) ∧ (s.hlth.cap = none) ∧ (((s.stored m 0x200D0000 v).wr Reg.HLTH_CTRL_COMMIT 1).hlthCode ≠ 0)) ∧
    (∃ (m : Master) (v : Word) (s : State), (s.accepts m 0x200E0000) ∧ (v.toNat.testBit 1 = true) ∧ (s.on Reg.LSC_CTRL_COMMIT = false) ∧ (s.on Reg.FT_STATUS_RUN = false) ∧ (((s.stored m 0x200E0000 v).wr Reg.LSC_CTRL_COMMIT 1).ledBlock 4 = false) ∧ (s.lsc.cap = none) ∧ (((s.stored m 0x200E0000 v).wr Reg.LSC_CTRL_COMMIT 1).lscCode ≠ 0)) ∧
    (∃ (s : State), (s.on Reg.FT_STATUS_RUN = true) ∧ (s.ft.guard < s.ft.m + 2) ∧ (s.on Reg.SA_CTRL_COMMIT = true) ∧ (s.sa.cap = none) ∧ (s.saCode ≠ 0) ∧ (s.ledBlock 1 = false) ∧ (s.on Reg.LAYER_CTRL_COMMIT = false) ∧ ((List.range 8).any s.armed = false)) ∧
    (∃ (m : Master) (v : Word) (s : State), (s.accepts m 0x200A0000) ∧ (v.toNat.testBit 1 = true) ∧ (s.on Reg.FT_CTRL_COMMIT = false) ∧ (s.on Reg.FT_STATUS_RUN = false) ∧ (((s.stored m 0x200A0000 v).wr Reg.FT_CTRL_COMMIT 1).ledBlock 2 = false) ∧ (s.ft.cap = none) ∧ (((s.stored m 0x200A0000 v).wr Reg.FT_CTRL_COMMIT 1).ftCode = 0)) ∧
    (∃ (m : Master) (v : Word) (s : State), (s.accepts m 0x200D0000) ∧ (v.toNat.testBit 1 = true) ∧ (s.on Reg.HLTH_CTRL_COMMIT = false) ∧ (s.on Reg.FT_STATUS_RUN = false) ∧ (((s.stored m 0x200D0000 v).wr Reg.HLTH_CTRL_COMMIT 1).ledBlock 3 = false) ∧ (s.hlth.cap = none) ∧ (((s.stored m 0x200D0000 v).wr Reg.HLTH_CTRL_COMMIT 1).hlthCode = 0)) ∧
    (∃ (m : Master) (v : Word) (s : State), (s.accepts m 0x200E0000) ∧ (v.toNat.testBit 1 = true) ∧ (s.on Reg.LSC_CTRL_COMMIT = false) ∧ (s.on Reg.FT_STATUS_RUN = false) ∧ (((s.stored m 0x200E0000 v).wr Reg.LSC_CTRL_COMMIT 1).ledBlock 4 = false) ∧ (s.lsc.cap = none) ∧ (((s.stored m 0x200E0000 v).wr Reg.LSC_CTRL_COMMIT 1).lscCode = 0)) ∧
    (∃ (m : Master) (v : Word) (s : State), (s.accepts m 0x20090000) ∧ (v.toNat.testBit 1 = true) ∧ (s.on Reg.LAYER_CTRL_COMMIT = false) ∧ (s.on Reg.FT_STATUS_RUN = false) ∧ (((s.stored m 0x20090000 v).queueChecks.wr Reg.LAYER_CTRL_COMMIT 1).ledBlock 0 = false) ∧ (s.layer.plans = []) ∧ (((s.stored m 0x20090000 v).queueChecks.wr Reg.LAYER_CTRL_COMMIT 1).layerFault = none)) ∧
    (∃ (m : Master) (v : Word) (k : Fin 8) (s : State), (s.accepts m 0x20090000) ∧ (v.toNat.testBit 1 = true) ∧ (s.on Reg.LAYER_CTRL_COMMIT = false) ∧ (s.on Reg.FT_STATUS_RUN = false) ∧ (((s.stored m 0x20090000 v).queueChecks.wr Reg.LAYER_CTRL_COMMIT 1).ledBlock 0 = false) ∧ (s.layer.plans = []) ∧ (((s.stored m 0x20090000 v).queueChecks.wr Reg.LAYER_CTRL_COMMIT 1).layerFault = none) ∧ (((s.stored m 0x20090000 v).queueChecks.wr Reg.LAYER_CTRL_COMMIT 1).layerChanged k = true) ∧ (((s.stored m 0x20090000 v).queueChecks.wr Reg.LAYER_CTRL_COMMIT 1).layerReady k = true) ∧ (((s.stored m 0x20090000 v).queueChecks.wr Reg.LAYER_CTRL_COMMIT 1).rd (Reg.LAYER_L_CTRL_FLIP_GROUP k) = 0)) ∧
    (∃ (s : State) (c : Captured), (s.hlth.cap = some c) ∧ (c.now = true)) ∧
    (∃ (s : State) (c : Captured), (s.lsc.cap = some c) ∧ (c.now = true)) ∧
    (∃ (s : State) (c : Captured), (s.ft.cap = some c) ∧ (c.now = true) ∧ (s.on Reg.FT_STATUS_RUN = false)) ∧
    (∃ (s : State) (c : Captured), (s.sa.cap = some c) ∧ (c.now = true)) ∧
    (∃ (s : State) (p : LayerPlan), (s.layer.plans = [p]) ∧ (p.now = true) ∧ (p.commit = true)) ∧
    (∃ (s : State), (isNow s.sa.cap = false)) ∧
    (∃ (s : State), (isNow s.ft.cap = false)) ∧
    (∃ (s : State), (isNow s.hlth.cap = false)) ∧
    (∃ (s : State), (isNow s.lsc.cap = false)) ∧
    (∃ (s : State), (∀ p ∈ s.layer.plans, p.now = false)) :=
  ⟨⟨.engine 0, 2, tst [(Reg.FT_STATUS_RUN, 1)], by decide +kernel⟩,
   ⟨.engine 0, 2, tst [(Reg.FT_STATUS_RUN, 1)], by decide +kernel⟩,
   ⟨.engine 0, 2, tst [(Reg.FT_STATUS_RUN, 1)], by decide +kernel⟩,
   ⟨.engine 0, 2, tst [(Reg.FT_STATUS_RUN, 1)], by decide +kernel⟩,
   ⟨.engine 0, 2, tst [(Reg.FT_STATUS_RUN, 1)], by decide +kernel⟩,
   ⟨.engine 0, 2, tst [], by decide +kernel⟩,
   ⟨.engine 0, 2, tst [(Reg.SA_CTRL_COMMIT, 1)], by decide +kernel⟩,
   ⟨.engine 0, 2, tst [(Reg.LAYER_CTRL_COMMIT, 1)], by decide +kernel⟩,
   ⟨.engine 0, 2, tst [(Reg.THM_CTRL_COMMIT, 1)], by decide +kernel⟩,
   ⟨.engine 0, 2, tst [(Reg.FT_CTRL_COMMIT, 1)], by decide +kernel⟩,
   ⟨.engine 0, 2, tst [(Reg.HLTH_CTRL_COMMIT, 1)], by decide +kernel⟩,
   ⟨.engine 0, 2, tst [(Reg.LSC_CTRL_COMMIT, 1)], by decide +kernel⟩,
   ⟨.engine 0, 2, tst [(Reg.SA_DRV_CTRL_TAP_SEL, 3)], by decide +kernel⟩,
   ⟨.engine 0, 2, tst [((Reg.LAYER_L_CTRL_ENABLE 2), 1), ((Reg.LAYER_L_CTRL_BLEND 2), 7)], 2, 1, by decide +kernel⟩,
   ⟨.engine 0, 2, tst [(Reg.FT_BASE_NS_NS, 1073741823)], by decide +kernel⟩,
   ⟨.engine 0, 2, tst [(Reg.HLTH_SCAN_MEAS_Z, 0)], by decide +kernel⟩,
   ⟨.engine 0, 2, tst [(Reg.LSC_VRANGE_VMIN, 3)], by decide +kernel⟩,
   ⟨tst [(Reg.FT_STATUS_RUN, 1), (Reg.SA_CTRL_COMMIT, 1), (Reg.SA_DRV_CTRL_TAP_SEL, 3)], by decide +kernel⟩,
   ⟨.engine 0, 2, tst [], by decide +kernel⟩,
   ⟨.engine 0, 2, tst [], by decide +kernel⟩,
   ⟨.engine 0, 2, tst [], by decide +kernel⟩,
   ⟨.engine 0, 2, tst [], by decide +kernel⟩,
   ⟨.engine 0, 2, 2, tst [((Reg.LAYER_L_CTRL_BLEND 2), 1)], by decide +kernel⟩,
   ⟨{ tst [] with hlth := { cap := some { now := true } } }, { now := true }, by decide +kernel⟩,
   ⟨{ tst [] with lsc := { cap := some { now := true } } }, { now := true }, by decide +kernel⟩,
   ⟨{ tst [] with ft := { cap := some { now := true } } }, { now := true }, by decide +kernel⟩,
   ⟨{ tst [] with sa := { cap := some { now := true } } }, { now := true }, by decide +kernel⟩,
   ⟨{ tst [] with layer := { plans := [{ now := true, commit := true, sets := [(2, [(Reg.LAYER_L_CTRL_BLEND 2, 3)])] }] } }, { now := true, commit := true, sets := [(2, [(Reg.LAYER_L_CTRL_BLEND 2, 3)])] }, by decide +kernel⟩,
   ⟨tst [], by decide +kernel⟩,
   ⟨tst [], by decide +kernel⟩,
   ⟨tst [], by decide +kernel⟩,
   ⟨tst [], by decide +kernel⟩,
   ⟨{ tst [] with layer := { plans := [{}] } }, by decide +kernel⟩⟩

theorem test_meets_SaEnableAndCellDiagnostics :
    (∃ (m : Master) (v : Word) (s : State), (s.accepts m 0x20080000) ∧ (v.toNat.testBit 0 = true) ∧ (s.on Reg.SA_CTRL_EN = false) ∧ ((s.stored m 0x20080000 v).image.map (s.stored m 0x20080000 v).fencedIn = some false) ∧ ((s.stored m 0x20080000 v).dramOutside (s.rd Reg.SA_DRV_DD_HI_ADDR_HI <<< 32 ||| s.rd Reg.SA_DRV_DD_LO_ADDR <<< 20) (2 * (s.stored m 0x20080000 v).ddNeed) = true)) ∧
    (∃ (m : Master) (v : Word) (s : State), (s.accepts m 0x20080000) ∧ (v.toNat.testBit 0 = true) ∧ (s.on Reg.SA_CTRL_EN = false) ∧ ((s.stored m 0x20080000 v).image.map (s.stored m 0x20080000 v).fencedIn = some true)) ∧
    (∃ (m : Master) (v : Word) (s : State), (s.accepts m 0x20080000) ∧ (v.toNat.testBit 0 = true) ∧ (s.on Reg.SA_CTRL_EN = false) ∧ ((s.stored m 0x20080000 v).dramOutside (s.rd Reg.SA_DRV_DD_HI_ADDR_HI <<< 32 ||| s.rd Reg.SA_DRV_DD_LO_ADDR <<< 20) (2 * (s.stored m 0x20080000 v).ddNeed) = false)) ∧
    (∃ (m : Master) (v : Word) (s : State), (s.accepts m 0x20080000) ∧ (v.toNat.testBit 0 = true) ∧ (s.on Reg.SA_CTRL_EN = true)) ∧
    (∃ (m : Master) (v : Word) (s : State), (s.accepts m 0x20080000) ∧ (v.toNat.testBit 0 = false) ∧ (s.on Reg.SA_CTRL_EN = true) ∧ (s.on Reg.FT_CTRL_EN = false) ∧ (s.on Reg.FT_STATUS_RUN = false)) ∧
    (∃ (m : Master) (v : Word) (s : State), (s.accepts m 0x20080000) ∧ (v.toNat.testBit 0 = false) ∧ (s.on Reg.SA_CTRL_EN = true) ∧ (s.on Reg.FT_CTRL_EN = true ∨ s.on Reg.FT_STATUS_RUN = true)) ∧
    (∃ (m : Master) (v : Word) (s : State), (s.accepts m 0x20080040) ∧ (v.toNat.testBit 8 = true) ∧ (s.sa.diag.isSome = false) ∧ (s.on Reg.SA_CTRL_EN = false)) ∧
    (∃ (m : Master) (v : Word) (s : State) (i : Image), (s.accepts m 0x20080040) ∧ (v.toNat.testBit 8 = true) ∧ (s.sa.diag.isSome = false) ∧ (s.on Reg.SA_CTRL_EN = true) ∧ (s.image = some i) ∧ (i.cellMask.testBit ((s.stored m 0x20080040 v).rd Reg.SA_DIAG_CTRL_CELL) = false)) ∧
    (∃ (m : Master) (v : Word) (s : State) (i : Image), (s.accepts m 0x20080040) ∧ (v.toNat.testBit 8 = true) ∧ (s.sa.diag.isSome = false) ∧ (s.on Reg.SA_CTRL_EN = true) ∧ (s.image = some i) ∧ (i.cellMask.testBit ((s.stored m 0x20080040 v).rd Reg.SA_DIAG_CTRL_CELL) = true)) ∧
    (∃ (s : State) (d : Nat × Bool), (s.sa.diag = some d)) ∧
    (∃ (u : Fin 8) (s : State) (d : Nat × Bool), (s.sa.diag = some d)) ∧
    (∃ (m : Master) (k : Fin 4) (v : Word) (i : Fin 32) (s : State), (s.accepts m (0x20080050 + 4 * k)) ∧ (v.toNat.testBit i = true)) ∧
    (∃ (m : Master) (k : Fin 4) (v : Word) (i : Fin 32) (s : State), (s.accepts m (0x20080050 + 4 * k)) ∧ (v.toNat.testBit i = false)) :=
  ⟨⟨.engine 0, 1, withImage [(Reg.SA_DRV_DD_HI_ADDR_HI, 1)], by decide +kernel⟩,
   ⟨.engine 0, 1, withImage [(Reg.SA_FENCE 0, 1)], by decide +kernel⟩,
   ⟨.engine 0, 1, tst [], by decide +kernel⟩,
   ⟨.engine 0, 1, tst [(Reg.SA_CTRL_EN, 1)], by decide +kernel⟩,
   ⟨.engine 0, 0, tst [(Reg.SA_CTRL_EN, 1)], by decide +kernel⟩,
   ⟨.engine 0, 0, tst [(Reg.SA_CTRL_EN, 1), (Reg.FT_STATUS_RUN, 1)], by decide +kernel⟩,
   ⟨.engine 0, 0x100, tst [], by decide +kernel⟩,
   ⟨.engine 0, 0x17F, withImage [(Reg.SA_CTRL_EN, 1)], tImage, by decide +kernel⟩,
   ⟨.engine 0, 0x100, withImage [(Reg.SA_CTRL_EN, 1)], tImage, by decide +kernel⟩,
   ⟨{ tst [] with sa := { diag := some (3, true) } }, (3, true), by decide +kernel⟩,
   ⟨7, { tst [] with sa := { diag := some (3, true) } }, (3, true), by decide +kernel⟩,
   ⟨.engine 0, 3, 0x80000000, 31, tst [], by decide +kernel⟩,
   ⟨.engine 0, 3, 0x80000000, 30, tst [], by decide +kernel⟩⟩

theorem test_meets_SaLoadRunsToItsEnd :
    (∃ (m : Master) (v : Word) (s : State), (s.accepts m 0x20080018) ∧ (v.toNat.testBit 0 = true) ∧ (s.on Reg.SA_LOAD_STATUS_BUSY = false) ∧ ((((s.stored m 0x20080018 v).wr Reg.SA_LOAD_STATUS_DONE 0).wr Reg.SA_LOAD_STATUS_ERR 0).loadBarred ((s.stored m 0x20080018 v).rd Reg.SA_LOAD_CTRL_BANK) = false)) ∧
    (∃ (m : Master) (v : Word) (s : State), (s.accepts m 0x20080018) ∧ (v.toNat.testBit 0 = true) ∧ (s.on Reg.SA_LOAD_STATUS_BUSY = false) ∧ ((((s.stored m 0x20080018 v).wr Reg.SA_LOAD_STATUS_DONE 0).wr Reg.SA_LOAD_STATUS_ERR 0).loadBarred ((s.stored m 0x20080018 v).rd Reg.SA_LOAD_CTRL_BANK) = true)) ∧
    (∃ (m : Master) (v : Word) (s : State), (s.accepts m 0x20080018) ∧ (v.toNat.testBit 0 = true) ∧ (s.on Reg.SA_LOAD_STATUS_BUSY = true)) ∧
    (∃ (m : Master) (v : Word) (s : State) (l : Load), (s.accepts m 0x20080018) ∧ (v.toNat.testBit 2 = true) ∧ (s.sa.load = some l)) ∧
    (∃ (e : Option Nat) (s : State) (l : Load), (s.sa.load = some l)) :=
  ⟨⟨.engine 0, 1, tst [], by decide +kernel⟩,
   ⟨.engine 0, 1, withImage [], by decide +kernel⟩,
   ⟨.engine 0, 1, tst [(Reg.SA_LOAD_STATUS_BUSY, 1)], by decide +kernel⟩,
   ⟨.engine 0, 4, { tst [] with sa := { load := some {} } }, {}, by decide +kernel⟩,
   ⟨none, { tst [] with sa := { load := some {} } }, {}, by decide +kernel⟩⟩

theorem test_meets_LayerFetchAndChecks :
    (∃ (m : Master) (v : Word) (s : State), (s.accepts m 0x20090000) ∧ (v.toNat.testBit 0 = true)) ∧
    (∃ (m : Master) (v : Word) (s : State), (s.accepts m 0x20090000) ∧ (v.toNat.testBit 0 = false) ∧ (s.on Reg.FT_CTRL_EN = false) ∧ (s.on Reg.FT_STATUS_RUN = false)) ∧
    (∃ (m : Master) (v : Word) (s : State), (s.accepts m 0x20090000) ∧ (v.toNat.testBit 0 = false) ∧ (s.on Reg.LAYER_CTRL_EN = true) ∧ (s.on Reg.FT_CTRL_EN = true ∨ s.on Reg.FT_STATUS_RUN = true)) ∧
    (∃ (l : Fin 8) (a : Nat) (s : State) (f : Frame), (s.ft.passA = some f) ∧ (f.done = none)) ∧
    (∃ (l : Fin 8) (a : Nat) (s : State), (s.ft.passA = none)) ∧
    (∃ (s : State) (n : Nat), (s.layer.retire = [n]) ∧ (s.sa.retireNow = []) ∧ (n < 1024) ∧ (s.slotOwner n = 4) ∧ (s.referenced n = false) ∧ (s.win.retire = []) ∧ (s.on Reg.FT_STATUS_RUN = true)) ∧
    (∃ (a : Nat) (s : State) (st : Stream), (s.ft.stream = some st) ∧ (st.aborted = false)) ∧
    (∃ (a : Nat) (s : State) (f : Frame), (s.ft.passA = some f) ∧ (f.done = none)) ∧
    (∃ (a : Nat) (s : State), (s.ft.passA = none)) ∧
    (∃ (a : Nat) (s : State), (s.ft.stream = none)) ∧
    (∃ (s : State) (w : Walk), (s.layer.walk = none) ∧ (s.nextWalk = some w)) ∧
    (∃ (s : State) (w : Walk), (s.layer.walk = some w)) ∧
    (∃ (e : Option SpanFault) (s : State) (w : Walk) (i : Image) (k : Fin 8), (s.layer.walk = some w) ∧ (w.layer = k) ∧ (w.live = false) ∧ (s.dropWalk.image = some i) ∧ (i.composes k = true) ∧ ((s.dropWalk.walkLayer i k false e).fail = none) ∧ (s.on Reg.FT_STATUS_RUN = true)) ∧
    (∃ (e : Option SpanFault) (s : State) (w : Walk) (i : Image) (k : Fin 8) (f : Nat × Nat × Nat), (s.layer.walk = some w) ∧ (w.layer = k) ∧ (w.live = false) ∧ (s.dropWalk.image = some i) ∧ (i.composes k = true) ∧ ((s.dropWalk.walkLayer i k false e).fail = some f) ∧ (f.1 < 8) ∧ (s.on Reg.FT_STATUS_RUN = true)) ∧
    (∃ (l : Fin 8) (n : Nat) (s : State) (f : Frame), (s.ft.passA = some f) ∧ (n ≠ 0) ∧ (s.layer.clamped[l] = false)) ∧
    (∃ (l : Fin 8) (n : Nat) (s : State) (f : Frame), (s.ft.passA = some f) ∧ (n ≠ 0) ∧ (s.layer.clamped[l] = true)) :=
  ⟨⟨.engine 0, 1, tst [], by decide +kernel⟩,
   ⟨.engine 0, 0, tst [(Reg.LAYER_CTRL_EN, 1)], by decide +kernel⟩,
   ⟨.engine 0, 0, tst [(Reg.LAYER_CTRL_EN, 1), (Reg.FT_CTRL_EN, 1)], by decide +kernel⟩,
   ⟨3, 0x100000000, { tst [] with ft := { passA := some {} } }, {}, by decide +kernel⟩,
   ⟨3, 0, tst [], by decide +kernel⟩,
   ⟨{ tst [((Reg.WIN_OWN 5), 4), (Reg.FT_STATUS_RUN, 1)] with layer := { retire := [5] } }, 5, by decide +kernel⟩,
   ⟨0, { tst [] with ft := { stream := some {} } }, {}, by decide +kernel⟩,
   ⟨0, { tst [] with ft := { passA := some {} } }, {}, by decide +kernel⟩,
   ⟨0, tst [], by decide +kernel⟩,
   ⟨0, tst [], by decide +kernel⟩,
   ⟨{ tst [((Reg.LAYER_L_MESH_LO_ADDR 0), 4194304)] with layer := { queued := .replicate 8 true } }, { layer := 0 }, by decide +kernel⟩,
   ⟨{ tst [] with layer := { walk := some { layer := 2, live := false } } }, { layer := 2, live := false }, by decide +kernel⟩,
   ⟨none, { withImageOf { tImage with portMap := [] } [(Reg.FT_STATUS_RUN, 1)] with layer := { walk := some { layer := 2 } } }, { layer := 2 }, { tImage with portMap := [] }, 2, by decide +kernel⟩,
   ⟨none, { withImage [(Reg.FT_STATUS_RUN, 1)] with layer := { walk := some { layer := 2 } } }, { layer := 2 }, tImage, 2, (5, 0, 0), by decide +kernel⟩,
   ⟨1, 4, { tst [] with ft := { passA := some {} } }, {}, by decide +kernel⟩,
   ⟨1, 4, { tst [] with ft := { passA := some {} }, layer := { clamped := .replicate 8 true } }, {}, by decide +kernel⟩⟩

theorem test_meets_MaskInputPackets :
    (∃ (m : Master) (v : Word) (s : State), (s.accepts m 0x20180000) ∧ (v.toNat.testBit 0 = true) ∧ (s.on Reg.MASKIN_CTRL_EN = false)) ∧
    (∃ (m : Master) (v : Word) (s : State), (s.accepts m 0x20180000) ∧ (v.toNat.testBit 0 = false) ∧ (s.on Reg.MASKIN_CTRL_EN = true) ∧ ((s.stored m 0x20180000 v).maskUsed = false)) ∧
    (∃ (m : Master) (v : Word) (s : State), (s.accepts m 0x20180000) ∧ (v.toNat.testBit 0 = false) ∧ (s.on Reg.MASKIN_CTRL_EN = true) ∧ ((s.stored m 0x20180000 v).maskUsed = true)) ∧
    (∃ (h : Word) (wc : Nat) (s : State), (s.csiOn = true) ∧ (csiHeader h = some (0, 0, wc)) ∧ (s.on Reg.MASKIN_STATUS_IN_FRAME = false)) ∧
    (∃ (h : Word) (wc : Nat) (s : State), (s.csiOn = true) ∧ (csiHeader h = some (0, 0, wc)) ∧ (s.on Reg.MASKIN_STATUS_IN_FRAME = true)) ∧
    (∃ (h : Word) (vc wc : Nat) (s : State), (s.csiOn = true) ∧ (csiHeader h = some (vc, 0, wc)) ∧ (vc ≠ 0)) ∧
    (∃ (h : Word) (vc wc : Nat) (s : State), (s.csiOn = true) ∧ (csiHeader h = some (vc, 1, wc)) ∧ (vc ≠ 0)) ∧
    (∃ (h : Word) (wc : Nat) (s : State), (s.csiOn = true) ∧ (csiHeader h = some (0, 1, wc)) ∧ (s.on Reg.MASKIN_STATUS_IN_FRAME = true) ∧ (s.maskin.bad = false) ∧ (¬ s.maskin.lines < s.rd Reg.MASKIN_SIZE_HEIGHT)) ∧
    (∃ (h : Word) (wc : Nat) (s : State), (s.csiOn = true) ∧ (csiHeader h = some (0, 1, wc)) ∧ (s.on Reg.MASKIN_STATUS_IN_FRAME = true) ∧ (s.maskin.bad = true)) ∧
    (∃ (h : Word) (wc : Nat) (s : State), (s.csiOn = true) ∧ (csiHeader h = some (0, 1, wc)) ∧ (s.on Reg.MASKIN_STATUS_IN_FRAME = true) ∧ (s.maskin.lines < s.rd Reg.MASKIN_SIZE_HEIGHT)) ∧
    (∃ (h : Word) (wc : Nat) (s : State), (s.csiOn = true) ∧ (csiHeader h = some (0, 1, wc)) ∧ (s.on Reg.MASKIN_STATUS_IN_FRAME = false)) ∧
    (∃ (s : State) (b : Nat), (s.maskin.ended = some b)) ∧
    (∃ (c : List (Fin 4096)) (a : Int) (s : State), (s.on Reg.FT_STATUS_RUN = true) ∧ (s.ft.fixed = some a) ∧ (s.ft.clear = false) ∧ (s.sa.stopWait = false) ∧ (s.sa.fallback = none) ∧ (s.on Reg.MASKIN_CTRL_EN = true) ∧ (s.maskin.complete = none) ∧ (s.maskin.taken = true) ∧ (s.rd Reg.MASKIN_HOLD_MASK_HOLD ≤ s.rd Reg.MASKIN_STATUS_HOLD_CNT) ∧ (s.rd Reg.MASKIN_HOLD_MASK_HOLD < 255) ∧ (s.on Reg.MASKIN_STATUS_SAFE_ACTIVE = false)) ∧
    (∃ (c : List (Fin 4096)) (a : Int) (b : Nat) (s : State), (s.on Reg.FT_STATUS_RUN = true) ∧ (s.ft.fixed = some a) ∧ (s.ft.clear = false) ∧ (s.sa.stopWait = false) ∧ (s.sa.fallback = none) ∧ (s.on Reg.MASKIN_CTRL_EN = true) ∧ (s.maskin.complete = some b) ∧ (b < 3) ∧ (s.maskin.completeAt < s.ftT s.ft.m - 4000) ∧ (s.on Reg.MASKIN_STATUS_SAFE_ACTIVE = true)) ∧
    (∃ (s : State), (s.on Reg.MASKIN_CTRL_EN = true) ∧ (s.on Reg.MASKIN_STATUS_IN_FRAME = true)) ∧
    (∃ (h : Word) (vc dt wc : Nat) (d : List Byte) (c : BitVec 16) (s : State), (s.csiOn = true) ∧ (csiHeader h = some (vc, dt, wc)) ∧ (vc = 0) ∧ (s.maskType dt = true) ∧ (s.on Reg.MASKIN_STATUS_IN_FRAME = true) ∧ (csiCrc (d.take wc) = c.toNat)) ∧
    (∃ (h : Word) (vc dt wc : Nat) (d : List Byte) (c : BitVec 16) (s : State), (s.csiOn = true) ∧ (csiHeader h = some (vc, dt, wc)) ∧ (vc = 0) ∧ (s.maskType dt = true) ∧ (s.on Reg.MASKIN_STATUS_IN_FRAME = true) ∧ (csiCrc (d.take wc) ≠ c.toNat)) ∧
    (∃ (h : Word) (vc dt wc : Nat) (d : List Byte) (c : BitVec 16) (s : State), (s.csiOn = true) ∧ (csiHeader h = some (vc, dt, wc)) ∧ (vc = 0) ∧ (s.maskType dt = true) ∧ (s.on Reg.MASKIN_STATUS_IN_FRAME = false)) ∧
    (∃ (h : Word) (vc dt wc : Nat) (d : List Byte) (c : BitVec 16) (s : State), (s.csiOn = true) ∧ (csiHeader h = some (vc, dt, wc)) ∧ (vc = 0) ∧ (16 ≤ dt) ∧ (s.maskType dt = false)) ∧
    (∃ (h : Word) (vc dt wc : Nat) (d : List Byte) (c : BitVec 16) (s : State), (s.csiOn = true) ∧ (csiHeader h = some (vc, dt, wc)) ∧ (vc ≠ 0)) ∧
    (∃ (h : Word) (vc dt wc : Nat) (s : State), (s.csiOn = true) ∧ (csiHeader h = some (vc, dt, wc)) ∧ ((2 ≤ dt ∧ dt ≤ 3) ∨ (8 ≤ dt ∧ dt ≤ 15))) ∧
    (∃ (h : Word) (dt wc : Nat) (s : State), (s.csiOn = true) ∧ (csiHeader h = some (0, dt, wc)) ∧ (4 ≤ dt ∧ dt ≤ 7)) ∧
    (∃ (h : Word) (s : State), (s.csiOn = true) ∧ (csiHeader h = none) ∧ (s.on Reg.MASKIN_STATUS_IN_FRAME = true)) ∧
    (∃ (s : State), (s.csiOn = true) ∧ (s.on Reg.MASKIN_STATUS_IN_FRAME = true)) ∧
    (∃ (h : Word) (vc dt wc : Nat) (s : State), (s.csiOn = true) ∧ (csiHeader h = some (vc, dt, wc)) ∧ (16 ≤ dt) ∧ (vc ≠ 0 ∨ s.maskType dt = false)) ∧
    (∃ (h : Word) (d : List Byte) (c : BitVec 16) (s : State), (s.csiOn = false)) ∧
    (∃ (h : Word) (s : State), (s.csiOn = false)) ∧
    (∃ (h : Word) (s : State), (s.csiOn = false)) :=
  ⟨⟨.engine 0, 1, tst [], by decide +kernel⟩,
   ⟨.engine 0, 0, tst [(Reg.MASKIN_CTRL_EN, 1)], by decide +kernel⟩,
   ⟨.engine 0, 0, (tst [(Reg.MASKIN_CTRL_EN, 1)]).wl (Reg.LAYER_L_CTRL_SRC 3) 1, by decide +kernel⟩,
   ⟨0x25000700, 7, tst [(Reg.MASKIN_CTRL_EN, 1)], by decide +kernel⟩,
   ⟨0x25000700, 7, tst [(Reg.MASKIN_CTRL_EN, 1), (Reg.MASKIN_STATUS_IN_FRAME, 1)], by decide +kernel⟩,
   ⟨0x3c000780, 2, 7, tst [(Reg.MASKIN_CTRL_EN, 1)], by decide +kernel⟩,
   ⟨0x3b000781, 2, 7, tst [(Reg.MASKIN_CTRL_EN, 1)], by decide +kernel⟩,
   ⟨0x22000701, 7, { tst [(Reg.MASKIN_CTRL_EN, 1), (Reg.MASKIN_STATUS_IN_FRAME, 1)] with maskin := { lines := 4095 } }, by decide +kernel⟩,
   ⟨0x22000701, 7, { tst [(Reg.MASKIN_CTRL_EN, 1), (Reg.MASKIN_STATUS_IN_FRAME, 1)] with maskin := { bad := true } }, by decide +kernel⟩,
   ⟨0x22000701, 7, { tst [(Reg.MASKIN_CTRL_EN, 1), (Reg.MASKIN_STATUS_IN_FRAME, 1), (Reg.MASKIN_SIZE_HEIGHT, 9)] with maskin := { lines := 5 } }, by decide +kernel⟩,
   ⟨0x22000701, 7, tst [(Reg.MASKIN_CTRL_EN, 1)], by decide +kernel⟩,
   ⟨{ tst [(Reg.MASKIN_CTRL_EN, 1)] with maskin := { ended := some 1 } }, 1, by decide +kernel⟩,
   ⟨[], 5, { tst [(Reg.MASKIN_CTRL_EN, 1), (Reg.FT_STATUS_RUN, 1), (Reg.MASKIN_HOLD_MASK_HOLD, 1), (Reg.MASKIN_STATUS_HOLD_CNT, 2)] with ft := { fixed := some 5 }, maskin := { taken := true } }, by decide +kernel⟩,
   ⟨[], 5, 1, { tst [(Reg.MASKIN_CTRL_EN, 1), (Reg.FT_STATUS_RUN, 1), (Reg.MASKIN_STATUS_SAFE_ACTIVE, 1)] with ft := { fixed := some 5 }, maskin := { complete := some 1, completeAt := -9000 } }, by decide +kernel⟩,
   ⟨tst [(Reg.MASKIN_CTRL_EN, 1), (Reg.MASKIN_STATUS_IN_FRAME, 1)], by decide +kernel⟩,
   ⟨0x3300042a, 0, 0x2A, 4, [], 0xFFFF, tst [(Reg.MASKIN_CTRL_EN, 1), (Reg.MASKIN_STATUS_IN_FRAME, 1)], by decide +kernel⟩,
   ⟨0x3300042a, 0, 0x2A, 4, [], 5, tst [(Reg.MASKIN_CTRL_EN, 1), (Reg.MASKIN_STATUS_IN_FRAME, 1)], by decide +kernel⟩,
   ⟨0x3300042a, 0, 0x2A, 4, [], 0, tst [(Reg.MASKIN_CTRL_EN, 1)], by decide +kernel⟩,
   ⟨0x3b000412, 0, 0x12, 4, [], 0, tst [(Reg.MASKIN_CTRL_EN, 1)], by decide +kernel⟩,
   ⟨0x3c0004ea, 3, 0x2A, 4, [], 0, tst [(Reg.MASKIN_CTRL_EN, 1)], by decide +kernel⟩,
   ⟨0x38000742, 1, 0x2, 7, tst [(Reg.MASKIN_CTRL_EN, 1)], by decide +kernel⟩,
   ⟨0x2f000705, 5, 7, tst [(Reg.MASKIN_CTRL_EN, 1)], by decide +kernel⟩,
   ⟨0x2f000405, tst [(Reg.MASKIN_CTRL_EN, 1), (Reg.MASKIN_STATUS_IN_FRAME, 1)], by decide +kernel⟩,
   ⟨tst [(Reg.MASKIN_CTRL_EN, 1), (Reg.MASKIN_STATUS_IN_FRAME, 1)], by decide +kernel⟩,
   ⟨0x2b000752, 1, 0x12, 7, tst [(Reg.MASKIN_CTRL_EN, 1)], by decide +kernel⟩,
   ⟨0x3300042a, [], 0, tst [], by decide +kernel⟩,
   ⟨0x23000400, tst [], by decide +kernel⟩,
   ⟨0x24000401, tst [], by decide +kernel⟩⟩

theorem test_meets_FrameTimingStartsAndStops :
    (∃ (m : Master) (v : Word) (s : State) (i : Image), (s.accepts m 0x200A0000) ∧ (v.toNat.testBit 0 = true) ∧ (s.ft.clear = false) ∧ (s.on Reg.FT_CTRL_EN = false) ∧ (s.on Reg.SA_CTRL_EN = true) ∧ ((s.stored m 0x200A0000 v).image = some i) ∧ ((s.stored m 0x200A0000 v).ftRunning = true) ∧ ((s.stored m 0x200A0000 v).baseNear ((s.stored m 0x200A0000 v).ftBase true) = true)) ∧
    (∃ (m : Master) (v : Word) (s : State), (s.accepts m 0x200A0000) ∧ (v.toNat.testBit 0 = true) ∧ (s.ft.clear = false) ∧ (s.on Reg.FT_CTRL_EN = false) ∧ ((s.on Reg.SA_CTRL_EN = false ∨ (s.stored m 0x200A0000 v).image = none ∨ (s.stored m 0x200A0000 v).ftRunning = false ∨ (s.stored m 0x200A0000 v).baseNear ((s.stored m 0x200A0000 v).ftBase true) = false))) ∧
    (∃ (m : Master) (v : Word) (s : State), (s.accepts m 0x200A0000) ∧ (v.toNat.testBit 0 = true) ∧ (s.ft.clear = true)) ∧
    (∃ (m : Master) (v : Word) (s : State), (s.accepts m 0x200A0000) ∧ (v.toNat.testBit 0 = false) ∧ (s.on Reg.FT_CTRL_EN = true)) ∧
    (∃ (c : List (Fin 4096)) (a : Int) (s : State), (s.on Reg.FT_STATUS_RUN = true) ∧ (s.ft.fixed = some a) ∧ (s.ft.clear = true)) ∧
    (∃ (c : List (Fin 4096)) (s : State), ((s.on Reg.FT_STATUS_RUN = false ∨ s.ft.fixed = none))) :=
  ⟨⟨.engine 0, 1, withImage [(Reg.SA_CTRL_EN, 1), (Reg.TIME_D_CTRL_EN 0, 1)], tImage, by decide +kernel⟩,
   ⟨.engine 0, 1, tst [], by decide +kernel⟩,
   ⟨.engine 0, 1, { tst [(Reg.FT_STATUS_RUN, 1)] with ft := { clear := true } }, by decide +kernel⟩,
   ⟨.engine 0, 0, tst [(Reg.FT_STATUS_RUN, 1), (Reg.FT_CTRL_EN, 1)], by decide +kernel⟩,
   ⟨[0, 9], 5, { tst [(Reg.FT_STATUS_RUN, 1)] with ft := { fixed := some 5, clear := true } }, by decide +kernel⟩,
   ⟨[0], tst [], by decide +kernel⟩⟩

theorem test_meets_FrameBoundariesAndLines :
    (∃ (s : State), (s.canFix = true) ∧ (s.ft.stream = none)) ∧
    (∃ (c : List (Fin 4096)) (a : Int) (s : State), (s.on Reg.FT_STATUS_RUN = true) ∧ (s.ft.fixed = some a) ∧ (s.ft.clear = false) ∧ (s.sa.stopWait = false) ∧ (s.sa.fallback = none)) ∧
    (∃ (k : BitVec 12) (s : State) (st : Stream) (a : Int), (s.ft.stream = some st) ∧ (st.aborted = false) ∧ (st.latched = false) ∧ (s.ft.fixed = some a) ∧ (s.info.h ≤ st.lines)) ∧
    (∃ (k : BitVec 12) (p : Fin 12) (s : State) (st : Stream) (a : Int), (s.ft.stream = some st) ∧ (st.aborted = false) ∧ (st.latched = false) ∧ (s.ft.fixed = some a) ∧ (s.info.h ≤ st.lines) ∧ (s.portStreams st p = true) ∧ (s.txMuted = false) ∧ (s.streamOpen = true) ∧ (s.on (Reg.TL_STATUS_FENCED p) = false) ∧ (s.on (Reg.LANE_CTRL_IDLE_REQ p) = false) ∧ (s.laneTest (tlLane p) = false)) ∧
    (∃ (w : Word) (s : State) (f : Frame) (i : Image), (s.ft.passA = some f) ∧ (s.image = some i) ∧ (f.done = none) ∧ (s.thermWaits f.no = false) ∧ (s.kalOn = true) ∧ (w.toNat ≠ i.answer f.no 0)) ∧
    (∃ (w : Word) (s : State) (f : Frame) (i : Image), (s.ft.passA = some f) ∧ (s.image = some i) ∧ ((f.done.isSome || s.thermWaits f.no) = true)) ∧
    (∃ (w : Word) (s : State) (f : Frame) (i : Image), (s.ft.passA = some f) ∧ (s.image = some i) ∧ (f.done = none) ∧ (s.thermWaits f.no = false)) ∧
    (∃ (s : State) (f : Frame), (s.ft.passA = some f) ∧ (f.done = none)) ∧
    (∃ (s : State), (s.on Reg.FT_STATUS_RUN = true) ∧ (s.ft.guard < s.ft.m + 2) ∧ (s.on Reg.FT_CTRL_COMMIT = true) ∧ (s.ft.cap = none) ∧ (s.ftCode = 0) ∧ (s.ledBlock 2 = false)) ∧
    (∃ (s : State), (s.on Reg.FT_STATUS_RUN = true) ∧ (s.ft.m + 2 ≤ s.ft.guard)) ∧
    (∃ (s : State), (s.on Reg.FT_STATUS_RUN = true) ∧ (s.on Reg.FT_STATUS_LATE = false)) ∧
    (∃ (s : State), (s.on Reg.FT_STATUS_LATE = true)) ∧
    (∃ (k : BitVec 12) (s : State) (a : Int), (s.on Reg.FT_STATUS_RUN = true) ∧ (s.ft.last = some a) ∧ (s.ft.stream = none) ∧ (s.ft.slot = none)) ∧
    (∃ (k : BitVec 12) (j : Nat) (s : State) (a : Int), (s.on Reg.FT_STATUS_RUN = true) ∧ (s.ft.last = some a) ∧ (s.ft.stream = none) ∧ (s.ft.slot = some j)) ∧
    (∃ (k : BitVec 12) (j : Nat) (s : State) (a : Int) (st : Stream) (i : Image) (p : Fin 12) (l : List (Fin 12)), (s.on Reg.FT_STATUS_RUN = true) ∧ (s.ft.last = some a) ∧ (s.ft.stream = some st) ∧ (s.ft.slot = some j) ∧ (s.imageB = some i) ∧ (st.aborted = false) ∧ (j + 1 < i.info.h) ∧ (s.lackingPorts st k = p :: l)) ∧
    (∃ (k : BitVec 12) (s : State), ((s.on Reg.FT_STATUS_RUN = false ∨ s.ft.last = none))) ∧
    (∃ (s : State) (a : Int), (s.on Reg.FT_STATUS_RUN = true) ∧ (s.ft.last = some a)) ∧
    (∃ (s : State), (s.on Reg.FT_STATUS_RUN = true) ∧ (s.ft.slot = some s.ft.lm) ∧ (s.ft.lmFired = false)) ∧
    (∃ (s : State), (s.on Reg.FT_STATUS_RUN = false)) ∧
    (∃ (s : State), ((s.on Reg.FT_STATUS_RUN = false ∨ s.ft.slot ≠ some s.ft.lm ∨ s.ft.lmFired = true))) ∧
    (∃ (p : Fin 12) (n : Fin 5) (s : State), ((n : Nat) < max 1 (s.rd Reg.FT_WMARK_WMARK))) ∧
    (∃ (p : Fin 12) (n : Fin 5) (s : State), (max 1 (s.rd Reg.FT_WMARK_WMARK) + 1 ≤ (n : Nat))) ∧
    (∃ (c : Word) (s : State) (st : Stream) (i : Image), (s.ft.stream = some st) ∧ (s.imageB = some i) ∧ (s.kalOn = true) ∧ (st.aborted = false) ∧ (st.frame.drv.wb = false) ∧ ((s.sa.kalB || c.toNat != i.answer st.frame.no 4) = true)) :=
  ⟨⟨tst [(Reg.FT_STATUS_RUN, 1)], by decide +kernel⟩,
   ⟨[0, 9], 5, { tst [(Reg.FT_STATUS_RUN, 1)] with ft := { fixed := some 5 } }, by decide +kernel⟩,
   ⟨0, { tst [] with ft := { stream := some { lines := 600 }, fixed := some 0 }, pair := { mute := true } }, { lines := 600 }, 0, by decide +kernel⟩,
   ⟨8, 3, { tst [((Reg.TL_STATUS_STATE 3), 3), (Reg.SAFE_CTRL_EN, 1), (Reg.SA_STATUS_VALID_A, 1)] with sa := { bank := .replicate 2 (some tImage) }, ft := { stream := some { lines := 600, ports := [3] }, fixed := some 0 } }, { lines := 600, ports := [3] }, 0, by decide +kernel⟩,
   ⟨7, { withImageOf { mode := 0x22, quadMask := 1 } [] with ft := { passA := some {} } }, {}, { mode := 0x22, quadMask := 1 }, by decide +kernel⟩,
   ⟨7, { withImage [] with ft := { passA := some { done := some 4 } } }, { done := some 4 }, tImage, by decide +kernel⟩,
   ⟨7, { withImageOf { mode := 0x22, quadMask := 1 } [] with ft := { passA := some {} } }, {}, { mode := 0x22, quadMask := 1 }, by decide +kernel⟩,
   ⟨{ tst [(Reg.FT_STATUS_RUN, 1)] with ft := { passA := some {} } }, {}, by decide +kernel⟩,
   ⟨tst [(Reg.FT_STATUS_RUN, 1), (Reg.FT_CTRL_COMMIT, 1)], by decide +kernel⟩,
   ⟨{ tst [(Reg.FT_STATUS_RUN, 1)] with ft := { guard := 2 } }, by decide +kernel⟩,
   ⟨tst [(Reg.FT_STATUS_RUN, 1)], by decide +kernel⟩,
   ⟨tst [(Reg.FT_STATUS_RUN, 1), (Reg.FT_STATUS_LATE, 1)], by decide +kernel⟩,
   ⟨0, { tst [(Reg.FT_STATUS_RUN, 1)] with ft := { last := some 5 } }, 5, by decide +kernel⟩,
   ⟨0, 4, { tst [(Reg.FT_STATUS_RUN, 1)] with ft := { last := some 5, slot := some 4 } }, 5, by decide +kernel⟩,
   ⟨8, 4, { tst [(Reg.FT_STATUS_RUN, 1), ((Reg.TL_STATUS_STATE 3), 3), (Reg.SA_STATUS_VALID_A, 1)] with sa := { bank := .replicate 2 (some tImage) }, ft := { last := some 5, slot := some 4, stream := some { ports := [3], mapped := [3] } } }, 5, { ports := [3], mapped := [3] }, tImage, 3, [], by decide +kernel⟩,
   ⟨0, tst [], by decide +kernel⟩,
   ⟨{ tst [(Reg.FT_STATUS_RUN, 1)] with ft := { last := some 5 } }, 5, by decide +kernel⟩,
   ⟨{ tst [(Reg.FT_STATUS_RUN, 1)] with ft := { slot := some 0 } }, by decide +kernel⟩,
   ⟨tst [], by decide +kernel⟩,
   ⟨tst [], by decide +kernel⟩,
   ⟨3, 0, tst [(Reg.FT_STATUS_RUN, 1)], by decide +kernel⟩,
   ⟨3, 4, tst [(Reg.FT_STATUS_RUN, 1)], by decide +kernel⟩,
   ⟨7, { withImage [] with ft := { stream := some {} }, sa := { bank := .replicate 2 (some tImage), kalB := true } }, {}, tImage, by decide +kernel⟩⟩

theorem test_meets_TimeDomainsAndAdjustments :
    (∃ (d : Fin 2) (s : State), ((s.td d).cmd = none)) ∧
    (∃ (d : Fin 2) (s : State) (c : AdjCmd) (x : Nat), ((s.td d).cmd = some c) ∧ ((s.td d).adjusted c = some x)) ∧
    (∃ (d : Fin 2) (s : State) (c : AdjCmd), ((s.td d).cmd = some c) ∧ ((s.td d).adjusted c = none)) ∧
    (∃ (s : State), (s.on Reg.TIME_STATUS_SWITCH_PEND = true) ∧ (s.tdOn (Fin.ofNat 2 (s.rd Reg.TIME_CTRL_FT_SEL)) = false)) ∧
    (∃ (s : State), (s.on Reg.TIME_STATUS_SWITCH_PEND = true) ∧ (s.tdOn (Fin.ofNat 2 (s.rd Reg.TIME_CTRL_FT_SEL)) = true) ∧ (s.on Reg.FT_STATUS_RUN = true)) ∧
    (∃ (s : State), (s.on Reg.TIME_STATUS_SWITCH_PEND = true) ∧ (s.tdOn (Fin.ofNat 2 (s.rd Reg.TIME_CTRL_FT_SEL)) = true) ∧ (s.on Reg.FT_STATUS_RUN = false)) ∧
    (∃ (s : State), (s.on Reg.TIME_STATUS_SWITCH_PEND = false)) ∧
    (∃ (d : Fin 2) (m : Master) (v : Word) (s : State), (s.accepts m (0x20130100 + d.val * 0x40)) ∧ (v.toNat.testBit 0 = true)) ∧
    (∃ (d : Fin 2) (m : Master) (v : Word) (s : State), (s.accepts m (0x20130100 + d.val * 0x40)) ∧ (v.toNat.testBit 0 = false) ∧ (s.on Reg.FT_STATUS_RUN = false)) ∧
    (∃ (d : Fin 2) (m : Master) (v : Word) (s : State), (s.accepts m (0x20130100 + d.val * 0x40)) ∧ (v.toNat.testBit 0 = false) ∧ (s.on (Reg.TIME_D_CTRL_EN d) = true) ∧ ((s.stored m (0x20130100 + d.val * 0x40) v).ftSrc = d) ∧ (s.on Reg.FT_STATUS_RUN = true)) ∧
    (∃ (d : Fin 2) (m : Master) (v : Word) (s : State) (c : AdjCmd), (s.accepts m (0x20130100 + d.val * 0x40)) ∧ (v.toNat.testBit 1 = true) ∧ ((s.td d).cmd = none) ∧ ((s.stored m (0x20130100 + d.val * 0x40) v).adjLoad d = some c)) ∧
    (∃ (d : Fin 2) (m : Master) (v : Word) (s : State), (s.accepts m (0x20130100 + d.val * 0x40)) ∧ (v.toNat.testBit 1 = true) ∧ ((s.stored m (0x20130100 + d.val * 0x40) v).adjLoad d = none)) ∧
    (∃ (d : Fin 2) (m : Master) (v : Word) (s : State) (c : AdjCmd), (s.accepts m (0x20130100 + d.val * 0x40)) ∧ (v.toNat.testBit 2 = true) ∧ ((s.td d).cmd = none) ∧ ((s.stored m (0x20130100 + d.val * 0x40) v).adjStep d = some c)) ∧
    (∃ (d : Fin 2) (m : Master) (v : Word) (s : State), (s.accepts m (0x20130100 + d.val * 0x40)) ∧ (v.toNat.testBit 2 = true) ∧ ((s.stored m (0x20130100 + d.val * 0x40) v).adjStep d = none)) ∧
    (∃ (m : Master) (v : Word) (d : Fin 2) (s : State), (s.accepts m 0x20130000) ∧ (d = Fin.ofNat 2 (bits v.toNat 0 1)) ∧ (s.on (Reg.TIME_D_CTRL_EN d) = true) ∧ (s.rd Reg.TIME_STATUS_FT_SRC = 1 - d.val) ∧ (s.on Reg.TIME_STATUS_SWITCH_PEND = false) ∧ (s.on Reg.FT_STATUS_RUN = false)) ∧
    (∃ (d : Fin 2) (m : Master) (v : Word) (s : State), (s.accepts m (0x20130100 + d.val * 0x40)) ∧ (v.toNat.testBit 1 = true) ∧ ((s.td d).cmd.isSome = true)) ∧
    (∃ (d : Fin 2) (m : Master) (v : Word) (s : State), (s.accepts m (0x20130100 + d.val * 0x40)) ∧ (v.toNat.testBit 2 = true) ∧ ((s.td d).cmd.isSome = true)) ∧
    (∃ (m : Master) (v : Word) (d : Fin 2) (s : State), (s.accepts m 0x20130000) ∧ (d = Fin.ofNat 2 (bits v.toNat 0 1)) ∧ (s.on (Reg.TIME_D_CTRL_EN d) = true) ∧ (s.rd Reg.TIME_STATUS_FT_SRC = 1 - d.val) ∧ (s.on Reg.TIME_STATUS_SWITCH_PEND = false) ∧ (s.on Reg.FT_STATUS_RUN = true) ∧ (1000 * nsUnit < (s.frameTime - (s.td d).t).natAbs)) ∧
    (∃ (m : Master) (v : Word) (d : Fin 2) (s : State), (s.accepts m 0x20130000) ∧ (d = Fin.ofNat 2 (bits v.toNat 0 1)) ∧ (s.on (Reg.TIME_D_CTRL_EN d) = true) ∧ (s.rd Reg.TIME_STATUS_FT_SRC = 1 - d.val) ∧ (s.on Reg.TIME_STATUS_SWITCH_PEND = false) ∧ (s.on Reg.FT_STATUS_RUN = true) ∧ ((s.frameTime - (s.td d).t).natAbs ≤ 1000 * nsUnit)) ∧
    (∃ (m : Master) (v : Word) (d : Fin 2) (s : State), (s.accepts m 0x20130000) ∧ (d = Fin.ofNat 2 (bits v.toNat 0 1)) ∧ (s.on Reg.TIME_STATUS_SWITCH_PEND = true)) ∧
    (∃ (m : Master) (v : Word) (d : Fin 2) (s : State), (s.accepts m 0x20130000) ∧ (d = Fin.ofNat 2 (bits v.toNat 0 1)) ∧ (s.rd Reg.TIME_STATUS_FT_SRC = 1 - d.val) ∧ (s.on (Reg.TIME_D_CTRL_EN d) = false)) ∧
    (∃ (s : State), (s.time.delta = 0)) ∧
    (∃ (s : State), (1 * nsUnit < s.time.delta)) ∧
    (∃ (s : State), (s.time.delta < -(1 * nsUnit : Int))) ∧
    (∃ (d : Fin 2) (s : State) (x : Nat), ((s.td d).held = some x)) ∧
    (∃ (d : Fin 2) (s : State), ((s.td d).held = none)) :=
  ⟨⟨0, tst [], by decide +kernel⟩,
   ⟨1, { tst [] with time := { dom := .replicate 2 { cmd := some { load := true, sec := 3, ns := 5 } } } }, { load := true, sec := 3, ns := 5 }, (3 * giga + 5) * nsUnit, by decide +kernel⟩,
   ⟨1, { tst [] with time := { dom := .replicate 2 { cmd := some { load := false, sec := -9 } } } }, { load := false, sec := -9 }, by decide +kernel⟩,
   ⟨tst [(Reg.TIME_STATUS_SWITCH_PEND, 1)], by decide +kernel⟩,
   ⟨tst [(Reg.TIME_STATUS_SWITCH_PEND, 1), (Reg.FT_STATUS_RUN, 1), (Reg.TIME_CTRL_FT_SEL, 1), ((Reg.TIME_D_CTRL_EN 1), 1)], by decide +kernel⟩,
   ⟨tst [(Reg.TIME_STATUS_SWITCH_PEND, 1), (Reg.TIME_CTRL_FT_SEL, 1), ((Reg.TIME_D_CTRL_EN 1), 1)], by decide +kernel⟩,
   ⟨tst [], by decide +kernel⟩,
   ⟨1, .engine 0, 1, tst [], by decide +kernel⟩,
   ⟨1, .engine 0, 0, tst [((Reg.TIME_D_CTRL_EN 1), 1)], by decide +kernel⟩,
   ⟨0, .engine 0, 0, tst [((Reg.TIME_D_CTRL_EN 0), 1), (Reg.FT_STATUS_RUN, 1)], by decide +kernel⟩,
   ⟨1, .engine 0, 2, tst [], { load := true, ns := 0, sec := 0 }, by decide +kernel⟩,
   ⟨1, .engine 0, 2, tst [((Reg.TIME_D_ADJ_NS_NS 1), 0xFFFFFFFF)], by decide +kernel⟩,
   ⟨1, .engine 0, 4, tst [], { load := false, ns := 0, sec := 0 }, by decide +kernel⟩,
   ⟨1, .engine 0, 4, tst [((Reg.TIME_D_ADJ_NS_NS 1), 0x7FFFFFFF)], by decide +kernel⟩,
   ⟨.engine 0, 1, 1, tst [((Reg.TIME_D_CTRL_EN 1), 1)], by decide +kernel⟩,
   ⟨1, .engine 0, 2, { tst [] with time := { dom := .replicate 2 { cmd := some { load := true } } } }, by decide +kernel⟩,
   ⟨1, .engine 0, 4, { tst [] with time := { dom := .replicate 2 { cmd := some { load := true } } } }, by decide +kernel⟩,
   ⟨.engine 0, 1, 1, { tst [((Reg.TIME_D_CTRL_EN 1), 1), (Reg.FT_STATUS_RUN, 1)] with time := { dom := #v[{}, { t := 1001 * nsUnit }] } }, by decide +kernel⟩,
   ⟨.engine 0, 1, 1, { tst [((Reg.TIME_D_CTRL_EN 1), 1), (Reg.FT_STATUS_RUN, 1)] with time := { dom := #v[{}, { t := 1000 * nsUnit }] } }, by decide +kernel⟩,
   ⟨.engine 0, 1, 1, tst [(Reg.TIME_STATUS_SWITCH_PEND, 1)], by decide +kernel⟩,
   ⟨.engine 0, 1, 1, tst [], by decide +kernel⟩,
   ⟨tst [], by decide +kernel⟩,
   ⟨{ tst [] with time := { delta := 1000 * nsUnit } }, by decide +kernel⟩,
   ⟨{ tst [] with time := { delta := -(1000 * nsUnit : Int) } }, by decide +kernel⟩,
   ⟨1, { tst [] with time := { dom := .replicate 2 { held := some 0x500000007 } } }, 0x500000007, by decide +kernel⟩,
   ⟨1, tst [], by decide +kernel⟩⟩

theorem test_meets_TlPortLifecycle :
    (∃ (p : Fin 12) (m : Master) (v : Word) (s : State), (s.accepts m (tlAddr p)) ∧ (v.toNat.testBit 0 = true) ∧ (s.on (Reg.TL_CTRL_EN p) = false) ∧ ((((s.stored m (tlAddr p) v).wr (Reg.TL_CTRL_EN p) 1).showLane (tlLane p)).isMapped p = true) ∧ ((((s.stored m (tlAddr p) v).wr (Reg.TL_CTRL_EN p) 1).showLane (tlLane p)).tlHeld p = false) ∧ (s.on (Reg.TL_STATUS_FENCED p) = false)) ∧
    (∃ (p : Fin 12) (m : Master) (v : Word) (s : State), (s.accepts m (tlAddr p)) ∧ (v.toNat.testBit 0 = true) ∧ (s.on (Reg.TL_CTRL_EN p) = true)) ∧
    (∃ (p : Fin 12) (m : Master) (v : Word) (s : State), (s.accepts m (tlAddr p)) ∧ (v.toNat.testBit 0 = false) ∧ (s.on (Reg.TL_CTRL_EN p) = true) ∧ (s.tlState p ≠ 3)) ∧
    (∃ (p : Fin 12) (m : Master) (v : Word) (s : State), (s.accepts m (tlAddr p)) ∧ (v.toNat.testBit 0 = false) ∧ (s.tlState p = 3)) ∧
    (∃ (p : Fin 12) (m : Master) (v : Word) (s : State), (s.accepts m (tlAddr p)) ∧ (v.toNat.testBit 1 = true) ∧ (s.on (Reg.TL_CTRL_EN p) = true) ∧ ((((s.stored m (tlAddr p) v).setPort p { s.port p with mismatch := false }).tlLeave p 0).isMapped p = true) ∧ ((((s.stored m (tlAddr p) v).setPort p { s.port p with mismatch := false }).tlLeave p 0).tlHeld p = false) ∧ (s.on (Reg.TL_STATUS_FENCED p) = false)) ∧
    (∃ (p : Fin 12) (m : Master) (v : Word) (s : State), (s.accepts m (tlAddr p)) ∧ (v.toNat.testBit 9 = true)) ∧
    (∃ (p : Fin 12) (m : Master) (v : Word) (s : State), (s.accepts m (tlAddr p)) ∧ (v.toNat.testBit 8 = true) ∧ (s.on (Reg.TL_STATUS_FENCED p) = false) ∧ (s.tlState p = 2) ∧ (s.on (Reg.LANE_CTRL_IDLE_REQ p) = false) ∧ ((s.stored m (tlAddr p) v).laneTest (tlLane p) = false)) ∧
    (∃ (p : Fin 12) (s : State), (s.on (Reg.TL_CTRL_EN p) = true) ∧ (s.on (Reg.TL_CTRL_AUTO_RETRAIN p) = true) ∧ (s.tlState p = 0 ∨ s.tlState p = 5) ∧ (s.on (Reg.TL_STATUS_FENCED p) = false) ∧ (s.isMapped p = true) ∧ (s.tlHeld p = false)) ∧
    (∃ (p : Fin 12) (s : State), (s.on (Reg.TL_CTRL_EN p) = false ∨ s.on (Reg.TL_CTRL_AUTO_RETRAIN p) = false ∨ (s.tlState p ≠ 0 ∧ s.tlState p ≠ 5))) :=
  ⟨⟨3, .engine 0, 1, withImage [], by decide +kernel⟩,
   ⟨3, .engine 0, 1, tst [((Reg.TL_CTRL_EN 3), 1)], by decide +kernel⟩,
   ⟨3, .engine 0, 0, tst [((Reg.TL_CTRL_EN 3), 1), ((Reg.TL_STATUS_STATE 3), 2)], by decide +kernel⟩,
   ⟨3, .engine 0, 0, tst [((Reg.TL_CTRL_EN 3), 1), ((Reg.TL_STATUS_STATE 3), 3)], by decide +kernel⟩,
   ⟨3, .engine 0, 2, withImage [(Reg.TL_CTRL_EN 3, 1)], by decide +kernel⟩,
   ⟨3, .engine 0, 0x200, tst [((Reg.TL_STATUS_STATE 3), 2)], by decide +kernel⟩,
   ⟨3, .engine 0, 0x100, tst [((Reg.TL_STATUS_STATE 3), 2)], by decide +kernel⟩,
   ⟨3, withImage [(Reg.TL_CTRL_EN 3, 1), (Reg.TL_CTRL_AUTO_RETRAIN 3, 1)], by decide +kernel⟩,
   ⟨3, tst [((Reg.TL_CTRL_AUTO_RETRAIN 3), 0)], by decide +kernel⟩⟩

theorem test_meets_TlTrainingAndUpload :
    (∃ (p : Fin 12) (s : State), (s.tlState p = 1) ∧ ((s.port p).train = .caps) ∧ (s.on (Reg.TL_STATUS_FENCED p) = false) ∧ (s.on (Reg.LANE_CTRL_IDLE_REQ p) = false) ∧ (s.laneTest (tlLane p) = false)) ∧
    (∃ (p : Fin 12) (s : State), (s.tlState p ≠ 1 ∨ (s.port p).train ≠ .caps)) ∧
    (∃ (p : Fin 12) (d c : List Byte) (s : State), (s.tlReaches p d = true) ∧ (s.tlState p = 1) ∧ ((s.port p).train = .caps) ∧ (tlPayload 0x01 (· == 64) d = some c) ∧ ((s.showCaps p c).capsCode p = 0) ∧ ((byteAt c 1).testBit 1 = false)) ∧
    (∃ (p : Fin 12) (d c : List Byte) (s : State), (s.tlState p = 1) ∧ ((s.port p).train = .caps) ∧ (s.tlReaches p d = true) ∧ (tlPayload 0x01 (· == 64) d = some c) ∧ ((s.showCaps p c).capsCode p = 0) ∧ ((byteAt c 1).testBit 1 = true) ∧ (s.on (Reg.TL_CTRL_RATE_MAX p) = true)) ∧
    (∃ (p : Fin 12) (d c : List Byte) (s : State), (s.tlReaches p d = true) ∧ (s.tlState p = 1) ∧ ((s.port p).train = .caps) ∧ (tlPayload 0x01 (· == 64) d = some c) ∧ ((s.showCaps p c).capsCode p ≠ 0)) ∧
    (∃ (p : Fin 12) (s : State), (s.tlState p = 1) ∧ ((s.port p).train = .caps)) ∧
    (∃ (p : Fin 12) (e : Option (Fin 65 × Fin 65)) (s : State), (s.tlState p ≠ 1 ∨ (s.port p).train ≠ .relock)) ∧
    (∃ (p : Fin 12) (l : List Nat) (s : State), (s.tlState p ≠ 1 ∨ (s.port p).train ≠ .probe)) ∧
    (∃ (p : Fin 12) (s : State), (s.tlState p ≠ 1 ∨ (s.port p).train ≠ .config)) ∧
    (∃ (p : Fin 12) (d c : List Byte) (s : State), (s.tlReaches p d = true) ∧ (tlPayload 0x01 (· == 64) d = some c) ∧ ((s.tlState p = 1 ∧ (s.port p).train ≠ .caps) ∨ s.tlState p = 4 ∨ s.tlState p = 5)) ∧
    (∃ (p : Fin 12) (d c : List Byte) (s : State), (s.tlReaches p d = true) ∧ (tlPayload 0x01 (· == 64) d = some c) ∧ (s.tlUp p = true)) ∧
    (∃ (p : Fin 12) (d c : List Byte) (s : State), (s.tlReaches p d = true) ∧ (tlPayload 0x01 (· == 64) d = some c) ∧ (s.tlState p = 0)) ∧
    (∃ (p : Fin 12) (h v : Fin 65) (s : State), (s.tlState p = 1) ∧ ((s.port p).train = .relock) ∧ (s.rd (Reg.LANE_THRESH_EYE_MIN p) ≤ eyeScore h v)) ∧
    (∃ (p : Fin 12) (e : Option (Fin 65 × Fin 65)) (s : State), (s.tlState p = 1) ∧ ((s.port p).train = .relock) ∧ (∀ x ∈ e, eyeScore x.1 x.2 < s.rd (Reg.LANE_THRESH_EYE_MIN p))) ∧
    (∃ (p : Fin 12) (l : List Nat) (s : State), (s.tlState p = 1) ∧ ((s.port p).train = .probe) ∧ (204800 < (s.tlProbe p l).dkOf p)) ∧
    (∃ (p : Fin 12) (l : List Nat) (s : State), (s.tlState p = 1) ∧ ((s.port p).train = .probe) ∧ ((s.tlProbe p l).dkOf p ≤ 204800)) ∧
    (∃ (p : Fin 12) (l : List Nat) (i : Image) (s : State), (s.tlState p = 1) ∧ ((s.port p).train = .probe) ∧ ((s.tlProbe p l).dkOf p ≤ 204800) ∧ (s.on (Reg.TL_STATUS_FENCED p) = false) ∧ (s.on (Reg.LANE_CTRL_IDLE_REQ p) = false) ∧ (s.laneTest (tlLane p) = false) ∧ (s.image = some i)) ∧
    (∃ (p : Fin 12) (s : State), (s.tlState p = 1) ∧ ((s.port p).train = .config)) ∧
    (∃ (p : Fin 12) (l : List Nat) (s : State), (s.tlUp p = true)) ∧
    (∃ (p : Fin 12) (m : Master) (v : Word) (s : State), (s.accepts m (tlAddr p)) ∧ (v.toNat.testBit 7 = true) ∧ (s.on (Reg.TL_CTRL_FB_START p) = false) ∧ (s.tlState p = 2) ∧ (s.on (Reg.TL_STATUS_OWNED p) = false)) ∧
    (∃ (p : Fin 12) (m : Master) (v : Word) (s : State), (s.accepts m (tlAddr p)) ∧ (s.on (Reg.TL_CTRL_FB_START p) = true)) ∧
    (∃ (p : Fin 12) (m : Master) (v : Word) (s : State), (s.accepts m (tlAddr p)) ∧ (v.toNat.testBit 7 = true) ∧ (s.on (Reg.TL_CTRL_FB_START p) = false) ∧ (s.tlState p ≠ 2)) ∧
    (∃ (p : Fin 12) (m : Master) (v : Word) (s : State), (s.accepts m (tlAddr p)) ∧ (v.toNat.testBit 7 = true) ∧ (s.on (Reg.TL_CTRL_FB_START p) = false) ∧ (s.tlState p = 2) ∧ (s.on (Reg.TL_STATUS_OWNED p) = true) ∧ (((s.stored m (tlAddr p) v).badAt (s.rd (Reg.TL_FB_HI_ADDR_HI p) <<< 32 ||| s.rd (Reg.TL_FB_LO_ADDR p) <<< 6) (64 + 2 * s.rd (Reg.TL_TILE_GEOM_WIDTH p) * s.rd (Reg.TL_TILE_GEOM_HEIGHT p))).isSome = true)) ∧
    (∃ (p : Fin 12) (m : Master) (v : Word) (s : State) (a : Nat), (s.accepts m (tlAddr p)) ∧ (v.toNat.testBit 7 = true) ∧ (s.on (Reg.TL_CTRL_FB_START p) = false) ∧ (s.tlState p = 2) ∧ (s.on (Reg.TL_STATUS_OWNED p) = true) ∧ (s.rd (Reg.TL_FB_HI_ADDR_HI p) <<< 32 ||| s.rd (Reg.TL_FB_LO_ADDR p) <<< 6 = a) ∧ ((s.stored m (tlAddr p) v).badAt a (64 + 2 * s.rd (Reg.TL_TILE_GEOM_WIDTH p) * s.rd (Reg.TL_TILE_GEOM_HEIGHT p)) = none)) ∧
    (∃ (p : Fin 12) (m : Master) (v : Word) (s : State) (a w h : Nat) (z : List Byte), (s.accepts m (tlAddr p)) ∧ (v.toNat.testBit 7 = true) ∧ (s.on (Reg.TL_CTRL_FB_START p) = false) ∧ (s.tlState p = 2) ∧ (s.on (Reg.TL_STATUS_OWNED p) = true) ∧ (s.rd (Reg.TL_FB_HI_ADDR_HI p) <<< 32 ||| s.rd (Reg.TL_FB_LO_ADDR p) <<< 6 = a) ∧ (s.rd (Reg.TL_TILE_GEOM_WIDTH p) = w) ∧ (s.rd (Reg.TL_TILE_GEOM_HEIGHT p) = h) ∧ ((s.stored m (tlAddr p) v).badAt a (64 + 2 * w * h) = none) ∧ ((s.stored m (tlAddr p) v).bytes a 16 = z) ∧ (s.on (Reg.TL_STATUS_FENCED p) = false) ∧ (s.on (Reg.LANE_CTRL_IDLE_REQ p) = false) ∧ ((s.stored m (tlAddr p) v).laneTest (tlLane p) = false) ∧ ((s.stored m (tlAddr p) v).txMuted = false)) ∧
    (∃ (p : Fin 12) (d c : List Byte) (k : Nat) (s : State), (s.tlReaches p d = true) ∧ (s.tlHears p = true) ∧ (tlPayload 0x30 (· == 12) d = some c) ∧ ((s.port p).fb = some k) ∧ (byteAt c 0 = 0x80) ∧ (leAt c 4 4 = k)) ∧
    (∃ (p : Fin 12) (d c : List Byte) (k : Nat) (s : State), (s.tlReaches p d = true) ∧ (s.tlHears p = true) ∧ (tlPayload 0x30 (· == 12) d = some c) ∧ ((s.port p).fb = some k) ∧ (byteAt c 0 = 0x81)) ∧
    (∃ (p : Fin 12) (d c : List Byte) (k : Nat) (s : State), (s.tlReaches p d = true) ∧ (s.tlHears p = true) ∧ (tlPayload 0x30 (· == 12) d = some c) ∧ ((s.port p).fb = some k) ∧ (byteAt c 0 = 0x80) ∧ (leAt c 4 4 ≠ k)) ∧
    (∃ (p : Fin 12) (s : State), ((s.port p).fb.isSome = true)) ∧
    (∃ (p : Fin 12) (s : State), ((s.port p).fb = none)) :=
  ⟨⟨3, { tst [((Reg.TL_STATUS_STATE 3), 1)] with tl := { port := .replicate 12 { train := .caps } } }, by decide +kernel⟩,
   ⟨3, { tst [((Reg.TL_STATUS_STATE 3), 1)] with tl := { port := .replicate 12 { train := .probe } } }, by decide +kernel⟩,
   ⟨3, [1, 1, 64, 0, 0, 0, 0, 0] ++ ([0x10, 1, 0, 2, 0, 2] ++ .replicate 12 0 ++ [2] ++ .replicate 45 0), [0x10, 1, 0, 2, 0, 2] ++ .replicate 12 0 ++ [2] ++ .replicate 45 0, { withImage [(Reg.TL_STATUS_STATE 3, 1)] with tl := { port := .replicate 12 { train := .caps } } }, by decide +kernel⟩,
   ⟨3, [1, 1, 64, 0, 0, 0, 0, 0] ++ ([0x10, 3, 0, 2, 0, 2] ++ .replicate 12 0 ++ [2] ++ .replicate 45 0), [0x10, 3, 0, 2, 0, 2] ++ .replicate 12 0 ++ [2] ++ .replicate 45 0, { withImage [(Reg.TL_STATUS_STATE 3, 1), (Reg.TL_CTRL_RATE_MAX 3, 1)] with tl := { port := .replicate 12 { train := .caps } } }, by decide +kernel⟩,
   ⟨3, [1, 1, 64, 0, 0, 0, 0, 0] ++ List.replicate 64 0, List.replicate 64 0, { tst [((Reg.TL_STATUS_STATE 3), 1)] with tl := { port := .replicate 12 { train := .caps } } }, by decide +kernel⟩,
   ⟨3, { tst [((Reg.TL_STATUS_STATE 3), 1)] with tl := { port := .replicate 12 { train := .caps } } }, by decide +kernel⟩,
   ⟨3, some (60, 60), { tst [((Reg.TL_STATUS_STATE 3), 1)] with tl := { port := .replicate 12 { train := .probe } } }, by decide +kernel⟩,
   ⟨3, [1000], { tst [((Reg.TL_STATUS_STATE 3), 1)] with tl := { port := .replicate 12 { train := .config } } }, by decide +kernel⟩,
   ⟨3, { tst [((Reg.TL_STATUS_STATE 3), 1)] with tl := { port := .replicate 12 { train := .probe } } }, by decide +kernel⟩,
   ⟨3, [1, 1, 64, 0, 0, 0, 0, 0] ++ ([0x10, 1, 0, 2, 0, 2] ++ .replicate 12 0 ++ [2] ++ .replicate 45 0), [0x10, 1, 0, 2, 0, 2] ++ .replicate 12 0 ++ [2] ++ .replicate 45 0, { tst [((Reg.TL_STATUS_STATE 3), 1)] with tl := { port := .replicate 12 { train := .probe } } }, by decide +kernel⟩,
   ⟨3, [1, 1, 64, 0, 0, 0, 0, 0] ++ ([0x10, 1, 0, 2, 0, 2] ++ .replicate 12 0 ++ [2] ++ .replicate 45 0), [0x10, 1, 0, 2, 0, 2] ++ .replicate 12 0 ++ [2] ++ .replicate 45 0, tst [((Reg.TL_STATUS_STATE 3), 3)], by decide +kernel⟩,
   ⟨3, [1, 1, 64, 0, 0, 0, 0, 0] ++ ([0x10, 1, 0, 2, 0, 2] ++ .replicate 12 0 ++ [2] ++ .replicate 45 0), [0x10, 1, 0, 2, 0, 2] ++ .replicate 12 0 ++ [2] ++ .replicate 45 0, tst [], by decide +kernel⟩,
   ⟨3, 60, 60, { tst [((Reg.TL_STATUS_STATE 3), 1)] with tl := { port := .replicate 12 { train := .relock } } }, by decide +kernel⟩,
   ⟨3, some (1, 1), { tst [((Reg.TL_STATUS_STATE 3), 1)] with tl := { port := .replicate 12 { train := .relock } } }, by decide +kernel⟩,
   ⟨3, [1000, 1000, 1000, 1000, 1000, 1000, 1000, 1000], { tst [((Reg.TL_STATUS_STATE 3), 1), ((Reg.TL_TILE_LAT_PS 3), 0xFFFFFFFF)] with tl := { port := .replicate 12 { train := .probe } } }, by decide +kernel⟩,
   ⟨3, [], { tst [((Reg.TL_STATUS_STATE 3), 1)] with tl := { port := .replicate 12 { train := .probe } } }, by decide +kernel⟩,
   ⟨3, [], tImage, { withImage [(Reg.TL_STATUS_STATE 3, 1)] with tl := { port := .replicate 12 { train := .probe } } }, by decide +kernel⟩,
   ⟨3, { tst [((Reg.TL_STATUS_STATE 3), 1)] with tl := { port := .replicate 12 { train := .config } } }, by decide +kernel⟩,
   ⟨3, [], tst [((Reg.TL_STATUS_STATE 3), 2)], by decide +kernel⟩,
   ⟨3, .engine 0, 0x80, tst [((Reg.TL_STATUS_STATE 3), 2)], by decide +kernel⟩,
   ⟨3, .engine 0, 0x80, tst [((Reg.TL_STATUS_STATE 3), 2), ((Reg.TL_CTRL_FB_START 3), 1)], by decide +kernel⟩,
   ⟨3, .engine 0, 0x80, tst [], by decide +kernel⟩,
   ⟨3, .engine 0, 0x80, tst [((Reg.TL_STATUS_STATE 3), 2), ((Reg.TL_STATUS_OWNED 3), 1)], by decide +kernel⟩,
   ⟨3, .engine 0, 0x80, tst [((Reg.TL_STATUS_STATE 3), 2), ((Reg.TL_STATUS_OWNED 3), 1), ((Reg.TL_FB_LO_ADDR 3), 4194304)], 0x10000000, by decide +kernel⟩,
   ⟨3, .engine 0, 0x80, tst [((Reg.TL_STATUS_STATE 3), 2), ((Reg.TL_STATUS_OWNED 3), 1), ((Reg.TL_FB_LO_ADDR 3), 4194304), ((Reg.TL_TILE_GEOM_WIDTH 3), 2), ((Reg.TL_TILE_GEOM_HEIGHT 3), 1)], 0x10000000, 2, 1, List.replicate 16 0, by decide +kernel⟩,
   ⟨3, [0x30, 1, 12, 0, 0, 0, 0, 0, 0x80, 0, 0, 0, 0, 0, 0, 0, 0, 0, 0, 0], [0x80, 0, 0, 0, 0, 0, 0, 0, 0, 0, 0, 0], 0, { tst [((Reg.TL_STATUS_STATE 3), 2)] with tl := { port := .replicate 12 { fb := some 0 } } }, by decide +kernel⟩,
   ⟨3, [0x30, 1, 12, 0, 0, 0, 0, 0, 0x81, 0, 0, 0, 0, 0, 0, 0, 0, 0, 0, 0], [0x81, 0, 0, 0, 0, 0, 0, 0, 0, 0, 0, 0], 0, { tst [((Reg.TL_STATUS_STATE 3), 2)] with tl := { port := .replicate 12 { fb := some 0 } } }, by decide +kernel⟩,
   ⟨3, [0x30, 1, 12, 0, 0, 0, 0, 0, 0x80, 0, 0, 0, 0, 0, 0, 0, 0, 0, 0, 0], [0x80, 0, 0, 0, 0, 0, 0, 0, 0, 0, 0, 0], 9, { tst [((Reg.TL_STATUS_STATE 3), 2)] with tl := { port := .replicate 12 { fb := some 9 } } }, by decide +kernel⟩,
   ⟨3, { tst [((Reg.TL_STATUS_STATE 3), 2)] with tl := { port := .replicate 12 { fb := some 0 } } }, by decide +kernel⟩,
   ⟨3, tst [], by decide +kernel⟩⟩

theorem test_meets_TlUpstream :
    (∃ (p : Fin 12) (d c : List Byte) (s : State), (s.tlReaches p d = true) ∧ (s.tlUp p = true) ∧ (tlPayload 0x22 (· == 64) d = some c)) ∧
    (∃ (p : Fin 12) (d c : List Byte) (s : State), (s.tlReaches p d = true) ∧ (s.tlState p = 1) ∧ ((s.port p).train = .config) ∧ (tlPayload 0x22 (· == 64) d = some c) ∧ ((byteAt c 8).testBit 3 = true)) ∧
    (∃ (p : Fin 12) (d : List Byte) (s : State), (s.tlReaches p d = true) ∧ (s.tlUp p = true) ∧ (tlPayload 0x22 (· == 64) d = none)) ∧
    (∃ (p : Fin 12) (d : List Byte) (s : State), (s.tlReaches p d = true) ∧ (s.tlUp p = true) ∧ (tlPayload 0x21 (fun l => decide (1 ≤ leAt d 14 2 ∧ leAt d 14 2 ≤ (if s.tlV2 p && s.on (Reg.TL_CTRL_BULK_EN p) then 4096 else 256) ∧ l = 8 + (leAt d 14 2 + 3) / 4 * 4)) d = none)) ∧
    (∃ (p : Fin 12) (d c : List Byte) (s : State) (i : Image), (s.tlReaches p d = true) ∧ (s.tlUp p = true) ∧ (tlPayload 0x21 (fun l => decide (1 ≤ leAt d 14 2 ∧ leAt d 14 2 ≤ (if s.tlV2 p && s.on (Reg.TL_CTRL_BULK_EN p) then 4096 else 256) ∧ l = 8 + (leAt d 14 2 + 3) / 4 * 4)) d = some c) ∧ (s.image = some i)) ∧
    (∃ (p : Fin 12) (d c : List Byte) (s : State), (s.tlReaches p d = true) ∧ (s.tlUp p = true) ∧ (tlPayload 0x40 (· == 8) d = some c) ∧ ((byteAt d 1).testBit 3 = true) ∧ (s.on Reg.PAIR_CTRL_EN = false)) ∧
    (∃ (p : Fin 12) (d : List Byte) (s : State), (s.tlReaches p d = false)) ∧
    (∃ (p : Fin 12) (d c : List Byte) (s : State), (s.tlReaches p d = true) ∧ (s.tlUp p = true) ∧ (tlPayload 0x22 (· == 64) d = some c) ∧ (leAt c 10 2 = s.rd (Reg.TL_CAP_SENT_SEQ p))) ∧
    (∃ (p : Fin 12) (s : State), ((s.port p).capWait = true)) ∧
    (∃ (p : Fin 12) (s : State), ((s.port p).capWait = false)) ∧
    (∃ (p : Fin 12) (bl : List (BitVec 2 × BitVec 64)) (s : State), (badTrailer bl = true)) ∧
    (∃ (p : Fin 12) (bl : List (BitVec 2 × BitVec 64)) (s : State), (badTrailer bl = false) ∧ (upstreamBad bl = true)) ∧
    (∃ (p : Fin 12) (s : State), (s.tlState p = 3)) ∧
    (∃ (p : Fin 12) (s : State), (s.tlState p = 2)) ∧
    (∃ (p : Fin 12) (s : State), (s.tlUp p = false)) ∧
    (∃ (p : Fin 12) (s : State), (s.tlState p = 2) ∧ (s.on (Reg.TL_STATUS_FENCED p) = false) ∧ (s.on (Reg.LANE_CTRL_IDLE_REQ p) = false) ∧ (s.laneTest (tlLane p) = false)) ∧
    (∃ (p : Fin 12) (d : List Byte) (s : State), (s.tlReaches p d = true) ∧ ((tlPayload 0x3F (· == 4) d).isSome = true)) ∧
    (∃ (p : Fin 12) (d : List Byte) (s : State), (s.tlReaches p d = true) ∧ ((tlPayload 0x3F (· == 4) d).isSome = false) ∧ (s.tlUp p = true)) :=
  ⟨⟨3, [0x22, 1, 64, 0, 0, 0, 0, 0] ++ .replicate 64 7, .replicate 64 7, tst [((Reg.TL_STATUS_STATE 3), 2)], by decide +kernel⟩,
   ⟨3, [0x22, 1, 64, 0, 0, 0, 0, 0] ++ .replicate 64 8, .replicate 64 8, { tst [((Reg.TL_STATUS_STATE 3), 1)] with tl := { port := .replicate 12 { train := .config } } }, by decide +kernel⟩,
   ⟨3, [], tst [((Reg.TL_STATUS_STATE 3), 2)], by decide +kernel⟩,
   ⟨3, [], tst [((Reg.TL_STATUS_STATE 3), 2)], by decide +kernel⟩,
   ⟨3, [0x21, 1, 12, 0, 0, 0, 0, 0, 0, 0, 0, 0, 0, 0, 1, 0, 0, 0, 0, 0], [0, 0, 0, 0, 0, 0, 1, 0, 0, 0, 0, 0], withImage [(Reg.TL_STATUS_STATE 3, 2)], tImage, by decide +kernel⟩,
   ⟨3, [0x40, 9, 8, 0, 0, 0, 0, 0] ++ List.replicate 8 0, List.replicate 8 0, tst [((Reg.TL_STATUS_STATE 3), 2)], by decide +kernel⟩,
   ⟨3, [], tst [((Reg.LANE_CTRL_LOOPBACK 3), 1)], by decide +kernel⟩,
   ⟨3, [0x22, 1, 64, 0, 0, 0, 0, 0] ++ List.replicate 64 0, List.replicate 64 0, { tst [((Reg.TL_STATUS_STATE 3), 2)] with tl := { port := .replicate 12 { capWait := true } } }, by decide +kernel⟩,
   ⟨3, { tst [((Reg.TL_STATUS_STATE 3), 2)] with tl := { port := .replicate 12 { capWait := true } } }, by decide +kernel⟩,
   ⟨3, tst [], by decide +kernel⟩,
   ⟨3, [(2, 0x78), (2, BitVec.ofNat 64 (termType 5))], tst [], by decide +kernel⟩,
   ⟨3, [(2, 0x78), (2, 0x78)], tst [], by decide +kernel⟩,
   ⟨3, tst [((Reg.TL_STATUS_STATE 3), 3)], by decide +kernel⟩,
   ⟨3, tst [((Reg.TL_STATUS_STATE 3), 2)], by decide +kernel⟩,
   ⟨3, tst [], by decide +kernel⟩,
   ⟨3, tst [((Reg.TL_STATUS_STATE 3), 2)], by decide +kernel⟩,
   ⟨3, [0x3F, 1, 4, 0, 0, 0, 0, 0, 0, 0, 0, 0], tst [((Reg.TL_STATUS_STATE 3), 2)], by decide +kernel⟩,
   ⟨3, [], tst [((Reg.TL_STATUS_STATE 3), 2)], by decide +kernel⟩⟩

theorem test_meets_Lanes :
    (∃ (j : Fin 15) (m : Master) (v : Word) (s : State), (s.accepts m (laneAddr j))) ∧
    (∃ (j : Fin 15) (m : Master) (v : Word) (s : State), (s.accepts m (laneAddr j)) ∧ (v.toNat.testBit 8 = true) ∧ (s.rd (Reg.LANE_STATUS_STATE j) = 3 ∨ s.rd (Reg.LANE_STATUS_STATE j) = 5)) ∧
    (∃ (j : Fin 15) (m : Master) (v : Word) (s : State), (s.accepts m (laneAddr j)) ∧ (v.toNat.testBit 8 = true) ∧ (s.rd (Reg.LANE_STATUS_STATE j) ≠ 3) ∧ (s.rd (Reg.LANE_STATUS_STATE j) ≠ 5)) ∧
    (∃ (j : Fin 15) (m : Master) (v : Word) (s : State), (s.accepts m (laneAddr j)) ∧ ((s.stored m (laneAddr j) v).laneOwned j = false ∨ (bits v.toNat 1 3 = 0 ∧ bits v.toNat 4 3 = 0))) ∧
    (∃ (j : Fin 15) (m : Master) (v : Word) (s : State), (s.accepts m (laneAddr j)) ∧ ((s.stored m (laneAddr j) v).laneOwned j = false) ∧ (s.rd (Reg.LANE_CTRL_PRBS_TX j) ≠ bits v.toNat 1 3)) ∧
    (∃ (j : Fin 15) (m : Master) (v : Word) (s : State), (s.accepts m (laneAddr j)) ∧ ((s.stored m (laneAddr j) v).laneOwned j = true) ∧ (bits v.toNat 1 3 ≠ 0 ∨ bits v.toNat 4 3 ≠ 0)) ∧
    (∃ (j : Fin 15) (m : Master) (v : Word) (s : State), (s.accepts m (laneAddr j)) ∧ (v.toNat.testBit 9 = true)) ∧
    (∃ (j : Fin 15) (m : Master) (v : Word) (s : State), (s.accepts m (laneAddr j)) ∧ (v.toNat.testBit 10 = true)) ∧
    (∃ (j : Fin 15) (w : Word) (s : State), (s.rd (Reg.LANE_STATUS_STATE j) = 2) ∧ (j.val < 13) ∧ (markerFound w.toNat = true) ∧ (s.laneLocks j = true) ∧ (s.on (Reg.LANE_CTRL_ADAPT j) = false)) ∧
    (∃ (j : Fin 15) (w : Word) (s : State), (s.rd (Reg.LANE_STATUS_STATE j) = 2) ∧ (j.val < 13) ∧ (markerFound w.toNat = true) ∧ (s.laneLocks j = true) ∧ (s.on (Reg.LANE_CTRL_ADAPT j) = true)) ∧
    (∃ (j : Fin 15) (k : Option Word) (s : State), (s.rd (Reg.LANE_STATUS_STATE j) = 2) ∧ (j.val < 13) ∧ (s.laneLocks j = false)) ∧
    (∃ (j : Fin 15) (k : Option Word) (s : State), (s.rd (Reg.LANE_STATUS_STATE j) = 2) ∧ (j.val < 13) ∧ (s.on (Reg.LANE_CTRL_LOOPBACK j) = false) ∧ (k.any (fun w => markerFound w.toNat) = false)) ∧
    (∃ (j : Fin 15) (k : Option Word) (s : State), (s.rd (Reg.LANE_STATUS_STATE j) = 2) ∧ (12 < j.val)) ∧
    (∃ (j : Fin 15) (k : Option Word) (s : State), (s.rd (Reg.LANE_STATUS_STATE j) ≠ 2)) ∧
    (∃ (j : Fin 15) (h v : Fin 65) (s : State), (2 ≤ s.rd (Reg.LANE_STATUS_STATE j)) ∧ (s.rd (Reg.LANE_STATUS_STATE j) ≤ 4) ∧ (s.rd (Reg.LANE_THRESH_EYE_MIN j) ≤ eyeScore h v)) ∧
    (∃ (j : Fin 15) (h v : Fin 65) (s : State), ((s.rd (Reg.LANE_STATUS_STATE j) < 2 ∨ 4 < s.rd (Reg.LANE_STATUS_STATE j)) ∨ eyeScore h v < s.rd (Reg.LANE_THRESH_EYE_MIN j))) ∧
    (∃ (j : Fin 15) (n : Fin 65) (s : State), (s.on (Reg.LANE_STATUS_BLOCK_LOCK j) = true) ∧ (16 ≤ (n : Nat))) ∧
    (∃ (j : Fin 15) (h v : Fin 65) (s : State), (s.on (Reg.LANE_STATUS_BLOCK_LOCK j) = true) ∧ (eyeScore h v < s.rd (Reg.LANE_THRESH_EYE_LOSS j))) ∧
    (∃ (j : Fin 15) (x : LossCause) (s : State), (s.on (Reg.LANE_STATUS_BLOCK_LOCK j) = false)) ∧
    (∃ (j : Fin 15) (p : Fin 12) (s : State), (lanePort j = some p) ∧ (s.tlState p = 1) ∧ ((s.port p).train = .lock ∨ (s.port p).train = .relockSlow)) ∧
    (∃ (j : Fin 15) (h v : Fin 65) (taps : BitVec 30) (s : State), (s.rd (Reg.LANE_STATUS_STATE j) = 5) ∧ (eyeScore h v < s.rd (Reg.LANE_THRESH_EYE_OK j))) ∧
    (∃ (j : Fin 15) (h v : Fin 65) (taps : BitVec 30) (s : State), (s.rd (Reg.LANE_STATUS_STATE j) = 3 ∨ s.rd (Reg.LANE_STATUS_STATE j) = 4)) ∧
    (∃ (j : Fin 15) (h v : Fin 65) (taps : BitVec 30) (s : State), (s.rd (Reg.LANE_STATUS_STATE j) = 5) ∧ (s.rd (Reg.LANE_THRESH_EYE_OK j) ≤ eyeScore h v)) ∧
    (∃ (j : Fin 15) (sc : List Byte) (h v : Fin 65) (taps : BitVec 30) (s : State), (s.rd (Reg.LANE_STATUS_STATE j) = 4) ∧ (s.on (Reg.LANE_STATUS_BLOCK_LOCK j) = true) ∧ (s.rd (Reg.LANE_THRESH_EYE_MIN j) ≤ eyeScore h v)) ∧
    (∃ (j : Fin 15) (sc : List Byte) (h v : Fin 65) (taps : BitVec 30) (s : State), (s.rd (Reg.LANE_STATUS_STATE j) = 3 ∨ s.rd (Reg.LANE_STATUS_STATE j) = 4) ∧ (s.on (Reg.LANE_STATUS_BLOCK_LOCK j) = false ∨ eyeScore h v < s.rd (Reg.LANE_THRESH_EYE_MIN j))) ∧
    (∃ (j : Fin 15) (bits : List Bool) (s : State), (patternOf (s.rd (Reg.LANE_CTRL_PRBS_RX j)) ≠ 0) ∧ (patternOf (s.rd (Reg.LANE_CTRL_PRBS_TX j)) = 0) ∧ (s.on (Reg.LANE_CTRL_LOOPBACK j) = false)) ∧
    (∃ (j : Fin 15) (bits : List Bool) (s : State), (patternOf (s.rd (Reg.LANE_CTRL_PRBS_RX j)) ≠ 0) ∧ (s.on (Reg.LANE_CTRL_LOOPBACK j) = true)) ∧
    (∃ (j : Fin 15) (bits : List Bool) (s : State), (patternOf (s.rd (Reg.LANE_CTRL_PRBS_TX j)) ≠ 0) ∧ (patternOf (s.rd (Reg.LANE_CTRL_PRBS_RX j)) = 0) ∧ ((s.lane.pair[j]).inject = [])) ∧
    (∃ (j : Fin 15) (bits : List Bool) (s : State), (patternOf (s.rd (Reg.LANE_CTRL_PRBS_TX j)) = 0) ∧ (patternOf (s.rd (Reg.LANE_CTRL_PRBS_RX j)) = 0)) ∧
    (∃ (j : Fin 15) (bits : List Bool) (s : State), (patternOf (s.rd (Reg.LANE_CTRL_PRBS_RX j)) ≠ 0) ∧ (patternOf (s.rd (Reg.LANE_CTRL_PRBS_TX j)) = 0) ∧ (s.on (Reg.LANE_CTRL_LOOPBACK j) = false)) :=
  ⟨⟨5, .engine 0, 1, tst [], by decide +kernel⟩,
   ⟨5, .engine 0, 0x100, tst [((Reg.LANE_STATUS_STATE 5), 5)], by decide +kernel⟩,
   ⟨5, .engine 0, 0x100, tst [((Reg.LANE_STATUS_STATE 5), 2)], by decide +kernel⟩,
   ⟨5, .engine 0, 2, tst [], by decide +kernel⟩,
   ⟨5, .engine 0, 2, tst [], by decide +kernel⟩,
   ⟨5, .engine 0, 2, tst [((Reg.TL_CTRL_EN 5), 1)], by decide +kernel⟩,
   ⟨5, .engine 0, 0x200, tst [((Reg.LANE_STATUS_STATE 5), 5)], by decide +kernel⟩,
   ⟨5, .engine 0, 0x400, tst [((Reg.LANE_STATUS_STATE 5), 5)], by decide +kernel⟩,
   ⟨5, BitVec.ofNat 32 burstMarker, tst [((Reg.LANE_STATUS_STATE 5), 2), ((Reg.LANE_STATUS_CDR_LOCK 5), 1), ((Reg.LANE_STATUS_BLOCK_LOCK 5), 1), ((Reg.LANE_EYE_SCORE 5), 255)], by decide +kernel⟩,
   ⟨5, BitVec.ofNat 32 burstMarker, tst [((Reg.LANE_STATUS_STATE 5), 2), ((Reg.LANE_CTRL_ADAPT 5), 1), ((Reg.LANE_STATUS_CDR_LOCK 5), 1), ((Reg.LANE_STATUS_BLOCK_LOCK 5), 1), ((Reg.LANE_EYE_SCORE 5), 255)], by decide +kernel⟩,
   ⟨5, some 0, tst [((Reg.LANE_STATUS_STATE 5), 2)], by decide +kernel⟩,
   ⟨5, some 0, tst [((Reg.LANE_STATUS_STATE 5), 2), ((Reg.LANE_STATUS_CDR_LOCK 5), 1), ((Reg.LANE_STATUS_BLOCK_LOCK 5), 1), ((Reg.LANE_EYE_SCORE 5), 255)], by decide +kernel⟩,
   ⟨13, none, tst [((Reg.LANE_STATUS_STATE 13), 2)], by decide +kernel⟩,
   ⟨5, none, tst [], by decide +kernel⟩,
   ⟨5, 40, 40, tst [((Reg.LANE_STATUS_STATE 5), 3)], by decide +kernel⟩,
   ⟨5, 40, 40, tst [], by decide +kernel⟩,
   ⟨5, 16, tst [((Reg.LANE_STATUS_BLOCK_LOCK 5), 1)], by decide +kernel⟩,
   ⟨5, 1, 1, tst [((Reg.LANE_STATUS_BLOCK_LOCK 5), 1)], by decide +kernel⟩,
   ⟨5, .headers 20, tst [], by decide +kernel⟩,
   ⟨5, 5, { tst [((Reg.TL_STATUS_STATE 5), 1)] with tl := { port := .replicate 12 { train := .lock } } }, by decide +kernel⟩,
   ⟨5, 1, 1, 7, tst [((Reg.LANE_STATUS_STATE 5), 5)], by decide +kernel⟩,
   ⟨5, 1, 1, 5, tst [((Reg.LANE_STATUS_STATE 5), 3)], by decide +kernel⟩,
   ⟨5, 64, 64, 7, tst [((Reg.LANE_STATUS_STATE 5), 5)], by decide +kernel⟩,
   ⟨5, [], 40, 40, 7, tst [((Reg.LANE_STATUS_STATE 5), 4), ((Reg.LANE_STATUS_BLOCK_LOCK 5), 1)], by decide +kernel⟩,
   ⟨5, [1, 9, 9], 1, 1, 7, tst [((Reg.LANE_STATUS_STATE 5), 3)], by decide +kernel⟩,
   ⟨5, List.replicate 80 false, tst [((Reg.LANE_CTRL_PRBS_RX 5), 1), ((Reg.LANE_STATUS_PRBS_SYNC 5), 0)], by decide +kernel⟩,
   ⟨5, List.replicate 80 false, tst [((Reg.LANE_CTRL_PRBS_RX 5), 1), ((Reg.LANE_CTRL_PRBS_TX 5), 1), ((Reg.LANE_CTRL_LOOPBACK 5), 1)], by decide +kernel⟩,
   ⟨5, [true], tst [((Reg.LANE_CTRL_PRBS_TX 5), 1)], by decide +kernel⟩,
   ⟨5, [true], tst [], by decide +kernel⟩,
   ⟨5, [true], tst [((Reg.LANE_CTRL_PRBS_RX 5), 1), ((Reg.LANE_STATUS_PRBS_SYNC 5), 1)], by decide +kernel⟩⟩

theorem test_meets_PixelHealthCommands :
    (∃ (m : Master) (v : Word) (s : State), (s.accepts m 0x200D0000) ∧ (s.on Reg.FT_STATUS_RUN = false) ∧ (v.toNat.testBit 0 = false)) ∧
    (∃ (m : Master) (v : Word) (s : State), (s.accepts m 0x200D0000) ∧ (s.on Reg.FT_STATUS_RUN = false) ∧ (v.toNat.testBit 0 = true)) ∧
    (∃ (m : Master) (v : Word) (s : State), (s.accepts m 0x200D0000) ∧ (s.on Reg.FT_STATUS_RUN = true)) ∧
    (∃ (m : Master) (v : Word) (s : State), (s.accepts m 0x200D0000) ∧ (v.toNat.testBit 2 = true)) ∧
    (∃ (m : Master) (v : Word) (s : State), (s.accepts m 0x200D0040) ∧ (v.toNat.testBit 31 = true) ∧ (s.hlth.queue.length < 256)) ∧
    (∃ (m : Master) (v : Word) (s : State), (s.accepts m 0x200D0040) ∧ (v.toNat.testBit 31 = true) ∧ (¬ s.hlth.queue.length < 256)) ∧
    (∃ (s : State), (s.hlth.reports ≠ [])) ∧
    (∃ (s : State), (s.hlth.reports = [])) ∧
    (∃ (m : Master) (v : Word) (s : State) (x : Update) (r : List Update), (s.accepts m 0x200D004C) ∧ (v.toNat.testBit 0 = true) ∧ (s.hlth.reports = x :: r)) ∧
    (∃ (m : Master) (v : Word) (s : State), (s.accepts m 0x200D004C) ∧ (v.toNat.testBit 0 = true) ∧ (s.hlth.reports = [])) :=
  ⟨⟨.engine 0, 0, tst [(Reg.HLTH_CTRL_EN, 1)], by decide +kernel⟩,
   ⟨.engine 0, 1, tst [], by decide +kernel⟩,
   ⟨.engine 0, 1, tst [(Reg.FT_STATUS_RUN, 1)], by decide +kernel⟩,
   ⟨.engine 0, 4, tst [], by decide +kernel⟩,
   ⟨.engine 0, 0x80000000, tst [], by decide +kernel⟩,
   ⟨.engine 0, 0x80000000, { tst [] with hlth := { queue := .replicate 256 {} } }, by decide +kernel⟩,
   ⟨{ tst [] with hlth := { reports := [{}] } }, by decide +kernel⟩,
   ⟨tst [], by decide +kernel⟩,
   ⟨.engine 0, 1, { tst [] with hlth := { reports := [{}] } }, {}, [], by decide +kernel⟩,
   ⟨.engine 0, 1, tst [], by decide +kernel⟩⟩

theorem test_meets_LedSupplyStates :
    (∃ (m : Master) (v : Word) (s : State), (s.accepts m 0x200E0000) ∧ (v.toNat.testBit 0 = true) ∧ (s.rd Reg.LSC_STATUS_STATE = 0) ∧ ((s.stored m 0x200E0000 v).understudyRole = false) ∧ ((s.stored m 0x200E0000 v).lscProt = false)) ∧
    (∃ (m : Master) (v : Word) (s : State), (s.accepts m 0x200E0000) ∧ (v.toNat.testBit 0 = true) ∧ (s.rd Reg.LSC_STATUS_STATE = 0) ∧ (((s.stored m 0x200E0000 v).understudyRole || (s.stored m 0x200E0000 v).lscProt) = true)) ∧
    (∃ (m : Master) (v : Word) (s : State), (s.accepts m 0x200E0000) ∧ (v.toNat.testBit 0 = false)) ∧
    (∃ (c : Vector (Fin 4096) 20) (s : State), (s.lscPowered = true) ∧ (s.rd Reg.LSC_STATUS_STATE = 1)) ∧
    (∃ (c : Vector (Fin 4096) 20) (s : State), (s.lscPowered = false)) ∧
    (∃ (c : Vector (Fin 4096) 20) (s : State), (s.rd Reg.LSC_STATUS_STATE ≠ 1)) ∧
    (∃ (c : Fin 4096) (s : State), (s.lscPowered = false)) ∧
    (∃ (c : Fin 4096) (s : State), (s.lscPowered = true)) ∧
    (∃ (ph : Fin 4) (c : Fin 4096) (s : State), (s.lscPowered = true) ∧ (s.phaseOn ph = true)) ∧
    (∃ (ph : Fin 4) (c : Fin 4096) (s : State), (s.lscPowered = false ∨ s.phaseOn ph = false)) ∧
    (∃ (ph : Fin 4) (again : Bool) (s : State), (s.lscPowered = true) ∧ (s.rd Reg.LSC_STATUS_STATE ≠ 0)) ∧
    (∃ (ph : Fin 4) (again : Bool) (s : State), (s.lscPowered = false)) ∧
    (∃ (ph : Fin 4) (again : Bool) (s : State), (s.rd Reg.LSC_STATUS_STATE = 0)) ∧
    (∃ (s : State), (s.rd Reg.LSC_STATUS_STATE ≠ 0) ∧ (s.lscPowered = true) ∧ (s.lsc.ocRun.toList.any (fun n => decide (max 1 (s.rd Reg.LSC_PROT1_OC_CNT) ≤ n)) = true)) ∧
    (∃ (s : State), (s.rd Reg.LSC_STATUS_STATE = 0) ∧ (s.on Reg.LSC_STATUS_OC = false) ∧ (s.lscPowered = true) ∧ (s.lsc.ocRun.toList.any (fun n => decide (max 1 (s.rd Reg.LSC_PROT1_OC_CNT) ≤ n)) = true)) ∧
    (∃ (s : State), (s.rd Reg.LSC_STATUS_STATE = 0) ∧ (s.on Reg.LSC_STATUS_OC = true) ∧ (s.lscPowered = true) ∧ (s.lsc.ocRun.toList.any (fun n => decide (max 1 (s.rd Reg.LSC_PROT1_OC_CNT) ≤ n)) = true)) ∧
    (∃ (s : State), (s.lsc.ocRun.toList.any (fun n => decide (max 1 (s.rd Reg.LSC_PROT1_OC_CNT) ≤ n)) = false)) ∧
    (∃ (s : State), (s.lscPowered = false)) ∧
    (∃ (s : State), (s.rd Reg.LSC_STATUS_STATE ≠ 0) ∧ (s.lscPowered = true)) ∧
    (∃ (s : State), (s.rd Reg.LSC_STATUS_STATE = 0) ∧ (s.on Reg.LSC_STATUS_OV = false) ∧ (s.lscPowered = true)) ∧
    (∃ (s : State), (s.rd Reg.LSC_STATUS_STATE = 0) ∧ (s.on Reg.LSC_STATUS_OV = true) ∧ (s.lscPowered = true)) ∧
    (∃ (s : State), (s.rd Reg.LSC_STATUS_STATE ≠ 0) ∧ (s.lscPowered = true) ∧ (decide (max 1 (s.rd Reg.LSC_PROT0_UV_US) * 10 ≤ s.lsc.uvRun) = true)) ∧
    (∃ (s : State), (s.rd Reg.LSC_STATUS_STATE = 0) ∧ (s.on Reg.LSC_STATUS_UV = false) ∧ (s.lscPowered = true) ∧ (decide (max 1 (s.rd Reg.LSC_PROT0_UV_US) * 10 ≤ s.lsc.uvRun) = true)) ∧
    (∃ (s : State), (s.rd Reg.LSC_STATUS_STATE = 0) ∧ (s.on Reg.LSC_STATUS_UV = true) ∧ (s.lscPowered = true) ∧ (decide (max 1 (s.rd Reg.LSC_PROT0_UV_US) * 10 ≤ s.lsc.uvRun) = true)) ∧
    (∃ (s : State), (decide (max 1 (s.rd Reg.LSC_PROT0_UV_US) * 10 ≤ s.lsc.uvRun) = false)) ∧
    (∃ (s : State), (s.rd Reg.LSC_STATUS_STATE = 0) ∧ (s.on Reg.LSC_STATUS_EXT = false) ∧ (s.lscPowered = true)) ∧
    (∃ (s : State), (s.rd Reg.LSC_STATUS_STATE = 0) ∧ (s.on Reg.LSC_STATUS_EXT = true) ∧ (s.lscPowered = true)) :=
  ⟨⟨.engine 0, 1, tst [], by decide +kernel⟩,
   ⟨.engine 0, 1, tst [(Reg.LSC_STATUS_OV, 1)], by decide +kernel⟩,
   ⟨.engine 0, 0, tst [(Reg.LSC_STATUS_STATE, 2)], by decide +kernel⟩,
   ⟨.replicate 20 2000, tst [(Reg.LSC_STATUS_STATE, 1)], by decide +kernel⟩,
   ⟨.replicate 20 2000, tst [(domFld 12, 0), (Reg.LSC_STATUS_STATE, 1)], by decide +kernel⟩,
   ⟨.replicate 20 2000, tst [], by decide +kernel⟩,
   ⟨5, tst [(domFld 12, 0)], by decide +kernel⟩,
   ⟨5, tst [], by decide +kernel⟩,
   ⟨0, 100, tst [], by decide +kernel⟩,
   ⟨3, 100, tst [(Reg.LSC_PHASE_NPH, 1)], by decide +kernel⟩,
   ⟨1, true, tst [(Reg.LSC_STATUS_STATE, 2)], by decide +kernel⟩,
   ⟨1, true, tst [(domFld 12, 0), (Reg.LSC_STATUS_STATE, 2)], by decide +kernel⟩,
   ⟨1, true, tst [], by decide +kernel⟩,
   ⟨{ tst [(Reg.LSC_STATUS_STATE, 2)] with lsc := { ocRun := .replicate 4 99 } }, by decide +kernel⟩,
   ⟨{ tst [] with lsc := { ocRun := .replicate 4 99 } }, by decide +kernel⟩,
   ⟨{ tst [(Reg.LSC_STATUS_OC, 1)] with lsc := { ocRun := .replicate 4 99 } }, by decide +kernel⟩,
   ⟨tst [(Reg.LSC_STATUS_STATE, 2)], by decide +kernel⟩,
   ⟨tst [(domFld 12, 0)], by decide +kernel⟩,
   ⟨tst [(Reg.LSC_STATUS_STATE, 2)], by decide +kernel⟩,
   ⟨tst [], by decide +kernel⟩,
   ⟨tst [(Reg.LSC_STATUS_OV, 1)], by decide +kernel⟩,
   ⟨{ tst [(Reg.LSC_STATUS_STATE, 2)] with lsc := { uvRun := 9999999 } }, by decide +kernel⟩,
   ⟨{ tst [] with lsc := { uvRun := 9999999 } }, by decide +kernel⟩,
   ⟨{ tst [(Reg.LSC_STATUS_UV, 1)] with lsc := { uvRun := 9999999 } }, by decide +kernel⟩,
   ⟨tst [(Reg.LSC_STATUS_STATE, 2)], by decide +kernel⟩,
   ⟨tst [], by decide +kernel⟩,
   ⟨tst [(Reg.LSC_STATUS_EXT, 1)], by decide +kernel⟩⟩

theorem test_meets_ThermalModelAndDie :
    (∃ (m : Master) (v : Word) (s : State), (s.accepts m 0x200F0000) ∧ (v.toNat.testBit 0 = true) ∧ (s.on Reg.THM_CTRL_EN = false)) ∧
    (∃ (m : Master) (v : Word) (s : State), (s.accepts m 0x200F0000) ∧ (v.toNat.testBit 0 = true) ∧ (s.on Reg.THM_CTRL_EN = true)) ∧
    (∃ (m : Master) (v : Word) (g : Fin 192) (s : State), (s.accepts m 0x200F0000) ∧ (v.toNat.testBit 0 = false)) ∧
    (∃ (a : Vector (Vector (Fin 4096) 16) 8) (s : State), (s.on Reg.THM_CTRL_EN = true)) ∧
    (∃ (a : Vector (Vector (Fin 4096) 16) 8) (s : State), (s.on Reg.THM_CTRL_EN = false)) ∧
    (∃ (s : State), (s.on Reg.THM_CTRL_EN = true) ∧ (100 ≤ s.thm.steps)) ∧
    (∃ (g : Fin 192) (s : State), (s.on Reg.THM_CTRL_EN = true) ∧ (100 ≤ s.thm.steps) ∧ (s.lv Reg.THM_CTRL_ZTHR_EN ≠ 0)) ∧
    (∃ (g : Fin 192) (s : State), (s.on Reg.THM_CTRL_EN = true) ∧ (100 ≤ s.thm.steps) ∧ (s.lv Reg.THM_CTRL_ZTHR_EN = 0)) ∧
    (∃ (s : State), (s.on Reg.THM_CTRL_EN = true) ∧ (100 ≤ s.thm.steps) ∧ (s.lv Reg.THM_CTRL_TTHR_EN ≠ 0) ∧ (s.lv Reg.THM_LIMIT_PTOT_MAX ≠ 0)) ∧
    (∃ (g : Fin 192) (s : State), (s.on Reg.THM_CTRL_EN = true) ∧ (100 ≤ s.thm.steps)) ∧
    (∃ (s : State), (s.on Reg.THM_CTRL_EN = false ∨ s.thm.steps < 100)) ∧
    (∃ (x : Fin 12) (k : Fin 8) (s : State), (¬ s.thm.ntcDev[k] ≤ 2000)) ∧
    (∃ (x : Fin 12) (k : Fin 8) (s : State), (¬ (s.thm.tile[x]).dev[k] ≤ 2000)) ∧
    (∃ (x : Fin 12) (k : Fin 8) (s : State), (s.thm.ntcDev[k] ≤ 2000)) ∧
    (∃ (x : Fin 12) (s : State), (¬ (s.thm.tile[x]).model ≤ 10000)) ∧
    (∃ (x : Fin 12) (s : State), ((s.thm.tile[x]).model ≤ 10000)) ∧
    (∃ (p x : Fin 12) (k : Fin 8) (s : State) (i : Image), (s.image = some i) ∧ (i.tileOf p = some x.val)) ∧
    (∃ (p : Fin 12) (s : State), (s.image = none)) ∧
    (∃ (a b c d : Int) (s : State), (s.alive 1 = true) ∧ (-32768 ≤ max (max a b) (max c d)) ∧ (max (max a b) (max c d) < 32768)) ∧
    (∃ (a b c d : Int) (s : State), (s.alive 1 = true) ∧ (115 * 256 ≤ max (max a b) (max c d)) ∧ (s.on Reg.THM_STATUS_DIE_HOT = false)) ∧
    (∃ (a b c d : Int) (s : State), (s.alive 1 = true) ∧ (max (max a b) (max c d) < 110 * 256)) ∧
    (∃ (a b c d : Int) (s : State), (s.alive 1 = true) ∧ (125 * 256 ≤ max (max a b) (max c d)) ∧ (s.on Reg.THM_STATUS_DIE_OVR = false)) ∧
    (∃ (a b c d : Int) (s : State), (s.alive 1 = true) ∧ (135 * 256 ≤ max (max a b) (max c d)) ∧ (s.thm.shut = false) ∧ (s.cal.op.isSome = true)) ∧
    (∃ (a b c d : Int) (s : State), (s.alive 1 = true) ∧ (135 * 256 ≤ max (max a b) (max c d)) ∧ (s.thm.shut = false) ∧ (s.cal.op = none)) ∧
    (∃ (s : State), (s.pwr.shutdown = true)) ∧
    (∃ (a b c d : Int) (s : State), (s.alive 1 = false)) ∧
    (∃ (k : Nat) (s : State), (s.thm.cause = some k) ∧ (s.pwr.shutdown = false)) ∧
    (∃ (s : State), (s.thm.cause = none)) ∧
    (∃ (s : State), (s.thm.defer = true)) ∧
    (∃ (s : State), (s.thm.defer = false)) ∧
    (∃ (s : State), (s.pwr.shutdown = true) ∧ (s.rd Reg.CLKRST_CAUSE_CAUSE = 6) ∧ (s.on Reg.THM_CTRL_SHUT_AUTO = true)) ∧
    (∃ (s : State), (s.pwr.shutdown = false ∨ s.rd Reg.CLKRST_CAUSE_CAUSE ≠ 6 ∨ s.on Reg.THM_CTRL_SHUT_AUTO = false)) :=
  ⟨⟨.engine 0, 1, tst [], by decide +kernel⟩,
   ⟨.engine 0, 1, tst [(Reg.THM_CTRL_EN, 1)], by decide +kernel⟩,
   ⟨.engine 0, 0, 100, tst [(Reg.THM_CTRL_EN, 1)], by decide +kernel⟩,
   ⟨.replicate 8 (.replicate 16 0), tst [(Reg.THM_CTRL_EN, 1)], by decide +kernel⟩,
   ⟨.replicate 8 (.replicate 16 0), tst [], by decide +kernel⟩,
   ⟨{ tst [(Reg.THM_CTRL_EN, 1)] with thm := { steps := 100 } }, by decide +kernel⟩,
   ⟨3, ({ tst [(Reg.THM_CTRL_EN, 1)] with thm := { steps := 100 } } : State).wl Reg.THM_CTRL_ZTHR_EN 1, by decide +kernel⟩,
   ⟨3, ({ tst [(Reg.THM_CTRL_EN, 1)] with thm := { steps := 100 } } : State).wl Reg.THM_CTRL_ZTHR_EN 0, by decide +kernel⟩,
   ⟨(({ tst [(Reg.THM_CTRL_EN, 1)] with thm := { steps := 100 } } : State).wl Reg.THM_CTRL_TTHR_EN 1).wl Reg.THM_LIMIT_PTOT_MAX 50, by decide +kernel⟩,
   ⟨3, { tst [(Reg.THM_CTRL_EN, 1)] with thm := { steps := 100 } }, by decide +kernel⟩,
   ⟨{ tst [] with thm := { steps := 100 } }, by decide +kernel⟩,
   ⟨0, 2, { tst [] with thm := { ntcDev := .replicate 8 2001 } }, by decide +kernel⟩,
   ⟨5, 2, { tst [] with thm := { tile := .replicate 12 { dev := .replicate 8 2001 } } }, by decide +kernel⟩,
   ⟨0, 2, tst [], by decide +kernel⟩,
   ⟨5, { tst [] with thm := { tile := .replicate 12 { model := 10001 } } }, by decide +kernel⟩,
   ⟨5, tst [], by decide +kernel⟩,
   ⟨3, 3, 1, withImage [], tImage, by decide +kernel⟩,
   ⟨3, tst [], by decide +kernel⟩,
   ⟨0x1900, -5, 0x1A00, 0, tst [], by decide +kernel⟩,
   ⟨0x7400, 0, 0, 0, tst [], by decide +kernel⟩,
   ⟨0x1900, 0, 0, 0, tst [(Reg.THM_STATUS_DIE_HOT, 1)], by decide +kernel⟩,
   ⟨0x7D00, 0, 0, 0, tst [], by decide +kernel⟩,
   ⟨0x8700, 0, 0, 0, { tst [] with cal := { op := some { write := true, id := 1, data := [], auto := false } } }, by decide +kernel⟩,
   ⟨0x8700, 0, 0, 0, tst [], by decide +kernel⟩,
   ⟨{ tst [] with pwr := { shutdown := true }, thm := { cause := some 6 } }, by decide +kernel⟩,
   ⟨0x8700, 0, 0, 0, (tst []).setDoms (fun _ => 0), by decide +kernel⟩,
   ⟨6, { tst [] with thm := { cause := some 6 } }, by decide +kernel⟩,
   ⟨tst [], by decide +kernel⟩,
   ⟨{ tst [] with thm := { defer := true } }, by decide +kernel⟩,
   ⟨tst [], by decide +kernel⟩,
   ⟨{ tst [(Reg.CLKRST_CAUSE_CAUSE, 6), (Reg.THM_CTRL_SHUT_AUTO, 1)] with pwr := { shutdown := true } }, by decide +kernel⟩,
   ⟨{ tst [(Reg.CLKRST_CAUSE_CAUSE, 7), (Reg.THM_CTRL_SHUT_AUTO, 1)] with pwr := { shutdown := true } }, by decide +kernel⟩⟩

theorem test_meets_CalibrationRuns :
    (∃ (m : Master) (v : Word) (s : State), (s.accepts m 0x20100000) ∧ (v.toNat.testBit 0 = true) ∧ (s.on Reg.CAL_CTRL_EN = false)) ∧
    (∃ (m : Master) (v : Word) (s : State), (s.accepts m 0x20100000) ∧ (v.toNat.testBit 0 = false)) ∧
    (∃ (s : State), (s.on Reg.CAL_CTRL_EN = true)) ∧
    (∃ (s : State), (s.on Reg.CAL_CTRL_EN = false)) ∧
    (∃ (z c : List (BitVec 18)) (l : List (Fin 4096)) (s : State), (s.cal.corr = true) ∧ (({ s with cal := { s.cal with corr := false, calp := s.calpTaken l } }.adcRanges z c).adcAllOk = true) ∧ (s.on Reg.CAL_STATUS_ADC_VALID = false)) ∧
    (∃ (z c : List (BitVec 18)) (l : List (Fin 4096)) (s : State), (s.cal.corr = false)) ∧
    (∃ (m : Master) (v : Word) (s : State), (s.accepts m 0x20100000) ∧ (v.toNat.testBit 1 = true) ∧ (s.on Reg.CAL_STATUS_RUN = false) ∧ (s.on Reg.CAL_CTRL_EN = true) ∧ ((s.stored m 0x20100000 v).understudy = false)) ∧
    (∃ (m : Master) (v : Word) (s : State), (s.accepts m 0x20100000) ∧ (v.toNat.testBit 1 = true) ∧ (s.on Reg.CAL_STATUS_RUN = true)) ∧
    (∃ (s : State), (s.on Reg.CAL_TRIG_INTERVAL = true) ∧ (s.on Reg.CAL_STATUS_RUN = false) ∧ (s.on Reg.CAL_CTRL_EN = true) ∧ (s.understudy = false)) ∧
    (∃ (s : State), (s.on Reg.CAL_TRIG_INTERVAL = false)) ∧
    (∃ (s : State) (x : Int), (s.tm = some x) ∧ (s.on Reg.CAL_CTRL_TEMP_TRIG = true) ∧ (s.on Reg.CAL_STATUS_KI_VALID = true) ∧ (max 1 (s.rd Reg.CAL_TRIG_DT) * 256 < (x - signed 16 (s.rd Reg.CAL_LAST_TEMP_TEMP)).natAbs) ∧ (s.on Reg.CAL_STATUS_RUN = false) ∧ (s.on Reg.CAL_CTRL_EN = true) ∧ (s.understudy = false)) ∧
    (∃ (s : State), (s.tm = none)) ∧
    (∃ (s : State), (s.on Reg.CAL_STATUS_RUN = true)) ∧
    (∃ (s : State), (s.on Reg.CAL_STATUS_RUN = false)) ∧
    (∃ (s : State), (s.cal.autoDue = true) ∧ (s.on Reg.CAL_NV_STATUS_NV_BUSY = false) ∧ (s.thm.shut = false)) ∧
    (∃ (s : State), (s.cal.autoDue = false)) :=
  ⟨⟨.engine 0, 1, tst [], by decide +kernel⟩,
   ⟨.engine 0, 0, tst [(Reg.CAL_CTRL_EN, 1)], by decide +kernel⟩,
   ⟨tst [(Reg.CAL_CTRL_EN, 1)], by decide +kernel⟩,
   ⟨tst [], by decide +kernel⟩,
   ⟨[], [174760, 209712, 174760], [], { tst [] with cal := { corr := true } }, by decide +kernel⟩,
   ⟨[], [], [], tst [], by decide +kernel⟩,
   ⟨.engine 0, 2, tst [(Reg.CAL_CTRL_EN, 1)], by decide +kernel⟩,
   ⟨.engine 0, 2, tst [(Reg.CAL_STATUS_RUN, 1)], by decide +kernel⟩,
   ⟨tst [(Reg.CAL_TRIG_INTERVAL, 5), (Reg.CAL_CTRL_EN, 1)], by decide +kernel⟩,
   ⟨tst [], by decide +kernel⟩,
   ⟨withImage [(Reg.CAL_CTRL_TEMP_TRIG, 1), (Reg.CAL_STATUS_KI_VALID, 1), (Reg.CAL_CTRL_EN, 1), (Reg.CAL_LAST_TEMP_TEMP, 0x4000)], 0, by decide +kernel⟩,
   ⟨tst [], by decide +kernel⟩,
   ⟨tst [(Reg.CAL_STATUS_RUN, 1)], by decide +kernel⟩,
   ⟨tst [], by decide +kernel⟩,
   ⟨{ tst [] with cal := { autoDue := true } }, by decide +kernel⟩,
   ⟨tst [], by decide +kernel⟩⟩

theorem test_meets_ExternalCalibrationAndStore :
    (∃ (m : Master) (v : Word) (s : State), (s.accepts m 0x20100050) ∧ (v.toNat.testBit 0 = true) ∧ (s.on Reg.CAL_STATUS_RUN = false) ∧ (s.on Reg.CAL_EXT_STATUS_BUSY = false) ∧ ((s.stored m 0x20100050 v).understudy = false)) ∧
    (∃ (m : Master) (v : Word) (s : State), (s.accepts m 0x20100050) ∧ (v.toNat.testBit 0 = true) ∧ (s.on Reg.CAL_STATUS_RUN = true)) ∧
    (∃ (m : Master) (v : Word) (s : State), (s.accepts m 0x20100050) ∧ (v.toNat.testBit 1 = true) ∧ (s.on Reg.CAL_EXT_STATUS_BUSY = true) ∧ (s.cal.taking = false) ∧ (s.cal.steps.length < 8)) ∧
    (∃ (m : Master) (v : Word) (s : State), (s.accepts m 0x20100050) ∧ (v.toNat.testBit 2 = true) ∧ (s.on Reg.CAL_EXT_STATUS_BUSY = true) ∧ ((if s.cal.taking then s.cal.steps.drop 1 else s.cal.steps).length < 4)) ∧
    (∃ (m : Master) (v : Word) (s : State) (ki : Nat) (i0 : Int), (s.accepts m 0x20100050) ∧ (v.toNat.testBit 2 = true) ∧ (s.on Reg.CAL_EXT_STATUS_BUSY = true) ∧ (s.cal.taking = false) ∧ (4 ≤ s.cal.steps.length) ∧ (8 * s.rd Reg.CAL_CFG_XSD_MIN * 65536 ≤ (s.cal.steps.map (fun e => e.x / 16)).foldl max 0 - (s.cal.steps.map (fun e => e.x / 16)).foldl min ((s.cal.steps.map (fun e => e.x / 16)).foldl max 0)) ∧ (131072 ≤ extScorr s.cal.steps * 10 ∧ extScorr s.cal.steps ≤ 20480) ∧ (((s.stored m 0x20100050 v).calEval (s.cal.steps.map (fun e => (e.x / 16, e.i / 16))) false).1 = .passed ki i0) ∧ (ki < 2 ^ 32)) ∧
    (∃ (m : Master) (v : Word) (s : State), (s.accepts m 0x20100050) ∧ (v.toNat.testBit 3 = true) ∧ (s.on Reg.CAL_EXT_STATUS_BUSY = true)) ∧
    (∃ (m : Master) (v : Word) (s : State), (s.accepts m 0x20100080) ∧ (v.toNat.testBit 24 = true) ∧ (s.on Reg.CAL_NV_STATUS_NV_BUSY = false) ∧ ((s.stored m 0x20100080 v).nvNewer ((s.stored m 0x20100080 v).rd Reg.CAL_NV_CTRL_ID) = none)) ∧
    (∃ (m : Master) (v : Word) (s : State) (b : Bool) (q : Nat) (d : List Byte), (s.accepts m 0x20100080) ∧ (v.toNat.testBit 24 = true) ∧ (s.on Reg.CAL_NV_STATUS_NV_BUSY = false) ∧ ((s.stored m 0x20100080 v).nvNewer ((s.stored m 0x20100080 v).rd Reg.CAL_NV_CTRL_ID) = some b) ∧ ((s.stored m 0x20100080 v).nvCopy ((s.stored m 0x20100080 v).rd Reg.CAL_NV_CTRL_ID) b = some (q, d))) ∧
    (∃ (m : Master) (v : Word) (s : State), (s.accepts m 0x20100080) ∧ (v.toNat.testBit 24 = true) ∧ (s.on Reg.CAL_NV_STATUS_NV_BUSY = true)) ∧
    (∃ (m : Master) (v : Word) (s : State), (s.accepts m 0x20100080) ∧ (v.toNat.testBit 25 = true) ∧ (s.thm.shut = false) ∧ (s.on Reg.CAL_NV_STATUS_NV_BUSY = false) ∧ (2028 < (s.stored m 0x20100080 v).rd Reg.CAL_NV_CTRL_LEN ∨ (s.stored m 0x20100080 v).rd Reg.CAL_NV_CTRL_ID = 0 ∨ 0x1F < (s.stored m 0x20100080 v).rd Reg.CAL_NV_CTRL_ID)) ∧
    (∃ (m : Master) (v : Word) (s : State), (s.accepts m 0x20100080) ∧ (v.toNat.testBit 25 = true) ∧ (s.on Reg.CAL_NV_STATUS_NV_BUSY = false) ∧ ((s.stored m 0x20100080 v).rd Reg.CAL_NV_CTRL_LEN ≤ 2028) ∧ (1 ≤ (s.stored m 0x20100080 v).rd Reg.CAL_NV_CTRL_ID ∧ (s.stored m 0x20100080 v).rd Reg.CAL_NV_CTRL_ID ≤ 0x1F) ∧ (s.thm.shut = false)) ∧
    (∃ (k : Bool) (s : State) (o : NvOp), (s.cal.op = some o) ∧ (s.thm.defer = true)) ∧
    (∃ (m : Master) (v : Word) (s : State), (s.accepts m 0x20100080) ∧ (v.toNat.testBit 25 = true) ∧ (s.thm.shut = true)) ∧
    (∃ (m : Master) (v : Word) (s : State), (s.accepts m 0x20100080) ∧ (v.toNat.testBit 25 = true) ∧ (s.on Reg.CAL_NV_STATUS_NV_BUSY = true) ∧ (s.thm.shut = false)) ∧
    (∃ (s : State) (o : NvOp), (s.cal.op = some o) ∧ (s.thm.defer = false)) ∧
    (∃ (k : Bool) (s : State), (s.cal.op = none)) :=
  ⟨⟨.engine 0, 1, tst [], by decide +kernel⟩,
   ⟨.engine 0, 1, tst [(Reg.CAL_STATUS_RUN, 1)], by decide +kernel⟩,
   ⟨.engine 0, 2, tst [(Reg.CAL_EXT_STATUS_BUSY, 1)], by decide +kernel⟩,
   ⟨.engine 0, 4, tst [(Reg.CAL_EXT_STATUS_BUSY, 1)], by decide +kernel⟩,
   ⟨.engine 0, 4, { tst [(Reg.CAL_EXT_STATUS_BUSY, 1)] with cal := { steps := [{}, { x := 2 ^ 32, y := 4096, i := 4096 }, { x := 2 ^ 33, y := 8192, i := 8192 }, { x := 3 * 2 ^ 32, y := 12288, i := 12288 }] } }, 4096, 0, by decide +kernel⟩,
   ⟨.engine 0, 8, tst [(Reg.CAL_EXT_STATUS_BUSY, 1)], by decide +kernel⟩,
   ⟨.engine 0, 0x1000001, tst [], by decide +kernel⟩,
   ⟨.engine 0, 0x1000001, { tst [] with cal := { nv := nvStore [] (nvBase 1 false) (nvImage 1 9 []) } }, false, 9, [], by decide +kernel⟩,
   ⟨.engine 0, 0x1000001, tst [(Reg.CAL_NV_STATUS_NV_BUSY, 1)], by decide +kernel⟩,
   ⟨.engine 0, 0x2000000, tst [], by decide +kernel⟩,
   ⟨.engine 0, 0x2000003, tst [], by decide +kernel⟩,
   ⟨true, { tst [] with thm := { shut := true, defer := true }, cal := { op := some { write := true, id := 1, data := [], auto := false } } }, { write := true, id := 1, data := [], auto := false }, by decide +kernel⟩,
   ⟨.engine 0, 0x2000003, { tst [] with thm := { shut := true } }, by decide +kernel⟩,
   ⟨.engine 0, 0x2000003, tst [(Reg.CAL_NV_STATUS_NV_BUSY, 1)], by decide +kernel⟩,
   ⟨{ tst [] with cal := { op := some { write := true, id := 1, data := [], auto := false } } }, { write := true, id := 1, data := [], auto := false }, by decide +kernel⟩,
   ⟨true, tst [], by decide +kernel⟩⟩

theorem test_meets_CapturesPpsAndCues :
    (∃ (k : Fin 4) (b : Bool) (s : State), ((s.rd (Reg.TIME_CAP_EDGE k)).testBit (if b then 0 else 1) = true) ∧ (8 ≤ (s.time.cap[k]).length)) ∧
    (∃ (k : Fin 4) (b : Bool) (s : State), ((s.rd (Reg.TIME_CAP_EDGE k)).testBit (if b then 0 else 1) = true) ∧ ((s.time.cap[k]).length < 8)) ∧
    (∃ (k : Fin 4) (b : Bool) (s : State), ((s.rd (Reg.TIME_CAP_EDGE k)).testBit (if b then 0 else 1) = false)) ∧
    (∃ (s : State), (s.on Reg.TIME_PPS_EN = true) ∧ (s.tdOn (Fin.ofNat 2 (s.rd Reg.TIME_PPS_DOMAIN)) = true)) ∧
    (∃ (s : State), (s.on Reg.TIME_PPS_EN = false)) ∧
    (∃ (k : Fin 2) (s : State) (x : Nat), (s.time.cueNext[k] = some x) ∧ (x ≤ s.cueNow (s.cueDom k)) ∧ (s.time.cueLate[k] = false)) ∧
    (∃ (k : Fin 2) (s : State), (s.time.cueNext[k] = none)) ∧
    (∃ (k : Fin 2) (s : State), (s.time.pulse[k] = true)) ∧
    (∃ (k : Fin 2) (s : State), (s.time.pulse[k] = false)) ∧
    (∃ (k : Fin 2) (s : State) (x : Nat), (s.time.cueNext[k] = some x) ∧ (x ≤ s.cueNow (s.cueDom k)) ∧ (s.rd (Reg.TIME_CUE_CTRL_PIN k) = 2)) ∧
    (∃ (k : Fin 2) (s : State) (x : Nat), (s.time.cueNext[k] = some x) ∧ (x ≤ s.cueNow (s.cueDom k)) ∧ (s.time.cueLate[k] = true)) :=
  ⟨⟨2, true, { tst [((Reg.TIME_CAP_EDGE 2), 1)] with time := { cap := .replicate 4 (List.replicate 8 {}) } }, by decide +kernel⟩,
   ⟨2, true, tst [((Reg.TIME_CAP_EDGE 2), 1)], by decide +kernel⟩,
   ⟨2, true, tst [((Reg.TIME_CAP_EDGE 2), 0)], by decide +kernel⟩,
   ⟨tst [(Reg.TIME_PPS_EN, 1), ((Reg.TIME_D_CTRL_EN 0), 1)], by decide +kernel⟩,
   ⟨tst [(Reg.TIME_PPS_EN, 0)], by decide +kernel⟩,
   ⟨1, { tst [((Reg.TIME_CUE_CTRL_PIN 1), 1)] with time := { cueNext := .replicate 2 (some 0) } }, 0, by decide +kernel⟩,
   ⟨1, tst [], by decide +kernel⟩,
   ⟨1, { tst [] with time := { pulse := .replicate 2 true, tsout := .replicate 2 true } }, by decide +kernel⟩,
   ⟨1, tst [((Reg.TIME_CUE_CTRL_PIN 1), 2)], by decide +kernel⟩,
   ⟨1, { tst [((Reg.TIME_CUE_CTRL_PIN 1), 2)] with time := { cueNext := .replicate 2 (some 0) } }, 0, by decide +kernel⟩,
   ⟨1, { tst [] with time := { cueNext := .replicate 2 (some 0), cueLate := .replicate 2 true } }, 0, by decide +kernel⟩⟩

theorem test_meets_NetPortCommands :
    (∃ (n : Fin 2) (m : Master) (v : Word) (s : State), (s.accepts m (netCtrl n)) ∧ (v.toNat.testBit 0 = true) ∧ (s.on (Reg.FLT_FENCE_NET n) = false)) ∧
    (∃ (n : Fin 2) (m : Master) (v : Word) (s : State), (s.accepts m (netCtrl n)) ∧ (v.toNat.testBit 0 = true) ∧ (s.on (Reg.FLT_FENCE_NET n) = true)) ∧
    (∃ (n : Fin 2) (m : Master) (v : Word) (s : State), (s.accepts m (netCtrl n)) ∧ (v.toNat.testBit 0 = false)) ∧
    (∃ (n : Fin 2) (k : Nat) (fd : Bool) (s : State), (s.alive 3 = true)) ∧
    (∃ (n : Fin 2) (k : Nat) (fd : Bool) (s : State), (s.alive 3 = true) ∧ (s.on (Reg.NET_CTRL_MODE n) = true) ∧ (s.on (Reg.NET_STATUS_LINK n) = false)) ∧
    (∃ (n : Fin 2) (k : Nat) (fd : Bool) (s : State), (s.alive 3 = true) ∧ (s.on (Reg.NET_CTRL_MODE n) = false) ∧ (fd = true) ∧ (k = 1000)) ∧
    (∃ (n : Fin 2) (m : Master) (v : Word) (s : State), (s.accepts m (netCtrl n)) ∧ (v.toNat.testBit 7 = true) ∧ (s.on (Reg.NET_STATUS_DMA_ERR n) = false)) ∧
    (∃ (n : Fin 2) (m : Master) (v : Word) (s : State), (s.accepts m (netCtrl n)) ∧ (v.toNat.testBit 8 = true) ∧ (s.on (Reg.NET_CTRL_EN n) = true) ∧ (s.on (Reg.NET_STATUS_DMA_ERR n) = false)) ∧
    (∃ (n : Fin 2) (fr : List Byte) (tr : NetTrouble) (e : List (Fin 72 × Byte)) (s : State), (s.on (Reg.NET_CTRL_EN n) = false)) ∧
    (∃ (n : Fin 2) (fr : List Byte) (tr : NetTrouble) (e : List (Fin 72 × Byte)) (s : State), (s.netReaches n fr = false)) ∧
    (∃ (n : Fin 2) (fr : List Byte) (e : List (Fin 72 × Byte)) (s : State), (s.on (Reg.NET_CTRL_EN n) = true) ∧ (s.on (Reg.NET_STATUS_LINK n) = true) ∧ (s.netReaches n fr = true)) ∧
    (∃ (n : Fin 2) (fr : List Byte) (tr : NetTrouble) (e : List (Fin 72 × Byte)) (s : State), (s.on (Reg.NET_CTRL_EN n) = true) ∧ (s.on (Reg.NET_STATUS_LINK n) = true) ∧ (s.netReaches n fr = true) ∧ (tr ≠ .overflow) ∧ (s.frameWhole n fr = false)) ∧
    (∃ (n : Fin 2) (u : TxTrouble) (s : State), (s.net.txRun[n] = false)) ∧
    (∃ (n : Fin 2) (u : TxTrouble) (s : State), (s.on (Reg.NET_CTRL_EN n) = true) ∧ (s.net.txRun[n] = true) ∧ (s.net.txStopped[n] = false) ∧ (s.net.pause[n] ≤ s.now) ∧ (s.readable (s.txDesc n) = false)) ∧
    (∃ (n : Fin 2) (u : TxTrouble) (s : State), (s.on (Reg.NET_CTRL_EN n) = true) ∧ (s.net.txRun[n] = true) ∧ (s.net.txStopped[n] = false) ∧ (s.net.pause[n] ≤ s.now) ∧ (s.readable (s.txDesc n) = true) ∧ (u ≠ .descriptor) ∧ ((s.byte (s.txDesc n + 5)).toNat.testBit 0 = false)) ∧
    (∃ (n : Fin 2) (a l : Nat) (s : State), (s.on (Reg.NET_CTRL_EN n) = true) ∧ (s.net.txRun[n] = true) ∧ (s.net.txStopped[n] = false) ∧ (s.net.pause[n] ≤ s.now) ∧ (s.byte (s.txDesc n + 5) = 1) ∧ (s.num (s.txDesc n) 5 % 2 ^ 36 = a) ∧ (s.num (s.txDesc n + 6) 2 = l) ∧ (14 ≤ l) ∧ (l ≤ s.maxLen n - 4) ∧ (inShared a l = true) ∧ (s.canRead a l = true) ∧ (inShared (s.txDesc n) 32 = true) ∧ (s.chipWritable (.netDma n) (s.txDesc n) = true) ∧ (s.protectedFrom (.master (.netDma n)) (s.txDesc n + 12) = false) ∧ (s.protectedFrom (.master (.netDma n)) (s.txDesc n + 5) = false)) ∧
    (∃ (n : Fin 2) (x f : List Byte) (a : Nat) (s : State), (s.on (Reg.NET_CTRL_EN n) = true) ∧ (s.on (Reg.NET_STATUS_LINK n) = true) ∧ (s.netReaches n x = true) ∧ (s.frameWhole n x = true) ∧ (x.take (x.length - 4) = f) ∧ (s.on (Reg.NET_CTRL_PAUSE_EN n) = false) ∧ (s.vlanOk n f = true) ∧ (s.addrPass n f = true) ∧ (s.on (Reg.NET_CTRL_PRP_EN 0) = false) ∧ (s.safeOf f = none) ∧ (s.net.rxStopped[n] = false) ∧ ((s.byte (s.rxDesc n + 5)).toNat.testBit 0 = true) ∧ (s.num (s.rxDesc n) 5 % 2 ^ 36 = a) ∧ (f.length ≤ s.num (s.rxDesc n + 6) 2) ∧ (a % 64 + f.length ≤ 64) ∧ (inShared a f.length = true) ∧ ((s.slotsOf a f.length).all (fun k => !s.slotBlocks k (s.actsFor (.netDma n))) = true) ∧ (s.chipWritable (.netDma n) a = true) ∧ (s.protectedFrom (.master (.netDma n)) a = false) ∧ (inShared (s.rxDesc n) 32 = true) ∧ (s.chipWritable (.netDma n) (s.rxDesc n) = true) ∧ (s.protectedFrom (.master (.netDma n)) (s.rxDesc n + 8) = false) ∧ (s.protectedFrom (.master (.netDma n)) (s.rxDesc n + 5) = false) ∧ (s.rxDesc n + 32 ≤ a ∨ a + f.length ≤ s.rxDesc n)) ∧
    (∃ (m : Master) (v : Word) (s : State), (s.accepts m 0x201100A0) ∧ (v.toNat.testBit 31 = true)) ∧
    (∃ (d : Nat) (s : State), (s.on (Reg.NET_MDIO_CMD_GO 0) = true) ∧ (s.rd (Reg.NET_MDIO_CMD_OP 0) = 2)) ∧
    (∃ (d : Nat) (s : State), (s.on (Reg.NET_MDIO_CMD_GO 0) = false)) :=
  ⟨⟨1, .engine 0, 1, tst [], by decide +kernel⟩,
   ⟨1, .engine 0, 1, tst [((Reg.FLT_FENCE_NET 1), 1)], by decide +kernel⟩,
   ⟨1, .engine 0, 0, tst [((Reg.NET_CTRL_EN 1), 1)], by decide +kernel⟩,
   ⟨1, 0, false, tst [((Reg.NET_STATUS_LINK 1), 1)], by decide +kernel⟩,
   ⟨1, 0, true, tst [((Reg.NET_CTRL_MODE 1), 1)], by decide +kernel⟩,
   ⟨1, 1000, true, tst [], by decide +kernel⟩,
   ⟨1, .engine 0, 0x80, tst [], by decide +kernel⟩,
   ⟨1, .engine 0, 0x100, tst [((Reg.NET_CTRL_EN 1), 1)], by decide +kernel⟩,
   ⟨1, [], .overflow, [], tst [], by decide +kernel⟩,
   ⟨1, [], .overflow, [], tst [((Reg.LANE_CTRL_LOOPBACK 14), 1)], by decide +kernel⟩,
   ⟨1, [], [], tst [((Reg.NET_CTRL_EN 1), 1), ((Reg.NET_STATUS_LINK 1), 1)], by decide +kernel⟩,
   ⟨1, [], .uncorrectable, [], tst [((Reg.NET_CTRL_EN 1), 1), ((Reg.NET_STATUS_LINK 1), 1)], by decide +kernel⟩,
   ⟨1, .next, tst [], by decide +kernel⟩,
   ⟨1, .next, { tst [((Reg.NET_CTRL_EN 1), 1)] with net := { txRun := .replicate 2 true } }, by decide +kernel⟩,
   ⟨1, .none, { tst [((Reg.NET_CTRL_EN 1), 1), ((Reg.NET_TXRING_ADDR 1), 4194304)] with net := { txRun := .replicate 2 true } }, by decide +kernel⟩,
   ⟨0, 0x10001000, 64, { (tst [((Reg.NET_CTRL_EN 0), 1), ((Reg.NET_STATUS_LINK 0), 1), ((Reg.NET_TXRING_ADDR 0), 4194304)]).store 0x10000000 [0, 0x10, 0, 0x10, 0, 1, 64, 0] with net := { txRun := .replicate 2 true } }, by decide +kernel⟩,
   ⟨0, ((List.replicate 6 255 ++ List.replicate 54 1) ++ leBytes 4 (crc32 (List.replicate 6 255 ++ List.replicate 54 1))), (List.replicate 6 255 ++ List.replicate 54 1), 0x10001000, (tst [((Reg.NET_CTRL_EN 0), 1), ((Reg.NET_STATUS_LINK 0), 1), ((Reg.NET_FRAME_UNTAG_OK 0), 1), ((Reg.NET_RXRING_ADDR 0), 4194304)]).store 0x10000000 [0, 0x10, 0, 0x10, 0, 1, 0, 1], by decide +kernel⟩,
   ⟨.engine 0, 0x80000000, tst [], by decide +kernel⟩,
   ⟨0x1234, tst [((Reg.NET_MDIO_CMD_GO 0), 1), ((Reg.NET_MDIO_CMD_OP 0), 2)], by decide +kernel⟩,
   ⟨0x1234, tst [], by decide +kernel⟩⟩

theorem test_meets_PairFormingAndComparison :
    (∃ (m : Master) (v : Word) (s : State), (s.accepts m 0x20150000) ∧ (v.toNat.testBit 0 = true) ∧ (s.on Reg.PAIR_CTRL_EN = false)) ∧
    (∃ (m : Master) (v : Word) (s : State), (s.accepts m 0x20150000) ∧ (v.toNat.testBit 0 = true) ∧ (s.on Reg.PAIR_CTRL_EN = true)) ∧
    (∃ (m : Master) (v : Word) (s : State), (s.accepts m 0x20150000) ∧ (v.toNat.testBit 0 = false) ∧ (s.on Reg.PAIR_CTRL_EN = true)) ∧
    (∃ (s : State), (s.on Reg.PAIR_CTRL_EN = true) ∧ (s.rd Reg.PAIR_STATUS_STATE = 1) ∧ (s.on (Reg.LANE_STATUS_BLOCK_LOCK 12) = true) ∧ (s.pair.heard = false)) ∧
    (∃ (s : State), (s.on Reg.PAIR_CTRL_EN = false ∨ s.rd Reg.PAIR_STATUS_STATE ≠ 1 ∨ s.on (Reg.LANE_STATUS_BLOCK_LOCK 12) = false ∨ s.pair.heard = true)) ∧
    (∃ (d c : List Byte) (s : State), (s.pairIn 0x80 (· == 32) d = some c) ∧ (s.on Reg.PAIR_CTRL_EN = true) ∧ (s.pair.heard = false)) ∧
    (∃ (d c : List Byte) (s : State), (s.pairIn 0x80 (· == 32) d = some c) ∧ (s.on Reg.PAIR_CTRL_EN = true) ∧ (s.rd Reg.PAIR_STATUS_STATE = 1) ∧ (s.helloCode c = 0)) ∧
    (∃ (d c : List Byte) (s : State), (s.pairIn 0x80 (· == 32) d = some c) ∧ (s.on Reg.PAIR_CTRL_EN = true) ∧ (s.rd Reg.PAIR_STATUS_STATE = 1) ∧ (s.helloCode c ≠ 0)) ∧
    (∃ (d : List Byte) (s : State), (s.pairIn 0x80 (· == 32) d = none)) ∧
    (∃ (s : State), (s.on Reg.PAIR_CTRL_EN = true) ∧ (s.pair.decided = false)) ∧
    (∃ (s : State), (s.pair.decided = true)) ∧
    (∃ (x : List Nat) (s : State), (s.on Reg.PAIR_CTRL_EN = true) ∧ (s.rd Reg.PAIR_STATUS_STATE = 2) ∧ (s.on (Reg.LANE_CTRL_IDLE_REQ 12) = false) ∧ (s.laneTest 12 = false) ∧ (s.pair.regQueue = [])) ∧
    (∃ (d c : List Byte) (s : State), (s.pairIn 0x81 (· == 24) d = some c) ∧ (s.on Reg.PAIR_CTRL_EN = true) ∧ (s.understudy = false) ∧ (s.on Reg.PAIR_STATUS_LEAD = false ∨ (byteAt c 15).testBit 2 = false ∨ leAt c 12 3 ≤ s.pairEpoch)) ∧
    (∃ (d c : List Byte) (s : State), (s.pairIn 0x81 (· == 24) d = some c) ∧ (s.on Reg.PAIR_CTRL_EN = true) ∧ (s.on Reg.PAIR_STATUS_LEAD = true) ∧ ((byteAt c 15).testBit 2 = true) ∧ (s.pairEpoch < leAt c 12 3)) ∧
    (∃ (d c : List Byte) (s : State), (s.pairIn 0x81 (· == 24) d = some c) ∧ (s.on Reg.PAIR_CTRL_EN = true) ∧ (s.understudy = true) ∧ (s.on Reg.PAIR_STATUS_IN_SYNC = true) ∧ ((byteAt c 15).testBit 0 = true)) ∧
    (∃ (d c : List Byte) (s : State), (s.pairIn 0x82 (· == 60) d = some c) ∧ (s.on Reg.PAIR_CTRL_EN = true) ∧ (s.rd Reg.PAIR_STATUS_STATE = 2) ∧ (s.pair.own = [])) ∧
    (∃ (d c : List Byte) (x : PairCrc) (s : State), (s.pairIn 0x82 (· == 60) d = some c) ∧ (s.on Reg.PAIR_CTRL_EN = true) ∧ (s.rd Reg.PAIR_STATUS_STATE = 2) ∧ (s.pair.own = [x]) ∧ (x.frame = leAt c 0 4) ∧ (x.ports = leAt c 4 2) ∧ (x.aborted = false) ∧ ((byteAt c 6).testBit 0 = false) ∧ (x.crc.length = 12) ∧ (x.crc ≠ (List.range 12).map (fun k => leAt c (8 + 4 * k) 4))) ∧
    (∃ (d c : List Byte) (s : State), (s.pairIn 0x8C (fun n => decide (4 ≤ n ∧ n ≤ 1024)) d = some c) ∧ (s.on Reg.PAIR_CTRL_EN = true)) ∧
    (∃ (s : State), (s.on Reg.PAIR_STATUS_ARMED = true)) ∧
    (∃ (s : State), (s.on Reg.PAIR_STATUS_ARMED = false)) ∧
    (∃ (b : List (BitVec 2 × BitVec 64)) (s : State), (s.on Reg.PAIR_CTRL_EN = true) ∧ (badTrailer b = true)) ∧
    (∃ (b : List (BitVec 2 × BitVec 64)) (s : State), (badTrailer b = false) ∧ (partnerIdle b = none)) ∧
    (∃ (b : List (BitVec 2 × BitVec 64)) (c : List Byte) (s : State), (s.on Reg.PAIR_CTRL_EN = true) ∧ (partnerIdle b = some (false, c))) ∧
    (∃ (b : List (BitVec 2 × BitVec 64)) (c : List Byte) (s : State), (s.on Reg.PAIR_CTRL_EN = true) ∧ (partnerIdle b = some (true, c)) ∧ (s.on (Reg.LANE_CTRL_IDLE_REQ 12) = false) ∧ (s.laneTest 12 = false)) ∧
    (∃ (b : List (BitVec 2 × BitVec 64)) (s : State), (s.on Reg.PAIR_CTRL_EN = false)) :=
  ⟨⟨.engine 0, 1, { tst [(Reg.PAIR_STATUS_LEAD, 1)] with pair := { heard := true } }, by decide +kernel⟩,
   ⟨.engine 0, 1, tst [(Reg.PAIR_CTRL_EN, 1)], by decide +kernel⟩,
   ⟨.engine 0, 0, tst [(Reg.PAIR_CTRL_EN, 1), (Reg.PAIR_STATUS_LEAD, 1), (Reg.PAIR_STATUS_STATE, 2), (Reg.PAIR_STATUS_IN_SYNC, 1)], by decide +kernel⟩,
   ⟨tst [(Reg.PAIR_CTRL_EN, 1), (Reg.PAIR_STATUS_STATE, 1), ((Reg.LANE_STATUS_BLOCK_LOCK 12), 1)], by decide +kernel⟩,
   ⟨{ tst [(Reg.PAIR_CTRL_EN, 1), (Reg.PAIR_STATUS_STATE, 1), ((Reg.LANE_STATUS_BLOCK_LOCK 12), 1)] with pair := { heard := true } }, by decide +kernel⟩,
   ⟨[0x80, 0, 32, 0, 0, 0, 0, 0] ++ (.replicate 32 0), .replicate 32 0, tst [(Reg.PAIR_CTRL_EN, 1), (Reg.PAIR_STATUS_STATE, 1)], by decide +kernel⟩,
   ⟨[0x80, 0, 32, 0, 0, 0, 0, 0] ++ ([0x10, 0, 1] ++ .replicate 29 0), [0x10, 0, 1] ++ .replicate 29 0, { tst [(Reg.PAIR_CTRL_EN, 1), (Reg.PAIR_STATUS_STATE, 1), (Reg.SA_KLIB_VER_VER, 0), (Reg.SAFE_SEAL_LATCHED, 0), (Reg.WIN_CFG_SIZE, 0), (Reg.WIN_CFG_COUNT, 0), (Reg.WIN_BASE_HI_ADDR_HI, 0), (Reg.WIN_BASE_ADDR, 0)] with pair := { heard := true } }, by decide +kernel⟩,
   ⟨[0x80, 0, 32, 0, 0, 0, 0, 0] ++ (.replicate 32 0), .replicate 32 0, { tst [(Reg.PAIR_CTRL_EN, 1), (Reg.PAIR_STATUS_STATE, 1)] with pair := { heard := true } }, by decide +kernel⟩,
   ⟨[], tst [], by decide +kernel⟩,
   ⟨tst [(Reg.PAIR_CTRL_EN, 1)], by decide +kernel⟩,
   ⟨{ tst [] with pair := { decided := true } }, by decide +kernel⟩,
   ⟨[5], tst [(Reg.PAIR_CTRL_EN, 1), (Reg.PAIR_STATUS_STATE, 2)], by decide +kernel⟩,
   ⟨[0x81, 0, 24, 0, 0, 0, 0, 0] ++ (.replicate 24 5), .replicate 24 5, tst [(Reg.PAIR_CTRL_EN, 1)], by decide +kernel⟩,
   ⟨[0x81, 0, 24, 0, 0, 0, 0, 0] ++ (.replicate 24 5), .replicate 24 5, tst [(Reg.PAIR_CTRL_EN, 1), (Reg.PAIR_STATUS_STATE, 2), (Reg.PAIR_STATUS_LEAD, 1)], by decide +kernel⟩,
   ⟨[0x81, 0, 24, 0, 0, 0, 0, 0] ++ (.replicate 24 5), .replicate 24 5, { tst [(Reg.PAIR_CTRL_EN, 1), (Reg.PAIR_STATUS_STATE, 2), (Reg.PAIR_STATUS_IN_SYNC, 1)] with pair := { decided := true } }, by decide +kernel⟩,
   ⟨[0x82, 0, 60, 0, 0, 0, 0, 0] ++ (.replicate 60 5), .replicate 60 5, tst [(Reg.PAIR_CTRL_EN, 1), (Reg.PAIR_STATUS_STATE, 2)], by decide +kernel⟩,
   ⟨[0x82, 0, 60, 0, 0, 0, 0, 0] ++ (.replicate 60 4), .replicate 60 4, { frame := 0x04040404, ports := 0x0404, crc := .replicate 12 9 }, { tst [(Reg.PAIR_CTRL_EN, 1), (Reg.PAIR_STATUS_STATE, 2)] with pair := { own := [{ frame := 0x04040404, ports := 0x0404, crc := .replicate 12 9 }] } }, by decide +kernel⟩,
   ⟨[0x8C, 0, 4, 0, 0, 0, 0, 0] ++ ([1, 2, 3, 4]), [1, 2, 3, 4], tst [(Reg.PAIR_CTRL_EN, 1)], by decide +kernel⟩,
   ⟨tst [(Reg.PAIR_CTRL_EN, 1), (Reg.PAIR_STATUS_STATE, 2), (Reg.PAIR_STATUS_ARMED, 1)], by decide +kernel⟩,
   ⟨tst [], by decide +kernel⟩,
   ⟨[(2, 0x78), (2, BitVec.ofNat 64 (termType 5))], tst [(Reg.PAIR_CTRL_EN, 1)], by decide +kernel⟩,
   ⟨[(2, 0x78)], tst [(Reg.PAIR_CTRL_EN, 1)], by decide +kernel⟩,
   ⟨(packetBlocks (tlPacket 0x3F 0 0 0 [5, 0, 0, 0])).map (fun b => (BitVec.ofNat 2 b.1, BitVec.ofNat 64 (le b.2))), [5, 0, 0, 0], tst [(Reg.PAIR_CTRL_EN, 1)], by decide +kernel⟩,
   ⟨(packetBlocks (tlPacket 0x3F 0x10 0 0 [5, 0, 0, 0])).map (fun b => (BitVec.ofNat 2 b.1, BitVec.ofNat 64 (le b.2))), [5, 0, 0, 0], tst [(Reg.PAIR_CTRL_EN, 1)], by decide +kernel⟩,
   ⟨[], tst [], by decide +kernel⟩⟩

theorem test_meets_PairMirrorAndSlots :
    (∃ (d c : List Byte) (s : State), (s.pairIn 0x84 (fun n => n % 8 == 0 && decide (8 ≤ n ∧ n ≤ 4096)) d = some c) ∧ (s.on Reg.PAIR_CTRL_EN = true) ∧ (s.understudy = false)) ∧
    (∃ (d c : List Byte) (s : State), (s.pairIn 0x83 (· == 8) d = some c) ∧ (s.on Reg.PAIR_CTRL_EN = true) ∧ (s.understudy = false)) ∧
    (∃ (d c : List Byte) (s : State), (s.pairIn 0x85 (· == 388) d = some c) ∧ (s.on Reg.PAIR_CTRL_EN = true) ∧ (s.understudy = false)) ∧
    (∃ (d c : List Byte) (s : State), (s.pairIn 0x86 (· == 196) d = some c) ∧ (s.on Reg.PAIR_CTRL_EN = true) ∧ (s.understudy = false)) ∧
    (∃ (d c : List Byte) (s : State), (s.pairIn 0x87 (fun n => n % 4 == 0 && decide (4 ≤ n)) d = some c) ∧ (s.on Reg.PAIR_CTRL_EN = true) ∧ (s.understudy = false)) ∧
    (∃ (d c : List Byte) (s : State), (s.pairIn 0x88 (fun n => decide (8 ≤ n ∧ n ≤ 1032)) d = some c) ∧ (s.on Reg.PAIR_CTRL_EN = true) ∧ (s.understudy = false)) ∧
    (∃ (d c : List Byte) (s : State), (s.pairIn 0x89 (· == 32) d = some c) ∧ (s.on Reg.PAIR_CTRL_EN = true) ∧ (s.understudy = false)) ∧
    (∃ (d c : List Byte) (s : State), (s.pairIn 0x8B (fun n => decide (8 ≤ n ∧ n ≤ 4104)) d = some c) ∧ (s.on Reg.PAIR_CTRL_EN = true) ∧ (s.understudy = false)) ∧
    (∃ (d c : List Byte) (s : State), (s.pairIn 0x8A (· == 12) d = some c) ∧ (s.on Reg.PAIR_CTRL_EN = true) ∧ (s.understudy = false)) ∧
    (∃ (d : List Byte) (s : State), (s.pairIn 0x84 (fun n => n % 8 == 0 && decide (8 ≤ n ∧ n ≤ 4096)) d = none ∨ s.on Reg.PAIR_CTRL_EN = false)) ∧
    (∃ (d : List Byte) (s : State), (s.pairIn 0x83 (· == 8) d = none ∨ s.on Reg.PAIR_CTRL_EN = false)) ∧
    (∃ (d : List Byte) (s : State), (s.pairIn 0x85 (· == 388) d = none ∨ s.on Reg.PAIR_CTRL_EN = false)) ∧
    (∃ (d : List Byte) (s : State), (s.pairIn 0x86 (· == 196) d = none ∨ s.on Reg.PAIR_CTRL_EN = false)) ∧
    (∃ (d : List Byte) (s : State), (s.pairIn 0x87 (fun n => n % 4 == 0 && decide (4 ≤ n)) d = none ∨ s.on Reg.PAIR_CTRL_EN = false)) ∧
    (∃ (d : List Byte) (s : State), (s.pairIn 0x88 (fun n => decide (8 ≤ n ∧ n ≤ 1032)) d = none ∨ s.on Reg.PAIR_CTRL_EN = false)) ∧
    (∃ (d : List Byte) (s : State), (s.pairIn 0x89 (· == 32) d = none ∨ s.on Reg.PAIR_CTRL_EN = false)) ∧
    (∃ (d : List Byte) (s : State), (s.pairIn 0x8B (fun n => decide (8 ≤ n ∧ n ≤ 4104)) d = none ∨ s.on Reg.PAIR_CTRL_EN = false)) ∧
    (∃ (d : List Byte) (s : State), (s.pairIn 0x8A (· == 12) d = none ∨ s.on Reg.PAIR_CTRL_EN = false)) ∧
    (∃ (d c : List Byte) (s : State), (s.pairIn 0x84 (fun n => n % 8 == 0 && decide (8 ≤ n ∧ n ≤ 4096)) d = some c) ∧ (s.on Reg.PAIR_CTRL_EN = true) ∧ (s.understudy = true)) ∧
    (∃ (d c : List Byte) (s : State), (s.pairIn 0x84 (fun n => n % 8 == 0 && decide (8 ≤ n ∧ n ≤ 4096)) d = some c) ∧ (s.on Reg.PAIR_CTRL_EN = true) ∧ (s.understudy = true) ∧ (c.length = 8)) ∧
    (∃ (d c : List Byte) (s : State), (s.pairIn 0x83 (· == 8) d = some c) ∧ (s.on Reg.PAIR_CTRL_EN = true) ∧ (s.understudy = true) ∧ (leAt c 4 2 = 0)) ∧
    (∃ (d c : List Byte) (i : Fin 5) (s : State), (s.pairIn 0x83 (· == 8) d = some c) ∧ (s.on Reg.PAIR_CTRL_EN = true) ∧ (s.understudy = true) ∧ (leAt c 4 2 = 2 ^ i.val) ∧ (s.on Reg.FT_STATUS_RUN = false)) ∧
    (∃ (d c : List Byte) (i : Fin 5) (s : State), (s.pairIn 0x83 (· == 8) d = some c) ∧ (s.on Reg.PAIR_CTRL_EN = true) ∧ (s.understudy = true) ∧ (leAt c 4 2 = 2 ^ i.val) ∧ (s.on Reg.FT_STATUS_RUN = true) ∧ (leAt c 0 4 = frameNo s.ft.m) ∧ (s.pairLive.heldSets i = 0)) ∧
    (∃ (d c : List Byte) (s : State), (s.pairIn 0x83 (· == 8) d = some c) ∧ (s.on Reg.PAIR_CTRL_EN = true) ∧ (s.understudy = true) ∧ (leAt c 4 2 = 32)) ∧
    (∃ (d c : List Byte) (s : State), (s.pairIn 0x85 (· == 388) d = some c) ∧ (s.on Reg.PAIR_CTRL_EN = true) ∧ (s.understudy = true)) ∧
    (∃ (d c : List Byte) (s : State), (s.pairIn 0x86 (· == 196) d = some c) ∧ (s.on Reg.PAIR_CTRL_EN = true) ∧ (s.understudy = true)) ∧
    (∃ (d c : List Byte) (s : State), (s.pairIn 0x87 (fun n => n % 4 == 0 && decide (4 ≤ n)) d = some c) ∧ (s.on Reg.PAIR_CTRL_EN = true) ∧ (s.understudy = true)) ∧
    (∃ (d c : List Byte) (s : State), (s.pairIn 0x88 (fun n => decide (8 ≤ n ∧ n ≤ 1032)) d = some c) ∧ (s.on Reg.PAIR_CTRL_EN = true) ∧ (s.understudy = true) ∧ (s.on Reg.MASKIN_CTRL_EN = true) ∧ (s.mirrors 0x20180000 = true) ∧ (byteAt c 0 = 0)) ∧
    (∃ (d c : List Byte) (s : State), (s.pairIn 0x89 (· == 32) d = some c) ∧ (s.on Reg.PAIR_CTRL_EN = true) ∧ (s.understudy = true)) ∧
    (∃ (s : State), (s.pairLead = false)) ∧
    (∃ (s : State), (s.pairLead = true) ∧ (s.pair.regQueue = []) ∧ (s.on (Reg.LANE_CTRL_IDLE_REQ 12) = false) ∧ (s.laneTest 12 = false)) ∧
    (∃ (m : Master) (v : Word) (s : State), (s.accepts m 0x20150010) ∧ (v.toNat.testBit 31 = true) ∧ ((s.stored m 0x20150010 v).pairLead = true) ∧ (s.on Reg.WIN_CTRL_EN = true) ∧ ((s.stored m 0x20150010 v).rd Reg.PAIR_SLOT_SLOT < s.rd Reg.WIN_CFG_COUNT) ∧ ((s.stored m 0x20150010 v).rd Reg.PAIR_SLOT_LEN = 1) ∧ ((s.stored m 0x20150010 v).slotSize = 65536) ∧ ((s.stored m 0x20150010 v).pair.regQueue = []) ∧ ((s.stored m 0x20150010 v).on (Reg.LANE_CTRL_IDLE_REQ 12) = false) ∧ ((s.stored m 0x20150010 v).laneTest 12 = false)) ∧
    (∃ (m : Master) (v : Word) (s : State), (s.accepts m 0x20150010) ∧ ((s.stored m 0x20150010 v).pairLead = false)) ∧
    (∃ (d c : List Byte) (s : State), (s.pairIn 0x8B (fun n => decide (8 ≤ n ∧ n ≤ 4104)) d = some c) ∧ (s.on Reg.PAIR_CTRL_EN = true) ∧ (s.understudy = true) ∧ (s.pairOwned (leAt c 0 2) = true) ∧ (leAt c 4 4 + (c.length - 8) ≤ s.slotSize)) ∧
    (∃ (d c : List Byte) (s : State), (s.pairIn 0x8B (fun n => decide (8 ≤ n ∧ n ≤ 4104)) d = some c) ∧ (s.on Reg.PAIR_CTRL_EN = true) ∧ (s.understudy = true) ∧ (s.pairOwned (leAt c 0 2) = false ∨ s.slotSize < leAt c 4 4 + (c.length - 8))) ∧
    (∃ (d c : List Byte) (s : State), (s.pairIn 0x8A (· == 12) d = some c) ∧ (s.on Reg.PAIR_CTRL_EN = true) ∧ (s.understudy = true) ∧ (s.on Reg.FT_STATUS_RUN = true) ∧ (leAt c 0 2 < 1024) ∧ (s.pairOwned (leAt c 0 2) = true) ∧ (leAt c 4 4 ≤ s.slotSize) ∧ (leAt c 8 4 = crc32c (s.bytes (s.slotAddr (leAt c 0 2)) (leAt c 4 4))) ∧ (mayHand 3 (byteAt c 2) = true)) ∧
    (∃ (d c : List Byte) (s : State), (s.pairIn 0x8A (· == 12) d = some c) ∧ (s.on Reg.PAIR_CTRL_EN = true) ∧ (s.understudy = true) ∧ (s.pairOwned (leAt c 0 2) = false ∨ s.slotSize < leAt c 4 4 ∨ leAt c 8 4 ≠ crc32c (s.bytes (s.slotAddr (leAt c 0 2)) (leAt c 4 4)) ∨ mayHand 3 (byteAt c 2) = false)) ∧
    (∃ (m : Master) (v : Word) (s : State), (s.accepts m 0x20150000) ∧ (v.toNat.testBit 4 = true) ∧ ((s.stored m 0x20150000 v).pairLead = true) ∧ ((s.stored m 0x20150000 v).pair.regQueue = []) ∧ ((s.stored m 0x20150000 v).on (Reg.LANE_CTRL_IDLE_REQ 12) = false) ∧ ((s.stored m 0x20150000 v).laneTest 12 = false)) ∧
    (∃ (m : Master) (v : Word) (s : State), (s.accepts m 0x20150000) ∧ ((s.stored m 0x20150000 v).pairLead = false)) :=
  ⟨⟨[0x84, 0, 8, 0, 0, 0, 0, 0] ++ (.replicate 8 0), .replicate 8 0, tst [(Reg.PAIR_CTRL_EN, 1)], by decide +kernel⟩,
   ⟨[0x83, 0, 8, 0, 0, 0, 0, 0] ++ (.replicate 8 0), .replicate 8 0, tst [(Reg.PAIR_CTRL_EN, 1)], by decide +kernel⟩,
   ⟨[0x85, 0, 132, 1, 0, 0, 0, 0] ++ (.replicate 388 0), .replicate 388 0, tst [(Reg.PAIR_CTRL_EN, 1)], by decide +kernel⟩,
   ⟨[0x86, 0, 196, 0, 0, 0, 0, 0] ++ (.replicate 196 0), .replicate 196 0, tst [(Reg.PAIR_CTRL_EN, 1)], by decide +kernel⟩,
   ⟨[0x87, 0, 4, 0, 0, 0, 0, 0] ++ (.replicate 4 0), .replicate 4 0, tst [(Reg.PAIR_CTRL_EN, 1)], by decide +kernel⟩,
   ⟨[0x88, 0, 8, 0, 0, 0, 0, 0] ++ (.replicate 8 0), .replicate 8 0, tst [(Reg.PAIR_CTRL_EN, 1)], by decide +kernel⟩,
   ⟨[0x89, 0, 32, 0, 0, 0, 0, 0] ++ (.replicate 32 0), .replicate 32 0, tst [(Reg.PAIR_CTRL_EN, 1)], by decide +kernel⟩,
   ⟨[0x8B, 0, 8, 0, 0, 0, 0, 0] ++ (.replicate 8 0), .replicate 8 0, tst [(Reg.PAIR_CTRL_EN, 1)], by decide +kernel⟩,
   ⟨[0x8A, 0, 12, 0, 0, 0, 0, 0] ++ (.replicate 12 0), .replicate 12 0, tst [(Reg.PAIR_CTRL_EN, 1)], by decide +kernel⟩,
   ⟨[], tst [], by decide +kernel⟩,
   ⟨[], tst [], by decide +kernel⟩,
   ⟨[], tst [], by decide +kernel⟩,
   ⟨[], tst [], by decide +kernel⟩,
   ⟨[], tst [], by decide +kernel⟩,
   ⟨[], tst [], by decide +kernel⟩,
   ⟨[], tst [], by decide +kernel⟩,
   ⟨[], tst [], by decide +kernel⟩,
   ⟨[], tst [], by decide +kernel⟩,
   ⟨[0x84, 0, 16, 0, 0, 0, 0, 0] ++ ([0, 0, 0, 0x20, 1, 0, 0, 0, 4, 0, 0, 0x20, 2, 0, 0, 0]), [0, 0, 0, 0x20, 1, 0, 0, 0, 4, 0, 0, 0x20, 2, 0, 0, 0], { tst [(Reg.PAIR_CTRL_EN, 1), (Reg.PAIR_STATUS_STATE, 2)] with pair := { decided := true } }, by decide +kernel⟩,
   ⟨[0x84, 0, 8, 0, 0, 0, 0, 0] ++ ([0, 0, 0, 0x20, 1, 0, 0, 0]), [0, 0, 0, 0x20, 1, 0, 0, 0], { tst [(Reg.PAIR_CTRL_EN, 1), (Reg.PAIR_STATUS_STATE, 2)] with pair := { decided := true } }, by decide +kernel⟩,
   ⟨[0x83, 0, 8, 0, 0, 0, 0, 0] ++ ([1, 0, 0, 0, 0, 0, 0, 0]), [1, 0, 0, 0, 0, 0, 0, 0], { tst [(Reg.PAIR_CTRL_EN, 1), (Reg.PAIR_STATUS_STATE, 2)] with pair := { decided := true } }, by decide +kernel⟩,
   ⟨[0x83, 0, 8, 0, 0, 0, 0, 0] ++ ([1, 0, 0, 0, 4, 0, 0, 0]), [1, 0, 0, 0, 4, 0, 0, 0], 2, { tst [(Reg.PAIR_CTRL_EN, 1), (Reg.PAIR_STATUS_STATE, 2)] with pair := { decided := true } }, by decide +kernel⟩,
   ⟨[0x83, 0, 8, 0, 0, 0, 0, 0] ++ ([0, 0, 0, 0, 4, 0, 0, 0]), [0, 0, 0, 0, 4, 0, 0, 0], 2, { tst [(Reg.PAIR_CTRL_EN, 1), (Reg.PAIR_STATUS_STATE, 2), (Reg.FT_STATUS_RUN, 1)] with pair := { decided := true } }, by decide +kernel⟩,
   ⟨[0x83, 0, 8, 0, 0, 0, 0, 0] ++ ([0, 0, 0, 0, 32, 0, 0, 0]), [0, 0, 0, 0, 32, 0, 0, 0], { tst [(Reg.PAIR_CTRL_EN, 1), (Reg.PAIR_STATUS_STATE, 2)] with pair := { decided := true } }, by decide +kernel⟩,
   ⟨[0x85, 0, 132, 1, 0, 0, 0, 0] ++ (.replicate 388 5), .replicate 388 5, { tst [(Reg.PAIR_CTRL_EN, 1), (Reg.PAIR_STATUS_STATE, 2)] with pair := { decided := true } }, by decide +kernel⟩,
   ⟨[0x86, 0, 196, 0, 0, 0, 0, 0] ++ (.replicate 196 5), .replicate 196 5, { tst [(Reg.PAIR_CTRL_EN, 1), (Reg.PAIR_STATUS_STATE, 2)] with pair := { decided := true } }, by decide +kernel⟩,
   ⟨[0x87, 0, 12, 0, 0, 0, 0, 0] ++ (.replicate 12 5), .replicate 12 5, { tst [(Reg.PAIR_CTRL_EN, 1), (Reg.PAIR_STATUS_STATE, 2)] with pair := { decided := true } }, by decide +kernel⟩,
   ⟨[0x88, 0, 8, 0, 0, 0, 0, 0] ++ (.replicate 8 0), .replicate 8 0, { tst [(Reg.PAIR_CTRL_EN, 1), (Reg.PAIR_STATUS_STATE, 2), (Reg.MASKIN_CTRL_EN, 1), (Reg.PAIR_MIRROR_BLOCKS, 65535)] with pair := { decided := true } }, by decide +kernel⟩,
   ⟨[0x89, 0, 32, 0, 0, 0, 0, 0] ++ (.replicate 32 5), .replicate 32 5, { tst [(Reg.PAIR_CTRL_EN, 1), (Reg.PAIR_STATUS_STATE, 2)] with pair := { decided := true } }, by decide +kernel⟩,
   ⟨tst [], by decide +kernel⟩,
   ⟨tst [(Reg.PAIR_CTRL_EN, 1), (Reg.PAIR_STATUS_STATE, 2), (Reg.PAIR_STATUS_LEAD, 1)], by decide +kernel⟩,
   ⟨.engine 0, 0x80010000, tst [(Reg.PAIR_CTRL_EN, 1), (Reg.PAIR_STATUS_STATE, 2), (Reg.PAIR_STATUS_LEAD, 1), (Reg.WIN_CTRL_EN, 1), (Reg.WIN_CFG_COUNT, 4), (Reg.WIN_CFG_SIZE, 16)], by decide +kernel⟩,
   ⟨.engine 0, 0x80000000, tst [], by decide +kernel⟩,
   ⟨[0x8B, 0, 12, 0, 0, 0, 0, 0] ++ ([1, 0, 0, 0, 0, 0, 0, 0, 9, 9, 9, 9]), [1, 0, 0, 0, 0, 0, 0, 0, 9, 9, 9, 9], { tst [(Reg.PAIR_CTRL_EN, 1), (Reg.PAIR_STATUS_STATE, 2), (Reg.WIN_CTRL_EN, 1), (Reg.WIN_CFG_COUNT, 4), (Reg.WIN_CFG_SIZE, 16), ((Reg.WIN_OWN 1), 3)] with pair := { decided := true } }, by decide +kernel⟩,
   ⟨[0x8B, 0, 12, 0, 0, 0, 0, 0] ++ ([1, 0, 0, 0, 0, 0, 0, 0, 9, 9, 9, 9]), [1, 0, 0, 0, 0, 0, 0, 0, 9, 9, 9, 9], { tst [(Reg.PAIR_CTRL_EN, 1), (Reg.PAIR_STATUS_STATE, 2)] with pair := { decided := true } }, by decide +kernel⟩,
   ⟨[0x8A, 0, 12, 0, 0, 0, 0, 0] ++ ([1, 0, 2, 0, 0, 0, 0, 0, 0, 0, 0, 0]), [1, 0, 2, 0, 0, 0, 0, 0, 0, 0, 0, 0], { tst [(Reg.PAIR_CTRL_EN, 1), (Reg.PAIR_STATUS_STATE, 2), (Reg.FT_STATUS_RUN, 1), (Reg.WIN_CTRL_EN, 1), (Reg.WIN_CFG_COUNT, 4), (Reg.WIN_CFG_SIZE, 16), ((Reg.WIN_OWN 1), 3)] with pair := { decided := true } }, by decide +kernel⟩,
   ⟨[0x8A, 0, 12, 0, 0, 0, 0, 0] ++ (.replicate 12 0), .replicate 12 0, { tst [(Reg.PAIR_CTRL_EN, 1), (Reg.PAIR_STATUS_STATE, 2)] with pair := { decided := true } }, by decide +kernel⟩,
   ⟨.engine 0, 0x10, tst [(Reg.PAIR_CTRL_EN, 1), (Reg.PAIR_STATUS_STATE, 2), (Reg.PAIR_STATUS_LEAD, 1)], by decide +kernel⟩,
   ⟨.engine 0, 0x10, tst [], by decide +kernel⟩⟩

theorem test_meets_SmallPeripherals :
    (∃ (m : Master) (u : Fin 2) (v : Word) (s : State), (s.accepts m (0x20170008 + u * 0x100)) ∧ ((s.peri.uart[u]).tx.length < 16)) ∧
    (∃ (m : Master) (u : Fin 2) (v : Word) (s : State), (s.accepts m (0x20170008 + u * 0x100)) ∧ (16 ≤ (s.peri.uart[u]).tx.length)) ∧
    (∃ (m : Master) (u : Fin 2) (v : Word) (n : Nat) (s : State), (s.accepts m (0x20170008 + u * 0x100)) ∧ (s.on (Reg.UART_CTRL_EN u) = true) ∧ (0 < n) ∧ (n < (s.peri.uart[u]).tx.length) ∧ ((s.peri.uart[u]).tx.length ≤ 16)) ∧
    (∃ (u : Fin 2) (d : Byte) (s : State), (s.on (Reg.UART_CTRL_EN u) = true) ∧ ((s.peri.uart[u]).rx.length < 16)) ∧
    (∃ (u : Fin 2) (d : Byte) (s : State), (s.on (Reg.UART_CTRL_EN u) = true)) ∧
    (∃ (u : Fin 2) (d : Byte) (b : Bool) (s : State), (s.on (Reg.UART_CTRL_EN u) = true) ∧ (16 ≤ (s.peri.uart[u]).rx.length)) ∧
    (∃ (u : Fin 2) (d : Byte) (b : Bool) (s : State), (s.on (Reg.UART_CTRL_EN u) = false)) ∧
    (∃ (u : Fin 2) (n : Nat) (s : State), (s.on (Reg.UART_CTRL_EN u) = true)) ∧
    (∃ (u : Fin 2) (n : Nat) (s : State), (s.on (Reg.UART_CTRL_EN u) = false)) ∧
    (∃ (m : Master) (c : Fin 3) (v : Word) (s : State), (s.accepts m (i2cAddr c + 4)) ∧ (v.toNat.testBit 31 = true) ∧ (s.on (Reg.I2C_CTRL_EN c) = true) ∧ (s.on (Reg.I2C_CMD_GO c) = false)) ∧
    (∃ (m : Master) (c : Fin 3) (v : Word) (s : State), (s.accepts m (i2cAddr c + 4)) ∧ (v.toNat.testBit 31 = false)) ∧
    (∃ (c : Fin 3) (k : Bool) (d b : List Byte) (n : Nat) (s : State), (s.on (Reg.I2C_CMD_GO c) = true) ∧ (s.on (Reg.I2C_CMD_READ c) = true) ∧ (d.take (min (s.rd (Reg.I2C_CMD_LEN c) - s.peri.i2cCount[c]) (8 - (s.peri.i2c[c]).rx.length)) = b) ∧ (k = true ∨ s.rd (Reg.I2C_CMD_LEN c) ≤ s.peri.i2cCount[c] + b.length)) ∧
    (∃ (c : Fin 3) (k : Bool) (d b : List Byte) (n : Nat) (s : State), (s.on (Reg.I2C_CMD_GO c) = true) ∧ (s.on (Reg.I2C_CMD_READ c) = false) ∧ ((s.peri.i2c[c]).tx.take (min (s.rd (Reg.I2C_CMD_LEN c) - s.peri.i2cCount[c]) n) = b) ∧ (k = true ∨ s.rd (Reg.I2C_CMD_LEN c) ≤ s.peri.i2cCount[c] + b.length)) ∧
    (∃ (c : Fin 3) (d b : List Byte) (n : Nat) (s : State), (s.on (Reg.I2C_CMD_GO c) = true) ∧ (s.on (Reg.I2C_CMD_READ c) = true) ∧ (d.take (min (s.rd (Reg.I2C_CMD_LEN c) - s.peri.i2cCount[c]) (8 - (s.peri.i2c[c]).rx.length)) = b) ∧ (s.peri.i2cCount[c] + b.length < s.rd (Reg.I2C_CMD_LEN c))) ∧
    (∃ (c : Fin 3) (k : Bool) (d : List Byte) (n : Nat) (s : State), (s.on (Reg.I2C_CMD_GO c) = false)) ∧
    (∃ (c : Fin 3) (s : State), (s.on (Reg.I2C_CMD_GO c) = true)) ∧
    (∃ (m : Master) (c : Fin 3) (v : Word) (s : State), (s.accepts m (i2cAddr c + 0xC)) ∧ ((s.peri.i2c[c]).tx.length < 8)) ∧
    (∃ (m : Master) (c : Fin 3) (v : Word) (d b : List Byte) (n : Nat) (s : State), (s.accepts m (i2cAddr c + 0xC)) ∧ (s.on (Reg.I2C_CMD_GO c) = true) ∧ (s.on (Reg.I2C_CMD_READ c) = false) ∧ ((s.peri.i2c[c]).tx.take (min (s.rd (Reg.I2C_CMD_LEN c) - s.peri.i2cCount[c]) n) = b) ∧ ((s.peri.i2c[c]).tx.length - b.length < 8)) ∧
    (∃ (m : Master) (c : Fin 3) (d b : List Byte) (n : Nat) (s : State), (s.on (Reg.I2C_CMD_GO c) = true) ∧ (s.on (Reg.I2C_CMD_READ c) = true) ∧ (d.take (min (s.rd (Reg.I2C_CMD_LEN c) - s.peri.i2cCount[c]) (8 - (s.peri.i2c[c]).rx.length)) = b)) ∧
    (∃ (m : Master) (v : Word) (s : State), (s.accepts m 0x20170408) ∧ (s.on Reg.SPI_STATUS_BUSY = false) ∧ (s.on Reg.SPI_CTRL_EN = true)) ∧
    (∃ (m : Master) (v : Word) (s : State), (s.accepts m 0x20170408) ∧ (s.on Reg.SPI_STATUS_BUSY = true)) ∧
    (∃ (d : Word) (s : State), (s.on Reg.SPI_STATUS_BUSY = true)) ∧
    (∃ (p : Fin 16) (l : Bool) (s : State), (s.on (Reg.GPIO_IN_IN p) = !l) ∧ ((s.rd (Reg.GPIO_EDGE p)).testBit (if l then 0 else 1) = true)) ∧
    (∃ (p : Fin 16) (l : Bool) (s : State), ((s.rd (Reg.GPIO_EDGE p)).testBit (if l then 0 else 1) = false)) ∧
    (∃ (m : Master) (k : Fin 4) (v : Word) (s : State), (s.accepts m (0x20170610 + k * 8)) ∧ (v.toNat.testBit 0 = true)) ∧
    (∃ (m : Master) (k : Fin 4) (v : Word) (s : State), (s.accepts m (0x20170610 + k * 8)) ∧ (v.toNat.testBit 0 = false)) ∧
    (∃ (k : Fin 4) (s : State), (s.on (Reg.TIM_CTRL_EN k) = true) ∧ (s.on (Reg.TIM_CTRL_PERIODIC k) = true)) ∧
    (∃ (k : Fin 4) (s : State), (s.on (Reg.TIM_CTRL_EN k) = true) ∧ (s.on (Reg.TIM_CTRL_PERIODIC k) = false)) ∧
    (∃ (k : Fin 4) (s : State), (s.on (Reg.TIM_CTRL_EN k) = false)) :=
  ⟨⟨.engine 0, 1, 0x141, tst [], by decide +kernel⟩,
   ⟨.engine 0, 1, 0x141, { tst [] with peri := { uart := .replicate 2 { tx := .replicate 16 7 } } }, by decide +kernel⟩,
   ⟨.engine 0, 1, 0x141, 2, { tst [((Reg.UART_CTRL_EN 1), 1)] with peri := { uart := .replicate 2 { tx := .replicate 16 7 } } }, by decide +kernel⟩,
   ⟨1, 5, tst [((Reg.UART_CTRL_EN 1), 1)], by decide +kernel⟩,
   ⟨1, 5, tst [((Reg.UART_CTRL_EN 1), 1)], by decide +kernel⟩,
   ⟨1, 5, true, { tst [((Reg.UART_CTRL_EN 1), 1)] with peri := { uart := .replicate 2 { rx := .replicate 16 7 } } }, by decide +kernel⟩,
   ⟨1, 5, true, tst [], by decide +kernel⟩,
   ⟨1, 0, { tst [((Reg.UART_CTRL_EN 1), 1)] with peri := { uart := .replicate 2 { tx := [7] } } }, by decide +kernel⟩,
   ⟨1, 0, tst [], by decide +kernel⟩,
   ⟨.engine 0, 1, 0x80000000, tst [((Reg.I2C_CTRL_EN 1), 1)], by decide +kernel⟩,
   ⟨.engine 0, 1, 0, tst [((Reg.I2C_CTRL_EN 1), 1)], by decide +kernel⟩,
   ⟨1, false, [1], [1], 0, tst [((Reg.I2C_CMD_GO 1), 1), ((Reg.I2C_CMD_LEN 1), 1), ((Reg.I2C_CMD_READ 1), 1)], by decide +kernel⟩,
   ⟨1, false, [], [7], 1, { tst [((Reg.I2C_CMD_GO 1), 1), ((Reg.I2C_CMD_LEN 1), 1)] with peri := { i2c := .replicate 3 { tx := [7] } } }, by decide +kernel⟩,
   ⟨1, [1], [1], 0, tst [((Reg.I2C_CMD_GO 1), 1), ((Reg.I2C_CMD_LEN 1), 2), ((Reg.I2C_CMD_READ 1), 1)], by decide +kernel⟩,
   ⟨1, true, [], 0, tst [], by decide +kernel⟩,
   ⟨1, tst [((Reg.I2C_CMD_GO 1), 1)], by decide +kernel⟩,
   ⟨.engine 0, 1, 0x141, tst [], by decide +kernel⟩,
   ⟨.engine 0, 1, 0x141, [], [7], 1, { tst [((Reg.I2C_CMD_GO 1), 1), ((Reg.I2C_CMD_LEN 1), 9)] with peri := { i2c := .replicate 3 { tx := .replicate 8 7 } } }, by decide +kernel⟩,
   ⟨.engine 0, 1, [7, 8], [7, 8], 0, tst [((Reg.I2C_CMD_GO 1), 1), ((Reg.I2C_CMD_LEN 1), 2), ((Reg.I2C_CMD_READ 1), 1)], by decide +kernel⟩,
   ⟨.engine 0, 9, tst [(Reg.SPI_CTRL_EN, 1)], by decide +kernel⟩,
   ⟨.engine 0, 9, tst [(Reg.SPI_STATUS_BUSY, 1)], by decide +kernel⟩,
   ⟨9, tst [(Reg.SPI_STATUS_BUSY, 1)], by decide +kernel⟩,
   ⟨5, true, tst [((Reg.GPIO_EDGE 5), 1)], by decide +kernel⟩,
   ⟨5, true, tst [((Reg.GPIO_EDGE 5), 2)], by decide +kernel⟩,
   ⟨.engine 0, 2, 1, tst [((Reg.TIM_LOAD_LOAD 2), 50)], by decide +kernel⟩,
   ⟨.engine 0, 2, 0, tst [((Reg.TIM_CTRL_EN 2), 1)], by decide +kernel⟩,
   ⟨2, tst [((Reg.TIM_CTRL_EN 2), 1), ((Reg.TIM_CTRL_PERIODIC 2), 1)], by decide +kernel⟩,
   ⟨2, tst [((Reg.TIM_CTRL_EN 2), 1)], by decide +kernel⟩,
   ⟨2, tst [], by decide +kernel⟩⟩

theorem test_meets_CheckValueUnits :
    (∃ (m : Master) (u : Fin 4) (v : Word) (s : State), (s.accepts m (cvuAddr u)) ∧ (v.toNat.testBit 0 = true) ∧ (s.on (Reg.CVU_STATUS_BUSY u) = false)) ∧
    (∃ (m : Master) (u : Fin 4) (v : Word) (s : State), (s.accepts m (cvuAddr u)) ∧ (v.toNat.testBit 0 = true) ∧ (s.on (Reg.CVU_STATUS_BUSY u) = true)) ∧
    (∃ (m : Master) (u : Fin 4) (v : Word) (s : State), (s.accepts m (cvuAddr u)) ∧ (v.toNat.testBit 1 = true) ∧ (s.on (Reg.CVU_STATUS_BUSY u) = false)) ∧
    (∃ (m : Master) (u : Fin 4) (v : Word) (s : State), (s.accepts m (cvuAddr u)) ∧ (v.toNat.testBit 1 = true) ∧ (s.on (Reg.CVU_STATUS_BUSY u) = true)) ∧
    (∃ (u : Fin 4) (x : Option Nat) (n : Nat) (s : State), (s.on (Reg.CVU_STATUS_BUSY u) = true) ∧ (((List.range (s.cvu.unit[u]).len).find? (fun i => (s.cvuByte ((s.cvu.unit[u]).addr + i)).isNone || x == some i)) = some n)) ∧
    (∃ (u : Fin 4) (s : State), (s.on (Reg.CVU_STATUS_BUSY u) = true) ∧ (s.on (Reg.CVU_CTRL_START u) = false) ∧ (s.on (Reg.CVU_CTRL_STOP u) = false) ∧ ((s.cvu.unit[u]).len = 0)) ∧
    (∃ (u : Fin 4) (d : List Byte) (s : State), (s.on (Reg.CVU_STATUS_BUSY u) = true) ∧ (s.rd (Reg.CVU_CTRL_ALIVE_MODE u) = 0) ∧ ((List.range (s.cvu.unit[u]).len).all (fun i => (s.cvuByte ((s.cvu.unit[u]).addr + i)).isSome) = true) ∧ ((List.range (s.cvu.unit[u]).len).map (fun i => (s.cvuByte ((s.cvu.unit[u]).addr + i)).getD 0) = d) ∧ (cvuCrc (s.rd (Reg.CVU_CTRL_ALG u)) d = (s.cvu.unit[u]).expect)) ∧
    (∃ (u : Fin 4) (d : List Byte) (s : State), (s.on (Reg.CVU_STATUS_BUSY u) = true) ∧ (s.rd (Reg.CVU_CTRL_ALIVE_MODE u) = 0) ∧ ((List.range (s.cvu.unit[u]).len).all (fun i => (s.cvuByte ((s.cvu.unit[u]).addr + i)).isSome) = true) ∧ ((List.range (s.cvu.unit[u]).len).map (fun i => (s.cvuByte ((s.cvu.unit[u]).addr + i)).getD 0) = d) ∧ (cvuCrc (s.rd (Reg.CVU_CTRL_ALG u)) d ≠ (s.cvu.unit[u]).expect) ∧ (s.on (Reg.CVU_CTRL_CMP_EN u) = true)) ∧
    (∃ (u : Fin 4) (d : List Byte) (s : State), (s.on (Reg.CVU_STATUS_BUSY u) = true) ∧ (s.rd (Reg.CVU_CTRL_ALIVE_MODE u) = 1) ∧ ((List.range (s.cvu.unit[u]).len).all (fun i => (s.cvuByte ((s.cvu.unit[u]).addr + i)).isSome) = true) ∧ ((List.range (s.cvu.unit[u]).len).map (fun i => (s.cvuByte ((s.cvu.unit[u]).addr + i)).getD 0) = d) ∧ (cvuCrc (s.rd (Reg.CVU_CTRL_ALG u)) d = (s.cvu.unit[u]).expect) ∧ (s.rd (Reg.CVU_ALIVE_OFS_OFS u) + (if s.on (Reg.CVU_ALIVE_W16 u) then 2 else 1) ≤ (s.cvu.unit[u]).len)) ∧
    (∃ (u : Fin 4) (d : List Byte) (s : State), (s.on (Reg.CVU_STATUS_BUSY u) = true) ∧ (s.rd (Reg.CVU_CTRL_ALIVE_MODE u) = 2) ∧ ((List.range (s.cvu.unit[u]).len).all (fun i => (s.cvuByte ((s.cvu.unit[u]).addr + i)).isSome) = true) ∧ ((List.range (s.cvu.unit[u]).len).map (fun i => (s.cvuByte ((s.cvu.unit[u]).addr + i)).getD 0) = d) ∧ (cvuCrc (s.rd (Reg.CVU_CTRL_ALG u)) (d ++ leBytes (if s.on (Reg.CVU_ALIVE_W16 u) then 2 else 1) ((s.rd (Reg.CVU_ALIVE_REF u) + 1) % 2 ^ (8 * if s.on (Reg.CVU_ALIVE_W16 u) then 2 else 1))) = (s.cvu.unit[u]).expect)) ∧
    (∃ (u : Fin 4) (d : List Byte) (s : State), (s.on (Reg.CVU_STATUS_BUSY u) = true) ∧ (s.rd (Reg.CVU_CTRL_ALIVE_MODE u) = 2) ∧ ((List.range (s.cvu.unit[u]).len).all (fun i => (s.cvuByte ((s.cvu.unit[u]).addr + i)).isSome) = true) ∧ ((List.range (s.cvu.unit[u]).len).map (fun i => (s.cvuByte ((s.cvu.unit[u]).addr + i)).getD 0) = d) ∧ (cvuCrc (s.rd (Reg.CVU_CTRL_ALG u)) (d ++ leBytes (if s.on (Reg.CVU_ALIVE_W16 u) then 2 else 1) ((s.rd (Reg.CVU_ALIVE_REF u) + 1) % 2 ^ (8 * if s.on (Reg.CVU_ALIVE_W16 u) then 2 else 1))) ≠ (s.cvu.unit[u]).expect)) ∧
    (∃ (u : Fin 4) (x : Option Nat) (s : State), (s.on (Reg.CVU_STATUS_BUSY u) = false)) ∧
    (∃ (u : Fin 4) (s : State), (s.on (Reg.CVU_CTRL_START u) = true) ∧ (s.rd (Reg.CVU_CTRL_PERIOD u) ≠ 0) ∧ (s.on (Reg.CVU_STATUS_BUSY u) = false)) ∧
    (∃ (u : Fin 4) (s : State), (s.on (Reg.CVU_CTRL_START u) = true) ∧ (s.rd (Reg.CVU_CTRL_PERIOD u) ≠ 0) ∧ (s.on (Reg.CVU_STATUS_BUSY u) = true)) ∧
    (∃ (u : Fin 4) (s : State), (s.on (Reg.CVU_CTRL_START u) = false ∨ s.rd (Reg.CVU_CTRL_PERIOD u) = 0)) :=
  ⟨⟨.engine 0, 2, 1, tst [], by decide +kernel⟩,
   ⟨.engine 0, 2, 1, tst [((Reg.CVU_STATUS_BUSY 2), 1)], by decide +kernel⟩,
   ⟨.engine 0, 2, 2, tst [((Reg.CVU_CTRL_START 2), 1)], by decide +kernel⟩,
   ⟨.engine 0, 2, 2, tst [((Reg.CVU_STATUS_BUSY 2), 1)], by decide +kernel⟩,
   ⟨2, some 1, 0, { tst [((Reg.CVU_STATUS_BUSY 2), 1)] with cvu := { unit := .replicate 4 { len := 4 } } }, by decide +kernel⟩,
   ⟨2, tst [((Reg.CVU_STATUS_BUSY 2), 1)], by decide +kernel⟩,
   ⟨2, [], { tst [((Reg.CVU_STATUS_BUSY 2), 1), ((Reg.CVU_CTRL_ALIVE_MODE 2), 0)] with cvu := { unit := .replicate 4 { expect := cvuCrc 0 [] } } }, by decide +kernel⟩,
   ⟨2, [], { tst [((Reg.CVU_STATUS_BUSY 2), 1), ((Reg.CVU_CTRL_ALIVE_MODE 2), 0), ((Reg.CVU_CTRL_CMP_EN 2), 1)] with cvu := { unit := .replicate 4 { expect := 5 } } }, by decide +kernel⟩,
   ⟨2, [0, 0, 0, 0], { tst [((Reg.CVU_STATUS_BUSY 2), 1), ((Reg.CVU_CTRL_ALIVE_MODE 2), 1)] with cvu := { unit := .replicate 4 { addr := 0x10000000, len := 4, expect := cvuCrc 0 [0, 0, 0, 0] } } }, by decide +kernel⟩,
   ⟨2, [], { tst [((Reg.CVU_STATUS_BUSY 2), 1), ((Reg.CVU_CTRL_ALIVE_MODE 2), 2)] with cvu := { unit := .replicate 4 { expect := cvuCrc 0 [1] } } }, by decide +kernel⟩,
   ⟨2, [], { tst [((Reg.CVU_STATUS_BUSY 2), 1), ((Reg.CVU_CTRL_ALIVE_MODE 2), 2)] with cvu := { unit := .replicate 4 { expect := 5 } } }, by decide +kernel⟩,
   ⟨2, none, tst [], by decide +kernel⟩,
   ⟨2, tst [((Reg.CVU_CTRL_START 2), 1), ((Reg.CVU_CTRL_PERIOD 2), 5)], by decide +kernel⟩,
   ⟨2, tst [((Reg.CVU_CTRL_START 2), 1), ((Reg.CVU_CTRL_PERIOD 2), 5), ((Reg.CVU_STATUS_BUSY 2), 1)], by decide +kernel⟩,
   ⟨2, tst [], by decide +kernel⟩⟩

theorem test_meets_CryptoEngine :
    (∃ (m : Master) (v : Word) (s : State), (s.accepts m 0x20160000) ∧ (v.toNat.testBit 31 = true) ∧ (bits v.toNat 0 3 = 1) ∧ ((s.stored m 0x20160000 v).on Reg.CRYPTO_STATUS_BUSY = false)) ∧
    (∃ (m : Master) (v : Word) (s : State), (s.accepts m 0x20160000) ∧ (v.toNat.testBit 31 = true) ∧ (bits v.toNat 0 3 = 2) ∧ ((s.stored m 0x20160000 v).on Reg.CRYPTO_STATUS_BUSY = false)) ∧
    (∃ (m : Master) (v : Word) (s : State), (s.accepts m 0x20160000) ∧ (v.toNat.testBit 31 = true) ∧ (bits v.toNat 0 3 = 3) ∧ ((s.stored m 0x20160000 v).on Reg.CRYPTO_STATUS_BUSY = false)) ∧
    (∃ (m : Master) (v : Word) (s : State), (s.accepts m 0x20160000) ∧ (v.toNat.testBit 31 = true) ∧ (bits v.toNat 0 3 = 4) ∧ ((s.stored m 0x20160000 v).on Reg.CRYPTO_STATUS_BUSY = false)) ∧
    (∃ (m : Master) (v : Word) (s : State), (s.accepts m 0x20160000) ∧ (v.toNat.testBit 31 = true) ∧ (bits v.toNat 0 3 = 1) ∧ ((s.stored m 0x20160000 v).on Reg.CRYPTO_STATUS_BUSY = true)) ∧
    (∃ (m : Master) (v : Word) (s : State), (s.accepts m 0x20160000) ∧ (v.toNat.testBit 31 = true) ∧ (bits v.toNat 0 3 = 2) ∧ ((s.stored m 0x20160000 v).on Reg.CRYPTO_STATUS_BUSY = true)) ∧
    (∃ (m : Master) (v : Word) (s : State), (s.accepts m 0x20160000) ∧ (v.toNat.testBit 31 = true) ∧ (bits v.toNat 0 3 = 3) ∧ ((s.stored m 0x20160000 v).on Reg.CRYPTO_STATUS_BUSY = true)) ∧
    (∃ (m : Master) (v : Word) (s : State), (s.accepts m 0x20160000) ∧ (v.toNat.testBit 31 = true) ∧ (bits v.toNat 0 3 = 4) ∧ ((s.stored m 0x20160000 v).on Reg.CRYPTO_STATUS_BUSY = true)) ∧
    (∃ (s : State) (o : CryptoOp), (s.ident.op = some o)) ∧
    (∃ (s : State) (o : CryptoOp) (i : Fin 8), (s.ident.op = some o) ∧ (o.op = 1) ∧ (o.len = 0)) ∧
    (∃ (s : State) (o : CryptoOp), (s.ident.op = some o) ∧ (o.op = 4) ∧ (s.ident.trngFail = false)) ∧
    (∃ (s : State) (o : CryptoOp), (s.ident.op = some o) ∧ (o.op = 4) ∧ (s.ident.trngFail = true)) ∧
    (∃ (s : State), (s.ident.op = none)) ∧
    (∃ (m : Master) (v : Word) (i : Fin 8) (s : State), (s.accepts m 0x20160120) ∧ (v.toNat.testBit 31 = true)) :=
  ⟨⟨.engine 0, 0x80000001, tst [], by decide +kernel⟩,
   ⟨.engine 0, 0x80000002, tst [], by decide +kernel⟩,
   ⟨.engine 0, 0x80000003, tst [], by decide +kernel⟩,
   ⟨.engine 0, 0x80000004, tst [], by decide +kernel⟩,
   ⟨.engine 0, 0x80000001, tst [(Reg.CRYPTO_STATUS_BUSY, 1)], by decide +kernel⟩,
   ⟨.engine 0, 0x80000002, tst [(Reg.CRYPTO_STATUS_BUSY, 1)], by decide +kernel⟩,
   ⟨.engine 0, 0x80000003, tst [(Reg.CRYPTO_STATUS_BUSY, 1)], by decide +kernel⟩,
   ⟨.engine 0, 0x80000004, tst [(Reg.CRYPTO_STATUS_BUSY, 1)], by decide +kernel⟩,
   ⟨{ tst [(Reg.CRYPTO_STATUS_BUSY, 1)] with ident := { op := some { op := 1, addr := 0x10000000 } } }, { op := 1, addr := 0x10000000 }, by decide +kernel⟩,
   ⟨{ tst [(Reg.CRYPTO_STATUS_BUSY, 1)] with ident := { op := some { op := 1, addr := 0x10000000 } } }, { op := 1, addr := 0x10000000 }, 3, by decide +kernel⟩,
   ⟨{ tst [(Reg.CRYPTO_STATUS_BUSY, 1)] with ident := { op := some { op := 4 } } }, { op := 4 }, by decide +kernel⟩,
   ⟨{ tst [(Reg.CRYPTO_STATUS_BUSY, 1)] with ident := { trngFail := true, op := some { op := 4 } } }, { op := 4 }, by decide +kernel⟩,
   ⟨tst [], by decide +kernel⟩,
   ⟨.engine 12, 0x80000001, 3, tst [((Reg.CRYPTO_SMKEY_DATA 3), 7)], by decide +kernel⟩⟩

end Sys2Proof.Tests
end

section
/-! SUPPORT. The frame of `exec`, command by command, and what follows from it for one step: the statements that every command stays in
its footprint (spec/00_scope.md R1, R3, R5) and that every step keeps the canonical forms. -/

namespace Sys2Proof.Machine

/-- A command whose frame lies within its footprint, by the tests `subN` and `subZ`, stays within its footprint. -/
theorem FrRes.inFootprint {c : Instr} {s : State} {b bs : List Keys} {z zs : List Zone} (h : FrRes b z s (exec c s))
    (hf : footprint c = (bs, zs)) (hs : (subN b bs && subZ z zs) = true) :
    FrRes (footprint c).1 (footprint c).2 s (exec c s) := by
  obtain ⟨hb, hz⟩ := Bool.and_eq_true_iff.1 hs
  rw [hf]
  exact h.mono hb hz

/-- One arm per command: its frame law of Laws/ lies within the footprint that Footprint.lean gives it. (Two commands ignore an operand, which
the unifier then cannot find, and that of `mret` is given to keep it from unfolding the command.) -/
theorem exec_inFootprint (c : Instr) (s : State) : FrRes (footprint c).1 (footprint c).2 s (exec c s) := by
  cases c with
  | registerWrite => exact FrRes.inFootprint execRegisterWrite_fr rfl (by decide +kernel)
  | commitGuard => exact FrRes.inFootprint execCommitGuard_fr rfl (by decide +kernel)
  | immediateCommitLive => exact FrRes.inFootprint execImmediateCommitLive_fr rfl (by decide +kernel)
  | boundaryFix => exact FrRes.inFootprint execBoundaryFix_fr rfl (by decide +kernel)
  | latchDeparture => exact FrRes.inFootprint execLatchDeparture_fr rfl (by decide +kernel)
  | frameBoundary => exact FrRes.inFootprint execFrameBoundary_fr rfl (by decide +kernel)
  | passADone => exact FrRes.inFootprint execPassADone_fr rfl (by decide +kernel)
  | passAAbandon => exact FrRes.inFootprint execPassAAbandon_fr rfl (by decide +kernel)
  | nominalBoundaryPassed => exact FrRes.inFootprint execNominalBoundaryPassed_fr rfl (by decide +kernel)
  | lineSlotStart => exact FrRes.inFootprint execLineSlotStart_fr rfl (by decide +kernel)
  | lineBufferWatermark => exact FrRes.inFootprint execLineBufferWatermark_fr rfl (by decide +kernel)
  | startOfBlanking => exact FrRes.inFootprint execStartOfBlanking_fr rfl (by decide +kernel)
  | kalPassBCheck => exact FrRes.inFootprint execKalPassBCheck_fr rfl (by decide +kernel)
  | lineMatch => exact FrRes.inFootprint execLineMatch_fr rfl (by decide +kernel)
  | ftEnable => exact FrRes.inFootprint execFtEnable_fr rfl (by decide +kernel)
  | ftDisable => exact FrRes.inFootprint execFtDisable_fr rfl (by decide +kernel)
  | ftCommit => exact FrRes.inFootprint execFtCommit_fr rfl (by decide +kernel)
  | saEnable => exact FrRes.inFootprint execSaEnable_fr rfl (by decide +kernel)
  | saCommit => exact FrRes.inFootprint execSaCommit_fr rfl (by decide +kernel)
  | saLoadStart => exact FrRes.inFootprint execSaLoadStart_fr rfl (by decide +kernel)
  | saLoadAbort => exact FrRes.inFootprint execSaLoadAbort_fr rfl (by decide +kernel)
  | saLoadEnd => exact FrRes.inFootprint execSaLoadEnd_fr rfl (by decide +kernel)
  | saDiagStart => exact FrRes.inFootprint execSaDiagStart_fr rfl (by decide +kernel)
  | saDiagDone => exact FrRes.inFootprint execSaDiagDone_fr rfl (by decide +kernel)
  | saEccDed => exact FrRes.inFootprint execSaEccDed_fr rfl (by decide +kernel)
  | saFenceSet => exact FrRes.inFootprint execSaFenceSet_fr rfl (by decide +kernel)
  | layerEnable => exact FrRes.inFootprint execLayerEnable_fr rfl (by decide +kernel)
  | layerCommit => exact FrRes.inFootprint execLayerCommit_fr rfl (by decide +kernel)
  | scanoutAgentHandover => exact FrRes.inFootprint execScanoutAgentHandover_fr rfl (by decide +kernel)
  | fetchError l => exact FrRes.inFootprint (execFetchError_fr (a0 := l)) rfl (by decide +kernel)
  | maskinEnable => exact FrRes.inFootprint execMaskinEnable_fr rfl (by decide +kernel)
  | maskinFrameStart => exact FrRes.inFootprint execMaskinFrameStart_fr rfl (by decide +kernel)
  | maskinFrameEnd => exact FrRes.inFootprint execMaskinFrameEnd_fr rfl (by decide +kernel)
  | maskinLongPacket => exact FrRes.inFootprint execMaskinLongPacket_fr rfl (by decide +kernel)
  | maskinShortPacket => exact FrRes.inFootprint execMaskinShortPacket_fr rfl (by decide +kernel)
  | maskinHeaderEccError => exact FrRes.inFootprint execMaskinHeaderEccError_fr rfl (by decide +kernel)
  | maskinOtherPacket => exact FrRes.inFootprint execMaskinOtherPacket_fr rfl (by decide +kernel)
  | maskComplete => exact FrRes.inFootprint execMaskComplete_fr rfl (by decide +kernel)
  | maskinLineTimeout => exact FrRes.inFootprint execMaskinLineTimeout_fr rfl (by decide +kernel)
  | protectedRegionWrite => exact FrRes.inFootprint execProtectedRegionWrite_fr rfl (by decide +kernel)
  | spanCheckStart => exact FrRes.inFootprint execSpanCheckStart_fr rfl (by decide +kernel)
  | spanCheckDone => exact FrRes.inFootprint execSpanCheckDone_fr rfl (by decide +kernel)
  | warpTapClamp => exact FrRes.inFootprint execWarpTapClamp_fr rfl (by decide +kernel)
  | driveReadError => exact FrRes.inFootprint execDriveReadError_fr rfl (by decide +kernel)
  | tlEnable => exact FrRes.inFootprint execTlEnable_fr rfl (by decide +kernel)
  | tlRetrain => exact FrRes.inFootprint execTlRetrain_fr rfl (by decide +kernel)
  | trainingCapsSend => exact FrRes.inFootprint execTrainingCapsSend_fr rfl (by decide +kernel)
  | capsRx => exact FrRes.inFootprint execCapsRx_fr rfl (by decide +kernel)
  | capsTimeout => exact FrRes.inFootprint execCapsTimeout_fr rfl (by decide +kernel)
  | rateRelock => exact FrRes.inFootprint execRateRelock_fr rfl (by decide +kernel)
  | latencyProbeSet => exact FrRes.inFootprint execLatencyProbeSet_fr rfl (by decide +kernel)
  | periodicProbe => exact FrRes.inFootprint execPeriodicProbe_fr rfl (by decide +kernel)
  | configOkTimeout => exact FrRes.inFootprint execConfigOkTimeout_fr rfl (by decide +kernel)
  | tlClaim => exact FrRes.inFootprint execTlClaim_fr rfl (by decide +kernel)
  | tlFence => exact FrRes.inFootprint execTlFence_fr rfl (by decide +kernel)
  | fbStart => exact FrRes.inFootprint execFbStart_fr rfl (by decide +kernel)
  | fbReplyRx => exact FrRes.inFootprint execFbReplyRx_fr rfl (by decide +kernel)
  | fbTimeout => exact FrRes.inFootprint execFbTimeout_fr rfl (by decide +kernel)
  | healthRx => exact FrRes.inFootprint execHealthRx_fr rfl (by decide +kernel)
  | diagRetRx => exact FrRes.inFootprint execDiagRetRx_fr rfl (by decide +kernel)
  | staleReplyRx => exact FrRes.inFootprint execStaleReplyRx_fr rfl (by decide +kernel)
  | capackTimeout => exact FrRes.inFootprint execCapackTimeout_fr rfl (by decide +kernel)
  | idleKeepalive => exact FrRes.inFootprint execIdleKeepalive_fr rfl (by decide +kernel)
  | upstreamPacketError => exact FrRes.inFootprint execUpstreamPacketError_fr rfl (by decide +kernel)
  | tlRxTimeout => exact FrRes.inFootprint execTlRxTimeout_fr rfl (by decide +kernel)
  | autoRetrainTimer => exact FrRes.inFootprint execAutoRetrainTimer_fr rfl (by decide +kernel)
  | laneIdleReq => exact FrRes.inFootprint execLaneIdleReq_fr rfl (by decide +kernel)
  | idleExit => exact FrRes.inFootprint execIdleExit_fr rfl (by decide +kernel)
  | laneLockAcquired => exact FrRes.inFootprint execLaneLockAcquired_fr rfl (by decide +kernel)
  | laneLockLoss => exact FrRes.inFootprint execLaneLockLoss_fr rfl (by decide +kernel)
  | eyeWindowEnd => exact FrRes.inFootprint execEyeWindowEnd_fr rfl (by decide +kernel)
  | laneAdapt => exact FrRes.inFootprint execLaneAdapt_fr rfl (by decide +kernel)
  | adaptationDone => exact FrRes.inFootprint execAdaptationDone_fr rfl (by decide +kernel)
  | lanePrbsConfig => exact FrRes.inFootprint execLanePrbsConfig_fr rfl (by decide +kernel)
  | injOne => exact FrRes.inFootprint execInjOne_fr rfl (by decide +kernel)
  | injBurst => exact FrRes.inFootprint execInjBurst_fr rfl (by decide +kernel)
  | lanePllLoss => exact FrRes.inFootprint execLanePllLoss_fr rfl (by decide +kernel)
  | hlthEnable => exact FrRes.inFootprint execHlthEnable_fr rfl (by decide +kernel)
  | hlthCommit => exact FrRes.inFootprint execHlthCommit_fr rfl (by decide +kernel)
  | hlthForce => exact FrRes.inFootprint execHlthForce_fr rfl (by decide +kernel)
  | hlthCapture => exact FrRes.inFootprint execHlthCapture_fr rfl (by decide +kernel)
  | hlthReportTimer => exact FrRes.inFootprint execHlthReportTimer_fr rfl (by decide +kernel)
  | hlthRptPop => exact FrRes.inFootprint execHlthRptPop_fr rfl (by decide +kernel)
  | lscEnable => exact FrRes.inFootprint execLscEnable_fr rfl (by decide +kernel)
  | lscHandoverDone => exact FrRes.inFootprint execLscHandoverDone_fr rfl (by decide +kernel)
  | lscRelease => exact FrRes.inFootprint execLscRelease_fr rfl (by decide +kernel)
  | lscLoopUpdate => exact FrRes.inFootprint execLscLoopUpdate_fr rfl (by decide +kernel)
  | lscPhaseSample => exact FrRes.inFootprint execLscPhaseSample_fr rfl (by decide +kernel)
  | lscCommit => exact FrRes.inFootprint execLscCommit_fr rfl (by decide +kernel)
  | phaseOvercurrent => exact FrRes.inFootprint execPhaseOvercurrent_fr rfl (by decide +kernel)
  | persistentOvercurrent => exact FrRes.inFootprint execPersistentOvercurrent_fr rfl (by decide +kernel)
  | overVoltage => exact FrRes.inFootprint execOverVoltage_fr rfl (by decide +kernel)
  | underVoltage => exact FrRes.inFootprint execUnderVoltage_fr rfl (by decide +kernel)
  | stageFault => exact FrRes.inFootprint execStageFault_fr rfl (by decide +kernel)
  | thmEnable => exact FrRes.inFootprint execThmEnable_fr rfl (by decide +kernel)
  | thmCommit => exact FrRes.inFootprint execThmCommit_fr rfl (by decide +kernel)
  | thmModelStep => exact FrRes.inFootprint execThmModelStep_fr rfl (by decide +kernel)
  | thmTick => exact FrRes.inFootprint execThmTick_fr rfl (by decide +kernel)
  | thmSensorSuspect => exact FrRes.inFootprint execThmSensorSuspect_fr rfl (by decide +kernel)
  | thmModelDeviation => exact FrRes.inFootprint execThmModelDeviation_fr rfl (by decide +kernel)
  | tileSensorTimeout => exact FrRes.inFootprint execTileSensorTimeout_fr rfl (by decide +kernel)
  | dieTempSample => exact FrRes.inFootprint execDieTempSample_fr rfl (by decide +kernel)
  | thermalShutdown => exact FrRes.inFootprint execThermalShutdown_fr rfl (by decide +kernel)
  | shutdownDeferLimit => exact FrRes.inFootprint execShutdownDeferLimit_fr rfl (by decide +kernel)
  | tCritComparator => exact FrRes.inFootprint execTCritComparator_fr rfl (by decide +kernel)
  | thermalRestart => exact FrRes.inFootprint execThermalRestart_fr rfl (by decide +kernel)
  | calEnable => exact FrRes.inFootprint execCalEnable_fr rfl (by decide +kernel)
  | adcCorrMeasure => exact FrRes.inFootprint execAdcCorrMeasure_fr rfl (by decide +kernel)
  | adcCorrDone => exact FrRes.inFootprint execAdcCorrDone_fr rfl (by decide +kernel)
  | calStart => exact FrRes.inFootprint execCalStart_fr rfl (by decide +kernel)
  | calIntervalTimer => exact FrRes.inFootprint execCalIntervalTimer_fr rfl (by decide +kernel)
  | calTempCheck => exact FrRes.inFootprint execCalTempCheck_fr rfl (by decide +kernel)
  | calRunTimeout => exact FrRes.inFootprint execCalRunTimeout_fr rfl (by decide +kernel)
  | autoSaveWrite => exact FrRes.inFootprint execAutoSaveWrite_fr rfl (by decide +kernel)
  | calExtStart => exact FrRes.inFootprint execCalExtStart_fr rfl (by decide +kernel)
  | calExtStep => exact FrRes.inFootprint execCalExtStep_fr rfl (by decide +kernel)
  | calExtFinish => exact FrRes.inFootprint execCalExtFinish_fr rfl (by decide +kernel)
  | calExtAbort => exact FrRes.inFootprint execCalExtAbort_fr rfl (by decide +kernel)
  | nvRead => exact FrRes.inFootprint execNvRead_fr rfl (by decide +kernel)
  | nvWrite => exact FrRes.inFootprint execNvWrite_fr rfl (by decide +kernel)
  | nvWriteDone => exact FrRes.inFootprint execNvWriteDone_fr rfl (by decide +kernel)
  | netEnable => exact FrRes.inFootprint execNetEnable_fr rfl (by decide +kernel)
  | netLinkChange => exact FrRes.inFootprint execNetLinkChange_fr rfl (by decide +kernel)
  | netRxKick => exact FrRes.inFootprint execNetRxKick_fr rfl (by decide +kernel)
  | netTxKick => exact FrRes.inFootprint execNetTxKick_fr rfl (by decide +kernel)
  | netFrameRx => exact FrRes.inFootprint execNetFrameRx_fr rfl (by decide +kernel)
  | netFrameTx => exact FrRes.inFootprint execNetFrameTx_fr rfl (by decide +kernel)
  | mdioAccess => exact FrRes.inFootprint execMdioAccess_fr rfl (by decide +kernel)
  | mdioDone => exact FrRes.inFootprint execMdioDone_fr rfl (by decide +kernel)
  | timeDomainEn => exact FrRes.inFootprint execTimeDomainEn_fr rfl (by decide +kernel)
  | timeLoad => exact FrRes.inFootprint execTimeLoad_fr rfl (by decide +kernel)
  | timeStep => exact FrRes.inFootprint execTimeStep_fr rfl (by decide +kernel)
  | timeAdjustApply => exact FrRes.inFootprint execTimeAdjustApply_fr rfl (by decide +kernel)
  | ftSourceSwitch => exact FrRes.inFootprint execFtSourceSwitch_fr rfl (by decide +kernel)
  | switchPendApply => exact FrRes.inFootprint execSwitchPendApply_fr rfl (by decide +kernel)
  | timeSlewStep => exact FrRes.inFootprint execTimeSlewStep_fr rfl (by decide +kernel)
  | timeNsRead => exact FrRes.inFootprint execTimeNsRead_fr rfl (by decide +kernel)
  | ftNextNsRead => exact FrRes.inFootprint execFtNextNsRead_fr rfl (by decide +kernel)
  | timeCaptureEdge => exact FrRes.inFootprint execTimeCaptureEdge_fr rfl (by decide +kernel)
  | timeCapInfoRead => exact FrRes.inFootprint execTimeCapInfoRead_fr rfl (by decide +kernel)
  | ppsEdge => exact FrRes.inFootprint execPpsEdge_fr rfl (by decide +kernel)
  | cueFire => exact FrRes.inFootprint execCueFire_fr rfl (by decide +kernel)
  | safeEnable => exact FrRes.inFootprint execSafeEnable_fr rfl (by decide +kernel)
  | safeAck => exact FrRes.inFootprint execSafeAck_fr rfl (by decide +kernel)
  | safeRestrict => exact FrRes.inFootprint execSafeRestrict_fr rfl (by decide +kernel)
  | safeFbReq => exact FrRes.inFootprint execSafeFbReq_fr rfl (by decide +kernel)
  | proofReq => exact FrRes.inFootprint execProofReq_fr rfl (by decide +kernel)
  | proofClr => exact FrRes.inFootprint execProofClr_fr rfl (by decide +kernel)
  | cmonTest => exact FrRes.inFootprint execCmonTest_fr rfl (by decide +kernel)
  | cmonTestDone => exact FrRes.inFootprint execCmonTestDone_fr rfl (by decide +kernel)
  | clampMonitorTrip p => exact FrRes.inFootprint (execClampMonitorTrip_fr (a0 := p)) rfl (by decide +kernel)
  | sealRead => exact FrRes.inFootprint execSealRead_fr rfl (by decide +kernel)
  | interlockSample => exact FrRes.inFootprint execInterlockSample_fr rfl (by decide +kernel)
  | testPulseCheck => exact FrRes.inFootprint execTestPulseCheck_fr rfl (by decide +kernel)
  | discrepancyTick => exact FrRes.inFootprint execDiscrepancyTick_fr rfl (by decide +kernel)
  | fallbackSilence => exact FrRes.inFootprint execFallbackSilence_fr rfl (by decide +kernel)
  | dualWinExpiry => exact FrRes.inFootprint execDualWinExpiry_fr rfl (by decide +kernel)
  | safeWatchExpiry => exact FrRes.inFootprint execSafeWatchExpiry_fr rfl (by decide +kernel)
  | safeGrantWrite => exact FrRes.inFootprint execSafeGrantWrite_fr rfl (by decide +kernel)
  | safeMboxPop => exact FrRes.inFootprint execSafeMboxPop_fr rfl (by decide +kernel)
  | faultOccurrence => exact FrRes.inFootprint execFaultOccurrence_fr rfl (by decide +kernel)
  | fltAck => exact FrRes.inFootprint execFltAck_fr rfl (by decide +kernel)
  | fltPendClear => exact FrRes.inFootprint execFltPendClear_fr rfl (by decide +kernel)
  | fltLock => exact FrRes.inFootprint execFltLock_fr rfl (by decide +kernel)
  | fltSw => exact FrRes.inFootprint execFltSw_fr rfl (by decide +kernel)
  | fltPinRel => exact FrRes.inFootprint execFltPinRel_fr rfl (by decide +kernel)
  | fltEngineUnfence => exact FrRes.inFootprint execFltEngineUnfence_fr rfl (by decide +kernel)
  | fltZoneUnfence => exact FrRes.inFootprint execFltZoneUnfence_fr rfl (by decide +kernel)
  | fltNetUnfence => exact FrRes.inFootprint execFltNetUnfence_fr rfl (by decide +kernel)
  | eventSourceEdge => exact FrRes.inFootprint execEventSourceEdge_fr rfl (by decide +kernel)
  | evcSetpend => exact FrRes.inFootprint execEvcSetpend_fr rfl (by decide +kernel)
  | evcPendClear => exact FrRes.inFootprint execEvcPendClear_fr rfl (by decide +kernel)
  | eventEntry => exact FrRes.inFootprint execEventEntry_fr rfl (by decide +kernel)
  | mret e view => exact FrRes.inFootprint (execMret_fr (a0 := e) (a1 := view)) rfl (by decide +kernel)
  | syncException => exact FrRes.inFootprint execSyncException_fr rfl (by decide +kernel)
  | nmiEntry => exact FrRes.inFootprint execNmiEntry_fr rfl (by decide +kernel)
  | wfiEnter => exact FrRes.inFootprint execWfiEnter_fr rfl (by decide +kernel)
  | evcDrop => exact FrRes.inFootprint execEvcDrop_fr rfl (by decide +kernel)
  | evcRetarget => exact FrRes.inFootprint execEvcRetarget_fr rfl (by decide +kernel)
  | redirectTimeout => exact FrRes.inFootprint execRedirectTimeout_fr rfl (by decide +kernel)
  | engineHold => exact FrRes.inFootprint execEngineHold_fr rfl (by decide +kernel)
  | engineRelease => exact FrRes.inFootprint execEngineRelease_fr rfl (by decide +kernel)
  | aperChange => exact FrRes.inFootprint execAperChange_fr rfl (by decide +kernel)
  | wdtEnable => exact FrRes.inFootprint execWdtEnable_fr rfl (by decide +kernel)
  | wdtKick => exact FrRes.inFootprint execWdtKick_fr rfl (by decide +kernel)
  | wdtWarnExpiry => exact FrRes.inFootprint execWdtWarnExpiry_fr rfl (by decide +kernel)
  | wdtTimeout => exact FrRes.inFootprint execWdtTimeout_fr rfl (by decide +kernel)
  | uartDataWrite => exact FrRes.inFootprint execUartDataWrite_fr rfl (by decide +kernel)
  | uartDataRead => exact FrRes.inFootprint execUartDataRead_fr rfl (by decide +kernel)
  | uartRxByte => exact FrRes.inFootprint execUartRxByte_fr rfl (by decide +kernel)
  | i2cGo => exact FrRes.inFootprint execI2cGo_fr rfl (by decide +kernel)
  | i2cTransferEnd => exact FrRes.inFootprint execI2cTransferEnd_fr rfl (by decide +kernel)
  | i2cStretchTimeout => exact FrRes.inFootprint execI2cStretchTimeout_fr rfl (by decide +kernel)
  | i2cDataAccess => exact FrRes.inFootprint execI2cDataAccess_fr rfl (by decide +kernel)
  | spiDataWrite => exact FrRes.inFootprint execSpiDataWrite_fr rfl (by decide +kernel)
  | spiFrameDone => exact FrRes.inFootprint execSpiFrameDone_fr rfl (by decide +kernel)
  | gpioEdge => exact FrRes.inFootprint execGpioEdge_fr rfl (by decide +kernel)
  | timerEnable => exact FrRes.inFootprint execTimerEnable_fr rfl (by decide +kernel)
  | timerExpiry => exact FrRes.inFootprint execTimerExpiry_fr rfl (by decide +kernel)
  | tbaseLoRead => exact FrRes.inFootprint execTbaseLoRead_fr rfl (by decide +kernel)
  | memcEnable => exact FrRes.inFootprint execMemcEnable_fr rfl (by decide +kernel)
  | memcTrainingEnd => exact FrRes.inFootprint execMemcTrainingEnd_fr rfl (by decide +kernel)
  | memcRetrain => exact FrRes.inFootprint execMemcRetrain_fr rfl (by decide +kernel)
  | wck2dqTracking => exact FrRes.inFootprint execWck2dqTracking_fr rfl (by decide +kernel)
  | dramRead => exact FrRes.inFootprint execDramRead_fr rfl (by decide +kernel)
  | dramPartialWrite => exact FrRes.inFootprint execDramPartialWrite_fr rfl (by decide +kernel)
  | scrubRead => exact FrRes.inFootprint execScrubRead_fr rfl (by decide +kernel)
  | linkEccRate => exact FrRes.inFootprint execLinkEccRate_fr rfl (by decide +kernel)
  | dramTempReport => exact FrRes.inFootprint execDramTempReport_fr rfl (by decide +kernel)
  | sramEcc => exact FrRes.inFootprint execSramEcc_fr rfl (by decide +kernel)
  | winEnable => exact FrRes.inFootprint execWinEnable_fr rfl (by decide +kernel)
  | winLock => exact FrRes.inFootprint execWinLock_fr rfl (by decide +kernel)
  | winXferRequest => exact FrRes.inFootprint execWinXferRequest_fr rfl (by decide +kernel)
  | winHandover => exact FrRes.inFootprint execWinHandover_fr rfl (by decide +kernel)
  | winRetireHandover => exact FrRes.inFootprint execWinRetireHandover_fr rfl (by decide +kernel)
  | slotWriteBlocked => exact FrRes.inFootprint execSlotWriteBlocked_fr rfl (by decide +kernel)
  | winDmaGo => exact FrRes.inFootprint execWinDmaGo_fr rfl (by decide +kernel)
  | winDmaEnd => exact FrRes.inFootprint execWinDmaEnd_fr rfl (by decide +kernel)
  | winDmaTimeout => exact FrRes.inFootprint execWinDmaTimeout_fr rfl (by decide +kernel)
  | cvuStart => exact FrRes.inFootprint execCvuStart_fr rfl (by decide +kernel)
  | cvuScanEnd => exact FrRes.inFootprint execCvuScanEnd_fr rfl (by decide +kernel)
  | cvuPeriod => exact FrRes.inFootprint execCvuPeriod_fr rfl (by decide +kernel)
  | cvuStop => exact FrRes.inFootprint execCvuStop_fr rfl (by decide +kernel)
  | pairEnable => exact FrRes.inFootprint execPairEnable_fr rfl (by decide +kernel)
  | pairHelloSend => exact FrRes.inFootprint execPairHelloSend_fr rfl (by decide +kernel)
  | pairHelloRx => exact FrRes.inFootprint execPairHelloRx_fr rfl (by decide +kernel)
  | roleDecision => exact FrRes.inFootprint execRoleDecision_fr rfl (by decide +kernel)
  | pairProbe => exact FrRes.inFootprint execPairProbe_fr rfl (by decide +kernel)
  | beatRx => exact FrRes.inFootprint execBeatRx_fr rfl (by decide +kernel)
  | pairCrcRx => exact FrRes.inFootprint execPairCrcRx_fr rfl (by decide +kernel)
  | regMirrorRx => exact FrRes.inFootprint execRegMirrorRx_fr rfl (by decide +kernel)
  | commitMirrorRx => exact FrRes.inFootprint execCommitMirrorRx_fr rfl (by decide +kernel)
  | pairThermRx => exact FrRes.inFootprint execPairThermRx_fr rfl (by decide +kernel)
  | pairZlimRx => exact FrRes.inFootprint execPairZlimRx_fr rfl (by decide +kernel)
  | pairHlthRx => exact FrRes.inFootprint execPairHlthRx_fr rfl (by decide +kernel)
  | pairMaskRx => exact FrRes.inFootprint execPairMaskRx_fr rfl (by decide +kernel)
  | pairStateRx => exact FrRes.inFootprint execPairStateRx_fr rfl (by decide +kernel)
  | pairSlotGo => exact FrRes.inFootprint execPairSlotGo_fr rfl (by decide +kernel)
  | pairSlotRx => exact FrRes.inFootprint execPairSlotRx_fr rfl (by decide +kernel)
  | pairSlotEndRx => exact FrRes.inFootprint execPairSlotEndRx_fr rfl (by decide +kernel)
  | pairDump => exact FrRes.inFootprint execPairDump_fr rfl (by decide +kernel)
  | pairMsgRx => exact FrRes.inFootprint execPairMsgRx_fr rfl (by decide +kernel)
  | pairSilenceTimeout => exact FrRes.inFootprint execPairSilenceTimeout_fr rfl (by decide +kernel)
  | pwrRequest => exact FrRes.inFootprint execPwrRequest_fr rfl (by decide +kernel)
  | pwrQuiesceDone => exact FrRes.inFootprint execPwrQuiesceDone_fr rfl (by decide +kernel)
  | powerDownDone => exact FrRes.inFootprint execPowerDownDone_fr rfl (by decide +kernel)
  | wakeStepReady => exact FrRes.inFootprint execWakeStepReady_fr rfl (by decide +kernel)
  | wakeStepTimeout => exact FrRes.inFootprint execWakeStepTimeout_fr rfl (by decide +kernel)
  | pgoodFall => exact FrRes.inFootprint execPgoodFall_fr rfl (by decide +kernel)
  | vmonExcursion => exact FrRes.inFootprint execVmonExcursion_fr rfl (by decide +kernel)
  | standbyRequest => exact FrRes.inFootprint execStandbyRequest_fr rfl (by decide +kernel)
  | standbyEntry => exact FrRes.inFootprint execStandbyEntry_fr rfl (by decide +kernel)
  | wakePinEdge => exact FrRes.inFootprint execWakePinEdge_fr rfl (by decide +kernel)
  | coldStart => exact FrRes.inFootprint execColdStart_fr rfl (by decide +kernel)
  | powerOnReset => exact FrRes.inFootprint execPowerOnReset_fr rfl (by decide +kernel)
  | poresetN => exact FrRes.inFootprint execPoresetN_fr rfl (by decide +kernel)
  | sysresetN => exact FrRes.inFootprint execSysresetN_fr rfl (by decide +kernel)
  | softwareReset => exact FrRes.inFootprint execSoftwareReset_fr rfl (by decide +kernel)
  | chipReset => exact FrRes.inFootprint execChipReset_fr rfl (by decide +kernel)
  | memoryWipeDone => exact FrRes.inFootprint execMemoryWipeDone_fr rfl (by decide +kernel)
  | blockReset => exact FrRes.inFootprint execBlockReset_fr rfl (by decide +kernel)
  | swdtEnable => exact FrRes.inFootprint execSwdtEnable_fr rfl (by decide +kernel)
  | swdtKick => exact FrRes.inFootprint execSwdtKick_fr rfl (by decide +kernel)
  | swdtHalf => exact FrRes.inFootprint execSwdtHalf_fr rfl (by decide +kernel)
  | swdtTimeout => exact FrRes.inFootprint execSwdtTimeout_fr rfl (by decide +kernel)
  | swdtForcedReset => exact FrRes.inFootprint execSwdtForcedReset_fr rfl (by decide +kernel)
  | clockMonitor => exact FrRes.inFootprint execClockMonitor_fr rfl (by decide +kernel)
  | systemPllLoss => exact FrRes.inFootprint execSystemPllLoss_fr rfl (by decide +kernel)
  | xtalFail => exact FrRes.inFootprint execXtalFail_fr rfl (by decide +kernel)
  | closedCrossingAccess => exact FrRes.inFootprint execClosedCrossingAccess_fr rfl (by decide +kernel)
  | clkoutSelect => exact FrRes.inFootprint execClkoutSelect_fr rfl (by decide +kernel)
  | bootRom => exact FrRes.inFootprint execBootRom_fr rfl (by decide +kernel)
  | svnWrite => exact FrRes.inFootprint execSvnWrite_fr rfl (by decide +kernel)
  | lcRequest => exact FrRes.inFootprint execLcRequest_fr rfl (by decide +kernel)
  | lcFuseRecheck => exact FrRes.inFootprint execLcFuseRecheck_fr rfl (by decide +kernel)
  | debugOpenReq => exact FrRes.inFootprint execDebugOpenReq_fr rfl (by decide +kernel)
  | debugClose => exact FrRes.inFootprint execDebugClose_fr rfl (by decide +kernel)
  | cryptoSha256 => exact FrRes.inFootprint execCryptoSha256_fr rfl (by decide +kernel)
  | cryptoSign => exact FrRes.inFootprint execCryptoSign_fr rfl (by decide +kernel)
  | cryptoVerify => exact FrRes.inFootprint execCryptoVerify_fr rfl (by decide +kernel)
  | cryptoRngFill => exact FrRes.inFootprint execCryptoRngFill_fr rfl (by decide +kernel)
  | cryptoOpDone => exact FrRes.inFootprint execCryptoOpDone_fr rfl (by decide +kernel)
  | smkeyStore => exact FrRes.inFootprint execSmkeyStore_fr rfl (by decide +kernel)
  | trngHealthFail => exact FrRes.inFootprint execTrngHealthFail_fr rfl (by decide +kernel)
  | laneLockTimeout => exact FrRes.inFootprint execLaneLockTimeout_fr rfl (by decide +kernel)
  | prbsCheckerSync => exact FrRes.inFootprint execPrbsCheckerSync_fr rfl (by decide +kernel)
  | prbsBitError => exact FrRes.inFootprint execPrbsBitError_fr rfl (by decide +kernel)
  | partnerLanePacketError => exact FrRes.inFootprint execPartnerLanePacketError_fr rfl (by decide +kernel)
  | pairStateSend => exact FrRes.inFootprint execPairStateSend_fr rfl (by decide +kernel)
  | upstreamIdleRx => exact FrRes.inFootprint execUpstreamIdleRx_fr rfl (by decide +kernel)
  | uartTxEmpty => exact FrRes.inFootprint execUartTxEmpty_fr rfl (by decide +kernel)
  | ppsFall => exact FrRes.inFootprint execPpsFall_fr rfl (by decide +kernel)
  | cuePulseEnd => exact FrRes.inFootprint execCuePulseEnd_fr rfl (by decide +kernel)
  | wakeStepRestart => exact FrRes.inFootprint execWakeStepRestart_fr rfl (by decide +kernel)

/-- Settles O18: the frame of each command, put as the statement puts it. -/
theorem commandsStayInTheirFootprint : Obligations.CommandsStayInTheirFootprint := by
  intro c s
  obtain ⟨t, ht, hframe⟩ := exec_inFootprint c s
  exact ⟨t, ht, hframe.within⟩

/-- A command answers a next state and keeps the canonical forms. -/
theorem exec_keeps_wf (c : Instr) {s : State} (h : s.wf = true) : ∃ t, exec c s = .next t ∧ t.wf = true := by
  obtain ⟨t, ht, hframe⟩ := exec_inFootprint c s
  exact ⟨t, ht, hframe.wf h⟩

/-- An idle tick keeps the canonical forms: the time domains and the packets of PAIR are neither registers nor memory. -/
theorem tick_keeps_wf {s : State} (h : s.wf = true) : (tick s).wf = true :=
  State.pairFlush_fr.wf (State.tdTick_fr.wf (State.tdTick_fr.wf h))

theorem step_of_idle {s : State} (h : s.pending = []) : step s = .next (tick s) := by
  simp only [step, h]

theorem step_of_command {s : State} {c : Instr} {rest : List Instr} (h : s.pending = c :: rest) :
    step s = exec c { s with pending := rest } := by
  simp only [step, h]

/-- Settles O17: an idle step is a tick, any other the front command on the state with the rest of the queue, and both keep the forms. -/
theorem stepsKeepCanonicalForms : Obligations.StepsKeepCanonicalForms := by
  intro s hwf
  cases hq : s.pending with
  | nil => exact ⟨tick s, step_of_idle hq, tick_keeps_wf hwf⟩
  | cons c rest =>
    rw [step_of_command hq]
    exact exec_keeps_wf c (s := { s with pending := rest }) hwf

/-- Settles O16: the register file and the live copies list nothing after reset, and a field that is not listed reads its reset value. -/
theorem resetLeavesResetValues : Obligations.ResetLeavesResetValues :=
  ⟨fun _ => ⟨rfl, rfl⟩, rfl, rfl, rfl, rfl⟩

end Sys2Proof.Machine
end

section
/-! SUPPORT. Commands that one bit of the written word starts (spec/00_scope.md R3, R4, R5). -/

namespace Sys2Proof.Machine

/-- A command with a start bit is a write of its register with an effect of its own, and that effect changes nothing while the bit is 0. -/
theorem exec_of_goBit {c : Instr} {m : Master} {a : Nat} {v : Word} {b : Nat} (hg : goBit c = some b)
    (ht : busTarget c = some (m, a, v)) :
    ∃ act : State → State, (∀ s, exec c s = .next (s.busWrite m a v act)) ∧ (v.toNat.testBit b = false → ∀ s, act s = s) := by
  cases c <;> cases hg <;> cases ht
  all_goals exact ⟨_, fun _ => rfl, fun hclear _ => by simp [hclear]⟩

/-- Settles O20: an accepted write is what it stores followed by the command's effect, which is none while its bit is 0. -/
theorem clearCommandBitOnlyStores : Obligations.ClearCommandBitOnlyStores := by
  intro c m a v b s ht hg haccepts hclear
  obtain ⟨act, hexec, hidle⟩ := exec_of_goBit hg ht
  rw [hexec, State.busWrite_accepts haccepts, hidle hclear]

end Sys2Proof.Machine
end

section
/-! SUPPORT. The commit guard after a schedule change that has stepped the index back (spec/06_frame_timing.md R130, R132, R135). -/

namespace Sys2Proof.Machine

/-- With both guards passed of the boundaries that follow the latest chosen index, no guard is left to pass. -/
theorem State.guardPass_of_two_ahead {s : State} (h : s.ftNext + 2 ≤ s.ft.guard) : s.guardPass = s := by
  simp [State.guardPass, h]

/-- Frame timing runs and an FT commit waits. Boundary 5 is fixed, a schedule change after that has chosen boundary 2 to follow it (R135), and
the guards of boundaries 2 and 3 have passed. -/
def steppedBack : State :=
  ((State.reset.wr Reg.FT_STATUS_RUN 1).wr Reg.FT_CTRL_COMMIT 1).setFt { m := 5, fixed := some 0, after := some 2, guard := 4 }

/-- At `steppedBack` COMMIT_GUARD changes nothing, although its guard count 4 is below 5 + 2. -/
theorem exec_commitGuard_steppedBack : exec .commitGuard steppedBack = .next steppedBack :=
  congrArg _ (State.guardPass_of_two_ahead (by decide))

/-- Refutes O1 in its clause of COMMIT_GUARD: the premise bounds the guard count by the next boundary `ft.m`, where the model counts from the
index that a schedule change has chosen after a fixed boundary. -/
theorem not_completionFrameTiming : ¬ Obligations.CompletionFrameTiming := by
  unfold Obligations.CompletionFrameTiming
  intro h
  obtain ⟨-, hguard, -⟩ := h steppedBack steppedBack .debug 0 0
  obtain ⟨t, ht, hcount⟩ := hguard (by decide) (by decide) (by decide) rfl (by decide +kernel) (by decide +kernel)
  cases exec_commitGuard_steppedBack.symm.trans ht
  exact absurd hcount (by decide)

end Sys2Proof.Machine
end

section
/-! SUPPORT. A commit that is captured at once though the next boundary's count says that its guard lies ahead (spec/06_frame_timing.md R130,
R132, R135). -/

namespace Sys2Proof.Machine

/-- With both guards passed of the boundaries that follow the latest chosen index, a commit bit that is set captures at once, for the second of
them. -/
theorem State.commitBlock_of_two_ahead {s : State} {bit : Nat} (hclear : s.on (commitBit bit) = false)
    (hled : (s.wr (commitBit bit) 1).ledBlock bit = false) (hrun : (s.wr (commitBit bit) 1).on Reg.FT_STATUS_RUN = true)
    (hahead : s.ftNext + 2 ≤ s.ft.guard) :
    s.commitBlock bit = (s.wr (commitBit bit) 1).captureTold bit (s.ftNext + 1) false (frameNo (s.ftNext + 1)) := by
  have hkept : (s.wr (commitBit bit) 1).ftNext = s.ftNext := rfl
  simp [State.commitBlock, hclear, hled, hrun, hkept, hahead]

/-- FT_COMMIT: an accepted write with bit 1 set is what it stores, followed by the set of the commit bit. -/
theorem exec_ftCommit_accepts {m : Master} {v : Word} {s : State} (haccepts : s.accepts m 0x200A0000) (hset : v.toNat.testBit 1 = true) :
    exec (.ftCommit m v) s = .next ((s.stored m 0x200A0000 v).commitBlock 2) := by
  refine congrArg Host.Outcome.next ?_
  exact (State.busWrite_accepts haccepts).trans (if_pos hset)

/-- `steppedBack` with no commit waiting. -/
def steppedBackIdle : State := steppedBack.wr Reg.FT_CTRL_COMMIT 0

/-- What the write of FT_CTRL with bit 1 alone stores at `steppedBackIdle`. -/
def steppedBackStored : State := steppedBackIdle.stored (.engine 0) 0x200A0000 2

theorem steppedBackIdle_accepts : steppedBackIdle.accepts (.engine 0) 0x200A0000 := by decide +kernel

/-- The commit at `steppedBackIdle` does not wait: it is captured for boundary 3. -/
theorem exec_ftCommit_steppedBackIdle : ∃ t, exec (.ftCommit (.engine 0) 2) steppedBackIdle = .next t ∧ t.ft.cap.map (·.boundary) = some 3 := by
  have hcapture := State.commitBlock_of_two_ahead (s := steppedBackStored) (bit := 2) (by decide +kernel) (by decide +kernel)
    (by decide +kernel) (by decide +kernel)
  refine ⟨_, exec_ftCommit_accepts steppedBackIdle_accepts (by decide), ?_⟩
  change (steppedBackStored.commitBlock 2).ft.cap.map (·.boundary) = some 3
  rw [hcapture]
  decide +kernel

/-- Refutes O37 in its clauses of a commit that waits: the premise bounds the guard count by the next boundary `ft.m`, where the model counts
from the index that a schedule change has chosen after a fixed boundary. With boundary 5 fixed, boundary 2 chosen to follow it and the guards
of 2 and 3 passed, an FT commit is captured as it is set. -/
theorem not_commitsWaitOrTakeEffect : ¬ Obligations.CommitsWaitOrTakeEffect := by
  unfold Obligations.CommitsWaitOrTakeEffect
  intro h
  obtain ⟨-, -, hft, -⟩ := h
  obtain ⟨t, ht, -, hkept⟩ := hft (.engine 0) 2 steppedBackIdle steppedBackIdle_accepts (by decide) (by decide +kernel) (by decide +kernel)
    (by decide)
  obtain ⟨u, hu, hcaptured⟩ := exec_ftCommit_steppedBackIdle
  cases hu.symm.trans ht
  rw [hkept] at hcaptured
  exact absurd hcaptured (by decide)

end Sys2Proof.Machine
end

section
/-! SUPPORT. What START of a structure-image load samples (spec/02_stage_array.md R34, R37, R49). -/

namespace Sys2Proof.Machine

/-- QUAD_MASK in the header of the image at `a`, 0 where it cannot be read. -/
def State.headerQuads (s : State) (a : Nat) : Nat := if s.readable (a + 0x34) ∧ dramBase ≤ a then bits (s.num (a + 0x34) 1) 0 4 else 0

/-- What an accepted write of SA_LOAD_CTRL with START leaves for the load to sample: the word is stored, DONE and ERR are cleared. -/
def State.loadStored (s : State) (m : Master) (v : Word) : State :=
  ((s.stored m 0x20080018 v).wr Reg.SA_LOAD_STATUS_DONE 0).wr Reg.SA_LOAD_STATUS_ERR 0

/-- The address of the image that START samples. -/
def State.loadAddr (s : State) : Nat := s.rd Reg.SA_LOAD_ADDR_HI_ADDR_HI <<< 32 ||| s.rd Reg.SA_LOAD_ADDR_LO_ADDR <<< 6

/-- SA_LOAD_START: an accepted START of a load into a bank that is free samples the address, the bank and the header's QUAD_MASK. -/
theorem exec_saLoadStart_samples {m : Master} {v : Word} {s : State} (haccepts : s.accepts m 0x20080018) (hstart : v.toNat.testBit 0 = true)
    (hidle : (s.stored m 0x20080018 v).on Reg.SA_LOAD_STATUS_BUSY = false)
    (hfree : (s.loadStored m v).loadBarred ((s.stored m 0x20080018 v).rd Reg.SA_LOAD_CTRL_BANK) = false) :
    ∃ t, exec (.saLoadStart m v) s = .next t ∧ t.sa.load = some
      { addr := (s.loadStored m v).loadAddr, bank := (s.stored m 0x20080018 v).rd Reg.SA_LOAD_CTRL_BANK,
        quads := (s.loadStored m v).headerQuads (s.loadStored m v).loadAddr } := by
  refine ⟨_, rfl, ?_⟩
  rw [State.busWrite_accepts haccepts]
  unfold State.loadStored at hfree
  simp only [hstart, hidle, hfree, Bool.not_true, Bool.false_eq_true, ↓reduceIte]
  exact congrArg Sa.load (State.showBank_fr.zones .sa (by decide))

/-- DRAM is readable, SA_LOAD_ADDR names its first byte, and byte 0x34 from there, QUAD_MASK of an image's header, is 1. -/
def imageInDram : State := (((State.reset.wr (domFld 10) 2).wr Reg.MEMC_STATUS_STATE 2).wr Reg.SA_LOAD_ADDR_HI_ADDR_HI 1).setByte (dramBase + 0x34) 1

/-- START at `imageInDram` samples QUAD_MASK 1. -/
theorem exec_saLoadStart_imageInDram :
    ∃ t, exec (.saLoadStart (.engine 0) 1) imageInDram = .next t ∧ t.sa.load = some { addr := dramBase, bank := 0, quads := 1 } := by
  obtain ⟨t, ht, hload⟩ := exec_saLoadStart_samples (m := .engine 0) (v := 1) (s := imageInDram) (by decide +kernel) (by decide)
    (by decide +kernel) (by decide +kernel)
  exact ⟨t, ht, hload.trans (by decide +kernel)⟩

/-- Refutes O39 in its clause of a START that is taken: the load it names has QUAD_MASK 0, where START samples QUAD_MASK of the header (R37,
R49). With an image in DRAM whose QUAD_MASK is 1, the load holds 1. -/
theorem not_saLoadRunsToItsEnd : ¬ Obligations.SaLoadRunsToItsEnd := by
  unfold Obligations.SaLoadRunsToItsEnd
  intro h
  obtain ⟨hstart, -⟩ := h
  obtain ⟨t, ht, -, -, -, -, -, -, hnamed⟩ := hstart (.engine 0) 1 imageInDram (by decide +kernel) (by decide) (by decide +kernel)
    (by decide +kernel)
  obtain ⟨u, hu, hsampled⟩ := exec_saLoadStart_imageInDram
  cases hu.symm.trans ht
  exact absurd (congrArg (Option.map Load.quads) (hsampled.symm.trans hnamed)) (by decide)

end Sys2Proof.Machine
end

section
/-! SUPPORT. An SA commit that is captured and rejected as it is set (spec/02_stage_array.md R38; spec/05_drive_codes.md R124; spec/06_frame_timing.md
R132, R135). -/

namespace Sys2Proof.Machine

/-- An SA commit that is rejected reads 0 again: neither the recorded code nor event 12 touches its bit. -/
theorem State.rd_rejectCommit_sa (s : State) (code : Nat) :
    (s.rejectCommit Reg.SA_CTRL_COMMIT Reg.SA_COMMIT_ERR_CODE code 12).rd Reg.SA_CTRL_COMMIT = 0 := by
  have hcode : ((s.wr Reg.SA_CTRL_COMMIT 0).wr Reg.SA_COMMIT_ERR_CODE code).rd Reg.SA_CTRL_COMMIT = 0 := by
    rw [State.rd_wr_ne _ (by decide), State.rd_wr_self, Nat.zero_mod]
  exact (Fr.rd State.fire_fr (by decide) (by decide)).trans hcode

/-- An SA commit with a code is rejected at its capture. -/
theorem State.saCapture_of_saCode {s : State} {b : Nat} {now : Bool} (hset : s.on Reg.SA_CTRL_COMMIT = true) (hfree : s.sa.cap = none)
    (hcode : s.saCode ≠ 0) : s.saCapture b now = s.rejectCommit Reg.SA_CTRL_COMMIT Reg.SA_COMMIT_ERR_CODE s.saCode 12 := by
  simp [State.saCapture, hset, hfree, hcode]

/-- What a paired lead passes on of a capture changes no register. -/
theorem State.rd_captureTold (s : State) (bit b : Nat) (now : Bool) (frame : Nat) {f : Fld} (hkey : f.key < 2 ^ 37) :
    (s.captureTold bit b now frame).rd f = (s.captureSet bit b now).rd f := by
  unfold State.captureTold
  dsimp only
  split
  · exact Fr.rd State.mirrorCommit_fr rfl hkey
  · rfl

/-- SA_COMMIT: an accepted write with bit 1 set is what it stores, followed by the set of the commit bit. -/
theorem exec_saCommit_accepts {m : Master} {v : Word} {s : State} (haccepts : s.accepts m 0x20080000) (hset : v.toNat.testBit 1 = true) :
    exec (.saCommit m v) s = .next ((s.stored m 0x20080000 v).commitBlock 1) := by
  refine congrArg Host.Outcome.next ?_
  exact (State.busWrite_accepts haccepts).trans (if_pos hset)

/-- With both guards passed of the boundaries that follow the latest chosen index, an SA commit bit that is set while the shadow set has a code
reads 0 at once. -/
theorem State.rd_commitBlock_saCode {s : State} (hclear : s.on Reg.SA_CTRL_COMMIT = false)
    (hled : (s.wr Reg.SA_CTRL_COMMIT 1).ledBlock 1 = false) (hrun : (s.wr Reg.SA_CTRL_COMMIT 1).on Reg.FT_STATUS_RUN = true)
    (hahead : s.ftNext + 2 ≤ s.ft.guard) (hfree : s.sa.cap = none) (hcode : (s.wr Reg.SA_CTRL_COMMIT 1).saCode ≠ 0) :
    (s.commitBlock 1).rd Reg.SA_CTRL_COMMIT = 0 := by
  have hset : (s.wr Reg.SA_CTRL_COMMIT 1).on Reg.SA_CTRL_COMMIT = true := by
    rw [State.on, State.rd_wr_self]
    rfl
  have hcapture : ∀ b, (s.wr Reg.SA_CTRL_COMMIT 1).captureSet 1 b false =
      (s.wr Reg.SA_CTRL_COMMIT 1).rejectCommit Reg.SA_CTRL_COMMIT Reg.SA_COMMIT_ERR_CODE (s.wr Reg.SA_CTRL_COMMIT 1).saCode 12 :=
    fun _ => State.saCapture_of_saCode hset hfree hcode
  rw [State.commitBlock_of_two_ahead (bit := 1) hclear hled hrun hahead, State.rd_captureTold _ _ _ _ _ (by decide)]
  exact (congrArg (State.rd · Reg.SA_CTRL_COMMIT) (hcapture _)).trans (State.rd_rejectCommit_sa ..)

/-- What the write of SA_CTRL with bit 1 alone stores at `steppedBackIdle`, where SA_DRV_TBL names no SRAM and no slot (code 0x11). -/
def steppedBackSaStored : State := steppedBackIdle.stored (.engine 0) 0x20080000 2

theorem steppedBackIdle_accepts_sa : steppedBackIdle.accepts (.engine 0) 0x20080000 := by decide +kernel

/-- The SA commit at `steppedBackIdle` does not wait: it is rejected as it is set. -/
theorem exec_saCommit_steppedBackIdle : ∃ t, exec (.saCommit (.engine 0) 2) steppedBackIdle = .next t ∧ t.rd Reg.SA_CTRL_COMMIT = 0 :=
  ⟨_, exec_saCommit_accepts steppedBackIdle_accepts_sa (by decide),
    State.rd_commitBlock_saCode (s := steppedBackSaStored) (by decide +kernel) (by decide +kernel) (by decide +kernel) (by decide +kernel)
      (by decide +kernel) (by decide +kernel)⟩

/-- Refutes O2 in its clause of SA_COMMIT: the premise bounds the guard count by the next boundary `ft.m`, where the model counts from the index
that a schedule change has chosen after a fixed boundary, and the shadow set is left free. With boundary 5 fixed, boundary 2 chosen to follow it
and the guards of 2 and 3 passed, a commit of a drive table in no slot is captured, and so rejected, as it is set. -/
theorem not_completionStageArrayAndLayers : ¬ Obligations.CompletionStageArrayAndLayers := by
  unfold Obligations.CompletionStageArrayAndLayers
  intro h
  obtain ⟨-, hcommit, -⟩ := h steppedBackIdle steppedBackIdle (.engine 0) 2
  obtain ⟨t, ht, hwaits⟩ := hcommit steppedBackIdle_accepts_sa (by decide) (by decide +kernel) (by decide +kernel) (by decide)
  obtain ⟨u, hu, hrejected⟩ := exec_saCommit_steppedBackIdle
  cases hu.symm.trans ht
  exact absurd (hrejected.symm.trans hwaits) (by decide)

end Sys2Proof.Machine
end

section
/-! SUPPORT. A self-test of a cell without FULL reports no unit that it leaves out (spec/02_stage_array.md R45). -/

namespace Sys2Proof.Machine

/-- SA_DIAG_DONE: a unit that the self-test does not check counts as no failing unit. -/
theorem exec_saDiagDone_of_untested {s : State} {d : Nat × Bool} {u : Fin 8} (hrun : s.sa.diag = some d) (hleft : diagTests d.2 u = false) :
    exec (.saDiagDone (some u)) s = exec (.saDiagDone none) s := by
  change execSaDiagDone (some u) s = execSaDiagDone none s
  have hnone : (some u).filter (diagTests d.2) = none := by simp [hleft]
  simp only [execSaDiagDone, hrun, hnone, Option.filter_none]

/-- SA_DIAG_DONE: a running self-test with no failing unit passes. -/
theorem exec_saDiagDone_passes {s : State} {d : Nat × Bool} (hrun : s.sa.diag = some d) :
    ∃ t, exec (.saDiagDone none) s = .next t ∧ t.rd Reg.SA_DIAG_STATUS_PASS = 1 := by
  change ∃ t, execSaDiagDone none s = .next t ∧ t.rd Reg.SA_DIAG_STATUS_PASS = 1
  simp only [execSaDiagDone, hrun, Option.filter_none]
  exact ⟨_, rfl, (Fr.rd State.fire_fr (by decide) (by decide)).trans (State.rd_wr_self ..)⟩

/-- A self-test of cell 0 without FULL runs. -/
def quickTestRuns : State := State.reset.setSa { diag := some (0, false) }

/-- Refutes O38 in its clause of SA_DIAG_DONE with a failing unit: it asks for PASS 0 of every unit, where a self-test without FULL leaves out
data memory (2) and the configuration store (7) and passes whatever the operand says of them. -/
theorem not_saEnableAndCellDiagnostics : ¬ Obligations.SaEnableAndCellDiagnostics := by
  unfold Obligations.SaEnableAndCellDiagnostics
  intro h
  obtain ⟨-, -, -, -, -, -, -, -, -, -, hfails, -⟩ := h
  obtain ⟨t, ht, -, -, -, hfailed, -⟩ := hfails 2 quickTestRuns (0, false) rfl
  obtain ⟨u, hu, hpassed⟩ := exec_saDiagDone_passes (s := quickTestRuns) (d := (0, false)) rfl
  cases ((exec_saDiagDone_of_untested rfl rfl).trans hu).symm.trans ht
  exact absurd (hpassed.symm.trans hfailed) (by decide)

end Sys2Proof.Machine
end

section
/-! SUPPORT. Reading a field of an array that an operation spares; an event that fires is pending, and a fault that is raised waits for its
record (spec/16_engines_events.md R375, spec/15_faults.md R350; spec/08_serial_lanes.md R212). -/

namespace Sys2Proof.Machine

/-- No set of `ks` holds one of the `n` fields `f`. -/
def Keys.spare (n : Nat) (ks : List Keys) (f : Nat → Fld) : Bool :=
  (List.finRange n).all fun i => !Keys.any ks (f i).key && decide ((f i).key < 2 ^ 37)

theorem Keys.spare_spec {n : Nat} {ks : List Keys} {f : Nat → Fld} (h : Keys.spare n ks f = true) (i : Fin n) :
    Keys.any ks (f i).key = false ∧ (f i).key < 2 ^ 37 := by
  simpa using List.all_eq_true.1 h i (List.mem_finRange i)

/-- One of an array of fields outside the frame reads as before. -/
theorem Fr.rd_at {n : Nat} {ks zs} {s t : State} {f : Nat → Fld} (h : Fr ks zs s t) (hf : Keys.spare n ks f = true) (i : Fin n) :
    t.rd (f i) = s.rd (f i) :=
  h.rd (Keys.spare_spec hf i).1 (Keys.spare_spec hf i).2

/-- A fault source outside those of the safety island waits for its record once it is raised. -/
theorem State.raise_hasRaised (s : State) {src : Nat} (addr : Nat) (unit : Option Nat) (hsrc : ¬ (48 ≤ src ∧ src ≤ 54)) :
    (s.raise src addr unit).hasRaised src := by
  unfold State.raise State.raiseOcc
  simp only [hsrc, decide_false, Bool.and_false, Bool.false_eq_true, ↓reduceIte]
  exact ⟨_, List.mem_append_right _ (List.mem_singleton_self _), rfl⟩

/-- Different event sources have different pending bits. -/
theorem Reg.EVC_PEND_key_ne {m n : Fin 128} (h : m ≠ n) : (Reg.EVC_PEND m).key ≠ (Reg.EVC_PEND n).key := by
  have hval := Fin.val_ne_of_ne h
  simp only [Reg.EVC_PEND, Fld.key]
  omega

/-- Waking the target of an event moves no pending bit. -/
theorem State.rd_wakeFor_pend (s : State) (m n : Fin 128) : (s.wakeFor m).rd (Reg.EVC_PEND n) = s.rd (Reg.EVC_PEND n) :=
  State.wakeFor_fr.rd_at (by decide +kernel) n

/-- A wake of a domain moves no pending bit. -/
theorem State.rd_autowake_pend (s : State) (m n : Fin 128) : (s.autowake m).1.rd (Reg.EVC_PEND n) = s.rd (Reg.EVC_PEND n) :=
  State.autowake_fr.rd_at (by decide +kernel) n

/-- A rising edge sets the pending bit of its source and clears none. -/
theorem State.fired_pend (s : State) (m n : Fin 128) (h : m = n ∨ s.fired n) : (s.pend m).fired n := by
  unfold State.pend
  split
  · rename_i hpending
    obtain rfl | h := h
    · exact hpending
    · exact h
  · rw [State.fired, State.on, State.rd_wakeFor_pend, State.rd_with_evc]
    by_cases hsame : m = n
    · rw [hsame, State.rd_wr_self]
      rfl
    · rw [State.rd_wr_ne _ (Reg.EVC_PEND_key_ne hsame)]
      exact h.resolve_left hsame

/-- The effect of an event on power clears no pending bit. -/
theorem State.fired_powerFor (s : State) (m n : Fin 128) (h : s.fired n) : (s.powerFor m).fired n := by
  have hwake : ∀ u : State, ∀ k, u.fired n → (u.autowake k).1.fired n := fun u k hu => by
    rw [State.fired, State.on, State.rd_autowake_pend]
    exact hu
  unfold State.powerFor
  dsimp only
  split
  · exact hwake _ _ (State.fired_pend _ _ _ (.inr (hwake _ _ h)))
  · exact hwake _ _ h

/-- An event source that fires is pending. -/
theorem State.fired_fire (s : State) (n : Fin 128) : (s.fire n).fired n := by
  have hn : Fin.ofNat 128 n.val = n := Fin.ofNat_val_eq_self n
  unfold State.fire
  rw [hn]
  dsimp only
  split
  · assumption
  · exact State.fired_powerFor _ _ _ (State.fired_pend _ _ _ (.inl rfl))

/-- What an event that fires may change, in the words of Footprint.lean. -/
theorem State.fire_frame (s : State) (n : Nat) : Fr eventKeys eventZones s (s.fire n) :=
  Fr.step State.fire_fr (by decide +kernel) rfl (Fr.refl s)

/-- Settles O21: whichever PLL loses lock, the last effect is the one raise of FLT_LANE_PLL, a source of class MAJOR. -/
theorem lanePllLossIsOneFault : Obligations.LanePllLossIsOneFault :=
  ⟨fun _ _ => ⟨_, rfl, State.raise_hasRaised _ _ _ (by decide)⟩, rfl⟩

end Sys2Proof.Machine
end

section
/-! SUPPORT. Reading a register field of a lane after an operation on a lane: the field that is written, and the fields that are not
(spec/08_serial_lanes.md R195 to R213). That two fields are apart is a closed check over the fifteen lanes. -/

namespace Sys2Proof.Machine

/-- `f` and `g` are different fields of a lane. -/
def lanesApart (f g : Nat → Fld) : Bool := (List.finRange 15).all fun j => (f j).key != (g j).key

/-- The field `f` of a lane is none that a write of LANE_CTRL stores, nor what the WERR of such a write changes. -/
def laneUnstored (f : Nat → Fld) : Bool :=
  Keys.spare 15 werrKeys f && (List.finRange 15).all fun j => rowField (laneAddr j) (f j).key

theorem State.rd_wr_lane {s : State} {f g : Nat → Fld} {j : Fin 15} {v : Nat} (h : lanesApart f g = true) :
    (s.wr (f j) v).rd (g j) = s.rd (g j) :=
  State.rd_wr_ne s (bne_iff_ne.1 (List.all_eq_true.1 h j (List.mem_finRange j))) v

/-- A write of LANE_CTRL leaves the fields alone that it does not store. -/
theorem State.rd_stored_lane {s : State} {f : Nat → Fld} {m : Master} {j : Fin 15} {v : Word} (h : laneUnstored f = true) :
    (s.stored m (laneAddr j) v).rd (f j) = s.rd (f j) := by
  obtain ⟨hspare, hrow⟩ := Bool.and_eq_true_iff.1 h
  obtain ⟨hwerr, hkey⟩ := Keys.spare_spec hspare j
  exact State.stored_rd (List.all_eq_true.1 hrow j (List.mem_finRange j)) hwerr hkey

/-- A write of LANE_CTRL changes nothing of a lane beside its registers. -/
theorem State.stored_lane (s : State) (m : Master) (j : Fin 15) (v : Word) : (s.stored m (laneAddr j) v).lane = s.lane :=
  (State.stored_fr (by unfold laneAddr; omega)).zones .lane (by decide)

/-- A counter that is incremented reads one more, up to its largest value. -/
theorem State.rd_addSat_self (s : State) (f : Fld) (n : Nat) : (s.addSat f n).rd f = s.counted f n :=
  (State.rd_wr_self ..).trans (Nat.mod_eq_of_lt (by have := Nat.two_pow_pos f.width; omega))

theorem State.rd_inc_self (s : State) (f : Fld) : (s.inc f).rd f = s.counted f := State.rd_addSat_self s f 1

theorem State.rd_inc_lane {s : State} {f g : Nat → Fld} {j : Fin 15} (h : lanesApart f g = true) :
    (s.inc (f j)).rd (g j) = s.rd (g j) := State.rd_wr_lane h

theorem State.rd_wrB_lane {s : State} {f g : Nat → Fld} {j : Fin 15} {b : Bool} (h : lanesApart f g = true) :
    (s.wrB (f j) b).rd (g j) = s.rd (g j) := State.rd_wr_lane h

theorem State.rd_addSat_lane {s : State} {f g : Nat → Fld} {j : Fin 15} {n : Nat} (h : lanesApart f g = true) :
    (s.addSat (f j) n).rd (g j) = s.rd (g j) := State.rd_wr_lane h

theorem State.rd_fire_lane {s : State} {f : Nat → Fld} {j : Fin 15} {n : Nat} (h : Keys.spare 15 eventKeys f = true) :
    (s.fire n).rd (f j) = s.rd (f j) := (State.fire_frame s n).rd_at h j

theorem b2n_lt_two (b : Bool) : b2n b < 2 ^ 1 := by
  cases b <;> decide

/-! LANE_STATUS.STATE (R211). -/

/-- What a change of a lane's state may change: the state, and what the LANE_LOCK event does. -/
def laneStateKeys : List Keys := Keys.arr Reg.LANE_STATUS_STATE 15 :: eventKeys

theorem State.laneState_frame (s : State) (j : Fin 15) (st : Nat) : Fr laneStateKeys eventZones s (s.laneState j st) :=
  Fr.step State.laneState_fr (by decide +kernel) rfl (Fr.refl s)

theorem State.rd_laneState_lane {s : State} {f : Nat → Fld} {i j : Fin 15} {st : Nat} (h : Keys.spare 15 laneStateKeys f = true) :
    (s.laneState j st).rd (f i) = s.rd (f i) := (State.laneState_frame s j st).rd_at h i

theorem State.laneState_lane (s : State) (j : Fin 15) (st : Nat) : (s.laneState j st).lane = s.lane :=
  (State.laneState_frame s j st).zones .lane (by decide)

/-- A lane reads the state that it goes to. -/
theorem State.rd_laneState_self (s : State) (j : Fin 15) {st : Nat} (h : st < 8) :
    (s.laneState j st).rd (Reg.LANE_STATUS_STATE j) = st := by
  have hwritten : (s.wr (Reg.LANE_STATUS_STATE j) st).rd (Reg.LANE_STATUS_STATE j) = st := (State.rd_wr_self ..).trans (Nat.mod_eq_of_lt h)
  unfold State.laneState
  dsimp only
  split
  · exact (State.rd_fire_lane (by decide)).trans hwritten
  · exact hwritten

/-! Electrical idle (R202). -/

/-- What the conditions of electrical idle may change of a lane: its state, its rate, and the locks of a receiver whose rate changes. -/
def showLaneKeys : List Keys :=
  [Keys.arr Reg.LANE_STATUS_RATE 15, Keys.arr Reg.LANE_STATUS_BLOCK_LOCK 15, Keys.arr Reg.LANE_STATUS_CDR_LOCK 15] ++ laneStateKeys

theorem State.showLane_frame (s : State) (j : Fin 15) : Fr showLaneKeys eventZones s (s.showLane j) :=
  Fr.step State.showLane_fr (by decide +kernel) rfl (Fr.refl s)

theorem State.rd_showLane_lane {s : State} {f : Nat → Fld} {i j : Fin 15} (h : Keys.spare 15 showLaneKeys f = true) :
    (s.showLane j).rd (f i) = s.rd (f i) := (State.showLane_frame s j).rd_at h i

theorem State.showLane_lane (s : State) (j : Fin 15) : (s.showLane j).lane = s.lane :=
  (State.showLane_frame s j).zones .lane (by decide)

/-! The eye (R206). -/

/-- The score of a window fits its field. -/
theorem eyeScore_lt (h v : Fin 65) : eyeScore h v < 256 := by
  have hproduct : h.val * v.val ≤ 64 * 64 := Nat.mul_le_mul (by omega) (by omega)
  have hassoc : 255 * h.val * v.val = 255 * (h.val * v.val) := Nat.mul_assoc ..
  unfold eyeScore
  omega

theorem State.rd_showEye_lane {s : State} {f : Nat → Fld} {i j : Fin 15} {h v : Nat}
    (hf : Keys.spare 15 [Keys.arr Reg.LANE_EYE_SCORE 15, Keys.arr Reg.LANE_EYE_H 15, Keys.arr Reg.LANE_EYE_V 15] f = true) :
    (s.showEye j h v).rd (f i) = s.rd (f i) :=
  (Fr.step State.showEye_fr (by decide +kernel) rfl (Fr.refl s) : Fr _ [] s (s.showEye j h v)).rd_at hf i

theorem State.rd_showEye_v (s : State) (j : Fin 15) (h v : Fin 65) : (s.showEye j h v).rd (Reg.LANE_EYE_V j) = v :=
  (State.rd_wr_self ..).trans (Nat.mod_eq_of_lt (Nat.lt_of_lt_of_le v.isLt (by decide : 65 ≤ 2 ^ 7)))

theorem State.rd_showEye_h (s : State) (j : Fin 15) (h v : Fin 65) : (s.showEye j h v).rd (Reg.LANE_EYE_H j) = h := by
  unfold State.showEye
  rw [State.rd_wr_lane (by decide)]
  exact (State.rd_wr_self ..).trans (Nat.mod_eq_of_lt (Nat.lt_of_lt_of_le h.isLt (by decide : 65 ≤ 2 ^ 7)))

theorem State.rd_showEye_score (s : State) (j : Fin 15) (h v : Fin 65) : (s.showEye j h v).rd (Reg.LANE_EYE_SCORE j) = eyeScore h v := by
  unfold State.showEye
  rw [State.rd_wr_lane (by decide), State.rd_wr_lane (by decide)]
  exact (State.rd_wr_self ..).trans (Nat.mod_eq_of_lt (eyeScore_lt h v))

/-! What a lane holds beside its registers. -/

theorem State.setLane_pair_self (s : State) (j : Fin 15) (x : LanePair) : (s.setLane j x).lane.pair[j] = x := by
  simp [State.setLane]

/-- A block that leaves a lane joins the record of its line. -/
theorem State.laneBlock_line (s : State) (j : Fin 15) (b : Nat × List Byte) :
    ∃ w, ((s.laneBlock j b).lane.pair[j]).line = (s.lane.pair[j]).line ++ [w] := by
  unfold State.laneBlock
  exact ⟨_, congrArg LanePair.line (State.setLane_pair_self ..)⟩

end Sys2Proof.Machine
end

section
/-! SUPPORT. Electrical idle, fast exit, lock, eye and adaptation of a lane (spec/08_serial_lanes.md R202 to R208). -/

namespace Sys2Proof.Machine

/-- LANE_IDLE_REQ: an accepted write sets IDLE_REQ to its bit. -/
theorem laneIdleReq_sets {j : Fin 15} {m : Master} {v : Word} {s : State} (haccepts : s.accepts m (laneAddr j)) :
    Answers (.laneIdleReq j m v) s fun t => t.rd (Reg.LANE_CTRL_IDLE_REQ j) = b2n (v.toNat.testBit 0) := by
  refine ⟨_, congrArg Host.Outcome.next (State.busWrite_accepts haccepts), ?_⟩
  exact (State.rd_showLane_lane (by decide)).trans ((State.rd_wr_self ..).trans (Nat.mod_eq_of_lt (b2n_lt_two _)))

/-! LANE_ADAPT (R208). -/

/-- An accepted write of ADAPT: the stored word with ADAPT set. -/
def State.adaptSet (s : State) (m : Master) (j : Fin 15) (v : Word) : State := (s.stored m (laneAddr j) v).wr (Reg.LANE_CTRL_ADAPT j) 1

theorem State.rd_adaptSet_state (s : State) (m : Master) (j : Fin 15) (v : Word) :
    (s.adaptSet m j v).rd (Reg.LANE_STATUS_STATE j) = s.rd (Reg.LANE_STATUS_STATE j) :=
  (State.rd_wr_lane (by decide)).trans (State.rd_stored_lane (by decide +kernel))

theorem State.rd_adaptSet_adapt (s : State) (m : Master) (j : Fin 15) (v : Word) :
    (s.adaptSet m j v).rd (Reg.LANE_CTRL_ADAPT j) = 1 := State.rd_wr_self ..

/-- An accepted write of ADAPT takes a lane in ACQUIRE or LOCKED to ADAPT, and waits in another state. -/
theorem exec_laneAdapt_accepts {j : Fin 15} {m : Master} {v : Word} {s : State} (haccepts : s.accepts m (laneAddr j))
    (hset : v.toNat.testBit 8 = true) :
    exec (.laneAdapt j m v) s = .next (if s.rd (Reg.LANE_STATUS_STATE j) = 5 ∨ s.rd (Reg.LANE_STATUS_STATE j) = 3
      then (s.adaptSet m j v).laneState j 4 else s.adaptSet m j v) := by
  refine congrArg Host.Outcome.next ((State.busWrite_accepts haccepts).trans ((if_pos hset).trans ?_))
  rw [← State.rd_adaptSet_state s m j v]
  rfl

theorem laneAdapt_runs {j : Fin 15} {m : Master} {v : Word} {s : State} (haccepts : s.accepts m (laneAddr j))
    (hset : v.toNat.testBit 8 = true) (hstate : s.rd (Reg.LANE_STATUS_STATE j) = 3 ∨ s.rd (Reg.LANE_STATUS_STATE j) = 5) :
    Answers (.laneAdapt j m v) s fun t => t.rd (Reg.LANE_CTRL_ADAPT j) = 1 ∧ t.rd (Reg.LANE_STATUS_STATE j) = 4 := by
  refine ⟨_, exec_laneAdapt_accepts haccepts hset, ?_⟩
  rw [if_pos hstate.symm]
  exact ⟨(State.rd_laneState_lane (by decide)).trans (State.rd_adaptSet_adapt ..), State.rd_laneState_self _ _ (by decide)⟩

theorem laneAdapt_waits {j : Fin 15} {m : Master} {v : Word} {s : State} (haccepts : s.accepts m (laneAddr j))
    (hset : v.toNat.testBit 8 = true) (hacquire : s.rd (Reg.LANE_STATUS_STATE j) ≠ 3) (hlocked : s.rd (Reg.LANE_STATUS_STATE j) ≠ 5) :
    Answers (.laneAdapt j m v) s fun t =>
      t.rd (Reg.LANE_CTRL_ADAPT j) = 1 ∧ t.rd (Reg.LANE_STATUS_STATE j) = s.rd (Reg.LANE_STATUS_STATE j) := by
  refine ⟨_, exec_laneAdapt_accepts haccepts hset, ?_⟩
  rw [if_neg (not_or.2 ⟨hlocked, hacquire⟩)]
  exact ⟨State.rd_adaptSet_adapt .., State.rd_adaptSet_state ..⟩

/-! IDLE_EXIT (R203, R204). -/

/-- The state that a lane goes to from EXIT. -/
def State.exitTo (s : State) (j : Fin 15) : Nat := if !s.laneLocks j then 3 else if s.on (Reg.LANE_CTRL_ADAPT j) then 4 else 5

theorem State.exitTo_eq (s : State) (j : Fin 15) :
    s.exitTo j = if s.laneLocks j then (if s.on (Reg.LANE_CTRL_ADAPT j) then 4 else 5) else 3 := by
  unfold State.exitTo
  cases s.laneLocks j <;> rfl

theorem State.exitTo_lt (s : State) (j : Fin 15) : s.exitTo j < 8 := by
  unfold State.exitTo
  split
  · decide
  · split <;> decide

/-- The lane's receiver finds the marker: its lane sends none, or it is the lane's own, or it comes within two bit errors. -/
def State.burstFound (s : State) (j : Fin 15) (k : Option Word) : Bool :=
  decide (12 < j.val) || s.on (Reg.LANE_CTRL_LOOPBACK j) || k.any fun w => markerFound w.toNat

/-- A receiver that finds no marker has no block lock. -/
def State.burstTaken (s : State) (j : Fin 15) (k : Option Word) : State :=
  if s.burstFound j k then s else s.wr (Reg.LANE_STATUS_BLOCK_LOCK j) 0

/-- The training burst and a FILL block leave the lane. -/
def State.sendBurst (s : State) (j : Fin 15) : State :=
  (s.setLane j { s.lane.pair[j] with line := (s.lane.pair[j]).line ++ [.burst (BitVec.ofNat 128 burstBits)] }).laneBlock j fillBlock

/-- The training burst is an entry of a lane's record, not a change of its registers. -/
theorem State.rd_sendBurst_lane {s : State} {f : Nat → Fld} {i j : Fin 15} (h : Keys.spare 15 [] f = true) :
    (s.sendBurst j).rd (f i) = s.rd (f i) :=
  ((State.laneBlock_fr).rd_at h i).trans (State.setLane_rd ..)

theorem State.sendBurst_line (s : State) (j : Fin 15) :
    ((s.sendBurst j).lane.pair[j]).line.take ((s.lane.pair[j]).line.length + 1) =
      (s.lane.pair[j]).line ++ [.burst (BitVec.ofNat 128 burstBits)] := by
  obtain ⟨w, hw⟩ := State.laneBlock_line
    (s.setLane j { s.lane.pair[j] with line := (s.lane.pair[j]).line ++ [.burst (BitVec.ofNat 128 burstBits)] }) j fillBlock
  rw [State.setLane_pair_self] at hw
  rw [State.sendBurst, hw]
  exact List.take_left' (by simp)

/-- A lane in EXIT goes where its locks let it, and but for a network lane sends its burst. -/
theorem exec_idleExit_exits {j : Fin 15} {k : Option Word} {s : State} (hexit : s.rd (Reg.LANE_STATUS_STATE j) = 2) :
    exec (.idleExit j k) s = .next (if decide (12 < j.val) = true
      then (s.burstTaken j k).laneState j ((s.burstTaken j k).exitTo j)
      else ((s.burstTaken j k).laneState j ((s.burstTaken j k).exitTo j)).sendBurst j) :=
  congrArg Host.Outcome.next (if_neg (Decidable.not_not.2 hexit))

/-- A tile or partner lane that finds its marker sends its burst and goes where its locks let it. -/
theorem exec_idleExit_found {j : Fin 15} {k : Option Word} {s : State} (hexit : s.rd (Reg.LANE_STATUS_STATE j) = 2) (htile : j.val < 13)
    (hfound : s.burstFound j k = true) : exec (.idleExit j k) s = .next ((s.laneState j (s.exitTo j)).sendBurst j) := by
  have htaken : s.burstTaken j k = s := if_pos hfound
  rw [exec_idleExit_exits hexit, htaken, if_neg (by simpa using Nat.le_of_lt_succ htile)]

/-- A tile or partner lane that finds no marker sends its burst and searches for block lock. -/
theorem exec_idleExit_missed {j : Fin 15} {k : Option Word} {s : State} (hexit : s.rd (Reg.LANE_STATUS_STATE j) = 2) (htile : j.val < 13)
    (hmissed : s.burstFound j k = false) :
    exec (.idleExit j k) s = .next (((s.wr (Reg.LANE_STATUS_BLOCK_LOCK j) 0).laneState j 3).sendBurst j) := by
  have htaken : s.burstTaken j k = s.wr (Reg.LANE_STATUS_BLOCK_LOCK j) 0 := if_neg (Bool.eq_false_iff.1 hmissed)
  have hto : (s.wr (Reg.LANE_STATUS_BLOCK_LOCK j) 0).exitTo j = 3 := by simp [State.exitTo, State.laneLocks, State.on, State.rd_wr_self]
  rw [exec_idleExit_exits hexit, htaken, hto, if_neg (by simpa using Nat.le_of_lt_succ htile)]

/-- A network lane sends no burst and needs no marker. -/
theorem exec_idleExit_network {j : Fin 15} {k : Option Word} {s : State} (hexit : s.rd (Reg.LANE_STATUS_STATE j) = 2) (hnet : 12 < j.val) :
    exec (.idleExit j k) s = .next (s.laneState j (s.exitTo j)) := by
  have htaken : s.burstTaken j k = s := if_pos (by simp [State.burstFound, hnet])
  rw [exec_idleExit_exits hexit, htaken, if_pos (decide_eq_true hnet)]

/-- A lane that leaves EXIT by its burst: its state, and the burst first on its line. -/
theorem State.sendBurst_laneState (s : State) (j : Fin 15) {st : Nat} (h : st < 8) :
    ((s.laneState j st).sendBurst j).rd (Reg.LANE_STATUS_STATE j) = st ∧
      (((s.laneState j st).sendBurst j).lane.pair[j]).line.take ((s.lane.pair[j]).line.length + 1) =
        (s.lane.pair[j]).line ++ [.burst (BitVec.ofNat 128 burstBits)] := by
  refine ⟨(State.rd_sendBurst_lane (by decide)).trans (State.rd_laneState_self s j h), ?_⟩
  have hline := State.sendBurst_line (s.laneState j st) j
  rwa [State.laneState_lane] at hline

theorem idleExit_locks {j : Fin 15} {w : Word} {s : State} {st : Nat} (hexit : s.rd (Reg.LANE_STATUS_STATE j) = 2) (htile : j.val < 13)
    (hmarker : markerFound w.toNat = true) (hto : s.exitTo j = st) :
    Answers (.idleExit j (some w)) s fun t => t.rd (Reg.LANE_STATUS_STATE j) = st ∧
      (t.lane.pair[j]).line.take ((s.lane.pair[j]).line.length + 1) = (s.lane.pair[j]).line ++ [.burst (BitVec.ofNat 128 burstBits)] := by
  subst hto
  exact ⟨_, exec_idleExit_found hexit htile (by simp [State.burstFound, hmarker]), State.sendBurst_laneState s j (s.exitTo_lt j)⟩

theorem idleExit_searches {j : Fin 15} {k : Option Word} {s : State} (hexit : s.rd (Reg.LANE_STATUS_STATE j) = 2) (htile : j.val < 13)
    (hmissed : s.burstFound j k = false) :
    Answers (.idleExit j k) s fun t => t.rd (Reg.LANE_STATUS_STATE j) = 3 ∧ t.rd (Reg.LANE_STATUS_BLOCK_LOCK j) = 0 ∧
      (t.lane.pair[j]).line.take ((s.lane.pair[j]).line.length + 1) = (s.lane.pair[j]).line ++ [.burst (BitVec.ofNat 128 burstBits)] := by
  obtain ⟨hstate, hline⟩ := State.sendBurst_laneState (s.wr (Reg.LANE_STATUS_BLOCK_LOCK j) 0) j (by decide : 3 < 8)
  refine ⟨_, exec_idleExit_missed hexit htile hmissed, hstate, ?_, hline⟩
  rw [State.rd_sendBurst_lane (by decide), State.rd_laneState_lane (by decide)]
  exact State.rd_wr_self ..

/-- Without its locks a tile or partner lane goes to ACQUIRE, whether its marker is found or not. -/
theorem idleExit_acquires {j : Fin 15} {k : Option Word} {s : State} (hexit : s.rd (Reg.LANE_STATUS_STATE j) = 2) (htile : j.val < 13)
    (hunlocked : s.laneLocks j = false) :
    Answers (.idleExit j k) s fun t => t.rd (Reg.LANE_STATUS_STATE j) = 3 ∧
      (t.lane.pair[j]).line.take ((s.lane.pair[j]).line.length + 1) = (s.lane.pair[j]).line ++ [.burst (BitVec.ofNat 128 burstBits)] := by
  have hto : s.exitTo j = 3 := by simp [State.exitTo, hunlocked]
  cases hfound : s.burstFound j k with
  | true =>
    refine ⟨_, exec_idleExit_found hexit htile hfound, ?_⟩
    rw [hto]
    exact State.sendBurst_laneState s j (by decide)
  | false =>
    obtain ⟨t, ht, hstate, -, hline⟩ := idleExit_searches hexit htile hfound
    exact ⟨t, ht, hstate, hline⟩

theorem idleExit_network {j : Fin 15} {k : Option Word} {s : State} (hexit : s.rd (Reg.LANE_STATUS_STATE j) = 2) (hnet : 12 < j.val) :
    Answers (.idleExit j k) s fun t => t.rd (Reg.LANE_STATUS_STATE j) = s.exitTo j ∧ t.lane = s.lane :=
  ⟨_, exec_idleExit_network hexit hnet, State.rd_laneState_self s j (s.exitTo_lt j), State.laneState_lane ..⟩

theorem idleExit_elsewhere {j : Fin 15} {k : Option Word} {s : State} (hstate : s.rd (Reg.LANE_STATUS_STATE j) ≠ 2) :
    Answers (.idleExit j k) s fun t => t = s :=
  ⟨s, congrArg Host.Outcome.next (if_pos hstate), rfl⟩

/-! LANE_LOCK_ACQUIRED (R205). -/

/-- The lane has both locks and shows the eye, and is LOCKED. -/
def State.lockedWith (s : State) (j : Fin 15) (h v : Fin 65) : State :=
  ((((s.wr (Reg.LANE_STATUS_CDR_LOCK j) 1).wr (Reg.LANE_STATUS_BLOCK_LOCK j) 1).showEye j h v).wr (Reg.LANE_CTRL_ADAPT j) 0).laneState j 5

/-- The lock of a tile lane moves its port's training on, which no register shows. -/
theorem exec_laneLockAcquired_regs {j : Fin 15} {h v : Fin 65} {s : State}
    (hstate : s.rd (Reg.LANE_STATUS_STATE j) = 2 ∨ s.rd (Reg.LANE_STATUS_STATE j) = 3 ∨ s.rd (Reg.LANE_STATUS_STATE j) = 4)
    (heye : s.rd (Reg.LANE_THRESH_EYE_MIN j) ≤ eyeScore h v) :
    ∃ t, exec (.laneLockAcquired j h v) s = .next t ∧ ∀ f, t.rd f = (s.lockedWith j h v).rd f := by
  refine ⟨_, congrArg Host.Outcome.next (if_neg (by omega)), fun f => ?_⟩
  dsimp only
  split
  · rfl
  · split
    · rfl
    · split <;> rfl

theorem laneLockAcquired_locks {j : Fin 15} {h v : Fin 65} {s : State} (hfrom : 2 ≤ s.rd (Reg.LANE_STATUS_STATE j))
    (hto : s.rd (Reg.LANE_STATUS_STATE j) ≤ 4) (heye : s.rd (Reg.LANE_THRESH_EYE_MIN j) ≤ eyeScore h v) :
    Answers (.laneLockAcquired j h v) s fun t =>
      t.rd (Reg.LANE_STATUS_STATE j) = 5 ∧ t.rd (Reg.LANE_STATUS_CDR_LOCK j) = 1 ∧ t.rd (Reg.LANE_STATUS_BLOCK_LOCK j) = 1 ∧
        t.rd (Reg.LANE_EYE_H j) = h ∧ t.rd (Reg.LANE_EYE_V j) = v := by
  obtain ⟨t, ht, hregs⟩ := exec_laneLockAcquired_regs (v := v) (by omega) heye
  refine ⟨t, ht, ?_⟩
  simp only [hregs]
  unfold State.lockedWith
  refine ⟨State.rd_laneState_self _ _ (by decide), ?_⟩
  simp (disch := decide) only [State.rd_laneState_lane, State.rd_wr_lane, State.rd_showEye_lane, State.rd_showEye_h, State.rd_showEye_v]
  exact ⟨State.rd_wr_self .., State.rd_wr_self .., trivial, trivial⟩

theorem laneLockAcquired_refused {j : Fin 15} {h v : Fin 65} {s : State}
    (hnone : (s.rd (Reg.LANE_STATUS_STATE j) < 2 ∨ 4 < s.rd (Reg.LANE_STATUS_STATE j)) ∨
      eyeScore h v < s.rd (Reg.LANE_THRESH_EYE_MIN j)) :
    Answers (.laneLockAcquired j h v) s fun t => t = s :=
  ⟨s, congrArg Host.Outcome.next (if_pos (by omega)), rfl⟩

/-! EYE_WINDOW_END (R206 to R208). -/

/-- LANE_EYE and the DFE's taps show a window. -/
def State.showWindow (s : State) (j : Fin 15) (h v : Fin 65) (taps : BitVec 30) : State :=
  (s.showEye j h v).wr (Reg.LANE_DFE_TAPS j) taps.toNat

theorem State.rd_showWindow_lane {s : State} {f : Nat → Fld} {j : Fin 15} {h v : Fin 65} {taps : BitVec 30}
    (hf : Keys.spare 15 [Keys.arr Reg.LANE_EYE_SCORE 15, Keys.arr Reg.LANE_EYE_H 15, Keys.arr Reg.LANE_EYE_V 15] f = true)
    (ht : lanesApart Reg.LANE_DFE_TAPS f = true) : (s.showWindow j h v taps).rd (f j) = s.rd (f j) :=
  (State.rd_wr_lane ht).trans (State.rd_showEye_lane hf)

theorem State.rd_showWindow (s : State) (j : Fin 15) (h v : Fin 65) (taps : BitVec 30) :
    (s.showWindow j h v taps).rd (Reg.LANE_EYE_H j) = h ∧ (s.showWindow j h v taps).rd (Reg.LANE_EYE_V j) = v ∧
      (s.showWindow j h v taps).rd (Reg.LANE_DFE_TAPS j) = taps.toNat :=
  ⟨(State.rd_wr_lane (by decide)).trans (State.rd_showEye_h ..), (State.rd_wr_lane (by decide)).trans (State.rd_showEye_v ..),
    (State.rd_wr_self ..).trans (Nat.mod_eq_of_lt taps.isLt)⟩

/-- A window of a lane in ACQUIRE, ADAPT or LOCKED is shown, and judged against EYE_OK while LOCKED. -/
theorem exec_eyeWindowEnd_shows {j : Fin 15} {h v : Fin 65} {taps : BitVec 30} {s : State}
    (hfrom : 3 ≤ s.rd (Reg.LANE_STATUS_STATE j)) (hto : s.rd (Reg.LANE_STATUS_STATE j) ≤ 5) :
    exec (.eyeWindowEnd j h v taps) s = .next (
      if s.rd (Reg.LANE_STATUS_STATE j) ≠ 5 then ((s.showWindow j h v taps).wr (Reg.LANE_STATUS_CDR_LOCK j) 1).laneState j 4
      else if eyeScore h v < s.rd (Reg.LANE_THRESH_EYE_OK j) then ((s.showWindow j h v taps).wr (Reg.LANE_STATUS_EYE_LOW j) 1).fire 41
      else (s.showWindow j h v taps).wr (Reg.LANE_STATUS_EYE_LOW j) 0) := by
  refine congrArg Host.Outcome.next ((if_neg (by omega)).trans ?_)
  have hok : (s.showWindow j h v taps).rd (Reg.LANE_THRESH_EYE_OK j) = s.rd (Reg.LANE_THRESH_EYE_OK j) :=
    State.rd_showWindow_lane (by decide) (by decide)
  rw [← hok]
  rfl

theorem eyeWindowEnd_low {j : Fin 15} {h v : Fin 65} {taps : BitVec 30} {s : State} (hlocked : s.rd (Reg.LANE_STATUS_STATE j) = 5)
    (hlow : eyeScore h v < s.rd (Reg.LANE_THRESH_EYE_OK j)) :
    Answers (.eyeWindowEnd j h v taps) s fun t =>
      t.rd (Reg.LANE_DFE_TAPS j) = taps.toNat ∧ t.rd (Reg.LANE_STATUS_EYE_LOW j) = 1 ∧ t.fired 41 ∧ t.rd (Reg.LANE_EYE_H j) = h ∧
        t.rd (Reg.LANE_EYE_V j) = v := by
  obtain ⟨hh, hv, htaps⟩ := s.rd_showWindow j h v taps
  refine ⟨_, exec_eyeWindowEnd_shows (by omega) (by omega), ?_⟩
  rw [if_neg (Decidable.not_not.2 hlocked), if_pos hlow]
  simp (disch := decide) only [State.rd_fire_lane, State.rd_wr_lane, hh, hv, htaps]
  exact ⟨trivial, State.rd_wr_self .., State.fired_fire _ 41, trivial, trivial⟩

theorem eyeWindowEnd_adapts {j : Fin 15} {h v : Fin 65} {taps : BitVec 30} {s : State}
    (hstate : s.rd (Reg.LANE_STATUS_STATE j) = 3 ∨ s.rd (Reg.LANE_STATUS_STATE j) = 4) :
    Answers (.eyeWindowEnd j h v taps) s fun t =>
      t.rd (Reg.LANE_STATUS_CDR_LOCK j) = 1 ∧ t.rd (Reg.LANE_STATUS_STATE j) = 4 ∧ t.rd (Reg.LANE_EYE_H j) = h ∧
        t.rd (Reg.LANE_EYE_V j) = v ∧ t.rd (Reg.LANE_DFE_TAPS j) = taps.toNat := by
  obtain ⟨hh, hv, htaps⟩ := s.rd_showWindow j h v taps
  refine ⟨_, exec_eyeWindowEnd_shows (by omega) (by omega), ?_⟩
  rw [if_pos (by omega)]
  simp (disch := decide) only [State.rd_laneState_lane, State.rd_laneState_self, State.rd_wr_lane, hh, hv, htaps]
  exact ⟨State.rd_wr_self .., trivial, trivial, trivial, trivial⟩

theorem eyeWindowEnd_ok {j : Fin 15} {h v : Fin 65} {taps : BitVec 30} {s : State} (hlocked : s.rd (Reg.LANE_STATUS_STATE j) = 5)
    (hok : s.rd (Reg.LANE_THRESH_EYE_OK j) ≤ eyeScore h v) :
    Answers (.eyeWindowEnd j h v taps) s fun t =>
      t.rd (Reg.LANE_STATUS_EYE_LOW j) = 0 ∧ t.rd (Reg.LANE_EYE_H j) = h ∧ t.rd (Reg.LANE_EYE_V j) = v := by
  obtain ⟨hh, hv, -⟩ := s.rd_showWindow j h v taps
  refine ⟨_, exec_eyeWindowEnd_shows (by omega) (by omega), ?_⟩
  rw [if_neg (Decidable.not_not.2 hlocked), if_neg (Nat.not_lt.2 hok)]
  simp (disch := decide) only [State.rd_wr_lane, hh, hv]
  exact ⟨State.rd_wr_self .., trivial, trivial⟩

/-! ADAPTATION_DONE (R208). -/

/-- What the end of adaptation shows: the window, the best CTLE code and CDR lock, with ADAPT done. -/
def State.adapted (s : State) (j : Fin 15) (scores : List Byte) (h v : Fin 65) (taps : BitVec 30) : State :=
  ((((s.showEye j h v).wr (Reg.LANE_EYE_CTLE j) (bestCtle scores)).wr (Reg.LANE_DFE_TAPS j) taps.toNat).wr (Reg.LANE_CTRL_ADAPT j) 0).wr
    (Reg.LANE_STATUS_CDR_LOCK j) 1

theorem exec_adaptationDone_adapts {j : Fin 15} {scores : List Byte} {h v : Fin 65} {taps : BitVec 30} {s : State}
    (hstate : s.rd (Reg.LANE_STATUS_STATE j) = 3 ∨ s.rd (Reg.LANE_STATUS_STATE j) = 4) :
    exec (.adaptationDone j scores h v taps) s = .next ((s.adapted j scores h v taps).laneState j
      (if (s.adapted j scores h v taps).laneLocks j then 5 else 4)) :=
  congrArg Host.Outcome.next (if_neg (by omega))

/-- After adaptation the lane meets the conditions of LOCKED where it has block lock and the eye reaches EYE_MIN. -/
theorem State.laneLocks_adapted (s : State) (j : Fin 15) (scores : List Byte) (h v : Fin 65) (taps : BitVec 30) :
    (s.adapted j scores h v taps).laneLocks j =
      (s.on (Reg.LANE_STATUS_BLOCK_LOCK j) && decide (s.rd (Reg.LANE_THRESH_EYE_MIN j) ≤ eyeScore h v)) := by
  have hcdr : (s.adapted j scores h v taps).rd (Reg.LANE_STATUS_CDR_LOCK j) = 1 := State.rd_wr_self ..
  unfold State.laneLocks State.on
  rw [hcdr]
  unfold State.adapted
  simp (disch := decide) only [State.rd_wr_lane, State.rd_showEye_lane, State.rd_showEye_score]
  rfl

/-- What adaptation shows of a lane stays as the lane changes its state. -/
theorem State.rd_adapted_laneState (s : State) (j : Fin 15) (scores : List Byte) (h v : Fin 65) (taps : BitVec 30) (st : Nat) :
    ((s.adapted j scores h v taps).laneState j st).rd (Reg.LANE_CTRL_ADAPT j) = 0 ∧
      ((s.adapted j scores h v taps).laneState j st).rd (Reg.LANE_STATUS_CDR_LOCK j) = 1 ∧
      ((s.adapted j scores h v taps).laneState j st).rd (Reg.LANE_DFE_TAPS j) = taps.toNat ∧
      ((s.adapted j scores h v taps).laneState j st).rd (Reg.LANE_EYE_H j) = h ∧
      ((s.adapted j scores h v taps).laneState j st).rd (Reg.LANE_EYE_V j) = v ∧
      ((s.adapted j scores h v taps).laneState j st).rd (Reg.LANE_EYE_CTLE j) =
        bestCtle scores % 2 ^ (Reg.LANE_EYE_CTLE j).width := by
  unfold State.adapted
  simp (disch := decide) only [State.rd_laneState_lane, State.rd_wr_lane, State.rd_showEye_h, State.rd_showEye_v]
  exact ⟨State.rd_wr_self .., State.rd_wr_self .., (State.rd_wr_self ..).trans (Nat.mod_eq_of_lt taps.isLt), trivial, trivial,
    State.rd_wr_self ..⟩

theorem adaptationDone_locks {j : Fin 15} {scores : List Byte} {h v : Fin 65} {taps : BitVec 30} {s : State}
    (hstate : s.rd (Reg.LANE_STATUS_STATE j) = 4) (hblock : s.on (Reg.LANE_STATUS_BLOCK_LOCK j) = true)
    (heye : s.rd (Reg.LANE_THRESH_EYE_MIN j) ≤ eyeScore h v) :
    Answers (.adaptationDone j scores h v taps) s fun t =>
      t.rd (Reg.LANE_STATUS_STATE j) = 5 ∧ t.rd (Reg.LANE_CTRL_ADAPT j) = 0 ∧ t.rd (Reg.LANE_STATUS_CDR_LOCK j) = 1 ∧
        t.rd (Reg.LANE_DFE_TAPS j) = taps.toNat ∧ t.rd (Reg.LANE_EYE_H j) = h ∧ t.rd (Reg.LANE_EYE_V j) = v := by
  have hlocks : (s.adapted j scores h v taps).laneLocks j = true := by rw [State.laneLocks_adapted, hblock, decide_eq_true heye]; rfl
  obtain ⟨hadapt, hcdr, htaps, hh, hv, -⟩ := s.rd_adapted_laneState j scores h v taps 5
  refine ⟨_, exec_adaptationDone_adapts (.inr hstate), ?_⟩
  rw [if_pos hlocks]
  exact ⟨State.rd_laneState_self _ _ (by decide), hadapt, hcdr, htaps, hh, hv⟩

theorem adaptationDone_stays {j : Fin 15} {scores : List Byte} {h v : Fin 65} {taps : BitVec 30} {s : State}
    (hstate : s.rd (Reg.LANE_STATUS_STATE j) = 3 ∨ s.rd (Reg.LANE_STATUS_STATE j) = 4)
    (hshort : s.on (Reg.LANE_STATUS_BLOCK_LOCK j) = false ∨ eyeScore h v < s.rd (Reg.LANE_THRESH_EYE_MIN j)) :
    Answers (.adaptationDone j scores h v taps) s fun t =>
      t.rd (Reg.LANE_STATUS_STATE j) = 4 ∧ t.rd (Reg.LANE_CTRL_ADAPT j) = 0 ∧ t.rd (Reg.LANE_STATUS_CDR_LOCK j) = 1 ∧
        t.rd (Reg.LANE_EYE_CTLE j) = bestCtle scores % 2 ^ (Reg.LANE_EYE_CTLE j).width := by
  have hlocks : ¬ (s.adapted j scores h v taps).laneLocks j = true := by
    rw [State.laneLocks_adapted, Bool.and_eq_true, decide_eq_true_eq]
    rintro ⟨hblock, heye⟩
    obtain hunlocked | hlow := hshort
    · exact Bool.false_ne_true (hunlocked.symm.trans hblock)
    · exact Nat.not_lt.2 heye hlow
  obtain ⟨hadapt, hcdr, -, -, -, hctle⟩ := s.rd_adapted_laneState j scores h v taps 4
  refine ⟨_, exec_adaptationDone_adapts hstate, ?_⟩
  rw [if_neg hlocks]
  exact ⟨State.rd_laneState_self _ _ (by decide), hadapt, hcdr, hctle⟩

end Sys2Proof.Machine
end

section
/-! SUPPORT. Test patterns and error injection on a lane (spec/08_serial_lanes.md R209 to R211). -/

namespace Sys2Proof.Machine

/-! LANE_PRBS_CONFIG (R209). -/

/-- WERR of a lane's LANE_CTRL is the lane's own, and fires event 43. -/
theorem State.werr_laneAddr (s : State) (j : Fin 15) : s.werr (laneAddr j) = (s.wr (Reg.LANE_STATUS_WERR j) 1).fire 43 := by
  have hblock : laneAddr j / 0x10000 = 0x200C := by unfold laneAddr; omega
  have hlane : laneOf (laneAddr j) = j := by unfold laneOf laneAddr; omega
  unfold State.werr
  rw [hblock, hlane]
  rfl

/-- Both patterns are selected, a new one from its seed, and the checker starts anew. -/
def State.patternsSet (s : State) (j : Fin 15) (tx rx : Nat) : State :=
  ((((s.wr (Reg.LANE_CTRL_PRBS_TX j) tx).wr (Reg.LANE_CTRL_PRBS_RX j) rx).setLane j
    { s.lane.pair[j] with gen := if s.rd (Reg.LANE_CTRL_PRBS_TX j) = tx then (s.lane.pair[j]).gen else 0x7FFFFFFF, chk := 0, run := 0 }).wr
    (Reg.LANE_PRBS_ERR_COUNT j) 0).wr (Reg.LANE_STATUS_PRBS_SYNC j) 0

/-- An accepted write of PRBS_TX and PRBS_RX selects them, or sets WERR where an enabled block owns the lane and one of them is not OFF. -/
theorem exec_lanePrbsConfig_accepts {j : Fin 15} {m : Master} {v : Word} {s : State} (haccepts : s.accepts m (laneAddr j)) :
    exec (.lanePrbsConfig j m v) s = .next (
      if (s.stored m (laneAddr j) v).laneOwned j = true ∧ (bits v.toNat 1 3 ≠ 0 ∨ bits v.toNat 4 3 ≠ 0)
      then (s.stored m (laneAddr j) v).werr (laneAddr j)
      else ((s.stored m (laneAddr j) v).patternsSet j (bits v.toNat 1 3) (bits v.toNat 4 3)).showLane j) :=
  congrArg Host.Outcome.next (State.busWrite_accepts haccepts)

theorem lanePrbsConfig_selects {j : Fin 15} {m : Master} {v : Word} {s : State} (haccepts : s.accepts m (laneAddr j))
    (hfree : (s.stored m (laneAddr j) v).laneOwned j = false ∨ (bits v.toNat 1 3 = 0 ∧ bits v.toNat 4 3 = 0)) :
    Answers (.lanePrbsConfig j m v) s fun t =>
      t.rd (Reg.LANE_CTRL_PRBS_TX j) = bits v.toNat 1 3 ∧ t.rd (Reg.LANE_CTRL_PRBS_RX j) = bits v.toNat 4 3 ∧
        t.rd (Reg.LANE_PRBS_ERR_COUNT j) = 0 ∧ t.rd (Reg.LANE_STATUS_PRBS_SYNC j) = 0 := by
  have htaken : ¬ ((s.stored m (laneAddr j) v).laneOwned j = true ∧ (bits v.toNat 1 3 ≠ 0 ∨ bits v.toNat 4 3 ≠ 0)) := by
    rintro ⟨howned, hpattern⟩
    obtain hfree | ⟨htx, hrx⟩ := hfree
    · exact Bool.false_ne_true (hfree.symm.trans howned)
    · exact hpattern.elim (· htx) (· hrx)
  refine ⟨_, exec_lanePrbsConfig_accepts haccepts, ?_⟩
  rw [if_neg htaken]
  unfold State.patternsSet
  simp (disch := decide) only [State.rd_showLane_lane, State.rd_wr_lane, State.setLane_rd]
  exact ⟨(State.rd_wr_self ..).trans (Nat.mod_mod ..), (State.rd_wr_self ..).trans (Nat.mod_mod ..), State.rd_wr_self .., State.rd_wr_self ..⟩

theorem lanePrbsConfig_seeds {j : Fin 15} {m : Master} {v : Word} {s : State} (haccepts : s.accepts m (laneAddr j))
    (hfree : (s.stored m (laneAddr j) v).laneOwned j = false) (hnew : s.rd (Reg.LANE_CTRL_PRBS_TX j) ≠ bits v.toNat 1 3) :
    Answers (.lanePrbsConfig j m v) s fun t => (t.lane.pair[j]).gen = 0x7FFFFFFF := by
  have hstored : (s.stored m (laneAddr j) v).rd (Reg.LANE_CTRL_PRBS_TX j) ≠ bits v.toNat 1 3 := by
    rwa [State.rd_stored_lane (by decide +kernel)]
  refine ⟨_, exec_lanePrbsConfig_accepts haccepts, ?_⟩
  rw [if_neg (by simp [hfree])]
  refine (congrArg (fun l : Lane => (l.pair[j]).gen) (State.showLane_lane ..)).trans ?_
  exact (congrArg LanePair.gen (State.setLane_pair_self ..)).trans (if_neg hstored)

theorem lanePrbsConfig_refused {j : Fin 15} {m : Master} {v : Word} {s : State} (haccepts : s.accepts m (laneAddr j))
    (howned : (s.stored m (laneAddr j) v).laneOwned j = true) (hpattern : bits v.toNat 1 3 ≠ 0 ∨ bits v.toNat 4 3 ≠ 0) :
    Answers (.lanePrbsConfig j m v) s fun t =>
      t.rd (Reg.LANE_STATUS_WERR j) = 1 ∧ t.fired 43 ∧ t.rd (Reg.LANE_CTRL_PRBS_TX j) = s.rd (Reg.LANE_CTRL_PRBS_TX j) ∧
        t.rd (Reg.LANE_CTRL_PRBS_RX j) = s.rd (Reg.LANE_CTRL_PRBS_RX j) := by
  refine ⟨_, exec_lanePrbsConfig_accepts haccepts, ?_⟩
  rw [if_pos ⟨howned, hpattern⟩, State.werr_laneAddr]
  simp (disch := decide +kernel) only [State.rd_fire_lane, State.rd_wr_lane, State.rd_stored_lane]
  exact ⟨State.rd_wr_self .., State.fired_fire _ 43, trivial, trivial⟩

/-! INJ_ONE and INJ_BURST (R210). -/

theorem State.laneInject_inject (s : State) (j : Fin 15) (n : Nat) :
    ((s.laneInject j n).lane.pair[j]).inject = (s.lane.pair[j]).inject ++ [n] :=
  congrArg LanePair.inject (State.setLane_pair_self ..)

theorem injOne_waits {j : Fin 15} {m : Master} {v : Word} {s : State} (haccepts : s.accepts m (laneAddr j))
    (hset : v.toNat.testBit 9 = true) :
    Answers (.injOne j m v) s fun t => (t.lane.pair[j]).inject = (s.lane.pair[j]).inject ++ [1] := by
  refine ⟨_, congrArg Host.Outcome.next ((State.busWrite_accepts haccepts).trans (if_pos hset)), ?_⟩
  exact (State.laneInject_inject ..).trans (by rw [State.stored_lane])

theorem injBurst_waits {j : Fin 15} {m : Master} {v : Word} {s : State} (haccepts : s.accepts m (laneAddr j))
    (hset : v.toNat.testBit 10 = true) :
    Answers (.injBurst j m v) s fun t => (t.lane.pair[j]).inject =
      (s.lane.pair[j]).inject ++ [max 1 (min 64 ((s.stored m (laneAddr j) v).rd (Reg.LANE_CTRL_INJ_LEN j)))] := by
  refine ⟨_, congrArg Host.Outcome.next ((State.busWrite_accepts haccepts).trans (if_pos hset)), ?_⟩
  exact (State.laneInject_inject ..).trans (by rw [State.stored_lane])

/-! PRBS_CHECKER_SYNC and PRBS_BIT_ERROR (R209, R211). -/

/-- A lane whose generator is off sends no pattern. -/
theorem State.lanePattern_of_off {s : State} {j : Fin 15} (n : Nat) (hoff : patternOf (s.rd (Reg.LANE_CTRL_PRBS_TX j)) = 0) :
    s.lanePattern j n = (s, List.replicate n false) := if_pos hoff

/-- With no injection waiting the bits of the pattern leave as they are. -/
theorem State.lanePattern_line {s : State} {j : Fin 15} (n : Nat) (hon : patternOf (s.rd (Reg.LANE_CTRL_PRBS_TX j)) ≠ 0)
    (hnone : (s.lane.pair[j]).inject = []) :
    ((s.lanePattern j n).1.lane.pair[j]).line = (s.lane.pair[j]).line ++
      [.pattern (prbsRun (patternOf (s.rd (Reg.LANE_CTRL_PRBS_TX j))) n (s.lane.pair[j]).gen).2] := by
  unfold State.lanePattern
  simp only [hon, ↓reduceIte, State.setLane_pair_self, hnone, List.sum_nil, List.take_zero, List.map_nil, List.nil_append, List.drop_zero]

/-- Sending a pattern changes no register. -/
theorem State.lanePattern_regs (s : State) (j : Fin 15) (n : Nat) : (s.lanePattern j n).1.regs = s.regs := by
  unfold State.lanePattern
  dsimp only
  split <;> rfl

theorem State.rd_lanePattern (s : State) (j : Fin 15) (n : Nat) (f : Fld) : (s.lanePattern j n).1.rd f = s.rd f :=
  congrArg (RegFile.get · f) (s.lanePattern_regs j n)

/-- The checker of a lane before it takes the bits received, after `p` of the lane's own have left. -/
def State.checker (s p : State) (j : Fin 15) : Checker :=
  { reg := (p.lane.pair[j]).chk, run := (p.lane.pair[j]).run, sync := s.on (Reg.LANE_STATUS_PRBS_SYNC j), errs := 0 }

/-- The checker of a lane after the bits that it has received. -/
def State.checked (s p : State) (j : Fin 15) (bits : List Bool) : Checker :=
  bits.foldl (Checker.take (patternOf (s.rd (Reg.LANE_CTRL_PRBS_RX j)))) (s.checker p j)

/-- A lane without a checker sends its own pattern and nothing more. -/
theorem State.prbsTake_of_off {s : State} {j : Fin 15} (bits : List Bool) (hoff : patternOf (s.rd (Reg.LANE_CTRL_PRBS_RX j)) = 0) :
    s.prbsTake j bits = (s.lanePattern j bits.length).1 := if_pos hoff

/-- The synchronisation and the errors that a checker `c` shows in LANE_STATUS and LANE_PRBS_ERR. -/
def State.showChecker (s : State) (j : Fin 15) (c : Checker) : State :=
  ((s.setLane j { s.lane.pair[j] with chk := c.reg, run := c.run }).wrB (Reg.LANE_STATUS_PRBS_SYNC j) c.sync).addSat
    (Reg.LANE_PRBS_ERR_COUNT j) c.errs

/-- A lane with a checker shows what it makes of the bits received, those of its own pattern under LOOPBACK, and the first error fires event 42. -/
theorem State.prbsTake_of_on {s p : State} {j : Fin 15} {own bits : List Bool}
    (hon : patternOf (s.rd (Reg.LANE_CTRL_PRBS_RX j)) ≠ 0) (hsent : s.lanePattern j bits.length = (p, own)) {c : Checker}
    (hc : s.checked p j (if s.on (Reg.LANE_CTRL_LOOPBACK j) = true then own else bits) = c) :
    s.prbsTake j bits = if s.rd (Reg.LANE_PRBS_ERR_COUNT j) = 0 ∧ 0 < c.errs then (p.showChecker j c).fire 42 else p.showChecker j c := by
  have hread : ∀ f, p.rd f = s.rd f := fun f => by rw [← State.rd_lanePattern s j bits.length f, hsent]
  have htested : ∀ f, p.on f = s.on f := fun f => congrArg (· != 0) (hread f)
  subst hc
  refine (if_neg hon).trans ?_
  simp only [hsent, hread, htested]
  rfl

/-- What a checker shows: its synchronisation, its errors, and event 42 with the first of them. -/
theorem State.prbsTake_shows {s p : State} {j : Fin 15} {own bits : List Bool}
    (hon : patternOf (s.rd (Reg.LANE_CTRL_PRBS_RX j)) ≠ 0) (hsent : s.lanePattern j bits.length = (p, own)) {c : Checker}
    (hc : s.checked p j (if s.on (Reg.LANE_CTRL_LOOPBACK j) = true then own else bits) = c) :
    (s.prbsTake j bits).on (Reg.LANE_STATUS_PRBS_SYNC j) = c.sync ∧
      (s.prbsTake j bits).rd (Reg.LANE_PRBS_ERR_COUNT j) = min (s.rd (Reg.LANE_PRBS_ERR_COUNT j) + c.errs) (2 ^ 32 - 1) ∧
      (s.rd (Reg.LANE_PRBS_ERR_COUNT j) = 0 → 0 < c.errs → (s.prbsTake j bits).fired 42) := by
  have hsync : (p.showChecker j c).rd (Reg.LANE_STATUS_PRBS_SYNC j) = b2n c.sync :=
    (State.rd_addSat_lane (by decide)).trans ((State.rd_wr_self ..).trans (Nat.mod_eq_of_lt (b2n_lt_two _)))
  have herrs : (p.showChecker j c).rd (Reg.LANE_PRBS_ERR_COUNT j) = min (s.rd (Reg.LANE_PRBS_ERR_COUNT j) + c.errs) (2 ^ 32 - 1) := by
    refine (State.rd_addSat_self ..).trans ?_
    rw [State.counted, State.rd_wrB_lane (by decide), State.setLane_rd, ← State.rd_lanePattern s j bits.length, hsent]
    rfl
  have hon_sync : ∀ t : State, t.rd (Reg.LANE_STATUS_PRBS_SYNC j) = b2n c.sync → t.on (Reg.LANE_STATUS_PRBS_SYNC j) = c.sync := fun t ht => by
    rw [State.on, ht]
    cases c.sync <;> rfl
  rw [State.prbsTake_of_on hon hsent hc]
  split
  · exact ⟨hon_sync _ ((State.rd_fire_lane (by decide)).trans hsync), (State.rd_fire_lane (by decide)).trans herrs,
      fun _ _ => State.fired_fire _ 42⟩
  · rename_i hlater
    exact ⟨hon_sync _ hsync, herrs, fun hzero herr => absurd ⟨hzero, herr⟩ hlater⟩

end Sys2Proof.Machine
end

section
/-! SUPPORT. Loss of lock: what it leaves of a lane, and how a tile port that fails or is lost by it moves (spec/08_serial_lanes.md R205, R208,
R212; spec/07_onvik_tile_link.md R156, R190). -/

namespace Sys2Proof.Machine

/-! The tile link. Its lanes keep their rate here, so that its port states touch no lock of a lane. -/

/-- What a change of a tile port's state may change: it, the code of a training that ends, and the state of the port's lane. -/
def tileLinkKeys : List Keys := [Keys.arr Reg.TL_TRAIN_ERR_CODE 12, Keys.arr Reg.TL_STATUS_STATE 12] ++ laneStateKeys
def tileLinkZones : List Zone := .tl :: eventZones

/-- LANE_STATUS.RATE of a tile lane follows its training alone. -/
theorem State.showRate_tlLane (s : State) (p : Fin 12) : s.showRate (tlLane p) = s :=
  if_pos (by revert p; decide)

theorem State.showLane_tlLane_frame (s : State) (p : Fin 12) : Fr tileLinkKeys tileLinkZones s (s.showLane (tlLane p)) := by
  have hstate : ∀ st, Fr tileLinkKeys tileLinkZones s (s.laneState (tlLane p) st) := fun st =>
    Fr.step (State.laneState_frame s _ st) (by decide +kernel) (by decide) (Fr.refl s)
  unfold State.showLane
  simp only [State.showRate_tlLane, ite_self]
  exact Fr.ite (Fr.ite (Fr.refl s) (hstate 6)) (Fr.ite (Fr.ite (Fr.refl s) (hstate 1)) (Fr.ite (hstate 2) (Fr.refl s)))

theorem State.tlSet_frame (s : State) (p : Fin 12) (st : Nat) : Fr tileLinkKeys tileLinkZones s (s.tlSet p st) := by
  have hwritten : Fr tileLinkKeys tileLinkZones s (s.wr (Reg.TL_STATUS_STATE p) st) :=
    Fr.wr (Reg.TL_STATUS_STATE_key p.isLt) (by decide +kernel) (Fr.refl s)
  unfold State.tlSet
  exact Fr.ite (State.showLane_tlLane_frame s p)
    (Fr.step (State.fire_frame _ _) (by decide +kernel) (by decide)
      (Fr.step (State.showLane_tlLane_frame _ p) (by decide +kernel) (by decide) hwritten))

theorem State.tlLeave_frame (s : State) (p : Fin 12) (st : Nat) : Fr tileLinkKeys tileLinkZones s (s.tlLeave p st) :=
  Fr.step (State.tlSet_frame _ p st) (by decide +kernel) (by decide) (Fr.step State.setPort_fr rfl rfl (Fr.refl s))

theorem State.tlFail_frame (s : State) (p : Fin 12) (code : Nat) : Fr tileLinkKeys tileLinkZones s (s.tlFail p code) :=
  Fr.step State.raise_fr rfl rfl (Fr.step (State.tlLeave_frame _ p 5) (by decide +kernel) (by decide)
    (Fr.step (State.fire_frame _ _) (by decide +kernel) (by decide)
      (Fr.wr (Reg.TL_TRAIN_ERR_CODE_key p.isLt) (by decide +kernel) (Fr.refl s))))

theorem State.tlLost_frame (s : State) (p : Fin 12) : Fr tileLinkKeys tileLinkZones s (s.tlLost p) :=
  Fr.ite (Fr.step State.raise_fr rfl rfl (State.tlLeave_frame s p 0)) (State.tlLeave_frame s p 0)

/-- A tile port reads the state that it goes to. -/
theorem State.tlState_tlSet (s : State) (p : Fin 12) {st : Nat} (h : st < 8) : (s.tlSet p st).tlState p = st := by
  have hshown : ∀ u : State, (u.showLane (tlLane p)).tlState p = u.tlState p := fun u =>
    (State.showLane_frame u (tlLane p)).rd_at (by decide +kernel) p
  unfold State.tlSet
  split
  · rename_i hsame
    exact (hshown s).trans hsame
  · refine ((State.fire_frame _ _).rd_at (by decide +kernel) p).trans ((hshown _).trans ?_)
    exact (State.rd_wr_self ..).trans (Nat.mod_eq_of_lt h)

theorem State.tlState_tlLeave (s : State) (p : Fin 12) {st : Nat} (h : st < 8) : (s.tlLeave p st).tlState p = st := State.tlState_tlSet _ p h

/-- A training that ends shows its code. -/
theorem State.rd_tlFail_code (s : State) (p : Fin 12) {code : Nat} (h : code < 2 ^ 8) : (s.tlFail p code).rd (Reg.TL_TRAIN_ERR_CODE p) = code := by
  have hwritten : (s.wr (Reg.TL_TRAIN_ERR_CODE p) code).rd (Reg.TL_TRAIN_ERR_CODE p) = code := (State.rd_wr_self ..).trans (Nat.mod_eq_of_lt h)
  unfold State.tlFail
  rw [State.raise_fr.rd_at (f := Reg.TL_TRAIN_ERR_CODE) (by decide) p,
    State.tlLeave_fr.rd_at (f := Reg.TL_TRAIN_ERR_CODE) (by decide +kernel) p,
    (State.fire_frame _ _).rd_at (f := Reg.TL_TRAIN_ERR_CODE) (by decide +kernel) p]
  exact hwritten

/-- LANE_LOCK_TIMEOUT of a lane whose port's training awaits the lock ends that training with code 7. -/
theorem laneLockTimeout_fails {j : Fin 15} {p : Fin 12} {s : State} (hport : lanePort j = some p) (htraining : s.tlState p = 1)
    (hawaits : (s.port p).train = .lock ∨ (s.port p).train = .relockSlow) :
    Answers (.laneLockTimeout j) s fun t => t.tlState p = 5 ∧ t.rd (Reg.TL_TRAIN_ERR_CODE p) = 7 ∧ t.hasRaised FLT_TL_TRAIN := by
  have hexec : exec (.laneLockTimeout j) s = .next (s.tlFail p 7) := by
    change execLaneLockTimeout j s = _
    unfold execLaneLockTimeout
    obtain hawaits | hawaits := hawaits <;> simp only [hport, htraining, hawaits, ↓reduceIte]
  refine ⟨_, hexec, ?_, State.rd_tlFail_code s p (by decide), State.raise_hasRaised _ _ _ (by decide)⟩
  exact (State.raise_fr.rd_at (by decide) p).trans (State.tlState_tlLeave _ p (by decide))

/-! LANE_LOCK_LOSS (R205). -/

/-- A lane that has lost lock: both locks are gone, LOSS is set and counted. -/
def State.lockLost (s : State) (j : Fin 15) : State := ((s.laneUnlock j).wr (Reg.LANE_STATUS_LOSS j) 1).inc (Reg.LANE_CNT_LOSS j)

theorem State.rd_lockLost (s : State) (j : Fin 15) :
    (s.lockLost j).rd (Reg.LANE_STATUS_CDR_LOCK j) = 0 ∧ (s.lockLost j).rd (Reg.LANE_STATUS_BLOCK_LOCK j) = 0 ∧
      (s.lockLost j).rd (Reg.LANE_STATUS_LOSS j) = 1 ∧ (s.lockLost j).rd (Reg.LANE_CNT_LOSS j) = s.counted (Reg.LANE_CNT_LOSS j) := by
  unfold State.lockLost State.laneUnlock
  simp (disch := decide) only [State.rd_inc_self, State.rd_inc_lane, State.rd_wr_lane, State.counted]
  exact ⟨State.rd_wr_self .., State.rd_wr_self .., State.rd_wr_self .., trivial⟩

/-- Beyond the lane's locks and their counter, a loss of lock moves states of the lane and of its tile port only. -/
theorem State.laneLoss_frame {s : State} {j : Fin 15} (hlocked : s.on (Reg.LANE_STATUS_BLOCK_LOCK j) = true) :
    Fr tileLinkKeys tileLinkZones (s.lockLost j) (s.laneLoss j) := by
  have hstate : Fr tileLinkKeys tileLinkZones (s.lockLost j) ((s.lockLost j).laneState j 3) :=
    Fr.step (State.laneState_frame _ j 3) (by decide +kernel) (by decide) (Fr.refl _)
  unfold State.laneLoss
  rw [if_neg (by simp [hlocked])]
  refine Fr.cut (if (s.lockLost j).rd (Reg.LANE_STATUS_STATE j) = 5 ∨ (s.lockLost j).rd (Reg.LANE_STATUS_STATE j) = 4
    then (s.lockLost j).laneState j 3 else s.lockLost j) (Fr.ite hstate (Fr.refl _)) (fun hmoved => ?_)
  dsimp only
  split
  · exact hmoved
  · exact Fr.ite (Fr.step (State.tlFail_frame _ _ 7) (by decide +kernel) (by decide) hmoved)
      (Fr.ite (Fr.step (State.tlLost_frame _ _) (by decide +kernel) (by decide) hmoved) hmoved)

theorem State.rd_laneLoss {s : State} {j : Fin 15} (hlocked : s.on (Reg.LANE_STATUS_BLOCK_LOCK j) = true) :
    (s.laneLoss j).rd (Reg.LANE_STATUS_CDR_LOCK j) = 0 ∧ (s.laneLoss j).rd (Reg.LANE_STATUS_BLOCK_LOCK j) = 0 ∧
      (s.laneLoss j).rd (Reg.LANE_STATUS_LOSS j) = 1 ∧ (s.laneLoss j).rd (Reg.LANE_CNT_LOSS j) = s.counted (Reg.LANE_CNT_LOSS j) := by
  rw [(State.laneLoss_frame hlocked).rd_at (f := Reg.LANE_STATUS_CDR_LOCK) (by decide +kernel),
    (State.laneLoss_frame hlocked).rd_at (f := Reg.LANE_STATUS_BLOCK_LOCK) (by decide +kernel),
    (State.laneLoss_frame hlocked).rd_at (f := Reg.LANE_STATUS_LOSS) (by decide +kernel),
    (State.laneLoss_frame hlocked).rd_at (f := Reg.LANE_CNT_LOSS) (by decide +kernel)]
  exact s.rd_lockLost j

/-- A lane without block lock has none to lose. -/
theorem State.laneLoss_of_unlocked {s : State} {j : Fin 15} (hunlocked : s.on (Reg.LANE_STATUS_BLOCK_LOCK j) = false) :
    s.laneLoss j = s := if_pos (by simp [hunlocked])

theorem laneLockLoss_headers {j : Fin 15} {n : Fin 65} {s : State} (hlocked : s.on (Reg.LANE_STATUS_BLOCK_LOCK j) = true)
    (hmany : 16 ≤ n.val) :
    Answers (.laneLockLoss j (.headers n)) s fun t =>
      t.rd (Reg.LANE_STATUS_CDR_LOCK j) = 0 ∧ t.rd (Reg.LANE_STATUS_BLOCK_LOCK j) = 0 ∧ t.rd (Reg.LANE_STATUS_LOSS j) = 1 ∧
        t.rd (Reg.LANE_CNT_LOSS j) = s.counted (Reg.LANE_CNT_LOSS j) :=
  ⟨_, congrArg Host.Outcome.next (if_pos hmany), State.rd_laneLoss hlocked⟩

theorem laneLockLoss_eye {j : Fin 15} {h v : Fin 65} {s : State} (hlocked : s.on (Reg.LANE_STATUS_BLOCK_LOCK j) = true)
    (hlow : eyeScore h v < s.rd (Reg.LANE_THRESH_EYE_LOSS j)) :
    Answers (.laneLockLoss j (.eye h v)) s fun t =>
      t.rd (Reg.LANE_STATUS_CDR_LOCK j) = 0 ∧ t.rd (Reg.LANE_STATUS_BLOCK_LOCK j) = 0 ∧ t.rd (Reg.LANE_STATUS_LOSS j) = 1 ∧
        t.rd (Reg.LANE_CNT_LOSS j) = s.counted (Reg.LANE_CNT_LOSS j) :=
  ⟨_, congrArg Host.Outcome.next (if_pos hlow), State.rd_laneLoss hlocked⟩

theorem laneLockLoss_of_unlocked {j : Fin 15} {cause : LossCause} {s : State} (hunlocked : s.on (Reg.LANE_STATUS_BLOCK_LOCK j) = false) :
    Answers (.laneLockLoss j cause) s fun t => t = s := by
  have hnone := State.laneLoss_of_unlocked hunlocked
  refine ⟨s, congrArg Host.Outcome.next ?_, rfl⟩
  cases cause with
  | headers n => exact (ite_congr rfl (fun _ => hnone) (fun _ => rfl)).trans (ite_self s)
  | eye h v => exact (ite_congr rfl (fun _ => hnone) (fun _ => rfl)).trans (ite_self s)

/-! LANE_PLL_LOSS (R212). -/

/-- The lock flag of a lane PLL. -/
def pllLock (net : Bool) : Fld := if net then Reg.CLKRST_STATUS_NPLL_LOCK else Reg.CLKRST_STATUS_TPLL_LOCK

/-- Lanes that lose lock leave the lock flags of the PLLs. -/
theorem State.rd_pllLock_laneLoss (s : State) (net : Bool) (j : Fin 15) : (s.laneLoss j).rd (pllLock net) = s.rd (pllLock net) := by
  cases net <;> exact Fr.rd State.laneLoss_fr (by decide +kernel) (by decide)

theorem State.rd_forFin {n : Nat} {f : Fin n → State → State} {g : Fld} (hf : ∀ i t, (f i t).rd g = t.rd g) (s : State) :
    (s.forFin f).rd g = s.rd g := by
  unfold State.forFin
  induction List.finRange n generalizing s with
  | nil => rfl
  | cons i l ih => exact (ih _).trans (hf i s)

theorem lanePllLoss_unlocks (net : Bool) (s : State) :
    Answers (.lanePllLoss net) s fun t => t.rd (pllLock net) = 0 ∧ t.hasRaised FLT_LANE_PLL := by
  refine ⟨_, rfl, ?_, State.raise_hasRaised _ _ _ (by decide)⟩
  refine (Fr.rd State.raise_fr (by cases net <;> decide +kernel) (by cases net <;> decide)).trans ((State.rd_forFin (fun j t => ?_) _).trans ?_)
  · split
    · exact State.rd_pllLock_laneLoss t net j
    · rfl
  · exact (State.rd_wr_self ..).trans (Nat.zero_mod _)

end Sys2Proof.Machine
end

section
/-! SUPPORT. The statement of the lanes, clause by clause (spec/08_serial_lanes.md R202 to R212). -/

namespace Sys2Proof.Machine

/-- What PRBS_CHECKER_SYNC and PRBS_BIT_ERROR, which are the same reception, show of a lane that sends no pattern. -/
theorem prbsReceived_alone {c : Instr} {j : Fin 15} {bits : List Bool} {s : State} (hc : exec c s = .next (s.prbsTake j bits))
    (hrx : patternOf (s.rd (Reg.LANE_CTRL_PRBS_RX j)) ≠ 0) (htx : patternOf (s.rd (Reg.LANE_CTRL_PRBS_TX j)) = 0)
    (hloop : s.on (Reg.LANE_CTRL_LOOPBACK j) = false) :
    Answers c s fun t => t.on (Reg.LANE_STATUS_PRBS_SYNC j) = (s.checked s j bits).sync ∧
      t.rd (Reg.LANE_PRBS_ERR_COUNT j) = min (s.rd (Reg.LANE_PRBS_ERR_COUNT j) + (s.checked s j bits).errs) (2 ^ 32 - 1) ∧
      (s.rd (Reg.LANE_PRBS_ERR_COUNT j) = 0 → 0 < (s.checked s j bits).errs → t.fired 42) :=
  ⟨_, hc, State.prbsTake_shows hrx (State.lanePattern_of_off bits.length htx) (by rw [if_neg (Bool.eq_false_iff.1 hloop)])⟩

/-- Under LOOPBACK the checker takes the pattern of the lane itself. -/
theorem prbsReceived_loopback {c : Instr} {j : Fin 15} {bits : List Bool} {s : State} (hc : exec c s = .next (s.prbsTake j bits))
    (hrx : patternOf (s.rd (Reg.LANE_CTRL_PRBS_RX j)) ≠ 0) (hloop : s.on (Reg.LANE_CTRL_LOOPBACK j) = true) :
    Answers c s fun t => t.on (Reg.LANE_STATUS_PRBS_SYNC j) =
      (s.checked (s.lanePattern j bits.length).1 j (s.lanePattern j bits.length).2).sync := by
  obtain ⟨hsync, -⟩ := State.prbsTake_shows hrx (Prod.eta (s.lanePattern j bits.length)).symm (by rw [if_pos hloop])
  exact ⟨_, hc, hsync⟩

/-- A lane that only sends goes on with its pattern. -/
theorem prbsReceived_sends {c : Instr} {j : Fin 15} {bits : List Bool} {s : State} (hc : exec c s = .next (s.prbsTake j bits))
    (htx : patternOf (s.rd (Reg.LANE_CTRL_PRBS_TX j)) ≠ 0) (hrx : patternOf (s.rd (Reg.LANE_CTRL_PRBS_RX j)) = 0)
    (hnone : (s.lane.pair[j]).inject = []) :
    Answers c s fun t => (t.lane.pair[j]).line = (s.lane.pair[j]).line ++
      [.pattern (prbsRun (patternOf (s.rd (Reg.LANE_CTRL_PRBS_TX j))) bits.length (s.lane.pair[j]).gen).2] :=
  ⟨_, hc.trans (congrArg Host.Outcome.next (State.prbsTake_of_off bits hrx)), State.lanePattern_line bits.length htx hnone⟩

theorem prbsReceived_of_off {c : Instr} {j : Fin 15} {bits : List Bool} {s : State} (hc : exec c s = .next (s.prbsTake j bits))
    (htx : patternOf (s.rd (Reg.LANE_CTRL_PRBS_TX j)) = 0) (hrx : patternOf (s.rd (Reg.LANE_CTRL_PRBS_RX j)) = 0) :
    Answers c s fun t => t = s :=
  ⟨_, hc, (State.prbsTake_of_off bits hrx).trans (congrArg Prod.fst (State.lanePattern_of_off bits.length htx))⟩

/-- Settles O48: each clause is the rule of its command. -/
theorem lanes : Obligations.Lanes := by
  unfold Obligations.Lanes
  refine ⟨?idleReq, ?adaptRuns, ?adaptWaits, ?prbsSelects, ?prbsSeeds, ?prbsRefused, ?injOne, ?injBurst, ?exitLocks, ?exitAdapts,
    ?exitAcquires, ?exitSearches, ?exitNetwork, ?exitElsewhere, ?lockAcquired, ?lockRefused, ?lossHeaders, ?lossEye, ?lossNone,
    ?lockTimeout, ?eyeLow, ?eyeAdapts, ?eyeOk, ?adaptedLocks, ?adaptedStays, ?syncAlone, ?syncLoopback, ?syncSends, ?syncOff, ?errorAlone,
    ?errorLoopback, ?errorSends, ?errorOff, ?pllLoss⟩
  case idleReq => exact fun _ _ _ _ haccepts => laneIdleReq_sets haccepts
  case adaptRuns => exact fun _ _ _ _ haccepts hset hstate => laneAdapt_runs haccepts hset hstate
  case adaptWaits => exact fun _ _ _ _ haccepts hset hacquire hlocked => laneAdapt_waits haccepts hset hacquire hlocked
  case prbsSelects => exact fun _ _ _ _ haccepts hfree => lanePrbsConfig_selects haccepts hfree
  case prbsSeeds => exact fun _ _ _ _ haccepts hfree hnew => lanePrbsConfig_seeds haccepts hfree hnew
  case prbsRefused => exact fun _ _ _ _ haccepts howned hpattern => lanePrbsConfig_refused haccepts howned hpattern
  case injOne => exact fun _ _ _ _ haccepts hset => injOne_waits haccepts hset
  case injBurst => exact fun _ _ _ _ haccepts hset => injBurst_waits haccepts hset
  case exitLocks =>
    exact fun _ _ _ hexit htile hmarker hlocks hadapt => idleExit_locks hexit htile hmarker (by simp [State.exitTo, hlocks, hadapt])
  case exitAdapts =>
    exact fun _ _ _ hexit htile hmarker hlocks hadapt => idleExit_locks hexit htile hmarker (by simp [State.exitTo, hlocks, hadapt])
  case exitAcquires => exact fun _ _ _ hexit htile hunlocked => idleExit_acquires hexit htile hunlocked
  case exitSearches =>
    intro j k s hexit htile hloop hmissed
    have hnet : decide (12 < j.val) = false := decide_eq_false (Nat.not_lt.2 (Nat.le_of_lt_succ htile))
    exact idleExit_searches hexit htile (by rw [State.burstFound, hnet, hloop, hmissed]; rfl)
  case exitNetwork =>
    intro j k s hexit hnet
    rw [← State.exitTo_eq]
    exact idleExit_network hexit hnet
  case exitElsewhere => exact fun _ _ _ hstate => idleExit_elsewhere hstate
  case lockAcquired => exact fun _ _ _ _ hfrom hto heye => laneLockAcquired_locks hfrom hto heye
  case lockRefused => exact fun _ _ _ _ hnone => laneLockAcquired_refused hnone
  case lossHeaders => exact fun _ _ _ hlocked hmany => laneLockLoss_headers hlocked hmany
  case lossEye => exact fun _ _ _ _ hlocked hlow => laneLockLoss_eye hlocked hlow
  case lossNone => exact fun _ _ _ hunlocked => laneLockLoss_of_unlocked hunlocked
  case lockTimeout => exact fun _ _ _ hport htraining hawaits => laneLockTimeout_fails hport htraining hawaits
  case eyeLow => exact fun _ _ _ _ _ hlocked hlow => eyeWindowEnd_low hlocked hlow
  case eyeAdapts => exact fun _ _ _ _ _ hstate => eyeWindowEnd_adapts hstate
  case eyeOk => exact fun _ _ _ _ _ hlocked hok => eyeWindowEnd_ok hlocked hok
  case adaptedLocks => exact fun _ _ _ _ _ _ hstate hblock heye => adaptationDone_locks hstate hblock heye
  case adaptedStays => exact fun _ _ _ _ _ _ hstate hshort => adaptationDone_stays hstate hshort
  case syncAlone => exact fun _ _ _ hrx htx hloop => prbsReceived_alone rfl hrx htx hloop
  case syncLoopback => exact fun _ _ _ hrx hloop => prbsReceived_loopback rfl hrx hloop
  case syncSends => exact fun _ _ _ htx hrx hnone => prbsReceived_sends rfl htx hrx hnone
  case syncOff => exact fun _ _ _ htx hrx => prbsReceived_of_off rfl htx hrx
  case errorAlone => exact fun _ _ _ hrx htx hloop => prbsReceived_alone rfl hrx htx hloop
  case errorLoopback => exact fun _ _ _ hrx hloop => prbsReceived_loopback rfl hrx hloop
  case errorSends => exact fun _ _ _ htx hrx hnone => prbsReceived_sends rfl htx hrx hnone
  case errorOff => exact fun _ _ _ htx hrx => prbsReceived_of_off rfl htx hrx
  case pllLoss => exact lanePllLoss_unlocks

end Sys2Proof.Machine
end

section
/-! SUPPORT. LSC_ENABLE and the release of the stage (spec/10_led_supply.md R240, R241). -/

namespace Sys2Proof.Machine

/-- What a refused write of LSC_CTRL.EN may change: WERR, and what its event does. -/
def lscWerrKeys : List Keys := Keys.one Reg.LSC_STATUS_WERR :: eventKeys

theorem State.werr_lscCtrl (s : State) : s.werr 0x200E0000 = (s.wr Reg.LSC_STATUS_WERR 1).fire 87 := rfl

theorem State.werr_lscCtrl_frame (s : State) : Fr lscWerrKeys eventZones s (s.werr 0x200E0000) :=
  Fr.step (State.werr_0x200E (by decide)) (by decide +kernel) rfl (Fr.refl s)

theorem State.rd_werr_lscCtrl_self (s : State) : (s.werr 0x200E0000).rd Reg.LSC_STATUS_WERR = 1 :=
  ((State.fire_frame _ _).rd (by decide) (by decide)).trans (State.rd_wr_self ..)

theorem State.werr_lscCtrl_fired (s : State) : (s.werr 0x200E0000).fired 87 := State.fired_fire _ 87

/-- The write of LSC_CTRL also met the closed crossing of LPWR (spec/19 R455) where `closed` holds. -/
def State.lscCrossing (s : State) (closed : Bool) : State := if closed then s.werr 0x200E0000 else s

theorem State.lscCrossing_frame (s : State) (closed : Bool) : Fr lscWerrKeys eventZones s (s.lscCrossing closed) :=
  Fr.ite s.werr_lscCtrl_frame (Fr.refl s)

theorem State.rd_lscCrossing (s : State) (closed : Bool) {f : Fld} (hf : Keys.any lscWerrKeys f.key = false) (hkey : f.key < 2 ^ 37) :
    (s.lscCrossing closed).rd f = s.rd f := (s.lscCrossing_frame closed).rd hf hkey

theorem State.lscCrossing_lsc (s : State) (closed : Bool) : (s.lscCrossing closed).lsc = s.lsc :=
  (s.lscCrossing_frame closed).zones .lsc (by decide)

/-- The crossing sets WERR again or leaves it. -/
theorem State.rd_lscCrossing_werr {s : State} (closed : Bool) (hset : s.rd Reg.LSC_STATUS_WERR = 1) :
    (s.lscCrossing closed).rd Reg.LSC_STATUS_WERR = 1 := by
  unfold State.lscCrossing
  split
  · exact s.rd_werr_lscCtrl_self
  · exact hset

theorem State.lscCrossing_fired {s : State} (closed : Bool) (hfired : s.fired 87) : (s.lscCrossing closed).fired 87 := by
  unfold State.lscCrossing
  split
  · exact s.werr_lscCtrl_fired
  · exact hfired

/-- RELEASED to HANDOVER: the duty starts at D_INIT, no phase is balanced yet (R240). -/
def State.enterHandover (s : State) : State :=
  { (s.wr Reg.LSC_CTRL_EN 1).wr Reg.LSC_STATUS_STATE 1 with
    lsc := { s.lsc with acc := s.rd Reg.LSC_BAL_D_INIT * 32768, duty := s.rd Reg.LSC_BAL_D_INIT, bal := .replicate 4 0 } }

theorem State.rd_enterHandover_state (s : State) : s.enterHandover.rd Reg.LSC_STATUS_STATE = 1 := by
  rw [State.enterHandover, State.rd_with_lsc, State.rd_wr_self]
  rfl

theorem State.rd_enterHandover_en (s : State) : s.enterHandover.rd Reg.LSC_CTRL_EN = 1 := by
  rw [State.enterHandover, State.rd_with_lsc, State.rd_wr_ne _ (by decide), State.rd_wr_self]
  rfl

/-- A write of LSC_CTRL stores no field of LSC_STATUS. -/
theorem State.rd_stored_lscState (s : State) (m : Master) (v : Word) :
    (s.stored m 0x200E0000 v).rd Reg.LSC_STATUS_STATE = s.rd Reg.LSC_STATUS_STATE :=
  State.stored_rd (by decide +kernel) (by decide) (by decide)

theorem State.rd_stored_lscDInit (s : State) (m : Master) (v : Word) :
    (s.stored m 0x200E0000 v).rd Reg.LSC_BAL_D_INIT = s.rd Reg.LSC_BAL_D_INIT :=
  State.stored_rd (by decide +kernel) (by decide) (by decide)

theorem State.stored_lscCtrl_lsc (s : State) (m : Master) (v : Word) : (s.stored m 0x200E0000 v).lsc = s.lsc :=
  (State.stored_fr (by decide)).zones .lsc (by decide)

/-- LSC_ENABLE: an accepted set of EN in RELEASED is refused on an understudy or under a protection, else it takes effect. -/
theorem exec_lscEnable_set {m : Master} {v : Word} {s : State} (haccepts : s.accepts m 0x200E0000) (hset : v.toNat.testBit 0 = true)
    (hreleased : s.rd Reg.LSC_STATUS_STATE = 0) :
    exec (.lscEnable m v) s = .next (State.lscCrossing
      (if (s.stored m 0x200E0000 v).understudyRole || (s.stored m 0x200E0000 v).lscProt then (s.stored m 0x200E0000 v).werr 0x200E0000
        else (s.stored m 0x200E0000 v).enterHandover) (!s.domOn 12)) := by
  change execLscEnable m v s = _
  simp only [execLscEnable, State.busWrite_accepts haccepts, hset, State.rd_stored_lscState, hreleased, State.lscCrossing,
    State.enterHandover, Bool.not_true, Bool.true_and, Bool.false_eq_true, ne_eq, not_true_eq_false, ↓reduceIte]

/-- LSC_ENABLE: an accepted clear of EN releases the stage. -/
theorem exec_lscEnable_clear {m : Master} {v : Word} {s : State} (haccepts : s.accepts m 0x200E0000) (hclear : v.toNat.testBit 0 = false) :
    exec (.lscEnable m v) s = .next (s.stored m 0x200E0000 v).lscRelease := by
  change execLscEnable m v s = _
  simp only [execLscEnable, State.busWrite_accepts haccepts, hclear, Bool.not_false, Bool.false_and, Bool.false_eq_true, ↓reduceIte]

/-- LSC_ENABLE: RELEASED to HANDOVER. -/
theorem lscEnable_takes {m : Master} {v : Word} {s : State} (haccepts : s.accepts m 0x200E0000) (hset : v.toNat.testBit 0 = true)
    (hreleased : s.rd Reg.LSC_STATUS_STATE = 0) (hlead : (s.stored m 0x200E0000 v).understudyRole = false)
    (hclean : (s.stored m 0x200E0000 v).lscProt = false) :
    Answers (.lscEnable m v) s fun t => t.rd Reg.LSC_CTRL_EN = 1 ∧ t.rd Reg.LSC_STATUS_STATE = 1 ∧ t.lsc.duty = s.rd Reg.LSC_BAL_D_INIT ∧
      t.lsc.acc = s.rd Reg.LSC_BAL_D_INIT * 32768 := by
  have htaken : ((s.stored m 0x200E0000 v).understudyRole || (s.stored m 0x200E0000 v).lscProt) = false := by rw [hlead, hclean]; rfl
  have hexec := exec_lscEnable_set haccepts hset hreleased
  rw [htaken] at hexec
  refine ⟨_, hexec, ?_, ?_, ?_, ?_⟩
  · exact (State.rd_lscCrossing _ _ (by decide) (by decide)).trans (State.rd_enterHandover_en _)
  · exact (State.rd_lscCrossing _ _ (by decide) (by decide)).trans (State.rd_enterHandover_state _)
  · exact (congrArg Lsc.duty (State.lscCrossing_lsc ..)).trans (State.rd_stored_lscDInit ..)
  · exact (congrArg Lsc.acc (State.lscCrossing_lsc ..)).trans (congrArg (· * 32768) (State.rd_stored_lscDInit ..))

/-- LSC_ENABLE: a refused set of EN tells so by WERR and changes nothing of the LSC. -/
theorem lscEnable_refused {m : Master} {v : Word} {s : State} (haccepts : s.accepts m 0x200E0000) (hset : v.toNat.testBit 0 = true)
    (hreleased : s.rd Reg.LSC_STATUS_STATE = 0)
    (hbarred : ((s.stored m 0x200E0000 v).understudyRole || (s.stored m 0x200E0000 v).lscProt) = true) :
    Answers (.lscEnable m v) s fun t => t.rd Reg.LSC_STATUS_WERR = 1 ∧ t.fired 87 ∧ t.rd Reg.LSC_STATUS_STATE = 0 ∧ t.lsc = s.lsc := by
  have hexec := exec_lscEnable_set haccepts hset hreleased
  rw [hbarred] at hexec
  have hframe := (s.stored m 0x200E0000 v).werr_lscCtrl_frame
  refine ⟨_, hexec, ?_, ?_, ?_, ?_⟩
  · exact State.rd_lscCrossing_werr _ (State.rd_werr_lscCtrl_self _)
  · exact State.lscCrossing_fired _ (State.werr_lscCtrl_fired _)
  · calc _ = _ := State.rd_lscCrossing _ _ (by decide) (by decide)
      _ = (s.stored m 0x200E0000 v).rd Reg.LSC_STATUS_STATE := hframe.rd (by decide) (by decide)
      _ = 0 := (s.rd_stored_lscState m v).trans hreleased
  · calc _ = _ := State.lscCrossing_lsc ..
      _ = (s.stored m 0x200E0000 v).lsc := hframe.zones .lsc (by decide)
      _ = s.lsc := State.stored_lscCtrl_lsc ..

/-! The release (R241). -/

/-- What a release may change of the registers: EN, STATE, and what a new evaluation of the target writes. -/
def lscReleaseKeys : List Keys :=
  [Keys.one Reg.LSC_CTRL_EN, Keys.one Reg.LSC_STATUS_STATE, Keys.arr Reg.THM_ZLIM_ZLIM 192, Keys.one Reg.LSC_STATUS_VMAX_HIT,
    Keys.one Reg.LSC_STATUS_RAMP, Keys.one Reg.LSC_VSET_SET, Keys.one Reg.LSC_NEEDY_REQ, Keys.one Reg.LSC_NEEDY_ZONE,
    Keys.one Reg.LSC_VSET_TARGET, Keys.arr Reg.LSC_ZL 192] ++ eventKeys

theorem State.lscRelease_frame (s : State) : Fr lscReleaseKeys (eventZones ++ [.lsc, .free, .cal]) s s.lscRelease :=
  Fr.step State.lscRelease_fr (by decide +kernel) rfl (Fr.refl s)

/-- A released stage has EN 0 and reads RELEASED, whether it was driven before or not. -/
theorem State.rd_lscRelease (s : State) : s.lscRelease.rd Reg.LSC_CTRL_EN = 0 ∧ s.lscRelease.rd Reg.LSC_STATUS_STATE = 0 := by
  unfold State.lscRelease
  split
  next hreleased => exact ⟨State.rd_wr_self .., (State.rd_wr_ne _ (by decide) _).trans hreleased⟩
  next =>
    constructor
    · rw [Fr.rd State.lscEval_fr (by decide) (by decide), State.rd_with_cal, State.rd_with_lsc, State.rd_wr_ne _ (by decide),
        State.rd_wr_self, Nat.zero_mod]
    · rw [Fr.rd State.lscEval_fr (by decide) (by decide), State.rd_with_cal, State.rd_with_lsc, State.rd_wr_self, Nat.zero_mod]

theorem lscEnable_releases {m : Master} {v : Word} {s : State} (haccepts : s.accepts m 0x200E0000) (hclear : v.toNat.testBit 0 = false) :
    Answers (.lscEnable m v) s fun t => t.rd Reg.LSC_CTRL_EN = 0 ∧ t.rd Reg.LSC_STATUS_STATE = 0 :=
  ⟨_, exec_lscEnable_clear haccepts hclear, State.rd_lscRelease _⟩

theorem lscRelease_releases (s : State) : Answers .lscRelease s fun t => t.rd Reg.LSC_CTRL_EN = 0 ∧ t.rd Reg.LSC_STATUS_STATE = 0 :=
  ⟨_, rfl, s.rd_lscRelease⟩

end Sys2Proof.Machine
end

section
/-! SUPPORT. The samples of the LSC: the hand-over, the voltage, the phase currents (spec/10_led_supply.md R240, R243 to R246, R249). -/

namespace Sys2Proof.Machine

/-- LSC_VSET.SET and RAMP follow the set point; of the LSC itself only the note that it ramps may change. -/
theorem State.showRamp_lsc (s : State) :
    s.showRamp.lsc = { s.lsc with ramped := s.lsc.set != s.rd Reg.LSC_VSET_TARGET * 10000 || s.lsc.ramped } := by
  unfold State.showRamp
  dsimp only
  split
  next hramps => simp [hramps]
  next hsettled => simp [Bool.eq_false_iff.2 hsettled]

/-! LSC_HANDOVER_DONE. -/

/-- The 20 conversions end HANDOVER: CONTROL starts at their mean, with LSEN high. -/
def State.enterControl (s : State) (codes : Vector (Fin 4096) 20) : State :=
  { s.wr Reg.LSC_STATUS_STATE 2 with
    lsc := { s.lsc with
      set := (codes.toList.map (fun c => s.vledMv c.val)).sum * 50, vmeas := s.vledMv (codes.get 19).val, driven := true, lsen := true } }

/-- The conversion of VLED does not depend on LSC_STATUS.STATE. -/
theorem State.vledMv_wr_lscState (s : State) (x code : Nat) : (s.wr Reg.LSC_STATUS_STATE x).vledMv code = s.vledMv code := by
  unfold State.vledMv State.adc
  rw [State.rd_wr_ne _ (by decide), State.rd_wr_ne _ (by decide), State.rd_wr_ne _ (by decide)]

theorem exec_lscHandoverDone_of_handover {c : Vector (Fin 4096) 20} {s : State} (hpowered : s.lscPowered = true)
    (hhandover : s.rd Reg.LSC_STATUS_STATE = 1) : exec (.lscHandoverDone c) s = .next (s.enterControl c).showPhases.showRamp := by
  change execLscHandoverDone c s = _
  rw [execLscHandoverDone, if_neg (by simp [hpowered, hhandover])]
  simp only [State.vledMv_wr_lscState]
  rfl

theorem lscHandoverDone_controls {c : Vector (Fin 4096) 20} {s : State} (hpowered : s.lscPowered = true)
    (hhandover : s.rd Reg.LSC_STATUS_STATE = 1) :
    Answers (.lscHandoverDone c) s fun t => t.rd Reg.LSC_STATUS_STATE = 2 ∧ t.lsc.vmeas = s.vledMv (c.get 19).val ∧
      t.lsc.set = (c.toList.map (fun k => s.vledMv k.val)).sum * 50 ∧ t.lsc.driven = true ∧ t.lsc.lsen = true := by
  refine ⟨_, exec_lscHandoverDone_of_handover hpowered hhandover, ?_, ?_⟩
  · rw [Fr.rd State.showRamp_fr (by decide) (by decide), Fr.rd State.showPhases_fr rfl (by decide), State.enterControl, State.rd_with_lsc,
      State.rd_wr_self]
    rfl
  · rw [State.showRamp_lsc]
    exact ⟨rfl, rfl, rfl, rfl⟩

theorem exec_lscHandoverDone_elsewhere {c : Vector (Fin 4096) 20} {s : State}
    (hwaits : s.lscPowered = false ∨ s.rd Reg.LSC_STATUS_STATE ≠ 1) : exec (.lscHandoverDone c) s = .next s :=
  congrArg Host.Outcome.next (if_pos (by simpa using hwaits))

/-! LSC_LOOP_UPDATE. -/

/-- A new conversion `v` of VLED: the measured voltage, and the sum and the count of the period (R246, R251). -/
def State.takeVled (s : State) (v : Nat) : State :=
  { s with lsc := { s.lsc with vmeas := v, vsum := s.lsc.vsum + v, vcnt := s.lsc.vcnt + 1 } }

/-- The run of conversions with VLED short of the set point (R254). -/
def State.countShort (s : State) : State := { s with lsc := { s.lsc with uvRun := if s.vledShort then s.lsc.uvRun + 1 else 0 } }

/-- The loop runs in CONTROL only (R244). -/
def State.controlVled (s : State) : State := if s.rd Reg.LSC_STATUS_STATE = 2 then s.voltageLoop else s

theorem exec_lscLoopUpdate_of_powered {c : Fin 4096} {s : State} (hpowered : s.lscPowered = true) :
    exec (.lscLoopUpdate c) s = .next (s.takeVled (s.vledMv c)).slew.countShort.controlVled := by
  refine congrArg Host.Outcome.next (if_neg ?_)
  rw [hpowered]
  decide

theorem exec_lscLoopUpdate_of_unpowered {c : Fin 4096} {s : State} (hoff : s.lscPowered = false) :
    exec (.lscLoopUpdate c) s = .next s :=
  congrArg Host.Outcome.next (if_pos (by rw [hoff]; rfl))

/-- What the record of a period holds of VLED: the latest value, the sum and the count. -/
def Lsc.vled (x : Lsc) : Nat × Nat × Nat := (x.vmeas, x.vsum, x.vcnt)

theorem State.slew_vled (s : State) : s.slew.lsc.vled = s.lsc.vled := by
  unfold State.slew
  dsimp only
  rw [State.showRamp_lsc]
  rfl

theorem State.controlVled_vled (s : State) : s.controlVled.lsc.vled = s.lsc.vled := by
  unfold State.controlVled
  split <;> rfl

/-- The loop writes no register. -/
theorem State.rd_controlVled (s : State) {f : Fld} (hkey : f.key < 2 ^ 37) : s.controlVled.rd f = s.rd f := by
  unfold State.controlVled
  split
  · exact Fr.rd State.voltageLoop_fr rfl hkey
  · rfl

theorem lscLoopUpdate_measures {c : Fin 4096} {s : State} (hpowered : s.lscPowered = true) :
    Answers (.lscLoopUpdate c) s fun t => t.lsc.vmeas = s.vledMv c ∧ t.lsc.vsum = s.lsc.vsum + s.vledMv c ∧
      t.lsc.vcnt = s.lsc.vcnt + 1 ∧ t.rd Reg.LSC_STATUS_STATE = s.rd Reg.LSC_STATUS_STATE := by
  have hvled : (s.takeVled (s.vledMv c)).slew.countShort.controlVled.lsc.vled = (s.takeVled (s.vledMv c)).lsc.vled :=
    (State.controlVled_vled _).trans (State.slew_vled _)
  obtain ⟨hmeas, hsums⟩ := Prod.mk.inj hvled
  obtain ⟨hsum, hcnt⟩ := Prod.mk.inj hsums
  refine ⟨_, exec_lscLoopUpdate_of_powered hpowered, hmeas, hsum, hcnt, ?_⟩
  rw [State.rd_controlVled _ (by decide), State.countShort, State.rd_with_lsc, Fr.rd State.slew_fr (by decide) (by decide),
    State.takeVled, State.rd_with_lsc]

/-! LSC_PHASE_SAMPLE. -/

/-- A new current `i` of a phase: the held value, and its sum and count (R246). -/
def State.takeCurrent (s : State) (ph : Fin 4) (i : Nat) : State :=
  { s with lsc := { s.lsc with
    cur := s.lsc.cur.set ph i, isum := s.lsc.isum.set ph (s.lsc.isum[ph] + i), icnt := s.lsc.icnt.set ph (s.lsc.icnt[ph] + 1) } }

/-- LSC_PHASE_SAMPLE: the sample of a phase in use is held and counted; what CONTROL adds to it (R245) touches neither. -/
theorem exec_lscPhaseSample_takes {ph : Fin 4} {c : Fin 4096} {s : State} (hpowered : s.lscPowered = true) (hused : s.phaseOn ph = true) :
    ∃ t, exec (.lscPhaseSample ph c) s = .next t ∧ t.lsc.cur = (s.takeCurrent ph (s.phaseMa c)).lsc.cur ∧
      t.lsc.icnt = (s.takeCurrent ph (s.phaseMa c)).lsc.icnt := by
  change ∃ t, execLscPhaseSample ph c s = .next t ∧ _
  simp only [execLscPhaseSample, hpowered, hused, Bool.not_true, Bool.or_self, Bool.false_eq_true, ↓reduceIte]
  refine ⟨_, rfl, ?_⟩
  split
  · exact ⟨rfl, rfl⟩
  · exact ⟨rfl, rfl⟩

theorem lscPhaseSample_holds {ph : Fin 4} {c : Fin 4096} {s : State} (hpowered : s.lscPowered = true) (hused : s.phaseOn ph = true) :
    Answers (.lscPhaseSample ph c) s fun t => t.lsc.cur[ph] = s.phaseMa c ∧ t.lsc.icnt[ph] = s.lsc.icnt[ph] + 1 := by
  obtain ⟨t, ht, hcur, hicnt⟩ := exec_lscPhaseSample_takes (c := c) hpowered hused
  refine ⟨t, ht, ?_, ?_⟩
  · rw [hcur]
    exact Vector.getElem_set_self ph.isLt
  · rw [hicnt]
    exact Vector.getElem_set_self ph.isLt

theorem exec_lscPhaseSample_elsewhere {ph : Fin 4} {c : Fin 4096} {s : State} (hunused : s.lscPowered = false ∨ s.phaseOn ph = false) :
    exec (.lscPhaseSample ph c) s = .next s :=
  congrArg Host.Outcome.next (if_pos (by simpa using hunused))

end Sys2Proof.Machine
end

section
/-! SUPPORT. The protections of the stage (spec/10_led_supply.md R254 to R256). -/

namespace Sys2Proof.Machine

/-! PHASE_OVERCURRENT. -/

/-- A cycle of phase `ph` that over-current has ended: its flag, its count and its run (R254). -/
def State.countOvercurrent (s : State) (ph : Fin 4) (again : Bool) : State :=
  let t := (s.wr (Reg.LSC_STATUS_PH_OC ph) 1).inc (Reg.LSC_OC_CNT ph)
  { t with lsc := { s.lsc with ocRun := s.lsc.ocRun.set ph (if again then s.lsc.ocRun[ph] + 1 else 1) } }

theorem exec_phaseOvercurrent_of_driven {ph : Fin 4} {again : Bool} {s : State} (hpowered : s.lscPowered = true)
    (hdriven : s.rd Reg.LSC_STATUS_STATE ≠ 0) : exec (.phaseOvercurrent ph again) s = .next (s.countOvercurrent ph again) :=
  congrArg Host.Outcome.next (if_neg (by simp [hpowered, hdriven]))

theorem exec_phaseOvercurrent_elsewhere {ph : Fin 4} {again : Bool} {s : State}
    (hnone : s.lscPowered = false ∨ s.rd Reg.LSC_STATUS_STATE = 0) : exec (.phaseOvercurrent ph again) s = .next s :=
  congrArg Host.Outcome.next (if_pos (by simpa using hnone))

/-- The flag and the counter of a phase lie in different registers. -/
theorem Reg.LSC_OC_CNT_key_ne (ph : Fin 4) : (Reg.LSC_OC_CNT ph).key ≠ (Reg.LSC_STATUS_PH_OC ph).key :=
  Fld.key_ne (f := Reg.LSC_OC_CNT ph) (g := Reg.LSC_STATUS_PH_OC ph) (by simp only [Reg.LSC_OC_CNT]; omega)
    (by simp only [Reg.LSC_STATUS_PH_OC]; omega) (by simp only [Reg.LSC_OC_CNT, Reg.LSC_STATUS_PH_OC]; decide)

theorem phaseOvercurrent_counts {ph : Fin 4} {again : Bool} {s : State} (hpowered : s.lscPowered = true)
    (hdriven : s.rd Reg.LSC_STATUS_STATE ≠ 0) :
    Answers (.phaseOvercurrent ph again) s fun t => t.rd (Reg.LSC_STATUS_PH_OC ph) = 1 ∧
      t.rd (Reg.LSC_OC_CNT ph) = s.counted (Reg.LSC_OC_CNT ph) ∧ t.lsc.ocRun[ph] = (if again then s.lsc.ocRun[ph] + 1 else 1) := by
  have hne := Reg.LSC_OC_CNT_key_ne ph
  refine ⟨_, exec_phaseOvercurrent_of_driven hpowered hdriven, ?_, ?_, Vector.getElem_set_self ph.isLt⟩
  · rw [State.countOvercurrent, State.rd_with_lsc, State.inc, State.rd_wr_ne _ hne, State.rd_wr_self]
    rfl
  · rw [State.countOvercurrent, State.rd_with_lsc, State.rd_inc_self, State.counted, State.rd_wr_ne _ hne.symm]
    rfl

/-! What one of the four protections does (R254, R256). -/

/-- The status bits of the four protections. -/
def lscFlags : List Fld := [Reg.LSC_STATUS_OV, Reg.LSC_STATUS_OC, Reg.LSC_STATUS_UV, Reg.LSC_STATUS_EXT]

/-- A protection's bit is one bit of its own: neither STATE nor what a release or an event writes. -/
theorem lscFlags_spared : ∀ f ∈ lscFlags, f.width = 1 ∧ f.key ≠ Reg.LSC_STATUS_STATE.key ∧ Keys.any lscReleaseKeys f.key = false ∧
    Keys.any eventKeys f.key = false ∧ f.key < 2 ^ 37 := by decide +kernel

theorem State.rd_wr_lscFlag_self (s : State) {f : Fld} (hf : f ∈ lscFlags) : (s.wr f 1).rd f = 1 := by
  obtain ⟨hbit, -⟩ := lscFlags_spared f hf
  exact (State.rd_wr_self ..).trans (Nat.one_mod_two_pow_eq_one.2 (by omega))

theorem State.rd_wr_lscFlag_state (s : State) {f : Fld} (hf : f ∈ lscFlags) :
    (s.wr f 1).rd Reg.LSC_STATUS_STATE = s.rd Reg.LSC_STATUS_STATE := by
  obtain ⟨-, hstate, -⟩ := lscFlags_spared f hf
  exact State.rd_wr_ne s hstate 1

theorem State.rd_raise (s : State) (src addr : Nat) {f : Fld} (hkey : f.key < 2 ^ 37) : (s.raise src addr).rd f = s.rd f :=
  Fr.rd State.raise_fr rfl hkey

/-- A stage that is not released: the flag, the release, event 84 and the fault. -/
theorem State.lscTrip_of_driven {s : State} {f : Fld} {src : Nat} (hpowered : s.lscPowered = true)
    (hdriven : s.rd Reg.LSC_STATUS_STATE ≠ 0) :
    s.lscTrip f src = (((s.wr f 1).lscRelease).fire 84).raise src 0x200E0004 := by
  simp only [State.lscTrip, hpowered, hdriven, Bool.not_true, Bool.false_eq_true, ↓reduceIte]

/-- A released stage: the flag and the fault, once. -/
theorem State.lscTrip_of_released {s : State} {f : Fld} {src : Nat} (hpowered : s.lscPowered = true)
    (hreleased : s.rd Reg.LSC_STATUS_STATE = 0) :
    s.lscTrip f src = if s.on f then s else (s.wr f 1).raise src 0x200E0004 := by
  simp only [State.lscTrip, hpowered, hreleased, Bool.not_true, Bool.false_eq_true, ↓reduceIte]

theorem State.lscTrip_of_unpowered {s : State} {f : Fld} {src : Nat} (hoff : s.lscPowered = false) : s.lscTrip f src = s :=
  if_pos (by rw [hoff]; rfl)

section
variable {c : Instr} {s : State} {f : Fld} {src : Nat}

theorem lscTrip_releases (hc : exec c s = .next (s.lscTrip f src)) (hf : f ∈ lscFlags) (hsrc : ¬ (48 ≤ src ∧ src ≤ 54))
    (hpowered : s.lscPowered = true) (hdriven : s.rd Reg.LSC_STATUS_STATE ≠ 0) :
    Answers c s fun t => t.rd f = 1 ∧ t.rd Reg.LSC_STATUS_STATE = 0 ∧ t.rd Reg.LSC_CTRL_EN = 0 ∧ t.fired 84 ∧ t.hasRaised src := by
  obtain ⟨-, -, hrelease, hevent, hkey⟩ := lscFlags_spared f hf
  obtain ⟨hen, hstate⟩ := (s.wr f 1).rd_lscRelease
  refine ⟨_, hc.trans (congrArg Host.Outcome.next (State.lscTrip_of_driven hpowered hdriven)), ?_, ?_, ?_, ?_,
    State.raise_hasRaised _ _ _ hsrc⟩
  · rw [State.rd_raise _ _ _ hkey, (State.fire_frame _ _).rd hevent hkey, (State.lscRelease_frame _).rd hrelease hkey]
    exact s.rd_wr_lscFlag_self hf
  · rw [State.rd_raise _ _ _ (by decide), (State.fire_frame _ _).rd (by decide) (by decide), hstate]
  · rw [State.rd_raise _ _ _ (by decide), (State.fire_frame _ _).rd (by decide) (by decide), hen]
  · rw [State.fired, State.on, State.rd_raise _ _ _ (by decide)]
    exact State.fired_fire _ 84

theorem lscTrip_flags (hc : exec c s = .next (s.lscTrip f src)) (hf : f ∈ lscFlags) (hsrc : ¬ (48 ≤ src ∧ src ≤ 54))
    (hpowered : s.lscPowered = true) (hreleased : s.rd Reg.LSC_STATUS_STATE = 0) (hnew : s.on f = false) :
    Answers c s fun t => t.rd f = 1 ∧ t.rd Reg.LSC_STATUS_STATE = 0 ∧ t.hasRaised src := by
  obtain ⟨-, -, -, -, hkey⟩ := lscFlags_spared f hf
  have htrip := State.lscTrip_of_released (f := f) (src := src) hpowered hreleased
  rw [hnew] at htrip
  refine ⟨_, hc.trans (congrArg Host.Outcome.next htrip), ?_, ?_, State.raise_hasRaised _ _ _ hsrc⟩
  · exact (State.rd_raise _ _ _ hkey).trans (s.rd_wr_lscFlag_self hf)
  · exact (State.rd_raise _ _ _ (by decide)).trans ((s.rd_wr_lscFlag_state hf).trans hreleased)

theorem exec_lscTrip_of_flagged (hc : exec c s = .next (s.lscTrip f src)) (hpowered : s.lscPowered = true)
    (hreleased : s.rd Reg.LSC_STATUS_STATE = 0) (hflagged : s.on f = true) : exec c s = .next s := by
  rw [hc, State.lscTrip_of_released hpowered hreleased, if_pos hflagged]

theorem exec_lscTrip_of_unpowered (hc : exec c s = .next (s.lscTrip f src)) (hoff : s.lscPowered = false) : exec c s = .next s := by
  rw [hc, State.lscTrip_of_unpowered hoff]

end

/-- A phase has a run of OC_CNT over-current cycles. -/
def State.ocPersists (s : State) : Bool := s.lsc.ocRun.toList.any (fun n => decide (max 1 (s.rd Reg.LSC_PROT1_OC_CNT) ≤ n))

/-- VLED has been short for UV_US. -/
def State.uvPersists (s : State) : Bool := decide (max 1 (s.rd Reg.LSC_PROT0_UV_US) * 10 ≤ s.lsc.uvRun)

theorem exec_persistentOvercurrent_of_run {s : State} (hrun : s.ocPersists = true) :
    exec .persistentOvercurrent s = .next (s.lscTrip Reg.LSC_STATUS_OC FLT_LSC_OC) := congrArg Host.Outcome.next (if_pos hrun)

theorem exec_persistentOvercurrent_of_no_run {s : State} (hnone : s.ocPersists = false) : exec .persistentOvercurrent s = .next s :=
  congrArg Host.Outcome.next (if_neg (Bool.eq_false_iff.1 hnone))

theorem exec_persistentOvercurrent_of_unpowered {s : State} (hoff : s.lscPowered = false) : exec .persistentOvercurrent s = .next s := by
  cases hrun : s.ocPersists with
  | true => exact exec_lscTrip_of_unpowered (exec_persistentOvercurrent_of_run hrun) hoff
  | false => exact exec_persistentOvercurrent_of_no_run hrun

theorem exec_underVoltage_of_run {s : State} (hrun : s.uvPersists = true) :
    exec .underVoltage s = .next (s.lscTrip Reg.LSC_STATUS_UV FLT_LSC_UV) := congrArg Host.Outcome.next (if_pos (of_decide_eq_true hrun))

theorem exec_underVoltage_of_no_run {s : State} (hnone : s.uvPersists = false) : exec .underVoltage s = .next s :=
  congrArg Host.Outcome.next (if_neg (of_decide_eq_false hnone))

theorem exec_underVoltage_of_unpowered {s : State} (hoff : s.lscPowered = false) : exec .underVoltage s = .next s := by
  cases hrun : s.uvPersists with
  | true => exact exec_lscTrip_of_unpowered (exec_underVoltage_of_run hrun) hoff
  | false => exact exec_underVoltage_of_no_run hrun

/-- Settles O50: each clause is the rule of its command; the four protections share one rule for their release. -/
theorem ledSupplyStates : Obligations.LedSupplyStates := by
  unfold Obligations.LedSupplyStates
  refine ⟨?enableTakes, ?enableRefused, ?enableReleases, ?release, ?handover, ?handoverOff, ?handoverElsewhere, ?loopOff, ?loopMeasures,
    ?sampleHolds, ?sampleNone, ?phaseCounts, ?phaseOff, ?phaseReleased, ?ocReleases, ?ocFlags, ?ocFlagged, ?ocNone, ?ocOff,
    ?ovReleases, ?ovFlags, ?ovFlagged, ?ovOff, ?uvReleases, ?uvFlags, ?uvFlagged, ?uvNone, ?uvOff, ?extReleases, ?extFlags, ?extFlagged,
    ?extOff⟩
  case enableTakes => exact fun _ _ _ haccepts hset hreleased hlead hclean => lscEnable_takes haccepts hset hreleased hlead hclean
  case enableRefused => exact fun _ _ _ haccepts hset hreleased hbarred => lscEnable_refused haccepts hset hreleased hbarred
  case enableReleases => exact fun _ _ _ haccepts hclear => lscEnable_releases haccepts hclear
  case release => exact lscRelease_releases
  case handover => exact fun _ _ hpowered hhandover => lscHandoverDone_controls hpowered hhandover
  case handoverOff => exact fun _ _ hoff => ⟨_, exec_lscHandoverDone_elsewhere (.inl hoff), rfl⟩
  case handoverElsewhere => exact fun _ _ hstate => ⟨_, exec_lscHandoverDone_elsewhere (.inr hstate), rfl⟩
  case loopOff => exact fun _ _ hoff => ⟨_, exec_lscLoopUpdate_of_unpowered hoff, rfl⟩
  case loopMeasures => exact fun _ _ hpowered => lscLoopUpdate_measures hpowered
  case sampleHolds => exact fun _ _ _ hpowered hused => lscPhaseSample_holds hpowered hused
  case sampleNone => exact fun _ _ _ hunused => ⟨_, exec_lscPhaseSample_elsewhere hunused, rfl⟩
  case phaseCounts => exact fun _ _ _ hpowered hdriven => phaseOvercurrent_counts hpowered hdriven
  case phaseOff => exact fun _ _ _ hoff => ⟨_, exec_phaseOvercurrent_elsewhere (.inl hoff), rfl⟩
  case phaseReleased => exact fun _ _ _ hreleased => ⟨_, exec_phaseOvercurrent_elsewhere (.inr hreleased), rfl⟩
  case ocReleases =>
    exact fun _ hdriven hpowered hrun =>
      lscTrip_releases (exec_persistentOvercurrent_of_run hrun) (by decide) (by decide) hpowered hdriven
  case ocFlags =>
    exact fun _ hreleased hnew hpowered hrun =>
      lscTrip_flags (exec_persistentOvercurrent_of_run hrun) (by decide) (by decide) hpowered hreleased hnew
  case ocFlagged =>
    exact fun _ hreleased hflagged hpowered hrun =>
      ⟨_, exec_lscTrip_of_flagged (exec_persistentOvercurrent_of_run hrun) hpowered hreleased hflagged, rfl⟩
  case ocNone => exact fun _ hnone => ⟨_, exec_persistentOvercurrent_of_no_run hnone, rfl⟩
  case ocOff => exact fun _ hoff => ⟨_, exec_persistentOvercurrent_of_unpowered hoff, rfl⟩
  case ovReleases => exact fun _ hdriven hpowered => lscTrip_releases rfl (by decide) (by decide) hpowered hdriven
  case ovFlags => exact fun _ hreleased hnew hpowered => lscTrip_flags rfl (by decide) (by decide) hpowered hreleased hnew
  case ovFlagged => exact fun _ hreleased hflagged hpowered => ⟨_, exec_lscTrip_of_flagged rfl hpowered hreleased hflagged, rfl⟩
  case ovOff => exact fun _ hoff => ⟨_, exec_lscTrip_of_unpowered rfl hoff, rfl⟩
  case uvReleases =>
    exact fun _ hdriven hpowered hrun => lscTrip_releases (exec_underVoltage_of_run hrun) (by decide) (by decide) hpowered hdriven
  case uvFlags =>
    exact fun _ hreleased hnew hpowered hrun =>
      lscTrip_flags (exec_underVoltage_of_run hrun) (by decide) (by decide) hpowered hreleased hnew
  case uvFlagged =>
    exact fun _ hreleased hflagged hpowered hrun =>
      ⟨_, exec_lscTrip_of_flagged (exec_underVoltage_of_run hrun) hpowered hreleased hflagged, rfl⟩
  case uvNone => exact fun _ hnone => ⟨_, exec_underVoltage_of_no_run hnone, rfl⟩
  case uvOff => exact fun _ hoff => ⟨_, exec_underVoltage_of_unpowered hoff, rfl⟩
  case extReleases => exact fun _ hdriven hpowered => lscTrip_releases rfl (by decide) (by decide) hpowered hdriven
  case extFlags => exact fun _ hreleased hnew hpowered => lscTrip_flags rfl (by decide) (by decide) hpowered hreleased hnew
  case extFlagged => exact fun _ hreleased hflagged hpowered => ⟨_, exec_lscTrip_of_flagged rfl hpowered hreleased hflagged, rfl⟩
  case extOff => exact fun _ hoff => ⟨_, exec_lscTrip_of_unpowered rfl hoff, rfl⟩

end Sys2Proof.Machine
end

section
/-! SUPPORT. FINISH of an external calibration procedure on a unit that has become the understudy (spec/12_calibration.md R284;
spec/18_pair.md R426). -/

namespace Sys2Proof.Machine

/-- CAL_EXT_FINISH: on the understudy of a pair an accepted write only stores its word. -/
theorem exec_calExtFinish_of_understudy {m : Master} {v : Word} {s : State} (haccepts : s.accepts m 0x20100050)
    (hled : (s.stored m 0x20100050 v).understudy = true) : exec (.calExtFinish m v) s = .next (s.stored m 0x20100050 v) := by
  refine congrArg Host.Outcome.next ((State.busWrite_accepts haccepts).trans (if_pos ?_))
  rw [hled, Bool.or_true]

/-- Four steps, the first without light, whose reference current is the measured one. -/
def fourSteps : List ExtStep :=
  [{}, { x := 2 ^ 32, y := 4096, i := 4096 }, { x := 2 ^ 33, y := 8192, i := 8192 }, { x := 3 * 2 ^ 32, y := 12288, i := 12288 }]

/-- A procedure with four finished steps is in progress on a unit that has since become the understudy of a formed pair. -/
def ledProcedure : State :=
  { ((State.reset.wr Reg.PAIR_CTRL_EN 1).wr Reg.PAIR_STATUS_STATE 2).wr Reg.CAL_EXT_STATUS_BUSY 1 with
    cal := { steps := fourSteps }, pair := { decided := true } }

theorem ledProcedure_accepts : ledProcedure.accepts (.engine 0) 0x20100050 := by decide +kernel

/-- FINISH at `ledProcedure` leaves EXT_DONE 0. -/
theorem exec_calExtFinish_ledProcedure :
    ∃ t, exec (.calExtFinish (.engine 0) 4) ledProcedure = .next t ∧ t.rd Reg.CAL_EXT_STATUS_EXT_DONE = 0 :=
  ⟨_, exec_calExtFinish_of_understudy ledProcedure_accepts (by decide +kernel),
    (State.stored_rd (by decide +kernel) (by decide +kernel) (by decide)).trans (by decide +kernel)⟩

/-- The steps of `ledProcedure` pass every check of FINISH, with ki 4096 and i0 0. -/
theorem ledProcedure_passes :
    ((ledProcedure.stored (.engine 0) 0x20100050 4).calEval (ledProcedure.cal.steps.map (fun e => (e.x / 16, e.i / 16))) false).1 =
      .passed 4096 0 := by decide +kernel

/-- Refutes O6 in its clause of CAL_EXT_FINISH: its premises leave out that the unit is no understudy, which runs no external procedure (R426).
With a procedure in progress that passes every check, FINISH on the understudy of a formed pair does not set EXT_DONE. -/
theorem not_completionThermalAndCalibration : ¬ Obligations.CompletionThermalAndCalibration := by
  unfold Obligations.CompletionThermalAndCalibration
  intro h
  obtain ⟨-, -, -, -, -, -, -, -, -, -, -, -, -, -, -, -, -, -, -, -, -, -, hfinish, -⟩ := h ledProcedure ledProcedure (.engine 0) 4 0
  obtain ⟨t, ht, hdone⟩ := hfinish 4096 0 ledProcedure_accepts (by decide) (by decide +kernel) (by decide) (by decide) (by decide +kernel)
    (by decide +kernel) ledProcedure_passes (by decide)
  obtain ⟨u, hu, hleft⟩ := exec_calExtFinish_ledProcedure
  cases hu.symm.trans ht
  exact absurd (hleft.symm.trans hdone) (by decide)

end Sys2Proof.Machine
end

section
/-! SUPPORT. k_tot at a tick of the thermal model (spec/11_thermal.md R268). -/

namespace Sys2Proof.Machine

/-- What every pass of `forFin` keeps holds at its end. -/
theorem State.forFin_keeps {n : Nat} {f : Fin n → State → State} (P : State → Prop) (hf : ∀ i t, P t → P (f i t)) {s : State} (h : P s) :
    P (s.forFin f) := by
  unfold State.forFin
  induction List.finRange n generalizing s with
  | nil => exact h
  | cons i is ih => exact ih (hf i s h)

/-- Each k_z goes by one step where ZTHR_EN is live (R267). -/
def State.tickZones (s : State) : State :=
  if s.lv Reg.THM_CTRL_ZTHR_EN = 0 then s else s.forFin fun (g : Fin 192) s =>
    s.setZone g { s.thm.zone[g] with
      kz := tickZone (s.thm.zone[g]).kz (s.thm.zone[g]).tj (s.lv Reg.THM_THR_T_LO) (s.lv Reg.THM_THR_T_HI) }

/-- k_tot goes by one step where TTHR_EN is live and a limit is set (R268). -/
def State.tickKtot (s : State) : State :=
  if s.lv Reg.THM_CTRL_TTHR_EN == 0 || s.lv Reg.THM_LIMIT_PTOT_MAX == 0 then s
  else s.wr Reg.THM_STATUS_KTOT (tickTotal (s.rd Reg.THM_STATUS_KTOT) s.thm.power (s.lv Reg.THM_LIMIT_PTOT_MAX))

/-- THM_TICK of an enabled model, after 100 steps. -/
theorem exec_thmTick_acts {s : State} (hon : s.on Reg.THM_CTRL_EN = true) (hsteps : 100 ≤ s.thm.steps) :
    exec .thmTick s = .next ({ s with thm := { s.thm with steps := 0 } }.tickZones.tickKtot.limitZones) :=
  congrArg Host.Outcome.next (if_neg (by simp [hon, hsteps]))

/-- The zones' ticks change neither a register, nor a live copy, nor the power of the latest steps. -/
theorem State.tickZones_keeps (s : State) : s.tickZones.regs = s.regs ∧ s.tickZones.live = s.live ∧ s.tickZones.thm.power = s.thm.power := by
  unfold State.tickZones
  split
  · exact ⟨rfl, rfl, rfl⟩
  · refine State.forFin_keeps (fun t => t.regs = s.regs ∧ t.live = s.live ∧ t.thm.power = s.thm.power) (fun _ _ h => ?_) ⟨rfl, rfl, rfl⟩
    exact h

/-- A tick with TTHR_EN live and a limit takes k_tot one step, cut to the eight bits of its field. -/
theorem thmTick_ktot {s : State} (hon : s.on Reg.THM_CTRL_EN = true) (hsteps : 100 ≤ s.thm.steps) (htotal : s.lv Reg.THM_CTRL_TTHR_EN ≠ 0)
    (hlimit : s.lv Reg.THM_LIMIT_PTOT_MAX ≠ 0) :
    Answers .thmTick s fun t => t.rd Reg.THM_STATUS_KTOT =
      tickTotal (s.rd Reg.THM_STATUS_KTOT) s.thm.power (s.lv Reg.THM_LIMIT_PTOT_MAX) % 2 ^ 8 := by
  refine ⟨_, exec_thmTick_acts hon hsteps, (Fr.rd State.limitZones_fr (by decide) (by decide)).trans ?_⟩
  obtain ⟨hregs, hlive, hpower⟩ := State.tickZones_keeps { s with thm := { s.thm with steps := 0 } }
  have hrd : ∀ f, ({ s with thm := { s.thm with steps := 0 } } : State).tickZones.rd f = s.rd f := fun f => congrArg (RegFile.get · f) hregs
  have hlv : ∀ f, ({ s with thm := { s.thm with steps := 0 } } : State).tickZones.lv f = s.lv f := fun f => congrArg (RegFile.get · f) hlive
  rw [State.tickKtot, hlv, hlv, if_neg (by simp [htotal, hlimit]), State.rd_wr_self, hrd, hpower]
  rfl

/-- An enabled model with a limit is due for its tick, and the register file lists 300 for KTOT, which has eight bits. -/
def wideKtot : State :=
  { State.reset with
    regs := [(Reg.THM_CTRL_EN.key, 1), (Reg.THM_STATUS_KTOT.key, 300)]
    live := [(Reg.THM_CTRL_TTHR_EN.key, 1), (Reg.THM_LIMIT_PTOT_MAX.key, 1)]
    thm := { steps := 100 } }

/-- The canonical forms that every step keeps do not exclude `wideKtot`: they order the keys and do not bound the values. -/
theorem wideKtot_wf : wideKtot.wf = true := by decide

/-- Refutes O51 in its clause of k_tot: it equates KTOT with the uncut value of a tick in every state, and a state is free to list a value that
is wider than the field (`wideKtot_wf`). With 300 listed and no power recorded, the tick keeps k_tot, and the write leaves 300 mod 2^8 = 44. -/
theorem not_thermalModelAndDie : ¬ Obligations.ThermalModelAndDie := by
  unfold Obligations.ThermalModelAndDie
  intro h
  obtain ⟨-, -, -, -, -, -, -, -, hktot, -⟩ := h
  obtain ⟨t, ht, huncut⟩ := hktot wideKtot (by decide) (by decide) (by decide) (by decide)
  obtain ⟨u, hu, hcut⟩ := thmTick_ktot (s := wideKtot) (by decide) (by decide) (by decide) (by decide)
  cases hu.symm.trans ht
  exact absurd (hcut.symm.trans huncut) (by decide)

end Sys2Proof.Machine
end

section
/-! SUPPORT. The correction measurement of CAL: its enable and its end (spec/12_calibration.md R277, R278). -/

namespace Sys2Proof.Machine

/-- An event that fires leaves every field that is none of `eventKeys`. -/
theorem State.rd_fire (s : State) (n : Nat) {f : Fld} (hf : Keys.any eventKeys f.key = false) (hkey : f.key < 2 ^ 37) :
    (s.fire n).rd f = s.rd f := (s.fire_frame n).rd hf hkey

theorem State.fire_cal (s : State) (n : Nat) : (s.fire n).cal = s.cal := (s.fire_frame n).zones .cal (by decide)

/-- A write of CAL_CTRL leaves EN to its command, and RUN. -/
theorem State.on_stored_calCtrl (s : State) (m : Master) (v : Word) :
    (s.stored m 0x20100000 v).on Reg.CAL_CTRL_EN = s.on Reg.CAL_CTRL_EN ∧
      (s.stored m 0x20100000 v).on Reg.CAL_STATUS_RUN = s.on Reg.CAL_STATUS_RUN :=
  ⟨congrArg (· != 0) (State.stored_rd (by decide +kernel) (by decide) (by decide)),
    congrArg (· != 0) (State.stored_rd (by decide +kernel) (by decide) (by decide))⟩

theorem State.stored_calCtrl_cal (s : State) (m : Master) (v : Word) : (s.stored m 0x20100000 v).cal = s.cal :=
  (State.stored_fr (by decide)).zones .cal (by decide)

/-- EN goes to a bit, and the correction measurement is asked for with it or forgotten. -/
def State.calSwitched (s : State) (en : Bool) : State := { s.wr Reg.CAL_CTRL_EN (b2n en) with cal := { s.cal with corr := en } }

theorem State.rd_calSwitched_en (s : State) (en : Bool) : (s.calSwitched en).rd Reg.CAL_CTRL_EN = b2n en :=
  (State.rd_wr_self ..).trans (Nat.mod_eq_of_lt (b2n_lt_two en))

/-- CAL_ENABLE: an accepted write that clears EN, or sets it on a disabled block, switches CAL. -/
theorem exec_calEnable_switches {m : Master} {v : Word} {s : State} {en : Bool} (haccepts : s.accepts m 0x20100000)
    (hbit : v.toNat.testBit 0 = en) (hnew : en = true → s.on Reg.CAL_CTRL_EN = false) :
    exec (.calEnable m v) s = .next ((s.stored m 0x20100000 v).calSwitched en) := by
  refine congrArg Host.Outcome.next ((State.busWrite_accepts haccepts).trans ?_)
  obtain ⟨hen, -⟩ := s.on_stored_calCtrl m v
  cases en with
  | false => exact if_neg (Bool.eq_false_iff.1 hbit)
  | true => exact (if_pos hbit).trans (if_neg (Bool.eq_false_iff.1 (hen.trans (hnew rfl))))

theorem calEnable_switches {m : Master} {v : Word} {s : State} {en : Bool} (haccepts : s.accepts m 0x20100000)
    (hbit : v.toNat.testBit 0 = en) (hnew : en = true → s.on Reg.CAL_CTRL_EN = false) :
    Answers (.calEnable m v) s fun t => t.rd Reg.CAL_CTRL_EN = b2n en ∧ t.cal.corr = en :=
  ⟨_, exec_calEnable_switches haccepts hbit hnew, State.rd_calSwitched_en .., rfl⟩

/-- The old pair has corrected the CALP/CALN conversions `l`, and the measurement waits no more. -/
def State.corrTaken (s : State) (l : List (Fin 4096)) : State := { s with cal := { s.cal with corr := false, calp := s.calpTaken l } }

/-- The measurement of the ranges leaves ADC_VALID. -/
theorem State.on_adcRanges_valid (s : State) (z c : List (BitVec 18)) :
    (s.adcRanges z c).on Reg.CAL_STATUS_ADC_VALID = s.on Reg.CAL_STATUS_ADC_VALID :=
  congrArg (· != 0) (Fr.rd State.adcRanges_fr (by decide) (by decide))

/-- ADC_CORR_DONE: with every range right and ADC_VALID clear, ADC_VALID is set and its event fires. -/
theorem exec_adcCorrDone_valid {z c : List (BitVec 18)} {l : List (Fin 4096)} {s : State} (hwaits : s.cal.corr = true)
    (hall : ((s.corrTaken l).adcRanges z c).adcAllOk = true) (hnew : s.on Reg.CAL_STATUS_ADC_VALID = false) :
    exec (.adcCorrDone z c l) s = .next ((((s.corrTaken l).adcRanges z c).wr Reg.CAL_STATUS_ADC_VALID 1).fire 89) := by
  have hclear : ((s.corrTaken l).adcRanges z c).on Reg.CAL_STATUS_ADC_VALID = false := (State.on_adcRanges_valid ..).trans hnew
  refine congrArg Host.Outcome.next ((if_neg (by rw [hwaits]; decide)).trans (if_pos ?_))
  exact Bool.and_eq_true_iff.2 ⟨hall, congrArg not hclear⟩

theorem adcCorrDone_valid {z c : List (BitVec 18)} {l : List (Fin 4096)} {s : State} (hwaits : s.cal.corr = true)
    (hall : ((s.corrTaken l).adcRanges z c).adcAllOk = true) (hnew : s.on Reg.CAL_STATUS_ADC_VALID = false) :
    Answers (.adcCorrDone z c l) s fun t => t.rd Reg.CAL_STATUS_ADC_VALID = 1 ∧ t.fired 89 :=
  ⟨_, exec_adcCorrDone_valid hwaits hall hnew, (State.rd_fire _ _ (by decide) (by decide)).trans (State.rd_wr_self ..), State.fired_fire _ 89⟩

end Sys2Proof.Machine
end

section
/-! SUPPORT. The runs of CAL, their end at RUN_TMO, and the automatic save (spec/12_calibration.md R280 to R283). -/

namespace Sys2Proof.Machine

/-- A run collects, with no samples yet. -/
def State.calRunning (s : State) : State :=
  { (s.wr Reg.CAL_STATUS_RUN 1).wr Reg.CAL_STATUS_BLOCK 0 with cal := { s.cal with samples := [] } }

theorem State.rd_calRunning (s : State) : s.calRunning.rd Reg.CAL_STATUS_RUN = 1 ∧ s.calRunning.rd Reg.CAL_STATUS_BLOCK = 0 := by
  constructor
  · rw [State.calRunning, State.rd_with_cal, State.rd_wr_ne _ (by decide), State.rd_wr_self]
    rfl
  · rw [State.calRunning, State.rd_with_cal, State.rd_wr_self]
    rfl

/-- A trigger starts a run on an enabled block that runs none and is no understudy. -/
theorem State.calRun_starts {s : State} (hidle : s.on Reg.CAL_STATUS_RUN = false) (hon : s.on Reg.CAL_CTRL_EN = true)
    (hlead : s.understudy = false) : s.calRun = s.calRunning :=
  if_neg (by rw [hidle, hon, hlead]; decide)

/-! CAL_START. -/

/-- START reads what RUN does. -/
theorem exec_calStart_runs {m : Master} {v : Word} {s : State} (haccepts : s.accepts m 0x20100000) (hset : v.toNat.testBit 1 = true)
    (hidle : s.on Reg.CAL_STATUS_RUN = false) (hon : s.on Reg.CAL_CTRL_EN = true)
    (hlead : (s.stored m 0x20100000 v).understudy = false) :
    exec (.calStart m v) s = .next ((s.stored m 0x20100000 v).calRunning.wr Reg.CAL_CTRL_START 1) := by
  obtain ⟨hen, hrun⟩ := s.on_stored_calCtrl m v
  have hstarts := State.calRun_starts (hrun.trans hidle) (hen.trans hon) hlead
  obtain ⟨hrunning, -⟩ := (s.stored m 0x20100000 v).rd_calRunning
  change execCalStart m v s = _
  simp only [execCalStart, State.busWrite_accepts haccepts, hset, hrun, hidle, hstarts, hrunning, Bool.not_true, Bool.false_eq_true,
    ↓reduceIte]

theorem calStart_runs {m : Master} {v : Word} {s : State} (haccepts : s.accepts m 0x20100000) (hset : v.toNat.testBit 1 = true)
    (hidle : s.on Reg.CAL_STATUS_RUN = false) (hon : s.on Reg.CAL_CTRL_EN = true)
    (hlead : (s.stored m 0x20100000 v).understudy = false) :
    Answers (.calStart m v) s fun t => t.rd Reg.CAL_STATUS_RUN = 1 ∧ t.rd Reg.CAL_CTRL_START = 1 ∧ t.rd Reg.CAL_STATUS_BLOCK = 0 ∧
      t.cal.samples = [] := by
  obtain ⟨hrun, hblock⟩ := (s.stored m 0x20100000 v).rd_calRunning
  exact ⟨_, exec_calStart_runs haccepts hset hidle hon hlead, (State.rd_wr_ne _ (by decide) _).trans hrun, State.rd_wr_self ..,
    (State.rd_wr_ne _ (by decide) _).trans hblock, rfl⟩

theorem State.werr_calCtrl (s : State) : s.werr 0x20100000 = (s.wr Reg.CAL_STATUS_WERR 1).fire 91 := rfl

theorem exec_calStart_refused {m : Master} {v : Word} {s : State} (haccepts : s.accepts m 0x20100000) (hset : v.toNat.testBit 1 = true)
    (hruns : s.on Reg.CAL_STATUS_RUN = true) :
    exec (.calStart m v) s = .next (((s.stored m 0x20100000 v).wr Reg.CAL_STATUS_WERR 1).fire 91) := by
  obtain ⟨-, hrun⟩ := s.on_stored_calCtrl m v
  refine congrArg Host.Outcome.next ((State.busWrite_accepts haccepts).trans ((if_neg (by rw [hset]; decide)).trans ?_))
  exact (if_pos (hrun.trans hruns)).trans (State.werr_calCtrl _)

theorem calStart_refused {m : Master} {v : Word} {s : State} (haccepts : s.accepts m 0x20100000) (hset : v.toNat.testBit 1 = true)
    (hruns : s.on Reg.CAL_STATUS_RUN = true) :
    Answers (.calStart m v) s fun t => t.rd Reg.CAL_STATUS_WERR = 1 ∧ t.fired 91 ∧ t.cal = s.cal :=
  ⟨_, exec_calStart_refused haccepts hset hruns, (State.rd_fire _ _ (by decide) (by decide)).trans (State.rd_wr_self ..),
    State.fired_fire _ 91, (State.fire_cal ..).trans (s.stored_calCtrl_cal m v)⟩

/-! The interval and the temperature trigger. -/

/-- A command that is a trigger of a run starts one where none is in progress. -/
theorem calTrigger_runs {c : Instr} {s : State} (hc : exec c s = .next s.calRun) (hidle : s.on Reg.CAL_STATUS_RUN = false)
    (hon : s.on Reg.CAL_CTRL_EN = true) (hlead : s.understudy = false) :
    Answers c s fun t => t.rd Reg.CAL_STATUS_RUN = 1 ∧ t.rd Reg.CAL_STATUS_BLOCK = 0 ∧ t.cal.samples = [] := by
  obtain ⟨hrun, hblock⟩ := s.rd_calRunning
  exact ⟨_, hc.trans (congrArg Host.Outcome.next (State.calRun_starts hidle hon hlead)), hrun, hblock, rfl⟩

theorem exec_calIntervalTimer_due {s : State} (hdue : s.on Reg.CAL_TRIG_INTERVAL = true) : exec .calIntervalTimer s = .next s.calRun :=
  congrArg Host.Outcome.next (if_pos hdue)

theorem exec_calIntervalTimer_off {s : State} (hoff : s.on Reg.CAL_TRIG_INTERVAL = false) : exec .calIntervalTimer s = .next s :=
  congrArg Host.Outcome.next (if_neg (Bool.eq_false_iff.1 hoff))

/-- The mean temperature has moved by more than DT since the last success. -/
def State.calDrifted (s : State) (x : Int) : Prop :=
  max 1 (s.rd Reg.CAL_TRIG_DT) * 256 < (x - signed 16 (s.rd Reg.CAL_LAST_TEMP_TEMP)).natAbs

theorem exec_calTempCheck_drifted {s : State} {x : Int} (htm : s.tm = some x) (htrig : s.on Reg.CAL_CTRL_TEMP_TRIG = true)
    (hvalid : s.on Reg.CAL_STATUS_KI_VALID = true) (hdrift : s.calDrifted x) : exec .calTempCheck s = .next s.calRun := by
  change execCalTempCheck s = _
  simp only [execCalTempCheck, htm]
  exact congrArg Host.Outcome.next (if_pos (by rw [htrig, hvalid]; exact decide_eq_true hdrift))

theorem exec_calTempCheck_unmapped {s : State} (htm : s.tm = none) : exec .calTempCheck s = .next s := by
  change execCalTempCheck s = _
  simp only [execCalTempCheck, htm]

/-! CAL_RUN_TIMEOUT. -/

theorem State.rd_calEnd_run (s : State) : s.calEnd.rd Reg.CAL_STATUS_RUN = 0 := by
  rw [State.calEnd, State.rd_with_cal, State.rd_wr_ne _ (by decide), State.rd_wr_ne _ (by decide), State.rd_wr_self]
  rfl

theorem exec_calRunTimeout_of_run {s : State} (hruns : s.on Reg.CAL_STATUS_RUN = true) :
    exec .calRunTimeout s = .next (((s.calEnd.wr Reg.CAL_STATUS_INSUFF 1).fire 88).raise FLT_CAL_INSUFF 0x20100004) :=
  congrArg Host.Outcome.next (if_pos hruns)

theorem exec_calRunTimeout_of_idle {s : State} (hidle : s.on Reg.CAL_STATUS_RUN = false) : exec .calRunTimeout s = .next s :=
  congrArg Host.Outcome.next (if_neg (Bool.eq_false_iff.1 hidle))

theorem calRunTimeout_ends {s : State} (hruns : s.on Reg.CAL_STATUS_RUN = true) :
    Answers .calRunTimeout s fun t => t.rd Reg.CAL_STATUS_RUN = 0 ∧ t.rd Reg.CAL_STATUS_INSUFF = 1 ∧ t.fired 88 ∧
      t.hasRaised FLT_CAL_INSUFF ∧ t.cal.samples = [] := by
  refine ⟨_, exec_calRunTimeout_of_run hruns, ?_, ?_, ?_, State.raise_hasRaised _ _ _ (by decide), ?_⟩
  · rw [State.rd_raise _ _ _ (by decide), State.rd_fire _ _ (by decide) (by decide), State.rd_wr_ne _ (by decide)]
    exact s.rd_calEnd_run
  · rw [State.rd_raise _ _ _ (by decide), State.rd_fire _ _ (by decide) (by decide)]
    exact State.rd_wr_self ..
  · rw [State.fired, State.on, State.rd_raise _ _ _ (by decide)]
    exact State.fired_fire _ 88
  · exact congrArg Cal.samples ((State.raise_fr.zones .cal (by decide)).trans (State.fire_cal ..))

/-! AUTO_SAVE_WRITE. -/

/-- The automatic save is no more due. -/
def State.autoTaken (s : State) : State := { s with cal := { s.cal with autoDue := false } }

/-- AUTO_SAVE_WRITE: a save that is due, with the store idle and no thermal shutdown, begins the write of record 1. -/
theorem exec_autoSaveWrite_begins {s : State} (hdue : s.cal.autoDue = true) (hidle : s.on Reg.CAL_NV_STATUS_NV_BUSY = false)
    (hcool : s.thm.shut = false) :
    exec .autoSaveWrite s = .next (s.autoTaken.nvBegin { write := true, id := 1, data := s.autoTaken.calRecord, auto := true }) :=
  congrArg Host.Outcome.next ((if_neg (by rw [hdue, hidle]; decide)).trans (if_neg (Bool.eq_false_iff.1 hcool)))

theorem exec_autoSaveWrite_of_none {s : State} (hnone : s.cal.autoDue = false) : exec .autoSaveWrite s = .next s :=
  congrArg Host.Outcome.next (if_pos (by rw [hnone]; rfl))

/-- The store is busy with a write that has begun. -/
theorem State.rd_nvBegin_busy (s : State) (o : NvOp) : (s.nvBegin o).rd Reg.CAL_NV_STATUS_NV_BUSY = 1 := by
  rw [State.nvBegin, State.rd_with_cal, State.rd_wr_self]
  rfl

theorem autoSaveWrite_begins {s : State} (hdue : s.cal.autoDue = true) (hidle : s.on Reg.CAL_NV_STATUS_NV_BUSY = false)
    (hcool : s.thm.shut = false) :
    Answers .autoSaveWrite s fun t => t.rd Reg.CAL_NV_STATUS_NV_BUSY = 1 ∧ t.cal.autoDue = false ∧ t.cal.op.map (·.id) = some 1 :=
  ⟨_, exec_autoSaveWrite_begins hdue hidle hcool, State.rd_nvBegin_busy .., rfl, rfl⟩

/-- Settles O52: each clause is the rule of its command; the interval and the temperature start a run by one rule. -/
theorem calibrationRuns : Obligations.CalibrationRuns := by
  unfold Obligations.CalibrationRuns
  refine ⟨?enableSets, ?enableClears, ?measureAsks, ?measureOff, ?corrValid, ?corrNone, ?startRuns, ?startRefused, ?intervalRuns,
    ?intervalOff, ?tempRuns, ?tempUnmapped, ?timeoutEnds, ?timeoutIdle, ?saveBegins, ?saveNone⟩
  case enableSets => exact fun _ _ _ haccepts hset hnew => calEnable_switches haccepts hset fun _ => hnew
  case enableClears => exact fun _ _ _ haccepts hclear => calEnable_switches haccepts hclear nofun
  case measureAsks => exact fun _ hon => ⟨_, congrArg Host.Outcome.next (if_pos hon), rfl⟩
  case measureOff => exact fun _ hoff => ⟨_, congrArg Host.Outcome.next (if_neg (Bool.eq_false_iff.1 hoff)), rfl⟩
  case corrValid => exact fun _ _ _ _ hwaits hall hnew => adcCorrDone_valid hwaits hall hnew
  case corrNone => exact fun _ _ _ _ hnone => ⟨_, congrArg Host.Outcome.next (if_pos (by rw [hnone]; rfl)), rfl⟩
  case startRuns => exact fun _ _ _ haccepts hset hidle hon hlead => calStart_runs haccepts hset hidle hon hlead
  case startRefused => exact fun _ _ _ haccepts hset hruns => calStart_refused haccepts hset hruns
  case intervalRuns => exact fun _ hdue hidle hon hlead => calTrigger_runs (exec_calIntervalTimer_due hdue) hidle hon hlead
  case intervalOff => exact fun _ hoff => ⟨_, exec_calIntervalTimer_off hoff, rfl⟩
  case tempRuns =>
    intro s x htm htrig hvalid hdrift hidle hon hlead
    obtain ⟨t, ht, hrun, -, hsamples⟩ := calTrigger_runs (exec_calTempCheck_drifted htm htrig hvalid hdrift) hidle hon hlead
    exact ⟨t, ht, hrun, hsamples⟩
  case tempUnmapped => exact fun _ htm => ⟨_, exec_calTempCheck_unmapped htm, rfl⟩
  case timeoutEnds => exact fun _ hruns => calRunTimeout_ends hruns
  case timeoutIdle => exact fun _ hidle => ⟨_, exec_calRunTimeout_of_idle hidle, rfl⟩
  case saveBegins => exact fun _ hdue hidle hcool => autoSaveWrite_begins hdue hidle hcool
  case saveNone => exact fun _ hnone => ⟨_, exec_autoSaveWrite_of_none hnone, rfl⟩

end Sys2Proof.Machine
end

section
/-! SUPPORT. The statement of the external procedure and the store at the FINISH of an understudy (spec/12_calibration.md R284;
spec/18_pair.md R426). -/

namespace Sys2Proof.Machine

/-- Refutes O53 in its clause of CAL_EXT_FINISH with a fit that passes: its premises leave out that the unit is no understudy, which runs no
external procedure (R426). At `ledProcedure` they all hold, with ki 4096 and i0 0, and FINISH leaves EXT_DONE 0. -/
theorem not_externalCalibrationAndStore : ¬ Obligations.ExternalCalibrationAndStore := by
  unfold Obligations.ExternalCalibrationAndStore
  intro h
  obtain ⟨-, -, -, -, hfinish, -⟩ := h
  obtain ⟨t, ht, hdone, -⟩ := hfinish (.engine 0) 4 ledProcedure 4096 0 ledProcedure_accepts (by decide) (by decide +kernel) (by decide)
    (by decide) (by decide +kernel) (by decide +kernel) ledProcedure_passes (by decide)
  obtain ⟨u, hu, hleft⟩ := exec_calExtFinish_ledProcedure
  cases hu.symm.trans ht
  exact absurd (hleft.symm.trans hdone) (by decide)

end Sys2Proof.Machine
end

section
/-! SUPPORT. One step: the command at the front of the queue, or a tick of the 400 MHz clock (spec/00_scope.md R1, R8; spec/13_network_time.md
R305; log entry 3). -/

namespace Sys2Proof.Machine

/-! The time domains (R305). -/

theorem State.td_setTd_self (s : State) (d : Fin 2) (x : Domain) : (s.setTd d x).td d = x := Vector.getElem_set_self ..

theorem State.td_setTd_ne (s : State) {d e : Fin 2} (h : d ≠ e) (x : Domain) : (s.setTd d x).td e = s.td e :=
  Vector.getElem_set_ne d.isLt e.isLt (Fin.val_ne_of_ne h)

theorem State.regs_tdTick (s : State) (d : Fin 2) : (s.tdTick d).regs = s.regs := by
  unfold State.tdTick
  split <;> rfl

/-- A tick of one domain leaves the other alone. -/
theorem State.td_tdTick_ne (s : State) {d e : Fin 2} (h : d ≠ e) : (s.tdTick d).td e = s.td e := by
  unfold State.tdTick
  split
  · exact State.td_setTd_ne s h _
  · rfl

/-- A domain that counts is one increment further after its tick, one that does not is where it was. -/
theorem State.td_tdTick_self (s : State) (d : Fin 2) :
    (s.tdTick d).td d =
      if s.tdOn d then { s.td d with t := ((s.td d).t + incrInForce (s.rd (Reg.TIME_D_INCR_INCR d))) % timeWrap } else s.td d := by
  unfold State.tdTick
  split
  · exact State.td_setTd_self ..
  · rfl

/-- The two domains tick apart. -/
theorem State.td_tdTicks (s : State) (d : Fin 2) :
    ((s.tdTick 0).tdTick 1).td d =
      if s.tdOn d then { s.td d with t := ((s.td d).t + incrInForce (s.rd (Reg.TIME_D_INCR_INCR d))) % timeWrap } else s.td d := by
  have hregs : ∀ f, (s.tdTick 0).rd f = s.rd f := fun f => congrArg (RegFile.get · f) (s.regs_tdTick 0)
  match d with
  | 0 => rw [State.td_tdTick_ne _ (by decide), State.td_tdTick_self]
  | 1 => rw [State.td_tdTick_self, State.td_tdTick_ne s (by decide), State.tdOn, State.tdOn, State.on, State.on, hregs, hregs]

/-! The REG entries that are queued for the partner (spec/18 R425). -/

theorem State.lanePacket_regs_pair (s : State) (j : Fin 15) (b : List Byte) :
    (s.lanePacket j b).regs = s.regs ∧ (s.lanePacket j b).pair = s.pair := by
  unfold State.lanePacket
  induction packetBlocks b ++ [fillBlock] generalizing s with
  | nil => exact ⟨rfl, rfl⟩
  | cons x xs ih => exact ih (s.laneBlock j x)

/-- A packet on the partner lane changes no register and queues no REG entry. -/
theorem State.pairPut_regs_queue (s : State) (type flags : Nat) (payload : List Byte) :
    (s.pairPut type flags payload).regs = s.regs ∧ (s.pairPut type flags payload).pair.regQueue = s.pair.regQueue := by
  unfold State.pairPut
  split
  · exact ⟨(State.lanePacket_regs_pair ..).1, (congrArg Pair.regQueue (State.lanePacket_regs_pair ..).2).trans rfl⟩
  · exact ⟨rfl, rfl⟩

theorem State.pairFlush_regs_queue (s : State) : s.pairFlush.regs = s.regs ∧ s.pairFlush.pair.regQueue = [] := by
  unfold State.pairFlush
  refine List.foldlRecOn _ _ (motive := fun t : State => t.regs = s.regs ∧ t.pair.regQueue = []) ⟨rfl, rfl⟩ ?_
  intro t ⟨hregs, hqueue⟩ p _
  obtain ⟨hregs', hqueue'⟩ := t.pairPut_regs_queue 0x84 0 p
  exact ⟨hregs'.trans hregs, hqueue'.trans hqueue⟩

/-! The tick. -/

/-- What a tick does before the clock count rises changes TIME, PAIR and the lanes at most. -/
theorem State.tickFlush_frame (s : State) : Fr [] [.time, .pair, .lane] s ((s.tdTick 0).tdTick 1).pairFlush :=
  Fr.step State.pairFlush_fr rfl rfl (Fr.step State.tdTick_fr rfl rfl (Fr.step State.tdTick_fr rfl rfl (Fr.refl s)))

theorem tick_now (s : State) : (tick s).now = s.now + 1 := congrArg (· + 1) s.tickFlush_frame.now

theorem tick_pending (s : State) : (tick s).pending = s.pending := s.tickFlush_frame.pending

theorem tick_regs (s : State) : (tick s).regs = s.regs :=
  (State.pairFlush_regs_queue _).1.trans ((State.regs_tdTick ..).trans (State.regs_tdTick ..))

theorem tick_regQueue (s : State) : (tick s).pair.regQueue = [] := (State.pairFlush_regs_queue _).2

/-- The clock count is in no zone. -/
theorem State.sameIn_with_now {z : Zone} {s t : State} (h : State.sameIn z s t) (n : Nat) : State.sameIn z s { t with now := n } := by
  cases z <;> exact h

theorem tick_sameIn (s : State) {z : Zone} (hz : z ∉ [Zone.time, .pair, .lane]) : State.sameIn z s (tick s) :=
  State.sameIn_with_now (s.tickFlush_frame.zones z hz) _

theorem tick_td (s : State) (d : Fin 2) :
    (tick s).td d =
      if s.tdOn d then { s.td d with t := ((s.td d).t + incrInForce (s.rd (Reg.TIME_D_INCR_INCR d))) % timeWrap } else s.td d := by
  have hflush : (tick s).time = ((s.tdTick 0).tdTick 1).time := State.pairFlush_fr.zones .time (by decide)
  rw [← s.td_tdTicks d, State.td, hflush]
  rfl

/-- Settles O15: a command's frame holds neither the queue nor the clock count, and a tick is taken apart. -/
theorem stepRunsTheFrontCommand : Obligations.StepRunsTheFrontCommand := by
  unfold Obligations.StepRunsTheFrontCommand
  refine ⟨fun _ _ _ => rfl, fun c s t ht => ?command, fun s hidle => ?idle⟩
  case command =>
    obtain ⟨u, hu, hframe⟩ := exec_inFootprint c s
    cases hu.symm.trans ht
    exact ⟨hframe.pending, hframe.now⟩
  case idle =>
    exact ⟨tick s, step_of_idle hidle, tick_now s, (tick_pending s).trans hidle, tick_regs s, tick_regQueue s, fun z hz => tick_sameIn s hz,
      fun d => ⟨fun hon => congrArg Domain.t ((tick_td s d).trans (if_pos hon)), fun hoff => (tick_td s d).trans (if_neg (Bool.eq_false_iff.1 hoff))⟩⟩

end Sys2Proof.Machine
end

section
/-! SUPPORT. Reading a field of one of several like units: the field that is written, the fields that are not, those that a register write
does not store; events that stay pending, and occurrences that wait (spec/00_scope.md R3; spec/15_faults.md R350; spec/16_engines_events.md
R375). That two fields are apart is a closed check over the units. -/

namespace Sys2Proof.Machine

/-- `f` and `g` are different fields of each of `n` units. -/
def fieldsApart (n : Nat) (f g : Nat → Fld) : Bool := (List.finRange n).all fun i => (f i).key != (g i).key

theorem State.rd_wr_apart {n : Nat} {s : State} {f g : Nat → Fld} {i : Fin n} {v : Nat} (h : fieldsApart n f g = true) :
    (s.wr (f i) v).rd (g i) = s.rd (g i) :=
  State.rd_wr_ne s (bne_iff_ne.1 (List.all_eq_true.1 h i (List.mem_finRange i))) v

theorem State.rd_wrB_apart {n : Nat} {s : State} {f g : Nat → Fld} {i : Fin n} {b : Bool} (h : fieldsApart n f g = true) :
    (s.wrB (f i) b).rd (g i) = s.rd (g i) := State.rd_wr_apart h

theorem State.rd_inc_apart {n : Nat} {s : State} {f g : Nat → Fld} {i : Fin n} (h : fieldsApart n f g = true) :
    (s.inc (f i)).rd (g i) = s.rd (g i) := State.rd_wr_apart h

/-- A count is one higher than the field reads. -/
theorem State.counted_congr {s t : State} {f : Fld} (h : t.rd f = s.rd f) : t.counted f = s.counted f := by
  rw [State.counted, h]
  rfl

/-- A write of the register of a unit, at `a`, stores none of the fields `f`, nor does its WERR change one. -/
def unstoredAt {n : Nat} (a : Fin n → Nat) (f : Nat → Fld) : Bool :=
  Keys.spare n werrKeys f && (List.finRange n).all fun i => rowField (a i) (f i).key

theorem State.rd_stored_at {n : Nat} (a : Fin n → Nat) {f : Nat → Fld} (h : unstoredAt a f = true) (s : State) (m : Master) (i : Fin n)
    (v : Word) : (s.stored m (a i) v).rd (f i) = s.rd (f i) := by
  obtain ⟨hspare, hrow⟩ := Bool.and_eq_true_iff.1 h
  obtain ⟨hwerr, hkey⟩ := Keys.spare_spec hspare i
  exact State.stored_rd (List.all_eq_true.1 hrow i (List.mem_finRange i)) hwerr hkey

theorem State.on_congr {s t : State} {f : Fld} (h : t.rd f = s.rd f) : t.on f = s.on f := congrArg (· != 0) h

/-! Events that are pending stay so. -/

theorem State.fired_fire_self (s : State) {n : Nat} (hn : n < 128) : (s.fire n).fired n := State.fired_fire s ⟨n, hn⟩

/-- An event that is pending stays pending when another fires. -/
theorem State.fired_fire_of_fired {s : State} {n : Nat} (hn : n < 128) (m : Nat) (h : s.fired n) : (s.fire m).fired n := by
  unfold State.fire
  dsimp only
  split
  · exact h
  · exact State.fired_powerFor _ _ ⟨n, hn⟩ (State.fired_pend _ _ ⟨n, hn⟩ (.inr h))

/-- What changes no pending bit leaves an event pending. -/
theorem Fr.fired {ks zs} {s t : State} (h : Fr ks zs s t) (hks : Keys.spare 128 ks Reg.EVC_PEND = true) {n : Nat} (hn : n < 128)
    (hfired : s.fired n) : t.fired n := (State.on_congr (h.rd_at hks ⟨n, hn⟩)).trans hfired

theorem State.fire_time (s : State) (n : Nat) : (s.fire n).time = s.time := (s.fire_frame n).zones .time (by decide)

theorem State.fire_net (s : State) (n : Nat) : (s.fire n).net = s.net := (s.fire_frame n).zones .net (by decide)

/-- An event changes none of the fields `f` of `n` units. -/
theorem State.rd_fire_at {n : Nat} {s : State} {f : Nat → Fld} {i : Fin n} {m : Nat} (h : Keys.spare n eventKeys f = true) :
    (s.fire m).rd (f i) = s.rd (f i) := (State.fire_frame s m).rd_at h i

/-- An occurrence of a fault source outside those of the safety island waits for its record once it is raised. -/
theorem State.raiseOcc_hasRaised (s : State) {o : Occurrence} (hsrc : ¬ (48 ≤ o.src ∧ o.src ≤ 54)) : (s.raiseOcc o).hasRaised o.src := by
  unfold State.raiseOcc
  simp only [hsrc, decide_false, Bool.and_false, Bool.false_eq_true, ↓reduceIte]
  exact ⟨o, List.mem_append_right _ (List.mem_singleton_self _), rfl⟩

end Sys2Proof.Machine
end

section
/-! SUPPORT. Captures, the pulse per second and cues (spec/13_network_time.md R310 to R312). -/

namespace Sys2Proof.Machine

/-! Captures (R310). -/

/-- The entry that an edge of input `k` leaves in its queue. -/
def State.captureEntry (s : State) (k : Fin 4) (rising : Bool) : CapEntry :=
  let d : Fin 2 := Fin.ofNat 2 (s.rd (Reg.TIME_CAP_DOM k))
  { n := (s.td d).n, sec := (s.td d).sec % 2 ^ 16, falling := !rising, dom := d }

/-- The queue of input `k` holds `q`, and its registers show so. -/
def State.setCapture (s : State) (k : Fin 4) (q : List CapEntry) : State :=
  { s with time := { s.time with cap := s.time.cap.set k q } }.showCap k

theorem State.setCapture_cap (s : State) (k : Fin 4) (q : List CapEntry) : (s.setCapture k q).time.cap[k] = q := Vector.getElem_set_self ..

/-- TIME_CAPTURE_EDGE: the edge of an input that does not select it. -/
theorem exec_timeCaptureEdge_unselected {k : Fin 4} {b : Bool} {s : State}
    (hunselected : (s.rd (Reg.TIME_CAP_EDGE k)).testBit (if b then 0 else 1) = false) : exec (.timeCaptureEdge k b) s = .next s :=
  congrArg Host.Outcome.next (if_pos (by rw [hunselected]; rfl))

/-- TIME_CAPTURE_EDGE: the queue is full. -/
theorem exec_timeCaptureEdge_full {k : Fin 4} {b : Bool} {s : State}
    (hselected : (s.rd (Reg.TIME_CAP_EDGE k)).testBit (if b then 0 else 1) = true) (hfull : 8 ≤ (s.time.cap[k]).length) :
    exec (.timeCaptureEdge k b) s = .next ((s.wr (Reg.TIME_STATUS_CAP_OVF k) 1).fire 62) :=
  congrArg Host.Outcome.next ((if_neg (by rw [hselected]; decide)).trans (if_pos hfull))

/-- TIME_CAPTURE_EDGE: the queue has room. -/
theorem exec_timeCaptureEdge_room {k : Fin 4} {b : Bool} {s : State}
    (hselected : (s.rd (Reg.TIME_CAP_EDGE k)).testBit (if b then 0 else 1) = true) (hroom : (s.time.cap[k]).length < 8) :
    exec (.timeCaptureEdge k b) s = .next (if (s.time.cap[k]).isEmpty
      then (s.setCapture k (s.time.cap[k] ++ [s.captureEntry k b])).fire 57 else s.setCapture k (s.time.cap[k] ++ [s.captureEntry k b])) :=
  congrArg Host.Outcome.next ((if_neg (by rw [hselected]; decide)).trans (if_neg (Nat.not_le.2 hroom)))

theorem timeCaptureEdge_overflows {k : Fin 4} {b : Bool} {s : State}
    (hselected : (s.rd (Reg.TIME_CAP_EDGE k)).testBit (if b then 0 else 1) = true) (hfull : 8 ≤ (s.time.cap[k]).length) :
    Answers (.timeCaptureEdge k b) s fun t => t.rd (Reg.TIME_STATUS_CAP_OVF k) = 1 ∧ t.fired 62 ∧ t.time = s.time :=
  ⟨_, exec_timeCaptureEdge_full hselected hfull, (State.rd_fire_at (by decide)).trans (State.rd_wr_self ..), State.fired_fire _ 62,
    State.fire_time ..⟩

theorem timeCaptureEdge_captures {k : Fin 4} {b : Bool} {s : State}
    (hselected : (s.rd (Reg.TIME_CAP_EDGE k)).testBit (if b then 0 else 1) = true) (hroom : (s.time.cap[k]).length < 8) :
    Answers (.timeCaptureEdge k b) s fun t =>
      t.time.cap[k] = s.time.cap[k] ++ [s.captureEntry k b] ∧ (s.time.cap[k] = [] → t.fired 57) := by
  refine ⟨_, exec_timeCaptureEdge_room hselected hroom, ?_⟩
  split
  · exact ⟨(congrArg (fun x : Time => x.cap[k]) (State.fire_time ..)).trans (State.setCapture_cap ..), fun _ => State.fired_fire _ 57⟩
  · rename_i hwaits
    exact ⟨State.setCapture_cap .., fun hnone => absurd (List.isEmpty_iff.2 hnone) hwaits⟩

theorem timeCapInfoRead_takes (k : Fin 4) (s : State) : Answers (.timeCapInfoRead k) s fun t => t.time.cap[k] = (s.time.cap[k]).tail :=
  ⟨s.setCapture k (s.time.cap[k]).tail, rfl, State.setCapture_cap ..⟩

/-! The pulse per second (R311). -/

theorem ppsEdge_rises {s : State} (hon : s.on Reg.TIME_PPS_EN = true) (hcounts : s.tdOn (Fin.ofNat 2 (s.rd Reg.TIME_PPS_DOMAIN)) = true) :
    Answers .ppsEdge s fun t => t.time.pps = true ∧ t.fired 56 := by
  refine ⟨_, congrArg Host.Outcome.next (if_pos (Bool.and_eq_true_iff.2 ⟨hon, hcounts⟩)), ?_, State.fired_fire _ 56⟩
  rw [State.fire_time]

theorem ppsEdge_of_off {s : State} (hoff : s.on Reg.TIME_PPS_EN = false) : Answers .ppsEdge s fun t => t = s :=
  ⟨s, congrArg Host.Outcome.next (if_neg (by rw [hoff, Bool.false_and]; decide)), rfl⟩

theorem ppsFall_falls (s : State) : Answers .ppsFall s fun t => t.time.pps = false ∧ t.regs = s.regs := ⟨_, rfl, rfl, rfl⟩

/-! Cues (R312). -/

/-- The compare time of cue `k` after it has fired at `x`: none of a one-shot, the next of a periodic one. -/
def State.cueAfter (s : State) (k : Fin 2) (x : Nat) : Option Nat :=
  if s.cuePeriod k = 0 then none
  else some (if s.time.cueLate[k] then nextCue x (s.cuePeriod k) (s.cueNow (s.cueDom k)) else x + s.cuePeriod k)

/-- The level of TSOUTk after its cue has fired. -/
def State.cueLevel (s : State) (k : Fin 2) : Bool :=
  if s.rd (Reg.TIME_CUE_CTRL_PIN k) = 1 then true
  else if s.rd (Reg.TIME_CUE_CTRL_PIN k) = 2 then !s.time.tsout[k] else s.time.tsout[k]

/-- What a cue that fires at `x` does to TIME. -/
def State.cueTaken (s : State) (k : Fin 2) (x : Nat) : State :=
  { s with time := { s.time with
      cueNext := s.time.cueNext.set k (s.cueAfter k x)
      cueLate := s.time.cueLate.set k false
      tsout := s.time.tsout.set k (s.cueLevel k)
      pulse := s.time.pulse.set k (s.time.pulse[k] || s.rd (Reg.TIME_CUE_CTRL_PIN k) == 1) } }

/-- A cue that fires, late or not. -/
def State.cueFires (s : State) (k : Fin 2) (x : Nat) : State :=
  if s.time.cueLate[k] then (((s.cueTaken k x).fire (58 + k)).wr (Reg.TIME_STATUS_CUE_LATE k) 1).fire 62 else (s.cueTaken k x).fire (58 + k)

theorem exec_cueFire_due {k : Fin 2} {s : State} {x : Nat} (hnext : s.time.cueNext[k] = some x) (hdue : x ≤ s.cueNow (s.cueDom k)) :
    exec (.cueFire k) s = .next (s.cueFires k x) := by
  change execCueFire k s = _
  unfold execCueFire
  simp only [hnext]
  exact congrArg Host.Outcome.next (if_neg (Nat.not_lt.2 hdue))

theorem exec_cueFire_of_none {k : Fin 2} {s : State} (hnone : s.time.cueNext[k] = none) : exec (.cueFire k) s = .next s := by
  change execCueFire k s = _
  unfold execCueFire
  simp only [hnone]

theorem State.cueFires_time (s : State) (k : Fin 2) (x : Nat) : (s.cueFires k x).time = (s.cueTaken k x).time := by
  unfold State.cueFires
  split
  · rw [State.fire_time, State.wr_time, State.fire_time]
  · exact State.fire_time ..

theorem State.cueFires_fired (s : State) (k : Fin 2) (x : Nat) : (s.cueFires k x).fired (58 + k) := by
  have hk : 58 + k.val < 128 := by omega
  have hfired := (s.cueTaken k x).fired_fire_self hk
  have hlate : ∀ t : State, Fr [Keys.arr Reg.TIME_STATUS_CUE_LATE 2] [] t (t.wr (Reg.TIME_STATUS_CUE_LATE k) 1) := fun t =>
    Fr.wr (Reg.TIME_STATUS_CUE_LATE_key k.isLt) (by decide +kernel) (Fr.refl t)
  unfold State.cueFires
  split
  · exact State.fired_fire_of_fired hk 62 ((hlate _).fired (by decide +kernel) hk hfired)
  · exact hfired

theorem State.cueFires_late {s : State} {k : Fin 2} (hlate : s.time.cueLate[k] = true) (x : Nat) :
    (s.cueFires k x).rd (Reg.TIME_STATUS_CUE_LATE k) = 1 ∧ (s.cueFires k x).fired 62 := by
  rw [State.cueFires, if_pos hlate]
  exact ⟨(State.rd_fire_at (by decide)).trans (State.rd_wr_self ..), State.fired_fire _ 62⟩

theorem State.cueTaken_next (s : State) (k : Fin 2) (x : Nat) : (s.cueTaken k x).time.cueNext[k] = s.cueAfter k x := Vector.getElem_set_self ..

theorem State.cueTaken_tsout (s : State) (k : Fin 2) (x : Nat) : (s.cueTaken k x).time.tsout[k] = s.cueLevel k := Vector.getElem_set_self ..

theorem State.cueTaken_pulse (s : State) (k : Fin 2) (x : Nat) :
    (s.cueTaken k x).time.pulse = s.time.pulse.set k (s.time.pulse[k] || s.rd (Reg.TIME_CUE_CTRL_PIN k) == 1) := rfl

/-- CUE_FIRE: a cue that is due in time. -/
theorem cueFire_fires {k : Fin 2} {s : State} {x : Nat} (hnext : s.time.cueNext[k] = some x) (hdue : x ≤ s.cueNow (s.cueDom k))
    (hintime : s.time.cueLate[k] = false) :
    Answers (.cueFire k) s fun t =>
      t.fired (58 + k) ∧ t.time.cueNext[k] = (if s.cuePeriod k = 0 then none else some (x + s.cuePeriod k)) ∧
        (s.rd (Reg.TIME_CUE_CTRL_PIN k) = 1 → t.time.tsout[k] = true ∧ t.time.pulse[k] = true) := by
  refine ⟨_, exec_cueFire_due hnext hdue, s.cueFires_fired k x, ?_, fun hpin => ?_⟩
  · rw [State.cueFires_time, State.cueTaken_next, State.cueAfter, hintime]
    rfl
  · rw [State.cueFires_time, State.cueTaken_tsout, State.cueLevel, if_pos hpin, State.cueTaken_pulse, hpin]
    simp

/-- CUE_FIRE: PIN 2 toggles the output and starts no pulse. -/
theorem cueFire_toggles {k : Fin 2} {s : State} {x : Nat} (hnext : s.time.cueNext[k] = some x) (hdue : x ≤ s.cueNow (s.cueDom k))
    (hpin : s.rd (Reg.TIME_CUE_CTRL_PIN k) = 2) :
    Answers (.cueFire k) s fun t => t.fired (58 + k) ∧ (t.time.tsout[k] = !s.time.tsout[k]) ∧ t.time.pulse = s.time.pulse := by
  refine ⟨_, exec_cueFire_due hnext hdue, s.cueFires_fired k x, ?_, ?_⟩
  · rw [State.cueFires_time, State.cueTaken_tsout, State.cueLevel, hpin]
    rfl
  · rw [State.cueFires_time, State.cueTaken_pulse, hpin]
    simp

/-- CUE_FIRE: a cue that is late tells so, and a periodic one goes on after the present. -/
theorem cueFire_late {k : Fin 2} {s : State} {x : Nat} (hnext : s.time.cueNext[k] = some x) (hdue : x ≤ s.cueNow (s.cueDom k))
    (hlate : s.time.cueLate[k] = true) :
    Answers (.cueFire k) s fun t =>
      t.fired (58 + k) ∧ t.rd (Reg.TIME_STATUS_CUE_LATE k) = 1 ∧ t.fired 62 ∧
        t.time.cueNext[k] = if s.cuePeriod k = 0 then none else some (nextCue x (s.cuePeriod k) (s.cueNow (s.cueDom k))) := by
  obtain ⟨hflag, hevent⟩ := State.cueFires_late hlate x
  refine ⟨_, exec_cueFire_due hnext hdue, s.cueFires_fired k x, hflag, hevent, ?_⟩
  rw [State.cueFires_time, State.cueTaken_next, State.cueAfter, hlate, if_pos rfl]

/-- CUE_PULSE_END: the pulse that runs ends. -/
theorem cuePulseEnd_ends {k : Fin 2} {s : State} (hruns : s.time.pulse[k] = true) :
    Answers (.cuePulseEnd k) s fun t => t.time.tsout[k] = false ∧ t.time.pulse[k] = false ∧ t.regs = s.regs :=
  ⟨_, congrArg Host.Outcome.next (if_pos hruns), Vector.getElem_set_self .., Vector.getElem_set_self .., rfl⟩

/-- Settles O54: each clause is the rule of its command. -/
theorem capturesPpsAndCues : Obligations.CapturesPpsAndCues := by
  unfold Obligations.CapturesPpsAndCues
  refine ⟨?overflow, ?capture, ?unselected, ?infoRead, ?ppsRises, ?ppsOff, ?ppsFalls, ?cueFires, ?cueNone, ?pulseEnds, ?pulseNone, ?cueToggles,
    ?cueLate⟩
  case overflow => exact fun _ _ _ hselected hfull => timeCaptureEdge_overflows hselected hfull
  case capture => exact fun _ _ _ hselected hroom => timeCaptureEdge_captures hselected hroom
  case unselected => exact fun _ _ s hunselected => ⟨s, exec_timeCaptureEdge_unselected hunselected, rfl⟩
  case infoRead => exact timeCapInfoRead_takes
  case ppsRises => exact fun _ hon hcounts => ppsEdge_rises hon hcounts
  case ppsOff => exact fun _ hoff => ppsEdge_of_off hoff
  case ppsFalls => exact ppsFall_falls
  case cueFires => exact fun _ _ _ hnext hdue hintime => cueFire_fires hnext hdue hintime
  case cueNone => exact fun _ s hnone => ⟨s, exec_cueFire_of_none hnone, rfl⟩
  case pulseEnds => exact fun _ _ hruns => cuePulseEnd_ends hruns
  case pulseNone => exact fun _ s hnone => ⟨s, congrArg Host.Outcome.next (if_neg (Bool.eq_false_iff.1 hnone)), rfl⟩
  case cueToggles => exact fun _ _ _ hnext hdue hpin => cueFire_toggles hnext hdue hpin
  case cueLate => exact fun _ _ _ hnext hdue hlate => cueFire_late hnext hdue hlate

end Sys2Proof.Machine
end

section
/-! SUPPORT. The registers of the network ports: enable, link changes, kicks, MDIO (spec/13_network_time.md R291, R293, R294, R297). -/

namespace Sys2Proof.Machine

theorem State.on_stored_netCtrl {f : Nat → Fld} (h : unstoredAt netCtrl f = true) (s : State) (m : Master) (n : Fin 2) (v : Word) :
    (s.stored m (netCtrl n) v).on (f n) = s.on (f n) := State.on_congr (State.rd_stored_at netCtrl h s m n v)

/-! NET_ENABLE (R291). -/

theorem State.rd_netEnable_self (s : State) (n : Fin 2) (en : Bool) : (s.netEnable n en).rd (Reg.NET_CTRL_EN n) = b2n en :=
  ((State.showLane_frame _ _).rd_at (by decide +kernel) n).trans ((State.rd_wr_self ..).trans (Nat.mod_eq_of_lt (b2n_lt_two _)))

theorem State.werr_netCtrl (s : State) (n : Fin 2) : s.werr (netCtrl n) = (s.wr (Reg.NET_STATUS_WERR n) 1).fire 54 := by
  have h0 : netCtrl 0 = 0x20110000 := rfl
  have h1 : netCtrl 1 = 0x20120000 := rfl
  match n with
  | 0 => rw [h0]; rfl
  | 1 => rw [h1]; rfl

theorem netEnable_enables {n : Fin 2} {m : Master} {v : Word} {s : State} (haccepts : s.accepts m (netCtrl n)) (hset : v.toNat.testBit 0 = true)
    (hunfenced : s.on (Reg.FLT_FENCE_NET n) = false) : Answers (.netEnable n m v) s fun t => t.rd (Reg.NET_CTRL_EN n) = 1 := by
  have hfence := (State.on_stored_netCtrl (by decide +kernel) s m n v).trans hunfenced
  refine ⟨_, congrArg Host.Outcome.next ((State.busWrite_accepts haccepts).trans ((if_pos hset).trans (if_neg ?_))),
    State.rd_netEnable_self _ n true⟩
  rw [hfence]
  decide

theorem netEnable_refused {n : Fin 2} {m : Master} {v : Word} {s : State} (haccepts : s.accepts m (netCtrl n)) (hset : v.toNat.testBit 0 = true)
    (hfenced : s.on (Reg.FLT_FENCE_NET n) = true) :
    Answers (.netEnable n m v) s fun t =>
      t.rd (Reg.NET_CTRL_EN n) = s.rd (Reg.NET_CTRL_EN n) ∧ t.rd (Reg.NET_STATUS_WERR n) = 1 ∧ t.fired 54 := by
  have hfence := (State.on_stored_netCtrl (by decide +kernel) s m n v).trans hfenced
  refine ⟨_, congrArg Host.Outcome.next ((State.busWrite_accepts haccepts).trans ((if_pos hset).trans (if_pos hfence))), ?_⟩
  rw [State.werr_netCtrl]
  refine ⟨?_, (State.rd_fire_at (by decide)).trans (State.rd_wr_self ..), State.fired_fire_self _ (by decide)⟩
  calc _ = _ := State.rd_fire_at (by decide)
    _ = _ := State.rd_wr_apart (by decide)
    _ = _ := State.rd_stored_at netCtrl (by decide +kernel) s m n v

theorem netEnable_disables {n : Fin 2} {m : Master} {v : Word} {s : State} (haccepts : s.accepts m (netCtrl n))
    (hclear : v.toNat.testBit 0 = false) : Answers (.netEnable n m v) s fun t => t.rd (Reg.NET_CTRL_EN n) = 0 :=
  ⟨_, congrArg Host.Outcome.next ((State.busWrite_accepts haccepts).trans (if_neg (Bool.eq_false_iff.1 hclear))),
    State.rd_netEnable_self _ n false⟩

/-! NET_LINK_CHANGE (R291). -/

/-- The speed of a report, as NET_STATUS.SPEED shows it. -/
def State.reportedSpeed (s : State) (n : Fin 2) (up : Bool) (mbps : Nat) : Nat :=
  if !up then 0 else if s.on (Reg.NET_CTRL_MODE n) then 3 else if mbps = 100 then 1 else if mbps = 1000 then 2 else 0

/-- A report of a link that the port takes. -/
def State.reportedLink (s : State) (n : Fin 2) (up : Bool) (mbps : Nat) (full : Bool) : Bool :=
  up && (s.on (Reg.NET_CTRL_MODE n) || (full && s.reportedSpeed n up mbps != 0))

/-- NET_STATUS shows a link. -/
def State.showLink (s : State) (n : Fin 2) (link : Bool) (speed : Nat) (an : Bool) : State :=
  ((s.wrB (Reg.NET_STATUS_LINK n) link).wr (Reg.NET_STATUS_SPEED n) (if link then speed else 0)).wrB (Reg.NET_STATUS_AN_DONE n) an

/-- The event of a link that has changed, and the fault of one that an enabled port has lost. -/
def State.tellLink (s : State) (n : Fin 2) (changed lost : Bool) : State :=
  let t := if changed then s.fire (50 + 3 * n) else s
  if lost && t.on (Reg.NET_CTRL_EN n) then t.raise FLT_NET_LINK (0x20110004 + n * 0x10000) (some n) else t

/-- Auto-negotiation has given the link. -/
def State.reportedAn (s : State) (n : Fin 2) (up : Bool) : Bool := up && !s.on (Reg.NET_CTRL_MODE n) && s.on (Reg.NET_CTRL_AN_EN n)

/-- NET_LINK_CHANGE of a port whose domain is alive. -/
theorem exec_netLinkChange_alive {n : Fin 2} {up : Bool} {k : Nat} {fd : Bool} {s : State} (halive : s.alive 3 = true) :
    exec (.netLinkChange n up k fd) s =
      .next ((s.showLink n (s.reportedLink n up k fd) (s.reportedSpeed n up k) (s.reportedAn n up)).tellLink n
        (s.on (Reg.NET_STATUS_LINK n) != s.reportedLink n up k fd) (s.on (Reg.NET_STATUS_LINK n) && !s.reportedLink n up k fd)) := by
  have han : ∀ link speed,
      ((s.wrB (Reg.NET_STATUS_LINK n) link).wr (Reg.NET_STATUS_SPEED n) speed).on (Reg.NET_CTRL_AN_EN n) = s.on (Reg.NET_CTRL_AN_EN n) :=
    fun _ _ => State.on_congr ((State.rd_wr_apart (by decide)).trans (State.rd_wrB_apart (by decide)))
  change execNetLinkChange n up k fd s = _
  unfold execNetLinkChange State.tellLink State.showLink State.reportedLink State.reportedSpeed State.reportedAn
  simp only [halive, han, Bool.not_true, Bool.not_not, Bool.not_eq_true', Bool.false_eq_true, ↓reduceIte]

theorem State.tellLink_frame (s : State) (n : Fin 2) (changed lost : Bool) : Fr eventKeys eventZones s (s.tellLink n changed lost) := by
  have hevent : Fr eventKeys eventZones s (if changed then s.fire (50 + 3 * n) else s) := Fr.ite (s.fire_frame _) (Fr.refl s)
  exact Fr.ite (Fr.step State.raise_fr rfl rfl hevent) hevent

theorem State.rd_showLink_link (s : State) (n : Fin 2) (link : Bool) (speed : Nat) (an : Bool) :
    (s.showLink n link speed an).rd (Reg.NET_STATUS_LINK n) = b2n link := by
  rw [State.showLink, State.rd_wrB_apart (by decide), State.rd_wr_apart (by decide)]
  exact (State.rd_wr_self ..).trans (Nat.mod_eq_of_lt (b2n_lt_two _))

theorem State.rd_showLink_speed (s : State) (n : Fin 2) (link : Bool) {speed : Nat} (an : Bool) (hspeed : speed < 4) :
    (s.showLink n link speed an).rd (Reg.NET_STATUS_SPEED n) = if link then speed else 0 := by
  rw [State.showLink, State.rd_wrB_apart (by decide)]
  refine (State.rd_wr_self ..).trans (Nat.mod_eq_of_lt ?_)
  split
  · exact hspeed
  · exact Nat.two_pow_pos _

theorem State.on_showLink_en (s : State) (n : Fin 2) (link : Bool) (speed : Nat) (an : Bool) :
    (s.showLink n link speed an).on (Reg.NET_CTRL_EN n) = s.on (Reg.NET_CTRL_EN n) := by
  refine State.on_congr ?_
  rw [State.showLink, State.rd_wrB_apart (by decide), State.rd_wr_apart (by decide), State.rd_wrB_apart (by decide)]

theorem State.tellLink_fired (s : State) (n : Fin 2) (lost : Bool) : (s.tellLink n true lost).fired (50 + 3 * n) := by
  have hn : 50 + 3 * n.val < 128 := by omega
  have hfired := s.fired_fire_self hn
  unfold State.tellLink
  dsimp only
  rw [if_pos rfl]
  split
  · exact State.raise_fr.fired (by decide +kernel) hn hfired
  · exact hfired

theorem State.tellLink_raises {s : State} {n : Fin 2} (changed : Bool) (hon : s.on (Reg.NET_CTRL_EN n) = true) :
    (s.tellLink n changed true).hasRaised FLT_NET_LINK := by
  have hevent : (if changed then s.fire (50 + 3 * n) else s).on (Reg.NET_CTRL_EN n) = true := by
    split
    · exact (State.on_congr (State.rd_fire_at (by decide))).trans hon
    · exact hon
  unfold State.tellLink
  dsimp only
  rw [hevent, Bool.and_self, if_pos rfl]
  exact State.raise_hasRaised _ _ _ (by decide)

theorem State.reportedSpeed_lt (s : State) (n : Fin 2) (up : Bool) (mbps : Nat) : s.reportedSpeed n up mbps < 4 := by
  unfold State.reportedSpeed
  repeat' split
  all_goals decide

/-- NET_LINK_CHANGE: what the port shows, and what it tells. -/
theorem netLinkChange_shows {n : Fin 2} {up : Bool} {k : Nat} {fd : Bool} {s : State} {link : Bool} (halive : s.alive 3 = true)
    (hlink : s.reportedLink n up k fd = link) :
    Answers (.netLinkChange n up k fd) s fun t =>
      t.rd (Reg.NET_STATUS_LINK n) = b2n link ∧ t.rd (Reg.NET_STATUS_SPEED n) = (if link then s.reportedSpeed n up k else 0) ∧
        (s.on (Reg.NET_STATUS_LINK n) = !link → t.fired (50 + 3 * n)) ∧
        (s.on (Reg.NET_STATUS_LINK n) = true → link = false → s.on (Reg.NET_CTRL_EN n) = true → t.hasRaised FLT_NET_LINK) := by
  have hexec := exec_netLinkChange_alive (n := n) (up := up) (k := k) (fd := fd) halive
  rw [hlink] at hexec
  have hframe := (s.showLink n link (s.reportedSpeed n up k) (s.reportedAn n up)).tellLink_frame n (s.on (Reg.NET_STATUS_LINK n) != link)
    (s.on (Reg.NET_STATUS_LINK n) && !link)
  refine ⟨_, hexec, (hframe.rd_at (by decide) n).trans (s.rd_showLink_link ..),
    (hframe.rd_at (by decide) n).trans (s.rd_showLink_speed _ _ _ (s.reportedSpeed_lt n up k)), fun hchanged => ?_, fun hold hdown hon => ?_⟩
  · rw [hchanged, Bool.not_bne_self]
    exact State.tellLink_fired ..
  · subst hdown
    rw [hold]
    exact State.tellLink_raises _ ((s.on_showLink_en ..).trans hon)

theorem State.reportedLink_down (s : State) (n : Fin 2) (k : Nat) (fd : Bool) : s.reportedLink n false k fd = false := rfl

/-- With MODE 1 the port takes every report of a link, at 10 Gb/s. -/
theorem State.reportedLink_mode {s : State} {n : Fin 2} (hmode : s.on (Reg.NET_CTRL_MODE n) = true) (k : Nat) (fd : Bool) :
    s.reportedSpeed n true k = 3 ∧ s.reportedLink n true k fd = true := by
  simp [State.reportedSpeed, State.reportedLink, hmode]

/-- With MODE 0 the port takes a full-duplex report at 1 Gb/s. -/
theorem State.reportedLink_giga {s : State} {n : Fin 2} (hmode : s.on (Reg.NET_CTRL_MODE n) = false) :
    s.reportedSpeed n true 1000 = 2 ∧ s.reportedLink n true 1000 true = true := by
  simp [State.reportedSpeed, State.reportedLink, hmode]

/-! NET_RX_KICK and NET_TX_KICK (R294, R297). -/

theorem netRxKick_resumes {n : Fin 2} {m : Master} {v : Word} {s : State} (haccepts : s.accepts m (netCtrl n)) (hset : v.toNat.testBit 7 = true)
    (hclean : s.on (Reg.NET_STATUS_DMA_ERR n) = false) : Answers (.netRxKick n m v) s fun t => t.net.rxStopped[n] = false := by
  have herr := (State.on_stored_netCtrl (by decide +kernel) s m n v).trans hclean
  exact ⟨_, congrArg Host.Outcome.next ((State.busWrite_accepts haccepts).trans (if_pos (by rw [hset, herr]; rfl))), Vector.getElem_set_self ..⟩

theorem netTxKick_runs {n : Fin 2} {m : Master} {v : Word} {s : State} (haccepts : s.accepts m (netCtrl n)) (hset : v.toNat.testBit 8 = true)
    (hon : s.on (Reg.NET_CTRL_EN n) = true) (hclean : s.on (Reg.NET_STATUS_DMA_ERR n) = false) :
    Answers (.netTxKick n m v) s fun t => t.net.txStopped[n] = false ∧ t.net.txRun[n] = true := by
  have hen := (State.on_stored_netCtrl (by decide +kernel) s m n v).trans hon
  have herr := (State.on_stored_netCtrl (by decide +kernel) s m n v).trans hclean
  refine ⟨_, congrArg Host.Outcome.next ((State.busWrite_accepts haccepts).trans ((if_pos (by rw [hset, hen]; rfl)).trans (if_neg ?_))),
    Vector.getElem_set_self .., Vector.getElem_set_self ..⟩
  rw [herr, Bool.and_false]
  decide

/-! MDIO (R293). -/

theorem mdioAccess_goes {m : Master} {v : Word} {s : State} (haccepts : s.accepts m 0x201100A0) (hset : v.toNat.testBit 31 = true) :
    Answers (.mdioAccess m v) s fun t => t.rd (Reg.NET_MDIO_CMD_GO 0) = 1 :=
  ⟨_, congrArg Host.Outcome.next ((State.busWrite_accepts haccepts).trans (if_pos hset)), State.rd_wr_self ..⟩

theorem mdioDone_reads {d : Nat} {s : State} (hgo : s.on (Reg.NET_MDIO_CMD_GO 0) = true) (hop : s.rd (Reg.NET_MDIO_CMD_OP 0) = 2) :
    Answers (.mdioDone d) s fun t => t.rd (Reg.NET_MDIO_CMD_GO 0) = 0 ∧ t.rd (Reg.NET_MDIO_DATA_DATA 0) = d % 2 ^ 16 := by
  refine ⟨_, congrArg Host.Outcome.next ((if_neg (by rw [hgo]; decide)).trans
    (congrArg (State.wr · (Reg.NET_MDIO_CMD_GO 0) 0) (if_pos (by rw [hop]; rfl)))), State.rd_wr_self .., ?_⟩
  exact (State.rd_wr_ne _ (by decide) _).trans (State.rd_wr_self ..)

theorem mdioDone_of_idle {d : Nat} {s : State} (hidle : s.on (Reg.NET_MDIO_CMD_GO 0) = false) : Answers (.mdioDone d) s fun t => t = s :=
  ⟨s, congrArg Host.Outcome.next (if_pos (by rw [hidle]; rfl)), rfl⟩

end Sys2Proof.Machine
end

section
/-! SUPPORT. Bytes that a port writes to shared SRAM (spec/00_scope.md R1; spec/17_memory_window.md R396, R404). -/

namespace Sys2Proof.Machine

/-! Memory. -/

/-- A store leaves the bytes below it and past it alone. -/
theorem State.byte_store_outside {s : State} {a : Nat} {bs : List Byte} {j : Nat} (h : j < a ∨ a + bs.length ≤ j) :
    (s.store a bs).byte j = s.byte j := by
  induction bs generalizing s a with
  | nil => rfl
  | cons b bs ih =>
    rw [List.length_cons] at h
    exact (ih (by omega)).trans (State.byte_setByte_ne s (by omega) b)

/-- A byte of a store reads what was stored. -/
theorem State.byte_store_within {s : State} {a : Nat} {bs : List Byte} {i : Nat} (h : i < bs.length) : (s.store a bs).byte (a + i) = bs[i] := by
  induction bs generalizing s a i with
  | nil => exact absurd h (Nat.not_lt_zero i)
  | cons b bs ih =>
    match i with
    | 0 => exact (State.byte_store_outside (.inl (Nat.lt_succ_self a))).trans (State.byte_setByte_self ..)
    | i + 1 =>
      rw [show a + (i + 1) = a + 1 + i by omega]
      exact ih (Nat.lt_of_succ_lt_succ h)

theorem State.bytes_congr {s t : State} {a n : Nat} (h : ∀ i < n, t.byte (a + i) = s.byte (a + i)) : t.bytes a n = s.bytes a n :=
  List.map_congr_left fun i hi => h i (List.mem_range.1 hi)

theorem slice_length {bs : List Byte} {o n : Nat} (h : o + n ≤ bs.length) : (slice bs o n).length = n := by
  rw [slice, List.length_take, List.length_drop]
  omega

/-- The bytes of a store read what was stored. -/
theorem State.bytes_store_within {s : State} {a : Nat} {bs : List Byte} {o n : Nat} (h : o + n ≤ bs.length) :
    (s.store a bs).bytes (a + o) n = slice bs o n := by
  refine List.ext_getElem ?_ fun i hi _ => ?_
  · rw [slice_length h, State.bytes, List.length_map, List.length_range]
  · have hin : i < n := by simpa [State.bytes] using hi
    simp only [State.bytes, slice, List.getElem_map, List.getElem_range, List.getElem_take, List.getElem_drop, Nat.add_assoc]
    exact State.byte_store_within (by omega)

theorem State.bytes_store_self (s : State) (a : Nat) (bs : List Byte) : (s.store a bs).bytes a bs.length = bs := by
  have h := State.bytes_store_within (s := s) (a := a) (bs := bs) (o := 0) (n := bs.length) (by omega)
  rwa [slice, List.drop_zero, List.take_length] at h

/-- A store leaves the bytes of an extent apart from it alone. -/
theorem State.bytes_store_outside {s : State} {a b n : Nat} {bs : List Byte} (h : b + n ≤ a ∨ a + bs.length ≤ b) :
    (s.store a bs).bytes b n = s.bytes b n :=
  State.bytes_congr fun i hi => State.byte_store_outside (by omega)

theorem leBytes_length (n v : Nat) : (leBytes n v).length = n := by
  rw [leBytes, List.length_map, List.length_range]

theorem le_leBytes_two (v : Nat) : le (leBytes 2 v) = v % 2 ^ 16 := by
  simp only [leBytes, List.range, List.range.loop, List.map_cons, List.map_nil, le, List.foldr_cons, List.foldr_nil, BitVec.toNat_ofNat,
    Nat.shiftRight_eq_div_pow]
  omega

/-- The two bytes of a number within a list. -/
theorem slice_leBytes_two {xs ys : List Byte} {o : Nat} (v : Nat) (h : xs.length = o) : slice (xs ++ (leBytes 2 v ++ ys)) o 2 = leBytes 2 v := by
  rw [slice, List.drop_left' h, List.take_left' (leBytes_length 2 v)]

/-! What a port changes while it handles a frame is nothing that says who may write where. -/

/-- The registers that a port changes as a frame leaves: its count of frames sent. -/
def portKeys : List Keys := [Keys.arr Reg.NET_CNT_TX_LO 2]

theorem State.store_frame (s : State) (a : Nat) (bs : List Byte) : Fr portKeys [.net, .mem] s (s.store a bs) :=
  Fr.step State.store_fr rfl rfl (Fr.refl s)

theorem Fr.mode {s t : State} (h : Fr portKeys [.net, .mem] s t) : t.mode = s.mode := by
  have hsa : t.sa = s.sa := h.zones .sa (by decide)
  have hvalid : ∀ b, t.rd (bankValid b) = s.rd (bankValid b) := fun b => by
    unfold bankValid
    split
    · exact h.rd (by decide) (by decide)
    · exact h.rd (by decide) (by decide)
  unfold State.mode State.image State.anyBank State.active State.bankImage State.plane
  simp (disch := decide) only [State.on, h.rd, hvalid, hsa]
  rfl

theorem Fr.wbGuard {s t : State} (h : Fr portKeys [.net, .mem] s t) : t.wbGuard = s.wbGuard := by
  have hlive : t.live = s.live := h.zones .live (by decide)
  have hft : t.ft = s.ft := h.zones .ft (by decide)
  have hbytes : ∀ sel, t.wbBytes sel = s.wbBytes sel := fun sel => by
    unfold State.wbBytes
    rw [h.mode, h.rd (by decide) (by decide)]
  unfold State.wbGuard State.lv
  simp only [hbytes, hlive, hft]

theorem Fr.protectedFrom {s t : State} (h : Fr portKeys [.net, .mem] s t) (w : Storer) (a : Nat) : t.protectedFrom w a = s.protectedFrom w a := by
  have hsa : t.sa = s.sa := h.zones .sa (by decide)
  unfold State.protectedFrom
  simp (disch := decide) only [State.on, h.rd, hsa, h.mode, h.wbGuard]

/-- A write to shared SRAM is accepted while the bank is ON and not fenced. -/
theorem State.chipWritable_shared {s : State} {m : Master} {a : Nat} (h : 0x10000000 ≤ a ∧ a < 0x10800000) :
    s.chipWritable m a = (s.domOpen (13 + bankOf a) && !s.on (Reg.FLT_FENCE_BANK (bankOf a))) := by
  unfold State.chipWritable State.readable
  rw [if_pos h, if_neg (by omega), if_neg (by omega), if_pos h]

/-- A read of shared SRAM succeeds where a write is accepted. -/
theorem State.readable_of_chipWritable {s : State} {m : Master} {a : Nat} (h : 0x10000000 ≤ a ∧ a < 0x10800000)
    (hchip : s.chipWritable m a = true) : s.readable a = true := by
  rwa [State.chipWritable, if_pos h] at hchip

theorem bankOf_lt {a : Nat} (h : 0x10000000 ≤ a ∧ a < 0x10800000) : bankOf a < 16 := by
  unfold bankOf
  omega

theorem Fr.domOpen {s t : State} (h : Fr portKeys [.net, .mem] s t) (d : Fin 29) : t.domOpen d = s.domOpen d := by
  have hpwr : t.pwr = s.pwr := h.zones .pwr (by decide)
  have hdom : t.rd (domFld d) = s.rd (domFld d) := h.rd_at (f := domFld) (by decide) d
  unfold State.domOpen State.domOn State.dom State.quiescing
  rw [hdom, hpwr]

theorem Fr.chipWritable {s t : State} (h : Fr portKeys [.net, .mem] s t) {m : Master} {a : Nat} (ha : 0x10000000 ≤ a ∧ a < 0x10800000) :
    t.chipWritable m a = s.chipWritable m a := by
  have hbank := bankOf_lt ha
  have hfence : t.on (Reg.FLT_FENCE_BANK (bankOf a)) = s.on (Reg.FLT_FENCE_BANK (bankOf a)) :=
    State.on_congr (h.rd_at (n := 16) (by decide) ⟨bankOf a, hbank⟩)
  rw [State.chipWritable_shared ha, State.chipWritable_shared ha, hfence, h.domOpen ⟨13 + bankOf a, by omega⟩]

/-- A descriptor lies within one bank. -/
theorem State.chipWritable_desc {s : State} {m : Master} {d o : Nat} (hd : d % 32 = 0) (hshared : inShared d 32 = true) (ho : o < 32) :
    s.chipWritable m (d + o) = s.chipWritable m d := by
  obtain ⟨hlow, hhigh⟩ := of_decide_eq_true hshared
  have hbank : bankOf (d + o) = bankOf d := by
    unfold bankOf
    omega
  rw [State.chipWritable_shared (by omega), State.chipWritable_shared (by omega), hbank]

/-! One block of shared SRAM (R396). -/

theorem blockParts_one {a : Nat} {data : List Byte} (hdata : data ≠ []) (hblock : a % 64 + data.length ≤ 64) :
    blockParts data.length a data = [(a, data)] := by
  obtain ⟨n, hn⟩ := Nat.exists_eq_succ_of_ne_zero (mt List.length_eq_zero_iff.1 hdata)
  have hfit : data.length ≤ 64 - a % 64 := by omega
  have hempty : data.isEmpty = false := by simpa using hdata
  rw [hn, blockParts, hempty]
  dsimp only
  rw [List.take_of_length_le hfit, List.drop_of_length_le hfit]
  cases n <;> rfl

/-- A port's write within one block of shared SRAM that nothing forbids is a store. -/
theorem State.rxWrite_chip {s : State} {r : Fin 2} {a : Nat} {data : List Byte} (hdata : data ≠ []) (hblock : a % 64 + data.length ≤ 64)
    (hlow : a < dramBase) (hprot : s.protectedFrom (.master (.netDma r)) a = false) (hchip : s.chipWritable (.netDma r) a = true)
    (errs : List (Fin 72 × Byte)) : s.rxWrite r a data errs = (s.store a data, none) := by
  have hpart : ∀ e, s.writePart (.master (.netDma r)) (s.actsFor (.netDma r)) a data e = (s.store a data, .written) := fun e => by
    unfold State.writePart
    dsimp only [Storer.name]
    rw [hprot, if_neg (by decide), if_pos hlow, if_pos hchip]
  unfold State.rxWrite State.storeTry
  rw [blockParts_one hdata hblock, List.foldl_cons, List.foldl_nil]
  dsimp only
  rw [hpart]
  rfl

/-- A descriptor in shared SRAM that nothing forbids to write is written back. -/
theorem State.descBack_chip {s : State} {r : Fin 2} {tx : Bool} {d o : Nat} {fields : List Byte} {flags : Byte} (hd : d % 32 = 0)
    (hshared : inShared d 32 = true) (hchip : s.chipWritable (.netDma r) d = true) (hfields : fields ≠ []) (ho : o + fields.length ≤ 32)
    (hprot : s.protectedFrom (.master (.netDma r)) (d + o) = false) (hprot5 : s.protectedFrom (.master (.netDma r)) (d + 5) = false) :
    s.descBack r tx d o fields flags = ((s.store (d + o) fields).store (d + 5) [flags], false) := by
  have hpos := List.length_pos_iff.2 hfields
  obtain ⟨hlow, hhigh⟩ := of_decide_eq_true hshared
  have hframe := s.store_frame (d + o) fields
  have hchip5 : (s.store (d + o) fields).chipWritable (.netDma r) (d + 5) = true := by
    rw [hframe.chipWritable (by omega), State.chipWritable_desc hd hshared (by decide), hchip]
  unfold State.descBack
  dsimp only
  rw [State.rxWrite_chip hfields (by omega) (by unfold dramBase; omega) hprot ((State.chipWritable_desc hd hshared (by omega)).trans hchip)]
  dsimp only
  rw [State.rxWrite_chip (by simp) (by simp; omega) (by unfold dramBase; omega) ((hframe.protectedFrom ..).trans hprot5) hchip5]

end Sys2Proof.Machine
end

section
/-! SUPPORT. The rings of the network ports: a stop, the next descriptor (spec/13_network_time.md R294, R296, R297). -/

namespace Sys2Proof.Machine

/-! A failed read of a ring (R297; spec/19 R455). -/

theorem State.fired_xingLost {s : State} {n : Nat} (hn : n < 128) (d : Nat) (h : s.fired n) : (s.xingLost d).fired n := by
  have hbit : Fr [Keys.arr Reg.PWRCTL_XING 32] [] s (s.wr (Reg.PWRCTL_XING (d % 32)) 1) :=
    Fr.wr (Reg.PWRCTL_XING_key (Nat.mod_lt d (by decide))) (by decide +kernel) (Fr.refl s)
  exact State.fired_fire_of_fired hn 116 (State.raise_fr.fired rfl hn (hbit.fired (by decide +kernel) hn h))

theorem State.fired_busErr {s : State} {n : Nat} (hn : n < 128) (m : Master) (a : Nat) (acc : Access) (h : s.fired n) :
    (s.busErr m a acc).fired n := State.busErr_fr.fired (by decide +kernel) hn h

/-- What a failed read does clears no pending bit. -/
theorem State.fired_readErr {s : State} {n : Nat} (hn : n < 128) (m : Master) (a : Nat) (h : s.fired n) : (s.readErr m a).fired n := by
  unfold State.readErr State.accErr State.closedCrossing
  split
  · exact h
  · split
    · exact State.fired_busErr hn _ _ _ h
    · split
      · exact State.fired_busErr hn _ _ _ h
      · exact State.fired_xingLost hn _ (State.fired_busErr hn _ _ _ h)

/-- The ring has stopped, before anything tells of it. -/
def State.ringStopped (s : State) (n : Fin 2) (tx : Bool) : State :=
  { s with net := if tx then { s.net with txStopped := s.net.txStopped.set n true } else { s.net with rxStopped := s.net.rxStopped.set n true } }

theorem State.ringStop_eq (s : State) (n : Fin 2) (tx : Bool) (a : Nat) (acc : Access) :
    s.ringStop n tx a acc = (((s.ringStopped n tx).wr (Reg.NET_STATUS_DMA_ERR n) 1).fire 54).raiseOcc
      { src := FLT_NET_DMA, unit := some n, addr := a, master := .netDma n, access := acc } := rfl

theorem State.ringStop_net (s : State) (n : Fin 2) (tx : Bool) (a : Nat) (acc : Access) :
    (s.ringStop n tx a acc).net = (s.ringStopped n tx).net := by
  rw [State.ringStop_eq, show State.net (State.raiseOcc _ _) = _ from State.raiseOcc_fr.zones .net (by decide), State.fire_net]
  rfl

theorem State.fired_ringStop {s : State} {k : Nat} (hk : k < 128) (n : Fin 2) (tx : Bool) (a : Nat) (acc : Access) (h : s.fired k) :
    (s.ringStop n tx a acc).fired k := by
  have herr : Fr [Keys.arr Reg.NET_STATUS_DMA_ERR 2] [.net] s ((s.ringStopped n tx).wr (Reg.NET_STATUS_DMA_ERR n) 1) :=
    Fr.wr (Reg.NET_STATUS_DMA_ERR_key n.isLt) (by decide +kernel) (Fr.set_net rfl (Fr.refl s))
  exact State.raiseOcc_fr.fired rfl hk (State.fired_fire_of_fired hk 54 (herr.fired (by decide +kernel) hk h))

/-- A stop of a ring shows in DMA_ERR and is a fault. -/
theorem State.ringStop_tells (s : State) (n : Fin 2) (tx : Bool) (a : Nat) (acc : Access) :
    (s.ringStop n tx a acc).rd (Reg.NET_STATUS_DMA_ERR n) = 1 ∧ (s.ringStop n tx a acc).hasRaised FLT_NET_DMA := by
  rw [State.ringStop_eq]
  refine ⟨?_, State.raiseOcc_hasRaised _ (show ¬ (48 ≤ FLT_NET_DMA ∧ FLT_NET_DMA ≤ 54) by decide)⟩
  calc _ = _ := State.raiseOcc_fr.rd_at (by decide) n
    _ = _ := State.rd_fire_at (by decide)
    _ = 1 := State.rd_wr_self ..

theorem State.readErr_net (s : State) (m : Master) (a : Nat) : (s.readErr m a).net = s.net := State.readErr_fr.zones .net (by decide)

theorem State.ringRead_txStopped (s : State) (n : Fin 2) (a : Nat) : (s.ringRead n true a).net.txStopped[n] = true := by
  rw [State.ringRead, State.ringStop_net]
  exact Vector.getElem_set_self ..

theorem State.ringRead_out (s : State) (n : Fin 2) (a : Nat) : (s.ringRead n true a).net.out = s.net.out := by
  rw [State.ringRead, State.ringStop_net]
  calc _ = (s.readErr (.netDma n) a).net.out := rfl
    _ = _ := congrArg Net.out (State.readErr_net ..)

/-! The next descriptor (R294). -/

/-- What the read of a transmit descriptor may change of the registers. -/
def txScanKeys : List Keys := busKeys ++ [Keys.arr Reg.NET_STATUS_DMA_ERR 2]

theorem State.txScan_frame (s : State) (n : Fin 2) (ue : Bool) : Fr txScanKeys (.net :: eventZones) s (s.txScan n ue) :=
  Fr.step State.txScan_fr (by decide +kernel) (by decide) (Fr.refl s)

theorem State.txScan_out (s : State) (n : Fin 2) (ue : Bool) : (s.txScan n ue).net.out = s.net.out := by
  unfold State.txScan
  dsimp only
  split
  · exact State.ringRead_out ..
  · rfl

theorem State.fired_txScan {s : State} {k : Nat} (hk : k < 128) (n : Fin 2) (ue : Bool) (h : s.fired k) : (s.txScan n ue).fired k := by
  unfold State.txScan
  dsimp only
  split
  · exact State.fired_ringStop hk _ _ _ _ (State.fired_readErr hk _ _ h)
  · exact h

theorem ringSize_le (w : Nat) : ringSize w ≤ 2 ^ 10 := Nat.pow_le_pow_right (by decide) (by omega)

/-- The head that follows `h` fits its field. -/
theorem nextHead_lt (h w : Nat) : (h + 1) % ringSize w < 2 ^ 10 :=
  Nat.lt_of_lt_of_le (Nat.mod_lt _ (Nat.two_pow_pos _)) (ringSize_le w)

theorem State.rd_rxNext (s : State) (n : Fin 2) :
    (s.rxNext n).rd (Reg.NET_HEAD_RX_HEAD n) = (s.rd (Reg.NET_HEAD_RX_HEAD n) + 1) % ringSize (s.rd (Reg.NET_RXRING_SIZE n)) :=
  (State.rd_wr_self ..).trans (Nat.mod_eq_of_lt (nextHead_lt ..))

theorem State.rd_txNext (s : State) (n : Fin 2) :
    (s.txNext n).rd (Reg.NET_HEAD_TX_HEAD n) = (s.rd (Reg.NET_HEAD_TX_HEAD n) + 1) % ringSize (s.rd (Reg.NET_TXRING_SIZE n)) :=
  (State.rd_wr_self ..).trans (Nat.mod_eq_of_lt (nextHead_lt ..))

end Sys2Proof.Machine
end

section
/-! SUPPORT. NET_FRAME_RX: what is not received, and a frame that is stored (spec/13_network_time.md R292, R294, R295). -/

namespace Sys2Proof.Machine

/-! What is not received. -/

/-- NET_FRAME_RX: nothing arrives at a port that is off, or without link, or looped back. -/
theorem exec_netFrameRx_unreached {n : Fin 2} {x : List Byte} {tr : NetTrouble} {e : List (Fin 72 × Byte)} {s : State}
    (h : (!s.on (Reg.NET_CTRL_EN n) || !s.on (Reg.NET_STATUS_LINK n) || !s.netReaches n x) = true) :
    exec (.netFrameRx n x tr e) s = .next s := congrArg Host.Outcome.next (if_pos h)

section
variable {n : Fin 2} {x : List Byte} {s : State} (hon : s.on (Reg.NET_CTRL_EN n) = true) (hlink : s.on (Reg.NET_STATUS_LINK n) = true)
  (hreach : s.netReaches n x = true)
include hon hlink hreach

/-- A frame that arrives at the port. -/
theorem netFrameRx_reached : ¬ (!s.on (Reg.NET_CTRL_EN n) || !s.on (Reg.NET_STATUS_LINK n) || !s.netReaches n x) = true := by
  rw [hon, hlink, hreach]
  decide

theorem netFrameRx_overflows {e : List (Fin 72 × Byte)} :
    Answers (.netFrameRx n x .overflow e) s fun t =>
      t.rd (Reg.NET_STATUS_RX_OVF n) = 1 ∧ t.rd (Reg.NET_CNT_ERR_HI n) = s.counted (Reg.NET_CNT_ERR_HI n) ∧ t.fired 54 := by
  refine ⟨_, congrArg Host.Outcome.next ((if_neg (netFrameRx_reached hon hlink hreach)).trans (if_pos rfl)), ?_, ?_,
    State.fired_fire_self _ (by decide)⟩
  · calc _ = _ := State.rd_fire_at (by decide)
      _ = _ := State.rd_inc_apart (by decide)
      _ = 1 := State.rd_wr_self ..
  · calc _ = _ := State.rd_fire_at (by decide)
      _ = _ := State.rd_inc_self ..
      _ = _ := State.counted_congr (State.rd_wr_apart (by decide))

theorem netFrameRx_drops {tr : NetTrouble} {e : List (Fin 72 × Byte)} (htr : tr ≠ .overflow) (hdamaged : s.frameWhole n x = false) :
    Answers (.netFrameRx n x tr e) s fun t => t.rd (Reg.NET_CNT_RX_HI n) = s.counted (Reg.NET_CNT_RX_HI n) :=
  ⟨_, congrArg Host.Outcome.next ((if_neg (netFrameRx_reached hon hlink hreach)).trans ((if_neg htr).trans (if_pos (by rw [hdamaged]; rfl)))),
    State.rd_inc_self ..⟩

end

/-! A frame that passes. -/

/-- A plain frame as it goes to the ring. -/
def plainRx (n : Fin 2) (f : List Byte) : RxFrame := { port := n, data := f, seq := none, wrong := false, safe := false }

/-- The frame `x` that arrives at port `n` passes every check and filter, as the plain frame `f`. -/
structure RxPasses (s : State) (n : Fin 2) (x f : List Byte) : Prop where
  on : s.on (Reg.NET_CTRL_EN n) = true
  link : s.on (Reg.NET_STATUS_LINK n) = true
  reaches : s.netReaches n x = true
  whole : s.frameWhole n x = true
  data : x.take (x.length - 4) = f
  noPause : s.on (Reg.NET_CTRL_PAUSE_EN n) = false
  vlan : s.vlanOk n f = true
  addr : s.addrPass n f = true
  noPrp : s.on (Reg.NET_CTRL_PRP_EN 0) = false
  plain : s.safeOf f = none

theorem exec_netFrameRx_passes {s : State} {n : Fin 2} {x f : List Byte} (h : RxPasses s n x f) :
    exec (.netFrameRx n x .none []) s = .next (s.deliver n (plainRx n f) false []) := by
  obtain ⟨hon, hlink, hreach, hwhole, rfl, hpause, hvlan, haddr, hprp, hplain⟩ := h
  refine congrArg Host.Outcome.next ((if_neg (netFrameRx_reached hon hlink hreach)).trans ((if_neg (by decide)).trans ((if_neg ?_).trans ?_)))
  · rw [hwhole]
    decide
  · simp only [hpause, hvlan, haddr, hprp, hplain, Bool.false_and, Bool.not_true, Bool.or_self, Bool.false_eq_true, ↓reduceIte, Option.isSome_none]
    rfl

/-- The descriptor at the head of the receive ring of port `n` is the port's, and its buffer at `a` takes `l` bytes. -/
structure RxRoom (s : State) (n : Fin 2) (a l : Nat) : Prop where
  runs : s.net.rxStopped[n] = false
  readable : s.readable (s.rxDesc n) = true
  hw : (s.byte (s.rxDesc n + 5)).toNat.testBit 0 = true
  buffer : s.num (s.rxDesc n) 5 % 2 ^ 36 = a
  room : l ≤ s.num (s.rxDesc n + 6) 2
  shared : inShared a l = true
  owned : (s.slotsOf a l).all (fun k => !s.slotBlocks k (s.actsFor (.netDma n))) = true

theorem State.deliver_stores {s : State} {n : Fin 2} {a : Nat} {x : RxFrame} (h : RxRoom s n a x.data.length)
    (hwrite : (s.rxWrite n a x.data []).2 = none) :
    s.deliver n x false [] = (s.rxWrite n a x.data []).1.rxWriteBack n (s.rxDesc n) x false := by
  obtain ⟨hruns, hread, hhw, rfl, hroom, hshared, howned⟩ := h
  unfold State.deliver
  simp only [hruns, hread, hhw, Nat.not_lt.2 hroom, hshared, howned, hwrite, Bool.not_true, Bool.or_self, Bool.false_and, Bool.false_eq_true,
    ↓reduceIte]

theorem netFrameRx_stores {s : State} {n : Fin 2} {x f : List Byte} {a : Nat} (hpasses : RxPasses s n x f) (hroom : RxRoom s n a f.length)
    (hwrite : (s.rxWrite n a f []).2 = none) :
    exec (.netFrameRx n x .none []) s = .next ((s.rxWrite n a f []).1.rxWriteBack n (s.rxDesc n) (plainRx n f) false) :=
  (exec_netFrameRx_passes hpasses).trans (congrArg Host.Outcome.next (State.deliver_stores (x := plainRx n f) hroom hwrite))

/-! The write-back (R295). -/

/-- What the write-back of a received frame stores from byte 8 of its descriptor: its length first. -/
def State.rxFields (s : State) (x : RxFrame) : List Byte :=
  let ts := s.stamps (-(s.rd (Reg.NET_TS_LAT_RX_LAT x.port) : Int))
  leBytes 2 x.data.length ++ leBytes 2 (x.status + 128 * ts.2 + 512 * b2n false) ++ leBytes 2 (x.seq.getD 0) ++ leBytes 1 x.port.val ++ [0] ++
    ts.1 ++ [0, 0, 0, 0]

theorem State.stamps_length (s : State) (lat : Int) : (s.stamps lat).1.length = 12 := by
  simp [State.stamps, leBytes_length]

theorem State.rxFields_length (s : State) (x : RxFrame) : (s.rxFields x).length = 24 := by
  simp [State.rxFields, leBytes_length, State.stamps_length]

theorem State.rxFields_size (s : State) (x : RxFrame) : le (slice (s.rxFields x) 0 2) = x.data.length % 2 ^ 16 := by
  rw [← le_leBytes_two]
  simp only [State.rxFields, List.append_assoc]
  exact congrArg le (slice_leBytes_two (xs := []) _ rfl)

/-- The ring of port `n` goes on after a frame that it has taken. -/
def State.rxDone (s : State) (n : Fin 2) : State := ((s.rxNext n).inc (Reg.NET_CNT_RX_LO n)).rxEvent n

theorem State.rxWriteBack_done {s t : State} {d : Nat} {x : RxFrame} (h : s.descBack x.port false d 8 (s.rxFields x) 0 = (t, false)) :
    s.rxWriteBack x.port d x false = t.rxDone x.port := by
  unfold State.rxFields at h
  unfold State.rxWriteBack
  dsimp only at h ⊢
  rw [h]
  rfl

theorem State.rxDone_byte (s : State) (n : Fin 2) (j : Nat) : (s.rxDone n).byte j = s.byte j := State.rxEvent_fr.byte (by decide) j

theorem State.rd_rxDone_head (s : State) (n : Fin 2) :
    (s.rxDone n).rd (Reg.NET_HEAD_RX_HEAD n) = (s.rd (Reg.NET_HEAD_RX_HEAD n) + 1) % ringSize (s.rd (Reg.NET_RXRING_SIZE n)) :=
  calc _ = _ := State.rxEvent_fr.rd_at (by decide) n
    _ = _ := State.rd_inc_apart (by decide)
    _ = _ := State.rd_rxNext ..

theorem State.rd_rxDone_count (s : State) (n : Fin 2) : (s.rxDone n).rd (Reg.NET_CNT_RX_LO n) = s.counted (Reg.NET_CNT_RX_LO n) :=
  calc _ = _ := State.rxEvent_fr.rd_at (by decide) n
    _ = _ := State.rd_inc_self ..
    _ = _ := State.counted_congr (State.rd_wr_apart (by decide))

theorem State.rxDue_congr {s t : State} {n : Fin 2} (hnet : t.net = s.net) (hnow : t.now = s.now)
    (hrd : t.rd (Reg.NET_RXCFG_RX_HOLDOFF n) = s.rd (Reg.NET_RXCFG_RX_HOLDOFF n)) : t.rxDue n = s.rxDue n := by
  unfold State.rxDue
  rw [hnet, hnow, hrd]

theorem State.rxDone_fired {s : State} {n : Fin 2} (hdue : s.rxDue n = true) : (s.rxDone n).fired (48 + 3 * n) := by
  have hrd : ((s.rxNext n).inc (Reg.NET_CNT_RX_LO n)).rd (Reg.NET_RXCFG_RX_HOLDOFF n) = s.rd (Reg.NET_RXCFG_RX_HOLDOFF n) :=
    (State.rd_inc_apart (by decide)).trans (State.rd_wr_apart (by decide))
  have hsame : ((s.rxNext n).inc (Reg.NET_CNT_RX_LO n)).rxDue n = s.rxDue n :=
    State.rxDue_congr (State.wr_net ..) (State.wr_now ..) hrd
  unfold State.rxDone State.rxEvent
  rw [hsame, if_pos hdue]
  exact State.fired_fire_self _ (by omega)

/-! One block of shared SRAM. -/

/-- The frame stored at `a` and its descriptor at `d` written back. -/
def State.rxStored (s : State) (d a : Nat) (x : RxFrame) : State :=
  ((s.store a x.data).store (d + 8) ((s.store a x.data).rxFields x)).store (d + 5) [0]

theorem State.rxStored_frame (s : State) (d a : Nat) (x : RxFrame) : Fr [] [.mem] s (s.rxStored d a x) :=
  Fr.step State.store_fr rfl rfl (Fr.step State.store_fr rfl rfl (Fr.step State.store_fr rfl rfl (Fr.refl s)))

theorem State.rxStored_size (s : State) (d a : Nat) (x : RxFrame) : (s.rxStored d a x).num (d + 8) 2 = x.data.length % 2 ^ 16 := by
  have hlength := (s.store a x.data).rxFields_length x
  rw [State.num, State.rxStored, State.bytes_store_outside (by simp), ← State.rxFields_size (s.store a x.data) x]
  exact congrArg le (State.bytes_store_within (o := 0) (by omega))

theorem State.rxStored_hw (s : State) (d a : Nat) (x : RxFrame) : (s.rxStored d a x).byte (d + 5) = 0 :=
  State.byte_store_within (bs := [0]) (i := 0) Nat.one_pos

/-- The frame stays where it was stored, apart from its descriptor. -/
theorem State.rxStored_data {s : State} {d a : Nat} {x : RxFrame} (hapart : d + 32 ≤ a ∨ a + x.data.length ≤ d) :
    (s.rxStored d a x).bytes a x.data.length = x.data := by
  have hlength := (s.store a x.data).rxFields_length x
  rw [State.rxStored, State.bytes_store_outside (by simp; omega), State.bytes_store_outside (by omega), State.bytes_store_self]

/-- The descriptor at `d` lies in shared SRAM, and nothing forbids port `n` to write it from byte `o` and its flags. -/
structure DescOpen (s : State) (n : Fin 2) (d o : Nat) : Prop where
  aligned : d % 32 = 0
  shared : inShared d 32 = true
  chip : s.chipWritable (.netDma n) d = true
  fields : s.protectedFrom (.master (.netDma n)) (d + o) = false
  flags : s.protectedFrom (.master (.netDma n)) (d + 5) = false

theorem DescOpen.range {s : State} {n : Fin 2} {d o : Nat} (h : DescOpen s n d o) : 0x10000000 ≤ d ∧ d < 0x10800000 := by
  obtain ⟨hlow, hhigh⟩ := of_decide_eq_true h.shared
  omega

/-- Nothing that a port does on the way to the write-back closes the descriptor. -/
theorem DescOpen.after {s t : State} {n : Fin 2} {d o : Nat} (h : DescOpen s n d o) (hframe : Fr portKeys [.net, .mem] s t) : DescOpen t n d o :=
  ⟨h.aligned, h.shared, (hframe.chipWritable h.range).trans h.chip, (hframe.protectedFrom ..).trans h.fields,
    (hframe.protectedFrom ..).trans h.flags⟩

theorem DescOpen.descBack {s : State} {n : Fin 2} {d o : Nat} (h : DescOpen s n d o) {tx : Bool} {fields : List Byte} {flags : Byte}
    (hfields : fields ≠ []) (ho : o + fields.length ≤ 32) :
    s.descBack n tx d o fields flags = ((s.store (d + o) fields).store (d + 5) [flags], false) :=
  State.descBack_chip h.aligned h.shared h.chip hfields ho h.fields h.flags

theorem State.rxDesc_aligned (s : State) (n : Nat) : s.rxDesc n % 32 = 0 := by
  unfold State.rxDesc
  omega

theorem State.txDesc_aligned (s : State) (n : Nat) : s.txDesc n % 32 = 0 := by
  unfold State.txDesc
  omega

/-- A frame that fits one block of shared SRAM is stored there and its descriptor written back. -/
theorem State.rxStored_done {s : State} {d a : Nat} {x : RxFrame} (hopen : DescOpen s x.port d 8) :
    (s.store a x.data).rxWriteBack x.port d x false = (s.rxStored d a x).rxDone x.port := by
  have hlength := (s.store a x.data).rxFields_length x
  exact State.rxWriteBack_done ((hopen.after (s.store_frame a x.data)).descBack (List.ne_nil_of_length_pos (by omega)) (by omega))

/-- A whole frame holds data. -/
theorem RxPasses.data_ne_nil {s : State} {n : Fin 2} {x f : List Byte} (h : RxPasses s n x f) : f ≠ [] := by
  have hwhole := h.whole
  unfold State.frameWhole at hwhole
  obtain ⟨hlength, -⟩ := Bool.and_eq_true_iff.1 hwhole
  have hmin := (of_decide_eq_true hlength).1
  refine List.ne_nil_of_length_pos ?_
  rw [← h.data, List.length_take]
  omega

theorem exec_netFrameRx_block {s : State} {n : Fin 2} {x f : List Byte} {a : Nat} (hpasses : RxPasses s n x f) (hroom : RxRoom s n a f.length)
    (hblock : a % 64 + f.length ≤ 64) (hchip : s.chipWritable (.netDma n) a = true) (hprot : s.protectedFrom (.master (.netDma n)) a = false)
    (hopen : DescOpen s n (s.rxDesc n) 8) :
    exec (.netFrameRx n x .none []) s = .next ((s.rxStored (s.rxDesc n) a (plainRx n f)).rxDone n) := by
  have hpos := List.length_pos_iff.2 hpasses.data_ne_nil
  obtain ⟨hlow, hhigh⟩ := of_decide_eq_true hroom.shared
  have hwrite := State.rxWrite_chip hpasses.data_ne_nil hblock (by unfold dramBase; omega) hprot hchip []
  rw [netFrameRx_stores hpasses hroom (congrArg Prod.snd hwrite), hwrite]
  exact congrArg Host.Outcome.next (State.rxStored_done (x := plainRx n f) hopen)

/-- NET_FRAME_RX: a plain frame into one block of shared SRAM. -/
theorem netFrameRx_block {s : State} {n : Fin 2} {x f : List Byte} {a : Nat} (hpasses : RxPasses s n x f) (hroom : RxRoom s n a f.length)
    (hblock : a % 64 + f.length ≤ 64) (hchip : s.chipWritable (.netDma n) a = true) (hprot : s.protectedFrom (.master (.netDma n)) a = false)
    (hopen : DescOpen s n (s.rxDesc n) 8) (hapart : s.rxDesc n + 32 ≤ a ∨ a + f.length ≤ s.rxDesc n) :
    Answers (.netFrameRx n x .none []) s fun t =>
      t.bytes a f.length = f ∧ t.byte (s.rxDesc n + 5) = 0 ∧ t.num (s.rxDesc n + 8) 2 = f.length ∧
        t.rd (Reg.NET_HEAD_RX_HEAD n) = (s.rd (Reg.NET_HEAD_RX_HEAD n) + 1) % ringSize (s.rd (Reg.NET_RXRING_SIZE n)) ∧
      t.rd (Reg.NET_CNT_RX_LO n) = s.counted (Reg.NET_CNT_RX_LO n) ∧ (s.rxDue n = true → t.fired (48 + 3 * n)) := by
  have hframe := s.rxStored_frame (s.rxDesc n) a (plainRx n f)
  refine ⟨_, exec_netFrameRx_block hpasses hroom hblock hchip hprot hopen, ?_, ?_, ?_, ?_, ?_, fun hdue => State.rxDone_fired ?_⟩
  · exact (State.bytes_congr fun _ _ => State.rxDone_byte ..).trans (State.rxStored_data (x := plainRx n f) hapart)
  · exact (State.rxDone_byte ..).trans (State.rxStored_hw ..)
  · calc _ = (s.rxStored (s.rxDesc n) a (plainRx n f)).num (s.rxDesc n + 8) 2 := congrArg le (State.bytes_congr fun _ _ => State.rxDone_byte ..)
      _ = f.length % 2 ^ 16 := State.rxStored_size ..
      _ = f.length := Nat.mod_eq_of_lt (by omega)
  · rw [State.rd_rxDone_head, hframe.rd_at (f := Reg.NET_HEAD_RX_HEAD) (by decide) n, hframe.rd_at (f := Reg.NET_RXRING_SIZE) (by decide) n]
  · exact (State.rd_rxDone_count ..).trans (State.counted_congr (hframe.rd_at (by decide) n))
  · exact (State.rxDue_congr (hframe.zones .net (by decide)) hframe.now (hframe.rd_at (by decide) n)).trans hdue

end Sys2Proof.Machine
end

section
/-! SUPPORT. NET_FRAME_TX: a ring that does not go on, and a plain frame that leaves (spec/13_network_time.md R294, R296, R297). -/

namespace Sys2Proof.Machine

/-- NET_FRAME_TX: a port that is off, idle, stopped or paused sends nothing. -/
theorem exec_netFrameTx_idle {n : Fin 2} {u : TxTrouble} {s : State}
    (h : (!s.on (Reg.NET_CTRL_EN n) || !s.net.txRun[n] || s.net.txStopped[n] || decide (s.now < s.net.pause[n])) = true) :
    exec (.netFrameTx n u) s = .next s := congrArg Host.Outcome.next (if_pos h)

/-- Port `n` goes on with its transmit ring. -/
structure TxRuns (s : State) (n : Fin 2) : Prop where
  on : s.on (Reg.NET_CTRL_EN n) = true
  run : s.net.txRun[n] = true
  going : s.net.txStopped[n] = false
  unpaused : s.net.pause[n] ≤ s.now

theorem TxRuns.ready {s : State} {n : Fin 2} (h : TxRuns s n) :
    ¬ (!s.on (Reg.NET_CTRL_EN n) || !s.net.txRun[n] || s.net.txStopped[n] || decide (s.now < s.net.pause[n])) = true := by
  rw [h.on, h.run, h.going, decide_eq_false (Nat.not_lt.2 h.unpaused)]
  decide

theorem netFrameTx_stops {n : Fin 2} {u : TxTrouble} {s : State} (hruns : TxRuns s n) (hunread : s.readable (s.txDesc n) = false) :
    Answers (.netFrameTx n u) s fun t =>
      t.rd (Reg.NET_STATUS_DMA_ERR n) = 1 ∧ t.net.txStopped[n] = true ∧ t.hasRaised FLT_NET_DMA := by
  obtain ⟨herr, hfault⟩ := (s.readErr (.netDma n) (s.txDesc n)).ringStop_tells n true (s.txDesc n) .read
  exact ⟨s.ringRead n true (s.txDesc n), congrArg Host.Outcome.next ((if_neg hruns.ready).trans (if_pos (.inr (by rw [hunread]; rfl)))), herr,
    State.ringRead_txStopped .., hfault⟩

theorem netFrameTx_ends {n : Fin 2} {u : TxTrouble} {s : State} (hruns : TxRuns s n) (hread : s.readable (s.txDesc n) = true)
    (htrouble : u ≠ .descriptor) (hhw : (s.byte (s.txDesc n + 5)).toNat.testBit 0 = false) :
    Answers (.netFrameTx n u) s fun t => t.net.txRun[n] = false := by
  have hscan : (s.txScan n false).net.txRun[n] = false := by
    unfold State.txScan
    dsimp only
    rw [if_neg (by rw [hread]; decide), hhw]
    exact Vector.getElem_set_self ..
  refine ⟨s.txScan n false, congrArg Host.Outcome.next ((if_neg hruns.ready).trans ((if_neg ?_).trans (if_pos (by rw [hhw]; rfl)))), hscan⟩
  rw [hread]
  exact not_or.2 ⟨htrouble, by decide⟩

/-! A frame that leaves. -/

/-- The descriptor at the head of the transmit ring of port `n` gives a frame of `l` bytes of shared SRAM at `a`. -/
structure TxReady (s : State) (n : Fin 2) (a l : Nat) : Prop where
  readable : s.readable (s.txDesc n) = true
  hw : (s.byte (s.txDesc n + 5)).toNat.testBit 0 = true
  twin : s.twinPaused n (s.byte (s.txDesc n + 5)).toNat = false
  buffer : s.num (s.txDesc n) 5 % 2 ^ 36 = a
  size : s.num (s.txDesc n + 6) 2 = l
  long : 14 ≤ l
  short : l ≤ s.maxLen n - 4
  shared : inShared a l = true
  reads : s.canRead a l = true

theorem exec_netFrameTx_sends {n : Fin 2} {s : State} {a l : Nat} (hruns : TxRuns s n) (h : TxReady s n a l) :
    exec (.netFrameTx n .none) s = .next (s.txGo n (s.txDesc n) (s.bytes a l) false) := by
  obtain ⟨hread, hhw, htwin, rfl, rfl, hlong, hshort, hshared, hreads⟩ := h
  have hgood : s.badAt (s.num (s.txDesc n) 5 % 2 ^ 36) (s.num (s.txDesc n + 6) 2) = none := Option.isNone_iff_eq_none.1 hreads
  refine congrArg Host.Outcome.next ((if_neg hruns.ready).trans ((if_neg ?_).trans ((if_neg ?_).trans ((if_neg ?_).trans ?_))))
  · rw [hread]
    decide
  · rw [hhw]
    decide
  · rw [htwin]
    decide
  · simp only [hgood, hshared, Nat.not_lt.2 hlong, Nat.not_lt.2 hshort, or_self, Bool.not_true, Bool.false_and, Bool.false_eq_true, ↓reduceIte]
    rfl

/-- A frame without a one-step rewrite leaves as it is. -/
theorem oneStep_off (f : List Byte) (t ingress : Nat) : oneStep f false false t ingress = (f, false) := by
  unfold oneStep
  split
  · rfl
  · simp

/-- A plain frame leaves padded, and its descriptor is written back. -/
theorem State.txGo_plain {s : State} {n : Fin 2} {d : Nat} (hflags : s.byte (d + 5) = 1) (f : List Byte) (ue : Bool) :
    s.txGo n d f ue = (s.netSend n (padFrame f)).txWriteBack n d (s.stamps (s.rd (Reg.NET_TS_LAT_TX_LAT n))).1
      (1 + 16 * (s.stamps (s.rd (Reg.NET_TS_LAT_TX_LAT n))).2) ue := by
  have hbit1 : Nat.testBit 1 1 = false := by decide
  have hbit2 : Nat.testBit 1 2 = false := by decide
  have hbit4 : Nat.testBit 1 4 = false := by decide
  have hbit5 : Nat.testBit 1 5 = false := by decide
  have hfl : (s.byte (d + 5)).toNat = 1 := by rw [hflags]; rfl
  unfold State.txGo
  simp only [hfl, hbit1, hbit2, hbit4, hbit5, oneStep_off, Bool.and_false, Bool.false_and, Bool.false_eq_true, ↓reduceIte, b2n, Nat.mul_zero,
    Nat.add_zero]

/-! The write-back (R296). -/

/-- What the write-back of a sent frame stores from byte 12 of its descriptor: its status at byte 28. -/
def txFields (ts : List Byte) (st : Nat) : List Byte := [0, 0, 0, 0] ++ ts ++ leBytes 2 st ++ [0, 0]

theorem txFields_length {ts : List Byte} (st : Nat) (hts : ts.length = 12) : (txFields ts st).length = 20 := by
  simp [txFields, leBytes_length, hts]

theorem txFields_status {ts : List Byte} (st : Nat) (hts : ts.length = 12) : le (slice (txFields ts st) 16 2) = st % 2 ^ 16 := by
  rw [← le_leBytes_two]
  unfold txFields
  rw [List.append_assoc]
  exact congrArg le (slice_leBytes_two _ (by simp [hts]))

/-- The ring of port `n` goes on after a frame that has left. -/
def State.txDone (s : State) (n : Fin 2) (ue : Bool) : State := ((s.txNext n).fire (49 + 3 * n)).txScan n ue

theorem State.txDone_byte (s : State) (n : Fin 2) (ue : Bool) (j : Nat) : (s.txDone n ue).byte j = s.byte j :=
  ((State.txScan_frame _ n ue).byte (by decide) j).trans ((State.fire_frame _ _).byte (by decide) j)

theorem State.txDone_out (s : State) (n : Fin 2) (ue : Bool) : (s.txDone n ue).net.out = s.net.out :=
  (State.txScan_out ..).trans (congrArg Net.out (State.fire_net ..))

theorem State.txDone_fired (s : State) (n : Fin 2) (ue : Bool) : (s.txDone n ue).fired (49 + 3 * n) :=
  State.fired_txScan (by omega) n ue (State.fired_fire_self _ (by omega))

theorem State.rd_txDone_head (s : State) (n : Fin 2) (ue : Bool) :
    (s.txDone n ue).rd (Reg.NET_HEAD_TX_HEAD n) = (s.rd (Reg.NET_HEAD_TX_HEAD n) + 1) % ringSize (s.rd (Reg.NET_TXRING_SIZE n)) :=
  calc _ = _ := (State.txScan_frame _ n ue).rd_at (by decide) n
    _ = _ := State.rd_fire_at (by decide)
    _ = _ := State.rd_txNext ..

theorem State.rd_txDone_count (s : State) (n : Fin 2) (ue : Bool) : (s.txDone n ue).rd (Reg.NET_CNT_TX_LO n) = s.rd (Reg.NET_CNT_TX_LO n) :=
  calc _ = _ := (State.txScan_frame _ n ue).rd_at (by decide) n
    _ = _ := State.rd_fire_at (by decide)
    _ = _ := State.rd_wr_apart (by decide)

theorem State.netSend_frame (s : State) (n : Fin 2) (f : List Byte) : Fr portKeys [.net, .mem] s (s.netSend n f) :=
  Fr.step State.netSend_fr (by decide +kernel) rfl (Fr.refl s)

theorem State.netSend_out (s : State) (n : Fin 2) (f : List Byte) :
    (s.netSend n f).net.out[n] = s.net.out[n] ++ [f ++ leBytes 4 (crc32 f)] := Vector.getElem_set_self ..

theorem State.rd_netSend_count (s : State) (n : Fin 2) (f : List Byte) :
    (s.netSend n f).rd (Reg.NET_CNT_TX_LO n) = s.counted (Reg.NET_CNT_TX_LO n) := State.rd_inc_self ..

/-- The frame `p` sent and its descriptor at `d` written back. -/
def State.txStored (s : State) (n : Fin 2) (d : Nat) (p ts : List Byte) (st : Nat) : State :=
  ((s.netSend n p).store (d + 12) (txFields ts st)).store (d + 5) [0]

theorem State.txStored_frame (s : State) (n : Fin 2) (d : Nat) (p ts : List Byte) (st : Nat) :
    Fr [] [.mem] (s.netSend n p) (s.txStored n d p ts st) :=
  Fr.step State.store_fr rfl rfl (Fr.step State.store_fr rfl rfl (Fr.refl _))

theorem State.txStored_net (s : State) (n : Fin 2) (d : Nat) (p ts : List Byte) (st : Nat) :
    (s.txStored n d p ts st).net = (s.netSend n p).net := (s.txStored_frame n d p ts st).zones .net (by decide)

theorem State.txStored_hw (s : State) (n : Fin 2) (d : Nat) (p ts : List Byte) (st : Nat) : (s.txStored n d p ts st).byte (d + 5) = 0 :=
  State.byte_store_within (bs := [0]) (i := 0) Nat.one_pos

theorem State.txStored_status (s : State) (n : Fin 2) (d : Nat) (p : List Byte) {ts : List Byte} (st : Nat) (hts : ts.length = 12) :
    (s.txStored n d p ts st).num (d + 28) 2 = st % 2 ^ 16 := by
  have hlength := txFields_length st hts
  rw [State.num, State.txStored, State.bytes_store_outside (by simp), ← txFields_status st hts]
  exact congrArg le (State.bytes_store_within (a := d + 12) (o := 16) (by omega))

theorem State.txStored_done {s : State} {n : Fin 2} {d : Nat} (hopen : DescOpen s n d 12) (hflags : s.byte (d + 5) = 1) (p : List Byte)
    {ts : List Byte} (st : Nat) (hts : ts.length = 12) (ue : Bool) :
    (s.netSend n p).txWriteBack n d ts st ue = (s.txStored n d p ts st).txDone n ue := by
  have hlength := txFields_length st hts
  have hfl : ((s.netSend n p).byte (d + 5)).toNat = 1 := by
    rw [show (s.netSend n p).byte (d + 5) = s.byte (d + 5) from rfl, hflags]
    rfl
  have hback : (s.netSend n p).descBack n true d 12 (txFields ts st) (BitVec.ofNat 8 (((s.netSend n p).byte (d + 5)).toNat / 2 * 2)) =
      (s.txStored n d p ts st, false) := by
    rw [hfl]
    exact (hopen.after (s.netSend_frame n p)).descBack (List.ne_nil_of_length_pos (by omega)) (by omega)
  unfold txFields at hback
  unfold State.txWriteBack
  dsimp only
  rw [hback]
  exact if_neg Bool.false_ne_true

/-- NET_FRAME_TX: a plain frame of shared SRAM. -/
theorem netFrameTx_sends {n : Fin 2} {s : State} {a l : Nat} (hruns : TxRuns s n) (hready : TxReady s n a l) (hflags : s.byte (s.txDesc n + 5) = 1)
    (hopen : DescOpen s n (s.txDesc n) 12) :
    Answers (.netFrameTx n .none) s fun t =>
      t.net.out[n] = s.net.out[n] ++ [padFrame (s.bytes a l) ++ leBytes 4 (crc32 (padFrame (s.bytes a l)))] ∧ t.byte (s.txDesc n + 5) = 0 ∧
        t.num (s.txDesc n + 28) 2 % 16 = 1 ∧ t.rd (Reg.NET_HEAD_TX_HEAD n) = (s.rd (Reg.NET_HEAD_TX_HEAD n) + 1) % ringSize (s.rd (Reg.NET_TXRING_SIZE n)) ∧
      t.rd (Reg.NET_CNT_TX_LO n) = s.counted (Reg.NET_CNT_TX_LO n) ∧ t.fired (49 + 3 * n) := by
  rcases hstamps : s.stamps (s.rd (Reg.NET_TS_LAT_TX_LAT n)) with ⟨ts, stamp⟩
  have hts : ts.length = 12 := by
    have hlength := s.stamps_length (s.rd (Reg.NET_TS_LAT_TX_LAT n))
    rwa [hstamps] at hlength
  have hexec := exec_netFrameTx_sends hruns hready
  rw [State.txGo_plain hflags, hstamps, State.txStored_done hopen hflags _ _ hts] at hexec
  dsimp only at hexec
  have hsent := s.netSend_frame n (padFrame (s.bytes a l))
  have hframe := s.txStored_frame n (s.txDesc n) (padFrame (s.bytes a l)) ts (1 + 16 * stamp)
  refine ⟨_, hexec, ?_, ?_, ?_, ?_, ?_, State.txDone_fired ..⟩
  · calc _ = (s.netSend n (padFrame (s.bytes a l))).net.out[n] := congrArg (·[n]) ((State.txDone_out ..).trans (congrArg Net.out (State.txStored_net ..)))
      _ = _ := State.netSend_out ..
  · exact (State.txDone_byte ..).trans (State.txStored_hw ..)
  · have hstatus : (State.txDone (s.txStored n (s.txDesc n) (padFrame (s.bytes a l)) ts (1 + 16 * stamp)) n false).num (s.txDesc n + 28) 2 =
        (1 + 16 * stamp) % 2 ^ 16 :=
      (congrArg le (State.bytes_congr fun _ _ => State.txDone_byte ..)).trans (State.txStored_status s n _ _ _ hts)
    rw [hstatus]
    omega
  · rw [State.rd_txDone_head, hframe.rd_at (f := Reg.NET_HEAD_TX_HEAD) (by decide) n, hframe.rd_at (f := Reg.NET_TXRING_SIZE) (by decide) n,
      hsent.rd_at (f := Reg.NET_HEAD_TX_HEAD) (by decide) n, hsent.rd_at (f := Reg.NET_TXRING_SIZE) (by decide) n]
  · calc _ = _ := State.rd_txDone_count ..
      _ = _ := hframe.rd_at (by decide) n
      _ = _ := State.rd_netSend_count ..

end Sys2Proof.Machine
end

section
/-! SUPPORT. The statement of the network ports, clause by clause (spec/13_network_time.md R291 to R297). -/

namespace Sys2Proof.Machine

/-- Settles O55: each clause is the rule of its command; the premises of a frame that is stored or sent are put together as the checks it
passes, its descriptor and the write-back of that. -/
theorem netPortCommands : Obligations.NetPortCommands := by
  unfold Obligations.NetPortCommands
  refine ⟨?enable, ?fenced, ?disable, ?linkDown, ?linkMode, ?linkGiga, ?rxKick, ?txKick, ?rxOff, ?rxUnreached, ?rxOverflow, ?rxDamaged, ?txIdle,
    ?txStops, ?txEnds, ?txSends, ?rxStores, ?mdioGo, ?mdioRead, ?mdioIdle⟩
  case enable => exact fun _ _ _ _ haccepts hset hunfenced => netEnable_enables haccepts hset hunfenced
  case fenced => exact fun _ _ _ _ haccepts hset hfenced => netEnable_refused haccepts hset hfenced
  case disable => exact fun _ _ _ _ haccepts hclear => netEnable_disables haccepts hclear
  case linkDown =>
    intro n k fd s halive
    obtain ⟨t, ht, hlink, hspeed, -, hlost⟩ := netLinkChange_shows halive (s.reportedLink_down n k fd)
    exact ⟨t, ht, hlink, hspeed, fun hold => hlost hold rfl⟩
  case linkMode =>
    intro n k fd s halive hmode hdown
    obtain ⟨hspeed, hlink⟩ := State.reportedLink_mode hmode k fd
    obtain ⟨t, ht, hshown, hshows, hfired, -⟩ := netLinkChange_shows halive hlink
    exact ⟨t, ht, hshown, hshows.trans hspeed, hfired hdown⟩
  case linkGiga =>
    rintro n k fd s halive hmode rfl rfl
    obtain ⟨hspeed, hlink⟩ := State.reportedLink_giga hmode
    obtain ⟨t, ht, hshown, hshows, -⟩ := netLinkChange_shows halive hlink
    exact ⟨t, ht, hshown, hshows.trans hspeed⟩
  case rxKick => exact fun _ _ _ _ haccepts hset hclean => netRxKick_resumes haccepts hset hclean
  case txKick => exact fun _ _ _ _ haccepts hset hon hclean => netTxKick_runs haccepts hset hon hclean
  case rxOff => exact fun n fr tr e s hoff => ⟨s, exec_netFrameRx_unreached (by rw [hoff]; rfl), rfl⟩
  case rxUnreached => exact fun n fr tr e s hloop => ⟨s, exec_netFrameRx_unreached (by rw [hloop]; exact Bool.or_true _), rfl⟩
  case rxOverflow => exact fun _ _ _ _ hon hlink hreach => netFrameRx_overflows hon hlink hreach
  case rxDamaged => exact fun _ _ _ _ _ hon hlink hreach htr hdamaged => netFrameRx_drops hon hlink hreach htr hdamaged
  case txIdle => exact fun n u s hidle => ⟨s, exec_netFrameTx_idle (by rw [hidle]; simp), rfl⟩
  case txStops => exact fun _ _ _ hon hrun hgoing hunpaused hunread => netFrameTx_stops ⟨hon, hrun, hgoing, hunpaused⟩ hunread
  case txEnds =>
    exact fun _ _ _ hon hrun hgoing hunpaused hread htrouble hhw => netFrameTx_ends ⟨hon, hrun, hgoing, hunpaused⟩ hread htrouble hhw
  case txSends =>
    intro n a l s hon hrun hgoing hunpaused hflags hbuffer hsize hlong hshort hshared hreads hdesc hchip hfields hhwbyte
    have hopen : DescOpen s n (s.txDesc n) 12 := ⟨s.txDesc_aligned n, hdesc, hchip, hfields, hhwbyte⟩
    have hread := State.readable_of_chipWritable hopen.range hchip
    have hready : TxReady s n a l := ⟨hread, by rw [hflags]; rfl, by
      have hbit5 : (1 : Byte).toNat.testBit 5 = false := by decide
      rw [hflags, State.twinPaused, hbit5]
      simp, hbuffer, hsize, hlong, hshort, hshared, hreads⟩
    exact netFrameTx_sends ⟨hon, hrun, hgoing, hunpaused⟩ hready hflags hopen
  case rxStores =>
    intro n x f a s hon hlink hreach hwhole hdata hpause hvlan haddr hprp hplain hruns hhw hbuffer hroom hblock hshared howned hchip hprot hdesc
      hdescChip hfields hhwbyte hapart
    have hopen : DescOpen s n (s.rxDesc n) 8 := ⟨s.rxDesc_aligned n, hdesc, hdescChip, hfields, hhwbyte⟩
    have hread := State.readable_of_chipWritable hopen.range hdescChip
    exact netFrameRx_block ⟨hon, hlink, hreach, hwhole, hdata, hpause, hvlan, haddr, hprp, hplain⟩
      ⟨hruns, hread, hhw, hbuffer, hroom, hshared, howned⟩ hblock hchip hprot hopen hapart
  case mdioGo => exact fun _ _ _ haccepts hset => mdioAccess_goes haccepts hset
  case mdioRead => exact fun _ _ hgo hop => mdioDone_reads hgo hop
  case mdioIdle => exact fun _ _ hidle => mdioDone_of_idle hidle

end Sys2Proof.Machine
end

section
/-! SUPPORT. TIME: enable, LOAD and STEP of a domain, and the frame-time source (spec/13_network_time.md R305 to R309; spec/05 R146). -/

namespace Sys2Proof.Machine

theorem State.stored_time {a : Nat} (ha : a < 2 ^ 32) (s : State) (m : Master) (v : Word) : (s.stored m a v).time = s.time :=
  (State.stored_fr ha).zones .time (by decide)

theorem State.td_congr {s t : State} (h : t.time = s.time) (d : Fin 2) : t.td d = s.td d := congrArg (fun x : Time => x.dom[d]) h

/-! The registers of a domain (R306, R308). -/

/-- The address of TIME_Dd_CTRL. -/
abbrev timeCtrl (d : Fin 2) : Nat := 0x20130100 + d.val * 0x40

theorem timeCtrl_lt (d : Fin 2) : timeCtrl d < 2 ^ 32 := by
  unfold timeCtrl
  omega

theorem timeDomainEn_enables {d : Fin 2} {m : Master} {v : Word} {s : State} (haccepts : s.accepts m (timeCtrl d))
    (hset : v.toNat.testBit 0 = true) : Answers (.timeDomainEn d m v) s fun t => t.rd (Reg.TIME_D_CTRL_EN d) = 1 :=
  ⟨_, congrArg Host.Outcome.next ((State.busWrite_accepts haccepts).trans (if_pos hset)), State.rd_wr_self ..⟩

/-- A LOAD or STEP of a domain with none pending waits: its bit `f` shows it. -/
theorem State.rd_setAdj_self {s : State} {d : Fin 2} {f : Fld} (hnone : (s.td d).cmd = none) (hwidth : f.width = 1)
    (hapart : (stepPend d).key ≠ f.key) (a : Nat) (c : AdjCmd) : (s.setAdj d a f (some c)).rd f = 1 := by
  have hwritten : ∀ t : State, (t.wr f 1).rd f = 1 := fun t => (State.rd_wr_self t f 1).trans (congrArg (1 % 2 ^ ·) hwidth)
  unfold State.setAdj
  simp only [hnone]
  split
  · exact (State.rd_wr_ne _ hapart 1).trans (hwritten _)
  · exact hwritten _

theorem timeLoad_waits {d : Fin 2} {m : Master} {v : Word} {s : State} {c : AdjCmd} (haccepts : s.accepts m (timeCtrl d))
    (hset : v.toNat.testBit 1 = true) (hnone : (s.td d).cmd = none) (hload : (s.stored m (timeCtrl d) v).adjLoad d = some c) :
    Answers (.timeLoad d m v) s fun t => t.rd (Reg.TIME_D_CTRL_LOAD d) = 1 := by
  have hapart : ∀ d : Fin 2, (stepPend d).key ≠ (Reg.TIME_D_CTRL_LOAD d).key := by decide
  refine ⟨_, congrArg Host.Outcome.next ((State.busWrite_accepts haccepts).trans (if_pos hset)), ?_⟩
  rw [hload]
  exact State.rd_setAdj_self ((congrArg Domain.cmd (State.td_congr (State.stored_time (timeCtrl_lt d) ..) d)).trans hnone) rfl (hapart d) _ c

theorem timeStep_waits {d : Fin 2} {m : Master} {v : Word} {s : State} {c : AdjCmd} (haccepts : s.accepts m (timeCtrl d))
    (hset : v.toNat.testBit 2 = true) (hnone : (s.td d).cmd = none) (hstep : (s.stored m (timeCtrl d) v).adjStep d = some c) :
    Answers (.timeStep d m v) s fun t => t.rd (Reg.TIME_D_CTRL_STEP d) = 1 := by
  have hapart : ∀ d : Fin 2, (stepPend d).key ≠ (Reg.TIME_D_CTRL_STEP d).key := by decide
  refine ⟨_, congrArg Host.Outcome.next ((State.busWrite_accepts haccepts).trans (if_pos hset)), ?_⟩
  rw [hstep]
  exact State.rd_setAdj_self ((congrArg Domain.cmd (State.td_congr (State.stored_time (timeCtrl_lt d) ..) d)).trans hnone) rfl (hapart d) _ c

/-- What a step of a domain does to its cues leaves the domains. -/
theorem State.cuesStepped_dom (s : State) (d : Fin 2) (back : Bool) : (s.cuesStepped d back).time.dom = s.time.dom := by
  refine State.forFin_keeps (fun t : State => t.time.dom = s.time.dom) (fun k t ht => ?_) rfl
  dsimp only
  repeat' split
  all_goals exact ht

/-- A step of frame time is a matter of FT: TIME stays. -/
theorem State.timeStepped_time (s : State) (before : Int) : (s.timeStepped before State.ftStepped).time = s.time := by
  unfold State.timeStepped
  split
  · exact (State.ftStepped_fr.zones .time (by decide)).trans (State.raise_fr.zones .time (by decide))
  · rfl

/-- The adjustment `c` of domain `d`, that gives the time `x`, has taken effect. -/
def State.adjTaken (s : State) (d : Fin 2) (c : AdjCmd) (x : Nat) : State :=
  let t := ((s.setTd d { s.td d with cmd := none }).wr (if c.load then Reg.TIME_D_CTRL_LOAD d else Reg.TIME_D_CTRL_STEP d) 0).wr (stepPend d) 0
  ((t.setTd d { t.td d with t := x }).cuesStepped d (decide (x < (s.td d).t))).fire 61

theorem State.adjTaken_td (s : State) (d : Fin 2) (c : AdjCmd) (x : Nat) : (s.adjTaken d c x).td d = { s.td d with cmd := none, t := x } := by
  unfold State.adjTaken
  dsimp only
  rw [State.td_congr (State.fire_time ..), State.td, State.cuesStepped_dom]
  refine (State.td_setTd_self _ d _).trans ?_
  rw [State.td_congr (State.wr_time ..), State.td_congr (State.wr_time ..), State.td_setTd_self]

theorem exec_timeAdjustApply_pending {d : Fin 2} {s : State} {c : AdjCmd} {x : Nat} (hpending : (s.td d).cmd = some c)
    (hadjusted : (s.td d).adjusted c = some x) :
    exec (.timeAdjustApply d) s =
      .next (if (s.adjTaken d c x).ftSrc == d then (s.adjTaken d c x).timeStepped s.ftTick State.ftStepped else s.adjTaken d c x) := by
  refine congrArg Host.Outcome.next ?_
  unfold State.applyAdj
  simp only [hpending, hadjusted]
  rfl

theorem timeAdjustApply_adjusts {d : Fin 2} {s : State} {c : AdjCmd} {x : Nat} (hpending : (s.td d).cmd = some c)
    (hadjusted : (s.td d).adjusted c = some x) : Answers (.timeAdjustApply d) s fun t => (t.td d).cmd = none ∧ (t.td d).t = x := by
  refine ⟨_, exec_timeAdjustApply_pending hpending hadjusted, ?_⟩
  split
  · rw [State.td_congr (State.timeStepped_time ..), State.adjTaken_td]
    exact ⟨rfl, rfl⟩
  · rw [State.adjTaken_td]
    exact ⟨rfl, rfl⟩

theorem timeNsRead_shows (d : Fin 2) (s : State) :
    Answers (.timeNsRead d .ns) s fun t => t.rd (Reg.TIME_D_NS_N d) = (s.td d).n % 2 ^ (Reg.TIME_D_NS_N d).width := by
  refine ⟨_, rfl, ?_⟩
  dsimp only
  rw [State.rd_wr_apart (by decide), State.rd_wr_apart (by decide)]
  exact State.rd_wr_self ..

/-! The frame-time source (R309). -/

/-- The Δ register and SLEWING, and an event, change no other register. -/
theorem State.rd_showDelta_fire {s : State} {f : Fld} (hfree : Keys.any (eventKeys ++ [Keys.one Reg.TIME_FT_DELTA_DELTA,
    Keys.one Reg.TIME_STATUS_SLEWING]) f.key = false) (hk : f.key < 2 ^ 37) (n : Nat) : (s.showDelta.fire n).rd f = s.rd f := by
  have hshown : Fr (eventKeys ++ [Keys.one Reg.TIME_FT_DELTA_DELTA, Keys.one Reg.TIME_STATUS_SLEWING]) eventZones s (s.showDelta.fire n) :=
    Fr.step (State.fire_frame _ n) (by decide +kernel) rfl (Fr.step State.showDelta_fr (by decide +kernel) rfl (Fr.refl s))
  exact hshown.rd hfree hk

/-- FT_SOURCE_SWITCH with frame timing stopped: the write stores none of the fields that the switch goes by. -/
theorem ftSourceSwitch_switches {m : Master} {v : Word} {d : Fin 2} {s : State} (haccepts : s.accepts m 0x20130000)
    (hsel : d = Fin.ofNat 2 (bits v.toNat 0 1)) (hcounts : s.tdOn d = true) (hother : s.rd Reg.TIME_STATUS_FT_SRC = 1 - d.val)
    (hfree : s.on Reg.TIME_STATUS_SWITCH_PEND = false) (hstill : s.on Reg.FT_STATUS_RUN = false) :
    Answers (.ftSourceSwitch m v) s fun t => t.rd Reg.TIME_STATUS_FT_SRC = d := by
  have hfree' : (s.stored m 0x20130000 v).on Reg.TIME_STATUS_SWITCH_PEND = false :=
    (State.on_congr (State.stored_rd (by decide +kernel) (by decide) (by decide))).trans hfree
  have hstill' : (s.stored m 0x20130000 v).on Reg.FT_STATUS_RUN = false :=
    (State.on_congr (State.stored_rd (by decide +kernel) (by decide) (by decide))).trans hstill
  have hcounts' : (s.stored m 0x20130000 v).tdOn d = true :=
    (State.on_congr (State.rd_stored_at (fun _ : Fin 2 => 0x20130000) (by decide +kernel) s m d v)).trans hcounts
  have hother' : ((d : Fin 2) == (s.stored m 0x20130000 v).ftSrc) = false := by
    have hsrc : (s.stored m 0x20130000 v).rd Reg.TIME_STATUS_FT_SRC = 1 - d.val :=
      (State.stored_rd (by decide +kernel) (by decide) (by decide)).trans hother
    rw [State.ftSrc, hsrc]
    match d with
    | 0 => rfl
    | 1 => rfl
  subst hsel
  refine ⟨_, congrArg Host.Outcome.next ((State.busWrite_accepts haccepts).trans ((if_neg ?same).trans ((if_neg ?refused).trans
    (if_pos ?switches)))), (State.rd_showDelta_fire (by decide) (by decide) 60).trans ((State.rd_wr_self ..).trans (Nat.mod_eq_of_lt (Fin.isLt _)))⟩
  case same =>
    rw [hother', Bool.false_and]
    decide
  case refused =>
    rw [hcounts', hfree']
    decide
  case switches =>
    rw [hstill']
    rfl

/-- The pending switch of the frame-time source has been made. -/
def State.switched (s : State) : State :=
  let t := (s.wr Reg.TIME_STATUS_SWITCH_PEND 0).wr Reg.TIME_STATUS_FT_SRC (s.rd Reg.TIME_CTRL_FT_SEL)
  { t with time := { t.time with delta := 0 } }.showDelta.fire 60

theorem exec_switchPendApply_pending {s : State} (hpend : s.on Reg.TIME_STATUS_SWITCH_PEND = true)
    (hcounts : s.tdOn (Fin.ofNat 2 (s.rd Reg.TIME_CTRL_FT_SEL)) = true) :
    exec .switchPendApply s = .next (s.switched.timeStepped s.ftTick State.ftStepped) :=
  congrArg Host.Outcome.next ((if_neg (by rw [hpend, hcounts]; decide)).trans (if_pos hpend))

theorem State.rd_switched {s : State} {f : Fld} (hfree : Keys.any (eventKeys ++ [Keys.one Reg.TIME_FT_DELTA_DELTA,
    Keys.one Reg.TIME_STATUS_SLEWING]) f.key = false) (hk : f.key < 2 ^ 37) :
    s.switched.rd f = ((s.wr Reg.TIME_STATUS_SWITCH_PEND 0).wr Reg.TIME_STATUS_FT_SRC (s.rd Reg.TIME_CTRL_FT_SEL)).rd f :=
  State.rd_showDelta_fire hfree hk 60

theorem switchPendApply_switches {s : State} (hpend : s.on Reg.TIME_STATUS_SWITCH_PEND = true)
    (hcounts : s.tdOn (Fin.ofNat 2 (s.rd Reg.TIME_CTRL_FT_SEL)) = true) (hstill : s.on Reg.FT_STATUS_RUN = false) :
    Answers .switchPendApply s fun t =>
      t.rd Reg.TIME_STATUS_SWITCH_PEND = 0 ∧ t.rd Reg.TIME_STATUS_FT_SRC = s.rd Reg.TIME_CTRL_FT_SEL % 2 := by
  have hrun : s.switched.on Reg.FT_STATUS_RUN = false := by
    refine (State.on_congr ((State.rd_switched (by decide) (by decide)).trans ?_)).trans hstill
    rw [State.rd_wr_ne _ (by decide), State.rd_wr_ne _ (by decide)]
  refine ⟨s.switched, (exec_switchPendApply_pending hpend hcounts).trans (congrArg Host.Outcome.next (if_neg (by rw [hrun]; decide))), ?_, ?_⟩
  · rw [State.rd_switched (by decide) (by decide), State.rd_wr_ne _ (by decide)]
    exact State.rd_wr_self ..
  · rw [State.rd_switched (by decide) (by decide)]
    exact State.rd_wr_self ..

/-- Δ after 1 ns of the slew. -/
def slewed (d : Int) : Int := if d.natAbs ≤ nsUnit then 0 else if 0 < d then d - nsUnit else d + nsUnit

theorem slewed_of_gt {d : Int} (h : (nsUnit : Int) < d) : slewed d = d - nsUnit := by
  rw [slewed, if_neg (by omega), if_pos (by omega)]

/-- Δ is `d`, and the registers show it. -/
def State.setDelta (s : State) (d : Int) : State := { s with time := { s.time with delta := d } }.showDelta

theorem timeSlewStep_slews {s : State} (hslews : s.time.delta ≠ 0) : Answers .timeSlewStep s fun t => t.time.delta = slewed s.time.delta := by
  refine ⟨if slewed s.time.delta = 0 then (s.setDelta (slewed s.time.delta)).fire 60 else s.setDelta (slewed s.time.delta),
    congrArg Host.Outcome.next (if_neg hslews), ?_⟩
  split
  · rw [State.fire_time]
    rfl
  · rfl

/-! The next boundary of frame timing (R146). -/

theorem ftNextNsRead_shows (s : State) : Answers .ftNextNsRead s fun t => t.rd Reg.FT_NEXT_NS_NS = s.nextNs % giga :=
  ⟨_, rfl, (State.showNextSec_fr.rd (by decide) (by decide)).trans
    ((State.rd_wr_self ..).trans (Nat.mod_eq_of_lt (Nat.lt_trans (Nat.mod_lt _ (by decide : 0 < giga)) (by decide))))⟩

end Sys2Proof.Machine
end

section
/-! SUPPORT. The completion of the commands of the network ports and time (spec/13_network_time.md; spec/05 R146). -/

namespace Sys2Proof.Machine

/-- Settles O7: each clause is the rule of its command, its conditions put in the form of that rule. -/
theorem completionNetworkAndTime : Obligations.CompletionNetworkAndTime := by
  unfold Obligations.CompletionNetworkAndTime
  simp only [Bool.not_eq_true]
  intro s u m v n d
  refine ⟨?netEnable, ?linkChange, ?rxKick, ?txKick, ?frameRx, ?frameTx, ?mdioAccess, ?mdioDone, ?domainEn, ?load, ?step, ?adjustApply,
    ?sourceSwitch, ?switchPend, ?slew, ?nsRead, ?nextNsRead, ?captureEdge, ?capInfoRead, ?ppsEdge, ?cueFire, ?ppsFall, ?pulseEnd⟩
  case netEnable => exact fun haccepts hset hunfenced => netEnable_enables haccepts hset hunfenced
  case linkChange =>
    rintro k fd halive hmode rfl rfl
    obtain ⟨t, ht, hlink, -⟩ := netLinkChange_shows halive (State.reportedLink_giga hmode).2
    exact ⟨t, ht, hlink⟩
  case rxKick => exact fun haccepts hset hclean => netRxKick_resumes haccepts hset hclean
  case txKick => exact fun haccepts hset hon hclean => netTxKick_runs haccepts hset hon hclean
  case frameRx =>
    intro x f a hon hlink hreach hwhole hdata hpause hvlan haddr hprp hplain hruns hread hhw hbuffer hroom hshared howned hwrite
    exact ⟨_, netFrameRx_stores ⟨hon, hlink, hreach, hwhole, hdata, hpause, hvlan, haddr, hprp, hplain⟩
      ⟨hruns, hread, hhw, hbuffer, hroom, hshared, howned⟩ hwrite, rfl⟩
  case frameTx =>
    intro a l hon hrun hgoing hunpaused hread hhw htwin hbuffer hsize hlong hshort hshared hreads
    exact ⟨_, exec_netFrameTx_sends ⟨hon, hrun, hgoing, hunpaused⟩ ⟨hread, hhw, htwin, hbuffer, hsize, hlong, hshort, hshared, hreads⟩, rfl⟩
  case mdioAccess => exact fun haccepts hset => mdioAccess_goes haccepts hset
  case mdioDone =>
    intro x hgo hop
    obtain ⟨t, ht, hdone, -⟩ := mdioDone_reads (d := x) hgo hop
    exact ⟨t, ht, hdone⟩
  case domainEn => exact fun haccepts hset => timeDomainEn_enables haccepts hset
  case load => exact fun _ haccepts hset hnone hload => timeLoad_waits haccepts hset hnone hload
  case step => exact fun _ haccepts hset hnone hstep => timeStep_waits haccepts hset hnone hstep
  case adjustApply => exact fun _ _ hpending hadjusted => timeAdjustApply_adjusts hpending hadjusted
  case sourceSwitch =>
    exact fun haccepts hsel hcounts hother hfree hstill => ftSourceSwitch_switches haccepts hsel hcounts hother hfree hstill
  case switchPend => exact fun hpend hcounts hstill => switchPendApply_switches hpend hcounts hstill
  case slew =>
    intro hslews
    obtain ⟨t, ht, hdelta⟩ := timeSlewStep_slews (s := s) (by omega)
    exact ⟨t, ht, hdelta.trans (slewed_of_gt (by omega))⟩
  case nsRead => exact timeNsRead_shows d s
  case nextNsRead => exact ftNextNsRead_shows s
  case captureEdge =>
    intro k b hselected hroom
    obtain ⟨t, ht, hcap, -⟩ := timeCaptureEdge_captures hselected hroom
    exact ⟨t, ht, (congrArg List.length hcap).trans List.length_append⟩
  case capInfoRead => exact fun k => timeCapInfoRead_takes k s
  case ppsEdge => exact fun hon hcounts => ppsEdge_rises hon hcounts
  case cueFire =>
    intro k x hnext hdue hintime
    obtain ⟨t, ht, hfired, -⟩ := cueFire_fires hnext hdue hintime
    exact ⟨t, ht, hfired⟩
  case ppsFall => exact ppsFall_falls s
  case pulseEnd =>
    intro k hruns
    obtain ⟨t, ht, hlow, -⟩ := cuePulseEnd_ends hruns
    exact ⟨t, ht, hlow⟩

end Sys2Proof.Machine
end
